-- ==== Sys2Proof/Word.lean ====
section
/-! DEFINITION. The words of the module: register words and dwords are 32 bits wide and little-endian (R19). -/
namespace Sys2Proof

/-- A register word, a dword of a descriptor, a word of a Heper core (R19). -/
abbrev Word := BitVec 32

/-- One byte. -/
abbrev Byte := BitVec 8

end Sys2Proof
end

