-- ==== Sys2Proof/Config.lean ====
section
/-! DEFINITION. What a module's manufacture fixes (fuses and factory values), and the free values: constants without
a body, for every value that the spec leaves open. -/
namespace Sys2Proof

/-- A value that the spec leaves open. The argument is the counter `Block.free`, which the step that meets an
open value reads and advances, so every such value is independent of every other. -/
opaque Config.freeValue : Nat → BitVec 32

/-- VARIANT = 1 (SDM-6480-P), DBGFUSE = 1, BUILD = 1 in SYS_VARIANT (R50, R51). DESIGN CHOICE, log 3. -/
def Config.variantWord : Nat := 1 + 4 + 1 * 256

/-- SYS_DIESTEP[0] with every stepping 1, counted from 1 (R52). DESIGN CHOICE, log 3. -/
def Config.dieStep0 : Nat := 0x11111111

/-- SYS_DIESTEP[1] with stepping 1 (R52). DESIGN CHOICE, log 3. -/
def Config.dieStep1 : Nat := 1

/-- The serial number's two words (R53). DESIGN CHOICE, log 3. -/
def Config.serialWord (i : Nat) : Nat := if i = 0 then 1 else 0

/-- The factory MAC address, bits [31:0] (R359). DESIGN CHOICE, log 3. -/
def Config.macLow : Nat := 0

/-- The factory MAC address, bits [47:32] (R359). DESIGN CHOICE, log 3. -/
def Config.macHigh : Nat := 0

/-- KEY_RKID[r] (R562): 0 = not programmed for RK0, and 1 for the keys RK1–RK3 that are programmed at
manufacture (R545). DESIGN CHOICE, log 3. -/
def Config.rkId (r : Nat) : Nat := if r = 0 then 0 else 1

/-- Root key r, which nothing reads out (R540): an open value of the module. -/
opaque Config.rootKey : Nat → BitVec 256

/-- BOOT_ROMVER (R624). DESIGN CHOICE, log 3. -/
def Config.romVersion : Nat := 1

/-- The rollback floors of BOOT_FLOOR before any fuse is blown (R624). DESIGN CHOICE, log 3. -/
def Config.floorWord (_ : Nat) : Nat := 0

/-- KHM and KHU, the key hashes fused at manufacture (R598): open values of the module. -/
opaque Config.keyHashM : BitVec 384
opaque Config.keyHashU : BitVec 384

/-- Length and bytes of the identity certificate in the data region (R610): open values of the module. -/
opaque Config.certLen : Nat
opaque Config.certByte : Nat → BitVec 8

/-- ROMVER and ROMCRC of the metrology die's mask ROM (R657, R660): open values of the module. -/
opaque Config.gaugeRomVer : BitVec 16
opaque Config.gaugeRomCrc : BitVec 16

end Sys2Proof
end

