-- ==== Sys2Proof/Machine/Units.lean ====
section
/-! DEFINITION. The state that the spec gives the block beside its registers and memories, as plain data, one
structure per unit. A `Tab α` is a table of entries by number, sorted by number; an entry that is not listed
has the unit's initial value, which is what power-up or reset leaves. -/
namespace Sys2Proof.Machine

/-- A table of entries by number, in rising order; a number that is not listed has the unit's initial value. -/
abbrev Tab (α : Type) := List (Nat × α)

/-! ### Supplies, domains, time (chapters 2 and 14) -/

/-- The module's reset in progress (R10, R11). -/
inductive ResetKind where
  | none | soc | brownOut | powerOn
  deriving DecidableEq, Repr

/-- The stage of Still entry (R76, R77) or of the wake that follows it (R81). -/
inductive StillStage where
  | awake | entering | lastStep | still | waking
  deriving DecidableEq, Repr

/-- The wake detector of a field input, armed at step 1 of R76 (R288). -/
structure DiWake where
  /-- MODE as applied (R279, R281) -/
  mode   : Nat
  /-- INV as applied -/
  inv    : Bool
  /-- WKMODE -/
  differ : Bool
  /-- WKCNT; 0 acts as 1 -/
  count  : Nat
  /-- the comparator at step 1 -/
  high   : Bool
  /-- the level sampled at step 1 -/
  level  : Bool
  /-- bias in Still in 0.01 mA, sourced positive -/
  bias   : Int
  deriving DecidableEq, Repr

/-- Wake logic, supplies and counters of PD0, and the timebase (R60–R98, R214). -/
structure PwrSt where
  /-- the reset whose span of R11 runs -/
  inReset   : ResetKind := .powerOn
  /-- engines HC6–HC14 whose single-core reset is in progress (R11, R509) -/
  coreReset : List Nat := []
  /-- stage of Still entry and wake -/
  still     : StillStage := .awake
  /-- PWR_DOMCTL bits [12:3] as they stood at the accepted Still request (R77) -/
  savedDom  : Nat := 0
  /-- the wake detectors of DI0–DI15, by input (R288) -/
  diWake    : Tab (Option DiWake) := []
  /-- a wake recognised during step 4 of R76, held until Still is reached (R77) -/
  heldWake  : Bool := false
  /-- RTC tick at which the first recorded wake was recognised (R80) -/
  wakeTick  : Nat := 0
  /-- bands of VBAT_A–VBAT_C in the codes of PWR_STATE.BAND; 0 = Brown-out (R63) -/
  feedBand  : Tab Nat := []
  /-- feed n holds its outputs off: its band does, or its 10 ms of R64 are not over -/
  feedOff   : Tab Bool := []
  /-- the logic supply is below 6.0 V: brown-out (R63, R93) -/
  brown     : Bool := false
  /-- 48-bit real-time count (R97) -/
  rtc       : Nat := 0
  /-- phase of the real-time counter against the timebase tick, in units of 1/78,125 tick -/
  rtcPhase  : Nat := 0
  /-- staged lower bits of a counter load (R97) -/
  rtcStage  : Option Nat := none
  /-- upper bits of a load that takes effect at the next tick (R97) -/
  rtcLoad   : Option Nat := none
  /-- the present equality of count and alarm has been recognised -/
  alarmSeen : Bool := false
  /-- voltage of the logic supply in mV as last reported (R63, R65) -/
  logicMv  : Option Nat := none
  /-- 64-bit timebase count (R187, R214) -/
  tbase     : Nat := 0
  /-- the reference oscillator's count in the same ticks: it runs with PD1, the timebase with PD4 (R33, R34) -/
  osc       : Nat := 0
  /-- upper bits of the last capture of BST_TBASE[0] (R214) -/
  tbaseCap  : Nat := 0
  /-- temperature sources whose threshold is exceeded: EV11–EV15 by number (R87) -/
  tempHigh  : Tab Bool := []
  /-- HS0–HS7 conduct while the gauge window shows NOLINK or HOLDUP: EV244 has been raised for it (R649) -/
  gaugeOff  : Bool := false
  /-- failed internal links: SP0–SP3, VD0, VD1, AR as 0–6 (R29, R317) -/
  linkFail  : Tab Bool := []
  deriving DecidableEq, Repr

/-! ### Power channels: HS0–HS95 as 0–95, HB0–HB15 as 96–111 (chapters 3 and 4) -/

/-- What the fail-safe table gives a channel (R136, R172). -/
inductive FsOut where
  | off | on | hold | flash (k : Fin 4)
  deriving DecidableEq, Repr

/-- One HS channel or half-bridge as its die holds it (R112–R141, R158–R160). -/
structure PowerChan where
  /-- thermal latch set (R114) -/
  latch    : Bool := false
  /-- back-off running (R115) -/
  wait     : Bool := false
  /-- protective turn-offs since the retry counter was last loaded: k of R115 -/
  k        : Nat := 0
  /-- length in ms of the last back-off, min(BOFF × 2^(k−1), 4,000) (R115) -/
  boff     : Nat := 0
  /-- DUTY in effect at the output: a new DUTY takes effect at the period start (R106) -/
  duty     : Nat := 0
  /-- on-time in ticks that the output carries in this period, after R104 and R105 -/
  onTicks  : Nat := 0
  /-- off-time in ticks that goes with it (R104, R105) -/
  offTicks : Nat := 0
  /-- in a running period of a half-bridge, ticks for which its high side is on, the dead time taken off (R161, R162) -/
  highTicks : Nat := 0
  /-- the same of its low side -/
  lowTicks : Nat := 0
  /-- first tick of the turn-on within the period (R106) -/
  delay    : Nat := 0
  /-- flash pattern that the channel runs (R137, R138) -/
  flash    : Option (Fin 4) := none
  /-- present phase of that pattern -/
  flashOn  : Bool := false
  /-- output that the last application of the fail-safe table gave (R136) -/
  fsOut    : FsOut := .off
  /-- a lock was cleared under the weir: output off whatever target (R126) -/
  offUnder : Bool := false
  /-- clamp window: energy of the sixteen 62.5 ms buckets, newest first, in steps of 10 µJ (R118) -/
  bucket   : List Nat := []
  /-- clamp events in each bucket -/
  events   : List Nat := []
  /-- consecutive open-load detections (R123) -/
  olRun    : Nat := 0
  /-- method of the last open-load detection: 3 = none (R123) -/
  olMeth   : Nat := 3
  /-- consecutive short-to-battery detections (R123) -/
  sbRun    : Nat := 0
  /-- reverse-blocking MOSFET open (R111) -/
  rev      : Bool := false
  /-- the current is held at the linear limit (R113) -/
  limiting : Bool := false
  /-- timebase tick at which the output was last cut off (R120) -/
  cutAt    : Option Nat := none
  /-- switch that is on at the end of the present interval or in the DC state: 1 = high, 2 = low, 0 = none (R162) -/
  side     : Nat := 0
  deriving DecidableEq, Repr

/-- What a full bridge is doing (R163–R171). -/
inductive FbPhase where
  | idle          -- no function runs
  | run           -- plain drive, wiper RUN
  | single        -- SINGLE: until the input has left PARKLVL
  | back          -- SINGLE: until the input has returned to PARKLVL
  | park          -- STOP accepted, park position not reached
  | parkBrake     -- BRAKET running
  | move          -- window move
  | pinchBrake    -- 10 ms brake after a pinch
  | reverse       -- pinch reversal
  | pulse         -- lock pulse
  | gap           -- gap between lock pulses
  deriving DecidableEq, Repr

/-- One full bridge (R163–R171). DIR is HB_FBSTAT.DIR. -/
structure FullBridge where
  /-- what it does now -/
  phase   : FbPhase := .idle
  /-- duty of the function that runs, in DUTY steps (R163) -/
  duty    : Nat := 0
  /-- direction after the 2 ms brake of R163, as a DIR code -/
  next    : Option Nat := none
  /-- FWD or REV as last driven, while no brake of 2 ms has followed it; 0 = none (R163) -/
  lastDir : Nat := 0
  /-- target of a window move, two's complement of 16 bits -/
  target  : Nat := 0
  /-- ripples counted since the present run started (R167) -/
  ripples : Nat := 0
  /-- ripples still to go in a pinch reversal (R168) -/
  revLeft : Nat := 0
  /-- lock pulses still to come (R170) -/
  pulses  : Nat := 0
  /-- direction of the lock pulses (R170) -/
  lockDir : Nat := 1
  /-- current in mA and interval in µs of the last sixteen ripples, newest first (R168) -/
  last    : List (Nat × Nat) := []
  deriving DecidableEq, Repr

/-- The weir, all four instances (R129–R140). -/
structure WeirSt where
  /-- ARM set, first valid word not yet accepted, or a reclaim key pending: any SEQ is accepted (R130) -/
  anySeq  : Bool := true
  /-- reclaim key pending (R135) -/
  key     : Bool := false
  /-- WINDOW in force in ms, taken at the last valid word (R132) -/
  window  : Nat := 50
  /-- RECLAIM in force in ms, taken at entry to HOLD (R133) -/
  reclaim : Nat := 200
  /-- PERIOD and ON of patterns 0–3 as taken when the table was applied (R137) -/
  flash   : Tab (Nat × Nat) := []
  deriving DecidableEq, Repr

/-! ### Host queues (chapter 12) -/

/-- Where a descriptor comes from, and where its completion goes. -/
inductive Source where
  /-- host queue q of this module -/
  | queue (q : Fin 64)
  /-- another node of the chain, through the sluice (R382, R428) -/
  | node (n q : Fin 64)
  /-- the supervisor's firmware ring (R557), with the number of the fetch -/
  | fwRing (n : Nat)
  deriving DecidableEq, Repr

/-- A descriptor: its sixteen dwords (R394) and the payload that the module has read for it (R396). -/
structure Desc where
  /-- where it came from (R382) -/
  src     : Source
  /-- DW0–DW15 (R394) -/
  dws     : List Word
  /-- payload bytes read for it (R396) -/
  payload : List Byte
  deriving DecidableEq, Repr

/-- The source is the firmware ring. -/
def Source.isRing : Source → Bool
  | .fwRing _ => true
  | _ => false

/-- What the executing unit answers: STATUS, CW2, CW3 and the payload to write (R397–R401). -/
structure Compl where
  /-- STATUS code (R401) -/
  status : Nat
  /-- CW2 (R398) -/
  cw2    : Nat := 0
  /-- CW3 (R398) -/
  cw3    : Nat := 0
  /-- payload bytes to write to ADDR (R397) -/
  data   : List Byte := []
  /-- address of the payload written, where it is not ADDR (R563) -/
  addr   : Option Nat := none
  deriving DecidableEq, Repr

/-- How far a descriptor in flight has come. -/
inductive Stage where
  /-- read issued, not yet arrived -/
  | fetched
  /-- arrived and checked, waiting: behind an earlier descriptor (FENCE) or for its engine -/
  | arrived
  /-- with its executing unit or on its way over the chain -/
  | dispatched
  /-- applied with a SYNC tick outstanding, or waiting for an ACK -/
  | done (c : Compl)
  deriving DecidableEq, Repr

/-- A descriptor of a host queue between its fetch and its completion. -/
structure Flight where
  /-- its queue -/
  q     : Nat
  /-- the descriptor -/
  desc  : Desc
  /-- how far it has come -/
  stage : Stage
  /-- nodes whose outcome is outstanding (R400) -/
  wait  : List Nat := []
  /-- outcomes so far: node and STATUS (R400) -/
  parts : List (Nat × Nat) := []
  /-- payload that a remote node has written so far (R437) -/
  got   : List Byte := []
  /-- a function-level reset has discarded its completion (R412) -/
  drop  : Bool := false
  /-- engines that were reset while it was with them and none of its parts had gone to a die (R142) -/
  gone  : List Nat := []
  /-- its unit on this module has begun it (R403) -/
  begun : Bool := false
  /-- while it is being fetched: it is the last of its read request (R381, R392) -/
  tail  : Bool := false
  deriving DecidableEq, Repr

/-- What the configuration space of the PCIe endpoint says of it (R381). -/
structure PciConfig where
  /-- vendor ID -/
  vendor  : BitVec 16 := 0x0C51
  /-- device ID -/
  device  : BitVec 16 := 0x6480
  /-- class code -/
  cls     : BitVec 24 := 0x088000
  /-- size of BAR0, window W0 -/
  bar0    : Nat := 0x100000
  /-- size of BAR2, window W2 -/
  bar2    : Nat := 0x10000
  /-- highest generation -/
  gen     : Nat := 3
  /-- lanes -/
  lanes   : Nat := 2
  /-- maximum payload size -/
  payload : Nat := 256
  /-- maximum read request size -/
  request : Nat := 512
  /-- outstanding read requests -/
  reads   : Nat := 32
  /-- completion timeout in ms -/
  timeout : Nat := 10
  /-- MSI-X vectors -/
  vectors : Nat := 64
  /-- capabilities AER and FLR; ATS, PASID and PTM are not there -/
  aer     : Bool := true
  flr     : Bool := true
  deriving DecidableEq, Repr

/-- Doorbells, ring phases, coalescing, MSI-X and the mailbox (R384–R414). -/
structure HqSt where
  /-- the endpoint in configuration space (R381) -/
  pci      : PciConfig := {}
  /-- producer index of each queue last accepted (R385) -/
  prod     : Tab Nat := []
  /-- completion head of each queue last accepted (R385) -/
  chead    : Tab Nat := []
  /-- PHASE of the next completion of each queue; unlisted = 1 (R393) -/
  cphase   : Tab Bool := []
  /-- PHASE of the next event entry of each event queue; unlisted = 1 (R404) -/
  ephase   : Tab Bool := []
  /-- SEQ of each event queue (R405) -/
  eseq     : Tab Nat := []
  /-- the next entry of the event queue carries LOST (R406) -/
  elost    : Tab Bool := []
  /-- completions counted towards the next message (R407) -/
  coal     : Tab Nat := []
  /-- the TIME timer of the completion queue runs (R407) -/
  timer    : Tab Bool := []
  /-- MSI-X table dwords, four for each vector (R384) -/
  msix     : Tab Word := []
  /-- pending bit of each vector (R384, R407) -/
  msixPend : Tab Bool := []
  /-- MSI-X enable of configuration space (R384) -/
  msixOn   : Bool := true
  /-- descriptors in flight, oldest first -/
  flights  : List Flight := []
  /-- queue that the next round-robin turn looks at first (R392) -/
  turn     : Nat := 0
  /-- mailbox slots in use and their messages (R409) -/
  mbox     : Tab Desc := []
  deriving DecidableEq, Repr

/-- One occurrence of an event source (R304). -/
structure Occ where
  /-- event source 0–255 -/
  ev     : Nat
  /-- DETAIL of the occurrence -/
  detail : Word
  /-- a simulated occurrence, of CAT_FORCE or a stuck injection (R321) -/
  forced : Bool := false
  /-- raised by a crossing (R470) -/
  cross  : Bool := false
  deriving DecidableEq, Repr

/-- What a command leaves to be carried out at its own end: a reset that an occurrence has begun (R9, R315), or an
occurrence. -/
inductive Due where
  /-- single-core reset of HC c; 0 = the supervisor pair -/
  | core (c : Nat)
  | soc
  | occ (o : Occ)
  deriving DecidableEq, Repr

/-- The catchment beside its registers (R304–R323). -/
structure CatchSt where
  /-- log sequence number of the next entry (R318) -/
  seq   : Nat := 0
  /-- entries held by the log, 0–64 -/
  held  : Nat := 0
  /-- CHSAFE, DOMSAFE and WEIRSAFE actions deferred to the release of PD1 (R323) -/
  later : List Occ := []
  /-- resets begun and not yet carried out, occurrences not yet raised; every command leaves it empty -/
  due   : List Due := []
  deriving DecidableEq, Repr

/-! ### Commands on their way to a power die (R40, R156) -/

/-- What a command asks of one channel or bridge. -/
inductive DieAct where
  /-- HSn to a DUTY -/
  | hs (n duty : Nat)
  /-- HBn to an OUT and DUTY -/
  | hb (n out duty : Nat)
  /-- FBk to a direction and DUTY -/
  | fb (k dir duty : Nat)
  /-- WIPE with its action -/
  | wipe (k act duty : Nat)
  /-- WIN_MOVE to a target -/
  | win (k target duty : Nat)
  /-- LOCK_PULSE in a direction -/
  | lock (k dir : Nat)
  /-- a lamp channel to a TARGET in FADE ms -/
  | lamp (n target fade : Nat)
  /-- RGB group g, on its die, to three components in FADE ms -/
  | colour (g die c0 c1 c2 fade : Nat)
  /-- a frame for matrix port k -/
  | frame (k : Nat) (data : List Byte)
  /-- digital output m off or on -/
  | out (m : Nat) (on : Bool)
  /-- sensor supply k off or on -/
  | supply (k : Nat) (on : Bool)
  /-- a single shot of valve n by a profile, with its HOLD -/
  | shot (n prof hold : Nat)
  deriving DecidableEq, Repr

/-- A descriptor whose parts the dies have not all acknowledged. -/
structure DieCmd where
  /-- the descriptor that asks -/
  desc    : Desc
  /-- parts not yet acknowledged -/
  parts   : List DieAct
  /-- with SYNC = 1: parts acknowledged, to be applied together (R156) -/
  ready   : List DieAct := []
  /-- SYNC of the descriptor: its parts are applied together (R156) -/
  sync    : Bool
  /-- parts applied -/
  applied : Nat := 0
  /-- parts not applied -/
  missed  : Nat := 0
  /-- dies of the parts not applied, as a mask -/
  missDie : Nat := 0
  /-- parts not applied because their function is disabled -/
  disab   : Nat := 0
  /-- parts not applied because their link has failed -/
  linkBad : Nat := 0
  /-- parts not applied because a sequence runs -/
  busy    : Nat := 0
  /-- parts cancelled by a reset of the engine (R142) -/
  aborted : Nat := 0
  deriving DecidableEq, Repr

/-- Who makes a register access: a Heper core, or host software through W0 (R37, R317). -/
inductive Who where
  | core (c : Fin 15)
  | host
  deriving DecidableEq, Repr

/-! ### Heper cores (chapters 15 and 16) -/

/-- One Heper core: HC0 and HC1 together are core 0 (R474, R476–R512). The state code of R510 is HEP_STAT.STATE. -/
structure HepCore where
  /-- D0–D15 (R476) -/
  d      : Tab Word := []
  /-- A0–A14 (R476) -/
  a      : Tab Word := []
  /-- A15 at privileged level (R477) -/
  psp    : Word := 0
  /-- A15 at user level (R477) -/
  usp    : Word := 0
  /-- ACC0–ACC3, 72 bits (R476) -/
  acc    : Tab (BitVec 72) := []
  /-- first address of each loop (R498) -/
  ls     : Tab Word := []
  /-- address of the last instruction of each loop (R498) -/
  le     : Tab Word := []
  /-- loop counts (R498) -/
  lc     : Tab Word := []
  /-- hidden repeat counter and whether the unit in progress is a repetition (R501) -/
  rep    : Nat := 0
  /-- SR; reset: PRIV = 1, IPL = 16 (R479) -/
  sr     : Word := 0x41
  /-- VBAR (R478) -/
  vbar   : Word := 0
  /-- CAUSE (R478, R483) -/
  cause  : Word := 0
  /-- FAR (R478, R483) -/
  far    : Word := 0
  /-- IEN (R478) -/
  ien    : Word := 0
  /-- CSIGIN (R478) -/
  csigin : Word := 0
  /-- DIVCFG (R478) -/
  divcfg : Word := 0
  /-- upper half of the last TIMEL capture (R478) -/
  timeh  : Word := 0
  /-- TCMPL (R478) -/
  tcmpl  : Word := 0xFFFFFFFF
  /-- TCMPH (R478) -/
  tcmph  : Word := 0xFFFFFFFF
  /-- MPUCTL (R478, R481) -/
  mpuctl : Word := 0
  /-- MPUBASE of each region (R478) -/
  mpubase : Tab Word := []
  /-- MPULIM of each region (R478) -/
  mpulim  : Tab Word := []
  /-- UCADDR, the micro-operation index (R504) -/
  ucaddr : Nat := 0
  /-- UCDL, the staged lower word (R504) -/
  ucdl   : Word := 0
  /-- UCDH, the staged upper word (R504) -/
  ucdh   : Word := 0
  /-- the micro-operation store is locked (R504) -/
  cxlock : Bool := false
  /-- CX decode table (R504, R505) -/
  cxdef  : Tab Word := []
  /-- micro-operation store (R504, R507) -/
  ustore : Tab (BitVec 64) := []
  /-- PC, the address of the next instruction (R475, R476) -/
  pc     : Word := 0
  /-- pending sources as (line, source) (R489–R492) -/
  irq    : List (Nat × Nat) := []
  /-- line 15 request (R490) -/
  mbx    : Bool := false
  /-- a single-core reset is in progress until the first instruction at ENTRY (R509) -/
  young  : Bool := false
  deriving DecidableEq, Repr

/-! ### Valve drive (chapter 5) -/

/-- A shot in progress: its profile on the module, its hold time in ticks, its table, whether its boost phase runs
from VBAT_C, and whether no phase of it has ended yet (R187, R197, R198). -/
structure Shot where
  /-- its profile on the module (R187) -/
  prof  : Nat
  /-- its HOLD in 10 µs steps; 0 = the profile's THOLD (R191) -/
  hold  : Nat
  /-- its table; none for a VLV_SHOT (R191) -/
  table : Option Nat
  /-- its boost phase runs from VBAT_C (R197) -/
  bat   : Bool := false
  /-- no phase of it has ended yet (R198) -/
  first : Bool := true
  /-- tick on which it fell due (R195) -/
  due   : Nat
  deriving DecidableEq, Repr

/-- One valve channel beside its registers (R187–R206). -/
structure Valve where
  /-- the shot in progress -/
  shot    : Option Shot := none
  /-- timebase tick of its last shot's start (R194) -/
  last    : Option Nat := none
  /-- to be locked with this cause when the clamp in progress ends (R198, R201) -/
  lockAt  : Nat := 0
  /-- EN written 0 during a shot: DISABLED when the clamp in progress ends (R201) -/
  disAt   : Bool := false
  /-- coil temperature estimate T in °C, while the model runs (R199) -/
  temp    : Option Rat := none
  /-- level of the phase in progress as the profile gave it when the phase began, or FSHOLD in FAILSAFE, in mA (R203, R213) -/
  raw     : Nat := 0
  /-- time limit of the phase in progress in ticks, as the profile gave it when the phase began (R187, R213) -/
  limit   : Nat := 0
  /-- level in mA that acts: a hold level is derated (R187, R200) -/
  level   : Nat := 0
  /-- currents in mA at which chopping turns the low side on and off; 0 and 0 without chopping (R188) -/
  chop    : Nat × Nat := (0, 0)
  /-- the current falls into the phase by fast decay (R188) -/
  fast    : Bool := false
  /-- tick on which a disable, a band or a fail-safe cause ended a shot (R202) -/
  cutAt   : Option Nat := none
  /-- consecutive open-coil detections of the off-state check (R198) -/
  opens   : Nat := 0
  /-- clamp window: energy in each bucket, newest first, in steps of 10 µJ (R190) -/
  bucket  : List Nat := []
  /-- clamp events in each bucket -/
  events  : List Nat := []
  deriving DecidableEq, Repr

/-- One entry of a shot table: START, valve on the module, profile on the module, HOLD (R191). -/
structure ShotEntry where
  /-- START in ticks from the start of the pass (R191) -/
  start : Nat
  /-- valve on the module (R191) -/
  valve : Nat
  /-- profile on the module (R191) -/
  prof  : Nat
  /-- HOLD in 10 µs steps (R191) -/
  hold  : Nat
  deriving DecidableEq, Repr

/-- One shot table (R191–R193). Its state is VLV_TSTAT.TSTATE. -/
structure ShotTable where
  /-- PERIOD in ticks; 0 = one pass (R191) -/
  period  : Nat := 0
  /-- its entries in order (R191) -/
  entries : List ShotEntry := []
  /-- timebase tick at which the present pass started, or the first pass will start -/
  start   : Nat := 0
  /-- loaded and waiting to take the place of this running table (R193) -/
  inPlace : Option Nat := none
  deriving DecidableEq, Repr

/-- Valve drive: valves, tables, and per bank the valve that caused LSSTOP and whether a switch fault is present. -/
structure VlvSt where
  /-- the valves by number -/
  valve : Tab Valve := []
  /-- the shot tables by number -/
  table : Tab ShotTable := []
  /-- per bank, the valves whose low-side short locked it (R198) -/
  lsBy  : Tab (List Nat) := []
  /-- per bank, a switch fault is present -/
  fault : Tab Bool := []
  /-- per bank, the tick at which its switch last turned off (R198) -/
  offAt : Tab (Option Nat) := []
  /-- PLIM acts as at most 250 W: VBAT_C in the Reduced band, or a 12 V system (R184) -/
  low   : Bool := false
  deriving DecidableEq, Repr
/-! ### Lamp logic and LED matrices (chapter 6) -/

/-- One step of the blanking sequence before a line switch (R231). -/
inductive BlankStep where
  /-- all column sinks off -/
  | sinksOff
  /-- line i off with its discharge switch on, all columns driven to this voltage in mV -/
  | lineOff (i : Nat) (mv : Int)
  /-- discharge switch off, columns released -/
  | release
  /-- line i on, its slot begins -/
  | lineOn (i : Nat)
  deriving DecidableEq, Repr

/-- A fade of a lamp channel (one component) or of an RGB group (three components) (R222, R224). -/
structure Fade where
  /-- LEVEL at the fade's start, per component -/
  start   : List Nat
  /-- TARGET, per component -/
  target  : List Nat
  /-- FADE in ms -/
  total   : Nat
  /-- the ms that have passed -/
  passed  : Nat := 0
  /-- the first period start after the command has come -/
  started : Bool := false
  /-- frozen by weir HOLD (R226) -/
  frozen  : Bool := false
  deriving DecidableEq, Repr

/-- A matrix port beside its registers (R229–R235). -/
structure MtxPort where
  /-- front buffer: 512 intensity bytes; empty = zeros -/
  front   : List Byte := []
  /-- back buffer: 512 intensity bytes; empty = zeros -/
  back    : List Byte := []
  /-- the back buffer waits for the next frame start (R233) -/
  swap    : Bool := false
  /-- line that is on (R229) -/
  line    : Nat := 0
  /-- on-time in ticks of its 32 columns (R230) -/
  onTicks : List Nat := []
  /-- a whole frame has been scanned since the port began to scan (R234) -/
  scanned : Bool := false
  /-- map nibbles of the 512 LEDs (R244) -/
  leds    : List Nat := []
  /-- per LED, the last result and its consecutive frames -/
  runs    : List (Nat × Nat) := []
  deriving DecidableEq, Repr

/-- The lamp logic and the matrices: fades by channel, with group g as 96 + g; consecutive samples below and above
the window per channel (R228); ports. -/
structure LmpSt where
  /-- fades by channel, with group g as 96 + g (R222) -/
  fade : Tab (Option Fade) := []
  /-- consecutive samples below the window, per channel (R228) -/
  lows : Tab Nat := []
  /-- consecutive samples above the window, per channel (R228) -/
  highs : Tab Nat := []
  /-- the matrix ports -/
  port : Tab MtxPort := []
  deriving DecidableEq, Repr

/-! ### Pixel ports and the shoal (chapter 7) -/

/-- A render: what its frame start has fixed (R247, R251–R254, R261). -/
structure Render where
  /-- the active scene list -/
  now    : List Byte := []
  /-- the old scene list, during a cross-fade (R254) -/
  old    : Option (List Byte) := none
  /-- µs since the activation, during a cross-fade -/
  passed : Nat := 0
  /-- length of the cross-fade in µs -/
  xfade  : Nat := 0
  /-- LEVEL at the frame start (R253) -/
  level  : Nat := 0
  /-- with MODE = 1: the address of the stream buffer that holds the frame; none within: no frame has arrived (R261) -/
  stream : Option (Option Nat) := none
  deriving DecidableEq, Repr

/-- A pixel port beside its registers (R246–R275). -/
structure PxPort where
  /-- active scene list: 0 = A, 1 = B -/
  list    : Nat := 0
  /-- the other list waits for its activation, with this XFADE in ms (R254) -/
  loaded  : Option Nat := none
  /-- cross-fade running: µs since the activation, and its length in µs -/
  xfade   : Option (Nat × Nat) := none
  /-- entries of PX_PATCH that wait for the next frame start (R255) -/
  patch   : List (Nat × List Byte) := []
  /-- fade of LEVEL; its times are in µs (R253) -/
  fade    : Option Fade := none
  /-- the cross-fade is frozen by weir HOLD (R273) -/
  frozen  : Bool := false
  /-- the render in progress -/
  render  : Option Render := none
  /-- the back buffer holds a complete render that waits for the next frame start -/
  ready   : Bool := false
  /-- front buffer: 0 = A, 1 = B -/
  front   : Nat := 0
  /-- the pair of stream buffers that the port has, 0–3 (R259, R261) -/
  slot    : Option Nat := none
  /-- which buffer of the pair holds the latest complete PX_FRAME (R261) -/
  stream  : Option Nat := none
  /-- next PIXEL cycle of the frame (R264) -/
  cycle   : Nat := 0
  /-- commands that wait to be sent (R264) -/
  cmds    : List (List Byte) := []
  /-- sequence number of the next command (R264) -/
  cmdSeq  : Nat := 0
  /-- failed link-up attempts (R267) -/
  fails   : Nat := 0
  /-- the 100 ms after a failed attempt run (R267) -/
  pause   : Bool := false
  /-- INFO bytes so far -/
  info    : List Byte := []
  /-- CAL bytes so far -/
  cal     : List Byte := []
  /-- consecutive invalid back segments (R268) -/
  bad     : Nat := 0
  /-- link cycles since the last TEMP (R276) -/
  noTemp  : Nat := 250
  /-- forward CRC errors in the last STATUS since link-up (R265) -/
  errLast : Option Nat := none
  /-- dimmed by a zone (R270) -/
  dim     : Bool := false
  /-- blanked by a zone or by the weir (R270, R273) -/
  blank   : Bool := false
  /-- the fail-safe image shows (R273) -/
  showFs  : Bool := false
  /-- PX_FSIMG that waits for the lamp's ACK (R277) -/
  fsimg   : Option Desc := none
  deriving DecidableEq, Repr

/-- All pixel ports, and PX_ASSET writes held off by a render (R260). -/
structure PxSt where
  /-- the pixel ports -/
  port : Tab PxPort := []
  /-- PX_ASSET writes held off by a render (R260) -/
  held : List Desc := []
  deriving DecidableEq, Repr

/-! ### Field inputs and outputs (chapter 8) -/

/-- An input beside its registers: the configuration words applied at its last enable (R281), whether its next
sample is the first (R283) or falls into an open-wire check (R285), and consecutive open-wire readings. -/
structure DiIn where
  /-- configuration word applied at the last enable (R281) -/
  cfg   : Nat := 0
  /-- filter word applied at the last enable (R281) -/
  flt   : Nat := 0
  /-- the next sample is the first (R283) -/
  first : Bool := true
  /-- the next sample falls into an open-wire check (R285) -/
  skip  : Bool := false
  /-- consecutive open-wire readings (R285) -/
  opens : Nat := 0
  /-- the comparator sees the input above its threshold (R279) -/
  high  : Bool := false
  /-- bias in 0.01 mA, sourced positive: during the 100 µs before a sample, and at other times (R279, R280, R287) -/
  bias  : Int × Int := (0, 0)
  deriving DecidableEq, Repr

/-- An output beside its registers: what keeps it from its command (R290–R293). -/
structure DoOut where
  /-- in SAFE after its command timeout (R292) -/
  safe  : Bool := false
  /-- SAFELATCH holds until DIO_CLEAR with RESUME -/
  latch : Bool := false
  /-- output at the time of the timeout, for SAFE = 2 -/
  held  : Bool := false
  /-- its restart after an overload waits (R290) -/
  wait  : Bool := false
  /-- off by temperature (R290) -/
  therm : Bool := false
  deriving DecidableEq, Repr

/-- A sensor supply beside its registers (R294). -/
structure SvOut where
  /-- commanded off by SV_SET, or by the weir (R295, R302) -/
  off   : Bool := false
  /-- its restart after an overload waits (R294) -/
  retry : Bool := false
  /-- off by temperature (R294) -/
  therm : Bool := false
  deriving DecidableEq, Repr

/-- Field inputs and outputs; groups of eight inputs whose wetting is reduced (R287). -/
structure DioSt where
  /-- the inputs -/
  di  : Tab DiIn := []
  /-- the digital outputs -/
  out : Tab DoOut := []
  /-- the sensor supplies -/
  sv  : Tab SvOut := []
  /-- groups of eight inputs whose wetting is reduced (R287) -/
  hot : Tab Bool := []
  /-- groups whose junction was above 160 °C when it was last reported (R287) -/
  above : Tab Bool := []
  deriving DecidableEq, Repr


/-! ### Networks (chapter 10) and gateway (chapter 11) -/

/-- A frame: the ID and FLAGS [5:0] of R335, its data, and EXT. -/
structure NetFrame where
  /-- ID (R335) -/
  id    : Nat := 0
  /-- [0] IDE; [1] RTR; [2] FDF; [3] BRS; [4] ESI; [5] XLF -/
  flags : Nat := 0
  /-- its data bytes -/
  data  : List Byte := []
  /-- EXT (R335) -/
  ext   : Nat := 0
  deriving DecidableEq, Repr

/-- A frame that waits for its bus: of a CAN_TX by the number of its job and its index there, or of the gateway by
its route. -/
structure TxItem where
  /-- number of its CAN_TX job, or its route -/
  job   : Nat
  /-- its index in the job -/
  idx   : Nat
  /-- the frame -/
  frame : NetFrame
  /-- ECHO asked for -/
  echo  : Bool := false
  /-- timebase count at the end of the ingress frame (gateway frames) -/
  time  : Nat := 0
  /-- MAXAGE in ms (gateway frames) -/
  age   : Nat := 0
  /-- ETHDST and BUSID of its route (CH 28, R367) -/
  dest  : Nat := 0
  busid : Nat := 0
  deriving DecidableEq, Repr

/-- A CAN_TX whose frames have not all been acknowledged or abandoned (R333). -/
structure TxJob where
  /-- its number -/
  num   : Nat
  /-- the descriptor -/
  desc  : Desc
  /-- its frames go through the priority queue -/
  prio  : Bool
  /-- ECHO asked for -/
  echo  : Bool
  /-- number of frames -/
  total : Nat
  /-- frames acknowledged -/
  sent  : Nat := 0
  /-- lowest index abandoned -/
  fail  : Option Nat := none
  /-- frames that have not entered the queue -/
  rest  : List NetFrame := []
  /-- index of the first of those -/
  next  : Nat := 0
  deriving DecidableEq, Repr

/-- A posted receive buffer with what it holds (R336). -/
structure RxBuf where
  /-- the descriptor that posted it -/
  desc : Desc
  /-- records in it, as bytes -/
  data : List Byte := []
  /-- number of records in it -/
  recs : Nat := 0
  deriving DecidableEq, Repr

/-- An entry of a LIN schedule (R360). -/
structure LinSlot where
  /-- frame ID (R360) -/
  id  : Nat
  /-- slot time in ms (R360) -/
  ms  : Nat
  /-- direction: the commander sends (R360) -/
  dir : Bool
  /-- checksum kind (R360) -/
  cks : Bool
  /-- number of data bytes (R360) -/
  len : Nat
  deriving DecidableEq, Repr

/-- A LIN response entry (R360). -/
structure LinResp where
  /-- checksum kind (R360) -/
  cks  : Bool
  /-- its data bytes -/
  data : List Byte
  deriving DecidableEq, Repr

/-- One network channel beside its registers, by its number CH (R328). -/
structure NetCh where
  /-- configuration words in force since the enable (R331) -/
  cfg     : List Nat := []
  /-- state before SLEEPREQ (R346) -/
  prev    : Nat := 1
  /-- wake detector armed, commit outstanding (R348) -/
  armed   : Bool := false
  /-- AWAKEMAX has passed under enforce (R352) -/
  enforce : Bool := false
  /-- IDLET has passed (R347) -/
  idle    : Bool := false
  /-- the TC10 sleep is acknowledged (R347) -/
  ack     : Bool := false
  /-- last frame that restarted IDLET, as the KEEP record has it (R352) -/
  last    : Option Nat := none
  /-- FIFO queue, oldest first (R333) -/
  fifo    : List TxItem := []
  /-- priority queue, oldest first (R333) -/
  prio    : List TxItem := []
  /-- gateway queue, oldest first (R374) -/
  gw      : List TxItem := []
  /-- CAN_TX jobs whose frames are not all done (R333) -/
  jobs    : List TxJob := []
  /-- posted receive buffers (R336) -/
  bufs    : List RxBuf := []
  /-- records that wait for a buffer (R336) -/
  recs    : List (List Byte) := []
  /-- a record was lost since the last one written (R336) -/
  lost    : Bool := false
  /-- bus-off recovery runs (R332) -/
  recov   : Bool := false
  /-- LIN: schedule (R338) -/
  table   : List LinSlot := []
  /-- LIN: the schedule that follows it (R338) -/
  newTab  : Option (List LinSlot) := none
  /-- LIN: next entry of the schedule -/
  pos     : Nat := 0
  /-- LIN: entry whose response is awaited -/
  slot    : Option LinSlot := none
  /-- LIN: a response came in this cycle (R339) -/
  heard   : Bool := false
  /-- LIN: cycles without a response (R339) -/
  quiet   : Nat := 0
  /-- LIN: response entries by frame ID (R360) -/
  resp    : Tab LinResp := []
  /-- LIN: ID of the header in progress -/
  header  : Option Nat := none
  /-- Ethernet: a PLCA follower without beacons (R341) -/
  noBeacon : Bool := false
  /-- Ethernet: the port's egress queues, oldest first: queue 0–3 and frame (R341, R342) -/
  egress  : List (Nat × List Byte) := []
  deriving DecidableEq, Repr

/-- What PD0 keeps of a channel: WAKESRC, and its detector armed with the transceiver asleep (R351, R353). -/
structure NetKept where
  /-- WAKESRC (R351) -/
  src    : Nat := 0
  /-- mode of the armed detector (R351, R353) -/
  mode   : Nat := 0
  /-- its transceiver is asleep with the detector armed (R353) -/
  asleep : Bool := false
  /-- configuration words of the detector (R351) -/
  cfg    : List Nat := []
  /-- frame error counter of a WUF detector (R351) -/
  errs   : Nat := 0
  deriving DecidableEq, Repr

/-- A gateway frame that waits in HC13's exception queue (R368). -/
structure ExcItem where
  /-- LIN channel -/
  ch    : Nat
  /-- frame ID -/
  id    : Nat
  /-- the data bytes to write -/
  data  : List Byte
  /-- index of its route -/
  route : Nat
  /-- bytes of the pool that it takes (R373) -/
  size  : Nat
  /-- end of its ingress frame, and MAXAGE (R374) -/
  time  : Nat
  age   : Nat
  deriving DecidableEq, Repr

/-- Networks, switch and gateway beside their registers. -/
structure NetSt where
  /-- channels by CH -/
  ch    : Tab NetCh := []
  /-- what PD0 keeps of each channel -/
  kept  : Tab NetKept := []
  /-- learned addresses and their ports (R342) -/
  mac   : List (Nat × Nat) := []
  /-- number of the next CAN_TX job -/
  num   : Nat := 0
  /-- frames for LIN in HC13's exception queue, oldest first (R368) -/
  exc   : List ExcItem := []
  /-- lookups in the present 100 ms (R379) -/
  looks : Nat := 0
  /-- number of these 100 ms -/
  lookAt : Nat := 0
  /-- sequence_num per destination entry (R367) -/
  seq   : Tab Nat := []
  deriving DecidableEq, Repr

/-! ### Cipher engine and key store (chapter 17) -/

/-- Tag of a derived key (R545). -/
structure KeyTag where
  /-- ROOT (R545) -/
  root  : Nat
  /-- DOM (R545) -/
  dom   : Nat
  /-- L, the number of bits derived (R545) -/
  lbits : Nat
  /-- LABEL bytes (R545) -/
  label : List Nat
  deriving DecidableEq, Repr

/-- A cipher job with the context that it read and a fault inside its unit (R551, R560). -/
structure CiphJob where
  /-- the descriptor -/
  desc  : Desc
  /-- the context that it read (R551) -/
  ctx   : List Byte := []
  /-- a fault inside its unit has met it (R560) -/
  fault : Bool := false
  deriving DecidableEq, Repr

/-- Who waits for a derivation: a job, or a frame of a secured route, by the route's index, its words, the ingress
channel and the end of the frame. -/
inductive Waiter where
  | job (j : CiphJob)
  | frame (i : Nat) (ws : List Nat) (ch : Nat) (f : NetFrame) (time : Nat)
  deriving DecidableEq, Repr

/-- A hash context that the module has written (R551). -/
structure ShaCtx where
  /-- the bytes written to memory -/
  bytes : List Byte
  /-- SHA-384 or SHA-512, rather than SHA-256 -/
  big   : Bool
  /-- chaining value -/
  words : List Nat
  /-- bytes hashed so far -/
  total : Nat
  deriving DecidableEq, Repr

/-- Cipher units beside their registers. -/
structure CiphSt where
  /-- derived keys, most recently used first (R545) -/
  cache  : List KeyTag := []
  /-- derivations in progress, oldest first, and who waits for them (R546) -/
  deriv  : List (KeyTag × List Waiter) := []
  /-- jobs not admitted yet, oldest first (R549) -/
  queue  : List CiphJob := []
  /-- the last job admitted came from the firmware ring (R549) -/
  lastFw : Bool := false
  /-- self-tests of SHA-2, AES, key store and public-key unit by number: 1 = passed, 2 = failed (R555) -/
  test   : Tab Nat := []
  /-- contexts written, newest first -/
  ctxs   : List ShaCtx := []
  /-- generate requests since the last reseed (R553) -/
  gens   : Nat := 0
  /-- completion tail of the firmware ring (R557) -/
  fwTail : Nat := 0
  /-- PHASE of the next completion of the firmware ring (R557) -/
  fwPhase : Bool := true
  /-- descriptors of the firmware ring fetched and not completed, oldest first, each with its outcome where it has one
  (R403, R557) -/
  ring   : List (Nat × Option (Desc × Compl)) := []
  /-- number of the next fetch of the firmware ring -/
  fwNum  : Nat := 0
  /-- jobs of the gateway that wait to be admitted, oldest first (R549, R555) -/
  gwq    : List (KeyTag × Waiter) := []
  /-- faults that will meet the next job of a requester: 0 = an internal parity error, 1 = a signature check that fails
  (R552, R560) -/
  broken : List (Nat × Nat) := []
  /-- bytes through the AES pipeline in the 100 ms counted last (R561) -/
  fed    : Nat := 0
  /-- number of these 100 ms -/
  fedAt  : Nat := 0
  deriving DecidableEq, Repr

/-! ### Access and immobiliser (chapter 18) -/

/-- The access record as the serial flash holds it (R567): per slot TID, RELEN and GEN; failure times, lockout running
with its level, LEVEL, DCNT, OWNLOCK, RELCNT. -/
structure AcsRecord where
  /-- per slot TID with RELEN, and GEN -/
  slots   : List (Nat × Nat) := []
  /-- failure times -/
  fails   : List Nat := []
  /-- level of the lockout that runs -/
  lockLvl : Option Nat := none
  /-- LEVEL -/
  level   : Nat := 0
  /-- DCNT -/
  dcnt    : Nat := 0
  /-- OWNLOCK -/
  own     : Bool := false
  /-- RELCNT -/
  relcnt  : Nat := 0
  deriving DecidableEq, Repr

/-- One copy of a record in the flash: its sequence number and its content, under the CMAC that the boot logic makes
(R567, R600). -/
structure RecCopy (α : Type) where
  /-- sequence number -/
  seq  : Nat
  /-- content -/
  body : α
  deriving DecidableEq, Repr

/-- The newest of a record's copies. -/
def RecCopy.newest {α : Type} (l : List (RecCopy α)) : Option (RecCopy α) :=
  l.foldl (fun m x => match m with
    | none => some x
    | some y => if y.seq < x.seq then some x else some y) none

/-- The two copies rewritten with the next sequence number. -/
def RecCopy.rewrite {α : Type} (l : List (Nat × RecCopy α)) (v : α) : List (Nat × RecCopy α) :=
  let n := (RecCopy.newest (l.map Prod.snd)).elim 0 fun x => x.seq + 1
  [(0, { seq := n, body := v }), (1, { seq := n, body := v })]

/-- The newer valid copy: `bad` has a bit for each copy whose CMAC fails. -/
def RecCopy.valid {α : Type} (bad : Nat) (l : List (Nat × RecCopy α)) : Option α :=
  (RecCopy.newest ((l.filter fun e => bad / 2 ^ e.1 % 2 == 0).map Prod.snd)).map RecCopy.body

/-- The boot control record (R600, R616): masks by component, and the version of each staged copy. -/
structure BootRec where
  /-- ACTIVE -/
  active  : Nat := 0
  /-- TRIAL -/
  trial   : Nat := 0
  /-- STAGED -/
  staged  : Nat := 0
  /-- the trial boot has not begun -/
  pending : Bool := false
  /-- versions of the staged copies of C1–C7, 0 where none is staged -/
  vers    : List Nat := []
  deriving DecidableEq, Repr

/-- What an STS in a received frame shows: the key that formed it, and the quality of its first path in per cent where the
receiver correlates with that key (R570, R577). -/
structure StsSeen where
  /-- key of the token's STS -/
  key     : BitVec 128
  /-- quality in per cent -/
  quality : Nat
  deriving DecidableEq, Repr

/-- What the check of R592 measures: line or antenna k, and its current in µA. -/
structure LineSeen where
  /-- anchor or LF antenna -/
  k  : Fin 6
  /-- current in µA -/
  ua : Nat
  deriving DecidableEq, Repr

/-- ENGEN, with the protection of a digital output (R289, R290, R589). -/
structure Engen where
  /-- commanded on by the release -/
  on    : Bool := false
  /-- its restart after an overload waits -/
  wait  : Bool := false
  /-- off by temperature -/
  therm : Bool := false
  deriving DecidableEq, Repr

/-- An exchange in progress: slot, anchor, channel and Nv (R569, R570). -/
structure AcsExch where
  /-- slot of the token -/
  slot   : Nat
  /-- anchor that transmits -/
  anchor : Nat
  /-- UWB channel -/
  chan   : Nat
  /-- Nv (R570) -/
  nv     : List Nat
  /-- KSTS, with which the receiver correlates (R568, R575) -/
  sts    : List Nat := []
  deriving DecidableEq, Repr

/-- Access engine and polling sequencer beside their registers. -/
structure AcsSt where
  /-- real-time counts of the failures of the last 10 min, oldest first (R582); PD0 -/
  fails  : List Nat := []
  /-- level of the lockout that runs (R582); PD0 -/
  lockLvl : Nat := 0
  /-- real-time count at its end (R582); PD0 -/
  lockEnd : Nat := 0
  /-- log entries, oldest first (R594); PD0 -/
  log    : List (List Nat) := []
  /-- a hand-over of the record waits for the self-tests of PD10 (R555, R567) -/
  saveDue : Bool := false
  /-- ENGEN (R589); PD0 -/
  engen  : Engen := {}
  /-- lines whose bias has been switched off: bit k anchor k, bit 6 the UHF input (R592) -/
  unbias : Nat := 0
  /-- LF drive currents in µA measured at enable, by antenna (R592) -/
  lfRef  : Tab Nat := []
  /-- slots whose valid exchange is less than 60 s old, newest first (R585) -/
  auth   : List Nat := []
  /-- ACS_ENROL that waits for its token (R585) -/
  enrol  : Option Desc := none
  /-- code groups entered (R586) -/
  code   : List Nat := []
  /-- cycles so far: CYC of R570 is its low 16 bits -/
  cyc    : Nat := 0
  /-- slots that answered in this cycle, with the anchor that heard them strongest -/
  answers : List (Nat × Nat) := []
  /-- the exchange in progress -/
  cur    : Option AcsExch := none
  /-- profile that applied so far in this cycle: master (R580) -/
  best   : Option Bool := none
  /-- ACS_CFG, ACS_UWB and ACS_LF as copied at step 1 of Still entry, and the usable anchors (R573) -/
  still  : List Nat := []
  /-- bursts made in this Still (R573) -/
  bursts : Nat := 0
  deriving DecidableEq, Repr

/-! ### Boot, measurement and field update (chapter 19) -/

/-- One copy of a component in a flash bank: header and body, and it holds a complete image (R599, R612, R615). -/
structure FlashCopy where
  /-- header bytes (R599) -/
  header : List Byte := []
  /-- body bytes (R599) -/
  body   : List Byte := []
  /-- it holds a complete image (R612, R615) -/
  full   : Bool := false
  deriving DecidableEq, Repr

/-- Serial flash and fuses: what every reset keeps (R599, R600, R623). Bit c − 1 of a mask belongs to component c. -/
structure FlashSt where
  /-- copies by number 8 × bank + c -/
  copy    : Tab FlashCopy := []
  /-- components whose active copy is in bank B, as a mask (R599) -/
  active  : Nat := 0
  /-- components on trial, as a mask (R616) -/
  trial   : Nat := 0
  /-- the trial is pending: its trial boot has not begun (R616) -/
  pending : Bool := false
  /-- components staged by UPD_FINISH, as a mask (R615) -/
  staged  : Nat := 0
  /-- copies of the boot control record by bank (R600); the fields above are the record in force -/
  bcr     : List (Nat × RecCopy BootRec) := []
  /-- copies of the access record by bank (R567, R599) -/
  acr     : List (Nat × RecCopy AcsRecord) := []
  /-- floors of C1–C7 that UPD_COMMIT has raised (R617), by component -/
  floors  : Tab Nat := []
  deriving DecidableEq, Repr

/-- The open update session: its owner (none = the Mladet port) and component (R612). -/
structure UpdSess where
  /-- its owner; none = the Mladet port -/
  owner : Option Source
  /-- its component -/
  comp  : Nat
  deriving DecidableEq, Repr

/-- Boot and update logic beside its registers and the flash. -/
structure BootSt where
  /-- step 6 of R604 has been reached since the last cold boot began (R607); PD0 -/
  ran     : Bool := false
  /-- ENTRY of the booted supervisor image (R601); PD0 -/
  entry   : Nat := 0
  /-- WAKEENT of the booted supervisor image (R601); PD0 -/
  wakeEnt : Nat := 0
  /-- offset of its data window (R601); PD0 -/
  winOff  : Nat := 0
  /-- length of its data window (R601); PD0 -/
  winLen  : Nat := 0
  /-- reference digest of retained SRAM (R607); PD0 -/
  digest  : List Nat := []
  /-- headers of the booted copies by component (R607); PD0 -/
  heads   : Tab (List Byte) := []
  /-- banks booted, as a mask (R607); PD0 -/
  banks   : Nat := 0
  /-- MS0–MS7 (R607); PD0 -/
  slots   : List (List Nat) := []
  /-- attestation statement (R607); PD0 -/
  stmt    : List Nat := []
  /-- the key store refuses the IDK label (R610); PD0 -/
  idkLock : Bool := false
  /-- RECREQ (R620); PD0 -/
  recReq  : Bool := false
  /-- the next cold boot enters Recovery by BOOT_CTL (R620) -/
  recNext : Bool := false
  /-- the next cold boot comes from an activation reset (R616) -/
  actNext : Bool := false
  /-- the next cold boot comes from a retained SRAM that differed (R608) -/
  hashBad : Bool := false
  /-- the open update session (R612) -/
  sess    : Option UpdSess := none
  /-- a change of the boot control record waits to be written for the self-tests of PD10 (R555, R600) -/
  recDue  : Bool := false
  /-- step 8 of R604 waits for the self-tests of the key store and the public-key unit (R555) -/
  stmtDue : Bool := false
  /-- real-time count at the supervisor entry of the trial boot (R617) -/
  trialAt : Nat := 0
  /-- latest speed value over CAN (R614) -/
  speed   : Nat := 0xFFFF
  /-- the speed value is younger than 1 s (R614) -/
  spdOk   : Bool := false
  /-- the park value is younger than 1 s (R614) -/
  parkOk  : Bool := false
  /-- low battery (R614) -/
  batLow  : Bool := false
  /-- response that waits at the Mladet port: STATUS and data (R621) -/
  resp    : Option (Nat × List Byte) := none
  /-- the boot ROM hashes retained SRAM after a single-core reset of the supervisor pair (R608) -/
  hashing : Bool := false
  /-- the retained image did not match at a wake: a cold boot follows (R82) -/
  coldWake : Bool := false
  /-- oscillator count at the last start of the watchdog window (R508) -/
  swdAt   : Nat := 0
  deriving DecidableEq, Repr

/-! ### Redundant pair (chapter 20) -/

/-- What a snapshot holds of one mirrored function (R635). -/
inductive Mirror where
  /-- HSn: DUTY, STATE, HSW_STAT [15:7] -/
  | hs (n duty state bits : Nat)
  /-- lamp channel n, or RGB group n − 96: LEVEL and TARGET per component, REMAIN in ms, CURVE -/
  | lamp (n : Nat) (level target : List Nat) (remain curve : Nat)
  /-- HBn: OUT, DUTY, STATE -/
  | hb (n out duty state : Nat)
  /-- FBk: DIR, DUTY, function state as a code, POS -/
  | fb (k dir duty func pos : Nat)
  /-- valve table t: TSTATE, and the lead's timebase tick at which its pass started -/
  | tbl (t state start : Nat)
  /-- shot table t as it is loaded: PERIOD and entries -/
  | load (t period : Nat) (entries : List ShotEntry)
  /-- the three words of profile p as they are loaded -/
  | prof (p a c d : Nat)
  deriving DecidableEq, Repr

/-- What is sent when it is loaded and not with every snapshot (R635), as a key: the table or the profile. -/
def Mirror.loaded : Mirror → Option (Nat × Nat)
  | .load t _ _ => some (0, t)
  | .prof p _ _ _ => some (1, p)
  | _ => none

/-- A shadow after a frame: what is loaded anew replaces what was loaded before; a snapshot replaces the rest (R635). -/
def Mirror.take (l old : List Mirror) : List Mirror :=
  let load := l.filter fun m => m.loaded.isSome
  let snap := l.filter fun m => m.loaded.isNone
  (old.filter fun m => m.loaded.isSome && !load.any fun x => x.loaded == m.loaded) ++ load ++
    if snap.isEmpty && !load.isEmpty then old.filter fun m => m.loaded.isNone else snap

/-- The frame is a snapshot and not a load alone. -/
def Mirror.isSnap (l : List Mirror) : Bool := l.isEmpty || l.any fun m => m.loaded.isNone

/-- What a HELLO carries (R632). -/
structure Hello where
  /-- node ID of the sender -/
  node    : Fin 64
  /-- its PARTNER -/
  partner : Fin 64
  /-- its serial number -/
  serial  : BitVec 64
  /-- its role -/
  role    : Fin 6
  /-- its SYSV -/
  sysv    : Bool
  /-- its mirrored masks -/
  masks   : List Word
  deriving DecidableEq, Repr

/-- Pair logic beside its registers. -/
structure PairSt where
  /-- PAIR_CFG, PAIR_HSMASK[0]–[2], PAIR_MASK and PAIR_VMASK as taken when EN was written 1 (R645) -/
  cfg    : List Nat := []
  /-- shadow of the lead's mirrored functions (R635) -/
  shadow : List Mirror := []
  /-- timebase tick of the shadow's arrival (R635) -/
  snapAt : Nat := 0
  /-- a takeover waits for this module's weir to be reclaimed (R639) -/
  late   : Bool := false
  /-- this lead hands over, and drives its outputs until the follower leads (R641) -/
  yield  : Bool := false
  deriving DecidableEq, Repr

/-! ### Gauge metrology island (chapter 21) -/

/-- An entry of the gauge log: code, argument, SEQ, gauge time, value (R656). -/
structure GaugeEntry where
  /-- code -/
  code : Nat
  /-- argument -/
  arg  : Nat
  /-- SEQ -/
  seq  : Nat
  /-- gauge time in s -/
  gt   : Nat
  /-- value -/
  val  : Nat
  deriving DecidableEq, Repr

/-- What MD's non-volatile store holds: counters and log (R648, R656). -/
structure GaugeStore where
  /-- gauge time GT in s -/
  gt   : Nat := 0
  /-- hour counters GH0–GH7 -/
  gh   : List Nat := List.replicate 8 0
  /-- energy counters GM0–GM7 -/
  gm   : List Nat := List.replicate 8 0
  /-- SEQ of the last log entry -/
  seq  : Nat := 0
  /-- the log, oldest first -/
  log  : List GaugeEntry := []
  deriving DecidableEq, Repr

/-- A parameter set by its contents (R653): the eight conditions of R652, gain and offset per converter, PARVER, its CRC-32,
and whether the CRC-32 holds. -/
structure ParamSet where
  /-- the eight conditions of R652 -/
  conds  : List Word
  /-- gain and offset per converter -/
  cal    : List Word
  /-- PARVER -/
  parver : Byte
  /-- its CRC-32 -/
  crc    : Word
  /-- the CRC-32 holds -/
  valid  : Bool
  deriving DecidableEq, Repr

/-- The metrology die (R647–R657). No reset kind of R9 reaches it. -/
structure GaugeSt where
  /-- 0 = stopped, 1 = RUN, 2 = HOLDUP, 3 = PARAMERR (R648, R655, R660) -/
  state  : Nat := 0
  /-- GSUP is at or above 7.0 V -/
  gsup   : Bool := false
  /-- counters and log as they run -/
  live   : GaugeStore := {}
  /-- what the non-volatile store holds -/
  store  : GaugeStore := {}
  /-- tenths of the second in progress of the gauge time -/
  tenth  : Nat := 0
  /-- remainders of GH0–GH7 in 100 ms -/
  ghRem  : List Nat := List.replicate 8 0
  /-- remainders of GM0–GM7 in µW × 100 µs -/
  gmRem  : List Nat := List.replicate 8 0
  /-- parameter sets written, oldest first (R653) -/
  sets   : List ParamSet := []
  /-- a set has failed since the last power-up (R653) -/
  badSet : Bool := false
  /-- active set, taken at an evaluation -/
  active : Option Nat := none
  /-- the seal fuse is blown (R654) -/
  sealed : Bool := false
  /-- filtered inputs, as a mask -/
  gin    : Nat := 0
  /-- conditions that hold, as a mask (R652) -/
  count  : Nat := 0
  /-- currents in mA -/
  curr   : List Int := List.replicate 8 0
  /-- voltages in steps of 2 mV -/
  vout   : List Int := List.replicate 8 0
  /-- time of overload in 100 µs -/
  ovl    : List Nat := List.replicate 8 0
  /-- time of reversed current in 100 µs -/
  rev    : List Nat := List.replicate 8 0
  /-- snapshots sent -/
  snaps  : Nat := 0
  /-- the snapshot under way to the SOC -/
  sent   : Option (List (Nat × Nat)) := none
  deriving DecidableEq, Repr

/-! ### Chain and sluice (chapter 13) -/

/-- A chain frame (R425, R426). -/
structure Frame where
  /-- TYPE (R425) -/
  typ    : Nat
  /-- destination node ID -/
  dst    : Nat
  /-- source node ID -/
  src    : Nat
  /-- TID -/
  tid    : Nat := 0
  /-- LEN -/
  len    : Nat := 0
  /-- STAT -/
  stat   : Nat := 0
  /-- register offset -/
  offset : Nat := 0
  /-- LAST: the last frame of a fragmented message -/
  last   : Bool := false
  /-- payload dwords -/
  data   : List Word := []
  deriving DecidableEq, Repr

/-- One virtual channel of a chain port towards its neighbour (R427, R428). -/
structure ChnVc where
  /-- frame buffers that the neighbour's receiver has free -/
  credits : Nat := 8
  /-- frames that wait for a buffer, oldest first -/
  queue   : List Frame := []
  /-- frames sent and not yet acknowledged, oldest first -/
  held    : List Frame := []
  deriving DecidableEq, Repr

/-- One operation of a locked sequence (R440). -/
structure LockOp where
  /-- operation kind -/
  kind   : Nat
  /-- LOCAL: it is on the initiating head's own space -/
  loc    : Bool
  /-- USEPREV: the value is the previous result -/
  prev   : Bool
  /-- register offset -/
  offset : Nat
  /-- mask -/
  mask   : Nat
  /-- value -/
  value  : Nat
  deriving DecidableEq, Repr

/-- What a request on the chain stands for. -/
inductive ReqKind where
  | w0Write | w0Read
  /-- a posted write, which only a failure answers (R434) -/
  | posted
  /-- a descriptor that waits for this node's own space (R440, R453) -/
  | own (d : Desc)
  /-- CHN_RD and CHN_WR -/
  | rd (d : Desc)
  | wr (d : Desc)
  /-- CHN_LOCKSEQ with its far operations -/
  | lock (d : Desc) (ops : List LockOp)
  deriving DecidableEq, Repr

/-- A request that this head has sent and that has no answer yet; a prefetch names the first dword and the number that the
access itself asked for (R433, R434, R436). -/
structure ChnReq where
  /-- its TID -/
  tid    : Nat
  /-- node that it goes to -/
  node   : Nat
  /-- what it stands for -/
  kind   : ReqKind
  /-- first register offset -/
  offset : Nat
  /-- number of dwords -/
  count  : Nat
  /-- dwords of a write -/
  data   : List Word := []
  /-- a prefetch: first dword and number that the access itself asked for (R436) -/
  ask    : Option (Nat × Nat) := none
  deriving DecidableEq, Repr

/-- The contents of a CPL frame (R425, R426): the answer to a read or a write; the failure of a posted write; the answer to a
LOCK with the operations executed, their results and whether a compare stopped the list; the outcome of a descriptor. -/
inductive CplMsg where
  | access (tid : BitVec 10) (stat : Fin 7) (data : List Word) (fails : Nat)
  | posted (tid : BitVec 10) (node : Fin 64) (offset : BitVec 20) (stat : Fin 7) (fails : Nat)
  | lock (tid : BitVec 10) (stat : Fin 7) (vals : List Word) (stop : Bool)
  | desc (q node : Fin 64) (dws : List Word) (status : Fin 12) (cw2 cw3 : Word)
  deriving DecidableEq, Repr

/-- A W0 access that waits in the sluice (R433). -/
structure W0Acc where
  /-- node that it goes to -/
  node   : Nat
  /-- register offset in bytes -/
  offset : Nat
  /-- width of one element in bytes: 4, or the width of a narrow access (R22) -/
  size   : Nat := 4
  /-- the dwords of a write; none for a read of `count` dwords -/
  data   : Option (List Word)
  /-- number of dwords of a read -/
  count  : Nat
  deriving DecidableEq, Repr

/-- A prefetch buffer (R436). -/
structure Prefetch where
  /-- node that it was read from -/
  node  : Nat
  /-- register offset of its first dword -/
  base  : Nat
  /-- the dwords held -/
  words : List Word
  deriving DecidableEq, Repr

/-- Chain and sluice beside their registers. -/
structure ChnSt where
  /-- node IDs of the last topology frame in CHA order, from the head (R422) -/
  order   : List Nat := []
  /-- where that line is open: after so many of these nodes; none for a closed ring (R422, R429) -/
  gap     : Option Nat := none
  /-- nodes that have become unreachable and are not back -/
  lost    : List Nat := []
  /-- the standby head as the last topology frame showed it -/
  standby : Option Nat := none
  /-- the last standby head that this primary head has known (R423) -/
  heir    : Option Nat := none
  /-- the enumeration token has gone out of CHB (R419) -/
  second  : Bool := false
  /-- TID of the next request -/
  tid     : Nat := 0
  /-- requests without an answer: each holds the room for it (R428) -/
  reqs    : List ChnReq := []
  /-- timebase counts of each port's resends in the last 1 ms (R427) -/
  resends : Tab (List Nat) := []
  /-- requests that wait for room for their answers (R428) -/
  asks    : List ChnReq := []
  /-- what each port keeps of each VC, by 2 × port + VC (R427, R428) -/
  links   : Tab ChnVc := []
  /-- W0 accesses that wait (R433) -/
  waiting : List W0Acc := []
  /-- prefetch buffers, most recently used first -/
  bufs    : List Prefetch := []
  /-- posted writes that are taken to have been executed, newest first (R434, log 211) -/
  late    : List ChnReq := []
  /-- forwarded descriptors of which frames are still to come: node, queue, dwords, payload so far (R437) -/
  partly  : List (Fin 64 × Fin 64 × List Word × List Byte) := []
  /-- forwarded descriptors at this node without an outcome (R437) -/
  remote  : List Desc := []
  /-- those of them that their units have begun (R403) -/
  begun   : List Desc := []
  /-- a granted LOCK that has not run yet: node, TID, operations (R440, R442) -/
  grant   : Option (Nat × Nat × List LockOp) := none
  /-- register writes of this module's cores that wait for the space: requester, offset, size, dwords (R440) -/
  stalled : List (Who × Nat × Nat × List Word) := []
  /-- reports of the other nodes' ports, by 2 × node + port (R426) -/
  ports   : Tab Nat := []
  deriving DecidableEq, Repr

/-! ### What the block sends out -/

/-- One item that the block sends to the outside. -/
inductive Out where
  /-- a posted write to host memory -/
  | hostWrite (addr : Nat) (data : List Byte)
  /-- a read request to host memory (R392) -/
  | hostRead (addr len : Nat)
  /-- an MSI-X message: vector, address, data (R407) -/
  | msix (vec addr : Nat) (data : Word)
  /-- a forward segment of pixel port n: H0, H1–H2, payload, CRC-16 (R263, R264) -/
  | pixel (n h0 h12 : Nat) (data : List Byte) (crc : Nat)
  /-- a frame that network channel ch puts on its bus -/
  | net (ch : Nat) (f : NetFrame)
  /-- the header of a LIN frame -/
  | linHeader (ch id : Nat)
  /-- a TC10 message of port p (R329): 0 = sleep request, 1 = acknowledge, 2 = reject -/
  | tc10 (p kind : Nat)
  /-- a LIN or T1 wake signal (R347) -/
  | netWake (ch : Nat)
  /-- an Ethernet frame that leaves port p -/
  | eth (p : Nat) (data : List Byte)
  /-- a UWB message of anchor k on a channel, with its PAN identifier (R570) -/
  | uwb (anchor chan pan : Nat) (payload : List Byte)
  /-- an LF frame after its WAKEID from the antennas of a mask (R571) -/
  | lf (mask wakeId : Nat) (payload : List Byte)
  /-- the carrier burst of 1.0 ms of one LF antenna after LCHAL (R571) -/
  | lfBurst (antenna : Nat)
  /-- the UHF receiver listens: UHFBAND, 0 = 433.92 MHz, 1 = 868.30 MHz (R571) -/
  | uhf (band : Nat)
  /-- a chain frame out of a port, with its CRC-32 (R425) -/
  | frame (port : Nat) (f : Frame) (crc : Nat)
  /-- the blanking sequence of matrix port k: ticks from the end of the active part, and the step (R231) -/
  | mtxBlank (k : Nat) (steps : List (Nat × BlankStep))
  /-- the low side of half-bridge n, on during the off-state check of its partner (R164) -/
  | lowSide (n : Nat)
  /-- dwords returned to a W0 read (R435, R436) -/
  | w0Data (words : List Word)
  /-- a HELLO, a heartbeat (role, WEIR_STAT.STATE), a snapshot, a BYE on the pair link (R632–R642) -/
  | pairHello (h : Hello)
  | pairBeat (role weir : Nat)
  | pairSnap (l : List Mirror)
  /-- a shot table or profile that is loaded into a mirrored table (R635) -/
  | pairLoad (l : List Mirror)
  | pairBye
  /-- the answer that the Mladet port has given to GET (R621) -/
  | mladet (status : Nat) (data : List Byte)
  /-- a response at the gauge readout port (R657) -/
  | gauge (status : Nat) (data : List Byte)
  deriving DecidableEq, Repr

end Sys2Proof.Machine
end

