-- ==== Sys2Proof/Machine/Block.lean ====
section
/-! DEFINITION. The block: everything that the spec gives the machine, as plain data. -/
namespace Sys2Proof.Machine

/-- Everything that the spec gives the block. -/
structure Block where
  /-- registers of the set-up register space by offset; an unlisted register holds its reset word -/
  regs    : Tab Nat := []
  /-- bytes of the Heper map by address, core-local SRAM in its global view; an unlisted byte reads 0 (R42, R709) -/
  mem     : List Host.Cell := []
  /-- words stored with inverted check bits: word address and MASK (R322) -/
  badEcc  : Tab Nat := []
  /-- supplies, Still, counters -/
  pw      : PwrSt := {}
  /-- HS0–HS95 as 0–95, HB0–HB15 as 96–111 -/
  chan    : Tab PowerChan := []
  /-- FB0–FB7 -/
  fb      : Tab FullBridge := []
  /-- commands on their way to the power dies, oldest first -/
  dieq    : List DieCmd := []
  /-- valve drive -/
  vlv     : VlvSt := {}
  lmp     : LmpSt := {}
  px      : PxSt := {}
  dio     : DioSt := {}
  net     : NetSt := {}
  ciph    : CiphSt := {}
  acs     : AcsSt := {}
  flash   : FlashSt := {}
  boot    : BootSt := {}
  pair    : PairSt := {}
  gauge   : GaugeSt := {}
  chn     : ChnSt := {}
  weir    : WeirSt := {}
  hq      : HqSt := {}
  catchm  : CatchSt := {}
  /-- Heper cores by number; HC0 stands for the supervisor pair -/
  core    : Tab HepCore := []
  /-- what the block has sent out, oldest first (the model's own record of its outputs) -/
  out     : List Out := []
  /-- number of open values taken so far (the model's own counter, log 2) -/
  free    : Nat := 0
  deriving DecidableEq, Repr

end Sys2Proof.Machine
end

