-- ==== Sys2Proof/Machine/Registers.lean ====
section
/-! DEFINITION. The registers of the set-up register space (R20, R45): one `Reg` per register or register
array with its place, reset word and fields, written from the register tables of the chapters, and one
`RegField` per field. A place is base + (n / per) * outer + (n % per) * stride for index n.
The access types are those of R21. A pair in a field is the range of a field whose rule says that a value
outside its range is stored as the nearer limit (R137, R151, R161, R210, R213, R230, R240, R246, R292, R508). -/
namespace Sys2Proof.Machine

/-- The access types of R21. -/
inductive Acc where
  | rw | ro | w1c | wo | rl
  deriving DecidableEq, Repr

/-- One field of a register: its bits, its access type and, where its rule gives one, its stored range. -/
structure Fld where
  hi  : Nat
  lo  : Nat
  acc : Acc
  lim : Option (Nat × Nat)
  deriving DecidableEq, Repr

/-- A register or an array of registers: place, reset word by index, fields. Bits in no field are reserved (R22). -/
structure Reg where
  base   : Nat
  stride : Nat
  count  : Nat
  per    : Nat
  outer  : Nat
  rst    : Nat → Nat
  flds   : List Fld

/-- A named field of a register. -/
structure RegField where
  reg : Reg
  hi  : Nat
  lo  : Nat

/-- The class code of HSn in HSW_CFG.CLASS (R99, R145): 2 = L, 1 = M, 0 = S. -/
def hswClassCode (n : Nat) : Nat := if n < 8 then 2 else if n < 32 then 1 else 0

/-- CLASS and ACT of each event source after module power-on reset and brown-out (R317), as CATCH_SRC bits. -/
def catchSrcReset (e : Nat) : Nat :=
  let u := 1
  let f := 2
  if e = 3 ∨ e = 5 ∨ e = 6 then 0x06 * 256
  else if e < 188 then 0x07 * 256 + u
  else if e < 196 then 0x04 * 256
  else if e < 248 then 0x07 * 256 + u
  else if e = 248 then 0x81 * 256 + f
  else if e = 249 then 0x47 * 256 + u
  else if e = 250 then 0x01 * 256
  else if e = 251 then 0x07 * 256 + u
  else if e = 252 then 0x03 * 256 + u
  else if e = 253 then 0x07 * 256 + u
  else if e = 254 then 0x07 * 256 + u
  else if e = 255 then 0x81 * 256 + f
  else 0

/-- The reset curve of R252: P[j] = round(4,095 × j ÷ 32); pair i holds P[2i] and P[2i + 1] (R276). -/
def oledCurveReset (i : Nat) : Nat :=
  let p (j : Nat) : Nat := (4095 * j * 2 + 32) / 64
  p (2 * i) + (if i < 16 then p (2 * i + 1) * 65536 else 0)

/-- SYS_ID, R49. -/
def R.SYS_ID : Reg := ⟨0x0, 4, 1, 1, 0x0, fun _ => 0x64800c51,
  [⟨15, 0, .ro, none⟩, ⟨31, 16, .ro, none⟩]⟩

/-- SYS_VARIANT, R50. -/
def R.SYS_VARIANT : Reg := ⟨0x4, 4, 1, 1, 0x0, fun _ => Config.variantWord,
  [⟨1, 0, .ro, none⟩, ⟨2, 2, .ro, none⟩, ⟨3, 3, .ro, none⟩, ⟨15, 8, .ro, none⟩]⟩

/-- SYS_DIESTEP0, R52. -/
def R.SYS_DIESTEP0 : Reg := ⟨0x8, 4, 1, 1, 0x0, fun _ => Config.dieStep0,
  [⟨3, 0, .ro, none⟩, ⟨7, 4, .ro, none⟩, ⟨11, 8, .ro, none⟩, ⟨15, 12, .ro, none⟩, ⟨19, 16, .ro, none⟩, ⟨23, 20, .ro, none⟩, ⟨27, 24, .ro, none⟩, ⟨31, 28, .ro, none⟩]⟩

/-- SYS_DIESTEP1, R52. -/
def R.SYS_DIESTEP1 : Reg := ⟨0xc, 4, 1, 1, 0x0, fun _ => Config.dieStep1,
  [⟨3, 0, .ro, none⟩]⟩

/-- SYS_SERIAL, R53. -/
def R.SYS_SERIAL : Reg := ⟨0x10, 4, 2, 2, 0x0, fun n => Config.serialWord n,
  [⟨31, 0, .ro, none⟩]⟩

/-- SYS_NODE, R54. -/
def R.SYS_NODE : Reg := ⟨0x18, 4, 1, 1, 0x0, fun _ => 0,
  [⟨5, 0, .ro, none⟩, ⟨8, 8, .ro, none⟩, ⟨9, 9, .ro, none⟩, ⟨31, 31, .ro, none⟩]⟩

/-- SYS_LOCK, R55. -/
def R.SYS_LOCK : Reg := ⟨0x20, 4, 1, 1, 0x0, fun _ => 0,
  [⟨15, 0, .wo, none⟩]⟩

/-- SYS_LOCKSTAT, R56. -/
def R.SYS_LOCKSTAT : Reg := ⟨0x24, 4, 1, 1, 0x0, fun _ => 0,
  [⟨0, 0, .ro, none⟩, ⟨1, 1, .ro, none⟩, ⟨2, 2, .w1c, none⟩, ⟨3, 3, .w1c, none⟩, ⟨31, 16, .ro, none⟩]⟩

/-- PWR_STATE, R89. -/
def R.PWR_STATE : Reg := ⟨0x1000, 4, 1, 1, 0x0, fun _ => 0x2,
  [⟨2, 0, .ro, none⟩, ⟨3, 3, .ro, none⟩, ⟨6, 4, .ro, none⟩, ⟨17, 16, .ro, none⟩, ⟨22, 20, .ro, none⟩]⟩

/-- PWR_CFG, R90. -/
def R.PWR_CFG : Reg := ⟨0x1004, 4, 1, 1, 0x0, fun _ => 0,
  [⟨0, 0, .rl, none⟩]⟩

/-- PWR_DOMCTL, R91. -/
def R.PWR_DOMCTL : Reg := ⟨0x1008, 4, 1, 1, 0x0, fun _ => 0x7,
  [⟨2, 0, .ro, none⟩, ⟨12, 3, .rw, none⟩]⟩

/-- PWR_DOMSTAT, R91. -/
def R.PWR_DOMSTAT : Reg := ⟨0x100c, 4, 1, 1, 0x0, fun _ => 0x1,
  [⟨13, 0, .ro, none⟩, ⟨16, 16, .w1c, none⟩, ⟨17, 17, .w1c, none⟩]⟩

/-- PWR_STILL, R92. -/
def R.PWR_STILL : Reg := ⟨0x1010, 4, 1, 1, 0x0, fun _ => 0,
  [⟨15, 0, .wo, none⟩]⟩

/-- PWR_RSTCAUSE, R93. -/
def R.PWR_RSTCAUSE : Reg := ⟨0x1014, 4, 1, 1, 0x0, fun _ => 0x1,
  [⟨0, 0, .w1c, none⟩, ⟨1, 1, .w1c, none⟩, ⟨2, 2, .w1c, none⟩, ⟨3, 3, .w1c, none⟩, ⟨4, 4, .w1c, none⟩, ⟨5, 5, .w1c, none⟩, ⟨6, 6, .w1c, none⟩, ⟨7, 7, .w1c, none⟩]⟩

/-- PWR_WAKEEN0, R94. -/
def R.PWR_WAKEEN0 : Reg := ⟨0x1018, 4, 1, 1, 0x0, fun _ => 0x10000000,
  [⟨27, 0, .rw, none⟩, ⟨31, 29, .rw, none⟩, ⟨28, 28, .ro, none⟩]⟩

/-- PWR_WAKEEN1, R94. -/
def R.PWR_WAKEEN1 : Reg := ⟨0x101c, 4, 1, 1, 0x0, fun _ => 0,
  [⟨12, 0, .rw, none⟩]⟩

/-- PWR_WAKESRC0, R94. -/
def R.PWR_WAKESRC0 : Reg := ⟨0x1020, 4, 1, 1, 0x0, fun _ => 0,
  [⟨31, 0, .w1c, none⟩]⟩

/-- PWR_WAKESRC1, R94. -/
def R.PWR_WAKESRC1 : Reg := ⟨0x1024, 4, 1, 1, 0x0, fun _ => 0,
  [⟨12, 0, .w1c, none⟩]⟩

/-- PWR_WAKEFIRST, R95. -/
def R.PWR_WAKEFIRST : Reg := ⟨0x1028, 4, 1, 1, 0x0, fun _ => 0,
  [⟨5, 0, .ro, none⟩, ⟨31, 31, .w1c, none⟩]⟩

/-- PWR_WAKETIME, R95. -/
def R.PWR_WAKETIME : Reg := ⟨0x102c, 4, 1, 1, 0x0, fun _ => 0,
  [⟨31, 0, .ro, none⟩]⟩

/-- PWR_FEED, R96. -/
def R.PWR_FEED : Reg := ⟨0x1030, 4, 3, 3, 0x0, fun _ => 0,
  [⟨15, 0, .ro, none⟩, ⟨31, 16, .ro, none⟩]⟩

/-- PWR_FEEDSTAT, R96. -/
def R.PWR_FEEDSTAT : Reg := ⟨0x103c, 4, 1, 1, 0x0, fun _ => 0,
  [⟨2, 0, .w1c, none⟩, ⟨6, 4, .w1c, none⟩, ⟨10, 8, .w1c, none⟩, ⟨14, 12, .w1c, none⟩, ⟨16, 16, .w1c, none⟩]⟩

/-- PWR_RTC0, R97. -/
def R.PWR_RTC0 : Reg := ⟨0x1040, 4, 1, 1, 0x0, fun _ => 0,
  [⟨31, 0, .rw, none⟩]⟩

/-- PWR_RTC1, R97. -/
def R.PWR_RTC1 : Reg := ⟨0x1044, 4, 1, 1, 0x0, fun _ => 0,
  [⟨15, 0, .rw, none⟩, ⟨31, 31, .ro, none⟩]⟩

/-- PWR_RTCALM0, R97. -/
def R.PWR_RTCALM0 : Reg := ⟨0x1048, 4, 1, 1, 0x0, fun _ => 0,
  [⟨31, 0, .rw, none⟩]⟩

/-- PWR_RTCALM1, R97. -/
def R.PWR_RTCALM1 : Reg := ⟨0x104c, 4, 1, 1, 0x0, fun _ => 0,
  [⟨15, 0, .rw, none⟩]⟩

/-- PWR_TEMP, R98. -/
def R.PWR_TEMP : Reg := ⟨0x1060, 4, 9, 9, 0x0, fun _ => 0,
  [⟨15, 0, .ro, none⟩, ⟨31, 31, .ro, none⟩]⟩

/-- CATCH_CTL, R325. -/
def R.CATCH_CTL : Reg := ⟨0x2000, 4, 1, 1, 0x0, fun _ => 0x2,
  [⟨0, 0, .rl, none⟩, ⟨1, 1, .rw, none⟩, ⟨2, 2, .rl, none⟩]⟩

/-- CATCH_STAT, R325. -/
def R.CATCH_STAT : Reg := ⟨0x2004, 4, 1, 1, 0x0, fun _ => 0,
  [⟨7, 0, .ro, none⟩, ⟨8, 8, .ro, none⟩, ⟨31, 31, .w1c, none⟩]⟩

/-- CATCH_COUNT, R325. -/
def R.CATCH_COUNT : Reg := ⟨0x2008, 4, 1, 1, 0x0, fun _ => 0,
  [⟨7, 0, .ro, none⟩, ⟨15, 8, .ro, none⟩, ⟨23, 16, .ro, none⟩, ⟨31, 31, .wo, none⟩]⟩

/-- CATCH_LOGPTR, R325. -/
def R.CATCH_LOGPTR : Reg := ⟨0x200c, 4, 1, 1, 0x0, fun _ => 0,
  [⟨5, 0, .ro, none⟩, ⟨6, 6, .ro, none⟩, ⟨15, 8, .ro, none⟩, ⟨31, 31, .wo, none⟩]⟩

/-- CATCH_INJ, R325. -/
def R.CATCH_INJ : Reg := ⟨0x2010, 4, 1, 1, 0x0, fun _ => 0,
  [⟨2, 0, .rw, none⟩, ⟨9, 3, .rw, none⟩, ⟨16, 16, .rw, none⟩, ⟨17, 17, .w1c, none⟩]⟩

/-- CATCH_INJADDR, R325. -/
def R.CATCH_INJADDR : Reg := ⟨0x2014, 4, 1, 1, 0x0, fun _ => 0,
  [⟨31, 2, .rw, none⟩]⟩

/-- CATCH_STICKY, R326. -/
def R.CATCH_STICKY : Reg := ⟨0x2020, 4, 8, 8, 0x0, fun _ => 0,
  [⟨31, 0, .w1c, none⟩]⟩

/-- CATCH_FORCE, R326. -/
def R.CATCH_FORCE : Reg := ⟨0x2040, 4, 8, 8, 0x0, fun _ => 0,
  [⟨31, 0, .wo, none⟩]⟩

/-- CATCH_SRC, R326. -/
def R.CATCH_SRC : Reg := ⟨0x2400, 4, 256, 256, 0x0, catchSrcReset,
  [⟨1, 0, .rl, none⟩, ⟨15, 8, .rl, none⟩, ⟨18, 16, .rl, none⟩]⟩

/-- CATCH_LOG, R326. -/
def R.CATCH_LOG : Reg := ⟨0x2800, 4, 256, 256, 0x0, fun _ => 0,
  [⟨31, 0, .ro, none⟩]⟩

/-- WEIR_CFG, R151. -/
def R.WEIR_CFG : Reg := ⟨0x3000, 4, 1, 1, 0x0, fun _ => 0xc80320,
  [⟨0, 0, .rl, none⟩, ⟨12, 4, .rl, some (2, 500)⟩, ⟨27, 16, .rl, some (20, 2000)⟩]⟩

/-- WEIR_HB, R151. -/
def R.WEIR_HB : Reg := ⟨0x3004, 4, 1, 1, 0x0, fun _ => 0,
  [⟨15, 0, .wo, none⟩, ⟨23, 16, .wo, none⟩]⟩

/-- WEIR_RECLAIM, R151. -/
def R.WEIR_RECLAIM : Reg := ⟨0x3008, 4, 1, 1, 0x0, fun _ => 0,
  [⟨15, 0, .wo, none⟩]⟩

/-- WEIR_STAT, R152. -/
def R.WEIR_STAT : Reg := ⟨0x300c, 4, 1, 1, 0x0, fun _ => 0,
  [⟨1, 0, .ro, none⟩, ⟨4, 4, .w1c, none⟩, ⟨5, 5, .w1c, none⟩, ⟨6, 6, .w1c, none⟩, ⟨7, 7, .w1c, none⟩, ⟨15, 8, .ro, none⟩, ⟨31, 16, .ro, none⟩]⟩

/-- WEIR_COUNT, R152. -/
def R.WEIR_COUNT : Reg := ⟨0x3010, 4, 1, 1, 0x0, fun _ => 0,
  [⟨15, 0, .ro, none⟩, ⟨31, 16, .ro, none⟩]⟩

/-- WEIR_FLASH, R153. -/
def R.WEIR_FLASH : Reg := ⟨0x3020, 4, 4, 4, 0x0, fun _ => 0,
  [⟨15, 0, .rl, some (0, 10000)⟩, ⟨31, 16, .rl, none⟩]⟩

/-- WEIR_FSTAB, R153. -/
def R.WEIR_FSTAB : Reg := ⟨0x3040, 4, 14, 14, 0x0, fun _ => 0,
  [⟨31, 0, .rl, none⟩]⟩

/-- HSW_CFG, R145. -/
def R.HSW_CFG : Reg := ⟨0x10000, 256, 96, 12, 0x1000, fun n => 0xe1469a0 + hswClassCode n * 2,
  [⟨0, 0, .rw, none⟩, ⟨2, 1, .ro, none⟩, ⟨3, 3, .rl, none⟩, ⟨4, 4, .rl, none⟩, ⟨6, 5, .rl, none⟩, ⟨7, 7, .rl, none⟩, ⟨8, 8, .rl, none⟩, ⟨12, 9, .rl, none⟩, ⟨16, 13, .rl, none⟩, ⟨24, 17, .rl, none⟩, ⟨25, 25, .rl, none⟩, ⟨29, 26, .rl, none⟩, ⟨30, 30, .rl, none⟩]⟩

/-- HSW_PWM, R146. -/
def R.HSW_PWM : Reg := ⟨0x10004, 256, 96, 12, 0x1000, fun _ => 0x7d00,
  [⟨23, 0, .rl, none⟩]⟩

/-- HSW_PHASE, R146. -/
def R.HSW_PHASE : Reg := ⟨0x10008, 256, 96, 12, 0x1000, fun _ => 0,
  [⟨23, 0, .rl, none⟩]⟩

/-- HSW_OLTH, R146. -/
def R.HSW_OLTH : Reg := ⟨0x1000c, 256, 96, 12, 0x1000, fun n => if n < 32 then 50 else 80,
  [⟨15, 0, .rl, none⟩]⟩

/-- HSW_CMD, R147. -/
def R.HSW_CMD : Reg := ⟨0x10010, 256, 96, 12, 0x1000, fun _ => 0,
  [⟨16, 0, .ro, none⟩]⟩

/-- HSW_STAT, R148. -/
def R.HSW_STAT : Reg := ⟨0x10014, 256, 96, 12, 0x1000, fun _ => 0xf0000,
  [⟨3, 0, .ro, none⟩, ⟨5, 4, .ro, none⟩, ⟨7, 7, .w1c, none⟩, ⟨8, 8, .w1c, none⟩, ⟨9, 9, .w1c, none⟩, ⟨10, 10, .w1c, none⟩, ⟨11, 11, .w1c, none⟩, ⟨12, 12, .w1c, none⟩, ⟨13, 13, .w1c, none⟩, ⟨14, 14, .w1c, none⟩, ⟨15, 15, .w1c, none⟩, ⟨17, 16, .ro, none⟩, ⟨21, 18, .ro, none⟩, ⟨22, 22, .w1c, none⟩]⟩

/-- HSW_MEAS, R149. -/
def R.HSW_MEAS : Reg := ⟨0x10018, 256, 96, 12, 0x1000, fun _ => 0,
  [⟨15, 0, .ro, none⟩, ⟨31, 16, .ro, none⟩]⟩

/-- HSW_TJ, R149. -/
def R.HSW_TJ : Reg := ⟨0x1001c, 256, 96, 12, 0x1000, fun _ => 0,
  [⟨15, 0, .ro, none⟩, ⟨31, 31, .ro, none⟩]⟩

/-- HSW_CLAMP, R149. -/
def R.HSW_CLAMP : Reg := ⟨0x10020, 256, 96, 12, 0x1000, fun _ => 0,
  [⟨23, 0, .ro, none⟩]⟩

/-- HSW_LASTCLAMP, R149. -/
def R.HSW_LASTCLAMP : Reg := ⟨0x10024, 256, 96, 12, 0x1000, fun _ => 0,
  [⟨23, 0, .ro, none⟩, ⟨31, 24, .ro, none⟩]⟩

/-- HB_CFG, R176. -/
def R.HB_CFG : Reg := ⟨0x18000, 64, 16, 16, 0x0, fun _ => 0x3851a68,
  [⟨0, 0, .rw, none⟩, ⟨1, 1, .rl, none⟩, ⟨2, 2, .rl, none⟩, ⟨4, 3, .rl, none⟩, ⟨5, 5, .rl, none⟩, ⟨6, 6, .rl, none⟩, ⟨10, 7, .rl, none⟩, ⟨14, 11, .rl, none⟩, ⟨22, 15, .rl, none⟩, ⟨23, 23, .rl, none⟩, ⟨27, 24, .rl, none⟩, ⟨28, 28, .rl, none⟩]⟩

/-- HB_PWM, R177. -/
def R.HB_PWM : Reg := ⟨0x18004, 64, 16, 16, 0x0, fun _ => 0x1f40,
  [⟨23, 0, .rl, some (6400, 1600000)⟩]⟩

/-- HB_CMD, R177. -/
def R.HB_CMD : Reg := ⟨0x18008, 64, 16, 16, 0x0, fun _ => 0,
  [⟨16, 0, .ro, none⟩, ⟨18, 17, .ro, none⟩]⟩

/-- HB_STAT, R178. -/
def R.HB_STAT : Reg := ⟨0x1800c, 64, 16, 16, 0x0, fun _ => 0xf0000,
  [⟨3, 0, .ro, none⟩, ⟨5, 4, .ro, none⟩, ⟨7, 7, .w1c, none⟩, ⟨8, 8, .w1c, none⟩, ⟨9, 9, .w1c, none⟩, ⟨10, 10, .w1c, none⟩, ⟨11, 11, .w1c, none⟩, ⟨12, 12, .w1c, none⟩, ⟨13, 13, .w1c, none⟩, ⟨15, 15, .w1c, none⟩, ⟨17, 16, .ro, none⟩, ⟨21, 18, .ro, none⟩, ⟨22, 22, .w1c, none⟩, ⟨23, 23, .ro, none⟩]⟩

/-- HB_MEAS, R179. -/
def R.HB_MEAS : Reg := ⟨0x18010, 64, 16, 16, 0x0, fun _ => 0,
  [⟨15, 0, .ro, none⟩, ⟨31, 16, .ro, none⟩]⟩

/-- HB_TJ, R179. -/
def R.HB_TJ : Reg := ⟨0x18014, 64, 16, 16, 0x0, fun _ => 0,
  [⟨15, 0, .ro, none⟩, ⟨31, 31, .ro, none⟩]⟩

/-- HB_CLAMP, R179. -/
def R.HB_CLAMP : Reg := ⟨0x18018, 64, 16, 16, 0x0, fun _ => 0,
  [⟨23, 0, .ro, none⟩]⟩

/-- HB_OLTH, R177. -/
def R.HB_OLTH : Reg := ⟨0x1801c, 64, 16, 16, 0x0, fun _ => 0x32,
  [⟨15, 0, .rl, none⟩]⟩

/-- HB_FBCFG, R180. -/
def R.HB_FBCFG : Reg := ⟨0x18400, 32, 8, 8, 0x0, fun _ => 0,
  [⟨1, 0, .rl, none⟩, ⟨2, 2, .rl, none⟩]⟩

/-- HB_WIPE, R180. -/
def R.HB_WIPE : Reg := ⟨0x18404, 32, 8, 8, 0x0, fun _ => 0xbb86400,
  [⟨5, 0, .rl, none⟩, ⟨6, 6, .rl, none⟩, ⟨15, 8, .rl, none⟩, ⟨31, 16, .rl, none⟩]⟩

/-- HB_WIN, R180. -/
def R.HB_WIN : Reg := ⟨0x18408, 32, 8, 8, 0x0, fun _ => 0x96281e28,
  [⟨7, 0, .rl, none⟩, ⟨15, 8, .rl, none⟩, ⟨23, 16, .rl, none⟩, ⟨31, 24, .rl, none⟩]⟩

/-- HB_WINPOS, R180. -/
def R.HB_WINPOS : Reg := ⟨0x1840c, 32, 8, 8, 0x0, fun _ => 0,
  [⟨15, 0, .ro, none⟩, ⟨31, 16, .ro, none⟩]⟩

/-- HB_LOCK, R180. -/
def R.HB_LOCK : Reg := ⟨0x18410, 32, 8, 8, 0x0, fun _ => 0x640096,
  [⟨11, 0, .rl, none⟩, ⟨23, 16, .rl, none⟩, ⟨27, 24, .rl, none⟩]⟩

/-- HB_FBSTAT, R180. -/
def R.HB_FBSTAT : Reg := ⟨0x18414, 32, 8, 8, 0x0, fun _ => 0,
  [⟨1, 0, .ro, none⟩, ⟨2, 2, .ro, none⟩, ⟨3, 3, .w1c, none⟩, ⟨4, 4, .w1c, none⟩, ⟨5, 5, .w1c, none⟩, ⟨6, 6, .w1c, none⟩, ⟨7, 7, .w1c, none⟩]⟩

/-- VLV_CFG, R210. -/
def R.VLV_CFG : Reg := ⟨0x19000, 64, 32, 16, 0x1000, fun _ => 0x338,
  [⟨0, 0, .rw, none⟩, ⟨1, 1, .rl, none⟩, ⟨2, 2, .rl, none⟩, ⟨3, 3, .rl, none⟩, ⟨7, 4, .rl, none⟩, ⟨11, 8, .rl, none⟩, ⟨19, 12, .rl, some (0, 200)⟩]⟩

/-- VLV_COIL, R210. -/
def R.VLV_COIL : Reg := ⟨0x19004, 64, 32, 16, 0x1000, fun _ => 0x3c190000,
  [⟨15, 0, .rl, none⟩, ⟨23, 16, .rl, none⟩, ⟨24, 24, .rl, none⟩, ⟨31, 25, .rl, some (1, 127)⟩]⟩

/-- VLV_THERM, R210. -/
def R.VLV_THERM : Reg := ⟨0x19008, 64, 32, 16, 0x1000, fun _ => 0x32a08c20,
  [⟨7, 0, .rl, none⟩, ⟨15, 8, .rl, none⟩, ⟨23, 16, .rl, none⟩, ⟨30, 24, .rl, some (10, 100)⟩]⟩

/-- VLV_STAT, R211. -/
def R.VLV_STAT : Reg := ⟨0x1900c, 64, 32, 16, 0x1000, fun _ => 0,
  [⟨3, 0, .ro, none⟩, ⟨5, 4, .ro, none⟩, ⟨6, 6, .ro, none⟩, ⟨7, 7, .w1c, none⟩, ⟨8, 8, .w1c, none⟩, ⟨9, 9, .w1c, none⟩, ⟨10, 10, .w1c, none⟩, ⟨11, 11, .w1c, none⟩, ⟨12, 12, .w1c, none⟩, ⟨13, 13, .w1c, none⟩, ⟨14, 14, .w1c, none⟩, ⟨15, 15, .w1c, none⟩, ⟨16, 16, .w1c, none⟩, ⟨17, 17, .ro, none⟩, ⟨21, 18, .ro, none⟩]⟩

/-- VLV_MEAS, R212. -/
def R.VLV_MEAS : Reg := ⟨0x19010, 64, 32, 16, 0x1000, fun _ => 0,
  [⟨15, 0, .ro, none⟩, ⟨23, 16, .ro, none⟩, ⟨31, 24, .ro, none⟩]⟩

/-- VLV_TEMP, R212. -/
def R.VLV_TEMP : Reg := ⟨0x19014, 64, 32, 16, 0x1000, fun _ => 0x640000,
  [⟨15, 0, .ro, none⟩, ⟨22, 16, .ro, none⟩]⟩

/-- VLV_CLAMP, R212. -/
def R.VLV_CLAMP : Reg := ⟨0x19018, 64, 32, 16, 0x1000, fun _ => 0,
  [⟨23, 0, .ro, none⟩, ⟨31, 24, .ro, none⟩]⟩

/-- VLV_COUNT, R212. -/
def R.VLV_COUNT : Reg := ⟨0x1901c, 64, 32, 16, 0x1000, fun _ => 0,
  [⟨15, 0, .ro, none⟩, ⟨31, 16, .ro, none⟩]⟩

/-- VLV_PROFA, R213. -/
def R.VLV_PROFA : Reg := ⟨0x19400, 16, 32, 16, 0x1000, fun _ => 0,
  [⟨15, 0, .rw, none⟩, ⟨23, 16, .rw, some (0, 240)⟩, ⟨31, 24, .rw, some (0, 160)⟩]⟩

/-- VLV_PROFB, R213. -/
def R.VLV_PROFB : Reg := ⟨0x19404, 16, 32, 16, 0x1000, fun _ => 0,
  [⟨23, 0, .rw, none⟩, ⟨31, 24, .rw, some (0, 200)⟩]⟩

/-- VLV_PROFC, R213. -/
def R.VLV_PROFC : Reg := ⟨0x19408, 16, 32, 16, 0x1000, fun _ => 0,
  [⟨27, 0, .rw, none⟩, ⟨28, 28, .rw, none⟩, ⟨29, 29, .rw, none⟩]⟩

/-- VLV_TSTAT, R213. -/
def R.VLV_TSTAT : Reg := ⟨0x19600, 4, 16, 8, 0x1000, fun _ => 0,
  [⟨1, 0, .ro, none⟩, ⟨10, 2, .ro, none⟩, ⟨31, 16, .ro, none⟩]⟩

/-- BST_CFG, R214. -/
def R.BST_CFG : Reg := ⟨0x1b000, 4, 2, 2, 0x0, fun _ => 0x1444b0,
  [⟨0, 0, .rw, none⟩, ⟨10, 1, .rw, none⟩, ⟨14, 11, .rl, none⟩, ⟨20, 15, .rl, none⟩]⟩

/-- BST_STAT, R214. -/
def R.BST_STAT : Reg := ⟨0x1b010, 4, 2, 2, 0x0, fun _ => 0,
  [⟨2, 0, .ro, none⟩, ⟨3, 3, .w1c, none⟩, ⟨4, 4, .w1c, none⟩, ⟨5, 5, .w1c, none⟩, ⟨25, 16, .ro, none⟩]⟩

/-- BST_BANK, R214. -/
def R.BST_BANK : Reg := ⟨0x1b040, 4, 8, 8, 0x0, fun _ => 0x132,
  [⟨7, 0, .rl, none⟩, ⟨8, 8, .rl, none⟩]⟩

/-- BST_BSTAT, R214. -/
def R.BST_BSTAT : Reg := ⟨0x1b080, 4, 8, 8, 0x0, fun _ => 0,
  [⟨1, 0, .ro, none⟩, ⟨2, 2, .w1c, none⟩, ⟨3, 3, .w1c, none⟩, ⟨6, 4, .ro, none⟩, ⟨31, 16, .ro, none⟩]⟩

/-- BST_TBASE0, R214. -/
def R.BST_TBASE0 : Reg := ⟨0x1b100, 4, 1, 1, 0x0, fun _ => 0,
  [⟨31, 0, .ro, none⟩]⟩

/-- BST_TBASE1, R214. -/
def R.BST_TBASE1 : Reg := ⟨0x1b104, 4, 1, 1, 0x0, fun _ => 0,
  [⟨31, 0, .ro, none⟩]⟩

/-- LMP_CFG, R240. -/
def R.LMP_CFG : Reg := ⟨0x20000, 32, 96, 96, 0x0, fun _ => 0x8000,
  [⟨15, 0, .rl, none⟩, ⟨16, 16, .rl, none⟩, ⟨17, 17, .rl, none⟩, ⟨18, 18, .ro, none⟩]⟩

/-- LMP_LEVEL, R240. -/
def R.LMP_LEVEL : Reg := ⟨0x20004, 32, 96, 96, 0x0, fun _ => 0,
  [⟨16, 0, .ro, none⟩]⟩

/-- LMP_TARGET, R240. -/
def R.LMP_TARGET : Reg := ⟨0x20008, 32, 96, 96, 0x0, fun _ => 0,
  [⟨16, 0, .ro, none⟩]⟩

/-- LMP_FADE, R240. -/
def R.LMP_FADE : Reg := ⟨0x2000c, 32, 96, 96, 0x0, fun _ => 0,
  [⟨15, 0, .ro, none⟩, ⟨16, 16, .ro, none⟩, ⟨17, 17, .ro, none⟩, ⟨18, 18, .w1c, none⟩]⟩

/-- LMP_IWIN, R240. -/
def R.LMP_IWIN : Reg := ⟨0x20010, 32, 96, 96, 0x0, fun _ => 0x140000,
  [⟨15, 0, .rl, none⟩, ⟨22, 16, .rl, some (5, 50)⟩, ⟨23, 23, .rl, none⟩]⟩

/-- LMP_DIAG, R240. -/
def R.LMP_DIAG : Reg := ⟨0x20014, 32, 96, 96, 0x0, fun _ => 0,
  [⟨0, 0, .w1c, none⟩, ⟨1, 1, .w1c, none⟩, ⟨31, 16, .ro, none⟩]⟩

/-- LMP_GRP, R241. -/
def R.LMP_GRP : Reg := ⟨0x20c00, 32, 16, 16, 0x0, fun _ => 0,
  [⟨6, 0, .rl, none⟩, ⟨14, 8, .rl, none⟩, ⟨22, 16, .rl, none⟩, ⟨24, 24, .rl, none⟩, ⟨25, 25, .ro, none⟩, ⟨26, 26, .rl, none⟩]⟩

/-- LMP_MIXA, R241. -/
def R.LMP_MIXA : Reg := ⟨0x20c04, 32, 16, 16, 0x0, fun _ => 0x4000,
  [⟨15, 0, .rl, none⟩, ⟨31, 16, .rl, none⟩]⟩

/-- LMP_MIXB, R241. -/
def R.LMP_MIXB : Reg := ⟨0x20c08, 32, 16, 16, 0x0, fun _ => 0,
  [⟨15, 0, .rl, none⟩, ⟨31, 16, .rl, none⟩]⟩

/-- LMP_MIXC, R241. -/
def R.LMP_MIXC : Reg := ⟨0x20c0c, 32, 16, 16, 0x0, fun _ => 0x4000,
  [⟨15, 0, .rl, none⟩, ⟨31, 16, .rl, none⟩]⟩

/-- LMP_MIXD, R241. -/
def R.LMP_MIXD : Reg := ⟨0x20c10, 32, 16, 16, 0x0, fun _ => 0,
  [⟨15, 0, .rl, none⟩, ⟨31, 16, .rl, none⟩]⟩

/-- LMP_MIXE, R241. -/
def R.LMP_MIXE : Reg := ⟨0x20c14, 32, 16, 16, 0x0, fun _ => 0x4000,
  [⟨15, 0, .rl, none⟩]⟩

/-- MTX_CFG, R242. -/
def R.MTX_CFG : Reg := ⟨0x21000, 256, 4, 4, 0x0, fun _ => 0xf028,
  [⟨0, 0, .rw, none⟩, ⟨8, 1, .rl, some (5, 150)⟩, ⟨12, 9, .rl, none⟩, ⟨13, 13, .rl, none⟩, ⟨17, 14, .rl, none⟩, ⟨18, 18, .rl, none⟩]⟩

/-- MTX_VMX, R242. -/
def R.MTX_VMX : Reg := ⟨0x21004, 256, 4, 4, 0x0, fun _ => 0x32,
  [⟨6, 0, .rl, none⟩, ⟨22, 16, .ro, none⟩]⟩

/-- MTX_STAT, R242. -/
def R.MTX_STAT : Reg := ⟨0x21008, 256, 4, 4, 0x0, fun _ => 0,
  [⟨1, 0, .ro, none⟩, ⟨2, 2, .w1c, none⟩, ⟨3, 3, .w1c, none⟩, ⟨4, 4, .w1c, none⟩, ⟨5, 5, .w1c, none⟩, ⟨6, 6, .w1c, none⟩, ⟨31, 16, .ro, none⟩]⟩

/-- MTX_LFLT, R242. -/
def R.MTX_LFLT : Reg := ⟨0x2100c, 256, 4, 4, 0x0, fun _ => 0,
  [⟨15, 0, .ro, none⟩, ⟨31, 16, .w1c, none⟩]⟩

/-- MTX_CFLT, R242. -/
def R.MTX_CFLT : Reg := ⟨0x21010, 256, 4, 4, 0x0, fun _ => 0,
  [⟨31, 0, .w1c, none⟩]⟩

/-- MTX_DCNT, R242. -/
def R.MTX_DCNT : Reg := ⟨0x21014, 256, 4, 4, 0x0, fun _ => 0,
  [⟨9, 0, .ro, none⟩, ⟨25, 16, .ro, none⟩]⟩

/-- PXL_CFG, R276. -/
def R.PXL_CFG : Reg := ⟨0x22000, 256, 16, 16, 0x0, fun _ => 0x1f4,
  [⟨0, 0, .rw, none⟩, ⟨1, 1, .rl, none⟩, ⟨13, 2, .rl, some (125, 2500)⟩, ⟨20, 14, .rl, none⟩, ⟨21, 21, .rl, none⟩, ⟨23, 22, .rl, none⟩, ⟨24, 24, .rl, none⟩]⟩

/-- PXL_LINK, R276. -/
def R.PXL_LINK : Reg := ⟨0x22004, 256, 16, 16, 0x0, fun _ => 0x640,
  [⟨2, 0, .ro, none⟩, ⟨15, 4, .rl, none⟩, ⟨23, 16, .ro, none⟩, ⟨31, 24, .ro, none⟩]⟩

/-- PXL_GEOM, R276. -/
def R.PXL_GEOM : Reg := ⟨0x22008, 256, 16, 16, 0x0, fun _ => 0,
  [⟨9, 0, .ro, none⟩, ⟨24, 16, .ro, none⟩]⟩

/-- PXL_CALID, R276. -/
def R.PXL_CALID : Reg := ⟨0x2200c, 256, 16, 16, 0x0, fun _ => 0,
  [⟨31, 0, .ro, none⟩]⟩

/-- PXL_LEVEL, R276. -/
def R.PXL_LEVEL : Reg := ⟨0x22010, 256, 16, 16, 0x0, fun _ => 0,
  [⟨16, 0, .ro, none⟩]⟩

/-- PXL_TARGET, R276. -/
def R.PXL_TARGET : Reg := ⟨0x22014, 256, 16, 16, 0x0, fun _ => 0,
  [⟨16, 0, .ro, none⟩]⟩

/-- PXL_FADE, R276. -/
def R.PXL_FADE : Reg := ⟨0x22018, 256, 16, 16, 0x0, fun _ => 0,
  [⟨15, 0, .ro, none⟩, ⟨16, 16, .ro, none⟩, ⟨17, 17, .ro, none⟩, ⟨18, 18, .ro, none⟩]⟩

/-- PXL_STAT, R276. -/
def R.PXL_STAT : Reg := ⟨0x2201c, 256, 16, 16, 0x0, fun _ => 0,
  [⟨2, 0, .ro, none⟩, ⟨4, 4, .w1c, none⟩, ⟨5, 5, .w1c, none⟩, ⟨6, 6, .w1c, none⟩, ⟨7, 7, .w1c, none⟩, ⟨8, 8, .w1c, none⟩, ⟨9, 9, .w1c, none⟩, ⟨10, 10, .w1c, none⟩, ⟨11, 11, .w1c, none⟩, ⟨31, 16, .ro, none⟩]⟩

/-- PXL_RENDER, R276. -/
def R.PXL_RENDER : Reg := ⟨0x22020, 256, 16, 16, 0x0, fun _ => 0,
  [⟨23, 0, .ro, none⟩, ⟨31, 24, .ro, none⟩]⟩

/-- PXL_DCNT, R276. -/
def R.PXL_DCNT : Reg := ⟨0x22024, 256, 16, 16, 0x0, fun _ => 0,
  [⟨14, 0, .ro, none⟩, ⟨30, 16, .ro, none⟩]⟩

/-- PXL_LTEMP, R276. -/
def R.PXL_LTEMP : Reg := ⟨0x22028, 256, 16, 16, 0x0, fun _ => 0x690000,
  [⟨15, 0, .ro, none⟩, ⟨23, 16, .rl, none⟩, ⟨31, 31, .ro, none⟩]⟩

/-- PXL_ZCFG, R276. -/
def R.PXL_ZCFG : Reg := ⟨0x2202c, 256, 16, 16, 0x0, fun _ => 0x4000,
  [⟨15, 0, .rl, none⟩]⟩

/-- PXL_ZONE, R276. -/
def R.PXL_ZONE : Reg := ⟨0x22040, 4, 256, 16, 0x100, fun _ => 0xfff0fff,
  [⟨11, 0, .rl, none⟩, ⟨27, 16, .rl, none⟩, ⟨29, 28, .rl, none⟩]⟩

/-- PXL_OCURVE, R276. -/
def R.PXL_OCURVE : Reg := ⟨0x22080, 4, 272, 17, 0x100, fun m => oledCurveReset (m % 17),
  [⟨11, 0, .rl, none⟩, ⟨27, 16, .rl, none⟩]⟩

/-- PXL_SHOAL, R276. -/
def R.PXL_SHOAL : Reg := ⟨0x23000, 4, 1, 1, 0x0, fun _ => 0,
  [⟨0, 0, .ro, none⟩, ⟨1, 1, .w1c, none⟩]⟩

/-- PXL_LOAD, R276. -/
def R.PXL_LOAD : Reg := ⟨0x23004, 4, 1, 1, 0x0, fun _ => 0,
  [⟨15, 0, .ro, none⟩, ⟨31, 16, .ro, none⟩]⟩

/-- DIO_DICFG, R300. -/
def R.DIO_DICFG : Reg := ⟨0x28000, 16, 64, 64, 0x0, fun n => if n < 16 then 0x20440 else 0x440,
  [⟨0, 0, .rw, none⟩, ⟨3, 1, .rl, none⟩, ⟨4, 4, .rl, none⟩, ⟨7, 5, .rl, none⟩, ⟨8, 8, .rl, none⟩, ⟨9, 9, .rl, none⟩, ⟨11, 10, .rl, none⟩, ⟨12, 12, .rl, none⟩, ⟨13, 13, .rl, none⟩, ⟨21, 14, .rl, none⟩]⟩

/-- DIO_DIFLT, R300. -/
def R.DIO_DIFLT : Reg := ⟨0x28004, 16, 64, 64, 0x0, fun _ => 0xa0208,
  [⟨7, 0, .rl, none⟩, ⟨15, 8, .rl, none⟩, ⟨23, 16, .rl, none⟩, ⟨31, 24, .ro, none⟩]⟩

/-- DIO_DISTAT, R300. -/
def R.DIO_DISTAT : Reg := ⟨0x28008, 16, 64, 64, 0x0, fun _ => 0,
  [⟨0, 0, .ro, none⟩, ⟨1, 1, .ro, none⟩, ⟨4, 4, .w1c, none⟩, ⟨5, 5, .w1c, none⟩, ⟨6, 6, .w1c, none⟩, ⟨7, 7, .w1c, none⟩]⟩

/-- DIO_DIMEAS, R300. -/
def R.DIO_DIMEAS : Reg := ⟨0x2800c, 16, 64, 64, 0x0, fun _ => 0,
  [⟨15, 0, .ro, none⟩]⟩

/-- DIO_DOCFG, R301. -/
def R.DIO_DOCFG : Reg := ⟨0x28800, 16, 16, 16, 0x0, fun _ => 0x8640,
  [⟨0, 0, .rw, none⟩, ⟨2, 1, .rl, none⟩, ⟨3, 3, .rl, none⟩, ⟨14, 4, .rl, some (10, 2000)⟩, ⟨15, 15, .rl, none⟩]⟩

/-- DIO_DOCMD, R301. -/
def R.DIO_DOCMD : Reg := ⟨0x28804, 16, 16, 16, 0x0, fun _ => 0,
  [⟨0, 0, .ro, none⟩, ⟨1, 1, .ro, none⟩]⟩

/-- DIO_DOSTAT, R301. -/
def R.DIO_DOSTAT : Reg := ⟨0x28808, 16, 16, 16, 0x0, fun _ => 0,
  [⟨2, 0, .ro, none⟩, ⟨4, 4, .w1c, none⟩, ⟨5, 5, .w1c, none⟩, ⟨6, 6, .w1c, none⟩, ⟨7, 7, .w1c, none⟩, ⟨8, 8, .w1c, none⟩]⟩

/-- DIO_DOMEAS, R301. -/
def R.DIO_DOMEAS : Reg := ⟨0x2880c, 16, 16, 16, 0x0, fun _ => 0,
  [⟨15, 0, .ro, none⟩, ⟨31, 16, .ro, none⟩]⟩

/-- DIO_SVCFG, R301. -/
def R.DIO_SVCFG : Reg := ⟨0x28a00, 16, 4, 4, 0x0, fun _ => 0x8,
  [⟨0, 0, .rw, none⟩, ⟨2, 1, .rl, none⟩, ⟨3, 3, .rl, none⟩]⟩

/-- DIO_SVSTAT, R301. -/
def R.DIO_SVSTAT : Reg := ⟨0x28a04, 16, 4, 4, 0x0, fun _ => 0,
  [⟨1, 0, .ro, none⟩, ⟨4, 4, .w1c, none⟩, ⟨5, 5, .w1c, none⟩, ⟨6, 6, .w1c, none⟩, ⟨7, 7, .w1c, none⟩]⟩

/-- DIO_SVMEAS, R301. -/
def R.DIO_SVMEAS : Reg := ⟨0x28a08, 16, 4, 4, 0x0, fun _ => 0,
  [⟨15, 0, .ro, none⟩, ⟨31, 16, .ro, none⟩]⟩

/-- DIO_DILVL, R300. -/
def R.DIO_DILVL : Reg := ⟨0x28400, 4, 2, 2, 0x0, fun _ => 0,
  [⟨31, 0, .ro, none⟩]⟩

/-- DIO_DICHG, R300. -/
def R.DIO_DICHG : Reg := ⟨0x28408, 4, 2, 2, 0x0, fun _ => 0,
  [⟨31, 0, .w1c, none⟩]⟩

/-- CAN_CFG, R357. -/
def R.CAN_CFG : Reg := ⟨0x30000, 256, 12, 12, 0x0, fun _ => 0x6400,
  [⟨0, 0, .rw, none⟩, ⟨2, 1, .rl, none⟩, ⟨3, 3, .rl, none⟩, ⟨4, 4, .rl, none⟩, ⟨5, 5, .rl, none⟩, ⟨6, 6, .rl, none⟩, ⟨7, 7, .rl, none⟩, ⟨23, 8, .rl, none⟩]⟩

/-- CAN_NBT, R357. -/
def R.CAN_NBT : Reg := ⟨0x30004, 256, 12, 12, 0x0, fun _ => 0x1851144,
  [⟨5, 0, .rl, none⟩, ⟨14, 6, .rl, none⟩, ⟨22, 15, .rl, none⟩, ⟨30, 23, .rl, none⟩]⟩

/-- CAN_DBT, R357. -/
def R.CAN_DBT : Reg := ⟨0x30008, 256, 12, 12, 0x0, fun _ => 0x82843e1,
  [⟨4, 0, .rl, none⟩, ⟨10, 5, .rl, none⟩, ⟨15, 11, .rl, none⟩, ⟨20, 16, .rl, none⟩, ⟨21, 21, .rl, none⟩, ⟨28, 22, .rl, none⟩]⟩

/-- CAN_SLP, R357. -/
def R.CAN_SLP : Reg := ⟨0x3000c, 256, 12, 12, 0x0, fun _ => 0x120961f4,
  [⟨9, 0, .rl, none⟩, ⟨21, 10, .rl, none⟩, ⟨23, 22, .rl, none⟩, ⟨25, 24, .rl, none⟩, ⟨30, 26, .rl, none⟩]⟩

/-- CAN_WUFID, R357. -/
def R.CAN_WUFID : Reg := ⟨0x30010, 256, 12, 12, 0x0, fun _ => 0,
  [⟨28, 0, .rl, none⟩, ⟨29, 29, .rl, none⟩]⟩

/-- CAN_WUFMSK, R357. -/
def R.CAN_WUFMSK : Reg := ⟨0x30014, 256, 12, 12, 0x0, fun _ => 0x1fffffff,
  [⟨28, 0, .rl, none⟩]⟩

/-- CAN_WUFCTL, R357. -/
def R.CAN_WUFCTL : Reg := ⟨0x30018, 256, 12, 12, 0x0, fun _ => 0xa8,
  [⟨3, 0, .rl, none⟩, ⟨4, 4, .rl, none⟩, ⟨6, 5, .rl, none⟩, ⟨10, 7, .rl, none⟩]⟩

/-- CAN_STAT, R357. -/
def R.CAN_STAT : Reg := ⟨0x30024, 256, 12, 12, 0x0, fun _ => 0,
  [⟨2, 0, .ro, none⟩, ⟨6, 4, .ro, none⟩, ⟨10, 8, .ro, none⟩, ⟨16, 16, .w1c, none⟩, ⟨17, 17, .w1c, none⟩, ⟨18, 18, .w1c, none⟩, ⟨19, 19, .w1c, none⟩, ⟨20, 20, .w1c, none⟩, ⟨21, 21, .w1c, none⟩, ⟨22, 22, .w1c, none⟩, ⟨23, 23, .w1c, none⟩, ⟨24, 24, .w1c, none⟩]⟩

/-- CAN_ERR, R357. -/
def R.CAN_ERR : Reg := ⟨0x30028, 256, 12, 12, 0x0, fun _ => 0,
  [⟨7, 0, .ro, none⟩, ⟨15, 8, .ro, none⟩, ⟨18, 16, .ro, none⟩, ⟨31, 24, .ro, none⟩]⟩

/-- CAN_KEEP, R357. -/
def R.CAN_KEEP : Reg := ⟨0x3002c, 256, 12, 12, 0x0, fun _ => 0,
  [⟨28, 0, .ro, none⟩, ⟨29, 29, .ro, none⟩, ⟨31, 31, .ro, none⟩]⟩

/-- CAN_WUFDATA, R357. -/
def R.CAN_WUFDATA : Reg := ⟨0x3001c, 4, 24, 2, 0x100, fun _ => 0,
  [⟨31, 0, .rl, none⟩]⟩

/-- CAN_FID, R357. -/
def R.CAN_FID : Reg := ⟨0x30080, 8, 192, 16, 0x100, fun _ => 0,
  [⟨28, 0, .rl, none⟩, ⟨29, 29, .rl, none⟩, ⟨31, 31, .rl, none⟩]⟩

/-- CAN_FMSK, R357. -/
def R.CAN_FMSK : Reg := ⟨0x30084, 8, 192, 16, 0x100, fun _ => 0,
  [⟨28, 0, .rl, none⟩]⟩

/-- LIN_CFG, R358. -/
def R.LIN_CFG : Reg := ⟨0x31000, 128, 8, 8, 0x0, fun _ => 0xf9600c,
  [⟨0, 0, .rw, none⟩, ⟨1, 1, .rl, none⟩, ⟨2, 2, .rl, none⟩, ⟨3, 3, .rl, none⟩, ⟨4, 4, .rl, none⟩, ⟨19, 5, .rl, none⟩, ⟨24, 20, .rl, none⟩]⟩

/-- LIN_SLP, R358. -/
def R.LIN_SLP : Reg := ⟨0x31004, 128, 8, 8, 0x0, fun _ => 0x961f4,
  [⟨9, 0, .rl, none⟩, ⟨21, 10, .rl, none⟩, ⟨23, 22, .rl, none⟩]⟩

/-- LIN_STAT, R358. -/
def R.LIN_STAT : Reg := ⟨0x31008, 128, 8, 8, 0x0, fun _ => 0,
  [⟨2, 0, .ro, none⟩, ⟨6, 4, .ro, none⟩, ⟨9, 8, .ro, none⟩, ⟨16, 16, .w1c, none⟩, ⟨17, 17, .w1c, none⟩, ⟨18, 18, .w1c, none⟩, ⟨19, 19, .w1c, none⟩, ⟨20, 20, .w1c, none⟩, ⟨21, 21, .w1c, none⟩, ⟨22, 22, .w1c, none⟩, ⟨23, 23, .w1c, none⟩, ⟨24, 24, .w1c, none⟩]⟩

/-- LIN_KEEP, R358. -/
def R.LIN_KEEP : Reg := ⟨0x3100c, 128, 8, 8, 0x0, fun _ => 0,
  [⟨7, 0, .ro, none⟩, ⟨31, 31, .ro, none⟩]⟩

/-- ETH_PCFG, R359. -/
def R.ETH_PCFG : Reg := ⟨0x32000, 256, 5, 5, 0x0, fun p => if p = 4 then 0 else 0x800,
  [⟨0, 0, .rw, none⟩, ⟨1, 1, .rl, none⟩, ⟨2, 2, .rl, none⟩, ⟨7, 3, .rl, none⟩, ⟨13, 8, .rl, none⟩, ⟨14, 14, .rl, none⟩, ⟨15, 15, .rl, none⟩]⟩

/-- ETH_SLP, R359. -/
def R.ETH_SLP : Reg := ⟨0x32004, 256, 5, 5, 0x0, fun p => if p = 4 then 0 else 0x50961f4,
  [⟨27, 24, .rl, none⟩, ⟨9, 0, .rl, none⟩, ⟨21, 10, .rl, none⟩, ⟨23, 22, .rl, none⟩]⟩

/-- ETH_PSTAT, R359. -/
def R.ETH_PSTAT : Reg := ⟨0x32008, 256, 5, 5, 0x0, fun _ => 0,
  [⟨2, 0, .ro, none⟩, ⟨3, 3, .ro, none⟩, ⟨6, 4, .ro, none⟩, ⟨10, 8, .ro, none⟩, ⟨16, 16, .w1c, none⟩, ⟨17, 17, .w1c, none⟩, ⟨18, 18, .w1c, none⟩, ⟨19, 19, .w1c, none⟩, ⟨20, 20, .w1c, none⟩, ⟨21, 21, .w1c, none⟩, ⟨22, 22, .w1c, none⟩, ⟨23, 23, .w1c, none⟩, ⟨24, 24, .w1c, none⟩]⟩

/-- ETH_CNT, R359. -/
def R.ETH_CNT : Reg := ⟨0x3200c, 256, 5, 5, 0x0, fun _ => 0,
  [⟨15, 0, .ro, none⟩, ⟨31, 16, .ro, none⟩]⟩

/-- ETH_KEEP0, R359. -/
def R.ETH_KEEP0 : Reg := ⟨0x32010, 256, 5, 5, 0x0, fun _ => 0,
  [⟨31, 0, .ro, none⟩]⟩

/-- ETH_KEEP1, R359. -/
def R.ETH_KEEP1 : Reg := ⟨0x32014, 256, 5, 5, 0x0, fun _ => 0,
  [⟨15, 0, .ro, none⟩, ⟨31, 31, .ro, none⟩]⟩

/-- ETH_MAC0, R359. -/
def R.ETH_MAC0 : Reg := ⟨0x32800, 4, 1, 1, 0x0, fun _ => Config.macLow,
  [⟨31, 0, .rl, none⟩]⟩

/-- ETH_MAC1, R359. -/
def R.ETH_MAC1 : Reg := ⟨0x32804, 4, 1, 1, 0x0, fun _ => Config.macHigh,
  [⟨15, 0, .rl, none⟩]⟩

/-- ETH_SWCFG, R359. -/
def R.ETH_SWCFG : Reg := ⟨0x32808, 4, 1, 1, 0x0, fun _ => 0x12c,
  [⟨11, 0, .rl, none⟩, ⟨12, 12, .rl, none⟩]⟩

/-- ETH_VLAN, R359. -/
def R.ETH_VLAN : Reg := ⟨0x32900, 4, 64, 64, 0x0, fun n => if n = 0 then 0x803FF001 else 0,
  [⟨11, 0, .rl, none⟩, ⟨16, 12, .rl, none⟩, ⟨21, 17, .rl, none⟩, ⟨31, 31, .rl, none⟩]⟩

/-- GW_CFG, R379. -/
def R.GW_CFG : Reg := ⟨0x34000, 4, 1, 1, 0x0, fun _ => 0,
  [⟨0, 0, .rw, none⟩, ⟨2, 1, .rl, none⟩, ⟨3, 3, .rl, none⟩]⟩

/-- GW_EPOCH, R379. -/
def R.GW_EPOCH : Reg := ⟨0x34004, 4, 1, 1, 0x0, fun _ => 0,
  [⟨31, 0, .rl, none⟩]⟩

/-- GW_STAT, R379. -/
def R.GW_STAT : Reg := ⟨0x34008, 4, 1, 1, 0x0, fun _ => 0,
  [⟨0, 0, .w1c, none⟩, ⟨1, 1, .w1c, none⟩, ⟨2, 2, .w1c, none⟩, ⟨3, 3, .w1c, none⟩, ⟨4, 4, .w1c, none⟩, ⟨5, 5, .w1c, none⟩, ⟨6, 6, .w1c, none⟩, ⟨7, 7, .w1c, none⟩, ⟨29, 16, .ro, none⟩]⟩

/-- GW_TBL, R379. -/
def R.GW_TBL : Reg := ⟨0x3400c, 4, 1, 1, 0x0, fun _ => 0,
  [⟨14, 0, .ro, none⟩, ⟨31, 16, .ro, none⟩]⟩

/-- GW_LOAD, R379. -/
def R.GW_LOAD : Reg := ⟨0x34010, 4, 1, 1, 0x0, fun _ => 0,
  [⟨15, 0, .ro, none⟩, ⟨31, 16, .ro, none⟩]⟩

/-- GW_PORT, R379. -/
def R.GW_PORT : Reg := ⟨0x34100, 16, 29, 29, 0x0, fun _ => 0x80,
  [⟨0, 0, .rl, none⟩, ⟨1, 1, .rl, none⟩, ⟨9, 2, .rl, none⟩]⟩

/-- GW_PIN, R379. -/
def R.GW_PIN : Reg := ⟨0x34104, 16, 29, 29, 0x0, fun _ => 0,
  [⟨15, 0, .ro, none⟩, ⟨31, 16, .ro, none⟩]⟩

/-- GW_POUT, R379. -/
def R.GW_POUT : Reg := ⟨0x34108, 16, 29, 29, 0x0, fun _ => 0,
  [⟨15, 0, .ro, none⟩, ⟨31, 16, .ro, none⟩]⟩

/-- GW_ETHDST0, R379. -/
def R.GW_ETHDST0 : Reg := ⟨0x34400, 16, 64, 64, 0x0, fun _ => 0,
  [⟨31, 0, .rl, none⟩]⟩

/-- GW_ETHDST1, R379. -/
def R.GW_ETHDST1 : Reg := ⟨0x34404, 16, 64, 64, 0x0, fun _ => 0,
  [⟨15, 0, .rl, none⟩, ⟨27, 16, .rl, none⟩, ⟨30, 28, .rl, none⟩, ⟨31, 31, .rl, none⟩]⟩

/-- GW_ETHDST2, R379. -/
def R.GW_ETHDST2 : Reg := ⟨0x34408, 16, 64, 64, 0x0, fun _ => 0,
  [⟨31, 0, .rl, none⟩]⟩

/-- GW_ETHDST3, R379. -/
def R.GW_ETHDST3 : Reg := ⟨0x3440c, 16, 64, 64, 0x0, fun _ => 0,
  [⟨31, 0, .rl, none⟩]⟩

/-- HQ_SQBASE, R416. -/
def R.HQ_SQBASE : Reg := ⟨0x38000, 32, 64, 64, 0x0, fun _ => 0,
  [⟨31, 6, .rw, none⟩]⟩

/-- HQ_SQBASEH, R416. -/
def R.HQ_SQBASEH : Reg := ⟨0x38004, 32, 64, 64, 0x0, fun _ => 0,
  [⟨31, 0, .rw, none⟩]⟩

/-- HQ_CQBASE, R416. -/
def R.HQ_CQBASE : Reg := ⟨0x38008, 32, 64, 64, 0x0, fun _ => 0,
  [⟨31, 6, .rw, none⟩]⟩

/-- HQ_CQBASEH, R416. -/
def R.HQ_CQBASEH : Reg := ⟨0x3800c, 32, 64, 64, 0x0, fun _ => 0,
  [⟨31, 0, .rw, none⟩]⟩

/-- HQ_QCFG, R416. -/
def R.HQ_QCFG : Reg := ⟨0x38010, 32, 64, 64, 0x0, fun _ => 0xcc,
  [⟨0, 0, .rw, none⟩, ⟨4, 1, .rw, none⟩, ⟨8, 5, .rw, none⟩, ⟨14, 9, .rw, none⟩, ⟨18, 15, .rw, none⟩]⟩

/-- HQ_QCOAL, R416. -/
def R.HQ_QCOAL : Reg := ⟨0x38014, 32, 64, 64, 0x0, fun _ => 0x1,
  [⟨7, 0, .rw, none⟩, ⟨17, 8, .rw, none⟩]⟩

/-- HQ_QSTAT, R416. -/
def R.HQ_QSTAT : Reg := ⟨0x38018, 32, 64, 64, 0x0, fun _ => 0,
  [⟨1, 0, .ro, none⟩, ⟨4, 4, .w1c, none⟩, ⟨5, 5, .w1c, none⟩, ⟨6, 6, .w1c, none⟩, ⟨7, 7, .w1c, none⟩, ⟨8, 8, .w1c, none⟩, ⟨31, 16, .ro, none⟩]⟩

/-- HQ_QIDX, R416. -/
def R.HQ_QIDX : Reg := ⟨0x3801c, 32, 64, 64, 0x0, fun _ => 0,
  [⟨15, 0, .rw, none⟩, ⟨31, 16, .rw, none⟩]⟩

/-- HQ_EQBASE, R416. -/
def R.HQ_EQBASE : Reg := ⟨0x38800, 32, 8, 8, 0x0, fun _ => 0,
  [⟨31, 6, .rw, none⟩]⟩

/-- HQ_EQBASEH, R416. -/
def R.HQ_EQBASEH : Reg := ⟨0x38804, 32, 8, 8, 0x0, fun _ => 0,
  [⟨31, 0, .rw, none⟩]⟩

/-- HQ_EQCFG, R416. -/
def R.HQ_EQCFG : Reg := ⟨0x38808, 32, 8, 8, 0x0, fun _ => 0xc,
  [⟨0, 0, .rw, none⟩, ⟨4, 1, .rw, none⟩, ⟨10, 5, .rw, none⟩]⟩

/-- HQ_EQSTAT, R416. -/
def R.HQ_EQSTAT : Reg := ⟨0x3880c, 32, 8, 8, 0x0, fun _ => 0,
  [⟨1, 0, .ro, none⟩, ⟨4, 4, .w1c, none⟩, ⟨5, 5, .w1c, none⟩, ⟨6, 6, .w1c, none⟩, ⟨31, 16, .ro, none⟩]⟩

/-- HQ_EQIDX, R416. -/
def R.HQ_EQIDX : Reg := ⟨0x38810, 32, 8, 8, 0x0, fun _ => 0,
  [⟨15, 0, .rw, none⟩, ⟨31, 16, .ro, none⟩]⟩

/-- HQ_LINK, R416. -/
def R.HQ_LINK : Reg := ⟨0x38c04, 4, 1, 1, 0x0, fun _ => 0,
  [⟨0, 0, .ro, none⟩, ⟨2, 1, .ro, none⟩, ⟨4, 3, .ro, none⟩, ⟨5, 5, .ro, none⟩, ⟨15, 8, .ro, none⟩, ⟨16, 16, .w1c, none⟩, ⟨17, 17, .w1c, none⟩]⟩

/-- HQ_MBXBASE, R416. -/
def R.HQ_MBXBASE : Reg := ⟨0x38c10, 4, 1, 1, 0x0, fun _ => 0,
  [⟨31, 17, .rl, none⟩]⟩

/-- HQ_MBXSTAT, R416. -/
def R.HQ_MBXSTAT : Reg := ⟨0x38c14, 4, 1, 1, 0x0, fun _ => 0,
  [⟨15, 0, .ro, none⟩]⟩

/-- HQ_MBXDONE, R416. -/
def R.HQ_MBXDONE : Reg := ⟨0x38c18, 4, 1, 1, 0x0, fun _ => 0,
  [⟨3, 0, .wo, none⟩, ⟨15, 8, .wo, none⟩, ⟨28, 16, .wo, none⟩]⟩

/-- CHN_CFG, R449. -/
def R.CHN_CFG : Reg := ⟨0x39000, 4, 1, 1, 0x0, fun _ => 0x320203,
  [⟨0, 0, .rl, none⟩, ⟨1, 1, .rl, none⟩, ⟨2, 2, .rl, none⟩, ⟨3, 3, .rl, none⟩, ⟨6, 4, .rl, none⟩, ⟨15, 8, .rl, none⟩, ⟨23, 16, .rl, none⟩]⟩

/-- CHN_CTL, R449. -/
def R.CHN_CTL : Reg := ⟨0x39004, 4, 1, 1, 0x0, fun _ => 0,
  [⟨1, 0, .wo, none⟩]⟩

/-- CHN_STAT, R449. -/
def R.CHN_STAT : Reg := ⟨0x39008, 4, 1, 1, 0x0, fun _ => 0x10,
  [⟨1, 0, .ro, none⟩, ⟨3, 3, .ro, none⟩, ⟨10, 4, .ro, none⟩, ⟨16, 16, .w1c, none⟩, ⟨17, 17, .w1c, none⟩, ⟨18, 18, .w1c, none⟩, ⟨19, 19, .w1c, none⟩, ⟨20, 20, .w1c, none⟩, ⟨21, 21, .w1c, none⟩, ⟨22, 22, .w1c, none⟩]⟩

/-- CHN_TGT, R449. -/
def R.CHN_TGT : Reg := ⟨0x3900c, 4, 1, 1, 0x0, fun _ => 0,
  [⟨5, 0, .rw, none⟩]⟩

/-- CHN_ERRCNT, R450. -/
def R.CHN_ERRCNT : Reg := ⟨0x39038, 4, 1, 1, 0x0, fun _ => 0,
  [⟨15, 0, .ro, none⟩]⟩

/-- CHN_LOCK, R450. -/
def R.CHN_LOCK : Reg := ⟨0x3903c, 4, 1, 1, 0x0, fun _ => 0,
  [⟨0, 0, .ro, none⟩, ⟨6, 1, .ro, none⟩]⟩

/-- CHN_PORT, R449. -/
def R.CHN_PORT : Reg := ⟨0x39010, 4, 2, 2, 0x0, fun _ => 0,
  [⟨1, 0, .ro, none⟩, ⟨2, 2, .ro, none⟩, ⟨8, 8, .w1c, none⟩, ⟨9, 9, .w1c, none⟩, ⟨10, 10, .w1c, none⟩, ⟨31, 16, .ro, none⟩]⟩

/-- CHN_REACH, R450. -/
def R.CHN_REACH : Reg := ⟨0x39018, 4, 2, 2, 0x0, fun _ => 0,
  [⟨31, 0, .ro, none⟩]⟩

/-- CHN_FRMASK, R450. -/
def R.CHN_FRMASK : Reg := ⟨0x39020, 4, 2, 2, 0x0, fun _ => 0,
  [⟨31, 0, .rl, none⟩]⟩

/-- CHN_STOPPED, R450. -/
def R.CHN_STOPPED : Reg := ⟨0x39028, 4, 2, 2, 0x0, fun _ => 0,
  [⟨31, 0, .w1c, none⟩]⟩

/-- CHN_ERRLOG0, R450. -/
def R.CHN_ERRLOG0 : Reg := ⟨0x39030, 4, 1, 1, 0x0, fun _ => 0,
  [⟨19, 0, .ro, none⟩]⟩

/-- CHN_ERRLOG1, R450. -/
def R.CHN_ERRLOG1 : Reg := ⟨0x39034, 4, 1, 1, 0x0, fun _ => 0,
  [⟨5, 0, .ro, none⟩, ⟨7, 6, .ro, none⟩, ⟨11, 8, .ro, none⟩, ⟨17, 12, .ro, none⟩, ⟨31, 31, .w1c, none⟩]⟩

/-- CHN_RBASE, R451. -/
def R.CHN_RBASE : Reg := ⟨0x39040, 8, 8, 8, 0x0, fun _ => 0,
  [⟨19, 2, .rl, none⟩, ⟨31, 31, .rl, none⟩]⟩

/-- CHN_RLIM, R451. -/
def R.CHN_RLIM : Reg := ⟨0x39044, 8, 8, 8, 0x0, fun _ => 0,
  [⟨19, 2, .rl, none⟩]⟩

/-- CHN_SER0, R451. -/
def R.CHN_SER0 : Reg := ⟨0x39200, 8, 64, 64, 0x0, fun _ => 0,
  [⟨31, 0, .ro, none⟩]⟩

/-- CHN_SER1, R451. -/
def R.CHN_SER1 : Reg := ⟨0x39204, 8, 64, 64, 0x0, fun _ => 0,
  [⟨31, 0, .ro, none⟩]⟩

/-- CDC_SPEED, R473. -/
def R.CDC_SPEED : Reg := ⟨0x3a000, 4, 1, 1, 0x0, fun _ => 0,
  [⟨10, 0, .ro, none⟩, ⟨16, 16, .w1c, none⟩]⟩

/-- CDC_SUM, R473. -/
def R.CDC_SUM : Reg := ⟨0x3a008, 4, 2, 2, 0x0, fun _ => 0,
  [⟨31, 0, .ro, none⟩]⟩

/-- CDC_CTL, R473. -/
def R.CDC_CTL : Reg := ⟨0x3a010, 4, 1, 1, 0x0, fun _ => 0,
  [⟨0, 0, .wo, none⟩]⟩

/-- CDC_ISTAT, R473. -/
def R.CDC_ISTAT : Reg := ⟨0x3a040, 4, 9, 9, 0x0, fun _ => 0,
  [⟨0, 0, .ro, none⟩, ⟨1, 1, .ro, none⟩, ⟨2, 2, .w1c, none⟩, ⟨31, 16, .ro, none⟩]⟩

/-- CDC_XSTAT, R473. -/
def R.CDC_XSTAT : Reg := ⟨0x3a100, 4, 64, 64, 0x0, fun _ => 0,
  [⟨7, 0, .ro, none⟩, ⟨15, 8, .ro, none⟩, ⟨16, 16, .w1c, none⟩, ⟨17, 17, .w1c, none⟩, ⟨18, 18, .w1c, none⟩, ⟨31, 24, .ro, none⟩]⟩

/-- HEP_CCTL, R510. -/
def R.HEP_CCTL : Reg := ⟨0x40008, 4, 4, 4, 0x0, fun _ => 0,
  [⟨0, 0, .rw, none⟩, ⟨1, 1, .rl, none⟩]⟩

/-- HEP_CENTRY, R510. -/
def R.HEP_CENTRY : Reg := ⟨0x40048, 4, 4, 4, 0x0, fun _ => 0,
  [⟨31, 2, .rl, none⟩]⟩

/-- HEP_SWDCFG, R510. -/
def R.HEP_SWDCFG : Reg := ⟨0x40080, 4, 1, 1, 0x0, fun _ => 0x640,
  [⟨0, 0, .rl, none⟩, ⟨14, 4, .rl, some (1, 2000)⟩]⟩

/-- HEP_SWDKICK, R510. -/
def R.HEP_SWDKICK : Reg := ⟨0x40084, 4, 1, 1, 0x0, fun _ => 0,
  [⟨15, 0, .wo, none⟩]⟩

/-- HEP_SWDSTAT, R510. -/
def R.HEP_SWDSTAT : Reg := ⟨0x40088, 4, 1, 1, 0x0, fun _ => 0,
  [⟨10, 0, .ro, none⟩]⟩

/-- HEP_CRST, R510. -/
def R.HEP_CRST : Reg := ⟨0x4008c, 4, 1, 1, 0x0, fun _ => 0,
  [⟨3, 0, .wo, none⟩, ⟨31, 16, .wo, none⟩]⟩

/-- HEP_STAT, R510. -/
def R.HEP_STAT : Reg := ⟨0x40100, 4, 15, 15, 0x0, fun _ => 0,
  [⟨2, 0, .ro, none⟩, ⟨3, 3, .ro, none⟩, ⟨13, 8, .ro, none⟩, ⟨23, 16, .ro, none⟩]⟩

/-- HEP_ROUTE, R510. -/
def R.HEP_ROUTE : Reg := ⟨0x40400, 4, 256, 256, 0x0, fun _ => 0,
  [⟨4, 0, .rl, none⟩, ⟨11, 8, .rl, none⟩]⟩

/-- CIPH_CFG, R561. -/
def R.CIPH_CFG : Reg := ⟨0x48000, 4, 1, 1, 0x0, fun _ => 0x1,
  [⟨0, 0, .rw, none⟩]⟩

/-- CIPH_STAT, R561. -/
def R.CIPH_STAT : Reg := ⟨0x48004, 4, 1, 1, 0x0, fun _ => 0,
  [⟨0, 0, .w1c, none⟩, ⟨1, 1, .w1c, none⟩, ⟨2, 2, .w1c, none⟩, ⟨12, 8, .ro, none⟩]⟩

/-- CIPH_CNT, R561. -/
def R.CIPH_CNT : Reg := ⟨0x48008, 4, 1, 1, 0x0, fun _ => 0,
  [⟨15, 0, .ro, none⟩, ⟨31, 16, .ro, none⟩]⟩

/-- CIPH_LOAD, R561. -/
def R.CIPH_LOAD : Reg := ⟨0x4800c, 4, 1, 1, 0x0, fun _ => 0,
  [⟨15, 0, .ro, none⟩, ⟨31, 16, .ro, none⟩]⟩

/-- CIPH_RNG, R561. -/
def R.CIPH_RNG : Reg := ⟨0x48010, 4, 1, 1, 0x0, fun _ => 0,
  [⟨1, 0, .ro, none⟩, ⟨2, 2, .w1c, none⟩, ⟨3, 3, .w1c, none⟩, ⟨4, 4, .w1c, none⟩, ⟨31, 16, .ro, none⟩]⟩

/-- CIPH_FWBASE, R561. -/
def R.CIPH_FWBASE : Reg := ⟨0x48020, 4, 1, 1, 0x0, fun _ => 0,
  [⟨31, 6, .rl, none⟩]⟩

/-- CIPH_FWCTL, R561. -/
def R.CIPH_FWCTL : Reg := ⟨0x48024, 4, 1, 1, 0x0, fun _ => 0,
  [⟨5, 0, .rw, none⟩, ⟨13, 8, .ro, none⟩, ⟨21, 16, .rw, none⟩]⟩

/-- KEY_RKSTAT, R562. -/
def R.KEY_RKSTAT : Reg := ⟨0x49000, 4, 1, 1, 0x0, fun _ => 0,
  [⟨3, 0, .ro, none⟩, ⟨7, 4, .ro, none⟩]⟩

/-- KEY_CFG, R562. -/
def R.KEY_CFG : Reg := ⟨0x49004, 4, 1, 1, 0x0, fun _ => 0xe,
  [⟨3, 1, .rl, none⟩]⟩

/-- KEY_CACHE, R562. -/
def R.KEY_CACHE : Reg := ⟨0x49008, 4, 1, 1, 0x0, fun _ => 0,
  [⟨5, 0, .ro, none⟩]⟩

/-- KEY_CCNT, R562. -/
def R.KEY_CCNT : Reg := ⟨0x4900c, 4, 1, 1, 0x0, fun _ => 0,
  [⟨15, 0, .ro, none⟩, ⟨31, 16, .ro, none⟩]⟩

/-- KEY_STAT, R562. -/
def R.KEY_STAT : Reg := ⟨0x49020, 4, 1, 1, 0x0, fun _ => 0,
  [⟨0, 0, .w1c, none⟩, ⟨1, 1, .w1c, none⟩, ⟨2, 2, .w1c, none⟩]⟩

/-- KEY_RKID, R562. -/
def R.KEY_RKID : Reg := ⟨0x49010, 4, 4, 4, 0x0, fun r => Config.rkId r,
  [⟨31, 0, .ro, none⟩]⟩

/-- PKE_STAT, R562. -/
def R.PKE_STAT : Reg := ⟨0x4a000, 4, 1, 1, 0x0, fun _ => 0,
  [⟨0, 0, .ro, none⟩, ⟨1, 1, .w1c, none⟩, ⟨2, 2, .w1c, none⟩, ⟨31, 16, .ro, none⟩]⟩

/-- ACS_CFG, R596. -/
def R.ACS_CFG : Reg := ⟨0x50000, 4, 1, 1, 0x0, fun _ => 0x5d641f58,
  [⟨0, 0, .rw, none⟩, ⟨2, 1, .rl, none⟩, ⟨3, 3, .rl, none⟩, ⟨4, 4, .rl, none⟩, ⟨14, 5, .rl, none⟩, ⟨31, 16, .rl, none⟩]⟩

/-- ACS_UWB, R596. -/
def R.ACS_UWB : Reg := ⟨0x50004, 4, 1, 1, 0x0, fun _ => 0x3f3ca3,
  [⟨1, 0, .rl, none⟩, ⟨7, 2, .rl, none⟩, ⟨14, 8, .rl, none⟩, ⟨21, 16, .rl, none⟩]⟩

/-- ACS_LF, R596. -/
def R.ACS_LF : Reg := ⟨0x50008, 4, 1, 1, 0x0, fun _ => 0x453f2d4b,
  [⟨15, 0, .rl, none⟩, ⟨21, 16, .rl, none⟩, ⟨29, 22, .rl, none⟩, ⟨30, 30, .rl, none⟩]⟩

/-- ACS_REL, R596. -/
def R.ACS_REL : Reg := ⟨0x5000c, 4, 1, 1, 0x0, fun _ => 0x7f3f00,
  [⟨0, 0, .ro, none⟩, ⟨1, 1, .ro, none⟩, ⟨7, 2, .ro, none⟩, ⟨13, 8, .rl, none⟩, ⟨21, 16, .rl, none⟩, ⟨22, 22, .rl, none⟩, ⟨23, 23, .rl, none⟩, ⟨27, 24, .rl, none⟩, ⟨28, 28, .rl, none⟩]⟩

/-- ACS_RELID, R596. -/
def R.ACS_RELID : Reg := ⟨0x50010, 4, 1, 1, 0x0, fun _ => 0x18ffa100,
  [⟨28, 0, .rl, none⟩]⟩

/-- ACS_RELMSG, R596. -/
def R.ACS_RELMSG : Reg := ⟨0x50014, 4, 1, 1, 0x0, fun _ => 0x64,
  [⟨9, 0, .rl, none⟩]⟩

/-- ACS_RELLBL, R596. -/
def R.ACS_RELLBL : Reg := ⟨0x50018, 4, 1, 1, 0x0, fun _ => 0,
  [⟨31, 0, .rl, none⟩]⟩

/-- ACS_STAT, R596. -/
def R.ACS_STAT : Reg := ⟨0x5001c, 4, 1, 1, 0x0, fun _ => 0,
  [⟨1, 0, .ro, none⟩, ⟨2, 2, .ro, none⟩, ⟨3, 3, .ro, none⟩, ⟨4, 4, .ro, none⟩, ⟨5, 5, .ro, none⟩, ⟨8, 8, .w1c, none⟩, ⟨9, 9, .w1c, none⟩, ⟨10, 10, .w1c, none⟩, ⟨11, 11, .w1c, none⟩, ⟨12, 12, .w1c, none⟩, ⟨13, 13, .w1c, none⟩, ⟨14, 14, .w1c, none⟩, ⟨15, 15, .w1c, none⟩, ⟨16, 16, .w1c, none⟩, ⟨17, 17, .w1c, none⟩]⟩

/-- ACS_LOCK, R596. -/
def R.ACS_LOCK : Reg := ⟨0x50020, 4, 1, 1, 0x0, fun _ => 0,
  [⟨2, 0, .ro, none⟩, ⟨5, 3, .ro, none⟩, ⟨31, 16, .ro, none⟩]⟩

/-- ACS_LAST, R596. -/
def R.ACS_LAST : Reg := ⟨0x50024, 4, 1, 1, 0x0, fun _ => 0,
  [⟨5, 0, .ro, none⟩, ⟨6, 6, .ro, none⟩, ⟨7, 7, .ro, none⟩, ⟨11, 8, .ro, none⟩, ⟨27, 16, .ro, none⟩]⟩

/-- ACS_LASTT, R596. -/
def R.ACS_LASTT : Reg := ⟨0x50028, 4, 1, 1, 0x0, fun _ => 0,
  [⟨31, 0, .ro, none⟩]⟩

/-- ACS_DCNT, R596. -/
def R.ACS_DCNT : Reg := ⟨0x5002c, 4, 1, 1, 0x0, fun _ => 0,
  [⟨31, 0, .ro, none⟩]⟩

/-- ACS_RELCNT, R596. -/
def R.ACS_RELCNT : Reg := ⟨0x50030, 4, 1, 1, 0x0, fun _ => 0,
  [⟨31, 0, .ro, none⟩]⟩

/-- ACS_DIAG, R596. -/
def R.ACS_DIAG : Reg := ⟨0x50034, 4, 1, 1, 0x0, fun _ => 0,
  [⟨5, 0, .ro, none⟩, ⟨13, 8, .ro, none⟩, ⟨16, 16, .ro, none⟩]⟩

/-- ACS_ANC, R596. -/
def R.ACS_ANC : Reg := ⟨0x50040, 4, 6, 6, 0x0, fun _ => 0,
  [⟨15, 0, .rl, none⟩]⟩

/-- ACS_SLOTL, R596. -/
def R.ACS_SLOTL : Reg := ⟨0x50100, 16, 64, 64, 0x0, fun _ => 0,
  [⟨31, 0, .ro, none⟩]⟩

/-- ACS_SLOTH, R596. -/
def R.ACS_SLOTH : Reg := ⟨0x50104, 16, 64, 64, 0x0, fun _ => 0,
  [⟨31, 0, .ro, none⟩]⟩

/-- ACS_SLOTF, R596. -/
def R.ACS_SLOTF : Reg := ⟨0x50108, 16, 64, 64, 0x0, fun _ => 0,
  [⟨0, 0, .ro, none⟩, ⟨1, 1, .ro, none⟩, ⟨15, 8, .ro, none⟩]⟩

/-- BOOT_STAT, R624. -/
def R.BOOT_STAT : Reg := ⟨0x58000, 4, 1, 1, 0x0, fun _ => 0,
  [⟨1, 0, .ro, none⟩, ⟨2, 2, .ro, none⟩, ⟨3, 3, .ro, none⟩, ⟨4, 4, .ro, none⟩, ⟨5, 5, .w1c, none⟩, ⟨6, 6, .ro, none⟩, ⟨7, 7, .w1c, none⟩, ⟨8, 8, .w1c, none⟩, ⟨9, 9, .ro, none⟩, ⟨10, 10, .ro, none⟩, ⟨22, 16, .ro, none⟩]⟩

/-- BOOT_BANK, R624. -/
def R.BOOT_BANK : Reg := ⟨0x58004, 4, 1, 1, 0x0, fun _ => 0,
  [⟨6, 0, .ro, none⟩, ⟨14, 8, .ro, none⟩, ⟨22, 16, .ro, none⟩]⟩

/-- BOOT_CTL, R624. -/
def R.BOOT_CTL : Reg := ⟨0x58008, 4, 1, 1, 0x0, fun _ => 0,
  [⟨15, 0, .wo, none⟩]⟩

/-- BOOT_ROMVER, R624. -/
def R.BOOT_ROMVER : Reg := ⟨0x5800c, 4, 1, 1, 0x0, fun _ => Config.romVersion,
  [⟨31, 0, .ro, none⟩]⟩

/-- BOOT_VER, R624. -/
def R.BOOT_VER : Reg := ⟨0x58014, 4, 7, 7, 0x0, fun _ => 0,
  [⟨31, 0, .ro, none⟩]⟩

/-- BOOT_FLOOR, R624. -/
def R.BOOT_FLOOR : Reg := ⟨0x58030, 4, 2, 2, 0x0, fun i => Config.floorWord i,
  [⟨6, 0, .ro, none⟩, ⟨14, 8, .ro, none⟩, ⟨22, 16, .ro, none⟩, ⟨30, 24, .ro, none⟩]⟩

/-- BOOT_MS, R624. -/
def R.BOOT_MS : Reg := ⟨0x58100, 4, 96, 96, 0x0, fun _ => 0,
  [⟨31, 0, .ro, none⟩]⟩

/-- UPD_CFG, R625. -/
def R.UPD_CFG : Reg := ⟨0x59000, 4, 1, 1, 0x0, fun _ => 0x280020,
  [⟨0, 0, .rl, none⟩, ⟨4, 1, .rl, none⟩, ⟨10, 5, .rl, none⟩, ⟨12, 11, .rl, none⟩, ⟨18, 13, .rl, none⟩, ⟨24, 19, .rl, none⟩]⟩

/-- UPD_SPDID, R625. -/
def R.UPD_SPDID : Reg := ⟨0x59004, 4, 1, 1, 0x0, fun _ => 0x78fef100,
  [⟨28, 0, .rl, none⟩, ⟨29, 29, .rl, none⟩, ⟨30, 30, .rl, none⟩]⟩

/-- UPD_GUARD, R625. -/
def R.UPD_GUARD : Reg := ⟨0x59008, 4, 1, 1, 0x0, fun _ => 0xffff,
  [⟨15, 0, .rw, none⟩, ⟨16, 16, .rw, none⟩]⟩

/-- UPD_STAT, R625. -/
def R.UPD_STAT : Reg := ⟨0x5900c, 4, 1, 1, 0x0, fun _ => 0,
  [⟨1, 0, .ro, none⟩, ⟨4, 2, .ro, none⟩, ⟨11, 8, .ro, none⟩, ⟨23, 16, .ro, none⟩, ⟨24, 24, .w1c, none⟩]⟩

/-- UPD_RCVD, R625. -/
def R.UPD_RCVD : Reg := ⟨0x59010, 4, 1, 1, 0x0, fun _ => 0,
  [⟨31, 0, .ro, none⟩]⟩

/-- UPD_STAGED, R625. -/
def R.UPD_STAGED : Reg := ⟨0x59014, 4, 1, 1, 0x0, fun _ => 0,
  [⟨6, 0, .ro, none⟩]⟩

/-- UPD_TRIAL, R625. -/
def R.UPD_TRIAL : Reg := ⟨0x59018, 4, 1, 1, 0x0, fun _ => 0,
  [⟨11, 0, .ro, none⟩]⟩

/-- UPD_CHAIN, R625. -/
def R.UPD_CHAIN : Reg := ⟨0x5901c, 4, 1, 1, 0x0, fun _ => 0,
  [⟨5, 0, .ro, none⟩, ⟨31, 31, .ro, none⟩]⟩

/-- UPD_SVER, R625. -/
def R.UPD_SVER : Reg := ⟨0x59024, 4, 7, 7, 0x0, fun _ => 0,
  [⟨31, 0, .ro, none⟩]⟩

/-- PAIR_CFG, R645. -/
def R.PAIR_CFG : Reg := ⟨0x60000, 4, 1, 1, 0x0, fun _ => 0x6400,
  [⟨0, 0, .rw, none⟩, ⟨6, 1, .rl, none⟩, ⟨15, 8, .rl, none⟩]⟩

/-- PAIR_STAT, R645. -/
def R.PAIR_STAT : Reg := ⟨0x60004, 4, 1, 1, 0x0, fun _ => 0,
  [⟨2, 0, .ro, none⟩, ⟨3, 3, .ro, none⟩, ⟨8, 8, .w1c, none⟩, ⟨9, 9, .w1c, none⟩, ⟨10, 10, .w1c, none⟩, ⟨11, 11, .w1c, none⟩, ⟨12, 12, .w1c, none⟩, ⟨13, 13, .w1c, none⟩, ⟨23, 16, .ro, none⟩]⟩

/-- PAIR_MASK, R645. -/
def R.PAIR_MASK : Reg := ⟨0x6001c, 4, 1, 1, 0x0, fun _ => 0,
  [⟨15, 0, .rl, none⟩, ⟨31, 16, .rl, none⟩]⟩

/-- PAIR_VMASK, R645. -/
def R.PAIR_VMASK : Reg := ⟨0x60020, 4, 1, 1, 0x0, fun _ => 0,
  [⟨15, 0, .rl, none⟩]⟩

/-- PAIR_CNT, R645. -/
def R.PAIR_CNT : Reg := ⟨0x60024, 4, 1, 1, 0x0, fun _ => 0,
  [⟨15, 0, .ro, none⟩, ⟨31, 16, .ro, none⟩]⟩

/-- PAIR_OFFS, R645. -/
def R.PAIR_OFFS : Reg := ⟨0x60028, 4, 1, 1, 0x0, fun _ => 0,
  [⟨31, 0, .ro, none⟩]⟩

/-- PAIR_HSMASK, R645. -/
def R.PAIR_HSMASK : Reg := ⟨0x60010, 4, 3, 3, 0x0, fun _ => 0,
  [⟨31, 0, .rl, none⟩]⟩

/-- GAUGE_ID, R660. -/
def R.GAUGE_ID : Reg := ⟨0x68000, 4, 1, 1, 0x0, fun _ => 0,
  [⟨15, 0, .ro, none⟩, ⟨31, 16, .ro, none⟩]⟩

/-- GAUGE_STAT, R660. -/
def R.GAUGE_STAT : Reg := ⟨0x68004, 4, 1, 1, 0x0, fun _ => 0,
  [⟨1, 0, .ro, none⟩, ⟨2, 2, .ro, none⟩, ⟨3, 3, .ro, none⟩, ⟨4, 4, .ro, none⟩, ⟨31, 16, .ro, none⟩]⟩

/-- GAUGE_PAR, R660. -/
def R.GAUGE_PAR : Reg := ⟨0x68008, 4, 1, 1, 0x0, fun _ => 0,
  [⟨1, 0, .ro, none⟩, ⟨2, 2, .ro, none⟩, ⟨15, 8, .ro, none⟩, ⟨31, 16, .ro, none⟩]⟩

/-- GAUGE_GT, R660. -/
def R.GAUGE_GT : Reg := ⟨0x6800c, 4, 1, 1, 0x0, fun _ => 0,
  [⟨31, 0, .ro, none⟩]⟩

/-- GAUGE_LOGSEQ, R660. -/
def R.GAUGE_LOGSEQ : Reg := ⟨0x68010, 4, 1, 1, 0x0, fun _ => 0,
  [⟨31, 0, .ro, none⟩]⟩

/-- GAUGE_IN, R660. -/
def R.GAUGE_IN : Reg := ⟨0x68014, 4, 1, 1, 0x0, fun _ => 0,
  [⟨5, 0, .ro, none⟩, ⟨15, 8, .ro, none⟩, ⟨23, 16, .ro, none⟩, ⟨31, 24, .ro, none⟩]⟩

/-- GAUGE_GH, R660. -/
def R.GAUGE_GH : Reg := ⟨0x68040, 4, 8, 8, 0x0, fun _ => 0,
  [⟨31, 0, .ro, none⟩]⟩

/-- GAUGE_GM0, R660. -/
def R.GAUGE_GM0 : Reg := ⟨0x68080, 8, 8, 8, 0x0, fun _ => 0,
  [⟨31, 0, .ro, none⟩]⟩

/-- GAUGE_GM1, R660. -/
def R.GAUGE_GM1 : Reg := ⟨0x68084, 8, 8, 8, 0x0, fun _ => 0,
  [⟨15, 0, .ro, none⟩]⟩

/-- GAUGE_GI, R660. -/
def R.GAUGE_GI : Reg := ⟨0x68100, 4, 8, 8, 0x0, fun _ => 0,
  [⟨15, 0, .ro, none⟩, ⟨31, 16, .ro, none⟩]⟩

/-- GAUGE_LOGWIN, R660. -/
def R.GAUGE_LOGWIN : Reg := ⟨0x68800, 4, 512, 512, 0x0, fun _ => 0,
  [⟨31, 0, .ro, none⟩]⟩

def F.SYS_ID_VENDOR : RegField := ⟨R.SYS_ID, 15, 0⟩
def F.SYS_ID_PART : RegField := ⟨R.SYS_ID, 31, 16⟩
def F.SYS_VARIANT_VARIANT : RegField := ⟨R.SYS_VARIANT, 1, 0⟩
def F.SYS_VARIANT_DBGFUSE : RegField := ⟨R.SYS_VARIANT, 2, 2⟩
def F.SYS_VARIANT_SEALFUSE : RegField := ⟨R.SYS_VARIANT, 3, 3⟩
def F.SYS_VARIANT_BUILD : RegField := ⟨R.SYS_VARIANT, 15, 8⟩
def F.SYS_DIESTEP0_SOC : RegField := ⟨R.SYS_DIESTEP0, 3, 0⟩
def F.SYS_DIESTEP0_SP0 : RegField := ⟨R.SYS_DIESTEP0, 7, 4⟩
def F.SYS_DIESTEP0_SP1 : RegField := ⟨R.SYS_DIESTEP0, 11, 8⟩
def F.SYS_DIESTEP0_SP2 : RegField := ⟨R.SYS_DIESTEP0, 15, 12⟩
def F.SYS_DIESTEP0_SP3 : RegField := ⟨R.SYS_DIESTEP0, 19, 16⟩
def F.SYS_DIESTEP0_VD0 : RegField := ⟨R.SYS_DIESTEP0, 23, 20⟩
def F.SYS_DIESTEP0_VD1 : RegField := ⟨R.SYS_DIESTEP0, 27, 24⟩
def F.SYS_DIESTEP0_AR : RegField := ⟨R.SYS_DIESTEP0, 31, 28⟩
def F.SYS_DIESTEP1_MD : RegField := ⟨R.SYS_DIESTEP1, 3, 0⟩
def F.SYS_SERIAL_SERIAL : RegField := ⟨R.SYS_SERIAL, 31, 0⟩
def F.SYS_NODE_NODE : RegField := ⟨R.SYS_NODE, 5, 0⟩
def F.SYS_NODE_HEAD : RegField := ⟨R.SYS_NODE, 8, 8⟩
def F.SYS_NODE_STANDBY : RegField := ⟨R.SYS_NODE, 9, 9⟩
def F.SYS_NODE_VALID : RegField := ⟨R.SYS_NODE, 31, 31⟩
def F.SYS_LOCK_KEY : RegField := ⟨R.SYS_LOCK, 15, 0⟩
def F.SYS_LOCKSTAT_LOCKED : RegField := ⟨R.SYS_LOCKSTAT, 0, 0⟩
def F.SYS_LOCKSTAT_LOCKSRC : RegField := ⟨R.SYS_LOCKSTAT, 1, 1⟩
def F.SYS_LOCKSTAT_BADKEY : RegField := ⟨R.SYS_LOCKSTAT, 2, 2⟩
def F.SYS_LOCKSTAT_LATEWR : RegField := ⟨R.SYS_LOCKSTAT, 3, 3⟩
def F.SYS_LOCKSTAT_LATECNT : RegField := ⟨R.SYS_LOCKSTAT, 31, 16⟩
def F.PWR_STATE_STATE : RegField := ⟨R.PWR_STATE, 2, 0⟩
def F.PWR_STATE_IGN : RegField := ⟨R.PWR_STATE, 3, 3⟩
def F.PWR_STATE_BAND : RegField := ⟨R.PWR_STATE, 6, 4⟩
def F.PWR_STATE_STILLRES : RegField := ⟨R.PWR_STATE, 17, 16⟩
def F.PWR_STATE_REFCAUSE : RegField := ⟨R.PWR_STATE, 22, 20⟩
def F.PWR_CFG_SYSV : RegField := ⟨R.PWR_CFG, 0, 0⟩
def F.PWR_DOMCTL_ON : RegField := ⟨R.PWR_DOMCTL, 2, 0⟩
def F.PWR_DOMCTL_ON1 : RegField := ⟨R.PWR_DOMCTL, 12, 3⟩
def F.PWR_DOMSTAT_PG : RegField := ⟨R.PWR_DOMSTAT, 13, 0⟩
def F.PWR_DOMSTAT_REFUSED : RegField := ⟨R.PWR_DOMSTAT, 16, 16⟩
def F.PWR_DOMSTAT_PGFAIL : RegField := ⟨R.PWR_DOMSTAT, 17, 17⟩
def F.PWR_STILL_KEY : RegField := ⟨R.PWR_STILL, 15, 0⟩
def F.PWR_RSTCAUSE_POR : RegField := ⟨R.PWR_RSTCAUSE, 0, 0⟩
def F.PWR_RSTCAUSE_BROWNOUT : RegField := ⟨R.PWR_RSTCAUSE, 1, 1⟩
def F.PWR_RSTCAUSE_CATCH : RegField := ⟨R.PWR_RSTCAUSE, 2, 2⟩
def F.PWR_RSTCAUSE_WDOG : RegField := ⟨R.PWR_RSTCAUSE, 3, 3⟩
def F.PWR_RSTCAUSE_HASHFAIL : RegField := ⟨R.PWR_RSTCAUSE, 4, 4⟩
def F.PWR_RSTCAUSE_UPDACT : RegField := ⟨R.PWR_RSTCAUSE, 5, 5⟩
def F.PWR_RSTCAUSE_RECSW : RegField := ⟨R.PWR_RSTCAUSE, 6, 6⟩
def F.PWR_RSTCAUSE_IMGHASH : RegField := ⟨R.PWR_RSTCAUSE, 7, 7⟩
def F.PWR_WAKEEN0_EN : RegField := ⟨R.PWR_WAKEEN0, 27, 0⟩
def F.PWR_WAKEEN0_EN1 : RegField := ⟨R.PWR_WAKEEN0, 31, 29⟩
def F.PWR_WAKEEN0_EN2 : RegField := ⟨R.PWR_WAKEEN0, 28, 28⟩
def F.PWR_WAKEEN1_EN : RegField := ⟨R.PWR_WAKEEN1, 12, 0⟩
def F.PWR_WAKESRC0_SRC : RegField := ⟨R.PWR_WAKESRC0, 31, 0⟩
def F.PWR_WAKESRC1_SRC : RegField := ⟨R.PWR_WAKESRC1, 12, 0⟩
def F.PWR_WAKEFIRST_SRC : RegField := ⟨R.PWR_WAKEFIRST, 5, 0⟩
def F.PWR_WAKEFIRST_VALID : RegField := ⟨R.PWR_WAKEFIRST, 31, 31⟩
def F.PWR_WAKETIME_TICKS : RegField := ⟨R.PWR_WAKETIME, 31, 0⟩
def F.PWR_FEED_VOLT : RegField := ⟨R.PWR_FEED, 15, 0⟩
def F.PWR_FEED_CURR : RegField := ⟨R.PWR_FEED, 31, 16⟩
def F.PWR_FEEDSTAT_OC : RegField := ⟨R.PWR_FEEDSTAT, 2, 0⟩
def F.PWR_FEEDSTAT_MISSING : RegField := ⟨R.PWR_FEEDSTAT, 6, 4⟩
def F.PWR_FEEDSTAT_UV : RegField := ⟨R.PWR_FEEDSTAT, 10, 8⟩
def F.PWR_FEEDSTAT_OV : RegField := ⟨R.PWR_FEEDSTAT, 14, 12⟩
def F.PWR_FEEDSTAT_AGGOC : RegField := ⟨R.PWR_FEEDSTAT, 16, 16⟩
def F.PWR_RTC0_TICKS : RegField := ⟨R.PWR_RTC0, 31, 0⟩
def F.PWR_RTC1_TICKS : RegField := ⟨R.PWR_RTC1, 15, 0⟩
def F.PWR_RTC1_STALE : RegField := ⟨R.PWR_RTC1, 31, 31⟩
def F.PWR_RTCALM0_TICKS : RegField := ⟨R.PWR_RTCALM0, 31, 0⟩
def F.PWR_RTCALM1_TICKS : RegField := ⟨R.PWR_RTCALM1, 15, 0⟩
def F.PWR_TEMP_TEMP : RegField := ⟨R.PWR_TEMP, 15, 0⟩
def F.PWR_TEMP_VALID : RegField := ⟨R.PWR_TEMP, 31, 31⟩
def F.CATCH_CTL_INJEN : RegField := ⟨R.CATCH_CTL, 0, 0⟩
def F.CATCH_CTL_INJSAFE : RegField := ⟨R.CATCH_CTL, 1, 1⟩
def F.CATCH_CTL_LOGSTOP : RegField := ⟨R.CATCH_CTL, 2, 2⟩
def F.CATCH_STAT_FIRST : RegField := ⟨R.CATCH_STAT, 7, 0⟩
def F.CATCH_STAT_FIRSTINJ : RegField := ⟨R.CATCH_STAT, 8, 8⟩
def F.CATCH_STAT_FIRSTV : RegField := ⟨R.CATCH_STAT, 31, 31⟩
def F.CATCH_COUNT_CNTC : RegField := ⟨R.CATCH_COUNT, 7, 0⟩
def F.CATCH_COUNT_CNTU : RegField := ⟨R.CATCH_COUNT, 15, 8⟩
def F.CATCH_COUNT_CNTF : RegField := ⟨R.CATCH_COUNT, 23, 16⟩
def F.CATCH_COUNT_CLR : RegField := ⟨R.CATCH_COUNT, 31, 31⟩
def F.CATCH_LOGPTR_NEXT : RegField := ⟨R.CATCH_LOGPTR, 5, 0⟩
def F.CATCH_LOGPTR_WRAP : RegField := ⟨R.CATCH_LOGPTR, 6, 6⟩
def F.CATCH_LOGPTR_LOST : RegField := ⟨R.CATCH_LOGPTR, 15, 8⟩
def F.CATCH_LOGPTR_CLR : RegField := ⟨R.CATCH_LOGPTR, 31, 31⟩
def F.CATCH_INJ_MEM : RegField := ⟨R.CATCH_INJ, 2, 0⟩
def F.CATCH_INJ_MASK : RegField := ⟨R.CATCH_INJ, 9, 3⟩
def F.CATCH_INJ_ARM : RegField := ⟨R.CATCH_INJ, 16, 16⟩
def F.CATCH_INJ_DONE : RegField := ⟨R.CATCH_INJ, 17, 17⟩
def F.CATCH_INJADDR_ADDR : RegField := ⟨R.CATCH_INJADDR, 31, 2⟩
def F.CATCH_STICKY_STICKY : RegField := ⟨R.CATCH_STICKY, 31, 0⟩
def F.CATCH_FORCE_FORCE : RegField := ⟨R.CATCH_FORCE, 31, 0⟩
def F.CATCH_SRC_CLASS : RegField := ⟨R.CATCH_SRC, 1, 0⟩
def F.CATCH_SRC_ACT : RegField := ⟨R.CATCH_SRC, 15, 8⟩
def F.CATCH_SRC_EQ : RegField := ⟨R.CATCH_SRC, 18, 16⟩
def F.CATCH_LOG_WORD : RegField := ⟨R.CATCH_LOG, 31, 0⟩
def F.WEIR_CFG_ARM : RegField := ⟨R.WEIR_CFG, 0, 0⟩
def F.WEIR_CFG_WINDOW : RegField := ⟨R.WEIR_CFG, 12, 4⟩
def F.WEIR_CFG_RECLAIM : RegField := ⟨R.WEIR_CFG, 27, 16⟩
def F.WEIR_HB_SEQ : RegField := ⟨R.WEIR_HB, 15, 0⟩
def F.WEIR_HB_CRC : RegField := ⟨R.WEIR_HB, 23, 16⟩
def F.WEIR_RECLAIM_KEY : RegField := ⟨R.WEIR_RECLAIM, 15, 0⟩
def F.WEIR_STAT_STATE : RegField := ⟨R.WEIR_STAT, 1, 0⟩
def F.WEIR_STAT_MISSED : RegField := ⟨R.WEIR_STAT, 4, 4⟩
def F.WEIR_STAT_SOCRST : RegField := ⟨R.WEIR_STAT, 5, 5⟩
def F.WEIR_STAT_CATCHREQ : RegField := ⟨R.WEIR_STAT, 6, 6⟩
def F.WEIR_STAT_BADWORD : RegField := ⟨R.WEIR_STAT, 7, 7⟩
def F.WEIR_STAT_INST : RegField := ⟨R.WEIR_STAT, 15, 8⟩
def F.WEIR_STAT_LASTSEQ : RegField := ⟨R.WEIR_STAT, 31, 16⟩
def F.WEIR_COUNT_BADCNT : RegField := ⟨R.WEIR_COUNT, 15, 0⟩
def F.WEIR_COUNT_APPLYCNT : RegField := ⟨R.WEIR_COUNT, 31, 16⟩
def F.WEIR_FLASH_PERIOD : RegField := ⟨R.WEIR_FLASH, 15, 0⟩
def F.WEIR_FLASH_ON : RegField := ⟨R.WEIR_FLASH, 31, 16⟩
def F.WEIR_FSTAB_ENTRY : RegField := ⟨R.WEIR_FSTAB, 31, 0⟩
def F.HSW_CFG_EN : RegField := ⟨R.HSW_CFG, 0, 0⟩
def F.HSW_CFG_CLASS : RegField := ⟨R.HSW_CFG, 2, 1⟩
def F.HSW_CFG_PAR : RegField := ⟨R.HSW_CFG, 3, 3⟩
def F.HSW_CFG_MINON : RegField := ⟨R.HSW_CFG, 4, 4⟩
def F.HSW_CFG_SLEW : RegField := ⟨R.HSW_CFG, 6, 5⟩
def F.HSW_CFG_OLEN : RegField := ⟨R.HSW_CFG, 7, 7⟩
def F.HSW_CFG_PUEN : RegField := ⟨R.HSW_CFG, 8, 8⟩
def F.HSW_CFG_OLCNT : RegField := ⟨R.HSW_CFG, 12, 9⟩
def F.HSW_CFG_RETRY : RegField := ⟨R.HSW_CFG, 16, 13⟩
def F.HSW_CFG_BOFF : RegField := ⟨R.HSW_CFG, 24, 17⟩
def F.HSW_CFG_BOFFDBL : RegField := ⟨R.HSW_CFG, 25, 25⟩
def F.HSW_CFG_REARM : RegField := ⟨R.HSW_CFG, 29, 26⟩
def F.HSW_CFG_LAMP : RegField := ⟨R.HSW_CFG, 30, 30⟩
def F.HSW_PWM_PERIOD : RegField := ⟨R.HSW_PWM, 23, 0⟩
def F.HSW_PHASE_PHASE : RegField := ⟨R.HSW_PHASE, 23, 0⟩
def F.HSW_OLTH_OLTH : RegField := ⟨R.HSW_OLTH, 15, 0⟩
def F.HSW_CMD_DUTY : RegField := ⟨R.HSW_CMD, 16, 0⟩
def F.HSW_STAT_STATE : RegField := ⟨R.HSW_STAT, 3, 0⟩
def F.HSW_STAT_LOCKCAUSE : RegField := ⟨R.HSW_STAT, 5, 4⟩
def F.HSW_STAT_LOCKED : RegField := ⟨R.HSW_STAT, 7, 7⟩
def F.HSW_STAT_SC : RegField := ⟨R.HSW_STAT, 8, 8⟩
def F.HSW_STAT_ILIM : RegField := ⟨R.HSW_STAT, 9, 9⟩
def F.HSW_STAT_OT : RegField := ⟨R.HSW_STAT, 10, 10⟩
def F.HSW_STAT_CLAMPX : RegField := ⟨R.HSW_STAT, 11, 11⟩
def F.HSW_STAT_OL : RegField := ⟨R.HSW_STAT, 12, 12⟩
def F.HSW_STAT_SB : RegField := ⟨R.HSW_STAT, 13, 13⟩
def F.HSW_STAT_REV : RegField := ⟨R.HSW_STAT, 14, 14⟩
def F.HSW_STAT_MINADJ : RegField := ⟨R.HSW_STAT, 15, 15⟩
def F.HSW_STAT_OLMETH : RegField := ⟨R.HSW_STAT, 17, 16⟩
def F.HSW_STAT_RETRYLEFT : RegField := ⟨R.HSW_STAT, 21, 18⟩
def F.HSW_STAT_PARFAULT : RegField := ⟨R.HSW_STAT, 22, 22⟩
def F.HSW_MEAS_CURR : RegField := ⟨R.HSW_MEAS, 15, 0⟩
def F.HSW_MEAS_VOUT : RegField := ⟨R.HSW_MEAS, 31, 16⟩
def F.HSW_TJ_TEMP : RegField := ⟨R.HSW_TJ, 15, 0⟩
def F.HSW_TJ_VALID : RegField := ⟨R.HSW_TJ, 31, 31⟩
def F.HSW_CLAMP_WINSUM : RegField := ⟨R.HSW_CLAMP, 23, 0⟩
def F.HSW_LASTCLAMP_LAST : RegField := ⟨R.HSW_LASTCLAMP, 23, 0⟩
def F.HSW_LASTCLAMP_COUNT : RegField := ⟨R.HSW_LASTCLAMP, 31, 24⟩
def F.HB_CFG_EN : RegField := ⟨R.HB_CFG, 0, 0⟩
def F.HB_CFG_FB : RegField := ⟨R.HB_CFG, 1, 1⟩
def F.HB_CFG_MINON : RegField := ⟨R.HB_CFG, 2, 2⟩
def F.HB_CFG_SLEW : RegField := ⟨R.HB_CFG, 4, 3⟩
def F.HB_CFG_OLEN : RegField := ⟨R.HB_CFG, 5, 5⟩
def F.HB_CFG_PUEN : RegField := ⟨R.HB_CFG, 6, 6⟩
def F.HB_CFG_OLCNT : RegField := ⟨R.HB_CFG, 10, 7⟩
def F.HB_CFG_RETRY : RegField := ⟨R.HB_CFG, 14, 11⟩
def F.HB_CFG_BOFF : RegField := ⟨R.HB_CFG, 22, 15⟩
def F.HB_CFG_BOFFDBL : RegField := ⟨R.HB_CFG, 23, 23⟩
def F.HB_CFG_REARM : RegField := ⟨R.HB_CFG, 27, 24⟩
def F.HB_CFG_PWMMODE : RegField := ⟨R.HB_CFG, 28, 28⟩
def F.HB_PWM_PERIOD : RegField := ⟨R.HB_PWM, 23, 0⟩
def F.HB_CMD_DUTY : RegField := ⟨R.HB_CMD, 16, 0⟩
def F.HB_CMD_OUT : RegField := ⟨R.HB_CMD, 18, 17⟩
def F.HB_STAT_STATE : RegField := ⟨R.HB_STAT, 3, 0⟩
def F.HB_STAT_LOCKCAUSE : RegField := ⟨R.HB_STAT, 5, 4⟩
def F.HB_STAT_LOCKED : RegField := ⟨R.HB_STAT, 7, 7⟩
def F.HB_STAT_SC : RegField := ⟨R.HB_STAT, 8, 8⟩
def F.HB_STAT_ILIM : RegField := ⟨R.HB_STAT, 9, 9⟩
def F.HB_STAT_OT : RegField := ⟨R.HB_STAT, 10, 10⟩
def F.HB_STAT_CLAMPX : RegField := ⟨R.HB_STAT, 11, 11⟩
def F.HB_STAT_OL : RegField := ⟨R.HB_STAT, 12, 12⟩
def F.HB_STAT_SB : RegField := ⟨R.HB_STAT, 13, 13⟩
def F.HB_STAT_MINADJ : RegField := ⟨R.HB_STAT, 15, 15⟩
def F.HB_STAT_OLMETH : RegField := ⟨R.HB_STAT, 17, 16⟩
def F.HB_STAT_RETRYLEFT : RegField := ⟨R.HB_STAT, 21, 18⟩
def F.HB_STAT_FBFAULT : RegField := ⟨R.HB_STAT, 22, 22⟩
def F.HB_STAT_SCLOW : RegField := ⟨R.HB_STAT, 23, 23⟩
def F.HB_MEAS_CURR : RegField := ⟨R.HB_MEAS, 15, 0⟩
def F.HB_MEAS_VOUT : RegField := ⟨R.HB_MEAS, 31, 16⟩
def F.HB_TJ_TEMP : RegField := ⟨R.HB_TJ, 15, 0⟩
def F.HB_TJ_VALID : RegField := ⟨R.HB_TJ, 31, 31⟩
def F.HB_CLAMP_WINSUM : RegField := ⟨R.HB_CLAMP, 23, 0⟩
def F.HB_OLTH_OLTH : RegField := ⟨R.HB_OLTH, 15, 0⟩
def F.HB_FBCFG_FUNC : RegField := ⟨R.HB_FBCFG, 1, 0⟩
def F.HB_FBCFG_DIRINV : RegField := ⟨R.HB_FBCFG, 2, 2⟩
def F.HB_WIPE_PARKDI : RegField := ⟨R.HB_WIPE, 5, 0⟩
def F.HB_WIPE_PARKLVL : RegField := ⟨R.HB_WIPE, 6, 6⟩
def F.HB_WIPE_BRAKET : RegField := ⟨R.HB_WIPE, 15, 8⟩
def F.HB_WIPE_PARKTO : RegField := ⟨R.HB_WIPE, 31, 16⟩
def F.HB_WIN_PINCHTH : RegField := ⟨R.HB_WIN, 7, 0⟩
def F.HB_WIN_SEAL : RegField := ⟨R.HB_WIN, 15, 8⟩
def F.HB_WIN_REVR : RegField := ⟨R.HB_WIN, 23, 16⟩
def F.HB_WIN_BLANK : RegField := ⟨R.HB_WIN, 31, 24⟩
def F.HB_WINPOS_POS : RegField := ⟨R.HB_WINPOS, 15, 0⟩
def F.HB_WINPOS_TRAVEL : RegField := ⟨R.HB_WINPOS, 31, 16⟩
def F.HB_LOCK_PULSE : RegField := ⟨R.HB_LOCK, 11, 0⟩
def F.HB_LOCK_GAP : RegField := ⟨R.HB_LOCK, 23, 16⟩
def F.HB_LOCK_REPEAT : RegField := ⟨R.HB_LOCK, 27, 24⟩
def F.HB_FBSTAT_DIR : RegField := ⟨R.HB_FBSTAT, 1, 0⟩
def F.HB_FBSTAT_NORM : RegField := ⟨R.HB_FBSTAT, 2, 2⟩
def F.HB_FBSTAT_PARKED : RegField := ⟨R.HB_FBSTAT, 3, 3⟩
def F.HB_FBSTAT_PARKFAIL : RegField := ⟨R.HB_FBSTAT, 4, 4⟩
def F.HB_FBSTAT_PINCH : RegField := ⟨R.HB_FBSTAT, 5, 5⟩
def F.HB_FBSTAT_ENDSTOP : RegField := ⟨R.HB_FBSTAT, 6, 6⟩
def F.HB_FBSTAT_RIPERR : RegField := ⟨R.HB_FBSTAT, 7, 7⟩
def F.VLV_CFG_EN : RegField := ⟨R.VLV_CFG, 0, 0⟩
def F.VLV_CFG_BNRACT : RegField := ⟨R.VLV_CFG, 1, 1⟩
def F.VLV_CFG_FSAFE : RegField := ⟨R.VLV_CFG, 2, 2⟩
def F.VLV_CFG_OLEN : RegField := ⟨R.VLV_CFG, 3, 3⟩
def F.VLV_CFG_FAULTCNT : RegField := ⟨R.VLV_CFG, 7, 4⟩
def F.VLV_CFG_HYST : RegField := ⟨R.VLV_CFG, 11, 8⟩
def F.VLV_CFG_FSHOLD : RegField := ⟨R.VLV_CFG, 19, 12⟩
def F.VLV_COIL_RREF : RegField := ⟨R.VLV_COIL, 15, 0⟩
def F.VLV_COIL_TAMB : RegField := ⟨R.VLV_COIL, 23, 16⟩
def F.VLV_COIL_TAMBSRC : RegField := ⟨R.VLV_COIL, 24, 24⟩
def F.VLV_COIL_TAU : RegField := ⟨R.VLV_COIL, 31, 25⟩
def F.VLV_THERM_RTH : RegField := ⟨R.VLV_THERM, 7, 0⟩
def F.VLV_THERM_TDER : RegField := ⟨R.VLV_THERM, 15, 8⟩
def F.VLV_THERM_TMAX : RegField := ⟨R.VLV_THERM, 23, 16⟩
def F.VLV_THERM_HMIN : RegField := ⟨R.VLV_THERM, 30, 24⟩
def F.VLV_STAT_STATE : RegField := ⟨R.VLV_STAT, 3, 0⟩
def F.VLV_STAT_LOCKCAUSE : RegField := ⟨R.VLV_STAT, 5, 4⟩
def F.VLV_STAT_HOT : RegField := ⟨R.VLV_STAT, 6, 6⟩
def F.VLV_STAT_LOCKED : RegField := ⟨R.VLV_STAT, 7, 7⟩
def F.VLV_STAT_OPEN : RegField := ⟨R.VLV_STAT, 8, 8⟩
def F.VLV_STAT_SHORT : RegField := ⟨R.VLV_STAT, 9, 9⟩
def F.VLV_STAT_LSSHORT : RegField := ⟨R.VLV_STAT, 10, 10⟩
def F.VLV_STAT_NREACH : RegField := ⟨R.VLV_STAT, 11, 11⟩
def F.VLV_STAT_BNR : RegField := ⟨R.VLV_STAT, 12, 12⟩
def F.VLV_STAT_OVLP : RegField := ⟨R.VLV_STAT, 13, 13⟩
def F.VLV_STAT_DERATE : RegField := ⟨R.VLV_STAT, 14, 14⟩
def F.VLV_STAT_CLAMPX : RegField := ⟨R.VLV_STAT, 15, 15⟩
def F.VLV_STAT_SKIPPED : RegField := ⟨R.VLV_STAT, 16, 16⟩
def F.VLV_STAT_RMEAS : RegField := ⟨R.VLV_STAT, 17, 17⟩
def F.VLV_STAT_ABORTS : RegField := ⟨R.VLV_STAT, 21, 18⟩
def F.VLV_MEAS_RHOLD : RegField := ⟨R.VLV_MEAS, 15, 0⟩
def F.VLV_MEAS_DLY : RegField := ⟨R.VLV_MEAS, 23, 16⟩
def F.VLV_MEAS_IBEND : RegField := ⟨R.VLV_MEAS, 31, 24⟩
def F.VLV_TEMP_TEMP : RegField := ⟨R.VLV_TEMP, 15, 0⟩
def F.VLV_TEMP_FACTOR : RegField := ⟨R.VLV_TEMP, 22, 16⟩
def F.VLV_CLAMP_WINSUM : RegField := ⟨R.VLV_CLAMP, 23, 0⟩
def F.VLV_CLAMP_COUNT : RegField := ⟨R.VLV_CLAMP, 31, 24⟩
def F.VLV_COUNT_FIRED : RegField := ⟨R.VLV_COUNT, 15, 0⟩
def F.VLV_COUNT_NOTFIRED : RegField := ⟨R.VLV_COUNT, 31, 16⟩
def F.VLV_PROFA_TBOOST : RegField := ⟨R.VLV_PROFA, 15, 0⟩
def F.VLV_PROFA_IBOOST : RegField := ⟨R.VLV_PROFA, 23, 16⟩
def F.VLV_PROFA_IPEAK : RegField := ⟨R.VLV_PROFA, 31, 24⟩
def F.VLV_PROFB_TPEAK : RegField := ⟨R.VLV_PROFB, 23, 0⟩
def F.VLV_PROFB_IHOLD : RegField := ⟨R.VLV_PROFB, 31, 24⟩
def F.VLV_PROFC_THOLD : RegField := ⟨R.VLV_PROFC, 27, 0⟩
def F.VLV_PROFC_PDECAY : RegField := ⟨R.VLV_PROFC, 28, 28⟩
def F.VLV_PROFC_HDECAY : RegField := ⟨R.VLV_PROFC, 29, 29⟩
def F.VLV_TSTAT_TSTATE : RegField := ⟨R.VLV_TSTAT, 1, 0⟩
def F.VLV_TSTAT_ENTRIES : RegField := ⟨R.VLV_TSTAT, 10, 2⟩
def F.VLV_TSTAT_PASSES : RegField := ⟨R.VLV_TSTAT, 31, 16⟩
def F.BST_CFG_EN : RegField := ⟨R.BST_CFG, 0, 0⟩
def F.BST_CFG_VSET : RegField := ⟨R.BST_CFG, 10, 1⟩
def F.BST_CFG_RDYM : RegField := ⟨R.BST_CFG, 14, 11⟩
def F.BST_CFG_PLIM : RegField := ⟨R.BST_CFG, 20, 15⟩
def F.BST_STAT_STATE : RegField := ⟨R.BST_STAT, 2, 0⟩
def F.BST_STAT_BFAIL : RegField := ⟨R.BST_STAT, 3, 3⟩
def F.BST_STAT_BOV : RegField := ⟨R.BST_STAT, 4, 4⟩
def F.BST_STAT_BNRSEEN : RegField := ⟨R.BST_STAT, 5, 5⟩
def F.BST_STAT_VOUT : RegField := ⟨R.BST_STAT, 25, 16⟩
def F.BST_BANK_MAXDLY : RegField := ⟨R.BST_BANK, 7, 0⟩
def F.BST_BANK_LSSTOP : RegField := ⟨R.BST_BANK, 8, 8⟩
def F.BST_BSTAT_BSTATE : RegField := ⟨R.BST_BSTAT, 1, 0⟩
def F.BST_BSTAT_BSWF : RegField := ⟨R.BST_BSTAT, 2, 2⟩
def F.BST_BSTAT_LOCKED : RegField := ⟨R.BST_BSTAT, 3, 3⟩
def F.BST_BSTAT_BCAUSE : RegField := ⟨R.BST_BSTAT, 6, 4⟩
def F.BST_BSTAT_OVLPCNT : RegField := ⟨R.BST_BSTAT, 31, 16⟩
def F.BST_TBASE0_TICKS : RegField := ⟨R.BST_TBASE0, 31, 0⟩
def F.BST_TBASE1_TICKS : RegField := ⟨R.BST_TBASE1, 31, 0⟩
def F.LMP_CFG_GAIN : RegField := ⟨R.LMP_CFG, 15, 0⟩
def F.LMP_CFG_CURVE : RegField := ⟨R.LMP_CFG, 16, 16⟩
def F.LMP_CFG_DEXT : RegField := ⟨R.LMP_CFG, 17, 17⟩
def F.LMP_CFG_INGRP : RegField := ⟨R.LMP_CFG, 18, 18⟩
def F.LMP_LEVEL_LEVEL : RegField := ⟨R.LMP_LEVEL, 16, 0⟩
def F.LMP_TARGET_TARGET : RegField := ⟨R.LMP_TARGET, 16, 0⟩
def F.LMP_FADE_REMAIN : RegField := ⟨R.LMP_FADE, 15, 0⟩
def F.LMP_FADE_FADING : RegField := ⟨R.LMP_FADE, 16, 16⟩
def F.LMP_FADE_FROZEN : RegField := ⟨R.LMP_FADE, 17, 17⟩
def F.LMP_FADE_FCUT : RegField := ⟨R.LMP_FADE, 18, 18⟩
def F.LMP_IWIN_ILAMP : RegField := ⟨R.LMP_IWIN, 15, 0⟩
def F.LMP_IWIN_TOL : RegField := ⟨R.LMP_IWIN, 22, 16⟩
def F.LMP_IWIN_PWRLAMP : RegField := ⟨R.LMP_IWIN, 23, 23⟩
def F.LMP_DIAG_LOWI : RegField := ⟨R.LMP_DIAG, 0, 0⟩
def F.LMP_DIAG_HIGHI : RegField := ⟨R.LMP_DIAG, 1, 1⟩
def F.LMP_DIAG_LASTI : RegField := ⟨R.LMP_DIAG, 31, 16⟩
def F.LMP_GRP_CH0 : RegField := ⟨R.LMP_GRP, 6, 0⟩
def F.LMP_GRP_CH1 : RegField := ⟨R.LMP_GRP, 14, 8⟩
def F.LMP_GRP_CH2 : RegField := ⟨R.LMP_GRP, 22, 16⟩
def F.LMP_GRP_EN : RegField := ⟨R.LMP_GRP, 24, 24⟩
def F.LMP_GRP_GERR : RegField := ⟨R.LMP_GRP, 25, 25⟩
def F.LMP_GRP_CURVE : RegField := ⟨R.LMP_GRP, 26, 26⟩
def F.LMP_MIXA_M00 : RegField := ⟨R.LMP_MIXA, 15, 0⟩
def F.LMP_MIXA_M01 : RegField := ⟨R.LMP_MIXA, 31, 16⟩
def F.LMP_MIXB_M02 : RegField := ⟨R.LMP_MIXB, 15, 0⟩
def F.LMP_MIXB_M10 : RegField := ⟨R.LMP_MIXB, 31, 16⟩
def F.LMP_MIXC_M11 : RegField := ⟨R.LMP_MIXC, 15, 0⟩
def F.LMP_MIXC_M12 : RegField := ⟨R.LMP_MIXC, 31, 16⟩
def F.LMP_MIXD_M20 : RegField := ⟨R.LMP_MIXD, 15, 0⟩
def F.LMP_MIXD_M21 : RegField := ⟨R.LMP_MIXD, 31, 16⟩
def F.LMP_MIXE_M22 : RegField := ⟨R.LMP_MIXE, 15, 0⟩
def F.MTX_CFG_EN : RegField := ⟨R.MTX_CFG, 0, 0⟩
def F.MTX_CFG_ICOL : RegField := ⟨R.MTX_CFG, 8, 1⟩
def F.MTX_CFG_VPRE : RegField := ⟨R.MTX_CFG, 12, 9⟩
def F.MTX_CFG_DIAGEN : RegField := ⟨R.MTX_CFG, 13, 13⟩
def F.MTX_CFG_MCNT : RegField := ⟨R.MTX_CFG, 17, 14⟩
def F.MTX_CFG_FSKEEP : RegField := ⟨R.MTX_CFG, 18, 18⟩
def F.MTX_VMX_VSET : RegField := ⟨R.MTX_VMX, 6, 0⟩
def F.MTX_VMX_VOUT : RegField := ⟨R.MTX_VMX, 22, 16⟩
def F.MTX_STAT_STATE : RegField := ⟨R.MTX_STAT, 1, 0⟩
def F.MTX_STAT_LEDOPEN : RegField := ⟨R.MTX_STAT, 2, 2⟩
def F.MTX_STAT_LEDSHORT : RegField := ⟨R.MTX_STAT, 3, 3⟩
def F.MTX_STAT_LINEF : RegField := ⟨R.MTX_STAT, 4, 4⟩
def F.MTX_STAT_COLF : RegField := ⟨R.MTX_STAT, 5, 5⟩
def F.MTX_STAT_VMXF : RegField := ⟨R.MTX_STAT, 6, 6⟩
def F.MTX_STAT_FRAMES : RegField := ⟨R.MTX_STAT, 31, 16⟩
def F.MTX_LFLT_LOPEN : RegField := ⟨R.MTX_LFLT, 15, 0⟩
def F.MTX_LFLT_LSHORT : RegField := ⟨R.MTX_LFLT, 31, 16⟩
def F.MTX_CFLT_CSHORT : RegField := ⟨R.MTX_CFLT, 31, 0⟩
def F.MTX_DCNT_OPENCNT : RegField := ⟨R.MTX_DCNT, 9, 0⟩
def F.MTX_DCNT_SHORTCNT : RegField := ⟨R.MTX_DCNT, 25, 16⟩
def F.PXL_CFG_EN : RegField := ⟨R.PXL_CFG, 0, 0⟩
def F.PXL_CFG_MODE : RegField := ⟨R.PXL_CFG, 1, 1⟩
def F.PXL_CFG_FPER : RegField := ⟨R.PXL_CFG, 13, 2⟩
def F.PXL_CFG_SUPCH : RegField := ⟨R.PXL_CFG, 20, 14⟩
def F.PXL_CFG_SUPEN : RegField := ⟨R.PXL_CFG, 21, 21⟩
def F.PXL_CFG_FSMODE : RegField := ⟨R.PXL_CFG, 23, 22⟩
def F.PXL_CFG_CURVE : RegField := ⟨R.PXL_CFG, 24, 24⟩
def F.PXL_LINK_LSTATE : RegField := ⟨R.PXL_LINK, 2, 0⟩
def F.PXL_LINK_LAMPTO : RegField := ⟨R.PXL_LINK, 15, 4⟩
def F.PXL_LINK_FWDERR : RegField := ⟨R.PXL_LINK, 23, 16⟩
def F.PXL_LINK_BCKERR : RegField := ⟨R.PXL_LINK, 31, 24⟩
def F.PXL_GEOM_WIDTH : RegField := ⟨R.PXL_GEOM, 9, 0⟩
def F.PXL_GEOM_HEIGHT : RegField := ⟨R.PXL_GEOM, 24, 16⟩
def F.PXL_CALID_CALID : RegField := ⟨R.PXL_CALID, 31, 0⟩
def F.PXL_LEVEL_LEVEL : RegField := ⟨R.PXL_LEVEL, 16, 0⟩
def F.PXL_TARGET_TARGET : RegField := ⟨R.PXL_TARGET, 16, 0⟩
def F.PXL_FADE_REMAIN : RegField := ⟨R.PXL_FADE, 15, 0⟩
def F.PXL_FADE_FADING : RegField := ⟨R.PXL_FADE, 16, 16⟩
def F.PXL_FADE_FROZEN : RegField := ⟨R.PXL_FADE, 17, 17⟩
def F.PXL_FADE_XFADING : RegField := ⟨R.PXL_FADE, 18, 18⟩
def F.PXL_STAT_STATE : RegField := ⟨R.PXL_STAT, 2, 0⟩
def F.PXL_STAT_LINKF : RegField := ⟨R.PXL_STAT, 4, 4⟩
def F.PXL_STAT_GEOMERR : RegField := ⟨R.PXL_STAT, 5, 5⟩
def F.PXL_STAT_CALERR : RegField := ⟨R.PXL_STAT, 6, 6⟩
def F.PXL_STAT_LATE : RegField := ⟨R.PXL_STAT, 7, 7⟩
def F.PXL_STAT_ZONEX : RegField := ⟨R.PXL_STAT, 8, 8⟩
def F.PXL_STAT_LAMPOT : RegField := ⟨R.PXL_STAT, 9, 9⟩
def F.PXL_STAT_LAMPERR : RegField := ⟨R.PXL_STAT, 10, 10⟩
def F.PXL_STAT_ASSETERR : RegField := ⟨R.PXL_STAT, 11, 11⟩
def F.PXL_STAT_ZONEMASK : RegField := ⟨R.PXL_STAT, 31, 16⟩
def F.PXL_RENDER_COST : RegField := ⟨R.PXL_RENDER, 23, 0⟩
def F.PXL_RENDER_LATECNT : RegField := ⟨R.PXL_RENDER, 31, 24⟩
def F.PXL_DCNT_OPENCNT : RegField := ⟨R.PXL_DCNT, 14, 0⟩
def F.PXL_DCNT_SHORTCNT : RegField := ⟨R.PXL_DCNT, 30, 16⟩
def F.PXL_LTEMP_TEMP : RegField := ⟨R.PXL_LTEMP, 15, 0⟩
def F.PXL_LTEMP_TWARN : RegField := ⟨R.PXL_LTEMP, 23, 16⟩
def F.PXL_LTEMP_VALID : RegField := ⟨R.PXL_LTEMP, 31, 31⟩
def F.PXL_ZCFG_ZDIM : RegField := ⟨R.PXL_ZCFG, 15, 0⟩
def F.PXL_ZONE_OPENMAX : RegField := ⟨R.PXL_ZONE, 11, 0⟩
def F.PXL_ZONE_SHORTMAX : RegField := ⟨R.PXL_ZONE, 27, 16⟩
def F.PXL_ZONE_ZACT : RegField := ⟨R.PXL_ZONE, 29, 28⟩
def F.PXL_OCURVE_PA : RegField := ⟨R.PXL_OCURVE, 11, 0⟩
def F.PXL_OCURVE_PB : RegField := ⟨R.PXL_OCURVE, 27, 16⟩
def F.PXL_SHOAL_RUN : RegField := ⟨R.PXL_SHOAL, 0, 0⟩
def F.PXL_SHOAL_OVER : RegField := ⟨R.PXL_SHOAL, 1, 1⟩
def F.PXL_LOAD_LOAD : RegField := ⟨R.PXL_LOAD, 15, 0⟩
def F.PXL_LOAD_PEAK : RegField := ⟨R.PXL_LOAD, 31, 16⟩
def F.DIO_DICFG_EN : RegField := ⟨R.DIO_DICFG, 0, 0⟩
def F.DIO_DICFG_MODE : RegField := ⟨R.DIO_DICFG, 3, 1⟩
def F.DIO_DICFG_INV : RegField := ⟨R.DIO_DICFG, 4, 4⟩
def F.DIO_DICFG_WET : RegField := ⟨R.DIO_DICFG, 7, 5⟩
def F.DIO_DICFG_WPULSE : RegField := ⟨R.DIO_DICFG, 8, 8⟩
def F.DIO_DICFG_OWEN : RegField := ⟨R.DIO_DICFG, 9, 9⟩
def F.DIO_DICFG_SPER : RegField := ⟨R.DIO_DICFG, 11, 10⟩
def F.DIO_DICFG_EVCHG : RegField := ⟨R.DIO_DICFG, 12, 12⟩
def F.DIO_DICFG_WKMODE : RegField := ⟨R.DIO_DICFG, 13, 13⟩
def F.DIO_DICFG_WKCNT : RegField := ⟨R.DIO_DICFG, 21, 14⟩
def F.DIO_DIFLT_SETTH : RegField := ⟨R.DIO_DIFLT, 7, 0⟩
def F.DIO_DIFLT_RSTTH : RegField := ⟨R.DIO_DIFLT, 15, 8⟩
def F.DIO_DIFLT_CMAX : RegField := ⟨R.DIO_DIFLT, 23, 16⟩
def F.DIO_DIFLT_CNT : RegField := ⟨R.DIO_DIFLT, 31, 24⟩
def F.DIO_DISTAT_LEVEL : RegField := ⟨R.DIO_DISTAT, 0, 0⟩
def F.DIO_DISTAT_RAW : RegField := ⟨R.DIO_DISTAT, 1, 1⟩
def F.DIO_DISTAT_OW : RegField := ⟨R.DIO_DISTAT, 4, 4⟩
def F.DIO_DISTAT_OVLD : RegField := ⟨R.DIO_DISTAT, 5, 5⟩
def F.DIO_DISTAT_OT : RegField := ⟨R.DIO_DISTAT, 6, 6⟩
def F.DIO_DISTAT_CFGERR : RegField := ⟨R.DIO_DISTAT, 7, 7⟩
def F.DIO_DIMEAS_VIN : RegField := ⟨R.DIO_DIMEAS, 15, 0⟩
def F.DIO_DOCFG_EN : RegField := ⟨R.DIO_DOCFG, 0, 0⟩
def F.DIO_DOCFG_SAFE : RegField := ⟨R.DIO_DOCFG, 2, 1⟩
def F.DIO_DOCFG_SAFELATCH : RegField := ⟨R.DIO_DOCFG, 3, 3⟩
def F.DIO_DOCFG_DOTO : RegField := ⟨R.DIO_DOCFG, 14, 4⟩
def F.DIO_DOCFG_OWEN : RegField := ⟨R.DIO_DOCFG, 15, 15⟩
def F.DIO_DOCMD_ON : RegField := ⟨R.DIO_DOCMD, 0, 0⟩
def F.DIO_DOCMD_EFF : RegField := ⟨R.DIO_DOCMD, 1, 1⟩
def F.DIO_DOSTAT_STATE : RegField := ⟨R.DIO_DOSTAT, 2, 0⟩
def F.DIO_DOSTAT_TOUT : RegField := ⟨R.DIO_DOSTAT, 4, 4⟩
def F.DIO_DOSTAT_OW : RegField := ⟨R.DIO_DOSTAT, 5, 5⟩
def F.DIO_DOSTAT_SB : RegField := ⟨R.DIO_DOSTAT, 6, 6⟩
def F.DIO_DOSTAT_OVLD : RegField := ⟨R.DIO_DOSTAT, 7, 7⟩
def F.DIO_DOSTAT_OT : RegField := ⟨R.DIO_DOSTAT, 8, 8⟩
def F.DIO_DOMEAS_CURR : RegField := ⟨R.DIO_DOMEAS, 15, 0⟩
def F.DIO_DOMEAS_VOUT : RegField := ⟨R.DIO_DOMEAS, 31, 16⟩
def F.DIO_SVCFG_EN : RegField := ⟨R.DIO_SVCFG, 0, 0⟩
def F.DIO_SVCFG_VSEL : RegField := ⟨R.DIO_SVCFG, 2, 1⟩
def F.DIO_SVCFG_SVFS : RegField := ⟨R.DIO_SVCFG, 3, 3⟩
def F.DIO_SVSTAT_STATE : RegField := ⟨R.DIO_SVSTAT, 1, 0⟩
def F.DIO_SVSTAT_OVLD : RegField := ⟨R.DIO_SVSTAT, 4, 4⟩
def F.DIO_SVSTAT_SB : RegField := ⟨R.DIO_SVSTAT, 5, 5⟩
def F.DIO_SVSTAT_OT : RegField := ⟨R.DIO_SVSTAT, 6, 6⟩
def F.DIO_SVSTAT_UV : RegField := ⟨R.DIO_SVSTAT, 7, 7⟩
def F.DIO_SVMEAS_VOUT : RegField := ⟨R.DIO_SVMEAS, 15, 0⟩
def F.DIO_SVMEAS_CURR : RegField := ⟨R.DIO_SVMEAS, 31, 16⟩
def F.DIO_DILVL_LEVEL : RegField := ⟨R.DIO_DILVL, 31, 0⟩
def F.DIO_DICHG_CHG : RegField := ⟨R.DIO_DICHG, 31, 0⟩
def F.CAN_CFG_EN : RegField := ⟨R.CAN_CFG, 0, 0⟩
def F.CAN_CFG_MODE : RegField := ⟨R.CAN_CFG, 2, 1⟩
def F.CAN_CFG_FDEN : RegField := ⟨R.CAN_CFG, 3, 3⟩
def F.CAN_CFG_XLEN : RegField := ⟨R.CAN_CFG, 4, 4⟩
def F.CAN_CFG_FAST : RegField := ⟨R.CAN_CFG, 5, 5⟩
def F.CAN_CFG_BOREC : RegField := ⟨R.CAN_CFG, 6, 6⟩
def F.CAN_CFG_HOSTRX : RegField := ⟨R.CAN_CFG, 7, 7⟩
def F.CAN_CFG_TXTO : RegField := ⟨R.CAN_CFG, 23, 8⟩
def F.CAN_NBT_BRP : RegField := ⟨R.CAN_NBT, 5, 0⟩
def F.CAN_NBT_TSEG1 : RegField := ⟨R.CAN_NBT, 14, 6⟩
def F.CAN_NBT_TSEG2 : RegField := ⟨R.CAN_NBT, 22, 15⟩
def F.CAN_NBT_SJW : RegField := ⟨R.CAN_NBT, 30, 23⟩
def F.CAN_DBT_BRP : RegField := ⟨R.CAN_DBT, 4, 0⟩
def F.CAN_DBT_TSEG1 : RegField := ⟨R.CAN_DBT, 10, 5⟩
def F.CAN_DBT_TSEG2 : RegField := ⟨R.CAN_DBT, 15, 11⟩
def F.CAN_DBT_SJW : RegField := ⟨R.CAN_DBT, 20, 16⟩
def F.CAN_DBT_TDCEN : RegField := ⟨R.CAN_DBT, 21, 21⟩
def F.CAN_DBT_TDCO : RegField := ⟨R.CAN_DBT, 28, 22⟩
def F.CAN_SLP_IDLET : RegField := ⟨R.CAN_SLP, 9, 0⟩
def F.CAN_SLP_AWAKEMAX : RegField := ⟨R.CAN_SLP, 21, 10⟩
def F.CAN_SLP_KAPOL : RegField := ⟨R.CAN_SLP, 23, 22⟩
def F.CAN_SLP_WKMODE : RegField := ⟨R.CAN_SLP, 25, 24⟩
def F.CAN_SLP_WFILT : RegField := ⟨R.CAN_SLP, 30, 26⟩
def F.CAN_WUFID_ID : RegField := ⟨R.CAN_WUFID, 28, 0⟩
def F.CAN_WUFID_IDE : RegField := ⟨R.CAN_WUFID, 29, 29⟩
def F.CAN_WUFMSK_MASK : RegField := ⟨R.CAN_WUFMSK, 28, 0⟩
def F.CAN_WUFCTL_DLC : RegField := ⟨R.CAN_WUFCTL, 3, 0⟩
def F.CAN_WUFCTL_DLCEN : RegField := ⟨R.CAN_WUFCTL, 4, 4⟩
def F.CAN_WUFCTL_RATE : RegField := ⟨R.CAN_WUFCTL, 6, 5⟩
def F.CAN_WUFCTL_WTO : RegField := ⟨R.CAN_WUFCTL, 10, 7⟩
def F.CAN_STAT_STATE : RegField := ⟨R.CAN_STAT, 2, 0⟩
def F.CAN_STAT_WAKESRC : RegField := ⟨R.CAN_STAT, 6, 4⟩
def F.CAN_STAT_BUSDIAG : RegField := ⟨R.CAN_STAT, 10, 8⟩
def F.CAN_STAT_BUSOFFX : RegField := ⟨R.CAN_STAT, 16, 16⟩
def F.CAN_STAT_EPASS : RegField := ⟨R.CAN_STAT, 17, 17⟩
def F.CAN_STAT_WAKEEV : RegField := ⟨R.CAN_STAT, 18, 18⟩
def F.CAN_STAT_SLEPT : RegField := ⟨R.CAN_STAT, 19, 19⟩
def F.CAN_STAT_KEEPX : RegField := ⟨R.CAN_STAT, 20, 20⟩
def F.CAN_STAT_RXLOST : RegField := ⟨R.CAN_STAT, 21, 21⟩
def F.CAN_STAT_TXFAIL : RegField := ⟨R.CAN_STAT, 22, 22⟩
def F.CAN_STAT_BUSF : RegField := ⟨R.CAN_STAT, 23, 23⟩
def F.CAN_STAT_CFGERR : RegField := ⟨R.CAN_STAT, 24, 24⟩
def F.CAN_ERR_TEC : RegField := ⟨R.CAN_ERR, 7, 0⟩
def F.CAN_ERR_REC : RegField := ⟨R.CAN_ERR, 15, 8⟩
def F.CAN_ERR_LEC : RegField := ⟨R.CAN_ERR, 18, 16⟩
def F.CAN_ERR_RXLOSTCNT : RegField := ⟨R.CAN_ERR, 31, 24⟩
def F.CAN_KEEP_ID : RegField := ⟨R.CAN_KEEP, 28, 0⟩
def F.CAN_KEEP_IDE : RegField := ⟨R.CAN_KEEP, 29, 29⟩
def F.CAN_KEEP_VALID : RegField := ⟨R.CAN_KEEP, 31, 31⟩
def F.CAN_WUFDATA_MASK : RegField := ⟨R.CAN_WUFDATA, 31, 0⟩
def F.CAN_FID_ID : RegField := ⟨R.CAN_FID, 28, 0⟩
def F.CAN_FID_IDE : RegField := ⟨R.CAN_FID, 29, 29⟩
def F.CAN_FID_EN : RegField := ⟨R.CAN_FID, 31, 31⟩
def F.CAN_FMSK_MASK : RegField := ⟨R.CAN_FMSK, 28, 0⟩
def F.LIN_CFG_EN : RegField := ⟨R.LIN_CFG, 0, 0⟩
def F.LIN_CFG_ROLE : RegField := ⟨R.LIN_CFG, 1, 1⟩
def F.LIN_CFG_CKS : RegField := ⟨R.LIN_CFG, 2, 2⟩
def F.LIN_CFG_AUTOSLP : RegField := ⟨R.LIN_CFG, 3, 3⟩
def F.LIN_CFG_HOSTRX : RegField := ⟨R.LIN_CFG, 4, 4⟩
def F.LIN_CFG_BAUD : RegField := ⟨R.LIN_CFG, 19, 5⟩
def F.LIN_CFG_WFILT : RegField := ⟨R.LIN_CFG, 24, 20⟩
def F.LIN_SLP_IDLET : RegField := ⟨R.LIN_SLP, 9, 0⟩
def F.LIN_SLP_AWAKEMAX : RegField := ⟨R.LIN_SLP, 21, 10⟩
def F.LIN_SLP_KAPOL : RegField := ⟨R.LIN_SLP, 23, 22⟩
def F.LIN_STAT_STATE : RegField := ⟨R.LIN_STAT, 2, 0⟩
def F.LIN_STAT_WAKESRC : RegField := ⟨R.LIN_STAT, 6, 4⟩
def F.LIN_STAT_BUSDIAG : RegField := ⟨R.LIN_STAT, 9, 8⟩
def F.LIN_STAT_NORESP : RegField := ⟨R.LIN_STAT, 16, 16⟩
def F.LIN_STAT_CKSERR : RegField := ⟨R.LIN_STAT, 17, 17⟩
def F.LIN_STAT_SYNCERR : RegField := ⟨R.LIN_STAT, 18, 18⟩
def F.LIN_STAT_WAKEEV : RegField := ⟨R.LIN_STAT, 19, 19⟩
def F.LIN_STAT_SLEPT : RegField := ⟨R.LIN_STAT, 20, 20⟩
def F.LIN_STAT_KEEPX : RegField := ⟨R.LIN_STAT, 21, 21⟩
def F.LIN_STAT_RXLOST : RegField := ⟨R.LIN_STAT, 22, 22⟩
def F.LIN_STAT_BUSF : RegField := ⟨R.LIN_STAT, 23, 23⟩
def F.LIN_STAT_CFGERR : RegField := ⟨R.LIN_STAT, 24, 24⟩
def F.LIN_KEEP_PID : RegField := ⟨R.LIN_KEEP, 7, 0⟩
def F.LIN_KEEP_VALID : RegField := ⟨R.LIN_KEEP, 31, 31⟩
def F.ETH_PCFG_EN : RegField := ⟨R.ETH_PCFG, 0, 0⟩
def F.ETH_PCFG_ROLE : RegField := ⟨R.ETH_PCFG, 1, 1⟩
def F.ETH_PCFG_PLCA : RegField := ⟨R.ETH_PCFG, 2, 2⟩
def F.ETH_PCFG_PLCAID : RegField := ⟨R.ETH_PCFG, 7, 3⟩
def F.ETH_PCFG_PLCACNT : RegField := ⟨R.ETH_PCFG, 13, 8⟩
def F.ETH_PCFG_TC10ACC : RegField := ⟨R.ETH_PCFG, 14, 14⟩
def F.ETH_PCFG_WFWD : RegField := ⟨R.ETH_PCFG, 15, 15⟩
def F.ETH_SLP_WFILT : RegField := ⟨R.ETH_SLP, 27, 24⟩
def F.ETH_SLP_IDLET : RegField := ⟨R.ETH_SLP, 9, 0⟩
def F.ETH_SLP_AWAKEMAX : RegField := ⟨R.ETH_SLP, 21, 10⟩
def F.ETH_SLP_KAPOL : RegField := ⟨R.ETH_SLP, 23, 22⟩
def F.ETH_PSTAT_STATE : RegField := ⟨R.ETH_PSTAT, 2, 0⟩
def F.ETH_PSTAT_LINK : RegField := ⟨R.ETH_PSTAT, 3, 3⟩
def F.ETH_PSTAT_WAKESRC : RegField := ⟨R.ETH_PSTAT, 6, 4⟩
def F.ETH_PSTAT_CABDIAG : RegField := ⟨R.ETH_PSTAT, 10, 8⟩
def F.ETH_PSTAT_LINKDN : RegField := ⟨R.ETH_PSTAT, 16, 16⟩
def F.ETH_PSTAT_CABF : RegField := ⟨R.ETH_PSTAT, 17, 17⟩
def F.ETH_PSTAT_POLINV : RegField := ⟨R.ETH_PSTAT, 18, 18⟩
def F.ETH_PSTAT_PLCAERR : RegField := ⟨R.ETH_PSTAT, 19, 19⟩
def F.ETH_PSTAT_WAKEEV : RegField := ⟨R.ETH_PSTAT, 20, 20⟩
def F.ETH_PSTAT_SLEPT : RegField := ⟨R.ETH_PSTAT, 21, 21⟩
def F.ETH_PSTAT_KEEPX : RegField := ⟨R.ETH_PSTAT, 22, 22⟩
def F.ETH_PSTAT_RXLOST : RegField := ⟨R.ETH_PSTAT, 23, 23⟩
def F.ETH_PSTAT_SLPREJ : RegField := ⟨R.ETH_PSTAT, 24, 24⟩
def F.ETH_CNT_RXFR : RegField := ⟨R.ETH_CNT, 15, 0⟩
def F.ETH_CNT_DROP : RegField := ⟨R.ETH_CNT, 31, 16⟩
def F.ETH_KEEP0_MAC : RegField := ⟨R.ETH_KEEP0, 31, 0⟩
def F.ETH_KEEP1_MAC : RegField := ⟨R.ETH_KEEP1, 15, 0⟩
def F.ETH_KEEP1_VALID : RegField := ⟨R.ETH_KEEP1, 31, 31⟩
def F.ETH_MAC0_MAC : RegField := ⟨R.ETH_MAC0, 31, 0⟩
def F.ETH_MAC1_MAC : RegField := ⟨R.ETH_MAC1, 15, 0⟩
def F.ETH_SWCFG_AGE : RegField := ⟨R.ETH_SWCFG, 11, 0⟩
def F.ETH_SWCFG_MCEN : RegField := ⟨R.ETH_SWCFG, 12, 12⟩
def F.ETH_VLAN_VID : RegField := ⟨R.ETH_VLAN, 11, 0⟩
def F.ETH_VLAN_MEMBER : RegField := ⟨R.ETH_VLAN, 16, 12⟩
def F.ETH_VLAN_UNTAG : RegField := ⟨R.ETH_VLAN, 21, 17⟩
def F.ETH_VLAN_EN : RegField := ⟨R.ETH_VLAN, 31, 31⟩
def F.GW_CFG_EN : RegField := ⟨R.GW_CFG, 0, 0⟩
def F.GW_CFG_RKSEL : RegField := ⟨R.GW_CFG, 2, 1⟩
def F.GW_CFG_TLOCK : RegField := ⟨R.GW_CFG, 3, 3⟩
def F.GW_EPOCH_EPOCH : RegField := ⟨R.GW_EPOCH, 31, 0⟩
def F.GW_STAT_AUTHFAIL : RegField := ⟨R.GW_STAT, 0, 0⟩
def F.GW_STAT_REPLAY : RegField := ⟨R.GW_STAT, 1, 1⟩
def F.GW_STAT_QDROP : RegField := ⟨R.GW_STAT, 2, 2⟩
def F.GW_STAT_AGEDROP : RegField := ⟨R.GW_STAT, 3, 3⟩
def F.GW_STAT_FMTDROP : RegField := ⟨R.GW_STAT, 4, 4⟩
def F.GW_STAT_SECDROP : RegField := ⟨R.GW_STAT, 5, 5⟩
def F.GW_STAT_EXCDROP : RegField := ⟨R.GW_STAT, 6, 6⟩
def F.GW_STAT_FRESHEND : RegField := ⟨R.GW_STAT, 7, 7⟩
def F.GW_STAT_SECIDX : RegField := ⟨R.GW_STAT, 29, 16⟩
def F.GW_TBL_VALIDCNT : RegField := ⟨R.GW_TBL, 14, 0⟩
def F.GW_TBL_GEN : RegField := ⟨R.GW_TBL, 31, 16⟩
def F.GW_LOAD_RATE : RegField := ⟨R.GW_LOAD, 15, 0⟩
def F.GW_LOAD_PEAK : RegField := ⟨R.GW_LOAD, 31, 16⟩
def F.GW_PORT_INEN : RegField := ⟨R.GW_PORT, 0, 0⟩
def F.GW_PORT_WAKE : RegField := ⟨R.GW_PORT, 1, 1⟩
def F.GW_PORT_QMAX : RegField := ⟨R.GW_PORT, 9, 2⟩
def F.GW_PIN_IN : RegField := ⟨R.GW_PIN, 15, 0⟩
def F.GW_PIN_MISS : RegField := ⟨R.GW_PIN, 31, 16⟩
def F.GW_POUT_OUT : RegField := ⟨R.GW_POUT, 15, 0⟩
def F.GW_POUT_DROP : RegField := ⟨R.GW_POUT, 31, 16⟩
def F.GW_ETHDST0_MAC : RegField := ⟨R.GW_ETHDST0, 31, 0⟩
def F.GW_ETHDST1_MAC : RegField := ⟨R.GW_ETHDST1, 15, 0⟩
def F.GW_ETHDST1_VID : RegField := ⟨R.GW_ETHDST1, 27, 16⟩
def F.GW_ETHDST1_PCP : RegField := ⟨R.GW_ETHDST1, 30, 28⟩
def F.GW_ETHDST1_TAG : RegField := ⟨R.GW_ETHDST1, 31, 31⟩
def F.GW_ETHDST2_STREAM : RegField := ⟨R.GW_ETHDST2, 31, 0⟩
def F.GW_ETHDST3_STREAM : RegField := ⟨R.GW_ETHDST3, 31, 0⟩
def F.HQ_SQBASE_ADDR : RegField := ⟨R.HQ_SQBASE, 31, 6⟩
def F.HQ_SQBASEH_ADDR : RegField := ⟨R.HQ_SQBASEH, 31, 0⟩
def F.HQ_CQBASE_ADDR : RegField := ⟨R.HQ_CQBASE, 31, 6⟩
def F.HQ_CQBASEH_ADDR : RegField := ⟨R.HQ_CQBASEH, 31, 0⟩
def F.HQ_QCFG_EN : RegField := ⟨R.HQ_QCFG, 0, 0⟩
def F.HQ_QCFG_SQLOG : RegField := ⟨R.HQ_QCFG, 4, 1⟩
def F.HQ_QCFG_CQLOG : RegField := ⟨R.HQ_QCFG, 8, 5⟩
def F.HQ_QCFG_VEC : RegField := ⟨R.HQ_QCFG, 14, 9⟩
def F.HQ_QCFG_WEIGHT : RegField := ⟨R.HQ_QCFG, 18, 15⟩
def F.HQ_QCOAL_CNT : RegField := ⟨R.HQ_QCOAL, 7, 0⟩
def F.HQ_QCOAL_TIME : RegField := ⟨R.HQ_QCOAL, 17, 8⟩
def F.HQ_QSTAT_STATE : RegField := ⟨R.HQ_QSTAT, 1, 0⟩
def F.HQ_QSTAT_DBERR : RegField := ⟨R.HQ_QSTAT, 4, 4⟩
def F.HQ_QSTAT_FETCHERR : RegField := ⟨R.HQ_QSTAT, 5, 5⟩
def F.HQ_QSTAT_PLDERR : RegField := ⟨R.HQ_QSTAT, 6, 6⟩
def F.HQ_QSTAT_CPLERR : RegField := ⟨R.HQ_QSTAT, 7, 7⟩
def F.HQ_QSTAT_CFGERR : RegField := ⟨R.HQ_QSTAT, 8, 8⟩
def F.HQ_QSTAT_INFLIGHT : RegField := ⟨R.HQ_QSTAT, 31, 16⟩
def F.HQ_QIDX_SQHEAD : RegField := ⟨R.HQ_QIDX, 15, 0⟩
def F.HQ_QIDX_CQTAIL : RegField := ⟨R.HQ_QIDX, 31, 16⟩
def F.HQ_EQBASE_ADDR : RegField := ⟨R.HQ_EQBASE, 31, 6⟩
def F.HQ_EQBASEH_ADDR : RegField := ⟨R.HQ_EQBASEH, 31, 0⟩
def F.HQ_EQCFG_EN : RegField := ⟨R.HQ_EQCFG, 0, 0⟩
def F.HQ_EQCFG_LOG : RegField := ⟨R.HQ_EQCFG, 4, 1⟩
def F.HQ_EQCFG_VEC : RegField := ⟨R.HQ_EQCFG, 10, 5⟩
def F.HQ_EQSTAT_STATE : RegField := ⟨R.HQ_EQSTAT, 1, 0⟩
def F.HQ_EQSTAT_OVF : RegField := ⟨R.HQ_EQSTAT, 4, 4⟩
def F.HQ_EQSTAT_WRERR : RegField := ⟨R.HQ_EQSTAT, 5, 5⟩
def F.HQ_EQSTAT_CFGERR : RegField := ⟨R.HQ_EQSTAT, 6, 6⟩
def F.HQ_EQSTAT_LOST : RegField := ⟨R.HQ_EQSTAT, 31, 16⟩
def F.HQ_EQIDX_TAIL : RegField := ⟨R.HQ_EQIDX, 15, 0⟩
def F.HQ_EQIDX_HEAD : RegField := ⟨R.HQ_EQIDX, 31, 16⟩
def F.HQ_LINK_UP : RegField := ⟨R.HQ_LINK, 0, 0⟩
def F.HQ_LINK_SPEED : RegField := ⟨R.HQ_LINK, 2, 1⟩
def F.HQ_LINK_WIDTH : RegField := ⟨R.HQ_LINK, 4, 3⟩
def F.HQ_LINK_D3 : RegField := ⟨R.HQ_LINK, 5, 5⟩
def F.HQ_LINK_FLRCNT : RegField := ⟨R.HQ_LINK, 15, 8⟩
def F.HQ_LINK_DOWNX : RegField := ⟨R.HQ_LINK, 16, 16⟩
def F.HQ_LINK_DEGR : RegField := ⟨R.HQ_LINK, 17, 17⟩
def F.HQ_MBXBASE_ADDR : RegField := ⟨R.HQ_MBXBASE, 31, 17⟩
def F.HQ_MBXSTAT_PEND : RegField := ⟨R.HQ_MBXSTAT, 15, 0⟩
def F.HQ_MBXDONE_SLOT : RegField := ⟨R.HQ_MBXDONE, 3, 0⟩
def F.HQ_MBXDONE_STATUS : RegField := ⟨R.HQ_MBXDONE, 15, 8⟩
def F.HQ_MBXDONE_RLEN : RegField := ⟨R.HQ_MBXDONE, 28, 16⟩
def F.CHN_CFG_EN : RegField := ⟨R.CHN_CFG, 0, 0⟩
def F.CHN_CFG_WAKEFWD : RegField := ⟨R.CHN_CFG, 1, 1⟩
def F.CHN_CFG_EVDUP : RegField := ⟨R.CHN_CFG, 2, 2⟩
def F.CHN_CFG_STOPERR : RegField := ⟨R.CHN_CFG, 3, 3⟩
def F.CHN_CFG_EQ : RegField := ⟨R.CHN_CFG, 6, 4⟩
def F.CHN_CFG_PFAGE : RegField := ⟨R.CHN_CFG, 15, 8⟩
def F.CHN_CFG_LOCKWAIT : RegField := ⟨R.CHN_CFG, 23, 16⟩
def F.CHN_CTL_START : RegField := ⟨R.CHN_CTL, 1, 0⟩
def F.CHN_STAT_STATE : RegField := ⟨R.CHN_STAT, 1, 0⟩
def F.CHN_STAT_RING : RegField := ⟨R.CHN_STAT, 3, 3⟩
def F.CHN_STAT_NCOUNT : RegField := ⟨R.CHN_STAT, 10, 4⟩
def F.CHN_STAT_JOINX : RegField := ⟨R.CHN_STAT, 16, 16⟩
def F.CHN_STAT_LOSTX : RegField := ⟨R.CHN_STAT, 17, 17⟩
def F.CHN_STAT_WRFAIL : RegField := ⟨R.CHN_STAT, 18, 18⟩
def F.CHN_STAT_RDFAIL : RegField := ⟨R.CHN_STAT, 19, 19⟩
def F.CHN_STAT_LOCKTO : RegField := ⟨R.CHN_STAT, 20, 20⟩
def F.CHN_STAT_HEADX : RegField := ⟨R.CHN_STAT, 21, 21⟩
def F.CHN_STAT_ENUMERR : RegField := ⟨R.CHN_STAT, 22, 22⟩
def F.CHN_TGT_NODE : RegField := ⟨R.CHN_TGT, 5, 0⟩
def F.CHN_ERRCNT_FAILS : RegField := ⟨R.CHN_ERRCNT, 15, 0⟩
def F.CHN_LOCK_HELD : RegField := ⟨R.CHN_LOCK, 0, 0⟩
def F.CHN_LOCK_HOLDER : RegField := ⟨R.CHN_LOCK, 6, 1⟩
def F.CHN_PORT_LSTATE : RegField := ⟨R.CHN_PORT, 1, 0⟩
def F.CHN_PORT_ENERGY : RegField := ⟨R.CHN_PORT, 2, 2⟩
def F.CHN_PORT_LINKDN : RegField := ⟨R.CHN_PORT, 8, 8⟩
def F.CHN_PORT_RESENDX : RegField := ⟨R.CHN_PORT, 9, 9⟩
def F.CHN_PORT_WIREX : RegField := ⟨R.CHN_PORT, 10, 10⟩
def F.CHN_PORT_RESENDCNT : RegField := ⟨R.CHN_PORT, 31, 16⟩
def F.CHN_REACH_REACH : RegField := ⟨R.CHN_REACH, 31, 0⟩
def F.CHN_FRMASK_FR : RegField := ⟨R.CHN_FRMASK, 31, 0⟩
def F.CHN_STOPPED_STOP : RegField := ⟨R.CHN_STOPPED, 31, 0⟩
def F.CHN_ERRLOG0_OFFSET : RegField := ⟨R.CHN_ERRLOG0, 19, 0⟩
def F.CHN_ERRLOG1_NODE : RegField := ⟨R.CHN_ERRLOG1, 5, 0⟩
def F.CHN_ERRLOG1_KIND : RegField := ⟨R.CHN_ERRLOG1, 7, 6⟩
def F.CHN_ERRLOG1_CAUSE : RegField := ⟨R.CHN_ERRLOG1, 11, 8⟩
def F.CHN_ERRLOG1_INDEX : RegField := ⟨R.CHN_ERRLOG1, 17, 12⟩
def F.CHN_ERRLOG1_VALID : RegField := ⟨R.CHN_ERRLOG1, 31, 31⟩
def F.CHN_RBASE_BASE : RegField := ⟨R.CHN_RBASE, 19, 2⟩
def F.CHN_RBASE_EN : RegField := ⟨R.CHN_RBASE, 31, 31⟩
def F.CHN_RLIM_LIMIT : RegField := ⟨R.CHN_RLIM, 19, 2⟩
def F.CHN_SER0_SERIAL : RegField := ⟨R.CHN_SER0, 31, 0⟩
def F.CHN_SER1_SERIAL : RegField := ⟨R.CHN_SER1, 31, 0⟩
def F.CDC_SPEED_SPEED : RegField := ⟨R.CDC_SPEED, 10, 0⟩
def F.CDC_SPEED_SLOW : RegField := ⟨R.CDC_SPEED, 16, 16⟩
def F.CDC_SUM_FLAG : RegField := ⟨R.CDC_SUM, 31, 0⟩
def F.CDC_CTL_CLRPEAK : RegField := ⟨R.CDC_CTL, 0, 0⟩
def F.CDC_ISTAT_RUN : RegField := ⟨R.CDC_ISTAT, 0, 0⟩
def F.CDC_ISTAT_GATED : RegField := ⟨R.CDC_ISTAT, 1, 1⟩
def F.CDC_ISTAT_WAKEF : RegField := ⟨R.CDC_ISTAT, 2, 2⟩
def F.CDC_ISTAT_WAKECNT : RegField := ⟨R.CDC_ISTAT, 31, 16⟩
def F.CDC_XSTAT_PEND : RegField := ⟨R.CDC_XSTAT, 7, 0⟩
def F.CDC_XSTAT_PEAK : RegField := ⟨R.CDC_XSTAT, 15, 8⟩
def F.CDC_XSTAT_SAT : RegField := ⟨R.CDC_XSTAT, 16, 16⟩
def F.CDC_XSTAT_STALE : RegField := ⟨R.CDC_XSTAT, 17, 17⟩
def F.CDC_XSTAT_DROP : RegField := ⟨R.CDC_XSTAT, 18, 18⟩
def F.CDC_XSTAT_LOST : RegField := ⟨R.CDC_XSTAT, 31, 24⟩
def F.HEP_CCTL_RUN : RegField := ⟨R.HEP_CCTL, 0, 0⟩
def F.HEP_CCTL_AUTORUN : RegField := ⟨R.HEP_CCTL, 1, 1⟩
def F.HEP_CENTRY_ENTRY : RegField := ⟨R.HEP_CENTRY, 31, 2⟩
def F.HEP_SWDCFG_EN : RegField := ⟨R.HEP_SWDCFG, 0, 0⟩
def F.HEP_SWDCFG_WINDOW : RegField := ⟨R.HEP_SWDCFG, 14, 4⟩
def F.HEP_SWDKICK_KEY : RegField := ⟨R.HEP_SWDKICK, 15, 0⟩
def F.HEP_SWDSTAT_REMAIN : RegField := ⟨R.HEP_SWDSTAT, 10, 0⟩
def F.HEP_CRST_CORE : RegField := ⟨R.HEP_CRST, 3, 0⟩
def F.HEP_CRST_KEY : RegField := ⟨R.HEP_CRST, 31, 16⟩
def F.HEP_STAT_STATE : RegField := ⟨R.HEP_STAT, 2, 0⟩
def F.HEP_STAT_PRIV : RegField := ⟨R.HEP_STAT, 3, 3⟩
def F.HEP_STAT_LASTVEC : RegField := ⟨R.HEP_STAT, 13, 8⟩
def F.HEP_STAT_RSTCNT : RegField := ⟨R.HEP_STAT, 23, 16⟩
def F.HEP_ROUTE_TGT : RegField := ⟨R.HEP_ROUTE, 4, 0⟩
def F.HEP_ROUTE_LINE : RegField := ⟨R.HEP_ROUTE, 11, 8⟩
def F.CIPH_CFG_EN : RegField := ⟨R.CIPH_CFG, 0, 0⟩
def F.CIPH_STAT_AUTHF : RegField := ⟨R.CIPH_STAT, 0, 0⟩
def F.CIPH_STAT_RNGF : RegField := ⟨R.CIPH_STAT, 1, 1⟩
def F.CIPH_STAT_JOBERR : RegField := ⟨R.CIPH_STAT, 2, 2⟩
def F.CIPH_STAT_JOBS : RegField := ⟨R.CIPH_STAT, 12, 8⟩
def F.CIPH_CNT_AUTHCNT : RegField := ⟨R.CIPH_CNT, 15, 0⟩
def F.CIPH_CNT_JOBCNT : RegField := ⟨R.CIPH_CNT, 31, 16⟩
def F.CIPH_LOAD_RATE : RegField := ⟨R.CIPH_LOAD, 15, 0⟩
def F.CIPH_LOAD_PEAK : RegField := ⟨R.CIPH_LOAD, 31, 16⟩
def F.CIPH_RNG_RSTATE : RegField := ⟨R.CIPH_RNG, 1, 0⟩
def F.CIPH_RNG_RCTF : RegField := ⟨R.CIPH_RNG, 2, 2⟩
def F.CIPH_RNG_APTF : RegField := ⟨R.CIPH_RNG, 3, 3⟩
def F.CIPH_RNG_STF : RegField := ⟨R.CIPH_RNG, 4, 4⟩
def F.CIPH_RNG_RESEEDS : RegField := ⟨R.CIPH_RNG, 31, 16⟩
def F.CIPH_FWBASE_ADDR : RegField := ⟨R.CIPH_FWBASE, 31, 6⟩
def F.CIPH_FWCTL_PROD : RegField := ⟨R.CIPH_FWCTL, 5, 0⟩
def F.CIPH_FWCTL_HEAD : RegField := ⟨R.CIPH_FWCTL, 13, 8⟩
def F.CIPH_FWCTL_CHEAD : RegField := ⟨R.CIPH_FWCTL, 21, 16⟩
def F.KEY_RKSTAT_RKVALID : RegField := ⟨R.KEY_RKSTAT, 3, 0⟩
def F.KEY_RKSTAT_RKERR : RegField := ⟨R.KEY_RKSTAT, 7, 4⟩
def F.KEY_CFG_HOSTRK : RegField := ⟨R.KEY_CFG, 3, 1⟩
def F.KEY_CACHE_VALID : RegField := ⟨R.KEY_CACHE, 5, 0⟩
def F.KEY_CCNT_HITS : RegField := ⟨R.KEY_CCNT, 15, 0⟩
def F.KEY_CCNT_MISSES : RegField := ⟨R.KEY_CCNT, 31, 16⟩
def F.KEY_STAT_RKREF : RegField := ⟨R.KEY_STAT, 0, 0⟩
def F.KEY_STAT_KDFERR : RegField := ⟨R.KEY_STAT, 1, 1⟩
def F.KEY_STAT_RKLOADF : RegField := ⟨R.KEY_STAT, 2, 2⟩
def F.KEY_RKID_ID : RegField := ⟨R.KEY_RKID, 31, 0⟩
def F.PKE_STAT_BUSY : RegField := ⟨R.PKE_STAT, 0, 0⟩
def F.PKE_STAT_FCHK : RegField := ⟨R.PKE_STAT, 1, 1⟩
def F.PKE_STAT_STF : RegField := ⟨R.PKE_STAT, 2, 2⟩
def F.PKE_STAT_OPS : RegField := ⟨R.PKE_STAT, 31, 16⟩
def F.ACS_CFG_EN : RegField := ⟨R.ACS_CFG, 0, 0⟩
def F.ACS_CFG_RKSEL : RegField := ⟨R.ACS_CFG, 2, 1⟩
def F.ACS_CFG_STILLPOLL : RegField := ⟨R.ACS_CFG, 3, 3⟩
def F.ACS_CFG_LFPOLL : RegField := ⟨R.ACS_CFG, 4, 4⟩
def F.ACS_CFG_RUNPER : RegField := ⟨R.ACS_CFG, 14, 5⟩
def F.ACS_CFG_PANID : RegField := ⟨R.ACS_CFG, 31, 16⟩
def F.ACS_UWB_CHMASK : RegField := ⟨R.ACS_UWB, 1, 0⟩
def F.ACS_UWB_RMAX : RegField := ⟨R.ACS_UWB, 7, 2⟩
def F.ACS_UWB_STSQ : RegField := ⟨R.ACS_UWB, 14, 8⟩
def F.ACS_UWB_AMASK : RegField := ⟨R.ACS_UWB, 21, 16⟩
def F.ACS_LF_WAKEID : RegField := ⟨R.ACS_LF, 15, 0⟩
def F.ACS_LF_LFMASK : RegField := ⟨R.ACS_LF, 21, 16⟩
def F.ACS_LF_LFMIN : RegField := ⟨R.ACS_LF, 29, 22⟩
def F.ACS_LF_UHFBAND : RegField := ⟨R.ACS_LF, 30, 30⟩
def F.ACS_REL_RELEASED : RegField := ⟨R.ACS_REL, 0, 0⟩
def F.ACS_REL_MASTER : RegField := ⟨R.ACS_REL, 1, 1⟩
def F.ACS_REL_SLOT : RegField := ⟨R.ACS_REL, 7, 2⟩
def F.ACS_REL_UAZ : RegField := ⟨R.ACS_REL, 13, 8⟩
def F.ACS_REL_LFZ : RegField := ⟨R.ACS_REL, 21, 16⟩
def F.ACS_REL_IGNEND : RegField := ⟨R.ACS_REL, 22, 22⟩
def F.ACS_REL_FSKEEP : RegField := ⟨R.ACS_REL, 23, 23⟩
def F.ACS_REL_RELCH : RegField := ⟨R.ACS_REL, 27, 24⟩
def F.ACS_REL_RELMSG : RegField := ⟨R.ACS_REL, 28, 28⟩
def F.ACS_RELID_ID : RegField := ⟨R.ACS_RELID, 28, 0⟩
def F.ACS_RELMSG_RELPER : RegField := ⟨R.ACS_RELMSG, 9, 0⟩
def F.ACS_RELLBL_LBL : RegField := ⟨R.ACS_RELLBL, 31, 0⟩
def F.ACS_STAT_STATE : RegField := ⟨R.ACS_STAT, 1, 0⟩
def F.ACS_STAT_LOCKOUT : RegField := ⟨R.ACS_STAT, 2, 2⟩
def F.ACS_STAT_OWNLOCK : RegField := ⟨R.ACS_STAT, 3, 3⟩
def F.ACS_STAT_ENRPEND : RegField := ⟨R.ACS_STAT, 4, 4⟩
def F.ACS_STAT_CODEOK : RegField := ⟨R.ACS_STAT, 5, 5⟩
def F.ACS_STAT_CRYPTF : RegField := ⟨R.ACS_STAT, 8, 8⟩
def F.ACS_STAT_RELAYX : RegField := ⟨R.ACS_STAT, 9, 9⟩
def F.ACS_STAT_RANGEX : RegField := ⟨R.ACS_STAT, 10, 10⟩
def F.ACS_STAT_LFWINX : RegField := ⟨R.ACS_STAT, 11, 11⟩
def F.ACS_STAT_COLLX : RegField := ⟨R.ACS_STAT, 12, 12⟩
def F.ACS_STAT_LOCKX : RegField := ⟨R.ACS_STAT, 13, 13⟩
def F.ACS_STAT_ANTF : RegField := ⟨R.ACS_STAT, 14, 14⟩
def F.ACS_STAT_RECERR : RegField := ⟨R.ACS_STAT, 15, 15⟩
def F.ACS_STAT_CODEF : RegField := ⟨R.ACS_STAT, 16, 16⟩
def F.ACS_STAT_RELDROP : RegField := ⟨R.ACS_STAT, 17, 17⟩
def F.ACS_LOCK_FAILS : RegField := ⟨R.ACS_LOCK, 2, 0⟩
def F.ACS_LOCK_LEVEL : RegField := ⟨R.ACS_LOCK, 5, 3⟩
def F.ACS_LOCK_REMAIN : RegField := ⟨R.ACS_LOCK, 31, 16⟩
def F.ACS_LAST_SLOT : RegField := ⟨R.ACS_LAST, 5, 0⟩
def F.ACS_LAST_MASTER : RegField := ⟨R.ACS_LAST, 6, 6⟩
def F.ACS_LAST_VALID : RegField := ⟨R.ACS_LAST, 7, 7⟩
def F.ACS_LAST_ZONE : RegField := ⟨R.ACS_LAST, 11, 8⟩
def F.ACS_LAST_RANGE : RegField := ⟨R.ACS_LAST, 27, 16⟩
def F.ACS_LASTT_TICKS : RegField := ⟨R.ACS_LASTT, 31, 0⟩
def F.ACS_DCNT_DCNT : RegField := ⟨R.ACS_DCNT, 31, 0⟩
def F.ACS_RELCNT_CNT : RegField := ⟨R.ACS_RELCNT, 31, 0⟩
def F.ACS_DIAG_UAF : RegField := ⟨R.ACS_DIAG, 5, 0⟩
def F.ACS_DIAG_LFF : RegField := ⟨R.ACS_DIAG, 13, 8⟩
def F.ACS_DIAG_UHFF : RegField := ⟨R.ACS_DIAG, 16, 16⟩
def F.ACS_ANC_DELAY : RegField := ⟨R.ACS_ANC, 15, 0⟩
def F.ACS_SLOTL_TID : RegField := ⟨R.ACS_SLOTL, 31, 0⟩
def F.ACS_SLOTH_TID : RegField := ⟨R.ACS_SLOTH, 31, 0⟩
def F.ACS_SLOTF_VALID : RegField := ⟨R.ACS_SLOTF, 0, 0⟩
def F.ACS_SLOTF_RELEN : RegField := ⟨R.ACS_SLOTF, 1, 1⟩
def F.ACS_SLOTF_GEN : RegField := ⟨R.ACS_SLOTF, 15, 8⟩
def F.BOOT_STAT_PHASE : RegField := ⟨R.BOOT_STAT, 1, 0⟩
def F.BOOT_STAT_RECOVERY : RegField := ⟨R.BOOT_STAT, 2, 2⟩
def F.BOOT_STAT_FALLBACK : RegField := ⟨R.BOOT_STAT, 3, 3⟩
def F.BOOT_STAT_COMPATF : RegField := ⟨R.BOOT_STAT, 4, 4⟩
def F.BOOT_STAT_RHASHF : RegField := ⟨R.BOOT_STAT, 5, 5⟩
def F.BOOT_STAT_ACTRST : RegField := ⟨R.BOOT_STAT, 6, 6⟩
def F.BOOT_STAT_ROLLEDBACK : RegField := ⟨R.BOOT_STAT, 7, 7⟩
def F.BOOT_STAT_BCRERR : RegField := ⟨R.BOOT_STAT, 8, 8⟩
def F.BOOT_STAT_DBGSEEN : RegField := ⟨R.BOOT_STAT, 9, 9⟩
def F.BOOT_STAT_RECREQ : RegField := ⟨R.BOOT_STAT, 10, 10⟩
def F.BOOT_STAT_CFAIL : RegField := ⟨R.BOOT_STAT, 22, 16⟩
def F.BOOT_BANK_BOOTED : RegField := ⟨R.BOOT_BANK, 6, 0⟩
def F.BOOT_BANK_ACTIVE : RegField := ⟨R.BOOT_BANK, 14, 8⟩
def F.BOOT_BANK_TRIAL : RegField := ⟨R.BOOT_BANK, 22, 16⟩
def F.BOOT_CTL_KEY : RegField := ⟨R.BOOT_CTL, 15, 0⟩
def F.BOOT_ROMVER_VER : RegField := ⟨R.BOOT_ROMVER, 31, 0⟩
def F.BOOT_VER_VERSION : RegField := ⟨R.BOOT_VER, 31, 0⟩
def F.BOOT_FLOOR_FLOOR : RegField := ⟨R.BOOT_FLOOR, 6, 0⟩
def F.BOOT_FLOOR_FLOOR1 : RegField := ⟨R.BOOT_FLOOR, 14, 8⟩
def F.BOOT_FLOOR_FLOOR2 : RegField := ⟨R.BOOT_FLOOR, 22, 16⟩
def F.BOOT_FLOOR_FLOOR3 : RegField := ⟨R.BOOT_FLOOR, 30, 24⟩
def F.BOOT_MS_MS : RegField := ⟨R.BOOT_MS, 31, 0⟩
def F.UPD_CFG_SPDSRC : RegField := ⟨R.UPD_CFG, 0, 0⟩
def F.UPD_CFG_SPDCH : RegField := ⟨R.UPD_CFG, 4, 1⟩
def F.UPD_CFG_SPDBYTE : RegField := ⟨R.UPD_CFG, 10, 5⟩
def F.UPD_CFG_PBSRC : RegField := ⟨R.UPD_CFG, 12, 11⟩
def F.UPD_CFG_PBDI : RegField := ⟨R.UPD_CFG, 18, 13⟩
def F.UPD_CFG_TRIALTO : RegField := ⟨R.UPD_CFG, 24, 19⟩
def F.UPD_SPDID_ID : RegField := ⟨R.UPD_SPDID, 28, 0⟩
def F.UPD_SPDID_IDE : RegField := ⟨R.UPD_SPDID, 29, 29⟩
def F.UPD_SPDID_SAIGN : RegField := ⟨R.UPD_SPDID, 30, 30⟩
def F.UPD_GUARD_SPEED : RegField := ⟨R.UPD_GUARD, 15, 0⟩
def F.UPD_GUARD_PARK : RegField := ⟨R.UPD_GUARD, 16, 16⟩
def F.UPD_STAT_STATE : RegField := ⟨R.UPD_STAT, 1, 0⟩
def F.UPD_STAT_COMP : RegField := ⟨R.UPD_STAT, 4, 2⟩
def F.UPD_STAT_GUARDS : RegField := ⟨R.UPD_STAT, 11, 8⟩
def F.UPD_STAT_LASTCAUSE : RegField := ⟨R.UPD_STAT, 23, 16⟩
def F.UPD_STAT_REVERTED : RegField := ⟨R.UPD_STAT, 24, 24⟩
def F.UPD_RCVD_BYTES : RegField := ⟨R.UPD_RCVD, 31, 0⟩
def F.UPD_STAGED_STAGED : RegField := ⟨R.UPD_STAGED, 6, 0⟩
def F.UPD_TRIAL_REMAIN : RegField := ⟨R.UPD_TRIAL, 11, 0⟩
def F.UPD_CHAIN_NODE : RegField := ⟨R.UPD_CHAIN, 5, 0⟩
def F.UPD_CHAIN_VALID : RegField := ⟨R.UPD_CHAIN, 31, 31⟩
def F.UPD_SVER_VERSION : RegField := ⟨R.UPD_SVER, 31, 0⟩
def F.PAIR_CFG_EN : RegField := ⟨R.PAIR_CFG, 0, 0⟩
def F.PAIR_CFG_PARTNER : RegField := ⟨R.PAIR_CFG, 6, 1⟩
def F.PAIR_CFG_LUTO : RegField := ⟨R.PAIR_CFG, 15, 8⟩
def F.PAIR_STAT_ROLE : RegField := ⟨R.PAIR_STAT, 2, 0⟩
def F.PAIR_STAT_LINK : RegField := ⟨R.PAIR_STAT, 3, 3⟩
def F.PAIR_STAT_LINKDN : RegField := ⟨R.PAIR_STAT, 8, 8⟩
def F.PAIR_STAT_TAKEOVER : RegField := ⟨R.PAIR_STAT, 9, 9⟩
def F.PAIR_STAT_FOLLOST : RegField := ⟨R.PAIR_STAT, 10, 10⟩
def F.PAIR_STAT_CFGERR : RegField := ⟨R.PAIR_STAT, 11, 11⟩
def F.PAIR_STAT_SPLIT : RegField := ⟨R.PAIR_STAT, 12, 12⟩
def F.PAIR_STAT_MIRERR : RegField := ⟨R.PAIR_STAT, 13, 13⟩
def F.PAIR_STAT_SNAPAGE : RegField := ⟨R.PAIR_STAT, 23, 16⟩
def F.PAIR_MASK_HB : RegField := ⟨R.PAIR_MASK, 15, 0⟩
def F.PAIR_MASK_GRP : RegField := ⟨R.PAIR_MASK, 31, 16⟩
def F.PAIR_VMASK_TBL : RegField := ⟨R.PAIR_VMASK, 15, 0⟩
def F.PAIR_CNT_TAKEOVERS : RegField := ⟨R.PAIR_CNT, 15, 0⟩
def F.PAIR_CNT_MISSED : RegField := ⟨R.PAIR_CNT, 31, 16⟩
def F.PAIR_OFFS_OFFSET : RegField := ⟨R.PAIR_OFFS, 31, 0⟩
def F.PAIR_HSMASK_HS : RegField := ⟨R.PAIR_HSMASK, 31, 0⟩
def F.GAUGE_ID_ROMVER : RegField := ⟨R.GAUGE_ID, 15, 0⟩
def F.GAUGE_ID_ROMCRC : RegField := ⟨R.GAUGE_ID, 31, 16⟩
def F.GAUGE_STAT_STATE : RegField := ⟨R.GAUGE_STAT, 1, 0⟩
def F.GAUGE_STAT_SEALED : RegField := ⟨R.GAUGE_STAT, 2, 2⟩
def F.GAUGE_STAT_CERT : RegField := ⟨R.GAUGE_STAT, 3, 3⟩
def F.GAUGE_STAT_VALID : RegField := ⟨R.GAUGE_STAT, 4, 4⟩
def F.GAUGE_STAT_SNAPCNT : RegField := ⟨R.GAUGE_STAT, 31, 16⟩
def F.GAUGE_PAR_SET : RegField := ⟨R.GAUGE_PAR, 1, 0⟩
def F.GAUGE_PAR_PVALID : RegField := ⟨R.GAUGE_PAR, 2, 2⟩
def F.GAUGE_PAR_PARVER : RegField := ⟨R.GAUGE_PAR, 15, 8⟩
def F.GAUGE_PAR_PCRC : RegField := ⟨R.GAUGE_PAR, 31, 16⟩
def F.GAUGE_GT_GT : RegField := ⟨R.GAUGE_GT, 31, 0⟩
def F.GAUGE_LOGSEQ_SEQ : RegField := ⟨R.GAUGE_LOGSEQ, 31, 0⟩
def F.GAUGE_IN_GIN : RegField := ⟨R.GAUGE_IN, 5, 0⟩
def F.GAUGE_IN_COUNTING : RegField := ⟨R.GAUGE_IN, 15, 8⟩
def F.GAUGE_IN_OVL : RegField := ⟨R.GAUGE_IN, 23, 16⟩
def F.GAUGE_IN_REV : RegField := ⟨R.GAUGE_IN, 31, 24⟩
def F.GAUGE_GH_SECONDS : RegField := ⟨R.GAUGE_GH, 31, 0⟩
def F.GAUGE_GM0_MWH : RegField := ⟨R.GAUGE_GM0, 31, 0⟩
def F.GAUGE_GM1_MWH : RegField := ⟨R.GAUGE_GM1, 15, 0⟩
def F.GAUGE_GI_CURR : RegField := ⟨R.GAUGE_GI, 15, 0⟩
def F.GAUGE_GI_VOUT : RegField := ⟨R.GAUGE_GI, 31, 16⟩
def F.GAUGE_LOGWIN_WORD : RegField := ⟨R.GAUGE_LOGWIN, 31, 0⟩

def regTable0 : List Reg := [R.SYS_ID, R.SYS_VARIANT, R.SYS_DIESTEP0, R.SYS_DIESTEP1, R.SYS_SERIAL, R.SYS_NODE, R.SYS_LOCK, R.SYS_LOCKSTAT, R.PWR_STATE, R.PWR_CFG, R.PWR_DOMCTL, R.PWR_DOMSTAT, R.PWR_STILL, R.PWR_RSTCAUSE, R.PWR_WAKEEN0, R.PWR_WAKEEN1, R.PWR_WAKESRC0, R.PWR_WAKESRC1, R.PWR_WAKEFIRST, R.PWR_WAKETIME, R.PWR_FEED, R.PWR_FEEDSTAT, R.PWR_RTC0, R.PWR_RTC1, R.PWR_RTCALM0, R.PWR_RTCALM1, R.PWR_TEMP, R.CATCH_CTL, R.CATCH_STAT, R.CATCH_COUNT, R.CATCH_LOGPTR, R.CATCH_INJ, R.CATCH_INJADDR, R.CATCH_STICKY, R.CATCH_FORCE, R.CATCH_SRC, R.CATCH_LOG, R.WEIR_CFG, R.WEIR_HB, R.WEIR_RECLAIM]
def regTable1 : List Reg := [R.WEIR_STAT, R.WEIR_COUNT, R.WEIR_FLASH, R.WEIR_FSTAB, R.HSW_CFG, R.HSW_PWM, R.HSW_PHASE, R.HSW_OLTH, R.HSW_CMD, R.HSW_STAT, R.HSW_MEAS, R.HSW_TJ, R.HSW_CLAMP, R.HSW_LASTCLAMP, R.HB_CFG, R.HB_PWM, R.HB_CMD, R.HB_STAT, R.HB_MEAS, R.HB_TJ, R.HB_CLAMP, R.HB_OLTH, R.HB_FBCFG, R.HB_WIPE, R.HB_WIN, R.HB_WINPOS, R.HB_LOCK, R.HB_FBSTAT, R.VLV_CFG, R.VLV_COIL, R.VLV_THERM, R.VLV_STAT, R.VLV_MEAS, R.VLV_TEMP, R.VLV_CLAMP, R.VLV_COUNT, R.VLV_PROFA, R.VLV_PROFB, R.VLV_PROFC, R.VLV_TSTAT]
def regTable2 : List Reg := [R.BST_CFG, R.BST_STAT, R.BST_BANK, R.BST_BSTAT, R.BST_TBASE0, R.BST_TBASE1, R.LMP_CFG, R.LMP_LEVEL, R.LMP_TARGET, R.LMP_FADE, R.LMP_IWIN, R.LMP_DIAG, R.LMP_GRP, R.LMP_MIXA, R.LMP_MIXB, R.LMP_MIXC, R.LMP_MIXD, R.LMP_MIXE, R.MTX_CFG, R.MTX_VMX, R.MTX_STAT, R.MTX_LFLT, R.MTX_CFLT, R.MTX_DCNT, R.PXL_CFG, R.PXL_LINK, R.PXL_GEOM, R.PXL_CALID, R.PXL_LEVEL, R.PXL_TARGET, R.PXL_FADE, R.PXL_STAT, R.PXL_RENDER, R.PXL_DCNT, R.PXL_LTEMP, R.PXL_ZCFG, R.PXL_ZONE, R.PXL_OCURVE, R.PXL_SHOAL, R.PXL_LOAD]
def regTable3 : List Reg := [R.DIO_DICFG, R.DIO_DIFLT, R.DIO_DISTAT, R.DIO_DIMEAS, R.DIO_DOCFG, R.DIO_DOCMD, R.DIO_DOSTAT, R.DIO_DOMEAS, R.DIO_SVCFG, R.DIO_SVSTAT, R.DIO_SVMEAS, R.DIO_DILVL, R.DIO_DICHG, R.CAN_CFG, R.CAN_NBT, R.CAN_DBT, R.CAN_SLP, R.CAN_WUFID, R.CAN_WUFMSK, R.CAN_WUFCTL, R.CAN_STAT, R.CAN_ERR, R.CAN_KEEP, R.CAN_WUFDATA, R.CAN_FID, R.CAN_FMSK, R.LIN_CFG, R.LIN_SLP, R.LIN_STAT, R.LIN_KEEP, R.ETH_PCFG, R.ETH_SLP, R.ETH_PSTAT, R.ETH_CNT, R.ETH_KEEP0, R.ETH_KEEP1, R.ETH_MAC0, R.ETH_MAC1, R.ETH_SWCFG, R.ETH_VLAN]
def regTable4 : List Reg := [R.GW_CFG, R.GW_EPOCH, R.GW_STAT, R.GW_TBL, R.GW_LOAD, R.GW_PORT, R.GW_PIN, R.GW_POUT, R.GW_ETHDST0, R.GW_ETHDST1, R.GW_ETHDST2, R.GW_ETHDST3, R.HQ_SQBASE, R.HQ_SQBASEH, R.HQ_CQBASE, R.HQ_CQBASEH, R.HQ_QCFG, R.HQ_QCOAL, R.HQ_QSTAT, R.HQ_QIDX, R.HQ_EQBASE, R.HQ_EQBASEH, R.HQ_EQCFG, R.HQ_EQSTAT, R.HQ_EQIDX, R.HQ_LINK, R.HQ_MBXBASE, R.HQ_MBXSTAT, R.HQ_MBXDONE, R.CHN_CFG, R.CHN_CTL, R.CHN_STAT, R.CHN_TGT, R.CHN_ERRCNT, R.CHN_LOCK, R.CHN_PORT, R.CHN_REACH, R.CHN_FRMASK, R.CHN_STOPPED, R.CHN_ERRLOG0]
def regTable5 : List Reg := [R.CHN_ERRLOG1, R.CHN_RBASE, R.CHN_RLIM, R.CHN_SER0, R.CHN_SER1, R.CDC_SPEED, R.CDC_SUM, R.CDC_CTL, R.CDC_ISTAT, R.CDC_XSTAT, R.HEP_CCTL, R.HEP_CENTRY, R.HEP_SWDCFG, R.HEP_SWDKICK, R.HEP_SWDSTAT, R.HEP_CRST, R.HEP_STAT, R.HEP_ROUTE, R.CIPH_CFG, R.CIPH_STAT, R.CIPH_CNT, R.CIPH_LOAD, R.CIPH_RNG, R.CIPH_FWBASE, R.CIPH_FWCTL, R.KEY_RKSTAT, R.KEY_CFG, R.KEY_CACHE, R.KEY_CCNT, R.KEY_STAT, R.KEY_RKID, R.PKE_STAT, R.ACS_CFG, R.ACS_UWB, R.ACS_LF, R.ACS_REL, R.ACS_RELID, R.ACS_RELMSG, R.ACS_RELLBL, R.ACS_STAT]
def regTable6 : List Reg := [R.ACS_LOCK, R.ACS_LAST, R.ACS_LASTT, R.ACS_DCNT, R.ACS_RELCNT, R.ACS_DIAG, R.ACS_ANC, R.ACS_SLOTL, R.ACS_SLOTH, R.ACS_SLOTF, R.BOOT_STAT, R.BOOT_BANK, R.BOOT_CTL, R.BOOT_ROMVER, R.BOOT_VER, R.BOOT_FLOOR, R.BOOT_MS, R.UPD_CFG, R.UPD_SPDID, R.UPD_GUARD, R.UPD_STAT, R.UPD_RCVD, R.UPD_STAGED, R.UPD_TRIAL, R.UPD_CHAIN, R.UPD_SVER, R.PAIR_CFG, R.PAIR_STAT, R.PAIR_MASK, R.PAIR_VMASK, R.PAIR_CNT, R.PAIR_OFFS, R.PAIR_HSMASK, R.GAUGE_ID, R.GAUGE_STAT, R.GAUGE_PAR, R.GAUGE_GT, R.GAUGE_LOGSEQ, R.GAUGE_IN, R.GAUGE_GH]
def regTable7 : List Reg := [R.GAUGE_GM0, R.GAUGE_GM1, R.GAUGE_GI, R.GAUGE_LOGWIN]

/-- Every register of the set-up register space. -/
def regTable : List Reg := regTable0 ++ regTable1 ++ regTable2 ++ regTable3 ++ regTable4 ++ regTable5 ++ regTable6 ++ regTable7

end Sys2Proof.Machine
end

