-- ==== Sys2Proof/Machine/Ops.lean ====
section
/-! DEFINITION. The named operations over tables, registers and memory. Every read and write of a register
goes through `rd`, `wr`, `getF` and `setF`; every read and write of a byte through `Mem.read` and `Mem.write`. -/
namespace Sys2Proof.Machine

/-! ### Bits -/

/-- Bits [hi:lo] of a word. -/
def bits (w : Nat) (hi lo : Nat) : Nat := w / 2 ^ lo % 2 ^ (hi + 1 - lo)

/-- Bit i of a word. -/
def bit (w i : Nat) : Bool := w / 2 ^ i % 2 == 1

/-- w with bits [hi:lo] replaced by v, of which only the field's width is taken. -/
def putBits (w : Nat) (hi lo v : Nat) : Nat :=
  w % 2 ^ lo + (v % 2 ^ (hi + 1 - lo)) * 2 ^ lo + w / 2 ^ (hi + 1) * 2 ^ (hi + 1)

/-- 1 for true. -/
def b2n (b : Bool) : Nat := if b then 1 else 0

/-- A value stored as the nearer limit of a range. -/
def clampTo (lo hi v : Nat) : Nat := if v < lo then lo else if hi < v then hi else v

/-- Sum that stops at a field's maximum. -/
def satAdd (mx a b : Nat) : Nat := if mx < a + b then mx else a + b

/-- Number n as `k` little-endian bytes (R19). -/
def leBytes : Nat → Nat → List Byte
  | 0, _ => []
  | k + 1, n => BitVec.ofNat 8 n :: leBytes k (n / 256)

/-- Little-endian bytes as a number (R19). -/
def ofLe : List Byte → Nat
  | [] => 0
  | b :: bs => b.toNat + 256 * ofLe bs

/-- The number that `w` bits in two's complement stand for. -/
def sgn (w n : Nat) : Int := if n % 2 ^ w < 2 ^ (w - 1) then (n % 2 ^ w : Nat) else (n % 2 ^ w : Nat) - (2 ^ w : Nat)

/-- An integer as `w` bits in two's complement. -/
def unsgn (w : Nat) (i : Int) : Nat := (i % (2 ^ w : Nat)).toNat

/-! ### Tables -/

/-- Entry n of a table, or d. -/
def Tab.get {α : Type} (d : α) : Tab α → Nat → α
  | [], _ => d
  | (k, v) :: t, n => if k = n then v else Tab.get d t n

/-- The table with entry n set. -/
def Tab.put {α : Type} : Tab α → Nat → α → Tab α
  | [], n, v => [(n, v)]
  | (k, w) :: t, n, v =>
    if n < k then (n, v) :: (k, w) :: t
    else if n = k then (n, v) :: t
    else (k, w) :: Tab.put t n v

/-- The table without the entries whose number p holds of: they go back to their initial value. -/
def Tab.drop {α : Type} (t : Tab α) (p : Nat → Bool) : Tab α := t.filter fun e => !p e.1

/-- Entry numbers strictly rising: the canonical form of a table. -/
def Tab.wf {α : Type} : Tab α → Bool
  | [] => true
  | [_] => true
  | (a, _) :: (b, y) :: t => decide (a < b) && Tab.wf ((b, y) :: t)

/-! ### Memory: the bytes of the Heper map (R42), unlisted bytes read 0 (R709) -/

/-- What an unlisted byte reads as: 0, per R709. -/
def Mem.blank : Byte := 0

/-- Byte at address a. -/
def Mem.read : List Host.Cell → Nat → Byte
  | [], _ => Mem.blank
  | (k, v) :: t, a => if k = a then v else Mem.read t a

/-- Memory with byte v at address a, in canonical form. -/
def Mem.write : List Host.Cell → Nat → Byte → List Host.Cell
  | [], a, v => if v = Mem.blank then [] else [(a, v)]
  | (k, w) :: t, a, v =>
    if a < k then (if v = Mem.blank then (k, w) :: t else (a, v) :: (k, w) :: t)
    else if a = k then (if v = Mem.blank then t else (a, v) :: t)
    else (k, w) :: Mem.write t a v

/-- The canonical form of a memory: addresses strictly rising, no byte that an unlisted address reads as. -/
def Mem.wf : List Host.Cell → Bool
  | [] => true
  | [(_, v)] => decide (v ≠ Mem.blank)
  | (a, v) :: (b, w) :: t => decide (v ≠ Mem.blank) && decide (a < b) && Mem.wf ((b, w) :: t)

/-- The cells of bytes at successive addresses from a, without those that an unlisted address reads as. -/
def Mem.cells (a : Nat) : List Byte → List Host.Cell
  | [] => []
  | v :: vs => if v = Mem.blank then Mem.cells (a + 1) vs else (a, v) :: Mem.cells (a + 1) vs

/-- Bytes written at successive addresses from a. -/
def Mem.writes (m : List Host.Cell) (a : Nat) (vs : List Byte) : List Host.Cell :=
  m.filter (fun c => decide (c.1 < a)) ++ Mem.cells a vs ++ m.filter (fun c => decide (a + vs.length ≤ c.1))

/-- n bytes from address a, out of cells in rising order of which none lies below a. -/
def Mem.fill (a : Nat) : Nat → List Host.Cell → List Byte
  | 0, _ => []
  | n + 1, [] => Mem.blank :: Mem.fill (a + 1) n []
  | n + 1, (k, v) :: t => if k = a then v :: Mem.fill (a + 1) n t else Mem.blank :: Mem.fill (a + 1) n ((k, v) :: t)

/-- n bytes from address a. -/
def Mem.reads (m : List Host.Cell) (a n : Nat) : List Byte :=
  Mem.fill a n (m.filter fun c => decide (a ≤ c.1 ∧ c.1 < a + n))

/-- The memory with every byte from lo up to, but not including, hi written with 0 (R709). -/
def Mem.clear (m : List Host.Cell) (lo hi : Nat) : List Host.Cell :=
  m.filter fun c => decide (c.1 < lo ∨ hi ≤ c.1)

namespace Block

/-- n bytes of memory from a. -/
def readMem (b : Block) (a n : Nat) : List Byte := Mem.reads b.mem a n

/-! ### Registers -/

end Block

/-- Set-up offset of element n of a register array. -/
def Reg.at (r : Reg) (n : Nat) : Nat := r.base + n / r.per * r.outer + n % r.per * r.stride

namespace Block

/-- The word that register r, element n, holds. -/
def rd (b : Block) (r : Reg) (n : Nat) : Nat := Tab.get (r.rst n) b.regs (r.at n)

/-- The block with that word set. -/
def wr (b : Block) (r : Reg) (n w : Nat) : Block := { b with regs := Tab.put b.regs (r.at n) w }

/-- A field of element n. -/
def getF (b : Block) (f : RegField) (n : Nat) : Nat := bits (b.rd f.reg n) f.hi f.lo

/-- The block with a field of element n set, whatever its access type: the hardware's own write. -/
def setF (b : Block) (f : RegField) (n v : Nat) : Block := b.wr f.reg n (putBits (b.rd f.reg n) f.hi f.lo v)

/-- A one-bit field as a Bool. -/
def flag (b : Block) (f : RegField) (n : Nat) : Bool := b.getF f n == 1

/-- Add to a counter field, stopping at its maximum. -/
def satF (b : Block) (f : RegField) (n v : Nat) : Block :=
  b.setF f n (satAdd (2 ^ (f.hi + 1 - f.lo) - 1) (b.getF f n) v)

/-- Add to a wrapping counter field. -/
def wrapF (b : Block) (f : RegField) (n v : Nat) : Block := b.setF f n (b.getF f n + v)

/-- The registers at set-up offsets from lo up to, but not including, hi at their reset values. -/
def resetRegs (b : Block) (lo hi : Nat) : Block :=
  { b with regs := Tab.drop b.regs fun o => decide (lo ≤ o ∧ o < hi) }

/-- One register array at its reset values. -/
def resetReg (b : Block) (r : Reg) : Block :=
  { b with regs := Tab.drop b.regs fun o => (List.range r.count).any fun n => o == r.at n }

/-- Word address and check bits of CATCH_INJADDR and CATCH_INJ, where injection is armed and a write of n bytes from a
meets the word (R322). -/
def injHit (b : Block) (a n : Nat) : Bool :=
  let w := b.rd R.CATCH_INJADDR 0 / 4 * 4
  b.flag F.CATCH_INJ_ARM 0 && decide (0 < n ∧ w < a + n ∧ a < w + 4)

/-- The injecting write has happened (R322). -/
def injDone (b : Block) : Block := (b.setF F.CATCH_INJ_ARM 0 0).setF F.CATCH_INJ_DONE 0 1

/-- An open value, and the block with the counter of open values advanced. -/
def fresh (b : Block) : Word × Block := (Config.freeValue b.free, { b with free := b.free + 1 })

/-- Bytes written to memory from a. The words that they touch get valid check bits, but for one that an armed injection
names: it gets inverted check bits, or with MEM = 6 stays as it was, check bits included, and EV252 follows with cause 6, with an open
requester number (R322, log 90). -/
def writeMem (b : Block) (a : Nat) (vs : List Byte) : Block :=
  let w := b.rd R.CATCH_INJADDR 0 / 4 * 4
  let bad := Tab.drop b.badEcc fun k => decide (k < a + vs.length ∧ a < k + 4)
  if !b.injHit a vs.length then { b with mem := Mem.writes b.mem a vs, badEcc := bad }
  else if b.getF F.CATCH_INJ_MEM 0 = 6 then
    let m := Mem.writes (Mem.writes b.mem a vs) w (Mem.reads b.mem w 4)
    let (x, b) := b.fresh
    let o : Occ := { ev := 252, detail := BitVec.ofNat 32 (6 + x.toNat % 16 * 16) }
    let bad := Tab.drop b.badEcc fun k => decide (k < a + vs.length ∧ a < k + 4) && !(k == w)
    ({ b with mem := m, badEcc := bad, catchm := { b.catchm with due := b.catchm.due ++ [.occ o] } } : Block).injDone
  else
    let k := b.getF F.CATCH_INJ_MASK 0
    ({ b with mem := Mem.writes b.mem a vs, badEcc := if k = 0 then bad else Tab.put bad w k } : Block).injDone

/-- The block with one more item sent out. -/
def send (b : Block) (o : Out) : Block := { b with out := b.out ++ [o] }

/-- The clock of island i is stopped by its gate, or runs (R465). -/
def islandGate (i : Nat) (b : Block) : Block := (b.setF F.CDC_ISTAT_RUN i 0).setF F.CDC_ISTAT_GATED i 1
def islandRun (i : Nat) (b : Block) : Block := (b.setF F.CDC_ISTAT_RUN i 1).setF F.CDC_ISTAT_GATED i 0
def islandOff (i : Nat) (b : Block) : Block := (b.setF F.CDC_ISTAT_RUN i 0).setF F.CDC_ISTAT_GATED i 0

/-- ISLAND_CLOCK_RESTART (R465, R466): a request towards a gated island. -/
def islandRestart (i : Nat) (b : Block) : Block :=
  if b.flag F.CDC_ISTAT_GATED i then (b.islandRun i).wrapF F.CDC_ISTAT_WAKECNT i 1 else b

/-- Domain d is at power good (R91). -/
def pg (b : Block) (d : Nat) : Bool := bit (b.getF F.PWR_DOMSTAT_PG 0) d

end Block

/-- Fold an update over the numbers 0 to n − 1, in rising order. -/
def forN (n : Nat) (f : Nat → Block → Block) (b : Block) : Block := (List.range n).foldl (fun b i => f i b) b

/-- Fold an update over the numbers lo to hi − 1, in rising order. -/
def forRange (lo hi : Nat) (f : Nat → Block → Block) (b : Block) : Block :=
  ((List.range hi).filter fun i => decide (lo ≤ i)).foldl (fun b i => f i b) b

/-- Apply an update where a condition holds. -/
def whenB (c : Bool) (f : Block → Block) (b : Block) : Block := if c then f b else b

/-- Cut a byte list into pieces of n bytes; at most `fuel` pieces. -/
def Block.pieces (n : Nat) : Nat → List Byte → List (List Byte)
  | 0, _ => []
  | f + 1, bs => if bs.isEmpty then [] else bs.take n :: pieces n f (bs.drop n)

/-- CRC-32 with the IEEE 802.3 polynomial (log 25). -/
def crc32Step : Nat → Nat → Nat
  | 0, c => c
  | n + 1, c => crc32Step n (if c % 2 = 1 then (c / 2) ^^^ 0xEDB88320 else c / 2)
def crc32 (bs : List Byte) : Nat := (bs.foldl (fun c x => crc32Step 8 (c ^^^ x.toNat)) 0xFFFFFFFF) ^^^ 0xFFFFFFFF

end Sys2Proof.Machine
end

