-- ==== Sys2Proof/Machine/Operands.lean ====
section
/-! DEFINITION. Operand forms: what a command reports of its moment where that is more than a number; and those of the
Heper instructions (chapter 16), as types that can spell no reserved field value, with the reading of each. -/
namespace Sys2Proof.Machine

/-- The sample at the end of an on-interval: current in sense steps and output voltage in steps of 2 mV (R122, R228). -/
structure OnSample where
  cur  : Nat
  vout : Nat
  deriving DecidableEq, Repr

/-- Where a closing window stands, and where its run started (R167): at its closed end stop, at its open end. -/
structure WinEnds where
  closed   : Bool
  fromOpen : Bool
  deriving DecidableEq, Repr

/-- What the wake detector of a field input has seen (R288): its voltage in mV, the ticks of 32.768 kHz for which it has
stood there, and whether it has been inactive since step 1 of R76. -/
structure DiSeen where
  mv    : Int
  ticks : Nat
  idle  : Bool
  deriving DecidableEq, Repr

/-- A write of PWR_STILL (R75): its key, and the voltages in mV that step 1 of R76 samples at DI0, DI1 and so on (R288). -/
structure StillReq where
  key   : BitVec 16
  volts : List Int := []
  deriving DecidableEq, Repr

/-- What the wake detector of a network channel sees (R351), times in ns: a dominant, a recessive and a dominant phase, and
the time from the first to the last; a dominant level or a TC10 pulse; a frame; an erroneous frame. -/
inductive NetSeen where
  | nothing
  | phases (first gap second span : Nat)
  | pulse (ns : Nat)
  | frame (f : NetFrame)
  | badFrame
  deriving DecidableEq, Repr

/-- A CAN frame at its end: how many ticks of the timebase it took (R335), and whether the bus then is idle for 11
recessive bits (R347). -/
structure CanRx where
  frame : NetFrame
  ticks : Nat
  quiet : Bool
  deriving DecidableEq, Repr

/-- The end of a CAN transmission: whether the priority queue goes before the FIFO at equal identifiers, which R333 leaves
open; the ticks that the frame took; and whether the bus then is idle for 11 recessive bits (R347, R374). -/
structure CanEnd where
  tie   : Bool
  ticks : Nat
  quiet : Bool
  deriving DecidableEq, Repr

/-- Data of a received frame, and the ticks of the timebase from the start of the frame (R335). -/
structure TimedData where
  data  : List Byte
  ticks : Nat
  deriving DecidableEq, Repr

/-- A network channel, and whether its bus is idle for 11 recessive bits (R347). -/
structure BusAt where
  ch    : Fin 28
  quiet : Bool
  deriving DecidableEq, Repr

/-- A PLCA follower whose beacons fail for 4 ms, or are back (R341). -/
structure Beacons where
  port : Fin 4
  back : Bool
  deriving DecidableEq, Repr

/-- What a wake source reports: the pattern that a network detector saw (R350, R351), and what a field input saw. -/
structure WakeSeen where
  net   : NetSeen := .nothing
  di    : DiSeen := ⟨0, 0, false⟩
  deriving DecidableEq, Repr

/-- The back segment of a pixel link cycle: TYPE with its six data bytes, and the CRC-8 that came with them (R263). -/
structure BackSeg where
  bytes : List Byte
  crc   : Byte
  deriving DecidableEq, Repr

/-- A write to a doorbell: its width in bytes and its distance from the doorbell's own offset (R385). -/
structure DbWrite where
  bytes : Fin 9
  skew  : Fin 4
  deriving DecidableEq, Repr

/-- Its width, and 0 where it is not aligned: only 4 is accepted (R385). -/
def DbWrite.width (w : DbWrite) : Nat := if w.skew = 0 then w.bytes else 0

/-- The payload bytes of one DESC frame, and whether it is the last one (R425, R437). -/
structure DescFrag where
  data : List Byte
  last : Bool
  deriving DecidableEq, Repr

/-- What an access of host software reaches (R384, R431): whole dwords of W0 from a dword number; one narrow or unaligned
access of W0 at a byte offset, with its width; or an access of W2 at a byte offset, with its width. -/
inductive HostAddr where
  | dwords (dw : BitVec 18)
  | narrow (off : BitVec 20) (bytes : Fin 9)
  | w2 (off : BitVec 16) (bytes : Fin 9)
  /-- the MSI-X enable of configuration space: a write of the dword of which it is bit 31 (R407, log 52) -/
  | msixControl
  deriving DecidableEq, Repr

/-- Who executes an instruction: a core, where 1 names the supervisor pair as 0 does; and, for the pair, that a
result of the instruction differs between its halves (R474); and that its encoding has a non-zero field that it does
not use, or a reserved value in one (R513). -/
structure Exe where
  core : Fin 15
  diff : Bool := false
  bad  : Bool := false
  deriving DecidableEq, Repr

/-- The immediate of the I format or of its long form (R520, R533). -/
inductive Imm where
  | short (v : BitVec 18)
  | long (v : Word)
  deriving DecidableEq, Repr

/-- A byte offset of the M format or of its long form (R527, R533). -/
inductive Off where
  | short (v : BitVec 13)
  | long (v : Word)
  deriving DecidableEq, Repr

/-- The four addressing modes (R527). An indexed access has no long form. -/
inductive Ea where
  | offset (o : Off)
  | indexed (m : Fin 16)
  | post (o : Off)
  | pre (o : Off)
  deriving DecidableEq, Repr

/-- A branch target: relative in words, or absolute (R529, R533). -/
inductive Target where
  | rel (o : BitVec 22)
  | abs (a : Word)
  deriving DecidableEq, Repr

/-- LOOP: end and count, in one word or in two (R530, R533). -/
inductive LoopForm where
  | imm (last : BitVec 11) (n : BitVec 11)
  | reg (last : BitVec 11) (n : Fin 16)
  | long (last : BitVec 12) (n : Word)
  deriving DecidableEq, Repr

/-- REP: count less one, or a register (R531). -/
inductive RepForm where
  | imm (n : Fin 64)
  | reg (n : Fin 16)
  deriving DecidableEq, Repr

/-- How an instruction takes part in a repetition (R502, R531). -/
inductive RepKind where
  /-- it runs as often as REP says -/
  | many
  /-- NOP, WAIT and SYNC run once -/
  | once
  /-- REP may not stand before it -/
  | never
  deriving DecidableEq, Repr

/-- What the instruction word of a CX supplies (R514, R535). -/
structure CxArgs where
  x   : Fin 16
  y   : Fin 16
  z   : Fin 16
  imm : BitVec 10
  deriving DecidableEq, Repr

def Imm.words : Imm → Nat
  | .short _ => 1
  | .long _ => 2

/-- The immediate as a signed operand (R520). -/
def Imm.signed : Imm → Word
  | .short v => v.signExtend 32
  | .long v => v

/-- The immediate as an unsigned operand (R520). -/
def Imm.unsigned : Imm → Word
  | .short v => v.zeroExtend 32
  | .long v => v

def Off.words : Off → Nat
  | .short _ => 1
  | .long _ => 2

def Off.val : Off → Word
  | .short v => v.signExtend 32
  | .long v => v

def Ea.words : Ea → Nat
  | .offset o | .post o | .pre o => o.words
  | .indexed _ => 1

def Target.words : Target → Nat
  | .rel _ => 1
  | .abs _ => 2

/-- The target address, for a branch at pc (R529, R533). -/
def Target.addr (pc : Word) : Target → Word
  | .rel o => pc + o.signExtend 32 * 4
  | .abs a => a &&& 0xFFFFFFFC

namespace HepCore

/-- D0–D15. -/
def getD (h : HepCore) (n : Nat) : Word := Tab.get 0 h.d n
def setD (h : HepCore) (n : Nat) (v : Word) : HepCore := { h with d := Tab.put h.d n v }

/-- SR.PRIV (R479). -/
def priv (h : HepCore) : Bool := h.sr.getLsbD 0

/-- A0–A15; A15 is the stack pointer of the level (R477). -/
def getA (h : HepCore) (n : Nat) : Word := if n = 15 then (if h.priv then h.psp else h.usp) else Tab.get 0 h.a n
def setA (h : HepCore) (n : Nat) (v : Word) : HepCore :=
  if n = 15 then (if h.priv then { h with psp := v } else { h with usp := v }) else { h with a := Tab.put h.a n v }

/-- ACC0–ACC3. -/
def getAcc (h : HepCore) (n : Nat) : BitVec 72 := Tab.get 0 h.acc n
def setAcc (h : HepCore) (n : Nat) (v : BitVec 72) : HepCore := { h with acc := Tab.put h.acc n v }

/-- Effective address of an access of 2 ^ size bytes (R527). -/
def ea (h : HepCore) (ab size : Nat) : Ea → Word
  | .offset o => h.getA ab + o.val
  | .indexed m => h.getA ab + h.getD m <<< size
  | .post _ => h.getA ab
  | .pre o => h.getA ab + o.val

/-- The base register after an access that took no exception (R527). -/
def modify (h : HepCore) (ab : Nat) : Ea → HepCore
  | .offset _ | .indexed _ => h
  | .post o | .pre o => h.setA ab (h.getA ab + o.val)

/-- Address of the instruction at the end of a LOOP body, for a LOOP at pc (R530, R533). -/
def loopLast (pc : Word) : LoopForm → Word
  | .imm e _ | .reg e _ => pc + e.zeroExtend 32 * 4
  | .long e _ => pc + e.zeroExtend 32 * 4

def loopWords : LoopForm → Nat
  | .long _ _ => 2
  | _ => 1

def loopCount (h : HepCore) : LoopForm → Word
  | .imm _ n => n.zeroExtend 32
  | .reg _ n => h.getD n
  | .long _ n => n

/-- The count that REP latches: at most 64 (R501). -/
def repCount (h : HepCore) : RepForm → Nat
  | .imm n => n + 1
  | .reg n => min 64 ((h.getD n).toNat % 128)

end HepCore

end Sys2Proof.Machine
end

