-- ==== Sys2Proof/Syntax.lean ====
section
/-! DEFINITION. The commands: one constructor per row of the opcode table; the Heper instructions stand first. -/
namespace Sys2Proof
open Sys2Proof.Machine

/-- A command to the block. -/
inductive Instr where
  /-- MOV (R519) -/
  | mov (x : Exe) (rd : Fin 16) (rs : Fin 16)
  /-- ADD (R519) -/
  | add (x : Exe) (rd : Fin 16) (rs : Fin 16) (rt : Fin 16)
  /-- ADC (R519) -/
  | adc (x : Exe) (rd : Fin 16) (rs : Fin 16) (rt : Fin 16)
  /-- SUB (R519) -/
  | sub (x : Exe) (rd : Fin 16) (rs : Fin 16) (rt : Fin 16)
  /-- SBC (R519) -/
  | sbc (x : Exe) (rd : Fin 16) (rs : Fin 16) (rt : Fin 16)
  /-- ADDS (R522) -/
  | adds (x : Exe) (rd : Fin 16) (rs : Fin 16) (rt : Fin 16)
  /-- SUBS (R522) -/
  | subs (x : Exe) (rd : Fin 16) (rs : Fin 16) (rt : Fin 16)
  /-- NEG (R522) -/
  | neg (x : Exe) (rd : Fin 16) (rs : Fin 16)
  /-- NEGS (R522) -/
  | negs (x : Exe) (rd : Fin 16) (rs : Fin 16)
  /-- ABS (R522) -/
  | abs (x : Exe) (rd : Fin 16) (rs : Fin 16)
  /-- CMP (R519) -/
  | cmp (x : Exe) (rs : Fin 16) (rt : Fin 16)
  /-- TST (R519) -/
  | tst (x : Exe) (rs : Fin 16) (rt : Fin 16)
  /-- AND (R519) -/
  | and (x : Exe) (rd : Fin 16) (rs : Fin 16) (rt : Fin 16)
  /-- OR (R519) -/
  | or (x : Exe) (rd : Fin 16) (rs : Fin 16) (rt : Fin 16)
  /-- XOR (R519) -/
  | xor (x : Exe) (rd : Fin 16) (rs : Fin 16) (rt : Fin 16)
  /-- NOT (R519) -/
  | not (x : Exe) (rd : Fin 16) (rs : Fin 16)
  /-- LSL (R521) -/
  | lsl (x : Exe) (rd : Fin 16) (rs : Fin 16) (rt : Fin 16)
  /-- LSR (R521) -/
  | lsr (x : Exe) (rd : Fin 16) (rs : Fin 16) (rt : Fin 16)
  /-- ASR (R521) -/
  | asr (x : Exe) (rd : Fin 16) (rs : Fin 16) (rt : Fin 16)
  /-- ROR (R521) -/
  | ror (x : Exe) (rd : Fin 16) (rs : Fin 16) (rt : Fin 16)
  /-- CLZ (R519) -/
  | clz (x : Exe) (rd : Fin 16) (rs : Fin 16)
  /-- SEXTB (R519) -/
  | sextb (x : Exe) (rd : Fin 16) (rs : Fin 16)
  /-- SEXTH (R519) -/
  | sexth (x : Exe) (rd : Fin 16) (rs : Fin 16)
  /-- MUL (R524) -/
  | mul (x : Exe) (rd : Fin 16) (rs : Fin 16) (rt : Fin 16)
  /-- MULHU (R519) -/
  | mulhu (x : Exe) (rd : Fin 16) (rs : Fin 16) (rt : Fin 16)
  /-- MULHS (R524) -/
  | mulhs (x : Exe) (rd : Fin 16) (rs : Fin 16) (rt : Fin 16)
  /-- DIVU (R523) -/
  | divu (x : Exe) (rd : Fin 16) (rs : Fin 16) (rt : Fin 16)
  /-- DIVS (R523) -/
  | divs (x : Exe) (rd : Fin 16) (rs : Fin 16) (rt : Fin 16)
  /-- REMU (R523) -/
  | remu (x : Exe) (rd : Fin 16) (rs : Fin 16) (rt : Fin 16)
  /-- REMS (R523) -/
  | rems (x : Exe) (rd : Fin 16) (rs : Fin 16) (rt : Fin 16)
  /-- MINS (R519) -/
  | mins (x : Exe) (rd : Fin 16) (rs : Fin 16) (rt : Fin 16)
  /-- MAXS (R519) -/
  | maxs (x : Exe) (rd : Fin 16) (rs : Fin 16) (rt : Fin 16)
  /-- MINU (R519) -/
  | minu (x : Exe) (rd : Fin 16) (rs : Fin 16) (rt : Fin 16)
  /-- MAXU (R519) -/
  | maxu (x : Exe) (rd : Fin 16) (rs : Fin 16) (rt : Fin 16)
  /-- MOVAD (R519) -/
  | movad (x : Exe) (rd : Fin 16) (rs : Fin 16)
  /-- MOVDA (R519) -/
  | movda (x : Exe) (rd : Fin 16) (rs : Fin 16)
  /-- MOVAA (R519) -/
  | movaa (x : Exe) (rd : Fin 16) (rs : Fin 16)
  /-- ADDAD (R519) -/
  | addad (x : Exe) (rd : Fin 16) (rs : Fin 16) (rt : Fin 16)
  /-- SEL (R519) -/
  | sel (x : Exe) (rd : Fin 16) (rs : Fin 16) (rt : Fin 16) (cond : Fin 15)
  /-- ADDI (R520) -/
  | addi (x : Exe) (rd : Fin 16) (rs : Fin 16) (i : Imm)
  /-- ANDI (R520) -/
  | andi (x : Exe) (rd : Fin 16) (rs : Fin 16) (i : Imm)
  /-- ORI (R520) -/
  | ori (x : Exe) (rd : Fin 16) (rs : Fin 16) (i : Imm)
  /-- XORI (R520) -/
  | xori (x : Exe) (rd : Fin 16) (rs : Fin 16) (i : Imm)
  /-- MOVI (R520) -/
  | movi (x : Exe) (rd : Fin 16) (i : Imm)
  /-- SHI (R520) -/
  | shi (x : Exe) (rd : Fin 16) (rs : Fin 16) (kind : Fin 4) (count : BitVec 8)
  /-- CMPI (R520) -/
  | cmpi (x : Exe) (rs : Fin 16) (i : Imm)
  /-- ADDA (R520) -/
  | adda (x : Exe) (rd : Fin 16) (rs : Fin 16) (i : Imm)
  /-- MFC (R478) -/
  | mfc (x : Exe) (rd : Fin 16) (cr : BitVec 8) (stale : Bool)
  /-- MTC (R478) -/
  | mtc (x : Exe) (cr : BitVec 8) (rs : Fin 16)
  /-- ICLAIM_READ (R491) -/
  | iclaimRead (x : Exe) (rd : Fin 16)
  /-- TIMEL_READ (R478) -/
  | timelRead (x : Exe) (rd : Fin 16) (stale : Bool)
  /-- CSIG_WRITE (R493) -/
  | csigWrite (x : Exe) (rs : Fin 16)
  /-- TIMER_COMPARE_WRITE (R493) -/
  | timerCompareWrite (x : Exe) (upper : Bool) (rs : Fin 16)
  /-- UCDATAH_WRITE (R504) -/
  | ucdatahWrite (x : Exe) (rs : Fin 16)
  /-- CXDEF_WRITE (R505) -/
  | cxdefWrite (x : Exe) (k : Fin 16) (rs : Fin 16)
  /-- CXLOCK_WRITE (R478) -/
  | cxlockWrite (x : Exe) (rs : Fin 16)
  /-- MAC (R525) -/
  | mac (x : Exe) (n : Fin 4) (rs : Fin 16) (rt : Fin 16)
  /-- MACS (R525) -/
  | macs (x : Exe) (n : Fin 4) (rs : Fin 16) (rt : Fin 16)
  /-- MSU (R525) -/
  | msu (x : Exe) (n : Fin 4) (rs : Fin 16) (rt : Fin 16)
  /-- MSUS (R525) -/
  | msus (x : Exe) (n : Fin 4) (rs : Fin 16) (rt : Fin 16)
  /-- MACU (R525) -/
  | macu (x : Exe) (n : Fin 4) (rs : Fin 16) (rt : Fin 16)
  /-- MULA (R525) -/
  | mula (x : Exe) (n : Fin 4) (rs : Fin 16) (rt : Fin 16)
  /-- ACLR (R525) -/
  | aclr (x : Exe) (n : Fin 4)
  /-- ARD (R525) -/
  | ard (x : Exe) (rd : Fin 16) (n : Fin 4) (sh : Fin 64)
  /-- ARDS (R525) -/
  | ards (x : Exe) (rd : Fin 16) (n : Fin 4) (sh : Fin 64)
  /-- ARDH (R525) -/
  | ardh (x : Exe) (rd : Fin 16) (n : Fin 4)
  /-- ARDG (R525) -/
  | ardg (x : Exe) (rd : Fin 16) (n : Fin 4)
  /-- AWR (R525) -/
  | awr (x : Exe) (n : Fin 4) (rs : Fin 16) (rt : Fin 16) (rg : Fin 16)
  /-- LD (R526) -/
  | ld (x : Exe) (size : Fin 3) (rd : Fin 16) (ab : Fin 16) (e : Ea)
  /-- LDS (R526) -/
  | lds (x : Exe) (size : Fin 3) (rd : Fin 16) (ab : Fin 16) (e : Ea)
  /-- ST (R526) -/
  | st (x : Exe) (size : Fin 3) (rd : Fin 16) (ab : Fin 16) (e : Ea)
  /-- LDA (R526) -/
  | lda (x : Exe) (ad : Fin 16) (ab : Fin 16) (e : Ea)
  /-- STA (R526) -/
  | sta (x : Exe) (ad : Fin 16) (ab : Fin 16) (e : Ea)
  /-- B (R529) -/
  | b (x : Exe) (cond : Fin 15) (t : Target)
  /-- BL (R529) -/
  | bl (x : Exe) (cond : Fin 15) (t : Target)
  /-- JR (R529) -/
  | jr (x : Exe) (link : Bool) (rs : Fin 16)
  /-- LOOP (R498) -/
  | loop (x : Exe) (k : Fin 4) (f : LoopForm)
  /-- REP (R501) -/
  | rep (x : Exe) (f : RepForm)
  /-- NOP_INSTRUCTION (R532) -/
  | nopInstruction (x : Exe)
  /-- TRAP (R532) -/
  | trap (x : Exe) (n : Fin 32)
  /-- BRK (R532) -/
  | brk (x : Exe)
  /-- RETE (R487) -/
  | rete (x : Exe)
  /-- WAIT (R532) -/
  | wait (x : Exe)
  /-- SYNC (R516) -/
  | sync (x : Exe)
  /-- CX (R535) -/
  | cx (x : Exe) (k : Fin 16) (a : CxArgs) (par : Option (Fin 32))
  /-- MODULE_POWER_ON_RESET (R9) -/
  | modulePowerOnReset
  /-- BROWN_OUT (R9) -/
  | brownOut
  /-- BROWN_OUT_END (R93) -/
  | brownOutEnd
  /-- COLD_BOOT (R604) -/
  | coldBoot (bcrBad : Fin 4) (recBad : Fin 4) (rkBad : Fin 16)
  /-- PCIE_FUNCTION_LEVEL_RESET (R412) -/
  | pcieFunctionLevelReset
  /-- LINK_DOWN (R412) -/
  | linkDown
  /-- PERST_N_LOW (R680) -/
  | perstNLow
  /-- LINK_TRAINED (R83) -/
  | linkTrained (speed : Fin 4) (width : Fin 3)
  /-- D3_ENTRY (R383) -/
  | d3Entry
  /-- D3_EXIT (R383) -/
  | d3Exit (noSoftReset : Bool)
  /-- REGISTER_WRITE (R21) -/
  | registerWrite (who : Who) (off : BitVec 24) (size : Fin 129) (ws : List Word)
  /-- SYS_LOCK_WRITE (R58) -/
  | sysLockWrite (who : Who) (key : BitVec 16)
  /-- DOORBELL_WRITE (R390) -/
  | doorbellWrite (q : Fin 64) (w : DbWrite) (v : Word)
  /-- COMPLETION_HEAD_WRITE (R393) -/
  | completionHeadWrite (q : Fin 64) (w : DbWrite) (v : Word)
  /-- EVENT_QUEUE_HEAD_WRITE (R404) -/
  | eventQueueHeadWrite (e : Fin 8) (w : DbWrite) (v : Word)
  /-- DESCRIPTOR_FETCH (R392) -/
  | descriptorFetch
  /-- DESCRIPTOR_ARRIVAL (R41) -/
  | descriptorArrival (q : Fin 64) (dws : List Word) (payload : List Byte)
  /-- FENCED_DISPATCH (R394) -/
  | fencedDispatch (q : Fin 64)
  /-- DIE_ACKNOWLEDGE (R156) -/
  | dieAcknowledge (die : Fin 6)
  /-- COMPLETION_WRITE (R402) -/
  | completionWrite (q : Fin 64) (i : Nat)
  /-- MSIX_COALESCE_TIMEOUT (R407) -/
  | msixCoalesceTimeout (q : Fin 64)
  /-- MSIX_VECTOR_UNMASK (R407) -/
  | msixVectorUnmask (v : Fin 64) (addr : BitVec 64) (data : Word)
  /-- HOST_MEMORY_FAULT (R413) -/
  | hostMemoryFault (kind : Fin 5) (q : Fin 64) (late : Bool) (dws : List Word)
  /-- QUEUE_ENABLE (R388) -/
  | queueEnable (who : Who) (q : Fin 64)
  /-- QUEUE_DRAIN (R411) -/
  | queueDrain (who : Who) (q : Fin 64)
  /-- QUEUE_DRAIN_COMPLETE (R411) -/
  | queueDrainComplete (q : Fin 64)
  /-- QUEUE_INDEX_WRITE (R389) -/
  | queueIndexWrite (who : Who) (q : Fin 64) (w : Word)
  /-- EVENT_QUEUE_ENABLE (R404) -/
  | eventQueueEnable (who : Who) (e : Fin 8)
  /-- EVENT_QUEUE_DISABLE (R406) -/
  | eventQueueDisable (who : Who) (e : Fin 8)
  /-- EVENT_QUEUE_INDEX_WRITE (R416) -/
  | eventQueueIndexWrite (who : Who) (e : Fin 8) (w : Word)
  /-- MAILBOX_DONE (R409) -/
  | mailboxDone (who : Who) (w : Word)
  /-- NOP (R408) -/
  | nop (d : Desc)
  /-- SYS_INFO (R408) -/
  | sysInfo (d : Desc)
  /-- TIME_READ (R408) -/
  | timeRead (d : Desc)
  /-- SUP_MSG (R409) -/
  | supMsg (d : Desc)
  /-- EQ_MARK (R408) -/
  | eqMark (d : Desc)
  /-- FEED_OVERCURRENT (R62) -/
  | feedOvercurrent (n : Fin 3) (ma : Nat)
  /-- AGGREGATE_OVERCURRENT (R62) -/
  | aggregateOvercurrent (ma : Nat)
  /-- FEED_MISSING (R62) -/
  | feedMissing (n : Fin 3) (mv : Nat) (logic : Nat)
  /-- FEED_BAND_CHANGE (R63) -/
  | feedBandChange (n : Fin 3) (mv : Nat)
  /-- SUPPLY_RESTART (R64) -/
  | supplyRestart (n : Fin 3)
  /-- LOGIC_BAND_CHANGE (R63) -/
  | logicBandChange (mv : Nat)
  /-- IGN_CHANGE (R66) -/
  | ignChange (high : Bool) (phase : Fin 3) (rkBad : Fin 16)
  /-- DOMAIN_ON (R68) -/
  | domainOn (who : Who) (d : Fin 10)
  /-- DOMAIN_POWER_GOOD (R68) -/
  | domainPowerGood (d : Fin 10) (rkBad : Fin 16)
  /-- DOMAIN_PG_TIMEOUT (R68) -/
  | domainPgTimeout (d : Fin 10)
  /-- DOMAIN_OFF (R69) -/
  | domainOff (who : Who) (d : Fin 10)
  /-- STILL_REQUEST (R75) -/
  | stillRequest (who : Who) (req : StillReq)
  /-- STILL_REACHED (R76) -/
  | stillReached (rkBad : Fin 16)
  /-- WAKE_RECOGNISED (R80) -/
  | wakeRecognised (src : Fin 45) (phase : Fin 3) (seen : WakeSeen) (rkBad : Fin 16)
  /-- RETAINED_HASH_COMPLETE (R82) -/
  | retainedHashComplete (flips : List (Nat × Byte))
  /-- RTC_LOW_WRITE (R97) -/
  | rtcLowWrite (who : Who) (v : Word)
  /-- RTC_HIGH_WRITE (R97) -/
  | rtcHighWrite (who : Who) (v : BitVec 16)
  /-- RTC_READ (R97) -/
  | rtcRead (who : Who) (stale : Bool)
  /-- RTC_ALARM_HIGH_WRITE (R97) -/
  | rtcAlarmHighWrite (who : Who) (v : BitVec 16)
  /-- RTC_ALARM (R97) -/
  | rtcAlarm (count : BitVec 48) (phase : Fin 3) (rkBad : Fin 16)
  /-- REFERENCE_OSC_DEVIATION (R87) -/
  | referenceOscDeviation (ppm : Int)
  /-- CRYSTAL_STOP (R87) -/
  | crystalStop (us : Nat)
  /-- TEMPERATURE_THRESHOLD (R87) -/
  | temperatureThreshold (i : Fin 5) (t : Int)
  /-- TEMP_SENSOR_UPDATE (R98) -/
  | tempSensorUpdate (n : Fin 9) (t : BitVec 16)
  /-- INTERNAL_LINK_FAULT (R29) -/
  | internalLinkFault (l : Fin 7)
  /-- HS_SET (R155) -/
  | hsSet (d : Desc)
  /-- HS_SETLIST (R155) -/
  | hsSetlist (d : Desc)
  /-- HS_CLEAR (R155) -/
  | hsClear (d : Desc)
  /-- HS_READ (R155) -/
  | hsRead (d : Desc)
  /-- HS_ENABLE (R125) -/
  | hsEnable (who : Who) (n : Fin 96)
  /-- HS_DISABLE (R125) -/
  | hsDisable (who : Who) (n : Fin 96)
  /-- HS_LOCK_CLEAR (R126) -/
  | hsLockClear (who : Who) (n : Fin 96)
  /-- PWM_PERIOD_START (R106) -/
  | pwmPeriodStart (p : Fin 112) (smp : OnSample) (high : Bool)
  /-- MEAS_UPDATE (R108) -/
  | measUpdate (p : Fin 132) (cur : Nat) (vout : Nat) (tj : Nat)
  /-- OFF_STATE_CHECK (R121) -/
  | offStateCheck (p : Fin 128) (v1 : Bool) (v2 : Bool)
  /-- SHORT_CIRCUIT_TRIP (R112) -/
  | shortCircuitTrip (p : Fin 112) (low : Bool) (ma : Nat)
  /-- LINEAR_LIMIT (R113) -/
  | linearLimit (p : Fin 112) (ma : Nat)
  /-- LINEAR_LIMIT_END (R125) -/
  | linearLimitEnd (p : Fin 112) (ma : Nat)
  /-- THERMAL_LATCH (R114) -/
  | thermalLatch (p : Fin 112) (tj : Int)
  /-- THERMAL_LATCH_CLEAR (R114) -/
  | thermalLatchClear (p : Fin 112) (tj : Int)
  /-- BACKOFF_EXPIRY (R116) -/
  | backoffExpiry (p : Fin 112)
  /-- REARM_TIMEOUT (R117) -/
  | rearmTimeout (p : Fin 112)
  /-- CLAMP_EVENT_END (R118) -/
  | clampEventEnd (p : Fin 112) (energy : Nat)
  /-- CLAMP_BUCKET_BOUNDARY (R118) -/
  | clampBucketBoundary (die : Fin 6)
  /-- REVERSE_CURRENT (R111) -/
  | reverseCurrent (n : Fin 96) (mv : Nat)
  /-- WEIR_ARM (R129) -/
  | weirArm (who : Who)
  /-- WEIR_HEARTBEAT (R130) -/
  | weirHeartbeat (who : Who) (seq : Fin 65536) (crc : Fin 256)
  /-- WEIR_RECLAIM_KEY (R135) -/
  | weirReclaimKey (who : Who) (key : Fin 65536)
  /-- WEIR_WINDOW_EXPIRY (R133) -/
  | weirWindowExpiry
  /-- WEIR_RECLAIM_EXPIRY (R136) -/
  | weirReclaimExpiry
  /-- FLASH_PATTERN_EDGE (R137) -/
  | flashPatternEdge (die : Fin 4) (k : Fin 4) (on : Bool)
  /-- ENGINE_READY (R142) -/
  | engineReady (c : Fin 15)
  /-- HB_SET (R181) -/
  | hbSet (d : Desc)
  /-- FB_DRIVE (R181) -/
  | fbDrive (d : Desc)
  /-- WIPE (R166) -/
  | wipe (d : Desc)
  /-- WIN_MOVE (R169) -/
  | winMove (d : Desc)
  /-- LOCK_PULSE (R170) -/
  | lockPulse (d : Desc)
  /-- HB_CLEAR (R181) -/
  | hbClear (d : Desc)
  /-- HB_READ (R181) -/
  | hbRead (d : Desc)
  /-- HB_ENABLE (R176) -/
  | hbEnable (who : Who) (n : Fin 16)
  /-- HB_DISABLE (R176) -/
  | hbDisable (who : Who) (n : Fin 16)
  /-- HB_LOCK_CLEAR (R178) -/
  | hbLockClear (who : Who) (n : Fin 16)
  /-- FB_BRAKE_END (R163) -/
  | fbBrakeEnd (k : Fin 8)
  /-- WIPER_BRAKE_END (R166) -/
  | wiperBrakeEnd (k : Fin 8)
  /-- WIPER_PARK_TIMEOUT (R166) -/
  | wiperParkTimeout (k : Fin 8)
  /-- WINDOW_RIPPLE (R167) -/
  | windowRipple (k : Fin 8) (ma : Nat) (us : Nat)
  /-- PINCH_DETECTED (R168) -/
  | pinchDetected (k : Fin 8) (ma : Nat) (us : Nat) (ms : Nat) (stop : WinEnds)
  /-- PINCH_BRAKE_END (R168) -/
  | pinchBrakeEnd (k : Fin 8)
  /-- LOCK_PULSE_END (R170) -/
  | lockPulseEnd (k : Fin 8)
  /-- LOCK_GAP_END (R170) -/
  | lockGapEnd (k : Fin 8)
  /-- VLV_SHOT (R194) -/
  | vlvShot (d : Desc)
  /-- VLV_TABLE (R192) -/
  | vlvTable (d : Desc)
  /-- VLV_START (R193) -/
  | vlvStart (d : Desc)
  /-- VLV_STOP (R193) -/
  | vlvStop (d : Desc)
  /-- VLV_CLEAR (R215) -/
  | vlvClear (d : Desc)
  /-- VLV_READ (R215) -/
  | vlvRead (d : Desc)
  /-- BST_SET (R215) -/
  | bstSet (d : Desc)
  /-- BOOST_ENABLE (R184) -/
  | boostEnable (who : Who) (j : Fin 2)
  /-- BOOST_DISABLE (R184) -/
  | boostDisable (who : Who) (j : Fin 2)
  /-- BOOST_READY_TIMEOUT (R186) -/
  | boostReadyTimeout (j : Fin 2)
  /-- BOOST_OVERVOLTAGE (R186) -/
  | boostOvervoltage (j : Fin 2) (vout : Nat)
  /-- TABLE_PASS_START (R191) -/
  | tablePassStart (t : Fin 16)
  /-- SHOT_DUE (R187) -/
  | shotDue (t : Fin 16) (i : Nat)
  /-- BOOST_LEVEL_REACHED (R187) -/
  | boostLevelReached (n : Fin 32)
  /-- BOOST_TIME_LIMIT (R187) -/
  | boostTimeLimit (n : Fin 32) (ma : Nat)
  /-- PEAK_END (R187) -/
  | peakEnd (n : Fin 32) (ma : Nat) (reached : Bool)
  /-- HOLD_END (R187) -/
  | holdEnd (n : Fin 32) (ma : Nat) (reached : Bool) (us : Nat) (mv : Nat)
  /-- VALVE_CLAMP_END (R189) -/
  | valveClampEnd (n : Fin 32) (energy : Nat)
  /-- VALVE_OFF_STATE_CHECK (R198) -/
  | valveOffStateCheck (n : Fin 32) (mv : Nat) (bankOn : Bool)
  /-- LOW_SIDE_TRIP (R198) -/
  | lowSideTrip (n : Fin 32) (ma : Nat)
  /-- BANK_SWITCH_FAULT (R198) -/
  | bankSwitchFault (k : Fin 8) (cause : Fin 4) (present : Bool)
  /-- COIL_MODEL_TICK (R199) -/
  | coilModelTick (n : Fin 32) (msq : Nat)
  /-- INTERNAL_LINK_SILENCE (R203) -/
  | internalLinkSilence (v : Fin 2)
  /-- VALVE_ENABLE (R201) -/
  | valveEnable (who : Who) (n : Fin 32)
  /-- VALVE_DISABLE (R201) -/
  | valveDisable (who : Who) (n : Fin 32)
  /-- VALVE_LOCK_CLEAR (R211) -/
  | valveLockClear (who : Who) (n : Fin 32)
  /-- BANK_LOCK_CLEAR (R198) -/
  | bankLockClear (who : Who) (k : Fin 8)
  /-- TIMEBASE_READ (R214) -/
  | timebaseRead (who : Who) (stale : Bool)
  /-- LMP_SET (R243) -/
  | lmpSet (d : Desc)
  /-- LMP_SETLIST (R243) -/
  | lmpSetlist (d : Desc)
  /-- LMP_COLOUR (R224) -/
  | lmpColour (d : Desc)
  /-- LMP_READ (R243) -/
  | lmpRead (d : Desc)
  /-- LMP_CLEAR (R243) -/
  | lmpClear (d : Desc)
  /-- FADE_STEP (R221) -/
  | fadeStep
  /-- GROUP_ENABLE (R223) -/
  | groupEnable (who : Who) (g : Fin 16) (w : Word)
  /-- MTX_FRAME (R233) -/
  | mtxFrame (d : Desc)
  /-- MTX_READ (R243) -/
  | mtxRead (d : Desc)
  /-- MTX_CLEAR (R243) -/
  | mtxClear (d : Desc)
  /-- MATRIX_ENABLE (R236) -/
  | matrixEnable (who : Who) (k : Fin 4)
  /-- MATRIX_DISABLE (R236) -/
  | matrixDisable (who : Who) (k : Fin 4)
  /-- MATRIX_FRAME_START (R229) -/
  | matrixFrameStart (rails : List Nat) (volts : List (Nat × Nat × Nat))
  /-- MATRIX_LINE_SWITCH (R231) -/
  | matrixLineSwitch
  /-- VMX_FAULT (R232) -/
  | vmxFault (k : Fin 4) (vout : Nat)
  /-- LINE_SHORT_TRIP (R235) -/
  | lineShortTrip (k : Fin 4) (i : Fin 16) (ma : Nat)
  /-- COLUMN_SHORT_TRIP (R235) -/
  | columnShortTrip (k : Fin 4) (j : Fin 32) (ma : Nat)
  /-- MATRIX_LINE_RESTART (R242) -/
  | matrixLineRestart (who : Who) (k : Fin 4) (m : BitVec 16)
  /-- MATRIX_COLUMN_RESTART (R242) -/
  | matrixColumnRestart (who : Who) (k : Fin 4) (m : Word)
  /-- PX_SCENE (R254) -/
  | pxScene (d : Desc)
  /-- PX_PATCH (R255) -/
  | pxPatch (d : Desc)
  /-- PX_LEVEL (R253) -/
  | pxLevel (d : Desc)
  /-- PX_ASSET (R260) -/
  | pxAsset (d : Desc)
  /-- PX_ASSET_WRITE_DONE (R260) -/
  | pxAssetWriteDone
  /-- PX_FRAME (R261) -/
  | pxFrame (d : Desc)
  /-- PX_ZONE (R277) -/
  | pxZone (d : Desc)
  /-- PX_READ (R277) -/
  | pxRead (d : Desc)
  /-- PX_CLEAR (R271) -/
  | pxClear (d : Desc)
  /-- PX_FSIMG (R277) -/
  | pxFsimg (d : Desc)
  /-- PIXEL_PORT_ENABLE (R267) -/
  | pixelPortEnable (who : Who) (n : Fin 16)
  /-- PIXEL_PORT_DISABLE (R272) -/
  | pixelPortDisable (who : Who) (n : Fin 16)
  /-- PIXEL_FRAME_START (R247) -/
  | pixelFrameStart (n : Fin 16)
  /-- RENDER_COMPLETE (R247) -/
  | renderComplete (n : Fin 16) (load : Nat) (tooMuch : Bool)
  /-- LINK_CYCLE (R263) -/
  | linkCycle (n : Fin 16) (back : BackSeg)
  /-- HELLO (R265) -/
  | hello (n : Fin 16) (ver : Byte)
  /-- INFO (R265) -/
  | info (n : Fin 16) (bs : List Byte)
  /-- CAL (R265) -/
  | cal (n : Fin 16) (bs : List Byte)
  /-- FLAGS (R265) -/
  | flags (n : Fin 16) (c : BitVec 16) (flags : Word)
  /-- TEMP (R265) -/
  | temp (n : Fin 16) (t0 : BitVec 16) (t1 : BitVec 16) (t2 : BitVec 16)
  /-- STATUS (R265) -/
  | status (n : Fin 16) (errs : BitVec 16) (flags : Byte)
  /-- ACK (R265) -/
  | ack (n : Fin 16) (code : Byte) (failed : Byte)
  /-- HELLO_TIMEOUT (R267) -/
  | helloTimeout (n : Fin 16)
  /-- LINKUP_RETRY (R267) -/
  | linkupRetry (n : Fin 16)
  /-- BACK_LINK_LOST (R268) -/
  | backLinkLost (n : Fin 16)
  /-- DI_READ (R302) -/
  | diRead (d : Desc)
  /-- DO_SET (R302) -/
  | doSet (d : Desc)
  /-- SV_SET (R302) -/
  | svSet (d : Desc)
  /-- DIO_CLEAR (R302) -/
  | dioClear (d : Desc)
  /-- DO_READ (R302) -/
  | doRead (d : Desc)
  /-- DI_ENABLE (R281) -/
  | diEnable (who : Who) (n : Fin 64)
  /-- DI_DISABLE (R281) -/
  | diDisable (who : Who) (n : Fin 64)
  /-- DI_SAMPLE (R282) -/
  | diSample (n : Fin 64) (mv : Int)
  /-- OPEN_WIRE_CHECK (R285) -/
  | openWireCheck (n : Fin 64) (mv : Int)
  /-- DI_OVERLOAD (R286) -/
  | diOverload (n : Fin 64) (ua : Nat)
  /-- DI_GROUP_OVERTEMP (R287) -/
  | diGroupOvertemp (g : Fin 8) (tj : Int)
  /-- DO_ENABLE (R290) -/
  | doEnable (who : Who) (m : Fin 16)
  /-- DO_DISABLE (R290) -/
  | doDisable (who : Who) (m : Fin 16)
  /-- DO_TIMEOUT (R292) -/
  | doTimeout (m : Fin 16)
  /-- DO_OVERLOAD (R290) -/
  | doOverload (m : Fin 17)
  /-- DO_OVERLOAD_WAIT_END (R290) -/
  | doOverloadWaitEnd (m : Fin 17)
  /-- DO_THERMAL (R290) -/
  | doThermal (m : Fin 17) (tj : Int)
  /-- DO_ONSTATE_OPEN (R291) -/
  | doOnstateOpen (m : Fin 16) (ua : Nat)
  /-- SV_ENABLE (R301) -/
  | svEnable (who : Who) (k : Fin 4) (on : Bool)
  /-- SV_OVERLOAD (R294) -/
  | svOverload (k : Fin 4) (ua : Nat)
  /-- SV_SHORT_TO_BATTERY (R294) -/
  | svShortToBattery (k : Fin 4) (mv : Nat)
  /-- SV_RETRY_END (R294) -/
  | svRetryEnd (k : Fin 4)
  /-- SV_THERMAL (R294) -/
  | svThermal (k : Fin 4) (tj : Int)
  /-- SV_UNDERVOLTAGE (R294) -/
  | svUndervoltage (k : Fin 4) (mv : Nat) (limited : Bool)
  /-- CATCH_OCCURRENCE (R304) -/
  | catchOccurrence (e : Fin 256) (detail : Word)
  /-- CATCH_READ (R327) -/
  | catchRead (d : Desc)
  /-- CATCH_CLEAR (R327) -/
  | catchClear (d : Desc)
  /-- CATCH_FORCE (R327) -/
  | catchForce (d : Desc)
  /-- CATCH_INJECT (R327) -/
  | catchInject (d : Desc)
  /-- CATCH_FORCE_REG_WRITE (R321) -/
  | catchForceRegWrite (who : Who) (i : Fin 8) (w : Word)
  /-- CATCH_INJ_WRITE (R322) -/
  | catchInjWrite (who : Who) (w : Word)
  /-- CATCH_INJADDR_WRITE (R322) -/
  | catchInjaddrWrite (who : Who) (w : Word)
  /-- CATCH_COUNT_CLEAR (R325) -/
  | catchCountClear (who : Who)
  /-- CATCH_LOG_CLEAR (R325) -/
  | catchLogClear (who : Who)
  /-- CAN_TX (R333) -/
  | canTx (d : Desc)
  /-- NET_RXPOST (R336) -/
  | netRxpost (d : Desc)
  /-- NET_SLEEP (R346) -/
  | netSleep (d : Desc)
  /-- NET_WAKE (R349) -/
  | netWake (d : Desc)
  /-- LIN_SCHED (R338) -/
  | linSched (d : Desc)
  /-- LIN_RESP (R339) -/
  | linResp (d : Desc)
  /-- ETH_TX (R343) -/
  | ethTx (d : Desc)
  /-- NET_READ (R360) -/
  | netRead (d : Desc)
  /-- NET_CLEAR (R360) -/
  | netClear (d : Desc)
  /-- CAN_ENABLE (R331) -/
  | canEnable (who : Who) (n : Fin 12)
  /-- CAN_DISABLE (R346) -/
  | canDisable (who : Who) (n : Fin 12)
  /-- LIN_ENABLE (R358) -/
  | linEnable (who : Who) (n : Fin 8)
  /-- LIN_DISABLE (R346) -/
  | linDisable (who : Who) (n : Fin 8)
  /-- ETH_PORT_ENABLE (R341) -/
  | ethPortEnable (who : Who) (p : Fin 5) (cab : Fin 5)
  /-- ETH_PORT_DISABLE (R344) -/
  | ethPortDisable (who : Who) (p : Fin 5)
  /-- CAN_FRAME_RECEIVED (R334) -/
  | canFrameReceived (n : Fin 12) (f : CanRx)
  /-- CAN_FRAME_SENT (R333) -/
  | canFrameSent (n : Fin 12) (e : CanEnd)
  /-- CAN_TX_TIMEOUT (R333) -/
  | canTxTimeout (n : Fin 12) (q : Fin 3)
  /-- CAN_BUS_ERROR (R332) -/
  | canBusError (n : Fin 12) (tx : Bool) (eight : Bool) (lec : Fin 7)
  /-- BUS_OFF_RECOVERY_DONE (R332) -/
  | busOffRecoveryDone (n : Fin 12)
  /-- RX_BUFFER_TIMEOUT (R336) -/
  | rxBufferTimeout (ch : Fin 29)
  /-- BUS_DIAG_MEASURE (R337) -/
  | busDiagMeasure (ch : Fin 24) (v : Fin 8)
  /-- LIN_SLOT (R338) -/
  | linSlot (n : Fin 8)
  /-- LIN_HEADER_RECEIVED (R339) -/
  | linHeaderReceived (n : Fin 8) (id : Fin 64) (dev : Nat)
  /-- LIN_FRAME_RECEIVED (R338) -/
  | linFrameReceived (n : Fin 8) (data : TimedData) (cks : Byte)
  /-- LIN_GOTO_SLEEP (R346) -/
  | linGotoSleep (n : Fin 8)
  /-- LIN_HEADER_SILENCE (R346) -/
  | linHeaderSilence (n : Fin 8)
  /-- ETH_FRAME_RECEIVED (R342) -/
  | ethFrameReceived (p : Fin 4) (data : TimedData)
  /-- ETH_LINK_UP (R341) -/
  | ethLinkUp (p : Fin 4) (inv : Bool)
  /-- ETH_LINK_LOSS (R345) -/
  | ethLinkLoss (p : Fin 4) (cab : Fin 5)
  /-- PLCA_BEACON_TIMEOUT (R341) -/
  | plcaBeaconTimeout (p : Beacons)
  /-- ADDRESS_AGE_OUT (R342) -/
  | addressAgeOut (mac : BitVec 48)
  /-- IDLE_TIMEOUT (R347) -/
  | idleTimeout (ch : BusAt)
  /-- SLEEP_COMMIT (R348) -/
  | sleepCommit (ch : Fin 28)
  /-- AWAKEMAX_EXPIRY (R352) -/
  | awakemaxExpiry (ch : BusAt)
  /-- WAKE_DETECTION (R349) -/
  | wakeDetection (ch : Fin 28) (seen : NetSeen)
  /-- TC10_SLEEP_REQUEST (R346) -/
  | tc10SleepRequest (p : Fin 2)
  /-- TC10_SLEEP_ACK (R347) -/
  | tc10SleepAck (p : Fin 2)
  /-- TC10_SLEEP_REJECT (R359) -/
  | tc10SleepReject (p : Fin 2)
  /-- GW_ROUTE (R363) -/
  | gwRoute (d : Desc)
  /-- GW_READ (R380) -/
  | gwRead (d : Desc)
  /-- GW_STATS (R380) -/
  | gwStats (d : Desc)
  /-- GW_CLEAR (R380) -/
  | gwClear (d : Desc)
  /-- GATEWAY_ENABLE (R377) -/
  | gatewayEnable (who : Who)
  /-- GATEWAY_DISABLE (R377) -/
  | gatewayDisable (who : Who)
  /-- KEY_DERIVATION_COMPLETE (R545) -/
  | keyDerivationComplete
  /-- CHN_RD (R452) -/
  | chnRd (d : Desc)
  /-- CHN_WR (R452) -/
  | chnWr (d : Desc)
  /-- CHN_LOCKSEQ (R440) -/
  | chnLockseq (d : Desc)
  /-- CHN_TOPO (R452) -/
  | chnTopo (d : Desc)
  /-- ENUM_START (R419) -/
  | enumStart (who : Who)
  /-- STANDBY_CLAIM (R420) -/
  | standbyClaim (who : Who)
  /-- HEAD_PROMOTE (R423) -/
  | headPromote (who : Who)
  /-- CHAIN_PORT_UP (R418) -/
  | chainPortUp (p : Fin 2) (wired : Bool)
  /-- CHAIN_PORT_DOWN (R427) -/
  | chainPortDown (p : Fin 2) (energy : Bool)
  /-- ENUM_FRAME (R419) -/
  | enumFrame (p : Fin 2) (count : BitVec 32) (ser : BitVec 64)
  /-- JOIN_FRAME (R421) -/
  | joinFrame (p : Fin 2) (answer : Bool) (ser : BitVec 64) (id : Option (Fin 64))
  /-- TOPO_FRAME_SEND (R422) -/
  | topoFrameSend (order : List (Fin 64)) (ring : Bool) (standby : Option (Fin 64))
  /-- TOPO_FRAME (R422) -/
  | topoFrame (p : Fin 2) (order : List (Fin 64)) (gap : Option (Fin 65)) (standby : Option (Fin 64))
  /-- STANDBY_TOPO_TIMEOUT (R423) -/
  | standbyTopoTimeout
  /-- RD_FRAME (R426) -/
  | rdFrame (src : Fin 64) (tid : BitVec 10) (dw : BitVec 18) (count : Fin 65)
  /-- WR_FRAME (R426) -/
  | wrFrame (src : Fin 64) (tid : BitVec 10) (dw : BitVec 18) (data : List Word)
  /-- PWR_FRAME (R434) -/
  | pwrFrame (src : Fin 64) (tid : BitVec 10) (dw : BitVec 18) (data : List Word)
  /-- DESC_FRAME (R437) -/
  | descFrame (src : Fin 64) (q : Fin 64) (dws : List Word) (x : DescFrag)
  /-- LOCK_FRAME (R441) -/
  | lockFrame (src : Fin 64) (tid : BitVec 10) (ops : List LockOp)
  /-- CPL_FRAME (R433) -/
  | cplFrame (c : CplMsg)
  /-- EVT_FRAME (R424) -/
  | evtFrame (e : Fin 8) (typ : Byte) (src : Byte) (n : Fin 64) (time : BitVec 64) (ws : List Word)
  /-- DCPL_FRAME (R437) -/
  | dcplFrame (q : Fin 64) (n : Fin 64) (dws : List Word) (data : List Byte)
  /-- LREF_FRAME (R441) -/
  | lrefFrame (tid : BitVec 10)
  /-- NOTE_FRAME (R426) -/
  | noteFrame (n : Fin 64) (q : Fin 2) (lstate : Fin 4)
  /-- W0_REMOTE_ACCESS (R431) -/
  | w0RemoteAccess (addr : HostAddr) (count : Fin 65) (data : Option (List Word))
  /-- REMOTE_ACCESS_TIMEOUT (R435) -/
  | remoteAccessTimeout (tid : BitVec 10)
  /-- PREFETCH_EXPIRY (R436) -/
  | prefetchExpiry (i : Fin 4)
  /-- LOCK_RETRY_TIMEOUT (R440) -/
  | lockRetryTimeout (tid : BitVec 10)
  /-- LOCK_TIMEOUT (R442) -/
  | lockTimeout
  /-- DESCRIPTOR_UNREACHABLE_TIMEOUT (R439) -/
  | descriptorUnreachableTimeout (q : Fin 64) (n : Fin 64)
  /-- CDC_CLEAR_PEAK (R473) -/
  | cdcClearPeak (who : Who)
  /-- SPEED_MEASUREMENT (R457) -/
  | speedMeasurement (v : Fin 2048)
  /-- ISLAND_CLOCK_RESTART (R465) -/
  | islandClockRestart (i : Fin 9)
  /-- ISLAND_WAKE_FAILURE (R467) -/
  | islandWakeFailure (x : Fin 56)
  /-- INTERRUPT_TAKEN (R490) -/
  | interruptTaken (c : Fin 15)
  /-- TIMER_COMPARE (R490) -/
  | timerCompare (c : Fin 15)
  /-- CORE_RUN (R475) -/
  | coreRun (who : Who) (c : Fin 4)
  /-- WATCHDOG_ENABLE (R508) -/
  | watchdogEnable (who : Who)
  /-- WATCHDOG_KICK (R508) -/
  | watchdogKick (who : Who) (key : BitVec 16)
  /-- WATCHDOG_EXPIRY (R508) -/
  | watchdogExpiry
  /-- HEP_CRST_WRITE (R509) -/
  | hepCrstWrite (who : Who) (w : Word)
  /-- SUPERVISOR_HASH_COMPLETE (R608) -/
  | supervisorHashComplete (flips : List (Nat × Byte))
  /-- AES_ENC (R563) -/
  | aesEnc (d : Desc) (fault : Bool)
  /-- AES_DEC (R550) -/
  | aesDec (d : Desc) (fault : Bool)
  /-- AES_CMAC (R563) -/
  | aesCmac (d : Desc) (fault : Bool)
  /-- SHA (R551) -/
  | sha (d : Desc) (ctx : List Byte) (fault : Bool)
  /-- ECDSA_SIGN (R552) -/
  | ecdsaSign (d : Desc) (fault : Bool)
  /-- ECDSA_PUB (R563) -/
  | ecdsaPub (d : Desc)
  /-- ECDSA_VERIFY (R552) -/
  | ecdsaVerify (d : Desc)
  /-- RNG_READ (R553) -/
  | rngRead (d : Desc)
  /-- KEY_FLUSH (R547) -/
  | keyFlush (d : Desc)
  /-- FW_RING_PRODUCER_WRITE (R557) -/
  | fwRingProducerWrite (who : Who) (w : Word)
  /-- CIPHER_DISABLE (R558) -/
  | cipherDisable (who : Who)
  /-- SELF_TEST_COMPLETE (R555) -/
  | selfTestComplete (u : Fin 4) (pass : Bool)
  /-- ENTROPY_TEST_FAILURE (R554) -/
  | entropyTestFailure (t : Fin 3)
  /-- ACS_ENROL (R585) -/
  | acsEnrol (d : Desc)
  /-- ACS_REVOKE (R587) -/
  | acsRevoke (d : Desc)
  /-- ACS_CODE (R586) -/
  | acsCode (d : Desc)
  /-- ACS_WITHDRAW (R590) -/
  | acsWithdraw (d : Desc)
  /-- ACS_OWNLOCK (R588) -/
  | acsOwnlock (d : Desc)
  /-- ACS_READ (R597) -/
  | acsRead (d : Desc)
  /-- ACS_CLEAR (R597) -/
  | acsClear (d : Desc)
  /-- ACCESS_ENABLE (R596) -/
  | accessEnable (who : Who)
  /-- ACCESS_CYCLE (R574) -/
  | accessCycle
  /-- DISC (R572) -/
  | disc (slot : Fin 60) (void : Bool) (tid : BitVec 64) (anchor : Fin 6)
  /-- UDISC (R571) -/
  | udisc (slot : Fin 4) (void : Bool) (tid : BitVec 64)
  /-- RESP (R577) -/
  | resp (tid : BitVec 64) (nt : BitVec 128) (trep : BitVec 40) (pt : BitVec 64) (eps : Int) (tround : Nat) (sts : StsSeen) (arr : List (Fin 6 × Nat))
  /-- URESP (R578) -/
  | uresp (tid : BitVec 64) (nt : BitVec 128) (rssi : BitVec 48) (pt : BitVec 64) (start : Nat)
  /-- RESPONSE_TIMEOUT (R579) -/
  | responseTimeout
  /-- STILL_POLL_BURST (R573) -/
  | stillPollBurst (ans : Option (Nat × BitVec 64))
  /-- LOCKOUT_END (R582) -/
  | lockoutEnd
  /-- FAILURE_EXPIRY (R582) -/
  | failureExpiry
  /-- LEVEL_RESET (R582) -/
  | levelReset
  /-- ENROL_TIMEOUT (R585) -/
  | enrolTimeout
  /-- CODE_GROUP_TIMEOUT (R586) -/
  | codeGroupTimeout
  /-- AUTH_WINDOW_EXPIRY (R586) -/
  | authWindowExpiry (slot : Option (Fin 64))
  /-- RELEASE_MESSAGE_TICK (R591) -/
  | releaseMessageTick
  /-- RELEASE_IGN_END (R590) -/
  | releaseIgnEnd
  /-- ACCESS_RECORD_SAVE (R567) -/
  | accessRecordSave
  /-- ANTENNA_FAULT (R592) -/
  | antennaFault (kind : Fin 3) (x : LineSeen)
  /-- BOOT_MEAS (R611) -/
  | bootMeas (d : Desc)
  /-- BOOT_CERT (R626) -/
  | bootCert (d : Desc)
  /-- UPD_BEGIN (R613) -/
  | updBegin (d : Desc) (fail : Bool)
  /-- UPD_WRITE (R615) -/
  | updWrite (d : Desc) (fail : Bool)
  /-- UPD_FINISH (R615) -/
  | updFinish (d : Desc)
  /-- UPD_ACTIVATE (R616) -/
  | updActivate (d : Desc)
  /-- UPD_COMMIT (R617) -/
  | updCommit (d : Desc)
  /-- UPD_ABORT (R617) -/
  | updAbort (d : Desc)
  /-- UPD_STATUS (R626) -/
  | updStatus (d : Desc)
  /-- ACTIVATION_RESET (R616) -/
  | activationReset
  /-- TRIAL_TIMEOUT (R617) -/
  | trialTimeout
  /-- SESSION_TIMEOUT (R612) -/
  | sessionTimeout
  /-- GUARD_TIMER (R614) -/
  | guardTimer (kind : Fin 4)
  /-- RECOVERY_REQUEST (R620) -/
  | recoveryRequest (who : Who) (key : BitVec 16)
  /-- GET (R621) -/
  | get
  /-- REG_RD (R621) -/
  | regRd (good : Bool) (off : BitVec 20) (count : Fin 17)
  /-- MLADET_DESC (R621) -/
  | mladetDesc (good : Bool) (fail : Bool) (dws : List Word) (payload : List Byte)
  /-- REC_REQ (R620) -/
  | recReq (good : Bool) (payload : List Byte)
  /-- DEBUG_CONNECT (R622) -/
  | debugConnect
  /-- PAIR_READ (R646) -/
  | pairRead (d : Desc)
  /-- PAIR_CLEAR (R646) -/
  | pairClear (d : Desc)
  /-- PAIR_YIELD (R641) -/
  | pairYield (d : Desc)
  /-- PAIR_ENABLE (R632) -/
  | pairEnable (who : Who)
  /-- PAIR_DISABLE (R642) -/
  | pairDisable (who : Who)
  /-- PAIR_HELLO (R632) -/
  | pairHello (h : Hello)
  /-- HELLO_TIMEOUT_PAIR (R633) -/
  | helloTimeoutPair (recent : Bool)
  /-- PAIR_SNAPSHOT_SEND (R635) -/
  | pairSnapshotSend
  /-- PAIR_SNAPSHOT (R635) -/
  | pairSnapshot (l : List Mirror) (crcOk : Bool)
  /-- PAIR_HEARTBEAT_SEND (R636) -/
  | pairHeartbeatSend
  /-- PAIR_HEARTBEAT (R636) -/
  | pairHeartbeat (role : Fin 6) (weir : Fin 4) (missed : Fin 3) (offs : Word)
  /-- HEARTBEAT_LOSS (R638) -/
  | heartbeatLoss (recent : Bool)
  /-- BYE (R642) -/
  | bye
  /-- GAUGE_READ (R661) -/
  | gaugeRead (d : Desc)
  /-- GAUGE_LOG (R661) -/
  | gaugeLog (d : Desc)
  /-- SNAPSHOT_SEND (R658) -/
  | snapshotSend
  /-- SNAPSHOT_ARRIVAL (R658) -/
  | snapshotArrival
  /-- SNAPSHOT_TIMEOUT (R658) -/
  | snapshotTimeout
  /-- GSUP_LOSS (R648) -/
  | gsupLoss
  /-- GSUP_RETURN (R648) -/
  | gsupReturn
  /-- HOLDUP_STORE (R648) -/
  | holdupStore
  /-- HOLDUP_END (R648) -/
  | holdupEnd
  /-- MD_POWER_UP (R655) -/
  | mdPowerUp (romOk : Bool) (bad : Fin 3)
  /-- METER_INTEGRATE (R650) -/
  | meterIntegrate (ma : List Int) (v : List Int)
  /-- CONDITION_EVALUATION (R651) -/
  | conditionEvaluation (gin : Fin 64)
  /-- IDENT (R657) -/
  | ident (crcOk : Bool)
  /-- READ (R657) -/
  | read (crcOk : Bool)
  /-- LOG (R657) -/
  | log (crcOk : Bool) (seq : Word) (count : Byte)
  /-- PARAM (R653) -/
  | param (crcOk : Bool) (set : ParamSet)
  /-- SEAL (R654) -/
  | seal (crcOk : Bool) (crc : Word)
  /-- SUPPLY_BELOW_RETENTION (R93) -/
  | supplyBelowRetention
  /-- BOOST_READY_CHANGE (R185) -/
  | boostReadyChange (j : Fin 2) (vout : Nat)
  /-- PAIR_LINK_UP (R632) -/
  | pairLinkUp
  /-- PAIR_LINK_DOWN (R644) -/
  | pairLinkDown
  /-- FRAME_RESEND (R427) -/
  | frameResend (p : Fin 2)
  /-- AER_UNCORRECTABLE_ERROR (R415) -/
  | aerUncorrectableError
  /-- LINK_L1_ENTRY (R465) -/
  | linkL1Entry
  /-- DIMEAS_UPDATE (R666) -/
  | dimeasUpdate (n : Fin 64) (vin : BitVec 16)
  deriving DecidableEq, Repr

end Sys2Proof
end

