-- ==== Sys2Proof/Decode.lean ====
section
/-! DEFINITION. The words of the Heper instruction set (R513–R515, R525, R530–R533, R535). No row of the opcode table
gives bits; the rows that are Heper instructions have those that the spec's chapter 16 gives them. -/
namespace Sys2Proof

open Machine

namespace HeperWord

/-- Bits lo to lo + n − 1 of a word. -/
abbrev field (w : Word) (lo n : Nat) : BitVec n := w.extractLsb' lo n

/-- A register number at bit lo. -/
def reg (w : Word) (lo : Nat) : Fin 16 := (field w lo 4).toFin

/-- Bits lo to lo + n − 1 are 0: an unused field (R513). -/
def zero (w : Word) (lo n : Nat) : Bool := field w lo n == 0

/-- The instruction where the fields that it does not use are 0. -/
def only (p : Bool) (i : Instr) : Option Instr := if p then some i else none

/-- MAJ 0x00 (R519). -/
def regForm (x : Exe) (w : Word) : Option Instr :=
  let d := reg w 22
  let s := reg w 18
  let t := reg w 14
  let three (i : Instr) : Option Instr := only (zero w 8 6) i
  let two (i : Instr) : Option Instr := only (zero w 8 10) i
  let flags (i : Instr) : Option Instr := only (zero w 8 6 && zero w 22 4) i
  match (field w 0 8).toNat with
  | 0x00 => two (.mov x d s)
  | 0x01 => three (.add x d s t)
  | 0x02 => three (.adc x d s t)
  | 0x03 => three (.sub x d s t)
  | 0x04 => three (.sbc x d s t)
  | 0x05 => three (.adds x d s t)
  | 0x06 => three (.subs x d s t)
  | 0x07 => two (.neg x d s)
  | 0x08 => two (.negs x d s)
  | 0x09 => two (.abs x d s)
  | 0x0A => flags (.cmp x s t)
  | 0x0B => flags (.tst x s t)
  | 0x10 => three (.and x d s t)
  | 0x11 => three (.or x d s t)
  | 0x12 => three (.xor x d s t)
  | 0x13 => two (.not x d s)
  | 0x14 => three (.lsl x d s t)
  | 0x15 => three (.lsr x d s t)
  | 0x16 => three (.asr x d s t)
  | 0x17 => three (.ror x d s t)
  | 0x18 => two (.clz x d s)
  | 0x19 => two (.sextb x d s)
  | 0x1A => two (.sexth x d s)
  | 0x20 => three (.mul x d s t)
  | 0x21 => three (.mulhu x d s t)
  | 0x22 => three (.mulhs x d s t)
  | 0x24 => three (.divu x d s t)
  | 0x25 => three (.divs x d s t)
  | 0x26 => three (.remu x d s t)
  | 0x27 => three (.rems x d s t)
  | 0x28 => three (.mins x d s t)
  | 0x29 => three (.maxs x d s t)
  | 0x2A => three (.minu x d s t)
  | 0x2B => three (.maxu x d s t)
  | 0x30 => two (.movad x d s)
  | 0x31 => two (.movda x d s)
  | 0x32 => two (.movaa x d s)
  | 0x33 => three (.addad x d s t)
  | 0x34 => let c := (field w 8 4).toNat
    if h : c < 15 then only (zero w 12 2) (.sel x d s t ⟨c, h⟩) else none
  | _ => none

/-- MAJ 0x01: FN [7:6] names the accumulator (R525). -/
def accForm (x : Exe) (w : Word) : Option Instr :=
  let n := (field w 6 2).toFin
  let d := reg w 22
  let s := reg w 18
  let t := reg w 14
  let mac (i : Instr) : Option Instr := only (zero w 8 6 && zero w 22 4) i
  match (field w 0 6).toNat with
  | 0x00 => mac (.mac x n s t)
  | 0x01 => mac (.macs x n s t)
  | 0x02 => mac (.msu x n s t)
  | 0x03 => mac (.msus x n s t)
  | 0x04 => mac (.macu x n s t)
  | 0x05 => mac (.mula x n s t)
  | 0x06 => only (zero w 8 18) (.aclr x n)
  | 0x08 => only (zero w 14 8) (.ard x d n (field w 8 6).toFin)
  | 0x09 => only (zero w 14 8) (.ards x d n (field w 8 6).toFin)
  | 0x0A => only (zero w 8 14) (.ardh x d n)
  | 0x0B => only (zero w 8 14) (.ardg x d n)
  | 0x0C => only (zero w 12 2 && zero w 22 4) (.awr x n s t (reg w 8))
  | _ => none

/-- The I format and its long forms, by the major opcode (R520, R533). -/
def immForm (x : Exe) (maj : Nat) (w : Word) (i : Imm) : Option Instr :=
  let d := reg w 22
  let s := reg w 18
  match maj with
  | 0x02 => some (.addi x d s i)
  | 0x03 => some (.andi x d s i)
  | 0x04 => some (.ori x d s i)
  | 0x05 => some (.xori x d s i)
  | 0x06 => only (zero w 18 4) (.movi x d i)
  | 0x08 => only (zero w 22 4) (.cmpi x s i)
  | 0x0A => some (.adda x d s i)
  | _ => none

/-- The addressing mode (R527); `off`: the offset; `long`: a long form, which has no indexed mode (R533). -/
def ea (w : Word) (off : Off) (long : Bool) : Option Ea :=
  match (field w 15 3).toNat with
  | 0 => some (.offset off)
  | 1 => if !long && zero w 0 9 then some (.indexed (reg w 9)) else none
  | 2 => some (.post off)
  | 3 => some (.pre off)
  | _ => none

/-- Loads and stores (R526). -/
def memForm (x : Exe) (maj : Nat) (w : Word) (e : Ea) : Option Instr :=
  let d := reg w 22
  let ab := reg w 18
  let size := (field w 13 2).toNat
  if h : size < 3 then
    match maj with
    | 0x10 => some (.ld x ⟨size, h⟩ d ab e)
    | 0x11 => some (.lds x ⟨size, h⟩ d ab e)
    | 0x12 => some (.st x ⟨size, h⟩ d ab e)
    | 0x13 => only (size == 2) (.lda x d ab e)
    | 0x14 => only (size == 2) (.sta x d ab e)
    | _ => none
  else none

/-- B and BL (R529). -/
def branchForm (x : Exe) (link : Bool) (w : Word) (t : Target) : Option Instr :=
  let c := (field w 22 4).toNat
  if h : c < 15 then some (if link then .bl x ⟨c, h⟩ t else .b x ⟨c, h⟩ t) else none

/-- The system instructions (R532). -/
def sysForm (x : Exe) (w : Word) : Option Instr :=
  let plain (i : Instr) : Option Instr := only (zero w 8 18) i
  match (field w 0 8).toNat with
  | 0 => plain (.nopInstruction x)
  | 1 => only (zero w 13 13) (.trap x (field w 8 5).toFin)
  | 2 => plain (.brk x)
  | 3 => plain (.rete x)
  | 4 => plain (.wait x)
  | 5 => plain (.sync x)
  | _ => none

/-- The long forms: LOP in bits [5:0], word 1 is IMM32 (R533). -/
def longForm (x : Exe) (w v : Word) : Option Instr :=
  let op := (field w 0 6).toNat
  if 0x10 ≤ op ∧ op ≤ 0x14 then (if zero w 6 7 then (ea w (.long v) true).bind (memForm x op w) else none)
  else if op = 0x18 ∨ op = 0x19 then (if zero w 6 16 then branchForm x (op == 0x19) w (.abs v) else none)
  else if op = 0x1C then only (zero w 18 6) (.loop x (field w 24 2).toFin (.long (field w 6 12) v))
  else if zero w 6 12 then immForm x op w (.long v) else none

/-- The instruction of word w, with word v after it: the major opcode picks the format (R514, R515). -/
def listed (x : Exe) (w v : Word) : Option Instr :=
  let maj := (field w 26 6).toNat
  match maj with
  | 0x00 => regForm x w
  | 0x01 => accForm x w
  | 0x07 => only (zero w 10 8) (.shi x (reg w 22) (reg w 18) (field w 8 2).toFin (field w 0 8))
  | 0x18 => branchForm x false w (.rel (field w 0 22))
  | 0x19 => branchForm x true w (.rel (field w 0 22))
  | 0x1A => only (zero w 1 17 && zero w 22 4) (.jr x (w.getLsbD 0) (reg w 18))
  | 0x1C =>
    let k := (field w 24 2).toFin
    let last := field w 11 11
    if !zero w 22 1 then none
    else if w.getLsbD 23 then some (.loop x k (.imm last (field w 0 11))) else only (zero w 4 7) (.loop x k (.reg last (reg w 0)))
  | 0x1D =>
    if !zero w 22 3 then none
    else if w.getLsbD 25 then only (zero w 0 18) (.rep x (.reg (reg w 18))) else only (zero w 6 16) (.rep x (.imm (field w 0 6).toFin))
  | 0x20 => only (zero w 8 14) (.mfc x (reg w 22) (field w 0 8) false)
  | 0x21 => only (zero w 8 10 && zero w 22 4) (.mtc x (field w 0 8) (reg w 18))
  | 0x22 => sysForm x w
  | 0x3E => some (.cx x (reg w 22) { x := reg w 18, y := reg w 14, z := reg w 10, imm := field w 0 10 } none)
  | 0x3F => longForm x w v
  | _ => if 0x10 ≤ maj ∧ maj ≤ 0x14 then (ea w (.short (field w 0 13)) false).bind (memForm x maj w) else immForm x maj w (.short (field w 0 18))

/-- Every word is an instruction: one that is not listed, one with an unused field that is not 0, and one with a reserved
value is illegal and does nothing but take vector 1 (R513, log 196). -/
def instr (x : Exe) (w v : Word) : Instr := (listed x w v).getD (.nopInstruction { x with bad := true })

/-- The word begins a long form. -/
def long (w : Word) : Bool := field w 26 6 == 0x3F

end HeperWord

/-- The command that a word spells: a Heper instruction of one word, or of two for a long form, of the supervisor pair
(log 196). -/
def decodeTableWord (nbits w : Nat) : Option Instr :=
  let w0 : Word := BitVec.ofNat 32 w
  let x : Exe := { core := 0 }
  if nbits = 32 then (if HeperWord.long w0 then none else some (HeperWord.instr x w0 0))
  else if nbits = 64 then (if HeperWord.long w0 then some (HeperWord.instr x w0 (BitVec.ofNat 32 (w / 2 ^ 32))) else none)
  else none

end Sys2Proof
end

