-- ==== Sys2Proof/Machine/ChainBase.lean ====
section
/-! DEFINITION. Chain frames (R425–R429): their header, data and CRC, the virtual channels of the ports, and the way
towards a node. Frames in transit pass without an effect on the node. -/
namespace Sys2Proof.Machine

/-- Frame types of R426. -/
def Fr.rd : Nat := 1
def Fr.wr : Nat := 2
def Fr.pwr : Nat := 3
def Fr.desc : Nat := 4
def Fr.lock : Nat := 5
def Fr.cpl : Nat := 6
def Fr.evt : Nat := 7
def Fr.enum : Nat := 8
def Fr.join : Nat := 9
def Fr.topo : Nat := 10
def Fr.dcpl : Nat := 11
def Fr.lref : Nat := 12
def Fr.note : Nat := 13

/-- The virtual channel of a frame type: requests on 0, answers and the rest on 1 (R425, R426). -/
def Fr.vc (typ : Nat) : Nat := if typ ≤ 5 then 0 else 1

/-- Bytes as dwords, the last one padded with 0; at most n of them. -/
def packWords : Nat → List Byte → List Word
  | 0, _ => []
  | n + 1, bs => if bs.isEmpty then [] else BitVec.ofNat 32 (ofLe (bs.take 4)) :: packWords n (bs.drop 4)

/-- A number of 64 bits as two dwords. -/
def twoWords (n : Nat) : List Word := [BitVec.ofNat 32 n, BitVec.ofNat 32 (n / 2 ^ 32)]

/-- The frame with these dwords as its data, in as many frames as they need: up to 64 each, the last one marked LAST
(R425, R437). -/
def Frame.parts (f : Frame) : Nat → List Word → List Frame
  | 0, _ => []
  | n + 1, ws =>
    if ws.length ≤ 64 then [{ f with len := ws.length, data := ws, last := true }]
    else { f with len := 64, data := ws.take 64 } :: Frame.parts f n (ws.drop 64)

namespace Block

/-- This module's chain node number, 0 before it is assigned. -/
def nodeId (b : Block) : Nat := b.getF F.SYS_NODE_NODE 0

/-- This node is the primary head, the standby head; it holds a node ID. -/
def primary (b : Block) : Bool := b.flag F.SYS_NODE_HEAD 0
def isStandby (b : Block) : Bool := b.flag F.SYS_NODE_STANDBY 0
def hasId (b : Block) : Bool := b.flag F.SYS_NODE_VALID 0

def portUp (b : Block) (p : Nat) : Bool := b.getF F.CHN_PORT_LSTATE p == 2

/-- The header block of a frame as a number of 64 bits (R425). -/
def frameHeader (f : Frame) : Nat :=
  f.typ + Fr.vc f.typ * 2 ^ 4 + f.dst * 2 ^ 6 + f.src * 2 ^ 12 + f.tid * 2 ^ 18 + f.len * 2 ^ 28 + b2n f.last * 2 ^ 35 + f.stat * 2 ^ 36 +
  f.offset * 2 ^ 40

/-- CRC-32 over the header and the data (R425). -/
def frameCrc (f : Frame) : Nat := crc32 (leBytes 8 (frameHeader f) ++ f.data.flatMap fun w => leBytes 4 w.toNat)

/-- A frame goes onto the line of port p. -/
def lineSend (p : Nat) (f : Frame) (b : Block) : Block := b.send (.frame p f (frameCrc f))

/-- One virtual channel of a port (R428). -/
def linkVc (b : Block) (p v : Nat) : ChnVc := Tab.get {} b.chn.links (2 * p + v)
def updVc (p v : Nat) (f : ChnVc → ChnVc) (b : Block) : Block :=
  { b with chn := { b.chn with links := Tab.put b.chn.links (2 * p + v) (f (b.linkVc p v)) } }

/-- Send one frame into a buffer of the neighbour; it is kept until the neighbour acknowledges it (R427, R428). -/
def vcSend (p : Nat) (f : Frame) (b : Block) : Block :=
  (b.updVc p (Fr.vc f.typ) fun l => { l with credits := l.credits - 1, held := l.held ++ [f] }).lineSend p f

/-- A frame goes out of port p on its virtual channel: at once where the neighbour has a buffer free and none waits, else
behind those that wait. The two channels share nothing (R428). -/
def portFrame (p : Nat) (f : Frame) (b : Block) : Block :=
  let l := b.linkVc p (Fr.vc f.typ)
  if 0 < l.credits ∧ l.queue.isEmpty then b.vcSend p f
  else b.updVc p (Fr.vc f.typ) fun l => { l with queue := l.queue ++ [f] }

/-- The hops from this node to node n in CHA direction and in CHB direction, by the last topology frame: around a closed
ring, else along the line from the open point (R429). -/
def hops (b : Block) (n : Nat) : Option Nat × Option Nat :=
  let l := b.chn.order
  let g := b.chn.gap.getD l.length
  let line := l.drop g ++ l.take g
  let i := line.idxOf b.nodeId
  let j := line.idxOf n
  if !l.contains n || !l.contains b.nodeId then (none, none)
  else if b.chn.gap.isNone then (some ((j + l.length - i) % l.length), some ((i + l.length - j) % l.length))
  else if i < j then (some (j - i), none) else (none, some (i - j))

/-- The port towards node n (R429): fewer hops, at equal counts CHA = 0. -/
def routePort (b : Block) (n : Nat) : Nat :=
  match b.hops n with
  | (some x, some y) => if y < x then 1 else 0
  | (some _, none) => 0
  | (none, some _) => 1
  | (none, none) => if b.portUp 0 then 0 else 1

/-- Send a frame, or the frames of one message, towards the destination. -/
def sendFrame (f : Frame) (b : Block) : Block := b.portFrame (b.routePort f.dst) f
def sendFrames (fs : List Frame) (b : Block) : Block := fs.foldl (fun b f => b.sendFrame f) b

/-- The frames of a forwarded descriptor of queue q: its dwords, then its payload (R437, log 209). -/
def descFrames (b : Block) (n q : Nat) (dws : List Word) (payload : List Byte) : List Frame :=
  let ws := (List.range 16).map (fun i => dws.getD i 0) ++ packWords 16384 payload
  Frame.parts { typ := Fr.desc, dst := n, src := b.nodeId, tid := q } 300 ws

/-- The frames with which a node answers a forwarded descriptor: the payload that it has written, then STATUS, CW2, CW3 and
the number of those bytes (R437, log 209). -/
def outcomeFrames (b : Block) (n q : Nat) (c : Compl) : List Frame :=
  (if c.data.isEmpty then []
    else Frame.parts { typ := Fr.dcpl, dst := n, src := b.nodeId, tid := q } 300 (packWords 16384 c.data)) ++
  [{ typ := Fr.cpl, dst := n, src := b.nodeId, tid := q, len := 4
     data := [c.status, c.cw2, c.cw3, c.data.length].map (BitVec.ofNat 32) }]

/-- An event entry towards a head: TYPE, SOURCE and node, event queue, TIME, EW4–EW7 (R405, R424, log 209). -/
def evtFrameTo (b : Block) (n e typ src : Nat) (ws : List Nat) : Frame :=
  { typ := Fr.evt, dst := n, src := b.nodeId, len := 8
    data := [BitVec.ofNat 32 (typ + src * 256 + b.nodeId * 65536), BitVec.ofNat 32 e] ++ twoWords b.pw.tbase ++
      (List.range 4).map fun i => BitVec.ofNat 32 (ws.getD i 0) }

/-- Discard the prefetch buffers of a node (R436). -/
def dropBufs (n : Nat) (b : Block) : Block := { b with chn := { b.chn with bufs := b.chn.bufs.filter fun p => !(p.node == n) } }

/-- Requests whose answers this head has room for: one for each transaction number (R425, R428). -/
def answerRoom : Nat := 1024

/-- Rooms in use: by requests and posted writes, and by the descriptors that are with other nodes (R428). -/
def roomUsed (b : Block) : Nat :=
  b.chn.reqs.length + (b.hq.flights.map fun f => if f.stage == .dispatched then (f.wait.filter fun n => !(n == b.nodeId)).length else 0).sum

end Block

end Sys2Proof.Machine
end

