-- ==== Sys2Proof/Machine/HqBase.lean ====
section
/-! DEFINITION. The host queues' operations that other units use: MSI-X messages (R407), event entries
(R404–R406), the descriptors in flight and their completions (R388–R402), and the format check of R395. -/
namespace Sys2Proof.Machine

namespace Block

/-! ### MSI-X (R384, R407) -/

/-- The link is up and the function is in D0 (R383). -/
def linkOpen (b : Block) : Bool := b.flag F.HQ_LINK_UP 0 && !b.flag F.HQ_LINK_D3 0

/-- Messages can leave: besides, MSI-X is enabled in configuration space (R383, R407). -/
def msixOpen (b : Block) : Bool := b.linkOpen && b.hq.msixOn

/-- A payload goes to host memory in writes of the maximum payload size (R381, R402). -/
def hostWrites (a : Nat) (data : List Byte) (b : Block) : Block :=
  let n := b.hq.pci.payload
  (pieces n (data.length / n + 1) data).zipIdx.foldl (fun b p => b.send (.hostWrite (a + n * p.2) p.1)) b

/-- Read requests of the maximum size for len bytes of host memory (R381). -/
def hostReads (a len : Nat) (b : Block) : Block :=
  let n := b.hq.pci.request
  forN ((len + n - 1) / n) (fun i b => b.send (.hostRead (a + n * i) (min n (len - n * i)))) b

/-- Dword i of the MSI-X table. A vector is masked out of reset: the PCIe base specification sets its mask
bit, and R412 refers the table to that specification. -/
def msixWord (b : Block) (i : Nat) : Word := Tab.get (if i % 4 = 3 then 1 else 0) b.hq.msix i

/-- Vector v is masked. -/
def msixMasked (b : Block) (v : Nat) : Bool := bit (b.msixWord (4 * v + 3)).toNat 0

/-- Send the message of vector v, or set its pending bit where it is masked (R407). -/
def msix (v : Nat) (b : Block) : Block :=
  if !b.hq.msixOn then b
  else if b.msixMasked v then { b with hq := { b.hq with msixPend := Tab.put b.hq.msixPend v true } }
  else if !b.linkOpen then b
  else (b.islandRestart 3).send (.msix v ((b.msixWord (4 * v)).toNat + (b.msixWord (4 * v + 1)).toNat * 2 ^ 32) (b.msixWord (4 * v + 2)))

/-! ### Event entries (R404–R406) -/

/-- Host address of a ring from its two base words. -/
def ringBase (b : Block) (lo hi : Reg) (n : Nat) : Nat := b.rd lo n + b.rd hi n * 2 ^ 32

/-- Ring size of event queue e. -/
def eqSize (b : Block) (e : Nat) : Nat := 2 ^ b.getF F.HQ_EQCFG_LOG e

/-- Event queue e can take an entry (R406). -/
def eqRoom (b : Block) (e : Nat) : Bool :=
  b.getF F.HQ_EQSTAT_STATE e == 1 && b.flag F.HQ_LINK_UP 0 &&
  !((b.getF F.HQ_EQIDX_TAIL e + 1) % b.eqSize e == b.getF F.HQ_EQIDX_HEAD e)

/-- EV225 as a cause and its DETAIL: queue or event queue number, cause, ring index (R415). -/
def ev225 (n : Nat) (isEq : Bool) (cause idx : Nat) : Occ :=
  { ev := 225, detail := BitVec.ofNat 32 (n % 64 + b2n isEq * 64 + cause * 256 + idx % 65536 * 65536) }

/-- The eight dwords of an event entry as bytes (R405). -/
def eventBytes (typ src node lost phase seq time : Nat) (ws : List Nat) : List Byte :=
  leBytes 4 (typ + src * 256 + node * 65536 + lost * 2 ^ 22 + phase * 2 ^ 31) ++ leBytes 4 seq ++ leBytes 8 time ++
  (ws.map (leBytes 4)).flatten

/-- Offer an entry to event queue e of this module: it is written, or counted as lost (R406). SEQ counts the
entry itself, so the first carries 1 (log 12). An overflow is reported as the occurrence of EV225 that it causes. -/
def eqOffer (e typ src node : Nat) (time : Nat) (ws : List Nat) (b : Block) : Block × List Occ :=
  let seq := (Tab.get 0 b.hq.eseq e + 1) % 2 ^ 32
  let b := { b with hq := { b.hq with eseq := Tab.put b.hq.eseq e seq } }
  if b.eqRoom e then
    let tail := b.getF F.HQ_EQIDX_TAIL e
    let ph := Tab.get true b.hq.ephase e
    let lost := Tab.get false b.hq.elost e
    let b := (b.islandRestart 3).send (.hostWrite (b.ringBase R.HQ_EQBASE R.HQ_EQBASEH e + 32 * tail)
      (eventBytes typ src node (b2n lost) (b2n ph) seq time ws))
    let next := (tail + 1) % b.eqSize e
    let b := b.setF F.HQ_EQIDX_TAIL e next
    let b := { b with hq := { b.hq with
      elost := Tab.put b.hq.elost e false
      ephase := if next = 0 then Tab.put b.hq.ephase e (!ph) else b.hq.ephase } }
    (b.msix (b.getF F.HQ_EQCFG_VEC e), [])
  else
    let was := b.flag F.HQ_EQSTAT_OVF e
    let b := (b.satF F.HQ_EQSTAT_LOST e 1).setF F.HQ_EQSTAT_OVF e 1
    let b := { b with hq := { b.hq with elost := Tab.put b.hq.elost e true } }
    (b, if was then [] else [ev225 e true 6 (b.getF F.HQ_EQIDX_TAIL e)])

/-- The event entries of this module go to its own event queues: it is the primary head, or a single module
whose NODE is not assigned (R400, R424). -/
def isHead (b : Block) : Bool := b.flag F.SYS_NODE_HEAD 0 || !b.flag F.SYS_NODE_VALID 0

/-- A chain port is UP: entries can leave this module (R424). -/
def chainLinked (b : Block) : Bool := b.getF F.CHN_PORT_LSTATE 0 == 2 || b.getF F.CHN_PORT_LSTATE 1 == 2

/-- With EVDUP, a copy of an event entry for the standby head, which writes its own itself (R424). -/
def eventCopy (e typ src : Nat) (ws : List Nat) (b : Block) : Block × List Occ :=
  if !b.flag F.CHN_CFG_EVDUP 0 || !b.flag F.SYS_NODE_VALID 0 then (b, [])
  else if b.flag F.SYS_NODE_STANDBY 0 then b.eqOffer e typ src b.nodeId b.pw.tbase ws
  else match b.chn.standby with
    | some n => if b.chainLinked then (b.sendFrame (b.evtFrameTo n e typ src ws), []) else (b, [])
    | none => (b, [])

/-- An event entry that arises on this module goes into its own queue at the primary head, otherwise to the primary head over
the chain; without a port that is UP it is lost (R405, R424). -/
def eventGo (e typ src : Nat) (ws : List Nat) (b : Block) : Block × List Occ :=
  if b.isHead then b.eqOffer e typ src b.nodeId b.pw.tbase ws
  else if b.chainLinked then (b.sendFrame (b.evtFrameTo (b.chn.order.headD 0) e typ src ws), [])
  else (b, [])

/-- An event entry that arises on this module, and its copy (R405, R424). -/
def eventArises (e typ src : Nat) (ws : List Nat) (b : Block) : Block × List Occ :=
  let s := b.eventGo e typ src ws
  let t := s.1.eventCopy e typ src ws
  (t.1, s.2 ++ t.2)

/-! ### Descriptors in flight -/

/-- Ring sizes of queue q. -/
def sqSize (b : Block) (q : Nat) : Nat := 2 ^ b.getF F.HQ_QCFG_SQLOG q
def cqSize (b : Block) (q : Nat) : Nat := 2 ^ b.getF F.HQ_QCFG_CQLOG q

/-- Descriptors of queue q in flight. -/
def inFlight (b : Block) (q : Nat) : Nat := (b.hq.flights.filter fun f => f.q == q && !f.drop).length

/-- Bring HQ_QSTAT.INFLIGHT of queue q up to date. -/
def syncInflight (q : Nat) (b : Block) : Block := b.setF F.HQ_QSTAT_INFLIGHT q (b.inFlight q)

/-- Set the flights and bring INFLIGHT of queue q up to date. -/
def setFlights (fs : List Flight) (q : Nat) (b : Block) : Block :=
  ({ b with hq := { b.hq with flights := fs } } : Block).syncInflight q

/-- Replace the first flight that p accepts. -/
def updFlight (p : Flight → Bool) (f : Flight → Flight) : List Flight → List Flight
  | [] => []
  | x :: xs => if p x then f x :: xs else x :: updFlight p f xs

/-- A completion in the firmware ring: it lies behind the 64 descriptors at CIPH_FWBASE, in the format of R401
with QUEUE 0 (R557, log 41). -/
def fwWrite (d : Desc) (c : Compl) (b : Block) : Block :=
  let q := b.ciph
  let base := b.getF F.CIPH_FWBASE_ADDR 0 * 64
  if base = 0 then b
  else
    let b := if c.data.isEmpty then b else b.writeMem (c.addr.getD ((d.dws.getD 2 0).toNat + (d.dws.getD 3 0).toNat * 2 ^ 32)) c.data
    let w0 := (d.dws.getD 1 0).toNat % 65536 + c.status * 65536 + b2n q.fwPhase * 2 ^ 31
    let b := b.writeMem (base + 4096 + 16 * q.fwTail)
      (leBytes 4 w0 ++ leBytes 4 (b.getF F.CIPH_FWCTL_HEAD 0) ++ leBytes 4 c.cw2 ++ leBytes 4 c.cw3)
    let t := (q.fwTail + 1) % 64
    { b with ciph := { b.ciph with fwTail := t, fwPhase := if t = 0 then !q.fwPhase else q.fwPhase } }

/-- Finished descriptors of the firmware ring complete in ring order: one behind an unfinished one waits (R403, R557). -/
def fwFlush : List (Nat × Option (Desc × Compl)) → Block → Block
  | (_, some (d, c)) :: l, b => fwFlush l (b.fwWrite d c)
  | l, b => { b with ciph := { b.ciph with ring := l } }

/-- Descriptor n of the firmware ring is finished. One that a reset of the supervisor pair left behind is discarded (R559);
one that was given to its unit without having been fetched enters the list finished. -/
def fwComplete (n : Nat) (d : Desc) (c : Compl) (b : Block) : Block :=
  let l := b.ciph.ring
  b.fwFlush (if l.any fun e => e.1 == n then l.map fun e => if e.1 == n then (n, some (d, c)) else e
    else if n < b.ciph.fwNum then l else l ++ [(n, some (d, c))])

/-- The completion of a multi-node descriptor from its parts (R400). -/
def bcastCompl (parts : List (Nat × Nat)) : Compl :=
  let good := (parts.filter fun p => p.2 == 0).length
  let low := parts.foldl (fun (m : Nat × Nat) p => if p.1 < m.1 then p else m) (64, 0)
  { status := if good = parts.length then 0 else if good = 0 then low.2 else 1
    cw2 := parts.length + good * 256
    cw3 := parts.foldl (fun m p => if p.2 = 0 then m else m + 2 ^ (p.1 % 32)) 0 }

/-- The outcome of one node for a flight (R400). -/
def partDone (n : Nat) (c : Compl) (f : Flight) : Flight :=
  let wait := f.wait.erase n
  if bit (f.desc.dws.getD 0 0).toNat 22 then
    let parts := f.parts ++ [(n, c.status)]
    { f with wait := wait, parts := parts, stage := if wait.isEmpty then .done (bcastCompl parts) else f.stage }
  else { f with wait := wait, stage := .done (if c.data.isEmpty then { c with data := f.got } else c) }

/-- A flight of queue q that waits for node n with these dwords. -/
def awaits (q n : Nat) (dws : List Word) (f : Flight) : Bool :=
  f.q == q && f.stage == .dispatched && f.wait.contains n && f.desc.dws == dws

/-- A head keeps the node whose UPD_ACTIVATE it has seen complete, until UPD_COMMIT, UPD_ABORT or a UPD_STATUS that
reports IDLE or RECEIVING (R618). -/
def updChain (n : Nat) (dws : List Word) (c : Compl) (b : Block) : Block :=
  let op := (dws.getD 0 0).toNat % 256
  if !b.isHead || !(c.status == 0) then b
  else if op = 0xB5 then (b.setF F.UPD_CHAIN_NODE 0 n).setF F.UPD_CHAIN_VALID 0 1
  else if b.flag F.UPD_CHAIN_VALID 0 && b.getF F.UPD_CHAIN_NODE 0 == n &&
      (op == 0xB6 || op == 0xB7 || (op == 0xB8 && decide (ofLe (c.data.take 1) % 4 < 2))) then
    (b.setF F.UPD_CHAIN_NODE 0 0).setF F.UPD_CHAIN_VALID 0 0
  else b

/-- The outcome of node n for a descriptor of queue q: its completion waits for its turn to be written (R399–R403).
A discarded one leaves nothing behind (R412). -/
def nodeDone (q n : Nat) (dws : List Word) (c : Compl) (b : Block) : Block :=
  let b := b.updChain n dws c
  let fs := updFlight (awaits q n dws) (partDone n c) b.hq.flights
  b.setFlights (fs.filter fun f => !(f.drop && f.wait.isEmpty)) q

/-- The executing unit of this module has finished a descriptor. One that was given to its unit without having been
fetched enters the queue's list finished. -/
def complete (d : Desc) (c : Compl) (b : Block) : Block :=
  match d.src with
  | .queue q =>
    if b.hq.flights.any (awaits q b.nodeId d.dws) then b.nodeDone q b.nodeId d.dws c
    else (b.updChain b.nodeId d.dws c).setFlights (b.hq.flights ++ [{ q := q.val, desc := d, stage := .done c }]) q.val
  | .node n q =>
    let b := { b with chn := { b.chn with remote := b.chn.remote.erase d, begun := b.chn.begun.erase d } }
    b.sendFrames (b.outcomeFrames n.val q.val c)
  | .fwRing n => b.fwComplete n d c

end Block

/-! ### The format of a descriptor (R394, R395) -/

/-- Dword n of a descriptor; a missing dword is 0. -/
def Desc.dw (d : Desc) (n : Nat) : Nat := (d.dws.getD n 0).toNat

/-- Opcode, NODE, BCAST, FENCE, NOIRQ, TAG and LEN (R394). -/
def Desc.opcode (d : Desc) : Nat := bits (d.dw 0) 7 0
def Desc.fence (d : Desc) : Bool := bit (d.dw 0) 8
def Desc.noirq (d : Desc) : Bool := bit (d.dw 0) 9
def Desc.node (d : Desc) : Nat := bits (d.dw 0) 21 16
def Desc.bcast (d : Desc) : Bool := bit (d.dw 0) 22
def Desc.tag (d : Desc) : Nat := bits (d.dw 1) 15 0
def Desc.addr (d : Desc) : Nat := d.dw 2 + d.dw 3 * 2 ^ 32
def Desc.len (d : Desc) : Nat := d.dw 4

/-- The part of R395 that every opcode shares. -/
def Desc.commonOk (d : Desc) : Bool :=
  bits (d.dw 0) 15 10 == 0 && bits (d.dw 0) 31 23 == 0 && bits (d.dw 1) 31 16 == 0 &&
  decide (d.len ≤ 65536) && (if d.len = 0 then d.addr == 0 else d.addr % 4 == 0)

/-- The dwords DW5–DW15 have only bits that their mask allows; dwords without a mask must be 0 (R395). -/
def Desc.maskOk (d : Desc) (ms : List Nat) : Bool :=
  (List.range 11).all fun i => decide (d.dw (5 + i) &&& ms.getD i 0 = d.dw (5 + i))

/-- Opcodes whose payload the module writes, and 0x03: not permitted with BCAST (R400). -/
def writesPayload (op : Nat) : Bool :=
  [0x01, 0x02, 0x03, 0x13, 0x26, 0x35, 0x43, 0x49, 0x56, 0x60, 0x64, 0x71, 0x77, 0x81, 0x82, 0xA5, 0xB0, 0xB1, 0xB8, 0xC0, 0xC8, 0xC9,
    0xD0, 0xD2, 0xD3, 0xE0, 0x90, 0x91, 0x93, 0x94, 0x95, 0x97].contains op

/-- Format of R395 for one opcode: its number, the LEN it allows and the bits of DW5–DW15 that it names. -/
def Desc.ok (d : Desc) (op lenLo lenHi : Nat) (ms : List Nat) : Bool :=
  d.commonOk && d.opcode == op && !(d.bcast && (writesPayload op || !(d.node % 32 == 0))) && decide (lenLo ≤ d.len) && decide (d.len ≤ lenHi) && d.maskOk ms

/-- Status codes of R397. -/
def St.ok : Nat := 0
def St.partialOk : Nat := 1
def St.aborted : Nat := 2
def St.refused : Nat := 3
def St.badDesc : Nat := 4
def St.nodeUnreach : Nat := 5
def St.authFail : Nat := 6
def St.busy : Nat := 7
def St.locked : Nat := 8
def St.timeout : Nat := 9
def St.hwFault : Nat := 10
def St.disabled : Nat := 11

/-- A completion with a status and no result. -/
def Compl.of (s : Nat) : Compl := { status := s }

/-- Component whose engines execute an opcode (R39, R598); 0 = none. -/
def compOf (op : Nat) : Nat :=
  if op < 0x10 then 0 else if op < 0x30 then 3 else if op < 0x40 then 4 else if op < 0x60 then 5 else if op < 0x70 then 3
  else if op < 0x80 then 6 else if 0xA0 ≤ op ∧ op < 0xB0 then 7 else 0

/-- The engines of an opcode have no firmware: their component has no valid copy (R605). -/
def Block.engineDead (b : Block) (op : Nat) : Bool := !(compOf op == 0) && bit (b.getF F.BOOT_STAT_CFAIL 0) (compOf op - 1)

/-- Executing unit of an opcode, by the row of R39. -/
def unitOf (op : Nat) : Nat :=
  if op < 0x10 then 0 else if op < 0x30 then 1 else if op < 0x40 then 2 else if op < 0x60 then 3 else if op < 0x70 then 1
  else if op < 0x90 then 4 else if op < 0xA0 then 5 else if op < 0xB0 then 6 else if op < 0xC0 then 7 else if op < 0xC8 then 8
  else if op < 0xD0 then 9 else if op < 0xE0 then 10 else 11

/-- Bits of dword i of a descriptor, of the count bits from bit `lo` on, as numbers from 0. -/
def Desc.picks (d : Desc) (i lo count : Nat) : List Nat := (List.range count).filter fun k => bit (d.dw i) (lo + k)

/-- Smart-power die of HS channel n (R28). -/
def hsDie (n : Nat) : Nat := if n < 8 then n / 2 else if n < 32 then (n - 8) / 6 else (n - 32) / 16

/-- The engines that execute a descriptor: HC6–HC9 and HC10 or HC11 by the dies of what it selects, HC12, HC13 and HC14 by
its opcode (R28, R39). -/
def descEngines (d : Desc) : List Nat :=
  let op := d.opcode
  if op = 0x11 then (List.range (d.len / 8)).map fun i => 6 + hsDie ((d.payload.getD (8 * i) 0).toNat % 96)
  else if 0x10 ≤ op ∧ op < 0x20 then (List.range 3).flatMap fun w => (d.picks (5 + w) 0 32).map fun k => 6 + hsDie (32 * w + k)
  else if op = 0x20 ∨ op = 0x25 ∨ op = 0x26 then (d.picks 5 0 16).map fun n => 6 + n / 4
  else if 0x20 ≤ op ∧ op < 0x30 then (d.picks 5 0 8).map fun k => 6 + k / 2
  else if op = 0x31 then [10 + bits (d.dw 8) 3 0 / 8]
  else if op = 0x32 ∨ op = 0x33 then (d.picks 6 0 16).map fun t => 10 + t / 8
  else if op = 0x36 then (d.picks 8 0 2).map fun j => 10 + j
  else if 0x30 ≤ op ∧ op < 0x40 then
    ((d.picks 5 0 32).map fun n => 10 + n / 16) ++ (if op = 0x34 then (d.picks 6 0 8).map fun k => 10 + k / 4 else [])
  else if 0x40 ≤ op ∧ op < 0x60 then [12]
  else if op = 0x61 then (d.picks 5 0 16).map fun m => 6 + m / 4
  else if op = 0x62 then (d.picks 5 0 4).map fun k => 6 + k
  else if op = 0x64 then [6, 7, 8, 9]
  else if 0x60 ≤ op ∧ op < 0x70 then
    ((d.picks 5 0 32).map fun n => 6 + n / 16) ++ ((d.picks 6 0 32).map fun n => 8 + n / 16) ++
      (if op = 0x63 then ((d.picks 7 0 16).map fun m => 6 + m / 4) ++ (d.picks 7 16 4).map fun k => 6 + k else [])
  else if 0x70 ≤ op ∧ op < 0x80 then [13]
  else if 0xA0 ≤ op ∧ op < 0xB0 then [14]
  else []

namespace Block

/-- An engine of the descriptor is held and will accept commands again: the descriptor waits for it (R142). -/
def engineHeld (b : Block) (d : Desc) : Bool :=
  !b.engineDead d.opcode && (descEngines d).any fun c => b.getF F.HEP_STAT_STATE c == 1

/-- The flight of a descriptor that its unit on this module has and has not finished. -/
def ownFlight (b : Block) (d : Desc) : Option Flight := match d.src with
  | .queue q => b.hq.flights.find? (awaits q b.nodeId d.dws)
  | _ => none

/-- Engines that have been reset since the descriptor was dispatched (R142). -/
def goneOf (b : Block) (d : Desc) : List Nat := ((b.ownFlight d).map fun f => f.gone).getD []

/-- A unit of PD10 has not ended its self-tests (R555). -/
def untested (b : Block) (us : List Nat) : Bool := b.pg 10 && us.any fun u => Tab.get 0 b.ciph.test u == 0

/-- The last group of a dealer code and a measurement report wait for the units that they need (R555). -/
def awaitsUnit (b : Block) (d : Desc) : Bool :=
  (d.opcode == 0xA2 && d.dw 5 == 3 && b.acs.code.length == 3 && b.flag F.CIPH_CFG_EN 0 && b.untested [1, 2]) ||
  (d.opcode == 0xB0 && b.getF F.BOOT_STAT_PHASE 0 == 2 && b.untested [2, 3])

/-- The descriptor reaches an engine that is held without having been dispatched to it: it waits in its queue, and one of
another node with the sluice (R142). The same for one whose unit has not ended its self-tests (R555). -/
def waits (b : Block) (d : Desc) : Bool := (b.engineHeld d && (b.ownFlight d).isNone) || b.awaitsUnit d

/-- A flight has its outcome. -/
def flightDone (f : Flight) : Option Compl := match f.stage with
  | .done c => some c
  | _ => none

/-- The payload that a finished flight writes, and where. -/
def sentOf (f : Flight) : List Byte := ((flightDone f).map fun c => c.data).getD []
def sentTo (f : Flight) : Nat := ((flightDone f).bind fun c => c.addr).getD f.desc.addr

/-- Two descriptors go to the same executing unit on the same node: for the dies, to the same engine (R39, R400, R403). -/
def sameUnit (x y : Desc) : Bool :=
  let nodes := if x.bcast || y.bcast then decide (x.node / 32 = y.node / 32) else x.node == y.node
  let engines := (descEngines x).isEmpty || (descEngines y).isEmpty || (descEngines x).any fun c => (descEngines y).contains c
  nodes && unitOf x.opcode == unitOf y.opcode && engines

/-- The effect of a descriptor that its unit has begun still waits: for a die, or for a render that reads the pool. A
descriptor that goes to a die waits behind the first kind there (`direct` = false). -/
def effectWaits (b : Block) (direct : Bool) (d : Desc) : Bool :=
  b.px.held.contains d || (direct && b.dieq.any fun c => c.desc == d)

/-- An earlier descriptor of the same queue for the same unit has not taken effect, or this one stands in its queue and has
not been dispatched: the unit does not take it yet (R403). `direct`: its effect is at once. -/
def ahead (b : Block) (direct : Bool) (d : Desc) : Bool := match d.src with
  | .queue q =>
    let mine := b.hq.flights.filter fun f => f.q == q.val && !f.drop
    (mine.takeWhile fun f => !(awaits q b.nodeId d.dws f)).any fun f => f.stage == .fetched || (sameUnit f.desc d &&
      (f.stage == .arrived || (f.stage == .dispatched && f.wait.contains b.nodeId && (!f.begun || b.effectWaits direct f.desc))))
  | .node n q => (b.chn.remote.takeWhile fun x => !(x == d)).any fun x => x.src == .node n q && sameUnit x d &&
      (!b.chn.begun.contains x || b.effectWaits direct x)
  | .fwRing _ => false

/-- The unit begins the descriptor. -/
def beginDesc (d : Desc) (b : Block) : Block := match d.src with
  | .queue q => { b with hq := { b.hq with flights := updFlight (awaits q b.nodeId d.dws) (fun f => { f with begun := true }) b.hq.flights } }
  | .node _ _ => { b with chn := { b.chn with begun := b.chn.begun ++ [d] } }
  | .fwRing _ => b

/-- The descriptor stays where it waits. -/
def keepWaiting (d : Desc) (b : Block) : Block := match d.src with
  | .queue q =>
    if b.hq.flights.any fun f => f.q == q.val && !f.drop && f.desc.dws == d.dws && (flightDone f).isNone then b
    else b.setFlights (b.hq.flights ++ [{ q := q.val, desc := d, stage := .arrived }]) q.val
  | .node _ _ => if b.chn.remote.contains d then b else { b with chn := { b.chn with remote := b.chn.remote ++ [d] } }
  | .fwRing _ => b

/-- The unit takes the descriptor where its turn has come (R403); till then it waits. -/
def inOrder (direct : Bool) (d : Desc) (k : Block → Block) (b : Block) : Block :=
  if b.ahead direct d then b.keepWaiting d else k b

end Block

/-- A mask field of a descriptor, `count` bits from bit `lo` of dword i, without the parts of engines that are gone. -/
def Desc.cut (gone : List Nat) (i lo count : Nat) (eng : Nat → Nat) (d : Desc) : Desc :=
  let w := (List.range count).foldl (fun w k => if gone.contains (eng k) then putBits w (lo + k) (lo + k) 0 else w) (d.dw i)
  { d with dws := d.dws.set i (BitVec.ofNat 32 w) }

/-- What is left of a descriptor that its units finish at once when engines of some of its parts are gone (R39, R399);
none where the opcode's work has no such parts. -/
def Desc.without (gone : List Nat) (d : Desc) : Option Desc :=
  let op := d.opcode
  if op = 0x12 ∨ op = 0x13 then
    some (((d.cut gone 5 0 32 fun k => 6 + hsDie k).cut gone 6 0 32 fun k => 6 + hsDie (32 + k)).cut gone 7 0 32 fun k => 6 + hsDie (64 + k))
  else if op = 0x25 ∨ op = 0x26 then some (d.cut gone 5 0 16 fun n => 6 + n / 4)
  else if op = 0x32 ∨ op = 0x33 then some (d.cut gone 6 0 16 fun t => 10 + t / 8)
  else if op = 0x34 then some ((d.cut gone 5 0 32 fun n => 10 + n / 16).cut gone 6 0 8 fun k => 10 + k / 4)
  else if op = 0x35 then some (d.cut gone 5 0 32 fun n => 10 + n / 16)
  else if op = 0x36 then some (d.cut gone 8 0 2 fun j => 10 + j)
  else if op = 0x60 ∨ op = 0x63 then
    let d := (d.cut gone 5 0 32 fun n => 6 + n / 16).cut gone 6 0 32 fun n => 8 + n / 16
    some (if op = 0x63 then (d.cut gone 7 0 16 fun m => 6 + m / 4).cut gone 7 16 4 fun k => 6 + k else d)
  else none

/-- The answer of a unit whose parts at the engines `gone` were stopped: they count as not applied, and CW3 names their
dies (R157, R216, R303, R399). -/
def Compl.lacking (d : Desc) (gone : List Nat) (c : Compl) : Compl :=
  let lost := (descEngines d).filter gone.contains
  if c.status = St.badDesc then c
  else { c with
    status := if c.status = St.ok ∨ c.status = St.partialOk then St.partialOk else St.aborted
    cw2 := c.cw2 + (if d.opcode = 0x34 ∨ d.opcode = 0x63 then 256 * lost.length else 0)
    cw3 := lost.foldl (fun m e => m ||| (if e < 10 then 2 ^ (e - 6) else 2 ^ (e - 10))) c.cw3 }

/-- Give a descriptor to its unit: in Recovery only the opcodes 0x00–0x0F and 0xB0–0xBF run (R398 rank 5);
otherwise the unit answers, and its answer becomes the completion. A malformed descriptor ranks before (rank 1). The
parts whose engines have been reset since the dispatch are not applied (R142, R399, log 164). -/
def runDesc (d : Desc) (unit : Desc → Block → Block × Compl) (b : Block) : Block := b.inOrder true d fun b =>
  let fail (s : Nat) : Block :=
    let c := (unit d b).2
    b.complete d (if c.status = St.badDesc then c else .of s)
  if b.getF F.PWR_STATE_STATE 0 == 4 && !(decide (d.opcode < 0x10) || decide (0xB0 ≤ d.opcode ∧ d.opcode < 0xC0)) then
    fail St.refused
  else if b.engineDead d.opcode then fail St.hwFault
  else if b.waits d && !((unit d b).2.status == St.badDesc) then b.keepWaiting d
  else
    let gone := b.goneOf d
    match (if gone.isEmpty then some d else (d.without gone).filter fun x => !(descEngines x).isEmpty) with
    | none => fail St.aborted
    | some x =>
      let (b, c) := unit x b
      b.complete d (if gone.isEmpty then c else c.lacking d gone)

namespace Block

/-- Reject a descriptor as malformed. -/
def bad (d : Desc) (b : Block) : Block := b.complete d (.of St.badDesc)

/-- Run a unit that may leave its completion to a later event: the checks of R395 and R398 first. -/
def runDeferred (d : Desc) (ok : Bool) (k : Block → Block) (b : Block) : Block := b.inOrder false d fun b =>
  if !ok then b.bad d
  else if b.getF F.PWR_STATE_STATE 0 == 4 then b.complete d (.of St.refused)
  else if b.engineDead d.opcode then b.complete d (.of St.hwFault)
  else if b.waits d then b.keepWaiting d
  else k (b.beginDesc d)

/-- Nothing of a descriptor stands with a die, an asset slot, a port, a channel or an enrolment. -/
def notBegun (b : Block) (d : Desc) : Bool :=
  !(b.dieq.any fun c => c.desc == d) && !b.px.held.contains d && !(b.px.port.any fun e => e.2.fsimg == some d) &&
  !(b.net.ch.any fun e => e.2.jobs.any (fun j => j.desc == d) || e.2.bufs.any fun x => x.desc == d) && !(b.acs.enrol == some d)

/-- A reset of engine c: the descriptors dispatched to it that no die has yet are stopped there; those with no other
engine complete with ABORTED (R142, R205, R237). -/
def engineGone (c : Nat) (b : Block) : Block :=
  let hit (f : Flight) : Bool := f.stage == .dispatched && !f.drop && f.wait.contains b.nodeId && !f.begun && (descEngines f.desc).contains c && b.notBegun f.desc
  let fs := b.hq.flights.map fun f => if hit f then { f with gone := c :: f.gone } else f
  let dead := (fs.filter fun f => hit f && (descEngines f.desc).all f.gone.contains).map fun f => f.desc
  let away := b.chn.remote.filter fun d => b.notBegun d && !(descEngines d).isEmpty && (descEngines d).all fun e => e == c
  (dead ++ away).foldl (fun b d => b.complete d (.of St.aborted)) { b with hq := { b.hq with flights := fs } }

end Block

/-- STATUS of a descriptor whose work divides into parts (R399): OK, PARTIAL, or the opcode's own status where
no part was applied. -/
def partStatus (applied notApplied none : Nat) : Nat :=
  if notApplied = 0 then St.ok else if applied = 0 then none else St.partialOk

end Sys2Proof.Machine
end

