-- ==== Sys2Proof/Machine/PairBase.lean ====
section
/-! DEFINITION. Which functions a redundant pair mirrors, and where their commands are not applied (R629, R631, R634). -/
namespace Sys2Proof.Machine

namespace Block

/-- Word i of the settings that the last enable took: PAIR_CFG, three HS masks, PAIR_MASK, PAIR_VMASK (R645). -/
def pairCfg (b : Block) (i : Nat) : Nat := b.pair.cfg.getD i 0

/-- HSn, HBn, lamp group g, valve table t is mirrored. -/
def mirHs (b : Block) (n : Nat) : Bool := bit (b.pairCfg (1 + n / 32)) (n % 32)
def mirHb (b : Block) (n : Nat) : Bool := bit (b.pairCfg 4) n
def mirGrp (b : Block) (g : Nat) : Bool := bit (b.pairCfg 4) (16 + g)
def mirTbl (b : Block) (t : Nat) : Bool := bit (b.pairCfg 5) t

/-- The role keeps mirrored outputs off: LINKUP, FOLLOW and BLOCKED (R631). -/
def pairOff (b : Block) : Bool :=
  let r := b.getF F.PAIR_STAT_ROLE 0
  r == 1 || r == 3 || r == 5

/-- Commands for channel p (HS 0–95, HB from 96) are not applied (R634). -/
def pairHeld (b : Block) (p : Nat) : Bool := b.pairOff && (if p < 96 then b.mirHs p else b.mirHb (p - 96))
def pairHeldGrp (b : Block) (g : Nat) : Bool := b.pairOff && b.mirGrp g
def pairHeldTbl (b : Block) (t : Nat) : Bool := b.pairOff && b.mirTbl t

end Block

end Sys2Proof.Machine
end

