-- ==== Sys2Proof/Machine/LampBase.lean ====
section
/-! DEFINITION. Lamp fades and matrix ports, as far as they raise no event and turn no output: how a fade's value
is computed, and how fades end under interfering events (R220–R226, R236). -/
namespace Sys2Proof.Machine

/-! ### CIE lightness in fixed point: 2^40 stands for 1 (R222, log 21) -/

/-- Integer cube root by bits: the largest r + (bits below 2^n) whose cube is at most x. -/
def cbrtFrom : Nat → Nat → Nat → Nat
  | 0, r, _ => r
  | n + 1, r, x => let t := r + 2 ^ n; cbrtFrom n (if t * t * t ≤ x then t else r) x

/-- L* of a level in steps of 2^−40, from relative luminance Y = level ÷ 65,536. -/
def lstarOf (level : Nat) : Nat :=
  if 8856 * 65536 < level * 1000000 then 116 * cbrtFrom 42 0 (level * 2 ^ 104) - 16 * 2 ^ 40
  else 9033 * level * 2 ^ 24 / 10

/-- Nearest integer to a quotient. -/
def roundDiv (a b : Nat) : Nat := (2 * a + b) / (2 * b)

/-- The level of a lightness: Y × 65,536, rounded to the nearest integer. -/
def levelOf (l : Nat) : Nat :=
  if 8 * 2 ^ 40 < l then roundDiv ((l + 16 * 2 ^ 40) ^ 3 * 65536) (116 ^ 3 * 2 ^ 120)
  else roundDiv (l * 10 * 65536) (9033 * 2 ^ 40)

/-- LEVEL after `passed` of `total` ms on the way from s to t by CURVE (R222). -/
def fadeValue (cie : Bool) (s t passed total : Nat) : Nat :=
  if total ≤ passed then t
  else if cie then levelOf ((lstarOf s * (total - passed) + lstarOf t * passed) / total)
  else roundDiv (s * (total - passed) + t * passed) total

namespace Block

/-- Fade i: that of channel i, or of group i − 96. -/
def fadeOf (b : Block) (i : Nat) : Option Fade := Tab.get none b.lmp.fade i
def setFade (i : Nat) (f : Option Fade) (b : Block) : Block := { b with lmp := { b.lmp with fade := Tab.put b.lmp.fade i f } }

/-- Channels CH0, CH1 and CH2 of group g (R223). -/
def grpChans (b : Block) (g : Nat) : List Nat := [b.getF F.LMP_GRP_CH0 g, b.getF F.LMP_GRP_CH1 g, b.getF F.LMP_GRP_CH2 g]

/-- The enabled group that channel n belongs to. -/
def groupOf (b : Block) (n : Nat) : Option Nat :=
  if b.flag F.LMP_CFG_INGRP n then (List.range 16).find? fun g => b.flag F.LMP_GRP_EN g && (b.grpChans g).contains n else none

/-- LEVEL of channel n. -/
def lampLevel (b : Block) (n : Nat) : Nat := b.getF F.LMP_LEVEL_LEVEL n

/-- The fade flags of a channel cleared; FCUT where a fade ends before its TARGET (R226). -/
def fadeFlagsOff (n : Nat) (b : Block) : Block :=
  let b := if b.flag F.LMP_FADE_FADING n then b.setF F.LMP_FADE_FCUT n 1 else b
  ((b.setF F.LMP_FADE_FADING n 0).setF F.LMP_FADE_FROZEN n 0).setF F.LMP_FADE_REMAIN n 0

/-- The fade of channel n ends; LEVEL and TARGET become v. -/
def lampCut (n v : Nat) (b : Block) : Block :=
  let b := (b.fadeFlagsOff n).setFade n none
  (b.setF F.LMP_LEVEL_LEVEL n v).setF F.LMP_TARGET_TARGET n v

/-- Channel n has nothing to cut: no fade, LEVEL and TARGET 0. -/
def lampDark (b : Block) (n : Nat) : Bool :=
  b.lampLevel n == 0 && b.getF F.LMP_TARGET_TARGET n == 0 && (b.fadeOf n).isNone

/-- EN written 0: the fade of the channel, or of its whole group, ends and LEVEL and TARGET become 0 (R226,
log 22). Answers the group's channels beside the block. -/
def lampDisabled (n : Nat) (b : Block) : Block × List Nat :=
  match b.groupOf n with
  | some g => (((b.grpChans g).foldl (fun b m => b.lampCut m 0) b).setFade (96 + g) none, b.grpChans g)
  | none => (if b.lampDark n then b else b.lampCut n 0, [])

/-- LOCKED: a channel's own fade ends; that of a group continues (R225, R226). -/
def lampLocked (n : Nat) (b : Block) : Block :=
  if (b.groupOf n).isSome || b.lampDark n then b else b.lampCut n 0

/-- Fades that exist. -/
def fades (b : Block) : List Nat := (b.lmp.fade.filter fun e => e.2.isSome).map Prod.fst

/-- Channels of fade i. -/
def fadeChans (b : Block) (i : Nat) : List Nat := if i < 96 then [i] else b.grpChans (i - 96)

/-- Weir HOLD: every fade is frozen (R226). -/
def lampHold (b : Block) : Block :=
  b.fades.foldl (fun b i =>
    let b := b.setFade i ((b.fadeOf i).map fun f => { f with frozen := true })
    (b.fadeChans i).foldl (fun b n => b.setF F.LMP_FADE_FROZEN n 1) b) b

/-- Reclaim: a frozen fade resumes with its remaining time (R226). -/
def lampResume (b : Block) : Block :=
  b.fades.foldl (fun b i =>
    let b := b.setFade i ((b.fadeOf i).map fun f => { f with frozen := false })
    (b.fadeChans i).foldl (fun b n => b.setF F.LMP_FADE_FROZEN n 0) b) b

/-- SoC reset: every fade stops at its current value and is not resumed (R226). -/
def lampSocReset (b : Block) : Block :=
  b.fades.foldl (fun b i => ((b.fadeChans i).foldl (fun b n => b.lampCut n (b.lampLevel n)) b).setFade i none) b

/-- Weir APPLIED: every fade ends, LEVEL and TARGET by the channel's entry (R226). `code`: fail-safe entry. -/
def lampApplied (code : Nat → Nat) (b : Block) : Block :=
  let b := forN 96 (fun n b =>
    if b.flag F.HSW_CFG_LAMP n then
      let c := code n
      b.lampCut n (if c = 1 then 65536 else if c = 2 then b.lampLevel n else 0)
    else b) b
  { b with lmp := { b.lmp with fade := [] } }

/-! ### Matrix ports -/

/-- Port k. -/
def mtx (b : Block) (k : Nat) : MtxPort := Tab.get {} b.lmp.port k
def updMtx (k : Nat) (f : MtxPort → MtxPort) (b : Block) : Block :=
  { b with lmp := { b.lmp with port := Tab.put b.lmp.port k (f (b.mtx k)) } }

/-- EN written 0: DISABLED (R236). -/
def mtxDisable (k : Nat) (b : Block) : Block :=
  ((b.setF F.MTX_CFG_EN k 0).setF F.MTX_STAT_STATE k 0).updMtx k fun p => { p with onTicks := [], scanned := false }

/-- Both buffers of port k cleared to 0 (R236). -/
def mtxClear (k : Nat) (b : Block) : Block := b.updMtx k fun p => { p with front := [], back := [], swap := false }

/-- The feed band of VBAT_C turns the ports off (R206, R236). -/
def mtxDrop (b : Block) : Block :=
  forN 4 (fun k b => if b.getF F.MTX_STAT_STATE k == 1 then
    (b.setF F.MTX_STAT_STATE k 2).updMtx k fun p => { p with onTicks := [], scanned := false } else b) b

/-- VBAT_C has been usable for 10 ms (R236). -/
def mtxBack (b : Block) : Block := forN 4 (fun k b => if b.getF F.MTX_STAT_STATE k == 2 then b.setF F.MTX_STAT_STATE k 1 else b) b

/-- Weir APPLIED: both buffers cleared unless FSKEEP = 1 (R236). -/
def mtxApplied (b : Block) : Block := forN 4 (fun k b => if b.flag F.MTX_CFG_FSKEEP k then b else b.mtxClear k) b

end Block

end Sys2Proof.Machine
end

