-- ==== Sys2Proof/Machine/ChanBase.lean ====
section
/-! DEFINITION. Power channels, HS0–HS95 as p = 0–95 and HB0–HB15 as p = 96–111: their registers, class
parameters and state transitions (R99–R141, R158–R165), as far as they raise no event. Event source EV(16 + p)
and fail-safe table entry p belong to channel p (R47, R136). -/
namespace Sys2Proof.Machine

/-- States of R124. -/
def Ch.disabled : Nat := 0
def Ch.off : Nat := 1
def Ch.on : Nat := 2
def Ch.limit : Nat := 3
def Ch.thermal : Nat := 4
def Ch.retryWait : Nat := 5
def Ch.locked : Nat := 6
def Ch.supply : Nat := 7
def Ch.held : Nat := 8
def Ch.failSafe : Nat := 9

/-- Number of power channels. -/
def nChan : Nat := 112

/-- p is a half-bridge. -/
def isHb (p : Nat) : Bool := decide (96 ≤ p)

/-- A field that HSW_* and HB_* share, for channel p (R178, R179). -/
structure ChField where
  hs : RegField
  hb : RegField

def C.en : ChField := ⟨F.HSW_CFG_EN, F.HB_CFG_EN⟩
def C.minon : ChField := ⟨F.HSW_CFG_MINON, F.HB_CFG_MINON⟩
def C.olen : ChField := ⟨F.HSW_CFG_OLEN, F.HB_CFG_OLEN⟩
def C.puen : ChField := ⟨F.HSW_CFG_PUEN, F.HB_CFG_PUEN⟩
def C.olcnt : ChField := ⟨F.HSW_CFG_OLCNT, F.HB_CFG_OLCNT⟩
def C.retry : ChField := ⟨F.HSW_CFG_RETRY, F.HB_CFG_RETRY⟩
def C.boff : ChField := ⟨F.HSW_CFG_BOFF, F.HB_CFG_BOFF⟩
def C.boffDbl : ChField := ⟨F.HSW_CFG_BOFFDBL, F.HB_CFG_BOFFDBL⟩
def C.rearm : ChField := ⟨F.HSW_CFG_REARM, F.HB_CFG_REARM⟩
def C.period : ChField := ⟨F.HSW_PWM_PERIOD, F.HB_PWM_PERIOD⟩
def C.olth : ChField := ⟨F.HSW_OLTH_OLTH, F.HB_OLTH_OLTH⟩
def C.duty : ChField := ⟨F.HSW_CMD_DUTY, F.HB_CMD_DUTY⟩
def C.state : ChField := ⟨F.HSW_STAT_STATE, F.HB_STAT_STATE⟩
def C.lockCause : ChField := ⟨F.HSW_STAT_LOCKCAUSE, F.HB_STAT_LOCKCAUSE⟩
def C.locked : ChField := ⟨F.HSW_STAT_LOCKED, F.HB_STAT_LOCKED⟩
def C.sc : ChField := ⟨F.HSW_STAT_SC, F.HB_STAT_SC⟩
def C.ilim : ChField := ⟨F.HSW_STAT_ILIM, F.HB_STAT_ILIM⟩
def C.ot : ChField := ⟨F.HSW_STAT_OT, F.HB_STAT_OT⟩
def C.clampx : ChField := ⟨F.HSW_STAT_CLAMPX, F.HB_STAT_CLAMPX⟩
def C.ol : ChField := ⟨F.HSW_STAT_OL, F.HB_STAT_OL⟩
def C.sb : ChField := ⟨F.HSW_STAT_SB, F.HB_STAT_SB⟩
def C.minadj : ChField := ⟨F.HSW_STAT_MINADJ, F.HB_STAT_MINADJ⟩
def C.olmeth : ChField := ⟨F.HSW_STAT_OLMETH, F.HB_STAT_OLMETH⟩
def C.retryLeft : ChField := ⟨F.HSW_STAT_RETRYLEFT, F.HB_STAT_RETRYLEFT⟩
def C.partner : ChField := ⟨F.HSW_STAT_PARFAULT, F.HB_STAT_FBFAULT⟩
def C.curr : ChField := ⟨F.HSW_MEAS_CURR, F.HB_MEAS_CURR⟩
def C.vout : ChField := ⟨F.HSW_MEAS_VOUT, F.HB_MEAS_VOUT⟩
def C.tjTemp : ChField := ⟨F.HSW_TJ_TEMP, F.HB_TJ_TEMP⟩
def C.tjValid : ChField := ⟨F.HSW_TJ_VALID, F.HB_TJ_VALID⟩
def C.winsum : ChField := ⟨F.HSW_CLAMP_WINSUM, F.HB_CLAMP_WINSUM⟩

/-- Smart-power die of a channel: HS by R28, HB four per die. -/
def dieOf (p : Nat) : Nat := if isHb p then (p - 96) / 4 else hsDie p

/-- Feed of a channel: VBAT_A for SP0 and SP1, VBAT_B for SP2 and SP3 (R60). -/
def feedOf (p : Nat) : Nat := if dieOf p < 2 then 0 else 1

/-- Short-circuit trip threshold in mA (R99, R158). -/
def tripMa (p : Nat) : Nat := if isHb p then 30000 else if p < 8 then 140000 else if p < 32 then 60000 else 20000

/-- On-state diagnosis window in timebase ticks (R99, R158). -/
def windowTicks (p : Nat) : Nat := if isHb p then 3200 else if p < 8 then 6400 else if p < 32 then 3200 else 1280

/-- Clamp budget in steps of 10 µJ (R99, R149, R179). -/
def clampBudget (p : Nat) : Nat := if isHb p then 40000 else if p < 8 then 150000 else if p < 32 then 40000 else 6000

/-- Longest and shortest PERIOD of a channel (R103, R161, R218); lamp mode lowers the longest. -/
def periodMin (p : Nat) : Nat := if isHb p then 6400 else if p < 8 then 12800 else 6400

namespace Block

/-- A shared field of channel p. -/
def cget (b : Block) (f : ChField) (p : Nat) : Nat := if isHb p then b.getF f.hb (p - 96) else b.getF f.hs p

/-- The block with a shared field of channel p set. -/
def cset (f : ChField) (p v : Nat) (b : Block) : Block := if isHb p then b.setF f.hb (p - 96) v else b.setF f.hs p v

def cflag (b : Block) (f : ChField) (p : Nat) : Bool := b.cget f p == 1

/-- Inner record of channel p, and its update. -/
def ch (b : Block) (p : Nat) : PowerChan := Tab.get {} b.chan p
def updCh (p : Nat) (f : PowerChan → PowerChan) (b : Block) : Block := { b with chan := Tab.put b.chan p (f (b.ch p)) }

def chState (b : Block) (p : Nat) : Nat := b.cget C.state p

/-- The channel that leads p's pair (PAR, R109) or full bridge (FB, R160): p itself where there is none. -/
def lead (b : Block) (p : Nat) : Nat :=
  let e := p - p % 2
  if isHb p then (if b.flag F.HB_CFG_FB (e - 96) then e else p) else if b.flag F.HSW_CFG_PAR e then e else p

/-- p leads a pair or a full bridge. -/
def isPair (b : Block) (p : Nat) : Bool := p % 2 == 0 && b.lead (p + 1) == p

/-- p is the second channel of a pair or full bridge. -/
def isFollower (b : Block) (p : Nat) : Bool := !(b.lead p == p)

/-- The other member of p's pair; p itself where there is none. -/
def partner (b : Block) (p : Nat) : Nat := if b.isFollower p then p - 1 else if b.isPair p then p + 1 else p

/-- Apply an update to every member of p's pair. -/
def onPair (p : Nat) (f : Nat → Block → Block) (b : Block) : Block :=
  let l := b.lead p
  if b.isPair l then f (l + 1) (f l b) else f l b

/-- STATE of every member of p's pair. -/
def setChState (p v : Nat) (b : Block) : Block := b.onPair p fun q b => b.cset C.state q v

/-- The feed of channel p holds its outputs off (R63, R64). -/
def feedHeld (b : Block) (p : Nat) : Bool := Tab.get false b.pw.feedOff (feedOf p)

/-- Band of a feed; Normal until the first band change is reported (log 5). -/
def feedBandOf (b : Block) (n : Nat) : Nat := Tab.get 3 b.pw.feedBand n

/-- Linear current limit in mA: the reduced column in the Reduced band or in a 12 V system (R99, R101, R158). -/
def limitMa (b : Block) (p : Nat) : Nat :=
  let low := b.feedBandOf (feedOf p) == 2 || b.flag F.PWR_CFG_SYSV 0
  if isHb p then 20000 else if p < 8 then (if low then 70000 else 95000)
  else if p < 32 then (if low then 30000 else 40000) else 12000

/-- State of the weir (R129). -/
def weirState (b : Block) : Nat := b.getF F.WEIR_STAT_STATE 0

/-- The weir is in HOLD or APPLIED (R128). -/
def underWeir (b : Block) : Bool := decide (2 ≤ b.weirState)

/-- The channel whose command drives p's output: a pair switches under channel n (R109); each half-bridge has its own. -/
def lane (b : Block) (p : Nat) : Nat := if isHb p then p else b.lead p

/-- Channel q's own command is other than 0: DUTY of an HS channel, OUT of a half-bridge (R102, R161). -/
def ownOn (b : Block) (q : Nat) : Bool :=
  if isHb q then !(b.getF F.HB_CMD_OUT (q - 96) == 0) else !(b.cget C.duty q == 0)

/-- A condition on the channel that drives p, or on either half of its full bridge. -/
def eitherLane (b : Block) (p : Nat) (f : Nat → Bool) : Bool :=
  if isHb p && !(b.partner p == p) then f p || f (b.partner p) else f (b.lane p)

/-- The command of p's channel, pair or full bridge is other than 0. -/
def cmdOn (b : Block) (p : Nat) : Bool := b.eitherLane p b.ownOn

/-- Either member's thermal latch is set: a pair waits until both have cleared (R109). -/
def latched (b : Block) (p : Nat) : Bool := (b.ch p).latch || (b.ch (b.partner p)).latch

/-- A pattern taken at the application: on at its start unless PERIOD or ON is 0 (R137). -/
def patternStarts (b : Block) (k : Nat) : Bool :=
  let pat := Tab.get (0, 0) b.weir.flash k
  !(pat.1 == 0) && !(pat.2 == 0)

/-- The held output of channel q is on: its command, or the pattern that it has kept since a reclaim (R128, R138). -/
def heldOn (b : Block) (q : Nat) : Bool :=
  match (b.ch q).flash with
  | some k => b.patternStarts k
  | none => b.ownOn q

/-- The target of channel q under the weir is on: its held output, or that of its table entry (R128, R136). -/
def ownTarget (b : Block) (q : Nat) : Bool :=
  if b.weirState == 3 then
    match (b.ch q).fsOut with
    | .off => false
    | .on => true
    | .hold => b.heldOn q
    | .flash k => b.patternStarts k
  else b.heldOn q

/-- The restart target of p's channel, pair or full bridge is on (R128). After a lock cleared under the weir it is off (R126). -/
def targetOn (b : Block) (p : Nat) : Bool := b.eitherLane p b.ownTarget && !(b.ch p).offUnder

/-- OUT and DUTY that the command of channel q asks of its output; a kept pattern has its own phase (R102, R138, R161). -/
def cmdOut (b : Block) (q : Nat) : Nat × Nat :=
  match (b.ch q).flash with
  | some _ => if (b.ch q).flashOn then (1, 65536) else (0, 0)
  | none => (if isHb q then b.getF F.HB_CMD_OUT (q - 96) else 1, b.cget C.duty q)

/-- OUT and DUTY that the table entry of channel q asks of its output (R136, R172). -/
def fsDrive (b : Block) (q : Nat) : Nat × Nat :=
  match (b.ch q).fsOut with
  | .off => (0, 0)
  | .on => (1, 65536)
  | .hold => b.cmdOut q
  | .flash _ => if (b.ch q).flashOn then (1, 65536) else (0, 0)

/-- Under the weir the output of p stays off: its lock was cleared there, its feed's band turns it off, or a latch or a
back-off defers its turn-on (R64, R116, R126). -/
def heldOff (b : Block) (p : Nat) : Bool :=
  (b.ch p).offUnder || b.feedHeld p || b.latched p || (b.ch (b.lead p)).wait

/-- OUT and DUTY that the output of p drives by its state (R124, R128). -/
def drive (b : Block) (p : Nat) : Nat × Nat :=
  let st := b.chState p
  if st == Ch.on || st == Ch.limit then b.cmdOut (b.lane p)
  else if st == Ch.held && !b.heldOff p then b.cmdOut (b.lane p)
  else if st == Ch.failSafe && !b.heldOff p then b.fsDrive (b.lane p)
  else (0, 0)

/-- DRIVE alternates the high and the low side (R161, R176). -/
def alternates (b : Block) (p : Nat) : Bool := isHb p && !b.flag F.HB_CFG_PWMMODE (p - 96)

/-- A switch of output p conducts in the DC state or for part of each period (R124, R127, R161). -/
def conducts (b : Block) (p : Nat) : Bool :=
  let o := b.drive p
  o.1 == 2 || (o.1 == 1 && (!(o.2 == 0) || b.alternates p))

/-- A PWM period of output p runs: it is never cut short, whatever command has come since (R106). -/
def inPeriod (b : Block) (p : Nat) : Bool := !((b.ch p).onTicks + (b.ch p).offTicks == 0)

/-- Output p is on: by its state and command, or by a period that still runs (R106, R124). -/
def carries (b : Block) (p : Nat) : Bool := b.conducts p || b.inPeriod p

/-- Switch that output p keeps on while it is in a DC state: 1 = high, 2 = low, 0 = none (R161). -/
def dcSide (b : Block) (p : Nat) : Nat :=
  match b.drive p with
  | (2, _) => 2
  | (1, 65536) => 1
  | (1, 0) => if b.alternates p then 2 else 0
  | _ => 0

/-- An output without a PWM period: no times of one, and no limiting where it is off (R104, R113). `side`: the switch
that is on. -/
def restChan (d side : Nat) (on : Bool) (c : PowerChan) : PowerChan :=
  { c with duty := d, onTicks := 0, offTicks := 0, highTicks := 0, lowTicks := 0, side := side, limiting := c.limiting && on }

/-- The DUTY of output q, while no PWM period runs, is taken at once; a running period is not cut short (R106). -/
def takeOne (q : Nat) (b : Block) : Block :=
  let d := (b.ch q).duty
  if d = 0 ∨ d = 65536 then
    let n := (b.drive q).2
    b.updCh q (restChan n (if n = 0 ∨ n = 65536 then b.dcSide q else (b.ch q).side) (b.conducts q))
  else b

/-- The same for every member of p's pair. -/
def takeDuty (p : Nat) (b : Block) : Block := b.onPair p fun q b => b.takeOne q

/-- Output q goes to its DC state at once, in the middle of a period too (R136, R137). Where that turns it off, the
moment is noted for a trip that coincides (R120). -/
def driveOne (was : Bool) (q : Nat) (b : Block) : Block :=
  let d := (b.drive q).2
  let b := if d = 0 ∨ d = 65536 then b.updCh q (restChan d (b.dcSide q) (b.conducts q)) else b.takeOne q
  if was && !b.conducts q then b.updCh q fun c => { c with cutAt := some b.pw.tbase } else b

/-- Switch the output of channel q off at once, through its slope and clamp (R107, R118), and note the moment (R120). -/
def cutOne (q : Nat) (b : Block) : Block :=
  b.updCh q fun c => { restChan 0 0 false c with cutAt := if b.carries q then some b.pw.tbase else c.cutAt }

/-- Switch the output of p's pair off at once. -/
def cutOutput (p : Nat) (b : Block) : Block := b.onPair p fun q b => b.cutOne q

/-- Set the command of an HS channel or half-bridge; the channel's pattern ends with its next command (R138). -/
def setCmd (p out duty : Nat) (b : Block) : Block :=
  let b := b.cset C.duty p duty
  let b := if isHb p then b.setF F.HB_CMD_OUT (p - 96) out else b
  b.updCh p fun c => { c with flash := none, flashOn := false }

/-- Turn a channel on: ON, or SUPPLY while its feed's band turns outputs off (R64, R125). One that the weir held in its
linear limit is in LIMIT again (R135). DESIGN CHOICE: the 10 ms for which the band must have been usable count as part
of the turn-off, so a channel commanded on in them enters SUPPLY (log 200). -/
def turnOn (p : Nat) (b : Block) : Block :=
  if b.feedHeld p then b.setChState p Ch.supply
  else (b.setChState p (if (b.ch p).limiting || (b.ch (b.partner p)).limiting then Ch.limit else Ch.on)).takeDuty p

/-- The state that matches the command and the protection state (R125, R128). -/
def matchState (p : Nat) (b : Block) : Block :=
  if b.cget C.en (b.lead p) == 0 then b.setChState p Ch.disabled
  else if !b.cmdOn p then b.setChState p Ch.off
  else if b.latched p then b.setChState p Ch.thermal
  else if (b.ch (b.lead p)).wait then b.setChState p Ch.retryWait
  else b.turnOn p

/-- Load the retry counter and restart the count of R115. -/
def loadRetry (p : Nat) (b : Block) : Block :=
  let l := b.lead p
  (b.onPair l fun q b => b.cset C.retryLeft q (b.cget C.retry l)).updCh l fun c => { c with k := 0 }

/-- The latch has cleared and the back-off has ended: the restart of R116, or of R128 under the weir. The
counter decrements at this turn-on and at no other moment, and not below 0. DEDUCED: with command 0 after a reclaim the
channel stays where it is until a command; a turn-on that the weir's table asked for while it was deferred counts too. -/
def tryRestart (p : Nat) (b : Block) : Block :=
  let l := b.lead p
  let st := b.chState l
  let dec (b : Block) : Block := b.onPair l fun q b => b.cset C.retryLeft q (b.cget C.retryLeft l - 1)
  if b.latched l || (b.ch l).wait then b
  else if st == Ch.thermal || st == Ch.retryWait then
    if b.underWeir then
      let b := if b.targetOn l then dec b else b
      (b.setChState l (if b.weirState == 3 then Ch.failSafe else Ch.held)).takeDuty l
    else if b.cmdOn l then (dec b).turnOn l
    else b
  else if (st == Ch.held || st == Ch.failSafe) && b.targetOn l && !b.feedHeld l then (dec b).takeDuty l
  else b

/-- A stored command acts on the channel's state (R125). A LOCKED channel stays LOCKED. Under the weir no software
command gets here: a function that the die carries on with changes the output and not the state (R128, R172). -/
def commandActs (p : Nat) (b : Block) : Block :=
  let st := b.chState p
  if st == Ch.disabled || st == Ch.locked then b
  else if b.underWeir then b.takeDuty p
  else if b.cmdOn p then
    if st == Ch.off then (b.matchState p).takeDuty p
    else if st == Ch.thermal || st == Ch.retryWait then b.tryRestart p
    else b.takeDuty p
  else (b.setChState p Ch.off).takeDuty p

/-- Update full bridge k. -/
def fbr (b : Block) (k : Nat) : FullBridge := Tab.get {} b.fb k
def updFb (k : Nat) (f : FullBridge → FullBridge) (b : Block) : Block := { b with fb := Tab.put b.fb k (f (b.fbr k)) }

/-- Full bridge k of half-bridge channel p. -/
def fbIdx (p : Nat) : Nat := (p - 96) / 2

/-- The channel's full bridge, where it is half of one, ends its function and coasts (R171). -/
def endFunction (p : Nat) (b : Block) : Block :=
  if isHb p && (b.isPair p || b.isFollower p) then
    (b.updFb (fbIdx p) fun f => { f with phase := .idle, next := none, lastDir := 0, pulses := 0 }).setF F.HB_FBSTAT_DIR (fbIdx p) 0
  else b

/-- EN written 0: DISABLED, output off, a pending restart discarded, a LOCKED bit kept (R120, R125, R126). EN of
the leading channel governs a pair; that of the other is stored without effect (R109, R176). -/
def chDisable (p : Nat) (b : Block) : Block :=
  if b.isFollower p then b.cset C.en p 0
  else
    let b := (b.cset C.en p 0).cutOutput p
    let b := b.onPair p fun q b => (b.setCmd q 0 0).setChState q Ch.disabled
    let (b, others) := if isHb p then (b, []) else b.lampDisabled p
    (others.foldl (fun b m => if b.underWeir || m = p then b else (b.setCmd m 0 0).commandActs m) b).endFunction p

/-- Clear the lock of a channel (R126): served in every state of the weir; not a command. That of a pair or a full
bridge is cleared at its leading member; DESIGN CHOICE: at the other it has no effect (log 152). -/
def chUnlock (p : Nat) (b : Block) : Block :=
  if b.isFollower p || !b.cflag C.locked p then b
  else
    let b := (b.onPair p fun q b => b.cset C.locked q 0).loadRetry p
    if !(b.chState p == Ch.locked) then b
    else if b.cget C.en p == 0 then b.setChState p Ch.disabled
    else if b.underWeir then
      let b := b.onPair p fun q b => b.updCh q fun c => { c with offUnder := true }
      b.setChState p (if b.weirState == 3 then Ch.failSafe else Ch.held)
    else b.setChState p Ch.off

/-! ### The weir's effect on a channel (R125, R128, R134–R139) -/

/-- The weir enters HOLD (R125). -/
def chHold (p : Nat) (b : Block) : Block :=
  let st := b.chState p
  if st == Ch.disabled || st == Ch.thermal || st == Ch.retryWait || st == Ch.locked then b
  else b.cset C.state p Ch.held

/-- Output of a fail-safe table code (R136). -/
def fsOf (code : Nat) : FsOut :=
  if code = 1 then .on else if code = 2 then .hold
  else if h : 4 ≤ code ∧ code ≤ 7 then .flash ⟨code - 4, by omega⟩ else .off

/-- Entry e of the fail-safe table (R153). -/
def fsEntry (b : Block) (e : Nat) : Nat := bits (b.rd R.WEIR_FSTAB (e / 8)) (4 * (e % 8) + 3) (4 * (e % 8))

/-- The weir applies the table to channel p (R125, R136, R137). A pattern is for a channel that has an output under the
weir: one HELD whose lock was not cleared there, or one that waits to restart (R126, R128). DEDUCED: the second channel
of a pair has the output of channel n, whose entry counts (log 153). -/
def chApply (p : Nat) (b : Block) : Block :=
  let was := b.carries p
  let st := b.chState p
  let target := (st == Ch.held && !(b.ch p).offUnder) || st == Ch.thermal || st == Ch.retryWait
  let o := fsOf (b.fsEntry p)
  let b := if !(b.lane p == p) then b else b.updCh p fun c =>
    match o with
    | .flash k => if target then { c with fsOut := o, flash := some k, flashOn := b.patternStarts k }
        else { c with fsOut := o, flash := none, flashOn := false }
    | .hold => { c with fsOut := o }
    | _ => { c with fsOut := o, flash := none, flashOn := false }
  (if st == Ch.held then b.cset C.state p Ch.failSafe else b).driveOne was p

/-- The command that a reclaim in APPLIED leaves with channel p (R128, R138): its output's, or its restart target. -/
def reclaimCmd (p : Nat) (b : Block) : Block :=
  let st := b.chState p
  let c := b.ch p
  if !(st == Ch.held || st == Ch.failSafe || st == Ch.thermal || st == Ch.retryWait) || c.offUnder || !(b.lane p == p) then b
  else match c.fsOut with
    | .off => b.setCmd p 0 0
    | .on => b.setCmd p 1 65536
    | .hold => if c.flash.isSome then b.cset C.duty p 65536 else b
    | .flash k => (b.setCmd p 1 65536).updCh p fun x => { x with flash := some k, flashOn := c.flashOn }

/-- A reclaim, after the commands of R138 (R125, R128, R135): a waiting channel keeps waiting; a lock cleared under the
weir gives OFF. -/
def chReclaim (p : Nat) (b : Block) : Block :=
  let st := b.chState p
  let b := b.updCh p fun c => { c with offUnder := false }
  if b.isFollower p then b
  else if st == Ch.held || st == Ch.failSafe then
    let b := if b.isPair p then b.updCh (p + 1) fun c => { c with offUnder := false } else b
    (b.matchState p).takeDuty p
  else b

/-- A SoC reset with the weir IDLE: the output turns off, the command becomes 0, a bridge's function ends, waits keep
running (R139, R173). -/
def chIdleReset (p : Nat) (b : Block) : Block :=
  let st := b.chState p
  let b := (b.cutOne p).setCmd p 0 0
  (if st == Ch.on || st == Ch.limit || st == Ch.supply then b.cset C.state p Ch.off else b).endFunction p

end Block

end Sys2Proof.Machine
end

