-- ==== Sys2Proof/Machine/Cross.lean ====
section
/-! DEFINITION. What the crossings record (R459, R462, R469, R470, R473). -/
namespace Sys2Proof.Machine

/-- Island of a crossing (R469, R472). -/
def islandOf (x : Nat) : Nat :=
  if x < 6 then 0 else if x = 6 then 6 else if x < 24 then 0 else if x < 44 then 1 else if x < 49 then 2
  else if x = 49 then 3 else if x < 52 then 4 else if x = 52 then 5 else if x = 53 then 6 else if x = 54 then 7 else 8

/-- Event source of a crossing (R469). -/
def crossSource (x : Nat) : Option Nat :=
  if x < 7 then some 253 else if x = 7 then none else if x < 24 then some (160 + x) else if x < 44 then some (176 + x)
  else if x = 44 then some 220 else if x = 45 then some 221 else if x < 48 then some 222 else if x = 48 then some 223
  else if x = 49 then some 224 else if x < 52 then some (176 + x) else if x = 52 then some 240 else if x < 55 then some 232
  else if x = 55 then some 9 else none

/-- The crossing that an occurrence of source e passes: the internal link of its die, the link, the bus or the port that
it arises at, or the real-time counter's. DESIGN CHOICE: sources of the clockless core, and those that share a crossing
without one of their own there (EV225, EV228 to EV231, EV233 to EV239 and the like), pass none (log 36). -/
def crossOf (e : Nat) : Option Nat :=
  if e = 9 then some 55 else if e < 16 then none else if e < 128 then some (dieOf (e - 16)) else if e < 160 then some (4 + (e - 128) / 16)
  else if e < 168 then some (4 + (e - 160) / 4) else if e < 184 then some (e - 160) else if e < 188 then some (e - 184)
  else if e < 196 then some ((e - 188) / 2) else if e < 200 then some (e - 196) else if e < 220 then some (e - 176)
  else if e = 220 then some 44 else if e = 221 then some 45 else if e = 222 then some 46 else if e = 223 then some 48
  else if e = 224 then some 49 else if e = 226 ∨ e = 227 then some (e - 176) else if e = 232 then some 53
  else if e = 240 then some 52 else none

/-- DETAIL of an occurrence raised by crossing x (R470). -/
def crossDetail (x cause : Nat) : Nat := 2 ^ 31 + x * 2 ^ 24 + cause * 65536 + (if x < 7 then x else 0)

namespace Block

/-- Bring the flag of crossing x in CDC_SUM up to date, and LOST: cleared when SAT and DROP are both clear (R473). -/
def cdcSync (x : Nat) (b : Block) : Block :=
  let b := if b.flag F.CDC_XSTAT_SAT x || b.flag F.CDC_XSTAT_DROP x then b else b.setF F.CDC_XSTAT_LOST x 0
  let f := b.flag F.CDC_XSTAT_SAT x || b.flag F.CDC_XSTAT_STALE x || b.flag F.CDC_XSTAT_DROP x
  b.wr R.CDC_SUM (x / 32) (putBits (b.rd R.CDC_SUM (x / 32)) (x % 32) (x % 32) (b2n f))

/-- A value was returned with STALE over crossing x (R462). -/
def xStale (x : Nat) (stale : Bool) (b : Block) : Block := if stale then (b.setF F.CDC_XSTAT_STALE x 1).cdcSync x else b

/-- An event meets crossing x with its pending count at 255 (R459). -/
def xSaturate (x : Nat) (b : Block) : Block :=
  let b := ((b.setF F.CDC_XSTAT_PEND x 255).setF F.CDC_XSTAT_PEAK x 255).setF F.CDC_XSTAT_SAT x 1
  (b.satF F.CDC_XSTAT_LOST x 1).cdcSync x

/-- One more event is pending at crossing x (R459, R473). -/
def xAdd (x : Nat) (b : Block) : Block :=
  let n := b.getF F.CDC_XSTAT_PEND x + 1
  (b.setF F.CDC_XSTAT_PEND x n).setF F.CDC_XSTAT_PEAK x (max n (b.getF F.CDC_XSTAT_PEAK x))

/-- The crossing that an occurrence passes: a forced one and one of a crossing itself pass none (R321, R470). -/
def crossing (o : Occ) : Option Nat := if o.forced || o.cross then none else crossOf o.ev

/-- An occurrence meets its crossing with 255 pending: it is lost (R459). -/
def xFull (o : Occ) (b : Block) : Bool := (crossing o).elim false fun x => b.getF F.CDC_XSTAT_PEND x == 255

/-- A lost occurrence: the crossing saturates, and raises its own source (R459, R470). -/
def xLose (o : Occ) (b : Block) : Block × List Occ :=
  match crossing o with
  | none => (b, [])
  | some x => (b.xSaturate x, (crossSource x).toList.map fun e => { ev := e, detail := BitVec.ofNat 32 (crossDetail x 1), cross := true })

/-- An occurrence is pending at its crossing (R459). -/
def xPass (o : Occ) (b : Block) : Block :=
  match crossing o with
  | none => b
  | some x => b.xAdd x

end Block

end Sys2Proof.Machine
end

