-- ==== Sys2Proof/Machine/DioBase.lean ====
section
/-! DEFINITION. Digital outputs and sensor supplies, as far as they raise no event: their states follow from what
holds them off (R290, R294, R295). -/
namespace Sys2Proof.Machine

namespace Block

/-- Input n, output m and supply k beside their registers. -/
def direc (b : Block) (n : Nat) : DiIn := Tab.get {} b.dio.di n
def updDi (n : Nat) (f : DiIn → DiIn) (b : Block) : Block := { b with dio := { b.dio with di := Tab.put b.dio.di n (f (b.direc n)) } }
def dorec (b : Block) (m : Nat) : DoOut := Tab.get {} b.dio.out m
def updDo (m : Nat) (f : DoOut → DoOut) (b : Block) : Block := { b with dio := { b.dio with out := Tab.put b.dio.out m (f (b.dorec m)) } }
def svrec (b : Block) (k : Nat) : SvOut := Tab.get {} b.dio.sv k
def updSv (k : Nat) (f : SvOut → SvOut) (b : Block) : Block := { b with dio := { b.dio with sv := Tab.put b.dio.sv k (f (b.svrec k)) } }

/-- Rising and falling threshold of an input in mV, by MODE: the typical values (R279, log 176). -/
def diThresholds (mode : Nat) : Int × Int := if mode = 3 then (12000, 9000) else if mode = 4 then (9500, 7000) else (5000, 3000)

/-- The comparator of an input in a MODE, from where it stood (R279). -/
def diCompare (mode : Nat) (was : Bool) (mv : Int) : Bool :=
  let t := diThresholds mode
  if was then decide (t.2 < mv) else decide (t.1 ≤ mv)

/-- The level that a comparator means: the active one is low in MODE 1 and high in MODE 2 to 4, and INV swaps them; an input
that is off is not active (R279). -/
def diActive (mode : Nat) (inv high : Bool) : Bool := (if mode = 1 then !high else high) != inv && !(mode == 0)

/-- Fields of an applied configuration word (R281, R300). -/
def cfgMode (w : Nat) : Nat := bits w 3 1
def cfgInv (w : Nat) : Bool := bit w 4

/-- The armed wake detector of input n (R288). `level`: what step 1 of R76 samples. -/
def diArm (n : Nat) (level : Bool) (b : Block) : DiWake :=
  let r := b.direc n
  let m := cfgMode r.cfg
  { mode := m, inv := cfgInv r.cfg, differ := b.flag F.DIO_DICFG_WKMODE n, count := b.getF F.DIO_DICFG_WKCNT n, high := r.high
    level := level, bias := if m = 1 then 5 else if m = 2 then -5 else 0 }

/-- What the detector has seen meets its condition (R288): active for WKCNT ticks after being inactive, or for WKCNT ticks
another level than at step 1. -/
def diWakes (w : DiWake) (mv : Int) (ticks : Nat) (idle : Bool) : Bool :=
  let off := (w.mode == 1) != w.inv
  let act := diActive w.mode w.inv (diCompare w.mode (if w.differ then w.high else off) mv)
  decide (max 1 w.count ≤ ticks) && if w.differ then !(act == w.level) else idle && act

/-- VBAT_C is in Low or Over-voltage, or its 10 ms are not over (R64, R290). -/
def dioFeedOff (b : Block) : Bool := Tab.get false b.pw.feedOff 2

/-- The effective output: the command or, in SAFE, the output given by SAFE; 3 acts as 0 (R290, R301). -/
def doEff (b : Block) (m : Nat) : Bool :=
  let r := b.dorec m
  if r.safe then
    let s := b.getF F.DIO_DOCFG_SAFE m
    if s = 1 then true else if s = 2 then r.held else false
  else b.flag F.DIO_DOCMD_ON m

/-- Bring STATE and EFF of output m up to date: SUPPLY, THERMAL and OVLDWAIT in this order (R290, log 32). -/
def doSync (m : Nat) (b : Block) : Block :=
  let r := b.dorec m
  let eff := b.doEff m
  if b.getF F.DIO_DOCFG_EN m == 0 then (b.setF F.DIO_DOSTAT_STATE m 0).setF F.DIO_DOCMD_EFF m 0
  else
    let st := if b.dioFeedOff then 6 else if r.therm then 5 else if r.wait then 4 else if r.safe then 3 else if eff then 2 else 1
    (b.setF F.DIO_DOSTAT_STATE m st).setF F.DIO_DOCMD_EFF m (b2n eff)

/-- Output m conducts: ON, or SAFE with its output on. -/
def doConducts (b : Block) (m : Nat) : Bool :=
  let s := b.getF F.DIO_DOSTAT_STATE m
  (s == 2 || s == 3) && b.doEff m

/-- EN written 0 (R290). -/
def doDisable (m : Nat) (b : Block) : Block :=
  (((b.setF F.DIO_DOCFG_EN m 0).setF F.DIO_DOCMD_ON m 0).updDo m fun r => { therm := r.therm }).doSync m

/-- EN written 1: from DISABLED to OFF; the timeout starts (R290, R292). -/
def doEnable (m : Nat) (b : Block) : Block :=
  if b.getF F.DIO_DOCFG_EN m == 1 then b
  else (((b.setF F.DIO_DOCFG_EN m 1).setF F.DIO_DOCMD_ON m 0).updDo m fun r => { therm := r.therm }).doSync m

/-- Bring STATE of supply k up to date. A supply that is off for its temperature reports RETRYWAIT (R294, R301,
log 33). -/
def svSync (k : Nat) (b : Block) : Block :=
  let r := b.svrec k
  b.setF F.DIO_SVSTAT_STATE k (if b.getF F.DIO_SVCFG_EN k = 0 ∨ r.off = true then 0 else if b.dioFeedOff then 3 else if r.retry || r.therm then 2 else 1)

/-- EN of a supply written 0 or 1 (R301). -/
def svDisable (k : Nat) (b : Block) : Block :=
  ((b.setF F.DIO_SVCFG_EN k 0).updSv k fun r => { r with retry := false, off := false }).svSync k
def svEnable (k : Nat) (b : Block) : Block := ((b.setF F.DIO_SVCFG_EN k 1).updSv k fun r => { r with off := false }).svSync k

/-- An enabled supply is commanded on or off (R302, log 34). -/
def svCommand (k : Nat) (on : Bool) (b : Block) : Block := (b.updSv k fun r => { r with off := !on, retry := r.retry && on }).svSync k

/-- VBAT_C changes between usable and not usable (R64, R290, R294). -/
def dioFeed (b : Block) : Block := forN 4 (fun k b => b.svSync k) (forN 16 (fun m b => b.doSync m) b)

/-- Weir APPLIED: a supply with SVFS = 0 turns off (R295). -/
def svApplied (b : Block) : Block := forN 4 (fun k b => if b.flag F.DIO_SVCFG_SVFS k then b else b.svCommand k false) b

/-- An accepted DO_SET for output m: it leaves SAFE and its timeout restarts (R292, R293). -/
def doCommand (m : Nat) (on : Bool) (b : Block) : Block :=
  ((b.setF F.DIO_DOCMD_ON m (b2n on)).updDo m fun r => { r with safe := false, latch := false }).doSync m

/-- DO_SET is not applied to output m, apart from its link (R293, R303). -/
def doHeldOff (b : Block) (m : Nat) : Bool := (b.dorec m).latch && b.flag F.DIO_DOCFG_SAFELATCH m

end Block

end Sys2Proof.Machine
end

