-- ==== Sys2Proof/Machine/NetBase.lean ====
section
/-! DEFINITION. Network channels as far as they raise no event: their registers by channel number (R328), transmit
jobs (R333), receive buffers (R336), and what disabling a channel does (R344, R346). -/
namespace Sys2Proof.Machine

/-- A field that CAN, LIN and Ethernet channels share. -/
structure NetField where
  can : RegField
  lin : RegField
  eth : RegField

def N.state : NetField := ⟨F.CAN_STAT_STATE, F.LIN_STAT_STATE, F.ETH_PSTAT_STATE⟩
def N.wakesrc : NetField := ⟨F.CAN_STAT_WAKESRC, F.LIN_STAT_WAKESRC, F.ETH_PSTAT_WAKESRC⟩
def N.wakeev : NetField := ⟨F.CAN_STAT_WAKEEV, F.LIN_STAT_WAKEEV, F.ETH_PSTAT_WAKEEV⟩
def N.slept : NetField := ⟨F.CAN_STAT_SLEPT, F.LIN_STAT_SLEPT, F.ETH_PSTAT_SLEPT⟩
def N.keepx : NetField := ⟨F.CAN_STAT_KEEPX, F.LIN_STAT_KEEPX, F.ETH_PSTAT_KEEPX⟩
def N.rxlost : NetField := ⟨F.CAN_STAT_RXLOST, F.LIN_STAT_RXLOST, F.ETH_PSTAT_RXLOST⟩
def N.en : NetField := ⟨F.CAN_CFG_EN, F.LIN_CFG_EN, F.ETH_PCFG_EN⟩
def N.diag : NetField := ⟨F.CAN_STAT_BUSDIAG, F.LIN_STAT_BUSDIAG, F.ETH_PSTAT_CABDIAG⟩
def N.diagf : NetField := ⟨F.CAN_STAT_BUSF, F.LIN_STAT_BUSF, F.ETH_PSTAT_CABF⟩

/-- CH names CAN, LIN, or a port. -/
def isCan (ch : Nat) : Bool := decide (ch < 12)
def isLin (ch : Nat) : Bool := decide (16 ≤ ch ∧ ch < 24)
def isEth (ch : Nat) : Bool := decide (24 ≤ ch ∧ ch < 29)
def isT1 (ch : Nat) : Bool := decide (ch = 24 ∨ ch = 25)

/-- CH names a channel; the other numbers are reserved (R328). -/
def isNet (ch : Nat) : Bool := isCan ch || isLin ch || isEth ch

/-- The channel's own index in its register block. -/
def netIdx (ch : Nat) : Nat := if ch < 12 then ch else if ch < 24 then ch - 16 else ch - 24

/-- The register field of channel ch. -/
def NetField.of (f : NetField) (ch : Nat) : RegField := if ch < 12 then f.can else if ch < 24 then f.lin else f.eth

/-- Event of a channel (R328). -/
def evNet (ch : Nat) : Nat := if ch < 12 then 200 + ch else if ch < 24 then 196 + ch else if ch < 26 then 196 + ch else if ch < 28 then 222 else 223

/-- Bytes padded with 0 to a multiple of 4 (R335). -/
def pad4 (bs : List Byte) : List Byte := bs ++ List.replicate ((4 - bs.length % 4) % 4) 0

/-- A record (R335). `up`: LOST and ECHO, bits 6 and 7 of FLAGS. -/
def recordBytes (ch up time : Nat) (f : NetFrame) : List Byte :=
  leBytes 4 f.id ++ leBytes 2 f.data.length ++ leBytes 1 ch ++ leBytes 1 (f.flags % 64 + up) ++ leBytes 4 (time / 16) ++
  leBytes 4 f.ext ++ pad4 f.data

namespace Block

def nget (b : Block) (f : NetField) (ch : Nat) : Nat := b.getF (f.of ch) (netIdx ch)
def nset (f : NetField) (ch v : Nat) (b : Block) : Block := b.setF (f.of ch) (netIdx ch) v

/-- Channel ch beside its registers. -/
def nch (b : Block) (ch : Nat) : NetCh := Tab.get {} b.net.ch ch
def updNet (ch : Nat) (f : NetCh → NetCh) (b : Block) : Block := { b with net := { b.net with ch := Tab.put b.net.ch ch (f (b.nch ch)) } }

/-- State of a channel; a reserved number has none (R328). -/
def nstate (b : Block) (ch : Nat) : Nat := if isNet ch then b.nget N.state ch else 0

/-- Core c runs: HEP_STAT.STATE is RUN or WAIT (R510). -/
def coreRuns (b : Block) (c : Nat) : Bool := b.getF F.HEP_STAT_STATE c == 2 || b.getF F.HEP_STAT_STATE c == 3

/-- A channel is enabled. Port 4 has no state but EN. -/
def nOn (b : Block) (ch : Nat) : Bool := if ch = 28 then b.flag F.ETH_PCFG_EN 4 else !(b.nstate ch == 0)

/-- Complete a CAN_TX when none of its frames is left (R333). `none`: STATUS where no frame was sent. -/
def txFinish (ch num none : Nat) (b : Block) : Block :=
  let c := b.nch ch
  match c.jobs.find? fun j => j.num == num with
  | Option.none => b
  | some j =>
    if !j.rest.isEmpty || (c.fifo ++ c.prio).any (fun t => t.job == num) then b
    else
      let b := b.updNet ch fun c => { c with jobs := c.jobs.filter fun x => !(x.num == num) }
      b.complete j.desc { status := partStatus j.sent (j.total - j.sent) none, cw2 := j.sent, cw3 := j.fail.getD 0 }

/-- The oldest buffer completes (R336). -/
def rxFinish (ch status : Nat) (b : Block) : Block :=
  match (b.nch ch).bufs with
  | [] => b
  | x :: xs => (b.updNet ch fun c => { c with bufs := xs }).complete x.desc { status := status, cw2 := x.data.length, cw3 := x.recs, data := x.data }

/-- Every buffer of a channel completes with a STATUS. -/
def rxFinishAll (ch status : Nat) (b : Block) : Block := (b.nch ch).bufs.foldl (fun b _ => b.rxFinish ch status) b

/-- Frames of a gateway queue, and for LIN those that wait for HC13, are discarded into DROP (R374, R377). -/
def gwDiscard (ch : Nat) (b : Block) : Block :=
  let n := (b.nch ch).gw.length + (b.net.exc.filter fun e => e.ch == ch).length
  if n = 0 then b
  else
    let b := (b.satF F.GW_POUT_DROP ch n).updNet ch fun c => { c with gw := [] }
    { b with net := { b.net with exc := b.net.exc.filter fun e => !(e.ch == ch) } }

/-- Index of the first frame of a CAN_TX that is abandoned, or that has not been sent (R333). -/
def firstLeft (c : NetCh) (j : TxJob) : Nat :=
  let waiting := ((c.fifo ++ c.prio).filter fun t => t.job == j.num).map fun t => t.idx
  (waiting ++ j.fail.toList).foldl min (if j.rest.isEmpty then j.total else j.next)

/-- Descriptors whose frames have not been sent are not applied any more (R410). -/
def txDrop (ch status : Nat) (b : Block) : Block :=
  let js := (b.nch ch).jobs
  let b := b.updNet ch fun c =>
    { c with jobs := c.jobs.map fun j => { j with rest := [], fail := some (firstLeft c j) }, fifo := [], prio := [] }
  js.foldl (fun b j => b.txFinish ch j.num status) b

/-- EN written 0 on a CAN or LIN channel or on ports 0–3 (R336, R344, R346). -/
def netDisable (ch : Nat) (b : Block) : Block :=
  let b := b.nset N.en ch 0
  if !(b.nOn ch) then b
  else
    let b := (((b.nset N.state ch 0).txDrop ch St.disabled).rxFinishAll ch St.disabled).gwDiscard ch
    let c := b.nch ch
    let b := if isEth ch then
        let b := b.satF F.ETH_CNT_DROP (ch - 24) c.egress.length
        { (b.setF F.ETH_PSTAT_LINK (ch - 24) 0) with net := { b.net with mac := b.net.mac.filter fun m => !(m.2 == ch - 24) } }
      else b
    let b := b.updNet ch fun c => { resp := c.resp, table := c.table }
    { b with net := { b.net with kept := Tab.put b.net.kept ch { src := (Tab.get ({} : NetKept) b.net.kept ch).src } } }

/-- Safe states of R313, R314. -/
def canDisable (n : Nat) (b : Block) : Block := b.netDisable n
def linDisable (n : Nat) (b : Block) : Block := b.netDisable (16 + n)
def ethDisable (p : Nat) (b : Block) : Block := if p < 4 then b.netDisable (24 + p) else b

end Block

end Sys2Proof.Machine
end

