-- ==== Sys2Proof/Machine/PxBase.lean ====
section
/-! DEFINITION. Pixel ports, as far as they raise no event and need no channel: the pixel store (R259), disable,
and the weir (R272, R273). -/
namespace Sys2Proof.Machine

/-- Region of port n in the pixel store and its parts (R259). -/
def pxRegion (n : Nat) : Nat := 0x18000000 + n * 0x40000
def pxBuffer (n i : Nat) : Nat := pxRegion n + i * 0xF000
def pxGains (n : Nat) : Nat := pxRegion n + 0x1E000
def pxZones (n : Nat) : Nat := pxRegion n + 0x2D000
def pxDiag (n : Nat) : Nat := pxRegion n + 0x30C00
def pxList (n i : Nat) : Nat := pxRegion n + 0x32A00 + i * 0x2000

/-- Stream buffer i of pair k (R259). -/
def pxStream (k i : Nat) : Nat := 0x18400000 + (2 * k + i) * 0xF000

/-- The asset pool (R259). -/
def pxPool : Nat := 0x18478000
def pxPoolSize : Nat := 3616 * 1024

namespace Block

/-- Port n. -/
def pxp (b : Block) (n : Nat) : PxPort := Tab.get {} b.px.port n
def updPx (n : Nat) (f : PxPort → PxPort) (b : Block) : Block :=
  { b with px := { b.px with port := Tab.put b.px.port n (f (b.pxp n)) } }

def pxState (b : Block) (n : Nat) : Nat := b.getF F.PXL_STAT_STATE n

/-- Queue a command for the lamp: its code and the bytes after it (R264). -/
def pxCmd (n code : Nat) (bs : List Byte) (b : Block) : Block :=
  b.updPx n fun p => { p with cmds := p.cmds ++ [BitVec.ofNat 8 code :: bs] }

/-- A waiting PX_FSIMG ends: one port applied, or not (R277, R278, R410). -/
def pxFsDone (n st : Nat) (b : Block) : Block :=
  match (b.pxp n).fsimg with
  | none => b
  | some d => (b.updPx n fun p => { p with fsimg := none }).complete d
      (if st = St.aborted then .of st else if st = St.ok then { status := st, cw2 := 1 } else { status := st, cw2 := 256, cw3 := 2 ^ n })

/-- PXL_SHOAL.RUN follows the renders in progress. -/
def syncShoal (b : Block) : Block :=
  b.setF F.PXL_SHOAL_RUN 0 (b2n ((List.range 16).any fun n => (b.pxp n).render.isSome))

/-- The fade flags of a port cleared. -/
def pxFadeOff (n : Nat) (b : Block) : Block :=
  ((b.setF F.PXL_FADE_FADING n 0).setF F.PXL_FADE_FROZEN n 0).setF F.PXL_FADE_REMAIN n 0

/-- EN written 0: every fade and render ends, SLEEP is sent, DISABLED (R272). -/
def pxDisable (n : Nat) (b : Block) : Block :=
  if b.getF F.PXL_CFG_EN n == 0 then b
  else
    let b := (b.setF F.PXL_CFG_EN n 0).pxFsDone n St.disabled
    let b := b.updPx n fun p => { p with fade := none, xfade := none, render := none, ready := false, patch := [], cmds := [[BitVec.ofNat 8 9]], pause := false, fails := 0, slot := none, stream := none }
    let b := (b.pxFadeOff n).setF F.PXL_FADE_XFADING n 0
    ((b.setF F.PXL_STAT_STATE n 0).setF F.PXL_LINK_LSTATE n 0).syncShoal

/-- A port in which a reaction or the weir's black is in force: BLANKED, and the lamp is told (R264, R270, R273). -/
def pxBlank (n : Nat) (b : Block) : Block := (b.pxCmd n (if (b.pxp n).showFs then 8 else 4) []).setF F.PXL_STAT_STATE n 3

/-- Weir HOLD: fades freeze (R273). -/
def pxHold (b : Block) : Block :=
  forN 16 (fun n b =>
    let p := b.pxp n
    if p.fade.isSome || p.xfade.isSome then
      let b := b.updPx n fun p => { p with frozen := p.xfade.isSome, fade := p.fade.map fun f => { f with frozen := true } }
      if p.fade.isSome then b.setF F.PXL_FADE_FROZEN n 1 else b
    else b) b

/-- A reclaim: frozen fades go on (R226, R273). -/
def pxResume (b : Block) : Block :=
  forN 16 (fun n b =>
    let p := b.pxp n
    if p.frozen || p.fade.elim false (·.frozen) then
      (b.updPx n fun p => { p with frozen := false, fade := p.fade.map fun f => { f with frozen := false } }).setF F.PXL_FADE_FROZEN n 0
    else b) b

/-- The port shows its lamp: RUN or BLANKED. -/
def pxUp (b : Block) (n : Nat) : Bool := b.pxState n == 2 || b.pxState n == 3

/-- Weir APPLIED: each port acts on FSMODE; 3 acts as 0 (R273, R276). One whose link is not up acts when it comes up. -/
def pxApplied (b : Block) : Block :=
  forN 16 (fun n b =>
    let m := b.getF F.PXL_CFG_FSMODE n
    if b.pxState n == 0 || m == 1 then b
    else
      let b := b.updPx n fun p => { p with blank := true, showFs := m == 2 }
      if b.pxUp n then b.pxBlank n else b) b

end Block

end Sys2Proof.Machine
end

