-- ==== Sys2Proof/Machine/VlvBase.lean ====
section
/-! DEFINITION. Valve drive, as far as it raises no event: states, fail-safe, disable (R201–R206). -/
namespace Sys2Proof.Machine

/-- Valve states of R201. -/
def Vl.disabled : Nat := 0
def Vl.idle : Nat := 1
def Vl.wait : Nat := 2
def Vl.boost : Nat := 3
def Vl.peak : Nat := 4
def Vl.hold : Nat := 5
def Vl.clamp : Nat := 6
def Vl.locked : Nat := 7
def Vl.supply : Nat := 8
def Vl.failSafe : Nat := 9

namespace Block

/-- Valve n's record, state, and their updates. -/
def vl (b : Block) (n : Nat) : Valve := Tab.get {} b.vlv.valve n
def updVl (n : Nat) (f : Valve → Valve) (b : Block) : Block :=
  { b with vlv := { b.vlv with valve := Tab.put b.vlv.valve n (f (b.vl n)) } }
def vlSt (b : Block) (n : Nat) : Nat := b.getF F.VLV_STAT_STATE n
def setVl (n st : Nat) (b : Block) : Block := b.setF F.VLV_STAT_STATE n st

/-- Table t and its update. -/
def tbl (b : Block) (t : Nat) : ShotTable := Tab.get {} b.vlv.table t
def updTbl (t : Nat) (f : ShotTable → ShotTable) (b : Block) : Block :=
  { b with vlv := { b.vlv with table := Tab.put b.vlv.table t (f (b.tbl t)) } }

/-- The valve carries current: BOOST, PEAK or HOLD (R189). -/
def inShot (b : Block) (n : Nat) : Bool := let s := b.vlSt n; s == Vl.boost || s == Vl.peak || s == Vl.hold

/-! ### Levels and phases (R187, R188, R200, R213) -/

/-- Levels of a profile in mA: IBOOST, IPEAK, IHOLD. -/
def ibMa (b : Block) (p : Nat) : Nat := b.getF F.VLV_PROFA_IBOOST p * 50
def ipMa (b : Block) (p : Nat) : Nat := b.getF F.VLV_PROFA_IPEAK p * 50
def ihMa (b : Block) (p : Nat) : Nat := b.getF F.VLV_PROFB_IHOLD p * 20

/-- A profile has a boost phase (R187). -/
def hasBoost (b : Block) (p : Nat) : Bool := !(b.getF F.VLV_PROFA_TBOOST p == 0) && !(b.getF F.VLV_PROFA_IBOOST p == 0)

/-- Hold time in ticks: HOLD in 10 µs steps, or THOLD where HOLD is 0 (R187, R191). -/
def holdTicks (b : Block) (p hold : Nat) : Nat := if hold = 0 then b.getF F.VLV_PROFC_THOLD p else hold * 1600

/-- FACTOR of R200 for temperature t. -/
def derate (b : Block) (n : Nat) (t : Rat) : Rat :=
  let td : Rat := b.getF F.VLV_THERM_TDER n
  let tm : Rat := b.getF F.VLV_THERM_TMAX n
  let h : Rat := (b.getF F.VLV_THERM_HMIN n : Rat) / 100
  if t ≤ td then 1 else let f := 1 - (1 - h) * (t - td) / (tm - td); if f < h then h else f

/-- A hold level of valve n in mA, derated and rounded down to 20 mA (R200). -/
def holdLevel (b : Block) (n raw : Nat) : Nat := ((raw : Rat) * ((b.vl n).temp.map (b.derate n)).getD 1 / 20).floor.toNat * 20

/-- Half of the chopping band of valve n in mA (R188, R210). -/
def halfBand (b : Block) (n : Nat) : Nat := (b.getF F.VLV_CFG_HYST n + 1) * 5

/-- The level that acts on valve n. In peak, hold and the fail-safe hold the low side chops about it (R187, R188, R203). -/
def setLevel (n ma : Nat) (b : Block) : Block :=
  let h := b.halfBand n
  let chop := if ma = 0 ∨ b.vlSt n = Vl.boost then (0, 0) else (ma - h, ma + h)
  b.updVl n fun v => { v with level := ma, chop := chop }

/-- Form the level of valve n anew from its coil temperature and HYST (R188, R200). -/
def reLevel (n : Nat) (b : Block) : Block :=
  let st := b.vlSt n
  if st == Vl.hold || st == Vl.failSafe then b.setLevel n (b.holdLevel n (b.vl n).raw)
  else if b.inShot n then b.setLevel n (b.vl n).level else b

/-- A phase starts with its level in mA, its time limit in ticks and the decay into it. The profile's values are taken
here, so a profile written during the phase acts at the next one (R187, R188, R213). -/
def enterPhase (n st raw ticks : Nat) (fast : Bool) (b : Block) : Block :=
  let b := (b.setVl n st).updVl n fun v => { v with raw := raw, limit := ticks, fast := fast }
  b.setLevel n (if st = Vl.hold then b.holdLevel n raw else raw)

/-- Boost, peak and hold of shot s. A hold has produced no resistance yet (R211); only a phase that follows another has a
decay into it. -/
def enterBoost (n : Nat) (s : Shot) (b : Block) : Block :=
  b.enterPhase n Vl.boost (b.ibMa s.prof) (b.getF F.VLV_PROFA_TBOOST s.prof) false
def enterPeak (n : Nat) (s : Shot) (b : Block) : Block :=
  b.enterPhase n Vl.peak (b.ipMa s.prof) (b.getF F.VLV_PROFB_TPEAK s.prof) (!s.first && b.flag F.VLV_PROFC_PDECAY s.prof)
def enterHold (n : Nat) (s : Shot) (b : Block) : Block :=
  (b.enterPhase n Vl.hold (b.ihMa s.prof) (b.holdTicks s.prof s.hold) (!s.first && b.flag F.VLV_PROFC_HDECAY s.prof)).setF
    F.VLV_STAT_RMEAS n 0

/-- Valve n holds FSHOLD in FAILSAFE (R203). -/
def fsHolds (b : Block) (n : Nat) : Bool := b.vlSt n == Vl.failSafe && !((b.vl n).level == 0)

/-! ### Banks -/

/-- The bank switch of bank k follows its valves: off, VBAT_C or the boost rail (R189, R196, R203). A valve that
holds FSHOLD in FAILSAFE keeps it on battery. -/
def syncBank (k : Nat) (b : Block) : Block :=
  let old := b.getF F.BST_BSTAT_BSTATE k
  if old == 3 then b
  else
    let vs := [4 * k, 4 * k + 1, 4 * k + 2, 4 * k + 3]
    let rail := vs.any fun n => b.vlSt n == Vl.boost && !((b.vl n).shot.elim false (·.bat))
    let on := vs.any fun n => b.inShot n || b.vlSt n == Vl.clamp || b.fsHolds n
    let b := if rail || on || old == 0 then b else { b with vlv := { b.vlv with offAt := Tab.put b.vlv.offAt k (some b.pw.tbase) } }
    b.setF F.BST_BSTAT_BSTATE k (if rail then 2 else if on then 1 else 0)

/-- A valve of bank k is in its boost phase (R195). -/
def bankBoosts (b : Block) (k : Nat) : Bool := [4 * k, 4 * k + 1, 4 * k + 2, 4 * k + 3].any fun m => b.vlSt m == Vl.boost

/-- The first boost phase of a shot starts at `tick`, or its first phase without boost (R187, R195). -/
def startShot (n : Nat) (s : Shot) (tick : Nat) (b : Block) : Block :=
  let b := (b.updVl n fun v => { v with shot := some s, last := some tick }).wrapF F.VLV_COUNT_FIRED n 1
  let b :=
    if b.hasBoost s.prof then b.enterBoost n s
    else if !(b.ipMa s.prof == 0) then b.enterPeak n s
    else if !(b.ihMa s.prof == 0) then b.enterHold n s
    else (b.setVl n Vl.idle).updVl n fun v => { v with shot := none }
  b.syncBank (n / 4)

/-- Valves of a bank that wait, by due tick and then number (R195). -/
def waiting (b : Block) (k : Nat) : List Nat :=
  let ws := [4 * k, 4 * k + 1, 4 * k + 2, 4 * k + 3].filter fun n => b.vlSt n == Vl.wait
  ws.mergeSort fun m n =>
    let dm := (b.vl m).shot.elim 0 (·.due)
    let dn := (b.vl n).shot.elim 0 (·.due)
    decide (dm < dn) || (dm == dn && decide (m ≤ n))

/-- Ticks by which the shot of valve n would start after it fell due, if it started at the next tick (R195). -/
def waitTicks (b : Block) (n : Nat) : Nat := b.pw.tbase + 1 - (b.vl n).shot.elim 0 (·.due)

/-- A waiting shot of valve n may not start any more (R195). -/
def overdue (b : Block) (n : Nat) : Bool := decide (b.getF F.BST_BANK_MAXDLY (n / 4) * 160 < b.waitTicks n)

/-- No valve of bank k boosts: the first waiting shot that is not overdue starts at the next tick (R195). -/
def startNext (k : Nat) (b : Block) : Block :=
  if b.bankBoosts k then b
  else match (b.waiting k).filter fun n => !b.overdue n with
    | [] => b
    | n :: _ =>
      match (b.vl n).shot with
      | none => b
      | some s => (b.setF F.VLV_MEAS_DLY n (min (b.waitTicks n / 160) 255)).startShot n s (b.pw.tbase + 1)

/-! ### States (R201–R206) -/

/-- VBAT_C turns outputs off (R206). -/
def vbatcOff (b : Block) : Bool := Tab.get false b.pw.feedOff 2

/-- Where a valve goes that has no shot left and is not locked: IDLE, and from there SUPPLY (R201). -/
def vlRest (n : Nat) (b : Block) : Block := b.setVl n (if b.vbatcOff then Vl.supply else Vl.idle)

/-- The tick on which a shot or a fail-safe hold of valve n ends by a cause that ranks before a trip, or by another trip
(R202). -/
def vlCut (n : Nat) (b : Block) : Block := whenB (b.inShot n || b.fsHolds n) (fun b => b.updVl n fun v => { v with cutAt := some b.pw.tbase }) b

/-- The fail-safe hold of valve n: FSHOLD, derated, where FSAFE = 1; off where it is 0 (R200, R203). -/
def fsForm (n : Nat) (b : Block) : Block :=
  let b := b.updVl n fun v => { v with raw := if b.flag F.VLV_CFG_FSAFE n && !v.disAt then b.getF F.VLV_CFG_FSHOLD n * 20 else 0 }
  (b.reLevel n).syncBank (n / 4)

/-- Tables in state "stopping" whose shots have all ended become loaded (R193). -/
def settleTables (b : Block) : Block :=
  forN 16 (fun t b =>
    if b.getF F.VLV_TSTAT_TSTATE t == 3 &&
        !((List.range 32).any fun n => (b.inShot n || b.vlSt n == Vl.wait) && ((b.vl n).shot.elim false (·.table == some t)))
    then b.setF F.VLV_TSTAT_TSTATE t 1 else b) b

/-- FAILSAFE of valve n: any state except DISABLED; a shot in progress clamps (R201, R203). A lock or a disable that waits
for the end of the clamp stays due. -/
def vlvFailsafe (n : Nat) (b : Block) : Block :=
  if b.vlSt n == Vl.disabled || b.vlSt n == Vl.failSafe then b
  else
    let ofTable := ((b.vl n).shot.bind (·.table)).isSome
    let b := (((b.vlCut n).setVl n Vl.failSafe).updVl n fun v => { v with shot := none, fast := false }).fsForm n
    whenB ofTable settleTables b

/-- A shot in progress goes to CLAMP; a waiting one ends (R189, R201). -/
def vlClamp (n : Nat) (b : Block) : Block :=
  if b.inShot n then ((b.setVl n Vl.clamp).updVl n fun v => { v with level := 0, chop := (0, 0), fast := false }).syncBank (n / 4)
  else if b.vlSt n == Vl.wait then (b.updVl n fun v => { v with shot := none }).vlRest n
  else b

/-- The coil model of valve n stops: it protects nothing any more (R199, R200, log 169). -/
def coilOff (n : Nat) (b : Block) : Block :=
  (((b.updVl n fun v => { v with temp := none }).setF F.VLV_TEMP_FACTOR n 100).setF F.VLV_STAT_HOT n 0).reLevel n

/-- Converter j stopped with EN = 0 (R205, R314). -/
def boostStop (j : Nat) (b : Block) : Block := (b.setF F.BST_CFG_EN j 0).setF F.BST_STAT_STATE j 0

/-- The tables of engine e (0 = HC10, 1 = HC11) stopped and emptied (R205). -/
def emptyTables (e : Nat) (b : Block) : Block :=
  forRange (8 * e) (8 * e + 8) (fun t b =>
    (b.updTbl t fun _ => {}).setF F.VLV_TSTAT_TSTATE t 0 |>.setF F.VLV_TSTAT_ENTRIES t 0) b

/-- A reset of valve engine e: its tables are emptied and its die's valves go to FAILSAFE (R203, R205). -/
def vlvEngineReset (e : Nat) (b : Block) : Block :=
  forRange (16 * e) (16 * e + 16) (fun n b => b.vlvFailsafe n) (b.emptyTables e)

/-- The feed band of VBAT_C turns outputs off (R184, R206). -/
def vbatcDrop (b : Block) : Block :=
  let b := forN 32 (fun n b =>
    if b.inShot n || b.vlSt n == Vl.wait then (b.vlCut n).vlClamp n
    else if b.vlSt n == Vl.idle then b.setVl n Vl.supply else b) b
  forN 2 (fun j b =>
    let s := b.getF F.BST_STAT_STATE j
    if s == 1 || s == 2 || s == 3 then b.setF F.BST_STAT_STATE j 5 else b) b

/-- VBAT_C has been usable for 10 ms (R201, R206); a converter with EN = 1 starts again. -/
def vbatcBack (b : Block) : Block :=
  let b := forN 32 (fun n b => if b.vlSt n == Vl.supply then b.vlRest n else b) b
  forN 2 (fun j b => if b.getF F.BST_STAT_STATE j == 5 then b.setF F.BST_STAT_STATE j (b.getF F.BST_CFG_EN j) else b) b

/-! ### What the lead of a redundant pair sends when it is loaded (R635) -/

/-- The lead sends what is loaded, where there is something (R635). -/
def pairLoad (l : List Mirror) (b : Block) : Block :=
  if b.getF F.PAIR_STAT_ROLE 0 == 2 && b.flag F.PAIR_STAT_LINK 0 && !l.isEmpty then b.send (.pairLoad l) else b

/-- The words of profile p. -/
def profLoad (b : Block) (p : Nat) : Mirror := .prof p (b.rd R.VLV_PROFA p) (b.rd R.VLV_PROFB p) (b.rd R.VLV_PROFC p)

/-- A mirrored table with the profiles that its entries name. -/
def tableLoad (b : Block) (t : Nat) : List Mirror :=
  let x := b.tbl t
  if b.mirTbl t && !x.entries.isEmpty then .load t x.period x.entries :: ((x.entries.map fun e => e.prof).eraseDups).map b.profLoad else []

/-- A profile that a mirrored table names. -/
def profLoads (b : Block) (p : Nat) : List Mirror :=
  if (List.range 16).any fun t => b.mirTbl t && (b.tbl t).entries.any fun e => e.prof == p then [b.profLoad p] else []

end Block

end Sys2Proof.Machine
end

