-- ==== Sys2Proof/Machine/Safe.lean ====
section
/-! DEFINITION. What the weir's steps do to the functions that are not power channels (R203, R226, R236, R273, R295),
and how an occurrence begins a reset (R9, R139, R315). -/
namespace Sys2Proof.Machine

namespace Block

/-- The weir enters HOLD: lamp and pixel fades freeze (R226, R273). -/
def holdHooks (b : Block) : Block := b.lampHold.pxHold

/-- The weir applies the table: valves to FAILSAFE (R203), lamps (R226), matrices (R236), pixel ports (R273), sensor
supplies (R295). -/
def applyHooks (b : Block) : Block :=
  ((((forN 32 (fun n b => b.vlvFailsafe n) b).lampApplied b.fsEntry).mtxApplied).pxApplied).svApplied

/-- A reclaim: frozen fades go on (R226, R273). -/
def reclaimHooks (b : Block) : Block := b.lampResume.pxResume

/-- A reset begins that the command in progress carries out at its end. -/
def begin (d : Due) (b : Block) : Block := { b with catchm := { b.catchm with due := b.catchm.due ++ [d] } }

end Block

end Sys2Proof.Machine
end

