-- ==== Sys2Proof/Machine/Catch.lean ====
section
/-! DEFINITION. The catchment (R304–R323): one occurrence of an event source with its record and its reactions,
and the entry of the weir into HOLD (R133) and the start of a SoC reset (R9, R139, R140), which occurrences
cause and which cause occurrences. -/
namespace Sys2Proof.Machine

/-- Bits of ACT (R311). -/
def Act.log : Nat := 1
def Act.int : Nat := 2
def Act.event : Nat := 4
def Act.chSafe : Nat := 8
def Act.domSafe : Nat := 16
def Act.weirSafe : Nat := 32
def Act.coreRst : Nat := 64
def Act.socRst : Nat := 128

/-- ACT a holds action m. -/
def Act.has (a m : Nat) : Bool := !(a &&& m == 0)

/-- Domain of an event source for DOMSAFE: that of its owner's register block (R45, R47, R314). -/
def domainOfEvent (e : Nat) (detail : Word) : Nat :=
  if e < 16 then 0 else if e < 128 then 4 else if e < 168 then 11 else if e < 188 then 5
  else if e < 200 then 12 else if e < 220 then 6 else if e < 224 then 7 else if e < 232 then 8
  else if e < 236 then 9 else if e < 240 then 10 else if e < 244 then 8 else if e < 248 then 1
  else if e < 250 then 1 else if e < 252 then 14
  else if e = 252 then 1
  else if e = 253 then
    let d := detail.toNat % 8
    if d < 4 then 4 else if d < 6 then 11 else if d = 6 then 9 else 14
  else if e = 254 then 4 else 1

namespace Block

/-- The catchment runs: PD1 is at power good, or a SoC reset is in progress (R323). -/
def catchOn (b : Block) : Bool := bit (b.getF F.PWR_DOMSTAT_PG 0) 1 || b.pw.inReset == .soc

/-- Write one log entry (R318, R319). `performed` is the action field. -/
def logEntry (o : Occ) (cls performed : Nat) (b : Block) : Block :=
  if b.flag F.CATCH_CTL_LOGSTOP 0 && b.catchm.held == 64 then b.satF F.CATCH_LOGPTR_LOST 0 1
  else
    let i := b.getF F.CATCH_LOGPTR_NEXT 0
    let w0 := o.ev + cls * 256 + b2n o.forced * 1024 + performed * 65536 + b.catchm.seq * 2 ^ 24
    let b := b.wr R.CATCH_LOG (4 * i) w0
    let b := b.wr R.CATCH_LOG (4 * i + 1) (if o.forced then 0 else o.detail.toNat)
    let b := b.wr R.CATCH_LOG (4 * i + 2) (b.pw.rtc % 2 ^ 32)
    let b := b.wr R.CATCH_LOG (4 * i + 3) (b.pw.rtc / 2 ^ 32 % 2 ^ 16)
    let full := b.catchm.held == 64
    let b := if full then (b.setF F.CATCH_LOGPTR_WRAP 0 1).satF F.CATCH_LOGPTR_LOST 0 1 else b
    let b := b.setF F.CATCH_LOGPTR_NEXT 0 (i + 1)
    { b with catchm := { b.catchm with seq := (b.catchm.seq + 1) % 256, held := if full then 64 else b.catchm.held + 1 } }

/-- Channel safe state of a source (R313). -/
def chSafe (e : Nat) (b : Block) : Block :=
  if 16 ≤ e ∧ e < 128 then b.chDisable (b.lead (e - 16))
  else if 128 ≤ e ∧ e < 160 then (b.vlvFailsafe (e - 128)).startNext ((e - 128) / 4)
  else if 160 ≤ e ∧ e < 168 then forN 4 (fun i b => b.vlvFailsafe (4 * (e - 160) + i)) b
  else if 168 ≤ e ∧ e < 184 then b.pxDisable (e - 168)
  else if 184 ≤ e ∧ e < 188 then b.mtxDisable (e - 184)
  else if 196 ≤ e ∧ e < 200 then forN 4 (fun i b => b.doDisable (4 * (e - 196) + i)) b
  else if 200 ≤ e ∧ e < 212 then b.canDisable (e - 200)
  else if 212 ≤ e ∧ e < 220 then b.linDisable (e - 212)
  else b

/-- Domain safe state (R314). -/
def domSafe (d : Nat) (b : Block) : Block :=
  if d = 4 then forN nChan (fun p b => b.chDisable (b.lead p)) b
  else if d = 5 then forN 16 (fun n b => b.pxDisable n) (forN 4 (fun k b => b.mtxDisable k) b)
  else if d = 6 then forN 8 (fun n b => b.linDisable n) (forN 12 (fun n b => b.canDisable n) b)
  else if d = 7 then forN 5 (fun p b => b.ethDisable p) b
  else if d = 11 then forN 2 (fun j b => b.boostStop j) (forN 32 (fun n b => b.vlvFailsafe n) b)
  else if d = 12 then forN 4 (fun k b => b.svDisable k) (forN 16 (fun m b => b.doDisable m) b)
  else b

/-- Cores that CORERST of a source resets (R315). -/
def coreOfEvent (e : Nat) (detail : Word) : Option Nat :=
  if 16 ≤ e ∧ e < 128 then some (6 + dieOf (e - 16))
  else if 128 ≤ e ∧ e < 168 then
    let n := if e < 160 then e - 128 else 4 * (e - 160)
    some (if n < 16 then 10 else 11)
  else if 168 ≤ e ∧ e < 188 then some 12
  else if 188 ≤ e ∧ e < 196 then some (6 + (e - 188) / 2)
  else if 196 ≤ e ∧ e < 200 then some (6 + (e - 196))
  else if 200 ≤ e ∧ e < 224 then some 13
  else if 232 ≤ e ∧ e < 236 then some 14
  else if e = 248 then some 0
  else if e = 249 then some (detail.toNat % 16)
  else none

/-- Raise the interrupt of EVe at every core that HEP_ROUTE[e] names (R489). A core that is OFF takes none. -/
def intRaise (e : Nat) (b : Block) : Block :=
  let tgt := b.getF F.HEP_ROUTE_TGT e
  let line := if 12 < b.getF F.HEP_ROUTE_LINE e then 12 else b.getF F.HEP_ROUTE_LINE e
  forN 5 (fun t b =>
    let c := if t = 0 then 0 else t + 1
    if bit tgt t && !(b.getF F.HEP_STAT_STATE c == 0) then
      let r := Tab.get {} b.core c
      if r.irq.contains (line, e) then b else { b with core := Tab.put b.core c { r with irq := (line, e) :: r.irq } }
    else b) b

/-- WEIR_STAT.STATE and the states of all four instances (R38, R152). -/
def setWeir (st : Nat) (b : Block) : Block := (b.setF F.WEIR_STAT_STATE 0 st).setF F.WEIR_STAT_INST 0 (st * 85)

/-- EV254 on entry to a state (R143, R317). -/
def ev254 (st : Nat) : Occ := { ev := 254, detail := BitVec.ofNat 32 st }

/-- The weir enters HOLD from ARMED, with the cause recorded in one field of WEIR_STAT (R133, R134). -/
def weirHold (cause : RegField) (b : Block) : Block × List Occ :=
  if b.weirState == 1 then
    let b := (b.setWeir 2).setF cause 0 1
    let b := { b with weir := { b.weir with reclaim := b.getF F.WEIR_CFG_RECLAIM 0, key := false } }
    ((forN nChan (fun p b => b.chHold p) b).holdHooks, [ev254 2])
  else (b, [])

/-- A SoC reset begins, with its cause bit of PWR_RSTCAUSE (R9–R11, R93, R139, R140). A request that meets a SoC
reset in progress sets its cause bit only; one that meets a wider reset is discarded. DESIGN CHOICE: one that meets a
Still entry ends it as if step 2 had not been reached, so the power dies keep their part of PD4 (log 202). -/
def socReset (cause : RegField) (b : Block) : Block × List Occ :=
  match b.pw.inReset with
  | .powerOn => (b, [])
  | .brownOut => (b, [])
  | .soc => (b.setF cause 0 1, [])
  | .none =>
    let b := b.setF cause 0 1
    let b := { b with pw := { b.pw with inReset := .soc, still := .awake } }
    let (b, o) :=
      if b.weirState == 0 then (forN nChan (fun p b => b.chIdleReset p) b, [])
      else b.weirHold F.WEIR_STAT_SOCRST
    (b.begin .soc, o)

/-- What the catchment does about an occurrence: its class, the actions that its log entry names, those that are
performed at once, and whether it begins a SoC reset (R309–R312, R321, R323). A class C source with its sticky bit set
is not logged (R310). -/
structure Reaction where
  cls  : Nat
  acts : Nat
  now  : Nat
  soc  : Bool

/-- CATCH_CTL.INJSAFE masks the actions of a forced occurrence (R321); class F resets (R310), but not a supervisor
watchdog expiry (R309); during a SoC reset only the log acts (R323). -/
def reaction (o : Occ) (b : Block) : Reaction :=
  let was := bit (b.rd R.CATCH_STICKY (o.ev / 32)) (o.ev % 32)
  let cls := if 2 ≤ b.getF F.CATCH_SRC_CLASS o.ev then 2 else b.getF F.CATCH_SRC_CLASS o.ev
  let act := b.getF F.CATCH_SRC_ACT o.ev
  let safe := o.forced && b.flag F.CATCH_CTL_INJSAFE 0
  let wdog := o.ev == 248 && o.detail.toNat % 16 == 2 && !o.forced
  let soc := !safe && !wdog && (cls == 2 || Act.has act Act.socRst)
  let act := if safe then act &&& 7 else act
  let act := if soc then (act &&& 0x39) + Act.socRst else act &&& 0x7F
  let act := if cls == 0 && was then act &&& 0xFE else act
  { cls := cls, acts := act, now := if b.pw.inReset == .soc then act &&& Act.log else act, soc := soc }

/-- The sticky bit, FIRST and the counter of the class (R305–R308). -/
def mark (o : Occ) (cls : Nat) (b : Block) : Block :=
  let b := b.wr R.CATCH_STICKY (o.ev / 32) (putBits (b.rd R.CATCH_STICKY (o.ev / 32)) (o.ev % 32) (o.ev % 32) 1)
  let b :=
    if b.flag F.CATCH_STAT_FIRSTV 0 then b
    else ((b.setF F.CATCH_STAT_FIRST 0 o.ev).setF F.CATCH_STAT_FIRSTINJ 0 (b2n o.forced)).setF F.CATCH_STAT_FIRSTV 0 1
  b.satF (if cls = 0 then F.CATCH_COUNT_CNTC else if cls = 1 then F.CATCH_COUNT_CNTU else F.CATCH_COUNT_CNTF) 0 1

/-- The safe actions of an occurrence, at once or deferred to the release of PD1 (R313, R314, R323). -/
def safeActs (o : Occ) (r : Reaction) (b : Block) : Block × List Occ :=
  let b := if b.pw.inReset == .soc && Act.has r.acts 0x38 then { b with catchm := { b.catchm with later := b.catchm.later ++ [o] } } else b
  let b := if Act.has r.now Act.chSafe then b.chSafe o.ev else b
  let b := if Act.has r.now Act.domSafe then b.domSafe (domainOfEvent o.ev o.detail) else b
  if Act.has r.now Act.weirSafe then b.weirHold F.WEIR_STAT_CATCHREQ else (b, [])

/-- The event entry of an occurrence (R311, R320). -/
def eventAct (o : Occ) (r : Reaction) (b : Block) : Block × List Occ :=
  if Act.has r.now Act.event then
    b.eventArises (b.getF F.CATCH_SRC_EQ o.ev) 1 o.ev
      [o.ev + r.cls * 256 + b2n o.forced * 1024 + r.now * 65536 + b.nodeId * 2 ^ 24, if o.forced then 0 else o.detail.toNat,
        b.pw.rtc % 2 ^ 32, b.pw.rtc / 2 ^ 32 % 2 ^ 16]
  else (b, [])

/-- The resets that an occurrence begins (R315, R309). -/
def resetActs (o : Occ) (r : Reaction) (b : Block) : Block × List Occ :=
  let b := if Act.has r.now Act.coreRst then (match coreOfEvent o.ev o.detail with | some c => b.begin (.core c) | none => b) else b
  if r.soc then b.socReset F.PWR_RSTCAUSE_CATCH else (b, [])

/-- One occurrence: its crossing, record and reactions, and the occurrences that these cause (R304–R323, R459). -/
def occur (o : Occ) (b : Block) : Block × List Occ :=
  if !b.catchOn then (b, [])
  else if b.xFull o then b.xLose o
  else
    let b := b.xPass o
    let r := b.reaction o
    let b := b.mark o r.cls
    let b := if Act.has r.acts Act.log then b.logEntry o r.cls r.now else b
    let s := b.safeActs o r
    let b := if Act.has r.now Act.int then s.1.intRaise o.ev else s.1
    let e := b.eventAct o r
    let t := e.1.resetActs o r
    (t.1, s.2 ++ e.2 ++ t.2)

/-- Occurrences in turn, each followed by those that it causes. An occurrence causes at most EV254 (the weir
enters HOLD once), EV225 (an event queue's OVF goes to 1 once per queue) or one of its crossing, so the bound is never
reached. -/
def raiseAll : Nat → List Occ → Block → Block
  | 0, _, b => b
  | _, [], b => b
  | n + 1, o :: os, b => let (b, more) := b.occur o; raiseAll n (os ++ more) b

/-- Raise event source e with a DETAIL (R304). -/
def raise (e detail : Nat) (b : Block) : Block := b.raiseAll 32 [{ ev := e, detail := BitVec.ofNat 32 detail }]

/-- Raise several occurrences. -/
def raiseList (os : List Occ) (b : Block) : Block := b.raiseAll (32 + os.length) os

/-- Raise event source e, whose owning chapter defines no DETAIL: the DETAIL is an open value (log 2). -/
def raiseOpen (e : Nat) (b : Block) : Block :=
  let (d, b) := b.fresh
  b.raiseAll 32 [{ ev := e, detail := d }]

/-- Set a sticky bit and raise EVe where it goes from 0 to 1. -/
def stick (f : RegField) (n e : Nat) (b : Block) : Block :=
  if b.flag f n then b else (b.setF f n 1).raiseOpen e

/-- As `stick`, with a DETAIL that the chapter defines. -/
def stickD (f : RegField) (n e detail : Nat) (b : Block) : Block :=
  if b.flag f n then b else (b.setF f n 1).raise e detail

/-- Memory of an address of the Heper map as CATCH_INJ.MEM codes it, and where it starts; 0 = none of them (R42, R322). -/
def memOf (a : Nat) : Nat × Nat :=
  if 0x08000000 ≤ a ∧ a < 0x081E0000 then (1, 0x08000000) else if 0x10000000 ≤ a ∧ a < 0x10400000 then (2, 0x10000000)
  else if 0x18000000 ≤ a ∧ a < 0x18800000 then (3, 0x18000000) else if 0x20000000 ≤ a ∧ a < 0x20080000 then (4, 0x20000000)
  else if 0x28000000 ≤ a ∧ a < 0x28100000 then (5, 0x28000000) else (0, 0)

/-- DETAIL of EV250 and EV251 (R322). -/
def eccDetail (a : Nat) : Nat :=
  let m := memOf a
  let off := a - m.2
  if m.1 = 1 then 1 + off % 0x20000 / 4 * 16 + off / 0x20000 * 2 ^ 27 else m.1 + off / 4 * 16

/-- Number of bits set among seven. -/
def bitCount7 (m : Nat) : Nat := ((List.range 7).filter fun i => bit m i).length

/-- A read of n bytes from a meets words with inverted check bits: EV250 for one bit, EV251 for two (R322). Beside the
block, whether one of them was uncorrectable. More than two bits: no statement (log 91). -/
def eccRead (a n : Nat) (b : Block) : Block × Bool :=
  (b.badEcc.filter fun e => decide (e.1 < a + n ∧ a < e.1 + 4)).foldl (fun s e =>
    if bitCount7 e.2 = 1 then (s.1.raise 250 (eccDetail e.1), s.2)
    else if bitCount7 e.2 = 2 then (s.1.raise 251 (eccDetail e.1), true) else s) (b, false)

/-- Perform the safe actions that were deferred to the release of PD1 (R323). -/
def deferredActions (b : Block) : Block :=
  let os := b.catchm.later
  let b := { b with catchm := { b.catchm with later := [] } }
  os.foldl (fun b o =>
    let act := b.getF F.CATCH_SRC_ACT o.ev
    let b := if Act.has act Act.chSafe then b.chSafe o.ev else b
    let b := if Act.has act Act.domSafe then b.domSafe (domainOfEvent o.ev o.detail) else b
    if Act.has act Act.weirSafe then
      let (b, os) := b.weirHold F.WEIR_STAT_CATCHREQ
      b.raiseAll 32 os
    else b) b

end Block

end Sys2Proof.Machine
end

