-- ==== Sys2Proof/Machine/Access.lean ====
section
/-! DEFINITION. Access to the set-up register space: who asks, and which accesses complete without effect and
raise EV252 (R22, R37, R45, R46, R322, R708). -/
namespace Sys2Proof.Machine

/-- Domain of a block number of R45; none for a number not listed. -/
def blockDomain (n : Nat) : Option Nat :=
  if n = 0 ∨ n = 2 then some 1 else if n = 1 then some 0 else if n = 3 then some 4
  else if 0x10 ≤ n ∧ n ≤ 0x18 then some 4 else if 0x19 ≤ n ∧ n ≤ 0x1B then some 11
  else if 0x20 ≤ n ∧ n ≤ 0x23 then some 5 else if n = 0x28 then some 12
  else if n = 0x30 ∨ n = 0x31 then some 6 else if n = 0x32 then some 7 else if n = 0x34 then some 1
  else if n = 0x38 ∨ n = 0x39 then some 8 else if n = 0x3A then some 1 else if n = 0x40 then some 1
  else if 0x48 ≤ n ∧ n ≤ 0x4A then some 10 else if n = 0x50 then some 9
  else if n = 0x58 ∨ n = 0x59 then some 1 else if n = 0x60 then some 8 else if n = 0x68 then some 1
  else none

/-- Requester number of EV252 (R317): 0–14 = HC0–HC14, 15 = host software through W0. -/
def Who.code : Who → Nat
  | .core c => c.val
  | .host => 15

/-- The requester is the supervisor pair. -/
def Who.isSup : Who → Bool
  | .core c => decide (c.val < 2)
  | .host => false

namespace Block

/-- EV252 with its cause and requester (R317, R708). -/
def fabricErr (who : Who) (cause : Nat) (b : Block) : Block := b.raise 252 (cause + who.code * 16)

/-- The armed fabric parity injection meets a write to this set-up offset (R322, MEM = 6). -/
def parityArmed (b : Block) (addr : Nat) : Bool :=
  b.flag F.CATCH_INJ_ARM 0 && b.getF F.CATCH_INJ_MEM 0 == 6 && b.rd R.CATCH_INJADDR 0 / 4 == addr / 4

/-- Why an access of `who` to set-up offset `off` with `size` bytes completes without effect: the first cause
of R708 that applies. The GAUGE cause and the right to write hold for writes only (R37, R46). -/
def accessCause (b : Block) (who : Who) (off size : Nat) (write : Bool) : Option Nat :=
  if write && b.parityArmed (0x40000000 + off) then some 6
  else if !(size == 4) || !(off % 4 == 0) then some 2
  else match blockDomain (off / 4096) with
    | none => some 1
    | some d =>
      if !b.pg d then some 4
      else if write && !(who.isSup || who == .host) then some 3
      else if write && off / 4096 == 0x68 then some 5
      else none

/-- A locked sequence holds the set-up register space: an access waits, and its requester makes it again when the
space is free (R440, log 66). -/
def spaceHeld (b : Block) : Bool := b.flag F.CHN_LOCK_HELD 0

/-- An aligned 32-bit write of `who` to offset `off`: its effect `k`, or EV252 (R708). -/
def gate (who : Who) (off : Nat) (k : Block → Block) (b : Block) : Block :=
  if b.spaceHeld then b
  else match b.accessCause who off 4 true with
  | none => k b
  | some 6 => b.injDone.fabricErr who 6
  | some c => b.fabricErr who c

/-- An aligned 32-bit read of `who` at offset `off`: its effect `k` beside the value, or EV252 (R22, R45, R708). -/
def readGate (who : Who) (off : Nat) (k : Block → Block) (b : Block) : Block :=
  if b.spaceHeld then b
  else match b.accessCause who off 4 false with
  | none => k b
  | some c => b.fabricErr who c

/-- As `gate`, for a register that only the supervisor pair may write (R131, R416, R509): a write through W0
raises EV252 with cause 3. -/
def gateSup (who : Who) (off : Nat) (k : Block → Block) (b : Block) : Block :=
  b.gate who off fun b => if who.isSup then k b else b.fabricErr who 3

/-- Set-up is closed (R56). -/
def isLocked (b : Block) : Bool := b.flag F.SYS_LOCKSTAT_LOCKED 0

/-- Record one ignored write to an RL field (R56, R58). -/
def lateWrite (b : Block) : Block := (b.setF F.SYS_LOCKSTAT_LATEWR 0 1).satF F.SYS_LOCKSTAT_LATECNT 0 1

end Block

end Sys2Proof.Machine
end

