-- ==== Sys2Proof/Machine/Crypto.lean ====
section
/-! DEFINITION. The algorithms of the standards that the spec names: AES and its modes (R548, SP 800-38A to -38D), the
key derivation of SP 800-108 (R542), SHA-256 and SHA-384 (R551, FIPS 180-4), ECDSA on P-256 and P-384 (R552,
FIPS 186-5). The spec names these standards and does not repeat them: PRESUMED, log 40. Byte strings are
lists of byte values, most significant first where a number is meant. -/
namespace Sys2Proof.Machine

/-- Number as n bytes, most significant first. -/
def beBytes (n v : Nat) : List Nat := (List.range n).map fun i => v / 256 ^ (n - 1 - i) % 256

/-- Bytes as a number, most significant first. -/
def ofBe (bs : List Nat) : Nat := bs.foldl (fun a x => a * 256 + x) 0

/-- Byte by byte exclusive or, to the length of the shorter. -/
def xorBytes (a c : List Nat) : List Nat := a.zipWith (fun x y => x ^^^ y) c

/-- Bytes of the module's payloads as values, and back. -/
def natsOf (bs : List Byte) : List Nat := bs.map BitVec.toNat
def bytesOf (ns : List Nat) : List Byte := ns.map (BitVec.ofNat 8)

/-- Consecutive pieces of n values; `fuel` bounds their number. -/
def chunks {α : Type} (n : Nat) : Nat → List α → List (List α)
  | 0, _ => []
  | f + 1, l => if l.isEmpty then [] else l.take n :: chunks n f (l.drop n)

/-- A list in blocks of 16, 64 or 128. -/
def blocksOf {α : Type} (n : Nat) (l : List α) : List (List α) := chunks n (l.length + 1) l

/-! ### AES (FIPS 197) -/

/-- Doubling and product in GF(2^8). -/
def gfDouble (a : Nat) : Nat := if a < 128 then 2 * a else (2 * a) % 256 ^^^ 0x1B
def gfMul (a c : Nat) : Nat := ((List.range 8).foldl (fun (p : Nat × Nat) i => (if bit c i then p.1 ^^^ p.2 else p.1, gfDouble p.2)) (0, a)).1

/-- Inverse in GF(2^8), 0 for 0: the 254th power. -/
def gfInv (a : Nat) : Nat :=
  let r := (List.range 6).foldl (fun r _ => gfMul (gfMul r r) a) a
  gfMul r r

/-- Left rotation of a byte. -/
def rotByte (a n : Nat) : Nat := (a * 2 ^ n + a / 2 ^ (8 - n)) % 256

def subByte (a : Nat) : Nat :=
  let i := gfInv a
  i ^^^ rotByte i 1 ^^^ rotByte i 2 ^^^ rotByte i 3 ^^^ rotByte i 4 ^^^ 0x63
def invSubByte (a : Nat) : Nat := gfInv (rotByte a 1 ^^^ rotByte a 3 ^^^ rotByte a 6 ^^^ 0x05)

def shiftRows (s : List Nat) : List Nat := (List.range 16).map fun i => s.getD (4 * ((i / 4 + i % 4) % 4) + i % 4) 0
def invShiftRows (s : List Nat) : List Nat := (List.range 16).map fun i => s.getD (4 * ((i / 4 + 4 - i % 4) % 4) + i % 4) 0

/-- One column times the circulant matrix of the row (a, b, c, d). -/
def mixWith (m s : List Nat) : List Nat :=
  (List.range 16).map fun i => (List.range 4).foldl (fun x k => x ^^^ gfMul (s.getD (4 * (i / 4) + k) 0) (m.getD ((k + 4 - i % 4) % 4) 0)) 0
def mixColumns (s : List Nat) : List Nat := mixWith [2, 3, 1, 1] s
def invMixColumns (s : List Nat) : List Nat := mixWith [14, 11, 13, 9] s

/-- The next word of the key schedule, newest word first. -/
def nextKeyWord (nk : Nat) (ws : List (List Nat)) : List Nat :=
  let i := ws.length
  let t := ws.headD []
  let t := if i % nk = 0 then
      xorBytes ((t.drop 1 ++ t.take 1).map subByte) [(List.range (i / nk - 1)).foldl (fun r _ => gfDouble r) 1, 0, 0, 0]
    else if 6 < nk ∧ i % nk = 4 then t.map subByte else t
  xorBytes (ws.getD (nk - 1) []) t

/-- Round keys of a key of 16, 24 or 32 bytes. -/
def keySchedule (key : List Nat) : List (List Nat) :=
  let nk := key.length / 4
  let ws := (List.range (4 * (nk + 7) - nk)).foldl (fun ws _ => nextKeyWord nk ws :: ws) (blocksOf 4 key).reverse
  (blocksOf 4 ws.reverse).map List.flatten

/-- One block through the cipher, given its round keys. -/
def aesRounds (rk : List (List Nat)) (blk : List Nat) : List Nat :=
  let n := rk.length - 1
  let s := (List.range (n - 1)).foldl (fun s r => xorBytes (mixColumns (shiftRows (s.map subByte))) (rk.getD (r + 1) [])) (xorBytes blk (rk.getD 0 []))
  xorBytes (shiftRows (s.map subByte)) (rk.getD n [])
def aesInvRounds (rk : List (List Nat)) (blk : List Nat) : List Nat :=
  let n := rk.length - 1
  let s := (List.range (n - 1)).foldl (fun s r => invMixColumns (xorBytes ((invShiftRows s).map invSubByte) (rk.getD (n - 1 - r) []))) (xorBytes blk (rk.getD n []))
  xorBytes ((invShiftRows s).map invSubByte) (rk.getD 0 [])

/-- AES encryption and decryption of one block. -/
def aesEnc (key blk : List Nat) : List Nat := aesRounds (keySchedule key) blk
def aesDec (key blk : List Nat) : List Nat := aesInvRounds (keySchedule key) blk

/-! ### Modes -/

/-- A block padded with 0 to 16 bytes. -/
def pad16 (bs : List Nat) : List Nat := if bs.length % 16 = 0 then bs else bs ++ List.replicate (16 - bs.length % 16) 0

/-- CBC chaining value after blocks of 16 (SP 800-38A, -38B, -38C). -/
def cbcMac (key iv : List Nat) (bs : List Nat) : List Nat :=
  (blocksOf 16 bs).foldl (fun x blk => aesEnc key (xorBytes x blk)) iv

/-- Doubling in GF(2^128) of CMAC's subkeys. -/
def cmacDouble (l : List Nat) : List Nat :=
  let v := ofBe l
  beBytes 16 (if v < 2 ^ 127 then 2 * v else (2 * v) % 2 ^ 128 ^^^ 0x87)

/-- CMAC (SP 800-38B). -/
def cmac (key msg : List Nat) : List Nat :=
  let k1 := cmacDouble (aesEnc key (List.replicate 16 0))
  let k2 := cmacDouble k1
  let n := if msg.isEmpty then 1 else (msg.length + 15) / 16
  let last := msg.drop (16 * (n - 1))
  let last := if last.length = 16 then xorBytes last k1 else xorBytes (pad16 (last ++ [0x80])) k2
  cbcMac key (List.replicate 16 0) (msg.take (16 * (n - 1)) ++ last)

/-- The key stream of counter blocks, each of which `inc` makes from its number, XORed onto data. -/
def ctrWith (key : List Nat) (ctr : Nat → List Nat) (data : List Nat) : List Nat :=
  ((blocksOf 16 data).zipIdx.map fun p => xorBytes p.1 (aesEnc key (ctr p.2))).flatten

/-- CTR with an initial counter block, incremented modulo 2^128 (R563). -/
def aesCtr (key iv data : List Nat) : List Nat := ctrWith key (fun i => beBytes 16 (ofBe iv + i)) data

/-- CBC. -/
def cbcEnc (key iv data : List Nat) : List Nat :=
  ((blocksOf 16 data).foldl (fun (p : List Nat × List Nat) blk => let c := aesEnc key (xorBytes p.2 blk); (p.1 ++ c, c)) ([], iv)).1
def cbcDec (key iv data : List Nat) : List Nat :=
  ((blocksOf 16 data).foldl (fun (p : List Nat × List Nat) blk => (p.1 ++ xorBytes p.2 (aesDec key blk), blk)) ([], iv)).1

/-- Product in GCM's field, first bit most significant (SP 800-38D). -/
def ghashMul (x y : Nat) : Nat :=
  ((List.range 128).foldl (fun (p : Nat × Nat) i =>
    (if bit x (127 - i) then p.1 ^^^ p.2 else p.1, if bit p.2 0 then p.2 / 2 ^^^ 0xE1 * 2 ^ 120 else p.2 / 2)) (0, y)).1
def ghash (h : Nat) (bs : List Nat) : Nat := (blocksOf 16 bs).foldl (fun y blk => ghashMul (y ^^^ ofBe blk) h) 0

/-- Counter block i of a 96-bit IV. -/
def gcmCtr (iv : List Nat) (i : Nat) : List Nat := iv ++ beBytes 4 i

/-- GCM's data path, and its full tag over the ciphertext. -/
def gcmCrypt (key iv data : List Nat) : List Nat := ctrWith key (fun i => gcmCtr iv (i + 2)) data
def gcmTag (key iv aad cipher : List Nat) : List Nat :=
  let h := ofBe (aesEnc key (List.replicate 16 0))
  let s := ghash h (pad16 aad ++ pad16 cipher ++ beBytes 8 (8 * aad.length) ++ beBytes 8 (8 * cipher.length))
  xorBytes (beBytes 16 s) (aesEnc key (gcmCtr iv 1))

/-- CCM's counter block i, its data path and its tag of t bytes (SP 800-38C). -/
def ccmCtr (nonce : List Nat) (i : Nat) : List Nat := [14 - nonce.length] ++ nonce ++ beBytes (15 - nonce.length) i
def ccmCrypt (key nonce data : List Nat) : List Nat := ctrWith key (fun i => ccmCtr nonce (i + 1)) data
def ccmTag (key nonce aad plain : List Nat) (t : Nat) : List Nat :=
  let b0 := [b2n (!aad.isEmpty) * 64 + (t - 2) / 2 * 8 + (14 - nonce.length)] ++ nonce ++ beBytes (15 - nonce.length) plain.length
  let a := if aad.isEmpty then [] else pad16 ((if aad.length < 0xFF00 then beBytes 2 aad.length else [0xFF, 0xFE] ++ beBytes 4 aad.length) ++ aad)
  (xorBytes (cbcMac key (List.replicate 16 0) (b0 ++ a ++ pad16 plain)) (aesEnc key (ccmCtr nonce 0))).take t

/-- The counter-mode KDF of SP 800-108 as R542 writes it: `lbits` bits from a root key. -/
def kdf (root : List Nat) (dom : Nat) (label : List Nat) (lbits : Nat) : List Nat :=
  ((List.range ((lbits + 127) / 128)).flatMap fun j =>
    cmac root ([j + 1, dom] ++ label ++ [0] ++ beBytes 2 lbits)).take (lbits / 8)

/-! ### SHA-2 (FIPS 180-4), as SHA-256 on 32-bit words and SHA-384 on 64-bit words -/

/-- The first n primes. -/
def primes (n : Nat) : List Nat :=
  ((List.range 420).filter fun p => decide (2 ≤ p) && (List.range 21).all fun d => decide (d < 2) || decide (p ≤ d) || !(p % d == 0)).take n

/-- The largest r with r^k ≤ v, for r below 2^b. -/
def rootOf (k b v : Nat) : Nat := (List.range b).foldl (fun r i => let t := r + 2 ^ (b - 1 - i); if t ^ k ≤ v then t else r) 0

/-- Round constants: the first w bits of the fractional parts of the cube roots of the first n primes. -/
def shaK (w n : Nat) : List Nat := (primes n).map fun p => rootOf 3 (w + 4) (p * 2 ^ (3 * w)) % 2 ^ w

/-- Initial hash words: of the square roots of the first eight primes, for SHA-384 of the ninth to sixteenth. -/
def shaInit (is384 : Bool) : List Nat :=
  if is384 then ((primes 16).drop 8).map fun p => rootOf 2 70 (p * 2 ^ 128) % 2 ^ 64
  else (primes 8).map fun p => rootOf 2 38 (p * 2 ^ 64) % 2 ^ 32

/-- Rotation to the right in w bits. -/
def rotr (w x n : Nat) : Nat := x / 2 ^ n + x % 2 ^ n * 2 ^ (w - n)

/-- The rotations of Σ0, Σ1, σ0, σ1; the third number of a σ is a shift. -/
def shaSig (is384 : Bool) (k x : Nat) : Nat :=
  let w := if is384 then 64 else 32
  let r := if is384 then [[28, 34, 39], [14, 18, 41], [1, 8, 7], [19, 61, 6]].getD k [] else [[2, 13, 22], [6, 11, 25], [7, 18, 3], [17, 19, 10]].getD k []
  let a := r.getD 0 0
  let c := r.getD 1 0
  let e := r.getD 2 0
  rotr w x a ^^^ rotr w x c ^^^ (if k < 2 then rotr w x e else x / 2 ^ e)

/-- The message schedule, newest word first. -/
def shaSchedule (is384 : Bool) (blk : List Nat) : List Nat :=
  let m := 2 ^ (if is384 then 64 else 32)
  let ws := ((blocksOf (if is384 then 8 else 4) blk).map ofBe).reverse
  ((List.range (if is384 then 64 else 48)).foldl (fun ws _ =>
    ((shaSig is384 3 (ws.getD 1 0) + ws.getD 6 0 + shaSig is384 2 (ws.getD 14 0) + ws.getD 15 0) % m) :: ws) ws).reverse

/-- One block into the hash words. -/
def shaBlock (is384 : Bool) (ks h blk : List Nat) : List Nat :=
  let m := 2 ^ (if is384 then 64 else 32)
  let s := ((shaSchedule is384 blk).zip ks).foldl (fun s wk =>
    let e := s.getD 4 0
    let a := s.getD 0 0
    let ch := (e &&& s.getD 5 0) ^^^ ((m - 1 - e) &&& s.getD 6 0)
    let t1 := s.getD 7 0 + shaSig is384 1 e + ch + wk.2 + wk.1
    let mj := (a &&& s.getD 1 0) ^^^ (a &&& s.getD 2 0) ^^^ (s.getD 1 0 &&& s.getD 2 0)
    let t2 := shaSig is384 0 a + mj
    [(t1 + t2) % m, a, s.getD 1 0, s.getD 2 0, (s.getD 3 0 + t1) % m, e, s.getD 5 0, s.getD 6 0]) h
  h.zipWith (fun x y => (x + y) % m) s

/-- Whole blocks into the hash words. -/
def shaBlocks (is384 : Bool) (h msg : List Nat) : List Nat :=
  (blocksOf (if is384 then 128 else 64) msg).foldl (shaBlock is384 (if is384 then shaK 64 80 else shaK 32 64)) h

/-- The digest: the rest of a message of `total` bytes padded, into hash words that hold the part before it. -/
def shaFinish (is384 : Bool) (h rest : List Nat) (total : Nat) : List Nat :=
  let n := if is384 then 128 else 64
  let l := if is384 then 16 else 8
  let z := (2 * n - 1 - l - rest.length % n) % n
  let h := shaBlocks is384 h (rest ++ [0x80] ++ List.replicate z 0 ++ beBytes l (8 * total))
  if is384 then (h.take 6).flatMap (beBytes 8) else h.flatMap (beBytes 4)

/-- SHA-256 or SHA-384 of a message. -/
def sha (is384 : Bool) (msg : List Nat) : List Nat := shaFinish is384 (shaInit is384) msg msg.length

/-! ### ECDSA (FIPS 186-5) on P-256 and P-384 -/

/-- Field prime, coefficient b, base point and order of a curve; a = −3. -/
structure Curve where
  p  : Nat
  b  : Nat
  gx : Nat
  gy : Nat
  n  : Nat
  deriving DecidableEq, Repr

def p256 : Curve where
  p := 0xFFFFFFFF00000001000000000000000000000000FFFFFFFFFFFFFFFFFFFFFFFF
  b := 0x5AC635D8AA3A93E7B3EBBD55769886BC651D06B0CC53B0F63BCE3C3E27D2604B
  gx := 0x6B17D1F2E12C4247F8BCE6E563A440F277037D812DEB33A0F4A13945D898C296
  gy := 0x4FE342E2FE1A7F9B8EE7EB4A7C0F9E162BCE33576B315ECECBB6406837BF51F5
  n := 0xFFFFFFFF00000000FFFFFFFFFFFFFFFFBCE6FAADA7179E84F3B9CAC2FC632551

def p384 : Curve where
  p := 0xFFFFFFFFFFFFFFFFFFFFFFFFFFFFFFFFFFFFFFFFFFFFFFFFFFFFFFFFFFFFFFFEFFFFFFFF0000000000000000FFFFFFFF
  b := 0xB3312FA7E23EE7E4988E056BE3F82D19181D9C6EFE8141120314088F5013875AC656398D8A2ED19D2A85C8EDD3EC2AEF
  gx := 0xAA87CA22BE8B05378EB1C71EF320AD746E1D3B628BA79B9859F741E082542A385502F25DBF55296C3A545E3872760AB7
  gy := 0x3617DE4A96262C6F5D9E98BF9292DC29F8F41DBD289A147CE9DA3113B5F0B8C00A60B1CE1D7E819D7A431D7C90EA0E5F
  n := 0xFFFFFFFFFFFFFFFFFFFFFFFFFFFFFFFFFFFFFFFFFFFFFFFFC7634D81F4372DDF581A0DB248B0A77AECEC196ACCC52973

def curveOf (is384 : Bool) : Curve := if is384 then p384 else p256

/-- Bytes of a number of the curve. -/
def curveLen (is384 : Bool) : Nat := if is384 then 48 else 32

/-- a^e modulo m, e below 2^400. -/
def powMod (m a e : Nat) : Nat := (List.range 400).foldl (fun r i => let r := r * r % m; if bit e (399 - i) then r * a % m else r) 1

/-- Inverse modulo a prime. -/
def invMod (m a : Nat) : Nat := powMod m a (m - 2)

/-- Sum of two points; none is the point at infinity. -/
def ecAdd (c : Curve) : Option (Nat × Nat) → Option (Nat × Nat) → Option (Nat × Nat)
  | none, q => q
  | q, none => q
  | some (x1, y1), some (x2, y2) =>
    if x1 = x2 ∧ (y1 + y2) % c.p = 0 then none
    else
      let l := if x1 = x2 then (3 * x1 * x1 + (c.p - 3)) * invMod c.p (2 * y1 % c.p) % c.p
        else (y2 + c.p - y1) * invMod c.p ((x2 + c.p - x1) % c.p) % c.p
      let x := (l * l + (c.p - x1) + (c.p - x2)) % c.p
      some (x, (l * (x1 + c.p - x) + (c.p - y1)) % c.p)

/-- k times a point, k below 2^400. -/
def ecMul (c : Curve) (k : Nat) (q : Option (Nat × Nat)) : Option (Nat × Nat) :=
  (List.range 400).foldl (fun r i => let r := ecAdd c r r; if bit k (399 - i) then ecAdd c r q else r) none

/-- (x, y) is a point of the curve. -/
def onCurve (c : Curve) (x y : Nat) : Bool :=
  decide (x < c.p) && decide (y < c.p) && y * y % c.p == (x * x * x + (c.p - 3) * x + c.b) % c.p

/-- The private key of R544 from its derived string, and its public key. -/
def privateKey (c : Curve) (s : List Nat) : Nat := ofBe s % (c.n - 1) + 1
def publicKey (c : Curve) (d : Nat) : Nat × Nat := (ecMul c d (some (c.gx, c.gy))).getD (0, 0)

/-- A signature of a digest with nonce k; (0, 0) where the nonce gives none. -/
def ecdsaSign (c : Curve) (d e k : Nat) : Nat × Nat :=
  let r := ((ecMul c k (some (c.gx, c.gy))).getD (0, 0)).1 % c.n
  (r, invMod c.n (k % c.n) * (e + r * d) % c.n)

/-- A signature is valid. -/
def ecdsaVerify (c : Curve) (q : Nat × Nat) (e r s : Nat) : Bool :=
  if r = 0 ∨ s = 0 ∨ c.n ≤ r ∨ c.n ≤ s then false
  else
    let w := invMod c.n s
    match ecAdd c (ecMul c (e * w % c.n) (some (c.gx, c.gy))) (ecMul c (r * w % c.n) (some q)) with
    | none => false
    | some (x, _) => x % c.n == r

end Sys2Proof.Machine
end

