-- ==== Sys2Proof/Machine/BootBase.lean ====
section
/-! DEFINITION. Exrun images (R598–R603, R613), the guards of field updates (R614), and the start of a Heper core. -/
namespace Sys2Proof.Machine

/-! ### Heper cores: state and start (R475, R510) -/

namespace Block

/-- Core c and its update. HC1 is never visible on its own: it reads as HC0 (R474). -/
def hc (b : Block) (c : Nat) : HepCore := Tab.get {} b.core c
def updHc (c : Nat) (f : HepCore → HepCore) (b : Block) : Block := { b with core := Tab.put b.core c (f (b.hc c)) }

/-- HEP_STAT.STATE of core c. -/
def coreState (b : Block) (c : Nat) : Nat := b.getF F.HEP_STAT_STATE c

/-- HEP_STAT[c] follows the core's state and SR.PRIV (R510); HEP_STAT[1] reads as HEP_STAT[0]. -/
def setCore (c st : Nat) (b : Block) : Block :=
  let pr := if st = 0 then 0 else (b.hc c).sr.toNat % 2
  let put (i : Nat) (b : Block) : Block := (b.setF F.HEP_STAT_STATE i st).setF F.HEP_STAT_PRIV i pr
  if c = 0 then put 1 (put 0 b) else put c b

/-- Core c with every register at its reset value, at an address (R475, R512). -/
def startCore (c st pc : Nat) (b : Block) : Block := (b.updHc c fun _ => { pc := BitVec.ofNat 32 pc }).setCore c st

end Block

/-! ### Image headers (R601) -/

/-- A field of a header: n little-endian bytes at an offset. -/
def hdr (h : List Byte) (off n : Nat) : Nat := ofLe ((h.drop off).take n)

def hVersion (h : List Byte) : Nat := hdr h 0x0C 4
def hRollback (h : List Byte) : Nat := hdr h 0x10 4
def hLength (h : List Byte) : Nat := hdr h 0x14 4
def hEntry (h : List Byte) : Nat := hdr h 0x18 4
def hWake (h : List Byte) : Nat := hdr h 0x1C 4
def hWinOff (h : List Byte) : Nat := hdr h 0x20 4
def hWinLen (h : List Byte) : Nat := hdr h 0x24 4

/-- Segments: body offset, target, length, zero fill; all-zero entries are unused. -/
def hSegs (h : List Byte) : List (Nat × Nat × Nat × Nat) :=
  ((List.range 8).map fun i =>
    (hdr h (0x30 + 16 * i) 4, hdr h (0x34 + 16 * i) 4, hdr h (0x38 + 16 * i) 4, hdr h (0x3C + 16 * i) 4)).filter fun s => !(s == (0, 0, 0, 0))

/-- COMPAT entries in use: component, MIN, MAX. -/
def hCompat (h : List Byte) : List (Nat × Nat × Nat) :=
  ((List.range 8).map fun i => (hdr h (0xB0 + 12 * i) 1, hdr h (0xB4 + 12 * i) 4, hdr h (0xB8 + 12 * i) 4)).filter fun e => !(e.1 == 0)

/-- Body maximum of a component (R598). -/
def bodyMax (c : Nat) : Nat := if c = 1 ∨ c = 3 then 524288 else if c = 2 then 4194304 else if c = 4 then 262144 else 131072

/-- Cores of a component (R598). -/
def coresOf (c : Nat) : List Nat :=
  [[0], [2, 3, 4, 5], [6, 7, 8, 9], [10, 11], [12], [13], [14]].getD (c - 1) []

/-- Core-local SRAM of HC n in the global view (R42). -/
def localBase (n : Nat) : Nat := 0x08000000 + n * 0x20000

/-- Permitted load targets of a component (R598): the core-local SRAM of its cores in the global view, from the first to
the end of the last; retained SRAM; system SRAM. -/
def targetsOf (c : Nat) : List (Nat × Nat) :=
  if c = 1 then [(0x20000000, 0x20080000)]
  else
    let cs := coresOf c
    let l := (localBase (cs.headD 0), localBase (cs.getLastD 0 + 1))
    if c = 2 then [l, (0x10000000, 0x10400000)] else [l]

/-- Two address ranges, as start and length, have an address in common. -/
def overlap (a la c lc : Nat) : Bool := decide (0 < la ∧ 0 < lc ∧ a < c + lc ∧ c < a + la)

/-- No two segments overlap. -/
def segsApart : List (Nat × Nat × Nat × Nat) → Bool
  | [] => true
  | s :: ss => (ss.all fun t => !overlap s.2.1 (s.2.2.1 + s.2.2.2) t.2.1 (t.2.2.1 + t.2.2.2)) && segsApart ss

/-- Check 1 of R613: MAGIC, HVER and the reserved fields. -/
def headMagic (h : List Byte) : Bool :=
  h.length == 512 && hdr h 0 4 == 0x4E525845 && hdr h 4 2 == 1 && hdr h 0x28 8 == 0 &&
  (List.range 8).all fun i => hdr h (0xB1 + 12 * i) 3 == 0

/-- Check 3 of R613: COMP, ENTRY, WAKEENT, RDOFF and RDLEN are permitted for component c. -/
def headEntry (c : Nat) (h : List Byte) : Bool :=
  hdr h 6 2 == c && decide (1 ≤ c ∧ c ≤ 7) &&
  if c = 1 then hWinOff h % 64 == 0 && hWinLen h % 64 == 0
  else hWake h == 0 && hWinOff h == 0 && hWinLen h == 0 &&
    (if c = 2 then hEntry h == 0 else decide (0x10000 ≤ hEntry h ∧ hEntry h ≤ 0x2FFFF))

/-- Check 4 of R613: LENGTH, ROLLBACK, the segments, the data window and COMPAT (R598–R602). -/
def headBody (c : Nat) (h : List Byte) : Bool :=
  let n := hLength h
  n % 64 == 0 && decide (64 ≤ n ∧ n ≤ bodyMax c) && decide (hRollback h ≤ 64) &&
  ((hSegs h).all fun s => decide (s.1 + s.2.2.1 ≤ n) &&
    (targetsOf c).any fun t => decide (t.1 ≤ s.2.1 ∧ s.2.1 + s.2.2.1 + s.2.2.2 ≤ t.2)) &&
  segsApart (hSegs h) &&
  (if c = 1 then decide (hWinOff h + hWinLen h ≤ 524288) &&
    (hSegs h).all fun s => !overlap (0x20000000 + hWinOff h) (hWinLen h) s.2.1 (s.2.2.1 + s.2.2.2) else true) &&
  (hCompat h).all fun e => !(e.1 == c) && ((hCompat h).filter fun x => x.1 == e.1).length == 1

/-- SHA-384 of a byte string. -/
def sha384 (bs : List Byte) : List Nat := sha true (natsOf bs)

/-- The fused key hash of a component (R598). -/
def keyHash (c : Nat) : List Nat := beBytes 48 (if c ≤ 2 then Config.keyHashM else Config.keyHashU).toNat

/-- Check 6 of R613: the signature over bytes 0x000–0x19F. -/
def headSigned (h : List Byte) : Bool :=
  let f (off : Nat) : Nat := ofBe (natsOf ((h.drop off).take 48))
  onCurve p384 (f 0x140) (f 0x170) && ecdsaVerify p384 (f 0x140, f 0x170) (ofBe (sha384 (h.take 0x1A0))) (f 0x1A0) (f 0x1D0)

/-- The first of checks 1 to 7 of R613 that a header of component c fails; 0 = none. -/
def headCause (c floor : Nat) (h : List Byte) : Nat :=
  if !headMagic h then 1
  else if !(hdr h 8 4 == 0x6480) then 2
  else if !headEntry c h then 3
  else if !headBody c h then 4
  else if !(sha384 ((h.drop 0x140).take 96) == keyHash c) then 5
  else if !headSigned h then 6
  else if hRollback h < floor then 7
  else 0

/-- The body of a copy matches HASH (R602). -/
def bodyOk (cp : FlashCopy) : Bool :=
  cp.full && cp.body.length == hLength cp.header && sha384 cp.body == natsOf ((cp.header.drop 0x110).take 48)

/-- A set of headers by component breaks R603 in these pairs of components. -/
def badPairs (hs : List (Nat × List Byte)) : List (Nat × Nat) :=
  hs.flatMap fun x => ((hCompat x.2).filter fun e => hs.any fun y => y.1 == e.1 && !(decide (e.2.1 ≤ hVersion y.2 ∧ hVersion y.2 ≤ e.2.2))).map fun e => (x.1, e.1)

/-! ### Layout of a bank (R599) -/

/-- Bytes of a bank, region of a component as offset and size, place of the body within it, and the data region. -/
def bankBytes : Nat := 0x4000000
def regionOf (c : Nat) : Nat × Nat :=
  if c = 1 then (0, 0x100000) else if c = 2 then (0x100000, 0x500000) else if c = 3 then (0x600000, 0x100000)
  else (0x700000 + 0x80000 * (c - 4), 0x80000)
def bodyPlace : Nat := 0x10000
def dataRegion : Nat × Nat := (0x3F00000, 0x100000)

/-- Component whose region holds an offset of a bank, where one does. -/
def compAt (off : Nat) : Option Nat :=
  ((List.range 7).map (· + 1)).find? fun c => decide ((regionOf c).1 ≤ off ∧ off < (regionOf c).1 + (regionOf c).2)

/-- Byte of a copy at an offset of its region: header at its start, body behind. -/
def FlashCopy.byteAt (cp : FlashCopy) (i : Nat) : Option Byte := if i < bodyPlace then cp.header[i]? else cp.body[i - bodyPlace]?

namespace Block

/-- Copy of component c in a bank (0 = A, 1 = B), and its update. -/
def copyOf (b : Block) (bank c : Nat) : FlashCopy := Tab.get {} b.flash.copy (8 * bank + c)
def setCopy (bank c : Nat) (cp : FlashCopy) (b : Block) : Block :=
  { b with flash := { b.flash with copy := Tab.put b.flash.copy (8 * bank + c) cp } }

/-- What the flash holds at an offset of a bank, where an image lies there (R599). The spec gives no layout of the data
region's records (log 217). -/
def flashByte (b : Block) (bank off : Nat) : Option Byte :=
  (compAt off).bind fun c => (b.copyOf bank c).byteAt (off - (regionOf c).1)

/-- ACTIVE bit of component c. -/
def activeBank (b : Block) (c : Nat) : Nat := b2n (bit b.flash.active (c - 1))

/-- Field of BOOT_FLOOR for component c (R624). -/
def floorField (c : Nat) : RegField :=
  [F.BOOT_FLOOR_FLOOR, F.BOOT_FLOOR_FLOOR1, F.BOOT_FLOOR_FLOOR2, F.BOOT_FLOOR_FLOOR3].getD ((c - 1) % 4) F.BOOT_FLOOR_FLOOR

/-- Rollback floor of component c. -/
def floorOf (b : Block) (c : Nat) : Nat := b.getF (floorField c) ((c - 1) / 4)

/-- The first failing check of a copy of component c: 1–7 of R613, 13 for its body; 0 = the copy is valid (R602). -/
def copyCause (b : Block) (bank c : Nat) : Nat :=
  let cp := b.copyOf bank c
  let h := headCause c (b.floorOf c) cp.header
  if h = 0 then (if bodyOk cp then 0 else 13) else h

/-- A copy is valid (R602). -/
def copyValid (b : Block) (bank c : Nat) : Bool := b.copyCause bank c == 0

/-- ECDSA checks that the choice of a component's copy makes: one for each copy tried that reaches check 6 (R605, R613). -/
def sigTried (b : Block) (bank c : Nat) : Nat :=
  let k := headCause c (b.floorOf c) (b.copyOf bank c).header
  b2n (decide (k = 0 ∨ 6 ≤ k))
def sigChecks (b : Block) (c : Nat) : Nat :=
  let a := b.activeBank c
  b.sigTried a c + if b.copyValid a c then 0 else b.sigTried (1 - a) c

/-! ### Update sessions (R612) -/

/-- The open session is closed; its copy holds no valid image (R612, R615, R623). -/
def sessClose (drop : Bool) (b : Block) : Block :=
  match b.boot.sess with
  | none => b
  | some s =>
    let b := if drop then b.setCopy (1 - b.activeBank s.comp) s.comp {} else b
    let b := { b with boot := { b.boot with sess := none } }
    ((b.setF F.UPD_STAT_STATE 0 0).setF F.UPD_STAT_COMP 0 0).wr R.UPD_RCVD 0 0

/-! ### Guards (R614) -/

/-- Lowest voltage in mV of the feeds that are not MISSING. -/
def lowestFeed (b : Block) : Option Nat :=
  (((List.range 3).filter fun n => !bit (b.rd R.PWR_FEEDSTAT 0) (4 + n)).map fun n => b.getF F.PWR_FEED_VOLT n).min?

/-- The lowest feed lies below the limit of guard 2. -/
def feedLow (b : Block) : Bool :=
  match b.lowestFeed with
  | none => false
  | some v => decide (v < if b.flag F.PWR_CFG_SYSV 0 then 11400 else 22800)

/-- Failing guards as a mask (R614). In Recovery, guards 0 and 1 read as passing (R620). -/
def guards (b : Block) : Nat :=
  let rec_ := b.getF F.PWR_STATE_STATE 0 == 4
  let v := if b.flag F.UPD_CFG_SPDSRC 0 then b.boot.speed else b.getF F.UPD_GUARD_SPEED 0
  let moving := !b.boot.spdOk || decide (77 ≤ v)
  let park := if b.getF F.UPD_CFG_PBSRC 0 = 0 then !b.flag F.DIO_DISTAT_LEVEL (b.getF F.UPD_CFG_PBDI 0)
    else b.getF F.UPD_GUARD_PARK 0 == 0 || !b.boot.parkOk
  (if rec_ then 0 else b2n moving + 2 * b2n park) + 4 * b2n b.boot.batLow + 8 * b2n (b.flag F.ACS_STAT_OWNLOCK 0)

/-- UPD_STAT.GUARDS shows the guards as they stand. -/
def guardSync (b : Block) : Block := b.setF F.UPD_STAT_GUARDS 0 b.guards

/-- A CAN frame carries the speed value (R614). -/
def guardFrame (n : Nat) (f : NetFrame) (b : Block) : Block :=
  let at_ := b.getF F.UPD_CFG_SPDBYTE 0
  let m := if b.flag F.UPD_SPDID_SAIGN 0 then 0x03FFFF00 else 0x1FFFFFFF
  let id := b.getF F.UPD_SPDID_ID 0
  if b.flag F.UPD_CFG_SPDSRC 0 && b.getF F.UPD_CFG_SPDCH 0 == n && !bit f.flags 5 && !bit f.flags 1 &&
      bit f.flags 0 == b.flag F.UPD_SPDID_IDE 0 && decide (f.id % 2 ^ 29 &&& m = id &&& m) && decide (at_ + 2 ≤ f.data.length) then
    { b with boot := { b.boot with speed := ofLe ((f.data.drop at_).take 2), spdOk := true } }
  else b

/-- GUARD_TIMER (R614): no speed value for 1 s, the park value not written for 1 s, a low battery for 2 s, a battery at
or above the limit for 2 s. -/
def guardTimer (kind : Nat) (b : Block) : Block :=
  if kind = 0 then { b with boot := { b.boot with spdOk := false } }
  else if kind = 1 then { b with boot := { b.boot with parkOk := false } }
  else if kind = 2 then (if b.feedLow then { b with boot := { b.boot with batLow := true } } else b)
  else if b.feedLow then b else { b with boot := { b.boot with batLow := false } }

end Block

end Sys2Proof.Machine
end

