-- ==== Sys2Proof/Machine/Cipher.lean ====
section
/-! DEFINITION. The units of PD10: root keys and derived keys (R540–R547), AES, SHA-2 and public-key jobs
(R548–R552), the random generator (R553, R554), self-tests (R555), the firmware ring (R557) and the cipher descriptors
(R563–R565). -/
namespace Sys2Proof.Machine

/-- Root r is programmed: RK0 at manufacture, RK1–RK3 where KEY_RKID is not 0 (R540). -/
def rootProgrammed (r : Nat) : Bool := decide (r = 0) || !(Config.rkId r == 0)

/-- The derived key of a tag (R542). -/
def keyOf (t : KeyTag) : List Nat := kdf (beBytes 32 (Config.rootKey t.root).toNat) t.dom t.label t.lbits

/-- Requester code of a descriptor for R560, and its DOM (R543). -/
def requester (d : Desc) : Nat := match d.src with
  | .fwRing _ => 1
  | _ => 0
def domOf (d : Desc) : Nat := requester d + 1

/-- ROOT, KSIZE in bits, LBLLEN (R563). -/
def Desc.root (d : Desc) : Nat := bits (d.dw 5) 1 0
def Desc.kbits (d : Desc) : Nat := 128 + 64 * bits (d.dw 5) 3 2
def Desc.lblLen (d : Desc) : Nat := bits (d.dw 5) 14 8
def Desc.mode (d : Desc) : Nat := bits (d.dw 5) 6 4
def Desc.tagLen (d : Desc) : Nat := bits (d.dw 5) 20 16
def Desc.nLen (d : Desc) : Nat := bits (d.dw 5) 27 24
def Desc.aadLen (d : Desc) : Nat := bits (d.dw 6) 15 0
def Desc.outAddr (d : Desc) : Nat := d.dw 12 + d.dw 13 * 2 ^ 32

/-- Length padded to a multiple of 4 (R564). -/
def up4 (n : Nat) : Nat := (n + 3) / 4 * 4

/-- Payload bytes n from offset a. -/
def Desc.part (d : Desc) (a n : Nat) : List Nat := natsOf (((d.payload.take d.len).drop a).take n)
def Desc.label (d : Desc) : List Nat := d.part 0 d.lblLen

/-- IV bytes DW8–DW11. -/
def Desc.iv (d : Desc) : List Nat := natsOf ((List.range 4).flatMap fun i => leBytes 4 (d.dw (8 + i)))

/-- Label and key fields are well-formed. -/
def Desc.lblOk (d : Desc) : Bool := decide (1 ≤ d.lblLen) && decide (d.lblLen ≤ 64)

/-- The output address is a multiple of 4, and the descriptor writes to one node only (R400, R563, R565). -/
def Desc.outOk (d : Desc) : Bool := d.outAddr % 4 == 0 && !d.bcast

/-- Bytes before the data of AES_ENC and AES_DEC, and those of the tag behind it. -/
def Desc.aesHead (d : Desc) : Nat := up4 d.lblLen + up4 d.aadLen
def Desc.aesTail (d : Desc) : Nat := if d.opcode = 0x91 ∧ 2 ≤ d.mode then d.tagLen else 0
def Desc.aesData (d : Desc) : Nat := d.len - d.aesHead - d.aesTail

/-- Format of AES_ENC (op 0x90) and AES_DEC (op 0x91) (R563, R564). -/
def aesOk (op : Nat) (d : Desc) : Bool :=
  let m := d.mode
  let w := 0xFFFFFFFF
  d.ok op 0 65536 [0x0F1F7F7F, 0xFFFF, 0, w, w, w, w, w, w] && d.lblOk && d.outOk && decide (bits (d.dw 5) 3 2 < 3) && decide (m < 4) &&
  decide (d.aesHead + d.aesTail ≤ d.len) &&
  (if m < 2 then d.tagLen == 0 && d.nLen == 0 && d.aadLen == 0 && decide (0 < d.aesData) && (m == 0 || d.aesData % 16 == 0)
   else if m = 2 then (d.tagLen == 8 || (decide (12 ≤ d.tagLen) && decide (d.tagLen ≤ 16))) && d.nLen == 0 && d.dw 11 == 0
   else decide (4 ≤ d.tagLen) && decide (d.tagLen ≤ 16) && d.tagLen % 2 == 0 && decide (7 ≤ d.nLen) && decide (d.nLen ≤ 13) && (d.iv.drop d.nLen).all (· == 0))

/-- Format of AES_CMAC. -/
def cmacOk (d : Desc) : Bool :=
  let w := 0xFFFFFFFF
  let ver := bit (d.dw 5) 24
  d.ok 0x92 0 65536 [0x011F7F0F, 0, 0, 0, 0, 0, 0, w, w] && d.lblOk && decide (bits (d.dw 5) 3 2 < 3) &&
  decide (4 ≤ d.tagLen) && decide (d.tagLen ≤ 16) && decide (up4 d.lblLen + (if ver then d.tagLen else 0) ≤ d.len) &&
  (if ver then d.outAddr == 0 else d.outOk)

/-- Format of SHA: parts 1 and 2 take whole blocks (R551). -/
def shaOk (d : Desc) : Bool :=
  let w := 0xFFFFFFFF
  let part := bits (d.dw 5) 2 1
  d.ok 0x93 0 65536 [7, 0, 0, 0, 0, 0, 0, w, w] && d.outOk &&
  (part == 0 || part == 3 || d.len % (if bit (d.dw 5) 0 then 128 else 64) == 0)

/-- Format of the public-key opcodes (R563). -/
def Desc.curve (d : Desc) : Bool := bit (d.dw 5) 2
def signOk (d : Desc) : Bool :=
  let w := 0xFFFFFFFF
  let n := up4 d.lblLen + curveLen d.curve
  d.ok 0x94 n n [0x7F07, 0, 0, 0, 0, 0, 0, w, w] && d.lblOk && d.outOk
def pubOk (d : Desc) : Bool :=
  let w := 0xFFFFFFFF
  d.ok 0x95 (up4 d.lblLen) (up4 d.lblLen) [0x7F07, 0, 0, 0, 0, 0, 0, w, w] && d.lblOk && d.outOk
def verifyOk (d : Desc) : Bool := d.ok 0x96 (5 * curveLen d.curve) (5 * curveLen d.curve) [4]
def rngOk (d : Desc) : Bool := d.ok 0x97 4 4096 [1] && d.len % 4 == 0 && !d.bcast
def flushOk (d : Desc) : Bool := d.ok 0x98 0 0 []

/-- Format by opcode. -/
def ciphOk (d : Desc) : Bool :=
  if d.opcode = 0x90 then aesOk 0x90 d else if d.opcode = 0x91 then aesOk 0x91 d
  else if d.opcode = 0x92 then cmacOk d else if d.opcode = 0x93 then shaOk d
  else if d.opcode = 0x94 then signOk d else if d.opcode = 0x95 then pubOk d
  else if d.opcode = 0x96 then verifyOk d else if d.opcode = 0x97 then rngOk d else flushOk d

/-- The key of a job: AES jobs and CMAC, and the private key of signing and of its public key (R543, R544). -/
def Desc.keyTag (d : Desc) : Option KeyTag :=
  if 0x90 ≤ d.opcode ∧ d.opcode ≤ 0x92 then some { root := d.root, dom := domOf d, lbits := d.kbits, label := d.label }
  else if d.opcode = 0x94 ∨ d.opcode = 0x95 then
    some { root := d.root, dom := domOf d + 0x80, lbits := (if d.curve then 448 else 320), label := d.label }
  else none

/-- Units of a job: 0 = SHA-2, 1 = AES, 2 = key store, 3 = public-key unit (R555). -/
def Desc.units (d : Desc) : List Nat :=
  if d.opcode ≤ 0x92 then [1, 2] else if d.opcode = 0x93 then [0] else if d.opcode ≤ 0x95 then [2, 3] else if d.opcode = 0x96 then [3] else []

namespace Block

/-- Raise EVe with a cause and a requester that has none of the codes of R560: its bits are open (log 2). -/
def raiseOwn (e cause : Nat) (b : Block) : Block :=
  let (r, b) := b.fresh
  b.raise e (cause + r.toNat % 16 * 16)

/-- PD10 is at power good and the units are enabled (R558). -/
def ciphOn (b : Block) : Bool := b.pg 10 && b.flag F.CIPH_CFG_EN 0

/-- Root r is loaded and valid. -/
def rootValid (b : Block) (r : Nat) : Bool := bit (b.getF F.KEY_RKSTAT_RKVALID 0) r

/-- A request for a root key by requester q is refused (R540, R541). -/
def rootRefused (q : Nat) (b : Block) : Block := b.stickD F.KEY_STAT_RKREF 0 239 (2 + q * 16)

/-! ### Derived-key cache (R545–R547) -/

/-- Bring KEY_CACHE, JOBS and PKE_STAT.BUSY up to date. Jobs that wait for a derivation are running (log 42). -/
def ciphSync (b : Block) : Block :=
  let ws := b.ciph.deriv.flatMap Prod.snd
  let pke := ws.any fun w => match w with
    | .job j => decide (0x94 ≤ j.desc.opcode)
    | .frame .. => false
  ((b.setF F.KEY_CACHE_VALID 0 b.ciph.cache.length).setF F.CIPH_STAT_JOBS 0 ws.length).setF F.PKE_STAT_BUSY 0 (b2n pke)

/-- A tag is in the cache. -/
def cached (b : Block) (t : KeyTag) : Bool := b.ciph.cache.contains t

/-- A tag becomes the most recently used; the least recently used of 32 leaves (R545). -/
def touchKey (t : KeyTag) (b : Block) : Block :=
  ({ b with ciph := { b.ciph with cache := t :: ((b.ciph.cache.filter fun x => !(x == t)).take 31) } } : Block).ciphSync

/-- A hit: the entry is used. -/
def keyHit (t : KeyTag) (b : Block) : Block := (b.wrapF F.KEY_CCNT_HITS 0 1).touchKey t

/-- A miss: the derivation starts, or the request joins one in progress (R546). -/
def keyWait (t : KeyTag) (w : Waiter) (b : Block) : Block :=
  let ds := b.ciph.deriv
  let b := if ds.any fun e => e.1 == t then
      { b with ciph := { b.ciph with deriv := ds.map fun e => if e.1 == t then (e.1, e.2 ++ [w]) else e } }
    else ({ b with ciph := { b.ciph with deriv := ds ++ [(t, [w])] } } : Block).wrapF F.KEY_CCNT_MISSES 0 1
  b.ciphSync

/-- A key that a unit of PD10 uses at once, derived where the cache misses (R545). -/
def keyNow (t : KeyTag) (b : Block) : Block :=
  if b.cached t then b.keyHit t else (b.wrapF F.KEY_CCNT_MISSES 0 1).touchKey t

/-! ### Random generator (R553, R554) -/

/-- One generate request: a reseed after 65,536 of them, or before one with PR = 1. -/
def rngRequest (pr : Bool) (b : Block) : Block :=
  let reseed := pr || decide (65536 ≤ b.ciph.gens)
  let b := if reseed then b.wrapF F.CIPH_RNG_RESEEDS 0 1 else b
  { b with ciph := { b.ciph with gens := if reseed then 1 else b.ciph.gens + 1 } }

/-- n random bytes: open values (R553, log 2). -/
def randomBytes (n : Nat) (b : Block) : List Nat × Block :=
  let k := (n + 3) / 4
  (((List.range k).flatMap fun i => beBytes 4 (Config.freeValue (b.free + i)).toNat).take n, { b with free := b.free + k })

/-- ENTROPY_TEST_FAILURE (R554, R560): repetition count, adaptive proportion or start-up test. -/
def entropyFail (test : Nat) (b : Block) : Block :=
  if !b.pg 10 then b
  else
    let f := [F.CIPH_RNG_RCTF, F.CIPH_RNG_APTF, F.CIPH_RNG_STF].getD test F.CIPH_RNG_STF
    let was := b.flag f 0
    let b := ((b.setF F.CIPH_RNG_RSTATE 0 2).setF F.CIPH_STAT_RNGF 0 1).setF f 0 1
    if was then b else b.raiseOwn 237 (test + 1)

/-- The generator can serve. -/
def rngOn (b : Block) : Bool := b.getF F.CIPH_RNG_RSTATE 0 == 1

/-! ### Jobs -/

/-- A fault of this kind has been reported for requester q: it meets its next job (R560, log 215). -/
def jobFault (b : Block) (kind q : Nat) : Bool := b.ciph.broken.contains (kind, q)
def faultMet (kind q : Nat) (b : Block) : Block := { b with ciph := { b.ciph with broken := b.ciph.broken.erase (kind, q) } }

/-- An internal parity error ends a job of requester q (R560). -/
def jobError (q : Nat) (b : Block) : Block := (b.faultMet 0 q).stickD F.CIPH_STAT_JOBERR 0 236 (2 + q * 16)

/-- A signature of requester q fails its check (R552). -/
def checkError (q : Nat) (b : Block) : Block := (b.faultMet 1 q).stickD F.PKE_STAT_FCHK 0 238 (1 + q * 16)

/-- The completion of a job with output. -/
def outCompl (d : Desc) (bs : List Nat) : Compl := { status := St.ok, cw2 := bs.length, data := bytesOf bs, addr := some d.outAddr }

/-- AES_ENC. -/
def aesEncrypt (d : Desc) (key : List Nat) : Compl :=
  let data := d.part d.aesHead d.aesData
  let aad := d.part (up4 d.lblLen) d.aadLen
  if d.mode = 0 then outCompl d (aesCtr key d.iv data)
  else if d.mode = 1 then outCompl d (cbcEnc key d.iv data)
  else if d.mode = 2 then
    let iv := d.iv.take 12
    let c := gcmCrypt key iv data
    outCompl d (c ++ (gcmTag key iv aad c).take d.tagLen)
  else
    let n := d.iv.take d.nLen
    outCompl d (ccmCrypt key n data ++ ccmTag key n aad data d.tagLen)

/-- AES_DEC: its output, and whether its tag is right (R550). -/
def aesDecrypt (d : Desc) (key : List Nat) : List Nat × Bool :=
  let data := d.part d.aesHead d.aesData
  let aad := d.part (up4 d.lblLen) d.aadLen
  let tag := d.part (d.aesHead + d.aesData) d.aesTail
  if d.mode = 0 then (aesCtr key d.iv data, true)
  else if d.mode = 1 then (cbcDec key d.iv data, true)
  else if d.mode = 2 then
    let iv := d.iv.take 12
    (gcmCrypt key iv data, (gcmTag key iv aad data).take d.tagLen == tag)
  else
    let n := d.iv.take d.nLen
    let p := ccmCrypt key n data
    (p, ccmTag key n aad p d.tagLen == tag)

/-- SHA: the hash words and length to start from; none where the context is not one that the module wrote for this
algorithm (R551). -/
def shaStart (d : Desc) (ctx : List Byte) (b : Block) : Option (List Nat × Nat) :=
  let big := bit (d.dw 5) 0
  if bits (d.dw 5) 2 1 < 2 then some (shaInit big, 0)
  else match b.ciph.ctxs.find? fun c => c.bytes == ctx with
    | some c => if c.big == big then some (c.words, c.total) else none
    | none => none

/-- SHA: a digest, or a context, whose 128 bytes are open values that the module recognises (R551, log 43). -/
def shaRun (d : Desc) (ctx : List Byte) (b : Block) : Block × Compl :=
  let big := bit (d.dw 5) 0
  let part := bits (d.dw 5) 2 1
  let msg := d.part 0 d.len
  match b.shaStart d ctx with
  | none => (b, .of St.badDesc)
  | some (h, n) =>
    if part = 0 ∨ part = 3 then (b, outCompl d (shaFinish big h msg (n + d.len)))
    else
      let (bs, b) := b.randomBytes 128
      let c : ShaCtx := { bytes := bytesOf bs, big := big, words := shaBlocks big h msg, total := n + d.len }
      ({ b with ciph := { b.ciph with ctxs := c :: b.ciph.ctxs } }, outCompl d bs)

/-- The outcome of a job that has its units and its key (R548–R553, R563–R565). -/
def jobRun (j : CiphJob) (key : List Nat) (b : Block) : Block × Compl :=
  let d := j.desc
  let q := requester d
  let op := d.opcode
  if (j.fault || b.jobFault 0 q) && decide (op ≤ 0x93) then (b.jobError q, .of St.hwFault)
  else if op = 0x90 then (b, aesEncrypt d key)
  else if op = 0x91 then
    let (p, ok) := aesDecrypt d key
    if ok then (b, outCompl d p)
    else ((b.satF F.CIPH_CNT_AUTHCNT 0 1).stickD F.CIPH_STAT_AUTHF 0 236 (1 + q * 16), { outCompl d p with status := St.authFail })
  else if op = 0x92 then
    let ver := bit (d.dw 5) 24
    let n := d.len - up4 d.lblLen - (if ver then d.tagLen else 0)
    let t := (cmac key (d.part (up4 d.lblLen) n)).take d.tagLen
    if ver then (b, { status := St.ok, cw2 := b2n (t == d.part (up4 d.lblLen + n) d.tagLen) }) else (b, outCompl d t)
  else if op = 0x93 then b.shaRun d j.ctx
  else if op = 0x94 then
    let c := curveOf d.curve
    let n := curveLen d.curve
    let e := ofBe (d.part (up4 d.lblLen) n)
    let sk := privateKey c key
    if !b.rngOn then (b, .of St.hwFault)
    else
      let (kb, b) := (b.rngRequest false).randomBytes (n + 8)
      let s := ecdsaSign c sk e (ofBe kb % (c.n - 1) + 1)
      if j.fault || b.jobFault 1 q || !ecdsaVerify c (publicKey c sk) e s.1 s.2 then (b.checkError q, .of St.hwFault)
      else (b, outCompl d (beBytes n s.1 ++ beBytes n s.2))
  else if op = 0x95 then
    let p := publicKey (curveOf d.curve) (privateKey (curveOf d.curve) key)
    (b, outCompl d (beBytes (curveLen d.curve) p.1 ++ beBytes (curveLen d.curve) p.2))
  else if op = 0x96 then
    let n := curveLen d.curve
    let v (i : Nat) : Nat := ofBe (d.part (i * n) n)
    let c := curveOf d.curve
    (b, { status := St.ok, cw2 := if !onCurve c (v 0) (v 1) then 2 else b2n (ecdsaVerify c (v 0, v 1) (v 2) (v 3) (v 4)) })
  else if !b.rngOn then (b, .of St.hwFault)
  else
    let (bs, b) := (b.rngRequest (bit (d.dw 5) 0)).randomBytes d.len
    (b, { status := St.ok, cw2 := d.len, data := bytesOf bs })

/-- The 100 ms in which pipeline data are counted have passed: RATE is what they held in Mbit/s, and PEAK the highest
(R561, log 191). -/
def pipeRoll (b : Block) : Block :=
  let now := b.pw.tbase / 16000000
  if now = b.ciph.fedAt then b
  else
    let top := min 65535 (b.ciph.fed * 8 / 100000)
    let rate := if now = b.ciph.fedAt + 1 then top else 0
    (({ b with ciph := { b.ciph with fed := 0, fedAt := now } } : Block).setF F.CIPH_LOAD_RATE 0 rate).setF F.CIPH_LOAD_PEAK 0
      (max top (b.getF F.CIPH_LOAD_PEAK 0))

/-- n bytes pass the AES pipeline. -/
def pipeFed (n : Nat) (b : Block) : Block :=
  let b := b.pipeRoll
  { b with ciph := { b.ciph with fed := b.ciph.fed + n } }

/-- A job of the gateway, the access engine or the boot logic with n bytes for the AES pipeline is done (R561, log 214). -/
def unitJob (n : Nat) (b : Block) : Block := (if n = 0 then b else b.pipeFed n).wrapF F.CIPH_CNT_JOBCNT 0 1

/-- Bytes that a job puts through the AES pipeline: its payload without the label. -/
def jobBytes (d : Desc) : Nat := if d.opcode ≤ 0x92 then d.len - up4 d.lblLen else 0

/-- A job that has its key runs to its end (R546): completion, JOBCNT and OPS. -/
def jobDone (j : CiphJob) (b : Block) : Block :=
  let (b, c) := (if jobBytes j.desc = 0 then b else b.pipeFed (jobBytes j.desc)).jobRun j ((j.desc.keyTag.map keyOf).getD [])
  let b := b.wrapF F.CIPH_CNT_JOBCNT 0 1
  let b := if 0x94 ≤ j.desc.opcode ∧ j.desc.opcode ≤ 0x96 then b.wrapF F.PKE_STAT_OPS 0 1 else b
  b.complete j.desc c

/-- A unit of the job has failed its self-test, or the generator is in FAIL (R554, R555, R565). -/
def jobBroken (j : CiphJob) (b : Block) : Bool := j.desc.units.any fun u => Tab.get 0 b.ciph.test u == 2

/-- A job of the firmware ring reads its hash context before it starts (R551); host memory gives a host job's. -/
def jobContext (j : CiphJob) (b : Block) : Block × CiphJob :=
  if j.desc.src.isRing && j.desc.opcode == 0x93 && decide (2 ≤ bits (j.desc.dw 5) 2 1) then
    ((b.eccRead j.desc.outAddr 128).1, { j with ctx := b.readMem j.desc.outAddr 128 })
  else (b, j)

/-- Start a job: its key from the cache, or a derivation (R545, R546). -/
def jobStart (j : CiphJob) (b : Block) : Block :=
  let (b, j) := b.jobContext j
  if b.jobBroken j then (b.wrapF F.CIPH_CNT_JOBCNT 0 1).complete j.desc (.of St.hwFault)
  else match j.desc.keyTag with
    | none => b.jobDone j
    | some t => if b.cached t then (b.keyHit t).jobDone j else b.keyWait t (.job j)

/-- The job's units have ended their self-tests, and fewer than 16 jobs run (R549, R555). -/
def jobReady (b : Block) (j : CiphJob) : Bool :=
  j.desc.units.all (fun u => !(Tab.get 0 b.ciph.test u == 0)) && decide (b.getF F.CIPH_STAT_JOBS 0 < 16)

/-- The next job to take up: host descriptors and the firmware ring alternately (R549). -/
def nextJob (b : Block) : Option CiphJob :=
  let rdy := b.ciph.queue.filter b.jobReady
  match rdy.find? fun j => !((requester j.desc == 1) == b.ciph.lastFw) with
  | some j => some j
  | none => rdy.head?

/-- Admit waiting jobs; `fuel` bounds their number. -/
def takeJobs : Nat → Block → Block
  | 0, b => b
  | n + 1, b => match b.nextJob with
    | none => b
    | some j =>
      let b := { b with ciph := { b.ciph with queue := b.ciph.queue.erase j, lastFw := requester j.desc == 1 } }
      takeJobs n (b.jobStart j)

/-- Admit every job that may start. -/
def admitAll (b : Block) : Block := b.takeJobs b.ciph.queue.length

/-- A cipher descriptor at its unit (R541, R549, R558, R565). KEY_FLUSH is no job (R547). -/
def cipher (d : Desc) (ctx : List Byte) (fault : Bool) (b : Block) : Block :=
  if !ciphOk d then b.complete d (.of St.badDesc)
  else if b.getF F.PWR_STATE_STATE 0 == 4 then b.complete d (.of St.refused)
  else if !b.ciphOn then b.complete d (.of St.disabled)
  else if d.opcode = 0x98 then
    let n := b.ciph.cache.length
    (({ b with ciph := { b.ciph with cache := [] } } : Block).ciphSync).complete d { status := St.ok, cw2 := n }
  else
    let r := d.root
    if d.keyTag.isSome && (r == 0 || !bit (b.getF F.KEY_CFG_HOSTRK 0) (r - 1) || !b.rootValid r) then
      (b.rootRefused (requester d)).complete d (.of St.refused)
    else
      let b := b.beginDesc d
      ({ b with ciph := { b.ciph with queue := b.ciph.queue ++ [{ desc := d, ctx := ctx, fault := fault }] } } : Block).admitAll

/-- A cipher descriptor of one opcode (R563). -/
def cipherAs (op : Nat) (d : Desc) (ctx : List Byte) (fault : Bool) (b : Block) : Block := b.inOrder false d fun b =>
  if d.opcode = op then b.cipher d ctx fault else b.complete d (.of St.badDesc)

/-- CIPHER_DISABLE (R558): jobs not yet started complete with DISABLED; running ones complete. -/
def cipherDisable (b : Block) : Block :=
  let js := b.ciph.queue
  let b := b.setF F.CIPH_CFG_EN 0 0
  js.foldl (fun b j => b.complete j.desc (.of St.disabled)) { b with ciph := { b.ciph with queue := [] } }

/-- The self-tests of unit u end (R555, R560): it passes, or fails and raises its event with cause 3. -/
def selfTest (u : Nat) (pass : Bool) (b : Block) : Block :=
  let b := { b with ciph := { b.ciph with test := Tab.put b.ciph.test u (if pass then 1 else 2) } }
  if pass then b
  else if u = 2 then (b.setF F.KEY_STAT_KDFERR 0 1).raiseOwn 239 3
  else if u = 3 then (b.setF F.PKE_STAT_STF 0 1).raiseOwn 238 3
  else b.raiseOwn 236 3

/-- PD10 reaches power good (R540, R547, R553, R555): the roots are loaded and their parity checked (`bad`: a bit
per root whose parity fails), the cache is empty, the generator instantiated, no unit tested yet. -/
def ciphPowerGood (bad : Nat) (b : Block) : Block :=
  let b := { b with ciph := { queue := b.ciph.queue, ctxs := b.ciph.ctxs } }
  let prog := rootProgrammed
  let valid := (List.range 4).foldl (fun m r => m + (if prog r && !bit bad r then 2 ^ r else 0)) 0
  let err := (List.range 4).foldl (fun m r => m + (if prog r && bit bad r then 2 ^ r else 0)) 0
  let b := ((b.setF F.KEY_RKSTAT_RKVALID 0 valid).setF F.KEY_RKSTAT_RKERR 0 err).setF F.CIPH_RNG_RSTATE 0 1
  let b := b.ciphSync
  if err = 0 then b else if b.flag F.KEY_STAT_RKLOADF 0 then b else (b.setF F.KEY_STAT_RKLOADF 0 1).raiseOwn 239 1

/-- PD10 loses power, or a reset of R559 discards its jobs: nothing of them is left. A hash context in
host memory stays one that the module wrote (R551, log 43). -/
def ciphPowerDown (b : Block) : Block := ({ b with ciph := { ctxs := b.ciph.ctxs } } : Block).resetRegs 0x48000 0x4B000

/-! ### Records of the boot logic (R543, R567, R600) -/

/-- Key of the boot logic's CMAC over a record. DESIGN CHOICE: 256 bits (log 216). -/
def recordTag (label : List Nat) : KeyTag := { root := 0, dom := 5, lbits := 256, label := label }
def bcrLabel : List Nat := [0x42, 0x43, 0x52, 0x31]
def acrLabel : List Nat := [0x52, 0x45, 0x43, 0x31]

/-- The boot logic checks the CMAC of a record at a cold boot: without RK0 it cannot (R540, R541, R560). -/
def recordKey (label : List Nat) (b : Block) : Block :=
  if b.rootValid 0 then (b.keyNow (recordTag label)).unitJob 0 else b.rootRefused 4

/-- The boot logic makes the CMAC of a record: 0 = made, 1 = it waits for the self-tests, 2 = not made (R541, R555, R560).
DESIGN CHOICE: with PD10 off it is made all the same (log 216). -/
def sealRecord (label : List Nat) (b : Block) : Nat × Block :=
  if !b.pg 10 then (0, b)
  else if !b.rootValid 0 then (2, b.rootRefused 4)
  else if b.untested [1, 2] then (1, b)
  else if Tab.get 0 b.ciph.test 1 == 2 || Tab.get 0 b.ciph.test 2 == 2 then (2, b)
  else
    let b := (b.keyNow (recordTag label)).unitJob 0
    if b.jobFault 0 4 then (2, b.jobError 4) else (0, b)

/-- The boot logic's public-key operations: n of them (R552, R562, log 214). -/
def pkeJobs (n : Nat) (b : Block) : Block :=
  if b.pg 10 then (b.wrapF F.PKE_STAT_OPS 0 n).wrapF F.CIPH_CNT_JOBCNT 0 n else b

/-! ### Firmware ring (R557) -/

/-- Fetch and run the descriptors of the ring up to PROD, as far as its 64 completions have room (R391). One
with FENCE waits until every earlier one has its completion (R394). -/
def fwFetch : Nat → Block → Block
  | 0, b => b
  | n + 1, b =>
    let base := b.getF F.CIPH_FWBASE_ADDR 0 * 64
    let h := b.getF F.CIPH_FWCTL_HEAD 0
    let used := (b.ciph.fwTail + 64 - b.getF F.CIPH_FWCTL_CHEAD 0) % 64 + b.ciph.ring.length
    if base = 0 ∨ h = b.getF F.CIPH_FWCTL_PROD 0 ∨ 63 ≤ used then b
    else
      let b := (b.eccRead (base + 64 * h) 64).1
      let raw := b.readMem (base + 64 * h) 64
      let dws := (List.range 16).map fun i => BitVec.ofNat 32 (ofLe ((raw.drop (4 * i)).take 4))
      let num := b.ciph.fwNum
      let d0 : Desc := { src := .fwRing num, dws := dws, payload := [] }
      if d0.fence && !b.ciph.ring.isEmpty then b
      else
        let d := { d0 with payload := if d0.len ≤ 65536 then b.readMem d0.addr d0.len else [] }
        let b := if d.len ≤ 65536 then (b.eccRead d.addr d.len).1 else b
        let b := b.setF F.CIPH_FWCTL_HEAD 0 (h + 1)
        let b := { b with ciph := { b.ciph with ring := b.ciph.ring ++ [(num, none)], fwNum := num + 1 } }
        let own := d.node == b.nodeId && (!d.bcast || d.opcode == 0x98)
        let b := if own && decide (0x90 ≤ d.opcode ∧ d.opcode ≤ 0x98) then b.cipher d [] false else b.complete d (.of St.badDesc)
        fwFetch n b

/-- FW_RING_PRODUCER_WRITE (R557): the supervisor writes CIPH_FWCTL; PROD and CHEAD are stored. -/
def fwCtlWrite (w : Nat) (b : Block) : Block :=
  ((b.setF F.CIPH_FWCTL_PROD 0 (bits w 5 0)).setF F.CIPH_FWCTL_CHEAD 0 (bits w 21 16)).fwFetch 64

/-- A reset of the supervisor pair (R559): its jobs run on, their results are discarded. -/
def fwReset (b : Block) : Block :=
  (b.resetReg R.CIPH_FWCTL).ciphSync |> fun b =>
    { b with ciph := { b.ciph with ring := [], fwTail := 0, fwPhase := true } }

end Block

end Sys2Proof.Machine
end

