-- ==== Sys2Proof/Machine/Net.lean ====
section
/-! DEFINITION. CAN, LIN and Ethernet channels with sleep and wake, and the switch (R328–R361); what the gateway adds to
a received frame is in Gateway.lean. -/
namespace Sys2Proof.Machine

/-- Flags of a frame (R335). -/
def NetFrame.ide (f : NetFrame) : Bool := bit f.flags 0
def NetFrame.rtr (f : NetFrame) : Bool := bit f.flags 1
def NetFrame.fdf (f : NetFrame) : Bool := bit f.flags 2
def NetFrame.xlf (f : NetFrame) : Bool := bit f.flags 5

/-- Identifier that counts on the bus: for CAN XL the priority identifier (R333, R364). -/
def NetFrame.ident (f : NetFrame) : Nat := if f.xlf then f.id % 2048 else f.id % 2 ^ 29

/-- Arbitration order: the lower wins; of equal base identifiers the 11-bit one. -/
def NetFrame.rank (f : NetFrame) : Nat := if f.ide then 2 * f.ident + 1 else 2 * (f.ident * 2 ^ 18)

/-- Data lengths of CAN FD above 8 bytes (R335). -/
def fdLens : List Nat := [12, 16, 20, 24, 32, 48, 64]

/-- LEN is one that the frame's format has (R335). -/
def NetFrame.lenOk (f : NetFrame) : Bool :=
  let n := f.data.length
  if f.xlf then decide (1 ≤ n) && decide (n ≤ 2048) else if f.fdf then decide (n ≤ 8) || fdLens.contains n else decide (n ≤ 8)

/-- A configuration word in force of channel ch. -/
def NetCh.word (c : NetCh) (i : Nat) : Nat := c.cfg.getD i 0

/-- WKMODE; 3 acts as 2 (R357). -/
def NetCh.wkmode (c : NetCh) : Nat := min 2 (bits (c.word 3) 25 24)

/-- The WUF criterion, given the configuration words in force (R351); CAN FD frames are ignored. -/
def wufMeets (ws : List Nat) (f : NetFrame) : Bool :=
  let w (i : Nat) : Nat := ws.getD i 0
  let m := w 5 % 2 ^ 29
  let data := ofLe (leBytes 4 (w 7) ++ leBytes 4 (w 8))
  !f.fdf && !f.xlf && (f.ide == bit (w 4) 29) && decide (f.id &&& m = w 4 % 2 ^ 29 &&& m) &&
  (!bit (w 6) 4 || f.data.length == bits (w 6) 3 0) &&
  (data == 0 || !(ofLe (f.data.take 8) &&& data == 0))

/-- A CAN bus runs at the rate that a WUF detector decodes: the nominal rate is RATE (R351). -/
def atRate (ws : List Nat) : Bool :=
  let w (i : Nat) : Nat := ws.getD i 0
  decide (80000000 = bits (w 1) 5 0 * (1 + bits (w 1) 14 6 + bits (w 1) 22 15) * 125000 * 2 ^ bits (w 6) 6 5)

/-- The pattern passes the filter of a detector that looks for no frames (R351): WUP, LIN dominant, TC10 pulse. -/
def filterMeets (ch : Nat) (ws : List Nat) (seen : NetSeen) : Bool :=
  let w (i : Nat) : Nat := ws.getD i 0
  match seen with
  | .phases x y z span =>
    let t := bits (w 3) 30 26 * 250
    isCan ch && decide (t ≤ x ∧ t ≤ y ∧ t ≤ z ∧ span ≤ bits (w 6) 10 7 * 1000000)
  | .pulse ns => (isLin ch && decide (bits (w 0) 24 20 * 10000 ≤ ns)) || (isT1 ch && decide (bits (w 0) 27 24 * 100000 ≤ ns))
  | _ => false

namespace Block

/-- A sticky bit of channel ch with its event (R356). -/
def nstick (f : NetField) (ch : Nat) (b : Block) : Block := b.stick (f.of ch) (netIdx ch) (evNet ch)

/-- A sticky bit of one kind of channel with its event. -/
def xstick (f : RegField) (ch : Nat) (b : Block) : Block := b.stick f (netIdx ch) (evNet ch)

/-! ### Records (R334–R336) -/

/-- Records of a channel that wait: 64 for CAN and LIN, 32 KiB for CH 28. -/
def fifoRoom (b : Block) (ch : Nat) (r : List Byte) : Bool :=
  let w := (b.nch ch).recs
  if ch = 28 then decide ((w.map List.length).sum + r.length ≤ 32768) else decide (w.length < 64)

/-- Put a record into the posted buffers, completing a buffer that it does not fit; false: no buffer has room. -/
def rxPut : Nat → Nat → List Byte → Block → Block × Bool
  | 0, _, _, b => (b, false)
  | n + 1, ch, r, b =>
    match (b.nch ch).bufs with
    | [] => (b, false)
    | x :: xs =>
      if x.data.length + r.length ≤ x.desc.len then
        (b.updNet ch fun c => { c with bufs := { x with data := x.data ++ r, recs := x.recs + 1 } :: xs }, true)
      else rxPut n ch r (b.rxFinish ch St.ok)

/-- A record with LOST set (bit 6 of byte 7). -/
def markLost (r : List Byte) : List Byte := r.zipIdx.map fun p => if p.2 = 7 then p.1 ||| 0x40#8 else p.1

/-- A record of channel ch: into a buffer, or into the FIFO, or lost (R336). -/
def recordTo (ch : Nat) (r : List Byte) (b : Block) : Block :=
  let r := if (b.nch ch).lost then markLost r else r
  let (b, done) := if (b.nch ch).recs.isEmpty then b.rxPut 9 ch r else (b, false)
  if done then b.updNet ch fun c => { c with lost := false }
  else if b.fifoRoom ch r then b.updNet ch fun c => { c with recs := c.recs ++ [r], lost := false }
  else
    let b := b.updNet ch fun c => { c with lost := true }
    let b := if isCan ch then b.satF F.CAN_ERR_RXLOSTCNT ch 1 else if ch = 28 then b.satF F.ETH_CNT_DROP 4 1 else b
    b.nstick N.rxlost ch

/-- Records of the FIFO move into the posted buffers. -/
def rxDrain : Nat → Nat → Block → Block
  | 0, _, b => b
  | n + 1, ch, b =>
    match (b.nch ch).recs with
    | [] => b
    | r :: rs =>
      let (b, done) := b.rxPut 9 ch r
      if done then rxDrain n ch (b.updNet ch fun c => { c with recs := rs }) else b

/-- NET_RXPOST (R336, R360). -/
def rxPost (d : Desc) (b : Block) : Block :=
  let ch := bits (d.dw 5) 4 0
  let known := isCan ch || isLin ch || isEth ch
  let ok := d.ok 0x71 256 65536 [0x1F, 0, 0, 0xFFFF] && d.len % 64 == 0 && decide (1 ≤ d.dw 8) && known && !d.bcast
  b.runDeferred d ok fun b =>
    if !b.nOn ch then b.complete d (.of St.disabled)
    else if 8 ≤ (b.nch ch).bufs.length then b.complete d (.of St.busy)
    else (b.updNet ch fun c => { c with bufs := c.bufs ++ [{ desc := d }] }).rxDrain ((b.nch ch).recs.length) ch

/-- RX_BUFFER_TIMEOUT (R336): RXTO ms after the first record of the oldest buffer. -/
def rxTimeout (ch : Nat) (b : Block) : Block :=
  match (b.nch ch).bufs with
  | x :: _ => if x.recs = 0 then b else b.rxFinish ch St.ok
  | [] => b

/-! ### CAN transmission (R333, R349, R374) -/

/-- Frames of the jobs enter their queues as far as 64 places allow. -/
def txFill (ch : Nat) (b : Block) : Block :=
  (b.nch ch).jobs.foldl (fun b j0 =>
    let c := b.nch ch
    let used := if j0.prio then c.prio.length else c.fifo.length
    let first := c.jobs.find? fun j => (j.prio == j0.prio) && !j.rest.isEmpty
    match first with
    | none => b
    | some j =>
      let n := min (64 - used) j.rest.length
      let items := (j.rest.take n).zipIdx.map fun p => { job := j.num, idx := j.next + p.2, frame := p.1, echo := j.echo : TxItem }
      b.updNet ch fun c =>
        let js := c.jobs.map fun x => if x.num == j.num then { x with rest := x.rest.drop n, next := x.next + n } else x
        if j0.prio then { c with jobs := js, prio := c.prio ++ items } else { c with jobs := js, fifo := c.fifo ++ items }) b

/-- The channel's commit conditions hold (R347), but for the idle bus of a CAN channel: transmit queues empty, and IDLET
or AWAKEMAX under enforce; on T1A and T1B without enforce also the partner's acknowledgement. -/
def mayCommit (ch : Nat) (b : Block) : Bool :=
  let c := b.nch ch
  b.nstate ch == 3 && c.fifo.isEmpty && c.prio.isEmpty && c.gw.isEmpty && c.jobs.isEmpty &&
    (c.enforce || (c.idle && (!isT1 ch || c.ack)))

/-- The detector is armed where the commit conditions hold; that of a CAN channel only at bus idle (R347, R348). -/
def tryArm (ch : Nat) (quiet : Bool) (b : Block) : Block :=
  if b.mayCommit ch && (!isCan ch || quiet) then b.updNet ch fun c => { c with armed := true } else b

/-- The wake frame of R347; a CAN channel with MODE 1 or 2 drives nothing (R331). -/
def wakeFrame (ch : Nat) (b : Block) : Block :=
  let c := b.nch ch
  if isCan ch then
    if bits (c.word 0) 2 1 = 1 ∨ bits (c.word 0) 2 1 = 2 then b else
    b.send (.net ch { id := c.word 4 % 2 ^ 29, flags := b2n (bit (c.word 4) 29), data := leBytes 4 (c.word 7) ++ leBytes 4 (c.word 8) })
  else if isLin ch || isT1 ch then b.send (.netWake ch) else b

/-- One channel wakes for a cause of R350, before or after its commit (R346, R349). -/
def wakeOne (ch src : Nat) (b : Block) : Block :=
  let st := b.nstate ch
  if !(st == 3 || st == 4) then b
  else
    let b := if st == 3 then b.wakeFrame ch else b
    let b := (b.nset N.state ch (b.nch ch).prev).nset N.wakesrc ch src
    let b := b.updNet ch fun c => { c with armed := false, enforce := false, idle := false, ack := false }
    let k : NetKept := Tab.get {} b.net.kept ch
    let b := { b with net := { b.net with kept := Tab.put b.net.kept ch { k with src := src, asleep := false, errs := 0 } } }
    b.nstick N.wakeev ch

/-- A wake, forwarded to the other T1 port with WFWD = 1 where a detector recognised it (R350, R359). -/
def wake (ch src : Nat) (b : Block) : Block :=
  let was := b.nstate ch == 3 || b.nstate ch == 4
  let b := b.wakeOne ch src
  if isT1 ch && src == 1 && was && b.flag F.ETH_PCFG_WFWD (ch - 24) then b.wakeOne (49 - ch) 6 else b

/-- One record of a payload as a frame, and the bytes behind it; none where the payload is too short. -/
def recordAt (bs : List Byte) : Option (NetFrame × Nat × List Byte) :=
  let n := ofLe ((bs.drop 4).take 2)
  if bs.length < 16 + up4 n then none
  else some ({ id := ofLe (bs.take 4), flags := ofLe ((bs.drop 7).take 1), ext := ofLe ((bs.drop 12).take 4), data := (bs.drop 16).take n },
    ofLe ((bs.drop 6).take 1), bs.drop (16 + up4 n))

/-- The records of a payload with their channels. -/
def recordsOf : Nat → List Byte → Option (List (NetFrame × Nat))
  | 0, bs => if bs.isEmpty then some [] else none
  | n + 1, bs =>
    if bs.isEmpty then some []
    else match recordAt bs with
      | none => none
      | some (f, ch, rest) => (recordsOf n rest).map fun l => (f, ch) :: l

/-- A record that channel n may send with configuration word `cfg` (R335, R360): its bits in ID, FLAGS and EXT that
its format does not use are 0. -/
def canRecordOk (cfg : Nat) (f : NetFrame) : Bool :=
  let idOk := if f.xlf then decide (f.id < 2 ^ 28) && !f.ide else decide (f.id < (if f.ide then 2 ^ 29 else 2 ^ 11))
  idOk && f.lenOk && decide (f.flags < 64) && (f.xlf || f.ext == 0) && !(f.rtr && (f.fdf || f.xlf)) &&
  (!f.fdf || bit cfg 3) && (!f.xlf || bit cfg 4)

/-- CAN_TX (R333, R349, R360). -/
def canTx (d : Desc) (b : Block) : Block :=
  let n := bits (d.dw 5) 4 0
  let cfg := if b.nOn n then (b.nch n).word 0 else b.rd R.CAN_CFG n
  let rs := recordsOf 4096 (d.payload.take d.len)
  let ok := d.ok 0x70 16 65536 [0x1F, 0, 0, 3] && isCan n && (match rs with
    | none => false
    | some l => !l.isEmpty && l.all fun r => r.2 == n && canRecordOk cfg r.1)
  b.runDeferred d ok fun b =>
    let st := b.nstate n
    if st == 0 then b.complete d (.of St.disabled)
    else if st == 5 then b.complete d (.of St.refused)
    else
      let b := b.wake n 4
      let fs := (rs.getD []).map Prod.fst
      let j : TxJob := { num := b.net.num, desc := d, prio := bit (d.dw 8) 1, echo := bit (d.dw 8) 0, total := fs.length, rest := fs }
      let b := { b with net := { b.net with num := b.net.num + 1 } }
      (b.updNet n fun c => { c with jobs := c.jobs ++ [j] }).txFill n

/-- The first item of least rank. -/
def leastItem : List TxItem → Option TxItem
  | [] => none
  | x :: xs => match leastItem xs with
    | none => some x
    | some y => if x.frame.rank ≤ y.frame.rank then some x else some y

/-- A gateway frame whose transmission starts at a timebase count is older than its MAXAGE: 160,000 ticks are 1 ms (R374). -/
def lateBy (age time start : Nat) : Bool := !(age == 0) && decide (age * 160000 < start - time)
def tooOld (t : TxItem) (start : Nat) : Bool := lateBy t.age t.time start

/-- The queue and frame that win arbitration: 0 = FIFO, 1 = priority, 2 = gateway (R333, R374). `tie`: the priority
queue goes before the FIFO at equal identifiers, which the spec leaves open. -/
def txPick (c : NetCh) (tie : Bool) : Option (Nat × TxItem) :=
  let own := match c.fifo.head?, leastItem c.prio with
    | none, none => none
    | some x, none => some (0, x)
    | none, some y => some (1, y)
    | some x, some y => if x.frame.rank < y.frame.rank ∨ (x.frame.rank = y.frame.rank ∧ !tie) then some (0, x) else some (1, y)
  match own, leastItem c.gw with
  | o, none => o
  | none, some g => some (2, g)
  | some o, some g => if g.frame.rank ≤ o.2.frame.rank then some (2, g) else some o

/-- An item leaves its queue. -/
def txRemove (ch q : Nat) (t : TxItem) (b : Block) : Block :=
  b.updNet ch fun c => if q = 0 then { c with fifo := c.fifo.erase t } else if q = 1 then { c with prio := c.prio.erase t } else { c with gw := c.gw.erase t }

/-- A set bit of GW_STAT with EV223 (R375). -/
def gwStick (f : RegField) (b : Block) : Block := b.stick f 0 223

/-- A dropped frame counts at its egress (R375). -/
def gwDrop (ch : Nat) (b : Block) : Block := b.satF F.GW_POUT_DROP ch 1

/-- A frame of the gateway queue that is too old as its transmission starts (R374). -/
def gwAged (ch : Nat) (t : TxItem) (b : Block) : Block := ((b.txRemove ch 2 t).gwDrop ch).gwStick F.GW_STAT_AGEDROP

/-- The frame that goes to arbitration at a timebase count; gateway frames that are too old as their turn comes are
dropped before it (R333, R374). -/
def txStart (ch : Nat) (tie : Bool) (start : Nat) : Nat → Block → Block × Option (Nat × TxItem)
  | 0, b => (b, none)
  | k + 1, b => match txPick (b.nch ch) tie with
    | some (q, t) => if q = 2 ∧ tooOld t start = true then txStart ch tie start k (b.gwAged ch t) else (b, some (q, t))
    | none => (b, none)

/-- CAN_FRAME_SENT (R333, R374): the frame that won arbitration has been acknowledged. The answer names it, and whether
it came from the gateway. A listen-only channel sends nothing (R331). -/
def canSent (n : Nat) (e : CanEnd) (b : Block) : Block × Option (NetFrame × Bool) :=
  if !(b.nstate n == 1 || b.nstate n == 3) || bits ((b.nch n).word 0) 2 1 == 1 then (b, none)
  else
    let s := b.txStart n e.tie (b.pw.tbase - e.ticks) ((b.nch n).gw.length + 1)
    let b := s.1
    let c := b.nch n
    match s.2 with
    | none => (b.tryArm n e.quiet, none)
    | some (q, t) =>
      let b := b.txRemove n q t
      let b := if bits (c.word 0) 2 1 = 2 then b else b.send (.net n t.frame)
      let tec := b.getF F.CAN_ERR_TEC n
      let b := b.setF F.CAN_ERR_TEC n (tec - 1)
      let b := b.updNet n fun c => { c with last := some (t.frame.ident + b2n t.frame.ide * 2 ^ 29), idle := false }
      let b :=
        if q = 2 then b.wrapF F.GW_POUT_OUT n 1
        else
          let b := b.updNet n fun c => { c with jobs := c.jobs.map fun j => if j.num == t.job then { j with sent := j.sent + 1 } else j }
          let b := if t.echo then b.recordTo n (recordBytes n 128 b.pw.tbase t.frame) else b
          (b.txFill n).txFinish n t.job St.timeout
      (b.tryArm n e.quiet, some (t.frame, q == 2))

/-- CAN_TX_TIMEOUT (R333, R374): the oldest frame of queue q (0 = FIFO, 1 = priority, 2 = gateway) has not been
acknowledged within TXTO. -/
def canTxTimeout (n q : Nat) (b : Block) : Block :=
  let c := b.nch n
  let l := if q = 0 then c.fifo else if q = 1 then c.prio else c.gw
  match l with
  | [] => b
  | t :: _ =>
    if q = 2 then (((b.txRemove n 2 t).gwDrop n).xstick F.CAN_STAT_TXFAIL n).tryArm n false
    else
      let keep (x : TxItem) : Bool := !(x.job == t.job) || decide (x.idx < t.idx)
      let b := b.updNet n fun c =>
        { c with fifo := c.fifo.filter keep, prio := c.prio.filter keep, jobs := c.jobs.map fun j =>
            if j.num == t.job then { j with rest := [], fail := some (min t.idx (j.fail.getD t.idx)) } else j }
      (((b.xstick F.CAN_STAT_TXFAIL n).txFill n).txFinish n t.job St.timeout).tryArm n false

/-! ### Enable and errors (R330–R332, R337, R341, R345) -/

/-- Values of CAN_NBT and CAN_DBT lie in R330; XLEN and FAST only on CAN0–CAN3 (R331). -/
def canCfgOk (b : Block) (n : Nat) : Bool :=
  let rate (brp t1 t2 : Nat) : Nat := 80000000 / (brp * (1 + t1 + t2))
  let brp := b.getF F.CAN_NBT_BRP n
  let t1 := b.getF F.CAN_NBT_TSEG1 n
  let t2 := b.getF F.CAN_NBT_TSEG2 n
  let sjw := b.getF F.CAN_NBT_SJW n
  let dbrp := if b.getF F.CAN_DBT_BRP n = 0 then 32 else b.getF F.CAN_DBT_BRP n
  let d1 := b.getF F.CAN_DBT_TSEG1 n
  let d2 := b.getF F.CAN_DBT_TSEG2 n
  let ds := b.getF F.CAN_DBT_SJW n
  let xl := b.flag F.CAN_CFG_XLEN n
  let fast := b.flag F.CAN_CFG_FAST n
  let nom := decide (1 ≤ brp ∧ brp ≤ 32 ∧ 2 ≤ t1 ∧ t1 ≤ 256 ∧ 1 ≤ t2 ∧ t2 ≤ 128 ∧ 1 ≤ sjw ∧ sjw ≤ t2 ∧ 10000 ≤ rate brp t1 t2 ∧ rate brp t1 t2 ≤ 1000000)
  let dat := decide (1 ≤ d1 ∧ d1 ≤ 32 ∧ 1 ≤ d2 ∧ d2 ≤ 16 ∧ 1 ≤ ds ∧ ds ≤ d2 ∧ rate dbrp d1 d2 ≤ (if xl && fast then 10000000 else 8000000))
  nom && dat && (decide (n < 4) || (!xl && !fast))

/-- The configuration words that take effect at an enable (R331). -/
def canWords (b : Block) (n : Nat) : List Nat :=
  [b.rd R.CAN_CFG n, b.rd R.CAN_NBT n, b.rd R.CAN_DBT n, b.rd R.CAN_SLP n, b.rd R.CAN_WUFID n, b.rd R.CAN_WUFMSK n, b.rd R.CAN_WUFCTL n,
    b.rd R.CAN_WUFDATA (2 * n), b.rd R.CAN_WUFDATA (2 * n + 1)]

/-- CAN_ENABLE (R331): AWAKE, or LISTEN with MODE = 1. -/
def canEnable (n : Nat) (b : Block) : Block :=
  if b.nOn n then b
  else if !b.canCfgOk n then b.xstick F.CAN_STAT_CFGERR n
  else
    let st := if b.getF F.CAN_CFG_MODE n = 1 then 2 else 1
    let b := ((b.nset N.en n 1).nset N.state n st).nset N.wakesrc n 0
    let b := b.wr R.CAN_ERR n (putBits (b.rd R.CAN_ERR n) 18 0 0)
    let b := { b with net := { b.net with kept := Tab.put b.net.kept n {} } }
    let ws := b.canWords n
    b.updNet n fun c => { cfg := ws, prev := st, resp := c.resp }

/-- LIN_ENABLE (R331, R358): BAUD from 1,000 to 20,000. -/
def linEnable (n : Nat) (b : Block) : Block :=
  let ch := 16 + n
  let baud := b.getF F.LIN_CFG_BAUD n
  if b.nOn ch then b
  else if baud < 1000 ∨ 20000 < baud then b.xstick F.LIN_STAT_CFGERR ch
  else
    let b := ((b.nset N.en ch 1).nset N.state ch 1).nset N.wakesrc ch 0
    let b := { b with net := { b.net with kept := Tab.put b.net.kept ch {} } }
    let ws := [b.rd R.LIN_CFG n, b.rd R.LIN_SLP n]
    b.updNet ch fun c => { cfg := ws, resp := c.resp, table := c.table }

/-- A result of the bus or cable test: each new non-zero value sets its sticky bit (R337, R340, R345). -/
def netDiag (ch v : Nat) (b : Block) : Block :=
  let was := b.nget N.diag ch
  let b := b.nset N.diag ch v
  if v = 0 ∨ v = was then b else b.nstick N.diagf ch

/-- BUS_DIAG_MEASURE (R337, R340). -/
def busDiag (ch v : Nat) (b : Block) : Block :=
  if !b.nOn ch || (isLin ch && decide (3 < v)) then b else b.netDiag ch v

/-- ETH_PORT_ENABLE (R341, R345): the cable is tested; on port 4 only the host records start (R343). -/
def ethEnable (p cab : Nat) (b : Block) : Block :=
  if p = 4 then b.setF F.ETH_PCFG_EN 4 1
  else
    let ch := 24 + p
    if b.nOn ch then b
    else
      let b := ((b.nset N.en ch 1).nset N.state ch 1).nset N.wakesrc ch 0
      let b := { b with net := { b.net with kept := Tab.put b.net.kept ch {} } }
      (b.updNet ch fun _ => {}).netDiag ch cab

/-- ETH_PORT_DISABLE (R344). On port 4 the host records end and its buffers complete (R336). -/
def ethPortOff (p : Nat) (b : Block) : Block :=
  if p < 4 then b.netDisable (24 + p)
  else (b.rxFinishAll 28 St.disabled).setF F.ETH_PCFG_EN 4 0 |> fun b => b.updNet 28 fun c => { c with recs := [], lost := false }

/-- CAN_BUS_ERROR (R332): the error counters of ISO 11898-1 move by 1 or 8, but for an acknowledge error of an error-passive
transmitter; EPASS on entry to error passive, BUSOFF when the transmit counter passes 255, also from SLEEPREQ (log 178). -/
def canError (n : Nat) (tx eight : Bool) (lec : Nat) (b : Block) : Block :=
  let st := b.nstate n
  if st == 0 || st == 4 || st == 5 then b
  else
    let tec := b.getF F.CAN_ERR_TEC n
    let rec_ := b.getF F.CAN_ERR_REC n
    let tec' := if tx && !(lec == 3 && decide (127 < tec)) then tec + 8 else tec
    let rec' := if tx then rec_ else rec_ + (if eight then 8 else 1)
    let passive (t r : Nat) : Bool := decide (127 < t) || decide (127 < r)
    let b := ((b.setF F.CAN_ERR_TEC n (min 255 tec')).setF F.CAN_ERR_REC n (min 255 rec')).setF F.CAN_ERR_LEC n lec
    let b := if passive tec' rec' && !passive tec rec_ then b.xstick F.CAN_STAT_EPASS n else b
    if 255 < tec' && (st == 1 || st == 3) then
      let b := (b.nset N.state n 5).updNet n fun c => { c with recov := bit (c.word 0) 6, armed := false, enforce := false, idle := false }
      b.xstick F.CAN_STAT_BUSOFFX n
    else b

/-- BUS_OFF_RECOVERY_DONE (R332): 128 sequences of 11 recessive bits; the counters start at 0. -/
def busOffDone (n : Nat) (b : Block) : Block :=
  if b.nstate n == 5 && (b.nch n).recov then
    ((b.nset N.state n 1).wr R.CAN_ERR n (putBits (b.rd R.CAN_ERR n) 15 0 0)).updNet n fun c => { c with recov := false }
  else b

/-! ### Sleep and wake (R346–R352) -/

/-- A channel enters SLEEPREQ; a bus-off recovery is abandoned. -/
def enterSleepReq (ch : Nat) (b : Block) : Block :=
  let st := b.nstate ch
  let b := (b.nset N.state ch 3).updNet ch fun c =>
    { c with prev := if st = 2 then 2 else 1, armed := false, enforce := false, idle := false, ack := false, recov := false }
  if st == 5 then b.wr R.CAN_ERR ch (putBits (b.rd R.CAN_ERR ch) 15 0 0) else b

/-- LIN: ROLE and AUTOSLP in force. -/
def linResponder (b : Block) (ch : Nat) : Bool := bit ((b.nch ch).word 0) 1
def autoSleep (b : Block) (ch : Nat) : Bool := b.linResponder ch && bit ((b.nch ch).word 0) 3

/-- A channel that NET_SLEEP reaches: a LIN commander sends the go-to-sleep command, which is its commit condition (R347). -/
def sleepBegin (ch : Nat) (b : Block) : Block :=
  let b := b.enterSleepReq ch
  if isLin ch && !b.linResponder ch then
    (b.send (.net ch { id := 0x3C, data := 0 :: List.replicate 7 0xFF })).updNet ch fun c => { c with idle := true, armed := true, slot := none }
  else if isT1 ch then b.send (.tc10 (ch - 24) 0)
  else b

/-- AUTOSLP of a LIN responder acts: SLEEPREQ, and its commit condition holds (R346, R347). -/
def linAutoSleep (ch : Nat) (b : Block) : Block :=
  if (b.nstate ch == 1 || b.nstate ch == 3) && b.autoSleep ch then
    ((if b.nstate ch == 1 then b.enterSleepReq ch else b).updNet ch fun c => { c with idle := true }).tryArm ch true
  else b

/-- LIN_GOTO_SLEEP, for a responder with AUTOSLP (R346). -/
def linGotoSleep (n : Nat) (b : Block) : Block := b.linAutoSleep (16 + n)

/-- LIN_HEADER_SILENCE (R340, R346): 4 s without a header at a responder. -/
def linSilence (n : Nat) (b : Block) : Block :=
  let ch := 16 + n
  if (b.nstate ch == 1 || b.nstate ch == 3) && b.linResponder ch then (b.netDiag ch 3).linAutoSleep ch else b

/-- Traffic is back on a LIN channel whose BUSDIAG said that there was none (R340). -/
def linHeard (ch : Nat) (b : Block) : Block := if b.nget N.diag ch == 3 then b.nset N.diag ch 0 else b

/-- TC10_SLEEP_REQUEST (R329, R346): with TC10ACC the port acknowledges and goes to SLEEPREQ; without, it rejects. -/
def tc10Request (p : Nat) (b : Block) : Block :=
  let ch := 24 + p
  if !(b.nstate ch == 1 || b.nstate ch == 3) then b
  else if !b.flag F.ETH_PCFG_TC10ACC p then b.send (.tc10 p 2)
  else
    ((((if b.nstate ch == 1 then b.enterSleepReq ch else b).send (.tc10 p 1)).updNet ch fun c => { c with ack := true })).tryArm ch true

/-- TC10_SLEEP_ACK (R347). -/
def tc10Ack (p : Nat) (b : Block) : Block :=
  if b.nstate (24 + p) == 3 then (b.updNet (24 + p) fun c => { c with ack := true }).tryArm (24 + p) true else b

/-- TC10_SLEEP_REJECT (R359). -/
def tc10Reject (p : Nat) (b : Block) : Block :=
  if b.nstate (24 + p) == 3 then b.xstick F.ETH_PSTAT_SLPREJ (24 + p) else b

/-- IDLE_TIMEOUT (R347, R348). -/
def idleTimeout (ch : Nat) (quiet : Bool) (b : Block) : Block :=
  if b.nstate ch == 3 then (b.updNet ch fun c => { c with idle := true }).tryArm ch quiet else b

/-- The detector that a channel has while it is asleep: 0 = none (R347). -/
def detector (b : Block) (ch : Nat) : Nat := if isCan ch then (b.nch ch).wkmode else if ch = 26 ∨ ch = 27 then 0 else 1

/-- The configuration words of a channel's detector (R351). -/
def detWords (b : Block) (ch : Nat) : List Nat := if isEth ch then [b.rd R.ETH_SLP (ch - 24)] else (b.nch ch).cfg

/-- What PD0 keeps of a channel changes (R351, R353). -/
def keep (ch : Nat) (f : NetKept → NetKept) (b : Block) : Block :=
  { b with net := { b.net with kept := Tab.put b.net.kept ch (f (Tab.get {} b.net.kept ch)) } }

/-- The transceiver or PHY of a channel is asleep with its detector armed, the frame error counter at 0 (R348, R351). -/
def keepAsleep (ch : Nat) (b : Block) : Block :=
  let m := b.detector ch
  let ws := b.detWords ch
  b.keep ch fun k => { k with mode := m, asleep := true, cfg := ws, errs := 0 }

/-- SLEEP_COMMIT (R348): the command reaches the transceiver or PHY. It follows the arming within 20 µs, so that a channel
whose commit conditions hold has been armed at an idle bus. -/
def sleepCommit (ch : Nat) (b : Block) : Block :=
  if b.nstate ch == 3 && ((b.nch ch).armed || b.mayCommit ch) then
    let b := (b.nset N.state ch 4).updNet ch fun c => { c with armed := false, enforce := false }
    let b := b.keepAsleep ch
    let b := if isEth ch then b.setF F.ETH_PSTAT_LINK (ch - 24) 0 else b
    b.nstick N.slept ch
  else b

/-- Nodes of the chain at this moment; 1 outside a chain (R352). -/
def chainNodes (b : Block) : Nat := if b.flag F.SYS_NODE_VALID 0 then b.getF F.CHN_STAT_NCOUNT 0 else 1

/-- Load the KEEP record of a channel (R352). -/
def keepRecord (ch : Nat) (b : Block) : Block :=
  match (b.nch ch).last with
  | none => b
  | some v =>
    if isCan ch then b.wr R.CAN_KEEP ch (v % 2 ^ 30 + 2 ^ 31)
    else if isLin ch then b.wr R.LIN_KEEP (ch - 16) (v % 256 + 2 ^ 31)
    else (b.wr R.ETH_KEEP0 (ch - 24) (v % 2 ^ 32)).wr R.ETH_KEEP1 (ch - 24) (v / 2 ^ 32 % 65536 + 2 ^ 31)

/-- KAPOL in force. -/
def kapol (b : Block) (ch : Nat) : Nat :=
  bits (if isCan ch then (b.nch ch).word 3 else if isLin ch then (b.nch ch).word 1 else b.rd R.ETH_SLP (ch - 24)) 23 22

/-- AWAKEMAX_EXPIRY (R352): the event repeats at every further AWAKEMAX. -/
def awakeMax (ch : Nat) (quiet : Bool) (b : Block) : Block :=
  if !(b.nstate ch == 3) then b
  else
    let k := b.kapol ch
    let b := b.nset N.keepx ch 1
    let b := if k = 3 then b else b.keepRecord ch
    let enforce := (k == 1 || (k == 0 && decide (b.chainNodes ≤ 16))) && !(isLin ch && b.linResponder ch)
    let b := if enforce then (b.updNet ch fun c => { c with enforce := true }).tryArm ch quiet else b
    b.raiseOpen (evNet ch)

/-- The detector of a channel judges a pattern (R350, R351): the frame error counter moves, and the answer is the cause of
a wake, 0 = none. -/
def detect (ch : Nat) (seen : NetSeen) (b : Block) : Block × Nat :=
  let k : NetKept := Tab.get {} b.net.kept ch
  let m := if k.asleep then k.mode else b.detector ch
  let ws := if k.asleep then k.cfg else b.detWords ch
  match seen with
  | .frame f =>
    if !(isCan ch && m == 2 && atRate ws) || f.fdf || f.xlf then (b, 0)
    else if wufMeets ws f then (b, 2) else (b.keep ch fun k => { k with errs := k.errs - 1 }, 0)
  | .badFrame =>
    if !(isCan ch && m == 2) then (b, 0) else (b.keep ch fun k => { k with errs := k.errs + 1 }, if 31 ≤ k.errs then 3 else 0)
  | _ => (b, if m == 1 && filterMeets ch ws seen then 1 else 0)

/-- WAKE_DETECTION (R349, R350, R351): what the detector of a channel sees acts once it is armed. -/
def wakeDetect (ch : Nat) (seen : NetSeen) (b : Block) : Block :=
  if !(b.nstate ch == 4 || (b.nch ch).armed) then b
  else
    let s := b.detect ch seen
    if s.2 = 0 then s.1 else s.1.wake ch s.2

/-! ### Descriptors over channel masks (R360, R361) -/

/-- Channels of a mask. -/
def chMask (w top : Nat) : List Nat := (List.range top).filter fun ch => bit w ch && (isCan ch || isLin ch || isEth ch)

/-- A mask names existing channels below `top` only, and at least one. -/
def chMaskOk (w top : Nat) : Bool := decide (w < 2 ^ top) && !(w == 0) && (List.range top).all fun ch => !bit w ch || isCan ch || isLin ch || isEth ch

/-- Apply a change to the channels that take it, and the completion of R361. Channels that are disabled decide the
status where none took it. -/
def netParts (sel : List Nat) (no : Nat → Bool) (k : Nat → Block → Block) (b : Block) : Block × Compl :=
  let hit := sel.filter fun c => !no c
  let miss := sel.filter no
  let none := if miss.all fun c => !b.nOn c then St.disabled else St.refused
  (hit.foldl (fun b c => k c b) b,
    { status := partStatus hit.length miss.length none, cw2 := hit.length + miss.length * 256, cw3 := miss.foldl (fun m c => m ||| 2 ^ c) 0 })

/-- NET_SLEEP. -/
def netSleep (d : Desc) (b : Block) : Block × Compl :=
  if !(d.ok 0x72 0 0 [0xFFFFFFF]) || !chMaskOk (d.dw 5) 28 then (b, .of St.badDesc)
  else
    let (b, c) := b.netParts (chMask (d.dw 5) 28) (fun ch => !b.nOn ch || b.nstate ch == 3 || b.nstate ch == 4) sleepBegin
    (b, c)

/-- NET_WAKE. -/
def netWake (d : Desc) (b : Block) : Block × Compl :=
  if !(d.ok 0x73 0 0 [0xFFFFFFF]) || !chMaskOk (d.dw 5) 28 then (b, .of St.badDesc)
  else b.netParts (chMask (d.dw 5) 28) (fun ch => !(b.nstate ch == 3 || b.nstate ch == 4)) fun ch b => b.wake ch 4

/-- Sticky bits of a channel. -/
def netSticky (ch : Nat) (b : Block) : Block :=
  let m (w : Nat) : Nat := putBits w 24 16 0
  if isCan ch then b.wr R.CAN_STAT ch (m (b.rd R.CAN_STAT ch))
  else if isLin ch then b.wr R.LIN_STAT (ch - 16) (m (b.rd R.LIN_STAT (ch - 16)))
  else b.wr R.ETH_PSTAT (ch - 24) (m (b.rd R.ETH_PSTAT (ch - 24)))

/-- KEEP record of a channel cleared. -/
def keepClear (ch : Nat) (b : Block) : Block :=
  if isCan ch then b.wr R.CAN_KEEP ch 0 else if isLin ch then b.wr R.LIN_KEEP (ch - 16) 0
  else (b.wr R.ETH_KEEP0 (ch - 24) 0).wr R.ETH_KEEP1 (ch - 24) 0

/-- NET_CLEAR. -/
def netClear (d : Desc) (b : Block) : Block × Compl :=
  let f := d.dw 8
  if !(d.ok 0x78 0 0 [0x1FFFFFFF, 0, 0, 7]) || !chMaskOk (d.dw 5) 29 then (b, .of St.badDesc)
  else b.netParts (chMask (d.dw 5) 29) (fun ch => !b.nOn ch) fun ch b =>
    let b := if bit f 0 then b.netSticky ch else b
    let b := if bit f 1 && b.nstate ch == 5 then b.updNet ch fun c => { c with recov := true } else b
    if bit f 2 then b.keepClear ch else b

/-- NET_READ. -/
def netRead (d : Desc) (b : Block) : Block × Compl :=
  if !(d.ok 0x77 400 65536 []) then (b, .of St.badDesc)
  else
    let w (r : Reg) (n : Nat) : List Byte := leBytes 4 (b.rd r n)
    let z (n : Nat) : List Byte := List.replicate n 0
    let can := (List.range 12).flatMap fun n => w R.CAN_STAT n ++ w R.CAN_ERR n ++ w R.CAN_KEEP n ++ z 4
    let lin := (List.range 8).flatMap fun n => w R.LIN_STAT n ++ w R.LIN_KEEP n ++ z 8
    let eth := (List.range 5).flatMap fun p => w R.ETH_PSTAT p ++ w R.ETH_CNT p ++ w R.ETH_KEEP0 p ++ w R.ETH_KEEP1 p
    (b, { status := St.ok, cw2 := 400, data := can ++ lin ++ eth })

/-! ### LIN (R338, R339) -/

/-- Protected identifier: the two parity bits over the ID. -/
def linPid (id : Nat) : Nat :=
  let x (i : Nat) : Nat := b2n (bit id i)
  id % 64 + (x 0 + x 1 + x 2 + x 4) % 2 * 64 + (1 + x 1 + x 3 + x 4 + x 5) % 2 * 128

/-- LIN checksum: inverted sum with carry, over the PID too when enhanced; IDs 60–63 always classic (R339). -/
def linSum (id : Nat) (enh : Bool) (data : List Byte) : Nat :=
  let s := data.foldl (fun s x => let t := s + x.toNat; if 255 < t then t - 255 else t) (if enh && decide (id < 60) then linPid id else 0)
  255 - s

/-- EXT of a LIN record. -/
def linExt (id : Nat) (enh : Bool) (data : List Byte) : Nat :=
  linPid id + linSum id enh data * 256 + b2n (enh && decide (id < 60)) * 65536

/-- LIN_SCHED (R338, R360): CW2 gives the first entry whose slot is too short. -/
def linSched (d : Desc) (b : Block) : Block × Compl :=
  let ch := bits (d.dw 5) 4 0
  let raw := pieces 4 64 (d.payload.take d.len)
  let es := raw.map fun e =>
    let v := ofLe e
    { id := v % 64, ms := bits v 15 8, dir := bit v 16, cks := bit v 17, len := bits v 31 24 : LinSlot }
  let okRaw := raw.all fun e => let v := ofLe e; bits v 7 6 == 0 && bits v 23 18 == 0 && decide (1 ≤ bits v 15 8) && decide (1 ≤ bits v 31 24) && decide (bits v 31 24 ≤ 8)
  let baud := if b.nOn ch then bits ((b.nch ch).word 0) 19 5 else b.getF F.LIN_CFG_BAUD (ch - 16)
  let short (e : LinSlot) : Bool := decide (e.ms * baud * 10 < 14 * (34 + 10 * (e.len + 1)) * 1000)
  if !(d.ok 0x74 0 256 [0x1F]) || !isLin ch || !(d.len % 4 == 0) || !okRaw then (b, .of St.badDesc)
  else match es.zipIdx.find? fun e => short e.1 with
    | some e => (b, { status := St.badDesc, cw2 := e.2 })
    | none => b.netParts [ch] (fun ch => !b.nOn ch || b.linResponder ch) fun ch b =>
        b.updNet ch fun c => if c.table.isEmpty then { c with table := es, pos := 0, newTab := none, slot := none, heard := false } else { c with newTab := some es }

/-- LIN_RESP (R360). -/
def linRespond (d : Desc) (b : Block) : Block × Compl :=
  let ch := bits (d.dw 5) 4 0
  let es := pieces 12 64 (d.payload.take d.len)
  let byte (e : List Byte) (i : Nat) : Nat := ofLe ((e.drop i).take 1)
  let good (e : List Byte) : Bool :=
    !bit (byte e 0) 6 && byte e 3 == 0 && decide (byte e 2 < 2) && decide (1 ≤ byte e 1) && decide (byte e 1 ≤ 8)
  if !(d.ok 0x75 12 768 [0x1F]) || !isLin ch || !(d.len % 12 == 0) || !es.all good then (b, .of St.badDesc)
  else b.netParts [ch] (fun ch => !b.nOn ch) fun ch b =>
    es.foldl (fun b e => b.updNet ch fun c =>
      let id := byte e 0 % 64
      if bit (byte e 0) 7 then { c with resp := Tab.drop c.resp fun k => k == id }
      else { c with resp := Tab.put c.resp id { cks := bit (byte e 2) 0, data := (e.drop 4).take (byte e 1) } }) b

/-- A response entry of channel ch. -/
def linEntry (b : Block) (ch id : Nat) : Option LinResp := ((b.nch ch).resp.find? fun e => e.1 == id).map Prod.snd

/-- The module sends the response of an ID. -/
def linSend (ch id : Nat) (r : LinResp) (b : Block) : Block := b.send (.net ch { id := id, data := r.data, ext := linExt id r.cks r.data })

/-- The cycle of a schedule has ended (R338): three cycles without a response give BUSDIAG 3; a new table takes over. -/
def linCycle (ch : Nat) (b : Block) : Block :=
  let c := b.nch ch
  let q := if c.heard || !(c.table.any fun e => !e.dir) then 0 else c.quiet + 1
  let b := b.updNet ch fun c => { c with pos := 0, heard := false, quiet := q, table := c.newTab.getD c.table, newTab := none }
  if 3 ≤ q then b.netDiag ch 3 else b

/-- LIN_SLOT (R338): the response of the slot before is checked, and the header of the next entry sent. While HC13 is in
reset the schedule stands still (R355). -/
def linSlot (n : Nat) (b : Block) : Block :=
  let ch := 16 + n
  if !(b.nstate ch == 1) || b.linResponder ch || !b.coreRuns 13 then b
  else
    let b := match (b.nch ch).slot with
      | none => b
      | some _ => b.xstick F.LIN_STAT_NORESP ch
    let b := b.updNet ch fun c => { c with slot := none }
    let b := if (b.nch ch).table.isEmpty || (b.nch ch).table.length ≤ (b.nch ch).pos then b.linCycle ch else b
    match (b.nch ch).table[(b.nch ch).pos]? with
    | none => b
    | some e =>
      let b := b.updNet ch fun c => { c with pos := c.pos + 1 }
      let b := b.send (.linHeader ch (linPid e.id))
      if e.dir then
        match b.linEntry ch e.id with
        | some r => b.linSend ch e.id { r with cks := e.cks }
        | none => b
      else b.updNet ch fun c => { c with slot := some e }

/-- LIN_HEADER_RECEIVED (R339, R347): a sync field outside ±14 % of BAUD sets SYNCERR. `dev`: deviation in 0.1 %. -/
def linHeader (n id dev : Nat) (b : Block) : Block :=
  let ch := 16 + n
  let st := b.nstate ch
  if !(st == 1 || st == 3) || !b.linResponder ch then b
  else if 140 < dev then b.xstick F.LIN_STAT_SYNCERR ch
  else
    let b := (b.updNet ch fun c => { c with last := some (linPid id), idle := false, header := none }).linHeard ch
    match b.linEntry ch id with
    | some r => b.linSend ch id r
    | none => b.updNet ch fun c => { c with header := some id }

/-! ### The switch (R342, R343) -/

/-- A 48-bit address at byte a of a frame, its first byte most significant. -/
def macAt (data : List Byte) (a : Nat) : Nat := ((data.drop a).take 6).foldl (fun m x => m * 256 + x.toNat) 0

/-- The module's own address, a group address, the broadcast address. -/
def ownMac (b : Block) : Nat := b.rd R.ETH_MAC0 0 + b.rd R.ETH_MAC1 0 % 65536 * 2 ^ 32
def isGroup (m : Nat) : Bool := m / 2 ^ 40 % 2 == 1
def isBroadcast (m : Nat) : Bool := m == 2 ^ 48 - 1

/-- A 16-bit number at byte a, most significant byte first. -/
def be16 (data : List Byte) (a : Nat) : Nat := ((data.drop a).take 2).foldl (fun m x => m * 256 + x.toNat) 0

/-- The VLAN tag of a frame: TCI, and the frame without it. -/
def untag (data : List Byte) : Option Nat × List Byte :=
  if be16 data 12 = 0x8100 then (some (be16 data 14), data.take 12 ++ data.drop 16) else (none, data)

/-- The frame with a tag. -/
def retag (tci : Nat) (data : List Byte) : List Byte :=
  data.take 12 ++ [0x81, 0, BitVec.ofNat 8 (tci / 256), BitVec.ofNat 8 tci] ++ data.drop 12

/-- A port that takes frames: AWAKE with its link up (R343). -/
def ethUp (b : Block) (p : Nat) : Bool := b.nstate (24 + p) == 1 && b.flag F.ETH_PSTAT_LINK p

/-- The frames of a port's egress queues leave, the highest queue first (R342). -/
def portSend (p : Nat) (b : Block) : Block :=
  let q := (b.nch (24 + p)).egress
  let out := [3, 2, 1, 0].flatMap fun k => q.filter fun f => f.1 == k
  out.foldl (fun b f => b.send (.eth p f.2)) (b.updNet (24 + p) fun c => { c with egress := [] })

/-- A frame goes to egress port p, unless the port takes none (R343): into one of its 4 queues by PCP (R342, log 179). A
PLCA follower without beacons holds its queues (R341). -/
def ethOut (p pcp : Nat) (data : List Byte) (b : Block) : Block :=
  let ch := 24 + p
  if !b.ethUp p then b.satF F.ETH_CNT_DROP p 1
  else
    let b := b.updNet ch fun c => { c with last := some (macAt data 6), idle := false, egress := c.egress ++ [(pcp / 2, data)] }
    if (b.nch ch).noBeacon then b else b.portSend p

/-- A frame that the switch drops as it enters counts at its port; DROP of port 4 counts lost records only (R342, R359). -/
def ethDrop (p : Nat) (b : Block) : Block := if p = 4 then b else b.satF F.ETH_CNT_DROP p 1

/-- VLAN of a frame: its tag's, or that of ETH_VLAN[0]; and its enabled entry (R342). -/
def vlanOf (b : Block) (data : List Byte) : Nat × Option Nat :=
  let vid0 := ((untag data).1.getD 0) % 4096
  let vid := if vid0 = 0 then b.getF F.ETH_VLAN_VID 0 else vid0
  (vid, (List.range 64).find? fun i => b.flag F.ETH_VLAN_EN i && b.getF F.ETH_VLAN_VID i == vid)

/-- A frame from port p in VLAN entry i leaves at port q (R342, R343). -/
def goesTo (b : Block) (p i : Nat) (data : List Byte) (q : Nat) : Bool :=
  let dst := macAt data 0
  bit (b.getF F.ETH_VLAN_MEMBER i) q && !(q == p) &&
  (if isGroup dst then true else if dst == b.ownMac then q == 4
   else match (b.net.mac.find? fun m => m.1 == dst).map Prod.snd with
    | some k => k == q
    | none => !(q == 4))

/-- The switch forwards a frame from port p (R342). The answer is the frame as delivered to port 4, if it is. -/
def switchFrame (p : Nat) (data : List Byte) (b : Block) : Block × Option (List Byte) :=
  if 1522 < data.length + 4 then (b.ethDrop p, none)
  else
    let (tci, bare) := untag data
    let src := macAt data 6
    let b := if isGroup src then b
      else if b.net.mac.any (fun m => m.1 == src) then { b with net := { b.net with mac := b.net.mac.map fun m => if m.1 == src then (src, p) else m } }
      else if b.net.mac.length < 2048 then { b with net := { b.net with mac := (src, p) :: b.net.mac } } else b
    let (vid, entry) := b.vlanOf data
    match entry with
    | none => (b.ethDrop p, none)
    | some i =>
      let unt := b.getF F.ETH_VLAN_UNTAG i
      let out (q : Nat) : List Byte := if bit unt q then bare else retag ((tci.getD 0) / 4096 * 4096 + vid) bare
      let goes (q : Nat) : Bool := b.goesTo p i data q
      let b := forN 4 (fun q b => if goes q then b.ethOut q (tci.getD 0 / 8192) (out q) else b) b
      if goes 4 then (b.wrapF F.ETH_CNT_RXFR 4 1, some (out 4)) else (b, none)

/-- A frame delivered to port 4 as a record of CH 28, with the time at which it began (R335, R343). -/
def port4Record (data : List Byte) (time : Nat) (b : Block) : Block :=
  let dst := macAt data 0
  if b.flag F.ETH_PCFG_EN 4 && (dst == b.ownMac || isBroadcast dst || (isGroup dst && b.flag F.ETH_SWCFG_MCEN 0)) then
    b.recordTo 28 (recordBytes 28 0 time { data := data })
  else b

/-- ETH_TX (R343, R360): every record enters the switch at port 4. -/
def ethTx (d : Desc) (b : Block) : Block × Compl :=
  match recordsOf 4096 (d.payload.take d.len) with
  | none => (b, .of St.badDesc)
  | some rs =>
    let good (r : NetFrame × Nat) : Bool :=
      r.2 == 28 && r.1.id == 0 && r.1.flags == 0 && r.1.ext == 0 && decide (14 ≤ r.1.data.length) && decide (r.1.data.length ≤ 1518)
    if !(d.ok 0x76 32 65536 []) || !rs.all good then (b, .of St.badDesc)
    else if !b.pg 7 then (b, .of St.disabled)
    else (rs.foldl (fun b r => (b.switchFrame 4 r.1.data).1) b, .of St.ok)

/-- Beacons are back: the held frames leave (R341). -/
def beaconBack (p : Nat) (b : Block) : Block := (b.updNet (24 + p) fun c => { c with noBeacon := false }).portSend p

/-- ETH_LINK_UP (R341): the link of an enabled port comes up. -/
def linkUp (p : Nat) (inv : Bool) (b : Block) : Block :=
  if !(b.nstate (24 + p) == 1 || b.nstate (24 + p) == 3) then b
  else
    let b := (b.setF F.ETH_PSTAT_LINK p 1).beaconBack p
    if inv && decide (p < 2) then b.xstick F.ETH_PSTAT_POLINV (24 + p) else b

/-- ETH_LINK_LOSS (R345): LINKDN, and the cable is tested. -/
def linkLoss (p cab : Nat) (b : Block) : Block :=
  if !b.flag F.ETH_PSTAT_LINK p then b
  else
    let n := (b.nch (24 + p)).egress.length
    let b := ((b.setF F.ETH_PSTAT_LINK p 0).satF F.ETH_CNT_DROP p n).updNet (24 + p) fun c => { c with egress := [] }
    (b.xstick F.ETH_PSTAT_LINKDN (24 + p)).netDiag (24 + p) cab

/-- PLCA_BEACON_TIMEOUT (R341): a follower holds its transmissions until beacons return. -/
def beaconTimeout (p : Nat) (back : Bool) (b : Block) : Block :=
  if back then (if (b.nch (24 + p)).noBeacon then b.beaconBack p else b)
  else if !isT1 (24 + p) && (b.nstate (24 + p) == 1 || b.nstate (24 + p) == 3) && b.flag F.ETH_PCFG_PLCA p && !(b.getF F.ETH_PCFG_PLCAID p == 0) then
    (b.updNet (24 + p) fun c => { c with noBeacon := true }).xstick F.ETH_PSTAT_PLCAERR (24 + p)
  else b

/-- ADDRESS_AGE_OUT (R342): AGE 0 = off. -/
def ageOut (mac : Nat) (b : Block) : Block :=
  if b.getF F.ETH_SWCFG_AGE 0 = 0 then b else { b with net := { b.net with mac := b.net.mac.filter fun m => !(m.1 == mac) } }

/-! ### Still and resets (R353, R355) -/

/-- Condition 3 of R75: every enabled channel is in SLEEP. -/
def netsAsleep (b : Block) : Bool := (List.range 28).all fun ch => !(isCan ch || isLin ch || isEth ch) || b.nstate ch == 0 || b.nstate ch == 4

/-- PD6 (CAN, LIN) or PD7 (Ethernet) loses power or is reset: registers and queues are lost, PD0 keeps WAKESRC and the
armed detectors. `arm`: transceivers of enabled CAN and LIN channels go to low-power mode (R355). -/
def netDown (eth arm : Bool) (b : Block) : Block :=
  let sel := (List.range 29).filter fun ch => (isCan ch || isLin ch || isEth ch) && (isEth ch == eth)
  let b := sel.foldl (fun b ch =>
    if ch = 28 then b
    else if arm && !eth && b.nOn ch && !(b.nstate ch == 4) then b.keepAsleep ch
    else b.keep ch id) b
  let b := sel.foldl (fun b ch => b.updNet ch fun _ => {}) b
  let b := if eth then { b with net := { b.net with mac := [], seq := [] } } else { b with net := { b.net with exc := [] } }
  if eth then b.resetRegs 0x32000 0x33000 else b.resetRegs 0x30000 0x32000

/-- PD6 or PD7 reaches power good: WAKESRC shows the value kept in PD0 (R353). -/
def netUp (eth : Bool) (b : Block) : Block :=
  b.net.kept.foldl (fun b e => if isEth e.1 == eth then b.nset N.wakesrc e.1 e.2.src else b) b

/-- HC13 resets: schedules stop and restart at entry 0 when it accepts again (R355). -/
def linStop (b : Block) : Block :=
  forN 8 (fun n b => b.updNet (16 + n) fun c => { c with pos := 0, slot := none, heard := false, quiet := 0 }) b

end Block

end Sys2Proof.Machine
end

