-- ==== Sys2Proof/Machine/Gateway.lean ====
section
/-! DEFINITION. The Broivo gateway (R362–R380), and the network events that end in its lookup. -/
namespace Sys2Proof.Machine

/-- Place of the routing table and its entries (R362). -/
def gwTable : Nat := 0x28000000
def gwEntries : Nat := 16384

/-- A network channel that the gateway may take from or send to (R362). -/
def gwChan (ch : Nat) : Bool := isCan ch || isLin ch || ch == 28

/-- A route entry as its eight words. -/
abbrev Route := List Nat

def Route.w (r : Route) (i : Nat) : Nat := r.getD i 0
def Route.inport (r : Route) : Nat := bits (r.w 0) 5 1
def Route.xform (r : Route) : Nat := bits (r.w 0) 19 16
def Route.idmode (r : Route) : Nat := bits (r.w 0) 21 20
def Route.sec (r : Route) : Nat := bits (r.w 0) 23 22
def Route.verify (r : Route) : Bool := bit (r.w 0) 24
def Route.replace (r : Route) : Bool := bit (r.w 0) 25
def Route.busid (r : Route) : Nat := bits (r.w 0) 12 8
def Route.dest (r : Route) : Nat := bits (r.w 0) 31 26

/-- Words of an entry from its 32 bytes. -/
def routeOf (bs : List Byte) : Route := (List.range 8).map fun i => ofLe ((bs.drop (4 * i)).take 4)

/-- Bits of EGRESS that name channels. -/
def egressMask : Nat := 0x10FF0FFF

/-- A valid entry that GW_ROUTE refuses (R362, R363); an entry with VALID = 0 is not checked. -/
def routeBad (rksel : Nat) (r : Route) : Bool :=
  bit (r.w 0) 0 &&
  (!gwChan r.inport || !(r.w 3 &&& egressMask == r.w 3) || bit (r.w 3) r.inport || decide (3 < r.xform) || r.sec == 3 ||
   (!(r.sec == 0) && rksel == 0) || !(bits (r.w 0) 15 13 == 0) || decide (2 ^ 29 ≤ r.w 1) || decide (2 ^ 29 ≤ r.w 2) ||
   decide (2 ^ 29 ≤ r.w 3) || decide (2 ^ 30 ≤ r.w 4) || !(bits (r.w 6) 31 16 == 0) || !(r.w 7 == 0))

/-- An entry applies to a frame of a channel (R364). -/
def routeMatch (r : Route) (ch busid : Nat) (f : NetFrame) : Bool :=
  bit (r.w 0) 0 && r.inport == ch && bit (r.w 0) 6 == f.ide && bit (r.w 0) 7 == f.xlf && (!(ch == 28) || r.busid == busid) &&
  ((f.ident ^^^ r.w 1) &&& r.w 2) == 0

/-- The identifier on egress and its IDE (R365). -/
def newId (r : Route) (f : NetFrame) : Nat × Bool :=
  let v := r.w 4 % 2 ^ 29
  match r.idmode with
  | 0 => (f.ident, f.ide)
  | 1 => (v, bit (r.w 4) 29)
  | 2 => (putBits f.ident 7 0 v, f.ide)
  | _ => (putBits f.ident 15 8 (v / 256), f.ide)

/-- FLAGS of the format that XFORM gives (R366): bit 2 FDF, bit 3 BRS. A CAN XL frame keeps its format. -/
def xformFlags (r : Route) (flags : Nat) : Nat :=
  if bit flags 5 then flags
  else match r.xform with
  | 0 => flags
  | 1 => putBits flags 3 2 0
  | 2 => putBits (putBits flags 3 2 1) 1 1 0
  | _ => putBits (putBits flags 3 2 3) 1 1 0

/-- The next valid CAN FD length. -/
def fdLen (n : Nat) : Option Nat := if n ≤ 8 then some n else fdLens.find? fun l => decide (n ≤ l)

/-- Data padded with 0 to n bytes. -/
def padTo (n : Nat) (bs : List Byte) : List Byte := bs ++ List.replicate (n - bs.length) 0

/-- ID32 of R371, most significant byte first. -/
def id32 (id : Nat) (ide : Bool) : List Nat := beBytes 4 (id % 2 ^ 29 + b2n ide * 2 ^ 29)

/-- Tag, and data after the cipher of the route (R371). `crypt`: run CCM's data path. -/
def secTag (key : List Nat) (r : Route) (id : List Nat) (fresh : Nat) (plain : List Nat) : List Nat :=
  let head := id ++ [plain.length] ++ beBytes 4 fresh
  let nonce := beBytes 4 (r.w 5) ++ beBytes 4 fresh ++ id ++ [1]
  if r.sec = 1 then (cmac key (head ++ plain)).take 8 else ccmTag key nonce head plain 8
def secData (key : List Nat) (r : Route) (id : List Nat) (fresh : Nat) (data : List Nat) : List Nat :=
  if r.sec = 1 then data else ccmCrypt key (beBytes 4 (r.w 5) ++ beBytes 4 fresh ++ id ++ [1]) data

namespace Block

/-- Entry i of the table. -/
def route (b : Block) (i : Nat) : Route := routeOf (b.readMem (gwTable + 32 * i) 32)

/-- Words 6 and 7 of an entry. -/
def setRouteWord (i k v : Nat) (b : Block) : Block := b.writeMem (gwTable + 32 * i + 4 * k) (leBytes 4 v)

/-- Entries that are listed in memory, in ascending index: the others are not VALID. -/
def routeList (b : Block) : List Nat :=
  (b.mem.filter fun c => decide (gwTable ≤ c.1 ∧ c.1 < gwTable + 32 * gwEntries) && (c.1 - gwTable) % 32 == 0).map fun c => (c.1 - gwTable) / 32

/-- HITS of an entry counts (R362, R373). `routeAgain`: outside the lookup, which has read the entry already (R322). -/
def routeHit (i : Nat) (b : Block) : Block :=
  let w := (b.route i).w 6
  b.setRouteWord i 6 (putBits w 31 16 (w / 65536 + 1))
def routeEcc (i k : Nat) (b : Block) : Block := (b.eccRead (gwTable + 32 * i + 4 * k) 4).1
def routeAgain (i : Nat) (b : Block) : Block := (b.routeEcc i 6).routeHit i

/-- Entries with a byte of HITS other than 0, in ascending index. -/
def hitList (b : Block) : List Nat :=
  (b.mem.filter fun c => decide (gwTable ≤ c.1 ∧ c.1 < gwTable + 32 * gwEntries ∧ 26 ≤ (c.1 - gwTable) % 32 ∧ (c.1 - gwTable) % 32 < 28)).map
    fun c => (c.1 - gwTable) / 32

/-- Key of a secured route (R369). -/
def routeTag (b : Block) (r : Route) : KeyTag :=
  { root := b.getF F.GW_CFG_RKSEL 0, dom := 3, lbits := 128,
    label := [0x42, 0x52, 0x56, 0x31] ++ beBytes 4 (r.w 5) ++ [r.sec] ++ beBytes 4 (b.rd R.GW_EPOCH 0) }

/-- Set a security bit with SECIDX (R372). -/
def secFail (f : RegField) (i : Nat) (b : Block) : Block := (b.setF F.GW_STAT_SECIDX 0 i).gwStick f

/-! ### Egress (R366–R373) -/

/-- Bytes of the pool that a frame takes (R373), and those in use. -/
def poolSize (f : NetFrame) : Nat := (f.data.length + 16 + 63) / 64 * 64
def poolUsed (b : Block) : Nat :=
  ((List.range 29).map fun ch => ((b.nch ch).gw.map fun (t : TxItem) => poolSize t.frame).sum).sum + (b.net.exc.map ExcItem.size).sum

/-- The channel carries the format of the frame (R366): CAN XL with XLEN on CAN0–CAN3, CAN FD with FDEN. -/
def fmtOk (b : Block) (ch : Nat) (f : NetFrame) : Bool :=
  if f.xlf then decide (ch < 4) && bit ((b.nch ch).word 0) 4
  else !f.fdf || ch == 28 || isLin ch || bit ((b.nch ch).word 0) 3

/-- A frame that an egress does not carry (R366, R368). -/
def fmtDrop (ch : Nat) (b : Block) : Block := (b.gwDrop ch).gwStick F.GW_STAT_FMTDROP

/-- The NTSCF frame of R367 with one ACF CAN message. -/
def ntscf (b : Block) (d busid : Nat) (f : NetFrame) : List Byte :=
  let dst := b.rd R.GW_ETHDST0 d + b.getF F.GW_ETHDST1_MAC d * 2 ^ 32
  let stream := b.rd R.GW_ETHDST2 d + b.rd R.GW_ETHDST3 d * 2 ^ 32
  let tag := if b.flag F.GW_ETHDST1_TAG d then [0x81, 0x00] ++ beBytes 2 (b.getF F.GW_ETHDST1_PCP d * 8192 + b.getF F.GW_ETHDST1_VID d) else []
  let pad := (4 - f.data.length % 4) % 4
  let quads := (16 + f.data.length + pad) / 4
  let m := pad * 64 + b2n f.rtr * 16 + b2n f.ide * 8 + b2n (bit f.flags 3) * 4 + b2n f.fdf * 2 + b2n (bit f.flags 4)
  let acf := beBytes 2 (512 + quads) ++ [m, busid] ++ List.replicate 8 0 ++ beBytes 4 f.ident ++ natsOf f.data ++ List.replicate pad 0
  let head := [0x82] ++ beBytes 2 (0x8000 + acf.length) ++ [Tab.get 0 b.net.seq d % 256] ++ beBytes 8 stream
  bytesOf (beBytes 6 dst ++ beBytes 6 b.ownMac ++ tag ++ [0x22, 0xF0] ++ head ++ acf)

/-- A port that a frame from port 4 would leave at holds its egress queues, so that the frame waits (R341, R373, log 180). -/
def ethBlocked (b : Block) (data : List Byte) : Bool :=
  match (b.vlanOf data).2 with
  | none => false
  | some i => (List.range 4).any fun q => b.goesTo 4 i data q && b.ethUp q && (b.nch (24 + q)).noBeacon

/-- The CH 28 queue hands its frames to the switch in order of arrival; one that is too old as its turn comes is dropped
(R367, R373, R374). -/
def ethDrain : Nat → Block → Block
  | 0, b => b
  | k + 1, b => match (b.nch 28).gw with
    | [] => b
    | t :: _ =>
      if tooOld t b.pw.tbase then ethDrain k (b.gwAged 28 t)
      else
        let data := b.ntscf t.dest t.busid t.frame
        if b.ethBlocked data then b
        else
          let b := b.txRemove 28 2 t
          let b := { b with net := { b.net with seq := Tab.put b.net.seq t.dest ((Tab.get 0 b.net.seq t.dest + 1) % 256) } }
          ethDrain k ((b.switchFrame 4 data).1.wrapF F.GW_POUT_OUT 28 1)

/-- The CH 28 queue goes on as far as it can. -/
def ethGo (b : Block) : Block := b.ethDrain (b.nch 28).gw.length

/-- HC13 writes data into a response entry, whose length stays (R368). -/
def linApply (ch id : Nat) (data : List Byte) (b : Block) : Block :=
  match b.linEntry ch id with
  | none => b.fmtDrop ch
  | some e =>
    let v := (data ++ e.data.drop data.length).take e.data.length
    (b.updNet ch fun c => { c with resp := Tab.put c.resp id { e with data := v } }).wrapF F.GW_POUT_OUT ch 1

/-- A frame finds no place in its gateway queue (R373). -/
def gwFull (b : Block) (ch waiting : Nat) (f : NetFrame) : Bool :=
  decide (max 1 (b.getF F.GW_PORT_QMAX ch) ≤ waiting) || decide (524288 < b.poolUsed + poolSize f)

/-- HC13 takes a frame for LIN: it applies it, or drops it where it is too old (R368, R374). -/
def linTake (x : ExcItem) (b : Block) : Block :=
  if lateBy x.age x.time b.pw.tbase then (b.gwDrop x.ch).gwStick F.GW_STAT_AGEDROP else b.linApply x.ch x.id x.data

/-- Egress to a LIN channel: through HC13, in whose exception queue of 64 frames it waits while HC13 does not run (R368,
R373, R378). -/
def egressLin (i : Nat) (r : Route) (ch : Nat) (f : NetFrame) (time : Nat) (b : Block) : Block :=
  let id := f.ident % 64
  let data := f.data.take 8
  let x : ExcItem := { ch := ch, id := id, data := data, route := i, size := poolSize f, time := time, age := bits (r.w 6) 15 0 }
  let mine := b.net.exc.filter fun e => e.ch == ch
  if b.coreRuns 13 then b.linTake x
  else if (b.linEntry ch id).isNone then b.fmtDrop ch
  else match (if r.replace then mine.find? fun e => e.route == i else none) with
    | some y => ({ b with net := { b.net with exc := b.net.exc.map fun e => if e == y then x else e } } : Block).routeAgain i
    | none =>
      if b.gwFull ch mine.length f then (b.gwDrop ch).gwStick F.GW_STAT_QDROP
      else if 64 ≤ b.net.exc.length then (b.gwDrop ch).gwStick F.GW_STAT_EXCDROP
      else { b with net := { b.net with exc := b.net.exc ++ [x] } }

/-- HC13 runs again: it applies the frames of its exception queue. -/
def excDrain (b : Block) : Block :=
  let l := b.net.exc
  l.foldl (fun b e => b.linTake e) { b with net := { b.net with exc := [] } }

/-- Egress to a CAN channel or CH 28: the queue of R373. -/
def egressQueue (i : Nat) (r : Route) (ch : Nat) (f : NetFrame) (time : Nat) (b : Block) : Block :=
  let c := b.nch ch
  let t : TxItem := { job := 0, idx := i, frame := f, time := time, age := bits (r.w 6) 15 0, dest := r.dest, busid := r.busid }
  let old := c.gw.find? fun x => x.idx == i
  let b := match (if r.replace then old else none) with
  | some x => (b.updNet ch fun c => { c with gw := c.gw.map fun y => if y == x then t else y }).routeAgain i
  | none =>
    if b.gwFull ch c.gw.length f then (b.gwDrop ch).gwStick F.GW_STAT_QDROP
    else b.updNet ch fun c => { c with gw := c.gw ++ [t] }
  if ch = 28 then b.ethGo else b

/-- The state of an egress channel (R373): 0 = frames are dropped, 1 = it wakes first, 2 = it takes them. -/
def egressState (b : Block) (ch : Nat) : Nat :=
  if ch = 28 then (if b.pg 7 then 2 else 0)
  else
    let s := b.nstate ch
    if s == 1 then 2 else if s == 3 || s == 4 then (if b.flag F.GW_PORT_WAKE ch then 1 else 0) else 0

/-- One frame to one egress channel: its format (R366), its secured payload (R370), its queue (R373). The counter of a
protect route has been advanced to `fresh`; `k` is the tag of the key that the frame began with (R546). -/
def egress (k : KeyTag) (i : Nat) (r : Route) (fresh : Nat) (f : NetFrame) (time ch : Nat) (b : Block) : Block :=
  let (id, ide) := newId r f
  let flags := putBits (xformFlags r f.flags) 0 0 (b2n ide)
  let g : NetFrame := { f with flags := flags, id := if f.xlf then putBits f.id 10 0 id else id }
  let st := b.egressState ch
  if st = 0 then b.gwDrop ch
  else
    let b := if st = 1 then b.wake ch 4 else b
    let lin := isLin ch
    let L := f.data.length
    if !b.fmtOk ch g then b.fmtDrop ch
    else if !(r.sec == 0) && !r.verify then
      let n := if lin then none else if g.xlf then (if L + 13 ≤ 2048 then some (L + 13) else none)
        else if g.fdf then fdLen (L + 13) else none
      match n with
      | none => (b.gwDrop ch).gwStick F.GW_STAT_SECDROP
      | some n =>
        let key := keyOf k
        let ids := id32 id ide
        let plain := natsOf f.data
        let pay := secData key r ids fresh plain ++ List.replicate (n - L - 13) 0 ++ [L] ++ beBytes 4 fresh ++ secTag key r ids fresh plain
        let g := { g with data := bytesOf pay }
        b.egressQueue i r ch g time
    else if lin then b.egressLin i r ch g time
    else
      let g := if g.fdf && !g.xlf then { g with data := padTo ((fdLen L).getD L) g.data } else g
      if !g.fdf && !g.xlf && decide (8 < g.data.length) then b.fmtDrop ch else b.egressQueue i r ch g time

/-- Verify an ingress frame with the key of tag `k` (R372, R546): the frame without its trailer, or the bit that reports
the failure. -/
def secVerify (b : Block) (k : KeyTag) (i : Nat) (r : Route) (f : NetFrame) : Option NetFrame × RegField × Nat :=
  let key := keyOf k
  let n := f.data.length
  let raw := natsOf f.data
  let L := raw.getD (n - 13) 0
  let fresh := ofBe ((raw.drop (n - 12)).take 4)
  let ids := id32 f.ident f.ide
  let data := secData key r ids fresh (raw.take L)
  let diff := (fresh + 2 ^ 32 - (b.route i).w 7) % 2 ^ 32
  if n < 13 ∨ n < L + 13 then (none, F.GW_STAT_AUTHFAIL, 0)
  else if !(secTag key r ids fresh data == raw.drop (n - 8)) then (none, F.GW_STAT_AUTHFAIL, 0)
  else if diff = 0 ∨ 0x7FFFFFFF < diff then (none, F.GW_STAT_REPLAY, 0)
  else (some { f with data := bytesOf data }, F.GW_STAT_AUTHFAIL, fresh)

/-- A frame of route i goes to every egress channel of the route, each on its own (R375); `k` is the tag of its key where the
route is secured. -/
def forward (k : KeyTag) (i : Nat) (r : Route) (f : NetFrame) (time : Nat) (b : Block) : Block :=
  let chans := (List.range 29).filter fun ch => bit (r.w 3) ch
  let each (fresh : Nat) (f : NetFrame) (b : Block) : Block := chans.foldl (fun b ch => b.egress k i r fresh f time ch) b
  if r.sec = 0 then each 0 f b
  else if r.verify then
    match b.secVerify k i r f with
    | (none, bad, _) => (b.unitJob f.data.length).secFail bad i
    | (some g, _, fresh) => each fresh g ((b.unitJob f.data.length).setRouteWord i 7 fresh)
  else
    let last := (b.route i).w 7
    if last = 2 ^ 32 - 1 then (chans.foldl (fun b ch => b.gwDrop ch) b).gwStick F.GW_STAT_FRESHEND
    else
      let b := (b.unitJob f.data.length).setRouteWord i 7 (last + 1)
      each (last + 1) f b

/-- A secured frame that no unit processes (R372, R558). -/
def secDrop (r : Route) (b : Block) : Block :=
  (((List.range 29).filter fun ch => bit (r.w 3) ch).foldl (fun b ch => b.gwDrop ch) b).gwStick F.GW_STAT_SECDROP

/-- A waiting frame of a secured route is dropped. -/
def waiterDrop (w : Waiter) (b : Block) : Block := match w with
  | .frame _ r _ _ _ => b.secDrop r
  | .job _ => b

/-- Frames whose jobs wait to be admitted are dropped (R372, R558). -/
def gwqDrop (b : Block) : Block :=
  (b.ciph.gwq.map Prod.snd).foldl (fun b w => b.waiterDrop w) { b with ciph := { b.ciph with gwq := [] } }

/-- Frames of secured routes that wait for their keys are dropped: PD10 loses power (R372). -/
def keyLost (b : Block) : Block := (b.ciph.deriv.flatMap Prod.snd).foldl (fun b w => b.waiterDrop w) b.gwqDrop

/-- The units that the gateway needs have ended their self-tests, and fewer than 16 jobs run (R549, R555). -/
def gwReady (b : Block) : Bool := !b.untested [1, 2] && decide (b.getF F.CIPH_STAT_JOBS 0 < 16)

/-- A frame of a secured route has its key: it goes on, or its job fails (R555, R560). -/
def gwRun (t : KeyTag) (i : Nat) (r : Route) (f : NetFrame) (time : Nat) (b : Block) : Block :=
  if b.jobFault 0 2 then (((b.jobError 2).unitJob 0).secDrop r)
  else b.forward t i r f time

/-- The gateway's job starts, with its key from the cache or after its derivation (R545, R546); a unit that has failed its
self-tests processes none (R372, R555). -/
def gwStart (t : KeyTag) (w : Waiter) (b : Block) : Block := match w with
  | .job _ => b
  | .frame i r _ f time =>
    if Tab.get 0 b.ciph.test 1 == 2 || Tab.get 0 b.ciph.test 2 == 2 then b.secDrop r
    else if b.cached t then (b.keyHit t).gwRun t i r f time else b.keyWait t w

/-- A job of the gateway starts at once, or waits (R549, R555). -/
def gwJob (t : KeyTag) (w : Waiter) (b : Block) : Block :=
  if b.gwReady then b.gwStart t w else { b with ciph := { b.ciph with gwq := b.ciph.gwq ++ [(t, w)] } }

/-- Jobs of the gateway that may start do so, before those of the host and the ring (R549); `fuel` bounds their number. -/
def gwAdmit : Nat → Block → Block
  | 0, b => b
  | n + 1, b => match b.ciph.gwq with
    | [] => b
    | (t, w) :: l => if b.gwReady then gwAdmit n (({ b with ciph := { b.ciph with gwq := l } } : Block).gwStart t w) else b

/-- Places have become free, or units have ended their self-tests: waiting jobs start in the order of R549, and the
firmware ring goes on. -/
def jobsGo (b : Block) : Block := ((b.gwAdmit b.ciph.gwq.length).admitAll).fwFetch 64

/-- The 100 ms in which lookups are counted have passed: RATE of GW_LOAD is what they held, in thousands per second, and
PEAK the highest (R379, log 181). -/
def lookRoll (b : Block) : Block :=
  let now := b.pw.tbase / 16000000
  if now = b.net.lookAt then b
  else
    let rate := if now = b.net.lookAt + 1 then min 65535 (b.net.looks / 100) else 0
    let top := max (min 65535 (b.net.looks / 100)) (b.getF F.GW_LOAD_PEAK 0)
    (({ b with net := { b.net with looks := 0, lookAt := now } } : Block).setF F.GW_LOAD_RATE 0 rate).setF F.GW_LOAD_PEAK 0 top

/-- The lookup of one frame (R364), and its key (R369, R545). With RKSEL = 0 no route is secured (R379). -/
def gwLookup (ch busid : Nat) (f : NetFrame) (b : Block) : Block :=
  if !b.flag F.GW_CFG_EN 0 || !b.flag F.GW_PORT_INEN ch then b
  else
    let b := b.lookRoll.wrapF F.GW_PIN_IN ch 1
    let b := { b with net := { b.net with looks := b.net.looks + 1 } }
    match b.routeList.find? fun i => routeMatch (b.route i) ch busid f with
    | none => b.satF F.GW_PIN_MISS ch 1
    | some i =>
      let r := b.route i
      let b := ((b.eccRead (gwTable + 32 * i) 32).1).routeHit i
      if r.sec = 0 then b.forward (b.routeTag r) i r f b.pw.tbase
      else if b.getF F.GW_CFG_RKSEL 0 = 0 then b.secDrop r
      else if !b.ciphOn || !b.rootValid (b.getF F.GW_CFG_RKSEL 0) then
        let b := if b.ciphOn && !b.rootValid (b.getF F.GW_CFG_RKSEL 0) then b.rootRefused 2 else b
        b.secDrop r
      else
        b.gwJob (b.routeTag r) (.frame i r ch f b.pw.tbase)

/-- KEY_DERIVATION_COMPLETE (R545, R546): the oldest derivation ends; its key is stored and who waits for it goes on. -/
def keyDerived (b : Block) : Block :=
  match b.ciph.deriv with
  | [] => b
  | (t, ws) :: rest =>
    let b := ({ b with ciph := { b.ciph with deriv := rest } } : Block).touchKey t
    (ws.foldl (fun b w => match w with
      | .job j => b.jobDone j
      | .frame i r _ f time => (b.routeEcc i 7).gwRun t i r f time) b).jobsGo

/-! ### Received frames (R334, R339, R342, R364, R367) -/

/-- A frame that a CAN channel has received: a record with the time at which it began, and the gateway, which does not
look up its own frames again (R334, R335, R364). -/
def canDeliver (n : Nat) (f : NetFrame) (ticks : Nat) (own : Bool) (b : Block) : Block :=
  let hit := (List.range 16).filter fun m => b.flag F.CAN_FID_EN (16 * n + m)
  let pass := hit.isEmpty || hit.any fun m =>
    b.flag F.CAN_FID_IDE (16 * n + m) == f.ide &&
    ((f.ident ^^^ b.getF F.CAN_FID_ID (16 * n + m)) &&& b.getF F.CAN_FMSK_MASK (16 * n + m)) == 0
  let b := if bit ((b.nch n).word 0) 7 && pass then b.recordTo n (recordBytes n 0 (b.pw.tbase - ticks) f) else b
  if own then b else b.gwLookup n 0 f

/-- CAN_FRAME_RECEIVED (R329, R332, R334, R347, R349): while the channel is asleep, its detector sees the frame (R351). -/
def canReceived (n : Nat) (x : CanRx) (b : Block) : Block :=
  let st := b.nstate n
  let f := x.frame
  let c := b.nch n
  if st == 4 then b.wakeDetect n (.frame f)
  else if !(st == 1 || st == 2 || st == 3) || !f.lenOk || (f.fdf && !bit (c.word 0) 3) || (f.xlf && !bit (c.word 0) 4) then b
  else
    let rec_ := b.getF F.CAN_ERR_REC n
    let b := b.setF F.CAN_ERR_REC n (if 127 < rec_ then 119 else rec_ - 1)
    let b := b.updNet n fun c => { c with last := some (f.ident + b2n f.ide * 2 ^ 29), idle := false }
    let b := if st == 3 && c.wkmode == 2 && wufMeets c.cfg f then b.wake n 5 else b.tryArm n x.quiet
    (b.guardFrame n f).canDeliver n f x.ticks false

/-- CAN_BUS_ERROR (R332); while the channel is asleep, its detector sees the erroneous frame (R351). -/
def canBusError (n : Nat) (tx eight : Bool) (lec : Nat) (b : Block) : Block :=
  if b.nstate n == 4 then b.wakeDetect n .badFrame else b.canError n tx eight lec

/-- CAN_FRAME_SENT, which in loopback is also received (R331, R333). -/
def canSentAll (n : Nat) (e : CanEnd) (b : Block) : Block :=
  let (b, f) := b.canSent n e
  match f with
  | none => b
  | some (f, own) => if bits ((b.nch n).word 0) 2 1 = 2 then b.canDeliver n f e.ticks own else b

/-- LIN_FRAME_RECEIVED (R338, R339): the response to the header in progress, with its checksum byte. -/
def linReceived (n : Nat) (x : TimedData) (cks : Nat) (b : Block) : Block :=
  let ch := 16 + n
  let data := x.data
  let c := b.nch ch
  let st := b.nstate ch
  let who := if b.linResponder ch then c.header.map fun id => (id, bit (c.word 0) 2) else c.slot.map fun e => (e.id, e.cks)
  match who with
  | none => b
  | some (id, enh) =>
    if !(st == 1 || st == 3) || data.isEmpty || decide (8 < data.length) then b
    else
      let b := (b.updNet ch fun c => { c with header := none, slot := none, heard := true }).linHeard ch
      if !(cks == linSum id enh data) then b.xstick F.LIN_STAT_CKSERR ch
      else
        let f : NetFrame := { id := id, data := data, ext := linExt id enh data }
        let b := if bit (c.word 0) 4 then b.recordTo ch (recordBytes ch 0 (b.pw.tbase - x.ticks) f) else b
        b.gwLookup ch 0 f

/-- The messages of an NTSCF frame one by one (R367): ACF CAN is looked up, others count in MISS. -/
def acfMessages : Nat → List Byte → Block → Block
  | 0, _, b => b
  | n + 1, m, b =>
    let w := be16 m 0
    let len := w % 512 * 4
    if m.length < 4 ∨ len = 0 ∨ m.length < len then b
    else
      let typ := w / 512
      let fl := ofLe ((m.drop 2).take 1)
      let pad := fl / 64
      let b :=
        if typ = 1 ∧ 16 + pad ≤ len then
          let id := ((m.drop 12).take 4).foldl (fun a x => a * 256 + x.toNat) 0 % 2 ^ 29
          let flags := b2n (bit fl 3) + b2n (bit fl 4) * 2 + b2n (bit fl 1) * 4 + b2n (bit fl 2) * 8 + b2n (bit fl 0) * 16
          b.gwLookup 28 (ofLe ((m.drop 3).take 1) % 32) { id := id, flags := flags, data := (m.take (len - pad)).drop 16 }
        else b.satF F.GW_PIN_MISS 28 1
      acfMessages n (m.drop len) b

/-- A frame that the switch delivers to port 4, `ticks` after it began (R343, R367). -/
def port4Deliver (data : List Byte) (ticks : Nat) (b : Block) : Block :=
  let b := b.port4Record data (b.pw.tbase - ticks)
  let bare := (untag data).2
  let n := be16 bare 15 % 2048
  if be16 bare 12 = 0x22F0 ∧ ofLe ((bare.drop 14).take 1) = 0x82 ∧ b.flag F.GW_CFG_EN 0 ∧ b.flag F.GW_PORT_INEN 28 then
    b.acfMessages 400 ((bare.drop 26).take n)
  else b

/-- ETH_FRAME_RECEIVED (R342, R347). -/
def ethReceived (p : Nat) (x : TimedData) (b : Block) : Block :=
  let ch := 24 + p
  let data := x.data
  if !(b.nstate ch == 1 || b.nstate ch == 3) || !b.flag F.ETH_PSTAT_LINK p then b
  else
    let b := (b.updNet ch fun c => { c with last := some (macAt data 6), idle := false }).wrapF F.ETH_CNT_RXFR p 1
    let (b, four) := b.switchFrame p data
    match four with
    | none => b
    | some d => b.port4Deliver d x.ticks

/-- A port takes frames again, or none at all: the CH 28 queue goes on (R373). -/
def linkUpGo (p : Nat) (inv : Bool) (b : Block) : Block := (b.linkUp p inv).ethGo
def linkLossGo (p cab : Nat) (b : Block) : Block := (b.linkLoss p cab).ethGo
def beaconGo (p : Nat) (back : Bool) (b : Block) : Block := (b.beaconTimeout p back).ethGo

/-! ### Descriptors (R380) -/

/-- Bring VALIDCNT up to date. -/
def gwCount (b : Block) : Block :=
  b.setF F.GW_TBL_VALIDCNT 0 (b.routeList.filter fun i => bit ((b.route i).w 0) 0).length

/-- Route i has stopped at the end of its counter: a protect route (R370). -/
def routeStopped (b : Block) (i : Nat) : Bool :=
  let r := b.route i
  r.w 7 == 2 ^ 32 - 1 && !(r.verify && !(r.sec == 0))

/-- Entries i to i + n − 1 are written; a route that has stopped stays so under the same KEYLBL (R370). -/
def routeWrite (i n : Nat) (data : List Byte) (b : Block) : Block :=
  forRange i (i + n) (fun k x =>
    if b.routeStopped k && (x.route k).w 5 == (b.route k).w 5 then x.setRouteWord k 7 (2 ^ 32 - 1) else x)
    (b.writeMem (gwTable + 32 * i) data)

/-- GW_ROUTE (R363, R377). -/
def gwRoute (d : Desc) (b : Block) : Block × Compl :=
  let i := bits (d.dw 8) 13 0
  let es := (pieces 32 2048 (d.payload.take d.len)).map routeOf
  if !(d.ok 0x80 32 65536 [0, 0, 0, 0x3FFF]) || !(d.len % 32 == 0) || decide (gwEntries < i + d.len / 32) then (b, .of St.badDesc)
  else match es.zipIdx.find? fun e => routeBad (b.getF F.GW_CFG_RKSEL 0) e.1 with
    | some e => (b, { status := St.badDesc, cw2 := e.2 })
    | none =>
      if b.flag F.GW_CFG_TLOCK 0 && b.isLocked then (b, .of St.locked)
      else (((b.routeWrite i (d.len / 32) (d.payload.take d.len)).gwCount).wrapF F.GW_TBL_GEN 0 1, .of St.ok)

/-- GW_READ. -/
def gwRead (d : Desc) (b : Block) : Block × Compl :=
  let i := bits (d.dw 8) 13 0
  let n := bits (d.dw 9) 11 0
  if !(d.ok 0x81 (32 * n) 65536 [0, 0, 0, 0x3FFF, 0xFFF]) || decide (n = 0 ∨ 2048 < n) || decide (gwEntries < i + n) then (b, .of St.badDesc)
  else ((b.eccRead (gwTable + 32 * i) (32 * n)).1, { status := St.ok, cw2 := 32 * n, data := b.readMem (gwTable + 32 * i) (32 * n) })

/-- GW_STATS. -/
def gwStats (d : Desc) (b : Block) : Block × Compl :=
  if !(d.ok 0x82 248 65536 []) then (b, .of St.badDesc)
  else
    let b := b.lookRoll
    let w (r : Reg) (n : Nat) : List Byte := leBytes 4 (b.rd r n)
    let data := w R.GW_STAT 0 ++ w R.GW_TBL 0 ++ w R.GW_LOAD 0 ++ List.replicate 4 0 ++
      (List.range 29).flatMap fun c => w R.GW_PIN c ++ w R.GW_POUT c
    (b, { status := St.ok, cw2 := 248, data := data })

/-- GW_CLEAR. -/
def gwClear (d : Desc) (b : Block) : Block × Compl :=
  let f := d.dw 8
  if !(d.ok 0x83 0 0 [0, 0, 0, 3]) || f == 0 then (b, .of St.badDesc)
  else
    let b := if bit f 0 then b.wr R.GW_STAT 0 (putBits (b.rd R.GW_STAT 0) 7 0 0) else b
    let b := if bit f 1 then
        let b := forN 29 (fun c b => (b.wr R.GW_PIN c 0).wr R.GW_POUT c 0) b
        b.hitList.foldl (fun b i => (b.routeEcc i 6).setRouteWord i 6 (putBits ((b.route i).w 6) 31 16 0)) b
      else b
    (b, .of St.ok)

/-- GATEWAY_ENABLE and GATEWAY_DISABLE (R377). -/
def gwEnable (b : Block) : Block := b.setF F.GW_CFG_EN 0 1
def gwDisable (b : Block) : Block :=
  let b := (forN 24 (fun ch b => b.gwDiscard ch) (b.setF F.GW_CFG_EN 0 0)).gwDiscard 28
  let wait := b.ciph.deriv.flatMap Prod.snd ++ b.ciph.gwq.map Prod.snd
  let b := wait.foldl (fun b w => match w with
    | .frame _ r _ _ _ => ((List.range 29).filter fun ch => bit (r.getD 3 0) ch).foldl (fun b ch => b.gwDrop ch) b
    | .job _ => b) b
  let isJob (w : Waiter) : Bool := match w with
    | .job _ => true
    | .frame .. => false
  ({ b with ciph := { b.ciph with gwq := [], deriv := b.ciph.deriv.map fun t => (t.1, t.2.filter isJob) } } : Block).ciphSync

/-- SoC reset, or PD1 loses power: table, queues and fields (R378). -/
def gwReset (b : Block) : Block :=
  let b := forN 12 (fun ch b => b.updNet ch fun c => { c with gw := [] }) b
  let b := b.updNet 28 fun c => { c with gw := [] }
  ({ b with mem := Mem.clear b.mem gwTable 0x28100000, net := { b.net with seq := [], exc := [], looks := 0, lookAt := 0 } } : Block).resetRegs 0x34000 0x35000

end Block

end Sys2Proof.Machine
end

