-- ==== Sys2Proof/Machine/Cdc.lean ====
section
/-! DEFINITION. Clock crossings and islands (R454–R473). What crosses has its effect within the step that sends it; a
pending count falls at idle steps (log 36). -/
namespace Sys2Proof.Machine

namespace Block

/-- SPEED_MEASUREMENT (R457). -/
def speedMeas (v : Nat) (b : Block) : Block :=
  let b := b.setF F.CDC_SPEED_SPEED 0 v
  if v < 640 then b.setF F.CDC_SPEED_SLOW 0 1 else b

/-- CDC_CLEAR_PEAK (R473). -/
def clearPeak (b : Block) : Block := forN 64 (fun x b => b.setF F.CDC_XSTAT_PEAK x (b.getF F.CDC_XSTAT_PEND x)) b

/-- The domain that crossing x leads into (R33, R67, R469). -/
def crossDom (x : Nat) : Nat :=
  if x < 4 ∨ x = 7 then 4 else if x < 6 then 11 else if x = 6 then 9 else if x < 24 then 5 else if x < 44 then 6 else if x < 49 then 7
  else if x < 53 then 8 else if x < 55 then 9 else 0

/-- Entries of crossing x are discarded as its domain loses power: DROP and LOST, and no event (R468). -/
def xDrop (x n : Nat) (b : Block) : Block :=
  if n = 0 then b else (((b.setF F.CDC_XSTAT_PEND x 0).setF F.CDC_XSTAT_DROP x 1).satF F.CDC_XSTAT_LOST x n).cdcSync x

/-- The pending events of the crossings into a domain are discarded (R468). -/
def xPurge (d : Nat) (b : Block) : Block :=
  forN 55 (fun x b => if crossDom x = d then b.xDrop x (b.getF F.CDC_XSTAT_PEND x) else b) b

/-- One round trip of every crossing with pending events: it delivers one of them (R459, log 36). Crossing 55 holds its
own until PD1 is released (R471). -/
def xTrip (b : Block) : Block :=
  let held := !b.pg 1 || !(b.pw.inReset == .none)
  forN 56 (fun x b => if b.getF F.CDC_XSTAT_PEND x = 0 || (x == 55 && held) then b else b.setF F.CDC_XSTAT_PEND x (b.getF F.CDC_XSTAT_PEND x - 1)) b

/-- Islands of a domain at its power good, and off (R33, R465). -/
def islandsUp (d : Nat) (b : Block) : Block :=
  if d = 1 then b.islandRun 8 else if d = 4 then b.islandRun 0 else if d = 6 then b.islandRun 1 else if d = 7 then b.islandRun 2
  else if d = 8 then ((b.islandRun 3).islandRun 4).islandRun 5 else if d = 9 then (b.islandGate 6).islandGate 7 else b
def islandsDown (d : Nat) (b : Block) : Block :=
  if d = 4 then b.islandOff 0 else if d = 6 then b.islandOff 1 else if d = 7 then b.islandOff 2
  else if d = 8 then ((b.islandOff 3).islandOff 4).islandOff 5 else if d = 9 then (b.islandOff 6).islandOff 7 else b

end Block

end Sys2Proof.Machine
end

