-- ==== Sys2Proof/Machine/Lamp.lean ====
section
/-! DEFINITION. Lamp channels, RGB groups and LED matrices (R217–R245): fades as they run, lamp diagnosis, scan and
matrix diagnosis. -/
namespace Sys2Proof.Machine

namespace Block

/-! ### Levels and duty (R220–R225) -/

/-- DUTY of a single lamp channel (R220). -/
def lampDuty (b : Block) (n : Nat) : Nat := min 65536 ((b.lampLevel n * b.getF F.LMP_CFG_GAIN n + 16384) / 32768)

/-- Coefficients of member i of group g (R224, R241). -/
def mixRow (b : Block) (g i : Nat) : List Nat :=
  if i = 0 then [b.getF F.LMP_MIXA_M00 g, b.getF F.LMP_MIXA_M01 g, b.getF F.LMP_MIXB_M02 g]
  else if i = 1 then [b.getF F.LMP_MIXB_M10 g, b.getF F.LMP_MIXC_M11 g, b.getF F.LMP_MIXC_M12 g]
  else [b.getF F.LMP_MIXD_M20 g, b.getF F.LMP_MIXD_M21 g, b.getF F.LMP_MIXE_M22 g]

/-- Mixed DUTY of member i for the components cs (R224). -/
def mixDuty (b : Block) (g i : Nat) (cs : List Nat) : Nat :=
  let sum : Int := ((b.mixRow g i).zip cs).foldl (fun s p => s + sgn 16 p.1 * (p.2 : Int)) 8192
  min 65536 (sum / 16384).toNat

/-- Write the DUTY that the lamp logic gives a channel; a disabled, locked, held or fail-safe channel, and one that the
pair's role keeps off, keeps its command (R126, R134, R226, R631). -/
def lampOut (n duty : Nat) (b : Block) : Block :=
  let st := b.chState n
  if b.underWeir || st == Ch.disabled || st == Ch.locked || b.pairHeld n then b
  else
    let b := if b.cget C.duty n == duty && (b.ch n).flash.isNone then b else b.setCmd n 0 duty
    b.commandActs n

/-- Set the levels of fade i and write the resulting DUTY (R220, R224). -/
def fadeLevels (i : Nat) (vs : List Nat) (b : Block) : Block :=
  let cs := b.fadeChans i
  let b := (cs.zip vs).foldl (fun b p => b.setF F.LMP_LEVEL_LEVEL p.1 p.2) b
  if i < 96 then b.lampOut i (b.lampDuty i)
  else ((cs.zip [0, 1, 2])).foldl (fun b p => b.lampOut p.1 (b.mixDuty (i - 96) p.2 vs)) b

/-- CURVE of fade i (R222, R224). -/
def fadeCie (b : Block) (i : Nat) : Bool := if i < 96 then b.flag F.LMP_CFG_CURVE i else b.flag F.LMP_GRP_CURVE (i - 96)

/-- A fade has reached its TARGET. -/
def fadeEnd (i : Nat) (b : Block) : Block :=
  match b.fadeOf i with
  | none => b
  | some f =>
    let b := (b.setFade i none).fadeLevels i f.target
    (b.fadeChans i).foldl (fun b n => (b.setF F.LMP_FADE_FADING n 0).setF F.LMP_FADE_REMAIN n 0) b

/-- A new lamp command: the fade is replaced and starts from the current LEVEL at the next period start; one whose
TARGET equals the LEVEL ends at once (R222, R226). -/
def fadeNew (i : Nat) (ts : List Nat) (ms : Nat) (b : Block) : Block :=
  let cs := b.fadeChans i
  let start := cs.map b.lampLevel
  let b := cs.foldl (fun b n => b.fadeFlagsOff n) b
  let b := (cs.zip ts).foldl (fun b p => b.setF F.LMP_TARGET_TARGET p.1 p.2) b
  let b := cs.foldl (fun b n => (b.setF F.LMP_FADE_FADING n 1).setF F.LMP_FADE_REMAIN n ms) b
  let b := b.setFade i (some { start := start, target := ts, total := ms })
  if start = ts then b.fadeEnd i else b

/-- A period of channel n starts: a waiting fade starts, one whose FADE ms are over ends (R222). That of a group is
timed by its first member. -/
def lampPeriod (n : Nat) (b : Block) : Block :=
  let i := match b.groupOf n with
    | some g => if b.getF F.LMP_GRP_CH0 g = n then 96 + g else n
    | none => n
  match b.fadeOf i with
  | none => b
  | some f =>
    if f.frozen then b
    else if f.total ≤ f.passed then b.fadeEnd i
    else b.setFade i (some { f with started := true })

/-- FADE_STEP (R221, R222, R224): 1 ms of every running fade. -/
def fadeStep (b : Block) : Block :=
  b.fades.foldl (fun b i =>
    match b.fadeOf i with
    | none => b
    | some f =>
      if !f.started || f.frozen then b
      else
        let f := { f with passed := min f.total (f.passed + 1) }
        let vs := (f.start.zip f.target).map fun p => fadeValue (b.fadeCie i) p.1 p.2 f.passed f.total
        let b := (b.setFade i (some f)).fadeLevels i vs
        (b.fadeChans i).foldl (fun b n => b.setF F.LMP_FADE_REMAIN n (f.total - f.passed)) b) b

/-! ### RGB groups (R223) -/

/-- The conditions of R223 for group g. -/
def grpOk (b : Block) (g : Nat) : Bool :=
  match b.grpChans g with
  | [x, y, z] =>
    let cs := [x, y, z]
    cs.all (fun n => decide (n < 96) && b.flag F.HSW_CFG_LAMP n && !b.isFollower n && !b.flag F.LMP_CFG_INGRP n) &&
    dieOf x == dieOf y && dieOf y == dieOf z && !(x == y) && !(y == z) && !(x == z) &&
    b.cget C.period x == b.cget C.period y && b.cget C.period y == b.cget C.period z
  | _ => false

/-- Leave group g: its members are free again. -/
def grpOff (g : Nat) (b : Block) : Block :=
  if b.flag F.LMP_GRP_EN g then
    let b := (b.grpChans g).foldl (fun b n => (b.fadeFlagsOff n).setF F.LMP_CFG_INGRP n 0) b
    (b.setFade (96 + g) none).setF F.LMP_GRP_EN g 0
  else b

/-- A word written to LMP_GRP[g]: the membership is built up anew; EN = 1 with a condition of R223 not met leaves
EN = 0 and sets GERR (R223, R241). -/
def grpWrite (g w : Nat) (b : Block) : Block :=
  let b := b.grpOff g
  let b := ((b.setF F.LMP_GRP_CH0 g (bits w 6 0)).setF F.LMP_GRP_CH1 g (bits w 14 8)).setF F.LMP_GRP_CH2 g (bits w 22 16)
  let b := b.setF F.LMP_GRP_CURVE g (bits w 26 26)
  if !bit w 24 then b
  else if b.grpOk g then
    let b := (b.setF F.LMP_GRP_EN g 1).setF F.LMP_GRP_GERR g 0
    (b.grpChans g).foldl (fun b n => ((b.fadeFlagsOff n).setFade n none).setF F.LMP_CFG_INGRP n 1) b
  else b.setF F.LMP_GRP_GERR g 1

/-! ### Diagnosis of lamps (R227, R228) -/

/-- Expected current of channel n for its output voltage in mV (R228). -/
def lampExpect (b : Block) (n : Nat) (mv : Int) : Int :=
  let i : Int := b.getF F.LMP_IWIN_ILAMP n
  if b.flag F.LMP_IWIN_PWRLAMP n then i * (if b.flag F.PWR_CFG_SYSV 0 then 12000 else 24000) / mv else i

/-- One on-state sample of an HS channel: its current, and the output voltage in steps of 2 mV. `ol`: the same sample sets
OL (R228). -/
def lampSample (p cur vout : Nat) (ol : Bool) (b : Block) : Block :=
  if isHb p then b
  else
    let b := b.setF F.LMP_DIAG_LASTI p cur
    let mv := sgn 16 vout * 2
    if b.getF F.LMP_IWIN_ILAMP p == 0 || decide (mv < (if b.flag F.PWR_CFG_SYSV 0 then 3000 else 6000)) then b
    else
      let e := b.lampExpect p mv
      let tol : Int := b.getF F.LMP_IWIN_TOL p
      let low := decide ((cur : Int) * 100 < e * (100 - tol))
      let high := decide (e * (100 + tol) < (cur : Int) * 100)
      let lo := if low then Tab.get 0 b.lmp.lows p + 1 else 0
      let hi := if high then Tab.get 0 b.lmp.highs p + 1 else 0
      let b := { b with lmp := { b.lmp with lows := Tab.put b.lmp.lows p lo, highs := Tab.put b.lmp.highs p hi } }
      let cnt := max 1 (b.cget C.olcnt p)
      let b := if low && decide (cnt ≤ lo) && !ol then b.stick F.LMP_DIAG_LOWI p (16 + p) else b
      if high && decide (cnt ≤ hi) then b.stick F.LMP_DIAG_HIGHI p (16 + p) else b

/-! ### Matrix ports (R229–R236) -/

/-- On-time in ticks of an LED with intensity v (R230). -/
def ledOn (v : Nat) : Nat := v * 24760 / 255

/-- Intensity of LED e in a buffer. -/
def ledAt (buf : List Byte) (e : Nat) : Nat := (buf.getD e 0).toNat

/-- Line i, or column j, of port k has tripped. -/
def lineOff (b : Block) (k i : Nat) : Bool := bit (b.getF F.MTX_LFLT_LSHORT k) i
def colOff (b : Block) (k j : Nat) : Bool := bit (b.getF F.MTX_CFLT_CSHORT k) j

/-- Turn line i of port k on: its columns sink for their on-times (R229, R230, R235). -/
def mtxLine (k i : Nat) (b : Block) : Block :=
  b.updMtx k fun p => { p with
    line := i
    onTicks := (List.range 32).map fun j => if b.lineOff k i || b.colOff k j then 0 else ledOn (ledAt p.front (32 * i + j)) }

/-- Switch port k to line i: the blanking sequence of R231, whose columns stand at VMX − VPRE, and the line. -/
def mtxSwitch (k i : Nat) (b : Block) : Block :=
  let pre : Int := (b.getF F.MTX_VMX_VSET k : Int) * 100 - (b.getF F.MTX_CFG_VPRE k : Int) * 250
  (b.send (.mtxBlank k [(0, .sinksOff), (40, .lineOff (b.mtx k).line pre), (200, .release), (240, .lineOn i)])).mtxLine k i

/-- MATRIX_ENABLE (R232, R236): a port that is DISABLED or stopped by VMX_FAULT starts. Runs of equal results begin anew. -/
def mtxEnable (k : Nat) (b : Block) : Block :=
  let b := b.setF F.MTX_CFG_EN k 1
  let s := b.getF F.MTX_STAT_STATE k
  if s == 0 || s == 3 then
    (b.setF F.MTX_STAT_STATE k (if Tab.get false b.pw.feedOff 2 then 2 else 1)).updMtx k fun p => { p with runs := [] }
  else b

/-- Result of one check: 0 OK, 1 open, 2 short, for a column voltage and a rail in mV (R234). -/
def ledResult (mv rail : Nat) : Nat := if mv < 300 then 1 else if rail < mv + 1200 then 2 else 0

/-- The map of port k becomes `leds`: OPENCNT, SHORTCNT and LOPEN follow (R235, R242). -/
def mtxMap (k : Nat) (leds : List Nat) (b : Block) : Block :=
  let count (r : Nat) : Nat := (leds.filter fun x => x % 4 == r).length
  let lopen := (List.range 16).foldl (fun m i =>
    if (List.range 32).all fun j => leds.getD (32 * i + j) 3 % 4 == 1 then m + 2 ^ i else m) 0
  let b := b.updMtx k fun p => { p with leds := leds }
  ((b.setF F.MTX_DCNT_OPENCNT k (count 1)).setF F.MTX_DCNT_SHORTCNT k (count 2)).setF F.MTX_LFLT_LOPEN k lopen

/-- LEDs of an off line or column read as unchecked (R235). -/
def mtxUncheck (k : Nat) (b : Block) : Block :=
  let p := b.mtx k
  let off (e : Nat) : Bool := b.lineOff k (e / 32) || b.colOff k (e % 32)
  (b.updMtx k fun p => { p with runs := (List.range 512).map fun e => if off e then (0, 0) else p.runs.getD e (0, 0) }).mtxMap k
    ((List.range 512).map fun e => if off e then 3 else p.leds.getD e 3)

/-- The per-frame diagnosis of port k (R234, R235, R244). `volts`: column voltages in mV by LED, where not in the
window of a good LED. -/
def mtxDiag (k rail : Nat) (volts : List (Nat × Nat)) (b : Block) : Block :=
  let p := b.mtx k
  let mcnt := max 1 (b.getF F.MTX_CFG_MCNT k)
  let one (e : Nat) : Nat × (Nat × Nat) :=
    let old := p.leds.getD e 3
    let run := p.runs.getD e (0, 0)
    if b.lineOff k (e / 32) || b.colOff k (e % 32) then (3, (0, 0))
    else
      let meth := if 320 ≤ ledOn (ledAt p.front e) then 0 else 4
      let r := match volts.find? fun v => v.1 == e with
        | some v => ledResult v.2 rail
        | none => 0
      let c := if run.1 = r then run.2 + 1 else 1
      (if mcnt ≤ c then r + meth else old, (r, min c 15))
  let res := (List.range 512).map one
  let leds := res.map Prod.fst
  let newly (r : Nat) : Bool := (leds.zipIdx).any fun x => x.1 % 4 == r && !(p.leds.getD x.2 3 % 4 == r)
  let o := newly 1
  let s := newly 2
  let b := (b.updMtx k fun p => { p with runs := res.map Prod.snd }).mtxMap k leds
  let b := if o then b.stick F.MTX_STAT_LEDOPEN k (184 + k) else b
  if s then b.stick F.MTX_STAT_LEDSHORT k (184 + k) else b

/-- MATRIX_FRAME_START (R229, R231, R233, R234): on every scanning port the frame that ends is judged and counted, the
buffers swap where a frame waits, and line 0 turns on. The first frame start of a port that begins to scan ends none. `rails`: VMX of the four ports in 0.1 V; `volts`: port, LED, mV. -/
def mtxFrameStart (rails : List Nat) (volts : List (Nat × Nat × Nat)) (b : Block) : Block :=
  forN 4 (fun k b =>
    if b.getF F.MTX_STAT_STATE k == 1 then
      let rail := rails.getD k 0
      let b := b.setF F.MTX_VMX_VOUT k rail
      let was := (b.mtx k).scanned
      let b := if b.flag F.MTX_CFG_DIAGEN k && was then
          b.mtxDiag k (rail * 100) ((volts.filter fun v => v.1 == k).map Prod.snd) else b
      let b := b.updMtx k fun p => if p.swap then { p with front := p.back, swap := false } else p
      if was then (b.wrapF F.MTX_STAT_FRAMES k 1).mtxSwitch k 0 else (b.updMtx k fun p => { p with scanned := true }).mtxLine k 0
    else b) b

/-- MATRIX_LINE_SWITCH (R229–R231): every scanning port goes on to its next line. -/
def mtxLineSwitch (b : Block) : Block :=
  forN 4 (fun k b => if b.getF F.MTX_STAT_STATE k == 1 && (b.mtx k).scanned then b.mtxSwitch k (((b.mtx k).line + 1) % 16) else b) b

/-- VMX_FAULT (R232): the rail, in 0.1 V, is out of ±10 % of VSET for 1 ms. -/
def vmxFault (k vout : Nat) (b : Block) : Block :=
  let v := b.getF F.MTX_VMX_VSET k
  if b.getF F.MTX_STAT_STATE k == 1 && (decide (vout * 10 < v * 9) || decide (v * 11 < vout * 10)) then
    let b := (b.setF F.MTX_VMX_VOUT k vout).setF F.MTX_STAT_STATE k 3
    (b.updMtx k fun p => { p with onTicks := [], scanned := false }).stick F.MTX_STAT_VMXF k (184 + k)
  else b

/-- LINE_SHORT_TRIP (R235). -/
def lineTrip (k i ma : Nat) (b : Block) : Block :=
  if b.getF F.MTX_STAT_STATE k == 1 && decide (6000 < ma) && !b.lineOff k i then
    let b := b.setF F.MTX_LFLT_LSHORT k (b.getF F.MTX_LFLT_LSHORT k ||| 2 ^ i)
    let b := if (b.mtx k).line = i then b.updMtx k fun p => { p with onTicks := List.replicate 32 0 } else b
    (b.mtxUncheck k |>.setF F.MTX_STAT_LINEF k 1).raiseOpen (184 + k)
  else b

/-- COLUMN_SHORT_TRIP (R235). -/
def colTrip (k j ma : Nat) (b : Block) : Block :=
  if b.getF F.MTX_STAT_STATE k == 1 && decide (250 < ma) && !b.colOff k j then
    let b := b.setF F.MTX_CFLT_CSHORT k (b.getF F.MTX_CFLT_CSHORT k ||| 2 ^ j)
    let b := b.updMtx k fun p => { p with onTicks := p.onTicks.set j 0 }
    (b.mtxUncheck k |>.setF F.MTX_STAT_COLF k 1).raiseOpen (184 + k)
  else b

/-- Clear the LSHORT bits of a mask: those lines scan again (R235, R242). -/
def lineRestart (k m : Nat) (b : Block) : Block :=
  let s := b.getF F.MTX_LFLT_LSHORT k
  b.setF F.MTX_LFLT_LSHORT k (s - (s &&& m))

/-- Clear the CSHORT bits of a mask (R235, R242). -/
def colRestart (k m : Nat) (b : Block) : Block :=
  let s := b.getF F.MTX_CFLT_CSHORT k
  b.setF F.MTX_CFLT_CSHORT k (s - (s &&& m))

/-- The back buffer of port k takes a frame (R233). -/
def mtxFrame (k : Nat) (data : List Byte) (b : Block) : Block := b.updMtx k fun p => { p with back := data, swap := true }

/-- MTX_READ (R243, R244). -/
def mtxRead (d : Desc) (b : Block) : Block × Compl :=
  let k := bits (d.dw 8) 1 0
  if !(d.ok 0x49 272 65536 [0, 0, 0, 3]) then (b, .of St.badDesc)
  else
    let l := (b.mtx k).leds
    let map := (List.range 256).map fun i => BitVec.ofNat 8 (l.getD (2 * i) 3 + 16 * l.getD (2 * i + 1) 3)
    (b, { status := St.ok, cw2 := 1, data := leBytes 4 (b.rd R.MTX_STAT k) ++ leBytes 4 (b.rd R.MTX_LFLT k) ++
      leBytes 4 (b.rd R.MTX_CFLT k) ++ leBytes 4 (b.rd R.MTX_DCNT k) ++ map })

/-- MTX_CLEAR (R243, R245). -/
def mtxClearDesc (d : Desc) (b : Block) : Block × Compl :=
  let ks := (List.range 4).filter fun k => bit (d.dw 8) k
  if !(d.ok 0x4A 0 0 [0, 0, 0, 0x30F]) || ks.isEmpty then (b, .of St.badDesc)
  else
    let no (k : Nat) : Bool := Tab.get false b.pw.linkFail k || b.getF F.MTX_STAT_STATE k == 0 || b.getF F.MTX_STAT_STATE k == 3
    let hit := ks.filter fun k => !no k
    let miss := ks.filter no
    let dies := miss.foldl (fun m k => m ||| 2 ^ k) 0
    let none := if ks.all fun k => b.getF F.MTX_STAT_STATE k == 0 then St.disabled
      else if ks.all fun k => Tab.get false b.pw.linkFail k then St.hwFault else St.refused
    let b := hit.foldl (fun b k =>
      let b := if bit (d.dw 8) 8 then b.wr R.MTX_STAT k (putBits (b.rd R.MTX_STAT k) 6 2 0) else b
      if bit (d.dw 8) 9 then (b.lineRestart k 0xFFFF).colRestart k 0xFFFFFFFF else b) b
    (b, { status := partStatus hit.length miss.length none, cw2 := hit.length + miss.length * 256, cw3 := dies })

end Block

end Sys2Proof.Machine
end

