-- ==== Sys2Proof/Machine/Chan.lean ====
section
/-! DEFINITION. The events of the power channels (R101–R123, R143), the weir's commands (R129–R138), and the full bridges
(R163–R171). -/
namespace Sys2Proof.Machine

/-- EV(16 + p) of channel p (R143, R174). -/
def evOf (p : Nat) : Nat := 16 + p

namespace Block

/-- Set a sticky bit of channel p and raise its source where the bit was 0 (R143). -/
def cstick (f : ChField) (p : Nat) (b : Block) : Block :=
  if b.cflag f p then b else (b.cset f p 1).raiseOpen (evOf p)

/-- Channel q enters LOCKED, with its event (R143). -/
def enterLocked (q : Nat) (b : Block) : Block :=
  if b.chState q == Ch.locked then b else (b.cset C.state q Ch.locked).raiseOpen (evOf q)

/-- Enter LOCKED: command 0, LOCKCAUSE, LOCKED, and the event of each member (R126, R143). A DISABLED channel keeps its
state, and enters LOCKED when it is enabled. -/
def lockChan (p cause : Nat) (b : Block) : Block :=
  let l := b.lead p
  let b := (b.cutOutput l).onPair l fun q b =>
    let b := ((b.setCmd q 0 0).cset C.lockCause q cause).cset C.locked q 1
    if b.chState q == Ch.disabled then b else b.enterLocked q
  (if isHb l then b else b.lampLocked l).endFunction l

/-- EN written 1: from DISABLED to OFF with DUTY = 0, or back to LOCKED (R125, R126). EN of the leading channel governs
a pair; that of the other is stored without effect (R109, R176). -/
def chEnable (p : Nat) (b : Block) : Block :=
  let b := b.cset C.en p 1
  if b.isFollower p || !(b.chState p == Ch.disabled) then b
  else
    let b := b.onPair p fun q b => b.setCmd q 0 0
    if b.cflag C.locked p then b.onPair p fun q b => b.enterLocked q else b.setChState p Ch.off

/-- The second channel of p's pair has a lock or a latch of its own as the pair forms: a lock of either locks both, with
its cause, and a latch of either makes a pair that is on wait in THERMAL (R109, R126, log 151). -/
def joinFaults (p : Nat) (b : Block) : Block :=
  let q := p + 1
  let st := b.chState p
  if b.cflag C.locked p || b.cflag C.locked q then
    let cause := b.cget C.lockCause (if b.cflag C.locked p then p else q)
    let b := if st == Ch.disabled then b.cset C.state q Ch.disabled
      else if b.chState q == Ch.disabled then b.cset C.state q Ch.off else b
    b.lockChan p cause
  else
    let b := b.cset C.state q st
    if (st == Ch.on || st == Ch.limit || st == Ch.retryWait) && b.latched p then (b.cutOutput p).setChState p Ch.thermal
    else b.takeDuty p

/-- PAR or FB of channel p, an even one, has been set or cleared (R109, R160, log 151): a second channel that is joined
takes the state, the retry counter and the output of channel p, and one that is split off its own EN; its command is 0. -/
def rejoin (p : Nat) (b : Block) : Block :=
  let q := p + 1
  let b := (b.cutOne q).setCmd q 0 0
  if b.isFollower q then
    let b := (b.cset C.retryLeft q (b.cget C.retryLeft p)).updCh q fun c =>
      { c with wait := false, k := 0, offUnder := (b.ch p).offUnder }
    b.joinFaults p
  else if b.cget C.en q == 0 then b.cset C.state q Ch.disabled
  else if b.cflag C.locked q then b.enterLocked q else b.cset C.state q Ch.off

/-- A protective turn-off of channel p (R109, R115, R116, R128, R160): both members turn off, the partner shows
PARFAULT or FBFAULT, the retry counter of the leading channel decides. DESIGN CHOICE: HB_FBSTAT.DIR keeps the direction
that the suspended function commands while the bridge coasts (log 154). DEDUCED: one in a period that runs on after the
command became 0 leaves the channel OFF, its back-off running (log 198). -/
def protectiveOff (p : Nat) (b : Block) : Block :=
  let l := b.lead p
  let b := if b.partner p == p then b else b.cstick C.partner (b.partner p)
  let b := b.cutOutput l
  if b.cget C.retryLeft l == 0 then b.lockChan l 1
  else
    let k := (b.ch l).k + 1
    let base := if b.cget C.boff l = 0 then 1 else b.cget C.boff l
    let ms := if b.cflag C.boffDbl l then min (base * 2 ^ (k - 1)) 4000 else base
    let b := b.updCh l fun c => { c with k := k, wait := true, boff := ms }
    if b.chState l == Ch.off then b else b.setChState l (if b.latched l then Ch.thermal else Ch.retryWait)

/-- The low side of half-bridge p is the switch that trips (R159): the one that the running period, or the OUT of a DC
state, lets conduct; where both alternate, the one that `low` tells. -/
def lowTrips (b : Block) (p : Nat) (low : Bool) : Bool :=
  let c := b.ch p
  if b.inPeriod p then decide (0 < c.lowTicks) && (low || c.highTicks == 0)
  else match b.drive p with
  | (2, _) => true
  | (1, 65536) => false
  | (1, 0) => b.alternates p
  | (1, _) => low && b.alternates p
  | _ => low

/-- A short-circuit trip is recorded: SC, and the switch of a half-bridge (R112, R159). -/
def recordTrip (p : Nat) (low : Bool) (b : Block) : Block :=
  let l := b.lowTrips p low
  let b := b.cstick C.sc p
  if isHb p then b.setF F.HB_STAT_SCLOW (p - 96) (b2n l) else b

/-- SHORT_CIRCUIT_TRIP (R112, R159): a current above the trip threshold while the output conducts. Where a cause of a
higher rank has turned the output off in the same tick, the trip is recorded and nothing else follows (R120, log 155). -/
def shortTrip (p : Nat) (low : Bool) (ma : Nat) (b : Block) : Block :=
  if ma ≤ tripMa p then b
  else if b.carries p then (b.recordTrip p low).protectiveOff p
  else if (b.ch p).cutAt == some b.pw.tbase then b.recordTrip p low
  else b

/-- LINEAR_LIMIT (R113, R125): ILIM, and LIMIT out of ON. Each channel of a pair limits its own current (R109). -/
def linearLimit (p ma : Nat) (b : Block) : Block :=
  if b.carries p && decide (b.limitMa p ≤ ma) then
    let b := (b.cstick C.ilim p).updCh p fun c => { c with limiting := true }
    if b.chState p == Ch.on then b.setChState p Ch.limit else b
  else b

/-- LINEAR_LIMIT_END (R113, R125): ON again once no member of the pair limits. -/
def linearLimitEnd (p ma : Nat) (b : Block) : Block :=
  if b.limitMa p ≤ ma then b
  else
    let b := b.updCh p fun c => { c with limiting := false }
    if b.chState p == Ch.limit && !(b.ch (b.partner p)).limiting then b.setChState p Ch.on else b

/-- THERMAL_LATCH (R114): the junction, in 1/16 °C, is at 175 °C or above. A conducting output turns off; a
waiting channel waits in THERMAL while the latch is set (R116). -/
def thermalLatch (p : Nat) (tj : Int) (b : Block) : Block :=
  if (b.ch p).latch || decide (tj < 175 * 16) then b
  else
    let cond := b.carries p
    let b := b.updCh p fun c => { c with latch := true }
    let b := b.cstick C.ot p
    if cond then b.protectiveOff p
    else if b.chState p == Ch.retryWait then b.setChState p Ch.thermal else b

/-- REARM_TIMEOUT (R117): ON without a protective turn-off for (REARM + 1) × 250 ms. -/
def rearmTimeout (p : Nat) (b : Block) : Block :=
  if b.chState p == Ch.on then b.loadRetry p else b

/-- Bring WINSUM, and COUNT of an HS channel, up to date with the clamp window (R118, R149). DESIGN CHOICE: the clamp
registers of the second channel of a pair or full bridge keep what they held (log 205). -/
def syncClamp (p : Nat) (b : Block) : Block :=
  let c := b.ch p
  let b := b.cset C.winsum p (min c.bucket.sum (2 ^ 24 - 1))
  if isHb p then b else b.setF F.HSW_LASTCLAMP_COUNT p (min c.events.sum 255)

/-- Add to the newest bucket. -/
def addHead (v : Nat) : List Nat → List Nat
  | [] => [v]
  | x :: xs => (x + v) :: xs

/-- CLAMP_EVENT_END (R118): the event's energy, in steps of 10 µJ, enters the window of the leading channel, and only
that channel's registers show it (log 205); a sum above the budget locks the channel now that the clamp has ended. -/
def clampEnd (p energy : Nat) (b : Block) : Block :=
  let l := b.lead p
  let b := b.updCh l fun c => { c with bucket := addHead energy c.bucket, events := addHead 1 c.events }
  let b := if isHb l then b else b.setF F.HSW_LASTCLAMP_LAST l (min energy (2 ^ 24 - 1))
  let b := b.syncClamp l
  if clampBudget l < (b.ch l).bucket.sum then
    let b := b.cstick C.clampx l
    if b.cflag C.locked l then b else b.lockChan l 2
  else b

/-- CLAMP_BUCKET_BOUNDARY (R118): a new bucket begins on every channel of the die and the oldest is dropped. -/
def bucketBoundary (die : Nat) (b : Block) : Block :=
  forN nChan (fun p b =>
    if dieOf p == die && !(b.ch p).bucket.isEmpty then
      (b.updCh p fun c => { c with bucket := 0 :: c.bucket.take 15, events := 0 :: c.events.take 15 }).syncClamp p
    else b) b

/-- REVERSE_CURRENT (R111): the output of a channel that is on lies more than 0.2 V above its feed. -/
def reverseCurrent (n mv : Nat) (b : Block) : Block :=
  if b.carries n && decide (200 < mv) then
    let b := b.updCh n fun c => { c with rev := true }
    (b.stick F.HSW_STAT_REV n (evOf n)).setF F.HSW_MEAS_CURR n 0
  else b

/-! ### PWM and diagnosis (R104–R108, R121–R123) -/

/-- On-time in ticks before the 2 µs rule (R104). -/
def onTime (period duty : Nat) : Nat := (period * duty + 32768) / 65536

/-- On-time and off-time after the 2 µs rule, and whether it adjusted them (R104, R105). -/
def pwmTimes (period duty : Nat) (minon : Bool) : Nat × Nat × Bool :=
  let on := onTime period duty
  let off := period - on
  if 1 ≤ on ∧ on ≤ 319 then (let t := if minon then 0 else 320; (t, period - t, true))
  else if 1 ≤ off ∧ off ≤ 319 then (period, 0, true)
  else (on, off, false)

/-- One open-load result by a method (R123). -/
def olResult (p meth : Nat) (det : Bool) (b : Block) : Block :=
  let c := b.ch p
  let run := if det then (if c.olMeth = meth then c.olRun + 1 else 1) else 0
  let b := (b.updCh p fun c => { c with olRun := run, olMeth := meth }).cset C.olmeth p meth
  if det && decide (max 1 (b.cget C.olcnt p) ≤ run) then b.cstick C.ol p else b

/-- One short-to-battery result (R121, R123). -/
def sbResult (p : Nat) (det : Bool) (b : Block) : Block :=
  let run := if det then (b.ch p).sbRun + 1 else 0
  let b := b.updCh p fun c => { c with sbRun := run }
  if det && decide (max 1 (b.cget C.olcnt p) ≤ run) then b.cstick C.sb p else b

/-- Magnitude of a current sample: that of a half-bridge is two's complement (R164, R179). -/
def sampleMag (p cur : Nat) : Nat := if isHb p then (sgn 16 cur).natAbs else cur

/-- One on-state sample: the open-load check, then the lamp's current window (R122, R228). -/
def onState (p cur vout : Nat) (b : Block) : Block :=
  let det := b.cget C.olen p == 1 && decide (sampleMag p cur < b.cget C.olth p)
  let b := if b.cget C.olen p == 1 then b.olResult p 0 det else b
  b.lampSample p cur vout (det && decide (max 1 (b.cget C.olcnt p) ≤ (b.ch p).olRun))

/-- The check of the period that has just ended (R122, R164, R227). `cur`: current at the end of its on-interval in
sense steps; `vout`: output voltage then, in steps of 2 mV (R228); `high`: output above 3.5 V at the last tick of its
off-interval. DEDUCED: a period of a lamp that goes unchecked has OLMETH = 3, lit or not (log 156). -/
def periodCheck (p cur vout : Nat) (high : Bool) (b : Block) : Block :=
  let c := b.ch p
  if c.onTicks + c.offTicks = 0 then b
  else
    if windowTicks p ≤ c.onTicks then (b.cset C.curr p (if c.rev then 0 else cur)).onState p cur vout
    else if b.cget C.olen p == 0 || (isHb p && !(b.partner p == p)) then b
    else if !isHb p && b.flag F.HSW_CFG_LAMP p && b.cget C.puen p == 0 then b.cset C.olmeth p 3
    else b.olResult p 1 high

/-- Ticks of dead time between the two switches of a half-bridge (R162). -/
def deadTicks : Nat := 40

/-- Ticks for which the high and the low side of half-bridge p are on in a period with on- and off-time (R161, R162): the
dead time comes off the interval of the switch that turns on after the other, which may have been on since the period
before. With PWMMODE = 1 the low side stays off. -/
def sideTicks (b : Block) (p on off : Nat) : Nat × Nat :=
  let was := (b.ch p).side
  (on - (if isHb p && was = 2 then deadTicks else 0),
   if b.alternates p then off - (if !(on = 0) || was = 1 then deadTicks else 0) else 0)

/-- Switch that is on at the end of a period with this off-time. -/
def endSide (b : Block) (p off : Nat) : Nat := if off = 0 then 1 else if b.alternates p then 2 else 0

/-- PWM_PERIOD_START (R104–R106, R122, R162, R222, R227): the period that ends is checked, then the newest DUTY is taken.
A channel whose output is off or at DC has no period. -/
def periodStart (p cur vout : Nat) (high : Bool) (b : Block) : Block :=
  let b := b.periodCheck p cur vout high
  let b := if isHb p then b else b.lampPeriod p
  let l := b.lane p
  let duty := (b.drive p).2
  if duty = 0 || duty = 65536 then b.updCh p (restChan duty (b.dcSide p) (b.conducts p))
  else
    let period := b.cget C.period l
    let (on, off, adj) := pwmTimes period duty (b.cflag C.minon l)
    let ext := !isHb l && b.flag F.LMP_CFG_DEXT l && decide (0 < on) && decide (on < windowTicks l)
    let (on, off) := if ext then (windowTicks l, period - windowTicks l) else (on, off)
    let b := if adj then b.cstick C.minadj p else b
    let phase := if isHb l then 0 else b.getF F.HSW_PHASE_PHASE l % period
    let s := b.sideTicks p on off
    let side := b.endSide p off
    b.updCh p fun c => { c with
      duty := duty, onTicks := on, offTicks := off, highTicks := s.1, lowTicks := s.2, delay := phase, side := side }

/-- MEAS_UPDATE (R108, R122): 100 µs averages of current and output voltage, and the junction temperature. At
DUTY 65,536 the on-state check runs on the averaged current. DESIGN CHOICE: TJ.VALID stays set from the first reading
on (log 157); a die behind a failed internal link goes on measuring and diagnosing (log 199). -/
def measUpdate (p cur vout tj : Nat) (b : Block) : Block :=
  let c := b.ch p
  let feed := b.getF F.PWR_FEED_VOLT (feedOf p)
  let rev := c.rev && decide ((feed : Int) < sgn 16 vout * 2)
  let b := b.updCh p fun c => { c with rev := rev }
  let b := ((b.cset C.vout p vout).cset C.tjTemp p tj).cset C.tjValid p 1
  if c.onTicks + c.offTicks = 0 then
    let b := b.cset C.curr p (if rev then 0 else cur)
    if c.duty = 65536 && b.drive p == (1, 65536) then b.onState p cur vout else b
  else b

/-- OFF_STATE_CHECK (R121, R123, R164): the output above 3.5 V with the pull-up off, and with it on. During the check of
HB(2k) of a full bridge the low side of HB(2k+1) is switched on where its own drive does not keep it on; while the high
side there is in use the check cannot run. DESIGN CHOICE: OLEN = 0 leaves out
step 1 as well (log 158), and a check that ends at step 1 leaves the open-load count as it is (log 159). -/
def offCheck (p : Nat) (v1 v2 : Bool) (b : Block) : Block :=
  let low := isHb p && b.isPair p
  let other := b.carries (p + 1)
  if b.cget C.olen p == 0 || b.carries p || b.chState p == Ch.disabled ||
    (low && other && (b.inPeriod (p + 1) || !(b.dcSide (p + 1) == 2))) then b
  else
    let b := if low && !other then b.send (.lowSide (p - 95)) else b
    let b := b.sbResult p v1
    if b.cget C.puen p == 0 then (b.updCh p fun c => { c with olRun := 0, olMeth := 3 }).cset C.olmeth p 3
    else if v1 then b
    else b.olResult p 2 v2

/-! ### The weir's commands (R129–R138) -/

/-- One bit step of the CRC-8 of R130. -/
def crc8Step : Nat → Nat → Nat
  | 0, c => c
  | n + 1, c => crc8Step n (if bit c 7 then (c * 2 % 256) ^^^ 0x1D else c * 2 % 256)

/-- CRC-8 over SEQ: polynomial 0x1D, initial value and final XOR 0xFF (R130). -/
def hbCrc (seq : Nat) : Nat :=
  crc8Step 8 ((crc8Step 8 (0xFF ^^^ seq % 256)) ^^^ seq / 256 % 256) ^^^ 0xFF

/-- A heartbeat word is discarded (R130, R143). -/
def hbBad (b : Block) : Block :=
  ((b.setF F.WEIR_STAT_BADWORD 0 1).satF F.WEIR_COUNT_BADCNT 0 1).raise 254 (b.weirState + 4)

/-- WEIR_ARM (R129): ARM written 1; an RL field. -/
def weirArm (b : Block) : Block :=
  if b.isLocked then (if b.flag F.WEIR_CFG_ARM 0 then b else b.lateWrite)
  else if b.flag F.WEIR_CFG_ARM 0 then b
  else { (b.setF F.WEIR_CFG_ARM 0 1) with weir := { b.weir with anySeq := true } }

/-- A valid word is accepted: ARMED, WINDOW taken, and a pending reclaim completed (R130, R132, R135, R138). DESIGN
CHOICE: a word is accepted by all four instances together, those behind a failed internal link too (log 160). -/
def hbAccept (seq : Nat) (b : Block) : Block :=
  let st := b.weirState
  let b := (b.setF F.WEIR_STAT_LASTSEQ 0 seq).setWeir 1
  let b := { b with weir := { b.weir with anySeq := false, key := false, window := b.getF F.WEIR_CFG_WINDOW 0 } }
  if st < 2 then b
  else
    let b := whenB (st == 3) (forN nChan fun p b => b.reclaimCmd p) b
    let b := (forN nChan (fun p b => b.chReclaim p) b).reclaimHooks
    if st == 3 && b.getF F.PWR_STATE_STATE 0 == 3 then b.setF F.PWR_STATE_STATE 0 2 else b

/-- WEIR_HEARTBEAT (R129, R130, R135): a word written to WEIR_HB. -/
def heartbeat (seq crc : Nat) (b : Block) : Block :=
  if b.getF F.WEIR_CFG_ARM 0 == 0 then b
  else if !(crc == hbCrc seq) then b.hbBad
  else
    let st := b.weirState
    if st < 2 then
      if b.weir.anySeq || seq == (b.getF F.WEIR_STAT_LASTSEQ 0 + 1) % 65536 then b.hbAccept seq else b.hbBad
    else if b.weir.key then b.hbAccept seq else b.hbBad

/-- WEIR_RECLAIM_KEY (R135). -/
def reclaimKey (key : Nat) (b : Block) : Block :=
  if key = 0x4EC1 ∧ 2 ≤ b.weirState then { b with weir := { b.weir with key := true, anySeq := true } } else b

/-- WEIR_WINDOW_EXPIRY (R133). -/
def windowExpiry (b : Block) : Block :=
  let (b, os) := b.weirHold F.WEIR_STAT_MISSED
  b.raiseList os

/-- WEIR_RECLAIM_EXPIRY (R136, R137, R71, R73): all instances apply the table; Safe, except in Recovery. DESIGN CHOICE:
a joined bridge of which only one half has the code "hold last" ends its function (log 206). -/
def reclaimExpiry (b : Block) : Block :=
  if b.weirState == 2 then
    let b := { b with weir := { b.weir with
      flash := (List.range 4).map fun k => (k, (b.getF F.WEIR_FLASH_PERIOD k, b.getF F.WEIR_FLASH_ON k)) } }
    let b := (b.setWeir 3).satF F.WEIR_COUNT_APPLYCNT 0 1
    let b := forN nChan (fun p b => b.chApply p) b
    let b := forN 8 (fun k b =>
      if b.lead (97 + 2 * k) == 96 + 2 * k && !((b.ch (96 + 2 * k)).fsOut == .hold && (b.ch (97 + 2 * k)).fsOut == .hold)
      then b.endFunction (96 + 2 * k) else b) b
    let b := b.applyHooks
    let b := if b.getF F.PWR_STATE_STATE 0 == 2 then b.setF F.PWR_STATE_STATE 0 3 else b
    b.raise 254 3
  else b

/-- FLASH_PATTERN_EDGE (R137): pattern k of a die switches its outputs at its ON or PERIOD time. A pattern with
PERIOD or ON 0 stays off; one with ON above PERIOD stays on. -/
def flashEdge (die : Nat) (k : Fin 4) (on : Bool) (b : Block) : Block :=
  let pat := Tab.get (0, 0) b.weir.flash k.val
  let on := if pat.1 = 0 ∨ pat.2 = 0 then false else if pat.1 < pat.2 then true else on
  forN nChan (fun p b =>
    if dieOf p == die && (b.ch p).flash == some k && b.lane p == p then
      let outs := (if isHb p then [p] else if b.isPair p then [p, p + 1] else [p]).map fun q => (q, b.carries q)
      outs.foldl (fun b q => b.driveOne q.2 q.1) (b.updCh p fun c => { c with flashOn := on })
    else b) b

/-! ### Full bridges (R163–R171) -/

/-- Outputs of the two halves for a direction code: COAST, FWD, REV, BRAKE (R163). -/
def dirOuts (dir : Nat) (inv : Bool) : Nat × Nat :=
  if dir = 1 then (if inv then (2, 1) else (1, 2))
  else if dir = 2 then (if inv then (1, 2) else (2, 1))
  else if dir = 3 then (2, 2) else (0, 0)

/-- Drive full bridge k in a direction now. The last of FWD and REV counts until the bridge coasts. -/
def driveNow (k dir duty : Nat) (b : Block) : Block :=
  let outs := dirOuts dir (b.flag F.HB_FBCFG_DIRINV k)
  let p := 96 + 2 * k
  let b := (b.setF F.HB_FBSTAT_DIR k dir).updFb k fun f => { f with lastDir := if dir = 3 then f.lastDir else dir }
  let b := b.setCmd p outs.1 (if outs.1 = 1 then duty else 0)
  let b := b.setCmd (p + 1) outs.2 (if outs.2 = 1 then duty else 0)
  b.commandActs p

/-- Direction of full bridge k: a change between FWD and REV passes through BRAKE for 2 ms (R163), out of a BRAKE that was
commanded too. DEDUCED: a bridge that has coasted turns either way at once (log 161). -/
def setDir (k dir duty : Nat) (b : Block) : Block :=
  let b := b.updFb k fun f => { f with duty := duty }
  let f := b.fbr k
  if (f.lastDir = 1 ∧ dir = 2) ∨ (f.lastDir = 2 ∧ dir = 1) then
    (b.updFb k fun f => { f with next := some dir }).driveNow k 3 0
  else if f.next.isSome ∧ (dir = 1 ∨ dir = 2) then b.updFb k fun f => { f with next := some dir }
  else (b.updFb k fun f => { f with next := none }).driveNow k dir duty

/-- Coast and end the function. -/
def fbCoast (k : Nat) (b : Block) : Block := (b.updFb k fun f => { f with phase := .idle }).setDir k 0 0

/-- A function bit of FBk: EV(112 + 2k) where it goes from 0 to 1 (R174). -/
def fbStick (f : RegField) (k : Nat) (b : Block) : Block := b.stick f k (112 + 2 * k)

/-- FB_BRAKE_END (R163). -/
def fbBrakeEnd (k : Nat) (b : Block) : Block :=
  match (b.fbr k).next with
  | some dir => (b.updFb k fun f => { f with next := none }).driveNow k dir (b.fbr k).duty
  | none => b

/-- Filtered level of a digital input (R282). -/
def diLevel (b : Block) (n : Nat) : Nat := b.getF F.DIO_DISTAT_LEVEL n

/-- The wiper of FBk is at its park position (R166). -/
def inPark (b : Block) (k : Nat) : Bool := b.diLevel (b.getF F.HB_WIPE_PARKDI k) == b.getF F.HB_WIPE_PARKLVL k

/-- The park brake begins (R166). -/
def parkBrake (k : Nat) (b : Block) : Block := (b.updFb k fun f => { f with phase := .parkBrake }).setDir k 3 0

/-- WIPE with its action (R166): 0 = STOP, 1 = RUN, 2 = SINGLE. A LOCKED bridge coasts and has nothing to stop (R171).
DESIGN CHOICE: STOP leaves a wiper that does not run as it is, parked or not, and counts as applied (log 207). -/
def wipeAct (k act duty : Nat) (b : Block) : Block :=
  if b.chState (96 + 2 * k) == Ch.locked then b
  else if act = 1 then (b.updFb k fun f => { f with phase := .run }).setDir k 1 duty
  else if act = 2 then (b.updFb k fun f => { f with phase := if b.inPark k then .single else .back }).setDir k 1 duty
  else if b.inPark k then b.parkBrake k
  else if (b.fbr k).phase == .idle || (b.fbr k).phase == .parkBrake then b
  else b.updFb k fun f => { f with phase := .park }

/-- The function of full bridge k is suspended: its bridge waits after a protective turn-off (R171). -/
def suspended (b : Block) (k : Nat) : Bool :=
  let st := b.chState (96 + 2 * k)
  st == Ch.thermal || st == Ch.retryWait

/-- The wiper of FBk goes on by the filtered level of its park switch (R166). -/
def wiperStep (k : Nat) (b : Block) : Block :=
  match (b.fbr k).phase with
  | .park => if b.inPark k then b.parkBrake k else b
  | .single => if b.inPark k then b else b.updFb k fun f => { f with phase := .back }
  | .back => if b.inPark k then b.parkBrake k else b
  | _ => b

/-- A restart resumes the function that a protective turn-off suspended (R171). DEDUCED: a wiper that stands at its park
position by then parks (log 162). -/
def restart (p : Nat) (b : Block) : Block :=
  let l := b.lead p
  let k := fbIdx l
  let was := isHb l && b.isPair l && b.suspended k
  let b := b.tryRestart l
  if was && !b.suspended k && b.getF F.HB_FBCFG_FUNC k == 1 then b.wiperStep k else b

/-- THERMAL_LATCH_CLEAR (R114, R116): the junction has fallen to 160 °C. -/
def thermalClear (p : Nat) (tj : Int) (b : Block) : Block :=
  if !(b.ch p).latch || decide (160 * 16 < tj) then b
  else
    let b := b.updCh p fun c => { c with latch := false }
    if b.latched p then b
    else if b.chState p == Ch.thermal && (b.ch (b.lead p)).wait then b.setChState p Ch.retryWait
    else b.restart p

/-- BACKOFF_EXPIRY (R116): the back-off of the channel has ended. -/
def backoffExpiry (p : Nat) (b : Block) : Block :=
  let l := b.lead p
  if !(b.ch l).wait then b else (b.updCh l fun c => { c with wait := false }).restart l

/-- The filtered level of input n has changed: WIPER_PARK_REACHED and the course of SINGLE (R166). -/
def wiperInput (n : Nat) (b : Block) : Block :=
  forN 8 (fun k b =>
    if b.getF F.HB_FBCFG_FUNC k == 1 && b.getF F.HB_WIPE_PARKDI k == n && !b.suspended k then b.wiperStep k else b) b

/-- WIPER_BRAKE_END (R166): COAST, PARKED. -/
def wiperBrakeEnd (k : Nat) (b : Block) : Block :=
  if (b.fbr k).phase == .parkBrake && !b.suspended k then (b.fbCoast k).fbStick F.HB_FBSTAT_PARKED k else b

/-- WIPER_PARK_TIMEOUT (R166): COAST, PARKFAIL; it runs on while the park is suspended (R181, example). -/
def wiperTimeout (k : Nat) (b : Block) : Block :=
  if (b.fbr k).phase == .park then (b.fbCoast k).fbStick F.HB_FBSTAT_PARKFAIL k else b

/-- Direction of a move from the present position to a target (R167): FWD opens, REV closes. -/
def winDir (b : Block) (k target : Nat) : Nat :=
  let pos := sgn 16 (b.getF F.HB_WINPOS_POS k)
  let t := sgn 16 target
  if pos < t then 1 else if t < pos then 2 else 0

/-- WIN_MOVE (R169): stop, or a move to the target, which replaces one that runs. One in the same direction goes on with
the ripples that it has counted (R168). -/
def winMove (k target duty : Nat) (b : Block) : Block :=
  if target = 0x8000 then b.fbCoast k
  else
    let dir := b.winDir k target
    if dir = 0 then b.fbCoast k
    else
      let goesOn := (b.fbr k).phase == .move && b.getF F.HB_FBSTAT_DIR k == dir
      (b.updFb k fun f => if goesOn then { f with target := target }
        else { f with phase := .move, target := target, ripples := 0, last := [] }).setDir k dir duty

/-- An interval of 50 Hz to 5 kHz, in µs (R167). -/
def rippleOk (us : Nat) : Bool := decide (200 ≤ us) && decide (us ≤ 20000)

/-- WINDOW_RIPPLE (R167, R168): POS counts, a move ends at its target, a reversal after its ripples. `us`: the interval
since the ripple before; the first of a run has none. -/
def ripple (k ma us : Nat) (b : Block) : Block :=
  let dir := b.getF F.HB_FBSTAT_DIR k
  if !(dir == 1 || dir == 2) || b.suspended k || !((b.fbr k).ripples == 0 || rippleOk us) then b
  else
    let pos := b.getF F.HB_WINPOS_POS k
    let pos := if dir = 1 then (pos + 1) % 65536 else (pos + 65535) % 65536
    let b := (b.setF F.HB_WINPOS_POS k pos).updFb k fun f =>
      { f with ripples := f.ripples + 1, last := ((ma, if f.ripples = 0 then 0 else us) :: f.last).take 16, revLeft := f.revLeft - 1 }
    match (b.fbr k).phase with
    | .move => if pos = (b.fbr k).target then b.fbCoast k else b
    | .reverse => if (b.fbr k).revLeft = 0 then b.fbCoast k else b
    | _ => b

/-- The closed end stop is reached (R167): POS 0, TRAVEL, NORM; a run from the open end whose count is off by more than
5 % sets RIPERR and clears NORM. `fromOpen`: the run started at the open end. -/
def endStop (k : Nat) (fromOpen : Bool) (b : Block) : Block :=
  let n := (b.fbr k).ripples
  let travel := b.getF F.HB_WINPOS_TRAVEL k
  let b := b.setF F.HB_WINPOS_POS k 0
  if b.flag F.HB_FBSTAT_NORM k then
    let diff := if n < travel then travel - n else n - travel
    if fromOpen && !(travel = 0) && decide (travel * 5 < diff * 100) then
      (b.fbStick F.HB_FBSTAT_RIPERR k).setF F.HB_FBSTAT_NORM k 0
    else b
  else (if fromOpen then b.setF F.HB_WINPOS_TRAVEL k n else b).setF F.HB_FBSTAT_NORM k 1

/-- Mean of a list, rounded down. -/
def meanOf (l : List Nat) : Nat := if l.isEmpty then 0 else l.sum / l.length

/-- PINCH_DETECTED (R167, R168): `ma` the present current, `us` the time since the last ripple, `ms` the time
since the motor started, `closed` whether the window stands at its closed end stop, `fromOpen` whether the run started at
its open end. DEDUCED: before a run's first ripple there is no mean to compare with, and before its second no interval
(log 163). -/
def pinch (k ma us ms : Nat) (closed fromOpen : Bool) (b : Block) : Block :=
  let f := b.fbr k
  let gaps := (f.last.map Prod.snd).filter fun t => !(t == 0)
  let crit := !f.last.isEmpty && (decide (meanOf (f.last.map Prod.fst) + b.getF F.HB_WIN_PINCHTH k * 25 < ma) ||
    (!gaps.isEmpty && decide (4 * meanOf gaps ≤ us)))
  if !(b.getF F.HB_FBSTAT_DIR k == 2) || !(f.phase == .move) || b.suspended k || decide (ms < b.getF F.HB_WIN_BLANK k) || !crit then b
  else if b.flag F.HB_FBSTAT_NORM k && decide (sgn 16 (b.getF F.HB_WINPOS_POS k) ≤ b.getF F.HB_WIN_SEAL k) then
    ((b.fbCoast k).fbStick F.HB_FBSTAT_ENDSTOP k).endStop k fromOpen
  else
    let b := if closed && !b.flag F.HB_FBSTAT_NORM k then b.endStop k fromOpen else b
    ((b.updFb k fun f => { f with phase := .pinchBrake }).setDir k 3 0).fbStick F.HB_FBSTAT_PINCH k

/-- PINCH_BRAKE_END (R168): the 10 ms of BRAKE cover the 2 ms of R163; FWD at DUTY 65,536 for REVR × 4 ripples. -/
def pinchBrakeEnd (k : Nat) (b : Block) : Block :=
  if (b.fbr k).phase == .pinchBrake && !b.suspended k then
    let n := b.getF F.HB_WIN_REVR k * 4
    if n = 0 then b.fbCoast k
    else (b.updFb k fun f => { f with phase := .reverse, revLeft := n, ripples := 0, lastDir := 0 }).setDir k 1 65536
  else b

/-- LOCK_PULSE (R170). -/
def lockPulse (k dir : Nat) (b : Block) : Block :=
  (b.updFb k fun f => { f with phase := .pulse, lockDir := dir, pulses := b.getF F.HB_LOCK_REPEAT k }).setDir k dir 65536

/-- LOCK_PULSE_END (R170). -/
def lockPulseEnd (k : Nat) (b : Block) : Block :=
  let f := b.fbr k
  if f.phase == .pulse && !b.suspended k then
    (b.updFb k fun g => { g with phase := if f.pulses = 0 then FbPhase.idle else FbPhase.gap }).setDir k 0 0
  else b

/-- LOCK_GAP_END (R170). -/
def lockGapEnd (k : Nat) (b : Block) : Block :=
  let f := b.fbr k
  if f.phase == .gap && !b.suspended k then
    (b.updFb k fun g => { g with phase := .pulse, pulses := g.pulses - 1 }).setDir k f.lockDir 65536
  else b

end Block

end Sys2Proof.Machine
end

