-- ==== Sys2Proof/Machine/Vlv.lean ====
section
/-! DEFINITION. The valve drive: converters, shots, tables, diagnosis, the coil model and the valve descriptors
(R182–R216). -/
namespace Sys2Proof.Machine

namespace Block

/-- A sticky bit of valve n: EV(128 + n) where it goes from 0 to 1 (R207). -/
def vstick (f : RegField) (n : Nat) (b : Block) : Block := b.stick f n (128 + n)

/-- A sticky bit of converter j: EV(160 + 4j) (R207). -/
def bstick (f : RegField) (j : Nat) (b : Block) : Block := b.stick f j (160 + 4 * j)

/-- Converter of valve n, and its bank (R182). -/
def convOf (n : Nat) : Nat := n / 16
def bankOf (n : Nat) : Nat := n / 4

/-! ### Converters (R184–R186) -/

/-- BOOST_ENABLE: EN written 1 starts a converter that is off or in FAULT; in a band that stops converters it
is STOPPED. -/
def boostEnable (j : Nat) (b : Block) : Block :=
  let b := b.setF F.BST_CFG_EN j 1
  let s := b.getF F.BST_STAT_STATE j
  if s == 0 || s == 4 then b.setF F.BST_STAT_STATE j (if b.vbatcOff then 5 else 1) else b

/-- BOOST_DISABLE. -/
def boostDisable (j : Nat) (b : Block) : Block := b.boostStop j

/-- The power limit that acts on converter j, in W (R184). -/
def boostPower (b : Block) (j : Nat) : Nat := if b.vlv.low then min 250 (b.getF F.BST_CFG_PLIM j * 10) else b.getF F.BST_CFG_PLIM j * 10

/-- Ready margin in 0.1 V steps; 0 acts as 1 (R214). -/
def rdyMargin (b : Block) (j : Nat) : Nat := (max 1 (b.getF F.BST_CFG_RDYM j)) * 5

/-- BOOST_READY_CHANGE (R185): the rail, in 0.1 V steps, crosses VSET − RDYM. -/
def boostReady (j vout : Nat) (b : Block) : Block :=
  let b := b.setF F.BST_STAT_VOUT j vout
  let s := b.getF F.BST_STAT_STATE j
  let ready := decide (b.getF F.BST_CFG_VSET j ≤ vout + b.rdyMargin j)
  if (s == 1 || s == 3) && ready then b.setF F.BST_STAT_STATE j 2
  else if s == 2 && !ready then b.setF F.BST_STAT_STATE j 3 else b

/-- BOOST_READY_TIMEOUT (R186): 5 ms after the enable, or 5 ms not ready while no boost phase draws on the rail. -/
def boostTimeout (j : Nat) (b : Block) : Block :=
  let s := b.getF F.BST_STAT_STATE j
  let draws := (List.range 16).any fun i => b.vlSt (16 * j + i) == Vl.boost && !((b.vl (16 * j + i)).shot.elim false (·.bat))
  if s == 1 || s == 3 && !draws then (b.setF F.BST_STAT_STATE j 4).bstick F.BST_STAT_BFAIL j else b

/-- BOOST_OVERVOLTAGE (R186): the rail above VSET + 6.0 V for 10 µs; the stopped converter is in FAULT. -/
def boostOver (j vout : Nat) (b : Block) : Block :=
  let s := b.getF F.BST_STAT_STATE j
  if b.getF F.BST_CFG_VSET j + 60 < vout then
    ((b.setF F.BST_STAT_VOUT j vout).setF F.BST_STAT_STATE j (if s == 0 then 0 else 4)).bstick F.BST_STAT_BOV j
  else b

/-- A new VSET or RDYM: readiness follows it at the rail voltage of BST_STAT (R184, R185). -/
def boostSync (j : Nat) (b : Block) : Block := b.boostReady j (b.getF F.BST_STAT_VOUT j)

/-! ### Shots (R187–R197) -/

/-- A shot is skipped, refused or rejected: its flag, and NOTFIRED (R198, R212). -/
def notFired (f : RegField) (n : Nat) (b : Block) : Block := (b.vstick f n).satF F.VLV_COUNT_NOTFIRED n 1

/-- T of the coil, rounded down to the register's 1/16 °C (R212, log 20). -/
def tempWord (t : Rat) : Nat := unsgn 16 (t * 16).floor

/-- The ambient temperature T_amb of R199 in °C. -/
def ambient (b : Block) (n : Nat) : Rat :=
  if b.flag F.VLV_COIL_TAMBSRC n then (sgn 16 (b.getF F.PWR_TEMP_TEMP 8) : Rat) / 16
  else (sgn 8 (b.getF F.VLV_COIL_TAMB n) : Rat)

/-- FACTOR of valve n at its present coil temperature; 1 while the model does not run (R200). -/
def factorNow (b : Block) (n : Nat) : Rat := ((b.vl n).temp.map (b.derate n)).getD 1

/-- Take a coil temperature: TEMP, FACTOR, HOT, and DERATE where derating begins after the factor `was`; a hold in
progress takes the new FACTOR (R199, R200). -/
def setTempFrom (was : Rat) (n : Nat) (t : Rat) (b : Block) : Block :=
  let b := (b.updVl n fun v => { v with temp := some t }).setF F.VLV_TEMP_TEMP n (tempWord t)
  let f := b.derate n t
  let b := b.setF F.VLV_TEMP_FACTOR n (f * 100).floor.toNat
  let b := if f < 1 ∧ was = 1 then b.vstick F.VLV_STAT_DERATE n else b
  let b := b.reLevel n
  let tm : Rat := b.getF F.VLV_THERM_TMAX n
  if tm ≤ t then b.setF F.VLV_STAT_HOT n 1 else if t < tm - 10 then b.setF F.VLV_STAT_HOT n 0 else b

/-- A new coil temperature (R199). -/
def setTemp (n : Nat) (t : Rat) (b : Block) : Block := b.setTempFrom (b.factorNow n) n t

/-- The coil model takes 1 ms with the mean square of the coil current in mA² (R199). A valve that is not DISABLED keeps
its model running, in FAILSAFE too (R203, R205). -/
def coilStep (n : Nat) (msq : Nat) (b : Block) : Block :=
  let rref := b.getF F.VLV_COIL_RREF n
  if b.vlSt n == Vl.disabled || rref == 0 then b
  else
    let ta := b.ambient n
    let t := (b.vl n).temp.getD ta
    let p : Rat := (msq : Rat) / 1000000 * ((rref : Rat) / 1000) * (1 + (393 : Rat) / 100000 * (t - 20))
    let tau : Rat := 4 * (max 1 (b.getF F.VLV_COIL_TAU n) : Nat)
    b.setTemp n (t + (ta + p * ((b.getF F.VLV_THERM_RTH n : Rat) / 4) - t) / 1000 / tau)

/-- A waiting shot ends without having started: its valve rests, and the flag f says why (R195, R198, R206). -/
def dropWaiting (f : RegField) (n : Nat) (b : Block) : Block :=
  if b.vlSt n == Vl.wait then ((b.updVl n fun v => { v with shot := none }).vlRest n).notFired f n else b

/-- Waiting shots of bank k that are overdue are rejected (R195). -/
def rejectLate (k : Nat) (b : Block) : Block :=
  (b.waiting k).foldl (fun b n => if b.overdue n then (b.dropWaiting F.VLV_STAT_OVLP n).satF F.BST_BSTAT_OVLPCNT k 1 else b) b

/-- A tick of the timebase: a shot that cannot start any more is rejected (R195). -/
def vlvIdle (b : Block) : Block := forN 8 (fun k b => b.rejectLate k) b

/-- Bank k serves its waiting shots: overdue ones are rejected, and the first other one starts if no valve boosts (R195). -/
def serveWaiting (k : Nat) (b : Block) : Block := (b.rejectLate k).startNext k

/-- Do f, which may take valve n out of its boost phase; its bank then serves the shots that wait (R195). -/
def leaveBoost (n : Nat) (f : Block → Block) (b : Block) : Block :=
  let was := b.vlSt n == Vl.boost
  let b := f b
  if was && !(b.vlSt n == Vl.boost) then b.serveWaiting (bankOf n) else b

/-- COIL_MODEL_TICK (R199). -/
def coilTick (n msq : Nat) (b : Block) : Block := b.coilStep n msq

/-- EN written 0 (R201): DISABLED, through CLAMP where a shot runs. -/
def vlDisable (n : Nat) (b : Block) : Block :=
  let b := b.setF F.VLV_CFG_EN n 0
  if b.inShot n || b.vlSt n == Vl.clamp then
    b.leaveBoost n fun b => ((b.vlCut n).updVl n fun v => { v with disAt := true }).vlClamp n
  else
    let b := ((b.vlCut n).setVl n Vl.disabled).updVl n fun v => { v with shot := none, raw := 0, level := 0, chop := (0, 0) }
    ((b.coilOff n).syncBank (n / 4)).settleTables

/-- A shot falls due on valve n (R187, R195–R200, R202, R206). -/
def shotDue (n : Nat) (s : Shot) (b : Block) : Block :=
  let k := bankOf n
  let b := b.rejectLate k
  let boost := b.hasBoost s.prof
  if !(b.vlSt n == Vl.idle) || b.flag F.VLV_STAT_LOCKED n || b.getF F.BST_BSTAT_BSTATE k == 3 then b.notFired F.VLV_STAT_SKIPPED n
  else if boost && b.flag F.VLV_STAT_HOT n then b.notFired F.VLV_STAT_SKIPPED n
  else
    let ready := b.getF F.BST_STAT_STATE (convOf n) == 2
    let b := if boost && !ready then (b.vstick F.VLV_STAT_BNR n).bstick F.BST_STAT_BNRSEEN (convOf n) else b
    if !(b.vlSt n == Vl.idle) || (boost && !ready && !b.flag F.VLV_CFG_BNRACT n) then b.notFired F.VLV_STAT_SKIPPED n
    else
      let s := { s with bat := boost && !ready }
      if boost && b.bankBoosts k then
        (b.setVl n Vl.wait).updVl n fun v => { v with shot := some s }
      else (b.setF F.VLV_MEAS_DLY n 0).startShot n s b.pw.tbase

/-- SHOT_DUE: entry i of table t falls due while the table runs; the last entry of a table that runs once ends
its pass (R191, R212, R213). -/
def tableShot (t i : Nat) (b : Block) : Block :=
  let tb := b.tbl t
  match tb.entries[i]? with
  | none => b
  | some e =>
    if !(b.getF F.VLV_TSTAT_TSTATE t == 2) then b
    else
      let b := b.shotDue e.valve { prof := e.prof, hold := e.hold, table := some t, due := b.pw.tbase }
      if tb.period = 0 && i + 1 == tb.entries.length then
        ((b.wrapF F.VLV_TSTAT_PASSES t 1).setF F.VLV_TSTAT_TSTATE t 3).settleTables
      else b

/-- TABLE_PASS_START (R191, R193): the pass that ends counts; the tables that wait to take this one's place start. -/
def passStart (t : Nat) (b : Block) : Block :=
  let tb := b.tbl t
  if !(b.getF F.VLV_TSTAT_TSTATE t == 2) || tb.period = 0 then b
  else
    let b := b.wrapF F.VLV_TSTAT_PASSES t 1
    match (List.range 16).filter fun u => (b.tbl u).inPlace == some t with
    | [] => b.updTbl t fun x => { x with start := x.start + x.period }
    | us =>
      let b := (b.setF F.VLV_TSTAT_TSTATE t 3).settleTables
      us.foldl (fun b u => (b.updTbl u fun x => { x with inPlace := none, start := b.pw.tbase }).setF F.VLV_TSTAT_TSTATE u 2) b

/-- A phase of valve n has ended with the current `ma`: the open-coil check of the first phase (R198). -/
def openAtFirst (s : Shot) (ma level : Nat) : Bool := s.first && decide (ma * 10 < level)

/-- LOCKED and its cause are latched, with the event; the state is another rule's matter (R207, R211). -/
def vlLatch (n cause : Nat) (b : Block) : Block :=
  ((b.setF F.VLV_STAT_LOCKCAUSE n cause).setF F.VLV_STAT_LOCKED n 1).raiseOpen (128 + n)

/-- Enter LOCKED with a cause (R201, R207, R211). -/
def vlLock (n cause : Nat) (b : Block) : Block := (b.setVl n Vl.locked).vlLatch n cause

/-- One more shot that counts towards FAULTCNT (R198); 0 acts as 1. -/
def countAbort (n : Nat) (b : Block) : Block :=
  let c := b.getF F.VLV_STAT_ABORTS n + 1
  let b := b.setF F.VLV_STAT_ABORTS n (min c 15)
  if max 1 (b.getF F.VLV_CFG_FAULTCNT n) ≤ c then b.updVl n fun v => { v with lockAt := 1 } else b

/-- The shot is aborted (R198). -/
def abortShot (n : Nat) (b : Block) : Block :=
  b.leaveBoost n fun b => (b.countAbort n).vlClamp n

/-- The phase after boost or peak: peak, hold, or the end of the shot in CLAMP (R187). A shot that the reaction to its own
check has ended has none (R203). -/
def nextPhase (n : Nat) (s : Shot) (afterPeak : Bool) (b : Block) : Block :=
  if !b.inShot n then b
  else
  let s := { s with first := false }
  let b := b.updVl n fun v => { v with shot := some s }
  let b :=
    if !afterPeak && !(b.ipMa s.prof == 0) then b.enterPeak n s
    else if !(b.ihMa s.prof == 0) then b.enterHold n s
    else (b.setF F.VLV_STAT_ABORTS n 0).vlClamp n
  b.syncBank (bankOf n)

/-- BOOST_LEVEL_REACHED (R187): the current reaches IBOOST. -/
def boostLevel (n : Nat) (b : Block) : Block :=
  match (b.vl n).shot with
  | some s =>
    if b.vlSt n == Vl.boost then
      ((b.setF F.VLV_MEAS_IBEND n ((b.vl n).level / 50)).nextPhase n s false).serveWaiting (bankOf n)
    else b
  | none => b

/-- BOOST_TIME_LIMIT (R187, R198): TBOOST elapses with the current at `ma`. -/
def boostTime (n ma : Nat) (b : Block) : Block :=
  match (b.vl n).shot with
  | some s =>
    if b.vlSt n == Vl.boost then
      let b := b.setF F.VLV_MEAS_IBEND n (min (ma / 50) 255)
      let b := b.vstick F.VLV_STAT_NREACH n
      if openAtFirst s ma (b.vl n).level then (b.vstick F.VLV_STAT_OPEN n).abortShot n
      else (b.nextPhase n s false).serveWaiting (bankOf n)
    else b
  | none => b

/-- PEAK_END (R187, R198): TPEAK elapses with the current at `ma`; `reached`: the peak level was reached. -/
def peakEnd (n ma : Nat) (reached : Bool) (b : Block) : Block :=
  match (b.vl n).shot with
  | some s =>
    if b.vlSt n == Vl.peak then
      let b := if reached then b else b.vstick F.VLV_STAT_NREACH n
      if openAtFirst s ma (b.vl n).level then (b.vstick F.VLV_STAT_OPEN n).abortShot n
      else b.nextPhase n s true
    else b
  | none => b

/-- The hold resistance is measured (R198, R199): mean coil voltage in mV and current in mA over the interval. RREF = 0
turns the model and its measurement off. -/
def measureHold (n mv ma : Nat) (b : Block) : Block × Bool :=
  let rref := b.getF F.VLV_COIL_RREF n
  let r := mv * 1000 / ma
  if rref = 0 then (b, false)
  else
    let b := (b.setF F.VLV_MEAS_RHOLD n (min r 65535)).setF F.VLV_STAT_RMEAS n 1
    let b := b.setTemp n (20 + ((mv : Rat) * 1000 / ma / rref - 1) / ((393 : Rat) / 100000))
    let turns := decide (r * 2 < rref)
    (if turns then b.vstick F.VLV_STAT_SHORT n else b, turns)

/-- HOLD_END (R187, R198, R199): the hold time elapses. `us`: how long the current stayed at its level. -/
def holdEnd (n ma : Nat) (reached : Bool) (us mv : Nat) (b : Block) : Block :=
  match (b.vl n).shot with
  | some s =>
    if b.vlSt n == Vl.hold then
      let b := if reached then b else b.vstick F.VLV_STAT_NREACH n
      if openAtFirst s ma (b.vl n).level then (b.vstick F.VLV_STAT_OPEN n).abortShot n
      else
        let (b, turns) := if 500 ≤ us ∧ 200 ≤ ma then b.measureHold n mv ma else (b, false)
        (if turns then b.countAbort n else b.setF F.VLV_STAT_ABORTS n 0).vlClamp n
    else b
  | none => b

/-- Bring WINSUM and COUNT of valve n up to date (R190, R212). -/
def syncVlClamp (n : Nat) (b : Block) : Block :=
  (b.setF F.VLV_CLAMP_WINSUM n (min (b.vl n).bucket.sum (2 ^ 24 - 1))).setF F.VLV_CLAMP_COUNT n (min (b.vl n).events.sum 255)

/-- VALVE_CLAMP_END (R189, R190, R201): the coil current is zero, or the fast decay into a phase has ended: a lock then
waits for the clamp of the shot. A phase entered by slow decay has no clamp interval (R188). A valve in FAILSAFE latches
its lock and stays there, unless it was disabled in the clamp. -/
def vlClampEnd (n energy : Nat) (b : Block) : Block :=
  if b.inShot n && !(b.vl n).fast then b
  else
    let b := (b.updVl n fun v => { v with bucket := addHead energy v.bucket, events := addHead 1 v.events }).syncVlClamp n
    let tooMuch := decide (100000 < (b.vl n).bucket.sum)
    let b := if tooMuch then b.vstick F.VLV_STAT_CLAMPX n else b
    let st := b.vlSt n
    let v := b.vl n
    let cause := if v.lockAt ≠ 0 then v.lockAt else if tooMuch then 2 else 0
    if st == Vl.clamp then
      let b := b.updVl n fun v => { v with shot := none, lockAt := 0, disAt := false }
      let b := if cause ≠ 0 then b.vlLock n cause else if b.flag F.VLV_STAT_LOCKED n then b.setVl n Vl.locked else b.vlRest n
      let b := if v.disAt then (b.setVl n Vl.disabled).coilOff n else b
      (b.syncBank (bankOf n)).settleTables
    else if b.inShot n then b.updVl n fun v => { v with lockAt := cause, fast := false }
    else
      let b := b.updVl n fun v => { v with lockAt := 0, disAt := false }
      let b := if cause ≠ 0 && !b.flag F.VLV_STAT_LOCKED n then b.vlLatch n cause else b
      if v.disAt then b.vlDisable n else b

/-- Buckets of the valves of die VDv (R190, R118). -/
def vlBuckets (v : Nat) (b : Block) : Block :=
  forRange (16 * v) (16 * v + 16) (fun n b =>
    if (b.vl n).bucket.isEmpty then b
    else (b.updVl n fun v => { v with bucket := 0 :: v.bucket.take 15, events := 0 :: v.events.take 15 }).syncVlClamp n) b

/-! ### Faults (R198) -/

/-- Bank k enters LOCKED with a BCAUSE: its valves clamp and then stay IDLE; EV(160 + k) (R198, R207, R214). -/
def bankLock (k cause : Nat) (b : Block) : Block :=
  if b.getF F.BST_BSTAT_BSTATE k == 3 then b
  else
    let b := forRange (4 * k) (4 * k + 4) (fun n b => ((b.dropWaiting F.VLV_STAT_SKIPPED n).vlCut n).vlClamp n) b
    let b := ((b.setF F.BST_BSTAT_BSTATE k 3).setF F.BST_BSTAT_LOCKED k 1).setF F.BST_BSTAT_BCAUSE k cause
    b.raiseOpen (160 + k)

/-- A low-side short of valve n: LSSHORT, LOCKED with cause 3, and with LSSTOP the bank (R198). A waiting shot is skipped. -/
def lsShort (n : Nat) (b : Block) : Block :=
  let b := b.vstick F.VLV_STAT_LSSHORT n
  let b :=
    if b.inShot n || b.vlSt n == Vl.clamp then b.leaveBoost n fun b => (b.updVl n fun v => { v with lockAt := 3 }).vlClamp n
    else if b.flag F.VLV_STAT_LOCKED n || b.vlSt n == Vl.disabled then b
    else if b.vlSt n == Vl.failSafe || b.vlSt n == Vl.supply then b.vlLatch n 3
    else (b.dropWaiting F.VLV_STAT_SKIPPED n).vlLock n 3
  let k := bankOf n
  if b.flag F.BST_BANK_LSSTOP k then
    ({ b with vlv := { b.vlv with lsBy := Tab.put b.vlv.lsBy k (n :: Tab.get [] b.vlv.lsBy k) } } : Block).bankLock k 4
  else b

/-- Bank k is idle and has had no shot for 1 ms (R198). -/
def bankQuiet (b : Block) (k : Nat) : Bool :=
  b.getF F.BST_BSTAT_BSTATE k == 0 && (Tab.get none b.vlv.offAt k).all fun t => decide (t + 160000 ≤ b.pw.tbase)

/-- VALVE_OFF_STATE_CHECK (R198): voltage of VLn in mV, in the off-state check of an idle bank (open coil above
3.5 V, low-side short below 0.3 V) or with the bank on and the low side off (short below 2.0 V). -/
def vlOffCheck (n mv : Nat) (bankOn : Bool) (b : Block) : Block :=
  if b.vlSt n == Vl.disabled then b
  else if bankOn then (if !(b.getF F.BST_BSTAT_BSTATE (bankOf n) == 0) && decide (mv < 2000) then b.lsShort n else b)
  else if b.getF F.VLV_CFG_OLEN n == 0 || !b.bankQuiet (bankOf n) then b
  else if mv < 300 then (b.updVl n fun v => { v with opens := 0 }).lsShort n
  else if 3500 < mv then
    let c := (b.vl n).opens + 1
    let b := b.updVl n fun v => { v with opens := c }
    if 4 ≤ c then b.vstick F.VLV_STAT_OPEN n else b
  else b.updVl n fun v => { v with opens := 0 }

/-- LOW_SIDE_TRIP (R198): the low-side current is above 16 A. A shot is aborted; a fail-safe hold is off from then on and
counts as an aborted shot; on the tick of a cause of higher rank only the flag is set (R202, log 166). -/
def lsTrip (n ma : Nat) (b : Block) : Block :=
  if ma ≤ 16000 then b
  else if b.inShot n then (b.vstick F.VLV_STAT_SHORT n).abortShot n
  else if b.fsHolds n then
    (((b.vstick F.VLV_STAT_SHORT n).countAbort n).updVl n fun v => { v with raw := 0, level := 0, chop := (0, 0) }).syncBank (bankOf n)
  else if (b.vl n).cutAt == some b.pw.tbase then b.vstick F.VLV_STAT_SHORT n
  else b

/-- BANK_SWITCH_FAULT (R198): BCAUSE 1 = over-current, 2 = not following, 3 = on while off. `present`: the fault
stands. -/
def bankFault (k cause : Nat) (present : Bool) (b : Block) : Block :=
  let b := { b with vlv := { b.vlv with fault := Tab.put b.vlv.fault k present } }
  if present then (b.stick F.BST_BSTAT_BSWF k (160 + k)).bankLock k cause else b

/-- Clear a bank lock whose causes have gone: no switch fault present, and every valve of LSSTOP cleared (R198, log 170). -/
def bankUnlock (k : Nat) (b : Block) : Block :=
  if !b.flag F.BST_BSTAT_LOCKED k then b
  else if Tab.get false b.vlv.fault k ||
    (Tab.get [] b.vlv.lsBy k).any fun n => b.flag F.VLV_STAT_LOCKED n || (b.vl n).lockAt == 3 then b
  else
    let b := { b with vlv := { b.vlv with lsBy := Tab.put b.vlv.lsBy k [] } }
    ((b.setF F.BST_BSTAT_LOCKED k 0).setF F.BST_BSTAT_BSTATE k 1).syncBank k

/-- VLV_CFG: EN acts; FSAFE and FSHOLD form a fail-safe hold anew, HYST the band (R188, R203). -/
def vlCfgActs (n old : Nat) (b : Block) : Block :=
  let new := b.rd R.VLV_CFG n
  if b.vlSt n == Vl.failSafe && !(bits old 2 2 == bits new 2 2 && bits old 19 12 == bits new 19 12) then b.fsForm n
  else if bits old 11 8 == bits new 11 8 then b else b.reLevel n

/-- VLV_COIL: RREF switches the coil model, which starts at the ambient temperature (R199). -/
def vlCoilActs (n old : Nat) (b : Block) : Block :=
  let rref := b.getF F.VLV_COIL_RREF n
  if b.vlSt n == Vl.disabled then b
  else if rref = 0 then b.coilOff n
  else if bits old 15 0 = 0 then b.setTemp n (b.ambient n) else b

/-- VLV_THERM: the temperature is judged by the new limits, after the factor `was` of the old ones (R200). -/
def vlThermActs (was : Rat) (n : Nat) (b : Block) : Block := match (b.vl n).temp with
  | some t => b.setTempFrom was n t
  | none => b

/-- INTERNAL_LINK_SILENCE (R203): 50 µs without traffic on the link of VDv. -/
def linkSilence (v : Nat) (b : Block) : Block := forRange (16 * v) (16 * v + 16) (fun n b => b.vlvFailsafe n) b

/-- VALVE_ENABLE (R199, R201). A lock kept from before stays in LOCKED and keeps its shots from starting (log 167). -/
def vlEnable (n : Nat) (b : Block) : Block :=
  let b := b.setF F.VLV_CFG_EN n 1
  if b.vlSt n == Vl.disabled then
    let b := b.vlRest n
    if b.getF F.VLV_COIL_RREF n == 0 then b else b.setTemp n (b.ambient n)
  else b.updVl n fun v => { v with disAt := false }

/-- VALVE_LOCK_CLEAR (R201, R211): the lock is cleared and the abort count reloaded. -/
def vlUnlock (n : Nat) (b : Block) : Block :=
  if !b.flag F.VLV_STAT_LOCKED n then b
  else
    let b := (b.setF F.VLV_STAT_LOCKED n 0).setF F.VLV_STAT_ABORTS n 0
    if b.vlSt n == Vl.locked then b.vlRest n else b

/-- TIMEBASE_READ (R214): reading BST_TBASE[0] captures all 64 bits. -/
def tbaseRead (b : Block) : Block :=
  let b := { b with pw := { b.pw with tbaseCap := b.pw.tbase / 2 ^ 32 % 2 ^ 32 } }
  (b.wr R.BST_TBASE0 0 (b.pw.tbase % 2 ^ 32)).wr R.BST_TBASE1 0 b.pw.tbaseCap

/-! ### Descriptors (R193, R194, R204, R215, R216) -/

/-- Valves selected by DW5, tables by DW6 (R215). -/
def vlMask (d : Desc) : List Nat := (List.range 32).filter fun k => bit (d.dw 5) k
def tblMask (d : Desc) : List Nat := (List.range 16).filter fun k => bit (d.dw 6) k

/-- In weir HOLD every valve descriptor other than VLV_READ is refused (R204). -/
def vlvGate (b : Block) : Bool := b.weirState == 2

/-- Table t runs: its TSTATE is running. -/
def tblRuns (b : Block) (t : Nat) : Bool := b.getF F.VLV_TSTAT_TSTATE t == 2

/-- Valve n is named by a running table. -/
def tableNames (b : Block) (n : Nat) : Bool :=
  (List.range 16).any fun t => b.tblRuns t && (b.tbl t).entries.any fun e => e.valve == n

/-- A loaded table whose commands are not applied names valve n (R634, log 70). -/
def valveHeld (b : Block) (n : Nat) : Bool := (List.range 16).any fun t => b.pairHeldTbl t && (b.tbl t).entries.any fun e => e.valve == n

/-- One 8-byte table entry for die e (R191), and whether its reserved bits are 0. -/
def shotEntry (e : Nat) (bs : List Byte) : ShotEntry × Bool :=
  let v := ofLe ((bs.drop 4).take 1)
  let p := ofLe ((bs.drop 5).take 1)
  ({ start := ofLe (bs.take 4), valve := 16 * e + v % 16, prof := 16 * e + p % 16, hold := ofLe (bs.drop 6) },
    decide (v < 16) && decide (p < 16))

/-- Ticks from entry i to the next START of the same valve, counted across the wrap of a repeating table. An entry that
is out of order offends itself and is no distance of this one (R192). -/
def nextStart (period : Nat) (es : List ShotEntry) (i : Nat) : Option Nat :=
  match es[i]? with
  | none => none
  | some e =>
    match (es.drop (i + 1)).find? fun x => x.valve == e.valve with
    | some x => if x.start < e.start then none else some (x.start - e.start)
    | none => if period = 0 then none else (es.find? fun x => x.valve == e.valve).map fun x => x.start + period - e.start

/-- Entry i breaks a condition of R192. -/
def badEntry (b : Block) (period : Nat) (es : List (ShotEntry × Bool)) (i : Nat) : Bool :=
  let l := es.map Prod.fst
  match es[i]? with
  | none => false
  | some (e, ok) =>
    let desc := match l[i - 1]? with
      | some x => decide (0 < i) && decide (e.start < x.start)
      | none => false
    let len := b.getF F.VLV_PROFA_TBOOST e.prof + b.getF F.VLV_PROFB_TPEAK e.prof + b.holdTicks e.prof e.hold +
      b.getF F.BST_BANK_MAXDLY (bankOf e.valve) * 160 + 16000
    !ok || desc || (!(period == 0) && decide (period ≤ e.start)) ||
      (match nextStart period l i with
       | some dt => decide (dt < 800000) || decide (dt < len)
       | none => false)

/-- VLV_TABLE (R192). -/
def vlvTable (d : Desc) (b : Block) : Block × Compl :=
  let t := bits (d.dw 8) 3 0
  let period := d.dw 9
  if !(d.ok 0x31 8 2048 [0, 0, 0, 0xF, 0xFFFFFFFF]) || !(d.len % 8 == 0) then (b, .of St.badDesc)
  else if b.vlvGate then (b, .of St.refused)
  else if 2 ≤ b.getF F.VLV_TSTAT_TSTATE t then (b, .of St.busy)
  else
    let es := (pieces 8 256 (d.payload.take d.len)).map (shotEntry (t / 8))
    match (List.range es.length).find? (b.badEntry period es) with
    | some i => (b, { status := St.badDesc, cw2 := i })
    | none =>
      let b := b.updTbl t fun _ => { period := period, entries := es.map Prod.fst }
      let b := (b.setF F.VLV_TSTAT_TSTATE t 1).setF F.VLV_TSTAT_ENTRIES t es.length
      (b.pairLoad (b.tableLoad t), .of St.ok)

/-- VLV_START (R193, R216): per engine; a start at an absolute time or in place of another table. -/
def vlvStart (d : Desc) (b : Block) : Block × Compl :=
  let ts := tblMask d
  let mode := bits (d.dw 8) 1 0
  let repl := bits (d.dw 8) 11 8
  let time := d.dw 10 + d.dw 11 * 2 ^ 32
  if !(d.ok 0x32 0 0 [0, 0xFFFF, 0, 0xF03, 0, 0xFFFFFFFF, 0xFFFFFFFF]) || ts.isEmpty || mode == 3 ||
      (!(mode == 2) && !(repl == 0)) || (!(mode == 1) && !(time == 0)) then (b, .of St.badDesc)
  else if b.vlvGate then (b, .of St.refused)
  else
    let still (b : Block) (t : Nat) : Bool := b.tblRuns t && !(mode == 2 && t == repl)
    let names (b : Block) (t n : Nat) : Bool := (b.tbl t).entries.any fun e => e.valve == n
    let clash (b : Block) (t : Nat) : Bool :=
      !(b.getF F.VLV_TSTAT_TSTATE t == 1) ||
      (List.range 32).any fun n => names b t n && ((List.range 16).any fun u => (still b u || (ts.contains u && !(u == t))) && names b u n)
    let late := mode == 1 && (decide (time ≤ b.pw.tbase) || decide (b.pw.tbase + 9600000000 < time))
    let noRepl := mode == 2 && !b.tblRuns repl
    let side (e : Nat) : List Nat := ts.filter fun t => t / 8 == e
    let okSide (e : Nat) : Bool := !late && !noRepl && !((side e).any (clash b))
    let go := ts.filter fun t => okSide (t / 8) && !b.pairHeldTbl t
    let no := ts.filter fun t => !okSide (t / 8) || b.pairHeldTbl t
    let b := go.foldl (fun b t =>
      if mode = 2 then b.updTbl t fun x => { x with inPlace := some repl }
      else (b.updTbl t fun x => { x with inPlace := none, start := if mode = 1 then time else b.pw.tbase + 1 }).setF F.VLV_TSTAT_TSTATE t 2) b
    let dies := no.foldl (fun m t => m ||| 2 ^ (t / 8)) 0
    (b, { status := partStatus go.length no.length St.refused, cw3 := dies })

/-- VLV_STOP (R193): gently, or at once with shots in progress to CLAMP. A shot in WAIT has not started and does not. -/
def vlvStop (d : Desc) (b : Block) : Block × Compl :=
  let ts := tblMask d
  if !(d.ok 0x33 0 0 [0, 0xFFFF, 0, 1]) || ts.isEmpty then (b, .of St.badDesc)
  else if b.vlvGate then (b, .of St.refused)
  else
    let atOnce := bit (d.dw 8) 0
    let no := ts.filter b.pairHeldTbl
    let ts := ts.filter fun t => !b.pairHeldTbl t
    let dies := no.foldl (fun m t => m ||| 2 ^ (t / 8)) 0
    let b := ts.foldl (fun b t =>
      let b := b.updTbl t fun x => { x with inPlace := none }
      if b.tblRuns t || b.getF F.VLV_TSTAT_TSTATE t == 3 then
        let b := b.setF F.VLV_TSTAT_TSTATE t 3
        forN 32 (fun n b => if (b.vl n).shot.elim false (·.table == some t) && (atOnce || b.vlSt n == Vl.wait) then b.vlClamp n else b) b
      else b) b
    let b := if atOnce then forN 8 (fun k b => b.serveWaiting k) b else b
    (b.settleTables, { status := partStatus ts.length no.length St.refused, cw3 := dies })

/-- RELEASE out of FAILSAFE (R204). -/
def vlRelease (n : Nat) (b : Block) : Block :=
  if b.vlSt n == Vl.failSafe && !b.underWeir && b.getF F.HEP_STAT_STATE (10 + n / 16) == 2 then
    if (b.vl n).disAt then b.vlDisable n
    else ((b.vlRest n).updVl n fun v => { v with raw := 0, level := 0, chop := (0, 0) }).syncBank (bankOf n)
  else b

/-- VLV_CLEAR (R204, R215, R216). A valve behind a failed link is not applied, nor is one asked to be released that stays
in FAILSAFE. -/
def vlvClear (d : Desc) (b : Block) : Block × Compl :=
  let sel := vlMask d
  let banks := (List.range 8).filter fun k => bit (d.dw 6) k
  if !(d.ok 0x34 0 0 [0xFFFFFFFF, 0xFF, 0, 7]) || (sel.isEmpty && banks.isEmpty) then (b, .of St.badDesc)
  else if b.vlvGate then (b, .of St.refused)
  else
    let lock := bit (d.dw 8) 0
    let sticky := bit (d.dw 8) 1
    let rel := bit (d.dw 8) 2
    let link (n : Nat) : Bool := Tab.get false b.pw.linkFail (4 + n / 16)
    let b := (sel.filter fun n => !link n).foldl (fun b n =>
      let b := if lock then b.vlUnlock n else b
      let b := if sticky then b.wr R.VLV_STAT n (putBits (b.rd R.VLV_STAT n) 16 8 0) else b
      if rel then b.vlRelease n else b) b
    let b := banks.foldl (fun b k =>
      let b := if lock then b.bankUnlock k else b
      if sticky then b.setF F.BST_BSTAT_BSWF k 0 else b) b
    let miss := sel.filter fun n => link n || rel && b.vlSt n == Vl.failSafe
    (b, { status := partStatus (sel.length - miss.length) miss.length (if sel.all link then St.hwFault else St.refused),
          cw2 := (sel.length - miss.length) + miss.length * 256, cw3 := miss.foldl (fun m n => m ||| 2 ^ (n / 16)) 0 })

/-- The record of VLV_READ (R215). -/
def vlRecord (b : Block) (n : Nat) : List Byte :=
  leBytes 4 (b.rd R.VLV_STAT n % 2 ^ 24 + n * 2 ^ 24) ++ leBytes 4 (b.rd R.VLV_MEAS n) ++
  leBytes 4 (b.rd R.VLV_TEMP n) ++ leBytes 4 (b.rd R.VLV_CLAMP n)

/-- VLV_READ (R215). -/
def vlvRead (d : Desc) (b : Block) : Block × Compl :=
  let sel := vlMask d
  if !(d.ok 0x35 (16 * sel.length) 65536 [0xFFFFFFFF]) || sel.isEmpty then (b, .of St.badDesc)
  else (b, { status := St.ok, cw2 := 16 * sel.length, data := (sel.map b.vlRecord).flatten })

/-- BST_SET (R184, R215): VSET from 40.0 V to 72.0 V. -/
def bstSet (d : Desc) (b : Block) : Block × Compl :=
  let js := (List.range 2).filter fun j => bit (d.dw 8) j
  let v := d.dw 9
  if !(d.ok 0x36 0 0 [0, 0, 0, 0x103, 0x3FF]) || js.isEmpty || decide (v < 400) || decide (720 < v) then (b, .of St.badDesc)
  else if b.vlvGate then (b, .of St.refused)
  else
    (js.foldl (fun b j =>
      let b := (b.setF F.BST_CFG_VSET j v).boostSync j
      if bit (d.dw 8) 8 then b.boostEnable j else b.boostDisable j) b, .of St.ok)

end Block

end Sys2Proof.Machine
end

