-- ==== Sys2Proof/Machine/Die.lean ====
section
/-! DEFINITION. The commands that travel to the power dies and the valve-drive dies, and the descriptors that send them
(R40, R142, R154–R157, R181, R194, R216, R243, R245). -/
namespace Sys2Proof.Machine

namespace Block

/-! ### Commands to the dies (R154–R157, R181, R216) -/

/-- Channel, and for a bridge its leading half, that a command acts on; the first channel of a group's or port's
die for the lamp and matrix commands. -/
def actChan : DieAct → Nat
  | .hs n _ => n
  | .hb n _ _ => 96 + n
  | .fb k _ _ => 96 + 2 * k
  | .wipe k _ _ => 96 + 2 * k
  | .win k _ _ => 96 + 2 * k
  | .lock k _ => 96 + 2 * k
  | .lamp n _ _ => n
  | .colour _ die _ _ _ _ => 2 * die
  | .frame k _ => 2 * k
  | .out m _ => 2 * (m / 4)
  | .supply k _ => 2 * k
  | .shot n _ _ => n

/-- Die of a command: SP0–SP3 as 0–3, VD0 and VD1 as 4 and 5, in the numbers of the internal links (R29). -/
def actDie : DieAct → Nat
  | .shot n _ _ => 4 + n / 16
  | a => dieOf (actChan a)

/-- Bit of the die in CW3: SP0–SP3, and VD0 and VD1 where valves are commanded (R157, R216). -/
def actMark (a : DieAct) : Nat := if actDie a < 4 then 2 ^ actDie a else 2 ^ (actDie a - 4)

/-- The engine that executes a command: HC6–HC9 of the die, HC10 or HC11, HC12 for lamps and matrices (R39). -/
def actEngine : DieAct → Nat
  | .lamp _ _ _ => 12
  | .colour _ _ _ _ _ _ => 12
  | .frame _ _ => 12
  | a => 6 + actDie a

/-- Why a part is not applied (R157, R165, R169, R170): no = it is applied. -/
inductive Miss where
  | no | busy | other
  deriving DecidableEq, Repr

/-- A bridge command needs its bridge joined and the FUNC it belongs to (R165). -/
def fbMiss (b : Block) (k func : Nat) : Bool := !(b.isPair (96 + 2 * k)) || !(b.getF F.HB_FBCFG_FUNC k == func)

/-- A command that turns its output off: it is accepted while the channel is LOCKED (R157). DESIGN CHOICE: of the bridge
commands these are OFF, COAST and the two stops; LOW, BRAKE and every drive count as a DUTY other than 0 (log 208). -/
def actZero : DieAct → Bool
  | .hs _ duty => duty == 0
  | .hb _ out _ => out == 0
  | .fb _ dir _ => dir == 0
  | .wipe _ act _ => act == 0
  | .win _ t _ => t == 0x8000
  | .lamp _ t _ => t == 0
  | _ => false

/-- The weir answers for a field output or supply, and in HOLD for a valve, before anything else does (R204, R295). -/
def weirFirst (b : Block) : DieAct → Bool
  | .out _ _ => b.underWeir
  | .supply _ _ => b.underWeir
  | .shot _ _ _ => b.vlvGate
  | _ => false

/-- The function that a command acts on is disabled (R157, R216, R245, R303). -/
def actDisabled (b : Block) (a : DieAct) : Bool :=
  !b.weirFirst a && match a with
    | .colour g _ _ _ _ _ => !b.flag F.LMP_GRP_EN g
    | .frame k _ => b.getF F.MTX_STAT_STATE k == 0
    | .out m _ => b.getF F.DIO_DOCFG_EN m == 0
    | .supply k _ => b.getF F.DIO_SVCFG_EN k == 0
    | .shot n _ _ => b.vlSt n == Vl.disabled
    | a => b.chState (actChan a) == Ch.disabled

/-- The internal link of its die has failed (R157). -/
def actLink (b : Block) (a : DieAct) : Bool := !b.weirFirst a && Tab.get false b.pw.linkFail (actDie a)

/-- The checks of R157 that hold for every command of a channel or bridge. -/
def chanMiss (b : Block) (p : Nat) (zero : Bool) (own : Miss) : Miss :=
  let st := b.chState p
  if b.underWeir || st == Ch.held || st == Ch.failSafe || (st == Ch.locked && !zero) || b.pairHeld p then .other else own

/-- A shot outside the tables is not applied (R194, R204, R216). -/
def shotMiss (b : Block) (n : Nat) : Bool :=
  b.vlvGate || !(b.vlSt n == Vl.idle) || b.tableNames n || b.valveHeld n ||
    ((b.vl n).last.elim false fun t => decide (b.pw.tbase < t + 800000))

/-- The check of R157, R165, R169, R170, R194, R236, R245 and R303 for one part. -/
def missOf (b : Block) (a : DieAct) : Miss :=
  let p := actChan a
  if b.actDisabled a || b.actLink a then .other
  else match a with
    | .hs n _ => b.chanMiss p (actZero a) (if b.isFollower n || b.flag F.HSW_CFG_LAMP n then .other else .no)
    | .hb _ _ _ => b.chanMiss p (actZero a) (if b.isFollower p || b.isPair p then .other else .no)
    | .fb k _ _ => b.chanMiss p (actZero a) (if b.fbMiss k 0 then .other else .no)
    | .wipe k _ _ => b.chanMiss p (actZero a) (if b.fbMiss k 1 then .other else .no)
    | .win k t _ =>
      let ph := (b.fbr k).phase
      b.chanMiss p (actZero a) (if b.fbMiss k 2 then .other
        else if (ph == .pinchBrake || ph == .reverse) && !(t == 0x8000) && b.winDir k t == 2 then .other else .no)
    | .lock k _ =>
      let ph := (b.fbr k).phase
      b.chanMiss p (actZero a) (if b.fbMiss k 3 then .other else if ph == .pulse || ph == .gap then .busy else .no)
    | .lamp n _ _ =>
      b.chanMiss p (actZero a) (if b.isFollower n || !b.flag F.HSW_CFG_LAMP n || b.flag F.LMP_CFG_INGRP n then .other else .no)
    | .colour g _ _ _ _ _ => if b.underWeir || b.pairHeldGrp g then .other else .no
    | .frame k _ => if b.getF F.MTX_STAT_STATE k == 3 || b.weirState == 2 then .other else .no
    | .out m _ => if b.underWeir || b.doHeldOff m then .other else .no
    | .supply _ _ => if b.underWeir then .other else .no
    | .shot n _ _ => if b.shotMiss n then .other else .no

/-- Apply one part at its die. -/
def applyAct (a : DieAct) (b : Block) : Block :=
  match a with
  | .hs n duty => (b.setCmd n 0 duty).commandActs n
  | .hb n out duty => (b.setCmd (96 + n) out duty).commandActs (96 + n)
  | .fb k dir duty => (b.updFb k fun f => { f with phase := if dir = 0 then .idle else .run }).setDir k dir duty
  | .wipe k act duty => b.wipeAct k act duty
  | .win k t duty => b.winMove k t duty
  | .lock k dir => b.lockPulse k dir
  | .lamp n t ms => b.fadeNew n [t] ms
  | .colour g _ c0 c1 c2 ms => b.fadeNew (96 + g) [c0, c1, c2] ms
  | .frame k data => b.mtxFrame k data
  | .out m on => b.doCommand m on
  | .supply k on => b.svCommand k on
  | .shot n p hold => b.shotDue n { prof := p, hold := hold, table := none, due := b.pw.tbase }

/-- Count a part that is not applied; whether its function is disabled and whether its link has failed count apart. -/
def missPart (b : Block) (m : Miss) (c : DieCmd) (a : DieAct) : DieCmd :=
  { c with missed := c.missed + 1, missDie := c.missDie ||| actMark a, disab := c.disab + b2n (b.actDisabled a),
           linkBad := c.linkBad + b2n (b.actLink a), busy := c.busy + b2n (m == .busy) }

/-- Count a part that a reset of its engine stops (R142). -/
def abortPart (b : Block) (c : DieCmd) (a : DieAct) : DieCmd :=
  let c := b.missPart .other c a
  { c with aborted := c.aborted + 1 }

/-- Apply a part that its die has acknowledged, or count it as not applied (R410). -/
def settle (c : DieCmd) (a : DieAct) (b : Block) : Block × DieCmd :=
  match b.missOf a with
  | .no => (b.applyAct a, { c with applied := c.applied + 1 })
  | m => (b, b.missPart m c a)

/-- Settle several parts in order. -/
def settleAll (c : DieCmd) (as : List DieAct) (b : Block) : Block × DieCmd :=
  as.foldl (fun s a => settle s.2 a s.1) (b, c)

/-- Completion of a die command (R142, R157): CW2 counts, CW3 the dies, STATUS. DEDUCED: DISABLED comes before the REFUSED
of HOLD where every selected channel is disabled (R134, log 204). -/
def dieCompl (c : DieCmd) : Compl :=
  let none := if c.aborted ≠ 0 then St.aborted
    else if c.disab = c.missed then St.disabled else if c.linkBad = c.missed then St.hwFault
    else if c.busy = c.missed then St.busy else St.refused
  { status := partStatus c.applied c.missed none, cw2 := c.applied % 256 + c.missed % 256 * 256, cw3 := c.missDie }

/-- A die command with no part left open takes effect where it still has to, and completes. -/
def dieClose (old c : DieCmd) (b : Block) : Block :=
  if c.parts.isEmpty then
    let (b, c) := settleAll { c with ready := [] } c.ready b
    ({ b with dieq := b.dieq.erase old } : Block).complete c.desc (dieCompl c)
  else { b with dieq := b.dieq.map fun x => if x = old then c else x }

/-- A descriptor whose parts have passed their checks goes to the dies; a part that fails the engine's check, or whose
engine has been reset since the dispatch, is not applied; with no part left the descriptor completes at once (R40, R41
step 5, R142, R157). -/
def sendToDies (d : Desc) (sync : Bool) (as : List DieAct) (b : Block) : Block :=
  let gone := b.goneOf d
  let live := as.filter fun a => !gone.contains (actEngine a)
  let ok := live.filter fun a => b.missOf a == .no
  let c := (as.filter fun a => gone.contains (actEngine a)).foldl b.abortPart { desc := d, parts := ok, sync := sync }
  let c := (live.filter fun a => !(b.missOf a == .no)).foldl (fun c a => b.missPart (b.missOf a) c a) c
  if ok.isEmpty then b.complete d (dieCompl c) else { b with dieq := b.dieq ++ [c] }

/-- DIE_ACKNOWLEDGE (R40, R156): the die acknowledges the oldest command that still has parts on it. With
SYNC = 0 its parts are applied now; with SYNC = 1 all parts are applied once every die has acknowledged. -/
def dieAck (die : Nat) (b : Block) : Block :=
  let here (a : DieAct) : Bool := actDie a == die
  match b.dieq.find? (fun c => c.parts.any here) with
  | none => b
  | some c =>
    let mine := c.parts.filter here
    let rest := c.parts.filter fun a => !here a
    let (b1, c1) := if c.sync then (b, { c with ready := c.ready ++ mine }) else settleAll c mine b
    b1.dieClose c { c1 with parts := rest }

/-- A reset of engine c, HC6–HC12 (R142, R205, R237): commands that their die has not acknowledged are not applied, and
a command with no other part open completes. DESIGN CHOICE: what other dies have acknowledged of a command with SYNC = 1
is applied then (log 164). -/
def dieAbort (c : Nat) (b : Block) : Block :=
  let here (a : DieAct) : Bool := actEngine a == c
  (b.dieq.filter fun x => x.parts.any here).foldl (fun b x =>
    let c1 := (x.parts.filter here).foldl b.abortPart x
    b.dieClose x { c1 with parts := x.parts.filter fun a => !here a }) b

/-! ### Descriptors of the power channels (R154, R155, R181) -/

/-- Channels selected by the mask of DW5–DW7 (R154). -/
def hsMask (d : Desc) : List Nat := (List.range 96).filter fun k => bit (d.dw (5 + k / 32)) (k % 32)

/-- Half-bridges, or full bridges, selected by DW5 (R181). -/
def hbMask (d : Desc) : List Nat := (List.range 16).filter fun k => bit (d.dw 5) k
def fbMask (d : Desc) : List Nat := (List.range 8).filter fun k => bit (d.dw 5) k

/-- DUTY of an ACTION: 0 = off, 1 = on, 2 = DUTY (R155). -/
def actDuty (act duty : Nat) : Nat := if act = 0 then 0 else if act = 1 then 65536 else duty

/-- HS_SET (R155). -/
def hsSet (d : Desc) (b : Block) : Block :=
  let act := bits (d.dw 8) 1 0
  let duty := d.dw 9
  let ok := d.ok 0x10 0 0 [0xFFFFFFFF, 0xFFFFFFFF, 0xFFFFFFFF, 0x103, 0x1FFFF] && !(act == 3) &&
    decide (duty ≤ 65536) && (act == 2 || duty == 0) && !(hsMask d).isEmpty
  b.runDeferred d ok fun b => b.sendToDies d (bit (d.dw 8) 8) ((hsMask d).map fun n => .hs n (actDuty act duty))

/-- One entry of HS_SETLIST: channel, ACTION, DUTY, and whether it is well-formed (R154, R155). -/
def hsEntry (bs : List Byte) : Nat × Nat × Bool :=
  let n := ofLe (bs.take 1)
  let act := ofLe ((bs.drop 1).take 1)
  let duty := ofLe ((bs.drop 4).take 4)
  (n, actDuty act duty, decide (n < 96) && decide (act < 3) && ofLe ((bs.drop 2).take 2) == 0 &&
    decide (duty ≤ 65536) && (act == 2 || duty == 0))

/-- Of entries for the same channel the last counts (R155). -/
def lastOf (es : List (Nat × Nat)) : List (Nat × Nat) :=
  es.foldl (fun t e => Tab.put t e.1 e.2) []

/-- HS_SETLIST (R155). -/
def hsSetList (d : Desc) (b : Block) : Block :=
  let es := (pieces 8 96 (d.payload.take d.len)).map hsEntry
  let ok := d.ok 0x11 8 768 [0, 0, 0, 0x100] && d.len % 8 == 0 && es.all fun e => e.2.2
  b.runDeferred d ok fun b =>
    b.sendToDies d (bit (d.dw 8) 8) ((lastOf (es.map fun e => (e.1, e.2.1))).map fun e => .hs e.1 e.2)

/-- Sticky bits [15:8] and [22] of a channel's status cleared (R155, R181). -/
def clearSticky (p : Nat) (b : Block) : Block :=
  let m (w : Nat) : Nat := putBits (putBits w 15 8 0) 22 22 0
  if isHb p then b.wr R.HB_STAT (p - 96) (m (b.rd R.HB_STAT (p - 96))) else b.wr R.HSW_STAT p (m (b.rd R.HSW_STAT p))

/-- HS_CLEAR (R155, R126): served in every state of the weir. A bit of the second channel of a pair has no effect (R109);
DESIGN CHOICE: CW2 counts it as served (log 152). -/
def hsClear (d : Desc) (b : Block) : Block × Compl :=
  let sel := hsMask d
  if !(d.ok 0x12 0 0 [0xFFFFFFFF, 0xFFFFFFFF, 0xFFFFFFFF, 3]) || sel.isEmpty then (b, .of St.badDesc)
  else
    let b := sel.foldl (fun b n =>
      let b := if bit (d.dw 8) 0 then b.chUnlock n else b
      if bit (d.dw 8) 1 && !b.isFollower n then b.clearSticky n else b) b
    (b, { status := St.ok, cw2 := sel.length })

/-- The 16-byte record of HS_READ (R155). -/
def hsRecord (b : Block) (n : Nat) : List Byte :=
  leBytes 4 (b.rd R.HSW_STAT n % 2 ^ 23 + n * 2 ^ 24) ++ leBytes 4 (b.rd R.HSW_MEAS n) ++
  leBytes 4 (b.rd R.HSW_CLAMP n) ++ leBytes 4 (b.rd R.HSW_TJ n)

/-- HS_READ (R155). -/
def hsRead (d : Desc) (b : Block) : Block × Compl :=
  let sel := hsMask d
  if !(d.ok 0x13 (16 * sel.length) 65536 [0xFFFFFFFF, 0xFFFFFFFF, 0xFFFFFFFF]) || sel.isEmpty then (b, .of St.badDesc)
  else (b, { status := St.ok, cw2 := sel.length, data := (sel.map b.hsRecord).flatten })

/-- HB_SET (R181). DW9 must be 0 unless OUT is DRIVE, the only OUT that uses DUTY (R161, R395). -/
def hbSet (d : Desc) (b : Block) : Block :=
  let out := bits (d.dw 8) 1 0
  let duty := d.dw 9
  let ok := d.ok 0x20 0 0 [0xFFFF, 0, 0, 0x103, 0x1FFFF] && !(out == 3) && decide (duty ≤ 65536) &&
    (out == 1 || duty == 0) && !(hbMask d).isEmpty
  b.runDeferred d ok fun b => b.sendToDies d (bit (d.dw 8) 8) ((hbMask d).map fun n => .hb n out duty)

/-- FB_DRIVE (R181). DW9 must be 0 unless DIR is FWD or REV. -/
def fbDrive (d : Desc) (b : Block) : Block :=
  let dir := bits (d.dw 8) 1 0
  let duty := d.dw 9
  let ok := d.ok 0x21 0 0 [0xFF, 0, 0, 0x103, 0x1FFFF] && decide (duty ≤ 65536) &&
    (dir == 1 || dir == 2 || duty == 0) && !(fbMask d).isEmpty
  b.runDeferred d ok fun b => b.sendToDies d (bit (d.dw 8) 8) ((fbMask d).map fun k => .fb k dir duty)

/-- WIPE (R166, R181). DW9 must be 0 with STOP. -/
def wipe (d : Desc) (b : Block) : Block :=
  let act := bits (d.dw 8) 1 0
  let duty := d.dw 9
  let ok := d.ok 0x22 0 0 [0xFF, 0, 0, 3, 0x1FFFF] && !(act == 3) && decide (duty ≤ 65536) &&
    (!(act == 0) || duty == 0) && !(fbMask d).isEmpty
  b.runDeferred d ok fun b => b.sendToDies d false ((fbMask d).map fun k => .wipe k act duty)

/-- WIN_MOVE (R169, R181): one bridge. DW9 must be 0 with stop. -/
def winMoveDesc (d : Desc) (b : Block) : Block :=
  let t := d.dw 8
  let duty := d.dw 9
  let ok := d.ok 0x23 0 0 [0xFF, 0, 0, 0xFFFF, 0x1FFFF] && decide (duty ≤ 65536) &&
    (!(t == 0x8000) || duty == 0) && (fbMask d).length == 1
  b.runDeferred d ok fun b => b.sendToDies d false ((fbMask d).map fun k => .win k t duty)

/-- LOCK_PULSE (R170, R181). -/
def lockPulseDesc (d : Desc) (b : Block) : Block :=
  let ok := d.ok 0x24 0 0 [0xFF, 0, 0, 1] && !(fbMask d).isEmpty
  b.runDeferred d ok fun b => b.sendToDies d false ((fbMask d).map fun k => .lock k (bits (d.dw 8) 0 0 + 1))

/-! ### Lamp and matrix descriptors (R243, R245) -/

/-- LMP_SET. -/
def lmpSet (d : Desc) (b : Block) : Block :=
  let t := d.dw 8 % 2 ^ 24
  let ok := d.ok 0x40 0 0 [0xFFFFFFFF, 0xFFFFFFFF, 0xFFFFFFFF, 0x101FFFF, 0xFFFF] && decide (t ≤ 65536) && !(hsMask d).isEmpty
  b.runDeferred d ok fun b => b.sendToDies d (bit (d.dw 8) 24) ((hsMask d).map fun n => .lamp n t (d.dw 9))

/-- One entry of LMP_SETLIST: channel, FADE, TARGET, and whether it is well-formed. -/
def lmpEntry (bs : List Byte) : Nat × (Nat × Nat) × Bool :=
  let n := ofLe (bs.take 1)
  let t := ofLe ((bs.drop 4).take 4)
  (n, (ofLe ((bs.drop 2).take 2), t), decide (n < 96) && ofLe ((bs.drop 1).take 1) == 0 && decide (t ≤ 65536))

/-- LMP_SETLIST: of entries for the same channel the last counts. -/
def lmpSetList (d : Desc) (b : Block) : Block :=
  let es := (pieces 8 96 (d.payload.take d.len)).map lmpEntry
  let ok := d.ok 0x41 8 768 [0, 0, 0, 0x1000000] && d.len % 8 == 0 && es.all fun e => e.2.2
  let last := es.foldl (fun t e => Tab.put t e.1 e.2.1) []
  b.runDeferred d ok fun b => b.sendToDies d (bit (d.dw 8) 24) (last.map fun e => .lamp e.1 e.2.2 e.2.1)

/-- LMP_COLOUR. -/
def lmpColour (d : Desc) (b : Block) : Block :=
  let gs := (List.range 16).filter fun g => bit (d.dw 5) g
  let ok := d.ok 0x42 0 0 [0xFFFF, 0, 0, 0x1FFFF, 0x1FFFF, 0x1FFFF, 0x100FFFF] && !gs.isEmpty &&
    decide (d.dw 8 ≤ 65536) && decide (d.dw 9 ≤ 65536) && decide (d.dw 10 ≤ 65536)
  b.runDeferred d ok fun b => b.sendToDies d (bit (d.dw 11) 24)
    (gs.map fun g => .colour g (dieOf (b.getF F.LMP_GRP_CH0 g)) (d.dw 8) (d.dw 9) (d.dw 10) (bits (d.dw 11) 15 0))

/-- The 16-byte record of LMP_READ. -/
def lmpRecord (b : Block) (n : Nat) : List Byte :=
  leBytes 4 (b.rd R.LMP_LEVEL n + n * 2 ^ 24) ++ leBytes 4 (b.rd R.LMP_TARGET n) ++
  leBytes 4 (b.rd R.LMP_FADE n) ++ leBytes 4 (b.rd R.LMP_DIAG n)

/-- LMP_READ. -/
def lmpRead (d : Desc) (b : Block) : Block × Compl :=
  let sel := hsMask d
  if !(d.ok 0x43 (16 * sel.length) 65536 [0xFFFFFFFF, 0xFFFFFFFF, 0xFFFFFFFF]) || sel.isEmpty then (b, .of St.badDesc)
  else (b, { status := St.ok, cw2 := sel.length, data := (sel.map b.lmpRecord).flatten })

/-- LMP_CLEAR: the cases of R245 are not applied. -/
def lmpClear (d : Desc) (b : Block) : Block × Compl :=
  let sel := hsMask d
  if !(d.ok 0x44 0 0 [0xFFFFFFFF, 0xFFFFFFFF, 0xFFFFFFFF, 1]) || sel.isEmpty then (b, .of St.badDesc)
  else
    let act (n : Nat) : DieAct := .lamp n 0 0
    let ok (n : Nat) : Bool := !b.actDisabled (act n) && !b.actLink (act n) && b.flag F.HSW_CFG_LAMP n && !b.isFollower n &&
      b.chanMiss n true .no == .no
    let miss := sel.filter fun n => !ok n
    let hit := sel.filter ok
    let none := if sel.all fun n => b.actDisabled (act n) then St.disabled
      else if sel.all fun n => b.actLink (act n) then St.hwFault else St.refused
    let dies := miss.foldl (fun m n => m ||| 2 ^ dieOf n) 0
    let b := hit.foldl (fun b n => if bit (d.dw 8) 0 then
      ((b.setF F.LMP_DIAG_LOWI n 0).setF F.LMP_DIAG_HIGHI n 0).setF F.LMP_FADE_FCUT n 0 else b) b
    (b, { status := partStatus hit.length miss.length none, cw2 := hit.length + miss.length * 256, cw3 := dies })

/-- MTX_FRAME. -/
def mtxFrameDesc (d : Desc) (b : Block) : Block :=
  let ks := (List.range 4).filter fun k => bit (d.dw 8) k
  let ok := d.ok 0x48 512 2048 [0, 0, 0, 0x10F] && !ks.isEmpty && d.len == 512 * ks.length
  b.runDeferred d ok fun b => b.sendToDies d (bit (d.dw 8) 8)
    (ks.zipIdx.map fun p => .frame p.1 ((d.payload.drop (512 * p.2)).take 512))

/-- VLV_SHOT (R191, R194, R215, R216). -/
def vlvShot (d : Desc) (b : Block) : Block :=
  let ok := d.ok 0x30 0 0 [0xFFFFFFFF, 0, 0, 0x10F, 0xFFFF] && !(vlMask d).isEmpty
  b.runDeferred d ok fun b => b.sendToDies d (bit (d.dw 8) 8)
    ((vlMask d).map fun n => .shot n (n / 16 * 16 + bits (d.dw 8) 3 0) (d.dw 9))

/-- HB_CLEAR (R181). -/
def hbClear (d : Desc) (b : Block) : Block × Compl :=
  let sel := hbMask d
  if !(d.ok 0x25 0 0 [0xFFFF, 0, 0, 3]) || sel.isEmpty then (b, .of St.badDesc)
  else
    let b := sel.foldl (fun b n =>
      let b := if bit (d.dw 8) 0 then b.chUnlock (96 + n) else b
      if bit (d.dw 8) 1 then
        let b := b.clearSticky (96 + n)
        b.wr R.HB_FBSTAT (n / 2) (putBits (b.rd R.HB_FBSTAT (n / 2)) 7 3 0)
      else b) b
    (b, { status := St.ok, cw2 := sel.length })

/-- The record of HB_READ (R181). -/
def hbRecord (b : Block) (n : Nat) : List Byte :=
  leBytes 4 (b.rd R.HB_STAT n % 2 ^ 24 + n * 2 ^ 24) ++ leBytes 4 (b.rd R.HB_MEAS n) ++
  leBytes 4 (b.rd R.HB_CLAMP n) ++ leBytes 4 (b.rd R.HB_TJ n)

/-- HB_READ (R181). -/
def hbRead (d : Desc) (b : Block) : Block × Compl :=
  let sel := hbMask d
  if !(d.ok 0x26 (16 * sel.length) 65536 [0xFFFF]) || sel.isEmpty then (b, .of St.badDesc)
  else (b, { status := St.ok, cw2 := sel.length, data := (sel.map b.hbRecord).flatten })

end Block

end Sys2Proof.Machine
end

