-- ==== Sys2Proof/Machine/Dio.lean ====
section
/-! DEFINITION. Field inputs, digital outputs and sensor supplies (R279–R303). -/
namespace Sys2Proof.Machine

namespace Block

/-! ### Inputs (R279–R287) -/

/-- A status bit of input n: EV(188 + n ÷ 8) (R297). -/
def distick (f : RegField) (n : Nat) (b : Block) : Block := b.stick f n (188 + n / 8)

/-- Wetting current of a configuration word in steps of 0.01 mA (R280). -/
def wetting (w : Nat) : Nat :=
  let wet := [50, 100, 200, 500, 1000, 1500, 2000, 2000].getD (bits w 7 5) 0
  if cfgMode w = 1 ∨ cfgMode w = 2 then (if bit w 8 && decide (2 ≤ bits w 11 10) then 50 + wet / 10 else wet) else 0

/-- Wetting sum of a die with input n configured by w (R280). -/
def wetSum (b : Block) (n w : Nat) : Nat :=
  ((List.range 16).map fun i =>
    let m := n / 16 * 16 + i
    if m = n then wetting w else if b.getF F.DIO_DICFG_EN m = 1 then wetting (b.direc m).cfg else 0).sum

/-- Bias of an input by its applied configuration: wetting in MODE 1 and 2, pulsed or continuous and reduced while its group
is hot; the 2.5 mA sink of MODE 3 and 4; none while it is off (R279, R280, R287). -/
def diBias (w : Nat) (hot : Bool) : Int × Int :=
  let wet : Int := ([50, 100, 200, 500, 1000, 1500, 2000, 2000].getD (bits w 7 5) 0 : Nat)
  let m := cfgMode w
  let full := if hot then min 50 wet else wet
  let rest := if bit w 8 && decide (2 ≤ bits w 11 10) then min 50 full else full
  if m = 1 then (full, rest) else if m = 2 then (-full, -rest) else if m = 3 ∨ m = 4 then (-250, -250) else (0, 0)

/-- Bring the bias of input n up to date. -/
def setBias (n : Nat) (b : Block) : Block :=
  b.updDi n fun r => { r with bias := if b.getF F.DIO_DICFG_EN n = 1 then diBias r.cfg (Tab.get false b.dio.hot (n / 8)) else (0, 0) }

/-- DI_ENABLE: EN written 1 applies the configuration, or sets CFGERR and leaves EN at 0 (R281). -/
def diEnable (n : Nat) (b : Block) : Block :=
  if b.getF F.DIO_DICFG_EN n == 1 then b
  else
    let w := b.rd R.DIO_DICFG n
    let f := b.rd R.DIO_DIFLT n
    if decide (4 < cfgMode w) || decide (bits f 7 0 ≤ bits f 15 8) || decide (bits f 23 16 < bits f 7 0) || decide (20000 < b.wetSum n w)
    then b.distick F.DIO_DISTAT_CFGERR n
    else
      let b := ((b.setF F.DIO_DICFG_EN n 1).updDi n fun r => { cfg := w, flt := f, high := r.high }).setBias n
      if Tab.get false b.dio.above (n / 8) then b.distick F.DIO_DISTAT_OT n else b

/-- DI_DISABLE. LEVEL keeps its value. -/
def diDisable (n : Nat) (b : Block) : Block := (b.setF F.DIO_DICFG_EN n 0).setBias n

/-- Show the level of input n (R282, R300). -/
def diShow (n : Nat) (active : Bool) (b : Block) : Block :=
  let b := b.setF F.DIO_DISTAT_LEVEL n (b2n active)
  b.wr R.DIO_DILVL (n / 32) (putBits (b.rd R.DIO_DILVL (n / 32)) (n % 32) (n % 32) (b2n active))

/-- LEVEL has changed: change bit, event, and the functions that use it (R166, R284). -/
def diChanged (n : Nat) (b : Block) : Block :=
  let b := b.wr R.DIO_DICHG (n / 32) (putBits (b.rd R.DIO_DICHG (n / 32)) (n % 32) (n % 32) 1)
  let b := if b.flag F.DIO_DICFG_EVCHG n then b.raiseOpen (188 + n / 8) else b
  b.wiperInput n

/-- DI_SAMPLE (R279, R282–R284): the input voltage in mV. -/
def diSample (n : Nat) (mv : Int) (b : Block) : Block :=
  let r := b.direc n
  if b.getF F.DIO_DICFG_EN n == 0 then b
  else if r.skip then b.updDi n fun r => { r with skip := false }
  else
    let high := diCompare (cfgMode r.cfg) r.high mv
    let raw := diActive (cfgMode r.cfg) (cfgInv r.cfg) high
    let cmax := bits r.flt 23 16
    let was := b.flag F.DIO_DISTAT_LEVEL n
    let b := (b.updDi n fun r => { r with high := high }).setF F.DIO_DISTAT_RAW n (b2n raw)
    if r.first then
      let b := b.updDi n fun r => { r with first := false }
      let b := (b.setF F.DIO_DIFLT_CNT n (if raw then cmax else 0)).diShow n raw
      if raw = was then b else b.wiperInput n
    else
      let c := if raw then min cmax (b.getF F.DIO_DIFLT_CNT n + 1) else b.getF F.DIO_DIFLT_CNT n - 1
      let level := if raw then was || decide (bits r.flt 7 0 ≤ c) else was && !(decide (c ≤ bits r.flt 15 8))
      let b := (b.setF F.DIO_DIFLT_CNT n c).diShow n level
      if level = was then b else b.diChanged n

/-- OPEN_WIRE_CHECK (R285): one reading of input n in mV; its filter skips the sample. -/
def openWire (n : Nat) (mv : Int) (b : Block) : Block :=
  let r := b.direc n
  let m := cfgMode r.cfg
  if b.getF F.DIO_DICFG_EN n == 0 || !b.flag F.DIO_DICFG_OWEN n || !(m == 1 || m == 2) then b
  else
    let det := if m = 1 then decide (4000 < mv) else decide (mv < 1000 ∧ 9000 ≤ b.getF F.PWR_FEED_VOLT 2)
    let c := if det then r.opens + 1 else 0
    let b := b.updDi n fun r => { r with opens := min c 2, skip := true }
    if 2 ≤ c then b.distick F.DIO_DISTAT_OW n else b

/-- DI_OVERLOAD (R286): the clamp has conducted `ua` µA for 1 ms. -/
def diOverload (n ua : Nat) (b : Block) : Block :=
  if 5000 < ua then b.distick F.DIO_DISTAT_OVLD n else b

/-- DI_GROUP_OVERTEMP (R287): the junction of group g in 1/16 °C. Above 160 °C OT is set in every enabled input and wetting is
reduced; at 145 °C it returns in full. -/
def diGroup (g : Nat) (tj : Int) (b : Block) : Block :=
  let above := decide (160 * 16 < tj)
  let hot := above || Tab.get false b.dio.hot g && !decide (tj ≤ 145 * 16)
  let b := { b with dio := { b.dio with hot := Tab.put b.dio.hot g hot, above := Tab.put b.dio.above g above } }
  forRange (8 * g) (8 * g + 8) (fun n b =>
    let b := b.setBias n
    if above && b.getF F.DIO_DICFG_EN n == 1 then b.distick F.DIO_DISTAT_OT n else b) b

/-- DIMEAS_UPDATE (R666): the input voltage in 2 mV steps, in every MODE, while PD12 is at power good. -/
def diMeas (n vin : Nat) (b : Block) : Block := if b.pg 12 then b.setF F.DIO_DIMEAS_VIN n vin else b

/-! ### Outputs and supplies (R289–R295) -/

/-- A status bit of output m, and of supply k (R297). -/
def dostick (f : RegField) (m : Nat) (b : Block) : Block := b.stick f m (196 + m / 4)
def svstick (f : RegField) (k : Nat) (b : Block) : Block := b.stick f k (196 + k)

/-- DO_TIMEOUT (R292): DOTO ms without an accepted DO_SET. -/
def doTimeout (m : Nat) (b : Block) : Block :=
  if b.getF F.DIO_DOCFG_EN m == 0 then b
  else
    let eff := b.doEff m
    let b := (b.updDo m fun r => { r with safe := true, latch := true, held := eff }).doSync m
    b.dostick F.DIO_DOSTAT_TOUT m

/-- DO_OVERLOAD (R290): the current limit has been active for 5 ms. -/
def doOverload (m : Nat) (b : Block) : Block :=
  if b.doConducts m then ((b.updDo m fun r => { r with wait := true }).doSync m).dostick F.DIO_DOSTAT_OVLD m else b

/-- DO_OVERLOAD_WAIT_END (R290): 100 ms later. -/
def doWaitEnd (m : Nat) (b : Block) : Block :=
  if (b.dorec m).wait then (b.updDo m fun r => { r with wait := false }).doSync m else b

/-- DO_THERMAL (R290): the junction in 1/16 °C. -/
def doThermal (m : Nat) (tj : Int) (b : Block) : Block :=
  if !(b.dorec m).therm && decide (175 * 16 ≤ tj) then
    ((b.updDo m fun r => { r with therm := true }).doSync m).dostick F.DIO_DOSTAT_OT m
  else if (b.dorec m).therm && decide (tj ≤ 160 * 16) then (b.updDo m fun r => { r with therm := false }).doSync m
  else b

/-- DO_ONSTATE_OPEN (R291): less than 2.0 mA for 20 ms, current in µA. -/
def doOpen (m ua : Nat) (b : Block) : Block :=
  if b.doConducts m && b.flag F.DIO_DOCFG_OWEN m && decide (ua < 2000) then b.dostick F.DIO_DOSTAT_OW m else b

/-- OFF_STATE_CHECK of output m (R121, R291): above 3.5 V without and with the pull-up. -/
def doOffCheck (m : Nat) (v1 v2 : Bool) (b : Block) : Block :=
  if b.getF F.DIO_DOCFG_EN m == 0 || !b.flag F.DIO_DOCFG_OWEN m || b.doConducts m then b
  else if v1 then b.dostick F.DIO_DOSTAT_SB m
  else if v2 then b.dostick F.DIO_DOSTAT_OW m else b

/-- Output voltage of a supply in mV; 3 acts as 0 (R294, R301). -/
def svMv (b : Block) (k : Nat) : Nat := [5000, 8000, 10000, 5000].getD (b.getF F.DIO_SVCFG_VSEL k) 0

/-- Supply k is on. -/
def svOn (b : Block) (k : Nat) : Bool := b.getF F.DIO_SVSTAT_STATE k == 1

/-- SV_OVERLOAD (R294): above 180 mA for 10 ms, current in µA. -/
def svOverload (k ua : Nat) (b : Block) : Block :=
  if b.svOn k && decide (180000 < ua) then ((b.updSv k fun r => { r with retry := true }).svSync k).svstick F.DIO_SVSTAT_OVLD k else b

/-- SV_SHORT_TO_BATTERY (R294): output above VSEL + 1.0 V for 1 ms. -/
def svShort (k mv : Nat) (b : Block) : Block :=
  if b.svOn k && decide (b.svMv k + 1000 < mv) then ((b.updSv k fun r => { r with retry := true }).svSync k).svstick F.DIO_SVSTAT_SB k else b

/-- SV_RETRY_END (R294): 100 ms of RETRYWAIT end. -/
def svRetryEnd (k : Nat) (b : Block) : Block := (b.updSv k fun r => { r with retry := false }).svSync k

/-- SV_THERMAL (R294): the junction in 1/16 °C. -/
def svThermal (k : Nat) (tj : Int) (b : Block) : Block :=
  if !(b.svrec k).therm && decide (175 * 16 ≤ tj) then
    ((b.updSv k fun r => { r with therm := true }).svSync k).svstick F.DIO_SVSTAT_OT k
  else if (b.svrec k).therm && decide (tj ≤ 160 * 16) then (b.updSv k fun r => { r with therm := false }).svSync k
  else b

/-- SV_UNDERVOLTAGE (R294): below 95 % of VSEL for 1 ms, not in limit; or VBAT_C less than 2.0 V above the output. -/
def svUnder (k mv : Nat) (limited : Bool) (b : Block) : Block :=
  if b.svOn k && ((decide (mv * 100 < b.svMv k * 95) && !limited) || decide (b.getF F.PWR_FEED_VOLT 2 < b.svMv k + 2000)) then
    b.svstick F.DIO_SVSTAT_UV k else b

/-- SV_ENABLE (R301). -/
def svWrite (k : Nat) (on : Bool) (b : Block) : Block := if on then b.svEnable k else b.svDisable k

/-- MEAS_UPDATE of an output and of a supply (R301): current and voltage. -/
def doMeas (m cur vout : Nat) (b : Block) : Block := (b.setF F.DIO_DOMEAS_CURR m cur).setF F.DIO_DOMEAS_VOUT m vout
def svMeas (k cur vout : Nat) (b : Block) : Block := (b.setF F.DIO_SVMEAS_CURR k cur).setF F.DIO_SVMEAS_VOUT k vout

/-- MEAS_UPDATE by number: channels 0–111, outputs 112–127, supplies 128–131 (R108, R301). -/
def measAny (p cur vout tj : Nat) (b : Block) : Block :=
  if p < 112 then b.measUpdate p cur vout tj else if p < 128 then b.doMeas (p - 112) cur vout else b.svMeas (p - 128) cur vout

/-- OFF_STATE_CHECK by number: channels 0–111, outputs 112–127 (R121, R291). -/
def offAny (p : Nat) (v1 v2 : Bool) (b : Block) : Block := if p < 112 then b.offCheck p v1 v2 else b.doOffCheck (p - 112) v1 v2

/-! ### Descriptors (R302, R303) -/

/-- Inputs of the masks in DW5 and DW6, outputs and supplies of a mask. -/
def diMask (d : Desc) : List Nat := (List.range 64).filter fun n => bit (d.dw (5 + n / 32)) (n % 32)
def outMask (w : Nat) : List Nat := (List.range 16).filter fun m => bit w m
def svMask (w : Nat) : List Nat := (List.range 4).filter fun k => bit w k

/-- DI_READ: CLRCHG clears exactly the change bits returned (R302). -/
def diRead (d : Desc) (b : Block) : Block × Compl :=
  let sel := diMask d
  let len := 16 + 8 * sel.length
  if !(d.ok 0x60 len 65536 [0xFFFFFFFF, 0xFFFFFFFF, 0, 1]) then (b, .of St.badDesc)
  else
    let head := leBytes 4 (b.rd R.DIO_DILVL 0) ++ leBytes 4 (b.rd R.DIO_DILVL 1) ++ leBytes 4 (b.rd R.DIO_DICHG 0) ++ leBytes 4 (b.rd R.DIO_DICHG 1)
    let recs := sel.flatMap fun n => leBytes 4 (b.rd R.DIO_DISTAT n % 256 + n * 2 ^ 24) ++ leBytes 4 (b.rd R.DIO_DIMEAS n)
    (if bit (d.dw 8) 0 then (b.wr R.DIO_DICHG 0 0).wr R.DIO_DICHG 1 0 else b, { status := St.ok, cw2 := len, data := head ++ recs })

/-- DO_SET. -/
def doSet (d : Desc) (b : Block) : Block :=
  let ms := outMask (d.dw 5)
  let ok := d.ok 0x61 0 0 [0xFFFF, 0xFFFF, 0, 0x100] && !ms.isEmpty && decide (d.dw 6 &&& d.dw 5 = d.dw 6)
  b.runDeferred d ok fun b => b.sendToDies d (bit (d.dw 8) 8) (ms.map fun m => .out m (bit (d.dw 6) m))

/-- SV_SET. -/
def svSet (d : Desc) (b : Block) : Block :=
  let ks := svMask (d.dw 5)
  let ok := d.ok 0x62 0 0 [0xF, 0, 0, 1] && !ks.isEmpty
  b.runDeferred d ok fun b => b.sendToDies d false (ks.map fun k => .supply k (bit (d.dw 8) 0))

/-- The sticky bits of one channel cleared. -/
def clearBits (r : Reg) (n hi lo : Nat) (b : Block) : Block := b.wr r n (putBits (b.rd r n) hi lo 0)

/-- DIO_CLEAR: RESUME leaves the output as it is and restarts its timeout (R293). -/
def dioClear (d : Desc) (b : Block) : Block × Compl :=
  let is := diMask d
  let ms := outMask (d.dw 7)
  let ks := svMask (bits (d.dw 7) 19 16)
  if !(d.ok 0x63 0 0 [0xFFFFFFFF, 0xFFFFFFFF, 0xFFFFF, 3]) || (is.isEmpty && ms.isEmpty && ks.isEmpty) then (b, .of St.badDesc)
  else
    let badLink (k : Nat) : Bool := Tab.get false b.pw.linkFail k
    let noOut (m : Nat) : Bool := b.getF F.DIO_DOCFG_EN m == 0 || badLink (m / 4)
    let noSv (k : Nat) : Bool := b.getF F.DIO_SVCFG_EN k == 0 || badLink k
    let sticky := bit (d.dw 8) 0
    let b1 := if sticky then is.foldl (fun b n =>
        (b.clearBits R.DIO_DISTAT n 7 4).clearBits R.DIO_DICHG (n / 32) (n % 32) (n % 32)) b else b
    let b1 := (ms.filter fun m => !noOut m).foldl (fun b m =>
      let b := if sticky then b.clearBits R.DIO_DOSTAT m 8 4 else b
      if bit (d.dw 8) 1 then b.updDo m fun r => { r with latch := false } else b) b1
    let b1 := (ks.filter fun k => !noSv k).foldl (fun b k => if sticky then b.clearBits R.DIO_SVSTAT k 7 4 else b) b1
    let missM := ms.filter noOut
    let missK := ks.filter noSv
    let miss := missM.length + missK.length
    let hit := is.length + ms.length + ks.length - miss
    let none := if ms.all (fun m => b.getF F.DIO_DOCFG_EN m == 0) && ks.all (fun k => b.getF F.DIO_SVCFG_EN k == 0) then St.disabled
      else if ms.all (fun m => badLink (m / 4)) && ks.all badLink then St.hwFault else St.refused
    let dies := missK.foldl (fun x k => x ||| 2 ^ k) (missM.foldl (fun x m => x ||| 2 ^ (m / 4)) 0)
    (b1, { status := partStatus hit miss none, cw2 := hit % 256 + miss * 256, cw3 := dies })

/-- DO_READ. -/
def doRead (d : Desc) (b : Block) : Block × Compl :=
  if !(d.ok 0x64 160 65536 []) then (b, .of St.badDesc)
  else
    let outs := (List.range 16).flatMap fun m => leBytes 4 (b.rd R.DIO_DOSTAT m + m * 2 ^ 24) ++ leBytes 4 (b.rd R.DIO_DOMEAS m)
    let svs := (List.range 4).flatMap fun k => leBytes 4 (b.rd R.DIO_SVSTAT k + k * 2 ^ 24) ++ leBytes 4 (b.rd R.DIO_SVMEAS k)
    (b, { status := St.ok, cw2 := 160, data := outs ++ svs })

end Block

end Sys2Proof.Machine
end

