-- ==== Sys2Proof/Machine/Supply.lean ====
section
/-! DEFINITION. Feeds, bands, temperatures, oscillators, internal links and the real-time counter's captures
(R60–R66, R87, R96–R98). Their event sources define no DETAIL, so it is an open value. -/
namespace Sys2Proof.Machine

/-- Band boundaries in mV with their kind: true = an upper threshold, which a rising voltage crosses at the value and
a falling one 0.5 V below it; false = a lower one, crossed 0.5 V above when rising (R63). The number is the band above. -/
def bandEdges (sysv : Bool) : List (Nat × Bool × Nat) :=
  if sysv then [(6000, false, 1), (9000, false, 3), (16000, true, 4), (36000, true, 5)]
  else [(6000, false, 1), (9000, false, 2), (16000, false, 3), (32000, true, 4), (36000, true, 5)]

/-- Band of a voltage that comes from band `old`; codes of PWR_STATE.BAND, 0 = Brown-out (R63, R89). -/
def bandOf (sysv : Bool) (old mv : Nat) : Nat :=
  (bandEdges sysv).foldl (fun band e =>
    let fall := if e.2.1 then e.1 - 500 else e.1
    let rise := if e.2.1 then e.1 else e.1 + 500
    let above := if e.2.2 ≤ old then decide (fall ≤ mv) else decide (rise < mv)
    if above then e.2.2 else band) 0

/-- A band turns the outputs of its feed off (R63). -/
def bandOff (band : Nat) : Bool := band == 0 || band == 1 || band == 5

namespace Block

/-- A bit of a per-feed field of PWR_FEEDSTAT. -/
def feedBit (lo n : Nat) (b : Block) : Block := b.wr R.PWR_FEEDSTAT 0 (putBits (b.rd R.PWR_FEEDSTAT 0) (lo + n) (lo + n) 1)

/-- FEED_OVERCURRENT (R62): above 60 A for 100 ms. -/
def feedOc (n ma : Nat) (b : Block) : Block :=
  let b := b.setF F.PWR_FEED_CURR n (min (ma / 10) 65535)
  if 60000 < ma then (b.feedBit 0 n).raiseOpen n else b

/-- AGGREGATE_OVERCURRENT (R62): above 160 A for 100 ms. -/
def aggOc (ma : Nat) (b : Block) : Block := if 160000 < ma then (b.setF F.PWR_FEEDSTAT_AGGOC 0 1).raiseOpen 10 else b

/-- FEED_MISSING (R62): below 6.0 V for 1 ms with the logic supply at 9.0 V or more. -/
def feedMissing (n mv logic : Nat) (b : Block) : Block :=
  let b := b.setF F.PWR_FEED_VOLT n (min mv 65535)
  if mv < 6000 ∧ 9000 ≤ logic then (b.feedBit 4 n).raiseOpen n else b

/-- Outputs of feed n turn off into SUPPLY (R64, R125, R184, R206, R236, R290). -/
def feedDrop (n : Nat) (b : Block) : Block :=
  if Tab.get false b.pw.feedOff n then b
  else
    let off (b : Block) : Block := { b with pw := { b.pw with feedOff := Tab.put b.pw.feedOff n true } }
    if n = 2 then (forN 32 (fun n b => b.dropWaiting F.VLV_STAT_SKIPPED n) (off b)).vbatcDrop.mtxDrop.dioFeed
    else off <| forN nChan (fun p b =>
      if feedOf p = n then
        let st := b.chState p
        let b := if st == Ch.on || st == Ch.limit then (b.cutOne p).cset C.state p Ch.supply else b
        if st == Ch.held || st == Ch.failSafe then (b.cutOne p) else b
      else b) b

/-- SUPPLY_RESTART (R64): the feed has been in Reduced, Normal or High for 10 ms. -/
def supplyRestart (n : Nat) (b : Block) : Block :=
  if !Tab.get false b.pw.feedOff n || bandOff (b.feedBandOf n) then b
  else
    let b := { b with pw := { b.pw with feedOff := Tab.put b.pw.feedOff n false } }
    if n = 2 then b.vbatcBack.mtxBack.dioFeed
    else forN nChan (fun p b =>
      if feedOf p = n && !b.isFollower p then
        if b.chState p == Ch.supply then (b.matchState p).takeDuty p else b.takeDuty p
      else b) b

/-- PLIM acts as at most 250 W while VBAT_C is in Reduced, and in a 12 V system (R63, R184). -/
def syncPower (b : Block) : Block := { b with vlv := { b.vlv with low := b.feedBandOf 2 == 2 || b.flag F.PWR_CFG_SYSV 0 } }

/-- Take a new band of feed n. -/
def setFeedBand (n band : Nat) (b : Block) : Block :=
  let old := b.feedBandOf n
  let b := ({ b with pw := { b.pw with feedBand := Tab.put b.pw.feedBand n band } } : Block).syncPower
  let b := if bandOff band then b.feedDrop n else b
  if band = old then b
  else if band = 1 then (b.feedBit 8 n).raiseOpen n
  else if band = 5 then (b.feedBit 12 n).raiseOpen n else b

/-- FEED_BAND_CHANGE (R62–R64): the feed's voltage, after 1 ms. -/
def feedBandChange (n mv : Nat) (b : Block) : Block :=
  let b := b.setF F.PWR_FEED_VOLT n (min mv 65535)
  b.setFeedBand n (bandOf (b.flag F.PWR_CFG_SYSV 0) (b.feedBandOf n) mv)

/-- LOGIC_BAND_CHANGE (R63, R87, R89). Below 6.0 V it is a brown-out, which has its own command. -/
def logicBand (mv : Nat) (b : Block) : Block :=
  let b := { b with pw := { b.pw with logicMv := some mv } }
  let old := b.getF F.PWR_STATE_BAND 0
  let new := bandOf (b.flag F.PWR_CFG_SYSV 0) old mv
  if new = 0 ∨ new = old then b else (b.setF F.PWR_STATE_BAND 0 new).raiseOpen 3

/-- The band of the table now in force that a band of the other table becomes, before the voltage is looked at: it keeps
its sides of 6.0 V, 9.0 V and 36.0 V (R63, R65). -/
def bandMap (sysv : Bool) (band : Nat) : Nat :=
  if sysv then (if band = 2 then 3 else if band = 3 then 4 else band) else if band = 3 then 2 else if band = 4 then 3 else band

/-- SYSV is written: every feed is classed anew in the table now in force by its last reported voltage, and the logic
supply too (R65, log 37). A feed that has not been reported keeps its band, and so does an unreported logic supply. -/
def reband (b : Block) : Block :=
  let sysv := b.flag F.PWR_CFG_SYSV 0
  let b := forN 3 (fun n b =>
    let v := b.getF F.PWR_FEED_VOLT n
    if v = 0 then b else b.setFeedBand n (bandOf sysv (bandMap sysv (b.feedBandOf n)) v)) b.syncPower
  let old := b.getF F.PWR_STATE_BAND 0
  let new := b.pw.logicMv.elim (bandMap sysv old) (bandOf sysv (bandMap sysv old))
  if new = 0 ∨ new = old then b else (b.setF F.PWR_STATE_BAND 0 new).raiseOpen 3

/-- REFERENCE_OSC_DEVIATION (R87): the deviation in ppm. -/
def oscDeviation (ppm : Int) (b : Block) : Block := if 20000 < ppm ∨ ppm < -20000 then b.raiseOpen 8 else b

/-- CRYSTAL_STOP (R87): the crystal oscillator has stopped for this many µs. -/
def crystalStop (us : Nat) (b : Block) : Block :=
  if 1000 < us then b.raiseOpen 9 else b

/-- Thresholds of EV11–EV15 in °C (R87). -/
def tempLimit (i : Nat) : Int := [140, 150, 150, 140, 125].getD i 0

/-- TEMPERATURE_THRESHOLD (R87, R704): source EV(11 + i), temperature in 1/16 °C; 5 K of hysteresis. -/
def tempThreshold (i : Nat) (t : Int) (b : Block) : Block :=
  let high := Tab.get false b.pw.tempHigh i
  if !high && decide (tempLimit i * 16 < t) then
    ({ b with pw := { b.pw with tempHigh := Tab.put b.pw.tempHigh i true } } : Block).raiseOpen (11 + i)
  else if high && decide (t < (tempLimit i - 5) * 16) then { b with pw := { b.pw with tempHigh := Tab.put b.pw.tempHigh i false } }
  else b

/-- Domain whose power good powers temperature sensor n (R98). -/
def sensorDomain (n : Nat) : Nat := if n = 5 ∨ n = 6 then 11 else if n = 7 then 9 else 1

/-- TEMP_SENSOR_UPDATE (R98). -/
def tempUpdate (n t : Nat) (b : Block) : Block :=
  if b.pg (sensorDomain n) then (b.setF F.PWR_TEMP_TEMP n t).setF F.PWR_TEMP_VALID n 1 else b.setF F.PWR_TEMP_VALID n 0

/-- INTERNAL_LINK_FAULT (R29, R317): SP0–SP3, VD0, VD1 and AR as 0–6. -/
def linkFault (l : Nat) (b : Block) : Block :=
  ({ b with pw := { b.pw with linkFail := Tab.put b.pw.linkFail l true } } : Block).raise 253 l

/-! ### Real-time counter (R97) -/

/-- Both halves of the alarm. -/
def rtcAlarm (b : Block) : Nat := b.rd R.PWR_RTCALM0 0 + b.getF F.PWR_RTCALM1_TICKS 0 * 2 ^ 32

/-- RTC_READ (R97, R462): a read of PWR_RTC[0] captures all 48 bits. -/
def rtcRead (stale : Bool) (b : Block) : Block :=
  let b := b.wr R.PWR_RTC0 0 (b.pw.rtc % 2 ^ 32)
  (b.wr R.PWR_RTC1 0 (b.pw.rtc / 2 ^ 32 % 65536 + b2n stale * 2 ^ 31)).xStale 55 stale

/-- RTC_LOW_WRITE (R97). -/
def rtcLow (v : Nat) (b : Block) : Block := { b with pw := { b.pw with rtcStage := some v } }

/-- RTC_HIGH_WRITE (R97): the count is loaded at the next tick. -/
def rtcHigh (v : Nat) (b : Block) : Block := { b with pw := { b.pw with rtcLoad := some v } }

/-- TIMEBASE_READ (R214, R462). -/
def timebaseRead (stale : Bool) (b : Block) : Block := b.tbaseRead.xStale 7 stale

end Block

end Sys2Proof.Machine
end

