-- ==== Sys2Proof/Machine/Acs.lean ====
section
/-! DEFINITION. Access and immobiliser (R566–R597): discovery, exchanges, lockout, enrolment, dealer code, release, and
the access descriptors. An exchange is one command per message; its key derivations are part of it. -/
namespace Sys2Proof.Machine

/-- 125 °C times and radio link are the commands' own; a UWB time unit is 1/(128 × 499.2 MHz) (R570). 500 µs and
10 ns in units of 10⁻⁹ of it. -/
def uwb500us : Int := 31948800 * 10 ^ 9
def uwb10ns : Int := 638976 * 10 ^ 6

/-- Turnaround Tt = TREP × (1 − ε) in 10⁻⁹ units, with ε in 10⁻⁹ (R576). -/
def turnaround (trep : Nat) (eps : Int) : Int := (trep : Int) * (10 ^ 9 - eps)

/-- Twice the time of flight in 10⁻⁹ units: Tround − Tt − 2 × DELAY (R576). -/
def twoTof (tround delay trep : Nat) (eps : Int) : Int := (tround : Int) * 10 ^ 9 - turnaround trep eps - 2 * (delay : Int) * 10 ^ 9

/-- Range in units of 1/(2 × 10⁹ × 63,897,600,000) cm, so that comparisons are exact: ToF × 29,979,245,800 cm/s. -/
def rangeUnits (tof2 : Int) : Int := tof2 * 29979245800
def rangeDen : Int := 2 * 10 ^ 9 * 63897600000

/-- RANGE in cm, rounded to the nearest and kept within its field (log 61). -/
def rangeCm (tof2 : Int) : Nat := min 4095 ((2 * rangeUnits tof2 + rangeDen) / (2 * rangeDen)).toNat

/-- Label of a token key (R568). -/
def tokenLabel (tid : Nat) : List Nat := [0x41, 0x43, 0x53, 0x31] ++ beBytes 8 tid

/-- Session key KS from KT in the form of R542 (R568). -/
def sessionKey (kt nv nt : List Nat) : List Nat := kdf kt 4 ([0x53] ++ nv ++ nt) 128

/-- STS key KSTS from KT (R568). -/
def stsKey (kt nv : List Nat) : List Nat := kdf kt 4 ([0x5A] ++ nv) 128

/-- The proofs Pt and Pv (R569). -/
def proofT (ks : List Nat) (tid : Nat) (nv nt mea : List Nat) : List Nat := (cmac ks ([0x54] ++ beBytes 8 tid ++ nv ++ nt ++ mea)).take 8
def proofV (ks : List Nat) (tid : Nat) (nv nt : List Nat) (res : Nat) : List Nat := (cmac ks ([0x56] ++ beBytes 8 tid ++ nt ++ nv ++ [res])).take 8

/-- The dealer code of R586: V mod 10²⁴. -/
def dealerCode (kd serial : List Nat) (dcnt : Nat) : Nat := ofBe ((cmac kd (serial ++ beBytes 4 dcnt)).take 10) % 10 ^ 24

namespace Block

/-! ### State, log, sticky bits -/

def slotTid (b : Block) (s : Nat) : Nat := b.rd R.ACS_SLOTL s + b.rd R.ACS_SLOTH s * 2 ^ 32
def slotValid (b : Block) (s : Nat) : Bool := b.flag F.ACS_SLOTF_VALID s

/-- Slot of the enrolment that is pending, and its TID. -/
def enrolSlot (b : Block) : Option Nat := b.acs.enrol.map fun d => bits (d.dw 5) 5 0

/-- TID that slot s answers with: its own, or that of the token it awaits (R585). -/
def tokenTid (b : Block) (s : Nat) : Option Nat :=
  if b.slotValid s then some (b.slotTid s)
  else match b.acs.enrol with
    | some d => if bits (d.dw 5) 5 0 = s then some (d.dw 6 + d.dw 7 * 2 ^ 32) else none
    | none => none

/-- A lockout runs. -/
def lockout (b : Block) : Bool := b.flag F.ACS_STAT_LOCKOUT 0

/-- ACS_STAT.STATE: PAUSED without PD10 at power good and CIPH_CFG.EN (R574). -/
def accSync (b : Block) : Block :=
  b.setF F.ACS_STAT_STATE 0 (if !b.flag F.ACS_CFG_EN 0 then 0 else if b.ciphOn then 1 else 2)

/-- A log entry (R594). Fields that the outcome has no value for are open values (log 2). -/
def acsLog (code : Nat) (slot range zone tid : Option Nat) (b : Block) : Block :=
  let (r0, b) := b.fresh
  let (r1, b) := b.fresh
  let pick (v : Option Nat) (hi lo : Nat) : Nat := (v.getD (bits r0.toNat hi lo)) % 2 ^ (hi + 1 - lo) * 2 ^ lo
  let w0 := code + pick slot 13 8 + pick range 27 16 + pick zone 31 28
  let w1 := (tid.getD r1.toNat) % 2 ^ 32
  let e := [w0, w1, b.pw.rtc % 2 ^ 32, b.pw.rtc / 2 ^ 32 % 65536]
  let l := b.acs.log ++ [e]
  { b with acs := { b.acs with log := l.drop (l.length - 32) } }

/-- A sticky bit of EV233 with its cause and slot (R593). -/
def acsReject (f : RegField) (cause s : Nat) (b : Block) : Block := b.stickD f 0 233 (cause + s * 256)

/-! ### Keys (R568) -/

def acsTag (b : Block) (label : List Nat) : KeyTag := { root := b.getF F.ACS_CFG_RKSEL 0, dom := 4, lbits := 128, label := label }

/-- The units that the access engine uses have passed their self-tests (R555). -/
def acsTested (b : Block) : Bool := b.ciphOn && Tab.get 0 b.ciph.test 1 == 1 && Tab.get 0 b.ciph.test 2 == 1

/-- The key store can serve the access engine: PD10 runs, the root is loaded, and its self-tests have passed. -/
def acsKeys (b : Block) : Bool :=
  b.acsTested && !(b.getF F.ACS_CFG_RKSEL 0 == 0) && b.rootValid (b.getF F.ACS_CFG_RKSEL 0)

/-- A job of the access engine runs: whether a fault in its units meets it (R560, R561). -/
def acsJob (b : Block) : Bool × Block :=
  let b := b.unitJob 0
  if b.jobFault 0 3 then (true, b.jobError 3) else (false, b)

/-- Ask for a key: it is in the cache afterwards, or the refusal of its root is recorded (R541, R560). -/
def acsAsk (label : List Nat) (b : Block) : Block :=
  if b.acsKeys then b.keyNow (b.acsTag label)
  else if b.ciphOn && !b.rootValid (b.getF F.ACS_CFG_RKSEL 0) then b.rootRefused 3 else b

def acsKey (b : Block) (label : List Nat) : List Nat := keyOf (b.acsTag label)

/-- SYS_SERIAL as eight bytes, most significant first. -/
def serialBytes (b : Block) : List Nat := beBytes 4 (b.rd R.SYS_SERIAL 1) ++ beBytes 4 (b.rd R.SYS_SERIAL 0)

def relLabel (b : Block) : List Nat := [0x52, 0x45, 0x4C, 0x31] ++ beBytes 4 (b.rd R.ACS_RELLBL 0)
def dealerLabel (b : Block) : List Nat := [0x44, 0x4C, 0x52, 0x31] ++ b.serialBytes

/-! ### Release (R589–R591) -/

/-- One drive-release message (R591): RELCNT counts it first; a channel that is not AWAKE, or a priority queue without a
place, drops it, as does a key store that cannot serve (log 62). -/
def relFrame (b : Block) : Block :=
  let b := b.acsAsk b.relLabel
  let b := b.wrapF F.ACS_RELCNT_CNT 0 1
  let keys := b.acsKeys
  let (failed, b) := if keys then b.acsJob else (true, b)
  let n := b.getF F.ACS_REL_RELCH 0
  let id := b.getF F.ACS_RELID_ID 0
  let b0 := b.getF F.ACS_REL_RELEASED 0 + 2 * b.getF F.ACS_REL_MASTER 0 + 4 * b.getF F.ACS_REL_SLOT 0
  let cnt := b.getF F.ACS_RELCNT_CNT 0
  if !failed && decide (n < 12) && b.nstate n == 1 && decide ((b.nch n).prio.length < 64) then
    let mac := (cmac (b.acsKey b.relLabel) (id32 id true ++ [b0] ++ beBytes 4 cnt)).take 4
    let f : NetFrame := { id := id, flags := 1, data := bytesOf ([b0] ++ beBytes 3 cnt ++ mac) }
    let num := b.net.num
    ({ b with net := { b.net with num := num + 1 } } : Block).updNet n fun c => { c with prio := c.prio ++ [{ job := num, idx := 0, frame := f }] }
  else b.stickD F.ACS_STAT_RELDROP 0 235 3

/-- The release is granted to a slot (R589, R575 step 6). -/
def release (s : Nat) (master : Bool) (b : Block) : Block :=
  let was := b.flag F.ACS_REL_RELEASED 0
  let b := ((b.setF F.ACS_REL_RELEASED 0 1).setF F.ACS_REL_MASTER 0 (b2n master)).setF F.ACS_REL_SLOT 0 s
  let b := { b with acs := { b.acs with engen := { b.acs.engen with on := true } } }
  if !was && b.flag F.ACS_REL_RELMSG 0 then b.relFrame else b

/-- The release ends, with one more message (R590, R591). -/
def releaseEnd (b : Block) : Block :=
  if b.flag F.ACS_REL_RELEASED 0 then
    let b := { (b.setF F.ACS_REL_RELEASED 0 0) with acs := { b.acs with engen := { b.acs.engen with on := false } } }
    if b.flag F.ACS_REL_RELMSG 0 then b.relFrame else b
  else b

/-- ENGEN in the codes of R290: 1 = OFF, 2 = ON, 4 = OVLDWAIT, 5 = THERMAL, 6 = SUPPLY. It is fed from VBAT_C (R589). -/
def engenState (b : Block) : Nat :=
  let e := b.acs.engen
  if b.dioFeedOff then 6 else if e.therm then 5 else if e.wait then 4 else if e.on then 2 else 1

/-- The protection of ENGEN (R290, R589): the current limit for 5 ms, its wait, and its junction in 1/16 °C. It has no
status bits. -/
def engenOverload (b : Block) : Block :=
  if b.engenState == 2 then { b with acs := { b.acs with engen := { b.acs.engen with wait := true } } } else b
def engenWaitEnd (b : Block) : Block := { b with acs := { b.acs with engen := { b.acs.engen with wait := false } } }
def engenThermal (tj : Int) (b : Block) : Block :=
  let t := if b.acs.engen.therm then !decide (tj ≤ 160 * 16) else decide (175 * 16 ≤ tj)
  { b with acs := { b.acs with engen := { b.acs.engen with therm := t } } }

/-- RELEASE_MESSAGE_TICK. -/
def releaseTick (b : Block) : Block := if b.flag F.ACS_REL_RELEASED 0 && b.flag F.ACS_REL_RELMSG 0 then b.relFrame else b

/-- RELEASE_IGN_END. -/
def releaseIgn (b : Block) : Block :=
  if b.flag F.ACS_REL_IGNEND 0 && !b.flag F.PWR_STATE_IGN 0 then b.releaseEnd else b

/-- The weir reaches APPLIED (R590). -/
def accApplied (b : Block) : Block := if b.flag F.ACS_REL_FSKEEP 0 then b else b.releaseEnd

/-! ### Lockout (R582–R584) -/

/-- Length of a lockout in ticks of the real-time counter. -/
def lockTicks (level : Nat) : Nat := 300 * 2 ^ min level 4 * 32768

/-- Bring FAILS up to date. -/
def setFails (l : List Nat) (b : Block) : Block := ({ b with acs := { b.acs with fails := l } } : Block).setF F.ACS_LOCK_FAILS 0 l.length

/-- A lockout of a level starts, or starts again in full. -/
def lockRun (level : Nat) (b : Block) : Block :=
  ({ b with acs := { b.acs with lockLvl := level, lockEnd := b.pw.rtc + lockTicks level } } : Block).setF F.ACS_STAT_LOCKOUT 0 1

/-- REMAIN, in seconds, as it reads now. -/
def lockRemain (b : Block) : Block :=
  b.setF F.ACS_LOCK_REMAIN 0 (if b.lockout then min 65535 ((b.acs.lockEnd - b.pw.rtc + 32767) / 32768) else 0)

/-- A cryptographic failure: the fifth within 10 min starts a lockout (R582). -/
def acsFailure (b : Block) : Block :=
  let l := (b.acs.fails.filter fun t => decide (b.pw.rtc - t ≤ 600 * 32768)) ++ [b.pw.rtc]
  if l.length < 5 then b.setFails l
  else
    let lv := b.getF F.ACS_LOCK_LEVEL 0
    let b := ((b.setFails []).lockRun lv).setF F.ACS_LOCK_LEVEL 0 (min 4 (lv + 1))
    (b.acsLog 13 none none none none).stickD F.ACS_STAT_LOCKX 0 234 1

/-- LOCKOUT_END. -/
def lockoutEnd (b : Block) : Block :=
  if b.lockout then ((b.setF F.ACS_STAT_LOCKOUT 0 0).acsLog 14 none none none none).stickD F.ACS_STAT_LOCKX 0 234 2 else b

/-- FAILURE_EXPIRY: the oldest failure leaves the list. -/
def failureExpiry (b : Block) : Block := b.setFails (b.acs.fails.drop 1)

/-- LEVEL_RESET. -/
def levelReset (b : Block) : Block := b.setF F.ACS_LOCK_LEVEL 0 0

/-- A valid master exchange clears failures, lockout and LEVEL (R584). -/
def masterClears (s : Nat) (b : Block) : Block :=
  let was := b.lockout
  let b := ((b.setFails []).setF F.ACS_STAT_LOCKOUT 0 0).setF F.ACS_LOCK_LEVEL 0 0
  if was then (b.acsLog 14 none none none none).stickD F.ACS_STAT_LOCKX 0 234 (3 + s * 256) else b

/-! ### Exchanges (R572–R581) -/

/-- Anchors and antennas in use: those of the masks without a fault (R592). -/
def anchors (b : Block) : List Nat := (List.range 6).filter fun k => bit (b.getF F.ACS_UWB_AMASK 0) k && !bit (b.getF F.ACS_DIAG_UAF 0) k
def lfMask (b : Block) : Nat := ((List.range 6).filter fun k => bit (b.getF F.ACS_LF_LFMASK 0) k && !bit (b.getF F.ACS_DIAG_LFF 0) k).foldl (fun m k => m + 2 ^ k) 0

/-- Anchor and channel of a discovery poll, in the order of R573: channel 5 first. -/
def pollPlaces (anchors : List Nat) (chmask : Nat) : List (Nat × Nat) :=
  (if bit chmask 0 then anchors.map fun k => (k, 5) else []) ++ (if bit chmask 1 then anchors.map fun k => (k, 9) else [])

/-- The place of this cycle's poll: anchor and channel rotate from cycle to cycle (R574, log 63). -/
def pollPlace (b : Block) : Option (Nat × Nat) :=
  let l := pollPlaces b.anchors (b.getF F.ACS_UWB_CHMASK 0)
  l[b.acs.cyc % max 1 l.length]?

/-- POLL and LPOLL (R570, R571). -/
def sendPoll (p : Nat × Nat) (b : Block) : Block :=
  (b.islandRestart 6).send (.uwb p.1 p.2 (b.getF F.ACS_CFG_PANID 0) (bytesOf ([1] ++ beBytes 4 (b.rd R.SYS_SERIAL 0) ++ beBytes 2 b.acs.cyc ++ [p.1])))
def sendLPoll (mask : Nat) (b : Block) : Block :=
  ((b.islandRestart 7).send (.lf mask (b.getF F.ACS_LF_WAKEID 0) (bytesOf ([0x11] ++ beBytes 4 (b.rd R.SYS_SERIAL 0))))).send
    (.uhf (b.getF F.ACS_LF_UHFBAND 0))

/-- LCHAL, the bursts of its antennas in order, and the UHF receiver for the answer (R571). -/
def sendLChal (tid : Nat) (nv : List Nat) (b : Block) : Block :=
  let m := b.lfMask
  let b := (b.islandRestart 7).send (.lf m (b.getF F.ACS_LF_WAKEID 0) (bytesOf ([0x13] ++ beBytes 8 tid ++ nv)))
  (((List.range 6).filter (bit m)).foldl (fun b k => b.send (.lfBurst k)) b).send (.uhf (b.getF F.ACS_LF_UHFBAND 0))

/-- Begin the exchange of the next slot that answered: Nv is drawn and the challenge goes out (R574, R575). Operator
slots are passed over in a lockout (R581, R583); no exchange runs without its keys, and all wait for the self-tests of
their units (R555). -/
def exchStart : List (Nat × Nat) → Block → Block
  | [], b => { b with acs := { b.acs with answers := [], cur := none } }
  | (s, k) :: rest, b =>
    match b.tokenTid s with
    | none => exchStart rest b
    | some tid =>
      if (decide (s < 60) && b.lockout) || !b.ciphOn then exchStart rest b
      else if b.untested [1, 2] then { b with acs := { b.acs with answers := (s, k) :: rest, cur := none } }
      else
        let b := b.acsAsk (tokenLabel tid)
        if !b.acsKeys || !b.rngOn then exchStart rest b
        else
          let b := b.rngRequest false
          let (nv, b) := b.randomBytes 16
          let ch := (b.pollPlace.getD (0, 5)).2
          let b := if s < 60 then (b.islandRestart 6).send (.uwb k ch (b.getF F.ACS_CFG_PANID 0) (bytesOf ([3] ++ beBytes 8 tid ++ nv ++ beBytes 2 b.acs.cyc)))
            else b.sendLChal tid nv
          let sts := if s < 60 then stsKey (b.acsKey (tokenLabel tid)) nv else []
          { b with acs := { b.acs with answers := rest, cur := some { slot := s, anchor := k, chan := ch, nv := nv, sts := sts } } }

/-- The exchange in progress is over; the next one begins. -/
def exchNext (b : Block) : Block := ({ b with acs := { b.acs with cur := none } } : Block).exchStart b.acs.answers

/-- The access function is enabled; its cycles and exchanges run while HC14 runs (R574, R595). -/
def acsOn (b : Block) : Bool := b.flag F.ACS_CFG_EN 0
def acsUp (b : Block) : Bool := b.acsOn && b.coreRuns 14

/-- The clocks of the UWB and LF islands stop where no ranging exchange runs and no field is driven (R465, log 190). -/
def radioRest (b : Block) : Block :=
  if !b.pg 9 then b
  else
    let b := b.islandGate 7
    if b.acs.cur.elim false fun e => decide (e.slot < 60) then b else b.islandGate 6

/-- ACCESS_CYCLE (R574): a cycle that lasts longer delays the next one. -/
def accessCycle (b : Block) : Block :=
  if !b.acsUp || b.acs.cur.isSome || !b.acs.answers.isEmpty then b
  else
    let b := b.accSync
    let b := { b with acs := { b.acs with cyc := b.acs.cyc + 1, best := none } }
    let b := match b.pollPlace with
      | some p => b.sendPoll p
      | none => b
    (if b.flag F.ACS_CFG_LFPOLL 0 && b.acs.cyc % 6 == 0 && !(b.lfMask == 0) then b.sendLPoll b.lfMask else b).radioRest

/-- An answer joins the exchanges of the cycle, in ascending slot order. -/
def addAnswer (s k : Nat) (b : Block) : Block :=
  let l := b.acs.answers
  let l := l.filter (fun e => decide (e.1 < s)) ++ [(s, k)] ++ l.filter (fun e => decide (s < e.1))
  let b := { b with acs := { b.acs with answers := l } }
  if b.acs.cur.isSome then b else (b.exchStart l).radioRest

/-- Exchanges that have waited for the self-tests of PD10 begin (R555). -/
def exchResume (b : Block) : Block :=
  if b.acs.cur.isSome || b.acs.answers.isEmpty || b.untested [1, 2] then b else (b.exchStart b.acs.answers).radioRest

/-- Some slot holds this TID, or awaits it. -/
def tidKnown (b : Block) (tid : Nat) : Bool := (List.range 64).any fun s => b.tokenTid s == some tid

/-- An answer in the slot of a discovery (R572): void, of an unknown TID, or of the slot's token. -/
def discovery (s k : Nat) (void : Bool) (tid : Nat) (b : Block) : Block :=
  if !b.acsUp then b
  else if void then (b.acsLog 7 (some s) none none none).acsReject F.ACS_STAT_COLLX 5 s
  else if !b.tidKnown tid then b.acsLog 8 (some s) none none (some tid)
  else if b.tokenTid s == some tid then b.addAnswer s k else b

/-- The awaited token has completed its exchange: the slot is enrolled (R585). -/
def enrolDone (s : Nat) (b : Block) : Block :=
  match b.acs.enrol with
  | none => b
  | some d =>
    if bits (d.dw 5) 5 0 = s then
      let b := (b.wr R.ACS_SLOTL s (d.dw 6)).wr R.ACS_SLOTH s (d.dw 7)
      let b := ((b.setF F.ACS_SLOTF_VALID s 1).setF F.ACS_SLOTF_RELEN s (d.dw 8 % 2)).wrapF F.ACS_SLOTF_GEN s 1
      let b := { (b.setF F.ACS_STAT_ENRPEND 0 0) with acs := { b.acs with enrol := none } }
      (b.acsLog 9 (some s) none none (some (d.dw 6))).complete d { status := St.ok, cw2 := s }
    else b

/-- A valid exchange of slot s: windows, lockout, ACS_LAST, log and release (R580, R584, R585, R589). Answers whether
the release is granted. -/
def exchValid (s zone range tid : Nat) (b : Block) : Block × Bool :=
  let master := decide (60 ≤ s)
  let b := b.enrolDone s
  let b := { b with acs := { b.acs with auth := s :: b.acs.auth.filter fun x => !(x == s) } }
  let b := if master then b.masterClears s else b
  let applies := match b.acs.best with
    | none => true
    | some m => master && !m
  let grant := applies && (master || (b.flag F.ACS_SLOTF_RELEN s && !b.lockout && !b.flag F.ACS_STAT_OWNLOCK 0))
  let b := if applies then
      let b := { b with acs := { b.acs with best := some master } }
      let b := ((b.setF F.ACS_LAST_SLOT 0 s).setF F.ACS_LAST_MASTER 0 (b2n master)).setF F.ACS_LAST_VALID 0 1
      ((b.setF F.ACS_LAST_ZONE 0 zone).setF F.ACS_LAST_RANGE 0 range).wr R.ACS_LASTT 0 (b.pw.rtc % 2 ^ 32)
    else b
  let b := b.acsLog (if grant then 1 else 2) (some s) (some range) (some zone) (some tid)
  (if grant then b.release s master else b, grant)

/-- RES of the confirmation (R570). -/
def resByte (b : Block) (grant : Bool) : Nat := b2n grant + 2 * b2n b.lockout

/-- Anchor whose arrival, less its DELAY, is earliest (R576). Equal ones: the lower anchor (log 63). -/
def zoneOf (b : Block) (arr : List (Fin 6 × Nat)) : Option Nat :=
  let v := arr.map fun a => (a.1.val, (a.2 : Int) - (b.getF F.ACS_ANC_DELAY a.1.val : Int))
  (v.foldl (fun (m : Option (Nat × Int)) a => match m with
    | none => some a
    | some x => if a.2 < x.2 ∨ (a.2 = x.2 ∧ a.1 < x.1) then some a else some x) none).map Prod.fst

/-- RESP (R575–R577): proof, turnaround and STS quality, range, zone; then CONF and the next exchange. Times are in
units of 15.65 ps, the clock offset in 10⁻⁹. An STS of another key than KSTS has no quality. -/
def resp (tid nt trep pt : Nat) (eps : Int) (tround : Nat) (seen : StsSeen) (arr : List (Fin 6 × Nat)) (b : Block) : Block :=
  match b.acs.cur with
  | none => b
  | some e =>
    if !b.acsUp || !(decide (e.slot < 60)) || !(b.tokenTid e.slot == some tid) then b
    else if !b.acsTested then b.exchNext.radioRest
    else
     let (failed, b) := b.acsJob
     if failed then b.exchNext.radioRest
     else
      let s := e.slot
      let ks := sessionKey (b.acsKey (tokenLabel tid)) e.nv (beBytes 16 nt)
      let tof := twoTof tround (b.getF F.ACS_ANC_DELAY e.anchor) trep eps
      let dev := turnaround trep eps - uwb500us
      let range := rangeCm tof
      let zone := (b.zoneOf arr).getD e.anchor
      let stsq := if ofBe e.sts == seen.key.toNat then seen.quality else 0
      let no (f : RegField) (cause code : Nat) (b : Block) : Block :=
        (b.acsLog code (some s) (some range) (some zone) (some tid)).acsReject f cause s
      let (b, grant) :=
        if !(proofT ks tid e.nv (beBytes 16 nt) (beBytes 5 trep) == beBytes 8 pt) then ((no F.ACS_STAT_CRYPTF 1 3 b).acsFailure, false)
        else if stsq < b.getF F.ACS_UWB_STSQ 0 ∨ uwb10ns < dev ∨ dev < -uwb10ns then (no F.ACS_STAT_RELAYX 2 4 b, false)
        else if (b.getF F.ACS_UWB_RMAX 0 : Int) * 10 * rangeDen < rangeUnits tof then (no F.ACS_STAT_RANGEX 3 5 b, false)
        else if !bit (b.getF F.ACS_REL_UAZ 0) zone then (no F.ACS_STAT_RANGEX 3 5 b, false)
        else b.exchValid s zone range tid
      let res := b.resByte grant
      let pv := proofV ks tid e.nv (beBytes 16 nt) res
      ((b.islandRestart 6).send (.uwb e.anchor e.chan (b.getF F.ACS_CFG_PANID 0) (bytesOf ([5] ++ beBytes 8 tid ++ [res] ++ pv)))).exchNext.radioRest

/-- URESP (R578): `start` is the start of its preamble in ns after the end of the challenge. -/
def uresp (tid nt rssi pt start : Nat) (b : Block) : Block :=
  match b.acs.cur with
  | none => b
  | some e =>
    if !b.acsUp || decide (e.slot < 60) || !(b.tokenTid e.slot == some tid) then b
    else if !b.acsTested then b.exchNext.radioRest
    else
     let (failed, b) := b.acsJob
     if failed then b.exchNext.radioRest
     else
      let s := e.slot
      let ks := sessionKey (b.acsKey (tokenLabel tid)) e.nv (beBytes 16 nt)
      let fs := beBytes 6 rssi
      let top := fs.foldl max 0
      let ant := (fs.findIdx? fun x => x == top).getD 0
      let no (f : RegField) (cause code : Nat) (b : Block) : Block :=
        (b.acsLog code (some s) (some 0) (some (8 + ant)) (some tid)).acsReject f cause s
      let (b, grant) :=
        if !(proofT ks tid e.nv (beBytes 16 nt) fs == beBytes 8 pt) then ((no F.ACS_STAT_CRYPTF 1 3 b).acsFailure, false)
        else if start < 78000 ∨ 82000 < start then (no F.ACS_STAT_LFWINX 4 6 b, false)
        else if top < b.getF F.ACS_LF_LFMIN 0 then (no F.ACS_STAT_RANGEX 3 5 b, false)
        else if !bit (b.getF F.ACS_REL_LFZ 0) ant then (no F.ACS_STAT_RANGEX 3 5 b, false)
        else b.exchValid s (8 + ant) 0 tid
      let res := b.resByte grant
      let pv := proofV ks tid e.nv (beBytes 16 nt) res
      ((b.islandRestart 7).send (.lf b.lfMask (b.getF F.ACS_LF_WAKEID 0) (bytesOf ([0x15] ++ beBytes 8 tid ++ [res] ++ pv)))).exchNext.radioRest

/-- RESPONSE_TIMEOUT (R579). -/
def respTimeout (b : Block) : Block := if b.acs.cur.isSome then b.exchNext.radioRest else b

/-! ### Enable, faults, timeouts -/

/-- The LF drive currents measured at enable: open values (R592, log 2). -/
def lfMeasure (b : Block) : Block :=
  forN 6 (fun k b => let (r, b) := b.fresh; { b with acs := { b.acs with lfRef := Tab.put b.acs.lfRef k r.toNat } }) b

/-- ACCESS_ENABLE (R592, R596). -/
def accEnable (b : Block) : Block :=
  if b.getF F.ACS_CFG_RKSEL 0 == 0 || (decide (11 < b.getF F.ACS_REL_RELCH 0) && b.flag F.ACS_REL_RELMSG 0) then b.setF F.ACS_CFG_EN 0 0
  else if b.acsOn then b.accSync
  else (b.setF F.ACS_CFG_EN 0 1).lfMeasure.accSync

/-- Exchange, enrolment and code groups are abandoned without count (R595). -/
def accAbandon (st : Nat) (b : Block) : Block :=
  let d := b.acs.enrol
  let b := { (b.setF F.ACS_STAT_ENRPEND 0 0) with acs := { b.acs with enrol := none, code := [], answers := [], cur := none, best := none } }
  let b : Block := b.radioRest
  match d with
  | some d => b.complete d { status := st, cw2 := bits (d.dw 5) 5 0 }
  | none => b

/-- EN written 0: the cycles stop (log 64). -/
def accDisable (b : Block) : Block := ((b.setF F.ACS_CFG_EN 0 0).accSync).accAbandon St.disabled

/-- A biased line that draws this current in µA is faulty: open below 2 mA, short above 80 mA (R592). -/
def lineFault (ua : Nat) : Bool := decide (ua < 2000) || decide (80000 < ua)

/-- The drive current of an LF antenna lies outside 50 % to 150 % of that measured at enable (R592). -/
def driveFault (ref ua : Nat) : Bool := decide (2 * ua < ref) || decide (3 * ref < 2 * ua)

/-- ANTENNA_FAULT (R592): the check of the line of anchor k (kind 0), of LF antenna k (1), or of the UHF input (2). The bias of a
short line is switched off. Anchors and antennas outside their masks are not in use. -/
def antennaFault (kind : Nat) (x : LineSeen) (b : Block) : Block :=
  let k := x.k.val
  let line := if kind = 2 then 6 else k
  let used := if kind = 0 then bit (b.getF F.ACS_UWB_AMASK 0) k else if kind = 1 then bit (b.getF F.ACS_LF_LFMASK 0) k else true
  let faulty := if kind = 1 then driveFault (Tab.get 0 b.acs.lfRef k) x.ua else lineFault x.ua && !bit b.acs.unbias line
  if !b.pg 9 || !used || !faulty then b
  else
    let b := if kind = 0 then b.setF F.ACS_DIAG_UAF 0 (b.getF F.ACS_DIAG_UAF 0 ||| 2 ^ k)
      else if kind = 1 then b.setF F.ACS_DIAG_LFF 0 (b.getF F.ACS_DIAG_LFF 0 ||| 2 ^ k) else b.setF F.ACS_DIAG_UHFF 0 1
    let b := if !(kind = 1) ∧ 80000 < x.ua then { b with acs := { b.acs with unbias := b.acs.unbias ||| 2 ^ line } } else b
    b.stickD F.ACS_STAT_ANTF 0 232 (kind + 1)

/-- ENROL_TIMEOUT (R585). -/
def enrolTimeout (b : Block) : Block :=
  match b.acs.enrol with
  | none => b
  | some d =>
    let b := { (b.setF F.ACS_STAT_ENRPEND 0 0) with acs := { b.acs with enrol := none } }
    b.complete d { status := St.timeout, cw2 := bits (d.dw 5) 5 0 }

/-- CODE_GROUP_TIMEOUT and AUTH_WINDOW_EXPIRY (R585, R586); no slot: the window of an accepted code. -/
def codeTimeout (b : Block) : Block := { b with acs := { b.acs with code := [] } }
def authExpiry (s : Option (Fin 64)) (b : Block) : Block :=
  match s with
  | none => b.setF F.ACS_STAT_CODEOK 0 0
  | some s => { b with acs := { b.acs with auth := b.acs.auth.filter fun x => !(x == s.val) } }

/-! ### Access record (R567) -/

/-- The record as it stands. -/
def acsRecord (b : Block) : AcsRecord :=
  { slots := (List.range 64).map fun s => (b.slotTid s, b.rd R.ACS_SLOTF s), fails := b.acs.fails,
    lockLvl := if b.lockout then some b.acs.lockLvl else none, level := b.getF F.ACS_LOCK_LEVEL 0, dcnt := b.rd R.ACS_DCNT 0,
    own := b.flag F.ACS_STAT_OWNLOCK 0, relcnt := b.rd R.ACS_RELCNT 0 }

/-- ACCESS_RECORD_SAVE: both copies, under the boot logic's CMAC (log 216). -/
def recordSave (b : Block) : Block :=
  let (k, b) := b.sealRecord acrLabel
  let b := { b with acs := { b.acs with saveDue := k == 1 } }
  if k = 0 then { b with flash := { b.flash with acr := RecCopy.rewrite b.flash.acr b.acsRecord } } else b

/-- Cold boot after module power-on reset or brown-out (R567, R583): the newer valid copy, or the empty record, the lockout
at level 4 and RECERR. A lockout that was interrupted runs its full length again. `bad`: a bit per copy whose CMAC fails. -/
def recordRestore (bad : Nat) (b : Block) : Block :=
  let b := b.recordKey acrLabel
  match (if b.rootValid 0 then RecCopy.valid bad b.flash.acr else none) with
  | none => (((b.setF F.ACS_LOCK_LEVEL 0 4).setF F.ACS_STAT_OWNLOCK 0 0).lockRun 4).stickD F.ACS_STAT_RECERR 0 235 1
  | some r =>
    let b := r.slots.zipIdx.foldl (fun b e =>
      if e.1 = (0, 0) then b
      else ((b.wr R.ACS_SLOTL e.2 (e.1.1 % 2 ^ 32)).wr R.ACS_SLOTH e.2 (e.1.1 / 2 ^ 32)).wr R.ACS_SLOTF e.2 e.1.2) b
    let b := ((b.setFails r.fails).setF F.ACS_LOCK_LEVEL 0 r.level).wr R.ACS_DCNT 0 r.dcnt
    let b := (b.wr R.ACS_RELCNT 0 r.relcnt).setF F.ACS_STAT_OWNLOCK 0 (b2n r.own)
    match r.lockLvl with
    | some l => b.lockRun l
    | none => b

/-- Registers of the block at their reset values but for the fields that PD0 holds (R595, R596). -/
def accRegsReset (b : Block) : Block :=
  let rel := b.getF F.ACS_REL_RELEASED 0 + 2 * b.getF F.ACS_REL_MASTER 0 + 4 * b.getF F.ACS_REL_SLOT 0
  let own := b.getF F.ACS_STAT_OWNLOCK 0
  let lock := b.getF F.ACS_STAT_LOCKOUT 0
  let kept (o : Nat) : Bool := o == R.ACS_LOCK.at 0 || o == R.ACS_DCNT.at 0 || o == R.ACS_RELCNT.at 0 || decide (0x50100 ≤ o)
  let b := { b with regs := Tab.drop b.regs (fun o => decide (0x50000 ≤ o ∧ o < 0x51000) && !kept o) }
  let b := ((b.setF F.ACS_REL_RELEASED 0 (rel % 2)).setF F.ACS_REL_MASTER 0 (rel / 2 % 2)).setF F.ACS_REL_SLOT 0 (rel / 4)
  let b := if own = 1 then b.setF F.ACS_STAT_OWNLOCK 0 1 else b
  if lock = 1 then b.setF F.ACS_STAT_LOCKOUT 0 1 else b

/-- SoC reset, or PD9 loses its power: what PD0 holds stays (R595). -/
def accReset (st : Nat) (b : Block) : Block :=
  let b := (b.accAbandon st).accRegsReset
  { b with acs := { b.acs with auth := [], cyc := 0, unbias := 0, lfRef := [] } }

/-- Module power-on reset and brown-out: record and log are gone, ENGEN is off (R595). -/
def accPowerOff (b : Block) : Block := { b with acs := {} }

/-! ### Descriptors (R597) -/

/-- The common part of an access descriptor: format, then EN. -/
def acsRun (ok : Bool) (k : Block → Block × Compl) (b : Block) : Block × Compl :=
  if !ok then (b, .of St.badDesc) else if !b.acsOn then (b, .of St.disabled) else k b

/-- A valid exchange of a slot of a class is less than 60 s old. -/
def authBy (b : Block) (p : Nat → Bool) : Bool := b.acs.auth.any fun s => p s && b.slotValid s

/-- ACS_ENROL (R585, R597): its completion waits for the new token. -/
def acsEnrol (d : Desc) (b : Block) : Block :=
  let s := bits (d.dw 5) 5 0
  let tid := d.dw 6 + d.dw 7 * 2 ^ 32
  let ok := d.ok 0xA0 0 0 [0x3F, 0xFFFFFFFF, 0xFFFFFFFF, 3] && !(tid == 0) && (bit tid 63 == decide (60 ≤ s))
  b.runDeferred d ok fun b =>
    let master := decide (60 ≤ s)
    let allowed := if bit (d.dw 8) 1 then b.flag F.ACS_STAT_CODEOK 0 else b.authBy fun x => (!master && !b.lockout) || decide (60 ≤ x)
    let no (st : Nat) : Block := b.complete d { status := st, cw2 := s }
    if !b.acsOn then no St.disabled
    else if b.slotValid s || (List.range 64).any (fun x => b.slotValid x && b.slotTid x == tid) || !allowed then no St.refused
    else if b.acs.enrol.isSome then no St.busy
    else { (b.setF F.ACS_STAT_ENRPEND 0 1) with acs := { b.acs with enrol := some d } }

/-- ACS_REVOKE (R587): all of the selected slots or none; one that selects none is malformed (R395). -/
def acsRevoke (d : Desc) (b : Block) : Block × Compl :=
  acsRun (d.ok 0xA1 0 0 [0xFFFFFFFF, 0xFFFFFFFF, 0, 1] && !(d.dw 5 + d.dw 6 == 0)) (fun b =>
    let sel := (List.range 64).filter fun s => bit (d.dw 5 + d.dw 6 * 2 ^ 32) s
    let code := bit (d.dw 8) 0 && b.flag F.ACS_STAT_CODEOK 0
    let mayBy (s : Nat) : Bool := if s < 60 then b.authBy fun x => decide (60 ≤ x) else b.authBy fun x => !(x == s) && decide (60 ≤ x)
    let left := (List.range 64).any fun s => decide (60 ≤ s) && b.slotValid s && !sel.contains s
    let lastGone := !left && sel.any fun s => decide (60 ≤ s) && b.slotValid s
    let allowed := if bit (d.dw 8) 0 then code else !lastGone && sel.all mayBy
    if !allowed then (b, .of St.refused)
    else
      let gone := sel.filter b.slotValid
      let b := gone.foldl (fun b s =>
        let tid := b.rd R.ACS_SLOTL s
        let b := ((b.wr R.ACS_SLOTL s 0).wr R.ACS_SLOTH s 0).setF F.ACS_SLOTF_VALID s 0
        (b.setF F.ACS_SLOTF_RELEN s 0).acsLog 10 (some s) none none (some tid)) b
      ({ b with acs := { b.acs with auth := b.acs.auth.filter fun s => !gone.contains s } }, { status := St.ok, cw2 := gone.length })) b

/-- ACS_CODE (R586). A key store that cannot serve leaves the code unchecked: REFUSED (log 65). -/
def acsCode (d : Desc) (b : Block) : Block × Compl :=
  acsRun (d.ok 0xA2 0 0 [3, 0xFFFFF] && decide (d.dw 6 ≤ 999999)) (fun b =>
    let g := d.dw 5
    if b.lockout then (b, .of St.refused)
    else if !(g == b.acs.code.length) then ({ b with acs := { b.acs with code := [] } }, { status := St.ok, cw2 := 3 })
    else if g < 3 then ({ b with acs := { b.acs with code := b.acs.code ++ [d.dw 6] } }, { status := St.ok })
    else
      let b := b.acsAsk b.dealerLabel
      let keys := b.acsKeys
      let (failed, b) := if keys then b.acsJob else (true, b)
      if !keys then (b, .of St.refused)
      else if failed then (b, .of St.hwFault)
      else
        let v := (b.acs.code ++ [d.dw 6]).foldl (fun v x => v * 1000000 + x) 0
        let b := { b with acs := { b.acs with code := [] } }
        if v = dealerCode (b.acsKey b.dealerLabel) b.serialBytes (b.rd R.ACS_DCNT 0) then
          (((b.wrapF F.ACS_DCNT_DCNT 0 1).setF F.ACS_STAT_CODEOK 0 1).acsLog 11 none none none none, { status := St.ok, cw2 := 1 })
        else
          (((b.acsLog 12 none none none none).stickD F.ACS_STAT_CODEF 0 235 2).acsFailure, { status := St.ok, cw2 := 2 })) b

/-- ACS_WITHDRAW (R590). -/
def acsWithdraw (d : Desc) (b : Block) : Block × Compl :=
  acsRun (d.ok 0xA3 0 0 []) (fun b => (b.releaseEnd, { status := St.ok, cw2 := b.getF F.ACS_REL_RELEASED 0 })) b

/-- ACS_OWNLOCK (R588). -/
def acsOwnlock (d : Desc) (b : Block) : Block × Compl :=
  acsRun (d.ok 0xA4 0 0 [0, 0, 0, 3]) (fun b =>
    let set := bit (d.dw 8) 0
    let allowed := if bit (d.dw 8) 1 then !set && b.flag F.ACS_STAT_CODEOK 0 else b.authBy fun s => decide (60 ≤ s)
    if allowed then (b.setF F.ACS_STAT_OWNLOCK 0 (b2n set), .of St.ok) else (b, .of St.refused)) b

/-- ACS_READ: registers, slots, log (entries before the first one read 0). -/
def acsRead (d : Desc) (b : Block) : Block × Compl :=
  acsRun (d.ok 0xA5 1312 65536 []) (fun b =>
    let b := b.lockRemain
    let ws := ([R.ACS_STAT, R.ACS_LOCK, R.ACS_LAST, R.ACS_LASTT, R.ACS_REL, R.ACS_DIAG, R.ACS_DCNT, R.ACS_RELCNT].map fun r => b.rd r 0) ++
      ((List.range 64).flatMap fun s => [b.rd R.ACS_SLOTL s, b.rd R.ACS_SLOTH s, b.rd R.ACS_SLOTF s]) ++
      (b.acs.log ++ List.replicate (32 - b.acs.log.length) [0, 0, 0, 0]).flatten
    (b, { status := St.ok, cw2 := 1312, data := (ws.map (leBytes 4)).flatten })) b

/-- ACS_CLEAR. -/
def acsClear (d : Desc) (b : Block) : Block × Compl :=
  acsRun (d.ok 0xA6 0 0 [0, 0, 0, 1]) (fun b =>
    (if bit (d.dw 8) 0 then b.wr R.ACS_STAT 0 (putBits (b.rd R.ACS_STAT 0) 17 8 0) else b, .of St.ok)) b

end Block

end Sys2Proof.Machine
end

