-- ==== Sys2Proof/Machine/Flags.lean ====
section
/-! DEFINITION. Results and flags of the Heper operations: conditions (R517), flag rules (R518), arithmetic, logic,
shifts, multiplication and division with their edges (R519–R524), and the accumulators (R525). -/
namespace Sys2Proof.Machine

/-- Bits of SR (R479). -/
def SR.c : Nat := 8
def SR.z : Nat := 9
def SR.n : Nat := 10
def SR.v : Nat := 11
def SR.sat : Nat := 12
def SR.dz : Nat := 13

/-- A word with bit i set to v. -/
def withBit (w : Word) (i : Nat) (v : Bool) : Word :=
  let m := (1 : Word) <<< i
  if v then w ||| m else w &&& ~~~ m

/-- The fifteen conditions (R517). -/
def condTrue (sr : Word) (k : Nat) : Bool :=
  let c := sr.getLsbD SR.c
  let z := sr.getLsbD SR.z
  let n := sr.getLsbD SR.n
  let v := sr.getLsbD SR.v
  match k with
  | 0 => true
  | 1 => z
  | 2 => !z
  | 3 => c
  | 4 => !c
  | 5 => n
  | 6 => !n
  | 7 => v
  | 8 => !v
  | 9 => c && !z
  | 10 => !c || z
  | 11 => n == v
  | 12 => n != v
  | 13 => !z && n == v
  | _ => z || n != v

/-- A result and the flags written with it. Z and N follow the result where `zn`; DZ is set where `dz`. -/
structure Alu where
  val : Word
  c   : Option Bool := none
  v   : Option Bool := none
  zn  : Bool := true
  dz  : Bool := false
  deriving DecidableEq, Repr

/-- SR after the flags of a result (R518). The sticky DZ is only ever set. -/
def Alu.flags (r : Alu) (sr : Word) : Word :=
  let sr := match r.c with
    | some c => withBit sr SR.c c
    | none => sr
  let sr := match r.v with
    | some v => withBit sr SR.v v
    | none => sr
  let sr := if r.zn then withBit (withBit sr SR.z (r.val == 0)) SR.n r.val.msb else sr
  if r.dz then withBit sr SR.dz true else sr

/-- A signed value that 32 bits cannot hold. -/
def outside (i : Int) : Bool := decide (i < -2147483648 ∨ 2147483647 < i)

namespace Alu

/-- Sum with a carry in (R518, R519). -/
def add (a b : Word) (cin : Bool := false) : Alu :=
  { val := a + b + BitVec.ofNat 32 (b2n cin)
    c := some (decide (4294967296 ≤ a.toNat + b.toNat + b2n cin))
    v := some (outside (a.toInt + b.toInt + b2n cin)) }

/-- Difference, where C = 1 means no borrow; `cin` is that C before (R517–R519). -/
def sub (a b : Word) (cin : Bool := true) : Alu :=
  { val := a - b - BitVec.ofNat 32 (1 - b2n cin)
    c := some (decide (b.toNat + (1 - b2n cin) ≤ a.toNat))
    v := some (outside (a.toInt - b.toInt - (1 - b2n cin : Nat))) }

/-- The saturating form of a wrapping result: C and V stay, the value is clamped by its sign before wrapping
(R518, R522). -/
def sat (r : Alu) : Alu := if r.v = some true then { r with val := if r.val.msb then 0x7FFFFFFF else 0x80000000 } else r

/-- Magnitude: Z, N and V (R519, R522). -/
def abs (a : Word) : Alu := { val := if a.msb then 0 - a else a, v := some (a == 0x80000000) }

/-- A result with Z and N only. -/
def logic (v : Word) : Alu := { val := v }

/-- A result without flags. -/
def plain (v : Word) : Alu := { val := v, zn := false }

/-- LSL, LSR, ASR and ROR as kinds 0–3, by a count of 0–255 (R521). -/
def shift (kind : Nat) (a : Word) (n : Nat) : Alu :=
  if n = 0 then .logic a
  else match kind with
  | 0 => { val := a <<< n, c := some (if n ≤ 32 then a.getLsbD (32 - n) else false) }
  | 1 => { val := a >>> n, c := some (if n ≤ 32 then a.getLsbD (n - 1) else false) }
  | 2 => { val := a.sshiftRight n, c := some (if n < 32 then a.getLsbD (n - 1) else a.msb) }
  | _ => let r := a.rotateRight (n % 32); { val := r, c := some r.msb }

/-- Number of zero bits above the highest set bit among the low k bits. -/
def clzFrom (a : Word) : Nat → Nat
  | 0 => 0
  | k + 1 => if a.getLsbD k then 0 else 1 + clzFrom a k

def clz (a : Word) : Alu := .logic (BitVec.ofNat 32 (clzFrom a 32))

/-- Product bits (R519, R524). -/
def mul (a b : Word) : Alu := .logic (a * b)
def mulhu (a b : Word) : Alu := .logic (BitVec.ofNat 32 (a.toNat * b.toNat / 2 ^ 32))
def mulhs (a b : Word) : Alu := .logic (BitVec.ofInt 32 ((a.toInt * b.toInt) / (2 ^ 32 : Nat)))

/-- The division of the two most extreme values (R523). -/
def divEdge (a b : Word) : Bool := a == 0x80000000 && b == 0xFFFFFFFF

/-- Division and remainder with their edges (R523). -/
def divu (a b : Word) : Alu :=
  if b = 0 then { val := 0xFFFFFFFF, v := some false, dz := true } else { val := a / b, v := some false }
def divs (a b : Word) : Alu :=
  if b = 0 then { val := if a.msb then 0x80000000 else 0x7FFFFFFF, v := some false, dz := true }
  else { val := a.sdiv b, v := some (divEdge a b) }
def remu (a b : Word) : Alu := { val := if b = 0 then a else a % b, v := some false, dz := b == 0 }
def rems (a b : Word) : Alu := { val := if b = 0 then a else a.srem b, v := some (divEdge a b), dz := b == 0 }

/-- Minimum and maximum (R519). -/
def mins (a b : Word) : Alu := .plain (if a.slt b then a else b)
def maxs (a b : Word) : Alu := .plain (if a.slt b then b else a)
def minu (a b : Word) : Alu := .plain (if a < b then a else b)
def maxu (a b : Word) : Alu := .plain (if a < b then b else a)

end Alu

/-! ### Accumulators (R525) -/

/-- The exact value clamped to 72 bits, and whether it was clamped. -/
def accClamp (i : Int) : BitVec 72 × Bool :=
  if i < -(2 ^ 71 : Nat) then (0x800000000000000000, true)
  else if (2 ^ 71 : Nat) ≤ i then (0x7FFFFFFFFFFFFFFFFF, true)
  else (BitVec.ofInt 72 i, false)

/-- The operations on ACCn, Ds and Dt by FN; beside the result, whether it was clamped. -/
def accOp (fn : Nat) (acc : BitVec 72) (a b : Word) : BitVec 72 × Bool := match fn with
  | 0 => (acc + BitVec.ofInt 72 (a.toInt * b.toInt), false)
  | 1 => accClamp (acc.toInt + a.toInt * b.toInt)
  | 2 => (acc - BitVec.ofInt 72 (a.toInt * b.toInt), false)
  | 3 => accClamp (acc.toInt - a.toInt * b.toInt)
  | 4 => (acc + BitVec.ofNat 72 (a.toNat * b.toNat), false)
  | 5 => (BitVec.ofInt 72 (a.toInt * b.toInt), false)
  | _ => (0, false)

/-- ARD and ARDS: the accumulator shifted right, its low word, or the shifted value clamped to 32 bits; beside it,
whether it was clamped. -/
def accRead (clamp : Bool) (acc : BitVec 72) (sh : Nat) : Word × Bool :=
  let i := (acc.sshiftRight sh).toInt
  if clamp && outside i then (if i < 0 then 0x80000000 else 0x7FFFFFFF, true)
  else (BitVec.ofInt 32 i, false)

/-- AWR: the accumulator from three words. -/
def accWrite (a b g : Word) : BitVec 72 := (g.setWidth 8 ++ b ++ a).setWidth 72

end Sys2Proof.Machine
end

