-- ==== Sys2Proof/Machine/Boot.lean ====
section
/-! DEFINITION. Measurement and attestation (R609–R611), update sessions and trials (R612–R617), and the descriptors of
R626. Cold boot itself is in Power. -/
namespace Sys2Proof.Machine

namespace Block

/-! ### Registers that show the flash and PD0 (R624, R625) -/

/-- BOOT_BANK, UPD_STAGED, UPD_SVER and BOOT_FLOOR show the boot control record and the raised floors. -/
def updShow (b : Block) : Block :=
  let b := ((b.setF F.BOOT_BANK_ACTIVE 0 b.flash.active).setF F.BOOT_BANK_TRIAL 0 b.flash.trial).setF F.UPD_STAGED_STAGED 0 b.flash.staged
  forN 7 (fun i b =>
    let c := i + 1
    let b := b.wr R.UPD_SVER i (if bit b.flash.staged i then hVersion (b.copyOf (1 - b.activeBank c) c).header else 0)
    b.setF (floorField c) (i / 4) (max (b.floorOf c) (Tab.get 0 b.flash.floors c))) b

/-- BOOT_VER and BOOT_MS show the booted headers and the measurement slots (R607, R609). -/
def bootShow (b : Block) : Block :=
  let b := forN 7 (fun i b => b.wr R.BOOT_VER i (hVersion (Tab.get [] b.boot.heads (i + 1)))) b
  let b := forN 96 (fun w b =>
    b.wr R.BOOT_MS w (ofLe (bytesOf (((b.boot.slots.getD (w / 12) []).drop (4 * (w % 12))).take 4)))) b
  b.setF F.BOOT_BANK_BOOTED 0 b.boot.banks

/-! ### Measurement (R609, R610) -/

/-- The boot-state record, 64 bytes (R609). -/
def bootRecord (b : Block) (recovery : Bool) : List Byte :=
  leBytes 4 (b.rd R.BOOT_ROMVER 0) ++ leBytes 4 (b.rd R.SYS_VARIANT 0) ++ leBytes 4 (b.rd R.SYS_DIESTEP0 0) ++
  leBytes 4 (b.rd R.SYS_DIESTEP1 0) ++ ((List.range 7).flatMap fun i => leBytes 1 (b.floorOf (i + 1))) ++
  leBytes 1 b.boot.banks ++ leBytes 1 b.flash.trial ++ leBytes 1 (b2n recovery) ++ List.replicate 38 0

/-- Slots MS0–MS7: a component that has not booted holds 48 zero bytes (R605, R609). -/
def measure (recovery : Bool) (b : Block) : Block :=
  let ms0 := sha384 (b.bootRecord recovery)
  let slots := (List.range 7).map fun i =>
    let h := Tab.get [] b.boot.heads (i + 1)
    if h.isEmpty then List.replicate 48 0 else sha384 h
  { b with boot := { b.boot with slots := ms0 :: slots } }

/-- The composite digest over MS0–MS7. -/
def composite (b : Block) : List Nat := sha true b.boot.slots.flatten

/-- Tags of the identity key and of the attestation key (R610). -/
def idkTag : KeyTag := { root := 0, dom := 0x85, lbits := 448, label := [0x49, 0x44, 0x4B, 0x31] }
def akTag (b : Block) : KeyTag := { root := 0, dom := 0x85, lbits := 448, label := [0x41, 0x4B, 0x30, 0x31] ++ b.composite }

/-- Serial number, 8 bytes. -/
def serialLe (b : Block) : List Nat := natsOf (leBytes 4 (b.rd R.SYS_SERIAL 0) ++ leBytes 4 (b.rd R.SYS_SERIAL 1))

/-- A signature over the SHA-384 of a message under a derived key: its nonce is random, and it is verified before it is
written; one that fails its check is not written (R552, R610). After the statement is signed the key store refuses the
IDK label until the next cold boot. -/
def signWith (t : KeyTag) (msg : List Nat) (b : Block) : Option (List Nat) × Block :=
  if t = idkTag && b.boot.idkLock then (none, b.rootRefused 4) else
  let b := (b.keyNow t).pkeJobs 1
  let (kb, b) := (b.rngRequest false).randomBytes 56
  let d := privateKey p384 (keyOf t)
  let e := ofBe (sha true msg)
  let s := ecdsaSign p384 d e (ofBe kb % (p384.n - 1) + 1)
  if b.jobFault 1 4 || !ecdsaVerify p384 (publicKey p384 d) e s.1 s.2 then (none, b.checkError 4)
  else (some (beBytes 48 s.1 ++ beBytes 48 s.2), b)

/-- The key store, the public-key unit and the generator can sign with RK0 (R554, R555). -/
def canSign (b : Block) : Bool :=
  b.pg 10 && b.rootValid 0 && b.rngOn && Tab.get 0 b.ciph.test 2 == 1 && Tab.get 0 b.ciph.test 3 == 1

/-- A request of the boot logic for an invalid RK0 is refused (R541, R560). -/
def rootAsked (b : Block) : Block := if b.pg 10 && !b.rootValid 0 then b.rootRefused 4 else b

/-- Step 8 of R604: the attestation statement is signed with IDK, which the key store then refuses. Without a valid RK0,
unit or generator there is no statement, and its bytes are 0 (log 75). -/
def attest (b : Block) : Block :=
  let zero := List.replicate 248 0
  let (stmt, b) :=
    if b.canSign then
      let q := publicKey p384 (privateKey p384 (keyOf b.akTag))
      let body := beBytes 48 q.1 ++ beBytes 48 q.2 ++ b.composite ++ b.serialLe
      let (s, b) := ((b.keyNow b.akTag).pkeJobs 1).signWith idkTag body
      (s.elim zero fun s => body ++ s, b)
    else (zero, b.rootAsked)
  { b with boot := { b.boot with stmt := stmt, idkLock := true, stmtDue := false } }

/-- Step 8 of R604 ends the boot. It waits for the self-tests of the units that sign (R555). -/
def bootDone (b : Block) : Block :=
  if b.untested [2, 3] then { b with boot := { b.boot with stmtDue := true } } else b.attest.setF F.BOOT_STAT_PHASE 0 2

/-- PD10 loses power before step 8: there is no statement (log 75). -/
def attestLost (b : Block) : Block :=
  if b.boot.stmtDue then
    ({ b with boot := { b.boot with stmt := List.replicate 248 0, idkLock := true, stmtDue := false } } : Block).setF F.BOOT_STAT_PHASE 0 2
  else b

/-- BOOT_MEAS (R611). While its units are tested a descriptor waits before it comes here; the Mladet port gets BUSY (log 128). -/
def bootMeas (d : Desc) (b : Block) : Block × Compl :=
  if !d.ok 0xB0 568 65536 (List.replicate 8 0xFFFFFFFF) then (b, .of St.badDesc)
  else if !(b.getF F.BOOT_STAT_PHASE 0 == 2) then (b, .of St.busy)
  else if !b.pg 10 then (b, .of St.refused)
  else if b.untested [2, 3] then (b, .of St.busy)
  else if !b.canSign then (b.rootAsked, .of St.hwFault)
  else
    let flags := b2n (b.getF F.UPD_STAT_STATE 0 == 3) + 2 * b.getF F.BOOT_STAT_RECOVERY 0 + 4 * b.getF F.BOOT_STAT_FALLBACK 0 +
      8 * (1 - b.getF F.SYS_VARIANT_DBGFUSE 0) + 16 * b.getF F.BOOT_STAT_DBGSEEN 0
    let rep := natsOf (leBytes 4 0x5045524D ++ leBytes 2 1 ++ leBytes 1 b.nodeId ++ leBytes 1 flags) ++ b.serialLe ++
      natsOf ((List.range 8).flatMap fun i => leBytes 4 (d.dw (5 + i))) ++ natsOf (leBytes 8 (b.pw.rtc % 2 ^ 48)) ++ b.boot.slots.flatten ++
      natsOf ((List.range 7).flatMap fun i => leBytes 4 (b.rd R.BOOT_VER i)) ++ [0, 0, 0, 0]
    match b.signWith b.akTag rep with
    | (none, b) => (b, .of St.hwFault)
    | (some s, b) => (b, { status := St.ok, cw2 := 568, data := bytesOf (rep ++ s) })

/-- BOOT_CERT (R626). Before PHASE = DONE there is no statement to write. -/
def bootCert (d : Desc) (b : Block) : Block × Compl :=
  if !d.ok 0xB1 1784 65536 [] then (b, .of St.badDesc)
  else if !(b.getF F.BOOT_STAT_PHASE 0 == 2) then (b, .of St.busy)
  else
    let n := min Config.certLen 1532
    let cert := (List.range n).map Config.certByte
    (b, { status := St.ok, cw2 := 1784,
          data := leBytes 4 n ++ cert ++ List.replicate (1532 - n) 0 ++ bytesOf b.boot.stmt ++ List.replicate (248 - b.boot.stmt.length) 0 })

/-! ### Boot control record (R600) -/

/-- The record as it stands. -/
def bootRec (b : Block) : BootRec :=
  let f := b.flash
  { active := f.active, trial := f.trial, staged := f.staged, pending := f.pending
    vers := (List.range 7).map fun i => if bit f.staged i then hVersion (b.copyOf (1 - b.activeBank (i + 1)) (i + 1)).header else 0 }

/-- The two copies are rewritten one after the other, under the boot logic's CMAC (log 216). -/
def bcrSave (b : Block) : Block :=
  let (k, b) := b.sealRecord bcrLabel
  let b := { b with boot := { b.boot with recDue := k == 1 } }
  if k = 0 then { b with flash := { b.flash with bcr := RecCopy.rewrite b.flash.bcr b.bootRec } } else b

/-- The record has changed: its registers show it, and its copies are rewritten. -/
def bcrWrite (b : Block) : Block := b.updShow.bcrSave

/-! ### What waits for the self-tests of PD10 (R555) -/

/-- Work of the boot logic that has waited goes on. -/
def bootResume (b : Block) : Block :=
  let b := whenB b.boot.stmtDue bootDone b
  let b := whenB b.boot.recDue bcrSave b
  whenB b.acs.saveDue recordSave b

/-- SELF_TEST_COMPLETE (R555): a unit that has not ended its tests since the power good of PD10 ends them, and what has waited
for it goes on in the order of R549. -/
def testEnded (u : Nat) (pass : Bool) (b : Block) : Block :=
  if !b.pg 10 || !(Tab.get 0 b.ciph.test u == 0) then b
  else
    let b := b.selfTest u pass
    ((b.gwAdmit b.ciph.gwq.length).exchResume).bootResume.jobsGo

/-! ### Update sessions (R612–R615) -/

/-- Who sends an update descriptor: its queue, or none for the Mladet port. -/
def updOwner (mladet : Bool) (d : Desc) : Option Source := if mladet then none else some d.src

/-- A refusal with a cause: recorded as LASTCAUSE, with the failing guards in CW3 (R613, R627). -/
def updRefuse (status cause : Nat) (b : Block) : Block × Compl :=
  (b.setF F.UPD_STAT_LASTCAUSE 0 cause, { status := status, cw2 := cause, cw3 := b.guards })

/-- The lowest failing guard as a cause 9–12; 0 = none (R613, R614). -/
def guardCause (b : Block) : Nat := ((List.range 4).find? fun g => bit b.guards g).elim 0 (· + 9)

/-- Headers of the staged version of each component, where one is staged, and of its ACTIVE copy otherwise; a component
without a valid copy is absent. `pick` names the components whose staged version counts (R603, R613, R616). -/
def refSet (b : Block) (pick : Nat) (but : Nat) : List (Nat × List Byte) :=
  ((List.range 7).map (· + 1)).filterMap fun c =>
    if c = but then none
    else
      let bank := if bit b.flash.staged (c - 1) && bit pick (c - 1) then 1 - b.activeBank c else b.activeBank c
      if b.copyValid bank c then some (c, (b.copyOf bank c).header) else none

/-- UPD_BEGIN (R612–R614). `fail`: the flash could not be erased or programmed. -/
def updBegin (fail mladet : Bool) (d : Desc) (b : Block) : Block × Compl :=
  if !d.ok 0xB2 512 512 [] || d.bcast then (b, .of St.badDesc)
  else if b.boot.sess.isSome then (b, .of St.busy)
  else if 2 ≤ b.getF F.UPD_STAT_STATE 0 then b.updRefuse St.refused 14
  else
    let h := d.payload.take 512
    let c := hdr h 6 2
    let k := headCause c (b.floorOf c) h
    let b := whenB (k = 0 ∨ 6 ≤ k) (pkeJobs 1) b
    if 1 ≤ k ∧ k ≤ 4 then b.updRefuse St.badDesc k
    else if !(k == 0) then b.updRefuse St.refused k
    else if !(badPairs ((c, h) :: b.refSet 0x7F c)).isEmpty then b.updRefuse St.refused 8
    else if !(b.guardCause == 0) then b.updRefuse St.refused b.guardCause
    else if fail then b.updRefuse St.hwFault 15
    else
      let b := { b with flash := { b.flash with staged := putBits b.flash.staged (c - 1) (c - 1) 0 } }
      let b := (b.setCopy (1 - b.activeBank c) c { header := h }).bcrWrite
      let b := { b with boot := { b.boot with sess := some { owner := updOwner mladet d, comp := c } } }
      (((b.setF F.UPD_STAT_STATE 0 1).setF F.UPD_STAT_COMP 0 c).wr R.UPD_RCVD 0 0, .of St.ok)

/-- UPD_WRITE (R614, R615). -/
def updWrite (fail mladet : Bool) (d : Desc) (b : Block) : Block × Compl :=
  if !d.ok 0xB3 64 65536 [0xFFFFFFFF] || d.bcast || !(d.len % 64 == 0) then (b, .of St.badDesc)
  else match b.boot.sess with
    | none => b.updRefuse St.refused 14
    | some s =>
      if !(s.owner == updOwner mladet d) then (b, .of St.busy)
      else
        let bank := 1 - b.activeBank s.comp
        let cp := b.copyOf bank s.comp
        let got := b.rd R.UPD_RCVD 0
        if !(d.dw 5 == got) || decide (hLength cp.header < got + d.len) then (b, .of St.badDesc)
        else if !(b.guardCause == 0) then b.updRefuse St.refused b.guardCause
        else if fail then b.updRefuse St.hwFault 15
        else ((b.setCopy bank s.comp { cp with body := cp.body ++ d.payload.take d.len }).wr R.UPD_RCVD 0 (got + d.len), .of St.ok)

/-- UPD_FINISH (R615). -/
def updFinish (mladet : Bool) (d : Desc) (b : Block) : Block × Compl :=
  if !d.ok 0xB4 0 0 [] || d.bcast then (b, .of St.badDesc)
  else match b.boot.sess with
    | none => b.updRefuse St.refused 14
    | some s =>
      if !(s.owner == updOwner mladet d) then (b, .of St.busy)
      else
        let bank := 1 - b.activeBank s.comp
        let cp := { b.copyOf bank s.comp with full := true }
        if b.rd R.UPD_RCVD 0 < hLength cp.header then b.updRefuse St.refused 14
        else if !bodyOk cp then (b.sessClose true).updRefuse St.refused 13
        else
          let b := (b.setCopy bank s.comp cp).sessClose false
          (({ b with flash := { b.flash with staged := putBits b.flash.staged (s.comp - 1) (s.comp - 1) 1 } } : Block).bcrWrite, .of St.ok)

/-- SESSION_TIMEOUT (R612). -/
def sessTimeout (b : Block) : Block :=
  if b.boot.sess.isSome then (b.sessClose true).setF F.UPD_STAT_LASTCAUSE 0 16 else b

/-! ### Activation and trial (R616, R617) -/

/-- UPD_ACTIVATE (R616). -/
def updActivate (d : Desc) (b : Block) : Block × Compl :=
  let m := bits (d.dw 5) 7 1
  if !d.ok 0xB5 0 0 [0xFE] || d.bcast || m == 0 then (b, .of St.badDesc)
  else if !(b.getF F.UPD_STAT_STATE 0 == 0) || !(m &&& b.flash.staged == m) then b.updRefuse St.refused 14
  else if (List.range 7).any fun i => bit m i && !bodyOk (b.copyOf (1 - b.activeBank (i + 1)) (i + 1)) then b.updRefuse St.refused 13
  else if !(b.guardCause == 0) then b.updRefuse St.refused b.guardCause
  else if !(badPairs (b.refSet m 0)).isEmpty then b.updRefuse St.refused 8
  else
    let f := b.flash
    let b := { b with flash := { f with active := f.active ^^^ m, trial := m, pending := true, staged := f.staged ^^^ m } }
    ((b.setF F.UPD_STAT_STATE 0 2).bcrWrite, .of St.ok)

/-- ACTIVATION_RESET (R616). -/
def activationReset (b : Block) : Block :=
  if b.getF F.UPD_STAT_STATE 0 == 2 then
    let b := { b with boot := { b.boot with actNext := true } }
    let (b, os) := b.socReset F.PWR_RSTCAUSE_UPDACT
    b.raiseList os
  else b

/-- The record is reverted: the members of the trial group select their previous copies and are STAGED again (R617). -/
def revert (b : Block) : Block :=
  let f := b.flash
  ({ b with flash := { f with active := f.active ^^^ f.trial, staged := f.staged ||| f.trial, trial := 0, pending := false } } : Block).updShow

/-- The trial ends by its time or by an abort (R617). -/
def trialRevert (b : Block) : Block := ((b.revert.bcrSave).setF F.UPD_STAT_STATE 0 0).setF F.UPD_STAT_REVERTED 0 1

/-- UPD_COMMIT (R617). -/
def updCommit (d : Desc) (b : Block) : Block × Compl :=
  if !d.ok 0xB6 0 0 [1] || d.bcast then (b, .of St.badDesc)
  else if !(b.getF F.UPD_STAT_STATE 0 == 3) then b.updRefuse St.refused 14
  else
    let raise := bit (d.dw 5) 0
    let floors := (List.range 7).foldl (fun t i =>
      if raise && bit b.flash.trial i then Tab.put t (i + 1) (max (b.floorOf (i + 1)) (hRollback (b.copyOf (b.activeBank (i + 1)) (i + 1)).header)) else t) b.flash.floors
    let b := { b with flash := { b.flash with trial := 0, floors := floors } }
    ((b.setF F.UPD_STAT_STATE 0 0).bcrWrite, .of St.ok)

/-- TRIAL_TIMEOUT (R617). -/
def trialTimeout (b : Block) : Block := if b.getF F.UPD_STAT_STATE 0 == 3 then b.trialRevert else b

/-- UPD_ABORT (R617, R626). Outside a trial one that selects nothing is malformed (R395). -/
def updAbort (mladet : Bool) (d : Desc) (b : Block) : Block × Compl :=
  let ses := bit (d.dw 5) 0
  let m := bits (d.dw 5) 7 1
  let st := b.getF F.UPD_STAT_STATE 0
  if !d.ok 0xB7 0 0 [0xFF] || d.bcast || (!(st == 3) && d.dw 5 == 0) then (b, .of St.badDesc)
  else if st = 3 then (b.trialRevert, .of St.ok)
  else if st = 2 then b.updRefuse St.refused 14
  else if ses && (match b.boot.sess with
      | some s => !(s.owner == updOwner mladet d)
      | none => false) then (b, .of St.busy)
  else if ses && b.boot.sess.isNone then b.updRefuse St.refused 14
  else
    let b := if ses then b.sessClose true else b
    let drop := m &&& b.flash.staged
    let b := forN 7 (fun i b => if bit drop i then b.setCopy (1 - b.activeBank (i + 1)) (i + 1) {} else b) b
    (({ b with flash := { b.flash with staged := b.flash.staged ^^^ drop } } : Block).bcrWrite, .of St.ok)

/-- UPD_STATUS (R626). -/
def updStatus (d : Desc) (b : Block) : Block × Compl :=
  if !d.ok 0xB8 64 65536 [] || d.bcast then (b, .of St.badDesc)
  else
    let b := b.guardSync
    let w (r : Reg) (i : Nat) : List Byte := leBytes 4 (b.rd r i)
    let data := w R.UPD_STAT 0 ++ w R.UPD_RCVD 0 ++ w R.UPD_STAGED 0 ++ w R.BOOT_STAT 0 ++ w R.BOOT_BANK 0 ++ w R.BOOT_FLOOR 0 ++
      w R.BOOT_FLOOR 1 ++ leBytes 4 0 ++ ((List.range 7).flatMap fun i => w R.BOOT_VER i) ++ leBytes 4 0
    (b, { status := St.ok, cw2 := 64, data := data })

/-- TRIALTO in ticks of the real-time counter (R625). -/
def trialTicks (b : Block) : Nat := clampTo 1 60 (b.getF F.UPD_CFG_TRIALTO 0) * 60 * 32768

/-- UPD_TRIAL.REMAIN as it stands: the seconds until TRIALTO expires, rounded up. -/
def trialRemain (b : Block) : Block :=
  b.setF F.UPD_TRIAL_REMAIN 0 (if b.getF F.UPD_STAT_STATE 0 == 3 then min 4095 ((b.boot.trialAt + b.trialTicks - b.pw.rtc + 32767) / 32768) else 0)

/-! ### Recovery and debug (R620, R622) -/

/-- RECOVERY_REQUEST (R620): the supervisor writes BOOT_CTL. -/
def recoveryRequest (key : Nat) (b : Block) : Block :=
  if key = 0x2EC0 then
    let b := { b with boot := { b.boot with recNext := true } }
    let (b, os) := b.socReset F.PWR_RSTCAUSE_RECSW
    b.raiseList os
  else b

/-- DEBUG_CONNECT (R622): no port with the debug fuse blown. -/
def debugConnect (b : Block) : Block :=
  if b.flag F.SYS_VARIANT_DBGFUSE 0 || !b.pg 1 then b else b.setF F.BOOT_STAT_DBGSEEN 0 1

/-! ### Mladet port (R621) -/

/-- A response waits: MLD_ALERT_N is low. -/
def mladetReply (status : Nat) (data : List Byte) (b : Block) : Block := { b with boot := { b.boot with resp := some (status, data) } }

/-- One command at a time: a frame before the previous response has been read is discarded (R621). A frame with a wrong
CRC or an unknown CMD gets BAD_DESC. -/
def mladetCmd (good : Bool) (k : Block → Block) (b : Block) : Block :=
  if b.boot.resp.isSome then b else if !good then b.mladetReply St.badDesc [] else k b

/-- GET. -/
def mladetGet (b : Block) : Block :=
  match b.boot.resp with
  | none => b
  | some r => ({ b with boot := { b.boot with resp := none } } : Block).send (.mladet r.1 r.2)

/-- REC_REQ. -/
def mladetRec (payload : List Byte) (b : Block) : Block :=
  if payload = [0xC0, 0x7E] then
    (({ b with boot := { b.boot with recReq := true } } : Block).setF F.BOOT_STAT_RECREQ 0 1).mladetReply St.ok []
  else b.mladetReply St.badDesc []

/-- DESC: a boot or update descriptor with its payload; the port owns the session that it opens (R612, R621). -/
def mladetDesc (fail : Bool) (dws : List Word) (payload : List Byte) (b : Block) : Block :=
  let d : Desc := { src := .fwRing 0, dws := dws, payload := payload }
  let st := b.getF F.PWR_STATE_STATE 0
  if st = 1 then b.mladetReply St.refused []
  else
    let (b, c) :=
      if !(d.node == b.nodeId) || d.bcast || !(d.addr == 0) || decide (4096 < d.len) || !(d.len == payload.length || [0xB0, 0xB1, 0xB8].contains d.opcode) then (b, Compl.of St.badDesc)
      else if d.opcode = 0xB0 then b.bootMeas d else if d.opcode = 0xB1 then b.bootCert d
      else if d.opcode = 0xB2 then b.updBegin fail true d else if d.opcode = 0xB3 then b.updWrite fail true d
      else if d.opcode = 0xB4 then b.updFinish true d else if d.opcode = 0xB5 then b.updActivate d
      else if d.opcode = 0xB6 then b.updCommit d else if d.opcode = 0xB7 then b.updAbort true d
      else if d.opcode = 0xB8 then b.updStatus d else (b, Compl.of St.badDesc)
    let cw := leBytes 4 (d.tag + c.status * 65536) ++ leBytes 4 0 ++ leBytes 4 c.cw2 ++ leBytes 4 c.cw3
    b.mladetReply c.status (cw ++ c.data)

end Block

end Sys2Proof.Machine
end

