-- ==== Sys2Proof/Machine/Pair.lean ====
section
/-! DEFINITION. The redundant pair (R628–R646): roles, HELLO, mirroring, heartbeats, takeover. -/
namespace Sys2Proof.Machine

/-- Roles of R631. -/
def Role.disabled : Nat := 0
def Role.linkup : Nat := 1
def Role.lead : Nat := 2
def Role.follow : Nat := 3
def Role.alone : Nat := 4
def Role.blocked : Nat := 5

/-- Function state of a full bridge as a snapshot carries it (R635). -/
def fbCode : FbPhase → Nat
  | .idle => 0
  | .run => 1
  | .single => 2
  | .back => 3
  | .park => 4
  | .parkBrake => 5
  | .move => 6
  | .pinchBrake => 7
  | .reverse => 8
  | .pulse => 9
  | .gap => 10

namespace Block

def role (b : Block) : Nat := b.getF F.PAIR_STAT_ROLE 0

/-- PARTNER, as taken at the enable. -/
def pairPartner (b : Block) : Nat := bits (b.pairCfg 0) 6 1

/-- The partner is reachable: its bit in CHN_REACH, and a topology frame within the last 300 µs (R637). -/
def pairReach (b : Block) (recent : Bool) : Bool :=
  recent && bit (b.getF F.CHN_REACH_REACH (b.pairPartner / 32)) (b.pairPartner % 32)

/-- Age of the shadow in 10 µs steps, saturating (R645). -/
def pairShow (b : Block) : Block := b.setF F.PAIR_STAT_SNAPAGE 0 (min 255 ((b.pw.tbase - b.pair.snapAt) / 1600))

/-- Switch an HS channel or half-bridge off through its normal path: command 0. Under the weir commands are not
applied (R120, R134). -/
def pairCmd0 (p : Nat) (b : Block) : Block :=
  let st := b.chState p
  if b.underWeir || st == Ch.disabled || st == Ch.locked then b else (b.setCmd p 0 0).commandActs p

/-- Every mirrored output turns off: lamp fades end, HS and HB commands become 0, bridges coast, valve tables stop at
once (R634, log 80). -/
def pairOutputsOff (b : Block) : Block :=
  if b.underWeir then b
  else
    let b := forN 16 (fun g b => if b.mirGrp g && b.flag F.LMP_GRP_EN g then ((b.grpChans g).foldl (fun b n => b.lampCut n 0) b).setFade (96 + g) none else b) b
    let b := forN 96 (fun n b =>
      if b.mirHs n then
        let b := if b.flag F.HSW_CFG_LAMP n && (b.groupOf n).isNone && !(b.lampLevel n == 0 && (b.fadeOf n).isNone) then b.lampCut n 0 else b
        if b.isFollower n then b else b.pairCmd0 n
      else b) b
    let b := forN 16 (fun n b =>
      let p := 96 + n
      if !b.mirHb n || b.isFollower p then b
      else if b.isPair p then (if b.chState p == Ch.disabled || b.chState p == Ch.locked then b else b.fbCoast (n / 2)) else b.pairCmd0 p) b
    let b := forN 16 (fun t b =>
      if b.mirTbl t then
        let b := b.updTbl t fun x => { x with inPlace := none }
        if b.tblRuns t then
          forN 32 (fun n b => if ((b.vl n).shot.elim false (·.table == some t)) then b.vlClamp n else b) (b.setF F.VLV_TSTAT_TSTATE t 3)
        else b
      else b) b
    (forN 8 (fun k b => b.serveWaiting k) b).settleTables

/-- Take a role; one that keeps the mirrored outputs off turns them off (R631, R634). Who begins to lead sends the tables
and profiles that are loaded already (R635, log 119). -/
def setRole (r : Nat) (b : Block) : Block :=
  let was := b.role
  let b := b.setF F.PAIR_STAT_ROLE 0 r
  let b := { b with pair := { b.pair with late := false, yield := false } }
  if b.pairOff then b.pairOutputsOff else if r = Role.lead ∧ ¬ was = Role.lead then b.pairLoad ((List.range 16).flatMap b.tableLoad) else b

/-- The sticky bits of R644 with their DETAIL. -/
def pairCfgErr (b : Block) : Block := b.stickD F.PAIR_STAT_CFGERR 0 242 1
def pairSplit (detail : Nat) (b : Block) : Block := b.stickD F.PAIR_STAT_SPLIT 0 243 detail

/-! ### Enable, HELLO and link (R632, R633, R640, R642, R644) -/

/-- The HELLO of this module. -/
def ownHello (b : Block) : Hello :=
  { node := ⟨b.nodeId % 64, Nat.mod_lt _ (by decide)⟩, partner := ⟨b.pairPartner % 64, Nat.mod_lt _ (by decide)⟩
    serial := BitVec.ofNat 64 (b.rd R.SYS_SERIAL 0 + b.rd R.SYS_SERIAL 1 * 2 ^ 32)
    role := ⟨b.role % 6, Nat.mod_lt _ (by decide)⟩, sysv := b.flag F.PWR_CFG_SYSV 0
    masks := (b.pair.cfg.drop 1).map (BitVec.ofNat 32) }

/-- Send the HELLO where the link is up. -/
def sayHello (b : Block) : Block := if b.flag F.PAIR_STAT_LINK 0 && !(b.role == 0) then b.send (.pairHello b.ownHello) else b

/-- PAIR_ENABLE: EN written 1 (R632, R645). -/
def pairEnable (b : Block) : Block :=
  if !(b.role == 0) then b
  else if !b.flag F.SYS_NODE_VALID 0 || b.getF F.PAIR_CFG_PARTNER 0 == b.nodeId || b.getF F.PWR_STATE_STATE 0 == 4 then
    (b.setF F.PAIR_CFG_EN 0 0).pairCfgErr
  else
    let b := b.setF F.PAIR_CFG_EN 0 1
    let cfg := [b.rd R.PAIR_CFG 0, b.rd R.PAIR_HSMASK 0, b.rd R.PAIR_HSMASK 1, b.rd R.PAIR_HSMASK 2, b.rd R.PAIR_MASK 0, b.rd R.PAIR_VMASK 0]
    let b := { b with pair := { cfg := cfg } }
    (b.setRole Role.linkup).sayHello

/-- PAIR_DISABLE: EN written 0 sends a BYE frame (R642). -/
def pairDisable (b : Block) : Block :=
  let b := b.setF F.PAIR_CFG_EN 0 0
  if b.role == 0 then b
  else
    let b := if b.flag F.PAIR_STAT_LINK 0 then b.send .pairBye else b
    let b := b.setRole Role.disabled
    { b with pair := {} }

/-- PAIR_HELLO (R632, R640). BLOCKED ends only by UNBLOCK or EN = 0. A HELLO of a partner in LINKUP is answered. -/
def pairHello (h : Hello) (b : Block) : Block :=
  let r := b.role
  if r == 0 || !b.flag F.PAIR_STAT_LINK 0 then b
  else
    let b := if h.role.val = 1 ∧ r ≠ 1 then b.sayHello else b
    let low := decide (b.nodeId < h.node.val)
    let own := r == Role.lead || r == Role.alone
    let his := h.role.val == 2 || h.role.val == 4
    if r == Role.blocked then b
    else if !(h.node.val == b.pairPartner) || !(h.partner.val == b.nodeId) then (b.setRole Role.blocked).pairCfgErr
    else if !(h.masks == (b.pair.cfg.drop 1).map (BitVec.ofNat 32)) || !(h.sysv == b.flag F.PWR_CFG_SYSV 0) then
      (b.setRole (if low then Role.alone else Role.blocked)).pairCfgErr
    else if own && his then (if low then b.setRole Role.lead else (b.setRole Role.follow).pairSplit 2)
    else if his then b.setRole Role.follow
    else if own then b.setRole Role.lead
    else b.setRole (if low then Role.lead else Role.follow)

/-- HELLO_TIMEOUT_PAIR (R633): no HELLO LUTO ms after the enable. -/
def pairTimeout (recent : Bool) (b : Block) : Block :=
  if !(b.role == Role.linkup) then b
  else if !b.pairReach recent || decide (b.nodeId < b.pairPartner) then b.setRole Role.alone
  else (b.setRole Role.blocked).pairSplit 1

/-- PAIR_LINK_UP (R632, R644): training is complete. -/
def pairLinkUp (b : Block) : Block :=
  if b.role == 0 || b.flag F.PAIR_STAT_LINK 0 then b
  else ((b.setF F.PAIR_STAT_LINK 0 1).raise 240 2).sayHello

/-- PAIR_LINK_DOWN (R644). -/
def pairLinkDown (b : Block) : Block :=
  if b.flag F.PAIR_STAT_LINK 0 then (b.setF F.PAIR_STAT_LINK 0 0).stickD F.PAIR_STAT_LINKDN 0 240 1 else b

/-- BYE (R642): ALONE without a takeover. -/
def pairBye (b : Block) : Block :=
  if b.role == 0 || !b.flag F.PAIR_STAT_LINK 0 then b else b.setRole Role.alone

/-! ### Mirroring (R635) -/

/-- What a snapshot of this module holds. -/
def snapshot (b : Block) : List Mirror :=
  let hs := ((List.range 96).filter b.mirHs).map fun n => Mirror.hs n (b.cget C.duty n) (b.chState n) (bits (b.rd R.HSW_STAT n) 15 7)
  let rem (n : Nat) : Nat := b.getF F.LMP_FADE_REMAIN n
  let lamps := ((List.range 96).filter fun n => b.mirHs n && b.flag F.HSW_CFG_LAMP n && (b.groupOf n).isNone).map fun n =>
    Mirror.lamp n [b.lampLevel n] [b.getF F.LMP_TARGET_TARGET n] (rem n) (b.getF F.LMP_CFG_CURVE n)
  let grps := ((List.range 16).filter fun g => b.mirGrp g && b.flag F.LMP_GRP_EN g).map fun g =>
    let cs := b.grpChans g
    Mirror.lamp (96 + g) (cs.map b.lampLevel) (cs.map fun n => b.getF F.LMP_TARGET_TARGET n) (rem (cs.headD 0)) (b.getF F.LMP_GRP_CURVE g)
  let hbs := ((List.range 16).filter fun n => b.mirHb n && !b.isPair (96 + n) && !b.isFollower (96 + n)).map fun n =>
    Mirror.hb n (b.getF F.HB_CMD_OUT n) (b.cget C.duty (96 + n)) (b.chState (96 + n))
  let fbs := ((List.range 8).filter fun k => b.mirHb (2 * k) && b.isPair (96 + 2 * k)).map fun k =>
    Mirror.fb k (b.getF F.HB_FBSTAT_DIR k) (b.fbr k).duty (fbCode (b.fbr k).phase) (b.getF F.HB_WINPOS_POS k)
  let tbls := ((List.range 16).filter b.mirTbl).map fun t =>
    Mirror.tbl t (b.getF F.VLV_TSTAT_TSTATE t) (b.tbl t).start
  hs ++ lamps ++ grps ++ hbs ++ fbs ++ tbls

/-- PAIR_SNAPSHOT_SEND: the lead sends its snapshot every 1 ms (R635). -/
def snapSend (b : Block) : Block := if b.role == Role.lead && b.flag F.PAIR_STAT_LINK 0 then b.send (.pairSnap b.snapshot) else b

/-- PAIR_SNAPSHOT: a snapshot, or a table or profile as it is loaded, reaches the follower; one with a wrong CRC-32 is
discarded (R635). -/
def snapTake (l : List Mirror) (crcOk : Bool) (b : Block) : Block :=
  if !(b.role == Role.follow) || !b.flag F.PAIR_STAT_LINK 0 then b
  else if crcOk then
    let b := { b with pair := { b.pair with shadow := Mirror.take l b.pair.shadow } }
    if Mirror.isSnap l then ({ b with pair := { b.pair with snapAt := b.pw.tbase } } : Block).setF F.PAIR_STAT_SNAPAGE 0 0 else b
  else b.stickD F.PAIR_STAT_MIRERR 0 242 2

/-! ### Takeover (R638, R639, R641) -/

/-- Apply a part of the shadow where a software command would be applied (R120, R157). -/
def pairApply (a : DieAct) (b : Block) : Block := match b.missOf a with
  | .no => b.applyAct a
  | _ => b

/-- The lead reported channel n as LOCKED. -/
def shadowLocked (l : List Mirror) (n : Nat) : Bool := l.any fun m => match m with
  | .hs k _ st _ => k == n && st == Ch.locked
  | _ => false

/-- Passes of a table that have brought an entry due by tick x, from the entry's first due tick (R191). -/
def duePasses (first period x : Nat) : Nat := if x < first then 0 else if period = 0 then 1 else (x - first) / period + 1

/-- PERIOD and entries of table t in a shadow. -/
def shadowTable (l : List Mirror) (t : Nat) : Nat × List ShotEntry := (l.findSome? fun m => match m with
  | .load u period es => if u = t then some (period, es) else none
  | _ => none).getD (0, [])

/-- A mirrored valve table resumes at its next due entry; shots already due count in NOTFIRED (R638). The lead's tick
becomes one of this module through PAIR_OFFS. -/
def tableResume (t state start : Nat) (b : Block) : Block :=
  if 2 ≤ b.getF F.VLV_TSTAT_TSTATE t then b
  else
    let now := b.pw.tbase
    let s0 := ((start : Int) - sgn 32 (b.getF F.PAIR_OFFS_OFFSET 0)).toNat
    let (period, es) := shadowTable b.pair.shadow t
    let s1 := if period = 0 ∨ now < s0 then s0 else s0 + (now - s0) / period * period
    let b := (b.updTbl t fun _ => { period := period, entries := es, start := s1 }).setF F.VLV_TSTAT_ENTRIES t es.length
    let past := decide (period = 0) && es.all fun e => decide (s0 + e.start ≤ now)
    if state = 0 then b.setF F.VLV_TSTAT_TSTATE t 0
    else if !(state == 2) || past then b.setF F.VLV_TSTAT_TSTATE t 1
    else
      let b := es.foldl (fun b e =>
        let n := duePasses (s0 + e.start) period now - duePasses (s0 + e.start) period b.pair.snapAt
        b.satF F.VLV_COUNT_NOTFIRED e.valve n) b
      b.setF F.VLV_TSTAT_TSTATE t 2

/-- A lamp fade goes on where the lead's would be after the shadow's age in ms (R638). -/
def lampTakeover (i : Nat) (level target : List Nat) (remain curve age : Nat) (b : Block) : Block :=
  let b := if i < 96 then b.setF F.LMP_CFG_CURVE i curve else b.setF F.LMP_GRP_CURVE (i - 96) curve
  let vs := (level.zip target).map fun p => fadeValue (b.fadeCie i) p.1 p.2 age remain
  (b.fadeLevels i vs).fadeNew i target (remain - age)

/-- Apply the shadow (R638 steps 2 to 5). Of a full bridge, a window move and lock pulses have no target or count in the
shadow: the bridge coasts (log 81). -/
def applyShadow (b : Block) : Block :=
  let l := b.pair.shadow
  let age := (b.pw.tbase - b.pair.snapAt) / 160000
  l.foldl (fun b m => match m with
    | .hs n duty st _ => b.pairApply (.hs n (if st = Ch.locked then 0 else duty))
    | .lamp i level target remain curve =>
      if i < 96 then
        (if shadowLocked l i then b.pairApply (.lamp i 0 0)
         else match b.missOf (.lamp i (target.headD 0) 0) with
          | .no => b.lampTakeover i level target remain curve age
          | _ => b)
      else if b.flag F.LMP_GRP_EN (i - 96) && !b.underWeir then
        b.lampTakeover i ((level.zip (b.grpChans (i - 96))).map fun p => if shadowLocked l p.2 then 0 else p.1)
          ((target.zip (b.grpChans (i - 96))).map fun p => if shadowLocked l p.2 then 0 else p.1) remain curve age
      else b
    | .hb n out duty st => b.pairApply (.hb n (if st = Ch.locked then 0 else out) (if st = Ch.locked then 0 else duty))
    | .fb k dir duty func pos =>
      let b := b.setF F.HB_WINPOS_POS k pos
      let fn := b.getF F.HB_FBCFG_FUNC k
      if fn = 0 then b.pairApply (.fb k dir duty)
      else if fn = 1 ∧ (b.missOf (.wipe k 1 duty) = .no) then
        (if func = 1 then b.wipeAct k 1 duty
         else if func = 2 ∨ func = 3 then (b.updFb k fun f => { f with phase := if func = 2 then .single else .back }).setDir k 1 duty
         else if func = 4 then (b.updFb k fun f => { f with phase := .park }).setDir k 1 duty
         else b)
      else b
    | .prof p x y z => ((b.wr R.VLV_PROFA p x).wr R.VLV_PROFB p y).wr R.VLV_PROFC p z
    | .load _ _ _ => b
    | .tbl t state start => b.tableResume t state start) b

/-- The follower takes over with a role (R638, R641): ALONE after a loss, LEAD after a yield. -/
def takeover (role detail : Nat) (b : Block) : Block :=
  let b := ((b.setRole role).satF F.PAIR_CNT_TAKEOVERS 0 1).stickD F.PAIR_STAT_TAKEOVER 0 241 detail
  b.applyShadow

/-- HEARTBEAT_LOSS (R636, R638, R639): 800 µs without a valid heartbeat, three missed. -/
def heartbeatLoss (recent : Bool) (b : Block) : Block :=
  let r := b.role
  if r == Role.lead then
    (b.satF F.PAIR_CNT_MISSED 0 3 |>.setRole Role.alone).stickD F.PAIR_STAT_FOLLOST 0 241 2
  else if r == Role.follow then
    let b := b.satF F.PAIR_CNT_MISSED 0 3
    if b.pairReach recent then
      ((b.setRole Role.blocked).stickD F.PAIR_STAT_LINKDN 0 240 1).pairSplit 1
    else if b.underWeir then { b with pair := { b.pair with late := true } }
    else b.takeover Role.alone 1
  else b

/-- A reclaim of the weir of this module: a takeover that waited for it runs; mirrored outputs that the role keeps off
go off (R634, R639). `st`: state of the weir before. -/
def pairReclaim (st : Nat) (b : Block) : Block :=
  if st < 2 || b.underWeir || !b.pairOff then b
  else if b.role == Role.follow && b.pair.late then b.takeover Role.alone 1
  else b.pairOutputsOff

/-- PAIR_HEARTBEAT_SEND (R636). A lead that hands over announces itself as FOLLOW (log 82). -/
def beatSend (b : Block) : Block :=
  if b.role == 0 || !b.flag F.PAIR_STAT_LINK 0 then b else b.send (.pairBeat (if b.pair.yield then Role.follow else b.role) b.weirState)

/-- PAIR_HEARTBEAT (R636): valid while the sender's weir is IDLE or ARMED; `missed` heartbeats before it, `offs` the
measured offset. The heartbeat of a lead that hands over announces it as FOLLOW: this follower applies its shadow and
becomes LEAD, and its next heartbeat lets the former lead turn its outputs off and follow (R641, log 82). -/
def beatTake (role weir missed offs : Nat) (b : Block) : Block :=
  if b.role == 0 || !b.flag F.PAIR_STAT_LINK 0 then b
  else
    let b := b.satF F.PAIR_CNT_MISSED 0 missed
    if 2 ≤ weir then b
    else
      let b := b.setF F.PAIR_OFFS_OFFSET 0 offs
      let b := { b with pair := { b.pair with late := false } }
      if b.role == Role.follow && role == Role.follow && !b.underWeir then b.takeover Role.lead 3
      else if b.pair.yield && role == Role.lead then b.setRole Role.follow else b

/-! ### Descriptors (R646) -/

/-- PAIR_READ. -/
def pairRead (d : Desc) (b : Block) : Block × Compl :=
  if !(d.ok 0xC0 48 65536 []) then (b, .of St.badDesc)
  else
    let b := b.pairShow
    let ws := [b.rd R.PAIR_CFG 0, b.rd R.PAIR_STAT 0, b.rd R.PAIR_HSMASK 0, b.rd R.PAIR_HSMASK 1, b.rd R.PAIR_HSMASK 2,
      b.rd R.PAIR_MASK 0, b.rd R.PAIR_VMASK 0, b.rd R.PAIR_CNT 0, b.rd R.PAIR_OFFS 0, 0, 0, 0]
    (b, { status := St.ok, cw2 := 48, data := (ws.map (leBytes 4)).flatten })

/-- PAIR_CLEAR. -/
def pairClear (d : Desc) (b : Block) : Block × Compl :=
  if !(d.ok 0xC1 0 0 [0, 0, 0, 3]) then (b, .of St.badDesc)
  else
    let b := if bit (d.dw 8) 0 then b.wr R.PAIR_STAT 0 (putBits (b.rd R.PAIR_STAT 0) 13 8 0) else b
    let b := if bit (d.dw 8) 1 && b.role == Role.blocked then (b.setRole Role.linkup).sayHello else b
    (b, .of St.ok)

/-- PAIR_YIELD (R641): the lead hands over to its follower, without a gap. -/
def pairYield (d : Desc) (b : Block) : Block × Compl :=
  if !(d.ok 0xC2 0 0 []) then (b, .of St.badDesc)
  else if !(b.role == Role.lead) then (b, .of St.refused)
  else ({ b with pair := { b.pair with yield := true } }, .of St.ok)

end Block

end Sys2Proof.Machine
end

