-- ==== Sys2Proof/Machine/Gauge.lean ====
section
/-! DEFINITION. The gauge metrology island (R647–R663): MD's metering, store, log, parameters, seal and readout port, and
the window in the SOC. -/
namespace Sys2Proof.Machine

/-- µW × 100 µs in a mWh. -/
def mwhUnit : Nat := 36000000000

namespace GaugeSt

/-- A log entry (R656): the log keeps the newest 2,048. -/
def logged (code arg val : Nat) (g : GaugeSt) : GaugeSt :=
  let l := g.live
  let e : GaugeEntry := { code := code, arg := arg, seq := l.seq + 1, gt := l.gt, val := val }
  let log := l.log ++ [e]
  { g with live := { l with seq := l.seq + 1, log := log.drop (log.length - 2048) } }

/-- The valid set with the highest number (R653). -/
def bestSet (g : GaugeSt) : Option Nat := ((List.range g.sets.length).filter fun i => ((g.sets[i]?).elim false (·.valid))).getLast?

/-- The active set. -/
def actSet (g : GaugeSt) : Option ParamSet := match g.active with
  | some i => g.sets[i]?
  | none => none

/-- MD counts: RUN or HOLDUP with a set active (R655). -/
def counting (g : GaugeSt) : Bool := (g.state == 1 || g.state == 2) && g.actSet.isSome

/-- MD_POWER_UP (R648, R653, R655): GSUP is at 7.0 V or above; `bad` copies of the store fail. -/
def powerUp (romOk : Bool) (bad : Nat) (g : GaugeSt) : GaugeSt :=
  if !(g.state == 0) then g
  else
    let g := { g with gsup := true, live := g.store, tenth := 0, ghRem := List.replicate 8 0, gmRem := List.replicate 8 0, count := 0,
                      ovl := List.replicate 8 0, rev := List.replicate 8 0 }
    let g := g.logged 1 0 0
    let g := if bad = 1 then g.logged 8 0 0 else g
    let g := if g.badSet then { g.logged 8 (g.sets.length - 1) 0 with badSet := false } else g
    let g := { g with active := g.bestSet }
    if !romOk || bad == 2 || (g.sealed && g.active.isNone) then { g.logged 9 0 0 with state := 3 } else { g with state := 1 }

/-- GSUP_LOSS (R648). In PARAMERR MD stays in it (log 84). -/
def supplyLoss (g : GaugeSt) : GaugeSt :=
  if g.state = 0 ∨ g.gsup = false then g
  else { g.logged 2 0 0 with gsup := false, state := if g.state = 3 then 3 else 2 }

/-- GSUP_RETURN (R648). -/
def supplyReturn (g : GaugeSt) : GaugeSt :=
  if g.state = 0 ∨ g.gsup then g else { g with gsup := true, state := if g.state = 3 then 3 else 1 }

/-- HOLDUP_STORE (R648): counters and log go to the store. -/
def holdStore (g : GaugeSt) : GaugeSt := if g.state = 0 ∨ g.gsup then g else { g with store := g.live }

/-- HOLDUP_END (R648): log entry 3, the last store write, MD stops. -/
def holdEnd (g : GaugeSt) : GaugeSt :=
  if g.state = 0 ∨ g.gsup then g
  else
    let g := g.logged 3 0 0
    { g with store := g.live, live := {}, state := 0, active := none, gin := 0, count := 0, curr := List.replicate 8 0, vout := List.replicate 8 0 }

/-- One meter over 100 µs (R650): `ma` current, `v` voltage in 2 mV steps; a product below 0 lowers the count, not below 0
(log 85). -/
def meterStep (n : Nat) (ma v : Int) (g : GaugeSt) : GaugeSt :=
  let ovl := if 27500 < ma then g.ovl.getD n 0 + 1 else 0
  let rev := if ma < 0 then g.rev.getD n 0 + 1 else 0
  let all : Int := (g.live.gm.getD n 0 * mwhUnit + g.gmRem.getD n 0 : Nat) + (if 50 ≤ ma then ma * (v * 2) else 0)
  let g := { g with ovl := g.ovl.set n (min ovl 10001), rev := g.rev.set n (min rev 10001),
                    gmRem := g.gmRem.set n (all.toNat % mwhUnit),
                    live := { g.live with gm := g.live.gm.set n (all.toNat / mwhUnit % 2 ^ 48) } }
  let c := g.live.gm.getD n 0 % 2 ^ 32
  let g := if ovl = 10000 then g.logged 6 n c else g
  if rev = 10000 then g.logged 7 n c else g

/-- METER_INTEGRATE (R650): currents in mA and voltages in 2 mV steps of HS0–HS7. -/
def integrate (ma v : List Int) (g : GaugeSt) : GaugeSt :=
  if g.state = 0 then g
  else
    let g := { g with curr := (List.range 8).map fun n => ma.getD n 0, vout := (List.range 8).map fun n => v.getD n 0 }
    if g.counting then (List.range 8).foldl (fun g n => g.meterStep n (ma.getD n 0) (v.getD n 0)) g else g

/-- A condition of R652. -/
def condHolds (g : GaugeSt) (w : Nat) : Bool :=
  let m := bits w 5 0
  let inp := (g.gin &&& m) == (bits w 13 8 &&& m)
  let i : Int := g.curr.getD (bits w 17 15) 0
  let cur := decide ((bits w 25 18 * 100 : Nat) ≤ i)
  bit w 27 && (if bit w 26 then inp || (bit w 14 && cur) else inp && (!bit w 14 || cur))

/-- One hour counter of one evaluation (R651). -/
def hourStep (k : Nat) (hit : Bool) (g : GaugeSt) : GaugeSt :=
  let h := g.live.gh.getD k 0
  if !hit || h == 0xFFFFFFFF then g
  else
    let r := g.ghRem.getD k 0 + 1
    if r < 10 then { g with ghRem := g.ghRem.set k r }
    else
      let g := { g with ghRem := g.ghRem.set k 0, live := { g.live with gh := g.live.gh.set k (h + 1) } }
      if h + 1 = 0xFFFFFFFF then g.logged 11 k 0xFFFFFFFF else g

/-- CONDITION_EVALUATION (R651–R653): 100 ms have passed; `gin`: filtered inputs. A new set takes effect; gauge time
counts. -/
def evaluate (gin : Nat) (g : GaugeSt) : GaugeSt :=
  if g.state = 0 then g
  else
    let g := { g with gin := gin % 64 }
    let g := if g.tenth = 9 then { g with tenth := 0, live := { g.live with gt := (g.live.gt + 1) % 2 ^ 32 } } else { g with tenth := g.tenth + 1 }
    let new := g.bestSet
    let g :=
      if g.state = 3 ∨ new = g.active then g
      else { g.logged 4 (new.getD 0) (((new.bind fun i => g.sets[i]?).elim 0 fun s => s.crc.toNat)) with active := new }
    if g.counting then
      let hits := (List.range 8).map fun k => g.condHolds ((g.actSet.elim 0 fun s => (s.conds.getD k 0)) : Word).toNat
      let g := { g with count := (List.range 8).foldl (fun m k => if hits.getD k false then m + 2 ^ k else m) 0 }
      (List.range 8).foldl (fun g k => g.hourStep k (hits.getD k false)) g
    else { g with count := 0 }

/-! ### Readout port (R657) -/

/-- The snapshot by register offset (R658, R660): GAUGE_ID to GAUGE_IN, GH, GM, GI. CURR of a reverse current reads 0 and
one above the field's range its largest value (log 85). -/
def record (g : GaugeSt) : List (Nat × Nat) :=
  let over_ := (List.range 8).foldl (fun m n => if 27500 < g.curr.getD n 0 then m + 2 ^ n else m) 0
  let back := (List.range 8).foldl (fun m n => if g.curr.getD n 0 < 0 then m + 2 ^ n else m) 0
  let crc := g.actSet.elim 0 fun s => s.crc.toNat
  let cert := g.sealed
  [(0x68000, Config.gaugeRomVer.toNat + Config.gaugeRomCrc.toNat * 65536),
   (0x68004, g.state + b2n g.sealed * 4 + b2n cert * 8 + 16 + g.snaps % 65536 * 65536),
   (0x68008, g.active.getD 0 + b2n g.actSet.isSome * 4 + (g.actSet.elim 0 fun s => s.parver.toNat) * 256 + crc % 65536 * 65536),
   (0x6800C, g.live.gt), (0x68010, g.live.seq % 2 ^ 32), (0x68014, g.gin + g.count * 256 + over_ * 65536 + back * 2 ^ 24)] ++
  ((List.range 8).map fun k => (0x68040 + 4 * k, g.live.gh.getD k 0)) ++
  ((List.range 8).flatMap fun n => [(0x68080 + 8 * n, g.live.gm.getD n 0 % 2 ^ 32), (0x68084 + 8 * n, g.live.gm.getD n 0 / 2 ^ 32)]) ++
  (List.range 8).map fun n => (0x68100 + 4 * n, min 65535 (g.curr.getD n 0).toNat + unsgn 16 (g.vout.getD n 0) * 65536)

/-- Words of a log entry (R656). -/
def entryWords (e : GaugeEntry) : List Nat := [e.code + e.arg * 256, e.seq % 2 ^ 32, e.gt, e.val]
def entryBytes (e : GaugeEntry) : List Byte := ((entryWords e).map (leBytes 4)).flatten

/-- At most n entries from SEQ on, or from the oldest held (R657, R661). -/
def entriesFrom (g : GaugeSt) (seq n : Nat) : List GaugeEntry := (g.live.log.filter fun e => decide (seq ≤ e.seq)).take n

/-- The 104 bytes of GAUGE_READ and READ, by a function that gives a register's word (R661). -/
def recordBytes (w : Nat → Nat) : List Byte :=
  ([0x68000, 0x68004, 0x68008, 0x6800C, 0x68010, 0x68014].map fun o => leBytes 4 (w o)).flatten ++
  ((List.range 8).map fun k => leBytes 4 (w (0x68040 + 4 * k))).flatten ++
  ((List.range 8).map fun n => leBytes 6 (w (0x68080 + 8 * n) + w (0x68084 + 8 * n) % 65536 * 2 ^ 32)).flatten

/-- SEAL with this CRC is accepted (R654): the module is SDM-6480-P, the fuse intact, a valid set active with that CRC. -/
def sealOk (crc : Nat) (g : GaugeSt) : Bool :=
  Config.variantWord % 4 == 1 && !g.sealed && (g.actSet.elim false fun s => s.valid && s.crc.toNat == crc)

end GaugeSt

namespace Block

/-- An update of the metrology die. -/
def onMd (f : GaugeSt → GaugeSt) (b : Block) : Block := { b with gauge := f b.gauge }

/-- A response at the readout port; there is none to a request with a wrong CRC, nor while MD is stopped (R657). -/
def mdAnswer (crcOk perr : Bool) (f : Block → Block × Nat × List Byte) (b : Block) : Block :=
  if !crcOk || b.gauge.state == 0 || (b.gauge.state == 3 && !perr) then b
  else
    let (b, st, data) := f b
    b.send (.gauge st data)

/-- IDENT (R657); field widths: log 86. -/
def mdIdent (crcOk : Bool) (b : Block) : Block :=
  b.mdAnswer crcOk true fun b =>
    let s := b.gauge.actSet
    (b, St.ok, leBytes 2 Config.gaugeRomVer.toNat ++ leBytes 2 Config.gaugeRomCrc.toNat ++ leBytes 1 (s.elim 0 fun s => s.parver.toNat) ++
      leBytes 4 (s.elim 0 fun s => s.crc.toNat) ++ leBytes 4 (Config.serialWord 0) ++ leBytes 4 (Config.serialWord 1) ++ leBytes 1 (b2n b.gauge.sealed))

/-- READ (R657). -/
def mdRead (crcOk : Bool) (b : Block) : Block :=
  b.mdAnswer crcOk false fun b => (b, St.ok, GaugeSt.recordBytes fun o => (b.gauge.record.lookup o).getD 0)

/-- LOG (R657). -/
def mdLog (crcOk : Bool) (seq count : Nat) (b : Block) : Block :=
  b.mdAnswer crcOk true fun b =>
    if count = 0 ∨ 64 < count then (b, St.badDesc, []) else (b, St.ok, ((b.gauge.entriesFrom seq count).map GaugeSt.entryBytes).flatten)

/-- PARAM (R653, R657): REFUSED if sealed or all four sets are used. -/
def mdParam (crcOk : Bool) (s : ParamSet) (b : Block) : Block :=
  b.mdAnswer crcOk false fun b =>
    if b.gauge.sealed || decide (4 ≤ b.gauge.sets.length) then (b, St.refused, [])
    else (b.onMd fun g => { g with sets := g.sets ++ [s], badSet := g.badSet || !s.valid }, St.ok, [])

/-- SEAL (R654, R657). -/
def mdSeal (crcOk : Bool) (crc : Nat) (b : Block) : Block :=
  b.mdAnswer crcOk false fun b =>
    if b.gauge.sealOk crc then (b.onMd fun g => { g.logged 5 (g.active.getD 0) crc with sealed := true }, St.ok, [])
    else (b, St.refused, [])

/-! ### The window in the SOC (R649, R655, R658–R662) -/

/-- SNAPSHOT_SEND (R658): MD sends a snapshot every 100 ms. -/
def gaugeSend (b : Block) : Block :=
  if b.gauge.state = 0 then b
  else b.onMd fun g => let g := { g with snaps := (g.snaps + 1) % 65536 }; { g with sent := some g.record }

/-- SNAPSHOT_ARRIVAL (R658, R91, R50, R662): the window takes the snapshot; events come from the changes. -/
def gaugeArrive (b : Block) : Block :=
  match b.gauge.sent with
  | none => b
  | some l =>
    if !b.pg 1 || !(b.pw.inReset == .none) then b
    else
      let old := b
      let b := b.onMd fun g => { g with sent := none }
      let b := l.foldl (fun b p => { b with regs := Tab.put b.regs p.1 p.2 }) b
      let b := b.setF F.SYS_VARIANT_SEALFUSE 0 (b.getF F.GAUGE_STAT_SEALED 0)
      let b := b.setF F.PWR_DOMSTAT_PG 0 (putBits (b.getF F.PWR_DOMSTAT_PG 0) 13 13 (b2n (b.getF F.GAUGE_STAT_STATE 0 == 1)))
      let seq0 := old.getF F.GAUGE_LOGSEQ_SEQ 0
      if seq0 = 0 then b
      else
        let news := b.gauge.live.log.filter fun e => decide (seq0 < e.seq ∧ e.seq ≤ b.getF F.GAUGE_LOGSEQ_SEQ 0) && [2, 3, 8, 9].contains e.code
        let b := news.foldl (fun b e => b.raise 245 e.code) b
        let up := fun (n : Nat) => (bit (b.getF F.GAUGE_IN_OVL 0) n && !bit (old.getF F.GAUGE_IN_OVL 0) n) || (bit (b.getF F.GAUGE_IN_REV 0) n && !bit (old.getF F.GAUGE_IN_REV 0) n)
        let m := (List.range 8).foldl (fun m n => if up n then m + 2 ^ n else m) 0
        let b := if m = 0 then b else (let (x, b) := b.fresh; b.raise 246 (x.toNat % 16 + m * 256))
        if b.getF F.GAUGE_PAR_SET 0 == old.getF F.GAUGE_PAR_SET 0 && b.flag F.GAUGE_STAT_SEALED 0 == old.flag F.GAUGE_STAT_SEALED 0 &&
            b.getF F.GAUGE_PAR_PARVER 0 == old.getF F.GAUGE_PAR_PARVER 0 then b else b.raiseOpen 247

/-- SNAPSHOT_TIMEOUT (R658): no snapshot for 300 ms. -/
def gaugeTimeout (b : Block) : Block :=
  if !b.pg 1 || !(b.pw.inReset == .none) then b
  else
    let b := (b.setF F.GAUGE_STAT_VALID 0 0).setF F.GAUGE_STAT_STATE 0 0
    (b.setF F.PWR_DOMSTAT_PG 0 (putBits (b.getF F.PWR_DOMSTAT_PG 0) 13 13 0)).raise 244 1

/-- One of HS0–HS7 is ON or LIMIT while the window shows NOLINK or HOLDUP (R649). -/
def gaugeUnmetered (b : Block) : Bool :=
  b.pg 1 && (b.getF F.GAUGE_STAT_STATE 0 == 0 || b.getF F.GAUGE_STAT_STATE 0 == 2) &&
  (List.range 8).any fun n => b.chState n == Ch.on || b.chState n == Ch.limit

/-- EV244 with cause 2 where that begins. -/
def gaugeWatch (b : Block) : Block :=
  let w := b.gaugeUnmetered
  let was := b.pw.gaugeOff
  if w == was then b
  else
    let b := { b with pw := { b.pw with gaugeOff := w } }
    if w then b.raise 244 2 else b

/-- GAUGE_LOGWIN[w] (R660): the newest 128 entries, while the window holds a snapshot. -/
def logWin (b : Block) (w : Nat) : Nat :=
  if b.flag F.GAUGE_STAT_VALID 0 then
    match b.gauge.live.log.reverse[w / 4]? with
    | some e => (GaugeSt.entryWords e).getD (w % 4) 0
    | none => 0
  else 0

/-- GAUGE_READ (R661). -/
def gaugeRead (d : Desc) (b : Block) : Block × Compl :=
  if !(d.ok 0xC8 104 65536 []) then (b, .of St.badDesc)
  else if !b.flag F.GAUGE_STAT_VALID 0 then (b, .of St.hwFault)
  else (b, { status := St.ok, cw2 := 104, data := GaugeSt.recordBytes fun o => Tab.get 0 b.regs o })

/-- GAUGE_LOG (R661). -/
def gaugeLog (d : Desc) (b : Block) : Block × Compl :=
  let n := d.dw 6
  if !(d.ok 0xC9 (16 * n) 65536 [0xFFFFFFFF, 0xFF]) || n == 0 || decide (128 < n) then (b, .of St.badDesc)
  else if !b.flag F.GAUGE_STAT_VALID 0 then (b, .of St.hwFault)
  else
    let es := b.gauge.entriesFrom (d.dw 5) n
    (b, { status := St.ok, cw2 := 16 * es.length, cw3 := (es.head?.elim 0 (·.seq)) % 2 ^ 32, data := (es.map GaugeSt.entryBytes).flatten })

end Block

end Sys2Proof.Machine
end

