-- ==== Sys2Proof/Machine/Hostq.lean ====
section
/-! DEFINITION. The host link and the host queues (R381–R416): doorbells, fetching, dispatch, completions, MSI-X,
drain and faults, the mailbox and the system opcodes. -/
namespace Sys2Proof.Machine

/-- Opcodes that a chapter defines; the others complete with BAD_DESC (R395). -/
def opcodeKnown (op : Nat) : Bool :=
  decide (op ≤ 4) || decide (0x10 ≤ op ∧ op ≤ 0x13) || decide (0x20 ≤ op ∧ op ≤ 0x26) || decide (0x30 ≤ op ∧ op ≤ 0x36) ||
  decide (0x40 ≤ op ∧ op ≤ 0x44) || decide (0x48 ≤ op ∧ op ≤ 0x4A) || decide (0x50 ≤ op ∧ op ≤ 0x58) || decide (0x60 ≤ op ∧ op ≤ 0x64) ||
  decide (0x70 ≤ op ∧ op ≤ 0x78) || decide (0x80 ≤ op ∧ op ≤ 0x83) || decide (0x90 ≤ op ∧ op ≤ 0x98) || decide (0xA0 ≤ op ∧ op ≤ 0xA6) ||
  decide (0xB0 ≤ op ∧ op ≤ 0xB8) || decide (0xC0 ≤ op ∧ op ≤ 0xC2) || decide (0xC8 ≤ op ∧ op ≤ 0xC9) || decide (0xD0 ≤ op ∧ op ≤ 0xD3) ||
  decide (0xE0 ≤ op ∧ op ≤ 0xE3)

namespace Block

/-! ### Doorbells (R384, R385, R390–R393, R404) -/

/-- Queue state (R388). -/
def qState (b : Block) (q : Nat) : Nat := b.getF F.HQ_QSTAT_STATE q

/-- A doorbell of queue q is out of range. -/
def dbError (q v : Nat) (b : Block) : Block :=
  (b.setF F.HQ_QSTAT_DBERR q 1).raiseList [ev225 q false 1 v]

/-- DOORBELL_WRITE (R385, R390, R392): a write of `width` bytes. -/
def doorbell (q width v : Nat) (b : Block) : Block :=
  if !(width == 4) then b.raiseList [ev225 q false 2 v]
  else if b.sqSize q ≤ v then b.dbError q v
  else { b with hq := { b.hq with prod := Tab.put b.hq.prod q v } }

/-- COMPLETION_HEAD_WRITE (R385, R393): the head lies within what has been written and not consumed. -/
def complHead (q width v : Nat) (b : Block) : Block :=
  let c := b.cqSize q
  let old := Tab.get 0 b.hq.chead q
  let t := b.getF F.HQ_QIDX_CQTAIL q
  if !(width == 4) then b.raiseList [ev225 q false 2 v]
  else if decide (c ≤ v) || decide ((t + c - old % c) % c < (v + c - old % c) % c) then b.dbError q v
  else { b with hq := { b.hq with chead := Tab.put b.hq.chead q v } }

/-- EVENT_QUEUE_HEAD_WRITE (R385, R404). -/
def eventHead (e width v : Nat) (b : Block) : Block :=
  if !(width == 4) then b.raiseList [ev225 e true 2 v]
  else if b.eqSize e ≤ v then b.raiseList [ev225 e true 1 v]
  else b.setF F.HQ_EQIDX_HEAD e v

/-- The dword of window W2 at offset o: doorbells as last accepted, the MSI-X table and its pending bits; 0 elsewhere
(R384, R385). -/
def w2Word (b : Block) (o : Nat) : Nat :=
  if o < 0x200 then (if o / 4 % 2 = 0 then Tab.get 0 b.hq.prod (o / 8) else Tab.get 0 b.hq.chead (o / 8))
  else if o < 0x220 then b.getF F.HQ_EQIDX_HEAD ((o - 0x200) / 4)
  else if 0x8000 ≤ o ∧ o < 0x8400 then (b.msixWord ((o - 0x8000) / 4)).toNat
  else if 0x9000 ≤ o ∧ o < 0x9008 then
    (List.range 32).foldl (fun m i => m + b2n (Tab.get false b.hq.msixPend ((o - 0x9000) / 4 * 32 + i)) * 2 ^ i) 0
  else 0

/-! ### Fetch (R390–R392) -/

/-- Flights of a queue whose descriptor has not arrived. -/
def fetching (b : Block) (q : Nat) : Nat := (b.hq.flights.filter fun f => f.q == q && f.stage == .fetched && !f.drop).length

/-- Descriptors that queue q may fetch now (R391). -/
def fetchable (b : Block) (q : Nat) : Nat :=
  let s := b.sqSize q
  let c := b.cqSize q
  let h := b.getF F.HQ_QIDX_SQHEAD q + b.fetching q
  let held := (Tab.get 0 b.hq.prod q + s - h % s) % s
  let used := (b.getF F.HQ_QIDX_CQTAIL q + c - Tab.get 0 b.hq.chead q % c) % c + b.inFlight q
  if b.qState q = 1 then min held (c - 1 - used) else 0

/-- The queue whose turn it is (R392). -/
def nextQueue (b : Block) : Option Nat :=
  ((List.range 64).map fun i => (b.hq.turn + i) % 64).find? fun q => decide (0 < b.fetchable q)

/-- The module serves a host: it is the primary or the standby head, or has no node ID (R382). -/
def hostNode (b : Block) : Bool := !b.flag F.SYS_NODE_VALID 0 || b.flag F.SYS_NODE_HEAD 0 || b.flag F.SYS_NODE_STANDBY 0

/-- Read requests for n slots from slot h on of a ring of s slots: contiguous runs of at most `most`, as first slot and
number (R390, R392). -/
def slotRuns (most s : Nat) : Nat → Nat → Nat → List (Nat × Nat)
  | 0, _, _ => []
  | _, _, 0 => []
  | fuel + 1, h, n =>
    let k := min (min n most) (s - h)
    (h, k) :: slotRuns most s fuel ((h + k) % s) (n - k)

/-- Read requests for descriptors without their data (R381). -/
def readsOut (b : Block) : Nat := (b.hq.flights.filter fun f => f.stage == .fetched && f.tail).length

/-- W0 writes that came before have taken effect: none waits in the sluice, and none is without its answer (R386). -/
def w0Done (b : Block) : Bool :=
  !(b.chn.waiting.any fun a => a.data.isSome) && !((b.chn.reqs ++ b.chn.asks).any fun r => r.kind == .w0Write || r.kind == .posted)

/-- DESCRIPTOR_FETCH (R382, R383, R386, R387, R392): one turn of one queue, as read requests for contiguous slots; on an
ordinary node the queues are idle. A request restarts the PIPE clock where it is gated (R465). -/
def fetch (b : Block) : Block :=
  if !b.linkOpen || !b.hostNode || !b.w0Done then b
  else match b.nextQueue with
    | none => b
    | some q =>
      let n := min (b.fetchable q) (b.getF F.HQ_QCFG_WEIGHT q + 1)
      let s := b.sqSize q
      let h := (b.getF F.HQ_QIDX_SQHEAD q + b.fetching q) % s
      let runs := (slotRuns (b.hq.pci.request / 64) s n h n).take (b.hq.pci.reads - b.readsOut)
      if runs.isEmpty then b
      else
        let blank (last : Bool) : Flight :=
          { q := q, desc := { src := .queue (Fin.ofNat 64 q), dws := [], payload := [] }, stage := .fetched, tail := last }
        let new := runs.flatMap fun r => List.replicate (r.2 - 1) (blank false) ++ [blank true]
        let b := runs.foldl (fun b r => b.send (.hostRead (b.ringBase R.HQ_SQBASE R.HQ_SQBASEH q + 64 * r.1) (64 * r.2))) (b.islandRestart 3)
        let b := { b with hq := { b.hq with turn := (q + 1) % 64 } }
        b.setFlights (b.hq.flights ++ new) q

/-! ### Dispatch (R394, R398, R400, R403, R437) -/

/-- Node n is reachable now (R400, R422). -/
def reachable (b : Block) (n : Nat) : Bool :=
  n == b.nodeId || ((b.flag F.SYS_NODE_HEAD 0 || b.flag F.SYS_NODE_STANDBY 0) && bit (b.getF F.CHN_REACH_REACH (n / 32)) (n % 32))

/-- Nodes of a descriptor; none where one of them cannot be served (R400). -/
def nodesOf (b : Block) (d : Desc) : Option (List Nat) :=
  if !b.flag F.SYS_NODE_VALID 0 then (if d.node = 0 && !d.bcast then some [b.nodeId] else none)
  else if d.bcast then
    let l := (List.range 32).filterMap fun j => if b.reachable (d.node / 32 * 32 + j) then some (d.node / 32 * 32 + j) else none
    if l.isEmpty then none else some l
  else if b.reachable d.node then some [d.node] else none

/-- Send a flight to its nodes: the local part is with its unit, others travel on the chain. The sluice of the receiving
module executes register accesses and locked sequences on the node itself (R426, R440, R452). A UPD_ACTIVATE waits for the
node that the head has recorded (R618). -/
def launch (f : Flight) (b : Block) : Block × Flight :=
  let d := f.desc
  let away (l : List Nat) : List Nat := l.filter fun n => !(n == b.nodeId)
  match b.nodesOf d with
  | none => (b, { f with stage := .done (.of St.nodeUnreach) })
  | some l =>
    if d.opcode = 0xB5 ∧ b.isHead ∧ b.flag F.UPD_CHAIN_VALID 0 ∧ ¬ b.getF F.UPD_CHAIN_NODE 0 = d.node then
      (b, { f with stage := .done (.of St.busy) })
    else if 0xD0 ≤ d.opcode ∧ d.opcode ≤ 0xD2 ∧ !d.bcast then (b, { f with stage := .dispatched, wait := [b.nodeId] })
    else ((away l).foldl (fun b n => (whenB (d.opcode == 0xD1) (dropBufs n) b).sendFrames (b.descFrames n f.q d.dws d.payload)) b,
      { f with stage := .dispatched, wait := l })

/-- Rooms that the answers to a descriptor need (R428). -/
def roomsFor (b : Block) (d : Desc) : Nat :=
  match b.nodesOf d with
  | none => 0
  | some l => (l.filter fun n => !(n == b.nodeId)).length

/-- The flights of queue q in order: each arrived one is dispatched unless one before it still waits, or FENCE and any
one before it is left (R394, R403), or the head has no room for its answers (R428); a queue in ERROR dispatches none
(R413). `any`: a flight stands before; `stuck`: one before has not been dispatched; `room`: rooms left. -/
def dispatchList (q : Nat) : Bool → Bool → Nat → List Flight → Block → Block × List Flight
  | _, _, _, [], b => (b, [])
  | any, stuck, room, f :: fs, b =>
    if !(f.q == q) || f.drop then
      let (b, fs) := dispatchList q any stuck room fs b
      (b, f :: fs)
    else if f.stage == .arrived && !stuck && !(f.desc.fence && any) && !(b.qState q == 3) && !b.engineHeld f.desc &&
        decide (b.roomsFor f.desc ≤ room) then
      let n := b.roomsFor f.desc
      let (b, f) := b.launch f
      let (b, fs) := dispatchList q true false (room - n) fs b
      (b, f :: fs)
    else
      let (b, fs) := dispatchList q true (stuck || f.stage == .arrived || f.stage == .fetched) room fs b
      (b, f :: fs)

/-- Dispatch what queue q may dispatch now. -/
def dispatchQ (q : Nat) (b : Block) : Block :=
  let (b, fs) := dispatchList q false false (answerRoom - b.roomUsed) b.hq.flights b
  b.setFlights fs q

/-- FENCED_DISPATCH (R394). -/
def fencedDispatch (q : Nat) (b : Block) : Block := b.dispatchQ q

/-- Replace the oldest flight of queue q that has not arrived. -/
def arrive (q : Nat) (f : Flight) (b : Block) : Block :=
  let p (x : Flight) : Bool := x.q == q && x.stage == .fetched && !x.drop
  if b.hq.flights.any p then
    let b := b.setF F.HQ_QIDX_SQHEAD q ((b.getF F.HQ_QIDX_SQHEAD q + 1) % b.sqSize q)
    if b.qState q = 3 then b.setFlights (b.hq.flights.eraseP p) q
    else b.setFlights (updFlight p (fun _ => f) b.hq.flights) q
  else b

/-! ### Completion (R401–R403, R407) -/

/-- The message of a queue, and its count starts again (R407). -/
def queueMessage (q : Nat) (b : Block) : Block :=
  ({ b with hq := { b.hq with coal := Tab.put b.hq.coal q 0, timer := Tab.put b.hq.timer q false } } : Block).msix (b.getF F.HQ_QCFG_VEC q)

/-- One completion counts (R407). -/
def coalesce (q : Nat) (noirq : Bool) (b : Block) : Block :=
  if noirq then b
  else
    let n := Tab.get 0 b.hq.coal q + 1
    let b := { b with hq := { b.hq with coal := Tab.put b.hq.coal q n } }
    if max 1 (b.getF F.HQ_QCOAL_CNT q) ≤ n then b.queueMessage q
    else if b.getF F.HQ_QCOAL_TIME q = 0 then b
    else { b with hq := { b.hq with timer := Tab.put b.hq.timer q true } }

/-- Flights of a queue whose completion may be written now: no earlier one goes to the same unit on the same node (R403). -/
def writable (q : Nat) : List Desc → List Flight → List Flight
  | _, [] => []
  | seen, f :: fs =>
    if !(f.q == q) || f.drop then writable q seen fs
    else
      let rest := writable q (f.desc :: seen) fs
      if (flightDone f).isSome && !(seen.any (sameUnit f.desc)) then f :: rest else rest

/-- COMPLETION_WRITE (R402): the i-th completion of queue q that may be written, after its payload. -/
def complWrite (q i : Nat) (b : Block) : Block :=
  match (writable q [] b.hq.flights)[i]? with
  | none => b
  | some f =>
    match flightDone f with
    | none => b
    | some c =>
      let d := f.desc
      let b := if c.data.isEmpty then b else (b.islandRestart 3).hostWrites (sentTo f) c.data
      let b := b.setFlights (b.hq.flights.erase f) q
      if b.qState q = 3 || b.qState q = 0 then b
      else
        let t := b.getF F.HQ_QIDX_CQTAIL q
        let ph := Tab.get true b.hq.cphase q
        let w0 := d.tag + c.status * 65536 + b2n ph * 2 ^ 31
        let w1 := b.getF F.HQ_QIDX_SQHEAD q + q * 65536
        let b := (b.islandRestart 3).send (.hostWrite (b.ringBase R.HQ_CQBASE R.HQ_CQBASEH q + 16 * t) (leBytes 4 w0 ++ leBytes 4 w1 ++ leBytes 4 c.cw2 ++ leBytes 4 c.cw3))
        let t' := (t + 1) % b.cqSize q
        let b := b.setF F.HQ_QIDX_CQTAIL q t'
        let b := { b with hq := { b.hq with cphase := if t' = 0 then Tab.put b.hq.cphase q (!ph) else b.hq.cphase } }
        b.coalesce q d.noirq

/-- MSIX_COALESCE_TIMEOUT (R407). -/
def coalTimeout (q : Nat) (b : Block) : Block := if Tab.get false b.hq.timer q then b.queueMessage q else b

/-- Write dword i of the MSI-X table; a message that waits for the unmasking is sent (R384, R407). -/
def msixWrite (i : Nat) (w : Word) (b : Block) : Block :=
  let v := i / 4
  let b := { b with hq := { b.hq with msix := Tab.put b.hq.msix i w } }
  if i % 4 = 3 && !b.msixMasked v && Tab.get false b.hq.msixPend v && b.msixOpen then
    ({ b with hq := { b.hq with msixPend := Tab.put b.hq.msixPend v false } } : Block).msix v
  else b

/-- MSIX_VECTOR_UNMASK (R407), with the address and data that the vector holds. -/
def msixUnmask (v addr : Nat) (data : Word) (b : Block) : Block :=
  (((b.msixWrite (4 * v) (BitVec.ofNat 32 addr)).msixWrite (4 * v + 1) (BitVec.ofNat 32 (addr / 2 ^ 32))).msixWrite (4 * v + 2) data).msixWrite (4 * v + 3) 0

/-! ### Enable, drain and indices (R388, R389, R404, R406, R411) -/

/-- A refused enable (R389, R415). -/
def enableRefused (f : RegField) (n : Nat) (isEq : Bool) (idx : Nat) (b : Block) : Block :=
  (b.setF f n 1).raiseList [ev225 n isEq 8 idx]

/-- Ring sizes of 2^6 to 2^16. -/
def logOk (l : Nat) : Bool := decide (6 ≤ l) && decide (l ≤ 16)

/-- QUEUE_ENABLE (R388, R389). -/
def queueEnable (q : Nat) (b : Block) : Block :=
  if b.qState q = 1 then b
  else if b.qState q = 0 && logOk (b.getF F.HQ_QCFG_SQLOG q) && logOk (b.getF F.HQ_QCFG_CQLOG q) then
    (b.setF F.HQ_QCFG_EN q 1).setF F.HQ_QSTAT_STATE q 1
  else b.enableRefused F.HQ_QSTAT_CFGERR q false (b.getF F.HQ_QIDX_SQHEAD q)

/-- QUEUE_DRAIN (R411): what has arrived and is not dispatched completes with DISABLED; in ERROR it is discarded. -/
def queueDrain (q : Nat) (b : Block) : Block :=
  let st := b.qState q
  let b := b.setF F.HQ_QCFG_EN q 0
  let mine (f : Flight) : Bool := f.q == q && f.stage == .arrived && !f.drop
  if st = 1 then
    (b.setF F.HQ_QSTAT_STATE q 2).setFlights (b.hq.flights.map fun f => if mine f then { f with stage := .done (.of St.disabled) } else f) q
  else if st = 3 then b.setFlights (b.hq.flights.filter fun f => !mine f) q
  else b

/-- QUEUE_DRAIN_COMPLETE (R388, R411). -/
def queueDrained (q : Nat) (b : Block) : Block :=
  let st := b.qState q
  if (st = 2 ∨ (st = 3 ∧ b.getF F.HQ_QCFG_EN q = 0)) ∧ b.inFlight q = 0 then b.setF F.HQ_QSTAT_STATE q 0 else b

/-- A guarded field of a queue is written while the queue is not DISABLED (R389). -/
def queueCfgErr (q : Nat) (b : Block) : Block := b.setF F.HQ_QSTAT_CFGERR q 1

/-- QUEUE_INDEX_WRITE (R389): PHASE of the next completion becomes 1. -/
def queueIndex (q w : Nat) (b : Block) : Block :=
  if b.qState q = 0 then
    let b := (b.setF F.HQ_QIDX_SQHEAD q (bits w 15 0)).setF F.HQ_QIDX_CQTAIL q (bits w 31 16)
    { b with hq := { b.hq with cphase := Tab.put b.hq.cphase q true } }
  else b.queueCfgErr q

/-- Event queue state. -/
def eqState (b : Block) (e : Nat) : Nat := b.getF F.HQ_EQSTAT_STATE e

/-- EVENT_QUEUE_ENABLE (R404, R406): out of ERROR only after EN = 0. -/
def eqEnable (e : Nat) (b : Block) : Block :=
  if b.eqState e = 1 then b
  else if b.eqState e = 0 && logOk (b.getF F.HQ_EQCFG_LOG e) then (b.setF F.HQ_EQCFG_EN e 1).setF F.HQ_EQSTAT_STATE e 1
  else b.enableRefused F.HQ_EQSTAT_CFGERR e true (b.getF F.HQ_EQIDX_TAIL e)

/-- EVENT_QUEUE_DISABLE (R406). -/
def eqDisable (e : Nat) (b : Block) : Block := (b.setF F.HQ_EQCFG_EN e 0).setF F.HQ_EQSTAT_STATE e 0

/-- EVENT_QUEUE_INDEX_WRITE (R416). -/
def eqIndex (e w : Nat) (b : Block) : Block :=
  if b.eqState e = 0 then
    let b := b.setF F.HQ_EQIDX_TAIL e (bits w 15 0)
    { b with hq := { b.hq with ephase := Tab.put b.hq.ephase e true } }
  else b.setF F.HQ_EQSTAT_CFGERR e 1

/-! ### Faults of host memory (R413) -/

/-- The queue goes to ERROR. -/
def queueError (q : Nat) (b : Block) : Block := b.setF F.HQ_QSTAT_STATE q 3

/-! ### System opcodes and the mailbox (R408, R409) -/

/-- NOP. -/
def sysNop (d : Desc) (b : Block) : Block × Compl := if d.ok 0x00 0 0 [] then (b, .of St.ok) else (b, .of St.badDesc)

/-- SYS_INFO. -/
def sysInfo (d : Desc) (b : Block) : Block × Compl :=
  if !d.ok 0x01 64 65536 [] then (b, .of St.badDesc)
  else
    let w (r : Reg) (n : Nat) : List Byte := leBytes 4 (b.rd r n)
    let data := w R.SYS_ID 0 ++ w R.SYS_VARIANT 0 ++ w R.SYS_DIESTEP0 0 ++ w R.SYS_DIESTEP1 0 ++ w R.SYS_SERIAL 0 ++ w R.SYS_SERIAL 1 ++
      w R.SYS_NODE 0 ++ w R.SYS_LOCKSTAT 0 ++ w R.PWR_STATE 0 ++ w R.PWR_RSTCAUSE 0 ++ w R.HQ_LINK 0 ++ List.replicate 20 0
    (b, { status := St.ok, cw2 := 64, data := data })

/-- TIME_READ: the counter is captured as a read of PWR_RTC[0] captures it. -/
def timeRead (d : Desc) (b : Block) : Block × Compl :=
  if !d.ok 0x02 16 65536 [] then (b, .of St.badDesc)
  else
    let (x, b) := b.fresh
    let b := b.rtcRead (x.getLsbD 0)
    (b, { status := St.ok, cw2 := 16, data := leBytes 8 b.pw.tbase ++ leBytes 4 (b.rd R.PWR_RTC0 0) ++ leBytes 4 (b.rd R.PWR_RTC1 0) })

/-- Address of mailbox slot s. -/
def mailSlot (b : Block) (s : Nat) : Nat := b.getF F.HQ_MBXBASE_ADDR 0 * 2 ^ 17 + 8192 * s

/-- The supervisor's mailbox interrupt (R409, R490). -/
def mailInterrupt (b : Block) : Block :=
  let c := Tab.get {} b.core 0
  { b with core := Tab.put b.core 0 { c with mbx := true } }

/-- SUP_MSG (R409). -/
def supMsg (d : Desc) (b : Block) : Block :=
  let m := 0xFFFFFFFF
  b.inOrder false d fun b =>
  if !d.ok 0x03 0 4096 (List.replicate 11 m) then b.bad d
  else
    let b := b.beginDesc d
    let pend := b.getF F.HQ_MBXSTAT_PEND 0
    match (List.range 16).find? fun s => !bit pend s with
    | none => b.complete d (.of St.busy)
    | some s =>
      if b.getF F.HQ_MBXBASE_ADDR 0 = 0 then b.complete d (.of St.busy)
      else
        let a := b.mailSlot s
        let b := (b.writeMem a (d.dws.flatMap fun w => leBytes 4 w.toNat)).writeMem (a + 128) (d.payload.take d.len)
        let b := b.setF F.HQ_MBXSTAT_PEND 0 (pend + 2 ^ s)
        ({ b with hq := { b.hq with mbox := Tab.put b.hq.mbox s d } } : Block).mailInterrupt

/-- MAILBOX_DONE (R409): the supervisor writes HQ_MBXDONE. -/
def mailDone (w : Nat) (b : Block) : Block :=
  let s := bits w 3 0
  let st := bits w 15 8
  let rlen := min 4096 (bits w 28 16)
  let pend := b.getF F.HQ_MBXSTAT_PEND 0
  match (if bit pend s then b.hq.mbox.find? fun e => e.1 == s else none) with
  | none => b
  | some (_, d) =>
    let a := b.mailSlot s
    let b := (b.eccRead a (128 + min rlen d.len)).1
    let reply := b.readMem (a + 128) (min rlen d.len)
    let cw (k : Nat) : Nat := ofLe (b.readMem (a + 64 + 4 * k) 4)
    let b := b.setF F.HQ_MBXSTAT_PEND 0 (putBits pend s s 0)
    let b := { b with hq := { b.hq with mbox := Tab.drop b.hq.mbox fun k => k == s } }
    b.complete d { status := if st ≤ 11 then st else St.hwFault, cw2 := cw 0, cw3 := cw 1, data := reply }

/-- A single-core reset of the supervisor pair completes every message with ABORTED (R409). -/
def mailAbort (b : Block) : Block :=
  let l := b.hq.mbox
  let b := ({ b with hq := { b.hq with mbox := [] } } : Block).setF F.HQ_MBXSTAT_PEND 0 0
  l.foldl (fun b e => b.complete e.2 (.of St.aborted)) b

/-- EQ_MARK (R408). -/
def eqMark (d : Desc) (b : Block) : Block := b.inOrder true d fun b =>
  if !d.ok 0x04 0 0 [7, 0xFFFFFFFF] then b.bad d
  else
    let (b, os) := b.eventArises (bits (d.dw 5) 2 0) 2 0 [d.dw 6, 0, 0, 0]
    (b.raiseList os).complete d (.of St.ok)

/-! ### Link and resets (R382, R383, R412, R414, R415, R680) -/

/-- A host queue of this module owns the open update session. -/
def hostSession (b : Block) : Bool := b.boot.sess.elim false fun s => match s.owner with
  | some (.queue _) => true
  | _ => false

/-- What a function-level reset does to the host queues (R412), and to an update session that one of them owns (R623). A
message in the mailbox leaves nothing behind: its slot is free. -/
def hqReset (b : Block) : Block :=
  let b := if b.hostSession then b.sessClose true else b
  let mail (f : Flight) : Bool := b.hq.mbox.any fun e => e.2 == f.desc
  let fs := (b.hq.flights.filter fun f => f.stage == .dispatched && !mail f).map fun f => { f with drop := true }
  let h : HqSt := { flights := fs, msixOn := b.hq.msixOn }
  (({ b with hq := h } : Block).resetRegs 0x38000 0x38C00).setF F.HQ_MBXSTAT_PEND 0 0

/-- EV224 with a cause (R415). -/
def ev224 (cause : Nat) (b : Block) : Block := b.raise 224 cause

/-- What a PCIe function-level reset does (R412). -/
def flrRun (b : Block) : Block := ((b.hqReset.setF F.HQ_LINK_D3 0 0).wrapF F.HQ_LINK_FLRCNT 0 1).ev224 3

/-- PCIE_FUNCTION_LEVEL_RESET (R412). A reset of wider scope in progress contains it, and it is discarded (R10, R11). -/
def flr (b : Block) : Block := if b.pw.inReset == .none then b.flrRun else b

/-- LINK_DOWN, and PERST_N_LOW, which acts as one (R412, R680). During a reset that contains it only the link goes down;
without PD8 there is no link (R45, R67). -/
def linkDown (b : Block) : Block :=
  if !b.pg 8 then b else
  if !(b.pw.inReset == .none) then b.wr R.HQ_LINK 0 (putBits (b.rd R.HQ_LINK 0) 5 0 0) else
  ((((b.hqReset.wr R.HQ_LINK 0 (putBits (b.rd R.HQ_LINK 0) 5 0 0)).setF F.HQ_LINK_DOWNX 0 1).islandRun 3).ev224 1)

/-- LINK_TRAINED (R83, R382, R415): only heads, and modules without a node ID, train their link. -/
def linkTrained (speed width : Nat) (b : Block) : Block :=
  let no := decide (speed = 0 ∨ b.hq.pci.gen < speed ∨ width = 0 ∨ b.hq.pci.lanes < width)
  if !b.pg 8 || !b.hostNode || b.flag F.HQ_LINK_UP 0 || no then b
  else
    let b := ((b.setF F.HQ_LINK_UP 0 1).setF F.HQ_LINK_SPEED 0 speed).setF F.HQ_LINK_WIDTH 0 width
    if speed < b.hq.pci.gen ∨ width < b.hq.pci.lanes then (b.setF F.HQ_LINK_DEGR 0 1).ev224 2 else b

/-- D3_ENTRY and D3_EXIT (R383, R465). A return without No_Soft_Reset is a function-level reset. -/
def d3Entry (b : Block) : Block := if b.flag F.HQ_LINK_UP 0 then (b.setF F.HQ_LINK_D3 0 1).islandGate 3 else b
def d3Exit (noSoftReset : Bool) (b : Block) : Block :=
  if !b.flag F.HQ_LINK_D3 0 then b
  else
    let b := (b.setF F.HQ_LINK_D3 0 0).islandRestart 3
    if noSoftReset then b else b.flr

/-- AER_UNCORRECTABLE_ERROR (R415). -/
def aerError (b : Block) : Block := b.ev224 4

/-- LINK_L1_ENTRY (R465): the PIPE island's clock is gated. -/
def l1Entry (b : Block) : Block := if b.flag F.HQ_LINK_UP 0 then b.islandGate 3 else b

/-- PD8 loses power, or a SoC reset: the queues and the link (R414). -/
def hqDown (b : Block) : Block := ({ b with hq := {} } : Block).resetRegs 0x38000 0x39000

/-- Dispatch in every queue. -/
def dispatchAll (b : Block) : Block := forN 64 (fun q b => b.dispatchQ q) b

end Block

end Sys2Proof.Machine
end

