-- ==== Sys2Proof/Machine/Power.lean ====
section
/-! DEFINITION. Power domains (R67–R70, R709), cold boot (R604–R610), the resets of R9 as they are carried out, Still and
wake (R71–R82), and the supervisor's image hash (R608). -/
namespace Sys2Proof.Machine

/-- Cores of a domain (R35). -/
def domainCores (d : Nat) : List Nat :=
  if d = 2 then [0] else if d = 3 then [2, 3, 4, 5] else if d = 4 then [6, 7, 8, 9] else if d = 5 then [12] else if d = 6 then [13]
  else if d = 9 then [14] else if d = 11 then [10, 11] else []

/-- Component that runs in a domain (R598, R35); 0 = none. -/
def domainComp (d : Nat) : Nat :=
  if d = 3 then 2 else if d = 4 then 3 else if d = 11 then 4 else if d = 5 then 5 else if d = 6 then 6 else if d = 9 then 7 else 0

namespace Block

/-! ### Memory at power good and component loading (R709, R606) -/

/-- Every byte of an address range is 0 with valid check bits (R709). -/
def clearRange (lo hi : Nat) (b : Block) : Block :=
  { b with mem := Mem.clear b.mem lo hi, badEcc := Tab.drop b.badEcc fun a => decide (lo ≤ a ∧ a < hi) }

/-- Core-local SRAM of HC n is cleared. -/
def clearLocal (n : Nat) (b : Block) : Block := b.clearRange (localBase n) (localBase n + 0x20000)

/-- A component has no valid copy: CFAIL, its slot holds zeros, its cores stay HELD (R605). -/
def compFail (c : Nat) (b : Block) : Block :=
  let b := b.setF F.BOOT_STAT_CFAIL 0 (putBits (b.getF F.BOOT_STAT_CFAIL 0) (c - 1) (c - 1) 1)
  let bt := b.boot
  ({ b with boot := { bt with heads := Tab.drop bt.heads fun k => k == c, slots := bt.slots.set c (List.replicate 48 0) } } : Block).bootShow

/-- The segments of an image are applied with their zero fill (R601, R606). -/
def applySegs (h body : List Byte) (b : Block) : Block :=
  (hSegs h).foldl (fun b s => b.writeMem s.2.1 ((body.drop s.1).take s.2.2.1 ++ List.replicate s.2.2.2 0)) b

/-- Component c is loaded, and its engines start at ENTRY; the application cores stay HELD (R475, R606). -/
def loadComp (c : Nat) (b : Block) : Block :=
  let h := Tab.get [] b.boot.heads c
  if h.isEmpty then b
  else
    let cp := { b.copyOf (b2n (bit b.boot.banks (c - 1))) c with header := h }
    if !bodyOk cp then b.compFail c
    else
      let b := b.applySegs h cp.body
      if c = 2 then b else (coresOf c).foldl (fun b k => b.startCore k 2 (hEntry h)) b

/-! ### Domains (R67–R70) -/

/-- Power good of domain d. -/
def setPg (d : Nat) (on : Bool) (b : Block) : Block :=
  b.setF F.PWR_DOMSTAT_PG 0 (putBits (b.getF F.PWR_DOMSTAT_PG 0) d d (b2n on))

/-- Switch bit of domain d in PWR_DOMCTL. -/
def domBit (b : Block) (d : Nat) : Bool := bit (b.rd R.PWR_DOMCTL 0) d
def setDom (d : Nat) (on : Bool) (b : Block) : Block := b.wr R.PWR_DOMCTL 0 (putBits (b.rd R.PWR_DOMCTL 0) d d (b2n on))

/-- The chain ports train and the module is ALONE (R418, R421, R449). -/
def chnUp (b : Block) : Block :=
  if b.flag F.CHN_CFG_EN 0 then ((b.setF F.CHN_STAT_STATE 0 1).setF F.CHN_PORT_LSTATE 0 1).setF F.CHN_PORT_LSTATE 1 1 else b

/-- Chain and pair logic lose their power (R446, R643). -/
def chnDown (b : Block) : Block := ({ b with chn := {} } : Block).resetRegs 0x39000 0x3A000
def pairDown (b : Block) : Block := ({ b with pair := {} } : Block).resetRegs 0x60000 0x61000

/-- Domain d reaches power good (R68, R709): memories, units, and the component of its cores. `rkBad`: root keys whose
parity fails at a power good of PD10 (R540). -/
def domainUp (d rkBad : Nat) (b : Block) : Block :=
  let b := (b.setPg d true).islandsUp d
  let b := if d = 1 then (b.clearRange 0x10000000 0x10400000).clearRange 0x28000000 0x28100000
    else if d = 5 then b.clearRange 0x18000000 0x18800000
    else if d = 6 then b.netUp false else if d = 7 then b.netUp true
    else if d = 8 then b.chnUp
    else if d = 9 then b.accSync
    else if d = 12 then forN 64 (fun n b => b.updDi n fun r => { r with first := true }) b
    else if d = 10 then (b.ciphPowerGood rkBad).accSync
    else b
  let b := (domainCores d).foldl (fun b c => (b.clearLocal c).startCore c 1 0) b
  let b := if d = 2 then b.clearLocal 1 else b
  if b.boot.ran && (b.getF F.BOOT_STAT_PHASE 0 == 2 || b.boot.stmtDue) && !(domainComp d == 0) then
    let b := b.loadComp (domainComp d)
    (if d = 6 then b.excDrain else b).dispatchAll
  else b

/-- A temperature register whose sensor is not being updated reads VALID = 0 and keeps TEMP (R98). -/
def tempSync (b : Block) : Block := forN 9 (fun n b => if b.pg (sensorDomain n) then b else b.setF F.PWR_TEMP_VALID n 0) b

/-- A core loses its power: its registers are gone, and what it had not acknowledged is ABORTED (R512). -/
def coreOff (c : Nat) (b : Block) : Block :=
  let b := (if 6 ≤ c ∧ c ≤ 12 then b.dieAbort c else b).engineGone c
  ({ b with core := Tab.drop b.core fun k => k == c, pw := { b.pw with coreReset := b.pw.coreReset.erase c } } : Block).setCore c 0

/-- Commands that die x has not acknowledged. -/
def dieWaits (b : Block) (x : Nat) : Nat := (b.dieq.map fun c => (c.parts.filter fun a => actDie a == x).length).sum

/-- Records that wait at crossing x: commands to a die or over a pixel link, frames to be sent on a bus, and frames that
wait at a chain port (R461). -/
def crossWaits (x : Nat) (b : Block) : Nat :=
  let sent (ch : Nat) : Nat := let c := b.nch ch; c.fifo.length + c.prio.length + c.gw.length
  if x < 7 then b.dieWaits x else if x < 8 then 0 else if x < 24 then (Tab.get {} b.px.port (x - 8)).cmds.length
  else if x < 36 then sent (x - 24) else if x < 44 then sent (x - 20) else if x < 49 then sent (x - 20)
  else if x = 50 ∨ x = 51 then (Tab.get {} b.chn.links (2 * (x - 50))).queue.length + (Tab.get {} b.chn.links (2 * (x - 50) + 1)).queue.length
  else 0

/-- Domain d loses its power: the contents of its blocks are discarded (R77), the entries of its crossings with DROP
(R468). What the LMP and MTX blocks hold is in the power dies and is read back (R237). Only the SOC part of PD4 is
switched: the outputs and the weir of the power dies stay (R67, R70). -/
def domainDown (d : Nat) (b : Block) : Block :=
  let was := (List.range 55).map fun x => if crossDom x = d then b.crossWaits x else 0
  let b := (domainCores d).foldl (fun b c => b.coreOff c) (b.xPurge d)
  let b :=
    if d = 5 then
      let b := b.px.held.foldl (fun b d => b.complete d (.of St.aborted)) b
      let b := forN 16 (fun n b => b.pxFsDone n St.aborted) b
      ({ b with lmp := { b.lmp with fade := [] }, px := {} } : Block).resetRegs 0x22000 0x24000
    else if d = 6 then b.netDown false false
    else if d = 7 then b.netDown true false
    else if d = 8 then b.hqDown.chnDown.pairDown
    else if d = 9 then b.accReset St.aborted
    else if d = 10 then b.keyLost.ciphPowerDown.attestLost.accSync
    else if d = 11 then (({ b with vlv := {} } : Block).resetRegs 0x19000 0x1C000).syncPower
    else if d = 12 then ({ b with dio := {} } : Block).resetRegs 0x28000 0x29000
    else b
  let b := forN 55 (fun x b => b.xDrop x (was.getD x 0 - b.crossWaits x)) b
  ((b.islandsDown d).setPg d false).tempSync

/-- A function of domain d is enabled (R69, R70, R272). -/
def domainBusy (b : Block) (d : Nat) : Bool :=
  let any (n : Nat) (p : Nat → Bool) : Bool := (List.range n).any p
  if d = 3 then any 4 fun i => b.coreState (2 + i) == 2 || b.coreState (2 + i) == 3
  else if d = 4 then b.underWeir || any nChan fun p => b.cget C.en p == 1
  else if d = 5 then any 4 (fun k => b.flag F.MTX_CFG_EN k) || any 16 (fun n => b.flag F.PXL_CFG_EN n) || any 16 (fun g => b.flag F.LMP_GRP_EN g) ||
    any 96 fun n => b.flag F.HSW_CFG_LAMP n && b.flag F.HSW_CFG_EN n
  else if d = 6 then any 24 fun ch => (isCan ch || isLin ch) && b.nOn ch
  else if d = 7 then any 5 fun p => b.nOn (24 + p)
  else if d = 8 then b.flag F.CHN_CFG_EN 0 || b.flag F.PAIR_CFG_EN 0 || (any 64 fun q => !(b.qState q == 0)) || any 8 fun e => !(b.eqState e == 0)
  else if d = 9 then b.flag F.ACS_CFG_EN 0
  else if d = 10 then b.flag F.CIPH_CFG_EN 0
  else if d = 11 then (any 32 fun n => b.flag F.VLV_CFG_EN n) || any 2 fun j => b.flag F.BST_CFG_EN j
  else if d = 12 then (any 64 fun n => b.flag F.DIO_DICFG_EN n) || (any 16 fun m => b.flag F.DIO_DOCFG_EN m) || any 4 fun k => b.flag F.DIO_SVCFG_EN k
  else false

/-- DOMAIN_ON (R68): the domain is being powered until its power good or its timeout. -/
def domainOn (d : Nat) (b : Block) : Block := b.setDom d true

/-- DOMAIN_POWER_GOOD (R68). -/
def domainGood (d rkBad : Nat) (b : Block) : Block :=
  if b.domBit d && !b.pg d && b.pg 1 then b.domainUp d rkBad else b

/-- DOMAIN_PG_TIMEOUT (R68). -/
def domainTimeout (d : Nat) (b : Block) : Block :=
  if b.domBit d && !b.pg d then ((b.setDom d false).setF F.PWR_DOMSTAT_PGFAIL 0 1).raiseOpen 4 else b

/-- DOMAIN_OFF (R69). DESIGN CHOICE: a domain that has not reached power good yet has no enabled function to protect, and
its bit is cleared without the check (log 201). -/
def domainOff (d : Nat) (b : Block) : Block :=
  if !b.domBit d then b
  else if !b.pg d then b.setDom d false
  else if b.domainBusy d then (b.setF F.PWR_DOMSTAT_REFUSED 0 1).raiseOpen 5
  else (b.setDom d false).domainDown d

/-- What is written to PWR_DOMCTL [12:3]: each switch follows its bit. -/
def domWrite (w : Nat) (b : Block) : Block :=
  forRange 3 13 (fun d b => if bit w d then (if b.domBit d then b else b.domainOn d) else b.domainOff d) b

/-! ### Cold boot (R604–R610) -/

/-- Bytes of retained SRAM with the data window read as zero, and their digest (R607). -/
def retained (b : Block) : List Byte :=
  let m := b.readMem 0x20000000 524288
  m.take b.boot.winOff ++ List.replicate b.boot.winLen 0 ++ m.drop (b.boot.winOff + b.boot.winLen)
def retainedDigest (b : Block) : List Nat := sha384 b.retained

/-- The copy that a component boots from: the ACTIVE one first (R605). -/
def pickCopy (b : Block) (c : Nat) : Option Nat :=
  let a := b.activeBank c
  if b.copyValid a c then some a else if b.copyValid (1 - a) c then some (1 - a) else none

/-- Recovery is entered (R71, R73, R620): PD8 is powered, the slots of the components hold zeros (log 72). A cold
boot from Safe leads there, too (log 172). -/
def enterRecovery (b : Block) : Block :=
  let b := ((b.setF F.PWR_STATE_STATE 0 4).setF F.BOOT_STAT_RECOVERY 0 1).startCore 0 2 0
  let b := (b.measure true).bootShow.bootDone
  if b.pg 8 then b else (b.setDom 8 true).domainUp 8 0

/-- Components C2–C7 and the compatibility of the set (R603, R605): each component's bank, none where it has no valid copy. -/
def bootSet (b : Block) (bank1 : Nat) : List (Nat × Nat) × Bool :=
  let l := (1, bank1) :: ((List.range 6).filterMap fun i => (b.pickCopy (i + 2)).map fun k => (i + 2, k))
  let bad := badPairs (l.map fun e => (e.1, (b.copyOf e.2 e.1).header))
  let named (c : Nat) : Bool := !(c == 1) && bad.any fun p => p.1 == c || p.2 == c
  (l.filter fun e => !named e.1, !bad.isEmpty)

/-- Steps 2 to 8 of R604 with a valid C1: the set is booted, measured and signed, and the supervisor entered. -/
def bootRun (bank1 : Nat) (b : Block) : Block :=
  let (l, compat) := b.bootSet bank1
  let fb := l.any fun e => !(e.2 == b.activeBank e.1)
  let heads : Tab (List Byte) := l.map fun e => (e.1, (b.copyOf e.2 e.1).header)
  let banks := l.foldl (fun m e => m + e.2 * 2 ^ (e.1 - 1)) 0
  let fail := ((List.range 7).filter fun i => !(l.any fun e => e.1 == i + 1)).foldl (fun m i => m + 2 ^ i) 0
  let cp := b.copyOf bank1 1
  let h := cp.header
  let b := b.applySegs h cp.body
  let b := { b with boot := { b.boot with ran := true, entry := hEntry h, wakeEnt := hWake h, winOff := hWinOff h, winLen := hWinLen h, heads := heads, banks := banks } }
  let b : Block := (b.eccRead 0x20000000 524288).1
  let b := { b with boot := { b.boot with digest := b.retainedDigest } }
  let b := ((b.setF F.BOOT_STAT_FALLBACK 0 (b2n fb)).setF F.BOOT_STAT_COMPATF 0 (b2n compat)).setF F.BOOT_STAT_CFAIL 0 fail
  let b := (b.measure false).bootShow.bootDone
  let b := b.startCore 0 2 (hEntry h)
  if b.getF F.PWR_STATE_STATE 0 == 1 || b.getF F.PWR_STATE_STATE 0 == 4 then b.setF F.PWR_STATE_STATE 0 2 else b

/-- Boot control record at a cold boot (R600, R616, R617): with neither copy valid every ACTIVE selects bank A; a pending
trial starts, a started one is reverted. Answers whether this is the trial boot. `bad`: a bit per copy whose CMAC fails. -/
def bootRecordRead (bad : Nat) (b : Block) : Block × Bool :=
  let b := b.recordKey bcrLabel
  let b : Block := match (if b.rootValid 0 then RecCopy.valid bad b.flash.bcr else none) with
    | none => ({ b with flash := { b.flash with active := 0, trial := 0, staged := 0, pending := false } } : Block).setF F.BOOT_STAT_BCRERR 0 1
    | some r => { b with flash := { b.flash with active := r.active, trial := r.trial, staged := r.staged, pending := r.pending } }
  if b.flash.trial = 0 then (b, false)
  else if b.flash.pending then (({ b with flash := { b.flash with pending := false } } : Block).bcrSave, true)
  else (b.revert.bcrSave.setF F.BOOT_STAT_ROLLEDBACK 0 1, false)

/-- COLD_BOOT (R604): from the release of PD1 and PD2, or from the digest compare of a wake (R82). -/
def coldBoot (bcrBad recBad : Nat) (rkBad : Nat) (b : Block) : Block :=
  let kind := b.pw.inReset
  if b.pw.brown || (kind == .none && !b.boot.coldWake) then b
  else
    let b := { b with pw := { b.pw with inReset := .none, still := .awake } }
    let b := { b with boot := { b.boot with ran := false, coldWake := false, hashing := false, idkLock := false, recDue := false, stmtDue := false, heads := [], banks := 0, slots := [], stmt := [], digest := [] } }
    let b := if kind == .none then b else ((b.domainUp 1 0).domainUp 2 0).setDom 10 true |>.domainUp 10 rkBad
    let b := if kind == .powerOn || kind == .brownOut then b.recordRestore recBad else b
    let b := b.deferredActions
    let b := (b.setF F.BOOT_STAT_ACTRST 0 (b2n b.boot.actNext)).setF F.BOOT_STAT_PHASE 0 1
    let b := if b.boot.hashBad then b.setF F.BOOT_STAT_RHASHF 0 1 else b
    let (b, trial) := b.bootRecordRead bcrBad
    let b := b.updShow
    let rec_ := b.boot.recReq || b.boot.recNext
    let b := { b with boot := { b.boot with recReq := false, recNext := false, actNext := false, hashBad := false } }
    let b := b.setF F.BOOT_STAT_RECREQ 0 0
    let b := if trial then ({ b with boot := { b.boot with trialAt := b.pw.rtc } } : Block).setF F.UPD_STAT_STATE 0 3 else b
    match (if rec_ then none else b.pickCopy 1) with
    | none => (b.pkeJobs (if rec_ then 0 else b.sigChecks 1)).enterRecovery
    | some k =>
      let b := b.pkeJobs ((List.range 7).map fun i => b.sigChecks (i + 1)).sum
      (b.bootRun k).dispatchAll

/-! ### Module power-on reset and brown-out (R9–R11, R86, R93) -/

/-- The block with everything lost but the flash, the gauge, and what lies outside (R9, R567, R623, R647). -/
def powerLost (k : ResetKind) (b : Block) : Block :=
  { flash := b.flash, gauge := b.gauge, ciph := { ctxs := b.ciph.ctxs }, pw := { inReset := k }, out := b.out, free := b.free }

/-- MODULE_POWER_ON_RESET: POR is set by the reset value of PWR_RSTCAUSE. -/
def powerOnReset (b : Block) : Block := b.powerLost .powerOn

/-- BROWN_OUT: one that meets a module power-on reset is discarded with its cause (R10, R11). -/
def brownOut (b : Block) : Block :=
  let b := b.powerLost (if b.pw.inReset == .powerOn then .powerOn else .brownOut)
  { b with pw := { b.pw with brown := true } }

/-- BROWN_OUT_END (R93): the supply rises above 6.5 V. -/
def brownOutEnd (b : Block) : Block :=
  if !b.pw.brown then b
  else
    let b := { b with pw := { b.pw with brown := false } }
    if b.pw.inReset == .brownOut then (b.setF F.PWR_RSTCAUSE_BROWNOUT 0 1).setF F.PWR_RSTCAUSE_POR 0 0 else b

/-- SUPPLY_BELOW_RETENTION (R93): PD0 is lost too; the next rise is a module power-on reset. -/
def belowRetention (b : Block) : Block :=
  let b := b.powerLost .powerOn
  { b with pw := { b.pw with brown := true } }

/-! ### SoC reset and single-core resets, carried out (R9–R11, R142, R205, R315, R509, R608) -/

/-- A SoC reset: what each unit loses. HS and HB outputs, the power dies and the gauge are as their chapters say; PD0, the
catchment's records and the flash stay. -/
def socCarry (b : Block) : Block :=
  let b := { b with dieq := [], hq := {} }
  let b := ((b.emptyTables 0).emptyTables 1)
  let b := forN 32 (fun n b => (b.vlvFailsafe n).setF F.VLV_CFG_EN n 0) b
  let b := forN 2 (fun j b => b.boostStop j) b
  let b := b.lampSocReset
  let b := if b.weirState == 0 then forN 4 (fun k b => b.mtxClear k) b else b
  let b := ({ b with px := {} } : Block).resetRegs 0x22000 0x24000
  let b := (b.netDown false true).netDown true false
  let b := (b.gwReset).accReset St.aborted
  let b := b.hqDown.chnDown.pairDown.ciphPowerDown
  let b := b.sessClose true
  let x55 := b.getF F.CDC_XSTAT_PEND 55
  let b := (((b.resetRegs 0x3A000 0x3B000).setF F.CDC_XSTAT_PEND 55 x55).resetRegs 0x58000 0x5A000).resetRegs 0x68000 0x69000
  let b := (({ b with core := [], pw := { b.pw with coreReset := [] } } : Block).resetRegs 0x40000 0x41000)
  let b := (b.resetReg R.SYS_NODE).resetReg R.SYS_LOCKSTAT
  let b := (b.resetReg R.CATCH_INJ).resetReg R.CATCH_INJADDR
  let b := { b with boot := { b.boot with hashing := false, coldWake := false, recDue := false, stmtDue := false, sess := none, speed := 0xFFFF, spdOk := false, parkOk := false } }
  let b := (b.updShow).setF F.BOOT_STAT_RECREQ 0 (b2n b.boot.recReq)
  let b := ((b.setF F.PWR_STATE_STILLRES 0 0).setF F.PWR_STATE_REFCAUSE 0 0).resetReg R.PWR_DOMCTL
  ((b.resetReg R.PWR_DOMSTAT).resetReg R.PWR_WAKEEN0).resetReg R.PWR_WAKEEN1 |>.resetReg R.PWR_FEEDSTAT |>.tempSync

/-- RSTCNT counts a single-core reset (R510). -/
def countReset (c : Nat) (b : Block) : Block :=
  let b := b.satF F.HEP_STAT_RSTCNT c 1
  if c = 0 then b.setF F.HEP_STAT_RSTCNT 1 (b.getF F.HEP_STAT_RSTCNT 0) else b

/-- CAN_TX frames that HC13 had not put into a queue are given up at its reset (R355). -/
def netAbort (b : Block) : Block :=
  forN 12 (fun ch b =>
    let js := (b.nch ch).jobs.filter fun j => !j.rest.isEmpty
    let b := b.updNet ch fun c => { c with jobs := c.jobs.map fun j => if j.rest.isEmpty then j else { j with rest := [], fail := some (j.fail.getD j.next) } }
    js.foldl (fun b j => b.txFinish ch j.num St.aborted) b) b

/-- What an engine's reset does beside its registers (R142, R205, R237, R274, R355, R595). -/
def engineReset (c : Nat) (b : Block) : Block :=
  let b := b.engineGone c
  if 6 ≤ c ∧ c ≤ 9 then b.dieAbort c
  else if c = 10 ∨ c = 11 then (b.dieAbort c).vlvEngineReset (c - 10)
  else if c = 12 then
    let l := b.px.held
    let b := l.foldl (fun b d => b.complete d (.of St.aborted)) { b with px := { b.px with held := [] } }
    (forN 16 (fun n b => b.pxFsDone n St.aborted) b).dieAbort 12
  else if c = 13 then b.netAbort.linStop
  else b.accAbandon St.aborted

/-- The supervisor pair restarts in the boot ROM, which hashes retained SRAM; in Recovery, Recovery restarts (R512, R559,
R608). -/
def supReset (b : Block) : Block :=
  let b := ((b.countReset 0).startCore 0 2 0).fwReset.mailAbort
  if b.getF F.PWR_STATE_STATE 0 == 4 then b.sessClose true
  else if b.boot.ran then { b with boot := { b.boot with hashing := true } } else b

/-- A single-core reset of HC c; 0 = the supervisor pair. One that meets a reset in progress is absorbed, and a core
whose domain is off takes none; that of an engine is in progress until it accepts commands again (R11, R509). -/
def coreCarry (c : Nat) (b : Block) : Block :=
  if !(b.pw.inReset == .none) || b.coreState c == 0 then b
  else if c < 2 then (if b.boot.hashing then b else b.supReset)
  else if c ≤ 5 then
    if (b.hc c).young then b
    else
      let b := b.countReset c
      if b.flag F.HEP_CCTL_AUTORUN (c - 2) then
        (b.startCore c 2 (b.getF F.HEP_CENTRY_ENTRY (c - 2) * 4)).updHc c fun h => { h with young := true }
      else b.startCore c 1 0
  else if b.pw.coreReset.contains c then b
  else ((({ b with pw := { b.pw with coreReset := c :: b.pw.coreReset } } : Block).countReset c).startCore c 1 0).engineReset c

/-- One thing that the command has left to its end. -/
def carry (d : Due) (b : Block) : Block :=
  match d with
  | .core c => b.coreCarry c
  | .soc => b.socCarry
  | .occ o => b.raiseAll 32 [o]

/-- All of them, each with those that it begins itself. -/
def carryAll : Nat → Block → Block
  | 0, b => b
  | n + 1, b =>
    match b.catchm.due with
    | [] => b
    | ds => carryAll n (ds.foldl (fun b d => b.carry d) { b with catchm := { b.catchm with due := [] } })

/-- The end of every command: the watch of R649, then the resets that it has begun are carried out, and none is left. A reset begins at most
one other (a SoC reset), so the bound is never met. -/
def finish (b : Block) : Block :=
  let b := b.gaugeWatch.carryAll 4
  { b with catchm := { b.catchm with due := [] } }

/-- ENGINE_READY (R142): a reset engine accepts commands again. -/
def engineReady (c : Nat) (b : Block) : Block :=
  let comp := [0, 0, 0, 0, 0, 0, 3, 3, 3, 3, 4, 4, 5, 6, 7].getD c 0
  let h := Tab.get [] b.boot.heads comp
  if !(b.coreState c == 1) || comp = 0 || h.isEmpty then b
  else
    let b := ({ b with pw := { b.pw with coreReset := b.pw.coreReset.erase c } } : Block).startCore c 2 (hEntry h)
    (if c = 13 then b.excDrain else b).dispatchAll

/-! ### Supervisor image hash (R608) and core control (R475, R508, R509) -/

/-- Bytes of retained SRAM that a fault has changed, by offset. -/
def flipRetained (l : List (Nat × Byte)) (b : Block) : Block :=
  l.foldl (fun b e => b.writeMem (0x20000000 + e.1 % 524288) [e.2]) b

/-- SUPERVISOR_HASH_COMPLETE (R608). -/
def supHash (flips : List (Nat × Byte)) (b : Block) : Block :=
  if !b.boot.hashing then b
  else
    let b : Block := (b.eccRead 0x20000000 524288).1
    let b : Block := { b.flipRetained flips with boot := { b.boot with hashing := false } }
    if b.retainedDigest = b.boot.digest then b.startCore 0 2 b.boot.entry
    else
      let b : Block := { b with boot := { b.boot with hashBad := true } }
      let (b, os) := (b.setF F.BOOT_STAT_RHASHF 0 1).socReset F.PWR_RSTCAUSE_IMGHASH
      b.raiseList os

/-- CORE_RUN (R475): RUN written 1 to HEP_CCTL[c], c = 2–5. -/
def coreRun (c : Nat) (b : Block) : Block :=
  if b.coreState c == 1 then (b.setF F.HEP_CCTL_RUN (c - 2) 1).startCore c 2 (b.getF F.HEP_CENTRY_ENTRY (c - 2) * 4) else b

/-- WATCHDOG_ENABLE (R508): EN written 1, an RL field. -/
def swdEnable (b : Block) : Block :=
  if b.flag F.HEP_SWDCFG_EN 0 then b
  else if b.isLocked then b.lateWrite
  else { (b.setF F.HEP_SWDCFG_EN 0 1) with boot := { b.boot with swdAt := b.pw.osc } }

/-- WATCHDOG_KICK (R508). -/
def swdKick (key : Nat) (b : Block) : Block :=
  if key = 0x7E11 ∧ b.flag F.HEP_SWDCFG_EN 0 then { b with boot := { b.boot with swdAt := b.pw.osc } } else b

/-- HEP_SWDSTAT.REMAIN as it stands: the ms left, rounded up. -/
def swdRemain (b : Block) : Block :=
  let w := b.getF F.HEP_SWDCFG_WINDOW 0 * 160000
  let t := b.pw.osc - b.boot.swdAt
  b.setF F.HEP_SWDSTAT_REMAIN 0 (if b.flag F.HEP_SWDCFG_EN 0 then (w - t + 159999) / 160000 else 0)

/-- WATCHDOG_EXPIRY (R508, R309, R317): EV248, and a SoC reset recorded as WDOG. -/
def swdExpiry (b : Block) : Block :=
  if !b.flag F.HEP_SWDCFG_EN 0 || !(b.pw.inReset == .none) then b
  else
    let (b, os) := (b.raise 248 2).socReset F.PWR_RSTCAUSE_WDOG
    b.raiseList os

/-- HEP_CRST_WRITE (R509). -/
def crstWrite (w : Nat) (b : Block) : Block :=
  let c := bits w 3 0
  if bits w 31 16 = 0x5C0E ∧ 2 ≤ c ∧ c ≤ 14 then b.begin (.core c) else b

/-! ### Still (R74–R78) -/

/-- An output is on, for condition 2 of R75. A pixel port is off only while DISABLED (R272). -/
def anyOutput (b : Block) : Bool :=
  let any (n : Nat) (p : Nat → Bool) : Bool := (List.range n).any p
  (any nChan fun p => b.carries p) ||
  (any 32 fun n => b.inShot n || b.vlSt n == Vl.clamp || b.fsHolds n) ||
  (any 16 fun m => b.doConducts m) || (any 4 fun k => b.getF F.DIO_SVSTAT_STATE k == 1) ||
  (any 4 fun k => b.getF F.MTX_STAT_STATE k == 1) || any 16 fun n => !(b.pxState n == 0)

/-- A Still request is refused, or an entry cancelled (R75, R77). -/
def stillNo (res : Nat) (b : Block) : Block := (b.setF F.PWR_STATE_STILLRES 0 res).raiseOpen 6

/-- STILL_REQUEST (R75, R76): step 1 of an accepted entry ends a release and takes the copies of R573 and R288. `volts`:
what it samples at DI0–DI15; for a plain register write the sampled levels are open (log 177).
REFCAUSE of an earlier refusal stays (log 171). -/
def stillRequest (sup : Bool) (key : Nat) (volts : Option (List Int)) (b : Block) : Block :=
  if !(b.pw.still == .awake) then b
  else
    let cause := if !(b.getF F.PWR_STATE_STATE 0 == 2) then 1 else if b.anyOutput then 2 else if !b.netsAsleep then 3
      else if !sup then 4 else if !(key == 0x5711) then 5 else 0
    if !(cause == 0) then (b.setF F.PWR_STATE_REFCAUSE 0 cause).stillNo 2
    else
      let b := b.releaseEnd
      let armed (n : Nat) : Bool := b.flag F.DIO_DICFG_EN n && decide (1 ≤ cfgMode (b.direc n).cfg ∧ cfgMode (b.direc n).cfg ≤ 4)
      let (x, b) := b.fresh
      let level (n : Nat) : Bool := match volts with
        | some l => let r := b.direc n; diActive (cfgMode r.cfg) (cfgInv r.cfg) (diCompare (cfgMode r.cfg) r.high (l.getD n 0))
        | none => x.getLsbD n
      let di := ((List.range 16).filter armed).foldl (fun t n => Tab.put t n (some (b.diArm n (level n)))) []
      let copy := [b.rd R.ACS_CFG 0, b.rd R.ACS_UWB 0, b.rd R.ACS_LF 0, b.getF F.ACS_DIAG_UAF 0, b.getF F.ACS_DIAG_LFF 0] ++
        (List.range 6).map fun i => b.rd R.ACS_ANC i
      { b with pw := { b.pw with still := .entering, savedDom := b.rd R.PWR_DOMCTL 0, diWake := di, heldWake := false }
               acs := { b.acs with still := copy, bursts := 0 } }

/-- The power dies lose what PD4 holds in them: outputs, bridges, weir, lamps and matrix ports (R67, R77, R237). -/
def diesDown (b : Block) : Block :=
  (({ b with chan := [], fb := [], weir := {}, lmp := {} } : Block).resetRegs 0x3000 0x4000).resetRegs 0x10000 0x19000 |>.resetRegs 0x20000 0x22000

/-- Domains PD12 to PD3 are off, in descending order, with the power dies' part of PD4. -/
def switchedOff (b : Block) : Block :=
  ((List.range 10).foldl (fun b i => let d := 12 - i; if b.pg d then b.domainDown d else b) b).diesDown

/-- The entry is cancelled (R77). `late`: the domains have been off and come back with reset values. -/
def stillCancel (late : Bool) (rkBad : Nat) (b : Block) : Block :=
  let b := if late then
      forRange 3 13 (fun d b => if bit b.pw.savedDom d then b.domainUp d rkBad else b) b.switchedOff
    else b
  ({ b with pw := { b.pw with still := .awake } } : Block).stillNo 3

/-- The wake sequence starts (R81): PD1, PD2 and PD10 come up and the boot ROM hashes retained SRAM. -/
def wakeStart (rkBad : Nat) (b : Block) : Block :=
  let b := { b with pw := { b.pw with still := .waking, heldWake := false } }
  (((b.domainUp 1 0).domainUp 2 0).setDom 10 true).domainUp 10 rkBad

/-- PD1 and PD2 go off: what they hold is lost (R59, R76, R323, R471). The BOOT fields, the trial and what PD0 keeps stay:
the boot ROM restores them before the wake entry (R607, log 73). -/
def pd1Off (b : Block) : Block :=
  let b := (b.coreOff 0).sessClose true
  let fuse := b.getF F.SYS_VARIANT_SEALFUSE 0
  let b := (((b.resetRegs 0 0x1000).setF F.SYS_VARIANT_SEALFUSE 0 fuse).resetRegs 0x2000 0x3000).gwReset
  let b := ((b.resetRegs 0x3A000 0x3B000).resetRegs 0x40000 0x41000).resetRegs 0x68000 0x69000
  let b := { b with core := [], catchm := {}, boot := { b.boot with speed := 0xFFFF, spdOk := false, parkOk := false } }
  let b := ((b.resetRegs 0x59000 0x5A000).updShow).setF F.UPD_STAT_STATE 0 (if b.flash.trial = 0 ∨ b.flash.pending then 0 else 3)
  (((b.setPg 1 false).setPg 2 false).setPg 13 false).tempSync

/-- STILL_REACHED (R76, R77): steps 2 to 4; a wake held during step 4 starts its sequence. -/
def stillReached (rkBad : Nat) (b : Block) : Block :=
  if !(b.pw.still == .entering) then b
  else
    let b := b.switchedOff
    let b := (b.resetReg R.PWR_DOMCTL).pd1Off
    let b := ({ b with pw := { b.pw with still := .still } } : Block).setF F.PWR_STATE_STATE 0 1
    if b.pw.heldWake then b.wakeStart rkBad else b

/-! ### Waking (R79–R82) -/

/-- Bit of a wake source in PWR_WAKEEN and PWR_WAKESRC. -/
def wakeEnabled (b : Block) (s : Nat) : Bool := if s < 32 then bit (b.rd R.PWR_WAKEEN0 0) s else bit (b.rd R.PWR_WAKEEN1 0) (s - 32)

/-- A source is recorded (R80): the first one since VALID was cleared, and a lower number within its tick, also in
PWR_WAKEFIRST (log 74). -/
def wakeRecord (s : Nat) (b : Block) : Block :=
  let r := if s < 32 then R.PWR_WAKESRC0 else R.PWR_WAKESRC1
  let i := s % 32
  let b := b.wr r 0 (putBits (b.rd r 0) i i 1)
  if !b.flag F.PWR_WAKEFIRST_VALID 0 then
    let b := ((b.setF F.PWR_WAKEFIRST_SRC 0 s).setF F.PWR_WAKEFIRST_VALID 0 1).wr R.PWR_WAKETIME 0 (b.pw.rtc % 2 ^ 32)
    { b with pw := { b.pw with wakeTick := b.pw.rtc } }
  else if b.pw.wakeTick = b.pw.rtc ∧ s < b.getF F.PWR_WAKEFIRST_SRC 0 then b.setF F.PWR_WAKEFIRST_SRC 0 s else b

/-- The detector of a source is armed (R288, R353): DI0–DI15 that were enabled, and channels that are asleep. -/
def wakeArmed (b : Block) (s : Nat) : Bool :=
  let ch := if 16 ≤ s ∧ s < 28 then some (s - 16) else if 32 ≤ s ∧ s < 40 then some (s - 16) else if s = 40 ∨ s = 41 then some (s - 16) else none
  if s < 16 then (Tab.get none b.pw.diWake s).isSome
  else match ch with
    | some c => let k : NetKept := Tab.get {} b.net.kept c; k.asleep && !(k.mode == 0)
    | none => true

/-- CH of a wake source that is a network channel (R79). -/
def wakeCh (s : Nat) : Option Nat := if (16 ≤ s ∧ s < 28) ∨ (32 ≤ s ∧ s < 42) then some (s - 16) else none

/-- A wake event is recognised in Still or during entry (R77, R80, R81). `phase`: of an entry, 0 = before step 2,
1 = before step 4, 2 = during step 4. -/
def wakeEvent (s phase rkBad : Nat) (b : Block) : Block :=
  let b := b.wakeRecord s
  match b.pw.still with
  | .entering => if phase = 2 then { b with pw := { b.pw with heldWake := true } } else b.stillCancel (phase == 1) rkBad
  | .still => b.wakeStart rkBad
  | _ => b

/-- A source passes its filter in Still or during entry (R77, R79–R81): a field input where its condition is met (R288), a
network channel where its detector answers a cause (R350, R351); before step 2 that channel itself wakes (R349). -/
def wakeSource (s phase : Nat) (seen : WakeSeen) (rkBad : Nat) (b : Block) : Block :=
  let met := (Tab.get none b.pw.diWake s).all fun w => diWakes w seen.di.mv seen.di.ticks seen.di.idle
  if b.pw.still == .awake || !b.wakeEnabled s || !b.wakeArmed s || (decide (s < 16) && !met) then b
  else match wakeCh s with
    | none => b.wakeEvent s phase rkBad
    | some c =>
      let t := b.detect c seen.net
      if t.2 = 0 then t.1
      else
        let up := b.pw.still == .entering && phase == 0 && b.nstate c == 4
        (if up then t.1.wake c t.2 else t.1.keep c fun k => { k with src := t.2, errs := 0 }).wakeEvent s phase rkBad

/-- Channels that a command has woken during Still entry cancel it (R77, R349): a local wake always, a detection where its
source is enabled. -/
def stillNet (o b : Block) : Block :=
  let local_ (ch : Nat) : Bool := b.nget N.wakesrc ch == 4
  let woke := (List.range 28).filter fun ch =>
    o.nstate ch == 4 && (b.nstate ch == 1 || b.nstate ch == 2) && (local_ ch || b.wakeEnabled (ch + 16))
  if !(o.pw.still == .entering) || woke.isEmpty then b
  else (woke.foldl (fun b ch => whenB (decide (ch < 26) && b.wakeEnabled (ch + 16)) (wakeRecord (ch + 16)) b) b).stillCancel false 0

/-- RETAINED_HASH_COMPLETE (R81, R82, R607): steps 6 to 8 of a wake. DESIGN CHOICE: after a mismatch the wake is over,
while PWR_STATE shows Still until the cold boot ends (log 203). -/
def retainedHash (flips : List (Nat × Byte)) (b : Block) : Block :=
  if !(b.pw.still == .waking) then b
  else
    let b : Block := (b.eccRead 0x20000000 524288).1
    let b : Block := { b.flipRetained flips with pw := { b.pw with still := .awake } }
    let b := b.setF F.PWR_STATE_STILLRES 0 1
    if b.retainedDigest = b.boot.digest then
      ((b.setF F.BOOT_STAT_PHASE 0 2).bootShow).startCore 0 2 b.boot.wakeEnt |>.setF F.PWR_STATE_STATE 0 2
    else
      let b := { b with boot := { b.boot with coldWake := true } }
      (b.setF F.PWR_RSTCAUSE_HASHFAIL 0 1).raiseOpen 7

/-! ### Ignition, alarm, and the idle tick (R66, R97) -/

/-- IGN_CHANGE (R66): a rising level is wake source 28. -/
def ignChange (high : Bool) (phase rkBad : Nat) (b : Block) : Block :=
  if b.flag F.PWR_STATE_IGN 0 == high then b
  else
    let b := (b.setF F.PWR_STATE_IGN 0 (b2n high)).raiseOpen 3
    if high then b.wakeSource 28 phase {} rkBad else b

/-- The count and the alarm are equal (R97): wake source 31 in Still and during entry, EV3 otherwise. -/
def alarmEqual (phase rkBad : Nat) (b : Block) : Block :=
  let b := { b with pw := { b.pw with alarmSeen := true } }
  if b.pw.still == .awake then b.raiseOpen 3 else b.wakeSource 31 phase {} rkBad

/-- The comparison of R97; an equality is recognised once in a tick. -/
def alarmCheck (phase rkBad : Nat) (b : Block) : Block :=
  if b.pw.rtc = b.rtcAlarm then (if b.pw.alarmSeen then b else b.alarmEqual phase rkBad)
  else { b with pw := { b.pw with alarmSeen := false } }

/-- RTC_ALARM (R97): a tick at which the count, as given, equals the alarm. -/
def rtcAlarmTick (count phase rkBad : Nat) (b : Block) : Block :=
  let load := b.pw.rtcLoad.map fun hi => hi * 2 ^ 32 + b.pw.rtcStage.getD (count % 2 ^ 32)
  let now := load.getD (count % 2 ^ 48)
  let b : Block := if now = b.rtcAlarm then
      { b with pw := { b.pw with rtc := now, rtcLoad := none, rtcStage := if load.isSome then none else b.pw.rtcStage } }
    else b
  whenB (now = b.rtcAlarm) (fun b => b.alarmEqual phase rkBad) b

/-- RTC_ALARM_HIGH_WRITE (R97): the comparison is made at once. -/
def rtcAlarmHigh (v : Nat) (b : Block) : Block := (b.setF F.PWR_RTCALM1_TICKS 0 v).alarmCheck 0 0

/-- A write of PWR_RTCALM[0] (R97): no comparison; an equality that a later comparison finds is a new one. -/
def rtcAlarmLow (v : Nat) (b : Block) : Block :=
  let same := v == b.rd R.PWR_RTCALM0 0
  { (b.wr R.PWR_RTCALM0 0 v) with pw := { b.pw with alarmSeen := b.pw.alarmSeen && same } }

/-- One real-time tick: a load takes effect, or the count advances (R97). -/
def rtcTick (b : Block) : Block :=
  let p := b.pw
  let next := (p.rtc + 1) % 2 ^ 48
  let b := match p.rtcLoad with
    | none => { b with pw := { p with rtc := next } }
    | some hi => { b with pw := { p with rtc := hi * 2 ^ 32 + p.rtcStage.getD (next % 2 ^ 32), rtcLoad := none, rtcStage := none } }
  ({ b with pw := { b.pw with alarmSeen := false } } : Block).alarmCheck 0 0

/-- One tick of the 160 MHz timebase, with the real-time tick that falls into it: 32,768 of 160,000,000, which is 16 of
78,125. The oscillator stands while PD1 is off, and the timebase while PD4 is (R33). -/
def tick (b : Block) : Block :=
  let p := b.pw
  let ph := p.rtcPhase + 16
  let b := { b with pw := { p with tbase := if b.pg 4 then (p.tbase + 1) % 2 ^ 64 else p.tbase, osc := if b.pg 1 then p.osc + 1 else p.osc, rtcPhase := if 78125 ≤ ph then ph - 78125 else ph } }
  (if 78125 ≤ ph then b.rtcTick else b).xTrip

/-! ### Access polls in Still (R573) -/

/-- STILL_POLL_BURST. `ans`: the poll, counted in the burst's order, that a token answers first, and its TID: it ends the burst;
the four UHF slots of an LPOLL come after the polls. Answers of operator slots do not wake while the lockout runs. -/
def stillBurst (ans : Option (Nat × Nat)) (b : Block) : Block :=
  let w (i : Nat) : Nat := b.acs.still.getD i 0
  if !(b.pw.still == .still) || !bit (w 0) 3 then b
  else
    let n := b.acs.bursts + 1
    let anchors := (List.range 6).filter fun k => bit (w 1) (16 + k) && !bit (w 3) k
    let places := pollPlaces anchors (bits (w 1) 1 0)
    let lf := ((List.range 6).filter fun k => bit (w 2) (16 + k) && !bit (w 4) k).foldl (fun m k => m + 2 ^ k) 0
    let lpoll := bit (w 0) 4 && n % 6 == 0 && !(lf == 0)
    let ans := ans.filter fun a => decide (a.1 < places.length + (if lpoll then 4 else 0))
    let slot := ans.bind fun a => (List.range 64).find? fun s => b.slotValid s && b.slotTid s == a.2
    let hit := slot.bind fun _ => ans.map Prod.fst
    let sent := match hit with
      | some i => min (i + 1) places.length
      | none => places.length
    let b := { b with acs := { b.acs with bursts := n } }
    let mid := beBytes 4 (b.rd R.SYS_SERIAL 0)
    let b := (places.take sent).foldl (fun b p => b.send (.uwb p.1 p.2 (bits (w 0) 31 16) (bytesOf ([1] ++ mid ++ beBytes 2 (n % 65536) ++ [p.1])))) b
    let b := if lpoll && (match hit with
        | some i => decide (places.length ≤ i)
        | none => true) then (b.send (.lf lf (bits (w 2) 15 0) (bytesOf ([0x11] ++ mid)))).send (.uhf (bits (w 2) 30 30)) else b
    if slot.elim false fun s => decide (60 ≤ s) || !b.lockout then b.wakeSource 29 0 {} 0 else b

end Block

end Sys2Proof.Machine
end

