-- ==== Sys2Proof/Machine/CatchReg.lean ====
section
/-! DEFINITION. The catchment's commands: an occurrence from outside, its registers and its descriptors (R304–R327). -/
namespace Sys2Proof.Machine

namespace Block

/-- A fault inside the crypto units that a DETAIL reports (R560): 0 = an internal parity error, 1 = a failed signature check,
and the requester whose job it meets. -/
def unitFault (e detail : Nat) : Option (Nat × Nat) :=
  if bit detail 31 then none
  else if e = 236 ∧ detail % 16 = 2 then some (0, bits detail 7 4)
  else if e = 238 ∧ detail % 16 = 1 then some (1, bits detail 7 4) else none

/-- CATCH_OCCURRENCE (R304, R470): source e is raised with a DETAIL. One that reports a saturated crossing records it there,
one of EV253 that names a die reports its failed link (R29, R317), and one that reports a fault of a crypto unit sets its
sticky bit and meets the requester's next job (R552, R560, log 215). -/
def occurrence (e detail : Nat) (b : Block) : Block :=
  if bit detail 31 && bits detail 23 16 == 1 && (crossSource (bits detail 30 24) == some e) then
    (b.xSaturate (bits detail 30 24)).raiseAll 32 [{ ev := e, detail := BitVec.ofNat 32 detail, cross := true }]
  else if e = 253 ∧ detail % 8 < 7 ∧ bit detail 31 = false then b.linkFault (detail % 8)
  else match unitFault e detail with
    | some f => (({ b with ciph := { b.ciph with broken := b.ciph.broken ++ [f] } } : Block).setF
        (if f.1 = 0 then F.CIPH_STAT_JOBERR else F.PKE_STAT_FCHK) 0 1).raise e detail
    | none => b.raise e detail

/-! ### Injection (R321, R322) -/

/-- The word at address a lies in the memory that MEM = mem names; for MEM = 6, at any mapped address (R42, R45, R322). -/
def injIn (mem a : Nat) : Bool :=
  if 1 ≤ mem ∧ mem ≤ 5 then (memOf a).1 == mem
  else if mem = 6 then decide (a < 0x30000) || !((memOf a).1 == 0) ||
    (decide (0x40000000 ≤ a ∧ a < 0x40100000) && (blockDomain ((a - 0x40000000) / 4096)).isSome)
  else false

/-- CATCH_INJADDR_WRITE (R322): clears ARM. -/
def injAddr (w : Nat) (b : Block) : Block := (b.wr R.CATCH_INJADDR 0 (w / 4 * 4)).setF F.CATCH_INJ_ARM 0 0

/-- CATCH_INJ_WRITE (R321, R322). -/
def injWrite (w : Nat) (b : Block) : Block :=
  if !b.flag F.CATCH_CTL_INJEN 0 then b
  else
    let b := (b.setF F.CATCH_INJ_MEM 0 (bits w 2 0)).setF F.CATCH_INJ_MASK 0 (bits w 9 3)
    let ok := injIn (bits w 2 0) (b.rd R.CATCH_INJADDR 0)
    if bit w 16 && !ok then b.setF F.CATCH_INJ_ARM 0 0
    else
      let b := b.setF F.CATCH_INJ_ARM 0 (b2n (bit w 16))
      if bit w 17 then b.setF F.CATCH_INJ_DONE 0 0 else b

/-- CATCH_FORCE_REG_WRITE (R321, R322): forced occurrences for the bits of CATCH_FORCE[i], in rising order. -/
def forceWrite (i w : Nat) (b : Block) : Block :=
  if !b.flag F.CATCH_CTL_INJEN 0 then b
  else
    let es := ((List.range 32).filter fun j => bit w j && !(32 * i + j == 250) && !(32 * i + j == 251)).map fun j => 32 * i + j
    b.raiseList (es.map fun e => { ev := e, detail := 0, forced := true })

/-- CATCH_COUNT_CLEAR and CATCH_LOG_CLEAR (R325). An emptied log's words read 0 (log 92). -/
def countClear (b : Block) : Block := b.wr R.CATCH_COUNT 0 0
def logClear (b : Block) : Block :=
  { ((b.wr R.CATCH_LOGPTR 0 0).resetReg R.CATCH_LOG) with catchm := { b.catchm with held := 0 } }

/-! ### Descriptors (R327) -/

/-- CATCH_READ. -/
def catchRead (d : Desc) (b : Block) : Block × Compl :=
  let log := bit (d.dw 8) 0
  let len := if log then 1072 else 48
  if !(d.ok 0xE0 len 65536 [0, 0, 0, 1]) then (b, .of St.badDesc)
  else
    let first := (b.getF F.CATCH_LOGPTR_NEXT 0 + 64 - b.catchm.held % 64) % 64
    let head := ((List.range 8).map fun i => b.rd R.CATCH_STICKY i) ++ [b.rd R.CATCH_STAT 0, b.rd R.CATCH_COUNT 0, b.rd R.CATCH_LOGPTR 0, 0]
    let tail := if log then (List.range 256).map fun w => b.rd R.CATCH_LOG ((4 * first + w) % 256) else []
    (b, { status := St.ok, cw2 := len, data := ((head ++ tail).map (leBytes 4)).flatten })

/-- CATCH_CLEAR. -/
def catchClear (d : Desc) (b : Block) : Block × Compl :=
  if !(d.ok 0xE1 0 0 (List.replicate 8 0xFFFFFFFF ++ [7])) then (b, .of St.badDesc)
  else
    let b := forN 8 (fun i b => b.wr R.CATCH_STICKY i (b.rd R.CATCH_STICKY i - (b.rd R.CATCH_STICKY i &&& d.dw (5 + i)))) b
    let b := if bit (d.dw 13) 0 then b.setF F.CATCH_STAT_FIRSTV 0 0 else b
    let b := if bit (d.dw 13) 1 then b.logClear else b
    let b := if bit (d.dw 13) 2 then b.countClear else b
    (b, .of St.ok)

/-- CATCH_FORCE. -/
def catchForce (d : Desc) (b : Block) : Block × Compl :=
  let e := d.dw 5
  if !(d.ok 0xE2 0 0 [0xFF]) || e == 250 || e == 251 then (b, .of St.badDesc)
  else if !b.flag F.CATCH_CTL_INJEN 0 then (b, .of St.refused)
  else (b.raiseList [{ ev := e, detail := 0, forced := true }], .of St.ok)

/-- CATCH_INJECT. -/
def catchInject (d : Desc) (b : Block) : Block × Compl :=
  if !(d.ok 0xE3 0 0 [0x303FF, 0xFFFFFFFC]) || (bit (d.dw 5) 16 && !injIn (bits (d.dw 5) 2 0) (d.dw 6)) then (b, .of St.badDesc)
  else if !b.flag F.CATCH_CTL_INJEN 0 then (b, .of St.refused)
  else ((b.injAddr (d.dw 6)).injWrite (d.dw 5), .of St.ok)

end Block

end Sys2Proof.Machine
end

