-- ==== Sys2Proof/Machine/Chain.lean ====
section
/-! DEFINITION. The chain of modules (R417–R430, R447–R452): enumeration, node table, topology, heads, ports, and the
events of the chain, and the ports' virtual channels. Frames in transit pass without an effect on the node. -/
namespace Sys2Proof.Machine

namespace Block

/-- Serial number of this module, and the one that the node table holds for node n (R53, R451). -/
def serial (b : Block) : Nat := b.rd R.SYS_SERIAL 0 + b.rd R.SYS_SERIAL 1 * 2 ^ 32
def serOf (b : Block) (n : Nat) : Nat := b.rd R.CHN_SER0 n + b.rd R.CHN_SER1 n * 2 ^ 32
def setSer (n s : Nat) (b : Block) : Block := (b.wr R.CHN_SER0 n (s % 2 ^ 32)).wr R.CHN_SER1 n (s / 2 ^ 32)

/-- The idle blocks of the neighbours bring credits and acknowledgements, and frames that waited go out (R425, R428,
log 187). A port that is DOWN trains again (R418). -/
def linkTick (b : Block) : Block :=
  let b := forN 2 (fun p b => whenB (b.pg 8 && b.flag F.CHN_CFG_EN 0 && b.getF F.CHN_PORT_LSTATE p == 0) (fun b => b.setF F.CHN_PORT_LSTATE p 1) b) b
  b.chn.links.foldl (fun b e =>
    let go := e.2.queue.take 8
    let b := { b with chn := { b.chn with links := Tab.put b.chn.links e.1 { queue := e.2.queue.drop 8 } } }
    go.foldl (fun b f => b.vcSend (e.1 / 2) f) b) b

/-- A TYPE 3 entry at a head (R448). The primary head's own entries follow R424. -/
def headEntry (cause node w5 w6 : Nat) (b : Block) : Block :=
  let e := b.getF F.CHN_CFG_EQ 0
  let ws := [cause + node * 256, w5, w6, 0]
  if b.primary then (let (b, os) := b.eventArises e 3 0 ws; b.raiseList os)
  else if b.isStandby then (let (b, os) := b.eqOffer e 3 0 b.nodeId b.pw.tbase ws; b.raiseList os)
  else b

/-- EV230 with its entry (R447, R448). -/
def topoEvent (cause node w5 w6 : Nat) (b : Block) : Block := (b.raise 230 (cause + node * 16)).headEntry cause node w5 w6

/-- A start or join is refused (R420, R421). -/
def enumErr (b : Block) : Block := (b.setF F.CHN_STAT_ENUMERR 0 1).topoEvent 6 b.nodeId 0 0

/-! ### Enumeration (R419, R420) -/

/-- The token out of port p; without a link there it comes back at once, which `none` stands for. -/
def sendToken (p count ser : Nat) (b : Block) : Option Block :=
  if b.portUp p then
    some (b.portFrame p { typ := Fr.enum, dst := 0, src := b.nodeId, len := 3, data := BitVec.ofNat 32 count :: twoWords ser })
  else none

/-- Enumeration is complete: the head is in RUN (R419). -/
def enumDone (ring : Bool) (b : Block) : Block :=
  ((b.setF F.CHN_STAT_STATE 0 3).setF F.CHN_STAT_RING 0 (b2n ring)).topoEvent 7 b.nodeId 0 0

/-- ENUM_START: START written 1 (R419, R420). -/
def enumStart (b : Block) : Block :=
  if b.hasId then b.enumErr
  else
    let b := ((b.setF F.SYS_NODE_NODE 0 0).setF F.SYS_NODE_HEAD 0 1).setF F.SYS_NODE_VALID 0 1
    let b := (b.setF F.CHN_STAT_STATE 0 2).setSer 0 b.serial
    let b := { b with chn := { b.chn with second := false, heir := none } }
    match b.sendToken 0 1 b.serial with
    | some b => b
    | none =>
      match b.sendToken 1 1 b.serial with
      | some b => { b with chn := { b.chn with second := true } }
      | none => b.enumDone false

/-- A JOIN: a serial number, and the ID that goes with it; `answer`: it answers a request (R419, R421, log 209). -/
def joinOf (b : Block) (dst ser : Nat) (id : Option Nat) (answer : Bool) : Frame :=
  { typ := Fr.join, dst := dst, src := b.nodeId, len := 3
    data := twoWords ser ++ [BitVec.ofNat 32 (b2n id.isSome + id.getD 0 * 2 + b2n answer * 256)] }

/-- JOIN towards the head out of port p: this node's ID, where it holds one, and its serial number. -/
def sendJoin (p : Nat) (b : Block) : Block :=
  b.portFrame p (b.joinOf 0 b.serial (if b.hasId then some b.nodeId else none) false)

/-- The token goes on out of the other port, or back. -/
def tokenOn (p count ser : Nat) (b : Block) : Block := (b.sendToken (1 - p) count ser).getD ((b.sendToken p count ser).getD b)

/-- The node takes the ID that the token offers (R419). A token that offers no ID of R417 leaves it without one. -/
def takeId (p count ser : Nat) (b : Block) : Block :=
  if 64 ≤ count then b.enumErr.tokenOn p count ser
  else
    let b := ((b.setF F.SYS_NODE_NODE 0 count).setF F.SYS_NODE_VALID 0 1).setF F.CHN_STAT_STATE 0 2
    (b.sendJoin p).tokenOn p (count + 1) ser

/-- ENUM_FRAME: the token of the head with serial number `ser` arrives at port p (R419, R420). -/
def enumFrame (p count ser : Nat) (b : Block) : Block :=
  if !b.portUp p then b
  else if !b.hasId then b.takeId p count ser
  else if b.primary && ser == b.serial then
    if !(b.getF F.CHN_STAT_STATE 0 == 2) then b
    else if b.chn.second then b.enumDone false
    else if p = 1 then b.enumDone true
    else match b.sendToken 1 count ser with
      | some b => { b with chn := { b.chn with second := true } }
      | none => b.enumDone false
  else if b.primary && b.getF F.CHN_STAT_STATE 0 == 2 then
    if ser < b.serial then
      let b := (b.setF F.SYS_NODE_HEAD 0 0).setF F.SYS_NODE_VALID 0 0
      ((b.resetReg R.CHN_SER0).resetReg R.CHN_SER1).enumErr.takeId p count ser
    else b
  else (b.sendJoin p).tokenOn p count ser

/-- ENUM_START, STANDBY_CLAIM and HEAD_PROMOTE (R420, R423). A claim without a node ID has no effect; DESIGN CHOICE: nor
has one of the primary head in a chain without a standby head (log 210). -/
def standbyClaim (b : Block) : Block :=
  if !b.hasId then b
  else if b.chn.standby.isSome || b.isStandby then b.enumErr
  else if b.primary then b
  else b.setF F.SYS_NODE_STANDBY 0 1

def headPromote (b : Block) : Block :=
  if !b.isStandby then b
  else
    let b := (b.setF F.SYS_NODE_STANDBY 0 0).setF F.SYS_NODE_HEAD 0 1
    let b := { b with chn := { b.chn with standby := none, heir := none } }
    (b.raise 231 2).headEntry 12 b.nodeId 0 0

/-- CHN_CTL (R449). -/
def chnCtl (start : Nat) (b : Block) : Block :=
  if start = 1 then b.enumStart else if start = 2 then b.standbyClaim else if start = 3 then b.headPromote else b

/-! ### Joining (R421) -/

/-- The ID that the head gives to a serial number: the one it held, or the lowest that is not in the table. -/
def freeId (b : Block) (ser : Nat) : Option Nat :=
  match (List.range 64).find? fun n => b.serOf n == ser with
  | some n => some n
  | none => (List.range 64).find? fun n => b.serOf n == 0

/-- The standby head's copy of an entry of the node table (R421). -/
def copyEntry (n ser : Nat) (b : Block) : Block := match b.chn.standby with
  | some h => b.sendFrame (b.joinOf h ser (some n) true)
  | none => b

/-- The primary head enters a node into its table. -/
def joined (n ser : Nat) (b : Block) : Block :=
  (((b.setSer n ser).setF F.CHN_STAT_JOINX 0 1).copyEntry n ser).topoEvent 1 n (ser % 2 ^ 32) (ser / 2 ^ 32)

/-- JOIN_FRAME (R419, R421): at the primary head the request of a node, with the ID that it holds where it reports one; at
the standby head its copy of an assignment; at the node itself the answer. -/
def joinFrame (p : Nat) (answer : Bool) (ser : Nat) (id : Option Nat) (b : Block) : Block :=
  if !b.portUp p then b
  else if b.primary then
    if answer then b
    else match id with
      | some n => if b.serOf n == ser then b else b.joined n ser
      | none =>
        let reply (n : Option Nat) (b : Block) : Block := b.portFrame p (b.joinOf (n.getD 0) ser n true)
        match b.freeId ser with
        | some n => (b.joined n ser |> reply (some n))
        | none => reply none b
  else if answer && ser == b.serial && !b.hasId then
    match id with
    | some n => ((b.setF F.SYS_NODE_NODE 0 n).setF F.SYS_NODE_VALID 0 1)
    | none => b.enumErr
  else if b.isStandby then (match id with
    | some n => b.setSer n ser
    | none => b)
  else b

/-! ### Topology (R422, R423) -/

/-- One node's reachability changes. -/
def reachChange (n : Nat) (now : Bool) (b : Block) : Block :=
  let b := b.setF F.CHN_REACH_REACH (n / 32) (putBits (b.getF F.CHN_REACH_REACH (n / 32)) (n % 32) (n % 32) (b2n now))
  if now then
    if b.chn.lost.contains n then ({ b with chn := { b.chn with lost := b.chn.lost.erase n } } : Block).topoEvent 3 n 0 0 else b
  else
    let b := { b with chn := { b.chn with lost := b.chn.lost ++ [n] } }
    (b.setF F.CHN_STAT_LOSTX 0 1).topoEvent 2 n 0 0

/-- This node takes a topology frame: the nodes in CHA order from the head, and where the line is open (R422, R423). With a
standby head that is new to it, the primary head sends it the node table (R421). -/
def topoTake (order : List Nat) (gap : Option Nat) (standby : Option Nat) (b : Block) : Block :=
  let old := b.chn
  let was := b.flag F.CHN_STAT_RING 0
  let ring := gap.isNone
  let h := if standby = some b.nodeId then none else standby
  let b := { b with chn := { b.chn with order := order, gap := gap, standby := h, heir := if h.isSome then h else b.chn.heir } }
  let b := forN 64 (fun n b =>
    let r := bit (b.getF F.CHN_REACH_REACH (n / 32)) (n % 32)
    if order.contains n == r then b else b.reachChange n (order.contains n)) b
  let b := (b.setF F.CHN_STAT_NCOUNT 0 order.length).setF F.CHN_STAT_RING 0 (b2n ring)
  let b := if was && !ring then b.topoEvent 4 (order.headD 0) 0 0 else if !was && ring && !old.order.isEmpty then b.topoEvent 5 (order.headD 0) 0 0 else b
  let b := if b.primary then
      let b := if h.isSome && !(h == old.standby) then forN 64 (fun n b => whenB (!(b.serOf n == 0)) (fun b => b.copyEntry n (b.serOf n)) b) b else b
      (match old.standby with
       | some n => if order.contains n || standby.isSome then b else b.raise 231 3
       | none => b)
    else if !old.order.isEmpty && !(old.order.headD 0 == order.headD 0) then b.raise 231 2 else b
  b.setF F.CHN_STAT_STATE 0 3

/-- The topology frame out of port p (R422, log 209): the closed ring or the open point, the standby head, the nodes. -/
def sendTopo (p : Nat) (order : List Nat) (gap standby : Option Nat) (b : Block) : Block :=
  let head := b2n gap.isNone + gap.getD 0 * 2 + b2n standby.isSome * 65536 + standby.getD 0 * 131072 + order.length * 2 ^ 24
  let ws := BitVec.ofNat 32 head :: packWords 16 (bytesOf order)
  if b.portUp p then b.portFrame p { typ := Fr.topo, dst := 0, src := b.nodeId, len := ws.length, data := ws } else b

/-- State of port q of node n as the primary head knows it: its own, and what the other nodes have reported; one that has
reported nothing is UP (R426). -/
def portOf (b : Block) (n q : Nat) : Nat := if n = b.nodeId then b.getF F.CHN_PORT_LSTATE q else Tab.get 2 b.chn.ports (2 * n + q)

/-- The link from a node's CHA to the next one's CHB is there. -/
def linked (b : Block) (x y : Nat) : Bool := b.portOf x 0 == 2 && b.portOf y 1 == 2

/-- The nodes that a walk reaches along links, from x on. -/
def walk (ok : Nat → Nat → Bool) (x : Nat) : List Nat → List Nat
  | [] => []
  | y :: ys => if ok x y then y :: walk ok y ys else []

/-- What the primary head finds of its chain (R422, R429): `order`: the nodes as they are wired, in CHA order from itself;
`closed`: the last one is wired to the first. The nodes that it reaches, and the open point. -/
def survey (b : Block) (order : List Nat) (closed : Bool) : List Nat × Option Nat :=
  let rest := order.tail
  let cha := b.nodeId :: walk b.linked b.nodeId rest
  if closed && cha.length == order.length && b.linked (order.getLastD b.nodeId) b.nodeId then (order, none)
  else
    let left := rest.drop (cha.length - 1)
    let chb := if closed then walk (fun x y => b.linked y x) b.nodeId left.reverse else []
    (cha ++ chb.reverse, some cha.length)

/-- TOPO_FRAME_SEND (R422): `order`: the nodes as they are wired, the head first; `ring`: the last one is wired to the
first; `standby`: the standby head. What the head reaches of them follows from its own ports and from the other nodes'
reports. -/
def topoSend (order : List Nat) (ring : Bool) (standby : Option Nat) (b : Block) : Block :=
  if !b.primary || !b.hasId || !(order.headD 64 == b.nodeId) then b
  else
    let (l, gap) := b.survey order ring
    ((b.topoTake l gap standby).sendTopo 0 l gap standby).sendTopo 1 l gap standby

/-- TOPO_FRAME (R422): at a node other than the primary head, which passes it on. A primary head that learns of another one,
its former standby head, rejoins as an ordinary node (R421, R423). -/
def topoFrame (p : Nat) (order : List Nat) (gap : Option Nat) (standby : Option Nat) (b : Block) : Block :=
  if !b.hasId || !b.portUp p then b
  else if b.primary then
    if b.chn.heir.isSome && order.head? == b.chn.heir && !(order.headD 0 == b.nodeId) then
      let b := ((b.setF F.SYS_NODE_HEAD 0 0).setF F.SYS_NODE_VALID 0 0).setF F.CHN_STAT_STATE 0 1
      ({ b with chn := { b.chn with standby := none, heir := none } } : Block).sendJoin p
    else b
  else if !order.contains b.nodeId then b
  else (b.topoTake order gap standby).sendTopo (1 - p) order gap standby

/-- STANDBY_TOPO_TIMEOUT (R423). -/
def standbyTimeout (b : Block) : Block :=
  if !b.isStandby then b
  else
    let h := b.chn.order.headD 0
    ((b.setF F.CHN_STAT_HEADX 0 1).raise 231 1).headEntry 11 h 0 0

/-! ### Ports (R417, R418, R421, R427, R447) -/

/-- A report of this node's port towards the primary head (R426). -/
def sendNote (p : Nat) (b : Block) : Block :=
  if b.primary || !b.hasId then b
  else
    let f : Frame := { typ := Fr.note, dst := b.chn.order.headD 0, src := b.nodeId, len := 1, data := [BitVec.ofNat 32 (p + b.getF F.CHN_PORT_LSTATE p * 2)] }
    if b.portUp (1 - p) then b.portFrame (1 - p) f else if b.portUp p then b.portFrame p f else b

/-- CHAIN_PORT_UP (R417, R418, R421): `wired`: CHA meets CHB. A node without an ID asks for one on its first port to come
UP. -/
def chainUp (p : Nat) (wired : Bool) (b : Block) : Block :=
  if !b.pg 8 || !b.flag F.CHN_CFG_EN 0 || b.portUp p then b
  else
    let b := b.setF F.CHN_PORT_ENERGY p 1
    if !wired then ((b.setF F.CHN_PORT_LSTATE p 3).setF F.CHN_PORT_WIREX p 1).raise (226 + p) 4 |>.sendNote p
    else
      let first := !b.portUp (1 - p)
      let b := (b.setF F.CHN_PORT_LSTATE p 2).raise (226 + p) 2
      if !b.hasId && first then b.sendJoin p else b.sendNote p

/-- A node without any port that is UP reaches itself only (R422). -/
def cutOff (b : Block) : Block :=
  let b := forN 64 (fun n b => if n = b.nodeId || !bit (b.getF F.CHN_REACH_REACH (n / 32)) (n % 32) then b else b.reachChange n false) b
  let b := if b.flag F.CHN_STAT_RING 0 then b.topoEvent 4 (b.chn.order.headD 0) 0 0 else b
  (b.setF F.CHN_STAT_NCOUNT 0 1).setF F.CHN_STAT_RING 0 0

/-- CHAIN_PORT_DOWN (R427): `energy`: line energy is still present. The frames held for the port are discarded. -/
def chainDown (p : Nat) (energy : Bool) (b : Block) : Block :=
  if !b.portUp p then b.setF F.CHN_PORT_ENERGY p (b2n energy)
  else
    let b : Block := { b with chn := { b.chn with links := Tab.drop b.chn.links (fun k => k / 2 == p), resends := Tab.drop b.chn.resends fun k => k == p } }
    let b := ((b.setF F.CHN_PORT_LSTATE p 0).setF F.CHN_PORT_ENERGY p (b2n energy)).setF F.CHN_PORT_LINKDN p 1
    let b := (b.raise (226 + p) 1).sendNote p
    if b.portUp (1 - p) then b else b.cutOff

/-- The oldest frame that port p keeps, answers first: the one that goes again (R427, log 187). -/
def heldFrame (b : Block) (p : Nat) : Option Frame := ((b.linkVc p 1).held ++ (b.linkVc p 0).held).head?

/-- FRAME_RESEND (R427): a frame that was not acknowledged is sent again; more than 16 within 1 ms take the port down. -/
def frameResend (p : Nat) (b : Block) : Block :=
  if b.portUp p then
    let b := match b.heldFrame p with
      | some f => b.lineSend p f
      | none => b
    let b := ((b.satF F.CHN_PORT_RESENDCNT p 1).setF F.CHN_PORT_RESENDX p 1).raise (226 + p) 3
    let ts : List Nat := ((Tab.get [] b.chn.resends p).filter fun t => decide (b.pw.tbase - t < 160000)) ++ [b.pw.tbase]
    let b : Block := { b with chn := { b.chn with resends := Tab.put b.chn.resends p ts } }
    if 16 < ts.length then b.chainDown p (b.flag F.CHN_PORT_ENERGY p) else b
  else b

/-- NOTE_FRAME (R426): port q of node n is in this state. -/
def noteFrame (n q lstate : Nat) (b : Block) : Block :=
  if b.primary then { b with chn := { b.chn with ports := Tab.put b.chn.ports (2 * n + q) lstate } } else b

/-- CHN_CFG.EN changes (R418, R422, R449): the ports train, or are down with the node in OFF. -/
def chnEnable (b : Block) : Block := if b.flag F.CHN_CFG_EN 0 then b else (b.setF F.CHN_CFG_EN 0 1).chnUp
def chnDisable (b : Block) : Block :=
  if !b.flag F.CHN_CFG_EN 0 then b
  else
    let b := (b.setF F.CHN_CFG_EN 0 0).setF F.CHN_STAT_STATE 0 0
    let b := ((b.chainDown 0 false).chainDown 1 false).cutOff
    (b.setF F.CHN_PORT_LSTATE 0 0).setF F.CHN_PORT_LSTATE 1 0

/-- EVT_FRAME (R424): an event entry of node n reaches a head. -/
def evtFrame (e typ src n time : Nat) (ws : List Nat) (b : Block) : Block :=
  if b.primary || b.isStandby then (let (b, os) := b.eqOffer e typ src n time ws; b.raiseList os) else b

/-- CHN_TOPO (R452). -/
def chnTopo (d : Desc) (b : Block) : Block × Compl :=
  if !(d.ok 0xD3 544 65536 []) then (b, .of St.badDesc)
  else
    let head := [b.rd R.CHN_STAT 0, b.rd R.CHN_PORT 0, b.rd R.CHN_PORT 1, b.rd R.SYS_NODE 0, b.rd R.CHN_REACH 0, b.rd R.CHN_REACH 1, 0, 0]
    let ser := (List.range 64).flatMap fun n => [b.rd R.CHN_SER0 n, b.rd R.CHN_SER1 n]
    (b, { status := St.ok, cw2 := 544, data := ((head ++ ser).map (leBytes 4)).flatten })

end Block

end Sys2Proof.Machine
end

