-- ==== Sys2Proof/Machine/Render.lean ====
section
/-! DEFINITION. The shoal's picture: primitives, coverage, operations, calibration, level, output curve and cost
(R249–R257). Everything here is a function of what the frame start has fixed. -/
namespace Sys2Proof.Machine

/-! ### Primitives (R249) -/

/-- Byte i, and the 16-bit word at byte i, unsigned and signed. -/
def byteAt (bs : List Byte) (i : Nat) : Nat := (bs.getD i 0).toNat
def halfAt (bs : List Byte) (i : Nat) : Nat := byteAt bs i + 256 * byteAt bs (i + 1)
def coordAt (bs : List Byte) (i : Nat) : Int := sgn 16 (halfAt bs i)

/-- TYPE, OP, PARAM, SOFT, INT0 and INT1 of a 32-byte primitive. -/
def primType (p : List Byte) : Nat := byteAt p 0 % 16
def primOp (p : List Byte) : Nat := byteAt p 0 / 16
def primParam (p : List Byte) : Nat := byteAt p 1
def primSoft (p : List Byte) : Nat := byteAt p 2
def primInt0 (p : List Byte) : Nat := halfAt p 4
def primInt1 (p : List Byte) : Nat := halfAt p 6

/-- GEOM bytes that a primitive uses, as the number of bytes from byte 8. -/
def primGeom (p : List Byte) : Nat :=
  let t := primType p
  if t = 2 then 8 else if t = 3 then 4 * primParam p else if t = 4 then 8 else if t = 5 ∨ t = 6 then 12 else 0

/-- A TYPE, OP, PARAM or reserved field outside the table of R249 (R250). -/
def primBad (p : List Byte) : Bool :=
  let t := primType p
  let par := primParam p
  decide (6 < t) || decide (5 < primOp p) || !(byteAt p 3 == 0) ||
  !(if t = 3 then decide (3 ≤ par ∧ par ≤ 6) else if t = 4 then decide (par ≤ 1) else if t = 6 then decide (par < 16) else par == 0) ||
  !(if t = 2 ∨ t = 3 then decide (primSoft p ≤ 15) else primSoft p == 0) ||
  !(t == 4 || primInt1 p == 0) ||
  ((List.range 24).any fun i => decide (primGeom p ≤ i) && !(byteAt p (8 + i) == 0)) ||
  ((t == 5 || t == 6) && (decide (2 ^ 22 ≤ halfAt p 12 + 65536 * halfAt p 14) ||
    !(decide (1 ≤ halfAt p 16 ∧ halfAt p 16 ≤ 512)) || !(decide (1 ≤ halfAt p 18 ∧ halfAt p 18 ≤ 512))))

/-- Corners of a RECT or vertices of a POLY in order. -/
def primCorners (p : List Byte) : List (Int × Int) :=
  if primType p = 2 then
    let x0 := coordAt p 8; let y0 := coordAt p 10; let x1 := coordAt p 12; let y1 := coordAt p 14
    [(x0, y0), (x1, y0), (x1, y1), (x0, y1)]
  else (List.range (primParam p)).map fun i => (coordAt p (8 + 4 * i), coordAt p (10 + 4 * i))

/-- Asset offset, width and height of a MASK or SYMBOL. -/
def primAsset (p : List Byte) : Nat := halfAt p 12 + 65536 * (halfAt p 14)
def primW (p : List Byte) : Nat := halfAt p 16
def primH (p : List Byte) : Nat := halfAt p 18

/-- Bytes of the asset. -/
def assetSize (p : List Byte) : Nat := if primType p = 5 then primW p * primH p else (primW p + 7) / 8 * primH p

/-- A MASK or SYMBOL whose asset reaches beyond the pool (R250). -/
def assetBeyond (p : List Byte) : Bool :=
  (primType p == 5 || primType p == 6) && decide (pxPoolSize < primAsset p + assetSize p)

/-! ### Coverage (R251). Coordinates are in 1/16 pixel. -/

/-- Square root in steps of 2^−24, from a rational (log 21). -/
def sqrtFrom : Nat → Nat → Nat → Nat
  | 0, r, _ => r
  | n + 1, r, x => let t := r + 2 ^ n; sqrtFrom n (if t * t ≤ x then t else r) x

/-- The root of q ≥ 0, rounded down to 2^−24. -/
def sqrtRat (q : Rat) : Rat := (sqrtFrom 44 0 ((q * (2 : Rat) ^ 48).floor.toNat) : Rat) / (2 : Rat) ^ 24

/-- Consecutive pairs of a closed outline. -/
def edges (vs : List (Int × Int)) : List ((Int × Int) × (Int × Int)) := vs.zip (vs.drop 1 ++ vs.take 1)

/-- Even-odd rule (R249). -/
def insidePoly (vs : List (Int × Int)) (x y : Int) : Bool :=
  (edges vs).foldl (fun c e =>
    let (a, b') := e
    if (decide (y < a.2) != decide (y < b'.2)) &&
        decide ((x : Rat) < (a.1 : Rat) + ((y : Rat) - a.2) * ((b'.1 : Rat) - a.1) / ((b'.2 : Rat) - a.2)) then !c else c) false

/-- A point lies inside a RECT or POLY. -/
def insideShape (p : List Byte) (x y : Int) : Bool :=
  if primType p = 2 then decide (coordAt p 8 ≤ x ∧ x < coordAt p 12 ∧ coordAt p 10 ≤ y ∧ y < coordAt p 14)
  else insidePoly (primCorners p) x y

/-- Squared distance from a point to a segment. -/
def segDist2 (a b : Int × Int) (x y : Int) : Rat :=
  let dx : Rat := b.1 - a.1
  let dy : Rat := b.2 - a.2
  let len := dx * dx + dy * dy
  let t : Rat := if len = 0 then 0 else (((x : Rat) - a.1) * dx + ((y : Rat) - a.2) * dy) / len
  let t := if t < 0 then 0 else if 1 < t then 1 else t
  let ex := (x : Rat) - a.1 - t * dx
  let ey := (y : Rat) - a.2 - t * dy
  ex * ex + ey * ey

/-- Clamp a rational to 0..1. -/
def clamp01 (q : Rat) : Rat := if q < 0 then 0 else if 1 < q then 1 else q

/-- Coverage of a RECT or POLY at pixel (x, y). -/
def shapeCover (p : List Byte) (x y : Nat) : Rat :=
  let s := primSoft p
  if s = 0 then
    let pts := [2, 6, 10, 14].flatMap fun (i : Int) => [2, 6, 10, 14].map fun (j : Int) => (16 * (x : Int) + i, 16 * (y : Int) + j)
    ((pts.filter fun q => insideShape p q.1 q.2).length : Rat) / 16
  else
    let cx : Int := 16 * x + 8
    let cy : Int := 16 * y + 8
    let ds := (edges (primCorners p)).map fun e => segDist2 e.1 e.2 cx cy
    let d := sqrtRat (ds.foldl (fun m q => if q < m then q else m) (ds.headD 0)) / 16
    clamp01 (1 / 2 + (if insideShape p cx cy then d else -d) / (2 * s))

/-- Position of a pixel within a rotated and scaled SYMBOL, in asset pixels (R249). -/
def symbolAt (p : List Byte) (i j : Nat) : Option (Nat × Nat) :=
  let rot := primParam p % 4
  let k := primParam p / 4 % 4 + 1
  let w := primW p
  let h := primH p
  let u := i / k
  let v := j / k
  let (rw, rh) := if rot % 2 = 0 then (w, h) else (h, w)
  if rw ≤ u ∨ rh ≤ v then none
  else if rot = 0 then some (u, v) else if rot = 1 then some (v, h - 1 - u)
  else if rot = 2 then some (w - 1 - u, h - 1 - v) else some (w - 1 - v, u)

/-- Coverage of a primitive at pixel (x, y); `pool` reads the asset pool. -/
def coverage (pool : Nat → Byte) (p : List Byte) (x y : Nat) : Rat :=
  let t := primType p
  if t = 1 ∨ t = 4 then 1
  else if t = 2 ∨ t = 3 then shapeCover p x y
  else
    let i := (x : Int) - coordAt p 8
    let j := (y : Int) - coordAt p 10
    if i < 0 ∨ j < 0 ∨ assetBeyond p then 0
    else if t = 5 then
      if primW p ≤ i.toNat ∨ primH p ≤ j.toNat then 0
      else ((pool (primAsset p + j.toNat * primW p + i.toNat)).toNat : Rat) / 255
    else if t = 6 then
      match symbolAt p i.toNat j.toNat with
      | none => 0
      | some (u, v) => if bit (pool (primAsset p + v * ((primW p + 7) / 8) + u / 8)).toNat (7 - u % 8) then 1 else 0
    else 0

/-- A GRAD whose value the spec does not state: a linear one with P0 = P1, a radial one with R1 below R0 (log 26). -/
def gradOpen (p : List Byte) : Bool :=
  primType p == 4 && (if primParam p % 2 = 0 then coordAt p 8 == coordAt p 12 && coordAt p 10 == coordAt p 14
    else decide (halfAt p 14 < halfAt p 12))

/-- Value v of a primitive at pixel (x, y). `free`: the open value of this pixel. -/
def primValue (p : List Byte) (free : Nat) (x y : Nat) : Rat :=
  let v0 : Rat := primInt0 p
  let v1 : Rat := primInt1 p
  if primType p ≠ 4 then v0
  else if gradOpen p then (free % 65536 : Nat)
  else
    let cx : Rat := 16 * x + 8 - coordAt p 8
    let cy : Rat := 16 * y + 8 - coordAt p 10
    if primParam p % 2 = 0 then
      let dx : Rat := coordAt p 12 - coordAt p 8
      let dy : Rat := coordAt p 14 - coordAt p 10
      v0 + (v1 - v0) * clamp01 ((cx * dx + cy * dy) / (dx * dx + dy * dy))
    else
      let r := sqrtRat (cx * cx + cy * cy)
      let r0 : Rat := halfAt p 12
      let r1 : Rat := halfAt p 14
      if r ≤ r0 then v0 else if r1 ≤ r then v1 else v0 + (v1 - v0) * ((r - r0) / (r1 - r0))

/-- Nearest integer of a rational, upwards at a half (log 27). -/
def nearest (q : Rat) : Nat := (q + 1 / 2).floor.toNat

/-- One step of the luminance by OP (R251). -/
def stepY (op : Nat) (y : Nat) (v c : Rat) : Nat :=
  let q : Rat := y
  nearest (
    if op = 0 then q + (v - q) * c
    else if op = 1 then q + ((if v < q then q else v) - q) * c
    else if op = 2 then q + ((if q < v then q else v) - q) * c
    else if op = 3 then q * (1 - c + c * v / 65535)
    else if op = 4 then (let t := q + v * c; if 65535 < t then 65535 else t)
    else (let t := q - v * c; if t < 0 then 0 else t))

/-- Luminance of pixel (x, y) under a list of primitives. -/
def pixelY (pool : Nat → Byte) (prims : List (List Byte)) (free x y : Nat) : Nat :=
  prims.foldl (fun l p =>
    let c := coverage pool p x y
    if c = 0 then l else stepY (primOp p) l (primValue p free x y) c) 0

/-- The primitives of a scene list that are drawn. -/
def drawn (bs : List Byte) : List (List Byte) :=
  ((List.range 256).map fun i => (bs.drop (32 * i)).take 32).filter fun p => !(primType p == 0)

/-! ### Output stages (R252) -/

/-- Calibration, LEVEL and output curve; `curve` gives P[j]. -/
def outCode (curve : Nat → Nat) (gain level y : Nat) : Nat :=
  let y := min 65535 ((y * gain + 16384) / 32768)
  let y := (y * level + 32768) / 65536
  let j := y / 2048
  let f := y % 2048
  let step : Int := ((curve (j + 1) : Int) - curve j) * f + 1024
  ((curve j : Int) + step / 2048).toNat

/-! ### Cost (R257) -/

/-- Bounding box of a primitive in 1/16 pixel, widened by s; none: it touches every tile. -/
def primBox (p : List Byte) : Option (Int × Int × Int × Int) :=
  let t := primType p
  if t = 2 ∨ t = 3 then
    let cs := primCorners p
    let xs := cs.map Prod.fst
    let ys := cs.map Prod.snd
    let s : Int := 16 * primSoft p
    some (xs.foldl min (xs.headD 0) - s, ys.foldl min (ys.headD 0) - s, xs.foldl max (xs.headD 0) + s, ys.foldl max (ys.headD 0) + s)
  else if t = 5 then
    some (16 * coordAt p 8, 16 * coordAt p 10, 16 * (coordAt p 8 + primW p), 16 * (coordAt p 10 + primH p))
  else if t = 6 then
    let k := primParam p / 4 % 4 + 1
    let (w, h) := if primParam p % 2 = 0 then (primW p, primH p) else (primH p, primW p)
    some (16 * coordAt p 8, 16 * coordAt p 10, 16 * (coordAt p 8 + w * k), 16 * (coordAt p 10 + h * k))
  else none

/-- A primitive touches the tile of column i and row j (16 × 8 pixels). -/
def touches (p : List Byte) (i j : Nat) : Bool :=
  match primBox p with
  | none => true
  | some (x0, y0, x1, y1) => decide (x0 < 256 * ((i : Int) + 1) ∧ 256 * (i : Int) < x1 ∧ y0 < 128 * ((j : Int) + 1) ∧ 128 * (j : Int) < y1)

/-- Cost of one list on a port of w × h pixels. -/
def listCost (prims : List (List Byte)) (w h : Nat) : Nat :=
  ((List.range (w / 16)).map fun i => ((List.range (h / 8)).map fun j =>
    let k := ((prims.filter fun p => touches p i j).map fun p => if primType p = 5 ∨ primType p = 6 then 2 else 1).sum
    128 * max 1 ((k + 3) / 4)).sum).sum

end Sys2Proof.Machine
end

