-- ==== Sys2Proof/Machine/Pixel.lean ====
section
/-! DEFINITION. Pixel ports (R246–R278): frames and renders, the link and its messages, zone reactions, descriptors. -/
namespace Sys2Proof.Machine

/-- CRC-8 of R130 over the bytes of a back segment (R263). -/
def crc8 (bs : List Byte) : Nat := (bs.foldl (fun c x => Block.crc8Step 8 (c ^^^ x.toNat)) 0xFF) ^^^ 0xFF

/-- A back segment with a valid CRC-8 over TYPE and six data bytes (R263). -/
def BackSeg.ok (s : BackSeg) : Bool := s.bytes.length == 7 && s.crc.toNat == crc8 s.bytes

/-- CRC-16/CCITT: polynomial 0x1021, initial value 0xFFFF (R263). -/
def crc16Step : Nat → Nat → Nat
  | 0, c => c
  | n + 1, c => crc16Step n (if bit c 15 then (c * 2 % 65536) ^^^ 0x1021 else c * 2 % 65536)
def crc16 (bs : List Byte) : Nat := bs.foldl (fun c x => crc16Step 8 (c ^^^ (x.toNat * 256))) 0xFFFF

namespace Block

/-- A sticky bit of port n: EV(168 + n) where it goes from 0 to 1 (R275). -/
def pstick (f : RegField) (n : Nat) (b : Block) : Block := b.stick f n (168 + n)

/-- Width, height and pixels of the port's lamp. -/
def pxW (b : Block) (n : Nat) : Nat := b.getF F.PXL_GEOM_WIDTH n
def pxH (b : Block) (n : Nat) : Nat := b.getF F.PXL_GEOM_HEIGHT n
def pxCount (b : Block) (n : Nat) : Nat := b.pxW n * b.pxH n

/-- Frame period in µs. -/
def pxPeriod (b : Block) (n : Nat) : Nat := b.getF F.PXL_CFG_FPER n * 40

/-! ### Link-up (R267, R268) -/

/-- An attempt starts: TRAIN. -/
def pxTrain (n : Nat) (b : Block) : Block :=
  let b := b.updPx n fun p => { p with info := [], cal := [], bad := 0, errLast := none, pause := false, cmds := [] }
  ((b.setF F.PXL_STAT_STATE n 1).setF F.PXL_LINK_LSTATE n 1).setF F.PXL_LINK_FWDERR n 0 |>.setF F.PXL_LINK_BCKERR n 0

/-- The first pair of stream buffers that no port has (R259). -/
def freeSlot (b : Block) : Option Nat := (List.range 4).find? fun k => (List.range 16).all fun n => !((b.pxp n).slot == some k)

/-- PIXEL_PORT_ENABLE (R261, R267): at most four ports may be enabled with MODE = 1. -/
def pxEnable (n : Nat) (b : Block) : Block :=
  if b.getF F.PXL_CFG_EN n == 1 then b
  else if b.flag F.PXL_CFG_MODE n &&
      decide (4 ≤ ((List.range 16).filter fun m => b.flag F.PXL_CFG_EN m && b.flag F.PXL_CFG_MODE m).length) then b.pstick F.PXL_STAT_LINKF n
  else ((b.setF F.PXL_CFG_EN n 1).updPx n fun p => { p with fails := 0, slot := if b.flag F.PXL_CFG_MODE n then b.freeSlot else none }).pxTrain n

/-- MODE = 0 frees the pair of stream buffers (R259, R261). -/
def pxModeSync (n : Nat) (b : Block) : Block :=
  if b.flag F.PXL_CFG_MODE n || (b.pxp n).slot.isNone then b else b.updPx n fun p => { p with slot := none, stream := none }

/-- An attempt fails: repeated after 100 ms, or after three failures DOWN with LINKF. -/
def pxFail (n : Nat) (b : Block) : Block :=
  let f := (b.pxp n).fails + 1
  let b := b.updPx n fun p => { p with fails := f, pause := true }
  if 3 ≤ f then ((b.setF F.PXL_STAT_STATE n 4).setF F.PXL_LINK_LSTATE n 5).pstick F.PXL_STAT_LINKF n
  else b.setF F.PXL_LINK_LSTATE n 0

/-- HELLO_TIMEOUT: 5 ms without HELLO. -/
def pxHelloTimeout (n : Nat) (b : Block) : Block :=
  if b.getF F.PXL_LINK_LSTATE n == 1 then b.pxFail n else b

/-- LINKUP_RETRY: 100 ms after a failed attempt. -/
def pxRetry (n : Nat) (b : Block) : Block :=
  if b.pxState n == 1 && (b.pxp n).pause then b.pxTrain n else b

/-- HELLO with its protocol version (R265, R267). -/
def pxHello (n ver : Nat) (b : Block) : Block :=
  if b.getF F.PXL_LINK_LSTATE n == 1 && ver == 1 then
    ((b.setF F.PXL_LINK_LSTATE n 2).pxCmd n 1 []).pxCmd n 3 (leBytes 2 (b.getF F.PXL_LINK_LAMPTO n))
  else b

/-- The geometry of R267. -/
def geomOk (w h : Nat) : Bool :=
  decide (w % 16 = 0 ∧ 16 ≤ w ∧ w ≤ 512 ∧ h % 8 = 0 ∧ 8 ≤ h ∧ h ≤ 256 ∧ w * h ≤ 30720)

/-- INFO: the next six bytes of the block; the eighth message completes it (R265, R267). -/
def pxInfo (n : Nat) (bs : List Byte) (b : Block) : Block :=
  if !(b.getF F.PXL_LINK_LSTATE n == 2) then b
  else
    let info := (b.pxp n).info ++ bs
    let b := b.updPx n fun p => { p with info := info }
    if info.length < 48 then b
    else
      let w := halfAt info 2
      let h := halfAt info 4
      if geomOk w h then
        let b := ((b.setF F.PXL_GEOM_WIDTH n w).setF F.PXL_GEOM_HEIGHT n h).setF F.PXL_CALID_CALID n (ofLe ((info.drop 6).take 4))
        (b.setF F.PXL_LINK_LSTATE n 3).pxCmd n 2 []
      else (b.pxFail n).pstick F.PXL_STAT_GEOMERR n

/-- CAL: the next six bytes of the gains and their CRC-32; the last message completes them (R265, R267). -/
def pxCal (n : Nat) (bs : List Byte) (b : Block) : Block :=
  if !(b.getF F.PXL_LINK_LSTATE n == 3) then b
  else
    let cal := (b.pxp n).cal ++ bs
    let b := b.updPx n fun p => { p with cal := cal }
    let len := 2 * b.pxCount n
    if cal.length < len + 4 then b
    else
      let gains := cal.take len
      let b := (b.updPx n fun p => { p with cal := [] }).writeMem (pxGains n) gains
      if crc32 gains = ofLe ((cal.drop len).take 4) then b.setF F.PXL_LINK_LSTATE n 4
      else (b.pxFail n).pstick F.PXL_STAT_CALERR n

/-- Zone of pixel e out of the zone map, and its diagnosis value (R269). -/
def nib (bs : List Byte) (e : Nat) : Nat := byteAt bs (e / 2) / (if e % 2 = 0 then 1 else 16) % 16
def crumb (bs : List Byte) (e : Nat) : Nat := byteAt bs (e / 4) / 4 ^ (e % 4) % 4

/-- Open and short pixels per zone (R269): list of zone and value of every pixel, then counts. -/
def zoneVals (b : Block) (n : Nat) : List (Nat × Nat) :=
  let c := b.pxCount n
  let z := b.readMem (pxZones n) ((c + 1) / 2)
  let d := b.readMem (pxDiag n) ((c + 3) / 4)
  let zs := z.flatMap fun x => [x.toNat % 16, x.toNat / 16]
  let ds := d.flatMap fun x => [x.toNat % 4, x.toNat / 4 % 4, x.toNat / 16 % 4, x.toNat / 64]
  (zs.zip ds).take c

/-- Zone z is exceeded, given the counts (R270). -/
def zoneOver (b : Block) (n z : Nat) (vs : List (Nat × Nat)) : Bool :=
  decide (b.getF F.PXL_ZONE_OPENMAX (16 * n + z) < (vs.filter fun v => v.1 == z && v.2 == 1).length) ||
  decide (b.getF F.PXL_ZONE_SHORTMAX (16 * n + z) < (vs.filter fun v => v.1 == z && v.2 == 2).length)

/-- SUPCH is commanded off: a software command of rank 8 (R270). -/
def supOff (n : Nat) (b : Block) : Block :=
  let c := b.getF F.PXL_CFG_SUPCH n
  if b.flag F.PXL_CFG_SUPEN n && decide (c < 96) && !Tab.get false b.pw.linkFail (dieOf c) && b.chanMiss c true .no == .no then
    (b.setCmd c 0 0).commandActs c
  else b

/-- Apply ZACT of zone z (R270). An UNBLANK of an earlier clear that still waits is not sent (R271). -/
def zoneAct (n z : Nat) (b : Block) : Block :=
  let a := b.getF F.PXL_ZONE_ZACT (16 * n + z)
  if a = 0 then b
  else if a = 1 then
    let v := min (b.getF F.PXL_LEVEL_LEVEL n) (b.getF F.PXL_ZCFG_ZDIM n)
    let b := (b.updPx n fun p => { p with dim := true, fade := none }).pxFadeOff n
    (b.setF F.PXL_LEVEL_LEVEL n v).setF F.PXL_TARGET_TARGET n v
  else
    let b := b.updPx n fun p => { p with
      blank := true, cmds := [BitVec.ofNat 8 4] :: p.cmds.filter fun c => !(c == [BitVec.ofNat 8 5]) }
    (if b.pxState n == 2 then b.setF F.PXL_STAT_STATE n 3 else b).supOff n

/-- Bring the counts and ZONEMASK up to date; every zone that becomes exceeded reacts (R269, R270). -/
def zoneCheck (n : Nat) (b : Block) : Block :=
  let b := (b.eccRead (pxZones n) ((b.pxCount n + 1) / 2)).1
  let b := (b.eccRead (pxDiag n) ((b.pxCount n + 3) / 4)).1
  let vs := b.zoneVals n
  let b := (b.setF F.PXL_DCNT_OPENCNT n (vs.filter fun v => v.2 == 1).length).setF F.PXL_DCNT_SHORTCNT n
    (vs.filter fun v => v.2 == 2).length
  let old := b.getF F.PXL_STAT_ZONEMASK n
  let new := (List.range 16).foldl (fun m z => if b.zoneOver n z vs then m + 2 ^ z else m) 0
  let b := b.setF F.PXL_STAT_ZONEMASK n new
  ((List.range 16).filter fun z => bit new z && !bit old z).foldl (fun b z =>
    ((b.setF F.PXL_STAT_ZONEX n 1).raiseOpen (168 + n)).zoneAct n z) b

/-- FLAGS: diagnosis values of pixels 16c to 16c + 15, in every state in which the link runs (R265, R269). -/
def pxFlags (n c : Nat) (flags : Word) (b : Block) : Block :=
  let st := b.getF F.PXL_LINK_LSTATE n
  if !(st == 0) && !(st == 5) && decide (16 * c < b.pxCount n) then (b.writeMem (pxDiag n + 4 * c) (leBytes 4 flags.toNat)).zoneCheck n else b

/-- TEMP: up to three sensors; 0x8000 = no sensor (R265, R275, R276). Without any sensor TEMP keeps its value. -/
def pxTemp (n : Nat) (ts : List (BitVec 16)) (b : Block) : Block :=
  let b := (b.updPx n fun p => { p with noTemp := 0 }).setF F.PXL_LTEMP_VALID n 1
  let vs := (ts.filter fun t => !(t == 0x8000#16)).map fun t => t.toInt
  match vs with
  | [] => b
  | v :: vs =>
    let m := vs.foldl max v
    let b := b.setF F.PXL_LTEMP_TEMP n (unsgn 16 m)
    if ((b.getF F.PXL_LTEMP_TWARN n * 16 : Nat) : Int) < m then b.pstick F.PXL_STAT_LAMPOT n else b

/-- STATUS: forward CRC errors, wrapping, counted from the first report since link-up (log 29), and flags (R265, R275, R276). -/
def pxStatus (n errs flags : Nat) (b : Block) : Block :=
  let last := (b.pxp n).errLast.getD errs
  let b := (b.satF F.PXL_LINK_FWDERR n ((errs + 65536 - last) % 65536)).updPx n fun p => { p with errLast := some errs }
  if bit flags 0 then b.pstick F.PXL_STAT_LAMPERR n else b

/-- ACK: code of the acknowledged command and its outcome (R265, R277). -/
def pxAck (n code failed : Nat) (b : Block) : Block :=
  if code = 7 then b.pxFsDone n (if failed = 0 then St.ok else St.hwFault) else b

/-- 250 consecutive invalid back segments in RUN: the link is lost (R268). `n0`: how many must have been counted. -/
def pxLost (n n0 : Nat) (b : Block) : Block :=
  if b.pxState n == 2 && decide (n0 ≤ (b.pxp n).bad) then
    let b := b.pstick F.PXL_STAT_LINKF n
    let b := b.writeMem (pxDiag n) (List.replicate 7680 0xFF)
    let b := (b.updPx n fun p => { p with fails := 0, render := none, ready := false }).syncShoal
    (b.pxTrain n).zoneCheck n
  else b

/-! ### Link cycles (R262–R264) -/

/-- PIXEL cycles of a frame. -/
def pxCycles (b : Block) (n : Nat) : Nat := (3 * b.pxCount n + 1375) / 1376

/-- The codes of a buffer packed two in three bytes (R264). -/
def packCodes : List Byte → List Byte
  | a :: b :: c :: d :: t =>
    let p0 := a.toNat + 256 * b.toNat
    let p1 := c.toNat + 256 * d.toNat
    leBytes 3 (p0 % 4096 + p1 % 4096 * 4096) ++ packCodes t
  | _ => []

/-- A payload padded with zeros to 688 bytes. -/
def pad688 (bs : List Byte) : List Byte := (bs ++ List.replicate 688 0).take 688

/-- Send one forward segment. -/
def pxSend (n h0 h12 : Nat) (payload : List Byte) (b : Block) : Block :=
  let data := pad688 payload
  b.send (.pixel n h0 h12 data (crc16 (leBytes 1 h0 ++ leBytes 2 h12 ++ data)))

/-- One PIXEL cycle of the front buffer; `tot` cycles make the frame (R264). -/
def pixelSeg (n : Nat) (p : PxPort) (tot : Nat) (b : Block) : Block :=
  let b := (b.eccRead (pxBuffer n p.front) (2 * b.pxCount n)).1
  let codes := packCodes (b.readMem (pxBuffer n p.front) (2 * b.pxCount n))
  let h0 := 1 + b2n (p.cycle == 0) * 16 + b2n (p.cycle + 1 == tot) * 32
  (b.updPx n fun p => { p with cycle := p.cycle + 1 }).pxSend n h0 p.cycle ((codes.drop (688 * p.cycle)).take 688)

/-- The forward segment of one 40 µs cycle. A BLANK goes before PIXEL cycles, other commands after them (R264, R270). -/
def forwardSeg (n : Nat) (b : Block) : Block :=
  let p := b.pxp n
  let st := b.getF F.PXL_LINK_LSTATE n
  let blank := match p.cmds with
    | (c :: _) :: _ => c == 4
    | _ => false
  let tot := b.pxCycles n
  let pix := b.pxUp n && decide (p.cycle < tot)
  match p.cmds with
  | c :: cs =>
    if blank || !pix then
      (b.updPx n fun p => { p with cmds := cs, cmdSeq := (p.cmdSeq + 1) % 65536 }).pxSend n 2 p.cmdSeq c
    else b.pixelSeg n p tot
  | [] => if pix then b.pixelSeg n p tot else if st = 1 then b.pxSend n 3 0 [] else if st = 0 ∨ st = 5 then b else b.pxSend n 0 0 []

/-- The back segment of one cycle: an invalid one counts, and the 250th in a row in RUN loses the link; the age of TEMP
(R263, R268, R276). What a valid one says is a command of its own. -/
def backSeg (n : Nat) (s : BackSeg) (b : Block) : Block :=
  let st := b.getF F.PXL_LINK_LSTATE n
  let b :=
    if st = 0 ∨ st = 5 then b
    else
      let b := if s.ok then b else b.satF F.PXL_LINK_BCKERR n 1
      b.updPx n fun p => { p with bad := if s.ok then 0 else p.bad + 1 }
  let q := min 250 ((b.pxp n).noTemp + 1)
  let b := b.updPx n fun p => { p with noTemp := q }
  (if q = 250 then b.setF F.PXL_LTEMP_VALID n 0 else b).pxLost n 250

/-- LINK_CYCLE (R263): its forward segment, then its back segment. -/
def linkCycle (n : Nat) (s : BackSeg) (b : Block) : Block := (b.forwardSeg n).backSeg n s

/-! ### Frames (R247, R248, R253–R255) -/

/-- The level of the port at a frame start (R253). -/
def pxFade (n : Nat) (b : Block) : Block :=
  let p := b.pxp n
  match p.fade with
  | none => b
  | some f =>
    if f.frozen then b
    else
      let passed := if f.started then min f.total (f.passed + b.pxPeriod n) else 0
      let t := f.target.headD 0
      if f.total ≤ passed then ((b.updPx n fun p => { p with fade := none }).pxFadeOff n).setF F.PXL_LEVEL_LEVEL n t
      else
        let v := fadeValue (b.flag F.PXL_CFG_CURVE n) (f.start.headD 0) t passed f.total
        let b := b.updPx n fun p => { p with fade := some { f with passed := passed, started := true } }
        (b.setF F.PXL_LEVEL_LEVEL n v).setF F.PXL_FADE_REMAIN n ((f.total - passed + 999) / 1000)

/-- Entries of PX_PATCH written to the active list (R255). -/
def putPatches (n : Nat) (b : Block) : Block :=
  let p := b.pxp n
  let b := p.patch.foldl (fun b e => b.writeMem (pxList n p.list + 32 * e.1) e.2) b
  b.updPx n fun p => { p with patch := [] }

/-- A waiting list becomes active, patches take effect, a cross-fade moves on (R254, R255). -/
def pxLists (n : Nat) (b : Block) : Block :=
  let p := b.pxp n
  let b := match p.xfade with
    | none => b
    | some (t, x) =>
      if p.frozen then b
      else
        let t := t + b.pxPeriod n
        if x ≤ t then (b.updPx n fun p => { p with xfade := none }).setF F.PXL_FADE_XFADING n 0
        else b.updPx n fun p => { p with xfade := some (t, x) }
  let b := match p.loaded with
    | none => b
    | some x =>
      let b := b.updPx n fun p => { p with list := 1 - p.list, loaded := none, xfade := if x = 0 then none else some (0, 1000 * x) }
      b.setF F.PXL_FADE_XFADING n (b2n (!(x == 0)))
  b.putPatches n

/-- The render of the next frame starts: its lists, level and stream are fixed (R247). A streamed one reads no list (R261). -/
def pxRender (n : Nat) (b : Block) : Block :=
  let p := b.pxp n
  let level := b.getF F.PXL_LEVEL_LEVEL n
  if b.flag F.PXL_CFG_MODE n then
    let buf := p.slot.bind fun k => p.stream.map (pxStream k)
    (b.updPx n fun p => { p with render := some { level := level, stream := some buf } }).syncShoal
  else
  let b := (b.eccRead (pxList n p.list) 8192).1
  let b := if p.xfade.isSome then (b.eccRead (pxList n (1 - p.list)) 8192).1 else b
  let now := b.readMem (pxList n p.list) 8192
  let old := p.xfade.map fun _ => b.readMem (pxList n (1 - p.list)) 8192
  let x := p.xfade.getD (0, 0)
  let r : Render := { now := now, old := old, passed := x.1, xfade := x.2, level := level }
  (b.updPx n fun p => { p with render := some r }).syncShoal

/-- PIXEL_FRAME_START (R247, R248): a port whose link is up enters RUN, or BLANKED while a reaction is in force. -/
def pxFrameStart (n : Nat) (b : Block) : Block :=
  let b :=
    if b.pxState n == 1 && b.getF F.PXL_LINK_LSTATE n == 4 then
      let b := b.updPx n fun p => { p with fails := 0 }
      (if (b.pxp n).blank then b.pxBlank n else b.setF F.PXL_STAT_STATE n 2).zoneCheck n
    else b
  if !b.pxUp n then b
  else
    let p := b.pxp n
    let late := p.render.isSome
    let b := if late then (b.satF F.PXL_RENDER_LATECNT n 1).pstick F.PXL_STAT_LATE n else b
    let b := b.updPx n fun p => { p with cycle := 0, ready := false, front := if p.ready then 1 - p.front else p.front }
    let b := (b.pxFade n).pxLists n
    if late then b else b.pxRender n

/-- Point P[j] of the port's output curve (R252, R276). -/
def curveAt (b : Block) (n j : Nat) : Nat :=
  if j % 2 = 0 then b.getF F.PXL_OCURVE_PA (17 * n + j / 2) else b.getF F.PXL_OCURVE_PB (17 * n + j / 2)

/-- Luminance of every pixel of a render, row by row (R251, R254, R261). -/
def renderY (b : Block) (n : Nat) (r : Render) : List Nat :=
  let w := b.pxW n
  let pool (a : Nat) : Byte := Mem.read b.mem (pxPool + a)
  let now := drawn r.now
  let old := r.old.map drawn
  let frame := match r.stream with
    | some (some a) => b.readMem a (2 * b.pxCount n)
    | _ => []
  (List.range (b.pxCount n)).map fun e =>
    match r.stream with
    | some _ => halfAt frame (2 * e)
    | none =>
      let free := (Config.freeValue (b.free + e)).toNat
      let y := pixelY pool now free (e % w) (e / w)
      match old with
      | none => y
      | some o =>
        let yo := pixelY pool o free (e % w) (e / w)
        nearest (((yo * (r.xfade - r.passed) + y * r.passed : Nat) : Rat) / r.xfade)

/-- The reads of a render in protected memory: assets, or the stream buffer (R322). -/
def renderEcc (n : Nat) (r : Render) (b : Block) : Block :=
  match r.stream with
  | some (some a) => (b.eccRead a (2 * b.pxCount n)).1
  | some none => b
  | none => (drawn r.now ++ (r.old.map drawn).getD []).foldl (fun b p =>
      if (primType p == 5 || primType p == 6) && !assetBeyond p then (b.eccRead (pxPool + primAsset p) (assetSize p)).1 else b) b

/-- RENDER_COMPLETE (R247, R251, R252, R257): the shoal completes the render into the back buffer. `load`: measured
load in millions of operations per second, `tooMuch`: it was above 100 %. -/
def renderDone (n load : Nat) (tooMuch : Bool) (b : Block) : Block :=
  let p := b.pxp n
  match p.render with
  | none => b
  | some r =>
    let b := ((b.eccRead (pxGains n) (2 * b.pxCount n)).1).renderEcc n r
    let gains := b.readMem (pxGains n) (2 * b.pxCount n)
    let ys := b.renderY n r
    let codes := (ys.zipIdx).map fun y => outCode (b.curveAt n) (halfAt gains (2 * y.2)) r.level y.1
    let prims := if r.stream.isSome then [] else drawn r.now ++ (r.old.map drawn).getD []
    let cost := if r.stream.isSome then b.pxCount n
      else listCost (drawn r.now) (b.pxW n) (b.pxH n) + (r.old.map fun o => listCost (drawn o) (b.pxW n) (b.pxH n)).getD 0
    let b := { b with free := if prims.any gradOpen then b.free + b.pxCount n else b.free }
    let b := b.writeMem (pxBuffer n (1 - p.front)) (codes.flatMap (leBytes 2))
    let b := (b.updPx n fun p => { p with render := none, ready := true }).syncShoal
    let b := b.setF F.PXL_RENDER_COST n cost
    let b := (b.setF F.PXL_LOAD_LOAD 0 load).setF F.PXL_LOAD_PEAK 0 (max load (b.getF F.PXL_LOAD_PEAK 0))
    let b := if tooMuch then b.setF F.PXL_SHOAL_OVER 0 1 else b
    if prims.any assetBeyond then b.pstick F.PXL_STAT_ASSETERR n else b

/-! ### Descriptors (R277, R278) -/

/-- Ports of the mask in DW8. -/
def pxMask (d : Desc) : List Nat := (List.range 16).filter fun n => bit (d.dw 8) n

/-- In weir HOLD every PX descriptor but PX_READ is refused (R273). -/
def pxHeld (b : Block) : Bool := b.weirState == 2

/-- Port n is not applied: its link is not up or its MODE does not match (R278). -/
def pxMiss (b : Block) (n : Nat) (mode : Option Bool) : Bool :=
  !b.pxUp n || (match mode with
    | some m => !(b.flag F.PXL_CFG_MODE n == m)
    | none => false)

/-- Apply a change to the ports that take it, and the completion (R157, R278). -/
def pxParts (sel : List Nat) (no : Nat → Bool) (k : Nat → Block → Block) (b : Block) : Block × Compl :=
  let hit := sel.filter fun n => !no n
  let miss := sel.filter no
  let none := if !b.pxHeld && sel.all fun n => b.pxState n == 0 then St.disabled else St.refused
  (hit.foldl (fun b n => k n b) b,
    { status := partStatus hit.length miss.length none, cw2 := hit.length + miss.length * 256, cw3 := miss.foldl (fun m n => m ||| 2 ^ n) 0 })

/-- PX_SCENE (R254, R277). -/
def pxScene (d : Desc) (b : Block) : Block × Compl :=
  let ps := pieces 32 256 (d.payload.take d.len)
  if !(d.ok 0x50 32 8192 [0, 0, 0, 0x100FFFF, 0xFFFF]) || !(d.len % 32 == 0) || (pxMask d).isEmpty then (b, .of St.badDesc)
  else match ps.zipIdx.find? fun p => primBad p.1 with
    | some p => (b, { status := St.badDesc, cw2 := p.2 })
    | none =>
      b.pxParts (pxMask d) (fun n => b.pxHeld || b.pxMiss n (some false)) fun n b =>
        let b := b.putPatches n
        let p := b.pxp n
        let b := b.writeMem (pxList n (1 - p.list)) ((d.payload.take d.len) ++ List.replicate (8192 - d.len) 0)
        (b.updPx n fun p => { p with loaded := some (d.dw 9), xfade := Option.none, frozen := false }).setF F.PXL_FADE_XFADING n 0

/-- PX_PATCH (R255, R277). -/
def pxPatch (d : Desc) (b : Block) : Block × Compl :=
  let es := (pieces 36 16 (d.payload.take d.len)).map fun e => (ofLe (e.take 4), e.drop 4)
  let n := bits (d.dw 8) 3 0
  if !(d.ok 0x51 36 576 [0, 0, 0, 0xF]) || !(d.len % 36 == 0) || es.any (fun e => decide (255 < e.1)) then (b, .of St.badDesc)
  else match es.find? fun e => primBad e.2 with
    | some e => (b, { status := St.badDesc, cw2 := e.1 })
    | none =>
      b.pxParts [n] (fun n => b.pxHeld || b.pxMiss n (some false)) fun n b => b.updPx n fun p => { p with patch := p.patch ++ es }

/-- PX_LEVEL (R253, R270, R277). -/
def pxLevel (d : Desc) (b : Block) : Block × Compl :=
  if !(d.ok 0x52 0 0 [0, 0, 0, 0x100FFFF, 0x1FFFF, 0xFFFF]) || decide (65536 < d.dw 9) || (pxMask d).isEmpty then (b, .of St.badDesc)
  else b.pxParts (pxMask d) (fun n => b.pxHeld || b.pxMiss n none) fun n b =>
    let t := if (b.pxp n).dim then min (d.dw 9) (b.getF F.PXL_ZCFG_ZDIM n) else d.dw 9
    let l := b.getF F.PXL_LEVEL_LEVEL n
    let b := (b.pxFadeOff n).setF F.PXL_TARGET_TARGET n t
    if l = t then b.updPx n fun p => { p with fade := Option.none }
    else
      let f : Fade := { start := [l], target := [t], total := 1000 * d.dw 10 }
      ((b.updPx n fun p => { p with fade := some f }).setF F.PXL_FADE_FADING n 1).setF F.PXL_FADE_REMAIN n (d.dw 10)

/-- A render in progress reads bytes of the pool from off for len; a primitive that R250 skips reads none (R260). -/
def poolRead (b : Block) (off len : Nat) : Bool :=
  (List.range 16).any fun n => match (b.pxp n).render with
    | none => false
    | some r => r.stream.isNone && (drawn r.now ++ (r.old.map drawn).getD []).any fun p =>
        (primType p == 5 || primType p == 6) && !assetBeyond p && decide (primAsset p < off + len ∧ off < primAsset p + assetSize p)

/-- PX_ASSET (R260, R277): a write that a render in progress reads is held off. -/
def pxAsset (d : Desc) (b : Block) : Block :=
  let off := d.dw 9
  let ok := d.ok 0x53 4 65536 [0, 0, 0, 0, 0x3FFFFF] && d.len % 4 == 0 && decide (off + d.len ≤ pxPoolSize)
  b.runDeferred d ok fun b =>
    if b.pxHeld then b.complete d (.of St.refused)
    else if b.poolRead off d.len then { b with px := { b.px with held := b.px.held ++ [d] } }
    else (b.writeMem (pxPool + off) (d.payload.take d.len)).complete d (.of St.ok)

/-- PX_ASSET_WRITE_DONE (R260): the oldest held write that no render reads any more is made. -/
def assetDone (b : Block) : Block :=
  match b.px.held.find? fun d => !b.poolRead (d.dw 9) d.len with
  | none => b
  | some d =>
    let b := { b with px := { b.px with held := b.px.held.erase d } }
    (b.writeMem (pxPool + d.dw 9) (d.payload.take d.len)).complete d (.of St.ok)

/-- A port with MODE = 1 has a pair of stream buffers, or one is free for it: it has none where MODE was set while it was
enabled (R259, R261, log 174). -/
def hasSlot (b : Block) (n : Nat) : Bool := (b.pxp n).slot.isSome || b.freeSlot.isSome

/-- A complete streamed frame goes to the buffer of the port's pair that no render reads and, but for that, to the one
that does not hold the latest frame (R259, R261). -/
def streamIn (n : Nat) (data : List Byte) (b : Block) : Block :=
  let p := b.pxp n
  match p.slot.or b.freeSlot with
  | none => b
  | some k =>
    let reads (i : Nat) : Bool := p.render.any fun r => r.stream == some (some (pxStream k i))
    let i := if reads 0 then 1 else if reads 1 then 0 else if p.stream == some 0 then 1 else 0
    (b.writeMem (pxStream k i) data).updPx n fun p => { p with slot := some k, stream := some i }

/-- PX_FRAME (R261, R277). -/
def pxFrame (d : Desc) (b : Block) : Block × Compl :=
  let n := bits (d.dw 8) 3 0
  if !(d.ok 0x54 4 65536 [0, 0, 0, 0xF]) || (b.pxUp n && !(d.len == 2 * b.pxCount n)) then (b, .of St.badDesc)
  else b.pxParts [n] (fun n => b.pxHeld || b.pxMiss n (some true) || !b.hasSlot n) fun n b => b.streamIn n (d.payload.take d.len)

/-- PX_ZONE (R269, R277): LOCKED once set-up is closed. -/
def pxZone (d : Desc) (b : Block) : Block × Compl :=
  let n := bits (d.dw 8) 3 0
  if !(d.ok 0x55 4 65536 [0, 0, 0, 0xF]) || (b.pxUp n && !(d.len == b.pxCount n / 2)) then (b, .of St.badDesc)
  else if b.isLocked && !b.pxHeld then (b, .of St.locked)
  else b.pxParts [n] (fun n => b.pxHeld || b.pxMiss n none) fun n b => (b.writeMem (pxZones n) (d.payload.take d.len)).zoneCheck n

/-- PX_READ (R277). -/
def pxRead (d : Desc) (b : Block) : Block × Compl :=
  let n := bits (d.dw 8) 3 0
  let map := bit (d.dw 9) 0
  let len := 64 + (if map then b.pxCount n / 4 else 0)
  if !(d.ok 0x56 len 65536 [0, 0, 0, 0xF, 1]) then (b, .of St.badDesc)
  else
    let rs := [R.PXL_CFG, R.PXL_LINK, R.PXL_GEOM, R.PXL_CALID, R.PXL_LEVEL, R.PXL_TARGET, R.PXL_FADE, R.PXL_STAT,
      R.PXL_RENDER, R.PXL_DCNT, R.PXL_LTEMP, R.PXL_ZCFG]
    let head := rs.flatMap (fun r => leBytes 4 (b.rd r n)) ++ List.replicate 16 0
    (if map then (b.eccRead (pxDiag n) (b.pxCount n / 4)).1 else b,
      { status := St.ok, cw2 := 1, data := head ++ (if map then b.readMem (pxDiag n) (b.pxCount n / 4) else []) })

/-- The reactions of a port end; those of zones still exceeded apply again at once (R271–R273). -/
def pxZoneClear (n : Nat) (b : Block) : Block :=
  let b := b.zoneCheck n
  let was := (b.pxp n).blank
  let b := b.updPx n fun p => { p with dim := false, blank := false, showFs := false, cmds := p.cmds.filter fun c => !(c == [BitVec.ofNat 8 4]) }
  let b := if b.pxState n == 3 then b.setF F.PXL_STAT_STATE n 2 else b
  let b := ((List.range 16).filter fun z => bit (b.getF F.PXL_STAT_ZONEMASK n) z).foldl (fun b z => b.zoneAct n z) b
  if was && !(b.pxp n).blank then b.pxCmd n 5 [] else b

/-- PX_CLEAR (R271–R273, R277). A port in DOWN takes it where RELINK = 1 (R272, log 28). -/
def pxClear (d : Desc) (b : Block) : Block × Compl :=
  if !(d.ok 0x57 0 0 [0, 0, 0, 0xFFFF, 7]) || (pxMask d).isEmpty then (b, .of St.badDesc)
  else
    let relink := bit (d.dw 9) 2
    b.pxParts (pxMask d) (fun n => b.pxHeld || b.pxMiss n none && !(relink && b.pxState n == 4)) fun n b =>
      let b := if bit (d.dw 9) 0 then
          (b.wr R.PXL_STAT n (putBits (b.rd R.PXL_STAT n) 11 4 0)).setF F.PXL_RENDER_LATECNT n 0 else b
      let b := if bit (d.dw 9) 1 && b.pxUp n then b.pxZoneClear n else b
      if relink && b.pxState n == 4 then (b.updPx n fun p => { p with fails := 0 }).pxTrain n else b

/-- The commands that carry a fail-safe image to the lamp (R264). -/
def fsCommands (img : List Byte) : List (List Byte) :=
  ((pieces 600 110 img).zipIdx.map fun p => [BitVec.ofNat 8 6] ++ leBytes 3 (600 * p.2) ++ p.1) ++
  [[BitVec.ofNat 8 7] ++ leBytes 4 (crc32 img)]

/-- PX_FSIMG (R277): completes when the lamp sends ACK. -/
def pxFsImg (d : Desc) (b : Block) : Block :=
  let n := bits (d.dw 8) 3 0
  let ok := d.ok 0x58 4 65536 [0, 0, 0, 0xF] && (!b.pxUp n || d.len == 2 * b.pxCount n)
  b.runDeferred d ok fun b =>
    if b.pxHeld || b.pxMiss n none then b.complete d { status := if b.pxState n = 0 && !b.pxHeld then St.disabled else St.refused, cw2 := 256, cw3 := 2 ^ n }
    else if (b.pxp n).fsimg.isSome then b.complete d (.of St.busy)
    else b.updPx n fun p => { p with fsimg := some d, cmds := p.cmds ++ fsCommands (d.payload.take d.len) }

end Block

end Sys2Proof.Machine
end

