-- ==== Sys2Proof/Machine/Setup.lean ====
section
/-! DEFINITION. Reads and writes of the set-up register space as a whole: the access types of R21, the fields whose
write has an effect of its own, the registers whose read has one, and the order of R58. -/
namespace Sys2Proof.Machine

/-! ### Access types (R21, R22, R56–R58) -/

/-- The value that a write of word w would store in field f. -/
def Fld.value (f : Fld) (w : Nat) : Nat := f.lim.elim (bits w f.hi f.lo) fun l => clampTo l.1 l.2 (bits w f.hi f.lo)

/-- Word `acc` with field f as a write of w leaves it; `old` is the word before the write. -/
def Fld.merge (locked : Bool) (old w acc : Nat) (f : Fld) : Nat :=
  match f.acc with
  | .rw => putBits acc f.hi f.lo (f.value w)
  | .rl => if locked then acc else putBits acc f.hi f.lo (f.value w)
  | .w1c => let o := bits old f.hi f.lo; putBits acc f.hi f.lo (o - (o &&& bits w f.hi f.lo))
  | .ro => acc
  | .wo => acc

/-- The write would change an RL field of the closed set-up. -/
def Fld.late (locked : Bool) (old w : Nat) (f : Fld) : Bool := locked && f.acc == .rl && !(f.value w == bits old f.hi f.lo)

/-- The word that a write of w leaves in a register that held `old`. -/
def Reg.merge (r : Reg) (locked : Bool) (old w : Nat) : Nat := r.flds.foldl (Fld.merge locked old w) old

/-- The write is recorded as late: once for all RL fields of the word. DEDUCED: a write that leaves every RL field
as it is ignores nothing. -/
def Reg.late (r : Reg) (locked : Bool) (old w : Nat) : Bool := r.flds.any (Fld.late locked old w)

/-- Element number of register r at offset off, if it has one there. -/
def Reg.index (r : Reg) (off : Nat) : Option Nat :=
  let d := off - r.base
  let n := if r.outer = 0 then d / r.stride else d / r.outer * r.per + d % r.outer / r.stride
  if r.base ≤ off ∧ n < r.count ∧ r.at n = off then some n else none

/-- The register at a set-up offset, and its element number. -/
def findReg (off : Nat) : Option (Reg × Nat) := regTable.findSome? fun r => (r.index off).map fun n => (r, n)

/-- Field effects of a write: register, element, word. -/
abbrev WriteHook := Nat → Nat → Block → Block

/-- The entry for register r of a list of write effects. -/
def hookOf (r : Reg) : List (Reg × WriteHook) → Option WriteHook
  | [] => Option.none
  | (q, h) :: t => if q.base = r.base then some h else hookOf r t

namespace Block

/-- Write word w to register r, element n, by the access types alone. -/
def storeWord (r : Reg) (n w : Nat) (b : Block) : Block :=
  let old := b.rd r n
  let late := r.late b.isLocked old w
  whenB late lateWrite (b.wr r n (r.merge b.isLocked old w))

/-- The word with a one-bit field replaced by what the field holds. -/
def keepBit (b : Block) (f : RegField) (n w : Nat) : Nat := putBits w f.hi f.lo (b.getF f n)

/-- A write to a register whose field EN has an effect of its own: the other fields first, then the change of EN. -/
def edge (en : RegField) (up down : Nat → Block → Block) (n w : Nat) (b : Block) : Block :=
  let was := b.flag en n
  let b := b.storeWord en.reg n (b.keepBit en n w)
  if bit w en.lo && !was then up n b else if !bit w en.lo && was then down n b else b

/-- As `edge`, for a field EN of type RL: set-up closed, nothing but the record of a late write follows. -/
def edgeRl (en : RegField) (up down : Nat → Block → Block) (n w : Nat) (b : Block) : Block :=
  if b.isLocked then b.storeWord en.reg n w else b.edge en up down n w

/-- A write to a register whose RL field EN takes a 1 with an effect of its own and never a 0 (R151, R508). -/
def onceSet (en : RegField) (up : Block → Block) (n w : Nat) (b : Block) : Block :=
  if b.isLocked then b.storeWord en.reg n (if b.flag en n then putBits w en.hi en.lo 1 else w)
  else whenB (bit w en.lo) up (b.storeWord en.reg n (b.keepBit en n w))

/-- A write that clears a W1C field which has an effect of its own: the effect, then the other fields. -/
def onClear (f : RegField) (k : Nat → Block → Block) (n w : Nat) (b : Block) : Block :=
  let hit := bit w f.lo && b.flag f n
  let b := b.storeWord f.reg n w
  whenB hit (k n) b

/-- A write that clears a LOCKED bit by the operation that clears the lock (R126, R198, R211). -/
def onUnlock (f : RegField) (k : Nat → Block → Block) (n w : Nat) (b : Block) : Block :=
  let hit := bit w f.lo
  let b := b.storeWord f.reg n (putBits w f.hi f.lo 0)
  whenB hit (k n) b

/-! ### SYS and PWR (R55, R58, R88–R97) -/

/-- SYS_LOCK_WRITE (R55, R56, R58): the key closes set-up once; any other value sets BADKEY. -/
def lockWrite (who : Who) (key : Nat) (b : Block) : Block :=
  if !(key == 0x5EA1) then b.setF F.SYS_LOCKSTAT_BADKEY 0 1
  else if b.isLocked then b
  else (b.setF F.SYS_LOCKSTAT_LOCKED 0 1).setF F.SYS_LOCKSTAT_LOCKSRC 0 (b2n (who == .host))

/-- SYS_LOCKSTAT: clearing LATEWR also clears LATECNT (R56). -/
def lockStatWrite (n w : Nat) (b : Block) : Block := whenB (bit w 3) (fun b => b.setF F.SYS_LOCKSTAT_LATECNT 0 0) (b.storeWord R.SYS_LOCKSTAT n w)

/-- PWR_CFG: the feeds are judged by the table that SYSV selects (R65). -/
def sysvWrite (n w : Nat) (b : Block) : Block :=
  let was := b.getF F.PWR_CFG_SYSV 0
  let b := b.storeWord R.PWR_CFG n w
  if b.getF F.PWR_CFG_SYSV 0 = was then b else b.reband

/-- PWR_WAKEFIRST: clearing VALID also clears SRC and TICKS (R95). -/
def wakeFirstClear (n : Nat) (b : Block) : Block := (b.setF F.PWR_WAKEFIRST_SRC n 0).setF F.PWR_WAKETIME_TICKS n 0

/-! ### WEIR (R130, R135, R590, R639) -/

/-- WEIR_HEARTBEAT with what a reclaim ends in the pair (R130, R639). -/
def heartbeatIn (seq crc : Nat) (b : Block) : Block := (b.heartbeat seq crc).pairReclaim b.weirState

/-- WEIR_RECLAIM_EXPIRY with its effect on the release (R136, R590). -/
def reclaimEnd (b : Block) : Block := whenB (b.weirState == 2) accApplied b.reclaimExpiry

/-! ### HSW, HB, VLV (R103, R109, R148, R210, R217, R218) -/

/-- HSW_CFG (R145, R217, R218): LAMP changes only while EN = 0 before the write, PAR reads 0 on odd channels, and setting
LAMP clips PERIOD. -/
def hswCfg (n w : Nat) (b : Block) : Block :=
  let on := b.flag F.HSW_CFG_EN n
  let lamp := b.flag F.HSW_CFG_LAMP n
  let pair := b.isPair n
  let w := if n % 2 = 1 then putBits w 3 3 0 else w
  let w := if on && !b.isLocked then b.keepBit F.HSW_CFG_LAMP n w else w
  let b := b.storeWord R.HSW_CFG n (b.keepBit F.HSW_CFG_EN n w)
  let b := if b.flag F.HSW_CFG_LAMP n && !lamp && decide (1600000 < b.getF F.HSW_PWM_PERIOD n) then b.setF F.HSW_PWM_PERIOD n 1600000 else b
  let b := whenB (n % 2 == 0 && !(b.isPair n == pair)) (rejoin n) b
  if bit w 0 && !on then b.chEnable n else if !bit w 0 && on then b.chDisable n else b

/-- HSW_PWM (R103, R218): PERIOD is stored as the nearer limit of its class and mode. -/
def hswPwm (n w : Nat) (b : Block) : Block :=
  b.storeWord R.HSW_PWM n (clampTo (periodMin n) (if b.flag F.HSW_CFG_LAMP n then 1600000 else 16000000) (bits w 23 0))

/-- HB_CFG (R176): FB reads 0 on odd half-bridges; a change of FB on an even one joins or splits the bridge. -/
def hbCfg (n w : Nat) (b : Block) : Block :=
  let p := 96 + n
  let on := b.flag F.HB_CFG_EN n
  let pair := b.isPair p
  let b := b.storeWord R.HB_CFG n (b.keepBit F.HB_CFG_EN n (if n % 2 = 1 then putBits w 1 1 0 else w))
  let b := whenB (n % 2 == 0 && !(b.isPair p == pair)) (fun b => (b.rejoin p).updFb (n / 2) fun _ => {}) b
  if bit w 0 && !on then b.chEnable p else if !bit w 0 && on then b.chDisable p else b

/-- VLV_CFG and VLV_COIL (R210). -/
def vlvCfg (n w : Nat) (b : Block) : Block :=
  let was := b.flag F.VLV_CFG_EN n
  let c := b.storeWord R.VLV_CFG n (b.keepBit F.VLV_CFG_EN n w)
  let c := if bit w 0 then (if was then c else c.vlEnable n)
    else if was || !(c.vlSt n == Vl.disabled) then c.vlDisable n else c
  c.vlCfgActs n (b.rd R.VLV_CFG n)
def vlvCoil (n w : Nat) (b : Block) : Block := (b.storeWord R.VLV_COIL n w).vlCoilActs n (b.rd R.VLV_COIL n)

/-- VLV_THERM (R210): TMAX is at least TDER + 1. -/
def vlvTherm (n w : Nat) (b : Block) : Block :=
  b.storeWord R.VLV_THERM n (putBits w 23 16 (clampTo (min 255 (bits w 15 8 + 1)) 255 (bits w 23 16))) |>.vlThermActs (b.factorNow n) n

/-- VLV_PROFA, VLV_PROFB, VLV_PROFC (R213, R635): a profile of a mirrored table goes to the follower. -/
def vlvProf (r : Reg) (p w : Nat) (b : Block) : Block := let b := b.storeWord r p w; b.pairLoad (b.profLoads p)

/-- BST_CFG (R184–R186): VSET and RDYM act at once, and EN written 1 again restarts a converter in FAULT. -/
def bstCfg (j w : Nat) (b : Block) : Block :=
  let was := b.flag F.BST_CFG_EN j
  let b := (b.storeWord R.BST_CFG j (b.keepBit F.BST_CFG_EN j w)).boostSync j
  if bit w 0 then b.boostEnable j else if was then b.boostDisable j else b

/-! ### LMP, MTX (R223, R242) -/

/-- LMP_GRP (R223, R241): RL fields; a write with set-up closed changes nothing. -/
def lmpGrp (g w : Nat) (b : Block) : Block := if b.isLocked then b.storeWord R.LMP_GRP g w else b.grpWrite g w

/-- MTX_CFG: EN acts, and EN written 1 again restarts a port that VMX_FAULT has stopped (R232). -/
def mtxCfg (k w : Nat) (b : Block) : Block :=
  let b := b.edge F.MTX_CFG_EN mtxEnable mtxDisable k w
  if bit w 0 && b.getF F.MTX_STAT_STATE k == 3 then b.mtxEnable k else b

/-- DIO_DICFG (R281, R300): EN acts; WKMODE and WKCNT exist for DI0–DI15 only. -/
def diCfg (n w : Nat) (b : Block) : Block := b.edge F.DIO_DICFG_EN diEnable diDisable n (if n < 16 then w else putBits w 21 13 0)

/-- DIO_SVCFG (R301): EN written 1 also turns on a supply that is commanded off. -/
def svCfg (k w : Nat) (b : Block) : Block :=
  (b.storeWord R.DIO_SVCFG k (b.keepBit F.DIO_SVCFG_EN k w)).svWrite k (bit w 0)

/-! ### HQ (R389, R416) -/

/-- A write to a field that is writable only while its queue is DISABLED (R389). -/
def hqGuarded (st err : RegField) (r : Reg) (n w : Nat) (b : Block) : Block :=
  if b.getF st n = 0 then b.storeWord r n w else b.setF err n 1

/-- HQ_QCFG and HQ_EQCFG: EN acts; a change of another field needs the queue DISABLED (R389). DEDUCED: EN shares its
word with them, so a write that changes none of them writes EN alone. -/
def hqCfg (st err en : RegField) (up down : Nat → Block → Block) (n w : Nat) (b : Block) : Block :=
  let old := b.rd en.reg n
  if b.getF st n = 0 then b.edge en up down n w
  else
    let b := if en.reg.merge false old (putBits w en.hi en.lo (b.getF en n)) = old then b else b.setF err n 1
    b.edge en up down n (putBits old en.hi en.lo (bits w en.hi en.lo))

/-! ### CHN, CIPH, ACS, UPD -/

/-- CIPH_CFG.EN 0: the units stop for new jobs, and access with them (R558, R574); the firmware ring's descriptors now
complete with DISABLED. -/
def ciphStop (b : Block) : Block := (b.cipherDisable.gwqDrop.fwFetch 64).accSync

/-- UPD_CFG: a new source of the speed has delivered no value yet (R614). -/
def updCfg (n w : Nat) (b : Block) : Block :=
  let old := bits (b.rd R.UPD_CFG 0) 4 0
  let b := b.storeWord R.UPD_CFG n w
  if bits (b.rd R.UPD_CFG 0) 4 0 = old then b else { b with boot := { b.boot with spdOk := false, speed := 0xFFFF } }

/-- UPD_GUARD: the supervisor's values are fresh for 1 s (R614). -/
def updGuard (n w : Nat) (b : Block) : Block :=
  let b := b.storeWord R.UPD_GUARD n w
  let own := b.getF F.UPD_CFG_SPDSRC 0 == 0
  { b with boot := { b.boot with parkOk := true, spdOk := own || b.boot.spdOk } }

/-! ### The effects by block -/

/-- Blocks SYS, PWR, CATCH, WEIR. -/
def hooksA (who : Who) : List (Reg × WriteHook) :=
  [(R.SYS_LOCK, fun _ w => lockWrite who (bits w 15 0)), (R.SYS_LOCKSTAT, lockStatWrite), (R.PWR_CFG, sysvWrite),
    (R.PWR_DOMCTL, fun _ w => domWrite w), (R.PWR_STILL, fun _ w => stillRequest who.isSup (bits w 15 0) none),
    (R.PWR_WAKEFIRST, onClear F.PWR_WAKEFIRST_VALID wakeFirstClear),
    (R.PWR_RTC0, fun _ w => rtcLow w), (R.PWR_RTC1, fun _ w => rtcHigh (bits w 15 0)),
    (R.PWR_RTCALM0, fun _ w => rtcAlarmLow w), (R.PWR_RTCALM1, fun _ w => rtcAlarmHigh (bits w 15 0)),
    (R.CATCH_COUNT, fun _ w => whenB (bit w 31) countClear), (R.CATCH_LOGPTR, fun _ w => whenB (bit w 31) logClear),
    (R.CATCH_INJ, fun _ w => injWrite w), (R.CATCH_INJADDR, fun _ w => injAddr w), (R.CATCH_FORCE, forceWrite),
    (R.WEIR_CFG, fun n => onceSet F.WEIR_CFG_ARM weirArm n),
    (R.WEIR_HB, fun _ w => heartbeatIn (bits w 15 0) (bits w 23 16)),
    (R.WEIR_RECLAIM, fun _ w => reclaimKey (bits w 15 0))]

/-- Blocks HSW, HB, VLV, BST. -/
def hooksB : List (Reg × WriteHook) :=
  [(R.HSW_CFG, hswCfg), (R.HSW_PWM, hswPwm), (R.HSW_STAT, onUnlock F.HSW_STAT_LOCKED chUnlock),
    (R.HB_CFG, hbCfg), (R.HB_STAT, onUnlock F.HB_STAT_LOCKED fun n => chUnlock (96 + n)),
    (R.VLV_CFG, vlvCfg), (R.VLV_COIL, vlvCoil), (R.VLV_STAT, onUnlock F.VLV_STAT_LOCKED vlUnlock), (R.VLV_THERM, vlvTherm),
    (R.VLV_PROFA, vlvProf R.VLV_PROFA), (R.VLV_PROFB, vlvProf R.VLV_PROFB), (R.VLV_PROFC, vlvProf R.VLV_PROFC),
    (R.BST_CFG, bstCfg), (R.BST_BSTAT, onUnlock F.BST_BSTAT_LOCKED bankUnlock)]

/-- Blocks LMP, MTX, PXL, DIO. -/
def hooksC : List (Reg × WriteHook) :=
  [(R.LMP_GRP, lmpGrp), (R.MTX_CFG, mtxCfg), (R.PXL_CFG, fun n w b => (b.edge F.PXL_CFG_EN pxEnable pxDisable n w).pxModeSync n),
    (R.PXL_ZONE, fun m w b => (b.storeWord R.PXL_ZONE m w).zoneCheck (m / 16)),
    (R.PXL_OCURVE, fun n w => storeWord R.PXL_OCURVE n (if n % 17 = 16 then bits w 15 0 else w)),
    (R.PXL_STAT, onClear F.PXL_STAT_LATE fun n b => b.setF F.PXL_RENDER_LATECNT n 0),
    (R.DIO_DICFG, diCfg), (R.DIO_DOCFG, fun m w b => (b.edge F.DIO_DOCFG_EN doEnable doDisable m w).doSync m),
    (R.DIO_SVCFG, svCfg)]

/-- ETH_PCFG.EN 1 by a plain write: the cable test finds an open value of CABDIAG (R345). -/
def ethStart (p : Nat) (b : Block) : Block := let (x, b) := b.fresh; b.ethEnable p (x.toNat % 5)

/-- ETH_PCFG: EN acts, and port 4 has no other field (R359). -/
def ethCfg (p w : Nat) (b : Block) : Block := b.edge F.ETH_PCFG_EN ethStart ethPortOff p (if p = 4 then w % 2 else w)

/-- Blocks CAN, LIN, ETH, GW, CDC. -/
def hooksD : List (Reg × WriteHook) :=
  [(R.CAN_CFG, edge F.CAN_CFG_EN canEnable canDisable), (R.LIN_CFG, edge F.LIN_CFG_EN linEnable linDisable),
    (R.ETH_PCFG, ethCfg), (R.ETH_SLP, fun p w b => if p = 4 then b else b.storeWord R.ETH_SLP p w), (R.GW_CFG, edge F.GW_CFG_EN (fun _ => gwEnable) fun _ => gwDisable),
    (R.CDC_CTL, fun _ w => whenB (bit w 0) clearPeak), (R.CDC_XSTAT, fun x w b => (b.storeWord R.CDC_XSTAT x w).cdcSync x)]

/-- Blocks HQ, CHN. -/
def hooksE : List (Reg × WriteHook) :=
  let q := hqGuarded F.HQ_QSTAT_STATE F.HQ_QSTAT_CFGERR
  let e := hqGuarded F.HQ_EQSTAT_STATE F.HQ_EQSTAT_CFGERR
  [(R.HQ_SQBASE, q R.HQ_SQBASE), (R.HQ_SQBASEH, q R.HQ_SQBASEH), (R.HQ_CQBASE, q R.HQ_CQBASE), (R.HQ_CQBASEH, q R.HQ_CQBASEH),
    (R.HQ_QCFG, hqCfg F.HQ_QSTAT_STATE F.HQ_QSTAT_CFGERR F.HQ_QCFG_EN queueEnable queueDrain), (R.HQ_QIDX, queueIndex),
    (R.HQ_EQBASE, e R.HQ_EQBASE), (R.HQ_EQBASEH, e R.HQ_EQBASEH),
    (R.HQ_EQCFG, hqCfg F.HQ_EQSTAT_STATE F.HQ_EQSTAT_CFGERR F.HQ_EQCFG_EN eqEnable eqDisable), (R.HQ_EQIDX, eqIndex),
    (R.HQ_EQSTAT, onClear F.HQ_EQSTAT_OVF fun e b => b.setF F.HQ_EQSTAT_LOST e 0), (R.HQ_MBXDONE, fun _ w => mailDone w),
    (R.CHN_CFG, edgeRl F.CHN_CFG_EN (fun _ => chnEnable) fun _ => chnDisable), (R.CHN_CTL, fun _ w => chnCtl (bits w 1 0)),
    (R.CHN_ERRLOG1, onClear F.CHN_ERRLOG1_VALID fun _ b => b.setF F.CHN_ERRCNT_FAILS 0 0)]

/-- Blocks HEP, CIPH, ACS, BOOT, UPD, PAIR. -/
def hooksF : List (Reg × WriteHook) :=
  [(R.HEP_CCTL, fun n w b => whenB (bit w 0) (coreRun (2 + n)) (b.storeWord R.HEP_CCTL n (b.keepBit F.HEP_CCTL_RUN n w))),
    (R.HEP_SWDCFG, fun n => onceSet F.HEP_SWDCFG_EN swdEnable n),
    (R.HEP_SWDKICK, fun _ w => swdKick (bits w 15 0)), (R.HEP_CRST, fun _ w => crstWrite w),
    (R.CIPH_CFG, edge F.CIPH_CFG_EN (fun _ b => (b.setF F.CIPH_CFG_EN 0 1).accSync) fun _ => ciphStop),
    (R.CIPH_STAT, onClear F.CIPH_STAT_AUTHF fun _ b => b.setF F.CIPH_CNT_AUTHCNT 0 0), (R.CIPH_FWCTL, fun _ w => fwCtlWrite w),
    (R.ACS_CFG, edge F.ACS_CFG_EN (fun _ => accEnable) fun _ => accDisable),
    (R.BOOT_CTL, fun _ w => recoveryRequest (bits w 15 0)), (R.UPD_CFG, updCfg), (R.UPD_GUARD, updGuard),
    (R.PAIR_CFG, edge F.PAIR_CFG_EN (fun _ => pairEnable) fun _ => pairDisable)]

/-- The write effects of every block. -/
def hooks (who : Who) : List (Reg × WriteHook) := hooksA who ++ hooksB ++ hooksC ++ hooksD ++ hooksE ++ hooksF

/-- Registers that only the supervisor pair may write (R131, R409, R416, R508, R509, R557, R620, R625). -/
def supRegs : List Reg :=
  [R.WEIR_HB, R.WEIR_RECLAIM, R.HQ_MBXBASE, R.HQ_MBXDONE, R.HEP_SWDKICK, R.HEP_CRST, R.CIPH_FWBASE, R.CIPH_FWCTL, R.BOOT_CTL, R.UPD_GUARD]

/-- An accepted write of word w at offset off. An offset of a listed block without a register has no effect (R22). -/
def regWrite (who : Who) (off w : Nat) (b : Block) : Block :=
  match findReg off with
  | Option.none => b
  | some (r, n) => match hookOf r (hooks who) with
    | some h => h n w b
    | Option.none => b.storeWord r n w

/-- Why a write of `who` completes without effect: the cause of R708, with the registers of the supervisor pair. -/
def writeCause (b : Block) (who : Who) (off size : Nat) : Option Nat :=
  match b.accessCause who off size true with
  | some c => some c
  | Option.none => if !who.isSup && supRegs.any fun r => (r.index off).isSome then some 3 else Option.none

/-- A write of `who` to the set-up register space, that no lock holds up: its cause of failure, and its effect. -/
def setupPut (who : Who) (off size w : Nat) (b : Block) : Option Nat × Block :=
  match b.writeCause who off size with
  | Option.none => (Option.none, b.regWrite who off w)
  | some 6 => (some 6, b.injDone.fabricErr who 6)
  | some c => (some c, b.fabricErr who c)

/-- An aligned 32-bit write of `who` (R37, R45, R46, R58); it waits while a locked sequence holds the space (R440). -/
def setupWrite (who : Who) (off w : Nat) (b : Block) : Block := if b.spaceHeld then b else (b.setupPut who off 4 w).2

/-! ### Reads -/

/-- A load meter's PEAK restarts at its present rate when it is read (R276, R379, R561). -/
def peakRead (rate peak : RegField) (b : Block) : Block := b.setF peak 0 (b.getF rate 0)

/-- Registers that a read brings up to date or captures, before the word is taken. -/
def readBefore (off : Nat) (b : Block) : Block :=
  if off = R.PWR_RTC0.at 0 then (let (x, b) := b.fresh; b.rtcRead (x.getLsbD 0))
  else if off = R.BST_TBASE0.at 0 then (let (x, b) := b.fresh; b.timebaseRead (x.getLsbD 0))
  else if off = R.ACS_LOCK.at 0 then b.lockRemain
  else if off = R.UPD_STAT.at 0 then b.guardSync
  else if off = R.HEP_SWDSTAT.at 0 then b.swdRemain
  else if off = R.UPD_TRIAL.at 0 then b.trialRemain
  else if off = R.PAIR_STAT.at 0 then b.pairShow
  else if off = R.GW_LOAD.at 0 then b.lookRoll
  else if off = R.CIPH_LOAD.at 0 then b.pipeRoll
  else b

/-- What a read leaves behind after the word is taken. -/
def readAfter (off : Nat) (b : Block) : Block :=
  if off = R.PXL_LOAD.at 0 then b.peakRead F.PXL_LOAD_LOAD F.PXL_LOAD_PEAK
  else if off = R.GW_LOAD.at 0 then b.peakRead F.GW_LOAD_RATE F.GW_LOAD_PEAK
  else if off = R.CIPH_LOAD.at 0 then b.peakRead F.CIPH_LOAD_RATE F.CIPH_LOAD_PEAK
  else b

/-- An accepted read at offset off: the block after it and the word. Fields of type WO are never stored, so they read 0
(R21); an offset without a register reads 0 (R22). -/
def regRead (off : Nat) (b : Block) : Block × Nat :=
  let b := b.readBefore off
  let v := match findReg off with
    | Option.none => 0
    | some (r, n) => if r.base = R.GAUGE_LOGWIN.base then b.logWin n else b.rd r n
  (b.readAfter off, v)

/-- A read of `who`, that no lock holds up: its cause of failure, the block and the word; 0 for a failed read (R22, R45). -/
def setupGet (who : Who) (off size : Nat) (b : Block) : Option Nat × Block × Nat :=
  match b.accessCause who off size false with
  | Option.none => let (b, v) := b.regRead off; (Option.none, b, v)
  | some c => (some c, b.fabricErr who c, 0)

/-- Aligned 32-bit reads of n successive words from off, as accepted. -/
def regReads : Nat → Nat → Block → Block × List Nat
  | _, 0, b => (b, [])
  | off, n + 1, b =>
    let (b, v) := b.regRead off
    let (b, vs) := regReads (off + 4) n b
    (b, v :: vs)

/-! ### Rows -/

/-- A write of `size` bytes to window W2: a doorbell, a dword of the MSI-X table, or nothing (R384, R385, log 52). -/
def w2Write (o size : Nat) (w : Word) (b : Block) : Block :=
  let width := if o % 4 = 0 then size else 0
  if o < 0x200 then (if o / 4 % 2 = 0 then b.doorbell (o / 8) width w.toNat else b.complHead (o / 8) width w.toNat)
  else if o < 0x220 then b.eventHead ((o - 0x200) / 4) width w.toNat
  else if width = 4 ∧ 0x8000 ≤ o ∧ o < 0x8400 then b.msixWrite ((o - 0x8000) / 4) w
  else b

/-- REGISTER_WRITE (R21, R22, R37, R44–R46, R57, R58): a write of `size` bytes of host software or a core to a register
space of this module. Below 0x100000 it goes to the set-up register space, a host write of 8 bytes or more as dwords in
rising order (R432); from there on host software writes window W2 (R384). While the register space is locked the write
waits (R440). -/
def registerWrite (who : Who) (off : Nat) (ws : List Word) (size : Nat) (b : Block) : Block :=
  if b.spaceHeld && decide (off < 0x100000) then
    let a : W0Acc := { node := b.nodeId, offset := off, size := if 4 < size then 4 else size, data := some (ws.take (max 1 (size / 4))), count := 1 }
    match who with
    | .host => { b with chn := { b.chn with waiting := b.chn.waiting ++ [a] } }
    | .core _ => { b with chn := { b.chn with stalled := b.chn.stalled ++ [(who, off, size, ws)] } }
  else if off < 0x100000 then
    if size = 4 then (b.setupPut who off 4 ((ws.getD 0 0).toNat)).2
    else if who == .host && decide (4 < size) && off % 4 == 0 && size % 4 == 0 then
      forN (min (size / 4) ws.length) (fun i b => (b.setupPut who (off + 4 * i) 4 (ws.getD i 0).toNat).2) b
    else (b.setupPut who off size 0).2
  else
    if who == .host then b.w2Write (off - 0x100000) size (ws.getD 0 0) else b

/-- SYS_LOCK_WRITE (R55, R56, R58, R59). -/
def sysLockWrite (who : Who) (key : Nat) (b : Block) : Block := b.gate who (R.SYS_LOCK.at 0) (lockWrite who key)

/-- REG_RD of the Mladet port (R621, R88): the PWR block in every state; SYS, BOOT and UPD in Run, Safe and Recovery. -/
def mladetRegs (off count : Nat) (b : Block) : Block :=
  let st := b.getF F.PWR_STATE_STATE 0
  let ok (i : Nat) : Bool :=
    let blk := (off + 4 * i) / 4096
    blk == 1 || (decide (2 ≤ st) && (blk == 0 || blk == 0x58 || blk == 0x59) && b.pg 1)
  if !(off % 4 == 0) || count = 0 || decide (16 < count) then b.mladetReply St.badDesc []
  else if !((List.range count).all ok) then b.mladetReply St.refused []
  else
    let (b, vs) := b.regReads off count
    b.mladetReply St.ok (vs.map (leBytes 4)).flatten

end Block

end Sys2Proof.Machine
end

