-- ==== Sys2Proof/Machine/HepBase.lean ====
section
/-! DEFINITION. The Heper cores (chapter 15): memory protection, the bus, exception entry, repetition and hardware
loops, and the one operation that runs an instruction. -/
namespace Sys2Proof.Machine

/-- What a synchronous exception carries (R482–R484). -/
structure Exc where
  vec    : Nat
  /-- 0 = fetch, 1 = load, 2 = store, 3 = none -/
  kind   : Nat := 3
  far    : Nat := 0
  region : Nat := 0
  noreg  : Bool := false
  uop    : Nat := 0
  incx   : Bool := false
  /-- the frame PC is the next instruction -/
  after  : Bool := false
  deriving DecidableEq, Repr

/-- How one execution of an instruction ends. -/
inductive Run where
  /-- it has completed; the next address follows -/
  | done (b : Block)
  /-- it has branched -/
  | jump (b : Block) (pc : Word)
  /-- it takes an exception, with these effects in place -/
  | trap (b : Block) (e : Exc)
  /-- its access waits for a locked sequence to end, with these effects in place (R440, log 66) -/
  | hold (b : Block)
  /-- the core has stopped or waits; its address is already set -/
  | rest (b : Block)

/-- How an access of a core ends. -/
inductive BusEnd where
  | ok (b : Block) (v : Word)
  | fault (b : Block) (e : Exc)
  | hold

/-- What an address of the Heper map reaches (R42): nothing; the boot ROM; a memory at its global address, with its domain,
open to the core or shut to it (R43); the set-up register space. -/
inductive Spot where
  | none
  | shut (a dom : Nat)
  | rom
  | ram (a dom : Nat)
  | regs (off : Nat)
  deriving DecidableEq, Repr

/-- Power domain of a core (R35). -/
def coreDomain (c : Nat) : Nat := [2, 2, 3, 3, 3, 3, 4, 4, 4, 4, 11, 11, 5, 6, 9].getD c 13

/-- The address map as core c sees it (R42, R43). The pair's local view is the slice of HC0 alone (log 173). -/
def spot (c a : Nat) : Spot :=
  if a < 0x10000 then .rom
  else if a < 0x30000 then .ram (localBase c + (a - 0x10000)) (coreDomain c)
  else if 0x08000000 ≤ a ∧ a < 0x081E0000 then
    let dom := coreDomain ((a - 0x08000000) / 0x20000)
    if c = 0 then .ram a dom else .shut a dom
  else if 0x10000000 ≤ a ∧ a < 0x10400000 then .ram a 1
  else if 0x18000000 ≤ a ∧ a < 0x18800000 then .ram a 5
  else if 0x20000000 ≤ a ∧ a < 0x20080000 then .ram a 0
  else if 0x28000000 ≤ a ∧ a < 0x28100000 then .ram a 1
  else if 0x40000000 ≤ a ∧ a < 0x40100000 then .regs (a - 0x40000000)
  else .none

/-- Requester number of a core (R317). -/
def coreWho (c : Nat) : Who := .core (Fin.ofNat 15 c)

/-- The deciding region of an access that protection denies, and whether no region matched (R496). Kinds: 0 = fetch,
1 = load, 2 = store. -/
def mpuDenied (h : HepCore) (priv : Bool) (kind a : Nat) : Option (Nat × Bool) :=
  if !h.mpuctl.getLsbD 0 then none
  else
    let blk := a / 64
    let hit := (List.range 16).find? fun i =>
      let lo := (Tab.get 0 h.mpubase i).toNat
      bit lo 0 && decide (lo / 64 ≤ blk ∧ blk ≤ (Tab.get 0 h.mpulim i).toNat / 64)
    match hit with
    | some i =>
      let p := (if priv then 0 else 3) + (match kind with | 0 => 2 | 1 => 0 | _ => 1)
      if bit (Tab.get 0 h.mpulim i).toNat p then none else some (i, false)
    | none => if priv && h.mpuctl.getLsbD 1 then none else some (0, true)

namespace Block

/-- Nothing keeps core c from running: for the supervisor pair, the module is neither in a reset, in Still nor in the
boot ROM's measurement of an image. -/
def coreFree (c : Nat) (b : Block) : Bool :=
  !(c == 0) || (!b.boot.hashing && b.pw.inReset == .none && b.pw.still == .awake)

/-- Core c can run instructions: its state is RUN. -/
def coreReady (c : Nat) (b : Block) : Bool := b.coreState c == 2 && b.coreFree c

/-- HEP_STAT follows the core's registers (R510). -/
def showCore (c : Nat) (b : Block) : Block := b.setCore c (b.coreState c)

/-- The core stops (R474, R486). -/
def stopCore (c : Nat) (b : Block) : Block := (b.updHc c fun h => { h with rep := 0 }).setCore c 4

/-- The first difference between the halves of the pair (R474). -/
def lockstep (b : Block) : Block := (b.stopCore 0).raise 248 1

/-- A word whose stored check bits differ in more than two places is among these bytes: what it reads is open
(log 91). -/
def eccOpen (b : Block) (a n : Nat) : Bool :=
  b.badEcc.any fun e => decide (e.1 < a + n ∧ a < e.1 + 4) && decide (2 < bitCount7 e.2)

/-- Why an access of a core to the global view of core-local SRAM completes without effect (R43, R708). -/
def shutCause (b : Block) (dom : Nat) : Nat := if b.pg dom then 3 else 4

/-- The armed fabric parity injection meets a write of n bytes at address a (R322, MEM = 6). -/
def parityHit (b : Block) (a n : Nat) : Bool := b.injHit a n && b.getF F.CATCH_INJ_MEM 0 == 6

/-- An aligned read of n bytes on the fabric (R42, R43, R45, R322, R708). The boot ROM's contents are open. -/
def busRead (c a n kind : Nat) (b : Block) : BusEnd :=
  let bad : Exc := { vec := 4, kind := kind, far := a }
  match spot c a with
  | .none => .fault (b.fabricErr (coreWho c) 1) bad
  | .shut _ dom => .fault (b.fabricErr (coreWho c) (b.shutCause dom)) bad
  | .rom => let (v, b) := b.fresh; .ok b (BitVec.ofNat 32 (v.toNat % 2 ^ (8 * n)))
  | .regs off =>
    if b.spaceHeld then .hold
    else let (_, b, v) := b.setupGet (coreWho c) off n; .ok b (BitVec.ofNat 32 v)
  | .ram g dom =>
    if !b.pg dom then .ok (b.fabricErr (coreWho c) 4) 0
    else
      let (b, hard) := b.eccRead g n
      if hard then .fault b bad
      else if b.eccOpen g n then (let (v, b) := b.fresh; .ok b (BitVec.ofNat 32 (v.toNat % 2 ^ (8 * n))))
      else .ok b (BitVec.ofNat 32 (ofLe (b.readMem g n)))

/-- The address lies in retained SRAM outside the data window, which the boot ROM has closed (R607). -/
def retainedClosed (b : Block) (g : Nat) : Bool :=
  decide (0x20000000 ≤ g ∧ g < 0x20080000) && b.boot.ran &&
    !decide (0x20000000 + b.boot.winOff ≤ g ∧ g < 0x20000000 + b.boot.winOff + b.boot.winLen)

/-- An aligned write of n bytes on the fabric. -/
def busWrite (c a n : Nat) (w : Word) (b : Block) : BusEnd :=
  let who := coreWho c
  let bad : Exc := { vec := 4, kind := 2, far := a }
  match spot c a with
  | .none => .fault (b.fabricErr who 1) bad
  | .shut g dom =>
    .fault (if b.parityHit g n then b.injDone.fabricErr who 6 else b.fabricErr who (b.shutCause dom)) bad
  | .rom => .ok (if b.parityHit a n then b.injDone.fabricErr who 6 else b) 0
  | .regs off => if b.spaceHeld then .hold else .ok (b.setupPut who off n w.toNat).2 0
  | .ram g dom =>
    if b.parityHit g n then .ok (b.injDone.fabricErr who 6) 0
    else if !b.pg dom then .ok (b.fabricErr who 4) 0
    else if b.retainedClosed g then .ok (b.fabricErr who 3) 0
    else .ok (b.writeMem g (leBytes n w.toNat)) 0

/-- A checked access: alignment, then protection, then the bus (R485, R496, R497, R528). -/
def checked (c : Nat) (priv : Bool) (kind a n : Nat) (k : Block → BusEnd) (b : Block) : BusEnd :=
  if !(a % n == 0) then .fault b { vec := 5, kind := kind, far := a }
  else match mpuDenied (b.hc c) priv kind a with
  | some (r, no) => .fault b { vec := 3, kind := kind, far := a, region := r, noreg := no }
  | none => k b

def fetchOne (c : Nat) (priv : Bool) (a : Nat) (b : Block) : BusEnd := b.checked c priv 0 a 4 (Block.busRead c a 4 0)
def load (c : Nat) (priv : Bool) (a n : Nat) (b : Block) : BusEnd := b.checked c priv 1 a n (Block.busRead c a n 1)
def store (c : Nat) (priv : Bool) (a n : Nat) (w : Word) (b : Block) : BusEnd :=
  b.checked c priv 2 a n (Block.busWrite c a n w)

/-! ### Exception entry (R483, R486) -/

/-- Store words one after another at privileged level; the end of the first one that does not go through. -/
def storeWords (c : Nat) : Nat → List Word → Block → BusEnd
  | _, [], b => .ok b 0
  | a, w :: ws, b => match b.store c true a 4 w with
    | .ok b _ => storeWords c (a + 4) ws b
    | r => r

/-- The vector fetch faults: by protection, by an address that reaches nothing, or by check bits. The word itself is
read when the instruction there runs. -/
def vectorBad (c v : Nat) (b : Block) : Option Block :=
  match mpuDenied (b.hc c) true 0 v with
  | some _ => some b
  | none => match spot c v with
    | .none => some (b.fabricErr (coreWho c) 1)
    | .shut _ dom => some (b.fabricErr (coreWho c) (b.shutCause dom))
    | .ram g _ => if (b.eccRead g 4).2 then some (b.eccRead g 4).1 else none
    | _ => none

/-- An exception during exception entry (R486, R317). -/
def entryFails (c : Nat) (b : Block) : Block :=
  if c = 0 then (b.stopCore 0).raise 248 3 else (b.stopCore c).raise 249 (c + 256)

/-- CAUSE of an exception (R484). -/
def causeWord (e : Exc) (inrep : Bool) (left : Nat) : Word :=
  BitVec.ofNat 32 (e.vec + b2n e.incx * 64 + b2n inrep * 128 + e.uop * 256 + left * 8192 + e.kind * 2 ^ 20 +
    e.region * 2 ^ 22 + b2n e.noreg * 2 ^ 26)

/-- SR at the first instruction of the handler: PRIV set, LOOPEN clear, and IE or IPL by the vector (R483). -/
def entrySr (vec : Nat) (sr : Word) : Word :=
  let sr := withBit (withBit sr 0 true) 7 false
  if vec < 16 then withBit sr 1 false else (sr &&& ~~~ 0x7C) ||| BitVec.ofNat 32 ((vec - 16) * 4)

/-- TAKING AN EXCEPTION: the frame with PC, SR, CAUSE and FAR goes below the privileged stack pointer, the level and
the mask change, and the core goes on at its vector; or the core stops (R483, R486). `none`: the frame store waits
for the register space. -/
def excEnter (c : Nat) (pc : Word) (cause far : Word) (b : Block) : Option Block :=
  let h := b.hc c
  let vec := cause.toNat % 64
  if !(h.psp.toNat % 16 == 0) then some (b.entryFails c)
  else
    let sp := h.psp - 16
    match b.storeWords c sp.toNat [pc, h.sr, cause, far] with
    | .hold => none
    | .fault b _ => some (b.entryFails c)
    | .ok b _ =>
      let v := h.vbar + BitVec.ofNat 32 (16 * vec)
      match b.vectorBad c v.toNat with
      | some b => some (b.entryFails c)
      | none =>
        let b := b.updHc c fun h => { h with psp := sp, sr := entrySr vec h.sr, cause := cause, far := far, pc := v, rep := 0 }
        let b := b.setF F.HEP_STAT_LASTVEC c vec
        let b := if c = 0 then b.setF F.HEP_STAT_LASTVEC 1 vec else b
        some (b.setCore c 2)

/-! ### Loop ends (R498, R499) -/

/-- The evaluation of the levels below k at the instruction at addr, where execution would go on at nx. -/
def loopEnd (addr : Word) : Nat → Word → HepCore → Word × HepCore
  | 0, nx, h => (nx, h)
  | k + 1, nx, h =>
    let n := Tab.get 0 h.lc k
    if Tab.get 0 h.le k = addr ∧ n ≠ 0 then
      let h' := { h with lc := Tab.put h.lc k (n - 1) }
      if n = 1 then loopEnd addr k nx h' else (Tab.get 0 h.ls k, h')
    else loopEnd addr k nx h

/-- An instruction at addr with its length in words has completed: where execution goes on. -/
def afterInstr (addr : Word) (words : Nat) (h : HepCore) : Word × HepCore :=
  let nx := addr + BitVec.ofNat 32 (4 * words)
  if h.sr.getLsbD 7 then loopEnd addr 4 nx h else (nx, h)

/-- The core goes on behind the instruction at addr. -/
def advance (c : Nat) (addr : Word) (words : Nat) (b : Block) : Block :=
  b.updHc c fun h => let r := afterInstr addr words h; { r.2 with pc := r.1, rep := 0 }

/-! ### Running one instruction -/

/-- The executions of an instruction up to the first that does not simply complete; beside its end, how many are not
completed. -/
def repeatRun (op : Block → Run) : Nat → Block → Run × Nat
  | 0, b => (.done b, 0)
  | n + 1, b => match op b with
    | .done b => repeatRun op n b
    | r => (r, n + 1)

/-- The fetch of each word of the instruction. -/
def fetchWords (c : Nat) (priv : Bool) : Nat → Nat → Block → BusEnd
  | _, 0, b => .ok b 0
  | a, n + 1, b => match b.fetchOne c priv a with
    | .ok b _ => fetchWords c priv (a + 4) n b
    | r => r

/-- An exception is taken, or the whole instruction waits. -/
def trapTo (c : Nat) (pc cause far : Word) (b b0 : Block) : Block :=
  match b.excEnter c pc cause far with
  | some b => b
  | none => b0

/-- The end of a unit of execution: of an instruction with all its repetitions (R482, R499, R503). -/
def endRun (c words : Nat) (pc : Word) (inrep : Bool) (b0 : Block) : Run × Nat → Block
  | (.done b, _) => b.advance c pc words
  | (.jump b t, _) => (b.updHc c fun h => { h with pc := t, rep := 0 }).showCore c
  | (.rest b, _) => b
  | (.hold b, left) => b.updHc c fun h => { h with rep := if inrep then left else 0 }
  | (.trap b e, left) =>
    let cause := causeWord e inrep (if inrep then left else 0)
    let far := BitVec.ofNat 32 e.far
    if e.after && !inrep then
      let b := b.advance c pc words
      b.trapTo c (b.hc c).pc cause far b0
    else b.trapTo c pc cause far b0

/-- The core behind an operand. -/
def hcOf (x : Exe) : Nat := if x.core ≤ 1 then 0 else x.core

/-- The first instruction after a single-core reset of HC2–HC5 ends the reset (R509). -/
def outOfReset (c : Nat) (b : Block) : Block := if (b.hc c).young then b.updHc c fun h => { h with young := false } else b

/-- AN INSTRUCTION of a core: fetch checks, an encoding that is no listed one (R513), the placement rule of REP, its executions, and its end. The effect `op`
gets the core's number; a core that is not running takes no instruction. -/
def instr (x : Exe) (words : Nat) (rk : RepKind) (op : Nat → Block → Run) (b : Block) : Block :=
  let c := hcOf x
  if !b.coreReady c then b
  else if c == 0 && x.diff then b.lockstep
  else
    let b := b.outOfReset c
    let h := b.hc c
    let inrep := !(h.rep == 0)
    match b.fetchWords c h.priv h.pc.toNat words with
    | .hold => b
    | .fault b' e => b'.trapTo c h.pc (causeWord e inrep h.rep) (BitVec.ofNat 32 e.far) b
    | .ok b' _ =>
      if x.bad then b'.trapTo c h.pc (causeWord { vec := 1 } inrep h.rep) 0 b
      else if inrep && rk == .never then b'.trapTo c (h.pc - 4) (causeWord { vec := 1 } false 0) 0 b
      else
        let n := if inrep && rk == .many then h.rep else 1
        endRun c words h.pc inrep b (repeatRun (op c) n b')

end Block

end Sys2Proof.Machine
end

