-- ==== Sys2Proof/Machine/HepAlu.lean ====
section
/-! DEFINITION. Register, immediate and accumulator operations of the Heper cores (R519–R525). -/
namespace Sys2Proof.Machine
namespace Block

/-- Write a result and its flags. A division by zero with DZTRAP = 1 then takes vector 6 (R523). -/
def putResult (c rd : Nat) (r : Alu) (b : Block) : Run :=
  let b := b.updHc c fun h => { h.setD rd r.val with sr := r.flags h.sr }
  if r.dz && (b.hc c).divcfg.getLsbD 0 then .trap b { vec := 6, after := true } else .done b

/-- An operation of the R format: its result from the core before it (R519). -/
def regOp (x : Exe) (rd : Nat) (f : HepCore → Alu) (b : Block) : Block :=
  b.instr x 1 .many fun c b => b.putResult c rd (f (b.hc c))

/-- A comparison: flags only. -/
def cmpOp (x : Exe) (words : Nat) (f : HepCore → Alu) (b : Block) : Block :=
  b.instr x words .many fun c b => .done (b.updHc c fun h => { h with sr := (f h).flags h.sr })

/-- An operation that writes an A register (R519, R520). -/
def addrOp (x : Exe) (words ad : Nat) (f : HepCore → Word) (b : Block) : Block :=
  b.instr x words .many fun c b => .done (b.updHc c fun h => h.setA ad (f h))

/-- An operation of the I format (R520, R533). -/
def immOp (x : Exe) (rd : Nat) (i : Imm) (f : HepCore → Alu) (b : Block) : Block :=
  b.instr x i.words .many fun c b => b.putResult c rd (f (b.hc c))

/-- Three-operand forms on D registers. -/
def reg3 (x : Exe) (rd rs rt : Fin 16) (f : Word → Word → Alu) (b : Block) : Block :=
  b.regOp x rd fun h => f (h.getD rs) (h.getD rt)

/-- Two-operand forms on D registers. -/
def reg2 (x : Exe) (rd rs : Fin 16) (f : Word → Alu) (b : Block) : Block := b.regOp x rd fun h => f (h.getD rs)

/-- The carry of SR. -/
def srCarry (h : HepCore) : Bool := h.sr.getLsbD SR.c

/-- ADC and SBC: with the carry of SR. -/
def reg3c (x : Exe) (rd rs rt : Fin 16) (f : Word → Word → Bool → Alu) (b : Block) : Block :=
  b.regOp x rd fun h => f (h.getD rs) (h.getD rt) (srCarry h)

/-- SEL (R519). -/
def selOp (x : Exe) (rd rs rt : Fin 16) (cond : Fin 15) (b : Block) : Block :=
  b.regOp x rd fun h => .plain (if condTrue h.sr cond then h.getD rs else h.getD rt)

/-- Shifts by a register (R519, R521). -/
def shiftOp (kind : Nat) (x : Exe) (rd rs rt : Fin 16) (b : Block) : Block :=
  b.reg3 x rd rs rt fun a n => .shift kind a (n.toNat % 256)

/-- An accumulator operation that may set SAT (R525). -/
def accWith (c n : Nat) (r : BitVec 72 × Bool) (b : Block) : Block :=
  b.updHc c fun h => { h.setAcc n r.1 with sr := if r.2 then withBit h.sr SR.sat true else h.sr }

/-- MAC, MACS, MSU, MSUS, MACU, MULA and ACLR by FN (R525). -/
def macOp (fn : Nat) (x : Exe) (n : Fin 4) (rs rt : Fin 16) (b : Block) : Block :=
  b.instr x 1 .many fun c b =>
    let h := b.hc c
    .done (b.accWith c n (accOp fn (h.getAcc n) (h.getD rs) (h.getD rt)))

/-- ARD and ARDS (R525). -/
def ardOp (clamp : Bool) (x : Exe) (rd : Fin 16) (n : Fin 4) (sh : Fin 64) (b : Block) : Block :=
  b.instr x 1 .many fun c b =>
    let r := accRead clamp ((b.hc c).getAcc n) sh
    .done (b.updHc c fun h => { h.setD rd r.1 with sr := if r.2 then withBit h.sr SR.sat true else h.sr })

/-- ARDH and ARDG (R525). -/
def ardhOp (x : Exe) (rd : Fin 16) (n : Fin 4) (b : Block) : Block :=
  b.regOp x rd fun h => .plain ((h.getAcc n).extractLsb' 32 32)
def ardgOp (x : Exe) (rd : Fin 16) (n : Fin 4) (b : Block) : Block :=
  b.regOp x rd fun h => .plain (((h.getAcc n).extractLsb' 64 8).signExtend 32)

/-- AWR (R525). -/
def awrOp (x : Exe) (n : Fin 4) (rs rt rg : Fin 16) (b : Block) : Block :=
  b.instr x 1 .many fun c b => .done (b.updHc c fun h => h.setAcc n (accWrite (h.getD rs) (h.getD rt) (h.getD rg)))

end Block

end Sys2Proof.Machine
end

