-- ==== Sys2Proof/Machine/HepCtl.lean ====
section
/-! DEFINITION. Control flow, loops and REP, control registers, interrupts and the system instructions of the Heper
cores (R478–R481, R487–R493, R498–R503, R529–R532). -/
namespace Sys2Proof.Machine
namespace Block

/-! ### Branches (R529) -/

/-- B and BL. -/
def branchOp (link : Bool) (x : Exe) (cond : Fin 15) (t : Target) (b : Block) : Block :=
  b.instr x t.words .never fun c b =>
    let h := b.hc c
    if condTrue h.sr cond then
      let b := if link then b.updHc c fun h => h.setA 14 (h.pc + BitVec.ofNat 32 (4 * t.words)) else b
      .jump b (t.addr h.pc)
    else .done b

/-- JR: As is read before A14 is written; the target's bits [1:0] are ignored. -/
def jrOp (x : Exe) (link : Bool) (rs : Fin 16) (b : Block) : Block :=
  b.instr x 1 .never fun c b =>
    let t := (b.hc c).getA rs &&& 0xFFFFFFFC
    .jump (if link then b.updHc c fun h => h.setA 14 (h.pc + 4) else b) t

/-! ### LOOP and REP (R498–R502, R530, R531) -/

/-- The word of an instruction stored at an address, where memory can tell it without an effect; the boot ROM's words
are open. -/
def peek (c : Nat) (a : Word) (b : Block) : Word × Block := match spot c a.toNat with
  | .ram g dom => (if b.pg dom then BitVec.ofNat 32 (ofLe (b.readMem g 4)) else 0, b)
  | .rom => b.fresh
  | _ => (0, b)

/-- Length in words of an instruction by its first word (R515, R533). -/
def wordsOf (w : Word) : Nat := if w.toNat / 2 ^ 26 = 0x3F then 2 else 1

/-- REP may not stand before this instruction word: B, BL, JR, LOOP and their long forms, REP, TRAP, BRK, RETE, CX
(R502). -/
def noRepeat (w : Word) : Bool :=
  let maj := w.toNat / 2 ^ 26
  let op := if maj = 0x3F then w.toNat % 64 else maj
  [0x18, 0x19, 0x1A, 0x1C, 0x1D, 0x3E].contains op || (maj == 0x22 && [1, 2, 3].contains (w.toNat % 256))

/-- LOOP k (R498, R499, R530). A count of 0 skips the body: the core goes on after the instruction at LE. -/
def loopOp (x : Exe) (k : Fin 4) (f : LoopForm) (b : Block) : Block :=
  b.instr x (HepCore.loopWords f) .never fun c b =>
    let h := b.hc c
    let start := h.pc + BitVec.ofNat 32 (4 * HepCore.loopWords f)
    let last := HepCore.loopLast h.pc f
    let n := h.loopCount f
    if last < start then .trap b { vec := 1 }
    else
      let b := b.updHc c fun h => { h with ls := Tab.put h.ls k start, le := Tab.put h.le k last, lc := Tab.put h.lc k n, sr := withBit h.sr 7 true }
      if n = 0 then (let (w, b) := b.peek c last; .jump b (last + BitVec.ofNat 32 (4 * wordsOf w))) else .done b

/-- The address is the end of an active level (R502). -/
def atActiveEnd (h : HepCore) (a : Word) : Bool :=
  (List.range 4).any fun k => Tab.get 0 h.le k == a && !(Tab.get 0 h.lc k == 0)

/-- REP (R501, R502, R531). A count of 0 skips the next instruction, whose loop end is evaluated. -/
def repOp (x : Exe) (f : RepForm) (b : Block) : Block :=
  b.instr x 1 .never fun c b =>
    let h := b.hc c
    let (w, b) := b.peek c (h.pc + 4)
    if atActiveEnd h h.pc || noRepeat w then .trap b { vec := 1 }
    else
      let n := h.repCount f
      if n = 0 then .rest (b.advance c (h.pc + 4) (wordsOf w))
      else .rest (b.updHc c fun h => { h with rep := n, pc := h.pc + 4 })

/-! ### Interrupts (R490–R493) -/

/-- Line l is pending at core c (R490). -/
def linePending (c l : Nat) (b : Block) : Bool :=
  let h := b.hc c
  if l < 13 then h.irq.any fun e => e.1 == l
  else if l = 13 then decide (h.tcmph.toNat * 2 ^ 32 + h.tcmpl.toNat ≤ b.pw.tbase)
  else if l = 14 then !(h.csigin == 0)
  else c == 0 && h.mbx

/-- IPL as it acts: 17–31 act as 16 (R479). -/
def ipl (h : HepCore) : Nat := min 16 (bits h.sr.toNat 6 2)

/-- The lowest line that is pending, enabled in IEN and below a level. -/
def lineBelow (c lim : Nat) (b : Block) : Option Nat :=
  (List.range 16).find? fun l => b.linePending c l && (b.hc c).ien.getLsbD l && decide (l < lim)

/-- The line that wakes the core from WAIT, and with IE = 1 is taken (R490, R532). -/
def lineReady (c : Nat) (b : Block) : Option Nat := b.lineBelow c (ipl (b.hc c))

/-- A core that waits with IE = 0 goes on once a line is there (R532). -/
def wakeCore (c : Nat) (b : Block) : Block :=
  if b.coreState c == 3 && !(b.hc c).sr.getLsbD 1 && (b.lineReady c).isSome then b.setCore c 2 else b

/-- INTERRUPT_TAKEN: the pending line is taken between two units of execution (R490, R494). -/
def interruptTaken (c0 : Fin 15) (b : Block) : Block :=
  let c := hcOf { core := c0 }
  let h := b.hc c
  if !((b.coreState c == 2 || b.coreState c == 3) && b.coreFree c) || !(h.rep == 0) || !h.sr.getLsbD 1 then b
  else match b.lineReady c with
    | none => b
    | some l => b.trapTo c h.pc (causeWord { vec := 16 + l } false 0) 0 b

/-- ICLAIM (R491, R492). -/
def iclaim (c : Nat) (b : Block) : Word × Block := match b.lineBelow c 16 with
  | none => (0, b)
  | some l =>
    if l < 13 then
      let s := (((b.hc c).irq.filter fun e => e.1 == l).map fun e => e.2).foldl min 255
      (BitVec.ofNat 32 (s + l * 256 + 2 ^ 15), b.updHc c fun h => { h with irq := h.irq.filter fun e => !(e == (l, s)) })
    else
      (BitVec.ofNat 32 (l * 256 + 2 ^ 15), if l = 15 then b.updHc c fun h => { h with mbx := false } else b)

/-- CSIG: the writer's bit in CSIGIN of every target named (R493). Engines have no target number. -/
def csig (c : Nat) (w : Word) (b : Block) : Block :=
  let me := if c = 0 then some 0 else if c < 6 then some (c - 1) else none
  match me with
  | none => b
  | some t => forN 5 (fun i b =>
      if w.getLsbD i then b.updHc (if i = 0 then 0 else i + 1) fun h => { h with csigin := withBit h.csigin t true } else b) b

/-! ### Control registers (R478–R480) -/

/-- IPEND (R478). -/
def ipend (c : Nat) (b : Block) : Word :=
  BitVec.ofNat 32 ((List.range 16).foldl (fun s l => s + (if b.linePending c l then 2 ^ l else 0)) 0)

/-- A control-register number is listed (R478). -/
def crListed (n : Nat) : Bool :=
  decide (n ≤ 0x10) || decide (0x20 ≤ n ∧ n ≤ 0x43) || decide (0x50 ≤ n ∧ n ≤ 0x5F)

/-- The value of a control register, and the effect of reading it. `stale`: the crossing of TIMEL missed its bound. -/
def crRead (c n : Nat) (stale : Bool) (b : Block) : Word × Block :=
  let h := b.hc c
  if 0x20 ≤ n ∧ n < 0x40 then (Tab.get 0 (if n % 2 = 0 then h.mpubase else h.mpulim) ((n - 0x20) / 2), b)
  else if 0x50 ≤ n then (Tab.get 0 h.cxdef (n - 0x50), b)
  else match n with
  | 0x00 => (h.sr, b)
  | 0x01 => (h.vbar, b)
  | 0x02 => (h.usp, b)
  | 0x03 => (h.cause, b)
  | 0x04 => (h.far, b)
  | 0x05 => (h.ien, b)
  | 0x06 => (b.ipend c, b)
  | 0x07 => b.iclaim c
  | 0x09 => (h.csigin, b)
  | 0x0A => (h.divcfg, b)
  | 0x0B => (BitVec.ofNat 32 c, b)
  | 0x0C =>
    (BitVec.ofNat 32 b.pw.tbase, (b.updHc c fun h => { h with timeh := BitVec.ofNat 32 (b.pw.tbase / 2 ^ 32) }).xStale 7 stale)
  | 0x0D => (h.timeh, b)
  | 0x0E => (h.tcmpl, b)
  | 0x0F => (h.tcmph, b)
  | 0x10 => (h.mpuctl, b)
  | 0x40 => (BitVec.ofNat 32 h.ucaddr, b)
  | 0x41 => (h.ucdl, b)
  | 0x42 => (h.ucdh, b)
  | 0x43 => (BitVec.ofNat 32 (b2n h.cxlock), b)
  | _ => (0, b)

/-- CXDEF as stored: a definition that runs past the store is not valid (R505). -/
def cxdefStored (w : Word) : Word :=
  let v := w &&& 0xFFFF
  if 512 < v.toNat % 512 + bits v.toNat 13 9 + 1 then v &&& 0x7FFF else v

/-- The effect of writing a control register at privileged level. MTC never changes SR.PRIV (R481). -/
def crWrite (c n : Nat) (w : Word) (b : Block) : Block :=
  let up (f : HepCore → HepCore) : Block := b.updHc c f
  if 0x20 ≤ n ∧ n < 0x40 then
    let i := (n - 0x20) / 2
    if n % 2 = 0 then up fun h => { h with mpubase := Tab.put h.mpubase i (w &&& 0xFFFFFFC1) }
    else up fun h => { h with mpulim := Tab.put h.mpulim i w }
  else if 0x50 ≤ n then up fun h => { h with cxdef := Tab.put h.cxdef (n - 0x50) (cxdefStored w) }
  else match n with
  | 0x00 => up fun h => { h with sr := (w &&& 0x3FFE) ||| (h.sr &&& 1) }
  | 0x01 => up fun h => { h with vbar := w &&& 0xFFFFFC00 }
  | 0x02 => up fun h => { h with usp := w }
  | 0x05 => up fun h => { h with ien := w &&& 0xFFFF }
  | 0x08 => b.csig c w
  | 0x09 => up fun h => { h with csigin := h.csigin &&& ~~~ w }
  | 0x0A => up fun h => { h with divcfg := w &&& 1 }
  | 0x0E => up fun h => { h with tcmpl := w }
  | 0x0F => up fun h => { h with tcmph := w }
  | 0x10 => up fun h => { h with mpuctl := w &&& 3 }
  | 0x40 => up fun h => { h with ucaddr := w.toNat % 512 }
  | 0x41 => up fun h => { h with ucdl := w }
  | 0x42 => up fun h => { h with ucdh := w, ustore := Tab.put h.ustore h.ucaddr (w ++ h.ucdl), ucaddr := (h.ucaddr + 1) % 512 }
  | 0x43 => up fun h => { h with cxlock := h.cxlock || w.getLsbD 0 }
  | _ => b

/-- MFC (R478, R480). -/
def mfcOp (x : Exe) (rd : Fin 16) (n : Nat) (stale : Bool) (b : Block) : Block :=
  b.instr x 1 .many fun c b =>
    if !crListed n then .trap b { vec := 1 }
    else if !(b.hc c).priv && !([0x00, 0x0B, 0x0C, 0x0D].contains n) then .trap b { vec := 2 }
    else let (v, b) := b.crRead c n stale; .done (b.updHc c fun h => h.setD rd v)

/-- MTC (R478, R480, R505). At user level only SR bits [13:8] can be written. -/
def mtcOp (x : Exe) (n : Nat) (rs : Fin 16) (b : Block) : Block :=
  b.instr x 1 .many fun c b =>
    let h := b.hc c
    let w := h.getD rs
    if !crListed n || (h.cxlock && (decide (0x40 ≤ n ∧ n ≤ 0x42) || decide (0x50 ≤ n))) then .trap b { vec := 1 }
    else if h.priv then .done (b.crWrite c n w)
    else if n = 0 then .done (b.updHc c fun h => { h with sr := (w &&& 0x3F00) ||| (h.sr &&& 0xFFFFC0FF) })
    else .trap b { vec := 2 }

/-! ### System instructions (R532) -/

/-- NOP and SYNC: every access of the model completes within its instruction. -/
def nopOp (x : Exe) (b : Block) : Block := b.instr x 1 .once fun _ b => .done b

def trapOp (x : Exe) (n : Fin 32) (b : Block) : Block :=
  b.instr x 1 .never fun _ b => .trap b { vec := 7, uop := n, after := true }

def brkOp (x : Exe) (b : Block) : Block := b.instr x 1 .never fun _ b => .trap b { vec := 8, after := true }

/-- RETE (R487): PC and SR from the frame at the privileged stack pointer. -/
def reteOp (x : Exe) (b : Block) : Block :=
  b.instr x 1 .never fun c b =>
    let h := b.hc c
    if !h.priv then .trap b { vec := 2 }
    else match b.load c true h.psp.toNat 4 with
    | .hold => .hold b
    | .fault b x => .trap b x
    | .ok b1 pc => match b1.load c true (h.psp + 4).toNat 4 with
      | .hold => .hold b
      | .fault b x => .trap b x
      | .ok b sr => .jump (b.updHc c fun h => { h with psp := h.psp + 16, sr := sr &&& 0x3FFF }) (pc &&& 0xFFFFFFFC)

/-- WAIT (R480, R532). -/
def waitOp (x : Exe) (b : Block) : Block :=
  b.instr x 1 .once fun c b =>
    let h := b.hc c
    if !h.priv then .trap b { vec := 2 }
    else if (b.lineReady c).isSome then .done b
    else .rest ((b.advance c h.pc 1).setCore c 3)

/-- TIMER_COMPARE (R490, R493): the timebase has reached the compare value; line 13 shows it. -/
def timerCompare (c0 : Fin 15) (b : Block) : Block := b.wakeCore (hcOf { core := c0 })

/-- The end of every command: what it began is carried out, and cores that wait see their lines. -/
def endCommand (b : Block) : Block := forN 15 Block.wakeCore b.finish

end Block

end Sys2Proof.Machine
end

