-- ==== Sys2Proof/Machine/State.lean ====
section
/-! DEFINITION. The machine's state as plain data: the block and the queue of waiting commands; the reasons to stop;
reset. -/
namespace Sys2Proof.Machine

/-- The state: the block and the commands that wait, first in, first out. -/
structure State where
  blk     : Block := {}
  pending : List Instr := []
  deriving DecidableEq, Repr

/-- Reasons to stop. No meaning of this model stops with a fault: every fault of the spec is an effect on the
state (a status bit, an occurrence, a completion), so the one constructor is raised by nothing. -/
inductive Fault where
  /-- raised by no meaning; safe -/
  | none
  deriving DecidableEq, Repr

/-- Refusals. -/
inductive Refusal where
  /-- an arm of exec that has no meaning yet; safe: the machine stops -/
  | notModelled (mnemonic : String)
  deriving DecidableEq, Repr

/-- The machine right after module power-on reset: every register at its reset word, every unit as power-up
leaves it, no command waiting. -/
def State.reset : State := {}

end Sys2Proof.Machine
end

