-- ==== Sys2Proof/Machine/Command.lean ====
section
/-! DEFINITION. How a command acts on the state. -/
namespace Sys2Proof.Machine

/-- A command changes the block, then what it began is carried out; the queue stays. -/
def State.act (f : Block → Block) (s : State) : Host.Outcome State Fault Refusal :=
  .next { s with blk := (f s.blk).endCommand }

end Sys2Proof.Machine
end

