-- ==== Sys2Proof/Machine/CmdAccess.lean ====
section
/-! DEFINITION. The commands, one meaning each: Vehicle access (chapter 18). -/
namespace Sys2Proof.Machine

/-- ACS_ENROL (R585). Descriptor that admits a TID to an empty slot once the token completes a valid exchange. -/
def execAcsEnrol (d : Desc) (s : State) : Host.Outcome State Fault Refusal :=
  s.act fun b => b.acsEnrol d

/-- ACS_REVOKE (R587). Descriptor that clears selected slots if authorised. -/
def execAcsRevoke (d : Desc) (s : State) : Host.Outcome State Fault Refusal :=
  s.act fun b => runDesc d Block.acsRevoke b

/-- ACS_CODE (R586). Descriptor that enters a six-digit group of the dealer code. -/
def execAcsCode (d : Desc) (s : State) : Host.Outcome State Fault Refusal :=
  s.act fun b => runDesc d Block.acsCode b

/-- ACS_WITHDRAW (R590). Descriptor that ends a release. -/
def execAcsWithdraw (d : Desc) (s : State) : Host.Outcome State Fault Refusal :=
  s.act fun b => runDesc d Block.acsWithdraw b

/-- ACS_OWNLOCK (R588). Descriptor that sets or clears OWNLOCK if authorised. -/
def execAcsOwnlock (d : Desc) (s : State) : Host.Outcome State Fault Refusal :=
  s.act fun b => runDesc d Block.acsOwnlock b

/-- ACS_READ (R597). Descriptor that writes access status, slots and log. -/
def execAcsRead (d : Desc) (s : State) : Host.Outcome State Fault Refusal :=
  s.act fun b => runDesc d Block.acsRead b

/-- ACS_CLEAR (R597). Descriptor that clears access sticky bits. -/
def execAcsClear (d : Desc) (s : State) : Host.Outcome State Fault Refusal :=
  s.act fun b => runDesc d Block.acsClear b

/-- ACCESS_ENABLE (R596). ACS_CFG.EN written 1 starts the access cycles, or stays 0 on invalid settings. -/
def execAccessEnable (who : Who) (s : State) : Host.Outcome State Fault Refusal :=
  s.act fun b => b.gate who (R.ACS_CFG.at 0) Block.accEnable

/-- ACCESS_CYCLE (R574). Every RUNPER ms HC14 runs a discovery poll and the exchanges for answering slots. -/
def execAccessCycle (s : State) : Host.Outcome State Fault Refusal :=
  s.act fun b => b.accessCycle

/-- DISC (R572). An operator token's discovery answer is received in its slot. -/
def execDisc (slot : Fin 60) (void : Bool) (tid : BitVec 64) (anchor : Fin 6) (s : State) : Host.Outcome State Fault Refusal :=
  s.act fun b => b.discovery slot anchor void tid.toNat

/-- UDISC (R571). A master token's UHF discovery answer is received in its slot. -/
def execUdisc (slot : Fin 4) (void : Bool) (tid : BitVec 64) (s : State) : Host.Outcome State Fault Refusal :=
  s.act fun b => b.discovery (60 + slot) 0 void tid.toNat

/-- RESP (R577). An operator token's response is received and checked for proof, relay, range and zone. -/
def execResp (tid : BitVec 64) (nt : BitVec 128) (trep : BitVec 40) (pt : BitVec 64) (eps : Int) (tround : Nat) (sts : StsSeen) (arr : List (Fin 6 × Nat)) (s : State) : Host.Outcome State Fault Refusal :=
  s.act fun b => b.resp tid.toNat nt.toNat trep.toNat pt.toNat eps tround sts arr

/-- URESP (R578). A master token's UHF response is received and checked. -/
def execUresp (tid : BitVec 64) (nt : BitVec 128) (rssi : BitVec 48) (pt : BitVec 64) (start : Nat) (s : State) : Host.Outcome State Fault Refusal :=
  s.act fun b => b.uresp tid.toNat nt.toNat rssi.toNat pt.toNat start

/-- RESPONSE_TIMEOUT (R579). No RESP or URESP arrives and the exchange ends without a count. -/
def execResponseTimeout (s : State) : Host.Outcome State Fault Refusal :=
  s.act fun b => b.respTimeout

/-- LOCKOUT_END (R582). A lockout's duration expires. -/
def execLockoutEnd (s : State) : Host.Outcome State Fault Refusal :=
  s.act fun b => b.lockoutEnd

/-- FAILURE_EXPIRY (R582). A cryptographic failure leaves the 10 min list. -/
def execFailureExpiry (s : State) : Host.Outcome State Fault Refusal :=
  s.act fun b => b.failureExpiry

/-- LEVEL_RESET (R582). 24 h without a failure return LEVEL to 0. -/
def execLevelReset (s : State) : Host.Outcome State Fault Refusal :=
  s.act fun b => b.levelReset

/-- ENROL_TIMEOUT (R585). No valid exchange of the new token within 30 s; the enrolment completes with TIMEOUT. -/
def execEnrolTimeout (s : State) : Host.Outcome State Fault Refusal :=
  s.act fun b => b.enrolTimeout

/-- CODE_GROUP_TIMEOUT (R586). More than 60 s between code groups discards the groups entered. -/
def execCodeGroupTimeout (s : State) : Host.Outcome State Fault Refusal :=
  s.act fun b => b.codeTimeout

/-- AUTH_WINDOW_EXPIRY (R586). A 60 s authorisation window of an exchange or accepted code closes. -/
def execAuthWindowExpiry (slot : Option (Fin 64)) (s : State) : Host.Outcome State Fault Refusal :=
  s.act fun b => b.authExpiry slot

/-- RELEASE_MESSAGE_TICK (R591). Every RELPER ms the drive-release message is queued on RELCH. -/
def execReleaseMessageTick (s : State) : Host.Outcome State Fault Refusal :=
  s.act fun b => b.releaseTick

/-- RELEASE_IGN_END (R590). IGN low for 2 s with IGNEND ends the release. -/
def execReleaseIgnEnd (s : State) : Host.Outcome State Fault Refusal :=
  s.act fun b => b.releaseIgn

/-- ACCESS_RECORD_SAVE (R567). Within 50 ms of a change the access record is written to both flash copies. -/
def execAccessRecordSave (s : State) : Host.Outcome State Fault Refusal :=
  s.act fun b => b.recordSave

/-- ANTENNA_FAULT (R592). An anchor, LF antenna or UHF line is found open or short and ANTF is set. -/
def execAntennaFault (kind : Fin 3) (x : LineSeen) (s : State) : Host.Outcome State Fault Refusal :=
  s.act fun b => b.antennaFault kind x

end Sys2Proof.Machine
end

