-- ==== Sys2Proof/Machine/CmdBoot.lean ====
section
/-! DEFINITION. The commands, one meaning each: Boot, measurement and update (chapter 19). -/
namespace Sys2Proof.Machine

/-- BOOT_MEAS (R611). Descriptor that writes a signed measurement report. -/
def execBootMeas (d : Desc) (s : State) : Host.Outcome State Fault Refusal :=
  s.act fun b => runDesc d Block.bootMeas b

/-- BOOT_CERT (R626). Descriptor that writes the identity certificate and attestation statement. -/
def execBootCert (d : Desc) (s : State) : Host.Outcome State Fault Refusal :=
  s.act fun b => runDesc d Block.bootCert b

/-- UPD_BEGIN (R613). Descriptor that checks an image header and opens an update session. -/
def execUpdBegin (d : Desc) (fail : Bool) (s : State) : Host.Outcome State Fault Refusal :=
  s.act fun b => runDesc d (Block.updBegin fail false) b

/-- UPD_WRITE (R615). Descriptor that programs a chunk of the body. -/
def execUpdWrite (d : Desc) (fail : Bool) (s : State) : Host.Outcome State Fault Refusal :=
  s.act fun b => runDesc d (Block.updWrite fail false) b

/-- UPD_FINISH (R615). Descriptor that checks the body hash and stages the component. -/
def execUpdFinish (d : Desc) (s : State) : Host.Outcome State Fault Refusal :=
  s.act fun b => runDesc d (Block.updFinish false) b

/-- UPD_ACTIVATE (R616). Descriptor that writes the boot control record for a trial of staged components. -/
def execUpdActivate (d : Desc) (s : State) : Host.Outcome State Fault Refusal :=
  s.act fun b => runDesc d Block.updActivate b

/-- UPD_COMMIT (R617). Descriptor that commits the trial and optionally raises floors. -/
def execUpdCommit (d : Desc) (s : State) : Host.Outcome State Fault Refusal :=
  s.act fun b => runDesc d Block.updCommit b

/-- UPD_ABORT (R617). Descriptor that closes the session, discards staged copies or ends the trial. -/
def execUpdAbort (d : Desc) (s : State) : Host.Outcome State Fault Refusal :=
  s.act fun b => runDesc d (Block.updAbort false) b

/-- UPD_STATUS (R626). Descriptor that writes update and boot status. -/
def execUpdStatus (d : Desc) (s : State) : Host.Outcome State Fault Refusal :=
  s.act fun b => runDesc d Block.updStatus b

/-- ACTIVATION_RESET (R616). 5 ms after the UPD_ACTIVATE completion a SoC reset recorded as UPDACT begins. -/
def execActivationReset (s : State) : Host.Outcome State Fault Refusal :=
  s.act fun b => b.activationReset

/-- TRIAL_TIMEOUT (R617). TRIALTO minutes pass without commit and the record is reverted. -/
def execTrialTimeout (s : State) : Host.Outcome State Fault Refusal :=
  s.act fun b => b.trialTimeout

/-- SESSION_TIMEOUT (R612). 60 s without a UPD_WRITE abandon the session. -/
def execSessionTimeout (s : State) : Host.Outcome State Fault Refusal :=
  s.act fun b => b.sessTimeout

/-- GUARD_TIMER (R614). A guard's time condition expires, such as no speed value for 1 s or low battery for 2 s. -/
def execGuardTimer (kind : Fin 4) (s : State) : Host.Outcome State Fault Refusal :=
  s.act fun b => b.guardTimer kind

/-- RECOVERY_REQUEST (R620). Supervisor writes 0x2EC0 to BOOT_CTL and a SoC reset into Recovery follows. -/
def execRecoveryRequest (who : Who) (key : BitVec 16) (s : State) : Host.Outcome State Fault Refusal :=
  s.act fun b => b.gateSup who (R.BOOT_CTL.at 0) (Block.recoveryRequest key.toNat)

/-- GET (R621). Mladet command returning the waiting response and releasing MLD_ALERT_N. -/
def execGet (s : State) : Host.Outcome State Fault Refusal :=
  s.act fun b => b.mladetGet

/-- REG_RD (R621). Mladet command reading dwords of the set-up register space. -/
def execRegRd (good : Bool) (off : BitVec 20) (count : Fin 17) (s : State) : Host.Outcome State Fault Refusal :=
  s.act fun b => b.mladetCmd good (Block.mladetRegs off.toNat count)

/-- MLADET_DESC (R621). Mladet command executing a boot or update descriptor. -/
def execMladetDesc (good : Bool) (fail : Bool) (dws : List Word) (payload : List Byte) (s : State) : Host.Outcome State Fault Refusal :=
  s.act fun b => b.mladetCmd good (Block.mladetDesc fail dws payload)

/-- REC_REQ (R620). Mladet command setting RECREQ so the next cold boot enters Recovery. -/
def execRecReq (good : Bool) (payload : List Byte) (s : State) : Host.Outcome State Fault Refusal :=
  s.act fun b => b.mladetCmd good (Block.mladetRec payload)

/-- DEBUG_CONNECT (R622). The first debug connection after a cold boot sets DBGSEEN. -/
def execDebugConnect (s : State) : Host.Outcome State Fault Refusal :=
  s.act fun b => b.debugConnect

end Sys2Proof.Machine
end

