-- ==== Sys2Proof/Machine/CmdCatch.lean ====
section
/-! DEFINITION. The commands, one meaning each: Fault collection (chapter 9). -/
namespace Sys2Proof.Machine

/-- CATCH_OCCURRENCE (R304). An event source is raised; sticky bit, FIRST, class counter, log and ACT actions are performed. -/
def execCatchOccurrence (e : Fin 256) (detail : Word) (s : State) : Host.Outcome State Fault Refusal :=
  s.act fun b => b.occurrence e detail.toNat

/-- CATCH_READ (R327). Descriptor that writes sticky bits, status, counters and optionally the log. -/
def execCatchRead (d : Desc) (s : State) : Host.Outcome State Fault Refusal :=
  s.act fun b => runDesc d Block.catchRead b

/-- CATCH_CLEAR (R327). Descriptor that clears sticky bits, FIRSTV, the log and the counters. -/
def execCatchClear (d : Desc) (s : State) : Host.Outcome State Fault Refusal :=
  s.act fun b => runDesc d Block.catchClear b

/-- CATCH_FORCE (R327). Descriptor that raises a forced occurrence of a source. -/
def execCatchForce (d : Desc) (s : State) : Host.Outcome State Fault Refusal :=
  s.act fun b => runDesc d Block.catchForce b

/-- CATCH_INJECT (R327). Descriptor that writes CATCH_INJ and CATCH_INJADDR to arm check-bit injection. -/
def execCatchInject (d : Desc) (s : State) : Host.Outcome State Fault Refusal :=
  s.act fun b => runDesc d Block.catchInject b

/-- CATCH_FORCE_REG_WRITE (R321). Writing 1 to a CATCH_FORCE bit raises a forced occurrence while INJEN = 1. -/
def execCatchForceRegWrite (who : Who) (i : Fin 8) (w : Word) (s : State) : Host.Outcome State Fault Refusal :=
  s.act fun b => b.gate who (R.CATCH_FORCE.at i) (Block.forceWrite i w.toNat)

/-- CATCH_INJ_WRITE (R322). A write of CATCH_INJ arms injection if the address lies in the named memory. -/
def execCatchInjWrite (who : Who) (w : Word) (s : State) : Host.Outcome State Fault Refusal :=
  s.act fun b => b.gate who (R.CATCH_INJ.at 0) (Block.injWrite w.toNat)

/-- CATCH_INJADDR_WRITE (R322). A write of CATCH_INJADDR sets the address and clears ARM. -/
def execCatchInjaddrWrite (who : Who) (w : Word) (s : State) : Host.Outcome State Fault Refusal :=
  s.act fun b => b.gate who (R.CATCH_INJADDR.at 0) (Block.injAddr w.toNat)

/-- CATCH_COUNT_CLEAR (R325). Writing CATCH_COUNT.CLR sets all three class counters to 0. -/
def execCatchCountClear (who : Who) (s : State) : Host.Outcome State Fault Refusal :=
  s.act fun b => b.gate who (R.CATCH_COUNT.at 0) Block.countClear

/-- CATCH_LOG_CLEAR (R325). Writing CATCH_LOGPTR.CLR empties the log while SEQ counts on. -/
def execCatchLogClear (who : Who) (s : State) : Host.Outcome State Fault Refusal :=
  s.act fun b => b.gate who (R.CATCH_LOGPTR.at 0) Block.logClear

end Sys2Proof.Machine
end

