-- ==== Sys2Proof/Machine/CmdChain.lean ====
section
/-! DEFINITION. The commands, one meaning each: Chain of modules (chapter 13). -/
namespace Sys2Proof.Machine

/-- CHN_TOPO (R452). Descriptor that writes chain status, reachability and the node table. -/
def execChnTopo (d : Desc) (s : State) : Host.Outcome State Fault Refusal :=
  s.act fun b => runDesc d Block.chnTopo b

/-- ENUM_START (R419). CHN_CTL.START written 1 makes the node primary head and starts enumeration. -/
def execEnumStart (who : Who) (s : State) : Host.Outcome State Fault Refusal :=
  s.act fun b => b.gate who (R.CHN_CTL.at 0) Block.enumStart

/-- STANDBY_CLAIM (R420). CHN_CTL.START written 2 makes the node the standby head. -/
def execStandbyClaim (who : Who) (s : State) : Host.Outcome State Fault Refusal :=
  s.act fun b => b.gate who (R.CHN_CTL.at 0) Block.standbyClaim

/-- HEAD_PROMOTE (R423). CHN_CTL.START written 3 promotes the standby head to primary head. -/
def execHeadPromote (who : Who) (s : State) : Host.Outcome State Fault Refusal :=
  s.act fun b => b.gate who (R.CHN_CTL.at 0) Block.headPromote

/-- CHAIN_PORT_UP (R418). A chain port completes training and is UP. -/
def execChainPortUp (p : Fin 2) (wired : Bool) (s : State) : Host.Outcome State Fault Refusal :=
  s.act fun b => b.chainUp p wired

/-- CHAIN_PORT_DOWN (R427). A chain port loses block lock or resends too often and goes DOWN. -/
def execChainPortDown (p : Fin 2) (energy : Bool) (s : State) : Host.Outcome State Fault Refusal :=
  s.act fun b => b.chainDown p energy

/-- ENUM_FRAME (R419). An enumeration token arrives and the node takes an ID, forwards, returns or completes it. -/
def execEnumFrame (p : Fin 2) (count : BitVec 32) (ser : BitVec 64) (s : State) : Host.Outcome State Fault Refusal :=
  s.act fun b => b.enumFrame p count.toNat ser.toNat

/-- JOIN_FRAME (R421). A join request or its answer arrives and an ID is assigned or refused. -/
def execJoinFrame (p : Fin 2) (answer : Bool) (ser : BitVec 64) (id : Option (Fin 64)) (s : State) : Host.Outcome State Fault Refusal :=
  s.act fun b => b.joinFrame p answer ser.toNat (id.map Fin.val)

/-- TOPO_FRAME_SEND (R422). Every 100 µs the primary head sends a topology frame out of both ports. -/
def execTopoFrameSend (order : List (Fin 64)) (ring : Bool) (standby : Option (Fin 64)) (s : State) : Host.Outcome State Fault Refusal :=
  s.act fun b => b.topoSend (order.map Fin.val) ring (standby.map Fin.val)

/-- TOPO_FRAME (R422). A topology frame arrives and the node updates CHN_REACH, NCOUNT and RING. -/
def execTopoFrame (p : Fin 2) (order : List (Fin 64)) (gap : Option (Fin 65)) (standby : Option (Fin 64)) (s : State) : Host.Outcome State Fault Refusal :=
  s.act fun b => b.topoFrame p (order.map Fin.val) (gap.map Fin.val) (standby.map Fin.val)

/-- STANDBY_TOPO_TIMEOUT (R423). The standby head receives no topology frame for 1 ms and sets HEADX. -/
def execStandbyTopoTimeout (s : State) : Host.Outcome State Fault Refusal :=
  s.act fun b => b.standbyTimeout

/-- EVT_FRAME (R424). A head receives an event entry from another node and writes it into its event queue. -/
def execEvtFrame (e : Fin 8) (typ : Byte) (src : Byte) (n : Fin 64) (time : BitVec 64) (ws : List Word) (s : State) : Host.Outcome State Fault Refusal :=
  s.act fun b => b.evtFrame e typ.toNat src.toNat n time.toNat (ws.map BitVec.toNat)

/-- NOTE_FRAME (R426). The primary head receives a port or wiring report. -/
def execNoteFrame (n : Fin 64) (q : Fin 2) (lstate : Fin 4) (s : State) : Host.Outcome State Fault Refusal :=
  s.act fun b => b.noteFrame n q lstate

/-- FRAME_RESEND (R427). A chain frame received with a wrong CRC is not acknowledged and is sent again, counting RESENDCNT, setting RESENDX and raising EV226 or EV227 with cause 3. -/
def execFrameResend (p : Fin 2) (s : State) : Host.Outcome State Fault Refusal :=
  s.act fun b => b.frameResend p

end Sys2Proof.Machine
end

