-- ==== Sys2Proof/Machine/CmdCipher.lean ====
section
/-! DEFINITION. The commands, one meaning each: Cipher engine and keys (chapter 17). -/
namespace Sys2Proof.Machine

/-- AES_ENC (R563). Descriptor that encrypts data under a derived key. -/
def execAesEnc (d : Desc) (fault : Bool) (s : State) : Host.Outcome State Fault Refusal :=
  s.act fun b => b.cipherAs 0x90 d [] fault

/-- AES_DEC (R550). Descriptor that decrypts data, reporting AUTH_FAIL_DATA_WRITTEN on a tag mismatch. -/
def execAesDec (d : Desc) (fault : Bool) (s : State) : Host.Outcome State Fault Refusal :=
  s.act fun b => b.cipherAs 0x91 d [] fault

/-- AES_CMAC (R563). Descriptor that computes or verifies a CMAC. -/
def execAesCmac (d : Desc) (fault : Bool) (s : State) : Host.Outcome State Fault Refusal :=
  s.act fun b => b.cipherAs 0x92 d [] fault

/-- SHA (R551). Descriptor that hashes a message whole or in parts. -/
def execSha (d : Desc) (ctx : List Byte) (fault : Bool) (s : State) : Host.Outcome State Fault Refusal :=
  s.act fun b => b.cipherAs 0x93 d ctx fault

/-- ECDSA_SIGN (R552). Descriptor that signs a digest with a derived key and checks the signature. -/
def execEcdsaSign (d : Desc) (fault : Bool) (s : State) : Host.Outcome State Fault Refusal :=
  s.act fun b => b.cipherAs 0x94 d [] fault

/-- ECDSA_PUB (R563). Descriptor that writes the public key of a derived private key. -/
def execEcdsaPub (d : Desc) (s : State) : Host.Outcome State Fault Refusal :=
  s.act fun b => b.cipherAs 0x95 d [] false

/-- ECDSA_VERIFY (R552). Descriptor that verifies a signature and reports the outcome in CW2. -/
def execEcdsaVerify (d : Desc) (s : State) : Host.Outcome State Fault Refusal :=
  s.act fun b => b.cipherAs 0x96 d [] false

/-- RNG_READ (R553). Descriptor that writes random bytes from the DRBG. -/
def execRngRead (d : Desc) (s : State) : Host.Outcome State Fault Refusal :=
  s.act fun b => b.cipherAs 0x97 d [] false

/-- KEY_FLUSH (R547). Descriptor that removes every entry of the derived-key cache. -/
def execKeyFlush (d : Desc) (s : State) : Host.Outcome State Fault Refusal :=
  s.act fun b => b.cipherAs 0x98 d [] false

/-- FW_RING_PRODUCER_WRITE (R557). Supervisor writes CIPH_FWCTL.PROD and the cipher units fetch firmware-ring descriptors. -/
def execFwRingProducerWrite (who : Who) (w : Word) (s : State) : Host.Outcome State Fault Refusal :=
  s.act fun b => b.gateSup who (R.CIPH_FWCTL.at 0) (Block.fwCtlWrite w.toNat)

/-- CIPHER_DISABLE (R558). CIPH_CFG.EN written 0 disables the crypto units for new jobs. -/
def execCipherDisable (who : Who) (s : State) : Host.Outcome State Fault Refusal :=
  s.act fun b => b.gate who (R.CIPH_CFG.at 0) Block.ciphStop

/-- SELF_TEST_COMPLETE (R555). A PD10 unit finishes its known-answer tests and accepts jobs, or fails and completes them with HW_FAULT. -/
def execSelfTestComplete (u : Fin 4) (pass : Bool) (s : State) : Host.Outcome State Fault Refusal :=
  s.act fun b => b.testEnded u pass

/-- ENTROPY_TEST_FAILURE (R554). A health test of the entropy source fails; the generator enters FAIL and EV237 is raised. -/
def execEntropyTestFailure (t : Fin 3) (s : State) : Host.Outcome State Fault Refusal :=
  s.act fun b => b.entropyFail t

end Sys2Proof.Machine
end

