-- ==== Sys2Proof/Machine/Arrive.lean ====
section
/-! DEFINITION. The format of every descriptor (R395) and the arrival of descriptors (R41, R398, R413, R437). -/
namespace Sys2Proof.Machine

namespace Block

/-- COUNT of CHN_RD and CHN_WR, and the format of the chain descriptors (R452). -/
def chnCount (d : Desc) : Nat := bits (d.dw 6) 3 0

def chnRdOk (d : Desc) : Bool :=
  d.ok 0xD0 4 65536 [0xFFFFC, 0xF] && decide (1 ≤ chnCount d ∧ chnCount d ≤ 8 ∧ 4 * chnCount d ≤ d.len)

def chnWrOk (d : Desc) : Bool :=
  d.ok 0xD1 0 0 ([0xFFFFC, 0xF] ++ (List.range 8).map fun i => if i < chnCount d then 0xFFFFFFFF else 0) && decide (1 ≤ chnCount d ∧ chnCount d ≤ 8)

end Block

/-- A mask of `count` bits from bit lo of dword i names something. -/
def Desc.names (d : Desc) (i lo count : Nat) : Bool := !(d.picks i lo count).isEmpty

/-- The format of R395 without the payload: opcodes 0x00–0x2F, and 0x40–0x4F, whose HS masks DW5–DW7 hold. -/
def Desc.formatLow (d : Desc) : Bool :=
  let op := d.opcode
  let m := 0xFFFFFFFF
  let hs := d.names 5 0 32 || d.names 6 0 32 || d.names 7 0 32
  let n := (d.picks 5 0 32).length + (d.picks 6 0 32).length + (d.picks 7 0 32).length
  let act := bits (d.dw 8) 1 0
  let full := decide (d.dw 9 ≤ 65536)
  let zero := d.dw 9 == 0
  match op with
  | 0x00 => d.ok op 0 0 []
  | 0x01 => d.ok op 64 65536 []
  | 0x02 => d.ok op 16 65536 []
  | 0x03 => d.ok op 0 4096 (List.replicate 11 m)
  | 0x04 => d.ok op 0 0 [7, m]
  | 0x10 => d.ok op 0 0 [m, m, m, 0x103, 0x1FFFF] && !(act == 3) && full && (act == 2 || zero) && hs
  | 0x11 => d.ok op 8 768 [0, 0, 0, 0x100] && d.len % 8 == 0
  | 0x12 => d.ok op 0 0 [m, m, m, 3] && hs
  | 0x13 => d.ok op (16 * n) 65536 [m, m, m] && hs
  | 0x20 => d.ok op 0 0 [0xFFFF, 0, 0, 0x103, 0x1FFFF] && !(act == 3) && full && (act == 1 || zero) && d.names 5 0 16
  | 0x21 => d.ok op 0 0 [0xFF, 0, 0, 0x103, 0x1FFFF] && full && (act == 1 || act == 2 || zero) && d.names 5 0 8
  | 0x22 => d.ok op 0 0 [0xFF, 0, 0, 3, 0x1FFFF] && !(act == 3) && full && (!(act == 0) || zero) && d.names 5 0 8
  | 0x23 => d.ok op 0 0 [0xFF, 0, 0, 0xFFFF, 0x1FFFF] && full && (!(d.dw 8 == 0x8000) || zero) && (d.picks 5 0 8).length == 1
  | 0x24 => d.ok op 0 0 [0xFF, 0, 0, 1] && d.names 5 0 8
  | 0x25 => d.ok op 0 0 [0xFFFF, 0, 0, 3] && d.names 5 0 16
  | 0x26 => d.ok op (16 * (d.picks 5 0 16).length) 65536 [0xFFFF] && d.names 5 0 16
  | 0x40 => d.ok op 0 0 [m, m, m, 0x101FFFF, 0xFFFF] && decide (d.dw 8 % 2 ^ 24 ≤ 65536) && hs
  | 0x41 => d.ok op 8 768 [0, 0, 0, 0x1000000] && d.len % 8 == 0
  | 0x42 => d.ok op 0 0 [0xFFFF, 0, 0, 0x1FFFF, 0x1FFFF, 0x1FFFF, 0x100FFFF] && d.names 5 0 16 && decide (d.dw 8 ≤ 65536) && full &&
      decide (d.dw 10 ≤ 65536)
  | 0x43 => d.ok op (16 * n) 65536 [m, m, m] && hs
  | 0x44 => d.ok op 0 0 [m, m, m, 1] && hs
  | 0x48 => d.ok op 512 2048 [0, 0, 0, 0x10F] && d.names 8 0 4 && d.len == 512 * (d.picks 8 0 4).length
  | 0x49 => d.ok op 272 65536 [0, 0, 0, 3]
  | 0x4A => d.ok op 0 0 [0, 0, 0, 0x30F] && d.names 8 0 4
  | _ => false

/-- The same of 0x30–0x3F and 0x50–0x6F; a frame has the size that the port's COUNT gives (R277). -/
def Desc.formatMid (d : Desc) (b : Block) : Bool :=
  let op := d.opcode
  let m := 0xFFFFFFFF
  let mode := bits (d.dw 8) 1 0
  let time := d.dw 10 + d.dw 11 * 2 ^ 32
  let n := bits (d.dw 8) 3 0
  match op with
  | 0x30 => d.ok op 0 0 [m, 0, 0, 0x10F, 0xFFFF] && d.names 5 0 32
  | 0x31 => d.ok op 8 2048 [0, 0, 0, 0xF, m] && d.len % 8 == 0
  | 0x32 => d.ok op 0 0 [0, 0xFFFF, 0, 0xF03, 0, m, m] && d.names 6 0 16 && !(mode == 3) && (mode == 2 || bits (d.dw 8) 11 8 == 0) &&
      (mode == 1 || time == 0)
  | 0x33 => d.ok op 0 0 [0, 0xFFFF, 0, 1] && d.names 6 0 16
  | 0x34 => d.ok op 0 0 [m, 0xFF, 0, 7] && (d.names 5 0 32 || d.names 6 0 8)
  | 0x35 => d.ok op (16 * (d.picks 5 0 32).length) 65536 [m] && d.names 5 0 32
  | 0x36 => d.ok op 0 0 [0, 0, 0, 0x103, 0x3FF] && d.names 8 0 2 && decide (400 ≤ d.dw 9) && decide (d.dw 9 ≤ 720)
  | 0x50 => d.ok op 32 8192 [0, 0, 0, 0x100FFFF, 0xFFFF] && d.len % 32 == 0 && d.names 8 0 16
  | 0x51 => d.ok op 36 576 [0, 0, 0, 0xF] && d.len % 36 == 0
  | 0x52 => d.ok op 0 0 [0, 0, 0, 0x100FFFF, 0x1FFFF, 0xFFFF] && decide (d.dw 9 ≤ 65536) && d.names 8 0 16
  | 0x53 => d.ok op 4 65536 [0, 0, 0, 0, 0x3FFFFF] && d.len % 4 == 0 && decide (d.dw 9 + d.len ≤ pxPoolSize)
  | 0x54 => d.ok op 4 65536 [0, 0, 0, 0xF] && (!b.pxUp n || d.len == 2 * b.pxCount n)
  | 0x55 => d.ok op 4 65536 [0, 0, 0, 0xF] && (!b.pxUp n || d.len == b.pxCount n / 2)
  | 0x56 => d.ok op (64 + (if bit (d.dw 9) 0 then b.pxCount n / 4 else 0)) 65536 [0, 0, 0, 0xF, 1]
  | 0x57 => d.ok op 0 0 [0, 0, 0, 0xFFFF, 7] && d.names 8 0 16
  | 0x58 => d.ok op 4 65536 [0, 0, 0, 0xF] && (!b.pxUp n || d.len == 2 * b.pxCount n)
  | 0x60 => d.ok op (16 + 8 * ((d.picks 5 0 32).length + (d.picks 6 0 32).length)) 65536 [m, m, 0, 1]
  | 0x61 => d.ok op 0 0 [0xFFFF, 0xFFFF, 0, 0x100] && d.names 5 0 16 && decide (d.dw 6 &&& d.dw 5 = d.dw 6)
  | 0x62 => d.ok op 0 0 [0xF, 0, 0, 1] && d.names 5 0 4
  | 0x63 => d.ok op 0 0 [m, m, 0xFFFFF, 3] && (d.names 5 0 32 || d.names 6 0 32 || d.names 7 0 20)
  | 0x64 => d.ok op 160 65536 []
  | _ => false

/-- The same of 0x70–0xFF. -/
def Desc.formatHigh (d : Desc) : Bool :=
  let op := d.opcode
  let m := 0xFFFFFFFF
  let ch := bits (d.dw 5) 4 0
  match op with
  | 0x70 => d.ok op 16 65536 [0x1F, 0, 0, 3] && isCan ch
  | 0x71 => d.ok op 256 65536 [0x1F, 0, 0, 0xFFFF] && d.len % 64 == 0 && decide (1 ≤ d.dw 8) && isNet ch
  | 0x72 | 0x73 => d.ok op 0 0 [0xFFFFFFF] && Block.chMaskOk (d.dw 5) 28
  | 0x74 => d.ok op 0 256 [0x1F] && isLin ch && d.len % 4 == 0
  | 0x75 => d.ok op 12 768 [0x1F] && isLin ch && d.len % 12 == 0
  | 0x76 => d.ok op 32 65536 []
  | 0x77 => d.ok op 400 65536 []
  | 0x78 => d.ok op 0 0 [0x1FFFFFFF, 0, 0, 7] && Block.chMaskOk (d.dw 5) 29
  | 0x80 => d.ok op 32 65536 [0, 0, 0, 0x3FFF] && d.len % 32 == 0 && decide (bits (d.dw 8) 13 0 + d.len / 32 ≤ gwEntries)
  | 0x81 => d.ok op (32 * d.dw 9) 65536 [0, 0, 0, 0x3FFF, 0xFFF] && decide (1 ≤ d.dw 9) && decide (d.dw 9 ≤ 2048) &&
      decide (bits (d.dw 8) 13 0 + d.dw 9 ≤ gwEntries)
  | 0x82 => d.ok op 248 65536 []
  | 0x83 => d.ok op 0 0 [0, 0, 0, 3] && !(d.dw 8 == 0)
  | 0x90 | 0x91 | 0x92 | 0x93 | 0x94 | 0x95 | 0x96 | 0x97 | 0x98 => ciphOk d
  | 0xA0 => d.ok op 0 0 [0x3F, m, m, 3] && !(d.dw 6 == 0 && d.dw 7 == 0) && (bit (d.dw 7) 31 == decide (60 ≤ d.dw 5))
  | 0xA1 => d.ok op 0 0 [m, m, 0, 1] && !(d.dw 5 == 0 && d.dw 6 == 0)
  | 0xA2 => d.ok op 0 0 [3, 0xFFFFF] && decide (d.dw 6 ≤ 999999)
  | 0xA3 => d.ok op 0 0 []
  | 0xA4 => d.ok op 0 0 [0, 0, 0, 3]
  | 0xA5 => d.ok op 1312 65536 []
  | 0xA6 => d.ok op 0 0 [0, 0, 0, 1]
  | 0xB0 => d.ok op 568 65536 (List.replicate 8 m)
  | 0xB1 => d.ok op 1784 65536 []
  | 0xB2 => d.ok op 512 512 [] && !d.bcast
  | 0xB3 => d.ok op 64 65536 [m] && !d.bcast && d.len % 64 == 0
  | 0xB4 => d.ok op 0 0 [] && !d.bcast
  | 0xB5 => d.ok op 0 0 [0xFE] && !d.bcast && !(d.dw 5 == 0)
  | 0xB6 => d.ok op 0 0 [1] && !d.bcast
  | 0xB7 => d.ok op 0 0 [0xFF] && !d.bcast
  | 0xB8 => d.ok op 64 65536 [] && !d.bcast
  | 0xC0 => d.ok op 48 65536 []
  | 0xC1 => d.ok op 0 0 [0, 0, 0, 3]
  | 0xC2 => d.ok op 0 0 []
  | 0xC8 => d.ok op 104 65536 []
  | 0xC9 => d.ok op (16 * d.dw 6) 65536 [m, 0xFF] && decide (1 ≤ d.dw 6) && decide (d.dw 6 ≤ 128)
  | 0xD0 => Block.chnRdOk d
  | 0xD1 => Block.chnWrOk d
  | 0xD2 => d.ok op 16 128 [] && d.len % 16 == 0
  | 0xD3 => d.ok op 544 65536 []
  | 0xE0 => d.ok op (if bit (d.dw 8) 0 then 1072 else 48) 65536 [0, 0, 0, 1]
  | 0xE1 => d.ok op 0 0 (List.replicate 8 m ++ [7])
  | 0xE2 => d.ok op 0 0 [0xFF] && !(d.dw 5 == 250) && !(d.dw 5 == 251)
  | 0xE3 => d.ok op 0 0 [0x303FF, 0xFFFFFFFC] && (!bit (d.dw 5) 16 || Block.injIn (bits (d.dw 5) 2 0) (d.dw 6))
  | _ => false

/-- The format of a descriptor, by R395 and the opcode's chapter, as far as it can be seen without the payload. -/
def Block.formatOk (b : Block) (d : Desc) : Bool :=
  let op := d.opcode
  if op < 0x30 ∨ (0x40 ≤ op ∧ op < 0x50) then d.formatLow else if op < 0x70 then d.formatMid b else d.formatHigh

namespace Block

/-- The checks of R398 at the arrival, ranks 1 and 2: what completes at once. -/
def arrivalCheck (b : Block) (q : Nat) (d : Desc) : Option Nat :=
  if !b.formatOk d then some St.badDesc
  else if b.qState q = 2 then some St.disabled
  else none

/-- The module reads the payload of a descriptor that names one, unless it only writes there (R396). -/
def readsPayload (d : Desc) : Bool := decide (0 < d.len) && (!(writesPayload d.opcode) || [0x03, 0x90, 0x91, 0x93, 0x94, 0x95, 0xD2].contains d.opcode)

/-- DESCRIPTOR_ARRIVAL (R41, R381, R396, R398): the oldest descriptor read of queue q arrives, with the payload that the
module has read for it. -/
def arrival (q : Fin 64) (dws : List Word) (payload : List Byte) (b : Block) : Block :=
  let d : Desc := { src := .queue q, dws := dws, payload := payload }
  match b.arrivalCheck q d with
  | some s => (b.arrive q { q := q, desc := d, stage := .done (.of s) }).dispatchQ q
  | none => ((whenB (readsPayload d) (fun b => (b.islandRestart 3).hostReads d.addr d.len) b).arrive q { q := q, desc := d, stage := .arrived }).dispatchQ q

/-- HOST_MEMORY_FAULT (R413). `kind`: 0 = descriptor fetch, 1 = payload read of the descriptor dws, 2 = payload write,
3 = completion write, 4 = event entry write; `late`: after a timeout. A queue in ERROR reports further failed accesses;
it writes no completions. -/
def memFault (kind : Nat) (q : Fin 64) (late : Bool) (dws : List Word) (b : Block) : Block :=
  let h := b.getF F.HQ_QIDX_SQHEAD q
  let t := b.getF F.HQ_QIDX_CQTAIL q
  if kind = 4 then
    let e := q.val % 8
    if !(b.eqState e == 1) then b
    else ((b.setF F.HQ_EQSTAT_STATE e 3).setF F.HQ_EQSTAT_WRERR e 1).raiseList [ev225 e true 7 (b.getF F.HQ_EQIDX_TAIL e)]
  else if b.qState q = 0 || (kind == 3 && b.qState q == 3) then b
  else
    match kind with
    | 0 =>
      let fs := b.hq.flights.filter fun f => !(f.q == q.val && f.stage == .fetched && !f.drop)
      (((b.setFlights fs q).queueError q).setF F.HQ_QSTAT_FETCHERR q 1).raiseList [ev225 q false 3 h]
    | 1 =>
      let d : Desc := { src := .queue q, dws := dws, payload := [] }
      let s := (b.arrivalCheck q d).getD (if late then St.timeout else St.hwFault)
      let b := b.arrive q { q := q, desc := d, stage := .done (.of s) }
      (b.setF F.HQ_QSTAT_PLDERR q 1).raiseList [ev225 q false 4 h]
    | 2 =>
      let p (f : Flight) : Bool := f.q == q.val && !f.drop && (match f.stage with
        | .done c => !c.data.isEmpty
        | _ => false)
      let fs := updFlight p (fun f => { f with stage := .done (.of St.hwFault) }) b.hq.flights
      ((b.setFlights fs q).setF F.HQ_QSTAT_PLDERR q 1).raiseList [ev225 q false 4 h]
    | _ =>
      let b := match (writable q [] b.hq.flights)[0]? with
        | some f => (whenB (!(sentOf f).isEmpty) (fun b => (b.islandRestart 3).hostWrites (sentTo f) (sentOf f)) b).setFlights (b.hq.flights.erase f) q
        | none => b
      ((b.queueError q).setF F.HQ_QSTAT_CPLERR q 1).raiseList [ev225 q false 5 t]

/-- DESC_FRAME (R437): a frame of a forwarded descriptor. With the last one it is with its executing unit; the dwords are
those of the first frame. -/
def descFrame (src q : Fin 64) (dws : List Word) (x : DescFrag) (b : Block) : Block :=
  let mine (e : Fin 64 × Fin 64 × List Word × List Byte) : Bool := e.1 == src && e.2.1 == q
  let had := b.chn.partly.find? mine
  let (ws, bs) := (had.map fun e => (e.2.2.1, e.2.2.2)).getD (dws, [])
  let rest := b.chn.partly.filter fun e => !mine e
  if !b.hasId then b
  else if !x.last then { b with chn := { b.chn with partly := rest ++ [(src, q, ws, bs ++ x.data)] } }
  else
    let d : Desc := { src := .node src q, dws := ws, payload := bs ++ x.data }
    let b := { b with chn := { b.chn with partly := rest, remote := b.chn.remote ++ [d] } }
    if !b.formatOk d then b.bad d else b

end Block

end Sys2Proof.Machine
end

