-- ==== Sys2Proof/Machine/CmdCrossing.lean ====
section
/-! DEFINITION. The commands, one meaning each: Clock crossings (chapter 14). -/
namespace Sys2Proof.Machine

namespace Block

/-- The operation that needed crossing x fails (R467): the exchange that the ranging or the LF island serves ends without
count, and over the host link the fetch whose turn it is fails as in R413. DESIGN CHOICE: no other crossing of an island
that a gate stops has an operation waiting (log 213). -/
def crossFault (x : Nat) (b : Block) : Block :=
  if x = 49 then
    if !b.linkOpen || !b.hostNode then b
    else match b.nextQueue with
      | some q => b.memFault 0 (Fin.ofNat 64 q) false []
      | none => b
  else if x = 53 ∨ x = 54 then
    match b.acs.cur with
    | some e => if decide (e.slot < 60) == (x == 53) then b.exchNext.radioRest else b
    | none => b
  else b

/-- ISLAND_WAKE_FAILURE (R467, R470): two wake requests of crossing x have failed. -/
def islandFail (x : Nat) (b : Block) : Block :=
  let i := islandOf x
  if b.flag F.CDC_ISTAT_GATED i then
    let b := (b.wrapF F.CDC_ISTAT_WAKECNT i 2).setF F.CDC_ISTAT_WAKEF i 1
    let b := match crossSource x with
      | some e => b.raiseAll 32 [{ ev := e, detail := BitVec.ofNat 32 (crossDetail x 2), cross := true }]
      | none => b
    b.crossFault x
  else b

end Block

/-- CDC_CLEAR_PEAK (R473). Writing CDC_CTL.CLRPEAK sets every PEAK to the current PEND. -/
def execCdcClearPeak (who : Who) (s : State) : Host.Outcome State Fault Refusal :=
  s.act fun b => b.gate who (R.CDC_CTL.at 0) Block.clearPeak

/-- SPEED_MEASUREMENT (R457). Every 1 ms the core speed is measured into CDC_SPEED and SLOW set below 640. -/
def execSpeedMeasurement (v : Fin 2048) (s : State) : Host.Outcome State Fault Refusal :=
  s.act fun b => b.speedMeas v

/-- ISLAND_CLOCK_RESTART (R465). A request towards a gated island restarts its clock and the crossing completes. -/
def execIslandClockRestart (i : Fin 9) (s : State) : Host.Outcome State Fault Refusal :=
  s.act fun b => b.islandRestart i

/-- ISLAND_WAKE_FAILURE (R467). A gated island clock does not run within twice its restart time after two requests; WAKEF is set. -/
def execIslandWakeFailure (x : Fin 56) (s : State) : Host.Outcome State Fault Refusal :=
  s.act fun b => b.islandFail x

end Sys2Proof.Machine
end

