-- ==== Sys2Proof/Machine/CmdField.lean ====
section
/-! DEFINITION. The commands, one meaning each: Field inputs and outputs (chapter 8). -/
namespace Sys2Proof.Machine

/-- DI_READ (R302). Descriptor that writes input levels, change bits and per-input status. -/
def execDiRead (d : Desc) (s : State) : Host.Outcome State Fault Refusal :=
  s.act fun b => runDesc d Block.diRead b

/-- DO_SET (R302). Descriptor that switches selected digital outputs and restarts their timeouts. -/
def execDoSet (d : Desc) (s : State) : Host.Outcome State Fault Refusal :=
  s.act fun b => b.doSet d

/-- SV_SET (R302). Descriptor that turns selected sensor supplies on or off. -/
def execSvSet (d : Desc) (s : State) : Host.Outcome State Fault Refusal :=
  s.act fun b => b.svSet d

/-- DIO_CLEAR (R302). Descriptor that clears field I/O sticky bits and resumes latched outputs. -/
def execDioClear (d : Desc) (s : State) : Host.Outcome State Fault Refusal :=
  s.act fun b => runDesc d Block.dioClear b

/-- DO_READ (R302). Descriptor that writes status and measurements of all outputs and supplies. -/
def execDoRead (d : Desc) (s : State) : Host.Outcome State Fault Refusal :=
  s.act fun b => runDesc d Block.doRead b

/-- DI_ENABLE (R281). DIO_DICFG.EN written 1 applies the input configuration or sets CFGERR. -/
def execDiEnable (who : Who) (n : Fin 64) (s : State) : Host.Outcome State Fault Refusal :=
  s.act fun b => b.gate who (R.DIO_DICFG.at n) (Block.diEnable n)

/-- DI_DISABLE (R281). DIO_DICFG.EN written 0 stops the input. -/
def execDiDisable (who : Who) (n : Fin 64) (s : State) : Host.Outcome State Fault Refusal :=
  s.act fun b => b.gate who (R.DIO_DICFG.at n) (Block.diDisable n)

/-- DI_SAMPLE (R282). An enabled input is sampled every SPER and its counter filter moves. -/
def execDiSample (n : Fin 64) (mv : Int) (s : State) : Host.Outcome State Fault Refusal :=
  s.act fun b => b.diSample n mv

/-- OPEN_WIRE_CHECK (R285). Every 10 ms one input per die is checked for open wire. -/
def execOpenWireCheck (n : Fin 64) (mv : Int) (s : State) : Host.Outcome State Fault Refusal :=
  s.act fun b => b.openWire n mv

/-- DI_OVERLOAD (R286). The input clamp conducts over 5 mA for 1 ms and OVLD is set. -/
def execDiOverload (n : Fin 64) (ua : Nat) (s : State) : Host.Outcome State Fault Refusal :=
  s.act fun b => b.diOverload n ua

/-- DI_GROUP_OVERTEMP (R287). An input group's junction passes 160 °C or falls to 145 °C, changing OT and wetting. -/
def execDiGroupOvertemp (g : Fin 8) (tj : Int) (s : State) : Host.Outcome State Fault Refusal :=
  s.act fun b => b.diGroup g tj

/-- DO_ENABLE (R290). DIO_DOCFG.EN written 1 moves the output from DISABLED to OFF and starts its timeout. -/
def execDoEnable (who : Who) (m : Fin 16) (s : State) : Host.Outcome State Fault Refusal :=
  s.act fun b => b.gate who (R.DIO_DOCFG.at m) (Block.doEnable m)

/-- DO_DISABLE (R290). DIO_DOCFG.EN written 0 disables the output. -/
def execDoDisable (who : Who) (m : Fin 16) (s : State) : Host.Outcome State Fault Refusal :=
  s.act fun b => b.gate who (R.DIO_DOCFG.at m) (Block.doDisable m)

/-- DO_TIMEOUT (R292). DOTO expires without a DO_SET; the output goes to SAFE and TOUT is set. -/
def execDoTimeout (m : Fin 16) (s : State) : Host.Outcome State Fault Refusal :=
  s.act fun b => b.doTimeout m

/-- DO_OVERLOAD (R290). Current limit for 5 ms puts the output into OVLDWAIT with OVLD set; 16 = ENGEN (R589). -/
def execDoOverload (m : Fin 17) (s : State) : Host.Outcome State Fault Refusal :=
  s.act fun b => if m.val < 16 then b.doOverload m else b.engenOverload

/-- DO_OVERLOAD_WAIT_END (R290). 100 ms of OVLDWAIT end and the output returns to its previous state; 16 = ENGEN (R589). -/
def execDoOverloadWaitEnd (m : Fin 17) (s : State) : Host.Outcome State Fault Refusal :=
  s.act fun b => if m.val < 16 then b.doWaitEnd m else b.engenWaitEnd

/-- DO_THERMAL (R290). Output junction reaches 175 °C; THERMAL with OT set, until 160 °C; 16 = ENGEN (R589). -/
def execDoThermal (m : Fin 17) (tj : Int) (s : State) : Host.Outcome State Fault Refusal :=
  s.act fun b => if m.val < 16 then b.doThermal m tj else b.engenThermal tj

/-- DO_ONSTATE_OPEN (R291). On-state current below 2.0 mA for 20 ms sets OW. -/
def execDoOnstateOpen (m : Fin 16) (ua : Nat) (s : State) : Host.Outcome State Fault Refusal :=
  s.act fun b => b.doOpen m ua

/-- SV_ENABLE (R301). DIO_SVCFG.EN written turns a sensor supply on or off. -/
def execSvEnable (who : Who) (k : Fin 4) (on : Bool) (s : State) : Host.Outcome State Fault Refusal :=
  s.act fun b => b.gate who (R.DIO_SVCFG.at k) (Block.svWrite k on)

/-- SV_OVERLOAD (R294). Current limit for 10 ms turns the supply off into RETRYWAIT with OVLD. -/
def execSvOverload (k : Fin 4) (ua : Nat) (s : State) : Host.Outcome State Fault Refusal :=
  s.act fun b => b.svOverload k ua

/-- SV_SHORT_TO_BATTERY (R294). Output above VSEL + 1 V for 1 ms turns the regulator off with SB. -/
def execSvShortToBattery (k : Fin 4) (mv : Nat) (s : State) : Host.Outcome State Fault Refusal :=
  s.act fun b => b.svShort k mv

/-- SV_RETRY_END (R294). 100 ms of RETRYWAIT end and the supply turns on again. -/
def execSvRetryEnd (k : Fin 4) (s : State) : Host.Outcome State Fault Refusal :=
  s.act fun b => b.svRetryEnd k

/-- SV_THERMAL (R294). Supply junction reaches 175 °C; off with OT until 160 °C. -/
def execSvThermal (k : Fin 4) (tj : Int) (s : State) : Host.Outcome State Fault Refusal :=
  s.act fun b => b.svThermal k tj

/-- SV_UNDERVOLTAGE (R294). Output below 95 % of VSEL for 1 ms sets UV. -/
def execSvUndervoltage (k : Fin 4) (mv : Nat) (limited : Bool) (s : State) : Host.Outcome State Fault Refusal :=
  s.act fun b => b.svUnder k mv limited

/-- DIMEAS_UPDATE (R666). Every 1 ms while PD12 is at power good, DIO_DIMEAS.VIN of every input is updated, including inputs in MODE 0. -/
def execDimeasUpdate (n : Fin 64) (vin : BitVec 16) (s : State) : Host.Outcome State Fault Refusal :=
  s.act fun b => b.diMeas n vin.toNat

end Sys2Proof.Machine
end

