-- ==== Sys2Proof/Machine/CmdGateway.lean ====
section
/-! DEFINITION. The commands, one meaning each: Broivo gateway (chapter 11). -/
namespace Sys2Proof.Machine

/-- GW_ROUTE (R363). Descriptor that checks and writes routing table entries. -/
def execGwRoute (d : Desc) (s : State) : Host.Outcome State Fault Refusal :=
  s.act fun b => runDesc d Block.gwRoute b

/-- GW_READ (R380). Descriptor that writes routing table entries. -/
def execGwRead (d : Desc) (s : State) : Host.Outcome State Fault Refusal :=
  s.act fun b => runDesc d Block.gwRead b

/-- GW_STATS (R380). Descriptor that writes gateway status and port counters. -/
def execGwStats (d : Desc) (s : State) : Host.Outcome State Fault Refusal :=
  s.act fun b => runDesc d Block.gwStats b

/-- GW_CLEAR (R380). Descriptor that clears gateway sticky bits and counters. -/
def execGwClear (d : Desc) (s : State) : Host.Outcome State Fault Refusal :=
  s.act fun b => runDesc d Block.gwClear b

/-- GATEWAY_ENABLE (R377). GW_CFG.EN written 1 starts lookups. -/
def execGatewayEnable (who : Who) (s : State) : Host.Outcome State Fault Refusal :=
  s.act fun b => b.gate who (R.GW_CFG.at 0) Block.gwEnable

/-- GATEWAY_DISABLE (R377). GW_CFG.EN written 0 stops lookups and discards every gateway queue. -/
def execGatewayDisable (who : Who) (s : State) : Host.Outcome State Fault Refusal :=
  s.act fun b => b.gate who (R.GW_CFG.at 0) Block.gwDisable

/-- KEY_DERIVATION_COMPLETE (R545). A derived-key cache miss finishes its derivation, stores the key and resumes the waiting requests. -/
def execKeyDerivationComplete (s : State) : Host.Outcome State Fault Refusal :=
  s.act fun b => b.stillNet b.keyDerived

end Sys2Proof.Machine
end

