-- ==== Sys2Proof/Machine/CmdGauge.lean ====
section
/-! DEFINITION. The commands, one meaning each: Energy gauge (chapter 21). -/
namespace Sys2Proof.Machine

/-- GAUGE_READ (R661). Descriptor that writes one gauge snapshot. -/
def execGaugeRead (d : Desc) (s : State) : Host.Outcome State Fault Refusal :=
  s.act fun b => runDesc d Block.gaugeRead b

/-- GAUGE_LOG (R661). Descriptor that requests gauge log entries from MD and writes them. -/
def execGaugeLog (d : Desc) (s : State) : Host.Outcome State Fault Refusal :=
  s.act fun b => runDesc d Block.gaugeLog b

/-- SNAPSHOT_SEND (R658). Every 100 ms MD sends a snapshot to the SOC. -/
def execSnapshotSend (s : State) : Host.Outcome State Fault Refusal :=
  s.act fun b => b.gaugeSend

/-- SNAPSHOT_ARRIVAL (R658). A gauge snapshot replaces the window contents and gauge events are raised from changes. -/
def execSnapshotArrival (s : State) : Host.Outcome State Fault Refusal :=
  s.act fun b => b.gaugeArrive

/-- SNAPSHOT_TIMEOUT (R658). No snapshot for 300 ms; STATE reads NOLINK and EV244 is raised. -/
def execSnapshotTimeout (s : State) : Host.Outcome State Fault Refusal :=
  s.act fun b => b.gaugeTimeout

/-- GSUP_LOSS (R648). GSUP falls below 7.0 V and MD enters HOLDUP. -/
def execGsupLoss (s : State) : Host.Outcome State Fault Refusal :=
  s.act fun b => b.onMd GaugeSt.supplyLoss

/-- GSUP_RETURN (R648). GSUP returns before the hold-up ends and MD returns to RUN. -/
def execGsupReturn (s : State) : Host.Outcome State Fault Refusal :=
  s.act fun b => b.onMd GaugeSt.supplyReturn

/-- HOLDUP_STORE (R648). During hold-up the counters and log are written to the store every 1 s. -/
def execHoldupStore (s : State) : Host.Outcome State Fault Refusal :=
  s.act fun b => b.onMd GaugeSt.holdStore

/-- HOLDUP_END (R648). 30 s of hold-up end with a last store write and MD stops. -/
def execHoldupEnd (s : State) : Host.Outcome State Fault Refusal :=
  s.act fun b => b.onMd GaugeSt.holdEnd

/-- MD_POWER_UP (R655). MD powers up, checks ROM, set and store, and enters RUN or PARAMERR. -/
def execMdPowerUp (romOk : Bool) (bad : Fin 3) (s : State) : Host.Outcome State Fault Refusal :=
  s.act fun b => b.onMd (GaugeSt.powerUp romOk bad)

/-- METER_INTEGRATE (R650). Every 100 µs each meter integrates its power into mWh. -/
def execMeterIntegrate (ma : List Int) (v : List Int) (s : State) : Host.Outcome State Fault Refusal :=
  s.act fun b => b.onMd (GaugeSt.integrate ma v)

/-- CONDITION_EVALUATION (R651). Every 100 ms each hour counter's condition is evaluated and counted. -/
def execConditionEvaluation (gin : Fin 64) (s : State) : Host.Outcome State Fault Refusal :=
  s.act fun b => b.onMd (GaugeSt.evaluate gin)

/-- IDENT (R657). Gauge readout command returning identity, parameter and seal state. -/
def execIdent (crcOk : Bool) (s : State) : Host.Outcome State Fault Refusal :=
  s.act fun b => b.mdIdent crcOk

/-- READ (R657). Gauge readout command returning the snapshot record. -/
def execRead (crcOk : Bool) (s : State) : Host.Outcome State Fault Refusal :=
  s.act fun b => b.mdRead crcOk

/-- LOG (R657). Gauge readout command returning log entries. -/
def execLog (crcOk : Bool) (seq : Word) (count : Byte) (s : State) : Host.Outcome State Fault Refusal :=
  s.act fun b => b.mdLog crcOk seq.toNat count.toNat

/-- PARAM (R653). Gauge readout command writing a parameter set while unsealed. -/
def execParam (crcOk : Bool) (set : ParamSet) (s : State) : Host.Outcome State Fault Refusal :=
  s.act fun b => b.mdParam crcOk set

/-- SEAL (R654). Gauge readout command blowing the seal fuse if the conditions hold. -/
def execSeal (crcOk : Bool) (crc : Word) (s : State) : Host.Outcome State Fault Refusal :=
  s.act fun b => b.mdSeal crcOk crc.toNat

end Sys2Proof.Machine
end

