-- ==== Sys2Proof/Machine/HepCx.lean ====
section
/-! DEFINITION. Customer opcodes of the Heper cores (R504–R507, R535–R539). -/
namespace Sys2Proof.Machine

/-- One micro-operation, by the fields of R536. -/
structure Micro where
  w : BitVec 64
  deriving DecidableEq, Repr

namespace Micro
def field (m : Micro) (lo n : Nat) : Nat := (m.w.extractLsb' lo n).toNat
def uop (m : Micro) : Nat := m.field 58 6
def dst (m : Micro) : Nat := m.field 52 6
def sa (m : Micro) : Nat := m.field 46 6
def sb (m : Micro) : Nat := m.field 40 6
def cond (m : Micro) : Nat := m.field 36 4
def fl (m : Micro) : Bool := m.w.getLsbD 35
def k (m : Micro) : Word := m.w.extractLsb' 0 32
end Micro

/-- The register number that a selector below names by X, Y or Z. -/
def CxArgs.pick (a : CxArgs) (i : Nat) : Nat := if i = 0 then a.x else if i = 1 then a.y else a.z

/-- A selector that R537 reserves. -/
def selReserved (s : Nat) : Bool := decide (0x24 ≤ s ∧ s ≤ 0x2F) || s == 0x33 || s == 0x37 || s == 0x3C

/-- A selector that names an accumulator. -/
def selAcc (s : Nat) : Bool := decide (0x20 ≤ s ∧ s ≤ 0x23)

/-- Kinds of micro-operation (R538): a result with flags, a result without, a load or a store with size and sign, a
multiply-accumulate by FN, an accumulator read. -/
inductive MicroOp where
  | nop
  | alu (flagged : Bool) (f : Word → Word → Alu)
  | load (size : Nat) (signed : Bool)
  | store (size : Nat)
  | acc (fn : Nat)
  | read (clamp : Bool)

/-- The operation of a UOP code; `none`: not listed. -/
def microOp (u : Nat) : Option MicroOp := match u with
  | 0x00 => some .nop
  | 0x01 => some (.alu true fun a b => .add a b)
  | 0x02 => some (.alu true fun a b => .sub a b)
  | 0x03 => some (.alu true fun a b => .logic (a &&& b))
  | 0x04 => some (.alu true fun a b => .logic (a ||| b))
  | 0x05 => some (.alu true fun a b => .logic (a ^^^ b))
  | 0x06 => some (.alu true fun a b => .shift 0 a (b.toNat % 256))
  | 0x07 => some (.alu true fun a b => .shift 1 a (b.toNat % 256))
  | 0x08 => some (.alu true fun a b => .shift 2 a (b.toNat % 256))
  | 0x09 => some (.alu true fun a b => .shift 3 a (b.toNat % 256))
  | 0x0A => some (.alu true .mul)
  | 0x0B => some (.alu true .mulhu)
  | 0x0C => some (.alu true .mulhs)
  | 0x0D => some (.alu false .minu)
  | 0x0E => some (.alu false .maxu)
  | 0x0F => some (.alu false .mins)
  | 0x10 => some (.alu false .maxs)
  | 0x11 => some (.alu true fun a b => (Alu.add a b).sat)
  | 0x12 => some (.alu true fun a b => (Alu.sub a b).sat)
  | 0x13 => some (.alu false fun a _ => .plain a)
  | 0x14 => some (.alu true fun a _ => .clz a)
  | 0x18 => some (.load 2 false)
  | 0x19 => some (.load 1 false)
  | 0x1A => some (.load 1 true)
  | 0x1B => some (.load 0 false)
  | 0x1C => some (.load 0 true)
  | 0x20 => some (.store 2)
  | 0x21 => some (.store 1)
  | 0x22 => some (.store 0)
  | 0x28 => some (.acc 0)
  | 0x29 => some (.acc 1)
  | 0x2A => some (.acc 5)
  | 0x2B => some (.read false)
  | 0x2C => some (.read true)
  | _ => none

/-- A micro-operation is illegal (R539): a reserved selector, condition or bit, K, IMM10 or an accumulator against its
use, FL where it is not permitted. -/
def microIllegal (m : Micro) : Bool :=
  let dstAcc := match microOp m.uop with
    | some (.acc _) => true
    | _ => false
  let saAcc := match microOp m.uop with
    | some (.read _) => true
    | _ => false
  let flOk := match microOp m.uop with
    | some (.alu f _) => f
    | _ => false
  (microOp m.uop).isNone || selReserved m.dst || selReserved m.sa || selReserved m.sb || m.cond == 15 ||
    m.dst == 0x3D || m.dst == 0x3E || !(selAcc m.dst == dstAcc) || !(selAcc m.sa == saAcc) || selAcc m.sb ||
    (m.fl && !flOk) || !(m.field 32 3 == 0)

/-- The value of a source selector that names no accumulator (R537). -/
def selGet (a : CxArgs) (h : HepCore) (t : Tab Word) (k : Word) (s : Nat) : Word :=
  if s < 0x10 then h.getD s
  else if s < 0x20 then h.getA (s - 0x10)
  else if s < 0x34 then h.getD (a.pick (s - 0x30))
  else if s < 0x38 then h.getA (a.pick (s - 0x34))
  else if s < 0x3C then Tab.get 0 t (s - 0x38)
  else if s = 0x3D then a.imm.signExtend 32
  else if s = 0x3E then k
  else 0

/-- The core and the temporaries with a destination written; 0x3F writes nothing. -/
def selPut (a : CxArgs) (s : Nat) (v : Word) (h : HepCore) (t : Tab Word) : HepCore × Tab Word :=
  if s < 0x10 then (h.setD s v, t)
  else if s < 0x20 then (h.setA (s - 0x10) v, t)
  else if s < 0x34 then (h.setD (a.pick (s - 0x30)) v, t)
  else if s < 0x38 then (h.setA (a.pick (s - 0x34)) v, t)
  else if s < 0x3C then (h, Tab.put t (s - 0x38) v)
  else (h, t)

namespace Block

/-- One step of a CX: the temporaries go along; an end other than completion stops the sequence. -/
def microStep (c : Nat) (a : CxArgs) (m : Micro) (i : Nat) (b0 b : Block) (t : Tab Word) : Run × Tab Word :=
  let h := b.hc c
  let va := selGet a h t m.k m.sa
  let vb := selGet a h t m.k m.sb
  let putTo (v : Word) (f : HepCore → HepCore) (b : Block) : Run × Tab Word :=
    let r := selPut a m.dst v (b.hc c) t
    (.done (b.updHc c fun _ => f r.1), r.2)
  match microOp m.uop with
  | none => (.done b, t)
  | some .nop => (.done b, t)
  | some (.alu _ f) => let r := f va vb; putTo r.val (fun h => if m.fl then { h with sr := r.flags h.sr } else h) b
  | some (.load size sg) => match b.load c h.priv (va + m.k).toNat (2 ^ size) with
    | .hold => (.hold b0, t)
    | .fault b x => (.trap b { x with incx := true, uop := i }, t)
    | .ok b v => putTo (if sg then (if size = 0 then (v.setWidth 8).signExtend 32 else (v.setWidth 16).signExtend 32) else v) id b
  | some (.store size) => match b.store c h.priv (va + m.k).toNat (2 ^ size) vb with
    | .hold => (.hold b0, t)
    | .fault b x => (.trap b { x with incx := true, uop := i }, t)
    | .ok b _ => (.done b, t)
  | some (.acc fn) => (.done (b.updHc c fun h => h.setAcc (m.dst - 0x20) (accOp fn (h.getAcc (m.dst - 0x20)) va vb).1), t)
  | some (.read clamp) => putTo (accRead clamp (h.getAcc (m.sa - 0x20)) (m.k.toNat % 64)).1 id b

/-- A decode-table parity error (R507): vector 9, with EV249 on HC2–HC14; on the pair, a lockstep mismatch. -/
def parityTrap (c i : Nat) (b : Block) : Run :=
  if c = 0 then .rest b.lockstep else .trap (b.raise 249 (c + 512)) { vec := 9, incx := true, uop := i }

/-- The micro-operations from index i on; `par`: the one whose parity fails. -/
def microRun (c : Nat) (a : CxArgs) (par : Option Nat) (start : Nat) (b0 : Block) : Nat → Nat → Tab Word → Block → Run
  | 0, _, _, b => .done b
  | n + 1, i, t, b =>
    let m : Micro := { w := Tab.get 0 (b.hc c).ustore (start + i) }
    let go := m.cond == 15 || condTrue (b.hc c).sr m.cond
    if go && microIllegal m then .trap b { vec := 1, incx := true, uop := i }
    else if go && par == some i then b.parityTrap c i
    else if !go then microRun c a par start b0 n (i + 1) t b
    else match Block.microStep c a m i b0 b t with
    | (.done b, t) => microRun c a par start b0 n (i + 1) t b
    | (r, _) => r

/-- CXk (R505, R506, R535). -/
def cxOp (x : Exe) (k : Fin 16) (a : CxArgs) (par : Option (Fin 32)) (b : Block) : Block :=
  b.instr x 1 .never fun c b =>
    let h := b.hc c
    let d := (Tab.get 0 h.cxdef k).toNat
    if !bit d 15 then .trap b { vec := 1 }
    else if !h.priv && !bit d 14 then .trap b { vec := 2 }
    else microRun c a (par.map fun i => i) (d % 512) b (bits d 13 9 + 1) 0 [] b

end Block

end Sys2Proof.Machine
end

