-- ==== Sys2Proof/Machine/HepMem.lean ====
section
/-! DEFINITION. Loads and stores of the Heper cores (R526–R528). -/
namespace Sys2Proof.Machine
namespace Block

/-- A load: the base is modified, then the destination written, so that a loaded base keeps the loaded value; an
access that takes an exception writes neither (R528). `put` writes the value that was read. -/
def loadOp (x : Exe) (size ab : Nat) (e : Ea) (put : Word → HepCore → HepCore) (b : Block) : Block :=
  b.instr x e.words .many fun c b =>
    let h := b.hc c
    match b.load c h.priv (h.ea ab size e).toNat (2 ^ size) with
    | .hold => .hold b
    | .fault b x => .trap b x
    | .ok b v => .done (b.updHc c fun h => put v (h.modify ab e))

/-- A store: the value is read before the base is modified (R528). -/
def storeOp (x : Exe) (size ab : Nat) (e : Ea) (val : HepCore → Word) (b : Block) : Block :=
  b.instr x e.words .many fun c b =>
    let h := b.hc c
    match b.store c h.priv (h.ea ab size e).toNat (2 ^ size) (val h) with
    | .hold => .hold b
    | .fault b x => .trap b x
    | .ok b _ => .done (b.updHc c fun h => h.modify ab e)

/-- A value of 2 ^ size bytes, sign-extended. -/
def signedOf (size : Nat) (v : Word) : Word := match size with
  | 0 => (v.setWidth 8).signExtend 32
  | 1 => (v.setWidth 16).signExtend 32
  | _ => v

/-- LD, LDS, LDA; ST, STA (R526). -/
def ldOp (x : Exe) (size : Fin 3) (rd ab : Fin 16) (e : Ea) (b : Block) : Block :=
  b.loadOp x size ab e fun v h => h.setD rd v
def ldsOp (x : Exe) (size : Fin 3) (rd ab : Fin 16) (e : Ea) (b : Block) : Block :=
  b.loadOp x size ab e fun v h => h.setD rd (signedOf size v)
def ldaOp (x : Exe) (ad ab : Fin 16) (e : Ea) (b : Block) : Block := b.loadOp x 2 ab e fun v h => h.setA ad v
def stOp (x : Exe) (size : Fin 3) (rd ab : Fin 16) (e : Ea) (b : Block) : Block :=
  b.storeOp x size ab e fun h => h.getD rd
def staOp (x : Exe) (ad ab : Fin 16) (e : Ea) (b : Block) : Block := b.storeOp x 2 ab e fun h => h.getA ad

end Block

end Sys2Proof.Machine
end

