-- ==== Sys2Proof/Machine/CmdHeper.lean ====
section
/-! DEFINITION. The commands, one meaning each: Heper instructions (chapters 15, 16). -/
namespace Sys2Proof.Machine

/-- MOV (R519). Instruction copying a D register. -/
def execMov (x : Exe) (rd : Fin 16) (rs : Fin 16) (s : State) : Host.Outcome State Fault Refusal :=
  s.act fun b => b.reg2 x rd rs .plain

/-- ADD (R519). Instruction adding two D registers with flags. -/
def execAdd (x : Exe) (rd : Fin 16) (rs : Fin 16) (rt : Fin 16) (s : State) : Host.Outcome State Fault Refusal :=
  s.act fun b => b.reg3 x rd rs rt (fun p q => .add p q)

/-- ADC (R519). Instruction adding with carry. -/
def execAdc (x : Exe) (rd : Fin 16) (rs : Fin 16) (rt : Fin 16) (s : State) : Host.Outcome State Fault Refusal :=
  s.act fun b => b.reg3c x rd rs rt (fun p q k => .add p q k)

/-- SUB (R519). Instruction subtracting with flags. -/
def execSub (x : Exe) (rd : Fin 16) (rs : Fin 16) (rt : Fin 16) (s : State) : Host.Outcome State Fault Refusal :=
  s.act fun b => b.reg3 x rd rs rt (fun p q => .sub p q)

/-- SBC (R519). Instruction subtracting with borrow. -/
def execSbc (x : Exe) (rd : Fin 16) (rs : Fin 16) (rt : Fin 16) (s : State) : Host.Outcome State Fault Refusal :=
  s.act fun b => b.reg3c x rd rs rt (fun p q k => .sub p q k)

/-- ADDS (R522). Instruction adding with signed saturation. -/
def execAdds (x : Exe) (rd : Fin 16) (rs : Fin 16) (rt : Fin 16) (s : State) : Host.Outcome State Fault Refusal :=
  s.act fun b => b.reg3 x rd rs rt (fun p q => (Alu.add p q).sat)

/-- SUBS (R522). Instruction subtracting with signed saturation. -/
def execSubs (x : Exe) (rd : Fin 16) (rs : Fin 16) (rt : Fin 16) (s : State) : Host.Outcome State Fault Refusal :=
  s.act fun b => b.reg3 x rd rs rt (fun p q => (Alu.sub p q).sat)

/-- NEG (R522). Instruction negating a register. -/
def execNeg (x : Exe) (rd : Fin 16) (rs : Fin 16) (s : State) : Host.Outcome State Fault Refusal :=
  s.act fun b => b.reg2 x rd rs (fun p => .sub 0 p)

/-- NEGS (R522). Instruction negating with saturation. -/
def execNegs (x : Exe) (rd : Fin 16) (rs : Fin 16) (s : State) : Host.Outcome State Fault Refusal :=
  s.act fun b => b.reg2 x rd rs (fun p => (Alu.sub 0 p).sat)

/-- ABS (R522). Instruction taking the magnitude. -/
def execAbs (x : Exe) (rd : Fin 16) (rs : Fin 16) (s : State) : Host.Outcome State Fault Refusal :=
  s.act fun b => b.reg2 x rd rs Alu.abs

/-- CMP (R519). Instruction setting flags of a subtraction. -/
def execCmp (x : Exe) (rs : Fin 16) (rt : Fin 16) (s : State) : Host.Outcome State Fault Refusal :=
  s.act fun b => b.cmpOp x 1 (fun h => .sub (h.getD rs) (h.getD rt))

/-- TST (R519). Instruction setting flags of a bitwise AND. -/
def execTst (x : Exe) (rs : Fin 16) (rt : Fin 16) (s : State) : Host.Outcome State Fault Refusal :=
  s.act fun b => b.cmpOp x 1 (fun h => .logic (h.getD rs &&& h.getD rt))

/-- AND (R519). Instruction computing bitwise AND. -/
def execAnd (x : Exe) (rd : Fin 16) (rs : Fin 16) (rt : Fin 16) (s : State) : Host.Outcome State Fault Refusal :=
  s.act fun b => b.reg3 x rd rs rt (fun p q => .logic (p &&& q))

/-- OR (R519). Instruction computing bitwise OR. -/
def execOr (x : Exe) (rd : Fin 16) (rs : Fin 16) (rt : Fin 16) (s : State) : Host.Outcome State Fault Refusal :=
  s.act fun b => b.reg3 x rd rs rt (fun p q => .logic (p ||| q))

/-- XOR (R519). Instruction computing bitwise XOR. -/
def execXor (x : Exe) (rd : Fin 16) (rs : Fin 16) (rt : Fin 16) (s : State) : Host.Outcome State Fault Refusal :=
  s.act fun b => b.reg3 x rd rs rt (fun p q => .logic (p ^^^ q))

/-- NOT (R519). Instruction computing bitwise inverse. -/
def execNot (x : Exe) (rd : Fin 16) (rs : Fin 16) (s : State) : Host.Outcome State Fault Refusal :=
  s.act fun b => b.reg2 x rd rs (fun p => .logic (~~~ p))

/-- LSL (R521). Instruction shifting left by a register count. -/
def execLsl (x : Exe) (rd : Fin 16) (rs : Fin 16) (rt : Fin 16) (s : State) : Host.Outcome State Fault Refusal :=
  s.act fun b => b.shiftOp 0 x rd rs rt

/-- LSR (R521). Instruction shifting right logically. -/
def execLsr (x : Exe) (rd : Fin 16) (rs : Fin 16) (rt : Fin 16) (s : State) : Host.Outcome State Fault Refusal :=
  s.act fun b => b.shiftOp 1 x rd rs rt

/-- ASR (R521). Instruction shifting right arithmetically. -/
def execAsr (x : Exe) (rd : Fin 16) (rs : Fin 16) (rt : Fin 16) (s : State) : Host.Outcome State Fault Refusal :=
  s.act fun b => b.shiftOp 2 x rd rs rt

/-- ROR (R521). Instruction rotating right. -/
def execRor (x : Exe) (rd : Fin 16) (rs : Fin 16) (rt : Fin 16) (s : State) : Host.Outcome State Fault Refusal :=
  s.act fun b => b.shiftOp 3 x rd rs rt

/-- CLZ (R519). Instruction counting leading zeros. -/
def execClz (x : Exe) (rd : Fin 16) (rs : Fin 16) (s : State) : Host.Outcome State Fault Refusal :=
  s.act fun b => b.reg2 x rd rs Alu.clz

/-- SEXTB (R519). Instruction sign-extending a byte. -/
def execSextb (x : Exe) (rd : Fin 16) (rs : Fin 16) (s : State) : Host.Outcome State Fault Refusal :=
  s.act fun b => b.reg2 x rd rs (fun p => .logic ((p.setWidth 8).signExtend 32))

/-- SEXTH (R519). Instruction sign-extending a half-word. -/
def execSexth (x : Exe) (rd : Fin 16) (rs : Fin 16) (s : State) : Host.Outcome State Fault Refusal :=
  s.act fun b => b.reg2 x rd rs (fun p => .logic ((p.setWidth 16).signExtend 32))

/-- MUL (R524). Instruction giving the low 32 bits of a product. -/
def execMul (x : Exe) (rd : Fin 16) (rs : Fin 16) (rt : Fin 16) (s : State) : Host.Outcome State Fault Refusal :=
  s.act fun b => b.reg3 x rd rs rt Alu.mul

/-- MULHU (R519). Instruction giving the high half of an unsigned product. -/
def execMulhu (x : Exe) (rd : Fin 16) (rs : Fin 16) (rt : Fin 16) (s : State) : Host.Outcome State Fault Refusal :=
  s.act fun b => b.reg3 x rd rs rt Alu.mulhu

/-- MULHS (R524). Instruction giving the high half of a signed product. -/
def execMulhs (x : Exe) (rd : Fin 16) (rs : Fin 16) (rt : Fin 16) (s : State) : Host.Outcome State Fault Refusal :=
  s.act fun b => b.reg3 x rd rs rt Alu.mulhs

/-- DIVU (R523). Instruction dividing unsigned, with defined results for zero divisors. -/
def execDivu (x : Exe) (rd : Fin 16) (rs : Fin 16) (rt : Fin 16) (s : State) : Host.Outcome State Fault Refusal :=
  s.act fun b => b.reg3 x rd rs rt Alu.divu

/-- DIVS (R523). Instruction dividing signed. -/
def execDivs (x : Exe) (rd : Fin 16) (rs : Fin 16) (rt : Fin 16) (s : State) : Host.Outcome State Fault Refusal :=
  s.act fun b => b.reg3 x rd rs rt Alu.divs

/-- REMU (R523). Instruction giving the unsigned remainder. -/
def execRemu (x : Exe) (rd : Fin 16) (rs : Fin 16) (rt : Fin 16) (s : State) : Host.Outcome State Fault Refusal :=
  s.act fun b => b.reg3 x rd rs rt Alu.remu

/-- REMS (R523). Instruction giving the signed remainder. -/
def execRems (x : Exe) (rd : Fin 16) (rs : Fin 16) (rt : Fin 16) (s : State) : Host.Outcome State Fault Refusal :=
  s.act fun b => b.reg3 x rd rs rt Alu.rems

/-- MINS (R519). Instruction giving the signed minimum. -/
def execMins (x : Exe) (rd : Fin 16) (rs : Fin 16) (rt : Fin 16) (s : State) : Host.Outcome State Fault Refusal :=
  s.act fun b => b.reg3 x rd rs rt Alu.mins

/-- MAXS (R519). Instruction giving the signed maximum. -/
def execMaxs (x : Exe) (rd : Fin 16) (rs : Fin 16) (rt : Fin 16) (s : State) : Host.Outcome State Fault Refusal :=
  s.act fun b => b.reg3 x rd rs rt Alu.maxs

/-- MINU (R519). Instruction giving the unsigned minimum. -/
def execMinu (x : Exe) (rd : Fin 16) (rs : Fin 16) (rt : Fin 16) (s : State) : Host.Outcome State Fault Refusal :=
  s.act fun b => b.reg3 x rd rs rt Alu.minu

/-- MAXU (R519). Instruction giving the unsigned maximum. -/
def execMaxu (x : Exe) (rd : Fin 16) (rs : Fin 16) (rt : Fin 16) (s : State) : Host.Outcome State Fault Refusal :=
  s.act fun b => b.reg3 x rd rs rt Alu.maxu

/-- MOVAD (R519). Instruction copying an A register to a D register. -/
def execMovad (x : Exe) (rd : Fin 16) (rs : Fin 16) (s : State) : Host.Outcome State Fault Refusal :=
  s.act fun b => b.regOp x rd (fun h => .plain (h.getA rs))

/-- MOVDA (R519). Instruction copying a D register to an A register. -/
def execMovda (x : Exe) (rd : Fin 16) (rs : Fin 16) (s : State) : Host.Outcome State Fault Refusal :=
  s.act fun b => b.addrOp x 1 rd (fun h => h.getD rs)

/-- MOVAA (R519). Instruction copying an A register. -/
def execMovaa (x : Exe) (rd : Fin 16) (rs : Fin 16) (s : State) : Host.Outcome State Fault Refusal :=
  s.act fun b => b.addrOp x 1 rd (fun h => h.getA rs)

/-- ADDAD (R519). Instruction adding a D register to an A register. -/
def execAddad (x : Exe) (rd : Fin 16) (rs : Fin 16) (rt : Fin 16) (s : State) : Host.Outcome State Fault Refusal :=
  s.act fun b => b.addrOp x 1 rd (fun h => h.getA rs + h.getD rt)

/-- SEL (R519). Instruction selecting one of two registers by condition. -/
def execSel (x : Exe) (rd : Fin 16) (rs : Fin 16) (rt : Fin 16) (cond : Fin 15) (s : State) : Host.Outcome State Fault Refusal :=
  s.act fun b => b.selOp x rd rs rt cond

/-- ADDI (R520). Instruction adding an immediate. -/
def execAddi (x : Exe) (rd : Fin 16) (rs : Fin 16) (i : Imm) (s : State) : Host.Outcome State Fault Refusal :=
  s.act fun b => b.immOp x rd i (fun h => .add (h.getD rs) i.signed)

/-- ANDI (R520). Instruction ANDing an immediate. -/
def execAndi (x : Exe) (rd : Fin 16) (rs : Fin 16) (i : Imm) (s : State) : Host.Outcome State Fault Refusal :=
  s.act fun b => b.immOp x rd i (fun h => .logic (h.getD rs &&& i.unsigned))

/-- ORI (R520). Instruction ORing an immediate. -/
def execOri (x : Exe) (rd : Fin 16) (rs : Fin 16) (i : Imm) (s : State) : Host.Outcome State Fault Refusal :=
  s.act fun b => b.immOp x rd i (fun h => .logic (h.getD rs ||| i.unsigned))

/-- XORI (R520). Instruction XORing an immediate. -/
def execXori (x : Exe) (rd : Fin 16) (rs : Fin 16) (i : Imm) (s : State) : Host.Outcome State Fault Refusal :=
  s.act fun b => b.immOp x rd i (fun h => .logic (h.getD rs ^^^ i.unsigned))

/-- MOVI (R520). Instruction loading an immediate. -/
def execMovi (x : Exe) (rd : Fin 16) (i : Imm) (s : State) : Host.Outcome State Fault Refusal :=
  s.act fun b => b.immOp x rd i (fun _ => .plain i.signed)

/-- SHI (R520). Instruction shifting or rotating by an immediate count. -/
def execShi (x : Exe) (rd : Fin 16) (rs : Fin 16) (kind : Fin 4) (count : BitVec 8) (s : State) : Host.Outcome State Fault Refusal :=
  s.act fun b => b.regOp x rd (fun h => .shift kind (h.getD rs) count.toNat)

/-- CMPI (R520). Instruction comparing with an immediate. -/
def execCmpi (x : Exe) (rs : Fin 16) (i : Imm) (s : State) : Host.Outcome State Fault Refusal :=
  s.act fun b => b.cmpOp x i.words (fun h => .sub (h.getD rs) i.signed)

/-- ADDA (R520). Instruction adding an immediate to an A register. -/
def execAdda (x : Exe) (rd : Fin 16) (rs : Fin 16) (i : Imm) (s : State) : Host.Outcome State Fault Refusal :=
  s.act fun b => b.addrOp x i.words rd (fun h => h.getA rs + i.signed)

/-- MFC (R478). Instruction reading a control register. -/
def execMfc (x : Exe) (rd : Fin 16) (cr : BitVec 8) (stale : Bool) (s : State) : Host.Outcome State Fault Refusal :=
  s.act fun b => b.mfcOp x rd cr.toNat stale

/-- MTC (R478). Instruction writing a control register. -/
def execMtc (x : Exe) (cr : BitVec 8) (rs : Fin 16) (s : State) : Host.Outcome State Fault Refusal :=
  s.act fun b => b.mtcOp x cr.toNat rs

/-- ICLAIM_READ (R491). A read of ICLAIM returns the highest-priority pending source and clears its pending bit. -/
def execIclaimRead (x : Exe) (rd : Fin 16) (s : State) : Host.Outcome State Fault Refusal :=
  s.act fun b => b.mfcOp x rd 0x07 false

/-- TIMEL_READ (R478). A read of TIMEL captures the 64-bit timebase count through crossing 7. -/
def execTimelRead (x : Exe) (rd : Fin 16) (stale : Bool) (s : State) : Host.Outcome State Fault Refusal :=
  s.act fun b => b.mfcOp x rd 0x0C stale

/-- CSIG_WRITE (R493). A write to CSIG raises a core signal at the target cores. -/
def execCsigWrite (x : Exe) (rs : Fin 16) (s : State) : Host.Outcome State Fault Refusal :=
  s.act fun b => b.mtcOp x 0x08 rs

/-- TIMER_COMPARE_WRITE (R493). A write to TCMPL or TCMPH sets the compare value and re-evaluates line 13. -/
def execTimerCompareWrite (x : Exe) (upper : Bool) (rs : Fin 16) (s : State) : Host.Outcome State Fault Refusal :=
  s.act fun b => b.mtcOp x (if upper then 0x0F else 0x0E) rs

/-- UCDATAH_WRITE (R504). A write of UCDATAH stores a micro-operation at UCADDR and advances it. -/
def execUcdatahWrite (x : Exe) (rs : Fin 16) (s : State) : Host.Outcome State Fault Refusal :=
  s.act fun b => b.mtcOp x 0x42 rs

/-- CXDEF_WRITE (R505). A write of CXDEF defines a customer opcode, or raises illegal instruction under CXLOCK. -/
def execCxdefWrite (x : Exe) (k : Fin 16) (rs : Fin 16) (s : State) : Host.Outcome State Fault Refusal :=
  s.act fun b => b.mtcOp x (0x50 + k) rs

/-- CXLOCK_WRITE (R478). Writing CXLOCK.LOCK = 1 freezes the decode table until a reset of the core. -/
def execCxlockWrite (x : Exe) (rs : Fin 16) (s : State) : Host.Outcome State Fault Refusal :=
  s.act fun b => b.mtcOp x 0x43 rs

/-- MAC (R525). Instruction multiplying and accumulating, signed, wrapping. -/
def execMac (x : Exe) (n : Fin 4) (rs : Fin 16) (rt : Fin 16) (s : State) : Host.Outcome State Fault Refusal :=
  s.act fun b => b.macOp 0 x n rs rt

/-- MACS (R525). Instruction multiplying and accumulating with saturation. -/
def execMacs (x : Exe) (n : Fin 4) (rs : Fin 16) (rt : Fin 16) (s : State) : Host.Outcome State Fault Refusal :=
  s.act fun b => b.macOp 1 x n rs rt

/-- MSU (R525). Instruction multiplying and subtracting, wrapping. -/
def execMsu (x : Exe) (n : Fin 4) (rs : Fin 16) (rt : Fin 16) (s : State) : Host.Outcome State Fault Refusal :=
  s.act fun b => b.macOp 2 x n rs rt

/-- MSUS (R525). Instruction multiplying and subtracting with saturation. -/
def execMsus (x : Exe) (n : Fin 4) (rs : Fin 16) (rt : Fin 16) (s : State) : Host.Outcome State Fault Refusal :=
  s.act fun b => b.macOp 3 x n rs rt

/-- MACU (R525). Instruction multiplying and accumulating, unsigned. -/
def execMacu (x : Exe) (n : Fin 4) (rs : Fin 16) (rt : Fin 16) (s : State) : Host.Outcome State Fault Refusal :=
  s.act fun b => b.macOp 4 x n rs rt

/-- MULA (R525). Instruction setting an accumulator to a product. -/
def execMula (x : Exe) (n : Fin 4) (rs : Fin 16) (rt : Fin 16) (s : State) : Host.Outcome State Fault Refusal :=
  s.act fun b => b.macOp 5 x n rs rt

/-- ACLR (R525). Instruction clearing an accumulator. -/
def execAclr (x : Exe) (n : Fin 4) (s : State) : Host.Outcome State Fault Refusal :=
  s.act fun b => b.macOp 6 x n 0 0

/-- ARD (R525). Instruction reading a shifted accumulator. -/
def execArd (x : Exe) (rd : Fin 16) (n : Fin 4) (sh : Fin 64) (s : State) : Host.Outcome State Fault Refusal :=
  s.act fun b => b.ardOp false x rd n sh

/-- ARDS (R525). Instruction reading a shifted accumulator with clamping. -/
def execArds (x : Exe) (rd : Fin 16) (n : Fin 4) (sh : Fin 64) (s : State) : Host.Outcome State Fault Refusal :=
  s.act fun b => b.ardOp true x rd n sh

/-- ARDH (R525). Instruction reading accumulator bits [63:32]. -/
def execArdh (x : Exe) (rd : Fin 16) (n : Fin 4) (s : State) : Host.Outcome State Fault Refusal :=
  s.act fun b => b.ardhOp x rd n

/-- ARDG (R525). Instruction reading accumulator guard bits. -/
def execArdg (x : Exe) (rd : Fin 16) (n : Fin 4) (s : State) : Host.Outcome State Fault Refusal :=
  s.act fun b => b.ardgOp x rd n

/-- AWR (R525). Instruction writing a whole accumulator. -/
def execAwr (x : Exe) (n : Fin 4) (rs : Fin 16) (rt : Fin 16) (rg : Fin 16) (s : State) : Host.Outcome State Fault Refusal :=
  s.act fun b => b.awrOp x n rs rt rg

/-- LD (R526). Instruction loading memory zero-extended. -/
def execLd (x : Exe) (size : Fin 3) (rd : Fin 16) (ab : Fin 16) (e : Ea) (s : State) : Host.Outcome State Fault Refusal :=
  s.act fun b => b.ldOp x size rd ab e

/-- LDS (R526). Instruction loading memory sign-extended. -/
def execLds (x : Exe) (size : Fin 3) (rd : Fin 16) (ab : Fin 16) (e : Ea) (s : State) : Host.Outcome State Fault Refusal :=
  s.act fun b => b.ldsOp x size rd ab e

/-- ST (R526). Instruction storing a D register. -/
def execSt (x : Exe) (size : Fin 3) (rd : Fin 16) (ab : Fin 16) (e : Ea) (s : State) : Host.Outcome State Fault Refusal :=
  s.act fun b => b.stOp x size rd ab e

/-- LDA (R526). Instruction loading an A register. -/
def execLda (x : Exe) (ad : Fin 16) (ab : Fin 16) (e : Ea) (s : State) : Host.Outcome State Fault Refusal :=
  s.act fun b => b.ldaOp x ad ab e

/-- STA (R526). Instruction storing an A register. -/
def execSta (x : Exe) (ad : Fin 16) (ab : Fin 16) (e : Ea) (s : State) : Host.Outcome State Fault Refusal :=
  s.act fun b => b.staOp x ad ab e

/-- B (R529). Instruction branching on a condition. -/
def execB (x : Exe) (cond : Fin 15) (t : Target) (s : State) : Host.Outcome State Fault Refusal :=
  s.act fun b => b.branchOp false x cond t

/-- BL (R529). Instruction branching and linking. -/
def execBl (x : Exe) (cond : Fin 15) (t : Target) (s : State) : Host.Outcome State Fault Refusal :=
  s.act fun b => b.branchOp true x cond t

/-- JR (R529). Instruction jumping to a register, optionally linking. -/
def execJr (x : Exe) (link : Bool) (rs : Fin 16) (s : State) : Host.Outcome State Fault Refusal :=
  s.act fun b => b.jrOp x link rs

/-- LOOP (R498). Instruction setting up a hardware loop level. -/
def execLoop (x : Exe) (k : Fin 4) (f : LoopForm) (s : State) : Host.Outcome State Fault Refusal :=
  s.act fun b => b.loopOp x k f

/-- REP (R501). Instruction repeating the next instruction a counted number of times. -/
def execRep (x : Exe) (f : RepForm) (s : State) : Host.Outcome State Fault Refusal :=
  s.act fun b => b.repOp x f

/-- NOP_INSTRUCTION (R532). Instruction doing nothing. -/
def execNopInstruction (x : Exe) (s : State) : Host.Outcome State Fault Refusal :=
  s.act fun b => b.nopOp x

/-- TRAP (R532). Instruction entering vector 7 with a trap number. -/
def execTrap (x : Exe) (n : Fin 32) (s : State) : Host.Outcome State Fault Refusal :=
  s.act fun b => b.trapOp x n

/-- BRK (R532). Instruction entering vector 8. -/
def execBrk (x : Exe) (s : State) : Host.Outcome State Fault Refusal :=
  s.act fun b => b.brkOp x

/-- RETE (R487). Instruction returning from an exception frame. -/
def execRete (x : Exe) (s : State) : Host.Outcome State Fault Refusal :=
  s.act fun b => b.reteOp x

/-- WAIT (R532). Instruction waiting for an enabled pending interrupt line. -/
def execWait (x : Exe) (s : State) : Host.Outcome State Fault Refusal :=
  s.act fun b => b.waitOp x

/-- SYNC (R516). Instruction waiting for all earlier loads and stores to complete. -/
def execSync (x : Exe) (s : State) : Host.Outcome State Fault Refusal :=
  s.act fun b => b.nopOp x

/-- CX (R535). Customer opcode running its micro-operation sequence uninterrupted. -/
def execCx (x : Exe) (k : Fin 16) (a : CxArgs) (par : Option (Fin 32)) (s : State) : Host.Outcome State Fault Refusal :=
  s.act fun b => b.cxOp x k a par

/-- INTERRUPT_TAKEN (R490). At the end of an uninterruptible unit a pending enabled line is taken through exception entry. -/
def execInterruptTaken (c : Fin 15) (s : State) : Host.Outcome State Fault Refusal :=
  s.act fun b => b.interruptTaken c

/-- TIMER_COMPARE (R490). The timebase reaches TCMPH:TCMPL and line 13 becomes pending. -/
def execTimerCompare (c : Fin 15) (s : State) : Host.Outcome State Fault Refusal :=
  s.act fun b => b.timerCompare c

end Sys2Proof.Machine
end

