-- ==== Sys2Proof/Machine/CmdHost.lean ====
section
/-! DEFINITION. The commands, one meaning each: Host rings (chapter 12). -/
namespace Sys2Proof.Machine

/-- PCIE_FUNCTION_LEVEL_RESET (R412). Host issues a function-level reset; HQ registers, doorbells and mailbox are reset, undispatched descriptors are discarded, and the reset completes within 1 ms. -/
def execPcieFunctionLevelReset (s : State) : Host.Outcome State Fault Refusal :=
  s.act fun b => b.flr

/-- LINK_DOWN (R412). A PCIe link-down or hot reset acts as a function-level reset and sets HQ_LINK.DOWNX. -/
def execLinkDown (s : State) : Host.Outcome State Fault Refusal :=
  s.act fun b => b.linkDown

/-- PERST_N_LOW (R680). PERST_N goes low after its filter and acts as a link-down without resetting the SoC. -/
def execPerstNLow (s : State) : Host.Outcome State Fault Refusal :=
  s.act fun b => b.linkDown

/-- LINK_TRAINED (R83). PCIe link training completes after PD8 is powered. -/
def execLinkTrained (speed : Fin 4) (width : Fin 3) (s : State) : Host.Outcome State Fault Refusal :=
  s.act fun b => b.linkTrained speed width

/-- D3_ENTRY (R383). Function enters D3hot; descriptor fetches and MSI-X messages stop while queue state is kept. -/
def execD3Entry (s : State) : Host.Outcome State Fault Refusal :=
  s.act fun b => b.d3Entry

/-- D3_EXIT (R383). Return to D0; with No_Soft_Reset = 0 this acts as a function-level reset. -/
def execD3Exit (noSoftReset : Bool) (s : State) : Host.Outcome State Fault Refusal :=
  s.act fun b => b.d3Exit noSoftReset

/-- DOORBELL_WRITE (R390). Host writes a queue's producer index to W2; the value is checked and fetching is started or stored. -/
def execDoorbellWrite (q : Fin 64) (w : DbWrite) (v : Word) (s : State) : Host.Outcome State Fault Refusal :=
  s.act fun b => b.doorbell q w.width v.toNat

/-- COMPLETION_HEAD_WRITE (R393). Host reports consumed completions by writing the completion head doorbell. -/
def execCompletionHeadWrite (q : Fin 64) (w : DbWrite) (v : Word) (s : State) : Host.Outcome State Fault Refusal :=
  s.act fun b => b.complHead q w.width v.toNat

/-- EVENT_QUEUE_HEAD_WRITE (R404). Host writes an event queue's head doorbell, freeing room in the event ring. -/
def execEventQueueHeadWrite (e : Fin 8) (w : DbWrite) (v : Word) (s : State) : Host.Outcome State Fault Refusal :=
  s.act fun b => b.eventHead e w.width v.toNat

/-- DESCRIPTOR_FETCH (R392). Host queues issue reads of descriptors of an enabled queue in round-robin turns while completion room allows. -/
def execDescriptorFetch (s : State) : Host.Outcome State Fault Refusal :=
  s.act fun b => b.fetch

/-- DESCRIPTOR_ARRIVAL (R41). A fetched descriptor arrives, its common fields are checked, and it is dispatched to its executing unit by opcode or forwarded to another node. -/
def execDescriptorArrival (q : Fin 64) (dws : List Word) (payload : List Byte) (s : State) : Host.Outcome State Fault Refusal :=
  s.act fun b => b.arrival q dws payload

/-- FENCED_DISPATCH (R394). A descriptor with FENCE is dispatched once every earlier descriptor of its queue has had its completion written. -/
def execFencedDispatch (q : Fin 64) (s : State) : Host.Outcome State Fault Refusal :=
  s.act fun b => b.fencedDispatch q

/-- COMPLETION_WRITE (R402). When the executing unit has accepted or finished a descriptor, payload writes and then the 16-byte completion are written to host memory. -/
def execCompletionWrite (q : Fin 64) (i : Nat) (s : State) : Host.Outcome State Fault Refusal :=
  s.act fun b => b.complWrite q i

/-- MSIX_COALESCE_TIMEOUT (R407). TIME µs pass since the first uncounted completion and the queue sends its MSI-X message. -/
def execMsixCoalesceTimeout (q : Fin 64) (s : State) : Host.Outcome State Fault Refusal :=
  s.act fun b => b.coalTimeout q

/-- MSIX_VECTOR_UNMASK (R407). A masked vector with its pending bit set is unmasked and the message is sent. -/
def execMsixVectorUnmask (v : Fin 64) (addr : BitVec 64) (data : Word) (s : State) : Host.Outcome State Fault Refusal :=
  s.act fun b => b.msixUnmask v addr.toNat data

/-- HOST_MEMORY_FAULT (R413). A host memory access fails or times out and the queue goes to ERROR or the descriptor completes with HW_FAULT or TIMEOUT. -/
def execHostMemoryFault (kind : Fin 5) (q : Fin 64) (late : Bool) (dws : List Word) (s : State) : Host.Outcome State Fault Refusal :=
  s.act fun b => b.memFault kind q late dws

/-- QUEUE_ENABLE (R388). EN written 1 on a disabled queue enables it if its sizes are valid, else sets CFGERR. -/
def execQueueEnable (who : Who) (q : Fin 64) (s : State) : Host.Outcome State Fault Refusal :=
  s.act fun b => b.gate who (R.HQ_QCFG.at q) (Block.queueEnable q)

/-- QUEUE_DRAIN (R411). EN written 0 on a queue stops fetching, completes undispatched descriptors with DISABLED and moves the queue to DRAINING. -/
def execQueueDrain (who : Who) (q : Fin 64) (s : State) : Host.Outcome State Fault Refusal :=
  s.act fun b => b.gate who (R.HQ_QCFG.at q) (Block.queueDrain q)

/-- QUEUE_DRAIN_COMPLETE (R411). INFLIGHT reaches 0 on a draining or errored queue and it becomes DISABLED. -/
def execQueueDrainComplete (q : Fin 64) (s : State) : Host.Outcome State Fault Refusal :=
  s.act fun b => b.queueDrained q

/-- QUEUE_INDEX_WRITE (R389). A write to HQ_QIDX sets the queue's indices and the PHASE of the next completion to 1. -/
def execQueueIndexWrite (who : Who) (q : Fin 64) (w : Word) (s : State) : Host.Outcome State Fault Refusal :=
  s.act fun b => b.gate who (R.HQ_QIDX.at q) (Block.queueIndex q w.toNat)

/-- EVENT_QUEUE_ENABLE (R404). EN written 1 on an event queue enables it. -/
def execEventQueueEnable (who : Who) (e : Fin 8) (s : State) : Host.Outcome State Fault Refusal :=
  s.act fun b => b.gate who (R.HQ_EQCFG.at e) (Block.eqEnable e)

/-- EVENT_QUEUE_DISABLE (R406). EN written 0 on an event queue disables it, restarting a queue in ERROR when written 1 afterwards. -/
def execEventQueueDisable (who : Who) (e : Fin 8) (s : State) : Host.Outcome State Fault Refusal :=
  s.act fun b => b.gate who (R.HQ_EQCFG.at e) (Block.eqDisable e)

/-- EVENT_QUEUE_INDEX_WRITE (R416). A write to HQ_EQIDX sets the tail and the PHASE to 1. -/
def execEventQueueIndexWrite (who : Who) (e : Fin 8) (w : Word) (s : State) : Host.Outcome State Fault Refusal :=
  s.act fun b => b.gate who (R.HQ_EQIDX.at e) (Block.eqIndex e w.toNat)

/-- MAILBOX_DONE (R409). Supervisor writes HQ_MBXDONE; the reply payload and the SUP_MSG completion are written and the slot freed. -/
def execMailboxDone (who : Who) (w : Word) (s : State) : Host.Outcome State Fault Refusal :=
  s.act fun b => b.gateSup who (R.HQ_MBXDONE.at 0) (Block.mailDone w.toNat)

/-- NOP (R408). Descriptor that does nothing and completes OK. -/
def execNop (d : Desc) (s : State) : Host.Outcome State Fault Refusal :=
  s.act fun b => runDesc d Block.sysNop b

/-- SYS_INFO (R408). Descriptor that writes 64 bytes of identity, lock, state and link registers. -/
def execSysInfo (d : Desc) (s : State) : Host.Outcome State Fault Refusal :=
  s.act fun b => runDesc d Block.sysInfo b

/-- TIME_READ (R408). Descriptor that writes the timebase count and the real-time counter captured within 100 ns. -/
def execTimeRead (d : Desc) (s : State) : Host.Outcome State Fault Refusal :=
  s.act fun b => runDesc d Block.timeRead b

/-- SUP_MSG (R409). Descriptor that places a message in a mailbox slot and raises the supervisor's mailbox interrupt. -/
def execSupMsg (d : Desc) (s : State) : Host.Outcome State Fault Refusal :=
  s.act fun b => b.supMsg d

/-- EQ_MARK (R408). Descriptor that writes a TYPE 2 marker entry into an event queue. -/
def execEqMark (d : Desc) (s : State) : Host.Outcome State Fault Refusal :=
  s.act fun b => b.eqMark d

/-- AER_UNCORRECTABLE_ERROR (R415). An uncorrectable error is reported through AER and EV224 is raised with DETAIL cause 4. -/
def execAerUncorrectableError (s : State) : Host.Outcome State Fault Refusal :=
  s.act fun b => b.aerError

/-- LINK_L1_ENTRY (R465). The PCIe link enters L1 and the PIPE island clock is gated until a wake request restarts it. -/
def execLinkL1Entry (s : State) : Host.Outcome State Fault Refusal :=
  s.act fun b => b.l1Entry

end Sys2Proof.Machine
end

