-- ==== Sys2Proof/Machine/CmdLamp.lean ====
section
/-! DEFINITION. The commands, one meaning each: Lamp channels and LED matrices (chapter 6). -/
namespace Sys2Proof.Machine

/-- LMP_SET (R243). Descriptor that starts a fade of selected lamp channels to a TARGET. -/
def execLmpSet (d : Desc) (s : State) : Host.Outcome State Fault Refusal :=
  s.act fun b => b.lmpSet d

/-- LMP_SETLIST (R243). Descriptor that starts fades of listed lamp channels, each to its own TARGET and FADE. -/
def execLmpSetlist (d : Desc) (s : State) : Host.Outcome State Fault Refusal :=
  s.act fun b => b.lmpSetList d

/-- LMP_COLOUR (R224). Descriptor that starts a colour fade of selected RGB groups. -/
def execLmpColour (d : Desc) (s : State) : Host.Outcome State Fault Refusal :=
  s.act fun b => b.lmpColour d

/-- LMP_READ (R243). Descriptor that writes level, fade and diagnosis records of lamp channels. -/
def execLmpRead (d : Desc) (s : State) : Host.Outcome State Fault Refusal :=
  s.act fun b => runDesc d Block.lmpRead b

/-- LMP_CLEAR (R243). Descriptor that clears lamp diagnosis flags and FCUT. -/
def execLmpClear (d : Desc) (s : State) : Host.Outcome State Fault Refusal :=
  s.act fun b => runDesc d Block.lmpClear b

/-- FADE_STEP (R221). Every 1 ms the lamp logic recomputes LEVEL of running fades and ends them at TARGET. -/
def execFadeStep (s : State) : Host.Outcome State Fault Refusal :=
  s.act fun b => b.fadeStep

/-- GROUP_ENABLE (R223). A write of LMP_GRP.EN enables an RGB group if its members qualify, else sets GERR. -/
def execGroupEnable (who : Who) (g : Fin 16) (w : Word) (s : State) : Host.Outcome State Fault Refusal :=
  s.act fun b => b.setupWrite who (R.LMP_GRP.at g) w.toNat

/-- MTX_FRAME (R233). Descriptor that writes a 512-byte frame to the back buffer of selected matrix ports. -/
def execMtxFrame (d : Desc) (s : State) : Host.Outcome State Fault Refusal :=
  s.act fun b => b.mtxFrameDesc d

/-- MTX_READ (R243). Descriptor that writes a matrix port's status and LED map. -/
def execMtxRead (d : Desc) (s : State) : Host.Outcome State Fault Refusal :=
  s.act fun b => runDesc d Block.mtxRead b

/-- MTX_CLEAR (R243). Descriptor that clears matrix sticky bits and restarts faulted lines and columns. -/
def execMtxClear (d : Desc) (s : State) : Host.Outcome State Fault Refusal :=
  s.act fun b => runDesc d Block.mtxClearDesc b

/-- MATRIX_ENABLE (R236). MTX_CFG.EN written 1 starts the port scanning. -/
def execMatrixEnable (who : Who) (k : Fin 4) (s : State) : Host.Outcome State Fault Refusal :=
  s.act fun b => b.gate who (R.MTX_CFG.at k) (Block.mtxEnable k)

/-- MATRIX_DISABLE (R236). MTX_CFG.EN written 0 stops the port. -/
def execMatrixDisable (who : Who) (k : Fin 4) (s : State) : Host.Outcome State Fault Refusal :=
  s.act fun b => b.gate who (R.MTX_CFG.at k) (Block.mtxDisable k)

/-- MATRIX_FRAME_START (R229). A 2.5 ms matrix frame starts, swapping buffers and recording per-frame diagnosis. -/
def execMatrixFrameStart (rails : List Nat) (volts : List (Nat × Nat × Nat)) (s : State) : Host.Outcome State Fault Refusal :=
  s.act fun b => b.mtxFrameStart rails volts

/-- MATRIX_LINE_SWITCH (R231). At the end of a line slot the blanking sequence runs and the next line turns on. -/
def execMatrixLineSwitch (s : State) : Host.Outcome State Fault Refusal :=
  s.act fun b => b.mtxLineSwitch

/-- VMX_FAULT (R232). VMX is out of ±10 % for 1 ms; the port stops, VMXF is set and EV(184+k) raised. -/
def execVmxFault (k : Fin 4) (vout : Nat) (s : State) : Host.Outcome State Fault Refusal :=
  s.act fun b => b.vmxFault k vout

/-- LINE_SHORT_TRIP (R235). A line driver above 6.0 A turns its line off and sets LSHORT. -/
def execLineShortTrip (k : Fin 4) (i : Fin 16) (ma : Nat) (s : State) : Host.Outcome State Fault Refusal :=
  s.act fun b => b.lineTrip k i ma

/-- COLUMN_SHORT_TRIP (R235). A column sink above 250 mA turns its column off and sets its CSHORT bit. -/
def execColumnShortTrip (k : Fin 4) (j : Fin 32) (ma : Nat) (s : State) : Host.Outcome State Fault Refusal :=
  s.act fun b => b.colTrip k j ma

/-- MATRIX_LINE_RESTART (R242). Writing 1 to an LSHORT bit clears it and restarts the line. -/
def execMatrixLineRestart (who : Who) (k : Fin 4) (m : BitVec 16) (s : State) : Host.Outcome State Fault Refusal :=
  s.act fun b => b.gate who (R.MTX_LFLT.at k) (Block.lineRestart k m.toNat)

/-- MATRIX_COLUMN_RESTART (R242). Writing 1 to a CSHORT bit clears it and restarts the column. -/
def execMatrixColumnRestart (who : Who) (k : Fin 4) (m : Word) (s : State) : Host.Outcome State Fault Refusal :=
  s.act fun b => b.gate who (R.MTX_CFLT.at k) (Block.colRestart k m.toNat)

end Sys2Proof.Machine
end

