-- ==== Sys2Proof/Machine/CmdModule.lean ====
section
/-! DEFINITION. The commands, one meaning each: Set-up lock, core control and module identity (chapters 1, 2, 15). -/
namespace Sys2Proof.Machine

/-- MODULE_POWER_ON_RESET (R9). Logic supply rises above 6.5 V at first connection or after falling below 3.0 V; the whole module except the gauge resets and every output is off. -/
def execModulePowerOnReset (s : State) : Host.Outcome State Fault Refusal :=
  s.act fun b => b.powerOnReset

/-- BROWN_OUT (R9). Logic supply falls below 6.0 V while staying at or above 3.0 V; the module resets as for power-on reset and goes to Off. -/
def execBrownOut (s : State) : Host.Outcome State Fault Refusal :=
  s.act fun b => b.brownOut

/-- BROWN_OUT_END (R93). Logic supply rises above 6.5 V after a brown-out; the reset ends with BROWNOUT set and POR cleared. -/
def execBrownOutEnd (s : State) : Host.Outcome State Fault Refusal :=
  s.act fun b => b.brownOutEnd

/-- COLD_BOOT (R604). On release of PD1 and PD2 the boot ROM reads, verifies and measures the components and enters supervisor firmware, or enters Recovery. -/
def execColdBoot (bcrBad : Fin 4) (recBad : Fin 4) (rkBad : Fin 16) (s : State) : Host.Outcome State Fault Refusal :=
  s.act fun b => b.coldBoot bcrBad recBad rkBad

/-- IGN_CHANGE (R66). Filtered IGN changes level, PWR_STATE.IGN follows and EV3 is raised; rising IGN wakes from Still. -/
def execIgnChange (high : Bool) (phase : Fin 3) (rkBad : Fin 16) (s : State) : Host.Outcome State Fault Refusal :=
  s.act fun b => b.ignChange high phase rkBad

/-- DOMAIN_ON (R68). A PWR_DOMCTL bit is written 1 and the switched domain is powered up. -/
def execDomainOn (who : Who) (d : Fin 10) (s : State) : Host.Outcome State Fault Refusal :=
  s.act fun b => b.gate who (R.PWR_DOMCTL.at 0) (Block.domainOn (3 + d))

/-- DOMAIN_POWER_GOOD (R68). A domain reaches power good; its memories are initialised and its functions start. -/
def execDomainPowerGood (d : Fin 10) (rkBad : Fin 16) (s : State) : Host.Outcome State Fault Refusal :=
  s.act fun b => b.domainGood (3 + d) rkBad

/-- DOMAIN_PG_TIMEOUT (R68). A domain misses power good within 200 µs, stays off, sets PGFAIL and raises EV4. -/
def execDomainPgTimeout (d : Fin 10) (s : State) : Host.Outcome State Fault Refusal :=
  s.act fun b => b.domainTimeout (3 + d)

/-- DOMAIN_OFF (R69). A PWR_DOMCTL bit is written 0; the domain powers down, or the request is refused with REFUSED and EV5. -/
def execDomainOff (who : Who) (d : Fin 10) (s : State) : Host.Outcome State Fault Refusal :=
  s.act fun b => b.gate who (R.PWR_DOMCTL.at 0) (Block.domainOff (3 + d))

/-- STILL_REQUEST (R75). Supervisor writes 0x5711 to PWR_STILL; conditions are checked and Still entry starts or is refused. -/
def execStillRequest (who : Who) (req : StillReq) (s : State) : Host.Outcome State Fault Refusal :=
  s.act fun b => b.gate who (R.PWR_STILL.at 0) (Block.stillRequest who.isSup req.key.toNat (some req.volts))

/-- STILL_REACHED (R76). Still entry completes with PD1 and PD2 off and the reference oscillator stopped. -/
def execStillReached (rkBad : Fin 16) (s : State) : Host.Outcome State Fault Refusal :=
  s.act fun b => b.stillReached rkBad

/-- WAKE_RECOGNISED (R80). An enabled wake source passes its filter in Still or during entry and the wake sequence starts. -/
def execWakeRecognised (src : Fin 45) (phase : Fin 3) (seen : WakeSeen) (rkBad : Fin 16) (s : State) : Host.Outcome State Fault Refusal :=
  s.act fun b => b.wakeSource src phase seen rkBad

/-- RETAINED_HASH_COMPLETE (R82). The SHA-384 of retained SRAM completes on wake; on a match the wake entry runs, otherwise a cold boot follows with HASHFAIL. -/
def execRetainedHashComplete (flips : List (Nat × Byte)) (s : State) : Host.Outcome State Fault Refusal :=
  s.act fun b => b.retainedHash flips

/-- RTC_ALARM_HIGH_WRITE (R97). A write of PWR_RTCALM[1] sets the alarm and compares it with the count at once. -/
def execRtcAlarmHighWrite (who : Who) (v : BitVec 16) (s : State) : Host.Outcome State Fault Refusal :=
  s.act fun b => b.gate who (R.PWR_RTCALM1.at 0) (Block.rtcAlarmHigh v.toNat)

/-- RTC_ALARM (R97). The count equals the alarm; wake source 31 in Still or EV3 otherwise. -/
def execRtcAlarm (count : BitVec 48) (phase : Fin 3) (rkBad : Fin 16) (s : State) : Host.Outcome State Fault Refusal :=
  s.act fun b => b.rtcAlarmTick count.toNat phase rkBad

/-- ENGINE_READY (R142). A reset engine has read the channel states back and accepts commands again, releasing waiting descriptors. -/
def execEngineReady (c : Fin 15) (s : State) : Host.Outcome State Fault Refusal :=
  s.act fun b => b.engineReady c

/-- CORE_RUN (R475). HEP_CCTL.RUN written 1 starts a HELD application core at its entry address. -/
def execCoreRun (who : Who) (c : Fin 4) (s : State) : Host.Outcome State Fault Refusal :=
  s.act fun b => b.gate who (R.HEP_CCTL.at c) (Block.coreRun (2 + c))

/-- WATCHDOG_ENABLE (R508). HEP_SWDCFG.EN written 1 starts the supervisor watchdog for good. -/
def execWatchdogEnable (who : Who) (s : State) : Host.Outcome State Fault Refusal :=
  s.act fun b => b.gate who (R.HEP_SWDCFG.at 0) Block.swdEnable

/-- WATCHDOG_KICK (R508). A write of 0x7E11 to HEP_SWDKICK restarts the watchdog window. -/
def execWatchdogKick (who : Who) (key : BitVec 16) (s : State) : Host.Outcome State Fault Refusal :=
  s.act fun b => b.gateSup who (R.HEP_SWDKICK.at 0) (Block.swdKick key.toNat)

/-- WATCHDOG_EXPIRY (R508). The watchdog window expires; EV248 is raised and a SoC reset recorded as WDOG begins. -/
def execWatchdogExpiry (s : State) : Host.Outcome State Fault Refusal :=
  s.act fun b => b.swdExpiry

/-- HEP_CRST_WRITE (R509). A write to HEP_CRST with the key requests a single-core reset of HC2–HC14. -/
def execHepCrstWrite (who : Who) (w : Word) (s : State) : Host.Outcome State Fault Refusal :=
  s.act fun b => b.gateSup who (R.HEP_CRST.at 0) (Block.crstWrite w.toNat)

/-- SUPERVISOR_HASH_COMPLETE (R608). The retained SRAM hash ends; the ROM enters ENTRY or a SoC reset recorded as IMGHASH begins. -/
def execSupervisorHashComplete (flips : List (Nat × Byte)) (s : State) : Host.Outcome State Fault Refusal :=
  s.act fun b => b.supHash flips

/-- STILL_POLL_BURST (R573). In Still the polling sequencer runs a poll burst and recognises an enrolled token as a wake. -/
def execStillPollBurst (ans : Option (Nat × BitVec 64)) (s : State) : Host.Outcome State Fault Refusal :=
  s.act fun b => b.stillBurst (ans.map fun a => (a.1, a.2.toNat))

/-- SUPPLY_BELOW_RETENTION (R93). The logic supply falls below the PD0 retention level of 3.0 V; PD0 contents are lost, the module is Off and the next rise is a module power-on reset. -/
def execSupplyBelowRetention (s : State) : Host.Outcome State Fault Refusal :=
  s.act fun b => b.belowRetention

end Sys2Proof.Machine
end

