-- ==== Sys2Proof/Machine/CmdNet.lean ====
section
/-! DEFINITION. The commands, one meaning each: Networks (chapter 10). -/
namespace Sys2Proof.Machine

/-- CAN_TX (R333). Descriptor that queues CAN frames for transmission. -/
def execCanTx (d : Desc) (s : State) : Host.Outcome State Fault Refusal :=
  s.act fun b => b.stillNet (b.canTx d)

/-- NET_RXPOST (R336). Descriptor that posts a receive buffer for a network channel. -/
def execNetRxpost (d : Desc) (s : State) : Host.Outcome State Fault Refusal :=
  s.act fun b => b.rxPost d

/-- NET_SLEEP (R346). Descriptor that moves selected channels to SLEEPREQ. -/
def execNetSleep (d : Desc) (s : State) : Host.Outcome State Fault Refusal :=
  s.act fun b => runDesc d Block.netSleep b

/-- NET_WAKE (R349). Descriptor that wakes selected channels locally. -/
def execNetWake (d : Desc) (s : State) : Host.Outcome State Fault Refusal :=
  s.act fun b => b.stillNet (runDesc d Block.netWake b)

/-- LIN_SCHED (R338). Descriptor that loads a LIN commander schedule table. -/
def execLinSched (d : Desc) (s : State) : Host.Outcome State Fault Refusal :=
  s.act fun b => runDesc d Block.linSched b

/-- LIN_RESP (R339). Descriptor that adds or removes LIN response entries. -/
def execLinResp (d : Desc) (s : State) : Host.Outcome State Fault Refusal :=
  s.act fun b => runDesc d Block.linRespond b

/-- ETH_TX (R343). Descriptor that sends Ethernet frames into the switch at port 4. -/
def execEthTx (d : Desc) (s : State) : Host.Outcome State Fault Refusal :=
  s.act fun b => runDesc d Block.ethTx b

/-- NET_READ (R360). Descriptor that writes the status of all network channels. -/
def execNetRead (d : Desc) (s : State) : Host.Outcome State Fault Refusal :=
  s.act fun b => runDesc d Block.netRead b

/-- NET_CLEAR (R360). Descriptor that clears sticky bits, starts bus-off recovery or clears KEEP records. -/
def execNetClear (d : Desc) (s : State) : Host.Outcome State Fault Refusal :=
  s.act fun b => runDesc d Block.netClear b

/-- CAN_ENABLE (R331). CAN_CFG.EN written 1 applies the configuration or sets CFGERR. -/
def execCanEnable (who : Who) (n : Fin 12) (s : State) : Host.Outcome State Fault Refusal :=
  s.act fun b => b.gate who (R.CAN_CFG.at n) (Block.canEnable n)

/-- CAN_DISABLE (R346). CAN_CFG.EN written 0 makes the channel DISABLED with a passive transceiver. -/
def execCanDisable (who : Who) (n : Fin 12) (s : State) : Host.Outcome State Fault Refusal :=
  s.act fun b => b.gate who (R.CAN_CFG.at n) (Block.netDisable n)

/-- LIN_ENABLE (R358). LIN_CFG.EN written 1 enables a LIN channel. -/
def execLinEnable (who : Who) (n : Fin 8) (s : State) : Host.Outcome State Fault Refusal :=
  s.act fun b => b.gate who (R.LIN_CFG.at n) (Block.linEnable n)

/-- LIN_DISABLE (R346). LIN_CFG.EN written 0 disables a LIN channel. -/
def execLinDisable (who : Who) (n : Fin 8) (s : State) : Host.Outcome State Fault Refusal :=
  s.act fun b => b.gate who (R.LIN_CFG.at n) (Block.linDisable n)

/-- ETH_PORT_ENABLE (R341). ETH_PCFG.EN written 1 enables a port, testing its cable and bringing up the link. -/
def execEthPortEnable (who : Who) (p : Fin 5) (cab : Fin 5) (s : State) : Host.Outcome State Fault Refusal :=
  s.act fun b => b.gate who (R.ETH_PCFG.at p) (Block.ethEnable p cab)

/-- ETH_PORT_DISABLE (R344). ETH_PCFG.EN written 0 drops the link, discards queued frames and learned addresses. -/
def execEthPortDisable (who : Who) (p : Fin 5) (s : State) : Host.Outcome State Fault Refusal :=
  s.act fun b => b.gate who (R.ETH_PCFG.at p) (Block.ethPortOff p)

/-- CAN_FRAME_RECEIVED (R334). A CAN frame is received, filtered into a record and looked up by the gateway. -/
def execCanFrameReceived (n : Fin 12) (f : CanRx) (s : State) : Host.Outcome State Fault Refusal :=
  s.act fun b => b.stillNet (b.canReceived n f)

/-- CAN_FRAME_SENT (R333). A queued frame is acknowledged on the bus and the next frame goes to arbitration. -/
def execCanFrameSent (n : Fin 12) (e : CanEnd) (s : State) : Host.Outcome State Fault Refusal :=
  s.act fun b => b.canSentAll n e

/-- CAN_TX_TIMEOUT (R333). A frame is not acknowledged within TXTO; it and the rest of its descriptor are abandoned. -/
def execCanTxTimeout (n : Fin 12) (q : Fin 3) (s : State) : Host.Outcome State Fault Refusal :=
  s.act fun b => b.canTxTimeout n q

/-- CAN_BUS_ERROR (R332). A bus error updates the error counters and may enter error passive or BUSOFF. -/
def execCanBusError (n : Fin 12) (tx : Bool) (eight : Bool) (lec : Fin 7) (s : State) : Host.Outcome State Fault Refusal :=
  s.act fun b => b.stillNet (b.canBusError n tx eight lec)

/-- BUS_OFF_RECOVERY_DONE (R332). 128 sequences of 11 recessive bits complete bus-off recovery. -/
def execBusOffRecoveryDone (n : Fin 12) (s : State) : Host.Outcome State Fault Refusal :=
  s.act fun b => b.busOffDone n

/-- RX_BUFFER_TIMEOUT (R336). RXTO ms after its first record a receive buffer completes. -/
def execRxBufferTimeout (ch : Fin 29) (s : State) : Host.Outcome State Fault Refusal :=
  s.act fun b => b.rxTimeout ch

/-- BUS_DIAG_MEASURE (R337). The transceiver measures its bus lines or termination and updates BUSDIAG. -/
def execBusDiagMeasure (ch : Fin 24) (v : Fin 8) (s : State) : Host.Outcome State Fault Refusal :=
  s.act fun b => b.busDiag ch v

/-- LIN_SLOT (R338). A commander schedule slot starts, sending the header and checking the previous response. -/
def execLinSlot (n : Fin 8) (s : State) : Host.Outcome State Fault Refusal :=
  s.act fun b => b.linSlot n

/-- LIN_HEADER_RECEIVED (R339). A responder receives a header and answers or receives the frame. -/
def execLinHeaderReceived (n : Fin 8) (id : Fin 64) (dev : Nat) (s : State) : Host.Outcome State Fault Refusal :=
  s.act fun b => b.linHeader n id dev

/-- LIN_FRAME_RECEIVED (R338). A LIN response is received into a record and looked up by the gateway. -/
def execLinFrameReceived (n : Fin 8) (data : TimedData) (cks : Byte) (s : State) : Host.Outcome State Fault Refusal :=
  s.act fun b => b.stillNet (b.linReceived n data cks.toNat)

/-- LIN_GOTO_SLEEP (R346). A responder with AUTOSLP receives the go-to-sleep command and enters SLEEPREQ. -/
def execLinGotoSleep (n : Fin 8) (s : State) : Host.Outcome State Fault Refusal :=
  s.act fun b => b.linGotoSleep n

/-- LIN_HEADER_SILENCE (R346). 4 s without a header puts an AUTOSLP responder into SLEEPREQ and sets no-traffic BUSDIAG. -/
def execLinHeaderSilence (n : Fin 8) (s : State) : Host.Outcome State Fault Refusal :=
  s.act fun b => b.linSilence n

/-- ETH_FRAME_RECEIVED (R342). A frame arrives at a switch port and is forwarded, recorded or passed to the gateway. -/
def execEthFrameReceived (p : Fin 4) (data : TimedData) (s : State) : Host.Outcome State Fault Refusal :=
  s.act fun b => b.stillNet (b.ethReceived p data)

/-- ETH_LINK_UP (R341). A port's link comes up, correcting polarity if needed. -/
def execEthLinkUp (p : Fin 4) (inv : Bool) (s : State) : Host.Outcome State Fault Refusal :=
  s.act fun b => b.linkUpGo p inv

/-- ETH_LINK_LOSS (R345). A port's link drops, LINKDN is set and the cable is tested. -/
def execEthLinkLoss (p : Fin 4) (cab : Fin 5) (s : State) : Host.Outcome State Fault Refusal :=
  s.act fun b => b.linkLossGo p cab

/-- PLCA_BEACON_TIMEOUT (R341). A follower receives no beacon for 4 ms, sets PLCAERR and holds its transmissions. -/
def execPlcaBeaconTimeout (p : Beacons) (s : State) : Host.Outcome State Fault Refusal :=
  s.act fun b => b.beaconGo p.port p.back

/-- ADDRESS_AGE_OUT (R342). A learned address is aged out after AGE s. -/
def execAddressAgeOut (mac : BitVec 48) (s : State) : Host.Outcome State Fault Refusal :=
  s.act fun b => b.ageOut mac.toNat

/-- IDLE_TIMEOUT (R347). IDLET passes without traffic in SLEEPREQ and the channel arms its detector to commit. -/
def execIdleTimeout (ch : BusAt) (s : State) : Host.Outcome State Fault Refusal :=
  s.act fun b => b.idleTimeout ch.ch ch.quiet

/-- SLEEP_COMMIT (R348). The sleep command reaches the transceiver or PHY; the channel enters SLEEP and sets SLEPT. -/
def execSleepCommit (ch : Fin 28) (s : State) : Host.Outcome State Fault Refusal :=
  s.act fun b => b.sleepCommit ch

/-- AWAKEMAX_EXPIRY (R352). AWAKEMAX passes in SLEEPREQ; KEEPX is set and KAPOL enforces, identifies or waits. -/
def execAwakemaxExpiry (ch : BusAt) (s : State) : Host.Outcome State Fault Refusal :=
  s.act fun b => b.awakeMax ch.ch ch.quiet

/-- WAKE_DETECTION (R349). A network wake detector recognises a WUP, WUF, dominant or TC10 pulse and the channel wakes. -/
def execWakeDetection (ch : Fin 28) (seen : NetSeen) (s : State) : Host.Outcome State Fault Refusal :=
  s.act fun b => b.stillNet (b.wakeDetect ch seen)

/-- TC10_SLEEP_REQUEST (R346). The partner's TC10 sleep request moves a T1 port with TC10ACC to SLEEPREQ. -/
def execTc10SleepRequest (p : Fin 2) (s : State) : Host.Outcome State Fault Refusal :=
  s.act fun b => b.tc10Request p

/-- TC10_SLEEP_ACK (R347). The partner acknowledges the TC10 sleep request, allowing the commit. -/
def execTc10SleepAck (p : Fin 2) (s : State) : Host.Outcome State Fault Refusal :=
  s.act fun b => b.tc10Ack p

/-- TC10_SLEEP_REJECT (R359). The partner rejects a TC10 sleep request and SLPREJ is set. -/
def execTc10SleepReject (p : Fin 2) (s : State) : Host.Outcome State Fault Refusal :=
  s.act fun b => b.tc10Reject p

end Sys2Proof.Machine
end

