-- ==== Sys2Proof/Machine/CmdPair.lean ====
section
/-! DEFINITION. The commands, one meaning each: Redundant pair (chapter 20). -/
namespace Sys2Proof.Machine

/-- PAIR_READ (R646). Descriptor that writes the pair registers. -/
def execPairRead (d : Desc) (s : State) : Host.Outcome State Fault Refusal :=
  s.act fun b => runDesc d Block.pairRead b

/-- PAIR_CLEAR (R646). Descriptor that clears pair sticky bits or unblocks the module. -/
def execPairClear (d : Desc) (s : State) : Host.Outcome State Fault Refusal :=
  s.act fun b => runDesc d Block.pairClear b

/-- PAIR_YIELD (R641). Descriptor that hands the lead to the follower. -/
def execPairYield (d : Desc) (s : State) : Host.Outcome State Fault Refusal :=
  s.act fun b => runDesc d Block.pairYield b

/-- PAIR_ENABLE (R632). PAIR_CFG.EN written 1 enters LINKUP, or is refused with CFGERR. -/
def execPairEnable (who : Who) (s : State) : Host.Outcome State Fault Refusal :=
  s.act fun b => b.gate who (R.PAIR_CFG.at 0) Block.pairEnable

/-- PAIR_DISABLE (R642). PAIR_CFG.EN written 0 sends BYE and disables the pair. -/
def execPairDisable (who : Who) (s : State) : Host.Outcome State Fault Refusal :=
  s.act fun b => b.gate who (R.PAIR_CFG.at 0) Block.pairDisable

/-- PAIR_HELLO (R632). A HELLO frame arrives and roles are assigned. -/
def execPairHello (h : Hello) (s : State) : Host.Outcome State Fault Refusal :=
  s.act fun b => b.pairHello h

/-- HELLO_TIMEOUT_PAIR (R633). No HELLO within LUTO ms; the module becomes ALONE or BLOCKED. -/
def execHelloTimeoutPair (recent : Bool) (s : State) : Host.Outcome State Fault Refusal :=
  s.act fun b => b.pairTimeout recent

/-- PAIR_SNAPSHOT_SEND (R635). Every 1 ms the lead sends a snapshot frame. -/
def execPairSnapshotSend (s : State) : Host.Outcome State Fault Refusal :=
  s.act fun b => b.snapSend

/-- PAIR_SNAPSHOT (R635). The follower receives a snapshot and updates its shadow or discards it with MIRERR. -/
def execPairSnapshot (l : List Mirror) (crcOk : Bool) (s : State) : Host.Outcome State Fault Refusal :=
  s.act fun b => b.snapTake l crcOk

/-- PAIR_HEARTBEAT_SEND (R636). Every 250 µs each module sends a heartbeat frame. -/
def execPairHeartbeatSend (s : State) : Host.Outcome State Fault Refusal :=
  s.act fun b => b.beatSend

/-- PAIR_HEARTBEAT (R636). A heartbeat arrives and the timebase offset is measured. -/
def execPairHeartbeat (role : Fin 6) (weir : Fin 4) (missed : Fin 3) (offs : Word) (s : State) : Host.Outcome State Fault Refusal :=
  s.act fun b => b.beatTake role weir missed offs.toNat

/-- HEARTBEAT_LOSS (R638). 800 µs pass without a valid heartbeat; the follower takes over or blocks, the lead becomes ALONE. -/
def execHeartbeatLoss (recent : Bool) (s : State) : Host.Outcome State Fault Refusal :=
  s.act fun b => b.heartbeatLoss recent

/-- BYE (R642). A BYE frame arrives and the partner becomes ALONE without takeover. -/
def execBye (s : State) : Host.Outcome State Fault Refusal :=
  s.act fun b => b.pairBye

/-- PAIR_LINK_UP (R632). The pair link completes training, LINK is set and EV240 is raised with cause 2. -/
def execPairLinkUp (s : State) : Host.Outcome State Fault Refusal :=
  s.act fun b => b.pairLinkUp

/-- PAIR_LINK_DOWN (R644). The pair link loses lock, LINK clears, LINKDN is set and EV240 is raised with cause 1. -/
def execPairLinkDown (s : State) : Host.Outcome State Fault Refusal :=
  s.act fun b => b.pairLinkDown

end Sys2Proof.Machine
end

