-- ==== Sys2Proof/Machine/CmdPixel.lean ====
section
/-! DEFINITION. The commands, one meaning each: Pixel lighting (chapter 7). -/
namespace Sys2Proof.Machine

/-- PX_SCENE (R254). Descriptor that loads a new scene list, activated at a following frame start with optional cross-fade. -/
def execPxScene (d : Desc) (s : State) : Host.Outcome State Fault Refusal :=
  s.act fun b => runDesc d Block.pxScene b

/-- PX_PATCH (R255). Descriptor that replaces entries of a port's active scene list. -/
def execPxPatch (d : Desc) (s : State) : Host.Outcome State Fault Refusal :=
  s.act fun b => runDesc d Block.pxPatch b

/-- PX_LEVEL (R253). Descriptor that starts a fade of the port LEVEL to a TARGET. -/
def execPxLevel (d : Desc) (s : State) : Host.Outcome State Fault Refusal :=
  s.act fun b => runDesc d Block.pxLevel b

/-- PX_ASSET (R260). Descriptor that writes data into the asset pool. -/
def execPxAsset (d : Desc) (s : State) : Host.Outcome State Fault Refusal :=
  s.act fun b => b.pxAsset d

/-- PX_ASSET_WRITE_DONE (R260). An asset write held off by a render in progress completes once that render ends. -/
def execPxAssetWriteDone (s : State) : Host.Outcome State Fault Refusal :=
  s.act fun b => b.assetDone

/-- PX_FRAME (R261). Descriptor that streams a frame of y values to a port with MODE = 1. -/
def execPxFrame (d : Desc) (s : State) : Host.Outcome State Fault Refusal :=
  s.act fun b => runDesc d Block.pxFrame b

/-- PX_ZONE (R277). Descriptor that writes a port's zone map. -/
def execPxZone (d : Desc) (s : State) : Host.Outcome State Fault Refusal :=
  s.act fun b => runDesc d Block.pxZone b

/-- PX_READ (R277). Descriptor that writes a port's registers and optionally its diagnosis map. -/
def execPxRead (d : Desc) (s : State) : Host.Outcome State Fault Refusal :=
  s.act fun b => runDesc d Block.pxRead b

/-- PX_CLEAR (R271). Descriptor that clears sticky bits, zone reactions or relinks a port. -/
def execPxClear (d : Desc) (s : State) : Host.Outcome State Fault Refusal :=
  s.act fun b => runDesc d Block.pxClear b

/-- PX_FSIMG (R277). Descriptor that sends a fail-safe image to the lamp and completes on its ACK. -/
def execPxFsimg (d : Desc) (s : State) : Host.Outcome State Fault Refusal :=
  s.act fun b => b.pxFsImg d

/-- PIXEL_PORT_ENABLE (R267). PXL_CFG.EN written 1 starts the link-up with TRAIN cycles. -/
def execPixelPortEnable (who : Who) (n : Fin 16) (s : State) : Host.Outcome State Fault Refusal :=
  s.act fun b => b.gate who (R.PXL_CFG.at n) (Block.pxEnable n)

/-- PIXEL_PORT_DISABLE (R272). PXL_CFG.EN written 0 ends fades and renders, sends SLEEP and goes to DISABLED. -/
def execPixelPortDisable (who : Who) (n : Fin 16) (s : State) : Host.Outcome State Fault Refusal :=
  s.act fun b => b.gate who (R.PXL_CFG.at n) (Block.pxDisable n)

/-- PIXEL_FRAME_START (R247). A port frame start fixes the scene for rendering, swaps buffers if the render is complete or sets LATE. -/
def execPixelFrameStart (n : Fin 16) (s : State) : Host.Outcome State Fault Refusal :=
  s.act fun b => b.pxFrameStart n

/-- RENDER_COMPLETE (R247). The shoal completes a render into the back buffer. -/
def execRenderComplete (n : Fin 16) (load : Nat) (tooMuch : Bool) (s : State) : Host.Outcome State Fault Refusal :=
  s.act fun b => b.renderDone n load tooMuch

/-- LINK_CYCLE (R263). A 40 µs pixel link cycle sends its forward segment and opens the back segment. -/
def execLinkCycle (n : Fin 16) (back : BackSeg) (s : State) : Host.Outcome State Fault Refusal :=
  s.act fun b => b.linkCycle n back

/-- HELLO (R265). Lamp back message HELLO received; link-up proceeds with REQ_INFO and SET_TIMEOUT. -/
def execHello (n : Fin 16) (ver : Byte) (s : State) : Host.Outcome State Fault Refusal :=
  s.act fun b => b.pxHello n ver.toNat

/-- INFO (R265). Lamp back message INFO received; its chunk is stored and the geometry checked when complete. -/
def execInfo (n : Fin 16) (bs : List Byte) (s : State) : Host.Outcome State Fault Refusal :=
  s.act fun b => b.pxInfo n (bs.take 6)

/-- CAL (R265). Lamp back message CAL received; calibration gains are stored and the CRC-32 checked at the end. -/
def execCal (n : Fin 16) (bs : List Byte) (s : State) : Host.Outcome State Fault Refusal :=
  s.act fun b => b.pxCal n (bs.take 6)

/-- FLAGS (R265). Lamp back message FLAGS received; the diagnosis map and zone counts are updated. -/
def execFlags (n : Fin 16) (c : BitVec 16) (flags : Word) (s : State) : Host.Outcome State Fault Refusal :=
  s.act fun b => b.pxFlags n c.toNat flags

/-- TEMP (R265). Lamp back message TEMP received; the lamp temperature is updated and LAMPOT checked. -/
def execTemp (n : Fin 16) (t0 : BitVec 16) (t1 : BitVec 16) (t2 : BitVec 16) (s : State) : Host.Outcome State Fault Refusal :=
  s.act fun b => b.pxTemp n [t0, t1, t2]

/-- STATUS (R265). Lamp back message STATUS received; error counts and LAMPERR are updated. -/
def execStatus (n : Fin 16) (errs : BitVec 16) (flags : Byte) (s : State) : Host.Outcome State Fault Refusal :=
  s.act fun b => b.pxStatus n errs.toNat flags.toNat

/-- ACK (R265). Lamp back message ACK received, completing the acknowledged command. -/
def execAck (n : Fin 16) (code : Byte) (failed : Byte) (s : State) : Host.Outcome State Fault Refusal :=
  s.act fun b => b.pxAck n code.toNat failed.toNat

/-- HELLO_TIMEOUT (R267). No HELLO within 5 ms of link-up start; the attempt fails. -/
def execHelloTimeout (n : Fin 16) (s : State) : Host.Outcome State Fault Refusal :=
  s.act fun b => b.pxHelloTimeout n

/-- LINKUP_RETRY (R267). 100 ms after a failed attempt the link-up is repeated, or after three failures the port goes DOWN. -/
def execLinkupRetry (n : Fin 16) (s : State) : Host.Outcome State Fault Refusal :=
  s.act fun b => b.pxRetry n

/-- BACK_LINK_LOST (R268). 250 consecutive invalid back segments lose the link; LINKF is set and link-up restarts. -/
def execBackLinkLost (n : Fin 16) (s : State) : Host.Outcome State Fault Refusal :=
  s.act fun b => b.pxLost n 249

end Sys2Proof.Machine
end

