-- ==== Sys2Proof/Machine/CmdPower.lean ====
section
/-! DEFINITION. The commands, one meaning each: Supplies, domains, resets, Still and the supervisor watchdog (chapters 2, 15). -/
namespace Sys2Proof.Machine

/-- FEED_OVERCURRENT (R62). A feed stays above 60 A for 100 ms and OC is recorded with its event. -/
def execFeedOvercurrent (n : Fin 3) (ma : Nat) (s : State) : Host.Outcome State Fault Refusal :=
  s.act fun b => b.feedOc n ma

/-- AGGREGATE_OVERCURRENT (R62). The sum of feeds stays above 160 A for 100 ms and AGGOC is recorded with EV10. -/
def execAggregateOvercurrent (ma : Nat) (s : State) : Host.Outcome State Fault Refusal :=
  s.act fun b => b.aggOc ma

/-- FEED_MISSING (R62). A feed stays below 6.0 V for 1 ms while the logic supply is at or above 9.0 V and MISSING is recorded. -/
def execFeedMissing (n : Fin 3) (mv : Nat) (logic : Nat) (s : State) : Host.Outcome State Fault Refusal :=
  s.act fun b => b.feedMissing n mv logic

/-- FEED_BAND_CHANGE (R63). A feed crosses a band threshold; its outputs turn off into SUPPLY or their limits change. -/
def execFeedBandChange (n : Fin 3) (mv : Nat) (s : State) : Host.Outcome State Fault Refusal :=
  s.act fun b => b.feedBandChange n mv

/-- SUPPLY_RESTART (R64). A feed has been usable for 10 ms and channels held in SUPPLY turn on again through their normal path. -/
def execSupplyRestart (n : Fin 3) (s : State) : Host.Outcome State Fault Refusal :=
  s.act fun b => b.supplyRestart n

/-- LOGIC_BAND_CHANGE (R63). The logic supply changes band and EV3 is raised. -/
def execLogicBandChange (mv : Nat) (s : State) : Host.Outcome State Fault Refusal :=
  s.act fun b => b.logicBand mv

/-- RTC_LOW_WRITE (R97). A write of PWR_RTC[0] stages the lower bits of the count. -/
def execRtcLowWrite (who : Who) (v : Word) (s : State) : Host.Outcome State Fault Refusal :=
  s.act fun b => b.gate who (R.PWR_RTC0.at 0) (Block.rtcLow v.toNat)

/-- RTC_HIGH_WRITE (R97). A write of PWR_RTC[1] loads the count at the next tick and compares it with the alarm. -/
def execRtcHighWrite (who : Who) (v : BitVec 16) (s : State) : Host.Outcome State Fault Refusal :=
  s.act fun b => b.gate who (R.PWR_RTC1.at 0) (Block.rtcHigh v.toNat)

/-- RTC_READ (R97). A read of PWR_RTC[0] captures all 48 bits through the double-sample crossing. -/
def execRtcRead (who : Who) (stale : Bool) (s : State) : Host.Outcome State Fault Refusal :=
  s.act fun b => b.readGate who (R.PWR_RTC0.at 0) (Block.rtcRead stale)

/-- REFERENCE_OSC_DEVIATION (R87). The reference oscillator deviates more than 2 % and EV8 is raised. -/
def execReferenceOscDeviation (ppm : Int) (s : State) : Host.Outcome State Fault Refusal :=
  s.act fun b => b.oscDeviation ppm

/-- CRYSTAL_STOP (R87). The 32.768 kHz oscillator stops for more than 1 ms and EV9 is raised. -/
def execCrystalStop (us : Nat) (s : State) : Host.Outcome State Fault Refusal :=
  s.act fun b => b.crystalStop us

/-- TEMPERATURE_THRESHOLD (R87). A die junction or the base plate crosses its threshold and EV11–EV15 is raised. -/
def execTemperatureThreshold (i : Fin 5) (t : Int) (s : State) : Host.Outcome State Fault Refusal :=
  s.act fun b => b.tempThreshold i t

/-- TEMP_SENSOR_UPDATE (R98). Every 1 ms each powered temperature sensor updates PWR_TEMP. -/
def execTempSensorUpdate (n : Fin 9) (t : BitVec 16) (s : State) : Host.Outcome State Fault Refusal :=
  s.act fun b => b.tempUpdate n t.toNat

/-- INTERNAL_LINK_FAULT (R29). An internal die link fails, the die's functions are affected and EV253 is raised. -/
def execInternalLinkFault (l : Fin 7) (s : State) : Host.Outcome State Fault Refusal :=
  s.act fun b => b.linkFault l

end Sys2Proof.Machine
end

