-- ==== Sys2Proof/Machine/Sluice.lean ====
section
/-! DEFINITION. The sluice (R431–R442, R452, R453): W0 accesses to other nodes, requests and answers on the chain,
forwarded descriptors, and locked sequences. A far access has the rights of host software through W0 (R431). -/
namespace Sys2Proof.Machine

/-- The word that stands for a dword that could not be read (R435, R452). -/
def allOnes : Word := 0xFFFFFFFF

/-- STAT of R425 for the cause of a failed register access (R708). DEDUCED: GAUGE and fabric parity, which have no code of
their own, answer as not permitted. -/
def statOf : Option Nat → Nat
  | Option.none => 0
  | some c => if c = 1 then 1 else if c = 4 then 2 else 3

/-- CAUSE of CHN_ERRLOG for a STAT (R425, R450). -/
def causeOf (stat : Nat) : Nat := if stat = 4 then 6 else stat + 1

/-- Number of the first set bit of a mask of n dwords. -/
def firstBit (mask n : Nat) : Nat := ((List.range n).find? fun i => bit mask i).getD 0

/-- The dwords of a failed access that failed: all of them where the answer names none. -/
def failMask (stat fails n : Nat) : Nat := if stat = 0 then 0 else if fails % 2 ^ n = 0 then 2 ^ n - 1 else fails % 2 ^ n

namespace Block

/-! ### Register accesses of another node (R426, R431, R432) -/

/-- Write dwords in rising order as host software does; the first STAT that is not 0, and the mask of failed dwords. -/
def farWrite (off : Nat) : List Word → Nat → Block → Block × Nat × Nat
  | [], _, b => (b, 0, 0)
  | w :: ws, i, b =>
    let (c, b) := b.setupPut .host (off + 4 * i) 4 w.toNat
    let (b, stat, fails) := farWrite off ws (i + 1) b
    if c.isSome then (b, statOf c, 2 ^ i + fails) else (b, stat, fails)

/-- Read n dwords from off + 4 × i in rising order; failed ones read 0xFFFF_FFFF. -/
def farRead (off : Nat) : Nat → Nat → Block → Block × List Word × Nat × Nat
  | 0, _, b => (b, [], 0, 0)
  | n + 1, i, b =>
    let (c, b, v) := b.setupGet .host (off + 4 * i) 4
    let (b, vs, stat, fails) := farRead off n (i + 1) b
    if c.isSome then (b, allOnes :: vs, statOf c, 2 ^ i + fails) else (b, BitVec.ofNat 32 v :: vs, stat, fails)

/-- The answer to a request of node n: the data, and behind them the mask of the failed dwords where some failed, in
two frames where one does not hold them (R425, log 209). -/
def answer (n tid stat fails : Nat) (data : List Word) (b : Block) : Block :=
  let f : Frame := { typ := Fr.cpl, dst := n, src := b.nodeId, tid := tid, stat := stat }
  if stat = 0 ∨ stat = 4 then b.sendFrame { f with len := data.length, data := data }
  else b.sendFrames (f.parts 2 (data ++ twoWords fails))

/-- The answer to a LOCK: the results, and whether a compare stopped the list. -/
def answerLock (n tid stat : Nat) (stop : Bool) (vals : List Nat) (b : Block) : Block :=
  b.sendFrame { typ := Fr.cpl, dst := n, src := b.nodeId, tid := tid, stat := stat, len := vals.length + 1
                data := (vals ++ [b2n stop]).map (BitVec.ofNat 32) }

/-- RD_FRAME (R426, R431, R432, R440): `dw` is the first dword's number. -/
def rdFrame (src tid dw count : Nat) (b : Block) : Block :=
  if !b.hasId then b
  else if b.spaceHeld then b.answer src tid 4 0 []
  else
    let (b, vs, stat, fails) := b.farRead (4 * dw) count 0
    b.answer src tid stat fails vs

/-- WR_FRAME (R426, R431, R432, R440). -/
def wrFrame (src tid dw : Nat) (data : List Word) (b : Block) : Block :=
  if !b.hasId then b
  else if b.spaceHeld then b.answer src tid 4 0 []
  else
    let (b, stat, fails) := b.farWrite (4 * dw) data 0
    b.answer src tid stat fails []

/-- PWR_FRAME (R434): only a failure is answered. -/
def pwrFrame (src tid dw : Nat) (data : List Word) (b : Block) : Block :=
  if !b.hasId then b
  else if b.spaceHeld then b.answer src tid 4 0 []
  else
    let (b, stat, fails) := b.farWrite (4 * dw) data 0
    if stat = 0 then b else b.answer src tid stat fails []

/-! ### Requests of a head (R423, R433–R436) -/

/-- This node may send requests to node n (R423, R439). -/
def canReach (b : Block) (n : Nat) : Bool := b.hasId && (b.primary || b.isStandby) && b.reachable n

/-- The frame of a request. -/
def reqFrame (b : Block) (r : ChnReq) : Frame :=
  let base : Frame := { typ := Fr.rd, dst := r.node, src := b.nodeId, tid := r.tid, len := r.count, offset := r.offset }
  match r.kind with
  | .w0Write | .wr _ => { base with typ := Fr.wr, data := r.data }
  | .w0Read | .rd _ | .own _ => base
  | .posted => { base with typ := Fr.pwr, data := r.data }
  | .lock _ _ => { base with typ := Fr.lock, data := r.data }

/-- The next transaction number that no request without an answer has. -/
def freeTid (b : Block) : Nat :=
  (((List.range answerRoom).map fun i => (b.chn.tid + i) % answerRoom).find? fun t => b.chn.reqs.all fun r => !(r.tid == t)).getD b.chn.tid

/-- Send a request under a transaction number of its own, with the room for its answer reserved until it comes (R428). -/
def issue (r : ChnReq) (b : Block) : Block :=
  let r := { r with tid := b.freeTid }
  let b := { b with chn := { b.chn with tid := (r.tid + 1) % answerRoom, reqs := b.chn.reqs ++ [r] } }
  b.sendFrame (b.reqFrame r)

/-- A request goes out once there is room for its answer; until then it waits (R428). -/
def request (r : ChnReq) (b : Block) : Block :=
  if answerRoom ≤ b.roomUsed then { b with chn := { b.chn with asks := b.chn.asks ++ [r] } } else b.issue r

/-- The room of a request is free again, for the first that waits (R428). -/
def dropReq (tid : Nat) (b : Block) : Block :=
  let b := { b with chn := { b.chn with reqs := b.chn.reqs.filter fun r => !(r.tid == tid) } }
  match b.chn.asks with
  | [] => b
  | r :: rs => if answerRoom ≤ b.roomUsed then b else ({ b with chn := { b.chn with asks := rs } } : Block).issue r

/-- A remote W0 access has failed (R435, R448, R450). -/
def accFail (kind node offset cause index : Nat) (b : Block) : Block :=
  let log1 := node + kind * 64 + cause * 256 + index * 4096 + 2 ^ 31
  let b := ((b.wr R.CHN_ERRLOG0 0 offset).wr R.CHN_ERRLOG1 0 log1).satF F.CHN_ERRCNT_FAILS 0 1
  let b := if kind = 2 then b.setF F.CHN_STAT_RDFAIL 0 1 else b.setF F.CHN_STAT_WRFAIL 0 1
  let b := (b.raise 228 log1).headEntry (if kind = 2 then 9 else 8) node offset log1
  if b.flag F.CHN_CFG_STOPERR 0 && !(kind == 2) then
    b.setF F.CHN_STOPPED_STOP (node / 32) (putBits (b.getF F.CHN_STOPPED_STOP (node / 32)) (node % 32) (node % 32) 1)
  else b

/-- Dwords for a W0 read. -/
def w0Answer (ws : List Word) (b : Block) : Block := b.send (.w0Data ws)

/-- The first enabled prefetch range that holds dwords lo to hi: its first and last dword (R436, R451). -/
def rangeOf (b : Block) (lo hi : Nat) : Option (Nat × Nat) :=
  ((List.range 8).find? fun i => b.flag F.CHN_RBASE_EN i && decide (b.getF F.CHN_RBASE_BASE i ≤ lo ∧ hi ≤ b.getF F.CHN_RLIM_LIMIT i)).map
    fun i => (b.getF F.CHN_RBASE_BASE i, b.getF F.CHN_RLIM_LIMIT i)

/-- A buffer that wholly holds a read. -/
def bufHit (b : Block) (a : W0Acc) : Option Prefetch :=
  b.chn.bufs.find? fun p => p.node == a.node && decide (p.base ≤ a.offset ∧ a.offset + 4 * a.count ≤ p.base + 4 * p.words.length)

/-- Send a W0 read to its node: from a buffer, as a read of whole blocks of a range, or as it is (R434, R436). -/
def w0ReadOut (a : W0Acc) (b : Block) : Block :=
  if b.getF F.CHN_CFG_PFAGE 0 = 0 then b.request { tid := 0, node := a.node, kind := .w0Read, offset := a.offset, count := a.count }
  else match b.bufHit a with
  | some p =>
    let b := { b with chn := { b.chn with bufs := p :: b.chn.bufs.erase p } }
    b.w0Answer ((p.words.drop ((a.offset - p.base) / 4)).take a.count)
  | Option.none =>
    let lo := a.offset / 4
    let hi := lo + a.count - 1
    match b.rangeOf lo hi with
    | some (x, y) =>
      let s := max x (lo / 16 * 16)
      let e := min y (hi / 16 * 16 + 15)
      if e + 1 - s ≤ 64 then
        b.request { tid := 0, node := a.node, kind := .w0Read, offset := 4 * s, count := e + 1 - s, ask := some (lo - s, a.count) }
      else b.request { tid := 0, node := a.node, kind := .w0Read, offset := a.offset, count := a.count }
    | Option.none => b.request { tid := 0, node := a.node, kind := .w0Read, offset := a.offset, count := a.count }

/-- A local read of n dwords; a failed dword reads 0 (R22, R45). -/
def localRead (off n : Nat) (b : Block) : Block × List Word :=
  (List.range n).foldl (fun (p : Block × List Word) i => let (_, b, v) := p.1.setupGet .host (off + 4 * i) 4; (b, p.2 ++ [BitVec.ofNat 32 v])) (b, [])

/-- Carry out one W0 access whose turn it is (R431–R436). A narrow or unaligned one fits no frame and ends here, without
effect (R22, log 168). -/
def w0Go (a : W0Acc) (b : Block) : Block :=
  let posted := bit (b.getF F.CHN_FRMASK_FR (a.node / 32)) (a.node % 32)
  let stopped := bit (b.getF F.CHN_STOPPED_STOP (a.node / 32)) (a.node % 32)
  let fail (cause : Nat) : Block :=
    match a.data with
    | some _ => b.accFail (if posted then 0 else 1) a.node a.offset cause 0
    | Option.none => (b.w0Answer (List.replicate a.count allOnes)).accFail 2 a.node a.offset cause 0
  if !(a.size == 4) || !(a.offset % 4 == 0) then
    match a.data with
    | some ws => (b.setupPut .host a.offset a.size (ws.getD 0 0).toNat).2
    | Option.none => let (_, b, v) := b.setupGet .host a.offset a.size; b.w0Answer [BitVec.ofNat 32 v]
  else if !b.hasId || a.node = b.nodeId then
    match a.data with
    | some ws => (b.farWrite a.offset ws 0).1
    | Option.none => let (b, vs) := b.localRead a.offset a.count; b.w0Answer vs
  else if stopped then fail 7
  else if !b.canReach a.node then fail 1
  else match a.data with
  | some ws =>
    let b := b.dropBufs a.node
    if posted then b.request { tid := 0, node := a.node, kind := .posted, offset := a.offset, count := ws.length, data := ws }
    else b.request { tid := 0, node := a.node, kind := .w0Write, offset := a.offset, count := ws.length, data := ws }
  | Option.none => b.w0ReadOut a

/-- A native W0 write is without its answer: no later W0 access goes on (R433). -/
def w0Busy (b : Block) : Bool := (b.chn.reqs ++ b.chn.asks).any fun r => r.kind == .w0Write

/-- A waiting access of this module waits for the release of its own space (R440). -/
def w0Held (b : Block) (a : W0Acc) : Bool := b.spaceHeld && (!b.hasId || a.node == b.nodeId)

/-- Posted writes to a node that are not known to have been executed (R434). -/
def postedTo (b : Block) (n : Nat) : Nat := ((b.chn.reqs ++ b.chn.asks).filter fun r => r.kind == .posted && r.node == n).length

/-- A posted write to a node that has 16 of them outstanding waits, and a read of a node that has any (R434). -/
def w0Full (b : Block) (a : W0Acc) : Bool :=
  if a.data.isSome then bit (b.getF F.CHN_FRMASK_FR (a.node / 32)) (a.node % 32) && decide (16 ≤ b.postedTo a.node)
  else b.hasId && !(a.node == b.nodeId) && decide (0 < b.postedTo a.node)

/-- Let waiting W0 accesses go on, in order; at most `fuel` of them. -/
def w0Pump : Nat → Block → Block
  | 0, b => b
  | fuel + 1, b => match b.chn.waiting with
    | [] => b
    | a :: as => if b.w0Busy || b.w0Held a || b.w0Full a then b else w0Pump fuel (({ b with chn := { b.chn with waiting := as } } : Block).w0Go a)

def w0Run (b : Block) : Block := b.w0Pump b.chn.waiting.length

/-- Posted writes that the neighbour has acknowledged by an idle step, and for which no failure has come, are taken to have
been executed: nothing else reports that. DESIGN CHOICE (R434, log 211). -/
def postedIdle (b : Block) : Block :=
  let out := b.chn.links.flatMap fun e => e.2.held ++ e.2.queue
  let done (r : ChnReq) : Bool := r.kind == .posted && !(out.any fun f => f.typ == Fr.pwr && f.tid == r.tid)
  let l := b.chn.reqs.filter done
  let b := { b with chn := { b.chn with late := (l.reverse ++ b.chn.late).take 64 } }
  l.foldl (fun b r => b.dropReq r.tid) b

/-- A W0 access of elements of `size` bytes at byte offset `off` (R431–R436). The CHN block is always local. With eight
writes waiting the host stalls, and the access is not taken. -/
def w0Access (off size count : Nat) (data : Option (List Word)) (b : Block) : Block :=
  let node := if off / 4096 = 0x39 then b.nodeId else b.getF F.CHN_TGT_NODE 0
  if !b.pg 8 || decide (8 ≤ (b.chn.waiting.filter fun a => a.data.isSome).length) then b
  else ({ b with chn := { b.chn with waiting := b.chn.waiting ++ [{ node := node, offset := off, size := size, data := data, count := count }] } } : Block).w0Run

/-- W0_REMOTE_ACCESS: an access of host software to W0, or to W2, which always reaches this module (R384, R431). -/
def hostAccess (addr : HostAddr) (count : Nat) (data : Option (List Word)) (b : Block) : Block :=
  match addr with
  | .dwords dw => b.w0Access (4 * dw.toNat) 4 count data
  | .narrow off bytes => b.w0Access off.toNat bytes 1 data
  | .msixControl => match data with
    | some ws => { b with hq := { b.hq with msixOn := bit (ws.getD 0 0).toNat 31 } }
    | Option.none => b.w0Answer [BitVec.ofNat 32 (b2n b.hq.msixOn * 2 ^ 31)]
  | .w2 off bytes => match data with
    | some ws => b.w2Write off.toNat bytes (ws.getD 0 0)
    | Option.none => b.w0Answer ((List.range (max 1 count)).map fun i => BitVec.ofNat 32 (b.w2Word (off.toNat / 4 * 4 + 4 * i)))

/-! ### CHN_RD and CHN_WR (R452, R453) -/

/-- CW3 of R453: four byte lanes for each failed dword. -/
def lanes (mask n : Nat) : Nat := ((List.range n).filter fun i => bit mask i).foldl (fun m i => m + 15 * 16 ^ i) 0

/-- The completion of CHN_RD or CHN_WR from its failed dwords; `none`: the status when no dword was applied. -/
def lanesCompl (mask n none : Nat) (data : List Word) : Compl :=
  let bad := ((List.range n).filter fun i => bit mask i).length
  { status := if bad = 0 then St.ok else if bad = n then none else St.partialOk, cw2 := 4 * data.length, cw3 := lanes mask n
    data := (data.map fun w => leBytes 4 w.toNat).flatten }

/-- Read data with failed dwords as 0xFFFF_FFFF. -/
def patchData (mask n : Nat) (data : List Word) : List Word := (List.range n).map fun i => if bit mask i then allOnes else data.getD i allOnes

/-- The node that a chain descriptor acts on: this one for a part of a BCAST and for one that came over the chain. -/
def chnNode (b : Block) (d : Desc) : Nat :=
  match d.src with
  | .node _ _ => b.nodeId
  | _ => if d.bcast || !b.hasId then b.nodeId else d.node

/-- A descriptor waits for this node's own space (R440, R453). -/
def waitOwn (d : Desc) (b : Block) : Block :=
  if b.chn.reqs.any fun r => r.kind == .own d then b
  else
    let r : ChnReq := { tid := b.freeTid, node := b.nodeId, kind := .own d, offset := d.dw 5, count := chnCount d }
    { b with chn := { b.chn with tid := (r.tid + 1) % answerRoom, reqs := b.chn.reqs ++ [r] } }

/-- CHN_RD (R452, R453). -/
def chnRdRun (d : Desc) (b : Block) : Block :=
  let n := chnCount d
  let t := b.chnNode d
  if t = b.nodeId then
    if b.spaceHeld then b.waitOwn d
    else
      let (b, vs, _, fails) := b.farRead (d.dw 5) n 0
      b.complete d (lanesCompl fails n St.hwFault vs)
  else if !b.canReach t then b.complete d (.of St.nodeUnreach)
  else b.request { tid := 0, node := t, kind := .rd d, offset := d.dw 5, count := n }
def chnRd (d : Desc) (b : Block) : Block := b.runDeferred d (chnRdOk d) (chnRdRun d)

/-- CHN_WR (R452, R453). -/
def chnWrRun (d : Desc) (b : Block) : Block :=
  let n := chnCount d
  let ws := (d.dws.drop 7).take n
  let t := b.chnNode d
  if t = b.nodeId then
    if b.spaceHeld then b.waitOwn d
    else
      let (b, _, fails) := b.farWrite (d.dw 5) ws 0
      b.complete d (lanesCompl fails n St.hwFault [])
  else if !b.canReach t then b.complete d (.of St.nodeUnreach)
  else (b.dropBufs t).request { tid := 0, node := t, kind := .wr d, offset := d.dw 5, count := n, data := ws }
def chnWr (d : Desc) (b : Block) : Block := b.runDeferred d (chnWrOk d) (chnWrRun d)

/-! ### Locked sequences (R440–R442, R453) -/

/-- The operation in 16 bytes, and whether its reserved fields are 0 and its offset is dword-aligned. -/
def lockOp (bs : List Byte) : LockOp × Bool :=
  let w (i : Nat) : Nat := ofLe ((bs.drop (4 * i)).take 4)
  ({ kind := bits (w 0) 1 0, loc := bit (w 0) 2, prev := bit (w 0) 3, offset := w 1, mask := w 2, value := w 3 },
    decide (w 0 < 16) && decide (w 1 < 2 ^ 20) && w 1 % 4 == 0)

/-- The operations of a CHN_LOCKSEQ. -/
def lockOps (d : Desc) : List (LockOp × Bool) := (pieces 16 8 (d.payload.take d.len)).map lockOp

/-- No far operation after a LOCAL one (R440). -/
def farFirst : List LockOp → Bool
  | [] => true
  | [_] => true
  | a :: c :: t => (!a.loc || c.loc) && farFirst (c :: t)

def lockSeqOk (d : Desc) : Bool :=
  d.ok 0xD2 16 128 [] && d.len % 16 == 0 && d.payload.length == d.len && (lockOps d).all (·.2) && farFirst ((lockOps d).map (·.1))

/-- Execute operations on this node's space: the values read, the STAT of a failure, and whether a compare stopped. An open
value stands for the result of a previous operation where there is none. -/
def seqRun : List LockOp → Option Nat → Block → Block × List Nat × Nat × Bool
  | [], _, b => (b, [], 0, false)
  | o :: os, prev, b =>
    let (c, b, old) := b.setupGet .host o.offset 4
    if c.isSome then (b, [], statOf c, false)
    else
      let (v, b) := if o.prev then (match prev with
        | some v => (v, b)
        | Option.none => let (x, b) := b.fresh; (x.toNat, b)) else (o.value, b)
      let w := if o.kind = 1 then v else old - (old &&& o.mask) + (v &&& o.mask)
      let (c, b) := if o.kind = 1 ∨ o.kind = 2 then b.setupPut .host o.offset 4 w else (Option.none, b)
      if c.isSome then (b, [], statOf c, false)
      else if o.kind = 3 ∧ ¬ (old &&& o.mask) = v then (b, [old], 0, true)
      else
        let (b, vs, stat, stop) := seqRun os (some old) b
        (b, old :: vs, stat, stop)

/-- The payload written back: VALUE of an executed operation is the register's value before it (R440). -/
def lockBack (d : Desc) (vals : List Nat) : List Byte :=
  ((pieces 16 8 (d.payload.take d.len)).zipIdx.map fun p => match vals[p.2]? with
    | some v => p.1.take 12 ++ leBytes 4 v
    | Option.none => p.1).flatten

/-- Lock this node's own space for node n, or release it (R440, R450). -/
def holdSpace (n : Nat) (b : Block) : Block := (b.setF F.CHN_LOCK_HELD 0 1).setF F.CHN_LOCK_HOLDER 0 n
def freeSpace (b : Block) : Block := (b.setF F.CHN_LOCK_HELD 0 0).setF F.CHN_LOCK_HOLDER 0 0

/-- The LOCAL operations of a sequence; the release of this node's space by a sequence that holds it. -/
def localOps (d : Desc) : List LockOp := ((lockOps d).map (·.1)).filter (·.loc)
def freeOwn (d : Desc) (b : Block) : Block := if (localOps d).isEmpty then b else b.freeSpace

/-- The completion of a sequence (R453): values of the operations executed, whether one failed, whether a compare stopped. -/
def lockDone (d : Desc) (vals : List Nat) (failed stop : Bool) (b : Block) : Block :=
  let n := (lockOps d).length
  let c : Compl := { status := if failed then St.partialOk else St.ok, cw2 := vals.length + b2n stop * 256
                     cw3 := if failed then 2 ^ n - 2 ^ vals.length else 0, data := lockBack d vals }
  b.complete d c

/-- After the far operations: the LOCAL ones, the release of this node's space, the completion (R440 step 4). -/
def lockFinish (d : Desc) (far : List Nat) (failed stop : Bool) (b : Block) : Block :=
  let loc := localOps d
  let b := b.freeOwn d
  if failed || stop || loc.isEmpty then b.lockDone d far failed stop
  else
    let (b, vs, stat, stop) := b.seqRun loc far.getLast?
    b.lockDone d (far ++ vs) (!(stat == 0)) stop

/-- A sequence that leaves no effect (R441). -/
def lockBusy (d : Desc) (b : Block) : Block := (b.freeOwn d).complete d (.of St.busy)

/-- CHN_LOCKSEQ (R440, R452, R453). It waits while another sequence holds the space that it needs. -/
def chnLockRun (d : Desc) (b : Block) : Block :=
  let ops := (lockOps d).map (·.1)
  let far := ops.filter fun o => !o.loc
  let t := b.chnNode d
  if b.spaceHeld && (t == b.nodeId || ops.any (·.loc)) then b.waitOwn d
  else if t = b.nodeId || far.isEmpty then
    let (b, vs, stat, stop) := b.seqRun far Option.none
    b.lockFinish d vs (!(stat == 0)) stop
  else if !b.canReach t then b.complete d (.of St.nodeUnreach)
  else
    let b := if ops.any (·.loc) then b.holdSpace b.nodeId else b
    (b.dropBufs t).request { tid := 0, node := t, kind := .lock d far, offset := 0, count := 4 * far.length
                             data := ((pieces 4 32 (d.payload.take (16 * far.length))).map fun x => BitVec.ofNat 32 (ofLe x)) }
def chnLockSeq (d : Desc) (b : Block) : Block := b.runDeferred d (lockSeqOk d) (chnLockRun d)

/-- Accesses of this node that waited for its own space go on once it is free (R440). -/
def ownRun (b : Block) : Block :=
  if b.spaceHeld then b
  else
    let l := b.chn.stalled
    let b : Block := l.foldl (fun b e => (b.setupPut e.1 e.2.1 e.2.2.1 (e.2.2.2.getD 0 0).toNat).2) { b with chn := { b.chn with stalled := [] } }
    b.chn.reqs.foldl (fun b r => match r.kind with
      | .own d =>
        let b := b.dropReq r.tid
        if d.opcode = 0xD0 then b.chnRdRun d else if d.opcode = 0xD1 then b.chnWrRun d else b.chnLockRun d
      | _ => b) b

/-- Requests that hold this node's own space. -/
def ownLock (b : Block) : Option (ChnReq × Desc) :=
  if b.spaceHeld && b.getF F.CHN_LOCK_HOLDER 0 == b.nodeId then
    b.chn.reqs.findSome? fun r => match r.kind with
      | .lock d _ => if ((lockOps d).map (·.1)).any (·.loc) then some (r, d) else Option.none
      | _ => Option.none
  else Option.none

/-- Grant a LOCK: the space is locked for its node, and the operations are about to run (R440 step 3). -/
def lockGrant (src tid : Nat) (ops : List LockOp) (b : Block) : Block :=
  { b.holdSpace src with chn := { b.chn with grant := some (src, tid, ops) } }

/-- The operations of a granted LOCK run, the space is released, and the answer goes out (R440 step 3). DESIGN CHOICE: an
idle step brings this about (log 212). -/
def grantRun (b : Block) : Block :=
  match b.chn.grant with
  | Option.none => b
  | some (src, tid, ops) =>
    let (b, vs, stat, stop) := ({ b with chn := { b.chn with grant := Option.none } } : Block).seqRun ops Option.none
    b.freeSpace.answerLock src tid stat stop vs

/-- What an idle step brings the chain: a granted LOCK runs, what waited for this node's space goes on, and credits and
acknowledgements arrive, with the accesses that waited for them (R428, R434, R440). -/
def chainIdle (b : Block) : Block := b.grantRun.ownRun.postedIdle.linkTick.w0Run

/-- LOCK_FRAME (R440, R441): granted, refused with LREF, or answered as busy. -/
def lockFrame (src tid : Nat) (ops : List LockOp) (b : Block) : Block :=
  if !b.hasId then b
  else if !b.spaceHeld then b.lockGrant src tid ops
  else match b.ownLock with
  | some (r, d) =>
    if src < b.nodeId then ((b.dropReq r.tid).lockBusy d).lockGrant src tid ops
    else b.sendFrame { typ := Fr.lref, dst := src, src := b.nodeId, tid := tid }
  | Option.none => b.answer src tid 4 0 []

/-- LREF_FRAME (R441). -/
def lrefFrame (tid : Nat) (b : Block) : Block :=
  match b.chn.reqs.find? fun r => r.tid == tid with
  | some r => match r.kind with
    | .lock d _ => ((b.dropReq tid).lockBusy d).w0Run
    | _ => b
  | Option.none => b

/-- LOCK_TIMEOUT (R442, R447, R448): the space has been locked for 100 µs. -/
def lockTimeout (b : Block) : Block :=
  if !b.spaceHeld then b
  else
    let holder := b.getF F.CHN_LOCK_HOLDER 0
    let own := b.ownLock
    let b := match b.chn.grant with
      | some (src, tid, _) => ({ b with chn := { b.chn with grant := Option.none } } : Block).answerLock src tid 6 false []
      | Option.none => b
    let b := (b.freeSpace.setF F.CHN_STAT_LOCKTO 0 1).raise 229 (1 + holder * 16)
    match own with
    | Option.none => b.w0Run
    | some (r, d) =>
      let log1 := r.node + 3 * 64 + 5 * 256 + 2 ^ 31
      let b := ((b.wr R.CHN_ERRLOG0 0 (((lockOps d).headD ({ kind := 0, loc := false, prev := false, offset := 0, mask := 0, value := 0 }, true)).1.offset)).wr R.CHN_ERRLOG1 0 log1).satF F.CHN_ERRCNT_FAILS 0 1
      let b := b.headEntry 10 r.node (b.rd R.CHN_ERRLOG0 0) log1
      ((b.dropReq r.tid).lockDone d [] true false).w0Run

/-! ### Answers and time limits (R433, R435, R437, R439, R440) -/

/-- Keep the blocks that a read of a range has brought (R436). -/
def fillBufs (node base : Nat) (words : List Word) (b : Block) : Block :=
  let first := (base / 64 + 1) * 16 - base / 4
  let parts := if words.length ≤ first then [(base, words)]
    else (base, words.take first) :: ((pieces 64 5 ((words.drop first).flatMap fun w => leBytes 4 w.toNat)).zipIdx.map fun p =>
      (base + 4 * first + 64 * p.2, (pieces 4 16 p.1).map fun x => BitVec.ofNat 32 (ofLe x)))
  parts.foldl (fun b p =>
    let keep := b.chn.bufs.filter fun q => !(q.node == node && q.base / 64 == p.1 / 64)
    { b with chn := { b.chn with bufs := ({ node := node, base := p.1, words := p.2 } :: keep).take 4 } }) b

/-- A request has ended: `fail`: the failed dwords with the cause of CHN_ERRLOG and the status of a descriptor. -/
def reqEnd (r : ChnReq) (mask cause status : Nat) (data : List Word) (b : Block) : Block :=
  let b := b.dropReq r.tid
  let data := patchData mask r.count data
  match r.kind with
  | .posted => if mask = 0 then b else b.accFail 0 r.node r.offset cause (firstBit mask r.count)
  | .own d => b.complete d { (Compl.of status) with cw3 := if d.opcode = 0xD2 then 0 else lanes mask r.count }
  | .w0Write => if mask = 0 then b else b.accFail 1 r.node r.offset cause (firstBit mask r.count)
  | .w0Read =>
    let b := if mask = 0 && r.ask.isSome then b.fillBufs r.node r.offset data else b
    let (from_, n) := r.ask.getD (0, r.count)
    let asked := mask / 2 ^ from_ % 2 ^ n
    let b := b.w0Answer ((data.drop from_).take n)
    if asked = 0 then b else b.accFail 2 r.node (r.offset + 4 * from_) cause (firstBit asked n)
  | .rd d => b.complete d (lanesCompl mask r.count status data)
  | .wr d => b.complete d (lanesCompl mask r.count status [])
  | .lock d _ => (b.freeOwn d).complete d (.of status)

/-- The outstanding request with this TID. -/
def reqOf (b : Block) (tid : Nat) : Option ChnReq := b.chn.reqs.find? fun r => r.tid == tid

/-- CPL_FRAME (R433–R438, R440). An answer that the space is locked makes the request go out again. -/
def cplFrame (c : CplMsg) (b : Block) : Block :=
  match c with
  | .posted tid node offset stat fails =>
    let is (r : ChnReq) : Bool := r.kind == .posted && r.tid == tid.toNat && r.node == node.val
    if stat.val = 0 then b
    else if stat.val = 4 then
      match b.chn.reqs.find? is, b.chn.late.find? is with
      | some r, _ => b.sendFrame (b.reqFrame r)
      | Option.none, some r =>
        let b : Block := { b with chn := { b.chn with late := b.chn.late.erase r, reqs := b.chn.reqs ++ [r] } }
        b.sendFrame (b.reqFrame r)
      | Option.none, Option.none => b.accFail 0 node.val offset.toNat 6 0
    else ((whenB (b.chn.reqs.any is) (fun b => b.dropReq tid.toNat) b).accFail 0 node.val offset.toNat (causeOf stat.val) (firstBit fails 64)).w0Run
  | .desc q node dws status cw2 cw3 =>
    let d : Desc := { src := .queue q, dws := dws, payload := [] }
    b.nodeDone q.val node.val dws { status := status.val, cw2 := cw2.toNat, cw3 := cw3.toNat,
                                    addr := if 0x90 ≤ d.opcode ∧ d.opcode ≤ 0x95 then some d.outAddr else Option.none }
  | .access tid stat data fails =>
    match b.reqOf tid.toNat with
    | Option.none => b
    | some r => match r.kind with
      | .lock _ _ | .posted | .own _ => b
      | _ =>
        if stat.val = 4 then b.sendFrame (b.reqFrame r)
        else (b.reqEnd r (failMask stat.val fails r.count) (causeOf stat.val) St.hwFault data).w0Run
  | .lock tid stat vals stop =>
    match b.reqOf tid.toNat with
    | Option.none => b
    | some r => match r.kind with
      | .lock d _ =>
        if stat.val = 4 then b.sendFrame (b.reqFrame r)
        else (((b.dropReq r.tid).lockFinish d (vals.map BitVec.toNat) (!(stat.val == 0)) stop)).w0Run
      | _ => b

/-- REMOTE_ACCESS_TIMEOUT (R435, R453): no answer within 100 µs. A posted write awaits none. -/
def accTimeout (tid : Nat) (b : Block) : Block :=
  match b.reqOf tid with
  | Option.none => b
  | some r => match r.kind with
    | .posted | .own _ => b
    | _ => (b.reqEnd r (2 ^ r.count - 1) 5 St.timeout []).w0Run

/-- LOCK_RETRY_TIMEOUT (R440, R453): the space stayed locked beyond LOCKWAIT. -/
def retryTimeout (tid : Nat) (b : Block) : Block :=
  match b.reqOf tid with
  | Option.none => b
  | some r => (b.reqEnd r (2 ^ r.count - 1) 6 St.busy []).w0Run

/-- PREFETCH_EXPIRY (R436): buffer i has reached PFAGE. -/
def bufExpiry (i : Nat) (b : Block) : Block := { b with chn := { b.chn with bufs := b.chn.bufs.eraseIdx i } }

/-- DCPL_FRAME (R437): payload that node n has written for a descriptor of queue q. -/
def dcplFrame (q n : Nat) (dws : List Word) (data : List Byte) (b : Block) : Block :=
  b.setFlights (updFlight (awaits q n dws) (fun f => { f with got := f.got ++ data }) b.hq.flights) q

/-- DESCRIPTOR_UNREACHABLE_TIMEOUT (R439): node n has become unreachable before the outcome of a descriptor of queue q. -/
def descUnreach (q n : Nat) (b : Block) : Block :=
  if b.reachable n then b
  else
    let waits := b.hq.flights.filter fun f => f.q == q && f.stage == .dispatched && f.wait.contains n
    let b := waits.foldl (fun b f => b.nodeDone q n f.desc.dws (.of St.timeout)) b
    let mine := b.chn.reqs.filter fun r => r.node == n && (match r.kind with
      | .rd d | .wr d | .lock d _ => (match d.src with
        | .queue p => p.val == q
        | _ => false)
      | _ => false)
    (mine.foldl (fun b r => b.reqEnd r (2 ^ r.count - 1) 5 St.timeout []) b).w0Run

end Block

end Sys2Proof.Machine
end

