-- ==== Sys2Proof/Machine/CmdSluice.lean ====
section
/-! DEFINITION. The commands, one meaning each: Sluice bridge and register accesses (chapters 1, 13). -/
namespace Sys2Proof.Machine

/-- REGISTER_WRITE (R21). A write to a register with no row of its own updates its fields according to their access types. -/
def execRegisterWrite (who : Who) (off : BitVec 24) (size : Fin 129) (ws : List Word) (s : State) : Host.Outcome State Fault Refusal :=
  s.act fun b => b.registerWrite who off.toNat ws size

/-- SYS_LOCK_WRITE (R58). A write of 0x5EA1 to SYS_LOCK closes set-up and records LOCKSRC; any other value sets BADKEY. -/
def execSysLockWrite (who : Who) (key : BitVec 16) (s : State) : Host.Outcome State Fault Refusal :=
  s.act fun b => b.sysLockWrite who key.toNat

/-- CHN_RD (R452). Descriptor that reads dwords from a node's set-up register space. -/
def execChnRd (d : Desc) (s : State) : Host.Outcome State Fault Refusal :=
  s.act fun b => b.chnRd d

/-- CHN_WR (R452). Descriptor that writes dwords into a node's set-up register space. -/
def execChnWr (d : Desc) (s : State) : Host.Outcome State Fault Refusal :=
  s.act fun b => b.chnWr d

/-- CHN_LOCKSEQ (R440). Descriptor that executes a locked sequence of operations on a far node and locally. -/
def execChnLockseq (d : Desc) (s : State) : Host.Outcome State Fault Refusal :=
  s.act fun b => b.chnLockSeq d

/-- RD_FRAME (R426). A far node receives a read request and answers with a CPL. -/
def execRdFrame (src : Fin 64) (tid : BitVec 10) (dw : BitVec 18) (count : Fin 65) (s : State) : Host.Outcome State Fault Refusal :=
  s.act fun b => b.rdFrame src tid.toNat dw.toNat count

/-- WR_FRAME (R426). A far node receives a write request, executes the dwords and answers with a CPL. -/
def execWrFrame (src : Fin 64) (tid : BitVec 10) (dw : BitVec 18) (data : List Word) (s : State) : Host.Outcome State Fault Refusal :=
  s.act fun b => b.wrFrame src tid.toNat dw.toNat (data.take 64)

/-- PWR_FRAME (R434). A far node receives a posted write and answers only a failure. -/
def execPwrFrame (src : Fin 64) (tid : BitVec 10) (dw : BitVec 18) (data : List Word) (s : State) : Host.Outcome State Fault Refusal :=
  s.act fun b => b.pwrFrame src tid.toNat dw.toNat (data.take 64)

/-- DESC_FRAME (R437). A far node receives a forwarded descriptor and dispatches it as if fetched. -/
def execDescFrame (src : Fin 64) (q : Fin 64) (dws : List Word) (x : DescFrag) (s : State) : Host.Outcome State Fault Refusal :=
  s.act fun b => b.descFrame src q dws x

/-- LOCK_FRAME (R441). A far node receives a LOCK and grants, executing its operations, or refuses. -/
def execLockFrame (src : Fin 64) (tid : BitVec 10) (ops : List LockOp) (s : State) : Host.Outcome State Fault Refusal :=
  s.act fun b => b.lockFrame src tid.toNat (ops.take 8)

/-- CPL_FRAME (R433). An initiating head receives an answer and completes the access or descriptor. -/
def execCplFrame (c : CplMsg) (s : State) : Host.Outcome State Fault Refusal :=
  s.act fun b => b.cplFrame c

/-- DCPL_FRAME (R437). A head receives payload written by a forwarded descriptor. -/
def execDcplFrame (q : Fin 64) (n : Fin 64) (dws : List Word) (data : List Byte) (s : State) : Host.Outcome State Fault Refusal :=
  s.act fun b => b.dcplFrame q n dws data

/-- LREF_FRAME (R441). An initiator receives a lock refusal, releases its space and completes with BUSY_RETRY. -/
def execLrefFrame (tid : BitVec 10) (s : State) : Host.Outcome State Fault Refusal :=
  s.act fun b => b.lrefFrame tid.toNat

/-- W0_REMOTE_ACCESS (R431). A W0 access to a node other than the local one is sent through the sluice. -/
def execW0RemoteAccess (addr : HostAddr) (count : Fin 65) (data : Option (List Word)) (s : State) : Host.Outcome State Fault Refusal :=
  s.act fun b => b.hostAccess addr count (data.map fun l => l.take 64)

/-- REMOTE_ACCESS_TIMEOUT (R435). A remote access gets no answer within 100 µs and is logged as failed. -/
def execRemoteAccessTimeout (tid : BitVec 10) (s : State) : Host.Outcome State Fault Refusal :=
  s.act fun b => b.accTimeout tid.toNat

/-- PREFETCH_EXPIRY (R436). A prefetch buffer older than PFAGE µs is discarded. -/
def execPrefetchExpiry (i : Fin 4) (s : State) : Host.Outcome State Fault Refusal :=
  s.act fun b => b.bufExpiry i

/-- LOCK_RETRY_TIMEOUT (R440). Retrying a busy space for LOCKWAIT µs ends and the access fails as busy. -/
def execLockRetryTimeout (tid : BitVec 10) (s : State) : Host.Outcome State Fault Refusal :=
  s.act fun b => b.retryTimeout tid.toNat

/-- LOCK_TIMEOUT (R442). A space stays locked 100 µs; it is released, LOCKTO set and EV229 raised. -/
def execLockTimeout (s : State) : Host.Outcome State Fault Refusal :=
  s.act fun b => b.lockTimeout

/-- DESCRIPTOR_UNREACHABLE_TIMEOUT (R439). A descriptor whose node became unreachable completes with TIMEOUT within 1 ms. -/
def execDescriptorUnreachableTimeout (q : Fin 64) (n : Fin 64) (s : State) : Host.Outcome State Fault Refusal :=
  s.act fun b => b.descUnreach q n

end Sys2Proof.Machine
end

