-- ==== Sys2Proof/Machine/CmdSwitch.lean ====
section
/-! DEFINITION. The commands, one meaning each: Protected switches, motor bridges and the weir (chapters 3, 4). -/
namespace Sys2Proof.Machine

/-- DIE_ACKNOWLEDGE (R156, R216). A power die, or a valve-drive die (4, 5), acknowledges a command over its internal link; the command is applied now or at the common SYNC tick. -/
def execDieAcknowledge (die : Fin 6) (s : State) : Host.Outcome State Fault Refusal :=
  s.act fun b => b.dieAck die

/-- HS_SET (R155). Descriptor that sets a mask of HS channels off, on or to a DUTY. -/
def execHsSet (d : Desc) (s : State) : Host.Outcome State Fault Refusal :=
  s.act fun b => b.hsSet d

/-- HS_SETLIST (R155). Descriptor that sets a list of HS channels each to its own ACTION and DUTY. -/
def execHsSetlist (d : Desc) (s : State) : Host.Outcome State Fault Refusal :=
  s.act fun b => b.hsSetList d

/-- HS_CLEAR (R155). Descriptor that clears locks and sticky bits of selected HS channels. -/
def execHsClear (d : Desc) (s : State) : Host.Outcome State Fault Refusal :=
  s.act fun b => runDesc d Block.hsClear b

/-- HS_READ (R155). Descriptor that writes status and measurement records of selected HS channels. -/
def execHsRead (d : Desc) (s : State) : Host.Outcome State Fault Refusal :=
  s.act fun b => runDesc d Block.hsRead b

/-- HS_ENABLE (R125). HSW_CFG.EN written 1 moves the channel from DISABLED to OFF, or back to LOCKED. -/
def execHsEnable (who : Who) (n : Fin 96) (s : State) : Host.Outcome State Fault Refusal :=
  s.act fun b => b.gate who (R.HSW_CFG.at n) (Block.chEnable n)

/-- HS_DISABLE (R125). HSW_CFG.EN written 0 moves the channel to DISABLED, turning the output off through its slope and clamp. -/
def execHsDisable (who : Who) (n : Fin 96) (s : State) : Host.Outcome State Fault Refusal :=
  s.act fun b => b.gate who (R.HSW_CFG.at n) (Block.chDisable n)

/-- HS_LOCK_CLEAR (R126). Writing 1 to HSW_STAT.LOCKED clears the lock and reloads the retry counter. -/
def execHsLockClear (who : Who) (n : Fin 96) (s : State) : Host.Outcome State Fault Refusal :=
  s.act fun b => b.gate who (R.HSW_STAT.at n) (Block.chUnlock n)

/-- PWM_PERIOD_START (R106). A channel's PWM period starts and takes the newest DUTY, placing the turn-on after PHASE. -/
def execPwmPeriodStart (p : Fin 112) (smp : OnSample) (high : Bool) (s : State) : Host.Outcome State Fault Refusal :=
  s.act fun b => b.periodStart p smp.cur smp.vout high

/-- MEAS_UPDATE (R108). Every 100 µs the channel's current and output voltage measurements update. -/
def execMeasUpdate (p : Fin 132) (cur : Nat) (vout : Nat) (tj : Nat) (s : State) : Host.Outcome State Fault Refusal :=
  s.act fun b => b.measAny p cur vout tj

/-- OFF_STATE_CHECK (R121). Every 10 ms in the DC off state the pull-up check detects short to battery or open load. -/
def execOffStateCheck (p : Fin 128) (v1 : Bool) (v2 : Bool) (s : State) : Host.Outcome State Fault Refusal :=
  s.act fun b => b.offAny p v1 v2

/-- SHORT_CIRCUIT_TRIP (R112). Current above the trip threshold pulls the gate down within 4 ns and is a protective turn-off. -/
def execShortCircuitTrip (p : Fin 112) (low : Bool) (ma : Nat) (s : State) : Host.Outcome State Fault Refusal :=
  s.act fun b => b.shortTrip p low ma

/-- LINEAR_LIMIT (R113). Current reaches the linear limit; the channel enters LIMIT and sets ILIM. -/
def execLinearLimit (p : Fin 112) (ma : Nat) (s : State) : Host.Outcome State Fault Refusal :=
  s.act fun b => b.linearLimit p ma

/-- LINEAR_LIMIT_END (R125). Current falls below the linear limit and the channel returns from LIMIT to ON. -/
def execLinearLimitEnd (p : Fin 112) (ma : Nat) (s : State) : Host.Outcome State Fault Refusal :=
  s.act fun b => b.linearLimitEnd p ma

/-- THERMAL_LATCH (R114). Junction reaches 175 °C; output off within 5 µs, OT set, protective turn-off. -/
def execThermalLatch (p : Fin 112) (tj : Int) (s : State) : Host.Outcome State Fault Refusal :=
  s.act fun b => b.thermalLatch p tj

/-- THERMAL_LATCH_CLEAR (R114). Junction falls to 160 °C and the latch clears, allowing a pending restart. -/
def execThermalLatchClear (p : Fin 112) (tj : Int) (s : State) : Host.Outcome State Fault Refusal :=
  s.act fun b => b.thermalClear p tj

/-- BACKOFF_EXPIRY (R116). The back-off ends and a channel commanded on restarts, decrementing its retry counter. -/
def execBackoffExpiry (p : Fin 112) (s : State) : Host.Outcome State Fault Refusal :=
  s.act fun b => b.backoffExpiry p

/-- REARM_TIMEOUT (R117). The channel stays ON without fault for (REARM+1)×250 ms and the retry counter is reloaded. -/
def execRearmTimeout (p : Fin 112) (s : State) : Host.Outcome State Fault Refusal :=
  s.act fun b => b.rearmTimeout p

/-- CLAMP_EVENT_END (R118). A clamping event ends, its energy is added to the current bucket and the budget is checked. -/
def execClampEventEnd (p : Fin 112) (energy : Nat) (s : State) : Host.Outcome State Fault Refusal :=
  s.act fun b => b.clampEnd p energy

/-- CLAMP_BUCKET_BOUNDARY (R118). At each 62.5 ms boundary the oldest clamp bucket is dropped. -/
def execClampBucketBoundary (die : Fin 6) (s : State) : Host.Outcome State Fault Refusal :=
  s.act fun b => (if die.val < 4 then b.bucketBoundary die else b.vlBuckets (die - 4))

/-- REVERSE_CURRENT (R111). Output above the feed for 2 µs opens the reverse-blocking MOSFET and sets REV. -/
def execReverseCurrent (n : Fin 96) (mv : Nat) (s : State) : Host.Outcome State Fault Refusal :=
  s.act fun b => b.reverseCurrent n mv

/-- WEIR_ARM (R129). WEIR_CFG.ARM written 1 arms the weir pending a first valid heartbeat. -/
def execWeirArm (who : Who) (s : State) : Host.Outcome State Fault Refusal :=
  s.act fun b => b.gate who (R.WEIR_CFG.at 0) Block.weirArm

/-- WEIR_HEARTBEAT (R130). A write to WEIR_HB is checked for CRC and SEQ; a valid word restarts the window or completes a reclaim. -/
def execWeirHeartbeat (who : Who) (seq : Fin 65536) (crc : Fin 256) (s : State) : Host.Outcome State Fault Refusal :=
  s.act fun b => b.gateSup who (R.WEIR_HB.at 0) (Block.heartbeatIn seq crc)

/-- WEIR_RECLAIM_KEY (R135). A write of 0x4EC1 to WEIR_RECLAIM leaves a reclaim pending in HOLD or APPLIED. -/
def execWeirReclaimKey (who : Who) (key : Fin 65536) (s : State) : Host.Outcome State Fault Refusal :=
  s.act fun b => b.gateSup who (R.WEIR_RECLAIM.at 0) (Block.reclaimKey key)

/-- WEIR_WINDOW_EXPIRY (R133). WINDOW elapses without a valid word and the weir enters HOLD with MISSED. -/
def execWeirWindowExpiry (s : State) : Host.Outcome State Fault Refusal :=
  s.act fun b => b.windowExpiry

/-- WEIR_RECLAIM_EXPIRY (R136). The reclaim window expires; all instances apply the fail-safe table and the module goes Safe. -/
def execWeirReclaimExpiry (s : State) : Host.Outcome State Fault Refusal :=
  s.act fun b => b.reclaimEnd

/-- FLASH_PATTERN_EDGE (R137). A fail-safe flash pattern switches its outputs on or off at its ON or PERIOD time. -/
def execFlashPatternEdge (die : Fin 4) (k : Fin 4) (on : Bool) (s : State) : Host.Outcome State Fault Refusal :=
  s.act fun b => b.flashEdge die k on

/-- HB_SET (R181). Descriptor that sets OUT and DUTY of selected half-bridges. -/
def execHbSet (d : Desc) (s : State) : Host.Outcome State Fault Refusal :=
  s.act fun b => b.hbSet d

/-- FB_DRIVE (R181). Descriptor that sets the direction and DUTY of selected full bridges. -/
def execFbDrive (d : Desc) (s : State) : Host.Outcome State Fault Refusal :=
  s.act fun b => b.fbDrive d

/-- WIPE (R166). Descriptor that runs, stops or single-wipes a wiper full bridge. -/
def execWipe (d : Desc) (s : State) : Host.Outcome State Fault Refusal :=
  s.act fun b => b.wipe d

/-- WIN_MOVE (R169). Descriptor that moves a window to a target position or stops it. -/
def execWinMove (d : Desc) (s : State) : Host.Outcome State Fault Refusal :=
  s.act fun b => b.winMoveDesc d

/-- LOCK_PULSE (R170). Descriptor that starts a lock pulse sequence on selected full bridges. -/
def execLockPulse (d : Desc) (s : State) : Host.Outcome State Fault Refusal :=
  s.act fun b => b.lockPulseDesc d

/-- HB_CLEAR (R181). Descriptor that clears locks and sticky bits of half- and full bridges. -/
def execHbClear (d : Desc) (s : State) : Host.Outcome State Fault Refusal :=
  s.act fun b => runDesc d Block.hbClear b

/-- HB_READ (R181). Descriptor that writes status and measurement records of selected half-bridges. -/
def execHbRead (d : Desc) (s : State) : Host.Outcome State Fault Refusal :=
  s.act fun b => runDesc d Block.hbRead b

/-- HB_ENABLE (R176). HB_CFG.EN written 1 enables a half-bridge or full bridge. -/
def execHbEnable (who : Who) (n : Fin 16) (s : State) : Host.Outcome State Fault Refusal :=
  s.act fun b => b.gate who (R.HB_CFG.at n) (Block.chEnable (96 + n))

/-- HB_DISABLE (R176). HB_CFG.EN written 0 disables a half-bridge or full bridge and turns it off. -/
def execHbDisable (who : Who) (n : Fin 16) (s : State) : Host.Outcome State Fault Refusal :=
  s.act fun b => b.gate who (R.HB_CFG.at n) (Block.chDisable (96 + n))

/-- HB_LOCK_CLEAR (R178). Writing 1 to HB_STAT.LOCKED clears the half-bridge lock. -/
def execHbLockClear (who : Who) (n : Fin 16) (s : State) : Host.Outcome State Fault Refusal :=
  s.act fun b => b.gate who (R.HB_STAT.at n) (Block.chUnlock (96 + n))

/-- FB_BRAKE_END (R163). The 2 ms brake between FWD and REV ends and the new direction is driven. -/
def execFbBrakeEnd (k : Fin 8) (s : State) : Host.Outcome State Fault Refusal :=
  s.act fun b => b.fbBrakeEnd k

/-- WIPER_BRAKE_END (R166). BRAKET ms of park brake end; the bridge coasts and PARKED is set. -/
def execWiperBrakeEnd (k : Fin 8) (s : State) : Host.Outcome State Fault Refusal :=
  s.act fun b => b.wiperBrakeEnd k

/-- WIPER_PARK_TIMEOUT (R166). PARKTO ms pass after STOP without park; the bridge coasts and PARKFAIL is set. -/
def execWiperParkTimeout (k : Fin 8) (s : State) : Host.Outcome State Fault Refusal :=
  s.act fun b => b.wiperTimeout k

/-- WINDOW_RIPPLE (R167). A commutation ripple is counted, updating POS and the reversal count. -/
def execWindowRipple (k : Fin 8) (ma : Nat) (us : Nat) (s : State) : Host.Outcome State Fault Refusal :=
  s.act fun b => b.ripple k ma us

/-- PINCH_DETECTED (R168). The pinch criterion is met; the window brakes and reverses, or an end stop is marked in the seal zone. -/
def execPinchDetected (k : Fin 8) (ma : Nat) (us : Nat) (ms : Nat) (stop : WinEnds) (s : State) : Host.Outcome State Fault Refusal :=
  s.act fun b => b.pinch k ma us ms stop.closed stop.fromOpen

/-- PINCH_BRAKE_END (R168). The 10 ms pinch brake ends and the reversal starts. -/
def execPinchBrakeEnd (k : Fin 8) (s : State) : Host.Outcome State Fault Refusal :=
  s.act fun b => b.pinchBrakeEnd k

/-- LOCK_PULSE_END (R170). A lock pulse of PULSE ms ends and the bridge coasts for GAP. -/
def execLockPulseEnd (k : Fin 8) (s : State) : Host.Outcome State Fault Refusal :=
  s.act fun b => b.lockPulseEnd k

/-- LOCK_GAP_END (R170). A lock gap ends and the next repeated pulse starts. -/
def execLockGapEnd (k : Fin 8) (s : State) : Host.Outcome State Fault Refusal :=
  s.act fun b => b.lockGapEnd k

end Sys2Proof.Machine
end

