-- ==== Sys2Proof/Machine/CmdValve.lean ====
section
/-! DEFINITION. The commands, one meaning each: Valve drive (chapter 5). -/
namespace Sys2Proof.Machine

/-- VLV_SHOT (R194). Descriptor that fires single shots on selected valves. -/
def execVlvShot (d : Desc) (s : State) : Host.Outcome State Fault Refusal :=
  s.act fun b => b.vlvShot d

/-- VLV_TABLE (R192). Descriptor that loads and checks a shot table. -/
def execVlvTable (d : Desc) (s : State) : Host.Outcome State Fault Refusal :=
  s.act fun b => runDesc d Block.vlvTable b

/-- VLV_START (R193). Descriptor that starts tables immediately, at a timebase value or in place of a running table. -/
def execVlvStart (d : Desc) (s : State) : Host.Outcome State Fault Refusal :=
  s.act fun b => runDesc d Block.vlvStart b

/-- VLV_STOP (R193). Descriptor that stops tables gently or at once. -/
def execVlvStop (d : Desc) (s : State) : Host.Outcome State Fault Refusal :=
  s.act fun b => runDesc d Block.vlvStop b

/-- VLV_CLEAR (R215). Descriptor that clears locks, sticky bits and fail-safe states of valves and banks. -/
def execVlvClear (d : Desc) (s : State) : Host.Outcome State Fault Refusal :=
  s.act fun b => runDesc d Block.vlvClear b

/-- VLV_READ (R215). Descriptor that writes status records of selected valves. -/
def execVlvRead (d : Desc) (s : State) : Host.Outcome State Fault Refusal :=
  s.act fun b => runDesc d Block.vlvRead b

/-- BST_SET (R215). Descriptor that enables converters and sets their VSET. -/
def execBstSet (d : Desc) (s : State) : Host.Outcome State Fault Refusal :=
  s.act fun b => runDesc d Block.bstSet b

/-- BOOST_ENABLE (R184). BST_CFG.EN written 1 starts a converter charging its rail. -/
def execBoostEnable (who : Who) (j : Fin 2) (s : State) : Host.Outcome State Fault Refusal :=
  s.act fun b => b.gate who (R.BST_CFG.at j) (Block.boostEnable j)

/-- BOOST_DISABLE (R184). BST_CFG.EN written 0 stops a converter. -/
def execBoostDisable (who : Who) (j : Fin 2) (s : State) : Host.Outcome State Fault Refusal :=
  s.act fun b => b.gate who (R.BST_CFG.at j) (Block.boostDisable j)

/-- BOOST_READY_TIMEOUT (R186). A converter is not ready for 5 ms; it enters FAULT and sets BFAIL. -/
def execBoostReadyTimeout (j : Fin 2) (s : State) : Host.Outcome State Fault Refusal :=
  s.act fun b => b.boostTimeout j

/-- BOOST_OVERVOLTAGE (R186). The rail exceeds VSET + 6 V for 10 µs; the converter stops and BOV is set. -/
def execBoostOvervoltage (j : Fin 2) (vout : Nat) (s : State) : Host.Outcome State Fault Refusal :=
  s.act fun b => b.boostOver j vout

/-- TABLE_PASS_START (R191). A repeating shot table starts a new pass every PERIOD ticks. -/
def execTablePassStart (t : Fin 16) (s : State) : Host.Outcome State Fault Refusal :=
  s.act fun b => b.passStart t

/-- SHOT_DUE (R187). A shot falls due; readiness, arbitration and coil model decide whether it starts, waits or is skipped. -/
def execShotDue (t : Fin 16) (i : Nat) (s : State) : Host.Outcome State Fault Refusal :=
  s.act fun b => b.tableShot t i

/-- BOOST_LEVEL_REACHED (R187). The coil current reaches IBOOST and the boost phase ends at the next tick. -/
def execBoostLevelReached (n : Fin 32) (s : State) : Host.Outcome State Fault Refusal :=
  s.act fun b => b.boostLevel n

/-- BOOST_TIME_LIMIT (R187). TBOOST elapses before the level; the boost phase ends and NREACH is set. -/
def execBoostTimeLimit (n : Fin 32) (ma : Nat) (s : State) : Host.Outcome State Fault Refusal :=
  s.act fun b => b.boostTime n ma

/-- PEAK_END (R187). TPEAK elapses and the valve moves to hold or ends its shot. -/
def execPeakEnd (n : Fin 32) (ma : Nat) (reached : Bool) (s : State) : Host.Outcome State Fault Refusal :=
  s.act fun b => b.peakEnd n ma reached

/-- HOLD_END (R187). The hold time elapses and the shot ends into CLAMP. -/
def execHoldEnd (n : Fin 32) (ma : Nat) (reached : Bool) (us : Nat) (mv : Nat) (s : State) : Host.Outcome State Fault Refusal :=
  s.act fun b => b.holdEnd n ma reached us mv

/-- VALVE_CLAMP_END (R189). Coil current reaches zero in CLAMP; the valve goes IDLE or LOCKED and the bank switch may turn off. -/
def execValveClampEnd (n : Fin 32) (energy : Nat) (s : State) : Host.Outcome State Fault Refusal :=
  s.act fun b => b.vlClampEnd n energy

/-- VALVE_OFF_STATE_CHECK (R198). Every 10 ms an idle bank's valve is checked for open coil or low-side short. -/
def execValveOffStateCheck (n : Fin 32) (mv : Nat) (bankOn : Bool) (s : State) : Host.Outcome State Fault Refusal :=
  s.act fun b => b.vlOffCheck n mv bankOn

/-- LOW_SIDE_TRIP (R198). Low-side current above 16 A pulls the gate down and aborts the shot with SHORT. -/
def execLowSideTrip (n : Fin 32) (ma : Nat) (s : State) : Host.Outcome State Fault Refusal :=
  s.act fun b => b.lsTrip n ma

/-- BANK_SWITCH_FAULT (R198). A bank switch fault locks the bank and sets BSWF. -/
def execBankSwitchFault (k : Fin 8) (cause : Fin 4) (present : Bool) (s : State) : Host.Outcome State Fault Refusal :=
  s.act fun b => b.bankFault k cause present

/-- COIL_MODEL_TICK (R199). Every 1 ms the coil temperature estimate is updated and derating or HOT applied. -/
def execCoilModelTick (n : Fin 32) (msq : Nat) (s : State) : Host.Outcome State Fault Refusal :=
  s.act fun b => b.coilTick n msq

/-- INTERNAL_LINK_SILENCE (R203). 50 µs without link traffic puts the die's valves into FAILSAFE. -/
def execInternalLinkSilence (v : Fin 2) (s : State) : Host.Outcome State Fault Refusal :=
  s.act fun b => b.linkSilence v

/-- VALVE_ENABLE (R201). VLV_CFG.EN written 1 moves a valve from DISABLED to IDLE. -/
def execValveEnable (who : Who) (n : Fin 32) (s : State) : Host.Outcome State Fault Refusal :=
  s.act fun b => b.gate who (R.VLV_CFG.at n) (Block.vlEnable n)

/-- VALVE_DISABLE (R201). VLV_CFG.EN written 0 disables a valve after clamping any shot in progress. -/
def execValveDisable (who : Who) (n : Fin 32) (s : State) : Host.Outcome State Fault Refusal :=
  s.act fun b => b.gate who (R.VLV_CFG.at n) (Block.vlDisable n)

/-- VALVE_LOCK_CLEAR (R211). Writing 1 to VLV_STAT.LOCKED clears the valve lock and reloads the abort count. -/
def execValveLockClear (who : Who) (n : Fin 32) (s : State) : Host.Outcome State Fault Refusal :=
  s.act fun b => b.gate who (R.VLV_STAT.at n) (Block.vlUnlock n)

/-- BANK_LOCK_CLEAR (R198). Writing 1 to BST_BSTAT.LOCKED clears a bank lock if its cause has gone. -/
def execBankLockClear (who : Who) (k : Fin 8) (s : State) : Host.Outcome State Fault Refusal :=
  s.act fun b => b.gate who (R.BST_BSTAT.at k) (Block.bankUnlock k)

/-- TIMEBASE_READ (R214). A read of BST_TBASE[0] captures the 64-bit timebase count. -/
def execTimebaseRead (who : Who) (stale : Bool) (s : State) : Host.Outcome State Fault Refusal :=
  s.act fun b => b.readGate who (R.BST_TBASE0.at 0) (Block.timebaseRead stale)

/-- BOOST_READY_CHANGE (R185). A boost rail rises to VSET − RDYM or sags below it, and the converter moves between STARTING or NOTREADY and READY. -/
def execBoostReadyChange (j : Fin 2) (vout : Nat) (s : State) : Host.Outcome State Fault Refusal :=
  s.act fun b => b.boostReady j vout

end Sys2Proof.Machine
end

