-- ==== Sys2Proof/Machine/Dispatch.lean ====
section
/-! DEFINITION. Each command goes to its meaning. -/
namespace Sys2Proof.Machine

/-- The effect of a command on everything but the queue. -/
def exec (i : Instr) (s : State) : Host.Outcome State Fault Refusal :=
  match i with
  | .modulePowerOnReset => Sys2Proof.Machine.execModulePowerOnReset s
  | .brownOut => Sys2Proof.Machine.execBrownOut s
  | .brownOutEnd => Sys2Proof.Machine.execBrownOutEnd s
  | .coldBoot bcrBad recBad rkBad => Sys2Proof.Machine.execColdBoot bcrBad recBad rkBad s
  | .pcieFunctionLevelReset => Sys2Proof.Machine.execPcieFunctionLevelReset s
  | .linkDown => Sys2Proof.Machine.execLinkDown s
  | .perstNLow => Sys2Proof.Machine.execPerstNLow s
  | .linkTrained speed width => Sys2Proof.Machine.execLinkTrained speed width s
  | .d3Entry => Sys2Proof.Machine.execD3Entry s
  | .d3Exit noSoftReset => Sys2Proof.Machine.execD3Exit noSoftReset s
  | .registerWrite who off size ws => Sys2Proof.Machine.execRegisterWrite who off size ws s
  | .sysLockWrite who key => Sys2Proof.Machine.execSysLockWrite who key s
  | .doorbellWrite q width v => Sys2Proof.Machine.execDoorbellWrite q width v s
  | .completionHeadWrite q width v => Sys2Proof.Machine.execCompletionHeadWrite q width v s
  | .eventQueueHeadWrite e width v => Sys2Proof.Machine.execEventQueueHeadWrite e width v s
  | .descriptorFetch => Sys2Proof.Machine.execDescriptorFetch s
  | .descriptorArrival q dws payload => Sys2Proof.Machine.execDescriptorArrival q dws payload s
  | .fencedDispatch q => Sys2Proof.Machine.execFencedDispatch q s
  | .dieAcknowledge die => Sys2Proof.Machine.execDieAcknowledge die s
  | .completionWrite q ix => Sys2Proof.Machine.execCompletionWrite q ix s
  | .msixCoalesceTimeout q => Sys2Proof.Machine.execMsixCoalesceTimeout q s
  | .msixVectorUnmask v addr data => Sys2Proof.Machine.execMsixVectorUnmask v addr data s
  | .hostMemoryFault kind q late dws => Sys2Proof.Machine.execHostMemoryFault kind q late dws s
  | .queueEnable who q => Sys2Proof.Machine.execQueueEnable who q s
  | .queueDrain who q => Sys2Proof.Machine.execQueueDrain who q s
  | .queueDrainComplete q => Sys2Proof.Machine.execQueueDrainComplete q s
  | .queueIndexWrite who q w => Sys2Proof.Machine.execQueueIndexWrite who q w s
  | .eventQueueEnable who e => Sys2Proof.Machine.execEventQueueEnable who e s
  | .eventQueueDisable who e => Sys2Proof.Machine.execEventQueueDisable who e s
  | .eventQueueIndexWrite who e w => Sys2Proof.Machine.execEventQueueIndexWrite who e w s
  | .mailboxDone who w => Sys2Proof.Machine.execMailboxDone who w s
  | .nop d => Sys2Proof.Machine.execNop d s
  | .sysInfo d => Sys2Proof.Machine.execSysInfo d s
  | .timeRead d => Sys2Proof.Machine.execTimeRead d s
  | .supMsg d => Sys2Proof.Machine.execSupMsg d s
  | .eqMark d => Sys2Proof.Machine.execEqMark d s
  | .feedOvercurrent n ma => Sys2Proof.Machine.execFeedOvercurrent n ma s
  | .aggregateOvercurrent ma => Sys2Proof.Machine.execAggregateOvercurrent ma s
  | .feedMissing n mv logic => Sys2Proof.Machine.execFeedMissing n mv logic s
  | .feedBandChange n mv => Sys2Proof.Machine.execFeedBandChange n mv s
  | .supplyRestart n => Sys2Proof.Machine.execSupplyRestart n s
  | .logicBandChange mv => Sys2Proof.Machine.execLogicBandChange mv s
  | .ignChange high phase rkBad => Sys2Proof.Machine.execIgnChange high phase rkBad s
  | .domainOn who d => Sys2Proof.Machine.execDomainOn who d s
  | .domainPowerGood d rkBad => Sys2Proof.Machine.execDomainPowerGood d rkBad s
  | .domainPgTimeout d => Sys2Proof.Machine.execDomainPgTimeout d s
  | .domainOff who d => Sys2Proof.Machine.execDomainOff who d s
  | .stillRequest who req => Sys2Proof.Machine.execStillRequest who req s
  | .stillReached rkBad => Sys2Proof.Machine.execStillReached rkBad s
  | .wakeRecognised src phase cause rkBad => Sys2Proof.Machine.execWakeRecognised src phase cause rkBad s
  | .retainedHashComplete flips => Sys2Proof.Machine.execRetainedHashComplete flips s
  | .rtcLowWrite who v => Sys2Proof.Machine.execRtcLowWrite who v s
  | .rtcHighWrite who v => Sys2Proof.Machine.execRtcHighWrite who v s
  | .rtcRead who stale => Sys2Proof.Machine.execRtcRead who stale s
  | .rtcAlarmHighWrite who v => Sys2Proof.Machine.execRtcAlarmHighWrite who v s
  | .rtcAlarm count phase rkBad => Sys2Proof.Machine.execRtcAlarm count phase rkBad s
  | .referenceOscDeviation ppm => Sys2Proof.Machine.execReferenceOscDeviation ppm s
  | .crystalStop us => Sys2Proof.Machine.execCrystalStop us s
  | .temperatureThreshold ix t => Sys2Proof.Machine.execTemperatureThreshold ix t s
  | .tempSensorUpdate n t => Sys2Proof.Machine.execTempSensorUpdate n t s
  | .internalLinkFault l => Sys2Proof.Machine.execInternalLinkFault l s
  | .hsSet d => Sys2Proof.Machine.execHsSet d s
  | .hsSetlist d => Sys2Proof.Machine.execHsSetlist d s
  | .hsClear d => Sys2Proof.Machine.execHsClear d s
  | .hsRead d => Sys2Proof.Machine.execHsRead d s
  | .hsEnable who n => Sys2Proof.Machine.execHsEnable who n s
  | .hsDisable who n => Sys2Proof.Machine.execHsDisable who n s
  | .hsLockClear who n => Sys2Proof.Machine.execHsLockClear who n s
  | .pwmPeriodStart p smp high => Sys2Proof.Machine.execPwmPeriodStart p smp high s
  | .measUpdate p cur vout tj => Sys2Proof.Machine.execMeasUpdate p cur vout tj s
  | .offStateCheck p v1 v2 => Sys2Proof.Machine.execOffStateCheck p v1 v2 s
  | .shortCircuitTrip p low ma => Sys2Proof.Machine.execShortCircuitTrip p low ma s
  | .linearLimit p ma => Sys2Proof.Machine.execLinearLimit p ma s
  | .linearLimitEnd p ma => Sys2Proof.Machine.execLinearLimitEnd p ma s
  | .thermalLatch p tj => Sys2Proof.Machine.execThermalLatch p tj s
  | .thermalLatchClear p tj => Sys2Proof.Machine.execThermalLatchClear p tj s
  | .backoffExpiry p => Sys2Proof.Machine.execBackoffExpiry p s
  | .rearmTimeout p => Sys2Proof.Machine.execRearmTimeout p s
  | .clampEventEnd p energy => Sys2Proof.Machine.execClampEventEnd p energy s
  | .clampBucketBoundary die => Sys2Proof.Machine.execClampBucketBoundary die s
  | .reverseCurrent n mv => Sys2Proof.Machine.execReverseCurrent n mv s
  | .weirArm who => Sys2Proof.Machine.execWeirArm who s
  | .weirHeartbeat who seq crc => Sys2Proof.Machine.execWeirHeartbeat who seq crc s
  | .weirReclaimKey who key => Sys2Proof.Machine.execWeirReclaimKey who key s
  | .weirWindowExpiry => Sys2Proof.Machine.execWeirWindowExpiry s
  | .weirReclaimExpiry => Sys2Proof.Machine.execWeirReclaimExpiry s
  | .flashPatternEdge die k on => Sys2Proof.Machine.execFlashPatternEdge die k on s
  | .engineReady c => Sys2Proof.Machine.execEngineReady c s
  | .hbSet d => Sys2Proof.Machine.execHbSet d s
  | .fbDrive d => Sys2Proof.Machine.execFbDrive d s
  | .wipe d => Sys2Proof.Machine.execWipe d s
  | .winMove d => Sys2Proof.Machine.execWinMove d s
  | .lockPulse d => Sys2Proof.Machine.execLockPulse d s
  | .hbClear d => Sys2Proof.Machine.execHbClear d s
  | .hbRead d => Sys2Proof.Machine.execHbRead d s
  | .hbEnable who n => Sys2Proof.Machine.execHbEnable who n s
  | .hbDisable who n => Sys2Proof.Machine.execHbDisable who n s
  | .hbLockClear who n => Sys2Proof.Machine.execHbLockClear who n s
  | .fbBrakeEnd k => Sys2Proof.Machine.execFbBrakeEnd k s
  | .wiperBrakeEnd k => Sys2Proof.Machine.execWiperBrakeEnd k s
  | .wiperParkTimeout k => Sys2Proof.Machine.execWiperParkTimeout k s
  | .windowRipple k ma us => Sys2Proof.Machine.execWindowRipple k ma us s
  | .pinchDetected k ma us ms stop => Sys2Proof.Machine.execPinchDetected k ma us ms stop s
  | .pinchBrakeEnd k => Sys2Proof.Machine.execPinchBrakeEnd k s
  | .lockPulseEnd k => Sys2Proof.Machine.execLockPulseEnd k s
  | .lockGapEnd k => Sys2Proof.Machine.execLockGapEnd k s
  | .vlvShot d => Sys2Proof.Machine.execVlvShot d s
  | .vlvTable d => Sys2Proof.Machine.execVlvTable d s
  | .vlvStart d => Sys2Proof.Machine.execVlvStart d s
  | .vlvStop d => Sys2Proof.Machine.execVlvStop d s
  | .vlvClear d => Sys2Proof.Machine.execVlvClear d s
  | .vlvRead d => Sys2Proof.Machine.execVlvRead d s
  | .bstSet d => Sys2Proof.Machine.execBstSet d s
  | .boostEnable who j => Sys2Proof.Machine.execBoostEnable who j s
  | .boostDisable who j => Sys2Proof.Machine.execBoostDisable who j s
  | .boostReadyTimeout j => Sys2Proof.Machine.execBoostReadyTimeout j s
  | .boostOvervoltage j vout => Sys2Proof.Machine.execBoostOvervoltage j vout s
  | .tablePassStart t => Sys2Proof.Machine.execTablePassStart t s
  | .shotDue t ix => Sys2Proof.Machine.execShotDue t ix s
  | .boostLevelReached n => Sys2Proof.Machine.execBoostLevelReached n s
  | .boostTimeLimit n ma => Sys2Proof.Machine.execBoostTimeLimit n ma s
  | .peakEnd n ma reached => Sys2Proof.Machine.execPeakEnd n ma reached s
  | .holdEnd n ma reached us mv => Sys2Proof.Machine.execHoldEnd n ma reached us mv s
  | .valveClampEnd n energy => Sys2Proof.Machine.execValveClampEnd n energy s
  | .valveOffStateCheck n mv bankOn => Sys2Proof.Machine.execValveOffStateCheck n mv bankOn s
  | .lowSideTrip n ma => Sys2Proof.Machine.execLowSideTrip n ma s
  | .bankSwitchFault k cause present => Sys2Proof.Machine.execBankSwitchFault k cause present s
  | .coilModelTick n msq => Sys2Proof.Machine.execCoilModelTick n msq s
  | .internalLinkSilence v => Sys2Proof.Machine.execInternalLinkSilence v s
  | .valveEnable who n => Sys2Proof.Machine.execValveEnable who n s
  | .valveDisable who n => Sys2Proof.Machine.execValveDisable who n s
  | .valveLockClear who n => Sys2Proof.Machine.execValveLockClear who n s
  | .bankLockClear who k => Sys2Proof.Machine.execBankLockClear who k s
  | .timebaseRead who stale => Sys2Proof.Machine.execTimebaseRead who stale s
  | .lmpSet d => Sys2Proof.Machine.execLmpSet d s
  | .lmpSetlist d => Sys2Proof.Machine.execLmpSetlist d s
  | .lmpColour d => Sys2Proof.Machine.execLmpColour d s
  | .lmpRead d => Sys2Proof.Machine.execLmpRead d s
  | .lmpClear d => Sys2Proof.Machine.execLmpClear d s
  | .fadeStep => Sys2Proof.Machine.execFadeStep s
  | .groupEnable who g w => Sys2Proof.Machine.execGroupEnable who g w s
  | .mtxFrame d => Sys2Proof.Machine.execMtxFrame d s
  | .mtxRead d => Sys2Proof.Machine.execMtxRead d s
  | .mtxClear d => Sys2Proof.Machine.execMtxClear d s
  | .matrixEnable who k => Sys2Proof.Machine.execMatrixEnable who k s
  | .matrixDisable who k => Sys2Proof.Machine.execMatrixDisable who k s
  | .matrixFrameStart rails volts => Sys2Proof.Machine.execMatrixFrameStart rails volts s
  | .matrixLineSwitch => Sys2Proof.Machine.execMatrixLineSwitch s
  | .vmxFault k vout => Sys2Proof.Machine.execVmxFault k vout s
  | .lineShortTrip k ix ma => Sys2Proof.Machine.execLineShortTrip k ix ma s
  | .columnShortTrip k j ma => Sys2Proof.Machine.execColumnShortTrip k j ma s
  | .matrixLineRestart who k m => Sys2Proof.Machine.execMatrixLineRestart who k m s
  | .matrixColumnRestart who k m => Sys2Proof.Machine.execMatrixColumnRestart who k m s
  | .pxScene d => Sys2Proof.Machine.execPxScene d s
  | .pxPatch d => Sys2Proof.Machine.execPxPatch d s
  | .pxLevel d => Sys2Proof.Machine.execPxLevel d s
  | .pxAsset d => Sys2Proof.Machine.execPxAsset d s
  | .pxAssetWriteDone => Sys2Proof.Machine.execPxAssetWriteDone s
  | .pxFrame d => Sys2Proof.Machine.execPxFrame d s
  | .pxZone d => Sys2Proof.Machine.execPxZone d s
  | .pxRead d => Sys2Proof.Machine.execPxRead d s
  | .pxClear d => Sys2Proof.Machine.execPxClear d s
  | .pxFsimg d => Sys2Proof.Machine.execPxFsimg d s
  | .pixelPortEnable who n => Sys2Proof.Machine.execPixelPortEnable who n s
  | .pixelPortDisable who n => Sys2Proof.Machine.execPixelPortDisable who n s
  | .pixelFrameStart n => Sys2Proof.Machine.execPixelFrameStart n s
  | .renderComplete n load tooMuch => Sys2Proof.Machine.execRenderComplete n load tooMuch s
  | .linkCycle n bad => Sys2Proof.Machine.execLinkCycle n bad s
  | .hello n ver => Sys2Proof.Machine.execHello n ver s
  | .info n bs => Sys2Proof.Machine.execInfo n bs s
  | .cal n bs => Sys2Proof.Machine.execCal n bs s
  | .flags n c flags => Sys2Proof.Machine.execFlags n c flags s
  | .temp n t0 t1 t2 => Sys2Proof.Machine.execTemp n t0 t1 t2 s
  | .status n errs flags => Sys2Proof.Machine.execStatus n errs flags s
  | .ack n code failed => Sys2Proof.Machine.execAck n code failed s
  | .helloTimeout n => Sys2Proof.Machine.execHelloTimeout n s
  | .linkupRetry n => Sys2Proof.Machine.execLinkupRetry n s
  | .backLinkLost n => Sys2Proof.Machine.execBackLinkLost n s
  | .diRead d => Sys2Proof.Machine.execDiRead d s
  | .doSet d => Sys2Proof.Machine.execDoSet d s
  | .svSet d => Sys2Proof.Machine.execSvSet d s
  | .dioClear d => Sys2Proof.Machine.execDioClear d s
  | .doRead d => Sys2Proof.Machine.execDoRead d s
  | .diEnable who n => Sys2Proof.Machine.execDiEnable who n s
  | .diDisable who n => Sys2Proof.Machine.execDiDisable who n s
  | .diSample n high => Sys2Proof.Machine.execDiSample n high s
  | .openWireCheck n mv => Sys2Proof.Machine.execOpenWireCheck n mv s
  | .diOverload n ua => Sys2Proof.Machine.execDiOverload n ua s
  | .diGroupOvertemp g tj => Sys2Proof.Machine.execDiGroupOvertemp g tj s
  | .doEnable who m => Sys2Proof.Machine.execDoEnable who m s
  | .doDisable who m => Sys2Proof.Machine.execDoDisable who m s
  | .doTimeout m => Sys2Proof.Machine.execDoTimeout m s
  | .doOverload m => Sys2Proof.Machine.execDoOverload m s
  | .doOverloadWaitEnd m => Sys2Proof.Machine.execDoOverloadWaitEnd m s
  | .doThermal m tj => Sys2Proof.Machine.execDoThermal m tj s
  | .doOnstateOpen m ua => Sys2Proof.Machine.execDoOnstateOpen m ua s
  | .svEnable who k on => Sys2Proof.Machine.execSvEnable who k on s
  | .svOverload k ua => Sys2Proof.Machine.execSvOverload k ua s
  | .svShortToBattery k mv => Sys2Proof.Machine.execSvShortToBattery k mv s
  | .svRetryEnd k => Sys2Proof.Machine.execSvRetryEnd k s
  | .svThermal k tj => Sys2Proof.Machine.execSvThermal k tj s
  | .svUndervoltage k mv limited => Sys2Proof.Machine.execSvUndervoltage k mv limited s
  | .catchOccurrence e detail => Sys2Proof.Machine.execCatchOccurrence e detail s
  | .catchRead d => Sys2Proof.Machine.execCatchRead d s
  | .catchClear d => Sys2Proof.Machine.execCatchClear d s
  | .catchForce d => Sys2Proof.Machine.execCatchForce d s
  | .catchInject d => Sys2Proof.Machine.execCatchInject d s
  | .catchForceRegWrite who ix w => Sys2Proof.Machine.execCatchForceRegWrite who ix w s
  | .catchInjWrite who w => Sys2Proof.Machine.execCatchInjWrite who w s
  | .catchInjaddrWrite who w => Sys2Proof.Machine.execCatchInjaddrWrite who w s
  | .catchCountClear who => Sys2Proof.Machine.execCatchCountClear who s
  | .catchLogClear who => Sys2Proof.Machine.execCatchLogClear who s
  | .canTx d => Sys2Proof.Machine.execCanTx d s
  | .netRxpost d => Sys2Proof.Machine.execNetRxpost d s
  | .netSleep d => Sys2Proof.Machine.execNetSleep d s
  | .netWake d => Sys2Proof.Machine.execNetWake d s
  | .linSched d => Sys2Proof.Machine.execLinSched d s
  | .linResp d => Sys2Proof.Machine.execLinResp d s
  | .ethTx d => Sys2Proof.Machine.execEthTx d s
  | .netRead d => Sys2Proof.Machine.execNetRead d s
  | .netClear d => Sys2Proof.Machine.execNetClear d s
  | .canEnable who n => Sys2Proof.Machine.execCanEnable who n s
  | .canDisable who n => Sys2Proof.Machine.execCanDisable who n s
  | .linEnable who n => Sys2Proof.Machine.execLinEnable who n s
  | .linDisable who n => Sys2Proof.Machine.execLinDisable who n s
  | .ethPortEnable who p cab => Sys2Proof.Machine.execEthPortEnable who p cab s
  | .ethPortDisable who p => Sys2Proof.Machine.execEthPortDisable who p s
  | .canFrameReceived n f => Sys2Proof.Machine.execCanFrameReceived n f s
  | .canFrameSent n e => Sys2Proof.Machine.execCanFrameSent n e s
  | .canTxTimeout n q => Sys2Proof.Machine.execCanTxTimeout n q s
  | .canBusError n tx eight lec => Sys2Proof.Machine.execCanBusError n tx eight lec s
  | .busOffRecoveryDone n => Sys2Proof.Machine.execBusOffRecoveryDone n s
  | .rxBufferTimeout ch => Sys2Proof.Machine.execRxBufferTimeout ch s
  | .busDiagMeasure ch v => Sys2Proof.Machine.execBusDiagMeasure ch v s
  | .linSlot n => Sys2Proof.Machine.execLinSlot n s
  | .linHeaderReceived n id dev => Sys2Proof.Machine.execLinHeaderReceived n id dev s
  | .linFrameReceived n data cks => Sys2Proof.Machine.execLinFrameReceived n data cks s
  | .linGotoSleep n => Sys2Proof.Machine.execLinGotoSleep n s
  | .linHeaderSilence n => Sys2Proof.Machine.execLinHeaderSilence n s
  | .ethFrameReceived p data => Sys2Proof.Machine.execEthFrameReceived p data s
  | .ethLinkUp p inv => Sys2Proof.Machine.execEthLinkUp p inv s
  | .ethLinkLoss p cab => Sys2Proof.Machine.execEthLinkLoss p cab s
  | .plcaBeaconTimeout p => Sys2Proof.Machine.execPlcaBeaconTimeout p s
  | .addressAgeOut mac => Sys2Proof.Machine.execAddressAgeOut mac s
  | .idleTimeout ch => Sys2Proof.Machine.execIdleTimeout ch s
  | .sleepCommit ch => Sys2Proof.Machine.execSleepCommit ch s
  | .awakemaxExpiry ch => Sys2Proof.Machine.execAwakemaxExpiry ch s
  | .wakeDetection ch seen => Sys2Proof.Machine.execWakeDetection ch seen s
  | .tc10SleepRequest p => Sys2Proof.Machine.execTc10SleepRequest p s
  | .tc10SleepAck p => Sys2Proof.Machine.execTc10SleepAck p s
  | .tc10SleepReject p => Sys2Proof.Machine.execTc10SleepReject p s
  | .gwRoute d => Sys2Proof.Machine.execGwRoute d s
  | .gwRead d => Sys2Proof.Machine.execGwRead d s
  | .gwStats d => Sys2Proof.Machine.execGwStats d s
  | .gwClear d => Sys2Proof.Machine.execGwClear d s
  | .gatewayEnable who => Sys2Proof.Machine.execGatewayEnable who s
  | .gatewayDisable who => Sys2Proof.Machine.execGatewayDisable who s
  | .keyDerivationComplete => Sys2Proof.Machine.execKeyDerivationComplete s
  | .chnRd d => Sys2Proof.Machine.execChnRd d s
  | .chnWr d => Sys2Proof.Machine.execChnWr d s
  | .chnLockseq d => Sys2Proof.Machine.execChnLockseq d s
  | .chnTopo d => Sys2Proof.Machine.execChnTopo d s
  | .enumStart who => Sys2Proof.Machine.execEnumStart who s
  | .standbyClaim who => Sys2Proof.Machine.execStandbyClaim who s
  | .headPromote who => Sys2Proof.Machine.execHeadPromote who s
  | .chainPortUp p wired => Sys2Proof.Machine.execChainPortUp p wired s
  | .chainPortDown p energy => Sys2Proof.Machine.execChainPortDown p energy s
  | .enumFrame p count ser => Sys2Proof.Machine.execEnumFrame p count ser s
  | .joinFrame p answer ser id => Sys2Proof.Machine.execJoinFrame p answer ser id s
  | .topoFrameSend order ring standby => Sys2Proof.Machine.execTopoFrameSend order ring standby s
  | .topoFrame p order ring standby => Sys2Proof.Machine.execTopoFrame p order ring standby s
  | .standbyTopoTimeout => Sys2Proof.Machine.execStandbyTopoTimeout s
  | .rdFrame src tid dw count => Sys2Proof.Machine.execRdFrame src tid dw count s
  | .wrFrame src tid dw data => Sys2Proof.Machine.execWrFrame src tid dw data s
  | .pwrFrame src tid dw data => Sys2Proof.Machine.execPwrFrame src tid dw data s
  | .descFrame src q dws payload => Sys2Proof.Machine.execDescFrame src q dws payload s
  | .lockFrame src tid ops => Sys2Proof.Machine.execLockFrame src tid ops s
  | .cplFrame c => Sys2Proof.Machine.execCplFrame c s
  | .evtFrame e typ src n time ws => Sys2Proof.Machine.execEvtFrame e typ src n time ws s
  | .dcplFrame q n dws data => Sys2Proof.Machine.execDcplFrame q n dws data s
  | .lrefFrame tid => Sys2Proof.Machine.execLrefFrame tid s
  | .noteFrame n q lstate => Sys2Proof.Machine.execNoteFrame n q lstate s
  | .w0RemoteAccess dw count data => Sys2Proof.Machine.execW0RemoteAccess dw count data s
  | .remoteAccessTimeout tid => Sys2Proof.Machine.execRemoteAccessTimeout tid s
  | .prefetchExpiry ix => Sys2Proof.Machine.execPrefetchExpiry ix s
  | .lockRetryTimeout tid => Sys2Proof.Machine.execLockRetryTimeout tid s
  | .lockTimeout => Sys2Proof.Machine.execLockTimeout s
  | .descriptorUnreachableTimeout q n => Sys2Proof.Machine.execDescriptorUnreachableTimeout q n s
  | .cdcClearPeak who => Sys2Proof.Machine.execCdcClearPeak who s
  | .speedMeasurement v => Sys2Proof.Machine.execSpeedMeasurement v s
  | .islandClockRestart ix => Sys2Proof.Machine.execIslandClockRestart ix s
  | .islandWakeFailure x => Sys2Proof.Machine.execIslandWakeFailure x s
  | .mov x rd rs => Sys2Proof.Machine.execMov x rd rs s
  | .add x rd rs rt => Sys2Proof.Machine.execAdd x rd rs rt s
  | .adc x rd rs rt => Sys2Proof.Machine.execAdc x rd rs rt s
  | .sub x rd rs rt => Sys2Proof.Machine.execSub x rd rs rt s
  | .sbc x rd rs rt => Sys2Proof.Machine.execSbc x rd rs rt s
  | .adds x rd rs rt => Sys2Proof.Machine.execAdds x rd rs rt s
  | .subs x rd rs rt => Sys2Proof.Machine.execSubs x rd rs rt s
  | .neg x rd rs => Sys2Proof.Machine.execNeg x rd rs s
  | .negs x rd rs => Sys2Proof.Machine.execNegs x rd rs s
  | .abs x rd rs => Sys2Proof.Machine.execAbs x rd rs s
  | .cmp x rs rt => Sys2Proof.Machine.execCmp x rs rt s
  | .tst x rs rt => Sys2Proof.Machine.execTst x rs rt s
  | .and x rd rs rt => Sys2Proof.Machine.execAnd x rd rs rt s
  | .or x rd rs rt => Sys2Proof.Machine.execOr x rd rs rt s
  | .xor x rd rs rt => Sys2Proof.Machine.execXor x rd rs rt s
  | .not x rd rs => Sys2Proof.Machine.execNot x rd rs s
  | .lsl x rd rs rt => Sys2Proof.Machine.execLsl x rd rs rt s
  | .lsr x rd rs rt => Sys2Proof.Machine.execLsr x rd rs rt s
  | .asr x rd rs rt => Sys2Proof.Machine.execAsr x rd rs rt s
  | .ror x rd rs rt => Sys2Proof.Machine.execRor x rd rs rt s
  | .clz x rd rs => Sys2Proof.Machine.execClz x rd rs s
  | .sextb x rd rs => Sys2Proof.Machine.execSextb x rd rs s
  | .sexth x rd rs => Sys2Proof.Machine.execSexth x rd rs s
  | .mul x rd rs rt => Sys2Proof.Machine.execMul x rd rs rt s
  | .mulhu x rd rs rt => Sys2Proof.Machine.execMulhu x rd rs rt s
  | .mulhs x rd rs rt => Sys2Proof.Machine.execMulhs x rd rs rt s
  | .divu x rd rs rt => Sys2Proof.Machine.execDivu x rd rs rt s
  | .divs x rd rs rt => Sys2Proof.Machine.execDivs x rd rs rt s
  | .remu x rd rs rt => Sys2Proof.Machine.execRemu x rd rs rt s
  | .rems x rd rs rt => Sys2Proof.Machine.execRems x rd rs rt s
  | .mins x rd rs rt => Sys2Proof.Machine.execMins x rd rs rt s
  | .maxs x rd rs rt => Sys2Proof.Machine.execMaxs x rd rs rt s
  | .minu x rd rs rt => Sys2Proof.Machine.execMinu x rd rs rt s
  | .maxu x rd rs rt => Sys2Proof.Machine.execMaxu x rd rs rt s
  | .movad x rd rs => Sys2Proof.Machine.execMovad x rd rs s
  | .movda x rd rs => Sys2Proof.Machine.execMovda x rd rs s
  | .movaa x rd rs => Sys2Proof.Machine.execMovaa x rd rs s
  | .addad x rd rs rt => Sys2Proof.Machine.execAddad x rd rs rt s
  | .sel x rd rs rt cond => Sys2Proof.Machine.execSel x rd rs rt cond s
  | .addi x rd rs ix => Sys2Proof.Machine.execAddi x rd rs ix s
  | .andi x rd rs ix => Sys2Proof.Machine.execAndi x rd rs ix s
  | .ori x rd rs ix => Sys2Proof.Machine.execOri x rd rs ix s
  | .xori x rd rs ix => Sys2Proof.Machine.execXori x rd rs ix s
  | .movi x rd ix => Sys2Proof.Machine.execMovi x rd ix s
  | .shi x rd rs kind count => Sys2Proof.Machine.execShi x rd rs kind count s
  | .cmpi x rs ix => Sys2Proof.Machine.execCmpi x rs ix s
  | .adda x rd rs ix => Sys2Proof.Machine.execAdda x rd rs ix s
  | .mfc x rd cr stale => Sys2Proof.Machine.execMfc x rd cr stale s
  | .mtc x cr rs => Sys2Proof.Machine.execMtc x cr rs s
  | .iclaimRead x rd => Sys2Proof.Machine.execIclaimRead x rd s
  | .timelRead x rd stale => Sys2Proof.Machine.execTimelRead x rd stale s
  | .csigWrite x rs => Sys2Proof.Machine.execCsigWrite x rs s
  | .timerCompareWrite x upper rs => Sys2Proof.Machine.execTimerCompareWrite x upper rs s
  | .ucdatahWrite x rs => Sys2Proof.Machine.execUcdatahWrite x rs s
  | .cxdefWrite x k rs => Sys2Proof.Machine.execCxdefWrite x k rs s
  | .cxlockWrite x rs => Sys2Proof.Machine.execCxlockWrite x rs s
  | .mac x n rs rt => Sys2Proof.Machine.execMac x n rs rt s
  | .macs x n rs rt => Sys2Proof.Machine.execMacs x n rs rt s
  | .msu x n rs rt => Sys2Proof.Machine.execMsu x n rs rt s
  | .msus x n rs rt => Sys2Proof.Machine.execMsus x n rs rt s
  | .macu x n rs rt => Sys2Proof.Machine.execMacu x n rs rt s
  | .mula x n rs rt => Sys2Proof.Machine.execMula x n rs rt s
  | .aclr x n => Sys2Proof.Machine.execAclr x n s
  | .ard x rd n sh => Sys2Proof.Machine.execArd x rd n sh s
  | .ards x rd n sh => Sys2Proof.Machine.execArds x rd n sh s
  | .ardh x rd n => Sys2Proof.Machine.execArdh x rd n s
  | .ardg x rd n => Sys2Proof.Machine.execArdg x rd n s
  | .awr x n rs rt rg => Sys2Proof.Machine.execAwr x n rs rt rg s
  | .ld x size rd ab e => Sys2Proof.Machine.execLd x size rd ab e s
  | .lds x size rd ab e => Sys2Proof.Machine.execLds x size rd ab e s
  | .st x size rd ab e => Sys2Proof.Machine.execSt x size rd ab e s
  | .lda x ad ab e => Sys2Proof.Machine.execLda x ad ab e s
  | .sta x ad ab e => Sys2Proof.Machine.execSta x ad ab e s
  | .b x cond t => Sys2Proof.Machine.execB x cond t s
  | .bl x cond t => Sys2Proof.Machine.execBl x cond t s
  | .jr x link rs => Sys2Proof.Machine.execJr x link rs s
  | .loop x k f => Sys2Proof.Machine.execLoop x k f s
  | .rep x f => Sys2Proof.Machine.execRep x f s
  | .nopInstruction x => Sys2Proof.Machine.execNopInstruction x s
  | .trap x n => Sys2Proof.Machine.execTrap x n s
  | .brk x => Sys2Proof.Machine.execBrk x s
  | .rete x => Sys2Proof.Machine.execRete x s
  | .wait x => Sys2Proof.Machine.execWait x s
  | .sync x => Sys2Proof.Machine.execSync x s
  | .cx x k a par => Sys2Proof.Machine.execCx x k a par s
  | .interruptTaken c => Sys2Proof.Machine.execInterruptTaken c s
  | .timerCompare c => Sys2Proof.Machine.execTimerCompare c s
  | .coreRun who c => Sys2Proof.Machine.execCoreRun who c s
  | .watchdogEnable who => Sys2Proof.Machine.execWatchdogEnable who s
  | .watchdogKick who key => Sys2Proof.Machine.execWatchdogKick who key s
  | .watchdogExpiry => Sys2Proof.Machine.execWatchdogExpiry s
  | .hepCrstWrite who w => Sys2Proof.Machine.execHepCrstWrite who w s
  | .supervisorHashComplete flips => Sys2Proof.Machine.execSupervisorHashComplete flips s
  | .aesEnc d fault => Sys2Proof.Machine.execAesEnc d fault s
  | .aesDec d fault => Sys2Proof.Machine.execAesDec d fault s
  | .aesCmac d fault => Sys2Proof.Machine.execAesCmac d fault s
  | .sha d ctx fault => Sys2Proof.Machine.execSha d ctx fault s
  | .ecdsaSign d fault => Sys2Proof.Machine.execEcdsaSign d fault s
  | .ecdsaPub d => Sys2Proof.Machine.execEcdsaPub d s
  | .ecdsaVerify d => Sys2Proof.Machine.execEcdsaVerify d s
  | .rngRead d => Sys2Proof.Machine.execRngRead d s
  | .keyFlush d => Sys2Proof.Machine.execKeyFlush d s
  | .fwRingProducerWrite who w => Sys2Proof.Machine.execFwRingProducerWrite who w s
  | .cipherDisable who => Sys2Proof.Machine.execCipherDisable who s
  | .selfTestComplete u pass => Sys2Proof.Machine.execSelfTestComplete u pass s
  | .entropyTestFailure t => Sys2Proof.Machine.execEntropyTestFailure t s
  | .acsEnrol d => Sys2Proof.Machine.execAcsEnrol d s
  | .acsRevoke d => Sys2Proof.Machine.execAcsRevoke d s
  | .acsCode d => Sys2Proof.Machine.execAcsCode d s
  | .acsWithdraw d => Sys2Proof.Machine.execAcsWithdraw d s
  | .acsOwnlock d => Sys2Proof.Machine.execAcsOwnlock d s
  | .acsRead d => Sys2Proof.Machine.execAcsRead d s
  | .acsClear d => Sys2Proof.Machine.execAcsClear d s
  | .accessEnable who => Sys2Proof.Machine.execAccessEnable who s
  | .accessCycle => Sys2Proof.Machine.execAccessCycle s
  | .disc slot void tid anchor => Sys2Proof.Machine.execDisc slot void tid anchor s
  | .udisc slot void tid => Sys2Proof.Machine.execUdisc slot void tid s
  | .resp tid nt trep pt eps tround stsq arr => Sys2Proof.Machine.execResp tid nt trep pt eps tround stsq arr s
  | .uresp tid nt rssi pt start => Sys2Proof.Machine.execUresp tid nt rssi pt start s
  | .responseTimeout => Sys2Proof.Machine.execResponseTimeout s
  | .stillPollBurst ans => Sys2Proof.Machine.execStillPollBurst ans s
  | .lockoutEnd => Sys2Proof.Machine.execLockoutEnd s
  | .failureExpiry => Sys2Proof.Machine.execFailureExpiry s
  | .levelReset => Sys2Proof.Machine.execLevelReset s
  | .enrolTimeout => Sys2Proof.Machine.execEnrolTimeout s
  | .codeGroupTimeout => Sys2Proof.Machine.execCodeGroupTimeout s
  | .authWindowExpiry slot => Sys2Proof.Machine.execAuthWindowExpiry slot s
  | .releaseMessageTick => Sys2Proof.Machine.execReleaseMessageTick s
  | .releaseIgnEnd => Sys2Proof.Machine.execReleaseIgnEnd s
  | .accessRecordSave => Sys2Proof.Machine.execAccessRecordSave s
  | .antennaFault kind k => Sys2Proof.Machine.execAntennaFault kind k s
  | .bootMeas d => Sys2Proof.Machine.execBootMeas d s
  | .bootCert d => Sys2Proof.Machine.execBootCert d s
  | .updBegin d fail => Sys2Proof.Machine.execUpdBegin d fail s
  | .updWrite d fail => Sys2Proof.Machine.execUpdWrite d fail s
  | .updFinish d => Sys2Proof.Machine.execUpdFinish d s
  | .updActivate d => Sys2Proof.Machine.execUpdActivate d s
  | .updCommit d => Sys2Proof.Machine.execUpdCommit d s
  | .updAbort d => Sys2Proof.Machine.execUpdAbort d s
  | .updStatus d => Sys2Proof.Machine.execUpdStatus d s
  | .activationReset => Sys2Proof.Machine.execActivationReset s
  | .trialTimeout => Sys2Proof.Machine.execTrialTimeout s
  | .sessionTimeout => Sys2Proof.Machine.execSessionTimeout s
  | .guardTimer kind => Sys2Proof.Machine.execGuardTimer kind s
  | .recoveryRequest who key => Sys2Proof.Machine.execRecoveryRequest who key s
  | .get => Sys2Proof.Machine.execGet s
  | .regRd good off count => Sys2Proof.Machine.execRegRd good off count s
  | .mladetDesc good fail dws payload => Sys2Proof.Machine.execMladetDesc good fail dws payload s
  | .recReq good payload => Sys2Proof.Machine.execRecReq good payload s
  | .debugConnect => Sys2Proof.Machine.execDebugConnect s
  | .pairRead d => Sys2Proof.Machine.execPairRead d s
  | .pairClear d => Sys2Proof.Machine.execPairClear d s
  | .pairYield d => Sys2Proof.Machine.execPairYield d s
  | .pairEnable who => Sys2Proof.Machine.execPairEnable who s
  | .pairDisable who => Sys2Proof.Machine.execPairDisable who s
  | .pairHello h => Sys2Proof.Machine.execPairHello h s
  | .helloTimeoutPair recent => Sys2Proof.Machine.execHelloTimeoutPair recent s
  | .pairSnapshotSend => Sys2Proof.Machine.execPairSnapshotSend s
  | .pairSnapshot l crcOk => Sys2Proof.Machine.execPairSnapshot l crcOk s
  | .pairHeartbeatSend => Sys2Proof.Machine.execPairHeartbeatSend s
  | .pairHeartbeat role weir missed offs => Sys2Proof.Machine.execPairHeartbeat role weir missed offs s
  | .heartbeatLoss recent => Sys2Proof.Machine.execHeartbeatLoss recent s
  | .bye => Sys2Proof.Machine.execBye s
  | .gaugeRead d => Sys2Proof.Machine.execGaugeRead d s
  | .gaugeLog d => Sys2Proof.Machine.execGaugeLog d s
  | .snapshotSend => Sys2Proof.Machine.execSnapshotSend s
  | .snapshotArrival => Sys2Proof.Machine.execSnapshotArrival s
  | .snapshotTimeout => Sys2Proof.Machine.execSnapshotTimeout s
  | .gsupLoss => Sys2Proof.Machine.execGsupLoss s
  | .gsupReturn => Sys2Proof.Machine.execGsupReturn s
  | .holdupStore => Sys2Proof.Machine.execHoldupStore s
  | .holdupEnd => Sys2Proof.Machine.execHoldupEnd s
  | .mdPowerUp romOk bad => Sys2Proof.Machine.execMdPowerUp romOk bad s
  | .meterIntegrate ma v => Sys2Proof.Machine.execMeterIntegrate ma v s
  | .conditionEvaluation gin => Sys2Proof.Machine.execConditionEvaluation gin s
  | .ident crcOk => Sys2Proof.Machine.execIdent crcOk s
  | .read crcOk => Sys2Proof.Machine.execRead crcOk s
  | .log crcOk seq count => Sys2Proof.Machine.execLog crcOk seq count s
  | .param crcOk set => Sys2Proof.Machine.execParam crcOk set s
  | .seal crcOk crc => Sys2Proof.Machine.execSeal crcOk crc s
  | .supplyBelowRetention => Sys2Proof.Machine.execSupplyBelowRetention s
  | .boostReadyChange j vout => Sys2Proof.Machine.execBoostReadyChange j vout s
  | .pairLinkUp => Sys2Proof.Machine.execPairLinkUp s
  | .pairLinkDown => Sys2Proof.Machine.execPairLinkDown s
  | .frameResend p => Sys2Proof.Machine.execFrameResend p s
  | .aerUncorrectableError => Sys2Proof.Machine.execAerUncorrectableError s
  | .linkL1Entry => Sys2Proof.Machine.execLinkL1Entry s
  | .dimeasUpdate n vin => Sys2Proof.Machine.execDimeasUpdate n vin s

end Sys2Proof.Machine
end

