-- ==== Sys2Proof/Safety.lean ====
section
/-! DEFINITION. The terms in which statements about the block are made: states in which nothing is under way, what
an access and a descriptor meet, and what an answer to a descriptor is. -/
namespace Sys2Proof.Machine
/-- Registers that a recorded occurrence can change: CATCH_STAT, CATCH_COUNT, CATCH_LOGPTR, CATCH_STICKY, CATCH_LOG,
HQ_EQSTAT and HQ_EQIDX; CDC_SUM and CDC_XSTAT, as it passes a crossing (R459); and CDC_ISTAT[3], as an event entry or an
MSI-X message restarts the PIPE clock (R465). -/
def recordReg (o : Nat) : Bool :=
  decide (0x2004 ≤ o ∧ o < 0x2010) || decide (0x2020 ≤ o ∧ o < 0x2040) || decide (0x2800 ≤ o ∧ o < 0x2C00) ||
  (decide (0x38800 ≤ o ∧ o < 0x38900) && (o % 32 == 0xC || o % 32 == 0x10)) ||
  decide (0x3A008 ≤ o ∧ o < 0x3A010) || decide (0x3A100 ≤ o ∧ o < 0x3A200) || o == 0x3A04C

/-- A part of a block beside its registers, as fine as statements about what a command leaves unchanged need it. -/
inductive Part where
  | mem | ecc | pw | dieq | lsBy | vlvFault | lampLimits | pxHeld | hot | kept | net | ciph | acs | flash | boot
  | pair | gauge | chn | weir | queues | flights | mail
  | chan (p : Nat) | fb (k : Nat) | valve (n : Nat) | table (t : Nat) | fade (n : Nat) | mtx (m : Nat) | px (n : Nat)
  | di (n : Nat) | dOut (n : Nat) | sv (n : Nat) | bus (n : Nat) | core (c : Nat)
  deriving DecidableEq, Repr

/-- The part is the same in both blocks. Of the host queues, what the event queues and their messages hold is not
looked at, of the chain not the frames that its ports keep, and of a core not its pending sources: recorded occurrences
change them. -/
def Part.Same (o b : Block) : Part → Prop
  | .mem => b.mem = o.mem
  | .ecc => b.badEcc = o.badEcc
  | .pw => b.pw = o.pw
  | .dieq => b.dieq = o.dieq
  | .lsBy => b.vlv.lsBy = o.vlv.lsBy ∧ b.vlv.offAt = o.vlv.offAt
  | .vlvFault => b.vlv.fault = o.vlv.fault ∧ b.vlv.low = o.vlv.low
  | .lampLimits => b.lmp.lows = o.lmp.lows ∧ b.lmp.highs = o.lmp.highs
  | .pxHeld => b.px.held = o.px.held
  | .hot => b.dio.hot = o.dio.hot ∧ b.dio.above = o.dio.above
  | .kept => b.net.kept = o.net.kept
  | .net => b.net.mac = o.net.mac ∧ b.net.num = o.net.num ∧ b.net.exc = o.net.exc ∧ b.net.seq = o.net.seq ∧
      b.net.looks = o.net.looks ∧ b.net.lookAt = o.net.lookAt
  | .ciph => b.ciph = o.ciph
  | .acs => b.acs = o.acs
  | .flash => b.flash = o.flash
  | .boot => b.boot = o.boot
  | .pair => b.pair = o.pair
  | .gauge => b.gauge = o.gauge
  | .chn => { b.chn with links := o.chn.links } = o.chn
  | .weir => b.weir = o.weir
  | .queues => b.hq.prod = o.hq.prod ∧ b.hq.chead = o.hq.chead ∧ b.hq.cphase = o.hq.cphase ∧ b.hq.coal = o.hq.coal ∧
      b.hq.timer = o.hq.timer ∧ b.hq.msix = o.hq.msix ∧ b.hq.msixOn = o.hq.msixOn ∧ b.hq.turn = o.hq.turn ∧ b.hq.pci = o.hq.pci
  | .flights => b.hq.flights = o.hq.flights
  | .mail => b.hq.mbox = o.hq.mbox
  | .chan p => Tab.get {} b.chan p = Tab.get {} o.chan p
  | .fb k => Tab.get {} b.fb k = Tab.get {} o.fb k
  | .valve n => Tab.get {} b.vlv.valve n = Tab.get {} o.vlv.valve n
  | .table t => Tab.get {} b.vlv.table t = Tab.get {} o.vlv.table t
  | .fade n => Tab.get none b.lmp.fade n = Tab.get none o.lmp.fade n
  | .mtx m => Tab.get {} b.lmp.port m = Tab.get {} o.lmp.port m
  | .px n => Tab.get {} b.px.port n = Tab.get {} o.px.port n
  | .di n => Tab.get {} b.dio.di n = Tab.get {} o.dio.di n
  | .dOut n => Tab.get {} b.dio.out n = Tab.get {} o.dio.out n
  | .sv n => Tab.get {} b.dio.sv n = Tab.get {} o.dio.sv n
  | .bus n => Tab.get {} b.net.ch n = Tab.get {} o.net.ch n
  | .core c => Tab.get {} b.core c = { Tab.get {} o.core c with irq := (Tab.get {} b.core c).irq }

/-- A register of a core. A15 is `psp` at privileged and `usp` at user level; the last parts stand for the timer
compare pair, for one memory protection region, for the store with its index and staged word, and for the loop counts. -/
inductive CorePart where
  | d (n : Nat) | a (n : Nat) | psp | usp | acc (n : Nat) | ls (k : Nat) | le (k : Nat) | lc | rep | pc | sr | vbar | cause | far
  | ien | csigin | mbx | divcfg | timeh | tcmpl | tcmph | mpuctl | mpubase (i : Nat) | mpulim (i : Nat) | ucaddr | ucdl | ucdh | store
  | cxlock | cxdef (k : Nat)
  deriving DecidableEq, Repr

/-- The register is the same in both states of the core. -/
def CorePart.Same (g h : HepCore) : CorePart → Prop
  | .d n => h.getD n = g.getD n
  | .a n => Tab.get 0 h.a n = Tab.get 0 g.a n
  | .psp => h.psp = g.psp
  | .usp => h.usp = g.usp
  | .acc n => h.getAcc n = g.getAcc n
  | .ls k => Tab.get 0 h.ls k = Tab.get 0 g.ls k
  | .le k => Tab.get 0 h.le k = Tab.get 0 g.le k
  | .lc => h.lc = g.lc
  | .rep => h.rep = g.rep
  | .pc => h.pc = g.pc
  | .sr => h.sr = g.sr
  | .vbar => h.vbar = g.vbar
  | .cause => h.cause = g.cause
  | .far => h.far = g.far
  | .ien => h.ien = g.ien
  | .csigin => h.csigin = g.csigin
  | .mbx => h.mbx = g.mbx
  | .divcfg => h.divcfg = g.divcfg
  | .timeh => h.timeh = g.timeh
  | .tcmpl => h.tcmpl = g.tcmpl
  | .tcmph => h.tcmph = g.tcmph
  | .mpuctl => h.mpuctl = g.mpuctl
  | .mpubase i => Tab.get 0 h.mpubase i = Tab.get 0 g.mpubase i
  | .mpulim i => Tab.get 0 h.mpulim i = Tab.get 0 g.mpulim i
  | .ucaddr => h.ucaddr = g.ucaddr
  | .ucdl => h.ucdl = g.ucdl
  | .ucdh => h.ucdh = g.ucdh
  | .store => h.ustore = g.ustore
  | .cxlock => h.cxlock = g.cxlock
  | .cxdef k => Tab.get 0 h.cxdef k = Tab.get 0 g.cxdef k

/-- The register that An names at the level of h (R477). -/
def CorePart.ofA (h : HepCore) (n : Nat) : CorePart := if n = 15 then (if h.priv then .psp else .usp) else .a n

/-- SR with these bits, and its other bits as before. -/
def srBits (fl : List (Nat × Bool)) (sr sr' : Word) : Bool :=
  (List.range 32).all fun i => sr'.getLsbD i == (fl.lookup i).getD (sr.getLsbD i)

/-- A value that 32 bits hold as signed. -/
def fits (i : Int) : Bool := decide (-2147483648 ≤ i ∧ i ≤ 2147483647)

/-- A value saturated to 32 bits. -/
def clamp32 (i : Int) : Word := BitVec.ofInt 32 (max (-2147483648) (min 2147483647 i))

/-- What an addressing mode adds to its base register (R527). -/
def Ea.step : Ea → Word
  | .offset _ | .indexed _ => 0
  | .post o | .pre o => o.val

/-- A core without its core signals and its pending sources. -/
def HepCore.unsignalled (h : HepCore) : HepCore := { h with csigin := 0, irq := [] }

/-- Z and N of a result (R518). -/
def flagZN (v : Word) : List (Nat × Bool) := [(9, v == 0), (10, v.getLsbD 31)]

/-- The offsets of all registers of an array. -/
def Reg.offs (r : Reg) : List Nat := (List.range r.count).map r.at

/-- The offsets of the registers of the pair of channels that n lies in, and of four registers from n on. -/
def Reg.pair (r : Reg) (n : Nat) : List Nat := [r.at (n / 2 * 2), r.at (n / 2 * 2 + 1)]
def Reg.four (r : Reg) (n : Nat) : List Nat := [r.at n, r.at (n + 1), r.at (n + 2), r.at (n + 3)]

/-- The offsets of all registers of some arrays. -/
def offsOf (l : List Reg) : List Nat := l.flatMap Reg.offs

/-- Registers that go together in statements about what a command leaves unchanged: those of the cipher, of a queue's
host side, of the firmware banks and the update session, of the values that a read brings up to date, and of the
outputs that a pair of modules takes over or gives up. -/
def Regs.cipher : List Reg := [R.CIPH_CNT, R.CIPH_RNG, R.CIPH_STAT, R.KEY_CACHE, R.KEY_CCNT, R.KEY_STAT, R.PKE_STAT]
def Regs.host : List Reg :=
  [R.HQ_CQBASE, R.HQ_CQBASEH, R.HQ_EQBASE, R.HQ_EQBASEH, R.HQ_EQCFG, R.HQ_LINK, R.HQ_MBXSTAT, R.HQ_QCFG, R.HQ_QCOAL,
    R.HQ_QIDX, R.HQ_QSTAT, R.HQ_SQBASE, R.HQ_SQBASEH]
def Regs.staged : List Reg := [R.BOOT_BANK, R.BOOT_FLOOR, R.UPD_RCVD, R.UPD_STAGED, R.UPD_STAT, R.UPD_SVER]
def Regs.current : List Reg :=
  [R.ACS_LOCK, R.BST_TBASE0, R.BST_TBASE1, R.CDC_SUM, R.CDC_XSTAT, R.CIPH_LOAD, R.GAUGE_LOGWIN, R.GW_LOAD,
    R.HEP_SWDSTAT, R.PAIR_STAT, R.PWR_RTC0, R.PWR_RTC1, R.PXL_LOAD, R.UPD_STAT, R.UPD_TRIAL]
def Regs.outputs : List Reg :=
  [R.BST_BSTAT, R.HB_CMD, R.HB_FBSTAT, R.HB_STAT, R.HSW_CMD, R.HSW_STAT, R.LMP_FADE, R.LMP_LEVEL, R.LMP_TARGET,
    R.VLV_COUNT, R.VLV_MEAS, R.VLV_STAT, R.VLV_TSTAT]
def Regs.mirrored : List Reg :=
  Regs.outputs ++ [R.DIO_DOCMD, R.DIO_DOSTAT, R.DIO_SVCFG, R.DIO_SVSTAT, R.HB_WINPOS, R.LMP_CFG, R.LMP_GRP, R.VLV_PROFA,
    R.VLV_PROFB, R.VLV_PROFC]

/-- The channels and the fades of the pair of switches that p lies in. -/
def Part.chanPair (p : Nat) : List Part := [.chan (p / 2 * 2), .chan (p / 2 * 2 + 1)]
def Part.fadePair (p : Nat) : List Part := [.fade (p / 2 * 2), .fade (p / 2 * 2 + 1)]

/-- All parts of a kind. -/
def Part.chans : List Part := (List.range 112).map Part.chan
def Part.fbs : List Part := (List.range 8).map Part.fb
def Part.valves : List Part := (List.range 32).map Part.valve
def Part.tables : List Part := (List.range 16).map Part.table
def Part.fades : List Part := (List.range 112).map Part.fade
def Part.mtxs : List Part := (List.range 4).map Part.mtx
def Part.pxs : List Part := (List.range 16).map Part.px
def Part.dis : List Part := (List.range 64).map Part.di
def Part.dOuts : List Part := (List.range 16).map Part.dOut
def Part.svs : List Part := (List.range 4).map Part.sv
def Part.buses : List Part := (List.range 64).map Part.bus
def Part.cores : List Part := (List.range 15).map Part.core
def Part.outputs : List Part := Part.chans ++ Part.fades ++ Part.fbs ++ Part.tables ++ Part.valves

/-- What the completion of descriptor d can change: of a host queue, its list and state and a running chain of
updates; of another node, what is on its way on the chain; of the firmware ring, memory (R393, R557, R618). -/
def Desc.regs (d : Desc) : List Nat := match d.src with
  | .queue q => R.HQ_QSTAT.at q.val :: R.UPD_CHAIN.offs
  | .node _ _ => []
  | .fwRing _ => R.CATCH_INJ.offs
def Desc.parts (d : Desc) : List Part := match d.src with
  | .queue _ => [.flights]
  | .node _ _ => [.chn]
  | .fwRing _ => [.mem, .ecc, .ciph]

/-- What the completion of any descriptor can change. -/
def Regs.answers : List Reg := [R.HQ_QSTAT, R.UPD_CHAIN, R.CATCH_INJ]
def Part.answers : List Part := [.flights, .chn, .mem, .ecc, .ciph]

namespace Block

/-- Nothing is left to carry out or to watch at the end of a command: no reset is due, the gauge window shows RUN and
the watch of R649 is up to date, and no core waits. -/
def Calm (b : Block) : Prop :=
  b.catchm.due = [] ∧ b.pw.gaugeOff = false ∧ b.getF F.GAUGE_STAT_STATE 0 = 1 ∧ ∀ c, c < 15 → b.coreState c ≠ 3

/-- Nothing that a command began is left to carry out, and no core that waits with IE = 0 has a line that would wake it
(R532). -/
def Rested (b : Block) : Prop :=
  b.catchm.due = [] ∧ ∀ c, c < 15 → b.coreState c = 3 → (b.hc c).sr.getLsbD 1 = false → b.lineReady c = none

/-- The catchment only records: no event source is of class F, and none has an action beyond LOG, INT and EVENT. -/
def Tame (b : Block) : Prop :=
  ∀ e, e < 256 → b.getF F.CATCH_SRC_CLASS e ≤ 1 ∧ b.getF F.CATCH_SRC_ACT e < 8

/-- No reset runs and the module is awake. -/
abbrev Awake (b : Block) : Prop := b.pw.inReset = .none ∧ b.pw.still = .awake

/-- The pending counts of the crossings leave room for the occurrences of a command (R459). -/
abbrev Uncrowded (b : Block) : Prop := ∀ x, x < 56 → b.getF F.CDC_XSTAT_PEND x < 128

/-- The module is awake, nothing is left to do, the catchment runs and only records, and the crossings have room. -/
def Ready (b : Block) : Prop := b.Calm ∧ b.Tame ∧ b.Awake ∧ b.pg 1 = true ∧ b.Uncrowded

/-- The sticky bit of EVe is set (R305). -/
abbrev HasEvent (e : Nat) (b : Block) : Prop := bit (b.rd R.CATCH_STICKY (e / 32)) (e % 32) = true

/-- A memory in canonical form. -/
abbrev MemWf (b : Block) : Prop := Mem.wf b.mem = true

/-- An aligned 32-bit write of `who` at this offset reaches its register (R708), and no locked sequence holds the
register space. -/
abbrev CanWrite (who : Who) (off : Nat) (b : Block) : Prop := b.spaceHeld = false ∧ b.accessCause who off 4 true = none

/-- The same for a read. -/
abbrev CanRead (who : Who) (off : Nat) (b : Block) : Prop := b.spaceHeld = false ∧ b.accessCause who off 4 false = none

/-- The module executes a descriptor: its turn at the unit has come (R403), the module is not in Recovery, the engine of the opcode has
firmware, and no engine of the descriptor is held or has been reset since the dispatch (R142). -/
abbrev Executes (d : Desc) (b : Block) : Prop :=
  (∀ direct, b.ahead direct d = false) ∧ b.getF F.PWR_STATE_STATE 0 ≠ 4 ∧ b.engineDead d.opcode = false ∧ b.waits d = false ∧ b.goneOf d = []

/-- Frames that have gone out of the chain ports, and those that wait there for a buffer of the neighbour. -/
def sentFrames (b : Block) : List Frame :=
  (b.out.filterMap fun o => match o with
    | .frame _ f _ => some f
    | _ => none) ++ b.chn.links.flatMap fun e => e.2.queue

/-- The outcome that the last CPL frame to node n with number q reports, with the payload of the DCPL frames before it
(R437). -/
def outcomeTo (b : Block) (n q : Nat) : Option Compl :=
  let mine := b.sentFrames.filter fun f => f.dst == n && f.tid == q
  let bytes := (mine.filter fun f => f.typ == Fr.dcpl).flatMap fun f => f.data.flatMap fun w => leBytes 4 w.toNat
  ((mine.filter fun f => f.typ == Fr.cpl).getLast?).map fun f =>
    let v (i : Nat) : Nat := (f.data.getD i 0).toNat
    { status := v 0, cw2 := v 1, cw3 := v 2, data := (bytes.drop (bytes.length - (v 3 + 3) / 4 * 4)).take (v 3) }

/-- A completion of descriptor d that `ok` accepts stands where its source looks for it: finished in the list of its
host queue, or sent to the node it came from, which puts the output of a cipher descriptor where that descriptor says
(R563). The firmware ring's completions go to memory (R557) and are not looked
for here. -/
def answered (d : Desc) (ok : Compl → Bool) (b : Block) : Bool := match d.src with
  | .queue q => b.hq.flights.any fun f => f.q == q.val && f.desc.dws == d.dws && (match f.stage with
      | .done c => ok c
      | _ => false)
  | .node n q => (b.outcomeTo n.val q.val).any fun c => ok { c with addr := if 0x90 ≤ d.opcode ∧ d.opcode ≤ 0x95 then some d.outAddr else none }
  | .fwRing _ => true

/-- A frame that `ok` accepts has gone out of port p with its CRC, or waits there for a buffer of the neighbour (R425,
R428). -/
def leaves (p : Nat) (ok : Frame → Bool) (b : Block) : Bool :=
  (b.out.any fun o => match o with
    | .frame q f crc => q == p && crc == frameCrc f && ok f
    | _ => false) || (b.linkVc p 0).queue.any ok || (b.linkVc p 1).queue.any ok

/-- Block b differs from o at most in these registers, in these parts and in what recorded occurrences change: the
words of CATCH_STAT, CATCH_COUNT, CATCH_LOGPTR, CATCH_STICKY, CATCH_LOG, HQ_EQSTAT, HQ_EQIDX, CDC_SUM and CDC_XSTAT, the log's own numbers,
the event queues, pending interrupts, what has been sent out, and the number of open values taken. -/
def Beside (l : List Nat) (ps : List Part) (o b : Block) : Prop :=
  (∀ d off, off ∉ l → recordReg off = false → Tab.get d b.regs off = Tab.get d o.regs off) ∧ ∀ p, p ∉ ps → p.Same o b

/-- The core of an instruction. -/
abbrev cpu (x : Exe) (b : Block) : HepCore := b.hc (hcOf x)

/-- The core of x runs, the fetch of an instruction of so many words goes through, no word of it lies in the register
space, the halves of the supervisor pair agree, and the encoding is a listed one. -/
def fetches (x : Exe) (words : Nat) (b : Block) : Bool :=
  b.coreReady (hcOf x) && !(hcOf x == 0 && x.diff) && !x.bad &&
  ((List.range words).all fun i => match spot (hcOf x) ((b.cpu x).pc.toNat + 4 * i) with
    | .regs _ => false
    | _ => true) &&
  match b.fetchWords (hcOf x) (b.cpu x).priv (b.cpu x).pc.toNat words with
  | .ok _ _ => true
  | _ => false

/-- The fetch of an instruction of so many words raises nothing: it is from the boot ROM or from powered memory whose
check bits are good. -/
def quiet (x : Exe) (words : Nat) (b : Block) : Bool :=
  (List.range words).all fun i => match spot (hcOf x) ((b.cpu x).pc.toNat + 4 * i) with
    | .rom => true
    | .ram g dom => b.pg dom && b.badEcc.all fun e => !decide (e.1 < g + 4 ∧ g < e.1 + 4)
    | _ => false

/-- An exception entry of the core of x through vector vec goes through: the frame lies aligned in memory that takes
it, and nothing denies its stores or the vector fetch (R483, R486). -/
def entryOk (x : Exe) (vec : Nat) (b : Block) : Bool :=
  let h := b.cpu x
  let sp := (h.psp - 16).toNat
  let v := (h.vbar + BitVec.ofNat 32 (16 * vec)).toNat
  h.psp.toNat % 16 == 0 && ((List.range 4).all fun i => mpuDenied h true 2 (sp + 4 * i) == none) &&
  mpuDenied h true 0 v == none &&
  (match spot (hcOf x) sp with
    | .ram g dom => b.pg dom && !b.injHit g 16 && (List.range 4).all fun i => !b.retainedClosed (g + 4 * i)
    | _ => false) &&
  match spot (hcOf x) v with
    | .none => false
    | .shut .. => false
    | .ram g _ => !(b.eccRead g 4).2
    | _ => true

/-- A byte of memory is the same outside the n bytes from a. -/
def MemBut (a n : Nat) (o b : Block) : Prop := ∀ k, k < a ∨ a + n ≤ k → Mem.read b.mem k = Mem.read o.mem k

/-- An aligned access of 2 ^ size bytes of the core of x, of this kind (1 = load, 2 = store), goes to the memory bytes
from g on: protection permits it, the memory has power, and no check bits or injections meet it. -/
def reaches (x : Exe) (kind size : Nat) (ea : Word) (g : Nat) (b : Block) : Bool :=
  ea.toNat % 2 ^ size == 0 && mpuDenied (b.cpu x) (b.cpu x).priv kind ea.toNat == none &&
  (match spot (hcOf x) ea.toNat with
    | .ram a dom => a == g && b.pg dom
    | _ => false) &&
  (b.badEcc.all fun e => !decide (e.1 < g + 2 ^ size ∧ g < e.1 + 4)) && !b.injHit g (2 ^ size) && !b.retainedClosed g

/-- Beside these registers of the core of x, its address, its loop counts and its repeat counter, only these parts and
registers of the block differ. -/
def CoreBeside (x : Exe) (cs : List CorePart) (l : List Nat) (ps : List Part) (o b : Block) : Prop :=
  (∀ p, p ∉ cs → p ∉ [.pc, .lc, .rep] → p.Same (o.cpu x) (b.cpu x)) ∧ b.Beside l (.core (hcOf x) :: ps) o

/-- The core of x has entered vector vec out of the state h: the frame at the new privileged stack pointer, at memory
address g, holds the address, SR, CAUSE and FAR, SR, CAUSE and FAR have changed, and the core goes on at the vector
(R483). -/
def Entered (x : Exe) (vec : Nat) (pc cause far : Word) (g : Nat) (h : HepCore) (b : Block) : Prop :=
  let k := b.cpu x
  k.psp = h.psp - 16 ∧
  b.readMem g 16 = leBytes 4 pc.toNat ++ leBytes 4 h.sr.toNat ++ leBytes 4 cause.toNat ++ leBytes 4 far.toNat ∧
  (vec < 16 → srBits [(0, true), (7, false), (1, false)] h.sr k.sr = true) ∧
  (16 ≤ vec → srBits ((0, true) :: (7, false) :: (List.range 5).map fun i => (i + 2, bit (vec - 16) i)) h.sr k.sr = true) ∧
  k.cause = cause ∧ k.far = far ∧ k.pc = h.vbar + BitVec.ofNat 32 (16 * vec) ∧ k.rep = 0 ∧
  b.coreState (hcOf x) = 2 ∧ b.getF F.HEP_STAT_PRIV (hcOf x) = 1 ∧ b.getF F.HEP_STAT_LASTVEC (hcOf x) = vec

/-- The memory address of the frame that an exception entry of the core of x would store. -/
def frameAt (x : Exe) (b : Block) : Nat := match spot (hcOf x) ((b.cpu x).psp - 16).toNat with
  | .ram g _ => g
  | _ => 0

/-- The instruction of x, of so many words, has completed: the core goes on behind it or at a loop start (R498,
R499), and beside these registers of the core nothing has changed. -/
def Past (x : Exe) (words : Nat) (cs : List CorePart) (o b : Block) : Prop :=
  let h := { o.cpu x with sr := (b.cpu x).sr }
  (b.cpu x).pc = (afterInstr h.pc words h).1 ∧ (b.cpu x).lc = (afterInstr h.pc words h).2.lc ∧ (b.cpu x).rep = 0 ∧
    b.CoreBeside x cs [] [] o

/-- A descriptor of one node, whose source waits for nothing else of the same dwords: not a broadcast, and no list
entry of a discarded descriptor. -/
abbrev Single (d : Desc) (b : Block) : Prop := d.bcast = false ∧ ∀ f ∈ b.hq.flights, f.drop = false

end Block

/-- Command c completes in state s with the queue as it was, and E holds of the block that it leaves. -/
def Completes (c : Instr) (s : State) (E : Block → Prop) : Prop :=
  ∃ t, exec c s = .next t ∧ t.pending = s.pending ∧ E t.blk

end Sys2Proof.Machine
end

