-- ==== Sys2Proof/Certificates/Slice0/Obligations.lean ====
section
/-! DEFINITION. Statements about the block for the provers. Unless a docstring says otherwise a statement has one clause
per command: in every state that meets its hypotheses the command completes and leaves a block of which the clause
holds; where the clause names the registers and parts beside which nothing changes, that is its frame. -/
open Sys2Proof Sys2Proof.Machine

/-- HS and HB channels are enabled, disabled and unlocked (from R125, R126, R176 and R178). Rests on R125, R126,
R176, R178; the clauses state the parts of these rules that they write out. Choices of the model in it: log 134,
135. -/
def Obligations.ChannelConfiguration : Prop :=
  (∀ (s : State) (who : Who) (n : Fin 96), s.blk.Ready → s.blk.CanWrite who (R.HSW_CFG.at n) → s.blk.isFollower n =
      false → s.blk.chState n = Ch.disabled → Completes (.hsEnable who n) s fun b => (b.cget C.en n = 1 ∧ b.cget
      C.duty n = 0 ∧ b.chState n = (if s.blk.cflag C.locked n then Ch.locked else Ch.off)) ∧ s.blk.Beside
      (R.HSW_CFG.pair n.val ++ R.HSW_CMD.pair n.val ++ R.HSW_STAT.pair n.val) (Part.chanPair n.val) b) ∧
  (∀ (s : State) (who : Who) (n : Fin 96), s.blk.Ready → s.blk.CanWrite who (R.HSW_CFG.at n) → s.blk.isFollower n =
      false → Completes (.hsDisable who n) s fun b => b.cget C.en n = 0 ∧ b.cget C.duty n = 0 ∧ b.chState n =
      Ch.disabled ∧ b.cflag C.locked n = s.blk.cflag C.locked n ∧ s.blk.Beside (offsOf [R.HSW_CMD, R.HSW_STAT,
      R.LMP_FADE, R.LMP_LEVEL, R.LMP_TARGET] ++ R.HSW_CFG.pair n.val) (Part.chans ++ Part.fades) b) ∧
  (∀ (s : State) (who : Who) (n : Fin 96), s.blk.Ready → s.blk.CanWrite who (R.HSW_STAT.at n) → s.blk.isFollower n =
      false → s.blk.cflag C.locked n = true → s.blk.chState n = Ch.locked → s.blk.cget C.en n = 1 → s.blk.underWeir
      = false → Completes (.hsLockClear who n) s fun b => b.cflag C.locked n = false ∧ b.chState n = Ch.off ∧ b.cget
      C.retryLeft n = s.blk.cget C.retry n ∧ (b.ch n).k = 0 ∧ s.blk.Beside (R.HSW_STAT.pair n.val) (Part.chanPair
      n.val) b) ∧
  (∀ (s : State) (who : Who) (n : Fin 16), s.blk.Ready → s.blk.CanWrite who (R.HB_CFG.at n) → s.blk.isFollower (96 +
      n) = false → s.blk.chState (96 + n) = Ch.disabled → Completes (.hbEnable who n) s fun b => (b.cget C.en (96 +
      n) = 1 ∧ b.cget C.duty (96 + n) = 0 ∧ b.getF F.HB_CMD_OUT n = 0 ∧ b.chState (96 + n) = (if s.blk.cflag
      C.locked (96 + n) then Ch.locked else Ch.off)) ∧ s.blk.Beside (R.HB_CFG.pair n.val ++ R.HB_CMD.pair n.val ++
      R.HB_STAT.pair n.val) (Part.chanPair (96 + n.val)) b) ∧
  (∀ (s : State) (who : Who) (n : Fin 16), s.blk.Ready → s.blk.CanWrite who (R.HB_CFG.at n) → s.blk.isFollower (96 +
      n) = false → Completes (.hbDisable who n) s fun b => b.cget C.en (96 + n) = 0 ∧ b.getF F.HB_CMD_OUT n = 0 ∧
      b.chState (96 + n) = Ch.disabled ∧ s.blk.Beside ([R.HB_FBSTAT.at (n.val / 2)] ++ R.HB_CFG.pair n.val ++
      R.HB_CMD.pair n.val ++ R.HB_STAT.pair n.val) ([Part.fb (n.val / 2)] ++ Part.chanPair (96 + n.val)) b) ∧
  (∀ (s : State) (who : Who) (n : Fin 16), s.blk.Ready → s.blk.CanWrite who (R.HB_STAT.at n) → s.blk.isFollower (96
      + n) = false → s.blk.cflag C.locked (96 + n) = true → s.blk.chState (96 + n) = Ch.locked → s.blk.cget C.en (96
      + n) = 1 → s.blk.underWeir = false → Completes (.hbLockClear who n) s fun b => b.cflag C.locked (96 + n) =
      false ∧ b.chState (96 + n) = Ch.off ∧ b.cget C.retryLeft (96 + n) = s.blk.cget C.retry (96 + n) ∧ s.blk.Beside
      (R.HB_STAT.pair n.val) (Part.chanPair (96 + n.val)) b)

/-- The switch and bridge descriptors go to their dies, clear and read (from R155, R157 and R181). Rests on R155,
R157, R181; the clauses state the parts of these rules that they write out. Choices of the model in it: log 134. -/
def Obligations.SwitchDescriptors : Prop :=
  (∀ (s : State) (d : Desc), s.blk.Ready → s.blk.Executes d → d.ok 0x10 0 0 [0xFFFFFFFF, 0xFFFFFFFF, 0xFFFFFFFF,
      0x103, 0x1FFFF] = true → bits (d.dw 8) 1 0 ≠ 3 → d.dw 9 ≤ 65536 → (bits (d.dw 8) 1 0 = 2 ∨ d.dw 9 = 0) →
      Block.hsMask d ≠ [] → (∀ a ∈ ((Block.hsMask d).map fun k => DieAct.hs k (Block.actDuty (bits (d.dw 8) 1 0)
      (d.dw 9))), s.blk.missOf a = .no) → Completes (.hsSet d) s fun b => (b.dieq = s.blk.dieq ++
      [{ desc := d, parts := ((Block.hsMask d).map fun k => DieAct.hs k (Block.actDuty (bits (d.dw 8) 1 0) (d.dw 9))), sync := bit (d.dw 8) 8 }])
      ∧ s.blk.Beside (offsOf [R.HQ_QSTAT] ++ d.regs) ([Part.chn, Part.dieq, Part.flights] ++ d.parts) b) ∧
  (∀ (s : State) (d : Desc), s.blk.Ready → s.blk.Executes d → d.ok 0x11 8 768 [0, 0, 0, 0x100] = true → d.len % 8 =
      0 → ((Block.pieces 8 96 (d.payload.take d.len)).map Block.hsEntry).all (fun e => e.2.2) = true → d.payload ≠
      [] → (∀ a ∈ ((Block.lastOf (((Block.pieces 8 96 (d.payload.take d.len)).map Block.hsEntry).map fun e : Nat ×
      Nat × Bool => (e.1, e.2.1))).map fun e : Nat × Nat => DieAct.hs e.1 e.2), s.blk.missOf a = .no) → Completes
      (.hsSetlist d) s fun b => (b.dieq = s.blk.dieq ++
      [{ desc := d, parts := ((Block.lastOf (((Block.pieces 8 96 (d.payload.take d.len)).map Block.hsEntry).map fun e : Nat × Nat × Bool => (e.1, e.2.1))).map fun e : Nat × Nat => DieAct.hs e.1 e.2), sync := bit (d.dw 8) 8 }])
      ∧ s.blk.Beside (offsOf [R.HQ_QSTAT] ++ d.regs) ([Part.chn, Part.dieq, Part.flights] ++ d.parts) b) ∧
  (∀ (s : State) (d : Desc), s.blk.Ready → s.blk.Executes d → d.ok 0x20 0 0 [0xFFFF, 0, 0, 0x103, 0x1FFFF] = true →
      bits (d.dw 8) 1 0 ≠ 3 → d.dw 9 ≤ 65536 → (bits (d.dw 8) 1 0 = 1 ∨ d.dw 9 = 0) → Block.hbMask d ≠ [] → (∀ a ∈
      ((Block.hbMask d).map fun k => DieAct.hb k (bits (d.dw 8) 1 0) (d.dw 9)), s.blk.missOf a = .no) → Completes
      (.hbSet d) s fun b => (b.dieq = s.blk.dieq ++
      [{ desc := d, parts := ((Block.hbMask d).map fun k => DieAct.hb k (bits (d.dw 8) 1 0) (d.dw 9)), sync := bit (d.dw 8) 8 }])
      ∧ s.blk.Beside (offsOf [R.HQ_QSTAT] ++ d.regs) ([Part.chn, Part.dieq, Part.flights] ++ d.parts) b) ∧
  (∀ (s : State) (d : Desc), s.blk.Ready → s.blk.Executes d → d.ok 0x21 0 0 [0xFF, 0, 0, 0x103, 0x1FFFF] = true →
      d.dw 9 ≤ 65536 → (bits (d.dw 8) 1 0 = 1 ∨ bits (d.dw 8) 1 0 = 2 ∨ d.dw 9 = 0) → Block.fbMask d ≠ [] → (∀ a ∈
      ((Block.fbMask d).map fun k => DieAct.fb k (bits (d.dw 8) 1 0) (d.dw 9)), s.blk.missOf a = .no) → Completes
      (.fbDrive d) s fun b => (b.dieq = s.blk.dieq ++
      [{ desc := d, parts := ((Block.fbMask d).map fun k => DieAct.fb k (bits (d.dw 8) 1 0) (d.dw 9)), sync := bit (d.dw 8) 8 }])
      ∧ s.blk.Beside (offsOf [R.HQ_QSTAT] ++ d.regs) ([Part.chn, Part.dieq, Part.flights] ++ d.parts) b) ∧
  (∀ (s : State) (d : Desc), s.blk.Ready → s.blk.Executes d → d.ok 0x22 0 0 [0xFF, 0, 0, 3, 0x1FFFF] = true → bits
      (d.dw 8) 1 0 ≠ 3 → d.dw 9 ≤ 65536 → (bits (d.dw 8) 1 0 ≠ 0 ∨ d.dw 9 = 0) → Block.fbMask d ≠ [] → (∀ a ∈
      ((Block.fbMask d).map fun k => DieAct.wipe k (bits (d.dw 8) 1 0) (d.dw 9)), s.blk.missOf a = .no) → Completes
      (.wipe d) s fun b => (b.dieq = s.blk.dieq ++
      [{ desc := d, parts := ((Block.fbMask d).map fun k => DieAct.wipe k (bits (d.dw 8) 1 0) (d.dw 9)), sync := false }])
      ∧ s.blk.Beside (offsOf [R.HQ_QSTAT] ++ d.regs) ([Part.chn, Part.dieq, Part.flights] ++ d.parts) b) ∧
  (∀ (s : State) (d : Desc), s.blk.Ready → s.blk.Executes d → d.ok 0x23 0 0 [0xFF, 0, 0, 0xFFFF, 0x1FFFF] = true →
      d.dw 9 ≤ 65536 → (d.dw 8 ≠ 0x8000 ∨ d.dw 9 = 0) → (Block.fbMask d).length = 1 → (∀ a ∈ ((Block.fbMask d).map
      fun k => DieAct.win k (d.dw 8) (d.dw 9)), s.blk.missOf a = .no) → Completes (.winMove d) s fun b => (b.dieq =
      s.blk.dieq ++
      [{ desc := d, parts := ((Block.fbMask d).map fun k => DieAct.win k (d.dw 8) (d.dw 9)), sync := false }]) ∧
      s.blk.Beside (offsOf [R.HQ_QSTAT] ++ d.regs) ([Part.chn, Part.dieq, Part.flights] ++ d.parts) b) ∧
  (∀ (s : State) (d : Desc), s.blk.Ready → s.blk.Executes d → d.ok 0x24 0 0 [0xFF, 0, 0, 1] = true → Block.fbMask d
      ≠ [] → (∀ a ∈ ((Block.fbMask d).map fun k => DieAct.lock k (if bit (d.dw 8) 0 then 2 else 1)), s.blk.missOf a
      = .no) → Completes (.lockPulse d) s fun b => (b.dieq = s.blk.dieq ++
      [{ desc := d, parts := ((Block.fbMask d).map fun k => DieAct.lock k (if bit (d.dw 8) 0 then 2 else 1)), sync := false }])
      ∧ s.blk.Beside (offsOf [R.HQ_QSTAT] ++ d.regs) ([Part.chn, Part.dieq, Part.flights] ++ d.parts) b) ∧
  (∀ (s : State) (c : DieCmd) (n : Fin 96), s.blk.Ready → s.blk.dieq = [c] → c.parts = [.hs n 65536] → c.sync =
      false → c.missed = 0 → s.blk.missOf (.hs n 65536) = .no → s.blk.chState n = Ch.off → s.blk.cget C.en n ≠ 0 →
      s.blk.latched n = false → (s.blk.ch n).wait = false → s.blk.feedHeld n = false → (s.blk.ch n).limiting = false
      → (s.blk.ch (s.blk.partner n)).limiting = false → s.blk.Single c.desc → Completes (.dieAcknowledge (Fin.ofNat
      6 (dieOf n))) s fun b => (b.dieq = [] ∧ b.chState n = Ch.on ∧ b.cget C.duty n = 65536 ∧ b.answered c.desc (fun
      x => x.status == St.ok) = true) ∧ s.blk.Beside (offsOf (Regs.answers ++ [R.BST_BSTAT, R.BST_STAT, R.DIO_DOCMD,
      R.DIO_DOSTAT, R.DIO_SVSTAT, R.HSW_CMD, R.HSW_STAT, R.LMP_FADE, R.LMP_LEVEL, R.LMP_TARGET, R.VLV_COUNT,
      R.VLV_MEAS, R.VLV_STAT])) ([Part.dieq, Part.lsBy] ++ Part.chans ++ Part.dOuts ++ Part.fades ++ Part.mtxs ++
      Part.svs ++ Part.valves ++ Part.answers) b) ∧
  (∀ (s : State) (d : Desc), s.blk.Ready → s.blk.Executes d → s.blk.Single d → d.ok 0x12 0 0 [0xFFFFFFFF,
      0xFFFFFFFF, 0xFFFFFFFF, 3] = true → Block.hsMask d ≠ [] → Completes (.hsClear d) s fun b => (b.answered d (fun
      x => x.status == St.ok && x.cw2 == (Block.hsMask d).length) = true ∧ (∀ k ∈ Block.hsMask d, bit (d.dw 8) 1 =
      true → s.blk.isFollower k = false → bits (b.rd R.HSW_STAT k) 15 8 = 0) ∧ (∀ k ∈ Block.hsMask d, bit (d.dw 8) 0
      = true → s.blk.isFollower k = false → b.cflag C.locked k = false)) ∧ s.blk.Beside (offsOf [R.HB_STAT,
      R.HQ_QSTAT, R.HSW_STAT] ++ d.regs) ([Part.chn, Part.flights] ++ Part.chans ++ d.parts) b) ∧
  (∀ (s : State) (d : Desc), s.blk.Ready → s.blk.Executes d → s.blk.Single d → d.ok 0x13 (16 * (Block.hsMask
      d).length) 65536 [0xFFFFFFFF, 0xFFFFFFFF, 0xFFFFFFFF] = true → Block.hsMask d ≠ [] → Completes (.hsRead d) s
      fun b => (b.answered d (fun x => x.status == St.ok && x.data == ((Block.hsMask d).map s.blk.hsRecord).flatten)
      = true) ∧ s.blk.Beside d.regs d.parts b) ∧
  (∀ (s : State) (d : Desc), s.blk.Ready → s.blk.Executes d → s.blk.Single d → d.ok 0x25 0 0 [0xFFFF, 0, 0, 3] =
      true → Block.hbMask d ≠ [] → Completes (.hbClear d) s fun b => (b.answered d (fun x => x.status == St.ok &&
      x.cw2 == (Block.hbMask d).length) = true ∧ (∀ k ∈ Block.hbMask d, bit (d.dw 8) 1 = true → bits (b.rd R.HB_STAT
      k) 15 8 = 0 ∧ bits (b.rd R.HB_FBSTAT (k / 2)) 7 3 = 0)) ∧ s.blk.Beside (offsOf [R.HB_FBSTAT, R.HB_STAT,
      R.HQ_QSTAT, R.HSW_STAT] ++ d.regs) ([Part.chn, Part.flights] ++ Part.chans ++ d.parts) b) ∧
  (∀ (s : State) (d : Desc), s.blk.Ready → s.blk.Executes d → s.blk.Single d → d.ok 0x26 (16 * (Block.hbMask
      d).length) 65536 [0xFFFF] = true → Block.hbMask d ≠ [] → Completes (.hbRead d) s fun b => (b.answered d (fun x
      => x.status == St.ok && x.data == ((Block.hbMask d).map s.blk.hbRecord).flatten) = true) ∧ s.blk.Beside d.regs
      d.parts b)

/-- Limits, latches, back-off, clamping and measurements of a power channel (from R101 to R123). Rests on R112,
R113, R114, R115, R116, R117, R118, R121, R106, R108, R111; the clauses state the parts of these rules that they
write out. Choices of the model in it: log 134, 135, 143. -/
def Obligations.ChannelProtection : Prop :=
  (∀ (s : State) (p : Fin 112) (low : Bool) (ma : Nat), s.blk.Ready → s.blk.conducts p = true → tripMa p < ma →
      Completes (.shortCircuitTrip p low ma) s fun b => (b.cflag C.sc p = true ∧ b.conducts p = false ∧ b.chState p
      = (if s.blk.cget C.retryLeft (s.blk.lead p) = 0 then Ch.locked else if s.blk.latched p then Ch.thermal else
      Ch.retryWait)) ∧ s.blk.Beside ([R.HB_FBSTAT.at ((p.val - 96) / 2)] ++ R.HSW_STAT.pair p.val ++ R.HB_CMD.pair
      (p.val - 96) ++ R.HB_STAT.pair (p.val - 96) ++ R.HSW_CMD.pair p.val ++ R.LMP_FADE.pair p.val ++
      R.LMP_LEVEL.pair p.val ++ R.LMP_TARGET.pair p.val) ([Part.fb ((p.val - 96) / 2)] ++ Part.chanPair p.val ++
      Part.fadePair p.val) b) ∧
  (∀ (s : State) (p : Fin 112) (ma : Nat), s.blk.Ready → s.blk.conducts p = true → s.blk.limitMa p ≤ ma → Completes
      (.linearLimit p ma) s fun b => (b.cflag C.ilim p = true ∧ (s.blk.chState p = Ch.on → b.chState p = Ch.limit))
      ∧ s.blk.Beside (R.HSW_STAT.pair p.val ++ R.HB_STAT.pair (p.val - 96)) (Part.chanPair p.val) b) ∧
  (∀ (s : State) (p : Fin 112) (ma : Nat), s.blk.Ready → s.blk.chState p = Ch.limit → ma < s.blk.limitMa p →
      (s.blk.partner p = p ∨ (s.blk.ch (s.blk.partner p)).limiting = false) → Completes (.linearLimitEnd p ma) s fun
      b => b.chState p = Ch.on ∧ s.blk.Beside (R.HSW_STAT.pair p.val ++ R.HB_STAT.pair (p.val - 96)) (Part.chanPair
      p.val) b) ∧
  (∀ (s : State) (p : Fin 112) (tj : Int), s.blk.Ready → (s.blk.ch p).latch = false → 175 * 16 ≤ tj → Completes
      (.thermalLatch p tj) s fun b => ((b.ch p).latch = true ∧ b.cflag C.ot p = true ∧ (s.blk.conducts p = true →
      b.conducts p = false)) ∧ s.blk.Beside ([R.HB_FBSTAT.at ((p.val - 96) / 2)] ++ R.HB_STAT.pair (p.val - 96) ++
      R.HSW_STAT.pair p.val ++ R.HB_CMD.pair (p.val - 96) ++ R.HSW_CMD.pair p.val ++ R.LMP_FADE.pair p.val ++
      R.LMP_LEVEL.pair p.val ++ R.LMP_TARGET.pair p.val) ([Part.fb ((p.val - 96) / 2)] ++ Part.chanPair p.val ++
      Part.fadePair p.val) b) ∧
  (∀ (s : State) (p : Fin 112) (tj : Int), s.blk.Ready → (s.blk.ch p).latch = true → tj ≤ 160 * 16 → Completes
      (.thermalLatchClear p tj) s fun b => (b.ch p).latch = false ∧ s.blk.Beside ([R.HB_FBSTAT.at ((p.val - 96) /
      2)] ++ R.HB_CMD.pair (p.val - 96) ++ R.HB_STAT.pair (p.val - 96) ++ R.HSW_CMD.pair p.val ++ R.HSW_STAT.pair
      p.val) ([Part.fb ((p.val - 96) / 2)] ++ Part.chanPair p.val) b) ∧
  (∀ (s : State) (p : Fin 112), s.blk.Ready → (s.blk.ch (s.blk.lead p)).wait = true → s.blk.chState (s.blk.lead p) =
      Ch.retryWait → s.blk.latched (s.blk.lead p) = false → s.blk.underWeir = false → s.blk.cmdOn (s.blk.lead p) =
      true → s.blk.feedHeld (s.blk.lead p) = false → (s.blk.ch (s.blk.lead p)).limiting = false → (s.blk.ch
      (s.blk.partner (s.blk.lead p))).limiting = false → Completes (.backoffExpiry p) s fun b => (b.ch (s.blk.lead
      p)).wait = false ∧ b.chState (s.blk.lead p) = Ch.on ∧ b.cget C.retryLeft (s.blk.lead p) = s.blk.cget
      C.retryLeft (s.blk.lead p) - 1 ∧ s.blk.Beside ([R.HB_FBSTAT.at ((p.val - 96) / 2)] ++ R.HSW_STAT.pair p.val ++
      R.HB_CMD.pair (p.val - 96) ++ R.HB_STAT.pair (p.val - 96) ++ R.HSW_CMD.pair p.val) ([Part.fb ((p.val - 96) /
      2)] ++ Part.chanPair p.val) b) ∧
  (∀ (s : State) (p : Fin 112), s.blk.Ready → s.blk.chState p = Ch.on → Completes (.rearmTimeout p) s fun b =>
      b.cget C.retryLeft p = s.blk.cget C.retry (s.blk.lead p) ∧ (b.ch (s.blk.lead p)).k = 0 ∧ s.blk.Beside
      (R.HSW_STAT.pair p.val ++ R.HB_STAT.pair (p.val - 96)) (Part.chanPair p.val) b) ∧
  (∀ (s : State) (p : Fin 112) (energy : Nat), s.blk.Ready → Completes (.clampEventEnd p energy) s fun b => ((b.ch
      (s.blk.lead p)).bucket = Block.addHead energy (s.blk.ch (s.blk.lead p)).bucket ∧ (clampBudget (s.blk.lead p) <
      (b.ch (s.blk.lead p)).bucket.sum → b.cflag C.clampx (s.blk.lead p) = true ∧ b.cflag C.locked (s.blk.lead p) =
      true)) ∧ s.blk.Beside ([R.HB_FBSTAT.at ((p.val - 96) / 2)] ++ R.HB_CLAMP.pair (p.val - 96) ++ R.HB_CMD.pair
      (p.val - 96) ++ R.HB_STAT.pair (p.val - 96) ++ R.HSW_CLAMP.pair p.val ++ R.HSW_CMD.pair p.val ++
      R.HSW_LASTCLAMP.pair p.val ++ R.HSW_STAT.pair p.val ++ R.LMP_FADE.pair p.val ++ R.LMP_LEVEL.pair p.val ++
      R.LMP_TARGET.pair p.val) ([Part.fb ((p.val - 96) / 2)] ++ Part.chanPair p.val ++ Part.fadePair p.val) b) ∧
  (∀ (s : State) (die : Fin 6) (p : Fin 112), s.blk.Ready → die.val < 4 → dieOf p = die.val → (s.blk.ch p).bucket ≠
      [] → Completes (.clampBucketBoundary die) s fun b => (b.ch p).bucket = 0 :: (s.blk.ch p).bucket.take 15 ∧
      s.blk.Beside (offsOf [R.HB_CLAMP, R.HSW_CLAMP, R.HSW_LASTCLAMP, R.VLV_CLAMP]) (Part.chans ++ Part.valves) b) ∧
  (∀ (s : State) (die : Fin 6) (n : Fin 32), s.blk.Ready → 4 ≤ die.val → n.val / 16 = die.val - 4 → (s.blk.vl
      n).bucket ≠ [] → Completes (.clampBucketBoundary die) s fun b => (b.vl n).bucket = 0 :: (s.blk.vl
      n).bucket.take 15 ∧ s.blk.Beside (offsOf [R.HB_CLAMP, R.HSW_CLAMP, R.HSW_LASTCLAMP, R.VLV_CLAMP]) (Part.chans
      ++ Part.valves) b) ∧
  (∀ (s : State) (n : Fin 96) (mv : Nat), s.blk.Ready → s.blk.conducts n = true → 200 < mv → Completes
      (.reverseCurrent n mv) s fun b => (b.ch n).rev = true ∧ b.getF F.HSW_STAT_REV n = 1 ∧ b.getF F.HSW_MEAS_CURR n
      = 0 ∧ s.blk.Beside (R.HSW_MEAS.pair n.val ++ R.HSW_STAT.pair n.val) (Part.chanPair n.val) b) ∧
  (∀ (s : State) (p : Fin 112) (smp : OnSample) (high : Bool), s.blk.Ready → Completes (.pwmPeriodStart p smp high)
      s fun b => (if (b.drive p).2 = 0 ∨ (b.drive p).2 = 65536 then (b.ch p).onTicks = 0 ∧ (b.ch p).offTicks = 0
      else (b.ch p).duty = (b.drive p).2 ∧ (b.ch p).onTicks = (if (!isHb (b.lane p) && b.flag F.LMP_CFG_DEXT (b.lane
      p) && decide (0 < (Block.pwmTimes (b.cget C.period (b.lane p)) (b.cget C.duty (b.lane p)) (b.cflag C.minon
      (b.lane p))).1) && decide ((Block.pwmTimes (b.cget C.period (b.lane p)) (b.cget C.duty (b.lane p)) (b.cflag
      C.minon (b.lane p))).1 < windowTicks (b.lane p))) = true then windowTicks (b.lane p) else (Block.pwmTimes
      (b.cget C.period (b.lane p)) (b.cget C.duty (b.lane p)) (b.cflag C.minon (b.lane p))).1)) ∧ s.blk.Beside
      (offsOf [R.HSW_CMD, R.HSW_STAT, R.LMP_FADE, R.LMP_LEVEL] ++ R.HB_CMD.pair (p.val - 96) ++ R.HB_MEAS.pair
      (p.val - 96) ++ R.HB_STAT.pair (p.val - 96) ++ R.HSW_MEAS.pair p.val ++ R.LMP_DIAG.pair p.val)
      ([Part.lampLimits] ++ Part.chans ++ Part.fades) b) ∧
  (∀ (s : State) (p : Fin 132) (cur : Nat) (vout : Nat) (tj : Nat), s.blk.Ready → p.val < 112 → Completes
      (.measUpdate p cur vout tj) s fun b => b.cget C.vout p = vout % 65536 ∧ b.cget C.tjTemp p = tj % 65536 ∧
      b.cget C.tjValid p = 1 ∧ s.blk.Beside (offsOf [R.DIO_DOMEAS, R.DIO_SVMEAS] ++ R.HB_MEAS.pair (p.val - 96) ++
      R.HB_TJ.pair (p.val - 96) ++ R.HSW_MEAS.pair p.val ++ R.HSW_TJ.pair p.val ++ R.HB_STAT.pair (p.val - 96) ++
      R.HSW_STAT.pair p.val ++ R.LMP_DIAG.pair p.val) ([Part.lampLimits] ++ Part.chanPair p.val) b) ∧
  (∀ (s : State) (p : Fin 128) (v2 : Bool), s.blk.Ready → p.val < 112 → s.blk.conducts p = false → s.blk.chState p ≠
      Ch.disabled → s.blk.cget C.olen p = 1 → s.blk.cget C.puen p = 1 → Completes (.offStateCheck p false v2) s fun
      b => (b.cget C.olmeth p = 2 ∧ (b.ch p).olRun = (if v2 then (if (s.blk.ch p).olMeth = 2 then (s.blk.ch p).olRun
      + 1 else 1) else 0) ∧ (b.ch p).sbRun = 0) ∧ s.blk.Beside (offsOf [R.DIO_DOSTAT] ++ R.HSW_STAT.pair p.val ++
      R.HB_STAT.pair (p.val - 96)) (Part.chanPair p.val) b)

/-- The weir is armed, fed, held, applied and reclaimed (from R129 to R138). Rests on R129, R130, R133, R135, R136,
R137; the clauses state the parts of these rules that they write out. Choices of the model in it: log 135. -/
def Obligations.WeirStates : Prop :=
  (∀ (s : State) (who : Who), s.blk.Ready → s.blk.CanWrite who (R.WEIR_CFG.at 0) → s.blk.isLocked = false →
      s.blk.flag F.WEIR_CFG_ARM 0 = false → Completes (.weirArm who) s fun b => b.flag F.WEIR_CFG_ARM 0 = true ∧
      b.weir.anySeq = true ∧ s.blk.Beside (offsOf [R.SYS_LOCKSTAT, R.WEIR_CFG]) [Part.weir] b) ∧
  (∀ (s : State) (c : Fin 2) (seq : Fin 65536) (crc : Fin 256), s.blk.Ready → s.blk.CanWrite (.core (Fin.ofNat 15
      c)) (R.WEIR_HB.at 0) → s.blk.getF F.WEIR_CFG_ARM 0 = 1 → crc.val = Block.hbCrc seq → s.blk.weirState < 2 →
      (s.blk.weir.anySeq = true ∨ seq.val = (s.blk.getF F.WEIR_STAT_LASTSEQ 0 + 1) % 65536) → Completes
      (.weirHeartbeat (.core (Fin.ofNat 15 c)) seq crc) s fun b => b.weirState = 1 ∧ b.getF F.WEIR_STAT_LASTSEQ 0 =
      seq ∧ b.weir.window = s.blk.getF F.WEIR_CFG_WINDOW 0 ∧ b.weir.anySeq = false ∧ s.blk.Beside (offsOf
      (Regs.outputs ++ Regs.answers ++ [R.BST_STAT, R.DIO_DOCMD, R.DIO_DOSTAT, R.DIO_SVSTAT, R.HB_WINPOS, R.LMP_CFG,
      R.LMP_GRP, R.PAIR_CNT, R.PAIR_STAT, R.PWR_STATE, R.PXL_FADE, R.VLV_PROFA, R.VLV_PROFB, R.VLV_PROFC,
      R.WEIR_COUNT, R.WEIR_HB, R.WEIR_STAT])) ([Part.dieq, Part.lsBy, Part.pair, Part.weir] ++ Part.dOuts ++
      Part.mtxs ++ Part.pxs ++ Part.svs ++ Part.outputs ++ Part.answers) b) ∧
  (∀ (s : State) (c : Fin 2), s.blk.Ready → s.blk.CanWrite (.core (Fin.ofNat 15 c)) (R.WEIR_RECLAIM.at 0) → 2 ≤
      s.blk.weirState → Completes (.weirReclaimKey (.core (Fin.ofNat 15 c)) 0x4EC1) s fun b => b.weir.key = true ∧
      b.weir.anySeq = true ∧ s.blk.Beside (offsOf [R.WEIR_RECLAIM]) [Part.weir] b) ∧
  (∀ (s : State), s.blk.Ready → s.blk.weirState = 1 → Completes .weirWindowExpiry s fun b => b.weirState = 2 ∧
      b.getF F.WEIR_STAT_MISSED 0 = 1 ∧ b.weir.reclaim = s.blk.getF F.WEIR_CFG_RECLAIM 0 ∧ b.HasEvent 254 ∧
      s.blk.Beside (offsOf [R.HB_STAT, R.HSW_STAT, R.LMP_FADE, R.PXL_FADE, R.WEIR_STAT]) ([Part.weir] ++ Part.fades
      ++ Part.pxs) b) ∧
  (∀ (s : State), s.blk.Ready → s.blk.weirState = 2 → Completes .weirReclaimExpiry s fun b => (b.weirState = 3 ∧
      (s.blk.getF F.PWR_STATE_STATE 0 = 2 → b.getF F.PWR_STATE_STATE 0 = 3) ∧ b.HasEvent 254) ∧ s.blk.Beside (offsOf
      [R.ACS_REL, R.ACS_RELCNT, R.ACS_STAT, R.BST_BSTAT, R.CIPH_CNT, R.CIPH_LOAD, R.CIPH_STAT, R.DIO_SVSTAT,
      R.HB_FBSTAT, R.HB_STAT, R.HSW_STAT, R.KEY_CACHE, R.KEY_CCNT, R.KEY_STAT, R.LMP_FADE, R.LMP_LEVEL,
      R.LMP_TARGET, R.PKE_STAT, R.PWR_STATE, R.PXL_STAT, R.VLV_STAT, R.VLV_TSTAT, R.WEIR_COUNT, R.WEIR_STAT])
      ([Part.acs, Part.ciph, Part.lsBy, Part.net, Part.weir] ++ Part.buses ++ Part.chans ++ Part.fades ++ Part.fbs
      ++ Part.mtxs ++ Part.pxs ++ Part.svs ++ Part.valves) b) ∧
  (∀ (s : State) (die : Fin 4) (k : Fin 4) (on : Bool) (p : Fin 112), s.blk.Ready → dieOf p = die → (s.blk.ch
      p).flash = some k → s.blk.lane p = p → Completes (.flashPatternEdge die k on) s fun b => ((b.ch p).flashOn =
      (if (Tab.get (0, 0) s.blk.weir.flash k).1 = 0 ∨ (Tab.get (0, 0) s.blk.weir.flash k).2 = 0 then false else if
      (Tab.get (0, 0) s.blk.weir.flash k).1 < (Tab.get (0, 0) s.blk.weir.flash k).2 then true else on)) ∧
      s.blk.Beside [] Part.chans b)

/-- Brakes, park, ripples, pinch and lock pulses of a full bridge (from R163 to R170). Rests on R163, R166, R167,
R168, R170; the clauses state the parts of these rules that they write out. Choices of the model in it: log 134. -/
def Obligations.FullBridgeFunctions : Prop :=
  (∀ (s : State) (k : Fin 8) (dir : Fin 4), s.blk.Ready → (s.blk.fbr k).next = some dir.val → Completes (.fbBrakeEnd
      k) s fun b => b.getF F.HB_FBSTAT_DIR k = dir ∧ (b.fbr k).next = none ∧ s.blk.Beside ([R.HB_FBSTAT.at k.val] ++
      R.HB_CMD.pair (2 * k.val) ++ R.HB_STAT.pair (2 * k.val)) ([Part.fb k.val] ++ Part.chans) b) ∧
  (∀ (s : State) (k : Fin 8), s.blk.Ready → (s.blk.fbr k).phase = .parkBrake → s.blk.suspended k = false → Completes
      (.wiperBrakeEnd k) s fun b => b.getF F.HB_FBSTAT_DIR k = 0 ∧ (b.fbr k).phase = .idle ∧ b.getF
      F.HB_FBSTAT_PARKED k = 1 ∧ s.blk.Beside ([R.HB_FBSTAT.at k.val] ++ R.HB_CMD.pair (2 * k.val) ++ R.HB_STAT.pair
      (2 * k.val)) ([Part.fb k.val] ++ Part.chans) b) ∧
  (∀ (s : State) (k : Fin 8), s.blk.Ready → (s.blk.fbr k).phase = .park → Completes (.wiperParkTimeout k) s fun b =>
      b.getF F.HB_FBSTAT_DIR k = 0 ∧ (b.fbr k).phase = .idle ∧ b.getF F.HB_FBSTAT_PARKFAIL k = 1 ∧ s.blk.Beside
      ([R.HB_FBSTAT.at k.val] ++ R.HB_CMD.pair (2 * k.val) ++ R.HB_STAT.pair (2 * k.val)) ([Part.fb k.val] ++
      Part.chans) b) ∧
  (∀ (s : State) (k : Fin 8) (ma : Nat) (us : Nat), s.blk.Ready → (s.blk.getF F.HB_FBSTAT_DIR k = 1 ∨ s.blk.getF
      F.HB_FBSTAT_DIR k = 2) → s.blk.suspended k = false → ((s.blk.fbr k).ripples = 0 ∨ Block.rippleOk us = true) →
      Completes (.windowRipple k ma us) s fun b => (b.getF F.HB_WINPOS_POS k = (if s.blk.getF F.HB_FBSTAT_DIR k = 1
      then (s.blk.getF F.HB_WINPOS_POS k + 1) % 65536 else (s.blk.getF F.HB_WINPOS_POS k + 65535) % 65536) ∧
      ((s.blk.fbr k).phase = .move → b.getF F.HB_WINPOS_POS k = (s.blk.fbr k).target → (b.fbr k).phase = .idle ∧
      b.getF F.HB_FBSTAT_DIR k = 0)) ∧ s.blk.Beside ([R.HB_FBSTAT.at k.val, R.HB_WINPOS.at k.val] ++ R.HB_CMD.pair
      (2 * k.val) ++ R.HB_STAT.pair (2 * k.val)) ([Part.fb k.val] ++ Part.chans) b) ∧
  (∀ (s : State) (k : Fin 8) (ma : Nat) (us : Nat) (ms : Nat) (stop : WinEnds), s.blk.Ready → s.blk.suspended k =
      false → (s.blk.fbr k).last ≠ [] → s.blk.getF F.HB_FBSTAT_DIR k = 2 → (s.blk.fbr k).phase = .move → s.blk.getF
      F.HB_WIN_BLANK k ≤ ms → Block.meanOf ((s.blk.fbr k).last.map Prod.fst) + s.blk.getF F.HB_WIN_PINCHTH k * 25 <
      ma → (s.blk.flag F.HB_FBSTAT_NORM k = false ∨ (s.blk.getF F.HB_WIN_SEAL k : Int) < sgn 16 (s.blk.getF
      F.HB_WINPOS_POS k)) → Completes (.pinchDetected k ma us ms stop) s fun b => (b.fbr k).phase = .pinchBrake ∧
      b.getF F.HB_FBSTAT_DIR k = 3 ∧ b.getF F.HB_FBSTAT_PINCH k = 1 ∧ s.blk.Beside ([R.HB_FBSTAT.at k.val,
      R.HB_WINPOS.at k.val] ++ R.HB_CMD.pair (2 * k.val) ++ R.HB_STAT.pair (2 * k.val)) ([Part.fb k.val] ++
      Part.chans) b) ∧
  (∀ (s : State) (k : Fin 8), s.blk.Ready → (s.blk.fbr k).phase = .pinchBrake → s.blk.suspended k = false →
      s.blk.getF F.HB_WIN_REVR k ≠ 0 → s.blk.getF F.HB_FBSTAT_DIR k = 3 → (s.blk.fbr k).next = none → Completes
      (.pinchBrakeEnd k) s fun b => (b.fbr k).phase = .reverse ∧ (b.fbr k).revLeft = s.blk.getF F.HB_WIN_REVR k * 4
      ∧ b.getF F.HB_FBSTAT_DIR k = 1 ∧ s.blk.Beside ([R.HB_FBSTAT.at k.val] ++ R.HB_CMD.pair (2 * k.val) ++
      R.HB_STAT.pair (2 * k.val)) ([Part.fb k.val] ++ Part.chans) b) ∧
  (∀ (s : State) (k : Fin 8), s.blk.Ready → (s.blk.fbr k).phase = .pulse → s.blk.suspended k = false → Completes
      (.lockPulseEnd k) s fun b => ((b.fbr k).phase = (if (s.blk.fbr k).pulses = 0 then .idle else .gap) ∧ b.getF
      F.HB_FBSTAT_DIR k = 0) ∧ s.blk.Beside ([R.HB_FBSTAT.at k.val] ++ R.HB_CMD.pair (2 * k.val) ++ R.HB_STAT.pair
      (2 * k.val)) ([Part.fb k.val] ++ Part.chans) b) ∧
  (∀ (s : State) (k : Fin 8) (dir : Fin 4), s.blk.Ready → (s.blk.fbr k).phase = .gap → s.blk.suspended k = false →
      ((s.blk.fbr k).lastDir = 0 ∨ (s.blk.fbr k).lastDir = dir.val) → (s.blk.fbr k).lockDir = dir → s.blk.getF
      F.HB_FBSTAT_DIR k = 0 → (s.blk.fbr k).next = none → Completes (.lockGapEnd k) s fun b => (b.fbr k).phase =
      .pulse ∧ (b.fbr k).pulses = (s.blk.fbr k).pulses - 1 ∧ b.getF F.HB_FBSTAT_DIR k = dir ∧ s.blk.Beside
      ([R.HB_FBSTAT.at k.val] ++ R.HB_CMD.pair (2 * k.val) ++ R.HB_STAT.pair (2 * k.val)) ([Part.fb k.val] ++
      Part.chans) b)

/-- Boost converters are switched and fail, and shots fall due, boost, peak, hold and clamp (from R184 to R198).
Rests on R184, R185, R186, R214, R187, R189, R190, R191, R195, R198; the clauses state the parts of these rules that
they write out. Choices of the model in it: log 135, 136. -/
def Obligations.BoostAndShots : Prop :=
  (∀ (s : State) (who : Who) (j : Fin 2), s.blk.Ready → s.blk.CanWrite who (R.BST_CFG.at j) → Completes
      (.boostEnable who j) s fun b => (b.getF F.BST_CFG_EN j = 1 ∧ (s.blk.getF F.BST_STAT_STATE j = 0 ∨ s.blk.getF
      F.BST_STAT_STATE j = 4 → b.getF F.BST_STAT_STATE j = (if s.blk.vbatcOff then 5 else 1))) ∧ s.blk.Beside
      [R.BST_CFG.at j.val, R.BST_STAT.at j.val] [] b) ∧
  (∀ (s : State) (who : Who) (j : Fin 2), s.blk.Ready → s.blk.CanWrite who (R.BST_CFG.at j) → Completes
      (.boostDisable who j) s fun b => b.getF F.BST_CFG_EN j = 0 ∧ b.getF F.BST_STAT_STATE j = 0 ∧ s.blk.Beside
      [R.BST_CFG.at j.val, R.BST_STAT.at j.val] [] b) ∧
  (∀ (s : State) (j : Fin 2), s.blk.Ready → (s.blk.getF F.BST_STAT_STATE j = 1 ∨ (s.blk.getF F.BST_STAT_STATE j = 3
      ∧ ∀ i ∈ List.range 16, s.blk.vlSt (16 * j + i) ≠ Vl.boost)) → Completes (.boostReadyTimeout j) s fun b =>
      b.getF F.BST_STAT_STATE j = 4 ∧ b.getF F.BST_STAT_BFAIL j = 1 ∧ s.blk.Beside [R.BST_STAT.at j.val] [] b) ∧
  (∀ (s : State) (j : Fin 2) (vout : Nat), s.blk.Ready → (s.blk.getF F.BST_STAT_STATE j = 1 ∨ s.blk.getF
      F.BST_STAT_STATE j = 2 ∨ s.blk.getF F.BST_STAT_STATE j = 3) → s.blk.getF F.BST_CFG_VSET j + 60 < vout →
      Completes (.boostOvervoltage j vout) s fun b => b.getF F.BST_STAT_STATE j = 4 ∧ b.getF F.BST_STAT_BOV j = 1 ∧
      b.getF F.BST_STAT_VOUT j = vout % 1024 ∧ s.blk.Beside [R.BST_STAT.at j.val] [] b) ∧
  (∀ (s : State) (j : Fin 2) (vout : Nat), s.blk.Ready → (s.blk.getF F.BST_STAT_STATE j = 1 ∨ s.blk.getF
      F.BST_STAT_STATE j = 2 ∨ s.blk.getF F.BST_STAT_STATE j = 3) → Completes (.boostReadyChange j vout) s fun b =>
      (b.getF F.BST_STAT_VOUT j = vout % 1024 ∧ b.getF F.BST_STAT_STATE j = (if s.blk.getF F.BST_CFG_VSET j ≤ vout +
      max 1 (s.blk.getF F.BST_CFG_RDYM j) * 5 then 2 else if s.blk.getF F.BST_STAT_STATE j = 2 then 3 else
      s.blk.getF F.BST_STAT_STATE j)) ∧ s.blk.Beside [R.BST_STAT.at j.val] [] b) ∧
  (∀ (s : State) (who : Who) (stale : Bool), s.blk.Ready → s.blk.CanRead who (R.BST_TBASE0.at 0) → Completes
      (.timebaseRead who stale) s fun b => b.rd R.BST_TBASE0 0 = s.blk.pw.tbase % 2 ^ 32 ∧ b.rd R.BST_TBASE1 0 =
      s.blk.pw.tbase / 2 ^ 32 % 2 ^ 32 ∧ s.blk.Beside (offsOf [R.BST_TBASE0, R.BST_TBASE1]) [Part.pw] b) ∧
  (∀ (s : State) (t : Fin 16) (i : Nat) (e : ShotEntry), s.blk.Ready → (s.blk.tbl t).entries[i]? = some e →
      s.blk.getF F.VLV_TSTAT_TSTATE t = 2 → e.valve < 32 → s.blk.vlSt e.valve = Vl.idle → s.blk.getF
      F.VLV_STAT_LOCKED e.valve = 0 → s.blk.getF F.BST_BSTAT_BSTATE (e.valve / 4) ≠ 3 → s.blk.hasBoost e.prof =
      false → s.blk.ipMa e.prof ≠ 0 → Completes (.shotDue t i) s fun b => b.vlSt e.valve = Vl.peak ∧ (b.vl
      e.valve).last = some s.blk.pw.tbase ∧ b.getF F.VLV_COUNT_FIRED e.valve = (s.blk.getF F.VLV_COUNT_FIRED e.valve
      + 1) % 65536 ∧ s.blk.Beside (offsOf [R.BST_BSTAT, R.BST_STAT, R.VLV_COUNT, R.VLV_MEAS, R.VLV_STAT,
      R.VLV_TSTAT]) ([Part.lsBy] ++ Part.valves) b) ∧
  (∀ (s : State) (t : Fin 16), s.blk.Ready → s.blk.getF F.VLV_TSTAT_TSTATE t = 2 → (s.blk.tbl t).period ≠ 0 → (∀ u ∈
      List.range 16, (s.blk.tbl u).inPlace ≠ some t.val) → Completes (.tablePassStart t) s fun b => b.getF
      F.VLV_TSTAT_PASSES t = (s.blk.getF F.VLV_TSTAT_PASSES t + 1) % 65536 ∧ (b.tbl t).start = (s.blk.tbl t).start +
      (s.blk.tbl t).period ∧ s.blk.Beside (offsOf [R.VLV_TSTAT]) Part.tables b) ∧
  (∀ (s : State) (n : Fin 32) (x : Shot), s.blk.Ready → (s.blk.vl n).shot = some x → s.blk.vlSt n = Vl.boost →
      s.blk.ipMa x.prof ≠ 0 → Completes (.boostLevelReached n) s fun b => b.vlSt n = Vl.peak ∧ b.getF
      F.VLV_MEAS_IBEND n = (s.blk.vl n).level / 50 % 256 ∧ s.blk.Beside ([R.BST_BSTAT.at (n.val / 4)] ++
      R.VLV_MEAS.four (n.val / 4 * 4) ++ R.VLV_STAT.four (n.val / 4 * 4) ++ R.VLV_COUNT.four (n.val / 4 * 4))
      ([Part.lsBy] ++ Part.valves) b) ∧
  (∀ (s : State) (n : Fin 32) (ma : Nat) (x : Shot), s.blk.Ready → (s.blk.vl n).shot = some x → s.blk.vlSt n =
      Vl.boost → Block.openAtFirst x ma (s.blk.vl n).level = false → s.blk.ipMa x.prof ≠ 0 → Completes
      (.boostTimeLimit n ma) s fun b => b.vlSt n = Vl.peak ∧ b.getF F.VLV_STAT_NREACH n = 1 ∧ b.getF
      F.VLV_MEAS_IBEND n = min (ma / 50) 255 ∧ s.blk.Beside ([R.BST_BSTAT.at (n.val / 4)] ++ R.VLV_MEAS.four (n.val
      / 4 * 4) ++ R.VLV_STAT.four (n.val / 4 * 4) ++ R.VLV_COUNT.four (n.val / 4 * 4)) ([Part.lsBy] ++ Part.valves)
      b) ∧
  (∀ (s : State) (n : Fin 32) (ma : Nat) (reached : Bool) (x : Shot), s.blk.Ready → (s.blk.vl n).shot = some x →
      s.blk.vlSt n = Vl.peak → Block.openAtFirst x ma (s.blk.vl n).level = false → s.blk.ihMa x.prof ≠ 0 → Completes
      (.peakEnd n ma reached) s fun b => (b.vlSt n = Vl.hold ∧ (reached = false → b.getF F.VLV_STAT_NREACH n = 1)) ∧
      s.blk.Beside ([R.BST_BSTAT.at (n.val / 4)] ++ R.VLV_STAT.four (n.val / 4 * 4) ++ R.VLV_COUNT.four (n.val / 4 *
      4) ++ R.VLV_MEAS.four (n.val / 4 * 4)) ([Part.lsBy] ++ Part.valves) b) ∧
  (∀ (s : State) (n : Fin 32) (ma : Nat) (reached : Bool) (us : Nat) (mv : Nat) (x : Shot), s.blk.Ready → (s.blk.vl
      n).shot = some x → s.blk.vlSt n = Vl.hold → Block.openAtFirst x ma (s.blk.vl n).level = false → us < 500 →
      Completes (.holdEnd n ma reached us mv) s fun b => (b.vlSt n = Vl.clamp ∧ b.getF F.VLV_STAT_ABORTS n = 0 ∧
      (reached = false → b.getF F.VLV_STAT_NREACH n = 1)) ∧ s.blk.Beside ([R.BST_BSTAT.at (n.val / 4)] ++
      R.VLV_STAT.four (n.val / 4 * 4) ++ R.VLV_COUNT.four (n.val / 4 * 4) ++ R.VLV_MEAS.four (n.val / 4 * 4) ++
      R.VLV_TEMP.four (n.val / 4 * 4)) ([Part.lsBy] ++ Part.valves) b) ∧
  (∀ (s : State) (n : Fin 32) (energy : Nat), s.blk.Ready → s.blk.vlSt n = Vl.clamp → (s.blk.vl n).lockAt = 0 →
      (s.blk.vl n).disAt = false → (Block.addHead energy (s.blk.vl n).bucket).sum ≤ 100000 → s.blk.getF
      F.VLV_STAT_LOCKED n = 0 → s.blk.vbatcOff = false → Completes (.valveClampEnd n energy) s fun b => b.vlSt n =
      Vl.idle ∧ (b.vl n).shot = none ∧ (b.vl n).bucket = Block.addHead energy (s.blk.vl n).bucket ∧ s.blk.Beside
      (offsOf [R.VLV_TSTAT] ++ [R.BST_BSTAT.at (n.val / 4)] ++ R.VLV_CLAMP.four (n.val / 4 * 4) ++ R.VLV_STAT.four
      (n.val / 4 * 4) ++ R.VLV_CFG.four (n.val / 4 * 4) ++ R.VLV_COUNT.four (n.val / 4 * 4) ++ R.VLV_MEAS.four
      (n.val / 4 * 4) ++ R.VLV_TEMP.four (n.val / 4 * 4)) ([Part.lsBy] ++ Part.valves) b) ∧
  (∀ (s : State) (n : Fin 32) (msq : Nat), s.blk.Ready → s.blk.vlSt n ≠ Vl.disabled → s.blk.getF F.VLV_COIL_RREF n ≠
      0 → Completes (.coilModelTick n msq) s fun b => (b.vl n).temp = some ((s.blk.vl n).temp.getD (s.blk.ambient n)
      + (s.blk.ambient n + (msq : Rat) / 1000000 * ((s.blk.getF F.VLV_COIL_RREF n : Rat) / 1000) * (1 + (393 : Rat)
      / 100000 * ((s.blk.vl n).temp.getD (s.blk.ambient n) - 20)) * ((s.blk.getF F.VLV_THERM_RTH n : Rat) / 4) -
      (s.blk.vl n).temp.getD (s.blk.ambient n)) / 1000 / (4 * (max 1 (s.blk.getF F.VLV_COIL_TAU n) : Nat))) ∧
      s.blk.Beside [R.VLV_STAT.at n.val, R.VLV_TEMP.at n.val] [Part.valve n.val] b)

/-- Valve and bank faults lock and unlock, and a silent link takes its valves to the fail-safe state (R198, R201,
R203, R211). Rests on R198, R201, R203, R211; the clauses state the parts of these rules that they write out.
Choices of the model in it: log 135. -/
def Obligations.ValveFaults : Prop :=
  (∀ (s : State) (n : Fin 32) (mv : Nat), s.blk.Ready → s.blk.vlSt n ≠ Vl.disabled → s.blk.getF F.VLV_CFG_OLEN n = 1
      → s.blk.bankQuiet (n / 4) = true → 3500 < mv → Completes (.valveOffStateCheck n mv false) s fun b => ((b.vl
      n).opens = (s.blk.vl n).opens + 1 ∧ (4 ≤ (b.vl n).opens → b.getF F.VLV_STAT_OPEN n = 1)) ∧ s.blk.Beside
      (offsOf [R.BST_BSTAT] ++ R.VLV_STAT.four (n.val / 4 * 4) ++ R.VLV_COUNT.four (n.val / 4 * 4) ++
      R.VLV_MEAS.four (n.val / 4 * 4)) ([Part.lsBy] ++ Part.valves) b) ∧
  (∀ (s : State) (n : Fin 32) (ma : Nat), s.blk.Ready → s.blk.inShot n = true → 16000 < ma → Completes (.lowSideTrip
      n ma) s fun b => b.vlSt n = Vl.clamp ∧ b.getF F.VLV_STAT_SHORT n = 1 ∧ b.getF F.VLV_STAT_ABORTS n = min
      (s.blk.getF F.VLV_STAT_ABORTS n + 1) 15 ∧ s.blk.Beside ([R.BST_BSTAT.at (n.val / 4)] ++ R.VLV_STAT.four (n.val
      / 4 * 4) ++ R.VLV_COUNT.four (n.val / 4 * 4) ++ R.VLV_MEAS.four (n.val / 4 * 4)) ([Part.lsBy] ++ Part.valves)
      b) ∧
  (∀ (s : State) (k : Fin 8) (cause : Fin 4), s.blk.Ready → s.blk.getF F.BST_BSTAT_BSTATE k ≠ 3 → Completes
      (.bankSwitchFault k cause true) s fun b => b.getF F.BST_BSTAT_BSTATE k = 3 ∧ b.getF F.BST_BSTAT_LOCKED k = 1 ∧
      b.getF F.BST_BSTAT_BCAUSE k = cause ∧ b.getF F.BST_BSTAT_BSWF k = 1 ∧ b.HasEvent (160 + k) ∧ s.blk.Beside
      ([R.BST_BSTAT.at k.val] ++ R.VLV_STAT.four (4 * k.val) ++ R.VLV_COUNT.four (4 * k.val)) ([Part.lsBy,
      Part.vlvFault] ++ Part.valves) b) ∧
  (∀ (s : State) (v : Fin 2) (n : Fin 32), s.blk.Ready → n.val / 16 = v → s.blk.vlSt n ≠ Vl.disabled → Completes
      (.internalLinkSilence v) s fun b => b.vlSt n = Vl.failSafe ∧ (b.vl n).shot = none ∧ s.blk.Beside (offsOf
      [R.VLV_STAT, R.VLV_TSTAT] ++ R.BST_BSTAT.four (4 * v.val)) ([Part.lsBy] ++ Part.valves) b) ∧
  (∀ (s : State) (who : Who) (n : Fin 32), s.blk.Ready → s.blk.CanWrite who (R.VLV_CFG.at n) → s.blk.vlSt n =
      Vl.disabled → s.blk.getF F.VLV_STAT_LOCKED n = 0 → s.blk.vbatcOff = false → Completes (.valveEnable who n) s
      fun b => b.getF F.VLV_CFG_EN n = 1 ∧ b.vlSt n = Vl.idle ∧ s.blk.Beside [R.VLV_CFG.at n.val, R.VLV_STAT.at
      n.val, R.VLV_TEMP.at n.val] [Part.valve n.val] b) ∧
  (∀ (s : State) (who : Who) (n : Fin 32), s.blk.Ready → s.blk.CanWrite who (R.VLV_CFG.at n) → s.blk.inShot n =
      false → s.blk.vlSt n ≠ Vl.clamp → Completes (.valveDisable who n) s fun b => b.getF F.VLV_CFG_EN n = 0 ∧
      b.vlSt n = Vl.disabled ∧ (b.vl n).shot = none ∧ (b.vl n).temp = none ∧ s.blk.Beside (offsOf [R.VLV_TSTAT] ++
      [R.BST_BSTAT.at (n.val / 4)] ++ R.VLV_CFG.four (n.val / 4 * 4) ++ R.VLV_STAT.four (n.val / 4 * 4) ++
      R.VLV_TEMP.four (n.val / 4 * 4) ++ R.VLV_COUNT.four (n.val / 4 * 4) ++ R.VLV_MEAS.four (n.val / 4 * 4))
      ([Part.lsBy] ++ Part.valves) b) ∧
  (∀ (s : State) (who : Who) (n : Fin 32), s.blk.Ready → s.blk.CanWrite who (R.VLV_STAT.at n) → s.blk.getF
      F.VLV_STAT_LOCKED n = 1 → s.blk.vlSt n = Vl.locked → s.blk.vbatcOff = false → Completes (.valveLockClear who
      n) s fun b => b.getF F.VLV_STAT_LOCKED n = 0 ∧ b.vlSt n = Vl.idle ∧ b.getF F.VLV_STAT_ABORTS n = 0 ∧
      s.blk.Beside [R.VLV_STAT.at n.val] [] b) ∧
  (∀ (s : State) (who : Who) (k : Fin 8), s.blk.Ready → s.blk.CanWrite who (R.BST_BSTAT.at k) → s.blk.getF
      F.BST_BSTAT_LOCKED k = 1 → (Tab.get [] s.blk.vlv.lsBy k).all (fun n => !s.blk.flag F.VLV_STAT_LOCKED n) = true
      → Tab.get false s.blk.vlv.fault k = false → Completes (.bankLockClear who k) s fun b => b.getF
      F.BST_BSTAT_LOCKED k = 0 ∧ b.getF F.BST_BSTAT_BSTATE k ≠ 3 ∧ s.blk.Beside [R.BST_BSTAT.at k.val] [Part.lsBy]
      b)

/-- The valve descriptors fire, load, start, stop, clear and read (from R191 to R194, R204 and R215). Rests on R192,
R193, R194, R204, R215, R216; the clauses state the parts of these rules that they write out. Choices of the model
in it: log 70, 136. -/
def Obligations.ValveDescriptors : Prop :=
  (∀ (s : State) (d : Desc), s.blk.Ready → s.blk.Executes d → d.ok 0x30 0 0 [0xFFFFFFFF, 0, 0, 0x10F, 0xFFFF] = true
      → Block.vlMask d ≠ [] → (∀ a ∈ ((Block.vlMask d).map fun k => DieAct.shot k (k / 16 * 16 + bits (d.dw 8) 3 0)
      (d.dw 9)), s.blk.missOf a = .no) → Completes (.vlvShot d) s fun b => (b.dieq = s.blk.dieq ++
      [{ desc := d, parts := ((Block.vlMask d).map fun k => DieAct.shot k (k / 16 * 16 + bits (d.dw 8) 3 0) (d.dw 9)), sync := bit (d.dw 8) 8 }])
      ∧ s.blk.Beside (offsOf [R.HQ_QSTAT] ++ d.regs) ([Part.chn, Part.dieq, Part.flights] ++ d.parts) b) ∧
  (∀ (s : State) (c : DieCmd) (n : Fin 32) (prof : Fin 32) (hold : Nat), s.blk.Ready → s.blk.dieq = [c] → c.parts =
      [.shot n prof hold] → c.sync = false → c.missed = 0 → s.blk.missOf (.shot n prof hold) = .no → s.blk.getF
      F.VLV_STAT_LOCKED n = 0 → s.blk.getF F.BST_BSTAT_BSTATE (n / 4) ≠ 3 → s.blk.hasBoost prof = false → s.blk.ipMa
      prof ≠ 0 → s.blk.Single c.desc → Completes (.dieAcknowledge (Fin.ofNat 6 (4 + n / 16))) s fun b => (b.dieq =
      [] ∧ b.vlSt n = Vl.peak ∧ (b.vl n).last = some s.blk.pw.tbase ∧ b.answered c.desc (fun x => x.status == St.ok)
      = true) ∧ s.blk.Beside (offsOf (Regs.answers ++ [R.BST_BSTAT, R.BST_STAT, R.DIO_DOCMD, R.DIO_DOSTAT,
      R.DIO_SVSTAT, R.HB_CMD, R.HB_FBSTAT, R.HB_STAT, R.HSW_CMD, R.HSW_STAT, R.LMP_FADE, R.LMP_LEVEL, R.LMP_TARGET])
      ++ R.VLV_COUNT.four (n.val / 4 * 4) ++ R.VLV_MEAS.four (n.val / 4 * 4) ++ R.VLV_STAT.four (n.val / 4 * 4))
      ([Part.dieq, Part.lsBy] ++ Part.chans ++ Part.dOuts ++ Part.fades ++ Part.fbs ++ Part.mtxs ++ Part.svs ++
      Part.valves ++ Part.answers) b) ∧
  (∀ (s : State) (d : Desc), s.blk.Ready → s.blk.Executes d → s.blk.Single d → d.ok 0x31 8 2048 [0, 0, 0, 0xF,
      0xFFFFFFFF] = true → d.len % 8 = 0 → s.blk.weirState ≠ 2 → s.blk.getF F.VLV_TSTAT_TSTATE (bits (d.dw 8) 3 0) <
      2 → (List.range ((Block.pieces 8 256 (d.payload.take d.len)).map (Block.shotEntry (bits (d.dw 8) 3 0 /
      8))).length).all (fun i => !s.blk.badEntry (d.dw 9) ((Block.pieces 8 256 (d.payload.take d.len)).map
      (Block.shotEntry (bits (d.dw 8) 3 0 / 8))) i) = true → Completes (.vlvTable d) s fun b => (b.answered d (fun x
      => x.status == St.ok) = true ∧ b.getF F.VLV_TSTAT_TSTATE (bits (d.dw 8) 3 0) = 1 ∧ (b.tbl (bits (d.dw 8) 3
      0)).period = d.dw 9 ∧ (b.tbl (bits (d.dw 8) 3 0)).entries = ((Block.pieces 8 256 (d.payload.take d.len)).map
      (Block.shotEntry (bits (d.dw 8) 3 0 / 8))).map Prod.fst) ∧ s.blk.Beside (offsOf [R.HQ_QSTAT, R.VLV_TSTAT] ++
      d.regs) ([Part.chn, Part.flights] ++ Part.tables ++ d.parts) b) ∧
  (∀ (s : State) (d : Desc), s.blk.Ready → s.blk.Executes d → s.blk.Single d → d.ok 0x32 0 0 [0, 0xFFFF, 0, 0xF03,
      0, 0xFFFFFFFF, 0xFFFFFFFF] = true → s.blk.weirState ≠ 2 → d.dw 8 = 0 → d.dw 10 = 0 → d.dw 11 = 0 →
      (Block.tblMask d).length = 1 → (∀ u ∈ List.range 16, s.blk.tblRuns u = false) → (∀ k ∈ Block.tblMask d,
      s.blk.getF F.VLV_TSTAT_TSTATE k = 1 ∧ s.blk.pairHeldTbl k = false) → Completes (.vlvStart d) s fun b =>
      (b.answered d (fun x => x.status == St.ok) = true ∧ (∀ k ∈ Block.tblMask d, b.getF F.VLV_TSTAT_TSTATE k = 2 ∧
      (b.tbl k).start = s.blk.pw.tbase + 1)) ∧ s.blk.Beside (offsOf [R.HQ_QSTAT, R.VLV_TSTAT] ++ d.regs) ([Part.chn,
      Part.flights] ++ Part.tables ++ d.parts) b) ∧
  (∀ (s : State) (d : Desc), s.blk.Ready → s.blk.Executes d → s.blk.Single d → d.ok 0x33 0 0 [0, 0xFFFF, 0, 1] =
      true → s.blk.weirState ≠ 2 → Block.tblMask d ≠ [] → (∀ k ∈ Block.tblMask d, s.blk.pairHeldTbl k = false) →
      Completes (.vlvStop d) s fun b => (b.answered d (fun x => x.status == St.ok) = true ∧ (∀ k ∈ Block.tblMask d,
      b.tblRuns k = false ∧ (b.tbl k).inPlace = none)) ∧ s.blk.Beside (offsOf [R.BST_BSTAT, R.HQ_QSTAT, R.VLV_COUNT,
      R.VLV_MEAS, R.VLV_STAT, R.VLV_TSTAT] ++ d.regs) ([Part.chn, Part.flights, Part.lsBy] ++ Part.tables ++
      Part.valves ++ d.parts) b) ∧
  (∀ (s : State) (d : Desc), s.blk.Ready → s.blk.Executes d → s.blk.Single d → d.ok 0x34 0 0 [0xFFFFFFFF, 0xFF, 0,
      7] = true → s.blk.weirState ≠ 2 → Block.vlMask d ≠ [] → bit (d.dw 8) 2 = false → (∀ k ∈ Block.vlMask d,
      Tab.get false s.blk.pw.linkFail (4 + k / 16) = false) → Completes (.vlvClear d) s fun b => (b.answered d (fun
      x => x.status == St.ok) = true ∧ (∀ k ∈ Block.vlMask d, (bit (d.dw 8) 0 = true → b.flag F.VLV_STAT_LOCKED k =
      false) ∧ (bit (d.dw 8) 1 = true → bits (b.rd R.VLV_STAT k) 16 8 = 0))) ∧ s.blk.Beside (offsOf [R.BST_BSTAT,
      R.HQ_QSTAT, R.VLV_CFG, R.VLV_COUNT, R.VLV_MEAS, R.VLV_STAT, R.VLV_TEMP, R.VLV_TSTAT] ++ d.regs) ([Part.chn,
      Part.flights, Part.lsBy] ++ Part.valves ++ d.parts) b) ∧
  (∀ (s : State) (d : Desc), s.blk.Ready → s.blk.Executes d → s.blk.Single d → d.ok 0x35 (16 * (Block.vlMask
      d).length) 65536 [0xFFFFFFFF] = true → Block.vlMask d ≠ [] → Completes (.vlvRead d) s fun b => (b.answered d
      (fun x => x.status == St.ok && x.data == ((Block.vlMask d).map s.blk.vlRecord).flatten) = true) ∧ s.blk.Beside
      d.regs d.parts b) ∧
  (∀ (s : State) (d : Desc), s.blk.Ready → s.blk.Executes d → s.blk.Single d → d.ok 0x36 0 0 [0, 0, 0, 0x103, 0x3FF]
      = true → s.blk.weirState ≠ 2 → bits (d.dw 8) 1 0 ≠ 0 → 400 ≤ d.dw 9 → d.dw 9 ≤ 720 → Completes (.bstSet d) s
      fun b => (b.answered d (fun x => x.status == St.ok) = true ∧ (∀ j ∈ List.range 2, bit (d.dw 8) j = true →
      b.getF F.BST_CFG_VSET j = d.dw 9 ∧ b.getF F.BST_CFG_EN j = b2n (bit (d.dw 8) 8))) ∧ s.blk.Beside (offsOf
      [R.BST_CFG, R.BST_STAT, R.HQ_QSTAT] ++ d.regs) ([Part.chn, Part.flights] ++ d.parts) b)

/-- The lamp and matrix descriptors go to their dies, read and clear (from R243 to R245). Rests on R243, R244, R245;
the clauses state the parts of these rules that they write out. Choices of the model in it: log 24, 139. -/
def Obligations.LampDescriptors : Prop :=
  (∀ (s : State) (d : Desc), s.blk.Ready → s.blk.Executes d → d.ok 0x40 0 0 [0xFFFFFFFF, 0xFFFFFFFF, 0xFFFFFFFF,
      0x101FFFF, 0xFFFF] = true → d.dw 8 % 2 ^ 24 ≤ 65536 → Block.hsMask d ≠ [] → (∀ a ∈ ((Block.hsMask d).map fun k
      => DieAct.lamp k (d.dw 8 % 2 ^ 24) (d.dw 9)), s.blk.missOf a = .no) → Completes (.lmpSet d) s fun b => (b.dieq
      = s.blk.dieq ++
      [{ desc := d, parts := ((Block.hsMask d).map fun k => DieAct.lamp k (d.dw 8 % 2 ^ 24) (d.dw 9)), sync := bit (d.dw 8) 24 }])
      ∧ s.blk.Beside (offsOf [R.HQ_QSTAT] ++ d.regs) ([Part.chn, Part.dieq, Part.flights] ++ d.parts) b) ∧
  (∀ (s : State) (d : Desc), s.blk.Ready → s.blk.Executes d → d.ok 0x41 8 768 [0, 0, 0, 0x1000000] = true → d.len %
      8 = 0 → d.payload ≠ [] → ((Block.pieces 8 96 (d.payload.take d.len)).map Block.lmpEntry).all (fun e => e.2.2)
      = true → (∀ a ∈ ((((Block.pieces 8 96 (d.payload.take d.len)).map Block.lmpEntry).foldl (fun (t : Tab (Nat ×
      Nat)) e => Tab.put t e.1 e.2.1) []).map fun e : Nat × Nat × Nat => DieAct.lamp e.1 e.2.2 e.2.1), s.blk.missOf
      a = .no) → Completes (.lmpSetlist d) s fun b => (b.dieq = s.blk.dieq ++
      [{ desc := d, parts := ((((Block.pieces 8 96 (d.payload.take d.len)).map Block.lmpEntry).foldl (fun (t : Tab (Nat × Nat)) e => Tab.put t e.1 e.2.1) []).map fun e : Nat × Nat × Nat => DieAct.lamp e.1 e.2.2 e.2.1), sync := bit (d.dw 8) 24 }])
      ∧ s.blk.Beside (offsOf [R.HQ_QSTAT] ++ d.regs) ([Part.chn, Part.dieq, Part.flights] ++ d.parts) b) ∧
  (∀ (s : State) (d : Desc), s.blk.Ready → s.blk.Executes d → d.ok 0x42 0 0 [0xFFFF, 0, 0, 0x1FFFF, 0x1FFFF,
      0x1FFFF, 0x100FFFF] = true → ((List.range 16).filter fun g => bit (d.dw 5) g) ≠ [] → d.dw 8 ≤ 65536 → d.dw 9 ≤
      65536 → d.dw 10 ≤ 65536 → (∀ a ∈ (((List.range 16).filter fun g => bit (d.dw 5) g).map fun g => DieAct.colour
      g (dieOf (s.blk.getF F.LMP_GRP_CH0 g)) (d.dw 8) (d.dw 9) (d.dw 10) (bits (d.dw 11) 15 0)), s.blk.missOf a =
      .no) → Completes (.lmpColour d) s fun b => (b.dieq = s.blk.dieq ++
      [{ desc := d, parts := (((List.range 16).filter fun g => bit (d.dw 5) g).map fun g => DieAct.colour g (dieOf (s.blk.getF F.LMP_GRP_CH0 g)) (d.dw 8) (d.dw 9) (d.dw 10) (bits (d.dw 11) 15 0)), sync := bit (d.dw 11) 24 }])
      ∧ s.blk.Beside (offsOf [R.HQ_QSTAT] ++ d.regs) ([Part.chn, Part.dieq, Part.flights] ++ d.parts) b) ∧
  (∀ (s : State) (d : Desc), s.blk.Ready → s.blk.Executes d → d.ok 0x48 512 2048 [0, 0, 0, 0x10F] = true →
      ((List.range 4).filter fun k => bit (d.dw 8) k) ≠ [] → d.len = 512 * ((List.range 4).filter fun k => bit (d.dw
      8) k).length → (∀ a ∈ (((List.range 4).filter fun k => bit (d.dw 8) k).zipIdx.map fun p => DieAct.frame p.1
      ((d.payload.drop (512 * p.2)).take 512)), s.blk.missOf a = .no) → Completes (.mtxFrame d) s fun b => (b.dieq =
      s.blk.dieq ++
      [{ desc := d, parts := (((List.range 4).filter fun k => bit (d.dw 8) k).zipIdx.map fun p => DieAct.frame p.1 ((d.payload.drop (512 * p.2)).take 512)), sync := bit (d.dw 8) 8 }])
      ∧ s.blk.Beside (offsOf [R.HQ_QSTAT] ++ d.regs) ([Part.chn, Part.dieq, Part.flights] ++ d.parts) b) ∧
  (∀ (s : State) (d : Desc), s.blk.Ready → s.blk.Executes d → s.blk.Single d → d.ok 0x43 (16 * (Block.hsMask
      d).length) 65536 [0xFFFFFFFF, 0xFFFFFFFF, 0xFFFFFFFF] = true → Block.hsMask d ≠ [] → Completes (.lmpRead d) s
      fun b => (b.answered d (fun x => x.status == St.ok && x.data == ((Block.hsMask d).map
      s.blk.lmpRecord).flatten) = true) ∧ s.blk.Beside d.regs d.parts b) ∧
  (∀ (s : State) (d : Desc), s.blk.Ready → s.blk.Executes d → s.blk.Single d → d.ok 0x44 0 0 [0xFFFFFFFF,
      0xFFFFFFFF, 0xFFFFFFFF, 1] = true → Block.hsMask d ≠ [] → bit (d.dw 8) 0 = true → (∀ k ∈ Block.hsMask d,
      s.blk.missOf (.lamp k 0 0) = .no) → Completes (.lmpClear d) s fun b => (b.answered d (fun x => x.status ==
      St.ok && x.cw2 == (Block.hsMask d).length) = true ∧ (∀ k ∈ Block.hsMask d, b.getF F.LMP_DIAG_LOWI k = 0 ∧
      b.getF F.LMP_DIAG_HIGHI k = 0 ∧ b.getF F.LMP_FADE_FCUT k = 0)) ∧ s.blk.Beside (offsOf [R.HQ_QSTAT, R.LMP_DIAG,
      R.LMP_FADE] ++ d.regs) ([Part.chn, Part.dieq, Part.flights] ++ d.parts) b) ∧
  (∀ (s : State) (d : Desc), s.blk.Ready → s.blk.Executes d → s.blk.Single d → d.ok 0x49 272 65536 [0, 0, 0, 3] =
      true → Completes (.mtxRead d) s fun b => (b.answered d (fun x => x.status == St.ok && x.data.length == 272 &&
      x.data.take 16 == leBytes 4 (s.blk.rd R.MTX_STAT (bits (d.dw 8) 1 0)) ++ leBytes 4 (s.blk.rd R.MTX_LFLT (bits
      (d.dw 8) 1 0)) ++ leBytes 4 (s.blk.rd R.MTX_CFLT (bits (d.dw 8) 1 0)) ++ leBytes 4 (s.blk.rd R.MTX_DCNT (bits
      (d.dw 8) 1 0))) = true) ∧ s.blk.Beside d.regs d.parts b) ∧
  (∀ (s : State) (d : Desc), s.blk.Ready → s.blk.Executes d → s.blk.Single d → d.ok 0x4A 0 0 [0, 0, 0, 0x30F] = true
      → ((List.range 4).filter fun k => bit (d.dw 8) k) ≠ [] → (∀ k ∈ ((List.range 4).filter fun k => bit (d.dw 8)
      k), Tab.get false s.blk.pw.linkFail k = false ∧ s.blk.getF F.MTX_STAT_STATE k ≠ 0 ∧ s.blk.getF
      F.MTX_STAT_STATE k ≠ 3) → Completes (.mtxClear d) s fun b => (b.answered d (fun x => x.status == St.ok) = true
      ∧ (∀ k ∈ ((List.range 4).filter fun k => bit (d.dw 8) k), (bit (d.dw 8) 8 = true → bits (b.rd R.MTX_STAT k) 6
      2 = 0) ∧ (bit (d.dw 8) 9 = true → b.getF F.MTX_LFLT_LSHORT k = 0 ∧ b.getF F.MTX_CFLT_CSHORT k = 0))) ∧
      s.blk.Beside (offsOf [R.HQ_QSTAT, R.MTX_CFLT, R.MTX_LFLT, R.MTX_STAT] ++ d.regs) ([Part.chn, Part.flights] ++
      d.parts) b)

/-- Fades, RGB groups and matrix ports run, trip and restart (from R222, R223 and R229 to R236). Rests on R222,
R223, R229, R232, R233, R235, R236; the clauses state the parts of these rules that they write out. Choices of the
model in it: log 22, 23. -/
def Obligations.LampsAndMatrices : Prop :=
  (∀ (s : State) (n : Fin 96) (f : Fade) (x : Nat) (y : Nat), s.blk.Ready → s.blk.fades = [n.val] → s.blk.fadeOf n =
      some f → f.started = true → f.frozen = false → f.start = [x] → f.target = [y] → Completes .fadeStep s fun b =>
      b.fadeOf n = some { f with passed := min f.total (f.passed + 1) } ∧ b.lampLevel n = fadeValue (s.blk.flag
      F.LMP_CFG_CURVE n) x y (min f.total (f.passed + 1)) f.total % 2 ^ 17 ∧ b.getF F.LMP_FADE_REMAIN n = (f.total -
      min f.total (f.passed + 1)) % 2 ^ 16 ∧ s.blk.Beside (R.HSW_CMD.pair n.val ++ R.HSW_STAT.pair n.val ++
      R.LMP_FADE.pair n.val ++ R.LMP_LEVEL.pair n.val) (Part.chanPair n.val ++ Part.fadePair n.val) b) ∧
  (∀ (s : State) (who : Who) (g : Fin 16) (w : Word), s.blk.Ready → s.blk.CanWrite who (R.LMP_GRP.at g) →
      s.blk.isLocked = false → s.blk.flag F.LMP_GRP_EN g = false → bit w.toNat 24 = true → (∀ n ∈ [bits w.toNat 6 0,
      bits w.toNat 14 8, bits w.toNat 22 16], n < 96 ∧ s.blk.flag F.HSW_CFG_LAMP n = true ∧ s.blk.isFollower n =
      false ∧ s.blk.flag F.LMP_CFG_INGRP n = false ∧ dieOf n = dieOf (bits w.toNat 6 0) ∧ s.blk.cget C.period n =
      s.blk.cget C.period (bits w.toNat 6 0)) → bits w.toNat 6 0 ≠ bits w.toNat 14 8 → bits w.toNat 14 8 ≠ bits
      w.toNat 22 16 → bits w.toNat 6 0 ≠ bits w.toNat 22 16 → Completes (.groupEnable who g w) s fun b => b.flag
      F.LMP_GRP_EN g = true ∧ b.getF F.LMP_GRP_GERR g = 0 ∧ b.grpChans g = [bits w.toNat 6 0, bits w.toNat 14 8,
      bits w.toNat 22 16] ∧ (∀ n ∈ b.grpChans g, b.flag F.LMP_CFG_INGRP n = true)) ∧
  (∀ (s : State) (who : Who) (k : Fin 4), s.blk.Ready → s.blk.CanWrite who (R.MTX_CFG.at k) → (s.blk.getF
      F.MTX_STAT_STATE k = 0 ∨ s.blk.getF F.MTX_STAT_STATE k = 3) → Completes (.matrixEnable who k) s fun b =>
      (b.getF F.MTX_CFG_EN k = 1 ∧ b.getF F.MTX_STAT_STATE k = (if Tab.get false s.blk.pw.feedOff 2 then 2 else 1))
      ∧ s.blk.Beside [R.MTX_CFG.at k.val, R.MTX_STAT.at k.val] [Part.mtx k.val] b) ∧
  (∀ (s : State) (who : Who) (k : Fin 4), s.blk.Ready → s.blk.CanWrite who (R.MTX_CFG.at k) → Completes
      (.matrixDisable who k) s fun b => b.getF F.MTX_CFG_EN k = 0 ∧ b.getF F.MTX_STAT_STATE k = 0 ∧ (b.mtx
      k).onTicks = [] ∧ s.blk.Beside [R.MTX_CFG.at k.val, R.MTX_STAT.at k.val] [Part.mtx k.val] b) ∧
  (∀ (s : State) (rails : List Nat) (volts : List (Nat × Nat × Nat)) (k : Fin 4), s.blk.Ready → s.blk.getF
      F.MTX_STAT_STATE k = 1 → Completes (.matrixFrameStart rails volts) s fun b => ((b.mtx k).scanned = true ∧
      b.getF F.MTX_STAT_FRAMES k = (if (s.blk.mtx k).scanned then (s.blk.getF F.MTX_STAT_FRAMES k + 1) % 65536 else
      s.blk.getF F.MTX_STAT_FRAMES k) ∧ (b.mtx k).line = 0 ∧ (b.mtx k).front = (if (s.blk.mtx k).swap then
      (s.blk.mtx k).back else (s.blk.mtx k).front) ∧ (b.mtx k).swap = false ∧ b.getF F.MTX_VMX_VOUT k = rails.getD k
      0 % 256) ∧ s.blk.Beside (offsOf [R.ACS_REL, R.ACS_RELCNT, R.ACS_STAT, R.CAN_STAT, R.CIPH_CNT, R.CIPH_LOAD,
      R.CIPH_STAT, R.ETH_PSTAT, R.KEY_CACHE, R.KEY_CCNT, R.KEY_STAT, R.LIN_STAT, R.MTX_VMX, R.PKE_STAT] ++
      [R.MTX_DCNT.at k.val, R.MTX_LFLT.at k.val, R.MTX_STAT.at k.val]) ([Part.acs, Part.ciph, Part.net] ++
      Part.buses ++ Part.mtxs) b) ∧
  (∀ (s : State) (k : Fin 4), s.blk.Ready → s.blk.getF F.MTX_STAT_STATE k = 1 → (s.blk.mtx k).scanned = true →
      Completes .matrixLineSwitch s fun b => (Out.mtxBlank k [(0, .sinksOff), (40, .lineOff (s.blk.mtx k).line
      ((s.blk.getF F.MTX_VMX_VSET k : Int) * 100 - (s.blk.getF F.MTX_CFG_VPRE k : Int) * 250)), (200, .release),
      (240, .lineOn (((s.blk.mtx k).line + 1) % 16))] ∈ b.out ∧ (b.mtx k).line = ((s.blk.mtx k).line + 1) % 16 ∧
      (b.mtx k).onTicks = (List.range 32).map fun j => if s.blk.lineOff k (((s.blk.mtx k).line + 1) % 16) ||
      s.blk.colOff k j then 0 else Block.ledOn (Block.ledAt (s.blk.mtx k).front (32 * (((s.blk.mtx k).line + 1) %
      16) + j))) ∧ s.blk.Beside (offsOf [R.ACS_REL, R.ACS_RELCNT, R.ACS_STAT, R.CAN_STAT, R.CIPH_CNT, R.CIPH_LOAD,
      R.CIPH_STAT, R.ETH_PSTAT, R.KEY_CACHE, R.KEY_CCNT, R.KEY_STAT, R.LIN_STAT, R.PKE_STAT]) ([Part.acs, Part.ciph,
      Part.mtx k.val, Part.net] ++ Part.buses) b) ∧
  (∀ (s : State) (k : Fin 4) (vout : Nat), s.blk.Ready → s.blk.getF F.MTX_STAT_STATE k = 1 → (vout * 10 < s.blk.getF
      F.MTX_VMX_VSET k * 9 ∨ s.blk.getF F.MTX_VMX_VSET k * 11 < vout * 10) → Completes (.vmxFault k vout) s fun b =>
      b.getF F.MTX_STAT_STATE k = 3 ∧ b.getF F.MTX_STAT_VMXF k = 1 ∧ (b.mtx k).onTicks = [] ∧ s.blk.Beside
      [R.MTX_STAT.at k.val, R.MTX_VMX.at k.val] [Part.mtx k.val] b) ∧
  (∀ (s : State) (k : Fin 4) (i : Fin 16) (ma : Nat), s.blk.Ready → s.blk.getF F.MTX_STAT_STATE k = 1 → 6000 < ma →
      s.blk.lineOff k i = false → Completes (.lineShortTrip k i ma) s fun b => b.lineOff k i = true ∧ b.getF
      F.MTX_STAT_LINEF k = 1 ∧ b.HasEvent (184 + k) ∧ s.blk.Beside [R.MTX_DCNT.at k.val, R.MTX_LFLT.at k.val,
      R.MTX_STAT.at k.val] [Part.mtx k.val] b) ∧
  (∀ (s : State) (k : Fin 4) (j : Fin 32) (ma : Nat), s.blk.Ready → s.blk.getF F.MTX_STAT_STATE k = 1 → 250 < ma →
      s.blk.colOff k j = false → Completes (.columnShortTrip k j ma) s fun b => b.colOff k j = true ∧ b.getF
      F.MTX_STAT_COLF k = 1 ∧ b.HasEvent (184 + k) ∧ s.blk.Beside [R.MTX_CFLT.at k.val, R.MTX_DCNT.at k.val,
      R.MTX_LFLT.at k.val, R.MTX_STAT.at k.val] [Part.mtx k.val] b) ∧
  (∀ (s : State) (who : Who) (k : Fin 4) (m : BitVec 16), s.blk.Ready → s.blk.CanWrite who (R.MTX_LFLT.at k) →
      Completes (.matrixLineRestart who k m) s fun b => (∀ i ∈ List.range 16, b.lineOff k i = (s.blk.lineOff k i &&
      !m.getLsbD i)) ∧ s.blk.Beside [R.MTX_LFLT.at k.val] [] b) ∧
  (∀ (s : State) (who : Who) (k : Fin 4) (m : Word), s.blk.Ready → s.blk.CanWrite who (R.MTX_CFLT.at k) → Completes
      (.matrixColumnRestart who k m) s fun b => (∀ i ∈ List.range 32, b.colOff k i = (s.blk.colOff k i && !m.getLsbD
      i)) ∧ s.blk.Beside [R.MTX_CFLT.at k.val] [] b)

/-- The pixel descriptors load scenes, patches, levels, assets, frames and zones, read and clear (from R254 to R261,
R269, R271 and R277). Rests on R254, R255, R260, R261, R269, R271, R277; the clauses state the parts of these rules
that they write out. Choices of the model in it: log 28, 139. -/
def Obligations.PixelDescriptors : Prop :=
  (∀ (s : State) (d : Desc), s.blk.Ready → s.blk.Executes d → s.blk.Single d → d.ok 0x50 32 8192 [0, 0, 0,
      0x100FFFF, 0xFFFF] = true → d.len % 32 = 0 → Block.pxMask d ≠ [] → ((Block.pieces 32 256 (d.payload.take
      d.len)).any primBad) = false → s.blk.pxHeld = false → (∀ n ∈ Block.pxMask d, s.blk.pxMiss n (some false) =
      false) → Completes (.pxScene d) s fun b => (b.answered d (fun x => x.status == St.ok && x.cw2 == (Block.pxMask
      d).length) = true ∧ (∀ n ∈ Block.pxMask d, (b.pxp n).loaded = some (d.dw 9) ∧ (b.pxp n).xfade = none ∧ b.getF
      F.PXL_FADE_XFADING n = 0)) ∧ s.blk.Beside (offsOf [R.HQ_QSTAT, R.PXL_FADE] ++ d.regs) ([Part.chn, Part.ecc,
      Part.flights, Part.mem] ++ Part.pxs ++ d.parts) b) ∧
  (∀ (s : State) (d : Desc), s.blk.Ready → s.blk.Executes d → s.blk.Single d → d.ok 0x51 36 576 [0, 0, 0, 0xF] =
      true → d.len % 36 = 0 → ((Block.pieces 36 16 (d.payload.take d.len)).all fun e => decide (ofLe (e.take 4) ≤
      255) && !primBad (e.drop 4)) = true → s.blk.pxHeld = false → s.blk.pxMiss (bits (d.dw 8) 3 0) (some false) =
      false → Completes (.pxPatch d) s fun b => (b.answered d (fun x => x.status == St.ok) = true ∧ (b.pxp (bits
      (d.dw 8) 3 0)).patch = (s.blk.pxp (bits (d.dw 8) 3 0)).patch ++ ((Block.pieces 36 16 (d.payload.take
      d.len)).map fun e => (ofLe (e.take 4), e.drop 4))) ∧ s.blk.Beside (offsOf [R.HQ_QSTAT] ++ d.regs) ([Part.chn,
      Part.flights] ++ Part.pxs ++ d.parts) b) ∧
  (∀ (s : State) (d : Desc), s.blk.Ready → s.blk.Executes d → s.blk.Single d → d.ok 0x52 0 0 [0, 0, 0, 0x100FFFF,
      0x1FFFF, 0xFFFF] = true → d.dw 9 ≤ 65536 → Block.pxMask d ≠ [] → s.blk.pxHeld = false → (∀ n ∈ Block.pxMask d,
      s.blk.pxMiss n none = false ∧ (s.blk.pxp n).dim = false) → Completes (.pxLevel d) s fun b => (b.answered d
      (fun x => x.status == St.ok) = true ∧ (∀ n ∈ Block.pxMask d, b.getF F.PXL_TARGET_TARGET n = d.dw 9 ∧ b.getF
      F.PXL_FADE_FADING n = (if s.blk.getF F.PXL_LEVEL_LEVEL n = d.dw 9 then 0 else 1) ∧ ((b.pxp n).fade.isSome =
      !decide (s.blk.getF F.PXL_LEVEL_LEVEL n = d.dw 9)))) ∧ s.blk.Beside (offsOf [R.HQ_QSTAT, R.PXL_FADE,
      R.PXL_TARGET] ++ d.regs) ([Part.chn, Part.flights] ++ Part.pxs ++ d.parts) b) ∧
  (∀ (s : State) (d : Desc), s.blk.Ready → s.blk.Executes d → s.blk.Single d → d.ok 0x52 0 0 [0, 0, 0, 0x100FFFF,
      0x1FFFF, 0xFFFF] = true → d.dw 9 ≤ 65536 → Block.pxMask d ≠ [] → s.blk.pxHeld = true → Completes (.pxLevel d)
      s fun b => (b.answered d (fun x => x.status == St.refused && x.cw2 == (Block.pxMask d).length * 256) = true) ∧
      s.blk.Beside (offsOf [R.HQ_QSTAT, R.PXL_FADE, R.PXL_TARGET] ++ d.regs) ([Part.chn, Part.flights] ++ Part.pxs
      ++ d.parts) b) ∧
  (∀ (s : State) (d : Desc), s.blk.Ready → s.blk.Executes d → s.blk.Single d → d.ok 0x53 4 65536 [0, 0, 0, 0,
      0x3FFFFF] = true → d.len % 4 = 0 → d.dw 9 + d.len ≤ pxPoolSize → d.len ≤ d.payload.length → s.blk.pxHeld =
      false → s.blk.poolRead (d.dw 9) d.len = false → s.blk.flag F.CATCH_INJ_ARM 0 = false → d.src.isRing = false →
      Completes (.pxAsset d) s fun b => (b.answered d (fun x => x.status == St.ok) = true ∧ b.readMem (pxPool + d.dw
      9) d.len = d.payload.take d.len) ∧ s.blk.Beside (offsOf [R.HQ_QSTAT] ++ d.regs) ([Part.chn, Part.ecc,
      Part.flights, Part.mem, Part.pxHeld] ++ d.parts) b) ∧
  (∀ (s : State) (d : Desc), s.blk.Ready → s.blk.px.held = [d] → s.blk.Single d → d.src.isRing = false → d.len ≤
      d.payload.length → s.blk.poolRead (d.dw 9) d.len = false → s.blk.flag F.CATCH_INJ_ARM 0 = false → Completes
      .pxAssetWriteDone s fun b => (b.px.held = [] ∧ b.answered d (fun x => x.status == St.ok) = true ∧ b.readMem
      (pxPool + d.dw 9) d.len = d.payload.take d.len) ∧ s.blk.Beside d.regs ([Part.ecc, Part.mem, Part.pxHeld] ++
      d.parts) b) ∧
  (∀ (s : State) (d : Desc), s.blk.Ready → s.blk.Executes d → s.blk.Single d → d.ok 0x54 4 65536 [0, 0, 0, 0xF] =
      true → d.len = 2 * s.blk.pxCount (bits (d.dw 8) 3 0) → s.blk.pxHeld = false → s.blk.pxMiss (bits (d.dw 8) 3 0)
      (some true) = false → s.blk.hasSlot (bits (d.dw 8) 3 0) = true → d.len ≤ d.payload.length → s.blk.flag
      F.CATCH_INJ_ARM 0 = false → d.src.isRing = false → Completes (.pxFrame d) s fun b => (b.answered d (fun x =>
      x.status == St.ok) = true ∧ (b.pxp (bits (d.dw 8) 3 0)).slot.any (fun k => (b.pxp (bits (d.dw 8) 3
      0)).stream.any fun i => !((s.blk.pxp (bits (d.dw 8) 3 0)).render.any fun r => r.stream == some (some (pxStream
      k i))) && b.readMem (pxStream k i) d.len == d.payload.take d.len) = true) ∧ s.blk.Beside (offsOf [R.HQ_QSTAT]
      ++ d.regs) ([Part.chn, Part.ecc, Part.flights, Part.mem] ++ Part.pxs ++ d.parts) b) ∧
  (∀ (s : State) (d : Desc), s.blk.Ready → s.blk.Executes d → s.blk.Single d → d.ok 0x55 4 65536 [0, 0, 0, 0xF] =
      true → d.len = s.blk.pxCount (bits (d.dw 8) 3 0) / 2 → d.len ≤ d.payload.length → s.blk.pxHeld = false →
      s.blk.isLocked = false → s.blk.pxMiss (bits (d.dw 8) 3 0) none = false → s.blk.flag F.CATCH_INJ_ARM 0 = false
      → d.src.isRing = false → Completes (.pxZone d) s fun b => (b.answered d (fun x => x.status == St.ok) = true ∧
      b.readMem (pxZones (bits (d.dw 8) 3 0)) d.len = d.payload.take d.len) ∧ s.blk.Beside (offsOf [R.HB_CMD,
      R.HB_STAT, R.HQ_QSTAT, R.HSW_CMD, R.HSW_STAT, R.PXL_DCNT, R.PXL_FADE, R.PXL_LEVEL, R.PXL_STAT, R.PXL_TARGET]
      ++ d.regs) ([Part.chn, Part.ecc, Part.flights, Part.mem] ++ Part.chans ++ Part.pxs ++ d.parts) b) ∧
  (∀ (s : State) (d : Desc), s.blk.Ready → s.blk.Executes d → s.blk.Single d → (d.ok 0x56 (64 + (if bit (d.dw 9) 0
      then s.blk.pxCount (bits (d.dw 8) 3 0) / 4 else 0)) 65536 [0, 0, 0, 0xF, 1] = true) → Completes (.pxRead d) s
      fun b => (b.answered d (fun x => x.status == St.ok && x.data.take 48 == [R.PXL_CFG, R.PXL_LINK, R.PXL_GEOM,
      R.PXL_CALID, R.PXL_LEVEL, R.PXL_TARGET, R.PXL_FADE, R.PXL_STAT, R.PXL_RENDER, R.PXL_DCNT, R.PXL_LTEMP,
      R.PXL_ZCFG].flatMap (fun r => leBytes 4 (s.blk.rd r (bits (d.dw 8) 3 0)))) = true) ∧ s.blk.Beside d.regs
      d.parts b) ∧
  (∀ (s : State) (d : Desc), s.blk.Ready → s.blk.Executes d → s.blk.Single d → d.ok 0x57 0 0 [0, 0, 0, 0xFFFF, 7] =
      true → Block.pxMask d ≠ [] → s.blk.pxHeld = false → (∀ n ∈ Block.pxMask d, s.blk.pxMiss n none = false) →
      Completes (.pxClear d) s fun b => (b.answered d (fun x => x.status == St.ok) = true ∧ (∀ n ∈ Block.pxMask d,
      (bit (d.dw 9) 0 = true → bits (b.rd R.PXL_STAT n) 11 4 = 0 ∧ b.getF F.PXL_RENDER_LATECNT n = 0) ∧ (bit (d.dw
      9) 1 = true → b.getF F.PXL_STAT_ZONEMASK n = 0 → (b.pxp n).blank = false ∧ (b.pxp n).dim = false ∧ b.pxState n
      = 2))) ∧ s.blk.Beside (offsOf [R.HB_CMD, R.HB_STAT, R.HQ_QSTAT, R.HSW_CMD, R.HSW_STAT, R.PXL_DCNT, R.PXL_FADE,
      R.PXL_LEVEL, R.PXL_LINK, R.PXL_RENDER, R.PXL_STAT, R.PXL_TARGET] ++ d.regs) ([Part.chn, Part.flights] ++
      Part.chans ++ Part.pxs ++ d.parts) b) ∧
  (∀ (s : State) (d : Desc), s.blk.Ready → s.blk.Executes d → d.ok 0x58 4 65536 [0, 0, 0, 0xF] = true → d.len = 2 *
      s.blk.pxCount (bits (d.dw 8) 3 0) → s.blk.pxHeld = false → s.blk.pxMiss (bits (d.dw 8) 3 0) none = false →
      (s.blk.pxp (bits (d.dw 8) 3 0)).fsimg = none → Completes (.pxFsimg d) s fun b => (b.pxp (bits (d.dw 8) 3
      0)).fsimg = some d ∧ (b.pxp (bits (d.dw 8) 3 0)).cmds = (s.blk.pxp (bits (d.dw 8) 3 0)).cmds ++
      Block.fsCommands (d.payload.take d.len) ∧ s.blk.Beside (offsOf [R.HQ_QSTAT] ++ d.regs) ([Part.chn,
      Part.flights] ++ Part.pxs ++ d.parts) b)

/-- Pixel ports are enabled, start frames, complete renders and send link cycles (from R247, R261 to R264, R267 and
R272). Rests on R247, R251, R261, R264, R267, R272; the clauses state the parts of these rules that they write out.
Choices of the model in it: log 26, 27, 30, 31, 139, 140. -/
def Obligations.PixelPorts : Prop :=
  (∀ (s : State) (who : Who) (n : Fin 16), s.blk.Ready → s.blk.CanWrite who (R.PXL_CFG.at n) → s.blk.getF
      F.PXL_CFG_EN n = 0 → (s.blk.flag F.PXL_CFG_MODE n = false ∨ ((List.range 16).filter fun m => s.blk.flag
      F.PXL_CFG_EN m && s.blk.flag F.PXL_CFG_MODE m).length < 4) → Completes (.pixelPortEnable who n) s fun b =>
      b.getF F.PXL_CFG_EN n = 1 ∧ b.pxState n = 1 ∧ b.getF F.PXL_LINK_LSTATE n = 1 ∧ b.getF F.PXL_LINK_FWDERR n = 0
      ∧ b.getF F.PXL_LINK_BCKERR n = 0 ∧ (b.pxp n).fails = 0 ∧ s.blk.Beside (offsOf Regs.answers ++ [R.PXL_CFG.at
      n.val, R.PXL_LINK.at n.val, R.PXL_STAT.at n.val]) ([Part.px n.val] ++ Part.answers) b) ∧
  (∀ (s : State) (who : Who) (n : Fin 16), s.blk.Ready → s.blk.CanWrite who (R.PXL_CFG.at n) → s.blk.getF
      F.PXL_CFG_EN n = 1 → Completes (.pixelPortDisable who n) s fun b => b.getF F.PXL_CFG_EN n = 0 ∧ b.pxState n =
      0 ∧ b.getF F.PXL_LINK_LSTATE n = 0 ∧ (b.pxp n).fade = none ∧ (b.pxp n).render = none ∧ (b.pxp n).cmds = [[9]]
      ∧ s.blk.Beside (offsOf (Regs.answers ++ [R.PXL_SHOAL]) ++ [R.PXL_CFG.at n.val, R.PXL_FADE.at n.val,
      R.PXL_LINK.at n.val, R.PXL_STAT.at n.val]) ([Part.px n.val] ++ Part.answers) b) ∧
  (∀ (s : State) (n : Fin 16), s.blk.Ready → s.blk.pxUp n = true → (s.blk.pxp n).render = none → Completes
      (.pixelFrameStart n) s fun b => ((b.pxp n).cycle = 0 ∧ (b.pxp n).ready = false ∧ (b.pxp n).front = (if
      (s.blk.pxp n).ready then 1 - (s.blk.pxp n).front else (s.blk.pxp n).front) ∧ (b.pxp n).render.isSome = true ∧
      (b.pxp n).patch = []) ∧ s.blk.Beside (offsOf (Regs.answers ++ [R.HB_CMD, R.HB_STAT, R.HSW_CMD, R.HSW_STAT,
      R.PXL_DCNT, R.PXL_FADE, R.PXL_LEVEL, R.PXL_RENDER, R.PXL_SHOAL, R.PXL_STAT, R.PXL_TARGET])) ([Part.px n.val]
      ++ Part.chans ++ Part.answers) b) ∧
  (∀ (s : State) (n : Fin 16) (load : Nat) (tooMuch : Bool) (r : Render), s.blk.Ready → (s.blk.pxp n).render = some
      r → s.blk.flag F.CATCH_INJ_ARM 0 = false → Completes (.renderComplete n load tooMuch) s fun b => ((b.pxp
      n).render = none ∧ (b.pxp n).ready = true ∧ b.getF F.PXL_LOAD_LOAD 0 = load % 65536 ∧ b.readMem (pxBuffer n (1
      - (s.blk.pxp n).front)) (2 * s.blk.pxCount n) = ((s.blk.renderY n r).zipIdx.map fun y => outCode
      (s.blk.curveAt n) (halfAt (s.blk.readMem (pxGains n) (2 * s.blk.pxCount n)) (2 * y.2)) r.level y.1).flatMap
      (leBytes 2)) ∧ s.blk.Beside (offsOf (Regs.answers ++ [R.PXL_LOAD, R.PXL_SHOAL]) ++ [R.PXL_RENDER.at n.val,
      R.PXL_STAT.at n.val]) ([Part.px n.val] ++ Part.answers) b) ∧
  (∀ (s : State) (n : Fin 16) (back : BackSeg), s.blk.Ready → back.ok = true → s.blk.pxUp n = true → (s.blk.pxp
      n).cmds = [] → (s.blk.pxp n).cycle < s.blk.pxCycles n → Completes (.linkCycle n back) s fun b => ((b.pxp
      n).cycle = (s.blk.pxp n).cycle + 1 ∧ (s.blk.getF F.PXL_LINK_LSTATE n ∈ [1, 2, 3, 4] → (b.pxp n).bad = 0) ∧
      b.out.any (fun x =>
      match x with | .pixel m h0 h12 data crc => m == n.val && h0 == 1 + b2n ((s.blk.pxp n).cycle == 0) * 16 + b2n ((s.blk.pxp n).cycle + 1 == s.blk.pxCycles n) * 32 && h12 == (s.blk.pxp n).cycle && data.length == 688 && crc == crc16 (leBytes 1 h0 ++ leBytes 2 h12 ++ data) | _ => false)
      = true) ∧ s.blk.Beside (offsOf (Regs.answers ++ [R.HB_CMD, R.HB_STAT, R.HSW_CMD, R.HSW_STAT, R.PXL_SHOAL]) ++
      [R.PXL_LTEMP.at n.val, R.PXL_DCNT.at n.val, R.PXL_FADE.at n.val, R.PXL_LEVEL.at n.val, R.PXL_LINK.at n.val,
      R.PXL_STAT.at n.val, R.PXL_TARGET.at n.val]) ([Part.px n.val] ++ Part.chans ++ Part.answers) b) ∧
  (∀ (s : State) (n : Fin 16) (back : BackSeg) (c : List Byte) (l : List (List Byte)), s.blk.Ready → s.blk.pxUp n =
      false → (s.blk.pxp n).cmds = c :: l → Completes (.linkCycle n back) s fun b => ((b.pxp n).cmds = l ∧ (b.pxp
      n).cmdSeq = ((s.blk.pxp n).cmdSeq + 1) % 65536 ∧ b.out.any (fun x =>
      match x with | .pixel m h0 h12 data _ => m == n.val && h0 == 2 && h12 == (s.blk.pxp n).cmdSeq && data == Block.pad688 c | _ => false)
      = true) ∧ s.blk.Beside (offsOf (Regs.answers ++ [R.HB_CMD, R.HB_STAT, R.HSW_CMD, R.HSW_STAT, R.PXL_SHOAL]) ++
      [R.PXL_LINK.at n.val, R.PXL_LTEMP.at n.val, R.PXL_DCNT.at n.val, R.PXL_FADE.at n.val, R.PXL_LEVEL.at n.val,
      R.PXL_STAT.at n.val, R.PXL_TARGET.at n.val]) ([Part.px n.val] ++ Part.chans ++ Part.answers) b) ∧
  (∀ (s : State) (n : Fin 16) (back : BackSeg), s.blk.Ready → back.ok = false → s.blk.getF F.PXL_LINK_LSTATE n ∈ [1,
      2, 3, 4] → (s.blk.pxp n).bad < 249 → Completes (.linkCycle n back) s fun b => (b.pxp n).bad = (s.blk.pxp
      n).bad + 1 ∧ b.getF F.PXL_LINK_BCKERR n = min 255 (s.blk.getF F.PXL_LINK_BCKERR n + 1) ∧ s.blk.Beside (offsOf
      (Regs.answers ++ [R.HB_CMD, R.HB_STAT, R.HSW_CMD, R.HSW_STAT, R.PXL_SHOAL]) ++ [R.PXL_LINK.at n.val,
      R.PXL_LTEMP.at n.val, R.PXL_DCNT.at n.val, R.PXL_FADE.at n.val, R.PXL_LEVEL.at n.val, R.PXL_STAT.at n.val,
      R.PXL_TARGET.at n.val]) ([Part.px n.val] ++ Part.chans ++ Part.answers) b)

/-- A pixel link trains, learns its lamp, reports and is lost (from R265 to R269 and R275 to R277). Rests on R265,
R267, R268, R269, R275, R276, R277; the clauses state the parts of these rules that they write out. Choices of the
model in it: log 25, 29, 30, 139. -/
def Obligations.PixelLink : Prop :=
  (∀ (s : State) (n : Fin 16), s.blk.Ready → s.blk.getF F.PXL_LINK_LSTATE n = 1 → Completes (.hello n 1) s fun b =>
      b.getF F.PXL_LINK_LSTATE n = 2 ∧ (b.pxp n).cmds = (s.blk.pxp n).cmds ++ [[1], BitVec.ofNat 8 3 :: leBytes 2
      (s.blk.getF F.PXL_LINK_LAMPTO n)] ∧ s.blk.Beside [R.PXL_LINK.at n.val] [Part.px n.val] b) ∧
  (∀ (s : State) (n : Fin 16) (bs : List Byte), s.blk.Ready → s.blk.getF F.PXL_LINK_LSTATE n = 2 → ((s.blk.pxp
      n).info ++ bs.take 6).length < 48 → Completes (.info n bs) s fun b => b.getF F.PXL_LINK_LSTATE n = 2 ∧ (b.pxp
      n).info = (s.blk.pxp n).info ++ bs.take 6 ∧ s.blk.Beside (offsOf [R.PXL_CALID, R.PXL_GEOM, R.PXL_LINK,
      R.PXL_STAT]) [Part.px n.val] b) ∧
  (∀ (s : State) (n : Fin 16) (bs : List Byte), s.blk.Ready → s.blk.getF F.PXL_LINK_LSTATE n = 2 → 48 ≤ ((s.blk.pxp
      n).info ++ bs.take 6).length → Block.geomOk (halfAt ((s.blk.pxp n).info ++ bs.take 6) 2) (halfAt ((s.blk.pxp
      n).info ++ bs.take 6) 4) = true → Completes (.info n bs) s fun b => b.getF F.PXL_LINK_LSTATE n = 3 ∧ b.pxW n =
      halfAt ((s.blk.pxp n).info ++ bs.take 6) 2 ∧ b.pxH n = halfAt ((s.blk.pxp n).info ++ bs.take 6) 4 ∧ (b.pxp
      n).cmds = (s.blk.pxp n).cmds ++ [[2]] ∧ s.blk.Beside [R.PXL_CALID.at n.val, R.PXL_GEOM.at n.val, R.PXL_LINK.at
      n.val, R.PXL_STAT.at n.val] [Part.px n.val] b) ∧
  (∀ (s : State) (n : Fin 16) (bs : List Byte), s.blk.Ready → s.blk.getF F.PXL_LINK_LSTATE n = 3 → ((s.blk.pxp
      n).cal ++ bs.take 6).length < 2 * s.blk.pxCount n + 4 → Completes (.cal n bs) s fun b => b.getF
      F.PXL_LINK_LSTATE n = 3 ∧ (b.pxp n).cal = (s.blk.pxp n).cal ++ bs.take 6 ∧ s.blk.Beside (offsOf (Regs.answers
      ++ [R.PXL_LINK, R.PXL_STAT])) ([Part.px n.val] ++ Part.answers) b) ∧
  (∀ (s : State) (n : Fin 16) (bs : List Byte), s.blk.Ready → s.blk.getF F.PXL_LINK_LSTATE n = 3 → 2 * s.blk.pxCount
      n + 4 ≤ ((s.blk.pxp n).cal ++ bs.take 6).length → crc32 (((s.blk.pxp n).cal ++ bs.take 6).take (2 *
      s.blk.pxCount n)) = ofLe ((((s.blk.pxp n).cal ++ bs.take 6).drop (2 * s.blk.pxCount n)).take 4) → s.blk.flag
      F.CATCH_INJ_ARM 0 = false → Completes (.cal n bs) s fun b => b.getF F.PXL_LINK_LSTATE n = 4 ∧ b.readMem
      (pxGains n) (2 * s.blk.pxCount n) = ((s.blk.pxp n).cal ++ bs.take 6).take (2 * s.blk.pxCount n) ∧ s.blk.Beside
      (offsOf Regs.answers ++ [R.PXL_LINK.at n.val, R.PXL_STAT.at n.val]) ([Part.px n.val] ++ Part.answers) b) ∧
  (∀ (s : State) (n : Fin 16) (c : BitVec 16) (flags : Word), s.blk.Ready → s.blk.getF F.PXL_LINK_LSTATE n ∈ [1, 2,
      3, 4] → 16 * c.toNat < s.blk.pxCount n → s.blk.flag F.CATCH_INJ_ARM 0 = false → Completes (.flags n c flags) s
      fun b => b.readMem (pxDiag n + 4 * c.toNat) 4 = leBytes 4 flags.toNat ∧ s.blk.Beside (offsOf (Regs.answers ++
      [R.HB_CMD, R.HB_STAT, R.HSW_CMD, R.HSW_STAT]) ++ [R.PXL_DCNT.at n.val, R.PXL_STAT.at n.val, R.PXL_FADE.at
      n.val, R.PXL_LEVEL.at n.val, R.PXL_TARGET.at n.val]) ([Part.px n.val] ++ Part.chans ++ Part.answers) b) ∧
  (∀ (s : State) (n : Fin 16) (x : BitVec 16), s.blk.Ready → x ≠ 0x8000#16 → Completes (.temp n x 0x8000 0x8000) s
      fun b => (b.getF F.PXL_LTEMP_TEMP n = x.toNat ∧ b.getF F.PXL_LTEMP_VALID n = 1 ∧ (b.pxp n).noTemp = 0 ∧
      ((s.blk.getF F.PXL_LTEMP_TWARN n * 16 : Nat) < x.toInt → b.getF F.PXL_STAT_LAMPOT n = 1)) ∧ s.blk.Beside
      [R.PXL_LTEMP.at n.val, R.PXL_STAT.at n.val] [Part.px n.val] b) ∧
  (∀ (s : State) (n : Fin 16) (errs : BitVec 16) (flags : Byte), s.blk.Ready → Completes (.status n errs flags) s
      fun b => ((b.pxp n).errLast = some errs.toNat ∧ b.getF F.PXL_LINK_FWDERR n = min 255 (s.blk.getF
      F.PXL_LINK_FWDERR n + (errs.toNat + 65536 - (s.blk.pxp n).errLast.getD errs.toNat) % 65536) ∧ (flags.getLsbD 0
      = true → b.getF F.PXL_STAT_LAMPERR n = 1)) ∧ s.blk.Beside [R.PXL_LINK.at n.val, R.PXL_STAT.at n.val] [Part.px
      n.val] b) ∧
  (∀ (s : State) (n : Fin 16) (failed : Byte) (d : Desc), s.blk.Ready → (s.blk.pxp n).fsimg = some d → s.blk.Single
      d → Completes (.ack n 7 failed) s fun b => ((b.pxp n).fsimg = none ∧ b.answered d (fun x => x.status == if
      failed = 0 then St.ok else St.hwFault) = true) ∧ s.blk.Beside d.regs ([Part.px n.val] ++ d.parts) b) ∧
  (∀ (s : State) (n : Fin 16), s.blk.Ready → s.blk.getF F.PXL_LINK_LSTATE n = 1 → Completes (.helloTimeout n) s fun
      b => ((b.pxp n).fails = (s.blk.pxp n).fails + 1 ∧ (b.pxp n).pause = true ∧ b.getF F.PXL_LINK_LSTATE n = (if 3
      ≤ (s.blk.pxp n).fails + 1 then 5 else 0) ∧ (3 ≤ (s.blk.pxp n).fails + 1 → b.pxState n = 4 ∧ b.getF
      F.PXL_STAT_LINKF n = 1)) ∧ s.blk.Beside [R.PXL_LINK.at n.val, R.PXL_STAT.at n.val] [Part.px n.val] b) ∧
  (∀ (s : State) (n : Fin 16), s.blk.Ready → s.blk.pxState n = 1 → (s.blk.pxp n).pause = true → Completes
      (.linkupRetry n) s fun b => b.getF F.PXL_LINK_LSTATE n = 1 ∧ (b.pxp n).pause = false ∧ (b.pxp n).info = [] ∧
      (b.pxp n).cal = [] ∧ s.blk.Beside (offsOf Regs.answers ++ [R.PXL_LINK.at n.val, R.PXL_STAT.at n.val])
      ([Part.px n.val] ++ Part.answers) b) ∧
  (∀ (s : State) (n : Fin 16), s.blk.Ready → s.blk.pxState n = 2 → 249 ≤ (s.blk.pxp n).bad → s.blk.flag
      F.CATCH_INJ_ARM 0 = false → Completes (.backLinkLost n) s fun b => b.pxState n = 1 ∧ b.getF F.PXL_LINK_LSTATE
      n = 1 ∧ b.getF F.PXL_STAT_LINKF n = 1 ∧ (b.pxp n).render = none ∧ s.blk.Beside (offsOf (Regs.answers ++
      [R.HB_CMD, R.HB_STAT, R.HSW_CMD, R.HSW_STAT, R.PXL_SHOAL]) ++ [R.PXL_DCNT.at n.val, R.PXL_LINK.at n.val,
      R.PXL_STAT.at n.val, R.PXL_FADE.at n.val, R.PXL_LEVEL.at n.val, R.PXL_TARGET.at n.val]) ([Part.px n.val] ++
      Part.chans ++ Part.answers) b)

/-- The field descriptors read inputs and outputs, set outputs and supplies and clear bits (from R302 and R303).
Rests on R302, R303, R293; the clauses state the parts of these rules that they write out. Choices of the model in
it: log 34, 35. -/
def Obligations.FieldDescriptors : Prop :=
  (∀ (s : State) (d : Desc), s.blk.Ready → s.blk.Executes d → s.blk.Single d → d.ok 0x60 (16 + 8 * (Block.diMask
      d).length) 65536 [0xFFFFFFFF, 0xFFFFFFFF, 0, 1] = true → Completes (.diRead d) s fun b => (b.answered d (fun x
      => x.status == St.ok && x.data == leBytes 4 (s.blk.rd R.DIO_DILVL 0) ++ leBytes 4 (s.blk.rd R.DIO_DILVL 1) ++
      leBytes 4 (s.blk.rd R.DIO_DICHG 0) ++ leBytes 4 (s.blk.rd R.DIO_DICHG 1) ++ ((Block.diMask d).flatMap fun n =>
      leBytes 4 (s.blk.rd R.DIO_DISTAT n % 256 + n * 2 ^ 24) ++ leBytes 4 (s.blk.rd R.DIO_DIMEAS n))) = true ∧ (bit
      (d.dw 8) 0 = true → b.rd R.DIO_DICHG 0 = 0 ∧ b.rd R.DIO_DICHG 1 = 0)) ∧ s.blk.Beside (offsOf [R.DIO_DICHG] ++
      d.regs) d.parts b) ∧
  (∀ (s : State) (d : Desc), s.blk.Ready → s.blk.Executes d → d.ok 0x61 0 0 [0xFFFF, 0xFFFF, 0, 0x100] = true →
      (Block.outMask (d.dw 5)) ≠ [] → d.dw 6 &&& d.dw 5 = d.dw 6 → (∀ a ∈ ((Block.outMask (d.dw 5)).map fun m =>
      DieAct.out m (bit (d.dw 6) m)), s.blk.missOf a = .no) → Completes (.doSet d) s fun b => (b.dieq = s.blk.dieq
      ++ [{ desc := d, parts := ((Block.outMask (d.dw 5)).map fun m => DieAct.out m (bit (d.dw 6) m)), sync := bit (d.dw 8) 8 }])
      ∧ s.blk.Beside (offsOf [R.HQ_QSTAT] ++ d.regs) ([Part.chn, Part.dieq, Part.flights] ++ d.parts) b) ∧
  (∀ (s : State) (d : Desc), s.blk.Ready → s.blk.Executes d → d.ok 0x62 0 0 [0xF, 0, 0, 1] = true → (Block.svMask
      (d.dw 5)) ≠ [] → (∀ a ∈ ((Block.svMask (d.dw 5)).map fun k => DieAct.supply k (bit (d.dw 8) 0)), s.blk.missOf
      a = .no) → Completes (.svSet d) s fun b => (b.dieq = s.blk.dieq ++
      [{ desc := d, parts := ((Block.svMask (d.dw 5)).map fun k => DieAct.supply k (bit (d.dw 8) 0)), sync := false }])
      ∧ s.blk.Beside (offsOf [R.HQ_QSTAT] ++ d.regs) ([Part.chn, Part.dieq, Part.flights] ++ d.parts) b) ∧
  (∀ (s : State) (d : Desc), s.blk.Ready → s.blk.Executes d → s.blk.Single d → d.ok 0x63 0 0 [0xFFFFFFFF,
      0xFFFFFFFF, 0xFFFFF, 3] = true → Block.diMask d ≠ [] → bits (d.dw 7) 19 0 = 0 → bit (d.dw 8) 0 = true →
      Completes (.dioClear d) s fun b => (b.answered d (fun x => x.status == St.ok) = true ∧ (∀ n ∈ Block.diMask d,
      bits (b.rd R.DIO_DISTAT n) 7 4 = 0 ∧ bit (b.rd R.DIO_DICHG (n / 32)) (n % 32) = false)) ∧ s.blk.Beside (offsOf
      [R.DIO_DICHG, R.DIO_DISTAT, R.DIO_DOSTAT, R.DIO_SVSTAT, R.HQ_QSTAT] ++ d.regs) ([Part.chn, Part.flights] ++
      Part.dOuts ++ d.parts) b) ∧
  (∀ (s : State) (d : Desc), s.blk.Ready → s.blk.Executes d → s.blk.Single d → d.ok 0x63 0 0 [0xFFFFFFFF,
      0xFFFFFFFF, 0xFFFFF, 3] = true → Block.diMask d = [] → (Block.outMask (d.dw 7) ≠ [] ∨ Block.svMask (bits (d.dw
      7) 19 16) ≠ []) → (∀ m ∈ Block.outMask (d.dw 7), s.blk.getF F.DIO_DOCFG_EN m ≠ 0 ∧ Tab.get false
      s.blk.pw.linkFail (m / 4) = false) → (∀ k ∈ Block.svMask (bits (d.dw 7) 19 16), s.blk.getF F.DIO_SVCFG_EN k ≠
      0 ∧ Tab.get false s.blk.pw.linkFail k = false) → Completes (.dioClear d) s fun b => (b.answered d (fun x =>
      x.status == St.ok) = true ∧ (∀ m ∈ Block.outMask (d.dw 7), (bit (d.dw 8) 0 = true → bits (b.rd R.DIO_DOSTAT m)
      8 4 = 0) ∧ (bit (d.dw 8) 1 = true → (b.dorec m).latch = false)) ∧ (∀ k ∈ Block.svMask (bits (d.dw 7) 19 16),
      bit (d.dw 8) 0 = true → bits (b.rd R.DIO_SVSTAT k) 7 4 = 0)) ∧ s.blk.Beside (offsOf [R.DIO_DICHG,
      R.DIO_DISTAT, R.DIO_DOSTAT, R.DIO_SVSTAT, R.HQ_QSTAT] ++ d.regs) ([Part.chn, Part.flights] ++ Part.dOuts ++
      d.parts) b) ∧
  (∀ (s : State) (d : Desc), s.blk.Ready → s.blk.Executes d → s.blk.Single d → d.ok 0x64 160 65536 [] = true →
      Completes (.doRead d) s fun b => (b.answered d (fun x => x.status == St.ok && x.data == ((List.range
      16).flatMap fun m => leBytes 4 (s.blk.rd R.DIO_DOSTAT m + m * 2 ^ 24) ++ leBytes 4 (s.blk.rd R.DIO_DOMEAS m))
      ++ ((List.range 4).flatMap fun k => leBytes 4 (s.blk.rd R.DIO_SVSTAT k + k * 2 ^ 24) ++ leBytes 4 (s.blk.rd
      R.DIO_SVMEAS k))) = true) ∧ s.blk.Beside d.regs d.parts b)

/-- Digital inputs are enabled, filtered, checked and measured (from R281 to R287 and R666). Rests on R281, R282,
R283, R284, R285, R286, R287, R666; the clauses state the parts of these rules that they write out. Choices of the
model in it: log 138. -/
def Obligations.FieldInputs : Prop :=
  (∀ (s : State) (who : Who) (n : Fin 64), s.blk.Ready → s.blk.CanWrite who (R.DIO_DICFG.at n) → s.blk.getF
      F.DIO_DICFG_EN n = 0 → s.blk.getF F.DIO_DICFG_MODE n ≤ 4 → s.blk.getF F.DIO_DIFLT_RSTTH n < s.blk.getF
      F.DIO_DIFLT_SETTH n → s.blk.getF F.DIO_DIFLT_SETTH n ≤ s.blk.getF F.DIO_DIFLT_CMAX n → s.blk.wetSum n
      (s.blk.rd R.DIO_DICFG n) ≤ 20000 → Completes (.diEnable who n) s fun b => b.getF F.DIO_DICFG_EN n = 1 ∧
      (b.direc n).cfg = s.blk.rd R.DIO_DICFG n ∧ (b.direc n).flt = s.blk.rd R.DIO_DIFLT n ∧ (b.direc n).first = true
      ∧ s.blk.Beside [R.DIO_DICFG.at n.val, R.DIO_DISTAT.at n.val] [Part.di n.val] b) ∧
  (∀ (s : State) (who : Who) (n : Fin 64), s.blk.Ready → s.blk.CanWrite who (R.DIO_DICFG.at n) → Completes
      (.diDisable who n) s fun b => b.getF F.DIO_DICFG_EN n = 0 ∧ b.getF F.DIO_DISTAT_LEVEL n = s.blk.getF
      F.DIO_DISTAT_LEVEL n ∧ s.blk.Beside [R.DIO_DICFG.at n.val] [Part.di n.val] b) ∧
  (∀ (s : State) (n : Fin 64) (mv : Int), s.blk.Ready → s.blk.getF F.DIO_DICFG_EN n = 1 → (s.blk.direc n).skip =
      false → (s.blk.direc n).first = false → Completes (.diSample n mv) s fun b => (b.getF F.DIO_DISTAT_RAW n = b2n
      (((((Block.diCompare (Block.cfgMode (s.blk.direc n).cfg) (s.blk.direc n).high mv) == !(Block.cfgMode
      (s.blk.direc n).cfg == 1)) != Block.cfgInv (s.blk.direc n).cfg)) && !(Block.cfgMode (s.blk.direc n).cfg == 0))
      ∧ b.getF F.DIO_DIFLT_CNT n = (if (((((Block.diCompare (Block.cfgMode (s.blk.direc n).cfg) (s.blk.direc n).high
      mv) == !(Block.cfgMode (s.blk.direc n).cfg == 1)) != Block.cfgInv (s.blk.direc n).cfg)) && !(Block.cfgMode
      (s.blk.direc n).cfg == 0)) then min (bits (s.blk.direc n).flt 23 16) (s.blk.getF F.DIO_DIFLT_CNT n + 1) else
      s.blk.getF F.DIO_DIFLT_CNT n - 1) ∧ b.getF F.DIO_DISTAT_LEVEL n = b2n (if (((((Block.diCompare (Block.cfgMode
      (s.blk.direc n).cfg) (s.blk.direc n).high mv) == !(Block.cfgMode (s.blk.direc n).cfg == 1)) != Block.cfgInv
      (s.blk.direc n).cfg)) && !(Block.cfgMode (s.blk.direc n).cfg == 0)) then s.blk.flag F.DIO_DISTAT_LEVEL n ||
      decide (bits (s.blk.direc n).flt 7 0 ≤ (if (((((Block.diCompare (Block.cfgMode (s.blk.direc n).cfg)
      (s.blk.direc n).high mv) == !(Block.cfgMode (s.blk.direc n).cfg == 1)) != Block.cfgInv (s.blk.direc n).cfg))
      && !(Block.cfgMode (s.blk.direc n).cfg == 0)) then min (bits (s.blk.direc n).flt 23 16) (s.blk.getF
      F.DIO_DIFLT_CNT n + 1) else s.blk.getF F.DIO_DIFLT_CNT n - 1)) else s.blk.flag F.DIO_DISTAT_LEVEL n && !decide
      ((if (((((Block.diCompare (Block.cfgMode (s.blk.direc n).cfg) (s.blk.direc n).high mv) == !(Block.cfgMode
      (s.blk.direc n).cfg == 1)) != Block.cfgInv (s.blk.direc n).cfg)) && !(Block.cfgMode (s.blk.direc n).cfg == 0))
      then min (bits (s.blk.direc n).flt 23 16) (s.blk.getF F.DIO_DIFLT_CNT n + 1) else s.blk.getF F.DIO_DIFLT_CNT n
      - 1) ≤ bits (s.blk.direc n).flt 15 8)) ∧ bit (b.rd R.DIO_DILVL (n / 32)) (n % 32) = (if (((((Block.diCompare
      (Block.cfgMode (s.blk.direc n).cfg) (s.blk.direc n).high mv) == !(Block.cfgMode (s.blk.direc n).cfg == 1)) !=
      Block.cfgInv (s.blk.direc n).cfg)) && !(Block.cfgMode (s.blk.direc n).cfg == 0)) then s.blk.flag
      F.DIO_DISTAT_LEVEL n || decide (bits (s.blk.direc n).flt 7 0 ≤ (if (((((Block.diCompare (Block.cfgMode
      (s.blk.direc n).cfg) (s.blk.direc n).high mv) == !(Block.cfgMode (s.blk.direc n).cfg == 1)) != Block.cfgInv
      (s.blk.direc n).cfg)) && !(Block.cfgMode (s.blk.direc n).cfg == 0)) then min (bits (s.blk.direc n).flt 23 16)
      (s.blk.getF F.DIO_DIFLT_CNT n + 1) else s.blk.getF F.DIO_DIFLT_CNT n - 1)) else s.blk.flag F.DIO_DISTAT_LEVEL
      n && !decide ((if (((((Block.diCompare (Block.cfgMode (s.blk.direc n).cfg) (s.blk.direc n).high mv) ==
      !(Block.cfgMode (s.blk.direc n).cfg == 1)) != Block.cfgInv (s.blk.direc n).cfg)) && !(Block.cfgMode
      (s.blk.direc n).cfg == 0)) then min (bits (s.blk.direc n).flt 23 16) (s.blk.getF F.DIO_DIFLT_CNT n + 1) else
      s.blk.getF F.DIO_DIFLT_CNT n - 1) ≤ bits (s.blk.direc n).flt 15 8)) ∧ ((if (((((Block.diCompare (Block.cfgMode
      (s.blk.direc n).cfg) (s.blk.direc n).high mv) == !(Block.cfgMode (s.blk.direc n).cfg == 1)) != Block.cfgInv
      (s.blk.direc n).cfg)) && !(Block.cfgMode (s.blk.direc n).cfg == 0)) then s.blk.flag F.DIO_DISTAT_LEVEL n ||
      decide (bits (s.blk.direc n).flt 7 0 ≤ (if (((((Block.diCompare (Block.cfgMode (s.blk.direc n).cfg)
      (s.blk.direc n).high mv) == !(Block.cfgMode (s.blk.direc n).cfg == 1)) != Block.cfgInv (s.blk.direc n).cfg))
      && !(Block.cfgMode (s.blk.direc n).cfg == 0)) then min (bits (s.blk.direc n).flt 23 16) (s.blk.getF
      F.DIO_DIFLT_CNT n + 1) else s.blk.getF F.DIO_DIFLT_CNT n - 1)) else s.blk.flag F.DIO_DISTAT_LEVEL n && !decide
      ((if (((((Block.diCompare (Block.cfgMode (s.blk.direc n).cfg) (s.blk.direc n).high mv) == !(Block.cfgMode
      (s.blk.direc n).cfg == 1)) != Block.cfgInv (s.blk.direc n).cfg)) && !(Block.cfgMode (s.blk.direc n).cfg == 0))
      then min (bits (s.blk.direc n).flt 23 16) (s.blk.getF F.DIO_DIFLT_CNT n + 1) else s.blk.getF F.DIO_DIFLT_CNT n
      - 1) ≤ bits (s.blk.direc n).flt 15 8)) ≠ s.blk.flag F.DIO_DISTAT_LEVEL n → bit (b.rd R.DIO_DICHG (n / 32)) (n
      % 32) = true)) ∧ s.blk.Beside (offsOf [R.DIO_DICHG, R.DIO_DILVL, R.HB_CMD, R.HB_FBSTAT, R.HB_STAT, R.HSW_CMD,
      R.HSW_STAT] ++ [R.DIO_DIFLT.at n.val, R.DIO_DISTAT.at n.val]) ([Part.di n.val] ++ Part.chans ++ Part.fbs) b) ∧
  (∀ (s : State) (n : Fin 64) (mv : Int), s.blk.Ready → s.blk.getF F.DIO_DICFG_EN n = 1 → s.blk.flag
      F.DIO_DICFG_OWEN n = true → Block.cfgMode (s.blk.direc n).cfg = 1 → 4000 < mv → Completes (.openWireCheck n
      mv) s fun b => ((b.direc n).opens = min ((s.blk.direc n).opens + 1) 2 ∧ (b.direc n).skip = true ∧ (1 ≤
      (s.blk.direc n).opens → b.getF F.DIO_DISTAT_OW n = 1)) ∧ s.blk.Beside [R.DIO_DISTAT.at n.val] [Part.di n.val]
      b) ∧
  (∀ (s : State) (n : Fin 64) (ua : Nat), s.blk.Ready → 5000 < ua → Completes (.diOverload n ua) s fun b => (b.getF
      F.DIO_DISTAT_OVLD n = 1 ∧ (s.blk.getF F.DIO_DISTAT_OVLD n = 0 → b.HasEvent (188 + n / 8))) ∧ s.blk.Beside
      [R.DIO_DISTAT.at n.val] [] b) ∧
  (∀ (s : State) (g : Fin 8) (tj : Int) (n : Fin 64), s.blk.Ready → 160 * 16 < tj → n.val / 8 = g.val → s.blk.getF
      F.DIO_DICFG_EN n = 1 → Completes (.diGroupOvertemp g tj) s fun b => Tab.get false b.dio.hot g = true ∧ b.getF
      F.DIO_DISTAT_OT n = 1 ∧ s.blk.Beside (offsOf [R.DIO_DISTAT]) ([Part.hot] ++ Part.dis) b) ∧
  (∀ (s : State) (n : Fin 64) (vin : BitVec 16), s.blk.Ready → s.blk.pg 12 = true → Completes (.dimeasUpdate n vin)
      s fun b => b.getF F.DIO_DIMEAS_VIN n = vin.toNat ∧ s.blk.Beside [R.DIO_DIMEAS.at n.val] [] b)

/-- Digital outputs and sensor supplies are switched, protected and restarted (from R289 to R295 and R301). Rests on
R290, R291, R292, R294, R301; the clauses state the parts of these rules that they write out. Choices of the model
in it: log 32, 33. -/
def Obligations.FieldOutputs : Prop :=
  (∀ (s : State) (who : Who) (m : Fin 16), s.blk.Ready → s.blk.CanWrite who (R.DIO_DOCFG.at m) → s.blk.getF
      F.DIO_DOCFG_EN m = 0 → s.blk.dioFeedOff = false → (s.blk.dorec m).therm = false → Completes (.doEnable who m)
      s fun b => b.getF F.DIO_DOCFG_EN m = 1 ∧ b.getF F.DIO_DOCMD_ON m = 0 ∧ b.getF F.DIO_DOSTAT_STATE m = 1 ∧
      b.getF F.DIO_DOCMD_EFF m = 0 ∧ s.blk.Beside [R.DIO_DOCFG.at m.val, R.DIO_DOCMD.at m.val, R.DIO_DOSTAT.at
      m.val] [Part.dOut m.val] b) ∧
  (∀ (s : State) (who : Who) (m : Fin 16), s.blk.Ready → s.blk.CanWrite who (R.DIO_DOCFG.at m) → Completes
      (.doDisable who m) s fun b => b.getF F.DIO_DOCFG_EN m = 0 ∧ b.getF F.DIO_DOCMD_ON m = 0 ∧ b.getF
      F.DIO_DOSTAT_STATE m = 0 ∧ b.getF F.DIO_DOCMD_EFF m = 0 ∧ s.blk.Beside [R.DIO_DOCFG.at m.val, R.DIO_DOCMD.at
      m.val, R.DIO_DOSTAT.at m.val] [Part.dOut m.val] b) ∧
  (∀ (s : State) (m : Fin 16), s.blk.Ready → s.blk.getF F.DIO_DOCFG_EN m = 1 → Completes (.doTimeout m) s fun b =>
      ((b.dorec m).safe = true ∧ (b.dorec m).latch = true ∧ (b.dorec m).held = s.blk.doEff m ∧ b.getF
      F.DIO_DOSTAT_TOUT m = 1 ∧ b.getF F.DIO_DOCMD_EFF m = b2n (if s.blk.getF F.DIO_DOCFG_SAFE m = 1 then true else
      if s.blk.getF F.DIO_DOCFG_SAFE m = 2 then s.blk.doEff m else false)) ∧ s.blk.Beside [R.DIO_DOCMD.at m.val,
      R.DIO_DOSTAT.at m.val] [Part.dOut m.val] b) ∧
  (∀ (s : State) (m : Fin 17), s.blk.Ready → m.val < 16 → s.blk.doConducts m = true → Completes (.doOverload m) s
      fun b => (b.dorec m).wait = true ∧ b.getF F.DIO_DOSTAT_OVLD m = 1 ∧ b.doConducts m = false ∧ s.blk.Beside
      [R.DIO_DOCMD.at m.val, R.DIO_DOSTAT.at m.val] [Part.dOut m.val] b) ∧
  (∀ (s : State) (m : Fin 17), s.blk.Ready → m.val < 16 → (s.blk.dorec m).wait = true → s.blk.getF F.DIO_DOCFG_EN m
      = 1 → s.blk.dioFeedOff = false → (s.blk.dorec m).therm = false → (s.blk.dorec m).safe = false → Completes
      (.doOverloadWaitEnd m) s fun b => ((b.dorec m).wait = false ∧ b.getF F.DIO_DOSTAT_STATE m = (if s.blk.flag
      F.DIO_DOCMD_ON m then 2 else 1)) ∧ s.blk.Beside [R.DIO_DOCMD.at m.val, R.DIO_DOSTAT.at m.val] [Part.dOut
      m.val] b) ∧
  (∀ (s : State) (m : Fin 17) (tj : Int), s.blk.Ready → m.val < 16 → (s.blk.dorec m).therm = false → 175 * 16 ≤ tj →
      s.blk.getF F.DIO_DOCFG_EN m = 1 → s.blk.dioFeedOff = false → Completes (.doThermal m tj) s fun b => (b.dorec
      m).therm = true ∧ b.getF F.DIO_DOSTAT_STATE m = 5 ∧ b.getF F.DIO_DOSTAT_OT m = 1 ∧ s.blk.Beside
      [R.DIO_DOCMD.at m.val, R.DIO_DOSTAT.at m.val] [Part.dOut m.val] b) ∧
  (∀ (s : State) (m : Fin 17), s.blk.Ready → m.val = 16 → s.blk.engenState = 2 → Completes (.doOverload m) s fun b
      => b.engenState = 4 ∧ b.acs.engen = { s.blk.acs.engen with wait := true } ∧ s.blk.Beside [] [Part.acs] b) ∧
  (∀ (s : State) (m : Fin 17), s.blk.Ready → m.val = 16 → s.blk.engenState = 4 → Completes (.doOverloadWaitEnd m) s
      fun b => (b.engenState = (if s.blk.acs.engen.on then 2 else 1) ∧ b.acs.engen =
      { s.blk.acs.engen with wait := false }) ∧ s.blk.Beside [] [Part.acs] b) ∧
  (∀ (s : State) (m : Fin 17) (tj : Int), s.blk.Ready → m.val = 16 → s.blk.acs.engen.therm = false → 175 * 16 ≤ tj →
      s.blk.dioFeedOff = false → Completes (.doThermal m tj) s fun b => b.engenState = 5 ∧ b.acs.engen =
      { s.blk.acs.engen with therm := true } ∧ s.blk.Beside [] [Part.acs] b) ∧
  (∀ (s : State) (m : Fin 16) (ua : Nat), s.blk.Ready → s.blk.doConducts m = true → s.blk.flag F.DIO_DOCFG_OWEN m =
      true → ua < 2000 → Completes (.doOnstateOpen m ua) s fun b => (b.getF F.DIO_DOSTAT_OW m = 1 ∧ (s.blk.getF
      F.DIO_DOSTAT_OW m = 0 → b.HasEvent (196 + m / 4))) ∧ s.blk.Beside [R.DIO_DOSTAT.at m.val] [] b) ∧
  (∀ (s : State) (p : Fin 128) (m : Fin 16) (v1 : Bool) (v2 : Bool), s.blk.Ready → p.val = 112 + m.val → s.blk.getF
      F.DIO_DOCFG_EN m = 1 → s.blk.flag F.DIO_DOCFG_OWEN m = true → s.blk.doConducts m = false → Completes
      (.offStateCheck p v1 v2) s fun b => ((v1 = true → b.getF F.DIO_DOSTAT_SB m = 1) ∧ (v1 = false → v2 = true →
      b.getF F.DIO_DOSTAT_OW m = 1)) ∧ s.blk.Beside ([R.DIO_DOSTAT.at m.val] ++ R.HB_STAT.pair (p.val - 96) ++
      R.HSW_STAT.pair p.val) (Part.chanPair p.val) b) ∧
  (∀ (s : State) (p : Fin 132) (m : Fin 16) (cur : Nat) (vout : Nat) (tj : Nat), s.blk.Ready → p.val = 112 + m.val →
      Completes (.measUpdate p cur vout tj) s fun b => b.getF F.DIO_DOMEAS_CURR m = cur % 65536 ∧ b.getF
      F.DIO_DOMEAS_VOUT m = vout % 65536 ∧ s.blk.Beside (offsOf [R.DIO_SVMEAS] ++ [R.DIO_DOMEAS.at m.val] ++
      R.HB_MEAS.pair (p.val - 96) ++ R.HB_STAT.pair (p.val - 96) ++ R.HB_TJ.pair (p.val - 96) ++ R.HSW_MEAS.pair
      p.val ++ R.HSW_STAT.pair p.val ++ R.HSW_TJ.pair p.val ++ R.LMP_DIAG.pair p.val) ([Part.lampLimits] ++
      Part.chanPair p.val) b) ∧
  (∀ (s : State) (p : Fin 132) (k : Fin 4) (cur : Nat) (vout : Nat) (tj : Nat), s.blk.Ready → p.val = 128 + k.val →
      Completes (.measUpdate p cur vout tj) s fun b => b.getF F.DIO_SVMEAS_CURR k = cur % 65536 ∧ b.getF
      F.DIO_SVMEAS_VOUT k = vout % 65536 ∧ s.blk.Beside (offsOf [R.DIO_DOMEAS] ++ [R.DIO_SVMEAS.at k.val] ++
      R.HB_MEAS.pair (p.val - 96) ++ R.HB_STAT.pair (p.val - 96) ++ R.HB_TJ.pair (p.val - 96) ++ R.HSW_MEAS.pair
      p.val ++ R.HSW_STAT.pair p.val ++ R.HSW_TJ.pair p.val ++ R.LMP_DIAG.pair p.val) ([Part.lampLimits] ++
      Part.chanPair p.val) b) ∧
  (∀ (s : State) (who : Who) (k : Fin 4) (on : Bool), s.blk.Ready → s.blk.CanWrite who (R.DIO_SVCFG.at k) →
      s.blk.dioFeedOff = false → (s.blk.svrec k).retry = false → (s.blk.svrec k).therm = false → Completes
      (.svEnable who k on) s fun b => b.getF F.DIO_SVCFG_EN k = b2n on ∧ b.getF F.DIO_SVSTAT_STATE k = b2n on ∧
      s.blk.Beside [R.DIO_SVCFG.at k.val, R.DIO_SVSTAT.at k.val] [Part.sv k.val] b) ∧
  (∀ (s : State) (k : Fin 4) (ua : Nat), s.blk.Ready → s.blk.svOn k = true → 180000 < ua → s.blk.getF F.DIO_SVCFG_EN
      k = 1 → s.blk.dioFeedOff = false → Completes (.svOverload k ua) s fun b => (b.svrec k).retry = true ∧ b.getF
      F.DIO_SVSTAT_STATE k = 2 ∧ b.getF F.DIO_SVSTAT_OVLD k = 1 ∧ s.blk.Beside [R.DIO_SVSTAT.at k.val] [Part.sv
      k.val] b) ∧
  (∀ (s : State) (k : Fin 4) (mv : Nat), s.blk.Ready → s.blk.svOn k = true → s.blk.svMv k + 1000 < mv → s.blk.getF
      F.DIO_SVCFG_EN k = 1 → s.blk.dioFeedOff = false → Completes (.svShortToBattery k mv) s fun b => (b.svrec
      k).retry = true ∧ b.getF F.DIO_SVSTAT_STATE k = 2 ∧ b.getF F.DIO_SVSTAT_SB k = 1 ∧ s.blk.Beside
      [R.DIO_SVSTAT.at k.val] [Part.sv k.val] b) ∧
  (∀ (s : State) (k : Fin 4), s.blk.Ready → (s.blk.svrec k).off = false → s.blk.getF F.DIO_SVCFG_EN k = 1 →
      s.blk.dioFeedOff = false → (s.blk.svrec k).therm = false → Completes (.svRetryEnd k) s fun b => (b.svrec
      k).retry = false ∧ b.getF F.DIO_SVSTAT_STATE k = 1 ∧ s.blk.Beside [R.DIO_SVSTAT.at k.val] [Part.sv k.val] b) ∧
  (∀ (s : State) (k : Fin 4) (tj : Int), s.blk.Ready → (s.blk.svrec k).therm = false → 175 * 16 ≤ tj → s.blk.getF
      F.DIO_SVCFG_EN k = 1 → s.blk.dioFeedOff = false → Completes (.svThermal k tj) s fun b => (b.svrec k).therm =
      true ∧ b.getF F.DIO_SVSTAT_STATE k = 2 ∧ b.getF F.DIO_SVSTAT_OT k = 1 ∧ s.blk.Beside [R.DIO_SVSTAT.at k.val]
      [Part.sv k.val] b) ∧
  (∀ (s : State) (k : Fin 4) (mv : Nat), s.blk.Ready → s.blk.svOn k = true → mv * 100 < s.blk.svMv k * 95 →
      Completes (.svUndervoltage k mv false) s fun b => b.getF F.DIO_SVSTAT_UV k = 1 ∧ s.blk.Beside [R.DIO_SVSTAT.at
      k.val] [] b)

/-- Occurrences are recorded and class F begins a SoC reset, and the catchment is read, cleared, forced and armed
(from R304 to R310, R318, R319 and R321 to R327). Rests on R304, R305, R306, R307, R308, R318, R321, R322, R325,
R327; the clauses state the parts of these rules that they write out. Choices of the model in it: log 92, 137. -/
def Obligations.Catchment : Prop :=
  (∀ (s : State) (e : Fin 256) (detail : Word), s.blk.Ready → e.val ≠ 253 → detail.getLsbD 31 = false → bit
      (s.blk.getF F.CATCH_SRC_ACT e) 2 = false → Completes (.catchOccurrence e detail) s fun b => (b.HasEvent e ∧
      (s.blk.flag F.CATCH_STAT_FIRSTV 0 = false → b.getF F.CATCH_STAT_FIRST 0 = e ∧ b.flag F.CATCH_STAT_FIRSTV 0 =
      true ∧ b.getF F.CATCH_STAT_FIRSTINJ 0 = 0) ∧ (s.blk.getF F.CATCH_SRC_CLASS e = 0 → b.getF F.CATCH_COUNT_CNTC 0
      = min (2 ^ (F.CATCH_COUNT_CNTC.hi + 1 - F.CATCH_COUNT_CNTC.lo) - 1) (s.blk.getF F.CATCH_COUNT_CNTC 0 + 1)) ∧
      (s.blk.getF F.CATCH_SRC_CLASS e = 1 → b.getF F.CATCH_COUNT_CNTU 0 = min (2 ^ (F.CATCH_COUNT_CNTU.hi + 1 -
      F.CATCH_COUNT_CNTU.lo) - 1) (s.blk.getF F.CATCH_COUNT_CNTU 0 + 1)) ∧ (bit (s.blk.getF F.CATCH_SRC_ACT e) 0 =
      true → s.blk.catchm.held < 64 → ¬ (s.blk.getF F.CATCH_SRC_CLASS e = 0 ∧ s.blk.HasEvent e) → b.rd R.CATCH_LOG
      (4 * s.blk.getF F.CATCH_LOGPTR_NEXT 0) = e + s.blk.getF F.CATCH_SRC_CLASS e * 256 + s.blk.getF F.CATCH_SRC_ACT
      e * 65536 + s.blk.catchm.seq * 2 ^ 24 ∧ b.rd R.CATCH_LOG (4 * s.blk.getF F.CATCH_LOGPTR_NEXT 0 + 1) =
      detail.toNat ∧ b.rd R.CATCH_LOG (4 * s.blk.getF F.CATCH_LOGPTR_NEXT 0 + 2) = s.blk.pw.rtc % 2 ^ 32 ∧ b.getF
      F.CATCH_LOGPTR_NEXT 0 = (s.blk.getF F.CATCH_LOGPTR_NEXT 0 + 1) % 64 ∧ b.catchm.held = s.blk.catchm.held + 1))
      ∧ s.blk.Beside (offsOf [R.CDC_SUM, R.CDC_XSTAT, R.CIPH_STAT, R.PKE_STAT]) [Part.ciph, Part.pw] b) ∧
  (∀ (s : State) (e : Fin 256) (detail : Word), s.blk.Calm → s.blk.Awake → s.blk.pg 1 = true → s.blk.getF
      F.CATCH_SRC_CLASS e = 2 → e.val ≠ 253 → e.val ≠ 248 → detail.getLsbD 31 = false → Completes (.catchOccurrence
      e detail) s fun b => b.pw.inReset = .soc ∧ b.flag F.PWR_RSTCAUSE_CATCH 0 = true) ∧
  (∀ (s : State) (d : Desc), s.blk.Ready → s.blk.Executes d → s.blk.Single d → (d.ok 0xE0 (if bit (d.dw 8) 0 then
      1072 else 48) 65536 [0, 0, 0, 1] = true) → Completes (.catchRead d) s fun b => (b.answered d (fun x =>
      x.status == St.ok && x.data.take 48 == ((((List.range 8).map fun i => s.blk.rd R.CATCH_STICKY i) ++ [s.blk.rd
      R.CATCH_STAT 0, s.blk.rd R.CATCH_COUNT 0, s.blk.rd R.CATCH_LOGPTR 0, 0]).map (leBytes 4)).flatten) = true) ∧
      s.blk.Beside d.regs d.parts b) ∧
  (∀ (s : State) (d : Desc), s.blk.Ready → s.blk.Executes d → s.blk.Single d → d.ok 0xE1 0 0 (List.replicate 8
      0xFFFFFFFF ++ [7]) = true → Completes (.catchClear d) s fun b => (b.answered d (fun x => x.status == St.ok) =
      true ∧ (∀ i ∈ List.range 8, b.rd R.CATCH_STICKY i = s.blk.rd R.CATCH_STICKY i - (s.blk.rd R.CATCH_STICKY i &&&
      d.dw (5 + i))) ∧ (bit (d.dw 13) 0 = true → b.flag F.CATCH_STAT_FIRSTV 0 = false) ∧ (bit (d.dw 13) 1 = true →
      b.rd R.CATCH_LOGPTR 0 = 0 ∧ b.catchm.held = 0) ∧ (bit (d.dw 13) 2 = true → b.rd R.CATCH_COUNT 0 = 0)) ∧
      s.blk.Beside (offsOf [R.HQ_QSTAT] ++ d.regs) ([Part.chn, Part.flights] ++ d.parts) b) ∧
  (∀ (s : State) (d : Desc), s.blk.Ready → s.blk.Executes d → s.blk.Single d → d.ok 0xE2 0 0 [0xFF] = true → d.dw 5
      ≠ 250 → d.dw 5 ≠ 251 → s.blk.flag F.CATCH_CTL_INJEN 0 = true → Completes (.catchForce d) s fun b =>
      (b.answered d (fun x => x.status == St.ok) = true ∧ b.HasEvent (d.dw 5)) ∧ s.blk.Beside (offsOf [R.HQ_QSTAT]
      ++ d.regs) ([Part.chn, Part.flights] ++ d.parts) b) ∧
  (∀ (s : State) (d : Desc), s.blk.Ready → s.blk.Executes d → s.blk.Single d → d.ok 0xE3 0 0 [0x303FF, 0xFFFFFFFC] =
      true → bit (d.dw 5) 16 = true → Block.injIn (bits (d.dw 5) 2 0) (d.dw 6) = true → s.blk.flag F.CATCH_CTL_INJEN
      0 = true → Completes (.catchInject d) s fun b => (b.answered d (fun x => x.status == St.ok) = true ∧
      (d.src.isRing = false → b.flag F.CATCH_INJ_ARM 0 = true) ∧ b.getF F.CATCH_INJ_MEM 0 = bits (d.dw 5) 2 0 ∧
      b.getF F.CATCH_INJ_MASK 0 = bits (d.dw 5) 9 3 ∧ b.rd R.CATCH_INJADDR 0 = d.dw 6) ∧ s.blk.Beside (offsOf
      [R.CATCH_INJ, R.CATCH_INJADDR, R.HQ_QSTAT] ++ d.regs) ([Part.chn, Part.flights] ++ d.parts) b) ∧
  (∀ (s : State) (who : Who) (i : Fin 8) (w : Word) (j : Fin 32), s.blk.Ready → s.blk.CanWrite who (R.CATCH_FORCE.at
      i) → s.blk.flag F.CATCH_CTL_INJEN 0 = true → w.getLsbD j = true → 32 * i.val + j.val ≠ 250 → 32 * i.val +
      j.val ≠ 251 → Completes (.catchForceRegWrite who i w) s fun b => b.HasEvent (32 * i.val + j.val) ∧
      s.blk.Beside (offsOf [R.CATCH_FORCE]) [] b) ∧
  (∀ (s : State) (who : Who) (w : Word), s.blk.Ready → s.blk.CanWrite who (R.CATCH_INJ.at 0) → s.blk.flag
      F.CATCH_CTL_INJEN 0 = true → w.getLsbD 16 = true → Block.injIn (bits w.toNat 2 0) (s.blk.rd R.CATCH_INJADDR 0)
      = true → Completes (.catchInjWrite who w) s fun b => (b.flag F.CATCH_INJ_ARM 0 = true ∧ b.getF F.CATCH_INJ_MEM
      0 = bits w.toNat 2 0 ∧ b.getF F.CATCH_INJ_MASK 0 = bits w.toNat 9 3 ∧ (w.getLsbD 17 = true → b.getF
      F.CATCH_INJ_DONE 0 = 0)) ∧ s.blk.Beside (offsOf [R.CATCH_INJ]) [] b) ∧
  (∀ (s : State) (who : Who) (w : Word), s.blk.Ready → s.blk.CanWrite who (R.CATCH_INJADDR.at 0) → Completes
      (.catchInjaddrWrite who w) s fun b => b.rd R.CATCH_INJADDR 0 = w.toNat / 4 * 4 ∧ b.flag F.CATCH_INJ_ARM 0 =
      false ∧ s.blk.Beside (offsOf [R.CATCH_INJ, R.CATCH_INJADDR]) [] b) ∧
  (∀ (s : State) (who : Who), s.blk.Ready → s.blk.CanWrite who (R.CATCH_COUNT.at 0) → Completes (.catchCountClear
      who) s fun b => b.rd R.CATCH_COUNT 0 = 0 ∧ s.blk.Beside [] [] b) ∧
  (∀ (s : State) (who : Who), s.blk.Ready → s.blk.CanWrite who (R.CATCH_LOGPTR.at 0) → Completes (.catchLogClear
      who) s fun b => (b.rd R.CATCH_LOGPTR 0 = 0 ∧ b.catchm.held = 0 ∧ ∀ i ∈ List.range 256, b.rd R.CATCH_LOG i = 0)
      ∧ s.blk.Beside [] [] b)

/-- The network descriptors send, post buffers, put to sleep, wake, schedule, read and clear (from R333, R336, R338,
R346 and R360). Rests on R333, R336, R343, R346, R360, R361; the clauses state the parts of these rules that they
write out. Choices of the model in it: log 48. -/
def Obligations.NetworkDescriptors : Prop :=
  (∀ (s : State) (d : Desc), s.blk.Ready → s.blk.Executes d → d.ok 0x70 16 65536 [0x1F, 0, 0, 3] = true → isCan
      (bits (d.dw 5) 4 0) = true → d.dw 8 = 0 → (Block.recordsOf 4096 (d.payload.take d.len)).isSome = true →
      (((Block.recordsOf 4096 (d.payload.take d.len)).getD []).map Prod.fst) ≠ [] → (((Block.recordsOf 4096
      (d.payload.take d.len)).getD []).all fun r => r.2 == (bits (d.dw 5) 4 0) && Block.canRecordOk ((s.blk.nch
      (bits (d.dw 5) 4 0)).word 0) r.1) = true → s.blk.nstate (bits (d.dw 5) 4 0) = 1 → (s.blk.nch (bits (d.dw 5) 4
      0)).jobs = [] → (s.blk.nch (bits (d.dw 5) 4 0)).fifo.length + (((Block.recordsOf 4096 (d.payload.take
      d.len)).getD []).map Prod.fst).length ≤ 64 → Completes (.canTx d) s fun b => ((b.nch (bits (d.dw 5) 4
      0)).fifo.map (fun x => x.frame) = (s.blk.nch (bits (d.dw 5) 4 0)).fifo.map (fun x => x.frame) ++
      (((Block.recordsOf 4096 (d.payload.take d.len)).getD []).map Prod.fst) ∧ b.net.num = s.blk.net.num + 1 ∧
      (b.nch (bits (d.dw 5) 4 0)).jobs.map (fun j => (j.num, j.desc, j.total, j.rest)) = [(s.blk.net.num, d,
      (((Block.recordsOf 4096 (d.payload.take d.len)).getD []).map Prod.fst).length, [])]) ∧ s.blk.Beside (offsOf
      [R.CAN_STAT, R.HQ_QSTAT] ++ d.regs) ([Part.chn, Part.flights, Part.kept, Part.net] ++ Part.buses ++ d.parts)
      b) ∧
  (∀ (s : State) (d : Desc), s.blk.Ready → s.blk.Executes d → d.ok 0x71 256 65536 [0x1F, 0, 0, 0xFFFF] = true →
      d.len % 64 = 0 → 1 ≤ d.dw 8 → d.bcast = false → (isCan (bits (d.dw 5) 4 0) = true ∨ isLin (bits (d.dw 5) 4 0)
      = true ∨ isEth (bits (d.dw 5) 4 0) = true) → s.blk.nOn (bits (d.dw 5) 4 0) = true → (s.blk.nch (bits (d.dw 5)
      4 0)).bufs.length < 8 → (s.blk.nch (bits (d.dw 5) 4 0)).recs = [] → Completes (.netRxpost d) s fun b => (b.nch
      (bits (d.dw 5) 4 0)).bufs = (s.blk.nch (bits (d.dw 5) 4 0)).bufs ++ [{ desc := d }] ∧ s.blk.Beside (offsOf
      [R.CAN_STAT, R.ETH_PSTAT, R.HQ_QSTAT, R.LIN_STAT] ++ d.regs) ([Part.chn, Part.flights] ++ Part.buses ++
      d.parts) b) ∧
  (∀ (s : State) (d : Desc), s.blk.Ready → s.blk.Executes d → s.blk.Single d → d.ok 0x72 0 0 [0xFFFFFFF] = true →
      Block.chMaskOk (d.dw 5) 28 = true → (∀ n ∈ (Block.chMask (d.dw 5) 28), s.blk.nOn n = true ∧ s.blk.nstate n ≠ 3
      ∧ s.blk.nstate n ≠ 4) → Completes (.netSleep d) s fun b => (b.answered d (fun x => x.status == St.ok) = true ∧
      (∀ n ∈ (Block.chMask (d.dw 5) 28), b.nstate n = 3 ∧ (b.nch n).prev = (if s.blk.nstate n = 2 then 2 else 1))) ∧
      s.blk.Beside (offsOf [R.CAN_ERR, R.CAN_STAT, R.ETH_PSTAT, R.HQ_QSTAT, R.LIN_STAT] ++ d.regs) ([Part.chn,
      Part.flights] ++ Part.buses ++ d.parts) b) ∧
  (∀ (s : State) (d : Desc), s.blk.Ready → s.blk.Executes d → s.blk.Single d → d.ok 0x73 0 0 [0xFFFFFFF] = true →
      Block.chMaskOk (d.dw 5) 28 = true → (∀ n ∈ (Block.chMask (d.dw 5) 28), (s.blk.nstate n = 3 ∨ s.blk.nstate n =
      4) ∧ ((s.blk.nch n).prev = 1 ∨ (s.blk.nch n).prev = 2)) → Completes (.netWake d) s fun b => (b.answered d (fun
      x => x.status == St.ok) = true ∧ (∀ n ∈ (Block.chMask (d.dw 5) 28), b.nstate n = (s.blk.nch n).prev ∧ b.nget
      N.wakesrc n = 4 ∧ b.nget N.wakeev n = 1)) ∧ s.blk.Beside (offsOf [R.CAN_STAT, R.ETH_PSTAT, R.HQ_QSTAT,
      R.LIN_STAT] ++ d.regs) ([Part.chn, Part.flights, Part.kept, Part.net] ++ Part.buses ++ d.parts) b) ∧
  (∀ (s : State) (d : Desc), s.blk.Ready → s.blk.Executes d → s.blk.Single d → d.ok 0x74 0 256 [0x1F] = true → isLin
      (bits (d.dw 5) 4 0) = true → d.len % 4 = 0 → ((Block.pieces 4 64 (d.payload.take d.len)).all fun e => bits
      (ofLe e) 7 6 == 0 && bits (ofLe e) 23 18 == 0 && decide (1 ≤ bits (ofLe e) 15 8) && decide (1 ≤ bits (ofLe e)
      31 24) && decide (bits (ofLe e) 31 24 ≤ 8)) = true → ((Block.pieces 4 64 (d.payload.take d.len)).all fun e =>
      decide (14 * (34 + 10 * (bits (ofLe e) 31 24 + 1)) * 1000 ≤ bits (ofLe e) 15 8 * bits ((s.blk.nch (bits (d.dw
      5) 4 0)).word 0) 19 5 * 10)) = true → s.blk.nOn (bits (d.dw 5) 4 0) = true → s.blk.linResponder (bits (d.dw 5)
      4 0) = false → (s.blk.nch (bits (d.dw 5) 4 0)).table = [] → Completes (.linSched d) s fun b => (b.answered d
      (fun x => x.status == St.ok) = true ∧ (b.nch (bits (d.dw 5) 4 0)).pos = 0 ∧ (b.nch (bits (d.dw 5) 4
      0)).table.map (fun e => (e.id, e.ms, e.dir, e.cks, e.len)) = (Block.pieces 4 64 (d.payload.take d.len)).map
      (fun e => (ofLe e % 64, bits (ofLe e) 15 8, bit (ofLe e) 16, bit (ofLe e) 17, bits (ofLe e) 31 24))) ∧
      s.blk.Beside (offsOf [R.HQ_QSTAT, R.LIN_STAT] ++ d.regs) ([Part.chn, Part.flights] ++ Part.buses ++ d.parts)
      b) ∧
  (∀ (s : State) (d : Desc), s.blk.Ready → s.blk.Executes d → s.blk.Single d → d.ok 0x75 12 768 [0x1F] = true →
      isLin (bits (d.dw 5) 4 0) = true → d.len = 12 → d.payload.length = 12 → bits (ofLe (d.payload.take 1)) 7 6 = 0
      → ofLe ((d.payload.drop 3).take 1) = 0 → ofLe ((d.payload.drop 2).take 1) < 2 → 1 ≤ ofLe ((d.payload.drop
      1).take 1) → ofLe ((d.payload.drop 1).take 1) ≤ 8 → s.blk.nOn (bits (d.dw 5) 4 0) = true → Completes (.linResp
      d) s fun b => (b.answered d (fun x => x.status == St.ok) = true ∧ Tab.get { cks := false, data := [] } (b.nch
      (bits (d.dw 5) 4 0)).resp (ofLe (d.payload.take 1)) =
      { cks := bit (ofLe ((d.payload.drop 2).take 1)) 0, data := (d.payload.drop 4).take (ofLe ((d.payload.drop 1).take 1)) })
      ∧ s.blk.Beside (offsOf [R.HQ_QSTAT, R.LIN_STAT] ++ d.regs) ([Part.chn, Part.flights] ++ Part.buses ++ d.parts)
      b) ∧
  (∀ (s : State) (d : Desc), s.blk.Ready → s.blk.Executes d → s.blk.Single d → d.ok 0x76 32 65536 [] = true →
      s.blk.pg 7 = true → (Block.recordsOf 4096 (d.payload.take d.len)).isSome = true → (((Block.recordsOf 4096
      (d.payload.take d.len)).getD []).all fun r => r.2 == 28 && r.1.id == 0 && r.1.flags == 0 && r.1.ext == 0 &&
      decide (14 ≤ r.1.data.length) && decide (r.1.data.length ≤ 1518)) = true → Completes (.ethTx d) s fun b =>
      (b.answered d (fun x => x.status == St.ok) = true ∧ (∀ f ∈ (((Block.recordsOf 4096 (d.payload.take
      d.len)).getD []).map Prod.fst), (((Block.recordsOf 4096 (d.payload.take d.len)).getD []).map Prod.fst).length
      = 1 → Block.isGroup (Block.macAt f.data 6) = false → s.blk.net.mac.length < 2048 → b.net.mac.any (fun m => m.1
      == Block.macAt f.data 6 && m.2 == 4) = true)) ∧ s.blk.Beside (offsOf [R.ETH_CNT, R.ETH_PSTAT, R.GW_POUT,
      R.GW_STAT, R.HQ_QSTAT] ++ d.regs) ([Part.chn, Part.ecc, Part.flights, Part.kept, Part.mem, Part.net] ++
      Part.buses ++ d.parts) b) ∧
  (∀ (s : State) (d : Desc), s.blk.Ready → s.blk.Executes d → s.blk.Single d → d.ok 0x77 400 65536 [] = true →
      Completes (.netRead d) s fun b => (b.answered d (fun x => x.status == St.ok && x.data.length == 400 &&
      x.data.take 192 == (List.range 12).flatMap (fun n => leBytes 4 (s.blk.rd R.CAN_STAT n) ++ leBytes 4 (s.blk.rd
      R.CAN_ERR n) ++ leBytes 4 (s.blk.rd R.CAN_KEEP n) ++ [0, 0, 0, 0])) = true) ∧ s.blk.Beside d.regs d.parts b) ∧
  (∀ (s : State) (d : Desc), s.blk.Ready → s.blk.Executes d → s.blk.Single d → d.ok 0x78 0 0 [0x1FFFFFFF, 0, 0, 7] =
      true → Block.chMaskOk (d.dw 5) 29 = true → (∀ n ∈ (Block.chMask (d.dw 5) 29), s.blk.nOn n = true) → Completes
      (.netClear d) s fun b => (b.answered d (fun x => x.status == St.ok) = true ∧ (∀ n ∈ (Block.chMask (d.dw 5)
      29), (bit (d.dw 8) 0 = true → (isCan n = true → bits (b.rd R.CAN_STAT n) 24 16 = 0) ∧ (isLin n = true → bits
      (b.rd R.LIN_STAT (n - 16)) 24 16 = 0) ∧ (isEth n = true → bits (b.rd R.ETH_PSTAT (n - 24)) 24 16 = 0)) ∧ (bit
      (d.dw 8) 2 = true → isCan n = true → b.rd R.CAN_KEEP n = 0))) ∧ s.blk.Beside (offsOf [R.CAN_KEEP, R.CAN_STAT,
      R.ETH_KEEP0, R.ETH_KEEP1, R.ETH_PSTAT, R.HQ_QSTAT, R.LIN_KEEP, R.LIN_STAT] ++ d.regs) ([Part.chn,
      Part.flights] ++ Part.buses ++ d.parts) b)

/-- CAN, LIN and Ethernet channels are enabled and disabled, and their links, diagnosis and bus-off run (from R330
to R332, R337, R341 and R345). Rests on R331, R332, R337, R341, R344, R345; the clauses state the parts of these
rules that they write out. Choices of the model in it: log 44, 47, 48, 138. -/
def Obligations.NetworkChannels : Prop :=
  (∀ (s : State) (who : Who) (n : Fin 12), s.blk.Ready → s.blk.CanWrite who (R.CAN_CFG.at n) → s.blk.nstate n = 0 →
      s.blk.canCfgOk n = true → Completes (.canEnable who n) s fun b => (b.nget N.en n = 1 ∧ b.nstate n = (if
      s.blk.getF F.CAN_CFG_MODE n = 1 then 2 else 1) ∧ b.nget N.wakesrc n = 0 ∧ b.getF F.CAN_ERR_TEC n = 0 ∧ b.getF
      F.CAN_ERR_REC n = 0) ∧ s.blk.Beside [R.CAN_CFG.at n.val, R.CAN_ERR.at n.val, R.CAN_STAT.at n.val] ([Part.kept]
      ++ Part.buses) b) ∧
  (∀ (s : State) (who : Who) (n : Fin 12), s.blk.Ready → s.blk.CanWrite who (R.CAN_CFG.at n) → s.blk.nstate n ≠ 0 →
      Completes (.canDisable who n) s fun b => b.nget N.en n = 0 ∧ b.nstate n = 0 ∧ (b.nch n).fifo = [] ∧ (b.nch
      n).prio = [] ∧ (b.nch n).bufs = [] ∧ (b.nch n).jobs = [] ∧ s.blk.Beside (offsOf (Regs.answers ++ [R.GW_POUT,
      R.GW_STAT]) ++ [R.CAN_CFG.at n.val, R.CAN_STAT.at n.val]) ([Part.kept, Part.net] ++ Part.buses ++
      Part.answers) b) ∧
  (∀ (s : State) (who : Who) (n : Fin 8), s.blk.Ready → s.blk.CanWrite who (R.LIN_CFG.at n) → s.blk.nstate (16 + n)
      = 0 → 1000 ≤ s.blk.getF F.LIN_CFG_BAUD n → s.blk.getF F.LIN_CFG_BAUD n ≤ 20000 → Completes (.linEnable who n)
      s fun b => b.nget N.en (16 + n) = 1 ∧ b.nstate (16 + n) = 1 ∧ b.nget N.wakesrc (16 + n) = 0 ∧ s.blk.Beside
      [R.LIN_CFG.at n.val, R.LIN_STAT.at n.val] ([Part.kept] ++ Part.buses) b) ∧
  (∀ (s : State) (who : Who) (n : Fin 8), s.blk.Ready → s.blk.CanWrite who (R.LIN_CFG.at n) → s.blk.nstate (16 + n)
      ≠ 0 → Completes (.linDisable who n) s fun b => b.nget N.en (16 + n) = 0 ∧ b.nstate (16 + n) = 0 ∧ (b.nch (16 +
      n)).bufs = [] ∧ s.blk.Beside (offsOf (Regs.answers ++ [R.GW_POUT, R.GW_STAT]) ++ [R.LIN_CFG.at n.val,
      R.LIN_STAT.at n.val]) ([Part.kept, Part.net] ++ Part.buses ++ Part.answers) b) ∧
  (∀ (s : State) (who : Who) (p : Fin 5) (cab : Fin 5), s.blk.Ready → s.blk.CanWrite who (R.ETH_PCFG.at p) → p.val <
      4 → s.blk.nstate (24 + p) = 0 → Completes (.ethPortEnable who p cab) s fun b => b.nget N.en (24 + p) = 1 ∧
      b.nstate (24 + p) = 1 ∧ b.nget N.wakesrc (24 + p) = 0 ∧ b.nget N.diag (24 + p) = cab ∧ s.blk.Beside
      [R.ETH_PCFG.at p.val, R.ETH_PSTAT.at p.val] ([Part.kept] ++ Part.buses) b) ∧
  (∀ (s : State) (who : Who) (cab : Fin 5), s.blk.Ready → s.blk.CanWrite who (R.ETH_PCFG.at 4) → Completes
      (.ethPortEnable who 4 cab) s fun b => b.getF F.ETH_PCFG_EN 4 = 1 ∧ s.blk.Beside (offsOf [R.ETH_PCFG,
      R.ETH_PSTAT]) ([Part.kept] ++ Part.buses) b) ∧
  (∀ (s : State) (who : Who) (p : Fin 5), s.blk.Ready → s.blk.CanWrite who (R.ETH_PCFG.at p) → p.val < 4 →
      s.blk.nstate (24 + p) ≠ 0 → Completes (.ethPortDisable who p) s fun b => b.nget N.en (24 + p) = 0 ∧ b.nstate
      (24 + p) = 0 ∧ b.getF F.ETH_PSTAT_LINK p = 0 ∧ s.blk.Beside (offsOf (Regs.answers ++ [R.GW_POUT, R.GW_STAT])
      ++ [R.ETH_CNT.at p.val, R.ETH_PCFG.at p.val, R.ETH_PSTAT.at p.val]) ([Part.kept, Part.net] ++ Part.buses ++
      Part.answers) b) ∧
  (∀ (s : State) (who : Who), s.blk.Ready → s.blk.CanWrite who (R.ETH_PCFG.at 4) → Completes (.ethPortDisable who 4)
      s fun b => b.getF F.ETH_PCFG_EN 4 = 0 ∧ (b.nch 28).recs = [] ∧ s.blk.Beside (offsOf (Regs.answers ++
      [R.ETH_CNT, R.ETH_PCFG, R.ETH_PSTAT, R.GW_POUT, R.GW_STAT])) ([Part.kept, Part.net] ++ Part.buses ++
      Part.answers) b) ∧
  (∀ (s : State) (n : Fin 12) (tx : Bool) (eight : Bool) (lec : Fin 7), s.blk.Ready → s.blk.nstate n = 1 → (tx =
      false ∨ lec.val ≠ 3 ∨ s.blk.getF F.CAN_ERR_TEC n ≤ 127) → Completes (.canBusError n tx eight lec) s fun b =>
      (b.getF F.CAN_ERR_TEC n = (if tx then min 255 (s.blk.getF F.CAN_ERR_TEC n + 8) else s.blk.getF F.CAN_ERR_TEC
      n) ∧ b.getF F.CAN_ERR_REC n = (if tx then s.blk.getF F.CAN_ERR_REC n else min 255 (s.blk.getF F.CAN_ERR_REC n
      + if eight then 8 else 1)) ∧ b.getF F.CAN_ERR_LEC n = lec ∧ b.nstate n = (if tx ∧ 255 < s.blk.getF
      F.CAN_ERR_TEC n + 8 then 5 else 1)) ∧ s.blk.Beside [R.CAN_ERR.at n.val, R.CAN_STAT.at n.val] ([Part.kept,
      Part.net] ++ Part.buses) b) ∧
  (∀ (s : State) (n : Fin 12), s.blk.Ready → s.blk.nstate n = 5 → (s.blk.nch n).recov = true → Completes
      (.busOffRecoveryDone n) s fun b => b.nstate n = 1 ∧ b.getF F.CAN_ERR_TEC n = 0 ∧ b.getF F.CAN_ERR_REC n = 0 ∧
      (b.nch n).recov = false ∧ s.blk.Beside [R.CAN_ERR.at n.val, R.CAN_STAT.at n.val] Part.buses b) ∧
  (∀ (s : State) (ch : Fin 24) (v : Fin 8), s.blk.Ready → (isCan ch = true ∨ isLin ch = true) → s.blk.nOn ch = true
      → (isCan ch = true ∨ v.val ≤ 3) → Completes (.busDiagMeasure ch v) s fun b => (b.nget N.diag ch = v ∧ (v.val ≠
      0 → v.val ≠ s.blk.nget N.diag ch → b.nget N.diagf ch = 1)) ∧ s.blk.Beside (offsOf [R.CAN_STAT, R.ETH_PSTAT,
      R.LIN_STAT]) [] b) ∧
  (∀ (s : State) (p : Fin 4) (inv : Bool), s.blk.Ready → (s.blk.nstate (24 + p) = 1 ∨ s.blk.nstate (24 + p) = 3) →
      Completes (.ethLinkUp p inv) s fun b => (b.getF F.ETH_PSTAT_LINK p = 1 ∧ (inv = true → p.val < 2 → b.getF
      F.ETH_PSTAT_POLINV p = 1)) ∧ s.blk.Beside (offsOf (Regs.answers ++ [R.ETH_CNT, R.ETH_PSTAT, R.GW_POUT,
      R.GW_STAT])) ([Part.kept, Part.net] ++ Part.buses ++ Part.answers) b) ∧
  (∀ (s : State) (p : Fin 4) (cab : Fin 5), s.blk.Ready → s.blk.flag F.ETH_PSTAT_LINK p = true → Completes
      (.ethLinkLoss p cab) s fun b => b.getF F.ETH_PSTAT_LINK p = 0 ∧ b.getF F.ETH_PSTAT_LINKDN p = 1 ∧ b.nget
      N.diag (24 + p) = cab ∧ (b.nch (24 + p)).egress = [] ∧ s.blk.Beside (offsOf (Regs.answers ++ [R.ETH_CNT,
      R.ETH_PSTAT, R.GW_POUT, R.GW_STAT])) ([Part.kept, Part.net] ++ Part.buses ++ Part.answers) b) ∧
  (∀ (s : State) (p : Beacons), s.blk.Ready → p.back = false → 2 ≤ p.port.val → (s.blk.nstate (24 + p.port) = 1 ∨
      s.blk.nstate (24 + p.port) = 3) → s.blk.flag F.ETH_PCFG_PLCA p.port = true → s.blk.getF F.ETH_PCFG_PLCAID
      p.port ≠ 0 → Completes (.plcaBeaconTimeout p) s fun b => (b.nch (24 + p.port)).noBeacon = true ∧ b.getF
      F.ETH_PSTAT_PLCAERR p.port = 1 ∧ s.blk.Beside (offsOf (Regs.answers ++ [R.CAN_STAT, R.ETH_CNT, R.ETH_PSTAT,
      R.GW_POUT, R.GW_STAT, R.LIN_STAT])) ([Part.kept, Part.net] ++ Part.buses ++ Part.answers) b) ∧
  (∀ (s : State) (p : Beacons), s.blk.Ready → p.back = true → (s.blk.nch (24 + p.port)).noBeacon = true → Completes
      (.plcaBeaconTimeout p) s fun b => (b.nch (24 + p.port)).noBeacon = false ∧ s.blk.Beside (offsOf (Regs.answers
      ++ [R.CAN_STAT, R.ETH_CNT, R.ETH_PSTAT, R.GW_POUT, R.GW_STAT, R.LIN_STAT])) ([Part.kept, Part.net] ++
      Part.buses ++ Part.answers) b) ∧
  (∀ (s : State) (mac : BitVec 48), s.blk.Ready → s.blk.getF F.ETH_SWCFG_AGE 0 ≠ 0 → Completes (.addressAgeOut mac)
      s fun b => (b.net.mac = s.blk.net.mac.filter fun m => !(m.1 == mac.toNat)) ∧ s.blk.Beside [] [Part.net] b)

/-- Frames, headers and buffers of the networks are sent, received and timed, and the gateway is set, read and
switched (from R333 to R342 and R362 to R380). Rests on R333, R334, R336, R338, R339, R342, R362, R363, R377, R380;
the clauses state the parts of these rules that they write out. Choices of the model in it: log 45, 46, 47, 49, 50,
138. -/
def Obligations.FramesAndGateway : Prop :=
  (∀ (s : State) (n : Fin 12) (f : CanRx), s.blk.Ready → s.blk.nstate n = 1 → f.frame.lenOk = true → (f.frame.fdf &&
      !bit ((s.blk.nch n).word 0) 3) = false → (f.frame.xlf && !bit ((s.blk.nch n).word 0) 4) = false → bit
      ((s.blk.nch n).word 0) 7 = true → (∀ m ∈ List.range 16, s.blk.flag F.CAN_FID_EN (16 * n + m) = false) →
      (s.blk.nch n).bufs = [] → (s.blk.nch n).lost = false → (s.blk.nch n).recs.length < 64 → Completes
      (.canFrameReceived n f) s fun b => ((b.nch n).recs = (s.blk.nch n).recs ++ [recordBytes n 0 (s.blk.pw.tbase -
      f.ticks) f.frame] ∧ b.getF F.CAN_ERR_REC n = (if 127 < s.blk.getF F.CAN_ERR_REC n then 119 else s.blk.getF
      F.CAN_ERR_REC n - 1)) ∧ s.blk.Beside (offsOf (Regs.answers ++ [R.CAN_STAT, R.CIPH_CNT, R.CIPH_LOAD,
      R.CIPH_STAT, R.ETH_CNT, R.ETH_PSTAT, R.GW_LOAD, R.GW_PIN, R.GW_POUT, R.GW_STAT, R.KEY_CACHE, R.KEY_CCNT,
      R.KEY_STAT, R.LIN_STAT, R.PKE_STAT]) ++ [R.CAN_ERR.at n.val]) ([Part.boot, Part.kept, Part.net] ++ Part.buses
      ++ Part.answers) b) ∧
  (∀ (s : State) (n : Fin 12) (e : CanEnd) (x : TxItem) (j : TxJob), s.blk.Ready → s.blk.nstate n = 1 → (s.blk.nch
      n).fifo = [x] → (s.blk.nch n).prio = [] → (s.blk.nch n).gw = [] → (s.blk.nch n).jobs = [j] → j.num = x.job →
      j.rest = [] → j.total = 1 → j.sent = 0 → x.echo = false → bits ((s.blk.nch n).word 0) 2 1 ≠ 2 → bits
      ((s.blk.nch n).word 0) 2 1 ≠ 1 → s.blk.Single j.desc → Completes (.canFrameSent n e) s fun b => ((b.nch
      n).fifo = [] ∧ (b.nch n).jobs = [] ∧ b.out.contains (.net n x.frame) = true ∧ b.getF F.CAN_ERR_TEC n =
      s.blk.getF F.CAN_ERR_TEC n - 1 ∧ b.answered j.desc (fun c => c.status == St.ok && c.cw2 == 1) = true) ∧
      s.blk.Beside (offsOf (Regs.answers ++ [R.CIPH_CNT, R.CIPH_LOAD, R.CIPH_STAT, R.GW_LOAD, R.GW_PIN, R.GW_POUT,
      R.GW_STAT, R.KEY_CACHE, R.KEY_CCNT, R.KEY_STAT, R.PKE_STAT]) ++ [R.CAN_ERR.at n.val, R.CAN_STAT.at n.val])
      ([Part.kept, Part.net] ++ Part.buses ++ Part.answers) b) ∧
  (∀ (s : State) (n : Fin 12) (x : TxItem) (l : List TxItem), s.blk.Ready → (s.blk.nch n).fifo = x :: l → Completes
      (.canTxTimeout n 0) s fun b => (b.getF F.CAN_STAT_TXFAIL n = 1 ∧ (b.nch n).fifo.all (fun y => !(y.job ==
      x.job) || decide (y.idx < x.idx)) = true) ∧ s.blk.Beside (offsOf (Regs.answers ++ [R.GW_POUT]) ++
      [R.CAN_STAT.at n.val]) ([Part.kept] ++ Part.buses ++ Part.answers) b) ∧
  (∀ (s : State) (ch : Fin 29) (x : RxBuf) (l : List RxBuf), s.blk.Ready → (s.blk.nch ch).bufs = x :: l → x.recs ≠ 0
      → s.blk.Single x.desc → Completes (.rxBufferTimeout ch) s fun b => ((b.nch ch).bufs = l ∧ b.answered x.desc
      (fun c => c.status == St.ok && c.cw2 == x.data.length && c.cw3 == x.recs) = true) ∧ s.blk.Beside (offsOf
      Regs.answers) (Part.buses ++ Part.answers) b) ∧
  (∀ (s : State) (n : Fin 8) (e : LinSlot), s.blk.Ready → s.blk.nstate (16 + n) = 1 → s.blk.coreRuns 13 = true →
      s.blk.linResponder (16 + n) = false → (s.blk.nch (16 + n)).slot = none → (s.blk.nch (16 + n)).table[(s.blk.nch
      (16 + n)).pos]? = some e → e.dir = false → Completes (.linSlot n) s fun b => (b.nch (16 + n)).slot = some e ∧
      (b.nch (16 + n)).pos = (s.blk.nch (16 + n)).pos + 1 ∧ b.out.contains (.linHeader (16 + n) (Block.linPid e.id))
      = true ∧ s.blk.Beside (offsOf [R.LIN_STAT]) Part.buses b) ∧
  (∀ (s : State) (n : Fin 8) (id : Fin 64) (dev : Nat), s.blk.Ready → s.blk.nstate (16 + n) = 1 → s.blk.linResponder
      (16 + n) = true → dev ≤ 140 → s.blk.linEntry (16 + n) id = none → Completes (.linHeaderReceived n id dev) s
      fun b => (b.nch (16 + n)).header = some id.val ∧ (b.nch (16 + n)).last = some (Block.linPid id) ∧ s.blk.Beside
      [R.LIN_STAT.at n.val] Part.buses b) ∧
  (∀ (s : State) (n : Fin 8) (id : Fin 64) (dev : Nat) (r : LinResp), s.blk.Ready → s.blk.nstate (16 + n) = 1 →
      s.blk.linResponder (16 + n) = true → dev ≤ 140 → s.blk.linEntry (16 + n) id = some r → Completes
      (.linHeaderReceived n id dev) s fun b => b.out.contains (.net (16 + n)
      { id := id, data := r.data, ext := Block.linExt id r.cks r.data }) = true ∧ (b.nch (16 + n)).header = none ∧
      s.blk.Beside (offsOf [R.LIN_STAT]) Part.buses b) ∧
  (∀ (s : State) (n : Fin 8) (data : TimedData) (cks : Byte) (e : LinSlot), s.blk.Ready → s.blk.nstate (16 + n) = 1
      → s.blk.linResponder (16 + n) = false → (s.blk.nch (16 + n)).slot = some e → 1 ≤ data.data.length →
      data.data.length ≤ 8 → cks.toNat = Block.linSum e.id e.cks data.data → (s.blk.nch (16 + n)).bufs = [] →
      (s.blk.nch (16 + n)).recs.length < 64 → (s.blk.nch (16 + n)).lost = false → Completes (.linFrameReceived n
      data cks) s fun b => ((b.nch (16 + n)).slot = none ∧ (b.nch (16 + n)).heard = true ∧ (bit ((s.blk.nch (16 +
      n)).word 0) 4 = true → (b.nch (16 + n)).recs = (s.blk.nch (16 + n)).recs ++ [recordBytes (16 + n) 0
      (s.blk.pw.tbase - data.ticks) { id := e.id, data := data.data, ext := Block.linExt e.id e.cks data.data }])) ∧
      s.blk.Beside (offsOf (Regs.answers ++ [R.CAN_STAT, R.CIPH_CNT, R.CIPH_LOAD, R.CIPH_STAT, R.ETH_CNT,
      R.ETH_PSTAT, R.GW_LOAD, R.GW_PIN, R.GW_POUT, R.GW_STAT, R.KEY_CACHE, R.KEY_CCNT, R.KEY_STAT, R.LIN_STAT,
      R.PKE_STAT])) ([Part.kept, Part.net] ++ Part.buses ++ Part.answers) b) ∧
  (∀ (s : State) (p : Fin 4) (data : TimedData), s.blk.Ready → s.blk.nstate (24 + p) = 1 → s.blk.flag
      F.ETH_PSTAT_LINK p = true → Completes (.ethFrameReceived p data) s fun b => (b.getF F.ETH_CNT_RXFR p =
      (s.blk.getF F.ETH_CNT_RXFR p + 1) % 65536 ∧ (data.data.length + 4 ≤ 1522 → Block.isGroup (Block.macAt
      data.data 6) = false → Block.macAt data.data 6 ≠ s.blk.ownMac → s.blk.net.mac.length < 2048 → b.net.mac.any
      (fun m => m.1 == Block.macAt data.data 6 && m.2 == p.val) = true)) ∧ s.blk.Beside (offsOf (Regs.answers ++
      [R.CAN_STAT, R.CIPH_CNT, R.CIPH_LOAD, R.CIPH_STAT, R.ETH_CNT, R.ETH_PSTAT, R.GW_LOAD, R.GW_PIN, R.GW_POUT,
      R.GW_STAT, R.KEY_CACHE, R.KEY_CCNT, R.KEY_STAT, R.LIN_STAT, R.PKE_STAT])) ([Part.kept, Part.net] ++ Part.buses
      ++ Part.answers) b) ∧
  (∀ (s : State) (d : Desc), s.blk.Ready → s.blk.Executes d → s.blk.Single d → d.ok 0x80 32 65536 [0, 0, 0, 0x3FFF]
      = true → d.len % 32 = 0 → d.len ≤ d.payload.length → (bits (d.dw 8) 13 0) + d.len / 32 ≤ gwEntries →
      (((Block.pieces 32 2048 (d.payload.take d.len)).map routeOf).all fun r => !routeBad (s.blk.getF F.GW_CFG_RKSEL
      0) r) = true → (s.blk.flag F.GW_CFG_TLOCK 0 = false ∨ s.blk.isLocked = false) → s.blk.flag F.CATCH_INJ_ARM 0 =
      false → d.src.isRing = false → Completes (.gwRoute d) s fun b => (b.answered d (fun x => x.status == St.ok) =
      true ∧ b.readMem (gwTable + 32 * (bits (d.dw 8) 13 0)) d.len = d.payload.take d.len ∧ b.getF F.GW_TBL_GEN 0 =
      (s.blk.getF F.GW_TBL_GEN 0 + 1) % 65536) ∧ s.blk.Beside (offsOf [R.GW_TBL, R.HQ_QSTAT] ++ d.regs) ([Part.chn,
      Part.ecc, Part.flights, Part.mem] ++ d.parts) b) ∧
  (∀ (s : State) (d : Desc), s.blk.Ready → s.blk.Executes d → s.blk.Single d → d.ok 0x81 (32 * bits (d.dw 9) 11 0)
      65536 [0, 0, 0, 0x3FFF, 0xFFF] = true → 1 ≤ bits (d.dw 9) 11 0 → bits (d.dw 9) 11 0 ≤ 2048 → (bits (d.dw 8) 13
      0) + bits (d.dw 9) 11 0 ≤ gwEntries → Completes (.gwRead d) s fun b => (b.answered d (fun x => x.status ==
      St.ok && x.data == s.blk.readMem (gwTable + 32 * (bits (d.dw 8) 13 0)) (32 * bits (d.dw 9) 11 0)) = true) ∧
      s.blk.Beside d.regs d.parts b) ∧
  (∀ (s : State) (d : Desc), s.blk.Ready → s.blk.Executes d → s.blk.Single d → d.ok 0x82 248 65536 [] = true →
      Completes (.gwStats d) s fun b => (b.answered d (fun x => x.status == St.ok && x.data == leBytes 4 (s.blk.rd
      R.GW_STAT 0) ++ leBytes 4 (s.blk.rd R.GW_TBL 0) ++ leBytes 4 (b.rd R.GW_LOAD 0) ++ List.replicate 4 0 ++
      (List.range 29).flatMap (fun c => leBytes 4 (s.blk.rd R.GW_PIN c) ++ leBytes 4 (s.blk.rd R.GW_POUT c))) =
      true) ∧ s.blk.Beside (offsOf [R.GW_LOAD] ++ d.regs) ([Part.net] ++ d.parts) b) ∧
  (∀ (s : State) (d : Desc), s.blk.Ready → s.blk.Executes d → s.blk.Single d → d.ok 0x83 0 0 [0, 0, 0, 3] = true →
      d.dw 8 ≠ 0 → s.blk.flag F.CATCH_INJ_ARM 0 = false → Completes (.gwClear d) s fun b => (b.answered d (fun x =>
      x.status == St.ok) = true ∧ (bit (d.dw 8) 0 = true → bits (b.rd R.GW_STAT 0) 7 0 = 0) ∧ (bit (d.dw 8) 1 = true
      → ∀ c ∈ List.range 29, b.rd R.GW_PIN c = 0 ∧ b.rd R.GW_POUT c = 0)) ∧ s.blk.Beside (offsOf [R.GW_PIN,
      R.GW_POUT, R.GW_STAT, R.HQ_QSTAT] ++ d.regs) ([Part.chn, Part.ecc, Part.flights, Part.mem] ++ d.parts) b) ∧
  (∀ (s : State) (who : Who), s.blk.Ready → s.blk.CanWrite who (R.GW_CFG.at 0) → Completes (.gatewayEnable who) s
      fun b => b.getF F.GW_CFG_EN 0 = 1 ∧ s.blk.Beside (offsOf [R.GW_CFG]) [] b) ∧
  (∀ (s : State) (who : Who), s.blk.Ready → s.blk.CanWrite who (R.GW_CFG.at 0) → Completes (.gatewayDisable who) s
      fun b => (b.getF F.GW_CFG_EN 0 = 0 ∧ ∀ n ∈ List.range 12, (b.nch n).gw = []) ∧ s.blk.Beside (offsOf
      [R.CIPH_STAT, R.GW_CFG, R.GW_POUT, R.KEY_CACHE, R.PKE_STAT]) ([Part.ciph, Part.net] ++ Part.buses) b)

/-- Channels go to sleep, commit, keep their record and wake (from R346 to R352). Rests on R346, R347, R348, R349,
R350, R352; the clauses state the parts of these rules that they write out. Choices of the model in it: log 74. -/
def Obligations.SleepAndWake : Prop :=
  (∀ (s : State) (n : Fin 8), s.blk.Ready → s.blk.nstate (16 + n) = 1 → s.blk.autoSleep (16 + n) = true → Completes
      (.linGotoSleep n) s fun b => b.nstate (16 + n) = 3 ∧ (b.nch (16 + n)).prev = 1 ∧ s.blk.Beside [R.LIN_STAT.at
      n.val] Part.buses b) ∧
  (∀ (s : State) (n : Fin 8), s.blk.Ready → s.blk.nstate (16 + n) = 1 → s.blk.linResponder (16 + n) = true →
      Completes (.linHeaderSilence n) s fun b => (b.nget N.diag (16 + n) = 3 ∧ b.nstate (16 + n) = (if
      s.blk.autoSleep (16 + n) then 3 else 1)) ∧ s.blk.Beside [R.LIN_STAT.at n.val] Part.buses b) ∧
  (∀ (s : State) (ch : BusAt), s.blk.Ready → (isCan ch.ch = true ∨ isLin ch.ch = true ∨ isEth ch.ch = true) →
      s.blk.nstate ch.ch = 3 → Completes (.idleTimeout ch) s fun b => ((b.nch ch.ch).idle = true ∧ ((s.blk.nch
      ch.ch).fifo = [] → (s.blk.nch ch.ch).prio = [] → (s.blk.nch ch.ch).gw = [] → (s.blk.nch ch.ch).jobs = [] →
      isT1 ch.ch = false → (isCan ch.ch = true → ch.quiet = true) → (b.nch ch.ch).armed = true)) ∧ s.blk.Beside
      (offsOf [R.CAN_STAT, R.ETH_PSTAT, R.LIN_STAT]) Part.buses b) ∧
  (∀ (s : State) (ch : Fin 28), s.blk.Ready → (isCan ch = true ∨ isLin ch = true ∨ isEth ch = true) → s.blk.nstate
      ch = 3 → (s.blk.nch ch).armed = true → Completes (.sleepCommit ch) s fun b => b.nstate ch = 4 ∧ b.nget N.slept
      ch = 1 ∧ (b.nch ch).armed = false ∧ (Tab.get ({} : NetKept) b.net.kept ch).asleep = true ∧ s.blk.Beside
      (offsOf [R.CAN_STAT, R.ETH_PSTAT, R.LIN_STAT]) ([Part.kept] ++ Part.buses) b) ∧
  (∀ (s : State) (ch : BusAt), s.blk.Ready → (isCan ch.ch = true ∨ isLin ch.ch = true ∨ isEth ch.ch = true) →
      s.blk.nstate ch.ch = 3 → Completes (.awakemaxExpiry ch) s fun b => b.nget N.keepx ch.ch = 1 ∧ b.HasEvent
      (evNet ch.ch) ∧ s.blk.Beside (offsOf [R.CAN_KEEP, R.CAN_STAT, R.ETH_KEEP0, R.ETH_KEEP1, R.ETH_PSTAT,
      R.LIN_KEEP, R.LIN_STAT]) Part.buses b) ∧
  (∀ (s : State) (ch : Fin 28) (seen : NetSeen), s.blk.Ready → (isCan ch = true ∨ isLin ch = true ∨ isEth ch = true)
      → s.blk.nstate ch = 4 → (s.blk.detect ch seen).2 = 1 → ((s.blk.nch ch).prev = 1 ∨ (s.blk.nch ch).prev = 2) →
      Completes (.wakeDetection ch seen) s fun b => b.nstate ch = (s.blk.nch ch).prev ∧ b.nget N.wakesrc ch = 1 ∧
      b.nget N.wakeev ch = 1 ∧ (Tab.get ({} : NetKept) b.net.kept ch).asleep = false ∧ s.blk.Beside (offsOf
      [R.CAN_STAT, R.ETH_PSTAT, R.LIN_STAT]) ([Part.kept, Part.net] ++ Part.buses) b) ∧
  (∀ (s : State) (p : Fin 2), s.blk.Ready → s.blk.nstate (24 + p) = 1 → s.blk.flag F.ETH_PCFG_TC10ACC p = true →
      Completes (.tc10SleepRequest p) s fun b => b.nstate (24 + p) = 3 ∧ (b.nch (24 + p)).ack = true ∧ Out.tc10 p 1
      ∈ b.out ∧ s.blk.Beside (offsOf [R.CAN_ERR, R.CAN_STAT, R.ETH_PSTAT, R.LIN_STAT]) Part.buses b) ∧
  (∀ (s : State) (p : Fin 2), s.blk.Ready → s.blk.nstate (24 + p) = 1 → s.blk.flag F.ETH_PCFG_TC10ACC p = false →
      Completes (.tc10SleepRequest p) s fun b => b.nstate (24 + p) = 1 ∧ Out.tc10 p 2 ∈ b.out ∧ s.blk.Beside (offsOf
      [R.CAN_ERR, R.CAN_STAT, R.ETH_PSTAT, R.LIN_STAT]) Part.buses b) ∧
  (∀ (s : State) (p : Fin 2), s.blk.Ready → s.blk.nstate (24 + p) = 3 → Completes (.tc10SleepAck p) s fun b =>
      (b.nch (24 + p)).ack = true ∧ s.blk.Beside (offsOf [R.CAN_STAT, R.ETH_PSTAT, R.LIN_STAT]) Part.buses b) ∧
  (∀ (s : State) (p : Fin 2), s.blk.Ready → s.blk.nstate (24 + p) = 3 → Completes (.tc10SleepReject p) s fun b =>
      b.getF F.ETH_PSTAT_SLPREJ p = 1 ∧ s.blk.Beside (offsOf [R.CAN_STAT, R.ETH_PSTAT, R.LIN_STAT]) [] b)

/-- Feeds, bands, temperatures, links, the real-time counter and the clock crossings are recorded (from R62 to R64,
R87, R97, R98 and R457 to R473). Rests on R62, R63, R64, R87, R98, R97, R457, R465, R467, R470, R473; the clauses
state the parts of these rules that they write out. Choices of the model in it: log 5, 20, 37, 132. -/
def Obligations.SuppliesAndClocks : Prop :=
  (∀ (s : State) (n : Fin 3) (ma : Nat), s.blk.Ready → 60000 < ma → Completes (.feedOvercurrent n ma) s fun b => bit
      (b.rd R.PWR_FEEDSTAT 0) n = true ∧ b.getF F.PWR_FEED_CURR n = min (ma / 10) 65535 ∧ b.HasEvent n ∧
      s.blk.Beside (offsOf [R.PWR_FEEDSTAT] ++ [R.PWR_FEED.at n.val]) [] b) ∧
  (∀ (s : State) (ma : Nat), s.blk.Ready → 160000 < ma → Completes (.aggregateOvercurrent ma) s fun b => b.flag
      F.PWR_FEEDSTAT_AGGOC 0 = true ∧ b.HasEvent 10 ∧ s.blk.Beside (offsOf [R.PWR_FEEDSTAT]) [] b) ∧
  (∀ (s : State) (n : Fin 3) (mv : Nat) (lg : Nat), s.blk.Ready → mv < 6000 → 9000 ≤ lg → Completes (.feedMissing n
      mv lg) s fun b => bit (b.rd R.PWR_FEEDSTAT 0) (4 + n) = true ∧ b.HasEvent n ∧ s.blk.Beside (offsOf
      [R.PWR_FEEDSTAT] ++ [R.PWR_FEED.at n.val]) [] b) ∧
  (∀ (s : State) (n : Fin 3) (mv : Nat), s.blk.Ready → bandOff (bandOf (s.blk.flag F.PWR_CFG_SYSV 0)
      (s.blk.feedBandOf n) mv) = false → Completes (.feedBandChange n mv) s fun b => b.getF F.PWR_FEED_VOLT n = min
      mv 65535 ∧ b.feedBandOf n = bandOf (s.blk.flag F.PWR_CFG_SYSV 0) (s.blk.feedBandOf n) mv ∧ s.blk.Beside
      (offsOf [R.BST_BSTAT, R.BST_STAT, R.DIO_DOCMD, R.DIO_DOSTAT, R.DIO_SVSTAT, R.HB_STAT, R.HSW_STAT, R.MTX_STAT,
      R.PWR_FEEDSTAT, R.VLV_COUNT, R.VLV_STAT] ++ [R.PWR_FEED.at n.val]) ([Part.lsBy, Part.pw, Part.vlvFault] ++
      Part.chans ++ Part.mtxs ++ Part.valves) b) ∧
  (∀ (s : State) (n : Fin 3), s.blk.Ready → Tab.get false s.blk.pw.feedOff n = true → bandOff (s.blk.feedBandOf n) =
      false → Completes (.supplyRestart n) s fun b => Tab.get false b.pw.feedOff n = false ∧ s.blk.Beside (offsOf
      [R.BST_STAT, R.DIO_DOCMD, R.DIO_DOSTAT, R.DIO_SVSTAT, R.HB_STAT, R.HSW_STAT, R.MTX_STAT, R.VLV_STAT])
      ([Part.pw] ++ Part.chans) b) ∧
  (∀ (s : State) (mv : Nat), s.blk.Ready → bandOf (s.blk.flag F.PWR_CFG_SYSV 0) (s.blk.getF F.PWR_STATE_BAND 0) mv ≠
      0 → bandOf (s.blk.flag F.PWR_CFG_SYSV 0) (s.blk.getF F.PWR_STATE_BAND 0) mv ≠ s.blk.getF F.PWR_STATE_BAND 0 →
      Completes (.logicBandChange mv) s fun b => b.getF F.PWR_STATE_BAND 0 = bandOf (s.blk.flag F.PWR_CFG_SYSV 0)
      (s.blk.getF F.PWR_STATE_BAND 0) mv ∧ b.HasEvent 3 ∧ s.blk.Beside (offsOf [R.PWR_STATE]) [Part.pw] b) ∧
  (∀ (s : State) (ppm : Int), s.blk.Ready → (20000 < ppm ∨ ppm < -20000) → Completes (.referenceOscDeviation ppm) s
      fun b => b.HasEvent 8 ∧ s.blk.Beside [] [] b) ∧
  (∀ (s : State) (us : Nat), s.blk.Ready → 1000 < us → Completes (.crystalStop us) s fun b => b.HasEvent 9 ∧
      s.blk.Beside [] [] b) ∧
  (∀ (s : State) (i : Fin 5) (t : Int), s.blk.Ready → Tab.get false s.blk.pw.tempHigh i = false → Block.tempLimit i
      * 16 < t → Completes (.temperatureThreshold i t) s fun b => Tab.get false b.pw.tempHigh i = true ∧ b.HasEvent
      (11 + i) ∧ s.blk.Beside [] [Part.pw] b) ∧
  (∀ (s : State) (n : Fin 9) (t : BitVec 16), s.blk.Ready → s.blk.pg (Block.sensorDomain n) = true → Completes
      (.tempSensorUpdate n t) s fun b => b.getF F.PWR_TEMP_TEMP n = t.toNat ∧ b.getF F.PWR_TEMP_VALID n = 1 ∧
      s.blk.Beside [R.PWR_TEMP.at n.val] [] b) ∧
  (∀ (s : State) (l : Fin 7), s.blk.Ready → Completes (.internalLinkFault l) s fun b => Tab.get false b.pw.linkFail
      l = true ∧ b.HasEvent 253 ∧ s.blk.Beside [] [Part.pw] b) ∧
  (∀ (s : State) (who : Who) (v : Word), s.blk.Ready → s.blk.CanWrite who (R.PWR_RTC0.at 0) → Completes
      (.rtcLowWrite who v) s fun b => b.pw.rtcStage = some v.toNat ∧ s.blk.Beside (offsOf [R.PWR_RTC0]) [Part.pw] b) ∧
  (∀ (s : State) (who : Who) (v : BitVec 16), s.blk.Ready → s.blk.CanWrite who (R.PWR_RTC1.at 0) → Completes
      (.rtcHighWrite who v) s fun b => b.pw.rtcLoad = some v.toNat ∧ s.blk.Beside (offsOf [R.PWR_RTC1]) [Part.pw] b) ∧
  (∀ (s : State) (who : Who) (stale : Bool), s.blk.Ready → s.blk.CanRead who (R.PWR_RTC0.at 0) → Completes (.rtcRead
      who stale) s fun b => b.rd R.PWR_RTC0 0 = s.blk.pw.rtc % 2 ^ 32 ∧ b.rd R.PWR_RTC1 0 = s.blk.pw.rtc / 2 ^ 32 %
      65536 + b2n stale * 2 ^ 31 ∧ s.blk.Beside (offsOf [R.PWR_RTC0, R.PWR_RTC1]) [] b) ∧
  (∀ (s : State) (who : Who) (v : BitVec 16), s.blk.Ready → s.blk.CanWrite who (R.PWR_RTCALM1.at 0) → Completes
      (.rtcAlarmHighWrite who v) s fun b => b.getF F.PWR_RTCALM1_TICKS 0 = v.toNat) ∧
  (∀ (s : State) (count : BitVec 48) (phase : Fin 3) (rk : Fin 16), s.blk.Ready → count.toNat = s.blk.rtcAlarm →
      Completes (.rtcAlarm count phase rk) s fun b => b.pw.rtc = count.toNat ∧ b.HasEvent 3) ∧
  (∀ (s : State) (high : Bool) (phase : Fin 3) (rk : Fin 16), s.blk.Ready → s.blk.flag F.PWR_STATE_IGN 0 ≠ high →
      Completes (.ignChange high phase rk) s fun b => b.flag F.PWR_STATE_IGN 0 = high ∧ b.HasEvent 3) ∧
  (∀ (s : State) (who : Who), s.blk.Ready → s.blk.CanWrite who (R.CDC_CTL.at 0) → Completes (.cdcClearPeak who) s
      fun b => (((List.range 64).all fun x => b.getF F.CDC_XSTAT_PEAK x == s.blk.getF F.CDC_XSTAT_PEND x && b.getF
      F.CDC_XSTAT_LOST x == s.blk.getF F.CDC_XSTAT_LOST x) = true) ∧ s.blk.Beside (offsOf [R.CDC_CTL, R.CDC_XSTAT])
      [] b) ∧
  (∀ (s : State) (v : Fin 2048), s.blk.Ready → Completes (.speedMeasurement v) s fun b => (b.getF F.CDC_SPEED_SPEED
      0 = v ∧ b.getF F.CDC_SPEED_SLOW 0 = (if v.val < 640 then 1 else s.blk.getF F.CDC_SPEED_SLOW 0)) ∧ s.blk.Beside
      (offsOf [R.CDC_SPEED]) [] b) ∧
  (∀ (s : State) (i : Fin 9), s.blk.Ready → s.blk.flag F.CDC_ISTAT_GATED i = true → Completes (.islandClockRestart
      i) s fun b => b.flag F.CDC_ISTAT_GATED i = false ∧ b.flag F.CDC_ISTAT_RUN i = true ∧ b.getF
      F.CDC_ISTAT_WAKECNT i = (s.blk.getF F.CDC_ISTAT_WAKECNT i + 1) % 2 ^ (F.CDC_ISTAT_WAKECNT.hi + 1 -
      F.CDC_ISTAT_WAKECNT.lo) ∧ s.blk.Beside [R.CDC_ISTAT.at i.val] [] b) ∧
  (∀ (s : State) (x : Fin 56), s.blk.Ready → s.blk.flag F.CDC_ISTAT_GATED (islandOf x) = true → Completes
      (.islandWakeFailure x) s fun b => (b.flag F.CDC_ISTAT_WAKEF (islandOf x) = true ∧ b.flag F.CDC_ISTAT_GATED
      (islandOf x) = true ∧ ((crossSource x).all fun e => bit (b.rd R.CATCH_STICKY (e / 32)) (e % 32)) = true) ∧
      s.blk.Beside (offsOf [R.CDC_ISTAT, R.CIPH_RNG, R.CIPH_STAT, R.HQ_QIDX, R.HQ_QSTAT, R.KEY_CACHE, R.KEY_CCNT,
      R.KEY_STAT, R.PKE_STAT]) [Part.acs, Part.ciph, Part.flights] b)

/-- Domains are switched and cores are started, watched and reset (from R67 to R70 and R475, R508 and R509). Rests
on R68, R69, R475, R508, R509; the clauses state the parts of these rules that they write out. Choices of the model
in it: log 107, 145, 147. -/
def Obligations.DomainsAndCores : Prop :=
  (∀ (s : State) (who : Who) (d : Fin 10), s.blk.Ready → s.blk.CanWrite who (R.PWR_DOMCTL.at 0) → Completes
      (.domainOn who d) s fun b => b.domBit (3 + d) = true ∧ s.blk.Beside (offsOf [R.PWR_DOMCTL]) [] b) ∧
  (∀ (s : State) (d : Fin 10) (rk : Fin 16), s.blk.Ready → s.blk.domBit (3 + d) = true → s.blk.pg (3 + d) = false →
      s.blk.boot.ran = false → Completes (.domainPowerGood d rk) s fun b => (b.pg (3 + d) = true ∧ (domainCores (3 +
      d)).all (fun k => b.coreState k == 1) = true) ∧ s.blk.Beside (offsOf (Regs.answers ++ [R.ACS_STAT,
      R.BOOT_BANK, R.BOOT_MS, R.BOOT_STAT, R.BOOT_VER, R.CAN_STAT, R.CDC_ISTAT, R.CHN_PORT, R.CHN_STAT, R.CIPH_RNG,
      R.CIPH_STAT, R.ETH_PSTAT, R.GW_POUT, R.GW_STAT, R.HEP_STAT, R.KEY_CACHE, R.KEY_RKSTAT, R.KEY_STAT, R.LIN_STAT,
      R.PKE_STAT, R.PWR_DOMSTAT])) ([Part.boot, Part.net] ++ Part.buses ++ Part.cores ++ Part.dis ++ Part.answers)
      b) ∧
  (∀ (s : State) (d : Fin 10), s.blk.Ready → s.blk.domBit (3 + d) = true → s.blk.pg (3 + d) = false → Completes
      (.domainPgTimeout d) s fun b => b.domBit (3 + d) = false ∧ b.flag F.PWR_DOMSTAT_PGFAIL 0 = true ∧ b.HasEvent 4
      ∧ s.blk.Beside (offsOf [R.PWR_DOMCTL, R.PWR_DOMSTAT]) [] b) ∧
  (∀ (s : State) (who : Who) (d : Fin 10), s.blk.Ready → s.blk.CanWrite who (R.PWR_DOMCTL.at 0) → s.blk.domBit (3 +
      d) = true → s.blk.pg (3 + d) = true → s.blk.domainBusy (3 + d) = false → Completes (.domainOff who d) s fun b
      => b.domBit (3 + d) = false ∧ b.pg (3 + d) = false) ∧
  (∀ (s : State) (c : Fin 15), s.blk.Ready → 6 ≤ c.val → s.blk.coreState c = 1 → s.blk.hq.flights = [] → Tab.get []
      s.blk.boot.heads ([0, 0, 0, 0, 0, 0, 3, 3, 3, 3, 4, 4, 5, 6, 7].getD c 0) ≠ [] → Completes (.engineReady c) s
      fun b => b.coreState c = 2 ∧ s.blk.Beside (offsOf [R.GW_POUT, R.GW_STAT, R.HQ_QSTAT] ++ [R.HEP_STAT.at c.val])
      ([Part.chn, Part.flights, Part.net, Part.pw] ++ Part.buses ++ Part.cores) b) ∧
  (∀ (s : State) (who : Who) (c : Fin 4), s.blk.Ready → s.blk.CanWrite who (R.HEP_CCTL.at c) → s.blk.coreState (2 +
      c) = 1 → Completes (.coreRun who c) s fun b => b.coreState (2 + c) = 2 ∧ b.flag F.HEP_CCTL_RUN c = true ∧
      (b.hc (2 + c)).pc = BitVec.ofNat 32 (s.blk.getF F.HEP_CENTRY_ENTRY c * 4) ∧ (b.hc (2 + c)).sr = 0x41 ∧
      s.blk.Beside (offsOf [R.HEP_STAT] ++ [R.HEP_CCTL.at c.val]) Part.cores b) ∧
  (∀ (s : State) (who : Who), s.blk.Ready → s.blk.CanWrite who (R.HEP_SWDCFG.at 0) → s.blk.flag F.HEP_SWDCFG_EN 0 =
      false → s.blk.isLocked = false → Completes (.watchdogEnable who) s fun b => b.flag F.HEP_SWDCFG_EN 0 = true ∧
      b.boot.swdAt = s.blk.pw.osc ∧ s.blk.Beside (offsOf [R.HEP_SWDCFG, R.SYS_LOCKSTAT]) [Part.boot] b) ∧
  (∀ (s : State) (c : Fin 2), s.blk.Ready → s.blk.CanWrite (.core (Fin.ofNat 15 c)) (R.HEP_SWDKICK.at 0) →
      s.blk.flag F.HEP_SWDCFG_EN 0 = true → Completes (.watchdogKick (.core (Fin.ofNat 15 c)) 0x7E11) s fun b =>
      b.boot.swdAt = s.blk.pw.osc ∧ s.blk.Beside (offsOf [R.HEP_SWDKICK]) [Part.boot] b) ∧
  (∀ (s : State), s.blk.Ready → s.blk.flag F.HEP_SWDCFG_EN 0 = true → Completes .watchdogExpiry s fun b => b.flag
      F.PWR_RSTCAUSE_WDOG 0 = true ∧ b.pw.inReset = .soc) ∧
  (∀ (s : State) (c : Fin 2) (w : Word), s.blk.Ready → s.blk.CanWrite (.core (Fin.ofNat 15 c)) (R.HEP_CRST.at 0) →
      bits w.toNat 31 16 = 0x5C0E → 2 ≤ bits w.toNat 3 0 → bits w.toNat 3 0 ≤ 5 → s.blk.flag F.HEP_CCTL_AUTORUN
      (bits w.toNat 3 0 - 2) = false → s.blk.coreState (bits w.toNat 3 0) ≠ 0 → Completes (.hepCrstWrite (.core
      (Fin.ofNat 15 c)) w) s fun b => b.coreState (bits w.toNat 3 0) = 1 ∧ b.getF F.HEP_STAT_RSTCNT (bits w.toNat 3
      0) = min 255 (s.blk.getF F.HEP_STAT_RSTCNT (bits w.toNat 3 0) + 1) ∧ s.blk.Beside (offsOf [R.HEP_CRST,
      R.HEP_STAT]) [] b) ∧
  (∀ (s : State) (fl : List (Nat × Byte)), s.blk.Ready → s.blk.boot.hashing = true → s.blk.flag F.CATCH_INJ_ARM 0 =
      false → Completes (.supervisorHashComplete fl) s fun b => b.boot.hashing = false)

/-- Power-on reset, brown-out, cold boot into Recovery, Still and wake (from R9 to R11, R71 to R82, R93 and R604).
Rests on R9, R93, R76, R80, R82, R604; the clauses state the parts of these rules that they write out. Choices of
the model in it: log 7, 9, 72, 73, 132, 133, 144, 148. -/
def Obligations.ResetsAndStill : Prop :=
  (∀ (s : State), Completes .modulePowerOnReset s fun b => b.regs = [] ∧ b.mem = [] ∧ b.core = [] ∧ b.pw.inReset =
      .powerOn ∧ b.flash = s.blk.flash) ∧
  (∀ (s : State), s.blk.pw.inReset ≠ .powerOn → Completes .brownOut s fun b => b.regs = [] ∧ b.mem = [] ∧ b.core =
      [] ∧ b.pw.inReset = .brownOut ∧ b.pw.brown = true ∧ b.flash = s.blk.flash) ∧
  (∀ (s : State), s.blk.catchm.due = [] → s.blk.pg 1 = false → s.blk.pw.brown = true → s.blk.pw.inReset = .brownOut
      → Completes .brownOutEnd s fun b => b.pw.brown = false ∧ b.flag F.PWR_RSTCAUSE_BROWNOUT 0 = true ∧ b.flag
      F.PWR_RSTCAUSE_POR 0 = false) ∧
  (∀ (s : State), Completes .supplyBelowRetention s fun b => b.regs = [] ∧ b.mem = [] ∧ b.pw.inReset = .powerOn ∧
      b.pw.brown = true) ∧
  (∀ (s : State) (bcr : Fin 4) (rec : Fin 4) (rk : Fin 16), s.blk.Ready → s.blk.pw.brown = false →
      s.blk.boot.coldWake = true → s.blk.boot.recReq = true → s.blk.catchm.later = [] → s.blk.pg 8 = true →
      Completes (.coldBoot bcr rec rk) s fun b => b.getF F.PWR_STATE_STATE 0 = 4 ∧ b.flag F.BOOT_STAT_RECOVERY 0 =
      true ∧ b.coreState 0 = 2 ∧ b.boot.recReq = false ∧ (bcr = 3 → b.getF F.BOOT_STAT_BCRERR 0 = 1 ∧ b.flash.active
      = 0 ∧ b.flash.staged = 0 ∧ b.flash.trial = 0)) ∧
  (∀ (s : State) (c : Fin 2), s.blk.Ready → s.blk.CanWrite (.core (Fin.ofNat 15 c)) (R.PWR_STILL.at 0) → s.blk.getF
      F.PWR_STATE_STATE 0 = 2 → s.blk.anyOutput = false → s.blk.netsAsleep = true → Completes (.stillRequest (.core
      (Fin.ofNat 15 c)) ⟨0x5711, []⟩) s fun b => b.pw.still = .entering ∧ b.pw.savedDom = s.blk.rd R.PWR_DOMCTL 0 ∧
      s.blk.Beside (offsOf [R.ACS_REL, R.ACS_RELCNT, R.ACS_STAT, R.CAN_STAT, R.CIPH_CNT, R.CIPH_LOAD, R.CIPH_STAT,
      R.ETH_PSTAT, R.KEY_CACHE, R.KEY_CCNT, R.KEY_STAT, R.LIN_STAT, R.PKE_STAT, R.PWR_STATE, R.PWR_STILL])
      ([Part.acs, Part.ciph, Part.net, Part.pw] ++ Part.buses) b) ∧
  (∀ (s : State) (rk : Fin 16), s.blk.pw.still = .entering → s.blk.pw.heldWake = false → s.blk.pw.gaugeOff = false →
      Completes (.stillReached rk) s fun b => b.pw.still = .still ∧ b.getF F.PWR_STATE_STATE 0 = 1 ∧ b.pg 1 = false
      ∧ b.pg 2 = false) ∧
  (∀ (s : State) (src : Fin 45) (phase : Fin 3) (seen : WakeSeen) (rk : Fin 16), (decide (src.val < 16) &&
      !((Tab.get none s.blk.pw.diWake src).all fun w => Block.diWakes w seen.di.mv seen.di.ticks seen.di.idle)) =
      false → ((Block.wakeCh src).all fun c => !((s.blk.detect c seen.net).2 == 0)) = true → s.blk.catchm.due = [] →
      s.blk.pw.still = .still → s.blk.pw.gaugeOff = false → s.blk.wakeEnabled src = true → s.blk.wakeArmed src =
      true → (List.range 8).all (fun n => s.blk.chState n == Ch.disabled) = true → Completes (.wakeRecognised src
      phase seen rk) s fun b => b.pw.still = .waking ∧ b.pg 1 = true ∧ b.pg 2 = true) ∧
  (∀ (s : State) (fl : List (Nat × Byte)), s.blk.Calm → s.blk.Tame → s.blk.pw.inReset = .none → s.blk.pw.still =
      .waking → s.blk.flag F.CATCH_INJ_ARM 0 = false → Completes (.retainedHashComplete fl) s fun b => b.pw.still =
      .awake ∧ b.getF F.PWR_STATE_STILLRES 0 = 1) ∧
  (∀ (s : State), s.blk.catchm.due = [] → s.blk.pw.still = .still → s.blk.pg 1 = false → bit (s.blk.acs.still.getD 0
      0) 3 = true → Completes (.stillPollBurst none) s fun b => b.pw.still = .still ∧ b.acs.bursts =
      s.blk.acs.bursts + 1)

/-- A write reaches the fields of its register by their access types, closes set-up, and an RL field of closed set-
up is recorded (from R21, R56 and R58). Rests on R21, R56, R57, R58; the clauses state the parts of these rules that
they write out. Choices of the model in it: log 100, 101, 102, 103, 104. -/
def Obligations.RegisterWrites : Prop :=
  (∀ (s : State) (who : Who) (off : BitVec 24) (ws : List Word), s.blk.Ready → s.blk.spaceHeld = false → off.toNat <
      0x100000 → s.blk.writeCause who off.toNat 4 = none → (findReg off.toNat).isSome = true → ((findReg
      off.toNat).all fun x => (hookOf x.1 (Block.hooks who)).isNone) = true → ((findReg off.toNat).any fun x =>
      x.1.late s.blk.isLocked (s.blk.rd x.1 x.2) ((ws.getD 0 0).toNat)) = false → Completes (.registerWrite who off
      4 ws) s fun b => ((findReg off.toNat).all fun x => b.rd x.1 x.2 == x.1.merge s.blk.isLocked (s.blk.rd x.1 x.2)
      ((ws.getD 0 0).toNat)) = true ∧ b.getF F.SYS_LOCKSTAT_LATECNT 0 = s.blk.getF F.SYS_LOCKSTAT_LATECNT 0) ∧
  (∀ (s : State) (who : Who) (off : BitVec 24) (ws : List Word), s.blk.Ready → s.blk.spaceHeld = false → off.toNat <
      0x100000 → s.blk.writeCause who off.toNat 4 = none → (findReg off.toNat).isSome = true → ((findReg
      off.toNat).all fun x => (hookOf x.1 (Block.hooks who)).isNone) = true → ((findReg off.toNat).any fun x =>
      x.1.late s.blk.isLocked (s.blk.rd x.1 x.2) ((ws.getD 0 0).toNat)) = true → Completes (.registerWrite who off 4
      ws) s fun b => ((findReg off.toNat).all fun x => b.rd x.1 x.2 == x.1.merge s.blk.isLocked (s.blk.rd x.1 x.2)
      ((ws.getD 0 0).toNat)) = true ∧ b.getF F.SYS_LOCKSTAT_LATEWR 0 = 1 ∧ b.getF F.SYS_LOCKSTAT_LATECNT 0 = min 255
      (s.blk.getF F.SYS_LOCKSTAT_LATECNT 0 + 1)) ∧
  (∀ (s : State) (off : BitVec 24) (ws : List Word) (size : Fin 129) (who : Who) (c : Nat), s.blk.Ready →
      s.blk.spaceHeld = false → off.toNat < 0x100000 → size.val ≤ 4 → c ≠ 6 → s.blk.writeCause who off.toNat size =
      some c → Completes (.registerWrite who off size ws) s fun b => b.HasEvent 252 ∧ ∀ q ∈ [R.SYS_LOCKSTAT,
      R.PWR_CFG, R.PWR_DOMSTAT, R.WEIR_CFG], b.rd q 0 = s.blk.rd q 0) ∧
  (∀ (s : State) (who : Who), s.blk.Ready → s.blk.CanWrite who (R.SYS_LOCK.at 0) → s.blk.isLocked = false →
      Completes (.sysLockWrite who 0x5EA1) s fun b => b.isLocked = true ∧ b.getF F.SYS_LOCKSTAT_LOCKSRC 0 = b2n (who
      == .host) ∧ b.getF F.SYS_LOCKSTAT_BADKEY 0 = s.blk.getF F.SYS_LOCKSTAT_BADKEY 0 ∧ s.blk.Beside (offsOf
      [R.SYS_LOCK, R.SYS_LOCKSTAT]) [] b) ∧
  (∀ (s : State) (who : Who) (key : BitVec 16), s.blk.Ready → s.blk.CanWrite who (R.SYS_LOCK.at 0) → key.toNat ≠
      0x5EA1 → Completes (.sysLockWrite who key) s fun b => b.isLocked = s.blk.isLocked ∧ b.getF
      F.SYS_LOCKSTAT_BADKEY 0 = 1 ∧ s.blk.Beside (offsOf [R.SYS_LOCK, R.SYS_LOCKSTAT]) [] b)

/-- Resets, training and power states of the host link change the state (from R382, R383, R412, R415 and R680).
Rests on R382, R383, R412, R415, R465, R680; the clauses state the parts of these rules that they write out. Choices
of the model in it: log 53. -/
def Obligations.HostLink : Prop :=
  (∀ (s : State), s.blk.Ready → Completes .pcieFunctionLevelReset s fun b => (((List.range 64).all fun q => b.qState
      q == 0 && !b.flag F.HQ_QCFG_EN q) = true ∧ ((List.range 8).all fun e => b.eqState e == 0) = true ∧
      (b.hq.flights.all fun f => f.drop) = true ∧ b.hq.prod = [] ∧ b.hq.mbox = [] ∧ b.getF F.HQ_LINK_D3 0 = 0 ∧
      b.HasEvent 224) ∧ s.blk.Beside (offsOf (Regs.host ++ [R.UPD_RCVD, R.UPD_STAT])) [Part.boot, Part.flash,
      Part.flights, Part.mail, Part.queues] b) ∧
  (∀ (s : State), s.blk.Ready → Completes .linkDown s fun b => (((List.range 64).all fun q => b.qState q == 0 &&
      !b.flag F.HQ_QCFG_EN q) = true ∧ ((List.range 8).all fun e => b.eqState e == 0) = true ∧ (b.hq.flights.all fun
      f => f.drop) = true ∧ b.hq.prod = [] ∧ b.hq.mbox = [] ∧ b.getF F.HQ_LINK_UP 0 = 0 ∧ b.getF F.HQ_LINK_DOWNX 0 =
      1 ∧ b.HasEvent 224 ∧ b.pw.inReset = .none) ∧ s.blk.Beside (offsOf (Regs.host ++ [R.CDC_ISTAT, R.UPD_RCVD,
      R.UPD_STAT])) [Part.boot, Part.flash, Part.flights, Part.mail, Part.queues] b) ∧
  (∀ (s : State), s.blk.Ready → Completes .perstNLow s fun b => (((List.range 64).all fun q => b.qState q == 0 &&
      !b.flag F.HQ_QCFG_EN q) = true ∧ ((List.range 8).all fun e => b.eqState e == 0) = true ∧ (b.hq.flights.all fun
      f => f.drop) = true ∧ b.hq.prod = [] ∧ b.hq.mbox = [] ∧ b.getF F.HQ_LINK_UP 0 = 0 ∧ b.getF F.HQ_LINK_DOWNX 0 =
      1 ∧ b.HasEvent 224 ∧ b.pw.inReset = .none) ∧ s.blk.Beside (offsOf (Regs.host ++ [R.CDC_ISTAT, R.UPD_RCVD,
      R.UPD_STAT])) [Part.boot, Part.flash, Part.flights, Part.mail, Part.queues] b) ∧
  (∀ (s : State) (speed : Fin 4) (width : Fin 3), s.blk.Ready → s.blk.pg 8 = true → (s.blk.flag F.SYS_NODE_VALID 0 =
      false ∨ s.blk.flag F.SYS_NODE_HEAD 0 = true ∨ s.blk.flag F.SYS_NODE_STANDBY 0 = true) → s.blk.flag
      F.HQ_LINK_UP 0 = false → 1 ≤ speed.val → 1 ≤ width.val → speed.val ≤ s.blk.hq.pci.gen → width.val ≤
      s.blk.hq.pci.lanes → Completes (.linkTrained speed width) s fun b => (b.getF F.HQ_LINK_UP 0 = 1 ∧ b.getF
      F.HQ_LINK_SPEED 0 = speed ∧ b.getF F.HQ_LINK_WIDTH 0 = width ∧ (speed.val < s.blk.hq.pci.gen ∨ width.val <
      s.blk.hq.pci.lanes → b.getF F.HQ_LINK_DEGR 0 = 1 ∧ b.HasEvent 224)) ∧ s.blk.Beside (offsOf [R.HQ_LINK]) [] b) ∧
  (∀ (s : State), s.blk.Ready → s.blk.flag F.HQ_LINK_UP 0 = true → Completes .d3Entry s fun b => b.getF F.HQ_LINK_D3
      0 = 1 ∧ b.hq.prod = s.blk.hq.prod ∧ b.hq.flights = s.blk.hq.flights ∧ s.blk.Beside (offsOf [R.CDC_ISTAT,
      R.HQ_LINK]) [] b) ∧
  (∀ (s : State) (nosoft : Bool), s.blk.Ready → s.blk.flag F.HQ_LINK_D3 0 = true → Completes (.d3Exit nosoft) s fun
      b => (b.getF F.HQ_LINK_D3 0 = 0 ∧ (nosoft = true → b.hq = s.blk.hq) ∧ (nosoft = false → b.HasEvent 224 ∧
      ((List.range 64).all fun q => b.qState q == 0 && !b.flag F.HQ_QCFG_EN q) = true ∧ ((List.range 8).all fun e =>
      b.eqState e == 0) = true ∧ (b.hq.flights.all fun f => f.drop) = true ∧ b.hq.prod = [] ∧ b.hq.mbox = [])) ∧
      s.blk.Beside (offsOf (Regs.host ++ [R.CDC_ISTAT, R.UPD_RCVD, R.UPD_STAT])) [Part.boot, Part.flash,
      Part.flights, Part.mail, Part.queues] b) ∧
  (∀ (s : State), s.blk.Ready → Completes .aerUncorrectableError s fun b => b.HasEvent 224 ∧ b.getF F.HQ_LINK_UP 0 =
      s.blk.getF F.HQ_LINK_UP 0 ∧ s.blk.Beside [] [] b) ∧
  (∀ (s : State), s.blk.Ready → s.blk.flag F.HQ_LINK_UP 0 = true → Completes .linkL1Entry s fun b => b.flag
      F.CDC_ISTAT_GATED 3 = true ∧ b.flag F.CDC_ISTAT_RUN 3 = false ∧ s.blk.Beside (offsOf [R.CDC_ISTAT]) [] b)

/-- Queues are enabled, indexed, drained and disabled, and doorbells accepted or refused (from R388 to R393, R404,
R411 and R416). Rests on R385, R388, R389, R390, R393, R404, R411, R416; the clauses state the parts of these rules
that they write out. Choices of the model in it: log 51, 56, 101, 146. -/
def Obligations.QueueState : Prop :=
  (∀ (s : State) (who : Who) (q : Fin 64), s.blk.Ready → s.blk.CanWrite who (R.HQ_QCFG.at q) → s.blk.qState q = 0 →
      Block.logOk (s.blk.getF F.HQ_QCFG_SQLOG q) = true → Block.logOk (s.blk.getF F.HQ_QCFG_CQLOG q) = true →
      Completes (.queueEnable who q) s fun b => b.qState q = 1 ∧ b.getF F.HQ_QCFG_EN q = 1 ∧ s.blk.Beside
      [R.HQ_QCFG.at q.val, R.HQ_QSTAT.at q.val] [] b) ∧
  (∀ (s : State) (who : Who) (q : Fin 64), s.blk.Ready → s.blk.CanWrite who (R.HQ_QCFG.at q) → s.blk.qState q = 0 →
      Block.logOk (s.blk.getF F.HQ_QCFG_SQLOG q) = false → Completes (.queueEnable who q) s fun b => b.qState q = 0
      ∧ b.getF F.HQ_QSTAT_CFGERR q = 1 ∧ b.HasEvent 225 ∧ s.blk.Beside [R.HQ_QSTAT.at q.val, R.HQ_QCFG.at q.val] []
      b) ∧
  (∀ (s : State) (who : Who) (q : Fin 64), s.blk.Ready → s.blk.CanWrite who (R.HQ_QCFG.at q) → s.blk.qState q = 1 →
      Completes (.queueDrain who q) s fun b => (b.qState q = 2 ∧ b.getF F.HQ_QCFG_EN q = 0 ∧ b.hq.flights =
      s.blk.hq.flights.map (fun f => if f.q == q.val && f.stage == .arrived && !f.drop then
      { f with stage := .done (.of St.disabled) } else f)) ∧ s.blk.Beside [R.HQ_QCFG.at q.val, R.HQ_QSTAT.at q.val]
      [Part.flights] b) ∧
  (∀ (s : State) (q : Fin 64), s.blk.Ready → (s.blk.qState q = 2 ∨ (s.blk.qState q = 3 ∧ s.blk.getF F.HQ_QCFG_EN q =
      0)) → s.blk.inFlight q = 0 → Completes (.queueDrainComplete q) s fun b => b.qState q = 0 ∧ s.blk.Beside
      [R.HQ_QSTAT.at q.val] [] b) ∧
  (∀ (s : State) (who : Who) (q : Fin 64) (w : Word), s.blk.Ready → s.blk.CanWrite who (R.HQ_QIDX.at q) →
      s.blk.qState q = 0 → Completes (.queueIndexWrite who q w) s fun b => b.getF F.HQ_QIDX_SQHEAD q = bits w.toNat
      15 0 ∧ b.getF F.HQ_QIDX_CQTAIL q = bits w.toNat 31 16 ∧ Tab.get true b.hq.cphase q = true ∧ s.blk.Beside
      [R.HQ_QIDX.at q.val, R.HQ_QSTAT.at q.val] [Part.queues] b) ∧
  (∀ (s : State) (who : Who) (q : Fin 64) (w : Word), s.blk.Ready → s.blk.CanWrite who (R.HQ_QIDX.at q) →
      s.blk.qState q ≠ 0 → Completes (.queueIndexWrite who q w) s fun b => b.getF F.HQ_QSTAT_CFGERR q = 1 ∧ b.rd
      R.HQ_QIDX q = s.blk.rd R.HQ_QIDX q ∧ s.blk.Beside [R.HQ_QSTAT.at q.val, R.HQ_QIDX.at q.val] [Part.queues] b) ∧
  (∀ (s : State) (who : Who) (e : Fin 8), s.blk.Ready → s.blk.CanWrite who (R.HQ_EQCFG.at e) → s.blk.eqState e = 0 →
      Block.logOk (s.blk.getF F.HQ_EQCFG_LOG e) = true → Completes (.eventQueueEnable who e) s fun b => b.eqState e
      = 1 ∧ b.getF F.HQ_EQCFG_EN e = 1 ∧ s.blk.Beside [R.HQ_EQCFG.at e.val] [] b) ∧
  (∀ (s : State) (who : Who) (e : Fin 8), s.blk.Ready → s.blk.CanWrite who (R.HQ_EQCFG.at e) → Completes
      (.eventQueueDisable who e) s fun b => b.eqState e = 0 ∧ b.getF F.HQ_EQCFG_EN e = 0 ∧ s.blk.Beside
      [R.HQ_EQCFG.at e.val] [] b) ∧
  (∀ (s : State) (who : Who) (e : Fin 8) (w : Word), s.blk.Ready → s.blk.CanWrite who (R.HQ_EQIDX.at e) →
      s.blk.eqState e = 0 → Completes (.eventQueueIndexWrite who e w) s fun b => b.getF F.HQ_EQIDX_TAIL e = bits
      w.toNat 15 0 ∧ Tab.get true b.hq.ephase e = true ∧ s.blk.Beside [] [] b) ∧
  (∀ (s : State) (q : Fin 64) (w : DbWrite) (v : Word), s.blk.Ready → w.width = 4 → v.toNat < s.blk.sqSize q →
      Completes (.doorbellWrite q w v) s fun b => Tab.get 0 b.hq.prod q = v.toNat ∧ b.getF F.HQ_QSTAT_DBERR q =
      s.blk.getF F.HQ_QSTAT_DBERR q ∧ s.blk.Beside (offsOf [R.HQ_QSTAT]) [Part.queues] b) ∧
  (∀ (s : State) (q : Fin 64) (w : DbWrite) (v : Word), s.blk.Ready → w.width = 4 → s.blk.sqSize q ≤ v.toNat →
      Completes (.doorbellWrite q w v) s fun b => Tab.get 0 b.hq.prod q = Tab.get 0 s.blk.hq.prod q ∧ b.getF
      F.HQ_QSTAT_DBERR q = 1 ∧ b.HasEvent 225 ∧ s.blk.Beside [R.HQ_QSTAT.at q.val] [Part.queues] b) ∧
  (∀ (s : State) (q : Fin 64) (w : DbWrite) (v : Word), s.blk.Ready → w.width ≠ 4 → Completes (.doorbellWrite q w v)
      s fun b => Tab.get 0 b.hq.prod q = Tab.get 0 s.blk.hq.prod q ∧ b.HasEvent 225 ∧ s.blk.Beside (offsOf
      [R.HQ_QSTAT]) [Part.queues] b) ∧
  (∀ (s : State) (q : Fin 64) (w : DbWrite) (v : Word), s.blk.Ready → w.width = 4 → v.toNat < (s.blk.cqSize q) →
      ((v.toNat + (s.blk.cqSize q) - Tab.get 0 s.blk.hq.chead q % (s.blk.cqSize q)) % (s.blk.cqSize q)) ≤
      ((s.blk.getF F.HQ_QIDX_CQTAIL q + (s.blk.cqSize q) - Tab.get 0 s.blk.hq.chead q % (s.blk.cqSize q)) %
      (s.blk.cqSize q)) → Completes (.completionHeadWrite q w v) s fun b => Tab.get 0 b.hq.chead q = v.toNat ∧
      s.blk.Beside (offsOf [R.HQ_QSTAT]) [Part.queues] b) ∧
  (∀ (s : State) (q : Fin 64) (w : DbWrite) (v : Word), s.blk.Ready → w.width = 4 → ((s.blk.cqSize q) ≤ v.toNat ∨
      ((s.blk.getF F.HQ_QIDX_CQTAIL q + (s.blk.cqSize q) - Tab.get 0 s.blk.hq.chead q % (s.blk.cqSize q)) %
      (s.blk.cqSize q)) < ((v.toNat + (s.blk.cqSize q) - Tab.get 0 s.blk.hq.chead q % (s.blk.cqSize q)) %
      (s.blk.cqSize q))) → Completes (.completionHeadWrite q w v) s fun b => Tab.get 0 b.hq.chead q = Tab.get 0
      s.blk.hq.chead q ∧ b.getF F.HQ_QSTAT_DBERR q = 1 ∧ s.blk.Beside [R.HQ_QSTAT.at q.val] [Part.queues] b) ∧
  (∀ (s : State) (e : Fin 8) (w : DbWrite) (v : Word), s.blk.Ready → w.width = 4 → v.toNat < s.blk.eqSize e →
      s.blk.getF F.HQ_EQCFG_LOG e ≤ 16 → Completes (.eventQueueHeadWrite e w v) s fun b => b.getF F.HQ_EQIDX_HEAD e
      = v.toNat ∧ s.blk.Beside [] [] b)

/-- Descriptors are fetched, checked, dispatched and completed, messages sent and faults taken (from R391 to R403,
R407 and R413). Rests on R391, R392, R393, R394, R396, R398, R401, R402, R403, R407, R413; the clauses state the
parts of these rules that they write out. Choices of the model in it: log 12, 52, 54, 55. -/
def Obligations.QueueTraffic : Prop :=
  (∀ (s : State) (q : Nat), s.blk.Ready → s.blk.hostNode = true → s.blk.flag F.HQ_LINK_UP 0 = true → s.blk.flag
      F.HQ_LINK_D3 0 = false → s.blk.w0Done = true → s.blk.nextQueue = some q → 64 ≤ s.blk.hq.pci.request →
      s.blk.readsOut + (min (s.blk.fetchable q) (s.blk.getF F.HQ_QCFG_WEIGHT q + 1)) ≤ s.blk.hq.pci.reads →
      Completes .descriptorFetch s fun b => (b.hq.flights.take s.blk.hq.flights.length = s.blk.hq.flights ∧
      (b.hq.flights.drop s.blk.hq.flights.length).map (fun f => { f with tail := false }) = List.replicate (min
      (s.blk.fetchable q) (s.blk.getF F.HQ_QCFG_WEIGHT q + 1))
      { q := q, desc := { src := .queue (Fin.ofNat 64 q), dws := [], payload := [] }, stage := .fetched } ∧
      b.hq.turn = (q + 1) % 64 ∧ ∀ j < (min (s.blk.fetchable q) (s.blk.getF F.HQ_QCFG_WEIGHT q + 1)), b.out.any (fun
      x => match x with | .hostRead a l => decide (a ≤ s.blk.ringBase R.HQ_SQBASE R.HQ_SQBASEH q + 64 * ((s.blk.getF F.HQ_QIDX_SQHEAD q + s.blk.fetching q + j) % s.blk.sqSize q) ∧ s.blk.ringBase R.HQ_SQBASE R.HQ_SQBASEH q + 64 * ((s.blk.getF F.HQ_QIDX_SQHEAD q + s.blk.fetching q + j) % s.blk.sqSize q) + 64 ≤ a + l ∧ l ≤ s.blk.hq.pci.request) | _ => false)
      = true) ∧ s.blk.Beside (offsOf [R.CDC_ISTAT, R.HQ_QSTAT]) [Part.flights, Part.queues] b) ∧
  (∀ (s : State), s.blk.Ready → (s.blk.flag F.HQ_LINK_UP 0 = false ∨ s.blk.flag F.HQ_LINK_D3 0 = true ∨
      s.blk.hostNode = false) → Completes .descriptorFetch s fun b => b.hq = s.blk.hq ∧ s.blk.Beside (offsOf
      [R.CDC_ISTAT, R.HQ_QSTAT]) [Part.flights, Part.queues] b) ∧
  (∀ (s : State) (q : Fin 64) (dws : List Word) (payload : List Byte) (f : Flight), s.blk.Ready → s.blk.hq.flights =
      [f] → f.q = q → f.stage = .fetched → f.drop = false → s.blk.qState q = 1 → s.blk.arrivalCheck q
      ({ src := .queue q, dws := dws, payload := payload } : Desc) = none →
      (({ src := .queue q, dws := dws, payload := payload } : Desc)).opcode ≠ 0xB5 →
      ((({ src := .queue q, dws := dws, payload := payload } : Desc)).opcode < 0xD0 ∨ 0xD2 <
      (({ src := .queue q, dws := dws, payload := payload } : Desc)).opcode) → s.blk.engineHeld
      (({ src := .queue q, dws := dws, payload := payload } : Desc)) = false → s.blk.nodesOf
      ({ src := .queue q, dws := dws, payload := payload } : Desc) = some [s.blk.nodeId] → Completes
      (.descriptorArrival q dws payload) s fun b => (b.hq.flights.map (fun g => (g.q, g.desc.dws, g.desc.payload,
      g.stage, g.wait)) = [(q.val, dws, payload, .dispatched, [s.blk.nodeId])] ∧ b.getF F.HQ_QIDX_SQHEAD q =
      (s.blk.getF F.HQ_QIDX_SQHEAD q + 1) % s.blk.sqSize q % 65536) ∧ s.blk.Beside (offsOf [R.CDC_ISTAT] ++
      [R.HQ_QIDX.at q.val, R.HQ_QSTAT.at q.val]) [Part.chn, Part.flights] b) ∧
  (∀ (s : State) (q : Fin 64) (dws : List Word) (payload : List Byte) (f : Flight) (st : Nat), s.blk.Ready →
      s.blk.hq.flights = [f] → f.q = q → f.stage = .fetched → f.drop = false → s.blk.qState q = 1 →
      s.blk.arrivalCheck q ({ src := .queue q, dws := dws, payload := payload } : Desc) = some st → Completes
      (.descriptorArrival q dws payload) s fun b => (b.hq.flights.map (fun g => (g.q, g.desc.dws, g.stage)) =
      [(q.val, dws, .done (.of st))]) ∧ s.blk.Beside (offsOf [R.CDC_ISTAT] ++ [R.HQ_QIDX.at q.val, R.HQ_QSTAT.at
      q.val]) [Part.chn, Part.flights] b) ∧
  (∀ (s : State) (q : Fin 64) (f : Flight), s.blk.Ready → s.blk.hq.flights = [f] → f.q = q → f.stage = .arrived →
      f.drop = false → f.desc.opcode ≠ 0xB5 → (f.desc.opcode < 0xD0 ∨ 0xD2 < f.desc.opcode) → s.blk.engineHeld
      f.desc = false → s.blk.nodesOf f.desc = some [s.blk.nodeId] → Completes (.fencedDispatch q) s fun b =>
      b.hq.flights = [{ f with stage := .dispatched, wait := [s.blk.nodeId] }] ∧ s.blk.Beside [R.HQ_QSTAT.at q.val]
      [Part.chn, Part.flights] b) ∧
  (∀ (s : State) (q : Fin 64) (f : Flight) (g : Flight), s.blk.Ready → s.blk.hq.flights = [g, f] → f.q = q → g.q = q
      → f.stage = .arrived → f.drop = false → g.drop = false → g.stage = .dispatched → f.desc.fence = true →
      Completes (.fencedDispatch q) s fun b => b.hq.flights = [g, f] ∧ s.blk.Beside [R.HQ_QSTAT.at q.val] [Part.chn,
      Part.flights] b) ∧
  (∀ (s : State) (q : Fin 64) (f : Flight) (c : Compl), s.blk.Ready → s.blk.hq.flights = [f] → f.q = q → f.stage =
      .done c → f.drop = false → c.data = [] → (s.blk.qState q = 1 ∨ s.blk.qState q = 2) → Completes
      (.completionWrite q 0) s fun b => b.hq.flights = [] ∧ b.getF F.HQ_QIDX_CQTAIL q = (s.blk.getF F.HQ_QIDX_CQTAIL
      q + 1) % s.blk.cqSize q % 65536 ∧ b.out.contains (.hostWrite (s.blk.ringBase R.HQ_CQBASE R.HQ_CQBASEH q + 16 *
      s.blk.getF F.HQ_QIDX_CQTAIL q) (leBytes 4 (f.desc.tag + c.status * 65536 + b2n (Tab.get true s.blk.hq.cphase
      q) * 2 ^ 31) ++ leBytes 4 (s.blk.getF F.HQ_QIDX_SQHEAD q + q * 65536) ++ leBytes 4 c.cw2 ++ leBytes 4 c.cw3))
      = true ∧ s.blk.Beside (offsOf [R.CDC_ISTAT] ++ [R.HQ_QIDX.at q.val, R.HQ_CQBASE.at q.val, R.HQ_CQBASEH.at
      q.val, R.HQ_QSTAT.at q.val]) [Part.flights, Part.queues] b) ∧
  (∀ (s : State) (q : Fin 64), s.blk.Ready → Tab.get false s.blk.hq.timer q = true → s.blk.msixOpen = true →
      s.blk.msixMasked (s.blk.getF F.HQ_QCFG_VEC q) = false → Completes (.msixCoalesceTimeout q) s fun b =>
      b.out.contains (.msix (s.blk.getF F.HQ_QCFG_VEC q) ((s.blk.msixWord (4 * (s.blk.getF F.HQ_QCFG_VEC q))).toNat
      + (s.blk.msixWord (4 * (s.blk.getF F.HQ_QCFG_VEC q) + 1)).toNat * 2 ^ 32) (s.blk.msixWord (4 * (s.blk.getF
      F.HQ_QCFG_VEC q) + 2))) = true ∧ Tab.get 0 b.hq.coal q = 0 ∧ Tab.get false b.hq.timer q = false ∧ s.blk.Beside
      (offsOf [R.CDC_ISTAT]) [Part.queues] b) ∧
  (∀ (s : State) (v : Fin 64) (a : BitVec 64) (data : Word), s.blk.Ready → s.blk.msixOpen = true → s.blk.msixMasked
      v = true → Tab.get false s.blk.hq.msixPend v = true → Completes (.msixVectorUnmask v a data) s fun b =>
      b.msixMasked v = false ∧ Tab.get false b.hq.msixPend v = false ∧ b.out.contains (.msix v a.toNat data) = true
      ∧ s.blk.Beside (offsOf [R.CDC_ISTAT]) [Part.queues] b) ∧
  (∀ (s : State) (q : Fin 64) (late : Bool), s.blk.Ready → (s.blk.qState q = 1 ∨ s.blk.qState q = 2) → Completes
      (.hostMemoryFault 0 q late []) s fun b => (b.qState q = 3 ∧ b.getF F.HQ_QSTAT_FETCHERR q = 1 ∧ b.HasEvent 225
      ∧ ∀ f ∈ b.hq.flights, f.q = q → f.drop = false → f.stage ≠ .fetched) ∧ s.blk.Beside (offsOf [R.CDC_ISTAT] ++
      [R.HQ_QSTAT.at q.val, R.HQ_QIDX.at q.val]) [Part.flights] b) ∧
  (∀ (s : State) (q : Fin 64) (late : Bool) (dws : List Word) (f : Flight), s.blk.Ready → s.blk.hq.flights = [f] →
      f.q = q → f.stage = .fetched → f.drop = false → s.blk.qState q = 1 → s.blk.arrivalCheck q
      { src := .queue q, dws := dws, payload := [] } = none → Completes (.hostMemoryFault 1 q late dws) s fun b =>
      (b.hq.flights.map (fun g => (g.q, g.stage)) = [(q.val, .done (.of (if late then St.timeout else St.hwFault)))]
      ∧ b.getF F.HQ_QSTAT_PLDERR q = 1 ∧ b.qState q = 1 ∧ b.HasEvent 225) ∧ s.blk.Beside (offsOf [R.CDC_ISTAT] ++
      [R.HQ_QIDX.at q.val, R.HQ_QSTAT.at q.val]) [Part.flights] b) ∧
  (∀ (s : State) (q : Fin 64) (late : Bool) (dws : List Word), s.blk.Ready → s.blk.eqState (q % 8) = 1 → Completes
      (.hostMemoryFault 4 q late dws) s fun b => b.eqState (q % 8) = 3 ∧ b.getF F.HQ_EQSTAT_WRERR (q % 8) = 1 ∧
      s.blk.Beside (offsOf [R.CDC_ISTAT, R.HQ_QIDX, R.HQ_QSTAT]) [Part.flights] b)

/-- The system descriptors answer, read the time, carry messages and mark event queues (from R405, R408 and R409).
Rests on R405, R406, R408, R409; the clauses state the parts of these rules that they write out. -/
def Obligations.SystemDescriptors : Prop :=
  (∀ (s : State) (d : Desc), s.blk.Ready → s.blk.Executes d → s.blk.Single d → d.ok 0x00 0 0 [] = true → Completes
      (.nop d) s fun b => (b.answered d (fun x => x == .of St.ok) = true) ∧ s.blk.Beside (offsOf [R.HQ_QSTAT] ++
      d.regs) ([Part.chn, Part.flights] ++ d.parts) b) ∧
  (∀ (s : State) (d : Desc), s.blk.Ready → s.blk.Executes d → s.blk.Single d → d.ok 0x01 64 65536 [] = true →
      Completes (.sysInfo d) s fun b => (b.answered d (fun x => x.status == St.ok && x.cw2 == 64 && x.data ==
      [s.blk.rd R.SYS_ID 0, s.blk.rd R.SYS_VARIANT 0, s.blk.rd R.SYS_DIESTEP0 0, s.blk.rd R.SYS_DIESTEP1 0, s.blk.rd
      R.SYS_SERIAL 0, s.blk.rd R.SYS_SERIAL 1, s.blk.rd R.SYS_NODE 0, s.blk.rd R.SYS_LOCKSTAT 0, s.blk.rd
      R.PWR_STATE 0, s.blk.rd R.PWR_RSTCAUSE 0, s.blk.rd R.HQ_LINK 0, 0, 0, 0, 0, 0].flatMap (leBytes 4)) = true) ∧
      s.blk.Beside d.regs d.parts b) ∧
  (∀ (s : State) (d : Desc), s.blk.Ready → s.blk.Executes d → s.blk.Single d → d.ok 0x02 16 65536 [] = true →
      Completes (.timeRead d) s fun b => (b.answered d (fun x => x.status == St.ok && x.cw2 == 16 && x.data ==
      leBytes 8 s.blk.pw.tbase ++ leBytes 4 (b.rd R.PWR_RTC0 0) ++ leBytes 4 (b.rd R.PWR_RTC1 0)) = true ∧ b.rd
      R.PWR_RTC0 0 = s.blk.pw.rtc % 2 ^ 32) ∧ s.blk.Beside (offsOf [R.PWR_RTC0, R.PWR_RTC1] ++ d.regs) d.parts b) ∧
  (∀ (s : State) (d : Desc) (i : Nat), s.blk.Ready → s.blk.Executes d → d.ok 0x03 0 4096 (List.replicate 11
      0xFFFFFFFF) = true → s.blk.getF F.HQ_MBXBASE_ADDR 0 ≠ 0 → (List.range 16).find? (fun k => !bit (s.blk.getF
      F.HQ_MBXSTAT_PEND 0) k) = some i → Completes (.supMsg d) s fun b => (bit (b.getF F.HQ_MBXSTAT_PEND 0) i = true
      ∧ Tab.get d b.hq.mbox i = d ∧ b.hq.mbox.any (fun x => x.1 == i && x.2 == d) = true ∧ (Tab.get {} b.core 0).mbx
      = true ∧ b.out = s.blk.out) ∧ s.blk.Beside (offsOf [R.HQ_MBXSTAT, R.HQ_QSTAT] ++ d.regs) ([Part.chn, Part.ecc,
      Part.flights, Part.mail, Part.mem] ++ Part.cores ++ d.parts) b) ∧
  (∀ (s : State) (d : Desc), s.blk.Ready → s.blk.Executes d → s.blk.Single d → d.ok 0x03 0 4096 (List.replicate 11
      0xFFFFFFFF) = true → s.blk.getF F.HQ_MBXSTAT_PEND 0 = 0xFFFF → Completes (.supMsg d) s fun b => (b.answered d
      (fun x => x.status == St.busy) = true ∧ b.hq.mbox = s.blk.hq.mbox) ∧ s.blk.Beside (offsOf [R.HQ_MBXSTAT,
      R.HQ_QSTAT] ++ d.regs) ([Part.chn, Part.ecc, Part.flights, Part.mail, Part.mem] ++ Part.cores ++ d.parts) b) ∧
  (∀ (s : State) (d : Desc), s.blk.Ready → s.blk.Executes d → s.blk.Single d → d.ok 0x04 0 0 [7, 0xFFFFFFFF] = true
      → s.blk.isHead = true → s.blk.flag F.CHN_CFG_EVDUP 0 = false → s.blk.eqRoom (bits (d.dw 5) 2 0) = true →
      Completes (.eqMark d) s fun b => (b.answered d (fun x => x.status == St.ok) = true ∧ b.getF F.HQ_EQIDX_TAIL
      (bits (d.dw 5) 2 0) = (s.blk.getF F.HQ_EQIDX_TAIL (bits (d.dw 5) 2 0) + 1) % s.blk.eqSize (bits (d.dw 5) 2 0)
      % 65536 ∧ b.out.contains (.hostWrite (s.blk.ringBase R.HQ_EQBASE R.HQ_EQBASEH (bits (d.dw 5) 2 0) + 32 *
      s.blk.getF F.HQ_EQIDX_TAIL (bits (d.dw 5) 2 0)) (Block.eventBytes 2 0 s.blk.nodeId (b2n (Tab.get false
      s.blk.hq.elost (bits (d.dw 5) 2 0))) (b2n (Tab.get true s.blk.hq.ephase (bits (d.dw 5) 2 0))) ((Tab.get 0
      s.blk.hq.eseq (bits (d.dw 5) 2 0) + 1) % 2 ^ 32) s.blk.pw.tbase [d.dw 6, 0, 0, 0])) = true) ∧ s.blk.Beside
      (offsOf [R.CDC_ISTAT, R.HQ_QSTAT] ++ d.regs) ([Part.chn] ++ d.parts) b) ∧
  (∀ (s : State) (who : Who) (w : Word) (d : Desc), s.blk.Ready → s.blk.CanWrite who (R.HQ_MBXDONE.at 0) → (who =
      .core 0 ∨ who = .core 1) → bit (s.blk.getF F.HQ_MBXSTAT_PEND 0) (bits w.toNat 3 0) = true → s.blk.hq.mbox =
      [(bits w.toNat 3 0, d)] → s.blk.Single d → bits w.toNat 15 8 ≤ 11 → s.blk.flag F.CATCH_INJ_ARM 0 = false →
      Completes (.mailboxDone who w) s fun b => (b.answered d (fun x => x.status == bits w.toNat 15 8) = true ∧ bit
      (b.getF F.HQ_MBXSTAT_PEND 0) (bits w.toNat 3 0) = false ∧ b.hq.mbox = []) ∧ s.blk.Beside (offsOf
      [R.HQ_MBXDONE, R.HQ_MBXSTAT] ++ d.regs) ([Part.mail] ++ d.parts) b)

/-- Enumeration, joins, heads and topology give node IDs, tables and roles (from R419 to R423). Rests on R419, R420,
R421, R422, R423; the clauses state the parts of these rules that they write out. Choices of the model in it: log
123, 124. -/
def Obligations.ChainEnumeration : Prop :=
  (∀ (s : State) (who : Who), s.blk.Ready → s.blk.CanWrite who (R.CHN_CTL.at 0) → s.blk.hasId = false → Completes
      (.enumStart who) s fun b => (b.nodeId = 0 ∧ b.primary = true ∧ b.hasId = true ∧ b.serOf 0 = s.blk.serial ∧
      (s.blk.portUp 0 = true → b.getF F.CHN_STAT_STATE 0 = 2 ∧ b.leaves 0 (fun f => f ==
      { typ := Fr.enum, dst := 0, src := 0, len := 3, data := BitVec.ofNat 32 1 :: twoWords s.blk.serial }) = true)
      ∧ (s.blk.portUp 0 = false → s.blk.portUp 1 = false → b.getF F.CHN_STAT_STATE 0 = 3 ∧ b.getF F.CHN_STAT_RING 0
      = 0 ∧ b.HasEvent 230)) ∧ s.blk.Beside (offsOf [R.CDC_ISTAT, R.CHN_CTL, R.CHN_SER0, R.CHN_SER1, R.CHN_STAT,
      R.SYS_NODE]) [Part.chn] b) ∧
  (∀ (s : State) (who : Who), s.blk.Ready → s.blk.CanWrite who (R.CHN_CTL.at 0) → s.blk.hasId = true → Completes
      (.enumStart who) s fun b => b.getF F.CHN_STAT_ENUMERR 0 = 1 ∧ b.rd R.SYS_NODE 0 = s.blk.rd R.SYS_NODE 0 ∧
      b.HasEvent 230 ∧ s.blk.Beside (offsOf [R.CDC_ISTAT, R.CHN_CTL, R.CHN_SER0, R.CHN_SER1, R.CHN_STAT,
      R.SYS_NODE]) [Part.chn] b) ∧
  (∀ (s : State) (who : Who), s.blk.Ready → s.blk.CanWrite who (R.CHN_CTL.at 0) → s.blk.hasId = true → s.blk.primary
      = false → s.blk.chn.standby = none → s.blk.isStandby = false → Completes (.standbyClaim who) s fun b =>
      b.isStandby = true ∧ b.primary = false ∧ s.blk.Beside (offsOf [R.CDC_ISTAT, R.CHN_CTL, R.CHN_STAT,
      R.SYS_NODE]) [] b) ∧
  (∀ (s : State) (who : Who), s.blk.Ready → s.blk.CanWrite who (R.CHN_CTL.at 0) → s.blk.hasId = true →
      (s.blk.chn.standby.isSome = true ∨ s.blk.isStandby = true) → Completes (.standbyClaim who) s fun b => b.getF
      F.CHN_STAT_ENUMERR 0 = 1 ∧ b.rd R.SYS_NODE 0 = s.blk.rd R.SYS_NODE 0 ∧ b.HasEvent 230 ∧ s.blk.Beside (offsOf
      [R.CDC_ISTAT, R.CHN_CTL, R.CHN_STAT, R.SYS_NODE]) [] b) ∧
  (∀ (s : State) (who : Who), s.blk.Ready → s.blk.CanWrite who (R.CHN_CTL.at 0) → s.blk.isStandby = true → Completes
      (.headPromote who) s fun b => b.isStandby = false ∧ b.primary = true ∧ b.HasEvent 231 ∧ s.blk.Beside (offsOf
      [R.CDC_ISTAT, R.CHN_CTL, R.SYS_NODE]) [Part.chn] b) ∧
  (∀ (s : State) (p : Fin 2) (count : BitVec 32) (ser : BitVec 64), s.blk.Ready → s.blk.portUp p = true →
      s.blk.hasId = false → count.toNat < 64 → Completes (.enumFrame p count ser) s fun b => (b.nodeId = count.toNat
      ∧ b.hasId = true ∧ b.getF F.CHN_STAT_STATE 0 = 2 ∧ b.leaves p (fun f => f ==
      { typ := Fr.join, dst := 0, src := count.toNat, len := 3, data := twoWords s.blk.serial ++ [BitVec.ofNat 32 (1 + count.toNat * 2)] })
      = true ∧ (s.blk.portUp (1 - p.val) = true → b.leaves (1 - p.val) (fun f => f ==
      { typ := Fr.enum, dst := 0, src := count.toNat, len := 3, data := BitVec.ofNat 32 (count.toNat + 1) :: twoWords ser.toNat })
      = true) ∧ (s.blk.portUp (1 - p.val) = false → b.leaves p (fun f => f ==
      { typ := Fr.enum, dst := 0, src := count.toNat, len := 3, data := BitVec.ofNat 32 (count.toNat + 1) :: twoWords ser.toNat })
      = true)) ∧ s.blk.Beside (offsOf [R.CDC_ISTAT, R.CHN_SER0, R.CHN_SER1, R.CHN_STAT, R.SYS_NODE]) [Part.chn] b) ∧
  (∀ (s : State) (count : BitVec 32) (ser : BitVec 64), s.blk.Ready → s.blk.portUp 1 = true → s.blk.hasId = true →
      s.blk.primary = true → s.blk.getF F.CHN_STAT_STATE 0 = 2 → ser.toNat = s.blk.serial → s.blk.chn.second = false
      → Completes (.enumFrame 1 count ser) s fun b => b.getF F.CHN_STAT_STATE 0 = 3 ∧ b.getF F.CHN_STAT_RING 0 = 1 ∧
      b.HasEvent 230 ∧ s.blk.Beside (offsOf [R.CDC_ISTAT, R.CHN_SER0, R.CHN_SER1, R.CHN_STAT, R.SYS_NODE])
      [Part.chn] b) ∧
  (∀ (s : State) (p : Fin 2) (ser : BitVec 64) (n : Nat), s.blk.Ready → s.blk.portUp p = true → s.blk.primary = true
      → s.blk.freeId ser.toNat = some n → Completes (.joinFrame p false ser none) s fun b => (b.serOf n = ser.toNat
      ∧ b.getF F.CHN_STAT_JOINX 0 = 1 ∧ b.HasEvent 230 ∧ b.leaves p (fun f => f ==
      { typ := Fr.join, dst := n, src := s.blk.nodeId, len := 3, data := twoWords ser.toNat ++ [BitVec.ofNat 32 (1 + n * 2 + 256)] })
      = true) ∧ s.blk.Beside (offsOf [R.CDC_ISTAT, R.CHN_SER0, R.CHN_SER1, R.CHN_STAT, R.SYS_NODE]) [] b) ∧
  (∀ (s : State) (p : Fin 2) (ser : BitVec 64) (n : Fin 64), s.blk.Ready → s.blk.portUp p = true → s.blk.primary =
      false → s.blk.hasId = false → ser.toNat = s.blk.serial → Completes (.joinFrame p true ser (some n)) s fun b =>
      b.nodeId = n ∧ b.hasId = true ∧ s.blk.Beside (offsOf [R.CDC_ISTAT, R.CHN_SER0, R.CHN_SER1, R.CHN_STAT,
      R.SYS_NODE]) [] b) ∧
  (∀ (s : State) (order : List (Fin 64)) (ring : Bool) (standby : Option (Fin 64)), s.blk.Ready → s.blk.primary =
      true → s.blk.hasId = true → (order.map Fin.val).headD 64 = s.blk.nodeId → Completes (.topoFrameSend order ring
      standby) s fun b => (b.chn.order = (s.blk.survey (order.map Fin.val) ring).1 ∧ b.chn.gap = (s.blk.survey
      (order.map Fin.val) ring).2 ∧ b.getF F.CHN_STAT_NCOUNT 0 = (s.blk.survey (order.map Fin.val) ring).1.length %
      128 ∧ b.getF F.CHN_STAT_RING 0 = b2n (s.blk.survey (order.map Fin.val) ring).2.isNone ∧ b.getF
      F.CHN_STAT_STATE 0 = 3 ∧ ((List.range 64).all fun n => bit (b.getF F.CHN_REACH_REACH (n / 32)) (n % 32) ==
      (s.blk.survey (order.map Fin.val) ring).1.contains n) = true ∧ (s.blk.portUp 0 = true → b.leaves 0 (fun f => f
      == { typ := Fr.topo, dst := 0, src := s.blk.nodeId, len := 1 + ((s.blk.survey (order.map Fin.val) ring).1.length + 3) / 4, data := BitVec.ofNat 32 (b2n (s.blk.survey (order.map Fin.val) ring).2.isNone + (s.blk.survey (order.map Fin.val) ring).2.getD 0 * 2 + b2n standby.isSome * 65536 + (standby.map Fin.val).getD 0 * 131072 + (s.blk.survey (order.map Fin.val) ring).1.length * 2 ^ 24) :: packWords 16 (bytesOf (s.blk.survey (order.map Fin.val) ring).1) })
      = true) ∧ (s.blk.portUp 1 = true → b.leaves 1 (fun f => f ==
      { typ := Fr.topo, dst := 0, src := s.blk.nodeId, len := 1 + ((s.blk.survey (order.map Fin.val) ring).1.length + 3) / 4, data := BitVec.ofNat 32 (b2n (s.blk.survey (order.map Fin.val) ring).2.isNone + (s.blk.survey (order.map Fin.val) ring).2.getD 0 * 2 + b2n standby.isSome * 65536 + (standby.map Fin.val).getD 0 * 131072 + (s.blk.survey (order.map Fin.val) ring).1.length * 2 ^ 24) :: packWords 16 (bytesOf (s.blk.survey (order.map Fin.val) ring).1) })
      = true)) ∧ s.blk.Beside (offsOf [R.CDC_ISTAT, R.CHN_REACH, R.CHN_STAT]) [Part.chn] b) ∧
  (∀ (s : State) (order : List (Fin 64)) (ring : Bool) (standby : Option (Fin 64)), s.blk.Ready → s.blk.primary =
      true → s.blk.hasId = true → (order.map Fin.val).headD 64 = s.blk.nodeId → ((order.map Fin.val).zip (order.map
      Fin.val).tail).all (fun x => s.blk.linked x.1 x.2) = true → (ring = true → s.blk.linked ((order.map
      Fin.val).getLastD 0) s.blk.nodeId = true) → Completes (.topoFrameSend order ring standby) s fun b =>
      (b.chn.order = order.map Fin.val ∧ b.chn.gap = (if ring then none else some order.length) ∧ b.getF
      F.CHN_STAT_NCOUNT 0 = order.length % 128 ∧ b.getF F.CHN_STAT_RING 0 = b2n ring ∧ ((List.range 64).all fun n =>
      bit (b.getF F.CHN_REACH_REACH (n / 32)) (n % 32) == (order.map Fin.val).contains n) = true) ∧ s.blk.Beside
      (offsOf [R.CDC_ISTAT, R.CHN_REACH, R.CHN_STAT]) [Part.chn] b) ∧
  (∀ (s : State) (p : Fin 2) (order : List (Fin 64)) (gap : Option (Fin 65)) (standby : Option (Fin 64)),
      s.blk.Ready → s.blk.primary = false → s.blk.hasId = true → s.blk.portUp p = true → (order.map
      Fin.val).contains s.blk.nodeId = true → Completes (.topoFrame p order gap standby) s fun b => (b.chn.order =
      order.map Fin.val ∧ b.chn.gap = gap.map Fin.val ∧ b.getF F.CHN_STAT_NCOUNT 0 = order.length % 128 ∧ b.getF
      F.CHN_STAT_RING 0 = b2n gap.isNone ∧ b.getF F.CHN_STAT_STATE 0 = 3 ∧ ((List.range 64).all fun n => bit (b.getF
      F.CHN_REACH_REACH (n / 32)) (n % 32) == (order.map Fin.val).contains n) = true ∧ (s.blk.portUp (1 - p.val) =
      true → b.leaves (1 - p.val) (fun f => f ==
      { typ := Fr.topo, dst := 0, src := s.blk.nodeId, len := 1 + ((order.map Fin.val).length + 3) / 4, data := BitVec.ofNat 32 (b2n (gap.map Fin.val).isNone + (gap.map Fin.val).getD 0 * 2 + b2n standby.isSome * 65536 + (standby.map Fin.val).getD 0 * 131072 + (order.map Fin.val).length * 2 ^ 24) :: packWords 16 (bytesOf (order.map Fin.val)) })
      = true)) ∧ s.blk.Beside (offsOf [R.CDC_ISTAT, R.CHN_REACH, R.CHN_STAT, R.SYS_NODE]) [Part.chn] b) ∧
  (∀ (s : State), s.blk.Ready → s.blk.isStandby = true → Completes .standbyTopoTimeout s fun b => b.getF
      F.CHN_STAT_HEADX 0 = 1 ∧ b.HasEvent 231 ∧ b.primary = s.blk.primary ∧ s.blk.Beside (offsOf [R.CDC_ISTAT,
      R.CHN_STAT]) [] b)

/-- Ports come up and go down, frames are sent again, reports, entries and descriptors reach the head (from R418,
R424, R426, R427, R437, R447 and R452). Rests on R418, R424, R426, R427, R437, R447, R452; the clauses state the
parts of these rules that they write out. Choices of the model in it: log 124. -/
def Obligations.ChainPorts : Prop :=
  (∀ (s : State) (p : Fin 2), s.blk.Ready → s.blk.pg 8 = true → s.blk.flag F.CHN_CFG_EN 0 = true → s.blk.portUp p =
      false → Completes (.chainPortUp p true) s fun b => (b.getF F.CHN_PORT_LSTATE p = 2 ∧ b.getF F.CHN_PORT_ENERGY
      p = 1 ∧ b.HasEvent (226 + p.val) ∧ (s.blk.hasId = false → s.blk.portUp (1 - p.val) = false → b.leaves p (fun f
      => f == { typ := Fr.join, dst := 0, src := s.blk.nodeId, len := 3, data := twoWords s.blk.serial ++ [BitVec.ofNat 32 (0)] })
      = true)) ∧ s.blk.Beside [R.CHN_PORT.at p.val] [] b) ∧
  (∀ (s : State) (p : Fin 2), s.blk.Ready → s.blk.pg 8 = true → s.blk.flag F.CHN_CFG_EN 0 = true → s.blk.portUp p =
      false → Completes (.chainPortUp p false) s fun b => b.getF F.CHN_PORT_LSTATE p = 3 ∧ b.getF F.CHN_PORT_WIREX p
      = 1 ∧ b.HasEvent (226 + p.val) ∧ s.blk.Beside [R.CHN_PORT.at p.val] [] b) ∧
  (∀ (s : State) (p : Fin 2) (energy : Bool), s.blk.Ready → s.blk.portUp p = true → Completes (.chainPortDown p
      energy) s fun b => b.getF F.CHN_PORT_LSTATE p = 0 ∧ b.getF F.CHN_PORT_ENERGY p = b2n energy ∧ b.getF
      F.CHN_PORT_LINKDN p = 1 ∧ b.HasEvent (226 + p.val) ∧ s.blk.Beside (offsOf [R.CDC_ISTAT, R.CHN_REACH,
      R.CHN_STAT] ++ [R.CHN_PORT.at p.val]) [Part.chn] b) ∧
  (∀ (s : State) (p : Fin 2), s.blk.Ready → s.blk.portUp p = true → Completes (.frameResend p) s fun b =>
      ((s.blk.heldFrame p).all (fun f => b.leaves p (fun g => g == f)) = true ∧ b.getF F.CHN_PORT_RESENDX p = 1 ∧
      b.getF F.CHN_PORT_RESENDCNT p = min (2 ^ (F.CHN_PORT_RESENDCNT.hi + 1 - F.CHN_PORT_RESENDCNT.lo) - 1)
      (s.blk.getF F.CHN_PORT_RESENDCNT p + 1) ∧ b.HasEvent (226 + p.val)) ∧ s.blk.Beside (offsOf [R.CDC_ISTAT,
      R.CHN_REACH, R.CHN_STAT] ++ [R.CHN_PORT.at p.val]) [Part.chn] b) ∧
  (∀ (s : State) (n : Fin 64) (q : Fin 2) (st : Fin 4), s.blk.Ready → s.blk.primary = true → Completes (.noteFrame n
      q st) s fun b => Tab.get 0 b.chn.ports (2 * n + q) = st.val ∧ s.blk.Beside [] [Part.chn] b) ∧
  (∀ (s : State) (e : Fin 8) (typ : Byte) (src : Byte) (n : Fin 64) (time : BitVec 64) (ws : List Word), s.blk.Ready
      → (s.blk.primary = true ∨ s.blk.isStandby = true) → s.blk.eqRoom e = true → Completes (.evtFrame e typ src n
      time ws) s fun b => b.getF F.HQ_EQIDX_TAIL e = (s.blk.getF F.HQ_EQIDX_TAIL e + 1) % s.blk.eqSize e % 65536 ∧
      b.out.contains (.hostWrite (s.blk.ringBase R.HQ_EQBASE R.HQ_EQBASEH e + 32 * s.blk.getF F.HQ_EQIDX_TAIL e)
      (Block.eventBytes typ.toNat src.toNat n (b2n (Tab.get false s.blk.hq.elost e)) (b2n (Tab.get true
      s.blk.hq.ephase e)) ((Tab.get 0 s.blk.hq.eseq e + 1) % 2 ^ 32) time.toNat (ws.map BitVec.toNat))) = true ∧
      s.blk.Beside (offsOf [R.CDC_ISTAT]) [] b) ∧
  (∀ (s : State) (src : Fin 64) (q : Fin 64) (dws : List Word) (payload : List Byte), s.blk.Ready → s.blk.hasId =
      true → (s.blk.chn.partly.any fun e => e.1 == src && e.2.1 == q) = false → s.blk.formatOk
      { src := .node src q, dws := dws, payload := payload } = true → Completes (.descFrame src q dws ⟨payload,
      true⟩) s fun b => b.chn.remote = s.blk.chn.remote ++ [{ src := .node src q, dws := dws, payload := payload }]
      ∧ b.out = s.blk.out ∧ b.chn.partly = s.blk.chn.partly ∧ s.blk.Beside (offsOf Regs.answers) Part.answers b) ∧
  (∀ (s : State) (src : Fin 64) (q : Fin 64) (dws : List Word) (ws : List Word) (part : List Byte) (payload : List
      Byte), s.blk.Ready → s.blk.hasId = true → s.blk.chn.partly = [(src, q, ws, part)] → s.blk.formatOk
      { src := .node src q, dws := ws, payload := part ++ payload } = true → Completes (.descFrame src q dws
      ⟨payload, true⟩) s fun b => b.chn.remote = s.blk.chn.remote ++
      [{ src := .node src q, dws := ws, payload := part ++ payload }] ∧ b.out = s.blk.out ∧ b.chn.partly = [] ∧
      s.blk.Beside (offsOf Regs.answers) Part.answers b) ∧
  (∀ (s : State) (src : Fin 64) (q : Fin 64) (dws : List Word) (payload : List Byte), s.blk.Ready → s.blk.hasId =
      true → (s.blk.chn.partly.any fun e => e.1 == src && e.2.1 == q) = false → Completes (.descFrame src q dws
      ⟨payload, false⟩) s fun b => b.chn.remote = s.blk.chn.remote ∧ b.out = s.blk.out ∧ b.chn.partly =
      s.blk.chn.partly ++ [(src, q, dws, payload)] ∧ s.blk.Beside (offsOf Regs.answers) Part.answers b) ∧
  (∀ (s : State) (src : Fin 64) (q : Fin 64) (dws : List Word) (payload : List Byte), s.blk.Ready → s.blk.hasId =
      true → (s.blk.chn.partly.any fun e => e.1 == src && e.2.1 == q) = false → s.blk.formatOk
      { src := .node src q, dws := dws, payload := payload } = false → Completes (.descFrame src q dws ⟨payload,
      true⟩) s fun b => (b.answered { src := .node src q, dws := dws, payload := payload } (fun x => x == .of
      St.badDesc) = true) ∧ s.blk.Beside (offsOf Regs.answers) Part.answers b) ∧
  (∀ (s : State) (q : Fin 64) (n : Fin 64) (dws : List Word) (data : List Byte) (f : Flight), s.blk.Ready →
      s.blk.hq.flights = [f] → Block.awaits q n dws f = true → Completes (.dcplFrame q n dws data) s fun b =>
      b.hq.flights = [{ f with got := f.got ++ data }] ∧ s.blk.Beside [R.HQ_QSTAT.at q.val] [Part.flights] b) ∧
  (∀ (s : State) (d : Desc), s.blk.Ready → s.blk.Executes d → s.blk.Single d → d.ok 0xD3 544 65536 [] = true →
      Completes (.chnTopo d) s fun b => (b.answered d (fun x => x.status == St.ok && x.cw2 == 544 && x.data.length
      == 544 && x.data.take 24 == [s.blk.rd R.CHN_STAT 0, s.blk.rd R.CHN_PORT 0, s.blk.rd R.CHN_PORT 1, s.blk.rd
      R.SYS_NODE 0, s.blk.rd R.CHN_REACH 0, s.blk.rd R.CHN_REACH 1].flatMap (leBytes 4) && x.data.drop 32 ==
      (List.range 64).flatMap (fun n => leBytes 4 (s.blk.rd R.CHN_SER0 n) ++ leBytes 4 (s.blk.rd R.CHN_SER1 n))) =
      true) ∧ s.blk.Beside d.regs d.parts b)

/-- Accesses to other nodes are sent, answered, refused, timed out and logged (from R426, R431 to R436, R439, R448,
R452 and R453). Rests on R426, R431, R432, R433, R434, R435, R436, R439, R450, R453; the clauses state the parts of
these rules that they write out. Choices of the model in it: log 125, 127. -/
def Obligations.SluiceAccesses : Prop :=
  (∀ (s : State) (d : Desc), s.blk.Ready → s.blk.Executes d → s.blk.Single d → Block.chnRdOk d = true →
      s.blk.spaceHeld = false → s.blk.chnNode d = s.blk.nodeId → Block.chnCount d = 1 → s.blk.accessCause .host
      (d.dw 5) 4 false = none → Completes (.chnRd d) s fun b => (b.answered d (fun x => x.status == St.ok && x.cw2
      == 4 && x.cw3 == 0 && x.data == leBytes 4 (BitVec.ofNat 32 (s.blk.regRead (d.dw 5)).2).toNat) = true) ∧
      s.blk.Beside (offsOf (Regs.current ++ [R.HQ_QSTAT]) ++ d.regs) ([Part.chn, Part.ciph, Part.net, Part.pw] ++
      d.parts) b) ∧
  (∀ (s : State) (d : Desc), s.blk.Ready → s.blk.Executes d → s.blk.Single d → Block.chnRdOk d = true →
      s.blk.spaceHeld = false → s.blk.chnNode d = s.blk.nodeId → Block.chnCount d = 1 → (s.blk.accessCause .host
      (d.dw 5) 4 false).isSome = true → Completes (.chnRd d) s fun b => (b.answered d (fun x => x.status ==
      St.hwFault && x.cw3 == 15 && x.data == leBytes 4 0xFFFFFFFF) = true ∧ b.HasEvent 252) ∧ s.blk.Beside (offsOf
      (Regs.current ++ [R.HQ_QSTAT]) ++ d.regs) ([Part.chn, Part.ciph, Part.net, Part.pw] ++ d.parts) b) ∧
  (∀ (s : State) (d : Desc), s.blk.Ready → s.blk.Executes d → Block.chnRdOk d = true → s.blk.chnNode d ≠
      s.blk.nodeId → s.blk.canReach (s.blk.chnNode d) = true → s.blk.chn.reqs = [] → Completes (.chnRd d) s fun b =>
      b.chn.reqs =
      [{ tid := s.blk.freeTid, node := s.blk.chnNode d, kind := .rd d, offset := d.dw 5, count := Block.chnCount d }]
      ∧ b.chn.tid = (s.blk.freeTid + 1) % 1024 ∧ s.blk.Beside (offsOf (Regs.current ++ [R.HQ_QSTAT]) ++ d.regs)
      ([Part.chn, Part.ciph, Part.net, Part.pw] ++ d.parts) b) ∧
  (∀ (s : State) (d : Desc), s.blk.Ready → s.blk.Executes d → s.blk.Single d → Block.chnWrOk d = true →
      s.blk.spaceHeld = false → s.blk.chnNode d = s.blk.nodeId → Block.chnCount d = 1 → d.dws.length = 8 → (findReg
      (d.dw 5)).isSome = true → ((findReg (d.dw 5)).all fun x => (hookOf x.1 (Block.hooks .host)).isNone) = true →
      s.blk.writeCause .host (d.dw 5) 4 = none → (d.dw 5 < 0x39000 ∨ 0x3A000 ≤ d.dw 5) → Completes (.chnWr d) s fun
      b => b.answered d (fun x => x.status == St.ok && x.cw2 == 0 && x.cw3 == 0) = true ∧ ((findReg (d.dw 5)).all
      fun x => b.rd x.1 x.2 == x.1.merge s.blk.isLocked (s.blk.rd x.1 x.2) (d.dw 7)) = true) ∧
  (∀ (s : State) (d : Desc), s.blk.Ready → s.blk.Executes d → Block.chnWrOk d = true → s.blk.chnNode d ≠
      s.blk.nodeId → s.blk.canReach (s.blk.chnNode d) = true → s.blk.chn.reqs = [] → Completes (.chnWr d) s fun b =>
      b.chn.reqs =
      [{ tid := s.blk.freeTid, node := s.blk.chnNode d, kind := .wr d, offset := d.dw 5, count := Block.chnCount d, data := (d.dws.drop 7).take (Block.chnCount d) }]
      ∧ (b.chn.bufs.all fun p => !(p.node == s.blk.chnNode d)) = true) ∧
  (∀ (s : State) (src : Fin 64) (tid : BitVec 10) (dw : BitVec 18), s.blk.Ready → s.blk.hasId = true →
      s.blk.spaceHeld = false → s.blk.accessCause .host (4 * dw.toNat) 4 false = none → Completes (.rdFrame src tid
      dw 1) s fun b => ((b.leaves 0 (fun f => f.typ == Fr.cpl && f.dst == src.val && f.src == s.blk.nodeId && f.tid
      == tid.toNat && f.stat == 0 && f.len == 1 && f.data == [(BitVec.ofNat 32 (s.blk.regRead (4 *
      dw.toNat)).2)]) || b.leaves 1 (fun f => f.typ == Fr.cpl && f.dst == src.val && f.src == s.blk.nodeId && f.tid
      == tid.toNat && f.stat == 0 && f.len == 1 && f.data == [(BitVec.ofNat 32 (s.blk.regRead (4 * dw.toNat)).2)]))
      = true) ∧ s.blk.Beside (offsOf Regs.current) [Part.ciph, Part.net, Part.pw] b) ∧
  (∀ (s : State) (src : Fin 64) (tid : BitVec 10) (dw : BitVec 18) (count : Fin 65), s.blk.Ready → s.blk.hasId =
      true → s.blk.spaceHeld = true → Completes (.rdFrame src tid dw count) s fun b => ((b.leaves 0 (fun f => f.typ
      == Fr.cpl && f.dst == src.val && f.src == s.blk.nodeId && f.tid == tid.toNat && f.stat == 4 && f.data ==
      []) || b.leaves 1 (fun f => f.typ == Fr.cpl && f.dst == src.val && f.src == s.blk.nodeId && f.tid == tid.toNat
      && f.stat == 4 && f.data == [])) = true) ∧ s.blk.Beside (offsOf Regs.current) [Part.ciph, Part.net, Part.pw]
      b) ∧
  (∀ (s : State) (src : Fin 64) (tid : BitVec 10) (dw : BitVec 18) (w : Word), s.blk.Ready → s.blk.hasId = true →
      s.blk.spaceHeld = false → (findReg (4 * dw.toNat)).isSome = true → ((findReg (4 * dw.toNat)).all fun x =>
      (hookOf x.1 (Block.hooks .host)).isNone) = true → s.blk.writeCause .host (4 * dw.toNat) 4 = none → Completes
      (.wrFrame src tid dw [w]) s fun b => (b.leaves 0 (fun f => f.typ == Fr.cpl && f.dst == src.val && f.src ==
      s.blk.nodeId && f.tid == tid.toNat && f.stat == 0) || b.leaves 1 (fun f => f.typ == Fr.cpl && f.dst == src.val
      && f.src == s.blk.nodeId && f.tid == tid.toNat && f.stat == 0)) = true ∧ ((findReg (4 * dw.toNat)).all fun x
      => b.rd x.1 x.2 == x.1.merge s.blk.isLocked (s.blk.rd x.1 x.2) (w.toNat)) = true) ∧
  (∀ (s : State) (src : Fin 64) (tid : BitVec 10) (dw : BitVec 18) (w : Word) (c : Nat), s.blk.Ready → s.blk.hasId =
      true → s.blk.spaceHeld = false → s.blk.writeCause .host (4 * dw.toNat) 4 = some c → c ≠ 6 → Completes
      (.wrFrame src tid dw [w]) s fun b => (b.leaves 0 (fun f => f.typ == Fr.cpl && f.dst == src.val && f.src ==
      s.blk.nodeId && f.tid == tid.toNat && f.stat == (if c = 1 then 1 else if c = 4 then 2 else 3) && f.data == [1,
      0]) || b.leaves 1 (fun f => f.typ == Fr.cpl && f.dst == src.val && f.src == s.blk.nodeId && f.tid == tid.toNat
      && f.stat == (if c = 1 then 1 else if c = 4 then 2 else 3) && f.data == [1, 0])) = true ∧ b.HasEvent 252) ∧
  (∀ (s : State) (src : Fin 64) (tid : BitVec 10) (dw : BitVec 18) (w : Word), s.blk.Ready → s.blk.hasId = true →
      s.blk.spaceHeld = false → (findReg (4 * dw.toNat)).isSome = true → ((findReg (4 * dw.toNat)).all fun x =>
      (hookOf x.1 (Block.hooks .host)).isNone) = true → s.blk.writeCause .host (4 * dw.toNat) 4 = none → Completes
      (.pwrFrame src tid dw [w]) s fun b => b.out = s.blk.out ∧ ((findReg (4 * dw.toNat)).all fun x => b.rd x.1 x.2
      == x.1.merge s.blk.isLocked (s.blk.rd x.1 x.2) (w.toNat)) = true) ∧
  (∀ (s : State) (dw : BitVec 18) (count : Fin 65) (ws : List Word), s.blk.Ready → s.blk.pg 8 = true → dw.toNat /
      1024 ≠ 0x39 → s.blk.hasId = true → (s.blk.getF F.CHN_TGT_NODE 0) ≠ s.blk.nodeId → s.blk.canReach (s.blk.getF
      F.CHN_TGT_NODE 0) = true → bit (s.blk.getF F.CHN_STOPPED_STOP ((s.blk.getF F.CHN_TGT_NODE 0) / 32))
      ((s.blk.getF F.CHN_TGT_NODE 0) % 32) = false → s.blk.chn.waiting = [] → s.blk.chn.asks = [] → s.blk.chn.reqs =
      [] → bit (s.blk.getF F.CHN_FRMASK_FR ((s.blk.getF F.CHN_TGT_NODE 0) / 32)) ((s.blk.getF F.CHN_TGT_NODE 0) %
      32) = false → ws.length ≤ 64 → Completes (.w0RemoteAccess (.dwords dw) count (some ws)) s fun b => b.chn.reqs
      = [{ tid := s.blk.freeTid, node := (s.blk.getF F.CHN_TGT_NODE 0), kind := .w0Write, offset := 4 * dw.toNat, count := ws.length, data := ws }]
      ∧ b.chn.waiting = []) ∧
  (∀ (s : State) (dw : BitVec 18) (count : Fin 65) (ws : List Word), s.blk.Ready → s.blk.pg 8 = true → dw.toNat /
      1024 ≠ 0x39 → s.blk.hasId = true → (s.blk.getF F.CHN_TGT_NODE 0) ≠ s.blk.nodeId → s.blk.canReach (s.blk.getF
      F.CHN_TGT_NODE 0) = true → bit (s.blk.getF F.CHN_STOPPED_STOP ((s.blk.getF F.CHN_TGT_NODE 0) / 32))
      ((s.blk.getF F.CHN_TGT_NODE 0) % 32) = false → s.blk.chn.waiting = [] → s.blk.chn.asks = [] → s.blk.chn.reqs =
      [] → bit (s.blk.getF F.CHN_FRMASK_FR ((s.blk.getF F.CHN_TGT_NODE 0) / 32)) ((s.blk.getF F.CHN_TGT_NODE 0) %
      32) = true → ws.length ≤ 64 → Completes (.w0RemoteAccess (.dwords dw) count (some ws)) s fun b => b.chn.reqs =
      [{ tid := s.blk.freeTid, node := (s.blk.getF F.CHN_TGT_NODE 0), kind := .posted, offset := 4 * dw.toNat, count := ws.length, data := ws }]
      ∧ b.chn.waiting = [] ∧ (b.leaves 0 (fun f => f.typ == Fr.pwr && f.dst == (s.blk.getF F.CHN_TGT_NODE 0) &&
      f.offset == 4 * dw.toNat && f.data == ws) || b.leaves 1 (fun f => f.typ == Fr.pwr && f.dst == (s.blk.getF
      F.CHN_TGT_NODE 0) && f.offset == 4 * dw.toNat && f.data == ws)) = true) ∧
  (∀ (s : State) (dw : BitVec 18) (count : Fin 65), s.blk.Ready → s.blk.pg 8 = true → dw.toNat / 1024 ≠ 0x39 →
      s.blk.hasId = true → (s.blk.getF F.CHN_TGT_NODE 0) ≠ s.blk.nodeId → bit (s.blk.getF F.CHN_STOPPED_STOP
      ((s.blk.getF F.CHN_TGT_NODE 0) / 32)) ((s.blk.getF F.CHN_TGT_NODE 0) % 32) = false → s.blk.chn.waiting = [] →
      s.blk.chn.asks = [] → s.blk.chn.reqs = [] → s.blk.canReach (s.blk.getF F.CHN_TGT_NODE 0) = false → Completes
      (.w0RemoteAccess (.dwords dw) count none) s fun b => b.chn.reqs = [] ∧ b.getF F.CHN_STAT_RDFAIL 0 = 1 ∧ b.getF
      F.CHN_ERRLOG1_VALID 0 = 1 ∧ b.getF F.CHN_ERRLOG1_CAUSE 0 = 1 ∧ b.getF F.CHN_ERRLOG1_KIND 0 = 2 ∧ b.rd
      R.CHN_ERRLOG0 0 = 4 * dw.toNat ∧ b.HasEvent 228 ∧ b.out.contains (.w0Data (List.replicate count 0xFFFFFFFF)) =
      true) ∧
  (∀ (s : State) (off : BitVec 20) (bytes : Fin 9), s.blk.Ready → s.blk.pg 8 = true → s.blk.chn.waiting = [] →
      s.blk.w0Busy = false → s.blk.spaceHeld = false → (bytes.val ≠ 4 ∨ off.toNat % 4 ≠ 0) → Completes
      (.w0RemoteAccess (.narrow off bytes) 1 none) s fun b => b.HasEvent 252 ∧ b.out.contains (.w0Data [0]) = true) ∧
  (∀ (s : State) (off : BitVec 16) (bytes : Fin 9) (count : Fin 65), s.blk.Ready → Completes (.w0RemoteAccess (.w2
      off bytes) count none) s fun b => b.out.contains (.w0Data ((List.range (max 1 count)).map fun i =>
      BitVec.ofNat 32 (s.blk.w2Word (off.toNat / 4 * 4 + 4 * i)))) = true) ∧
  (∀ (s : State) (r : ChnReq) (tid : BitVec 10), s.blk.Ready → s.blk.chn.reqs = [r] → r.tid = tid.toNat → r.kind =
      .w0Write → 1 ≤ r.count → s.blk.chn.waiting = [] → s.blk.chn.asks = [] → r.node < 64 → Completes
      (.remoteAccessTimeout tid) s fun b => b.chn.reqs = [] ∧ b.getF F.CHN_STAT_WRFAIL 0 = 1 ∧ b.getF
      F.CHN_ERRLOG1_NODE 0 = r.node ∧ b.getF F.CHN_ERRLOG1_KIND 0 = 1 ∧ b.getF F.CHN_ERRLOG1_CAUSE 0 = 5 ∧ b.getF
      F.CHN_ERRLOG1_VALID 0 = 1 ∧ b.HasEvent 228 ∧ (s.blk.flag F.CHN_CFG_STOPERR 0 = true → bit (b.getF
      F.CHN_STOPPED_STOP (r.node / 32)) (r.node % 32) = true)) ∧
  (∀ (s : State) (r : ChnReq) (tid : BitVec 10) (d : Desc), s.blk.Ready → s.blk.chn.reqs = [r] → r.tid = tid.toNat →
      r.kind = .rd d → 1 ≤ r.count → s.blk.chn.waiting = [] → s.blk.chn.asks = [] → s.blk.Single d → Completes
      (.remoteAccessTimeout tid) s fun b => b.chn.reqs = [] ∧ b.answered d (fun x => x.status == St.timeout && x.cw2
      == 4 * r.count && x.cw3 == Block.lanes (2 ^ r.count - 1) r.count && x.data == (List.replicate r.count (leBytes
      4 0xFFFFFFFF)).flatten) = true) ∧
  (∀ (s : State) (r : ChnReq) (tid : BitVec 10) (d : Desc), s.blk.Ready → s.blk.chn.reqs = [r] → r.tid = tid.toNat →
      r.kind = .own d → s.blk.chn.waiting = [] → s.blk.chn.asks = [] → s.blk.Single d → Completes (.lockRetryTimeout
      tid) s fun b => b.chn.reqs = [] ∧ b.answered d (fun x => x.status == St.busy) = true) ∧
  (∀ (s : State) (r : ChnReq) (tid : BitVec 10) (d : Desc), s.blk.Ready → s.blk.chn.reqs = [r] → r.tid = tid.toNat →
      r.kind = .rd d → 1 ≤ r.count → s.blk.chn.waiting = [] → s.blk.chn.asks = [] → s.blk.Single d → Completes
      (.lockRetryTimeout tid) s fun b => b.chn.reqs = [] ∧ b.answered d (fun x => x.status == St.busy) = true) ∧
  (∀ (s : State) (r : ChnReq) (tid : BitVec 10) (d : Desc) (w : Word), s.blk.Ready → s.blk.chn.reqs = [r] → r.tid =
      tid.toNat → r.kind = .rd d → r.count = 1 → s.blk.chn.waiting = [] → s.blk.chn.asks = [] → s.blk.Single d →
      Completes (.cplFrame (.access tid 0 [w] 0)) s fun b => b.chn.reqs = [] ∧ b.answered d (fun x => x.status ==
      St.ok && x.cw2 == 4 && x.cw3 == 0 && x.data == leBytes 4 w.toNat) = true) ∧
  (∀ (s : State) (r : ChnReq) (tid : BitVec 10) (fails : Nat), s.blk.Ready → s.blk.chn.reqs = [r] → r.tid =
      tid.toNat → r.kind = .w0Write → 1 ≤ r.count → s.blk.chn.waiting = [] → s.blk.chn.asks = [] → r.node < 64 →
      Completes (.cplFrame (.access tid 2 [] fails)) s fun b => b.chn.reqs = [] ∧ b.getF F.CHN_STAT_WRFAIL 0 = 1 ∧
      b.getF F.CHN_ERRLOG1_CAUSE 0 = 3 ∧ b.getF F.CHN_ERRCNT_FAILS 0 = min 65535 (s.blk.getF F.CHN_ERRCNT_FAILS 0 +
      1)) ∧
  (∀ (s : State) (tid : BitVec 10) (node : Fin 64) (offset : BitVec 20) (stat : Fin 7) (fails : Nat), s.blk.Ready →
      stat.val ≠ 0 → stat.val ≠ 4 → s.blk.chn.waiting = [] → s.blk.chn.asks = [] → Completes (.cplFrame (.posted tid
      node offset stat fails)) s fun b => b.getF F.CHN_STAT_WRFAIL 0 = 1 ∧ b.getF F.CHN_ERRLOG1_KIND 0 = 0 ∧ b.getF
      F.CHN_ERRLOG1_NODE 0 = node ∧ b.rd R.CHN_ERRLOG0 0 = offset.toNat ∧ b.HasEvent 228) ∧
  (∀ (s : State) (r : ChnReq) (tid : BitVec 10) (node : Fin 64) (offset : BitVec 20) (fails : Nat), s.blk.Ready →
      s.blk.chn.reqs = [r] → r.tid = tid.toNat → r.node = node → r.kind = .posted → Completes (.cplFrame (.posted
      tid node offset 4 fails)) s fun b => b.chn.reqs = [r] ∧ (b.leaves 0 (fun f => f.typ == Fr.pwr && f.dst ==
      node.val && f.tid == tid.toNat && f.offset == r.offset && f.data == r.data) || b.leaves 1 (fun f => f.typ ==
      Fr.pwr && f.dst == node.val && f.tid == tid.toNat && f.offset == r.offset && f.data == r.data)) = true ∧
      b.getF F.CHN_STAT_WRFAIL 0 = s.blk.getF F.CHN_STAT_WRFAIL 0) ∧
  (∀ (s : State) (q : Fin 64) (node : Fin 64) (dws : List Word) (status : Fin 12) (x2 : Word) (x3 : Word) (f :
      Flight), s.blk.Ready → s.blk.hq.flights = [f] → Block.awaits q node dws f = true → f.drop = false → bit
      (f.desc.dws.getD 0 0).toNat 22 = false → Completes (.cplFrame (.desc q node dws status x2 x3)) s fun b =>
      (b.hq.flights.map fun g =>
      (match g.stage with | .done c => (g.desc.dws, c.status, c.cw2, c.cw3, c.data) | _ => ([], 0, 0, 0, []))) =
      [(dws, status.val, x2.toNat, x3.toNat, f.got)]) ∧
  (∀ (s : State) (i : Fin 4), s.blk.Ready → Completes (.prefetchExpiry i) s fun b => b.chn.bufs =
      s.blk.chn.bufs.eraseIdx i ∧ s.blk.Beside [] [Part.chn] b) ∧
  (∀ (s : State) (q : Fin 64) (n : Fin 64) (f : Flight), s.blk.Ready → s.blk.reachable n = false → s.blk.hq.flights
      = [f] → f.q = q → f.stage = .dispatched → f.wait = [n.val] → f.drop = false → bit (f.desc.dws.getD 0 0).toNat
      22 = false → s.blk.chn.reqs = [] → s.blk.chn.waiting = [] → s.blk.chn.asks = [] → Completes
      (.descriptorUnreachableTimeout q n) s fun b => (b.hq.flights.map fun g =>
      (match g.stage with | .done c => (g.desc.dws, c.status) | _ => ([], 0))) = [(f.desc.dws, St.timeout)])

/-- Locked sequences run, are granted, refused, and end at their limit (from R440 to R442 and R453). Rests on R440,
R441, R442, R447, R453; the clauses state the parts of these rules that they write out. Choices of the model in it:
log 66, 126. -/
def Obligations.LockedSequences : Prop :=
  (∀ (s : State) (d : Desc) (p : LockOp), s.blk.Ready → s.blk.Executes d → s.blk.Single d → Block.lockSeqOk d = true
      → s.blk.spaceHeld = false → s.blk.chnNode d = s.blk.nodeId → (Block.lockOps d).map (fun x => x.1) = [p] →
      p.loc = false → s.blk.accessCause .host p.offset 4 false = none → p.kind = 0 → Completes (.chnLockseq d) s fun
      b => b.answered d (fun x => x.status == St.ok && x.cw2 == 1 && x.cw3 == 0 && x.data == d.payload.take 12 ++
      leBytes 4 (s.blk.regRead p.offset).2) = true ∧ b.spaceHeld = false) ∧
  (∀ (s : State) (d : Desc) (p : LockOp), s.blk.Ready → s.blk.Executes d → s.blk.Single d → Block.lockSeqOk d = true
      → s.blk.spaceHeld = false → s.blk.chnNode d = s.blk.nodeId → (Block.lockOps d).map (fun x => x.1) = [p] →
      p.loc = false → s.blk.accessCause .host p.offset 4 false = none → p.kind = 3 → p.prev = false → Completes
      (.chnLockseq d) s fun b => b.answered d (fun x => x.status == St.ok && x.cw2 == (1 + b2n (!((s.blk.regRead
      p.offset).2 &&& p.mask == p.value)) * 256) && x.cw3 == 0 && x.data == d.payload.take 12 ++ leBytes 4
      (s.blk.regRead p.offset).2) = true ∧ b.spaceHeld = false) ∧
  (∀ (s : State) (d : Desc) (p : LockOp), s.blk.Ready → s.blk.Executes d → s.blk.Single d → Block.lockSeqOk d = true
      → s.blk.spaceHeld = false → s.blk.chnNode d = s.blk.nodeId → (Block.lockOps d).map (fun x => x.1) = [p] →
      p.loc = false → s.blk.accessCause .host p.offset 4 false = none → p.kind = 2 → p.prev = false → (findReg
      (p.offset)).isSome = true → ((findReg (p.offset)).all fun x => (hookOf x.1 (Block.hooks .host)).isNone) = true
      → s.blk.writeCause .host (p.offset) 4 = none → (findReg p.offset).all (fun x => s.blk.rd x.1 x.2 ==
      (s.blk.regRead p.offset).2) = true → (s.blk.regRead p.offset).1 = s.blk → Completes (.chnLockseq d) s fun b =>
      b.answered d (fun x => x.status == St.ok && x.cw2 == 1 && x.cw3 == 0 && x.data == d.payload.take 12 ++ leBytes
      4 (s.blk.regRead p.offset).2) = true ∧ b.spaceHeld = false ∧ ((findReg (p.offset)).all fun x => b.rd x.1 x.2
      == x.1.merge s.blk.isLocked (s.blk.rd x.1 x.2) (((s.blk.regRead p.offset).2 - ((s.blk.regRead p.offset).2 &&&
      p.mask) + (p.value &&& p.mask)))) = true) ∧
  (∀ (s : State) (src : Fin 64) (tid : BitVec 10) (p : LockOp), s.blk.Ready → s.blk.hasId = true → s.blk.spaceHeld =
      false → Completes (.lockFrame src tid [p]) s fun b => b.chn.grant = some (src.val, tid.toNat, [p]) ∧
      b.spaceHeld = true ∧ b.getF F.CHN_LOCK_HOLDER 0 = src.val ∧ b.out = s.blk.out ∧ s.blk.Beside (offsOf
      (Regs.answers ++ [R.CHN_LOCK])) Part.answers b) ∧
  (∀ (s : State) (src : Fin 64) (tid : BitVec 10) (ops : List LockOp), s.blk.Ready → s.blk.hasId = true →
      s.blk.spaceHeld = true → s.blk.ownLock = none → Completes (.lockFrame src tid ops) s fun b => ((b.leaves 0
      (fun f => f.typ == Fr.cpl && f.dst == src.val && f.src == s.blk.nodeId && f.tid == tid.toNat && f.stat ==
      4) || b.leaves 1 (fun f => f.typ == Fr.cpl && f.dst == src.val && f.src == s.blk.nodeId && f.tid == tid.toNat
      && f.stat == 4)) = true) ∧ s.blk.Beside (offsOf (Regs.answers ++ [R.CHN_LOCK])) Part.answers b) ∧
  (∀ (s : State) (src : Fin 64) (tid : BitVec 10) (ops : List LockOp) (r : ChnReq) (d : Desc), s.blk.Ready →
      s.blk.hasId = true → s.blk.spaceHeld = true → s.blk.ownLock = some (r, d) → s.blk.nodeId ≤ src.val → Completes
      (.lockFrame src tid ops) s fun b => ((b.leaves 0 (fun f => f.typ == Fr.lref && f.dst == src.val && f.tid ==
      tid.toNat) || b.leaves 1 (fun f => f.typ == Fr.lref && f.dst == src.val && f.tid == tid.toNat)) = true ∧
      b.chn.reqs = s.blk.chn.reqs ∧ b.spaceHeld = true) ∧ s.blk.Beside (offsOf [R.CHN_LOCK] ++ d.regs) ([Part.chn]
      ++ d.parts) b) ∧
  (∀ (s : State) (r : ChnReq) (tid : BitVec 10) (d : Desc) (l : List LockOp), s.blk.Ready → s.blk.chn.reqs = [r] →
      r.tid = tid.toNat → r.kind = .lock d l → s.blk.chn.waiting = [] → s.blk.chn.asks = [] → s.blk.Single d →
      Completes (.lrefFrame tid) s fun b => b.chn.reqs = [] ∧ b.spaceHeld = false ∧ b.answered d (fun x => x.status
      == St.busy) = true) ∧
  (∀ (s : State) (r : ChnReq) (tid : BitVec 10) (d : Desc) (l : List LockOp) (vals : List Word), s.blk.Ready →
      s.blk.chn.reqs = [r] → r.tid = tid.toNat → r.kind = .lock d l → s.blk.chn.waiting = [] → s.blk.chn.asks = [] →
      s.blk.Single d → (((Block.lockOps d).map (fun x => x.1)).any fun p => p.loc) = false → Completes (.cplFrame
      (.lock tid 0 vals false)) s fun b => b.chn.reqs = [] ∧ b.spaceHeld = false ∧ b.answered d (fun x => x.status
      == St.ok && x.cw2 == vals.length) = true) ∧
  (∀ (s : State), s.blk.Ready → s.blk.spaceHeld = true → s.blk.ownLock = none → s.blk.chn.waiting = [] →
      s.blk.chn.asks = [] → Completes .lockTimeout s fun b => b.spaceHeld = false ∧ b.getF F.CHN_STAT_LOCKTO 0 = 1 ∧
      b.HasEvent 229) ∧
  (∀ (s : State) (src : Fin 64) (tid : BitVec 10) (ops : List LockOp), s.blk.Ready → s.blk.spaceHeld = true →
      s.blk.ownLock = none → s.blk.chn.grant = some (src.val, tid.toNat, ops) → s.blk.chn.waiting = [] →
      s.blk.chn.asks = [] → Completes .lockTimeout s fun b => b.spaceHeld = false ∧ b.chn.grant = none ∧ b.getF
      F.CHN_STAT_LOCKTO 0 = 1 ∧ b.HasEvent 229 ∧ (b.leaves 0 (fun f => f.typ == Fr.cpl && f.dst == src.val && f.src
      == s.blk.nodeId && f.tid == tid.toNat && f.stat == 6) || b.leaves 1 (fun f => f.typ == Fr.cpl && f.dst ==
      src.val && f.src == s.blk.nodeId && f.tid == tid.toNat && f.stat == 6)) = true) ∧
  (∀ (s : State) (r : ChnReq) (d : Desc), s.blk.Ready → s.blk.ownLock = some (r, d) → s.blk.chn.waiting = [] →
      s.blk.chn.asks = [] → s.blk.Single d → Completes .lockTimeout s fun b => b.spaceHeld = false ∧ b.getF
      F.CHN_STAT_LOCKTO 0 = 1 ∧ b.answered d (fun x => x.status == St.partialOk && x.cw2 == 0 && x.cw3 == 2 ^
      (Block.lockOps d).length - 1) = true)

/-- Register arithmetic, comparisons and moves of a core give the results and flags of R517 to R519 and R522, and
change nothing else. Rests on R518, R519, R522; the clauses state the parts of these rules that they write out.
Choices of the model in it: log 107. -/
def Obligations.HeperArithmetic : Prop :=
  (∀ (s : State) (x : Exe) (rd : Fin 16) (rs : Fin 16), s.blk.Ready → s.blk.fetches x 1 = true → (s.blk.cpu x).rep ≤
      1 → Completes (.mov x rd rs) s fun b => (b.cpu x).getD rd = ((s.blk.cpu x).getD rs) ∧ s.blk.Past x 1 [.d rd]
      b) ∧
  (∀ (s : State) (x : Exe) (rd : Fin 16) (rs : Fin 16) (rt : Fin 16), s.blk.Ready → s.blk.fetches x 1 = true →
      (s.blk.cpu x).rep ≤ 1 → Completes (.add x rd rs rt) s fun b => (b.cpu x).getD rd = ((s.blk.cpu x).getD rs) +
      ((s.blk.cpu x).getD rt) ∧ srBits ((8, decide (4294967296 ≤ ((s.blk.cpu x).getD rs).toNat + ((s.blk.cpu x).getD
      rt).toNat)) :: (11, !fits (((s.blk.cpu x).getD rs).toInt + ((s.blk.cpu x).getD rt).toInt)) :: flagZN
      (((s.blk.cpu x).getD rs) + ((s.blk.cpu x).getD rt))) (s.blk.cpu x).sr (b.cpu x).sr = true ∧ s.blk.Past x 1 [.d
      rd, .sr] b) ∧
  (∀ (s : State) (x : Exe) (rd : Fin 16) (rs : Fin 16) (rt : Fin 16), s.blk.Ready → s.blk.fetches x 1 = true →
      (s.blk.cpu x).rep ≤ 1 → Completes (.adc x rd rs rt) s fun b => (b.cpu x).getD rd = ((s.blk.cpu x).getD rs) +
      ((s.blk.cpu x).getD rt) + (if ((s.blk.cpu x).sr.getLsbD 8) then 1 else 0) ∧ srBits ((8, decide (4294967296 ≤
      ((s.blk.cpu x).getD rs).toNat + ((s.blk.cpu x).getD rt).toNat + b2n ((s.blk.cpu x).sr.getLsbD 8))) :: (11,
      !fits (((s.blk.cpu x).getD rs).toInt + ((s.blk.cpu x).getD rt).toInt + b2n ((s.blk.cpu x).sr.getLsbD 8))) ::
      flagZN (((s.blk.cpu x).getD rs) + ((s.blk.cpu x).getD rt) + (if ((s.blk.cpu x).sr.getLsbD 8) then 1 else 0)))
      (s.blk.cpu x).sr (b.cpu x).sr = true ∧ s.blk.Past x 1 [.d rd, .sr] b) ∧
  (∀ (s : State) (x : Exe) (rd : Fin 16) (rs : Fin 16) (rt : Fin 16), s.blk.Ready → s.blk.fetches x 1 = true →
      (s.blk.cpu x).rep ≤ 1 → Completes (.sub x rd rs rt) s fun b => (b.cpu x).getD rd = ((s.blk.cpu x).getD rs) -
      ((s.blk.cpu x).getD rt) ∧ srBits ((8, decide (((s.blk.cpu x).getD rt).toNat ≤ ((s.blk.cpu x).getD rs).toNat))
      :: (11, !fits (((s.blk.cpu x).getD rs).toInt - ((s.blk.cpu x).getD rt).toInt)) :: flagZN (((s.blk.cpu x).getD
      rs) - ((s.blk.cpu x).getD rt))) (s.blk.cpu x).sr (b.cpu x).sr = true ∧ s.blk.Past x 1 [.d rd, .sr] b) ∧
  (∀ (s : State) (x : Exe) (rd : Fin 16) (rs : Fin 16) (rt : Fin 16), s.blk.Ready → s.blk.fetches x 1 = true →
      (s.blk.cpu x).rep ≤ 1 → Completes (.sbc x rd rs rt) s fun b => (b.cpu x).getD rd = ((s.blk.cpu x).getD rs) -
      ((s.blk.cpu x).getD rt) - (if ((s.blk.cpu x).sr.getLsbD 8) then 0 else 1) ∧ srBits ((8, decide (((s.blk.cpu
      x).getD rt).toNat + (1 - b2n ((s.blk.cpu x).sr.getLsbD 8)) ≤ ((s.blk.cpu x).getD rs).toNat)) :: (11, !fits
      (((s.blk.cpu x).getD rs).toInt - ((s.blk.cpu x).getD rt).toInt - (1 - b2n ((s.blk.cpu x).sr.getLsbD 8) :
      Nat))) :: flagZN (((s.blk.cpu x).getD rs) - ((s.blk.cpu x).getD rt) - (if ((s.blk.cpu x).sr.getLsbD 8) then 0
      else 1))) (s.blk.cpu x).sr (b.cpu x).sr = true ∧ s.blk.Past x 1 [.d rd, .sr] b) ∧
  (∀ (s : State) (x : Exe) (rd : Fin 16) (rs : Fin 16) (rt : Fin 16), s.blk.Ready → s.blk.fetches x 1 = true →
      (s.blk.cpu x).rep ≤ 1 → Completes (.adds x rd rs rt) s fun b => (b.cpu x).getD rd = clamp32 (((s.blk.cpu
      x).getD rs).toInt + ((s.blk.cpu x).getD rt).toInt) ∧ srBits ((8, decide (4294967296 ≤ ((s.blk.cpu x).getD
      rs).toNat + ((s.blk.cpu x).getD rt).toNat)) :: (11, !fits (((s.blk.cpu x).getD rs).toInt + ((s.blk.cpu x).getD
      rt).toInt)) :: flagZN (clamp32 (((s.blk.cpu x).getD rs).toInt + ((s.blk.cpu x).getD rt).toInt))) (s.blk.cpu
      x).sr (b.cpu x).sr = true ∧ s.blk.Past x 1 [.d rd, .sr] b) ∧
  (∀ (s : State) (x : Exe) (rd : Fin 16) (rs : Fin 16) (rt : Fin 16), s.blk.Ready → s.blk.fetches x 1 = true →
      (s.blk.cpu x).rep ≤ 1 → Completes (.subs x rd rs rt) s fun b => (b.cpu x).getD rd = clamp32 (((s.blk.cpu
      x).getD rs).toInt - ((s.blk.cpu x).getD rt).toInt) ∧ srBits ((8, decide (((s.blk.cpu x).getD rt).toNat ≤
      ((s.blk.cpu x).getD rs).toNat)) :: (11, !fits (((s.blk.cpu x).getD rs).toInt - ((s.blk.cpu x).getD rt).toInt))
      :: flagZN (clamp32 (((s.blk.cpu x).getD rs).toInt - ((s.blk.cpu x).getD rt).toInt))) (s.blk.cpu x).sr (b.cpu
      x).sr = true ∧ s.blk.Past x 1 [.d rd, .sr] b) ∧
  (∀ (s : State) (x : Exe) (rd : Fin 16) (rs : Fin 16), s.blk.Ready → s.blk.fetches x 1 = true → (s.blk.cpu x).rep ≤
      1 → Completes (.neg x rd rs) s fun b => (b.cpu x).getD rd = 0 - ((s.blk.cpu x).getD rs) ∧ srBits ((8,
      ((s.blk.cpu x).getD rs) == 0) :: (11, !fits (-((s.blk.cpu x).getD rs).toInt)) :: flagZN (0 - ((s.blk.cpu
      x).getD rs))) (s.blk.cpu x).sr (b.cpu x).sr = true ∧ s.blk.Past x 1 [.d rd, .sr] b) ∧
  (∀ (s : State) (x : Exe) (rd : Fin 16) (rs : Fin 16), s.blk.Ready → s.blk.fetches x 1 = true → (s.blk.cpu x).rep ≤
      1 → Completes (.negs x rd rs) s fun b => (b.cpu x).getD rd = clamp32 (-((s.blk.cpu x).getD rs).toInt) ∧ srBits
      ((8, ((s.blk.cpu x).getD rs) == 0) :: (11, !fits (-((s.blk.cpu x).getD rs).toInt)) :: flagZN (clamp32
      (-((s.blk.cpu x).getD rs).toInt))) (s.blk.cpu x).sr (b.cpu x).sr = true ∧ s.blk.Past x 1 [.d rd, .sr] b) ∧
  (∀ (s : State) (x : Exe) (rd : Fin 16) (rs : Fin 16), s.blk.Ready → s.blk.fetches x 1 = true → (s.blk.cpu x).rep ≤
      1 → Completes (.abs x rd rs) s fun b => (b.cpu x).getD rd = BitVec.ofNat 32 ((s.blk.cpu x).getD
      rs).toInt.natAbs ∧ srBits ((11, ((s.blk.cpu x).getD rs) == 0x80000000) :: flagZN (BitVec.ofNat 32 ((s.blk.cpu
      x).getD rs).toInt.natAbs)) (s.blk.cpu x).sr (b.cpu x).sr = true ∧ s.blk.Past x 1 [.d rd, .sr] b) ∧
  (∀ (s : State) (x : Exe) (rs : Fin 16) (rt : Fin 16), s.blk.Ready → s.blk.fetches x 1 = true → (s.blk.cpu x).rep ≤
      1 → Completes (.cmp x rs rt) s fun b => srBits ((8, decide (((s.blk.cpu x).getD rt).toNat ≤ ((s.blk.cpu
      x).getD rs).toNat)) :: (11, !fits (((s.blk.cpu x).getD rs).toInt - ((s.blk.cpu x).getD rt).toInt)) :: flagZN
      (((s.blk.cpu x).getD rs) - ((s.blk.cpu x).getD rt))) (s.blk.cpu x).sr (b.cpu x).sr = true ∧ s.blk.Past x 1
      [.sr] b) ∧
  (∀ (s : State) (x : Exe) (rs : Fin 16) (rt : Fin 16), s.blk.Ready → s.blk.fetches x 1 = true → (s.blk.cpu x).rep ≤
      1 → Completes (.tst x rs rt) s fun b => srBits (flagZN (((s.blk.cpu x).getD rs) &&& ((s.blk.cpu x).getD rt)))
      (s.blk.cpu x).sr (b.cpu x).sr = true ∧ s.blk.Past x 1 [.sr] b) ∧
  (∀ (s : State) (x : Exe) (rd : Fin 16) (rs : Fin 16) (rt : Fin 16), s.blk.Ready → s.blk.fetches x 1 = true →
      (s.blk.cpu x).rep ≤ 1 → Completes (.mins x rd rs rt) s fun b => (b.cpu x).getD rd = (if ((s.blk.cpu x).getD
      rs).toInt ≤ ((s.blk.cpu x).getD rt).toInt then ((s.blk.cpu x).getD rs) else ((s.blk.cpu x).getD rt)) ∧
      s.blk.Past x 1 [.d rd] b) ∧
  (∀ (s : State) (x : Exe) (rd : Fin 16) (rs : Fin 16) (rt : Fin 16), s.blk.Ready → s.blk.fetches x 1 = true →
      (s.blk.cpu x).rep ≤ 1 → Completes (.maxs x rd rs rt) s fun b => (b.cpu x).getD rd = (if ((s.blk.cpu x).getD
      rt).toInt ≤ ((s.blk.cpu x).getD rs).toInt then ((s.blk.cpu x).getD rs) else ((s.blk.cpu x).getD rt)) ∧
      s.blk.Past x 1 [.d rd] b) ∧
  (∀ (s : State) (x : Exe) (rd : Fin 16) (rs : Fin 16) (rt : Fin 16), s.blk.Ready → s.blk.fetches x 1 = true →
      (s.blk.cpu x).rep ≤ 1 → Completes (.minu x rd rs rt) s fun b => (b.cpu x).getD rd = (if ((s.blk.cpu x).getD
      rs).toNat ≤ ((s.blk.cpu x).getD rt).toNat then ((s.blk.cpu x).getD rs) else ((s.blk.cpu x).getD rt)) ∧
      s.blk.Past x 1 [.d rd] b) ∧
  (∀ (s : State) (x : Exe) (rd : Fin 16) (rs : Fin 16) (rt : Fin 16), s.blk.Ready → s.blk.fetches x 1 = true →
      (s.blk.cpu x).rep ≤ 1 → Completes (.maxu x rd rs rt) s fun b => (b.cpu x).getD rd = (if ((s.blk.cpu x).getD
      rt).toNat ≤ ((s.blk.cpu x).getD rs).toNat then ((s.blk.cpu x).getD rs) else ((s.blk.cpu x).getD rt)) ∧
      s.blk.Past x 1 [.d rd] b) ∧
  (∀ (s : State) (x : Exe) (rd : Fin 16) (rs : Fin 16), s.blk.Ready → s.blk.fetches x 1 = true → (s.blk.cpu x).rep ≤
      1 → Completes (.movad x rd rs) s fun b => (b.cpu x).getD rd = (s.blk.cpu x).getA rs ∧ s.blk.Past x 1 [.d rd]
      b) ∧
  (∀ (s : State) (x : Exe) (rd : Fin 16) (rs : Fin 16), s.blk.Ready → s.blk.fetches x 1 = true → (s.blk.cpu x).rep ≤
      1 → Completes (.movda x rd rs) s fun b => (b.cpu x).getA rd = ((s.blk.cpu x).getD rs) ∧ s.blk.Past x 1 [.ofA
      (s.blk.cpu x) rd] b) ∧
  (∀ (s : State) (x : Exe) (rd : Fin 16) (rs : Fin 16), s.blk.Ready → s.blk.fetches x 1 = true → (s.blk.cpu x).rep ≤
      1 → Completes (.movaa x rd rs) s fun b => (b.cpu x).getA rd = (s.blk.cpu x).getA rs ∧ s.blk.Past x 1 [.ofA
      (s.blk.cpu x) rd] b) ∧
  (∀ (s : State) (x : Exe) (rd : Fin 16) (rs : Fin 16) (rt : Fin 16), s.blk.Ready → s.blk.fetches x 1 = true →
      (s.blk.cpu x).rep ≤ 1 → Completes (.addad x rd rs rt) s fun b => (b.cpu x).getA rd = (s.blk.cpu x).getA rs +
      ((s.blk.cpu x).getD rt) ∧ s.blk.Past x 1 [.ofA (s.blk.cpu x) rd] b) ∧
  (∀ (s : State) (x : Exe) (rd : Fin 16) (rs : Fin 16) (rt : Fin 16) (cond : Fin 15), s.blk.Ready → s.blk.fetches x
      1 = true → (s.blk.cpu x).rep ≤ 1 → Completes (.sel x rd rs rt cond) s fun b => (b.cpu x).getD rd = (if ([true,
      (s.blk.cpu x).sr.getLsbD 9, !(s.blk.cpu x).sr.getLsbD 9, (s.blk.cpu x).sr.getLsbD 8, !(s.blk.cpu x).sr.getLsbD
      8, (s.blk.cpu x).sr.getLsbD 10, !(s.blk.cpu x).sr.getLsbD 10, (s.blk.cpu x).sr.getLsbD 11, !(s.blk.cpu
      x).sr.getLsbD 11, (s.blk.cpu x).sr.getLsbD 8 && !(s.blk.cpu x).sr.getLsbD 9, !(s.blk.cpu x).sr.getLsbD 8 ||
      (s.blk.cpu x).sr.getLsbD 9, (s.blk.cpu x).sr.getLsbD 10 == (s.blk.cpu x).sr.getLsbD 11, (s.blk.cpu
      x).sr.getLsbD 10 != (s.blk.cpu x).sr.getLsbD 11, !(s.blk.cpu x).sr.getLsbD 9 && (s.blk.cpu x).sr.getLsbD 10 ==
      (s.blk.cpu x).sr.getLsbD 11, (s.blk.cpu x).sr.getLsbD 9 || (s.blk.cpu x).sr.getLsbD 10 != (s.blk.cpu
      x).sr.getLsbD 11]).getD cond false then ((s.blk.cpu x).getD rs) else ((s.blk.cpu x).getD rt)) ∧ s.blk.Past x 1
      [.d rd] b)

/-- Bitwise operations, division and immediate forms of a core give the results and flags of R519, R520, R523 and
R533, and change nothing else. Rests on R518, R519, R520, R523, R533; the clauses state the parts of these rules
that they write out. Choices of the model in it: log 107. -/
def Obligations.HeperLogic : Prop :=
  (∀ (s : State) (x : Exe) (rd : Fin 16) (rs : Fin 16) (rt : Fin 16), s.blk.Ready → s.blk.fetches x 1 = true →
      (s.blk.cpu x).rep ≤ 1 → Completes (.and x rd rs rt) s fun b => (b.cpu x).getD rd = ((s.blk.cpu x).getD rs) &&&
      ((s.blk.cpu x).getD rt) ∧ srBits (flagZN (((s.blk.cpu x).getD rs) &&& ((s.blk.cpu x).getD rt))) (s.blk.cpu
      x).sr (b.cpu x).sr = true ∧ s.blk.Past x 1 [.d rd, .sr] b) ∧
  (∀ (s : State) (x : Exe) (rd : Fin 16) (rs : Fin 16) (rt : Fin 16), s.blk.Ready → s.blk.fetches x 1 = true →
      (s.blk.cpu x).rep ≤ 1 → Completes (.or x rd rs rt) s fun b => (b.cpu x).getD rd = ((s.blk.cpu x).getD rs) |||
      ((s.blk.cpu x).getD rt) ∧ srBits (flagZN (((s.blk.cpu x).getD rs) ||| ((s.blk.cpu x).getD rt))) (s.blk.cpu
      x).sr (b.cpu x).sr = true ∧ s.blk.Past x 1 [.d rd, .sr] b) ∧
  (∀ (s : State) (x : Exe) (rd : Fin 16) (rs : Fin 16) (rt : Fin 16), s.blk.Ready → s.blk.fetches x 1 = true →
      (s.blk.cpu x).rep ≤ 1 → Completes (.xor x rd rs rt) s fun b => (b.cpu x).getD rd = ((s.blk.cpu x).getD rs) ^^^
      ((s.blk.cpu x).getD rt) ∧ srBits (flagZN (((s.blk.cpu x).getD rs) ^^^ ((s.blk.cpu x).getD rt))) (s.blk.cpu
      x).sr (b.cpu x).sr = true ∧ s.blk.Past x 1 [.d rd, .sr] b) ∧
  (∀ (s : State) (x : Exe) (rd : Fin 16) (rs : Fin 16), s.blk.Ready → s.blk.fetches x 1 = true → (s.blk.cpu x).rep ≤
      1 → Completes (.not x rd rs) s fun b => (b.cpu x).getD rd = ~~~((s.blk.cpu x).getD rs) ∧ srBits (flagZN
      (~~~((s.blk.cpu x).getD rs))) (s.blk.cpu x).sr (b.cpu x).sr = true ∧ s.blk.Past x 1 [.d rd, .sr] b) ∧
  (∀ (s : State) (x : Exe) (rd : Fin 16) (rs : Fin 16), s.blk.Ready → s.blk.fetches x 1 = true → (s.blk.cpu x).rep ≤
      1 → Completes (.clz x rd rs) s fun b => (b.cpu x).getD rd = (if ((s.blk.cpu x).getD rs) = 0 then 32 else
      BitVec.ofNat 32 (31 - Nat.log2 ((s.blk.cpu x).getD rs).toNat)) ∧ srBits (flagZN ((if ((s.blk.cpu x).getD rs) =
      0 then 32 else BitVec.ofNat 32 (31 - Nat.log2 ((s.blk.cpu x).getD rs).toNat)))) (s.blk.cpu x).sr (b.cpu x).sr
      = true ∧ s.blk.Past x 1 [.d rd, .sr] b) ∧
  (∀ (s : State) (x : Exe) (rd : Fin 16) (rs : Fin 16), s.blk.Ready → s.blk.fetches x 1 = true → (s.blk.cpu x).rep ≤
      1 → Completes (.sextb x rd rs) s fun b => (b.cpu x).getD rd = BitVec.ofInt 32 (((s.blk.cpu x).getD
      rs).setWidth 8).toInt ∧ srBits (flagZN (BitVec.ofInt 32 (((s.blk.cpu x).getD rs).setWidth 8).toInt))
      (s.blk.cpu x).sr (b.cpu x).sr = true ∧ s.blk.Past x 1 [.d rd, .sr] b) ∧
  (∀ (s : State) (x : Exe) (rd : Fin 16) (rs : Fin 16), s.blk.Ready → s.blk.fetches x 1 = true → (s.blk.cpu x).rep ≤
      1 → Completes (.sexth x rd rs) s fun b => (b.cpu x).getD rd = BitVec.ofInt 32 (((s.blk.cpu x).getD
      rs).setWidth 16).toInt ∧ srBits (flagZN (BitVec.ofInt 32 (((s.blk.cpu x).getD rs).setWidth 16).toInt))
      (s.blk.cpu x).sr (b.cpu x).sr = true ∧ s.blk.Past x 1 [.d rd, .sr] b) ∧
  (∀ (s : State) (x : Exe) (rd : Fin 16) (rs : Fin 16) (rt : Fin 16), s.blk.Ready → s.blk.fetches x 1 = true →
      (s.blk.cpu x).rep ≤ 1 → (((s.blk.cpu x).getD rt) ≠ 0 ∨ (s.blk.cpu x).divcfg.getLsbD 0 = false) → Completes
      (.divu x rd rs rt) s fun b => (b.cpu x).getD rd = (if ((s.blk.cpu x).getD rt) = 0 then 0xFFFFFFFF else
      BitVec.ofNat 32 (((s.blk.cpu x).getD rs).toNat / ((s.blk.cpu x).getD rt).toNat)) ∧ srBits ((if ((s.blk.cpu
      x).getD rt) = 0 then [(13, true)] else []) ++ (11, false) :: flagZN ((if ((s.blk.cpu x).getD rt) = 0 then
      0xFFFFFFFF else BitVec.ofNat 32 (((s.blk.cpu x).getD rs).toNat / ((s.blk.cpu x).getD rt).toNat)))) (s.blk.cpu
      x).sr (b.cpu x).sr = true ∧ s.blk.Past x 1 [.d rd, .sr] b) ∧
  (∀ (s : State) (x : Exe) (rd : Fin 16) (rs : Fin 16) (rt : Fin 16), s.blk.Ready → s.blk.fetches x 1 = true →
      (s.blk.cpu x).rep ≤ 1 → (((s.blk.cpu x).getD rt) ≠ 0 ∨ (s.blk.cpu x).divcfg.getLsbD 0 = false) → Completes
      (.divs x rd rs rt) s fun b => (b.cpu x).getD rd = (if ((s.blk.cpu x).getD rt) = 0 then (if ((s.blk.cpu x).getD
      rs).toInt < 0 then 0x80000000 else 0x7FFFFFFF) else BitVec.ofInt 32 (((s.blk.cpu x).getD rs).toInt.tdiv
      ((s.blk.cpu x).getD rt).toInt)) ∧ srBits ((if ((s.blk.cpu x).getD rt) = 0 then [(13, true)] else []) ++ (11,
      (((s.blk.cpu x).getD rs) == 0x80000000 && ((s.blk.cpu x).getD rt) == 0xFFFFFFFF)) :: flagZN ((if ((s.blk.cpu
      x).getD rt) = 0 then (if ((s.blk.cpu x).getD rs).toInt < 0 then 0x80000000 else 0x7FFFFFFF) else BitVec.ofInt
      32 (((s.blk.cpu x).getD rs).toInt.tdiv ((s.blk.cpu x).getD rt).toInt)))) (s.blk.cpu x).sr (b.cpu x).sr = true
      ∧ s.blk.Past x 1 [.d rd, .sr] b) ∧
  (∀ (s : State) (x : Exe) (rd : Fin 16) (rs : Fin 16) (rt : Fin 16), s.blk.Ready → s.blk.fetches x 1 = true →
      (s.blk.cpu x).rep ≤ 1 → (((s.blk.cpu x).getD rt) ≠ 0 ∨ (s.blk.cpu x).divcfg.getLsbD 0 = false) → Completes
      (.remu x rd rs rt) s fun b => (b.cpu x).getD rd = (if ((s.blk.cpu x).getD rt) = 0 then ((s.blk.cpu x).getD rs)
      else BitVec.ofNat 32 (((s.blk.cpu x).getD rs).toNat % ((s.blk.cpu x).getD rt).toNat)) ∧ srBits ((if
      ((s.blk.cpu x).getD rt) = 0 then [(13, true)] else []) ++ (11, false) :: flagZN ((if ((s.blk.cpu x).getD rt) =
      0 then ((s.blk.cpu x).getD rs) else BitVec.ofNat 32 (((s.blk.cpu x).getD rs).toNat % ((s.blk.cpu x).getD
      rt).toNat)))) (s.blk.cpu x).sr (b.cpu x).sr = true ∧ s.blk.Past x 1 [.d rd, .sr] b) ∧
  (∀ (s : State) (x : Exe) (rd : Fin 16) (rs : Fin 16) (rt : Fin 16), s.blk.Ready → s.blk.fetches x 1 = true →
      (s.blk.cpu x).rep ≤ 1 → (((s.blk.cpu x).getD rt) ≠ 0 ∨ (s.blk.cpu x).divcfg.getLsbD 0 = false) → Completes
      (.rems x rd rs rt) s fun b => (b.cpu x).getD rd = (if ((s.blk.cpu x).getD rt) = 0 then ((s.blk.cpu x).getD rs)
      else BitVec.ofInt 32 (((s.blk.cpu x).getD rs).toInt.tmod ((s.blk.cpu x).getD rt).toInt)) ∧ srBits ((if
      ((s.blk.cpu x).getD rt) = 0 then [(13, true)] else []) ++ (11, (((s.blk.cpu x).getD rs) == 0x80000000 &&
      ((s.blk.cpu x).getD rt) == 0xFFFFFFFF)) :: flagZN ((if ((s.blk.cpu x).getD rt) = 0 then ((s.blk.cpu x).getD
      rs) else BitVec.ofInt 32 (((s.blk.cpu x).getD rs).toInt.tmod ((s.blk.cpu x).getD rt).toInt)))) (s.blk.cpu
      x).sr (b.cpu x).sr = true ∧ s.blk.Past x 1 [.d rd, .sr] b) ∧
  (∀ (s : State) (x : Exe) (rd : Fin 16) (rs : Fin 16) (i : Imm), s.blk.Ready → s.blk.fetches x i.words = true →
      (s.blk.cpu x).rep ≤ 1 → Completes (.addi x rd rs i) s fun b => (b.cpu x).getD rd = ((s.blk.cpu x).getD rs) +
      i.signed ∧ srBits ((8, decide (4294967296 ≤ ((s.blk.cpu x).getD rs).toNat + i.signed.toNat)) :: (11, !fits
      (((s.blk.cpu x).getD rs).toInt + i.signed.toInt)) :: flagZN (((s.blk.cpu x).getD rs) + i.signed)) (s.blk.cpu
      x).sr (b.cpu x).sr = true ∧ s.blk.Past x i.words [.d rd, .sr] b) ∧
  (∀ (s : State) (x : Exe) (rd : Fin 16) (rs : Fin 16) (i : Imm), s.blk.Ready → s.blk.fetches x i.words = true →
      (s.blk.cpu x).rep ≤ 1 → Completes (.andi x rd rs i) s fun b => (b.cpu x).getD rd = ((s.blk.cpu x).getD rs) &&&
      i.unsigned ∧ srBits (flagZN (((s.blk.cpu x).getD rs) &&& i.unsigned)) (s.blk.cpu x).sr (b.cpu x).sr = true ∧
      s.blk.Past x i.words [.d rd, .sr] b) ∧
  (∀ (s : State) (x : Exe) (rd : Fin 16) (rs : Fin 16) (i : Imm), s.blk.Ready → s.blk.fetches x i.words = true →
      (s.blk.cpu x).rep ≤ 1 → Completes (.ori x rd rs i) s fun b => (b.cpu x).getD rd = ((s.blk.cpu x).getD rs) |||
      i.unsigned ∧ srBits (flagZN (((s.blk.cpu x).getD rs) ||| i.unsigned)) (s.blk.cpu x).sr (b.cpu x).sr = true ∧
      s.blk.Past x i.words [.d rd, .sr] b) ∧
  (∀ (s : State) (x : Exe) (rd : Fin 16) (rs : Fin 16) (i : Imm), s.blk.Ready → s.blk.fetches x i.words = true →
      (s.blk.cpu x).rep ≤ 1 → Completes (.xori x rd rs i) s fun b => (b.cpu x).getD rd = ((s.blk.cpu x).getD rs) ^^^
      i.unsigned ∧ srBits (flagZN (((s.blk.cpu x).getD rs) ^^^ i.unsigned)) (s.blk.cpu x).sr (b.cpu x).sr = true ∧
      s.blk.Past x i.words [.d rd, .sr] b) ∧
  (∀ (s : State) (x : Exe) (rd : Fin 16) (i : Imm), s.blk.Ready → s.blk.fetches x i.words = true → (s.blk.cpu x).rep
      ≤ 1 → Completes (.movi x rd i) s fun b => (b.cpu x).getD rd = i.signed ∧ s.blk.Past x i.words [.d rd] b) ∧
  (∀ (s : State) (x : Exe) (rs : Fin 16) (i : Imm), s.blk.Ready → s.blk.fetches x i.words = true → (s.blk.cpu x).rep
      ≤ 1 → Completes (.cmpi x rs i) s fun b => srBits ((8, decide (i.signed.toNat ≤ ((s.blk.cpu x).getD rs).toNat))
      :: (11, !fits (((s.blk.cpu x).getD rs).toInt - i.signed.toInt)) :: flagZN (((s.blk.cpu x).getD rs) -
      i.signed)) (s.blk.cpu x).sr (b.cpu x).sr = true ∧ s.blk.Past x i.words [.sr] b) ∧
  (∀ (s : State) (x : Exe) (rd : Fin 16) (rs : Fin 16) (i : Imm), s.blk.Ready → s.blk.fetches x i.words = true →
      (s.blk.cpu x).rep ≤ 1 → Completes (.adda x rd rs i) s fun b => (b.cpu x).getA rd = (s.blk.cpu x).getA rs +
      i.signed ∧ s.blk.Past x i.words [.ofA (s.blk.cpu x) rd] b)

/-- The shift count is eight bits taken as unsigned, and LSL, LSR, ASR, ROR and SHI give the results and C of its
ranges. Formalises R521; the clauses on what stays unchanged are derived. -/
def Obligations.ShiftCounts : Prop :=
  (∀ (s : State) (x : Exe) (rd : Fin 16) (rs : Fin 16) (rt : Fin 16), s.blk.Ready → s.blk.fetches x 1 = true →
      (s.blk.cpu x).rep ≤ 1 → Completes (.lsl x rd rs rt) s fun b => (b.cpu x).getD rd = (if (((s.blk.cpu x).getD
      rt).toNat % 256) < 32 then ((s.blk.cpu x).getD rs) <<< (((s.blk.cpu x).getD rt).toNat % 256) else 0) ∧ srBits
      ((if (((s.blk.cpu x).getD rt).toNat % 256) = 0 then [] else [(8, decide ((((s.blk.cpu x).getD rt).toNat % 256)
      ≤ 32) && ((s.blk.cpu x).getD rs).getLsbD (32 - (((s.blk.cpu x).getD rt).toNat % 256)))]) ++ flagZN ((if
      (((s.blk.cpu x).getD rt).toNat % 256) < 32 then ((s.blk.cpu x).getD rs) <<< (((s.blk.cpu x).getD rt).toNat %
      256) else 0))) (s.blk.cpu x).sr (b.cpu x).sr = true ∧ s.blk.Past x 1 [.d rd, .sr] b) ∧
  (∀ (s : State) (x : Exe) (rd : Fin 16) (rs : Fin 16) (rt : Fin 16), s.blk.Ready → s.blk.fetches x 1 = true →
      (s.blk.cpu x).rep ≤ 1 → Completes (.lsr x rd rs rt) s fun b => (b.cpu x).getD rd = (if (((s.blk.cpu x).getD
      rt).toNat % 256) < 32 then ((s.blk.cpu x).getD rs) >>> (((s.blk.cpu x).getD rt).toNat % 256) else 0) ∧ srBits
      ((if (((s.blk.cpu x).getD rt).toNat % 256) = 0 then [] else [(8, decide ((((s.blk.cpu x).getD rt).toNat % 256)
      ≤ 32) && ((s.blk.cpu x).getD rs).getLsbD ((((s.blk.cpu x).getD rt).toNat % 256) - 1))]) ++ flagZN ((if
      (((s.blk.cpu x).getD rt).toNat % 256) < 32 then ((s.blk.cpu x).getD rs) >>> (((s.blk.cpu x).getD rt).toNat %
      256) else 0))) (s.blk.cpu x).sr (b.cpu x).sr = true ∧ s.blk.Past x 1 [.d rd, .sr] b) ∧
  (∀ (s : State) (x : Exe) (rd : Fin 16) (rs : Fin 16) (rt : Fin 16), s.blk.Ready → s.blk.fetches x 1 = true →
      (s.blk.cpu x).rep ≤ 1 → Completes (.asr x rd rs rt) s fun b => (b.cpu x).getD rd = (if (((s.blk.cpu x).getD
      rt).toNat % 256) < 32 then ((s.blk.cpu x).getD rs).sshiftRight (((s.blk.cpu x).getD rt).toNat % 256) else if
      ((s.blk.cpu x).getD rs).msb then 0xFFFFFFFF else 0) ∧ srBits ((if (((s.blk.cpu x).getD rt).toNat % 256) = 0
      then [] else [(8, ((s.blk.cpu x).getD rs).getLsbD (min 31 ((((s.blk.cpu x).getD rt).toNat % 256) - 1)))]) ++
      flagZN ((if (((s.blk.cpu x).getD rt).toNat % 256) < 32 then ((s.blk.cpu x).getD rs).sshiftRight (((s.blk.cpu
      x).getD rt).toNat % 256) else if ((s.blk.cpu x).getD rs).msb then 0xFFFFFFFF else 0))) (s.blk.cpu x).sr (b.cpu
      x).sr = true ∧ s.blk.Past x 1 [.d rd, .sr] b) ∧
  (∀ (s : State) (x : Exe) (rd : Fin 16) (rs : Fin 16) (rt : Fin 16), s.blk.Ready → s.blk.fetches x 1 = true →
      (s.blk.cpu x).rep ≤ 1 → Completes (.ror x rd rs rt) s fun b => (b.cpu x).getD rd = (((s.blk.cpu x).getD
      rs).rotateRight ((((s.blk.cpu x).getD rt).toNat % 256) % 32)) ∧ srBits ((if (((s.blk.cpu x).getD rt).toNat %
      256) = 0 then [] else [(8, (((s.blk.cpu x).getD rs).rotateRight ((((s.blk.cpu x).getD rt).toNat % 256) %
      32)).msb)]) ++ flagZN ((((s.blk.cpu x).getD rs).rotateRight ((((s.blk.cpu x).getD rt).toNat % 256) % 32))))
      (s.blk.cpu x).sr (b.cpu x).sr = true ∧ s.blk.Past x 1 [.d rd, .sr] b) ∧
  (∀ (s : State) (x : Exe) (rd : Fin 16) (rs : Fin 16) (kind : Fin 4) (count : Byte), s.blk.Ready → s.blk.fetches x
      1 = true → (s.blk.cpu x).rep ≤ 1 → Completes (.shi x rd rs kind count) s fun b => (b.cpu x).getD rd = (if
      kind.val = 0 then (if count.toNat < 32 then ((s.blk.cpu x).getD rs) <<< count.toNat else 0) else if kind.val =
      1 then (if count.toNat < 32 then ((s.blk.cpu x).getD rs) >>> count.toNat else 0) else if kind.val = 2 then (if
      count.toNat < 32 then ((s.blk.cpu x).getD rs).sshiftRight count.toNat else if ((s.blk.cpu x).getD rs).msb then
      0xFFFFFFFF else 0) else (((s.blk.cpu x).getD rs).rotateRight (count.toNat % 32))) ∧ srBits ((if count.toNat =
      0 then [] else [(8, (if kind.val = 0 then decide (count.toNat ≤ 32) && ((s.blk.cpu x).getD rs).getLsbD (32 -
      count.toNat) else if kind.val = 1 then decide (count.toNat ≤ 32) && ((s.blk.cpu x).getD rs).getLsbD
      (count.toNat - 1) else if kind.val = 2 then ((s.blk.cpu x).getD rs).getLsbD (min 31 (count.toNat - 1)) else
      (((s.blk.cpu x).getD rs).rotateRight (count.toNat % 32)).msb))]) ++ flagZN ((if kind.val = 0 then (if
      count.toNat < 32 then ((s.blk.cpu x).getD rs) <<< count.toNat else 0) else if kind.val = 1 then (if
      count.toNat < 32 then ((s.blk.cpu x).getD rs) >>> count.toNat else 0) else if kind.val = 2 then (if
      count.toNat < 32 then ((s.blk.cpu x).getD rs).sshiftRight count.toNat else if ((s.blk.cpu x).getD rs).msb then
      0xFFFFFFFF else 0) else (((s.blk.cpu x).getD rs).rotateRight (count.toNat % 32))))) (s.blk.cpu x).sr (b.cpu
      x).sr = true ∧ s.blk.Past x 1 [.d rd, .sr] b)

/-- MUL gives the same bits for signed and unsigned operands, MULHS of the two most negative numbers gives
0x4000_0000, and no multiply sets C or V. Formalises R524; the clauses on what stays unchanged are derived. -/
def Obligations.MultiplyResults : Prop :=
  (∀ (s : State) (x : Exe) (rd : Fin 16) (rs : Fin 16) (rt : Fin 16), s.blk.Ready → s.blk.fetches x 1 = true →
      (s.blk.cpu x).rep ≤ 1 → Completes (.mul x rd rs rt) s fun b => (b.cpu x).getD rd = BitVec.ofNat 32
      (((s.blk.cpu x).getD rs).toNat * ((s.blk.cpu x).getD rt).toNat) ∧ (b.cpu x).getD rd = BitVec.ofInt 32
      (((s.blk.cpu x).getD rs).toInt * ((s.blk.cpu x).getD rt).toInt) ∧ srBits (flagZN (BitVec.ofNat 32 (((s.blk.cpu
      x).getD rs).toNat * ((s.blk.cpu x).getD rt).toNat))) (s.blk.cpu x).sr (b.cpu x).sr = true ∧ (b.cpu
      x).sr.getLsbD 8 = (s.blk.cpu x).sr.getLsbD 8 ∧ (b.cpu x).sr.getLsbD 11 = (s.blk.cpu x).sr.getLsbD 11 ∧
      s.blk.Past x 1 [.d rd, .sr] b) ∧
  (∀ (s : State) (x : Exe) (rd : Fin 16) (rs : Fin 16) (rt : Fin 16), s.blk.Ready → s.blk.fetches x 1 = true →
      (s.blk.cpu x).rep ≤ 1 → Completes (.mulhu x rd rs rt) s fun b => (b.cpu x).getD rd = (((s.blk.cpu x).getD
      rs).zeroExtend 64 * ((s.blk.cpu x).getD rt).zeroExtend 64 : BitVec 64).extractLsb' 32 32 ∧ srBits (flagZN
      ((((s.blk.cpu x).getD rs).zeroExtend 64 * ((s.blk.cpu x).getD rt).zeroExtend 64 : BitVec 64).extractLsb' 32
      32)) (s.blk.cpu x).sr (b.cpu x).sr = true ∧ (b.cpu x).sr.getLsbD 8 = (s.blk.cpu x).sr.getLsbD 8 ∧ (b.cpu
      x).sr.getLsbD 11 = (s.blk.cpu x).sr.getLsbD 11 ∧ s.blk.Past x 1 [.d rd, .sr] b) ∧
  (∀ (s : State) (x : Exe) (rd : Fin 16) (rs : Fin 16) (rt : Fin 16), s.blk.Ready → s.blk.fetches x 1 = true →
      (s.blk.cpu x).rep ≤ 1 → Completes (.mulhs x rd rs rt) s fun b => (b.cpu x).getD rd = (((s.blk.cpu x).getD
      rs).signExtend 64 * ((s.blk.cpu x).getD rt).signExtend 64 : BitVec 64).extractLsb' 32 32 ∧ ((s.blk.cpu x).getD
      rs = 0x80000000 → (s.blk.cpu x).getD rt = 0x80000000 → (b.cpu x).getD rd = 0x40000000) ∧ srBits (flagZN
      ((((s.blk.cpu x).getD rs).signExtend 64 * ((s.blk.cpu x).getD rt).signExtend 64 : BitVec 64).extractLsb' 32
      32)) (s.blk.cpu x).sr (b.cpu x).sr = true ∧ (b.cpu x).sr.getLsbD 8 = (s.blk.cpu x).sr.getLsbD 8 ∧ (b.cpu
      x).sr.getLsbD 11 = (s.blk.cpu x).sr.getLsbD 11 ∧ s.blk.Past x 1 [.d rd, .sr] b)

/-- Negation, magnitude and saturation give the results of R522 at their edges. Formalises R522; the clauses on what
stays unchanged are derived. -/
def Obligations.NegationEdges : Prop :=
  (∀ (s : State) (x : Exe) (rd : Fin 16) (rs : Fin 16), s.blk.Ready → s.blk.fetches x 1 = true → (s.blk.cpu x).rep ≤
      1 → (s.blk.cpu x).getD rs = 0x80000000 → Completes (.neg x rd rs) s fun b => (b.cpu x).getD rd = 0x80000000 ∧
      (b.cpu x).sr.getLsbD 11 = true ∧ (b.cpu x).sr.getLsbD 8 = false) ∧
  (∀ (s : State) (x : Exe) (rd : Fin 16) (rs : Fin 16), s.blk.Ready → s.blk.fetches x 1 = true → (s.blk.cpu x).rep ≤
      1 → (s.blk.cpu x).getD rs = 0 → Completes (.neg x rd rs) s fun b => (b.cpu x).getD rd = 0 ∧ (b.cpu
      x).sr.getLsbD 8 = true) ∧
  (∀ (s : State) (x : Exe) (rd : Fin 16) (rs : Fin 16), s.blk.Ready → s.blk.fetches x 1 = true → (s.blk.cpu x).rep ≤
      1 → (s.blk.cpu x).getD rs = 0x80000000 → Completes (.negs x rd rs) s fun b => (b.cpu x).getD rd = 0x7FFFFFFF ∧
      (b.cpu x).sr.getLsbD 11 = true) ∧
  (∀ (s : State) (x : Exe) (rd : Fin 16) (rs : Fin 16), s.blk.Ready → s.blk.fetches x 1 = true → (s.blk.cpu x).rep ≤
      1 → (s.blk.cpu x).getD rs = 0x80000000 → Completes (.abs x rd rs) s fun b => (b.cpu x).getD rd = 0x80000000 ∧
      (b.cpu x).sr.getLsbD 11 = true) ∧
  (∀ (s : State) (x : Exe) (rd : Fin 16) (rs : Fin 16), s.blk.Ready → s.blk.fetches x 1 = true → (s.blk.cpu x).rep ≤
      1 → (s.blk.cpu x).getD rs ≠ 0x80000000 → Completes (.abs x rd rs) s fun b => (b.cpu x).sr.getLsbD 11 = false) ∧
  (∀ (s : State) (x : Exe) (rd : Fin 16) (rs : Fin 16) (rt : Fin 16), s.blk.Ready → s.blk.fetches x 1 = true →
      (s.blk.cpu x).rep ≤ 1 → 2147483647 < ((s.blk.cpu x).getD rs).toInt + ((s.blk.cpu x).getD rt).toInt → Completes
      (.adds x rd rs rt) s fun b => (b.cpu x).getD rd = 0x7FFFFFFF ∧ (b.cpu x).sr.getLsbD 11 = true) ∧
  (∀ (s : State) (x : Exe) (rd : Fin 16) (rs : Fin 16) (rt : Fin 16), s.blk.Ready → s.blk.fetches x 1 = true →
      (s.blk.cpu x).rep ≤ 1 → ((s.blk.cpu x).getD rs).toInt + ((s.blk.cpu x).getD rt).toInt < -2147483648 →
      Completes (.adds x rd rs rt) s fun b => (b.cpu x).getD rd = 0x80000000 ∧ (b.cpu x).sr.getLsbD 11 = true) ∧
  (∀ (s : State) (x : Exe) (rd : Fin 16) (rs : Fin 16) (rt : Fin 16), s.blk.Ready → s.blk.fetches x 1 = true →
      (s.blk.cpu x).rep ≤ 1 → 2147483647 < ((s.blk.cpu x).getD rs).toInt - ((s.blk.cpu x).getD rt).toInt → Completes
      (.subs x rd rs rt) s fun b => (b.cpu x).getD rd = 0x7FFFFFFF ∧ (b.cpu x).sr.getLsbD 11 = true) ∧
  (∀ (s : State) (x : Exe) (rd : Fin 16) (rs : Fin 16) (rt : Fin 16), s.blk.Ready → s.blk.fetches x 1 = true →
      (s.blk.cpu x).rep ≤ 1 → ((s.blk.cpu x).getD rs).toInt - ((s.blk.cpu x).getD rt).toInt < -2147483648 →
      Completes (.subs x rd rs rt) s fun b => (b.cpu x).getD rd = 0x80000000 ∧ (b.cpu x).sr.getLsbD 11 = true)

/-- Accumulator operations compute, clamp and set SAT as R525 says, and change nothing else. Rests on R525; the
clauses state the parts of these rules that they write out. Choices of the model in it: log 107. -/
def Obligations.HeperAccumulators : Prop :=
  (∀ (s : State) (x : Exe) (n : Fin 4) (rs : Fin 16) (rt : Fin 16), s.blk.Ready → s.blk.fetches x 1 = true →
      (s.blk.cpu x).rep ≤ 1 → Completes (.mac x n rs rt) s fun b => (b.cpu x).getAcc n = ((s.blk.cpu x).getAcc n) +
      BitVec.ofInt 72 (((s.blk.cpu x).getD rs).toInt * ((s.blk.cpu x).getD rt).toInt) ∧ s.blk.Past x 1 [.acc n] b) ∧
  (∀ (s : State) (x : Exe) (n : Fin 4) (rs : Fin 16) (rt : Fin 16), s.blk.Ready → s.blk.fetches x 1 = true →
      (s.blk.cpu x).rep ≤ 1 → Completes (.msu x n rs rt) s fun b => (b.cpu x).getAcc n = ((s.blk.cpu x).getAcc n) -
      BitVec.ofInt 72 (((s.blk.cpu x).getD rs).toInt * ((s.blk.cpu x).getD rt).toInt) ∧ s.blk.Past x 1 [.acc n] b) ∧
  (∀ (s : State) (x : Exe) (n : Fin 4) (rs : Fin 16) (rt : Fin 16), s.blk.Ready → s.blk.fetches x 1 = true →
      (s.blk.cpu x).rep ≤ 1 → Completes (.macu x n rs rt) s fun b => (b.cpu x).getAcc n = ((s.blk.cpu x).getAcc n) +
      BitVec.ofNat 72 (((s.blk.cpu x).getD rs).toNat * ((s.blk.cpu x).getD rt).toNat) ∧ s.blk.Past x 1 [.acc n] b) ∧
  (∀ (s : State) (x : Exe) (n : Fin 4) (rs : Fin 16) (rt : Fin 16), s.blk.Ready → s.blk.fetches x 1 = true →
      (s.blk.cpu x).rep ≤ 1 → Completes (.mula x n rs rt) s fun b => ((b.cpu x).getAcc n).toInt = ((s.blk.cpu
      x).getD rs).toInt * ((s.blk.cpu x).getD rt).toInt ∧ s.blk.Past x 1 [.acc n] b) ∧
  (∀ (s : State) (x : Exe) (n : Fin 4) (rs : Fin 16) (rt : Fin 16), s.blk.Ready → s.blk.fetches x 1 = true →
      (s.blk.cpu x).rep ≤ 1 → Completes (.macs x n rs rt) s fun b => ((b.cpu x).getAcc n).toInt = (max (-(2 ^ 71))
      (min (2 ^ 71 - 1) (((s.blk.cpu x).getAcc n).toInt + ((s.blk.cpu x).getD rs).toInt * ((s.blk.cpu x).getD
      rt).toInt)) : Int) ∧ srBits (if (max (-(2 ^ 71)) (min (2 ^ 71 - 1) (((s.blk.cpu x).getAcc n).toInt +
      ((s.blk.cpu x).getD rs).toInt * ((s.blk.cpu x).getD rt).toInt)) : Int) = ((s.blk.cpu x).getAcc n).toInt +
      ((s.blk.cpu x).getD rs).toInt * ((s.blk.cpu x).getD rt).toInt then [] else [(12, true)]) (s.blk.cpu x).sr
      (b.cpu x).sr = true ∧ s.blk.Past x 1 [.acc n, .sr] b) ∧
  (∀ (s : State) (x : Exe) (n : Fin 4) (rs : Fin 16) (rt : Fin 16), s.blk.Ready → s.blk.fetches x 1 = true →
      (s.blk.cpu x).rep ≤ 1 → Completes (.msus x n rs rt) s fun b => ((b.cpu x).getAcc n).toInt = (max (-(2 ^ 71))
      (min (2 ^ 71 - 1) (((s.blk.cpu x).getAcc n).toInt - ((s.blk.cpu x).getD rs).toInt * ((s.blk.cpu x).getD
      rt).toInt)) : Int) ∧ srBits (if (max (-(2 ^ 71)) (min (2 ^ 71 - 1) (((s.blk.cpu x).getAcc n).toInt -
      ((s.blk.cpu x).getD rs).toInt * ((s.blk.cpu x).getD rt).toInt)) : Int) = ((s.blk.cpu x).getAcc n).toInt -
      ((s.blk.cpu x).getD rs).toInt * ((s.blk.cpu x).getD rt).toInt then [] else [(12, true)]) (s.blk.cpu x).sr
      (b.cpu x).sr = true ∧ s.blk.Past x 1 [.acc n, .sr] b) ∧
  (∀ (s : State) (x : Exe) (n : Fin 4), s.blk.Ready → s.blk.fetches x 1 = true → (s.blk.cpu x).rep ≤ 1 → Completes
      (.aclr x n) s fun b => (b.cpu x).getAcc n = 0 ∧ s.blk.Past x 1 [.acc n] b) ∧
  (∀ (s : State) (x : Exe) (rd : Fin 16) (n : Fin 4) (sh : Fin 64), s.blk.Ready → s.blk.fetches x 1 = true →
      (s.blk.cpu x).rep ≤ 1 → Completes (.ard x rd n sh) s fun b => (b.cpu x).getD rd = BitVec.ofInt 32 (((s.blk.cpu
      x).getAcc n).toInt / 2 ^ sh.val) ∧ s.blk.Past x 1 [.d rd] b) ∧
  (∀ (s : State) (x : Exe) (rd : Fin 16) (n : Fin 4) (sh : Fin 64), s.blk.Ready → s.blk.fetches x 1 = true →
      (s.blk.cpu x).rep ≤ 1 → Completes (.ards x rd n sh) s fun b => (b.cpu x).getD rd = clamp32 (((s.blk.cpu
      x).getAcc n).toInt / 2 ^ sh.val) ∧ srBits (if fits (((s.blk.cpu x).getAcc n).toInt / 2 ^ sh.val) = true then
      [] else [(12, true)]) (s.blk.cpu x).sr (b.cpu x).sr = true ∧ s.blk.Past x 1 [.d rd, .sr] b) ∧
  (∀ (s : State) (x : Exe) (rd : Fin 16) (n : Fin 4), s.blk.Ready → s.blk.fetches x 1 = true → (s.blk.cpu x).rep ≤ 1
      → Completes (.ardh x rd n) s fun b => (b.cpu x).getD rd = ((s.blk.cpu x).getAcc n).extractLsb' 32 32 ∧
      s.blk.Past x 1 [.d rd] b) ∧
  (∀ (s : State) (x : Exe) (rd : Fin 16) (n : Fin 4), s.blk.Ready → s.blk.fetches x 1 = true → (s.blk.cpu x).rep ≤ 1
      → Completes (.ardg x rd n) s fun b => ((b.cpu x).getD rd).toInt = (((s.blk.cpu x).getAcc n).extractLsb' 64
      8).toInt ∧ s.blk.Past x 1 [.d rd] b) ∧
  (∀ (s : State) (x : Exe) (n : Fin 4) (rs : Fin 16) (rt : Fin 16) (rg : Fin 16), s.blk.Ready → s.blk.fetches x 1 =
      true → (s.blk.cpu x).rep ≤ 1 → Completes (.awr x n rs rt rg) s fun b => ((b.cpu x).getAcc n).extractLsb' 0 32
      = (s.blk.cpu x).getD rs ∧ ((b.cpu x).getAcc n).extractLsb' 32 32 = (s.blk.cpu x).getD rt ∧ ((b.cpu x).getAcc
      n).extractLsb' 64 8 = ((s.blk.cpu x).getD rg).setWidth 8 ∧ s.blk.Past x 1 [.acc n] b)

/-- Loads and stores of a core reach memory at the effective address, modify their base and change nothing else
(from R526 to R528). Rests on R526, R527, R528; the clauses state the parts of these rules that they write out.
Choices of the model in it: log 105, 106, 107, 115. -/
def Obligations.HeperMemory : Prop :=
  (∀ (s : State) (x : Exe) (size : Fin 3) (rd : Fin 16) (ab : Fin 16) (e : Ea) (g : Nat), s.blk.Ready →
      s.blk.fetches x e.words = true → (s.blk.cpu x).rep ≤ 1 → s.blk.reaches x 1 size ((s.blk.cpu x).ea ab size e) g
      = true → Completes (.ld x size rd ab e) s fun b => (b.cpu x).getD rd = BitVec.ofNat 32 (ofLe (s.blk.readMem g
      (2 ^ size.val))) ∧ (b.cpu x).getA ab = (s.blk.cpu x).getA ab + e.step ∧ s.blk.Past x e.words [.d rd, .ofA
      (s.blk.cpu x) ab] b) ∧
  (∀ (s : State) (x : Exe) (size : Fin 3) (rd : Fin 16) (ab : Fin 16) (e : Ea) (g : Nat), s.blk.Ready →
      s.blk.fetches x e.words = true → (s.blk.cpu x).rep ≤ 1 → s.blk.reaches x 1 size ((s.blk.cpu x).ea ab size e) g
      = true → Completes (.lds x size rd ab e) s fun b => ((b.cpu x).getD rd).toInt = sgn (8 * 2 ^ size.val) (ofLe
      (s.blk.readMem g (2 ^ size.val))) ∧ (b.cpu x).getA ab = (s.blk.cpu x).getA ab + e.step ∧ s.blk.Past x e.words
      [.d rd, .ofA (s.blk.cpu x) ab] b) ∧
  (∀ (s : State) (x : Exe) (ad : Fin 16) (ab : Fin 16) (e : Ea) (g : Nat), s.blk.Ready → s.blk.fetches x e.words =
      true → (s.blk.cpu x).rep ≤ 1 → s.blk.reaches x 1 2 ((s.blk.cpu x).ea ab 2 e) g = true → Completes (.lda x ad
      ab e) s fun b => (b.cpu x).getA ad = BitVec.ofNat 32 (ofLe (s.blk.readMem g (2 ^ 2))) ∧ (ad ≠ ab → (b.cpu
      x).getA ab = (s.blk.cpu x).getA ab + e.step) ∧ s.blk.Past x e.words [.ofA (s.blk.cpu x) ad, .ofA (s.blk.cpu x)
      ab] b) ∧
  (∀ (s : State) (x : Exe) (size : Fin 3) (rd : Fin 16) (ab : Fin 16) (e : Ea) (g : Nat), s.blk.Ready →
      s.blk.fetches x e.words = true → (s.blk.cpu x).rep ≤ 1 → s.blk.reaches x 2 size ((s.blk.cpu x).ea ab size e) g
      = true → Completes (.st x size rd ab e) s fun b => b.readMem g (2 ^ size.val) = leBytes (2 ^ size.val)
      ((s.blk.cpu x).getD rd).toNat ∧ (b.cpu x).getA ab = (s.blk.cpu x).getA ab + e.step ∧ (b.cpu x).pc =
      (Block.afterInstr (s.blk.cpu x).pc e.words (s.blk.cpu x)).1 ∧ (b.cpu x).lc = (Block.afterInstr (s.blk.cpu
      x).pc e.words (s.blk.cpu x)).2.lc ∧ (b.cpu x).rep = 0 ∧ s.blk.CoreBeside x [.ofA (s.blk.cpu x) ab] [] [.mem,
      .ecc] b ∧ s.blk.MemBut g (2 ^ size.val) b) ∧
  (∀ (s : State) (x : Exe) (ad : Fin 16) (ab : Fin 16) (e : Ea) (g : Nat), s.blk.Ready → s.blk.fetches x e.words =
      true → (s.blk.cpu x).rep ≤ 1 → s.blk.reaches x 2 2 ((s.blk.cpu x).ea ab 2 e) g = true → Completes (.sta x ad
      ab e) s fun b => b.readMem g 4 = leBytes 4 ((s.blk.cpu x).getA ad).toNat ∧ (b.cpu x).getA ab = (s.blk.cpu
      x).getA ab + e.step ∧ (b.cpu x).pc = (Block.afterInstr (s.blk.cpu x).pc e.words (s.blk.cpu x)).1 ∧ (b.cpu
      x).lc = (Block.afterInstr (s.blk.cpu x).pc e.words (s.blk.cpu x)).2.lc ∧ (b.cpu x).rep = 0 ∧ s.blk.CoreBeside
      x [.ofA (s.blk.cpu x) ab] [] [.mem, .ecc] b ∧ s.blk.MemBut g 4 b)

/-- Branches, LOOP, REP, NOP, SYNC and WAIT of a core move its address, its loop levels and its repeat counter (from
R498 to R502 and R529 to R532). Rests on R498, R501, R529, R530, R531, R532; the clauses state the parts of these
rules that they write out. Choices of the model in it: log 10, 113, 114. -/
def Obligations.HeperControl : Prop :=
  (∀ (s : State) (x : Exe) (cond : Fin 15) (t : Target), s.blk.Ready → s.blk.fetches x t.words = true → (s.blk.cpu
      x).rep = 0 → Completes (.b x cond t) s fun b => if ([true, (s.blk.cpu x).sr.getLsbD 9, !(s.blk.cpu
      x).sr.getLsbD 9, (s.blk.cpu x).sr.getLsbD 8, !(s.blk.cpu x).sr.getLsbD 8, (s.blk.cpu x).sr.getLsbD 10,
      !(s.blk.cpu x).sr.getLsbD 10, (s.blk.cpu x).sr.getLsbD 11, !(s.blk.cpu x).sr.getLsbD 11, (s.blk.cpu
      x).sr.getLsbD 8 && !(s.blk.cpu x).sr.getLsbD 9, !(s.blk.cpu x).sr.getLsbD 8 || (s.blk.cpu x).sr.getLsbD 9,
      (s.blk.cpu x).sr.getLsbD 10 == (s.blk.cpu x).sr.getLsbD 11, (s.blk.cpu x).sr.getLsbD 10 != (s.blk.cpu
      x).sr.getLsbD 11, !(s.blk.cpu x).sr.getLsbD 9 && (s.blk.cpu x).sr.getLsbD 10 == (s.blk.cpu x).sr.getLsbD 11,
      (s.blk.cpu x).sr.getLsbD 9 || (s.blk.cpu x).sr.getLsbD 10 != (s.blk.cpu x).sr.getLsbD 11]).getD cond false =
      true then (b.cpu x).pc =
      (match t with | .rel v => BitVec.ofInt 32 ((s.blk.cpu x).pc.toInt + 4 * v.toInt) | .abs a => a &&& 0xFFFFFFFC : Word)
      ∧ (b.cpu x).rep = 0 ∧ (b.cpu x).lc = (s.blk.cpu x).lc ∧ b.coreState (Block.hcOf x) = 2 ∧ s.blk.CoreBeside x []
      [R.HEP_STAT.at 0, R.HEP_STAT.at 1, R.HEP_STAT.at (Block.hcOf x)] [] b else s.blk.Past x t.words [] b) ∧
  (∀ (s : State) (x : Exe) (cond : Fin 15) (t : Target), s.blk.Ready → s.blk.fetches x t.words = true → (s.blk.cpu
      x).rep = 0 → Completes (.bl x cond t) s fun b => if ([true, (s.blk.cpu x).sr.getLsbD 9, !(s.blk.cpu
      x).sr.getLsbD 9, (s.blk.cpu x).sr.getLsbD 8, !(s.blk.cpu x).sr.getLsbD 8, (s.blk.cpu x).sr.getLsbD 10,
      !(s.blk.cpu x).sr.getLsbD 10, (s.blk.cpu x).sr.getLsbD 11, !(s.blk.cpu x).sr.getLsbD 11, (s.blk.cpu
      x).sr.getLsbD 8 && !(s.blk.cpu x).sr.getLsbD 9, !(s.blk.cpu x).sr.getLsbD 8 || (s.blk.cpu x).sr.getLsbD 9,
      (s.blk.cpu x).sr.getLsbD 10 == (s.blk.cpu x).sr.getLsbD 11, (s.blk.cpu x).sr.getLsbD 10 != (s.blk.cpu
      x).sr.getLsbD 11, !(s.blk.cpu x).sr.getLsbD 9 && (s.blk.cpu x).sr.getLsbD 10 == (s.blk.cpu x).sr.getLsbD 11,
      (s.blk.cpu x).sr.getLsbD 9 || (s.blk.cpu x).sr.getLsbD 10 != (s.blk.cpu x).sr.getLsbD 11]).getD cond false =
      true then (b.cpu x).getA 14 = (s.blk.cpu x).pc + BitVec.ofNat 32 (4 * t.words) ∧ (b.cpu x).pc =
      (match t with | .rel v => BitVec.ofInt 32 ((s.blk.cpu x).pc.toInt + 4 * v.toInt) | .abs a => a &&& 0xFFFFFFFC : Word)
      ∧ (b.cpu x).rep = 0 ∧ (b.cpu x).lc = (s.blk.cpu x).lc ∧ b.coreState (Block.hcOf x) = 2 ∧ s.blk.CoreBeside x
      [.a 14] [R.HEP_STAT.at 0, R.HEP_STAT.at 1, R.HEP_STAT.at (Block.hcOf x)] [] b else s.blk.Past x t.words [] b) ∧
  (∀ (s : State) (x : Exe) (link : Bool) (rs : Fin 16), s.blk.Ready → s.blk.fetches x 1 = true → (s.blk.cpu x).rep =
      0 → Completes (.jr x link rs) s fun b => (b.cpu x).pc = (s.blk.cpu x).getA rs &&& 0xFFFFFFFC ∧ (b.cpu x).rep =
      0 ∧ (b.cpu x).lc = (s.blk.cpu x).lc ∧ b.coreState (Block.hcOf x) = 2 ∧ s.blk.CoreBeside x [.a 14]
      [R.HEP_STAT.at 0, R.HEP_STAT.at 1, R.HEP_STAT.at (Block.hcOf x)] [] b ∧ (link = true → (b.cpu x).getA 14 =
      (s.blk.cpu x).pc + BitVec.ofNat 32 (4 * 1)) ∧ (link = false → (b.cpu x).getA 14 = (s.blk.cpu x).getA 14)) ∧
  (∀ (s : State) (x : Exe) (k : Fin 4) (f : LoopForm), s.blk.Ready → s.blk.fetches x (HepCore.loopWords f) = true →
      (s.blk.cpu x).rep = 0 → ((((s.blk.cpu x).pc + BitVec.ofNat 32 (4 * (HepCore.loopWords f)))).toNat ≤
      ((match f with | .imm e _ => (s.blk.cpu x).pc + BitVec.ofNat 32 (4 * e.toNat) | .reg e _ => (s.blk.cpu x).pc + BitVec.ofNat 32 (4 * e.toNat) | .long e _ => (s.blk.cpu x).pc + BitVec.ofNat 32 (4 * e.toNat) : Word)).toNat)
      → (s.blk.cpu x).pc.toNat + 8 < 2 ^ 32 →
      ((match f with | .imm _ n => BitVec.ofNat 32 n.toNat | .reg _ r => (s.blk.cpu x).getD r | .long _ n => n : Word)
      ≠ 0) → (∀ j ∈ List.range 4, Tab.get 0 (s.blk.cpu x).le j = (s.blk.cpu x).pc → j = k.val ∨ Tab.get 0 (s.blk.cpu
      x).lc j = 0) → Completes (.loop x k f) s fun b => (b.cpu x).pc = ((s.blk.cpu x).pc + BitVec.ofNat 32 (4 *
      (HepCore.loopWords f))) ∧ (b.cpu x).rep = 0 ∧ Tab.get 0 (b.cpu x).ls k = ((s.blk.cpu x).pc + BitVec.ofNat 32
      (4 * (HepCore.loopWords f))) ∧ Tab.get 0 (b.cpu x).le k =
      (match f with | .imm e _ => (s.blk.cpu x).pc + BitVec.ofNat 32 (4 * e.toNat) | .reg e _ => (s.blk.cpu x).pc + BitVec.ofNat 32 (4 * e.toNat) | .long e _ => (s.blk.cpu x).pc + BitVec.ofNat 32 (4 * e.toNat) : Word)
      ∧ Tab.get 0 (b.cpu x).lc k =
      (match f with | .imm _ n => BitVec.ofNat 32 n.toNat | .reg _ r => (s.blk.cpu x).getD r | .long _ n => n : Word)
      ∧ srBits [(7, true)] (s.blk.cpu x).sr (b.cpu x).sr = true ∧ (∀ j ∈ List.range 4, j ≠ k.val → Tab.get 0 (b.cpu
      x).lc j = Tab.get 0 (s.blk.cpu x).lc j) ∧ s.blk.CoreBeside x [.ls k, .le k, .sr] [] [] b) ∧
  (∀ (s : State) (x : Exe) (k : Fin 4) (f : LoopForm) (w : Word), s.blk.Ready → s.blk.fetches x (HepCore.loopWords
      f) = true → (s.blk.cpu x).rep = 0 → ((((s.blk.cpu x).pc + BitVec.ofNat 32 (4 * (HepCore.loopWords f)))).toNat
      ≤ ((match f with | .imm e _ => (s.blk.cpu x).pc + BitVec.ofNat 32 (4 * e.toNat) | .reg e _ => (s.blk.cpu x).pc + BitVec.ofNat 32 (4 * e.toNat) | .long e _ => (s.blk.cpu x).pc + BitVec.ofNat 32 (4 * e.toNat) : Word)).toNat)
      → ((match f with | .imm _ n => BitVec.ofNat 32 n.toNat | .reg _ r => (s.blk.cpu x).getD r | .long _ n => n : Word)
      = 0) → ((match spot (Block.hcOf x) ((match f with | .imm e _ => (s.blk.cpu x).pc + BitVec.ofNat 32 (4 * e.toNat) | .reg e _ => (s.blk.cpu x).pc + BitVec.ofNat 32 (4 * e.toNat) | .long e _ => (s.blk.cpu x).pc + BitVec.ofNat 32 (4 * e.toNat) : Word)).toNat with | .ram g dom => s.blk.pg dom && BitVec.ofNat 32 (ofLe (s.blk.readMem g 4)) == w | _ => false)
      = true) → Completes (.loop x k f) s fun b => (b.cpu x).pc =
      (match f with | .imm e _ => (s.blk.cpu x).pc + BitVec.ofNat 32 (4 * e.toNat) | .reg e _ => (s.blk.cpu x).pc + BitVec.ofNat 32 (4 * e.toNat) | .long e _ => (s.blk.cpu x).pc + BitVec.ofNat 32 (4 * e.toNat) : Word)
      + (if w.toNat / 2 ^ 26 = 0x3F then 8 else 4) ∧ (b.cpu x).rep = 0 ∧ Tab.get 0 (b.cpu x).ls k = ((s.blk.cpu
      x).pc + BitVec.ofNat 32 (4 * (HepCore.loopWords f))) ∧ Tab.get 0 (b.cpu x).le k =
      (match f with | .imm e _ => (s.blk.cpu x).pc + BitVec.ofNat 32 (4 * e.toNat) | .reg e _ => (s.blk.cpu x).pc + BitVec.ofNat 32 (4 * e.toNat) | .long e _ => (s.blk.cpu x).pc + BitVec.ofNat 32 (4 * e.toNat) : Word)
      ∧ Tab.get 0 (b.cpu x).lc k =
      (match f with | .imm _ n => BitVec.ofNat 32 n.toNat | .reg _ r => (s.blk.cpu x).getD r | .long _ n => n : Word)
      ∧ srBits [(7, true)] (s.blk.cpu x).sr (b.cpu x).sr = true ∧ (∀ j ∈ List.range 4, j ≠ k.val → Tab.get 0 (b.cpu
      x).lc j = Tab.get 0 (s.blk.cpu x).lc j) ∧ s.blk.CoreBeside x [.ls k, .le k, .sr] [R.HEP_STAT.at 0,
      R.HEP_STAT.at 1, R.HEP_STAT.at (Block.hcOf x)] [] b) ∧
  (∀ (s : State) (x : Exe) (f : RepForm), s.blk.Ready → s.blk.fetches x 1 = true → (s.blk.cpu x).rep = 0 → (∀ j ∈
      List.range 4, Tab.get 0 (s.blk.cpu x).le j = (s.blk.cpu x).pc → Tab.get 0 (s.blk.cpu x).lc j = 0) →
      ((match spot (Block.hcOf x) ((s.blk.cpu x).pc + 4).toNat with | .ram g dom => s.blk.pg dom && !(Block.noRepeat (BitVec.ofNat 32 (ofLe (s.blk.readMem g 4)))) | _ => false)
      = true) → ((match f with | .imm n => n.val + 1 | .reg r => min 64 (((s.blk.cpu x).getD r).toNat % 128) : Nat)
      ≠ 0) → Completes (.rep x f) s fun b => (b.cpu x).rep =
      (match f with | .imm n => n.val + 1 | .reg r => min 64 (((s.blk.cpu x).getD r).toNat % 128) : Nat) ∧ (b.cpu
      x).pc = (s.blk.cpu x).pc + 4 ∧ (b.cpu x).lc = (s.blk.cpu x).lc ∧ s.blk.CoreBeside x [] [] [] b) ∧
  (∀ (s : State) (x : Exe), s.blk.Ready → s.blk.fetches x 1 = true → True → Completes (.nopInstruction x) s fun b =>
      s.blk.Past x 1 [] b) ∧
  (∀ (s : State) (x : Exe), s.blk.Ready → s.blk.fetches x 1 = true → True → Completes (.sync x) s fun b =>
      s.blk.Past x 1 [] b) ∧
  (∀ (s : State) (x : Exe), s.blk.Ready → s.blk.fetches x 1 = true → True → (s.blk.cpu x).priv = true → s.blk.quiet
      x 1 = true → Completes (.wait x) s fun b => b.coreState (Block.hcOf x) = (if (∃ l ∈ List.range 16,
      s.blk.linePending (Block.hcOf x) l = true ∧ (s.blk.cpu x).ien.getLsbD l = true ∧ l < min 16 (bits (s.blk.cpu
      x).sr.toNat 6 2)) then 2 else 3) ∧ (b.cpu x).pc = (Block.afterInstr (s.blk.cpu x).pc 1 (s.blk.cpu x)).1 ∧
      (b.cpu x).lc = (Block.afterInstr (s.blk.cpu x).pc 1 (s.blk.cpu x)).2.lc ∧ (b.cpu x).rep = 0 ∧ s.blk.CoreBeside
      x [] [R.HEP_STAT.at 0, R.HEP_STAT.at 1, R.HEP_STAT.at (Block.hcOf x)] [] b) ∧
  (∀ (s : State) (c : Fin 15), s.blk.Ready → Completes (.timerCompare c) s fun b => b = s.blk) ∧
  (∀ (s : State) (c : Fin 15), s.blk.catchm.due = [] → s.blk.pw.gaugeOff = false → s.blk.getF F.GAUGE_STAT_STATE 0 =
      1 → s.blk.coreState (Block.hcOf { core := c }) = 3 → (s.blk.hc (Block.hcOf { core := c })).sr.getLsbD 1 =
      false → s.blk.lineReady (Block.hcOf { core := c }) ≠ none → Completes (.timerCompare c) s fun b => b.coreState
      (Block.hcOf { core := c }) = 2)

/-- Traps, interrupts, illegal, unprivileged, misaligned and denied forms and zero divisors enter their vectors;
RETE returns (from R480, R482 to R487 and R490). Rests on R480, R482, R483, R484, R487, R490; the clauses state the
parts of these rules that they write out. Choices of the model in it: log 108, 112. -/
def Obligations.HeperExceptions : Prop :=
  (∀ (s : State) (x : Exe) (n : Fin 32), s.blk.Ready → s.blk.fetches x 1 = true → (s.blk.cpu x).rep = 0 →
      s.blk.entryOk x 7 = true → Completes (.trap x n) s fun b => Block.Entered x 7 (Block.afterInstr (s.blk.cpu
      x).pc 1 (s.blk.cpu x)).1 (BitVec.ofNat 32 (0x300007 + n.val * 256)) 0 (s.blk.frameAt x) (s.blk.cpu x) b ∧
      s.blk.CoreBeside x [.psp, .sr, .cause, .far] [R.HEP_STAT.at 0, R.HEP_STAT.at 1, R.HEP_STAT.at (Block.hcOf x)]
      [.mem, .ecc] b ∧ s.blk.MemBut (s.blk.frameAt x) 16 b ∧ (b.cpu x).lc = (Block.afterInstr (s.blk.cpu x).pc 1
      (s.blk.cpu x)).2.lc) ∧
  (∀ (s : State) (x : Exe), s.blk.Ready → s.blk.fetches x 1 = true → (s.blk.cpu x).rep = 0 → s.blk.entryOk x 8 =
      true → Completes (.brk x) s fun b => Block.Entered x 8 (Block.afterInstr (s.blk.cpu x).pc 1 (s.blk.cpu x)).1
      0x300008 0 (s.blk.frameAt x) (s.blk.cpu x) b ∧ s.blk.CoreBeside x [.psp, .sr, .cause, .far] [R.HEP_STAT.at 0,
      R.HEP_STAT.at 1, R.HEP_STAT.at (Block.hcOf x)] [.mem, .ecc] b ∧ s.blk.MemBut (s.blk.frameAt x) 16 b ∧ (b.cpu
      x).lc = (Block.afterInstr (s.blk.cpu x).pc 1 (s.blk.cpu x)).2.lc) ∧
  (∀ (s : State) (x : Exe) (rd : Fin 16) (rs : Fin 16) (rt : Fin 16), s.blk.Ready → s.blk.fetches x 1 = true →
      (s.blk.cpu x).rep = 0 → (s.blk.cpu x).getD rt = 0 → (s.blk.cpu x).divcfg.getLsbD 0 = true → s.blk.entryOk x 6
      = true → Completes (.divu x rd rs rt) s fun b => (b.cpu x).pc = (s.blk.cpu x).vbar + 96 ∧ (b.cpu x).cause =
      0x300006 ∧ (b.cpu x).sr.getLsbD 13 = true ∧ (b.cpu x).getD rd = 0xFFFFFFFF ∧ b.readMem (s.blk.frameAt x) 4 =
      leBytes 4 (Block.afterInstr (s.blk.cpu x).pc 1 (s.blk.cpu x)).1.toNat ∧ (b.cpu x).psp = (s.blk.cpu x).psp - 16
      ∧ s.blk.MemBut (s.blk.frameAt x) 16 b ∧ s.blk.CoreBeside x [.d rd, .psp, .sr, .cause, .far] [R.HEP_STAT.at 0,
      R.HEP_STAT.at 1, R.HEP_STAT.at (Block.hcOf x)] [.mem, .ecc] b) ∧
  (∀ (s : State) (x : Exe) (rd : Fin 16) (rs : Fin 16) (rt : Fin 16), s.blk.Ready → s.blk.fetches x 1 = true →
      (s.blk.cpu x).rep = 0 → (s.blk.cpu x).getD rt = 0 → (s.blk.cpu x).divcfg.getLsbD 0 = true → s.blk.entryOk x 6
      = true → Completes (.divs x rd rs rt) s fun b => (b.cpu x).pc = (s.blk.cpu x).vbar + 96 ∧ (b.cpu x).cause =
      0x300006 ∧ (b.cpu x).sr.getLsbD 13 = true ∧ (b.cpu x).getD rd = (if ((s.blk.cpu x).getD rs).toInt < 0 then
      0x80000000 else 0x7FFFFFFF) ∧ b.readMem (s.blk.frameAt x) 4 = leBytes 4 (Block.afterInstr (s.blk.cpu x).pc 1
      (s.blk.cpu x)).1.toNat ∧ (b.cpu x).psp = (s.blk.cpu x).psp - 16 ∧ s.blk.MemBut (s.blk.frameAt x) 16 b ∧
      s.blk.CoreBeside x [.d rd, .psp, .sr, .cause, .far] [R.HEP_STAT.at 0, R.HEP_STAT.at 1, R.HEP_STAT.at
      (Block.hcOf x)] [.mem, .ecc] b) ∧
  (∀ (s : State) (x : Exe) (rd : Fin 16) (rs : Fin 16) (rt : Fin 16), s.blk.Ready → s.blk.fetches x 1 = true →
      (s.blk.cpu x).rep = 0 → (s.blk.cpu x).getD rt = 0 → (s.blk.cpu x).divcfg.getLsbD 0 = true → s.blk.entryOk x 6
      = true → Completes (.remu x rd rs rt) s fun b => (b.cpu x).pc = (s.blk.cpu x).vbar + 96 ∧ (b.cpu x).cause =
      0x300006 ∧ (b.cpu x).sr.getLsbD 13 = true ∧ (b.cpu x).getD rd = (s.blk.cpu x).getD rs ∧ b.readMem
      (s.blk.frameAt x) 4 = leBytes 4 (Block.afterInstr (s.blk.cpu x).pc 1 (s.blk.cpu x)).1.toNat ∧ (b.cpu x).psp =
      (s.blk.cpu x).psp - 16 ∧ s.blk.MemBut (s.blk.frameAt x) 16 b ∧ s.blk.CoreBeside x [.d rd, .psp, .sr, .cause,
      .far] [R.HEP_STAT.at 0, R.HEP_STAT.at 1, R.HEP_STAT.at (Block.hcOf x)] [.mem, .ecc] b) ∧
  (∀ (s : State) (x : Exe) (rd : Fin 16) (rs : Fin 16) (rt : Fin 16), s.blk.Ready → s.blk.fetches x 1 = true →
      (s.blk.cpu x).rep = 0 → (s.blk.cpu x).getD rt = 0 → (s.blk.cpu x).divcfg.getLsbD 0 = true → s.blk.entryOk x 6
      = true → Completes (.rems x rd rs rt) s fun b => (b.cpu x).pc = (s.blk.cpu x).vbar + 96 ∧ (b.cpu x).cause =
      0x300006 ∧ (b.cpu x).sr.getLsbD 13 = true ∧ (b.cpu x).getD rd = (s.blk.cpu x).getD rs ∧ b.readMem
      (s.blk.frameAt x) 4 = leBytes 4 (Block.afterInstr (s.blk.cpu x).pc 1 (s.blk.cpu x)).1.toNat ∧ (b.cpu x).psp =
      (s.blk.cpu x).psp - 16 ∧ s.blk.MemBut (s.blk.frameAt x) 16 b ∧ s.blk.CoreBeside x [.d rd, .psp, .sr, .cause,
      .far] [R.HEP_STAT.at 0, R.HEP_STAT.at 1, R.HEP_STAT.at (Block.hcOf x)] [.mem, .ecc] b) ∧
  (∀ (s : State) (x : Exe) (rd : Fin 16) (cr : Byte) (st : Bool), s.blk.Ready → s.blk.fetches x 1 = true →
      (s.blk.cpu x).rep = 0 → ((0x10 < cr.toNat ∧ cr.toNat < 0x20) ∨ (0x43 < cr.toNat ∧ cr.toNat < 0x50) ∨ 0x5F <
      cr.toNat) → s.blk.entryOk x 1 = true → Completes (.mfc x rd cr st) s fun b => Block.Entered x 1 (s.blk.cpu
      x).pc 0x300001 0 (s.blk.frameAt x) (s.blk.cpu x) b ∧ s.blk.CoreBeside x [.psp, .sr, .cause, .far]
      [R.HEP_STAT.at 0, R.HEP_STAT.at 1, R.HEP_STAT.at (Block.hcOf x)] [.mem, .ecc] b ∧ s.blk.MemBut (s.blk.frameAt
      x) 16 b ∧ (b.cpu x).lc = (s.blk.cpu x).lc) ∧
  (∀ (s : State) (x : Exe) (rd : Fin 16) (rs : Fin 16), s.blk.Ready → x.bad = true → s.blk.fetches
      { x with bad := false } 1 = true → (s.blk.cpu x).rep = 0 → s.blk.entryOk x 1 = true → Completes (.mov x rd rs)
      s fun b => Block.Entered x 1 (s.blk.cpu x).pc 0x300001 0 (s.blk.frameAt x) (s.blk.cpu x) b ∧ s.blk.CoreBeside
      x [.psp, .sr, .cause, .far] [R.HEP_STAT.at 0, R.HEP_STAT.at 1, R.HEP_STAT.at (Block.hcOf x)] [.mem, .ecc] b ∧
      s.blk.MemBut (s.blk.frameAt x) 16 b ∧ (b.cpu x).lc = (s.blk.cpu x).lc) ∧
  (∀ (s : State) (x : Exe) (rd : Fin 16) (cr : Byte) (st : Bool), s.blk.Ready → s.blk.fetches x 1 = true →
      (s.blk.cpu x).rep = 0 → (cr.toNat ≤ 0x10 ∨ (0x20 ≤ cr.toNat ∧ cr.toNat ≤ 0x43) ∨ (0x50 ≤ cr.toNat ∧ cr.toNat ≤
      0x5F)) → (s.blk.cpu x).priv = false → cr ≠ 0 ∧ cr ≠ 0x0B ∧ cr ≠ 0x0C ∧ cr ≠ 0x0D → s.blk.entryOk x 2 = true →
      Completes (.mfc x rd cr st) s fun b => Block.Entered x 2 (s.blk.cpu x).pc 0x300002 0 (s.blk.frameAt x)
      (s.blk.cpu x) b ∧ s.blk.CoreBeside x [.psp, .sr, .cause, .far] [R.HEP_STAT.at 0, R.HEP_STAT.at 1,
      R.HEP_STAT.at (Block.hcOf x)] [.mem, .ecc] b ∧ s.blk.MemBut (s.blk.frameAt x) 16 b ∧ (b.cpu x).lc = (s.blk.cpu
      x).lc) ∧
  (∀ (s : State) (x : Exe) (cr : Byte) (rs : Fin 16), s.blk.Ready → s.blk.fetches x 1 = true → (s.blk.cpu x).rep = 0
      → (cr.toNat ≤ 0x10 ∨ (0x20 ≤ cr.toNat ∧ cr.toNat ≤ 0x3F) ∨ cr = 0x43) → cr ≠ 0 → (s.blk.cpu x).priv = false →
      s.blk.entryOk x 2 = true → Completes (.mtc x cr rs) s fun b => Block.Entered x 2 (s.blk.cpu x).pc 0x300002 0
      (s.blk.frameAt x) (s.blk.cpu x) b ∧ s.blk.CoreBeside x [.psp, .sr, .cause, .far] [R.HEP_STAT.at 0,
      R.HEP_STAT.at 1, R.HEP_STAT.at (Block.hcOf x)] [.mem, .ecc] b ∧ s.blk.MemBut (s.blk.frameAt x) 16 b ∧ (b.cpu
      x).lc = (s.blk.cpu x).lc) ∧
  (∀ (s : State) (x : Exe), s.blk.Ready → s.blk.fetches x 1 = true → (s.blk.cpu x).rep = 0 → (s.blk.cpu x).priv =
      false → s.blk.entryOk x 2 = true → Completes (.rete x) s fun b => Block.Entered x 2 (s.blk.cpu x).pc 0x300002
      0 (s.blk.frameAt x) (s.blk.cpu x) b ∧ s.blk.CoreBeside x [.psp, .sr, .cause, .far] [R.HEP_STAT.at 0,
      R.HEP_STAT.at 1, R.HEP_STAT.at (Block.hcOf x)] [.mem, .ecc] b ∧ s.blk.MemBut (s.blk.frameAt x) 16 b ∧ (b.cpu
      x).lc = (s.blk.cpu x).lc) ∧
  (∀ (s : State) (x : Exe), s.blk.Ready → s.blk.fetches x 1 = true → (s.blk.cpu x).rep = 0 → (s.blk.cpu x).priv =
      false → s.blk.entryOk x 2 = true → Completes (.wait x) s fun b => Block.Entered x 2 (s.blk.cpu x).pc 0x300002
      0 (s.blk.frameAt x) (s.blk.cpu x) b ∧ s.blk.CoreBeside x [.psp, .sr, .cause, .far] [R.HEP_STAT.at 0,
      R.HEP_STAT.at 1, R.HEP_STAT.at (Block.hcOf x)] [.mem, .ecc] b ∧ s.blk.MemBut (s.blk.frameAt x) 16 b ∧ (b.cpu
      x).lc = (s.blk.cpu x).lc) ∧
  (∀ (s : State) (x : Exe) (k : Fin 16) (rs : Fin 16), s.blk.Ready → s.blk.fetches x 1 = true → (s.blk.cpu x).rep =
      0 → (s.blk.cpu x).cxlock = true → s.blk.entryOk x 1 = true → Completes (.cxdefWrite x k rs) s fun b =>
      Block.Entered x 1 (s.blk.cpu x).pc 0x300001 0 (s.blk.frameAt x) (s.blk.cpu x) b ∧ s.blk.CoreBeside x [.psp,
      .sr, .cause, .far] [R.HEP_STAT.at 0, R.HEP_STAT.at 1, R.HEP_STAT.at (Block.hcOf x)] [.mem, .ecc] b ∧
      s.blk.MemBut (s.blk.frameAt x) 16 b ∧ (b.cpu x).lc = (s.blk.cpu x).lc) ∧
  (∀ (s : State) (x : Exe) (rs : Fin 16), s.blk.Ready → s.blk.fetches x 1 = true → (s.blk.cpu x).rep = 0 →
      (s.blk.cpu x).cxlock = true → s.blk.entryOk x 1 = true → Completes (.ucdatahWrite x rs) s fun b =>
      Block.Entered x 1 (s.blk.cpu x).pc 0x300001 0 (s.blk.frameAt x) (s.blk.cpu x) b ∧ s.blk.CoreBeside x [.psp,
      .sr, .cause, .far] [R.HEP_STAT.at 0, R.HEP_STAT.at 1, R.HEP_STAT.at (Block.hcOf x)] [.mem, .ecc] b ∧
      s.blk.MemBut (s.blk.frameAt x) 16 b ∧ (b.cpu x).lc = (s.blk.cpu x).lc) ∧
  (∀ (s : State) (x : Exe) (k : Fin 4) (f : LoopForm), s.blk.Ready → s.blk.fetches x (HepCore.loopWords f) = true →
      (s.blk.cpu x).rep = 0 →
      (((match f with | .imm e _ => (s.blk.cpu x).pc + BitVec.ofNat 32 (4 * e.toNat) | .reg e _ => (s.blk.cpu x).pc + BitVec.ofNat 32 (4 * e.toNat) | .long e _ => (s.blk.cpu x).pc + BitVec.ofNat 32 (4 * e.toNat) : Word)).toNat
      < (((s.blk.cpu x).pc + BitVec.ofNat 32 (4 * (HepCore.loopWords f)))).toNat) → s.blk.entryOk x 1 = true →
      Completes (.loop x k f) s fun b => Block.Entered x 1 (s.blk.cpu x).pc 0x300001 0 (s.blk.frameAt x) (s.blk.cpu
      x) b ∧ s.blk.CoreBeside x [.psp, .sr, .cause, .far] [R.HEP_STAT.at 0, R.HEP_STAT.at 1, R.HEP_STAT.at
      (Block.hcOf x)] [.mem, .ecc] b ∧ s.blk.MemBut (s.blk.frameAt x) 16 b ∧ (b.cpu x).lc = (s.blk.cpu x).lc) ∧
  (∀ (s : State) (x : Exe) (size : Fin 3) (rd : Fin 16) (ab : Fin 16) (e : Ea), s.blk.Ready → s.blk.fetches x
      e.words = true → (s.blk.cpu x).rep = 0 → ((s.blk.cpu x).ea ab size e).toNat % 2 ^ size.val ≠ 0 → s.blk.entryOk
      x 5 = true → Completes (.ld x size rd ab e) s fun b => Block.Entered x 5 (s.blk.cpu x).pc 0x100005 ((s.blk.cpu
      x).ea ab size e) (s.blk.frameAt x) (s.blk.cpu x) b ∧ s.blk.CoreBeside x [.psp, .sr, .cause, .far]
      [R.HEP_STAT.at 0, R.HEP_STAT.at 1, R.HEP_STAT.at (Block.hcOf x)] [.mem, .ecc] b ∧ s.blk.MemBut (s.blk.frameAt
      x) 16 b ∧ (b.cpu x).lc = (s.blk.cpu x).lc) ∧
  (∀ (s : State) (x : Exe) (size : Fin 3) (rd : Fin 16) (ab : Fin 16) (e : Ea), s.blk.Ready → s.blk.fetches x
      e.words = true → (s.blk.cpu x).rep = 0 → ((s.blk.cpu x).ea ab size e).toNat % 2 ^ size.val ≠ 0 → s.blk.entryOk
      x 5 = true → Completes (.st x size rd ab e) s fun b => Block.Entered x 5 (s.blk.cpu x).pc 0x200005 ((s.blk.cpu
      x).ea ab size e) (s.blk.frameAt x) (s.blk.cpu x) b ∧ s.blk.CoreBeside x [.psp, .sr, .cause, .far]
      [R.HEP_STAT.at 0, R.HEP_STAT.at 1, R.HEP_STAT.at (Block.hcOf x)] [.mem, .ecc] b ∧ s.blk.MemBut (s.blk.frameAt
      x) 16 b ∧ (b.cpu x).lc = (s.blk.cpu x).lc) ∧
  (∀ (s : State) (x : Exe) (size : Fin 3) (rd : Fin 16) (ab : Fin 16) (e : Ea) (r : Nat) (no : Bool), s.blk.Ready →
      s.blk.fetches x e.words = true → (s.blk.cpu x).rep = 0 → ((s.blk.cpu x).ea ab size e).toNat % 2 ^ size.val = 0
      → mpuDenied (s.blk.cpu x) (s.blk.cpu x).priv 2 ((s.blk.cpu x).ea ab size e).toNat = some (r, no) → r < 16 →
      s.blk.entryOk x 3 = true → Completes (.st x size rd ab e) s fun b => Block.Entered x 3 (s.blk.cpu x).pc
      (BitVec.ofNat 32 (0x200003 + r * 2 ^ 22 + b2n no * 2 ^ 26)) ((s.blk.cpu x).ea ab size e) (s.blk.frameAt x)
      (s.blk.cpu x) b ∧ s.blk.CoreBeside x [.psp, .sr, .cause, .far] [R.HEP_STAT.at 0, R.HEP_STAT.at 1,
      R.HEP_STAT.at (Block.hcOf x)] [.mem, .ecc] b ∧ s.blk.MemBut (s.blk.frameAt x) 16 b ∧ (b.cpu x).lc = (s.blk.cpu
      x).lc) ∧
  (∀ (s : State) (c : Fin 15) (x : Exe) (l : Fin 16), s.blk.Ready → x = { core := c } → s.blk.coreReady (Block.hcOf
      x) = true → (s.blk.cpu x).rep = 0 → (s.blk.cpu x).sr.getLsbD 1 = true → s.blk.lineReady (Block.hcOf x) = some
      l.val → s.blk.entryOk x (16 + l.val) = true → Completes (.interruptTaken c) s fun b => Block.Entered x (16 +
      l.val) (s.blk.cpu x).pc (BitVec.ofNat 32 (0x300010 + l.val)) 0 (s.blk.frameAt x) (s.blk.cpu x) b ∧
      s.blk.CoreBeside x [.psp, .sr, .cause, .far] [R.HEP_STAT.at 0, R.HEP_STAT.at 1, R.HEP_STAT.at (Block.hcOf x)]
      [.mem, .ecc] b ∧ s.blk.MemBut (s.blk.frameAt x) 16 b ∧ (b.cpu x).lc = (s.blk.cpu x).lc) ∧
  (∀ (s : State) (x : Exe) (g : Nat), s.blk.Ready → s.blk.fetches x 1 = true → (s.blk.cpu x).rep = 0 → (s.blk.cpu
      x).priv = true → s.blk.reaches x 1 2 (s.blk.cpu x).psp g = true → s.blk.reaches x 1 2 ((s.blk.cpu x).psp + 4)
      (g + 4) = true → Completes (.rete x) s fun b => (b.cpu x).pc = BitVec.ofNat 32 (ofLe (s.blk.readMem g 4)) &&&
      0xFFFFFFFC ∧ (b.cpu x).sr = BitVec.ofNat 32 (ofLe (s.blk.readMem (g + 4) 4)) &&& 0x3FFF ∧ (b.cpu x).psp =
      (s.blk.cpu x).psp + 16 ∧ (b.cpu x).rep = 0 ∧ (b.cpu x).lc = (s.blk.cpu x).lc ∧ b.getF F.HEP_STAT_PRIV
      (Block.hcOf x) = b2n ((b.cpu x).sr.getLsbD 0) ∧ s.blk.CoreBeside x [.psp, .sr] [R.HEP_STAT.at 0, R.HEP_STAT.at
      1, R.HEP_STAT.at (Block.hcOf x)] [] b)

/-- MFC and MTC read and write the control registers of R478 to R481, R491, R493, R504 and R505. Rests on R478,
R481, R491, R493, R504, R505; the clauses state the parts of these rules that they write out. Choices of the model
in it: log 108, 110. -/
def Obligations.HeperControlRegisters : Prop :=
  (∀ (s : State) (x : Exe) (rd : Fin 16) (cr : Byte) (st : Bool), s.blk.Ready → s.blk.fetches x 1 = true →
      (s.blk.cpu x).rep ≤ 1 → (cr.toNat ≤ 0x10 ∨ (0x20 ≤ cr.toNat ∧ cr.toNat ≤ 0x43) ∨ (0x50 ≤ cr.toNat ∧ cr.toNat ≤
      0x5F)) → ((s.blk.cpu x).priv = true ∨ cr = 0 ∨ cr = 0x0B ∨ cr = 0x0D) → cr ≠ 7 ∧ cr ≠ 0x0C → s.blk.quiet x 1 =
      true → Completes (.mfc x rd cr st) s fun b => (cr = 0x0 → (b.cpu x).getD rd = (s.blk.cpu x).sr) ∧ (cr = 0x1 →
      (b.cpu x).getD rd = (s.blk.cpu x).vbar) ∧ (cr = 0x2 → (b.cpu x).getD rd = (s.blk.cpu x).usp) ∧ (cr = 0x3 →
      (b.cpu x).getD rd = (s.blk.cpu x).cause) ∧ (cr = 0x4 → (b.cpu x).getD rd = (s.blk.cpu x).far) ∧ (cr = 0x5 →
      (b.cpu x).getD rd = (s.blk.cpu x).ien) ∧ (cr = 0x8 → (b.cpu x).getD rd = 0) ∧ (cr = 0x9 → (b.cpu x).getD rd =
      (s.blk.cpu x).csigin) ∧ (cr = 0xa → (b.cpu x).getD rd = (s.blk.cpu x).divcfg) ∧ (cr = 0xb → (b.cpu x).getD rd
      = BitVec.ofNat 32 (Block.hcOf x)) ∧ (cr = 0xd → (b.cpu x).getD rd = (s.blk.cpu x).timeh) ∧ (cr = 0xe → (b.cpu
      x).getD rd = (s.blk.cpu x).tcmpl) ∧ (cr = 0xf → (b.cpu x).getD rd = (s.blk.cpu x).tcmph) ∧ (cr = 0x10 → (b.cpu
      x).getD rd = (s.blk.cpu x).mpuctl) ∧ (cr = 0x40 → (b.cpu x).getD rd = BitVec.ofNat 32 (s.blk.cpu x).ucaddr) ∧
      (cr = 0x41 → (b.cpu x).getD rd = (s.blk.cpu x).ucdl) ∧ (cr = 0x42 → (b.cpu x).getD rd = (s.blk.cpu x).ucdh) ∧
      (cr = 0x43 → (b.cpu x).getD rd = BitVec.ofNat 32 (b2n (s.blk.cpu x).cxlock)) ∧ (cr = 6 → ∀ l ∈ List.range 32,
      ((b.cpu x).getD rd).getLsbD l = (decide (l < 16) && s.blk.linePending (Block.hcOf x) l)) ∧ (0x20 ≤ cr.toNat →
      cr.toNat < 0x40 → (b.cpu x).getD rd = Tab.get 0 (if cr.toNat % 2 = 0 then (s.blk.cpu x).mpubase else
      (s.blk.cpu x).mpulim) ((cr.toNat - 0x20) / 2)) ∧ (0x50 ≤ cr.toNat → (b.cpu x).getD rd = Tab.get 0 (s.blk.cpu
      x).cxdef (cr.toNat - 0x50)) ∧ s.blk.Past x 1 [.d rd] b) ∧
  (∀ (s : State) (x : Exe) (cr : Byte) (rs : Fin 16), s.blk.Ready → s.blk.fetches x 1 = true → (s.blk.cpu x).rep ≤ 1
      → (s.blk.cpu x).priv = true → cr.toNat ≤ 0x41 → ((0x10 < cr.toNat → 0x20 ≤ cr.toNat)) → (s.blk.cpu x).cxlock =
      false → cr ≠ 8 → Completes (.mtc x cr rs) s fun b => (cr = 0x0 → srBits ((List.range 13).map fun i => (i + 1,
      ((s.blk.cpu x).getD rs).getLsbD (i + 1))) (s.blk.cpu x).sr (b.cpu x).sr = true ∧ s.blk.Past x 1 [.sr] b) ∧ (cr
      = 0x1 → (b.cpu x).vbar = (s.blk.cpu x).getD rs &&& 0xFFFFFC00 ∧ s.blk.Past x 1 [.vbar] b) ∧ (cr = 0x2 → (b.cpu
      x).usp = (s.blk.cpu x).getD rs ∧ s.blk.Past x 1 [.usp] b) ∧ (cr = 0x3 → s.blk.Past x 1 [] b) ∧ (cr = 0x4 →
      s.blk.Past x 1 [] b) ∧ (cr = 0x5 → (b.cpu x).ien = (s.blk.cpu x).getD rs &&& 0xFFFF ∧ s.blk.Past x 1 [.ien] b)
      ∧ (cr = 0x9 → (b.cpu x).csigin = (s.blk.cpu x).csigin &&& ~~~ (s.blk.cpu x).getD rs ∧ s.blk.Past x 1 [.csigin]
      b) ∧ (cr = 0xa → (b.cpu x).divcfg = (s.blk.cpu x).getD rs &&& 1 ∧ s.blk.Past x 1 [.divcfg] b) ∧ (cr = 0xb →
      s.blk.Past x 1 [] b) ∧ (cr = 0xe → (b.cpu x).tcmpl = (s.blk.cpu x).getD rs ∧ s.blk.Past x 1 [.tcmpl] b) ∧ (cr
      = 0xf → (b.cpu x).tcmph = (s.blk.cpu x).getD rs ∧ s.blk.Past x 1 [.tcmph] b) ∧ (cr = 0x10 → (b.cpu x).mpuctl =
      (s.blk.cpu x).getD rs &&& 3 ∧ s.blk.Past x 1 [.mpuctl] b) ∧ (cr = 0x40 → (b.cpu x).ucaddr = ((s.blk.cpu
      x).getD rs).toNat % 512 ∧ s.blk.Past x 1 [.ucaddr] b) ∧ (cr = 0x41 → (b.cpu x).ucdl = (s.blk.cpu x).getD rs ∧
      s.blk.Past x 1 [.ucdl] b) ∧ (0x20 ≤ cr.toNat → cr.toNat < 0x40 → if cr.toNat % 2 = 0 then Tab.get 0 (b.cpu
      x).mpubase ((cr.toNat - 0x20) / 2) = (s.blk.cpu x).getD rs &&& 0xFFFFFFC1 ∧ s.blk.Past x 1 [.mpubase
      ((cr.toNat - 0x20) / 2)] b else Tab.get 0 (b.cpu x).mpulim ((cr.toNat - 0x20) / 2) = (s.blk.cpu x).getD rs ∧
      s.blk.Past x 1 [.mpulim ((cr.toNat - 0x20) / 2)] b)) ∧
  (∀ (s : State) (x : Exe) (rs : Fin 16), s.blk.Ready → s.blk.fetches x 1 = true → (s.blk.cpu x).rep ≤ 1 →
      (s.blk.cpu x).priv = false → Completes (.mtc x 0 rs) s fun b => srBits ((List.range 6).map fun i => (i + 8,
      ((s.blk.cpu x).getD rs).getLsbD (i + 8))) (s.blk.cpu x).sr (b.cpu x).sr = true ∧ s.blk.Past x 1 [.sr] b) ∧
  (∀ (s : State) (x : Exe) (rd : Fin 16) (l : Fin 13) (e : Byte), s.blk.Ready → s.blk.fetches x 1 = true →
      (s.blk.cpu x).rep ≤ 1 → (s.blk.cpu x).priv = true → s.blk.quiet x 1 = true → (List.range l.val).all (fun i =>
      !((fun i => s.blk.linePending (Block.hcOf x) i && (s.blk.cpu x).ien.getLsbD i) i)) = true → (s.blk.cpu
      x).ien.getLsbD l.val = true → (s.blk.cpu x).irq.contains (l.val, e.toNat) = true → (∀ p ∈ (s.blk.cpu x).irq,
      p.1 = l.val → e.toNat ≤ p.2) → Completes (.iclaimRead x rd) s fun b => (b.cpu x).getD rd = BitVec.ofNat 32
      (e.toNat + l.val * 256 + 0x8000) ∧ (b.cpu x).irq = (s.blk.cpu x).irq.filter (fun p => p ≠ (l.val, e.toNat)) ∧
      s.blk.Past x 1 [.d rd] b) ∧
  (∀ (s : State) (x : Exe) (rd : Fin 16) (l : Fin 3), s.blk.Ready → s.blk.fetches x 1 = true → (s.blk.cpu x).rep ≤ 1
      → (s.blk.cpu x).priv = true → s.blk.quiet x 1 = true → (List.range (13 + l.val)).all (fun i => !((fun i =>
      s.blk.linePending (Block.hcOf x) i && (s.blk.cpu x).ien.getLsbD i) i)) = true → (fun i => s.blk.linePending
      (Block.hcOf x) i && (s.blk.cpu x).ien.getLsbD i) (13 + l.val) = true → Completes (.iclaimRead x rd) s fun b =>
      (b.cpu x).getD rd = BitVec.ofNat 32 ((13 + l.val) * 256 + 0x8000) ∧ (b.cpu x).irq = (s.blk.cpu x).irq ∧ (b.cpu
      x).mbx = ((s.blk.cpu x).mbx && l.val ≠ 2) ∧ s.blk.Past x 1 [.d rd, .mbx] b) ∧
  (∀ (s : State) (x : Exe) (rd : Fin 16), s.blk.Ready → s.blk.fetches x 1 = true → (s.blk.cpu x).rep ≤ 1 →
      (s.blk.cpu x).priv = true → s.blk.quiet x 1 = true → (List.range 16).all (fun i => !((fun i =>
      s.blk.linePending (Block.hcOf x) i && (s.blk.cpu x).ien.getLsbD i) i)) = true → Completes (.iclaimRead x rd) s
      fun b => (b.cpu x).getD rd = 0 ∧ (b.cpu x).irq = (s.blk.cpu x).irq ∧ s.blk.Past x 1 [.d rd] b) ∧
  (∀ (s : State) (x : Exe) (rd : Fin 16) (st : Bool), s.blk.Ready → s.blk.fetches x 1 = true → (s.blk.cpu x).rep ≤ 1
      → Completes (.timelRead x rd st) s fun b => ((b.cpu x).getD rd).toNat = s.blk.pw.tbase % 2 ^ 32 ∧ (b.cpu
      x).timeh.toNat = s.blk.pw.tbase / 2 ^ 32 % 2 ^ 32 ∧ (b.cpu x).pc = (Block.afterInstr (s.blk.cpu x).pc 1
      (s.blk.cpu x)).1 ∧ s.blk.CoreBeside x [.d rd, .timeh] [R.CDC_XSTAT.at 7, R.CDC_SUM.at 0, R.CDC_SUM.at 1] [] b) ∧
  (∀ (s : State) (x : Exe) (rs : Fin 16) (t : Fin 5), s.blk.Ready → s.blk.fetches x 1 = true → (s.blk.cpu x).rep ≤ 1
      → (s.blk.cpu x).priv = true → Block.hcOf x < 6 → Completes (.csigWrite x rs) s fun b => (b.hc (if t.val = 0
      then 0 else t.val + 1)).csigin = (if ((s.blk.cpu x).getD rs).getLsbD t.val = true then (s.blk.hc (if t.val = 0
      then 0 else t.val + 1)).csigin ||| (1 : Word) <<< (if Block.hcOf x = 0 then 0 else Block.hcOf x - 1) else
      (s.blk.hc (if t.val = 0 then 0 else t.val + 1)).csigin) ∧ (b.cpu x).pc = (Block.afterInstr (s.blk.cpu x).pc 1
      (s.blk.cpu x)).1 ∧ (∀ i ∈ ([0, 2, 3, 4, 5] : List Nat), i ≠ Block.hcOf x → (b.hc i).unsignalled = (s.blk.hc
      i).unsignalled) ∧ s.blk.CoreBeside x [.csigin] [] [.core 0, .core 2, .core 3, .core 4, .core 5] b) ∧
  (∀ (s : State) (x : Exe) (rs : Fin 16), s.blk.Ready → s.blk.fetches x 1 = true → (s.blk.cpu x).rep ≤ 1 →
      (s.blk.cpu x).priv = true → 6 ≤ Block.hcOf x → Completes (.csigWrite x rs) s fun b => s.blk.Past x 1 [] b) ∧
  (∀ (s : State) (x : Exe) (up : Bool) (rs : Fin 16), s.blk.Ready → s.blk.fetches x 1 = true → (s.blk.cpu x).rep ≤ 1
      → (s.blk.cpu x).priv = true → Completes (.timerCompareWrite x up rs) s fun b => (b.cpu x).tcmpl = (if up then
      (s.blk.cpu x).tcmpl else (s.blk.cpu x).getD rs) ∧ (b.cpu x).tcmph = (if up then (s.blk.cpu x).getD rs else
      (s.blk.cpu x).tcmph) ∧ s.blk.Past x 1 [.tcmpl, .tcmph] b ∧ (b.linePending (Block.hcOf x) 13 = true ↔ (b.cpu
      x).tcmph.toNat * 2 ^ 32 + (b.cpu x).tcmpl.toNat ≤ b.pw.tbase)) ∧
  (∀ (s : State) (x : Exe) (rs : Fin 16), s.blk.Ready → s.blk.fetches x 1 = true → (s.blk.cpu x).rep ≤ 1 →
      (s.blk.cpu x).priv = true → (s.blk.cpu x).cxlock = false → (s.blk.cpu x).ucaddr < 512 → Completes
      (.ucdatahWrite x rs) s fun b => (b.cpu x).ucdh = (s.blk.cpu x).getD rs ∧ Tab.get 0 (b.cpu x).ustore (s.blk.cpu
      x).ucaddr = (s.blk.cpu x).getD rs ++ (s.blk.cpu x).ucdl ∧ (b.cpu x).ucaddr = ((s.blk.cpu x).ucaddr + 1) % 512
      ∧ (∀ i ∈ List.range 512, i ≠ (s.blk.cpu x).ucaddr → Tab.get 0 (b.cpu x).ustore i = Tab.get 0 (s.blk.cpu
      x).ustore i) ∧ s.blk.Past x 1 [.ucdh, .store, .ucaddr] b) ∧
  (∀ (s : State) (x : Exe) (k : Fin 16) (rs : Fin 16), s.blk.Ready → s.blk.fetches x 1 = true → (s.blk.cpu x).rep ≤
      1 → (s.blk.cpu x).priv = true → (s.blk.cpu x).cxlock = false → Completes (.cxdefWrite x k rs) s fun b =>
      Tab.get 0 (b.cpu x).cxdef k = (if 512 < ((s.blk.cpu x).getD rs).toNat % 512 + ((s.blk.cpu x).getD rs).toNat /
      512 % 32 + 1 then (s.blk.cpu x).getD rs &&& 0x7FFF else (s.blk.cpu x).getD rs &&& 0xFFFF) ∧ s.blk.Past x 1
      [.cxdef k] b) ∧
  (∀ (s : State) (x : Exe) (rs : Fin 16), s.blk.Ready → s.blk.fetches x 1 = true → (s.blk.cpu x).rep ≤ 1 →
      (s.blk.cpu x).priv = true → Completes (.cxlockWrite x rs) s fun b => (b.cpu x).cxlock = ((s.blk.cpu
      x).cxlock || ((s.blk.cpu x).getD rs).getLsbD 0) ∧ s.blk.Past x 1 [.cxlock] b)

/-- A CX runs the micro-operations of its definition or takes the exception of R505 to R507, R535 to R539. Rests on
R505, R506, R535, R536, R538; the clauses state the parts of these rules that they write out. Choices of the model
in it: log 109. -/
def Obligations.HeperCustomer : Prop :=
  (∀ (s : State) (x : Exe) (k : Fin 16) (a : CxArgs) (m : Micro), s.blk.Ready → s.blk.fetches x 1 = true →
      (s.blk.cpu x).rep = 0 → (Tab.get 0 (s.blk.cpu x).cxdef k).toNat / 2 ^ 15 % 2 = 1 → ((s.blk.cpu x).priv = true
      ∨ (Tab.get 0 (s.blk.cpu x).cxdef k).toNat / 2 ^ 14 % 2 = 1) → (Tab.get 0 (s.blk.cpu x).cxdef k).toNat / 2 ^ 9
      % 32 = 0 → m = ({ w := Tab.get 0 (s.blk.cpu x).ustore ((Tab.get 0 (s.blk.cpu x).cxdef k).toNat % 512) } :
      Micro) → (([true, (s.blk.cpu x).sr.getLsbD 9, !(s.blk.cpu x).sr.getLsbD 9, (s.blk.cpu x).sr.getLsbD 8,
      !(s.blk.cpu x).sr.getLsbD 8, (s.blk.cpu x).sr.getLsbD 10, !(s.blk.cpu x).sr.getLsbD 10, (s.blk.cpu
      x).sr.getLsbD 11, !(s.blk.cpu x).sr.getLsbD 11, (s.blk.cpu x).sr.getLsbD 8 && !(s.blk.cpu x).sr.getLsbD 9,
      !(s.blk.cpu x).sr.getLsbD 8 || (s.blk.cpu x).sr.getLsbD 9, (s.blk.cpu x).sr.getLsbD 10 == (s.blk.cpu
      x).sr.getLsbD 11, (s.blk.cpu x).sr.getLsbD 10 != (s.blk.cpu x).sr.getLsbD 11, !(s.blk.cpu x).sr.getLsbD 9 &&
      (s.blk.cpu x).sr.getLsbD 10 == (s.blk.cpu x).sr.getLsbD 11, (s.blk.cpu x).sr.getLsbD 9 || (s.blk.cpu
      x).sr.getLsbD 10 != (s.blk.cpu x).sr.getLsbD 11]).getD m.cond false) = true → m.cond < 15 → m.uop ∈ [1, 2, 3,
      4, 5, 0x13] → microIllegal m = false → m.fl = false → (m.dst < 16 ∨ (0x30 ≤ m.dst ∧ m.dst < 0x33)) → Completes
      (.cx x k a none) s fun b => (b.cpu x).getD (if m.dst < 16 then m.dst else if m.dst = 0x30 then a.x.val else if
      m.dst = 0x31 then a.y.val else a.z.val) = (if m.uop = 1 then ((selGet a (s.blk.cpu x) [] m.k m.sa) + (selGet a
      (s.blk.cpu x) [] m.k m.sb)) else if m.uop = 2 then ((selGet a (s.blk.cpu x) [] m.k m.sa) - (selGet a
      (s.blk.cpu x) [] m.k m.sb)) else if m.uop = 3 then ((selGet a (s.blk.cpu x) [] m.k m.sa) &&& (selGet a
      (s.blk.cpu x) [] m.k m.sb)) else if m.uop = 4 then ((selGet a (s.blk.cpu x) [] m.k m.sa) ||| (selGet a
      (s.blk.cpu x) [] m.k m.sb)) else if m.uop = 5 then ((selGet a (s.blk.cpu x) [] m.k m.sa) ^^^ (selGet a
      (s.blk.cpu x) [] m.k m.sb)) else (selGet a (s.blk.cpu x) [] m.k m.sa)) ∧ s.blk.Past x 1 [.d (if m.dst < 16
      then m.dst else if m.dst = 0x30 then a.x.val else if m.dst = 0x31 then a.y.val else a.z.val)] b) ∧
  (∀ (s : State) (x : Exe) (k : Fin 16) (a : CxArgs) (m : Micro), s.blk.Ready → s.blk.fetches x 1 = true →
      (s.blk.cpu x).rep = 0 → (Tab.get 0 (s.blk.cpu x).cxdef k).toNat / 2 ^ 15 % 2 = 1 → ((s.blk.cpu x).priv = true
      ∨ (Tab.get 0 (s.blk.cpu x).cxdef k).toNat / 2 ^ 14 % 2 = 1) → (Tab.get 0 (s.blk.cpu x).cxdef k).toNat / 2 ^ 9
      % 32 = 0 → m = ({ w := Tab.get 0 (s.blk.cpu x).ustore ((Tab.get 0 (s.blk.cpu x).cxdef k).toNat % 512) } :
      Micro) → (([true, (s.blk.cpu x).sr.getLsbD 9, !(s.blk.cpu x).sr.getLsbD 9, (s.blk.cpu x).sr.getLsbD 8,
      !(s.blk.cpu x).sr.getLsbD 8, (s.blk.cpu x).sr.getLsbD 10, !(s.blk.cpu x).sr.getLsbD 10, (s.blk.cpu
      x).sr.getLsbD 11, !(s.blk.cpu x).sr.getLsbD 11, (s.blk.cpu x).sr.getLsbD 8 && !(s.blk.cpu x).sr.getLsbD 9,
      !(s.blk.cpu x).sr.getLsbD 8 || (s.blk.cpu x).sr.getLsbD 9, (s.blk.cpu x).sr.getLsbD 10 == (s.blk.cpu
      x).sr.getLsbD 11, (s.blk.cpu x).sr.getLsbD 10 != (s.blk.cpu x).sr.getLsbD 11, !(s.blk.cpu x).sr.getLsbD 9 &&
      (s.blk.cpu x).sr.getLsbD 10 == (s.blk.cpu x).sr.getLsbD 11, (s.blk.cpu x).sr.getLsbD 9 || (s.blk.cpu
      x).sr.getLsbD 10 != (s.blk.cpu x).sr.getLsbD 11]).getD m.cond false) = false → m.cond < 15 → Completes (.cx x
      k a none) s fun b => s.blk.Past x 1 [] b) ∧
  (∀ (s : State) (x : Exe) (k : Fin 16) (a : CxArgs) (p : Option (Fin 32)), s.blk.Ready → s.blk.fetches x 1 = true →
      (s.blk.cpu x).rep = 0 → (Tab.get 0 (s.blk.cpu x).cxdef k).toNat / 2 ^ 15 % 2 = 0 → s.blk.entryOk x 1 = true →
      Completes (.cx x k a p) s fun b => Block.Entered x 1 (s.blk.cpu x).pc 0x300001 0 (s.blk.frameAt x) (s.blk.cpu
      x) b ∧ s.blk.CoreBeside x [.psp, .sr, .cause, .far] [R.HEP_STAT.at 0, R.HEP_STAT.at 1, R.HEP_STAT.at
      (Block.hcOf x)] [.mem, .ecc] b ∧ s.blk.MemBut (s.blk.frameAt x) 16 b ∧ (b.cpu x).lc = (s.blk.cpu x).lc) ∧
  (∀ (s : State) (x : Exe) (k : Fin 16) (a : CxArgs) (p : Option (Fin 32)), s.blk.Ready → s.blk.fetches x 1 = true →
      (s.blk.cpu x).rep = 0 → (Tab.get 0 (s.blk.cpu x).cxdef k).toNat / 2 ^ 15 % 2 = 1 → (Tab.get 0 (s.blk.cpu
      x).cxdef k).toNat / 2 ^ 14 % 2 = 0 → (s.blk.cpu x).priv = false → s.blk.entryOk x 2 = true → Completes (.cx x
      k a p) s fun b => Block.Entered x 2 (s.blk.cpu x).pc 0x300002 0 (s.blk.frameAt x) (s.blk.cpu x) b ∧
      s.blk.CoreBeside x [.psp, .sr, .cause, .far] [R.HEP_STAT.at 0, R.HEP_STAT.at 1, R.HEP_STAT.at (Block.hcOf x)]
      [.mem, .ecc] b ∧ s.blk.MemBut (s.blk.frameAt x) 16 b ∧ (b.cpu x).lc = (s.blk.cpu x).lc) ∧
  (∀ (s : State) (x : Exe) (k : Fin 16) (a : CxArgs) (m : Micro), s.blk.Ready → s.blk.fetches x 1 = true →
      (s.blk.cpu x).rep = 0 → (Tab.get 0 (s.blk.cpu x).cxdef k).toNat / 2 ^ 15 % 2 = 1 → ((s.blk.cpu x).priv = true
      ∨ (Tab.get 0 (s.blk.cpu x).cxdef k).toNat / 2 ^ 14 % 2 = 1) → (Tab.get 0 (s.blk.cpu x).cxdef k).toNat / 2 ^ 9
      % 32 = 0 → m = ({ w := Tab.get 0 (s.blk.cpu x).ustore ((Tab.get 0 (s.blk.cpu x).cxdef k).toNat % 512) } :
      Micro) → m.cond < 15 → (([true, (s.blk.cpu x).sr.getLsbD 9, !(s.blk.cpu x).sr.getLsbD 9, (s.blk.cpu
      x).sr.getLsbD 8, !(s.blk.cpu x).sr.getLsbD 8, (s.blk.cpu x).sr.getLsbD 10, !(s.blk.cpu x).sr.getLsbD 10,
      (s.blk.cpu x).sr.getLsbD 11, !(s.blk.cpu x).sr.getLsbD 11, (s.blk.cpu x).sr.getLsbD 8 && !(s.blk.cpu
      x).sr.getLsbD 9, !(s.blk.cpu x).sr.getLsbD 8 || (s.blk.cpu x).sr.getLsbD 9, (s.blk.cpu x).sr.getLsbD 10 ==
      (s.blk.cpu x).sr.getLsbD 11, (s.blk.cpu x).sr.getLsbD 10 != (s.blk.cpu x).sr.getLsbD 11, !(s.blk.cpu
      x).sr.getLsbD 9 && (s.blk.cpu x).sr.getLsbD 10 == (s.blk.cpu x).sr.getLsbD 11, (s.blk.cpu x).sr.getLsbD 9 ||
      (s.blk.cpu x).sr.getLsbD 10 != (s.blk.cpu x).sr.getLsbD 11]).getD m.cond false) = true → microIllegal m = true
      → s.blk.entryOk x 1 = true → Completes (.cx x k a none) s fun b => Block.Entered x 1 (s.blk.cpu x).pc 0x300041
      0 (s.blk.frameAt x) (s.blk.cpu x) b ∧ s.blk.CoreBeside x [.psp, .sr, .cause, .far] [R.HEP_STAT.at 0,
      R.HEP_STAT.at 1, R.HEP_STAT.at (Block.hcOf x)] [.mem, .ecc] b ∧ s.blk.MemBut (s.blk.frameAt x) 16 b ∧ (b.cpu
      x).lc = (s.blk.cpu x).lc) ∧
  (∀ (s : State) (x : Exe) (k : Fin 16) (a : CxArgs) (m : Micro), s.blk.Ready → s.blk.fetches x 1 = true →
      (s.blk.cpu x).rep = 0 → (Tab.get 0 (s.blk.cpu x).cxdef k).toNat / 2 ^ 15 % 2 = 1 → ((s.blk.cpu x).priv = true
      ∨ (Tab.get 0 (s.blk.cpu x).cxdef k).toNat / 2 ^ 14 % 2 = 1) → (Tab.get 0 (s.blk.cpu x).cxdef k).toNat / 2 ^ 9
      % 32 = 0 → m = ({ w := Tab.get 0 (s.blk.cpu x).ustore ((Tab.get 0 (s.blk.cpu x).cxdef k).toNat % 512) } :
      Micro) → Block.hcOf x ≠ 0 → m.cond < 15 → microIllegal m = false → s.blk.entryOk x 9 = true → Completes (.cx x
      k a (some 0)) s fun b => b.HasEvent 249 ∧ Block.Entered x 9 (s.blk.cpu x).pc 0x300049 0 (s.blk.frameAt x)
      (s.blk.cpu x) b ∧ s.blk.CoreBeside x [.psp, .sr, .cause, .far] [R.HEP_STAT.at 0, R.HEP_STAT.at 1,
      R.HEP_STAT.at (Block.hcOf x)] [.mem, .ecc] b ∧ s.blk.MemBut (s.blk.frameAt x) 16 b ∧ (b.cpu x).lc = (s.blk.cpu
      x).lc)

/-- An instruction behind REP runs as often as its count says, and its loop end is evaluated once (from R501 and
R502). Rests on R498, R501, R531; the clauses state the parts of these rules that they write out. Choices of the
model in it: log 111. -/
def Obligations.HeperRepetition : Prop :=
  (∀ (s : State) (x : Exe) (rd : Fin 16) (i : Imm) (n : Nat), s.blk.Ready → s.blk.fetches x i.words = true →
      (s.blk.cpu x).rep = n → 0 < n → Completes (.addi x rd rd i) s fun b => (b.cpu x).getD rd = (s.blk.cpu x).getD
      rd + i.signed * BitVec.ofNat 32 n ∧ s.blk.Past x i.words [.d rd, .sr] b) ∧
  (∀ (s : State) (x : Exe) (rd : Fin 16) (i : Imm) (n : Nat), s.blk.Ready → s.blk.fetches x i.words = true →
      (s.blk.cpu x).rep = n → 0 < n → Completes (.adda x rd rd i) s fun b => (b.cpu x).getA rd = (s.blk.cpu x).getA
      rd + i.signed * BitVec.ofNat 32 n ∧ s.blk.Past x i.words [.ofA (s.blk.cpu x) rd] b) ∧
  (∀ (s : State) (x : Exe) (k : Fin 4) (rs : Fin 16) (rt : Fin 16) (n : Nat), s.blk.Ready → s.blk.fetches x 1 = true
      → (s.blk.cpu x).rep = n → 0 < n → Completes (.mac x k rs rt) s fun b => (b.cpu x).getAcc k = (s.blk.cpu
      x).getAcc k + BitVec.ofInt 72 (((s.blk.cpu x).getD rs).toInt * ((s.blk.cpu x).getD rt).toInt) * BitVec.ofNat
      72 n ∧ s.blk.Past x 1 [.acc k] b) ∧
  (∀ (s : State) (x : Exe) (rd : Fin 16) (count : Byte) (n : Nat), s.blk.Ready → s.blk.fetches x 1 = true →
      (s.blk.cpu x).rep = n → 0 < n → Completes (.shi x rd rd 0 count) s fun b => (b.cpu x).getD rd = (if 32 ≤ n *
      count.toNat then 0 else (s.blk.cpu x).getD rd <<< (n * count.toNat)) ∧ s.blk.Past x 1 [.d rd, .sr] b)

/-- The cipher descriptors encrypt, decrypt, authenticate, hash, sign, verify and read random bytes (from R550 to
R554 and R563 to R565). Rests on R541, R545, R547, R549, R550, R551, R552, R553, R563, R564, R565; the clauses state
the parts of these rules that they write out. Choices of the model in it: log 40, 41, 42, 43, 117. -/
def Obligations.CipherDescriptors : Prop :=
  (∀ (s : State) (d : Desc) (t : KeyTag), s.blk.Ready → s.blk.Executes d → s.blk.Single d → d.opcode = 0x90 → aesOk
      0x90 d = true → s.blk.ciphOn = true → d.keyTag = some t → s.blk.cached t = true → 1 ≤ d.root → bit (s.blk.getF
      F.KEY_CFG_HOSTRK 0) (d.root - 1) = true → s.blk.rootValid d.root = true → s.blk.ciph.queue = [] → s.blk.getF
      F.CIPH_STAT_JOBS 0 < 16 → Tab.get 0 s.blk.ciph.test 1 = 1 → Tab.get 0 s.blk.ciph.test 2 = 1 → s.blk.jobFault 0
      (requester d) = false → Completes (.aesEnc d false) s fun b => (b.answered d (fun x => x == Block.aesEncrypt d
      (keyOf t)) = true ∧ b.ciph.cache.head? = some t ∧ b.getF F.CIPH_CNT_JOBCNT 0 = (s.blk.getF F.CIPH_CNT_JOBCNT 0
      + 1) % 65536) ∧ s.blk.Beside (offsOf (Regs.cipher ++ Regs.answers ++ [R.CIPH_LOAD])) Part.answers b) ∧
  (∀ (s : State) (d : Desc) (t : KeyTag), s.blk.Ready → s.blk.Executes d → s.blk.Single d → d.opcode = 0x91 → aesOk
      0x91 d = true → s.blk.ciphOn = true → d.keyTag = some t → s.blk.cached t = true → 1 ≤ d.root → bit (s.blk.getF
      F.KEY_CFG_HOSTRK 0) (d.root - 1) = true → s.blk.rootValid d.root = true → s.blk.ciph.queue = [] → s.blk.getF
      F.CIPH_STAT_JOBS 0 < 16 → Tab.get 0 s.blk.ciph.test 1 = 1 → Tab.get 0 s.blk.ciph.test 2 = 1 → s.blk.jobFault 0
      (requester d) = false → s.blk.flag F.CIPH_STAT_AUTHF 0 = false → Completes (.aesDec d false) s fun b =>
      (b.answered d (fun x => x ==
      { Block.outCompl d (Block.aesDecrypt d (keyOf t)).1 with status := if (Block.aesDecrypt d (keyOf t)).2 then St.ok else St.authFail })
      = true ∧ ((Block.aesDecrypt d (keyOf t)).2 = false → b.getF F.CIPH_STAT_AUTHF 0 = 1 ∧ b.HasEvent 236)) ∧
      s.blk.Beside (offsOf (Regs.cipher ++ Regs.answers ++ [R.CIPH_LOAD])) Part.answers b) ∧
  (∀ (s : State) (d : Desc) (t : KeyTag), s.blk.Ready → s.blk.Executes d → s.blk.Single d → d.opcode = 0x92 → cmacOk
      d = true → s.blk.ciphOn = true → d.keyTag = some t → s.blk.cached t = true → 1 ≤ d.root → bit (s.blk.getF
      F.KEY_CFG_HOSTRK 0) (d.root - 1) = true → s.blk.rootValid d.root = true → s.blk.ciph.queue = [] → s.blk.getF
      F.CIPH_STAT_JOBS 0 < 16 → Tab.get 0 s.blk.ciph.test 1 = 1 → Tab.get 0 s.blk.ciph.test 2 = 1 → s.blk.jobFault 0
      (requester d) = false → bit (d.dw 5) 24 = false → Completes (.aesCmac d false) s fun b => (b.answered d (fun x
      => x == Block.outCompl d ((cmac (keyOf t) (d.part (up4 d.lblLen) (d.len - up4 d.lblLen))).take d.tagLen)) =
      true) ∧ s.blk.Beside (offsOf (Regs.cipher ++ Regs.answers ++ [R.CIPH_LOAD])) Part.answers b) ∧
  (∀ (s : State) (d : Desc) (t : KeyTag), s.blk.Ready → s.blk.Executes d → s.blk.Single d → d.opcode = 0x92 → cmacOk
      d = true → s.blk.ciphOn = true → d.keyTag = some t → s.blk.cached t = true → 1 ≤ d.root → bit (s.blk.getF
      F.KEY_CFG_HOSTRK 0) (d.root - 1) = true → s.blk.rootValid d.root = true → s.blk.ciph.queue = [] → s.blk.getF
      F.CIPH_STAT_JOBS 0 < 16 → Tab.get 0 s.blk.ciph.test 1 = 1 → Tab.get 0 s.blk.ciph.test 2 = 1 → s.blk.jobFault 0
      (requester d) = false → bit (d.dw 5) 24 = true → up4 d.lblLen + d.tagLen ≤ d.len → Completes (.aesCmac d
      false) s fun b => (b.answered d (fun x => x.status == St.ok && x.data.isEmpty && x.cw2 == b2n ((cmac (keyOf t)
      (d.part (up4 d.lblLen) (d.len - up4 d.lblLen - d.tagLen))).take d.tagLen == d.part (d.len - d.tagLen)
      d.tagLen)) = true) ∧ s.blk.Beside (offsOf (Regs.cipher ++ Regs.answers ++ [R.CIPH_LOAD])) Part.answers b) ∧
  (∀ (s : State) (d : Desc) (ctx : List Byte), s.blk.Ready → s.blk.Executes d → s.blk.Single d → d.opcode = 0x93 →
      shaOk d = true → s.blk.ciphOn = true → s.blk.ciph.queue = [] → s.blk.getF F.CIPH_STAT_JOBS 0 < 16 → Tab.get 0
      s.blk.ciph.test 0 = 1 → s.blk.jobFault 0 (requester d) = false → bits (d.dw 5) 2 1 = 0 → Completes (.sha d ctx
      false) s fun b => (b.answered d (fun x => x == Block.outCompl d (shaFinish (bit (d.dw 5) 0) (shaInit (bit
      (d.dw 5) 0)) (d.part 0 d.len) d.len)) = true) ∧ s.blk.Beside (offsOf (Regs.cipher ++ Regs.answers ++
      [R.CIPH_LOAD])) Part.answers b) ∧
  (∀ (s : State) (d : Desc) (ctx : List Byte), s.blk.Ready → s.blk.Executes d → s.blk.Single d → d.opcode = 0x93 →
      shaOk d = true → s.blk.ciphOn = true → s.blk.ciph.queue = [] → s.blk.getF F.CIPH_STAT_JOBS 0 < 16 → Tab.get 0
      s.blk.ciph.test 0 = 1 → s.blk.jobFault 0 (requester d) = false → bits (d.dw 5) 2 1 = 1 → Completes (.sha d ctx
      false) s fun b => (∃ c ∈ b.ciph.ctxs, c.big = bit (d.dw 5) 0 ∧ c.words = shaBlocks (bit (d.dw 5) 0) (shaInit
      (bit (d.dw 5) 0)) (d.part 0 d.len) ∧ c.total = d.len ∧ c.bytes.length = 128 ∧ b.answered d (fun x => x.status
      == St.ok && x.cw2 == 128 && x.data == c.bytes) = true) ∧ s.blk.Beside (offsOf (Regs.cipher ++ Regs.answers ++
      [R.CIPH_LOAD])) Part.answers b) ∧
  (∀ (s : State) (d : Desc) (c : ShaCtx), s.blk.Ready → s.blk.Executes d → s.blk.Single d → d.opcode = 0x93 → shaOk
      d = true → s.blk.ciphOn = true → s.blk.ciph.queue = [] → s.blk.getF F.CIPH_STAT_JOBS 0 < 16 → Tab.get 0
      s.blk.ciph.test 0 = 1 → s.blk.jobFault 0 (requester d) = false → bits (d.dw 5) 2 1 = 3 → s.blk.ciph.ctxs.find?
      (fun x => x.bytes == c.bytes) = some c → c.big = bit (d.dw 5) 0 → Completes (.sha d c.bytes false) s fun b =>
      (b.answered d (fun x => x == Block.outCompl d (shaFinish c.big c.words (d.part 0 d.len) (c.total + d.len))) =
      true) ∧ s.blk.Beside (offsOf (Regs.cipher ++ Regs.answers ++ [R.CIPH_LOAD])) Part.answers b) ∧
  (∀ (s : State) (d : Desc) (t : KeyTag), s.blk.Ready → s.blk.Executes d → s.blk.Single d → d.opcode = 0x94 → signOk
      d = true → s.blk.ciphOn = true → d.keyTag = some t → s.blk.cached t = true → 1 ≤ d.root → bit (s.blk.getF
      F.KEY_CFG_HOSTRK 0) (d.root - 1) = true → s.blk.rootValid d.root = true → s.blk.ciph.queue = [] → s.blk.getF
      F.CIPH_STAT_JOBS 0 < 16 → Tab.get 0 s.blk.ciph.test 2 = 1 → Tab.get 0 s.blk.ciph.test 3 = 1 → s.blk.jobFault 1
      (requester d) = false → s.blk.rngOn = true → Completes (.ecdsaSign d false) s fun b => (b.answered d (fun x =>
      x.status == St.hwFault || (x.status == St.ok && x.cw2 == 2 * curveLen d.curve && x.data.length == 2 * curveLen
      d.curve && x.addr == some d.outAddr)) = true ∧ b.getF F.PKE_STAT_OPS 0 = (s.blk.getF F.PKE_STAT_OPS 0 + 1) %
      65536) ∧ s.blk.Beside (offsOf (Regs.cipher ++ Regs.answers ++ [R.CIPH_LOAD])) Part.answers b) ∧
  (∀ (s : State) (d : Desc) (t : KeyTag), s.blk.Ready → s.blk.Executes d → s.blk.Single d → d.opcode = 0x95 → pubOk
      d = true → s.blk.ciphOn = true → d.keyTag = some t → s.blk.cached t = true → 1 ≤ d.root → bit (s.blk.getF
      F.KEY_CFG_HOSTRK 0) (d.root - 1) = true → s.blk.rootValid d.root = true → s.blk.ciph.queue = [] → s.blk.getF
      F.CIPH_STAT_JOBS 0 < 16 → Tab.get 0 s.blk.ciph.test 2 = 1 → Tab.get 0 s.blk.ciph.test 3 = 1 → Completes
      (.ecdsaPub d) s fun b => (b.answered d (fun x => x.status == St.ok && x.data == bytesOf (beBytes (curveLen
      d.curve) (publicKey (curveOf d.curve) (privateKey (curveOf d.curve) (keyOf t))).1 ++ beBytes (curveLen
      d.curve) (publicKey (curveOf d.curve) (privateKey (curveOf d.curve) (keyOf t))).2)) = true ∧ b.getF
      F.PKE_STAT_OPS 0 = (s.blk.getF F.PKE_STAT_OPS 0 + 1) % 65536) ∧ s.blk.Beside (offsOf (Regs.cipher ++
      Regs.answers ++ [R.CIPH_LOAD])) Part.answers b) ∧
  (∀ (s : State) (d : Desc), s.blk.Ready → s.blk.Executes d → s.blk.Single d → d.opcode = 0x96 → verifyOk d = true →
      s.blk.ciphOn = true → s.blk.ciph.queue = [] → s.blk.getF F.CIPH_STAT_JOBS 0 < 16 → Tab.get 0 s.blk.ciph.test 3
      = 1 → Completes (.ecdsaVerify d) s fun b => (b.answered d (fun x => x.status == St.ok && x.cw2 == (if !onCurve
      (curveOf d.curve) (ofBe (d.part (0 * curveLen d.curve) (curveLen d.curve))) (ofBe (d.part (1 * curveLen
      d.curve) (curveLen d.curve))) then 2 else b2n (ecdsaVerify (curveOf d.curve) ((ofBe (d.part (0 * curveLen
      d.curve) (curveLen d.curve))), (ofBe (d.part (1 * curveLen d.curve) (curveLen d.curve)))) (ofBe (d.part (2 *
      curveLen d.curve) (curveLen d.curve))) (ofBe (d.part (3 * curveLen d.curve) (curveLen d.curve))) (ofBe (d.part
      (4 * curveLen d.curve) (curveLen d.curve)))))) = true) ∧ s.blk.Beside (offsOf (Regs.cipher ++ Regs.answers ++
      [R.CIPH_LOAD])) Part.answers b) ∧
  (∀ (s : State) (d : Desc), s.blk.Ready → s.blk.Executes d → s.blk.Single d → d.opcode = 0x97 → rngOk d = true →
      s.blk.ciphOn = true → s.blk.ciph.queue = [] → s.blk.getF F.CIPH_STAT_JOBS 0 < 16 → s.blk.rngOn = true → bit
      (d.dw 5) 0 = true → Completes (.rngRead d) s fun b => (b.answered d (fun x => x.status == St.ok && x.cw2 ==
      d.len && x.data.length == d.len) = true ∧ b.ciph.gens = (if bit (d.dw 5) 0 ∨ 65536 ≤ s.blk.ciph.gens then 1
      else s.blk.ciph.gens + 1) ∧ b.getF F.CIPH_RNG_RESEEDS 0 = (if bit (d.dw 5) 0 ∨ 65536 ≤ s.blk.ciph.gens then
      (s.blk.getF F.CIPH_RNG_RESEEDS 0 + 1) % 2 ^ (F.CIPH_RNG_RESEEDS.hi + 1 - F.CIPH_RNG_RESEEDS.lo) else
      s.blk.getF F.CIPH_RNG_RESEEDS 0)) ∧ s.blk.Beside (offsOf (Regs.answers ++ [R.CIPH_CNT, R.CIPH_RNG]))
      Part.answers b) ∧
  (∀ (s : State) (d : Desc), s.blk.Ready → s.blk.Executes d → s.blk.Single d → d.opcode = 0x98 → flushOk d = true →
      s.blk.ciphOn = true → Completes (.keyFlush d) s fun b => (b.answered d (fun x => x.status == St.ok && x.cw2 ==
      s.blk.ciph.cache.length) = true ∧ b.ciph.cache = [] ∧ b.getF F.KEY_CACHE_VALID 0 = 0) ∧ s.blk.Beside (offsOf
      (Regs.cipher ++ Regs.answers ++ [R.CIPH_LOAD])) Part.answers b)

/-- Key derivation, the firmware ring, disabling, self-tests and entropy failures change the state (from R545, R546,
R554, R555, R557 and R558). Rests on R545, R546, R554, R555, R557, R558, R560; the clauses state the parts of these
rules that they write out. Choices of the model in it: log 40, 41, 42. -/
def Obligations.CipherUnits : Prop :=
  (∀ (s : State) (t : KeyTag), s.blk.Ready → s.blk.ciph.deriv = [(t, [])] → s.blk.ciph.queue = [] → Completes
      .keyDerivationComplete s fun b => (b.cached t = true ∧ b.ciph.cache = t :: (s.blk.ciph.cache.filter (fun x =>
      !(x == t))).take 31 ∧ b.ciph.deriv = [] ∧ b.getF F.KEY_CACHE_VALID 0 = b.ciph.cache.length) ∧ s.blk.Beside
      (offsOf (Regs.cipher ++ Regs.answers ++ [R.CAN_STAT, R.CIPH_FWCTL, R.CIPH_LOAD, R.ETH_CNT, R.ETH_PSTAT,
      R.GW_POUT, R.GW_STAT, R.LIN_STAT])) ([Part.kept, Part.net] ++ Part.buses ++ Part.answers) b) ∧
  (∀ (s : State) (who : Who) (w : Word), s.blk.Ready → s.blk.CanWrite who (R.CIPH_FWCTL.at 0) → (who = .core 0 ∨ who
      = .core 1) → s.blk.getF F.CIPH_FWBASE_ADDR 0 = 0 → Completes (.fwRingProducerWrite who w) s fun b => b.getF
      F.CIPH_FWCTL_PROD 0 = bits w.toNat 5 0 ∧ b.getF F.CIPH_FWCTL_CHEAD 0 = bits w.toNat 21 16 ∧ s.blk.Beside
      (offsOf (Regs.cipher ++ Regs.answers ++ [R.CIPH_FWCTL, R.CIPH_LOAD])) Part.answers b) ∧
  (∀ (s : State) (who : Who), s.blk.Ready → s.blk.CanWrite who (R.CIPH_CFG.at 0) → Completes (.cipherDisable who) s
      fun b => b.getF F.CIPH_CFG_EN 0 = 0 ∧ b.ciph.queue = [] ∧ s.blk.Beside (offsOf (Regs.cipher ++ Regs.answers ++
      [R.ACS_STAT, R.CIPH_CFG, R.CIPH_FWCTL, R.CIPH_LOAD, R.GW_POUT, R.GW_STAT])) Part.answers b) ∧
  (∀ (s : State) (u : Fin 4) (pass : Bool), s.blk.Ready → s.blk.pg 10 = true → Tab.get 0 s.blk.ciph.test u = 0 →
      s.blk.ciph.queue = [] → Completes (.selfTestComplete u pass) s fun b => (Tab.get 0 b.ciph.test u = (if pass
      then 1 else 2) ∧ (pass = false → (u.val = 2 → b.getF F.KEY_STAT_KDFERR 0 = 1 ∧ b.HasEvent 239) ∧ (u.val = 3 →
      b.getF F.PKE_STAT_STF 0 = 1 ∧ b.HasEvent 238) ∧ (u.val < 2 → b.HasEvent 236))) ∧ s.blk.Beside (offsOf
      (Regs.cipher ++ Regs.answers ++ [R.BOOT_STAT, R.CAN_STAT, R.CDC_ISTAT, R.CIPH_FWCTL, R.CIPH_LOAD, R.ETH_CNT,
      R.ETH_PSTAT, R.GW_POUT, R.GW_STAT, R.LIN_STAT])) ([Part.acs, Part.boot, Part.flash, Part.kept, Part.net] ++
      Part.buses ++ Part.answers) b) ∧
  (∀ (s : State) (t : Fin 3), s.blk.Ready → s.blk.pg 10 = true → s.blk.flag ([F.CIPH_RNG_RCTF, F.CIPH_RNG_APTF,
      F.CIPH_RNG_STF].getD t F.CIPH_RNG_STF) 0 = false → Completes (.entropyTestFailure t) s fun b => b.getF
      F.CIPH_RNG_RSTATE 0 = 2 ∧ b.getF F.CIPH_STAT_RNGF 0 = 1 ∧ b.flag ([F.CIPH_RNG_RCTF, F.CIPH_RNG_APTF,
      F.CIPH_RNG_STF].getD t F.CIPH_RNG_STF) 0 = true ∧ b.HasEvent 237 ∧ s.blk.Beside (offsOf [R.CIPH_RNG,
      R.CIPH_STAT]) [] b)

/-- The access descriptors enrol, revoke, take the dealer code, withdraw, lock, read and clear (from R585 to R590
and R597). Rests on R582, R585, R586, R587, R588, R590, R597; the clauses state the parts of these rules that they
write out. Choices of the model in it: log 62, 64, 65. -/
def Obligations.AccessDescriptors : Prop :=
  (∀ (s : State) (d : Desc), s.blk.Ready → s.blk.Executes d → d.ok 0xA0 0 0 [0x3F, 0xFFFFFFFF, 0xFFFFFFFF, 3] = true
      → d.dw 6 + d.dw 7 * 2 ^ 32 ≠ 0 → bit (d.dw 6 + d.dw 7 * 2 ^ 32) 63 = decide (60 ≤ (bits (d.dw 5) 5 0)) →
      s.blk.acsOn = true → s.blk.slotValid (bits (d.dw 5) 5 0) = false → ((List.range 64).any fun x =>
      s.blk.slotValid x && s.blk.slotTid x == d.dw 6 + d.dw 7 * 2 ^ 32) = false → ((if bit (d.dw 8) 1 then
      s.blk.flag F.ACS_STAT_CODEOK 0 else s.blk.authBy fun x => (!decide (60 ≤ (bits (d.dw 5) 5 0)) &&
      !s.blk.lockout) || decide (60 ≤ x)) = true) → s.blk.acs.enrol = none → Completes (.acsEnrol d) s fun b =>
      b.acs.enrol = some d ∧ b.getF F.ACS_STAT_ENRPEND 0 = 1 ∧ b.out = s.blk.out ∧ s.blk.Beside (offsOf [R.ACS_STAT,
      R.HQ_QSTAT] ++ d.regs) ([Part.acs, Part.chn, Part.flights] ++ d.parts) b) ∧
  (∀ (s : State) (d : Desc), s.blk.Ready → s.blk.Executes d → s.blk.Single d → d.ok 0xA1 0 0 [0xFFFFFFFF,
      0xFFFFFFFF, 0, 1] = true → d.dw 5 + d.dw 6 ≠ 0 → s.blk.acsOn = true → bit (d.dw 8) 0 = true → s.blk.flag
      F.ACS_STAT_CODEOK 0 = true → Completes (.acsRevoke d) s fun b => (b.answered d (fun x => x.status == St.ok &&
      x.cw2 == (((List.range 64).filter fun s => bit (d.dw 5 + d.dw 6 * 2 ^ 32) s).filter s.blk.slotValid).length) =
      true ∧ (((List.range 64).filter fun s => bit (d.dw 5 + d.dw 6 * 2 ^ 32) s).all fun x => !b.slotValid x &&
      (!s.blk.slotValid x || !b.acs.auth.contains x)) = true) ∧ s.blk.Beside (offsOf [R.ACS_SLOTF, R.ACS_SLOTH,
      R.ACS_SLOTL, R.HQ_QSTAT] ++ d.regs) ([Part.acs, Part.chn, Part.flights] ++ d.parts) b) ∧
  (∀ (s : State) (d : Desc), s.blk.Ready → s.blk.Executes d → s.blk.Single d → d.ok 0xA1 0 0 [0xFFFFFFFF,
      0xFFFFFFFF, 0, 1] = true → d.dw 5 + d.dw 6 ≠ 0 → s.blk.acsOn = true → bit (d.dw 8) 0 = false → d.dw 6 < 2 ^ 28
      → (s.blk.authBy fun x => decide (60 ≤ x)) = true → Completes (.acsRevoke d) s fun b => (b.answered d (fun x =>
      x.status == St.ok && x.cw2 == (((List.range 64).filter fun s => bit (d.dw 5 + d.dw 6 * 2 ^ 32) s).filter
      s.blk.slotValid).length) = true ∧ (((List.range 64).filter fun s => bit (d.dw 5 + d.dw 6 * 2 ^ 32) s).all fun
      x => !b.slotValid x) = true) ∧ s.blk.Beside (offsOf [R.ACS_SLOTF, R.ACS_SLOTH, R.ACS_SLOTL, R.HQ_QSTAT] ++
      d.regs) ([Part.acs, Part.chn, Part.flights] ++ d.parts) b) ∧
  (∀ (s : State) (d : Desc), s.blk.Ready → s.blk.Executes d → s.blk.Single d → d.ok 0xA1 0 0 [0xFFFFFFFF,
      0xFFFFFFFF, 0, 1] = true → d.dw 5 + d.dw 6 = 0 → Completes (.acsRevoke d) s fun b => (b.answered d (fun x =>
      x.status == St.badDesc) = true ∧ b.acs = s.blk.acs) ∧ s.blk.Beside (offsOf [R.ACS_SLOTF, R.ACS_SLOTH,
      R.ACS_SLOTL, R.HQ_QSTAT] ++ d.regs) ([Part.acs, Part.chn, Part.flights] ++ d.parts) b) ∧
  (∀ (s : State) (d : Desc), s.blk.Ready → s.blk.Executes d → s.blk.Single d → d.ok 0xA0 0 0 [0x3F, 0xFFFFFFFF,
      0xFFFFFFFF, 3] = true → d.dw 6 + d.dw 7 * 2 ^ 32 ≠ 0 → bit (d.dw 6 + d.dw 7 * 2 ^ 32) 63 = decide (60 ≤ (bits
      (d.dw 5) 5 0)) → s.blk.acsOn = true → s.blk.slotValid (bits (d.dw 5) 5 0) = true → Completes (.acsEnrol d) s
      fun b => (b.answered d (fun x => x.status == St.refused && x.cw2 == (bits (d.dw 5) 5 0)) = true ∧ b.acs =
      s.blk.acs) ∧ s.blk.Beside (offsOf [R.ACS_STAT, R.HQ_QSTAT] ++ d.regs) ([Part.acs, Part.chn, Part.flights] ++
      d.parts) b) ∧
  (∀ (s : State) (d : Desc), s.blk.Ready → s.blk.Executes d → s.blk.Single d → d.ok 0xA2 0 0 [3, 0xFFFFF] = true →
      d.dw 6 ≤ 999999 → s.blk.acsOn = true → s.blk.lockout = false → d.dw 5 = s.blk.acs.code.length → d.dw 5 < 3 →
      Completes (.acsCode d) s fun b => (b.acs.code = s.blk.acs.code ++ [d.dw 6] ∧ b.answered d (fun x => x.status
      == St.ok && x.cw2 == 0) = true) ∧ s.blk.Beside (offsOf [R.ACS_DCNT, R.ACS_LOCK, R.ACS_STAT, R.CIPH_CNT,
      R.CIPH_LOAD, R.CIPH_STAT, R.HQ_QSTAT, R.KEY_CACHE, R.KEY_CCNT, R.KEY_STAT, R.PKE_STAT] ++ d.regs) ([Part.acs,
      Part.chn, Part.ciph, Part.flights] ++ d.parts) b) ∧
  (∀ (s : State) (d : Desc), s.blk.Ready → s.blk.Executes d → s.blk.Single d → d.ok 0xA2 0 0 [3, 0xFFFFF] = true →
      d.dw 6 ≤ 999999 → s.blk.acsOn = true → s.blk.lockout = false → d.dw 5 ≠ s.blk.acs.code.length → Completes
      (.acsCode d) s fun b => (b.acs.code = [] ∧ b.answered d (fun x => x.status == St.ok && x.cw2 == 3) = true) ∧
      s.blk.Beside (offsOf [R.ACS_DCNT, R.ACS_LOCK, R.ACS_STAT, R.CIPH_CNT, R.CIPH_LOAD, R.CIPH_STAT, R.HQ_QSTAT,
      R.KEY_CACHE, R.KEY_CCNT, R.KEY_STAT, R.PKE_STAT] ++ d.regs) ([Part.acs, Part.chn, Part.ciph, Part.flights] ++
      d.parts) b) ∧
  (∀ (s : State) (d : Desc), s.blk.Ready → s.blk.Executes d → s.blk.Single d → d.ok 0xA2 0 0 [3, 0xFFFFF] = true →
      d.dw 6 ≤ 999999 → s.blk.acsOn = true → s.blk.lockout = false → d.dw 5 = 3 → s.blk.acs.code.length = 3 →
      s.blk.acsKeys = true → s.blk.jobFault 0 3 = false → Completes (.acsCode d) s fun b => (b.acs.code = [] ∧
      ((s.blk.acs.code ++ [d.dw 6]).foldl (fun v x => v * 1000000 + x) 0 = dealerCode (s.blk.acsKey
      s.blk.dealerLabel) s.blk.serialBytes (s.blk.rd R.ACS_DCNT 0) → b.getF F.ACS_DCNT_DCNT 0 = (s.blk.getF
      F.ACS_DCNT_DCNT 0 + 1) % 2 ^ 32 ∧ b.getF F.ACS_STAT_CODEOK 0 = 1 ∧ b.answered d (fun x => x.status == St.ok &&
      x.cw2 == 1) = true) ∧ (¬ (s.blk.acs.code ++ [d.dw 6]).foldl (fun v x => v * 1000000 + x) 0 = dealerCode
      (s.blk.acsKey s.blk.dealerLabel) s.blk.serialBytes (s.blk.rd R.ACS_DCNT 0) → b.getF F.ACS_STAT_CODEF 0 = 1 ∧
      b.answered d (fun x => x.status == St.ok && x.cw2 == 2) = true ∧ ((s.blk.acs.fails.filter fun t => decide
      (s.blk.pw.rtc - t ≤ 600 * 32768)).length < 4 → b.acs.fails = (s.blk.acs.fails.filter fun t => decide
      (s.blk.pw.rtc - t ≤ 600 * 32768)) ++ [s.blk.pw.rtc]) ∧ (4 ≤ (s.blk.acs.fails.filter fun t => decide
      (s.blk.pw.rtc - t ≤ 600 * 32768)).length → b.acs.fails = [] ∧ b.getF F.ACS_STAT_LOCKOUT 0 = 1 ∧ b.acs.lockEnd
      = s.blk.pw.rtc + Block.lockTicks (s.blk.getF F.ACS_LOCK_LEVEL 0) ∧ b.getF F.ACS_LOCK_LEVEL 0 = min 4
      (s.blk.getF F.ACS_LOCK_LEVEL 0 + 1)))) ∧ s.blk.Beside (offsOf [R.ACS_DCNT, R.ACS_LOCK, R.ACS_STAT, R.CIPH_CNT,
      R.CIPH_LOAD, R.CIPH_STAT, R.HQ_QSTAT, R.KEY_CACHE, R.KEY_CCNT, R.KEY_STAT, R.PKE_STAT] ++ d.regs) ([Part.acs,
      Part.chn, Part.ciph, Part.flights] ++ d.parts) b) ∧
  (∀ (s : State) (d : Desc), s.blk.Ready → s.blk.Executes d → s.blk.Single d → d.ok 0xA3 0 0 [] = true → s.blk.acsOn
      = true → Completes (.acsWithdraw d) s fun b => (b.answered d (fun x => x.status == St.ok && x.cw2 ==
      s.blk.getF F.ACS_REL_RELEASED 0) = true ∧ b.getF F.ACS_REL_RELEASED 0 = 0 ∧ (s.blk.flag F.ACS_REL_RELEASED 0 =
      true → b.acs.engen.on = false)) ∧ s.blk.Beside (offsOf [R.ACS_REL, R.ACS_RELCNT, R.ACS_STAT, R.CIPH_CNT,
      R.CIPH_LOAD, R.CIPH_STAT, R.HQ_QSTAT, R.KEY_CACHE, R.KEY_CCNT, R.KEY_STAT, R.PKE_STAT] ++ d.regs) ([Part.acs,
      Part.chn, Part.ciph, Part.flights, Part.net] ++ Part.buses ++ d.parts) b) ∧
  (∀ (s : State) (d : Desc), s.blk.Ready → s.blk.Executes d → s.blk.Single d → d.ok 0xA4 0 0 [0, 0, 0, 3] = true →
      s.blk.acsOn = true → ((if bit (d.dw 8) 1 then !bit (d.dw 8) 0 && s.blk.flag F.ACS_STAT_CODEOK 0 else
      s.blk.authBy fun x => decide (60 ≤ x)) = true) → Completes (.acsOwnlock d) s fun b => (b.answered d (fun x =>
      x.status == St.ok) = true ∧ b.getF F.ACS_STAT_OWNLOCK 0 = b2n (bit (d.dw 8) 0)) ∧ s.blk.Beside (offsOf
      [R.ACS_STAT, R.HQ_QSTAT] ++ d.regs) ([Part.chn, Part.flights] ++ d.parts) b) ∧
  (∀ (s : State) (d : Desc), s.blk.Ready → s.blk.Executes d → s.blk.Single d → d.ok 0xA5 1312 65536 [] = true →
      s.blk.acsOn = true → Completes (.acsRead d) s fun b => (b.answered d (fun x => x.status == St.ok && x.cw2 ==
      1312 && x.data.take 4 == leBytes 4 (s.blk.rd R.ACS_STAT 0) && (x.data.drop 32).take 12 == leBytes 4 (s.blk.rd
      R.ACS_SLOTL 0) ++ leBytes 4 (s.blk.rd R.ACS_SLOTH 0) ++ leBytes 4 (s.blk.rd R.ACS_SLOTF 0)) = true) ∧
      s.blk.Beside (offsOf [R.ACS_LOCK] ++ d.regs) d.parts b) ∧
  (∀ (s : State) (d : Desc), s.blk.Ready → s.blk.Executes d → s.blk.Single d → d.ok 0xA6 0 0 [0, 0, 0, 1] = true →
      s.blk.acsOn = true → Completes (.acsClear d) s fun b => (b.answered d (fun x => x.status == St.ok) = true ∧
      (bit (d.dw 8) 0 = true → bits (b.rd R.ACS_STAT 0) 17 8 = 0 ∧ bits (b.rd R.ACS_STAT 0) 7 0 = bits (s.blk.rd
      R.ACS_STAT 0) 7 0) ∧ (bit (d.dw 8) 0 = false → b.rd R.ACS_STAT 0 = s.blk.rd R.ACS_STAT 0)) ∧ s.blk.Beside
      (offsOf [R.ACS_STAT, R.HQ_QSTAT] ++ d.regs) ([Part.chn, Part.flights] ++ d.parts) b)

/-- Cycles poll, answers queue exchanges, and a response is rejected in the first case that applies or grants the
release (from R572 to R580 and R589). Rests on R572, R574, R576, R577, R578, R579, R580, R582, R584, R589, R596; the
clauses state the parts of these rules that they write out. Choices of the model in it: log 61, 63. -/
def Obligations.AccessExchanges : Prop :=
  (∀ (s : State) (who : Who), s.blk.Ready → s.blk.CanWrite who (R.ACS_CFG.at 0) → s.blk.getF F.ACS_CFG_RKSEL 0 ≠ 0 →
      (s.blk.getF F.ACS_REL_RELCH 0 ≤ 11 ∨ s.blk.flag F.ACS_REL_RELMSG 0 = false) → Completes (.accessEnable who) s
      fun b => (b.getF F.ACS_CFG_EN 0 = 1 ∧ b.getF F.ACS_STAT_STATE 0 = (if s.blk.ciphOn then 1 else 2)) ∧
      s.blk.Beside (offsOf [R.ACS_CFG, R.ACS_STAT]) [Part.acs] b) ∧
  (∀ (s : State) (who : Who), s.blk.Ready → s.blk.CanWrite who (R.ACS_CFG.at 0) → s.blk.getF F.ACS_CFG_RKSEL 0 = 0 →
      Completes (.accessEnable who) s fun b => b.getF F.ACS_CFG_EN 0 = 0 ∧ s.blk.Beside (offsOf [R.ACS_CFG,
      R.ACS_STAT]) [Part.acs] b) ∧
  (∀ (s : State), s.blk.Ready → s.blk.acsUp = true → s.blk.acs.cur = none → s.blk.acs.answers = [] → Completes
      .accessCycle s fun b => (b.acs.cyc = s.blk.acs.cyc + 1 ∧ b.acs.answers = [] ∧ b.acs.best = none ∧ b.getF
      F.ACS_STAT_STATE 0 = (if s.blk.ciphOn then 1 else 2) ∧ (b.pollPlace.all fun p => b.out.contains (.uwb p.1 p.2
      (s.blk.getF F.ACS_CFG_PANID 0) (bytesOf ([1] ++ beBytes 4 (s.blk.rd R.SYS_SERIAL 0) ++ beBytes 2 b.acs.cyc ++
      [p.1])))) = true ∧ (s.blk.flag F.ACS_CFG_LFPOLL 0 = true → b.acs.cyc % 6 = 0 → s.blk.lfMask ≠ 0 →
      b.out.contains (.lf s.blk.lfMask (s.blk.getF F.ACS_LF_WAKEID 0) (bytesOf ([0x11] ++ beBytes 4 (s.blk.rd
      R.SYS_SERIAL 0)))) = true)) ∧ s.blk.Beside (offsOf [R.ACS_STAT, R.CDC_ISTAT]) [Part.acs] b) ∧
  (∀ (s : State) (slot : Fin 60) (tid : BitVec 64) (anchor : Fin 6), s.blk.Ready → s.blk.acsUp = true → Completes
      (.disc slot true tid anchor) s fun b => b.getF F.ACS_STAT_COLLX 0 = 1 ∧ b.acs.answers = s.blk.acs.answers ∧
      b.acs.fails = s.blk.acs.fails ∧ ((b.acs.log.getLast?.getD []).headD 0) % 256 = 7 ∧ s.blk.Beside (offsOf
      [R.ACS_STAT, R.CDC_ISTAT, R.CIPH_RNG, R.CIPH_STAT, R.KEY_CACHE, R.KEY_CCNT, R.KEY_STAT, R.PKE_STAT])
      [Part.acs, Part.ciph] b) ∧
  (∀ (s : State) (slot : Fin 60) (tid : BitVec 64) (anchor : Fin 6), s.blk.Ready → s.blk.acsUp = true →
      s.blk.tidKnown tid.toNat = false → Completes (.disc slot false tid anchor) s fun b => b.acs.answers =
      s.blk.acs.answers ∧ b.acs.fails = s.blk.acs.fails ∧ ((b.acs.log.getLast?.getD []).headD 0) % 256 = 8 ∧
      s.blk.Beside (offsOf [R.ACS_STAT, R.CDC_ISTAT, R.CIPH_RNG, R.CIPH_STAT, R.KEY_CACHE, R.KEY_CCNT, R.KEY_STAT,
      R.PKE_STAT]) [Part.acs, Part.ciph] b) ∧
  (∀ (s : State) (slot : Fin 60) (tid : BitVec 64) (anchor : Fin 6) (e : AcsExch), s.blk.Ready → s.blk.acsUp = true
      → s.blk.tokenTid slot = some tid.toNat → s.blk.acs.cur = some e → Completes (.disc slot false tid anchor) s
      fun b => (slot.val, anchor.val) ∈ b.acs.answers ∧ b.acs.cur = some e ∧ s.blk.Beside (offsOf [R.ACS_STAT,
      R.CDC_ISTAT, R.CIPH_RNG, R.CIPH_STAT, R.KEY_CACHE, R.KEY_CCNT, R.KEY_STAT, R.PKE_STAT]) [Part.acs, Part.ciph]
      b) ∧
  (∀ (s : State) (slot : Fin 60) (tid : BitVec 64) (anchor : Fin 6), s.blk.Ready → s.blk.acsUp = true →
      s.blk.acs.cur = none → s.blk.acs.answers = [] → s.blk.acsKeys = true → s.blk.rngOn = true → s.blk.tokenTid
      slot = some tid.toNat → s.blk.lockout = false → Completes (.disc slot false tid anchor) s fun b =>
      ((match b.acs.cur with | some e => e.slot == slot.val && e.nv.length == 16 && e.nv.all (fun x => decide (x < 256)) && e.anchor == anchor.val && e.sts == stsKey (s.blk.acsKey (tokenLabel tid.toNat)) e.nv && b.out.contains (.uwb anchor e.chan (s.blk.getF F.ACS_CFG_PANID 0) (bytesOf ([3] ++ beBytes 8 tid.toNat ++ e.nv ++ beBytes 2 s.blk.acs.cyc))) | none => false)
      = true ∧ b.acs.answers = []) ∧ s.blk.Beside (offsOf [R.ACS_STAT, R.CDC_ISTAT, R.CIPH_RNG, R.CIPH_STAT,
      R.KEY_CACHE, R.KEY_CCNT, R.KEY_STAT, R.PKE_STAT]) [Part.acs, Part.ciph] b) ∧
  (∀ (s : State) (slot : Fin 4) (tid : BitVec 64), s.blk.Ready → s.blk.acsUp = true → s.blk.acs.cur = none →
      s.blk.acs.answers = [] → s.blk.acsKeys = true → s.blk.rngOn = true → s.blk.tokenTid (60 + slot) = some
      tid.toNat → Completes (.udisc slot false tid) s fun b =>
      ((match b.acs.cur with | some e => e.slot == 60 + slot.val && e.nv.length == 16 && e.nv.all (fun x => decide (x < 256)) && b.out.contains (.lf s.blk.lfMask (s.blk.getF F.ACS_LF_WAKEID 0) (bytesOf ([0x13] ++ beBytes 8 tid.toNat ++ e.nv))) && ((List.range 6).filter (bit s.blk.lfMask)).all (fun k => b.out.contains (.lfBurst k)) && b.out.contains (.uhf (s.blk.getF F.ACS_LF_UHFBAND 0)) | none => false)
      = true ∧ b.acs.answers = []) ∧ s.blk.Beside (offsOf [R.ACS_STAT, R.CDC_ISTAT, R.CIPH_RNG, R.CIPH_STAT,
      R.KEY_CACHE, R.KEY_CCNT, R.KEY_STAT, R.PKE_STAT]) [Part.acs, Part.ciph] b) ∧
  (∀ (s : State) (slot : Fin 4) (tid : BitVec 64), s.blk.Ready → s.blk.acsUp = true → Completes (.udisc slot true
      tid) s fun b => b.getF F.ACS_STAT_COLLX 0 = 1 ∧ b.acs.answers = s.blk.acs.answers ∧ s.blk.Beside (offsOf
      [R.ACS_STAT, R.CDC_ISTAT, R.CIPH_RNG, R.CIPH_STAT, R.KEY_CACHE, R.KEY_CCNT, R.KEY_STAT, R.PKE_STAT])
      [Part.acs, Part.ciph] b) ∧
  (∀ (s : State) (slot : Fin 4) (tid : BitVec 64) (e : AcsExch), s.blk.Ready → s.blk.acsUp = true → s.blk.tokenTid
      (60 + slot) = some tid.toNat → s.blk.acs.cur = some e → Completes (.udisc slot false tid) s fun b => (60 +
      slot.val, 0) ∈ b.acs.answers ∧ b.acs.cur = some e ∧ s.blk.Beside (offsOf [R.ACS_STAT, R.CDC_ISTAT, R.CIPH_RNG,
      R.CIPH_STAT, R.KEY_CACHE, R.KEY_CCNT, R.KEY_STAT, R.PKE_STAT]) [Part.acs, Part.ciph] b) ∧
  (∀ (s : State) (e : AcsExch) (tid : BitVec 64) (nt : BitVec 128) (trep : BitVec 40) (pt : BitVec 64) (eps : Int)
      (tround : Nat) (seen : StsSeen) (arr : List (Fin 6 × Nat)), s.blk.Ready → s.blk.acsUp = true → s.blk.acsTested
      = true → s.blk.jobFault 0 3 = false → s.blk.acs.cur = some e → s.blk.acs.answers = [] → e.slot < 60 →
      s.blk.tokenTid e.slot = some tid.toNat → s.blk.acs.fails.length < 4 → s.blk.acs.best = none → s.blk.acs.enrol
      = none → s.blk.flag F.ACS_REL_RELMSG 0 = false → Completes (.resp tid nt trep pt eps tround seen arr) s fun b
      => (b.acs.cur = none ∧ (¬ (proofT (sessionKey (s.blk.acsKey (tokenLabel tid.toNat)) e.nv (beBytes 16
      nt.toNat)) tid.toNat e.nv (beBytes 16 nt.toNat) (beBytes 5 trep.toNat) = beBytes 8 pt.toNat) → b.getF
      F.ACS_STAT_CRYPTF 0 = 1 ∧ b.acs.fails = (s.blk.acs.fails.filter fun t => decide (s.blk.pw.rtc - t ≤ 600 *
      32768)) ++ [s.blk.pw.rtc] ∧ b.getF F.ACS_REL_RELEASED 0 = s.blk.getF F.ACS_REL_RELEASED 0 ∧ b.acs.cur = none)
      ∧ ((proofT (sessionKey (s.blk.acsKey (tokenLabel tid.toNat)) e.nv (beBytes 16 nt.toNat)) tid.toNat e.nv
      (beBytes 16 nt.toNat) (beBytes 5 trep.toNat) = beBytes 8 pt.toNat) → ((if ofBe e.sts = seen.key.toNat then
      seen.quality else 0) < s.blk.getF F.ACS_UWB_STSQ 0 ∨ uwb10ns < (turnaround trep.toNat eps - uwb500us) ∨
      (turnaround trep.toNat eps - uwb500us) < -uwb10ns) → b.getF F.ACS_STAT_RELAYX 0 = 1 ∧ b.acs.fails =
      s.blk.acs.fails ∧ b.getF F.ACS_REL_RELEASED 0 = s.blk.getF F.ACS_REL_RELEASED 0 ∧ b.acs.cur = none) ∧ ((proofT
      (sessionKey (s.blk.acsKey (tokenLabel tid.toNat)) e.nv (beBytes 16 nt.toNat)) tid.toNat e.nv (beBytes 16
      nt.toNat) (beBytes 5 trep.toNat) = beBytes 8 pt.toNat) → ¬ ((if ofBe e.sts = seen.key.toNat then seen.quality
      else 0) < s.blk.getF F.ACS_UWB_STSQ 0 ∨ uwb10ns < (turnaround trep.toNat eps - uwb500us) ∨ (turnaround
      trep.toNat eps - uwb500us) < -uwb10ns) → ((s.blk.getF F.ACS_UWB_RMAX 0 : Int) * 10 * rangeDen < (rangeUnits
      (twoTof tround (s.blk.getF F.ACS_ANC_DELAY e.anchor) trep.toNat eps))) ∨ bit (s.blk.getF F.ACS_REL_UAZ 0)
      ((s.blk.zoneOf arr).getD e.anchor) = false → b.getF F.ACS_STAT_RANGEX 0 = 1 ∧ b.acs.fails = s.blk.acs.fails ∧
      b.getF F.ACS_REL_RELEASED 0 = s.blk.getF F.ACS_REL_RELEASED 0 ∧ b.acs.cur = none) ∧ ((proofT (sessionKey
      (s.blk.acsKey (tokenLabel tid.toNat)) e.nv (beBytes 16 nt.toNat)) tid.toNat e.nv (beBytes 16 nt.toNat)
      (beBytes 5 trep.toNat) = beBytes 8 pt.toNat) → ¬ ((if ofBe e.sts = seen.key.toNat then seen.quality else 0) <
      s.blk.getF F.ACS_UWB_STSQ 0 ∨ uwb10ns < (turnaround trep.toNat eps - uwb500us) ∨ (turnaround trep.toNat eps -
      uwb500us) < -uwb10ns) → ¬ ((s.blk.getF F.ACS_UWB_RMAX 0 : Int) * 10 * rangeDen < (rangeUnits (twoTof tround
      (s.blk.getF F.ACS_ANC_DELAY e.anchor) trep.toNat eps))) → bit (s.blk.getF F.ACS_REL_UAZ 0) ((s.blk.zoneOf
      arr).getD e.anchor) = true → b.getF F.ACS_LAST_SLOT 0 = e.slot ∧ b.getF F.ACS_LAST_VALID 0 = 1 ∧ b.acs.fails =
      s.blk.acs.fails ∧ (s.blk.flag F.ACS_SLOTF_RELEN e.slot = true ∧ s.blk.lockout = false ∧ s.blk.flag
      F.ACS_STAT_OWNLOCK 0 = false → b.getF F.ACS_REL_RELEASED 0 = 1 ∧ b.acs.engen.on = true ∧ b.getF F.ACS_REL_SLOT
      0 = e.slot ∧ b.getF F.ACS_REL_MASTER 0 = 0) ∧ (¬ (s.blk.flag F.ACS_SLOTF_RELEN e.slot = true ∧ s.blk.lockout =
      false ∧ s.blk.flag F.ACS_STAT_OWNLOCK 0 = false) → b.getF F.ACS_REL_RELEASED 0 = s.blk.getF F.ACS_REL_RELEASED
      0 ∧ b.acs.cur = none))) ∧ s.blk.Beside (offsOf (Regs.cipher ++ Regs.answers ++ [R.ACS_LAST, R.ACS_LASTT,
      R.ACS_LOCK, R.ACS_REL, R.ACS_RELCNT, R.ACS_SLOTF, R.ACS_SLOTH, R.ACS_SLOTL, R.ACS_STAT, R.CDC_ISTAT,
      R.CIPH_LOAD])) ([Part.acs, Part.net] ++ Part.buses ++ Part.answers) b) ∧
  (∀ (s : State) (e : AcsExch) (tid : BitVec 64) (nt : BitVec 128) (rssi : BitVec 48) (pt : BitVec 64) (start :
      Nat), s.blk.Ready → s.blk.acsUp = true → s.blk.acsTested = true → s.blk.jobFault 0 3 = false → s.blk.acs.cur =
      some e → s.blk.acs.answers = [] → 60 ≤ e.slot → e.slot < 64 → s.blk.tokenTid e.slot = some tid.toNat →
      s.blk.acs.fails.length < 4 → s.blk.acs.best = none → s.blk.acs.enrol = none → s.blk.flag F.ACS_REL_RELMSG 0 =
      false → Completes (.uresp tid nt rssi pt start) s fun b => (b.acs.cur = none ∧ (¬ (proofT (sessionKey
      (s.blk.acsKey (tokenLabel tid.toNat)) e.nv (beBytes 16 nt.toNat)) tid.toNat e.nv (beBytes 16 nt.toNat)
      (beBytes 6 rssi.toNat) = beBytes 8 pt.toNat) → b.getF F.ACS_STAT_CRYPTF 0 = 1 ∧ b.acs.fails =
      (s.blk.acs.fails.filter fun t => decide (s.blk.pw.rtc - t ≤ 600 * 32768)) ++ [s.blk.pw.rtc] ∧ b.getF
      F.ACS_REL_RELEASED 0 = s.blk.getF F.ACS_REL_RELEASED 0 ∧ b.acs.cur = none) ∧ ((proofT (sessionKey
      (s.blk.acsKey (tokenLabel tid.toNat)) e.nv (beBytes 16 nt.toNat)) tid.toNat e.nv (beBytes 16 nt.toNat)
      (beBytes 6 rssi.toNat) = beBytes 8 pt.toNat) → (start < 78000 ∨ 82000 < start) → b.getF F.ACS_STAT_LFWINX 0 =
      1 ∧ b.acs.fails = s.blk.acs.fails ∧ b.getF F.ACS_REL_RELEASED 0 = s.blk.getF F.ACS_REL_RELEASED 0 ∧ b.acs.cur
      = none) ∧ ((proofT (sessionKey (s.blk.acsKey (tokenLabel tid.toNat)) e.nv (beBytes 16 nt.toNat)) tid.toNat
      e.nv (beBytes 16 nt.toNat) (beBytes 6 rssi.toNat) = beBytes 8 pt.toNat) → ¬ (start < 78000 ∨ 82000 < start) →
      ((beBytes 6 rssi.toNat).foldl max 0) < s.blk.getF F.ACS_LF_LFMIN 0 ∨ bit (s.blk.getF F.ACS_REL_LFZ 0)
      (((beBytes 6 rssi.toNat).findIdx? fun x => x == ((beBytes 6 rssi.toNat).foldl max 0)).getD 0) = false → b.getF
      F.ACS_STAT_RANGEX 0 = 1 ∧ b.acs.fails = s.blk.acs.fails ∧ b.getF F.ACS_REL_RELEASED 0 = s.blk.getF
      F.ACS_REL_RELEASED 0 ∧ b.acs.cur = none) ∧ ((proofT (sessionKey (s.blk.acsKey (tokenLabel tid.toNat)) e.nv
      (beBytes 16 nt.toNat)) tid.toNat e.nv (beBytes 16 nt.toNat) (beBytes 6 rssi.toNat) = beBytes 8 pt.toNat) → ¬
      (start < 78000 ∨ 82000 < start) → ¬ ((beBytes 6 rssi.toNat).foldl max 0) < s.blk.getF F.ACS_LF_LFMIN 0 → bit
      (s.blk.getF F.ACS_REL_LFZ 0) (((beBytes 6 rssi.toNat).findIdx? fun x => x == ((beBytes 6 rssi.toNat).foldl max
      0)).getD 0) = true → b.getF F.ACS_REL_RELEASED 0 = 1 ∧ b.acs.engen.on = true ∧ b.getF F.ACS_REL_SLOT 0 =
      e.slot ∧ b.getF F.ACS_REL_MASTER 0 = 1 ∧ b.getF F.ACS_LAST_ZONE 0 = 8 + (((beBytes 6 rssi.toNat).findIdx? fun
      x => x == ((beBytes 6 rssi.toNat).foldl max 0)).getD 0) ∧ b.acs.fails = [] ∧ b.getF F.ACS_STAT_LOCKOUT 0 = 0 ∧
      b.getF F.ACS_LOCK_LEVEL 0 = 0)) ∧ s.blk.Beside (offsOf (Regs.cipher ++ Regs.answers ++ [R.ACS_LAST,
      R.ACS_LASTT, R.ACS_LOCK, R.ACS_REL, R.ACS_RELCNT, R.ACS_SLOTF, R.ACS_SLOTH, R.ACS_SLOTL, R.ACS_STAT,
      R.CDC_ISTAT, R.CIPH_LOAD])) ([Part.acs, Part.net] ++ Part.buses ++ Part.answers) b) ∧
  (∀ (s : State) (e : AcsExch), s.blk.Ready → s.blk.acs.cur = some e → s.blk.acs.answers = [] → Completes
      .responseTimeout s fun b => b.acs.cur = none ∧ b.acs.fails = s.blk.acs.fails ∧ b.getF F.ACS_LOCK_FAILS 0 =
      s.blk.getF F.ACS_LOCK_FAILS 0 ∧ s.blk.Beside (offsOf [R.CDC_ISTAT, R.CIPH_RNG, R.CIPH_STAT, R.KEY_CACHE,
      R.KEY_CCNT, R.KEY_STAT, R.PKE_STAT]) [Part.acs, Part.ciph] b)

/-- Lockout, failures, windows, the release and the record end, expire and are kept (from R567, R582 to R586 and
R590 to R592). Rests on R567, R582, R583, R585, R586, R590, R591, R592, R593; the clauses state the parts of these
rules that they write out. Choices of the model in it: log 60, 62, 116, 133. -/
def Obligations.AccessTimes : Prop :=
  (∀ (s : State), s.blk.Ready → s.blk.lockout = true → Completes .lockoutEnd s fun b => (b.lockout = false ∧ b.getF
      F.ACS_STAT_LOCKX 0 = 1 ∧ (s.blk.flag F.ACS_STAT_LOCKX 0 = false → b.HasEvent 234)) ∧ s.blk.Beside (offsOf
      [R.ACS_STAT]) [Part.acs] b) ∧
  (∀ (s : State), s.blk.Ready → Completes .failureExpiry s fun b => b.acs.fails = s.blk.acs.fails.drop 1 ∧ b.getF
      F.ACS_LOCK_FAILS 0 = (s.blk.acs.fails.length - 1) % 8 ∧ s.blk.Beside (offsOf [R.ACS_LOCK]) [Part.acs] b) ∧
  (∀ (s : State), s.blk.Ready → Completes .levelReset s fun b => b.getF F.ACS_LOCK_LEVEL 0 = 0 ∧ s.blk.Beside
      (offsOf [R.ACS_LOCK]) [] b) ∧
  (∀ (s : State) (d : Desc), s.blk.Ready → s.blk.acs.enrol = some d → s.blk.Single d → Completes .enrolTimeout s fun
      b => (b.answered d (fun x => x.status == St.timeout && x.cw2 == bits (d.dw 5) 5 0) = true ∧ b.acs.enrol = none
      ∧ b.getF F.ACS_STAT_ENRPEND 0 = 0) ∧ s.blk.Beside (offsOf [R.ACS_STAT] ++ d.regs) ([Part.acs] ++ d.parts) b) ∧
  (∀ (s : State), s.blk.Ready → Completes .codeGroupTimeout s fun b => b.acs.code = [] ∧ s.blk.Beside [] [Part.acs]
      b) ∧
  (∀ (s : State), s.blk.Ready → Completes (.authWindowExpiry none) s fun b => b.getF F.ACS_STAT_CODEOK 0 = 0 ∧
      b.acs.auth = s.blk.acs.auth ∧ s.blk.Beside (offsOf [R.ACS_STAT]) [Part.acs] b) ∧
  (∀ (s : State) (slot : Fin 64), s.blk.Ready → Completes (.authWindowExpiry (some slot)) s fun b => (b.acs.auth =
      s.blk.acs.auth.filter (fun x => !(x == slot.val)) ∧ b.getF F.ACS_STAT_CODEOK 0 = s.blk.getF F.ACS_STAT_CODEOK
      0) ∧ s.blk.Beside (offsOf [R.ACS_STAT]) [Part.acs] b) ∧
  (∀ (s : State), s.blk.Ready → s.blk.flag F.ACS_REL_RELEASED 0 = true → s.blk.flag F.ACS_REL_RELMSG 0 = true →
      s.blk.acsKeys = true → s.blk.jobFault 0 3 = false → (s.blk.getF F.ACS_REL_RELCH 0) < 12 → s.blk.nstate
      (s.blk.getF F.ACS_REL_RELCH 0) = 1 → (s.blk.nch (s.blk.getF F.ACS_REL_RELCH 0)).prio.length < 64 → Completes
      .releaseMessageTick s fun b => (b.getF F.ACS_RELCNT_CNT 0 = (s.blk.getF F.ACS_RELCNT_CNT 0 + 1) % 2 ^ 32 ∧
      (b.nch (s.blk.getF F.ACS_REL_RELCH 0)).prio.dropLast = (s.blk.nch (s.blk.getF F.ACS_REL_RELCH 0)).prio ∧
      ((b.nch (s.blk.getF F.ACS_REL_RELCH 0)).prio.getLast?.map fun x => (x.frame.id, x.frame.data.take 4)) = some
      (s.blk.getF F.ACS_RELID_ID 0, bytesOf ([1 + 2 * s.blk.getF F.ACS_REL_MASTER 0 + 4 * s.blk.getF F.ACS_REL_SLOT
      0] ++ beBytes 3 (b.getF F.ACS_RELCNT_CNT 0)))) ∧ s.blk.Beside (offsOf [R.ACS_RELCNT, R.ACS_STAT, R.CIPH_CNT,
      R.CIPH_LOAD, R.CIPH_STAT, R.KEY_CACHE, R.KEY_CCNT, R.KEY_STAT, R.PKE_STAT]) ([Part.ciph, Part.net] ++
      Part.buses) b) ∧
  (∀ (s : State), s.blk.Ready → s.blk.flag F.ACS_REL_RELEASED 0 = true → s.blk.flag F.ACS_REL_RELMSG 0 = true →
      (s.blk.getF F.ACS_REL_RELCH 0) < 12 → s.blk.nstate (s.blk.getF F.ACS_REL_RELCH 0) ≠ 1 → Completes
      .releaseMessageTick s fun b => b.getF F.ACS_RELCNT_CNT 0 = (s.blk.getF F.ACS_RELCNT_CNT 0 + 1) % 2 ^ 32 ∧
      b.getF F.ACS_STAT_RELDROP 0 = 1 ∧ s.blk.Beside (offsOf [R.ACS_RELCNT, R.ACS_STAT, R.CIPH_CNT, R.CIPH_LOAD,
      R.CIPH_STAT, R.KEY_CACHE, R.KEY_CCNT, R.KEY_STAT, R.PKE_STAT]) ([Part.ciph, Part.net] ++ Part.buses) b) ∧
  (∀ (s : State), s.blk.Ready → s.blk.flag F.ACS_REL_IGNEND 0 = true → s.blk.flag F.PWR_STATE_IGN 0 = false →
      s.blk.flag F.ACS_REL_RELEASED 0 = true → Completes .releaseIgnEnd s fun b => b.getF F.ACS_REL_RELEASED 0 = 0 ∧
      b.acs.engen.on = false ∧ s.blk.Beside (offsOf [R.ACS_REL, R.ACS_RELCNT, R.ACS_STAT, R.CIPH_CNT, R.CIPH_LOAD,
      R.CIPH_STAT, R.KEY_CACHE, R.KEY_CCNT, R.KEY_STAT, R.PKE_STAT]) ([Part.acs, Part.ciph, Part.net] ++ Part.buses)
      b) ∧
  (∀ (s : State), s.blk.Ready → s.blk.pg 10 = true → s.blk.rootValid 0 = true → s.blk.jobFault 0 4 = false → Tab.get
      0 s.blk.ciph.test 1 = 1 → Tab.get 0 s.blk.ciph.test 2 = 1 → Completes .accessRecordSave s fun b => b.flash.acr
      = RecCopy.rewrite s.blk.flash.acr s.blk.acsRecord ∧ b.flash.acr.length = 2 ∧ b.acs.saveDue = false ∧
      s.blk.Beside (offsOf [R.CIPH_CNT, R.CIPH_LOAD, R.CIPH_STAT, R.KEY_CACHE, R.KEY_CCNT, R.KEY_STAT, R.PKE_STAT])
      [Part.acs, Part.ciph, Part.flash] b) ∧
  (∀ (s : State), s.blk.Ready → s.blk.pg 10 = true → s.blk.rootValid 0 = true → Tab.get 0 s.blk.ciph.test 1 = 0 →
      Completes .accessRecordSave s fun b => b.flash.acr = s.blk.flash.acr ∧ b.acs.saveDue = true ∧ s.blk.Beside
      (offsOf [R.CIPH_CNT, R.CIPH_LOAD, R.CIPH_STAT, R.KEY_CACHE, R.KEY_CCNT, R.KEY_STAT, R.PKE_STAT]) [Part.acs,
      Part.ciph, Part.flash] b) ∧
  (∀ (s : State), s.blk.Ready → s.blk.pg 10 = true → s.blk.rootValid 0 = false → Completes .accessRecordSave s fun b
      => b.flash.acr = s.blk.flash.acr ∧ b.acs.saveDue = false ∧ b.getF F.KEY_STAT_RKREF 0 = 1 ∧ s.blk.Beside
      (offsOf [R.CIPH_CNT, R.CIPH_LOAD, R.CIPH_STAT, R.KEY_CACHE, R.KEY_CCNT, R.KEY_STAT, R.PKE_STAT]) [Part.acs,
      Part.ciph, Part.flash] b) ∧
  (∀ (s : State) (x : LineSeen), s.blk.Ready → s.blk.pg 9 = true → bit (s.blk.getF F.ACS_UWB_AMASK 0) x.k = true →
      bit s.blk.acs.unbias x.k = false → (x.ua < 2000 ∨ 80000 < x.ua) → Completes (.antennaFault 0 x) s fun b =>
      (b.getF F.ACS_STAT_ANTF 0 = 1 ∧ (s.blk.flag F.ACS_STAT_ANTF 0 = false → b.HasEvent 232) ∧ bit (b.getF
      F.ACS_DIAG_UAF 0) x.k = true ∧ (80000 < x.ua → bit b.acs.unbias x.k = true) ∧ (x.ua < 2000 → b.acs.unbias =
      s.blk.acs.unbias)) ∧ s.blk.Beside (offsOf [R.ACS_DIAG, R.ACS_STAT]) [Part.acs] b) ∧
  (∀ (s : State) (x : LineSeen), s.blk.Ready → s.blk.pg 9 = true → bit (s.blk.getF F.ACS_LF_LFMASK 0) x.k = true →
      (2 * x.ua < Tab.get 0 s.blk.acs.lfRef x.k ∨ 3 * Tab.get 0 s.blk.acs.lfRef x.k < 2 * x.ua) → Completes
      (.antennaFault 1 x) s fun b => (b.getF F.ACS_STAT_ANTF 0 = 1 ∧ (s.blk.flag F.ACS_STAT_ANTF 0 = false →
      b.HasEvent 232) ∧ bit (b.getF F.ACS_DIAG_LFF 0) x.k = true ∧ b.acs = s.blk.acs) ∧ s.blk.Beside (offsOf
      [R.ACS_DIAG, R.ACS_STAT]) [Part.acs] b) ∧
  (∀ (s : State) (x : LineSeen), s.blk.Ready → s.blk.pg 9 = true → bit s.blk.acs.unbias 6 = false → (x.ua < 2000 ∨
      80000 < x.ua) → Completes (.antennaFault 2 x) s fun b => (b.getF F.ACS_STAT_ANTF 0 = 1 ∧ (s.blk.flag
      F.ACS_STAT_ANTF 0 = false → b.HasEvent 232) ∧ b.getF F.ACS_DIAG_UHFF 0 = 1 ∧ (80000 < x.ua → bit b.acs.unbias
      6 = true)) ∧ s.blk.Beside (offsOf [R.ACS_DIAG, R.ACS_STAT]) [Part.acs] b) ∧
  (∀ (s : State) (x : LineSeen), s.blk.Ready → s.blk.pg 9 = true → 2000 ≤ x.ua → x.ua ≤ 80000 → Completes
      (.antennaFault 0 x) s fun b => b.rd R.ACS_DIAG 0 = s.blk.rd R.ACS_DIAG 0 ∧ b.rd R.ACS_STAT 0 = s.blk.rd
      R.ACS_STAT 0 ∧ b.acs = s.blk.acs ∧ s.blk.Beside (offsOf [R.ACS_DIAG, R.ACS_STAT]) [Part.acs] b)

/-- The boot and update descriptors report, open, write, finish, activate, commit and abort (from R611 to R617, R626
and R627). Rests on R611, R612, R613, R614, R615, R616, R617, R626, R627; the clauses state the parts of these rules
that they write out. Choices of the model in it: log 128, 129. -/
def Obligations.BootDescriptors : Prop :=
  (∀ (s : State) (d : Desc), s.blk.Ready → s.blk.Executes d → s.blk.Single d → d.ok 0xB0 568 65536 (List.replicate 8
      0xFFFFFFFF) = true → s.blk.getF F.BOOT_STAT_PHASE 0 = 2 → s.blk.canSign = true →
      s.blk.boot.slots.flatten.length = 384 → Completes (.bootMeas d) s fun b => (b.answered d (fun x => x.status ==
      St.hwFault || x.status == St.ok && x.cw2 == 568 && x.data.length == 568 && x.data.take 6 == leBytes 4
      0x5045524D ++ leBytes 2 1 && (x.data.drop 8).take 8 == leBytes 4 (s.blk.rd R.SYS_SERIAL 0) ++ leBytes 4
      (s.blk.rd R.SYS_SERIAL 1) && (x.data.drop 16).take 32 == (List.range 8).flatMap (fun i => leBytes 4 (d.dw (5 +
      i))) && (x.data.drop 56).take 384 == bytesOf s.blk.boot.slots.flatten && (x.data.drop 440).take 28 ==
      (List.range 7).flatMap (fun i => leBytes 4 (s.blk.rd R.BOOT_VER i))) = true) ∧ s.blk.Beside (offsOf
      (Regs.cipher ++ [R.HQ_QSTAT]) ++ d.regs) ([Part.chn, Part.ciph] ++ d.parts) b) ∧
  (∀ (s : State) (d : Desc), s.blk.Ready → s.blk.Executes d → s.blk.Single d → d.ok 0xB1 1784 65536 [] = true →
      s.blk.getF F.BOOT_STAT_PHASE 0 = 2 → s.blk.boot.stmt.length = 248 → Completes (.bootCert d) s fun b =>
      (b.answered d (fun x => x.status == St.ok && x.cw2 == 1784 && x.data.length == 1784 && x.data.drop 1536 ==
      bytesOf s.blk.boot.stmt) = true) ∧ s.blk.Beside d.regs d.parts b) ∧
  (∀ (s : State) (d : Desc), s.blk.Ready → s.blk.Executes d → s.blk.Single d → d.ok 0xB2 512 512 [] = true →
      d.payload.length = 512 → s.blk.boot.sess = none → s.blk.getF F.UPD_STAT_STATE 0 < 2 → Completes (.updBegin d
      false) s fun b => ((1 ≤ (headCause (hdr (d.payload.take 512) 6 2) (s.blk.floorOf (hdr (d.payload.take 512) 6
      2)) (d.payload.take 512)) → (headCause (hdr (d.payload.take 512) 6 2) (s.blk.floorOf (hdr (d.payload.take 512)
      6 2)) (d.payload.take 512)) ≤ 4 → b.answered d (fun x => x.status == St.badDesc && x.cw2 == (headCause (hdr
      (d.payload.take 512) 6 2) (s.blk.floorOf (hdr (d.payload.take 512) 6 2)) (d.payload.take 512)) && x.cw3 ==
      s.blk.guards) = true ∧ b.getF F.UPD_STAT_LASTCAUSE 0 = (headCause (hdr (d.payload.take 512) 6 2)
      (s.blk.floorOf (hdr (d.payload.take 512) 6 2)) (d.payload.take 512)) ∧ b.boot.sess = none ∧ b.flash =
      s.blk.flash) ∧ (5 ≤ (headCause (hdr (d.payload.take 512) 6 2) (s.blk.floorOf (hdr (d.payload.take 512) 6 2))
      (d.payload.take 512)) → b.answered d (fun x => x.status == St.refused && x.cw2 == (headCause (hdr
      (d.payload.take 512) 6 2) (s.blk.floorOf (hdr (d.payload.take 512) 6 2)) (d.payload.take 512)) && x.cw3 ==
      s.blk.guards) = true ∧ b.getF F.UPD_STAT_LASTCAUSE 0 = (headCause (hdr (d.payload.take 512) 6 2)
      (s.blk.floorOf (hdr (d.payload.take 512) 6 2)) (d.payload.take 512)) ∧ b.boot.sess = none ∧ b.flash =
      s.blk.flash) ∧ ((headCause (hdr (d.payload.take 512) 6 2) (s.blk.floorOf (hdr (d.payload.take 512) 6 2))
      (d.payload.take 512)) = 0 → ¬ ((badPairs (((hdr (d.payload.take 512) 6 2), (d.payload.take 512)) ::
      s.blk.refSet 0x7F (hdr (d.payload.take 512) 6 2))).isEmpty = true) → b.answered d (fun x => x.status ==
      St.refused && x.cw2 == 8 && x.cw3 == s.blk.guards) = true ∧ b.getF F.UPD_STAT_LASTCAUSE 0 = 8 ∧ b.boot.sess =
      none ∧ b.flash = s.blk.flash) ∧ ((headCause (hdr (d.payload.take 512) 6 2) (s.blk.floorOf (hdr (d.payload.take
      512) 6 2)) (d.payload.take 512)) = 0 → ((badPairs (((hdr (d.payload.take 512) 6 2), (d.payload.take 512)) ::
      s.blk.refSet 0x7F (hdr (d.payload.take 512) 6 2))).isEmpty = true) → s.blk.guardCause ≠ 0 → b.answered d (fun
      x => x.status == St.refused && x.cw2 == s.blk.guardCause && x.cw3 == s.blk.guards) = true ∧ b.getF
      F.UPD_STAT_LASTCAUSE 0 = s.blk.guardCause ∧ b.boot.sess = none ∧ b.flash = s.blk.flash) ∧ ((headCause (hdr
      (d.payload.take 512) 6 2) (s.blk.floorOf (hdr (d.payload.take 512) 6 2)) (d.payload.take 512)) = 0 →
      ((badPairs (((hdr (d.payload.take 512) 6 2), (d.payload.take 512)) :: s.blk.refSet 0x7F (hdr (d.payload.take
      512) 6 2))).isEmpty = true) → s.blk.guardCause = 0 → b.answered d (fun x => x.status == St.ok && x.cw2 == 0) =
      true ∧ b.boot.sess = some { owner := some d.src, comp := (hdr (d.payload.take 512) 6 2) } ∧ b.copyOf (1 -
      s.blk.activeBank (hdr (d.payload.take 512) 6 2)) (hdr (d.payload.take 512) 6 2) =
      { header := (d.payload.take 512) } ∧ b.getF F.UPD_STAT_STATE 0 = 1 ∧ b.rd R.UPD_RCVD 0 = 0 ∧ bit
      b.flash.staged ((hdr (d.payload.take 512) 6 2) - 1) = false)) ∧ s.blk.Beside (offsOf (Regs.staged ++
      [R.CDC_ISTAT, R.CIPH_CNT, R.CIPH_LOAD, R.CIPH_STAT, R.HQ_QSTAT, R.KEY_CACHE, R.KEY_CCNT, R.KEY_STAT,
      R.PKE_STAT]) ++ d.regs) ([Part.boot, Part.chn, Part.ciph, Part.flash] ++ d.parts) b) ∧
  (∀ (s : State) (d : Desc) (s0 : UpdSess), s.blk.Ready → s.blk.Executes d → s.blk.Single d → d.ok 0xB3 64 65536
      [0xFFFFFFFF] = true → d.len % 64 = 0 → s.blk.boot.sess = some s0 → s0.owner = some d.src → d.dw 5 = s.blk.rd
      R.UPD_RCVD 0 → s.blk.rd R.UPD_RCVD 0 + d.len ≤ hLength (s.blk.copyOf (1 - s.blk.activeBank s0.comp)
      s0.comp).header → hLength (s.blk.copyOf (1 - s.blk.activeBank s0.comp) s0.comp).header < 2 ^ 32 →
      s.blk.guardCause = 0 → Completes (.updWrite d false) s fun b => (b.answered d (fun x => x.status == St.ok &&
      x.cw2 == 0) = true ∧ (b.copyOf (1 - s.blk.activeBank s0.comp) s0.comp) =
      { (s.blk.copyOf (1 - s.blk.activeBank s0.comp) s0.comp) with body := (s.blk.copyOf (1 - s.blk.activeBank s0.comp) s0.comp).body ++ d.payload.take d.len }
      ∧ b.rd R.UPD_RCVD 0 = s.blk.rd R.UPD_RCVD 0 + d.len ∧ b.boot.sess = some s0) ∧ s.blk.Beside (offsOf
      [R.HQ_QSTAT, R.UPD_RCVD, R.UPD_STAT] ++ d.regs) ([Part.chn, Part.flash] ++ d.parts) b) ∧
  (∀ (s : State) (d : Desc) (s0 : UpdSess), s.blk.Ready → s.blk.Executes d → s.blk.Single d → d.ok 0xB3 64 65536
      [0xFFFFFFFF] = true → d.len % 64 = 0 → s.blk.boot.sess = some s0 → s0.owner = some d.src → d.dw 5 = s.blk.rd
      R.UPD_RCVD 0 → s.blk.rd R.UPD_RCVD 0 + d.len ≤ hLength (s.blk.copyOf (1 - s.blk.activeBank s0.comp)
      s0.comp).header → s.blk.guardCause ≠ 0 → Completes (.updWrite d false) s fun b => (b.answered d (fun x =>
      x.status == St.refused && x.cw2 == s.blk.guardCause && x.cw3 == s.blk.guards) = true ∧ b.flash = s.blk.flash ∧
      b.rd R.UPD_RCVD 0 = s.blk.rd R.UPD_RCVD 0 ∧ b.boot.sess = some s0) ∧ s.blk.Beside (offsOf [R.HQ_QSTAT,
      R.UPD_RCVD, R.UPD_STAT] ++ d.regs) ([Part.chn, Part.flash] ++ d.parts) b) ∧
  (∀ (s : State) (d : Desc) (s0 : UpdSess), s.blk.Ready → s.blk.Executes d → s.blk.Single d → d.ok 0xB4 0 0 [] =
      true → s.blk.boot.sess = some s0 → s0.owner = some d.src → hLength (s.blk.copyOf (1 - s.blk.activeBank
      s0.comp) s0.comp).header ≤ s.blk.rd R.UPD_RCVD 0 → 1 ≤ s0.comp → s0.comp ≤ 7 → Completes (.updFinish d) s fun
      b => (b.boot.sess = none ∧ b.getF F.UPD_STAT_STATE 0 = 0 ∧ (bodyOk
      { (s.blk.copyOf (1 - s.blk.activeBank s0.comp) s0.comp) with full := true } = true → b.answered d (fun x =>
      x.status == St.ok) = true ∧ bit b.flash.staged (s0.comp - 1) = true ∧ (b.copyOf (1 - s.blk.activeBank s0.comp)
      s0.comp) = { (s.blk.copyOf (1 - s.blk.activeBank s0.comp) s0.comp) with full := true }) ∧ (bodyOk
      { (s.blk.copyOf (1 - s.blk.activeBank s0.comp) s0.comp) with full := true } = false → b.answered d (fun x =>
      x.status == St.refused && x.cw2 == 13) = true ∧ (b.copyOf (1 - s.blk.activeBank s0.comp) s0.comp) = {} ∧
      b.flash.staged = s.blk.flash.staged)) ∧ s.blk.Beside (offsOf (Regs.staged ++ [R.CIPH_CNT, R.CIPH_LOAD,
      R.CIPH_STAT, R.HQ_QSTAT, R.KEY_CACHE, R.KEY_CCNT, R.KEY_STAT, R.PKE_STAT]) ++ d.regs) ([Part.boot, Part.chn,
      Part.ciph, Part.flash] ++ d.parts) b) ∧
  (∀ (s : State) (d : Desc), s.blk.Ready → s.blk.Executes d → s.blk.Single d → d.ok 0xB5 0 0 [0xFE] = true → (bits
      (d.dw 5) 7 1) ≠ 0 → s.blk.getF F.UPD_STAT_STATE 0 = 0 → (bits (d.dw 5) 7 1) &&& s.blk.flash.staged = (bits
      (d.dw 5) 7 1) → Completes (.updActivate d) s fun b => ((((List.range 7).any fun i => bit (bits (d.dw 5) 7 1) i
      && !bodyOk (s.blk.copyOf (1 - s.blk.activeBank (i + 1)) (i + 1))) = false → s.blk.guardCause = 0 → (badPairs
      (s.blk.refSet (bits (d.dw 5) 7 1) 0)).isEmpty = true → b.answered d (fun x => x.status == St.ok) = true ∧
      b.flash.active = s.blk.flash.active ^^^ (bits (d.dw 5) 7 1) ∧ b.flash.trial = (bits (d.dw 5) 7 1) ∧
      b.flash.pending = true ∧ b.flash.staged = s.blk.flash.staged ^^^ (bits (d.dw 5) 7 1) ∧ b.getF F.UPD_STAT_STATE
      0 = 2) ∧ (¬ ((List.range 7).any fun i => bit (bits (d.dw 5) 7 1) i && !bodyOk (s.blk.copyOf (1 -
      s.blk.activeBank (i + 1)) (i + 1))) = false → b.answered d (fun x => x.status == St.refused && x.cw2 == 13) =
      true ∧ b.flash = s.blk.flash) ∧ (((List.range 7).any fun i => bit (bits (d.dw 5) 7 1) i && !bodyOk
      (s.blk.copyOf (1 - s.blk.activeBank (i + 1)) (i + 1))) = false → s.blk.guardCause ≠ 0 → b.answered d (fun x =>
      x.status == St.refused && x.cw2 == s.blk.guardCause) = true ∧ b.flash = s.blk.flash)) ∧ s.blk.Beside (offsOf
      [R.BOOT_BANK, R.BOOT_FLOOR, R.CDC_ISTAT, R.CIPH_CNT, R.CIPH_LOAD, R.CIPH_STAT, R.HQ_QSTAT, R.KEY_CACHE,
      R.KEY_CCNT, R.KEY_STAT, R.PKE_STAT, R.UPD_STAGED, R.UPD_STAT, R.UPD_SVER] ++ d.regs) ([Part.boot, Part.chn,
      Part.ciph, Part.flash] ++ d.parts) b) ∧
  (∀ (s : State) (d : Desc), s.blk.Ready → s.blk.Executes d → s.blk.Single d → d.ok 0xB6 0 0 [1] = true → s.blk.getF
      F.UPD_STAT_STATE 0 = 3 → Completes (.updCommit d) s fun b => (b.answered d (fun x => x.status == St.ok) = true
      ∧ b.flash.trial = 0 ∧ b.flash.active = s.blk.flash.active ∧ b.getF F.UPD_STAT_STATE 0 = 0 ∧ (∀ i ∈ List.range
      7, bit (d.dw 5) 0 = true → bit s.blk.flash.trial i = true → max (s.blk.floorOf (i + 1)) (hRollback
      (s.blk.copyOf (s.blk.activeBank (i + 1)) (i + 1)).header) ≤ 64 → s.blk.floorOf (i + 1) ≤ b.floorOf (i + 1) ∧
      hRollback (s.blk.copyOf (s.blk.activeBank (i + 1)) (i + 1)).header ≤ b.floorOf (i + 1)) ∧ ((s.blk.pg 10 = true
      → s.blk.rootValid 0 = true ∧ Tab.get 0 s.blk.ciph.test 1 = 1 ∧ Tab.get 0 s.blk.ciph.test 2 = 1 ∧
      s.blk.jobFault 0 4 = false) → b.flash.bcr = RecCopy.rewrite s.blk.flash.bcr b.bootRec)) ∧ s.blk.Beside (offsOf
      [R.BOOT_BANK, R.BOOT_FLOOR, R.CIPH_CNT, R.CIPH_LOAD, R.CIPH_STAT, R.HQ_QSTAT, R.KEY_CACHE, R.KEY_CCNT,
      R.KEY_STAT, R.PKE_STAT, R.UPD_STAGED, R.UPD_STAT, R.UPD_SVER] ++ d.regs) ([Part.boot, Part.chn, Part.ciph,
      Part.flash] ++ d.parts) b) ∧
  (∀ (s : State) (d : Desc), s.blk.Ready → s.blk.Executes d → s.blk.Single d → d.ok 0xB7 0 0 [0xFF] = true →
      s.blk.getF F.UPD_STAT_STATE 0 = 3 → Completes (.updAbort d) s fun b => (b.answered d (fun x => x.status ==
      St.ok) = true ∧ b.flash.active = s.blk.flash.active ^^^ s.blk.flash.trial ∧ b.flash.staged =
      s.blk.flash.staged ||| s.blk.flash.trial ∧ b.flash.trial = 0 ∧ b.getF F.UPD_STAT_STATE 0 = 0 ∧ b.getF
      F.UPD_STAT_REVERTED 0 = 1) ∧ s.blk.Beside (offsOf (Regs.staged ++ [R.CIPH_CNT, R.CIPH_LOAD, R.CIPH_STAT,
      R.HQ_QSTAT, R.KEY_CACHE, R.KEY_CCNT, R.KEY_STAT, R.PKE_STAT]) ++ d.regs) ([Part.boot, Part.chn, Part.ciph,
      Part.flash] ++ d.parts) b) ∧
  (∀ (s : State) (d : Desc) (s0 : UpdSess), s.blk.Ready → s.blk.Executes d → s.blk.Single d → d.ok 0xB7 0 0 [0xFF] =
      true → d.dw 5 = 1 → s.blk.boot.sess = some s0 → s0.owner = some d.src → s.blk.getF F.UPD_STAT_STATE 0 = 1 →
      Completes (.updAbort d) s fun b => (b.answered d (fun x => x.status == St.ok) = true ∧ b.boot.sess = none ∧
      (b.copyOf (1 - s.blk.activeBank s0.comp) s0.comp) = {} ∧ b.getF F.UPD_STAT_STATE 0 = 0 ∧ b.flash.staged =
      s.blk.flash.staged) ∧ s.blk.Beside (offsOf (Regs.staged ++ [R.CIPH_CNT, R.CIPH_LOAD, R.CIPH_STAT, R.HQ_QSTAT,
      R.KEY_CACHE, R.KEY_CCNT, R.KEY_STAT, R.PKE_STAT]) ++ d.regs) ([Part.boot, Part.chn, Part.ciph, Part.flash] ++
      d.parts) b) ∧
  (∀ (s : State) (d : Desc), s.blk.Ready → s.blk.Executes d → s.blk.Single d → d.ok 0xB8 64 65536 [] = true →
      Completes (.updStatus d) s fun b => (b.answered d (fun x => x.status == St.ok && x.cw2 == 64 && x.data ==
      ([b.rd R.UPD_STAT 0, s.blk.rd R.UPD_RCVD 0, s.blk.rd R.UPD_STAGED 0, s.blk.rd R.BOOT_STAT 0, s.blk.rd
      R.BOOT_BANK 0, s.blk.rd R.BOOT_FLOOR 0, s.blk.rd R.BOOT_FLOOR 1, 0] ++ (List.range 7).map (s.blk.rd
      R.BOOT_VER) ++ [0]).flatMap (leBytes 4)) = true) ∧ s.blk.Beside (offsOf [R.UPD_STAT] ++ d.regs) d.parts b)

/-- Activation, trial and session times, guards, Recovery and the Mladet port change the state (from R612, R614,
R616, R617 and R620 to R622). Rests on R612, R614, R616, R617, R620, R621, R622; the clauses state the parts of
these rules that they write out. Choices of the model in it: log 128, 130. -/
def Obligations.BootEvents : Prop :=
  (∀ (s : State), s.blk.Ready → s.blk.getF F.UPD_STAT_STATE 0 = 2 → Completes .activationReset s fun b => b.flag
      F.PWR_RSTCAUSE_UPDACT 0 = true ∧ b.pw.inReset = .soc) ∧
  (∀ (s : State), s.blk.Ready → s.blk.getF F.UPD_STAT_STATE 0 = 3 → Completes .trialTimeout s fun b =>
      (b.flash.active = s.blk.flash.active ^^^ s.blk.flash.trial ∧ b.flash.staged = s.blk.flash.staged |||
      s.blk.flash.trial ∧ b.flash.trial = 0 ∧ b.getF F.UPD_STAT_STATE 0 = 0 ∧ b.getF F.UPD_STAT_REVERTED 0 = 1 ∧
      b.boot.banks = s.blk.boot.banks ∧ ((s.blk.pg 10 = true → s.blk.rootValid 0 = true ∧ Tab.get 0 s.blk.ciph.test
      1 = 1 ∧ Tab.get 0 s.blk.ciph.test 2 = 1 ∧ s.blk.jobFault 0 4 = false) → b.flash.bcr = RecCopy.rewrite
      s.blk.flash.bcr b.bootRec)) ∧ s.blk.Beside (offsOf [R.BOOT_BANK, R.BOOT_FLOOR, R.CIPH_CNT, R.CIPH_LOAD,
      R.CIPH_STAT, R.KEY_CACHE, R.KEY_CCNT, R.KEY_STAT, R.PKE_STAT, R.UPD_STAGED, R.UPD_STAT, R.UPD_SVER])
      [Part.boot, Part.ciph, Part.flash] b) ∧
  (∀ (s : State) (s0 : UpdSess), s.blk.Ready → s.blk.boot.sess = some s0 → Completes .sessionTimeout s fun b =>
      b.boot.sess = none ∧ b.getF F.UPD_STAT_LASTCAUSE 0 = 16 ∧ b.getF F.UPD_STAT_STATE 0 = 0 ∧ (b.copyOf (1 -
      s.blk.activeBank s0.comp) s0.comp) = {} ∧ s.blk.Beside (offsOf [R.UPD_RCVD, R.UPD_STAT]) [Part.boot,
      Part.flash] b) ∧
  (∀ (s : State) (kind : Fin 4), s.blk.Ready → (kind.val = 3 → s.blk.feedLow = false) → (kind.val = 2 →
      s.blk.feedLow = true) → Completes (.guardTimer kind) s fun b => ((kind.val = 0 → b.boot.spdOk = false ∧
      (b.getF F.PWR_STATE_STATE 0 ≠ 4 → bit b.guards 0 = true)) ∧ (kind.val = 1 → b.boot.parkOk = false) ∧ (kind.val
      = 2 → b.boot.batLow = true) ∧ (kind.val = 3 → b.boot.batLow = false)) ∧ s.blk.Beside [] [Part.boot] b) ∧
  (∀ (s : State) (who : Who), s.blk.Ready → s.blk.CanWrite who (R.BOOT_CTL.at 0) → (who = .core 0 ∨ who = .core 1) →
      Completes (.recoveryRequest who 0x2EC0) s fun b => b.flag F.PWR_RSTCAUSE_RECSW 0 = true ∧ b.pw.inReset = .soc) ∧
  (∀ (s : State) (who : Who) (key : BitVec 16), s.blk.Ready → s.blk.CanWrite who (R.BOOT_CTL.at 0) → (who = .core 0
      ∨ who = .core 1) → key.toNat ≠ 0x2EC0 → Completes (.recoveryRequest who key) s fun b => b.pw.inReset = .none ∧
      b.flag F.PWR_RSTCAUSE_RECSW 0 = s.blk.flag F.PWR_RSTCAUSE_RECSW 0 ∧ s.blk.Beside (offsOf [R.BOOT_CTL,
      R.HB_CMD, R.HB_FBSTAT, R.HB_STAT, R.HSW_CMD, R.HSW_STAT, R.LMP_FADE, R.PWR_RSTCAUSE, R.PXL_FADE, R.WEIR_STAT])
      ([Part.boot, Part.pw, Part.weir] ++ Part.chans ++ Part.fades ++ Part.fbs ++ Part.pxs) b) ∧
  (∀ (s : State) (st : Nat) (bs : List Byte), s.blk.Ready → s.blk.boot.resp = some (st, bs) → Completes .get s fun b
      => b.boot.resp = none ∧ b.out.contains (.mladet st bs) = true ∧ s.blk.Beside [] [Part.boot] b) ∧
  (∀ (s : State) (off : BitVec 20) (count : Fin 17), s.blk.Ready → s.blk.boot.resp = none → 1 ≤ count.val →
      count.val ≤ 16 → off.toNat % 4 = 0 → 0x1000 ≤ off.toNat → off.toNat + 4 * count.val ≤ 0x2000 → Completes
      (.regRd true off count) s fun b => ((b.boot.resp.map fun r => (r.1, r.2.length)) = some (St.ok, 4 *
      count.val)) ∧ s.blk.Beside (offsOf Regs.current) [Part.boot, Part.ciph, Part.net, Part.pw] b) ∧
  (∀ (s : State) (off : BitVec 20) (count : Fin 17), s.blk.Ready → s.blk.boot.resp = none → Completes (.regRd false
      off count) s fun b => b.boot.resp = some (St.badDesc, []) ∧ s.blk.Beside (offsOf Regs.current) [Part.boot,
      Part.ciph, Part.net, Part.pw] b) ∧
  (∀ (s : State) (dws : List Word), s.blk.Ready → s.blk.boot.resp = none →
      ({ src := .fwRing 0, dws := dws, payload := [] } : Desc).ok 0xB8 64 65536 [] = true →
      ({ src := .fwRing 0, dws := dws, payload := [] } : Desc).node = s.blk.nodeId →
      ({ src := .fwRing 0, dws := dws, payload := [] } : Desc).bcast = false →
      ({ src := .fwRing 0, dws := dws, payload := [] } : Desc).addr = 0 →
      ({ src := .fwRing 0, dws := dws, payload := [] } : Desc).len ≤ 4096 → s.blk.getF F.PWR_STATE_STATE 0 ≠ 1 →
      Completes (.mladetDesc true false dws []) s fun b => ((b.boot.resp.map fun r => (r.1, r.2.length, (r.2.drop
      20).take 4)) = some (St.ok, 80, leBytes 4 (s.blk.rd R.UPD_RCVD 0))) ∧ s.blk.Beside (offsOf (Regs.cipher ++
      Regs.staged ++ [R.BOOT_STAT, R.BOOT_VER, R.CDC_ISTAT, R.CIPH_LOAD])) [Part.boot, Part.ciph, Part.flash] b) ∧
  (∀ (s : State), s.blk.Ready → s.blk.boot.resp = none → Completes (.recReq true [0xC0, 0x7E]) s fun b =>
      b.boot.recReq = true ∧ b.getF F.BOOT_STAT_RECREQ 0 = 1 ∧ b.boot.resp = some (St.ok, []) ∧ s.blk.Beside (offsOf
      [R.BOOT_STAT]) [Part.boot] b) ∧
  (∀ (s : State), s.blk.Ready → s.blk.flag F.SYS_VARIANT_DBGFUSE 0 = false → Completes .debugConnect s fun b =>
      b.getF F.BOOT_STAT_DBGSEEN 0 = 1 ∧ s.blk.Beside (offsOf [R.BOOT_STAT]) [] b)

/-- Enable, HELLO, links and descriptors give the roles of R631 to R633, R640 to R642, R644 and R646. Rests on R632,
R633, R634, R640, R641, R642, R644, R646; the clauses state the parts of these rules that they write out. Choices of
the model in it: log 118, 119, 120. -/
def Obligations.PairRoles : Prop :=
  (∀ (s : State) (d : Desc), s.blk.Ready → s.blk.Executes d → s.blk.Single d → d.ok 0xC0 48 65536 [] = true →
      Completes (.pairRead d) s fun b => (b.answered d (fun x => x.status == St.ok && x.cw2 == 48 && x.data ==
      ([s.blk.rd R.PAIR_CFG 0, b.rd R.PAIR_STAT 0, s.blk.rd R.PAIR_HSMASK 0, s.blk.rd R.PAIR_HSMASK 1, s.blk.rd
      R.PAIR_HSMASK 2, s.blk.rd R.PAIR_MASK 0, s.blk.rd R.PAIR_VMASK 0, s.blk.rd R.PAIR_CNT 0, s.blk.rd R.PAIR_OFFS
      0, 0, 0, 0].map (leBytes 4)).flatten) = true) ∧ s.blk.Beside (offsOf [R.PAIR_STAT] ++ d.regs) d.parts b) ∧
  (∀ (s : State) (d : Desc), s.blk.Ready → s.blk.Executes d → s.blk.Single d → d.ok 0xC1 0 0 [0, 0, 0, 3] = true →
      Completes (.pairClear d) s fun b => (b.answered d (fun x => x.status == St.ok) = true ∧ (bit (d.dw 8) 0 = true
      → bits (b.rd R.PAIR_STAT 0) 13 8 = 0) ∧ (bit (d.dw 8) 0 = false → bits (b.rd R.PAIR_STAT 0) 13 8 = bits
      (s.blk.rd R.PAIR_STAT 0) 13 8) ∧ b.role = (if bit (d.dw 8) 1 ∧ s.blk.role = 5 then 1 else s.blk.role)) ∧
      s.blk.Beside (offsOf (Regs.outputs ++ [R.HQ_QSTAT, R.PAIR_STAT]) ++ d.regs) ([Part.chn, Part.flights,
      Part.lsBy, Part.pair] ++ Part.outputs ++ d.parts) b) ∧
  (∀ (s : State) (d : Desc), s.blk.Ready → s.blk.Executes d → s.blk.Single d → d.ok 0xC2 0 0 [] = true → s.blk.role
      = 2 → Completes (.pairYield d) s fun b => (b.answered d (fun x => x.status == St.ok) = true ∧ b.role = 2 ∧
      b.pair.yield = true) ∧ s.blk.Beside (offsOf [R.HQ_QSTAT] ++ d.regs) ([Part.chn, Part.flights, Part.pair] ++
      d.parts) b) ∧
  (∀ (s : State) (who : Who), s.blk.Ready → s.blk.CanWrite who (R.PAIR_CFG.at 0) → s.blk.role = 0 → s.blk.flag
      F.SYS_NODE_VALID 0 = true → s.blk.getF F.PAIR_CFG_PARTNER 0 ≠ s.blk.nodeId → s.blk.getF F.PWR_STATE_STATE 0 ≠
      4 → Completes (.pairEnable who) s fun b => (b.getF F.PAIR_CFG_EN 0 = 1 ∧ b.role = 1 ∧ b.pair.cfg.drop 1 =
      [s.blk.rd R.PAIR_HSMASK 0, s.blk.rd R.PAIR_HSMASK 1, s.blk.rd R.PAIR_HSMASK 2, s.blk.rd R.PAIR_MASK 0,
      s.blk.rd R.PAIR_VMASK 0] ∧ b.pairPartner = s.blk.getF F.PAIR_CFG_PARTNER 0 ∧ (s.blk.flag F.PAIR_STAT_LINK 0 =
      true → b.out.contains (.pairHello b.ownHello) = true)) ∧ s.blk.Beside (offsOf (Regs.outputs ++ [R.PAIR_CFG,
      R.PAIR_STAT])) ([Part.lsBy, Part.pair] ++ Part.outputs) b) ∧
  (∀ (s : State) (who : Who), s.blk.Ready → s.blk.CanWrite who (R.PAIR_CFG.at 0) → s.blk.role = 0 → (s.blk.flag
      F.SYS_NODE_VALID 0 = false ∨ s.blk.getF F.PAIR_CFG_PARTNER 0 = s.blk.nodeId) → Completes (.pairEnable who) s
      fun b => b.getF F.PAIR_CFG_EN 0 = 0 ∧ b.role = 0 ∧ b.getF F.PAIR_STAT_CFGERR 0 = 1 ∧ s.blk.Beside (offsOf
      (Regs.outputs ++ [R.PAIR_CFG, R.PAIR_STAT])) ([Part.lsBy, Part.pair] ++ Part.outputs) b) ∧
  (∀ (s : State) (who : Who), s.blk.Ready → s.blk.CanWrite who (R.PAIR_CFG.at 0) → s.blk.role ≠ 0 → Completes
      (.pairDisable who) s fun b => (b.getF F.PAIR_CFG_EN 0 = 0 ∧ b.role = 0 ∧ (s.blk.flag F.PAIR_STAT_LINK 0 = true
      → b.out.contains .pairBye = true)) ∧ s.blk.Beside (offsOf (Regs.outputs ++ [R.PAIR_CFG, R.PAIR_STAT]))
      ([Part.lsBy, Part.pair] ++ Part.outputs) b) ∧
  (∀ (s : State) (h : Hello), s.blk.Ready → s.blk.flag F.PAIR_STAT_LINK 0 = true → h.node.val = s.blk.pairPartner →
      h.partner.val = s.blk.nodeId → h.masks = (s.blk.pair.cfg.drop 1).map (BitVec.ofNat 32) → h.sysv = s.blk.flag
      F.PWR_CFG_SYSV 0 → s.blk.role = 1 → h.role.val ≠ 2 → h.role.val ≠ 4 → Completes (.pairHello h) s fun b =>
      (b.role = (if s.blk.nodeId < h.node.val then 2 else 3)) ∧ s.blk.Beside (offsOf (Regs.outputs ++
      [R.PAIR_STAT])) ([Part.lsBy, Part.pair] ++ Part.outputs) b) ∧
  (∀ (s : State) (h : Hello), s.blk.Ready → s.blk.flag F.PAIR_STAT_LINK 0 = true → h.node.val = s.blk.pairPartner →
      h.partner.val = s.blk.nodeId → h.masks = (s.blk.pair.cfg.drop 1).map (BitVec.ofNat 32) → h.sysv = s.blk.flag
      F.PWR_CFG_SYSV 0 → s.blk.role = 1 → (h.role.val = 2 ∨ h.role.val = 4) → Completes (.pairHello h) s fun b =>
      b.role = 3 ∧ s.blk.Beside (offsOf (Regs.outputs ++ [R.PAIR_STAT])) ([Part.lsBy, Part.pair] ++ Part.outputs) b) ∧
  (∀ (s : State) (h : Hello), s.blk.Ready → s.blk.flag F.PAIR_STAT_LINK 0 = true → h.node.val = s.blk.pairPartner →
      h.partner.val = s.blk.nodeId → h.masks = (s.blk.pair.cfg.drop 1).map (BitVec.ofNat 32) → h.sysv = s.blk.flag
      F.PWR_CFG_SYSV 0 → (s.blk.role = 2 ∨ s.blk.role = 4) → (h.role.val = 2 ∨ h.role.val = 4) → Completes
      (.pairHello h) s fun b => (b.role = (if s.blk.nodeId < h.node.val then 2 else 3) ∧ (h.node.val ≤ s.blk.nodeId
      → b.getF F.PAIR_STAT_SPLIT 0 = 1)) ∧ s.blk.Beside (offsOf (Regs.outputs ++ [R.PAIR_STAT])) ([Part.lsBy,
      Part.pair] ++ Part.outputs) b) ∧
  (∀ (s : State) (h : Hello), s.blk.Ready → s.blk.flag F.PAIR_STAT_LINK 0 = true → s.blk.role ≠ 0 → s.blk.role ≠ 5 →
      (h.node.val ≠ s.blk.pairPartner ∨ h.partner.val ≠ s.blk.nodeId) → Completes (.pairHello h) s fun b => b.role =
      5 ∧ b.getF F.PAIR_STAT_CFGERR 0 = 1 ∧ s.blk.Beside (offsOf (Regs.outputs ++ [R.PAIR_STAT])) ([Part.lsBy,
      Part.pair] ++ Part.outputs) b) ∧
  (∀ (s : State) (h : Hello), s.blk.Ready → s.blk.flag F.PAIR_STAT_LINK 0 = true → h.node.val = s.blk.pairPartner →
      h.partner.val = s.blk.nodeId → s.blk.role ≠ 0 → s.blk.role ≠ 5 → (h.masks ≠ (s.blk.pair.cfg.drop 1).map
      (BitVec.ofNat 32) ∨ h.sysv ≠ s.blk.flag F.PWR_CFG_SYSV 0) → Completes (.pairHello h) s fun b => (b.role = (if
      s.blk.nodeId < h.node.val then 4 else 5) ∧ b.getF F.PAIR_STAT_CFGERR 0 = 1) ∧ s.blk.Beside (offsOf
      (Regs.outputs ++ [R.PAIR_STAT])) ([Part.lsBy, Part.pair] ++ Part.outputs) b) ∧
  (∀ (s : State) (recent : Bool), s.blk.Ready → s.blk.role = 1 → Completes (.helloTimeoutPair recent) s fun b =>
      (b.role = (if s.blk.pairReach recent = true ∧ s.blk.pairPartner ≤ s.blk.nodeId then 5 else 4) ∧
      (s.blk.pairReach recent = true → s.blk.pairPartner ≤ s.blk.nodeId → b.getF F.PAIR_STAT_SPLIT 0 = 1)) ∧
      s.blk.Beside (offsOf (Regs.outputs ++ [R.PAIR_STAT])) ([Part.lsBy, Part.pair] ++ Part.outputs) b) ∧
  (∀ (s : State), s.blk.Ready → s.blk.role ≠ 0 → s.blk.flag F.PAIR_STAT_LINK 0 = false → Completes .pairLinkUp s fun
      b => b.getF F.PAIR_STAT_LINK 0 = 1 ∧ b.HasEvent 240 ∧ b.out.contains (.pairHello b.ownHello) = true ∧
      s.blk.Beside (offsOf (Regs.outputs ++ [R.PAIR_STAT])) ([Part.lsBy, Part.pair] ++ Part.outputs) b) ∧
  (∀ (s : State), s.blk.Ready → s.blk.flag F.PAIR_STAT_LINK 0 = true → Completes .pairLinkDown s fun b => (b.getF
      F.PAIR_STAT_LINK 0 = 0 ∧ b.getF F.PAIR_STAT_LINKDN 0 = 1 ∧ (s.blk.flag F.PAIR_STAT_LINKDN 0 = false →
      b.HasEvent 240)) ∧ s.blk.Beside (offsOf [R.PAIR_STAT]) [] b)

/-- Snapshots, heartbeats, losses and BYE act on shadow, offset and role (from R635 to R639, R641, R642 and R645).
Rests on R635, R636, R637, R638, R639, R641, R642; the clauses state the parts of these rules that they write out.
Choices of the model in it: log 80, 81, 82, 118, 119, 120. -/
def Obligations.PairTraffic : Prop :=
  (∀ (s : State), s.blk.Ready → s.blk.role = 2 → s.blk.flag F.PAIR_STAT_LINK 0 = true → Completes .pairSnapshotSend
      s fun b => b.out.contains (.pairSnap s.blk.snapshot) = true ∧ b.role = 2 ∧ s.blk.Beside (offsOf [R.HB_CMD,
      R.HB_FBSTAT, R.HB_STAT, R.HSW_CMD, R.HSW_STAT]) (Part.chans ++ Part.fbs) b) ∧
  (∀ (s : State) (l : List Mirror) (ok : Bool), s.blk.Ready → s.blk.role = 3 → s.blk.flag F.PAIR_STAT_LINK 0 = true
      → Completes (.pairSnapshot l ok) s fun b => (b.pair.shadow = (if ok then l else s.blk.pair.shadow) ∧
      b.pair.snapAt = (if ok then s.blk.pw.tbase else s.blk.pair.snapAt) ∧ (ok = true → b.getF F.PAIR_STAT_SNAPAGE 0
      = 0) ∧ (ok = false → b.getF F.PAIR_STAT_MIRERR 0 = 1)) ∧ s.blk.Beside (offsOf [R.PAIR_STAT]) [Part.pair] b) ∧
  (∀ (s : State), s.blk.Ready → s.blk.role ≠ 0 → s.blk.flag F.PAIR_STAT_LINK 0 = true → Completes .pairHeartbeatSend
      s fun b => (b.out.contains (.pairBeat (if s.blk.pair.yield then 3 else s.blk.role) s.blk.weirState) = true) ∧
      s.blk.Beside [] [] b) ∧
  (∀ (s : State) (role : Fin 6) (weir : Fin 4) (missed : Fin 3) (offs : Word), s.blk.Ready → s.blk.role ≠ 0 →
      s.blk.pair.yield = false → s.blk.flag F.PAIR_STAT_LINK 0 = true → (s.blk.role ≠ 3 ∨ role.val ≠ 3) → weir.val <
      2 → Completes (.pairHeartbeat role weir missed offs) s fun b => b.getF F.PAIR_OFFS_OFFSET 0 = offs.toNat ∧
      b.getF F.PAIR_CNT_MISSED 0 = min 65535 (s.blk.getF F.PAIR_CNT_MISSED 0 + missed) ∧ b.role = s.blk.role ∧
      b.pair.late = false ∧ s.blk.Beside (offsOf (Regs.outputs ++ Regs.answers ++ [R.BST_STAT, R.CAN_STAT,
      R.DIO_DOCMD, R.DIO_DOSTAT, R.DIO_SVSTAT, R.ETH_PSTAT, R.HB_WINPOS, R.LIN_STAT, R.LMP_CFG, R.LMP_GRP,
      R.PAIR_CNT, R.PAIR_OFFS, R.PAIR_STAT, R.VLV_PROFA, R.VLV_PROFB, R.VLV_PROFC])) ([Part.dieq, Part.lsBy,
      Part.pair] ++ Part.dOuts ++ Part.outputs ++ Part.mtxs ++ Part.svs ++ Part.answers) b) ∧
  (∀ (s : State) (weir : Fin 4) (missed : Fin 3) (offs : Word), s.blk.Ready → s.blk.role = 2 → s.blk.pair.yield =
      true → s.blk.flag F.PAIR_STAT_LINK 0 = true → weir.val < 2 → Completes (.pairHeartbeat 2 weir missed offs) s
      fun b => (b.role = 3 ∧ b.pair.yield = false ∧ (s.blk.underWeir = false → ((List.range 96).all fun n =>
      !s.blk.mirHs n || s.blk.isFollower n || s.blk.flag F.HSW_CFG_LAMP n || s.blk.chState n == Ch.disabled ||
      s.blk.chState n == Ch.locked || b.cget C.duty n == 0) = true)) ∧ s.blk.Beside (offsOf (Regs.outputs ++
      Regs.answers ++ [R.BST_STAT, R.CAN_STAT, R.DIO_DOCMD, R.DIO_DOSTAT, R.DIO_SVSTAT, R.ETH_PSTAT, R.HB_WINPOS,
      R.LIN_STAT, R.LMP_CFG, R.LMP_GRP, R.PAIR_CNT, R.PAIR_OFFS, R.PAIR_STAT, R.VLV_PROFA, R.VLV_PROFB,
      R.VLV_PROFC])) ([Part.dieq, Part.lsBy, Part.pair] ++ Part.dOuts ++ Part.outputs ++ Part.mtxs ++ Part.svs ++
      Part.answers) b) ∧
  (∀ (s : State) (missed : Fin 3) (offs : Word), s.blk.Ready → s.blk.role = 3 → s.blk.flag F.PAIR_STAT_LINK 0 = true
      → s.blk.underWeir = false → Completes (.pairHeartbeat 3 1 missed offs) s fun b => (b.role = 2 ∧ b.getF
      F.PAIR_STAT_TAKEOVER 0 = 1 ∧ b.getF F.PAIR_CNT_TAKEOVERS 0 = min 65535 (s.blk.getF F.PAIR_CNT_TAKEOVERS 0 + 1)
      ∧ (s.blk.flag F.PAIR_STAT_TAKEOVER 0 = false → b.HasEvent 241)) ∧ s.blk.Beside (offsOf (Regs.outputs ++
      Regs.answers ++ [R.BST_STAT, R.CAN_STAT, R.DIO_DOCMD, R.DIO_DOSTAT, R.DIO_SVSTAT, R.ETH_PSTAT, R.HB_WINPOS,
      R.LIN_STAT, R.LMP_CFG, R.LMP_GRP, R.PAIR_CNT, R.PAIR_OFFS, R.PAIR_STAT, R.VLV_PROFA, R.VLV_PROFB,
      R.VLV_PROFC])) ([Part.dieq, Part.lsBy, Part.pair] ++ Part.dOuts ++ Part.mtxs ++ Part.svs ++ Part.outputs ++
      Part.answers) b) ∧
  (∀ (s : State) (recent : Bool), s.blk.Ready → s.blk.role = 2 → Completes (.heartbeatLoss recent) s fun b => b.role
      = 4 ∧ b.getF F.PAIR_STAT_FOLLOST 0 = 1 ∧ b.getF F.PAIR_CNT_MISSED 0 = min 65535 (s.blk.getF F.PAIR_CNT_MISSED
      0 + 3) ∧ s.blk.Beside (offsOf (Regs.outputs ++ Regs.answers ++ [R.BST_STAT, R.CAN_STAT, R.DIO_DOCMD,
      R.DIO_DOSTAT, R.DIO_SVSTAT, R.ETH_PSTAT, R.HB_WINPOS, R.LIN_STAT, R.LMP_CFG, R.LMP_GRP, R.PAIR_CNT,
      R.PAIR_STAT, R.VLV_PROFA, R.VLV_PROFB, R.VLV_PROFC])) ([Part.dieq, Part.lsBy, Part.pair] ++ Part.dOuts ++
      Part.mtxs ++ Part.svs ++ Part.outputs ++ Part.answers) b) ∧
  (∀ (s : State) (recent : Bool), s.blk.Ready → s.blk.role = 3 → s.blk.pairReach recent = true → Completes
      (.heartbeatLoss recent) s fun b => b.role = 5 ∧ b.getF F.PAIR_STAT_SPLIT 0 = 1 ∧ b.getF F.PAIR_STAT_LINKDN 0 =
      1 ∧ s.blk.Beside (offsOf (Regs.outputs ++ Regs.answers ++ [R.BST_STAT, R.CAN_STAT, R.DIO_DOCMD, R.DIO_DOSTAT,
      R.DIO_SVSTAT, R.ETH_PSTAT, R.HB_WINPOS, R.LIN_STAT, R.LMP_CFG, R.LMP_GRP, R.PAIR_CNT, R.PAIR_STAT,
      R.VLV_PROFA, R.VLV_PROFB, R.VLV_PROFC])) ([Part.dieq, Part.lsBy, Part.pair] ++ Part.dOuts ++ Part.mtxs ++
      Part.svs ++ Part.outputs ++ Part.answers) b) ∧
  (∀ (s : State) (recent : Bool), s.blk.Ready → s.blk.role = 3 → s.blk.pairReach recent = false → s.blk.underWeir =
      false → Completes (.heartbeatLoss recent) s fun b => b.role = 4 ∧ b.getF F.PAIR_STAT_TAKEOVER 0 = 1 ∧ b.getF
      F.PAIR_CNT_TAKEOVERS 0 = min 65535 (s.blk.getF F.PAIR_CNT_TAKEOVERS 0 + 1) ∧ s.blk.Beside (offsOf
      (Regs.outputs ++ Regs.answers ++ [R.BST_STAT, R.CAN_STAT, R.DIO_DOCMD, R.DIO_DOSTAT, R.DIO_SVSTAT,
      R.ETH_PSTAT, R.HB_WINPOS, R.LIN_STAT, R.LMP_CFG, R.LMP_GRP, R.PAIR_CNT, R.PAIR_STAT, R.VLV_PROFA, R.VLV_PROFB,
      R.VLV_PROFC])) ([Part.dieq, Part.lsBy, Part.pair] ++ Part.dOuts ++ Part.mtxs ++ Part.svs ++ Part.outputs ++
      Part.answers) b) ∧
  (∀ (s : State), s.blk.Ready → s.blk.role ≠ 0 → s.blk.flag F.PAIR_STAT_LINK 0 = true → Completes .bye s fun b =>
      b.role = 4 ∧ b.getF F.PAIR_CNT_TAKEOVERS 0 = s.blk.getF F.PAIR_CNT_TAKEOVERS 0 ∧ s.blk.Beside (offsOf
      (Regs.outputs ++ [R.PAIR_STAT])) ([Part.lsBy, Part.pair] ++ Part.outputs) b)

/-- MD starts, counts energy and hours, holds up and stores (from R648, R650, R651, R653, R655 and R656). Rests on
R648, R650, R651, R653, R655, R656; the clauses state the parts of these rules that they write out. Choices of the
model in it: log 84, 85, 121, 122. -/
def Obligations.GaugeMetering : Prop :=
  (∀ (s : State) (bad : Fin 3), s.blk.Ready → s.blk.gauge.state = 0 → Completes (.mdPowerUp true bad) s fun b =>
      (b.gauge.gsup = true ∧ b.gauge.live.gh = s.blk.gauge.store.gh ∧ b.gauge.live.gm = s.blk.gauge.store.gm ∧
      b.gauge.live.gt = s.blk.gauge.store.gt ∧ b.gauge.active = s.blk.gauge.bestSet ∧ b.gauge.state = (if bad.val =
      2 ∨ (s.blk.gauge.sealed = true ∧ s.blk.gauge.bestSet = none) then 3 else 1)) ∧ s.blk.Beside (offsOf
      Regs.answers) ([Part.gauge] ++ Part.answers) b) ∧
  (∀ (s : State) (bad : Fin 3), s.blk.Ready → s.blk.gauge.state = 0 → Completes (.mdPowerUp false bad) s fun b =>
      (b.gauge.state = 3 ∧ (b.gauge.live.log.getLast?.map fun e => e.code) = some 9) ∧ s.blk.Beside (offsOf
      Regs.answers) ([Part.gauge] ++ Part.answers) b) ∧
  (∀ (s : State), s.blk.Ready → s.blk.gauge.state = 1 → s.blk.gauge.gsup = true → Completes .gsupLoss s fun b =>
      (b.gauge.state = 2 ∧ b.gauge.gsup = false ∧ (b.gauge.live.log.getLast?.map fun e => e.code) = some 2) ∧
      s.blk.Beside [] [Part.gauge] b) ∧
  (∀ (s : State), s.blk.Ready → s.blk.gauge.state = 2 → s.blk.gauge.gsup = false → Completes .gsupReturn s fun b =>
      b.gauge.state = 1 ∧ b.gauge.gsup = true ∧ b.gauge.live = s.blk.gauge.live ∧ s.blk.Beside [] [Part.gauge] b) ∧
  (∀ (s : State), s.blk.Ready → s.blk.gauge.state = 2 → s.blk.gauge.gsup = false → Completes .holdupStore s fun b =>
      b.gauge.store = s.blk.gauge.live ∧ b.gauge.live = s.blk.gauge.live ∧ s.blk.Beside [] [Part.gauge] b) ∧
  (∀ (s : State), s.blk.Ready → s.blk.gauge.state = 2 → s.blk.gauge.gsup = false → Completes .holdupEnd s fun b =>
      (b.gauge.state = 0 ∧ b.gauge.store.gh = s.blk.gauge.live.gh ∧ b.gauge.store.gm = s.blk.gauge.live.gm ∧
      b.gauge.store.seq = s.blk.gauge.live.seq + 1 ∧ (b.gauge.store.log.getLast?.map fun e => e.code) = some 3) ∧
      s.blk.Beside [] [Part.gauge] b) ∧
  (∀ (s : State) (ma : List Int) (v : List Int), s.blk.Ready → s.blk.gauge.counting = true → (∀ n ∈ List.range 8, 0
      ≤ v.getD n 0) → s.blk.gauge.live.gm.length = 8 → s.blk.gauge.gmRem.length = 8 → (∀ n ∈ List.range 8,
      (s.blk.gauge.live.gm.getD n 0 * mwhUnit + s.blk.gauge.gmRem.getD n 0) + (ma.getD n 0 * (v.getD n 0 * 2)).toNat
      < mwhUnit * 2 ^ 48) → Completes (.meterIntegrate ma v) s fun b => (((List.range 8).all fun n =>
      (b.gauge.live.gm.getD n 0 * mwhUnit + b.gauge.gmRem.getD n 0) == (s.blk.gauge.live.gm.getD n 0 * mwhUnit +
      s.blk.gauge.gmRem.getD n 0) + (if ma.getD n 0 < 50 then 0 else (ma.getD n 0 * (v.getD n 0 * 2)).toNat)) = true
      ∧ b.gauge.curr = (List.range 8).map fun n => ma.getD n 0) ∧ s.blk.Beside [] [Part.gauge] b) ∧
  (∀ (s : State) (gin : Fin 64), s.blk.Ready → s.blk.gauge.counting = true → s.blk.gauge.bestSet =
      s.blk.gauge.active → s.blk.gauge.tenth < 10 → s.blk.gauge.live.gh.length = 8 → s.blk.gauge.ghRem.length = 8 →
      (∀ k ∈ List.range 8, s.blk.gauge.ghRem.getD k 0 < 10 ∧ s.blk.gauge.live.gh.getD k 0 < 0xFFFFFFFF) →
      s.blk.gauge.live.gt + 1 < 2 ^ 32 → Completes (.conditionEvaluation gin) s fun b => (b.gauge.gin = gin ∧
      b.gauge.live.gt * 10 + b.gauge.tenth = s.blk.gauge.live.gt * 10 + s.blk.gauge.tenth + 1 ∧ ((List.range 8).all
      fun k => bit b.gauge.count k == (({ s.blk.gauge with gin := gin.val } : GaugeSt).condHolds
      ((s.blk.gauge.actSet.elim 0 fun x => x.conds.getD k 0) : Word).toNat) && b.gauge.live.gh.getD k 0 * 10 +
      b.gauge.ghRem.getD k 0 == s.blk.gauge.live.gh.getD k 0 * 10 + s.blk.gauge.ghRem.getD k 0 + b2n
      (({ s.blk.gauge with gin := gin.val } : GaugeSt).condHolds ((s.blk.gauge.actSet.elim 0 fun x => x.conds.getD k
      0) : Word).toNat)) = true) ∧ s.blk.Beside [] [Part.gauge] b)

/-- Snapshots, readout commands and descriptors show and set the gauge (from R649, R653, R654 and R656 to R661).
Rests on R653, R654, R656, R657, R658, R660, R661; the clauses state the parts of these rules that they write out.
Choices of the model in it: log 86, 121, 122. -/
def Obligations.GaugeWindow : Prop :=
  (∀ (s : State) (d : Desc), s.blk.Ready → s.blk.Executes d → s.blk.Single d → d.ok 0xC8 104 65536 [] = true →
      s.blk.flag F.GAUGE_STAT_VALID 0 = true → Completes (.gaugeRead d) s fun b => (b.answered d (fun x => x.status
      == St.ok && x.cw2 == 104 && x.data == GaugeSt.recordBytes (fun a => Tab.get 0 s.blk.regs a) && x.data.length
      == 104) = true) ∧ s.blk.Beside d.regs d.parts b) ∧
  (∀ (s : State) (d : Desc), s.blk.Ready → s.blk.Executes d → s.blk.Single d → d.ok 0xC9 (16 * d.dw 6) 65536
      [0xFFFFFFFF, 0xFF] = true → 1 ≤ d.dw 6 → d.dw 6 ≤ 128 → s.blk.flag F.GAUGE_STAT_VALID 0 = true → Completes
      (.gaugeLog d) s fun b => (b.answered d (fun x => x.status == St.ok && x.cw2 == 16 * (s.blk.gauge.entriesFrom
      (d.dw 5) (d.dw 6)).length && x.data == ((s.blk.gauge.entriesFrom (d.dw 5) (d.dw 6)).map
      GaugeSt.entryBytes).flatten) = true) ∧ s.blk.Beside d.regs d.parts b) ∧
  (∀ (s : State), s.blk.Ready → s.blk.gauge.state ≠ 0 → Completes .snapshotSend s fun b => b.gauge.snaps =
      (s.blk.gauge.snaps + 1) % 65536 ∧ b.gauge.sent = some
      ({ s.blk.gauge with snaps := (s.blk.gauge.snaps + 1) % 65536 } : GaugeSt).record ∧ s.blk.Beside []
      [Part.gauge] b) ∧
  (∀ (s : State), s.blk.Ready → s.blk.gauge.sent = some s.blk.gauge.record → s.blk.gauge.state = 1 →
      s.blk.gauge.live.gt < 2 ^ 32 → s.blk.getF F.GAUGE_LOGSEQ_SEQ 0 = 0 → Completes .snapshotArrival s fun b =>
      b.gauge.sent = none ∧ b.getF F.GAUGE_STAT_VALID 0 = 1 ∧ b.getF F.GAUGE_STAT_STATE 0 = 1 ∧ b.rd R.GAUGE_GT 0 =
      s.blk.gauge.live.gt ∧ b.getF F.SYS_VARIANT_SEALFUSE 0 = b2n s.blk.gauge.sealed ∧ bit (b.getF F.PWR_DOMSTAT_PG
      0) 13 = true ∧ s.blk.Beside (offsOf [R.GAUGE_GH, R.GAUGE_GI, R.GAUGE_GM0, R.GAUGE_GM1, R.GAUGE_GT, R.GAUGE_ID,
      R.GAUGE_IN, R.GAUGE_LOGSEQ, R.GAUGE_PAR, R.GAUGE_STAT, R.PWR_DOMSTAT, R.SYS_VARIANT]) [Part.gauge] b) ∧
  (∀ (s : State), s.blk.Ready → s.blk.gaugeUnmetered = false → Completes .snapshotTimeout s fun b => b.getF
      F.GAUGE_STAT_VALID 0 = 0 ∧ b.getF F.GAUGE_STAT_STATE 0 = 0 ∧ b.HasEvent 244 ∧ bit (b.getF F.PWR_DOMSTAT_PG 0)
      13 = false ∧ s.blk.Beside (offsOf [R.GAUGE_STAT, R.PWR_DOMSTAT]) [Part.pw] b) ∧
  (∀ (s : State), s.blk.Ready → s.blk.gauge.state = 1 → Completes (.ident true) s fun b => ((b.out.any fun x =>
      match x with | .gauge st bs => st == St.ok && bs.length == 18 && (bs.drop 17) == leBytes 1 (b2n s.blk.gauge.sealed) && (bs.drop 4).take 1 == leBytes 1 (s.blk.gauge.actSet.elim 0 fun x => x.parver.toNat) | _ => false)
      = true) ∧ s.blk.Beside [] [] b) ∧
  (∀ (s : State), s.blk.Ready → s.blk.gauge.state = 1 → Completes (.read true) s fun b => (b.out.contains (.gauge
      St.ok (GaugeSt.recordBytes fun a => (s.blk.gauge.record.lookup a).getD 0)) = true) ∧ s.blk.Beside [] [] b) ∧
  (∀ (s : State) (seq : Word) (n : Byte), s.blk.Ready → s.blk.gauge.state = 1 → 1 ≤ n.toNat → n.toNat ≤ 64 →
      Completes (.log true seq n) s fun b => b.out.contains (.gauge St.ok ((s.blk.gauge.entriesFrom seq.toNat
      n.toNat).map GaugeSt.entryBytes).flatten) = true ∧ s.blk.Beside [] [] b) ∧
  (∀ (s : State) (set : ParamSet), s.blk.Ready → s.blk.gauge.state = 1 → Completes (.param true set) s fun b =>
      ((s.blk.gauge.sealed = false → s.blk.gauge.sets.length < 4 → b.gauge.sets = s.blk.gauge.sets ++ [set] ∧
      b.out.contains (.gauge St.ok []) = true) ∧ (s.blk.gauge.sealed = true ∨ 4 ≤ s.blk.gauge.sets.length →
      b.gauge.sets = s.blk.gauge.sets ∧ b.out.contains (.gauge St.refused []) = true)) ∧ s.blk.Beside []
      [Part.gauge] b) ∧
  (∀ (s : State) (crc : Word), s.blk.Ready → s.blk.gauge.state = 1 → Completes (.seal true crc) s fun b =>
      ((s.blk.gauge.sealOk crc.toNat = true → b.gauge.sealed = true ∧ b.out.contains (.gauge St.ok []) = true ∧
      (b.gauge.live.log.getLast?.map fun e => e.code) = some 5) ∧ (s.blk.gauge.sealOk crc.toNat = false →
      b.gauge.sealed = s.blk.gauge.sealed ∧ b.gauge.live = s.blk.gauge.live ∧ b.out.contains (.gauge St.refused [])
      = true)) ∧ s.blk.Beside [] [Part.gauge] b)

/-- Power, resets, domains, cores, watchdog, Still, wakes, customer instructions and register writes each answer a
next state, which holds the effect named. Rests on R9, R56, R58, R68, R69, R76, R93, R142, R475, R508, R535, R604;
the clauses state the parts of these rules that they write out. -/
def Obligations.SupplyAndRegisterCommandsComplete : Prop :=
  (∀ (s : State), ∃ t : State, exec .modulePowerOnReset s = .next t ∧ t.pending = s.pending ∧ t.blk.pw.inReset =
      .powerOn ∧ t.blk.pw.still = .awake ∧ t.blk.core = []) ∧
  (∀ (s : State), s.blk.pw.inReset ≠ .powerOn → ∃ t : State, exec .brownOut s = .next t ∧ t.pending = s.pending ∧
      t.blk.pw.inReset = .brownOut ∧ t.blk.pw.brown = true ∧ t.blk.core = []) ∧
  (∀ (s : State), s.blk.catchm.due = [] → s.blk.pg 1 = false → s.blk.pw.brown = true → s.blk.pw.inReset = .brownOut
      → ∃ t : State, exec .brownOutEnd s = .next t ∧ t.pending = s.pending ∧ t.blk.flag F.PWR_RSTCAUSE_BROWNOUT 0 =
      true ∧ t.blk.pw.brown = false) ∧
  (∀ (s : State), ∃ t : State, exec .supplyBelowRetention s = .next t ∧ t.pending = s.pending ∧ t.blk.pw.inReset =
      .powerOn ∧ t.blk.core = []) ∧
  (∀ (s : State) (bcr : Fin 4) (rec : Fin 4) (rk : Fin 16), s.blk.Ready → s.blk.pw.brown = false →
      s.blk.boot.coldWake = true → s.blk.boot.recReq = true → s.blk.catchm.later = [] → s.blk.pg 8 = true → ∃ t :
      State, exec (.coldBoot bcr rec rk) s = .next t ∧ t.pending = s.pending ∧ t.blk.getF F.PWR_STATE_STATE 0 = 4 ∧
      t.blk.flag F.BOOT_STAT_RECOVERY 0 = true) ∧
  (∀ (s : State) (c : Fin 2), s.blk.Ready → s.blk.CanWrite (.core (Fin.ofNat 15 c)) (R.PWR_STILL.at 0) → s.blk.getF
      F.PWR_STATE_STATE 0 = 2 → s.blk.anyOutput = false → s.blk.netsAsleep = true → ∃ t : State, exec (.stillRequest
      (.core (Fin.ofNat 15 c)) ⟨0x5711, []⟩) s = .next t ∧ t.pending = s.pending ∧ t.blk.pw.still = .entering) ∧
  (∀ (s : State) (rk : Fin 16), s.blk.pw.still = .entering → s.blk.pw.heldWake = false → s.blk.pw.gaugeOff = false →
      ∃ t : State, exec (.stillReached rk) s = .next t ∧ t.pending = s.pending ∧ t.blk.pw.still = .still ∧
      t.blk.getF F.PWR_STATE_STATE 0 = 1) ∧
  (∀ (s : State) (src : Fin 45) (phase : Fin 3) (seen : WakeSeen) (rk : Fin 16), (decide (src.val < 16) &&
      !((Tab.get none s.blk.pw.diWake src).all fun w => Block.diWakes w seen.di.mv seen.di.ticks seen.di.idle)) =
      false → ((Block.wakeCh src).all fun c => !((s.blk.detect c seen.net).2 == 0)) = true → s.blk.catchm.due = [] →
      s.blk.pw.still = .still → s.blk.pw.gaugeOff = false → s.blk.wakeEnabled src = true → s.blk.wakeArmed src =
      true → (List.range 8).all (fun n => s.blk.chState n == Ch.disabled) = true → ∃ t : State, exec
      (.wakeRecognised src phase seen rk) s = .next t ∧ t.pending = s.pending ∧ t.blk.pw.still = .waking ∧ t.blk.pg
      1 = true) ∧
  (∀ (s : State) (fl : List (Nat × Byte)), s.blk.Calm → s.blk.Tame → s.blk.pw.inReset = .none → s.blk.pw.still =
      .waking → s.blk.flag F.CATCH_INJ_ARM 0 = false → ∃ t : State, exec (.retainedHashComplete fl) s = .next t ∧
      t.pending = s.pending ∧ t.blk.pw.still = .awake ∧ t.blk.getF F.PWR_STATE_STILLRES 0 = 1) ∧
  (∀ (s : State), s.blk.catchm.due = [] → s.blk.pw.still = .still → s.blk.pg 1 = false → bit (s.blk.acs.still.getD 0
      0) 3 = true → ∃ t : State, exec (.stillPollBurst none) s = .next t ∧ t.pending = s.pending ∧ t.blk.acs.bursts
      = s.blk.acs.bursts + 1) ∧
  (∀ (s : State) (who : Who) (off : BitVec 24) (ws : List Word), s.blk.Ready → s.blk.spaceHeld = false → off.toNat <
      0x100000 → s.blk.writeCause who off.toNat 4 = none → (findReg off.toNat).isSome = true → ((findReg
      off.toNat).all fun x => (hookOf x.1 (Block.hooks who)).isNone) = true → ((findReg off.toNat).any fun x =>
      x.1.late s.blk.isLocked (s.blk.rd x.1 x.2) ((ws.getD 0 0).toNat)) = false → ∃ t : State, exec (.registerWrite
      who off 4 ws) s = .next t ∧ t.pending = s.pending ∧ ((findReg off.toNat).all fun x => t.blk.rd x.1 x.2 ==
      x.1.merge s.blk.isLocked (s.blk.rd x.1 x.2) ((ws.getD 0 0).toNat)) = true) ∧
  (∀ (s : State) (who : Who), s.blk.Ready → s.blk.CanWrite who (R.SYS_LOCK.at 0) → s.blk.isLocked = false → ∃ t :
      State, exec (.sysLockWrite who 0x5EA1) s = .next t ∧ t.pending = s.pending ∧ t.blk.isLocked = true) ∧
  (∀ (s : State) (who : Who) (d : Fin 10), s.blk.Ready → s.blk.CanWrite who (R.PWR_DOMCTL.at 0) → ∃ t : State, exec
      (.domainOn who d) s = .next t ∧ t.pending = s.pending ∧ t.blk.domBit (3 + d) = true) ∧
  (∀ (s : State) (d : Fin 10) (rk : Fin 16), s.blk.Ready → s.blk.domBit (3 + d) = true → s.blk.pg (3 + d) = false →
      s.blk.boot.ran = false → ∃ t : State, exec (.domainPowerGood d rk) s = .next t ∧ t.pending = s.pending ∧
      t.blk.pg (3 + d) = true) ∧
  (∀ (s : State) (d : Fin 10), s.blk.Ready → s.blk.domBit (3 + d) = true → s.blk.pg (3 + d) = false → ∃ t : State,
      exec (.domainPgTimeout d) s = .next t ∧ t.pending = s.pending ∧ t.blk.domBit (3 + d) = false ∧ t.blk.flag
      F.PWR_DOMSTAT_PGFAIL 0 = true) ∧
  (∀ (s : State) (who : Who) (d : Fin 10), s.blk.Ready → s.blk.CanWrite who (R.PWR_DOMCTL.at 0) → s.blk.domBit (3 +
      d) = true → s.blk.pg (3 + d) = true → s.blk.domainBusy (3 + d) = false → ∃ t : State, exec (.domainOff who d)
      s = .next t ∧ t.pending = s.pending ∧ t.blk.domBit (3 + d) = false ∧ t.blk.pg (3 + d) = false) ∧
  (∀ (s : State) (c : Fin 15), s.blk.Ready → 6 ≤ c.val → s.blk.coreState c = 1 → s.blk.hq.flights = [] → Tab.get []
      s.blk.boot.heads ([0, 0, 0, 0, 0, 0, 3, 3, 3, 3, 4, 4, 5, 6, 7].getD c 0) ≠ [] → ∃ t : State, exec
      (.engineReady c) s = .next t ∧ t.pending = s.pending ∧ t.blk.coreState c = 2) ∧
  (∀ (s : State) (who : Who) (c : Fin 4), s.blk.Ready → s.blk.CanWrite who (R.HEP_CCTL.at c) → s.blk.coreState (2 +
      c) = 1 → ∃ t : State, exec (.coreRun who c) s = .next t ∧ t.pending = s.pending ∧ t.blk.coreState (2 + c) = 2
      ∧ t.blk.flag F.HEP_CCTL_RUN c = true) ∧
  (∀ (s : State) (who : Who), s.blk.Ready → s.blk.CanWrite who (R.HEP_SWDCFG.at 0) → s.blk.flag F.HEP_SWDCFG_EN 0 =
      false → s.blk.isLocked = false → ∃ t : State, exec (.watchdogEnable who) s = .next t ∧ t.pending = s.pending ∧
      t.blk.flag F.HEP_SWDCFG_EN 0 = true ∧ t.blk.boot.swdAt = s.blk.pw.osc) ∧
  (∀ (s : State) (c : Fin 2), s.blk.Ready → s.blk.CanWrite (.core (Fin.ofNat 15 c)) (R.HEP_SWDKICK.at 0) →
      s.blk.flag F.HEP_SWDCFG_EN 0 = true → ∃ t : State, exec (.watchdogKick (.core (Fin.ofNat 15 c)) 0x7E11) s =
      .next t ∧ t.pending = s.pending ∧ t.blk.boot.swdAt = s.blk.pw.osc) ∧
  (∀ (s : State), s.blk.Ready → s.blk.flag F.HEP_SWDCFG_EN 0 = true → ∃ t : State, exec .watchdogExpiry s = .next t
      ∧ t.pending = s.pending ∧ t.blk.flag F.PWR_RSTCAUSE_WDOG 0 = true ∧ t.blk.pw.inReset = .soc) ∧
  (∀ (s : State) (c : Fin 2) (w : Word), s.blk.Ready → s.blk.CanWrite (.core (Fin.ofNat 15 c)) (R.HEP_CRST.at 0) →
      bits w.toNat 31 16 = 0x5C0E → 2 ≤ bits w.toNat 3 0 → bits w.toNat 3 0 ≤ 5 → s.blk.flag F.HEP_CCTL_AUTORUN
      (bits w.toNat 3 0 - 2) = false → s.blk.coreState (bits w.toNat 3 0) ≠ 0 → ∃ t : State, exec (.hepCrstWrite
      (.core (Fin.ofNat 15 c)) w) s = .next t ∧ t.pending = s.pending ∧ t.blk.coreState (bits w.toNat 3 0) = 1) ∧
  (∀ (s : State) (fl : List (Nat × Byte)), s.blk.Ready → s.blk.boot.hashing = true → s.blk.flag F.CATCH_INJ_ARM 0 =
      false → ∃ t : State, exec (.supervisorHashComplete fl) s = .next t ∧ t.pending = s.pending ∧
      t.blk.boot.hashing = false) ∧
  (∀ (s : State) (x : Exe) (k : Fin 16) (a : CxArgs) (m : Micro), s.blk.Ready → s.blk.fetches x 1 = true →
      (s.blk.cpu x).rep = 0 → (Tab.get 0 (s.blk.cpu x).cxdef k).toNat / 2 ^ 15 % 2 = 1 → ((s.blk.cpu x).priv = true
      ∨ (Tab.get 0 (s.blk.cpu x).cxdef k).toNat / 2 ^ 14 % 2 = 1) → (Tab.get 0 (s.blk.cpu x).cxdef k).toNat / 2 ^ 9
      % 32 = 0 → m = ({ w := Tab.get 0 (s.blk.cpu x).ustore ((Tab.get 0 (s.blk.cpu x).cxdef k).toNat % 512) } :
      Micro) → (([true, (s.blk.cpu x).sr.getLsbD 9, !(s.blk.cpu x).sr.getLsbD 9, (s.blk.cpu x).sr.getLsbD 8,
      !(s.blk.cpu x).sr.getLsbD 8, (s.blk.cpu x).sr.getLsbD 10, !(s.blk.cpu x).sr.getLsbD 10, (s.blk.cpu
      x).sr.getLsbD 11, !(s.blk.cpu x).sr.getLsbD 11, (s.blk.cpu x).sr.getLsbD 8 && !(s.blk.cpu x).sr.getLsbD 9,
      !(s.blk.cpu x).sr.getLsbD 8 || (s.blk.cpu x).sr.getLsbD 9, (s.blk.cpu x).sr.getLsbD 10 == (s.blk.cpu
      x).sr.getLsbD 11, (s.blk.cpu x).sr.getLsbD 10 != (s.blk.cpu x).sr.getLsbD 11, !(s.blk.cpu x).sr.getLsbD 9 &&
      (s.blk.cpu x).sr.getLsbD 10 == (s.blk.cpu x).sr.getLsbD 11, (s.blk.cpu x).sr.getLsbD 9 || (s.blk.cpu
      x).sr.getLsbD 10 != (s.blk.cpu x).sr.getLsbD 11]).getD m.cond false) = true → m.cond < 15 → m.uop ∈ [1, 2, 3,
      4, 5, 0x13] → microIllegal m = false → m.fl = false → (m.dst < 16 ∨ (0x30 ≤ m.dst ∧ m.dst < 0x33)) → ∃ t :
      State, exec (.cx x k a none) s = .next t ∧ t.pending = s.pending ∧ (t.blk.cpu x).getD (if m.dst < 16 then
      m.dst else if m.dst = 0x30 then a.x.val else if m.dst = 0x31 then a.y.val else a.z.val) = (if m.uop = 1 then
      ((selGet a (s.blk.cpu x) [] m.k m.sa) + (selGet a (s.blk.cpu x) [] m.k m.sb)) else if m.uop = 2 then ((selGet
      a (s.blk.cpu x) [] m.k m.sa) - (selGet a (s.blk.cpu x) [] m.k m.sb)) else if m.uop = 3 then ((selGet a
      (s.blk.cpu x) [] m.k m.sa) &&& (selGet a (s.blk.cpu x) [] m.k m.sb)) else if m.uop = 4 then ((selGet a
      (s.blk.cpu x) [] m.k m.sa) ||| (selGet a (s.blk.cpu x) [] m.k m.sb)) else if m.uop = 5 then ((selGet a
      (s.blk.cpu x) [] m.k m.sa) ^^^ (selGet a (s.blk.cpu x) [] m.k m.sb)) else (selGet a (s.blk.cpu x) [] m.k
      m.sa)) ∧ s.blk.Past x 1 [.d (if m.dst < 16 then m.dst else if m.dst = 0x30 then a.x.val else if m.dst = 0x31
      then a.y.val else a.z.val)] t.blk) ∧
  (∀ (s : State) (x : Exe) (k : Fin 16) (a : CxArgs) (m : Micro), s.blk.Ready → s.blk.fetches x 1 = true →
      (s.blk.cpu x).rep = 0 → (Tab.get 0 (s.blk.cpu x).cxdef k).toNat / 2 ^ 15 % 2 = 1 → ((s.blk.cpu x).priv = true
      ∨ (Tab.get 0 (s.blk.cpu x).cxdef k).toNat / 2 ^ 14 % 2 = 1) → (Tab.get 0 (s.blk.cpu x).cxdef k).toNat / 2 ^ 9
      % 32 = 0 → m = ({ w := Tab.get 0 (s.blk.cpu x).ustore ((Tab.get 0 (s.blk.cpu x).cxdef k).toNat % 512) } :
      Micro) → (([true, (s.blk.cpu x).sr.getLsbD 9, !(s.blk.cpu x).sr.getLsbD 9, (s.blk.cpu x).sr.getLsbD 8,
      !(s.blk.cpu x).sr.getLsbD 8, (s.blk.cpu x).sr.getLsbD 10, !(s.blk.cpu x).sr.getLsbD 10, (s.blk.cpu
      x).sr.getLsbD 11, !(s.blk.cpu x).sr.getLsbD 11, (s.blk.cpu x).sr.getLsbD 8 && !(s.blk.cpu x).sr.getLsbD 9,
      !(s.blk.cpu x).sr.getLsbD 8 || (s.blk.cpu x).sr.getLsbD 9, (s.blk.cpu x).sr.getLsbD 10 == (s.blk.cpu
      x).sr.getLsbD 11, (s.blk.cpu x).sr.getLsbD 10 != (s.blk.cpu x).sr.getLsbD 11, !(s.blk.cpu x).sr.getLsbD 9 &&
      (s.blk.cpu x).sr.getLsbD 10 == (s.blk.cpu x).sr.getLsbD 11, (s.blk.cpu x).sr.getLsbD 9 || (s.blk.cpu
      x).sr.getLsbD 10 != (s.blk.cpu x).sr.getLsbD 11]).getD m.cond false) = false → m.cond < 15 → ∃ t : State, exec
      (.cx x k a none) s = .next t ∧ t.pending = s.pending ∧ s.blk.Past x 1 [] t.blk)

/-- A step executes the front command with the queue behind it; on an empty queue the timebase ticks (log 1); every
command answers next and leaves the queue. Rests on 01_architecture.md. Choices of the model in it: log 10. -/
def Obligations.StepRunsTheFrontCommand : Prop :=
  (∀ (s : State) (c : Instr) (rest : List Instr), s.pending = c :: rest → step s = exec c { s with pending := rest }) ∧
  (∀ s : State, s.pending = [] → step s = .next { s with blk := s.blk.tick.chainIdle.endCommand }) ∧
  (∀ (s : State) (c : Instr), ∃ t, exec c s = .next t ∧ t.pending = s.pending)

/-- After every step nothing begun is left to carry out, no core that waits with IE = 0 has a line that would wake
it, and the queue has lost its front only. Rests on R490, R532, 01_architecture.md. Choices of the model in it: log
2. -/
def Obligations.NothingIsLeftUndone : Prop :=
  ∀ s t : State, step s = .next t → t.blk.Rested ∧ t.pending = s.pending.tail

/-- After reset no command waits, nothing is left to carry out, memory is blank in canonical form, and every
register holds its reset word. Rests on R24, R42, R532. Choices of the model in it: log 2, 7, 8. -/
def Obligations.ResetLeavesNothingUndone : Prop :=
  State.reset.pending = [] ∧ State.reset.blk.Rested ∧ State.reset.blk.MemWf ∧ (∀ a, Mem.read State.reset.blk.mem a = 0) ∧
  ∀ (r : Reg) (n : Nat), State.reset.blk.rd r n = r.rst n
end

