-- ==== Sys2Proof/Laws/Tables.lean ====
section
/-! SUPPORT. Laws of bit fields, tables and memory. -/
namespace Sys2Proof.Machine

/-! ### Tables -/

@[simp] theorem Tab.get_put_same {α : Type} (d : α) (t : Tab α) (n : Nat) (v : α) : Tab.get d (Tab.put t n v) n = v := by
  induction t with
  | nil => simp [Tab.put, Tab.get]
  | cons e t ih =>
    obtain ⟨k, w⟩ := e
    unfold Tab.put
    split
    · simp [Tab.get]
    · split
      · simp [Tab.get]
      · rename_i h1 h2
        simp [Tab.get, ih, Ne.symm h2]

theorem Tab.get_put_ne {α : Type} (d : α) (t : Tab α) {n m : Nat} (v : α) (h : m ≠ n) :
    Tab.get d (Tab.put t n v) m = Tab.get d t m := by
  induction t with
  | nil => simp [Tab.put, Tab.get, Ne.symm h]
  | cons e t ih =>
    obtain ⟨k, w⟩ := e
    unfold Tab.put
    split
    · simp [Tab.get, Ne.symm h]
    · split
      · rename_i h1 h2
        subst h2
        simp [Tab.get, Ne.symm h]
      · simp [Tab.get, ih]

theorem Tab.get_put {α : Type} (d : α) (t : Tab α) (n m : Nat) (v : α) :
    Tab.get d (Tab.put t n v) m = if m = n then v else Tab.get d t m := by
  split
  · rename_i h; subst h; simp
  · rename_i h; exact Tab.get_put_ne d t v h

theorem Tab.put_ne_nil {α : Type} (t : Tab α) (n : Nat) (v : α) : Tab.put t n v ≠ [] := by
  cases t with
  | nil => simp [Tab.put]
  | cons e t => obtain ⟨k, w⟩ := e; unfold Tab.put; split <;> (try split) <;> simp

/-! ### Bit fields -/

theorem bits_lt (w hi lo : Nat) : bits w hi lo < 2 ^ (hi + 1 - lo) := Nat.mod_lt _ (Nat.two_pow_pos _)

theorem bits_putBits_same (w hi lo v : Nat) (h : lo ≤ hi) : bits (putBits w hi lo v) hi lo = v % 2 ^ (hi + 1 - lo) := by
  unfold bits putBits
  have e : 2 ^ (hi + 1) = 2 ^ lo * 2 ^ (hi + 1 - lo) := by rw [← Nat.pow_add]; congr 1; omega
  have hp : 0 < 2 ^ lo := Nat.two_pow_pos _
  have hl : w % 2 ^ lo < 2 ^ lo := Nat.mod_lt _ hp
  rw [e]
  have : w % 2 ^ lo + v % 2 ^ (hi + 1 - lo) * 2 ^ lo + w / (2 ^ lo * 2 ^ (hi + 1 - lo)) * (2 ^ lo * 2 ^ (hi + 1 - lo))
      = w % 2 ^ lo + 2 ^ lo * (v % 2 ^ (hi + 1 - lo) + 2 ^ (hi + 1 - lo) * (w / (2 ^ lo * 2 ^ (hi + 1 - lo)))) := by ring
  rw [this, Nat.add_mul_div_left _ _ hp, Nat.div_eq_of_lt hl, Nat.zero_add, Nat.add_mul_mod_self_left, Nat.mod_mod]

/-- A field that lies above the one written keeps its value. -/
theorem bits_putBits_above (w hi lo v hi' lo' : Nat) (h : lo ≤ hi) (h' : hi < lo') :
    bits (putBits w hi lo v) hi' lo' = bits w hi' lo' := by
  unfold bits putBits
  congr 1
  have e : 2 ^ (hi + 1) = 2 ^ lo * 2 ^ (hi + 1 - lo) := by rw [← Nat.pow_add]; congr 1; omega
  have e' : 2 ^ lo' = 2 ^ (hi + 1) * 2 ^ (lo' - (hi + 1)) := by rw [← Nat.pow_add]; congr 1; omega
  have hp : 0 < 2 ^ lo := Nat.two_pow_pos _
  have hq : 0 < 2 ^ (hi + 1 - lo) := Nat.two_pow_pos _
  have hl : w % 2 ^ lo < 2 ^ lo := Nat.mod_lt _ hp
  have hv : v % 2 ^ (hi + 1 - lo) < 2 ^ (hi + 1 - lo) := Nat.mod_lt _ hq
  rw [e', ← Nat.div_div_eq_div_mul, ← Nat.div_div_eq_div_mul]
  congr 1
  have hs : w % 2 ^ lo + v % 2 ^ (hi + 1 - lo) * 2 ^ lo < 2 ^ (hi + 1) := by
    rw [e]
    calc w % 2 ^ lo + v % 2 ^ (hi + 1 - lo) * 2 ^ lo < 2 ^ lo + v % 2 ^ (hi + 1 - lo) * 2 ^ lo := by omega
      _ = 2 ^ lo * (v % 2 ^ (hi + 1 - lo) + 1) := by ring
      _ ≤ 2 ^ lo * 2 ^ (hi + 1 - lo) := Nat.mul_le_mul_left _ hv
  rw [Nat.add_mul_div_right _ _ (Nat.two_pow_pos _), Nat.div_eq_of_lt hs, Nat.zero_add]

/-- A field that lies below the one written keeps its value. -/
theorem bits_putBits_below (w hi lo v hi' lo' : Nat) (h : lo ≤ hi) (h' : hi' < lo) :
    bits (putBits w hi lo v) hi' lo' = bits w hi' lo' := by
  unfold bits
  by_cases hh : lo' ≤ hi'
  · have hm : ∀ x : Nat, x / 2 ^ lo' % 2 ^ (hi' + 1 - lo') = x % 2 ^ (hi' + 1) / 2 ^ lo' := by
      intro x
      have : 2 ^ (hi' + 1) = 2 ^ lo' * 2 ^ (hi' + 1 - lo') := by rw [← Nat.pow_add]; congr 1; omega
      rw [this, Nat.mod_mul_right_div_self]
    rw [hm, hm]
    congr 1
    unfold putBits
    have d1 : 2 ^ (hi' + 1) ∣ v % 2 ^ (hi + 1 - lo) * 2 ^ lo := (Nat.pow_dvd_pow 2 (by omega)).mul_left _
    have d2 : 2 ^ (hi' + 1) ∣ w / 2 ^ (hi + 1) * 2 ^ (hi + 1) := (Nat.pow_dvd_pow 2 (by omega)).mul_left _
    rw [Nat.add_mod, (Nat.dvd_iff_mod_eq_zero).mp d2, Nat.add_zero, Nat.mod_mod, Nat.add_mod, (Nat.dvd_iff_mod_eq_zero).mp d1,
      Nat.add_zero, Nat.mod_mod, Nat.mod_mod_of_dvd _ (Nat.pow_dvd_pow 2 (by omega))]
  · have : hi' + 1 - lo' = 0 := by omega
    simp [this, Nat.mod_one]

/-! ### Registers -/

namespace Block

@[simp] theorem rd_wr_same (b : Block) (r : Reg) (n w : Nat) : (b.wr r n w).rd r n = w := by simp [rd, wr]

theorem rd_wr_ne (b : Block) (r r' : Reg) (n n' w : Nat) (h : r'.at n' ≠ r.at n) : (b.wr r n w).rd r' n' = b.rd r' n' := by
  simp [rd, wr, Tab.get_put_ne _ _ _ h]

theorem getF_setF_same (b : Block) (f : RegField) (n v : Nat) (h : f.lo ≤ f.hi) :
    (b.setF f n v).getF f n = v % 2 ^ (f.hi + 1 - f.lo) := by
  simp [getF, setF, bits_putBits_same _ _ _ _ h]

/-- Writing a field leaves the fields of every other register as they were. -/
theorem getF_setF_other (b : Block) (f g : RegField) (n m v : Nat) (h : g.reg.at m ≠ f.reg.at n) :
    (b.setF f n v).getF g m = b.getF g m := by
  simp [getF, setF, rd_wr_ne _ _ _ _ _ _ h]

/-- Writing a field leaves the other fields of its register as they were. -/
theorem getF_setF_beside (b : Block) (f g : RegField) (n v : Nat) (hr : g.reg = f.reg) (hf : f.lo ≤ f.hi)
    (h : f.hi < g.lo ∨ g.hi < f.lo) : (b.setF f n v).getF g n = b.getF g n := by
  simp only [getF, setF, hr, rd_wr_same]
  rcases h with h | h
  · exact bits_putBits_above _ _ _ _ _ _ hf h
  · exact bits_putBits_below _ _ _ _ _ _ hf h

end Block

/-! ### Memory -/

theorem Mem.wf_tail {c : Host.Cell} {m : List Host.Cell} (h : Mem.wf (c :: m) = true) : Mem.wf m = true := by
  cases m with
  | nil => rfl
  | cons e m => simp [Mem.wf] at h; exact h.2

/-- The canonical form as a sorted list without blank bytes. -/
theorem Mem.wf_iff (m : List Host.Cell) :
    Mem.wf m = true ↔ m.Pairwise (fun a b => a.1 < b.1) ∧ ∀ c ∈ m, c.2 ≠ Mem.blank := by
  induction m with
  | nil => simp [Mem.wf]
  | cons c m ih =>
    cases m with
    | nil => simp [Mem.wf]
    | cons e m =>
      have step : Mem.wf (c :: e :: m) = true ↔ (c.2 ≠ Mem.blank ∧ c.1 < e.1) ∧ Mem.wf (e :: m) = true := by
        simp [Mem.wf]
      rw [step, ih]
      simp only [List.pairwise_cons, List.mem_cons, forall_eq_or_imp]
      constructor
      · rintro ⟨⟨h1, h2⟩, ⟨h3, h4⟩, h5, h6⟩
        exact ⟨⟨⟨h2, fun a ha => Nat.lt_trans h2 (h3 a ha)⟩, h3, h4⟩, h1, h5, h6⟩
      · rintro ⟨⟨⟨h2, _⟩, h3, h4⟩, h1, h5, h6⟩
        exact ⟨⟨h1, h2⟩, ⟨h3, h4⟩, h5, h6⟩

theorem Mem.cells_bounds (a : Nat) (vs : List Byte) : ∀ c ∈ Mem.cells a vs, a ≤ c.1 ∧ c.1 < a + vs.length ∧ c.2 ≠ Mem.blank := by
  induction vs generalizing a with
  | nil => simp [Mem.cells]
  | cons v vs ih =>
    intro c hc
    unfold Mem.cells at hc
    split at hc
    · have := ih (a + 1) c hc
      exact ⟨by omega, by simp; omega, this.2.2⟩
    · rename_i hv
      rcases List.mem_cons.mp hc with rfl | hc
      · simp; exact hv
      · have := ih (a + 1) c hc
        exact ⟨by omega, by simp; omega, this.2.2⟩

theorem Mem.cells_sorted (a : Nat) (vs : List Byte) : (Mem.cells a vs).Pairwise (fun x y => x.1 < y.1) := by
  induction vs generalizing a with
  | nil => simp [Mem.cells]
  | cons v vs ih =>
    unfold Mem.cells
    split
    · exact ih _
    · refine List.Pairwise.cons (fun c hc => ?_) (ih _)
      have := Mem.cells_bounds (a + 1) vs c hc
      simp only; omega

/-- Writing bytes keeps the canonical form. -/
theorem Mem.writes_wf (m : List Host.Cell) (a : Nat) (vs : List Byte) (h : Mem.wf m = true) : Mem.wf (Mem.writes m a vs) = true := by
  rw [Mem.wf_iff] at h ⊢
  obtain ⟨hs, hb⟩ := h
  unfold Mem.writes
  constructor
  · rw [List.pairwise_append, List.pairwise_append]
    refine ⟨⟨hs.filter _, Mem.cells_sorted a vs, ?_⟩, hs.filter _, ?_⟩
    · intro x hx y hy
      have h1 := (List.mem_filter.mp hx).2
      have h2 := Mem.cells_bounds a vs y hy
      simp at h1; omega
    · intro x hx y hy
      have h2 := (List.mem_filter.mp hy).2
      simp at h2
      rcases List.mem_append.mp hx with hx | hx
      · have h1 := (List.mem_filter.mp hx).2
        simp at h1; omega
      · have h1 := Mem.cells_bounds a vs x hx
        omega
  · intro c hc
    rcases List.mem_append.mp hc with hc | hc
    · rcases List.mem_append.mp hc with hc | hc
      · exact hb c (List.mem_filter.mp hc).1
      · exact (Mem.cells_bounds a vs c hc).2.2
    · exact hb c (List.mem_filter.mp hc).1

/-- Clearing a range keeps the canonical form. -/
theorem Mem.clear_wf (m : List Host.Cell) (lo hi : Nat) (h : Mem.wf m = true) : Mem.wf (Mem.clear m lo hi) = true := by
  rw [Mem.wf_iff] at h ⊢
  exact ⟨h.1.filter _, fun c hc => h.2 c (List.mem_filter.mp hc).1⟩

/-- Writing one byte keeps the canonical form. -/
theorem Mem.write_mem (m : List Host.Cell) (a : Nat) (v : Byte) : ∀ c ∈ Mem.write m a v, c ∈ m ∨ (c = (a, v) ∧ v ≠ Mem.blank) := by
  induction m with
  | nil => intro c hc; unfold Mem.write at hc; split at hc <;> simp_all
  | cons e m ih =>
    obtain ⟨k, w⟩ := e
    intro c hc
    unfold Mem.write at hc
    split at hc
    · split at hc
      · exact .inl hc
      · rcases List.mem_cons.mp hc with rfl | hc
        · exact .inr ⟨rfl, ‹_›⟩
        · exact .inl hc
    · split at hc
      · split at hc
        · exact .inl (List.mem_cons_of_mem _ hc)
        · rcases List.mem_cons.mp hc with rfl | hc
          · exact .inr ⟨rfl, ‹_›⟩
          · exact .inl (List.mem_cons_of_mem _ hc)
      · rcases List.mem_cons.mp hc with rfl | hc
        · exact .inl (List.mem_cons_self ..)
        · rcases ih c hc with h | h
          · exact .inl (List.mem_cons_of_mem _ h)
          · exact .inr h

theorem Mem.write_wf (m : List Host.Cell) (a : Nat) (v : Byte) (h : Mem.wf m = true) : Mem.wf (Mem.write m a v) = true := by
  rw [Mem.wf_iff] at h ⊢
  obtain ⟨hs, hb⟩ := h
  refine ⟨?_, fun c hc => ?_⟩
  · induction m with
    | nil => unfold Mem.write; split <;> simp
    | cons e m ih =>
      obtain ⟨k, w⟩ := e
      have hs' := List.pairwise_cons.mp hs
      unfold Mem.write
      split
      · split
        · exact hs
        · rename_i hk _
          refine List.Pairwise.cons (fun c hc => ?_) hs
          rcases List.mem_cons.mp hc with rfl | hc
          · exact hk
          · have := hs'.1 c hc; simp only at this ⊢; omega
      · split
        · rename_i hk
          split
          · exact hs'.2
          · exact List.Pairwise.cons (fun c hc => by have := hs'.1 c hc; simp only at this ⊢; omega) hs'.2
        · rename_i h1 h2
          refine List.Pairwise.cons (fun c hc => ?_) (ih hs'.2 fun c hc => hb c (List.mem_cons_of_mem _ hc))
          rcases Mem.write_mem m a v c hc with hc | ⟨rfl, _⟩
          · exact hs'.1 c hc
          · simp only; omega
  · rcases Mem.write_mem m a v c hc with hc | ⟨rfl, hv⟩
    · exact hb c hc
    · exact hv

theorem Mem.read_append (l m : List Host.Cell) (a : Nat) :
    Mem.read (l ++ m) a = if a ∈ l.map Prod.fst then Mem.read l a else Mem.read m a := by
  induction l with
  | nil => simp
  | cons e l ih =>
    obtain ⟨k, v⟩ := e
    simp only [List.cons_append, Mem.read, ih, List.map_cons, List.mem_cons]
    by_cases h : k = a
    · simp [h]
    · simp [h, Ne.symm h]

theorem Mem.read_filter_keep (m : List Host.Cell) (p : Nat → Bool) (a : Nat) (h : p a = true) :
    Mem.read (m.filter fun c => p c.1) a = Mem.read m a := by
  induction m with
  | nil => rfl
  | cons e m ih =>
    obtain ⟨k, v⟩ := e
    by_cases hk : p k = true
    · simp [hk, Mem.read, ih]
    · have : k ≠ a := fun hh => hk (hh ▸ h)
      simp [hk, Mem.read, ih, this]

theorem Mem.read_absent (m : List Host.Cell) (a : Nat) (h : a ∉ m.map Prod.fst) : Mem.read m a = Mem.blank := by
  induction m with
  | nil => rfl
  | cons e m ih =>
    obtain ⟨k, v⟩ := e
    simp only [List.map_cons, List.mem_cons, not_or] at h
    simp [Mem.read, Ne.symm h.1, ih h.2]

/-- A byte outside the bytes written keeps its value. -/
theorem Mem.read_writes_outside (m : List Host.Cell) (a : Nat) (vs : List Byte) (k : Nat) (h : k < a ∨ a + vs.length ≤ k) :
    Mem.read (Mem.writes m a vs) k = Mem.read m k := by
  unfold Mem.writes
  have hc : k ∉ (Mem.cells a vs).map Prod.fst := by
    intro hk
    obtain ⟨c, hc, rfl⟩ := List.mem_map.mp hk
    have := Mem.cells_bounds a vs c hc
    omega
  rw [Mem.read_append, Mem.read_append]
  rcases h with h | h
  · have h2 := Mem.read_filter_keep m (fun x => decide (x < a)) k (by simpa using h)
    have h3 : k ∉ (m.filter fun c => decide (a + vs.length ≤ c.1)).map Prod.fst := by
      intro hk
      obtain ⟨c, hx, rfl⟩ := List.mem_map.mp hk
      have := (List.mem_filter.mp hx).2
      simp at this; omega
    by_cases hm : k ∈ (m.filter fun c => decide (c.1 < a)).map Prod.fst
    · simp [hm] at h2 ⊢
      simp [h2]
    · have e1 := Mem.read_absent _ _ hm
      have e2 := Mem.read_absent _ _ h3
      have hmm : k ∉ ((m.filter fun c => decide (c.1 < a)) ++ Mem.cells a vs).map Prod.fst := by
        simp only [List.map_append, List.mem_append, not_or]; exact ⟨hm, hc⟩
      rw [if_neg hmm, e2, ← h2, e1]
  · have h2 := Mem.read_filter_keep m (fun x => decide (a + vs.length ≤ x)) k (by simpa using h)
    have h3 : k ∉ (m.filter fun c => decide (c.1 < a)).map Prod.fst := by
      intro hk
      obtain ⟨c, hx, rfl⟩ := List.mem_map.mp hk
      have := (List.mem_filter.mp hx).2
      simp at this; omega
    have hmm : k ∉ ((m.filter fun c => decide (c.1 < a)) ++ Mem.cells a vs).map Prod.fst := by
      simp only [List.map_append, List.mem_append, not_or]; exact ⟨h3, hc⟩
    rw [if_neg hmm, h2]

theorem Mem.read_cells (a : Nat) (vs : List Byte) (i : Nat) (h : i < vs.length) : Mem.read (Mem.cells a vs) (a + i) = vs[i] := by
  induction vs generalizing a i with
  | nil => simp at h
  | cons v vs ih =>
    unfold Mem.cells
    cases i with
    | zero =>
      split
      · rename_i hv
        have : a ∉ (Mem.cells (a + 1) vs).map Prod.fst := by
          intro hk
          obtain ⟨c, hc, hh⟩ := List.mem_map.mp hk
          have := Mem.cells_bounds (a + 1) vs c hc
          omega
        simp [Mem.read_absent _ _ this, hv]
      · simp [Mem.read]
    | succ i =>
      have hi : i < vs.length := by simpa using h
      have := ih (a + 1) i hi
      have e : a + (i + 1) = a + 1 + i := by omega
      split
      · simpa [e] using this
      · simp only [Mem.read]
        rw [if_neg (by omega)]
        simpa [e] using this

/-- A byte that was written reads as written. -/
theorem Mem.read_writes (m : List Host.Cell) (a : Nat) (vs : List Byte) (i : Nat) (h : i < vs.length) :
    Mem.read (Mem.writes m a vs) (a + i) = vs[i] := by
  unfold Mem.writes
  rw [Mem.read_append]
  have h3 : a + i ∉ (m.filter fun c => decide (c.1 < a)).map Prod.fst := by
    intro hk
    obtain ⟨c, hc, hh⟩ := List.mem_map.mp hk
    have := (List.mem_filter.mp hc).2
    simp at this; omega
  have h4 : a + i ∉ (m.filter fun c => decide (a + vs.length ≤ c.1)).map Prod.fst := by
    intro hk
    obtain ⟨c, hc, hh⟩ := List.mem_map.mp hk
    have := (List.mem_filter.mp hc).2
    simp at this; omega
  have hr := Mem.read_cells a vs i h
  split
  · rw [Mem.read_append, if_neg h3]; exact hr
  · rename_i hn
    have hc : a + i ∉ (Mem.cells a vs).map Prod.fst := by
      intro hk; exact hn (by simp only [List.map_append, List.mem_append]; exact .inr hk)
    rw [Mem.read_absent _ _ h4, ← hr, Mem.read_absent _ _ hc]

end Sys2Proof.Machine
end

