-- ==== Sys2Proof/Laws/Ends.lean ====
section
/-! SUPPORT. The end of a command, the step, and what raising an occurrence can change. -/
namespace Sys2Proof.Machine

namespace Block

theorem forN_eq (n : Nat) (f : Nat → Block → Block) (b : Block) (h : ∀ i, i < n → f i b = b) : forN n f b = b := by
  unfold forN
  have : ∀ l : List Nat, (∀ i ∈ l, i < n) → l.foldl (fun b i => f i b) b = b := by
    intro l
    induction l with
    | nil => intro _; rfl
    | cons i l ih =>
      intro hl
      rw [List.foldl_cons, h i (hl i (List.mem_cons_self ..))]
      exact ih fun j hj => hl j (List.mem_cons_of_mem _ hj)
  exact this _ fun i hi => List.mem_range.mp hi

/-- Where nothing is left to do, the end of a command changes nothing. -/
theorem endCommand_calm (b : Block) (h : b.Calm) : b.endCommand = b := by
  obtain ⟨hd, hg, hs, hw⟩ := h
  have hu : b.gaugeUnmetered = false := by simp [gaugeUnmetered, hs]
  have hf : b.finish = b := by
    have hg' : b.gaugeWatch = b := by simp [gaugeWatch, hu, hg]
    have hc : b.carryAll 4 = b := by simp [carryAll, hd]
    have hk : ({ b.catchm with due := [] } : CatchSt) = b.catchm := by rw [← hd]
    simp only [finish, hg', hc, hk]
  unfold endCommand
  rw [hf]
  refine forN_eq _ _ _ fun c hc => ?_
  unfold wakeCore
  rw [if_neg]
  simp [hw c hc]

end Block

/-- A command acts through its effect on the block and the end of every command. -/
theorem State.act_next (f : Block → Block) (s : State) : s.act f = .next { s with blk := (f s.blk).endCommand } := rfl

/-- Where its effect leaves nothing to carry out, the effect is the next block. -/
theorem State.act_calm (f : Block → Block) (s : State) (h : (f s.blk).Calm) : s.act f = .next { s with blk := f s.blk } := by
  rw [State.act_next, Block.endCommand_calm _ h]

/-- What a command whose effect leaves nothing to carry out completes with. -/
theorem completes_of_act (c : Instr) (s : State) (f : Block → Block) (E : Block → Prop) (hx : exec c s = s.act f)
    (hc : (f s.blk).Calm) (he : E (f s.blk)) : Completes c s E :=
  ⟨{ s with blk := f s.blk }, by rw [hx, State.act_calm f s hc], rfl, he⟩

end Sys2Proof.Machine
end

