-- ==== Sys2Proof/Laws/Record.lean ====
section
/-! SUPPORT. What raising an occurrence changes where the catchment only records it: the record of the catchment, the
state of the event queues, pending interrupts, what is sent out and what the chain ports keep of it. -/
namespace Sys2Proof.Machine

/-- b' differs from b only by recorded occurrences. -/
structure Recorded (b b' : Block) : Prop where
  rest  : b' = { b with regs := b'.regs, catchm := b'.catchm, core := b'.core, hq := b'.hq, chn := b'.chn, out := b'.out }
  due   : b'.catchm.due = b.catchm.due
  regs  : ∀ d o, recordReg o = false → Tab.get d b'.regs o = Tab.get d b.regs o
  cores : ∀ c, b'.hc c = { b.hc c with irq := (b'.hc c).irq }
  queue : b'.hq = { b.hq with eseq := b'.hq.eseq, ephase := b'.hq.ephase, elost := b'.hq.elost, msixPend := b'.hq.msixPend }
  chain : b'.chn = { b.chn with links := b'.chn.links }
  outs  : ∃ l, b'.out = b.out ++ l

namespace Recorded

theorem refl (b : Block) : Recorded b b :=
  ⟨rfl, rfl, fun _ _ _ => rfl, fun _ => rfl, rfl, rfl, [], by simp⟩

theorem trans {a b c : Block} (h : Recorded a b) (k : Recorded b c) : Recorded a c := by
  refine ⟨?_, k.due.trans h.due, fun d o ho => (k.regs d o ho).trans (h.regs d o ho), fun i => ?_, ?_, ?_, ?_⟩
  · rw [k.rest, h.rest]
  · rw [k.cores i, h.cores i]
  · rw [k.queue, h.queue]
  · rw [k.chain, h.chain]
  · obtain ⟨l, hl⟩ := h.outs
    obtain ⟨m, hm⟩ := k.outs
    exact ⟨l ++ m, by rw [hm, hl, List.append_assoc]⟩

theorem wr (b : Block) (r : Reg) (n w : Nat) (h : recordReg (r.at n) = true) : Recorded b (b.wr r n w) :=
  ⟨rfl, rfl, fun d o ho => by
    have hne : o ≠ r.at n := fun e => by rw [e, h] at ho; cases ho
    simp [Block.wr, Tab.get_put_ne _ _ _ hne], fun _ => rfl, rfl, rfl, [], by simp [Block.wr]⟩

theorem setF (b : Block) (f : RegField) (n v : Nat) (h : recordReg (f.reg.at n) = true) : Recorded b (b.setF f n v) :=
  wr b f.reg n _ h

theorem satF (b : Block) (f : RegField) (n v : Nat) (h : recordReg (f.reg.at n) = true) : Recorded b (b.satF f n v) :=
  setF b f n _ h

theorem islandRestart (b : Block) : Recorded b (b.islandRestart 3) := by
  unfold Block.islandRestart Block.islandRun
  split
  · exact .trans (.trans (.setF _ _ _ _ (by decide)) (.setF _ _ _ _ (by decide))) (.setF _ _ _ _ (by decide))
  · exact .refl b

theorem send (b : Block) (o : Out) : Recorded b (b.send o) :=
  ⟨rfl, rfl, fun _ _ _ => rfl, fun _ => rfl, rfl, rfl, [o], rfl⟩

theorem sendFrame (b : Block) (f : Frame) : Recorded b (b.sendFrame f) := by
  unfold Block.sendFrame Block.portFrame
  dsimp only
  split
  · exact ⟨rfl, rfl, fun _ _ _ => rfl, fun _ => rfl, rfl, rfl, [_], rfl⟩
  · exact ⟨rfl, rfl, fun _ _ _ => rfl, fun _ => rfl, rfl, rfl, [], by simp [Block.updVc]⟩

theorem ite {a b c : Block} (p : Prop) [Decidable p] (h : Recorded a b) (k : Recorded a c) : Recorded a (if p then b else c) := by
  split
  · exact h
  · exact k

/-- The descriptors in flight stay. -/
theorem list {b b' : Block} (h : Recorded b b') : b'.hq.flights = b.hq.flights := by rw [h.queue]

/-- A register field outside the record keeps its value. -/
theorem getF {b b' : Block} (h : Recorded b b') (f : RegField) (n : Nat) (hr : recordReg (f.reg.at n) = false) :
    b'.getF f n = b.getF f n := by
  simp [Block.getF, Block.rd, h.regs _ _ hr]

theorem rd {b b' : Block} (h : Recorded b b') (r : Reg) (n : Nat) (hr : recordReg (r.at n) = false) :
    b'.rd r n = b.rd r n := by
  simp [Block.rd, h.regs _ _ hr]

end Recorded

namespace Block

theorem logEntry_recorded (o : Occ) (cls act : Nat) (b : Block) : Recorded b (b.logEntry o cls act) := by
  unfold logEntry
  split
  · exact .satF _ _ _ _ (by decide)
  · have hi : b.getF F.CATCH_LOGPTR_NEXT 0 < 64 := by
      have := bits_lt (b.rd F.CATCH_LOGPTR_NEXT.reg 0) F.CATCH_LOGPTR_NEXT.hi F.CATCH_LOGPTR_NEXT.lo
      exact this
    generalize b.getF F.CATCH_LOGPTR_NEXT 0 = i at hi ⊢
    have hw : ∀ k, k < 4 → recordReg (R.CATCH_LOG.at (4 * i + k)) = true := by
      intro k hk
      have : R.CATCH_LOG.at (4 * i + k) = 0x2800 + 4 * (4 * i + k) := by
        simp only [Reg.at, R.CATCH_LOG]
        rw [Nat.div_eq_of_lt (by omega), Nat.mod_eq_of_lt (by omega)]; omega
      rw [this]; simp [recordReg]; omega
    have step : ∀ (x : Block) (m : CatchSt), m.due = x.catchm.due → Recorded x { x with catchm := m } :=
      fun x m h => ⟨rfl, h, fun _ _ _ => rfl, fun _ => rfl, rfl, rfl, [], by simp⟩
    refine .trans ?_ (step _ _ rfl)
    refine .trans ?_ (.setF _ _ _ _ (by decide))
    have four : ∀ w0 w1 w2 w3, Recorded b
        ((((b.wr R.CATCH_LOG (4 * i) w0).wr R.CATCH_LOG (4 * i + 1) w1).wr R.CATCH_LOG (4 * i + 2) w2).wr R.CATCH_LOG (4 * i + 3) w3) :=
      fun w0 w1 w2 w3 =>
        (((Recorded.wr b _ _ w0 (hw 0 (by omega))).trans (.wr _ _ _ w1 (hw 1 (by omega)))).trans
          (.wr _ _ _ w2 (hw 2 (by omega)))).trans (.wr _ _ _ w3 (hw 3 (by omega)))
    exact .ite _ ((four _ _ _ _).trans ((Recorded.setF _ F.CATCH_LOGPTR_WRAP 0 1 (by decide)).trans
      (.satF _ F.CATCH_LOGPTR_LOST 0 1 (by decide)))) (four _ _ _ _)

theorem intRaise_recorded (e : Nat) (b : Block) : Recorded b (b.intRaise e) := by
  unfold intRaise forN
  generalize List.range 5 = l
  dsimp only
  generalize b.getF F.HEP_ROUTE_TGT e = tgt
  generalize (if 12 < b.getF F.HEP_ROUTE_LINE e then 12 else b.getF F.HEP_ROUTE_LINE e) = line
  induction l generalizing b with
  | nil => exact .refl b
  | cons t l ih =>
    rw [List.foldl_cons]
    refine .trans ?_ (ih _)
    generalize (if t = 0 then 0 else t + 1) = c
    split
    · split
      · exact .refl b
      · refine ⟨rfl, rfl, fun _ _ _ => rfl, fun i => ?_, rfl, rfl, [], by simp⟩
        by_cases hi : i = c
        · subst hi; simp [Block.hc]
        · simp [Block.hc, Tab.get_put_ne _ _ _ hi]
    · exact .refl b

theorem msix_recorded (v : Nat) (b : Block) : Recorded b (b.msix v) := by
  unfold msix
  split
  · exact .refl b
  · split
    · exact ⟨rfl, rfl, fun _ _ _ => rfl, fun _ => rfl, rfl, rfl, [], by simp⟩
    · split
      · exact .refl b
      · exact .trans (.islandRestart _) (.send _ _)

/-- Offering an entry to one of the eight event queues. -/
theorem eqOffer_recorded (e typ src node time : Nat) (ws : List Nat) (b : Block) (he : e < 8) :
    Recorded b (b.eqOffer e typ src node time ws).1 := by
  have hS : recordReg (F.HQ_EQSTAT_OVF.reg.at e) = true := by
    rcases e with _ | _ | _ | _ | _ | _ | _ | _ | e <;> first | decide | omega
  have hL : recordReg (F.HQ_EQSTAT_LOST.reg.at e) = true := hS
  have hT : recordReg (F.HQ_EQIDX_TAIL.reg.at e) = true := by
    rcases e with _ | _ | _ | _ | _ | _ | _ | _ | e <;> first | decide | omega
  have hqs : ∀ (x : Block) (q : HqSt),
      q = { x.hq with eseq := q.eseq, ephase := q.ephase, elost := q.elost, msixPend := q.msixPend } →
      Recorded x { x with hq := q } :=
    fun x q h => ⟨rfl, rfl, fun _ _ _ => rfl, fun _ => rfl, h, rfl, [], by simp⟩
  unfold eqOffer
  dsimp only
  split
  · refine .trans ?_ (msix_recorded _ _)
    refine .trans ?_ (hqs _ _ rfl)
    refine .trans ?_ (.setF _ _ _ _ hT)
    exact .trans (hqs b { b.hq with eseq := Tab.put b.hq.eseq e ((Tab.get 0 b.hq.eseq e + 1) % 2 ^ 32) } rfl) (.trans (.islandRestart _) (.send _ _))
  · refine .trans ?_ (hqs _ _ rfl)
    refine .trans ?_ (.setF _ _ _ _ hS)
    exact .trans (hqs b { b.hq with eseq := Tab.put b.hq.eseq e ((Tab.get 0 b.hq.eseq e + 1) % 2 ^ 32) } rfl) (.satF _ _ _ _ hL)

theorem eventCopy_recorded (e typ src : Nat) (ws : List Nat) (b : Block) (he : e < 8) :
    Recorded b (b.eventCopy e typ src ws).1 := by
  unfold eventCopy
  split
  · exact .refl b
  split
  · exact eqOffer_recorded _ _ _ _ _ _ b he
  split
  · split
    · exact .sendFrame b _
    · exact .refl b
  · exact .refl b

theorem eventGo_recorded (e typ src : Nat) (ws : List Nat) (b : Block) (he : e < 8) :
    Recorded b (b.eventGo e typ src ws).1 := by
  unfold eventGo
  split
  · exact eqOffer_recorded _ _ _ _ _ _ b he
  split
  · exact .sendFrame b _
  · exact .refl b

theorem eventArises_recorded (e typ src : Nat) (ws : List Nat) (b : Block) (he : e < 8) :
    Recorded b (b.eventArises e typ src ws).1 :=
  (eventGo_recorded e typ src ws b he).trans (eventCopy_recorded e typ src ws _ he)

theorem eqOffer_occs (e typ src node time : Nat) (ws : List Nat) (b : Block) :
    ∀ o ∈ (b.eqOffer e typ src node time ws).2, o.ev = 225 := by
  unfold eqOffer
  dsimp only
  split
  · simp
  · split <;> simp [ev225]

/-- The occurrences that an event entry causes are of EV225. -/
theorem eventArises_occs (e typ src : Nat) (ws : List Nat) (b : Block) : ∀ o ∈ (b.eventArises e typ src ws).2, o.ev = 225 := by
  intro o ho
  simp only [eventArises, List.mem_append] at ho
  rcases ho with ho | ho
  · unfold eventGo at ho
    split at ho
    · exact eqOffer_occs _ _ _ _ _ _ _ o ho
    · split at ho <;> simp at ho
  · unfold eventCopy at ho
    split at ho
    · simp at ho
    split at ho
    · exact eqOffer_occs _ _ _ _ _ _ _ o ho
    · split at ho
      · split at ho <;> simp at ho
      · simp at ho

theorem small_has (a m : Nat) (ha : a < 8) (hm : m % 8 = 0) : Act.has a m = false := by
  have : a &&& m = 0 := by
    apply Nat.eq_of_testBit_eq
    intro i
    rw [Nat.testBit_and, Nat.zero_testBit]
    by_cases hi : i < 3
    · have : m.testBit i = false := by
        have h8 : m = 2 ^ 3 * (m / 8) := by omega
        rw [h8, Nat.testBit_two_pow_mul]
        simp; omega
      simp [this]
    · have : a.testBit i = false := Nat.testBit_lt_two_pow (by
        calc a < 2 ^ 3 := by omega
          _ ≤ 2 ^ i := Nat.pow_le_pow_right (by omega) (by omega))
      simp [this]
  simp [Act.has, this]

/-- The reaction to an event source that the catchment only records. -/
theorem reaction_small (o : Occ) (b : Block) (hc : b.getF F.CATCH_SRC_CLASS o.ev ≤ 1) (ha : b.getF F.CATCH_SRC_ACT o.ev < 8) :
    (b.reaction o).acts < 8 ∧ (b.reaction o).now < 8 ∧ (b.reaction o).soc = false := by
  have h128 : Act.has (b.getF F.CATCH_SRC_ACT o.ev) Act.socRst = false := small_has _ _ ha (by decide)
  have hcls : ¬ 2 ≤ b.getF F.CATCH_SRC_CLASS o.ev := by omega
  have hc2 : (b.getF F.CATCH_SRC_CLASS o.ev == 2) = false := by simp; omega
  have hsoc : (b.reaction o).soc = false := by simp [reaction, hcls, hc2, h128]
  have hacts : (b.reaction o).acts < 8 := by
    simp only [reaction, if_neg hcls, h128, hc2, Bool.or_false, Bool.and_false, Bool.false_eq_true, if_false]
    have hx (q : Bool) : (if q = true then b.getF F.CATCH_SRC_ACT o.ev &&& 7 else b.getF F.CATCH_SRC_ACT o.ev) &&& 0x7F < 8 := by
      refine Nat.lt_of_le_of_lt Nat.and_le_left ?_
      split
      · exact Nat.lt_of_le_of_lt Nat.and_le_left ha
      · exact ha
    split
    · exact Nat.lt_of_le_of_lt Nat.and_le_left (hx _)
    · exact hx _
  refine ⟨hacts, ?_, hsoc⟩
  have : (b.reaction o).now ≤ (b.reaction o).acts := by
    unfold reaction
    dsimp only
    split
    · exact Nat.and_le_left
    · exact Nat.le_refl _
  omega

theorem mark_recorded (o : Occ) (cls : Nat) (b : Block) (he : o.ev < 256) : Recorded b (b.mark o cls) := by
  have hs : recordReg (R.CATCH_STICKY.at (o.ev / 32)) = true := by
    have h8 : o.ev / 32 < 8 := by omega
    generalize o.ev / 32 = k at h8
    rcases k with _ | _ | _ | _ | _ | _ | _ | _ | k <;> first | decide | omega
  unfold mark
  refine .trans (.wr b R.CATCH_STICKY _ _ hs) (.trans (.ite _ (.refl _) ?_) (.satF _ _ 0 1 ?_))
  · exact ((Recorded.setF _ F.CATCH_STAT_FIRST 0 _ (by decide)).trans (.setF _ F.CATCH_STAT_FIRSTINJ 0 _ (by decide))).trans
      (.setF _ F.CATCH_STAT_FIRSTV 0 1 (by decide))
  · split
    · decide
    · split <;> decide

theorem safeActs_small (o : Occ) (r : Reaction) (b : Block) (ha : r.acts < 8) (hn : r.now < 8) : b.safeActs o r = (b, []) := by
  have h1 : Act.has r.acts 0x38 = false := small_has _ _ ha (by decide)
  have h2 : Act.has r.now Act.chSafe = false := small_has _ _ hn (by decide)
  have h3 : Act.has r.now Act.domSafe = false := small_has _ _ hn (by decide)
  have h4 : Act.has r.now Act.weirSafe = false := small_has _ _ hn (by decide)
  simp [safeActs, h1, h2, h3, h4]

theorem resetActs_small (o : Occ) (r : Reaction) (b : Block) (hn : r.now < 8) (hs : r.soc = false) : b.resetActs o r = (b, []) := by
  have h1 : Act.has r.now Act.coreRst = false := small_has _ _ hn (by decide)
  simp [resetActs, h1, hs]

theorem eventAct_recorded (o : Occ) (r : Reaction) (b : Block) :
    Recorded b (b.eventAct o r).1 ∧ ∀ p ∈ (b.eventAct o r).2, p.ev = 225 := by
  have hq : b.getF F.CATCH_SRC_EQ o.ev < 8 := bits_lt _ F.CATCH_SRC_EQ.hi F.CATCH_SRC_EQ.lo
  unfold eventAct
  split
  · exact ⟨eventArises_recorded _ _ _ _ b hq, eventArises_occs _ _ _ _ b⟩
  · exact ⟨.refl b, by simp⟩

theorem dieOf_lt : ∀ p, p < 112 → dieOf p < 4 := by decide

/-- Either side of a conditional answer. -/
theorem ite_some {c : Prop} [Decidable c] {a b : Option Nat} {x : Nat} {P : Prop} (h : (if c then a else b) = some x)
    (ha : c → a = some x → P) (hb : ¬ c → b = some x → P) : P := by
  by_cases hc : c
  · exact ha hc (by rw [if_pos hc] at h; exact h)
  · exact hb hc (by rw [if_neg hc] at h; exact h)

/-- Crossings have numbers below 64, and their sources are sources. -/
theorem crossOf_lt (e x : Nat) (h : crossOf e = some x) : x < 64 := by
  unfold crossOf at h
  have hd : e < 128 → dieOf (e - 16) < 4 := fun he => dieOf_lt (e - 16) (by omega)
  generalize dieOf (e - 16) = d at h hd
  repeat' (refine ite_some h (fun c h => ?_) (fun c h => ?_) <;> clear * - c hd h)
  all_goals simp at h
  all_goals omega

theorem crossing_lt (o : Occ) (x : Nat) (h : crossing o = some x) : x < 64 := by
  unfold crossing at h
  split at h
  · cases h
  · exact crossOf_lt _ _ h

theorem xstat_at (x : Nat) (h : x < 64) : R.CDC_XSTAT.at x = 0x3A100 + 4 * x := by
  simp only [Reg.at, R.CDC_XSTAT]
  rw [Nat.div_eq_of_lt h, Nat.mod_eq_of_lt h]; omega

theorem record_xstat (x : Nat) (h : x < 64) : recordReg (R.CDC_XSTAT.at x) = true := by
  rw [xstat_at x h]; simp [recordReg]; omega

theorem crossSource_lt (x e : Nat) (hx : x < 64) (h : crossSource x = some e) : e < 256 := by
  have small : ∀ x, x < 64 → (crossSource x).all (fun e => decide (e < 256)) = true := by decide
  have := small x hx
  rw [h] at this
  simpa using this

theorem cdcSync_recorded (x : Nat) (b : Block) (h : x < 64) : Recorded b (b.cdcSync x) := by
  unfold cdcSync
  have hx := record_xstat x h
  have hs : recordReg (R.CDC_SUM.at (x / 32)) = true := by
    have h2 : x / 32 < 2 := by omega
    generalize x / 32 = k at h2
    rcases k with _ | _ | k <;> first | decide | omega
  exact .trans (.ite _ (.refl b) (.setF _ F.CDC_XSTAT_LOST _ _ hx)) (.wr _ _ _ _ hs)

theorem xPass_recorded (o : Occ) (b : Block) : Recorded b (b.xPass o) := by
  unfold xPass
  split
  · exact .refl b
  · rename_i x hx
    have h := record_xstat x (crossing_lt o x hx)
    exact .trans (.setF b F.CDC_XSTAT_PEND _ _ h) (.setF _ F.CDC_XSTAT_PEAK _ _ h)

theorem xLose_recorded (o : Occ) (b : Block) : Recorded b (b.xLose o).1 ∧ ∀ p ∈ (b.xLose o).2, p.ev < 256 := by
  unfold xLose
  split
  · exact ⟨.refl b, by simp⟩
  · rename_i x hx
    have hl := crossing_lt o x hx
    have h := record_xstat x hl
    refine ⟨.trans (.trans (.trans (.trans (.setF b F.CDC_XSTAT_PEND _ _ h) (.setF _ F.CDC_XSTAT_PEAK _ _ h))
      (.setF _ F.CDC_XSTAT_SAT _ _ h)) (.satF _ F.CDC_XSTAT_LOST _ _ h)) (cdcSync_recorded x _ hl), fun p hp => ?_⟩
    simp only [List.mem_map, Option.mem_toList] at hp
    obtain ⟨e, he, rfl⟩ := hp
    exact crossSource_lt x e hl he

/-- An occurrence that the catchment only records changes the record and nothing else. -/
theorem occur_recorded (o : Occ) (b : Block) (he : o.ev < 256) (hc : b.getF F.CATCH_SRC_CLASS o.ev ≤ 1)
    (ha : b.getF F.CATCH_SRC_ACT o.ev < 8) : Recorded b (b.occur o).1 ∧ ∀ p ∈ (b.occur o).2, p.ev < 256 := by
  unfold occur
  split
  · exact ⟨.refl b, by simp⟩
  split
  · exact xLose_recorded o b
  dsimp only
  have hp := xPass_recorded o b
  have hr : recordReg (R.CATCH_SRC.at o.ev) = false := by
    have : R.CATCH_SRC.at o.ev = 0x2400 + 4 * o.ev := by
      simp only [Reg.at, R.CATCH_SRC]
      rw [Nat.div_eq_of_lt he, Nat.mod_eq_of_lt he]; omega
    rw [this]; simp [recordReg]; omega
  rw [← hp.getF F.CATCH_SRC_CLASS o.ev hr] at hc
  rw [← hp.getF F.CATCH_SRC_ACT o.ev hr] at ha
  refine (fun (k : Recorded (b.xPass o) _ ∧ _) => ⟨hp.trans k.1, k.2⟩) ?_
  generalize b.xPass o = b at hc ha ⊢
  obtain ⟨h1, h2, h3⟩ := reaction_small o b hc ha
  generalize b.reaction o = r at h1 h2 h3 ⊢
  have hm := mark_recorded o r.cls b he
  generalize b.mark o r.cls = b1 at hm ⊢
  have hl : Recorded b1 (if Act.has r.acts Act.log = true then b1.logEntry o r.cls r.now else b1) :=
    .ite _ (logEntry_recorded _ _ _ _) (.refl _)
  generalize (if Act.has r.acts Act.log = true then b1.logEntry o r.cls r.now else b1) = b2 at hl ⊢
  rw [safeActs_small o r b2 h1 h2]
  dsimp only
  have hi : Recorded b2 (if Act.has r.now Act.int = true then b2.intRaise o.ev else b2) := .ite _ (intRaise_recorded _ _) (.refl _)
  generalize (if Act.has r.now Act.int = true then b2.intRaise o.ev else b2) = b3 at hi ⊢
  obtain ⟨he1, he2⟩ := eventAct_recorded o r b3
  rw [resetActs_small o r _ h2 h3]
  exact ⟨((hm.trans hl).trans hi).trans he1, fun p hp => by
    have : p ∈ (b3.eventAct o r).2 := by simpa using hp
    rw [he2 p this]; omega⟩

end Block

/-- A record leaves the configuration of the catchment as it was. -/
theorem Recorded.tame {b b' : Block} (h : Recorded b b') (ht : b.Tame) : b'.Tame := by
  intro e he
  have hr : recordReg (R.CATCH_SRC.at e) = false := by
    have : R.CATCH_SRC.at e = 0x2400 + 4 * e := by
      simp only [Reg.at, R.CATCH_SRC]
      rw [Nat.div_eq_of_lt he, Nat.mod_eq_of_lt he]; omega
    rw [this]; simp [recordReg]; omega
  rw [h.getF F.CATCH_SRC_CLASS e hr, h.getF F.CATCH_SRC_ACT e hr]
  exact ht e he

namespace Block

theorem raiseAll_recorded (n : Nat) (os : List Occ) (b : Block) (ht : b.Tame) (ho : ∀ o ∈ os, o.ev < 256) :
    Recorded b (b.raiseAll n os) := by
  induction n generalizing os b with
  | zero => unfold raiseAll; exact .refl b
  | succ n ih =>
    cases os with
    | nil => unfold raiseAll; exact .refl b
    | cons o os =>
      unfold raiseAll
      have he := ho o (List.mem_cons_self ..)
      obtain ⟨h1, h2⟩ := occur_recorded o b he (ht _ he).1 (ht _ he).2
      refine h1.trans (ih _ _ (h1.tame ht) fun p hp => ?_)
      rcases List.mem_append.mp hp with hp | hp
      · exact ho p (List.mem_cons_of_mem _ hp)
      · exact h2 p hp

/-- ALL THAT RAISING CAN DO where the catchment only records (R304–R320): the record, event entries, pending bits. -/
theorem raise_recorded (e detail : Nat) (b : Block) (ht : b.Tame) (he : e < 256) : Recorded b (b.raise e detail) :=
  raiseAll_recorded _ _ b ht (by simpa using he)

theorem raiseList_recorded (os : List Occ) (b : Block) (ht : b.Tame) (ho : ∀ o ∈ os, o.ev < 256) : Recorded b (b.raiseList os) :=
  raiseAll_recorded _ _ b ht ho

end Block

/-- A record leaves nothing to carry out. -/
theorem Recorded.calm {b b' : Block} (h : Recorded b b') (hc : b.Calm) : b'.Calm := by
  obtain ⟨h1, h2, h3, h4⟩ := hc
  have hst : ∀ c, c < 15 → recordReg (R.HEP_STAT.at c) = false := by
    intro c hc
    have : R.HEP_STAT.at c = 0x40100 + 4 * c := by
      simp only [Reg.at, R.HEP_STAT]
      rw [Nat.div_eq_of_lt hc, Nat.mod_eq_of_lt hc]; omega
    rw [this]; simp [recordReg]; omega
  refine ⟨by rw [h.due, h1], ?_, ?_, fun c hc => ?_⟩
  · rw [h.rest]; exact h2
  · rw [h.getF F.GAUGE_STAT_STATE 0 (by decide)]; exact h3
  · have := h.getF F.HEP_STAT_STATE c (hst c hc)
    unfold Block.coreState at h4 ⊢
    rw [this]; exact h4 c hc

end Sys2Proof.Machine
end

