-- ==== Sys2Proof/Laws/State.lean ====
section
/-! SUPPORT. What each update of the state leaves: one lemma per field that an update does not touch, what it reads at its own
place, and the reads of registers. -/
namespace Sys2Proof.Machine
namespace Block

/-! ### wr -/

@[simp] theorem wr_mem (b : Block) (r : Reg) (n w : Nat) : (b.wr r n w).mem = b.mem := rfl
@[simp] theorem wr_badEcc (b : Block) (r : Reg) (n w : Nat) : (b.wr r n w).badEcc = b.badEcc := rfl
@[simp] theorem wr_pw (b : Block) (r : Reg) (n w : Nat) : (b.wr r n w).pw = b.pw := rfl
@[simp] theorem wr_chan (b : Block) (r : Reg) (n w : Nat) : (b.wr r n w).chan = b.chan := rfl
@[simp] theorem wr_fb (b : Block) (r : Reg) (n w : Nat) : (b.wr r n w).fb = b.fb := rfl
@[simp] theorem wr_dieq (b : Block) (r : Reg) (n w : Nat) : (b.wr r n w).dieq = b.dieq := rfl
@[simp] theorem wr_vlv (b : Block) (r : Reg) (n w : Nat) : (b.wr r n w).vlv = b.vlv := rfl
@[simp] theorem wr_lmp (b : Block) (r : Reg) (n w : Nat) : (b.wr r n w).lmp = b.lmp := rfl
@[simp] theorem wr_px (b : Block) (r : Reg) (n w : Nat) : (b.wr r n w).px = b.px := rfl
@[simp] theorem wr_dio (b : Block) (r : Reg) (n w : Nat) : (b.wr r n w).dio = b.dio := rfl
@[simp] theorem wr_net (b : Block) (r : Reg) (n w : Nat) : (b.wr r n w).net = b.net := rfl
@[simp] theorem wr_ciph (b : Block) (r : Reg) (n w : Nat) : (b.wr r n w).ciph = b.ciph := rfl
@[simp] theorem wr_acs (b : Block) (r : Reg) (n w : Nat) : (b.wr r n w).acs = b.acs := rfl
@[simp] theorem wr_flash (b : Block) (r : Reg) (n w : Nat) : (b.wr r n w).flash = b.flash := rfl
@[simp] theorem wr_boot (b : Block) (r : Reg) (n w : Nat) : (b.wr r n w).boot = b.boot := rfl
@[simp] theorem wr_pair (b : Block) (r : Reg) (n w : Nat) : (b.wr r n w).pair = b.pair := rfl
@[simp] theorem wr_gauge (b : Block) (r : Reg) (n w : Nat) : (b.wr r n w).gauge = b.gauge := rfl
@[simp] theorem wr_chn (b : Block) (r : Reg) (n w : Nat) : (b.wr r n w).chn = b.chn := rfl
@[simp] theorem wr_weir (b : Block) (r : Reg) (n w : Nat) : (b.wr r n w).weir = b.weir := rfl
@[simp] theorem wr_hq (b : Block) (r : Reg) (n w : Nat) : (b.wr r n w).hq = b.hq := rfl
@[simp] theorem wr_catchm (b : Block) (r : Reg) (n w : Nat) : (b.wr r n w).catchm = b.catchm := rfl
@[simp] theorem wr_core (b : Block) (r : Reg) (n w : Nat) : (b.wr r n w).core = b.core := rfl
@[simp] theorem wr_out (b : Block) (r : Reg) (n w : Nat) : (b.wr r n w).out = b.out := rfl
@[simp] theorem wr_free (b : Block) (r : Reg) (n w : Nat) : (b.wr r n w).free = b.free := rfl

/-! ### setF -/

@[simp] theorem setF_mem (b : Block) (f : RegField) (n v : Nat) : (b.setF f n v).mem = b.mem := rfl
@[simp] theorem setF_badEcc (b : Block) (f : RegField) (n v : Nat) : (b.setF f n v).badEcc = b.badEcc := rfl
@[simp] theorem setF_pw (b : Block) (f : RegField) (n v : Nat) : (b.setF f n v).pw = b.pw := rfl
@[simp] theorem setF_chan (b : Block) (f : RegField) (n v : Nat) : (b.setF f n v).chan = b.chan := rfl
@[simp] theorem setF_fb (b : Block) (f : RegField) (n v : Nat) : (b.setF f n v).fb = b.fb := rfl
@[simp] theorem setF_dieq (b : Block) (f : RegField) (n v : Nat) : (b.setF f n v).dieq = b.dieq := rfl
@[simp] theorem setF_vlv (b : Block) (f : RegField) (n v : Nat) : (b.setF f n v).vlv = b.vlv := rfl
@[simp] theorem setF_lmp (b : Block) (f : RegField) (n v : Nat) : (b.setF f n v).lmp = b.lmp := rfl
@[simp] theorem setF_px (b : Block) (f : RegField) (n v : Nat) : (b.setF f n v).px = b.px := rfl
@[simp] theorem setF_dio (b : Block) (f : RegField) (n v : Nat) : (b.setF f n v).dio = b.dio := rfl
@[simp] theorem setF_net (b : Block) (f : RegField) (n v : Nat) : (b.setF f n v).net = b.net := rfl
@[simp] theorem setF_ciph (b : Block) (f : RegField) (n v : Nat) : (b.setF f n v).ciph = b.ciph := rfl
@[simp] theorem setF_acs (b : Block) (f : RegField) (n v : Nat) : (b.setF f n v).acs = b.acs := rfl
@[simp] theorem setF_flash (b : Block) (f : RegField) (n v : Nat) : (b.setF f n v).flash = b.flash := rfl
@[simp] theorem setF_boot (b : Block) (f : RegField) (n v : Nat) : (b.setF f n v).boot = b.boot := rfl
@[simp] theorem setF_pair (b : Block) (f : RegField) (n v : Nat) : (b.setF f n v).pair = b.pair := rfl
@[simp] theorem setF_gauge (b : Block) (f : RegField) (n v : Nat) : (b.setF f n v).gauge = b.gauge := rfl
@[simp] theorem setF_chn (b : Block) (f : RegField) (n v : Nat) : (b.setF f n v).chn = b.chn := rfl
@[simp] theorem setF_weir (b : Block) (f : RegField) (n v : Nat) : (b.setF f n v).weir = b.weir := rfl
@[simp] theorem setF_hq (b : Block) (f : RegField) (n v : Nat) : (b.setF f n v).hq = b.hq := rfl
@[simp] theorem setF_catchm (b : Block) (f : RegField) (n v : Nat) : (b.setF f n v).catchm = b.catchm := rfl
@[simp] theorem setF_core (b : Block) (f : RegField) (n v : Nat) : (b.setF f n v).core = b.core := rfl
@[simp] theorem setF_out (b : Block) (f : RegField) (n v : Nat) : (b.setF f n v).out = b.out := rfl
@[simp] theorem setF_free (b : Block) (f : RegField) (n v : Nat) : (b.setF f n v).free = b.free := rfl

/-! ### updHc -/

@[simp] theorem updHc_regs (b : Block) (c : Nat) (f : HepCore → HepCore) : (b.updHc c f).regs = b.regs := rfl
@[simp] theorem updHc_mem (b : Block) (c : Nat) (f : HepCore → HepCore) : (b.updHc c f).mem = b.mem := rfl
@[simp] theorem updHc_badEcc (b : Block) (c : Nat) (f : HepCore → HepCore) : (b.updHc c f).badEcc = b.badEcc := rfl
@[simp] theorem updHc_pw (b : Block) (c : Nat) (f : HepCore → HepCore) : (b.updHc c f).pw = b.pw := rfl
@[simp] theorem updHc_chan (b : Block) (c : Nat) (f : HepCore → HepCore) : (b.updHc c f).chan = b.chan := rfl
@[simp] theorem updHc_fb (b : Block) (c : Nat) (f : HepCore → HepCore) : (b.updHc c f).fb = b.fb := rfl
@[simp] theorem updHc_dieq (b : Block) (c : Nat) (f : HepCore → HepCore) : (b.updHc c f).dieq = b.dieq := rfl
@[simp] theorem updHc_vlv (b : Block) (c : Nat) (f : HepCore → HepCore) : (b.updHc c f).vlv = b.vlv := rfl
@[simp] theorem updHc_lmp (b : Block) (c : Nat) (f : HepCore → HepCore) : (b.updHc c f).lmp = b.lmp := rfl
@[simp] theorem updHc_px (b : Block) (c : Nat) (f : HepCore → HepCore) : (b.updHc c f).px = b.px := rfl
@[simp] theorem updHc_dio (b : Block) (c : Nat) (f : HepCore → HepCore) : (b.updHc c f).dio = b.dio := rfl
@[simp] theorem updHc_net (b : Block) (c : Nat) (f : HepCore → HepCore) : (b.updHc c f).net = b.net := rfl
@[simp] theorem updHc_ciph (b : Block) (c : Nat) (f : HepCore → HepCore) : (b.updHc c f).ciph = b.ciph := rfl
@[simp] theorem updHc_acs (b : Block) (c : Nat) (f : HepCore → HepCore) : (b.updHc c f).acs = b.acs := rfl
@[simp] theorem updHc_flash (b : Block) (c : Nat) (f : HepCore → HepCore) : (b.updHc c f).flash = b.flash := rfl
@[simp] theorem updHc_boot (b : Block) (c : Nat) (f : HepCore → HepCore) : (b.updHc c f).boot = b.boot := rfl
@[simp] theorem updHc_pair (b : Block) (c : Nat) (f : HepCore → HepCore) : (b.updHc c f).pair = b.pair := rfl
@[simp] theorem updHc_gauge (b : Block) (c : Nat) (f : HepCore → HepCore) : (b.updHc c f).gauge = b.gauge := rfl
@[simp] theorem updHc_chn (b : Block) (c : Nat) (f : HepCore → HepCore) : (b.updHc c f).chn = b.chn := rfl
@[simp] theorem updHc_weir (b : Block) (c : Nat) (f : HepCore → HepCore) : (b.updHc c f).weir = b.weir := rfl
@[simp] theorem updHc_hq (b : Block) (c : Nat) (f : HepCore → HepCore) : (b.updHc c f).hq = b.hq := rfl
@[simp] theorem updHc_catchm (b : Block) (c : Nat) (f : HepCore → HepCore) : (b.updHc c f).catchm = b.catchm := rfl
@[simp] theorem updHc_out (b : Block) (c : Nat) (f : HepCore → HepCore) : (b.updHc c f).out = b.out := rfl
@[simp] theorem updHc_free (b : Block) (c : Nat) (f : HepCore → HepCore) : (b.updHc c f).free = b.free := rfl
@[simp] theorem updHc_rd (b : Block) (c : Nat) (f : HepCore → HepCore) (r : Reg) (i : Nat) : (b.updHc c f).rd r i = b.rd r i := rfl
@[simp] theorem updHc_getF (b : Block) (c : Nat) (f : HepCore → HepCore) (g : RegField) (i : Nat) : (b.updHc c f).getF g i = b.getF g i := rfl
@[simp] theorem updHc_flag (b : Block) (c : Nat) (f : HepCore → HepCore) (g : RegField) (i : Nat) : (b.updHc c f).flag g i = b.flag g i := rfl

/-! ### updCh -/

@[simp] theorem updCh_regs (b : Block) (p : Nat) (f : PowerChan → PowerChan) : (b.updCh p f).regs = b.regs := rfl
@[simp] theorem updCh_mem (b : Block) (p : Nat) (f : PowerChan → PowerChan) : (b.updCh p f).mem = b.mem := rfl
@[simp] theorem updCh_badEcc (b : Block) (p : Nat) (f : PowerChan → PowerChan) : (b.updCh p f).badEcc = b.badEcc := rfl
@[simp] theorem updCh_pw (b : Block) (p : Nat) (f : PowerChan → PowerChan) : (b.updCh p f).pw = b.pw := rfl
@[simp] theorem updCh_fb (b : Block) (p : Nat) (f : PowerChan → PowerChan) : (b.updCh p f).fb = b.fb := rfl
@[simp] theorem updCh_dieq (b : Block) (p : Nat) (f : PowerChan → PowerChan) : (b.updCh p f).dieq = b.dieq := rfl
@[simp] theorem updCh_vlv (b : Block) (p : Nat) (f : PowerChan → PowerChan) : (b.updCh p f).vlv = b.vlv := rfl
@[simp] theorem updCh_lmp (b : Block) (p : Nat) (f : PowerChan → PowerChan) : (b.updCh p f).lmp = b.lmp := rfl
@[simp] theorem updCh_px (b : Block) (p : Nat) (f : PowerChan → PowerChan) : (b.updCh p f).px = b.px := rfl
@[simp] theorem updCh_dio (b : Block) (p : Nat) (f : PowerChan → PowerChan) : (b.updCh p f).dio = b.dio := rfl
@[simp] theorem updCh_net (b : Block) (p : Nat) (f : PowerChan → PowerChan) : (b.updCh p f).net = b.net := rfl
@[simp] theorem updCh_ciph (b : Block) (p : Nat) (f : PowerChan → PowerChan) : (b.updCh p f).ciph = b.ciph := rfl
@[simp] theorem updCh_acs (b : Block) (p : Nat) (f : PowerChan → PowerChan) : (b.updCh p f).acs = b.acs := rfl
@[simp] theorem updCh_flash (b : Block) (p : Nat) (f : PowerChan → PowerChan) : (b.updCh p f).flash = b.flash := rfl
@[simp] theorem updCh_boot (b : Block) (p : Nat) (f : PowerChan → PowerChan) : (b.updCh p f).boot = b.boot := rfl
@[simp] theorem updCh_pair (b : Block) (p : Nat) (f : PowerChan → PowerChan) : (b.updCh p f).pair = b.pair := rfl
@[simp] theorem updCh_gauge (b : Block) (p : Nat) (f : PowerChan → PowerChan) : (b.updCh p f).gauge = b.gauge := rfl
@[simp] theorem updCh_chn (b : Block) (p : Nat) (f : PowerChan → PowerChan) : (b.updCh p f).chn = b.chn := rfl
@[simp] theorem updCh_weir (b : Block) (p : Nat) (f : PowerChan → PowerChan) : (b.updCh p f).weir = b.weir := rfl
@[simp] theorem updCh_hq (b : Block) (p : Nat) (f : PowerChan → PowerChan) : (b.updCh p f).hq = b.hq := rfl
@[simp] theorem updCh_catchm (b : Block) (p : Nat) (f : PowerChan → PowerChan) : (b.updCh p f).catchm = b.catchm := rfl
@[simp] theorem updCh_core (b : Block) (p : Nat) (f : PowerChan → PowerChan) : (b.updCh p f).core = b.core := rfl
@[simp] theorem updCh_out (b : Block) (p : Nat) (f : PowerChan → PowerChan) : (b.updCh p f).out = b.out := rfl
@[simp] theorem updCh_free (b : Block) (p : Nat) (f : PowerChan → PowerChan) : (b.updCh p f).free = b.free := rfl
@[simp] theorem updCh_rd (b : Block) (p : Nat) (f : PowerChan → PowerChan) (r : Reg) (i : Nat) : (b.updCh p f).rd r i = b.rd r i := rfl
@[simp] theorem updCh_getF (b : Block) (p : Nat) (f : PowerChan → PowerChan) (g : RegField) (i : Nat) : (b.updCh p f).getF g i = b.getF g i := rfl
@[simp] theorem updCh_flag (b : Block) (p : Nat) (f : PowerChan → PowerChan) (g : RegField) (i : Nat) : (b.updCh p f).flag g i = b.flag g i := rfl

/-! ### updFb -/

@[simp] theorem updFb_regs (b : Block) (k : Nat) (f : FullBridge → FullBridge) : (b.updFb k f).regs = b.regs := rfl
@[simp] theorem updFb_mem (b : Block) (k : Nat) (f : FullBridge → FullBridge) : (b.updFb k f).mem = b.mem := rfl
@[simp] theorem updFb_badEcc (b : Block) (k : Nat) (f : FullBridge → FullBridge) : (b.updFb k f).badEcc = b.badEcc := rfl
@[simp] theorem updFb_pw (b : Block) (k : Nat) (f : FullBridge → FullBridge) : (b.updFb k f).pw = b.pw := rfl
@[simp] theorem updFb_chan (b : Block) (k : Nat) (f : FullBridge → FullBridge) : (b.updFb k f).chan = b.chan := rfl
@[simp] theorem updFb_dieq (b : Block) (k : Nat) (f : FullBridge → FullBridge) : (b.updFb k f).dieq = b.dieq := rfl
@[simp] theorem updFb_vlv (b : Block) (k : Nat) (f : FullBridge → FullBridge) : (b.updFb k f).vlv = b.vlv := rfl
@[simp] theorem updFb_lmp (b : Block) (k : Nat) (f : FullBridge → FullBridge) : (b.updFb k f).lmp = b.lmp := rfl
@[simp] theorem updFb_px (b : Block) (k : Nat) (f : FullBridge → FullBridge) : (b.updFb k f).px = b.px := rfl
@[simp] theorem updFb_dio (b : Block) (k : Nat) (f : FullBridge → FullBridge) : (b.updFb k f).dio = b.dio := rfl
@[simp] theorem updFb_net (b : Block) (k : Nat) (f : FullBridge → FullBridge) : (b.updFb k f).net = b.net := rfl
@[simp] theorem updFb_ciph (b : Block) (k : Nat) (f : FullBridge → FullBridge) : (b.updFb k f).ciph = b.ciph := rfl
@[simp] theorem updFb_acs (b : Block) (k : Nat) (f : FullBridge → FullBridge) : (b.updFb k f).acs = b.acs := rfl
@[simp] theorem updFb_flash (b : Block) (k : Nat) (f : FullBridge → FullBridge) : (b.updFb k f).flash = b.flash := rfl
@[simp] theorem updFb_boot (b : Block) (k : Nat) (f : FullBridge → FullBridge) : (b.updFb k f).boot = b.boot := rfl
@[simp] theorem updFb_pair (b : Block) (k : Nat) (f : FullBridge → FullBridge) : (b.updFb k f).pair = b.pair := rfl
@[simp] theorem updFb_gauge (b : Block) (k : Nat) (f : FullBridge → FullBridge) : (b.updFb k f).gauge = b.gauge := rfl
@[simp] theorem updFb_chn (b : Block) (k : Nat) (f : FullBridge → FullBridge) : (b.updFb k f).chn = b.chn := rfl
@[simp] theorem updFb_weir (b : Block) (k : Nat) (f : FullBridge → FullBridge) : (b.updFb k f).weir = b.weir := rfl
@[simp] theorem updFb_hq (b : Block) (k : Nat) (f : FullBridge → FullBridge) : (b.updFb k f).hq = b.hq := rfl
@[simp] theorem updFb_catchm (b : Block) (k : Nat) (f : FullBridge → FullBridge) : (b.updFb k f).catchm = b.catchm := rfl
@[simp] theorem updFb_core (b : Block) (k : Nat) (f : FullBridge → FullBridge) : (b.updFb k f).core = b.core := rfl
@[simp] theorem updFb_out (b : Block) (k : Nat) (f : FullBridge → FullBridge) : (b.updFb k f).out = b.out := rfl
@[simp] theorem updFb_free (b : Block) (k : Nat) (f : FullBridge → FullBridge) : (b.updFb k f).free = b.free := rfl
@[simp] theorem updFb_rd (b : Block) (k : Nat) (f : FullBridge → FullBridge) (r : Reg) (i : Nat) : (b.updFb k f).rd r i = b.rd r i := rfl
@[simp] theorem updFb_getF (b : Block) (k : Nat) (f : FullBridge → FullBridge) (g : RegField) (i : Nat) : (b.updFb k f).getF g i = b.getF g i := rfl
@[simp] theorem updFb_flag (b : Block) (k : Nat) (f : FullBridge → FullBridge) (g : RegField) (i : Nat) : (b.updFb k f).flag g i = b.flag g i := rfl

/-! ### updDi -/

@[simp] theorem updDi_regs (b : Block) (n : Nat) (f : DiIn → DiIn) : (b.updDi n f).regs = b.regs := rfl
@[simp] theorem updDi_mem (b : Block) (n : Nat) (f : DiIn → DiIn) : (b.updDi n f).mem = b.mem := rfl
@[simp] theorem updDi_badEcc (b : Block) (n : Nat) (f : DiIn → DiIn) : (b.updDi n f).badEcc = b.badEcc := rfl
@[simp] theorem updDi_pw (b : Block) (n : Nat) (f : DiIn → DiIn) : (b.updDi n f).pw = b.pw := rfl
@[simp] theorem updDi_chan (b : Block) (n : Nat) (f : DiIn → DiIn) : (b.updDi n f).chan = b.chan := rfl
@[simp] theorem updDi_fb (b : Block) (n : Nat) (f : DiIn → DiIn) : (b.updDi n f).fb = b.fb := rfl
@[simp] theorem updDi_dieq (b : Block) (n : Nat) (f : DiIn → DiIn) : (b.updDi n f).dieq = b.dieq := rfl
@[simp] theorem updDi_vlv (b : Block) (n : Nat) (f : DiIn → DiIn) : (b.updDi n f).vlv = b.vlv := rfl
@[simp] theorem updDi_lmp (b : Block) (n : Nat) (f : DiIn → DiIn) : (b.updDi n f).lmp = b.lmp := rfl
@[simp] theorem updDi_px (b : Block) (n : Nat) (f : DiIn → DiIn) : (b.updDi n f).px = b.px := rfl
@[simp] theorem updDi_net (b : Block) (n : Nat) (f : DiIn → DiIn) : (b.updDi n f).net = b.net := rfl
@[simp] theorem updDi_ciph (b : Block) (n : Nat) (f : DiIn → DiIn) : (b.updDi n f).ciph = b.ciph := rfl
@[simp] theorem updDi_acs (b : Block) (n : Nat) (f : DiIn → DiIn) : (b.updDi n f).acs = b.acs := rfl
@[simp] theorem updDi_flash (b : Block) (n : Nat) (f : DiIn → DiIn) : (b.updDi n f).flash = b.flash := rfl
@[simp] theorem updDi_boot (b : Block) (n : Nat) (f : DiIn → DiIn) : (b.updDi n f).boot = b.boot := rfl
@[simp] theorem updDi_pair (b : Block) (n : Nat) (f : DiIn → DiIn) : (b.updDi n f).pair = b.pair := rfl
@[simp] theorem updDi_gauge (b : Block) (n : Nat) (f : DiIn → DiIn) : (b.updDi n f).gauge = b.gauge := rfl
@[simp] theorem updDi_chn (b : Block) (n : Nat) (f : DiIn → DiIn) : (b.updDi n f).chn = b.chn := rfl
@[simp] theorem updDi_weir (b : Block) (n : Nat) (f : DiIn → DiIn) : (b.updDi n f).weir = b.weir := rfl
@[simp] theorem updDi_hq (b : Block) (n : Nat) (f : DiIn → DiIn) : (b.updDi n f).hq = b.hq := rfl
@[simp] theorem updDi_catchm (b : Block) (n : Nat) (f : DiIn → DiIn) : (b.updDi n f).catchm = b.catchm := rfl
@[simp] theorem updDi_core (b : Block) (n : Nat) (f : DiIn → DiIn) : (b.updDi n f).core = b.core := rfl
@[simp] theorem updDi_out (b : Block) (n : Nat) (f : DiIn → DiIn) : (b.updDi n f).out = b.out := rfl
@[simp] theorem updDi_free (b : Block) (n : Nat) (f : DiIn → DiIn) : (b.updDi n f).free = b.free := rfl
@[simp] theorem updDi_rd (b : Block) (n : Nat) (f : DiIn → DiIn) (r : Reg) (i : Nat) : (b.updDi n f).rd r i = b.rd r i := rfl
@[simp] theorem updDi_getF (b : Block) (n : Nat) (f : DiIn → DiIn) (g : RegField) (i : Nat) : (b.updDi n f).getF g i = b.getF g i := rfl
@[simp] theorem updDi_flag (b : Block) (n : Nat) (f : DiIn → DiIn) (g : RegField) (i : Nat) : (b.updDi n f).flag g i = b.flag g i := rfl

/-! ### updDo -/

@[simp] theorem updDo_regs (b : Block) (m : Nat) (f : DoOut → DoOut) : (b.updDo m f).regs = b.regs := rfl
@[simp] theorem updDo_mem (b : Block) (m : Nat) (f : DoOut → DoOut) : (b.updDo m f).mem = b.mem := rfl
@[simp] theorem updDo_badEcc (b : Block) (m : Nat) (f : DoOut → DoOut) : (b.updDo m f).badEcc = b.badEcc := rfl
@[simp] theorem updDo_pw (b : Block) (m : Nat) (f : DoOut → DoOut) : (b.updDo m f).pw = b.pw := rfl
@[simp] theorem updDo_chan (b : Block) (m : Nat) (f : DoOut → DoOut) : (b.updDo m f).chan = b.chan := rfl
@[simp] theorem updDo_fb (b : Block) (m : Nat) (f : DoOut → DoOut) : (b.updDo m f).fb = b.fb := rfl
@[simp] theorem updDo_dieq (b : Block) (m : Nat) (f : DoOut → DoOut) : (b.updDo m f).dieq = b.dieq := rfl
@[simp] theorem updDo_vlv (b : Block) (m : Nat) (f : DoOut → DoOut) : (b.updDo m f).vlv = b.vlv := rfl
@[simp] theorem updDo_lmp (b : Block) (m : Nat) (f : DoOut → DoOut) : (b.updDo m f).lmp = b.lmp := rfl
@[simp] theorem updDo_px (b : Block) (m : Nat) (f : DoOut → DoOut) : (b.updDo m f).px = b.px := rfl
@[simp] theorem updDo_net (b : Block) (m : Nat) (f : DoOut → DoOut) : (b.updDo m f).net = b.net := rfl
@[simp] theorem updDo_ciph (b : Block) (m : Nat) (f : DoOut → DoOut) : (b.updDo m f).ciph = b.ciph := rfl
@[simp] theorem updDo_acs (b : Block) (m : Nat) (f : DoOut → DoOut) : (b.updDo m f).acs = b.acs := rfl
@[simp] theorem updDo_flash (b : Block) (m : Nat) (f : DoOut → DoOut) : (b.updDo m f).flash = b.flash := rfl
@[simp] theorem updDo_boot (b : Block) (m : Nat) (f : DoOut → DoOut) : (b.updDo m f).boot = b.boot := rfl
@[simp] theorem updDo_pair (b : Block) (m : Nat) (f : DoOut → DoOut) : (b.updDo m f).pair = b.pair := rfl
@[simp] theorem updDo_gauge (b : Block) (m : Nat) (f : DoOut → DoOut) : (b.updDo m f).gauge = b.gauge := rfl
@[simp] theorem updDo_chn (b : Block) (m : Nat) (f : DoOut → DoOut) : (b.updDo m f).chn = b.chn := rfl
@[simp] theorem updDo_weir (b : Block) (m : Nat) (f : DoOut → DoOut) : (b.updDo m f).weir = b.weir := rfl
@[simp] theorem updDo_hq (b : Block) (m : Nat) (f : DoOut → DoOut) : (b.updDo m f).hq = b.hq := rfl
@[simp] theorem updDo_catchm (b : Block) (m : Nat) (f : DoOut → DoOut) : (b.updDo m f).catchm = b.catchm := rfl
@[simp] theorem updDo_core (b : Block) (m : Nat) (f : DoOut → DoOut) : (b.updDo m f).core = b.core := rfl
@[simp] theorem updDo_out (b : Block) (m : Nat) (f : DoOut → DoOut) : (b.updDo m f).out = b.out := rfl
@[simp] theorem updDo_free (b : Block) (m : Nat) (f : DoOut → DoOut) : (b.updDo m f).free = b.free := rfl
@[simp] theorem updDo_rd (b : Block) (m : Nat) (f : DoOut → DoOut) (r : Reg) (i : Nat) : (b.updDo m f).rd r i = b.rd r i := rfl
@[simp] theorem updDo_getF (b : Block) (m : Nat) (f : DoOut → DoOut) (g : RegField) (i : Nat) : (b.updDo m f).getF g i = b.getF g i := rfl
@[simp] theorem updDo_flag (b : Block) (m : Nat) (f : DoOut → DoOut) (g : RegField) (i : Nat) : (b.updDo m f).flag g i = b.flag g i := rfl

/-! ### updSv -/

@[simp] theorem updSv_regs (b : Block) (k : Nat) (f : SvOut → SvOut) : (b.updSv k f).regs = b.regs := rfl
@[simp] theorem updSv_mem (b : Block) (k : Nat) (f : SvOut → SvOut) : (b.updSv k f).mem = b.mem := rfl
@[simp] theorem updSv_badEcc (b : Block) (k : Nat) (f : SvOut → SvOut) : (b.updSv k f).badEcc = b.badEcc := rfl
@[simp] theorem updSv_pw (b : Block) (k : Nat) (f : SvOut → SvOut) : (b.updSv k f).pw = b.pw := rfl
@[simp] theorem updSv_chan (b : Block) (k : Nat) (f : SvOut → SvOut) : (b.updSv k f).chan = b.chan := rfl
@[simp] theorem updSv_fb (b : Block) (k : Nat) (f : SvOut → SvOut) : (b.updSv k f).fb = b.fb := rfl
@[simp] theorem updSv_dieq (b : Block) (k : Nat) (f : SvOut → SvOut) : (b.updSv k f).dieq = b.dieq := rfl
@[simp] theorem updSv_vlv (b : Block) (k : Nat) (f : SvOut → SvOut) : (b.updSv k f).vlv = b.vlv := rfl
@[simp] theorem updSv_lmp (b : Block) (k : Nat) (f : SvOut → SvOut) : (b.updSv k f).lmp = b.lmp := rfl
@[simp] theorem updSv_px (b : Block) (k : Nat) (f : SvOut → SvOut) : (b.updSv k f).px = b.px := rfl
@[simp] theorem updSv_net (b : Block) (k : Nat) (f : SvOut → SvOut) : (b.updSv k f).net = b.net := rfl
@[simp] theorem updSv_ciph (b : Block) (k : Nat) (f : SvOut → SvOut) : (b.updSv k f).ciph = b.ciph := rfl
@[simp] theorem updSv_acs (b : Block) (k : Nat) (f : SvOut → SvOut) : (b.updSv k f).acs = b.acs := rfl
@[simp] theorem updSv_flash (b : Block) (k : Nat) (f : SvOut → SvOut) : (b.updSv k f).flash = b.flash := rfl
@[simp] theorem updSv_boot (b : Block) (k : Nat) (f : SvOut → SvOut) : (b.updSv k f).boot = b.boot := rfl
@[simp] theorem updSv_pair (b : Block) (k : Nat) (f : SvOut → SvOut) : (b.updSv k f).pair = b.pair := rfl
@[simp] theorem updSv_gauge (b : Block) (k : Nat) (f : SvOut → SvOut) : (b.updSv k f).gauge = b.gauge := rfl
@[simp] theorem updSv_chn (b : Block) (k : Nat) (f : SvOut → SvOut) : (b.updSv k f).chn = b.chn := rfl
@[simp] theorem updSv_weir (b : Block) (k : Nat) (f : SvOut → SvOut) : (b.updSv k f).weir = b.weir := rfl
@[simp] theorem updSv_hq (b : Block) (k : Nat) (f : SvOut → SvOut) : (b.updSv k f).hq = b.hq := rfl
@[simp] theorem updSv_catchm (b : Block) (k : Nat) (f : SvOut → SvOut) : (b.updSv k f).catchm = b.catchm := rfl
@[simp] theorem updSv_core (b : Block) (k : Nat) (f : SvOut → SvOut) : (b.updSv k f).core = b.core := rfl
@[simp] theorem updSv_out (b : Block) (k : Nat) (f : SvOut → SvOut) : (b.updSv k f).out = b.out := rfl
@[simp] theorem updSv_free (b : Block) (k : Nat) (f : SvOut → SvOut) : (b.updSv k f).free = b.free := rfl
@[simp] theorem updSv_rd (b : Block) (k : Nat) (f : SvOut → SvOut) (r : Reg) (i : Nat) : (b.updSv k f).rd r i = b.rd r i := rfl
@[simp] theorem updSv_getF (b : Block) (k : Nat) (f : SvOut → SvOut) (g : RegField) (i : Nat) : (b.updSv k f).getF g i = b.getF g i := rfl
@[simp] theorem updSv_flag (b : Block) (k : Nat) (f : SvOut → SvOut) (g : RegField) (i : Nat) : (b.updSv k f).flag g i = b.flag g i := rfl

/-! ### setFade -/

@[simp] theorem setFade_regs (b : Block) (i : Nat) (f : Option Fade) : (b.setFade i f).regs = b.regs := rfl
@[simp] theorem setFade_mem (b : Block) (i : Nat) (f : Option Fade) : (b.setFade i f).mem = b.mem := rfl
@[simp] theorem setFade_badEcc (b : Block) (i : Nat) (f : Option Fade) : (b.setFade i f).badEcc = b.badEcc := rfl
@[simp] theorem setFade_pw (b : Block) (i : Nat) (f : Option Fade) : (b.setFade i f).pw = b.pw := rfl
@[simp] theorem setFade_chan (b : Block) (i : Nat) (f : Option Fade) : (b.setFade i f).chan = b.chan := rfl
@[simp] theorem setFade_fb (b : Block) (i : Nat) (f : Option Fade) : (b.setFade i f).fb = b.fb := rfl
@[simp] theorem setFade_dieq (b : Block) (i : Nat) (f : Option Fade) : (b.setFade i f).dieq = b.dieq := rfl
@[simp] theorem setFade_vlv (b : Block) (i : Nat) (f : Option Fade) : (b.setFade i f).vlv = b.vlv := rfl
@[simp] theorem setFade_px (b : Block) (i : Nat) (f : Option Fade) : (b.setFade i f).px = b.px := rfl
@[simp] theorem setFade_dio (b : Block) (i : Nat) (f : Option Fade) : (b.setFade i f).dio = b.dio := rfl
@[simp] theorem setFade_net (b : Block) (i : Nat) (f : Option Fade) : (b.setFade i f).net = b.net := rfl
@[simp] theorem setFade_ciph (b : Block) (i : Nat) (f : Option Fade) : (b.setFade i f).ciph = b.ciph := rfl
@[simp] theorem setFade_acs (b : Block) (i : Nat) (f : Option Fade) : (b.setFade i f).acs = b.acs := rfl
@[simp] theorem setFade_flash (b : Block) (i : Nat) (f : Option Fade) : (b.setFade i f).flash = b.flash := rfl
@[simp] theorem setFade_boot (b : Block) (i : Nat) (f : Option Fade) : (b.setFade i f).boot = b.boot := rfl
@[simp] theorem setFade_pair (b : Block) (i : Nat) (f : Option Fade) : (b.setFade i f).pair = b.pair := rfl
@[simp] theorem setFade_gauge (b : Block) (i : Nat) (f : Option Fade) : (b.setFade i f).gauge = b.gauge := rfl
@[simp] theorem setFade_chn (b : Block) (i : Nat) (f : Option Fade) : (b.setFade i f).chn = b.chn := rfl
@[simp] theorem setFade_weir (b : Block) (i : Nat) (f : Option Fade) : (b.setFade i f).weir = b.weir := rfl
@[simp] theorem setFade_hq (b : Block) (i : Nat) (f : Option Fade) : (b.setFade i f).hq = b.hq := rfl
@[simp] theorem setFade_catchm (b : Block) (i : Nat) (f : Option Fade) : (b.setFade i f).catchm = b.catchm := rfl
@[simp] theorem setFade_core (b : Block) (i : Nat) (f : Option Fade) : (b.setFade i f).core = b.core := rfl
@[simp] theorem setFade_out (b : Block) (i : Nat) (f : Option Fade) : (b.setFade i f).out = b.out := rfl
@[simp] theorem setFade_free (b : Block) (i : Nat) (f : Option Fade) : (b.setFade i f).free = b.free := rfl
@[simp] theorem setFade_rd (b : Block) (k : Nat) (f : Option Fade) (r : Reg) (i : Nat) : (b.setFade k f).rd r i = b.rd r i := rfl
@[simp] theorem setFade_getF (b : Block) (k : Nat) (f : Option Fade) (g : RegField) (i : Nat) : (b.setFade k f).getF g i = b.getF g i := rfl
@[simp] theorem setFade_flag (b : Block) (k : Nat) (f : Option Fade) (g : RegField) (i : Nat) : (b.setFade k f).flag g i = b.flag g i := rfl

/-! ### updMtx -/

@[simp] theorem updMtx_regs (b : Block) (k : Nat) (f : MtxPort → MtxPort) : (b.updMtx k f).regs = b.regs := rfl
@[simp] theorem updMtx_mem (b : Block) (k : Nat) (f : MtxPort → MtxPort) : (b.updMtx k f).mem = b.mem := rfl
@[simp] theorem updMtx_badEcc (b : Block) (k : Nat) (f : MtxPort → MtxPort) : (b.updMtx k f).badEcc = b.badEcc := rfl
@[simp] theorem updMtx_pw (b : Block) (k : Nat) (f : MtxPort → MtxPort) : (b.updMtx k f).pw = b.pw := rfl
@[simp] theorem updMtx_chan (b : Block) (k : Nat) (f : MtxPort → MtxPort) : (b.updMtx k f).chan = b.chan := rfl
@[simp] theorem updMtx_fb (b : Block) (k : Nat) (f : MtxPort → MtxPort) : (b.updMtx k f).fb = b.fb := rfl
@[simp] theorem updMtx_dieq (b : Block) (k : Nat) (f : MtxPort → MtxPort) : (b.updMtx k f).dieq = b.dieq := rfl
@[simp] theorem updMtx_vlv (b : Block) (k : Nat) (f : MtxPort → MtxPort) : (b.updMtx k f).vlv = b.vlv := rfl
@[simp] theorem updMtx_px (b : Block) (k : Nat) (f : MtxPort → MtxPort) : (b.updMtx k f).px = b.px := rfl
@[simp] theorem updMtx_dio (b : Block) (k : Nat) (f : MtxPort → MtxPort) : (b.updMtx k f).dio = b.dio := rfl
@[simp] theorem updMtx_net (b : Block) (k : Nat) (f : MtxPort → MtxPort) : (b.updMtx k f).net = b.net := rfl
@[simp] theorem updMtx_ciph (b : Block) (k : Nat) (f : MtxPort → MtxPort) : (b.updMtx k f).ciph = b.ciph := rfl
@[simp] theorem updMtx_acs (b : Block) (k : Nat) (f : MtxPort → MtxPort) : (b.updMtx k f).acs = b.acs := rfl
@[simp] theorem updMtx_flash (b : Block) (k : Nat) (f : MtxPort → MtxPort) : (b.updMtx k f).flash = b.flash := rfl
@[simp] theorem updMtx_boot (b : Block) (k : Nat) (f : MtxPort → MtxPort) : (b.updMtx k f).boot = b.boot := rfl
@[simp] theorem updMtx_pair (b : Block) (k : Nat) (f : MtxPort → MtxPort) : (b.updMtx k f).pair = b.pair := rfl
@[simp] theorem updMtx_gauge (b : Block) (k : Nat) (f : MtxPort → MtxPort) : (b.updMtx k f).gauge = b.gauge := rfl
@[simp] theorem updMtx_chn (b : Block) (k : Nat) (f : MtxPort → MtxPort) : (b.updMtx k f).chn = b.chn := rfl
@[simp] theorem updMtx_weir (b : Block) (k : Nat) (f : MtxPort → MtxPort) : (b.updMtx k f).weir = b.weir := rfl
@[simp] theorem updMtx_hq (b : Block) (k : Nat) (f : MtxPort → MtxPort) : (b.updMtx k f).hq = b.hq := rfl
@[simp] theorem updMtx_catchm (b : Block) (k : Nat) (f : MtxPort → MtxPort) : (b.updMtx k f).catchm = b.catchm := rfl
@[simp] theorem updMtx_core (b : Block) (k : Nat) (f : MtxPort → MtxPort) : (b.updMtx k f).core = b.core := rfl
@[simp] theorem updMtx_out (b : Block) (k : Nat) (f : MtxPort → MtxPort) : (b.updMtx k f).out = b.out := rfl
@[simp] theorem updMtx_free (b : Block) (k : Nat) (f : MtxPort → MtxPort) : (b.updMtx k f).free = b.free := rfl
@[simp] theorem updMtx_rd (b : Block) (k : Nat) (f : MtxPort → MtxPort) (r : Reg) (i : Nat) : (b.updMtx k f).rd r i = b.rd r i := rfl
@[simp] theorem updMtx_getF (b : Block) (k : Nat) (f : MtxPort → MtxPort) (g : RegField) (i : Nat) : (b.updMtx k f).getF g i = b.getF g i := rfl
@[simp] theorem updMtx_flag (b : Block) (k : Nat) (f : MtxPort → MtxPort) (g : RegField) (i : Nat) : (b.updMtx k f).flag g i = b.flag g i := rfl

/-! ### updPx -/

@[simp] theorem updPx_regs (b : Block) (n : Nat) (f : PxPort → PxPort) : (b.updPx n f).regs = b.regs := rfl
@[simp] theorem updPx_mem (b : Block) (n : Nat) (f : PxPort → PxPort) : (b.updPx n f).mem = b.mem := rfl
@[simp] theorem updPx_badEcc (b : Block) (n : Nat) (f : PxPort → PxPort) : (b.updPx n f).badEcc = b.badEcc := rfl
@[simp] theorem updPx_pw (b : Block) (n : Nat) (f : PxPort → PxPort) : (b.updPx n f).pw = b.pw := rfl
@[simp] theorem updPx_chan (b : Block) (n : Nat) (f : PxPort → PxPort) : (b.updPx n f).chan = b.chan := rfl
@[simp] theorem updPx_fb (b : Block) (n : Nat) (f : PxPort → PxPort) : (b.updPx n f).fb = b.fb := rfl
@[simp] theorem updPx_dieq (b : Block) (n : Nat) (f : PxPort → PxPort) : (b.updPx n f).dieq = b.dieq := rfl
@[simp] theorem updPx_vlv (b : Block) (n : Nat) (f : PxPort → PxPort) : (b.updPx n f).vlv = b.vlv := rfl
@[simp] theorem updPx_lmp (b : Block) (n : Nat) (f : PxPort → PxPort) : (b.updPx n f).lmp = b.lmp := rfl
@[simp] theorem updPx_dio (b : Block) (n : Nat) (f : PxPort → PxPort) : (b.updPx n f).dio = b.dio := rfl
@[simp] theorem updPx_net (b : Block) (n : Nat) (f : PxPort → PxPort) : (b.updPx n f).net = b.net := rfl
@[simp] theorem updPx_ciph (b : Block) (n : Nat) (f : PxPort → PxPort) : (b.updPx n f).ciph = b.ciph := rfl
@[simp] theorem updPx_acs (b : Block) (n : Nat) (f : PxPort → PxPort) : (b.updPx n f).acs = b.acs := rfl
@[simp] theorem updPx_flash (b : Block) (n : Nat) (f : PxPort → PxPort) : (b.updPx n f).flash = b.flash := rfl
@[simp] theorem updPx_boot (b : Block) (n : Nat) (f : PxPort → PxPort) : (b.updPx n f).boot = b.boot := rfl
@[simp] theorem updPx_pair (b : Block) (n : Nat) (f : PxPort → PxPort) : (b.updPx n f).pair = b.pair := rfl
@[simp] theorem updPx_gauge (b : Block) (n : Nat) (f : PxPort → PxPort) : (b.updPx n f).gauge = b.gauge := rfl
@[simp] theorem updPx_chn (b : Block) (n : Nat) (f : PxPort → PxPort) : (b.updPx n f).chn = b.chn := rfl
@[simp] theorem updPx_weir (b : Block) (n : Nat) (f : PxPort → PxPort) : (b.updPx n f).weir = b.weir := rfl
@[simp] theorem updPx_hq (b : Block) (n : Nat) (f : PxPort → PxPort) : (b.updPx n f).hq = b.hq := rfl
@[simp] theorem updPx_catchm (b : Block) (n : Nat) (f : PxPort → PxPort) : (b.updPx n f).catchm = b.catchm := rfl
@[simp] theorem updPx_core (b : Block) (n : Nat) (f : PxPort → PxPort) : (b.updPx n f).core = b.core := rfl
@[simp] theorem updPx_out (b : Block) (n : Nat) (f : PxPort → PxPort) : (b.updPx n f).out = b.out := rfl
@[simp] theorem updPx_free (b : Block) (n : Nat) (f : PxPort → PxPort) : (b.updPx n f).free = b.free := rfl
@[simp] theorem updPx_rd (b : Block) (n : Nat) (f : PxPort → PxPort) (r : Reg) (i : Nat) : (b.updPx n f).rd r i = b.rd r i := rfl
@[simp] theorem updPx_getF (b : Block) (n : Nat) (f : PxPort → PxPort) (g : RegField) (i : Nat) : (b.updPx n f).getF g i = b.getF g i := rfl
@[simp] theorem updPx_flag (b : Block) (n : Nat) (f : PxPort → PxPort) (g : RegField) (i : Nat) : (b.updPx n f).flag g i = b.flag g i := rfl

/-! ### updNet -/

@[simp] theorem updNet_regs (b : Block) (ch : Nat) (f : NetCh → NetCh) : (b.updNet ch f).regs = b.regs := rfl
@[simp] theorem updNet_mem (b : Block) (ch : Nat) (f : NetCh → NetCh) : (b.updNet ch f).mem = b.mem := rfl
@[simp] theorem updNet_badEcc (b : Block) (ch : Nat) (f : NetCh → NetCh) : (b.updNet ch f).badEcc = b.badEcc := rfl
@[simp] theorem updNet_pw (b : Block) (ch : Nat) (f : NetCh → NetCh) : (b.updNet ch f).pw = b.pw := rfl
@[simp] theorem updNet_chan (b : Block) (ch : Nat) (f : NetCh → NetCh) : (b.updNet ch f).chan = b.chan := rfl
@[simp] theorem updNet_fb (b : Block) (ch : Nat) (f : NetCh → NetCh) : (b.updNet ch f).fb = b.fb := rfl
@[simp] theorem updNet_dieq (b : Block) (ch : Nat) (f : NetCh → NetCh) : (b.updNet ch f).dieq = b.dieq := rfl
@[simp] theorem updNet_vlv (b : Block) (ch : Nat) (f : NetCh → NetCh) : (b.updNet ch f).vlv = b.vlv := rfl
@[simp] theorem updNet_lmp (b : Block) (ch : Nat) (f : NetCh → NetCh) : (b.updNet ch f).lmp = b.lmp := rfl
@[simp] theorem updNet_px (b : Block) (ch : Nat) (f : NetCh → NetCh) : (b.updNet ch f).px = b.px := rfl
@[simp] theorem updNet_dio (b : Block) (ch : Nat) (f : NetCh → NetCh) : (b.updNet ch f).dio = b.dio := rfl
@[simp] theorem updNet_ciph (b : Block) (ch : Nat) (f : NetCh → NetCh) : (b.updNet ch f).ciph = b.ciph := rfl
@[simp] theorem updNet_acs (b : Block) (ch : Nat) (f : NetCh → NetCh) : (b.updNet ch f).acs = b.acs := rfl
@[simp] theorem updNet_flash (b : Block) (ch : Nat) (f : NetCh → NetCh) : (b.updNet ch f).flash = b.flash := rfl
@[simp] theorem updNet_boot (b : Block) (ch : Nat) (f : NetCh → NetCh) : (b.updNet ch f).boot = b.boot := rfl
@[simp] theorem updNet_pair (b : Block) (ch : Nat) (f : NetCh → NetCh) : (b.updNet ch f).pair = b.pair := rfl
@[simp] theorem updNet_gauge (b : Block) (ch : Nat) (f : NetCh → NetCh) : (b.updNet ch f).gauge = b.gauge := rfl
@[simp] theorem updNet_chn (b : Block) (ch : Nat) (f : NetCh → NetCh) : (b.updNet ch f).chn = b.chn := rfl
@[simp] theorem updNet_weir (b : Block) (ch : Nat) (f : NetCh → NetCh) : (b.updNet ch f).weir = b.weir := rfl
@[simp] theorem updNet_hq (b : Block) (ch : Nat) (f : NetCh → NetCh) : (b.updNet ch f).hq = b.hq := rfl
@[simp] theorem updNet_catchm (b : Block) (ch : Nat) (f : NetCh → NetCh) : (b.updNet ch f).catchm = b.catchm := rfl
@[simp] theorem updNet_core (b : Block) (ch : Nat) (f : NetCh → NetCh) : (b.updNet ch f).core = b.core := rfl
@[simp] theorem updNet_out (b : Block) (ch : Nat) (f : NetCh → NetCh) : (b.updNet ch f).out = b.out := rfl
@[simp] theorem updNet_free (b : Block) (ch : Nat) (f : NetCh → NetCh) : (b.updNet ch f).free = b.free := rfl
@[simp] theorem updNet_rd (b : Block) (ch : Nat) (f : NetCh → NetCh) (r : Reg) (i : Nat) : (b.updNet ch f).rd r i = b.rd r i := rfl
@[simp] theorem updNet_getF (b : Block) (ch : Nat) (f : NetCh → NetCh) (g : RegField) (i : Nat) : (b.updNet ch f).getF g i = b.getF g i := rfl
@[simp] theorem updNet_flag (b : Block) (ch : Nat) (f : NetCh → NetCh) (g : RegField) (i : Nat) : (b.updNet ch f).flag g i = b.flag g i := rfl

/-! ### updVl -/

@[simp] theorem updVl_regs (b : Block) (n : Nat) (f : Valve → Valve) : (b.updVl n f).regs = b.regs := rfl
@[simp] theorem updVl_mem (b : Block) (n : Nat) (f : Valve → Valve) : (b.updVl n f).mem = b.mem := rfl
@[simp] theorem updVl_badEcc (b : Block) (n : Nat) (f : Valve → Valve) : (b.updVl n f).badEcc = b.badEcc := rfl
@[simp] theorem updVl_pw (b : Block) (n : Nat) (f : Valve → Valve) : (b.updVl n f).pw = b.pw := rfl
@[simp] theorem updVl_chan (b : Block) (n : Nat) (f : Valve → Valve) : (b.updVl n f).chan = b.chan := rfl
@[simp] theorem updVl_fb (b : Block) (n : Nat) (f : Valve → Valve) : (b.updVl n f).fb = b.fb := rfl
@[simp] theorem updVl_dieq (b : Block) (n : Nat) (f : Valve → Valve) : (b.updVl n f).dieq = b.dieq := rfl
@[simp] theorem updVl_lmp (b : Block) (n : Nat) (f : Valve → Valve) : (b.updVl n f).lmp = b.lmp := rfl
@[simp] theorem updVl_px (b : Block) (n : Nat) (f : Valve → Valve) : (b.updVl n f).px = b.px := rfl
@[simp] theorem updVl_dio (b : Block) (n : Nat) (f : Valve → Valve) : (b.updVl n f).dio = b.dio := rfl
@[simp] theorem updVl_net (b : Block) (n : Nat) (f : Valve → Valve) : (b.updVl n f).net = b.net := rfl
@[simp] theorem updVl_ciph (b : Block) (n : Nat) (f : Valve → Valve) : (b.updVl n f).ciph = b.ciph := rfl
@[simp] theorem updVl_acs (b : Block) (n : Nat) (f : Valve → Valve) : (b.updVl n f).acs = b.acs := rfl
@[simp] theorem updVl_flash (b : Block) (n : Nat) (f : Valve → Valve) : (b.updVl n f).flash = b.flash := rfl
@[simp] theorem updVl_boot (b : Block) (n : Nat) (f : Valve → Valve) : (b.updVl n f).boot = b.boot := rfl
@[simp] theorem updVl_pair (b : Block) (n : Nat) (f : Valve → Valve) : (b.updVl n f).pair = b.pair := rfl
@[simp] theorem updVl_gauge (b : Block) (n : Nat) (f : Valve → Valve) : (b.updVl n f).gauge = b.gauge := rfl
@[simp] theorem updVl_chn (b : Block) (n : Nat) (f : Valve → Valve) : (b.updVl n f).chn = b.chn := rfl
@[simp] theorem updVl_weir (b : Block) (n : Nat) (f : Valve → Valve) : (b.updVl n f).weir = b.weir := rfl
@[simp] theorem updVl_hq (b : Block) (n : Nat) (f : Valve → Valve) : (b.updVl n f).hq = b.hq := rfl
@[simp] theorem updVl_catchm (b : Block) (n : Nat) (f : Valve → Valve) : (b.updVl n f).catchm = b.catchm := rfl
@[simp] theorem updVl_core (b : Block) (n : Nat) (f : Valve → Valve) : (b.updVl n f).core = b.core := rfl
@[simp] theorem updVl_out (b : Block) (n : Nat) (f : Valve → Valve) : (b.updVl n f).out = b.out := rfl
@[simp] theorem updVl_free (b : Block) (n : Nat) (f : Valve → Valve) : (b.updVl n f).free = b.free := rfl
@[simp] theorem updVl_rd (b : Block) (n : Nat) (f : Valve → Valve) (r : Reg) (i : Nat) : (b.updVl n f).rd r i = b.rd r i := rfl
@[simp] theorem updVl_getF (b : Block) (n : Nat) (f : Valve → Valve) (g : RegField) (i : Nat) : (b.updVl n f).getF g i = b.getF g i := rfl
@[simp] theorem updVl_flag (b : Block) (n : Nat) (f : Valve → Valve) (g : RegField) (i : Nat) : (b.updVl n f).flag g i = b.flag g i := rfl

/-! ### updTbl -/

@[simp] theorem updTbl_regs (b : Block) (t : Nat) (f : ShotTable → ShotTable) : (b.updTbl t f).regs = b.regs := rfl
@[simp] theorem updTbl_mem (b : Block) (t : Nat) (f : ShotTable → ShotTable) : (b.updTbl t f).mem = b.mem := rfl
@[simp] theorem updTbl_badEcc (b : Block) (t : Nat) (f : ShotTable → ShotTable) : (b.updTbl t f).badEcc = b.badEcc := rfl
@[simp] theorem updTbl_pw (b : Block) (t : Nat) (f : ShotTable → ShotTable) : (b.updTbl t f).pw = b.pw := rfl
@[simp] theorem updTbl_chan (b : Block) (t : Nat) (f : ShotTable → ShotTable) : (b.updTbl t f).chan = b.chan := rfl
@[simp] theorem updTbl_fb (b : Block) (t : Nat) (f : ShotTable → ShotTable) : (b.updTbl t f).fb = b.fb := rfl
@[simp] theorem updTbl_dieq (b : Block) (t : Nat) (f : ShotTable → ShotTable) : (b.updTbl t f).dieq = b.dieq := rfl
@[simp] theorem updTbl_lmp (b : Block) (t : Nat) (f : ShotTable → ShotTable) : (b.updTbl t f).lmp = b.lmp := rfl
@[simp] theorem updTbl_px (b : Block) (t : Nat) (f : ShotTable → ShotTable) : (b.updTbl t f).px = b.px := rfl
@[simp] theorem updTbl_dio (b : Block) (t : Nat) (f : ShotTable → ShotTable) : (b.updTbl t f).dio = b.dio := rfl
@[simp] theorem updTbl_net (b : Block) (t : Nat) (f : ShotTable → ShotTable) : (b.updTbl t f).net = b.net := rfl
@[simp] theorem updTbl_ciph (b : Block) (t : Nat) (f : ShotTable → ShotTable) : (b.updTbl t f).ciph = b.ciph := rfl
@[simp] theorem updTbl_acs (b : Block) (t : Nat) (f : ShotTable → ShotTable) : (b.updTbl t f).acs = b.acs := rfl
@[simp] theorem updTbl_flash (b : Block) (t : Nat) (f : ShotTable → ShotTable) : (b.updTbl t f).flash = b.flash := rfl
@[simp] theorem updTbl_boot (b : Block) (t : Nat) (f : ShotTable → ShotTable) : (b.updTbl t f).boot = b.boot := rfl
@[simp] theorem updTbl_pair (b : Block) (t : Nat) (f : ShotTable → ShotTable) : (b.updTbl t f).pair = b.pair := rfl
@[simp] theorem updTbl_gauge (b : Block) (t : Nat) (f : ShotTable → ShotTable) : (b.updTbl t f).gauge = b.gauge := rfl
@[simp] theorem updTbl_chn (b : Block) (t : Nat) (f : ShotTable → ShotTable) : (b.updTbl t f).chn = b.chn := rfl
@[simp] theorem updTbl_weir (b : Block) (t : Nat) (f : ShotTable → ShotTable) : (b.updTbl t f).weir = b.weir := rfl
@[simp] theorem updTbl_hq (b : Block) (t : Nat) (f : ShotTable → ShotTable) : (b.updTbl t f).hq = b.hq := rfl
@[simp] theorem updTbl_catchm (b : Block) (t : Nat) (f : ShotTable → ShotTable) : (b.updTbl t f).catchm = b.catchm := rfl
@[simp] theorem updTbl_core (b : Block) (t : Nat) (f : ShotTable → ShotTable) : (b.updTbl t f).core = b.core := rfl
@[simp] theorem updTbl_out (b : Block) (t : Nat) (f : ShotTable → ShotTable) : (b.updTbl t f).out = b.out := rfl
@[simp] theorem updTbl_free (b : Block) (t : Nat) (f : ShotTable → ShotTable) : (b.updTbl t f).free = b.free := rfl
@[simp] theorem updTbl_rd (b : Block) (t : Nat) (f : ShotTable → ShotTable) (r : Reg) (i : Nat) : (b.updTbl t f).rd r i = b.rd r i := rfl
@[simp] theorem updTbl_getF (b : Block) (t : Nat) (f : ShotTable → ShotTable) (g : RegField) (i : Nat) : (b.updTbl t f).getF g i = b.getF g i := rfl
@[simp] theorem updTbl_flag (b : Block) (t : Nat) (f : ShotTable → ShotTable) (g : RegField) (i : Nat) : (b.updTbl t f).flag g i = b.flag g i := rfl

/-! ### send -/

@[simp] theorem send_regs (b : Block) (o : Out) : (b.send o).regs = b.regs := rfl
@[simp] theorem send_mem (b : Block) (o : Out) : (b.send o).mem = b.mem := rfl
@[simp] theorem send_badEcc (b : Block) (o : Out) : (b.send o).badEcc = b.badEcc := rfl
@[simp] theorem send_pw (b : Block) (o : Out) : (b.send o).pw = b.pw := rfl
@[simp] theorem send_chan (b : Block) (o : Out) : (b.send o).chan = b.chan := rfl
@[simp] theorem send_fb (b : Block) (o : Out) : (b.send o).fb = b.fb := rfl
@[simp] theorem send_dieq (b : Block) (o : Out) : (b.send o).dieq = b.dieq := rfl
@[simp] theorem send_vlv (b : Block) (o : Out) : (b.send o).vlv = b.vlv := rfl
@[simp] theorem send_lmp (b : Block) (o : Out) : (b.send o).lmp = b.lmp := rfl
@[simp] theorem send_px (b : Block) (o : Out) : (b.send o).px = b.px := rfl
@[simp] theorem send_dio (b : Block) (o : Out) : (b.send o).dio = b.dio := rfl
@[simp] theorem send_net (b : Block) (o : Out) : (b.send o).net = b.net := rfl
@[simp] theorem send_ciph (b : Block) (o : Out) : (b.send o).ciph = b.ciph := rfl
@[simp] theorem send_acs (b : Block) (o : Out) : (b.send o).acs = b.acs := rfl
@[simp] theorem send_flash (b : Block) (o : Out) : (b.send o).flash = b.flash := rfl
@[simp] theorem send_boot (b : Block) (o : Out) : (b.send o).boot = b.boot := rfl
@[simp] theorem send_pair (b : Block) (o : Out) : (b.send o).pair = b.pair := rfl
@[simp] theorem send_gauge (b : Block) (o : Out) : (b.send o).gauge = b.gauge := rfl
@[simp] theorem send_chn (b : Block) (o : Out) : (b.send o).chn = b.chn := rfl
@[simp] theorem send_weir (b : Block) (o : Out) : (b.send o).weir = b.weir := rfl
@[simp] theorem send_hq (b : Block) (o : Out) : (b.send o).hq = b.hq := rfl
@[simp] theorem send_catchm (b : Block) (o : Out) : (b.send o).catchm = b.catchm := rfl
@[simp] theorem send_core (b : Block) (o : Out) : (b.send o).core = b.core := rfl
@[simp] theorem send_free (b : Block) (o : Out) : (b.send o).free = b.free := rfl
@[simp] theorem send_rd (b : Block) (o : Out) (r : Reg) (i : Nat) : (b.send o).rd r i = b.rd r i := rfl
@[simp] theorem send_getF (b : Block) (o : Out) (g : RegField) (i : Nat) : (b.send o).getF g i = b.getF g i := rfl
@[simp] theorem send_flag (b : Block) (o : Out) (g : RegField) (i : Nat) : (b.send o).flag g i = b.flag g i := rfl

/-! ### An entry read back -/

@[simp] theorem updHc_same (b : Block) (c : Nat) (f : HepCore → HepCore) : (b.updHc c f).hc c = f (b.hc c) := by
  simp [updHc, hc]
theorem updHc_ne (b : Block) {c i : Nat} (f : HepCore → HepCore) (h : i ≠ c) : (b.updHc c f).hc i = b.hc i := by
  simp [updHc, hc, Tab.get_put_ne _ _ _ h]
@[simp] theorem updCh_same (b : Block) (p : Nat) (f : PowerChan → PowerChan) : (b.updCh p f).ch p = f (b.ch p) := by
  simp [updCh, ch]
theorem updCh_ne (b : Block) {p i : Nat} (f : PowerChan → PowerChan) (h : i ≠ p) : (b.updCh p f).ch i = b.ch i := by
  simp [updCh, ch, Tab.get_put_ne _ _ _ h]
@[simp] theorem updFb_same (b : Block) (k : Nat) (f : FullBridge → FullBridge) : (b.updFb k f).fbr k = f (b.fbr k) := by
  simp [updFb, fbr]
theorem updFb_ne (b : Block) {k i : Nat} (f : FullBridge → FullBridge) (h : i ≠ k) : (b.updFb k f).fbr i = b.fbr i := by
  simp [updFb, fbr, Tab.get_put_ne _ _ _ h]
@[simp] theorem updDi_same (b : Block) (n : Nat) (f : DiIn → DiIn) : (b.updDi n f).direc n = f (b.direc n) := by
  simp [updDi, direc]
theorem updDi_ne (b : Block) {n i : Nat} (f : DiIn → DiIn) (h : i ≠ n) : (b.updDi n f).direc i = b.direc i := by
  simp [updDi, direc, Tab.get_put_ne _ _ _ h]
@[simp] theorem updDo_same (b : Block) (m : Nat) (f : DoOut → DoOut) : (b.updDo m f).dorec m = f (b.dorec m) := by
  simp [updDo, dorec]
theorem updDo_ne (b : Block) {m i : Nat} (f : DoOut → DoOut) (h : i ≠ m) : (b.updDo m f).dorec i = b.dorec i := by
  simp [updDo, dorec, Tab.get_put_ne _ _ _ h]
@[simp] theorem updSv_same (b : Block) (k : Nat) (f : SvOut → SvOut) : (b.updSv k f).svrec k = f (b.svrec k) := by
  simp [updSv, svrec]
theorem updSv_ne (b : Block) {k i : Nat} (f : SvOut → SvOut) (h : i ≠ k) : (b.updSv k f).svrec i = b.svrec i := by
  simp [updSv, svrec, Tab.get_put_ne _ _ _ h]
@[simp] theorem updNet_same (b : Block) (ch : Nat) (f : NetCh → NetCh) : (b.updNet ch f).nch ch = f (b.nch ch) := by
  simp [updNet, nch]
theorem updNet_ne (b : Block) {ch i : Nat} (f : NetCh → NetCh) (h : i ≠ ch) : (b.updNet ch f).nch i = b.nch i := by
  simp [updNet, nch, Tab.get_put_ne _ _ _ h]

end Block

/-! ### Registers of a core -/
namespace HepCore

@[simp] theorem setD_a (h : HepCore) (n : Nat) (v : Word) : (h.setD n v).a = h.a := rfl
@[simp] theorem setD_psp (h : HepCore) (n : Nat) (v : Word) : (h.setD n v).psp = h.psp := rfl
@[simp] theorem setD_usp (h : HepCore) (n : Nat) (v : Word) : (h.setD n v).usp = h.usp := rfl
@[simp] theorem setD_acc (h : HepCore) (n : Nat) (v : Word) : (h.setD n v).acc = h.acc := rfl
@[simp] theorem setD_ls (h : HepCore) (n : Nat) (v : Word) : (h.setD n v).ls = h.ls := rfl
@[simp] theorem setD_le (h : HepCore) (n : Nat) (v : Word) : (h.setD n v).le = h.le := rfl
@[simp] theorem setD_lc (h : HepCore) (n : Nat) (v : Word) : (h.setD n v).lc = h.lc := rfl
@[simp] theorem setD_rep (h : HepCore) (n : Nat) (v : Word) : (h.setD n v).rep = h.rep := rfl
@[simp] theorem setD_sr (h : HepCore) (n : Nat) (v : Word) : (h.setD n v).sr = h.sr := rfl
@[simp] theorem setD_vbar (h : HepCore) (n : Nat) (v : Word) : (h.setD n v).vbar = h.vbar := rfl
@[simp] theorem setD_cause (h : HepCore) (n : Nat) (v : Word) : (h.setD n v).cause = h.cause := rfl
@[simp] theorem setD_far (h : HepCore) (n : Nat) (v : Word) : (h.setD n v).far = h.far := rfl
@[simp] theorem setD_ien (h : HepCore) (n : Nat) (v : Word) : (h.setD n v).ien = h.ien := rfl
@[simp] theorem setD_csigin (h : HepCore) (n : Nat) (v : Word) : (h.setD n v).csigin = h.csigin := rfl
@[simp] theorem setD_divcfg (h : HepCore) (n : Nat) (v : Word) : (h.setD n v).divcfg = h.divcfg := rfl
@[simp] theorem setD_timeh (h : HepCore) (n : Nat) (v : Word) : (h.setD n v).timeh = h.timeh := rfl
@[simp] theorem setD_tcmpl (h : HepCore) (n : Nat) (v : Word) : (h.setD n v).tcmpl = h.tcmpl := rfl
@[simp] theorem setD_tcmph (h : HepCore) (n : Nat) (v : Word) : (h.setD n v).tcmph = h.tcmph := rfl
@[simp] theorem setD_mpuctl (h : HepCore) (n : Nat) (v : Word) : (h.setD n v).mpuctl = h.mpuctl := rfl
@[simp] theorem setD_mpubase (h : HepCore) (n : Nat) (v : Word) : (h.setD n v).mpubase = h.mpubase := rfl
@[simp] theorem setD_mpulim (h : HepCore) (n : Nat) (v : Word) : (h.setD n v).mpulim = h.mpulim := rfl
@[simp] theorem setD_ucaddr (h : HepCore) (n : Nat) (v : Word) : (h.setD n v).ucaddr = h.ucaddr := rfl
@[simp] theorem setD_ucdl (h : HepCore) (n : Nat) (v : Word) : (h.setD n v).ucdl = h.ucdl := rfl
@[simp] theorem setD_ucdh (h : HepCore) (n : Nat) (v : Word) : (h.setD n v).ucdh = h.ucdh := rfl
@[simp] theorem setD_cxlock (h : HepCore) (n : Nat) (v : Word) : (h.setD n v).cxlock = h.cxlock := rfl
@[simp] theorem setD_cxdef (h : HepCore) (n : Nat) (v : Word) : (h.setD n v).cxdef = h.cxdef := rfl
@[simp] theorem setD_ustore (h : HepCore) (n : Nat) (v : Word) : (h.setD n v).ustore = h.ustore := rfl
@[simp] theorem setD_pc (h : HepCore) (n : Nat) (v : Word) : (h.setD n v).pc = h.pc := rfl
@[simp] theorem setD_irq (h : HepCore) (n : Nat) (v : Word) : (h.setD n v).irq = h.irq := rfl
@[simp] theorem setD_young (h : HepCore) (n : Nat) (v : Word) : (h.setD n v).young = h.young := rfl
@[simp] theorem setD_mbx (h : HepCore) (n : Nat) (v : Word) : (h.setD n v).mbx = h.mbx := rfl
@[simp] theorem setAcc_d (h : HepCore) (n : Nat) (v : BitVec 72) : (h.setAcc n v).d = h.d := rfl
@[simp] theorem setAcc_a (h : HepCore) (n : Nat) (v : BitVec 72) : (h.setAcc n v).a = h.a := rfl
@[simp] theorem setAcc_psp (h : HepCore) (n : Nat) (v : BitVec 72) : (h.setAcc n v).psp = h.psp := rfl
@[simp] theorem setAcc_usp (h : HepCore) (n : Nat) (v : BitVec 72) : (h.setAcc n v).usp = h.usp := rfl
@[simp] theorem setAcc_ls (h : HepCore) (n : Nat) (v : BitVec 72) : (h.setAcc n v).ls = h.ls := rfl
@[simp] theorem setAcc_le (h : HepCore) (n : Nat) (v : BitVec 72) : (h.setAcc n v).le = h.le := rfl
@[simp] theorem setAcc_lc (h : HepCore) (n : Nat) (v : BitVec 72) : (h.setAcc n v).lc = h.lc := rfl
@[simp] theorem setAcc_rep (h : HepCore) (n : Nat) (v : BitVec 72) : (h.setAcc n v).rep = h.rep := rfl
@[simp] theorem setAcc_sr (h : HepCore) (n : Nat) (v : BitVec 72) : (h.setAcc n v).sr = h.sr := rfl
@[simp] theorem setAcc_vbar (h : HepCore) (n : Nat) (v : BitVec 72) : (h.setAcc n v).vbar = h.vbar := rfl
@[simp] theorem setAcc_cause (h : HepCore) (n : Nat) (v : BitVec 72) : (h.setAcc n v).cause = h.cause := rfl
@[simp] theorem setAcc_far (h : HepCore) (n : Nat) (v : BitVec 72) : (h.setAcc n v).far = h.far := rfl
@[simp] theorem setAcc_ien (h : HepCore) (n : Nat) (v : BitVec 72) : (h.setAcc n v).ien = h.ien := rfl
@[simp] theorem setAcc_csigin (h : HepCore) (n : Nat) (v : BitVec 72) : (h.setAcc n v).csigin = h.csigin := rfl
@[simp] theorem setAcc_divcfg (h : HepCore) (n : Nat) (v : BitVec 72) : (h.setAcc n v).divcfg = h.divcfg := rfl
@[simp] theorem setAcc_timeh (h : HepCore) (n : Nat) (v : BitVec 72) : (h.setAcc n v).timeh = h.timeh := rfl
@[simp] theorem setAcc_tcmpl (h : HepCore) (n : Nat) (v : BitVec 72) : (h.setAcc n v).tcmpl = h.tcmpl := rfl
@[simp] theorem setAcc_tcmph (h : HepCore) (n : Nat) (v : BitVec 72) : (h.setAcc n v).tcmph = h.tcmph := rfl
@[simp] theorem setAcc_mpuctl (h : HepCore) (n : Nat) (v : BitVec 72) : (h.setAcc n v).mpuctl = h.mpuctl := rfl
@[simp] theorem setAcc_mpubase (h : HepCore) (n : Nat) (v : BitVec 72) : (h.setAcc n v).mpubase = h.mpubase := rfl
@[simp] theorem setAcc_mpulim (h : HepCore) (n : Nat) (v : BitVec 72) : (h.setAcc n v).mpulim = h.mpulim := rfl
@[simp] theorem setAcc_ucaddr (h : HepCore) (n : Nat) (v : BitVec 72) : (h.setAcc n v).ucaddr = h.ucaddr := rfl
@[simp] theorem setAcc_ucdl (h : HepCore) (n : Nat) (v : BitVec 72) : (h.setAcc n v).ucdl = h.ucdl := rfl
@[simp] theorem setAcc_ucdh (h : HepCore) (n : Nat) (v : BitVec 72) : (h.setAcc n v).ucdh = h.ucdh := rfl
@[simp] theorem setAcc_cxlock (h : HepCore) (n : Nat) (v : BitVec 72) : (h.setAcc n v).cxlock = h.cxlock := rfl
@[simp] theorem setAcc_cxdef (h : HepCore) (n : Nat) (v : BitVec 72) : (h.setAcc n v).cxdef = h.cxdef := rfl
@[simp] theorem setAcc_ustore (h : HepCore) (n : Nat) (v : BitVec 72) : (h.setAcc n v).ustore = h.ustore := rfl
@[simp] theorem setAcc_pc (h : HepCore) (n : Nat) (v : BitVec 72) : (h.setAcc n v).pc = h.pc := rfl
@[simp] theorem setAcc_irq (h : HepCore) (n : Nat) (v : BitVec 72) : (h.setAcc n v).irq = h.irq := rfl
@[simp] theorem setAcc_young (h : HepCore) (n : Nat) (v : BitVec 72) : (h.setAcc n v).young = h.young := rfl
@[simp] theorem setAcc_mbx (h : HepCore) (n : Nat) (v : BitVec 72) : (h.setAcc n v).mbx = h.mbx := rfl
@[simp] theorem setA_d (h : HepCore) (n : Nat) (v : Word) : (h.setA n v).d = h.d := by
  unfold setA; split <;> (try split) <;> rfl
@[simp] theorem setA_acc (h : HepCore) (n : Nat) (v : Word) : (h.setA n v).acc = h.acc := by
  unfold setA; split <;> (try split) <;> rfl
@[simp] theorem setA_ls (h : HepCore) (n : Nat) (v : Word) : (h.setA n v).ls = h.ls := by
  unfold setA; split <;> (try split) <;> rfl
@[simp] theorem setA_le (h : HepCore) (n : Nat) (v : Word) : (h.setA n v).le = h.le := by
  unfold setA; split <;> (try split) <;> rfl
@[simp] theorem setA_lc (h : HepCore) (n : Nat) (v : Word) : (h.setA n v).lc = h.lc := by
  unfold setA; split <;> (try split) <;> rfl
@[simp] theorem setA_rep (h : HepCore) (n : Nat) (v : Word) : (h.setA n v).rep = h.rep := by
  unfold setA; split <;> (try split) <;> rfl
@[simp] theorem setA_sr (h : HepCore) (n : Nat) (v : Word) : (h.setA n v).sr = h.sr := by
  unfold setA; split <;> (try split) <;> rfl
@[simp] theorem setA_vbar (h : HepCore) (n : Nat) (v : Word) : (h.setA n v).vbar = h.vbar := by
  unfold setA; split <;> (try split) <;> rfl
@[simp] theorem setA_cause (h : HepCore) (n : Nat) (v : Word) : (h.setA n v).cause = h.cause := by
  unfold setA; split <;> (try split) <;> rfl
@[simp] theorem setA_far (h : HepCore) (n : Nat) (v : Word) : (h.setA n v).far = h.far := by
  unfold setA; split <;> (try split) <;> rfl
@[simp] theorem setA_ien (h : HepCore) (n : Nat) (v : Word) : (h.setA n v).ien = h.ien := by
  unfold setA; split <;> (try split) <;> rfl
@[simp] theorem setA_csigin (h : HepCore) (n : Nat) (v : Word) : (h.setA n v).csigin = h.csigin := by
  unfold setA; split <;> (try split) <;> rfl
@[simp] theorem setA_divcfg (h : HepCore) (n : Nat) (v : Word) : (h.setA n v).divcfg = h.divcfg := by
  unfold setA; split <;> (try split) <;> rfl
@[simp] theorem setA_timeh (h : HepCore) (n : Nat) (v : Word) : (h.setA n v).timeh = h.timeh := by
  unfold setA; split <;> (try split) <;> rfl
@[simp] theorem setA_tcmpl (h : HepCore) (n : Nat) (v : Word) : (h.setA n v).tcmpl = h.tcmpl := by
  unfold setA; split <;> (try split) <;> rfl
@[simp] theorem setA_tcmph (h : HepCore) (n : Nat) (v : Word) : (h.setA n v).tcmph = h.tcmph := by
  unfold setA; split <;> (try split) <;> rfl
@[simp] theorem setA_mpuctl (h : HepCore) (n : Nat) (v : Word) : (h.setA n v).mpuctl = h.mpuctl := by
  unfold setA; split <;> (try split) <;> rfl
@[simp] theorem setA_mpubase (h : HepCore) (n : Nat) (v : Word) : (h.setA n v).mpubase = h.mpubase := by
  unfold setA; split <;> (try split) <;> rfl
@[simp] theorem setA_mpulim (h : HepCore) (n : Nat) (v : Word) : (h.setA n v).mpulim = h.mpulim := by
  unfold setA; split <;> (try split) <;> rfl
@[simp] theorem setA_ucaddr (h : HepCore) (n : Nat) (v : Word) : (h.setA n v).ucaddr = h.ucaddr := by
  unfold setA; split <;> (try split) <;> rfl
@[simp] theorem setA_ucdl (h : HepCore) (n : Nat) (v : Word) : (h.setA n v).ucdl = h.ucdl := by
  unfold setA; split <;> (try split) <;> rfl
@[simp] theorem setA_ucdh (h : HepCore) (n : Nat) (v : Word) : (h.setA n v).ucdh = h.ucdh := by
  unfold setA; split <;> (try split) <;> rfl
@[simp] theorem setA_cxlock (h : HepCore) (n : Nat) (v : Word) : (h.setA n v).cxlock = h.cxlock := by
  unfold setA; split <;> (try split) <;> rfl
@[simp] theorem setA_cxdef (h : HepCore) (n : Nat) (v : Word) : (h.setA n v).cxdef = h.cxdef := by
  unfold setA; split <;> (try split) <;> rfl
@[simp] theorem setA_ustore (h : HepCore) (n : Nat) (v : Word) : (h.setA n v).ustore = h.ustore := by
  unfold setA; split <;> (try split) <;> rfl
@[simp] theorem setA_pc (h : HepCore) (n : Nat) (v : Word) : (h.setA n v).pc = h.pc := by
  unfold setA; split <;> (try split) <;> rfl
@[simp] theorem setA_irq (h : HepCore) (n : Nat) (v : Word) : (h.setA n v).irq = h.irq := by
  unfold setA; split <;> (try split) <;> rfl
@[simp] theorem setA_young (h : HepCore) (n : Nat) (v : Word) : (h.setA n v).young = h.young := by
  unfold setA; split <;> (try split) <;> rfl
@[simp] theorem setA_mbx (h : HepCore) (n : Nat) (v : Word) : (h.setA n v).mbx = h.mbx := by
  unfold setA; split <;> (try split) <;> rfl
@[simp] theorem getD_setD (h : HepCore) (n : Nat) (v : Word) : (h.setD n v).getD n = v := by simp [getD, setD]
theorem getD_setD_ne (h : HepCore) {n m : Nat} (v : Word) (hm : m ≠ n) : (h.setD n v).getD m = h.getD m := by
  simp [getD, setD, Tab.get_put_ne _ _ _ hm]
@[simp] theorem getAcc_setAcc (h : HepCore) (n : Nat) (v : BitVec 72) : (h.setAcc n v).getAcc n = v := by simp [getAcc, setAcc]

end HepCore

/-! ### The state -/
namespace State

@[simp] theorem act_pending (f : Block → Block) (s t : State) (h : s.act f = .next t) : t.pending = s.pending := by
  cases h; rfl
@[simp] theorem act_blk (f : Block → Block) (s t : State) (h : s.act f = .next t) : t.blk = (f s.blk).endCommand := by
  cases h; rfl
@[simp] theorem reset_pending : State.reset.pending = [] := rfl
@[simp] theorem reset_regs : State.reset.blk.regs = [] := rfl
@[simp] theorem reset_mem : State.reset.blk.mem = [] := rfl
@[simp] theorem withFetchWord_blk (s : State) (nbits w : Nat) : (s.withFetchWord nbits w).blk = s.blk := by
  unfold withFetchWord; split <;> rfl
theorem withFetchWord_pending (s : State) (nbits w : Nat) (c : Instr) (h : decodeTableWord nbits w = some c) :
    (s.withFetchWord nbits w).pending = c :: s.pending := by
  unfold withFetchWord; rw [h]

end State

end Sys2Proof.Machine
end

