-- ==== Sys2Proof/Laws/Frames.lean ====
section
/-! SUPPORT. Laws of frames: `Beside` is kept along a chain of updates, and what single updates and recorded occurrences change. -/
namespace Sys2Proof.Machine

namespace Part

theorem Same.refl (b : Block) (p : Part) : p.Same b b := by cases p <;> simp [Part.Same]

theorem Same.trans {a b c : Block} {p : Part} (h : p.Same a b) (k : p.Same b c) : p.Same a c := by
  cases p with
  | core n =>
    simp only [Part.Same] at h k ⊢
    rw [k, h]
  | lampLimits | lsBy | vlvFault | hot => exact ⟨k.1.trans h.1, k.2.trans h.2⟩
  | net | queues => simp_all [Part.Same]
  | chn =>
    simp only [Part.Same] at h k ⊢
    rw [← h, ← k]
  | _ => exact Eq.trans k h

/-- Blocks that agree in everything but registers, the catchment, what is sent and the free counter have the same parts. -/
theorem same_of_eq {a b : Block} (h : b = { a with regs := b.regs, catchm := b.catchm, out := b.out, free := b.free }) (p : Part) :
    p.Same a b := by
  rw [h]; cases p <;> simp [Part.Same]

end Part

/-- A recorded occurrence changes no part. -/
theorem Recorded.part {a b : Block} (h : Recorded a b) (p : Part) : p.Same a b := by
  have hr := h.rest
  have hq := h.queue
  have hc := h.chain
  cases p with
  | core c => exact h.cores c
  | chn => simp only [Part.Same]; rw [hc]
  | queues => simp only [Part.Same]; rw [hq]; simp
  | flights => exact h.list
  | mail => simp only [Part.Same]; rw [hq]
  | _ => rw [hr]; simp [Part.Same]

namespace Block

theorem Beside.refl (l : List Nat) (ps : List Part) (b : Block) : b.Beside l ps b :=
  ⟨fun _ _ _ _ => rfl, fun p _ => Part.Same.refl b p⟩

theorem Beside.trans {l : List Nat} {ps : List Part} {a b c : Block} (h : a.Beside l ps b) (k : b.Beside l ps c) : a.Beside l ps c :=
  ⟨fun d off hl hr => (k.1 d off hl hr).trans (h.1 d off hl hr), fun p hp => (h.2 p hp).trans (k.2 p hp)⟩

theorem Beside.mono {l m : List Nat} {ps qs : List Part} {a b : Block} (h : a.Beside l ps b) (hl : ∀ x ∈ l, x ∈ m)
    (hp : ∀ p ∈ ps, p ∈ qs) : a.Beside m qs b :=
  ⟨fun d off hm hr => h.1 d off (fun hx => hm (hl off hx)) hr, fun p hq => h.2 p fun hx => hq (hp p hx)⟩

/-- A register write. -/
theorem beside_wr (b : Block) (r : Reg) (n w : Nat) (ps : List Part) {l : List Nat} (h : r.at n ∈ l) : b.Beside l ps (b.wr r n w) :=
  ⟨fun d off hl _ => by
    have : off ≠ r.at n := fun e => hl (e ▸ h)
    simp [Block.wr, Tab.get_put_ne _ _ _ this], fun p _ => Part.same_of_eq rfl p⟩

theorem beside_setF (b : Block) (f : RegField) (n v : Nat) (ps : List Part) {l : List Nat} (h : f.reg.at n ∈ l) :
    b.Beside l ps (b.setF f n v) := beside_wr b f.reg n _ ps h

/-- What is sent out is in no frame. -/
theorem beside_send (b : Block) (o : Out) (l : List Nat) (ps : List Part) : b.Beside l ps (b.send o) :=
  ⟨fun _ _ _ _ => rfl, fun p _ => Part.same_of_eq rfl p⟩

/-- Taking an open value is in no frame. -/
theorem beside_fresh (b : Block) (l : List Nat) (ps : List Part) : b.Beside l ps b.fresh.2 :=
  ⟨fun _ _ _ _ => rfl, fun p _ => Part.same_of_eq rfl p⟩

/-- Where the catchment only records, raising is in no frame. -/
theorem beside_raise (b : Block) (e detail : Nat) (l : List Nat) (ps : List Part) (ht : b.Tame) (he : e < 256) :
    b.Beside l ps (b.raise e detail) :=
  ⟨fun d off _ hr => (raise_recorded e detail b ht he).regs d off hr, fun p _ => (raise_recorded e detail b ht he).part p⟩

/-! ### Updates of one entry of a unit -/

theorem beside_updCh (b : Block) (p : Nat) (f : PowerChan → PowerChan) (l : List Nat) {ps : List Part} (h : .chan p ∈ ps) : b.Beside l ps (b.updCh p f) :=
  ⟨fun _ _ _ _ => rfl, fun q hq => by
    cases q with
    | chan x =>
      have hx : x ≠ p := fun e => hq (e ▸ h)
      simp [Part.Same, updCh, Tab.get_put_ne _ _ _ hx]
    | _ => simp [Part.Same, updCh]⟩

theorem beside_updFb (b : Block) (k : Nat) (f : FullBridge → FullBridge) (l : List Nat) {ps : List Part} (h : .fb k ∈ ps) : b.Beside l ps (b.updFb k f) :=
  ⟨fun _ _ _ _ => rfl, fun q hq => by
    cases q with
    | fb x =>
      have hx : x ≠ k := fun e => hq (e ▸ h)
      simp [Part.Same, updFb, Tab.get_put_ne _ _ _ hx]
    | _ => simp [Part.Same, updFb]⟩

theorem beside_updDi (b : Block) (n : Nat) (f : DiIn → DiIn) (l : List Nat) {ps : List Part} (h : .di n ∈ ps) : b.Beside l ps (b.updDi n f) :=
  ⟨fun _ _ _ _ => rfl, fun q hq => by
    cases q with
    | di x =>
      have hx : x ≠ n := fun e => hq (e ▸ h)
      simp [Part.Same, updDi, Tab.get_put_ne _ _ _ hx]
    | _ => simp [Part.Same, updDi]⟩

theorem beside_updDo (b : Block) (m : Nat) (f : DoOut → DoOut) (l : List Nat) {ps : List Part} (h : .dOut m ∈ ps) : b.Beside l ps (b.updDo m f) :=
  ⟨fun _ _ _ _ => rfl, fun q hq => by
    cases q with
    | dOut x =>
      have hx : x ≠ m := fun e => hq (e ▸ h)
      simp [Part.Same, updDo, Tab.get_put_ne _ _ _ hx]
    | _ => simp [Part.Same, updDo]⟩

theorem beside_updSv (b : Block) (k : Nat) (f : SvOut → SvOut) (l : List Nat) {ps : List Part} (h : .sv k ∈ ps) : b.Beside l ps (b.updSv k f) :=
  ⟨fun _ _ _ _ => rfl, fun q hq => by
    cases q with
    | sv x =>
      have hx : x ≠ k := fun e => hq (e ▸ h)
      simp [Part.Same, updSv, Tab.get_put_ne _ _ _ hx]
    | _ => simp [Part.Same, updSv]⟩

theorem beside_setFade (b : Block) (i : Nat) (f : Option Fade) (l : List Nat) {ps : List Part} (h : .fade i ∈ ps) : b.Beside l ps (b.setFade i f) :=
  ⟨fun _ _ _ _ => rfl, fun q hq => by
    cases q with
    | fade x =>
      have hx : x ≠ i := fun e => hq (e ▸ h)
      simp [Part.Same, setFade, Tab.get_put_ne _ _ _ hx]
    | _ => simp [Part.Same, setFade]⟩

theorem beside_updMtx (b : Block) (k : Nat) (f : MtxPort → MtxPort) (l : List Nat) {ps : List Part} (h : .mtx k ∈ ps) : b.Beside l ps (b.updMtx k f) :=
  ⟨fun _ _ _ _ => rfl, fun q hq => by
    cases q with
    | mtx x =>
      have hx : x ≠ k := fun e => hq (e ▸ h)
      simp [Part.Same, updMtx, Tab.get_put_ne _ _ _ hx]
    | _ => simp [Part.Same, updMtx]⟩

theorem beside_updPx (b : Block) (n : Nat) (f : PxPort → PxPort) (l : List Nat) {ps : List Part} (h : .px n ∈ ps) : b.Beside l ps (b.updPx n f) :=
  ⟨fun _ _ _ _ => rfl, fun q hq => by
    cases q with
    | px x =>
      have hx : x ≠ n := fun e => hq (e ▸ h)
      simp [Part.Same, updPx, Tab.get_put_ne _ _ _ hx]
    | _ => simp [Part.Same, updPx]⟩

theorem beside_updNet (b : Block) (c : Nat) (f : NetCh → NetCh) (l : List Nat) {ps : List Part} (h : .bus c ∈ ps) : b.Beside l ps (b.updNet c f) :=
  ⟨fun _ _ _ _ => rfl, fun q hq => by
    cases q with
    | bus x =>
      have hx : x ≠ c := fun e => hq (e ▸ h)
      simp [Part.Same, updNet, Tab.get_put_ne _ _ _ hx]
    | _ => simp [Part.Same, updNet]⟩

theorem beside_updVl (b : Block) (n : Nat) (f : Valve → Valve) (l : List Nat) {ps : List Part} (h : .valve n ∈ ps) : b.Beside l ps (b.updVl n f) :=
  ⟨fun _ _ _ _ => rfl, fun q hq => by
    cases q with
    | valve x =>
      have hx : x ≠ n := fun e => hq (e ▸ h)
      simp [Part.Same, updVl, Tab.get_put_ne _ _ _ hx]
    | _ => simp [Part.Same, updVl]⟩

theorem beside_updTbl (b : Block) (t : Nat) (f : ShotTable → ShotTable) (l : List Nat) {ps : List Part} (h : .table t ∈ ps) : b.Beside l ps (b.updTbl t f) :=
  ⟨fun _ _ _ _ => rfl, fun q hq => by
    cases q with
    | table x =>
      have hx : x ≠ t := fun e => hq (e ▸ h)
      simp [Part.Same, updTbl, Tab.get_put_ne _ _ _ hx]
    | _ => simp [Part.Same, updTbl]⟩

theorem beside_updHc (b : Block) (c : Nat) (f : HepCore → HepCore) (l : List Nat) {ps : List Part} (h : .core c ∈ ps) : b.Beside l ps (b.updHc c f) :=
  ⟨fun _ _ _ _ => rfl, fun q hq => by
    cases q with
    | core x =>
      have hx : x ≠ c := fun e => hq (e ▸ h)
      simp [Part.Same, updHc, Tab.get_put_ne _ _ _ hx]
    | _ => simp [Part.Same, updHc]⟩

/-- A member of an array. -/
theorem mem_offs (r : Reg) (n : Nat) (h : n < r.count) : r.at n ∈ r.offs := List.mem_map.mpr ⟨n, List.mem_range.mpr h, rfl⟩

theorem mem_offsOf {l : List Reg} {r : Reg} {x : Nat} (hr : r ∈ l) (hx : x ∈ r.offs) : x ∈ offsOf l := List.mem_flatMap.mpr ⟨r, hr, hx⟩

end Block

end Sys2Proof.Machine
end

