-- ==== Sys2Proof/Laws/Ready.lean ====
section
/-! SUPPORT. Updates that leave a block ready. -/
namespace Sys2Proof.Machine

/-- Registers that `Ready` reads: CATCH_SRC, GAUGE_STAT, HEP_STAT, PWR_DOMSTAT and CDC_XSTAT. -/
def readyReg (o : Nat) : Bool :=
  decide (0x2400 ≤ o ∧ o < 0x2800) || o == 0x68004 || decide (0x40100 ≤ o ∧ o < 0x4013C) || o == 0x100C ||
  decide (0x3A100 ≤ o ∧ o < 0x3A200)

theorem readyReg_src (e : Nat) (he : e < 256) : readyReg (R.CATCH_SRC.at e) = true := by
  have : R.CATCH_SRC.at e = 0x2400 + 4 * e := by
    simp only [Reg.at, R.CATCH_SRC]
    rw [Nat.div_eq_of_lt he, Nat.mod_eq_of_lt he]; omega
  rw [this]; simp [readyReg]; omega

theorem readyReg_xstat (x : Nat) (h : x < 56) : readyReg (R.CDC_XSTAT.at x) = true := by
  rw [Block.xstat_at x (by omega)]; simp [readyReg]; omega

theorem hepStat_at (c : Nat) (hc : c < 15) : R.HEP_STAT.at c = 0x40100 + 4 * c := by
  simp only [Reg.at, R.HEP_STAT]
  rw [Nat.div_eq_of_lt hc, Nat.mod_eq_of_lt hc]; omega

theorem readyReg_stat (c : Nat) (hc : c < 15) : readyReg (R.HEP_STAT.at c) = true := by
  rw [hepStat_at c hc]; simp [readyReg]; omega

/-- What `Ready` reads is the same in both blocks. -/
theorem ready_of_same {b b' : Block} (hr : ∀ d o, readyReg o = true → Tab.get d b'.regs o = Tab.get d b.regs o)
    (hd : b'.catchm.due = b.catchm.due) (hp : b'.pw.gaugeOff = b.pw.gaugeOff) (hi : b'.pw.inReset = b.pw.inReset)
    (hs : b'.pw.still = b.pw.still) (h : b.Ready) : b'.Ready := by
  have hf : ∀ (f : RegField) n, readyReg (f.reg.at n) = true → b'.getF f n = b.getF f n := by
    intro f n h; simp [Block.getF, Block.rd, hr _ _ h]
  obtain ⟨⟨h1, h2, h3, h4⟩, ht, ⟨ha, hb⟩, hg, hx⟩ := h
  refine ⟨⟨by rw [hd, h1], by rw [hp, h2], ?_, fun c hc => ?_⟩, fun e he => ?_, ⟨by rw [hi, ha], by rw [hs, hb]⟩, ?_, fun x h56 => ?_⟩
  · rw [hf _ _ (by decide)]; exact h3
  · have := h4 c hc
    unfold Block.coreState at this ⊢
    rw [hf F.HEP_STAT_STATE c (readyReg_stat c hc)]; exact this
  · rw [hf F.CATCH_SRC_CLASS e (readyReg_src e he), hf F.CATCH_SRC_ACT e (readyReg_src e he)]; exact ht e he
  · unfold Block.pg at hg ⊢
    rw [hf F.PWR_DOMSTAT_PG 0 (by decide)]; exact hg
  · rw [hf F.CDC_XSTAT_PEND x (readyReg_xstat x h56)]; exact hx x h56

theorem ready_congr {b b' : Block} (h : b.Ready) (hr : b'.regs = b.regs) (hd : b'.catchm.due = b.catchm.due)
    (hp : (b'.pw.gaugeOff, b'.pw.inReset, b'.pw.still) = (b.pw.gaugeOff, b.pw.inReset, b.pw.still)) : b'.Ready := by
  simp only [Prod.mk.injEq] at hp
  exact ready_of_same (fun d o _ => by rw [hr]) hd hp.1 hp.2.1 hp.2.2 h

theorem ready_wr (b : Block) (r : Reg) (n w : Nat) (hr : readyReg (r.at n) = false) (h : b.Ready) : (b.wr r n w).Ready :=
  ready_of_same (b := b) (b' := b.wr r n w) (fun d o ho => by
    have hne : o ≠ r.at n := fun e => by rw [e, hr] at ho; cases ho
    simp [Block.wr, Tab.get_put_ne _ _ _ hne]) rfl rfl rfl rfl h

theorem ready_setF (b : Block) (f : RegField) (n v : Nat) (hr : readyReg (f.reg.at n) = false) (h : b.Ready) :
    (b.setF f n v).Ready := ready_wr b f.reg n _ hr h

/-- A core may be given any state but WAIT. -/
theorem ready_core (b : Block) (c v : Nat) (hc : c < 15) (hv : v % 8 ≠ 3) (h : b.Ready) : (b.setF F.HEP_STAT_STATE c v).Ready := by
  obtain ⟨⟨h1, h2, h3, h4⟩, ht, ha, hg, hx⟩ := h
  have hat := hepStat_at c hc
  have hne : ∀ (f : RegField) n, f.reg.at n ≠ R.HEP_STAT.at c → (b.setF F.HEP_STAT_STATE c v).getF f n = b.getF f n :=
    fun f n h => Block.getF_setF_other b F.HEP_STAT_STATE f c n v h
  refine ⟨⟨h1, h2, ?_, fun i hi => ?_⟩, fun e he => ?_, ha, ?_, fun x h56 => ?_⟩
  · rw [hne _ _ (by rw [hat]; show (0x68004 : Nat) ≠ _; omega)]; exact h3
  · unfold Block.coreState at h4 ⊢
    by_cases hic : i = c
    · subst hic
      rw [Block.getF_setF_same _ _ _ _ (by decide)]
      exact hv
    · rw [hne F.HEP_STAT_STATE i (by
        show R.HEP_STAT.at i ≠ _
        rw [hat, hepStat_at i hi]; omega)]
      exact h4 i hi
  · have hs : R.CATCH_SRC.at e ≠ R.HEP_STAT.at c := by
      have : R.CATCH_SRC.at e = 0x2400 + 4 * e := by
        simp only [Reg.at, R.CATCH_SRC]
        rw [Nat.div_eq_of_lt he, Nat.mod_eq_of_lt he]; omega
      rw [hat, this]; omega
    rw [hne F.CATCH_SRC_CLASS e hs, hne F.CATCH_SRC_ACT e hs]; exact ht e he
  · unfold Block.pg at hg ⊢
    rw [hne F.PWR_DOMSTAT_PG 0 (by rw [hat]; show (0x100C : Nat) ≠ _; omega)]; exact hg
  · rw [hne F.CDC_XSTAT_PEND x (by show R.CDC_XSTAT.at x ≠ _; rw [hat, Block.xstat_at x (by omega)]; omega)]; exact hx x h56

/-- Power good of the domains but PD1 may change. -/
theorem ready_pg (b : Block) (v : Nat) (hv : bit (v % 2 ^ 14) 1 = true) (h : b.Ready) : (b.setF F.PWR_DOMSTAT_PG 0 v).Ready := by
  obtain ⟨⟨h1, h2, h3, h4⟩, ht, ha, hg, hx⟩ := h
  have hne : ∀ (f : RegField) n, f.reg.at n ≠ 0x100C → (b.setF F.PWR_DOMSTAT_PG 0 v).getF f n = b.getF f n :=
    fun f n h => Block.getF_setF_other b F.PWR_DOMSTAT_PG f 0 n v h
  refine ⟨⟨h1, h2, ?_, fun i hi => ?_⟩, fun e he => ?_, ha, ?_, fun x h56 => ?_⟩
  · rw [hne _ _ (by decide)]; exact h3
  · unfold Block.coreState at h4 ⊢
    rw [hne F.HEP_STAT_STATE i (by show R.HEP_STAT.at i ≠ _; rw [hepStat_at i hi]; omega)]
    exact h4 i hi
  · have hs : R.CATCH_SRC.at e ≠ 0x100C := by
      have : R.CATCH_SRC.at e = 0x2400 + 4 * e := by
        simp only [Reg.at, R.CATCH_SRC]
        rw [Nat.div_eq_of_lt he, Nat.mod_eq_of_lt he]; omega
      rw [this]; omega
    rw [hne F.CATCH_SRC_CLASS e hs, hne F.CATCH_SRC_ACT e hs]; exact ht e he
  · unfold Block.pg
    rw [Block.getF_setF_same _ _ _ _ (by decide)]
    exact hv
  · rw [hne F.CDC_XSTAT_PEND x (by show R.CDC_XSTAT.at x ≠ _; rw [Block.xstat_at x (by omega)]; omega)]; exact hx x h56

end Sys2Proof.Machine
end

