-- ==== Sys2Proof/Tests/Bench.lean ====
section
/-! SUPPORT. The state that the tests start from: awake, every domain at power good, the catchment only recording. -/
namespace Sys2Proof.Machine

/-- The three event sources whose reset words have class F or actions beyond recording, at class C without actions; the
metrology link at RUN; every domain at power good; the module in state Active. -/
def bench : Block :=
  { regs := [(0x1000, 2), (0x100C, 0x3FFF), (0x27E0, 0), (0x27E4, 0), (0x27FC, 0), (0x68004, 1)],
    pw := { inReset := .none } }

theorem bench_sources : ∀ e : Fin 256, bench.getF F.CATCH_SRC_CLASS e ≤ 1 ∧ bench.getF F.CATCH_SRC_ACT e < 8 := by
  decide +kernel

theorem bench_ready : bench.Ready :=
  ⟨⟨rfl, by decide +kernel, by decide +kernel, by decide +kernel⟩, fun e he => bench_sources ⟨e, he⟩, ⟨rfl, rfl⟩,
    by decide +kernel⟩

end Sys2Proof.Machine
end

