-- ==== Sys2Proof/WellFormed.lean ====
section
/-! DEFINITION. Well-formed commands: the limits that the spec sets to what a sender can say. The meanings are total
and need none of them. -/
namespace Sys2Proof
open Sys2Proof.Machine

/-- A descriptor is 16 dwords with at most 64 KiB of payload (R394, R395). -/
def wfDescriptor (dws : List Word) (payload : List Byte) : Bool := dws.length == 16 && decide (payload.length ≤ 65536)

def Machine.Desc.wf (d : Desc) : Bool := wfDescriptor d.dws d.payload

/-- Only the supervisor pair has halves that can differ (R474). -/
def Machine.Exe.wf (x : Exe) : Bool := !x.diff || decide (x.core.val ≤ 1)

/-- A frame of the chain carries 1 to 64 dwords (R425). -/
def wfCount (n : Fin 65) : Bool := !(n.val == 0)
def wfWords (l : List Word) : Bool := decide (1 ≤ l.length ∧ l.length ≤ 64)

/-- A locked sequence has 1 to 8 operations (R440). -/
def wfOps (l : List LockOp) : Bool := decide (1 ≤ l.length ∧ l.length ≤ 8)

/-- The dwords of an access cover its bytes. -/
def wfAccess (size : Fin 129) (ws : List Word) : Bool := ws.length == (size.val + 3) / 4

/-- A hello of the pair carries five mask words (R632). -/
def Machine.Hello.wf (h : Hello) : Bool := h.masks.length == 5

/-- The operands of a command are within their limits. -/
def Instr.wf (i : Instr) : Bool :=
  match i with
  | .modulePowerOnReset => true
  | .brownOut => true
  | .brownOutEnd => true
  | .coldBoot _ _ _ => true
  | .pcieFunctionLevelReset => true
  | .linkDown => true
  | .perstNLow => true
  | .linkTrained _ _ => true
  | .d3Entry => true
  | .d3Exit _ => true
  | .registerWrite _ _ size ws => wfAccess size ws
  | .sysLockWrite _ _ => true
  | .doorbellWrite _ _ _ => true
  | .completionHeadWrite _ _ _ => true
  | .eventQueueHeadWrite _ _ _ => true
  | .descriptorFetch => true
  | .descriptorArrival _ dws payload => wfDescriptor dws payload
  | .fencedDispatch _ => true
  | .dieAcknowledge _ => true
  | .completionWrite _ _ => true
  | .msixCoalesceTimeout _ => true
  | .msixVectorUnmask _ _ _ => true
  | .hostMemoryFault _ _ _ dws => dws.length == 16
  | .queueEnable _ _ => true
  | .queueDrain _ _ => true
  | .queueDrainComplete _ => true
  | .queueIndexWrite _ _ _ => true
  | .eventQueueEnable _ _ => true
  | .eventQueueDisable _ _ => true
  | .eventQueueIndexWrite _ _ _ => true
  | .mailboxDone _ _ => true
  | .nop d => d.wf
  | .sysInfo d => d.wf
  | .timeRead d => d.wf
  | .supMsg d => d.wf
  | .eqMark d => d.wf
  | .feedOvercurrent _ _ => true
  | .aggregateOvercurrent _ => true
  | .feedMissing _ _ _ => true
  | .feedBandChange _ _ => true
  | .supplyRestart _ => true
  | .logicBandChange _ => true
  | .ignChange _ _ _ => true
  | .domainOn _ _ => true
  | .domainPowerGood _ _ => true
  | .domainPgTimeout _ => true
  | .domainOff _ _ => true
  | .stillRequest _ _ => true
  | .stillReached _ => true
  | .wakeRecognised _ _ _ _ => true
  | .retainedHashComplete _ => true
  | .rtcLowWrite _ _ => true
  | .rtcHighWrite _ _ => true
  | .rtcRead _ _ => true
  | .rtcAlarmHighWrite _ _ => true
  | .rtcAlarm _ _ _ => true
  | .referenceOscDeviation _ => true
  | .crystalStop _ => true
  | .temperatureThreshold _ _ => true
  | .tempSensorUpdate _ _ => true
  | .internalLinkFault _ => true
  | .hsSet d => d.wf
  | .hsSetlist d => d.wf
  | .hsClear d => d.wf
  | .hsRead d => d.wf
  | .hsEnable _ _ => true
  | .hsDisable _ _ => true
  | .hsLockClear _ _ => true
  | .pwmPeriodStart _ _ _ => true
  | .measUpdate _ _ _ _ => true
  | .offStateCheck _ _ _ => true
  | .shortCircuitTrip _ _ _ => true
  | .linearLimit _ _ => true
  | .linearLimitEnd _ _ => true
  | .thermalLatch _ _ => true
  | .thermalLatchClear _ _ => true
  | .backoffExpiry _ => true
  | .rearmTimeout _ => true
  | .clampEventEnd _ _ => true
  | .clampBucketBoundary _ => true
  | .reverseCurrent _ _ => true
  | .weirArm _ => true
  | .weirHeartbeat _ _ _ => true
  | .weirReclaimKey _ _ => true
  | .weirWindowExpiry => true
  | .weirReclaimExpiry => true
  | .flashPatternEdge _ _ _ => true
  | .engineReady _ => true
  | .hbSet d => d.wf
  | .fbDrive d => d.wf
  | .wipe d => d.wf
  | .winMove d => d.wf
  | .lockPulse d => d.wf
  | .hbClear d => d.wf
  | .hbRead d => d.wf
  | .hbEnable _ _ => true
  | .hbDisable _ _ => true
  | .hbLockClear _ _ => true
  | .fbBrakeEnd _ => true
  | .wiperBrakeEnd _ => true
  | .wiperParkTimeout _ => true
  | .windowRipple _ _ _ => true
  | .pinchDetected _ _ _ _ _ => true
  | .pinchBrakeEnd _ => true
  | .lockPulseEnd _ => true
  | .lockGapEnd _ => true
  | .vlvShot d => d.wf
  | .vlvTable d => d.wf
  | .vlvStart d => d.wf
  | .vlvStop d => d.wf
  | .vlvClear d => d.wf
  | .vlvRead d => d.wf
  | .bstSet d => d.wf
  | .boostEnable _ _ => true
  | .boostDisable _ _ => true
  | .boostReadyTimeout _ => true
  | .boostOvervoltage _ _ => true
  | .tablePassStart _ => true
  | .shotDue _ _ => true
  | .boostLevelReached _ => true
  | .boostTimeLimit _ _ => true
  | .peakEnd _ _ _ => true
  | .holdEnd _ _ _ _ _ => true
  | .valveClampEnd _ _ => true
  | .valveOffStateCheck _ _ _ => true
  | .lowSideTrip _ _ => true
  | .bankSwitchFault _ _ _ => true
  | .coilModelTick _ _ => true
  | .internalLinkSilence _ => true
  | .valveEnable _ _ => true
  | .valveDisable _ _ => true
  | .valveLockClear _ _ => true
  | .bankLockClear _ _ => true
  | .timebaseRead _ _ => true
  | .lmpSet d => d.wf
  | .lmpSetlist d => d.wf
  | .lmpColour d => d.wf
  | .lmpRead d => d.wf
  | .lmpClear d => d.wf
  | .fadeStep => true
  | .groupEnable _ _ _ => true
  | .mtxFrame d => d.wf
  | .mtxRead d => d.wf
  | .mtxClear d => d.wf
  | .matrixEnable _ _ => true
  | .matrixDisable _ _ => true
  | .matrixFrameStart _ _ => true
  | .matrixLineSwitch => true
  | .vmxFault _ _ => true
  | .lineShortTrip _ _ _ => true
  | .columnShortTrip _ _ _ => true
  | .matrixLineRestart _ _ _ => true
  | .matrixColumnRestart _ _ _ => true
  | .pxScene d => d.wf
  | .pxPatch d => d.wf
  | .pxLevel d => d.wf
  | .pxAsset d => d.wf
  | .pxAssetWriteDone => true
  | .pxFrame d => d.wf
  | .pxZone d => d.wf
  | .pxRead d => d.wf
  | .pxClear d => d.wf
  | .pxFsimg d => d.wf
  | .pixelPortEnable _ _ => true
  | .pixelPortDisable _ _ => true
  | .pixelFrameStart _ => true
  | .renderComplete _ _ _ => true
  | .linkCycle _ _ => true
  | .hello _ _ => true
  | .info _ bs => bs.length == 6
  | .cal _ bs => bs.length == 6
  | .flags _ _ _ => true
  | .temp _ _ _ _ => true
  | .status _ _ _ => true
  | .ack _ _ _ => true
  | .helloTimeout _ => true
  | .linkupRetry _ => true
  | .backLinkLost _ => true
  | .diRead d => d.wf
  | .doSet d => d.wf
  | .svSet d => d.wf
  | .dioClear d => d.wf
  | .doRead d => d.wf
  | .diEnable _ _ => true
  | .diDisable _ _ => true
  | .diSample _ _ => true
  | .openWireCheck _ _ => true
  | .diOverload _ _ => true
  | .diGroupOvertemp _ _ => true
  | .doEnable _ _ => true
  | .doDisable _ _ => true
  | .doTimeout _ => true
  | .doOverload _ => true
  | .doOverloadWaitEnd _ => true
  | .doThermal _ _ => true
  | .doOnstateOpen _ _ => true
  | .svEnable _ _ _ => true
  | .svOverload _ _ => true
  | .svShortToBattery _ _ => true
  | .svRetryEnd _ => true
  | .svThermal _ _ => true
  | .svUndervoltage _ _ _ => true
  | .catchOccurrence _ _ => true
  | .catchRead d => d.wf
  | .catchClear d => d.wf
  | .catchForce d => d.wf
  | .catchInject d => d.wf
  | .catchForceRegWrite _ _ _ => true
  | .catchInjWrite _ _ => true
  | .catchInjaddrWrite _ _ => true
  | .catchCountClear _ => true
  | .catchLogClear _ => true
  | .canTx d => d.wf
  | .netRxpost d => d.wf
  | .netSleep d => d.wf
  | .netWake d => d.wf
  | .linSched d => d.wf
  | .linResp d => d.wf
  | .ethTx d => d.wf
  | .netRead d => d.wf
  | .netClear d => d.wf
  | .canEnable _ _ => true
  | .canDisable _ _ => true
  | .linEnable _ _ => true
  | .linDisable _ _ => true
  | .ethPortEnable _ _ _ => true
  | .ethPortDisable _ _ => true
  | .canFrameReceived _ f => f.frame.lenOk
  | .canFrameSent _ _ => true
  | .canTxTimeout _ _ => true
  | .canBusError _ _ _ _ => true
  | .busOffRecoveryDone _ => true
  | .rxBufferTimeout _ => true
  | .busDiagMeasure _ _ => true
  | .linSlot _ => true
  | .linHeaderReceived _ _ _ => true
  | .linFrameReceived _ data _ => decide (data.data.length ≤ 8)
  | .linGotoSleep _ => true
  | .linHeaderSilence _ => true
  | .ethFrameReceived _ data => decide (data.data.length ≤ 1522)
  | .ethLinkUp _ _ => true
  | .ethLinkLoss _ _ => true
  | .plcaBeaconTimeout _ => true
  | .addressAgeOut _ => true
  | .idleTimeout _ => true
  | .sleepCommit _ => true
  | .awakemaxExpiry _ => true
  | .wakeDetection _ _ => true
  | .tc10SleepRequest _ => true
  | .tc10SleepAck _ => true
  | .tc10SleepReject _ => true
  | .gwRoute d => d.wf
  | .gwRead d => d.wf
  | .gwStats d => d.wf
  | .gwClear d => d.wf
  | .gatewayEnable _ => true
  | .gatewayDisable _ => true
  | .keyDerivationComplete => true
  | .chnRd d => d.wf
  | .chnWr d => d.wf
  | .chnLockseq d => d.wf
  | .chnTopo d => d.wf
  | .enumStart _ => true
  | .standbyClaim _ => true
  | .headPromote _ => true
  | .chainPortUp _ _ => true
  | .chainPortDown _ _ => true
  | .enumFrame _ _ _ => true
  | .joinFrame _ _ _ _ => true
  | .topoFrameSend _ _ _ => true
  | .topoFrame _ _ _ _ => true
  | .standbyTopoTimeout => true
  | .rdFrame _ _ _ count => wfCount count
  | .wrFrame _ _ _ data => wfWords data
  | .pwrFrame _ _ _ data => wfWords data
  | .descFrame _ _ dws x => dws.length == 16 && decide (x.data.length ≤ 256)
  | .lockFrame _ _ ops => wfOps ops
  | .cplFrame _ => true
  | .evtFrame _ _ _ _ _ ws => ws.length == 4
  | .dcplFrame _ _ dws data => dws.length == 16 && decide (data.length ≤ 65536)
  | .lrefFrame _ => true
  | .noteFrame _ _ _ => true
  | .w0RemoteAccess _ count data => wfCount count && (match data with | some l => l.length == count.val | none => true)
  | .remoteAccessTimeout _ => true
  | .prefetchExpiry _ => true
  | .lockRetryTimeout _ => true
  | .lockTimeout => true
  | .descriptorUnreachableTimeout _ _ => true
  | .cdcClearPeak _ => true
  | .speedMeasurement _ => true
  | .islandClockRestart _ => true
  | .islandWakeFailure _ => true
  | .mov x _ _ => x.wf
  | .add x _ _ _ => x.wf
  | .adc x _ _ _ => x.wf
  | .sub x _ _ _ => x.wf
  | .sbc x _ _ _ => x.wf
  | .adds x _ _ _ => x.wf
  | .subs x _ _ _ => x.wf
  | .neg x _ _ => x.wf
  | .negs x _ _ => x.wf
  | .abs x _ _ => x.wf
  | .cmp x _ _ => x.wf
  | .tst x _ _ => x.wf
  | .and x _ _ _ => x.wf
  | .or x _ _ _ => x.wf
  | .xor x _ _ _ => x.wf
  | .not x _ _ => x.wf
  | .lsl x _ _ _ => x.wf
  | .lsr x _ _ _ => x.wf
  | .asr x _ _ _ => x.wf
  | .ror x _ _ _ => x.wf
  | .clz x _ _ => x.wf
  | .sextb x _ _ => x.wf
  | .sexth x _ _ => x.wf
  | .mul x _ _ _ => x.wf
  | .mulhu x _ _ _ => x.wf
  | .mulhs x _ _ _ => x.wf
  | .divu x _ _ _ => x.wf
  | .divs x _ _ _ => x.wf
  | .remu x _ _ _ => x.wf
  | .rems x _ _ _ => x.wf
  | .mins x _ _ _ => x.wf
  | .maxs x _ _ _ => x.wf
  | .minu x _ _ _ => x.wf
  | .maxu x _ _ _ => x.wf
  | .movad x _ _ => x.wf
  | .movda x _ _ => x.wf
  | .movaa x _ _ => x.wf
  | .addad x _ _ _ => x.wf
  | .sel x _ _ _ _ => x.wf
  | .addi x _ _ _ => x.wf
  | .andi x _ _ _ => x.wf
  | .ori x _ _ _ => x.wf
  | .xori x _ _ _ => x.wf
  | .movi x _ _ => x.wf
  | .shi x _ _ _ _ => x.wf
  | .cmpi x _ _ => x.wf
  | .adda x _ _ _ => x.wf
  | .mfc x _ _ _ => x.wf
  | .mtc x _ _ => x.wf
  | .iclaimRead x _ => x.wf
  | .timelRead x _ _ => x.wf
  | .csigWrite x _ => x.wf
  | .timerCompareWrite x _ _ => x.wf
  | .ucdatahWrite x _ => x.wf
  | .cxdefWrite x _ _ => x.wf
  | .cxlockWrite x _ => x.wf
  | .mac x _ _ _ => x.wf
  | .macs x _ _ _ => x.wf
  | .msu x _ _ _ => x.wf
  | .msus x _ _ _ => x.wf
  | .macu x _ _ _ => x.wf
  | .mula x _ _ _ => x.wf
  | .aclr x _ => x.wf
  | .ard x _ _ _ => x.wf
  | .ards x _ _ _ => x.wf
  | .ardh x _ _ => x.wf
  | .ardg x _ _ => x.wf
  | .awr x _ _ _ _ => x.wf
  | .ld x _ _ _ _ => x.wf
  | .lds x _ _ _ _ => x.wf
  | .st x _ _ _ _ => x.wf
  | .lda x _ _ _ => x.wf
  | .sta x _ _ _ => x.wf
  | .b x _ _ => x.wf
  | .bl x _ _ => x.wf
  | .jr x _ _ => x.wf
  | .loop x _ _ => x.wf
  | .rep x _ => x.wf
  | .nopInstruction x => x.wf
  | .trap x _ => x.wf
  | .brk x => x.wf
  | .rete x => x.wf
  | .wait x => x.wf
  | .sync x => x.wf
  | .cx x _ _ _ => x.wf
  | .interruptTaken _ => true
  | .timerCompare _ => true
  | .coreRun _ _ => true
  | .watchdogEnable _ => true
  | .watchdogKick _ _ => true
  | .watchdogExpiry => true
  | .hepCrstWrite _ _ => true
  | .supervisorHashComplete _ => true
  | .aesEnc d _ => d.wf
  | .aesDec d _ => d.wf
  | .aesCmac d _ => d.wf
  | .sha d ctx _ => d.wf && decide (ctx.length ≤ 256)
  | .ecdsaSign d _ => d.wf
  | .ecdsaPub d => d.wf
  | .ecdsaVerify d => d.wf
  | .rngRead d => d.wf
  | .keyFlush d => d.wf
  | .fwRingProducerWrite _ _ => true
  | .cipherDisable _ => true
  | .selfTestComplete _ _ => true
  | .entropyTestFailure _ => true
  | .acsEnrol d => d.wf
  | .acsRevoke d => d.wf
  | .acsCode d => d.wf
  | .acsWithdraw d => d.wf
  | .acsOwnlock d => d.wf
  | .acsRead d => d.wf
  | .acsClear d => d.wf
  | .accessEnable _ => true
  | .accessCycle => true
  | .disc _ _ _ _ => true
  | .udisc _ _ _ => true
  | .resp _ _ _ _ _ _ _ _ => true
  | .uresp _ _ _ _ _ => true
  | .responseTimeout => true
  | .stillPollBurst _ => true
  | .lockoutEnd => true
  | .failureExpiry => true
  | .levelReset => true
  | .enrolTimeout => true
  | .codeGroupTimeout => true
  | .authWindowExpiry _ => true
  | .releaseMessageTick => true
  | .releaseIgnEnd => true
  | .accessRecordSave => true
  | .antennaFault _ _ => true
  | .bootMeas d => d.wf
  | .bootCert d => d.wf
  | .updBegin d _ => d.wf
  | .updWrite d _ => d.wf
  | .updFinish d => d.wf
  | .updActivate d => d.wf
  | .updCommit d => d.wf
  | .updAbort d => d.wf
  | .updStatus d => d.wf
  | .activationReset => true
  | .trialTimeout => true
  | .sessionTimeout => true
  | .guardTimer _ => true
  | .recoveryRequest _ _ => true
  | .get => true
  | .regRd _ _ count => !(count.val == 0)
  | .mladetDesc _ _ dws payload => wfDescriptor dws payload
  | .recReq _ payload => decide (payload.length ≤ 65536)
  | .debugConnect => true
  | .pairRead d => d.wf
  | .pairClear d => d.wf
  | .pairYield d => d.wf
  | .pairEnable _ => true
  | .pairDisable _ => true
  | .pairHello h => h.wf
  | .helloTimeoutPair _ => true
  | .pairSnapshotSend => true
  | .pairSnapshot _ _ => true
  | .pairHeartbeatSend => true
  | .pairHeartbeat _ _ _ _ => true
  | .heartbeatLoss _ => true
  | .bye => true
  | .gaugeRead d => d.wf
  | .gaugeLog d => d.wf
  | .snapshotSend => true
  | .snapshotArrival => true
  | .snapshotTimeout => true
  | .gsupLoss => true
  | .gsupReturn => true
  | .holdupStore => true
  | .holdupEnd => true
  | .mdPowerUp _ _ => true
  | .meterIntegrate _ _ => true
  | .conditionEvaluation _ => true
  | .ident _ => true
  | .read _ => true
  | .log _ _ _ => true
  | .param _ _ => true
  | .seal _ _ => true
  | .supplyBelowRetention => true
  | .boostReadyChange _ _ => true
  | .pairLinkUp => true
  | .pairLinkDown => true
  | .frameResend _ => true
  | .aerUncorrectableError => true
  | .linkL1Entry => true
  | .dimeasUpdate _ _ => true

end Sys2Proof
end

