-- ==== Sys2Proof/Tests/Slice0.lean ====
section
/-! SUPPORT. Tests: for every clause of a statement that has hypotheses a state and operands that meet them all; an
ill-formed term for each check of WellFormed; single commands against examples of the spec. -/
open Sys2Proof Sys2Proof.Machine

section
set_option Elab.async false
set_option maxRecDepth 20000
set_option linter.unusedVariables false

theorem wit_ChannelConfiguration_0 : ∃ (s : State) (who : Who) (n : Fin 96), s.blk.Ready ∧ s.blk.CanWrite who
    (R.HSW_CFG.at n) ∧ s.blk.isFollower n = false ∧ s.blk.chState n = Ch.disabled :=
  ⟨{ blk := bench }, (.host : Who), (5 : Fin 96), bench_ready, by decide +kernel⟩

def tb0 : Block :=
  ((bench.setF F.HSW_STAT_STATE 5 2).setF F.HSW_CFG_EN 5 1)
theorem tb0_ready : tb0.Ready :=
  (ready_setF _ F.HSW_CFG_EN 5 1 (by decide) (ready_setF _ F.HSW_STAT_STATE 5 2 (by decide) bench_ready))

theorem wit_ChannelConfiguration_1 : ∃ (s : State) (who : Who) (n : Fin 96), s.blk.Ready ∧ s.blk.CanWrite who
    (R.HSW_CFG.at n) ∧ s.blk.isFollower n = false :=
  ⟨{ blk := tb0 }, (.host : Who), (5 : Fin 96), tb0_ready, by decide +kernel⟩

def tb1 : Block :=
  (((bench.setF F.HSW_STAT_STATE 5 6).setF F.HSW_CFG_EN 5 1).setF F.HSW_STAT_LOCKED 5 1)
theorem tb1_ready : tb1.Ready :=
  (ready_setF _ F.HSW_STAT_LOCKED 5 1 (by decide) (ready_setF _ F.HSW_CFG_EN 5 1 (by decide) (ready_setF _
    F.HSW_STAT_STATE 5 6 (by decide) bench_ready)))

theorem wit_ChannelConfiguration_2 : ∃ (s : State) (who : Who) (n : Fin 96), s.blk.Ready ∧ s.blk.CanWrite who
    (R.HSW_STAT.at n) ∧ s.blk.isFollower n = false ∧ s.blk.cflag C.locked n = true ∧ s.blk.chState n = Ch.locked ∧
    s.blk.cget C.en n = 1 ∧ s.blk.underWeir = false :=
  ⟨{ blk := tb1 }, (.host : Who), (5 : Fin 96), tb1_ready, by decide +kernel⟩

theorem wit_ChannelConfiguration_3 : ∃ (s : State) (who : Who) (n : Fin 16), s.blk.Ready ∧ s.blk.CanWrite who
    (R.HB_CFG.at n) ∧ s.blk.isFollower (96 + n) = false ∧ s.blk.chState (96 + n) = Ch.disabled :=
  ⟨{ blk := bench }, (.host : Who), (4 : Fin 16), bench_ready, by decide +kernel⟩

def tb2 : Block :=
  (((bench.setF F.HB_STAT_STATE 4 2).setF F.HB_CFG_EN 4 1).setF F.HB_CFG_FB 4 1)
theorem tb2_ready : tb2.Ready :=
  (ready_setF _ F.HB_CFG_FB 4 1 (by decide) (ready_setF _ F.HB_CFG_EN 4 1 (by decide) (ready_setF _ F.HB_STAT_STATE
    4 2 (by decide) bench_ready)))

theorem wit_ChannelConfiguration_4 : ∃ (s : State) (who : Who) (n : Fin 16), s.blk.Ready ∧ s.blk.CanWrite who
    (R.HB_CFG.at n) ∧ s.blk.isFollower (96 + n) = false :=
  ⟨{ blk := tb2 }, (.host : Who), (4 : Fin 16), tb2_ready, by decide +kernel⟩

def tb3 : Block :=
  (((bench.setF F.HB_STAT_STATE 4 6).setF F.HB_CFG_EN 4 1).setF F.HB_STAT_LOCKED 4 1)
theorem tb3_ready : tb3.Ready :=
  (ready_setF _ F.HB_STAT_LOCKED 4 1 (by decide) (ready_setF _ F.HB_CFG_EN 4 1 (by decide) (ready_setF _
    F.HB_STAT_STATE 4 6 (by decide) bench_ready)))

theorem wit_ChannelConfiguration_5 : ∃ (s : State) (who : Who) (n : Fin 16), s.blk.Ready ∧ s.blk.CanWrite who
    (R.HB_STAT.at n) ∧ s.blk.isFollower (96 + n) = false ∧ s.blk.cflag C.locked (96 + n) = true ∧ s.blk.chState (96
    + n) = Ch.locked ∧ s.blk.cget C.en (96 + n) = 1 ∧ s.blk.underWeir = false :=
  ⟨{ blk := tb3 }, (.host : Who), (4 : Fin 16), tb3_ready, by decide +kernel⟩

def tb4 : Block :=
  (bench.setF F.HSW_STAT_STATE 5 1)
theorem tb4_ready : tb4.Ready :=
  (ready_setF _ F.HSW_STAT_STATE 5 1 (by decide) bench_ready)

theorem wit_SwitchDescriptors_0 : ∃ (s : State) (d : Desc), s.blk.Ready ∧ s.blk.Executes d ∧ d.ok 0x10 0 0
    [0xFFFFFFFF, 0xFFFFFFFF, 0xFFFFFFFF, 0x103, 0x1FFFF] = true ∧ bits (d.dw 8) 1 0 ≠ 3 ∧ d.dw 9 ≤ 65536 ∧ (bits
    (d.dw 8) 1 0 = 2 ∨ d.dw 9 = 0) ∧ Block.hsMask d ≠ [] ∧ (∀ a ∈ ((Block.hsMask d).map fun k => DieAct.hs k
    (Block.actDuty (bits (d.dw 8) 1 0) (d.dw 9))), s.blk.missOf a = .no) :=
  ⟨{ blk := tb4 }, (({ src := .node 1 2, dws := [0x10, 0, 0, 0, 0, 0x20, 0, 0, 1, 0], payload := [] }) : Desc),
    tb4_ready, by decide +kernel⟩

theorem wit_SwitchDescriptors_1 : ∃ (s : State) (d : Desc), s.blk.Ready ∧ s.blk.Executes d ∧ d.ok 0x11 8 768 [0, 0,
    0, 0x100] = true ∧ d.len % 8 = 0 ∧ ((Block.pieces 8 96 (d.payload.take d.len)).map Block.hsEntry).all (fun e =>
    e.2.2) = true ∧ d.payload ≠ [] ∧ (∀ a ∈ ((Block.lastOf (((Block.pieces 8 96 (d.payload.take d.len)).map
    Block.hsEntry).map fun e : Nat × Nat × Bool => (e.1, e.2.1))).map fun e : Nat × Nat => DieAct.hs e.1 e.2),
    s.blk.missOf a = .no) :=
  ⟨{ blk := tb4 }, (({ src := .node 1 2, dws := [0x11, 0, 0x100, 0, 8], payload := [5, 1, 0, 0, 0, 0, 0, 0] }) :
    Desc), tb4_ready, by decide +kernel⟩

def tb5 : Block :=
  (bench.setF F.HB_STAT_STATE 4 1)
theorem tb5_ready : tb5.Ready :=
  (ready_setF _ F.HB_STAT_STATE 4 1 (by decide) bench_ready)

theorem wit_SwitchDescriptors_2 : ∃ (s : State) (d : Desc), s.blk.Ready ∧ s.blk.Executes d ∧ d.ok 0x20 0 0 [0xFFFF,
    0, 0, 0x103, 0x1FFFF] = true ∧ bits (d.dw 8) 1 0 ≠ 3 ∧ d.dw 9 ≤ 65536 ∧ (bits (d.dw 8) 1 0 = 1 ∨ d.dw 9 = 0) ∧
    Block.hbMask d ≠ [] ∧ (∀ a ∈ ((Block.hbMask d).map fun k => DieAct.hb k (bits (d.dw 8) 1 0) (d.dw 9)),
    s.blk.missOf a = .no) :=
  ⟨{ blk := tb5 }, (({ src := .node 1 2, dws := [0x20, 0, 0, 0, 0, 0x10, 0, 0, 1, 1000], payload := [] }) : Desc),
    tb5_ready, by decide +kernel⟩

def tb6 : Block :=
  ((((bench.setF F.HB_STAT_STATE 4 1).setF F.HB_STAT_STATE 5 1).setF F.HB_CFG_FB 4 1).setF F.HB_FBCFG_FUNC 2 0)
theorem tb6_ready : tb6.Ready :=
  (ready_setF _ F.HB_FBCFG_FUNC 2 0 (by decide) (ready_setF _ F.HB_CFG_FB 4 1 (by decide) (ready_setF _
    F.HB_STAT_STATE 5 1 (by decide) (ready_setF _ F.HB_STAT_STATE 4 1 (by decide) bench_ready))))

theorem wit_SwitchDescriptors_3 : ∃ (s : State) (d : Desc), s.blk.Ready ∧ s.blk.Executes d ∧ d.ok 0x21 0 0 [0xFF, 0,
    0, 0x103, 0x1FFFF] = true ∧ d.dw 9 ≤ 65536 ∧ (bits (d.dw 8) 1 0 = 1 ∨ bits (d.dw 8) 1 0 = 2 ∨ d.dw 9 = 0) ∧
    Block.fbMask d ≠ [] ∧ (∀ a ∈ ((Block.fbMask d).map fun k => DieAct.fb k (bits (d.dw 8) 1 0) (d.dw 9)),
    s.blk.missOf a = .no) :=
  ⟨{ blk := tb6 }, (({ src := .node 1 2, dws := [0x21, 0, 0, 0, 0, 4, 0, 0, 1, 1000], payload := [] }) : Desc),
    tb6_ready, by decide +kernel⟩

def tb7 : Block :=
  ((((bench.setF F.HB_STAT_STATE 4 1).setF F.HB_STAT_STATE 5 1).setF F.HB_CFG_FB 4 1).setF F.HB_FBCFG_FUNC 2 1)
theorem tb7_ready : tb7.Ready :=
  (ready_setF _ F.HB_FBCFG_FUNC 2 1 (by decide) (ready_setF _ F.HB_CFG_FB 4 1 (by decide) (ready_setF _
    F.HB_STAT_STATE 5 1 (by decide) (ready_setF _ F.HB_STAT_STATE 4 1 (by decide) bench_ready))))

theorem wit_SwitchDescriptors_4 : ∃ (s : State) (d : Desc), s.blk.Ready ∧ s.blk.Executes d ∧ d.ok 0x22 0 0 [0xFF, 0,
    0, 3, 0x1FFFF] = true ∧ bits (d.dw 8) 1 0 ≠ 3 ∧ d.dw 9 ≤ 65536 ∧ (bits (d.dw 8) 1 0 ≠ 0 ∨ d.dw 9 = 0) ∧
    Block.fbMask d ≠ [] ∧ (∀ a ∈ ((Block.fbMask d).map fun k => DieAct.wipe k (bits (d.dw 8) 1 0) (d.dw 9)),
    s.blk.missOf a = .no) :=
  ⟨{ blk := tb7 }, (({ src := .node 1 2, dws := [0x22, 0, 0, 0, 0, 4, 0, 0, 1, 1000], payload := [] }) : Desc),
    tb7_ready, by decide +kernel⟩

def tb8 : Block :=
  ((((bench.setF F.HB_STAT_STATE 4 1).setF F.HB_STAT_STATE 5 1).setF F.HB_CFG_FB 4 1).setF F.HB_FBCFG_FUNC 2 2)
theorem tb8_ready : tb8.Ready :=
  (ready_setF _ F.HB_FBCFG_FUNC 2 2 (by decide) (ready_setF _ F.HB_CFG_FB 4 1 (by decide) (ready_setF _
    F.HB_STAT_STATE 5 1 (by decide) (ready_setF _ F.HB_STAT_STATE 4 1 (by decide) bench_ready))))

theorem wit_SwitchDescriptors_5 : ∃ (s : State) (d : Desc), s.blk.Ready ∧ s.blk.Executes d ∧ d.ok 0x23 0 0 [0xFF, 0,
    0, 0xFFFF, 0x1FFFF] = true ∧ d.dw 9 ≤ 65536 ∧ (d.dw 8 ≠ 0x8000 ∨ d.dw 9 = 0) ∧ (Block.fbMask d).length = 1 ∧ (∀
    a ∈ ((Block.fbMask d).map fun k => DieAct.win k (d.dw 8) (d.dw 9)), s.blk.missOf a = .no) :=
  ⟨{ blk := tb8 }, (({ src := .node 1 2, dws := [0x23, 0, 0, 0, 0, 4, 0, 0, 100, 1000], payload := [] }) : Desc),
    tb8_ready, by decide +kernel⟩

def tb9 : Block :=
  ((((bench.setF F.HB_STAT_STATE 4 1).setF F.HB_STAT_STATE 5 1).setF F.HB_CFG_FB 4 1).setF F.HB_FBCFG_FUNC 2 3)
theorem tb9_ready : tb9.Ready :=
  (ready_setF _ F.HB_FBCFG_FUNC 2 3 (by decide) (ready_setF _ F.HB_CFG_FB 4 1 (by decide) (ready_setF _
    F.HB_STAT_STATE 5 1 (by decide) (ready_setF _ F.HB_STAT_STATE 4 1 (by decide) bench_ready))))

theorem wit_SwitchDescriptors_6 : ∃ (s : State) (d : Desc), s.blk.Ready ∧ s.blk.Executes d ∧ d.ok 0x24 0 0 [0xFF, 0,
    0, 1] = true ∧ Block.fbMask d ≠ [] ∧ (∀ a ∈ ((Block.fbMask d).map fun k => DieAct.lock k (if bit (d.dw 8) 0 then
    2 else 1)), s.blk.missOf a = .no) :=
  ⟨{ blk := tb9 }, (({ src := .node 1 2, dws := [0x24, 0, 0, 0, 0, 4, 0, 0, 1], payload := [] }) : Desc), tb9_ready,
    by decide +kernel⟩

def tb10 : Block :=
  ({ ((bench.setF F.HSW_STAT_STATE 5 1).setF F.HSW_CFG_EN 5 1) with dieq := [{ desc := { src := .node 1 2, dws := [0x10], payload := [] }, parts := [.hs 5 65536], sync := false }] }
    : Block)
theorem tb10_ready : tb10.Ready :=
  (ready_congr (b := ((bench.setF F.HSW_STAT_STATE 5 1).setF F.HSW_CFG_EN 5 1)) (ready_setF _ F.HSW_CFG_EN 5 1 (by
    decide) (ready_setF _ F.HSW_STAT_STATE 5 1 (by decide) bench_ready)) rfl rfl rfl)

theorem wit_SwitchDescriptors_7 : ∃ (s : State) (c : DieCmd) (n : Fin 96), s.blk.Ready ∧ s.blk.dieq = [c] ∧ c.parts
    = [.hs n 65536] ∧ c.sync = false ∧ c.missed = 0 ∧ s.blk.missOf (.hs n 65536) = .no ∧ s.blk.chState n = Ch.off ∧
    s.blk.cget C.en n ≠ 0 ∧ s.blk.latched n = false ∧ (s.blk.ch n).wait = false ∧ s.blk.feedHeld n = false ∧
    (s.blk.ch n).limiting = false ∧ (s.blk.ch (s.blk.partner n)).limiting = false ∧ s.blk.Single c.desc :=
  ⟨{ blk := tb10 },
    ({ desc := { src := .node 1 2, dws := [0x10], payload := [] }, parts := [.hs 5 65536], sync := false } :
    DieCmd), (5 : Fin 96), tb10_ready, by decide +kernel⟩

def tb11 : Block :=
  ((bench.setF F.HSW_STAT_SC 5 1).setF F.HSW_STAT_LOCKED 5 1)
theorem tb11_ready : tb11.Ready :=
  (ready_setF _ F.HSW_STAT_LOCKED 5 1 (by decide) (ready_setF _ F.HSW_STAT_SC 5 1 (by decide) bench_ready))

theorem wit_SwitchDescriptors_8 : ∃ (s : State) (d : Desc), s.blk.Ready ∧ s.blk.Executes d ∧ s.blk.Single d ∧ d.ok
    0x12 0 0 [0xFFFFFFFF, 0xFFFFFFFF, 0xFFFFFFFF, 3] = true ∧ Block.hsMask d ≠ [] :=
  ⟨{ blk := tb11 }, (({ src := .node 1 2, dws := [0x12, 0, 0, 0, 0, 0x20, 0, 0, 3], payload := [] }) : Desc),
    tb11_ready, by decide +kernel⟩

theorem wit_SwitchDescriptors_9 : ∃ (s : State) (d : Desc), s.blk.Ready ∧ s.blk.Executes d ∧ s.blk.Single d ∧ d.ok
    0x13 (16 * (Block.hsMask d).length) 65536 [0xFFFFFFFF, 0xFFFFFFFF, 0xFFFFFFFF] = true ∧ Block.hsMask d ≠ [] :=
  ⟨{ blk := bench }, (({ src := .node 1 2, dws := [0x13, 0, 0x100, 0, 16, 0x20], payload := [] }) : Desc),
    bench_ready, by decide +kernel⟩

def tb12 : Block :=
  ((bench.setF F.HB_STAT_SC 4 1).setF F.HB_FBSTAT_PINCH 2 1)
theorem tb12_ready : tb12.Ready :=
  (ready_setF _ F.HB_FBSTAT_PINCH 2 1 (by decide) (ready_setF _ F.HB_STAT_SC 4 1 (by decide) bench_ready))

theorem wit_SwitchDescriptors_10 : ∃ (s : State) (d : Desc), s.blk.Ready ∧ s.blk.Executes d ∧ s.blk.Single d ∧ d.ok
    0x25 0 0 [0xFFFF, 0, 0, 3] = true ∧ Block.hbMask d ≠ [] :=
  ⟨{ blk := tb12 }, (({ src := .node 1 2, dws := [0x25, 0, 0, 0, 0, 0x10, 0, 0, 3], payload := [] }) : Desc),
    tb12_ready, by decide +kernel⟩

theorem wit_SwitchDescriptors_11 : ∃ (s : State) (d : Desc), s.blk.Ready ∧ s.blk.Executes d ∧ s.blk.Single d ∧ d.ok
    0x26 (16 * (Block.hbMask d).length) 65536 [0xFFFF] = true ∧ Block.hbMask d ≠ [] :=
  ⟨{ blk := bench }, (({ src := .node 1 2, dws := [0x26, 0, 0x100, 0, 16, 0x10], payload := [] }) : Desc),
    bench_ready, by decide +kernel⟩

def tb13 : Block :=
  (((bench.setF F.HSW_STAT_STATE 5 2).setF F.HSW_STAT_RETRYLEFT 5 3).setF F.HSW_CMD_DUTY 5 65536)
theorem tb13_ready : tb13.Ready :=
  (ready_setF _ F.HSW_CMD_DUTY 5 65536 (by decide) (ready_setF _ F.HSW_STAT_RETRYLEFT 5 3 (by decide) (ready_setF _
    F.HSW_STAT_STATE 5 2 (by decide) bench_ready)))

theorem wit_ChannelProtection_0 : ∃ (s : State) (p : Fin 112) (low : Bool) (ma : Nat), s.blk.Ready ∧ s.blk.conducts
    p = true ∧ tripMa p < ma :=
  ⟨{ blk := tb13 }, (5 : Fin 112), (false : Bool), (200000 : Nat), tb13_ready, by decide +kernel⟩

def tb14 : Block :=
  ((bench.setF F.HSW_STAT_STATE 5 2).setF F.HSW_CMD_DUTY 5 65536)
theorem tb14_ready : tb14.Ready :=
  (ready_setF _ F.HSW_CMD_DUTY 5 65536 (by decide) (ready_setF _ F.HSW_STAT_STATE 5 2 (by decide) bench_ready))

theorem wit_ChannelProtection_1 : ∃ (s : State) (p : Fin 112) (ma : Nat), s.blk.Ready ∧ s.blk.conducts p = true ∧
    s.blk.limitMa p ≤ ma :=
  ⟨{ blk := tb14 }, (5 : Fin 112), (200000 : Nat), tb14_ready, by decide +kernel⟩

def tb15 : Block :=
  (bench.setF F.HSW_STAT_STATE 5 3)
theorem tb15_ready : tb15.Ready :=
  (ready_setF _ F.HSW_STAT_STATE 5 3 (by decide) bench_ready)

theorem wit_ChannelProtection_2 : ∃ (s : State) (p : Fin 112) (ma : Nat), s.blk.Ready ∧ s.blk.chState p = Ch.limit ∧
    ma < s.blk.limitMa p ∧ (s.blk.partner p = p ∨ (s.blk.ch (s.blk.partner p)).limiting = false) :=
  ⟨{ blk := tb15 }, (5 : Fin 112), (100 : Nat), tb15_ready, by decide +kernel⟩

def tb16 : Block :=
  (bench.setF F.HSW_STAT_STATE 5 2)
theorem tb16_ready : tb16.Ready :=
  (ready_setF _ F.HSW_STAT_STATE 5 2 (by decide) bench_ready)

theorem wit_ChannelProtection_3 : ∃ (s : State) (p : Fin 112) (tj : Int), s.blk.Ready ∧ (s.blk.ch p).latch = false ∧
    175 * 16 ≤ tj :=
  ⟨{ blk := tb16 }, (5 : Fin 112), (2800 : Int), tb16_ready, by decide +kernel⟩

def tb17 : Block :=
  ({ bench with chan := [(5, { latch := true })] } : Block)
theorem tb17_ready : tb17.Ready :=
  (ready_congr (b := bench) bench_ready rfl rfl rfl)

theorem wit_ChannelProtection_4 : ∃ (s : State) (p : Fin 112) (tj : Int), s.blk.Ready ∧ (s.blk.ch p).latch = true ∧
    tj ≤ 160 * 16 :=
  ⟨{ blk := tb17 }, (5 : Fin 112), (100 : Int), tb17_ready, by decide +kernel⟩

def tb18 : Block :=
  ({ (((bench.setF F.HSW_STAT_STATE 5 5).setF F.HSW_CMD_DUTY 5 65536).setF F.HSW_STAT_RETRYLEFT 5 3) with chan := [(5, { wait := true })] }
    : Block)
theorem tb18_ready : tb18.Ready :=
  (ready_congr (b := (((bench.setF F.HSW_STAT_STATE 5 5).setF F.HSW_CMD_DUTY 5 65536).setF F.HSW_STAT_RETRYLEFT 5
    3)) (ready_setF _ F.HSW_STAT_RETRYLEFT 5 3 (by decide) (ready_setF _ F.HSW_CMD_DUTY 5 65536 (by decide)
    (ready_setF _ F.HSW_STAT_STATE 5 5 (by decide) bench_ready))) rfl rfl rfl)

theorem wit_ChannelProtection_5 : ∃ (s : State) (p : Fin 112), s.blk.Ready ∧ (s.blk.ch (s.blk.lead p)).wait = true ∧
    s.blk.chState (s.blk.lead p) = Ch.retryWait ∧ s.blk.latched (s.blk.lead p) = false ∧ s.blk.underWeir = false ∧
    s.blk.cmdOn (s.blk.lead p) = true ∧ s.blk.feedHeld (s.blk.lead p) = false ∧ (s.blk.ch (s.blk.lead p)).limiting =
    false ∧ (s.blk.ch (s.blk.partner (s.blk.lead p))).limiting = false :=
  ⟨{ blk := tb18 }, (5 : Fin 112), tb18_ready, by decide +kernel⟩

def tb19 : Block :=
  ((bench.setF F.HSW_STAT_STATE 5 2).setF F.HSW_CFG_RETRY 5 4)
theorem tb19_ready : tb19.Ready :=
  (ready_setF _ F.HSW_CFG_RETRY 5 4 (by decide) (ready_setF _ F.HSW_STAT_STATE 5 2 (by decide) bench_ready))

theorem wit_ChannelProtection_6 : ∃ (s : State) (p : Fin 112), s.blk.Ready ∧ s.blk.chState p = Ch.on :=
  ⟨{ blk := tb19 }, (5 : Fin 112), tb19_ready, by decide +kernel⟩

theorem wit_ChannelProtection_7 : ∃ (s : State) (p : Fin 112) (energy : Nat), s.blk.Ready :=
  ⟨{ blk := tb16 }, (5 : Fin 112), (200000 : Nat), tb16_ready⟩

def tb20 : Block :=
  ({ bench with chan := [(5, { bucket := [7, 8] })] } : Block)
theorem tb20_ready : tb20.Ready :=
  (ready_congr (b := bench) bench_ready rfl rfl rfl)

theorem wit_ChannelProtection_8 : ∃ (s : State) (die : Fin 6) (p : Fin 112), s.blk.Ready ∧ die.val < 4 ∧ dieOf p =
    die.val ∧ (s.blk.ch p).bucket ≠ [] :=
  ⟨{ blk := tb20 }, (2 : Fin 6), (5 : Fin 112), tb20_ready, by decide +kernel⟩

def tb21 : Block :=
  ({ bench with vlv := { bench.vlv with valve := [(17, { bucket := [7, 8] })] } } : Block)
theorem tb21_ready : tb21.Ready :=
  (ready_congr (b := bench) bench_ready rfl rfl rfl)

theorem wit_ChannelProtection_9 : ∃ (s : State) (die : Fin 6) (n : Fin 32), s.blk.Ready ∧ 4 ≤ die.val ∧ n.val / 16 =
    die.val - 4 ∧ (s.blk.vl n).bucket ≠ [] :=
  ⟨{ blk := tb21 }, (5 : Fin 6), (17 : Fin 32), tb21_ready, by decide +kernel⟩

theorem wit_ChannelProtection_10 : ∃ (s : State) (n : Fin 96) (mv : Nat), s.blk.Ready ∧ s.blk.conducts n = true ∧
    200 < mv :=
  ⟨{ blk := tb14 }, (5 : Fin 96), (300 : Nat), tb14_ready, by decide +kernel⟩

def tb22 : Block :=
  (((bench.setF F.HSW_STAT_STATE 5 2).setF F.HSW_CMD_DUTY 5 300).setF F.HSW_PWM_PERIOD 5 160000)
theorem tb22_ready : tb22.Ready :=
  (ready_setF _ F.HSW_PWM_PERIOD 5 160000 (by decide) (ready_setF _ F.HSW_CMD_DUTY 5 300 (by decide) (ready_setF _
    F.HSW_STAT_STATE 5 2 (by decide) bench_ready)))

theorem wit_ChannelProtection_11 : ∃ (s : State) (p : Fin 112) (smp : OnSample) (high : Bool), s.blk.Ready :=
  ⟨{ blk := tb22 }, (5 : Fin 112), (⟨100, 12000⟩ : OnSample), (true : Bool), tb22_ready⟩

theorem wit_ChannelProtection_12 : ∃ (s : State) (p : Fin 132) (cur : Nat) (vout : Nat) (tj : Nat), s.blk.Ready ∧
    p.val < 112 :=
  ⟨{ blk := tb16 }, (5 : Fin 132), (100 : Nat), (200 : Nat), (300 : Nat), tb16_ready, by decide +kernel⟩

def tb23 : Block :=
  (((bench.setF F.HSW_STAT_STATE 5 1).setF F.HSW_CFG_OLEN 5 1).setF F.HSW_CFG_PUEN 5 1)
theorem tb23_ready : tb23.Ready :=
  (ready_setF _ F.HSW_CFG_PUEN 5 1 (by decide) (ready_setF _ F.HSW_CFG_OLEN 5 1 (by decide) (ready_setF _
    F.HSW_STAT_STATE 5 1 (by decide) bench_ready)))

theorem wit_ChannelProtection_13 : ∃ (s : State) (p : Fin 128) (v2 : Bool), s.blk.Ready ∧ p.val < 112 ∧
    s.blk.conducts p = false ∧ s.blk.chState p ≠ Ch.disabled ∧ s.blk.cget C.olen p = 1 ∧ s.blk.cget C.puen p = 1 :=
  ⟨{ blk := tb23 }, (5 : Fin 128), (true : Bool), tb23_ready, by decide +kernel⟩

theorem wit_WeirStates_0 : ∃ (s : State) (who : Who), s.blk.Ready ∧ s.blk.CanWrite who (R.WEIR_CFG.at 0) ∧
    s.blk.isLocked = false ∧ s.blk.flag F.WEIR_CFG_ARM 0 = false :=
  ⟨{ blk := bench }, (.host : Who), bench_ready, by decide +kernel⟩

def tb24 : Block :=
  (bench.setF F.WEIR_CFG_ARM 0 1)
theorem tb24_ready : tb24.Ready :=
  (ready_setF _ F.WEIR_CFG_ARM 0 1 (by decide) bench_ready)

theorem wit_WeirStates_1 : ∃ (s : State) (c : Fin 2) (seq : Fin 65536) (crc : Fin 256), s.blk.Ready ∧ s.blk.CanWrite
    (.core (Fin.ofNat 15 c)) (R.WEIR_HB.at 0) ∧ s.blk.getF F.WEIR_CFG_ARM 0 = 1 ∧ crc.val = Block.hbCrc seq ∧
    s.blk.weirState < 2 ∧ (s.blk.weir.anySeq = true ∨ seq.val = (s.blk.getF F.WEIR_STAT_LASTSEQ 0 + 1) % 65536) :=
  ⟨{ blk := tb24 }, (0 : Fin 2), (1 : Fin 65536), ((Fin.ofNat 256 (Block.hbCrc 1)) : Fin 256), tb24_ready, by
    decide +kernel⟩

def tb25 : Block :=
  (bench.setF F.WEIR_STAT_STATE 0 2)
theorem tb25_ready : tb25.Ready :=
  (ready_setF _ F.WEIR_STAT_STATE 0 2 (by decide) bench_ready)

theorem wit_WeirStates_2 : ∃ (s : State) (c : Fin 2), s.blk.Ready ∧ s.blk.CanWrite (.core (Fin.ofNat 15 c))
    (R.WEIR_RECLAIM.at 0) ∧ 2 ≤ s.blk.weirState :=
  ⟨{ blk := tb25 }, (0 : Fin 2), tb25_ready, by decide +kernel⟩

def tb26 : Block :=
  (bench.setF F.WEIR_STAT_STATE 0 1)
theorem tb26_ready : tb26.Ready :=
  (ready_setF _ F.WEIR_STAT_STATE 0 1 (by decide) bench_ready)

theorem wit_WeirStates_3 : ∃ (s : State), s.blk.Ready ∧ s.blk.weirState = 1 :=
  ⟨{ blk := tb26 }, tb26_ready, by decide +kernel⟩

theorem wit_WeirStates_4 : ∃ (s : State), s.blk.Ready ∧ s.blk.weirState = 2 :=
  ⟨{ blk := tb25 }, tb25_ready, by decide +kernel⟩

def tb27 : Block :=
  ({ ({ bench with chan := [(5, { flash := some 1 })] } : Block) with weir := { bench.weir with flash := [(1, (100, 50))] } }
    : Block)
theorem tb27_ready : tb27.Ready :=
  (ready_congr (b := ({ bench with chan := [(5, { flash := some 1 })] } : Block)) (ready_congr (b := bench)
    bench_ready rfl rfl rfl) rfl rfl rfl)

theorem wit_WeirStates_5 : ∃ (s : State) (die : Fin 4) (k : Fin 4) (on : Bool) (p : Fin 112), s.blk.Ready ∧ dieOf p
    = die ∧ (s.blk.ch p).flash = some k ∧ s.blk.lane p = p :=
  ⟨{ blk := tb27 }, (2 : Fin 4), (1 : Fin 4), (true : Bool), (5 : Fin 112), tb27_ready, by decide +kernel⟩

def tb28 : Block :=
  ({ bench with fb := [(2, { phase := .run, next := some 1 })] } : Block)
theorem tb28_ready : tb28.Ready :=
  (ready_congr (b := bench) bench_ready rfl rfl rfl)

theorem wit_FullBridgeFunctions_0 : ∃ (s : State) (k : Fin 8) (dir : Fin 4), s.blk.Ready ∧ (s.blk.fbr k).next = some
    dir.val :=
  ⟨{ blk := tb28 }, (2 : Fin 8), (1 : Fin 4), tb28_ready, by decide +kernel⟩

def tb29 : Block :=
  ({ bench with fb := [(2, { phase := .parkBrake })] } : Block)
theorem tb29_ready : tb29.Ready :=
  (ready_congr (b := bench) bench_ready rfl rfl rfl)

theorem wit_FullBridgeFunctions_1 : ∃ (s : State) (k : Fin 8), s.blk.Ready ∧ (s.blk.fbr k).phase = .parkBrake ∧
    s.blk.suspended k = false :=
  ⟨{ blk := tb29 }, (2 : Fin 8), tb29_ready, by decide +kernel⟩

def tb30 : Block :=
  ({ bench with fb := [(2, { phase := .park })] } : Block)
theorem tb30_ready : tb30.Ready :=
  (ready_congr (b := bench) bench_ready rfl rfl rfl)

theorem wit_FullBridgeFunctions_2 : ∃ (s : State) (k : Fin 8), s.blk.Ready ∧ (s.blk.fbr k).phase = .park :=
  ⟨{ blk := tb30 }, (2 : Fin 8), tb30_ready, by decide +kernel⟩

def tb31 : Block :=
  ({ (bench.setF F.HB_FBSTAT_DIR 2 1) with fb := [(2, { phase := .move, target := 1 })] } : Block)
theorem tb31_ready : tb31.Ready :=
  (ready_congr (b := (bench.setF F.HB_FBSTAT_DIR 2 1)) (ready_setF _ F.HB_FBSTAT_DIR 2 1 (by decide) bench_ready)
    rfl rfl rfl)

theorem wit_FullBridgeFunctions_3 : ∃ (s : State) (k : Fin 8) (ma : Nat) (us : Nat), s.blk.Ready ∧ (s.blk.getF
    F.HB_FBSTAT_DIR k = 1 ∨ s.blk.getF F.HB_FBSTAT_DIR k = 2) ∧ s.blk.suspended k = false ∧ ((s.blk.fbr k).ripples =
    0 ∨ Block.rippleOk us = true) :=
  ⟨{ blk := tb31 }, (2 : Fin 8), (1000 : Nat), (500 : Nat), tb31_ready, by decide +kernel⟩

def tb32 : Block :=
  ({ (bench.setF F.HB_FBSTAT_DIR 2 2) with fb := [(2, { phase := .move, last := [(100, 500)] })] } : Block)
theorem tb32_ready : tb32.Ready :=
  (ready_congr (b := (bench.setF F.HB_FBSTAT_DIR 2 2)) (ready_setF _ F.HB_FBSTAT_DIR 2 2 (by decide) bench_ready)
    rfl rfl rfl)

theorem wit_FullBridgeFunctions_4 : ∃ (s : State) (k : Fin 8) (ma : Nat) (us : Nat) (ms : Nat) (stop : WinEnds),
    s.blk.Ready ∧ s.blk.suspended k = false ∧ (s.blk.fbr k).last ≠ [] ∧ s.blk.getF F.HB_FBSTAT_DIR k = 2 ∧
    (s.blk.fbr k).phase = .move ∧ s.blk.getF F.HB_WIN_BLANK k ≤ ms ∧ Block.meanOf ((s.blk.fbr k).last.map Prod.fst)
    + s.blk.getF F.HB_WIN_PINCHTH k * 25 < ma ∧ (s.blk.flag F.HB_FBSTAT_NORM k = false ∨ (s.blk.getF F.HB_WIN_SEAL k
    : Int) < sgn 16 (s.blk.getF F.HB_WINPOS_POS k)) :=
  ⟨{ blk := tb32 }, (2 : Fin 8), (50000 : Nat), (10 : Nat), (5000 : Nat), (⟨false, false⟩ : WinEnds), tb32_ready, by
    decide +kernel⟩

def tb33 : Block :=
  ({ ((bench.setF F.HB_FBSTAT_DIR 2 3).setF F.HB_WIN_REVR 2 3) with fb := [(2, { phase := .pinchBrake })] } : Block)
theorem tb33_ready : tb33.Ready :=
  (ready_congr (b := ((bench.setF F.HB_FBSTAT_DIR 2 3).setF F.HB_WIN_REVR 2 3)) (ready_setF _ F.HB_WIN_REVR 2 3 (by
    decide) (ready_setF _ F.HB_FBSTAT_DIR 2 3 (by decide) bench_ready)) rfl rfl rfl)

theorem wit_FullBridgeFunctions_5 : ∃ (s : State) (k : Fin 8), s.blk.Ready ∧ (s.blk.fbr k).phase = .pinchBrake ∧
    s.blk.suspended k = false ∧ s.blk.getF F.HB_WIN_REVR k ≠ 0 ∧ s.blk.getF F.HB_FBSTAT_DIR k = 3 ∧ (s.blk.fbr
    k).next = none :=
  ⟨{ blk := tb33 }, (2 : Fin 8), tb33_ready, by decide +kernel⟩

def tb34 : Block :=
  ({ (bench.setF F.HB_FBSTAT_DIR 2 1) with fb := [(2, { phase := .pulse, pulses := 1 })] } : Block)
theorem tb34_ready : tb34.Ready :=
  (ready_congr (b := (bench.setF F.HB_FBSTAT_DIR 2 1)) (ready_setF _ F.HB_FBSTAT_DIR 2 1 (by decide) bench_ready)
    rfl rfl rfl)

theorem wit_FullBridgeFunctions_6 : ∃ (s : State) (k : Fin 8), s.blk.Ready ∧ (s.blk.fbr k).phase = .pulse ∧
    s.blk.suspended k = false :=
  ⟨{ blk := tb34 }, (2 : Fin 8), tb34_ready, by decide +kernel⟩

def tb35 : Block :=
  ({ bench with fb := [(2, { phase := .gap, pulses := 1 })] } : Block)
theorem tb35_ready : tb35.Ready :=
  (ready_congr (b := bench) bench_ready rfl rfl rfl)

theorem wit_FullBridgeFunctions_7 : ∃ (s : State) (k : Fin 8) (dir : Fin 4), s.blk.Ready ∧ (s.blk.fbr k).phase =
    .gap ∧ s.blk.suspended k = false ∧ ((s.blk.fbr k).lastDir = 0 ∨ (s.blk.fbr k).lastDir = dir.val) ∧ (s.blk.fbr
    k).lockDir = dir ∧ s.blk.getF F.HB_FBSTAT_DIR k = 0 ∧ (s.blk.fbr k).next = none :=
  ⟨{ blk := tb35 }, (2 : Fin 8), (1 : Fin 4), tb35_ready, by decide +kernel⟩

theorem wit_BoostAndShots_0 : ∃ (s : State) (who : Who) (j : Fin 2), s.blk.Ready ∧ s.blk.CanWrite who (R.BST_CFG.at
    j) :=
  ⟨{ blk := bench }, (.host : Who), (1 : Fin 2), bench_ready, by decide +kernel⟩

def tb36 : Block :=
  (bench.setF F.BST_CFG_EN 1 1)
theorem tb36_ready : tb36.Ready :=
  (ready_setF _ F.BST_CFG_EN 1 1 (by decide) bench_ready)

theorem wit_BoostAndShots_1 : ∃ (s : State) (who : Who) (j : Fin 2), s.blk.Ready ∧ s.blk.CanWrite who (R.BST_CFG.at
    j) :=
  ⟨{ blk := tb36 }, (.host : Who), (1 : Fin 2), tb36_ready, by decide +kernel⟩

def tb37 : Block :=
  (bench.setF F.BST_STAT_STATE 1 1)
theorem tb37_ready : tb37.Ready :=
  (ready_setF _ F.BST_STAT_STATE 1 1 (by decide) bench_ready)

theorem wit_BoostAndShots_2 : ∃ (s : State) (j : Fin 2), s.blk.Ready ∧ (s.blk.getF F.BST_STAT_STATE j = 1 ∨
    (s.blk.getF F.BST_STAT_STATE j = 3 ∧ ∀ i ∈ List.range 16, s.blk.vlSt (16 * j + i) ≠ Vl.boost)) :=
  ⟨{ blk := tb37 }, (1 : Fin 2), tb37_ready, by decide +kernel⟩

def tb38 : Block :=
  ((bench.setF F.BST_STAT_STATE 1 2).setF F.BST_CFG_VSET 1 600)
theorem tb38_ready : tb38.Ready :=
  (ready_setF _ F.BST_CFG_VSET 1 600 (by decide) (ready_setF _ F.BST_STAT_STATE 1 2 (by decide) bench_ready))

theorem wit_BoostAndShots_3 : ∃ (s : State) (j : Fin 2) (vout : Nat), s.blk.Ready ∧ (s.blk.getF F.BST_STAT_STATE j =
    1 ∨ s.blk.getF F.BST_STAT_STATE j = 2 ∨ s.blk.getF F.BST_STAT_STATE j = 3) ∧ s.blk.getF F.BST_CFG_VSET j + 60 <
    vout :=
  ⟨{ blk := tb38 }, (1 : Fin 2), (900 : Nat), tb38_ready, by decide +kernel⟩

def tb39 : Block :=
  ((bench.setF F.BST_STAT_STATE 1 1).setF F.BST_CFG_VSET 1 600)
theorem tb39_ready : tb39.Ready :=
  (ready_setF _ F.BST_CFG_VSET 1 600 (by decide) (ready_setF _ F.BST_STAT_STATE 1 1 (by decide) bench_ready))

theorem wit_BoostAndShots_4 : ∃ (s : State) (j : Fin 2) (vout : Nat), s.blk.Ready ∧ (s.blk.getF F.BST_STAT_STATE j =
    1 ∨ s.blk.getF F.BST_STAT_STATE j = 2 ∨ s.blk.getF F.BST_STAT_STATE j = 3) :=
  ⟨{ blk := tb39 }, (1 : Fin 2), (600 : Nat), tb39_ready, by decide +kernel⟩

def tb40 : Block :=
  ({ bench with pw := { bench.pw with tbase := 0x123456789A } } : Block)
theorem tb40_ready : tb40.Ready :=
  (ready_congr (b := bench) bench_ready rfl rfl rfl)

theorem wit_BoostAndShots_5 : ∃ (s : State) (who : Who) (stale : Bool), s.blk.Ready ∧ s.blk.CanRead who
    (R.BST_TBASE0.at 0) :=
  ⟨{ blk := tb40 }, ((.core 3) : Who), (true : Bool), tb40_ready, by decide +kernel⟩

def tb41 : Block :=
  ((((({ bench with vlv := { bench.vlv with table := [(3, { period := 1000, entries := [{ start := 0, valve := 5, prof := 1, hold := 7 }] })] } }
    : Block).setF F.VLV_TSTAT_TSTATE 3 2).setF F.VLV_STAT_STATE 5 1).setF F.VLV_PROFA_IPEAK 1 20).setF
    F.VLV_PROFA_TBOOST 1 0)
theorem tb41_ready : tb41.Ready :=
  (ready_setF _ F.VLV_PROFA_TBOOST 1 0 (by decide) (ready_setF _ F.VLV_PROFA_IPEAK 1 20 (by decide) (ready_setF _
    F.VLV_STAT_STATE 5 1 (by decide) (ready_setF _ F.VLV_TSTAT_TSTATE 3 2 (by decide) (ready_congr (b := bench)
    bench_ready rfl rfl rfl)))))

theorem wit_BoostAndShots_6 : ∃ (s : State) (t : Fin 16) (i : Nat) (e : ShotEntry), s.blk.Ready ∧ (s.blk.tbl
    t).entries[i]? = some e ∧ s.blk.getF F.VLV_TSTAT_TSTATE t = 2 ∧ e.valve < 32 ∧ s.blk.vlSt e.valve = Vl.idle ∧
    s.blk.getF F.VLV_STAT_LOCKED e.valve = 0 ∧ s.blk.getF F.BST_BSTAT_BSTATE (e.valve / 4) ≠ 3 ∧ s.blk.hasBoost
    e.prof = false ∧ s.blk.ipMa e.prof ≠ 0 :=
  ⟨{ blk := tb41 }, (3 : Fin 16), (0 : Nat), ({ start := 0, valve := 5, prof := 1, hold := 7 } : ShotEntry),
    tb41_ready, by decide +kernel⟩

def tb42 : Block :=
  (({ bench with vlv := { bench.vlv with table := [(3, { period := 1000 })] } } : Block).setF F.VLV_TSTAT_TSTATE 3
    2)
theorem tb42_ready : tb42.Ready :=
  (ready_setF _ F.VLV_TSTAT_TSTATE 3 2 (by decide) (ready_congr (b := bench) bench_ready rfl rfl rfl))

theorem wit_BoostAndShots_7 : ∃ (s : State) (t : Fin 16), s.blk.Ready ∧ s.blk.getF F.VLV_TSTAT_TSTATE t = 2 ∧
    (s.blk.tbl t).period ≠ 0 ∧ (∀ u ∈ List.range 16, (s.blk.tbl u).inPlace ≠ some t.val) :=
  ⟨{ blk := tb42 }, (3 : Fin 16), tb42_ready, by decide +kernel⟩

def tb43 : Block :=
  ((({ bench with vlv := { bench.vlv with valve := [(5, { level := 4000, shot := some { prof := 1, hold := 100, table := none, due := 0 } })] } }
    : Block).setF F.VLV_STAT_STATE 5 3).setF F.VLV_PROFA_IPEAK 1 20)
theorem tb43_ready : tb43.Ready :=
  (ready_setF _ F.VLV_PROFA_IPEAK 1 20 (by decide) (ready_setF _ F.VLV_STAT_STATE 5 3 (by decide) (ready_congr (b :=
    bench) bench_ready rfl rfl rfl)))

theorem wit_BoostAndShots_8 : ∃ (s : State) (n : Fin 32) (x : Shot), s.blk.Ready ∧ (s.blk.vl n).shot = some x ∧
    s.blk.vlSt n = Vl.boost ∧ s.blk.ipMa x.prof ≠ 0 :=
  ⟨{ blk := tb43 }, (5 : Fin 32), ({ prof := 1, hold := 100, table := none, due := 0 } : Shot), tb43_ready, by
    decide +kernel⟩

theorem wit_BoostAndShots_9 : ∃ (s : State) (n : Fin 32) (ma : Nat) (x : Shot), s.blk.Ready ∧ (s.blk.vl n).shot =
    some x ∧ s.blk.vlSt n = Vl.boost ∧ Block.openAtFirst x ma (s.blk.vl n).level = false ∧ s.blk.ipMa x.prof ≠ 0 :=
  ⟨{ blk := tb43 }, (5 : Fin 32), (4000 : Nat), ({ prof := 1, hold := 100, table := none, due := 0 } : Shot),
    tb43_ready, by decide +kernel⟩

def tb44 : Block :=
  ((({ bench with vlv := { bench.vlv with valve := [(5, { shot := some { prof := 1, hold := 100, table := none, due := 0 } })] } }
    : Block).setF F.VLV_STAT_STATE 5 4).setF F.VLV_PROFB_IHOLD 1 20)
theorem tb44_ready : tb44.Ready :=
  (ready_setF _ F.VLV_PROFB_IHOLD 1 20 (by decide) (ready_setF _ F.VLV_STAT_STATE 5 4 (by decide) (ready_congr (b :=
    bench) bench_ready rfl rfl rfl)))

theorem wit_BoostAndShots_10 : ∃ (s : State) (n : Fin 32) (ma : Nat) (reached : Bool) (x : Shot), s.blk.Ready ∧
    (s.blk.vl n).shot = some x ∧ s.blk.vlSt n = Vl.peak ∧ Block.openAtFirst x ma (s.blk.vl n).level = false ∧
    s.blk.ihMa x.prof ≠ 0 :=
  ⟨{ blk := tb44 }, (5 : Fin 32), (4000 : Nat), (false : Bool), ({ prof := 1, hold := 100, table := none, due := 0 }
    : Shot), tb44_ready, by decide +kernel⟩

def tb45 : Block :=
  (({ bench with vlv := { bench.vlv with valve := [(5, { shot := some { prof := 1, hold := 100, table := none, due := 0 } })] } }
    : Block).setF F.VLV_STAT_STATE 5 5)
theorem tb45_ready : tb45.Ready :=
  (ready_setF _ F.VLV_STAT_STATE 5 5 (by decide) (ready_congr (b := bench) bench_ready rfl rfl rfl))

theorem wit_BoostAndShots_11 : ∃ (s : State) (n : Fin 32) (ma : Nat) (reached : Bool) (us : Nat) (mv : Nat) (x :
    Shot), s.blk.Ready ∧ (s.blk.vl n).shot = some x ∧ s.blk.vlSt n = Vl.hold ∧ Block.openAtFirst x ma (s.blk.vl
    n).level = false ∧ us < 500 :=
  ⟨{ blk := tb45 }, (5 : Fin 32), (4000 : Nat), (false : Bool), (10 : Nat), (10 : Nat),
    ({ prof := 1, hold := 100, table := none, due := 0 } : Shot), tb45_ready, by decide +kernel⟩

def tb46 : Block :=
  (({ bench with vlv := { bench.vlv with valve := [(5, { shot := some { prof := 1, hold := 100, table := none, due := 0 } })] } }
    : Block).setF F.VLV_STAT_STATE 5 6)
theorem tb46_ready : tb46.Ready :=
  (ready_setF _ F.VLV_STAT_STATE 5 6 (by decide) (ready_congr (b := bench) bench_ready rfl rfl rfl))

theorem wit_BoostAndShots_12 : ∃ (s : State) (n : Fin 32) (energy : Nat), s.blk.Ready ∧ s.blk.vlSt n = Vl.clamp ∧
    (s.blk.vl n).lockAt = 0 ∧ (s.blk.vl n).disAt = false ∧ (Block.addHead energy (s.blk.vl n).bucket).sum ≤ 100000 ∧
    s.blk.getF F.VLV_STAT_LOCKED n = 0 ∧ s.blk.vbatcOff = false :=
  ⟨{ blk := tb46 }, (5 : Fin 32), (100 : Nat), tb46_ready, by decide +kernel⟩

def tb47 : Block :=
  ((bench.setF F.VLV_STAT_STATE 5 1).setF F.VLV_COIL_RREF 5 1500)
theorem tb47_ready : tb47.Ready :=
  (ready_setF _ F.VLV_COIL_RREF 5 1500 (by decide) (ready_setF _ F.VLV_STAT_STATE 5 1 (by decide) bench_ready))

theorem wit_BoostAndShots_13 : ∃ (s : State) (n : Fin 32) (msq : Nat), s.blk.Ready ∧ s.blk.vlSt n ≠ Vl.disabled ∧
    s.blk.getF F.VLV_COIL_RREF n ≠ 0 :=
  ⟨{ blk := tb47 }, (5 : Fin 32), (1000000 : Nat), tb47_ready, by decide +kernel⟩

def tb48 : Block :=
  ((({ bench with vlv := { bench.vlv with valve := [(5, { opens := 3 })] } } : Block).setF F.VLV_STAT_STATE 5
    1).setF F.VLV_CFG_OLEN 5 1)
theorem tb48_ready : tb48.Ready :=
  (ready_setF _ F.VLV_CFG_OLEN 5 1 (by decide) (ready_setF _ F.VLV_STAT_STATE 5 1 (by decide) (ready_congr (b :=
    bench) bench_ready rfl rfl rfl)))

theorem wit_ValveFaults_0 : ∃ (s : State) (n : Fin 32) (mv : Nat), s.blk.Ready ∧ s.blk.vlSt n ≠ Vl.disabled ∧
    s.blk.getF F.VLV_CFG_OLEN n = 1 ∧ s.blk.bankQuiet (n / 4) = true ∧ 3500 < mv :=
  ⟨{ blk := tb48 }, (5 : Fin 32), (4000 : Nat), tb48_ready, by decide +kernel⟩

def tb49 : Block :=
  (({ bench with vlv := { bench.vlv with valve := [(5, { shot := some { prof := 1, hold := 100, table := none, due := 0 } })] } }
    : Block).setF F.VLV_STAT_STATE 5 4)
theorem tb49_ready : tb49.Ready :=
  (ready_setF _ F.VLV_STAT_STATE 5 4 (by decide) (ready_congr (b := bench) bench_ready rfl rfl rfl))

theorem wit_ValveFaults_1 : ∃ (s : State) (n : Fin 32) (ma : Nat), s.blk.Ready ∧ s.blk.inShot n = true ∧ 16000 < ma
    :=
  ⟨{ blk := tb49 }, (5 : Fin 32), (20000 : Nat), tb49_ready, by decide +kernel⟩

theorem wit_ValveFaults_2 : ∃ (s : State) (k : Fin 8) (cause : Fin 4), s.blk.Ready ∧ s.blk.getF F.BST_BSTAT_BSTATE k
    ≠ 3 :=
  ⟨{ blk := bench }, (3 : Fin 8), (2 : Fin 4), bench_ready, by decide +kernel⟩

theorem wit_ValveFaults_3 : ∃ (s : State) (v : Fin 2) (n : Fin 32), s.blk.Ready ∧ n.val / 16 = v ∧ s.blk.vlSt n ≠
    Vl.disabled :=
  ⟨{ blk := tb49 }, (0 : Fin 2), (5 : Fin 32), tb49_ready, by decide +kernel⟩

theorem wit_ValveFaults_4 : ∃ (s : State) (who : Who) (n : Fin 32), s.blk.Ready ∧ s.blk.CanWrite who (R.VLV_CFG.at
    n) ∧ s.blk.vlSt n = Vl.disabled ∧ s.blk.getF F.VLV_STAT_LOCKED n = 0 ∧ s.blk.vbatcOff = false :=
  ⟨{ blk := bench }, (.host : Who), (5 : Fin 32), bench_ready, by decide +kernel⟩

def tb50 : Block :=
  ((({ bench with vlv := { bench.vlv with valve := [(5, { temp := some 20 })] } } : Block).setF F.VLV_STAT_STATE 5
    1).setF F.VLV_CFG_EN 5 1)
theorem tb50_ready : tb50.Ready :=
  (ready_setF _ F.VLV_CFG_EN 5 1 (by decide) (ready_setF _ F.VLV_STAT_STATE 5 1 (by decide) (ready_congr (b :=
    bench) bench_ready rfl rfl rfl)))

theorem wit_ValveFaults_5 : ∃ (s : State) (who : Who) (n : Fin 32), s.blk.Ready ∧ s.blk.CanWrite who (R.VLV_CFG.at
    n) ∧ s.blk.inShot n = false ∧ s.blk.vlSt n ≠ Vl.clamp :=
  ⟨{ blk := tb50 }, (.host : Who), (5 : Fin 32), tb50_ready, by decide +kernel⟩

def tb51 : Block :=
  ((bench.setF F.VLV_STAT_STATE 5 7).setF F.VLV_STAT_LOCKED 5 1)
theorem tb51_ready : tb51.Ready :=
  (ready_setF _ F.VLV_STAT_LOCKED 5 1 (by decide) (ready_setF _ F.VLV_STAT_STATE 5 7 (by decide) bench_ready))

theorem wit_ValveFaults_6 : ∃ (s : State) (who : Who) (n : Fin 32), s.blk.Ready ∧ s.blk.CanWrite who (R.VLV_STAT.at
    n) ∧ s.blk.getF F.VLV_STAT_LOCKED n = 1 ∧ s.blk.vlSt n = Vl.locked ∧ s.blk.vbatcOff = false :=
  ⟨{ blk := tb51 }, (.host : Who), (5 : Fin 32), tb51_ready, by decide +kernel⟩

def tb52 : Block :=
  (((bench.setF F.BST_BSTAT_LOCKED 3 1).setF F.BST_BSTAT_BSTATE 3 3).setF F.BST_BSTAT_BCAUSE 3 1)
theorem tb52_ready : tb52.Ready :=
  (ready_setF _ F.BST_BSTAT_BCAUSE 3 1 (by decide) (ready_setF _ F.BST_BSTAT_BSTATE 3 3 (by decide) (ready_setF _
    F.BST_BSTAT_LOCKED 3 1 (by decide) bench_ready)))

theorem wit_ValveFaults_7 : ∃ (s : State) (who : Who) (k : Fin 8), s.blk.Ready ∧ s.blk.CanWrite who (R.BST_BSTAT.at
    k) ∧ s.blk.getF F.BST_BSTAT_LOCKED k = 1 ∧ (Tab.get [] s.blk.vlv.lsBy k).all (fun n => !s.blk.flag
    F.VLV_STAT_LOCKED n) = true ∧ Tab.get false s.blk.vlv.fault k = false :=
  ⟨{ blk := tb52 }, (.host : Who), (3 : Fin 8), tb52_ready, by decide +kernel⟩

def tb53 : Block :=
  (((bench.setF F.VLV_STAT_STATE 5 1).setF F.VLV_PROFA_IPEAK 1 20).setF F.VLV_PROFA_TBOOST 1 0)
theorem tb53_ready : tb53.Ready :=
  (ready_setF _ F.VLV_PROFA_TBOOST 1 0 (by decide) (ready_setF _ F.VLV_PROFA_IPEAK 1 20 (by decide) (ready_setF _
    F.VLV_STAT_STATE 5 1 (by decide) bench_ready)))

theorem wit_ValveDescriptors_0 : ∃ (s : State) (d : Desc), s.blk.Ready ∧ s.blk.Executes d ∧ d.ok 0x30 0 0
    [0xFFFFFFFF, 0, 0, 0x10F, 0xFFFF] = true ∧ Block.vlMask d ≠ [] ∧ (∀ a ∈ ((Block.vlMask d).map fun k =>
    DieAct.shot k (k / 16 * 16 + bits (d.dw 8) 3 0) (d.dw 9)), s.blk.missOf a = .no) :=
  ⟨{ blk := tb53 }, (({ src := .node 1 2, dws := [0x30, 0, 0, 0, 0, 0x20, 0, 0, 1, 0], payload := [] }) : Desc),
    tb53_ready, by decide +kernel⟩

def tb54 : Block :=
  ({ (((bench.setF F.VLV_STAT_STATE 5 1).setF F.VLV_PROFA_IPEAK 1 20).setF F.VLV_PROFA_TBOOST 1 0) with dieq := [{ desc := { src := .node 1 2, dws := [0x30], payload := [] }, parts := [.shot 5 1 100], sync := false }] }
    : Block)
theorem tb54_ready : tb54.Ready :=
  (ready_congr (b := (((bench.setF F.VLV_STAT_STATE 5 1).setF F.VLV_PROFA_IPEAK 1 20).setF F.VLV_PROFA_TBOOST 1 0))
    (ready_setF _ F.VLV_PROFA_TBOOST 1 0 (by decide) (ready_setF _ F.VLV_PROFA_IPEAK 1 20 (by decide) (ready_setF _
    F.VLV_STAT_STATE 5 1 (by decide) bench_ready))) rfl rfl rfl)

theorem wit_ValveDescriptors_1 : ∃ (s : State) (c : DieCmd) (n : Fin 32) (prof : Fin 32) (hold : Nat), s.blk.Ready ∧
    s.blk.dieq = [c] ∧ c.parts = [.shot n prof hold] ∧ c.sync = false ∧ c.missed = 0 ∧ s.blk.missOf (.shot n prof
    hold) = .no ∧ s.blk.getF F.VLV_STAT_LOCKED n = 0 ∧ s.blk.getF F.BST_BSTAT_BSTATE (n / 4) ≠ 3 ∧ s.blk.hasBoost
    prof = false ∧ s.blk.ipMa prof ≠ 0 ∧ s.blk.Single c.desc :=
  ⟨{ blk := tb54 },
    ({ desc := { src := .node 1 2, dws := [0x30], payload := [] }, parts := [.shot 5 1 100], sync := false } :
    DieCmd), (5 : Fin 32), (1 : Fin 32), (100 : Nat), tb54_ready, by decide +kernel⟩

theorem wit_ValveDescriptors_2 : ∃ (s : State) (d : Desc), s.blk.Ready ∧ s.blk.Executes d ∧ s.blk.Single d ∧ d.ok
    0x31 8 2048 [0, 0, 0, 0xF, 0xFFFFFFFF] = true ∧ d.len % 8 = 0 ∧ s.blk.weirState ≠ 2 ∧ s.blk.getF
    F.VLV_TSTAT_TSTATE (bits (d.dw 8) 3 0) < 2 ∧ (List.range ((Block.pieces 8 256 (d.payload.take d.len)).map
    (Block.shotEntry (bits (d.dw 8) 3 0 / 8))).length).all (fun i => !s.blk.badEntry (d.dw 9) ((Block.pieces 8 256
    (d.payload.take d.len)).map (Block.shotEntry (bits (d.dw 8) 3 0 / 8))) i) = true :=
  ⟨{ blk := bench },
    (({ src := .node 1 2, dws := [0x31, 0, 0x100, 0, 8, 0, 0, 0, 3, 0], payload := [0, 0, 0, 0, 5, 1, 7, 0] }) :
    Desc), bench_ready, by decide +kernel⟩

def tb55 : Block :=
  ((((((((((((((((bench.setF F.VLV_TSTAT_TSTATE 3 1).setF F.VLV_TSTAT_TSTATE 0 1).setF F.VLV_TSTAT_TSTATE 1 1).setF
    F.VLV_TSTAT_TSTATE 2 1).setF F.VLV_TSTAT_TSTATE 4 1).setF F.VLV_TSTAT_TSTATE 5 1).setF F.VLV_TSTAT_TSTATE 6
    1).setF F.VLV_TSTAT_TSTATE 7 1).setF F.VLV_TSTAT_TSTATE 8 1).setF F.VLV_TSTAT_TSTATE 9 1).setF
    F.VLV_TSTAT_TSTATE 10 1).setF F.VLV_TSTAT_TSTATE 11 1).setF F.VLV_TSTAT_TSTATE 12 1).setF F.VLV_TSTAT_TSTATE 13
    1).setF F.VLV_TSTAT_TSTATE 14 1).setF F.VLV_TSTAT_TSTATE 15 1)
theorem tb55_ready : tb55.Ready :=
  (ready_setF _ F.VLV_TSTAT_TSTATE 15 1 (by decide) (ready_setF _ F.VLV_TSTAT_TSTATE 14 1 (by decide) (ready_setF _
    F.VLV_TSTAT_TSTATE 13 1 (by decide) (ready_setF _ F.VLV_TSTAT_TSTATE 12 1 (by decide) (ready_setF _
    F.VLV_TSTAT_TSTATE 11 1 (by decide) (ready_setF _ F.VLV_TSTAT_TSTATE 10 1 (by decide) (ready_setF _
    F.VLV_TSTAT_TSTATE 9 1 (by decide) (ready_setF _ F.VLV_TSTAT_TSTATE 8 1 (by decide) (ready_setF _
    F.VLV_TSTAT_TSTATE 7 1 (by decide) (ready_setF _ F.VLV_TSTAT_TSTATE 6 1 (by decide) (ready_setF _
    F.VLV_TSTAT_TSTATE 5 1 (by decide) (ready_setF _ F.VLV_TSTAT_TSTATE 4 1 (by decide) (ready_setF _
    F.VLV_TSTAT_TSTATE 2 1 (by decide) (ready_setF _ F.VLV_TSTAT_TSTATE 1 1 (by decide) (ready_setF _
    F.VLV_TSTAT_TSTATE 0 1 (by decide) (ready_setF _ F.VLV_TSTAT_TSTATE 3 1 (by decide) bench_ready))))))))))))))))

theorem wit_ValveDescriptors_3 : ∃ (s : State) (d : Desc), s.blk.Ready ∧ s.blk.Executes d ∧ s.blk.Single d ∧ d.ok
    0x32 0 0 [0, 0xFFFF, 0, 0xF03, 0, 0xFFFFFFFF, 0xFFFFFFFF] = true ∧ s.blk.weirState ≠ 2 ∧ d.dw 8 = 0 ∧ d.dw 10 =
    0 ∧ d.dw 11 = 0 ∧ (Block.tblMask d).length = 1 ∧ (∀ u ∈ List.range 16, s.blk.tblRuns u = false) ∧ (∀ k ∈
    Block.tblMask d, s.blk.getF F.VLV_TSTAT_TSTATE k = 1 ∧ s.blk.pairHeldTbl k = false) :=
  ⟨{ blk := tb55 }, (({ src := .node 1 2, dws := [0x32, 0, 0, 0, 0, 0, 8], payload := [] }) : Desc), tb55_ready, by
    decide +kernel⟩

def tb56 : Block :=
  (bench.setF F.VLV_TSTAT_TSTATE 3 2)
theorem tb56_ready : tb56.Ready :=
  (ready_setF _ F.VLV_TSTAT_TSTATE 3 2 (by decide) bench_ready)

theorem wit_ValveDescriptors_4 : ∃ (s : State) (d : Desc), s.blk.Ready ∧ s.blk.Executes d ∧ s.blk.Single d ∧ d.ok
    0x33 0 0 [0, 0xFFFF, 0, 1] = true ∧ s.blk.weirState ≠ 2 ∧ Block.tblMask d ≠ [] ∧ (∀ k ∈ Block.tblMask d,
    s.blk.pairHeldTbl k = false) :=
  ⟨{ blk := tb56 }, (({ src := .node 1 2, dws := [0x33, 0, 0, 0, 0, 0, 8], payload := [] }) : Desc), tb56_ready, by
    decide +kernel⟩

def tb57 : Block :=
  ((bench.setF F.VLV_STAT_LOCKED 5 1).setF F.VLV_STAT_OPEN 5 1)
theorem tb57_ready : tb57.Ready :=
  (ready_setF _ F.VLV_STAT_OPEN 5 1 (by decide) (ready_setF _ F.VLV_STAT_LOCKED 5 1 (by decide) bench_ready))

theorem wit_ValveDescriptors_5 : ∃ (s : State) (d : Desc), s.blk.Ready ∧ s.blk.Executes d ∧ s.blk.Single d ∧ d.ok
    0x34 0 0 [0xFFFFFFFF, 0xFF, 0, 7] = true ∧ s.blk.weirState ≠ 2 ∧ Block.vlMask d ≠ [] ∧ bit (d.dw 8) 2 = false ∧
    (∀ k ∈ Block.vlMask d, Tab.get false s.blk.pw.linkFail (4 + k / 16) = false) :=
  ⟨{ blk := tb57 }, (({ src := .node 1 2, dws := [0x34, 0, 0, 0, 0, 0x20, 0, 0, 3], payload := [] }) : Desc),
    tb57_ready, by decide +kernel⟩

theorem wit_ValveDescriptors_6 : ∃ (s : State) (d : Desc), s.blk.Ready ∧ s.blk.Executes d ∧ s.blk.Single d ∧ d.ok
    0x35 (16 * (Block.vlMask d).length) 65536 [0xFFFFFFFF] = true ∧ Block.vlMask d ≠ [] :=
  ⟨{ blk := bench }, (({ src := .node 1 2, dws := [0x35, 0, 0x100, 0, 16, 0x20], payload := [] }) : Desc),
    bench_ready, by decide +kernel⟩

theorem wit_ValveDescriptors_7 : ∃ (s : State) (d : Desc), s.blk.Ready ∧ s.blk.Executes d ∧ s.blk.Single d ∧ d.ok
    0x36 0 0 [0, 0, 0, 0x103, 0x3FF] = true ∧ s.blk.weirState ≠ 2 ∧ bits (d.dw 8) 1 0 ≠ 0 ∧ 400 ≤ d.dw 9 ∧ d.dw 9 ≤
    720 :=
  ⟨{ blk := bench }, (({ src := .node 1 2, dws := [0x36, 0, 0, 0, 0, 0, 0, 0, 0x103, 600], payload := [] }) : Desc),
    bench_ready, by decide +kernel⟩

def tb58 : Block :=
  ((bench.setF F.HSW_STAT_STATE 5 1).setF F.HSW_CFG_LAMP 5 1)
theorem tb58_ready : tb58.Ready :=
  (ready_setF _ F.HSW_CFG_LAMP 5 1 (by decide) (ready_setF _ F.HSW_STAT_STATE 5 1 (by decide) bench_ready))

theorem wit_LampDescriptors_0 : ∃ (s : State) (d : Desc), s.blk.Ready ∧ s.blk.Executes d ∧ d.ok 0x40 0 0
    [0xFFFFFFFF, 0xFFFFFFFF, 0xFFFFFFFF, 0x101FFFF, 0xFFFF] = true ∧ d.dw 8 % 2 ^ 24 ≤ 65536 ∧ Block.hsMask d ≠ [] ∧
    (∀ a ∈ ((Block.hsMask d).map fun k => DieAct.lamp k (d.dw 8 % 2 ^ 24) (d.dw 9)), s.blk.missOf a = .no) :=
  ⟨{ blk := tb58 }, (({ src := .node 1 2, dws := [0x40, 0, 0, 0, 0, 0x20, 0, 0, 1000, 100], payload := [] }) :
    Desc), tb58_ready, by decide +kernel⟩

theorem wit_LampDescriptors_1 : ∃ (s : State) (d : Desc), s.blk.Ready ∧ s.blk.Executes d ∧ d.ok 0x41 8 768 [0, 0, 0,
    0x1000000] = true ∧ d.len % 8 = 0 ∧ d.payload ≠ [] ∧ ((Block.pieces 8 96 (d.payload.take d.len)).map
    Block.lmpEntry).all (fun e => e.2.2) = true ∧ (∀ a ∈ ((((Block.pieces 8 96 (d.payload.take d.len)).map
    Block.lmpEntry).foldl (fun (t : Tab (Nat × Nat)) e => Tab.put t e.1 e.2.1) []).map fun e : Nat × Nat × Nat =>
    DieAct.lamp e.1 e.2.2 e.2.1), s.blk.missOf a = .no) :=
  ⟨{ blk := tb58 }, (({ src := .node 1 2, dws := [0x41, 0, 0x100, 0, 8], payload := [5, 0, 100, 0, 0, 1, 0, 0] }) :
    Desc), tb58_ready, by decide +kernel⟩

def tb59 : Block :=
  ((bench.setF F.LMP_GRP_EN 1 1).setF F.LMP_GRP_CH0 1 5)
theorem tb59_ready : tb59.Ready :=
  (ready_setF _ F.LMP_GRP_CH0 1 5 (by decide) (ready_setF _ F.LMP_GRP_EN 1 1 (by decide) bench_ready))

theorem wit_LampDescriptors_2 : ∃ (s : State) (d : Desc), s.blk.Ready ∧ s.blk.Executes d ∧ d.ok 0x42 0 0 [0xFFFF, 0,
    0, 0x1FFFF, 0x1FFFF, 0x1FFFF, 0x100FFFF] = true ∧ ((List.range 16).filter fun g => bit (d.dw 5) g) ≠ [] ∧ d.dw 8
    ≤ 65536 ∧ d.dw 9 ≤ 65536 ∧ d.dw 10 ≤ 65536 ∧ (∀ a ∈ (((List.range 16).filter fun g => bit (d.dw 5) g).map fun g
    => DieAct.colour g (dieOf (s.blk.getF F.LMP_GRP_CH0 g)) (d.dw 8) (d.dw 9) (d.dw 10) (bits (d.dw 11) 15 0)),
    s.blk.missOf a = .no) :=
  ⟨{ blk := tb59 }, (({ src := .node 1 2, dws := [0x42, 0, 0, 0, 0, 2, 0, 0, 1, 2, 3, 100], payload := [] }) :
    Desc), tb59_ready, by decide +kernel⟩

def tb60 : Block :=
  (bench.setF F.MTX_STAT_STATE 1 1)
theorem tb60_ready : tb60.Ready :=
  (ready_setF _ F.MTX_STAT_STATE 1 1 (by decide) bench_ready)

theorem wit_LampDescriptors_3 : ∃ (s : State) (d : Desc), s.blk.Ready ∧ s.blk.Executes d ∧ d.ok 0x48 512 2048 [0, 0,
    0, 0x10F] = true ∧ ((List.range 4).filter fun k => bit (d.dw 8) k) ≠ [] ∧ d.len = 512 * ((List.range 4).filter
    fun k => bit (d.dw 8) k).length ∧ (∀ a ∈ (((List.range 4).filter fun k => bit (d.dw 8) k).zipIdx.map fun p =>
    DieAct.frame p.1 ((d.payload.drop (512 * p.2)).take 512)), s.blk.missOf a = .no) :=
  ⟨{ blk := tb60 },
    (({ src := .node 1 2, dws := [0x48, 0, 0x100, 0, 512, 0, 0, 0, 2], payload := (List.replicate 512 7) }) : Desc),
    tb60_ready, by decide +kernel⟩

theorem wit_LampDescriptors_4 : ∃ (s : State) (d : Desc), s.blk.Ready ∧ s.blk.Executes d ∧ s.blk.Single d ∧ d.ok
    0x43 (16 * (Block.hsMask d).length) 65536 [0xFFFFFFFF, 0xFFFFFFFF, 0xFFFFFFFF] = true ∧ Block.hsMask d ≠ [] :=
  ⟨{ blk := bench }, (({ src := .node 1 2, dws := [0x43, 0, 0x100, 0, 16, 0x20], payload := [] }) : Desc),
    bench_ready, by decide +kernel⟩

def tb61 : Block :=
  (((bench.setF F.HSW_STAT_STATE 5 1).setF F.HSW_CFG_LAMP 5 1).setF F.LMP_DIAG_LOWI 5 1)
theorem tb61_ready : tb61.Ready :=
  (ready_setF _ F.LMP_DIAG_LOWI 5 1 (by decide) (ready_setF _ F.HSW_CFG_LAMP 5 1 (by decide) (ready_setF _
    F.HSW_STAT_STATE 5 1 (by decide) bench_ready)))

theorem wit_LampDescriptors_5 : ∃ (s : State) (d : Desc), s.blk.Ready ∧ s.blk.Executes d ∧ s.blk.Single d ∧ d.ok
    0x44 0 0 [0xFFFFFFFF, 0xFFFFFFFF, 0xFFFFFFFF, 1] = true ∧ Block.hsMask d ≠ [] ∧ bit (d.dw 8) 0 = true ∧ (∀ k ∈
    Block.hsMask d, s.blk.missOf (.lamp k 0 0) = .no) :=
  ⟨{ blk := tb61 }, (({ src := .node 1 2, dws := [0x44, 0, 0, 0, 0, 0x20, 0, 0, 1], payload := [] }) : Desc),
    tb61_ready, by decide +kernel⟩

theorem wit_LampDescriptors_6 : ∃ (s : State) (d : Desc), s.blk.Ready ∧ s.blk.Executes d ∧ s.blk.Single d ∧ d.ok
    0x49 272 65536 [0, 0, 0, 3] = true :=
  ⟨{ blk := bench }, (({ src := .node 1 2, dws := [0x49, 0, 0x100, 0, 272, 0, 0, 0, 2], payload := [] }) : Desc),
    bench_ready, by decide +kernel⟩

def tb62 : Block :=
  ((((bench.setF F.MTX_STAT_STATE 1 1).setF F.MTX_LFLT_LSHORT 1 5).setF F.MTX_CFLT_CSHORT 1 5).setF F.MTX_STAT_LINEF
    1 1)
theorem tb62_ready : tb62.Ready :=
  (ready_setF _ F.MTX_STAT_LINEF 1 1 (by decide) (ready_setF _ F.MTX_CFLT_CSHORT 1 5 (by decide) (ready_setF _
    F.MTX_LFLT_LSHORT 1 5 (by decide) (ready_setF _ F.MTX_STAT_STATE 1 1 (by decide) bench_ready))))

theorem wit_LampDescriptors_7 : ∃ (s : State) (d : Desc), s.blk.Ready ∧ s.blk.Executes d ∧ s.blk.Single d ∧ d.ok
    0x4A 0 0 [0, 0, 0, 0x30F] = true ∧ ((List.range 4).filter fun k => bit (d.dw 8) k) ≠ [] ∧ (∀ k ∈ ((List.range
    4).filter fun k => bit (d.dw 8) k), Tab.get false s.blk.pw.linkFail k = false ∧ s.blk.getF F.MTX_STAT_STATE k ≠
    0 ∧ s.blk.getF F.MTX_STAT_STATE k ≠ 3) :=
  ⟨{ blk := tb62 }, (({ src := .node 1 2, dws := [0x4A, 0, 0, 0, 0, 0, 0, 0, 0x302], payload := [] }) : Desc),
    tb62_ready, by decide +kernel⟩

def tb63 : Block :=
  ((({ bench with lmp := { bench.lmp with fade := [(5, some { start := [0], target := [65536], total := 10, passed := 3, started := true })] } }
    : Block).setF F.HSW_STAT_STATE 5 1).setF F.HSW_CFG_LAMP 5 1)
theorem tb63_ready : tb63.Ready :=
  (ready_setF _ F.HSW_CFG_LAMP 5 1 (by decide) (ready_setF _ F.HSW_STAT_STATE 5 1 (by decide) (ready_congr (b :=
    bench) bench_ready rfl rfl rfl)))

theorem wit_LampsAndMatrices_0 : ∃ (s : State) (n : Fin 96) (f : Fade) (x : Nat) (y : Nat), s.blk.Ready ∧
    s.blk.fades = [n.val] ∧ s.blk.fadeOf n = some f ∧ f.started = true ∧ f.frozen = false ∧ f.start = [x] ∧ f.target
    = [y] :=
  ⟨{ blk := tb63 }, (5 : Fin 96), ({ start := [0], target := [65536], total := 10, passed := 3, started := true } :
    Fade), (0 : Nat), (65536 : Nat), tb63_ready, by decide +kernel⟩

def tb64 : Block :=
  ((((((bench.setF F.HSW_CFG_LAMP 8 1).setF F.HSW_CFG_LAMP 9 1).setF F.HSW_CFG_LAMP 10 1).setF F.HSW_PWM_PERIOD 8
    160000).setF F.HSW_PWM_PERIOD 9 160000).setF F.HSW_PWM_PERIOD 10 160000)
theorem tb64_ready : tb64.Ready :=
  (ready_setF _ F.HSW_PWM_PERIOD 10 160000 (by decide) (ready_setF _ F.HSW_PWM_PERIOD 9 160000 (by decide)
    (ready_setF _ F.HSW_PWM_PERIOD 8 160000 (by decide) (ready_setF _ F.HSW_CFG_LAMP 10 1 (by decide) (ready_setF _
    F.HSW_CFG_LAMP 9 1 (by decide) (ready_setF _ F.HSW_CFG_LAMP 8 1 (by decide) bench_ready))))))

theorem wit_LampsAndMatrices_1 : ∃ (s : State) (who : Who) (g : Fin 16) (w : Word), s.blk.Ready ∧ s.blk.CanWrite who
    (R.LMP_GRP.at g) ∧ s.blk.isLocked = false ∧ s.blk.flag F.LMP_GRP_EN g = false ∧ bit w.toNat 24 = true ∧ (∀ n ∈
    [bits w.toNat 6 0, bits w.toNat 14 8, bits w.toNat 22 16], n < 96 ∧ s.blk.flag F.HSW_CFG_LAMP n = true ∧
    s.blk.isFollower n = false ∧ s.blk.flag F.LMP_CFG_INGRP n = false ∧ dieOf n = dieOf (bits w.toNat 6 0) ∧
    s.blk.cget C.period n = s.blk.cget C.period (bits w.toNat 6 0)) ∧ bits w.toNat 6 0 ≠ bits w.toNat 14 8 ∧ bits
    w.toNat 14 8 ≠ bits w.toNat 22 16 ∧ bits w.toNat 6 0 ≠ bits w.toNat 22 16 :=
  ⟨{ blk := tb64 }, (.host : Who), (1 : Fin 16), (0x010A0908 : Word), tb64_ready, by decide +kernel⟩

theorem wit_LampsAndMatrices_2 : ∃ (s : State) (who : Who) (k : Fin 4), s.blk.Ready ∧ s.blk.CanWrite who
    (R.MTX_CFG.at k) ∧ (s.blk.getF F.MTX_STAT_STATE k = 0 ∨ s.blk.getF F.MTX_STAT_STATE k = 3) :=
  ⟨{ blk := bench }, (.host : Who), (2 : Fin 4), bench_ready, by decide +kernel⟩

def tb65 : Block :=
  (bench.setF F.MTX_STAT_STATE 2 1)
theorem tb65_ready : tb65.Ready :=
  (ready_setF _ F.MTX_STAT_STATE 2 1 (by decide) bench_ready)

theorem wit_LampsAndMatrices_3 : ∃ (s : State) (who : Who) (k : Fin 4), s.blk.Ready ∧ s.blk.CanWrite who
    (R.MTX_CFG.at k) :=
  ⟨{ blk := tb65 }, (.host : Who), (2 : Fin 4), tb65_ready, by decide +kernel⟩

def tb66 : Block :=
  ({ (bench.setF F.MTX_STAT_STATE 2 1) with lmp := { bench.lmp with port := [(2, { back := [1, 2], swap := true })] } }
    : Block)
theorem tb66_ready : tb66.Ready :=
  (ready_congr (b := (bench.setF F.MTX_STAT_STATE 2 1)) (ready_setF _ F.MTX_STAT_STATE 2 1 (by decide) bench_ready)
    rfl rfl rfl)

theorem wit_LampsAndMatrices_4 : ∃ (s : State) (rails : List Nat) (volts : List (Nat × Nat × Nat)) (k : Fin 4),
    s.blk.Ready ∧ s.blk.getF F.MTX_STAT_STATE k = 1 :=
  ⟨{ blk := tb66 }, ([50, 50, 50, 50] : List Nat), ([] : List (Nat × Nat × Nat)), (2 : Fin 4), tb66_ready, by
    decide +kernel⟩

def tb67 : Block :=
  ({ (bench.setF F.MTX_STAT_STATE 2 1) with lmp := { bench.lmp with port := [(2, { scanned := true })] } } : Block)
theorem tb67_ready : tb67.Ready :=
  (ready_congr (b := (bench.setF F.MTX_STAT_STATE 2 1)) (ready_setF _ F.MTX_STAT_STATE 2 1 (by decide) bench_ready)
    rfl rfl rfl)

theorem wit_LampsAndMatrices_5 : ∃ (s : State) (k : Fin 4), s.blk.Ready ∧ s.blk.getF F.MTX_STAT_STATE k = 1 ∧
    (s.blk.mtx k).scanned = true :=
  ⟨{ blk := tb67 }, (2 : Fin 4), tb67_ready, by decide +kernel⟩

def tb68 : Block :=
  ((bench.setF F.MTX_STAT_STATE 2 1).setF F.MTX_VMX_VSET 2 50)
theorem tb68_ready : tb68.Ready :=
  (ready_setF _ F.MTX_VMX_VSET 2 50 (by decide) (ready_setF _ F.MTX_STAT_STATE 2 1 (by decide) bench_ready))

theorem wit_LampsAndMatrices_6 : ∃ (s : State) (k : Fin 4) (vout : Nat), s.blk.Ready ∧ s.blk.getF F.MTX_STAT_STATE k
    = 1 ∧ (vout * 10 < s.blk.getF F.MTX_VMX_VSET k * 9 ∨ s.blk.getF F.MTX_VMX_VSET k * 11 < vout * 10) :=
  ⟨{ blk := tb68 }, (2 : Fin 4), (20 : Nat), tb68_ready, by decide +kernel⟩

theorem wit_LampsAndMatrices_7 : ∃ (s : State) (k : Fin 4) (i : Fin 16) (ma : Nat), s.blk.Ready ∧ s.blk.getF
    F.MTX_STAT_STATE k = 1 ∧ 6000 < ma ∧ s.blk.lineOff k i = false :=
  ⟨{ blk := tb65 }, (2 : Fin 4), (3 : Fin 16), (7000 : Nat), tb65_ready, by decide +kernel⟩

theorem wit_LampsAndMatrices_8 : ∃ (s : State) (k : Fin 4) (j : Fin 32) (ma : Nat), s.blk.Ready ∧ s.blk.getF
    F.MTX_STAT_STATE k = 1 ∧ 250 < ma ∧ s.blk.colOff k j = false :=
  ⟨{ blk := tb65 }, (2 : Fin 4), (3 : Fin 32), (700 : Nat), tb65_ready, by decide +kernel⟩

def tb69 : Block :=
  (bench.setF F.MTX_LFLT_LSHORT 2 0x1234)
theorem tb69_ready : tb69.Ready :=
  (ready_setF _ F.MTX_LFLT_LSHORT 2 0x1234 (by decide) bench_ready)

theorem wit_LampsAndMatrices_9 : ∃ (s : State) (who : Who) (k : Fin 4) (m : BitVec 16), s.blk.Ready ∧ s.blk.CanWrite
    who (R.MTX_LFLT.at k) :=
  ⟨{ blk := tb69 }, (.host : Who), (2 : Fin 4), (0xFF : BitVec 16), tb69_ready, by decide +kernel⟩

def tb70 : Block :=
  (bench.setF F.MTX_CFLT_CSHORT 2 0x1234)
theorem tb70_ready : tb70.Ready :=
  (ready_setF _ F.MTX_CFLT_CSHORT 2 0x1234 (by decide) bench_ready)

theorem wit_LampsAndMatrices_10 : ∃ (s : State) (who : Who) (k : Fin 4) (m : Word), s.blk.Ready ∧ s.blk.CanWrite who
    (R.MTX_CFLT.at k) :=
  ⟨{ blk := tb70 }, (.host : Who), (2 : Fin 4), (0xFF00 : Word), tb70_ready, by decide +kernel⟩

def tb71 : Block :=
  (bench.setF F.PXL_STAT_STATE 3 2)
theorem tb71_ready : tb71.Ready :=
  (ready_setF _ F.PXL_STAT_STATE 3 2 (by decide) bench_ready)

theorem wit_PixelDescriptors_0 : ∃ (s : State) (d : Desc), s.blk.Ready ∧ s.blk.Executes d ∧ s.blk.Single d ∧ d.ok
    0x50 32 8192 [0, 0, 0, 0x100FFFF, 0xFFFF] = true ∧ d.len % 32 = 0 ∧ Block.pxMask d ≠ [] ∧ ((Block.pieces 32 256
    (d.payload.take d.len)).any primBad) = false ∧ s.blk.pxHeld = false ∧ (∀ n ∈ Block.pxMask d, s.blk.pxMiss n
    (some false) = false) :=
  ⟨{ blk := tb71 },
    (({ src := .node 1 2, dws := [0x50, 0, 0x100, 0, 32, 0, 0, 0, 8, 5], payload := (List.replicate 32 0) }) :
    Desc), tb71_ready, by decide +kernel⟩

theorem wit_PixelDescriptors_1 : ∃ (s : State) (d : Desc), s.blk.Ready ∧ s.blk.Executes d ∧ s.blk.Single d ∧ d.ok
    0x51 36 576 [0, 0, 0, 0xF] = true ∧ d.len % 36 = 0 ∧ ((Block.pieces 36 16 (d.payload.take d.len)).all fun e =>
    decide (ofLe (e.take 4) ≤ 255) && !primBad (e.drop 4)) = true ∧ s.blk.pxHeld = false ∧ s.blk.pxMiss (bits (d.dw
    8) 3 0) (some false) = false :=
  ⟨{ blk := tb71 },
    (({ src := .node 1 2, dws := [0x51, 0, 0x100, 0, 36, 0, 0, 0, 3], payload := (List.replicate 36 0) }) : Desc),
    tb71_ready, by decide +kernel⟩

theorem wit_PixelDescriptors_2 : ∃ (s : State) (d : Desc), s.blk.Ready ∧ s.blk.Executes d ∧ s.blk.Single d ∧ d.ok
    0x52 0 0 [0, 0, 0, 0x100FFFF, 0x1FFFF, 0xFFFF] = true ∧ d.dw 9 ≤ 65536 ∧ Block.pxMask d ≠ [] ∧ s.blk.pxHeld =
    false ∧ (∀ n ∈ Block.pxMask d, s.blk.pxMiss n none = false ∧ (s.blk.pxp n).dim = false) :=
  ⟨{ blk := tb71 }, (({ src := .node 1 2, dws := [0x52, 0, 0, 0, 0, 0, 0, 0, 8, 1000, 20], payload := [] }) : Desc),
    tb71_ready, by decide +kernel⟩

def tb72 : Block :=
  ((bench.setF F.PXL_STAT_STATE 3 2).setF F.WEIR_STAT_STATE 0 2)
theorem tb72_ready : tb72.Ready :=
  (ready_setF _ F.WEIR_STAT_STATE 0 2 (by decide) (ready_setF _ F.PXL_STAT_STATE 3 2 (by decide) bench_ready))

theorem wit_PixelDescriptors_3 : ∃ (s : State) (d : Desc), s.blk.Ready ∧ s.blk.Executes d ∧ s.blk.Single d ∧ d.ok
    0x52 0 0 [0, 0, 0, 0x100FFFF, 0x1FFFF, 0xFFFF] = true ∧ d.dw 9 ≤ 65536 ∧ Block.pxMask d ≠ [] ∧ s.blk.pxHeld =
    true :=
  ⟨{ blk := tb72 }, (({ src := .node 1 2, dws := [0x52, 0, 0, 0, 0, 0, 0, 0, 8, 1000, 20], payload := [] }) : Desc),
    tb72_ready, by decide +kernel⟩

theorem wit_PixelDescriptors_4 : ∃ (s : State) (d : Desc), s.blk.Ready ∧ s.blk.Executes d ∧ s.blk.Single d ∧ d.ok
    0x53 4 65536 [0, 0, 0, 0, 0x3FFFFF] = true ∧ d.len % 4 = 0 ∧ d.dw 9 + d.len ≤ pxPoolSize ∧ d.len ≤
    d.payload.length ∧ s.blk.pxHeld = false ∧ s.blk.poolRead (d.dw 9) d.len = false ∧ s.blk.flag F.CATCH_INJ_ARM 0 =
    false ∧ d.src.isRing = false :=
  ⟨{ blk := bench }, (({ src := .node 1 2, dws := [0x53, 0, 0x100, 0, 4, 0, 0, 0, 0, 64], payload := [1, 2, 3, 4] })
    : Desc), bench_ready, by decide +kernel⟩

def tb73 : Block :=
  ({ bench with px := { bench.px with held := [{ src := .node 1 2, dws := [0x53, 0, 0x100, 0, 4, 0, 0, 0, 0, 64], payload := [1, 2, 3, 4] }] } }
    : Block)
theorem tb73_ready : tb73.Ready :=
  (ready_congr (b := bench) bench_ready rfl rfl rfl)

theorem wit_PixelDescriptors_5 : ∃ (s : State) (d : Desc), s.blk.Ready ∧ s.blk.px.held = [d] ∧ s.blk.Single d ∧
    d.src.isRing = false ∧ d.len ≤ d.payload.length ∧ s.blk.poolRead (d.dw 9) d.len = false ∧ s.blk.flag
    F.CATCH_INJ_ARM 0 = false :=
  ⟨{ blk := tb73 }, ({ src := .node 1 2, dws := [0x53, 0, 0x100, 0, 4, 0, 0, 0, 0, 64], payload := [1, 2, 3, 4] } :
    Desc), tb73_ready, by decide +kernel⟩

def tb74 : Block :=
  ((((bench.setF F.PXL_STAT_STATE 3 2).setF F.PXL_GEOM_WIDTH 3 16).setF F.PXL_GEOM_HEIGHT 3 8).setF F.PXL_CFG_MODE 3
    1)
theorem tb74_ready : tb74.Ready :=
  (ready_setF _ F.PXL_CFG_MODE 3 1 (by decide) (ready_setF _ F.PXL_GEOM_HEIGHT 3 8 (by decide) (ready_setF _
    F.PXL_GEOM_WIDTH 3 16 (by decide) (ready_setF _ F.PXL_STAT_STATE 3 2 (by decide) bench_ready))))

theorem wit_PixelDescriptors_6 : ∃ (s : State) (d : Desc), s.blk.Ready ∧ s.blk.Executes d ∧ s.blk.Single d ∧ d.ok
    0x54 4 65536 [0, 0, 0, 0xF] = true ∧ d.len = 2 * s.blk.pxCount (bits (d.dw 8) 3 0) ∧ s.blk.pxHeld = false ∧
    s.blk.pxMiss (bits (d.dw 8) 3 0) (some true) = false ∧ s.blk.hasSlot (bits (d.dw 8) 3 0) = true ∧ d.len ≤
    d.payload.length ∧ s.blk.flag F.CATCH_INJ_ARM 0 = false ∧ d.src.isRing = false :=
  ⟨{ blk := tb74 },
    (({ src := .node 1 2, dws := [0x54, 0, 0x100, 0, 256, 0, 0, 0, 3], payload := (List.replicate 256 9) }) : Desc),
    tb74_ready, by decide +kernel⟩

def tb75 : Block :=
  (((bench.setF F.PXL_STAT_STATE 3 2).setF F.PXL_GEOM_WIDTH 3 16).setF F.PXL_GEOM_HEIGHT 3 8)
theorem tb75_ready : tb75.Ready :=
  (ready_setF _ F.PXL_GEOM_HEIGHT 3 8 (by decide) (ready_setF _ F.PXL_GEOM_WIDTH 3 16 (by decide) (ready_setF _
    F.PXL_STAT_STATE 3 2 (by decide) bench_ready)))

theorem wit_PixelDescriptors_7 : ∃ (s : State) (d : Desc), s.blk.Ready ∧ s.blk.Executes d ∧ s.blk.Single d ∧ d.ok
    0x55 4 65536 [0, 0, 0, 0xF] = true ∧ d.len = s.blk.pxCount (bits (d.dw 8) 3 0) / 2 ∧ d.len ≤ d.payload.length ∧
    s.blk.pxHeld = false ∧ s.blk.isLocked = false ∧ s.blk.pxMiss (bits (d.dw 8) 3 0) none = false ∧ s.blk.flag
    F.CATCH_INJ_ARM 0 = false ∧ d.src.isRing = false :=
  ⟨{ blk := tb75 },
    (({ src := .node 1 2, dws := [0x55, 0, 0x100, 0, 64, 0, 0, 0, 3], payload := (List.replicate 64 9) }) : Desc),
    tb75_ready, by decide +kernel⟩

theorem wit_PixelDescriptors_8 : ∃ (s : State) (d : Desc), s.blk.Ready ∧ s.blk.Executes d ∧ s.blk.Single d ∧ (d.ok
    0x56 (64 + (if bit (d.dw 9) 0 then s.blk.pxCount (bits (d.dw 8) 3 0) / 4 else 0)) 65536 [0, 0, 0, 0xF, 1] =
    true) :=
  ⟨{ blk := bench }, (({ src := .node 1 2, dws := [0x56, 0, 0x100, 0, 64, 0, 0, 0, 3, 0], payload := [] }) : Desc),
    bench_ready, by decide +kernel⟩

def tb76 : Block :=
  (((bench.setF F.PXL_STAT_STATE 3 3).setF F.PXL_STAT_LAMPOT 3 1).setF F.PXL_STAT_ZONEMASK 3 0)
theorem tb76_ready : tb76.Ready :=
  (ready_setF _ F.PXL_STAT_ZONEMASK 3 0 (by decide) (ready_setF _ F.PXL_STAT_LAMPOT 3 1 (by decide) (ready_setF _
    F.PXL_STAT_STATE 3 3 (by decide) bench_ready)))

theorem wit_PixelDescriptors_9 : ∃ (s : State) (d : Desc), s.blk.Ready ∧ s.blk.Executes d ∧ s.blk.Single d ∧ d.ok
    0x57 0 0 [0, 0, 0, 0xFFFF, 7] = true ∧ Block.pxMask d ≠ [] ∧ s.blk.pxHeld = false ∧ (∀ n ∈ Block.pxMask d,
    s.blk.pxMiss n none = false) :=
  ⟨{ blk := tb76 }, (({ src := .node 1 2, dws := [0x57, 0, 0, 0, 0, 0, 0, 0, 8, 3], payload := [] }) : Desc),
    tb76_ready, by decide +kernel⟩

theorem wit_PixelDescriptors_10 : ∃ (s : State) (d : Desc), s.blk.Ready ∧ s.blk.Executes d ∧ d.ok 0x58 4 65536 [0,
    0, 0, 0xF] = true ∧ d.len = 2 * s.blk.pxCount (bits (d.dw 8) 3 0) ∧ s.blk.pxHeld = false ∧ s.blk.pxMiss (bits
    (d.dw 8) 3 0) none = false ∧ (s.blk.pxp (bits (d.dw 8) 3 0)).fsimg = none :=
  ⟨{ blk := tb75 },
    (({ src := .node 1 2, dws := [0x58, 0, 0x100, 0, 256, 0, 0, 0, 3], payload := List.replicate 256 7 }) : Desc),
    tb75_ready, by decide +kernel⟩

theorem wit_PixelPorts_0 : ∃ (s : State) (who : Who) (n : Fin 16), s.blk.Ready ∧ s.blk.CanWrite who (R.PXL_CFG.at n)
    ∧ s.blk.getF F.PXL_CFG_EN n = 0 ∧ (s.blk.flag F.PXL_CFG_MODE n = false ∨ ((List.range 16).filter fun m =>
    s.blk.flag F.PXL_CFG_EN m && s.blk.flag F.PXL_CFG_MODE m).length < 4) :=
  ⟨{ blk := bench }, (.host : Who), (3 : Fin 16), bench_ready, by decide +kernel⟩

def tb77 : Block :=
  ((bench.setF F.PXL_STAT_STATE 3 2).setF F.PXL_CFG_EN 3 1)
theorem tb77_ready : tb77.Ready :=
  (ready_setF _ F.PXL_CFG_EN 3 1 (by decide) (ready_setF _ F.PXL_STAT_STATE 3 2 (by decide) bench_ready))

theorem wit_PixelPorts_1 : ∃ (s : State) (who : Who) (n : Fin 16), s.blk.Ready ∧ s.blk.CanWrite who (R.PXL_CFG.at n)
    ∧ s.blk.getF F.PXL_CFG_EN n = 1 :=
  ⟨{ blk := tb77 }, (.host : Who), (3 : Fin 16), tb77_ready, by decide +kernel⟩

def tb78 : Block :=
  ({ (bench.setF F.PXL_STAT_STATE 3 2) with px := { bench.px with port := [(3, { ready := true, cycle := 9 })] } } :
    Block)
theorem tb78_ready : tb78.Ready :=
  (ready_congr (b := (bench.setF F.PXL_STAT_STATE 3 2)) (ready_setF _ F.PXL_STAT_STATE 3 2 (by decide) bench_ready)
    rfl rfl rfl)

theorem wit_PixelPorts_2 : ∃ (s : State) (n : Fin 16), s.blk.Ready ∧ s.blk.pxUp n = true ∧ (s.blk.pxp n).render =
    none :=
  ⟨{ blk := tb78 }, (3 : Fin 16), tb78_ready, by decide +kernel⟩

def tb79 : Block :=
  ({ (((bench.setF F.PXL_STAT_STATE 3 2).setF F.PXL_GEOM_WIDTH 3 2).setF F.PXL_GEOM_HEIGHT 3 1) with px := { bench.px with port := [(3, { render := some { stream := some (some (pxStream 0 0)), level := 65536 } })] } }
    : Block)
theorem tb79_ready : tb79.Ready :=
  (ready_congr (b := (((bench.setF F.PXL_STAT_STATE 3 2).setF F.PXL_GEOM_WIDTH 3 2).setF F.PXL_GEOM_HEIGHT 3 1))
    (ready_setF _ F.PXL_GEOM_HEIGHT 3 1 (by decide) (ready_setF _ F.PXL_GEOM_WIDTH 3 2 (by decide) (ready_setF _
    F.PXL_STAT_STATE 3 2 (by decide) bench_ready))) rfl rfl rfl)

theorem wit_PixelPorts_3 : ∃ (s : State) (n : Fin 16) (load : Nat) (tooMuch : Bool) (r : Render), s.blk.Ready ∧
    (s.blk.pxp n).render = some r ∧ s.blk.flag F.CATCH_INJ_ARM 0 = false :=
  ⟨{ blk := tb79 }, (3 : Fin 16), (50 : Nat), (false : Bool),
    ({ stream := some (some (pxStream 0 0)), level := 65536 } : Render), tb79_ready, by decide +kernel⟩

theorem wit_PixelPorts_4 : ∃ (s : State) (n : Fin 16) (back : BackSeg), s.blk.Ready ∧ back.ok = true ∧ s.blk.pxUp n
    = true ∧ (s.blk.pxp n).cmds = [] ∧ (s.blk.pxp n).cycle < s.blk.pxCycles n :=
  ⟨{ blk := tb75 }, (3 : Fin 16), (⟨List.replicate 7 1, BitVec.ofNat 8 (crc8 (List.replicate 7 1))⟩ : BackSeg),
    tb75_ready, by decide +kernel⟩

def tb80 : Block :=
  ({ bench with px := { bench.px with port := [(3, { cmds := [[9]] })] } } : Block)
theorem tb80_ready : tb80.Ready :=
  (ready_congr (b := bench) bench_ready rfl rfl rfl)

theorem wit_PixelPorts_5 : ∃ (s : State) (n : Fin 16) (back : BackSeg) (c : List Byte) (l : List (List Byte)),
    s.blk.Ready ∧ s.blk.pxUp n = false ∧ (s.blk.pxp n).cmds = c :: l :=
  ⟨{ blk := tb80 }, (3 : Fin 16), (⟨[], 0⟩ : BackSeg), ([9] : List Byte), ([] : List (List Byte)), tb80_ready, by
    decide +kernel⟩

def tb81 : Block :=
  ((({ (bench.setF F.PXL_LINK_LSTATE 3 4) with px := { bench.px with port := [(3, { bad := 7 })] } } : Block).setF
    F.PXL_GEOM_WIDTH 3 16).setF F.PXL_GEOM_HEIGHT 3 8)
theorem tb81_ready : tb81.Ready :=
  (ready_setF _ F.PXL_GEOM_HEIGHT 3 8 (by decide) (ready_setF _ F.PXL_GEOM_WIDTH 3 16 (by decide) (ready_congr (b :=
    (bench.setF F.PXL_LINK_LSTATE 3 4)) (ready_setF _ F.PXL_LINK_LSTATE 3 4 (by decide) bench_ready) rfl rfl rfl)))

theorem wit_PixelPorts_6 : ∃ (s : State) (n : Fin 16) (back : BackSeg), s.blk.Ready ∧ back.ok = false ∧ s.blk.getF
    F.PXL_LINK_LSTATE n ∈ [1, 2, 3, 4] ∧ (s.blk.pxp n).bad < 249 :=
  ⟨{ blk := tb81 }, (3 : Fin 16), (⟨[], 0⟩ : BackSeg), tb81_ready, by decide +kernel⟩

def tb82 : Block :=
  (bench.setF F.PXL_LINK_LSTATE 3 1)
theorem tb82_ready : tb82.Ready :=
  (ready_setF _ F.PXL_LINK_LSTATE 3 1 (by decide) bench_ready)

theorem wit_PixelLink_0 : ∃ (s : State) (n : Fin 16), s.blk.Ready ∧ s.blk.getF F.PXL_LINK_LSTATE n = 1 :=
  ⟨{ blk := tb82 }, (3 : Fin 16), tb82_ready, by decide +kernel⟩

def tb83 : Block :=
  (bench.setF F.PXL_LINK_LSTATE 3 2)
theorem tb83_ready : tb83.Ready :=
  (ready_setF _ F.PXL_LINK_LSTATE 3 2 (by decide) bench_ready)

theorem wit_PixelLink_1 : ∃ (s : State) (n : Fin 16) (bs : List Byte), s.blk.Ready ∧ s.blk.getF F.PXL_LINK_LSTATE n
    = 2 ∧ ((s.blk.pxp n).info ++ bs.take 6).length < 48 :=
  ⟨{ blk := tb83 }, (3 : Fin 16), ([1, 2, 3, 4, 5, 6] : List Byte), tb83_ready, by decide +kernel⟩

def tb84 : Block :=
  ({ (bench.setF F.PXL_LINK_LSTATE 3 2) with px := { bench.px with port := [(3, { info := [1, 0, 16, 0, 8, 0] ++ List.replicate 36 0 })] } }
    : Block)
theorem tb84_ready : tb84.Ready :=
  (ready_congr (b := (bench.setF F.PXL_LINK_LSTATE 3 2)) (ready_setF _ F.PXL_LINK_LSTATE 3 2 (by decide)
    bench_ready) rfl rfl rfl)

theorem wit_PixelLink_2 : ∃ (s : State) (n : Fin 16) (bs : List Byte), s.blk.Ready ∧ s.blk.getF F.PXL_LINK_LSTATE n
    = 2 ∧ 48 ≤ ((s.blk.pxp n).info ++ bs.take 6).length ∧ Block.geomOk (halfAt ((s.blk.pxp n).info ++ bs.take 6) 2)
    (halfAt ((s.blk.pxp n).info ++ bs.take 6) 4) = true :=
  ⟨{ blk := tb84 }, (3 : Fin 16), ([1, 2, 3, 4, 5, 6] : List Byte), tb84_ready, by decide +kernel⟩

def tb85 : Block :=
  (((bench.setF F.PXL_GEOM_WIDTH 3 16).setF F.PXL_GEOM_HEIGHT 3 8).setF F.PXL_LINK_LSTATE 3 3)
theorem tb85_ready : tb85.Ready :=
  (ready_setF _ F.PXL_LINK_LSTATE 3 3 (by decide) (ready_setF _ F.PXL_GEOM_HEIGHT 3 8 (by decide) (ready_setF _
    F.PXL_GEOM_WIDTH 3 16 (by decide) bench_ready)))

theorem wit_PixelLink_3 : ∃ (s : State) (n : Fin 16) (bs : List Byte), s.blk.Ready ∧ s.blk.getF F.PXL_LINK_LSTATE n
    = 3 ∧ ((s.blk.pxp n).cal ++ bs.take 6).length < 2 * s.blk.pxCount n + 4 :=
  ⟨{ blk := tb85 }, (3 : Fin 16), ([1, 2, 3, 4, 5, 6] : List Byte), tb85_ready, by decide +kernel⟩

def tb86 : Block :=
  (((bench.setF F.PXL_LINK_LSTATE 3 3).setF F.PXL_GEOM_WIDTH 3 1).setF F.PXL_GEOM_HEIGHT 3 1)
theorem tb86_ready : tb86.Ready :=
  (ready_setF _ F.PXL_GEOM_HEIGHT 3 1 (by decide) (ready_setF _ F.PXL_GEOM_WIDTH 3 1 (by decide) (ready_setF _
    F.PXL_LINK_LSTATE 3 3 (by decide) bench_ready)))

theorem wit_PixelLink_4 : ∃ (s : State) (n : Fin 16) (bs : List Byte), s.blk.Ready ∧ s.blk.getF F.PXL_LINK_LSTATE n
    = 3 ∧ 2 * s.blk.pxCount n + 4 ≤ ((s.blk.pxp n).cal ++ bs.take 6).length ∧ crc32 (((s.blk.pxp n).cal ++ bs.take
    6).take (2 * s.blk.pxCount n)) = ofLe ((((s.blk.pxp n).cal ++ bs.take 6).drop (2 * s.blk.pxCount n)).take 4) ∧
    s.blk.flag F.CATCH_INJ_ARM 0 = false :=
  ⟨{ blk := tb86 }, (3 : Fin 16), (([1, 2] ++ leBytes 4 (crc32 [1, 2])) : List Byte), tb86_ready, by decide +kernel⟩

def tb87 : Block :=
  ((((bench.setF F.PXL_STAT_STATE 3 2).setF F.PXL_GEOM_WIDTH 3 16).setF F.PXL_GEOM_HEIGHT 3 8).setF
    F.PXL_LINK_LSTATE 3 4)
theorem tb87_ready : tb87.Ready :=
  (ready_setF _ F.PXL_LINK_LSTATE 3 4 (by decide) (ready_setF _ F.PXL_GEOM_HEIGHT 3 8 (by decide) (ready_setF _
    F.PXL_GEOM_WIDTH 3 16 (by decide) (ready_setF _ F.PXL_STAT_STATE 3 2 (by decide) bench_ready))))

theorem wit_PixelLink_5 : ∃ (s : State) (n : Fin 16) (c : BitVec 16) (flags : Word), s.blk.Ready ∧ s.blk.getF
    F.PXL_LINK_LSTATE n ∈ [1, 2, 3, 4] ∧ 16 * c.toNat < s.blk.pxCount n ∧ s.blk.flag F.CATCH_INJ_ARM 0 = false :=
  ⟨{ blk := tb87 }, (3 : Fin 16), (2 : BitVec 16), (0x12345678 : Word), tb87_ready, by decide +kernel⟩

theorem wit_PixelLink_6 : ∃ (s : State) (n : Fin 16) (x : BitVec 16), s.blk.Ready ∧ x ≠ 0x8000#16 :=
  ⟨{ blk := bench }, (3 : Fin 16), (2000 : BitVec 16), bench_ready, by decide +kernel⟩

theorem wit_PixelLink_7 : ∃ (s : State) (n : Fin 16) (errs : BitVec 16) (flags : Byte), s.blk.Ready :=
  ⟨{ blk := bench }, (3 : Fin 16), (20 : BitVec 16), (1 : Byte), bench_ready⟩

def tb88 : Block :=
  ({ bench with px := { bench.px with port := [(3, { fsimg := some { src := .node 1 2, dws := [0x58], payload := [] } })] } }
    : Block)
theorem tb88_ready : tb88.Ready :=
  (ready_congr (b := bench) bench_ready rfl rfl rfl)

theorem wit_PixelLink_8 : ∃ (s : State) (n : Fin 16) (failed : Byte) (d : Desc), s.blk.Ready ∧ (s.blk.pxp n).fsimg =
    some d ∧ s.blk.Single d :=
  ⟨{ blk := tb88 }, (3 : Fin 16), (0 : Byte), ({ src := .node 1 2, dws := [0x58], payload := [] } : Desc),
    tb88_ready, by decide +kernel⟩

def tb89 : Block :=
  ({ ((bench.setF F.PXL_LINK_LSTATE 3 1).setF F.PXL_STAT_STATE 3 1) with px := { bench.px with port := [(3, { fails := 2 })] } }
    : Block)
theorem tb89_ready : tb89.Ready :=
  (ready_congr (b := ((bench.setF F.PXL_LINK_LSTATE 3 1).setF F.PXL_STAT_STATE 3 1)) (ready_setF _ F.PXL_STAT_STATE
    3 1 (by decide) (ready_setF _ F.PXL_LINK_LSTATE 3 1 (by decide) bench_ready)) rfl rfl rfl)

theorem wit_PixelLink_9 : ∃ (s : State) (n : Fin 16), s.blk.Ready ∧ s.blk.getF F.PXL_LINK_LSTATE n = 1 :=
  ⟨{ blk := tb89 }, (3 : Fin 16), tb89_ready, by decide +kernel⟩

def tb90 : Block :=
  ({ (bench.setF F.PXL_STAT_STATE 3 1) with px := { bench.px with port := [(3, { pause := true, fails := 1 })] } } :
    Block)
theorem tb90_ready : tb90.Ready :=
  (ready_congr (b := (bench.setF F.PXL_STAT_STATE 3 1)) (ready_setF _ F.PXL_STAT_STATE 3 1 (by decide) bench_ready)
    rfl rfl rfl)

theorem wit_PixelLink_10 : ∃ (s : State) (n : Fin 16), s.blk.Ready ∧ s.blk.pxState n = 1 ∧ (s.blk.pxp n).pause =
    true :=
  ⟨{ blk := tb90 }, (3 : Fin 16), tb90_ready, by decide +kernel⟩

def tb91 : Block :=
  ({ (((bench.setF F.PXL_STAT_STATE 3 2).setF F.PXL_GEOM_WIDTH 3 16).setF F.PXL_GEOM_HEIGHT 3 8) with px := { bench.px with port := [(3, { bad := 249 })] } }
    : Block)
theorem tb91_ready : tb91.Ready :=
  (ready_congr (b := (((bench.setF F.PXL_STAT_STATE 3 2).setF F.PXL_GEOM_WIDTH 3 16).setF F.PXL_GEOM_HEIGHT 3 8))
    (ready_setF _ F.PXL_GEOM_HEIGHT 3 8 (by decide) (ready_setF _ F.PXL_GEOM_WIDTH 3 16 (by decide) (ready_setF _
    F.PXL_STAT_STATE 3 2 (by decide) bench_ready))) rfl rfl rfl)

theorem wit_PixelLink_11 : ∃ (s : State) (n : Fin 16), s.blk.Ready ∧ s.blk.pxState n = 2 ∧ 249 ≤ (s.blk.pxp n).bad ∧
    s.blk.flag F.CATCH_INJ_ARM 0 = false :=
  ⟨{ blk := tb91 }, (3 : Fin 16), tb91_ready, by decide +kernel⟩

def tb92 : Block :=
  (bench.wr R.DIO_DICHG 0 (5))
theorem tb92_ready : tb92.Ready :=
  (ready_wr _ R.DIO_DICHG 0 (5) (by decide) bench_ready)

theorem wit_FieldDescriptors_0 : ∃ (s : State) (d : Desc), s.blk.Ready ∧ s.blk.Executes d ∧ s.blk.Single d ∧ d.ok
    0x60 (16 + 8 * (Block.diMask d).length) 65536 [0xFFFFFFFF, 0xFFFFFFFF, 0, 1] = true :=
  ⟨{ blk := tb92 }, (({ src := .node 1 2, dws := [0x60, 0, 0x100, 0, 24, 0x20, 0, 0, 1], payload := [] }) : Desc),
    tb92_ready, by decide +kernel⟩

def tb93 : Block :=
  (bench.setF F.DIO_DOCFG_EN 5 1)
theorem tb93_ready : tb93.Ready :=
  (ready_setF _ F.DIO_DOCFG_EN 5 1 (by decide) bench_ready)

theorem wit_FieldDescriptors_1 : ∃ (s : State) (d : Desc), s.blk.Ready ∧ s.blk.Executes d ∧ d.ok 0x61 0 0 [0xFFFF,
    0xFFFF, 0, 0x100] = true ∧ (Block.outMask (d.dw 5)) ≠ [] ∧ d.dw 6 &&& d.dw 5 = d.dw 6 ∧ (∀ a ∈ ((Block.outMask
    (d.dw 5)).map fun m => DieAct.out m (bit (d.dw 6) m)), s.blk.missOf a = .no) :=
  ⟨{ blk := tb93 }, (({ src := .node 1 2, dws := [0x61, 0, 0, 0, 0, 0x20, 0x20, 0, 0], payload := [] }) : Desc),
    tb93_ready, by decide +kernel⟩

def tb94 : Block :=
  (bench.setF F.DIO_SVCFG_EN 1 1)
theorem tb94_ready : tb94.Ready :=
  (ready_setF _ F.DIO_SVCFG_EN 1 1 (by decide) bench_ready)

theorem wit_FieldDescriptors_2 : ∃ (s : State) (d : Desc), s.blk.Ready ∧ s.blk.Executes d ∧ d.ok 0x62 0 0 [0xF, 0,
    0, 1] = true ∧ (Block.svMask (d.dw 5)) ≠ [] ∧ (∀ a ∈ ((Block.svMask (d.dw 5)).map fun k => DieAct.supply k (bit
    (d.dw 8) 0)), s.blk.missOf a = .no) :=
  ⟨{ blk := tb94 }, (({ src := .node 1 2, dws := [0x62, 0, 0, 0, 0, 2, 0, 0, 1], payload := [] }) : Desc),
    tb94_ready, by decide +kernel⟩

def tb95 : Block :=
  ((bench.setF F.DIO_DISTAT_OW 5 1).wr R.DIO_DICHG 0 (0x20))
theorem tb95_ready : tb95.Ready :=
  (ready_wr _ R.DIO_DICHG 0 (0x20) (by decide) (ready_setF _ F.DIO_DISTAT_OW 5 1 (by decide) bench_ready))

theorem wit_FieldDescriptors_3 : ∃ (s : State) (d : Desc), s.blk.Ready ∧ s.blk.Executes d ∧ s.blk.Single d ∧ d.ok
    0x63 0 0 [0xFFFFFFFF, 0xFFFFFFFF, 0xFFFFF, 3] = true ∧ Block.diMask d ≠ [] ∧ bits (d.dw 7) 19 0 = 0 ∧ bit (d.dw
    8) 0 = true :=
  ⟨{ blk := tb95 }, (({ src := .node 1 2, dws := [0x63, 0, 0, 0, 0, 0x20, 0, 0, 1], payload := [] }) : Desc),
    tb95_ready, by decide +kernel⟩

def tb96 : Block :=
  ({ ((((bench.setF F.DIO_DOCFG_EN 5 1).setF F.DIO_SVCFG_EN 1 1).setF F.DIO_DOSTAT_OW 5 1).setF F.DIO_SVSTAT_UV 1 1) with dio := { bench.dio with out := [(5, { latch := true })] } }
    : Block)
theorem tb96_ready : tb96.Ready :=
  (ready_congr (b := ((((bench.setF F.DIO_DOCFG_EN 5 1).setF F.DIO_SVCFG_EN 1 1).setF F.DIO_DOSTAT_OW 5 1).setF
    F.DIO_SVSTAT_UV 1 1)) (ready_setF _ F.DIO_SVSTAT_UV 1 1 (by decide) (ready_setF _ F.DIO_DOSTAT_OW 5 1 (by
    decide) (ready_setF _ F.DIO_SVCFG_EN 1 1 (by decide) (ready_setF _ F.DIO_DOCFG_EN 5 1 (by decide)
    bench_ready)))) rfl rfl rfl)

theorem wit_FieldDescriptors_4 : ∃ (s : State) (d : Desc), s.blk.Ready ∧ s.blk.Executes d ∧ s.blk.Single d ∧ d.ok
    0x63 0 0 [0xFFFFFFFF, 0xFFFFFFFF, 0xFFFFF, 3] = true ∧ Block.diMask d = [] ∧ (Block.outMask (d.dw 7) ≠ [] ∨
    Block.svMask (bits (d.dw 7) 19 16) ≠ []) ∧ (∀ m ∈ Block.outMask (d.dw 7), s.blk.getF F.DIO_DOCFG_EN m ≠ 0 ∧
    Tab.get false s.blk.pw.linkFail (m / 4) = false) ∧ (∀ k ∈ Block.svMask (bits (d.dw 7) 19 16), s.blk.getF
    F.DIO_SVCFG_EN k ≠ 0 ∧ Tab.get false s.blk.pw.linkFail k = false) :=
  ⟨{ blk := tb96 }, (({ src := .node 1 2, dws := [0x63, 0, 0, 0, 0, 0, 0, 0x20020, 3], payload := [] }) : Desc),
    tb96_ready, by decide +kernel⟩

theorem wit_FieldDescriptors_5 : ∃ (s : State) (d : Desc), s.blk.Ready ∧ s.blk.Executes d ∧ s.blk.Single d ∧ d.ok
    0x64 160 65536 [] = true :=
  ⟨{ blk := bench }, (({ src := .node 1 2, dws := [0x64, 0, 0x100, 0, 160], payload := [] }) : Desc), bench_ready,
    by decide +kernel⟩

def tb97 : Block :=
  (((bench.wr R.DIO_DIFLT 5 (0x00060204)).setF F.DIO_DICFG_MODE 5 1).setF F.DIO_DICFG_EN 5 0)
theorem tb97_ready : tb97.Ready :=
  (ready_setF _ F.DIO_DICFG_EN 5 0 (by decide) (ready_setF _ F.DIO_DICFG_MODE 5 1 (by decide) (ready_wr _
    R.DIO_DIFLT 5 (0x00060204) (by decide) bench_ready)))

theorem wit_FieldInputs_0 : ∃ (s : State) (who : Who) (n : Fin 64), s.blk.Ready ∧ s.blk.CanWrite who (R.DIO_DICFG.at
    n) ∧ s.blk.getF F.DIO_DICFG_EN n = 0 ∧ s.blk.getF F.DIO_DICFG_MODE n ≤ 4 ∧ s.blk.getF F.DIO_DIFLT_RSTTH n <
    s.blk.getF F.DIO_DIFLT_SETTH n ∧ s.blk.getF F.DIO_DIFLT_SETTH n ≤ s.blk.getF F.DIO_DIFLT_CMAX n ∧ s.blk.wetSum n
    (s.blk.rd R.DIO_DICFG n) ≤ 20000 :=
  ⟨{ blk := tb97 }, (.host : Who), (5 : Fin 64), tb97_ready, by decide +kernel⟩

def tb98 : Block :=
  (bench.setF F.DIO_DICFG_EN 5 1)
theorem tb98_ready : tb98.Ready :=
  (ready_setF _ F.DIO_DICFG_EN 5 1 (by decide) bench_ready)

theorem wit_FieldInputs_1 : ∃ (s : State) (who : Who) (n : Fin 64), s.blk.Ready ∧ s.blk.CanWrite who (R.DIO_DICFG.at
    n) :=
  ⟨{ blk := tb98 }, (.host : Who), (5 : Fin 64), tb98_ready, by decide +kernel⟩

def tb99 : Block :=
  ({ ((bench.setF F.DIO_DICFG_EN 5 1).setF F.DIO_DIFLT_CNT 5 3) with dio := { bench.dio with di := [(5, { cfg := 4, flt := 0x00060204, first := false })] } }
    : Block)
theorem tb99_ready : tb99.Ready :=
  (ready_congr (b := ((bench.setF F.DIO_DICFG_EN 5 1).setF F.DIO_DIFLT_CNT 5 3)) (ready_setF _ F.DIO_DIFLT_CNT 5 3
    (by decide) (ready_setF _ F.DIO_DICFG_EN 5 1 (by decide) bench_ready)) rfl rfl rfl)

theorem wit_FieldInputs_2 : ∃ (s : State) (n : Fin 64) (mv : Int), s.blk.Ready ∧ s.blk.getF F.DIO_DICFG_EN n = 1 ∧
    (s.blk.direc n).skip = false ∧ (s.blk.direc n).first = false :=
  ⟨{ blk := tb99 }, (5 : Fin 64), (12000 : Int), tb99_ready, by decide +kernel⟩

def tb100 : Block :=
  ({ ((bench.setF F.DIO_DICFG_EN 5 1).setF F.DIO_DICFG_OWEN 5 1) with dio := { bench.dio with di := [(5, { cfg := 2, opens := 1 })] } }
    : Block)
theorem tb100_ready : tb100.Ready :=
  (ready_congr (b := ((bench.setF F.DIO_DICFG_EN 5 1).setF F.DIO_DICFG_OWEN 5 1)) (ready_setF _ F.DIO_DICFG_OWEN 5 1
    (by decide) (ready_setF _ F.DIO_DICFG_EN 5 1 (by decide) bench_ready)) rfl rfl rfl)

theorem wit_FieldInputs_3 : ∃ (s : State) (n : Fin 64) (mv : Int), s.blk.Ready ∧ s.blk.getF F.DIO_DICFG_EN n = 1 ∧
    s.blk.flag F.DIO_DICFG_OWEN n = true ∧ Block.cfgMode (s.blk.direc n).cfg = 1 ∧ 4000 < mv :=
  ⟨{ blk := tb100 }, (5 : Fin 64), (5000 : Int), tb100_ready, by decide +kernel⟩

theorem wit_FieldInputs_4 : ∃ (s : State) (n : Fin 64) (ua : Nat), s.blk.Ready ∧ 5000 < ua :=
  ⟨{ blk := tb98 }, (5 : Fin 64), (6000 : Nat), tb98_ready, by decide +kernel⟩

theorem wit_FieldInputs_5 : ∃ (s : State) (g : Fin 8) (tj : Int) (n : Fin 64), s.blk.Ready ∧ 160 * 16 < tj ∧ n.val /
    8 = g.val ∧ s.blk.getF F.DIO_DICFG_EN n = 1 :=
  ⟨{ blk := tb98 }, (0 : Fin 8), (2600 : Int), (5 : Fin 64), tb98_ready, by decide +kernel⟩

theorem wit_FieldInputs_6 : ∃ (s : State) (n : Fin 64) (vin : BitVec 16), s.blk.Ready ∧ s.blk.pg 12 = true :=
  ⟨{ blk := bench }, (5 : Fin 64), (600 : BitVec 16), bench_ready, by decide +kernel⟩

theorem wit_FieldOutputs_0 : ∃ (s : State) (who : Who) (m : Fin 16), s.blk.Ready ∧ s.blk.CanWrite who
    (R.DIO_DOCFG.at m) ∧ s.blk.getF F.DIO_DOCFG_EN m = 0 ∧ s.blk.dioFeedOff = false ∧ (s.blk.dorec m).therm = false
    :=
  ⟨{ blk := bench }, (.host : Who), (5 : Fin 16), bench_ready, by decide +kernel⟩

def tb101 : Block :=
  (((bench.setF F.DIO_DOCFG_EN 5 1).setF F.DIO_DOCMD_ON 5 1).setF F.DIO_DOSTAT_STATE 5 2)
theorem tb101_ready : tb101.Ready :=
  (ready_setF _ F.DIO_DOSTAT_STATE 5 2 (by decide) (ready_setF _ F.DIO_DOCMD_ON 5 1 (by decide) (ready_setF _
    F.DIO_DOCFG_EN 5 1 (by decide) bench_ready)))

theorem wit_FieldOutputs_1 : ∃ (s : State) (who : Who) (m : Fin 16), s.blk.Ready ∧ s.blk.CanWrite who
    (R.DIO_DOCFG.at m) :=
  ⟨{ blk := tb101 }, (.host : Who), (5 : Fin 16), tb101_ready, by decide +kernel⟩

theorem wit_FieldOutputs_2 : ∃ (s : State) (m : Fin 16), s.blk.Ready ∧ s.blk.getF F.DIO_DOCFG_EN m = 1 :=
  ⟨{ blk := tb101 }, (5 : Fin 16), tb101_ready, by decide +kernel⟩

theorem wit_FieldOutputs_3 : ∃ (s : State) (m : Fin 17), s.blk.Ready ∧ m.val < 16 ∧ s.blk.doConducts m = true :=
  ⟨{ blk := tb101 }, (5 : Fin 17), tb101_ready, by decide +kernel⟩

def tb102 : Block :=
  ({ (((bench.setF F.DIO_DOCFG_EN 5 1).setF F.DIO_DOCMD_ON 5 1).setF F.DIO_DOSTAT_STATE 5 2) with dio := { bench.dio with out := [(5, { wait := true })] } }
    : Block)
theorem tb102_ready : tb102.Ready :=
  (ready_congr (b := (((bench.setF F.DIO_DOCFG_EN 5 1).setF F.DIO_DOCMD_ON 5 1).setF F.DIO_DOSTAT_STATE 5 2))
    (ready_setF _ F.DIO_DOSTAT_STATE 5 2 (by decide) (ready_setF _ F.DIO_DOCMD_ON 5 1 (by decide) (ready_setF _
    F.DIO_DOCFG_EN 5 1 (by decide) bench_ready))) rfl rfl rfl)

theorem wit_FieldOutputs_4 : ∃ (s : State) (m : Fin 17), s.blk.Ready ∧ m.val < 16 ∧ (s.blk.dorec m).wait = true ∧
    s.blk.getF F.DIO_DOCFG_EN m = 1 ∧ s.blk.dioFeedOff = false ∧ (s.blk.dorec m).therm = false ∧ (s.blk.dorec
    m).safe = false :=
  ⟨{ blk := tb102 }, (5 : Fin 17), tb102_ready, by decide +kernel⟩

theorem wit_FieldOutputs_5 : ∃ (s : State) (m : Fin 17) (tj : Int), s.blk.Ready ∧ m.val < 16 ∧ (s.blk.dorec m).therm
    = false ∧ 175 * 16 ≤ tj ∧ s.blk.getF F.DIO_DOCFG_EN m = 1 ∧ s.blk.dioFeedOff = false :=
  ⟨{ blk := tb101 }, (5 : Fin 17), (2800 : Int), tb101_ready, by decide +kernel⟩

def tb103 : Block :=
  ({ bench with acs := { bench.acs with engen := { bench.acs.engen with on := true } } } : Block)
theorem tb103_ready : tb103.Ready :=
  (ready_congr (b := bench) bench_ready rfl rfl rfl)

theorem wit_FieldOutputs_6 : ∃ (s : State) (m : Fin 17), s.blk.Ready ∧ m.val = 16 ∧ s.blk.engenState = 2 :=
  ⟨{ blk := tb103 }, (16 : Fin 17), tb103_ready, by decide +kernel⟩

def tb104 : Block :=
  ({ bench with acs := { bench.acs with engen := { on := true, wait := true } } } : Block)
theorem tb104_ready : tb104.Ready :=
  (ready_congr (b := bench) bench_ready rfl rfl rfl)

theorem wit_FieldOutputs_7 : ∃ (s : State) (m : Fin 17), s.blk.Ready ∧ m.val = 16 ∧ s.blk.engenState = 4 :=
  ⟨{ blk := tb104 }, (16 : Fin 17), tb104_ready, by decide +kernel⟩

theorem wit_FieldOutputs_8 : ∃ (s : State) (m : Fin 17) (tj : Int), s.blk.Ready ∧ m.val = 16 ∧ s.blk.acs.engen.therm
    = false ∧ 175 * 16 ≤ tj ∧ s.blk.dioFeedOff = false :=
  ⟨{ blk := tb103 }, (16 : Fin 17), (2800 : Int), tb103_ready, by decide +kernel⟩

def tb105 : Block :=
  ((((bench.setF F.DIO_DOCFG_EN 5 1).setF F.DIO_DOCMD_ON 5 1).setF F.DIO_DOSTAT_STATE 5 2).setF F.DIO_DOCFG_OWEN 5
    1)
theorem tb105_ready : tb105.Ready :=
  (ready_setF _ F.DIO_DOCFG_OWEN 5 1 (by decide) (ready_setF _ F.DIO_DOSTAT_STATE 5 2 (by decide) (ready_setF _
    F.DIO_DOCMD_ON 5 1 (by decide) (ready_setF _ F.DIO_DOCFG_EN 5 1 (by decide) bench_ready))))

theorem wit_FieldOutputs_9 : ∃ (s : State) (m : Fin 16) (ua : Nat), s.blk.Ready ∧ s.blk.doConducts m = true ∧
    s.blk.flag F.DIO_DOCFG_OWEN m = true ∧ ua < 2000 :=
  ⟨{ blk := tb105 }, (5 : Fin 16), (100 : Nat), tb105_ready, by decide +kernel⟩

def tb106 : Block :=
  ((bench.setF F.DIO_DOCFG_EN 5 1).setF F.DIO_DOCFG_OWEN 5 1)
theorem tb106_ready : tb106.Ready :=
  (ready_setF _ F.DIO_DOCFG_OWEN 5 1 (by decide) (ready_setF _ F.DIO_DOCFG_EN 5 1 (by decide) bench_ready))

theorem wit_FieldOutputs_10 : ∃ (s : State) (p : Fin 128) (m : Fin 16) (v1 : Bool) (v2 : Bool), s.blk.Ready ∧ p.val
    = 112 + m.val ∧ s.blk.getF F.DIO_DOCFG_EN m = 1 ∧ s.blk.flag F.DIO_DOCFG_OWEN m = true ∧ s.blk.doConducts m =
    false :=
  ⟨{ blk := tb106 }, (117 : Fin 128), (5 : Fin 16), (false : Bool), (true : Bool), tb106_ready, by decide +kernel⟩

theorem wit_FieldOutputs_11 : ∃ (s : State) (p : Fin 132) (m : Fin 16) (cur : Nat) (vout : Nat) (tj : Nat),
    s.blk.Ready ∧ p.val = 112 + m.val :=
  ⟨{ blk := bench }, (117 : Fin 132), (5 : Fin 16), (100 : Nat), (200 : Nat), (300 : Nat), bench_ready, by
    decide +kernel⟩

theorem wit_FieldOutputs_12 : ∃ (s : State) (p : Fin 132) (k : Fin 4) (cur : Nat) (vout : Nat) (tj : Nat),
    s.blk.Ready ∧ p.val = 128 + k.val :=
  ⟨{ blk := bench }, (129 : Fin 132), (1 : Fin 4), (100 : Nat), (200 : Nat), (300 : Nat), bench_ready, by
    decide +kernel⟩

theorem wit_FieldOutputs_13 : ∃ (s : State) (who : Who) (k : Fin 4) (on : Bool), s.blk.Ready ∧ s.blk.CanWrite who
    (R.DIO_SVCFG.at k) ∧ s.blk.dioFeedOff = false ∧ (s.blk.svrec k).retry = false ∧ (s.blk.svrec k).therm = false :=
  ⟨{ blk := bench }, (.host : Who), (1 : Fin 4), (true : Bool), bench_ready, by decide +kernel⟩

def tb107 : Block :=
  ((bench.setF F.DIO_SVCFG_EN 1 1).setF F.DIO_SVSTAT_STATE 1 1)
theorem tb107_ready : tb107.Ready :=
  (ready_setF _ F.DIO_SVSTAT_STATE 1 1 (by decide) (ready_setF _ F.DIO_SVCFG_EN 1 1 (by decide) bench_ready))

theorem wit_FieldOutputs_14 : ∃ (s : State) (k : Fin 4) (ua : Nat), s.blk.Ready ∧ s.blk.svOn k = true ∧ 180000 < ua
    ∧ s.blk.getF F.DIO_SVCFG_EN k = 1 ∧ s.blk.dioFeedOff = false :=
  ⟨{ blk := tb107 }, (1 : Fin 4), (200000 : Nat), tb107_ready, by decide +kernel⟩

theorem wit_FieldOutputs_15 : ∃ (s : State) (k : Fin 4) (mv : Nat), s.blk.Ready ∧ s.blk.svOn k = true ∧ s.blk.svMv k
    + 1000 < mv ∧ s.blk.getF F.DIO_SVCFG_EN k = 1 ∧ s.blk.dioFeedOff = false :=
  ⟨{ blk := tb107 }, (1 : Fin 4), (12000 : Nat), tb107_ready, by decide +kernel⟩

def tb108 : Block :=
  ({ ((bench.setF F.DIO_SVCFG_EN 1 1).setF F.DIO_SVSTAT_STATE 1 1) with dio := { bench.dio with sv := [(1, { retry := true })] } }
    : Block)
theorem tb108_ready : tb108.Ready :=
  (ready_congr (b := ((bench.setF F.DIO_SVCFG_EN 1 1).setF F.DIO_SVSTAT_STATE 1 1)) (ready_setF _ F.DIO_SVSTAT_STATE
    1 1 (by decide) (ready_setF _ F.DIO_SVCFG_EN 1 1 (by decide) bench_ready)) rfl rfl rfl)

theorem wit_FieldOutputs_16 : ∃ (s : State) (k : Fin 4), s.blk.Ready ∧ (s.blk.svrec k).off = false ∧ s.blk.getF
    F.DIO_SVCFG_EN k = 1 ∧ s.blk.dioFeedOff = false ∧ (s.blk.svrec k).therm = false :=
  ⟨{ blk := tb108 }, (1 : Fin 4), tb108_ready, by decide +kernel⟩

theorem wit_FieldOutputs_17 : ∃ (s : State) (k : Fin 4) (tj : Int), s.blk.Ready ∧ (s.blk.svrec k).therm = false ∧
    175 * 16 ≤ tj ∧ s.blk.getF F.DIO_SVCFG_EN k = 1 ∧ s.blk.dioFeedOff = false :=
  ⟨{ blk := tb107 }, (1 : Fin 4), (2800 : Int), tb107_ready, by decide +kernel⟩

theorem wit_FieldOutputs_18 : ∃ (s : State) (k : Fin 4) (mv : Nat), s.blk.Ready ∧ s.blk.svOn k = true ∧ mv * 100 <
    s.blk.svMv k * 95 :=
  ⟨{ blk := tb107 }, (1 : Fin 4), (4000 : Nat), tb107_ready, by decide +kernel⟩

theorem wit_Catchment_0 : ∃ (s : State) (e : Fin 256) (detail : Word), s.blk.Ready ∧ e.val ≠ 253 ∧ detail.getLsbD 31
    = false ∧ bit (s.blk.getF F.CATCH_SRC_ACT e) 2 = false :=
  ⟨{ blk := bench }, (248 : Fin 256), (0x1234 : Word), bench_ready, by decide +kernel⟩

def tb109 : Block :=
  (bench.setF F.CATCH_SRC_CLASS 20 2)

theorem wit_Catchment_1 : ∃ (s : State) (e : Fin 256) (detail : Word), s.blk.Calm ∧ s.blk.Awake ∧ s.blk.pg 1 = true
    ∧ s.blk.getF F.CATCH_SRC_CLASS e = 2 ∧ e.val ≠ 253 ∧ e.val ≠ 248 ∧ detail.getLsbD 31 = false :=
  ⟨{ blk := tb109 }, (20 : Fin 256), (0x1234 : Word), ⟨rfl, by decide +kernel, by decide +kernel, by
    decide +kernel⟩, by decide +kernel⟩

theorem wit_Catchment_2 : ∃ (s : State) (d : Desc), s.blk.Ready ∧ s.blk.Executes d ∧ s.blk.Single d ∧ (d.ok 0xE0 (if
    bit (d.dw 8) 0 then 1072 else 48) 65536 [0, 0, 0, 1] = true) :=
  ⟨{ blk := bench }, (({ src := .node 1 2, dws := [0xE0, 0, 0x100, 0, 48], payload := [] }) : Desc), bench_ready, by
    decide +kernel⟩

def tb110 : Block :=
  ((bench.wr R.CATCH_STICKY 0 (0x10)).wr R.CATCH_COUNT 0 (5))
theorem tb110_ready : tb110.Ready :=
  (ready_wr _ R.CATCH_COUNT 0 (5) (by decide) (ready_wr _ R.CATCH_STICKY 0 (0x10) (by decide) bench_ready))

theorem wit_Catchment_3 : ∃ (s : State) (d : Desc), s.blk.Ready ∧ s.blk.Executes d ∧ s.blk.Single d ∧ d.ok 0xE1 0 0
    (List.replicate 8 0xFFFFFFFF ++ [7]) = true :=
  ⟨{ blk := tb110 }, (({ src := .node 1 2, dws := [0xE1, 0, 0, 0, 0, 0x30, 0, 0, 0, 0, 0, 0, 0, 7], payload := [] })
    : Desc), tb110_ready, by decide +kernel⟩

def tb111 : Block :=
  (bench.setF F.CATCH_CTL_INJEN 0 1)
theorem tb111_ready : tb111.Ready :=
  (ready_setF _ F.CATCH_CTL_INJEN 0 1 (by decide) bench_ready)

theorem wit_Catchment_4 : ∃ (s : State) (d : Desc), s.blk.Ready ∧ s.blk.Executes d ∧ s.blk.Single d ∧ d.ok 0xE2 0 0
    [0xFF] = true ∧ d.dw 5 ≠ 250 ∧ d.dw 5 ≠ 251 ∧ s.blk.flag F.CATCH_CTL_INJEN 0 = true :=
  ⟨{ blk := tb111 }, (({ src := .node 1 2, dws := [0xE2, 0, 0, 0, 0, 20], payload := [] }) : Desc), tb111_ready, by
    decide +kernel⟩

theorem wit_Catchment_5 : ∃ (s : State) (d : Desc), s.blk.Ready ∧ s.blk.Executes d ∧ s.blk.Single d ∧ d.ok 0xE3 0 0
    [0x303FF, 0xFFFFFFFC] = true ∧ bit (d.dw 5) 16 = true ∧ Block.injIn (bits (d.dw 5) 2 0) (d.dw 6) = true ∧
    s.blk.flag F.CATCH_CTL_INJEN 0 = true :=
  ⟨{ blk := tb111 }, (({ src := .node 1 2, dws := [0xE3, 0, 0, 0, 0, 0x1000A, 0x10000000], payload := [] }) : Desc),
    tb111_ready, by decide +kernel⟩

theorem wit_Catchment_6 : ∃ (s : State) (who : Who) (i : Fin 8) (w : Word) (j : Fin 32), s.blk.Ready ∧
    s.blk.CanWrite who (R.CATCH_FORCE.at i) ∧ s.blk.flag F.CATCH_CTL_INJEN 0 = true ∧ w.getLsbD j = true ∧ 32 *
    i.val + j.val ≠ 250 ∧ 32 * i.val + j.val ≠ 251 :=
  ⟨{ blk := tb111 }, (.host : Who), (2 : Fin 8), (0x30 : Word), (5 : Fin 32), tb111_ready, by decide +kernel⟩

def tb112 : Block :=
  ((bench.setF F.CATCH_CTL_INJEN 0 1).wr R.CATCH_INJADDR 0 (0x10000000))
theorem tb112_ready : tb112.Ready :=
  (ready_wr _ R.CATCH_INJADDR 0 (0x10000000) (by decide) (ready_setF _ F.CATCH_CTL_INJEN 0 1 (by decide)
    bench_ready))

theorem wit_Catchment_7 : ∃ (s : State) (who : Who) (w : Word), s.blk.Ready ∧ s.blk.CanWrite who (R.CATCH_INJ.at 0)
    ∧ s.blk.flag F.CATCH_CTL_INJEN 0 = true ∧ w.getLsbD 16 = true ∧ Block.injIn (bits w.toNat 2 0) (s.blk.rd
    R.CATCH_INJADDR 0) = true :=
  ⟨{ blk := tb112 }, (.host : Who), (0x3000A : Word), tb112_ready, by decide +kernel⟩

theorem wit_Catchment_8 : ∃ (s : State) (who : Who) (w : Word), s.blk.Ready ∧ s.blk.CanWrite who (R.CATCH_INJADDR.at
    0) :=
  ⟨{ blk := bench }, (.host : Who), (0x10000003 : Word), bench_ready, by decide +kernel⟩

def tb113 : Block :=
  (bench.wr R.CATCH_COUNT 0 (5))
theorem tb113_ready : tb113.Ready :=
  (ready_wr _ R.CATCH_COUNT 0 (5) (by decide) bench_ready)

theorem wit_Catchment_9 : ∃ (s : State) (who : Who), s.blk.Ready ∧ s.blk.CanWrite who (R.CATCH_COUNT.at 0) :=
  ⟨{ blk := tb113 }, (.host : Who), tb113_ready, by decide +kernel⟩

def tb114 : Block :=
  ((bench.wr R.CATCH_LOGPTR 0 (5)).wr R.CATCH_LOG 3 (7))
theorem tb114_ready : tb114.Ready :=
  (ready_wr _ R.CATCH_LOG 3 (7) (by decide) (ready_wr _ R.CATCH_LOGPTR 0 (5) (by decide) bench_ready))

theorem wit_Catchment_10 : ∃ (s : State) (who : Who), s.blk.Ready ∧ s.blk.CanWrite who (R.CATCH_LOGPTR.at 0) :=
  ⟨{ blk := tb114 }, (.host : Who), tb114_ready, by decide +kernel⟩

def tb115 : Block :=
  (bench.setF F.CAN_STAT_STATE 5 1)
theorem tb115_ready : tb115.Ready :=
  (ready_setF _ F.CAN_STAT_STATE 5 1 (by decide) bench_ready)

theorem wit_NetworkDescriptors_0 : ∃ (s : State) (d : Desc), s.blk.Ready ∧ s.blk.Executes d ∧ d.ok 0x70 16 65536
    [0x1F, 0, 0, 3] = true ∧ isCan (bits (d.dw 5) 4 0) = true ∧ d.dw 8 = 0 ∧ (Block.recordsOf 4096 (d.payload.take
    d.len)).isSome = true ∧ (((Block.recordsOf 4096 (d.payload.take d.len)).getD []).map Prod.fst) ≠ [] ∧
    (((Block.recordsOf 4096 (d.payload.take d.len)).getD []).all fun r => r.2 == (bits (d.dw 5) 4 0) &&
    Block.canRecordOk ((s.blk.nch (bits (d.dw 5) 4 0)).word 0) r.1) = true ∧ s.blk.nstate (bits (d.dw 5) 4 0) = 1 ∧
    (s.blk.nch (bits (d.dw 5) 4 0)).jobs = [] ∧ (s.blk.nch (bits (d.dw 5) 4 0)).fifo.length + (((Block.recordsOf
    4096 (d.payload.take d.len)).getD []).map Prod.fst).length ≤ 64 :=
  ⟨{ blk := tb115 },
    (({ src := .node 1 2, dws := [0x70, 0, 0x100, 0, 20, 5], payload := [1, 0, 0, 0, 4, 0, 5, 0, 0, 0, 0, 0, 0, 0, 0, 0, 9, 8, 7, 6] })
    : Desc), tb115_ready, by decide +kernel⟩

theorem wit_NetworkDescriptors_1 : ∃ (s : State) (d : Desc), s.blk.Ready ∧ s.blk.Executes d ∧ d.ok 0x71 256 65536
    [0x1F, 0, 0, 0xFFFF] = true ∧ d.len % 64 = 0 ∧ 1 ≤ d.dw 8 ∧ d.bcast = false ∧ (isCan (bits (d.dw 5) 4 0) = true
    ∨ isLin (bits (d.dw 5) 4 0) = true ∨ isEth (bits (d.dw 5) 4 0) = true) ∧ s.blk.nOn (bits (d.dw 5) 4 0) = true ∧
    (s.blk.nch (bits (d.dw 5) 4 0)).bufs.length < 8 ∧ (s.blk.nch (bits (d.dw 5) 4 0)).recs = [] :=
  ⟨{ blk := tb115 }, (({ src := .node 1 2, dws := [0x71, 0, 0x100, 0, 256, 5, 0, 0, 10], payload := [] }) : Desc),
    tb115_ready, by decide +kernel⟩

def tb116 : Block :=
  ((bench.setF F.CAN_STAT_STATE 5 1).setF F.LIN_STAT_STATE 2 1)
theorem tb116_ready : tb116.Ready :=
  (ready_setF _ F.LIN_STAT_STATE 2 1 (by decide) (ready_setF _ F.CAN_STAT_STATE 5 1 (by decide) bench_ready))

theorem wit_NetworkDescriptors_2 : ∃ (s : State) (d : Desc), s.blk.Ready ∧ s.blk.Executes d ∧ s.blk.Single d ∧ d.ok
    0x72 0 0 [0xFFFFFFF] = true ∧ Block.chMaskOk (d.dw 5) 28 = true ∧ (∀ n ∈ (Block.chMask (d.dw 5) 28), s.blk.nOn n
    = true ∧ s.blk.nstate n ≠ 3 ∧ s.blk.nstate n ≠ 4) :=
  ⟨{ blk := tb116 }, (({ src := .node 1 2, dws := [0x72, 0, 0, 0, 0, 0x40020], payload := [] }) : Desc),
    tb116_ready, by decide +kernel⟩

def tb117 : Block :=
  ((bench.setF F.CAN_STAT_STATE 5 3).setF F.LIN_STAT_STATE 2 4)
theorem tb117_ready : tb117.Ready :=
  (ready_setF _ F.LIN_STAT_STATE 2 4 (by decide) (ready_setF _ F.CAN_STAT_STATE 5 3 (by decide) bench_ready))

theorem wit_NetworkDescriptors_3 : ∃ (s : State) (d : Desc), s.blk.Ready ∧ s.blk.Executes d ∧ s.blk.Single d ∧ d.ok
    0x73 0 0 [0xFFFFFFF] = true ∧ Block.chMaskOk (d.dw 5) 28 = true ∧ (∀ n ∈ (Block.chMask (d.dw 5) 28),
    (s.blk.nstate n = 3 ∨ s.blk.nstate n = 4) ∧ ((s.blk.nch n).prev = 1 ∨ (s.blk.nch n).prev = 2)) :=
  ⟨{ blk := tb117 }, (({ src := .node 1 2, dws := [0x73, 0, 0, 0, 0, 0x40020], payload := [] }) : Desc),
    tb117_ready, by decide +kernel⟩

def tb118 : Block :=
  ({ (bench.setF F.LIN_STAT_STATE 2 1) with net := { bench.net with ch := [(18, { cfg := [0x96000] })] } } : Block)
theorem tb118_ready : tb118.Ready :=
  (ready_congr (b := (bench.setF F.LIN_STAT_STATE 2 1)) (ready_setF _ F.LIN_STAT_STATE 2 1 (by decide) bench_ready)
    rfl rfl rfl)

theorem wit_NetworkDescriptors_4 : ∃ (s : State) (d : Desc), s.blk.Ready ∧ s.blk.Executes d ∧ s.blk.Single d ∧ d.ok
    0x74 0 256 [0x1F] = true ∧ isLin (bits (d.dw 5) 4 0) = true ∧ d.len % 4 = 0 ∧ ((Block.pieces 4 64
    (d.payload.take d.len)).all fun e => bits (ofLe e) 7 6 == 0 && bits (ofLe e) 23 18 == 0 && decide (1 ≤ bits
    (ofLe e) 15 8) && decide (1 ≤ bits (ofLe e) 31 24) && decide (bits (ofLe e) 31 24 ≤ 8)) = true ∧ ((Block.pieces
    4 64 (d.payload.take d.len)).all fun e => decide (14 * (34 + 10 * (bits (ofLe e) 31 24 + 1)) * 1000 ≤ bits (ofLe
    e) 15 8 * bits ((s.blk.nch (bits (d.dw 5) 4 0)).word 0) 19 5 * 10)) = true ∧ s.blk.nOn (bits (d.dw 5) 4 0) =
    true ∧ s.blk.linResponder (bits (d.dw 5) 4 0) = false ∧ (s.blk.nch (bits (d.dw 5) 4 0)).table = [] :=
  ⟨{ blk := tb118 }, (({ src := .node 1 2, dws := [0x74, 0, 0x100, 0, 4, 18], payload := [5, 20, 0, 4] }) : Desc),
    tb118_ready, by decide +kernel⟩

def tb119 : Block :=
  (bench.setF F.LIN_STAT_STATE 2 1)
theorem tb119_ready : tb119.Ready :=
  (ready_setF _ F.LIN_STAT_STATE 2 1 (by decide) bench_ready)

theorem wit_NetworkDescriptors_5 : ∃ (s : State) (d : Desc), s.blk.Ready ∧ s.blk.Executes d ∧ s.blk.Single d ∧ d.ok
    0x75 12 768 [0x1F] = true ∧ isLin (bits (d.dw 5) 4 0) = true ∧ d.len = 12 ∧ d.payload.length = 12 ∧ bits (ofLe
    (d.payload.take 1)) 7 6 = 0 ∧ ofLe ((d.payload.drop 3).take 1) = 0 ∧ ofLe ((d.payload.drop 2).take 1) < 2 ∧ 1 ≤
    ofLe ((d.payload.drop 1).take 1) ∧ ofLe ((d.payload.drop 1).take 1) ≤ 8 ∧ s.blk.nOn (bits (d.dw 5) 4 0) = true
    :=
  ⟨{ blk := tb119 },
    (({ src := .node 1 2, dws := [0x75, 0, 0x100, 0, 12, 18], payload := [5, 2, 1, 0, 9, 8, 0, 0, 0, 0, 0, 0] }) :
    Desc), tb119_ready, by decide +kernel⟩

theorem wit_NetworkDescriptors_6 : ∃ (s : State) (d : Desc), s.blk.Ready ∧ s.blk.Executes d ∧ s.blk.Single d ∧ d.ok
    0x76 32 65536 [] = true ∧ s.blk.pg 7 = true ∧ (Block.recordsOf 4096 (d.payload.take d.len)).isSome = true ∧
    (((Block.recordsOf 4096 (d.payload.take d.len)).getD []).all fun r => r.2 == 28 && r.1.id == 0 && r.1.flags == 0
    && r.1.ext == 0 && decide (14 ≤ r.1.data.length) && decide (r.1.data.length ≤ 1518)) = true :=
  ⟨{ blk := bench },
    (({ src := .node 1 2, dws := [0x76, 0, 0x100, 0, 32], payload := [0, 0, 0, 0, 16, 0, 28, 0, 0, 0, 0, 0, 0, 0, 0, 0, 2, 1, 1, 1, 1, 1, 2, 2, 2, 2, 2, 2, 8, 0, 1, 1] })
    : Desc), bench_ready, by decide +kernel⟩

theorem wit_NetworkDescriptors_7 : ∃ (s : State) (d : Desc), s.blk.Ready ∧ s.blk.Executes d ∧ s.blk.Single d ∧ d.ok
    0x77 400 65536 [] = true :=
  ⟨{ blk := bench }, (({ src := .node 1 2, dws := [0x77, 0, 0x100, 0, 400], payload := [] }) : Desc), bench_ready,
    by decide +kernel⟩

def tb120 : Block :=
  (((bench.setF F.CAN_STAT_STATE 5 1).setF F.LIN_STAT_STATE 2 1).setF F.CAN_STAT_TXFAIL 5 1)
theorem tb120_ready : tb120.Ready :=
  (ready_setF _ F.CAN_STAT_TXFAIL 5 1 (by decide) (ready_setF _ F.LIN_STAT_STATE 2 1 (by decide) (ready_setF _
    F.CAN_STAT_STATE 5 1 (by decide) bench_ready)))

theorem wit_NetworkDescriptors_8 : ∃ (s : State) (d : Desc), s.blk.Ready ∧ s.blk.Executes d ∧ s.blk.Single d ∧ d.ok
    0x78 0 0 [0x1FFFFFFF, 0, 0, 7] = true ∧ Block.chMaskOk (d.dw 5) 29 = true ∧ (∀ n ∈ (Block.chMask (d.dw 5) 29),
    s.blk.nOn n = true) :=
  ⟨{ blk := tb120 }, (({ src := .node 1 2, dws := [0x78, 0, 0, 0, 0, 0x40020, 0, 0, 5], payload := [] }) : Desc),
    tb120_ready, by decide +kernel⟩

def tb121 : Block :=
  (((((((((((bench.wr R.CAN_NBT 5 (0x00000000)).setF F.CAN_NBT_BRP 5 1).setF F.CAN_NBT_TSEG1 5 130).setF
    F.CAN_NBT_TSEG2 5 29).setF F.CAN_NBT_SJW 5 20).setF F.CAN_DBT_BRP 5 1).setF F.CAN_DBT_TSEG1 5 31).setF
    F.CAN_DBT_TSEG2 5 8).setF F.CAN_DBT_SJW 5 4).setF F.CAN_CFG_XLEN 5 0).setF F.CAN_CFG_FAST 5 0)
theorem tb121_ready : tb121.Ready :=
  (ready_setF _ F.CAN_CFG_FAST 5 0 (by decide) (ready_setF _ F.CAN_CFG_XLEN 5 0 (by decide) (ready_setF _
    F.CAN_DBT_SJW 5 4 (by decide) (ready_setF _ F.CAN_DBT_TSEG2 5 8 (by decide) (ready_setF _ F.CAN_DBT_TSEG1 5 31
    (by decide) (ready_setF _ F.CAN_DBT_BRP 5 1 (by decide) (ready_setF _ F.CAN_NBT_SJW 5 20 (by decide) (ready_setF
    _ F.CAN_NBT_TSEG2 5 29 (by decide) (ready_setF _ F.CAN_NBT_TSEG1 5 130 (by decide) (ready_setF _ F.CAN_NBT_BRP 5
    1 (by decide) (ready_wr _ R.CAN_NBT 5 (0x00000000) (by decide) bench_ready)))))))))))

theorem wit_NetworkChannels_0 : ∃ (s : State) (who : Who) (n : Fin 12), s.blk.Ready ∧ s.blk.CanWrite who
    (R.CAN_CFG.at n) ∧ s.blk.nstate n = 0 ∧ s.blk.canCfgOk n = true :=
  ⟨{ blk := tb121 }, (.host : Who), (5 : Fin 12), tb121_ready, by decide +kernel⟩

theorem wit_NetworkChannels_1 : ∃ (s : State) (who : Who) (n : Fin 12), s.blk.Ready ∧ s.blk.CanWrite who
    (R.CAN_CFG.at n) ∧ s.blk.nstate n ≠ 0 :=
  ⟨{ blk := tb115 }, (.host : Who), (5 : Fin 12), tb115_ready, by decide +kernel⟩

def tb122 : Block :=
  (bench.setF F.LIN_CFG_BAUD 2 19200)
theorem tb122_ready : tb122.Ready :=
  (ready_setF _ F.LIN_CFG_BAUD 2 19200 (by decide) bench_ready)

theorem wit_NetworkChannels_2 : ∃ (s : State) (who : Who) (n : Fin 8), s.blk.Ready ∧ s.blk.CanWrite who
    (R.LIN_CFG.at n) ∧ s.blk.nstate (16 + n) = 0 ∧ 1000 ≤ s.blk.getF F.LIN_CFG_BAUD n ∧ s.blk.getF F.LIN_CFG_BAUD n
    ≤ 20000 :=
  ⟨{ blk := tb122 }, (.host : Who), (2 : Fin 8), tb122_ready, by decide +kernel⟩

theorem wit_NetworkChannels_3 : ∃ (s : State) (who : Who) (n : Fin 8), s.blk.Ready ∧ s.blk.CanWrite who
    (R.LIN_CFG.at n) ∧ s.blk.nstate (16 + n) ≠ 0 :=
  ⟨{ blk := tb119 }, (.host : Who), (2 : Fin 8), tb119_ready, by decide +kernel⟩

theorem wit_NetworkChannels_4 : ∃ (s : State) (who : Who) (p : Fin 5) (cab : Fin 5), s.blk.Ready ∧ s.blk.CanWrite
    who (R.ETH_PCFG.at p) ∧ p.val < 4 ∧ s.blk.nstate (24 + p) = 0 :=
  ⟨{ blk := bench }, (.host : Who), (1 : Fin 5), (2 : Fin 5), bench_ready, by decide +kernel⟩

theorem wit_NetworkChannels_5 : ∃ (s : State) (who : Who) (cab : Fin 5), s.blk.Ready ∧ s.blk.CanWrite who
    (R.ETH_PCFG.at 4) :=
  ⟨{ blk := bench }, (.host : Who), (2 : Fin 5), bench_ready, by decide +kernel⟩

def tb123 : Block :=
  ((bench.setF F.ETH_PSTAT_STATE 1 1).setF F.ETH_PSTAT_LINK 1 1)
theorem tb123_ready : tb123.Ready :=
  (ready_setF _ F.ETH_PSTAT_LINK 1 1 (by decide) (ready_setF _ F.ETH_PSTAT_STATE 1 1 (by decide) bench_ready))

theorem wit_NetworkChannels_6 : ∃ (s : State) (who : Who) (p : Fin 5), s.blk.Ready ∧ s.blk.CanWrite who
    (R.ETH_PCFG.at p) ∧ p.val < 4 ∧ s.blk.nstate (24 + p) ≠ 0 :=
  ⟨{ blk := tb123 }, (.host : Who), (1 : Fin 5), tb123_ready, by decide +kernel⟩

def tb124 : Block :=
  (bench.setF F.ETH_PCFG_EN 4 1)
theorem tb124_ready : tb124.Ready :=
  (ready_setF _ F.ETH_PCFG_EN 4 1 (by decide) bench_ready)

theorem wit_NetworkChannels_7 : ∃ (s : State) (who : Who), s.blk.Ready ∧ s.blk.CanWrite who (R.ETH_PCFG.at 4) :=
  ⟨{ blk := tb124 }, (.host : Who), tb124_ready, by decide +kernel⟩

theorem wit_NetworkChannels_8 : ∃ (s : State) (n : Fin 12) (tx : Bool) (eight : Bool) (lec : Fin 7), s.blk.Ready ∧
    s.blk.nstate n = 1 ∧ (tx = false ∨ lec.val ≠ 3 ∨ s.blk.getF F.CAN_ERR_TEC n ≤ 127) :=
  ⟨{ blk := tb115 }, (5 : Fin 12), (true : Bool), (false : Bool), (3 : Fin 7), tb115_ready, by decide +kernel⟩

def tb125 : Block :=
  ({ (bench.setF F.CAN_STAT_STATE 5 5) with net := { bench.net with ch := [(5, { recov := true })] } } : Block)
theorem tb125_ready : tb125.Ready :=
  (ready_congr (b := (bench.setF F.CAN_STAT_STATE 5 5)) (ready_setF _ F.CAN_STAT_STATE 5 5 (by decide) bench_ready)
    rfl rfl rfl)

theorem wit_NetworkChannels_9 : ∃ (s : State) (n : Fin 12), s.blk.Ready ∧ s.blk.nstate n = 5 ∧ (s.blk.nch n).recov =
    true :=
  ⟨{ blk := tb125 }, (5 : Fin 12), tb125_ready, by decide +kernel⟩

theorem wit_NetworkChannels_10 : ∃ (s : State) (ch : Fin 24) (v : Fin 8), s.blk.Ready ∧ (isCan ch = true ∨ isLin ch
    = true) ∧ s.blk.nOn ch = true ∧ (isCan ch = true ∨ v.val ≤ 3) :=
  ⟨{ blk := tb115 }, (5 : Fin 24), (3 : Fin 8), tb115_ready, by decide +kernel⟩

def tb126 : Block :=
  (bench.setF F.ETH_PSTAT_STATE 1 1)
theorem tb126_ready : tb126.Ready :=
  (ready_setF _ F.ETH_PSTAT_STATE 1 1 (by decide) bench_ready)

theorem wit_NetworkChannels_11 : ∃ (s : State) (p : Fin 4) (inv : Bool), s.blk.Ready ∧ (s.blk.nstate (24 + p) = 1 ∨
    s.blk.nstate (24 + p) = 3) :=
  ⟨{ blk := tb126 }, (1 : Fin 4), (true : Bool), tb126_ready, by decide +kernel⟩

def tb127 : Block :=
  (bench.setF F.ETH_PSTAT_LINK 1 1)
theorem tb127_ready : tb127.Ready :=
  (ready_setF _ F.ETH_PSTAT_LINK 1 1 (by decide) bench_ready)

theorem wit_NetworkChannels_12 : ∃ (s : State) (p : Fin 4) (cab : Fin 5), s.blk.Ready ∧ s.blk.flag F.ETH_PSTAT_LINK
    p = true :=
  ⟨{ blk := tb127 }, (1 : Fin 4), (2 : Fin 5), tb127_ready, by decide +kernel⟩

def tb128 : Block :=
  (((bench.setF F.ETH_PSTAT_STATE 2 1).setF F.ETH_PCFG_PLCA 2 1).setF F.ETH_PCFG_PLCAID 2 3)
theorem tb128_ready : tb128.Ready :=
  (ready_setF _ F.ETH_PCFG_PLCAID 2 3 (by decide) (ready_setF _ F.ETH_PCFG_PLCA 2 1 (by decide) (ready_setF _
    F.ETH_PSTAT_STATE 2 1 (by decide) bench_ready)))

theorem wit_NetworkChannels_13 : ∃ (s : State) (p : Beacons), s.blk.Ready ∧ p.back = false ∧ 2 ≤ p.port.val ∧
    (s.blk.nstate (24 + p.port) = 1 ∨ s.blk.nstate (24 + p.port) = 3) ∧ s.blk.flag F.ETH_PCFG_PLCA p.port = true ∧
    s.blk.getF F.ETH_PCFG_PLCAID p.port ≠ 0 :=
  ⟨{ blk := tb128 }, (⟨2, false⟩ : Beacons), tb128_ready, by decide +kernel⟩

def tb129 : Block :=
  ({ (bench.setF F.ETH_PSTAT_STATE 1 1) with net := { bench.net with ch := [(25, { noBeacon := true })] } } : Block)
theorem tb129_ready : tb129.Ready :=
  (ready_congr (b := (bench.setF F.ETH_PSTAT_STATE 1 1)) (ready_setF _ F.ETH_PSTAT_STATE 1 1 (by decide)
    bench_ready) rfl rfl rfl)

theorem wit_NetworkChannels_14 : ∃ (s : State) (p : Beacons), s.blk.Ready ∧ p.back = true ∧ (s.blk.nch (24 +
    p.port)).noBeacon = true :=
  ⟨{ blk := tb129 }, (⟨1, true⟩ : Beacons), tb129_ready, by decide +kernel⟩

def tb130 : Block :=
  ({ (bench.setF F.ETH_SWCFG_AGE 0 3) with net := { bench.net with mac := [(5, 1), (6, 2)] } } : Block)
theorem tb130_ready : tb130.Ready :=
  (ready_congr (b := (bench.setF F.ETH_SWCFG_AGE 0 3)) (ready_setF _ F.ETH_SWCFG_AGE 0 3 (by decide) bench_ready)
    rfl rfl rfl)

theorem wit_NetworkChannels_15 : ∃ (s : State) (mac : BitVec 48), s.blk.Ready ∧ s.blk.getF F.ETH_SWCFG_AGE 0 ≠ 0 :=
  ⟨{ blk := tb130 }, (5 : BitVec 48), tb130_ready, by decide +kernel⟩

def tb131 : Block :=
  ((((((((((((((((({ (bench.setF F.CAN_STAT_STATE 5 1) with net := { bench.net with ch := [(5, { cfg := [0x80] })] } }
    : Block).setF F.CAN_FID_EN 80 0).setF F.CAN_FID_EN 81 0).setF F.CAN_FID_EN 82 0).setF F.CAN_FID_EN 83 0).setF
    F.CAN_FID_EN 84 0).setF F.CAN_FID_EN 85 0).setF F.CAN_FID_EN 86 0).setF F.CAN_FID_EN 87 0).setF F.CAN_FID_EN 88
    0).setF F.CAN_FID_EN 89 0).setF F.CAN_FID_EN 90 0).setF F.CAN_FID_EN 91 0).setF F.CAN_FID_EN 92 0).setF
    F.CAN_FID_EN 93 0).setF F.CAN_FID_EN 94 0).setF F.CAN_FID_EN 95 0)
theorem tb131_ready : tb131.Ready :=
  (ready_setF _ F.CAN_FID_EN 95 0 (by decide) (ready_setF _ F.CAN_FID_EN 94 0 (by decide) (ready_setF _ F.CAN_FID_EN
    93 0 (by decide) (ready_setF _ F.CAN_FID_EN 92 0 (by decide) (ready_setF _ F.CAN_FID_EN 91 0 (by decide)
    (ready_setF _ F.CAN_FID_EN 90 0 (by decide) (ready_setF _ F.CAN_FID_EN 89 0 (by decide) (ready_setF _
    F.CAN_FID_EN 88 0 (by decide) (ready_setF _ F.CAN_FID_EN 87 0 (by decide) (ready_setF _ F.CAN_FID_EN 86 0 (by
    decide) (ready_setF _ F.CAN_FID_EN 85 0 (by decide) (ready_setF _ F.CAN_FID_EN 84 0 (by decide) (ready_setF _
    F.CAN_FID_EN 83 0 (by decide) (ready_setF _ F.CAN_FID_EN 82 0 (by decide) (ready_setF _ F.CAN_FID_EN 81 0 (by
    decide) (ready_setF _ F.CAN_FID_EN 80 0 (by decide) (ready_congr (b := (bench.setF F.CAN_STAT_STATE 5 1))
    (ready_setF _ F.CAN_STAT_STATE 5 1 (by decide) bench_ready) rfl rfl rfl)))))))))))))))))

theorem wit_FramesAndGateway_0 : ∃ (s : State) (n : Fin 12) (f : CanRx), s.blk.Ready ∧ s.blk.nstate n = 1 ∧
    f.frame.lenOk = true ∧ (f.frame.fdf && !bit ((s.blk.nch n).word 0) 3) = false ∧ (f.frame.xlf && !bit ((s.blk.nch
    n).word 0) 4) = false ∧ bit ((s.blk.nch n).word 0) 7 = true ∧ (∀ m ∈ List.range 16, s.blk.flag F.CAN_FID_EN (16
    * n + m) = false) ∧ (s.blk.nch n).bufs = [] ∧ (s.blk.nch n).lost = false ∧ (s.blk.nch n).recs.length < 64 :=
  ⟨{ blk := tb131 }, (5 : Fin 12), (⟨{ id := 7, data := [1, 2] }, 0, true⟩ : CanRx), tb131_ready, by decide +kernel⟩

def tb132 : Block :=
  ({ (bench.setF F.CAN_STAT_STATE 5 1) with net := { bench.net with ch := [(5, { fifo := [{ job := 3, idx := 0, frame := { id := 7 } }], jobs := [{ num := 3, desc := { src := .node 1 2, dws := [0x70], payload := [] }, prio := false, echo := false, total := 1 }] })] } }
    : Block)
theorem tb132_ready : tb132.Ready :=
  (ready_congr (b := (bench.setF F.CAN_STAT_STATE 5 1)) (ready_setF _ F.CAN_STAT_STATE 5 1 (by decide) bench_ready)
    rfl rfl rfl)

theorem wit_FramesAndGateway_1 : ∃ (s : State) (n : Fin 12) (e : CanEnd) (x : TxItem) (j : TxJob), s.blk.Ready ∧
    s.blk.nstate n = 1 ∧ (s.blk.nch n).fifo = [x] ∧ (s.blk.nch n).prio = [] ∧ (s.blk.nch n).gw = [] ∧ (s.blk.nch
    n).jobs = [j] ∧ j.num = x.job ∧ j.rest = [] ∧ j.total = 1 ∧ j.sent = 0 ∧ x.echo = false ∧ bits ((s.blk.nch
    n).word 0) 2 1 ≠ 2 ∧ bits ((s.blk.nch n).word 0) 2 1 ≠ 1 ∧ s.blk.Single j.desc :=
  ⟨{ blk := tb132 }, (5 : Fin 12), (⟨true, 0, true⟩ : CanEnd), ({ job := 3, idx := 0, frame := { id := 7 } } :
    TxItem), ({ num := 3, desc := { src := .node 1 2, dws := [0x70], payload := [] }, prio := false, echo := false, total := 1 }
    : TxJob), tb132_ready, by decide +kernel⟩

def tb133 : Block :=
  ({ (bench.setF F.CAN_STAT_STATE 5 1) with net := { bench.net with ch := [(5, { fifo := [{ job := 3, idx := 0, frame := { id := 7 } }] })] } }
    : Block)
theorem tb133_ready : tb133.Ready :=
  (ready_congr (b := (bench.setF F.CAN_STAT_STATE 5 1)) (ready_setF _ F.CAN_STAT_STATE 5 1 (by decide) bench_ready)
    rfl rfl rfl)

theorem wit_FramesAndGateway_2 : ∃ (s : State) (n : Fin 12) (x : TxItem) (l : List TxItem), s.blk.Ready ∧ (s.blk.nch
    n).fifo = x :: l :=
  ⟨{ blk := tb133 }, (5 : Fin 12), ({ job := 3, idx := 0, frame := { id := 7 } } : TxItem), ([] : List TxItem),
    tb133_ready, by decide +kernel⟩

def tb134 : Block :=
  ({ bench with net := { bench.net with ch := [(5, { bufs := [{ desc := { src := .node 1 2, dws := [0x71], payload := [] }, data := [1], recs := 1 }] })] } }
    : Block)
theorem tb134_ready : tb134.Ready :=
  (ready_congr (b := bench) bench_ready rfl rfl rfl)

theorem wit_FramesAndGateway_3 : ∃ (s : State) (ch : Fin 29) (x : RxBuf) (l : List RxBuf), s.blk.Ready ∧ (s.blk.nch
    ch).bufs = x :: l ∧ x.recs ≠ 0 ∧ s.blk.Single x.desc :=
  ⟨{ blk := tb134 }, (5 : Fin 29),
    ({ desc := { src := .node 1 2, dws := [0x71], payload := [] }, data := [1], recs := 1 } : RxBuf), ([] : List
    RxBuf), tb134_ready, by decide +kernel⟩

def tb135 : Block :=
  ({ ((bench.setF F.LIN_STAT_STATE 2 1).setF F.HEP_STAT_STATE 13 2) with net := { bench.net with ch := [(18, { table := [{ id := 5, ms := 20, dir := false, cks := true, len := 4 }] })] } }
    : Block)
theorem tb135_ready : tb135.Ready :=
  (ready_congr (b := ((bench.setF F.LIN_STAT_STATE 2 1).setF F.HEP_STAT_STATE 13 2)) (ready_core _ 13 2 (by decide)
    (by decide) (ready_setF _ F.LIN_STAT_STATE 2 1 (by decide) bench_ready)) rfl rfl rfl)

theorem wit_FramesAndGateway_4 : ∃ (s : State) (n : Fin 8) (e : LinSlot), s.blk.Ready ∧ s.blk.nstate (16 + n) = 1 ∧
    s.blk.coreRuns 13 = true ∧ s.blk.linResponder (16 + n) = false ∧ (s.blk.nch (16 + n)).slot = none ∧ (s.blk.nch
    (16 + n)).table[(s.blk.nch (16 + n)).pos]? = some e ∧ e.dir = false :=
  ⟨{ blk := tb135 }, (2 : Fin 8), ({ id := 5, ms := 20, dir := false, cks := true, len := 4 } : LinSlot),
    tb135_ready, by decide +kernel⟩

def tb136 : Block :=
  ({ (bench.setF F.LIN_STAT_STATE 2 1) with net := { bench.net with ch := [(18, { cfg := [2] })] } } : Block)
theorem tb136_ready : tb136.Ready :=
  (ready_congr (b := (bench.setF F.LIN_STAT_STATE 2 1)) (ready_setF _ F.LIN_STAT_STATE 2 1 (by decide) bench_ready)
    rfl rfl rfl)

theorem wit_FramesAndGateway_5 : ∃ (s : State) (n : Fin 8) (id : Fin 64) (dev : Nat), s.blk.Ready ∧ s.blk.nstate (16
    + n) = 1 ∧ s.blk.linResponder (16 + n) = true ∧ dev ≤ 140 ∧ s.blk.linEntry (16 + n) id = none :=
  ⟨{ blk := tb136 }, (2 : Fin 8), (9 : Fin 64), (5 : Nat), tb136_ready, by decide +kernel⟩

def tb137 : Block :=
  ({ (bench.setF F.LIN_STAT_STATE 2 1) with net := { bench.net with ch := [(18, { cfg := [2], resp := [(9, { cks := true, data := [1] })] })] } }
    : Block)
theorem tb137_ready : tb137.Ready :=
  (ready_congr (b := (bench.setF F.LIN_STAT_STATE 2 1)) (ready_setF _ F.LIN_STAT_STATE 2 1 (by decide) bench_ready)
    rfl rfl rfl)

theorem wit_FramesAndGateway_6 : ∃ (s : State) (n : Fin 8) (id : Fin 64) (dev : Nat) (r : LinResp), s.blk.Ready ∧
    s.blk.nstate (16 + n) = 1 ∧ s.blk.linResponder (16 + n) = true ∧ dev ≤ 140 ∧ s.blk.linEntry (16 + n) id = some r
    :=
  ⟨{ blk := tb137 }, (2 : Fin 8), (9 : Fin 64), (5 : Nat), ({ cks := true, data := [1] } : LinResp), tb137_ready, by
    decide +kernel⟩

def tb138 : Block :=
  ({ (bench.setF F.LIN_STAT_STATE 2 1) with net := { bench.net with ch := [(18, { cfg := [16], slot := some { id := 5, ms := 20, dir := false, cks := true, len := 1 } })] } }
    : Block)
theorem tb138_ready : tb138.Ready :=
  (ready_congr (b := (bench.setF F.LIN_STAT_STATE 2 1)) (ready_setF _ F.LIN_STAT_STATE 2 1 (by decide) bench_ready)
    rfl rfl rfl)

theorem wit_FramesAndGateway_7 : ∃ (s : State) (n : Fin 8) (data : TimedData) (cks : Byte) (e : LinSlot),
    s.blk.Ready ∧ s.blk.nstate (16 + n) = 1 ∧ s.blk.linResponder (16 + n) = false ∧ (s.blk.nch (16 + n)).slot = some
    e ∧ 1 ≤ data.data.length ∧ data.data.length ≤ 8 ∧ cks.toNat = Block.linSum e.id e.cks data.data ∧ (s.blk.nch (16
    + n)).bufs = [] ∧ (s.blk.nch (16 + n)).recs.length < 64 ∧ (s.blk.nch (16 + n)).lost = false :=
  ⟨{ blk := tb138 }, (2 : Fin 8), (⟨[1], 0⟩ : TimedData), ((BitVec.ofNat 8 (Block.linSum 5 true [1])) : Byte),
    ({ id := 5, ms := 20, dir := false, cks := true, len := 1 } : LinSlot), tb138_ready, by decide +kernel⟩

theorem wit_FramesAndGateway_8 : ∃ (s : State) (p : Fin 4) (data : TimedData), s.blk.Ready ∧ s.blk.nstate (24 + p) =
    1 ∧ s.blk.flag F.ETH_PSTAT_LINK p = true :=
  ⟨{ blk := tb123 }, (1 : Fin 4), (⟨[2, 1, 1, 1, 1, 1, 2, 2, 2, 2, 2, 2, 8, 0, 1, 1], 0⟩ : TimedData), tb123_ready,
    by decide +kernel⟩

theorem wit_FramesAndGateway_9 : ∃ (s : State) (d : Desc), s.blk.Ready ∧ s.blk.Executes d ∧ s.blk.Single d ∧ d.ok
    0x80 32 65536 [0, 0, 0, 0x3FFF] = true ∧ d.len % 32 = 0 ∧ d.len ≤ d.payload.length ∧ (bits (d.dw 8) 13 0) +
    d.len / 32 ≤ gwEntries ∧ (((Block.pieces 32 2048 (d.payload.take d.len)).map routeOf).all fun r => !routeBad
    (s.blk.getF F.GW_CFG_RKSEL 0) r) = true ∧ (s.blk.flag F.GW_CFG_TLOCK 0 = false ∨ s.blk.isLocked = false) ∧
    s.blk.flag F.CATCH_INJ_ARM 0 = false ∧ d.src.isRing = false :=
  ⟨{ blk := bench },
    (({ src := .node 1 2, dws := [0x80, 0, 0x100, 0, 32, 0, 0, 0, 4], payload := (1 :: 1 :: List.replicate 30 0) })
    : Desc), bench_ready, by decide +kernel⟩

theorem wit_FramesAndGateway_10 : ∃ (s : State) (d : Desc), s.blk.Ready ∧ s.blk.Executes d ∧ s.blk.Single d ∧ d.ok
    0x81 (32 * bits (d.dw 9) 11 0) 65536 [0, 0, 0, 0x3FFF, 0xFFF] = true ∧ 1 ≤ bits (d.dw 9) 11 0 ∧ bits (d.dw 9) 11
    0 ≤ 2048 ∧ (bits (d.dw 8) 13 0) + bits (d.dw 9) 11 0 ≤ gwEntries :=
  ⟨{ blk := bench }, (({ src := .node 1 2, dws := [0x81, 0, 0x100, 0, 32, 0, 0, 0, 4, 1], payload := [] }) : Desc),
    bench_ready, by decide +kernel⟩

theorem wit_FramesAndGateway_11 : ∃ (s : State) (d : Desc), s.blk.Ready ∧ s.blk.Executes d ∧ s.blk.Single d ∧ d.ok
    0x82 248 65536 [] = true :=
  ⟨{ blk := bench }, (({ src := .node 1 2, dws := [0x82, 0, 0x100, 0, 248], payload := [] }) : Desc), bench_ready,
    by decide +kernel⟩

def tb139 : Block :=
  ((bench.wr R.GW_STAT 0 (3)).wr R.GW_PIN 5 (3))
theorem tb139_ready : tb139.Ready :=
  (ready_wr _ R.GW_PIN 5 (3) (by decide) (ready_wr _ R.GW_STAT 0 (3) (by decide) bench_ready))

theorem wit_FramesAndGateway_12 : ∃ (s : State) (d : Desc), s.blk.Ready ∧ s.blk.Executes d ∧ s.blk.Single d ∧ d.ok
    0x83 0 0 [0, 0, 0, 3] = true ∧ d.dw 8 ≠ 0 ∧ s.blk.flag F.CATCH_INJ_ARM 0 = false :=
  ⟨{ blk := tb139 }, (({ src := .node 1 2, dws := [0x83, 0, 0, 0, 0, 0, 0, 0, 3], payload := [] }) : Desc),
    tb139_ready, by decide +kernel⟩

theorem wit_FramesAndGateway_13 : ∃ (s : State) (who : Who), s.blk.Ready ∧ s.blk.CanWrite who (R.GW_CFG.at 0) :=
  ⟨{ blk := bench }, (.host : Who), bench_ready, by decide +kernel⟩

def tb140 : Block :=
  ({ (bench.setF F.GW_CFG_EN 0 1) with net := { bench.net with ch := [(5, { gw := [{ job := 0, idx := 0, frame := { id := 7 } }] })] } }
    : Block)
theorem tb140_ready : tb140.Ready :=
  (ready_congr (b := (bench.setF F.GW_CFG_EN 0 1)) (ready_setF _ F.GW_CFG_EN 0 1 (by decide) bench_ready) rfl rfl
    rfl)

theorem wit_FramesAndGateway_14 : ∃ (s : State) (who : Who), s.blk.Ready ∧ s.blk.CanWrite who (R.GW_CFG.at 0) :=
  ⟨{ blk := tb140 }, (.host : Who), tb140_ready, by decide +kernel⟩

def tb141 : Block :=
  ({ (bench.setF F.LIN_STAT_STATE 2 1) with net := { bench.net with ch := [(18, { cfg := [10] })] } } : Block)
theorem tb141_ready : tb141.Ready :=
  (ready_congr (b := (bench.setF F.LIN_STAT_STATE 2 1)) (ready_setF _ F.LIN_STAT_STATE 2 1 (by decide) bench_ready)
    rfl rfl rfl)

theorem wit_SleepAndWake_0 : ∃ (s : State) (n : Fin 8), s.blk.Ready ∧ s.blk.nstate (16 + n) = 1 ∧ s.blk.autoSleep
    (16 + n) = true :=
  ⟨{ blk := tb141 }, (2 : Fin 8), tb141_ready, by decide +kernel⟩

theorem wit_SleepAndWake_1 : ∃ (s : State) (n : Fin 8), s.blk.Ready ∧ s.blk.nstate (16 + n) = 1 ∧ s.blk.linResponder
    (16 + n) = true :=
  ⟨{ blk := tb141 }, (2 : Fin 8), tb141_ready, by decide +kernel⟩

def tb142 : Block :=
  (bench.setF F.CAN_STAT_STATE 5 3)
theorem tb142_ready : tb142.Ready :=
  (ready_setF _ F.CAN_STAT_STATE 5 3 (by decide) bench_ready)

theorem wit_SleepAndWake_2 : ∃ (s : State) (ch : BusAt), s.blk.Ready ∧ (isCan ch.ch = true ∨ isLin ch.ch = true ∨
    isEth ch.ch = true) ∧ s.blk.nstate ch.ch = 3 :=
  ⟨{ blk := tb142 }, (⟨5, true⟩ : BusAt), tb142_ready, by decide +kernel⟩

def tb143 : Block :=
  ({ (bench.setF F.CAN_STAT_STATE 5 3) with net := { bench.net with ch := [(5, { armed := true })] } } : Block)
theorem tb143_ready : tb143.Ready :=
  (ready_congr (b := (bench.setF F.CAN_STAT_STATE 5 3)) (ready_setF _ F.CAN_STAT_STATE 5 3 (by decide) bench_ready)
    rfl rfl rfl)

theorem wit_SleepAndWake_3 : ∃ (s : State) (ch : Fin 28), s.blk.Ready ∧ (isCan ch = true ∨ isLin ch = true ∨ isEth
    ch = true) ∧ s.blk.nstate ch = 3 ∧ (s.blk.nch ch).armed = true :=
  ⟨{ blk := tb143 }, (5 : Fin 28), tb143_ready, by decide +kernel⟩

theorem wit_SleepAndWake_4 : ∃ (s : State) (ch : BusAt), s.blk.Ready ∧ (isCan ch.ch = true ∨ isLin ch.ch = true ∨
    isEth ch.ch = true) ∧ s.blk.nstate ch.ch = 3 :=
  ⟨{ blk := tb142 }, (⟨5, true⟩ : BusAt), tb142_ready, by decide +kernel⟩

def tb144 : Block :=
  (bench.setF F.LIN_STAT_STATE 1 4)
theorem tb144_ready : tb144.Ready :=
  (ready_setF _ F.LIN_STAT_STATE 1 4 (by decide) bench_ready)

theorem wit_SleepAndWake_5 : ∃ (s : State) (ch : Fin 28) (seen : NetSeen), s.blk.Ready ∧ (isCan ch = true ∨ isLin ch
    = true ∨ isEth ch = true) ∧ s.blk.nstate ch = 4 ∧ (s.blk.detect ch seen).2 = 1 ∧ ((s.blk.nch ch).prev = 1 ∨
    (s.blk.nch ch).prev = 2) :=
  ⟨{ blk := tb144 }, (17 : Fin 28), ((.pulse 1000000) : NetSeen), tb144_ready, by decide +kernel⟩

def tb145 : Block :=
  ((bench.setF F.ETH_PSTAT_STATE 1 1).setF F.ETH_PCFG_TC10ACC 1 1)
theorem tb145_ready : tb145.Ready :=
  (ready_setF _ F.ETH_PCFG_TC10ACC 1 1 (by decide) (ready_setF _ F.ETH_PSTAT_STATE 1 1 (by decide) bench_ready))

theorem wit_SleepAndWake_6 : ∃ (s : State) (p : Fin 2), s.blk.Ready ∧ s.blk.nstate (24 + p) = 1 ∧ s.blk.flag
    F.ETH_PCFG_TC10ACC p = true :=
  ⟨{ blk := tb145 }, (1 : Fin 2), tb145_ready, by decide +kernel⟩

def tb146 : Block :=
  ((bench.setF F.ETH_PSTAT_STATE 1 1).setF F.ETH_PCFG_TC10ACC 1 0)
theorem tb146_ready : tb146.Ready :=
  (ready_setF _ F.ETH_PCFG_TC10ACC 1 0 (by decide) (ready_setF _ F.ETH_PSTAT_STATE 1 1 (by decide) bench_ready))

theorem wit_SleepAndWake_7 : ∃ (s : State) (p : Fin 2), s.blk.Ready ∧ s.blk.nstate (24 + p) = 1 ∧ s.blk.flag
    F.ETH_PCFG_TC10ACC p = false :=
  ⟨{ blk := tb146 }, (1 : Fin 2), tb146_ready, by decide +kernel⟩

def tb147 : Block :=
  (bench.setF F.ETH_PSTAT_STATE 1 3)
theorem tb147_ready : tb147.Ready :=
  (ready_setF _ F.ETH_PSTAT_STATE 1 3 (by decide) bench_ready)

theorem wit_SleepAndWake_8 : ∃ (s : State) (p : Fin 2), s.blk.Ready ∧ s.blk.nstate (24 + p) = 3 :=
  ⟨{ blk := tb147 }, (1 : Fin 2), tb147_ready, by decide +kernel⟩

theorem wit_SleepAndWake_9 : ∃ (s : State) (p : Fin 2), s.blk.Ready ∧ s.blk.nstate (24 + p) = 3 :=
  ⟨{ blk := tb147 }, (1 : Fin 2), tb147_ready, by decide +kernel⟩

theorem wit_SuppliesAndClocks_0 : ∃ (s : State) (n : Fin 3) (ma : Nat), s.blk.Ready ∧ 60000 < ma :=
  ⟨{ blk := bench }, (1 : Fin 3), (70000 : Nat), bench_ready, by decide +kernel⟩

theorem wit_SuppliesAndClocks_1 : ∃ (s : State) (ma : Nat), s.blk.Ready ∧ 160000 < ma :=
  ⟨{ blk := bench }, (170000 : Nat), bench_ready, by decide +kernel⟩

theorem wit_SuppliesAndClocks_2 : ∃ (s : State) (n : Fin 3) (mv : Nat) (lg : Nat), s.blk.Ready ∧ mv < 6000 ∧ 9000 ≤
    lg :=
  ⟨{ blk := bench }, (2 : Fin 3), (5000 : Nat), (9000 : Nat), bench_ready, by decide +kernel⟩

theorem wit_SuppliesAndClocks_3 : ∃ (s : State) (n : Fin 3) (mv : Nat), s.blk.Ready ∧ bandOff (bandOf (s.blk.flag
    F.PWR_CFG_SYSV 0) (s.blk.feedBandOf n) mv) = false :=
  ⟨{ blk := bench }, (0 : Fin 3), (14000 : Nat), bench_ready, by decide +kernel⟩

def tb148 : Block :=
  ({ bench with pw := { bench.pw with feedOff := [(0, true)] } } : Block)
theorem tb148_ready : tb148.Ready :=
  (ready_congr (b := bench) bench_ready rfl rfl rfl)

theorem wit_SuppliesAndClocks_4 : ∃ (s : State) (n : Fin 3), s.blk.Ready ∧ Tab.get false s.blk.pw.feedOff n = true ∧
    bandOff (s.blk.feedBandOf n) = false :=
  ⟨{ blk := tb148 }, (0 : Fin 3), tb148_ready, by decide +kernel⟩

theorem wit_SuppliesAndClocks_5 : ∃ (s : State) (mv : Nat), s.blk.Ready ∧ bandOf (s.blk.flag F.PWR_CFG_SYSV 0)
    (s.blk.getF F.PWR_STATE_BAND 0) mv ≠ 0 ∧ bandOf (s.blk.flag F.PWR_CFG_SYSV 0) (s.blk.getF F.PWR_STATE_BAND 0) mv
    ≠ s.blk.getF F.PWR_STATE_BAND 0 :=
  ⟨{ blk := bench }, (8000 : Nat), bench_ready, by decide +kernel⟩

theorem wit_SuppliesAndClocks_6 : ∃ (s : State) (ppm : Int), s.blk.Ready ∧ (20000 < ppm ∨ ppm < -20000) :=
  ⟨{ blk := bench }, (30000 : Int), bench_ready, by decide +kernel⟩

theorem wit_SuppliesAndClocks_7 : ∃ (s : State) (us : Nat), s.blk.Ready ∧ 1000 < us :=
  ⟨{ blk := bench }, (2000 : Nat), bench_ready, by decide +kernel⟩

theorem wit_SuppliesAndClocks_8 : ∃ (s : State) (i : Fin 5) (t : Int), s.blk.Ready ∧ Tab.get false s.blk.pw.tempHigh
    i = false ∧ Block.tempLimit i * 16 < t :=
  ⟨{ blk := bench }, (2 : Fin 5), (3000 : Int), bench_ready, by decide +kernel⟩

theorem wit_SuppliesAndClocks_9 : ∃ (s : State) (n : Fin 9) (t : BitVec 16), s.blk.Ready ∧ s.blk.pg
    (Block.sensorDomain n) = true :=
  ⟨{ blk := bench }, (5 : Fin 9), (0x123 : BitVec 16), bench_ready, by decide +kernel⟩

theorem wit_SuppliesAndClocks_10 : ∃ (s : State) (l : Fin 7), s.blk.Ready :=
  ⟨{ blk := bench }, (3 : Fin 7), bench_ready⟩

theorem wit_SuppliesAndClocks_11 : ∃ (s : State) (who : Who) (v : Word), s.blk.Ready ∧ s.blk.CanWrite who
    (R.PWR_RTC0.at 0) :=
  ⟨{ blk := bench }, (.host : Who), (5 : Word), bench_ready, by decide +kernel⟩

theorem wit_SuppliesAndClocks_12 : ∃ (s : State) (who : Who) (v : BitVec 16), s.blk.Ready ∧ s.blk.CanWrite who
    (R.PWR_RTC1.at 0) :=
  ⟨{ blk := bench }, ((.core 0) : Who), (5 : BitVec 16), bench_ready, by decide +kernel⟩

theorem wit_SuppliesAndClocks_13 : ∃ (s : State) (who : Who) (stale : Bool), s.blk.Ready ∧ s.blk.CanRead who
    (R.PWR_RTC0.at 0) :=
  ⟨{ blk := bench }, ((.core 3) : Who), (true : Bool), bench_ready, by decide +kernel⟩

theorem wit_SuppliesAndClocks_14 : ∃ (s : State) (who : Who) (v : BitVec 16), s.blk.Ready ∧ s.blk.CanWrite who
    (R.PWR_RTCALM1.at 0) :=
  ⟨{ blk := bench }, (.host : Who), (9 : BitVec 16), bench_ready, by decide +kernel⟩

def tb149 : Block :=
  ((bench.wr R.PWR_RTCALM0 0 (7)).wr R.PWR_RTCALM1 0 (0))
theorem tb149_ready : tb149.Ready :=
  (ready_wr _ R.PWR_RTCALM1 0 (0) (by decide) (ready_wr _ R.PWR_RTCALM0 0 (7) (by decide) bench_ready))

theorem wit_SuppliesAndClocks_15 : ∃ (s : State) (count : BitVec 48) (phase : Fin 3) (rk : Fin 16), s.blk.Ready ∧
    count.toNat = s.blk.rtcAlarm :=
  ⟨{ blk := tb149 }, (7 : BitVec 48), (0 : Fin 3), (0 : Fin 16), tb149_ready, by decide +kernel⟩

theorem wit_SuppliesAndClocks_16 : ∃ (s : State) (high : Bool) (phase : Fin 3) (rk : Fin 16), s.blk.Ready ∧
    s.blk.flag F.PWR_STATE_IGN 0 ≠ high :=
  ⟨{ blk := bench }, (true : Bool), (0 : Fin 3), (0 : Fin 16), bench_ready, by decide +kernel⟩

def tb150 : Block :=
  (bench.setF F.CDC_XSTAT_PEAK 3 9)
theorem tb150_ready : tb150.Ready :=
  ⟨⟨rfl, by decide +kernel, by decide +kernel, by decide +kernel⟩, fun e he => (by decide +kernel : ∀ e : Fin 256,
    tb150.getF F.CATCH_SRC_CLASS e ≤ 1 ∧ tb150.getF F.CATCH_SRC_ACT e < 8) ⟨e, he⟩, ⟨rfl, rfl⟩, by decide +kernel⟩

theorem wit_SuppliesAndClocks_17 : ∃ (s : State) (who : Who), s.blk.Ready ∧ s.blk.CanWrite who (R.CDC_CTL.at 0) :=
  ⟨{ blk := tb150 }, (.host : Who), tb150_ready, by decide +kernel⟩

theorem wit_SuppliesAndClocks_18 : ∃ (s : State) (v : Fin 2048), s.blk.Ready :=
  ⟨{ blk := bench }, (600 : Fin 2048), bench_ready⟩

def tb151 : Block :=
  (bench.setF F.CDC_ISTAT_GATED 3 1)
theorem tb151_ready : tb151.Ready :=
  (ready_setF _ F.CDC_ISTAT_GATED 3 1 (by decide) bench_ready)

theorem wit_SuppliesAndClocks_19 : ∃ (s : State) (i : Fin 9), s.blk.Ready ∧ s.blk.flag F.CDC_ISTAT_GATED i = true :=
  ⟨{ blk := tb151 }, (3 : Fin 9), tb151_ready, by decide +kernel⟩

theorem wit_SuppliesAndClocks_20 : ∃ (s : State) (x : Fin 56), s.blk.Ready ∧ s.blk.flag F.CDC_ISTAT_GATED (islandOf
    x) = true :=
  ⟨{ blk := tb151 }, (49 : Fin 56), tb151_ready, by decide +kernel⟩

theorem wit_DomainsAndCores_0 : ∃ (s : State) (who : Who) (d : Fin 10), s.blk.Ready ∧ s.blk.CanWrite who
    (R.PWR_DOMCTL.at 0) :=
  ⟨{ blk := bench }, (.host : Who), (4 : Fin 10), bench_ready, by decide +kernel⟩

def tb152 : Block :=
  ((bench.setF F.PWR_DOMSTAT_PG 0 0xF).wr R.PWR_DOMCTL 0 (0x10))
theorem tb152_ready : tb152.Ready :=
  (ready_wr _ R.PWR_DOMCTL 0 (0x10) (by decide) (ready_pg _ 0xF (by decide) bench_ready))

theorem wit_DomainsAndCores_1 : ∃ (s : State) (d : Fin 10) (rk : Fin 16), s.blk.Ready ∧ s.blk.domBit (3 + d) = true
    ∧ s.blk.pg (3 + d) = false ∧ s.blk.boot.ran = false :=
  ⟨{ blk := tb152 }, (1 : Fin 10), (0 : Fin 16), tb152_ready, by decide +kernel⟩

theorem wit_DomainsAndCores_2 : ∃ (s : State) (d : Fin 10), s.blk.Ready ∧ s.blk.domBit (3 + d) = true ∧ s.blk.pg (3
    + d) = false :=
  ⟨{ blk := tb152 }, (1 : Fin 10), tb152_ready, by decide +kernel⟩

def tb153 : Block :=
  (bench.wr R.PWR_DOMCTL 0 (0x1FF8))
theorem tb153_ready : tb153.Ready :=
  (ready_wr _ R.PWR_DOMCTL 0 (0x1FF8) (by decide) bench_ready)

theorem wit_DomainsAndCores_3 : ∃ (s : State) (who : Who) (d : Fin 10), s.blk.Ready ∧ s.blk.CanWrite who
    (R.PWR_DOMCTL.at 0) ∧ s.blk.domBit (3 + d) = true ∧ s.blk.pg (3 + d) = true ∧ s.blk.domainBusy (3 + d) = false
    :=
  ⟨{ blk := tb153 }, (.host : Who), (4 : Fin 10), tb153_ready, by decide +kernel⟩

def tb154 : Block :=
  ({ (bench.setF F.HEP_STAT_STATE 7 1) with boot := { bench.boot with heads := [(3, [1])] } } : Block)
theorem tb154_ready : tb154.Ready :=
  (ready_congr (b := (bench.setF F.HEP_STAT_STATE 7 1)) (ready_core _ 7 1 (by decide) (by decide) bench_ready) rfl
    rfl rfl)

theorem wit_DomainsAndCores_4 : ∃ (s : State) (c : Fin 15), s.blk.Ready ∧ 6 ≤ c.val ∧ s.blk.coreState c = 1 ∧
    s.blk.hq.flights = [] ∧ Tab.get [] s.blk.boot.heads ([0, 0, 0, 0, 0, 0, 3, 3, 3, 3, 4, 4, 5, 6, 7].getD c 0) ≠
    [] :=
  ⟨{ blk := tb154 }, (7 : Fin 15), tb154_ready, by decide +kernel⟩

def tb155 : Block :=
  (bench.setF F.HEP_STAT_STATE 3 1)
theorem tb155_ready : tb155.Ready :=
  (ready_core _ 3 1 (by decide) (by decide) bench_ready)

theorem wit_DomainsAndCores_5 : ∃ (s : State) (who : Who) (c : Fin 4), s.blk.Ready ∧ s.blk.CanWrite who
    (R.HEP_CCTL.at c) ∧ s.blk.coreState (2 + c) = 1 :=
  ⟨{ blk := tb155 }, (.host : Who), (1 : Fin 4), tb155_ready, by decide +kernel⟩

theorem wit_DomainsAndCores_6 : ∃ (s : State) (who : Who), s.blk.Ready ∧ s.blk.CanWrite who (R.HEP_SWDCFG.at 0) ∧
    s.blk.flag F.HEP_SWDCFG_EN 0 = false ∧ s.blk.isLocked = false :=
  ⟨{ blk := bench }, (.host : Who), bench_ready, by decide +kernel⟩

def tb156 : Block :=
  (bench.setF F.HEP_SWDCFG_EN 0 1)
theorem tb156_ready : tb156.Ready :=
  (ready_setF _ F.HEP_SWDCFG_EN 0 1 (by decide) bench_ready)

theorem wit_DomainsAndCores_7 : ∃ (s : State) (c : Fin 2), s.blk.Ready ∧ s.blk.CanWrite (.core (Fin.ofNat 15 c))
    (R.HEP_SWDKICK.at 0) ∧ s.blk.flag F.HEP_SWDCFG_EN 0 = true :=
  ⟨{ blk := tb156 }, (0 : Fin 2), tb156_ready, by decide +kernel⟩

theorem wit_DomainsAndCores_8 : ∃ (s : State), s.blk.Ready ∧ s.blk.flag F.HEP_SWDCFG_EN 0 = true :=
  ⟨{ blk := tb156 }, tb156_ready, by decide +kernel⟩

def tb157 : Block :=
  (bench.setF F.HEP_STAT_STATE 3 2)
theorem tb157_ready : tb157.Ready :=
  (ready_core _ 3 2 (by decide) (by decide) bench_ready)

theorem wit_DomainsAndCores_9 : ∃ (s : State) (c : Fin 2) (w : Word), s.blk.Ready ∧ s.blk.CanWrite (.core (Fin.ofNat
    15 c)) (R.HEP_CRST.at 0) ∧ bits w.toNat 31 16 = 0x5C0E ∧ 2 ≤ bits w.toNat 3 0 ∧ bits w.toNat 3 0 ≤ 5 ∧
    s.blk.flag F.HEP_CCTL_AUTORUN (bits w.toNat 3 0 - 2) = false ∧ s.blk.coreState (bits w.toNat 3 0) ≠ 0 :=
  ⟨{ blk := tb157 }, (0 : Fin 2), (0x5C0E0003 : Word), tb157_ready, by decide +kernel⟩

def tb158 : Block :=
  ({ bench with boot := { bench.boot with hashing := true } } : Block)
theorem tb158_ready : tb158.Ready :=
  (ready_congr (b := bench) bench_ready rfl rfl rfl)

theorem wit_DomainsAndCores_10 : ∃ (s : State) (fl : List (Nat × Byte)), s.blk.Ready ∧ s.blk.boot.hashing = true ∧
    s.blk.flag F.CATCH_INJ_ARM 0 = false :=
  ⟨{ blk := tb158 }, ([] : List (Nat × Byte)), tb158_ready, by decide +kernel⟩

theorem wit_ResetsAndStill_1 : ∃ (s : State), s.blk.pw.inReset ≠ .powerOn :=
  ⟨{ blk := bench }, by decide +kernel⟩

def tb159 : Block :=
  ({ pw := { inReset := .brownOut, brown := true } } : Block)

theorem wit_ResetsAndStill_2 : ∃ (s : State), s.blk.catchm.due = [] ∧ s.blk.pg 1 = false ∧ s.blk.pw.brown = true ∧
    s.blk.pw.inReset = .brownOut :=
  ⟨{ blk := tb159 }, by decide +kernel⟩

def tb160 : Block :=
  ({ bench with boot := { bench.boot with coldWake := true, recReq := true } } : Block)
theorem tb160_ready : tb160.Ready :=
  (ready_congr (b := bench) bench_ready rfl rfl rfl)

theorem wit_ResetsAndStill_4 : ∃ (s : State) (bcr : Fin 4) (rec : Fin 4) (rk : Fin 16), s.blk.Ready ∧ s.blk.pw.brown
    = false ∧ s.blk.boot.coldWake = true ∧ s.blk.boot.recReq = true ∧ s.blk.catchm.later = [] ∧ s.blk.pg 8 = true :=
  ⟨{ blk := tb160 }, (0 : Fin 4), (0 : Fin 4), (0 : Fin 16), tb160_ready, by decide +kernel⟩

theorem wit_ResetsAndStill_5 : ∃ (s : State) (c : Fin 2), s.blk.Ready ∧ s.blk.CanWrite (.core (Fin.ofNat 15 c))
    (R.PWR_STILL.at 0) ∧ s.blk.getF F.PWR_STATE_STATE 0 = 2 ∧ s.blk.anyOutput = false ∧ s.blk.netsAsleep = true :=
  ⟨{ blk := bench }, (0 : Fin 2), bench_ready, by decide +kernel⟩

def tb161 : Block :=
  ({ bench with pw := { bench.pw with still := .entering } } : Block)

theorem wit_ResetsAndStill_6 : ∃ (s : State) (rk : Fin 16), s.blk.pw.still = .entering ∧ s.blk.pw.heldWake = false ∧
    s.blk.pw.gaugeOff = false :=
  ⟨{ blk := tb161 }, (0 : Fin 16), by decide +kernel⟩

def tb162 : Block :=
  (({ pw := { inReset := .none, still := .still } } : Block).wr R.PWR_WAKEEN1 0 0x1000)

theorem wit_ResetsAndStill_7 : ∃ (s : State) (src : Fin 45) (phase : Fin 3) (seen : WakeSeen) (rk : Fin 16), (decide
    (src.val < 16) && !((Tab.get none s.blk.pw.diWake src).all fun w => Block.diWakes w seen.di.mv seen.di.ticks
    seen.di.idle)) = false ∧ ((Block.wakeCh src).all fun c => !((s.blk.detect c seen.net).2 == 0)) = true ∧
    s.blk.catchm.due = [] ∧ s.blk.pw.still = .still ∧ s.blk.pw.gaugeOff = false ∧ s.blk.wakeEnabled src = true ∧
    s.blk.wakeArmed src = true ∧ (List.range 8).all (fun n => s.blk.chState n == Ch.disabled) = true :=
  ⟨{ blk := tb162 }, (44 : Fin 45), (0 : Fin 3), ({} : WakeSeen), (0 : Fin 16), by decide +kernel⟩

def tb163 : Block :=
  ({ bench with pw := { bench.pw with still := .waking } } : Block)

theorem wit_ResetsAndStill_8 : ∃ (s : State) (fl : List (Nat × Byte)), s.blk.Calm ∧ s.blk.Tame ∧ s.blk.pw.inReset =
    .none ∧ s.blk.pw.still = .waking ∧ s.blk.flag F.CATCH_INJ_ARM 0 = false :=
  ⟨{ blk := tb163 }, ([] : List (Nat × Byte)), ⟨rfl, by decide +kernel, by decide +kernel, by decide +kernel⟩, fun e
    he => (by decide +kernel : ∀ e : Fin 256, tb163.getF F.CATCH_SRC_CLASS e ≤ 1 ∧ tb163.getF F.CATCH_SRC_ACT e < 8)
    ⟨e, he⟩, by decide +kernel⟩

def tb164 : Block :=
  ({ pw := { inReset := .none, still := .still }, acs := { still := [8, 0, 0, 0, 0] } } : Block)

theorem wit_ResetsAndStill_9 : ∃ (s : State), s.blk.catchm.due = [] ∧ s.blk.pw.still = .still ∧ s.blk.pg 1 = false ∧
    bit (s.blk.acs.still.getD 0 0) 3 = true :=
  ⟨{ blk := tb164 }, by decide +kernel⟩

def tb165 : Block :=
  (bench.setF F.SYS_LOCKSTAT_LOCKED 0 0)
theorem tb165_ready : tb165.Ready :=
  (ready_setF _ F.SYS_LOCKSTAT_LOCKED 0 0 (by decide) bench_ready)

theorem wit_RegisterWrites_0 : ∃ (s : State) (who : Who) (off : BitVec 24) (ws : List Word), s.blk.Ready ∧
    s.blk.spaceHeld = false ∧ off.toNat < 0x100000 ∧ s.blk.writeCause who off.toNat 4 = none ∧ (findReg
    off.toNat).isSome = true ∧ ((findReg off.toNat).all fun x => (hookOf x.1 (Block.hooks who)).isNone) = true ∧
    ((findReg off.toNat).any fun x => x.1.late s.blk.isLocked (s.blk.rd x.1 x.2) ((ws.getD 0 0).toNat)) = false :=
  ⟨{ blk := tb165 }, (.host : Who), (0x20200 : BitVec 24), ([0xFFFFFFFF] : List Word), tb165_ready, by
    decide +kernel⟩

def tb166 : Block :=
  ((bench.setF F.SYS_LOCKSTAT_LOCKED 0 1).wr R.LMP_CFG 0 (0))
theorem tb166_ready : tb166.Ready :=
  (ready_wr _ R.LMP_CFG 0 (0) (by decide) (ready_setF _ F.SYS_LOCKSTAT_LOCKED 0 1 (by decide) bench_ready))

theorem wit_RegisterWrites_1 : ∃ (s : State) (who : Who) (off : BitVec 24) (ws : List Word), s.blk.Ready ∧
    s.blk.spaceHeld = false ∧ off.toNat < 0x100000 ∧ s.blk.writeCause who off.toNat 4 = none ∧ (findReg
    off.toNat).isSome = true ∧ ((findReg off.toNat).all fun x => (hookOf x.1 (Block.hooks who)).isNone) = true ∧
    ((findReg off.toNat).any fun x => x.1.late s.blk.isLocked (s.blk.rd x.1 x.2) ((ws.getD 0 0).toNat)) = true :=
  ⟨{ blk := tb166 }, (.host : Who), (0x20200 : BitVec 24), ([0x7] : List Word), tb166_ready, by decide +kernel⟩

theorem wit_RegisterWrites_2 : ∃ (s : State) (off : BitVec 24) (ws : List Word) (size : Fin 129) (who : Who) (c :
    Nat), s.blk.Ready ∧ s.blk.spaceHeld = false ∧ off.toNat < 0x100000 ∧ size.val ≤ 4 ∧ c ≠ 6 ∧ s.blk.writeCause who
    off.toNat size = some c :=
  ⟨{ blk := bench }, (0x20202 : BitVec 24), ([5] : List Word), (4 : Fin 129), (.host : Who), (2 : Nat), bench_ready,
    by decide +kernel⟩

theorem wit_RegisterWrites_3 : ∃ (s : State) (who : Who), s.blk.Ready ∧ s.blk.CanWrite who (R.SYS_LOCK.at 0) ∧
    s.blk.isLocked = false :=
  ⟨{ blk := tb165 }, (.host : Who), tb165_ready, by decide +kernel⟩

theorem wit_RegisterWrites_4 : ∃ (s : State) (who : Who) (key : BitVec 16), s.blk.Ready ∧ s.blk.CanWrite who
    (R.SYS_LOCK.at 0) ∧ key.toNat ≠ 0x5EA1 :=
  ⟨{ blk := bench }, (.host : Who), (7 : BitVec 16), bench_ready, by decide +kernel⟩

def tb167 : Block :=
  ((bench.setF F.HQ_QSTAT_STATE 3 1).setF F.HQ_QCFG_EN 3 1)
theorem tb167_ready : tb167.Ready :=
  (ready_setF _ F.HQ_QCFG_EN 3 1 (by decide) (ready_setF _ F.HQ_QSTAT_STATE 3 1 (by decide) bench_ready))

theorem wit_HostLink_0 : ∃ (s : State), s.blk.Ready :=
  ⟨{ blk := tb167 }, tb167_ready⟩

def tb168 : Block :=
  ((bench.setF F.HQ_LINK_UP 0 1).setF F.HQ_QSTAT_STATE 3 1)
theorem tb168_ready : tb168.Ready :=
  (ready_setF _ F.HQ_QSTAT_STATE 3 1 (by decide) (ready_setF _ F.HQ_LINK_UP 0 1 (by decide) bench_ready))

theorem wit_HostLink_1 : ∃ (s : State), s.blk.Ready :=
  ⟨{ blk := tb168 }, tb168_ready⟩

theorem wit_HostLink_2 : ∃ (s : State), s.blk.Ready :=
  ⟨{ blk := tb168 }, tb168_ready⟩

def tb169 : Block :=
  ((bench.setF F.HQ_LINK_UP 0 0).setF F.SYS_NODE_VALID 0 0)
theorem tb169_ready : tb169.Ready :=
  (ready_setF _ F.SYS_NODE_VALID 0 0 (by decide) (ready_setF _ F.HQ_LINK_UP 0 0 (by decide) bench_ready))

theorem wit_HostLink_3 : ∃ (s : State) (speed : Fin 4) (width : Fin 3), s.blk.Ready ∧ s.blk.pg 8 = true ∧
    (s.blk.flag F.SYS_NODE_VALID 0 = false ∨ s.blk.flag F.SYS_NODE_HEAD 0 = true ∨ s.blk.flag F.SYS_NODE_STANDBY 0 =
    true) ∧ s.blk.flag F.HQ_LINK_UP 0 = false ∧ 1 ≤ speed.val ∧ 1 ≤ width.val ∧ speed.val ≤ s.blk.hq.pci.gen ∧
    width.val ≤ s.blk.hq.pci.lanes :=
  ⟨{ blk := tb169 }, (3 : Fin 4), (1 : Fin 3), tb169_ready, by decide +kernel⟩

def tb170 : Block :=
  (bench.setF F.HQ_LINK_UP 0 1)
theorem tb170_ready : tb170.Ready :=
  (ready_setF _ F.HQ_LINK_UP 0 1 (by decide) bench_ready)

theorem wit_HostLink_4 : ∃ (s : State), s.blk.Ready ∧ s.blk.flag F.HQ_LINK_UP 0 = true :=
  ⟨{ blk := tb170 }, tb170_ready, by decide +kernel⟩

def tb171 : Block :=
  (((bench.setF F.HQ_LINK_UP 0 1).setF F.HQ_LINK_D3 0 1).setF F.HQ_QSTAT_STATE 3 1)
theorem tb171_ready : tb171.Ready :=
  (ready_setF _ F.HQ_QSTAT_STATE 3 1 (by decide) (ready_setF _ F.HQ_LINK_D3 0 1 (by decide) (ready_setF _
    F.HQ_LINK_UP 0 1 (by decide) bench_ready)))

theorem wit_HostLink_5 : ∃ (s : State) (nosoft : Bool), s.blk.Ready ∧ s.blk.flag F.HQ_LINK_D3 0 = true :=
  ⟨{ blk := tb171 }, (false : Bool), tb171_ready, by decide +kernel⟩

theorem wit_HostLink_6 : ∃ (s : State), s.blk.Ready :=
  ⟨{ blk := bench }, bench_ready⟩

theorem wit_HostLink_7 : ∃ (s : State), s.blk.Ready ∧ s.blk.flag F.HQ_LINK_UP 0 = true :=
  ⟨{ blk := tb170 }, tb170_ready, by decide +kernel⟩

def tb172 : Block :=
  ((bench.setF F.HQ_QCFG_SQLOG 3 8).setF F.HQ_QCFG_CQLOG 3 8)
theorem tb172_ready : tb172.Ready :=
  (ready_setF _ F.HQ_QCFG_CQLOG 3 8 (by decide) (ready_setF _ F.HQ_QCFG_SQLOG 3 8 (by decide) bench_ready))

theorem wit_QueueState_0 : ∃ (s : State) (who : Who) (q : Fin 64), s.blk.Ready ∧ s.blk.CanWrite who (R.HQ_QCFG.at q)
    ∧ s.blk.qState q = 0 ∧ Block.logOk (s.blk.getF F.HQ_QCFG_SQLOG q) = true ∧ Block.logOk (s.blk.getF
    F.HQ_QCFG_CQLOG q) = true :=
  ⟨{ blk := tb172 }, (.host : Who), (3 : Fin 64), tb172_ready, by decide +kernel⟩

def tb173 : Block :=
  (bench.setF F.HQ_QCFG_SQLOG 3 5)
theorem tb173_ready : tb173.Ready :=
  (ready_setF _ F.HQ_QCFG_SQLOG 3 5 (by decide) bench_ready)

theorem wit_QueueState_1 : ∃ (s : State) (who : Who) (q : Fin 64), s.blk.Ready ∧ s.blk.CanWrite who (R.HQ_QCFG.at q)
    ∧ s.blk.qState q = 0 ∧ Block.logOk (s.blk.getF F.HQ_QCFG_SQLOG q) = false :=
  ⟨{ blk := tb173 }, (.host : Who), (3 : Fin 64), tb173_ready, by decide +kernel⟩

def tb174 : Block :=
  ({ (bench.setF F.HQ_QSTAT_STATE 3 1) with hq := { bench.hq with flights := [{ q := 3, desc := { src := .queue 3, dws := [0x10], payload := [] }, stage := .arrived }] } }
    : Block)
theorem tb174_ready : tb174.Ready :=
  (ready_congr (b := (bench.setF F.HQ_QSTAT_STATE 3 1)) (ready_setF _ F.HQ_QSTAT_STATE 3 1 (by decide) bench_ready)
    rfl rfl rfl)

theorem wit_QueueState_2 : ∃ (s : State) (who : Who) (q : Fin 64), s.blk.Ready ∧ s.blk.CanWrite who (R.HQ_QCFG.at q)
    ∧ s.blk.qState q = 1 :=
  ⟨{ blk := tb174 }, (.host : Who), (3 : Fin 64), tb174_ready, by decide +kernel⟩

def tb175 : Block :=
  (bench.setF F.HQ_QSTAT_STATE 3 2)
theorem tb175_ready : tb175.Ready :=
  (ready_setF _ F.HQ_QSTAT_STATE 3 2 (by decide) bench_ready)

theorem wit_QueueState_3 : ∃ (s : State) (q : Fin 64), s.blk.Ready ∧ (s.blk.qState q = 2 ∨ (s.blk.qState q = 3 ∧
    s.blk.getF F.HQ_QCFG_EN q = 0)) ∧ s.blk.inFlight q = 0 :=
  ⟨{ blk := tb175 }, (3 : Fin 64), tb175_ready, by decide +kernel⟩

theorem wit_QueueState_4 : ∃ (s : State) (who : Who) (q : Fin 64) (w : Word), s.blk.Ready ∧ s.blk.CanWrite who
    (R.HQ_QIDX.at q) ∧ s.blk.qState q = 0 :=
  ⟨{ blk := bench }, (.host : Who), (3 : Fin 64), (0x50006 : Word), bench_ready, by decide +kernel⟩

def tb176 : Block :=
  (bench.setF F.HQ_QSTAT_STATE 3 1)
theorem tb176_ready : tb176.Ready :=
  (ready_setF _ F.HQ_QSTAT_STATE 3 1 (by decide) bench_ready)

theorem wit_QueueState_5 : ∃ (s : State) (who : Who) (q : Fin 64) (w : Word), s.blk.Ready ∧ s.blk.CanWrite who
    (R.HQ_QIDX.at q) ∧ s.blk.qState q ≠ 0 :=
  ⟨{ blk := tb176 }, (.host : Who), (3 : Fin 64), (0x50006 : Word), tb176_ready, by decide +kernel⟩

def tb177 : Block :=
  (bench.setF F.HQ_EQCFG_LOG 3 6)
theorem tb177_ready : tb177.Ready :=
  (ready_setF _ F.HQ_EQCFG_LOG 3 6 (by decide) bench_ready)

theorem wit_QueueState_6 : ∃ (s : State) (who : Who) (e : Fin 8), s.blk.Ready ∧ s.blk.CanWrite who (R.HQ_EQCFG.at e)
    ∧ s.blk.eqState e = 0 ∧ Block.logOk (s.blk.getF F.HQ_EQCFG_LOG e) = true :=
  ⟨{ blk := tb177 }, (.host : Who), (3 : Fin 8), tb177_ready, by decide +kernel⟩

def tb178 : Block :=
  (bench.setF F.HQ_EQSTAT_STATE 3 3)
theorem tb178_ready : tb178.Ready :=
  (ready_setF _ F.HQ_EQSTAT_STATE 3 3 (by decide) bench_ready)

theorem wit_QueueState_7 : ∃ (s : State) (who : Who) (e : Fin 8), s.blk.Ready ∧ s.blk.CanWrite who (R.HQ_EQCFG.at e)
    :=
  ⟨{ blk := tb178 }, (.host : Who), (3 : Fin 8), tb178_ready, by decide +kernel⟩

theorem wit_QueueState_8 : ∃ (s : State) (who : Who) (e : Fin 8) (w : Word), s.blk.Ready ∧ s.blk.CanWrite who
    (R.HQ_EQIDX.at e) ∧ s.blk.eqState e = 0 :=
  ⟨{ blk := bench }, (.host : Who), (3 : Fin 8), (5 : Word), bench_ready, by decide +kernel⟩

theorem wit_QueueState_9 : ∃ (s : State) (q : Fin 64) (w : DbWrite) (v : Word), s.blk.Ready ∧ w.width = 4 ∧ v.toNat
    < s.blk.sqSize q :=
  ⟨{ blk := tb172 }, (3 : Fin 64), (⟨4, 0⟩ : DbWrite), (5 : Word), tb172_ready, by decide +kernel⟩

theorem wit_QueueState_10 : ∃ (s : State) (q : Fin 64) (w : DbWrite) (v : Word), s.blk.Ready ∧ w.width = 4 ∧
    s.blk.sqSize q ≤ v.toNat :=
  ⟨{ blk := tb172 }, (3 : Fin 64), (⟨4, 0⟩ : DbWrite), (500 : Word), tb172_ready, by decide +kernel⟩

theorem wit_QueueState_11 : ∃ (s : State) (q : Fin 64) (w : DbWrite) (v : Word), s.blk.Ready ∧ w.width ≠ 4 :=
  ⟨{ blk := tb172 }, (3 : Fin 64), (⟨4, 1⟩ : DbWrite), (500 : Word), tb172_ready, by decide +kernel⟩

def tb179 : Block :=
  (((bench.setF F.HQ_QCFG_SQLOG 3 8).setF F.HQ_QCFG_CQLOG 3 8).setF F.HQ_QIDX_CQTAIL 3 7)
theorem tb179_ready : tb179.Ready :=
  (ready_setF _ F.HQ_QIDX_CQTAIL 3 7 (by decide) (ready_setF _ F.HQ_QCFG_CQLOG 3 8 (by decide) (ready_setF _
    F.HQ_QCFG_SQLOG 3 8 (by decide) bench_ready)))

theorem wit_QueueState_12 : ∃ (s : State) (q : Fin 64) (w : DbWrite) (v : Word), s.blk.Ready ∧ w.width = 4 ∧ v.toNat
    < (s.blk.cqSize q) ∧ ((v.toNat + (s.blk.cqSize q) - Tab.get 0 s.blk.hq.chead q % (s.blk.cqSize q)) %
    (s.blk.cqSize q)) ≤ ((s.blk.getF F.HQ_QIDX_CQTAIL q + (s.blk.cqSize q) - Tab.get 0 s.blk.hq.chead q %
    (s.blk.cqSize q)) % (s.blk.cqSize q)) :=
  ⟨{ blk := tb179 }, (3 : Fin 64), (⟨4, 0⟩ : DbWrite), (5 : Word), tb179_ready, by decide +kernel⟩

theorem wit_QueueState_13 : ∃ (s : State) (q : Fin 64) (w : DbWrite) (v : Word), s.blk.Ready ∧ w.width = 4 ∧
    ((s.blk.cqSize q) ≤ v.toNat ∨ ((s.blk.getF F.HQ_QIDX_CQTAIL q + (s.blk.cqSize q) - Tab.get 0 s.blk.hq.chead q %
    (s.blk.cqSize q)) % (s.blk.cqSize q)) < ((v.toNat + (s.blk.cqSize q) - Tab.get 0 s.blk.hq.chead q %
    (s.blk.cqSize q)) % (s.blk.cqSize q))) :=
  ⟨{ blk := tb179 }, (3 : Fin 64), (⟨4, 0⟩ : DbWrite), (8 : Word), tb179_ready, by decide +kernel⟩

theorem wit_QueueState_14 : ∃ (s : State) (e : Fin 8) (w : DbWrite) (v : Word), s.blk.Ready ∧ w.width = 4 ∧ v.toNat
    < s.blk.eqSize e ∧ s.blk.getF F.HQ_EQCFG_LOG e ≤ 16 :=
  ⟨{ blk := tb177 }, (3 : Fin 8), (⟨4, 0⟩ : DbWrite), (5 : Word), tb177_ready, by decide +kernel⟩

def tb180 : Block :=
  ({ (((((((bench.setF F.HQ_LINK_UP 0 1).setF F.HQ_LINK_D3 0 0).setF F.HQ_QCFG_SQLOG 3 8).setF F.HQ_QCFG_CQLOG 3 8).setF F.HQ_QSTAT_STATE 3 1).setF F.HQ_QIDX_SQHEAD 3 0).setF F.HQ_QIDX_CQTAIL 3 0) with hq := { bench.hq with prod := [(3, 5)] } }
    : Block)
theorem tb180_ready : tb180.Ready :=
  (ready_congr (b := (((((((bench.setF F.HQ_LINK_UP 0 1).setF F.HQ_LINK_D3 0 0).setF F.HQ_QCFG_SQLOG 3 8).setF
    F.HQ_QCFG_CQLOG 3 8).setF F.HQ_QSTAT_STATE 3 1).setF F.HQ_QIDX_SQHEAD 3 0).setF F.HQ_QIDX_CQTAIL 3 0))
    (ready_setF _ F.HQ_QIDX_CQTAIL 3 0 (by decide) (ready_setF _ F.HQ_QIDX_SQHEAD 3 0 (by decide) (ready_setF _
    F.HQ_QSTAT_STATE 3 1 (by decide) (ready_setF _ F.HQ_QCFG_CQLOG 3 8 (by decide) (ready_setF _ F.HQ_QCFG_SQLOG 3 8
    (by decide) (ready_setF _ F.HQ_LINK_D3 0 0 (by decide) (ready_setF _ F.HQ_LINK_UP 0 1 (by decide)
    bench_ready))))))) rfl rfl rfl)

theorem wit_QueueTraffic_0 : ∃ (s : State) (q : Nat), s.blk.Ready ∧ s.blk.hostNode = true ∧ s.blk.flag F.HQ_LINK_UP
    0 = true ∧ s.blk.flag F.HQ_LINK_D3 0 = false ∧ s.blk.w0Done = true ∧ s.blk.nextQueue = some q ∧ 64 ≤
    s.blk.hq.pci.request ∧ s.blk.readsOut + (min (s.blk.fetchable q) (s.blk.getF F.HQ_QCFG_WEIGHT q + 1)) ≤
    s.blk.hq.pci.reads :=
  ⟨{ blk := tb180 }, (3 : Nat), tb180_ready, by decide +kernel⟩

def tb181 : Block :=
  (bench.setF F.HQ_LINK_UP 0 0)
theorem tb181_ready : tb181.Ready :=
  (ready_setF _ F.HQ_LINK_UP 0 0 (by decide) bench_ready)

theorem wit_QueueTraffic_1 : ∃ (s : State), s.blk.Ready ∧ (s.blk.flag F.HQ_LINK_UP 0 = false ∨ s.blk.flag
    F.HQ_LINK_D3 0 = true ∨ s.blk.hostNode = false) :=
  ⟨{ blk := tb181 }, tb181_ready, by decide +kernel⟩

def tb182 : Block :=
  ({ ((((bench.setF F.HQ_QCFG_SQLOG 3 8).setF F.HQ_QCFG_CQLOG 3 8).setF F.HQ_QSTAT_STATE 3 1).setF F.SYS_NODE_VALID 0 0) with hq := { bench.hq with flights := [{ q := 3, desc := { src := .queue 3, dws := [], payload := [] }, stage := .fetched }] } }
    : Block)
theorem tb182_ready : tb182.Ready :=
  (ready_congr (b := ((((bench.setF F.HQ_QCFG_SQLOG 3 8).setF F.HQ_QCFG_CQLOG 3 8).setF F.HQ_QSTAT_STATE 3 1).setF
    F.SYS_NODE_VALID 0 0)) (ready_setF _ F.SYS_NODE_VALID 0 0 (by decide) (ready_setF _ F.HQ_QSTAT_STATE 3 1 (by
    decide) (ready_setF _ F.HQ_QCFG_CQLOG 3 8 (by decide) (ready_setF _ F.HQ_QCFG_SQLOG 3 8 (by decide)
    bench_ready)))) rfl rfl rfl)

theorem wit_QueueTraffic_2 : ∃ (s : State) (q : Fin 64) (dws : List Word) (payload : List Byte) (f : Flight),
    s.blk.Ready ∧ s.blk.hq.flights = [f] ∧ f.q = q ∧ f.stage = .fetched ∧ f.drop = false ∧ s.blk.qState q = 1 ∧
    s.blk.arrivalCheck q ({ src := .queue q, dws := dws, payload := payload } : Desc) = none ∧
    (({ src := .queue q, dws := dws, payload := payload } : Desc)).opcode ≠ 0xB5 ∧
    ((({ src := .queue q, dws := dws, payload := payload } : Desc)).opcode < 0xD0 ∨ 0xD2 <
    (({ src := .queue q, dws := dws, payload := payload } : Desc)).opcode) ∧ s.blk.engineHeld
    (({ src := .queue q, dws := dws, payload := payload } : Desc)) = false ∧ s.blk.nodesOf
    ({ src := .queue q, dws := dws, payload := payload } : Desc) = some [s.blk.nodeId] :=
  ⟨{ blk := tb182 }, (3 : Fin 64), ([0x00] : List Word), ([] : List Byte),
    (({ q := 3, desc := { src := .queue 3, dws := [], payload := [] }, stage := .fetched }) : Flight), tb182_ready,
    by decide +kernel⟩

def tb183 : Block :=
  ({ (((bench.setF F.HQ_QCFG_SQLOG 3 8).setF F.HQ_QCFG_CQLOG 3 8).setF F.HQ_QSTAT_STATE 3 1) with hq := { bench.hq with flights := [{ q := 3, desc := { src := .queue 3, dws := [], payload := [] }, stage := .fetched }] } }
    : Block)
theorem tb183_ready : tb183.Ready :=
  (ready_congr (b := (((bench.setF F.HQ_QCFG_SQLOG 3 8).setF F.HQ_QCFG_CQLOG 3 8).setF F.HQ_QSTAT_STATE 3 1))
    (ready_setF _ F.HQ_QSTAT_STATE 3 1 (by decide) (ready_setF _ F.HQ_QCFG_CQLOG 3 8 (by decide) (ready_setF _
    F.HQ_QCFG_SQLOG 3 8 (by decide) bench_ready))) rfl rfl rfl)

theorem wit_QueueTraffic_3 : ∃ (s : State) (q : Fin 64) (dws : List Word) (payload : List Byte) (f : Flight) (st :
    Nat), s.blk.Ready ∧ s.blk.hq.flights = [f] ∧ f.q = q ∧ f.stage = .fetched ∧ f.drop = false ∧ s.blk.qState q = 1
    ∧ s.blk.arrivalCheck q ({ src := .queue q, dws := dws, payload := payload } : Desc) = some st :=
  ⟨{ blk := tb183 }, (3 : Fin 64), ([0x05] : List Word), ([] : List Byte),
    (({ q := 3, desc := { src := .queue 3, dws := [], payload := [] }, stage := .fetched }) : Flight), (4 : Nat),
    tb183_ready, by decide +kernel⟩

def tb184 : Block :=
  ({ (bench.setF F.SYS_NODE_VALID 0 0) with hq := { bench.hq with flights := [{ q := 3, desc := { src := .queue 3, dws := [0x100], payload := [] }, stage := .arrived }] } }
    : Block)
theorem tb184_ready : tb184.Ready :=
  (ready_congr (b := (bench.setF F.SYS_NODE_VALID 0 0)) (ready_setF _ F.SYS_NODE_VALID 0 0 (by decide) bench_ready)
    rfl rfl rfl)

theorem wit_QueueTraffic_4 : ∃ (s : State) (q : Fin 64) (f : Flight), s.blk.Ready ∧ s.blk.hq.flights = [f] ∧ f.q = q
    ∧ f.stage = .arrived ∧ f.drop = false ∧ f.desc.opcode ≠ 0xB5 ∧ (f.desc.opcode < 0xD0 ∨ 0xD2 < f.desc.opcode) ∧
    s.blk.engineHeld f.desc = false ∧ s.blk.nodesOf f.desc = some [s.blk.nodeId] :=
  ⟨{ blk := tb184 }, (3 : Fin 64),
    (({ q := 3, desc := { src := .queue 3, dws := [0x100], payload := [] }, stage := .arrived }) : Flight),
    tb184_ready, by decide +kernel⟩

def tb185 : Block :=
  ({ bench with hq := { bench.hq with flights := [{ q := 3, desc := { src := .queue 3, dws := [0x00], payload := [] }, stage := .dispatched, wait := [0] }, { q := 3, desc := { src := .queue 3, dws := [0x100], payload := [] }, stage := .arrived }] } }
    : Block)
theorem tb185_ready : tb185.Ready :=
  (ready_congr (b := bench) bench_ready rfl rfl rfl)

theorem wit_QueueTraffic_5 : ∃ (s : State) (q : Fin 64) (f : Flight) (g : Flight), s.blk.Ready ∧ s.blk.hq.flights =
    [g, f] ∧ f.q = q ∧ g.q = q ∧ f.stage = .arrived ∧ f.drop = false ∧ g.drop = false ∧ g.stage = .dispatched ∧
    f.desc.fence = true :=
  ⟨{ blk := tb185 }, (3 : Fin 64),
    (({ q := 3, desc := { src := .queue 3, dws := [0x100], payload := [] }, stage := .arrived }) : Flight),
    (({ q := 3, desc := { src := .queue 3, dws := [0x00], payload := [] }, stage := .dispatched, wait := [0] }) :
    Flight), tb185_ready, by decide +kernel⟩

def tb186 : Block :=
  ({ (((bench.setF F.HQ_QCFG_SQLOG 3 8).setF F.HQ_QCFG_CQLOG 3 8).setF F.HQ_QSTAT_STATE 3 1) with hq := { bench.hq with flights := [{ q := 3, desc := { src := .queue 3, dws := [0x00, 0x77], payload := [] }, stage := .done { status := 0, cw2 := 5, cw3 := 6 } }] } }
    : Block)
theorem tb186_ready : tb186.Ready :=
  (ready_congr (b := (((bench.setF F.HQ_QCFG_SQLOG 3 8).setF F.HQ_QCFG_CQLOG 3 8).setF F.HQ_QSTAT_STATE 3 1))
    (ready_setF _ F.HQ_QSTAT_STATE 3 1 (by decide) (ready_setF _ F.HQ_QCFG_CQLOG 3 8 (by decide) (ready_setF _
    F.HQ_QCFG_SQLOG 3 8 (by decide) bench_ready))) rfl rfl rfl)

theorem wit_QueueTraffic_6 : ∃ (s : State) (q : Fin 64) (f : Flight) (c : Compl), s.blk.Ready ∧ s.blk.hq.flights =
    [f] ∧ f.q = q ∧ f.stage = .done c ∧ f.drop = false ∧ c.data = [] ∧ (s.blk.qState q = 1 ∨ s.blk.qState q = 2) :=
  ⟨{ blk := tb186 }, (3 : Fin 64),
    (({ q := 3, desc := { src := .queue 3, dws := [0x00, 0x77], payload := [] }, stage := .done { status := 0, cw2 := 5, cw3 := 6 } })
    : Flight), (({ status := 0, cw2 := 5, cw3 := 6 }) : Compl), tb186_ready, by decide +kernel⟩

def tb187 : Block :=
  ({ (((bench.setF F.HQ_LINK_UP 0 1).setF F.HQ_LINK_D3 0 0).setF F.HQ_QCFG_VEC 3 2) with hq := { bench.hq with timer := [(3, true)], coal := [(3, 2)], msix := [(11, 0)] } }
    : Block)
theorem tb187_ready : tb187.Ready :=
  (ready_congr (b := (((bench.setF F.HQ_LINK_UP 0 1).setF F.HQ_LINK_D3 0 0).setF F.HQ_QCFG_VEC 3 2)) (ready_setF _
    F.HQ_QCFG_VEC 3 2 (by decide) (ready_setF _ F.HQ_LINK_D3 0 0 (by decide) (ready_setF _ F.HQ_LINK_UP 0 1 (by
    decide) bench_ready))) rfl rfl rfl)

theorem wit_QueueTraffic_7 : ∃ (s : State) (q : Fin 64), s.blk.Ready ∧ Tab.get false s.blk.hq.timer q = true ∧
    s.blk.msixOpen = true ∧ s.blk.msixMasked (s.blk.getF F.HQ_QCFG_VEC q) = false :=
  ⟨{ blk := tb187 }, (3 : Fin 64), tb187_ready, by decide +kernel⟩

def tb188 : Block :=
  ({ ((bench.setF F.HQ_LINK_UP 0 1).setF F.HQ_LINK_D3 0 0) with hq := { bench.hq with msixPend := [(2, true)] } } :
    Block)
theorem tb188_ready : tb188.Ready :=
  (ready_congr (b := ((bench.setF F.HQ_LINK_UP 0 1).setF F.HQ_LINK_D3 0 0)) (ready_setF _ F.HQ_LINK_D3 0 0 (by
    decide) (ready_setF _ F.HQ_LINK_UP 0 1 (by decide) bench_ready)) rfl rfl rfl)

theorem wit_QueueTraffic_8 : ∃ (s : State) (v : Fin 64) (a : BitVec 64) (data : Word), s.blk.Ready ∧ s.blk.msixOpen
    = true ∧ s.blk.msixMasked v = true ∧ Tab.get false s.blk.hq.msixPend v = true :=
  ⟨{ blk := tb188 }, (2 : Fin 64), (0x123456789 : BitVec 64), (7 : Word), tb188_ready, by decide +kernel⟩

def tb189 : Block :=
  ({ (bench.setF F.HQ_QSTAT_STATE 3 1) with hq := { bench.hq with flights := [{ q := 3, desc := { src := .queue 3, dws := [], payload := [] }, stage := .fetched }] } }
    : Block)
theorem tb189_ready : tb189.Ready :=
  (ready_congr (b := (bench.setF F.HQ_QSTAT_STATE 3 1)) (ready_setF _ F.HQ_QSTAT_STATE 3 1 (by decide) bench_ready)
    rfl rfl rfl)

theorem wit_QueueTraffic_9 : ∃ (s : State) (q : Fin 64) (late : Bool), s.blk.Ready ∧ (s.blk.qState q = 1 ∨
    s.blk.qState q = 2) :=
  ⟨{ blk := tb189 }, (3 : Fin 64), (false : Bool), tb189_ready, by decide +kernel⟩

theorem wit_QueueTraffic_10 : ∃ (s : State) (q : Fin 64) (late : Bool) (dws : List Word) (f : Flight), s.blk.Ready ∧
    s.blk.hq.flights = [f] ∧ f.q = q ∧ f.stage = .fetched ∧ f.drop = false ∧ s.blk.qState q = 1 ∧ s.blk.arrivalCheck
    q { src := .queue q, dws := dws, payload := [] } = none :=
  ⟨{ blk := tb183 }, (3 : Fin 64), (true : Bool), ([0x70, 0, 0x100, 0, 20, 5] : List Word),
    (({ q := 3, desc := { src := .queue 3, dws := [], payload := [] }, stage := .fetched }) : Flight), tb183_ready,
    by decide +kernel⟩

def tb190 : Block :=
  (bench.setF F.HQ_EQSTAT_STATE 3 1)
theorem tb190_ready : tb190.Ready :=
  (ready_setF _ F.HQ_EQSTAT_STATE 3 1 (by decide) bench_ready)

theorem wit_QueueTraffic_11 : ∃ (s : State) (q : Fin 64) (late : Bool) (dws : List Word), s.blk.Ready ∧
    s.blk.eqState (q % 8) = 1 :=
  ⟨{ blk := tb190 }, (3 : Fin 64), (true : Bool), ([] : List Word), tb190_ready, by decide +kernel⟩

theorem wit_SystemDescriptors_0 : ∃ (s : State) (d : Desc), s.blk.Ready ∧ s.blk.Executes d ∧ s.blk.Single d ∧ d.ok
    0x00 0 0 [] = true :=
  ⟨{ blk := bench }, (({ src := .node 1 2, dws := [0x00, 0, 0, 0, 0], payload := [] }) : Desc), bench_ready, by
    decide +kernel⟩

theorem wit_SystemDescriptors_1 : ∃ (s : State) (d : Desc), s.blk.Ready ∧ s.blk.Executes d ∧ s.blk.Single d ∧ d.ok
    0x01 64 65536 [] = true :=
  ⟨{ blk := bench }, (({ src := .node 1 2, dws := [0x01, 0, 0x100, 0, 64], payload := [] }) : Desc), bench_ready, by
    decide +kernel⟩

theorem wit_SystemDescriptors_2 : ∃ (s : State) (d : Desc), s.blk.Ready ∧ s.blk.Executes d ∧ s.blk.Single d ∧ d.ok
    0x02 16 65536 [] = true :=
  ⟨{ blk := bench }, (({ src := .node 1 2, dws := [0x02, 0, 0x100, 0, 16], payload := [] }) : Desc), bench_ready, by
    decide +kernel⟩

def tb191 : Block :=
  (bench.setF F.HQ_MBXBASE_ADDR 0 0x801)
theorem tb191_ready : tb191.Ready :=
  (ready_setF _ F.HQ_MBXBASE_ADDR 0 0x801 (by decide) bench_ready)

theorem wit_SystemDescriptors_3 : ∃ (s : State) (d : Desc) (i : Nat), s.blk.Ready ∧ s.blk.Executes d ∧ d.ok 0x03 0
    4096 (List.replicate 11 0xFFFFFFFF) = true ∧ s.blk.getF F.HQ_MBXBASE_ADDR 0 ≠ 0 ∧ (List.range 16).find? (fun k
    => !bit (s.blk.getF F.HQ_MBXSTAT_PEND 0) k) = some i :=
  ⟨{ blk := tb191 }, (({ src := .node 1 2, dws := [0x03, 0, 0x100, 0, 4, 9], payload := [1, 2, 3, 4] }) : Desc), (0
    : Nat), tb191_ready, by decide +kernel⟩

def tb192 : Block :=
  (bench.setF F.HQ_MBXSTAT_PEND 0 0xFFFF)
theorem tb192_ready : tb192.Ready :=
  (ready_setF _ F.HQ_MBXSTAT_PEND 0 0xFFFF (by decide) bench_ready)

theorem wit_SystemDescriptors_4 : ∃ (s : State) (d : Desc), s.blk.Ready ∧ s.blk.Executes d ∧ s.blk.Single d ∧ d.ok
    0x03 0 4096 (List.replicate 11 0xFFFFFFFF) = true ∧ s.blk.getF F.HQ_MBXSTAT_PEND 0 = 0xFFFF :=
  ⟨{ blk := tb192 }, (({ src := .node 1 2, dws := [0x03, 0, 0x100, 0, 4, 9], payload := [1, 2, 3, 4] }) : Desc),
    tb192_ready, by decide +kernel⟩

def tb193 : Block :=
  (((((bench.setF F.HQ_LINK_UP 0 1).setF F.SYS_NODE_VALID 0 0).setF F.CHN_CFG_EVDUP 0 0).setF F.HQ_EQCFG_LOG 3
    6).setF F.HQ_EQSTAT_STATE 3 1)
theorem tb193_ready : tb193.Ready :=
  (ready_setF _ F.HQ_EQSTAT_STATE 3 1 (by decide) (ready_setF _ F.HQ_EQCFG_LOG 3 6 (by decide) (ready_setF _
    F.CHN_CFG_EVDUP 0 0 (by decide) (ready_setF _ F.SYS_NODE_VALID 0 0 (by decide) (ready_setF _ F.HQ_LINK_UP 0 1
    (by decide) bench_ready)))))

theorem wit_SystemDescriptors_5 : ∃ (s : State) (d : Desc), s.blk.Ready ∧ s.blk.Executes d ∧ s.blk.Single d ∧ d.ok
    0x04 0 0 [7, 0xFFFFFFFF] = true ∧ s.blk.isHead = true ∧ s.blk.flag F.CHN_CFG_EVDUP 0 = false ∧ s.blk.eqRoom
    (bits (d.dw 5) 2 0) = true :=
  ⟨{ blk := tb193 }, (({ src := .node 1 2, dws := [0x04, 0, 0, 0, 0, 3, 77], payload := [] }) : Desc), tb193_ready,
    by decide +kernel⟩

def tb194 : Block :=
  ({ ((bench.setF F.HQ_MBXBASE_ADDR 0 0x801).setF F.HQ_MBXSTAT_PEND 0 4) with hq := { bench.hq with mbox := [(2, { src := .node 1 2, dws := [0x03], payload := [] })] } }
    : Block)
theorem tb194_ready : tb194.Ready :=
  (ready_congr (b := ((bench.setF F.HQ_MBXBASE_ADDR 0 0x801).setF F.HQ_MBXSTAT_PEND 0 4)) (ready_setF _
    F.HQ_MBXSTAT_PEND 0 4 (by decide) (ready_setF _ F.HQ_MBXBASE_ADDR 0 0x801 (by decide) bench_ready)) rfl rfl rfl)

theorem wit_SystemDescriptors_6 : ∃ (s : State) (who : Who) (w : Word) (d : Desc), s.blk.Ready ∧ s.blk.CanWrite who
    (R.HQ_MBXDONE.at 0) ∧ (who = .core 0 ∨ who = .core 1) ∧ bit (s.blk.getF F.HQ_MBXSTAT_PEND 0) (bits w.toNat 3 0)
    = true ∧ s.blk.hq.mbox = [(bits w.toNat 3 0, d)] ∧ s.blk.Single d ∧ bits w.toNat 15 8 ≤ 11 ∧ s.blk.flag
    F.CATCH_INJ_ARM 0 = false :=
  ⟨{ blk := tb194 }, ((.core 0) : Who), (0x40302 : Word), (({ src := .node 1 2, dws := [0x03], payload := [] }) :
    Desc), tb194_ready, by decide +kernel⟩

def tb195 : Block :=
  ((bench.setF F.SYS_NODE_VALID 0 0).setF F.CHN_PORT_LSTATE 0 2)
theorem tb195_ready : tb195.Ready :=
  (ready_setF _ F.CHN_PORT_LSTATE 0 2 (by decide) (ready_setF _ F.SYS_NODE_VALID 0 0 (by decide) bench_ready))

theorem wit_ChainEnumeration_0 : ∃ (s : State) (who : Who), s.blk.Ready ∧ s.blk.CanWrite who (R.CHN_CTL.at 0) ∧
    s.blk.hasId = false :=
  ⟨{ blk := tb195 }, (.host : Who), tb195_ready, by decide +kernel⟩

def tb196 : Block :=
  ((bench.setF F.SYS_NODE_VALID 0 1).setF F.SYS_NODE_NODE 0 4)
theorem tb196_ready : tb196.Ready :=
  (ready_setF _ F.SYS_NODE_NODE 0 4 (by decide) (ready_setF _ F.SYS_NODE_VALID 0 1 (by decide) bench_ready))

theorem wit_ChainEnumeration_1 : ∃ (s : State) (who : Who), s.blk.Ready ∧ s.blk.CanWrite who (R.CHN_CTL.at 0) ∧
    s.blk.hasId = true :=
  ⟨{ blk := tb196 }, (.host : Who), tb196_ready, by decide +kernel⟩

def tb197 : Block :=
  (((bench.setF F.SYS_NODE_VALID 0 1).setF F.SYS_NODE_NODE 0 4).setF F.SYS_NODE_HEAD 0 0)
theorem tb197_ready : tb197.Ready :=
  (ready_setF _ F.SYS_NODE_HEAD 0 0 (by decide) (ready_setF _ F.SYS_NODE_NODE 0 4 (by decide) (ready_setF _
    F.SYS_NODE_VALID 0 1 (by decide) bench_ready)))

theorem wit_ChainEnumeration_2 : ∃ (s : State) (who : Who), s.blk.Ready ∧ s.blk.CanWrite who (R.CHN_CTL.at 0) ∧
    s.blk.hasId = true ∧ s.blk.primary = false ∧ s.blk.chn.standby = none ∧ s.blk.isStandby = false :=
  ⟨{ blk := tb197 }, (.host : Who), tb197_ready, by decide +kernel⟩

def tb198 : Block :=
  (((bench.setF F.SYS_NODE_VALID 0 1).setF F.SYS_NODE_NODE 0 4).setF F.SYS_NODE_STANDBY 0 1)
theorem tb198_ready : tb198.Ready :=
  (ready_setF _ F.SYS_NODE_STANDBY 0 1 (by decide) (ready_setF _ F.SYS_NODE_NODE 0 4 (by decide) (ready_setF _
    F.SYS_NODE_VALID 0 1 (by decide) bench_ready)))

theorem wit_ChainEnumeration_3 : ∃ (s : State) (who : Who), s.blk.Ready ∧ s.blk.CanWrite who (R.CHN_CTL.at 0) ∧
    s.blk.hasId = true ∧ (s.blk.chn.standby.isSome = true ∨ s.blk.isStandby = true) :=
  ⟨{ blk := tb198 }, (.host : Who), tb198_ready, by decide +kernel⟩

theorem wit_ChainEnumeration_4 : ∃ (s : State) (who : Who), s.blk.Ready ∧ s.blk.CanWrite who (R.CHN_CTL.at 0) ∧
    s.blk.isStandby = true :=
  ⟨{ blk := tb198 }, (.host : Who), tb198_ready, by decide +kernel⟩

theorem wit_ChainEnumeration_5 : ∃ (s : State) (p : Fin 2) (count : BitVec 32) (ser : BitVec 64), s.blk.Ready ∧
    s.blk.portUp p = true ∧ s.blk.hasId = false ∧ count.toNat < 64 :=
  ⟨{ blk := tb195 }, (0 : Fin 2), (5 : BitVec 32), (77 : BitVec 64), tb195_ready, by decide +kernel⟩

def tb199 : Block :=
  (((((bench.setF F.SYS_NODE_VALID 0 1).setF F.SYS_NODE_NODE 0 0).setF F.CHN_PORT_LSTATE 1 2).setF F.SYS_NODE_HEAD 0
    1).setF F.CHN_STAT_STATE 0 2)
theorem tb199_ready : tb199.Ready :=
  (ready_setF _ F.CHN_STAT_STATE 0 2 (by decide) (ready_setF _ F.SYS_NODE_HEAD 0 1 (by decide) (ready_setF _
    F.CHN_PORT_LSTATE 1 2 (by decide) (ready_setF _ F.SYS_NODE_NODE 0 0 (by decide) (ready_setF _ F.SYS_NODE_VALID 0
    1 (by decide) bench_ready)))))

theorem wit_ChainEnumeration_6 : ∃ (s : State) (count : BitVec 32) (ser : BitVec 64), s.blk.Ready ∧ s.blk.portUp 1 =
    true ∧ s.blk.hasId = true ∧ s.blk.primary = true ∧ s.blk.getF F.CHN_STAT_STATE 0 = 2 ∧ ser.toNat = s.blk.serial
    ∧ s.blk.chn.second = false :=
  ⟨{ blk := tb199 }, (5 : BitVec 32), ((BitVec.ofNat 64 bench.serial) : BitVec 64), tb199_ready, by decide +kernel⟩

def tb200 : Block :=
  ((((((bench.setF F.SYS_NODE_VALID 0 1).setF F.SYS_NODE_NODE 0 0).setF F.CHN_PORT_LSTATE 0 2).setF F.SYS_NODE_HEAD
    0 1).wr R.CHN_SER0 0 (0)).wr R.CHN_SER1 0 (0))
theorem tb200_ready : tb200.Ready :=
  (ready_wr _ R.CHN_SER1 0 (0) (by decide) (ready_wr _ R.CHN_SER0 0 (0) (by decide) (ready_setF _ F.SYS_NODE_HEAD 0
    1 (by decide) (ready_setF _ F.CHN_PORT_LSTATE 0 2 (by decide) (ready_setF _ F.SYS_NODE_NODE 0 0 (by decide)
    (ready_setF _ F.SYS_NODE_VALID 0 1 (by decide) bench_ready))))))

theorem wit_ChainEnumeration_7 : ∃ (s : State) (p : Fin 2) (ser : BitVec 64) (n : Nat), s.blk.Ready ∧ s.blk.portUp p
    = true ∧ s.blk.primary = true ∧ s.blk.freeId ser.toNat = some n :=
  ⟨{ blk := tb200 }, (0 : Fin 2), (77 : BitVec 64), (0 : Nat), tb200_ready, by decide +kernel⟩

def tb201 : Block :=
  (((bench.setF F.SYS_NODE_VALID 0 0).setF F.CHN_PORT_LSTATE 0 2).setF F.SYS_NODE_HEAD 0 0)
theorem tb201_ready : tb201.Ready :=
  (ready_setF _ F.SYS_NODE_HEAD 0 0 (by decide) (ready_setF _ F.CHN_PORT_LSTATE 0 2 (by decide) (ready_setF _
    F.SYS_NODE_VALID 0 0 (by decide) bench_ready)))

theorem wit_ChainEnumeration_8 : ∃ (s : State) (p : Fin 2) (ser : BitVec 64) (n : Fin 64), s.blk.Ready ∧
    s.blk.portUp p = true ∧ s.blk.primary = false ∧ s.blk.hasId = false ∧ ser.toNat = s.blk.serial :=
  ⟨{ blk := tb201 }, (0 : Fin 2), ((BitVec.ofNat 64 bench.serial) : BitVec 64), (9 : Fin 64), tb201_ready, by
    decide +kernel⟩

def tb202 : Block :=
  ({ (((((bench.setF F.SYS_NODE_VALID 0 1).setF F.SYS_NODE_NODE 0 0).setF F.CHN_PORT_LSTATE 0 2).setF F.CHN_PORT_LSTATE 1 2).setF F.SYS_NODE_HEAD 0 1) with chn := { bench.chn with ports := [(3, 0)] } }
    : Block)
theorem tb202_ready : tb202.Ready :=
  (ready_congr (b := (((((bench.setF F.SYS_NODE_VALID 0 1).setF F.SYS_NODE_NODE 0 0).setF F.CHN_PORT_LSTATE 0
    2).setF F.CHN_PORT_LSTATE 1 2).setF F.SYS_NODE_HEAD 0 1)) (ready_setF _ F.SYS_NODE_HEAD 0 1 (by decide)
    (ready_setF _ F.CHN_PORT_LSTATE 1 2 (by decide) (ready_setF _ F.CHN_PORT_LSTATE 0 2 (by decide) (ready_setF _
    F.SYS_NODE_NODE 0 0 (by decide) (ready_setF _ F.SYS_NODE_VALID 0 1 (by decide) bench_ready))))) rfl rfl rfl)

theorem wit_ChainEnumeration_9 : ∃ (s : State) (order : List (Fin 64)) (ring : Bool) (standby : Option (Fin 64)),
    s.blk.Ready ∧ s.blk.primary = true ∧ s.blk.hasId = true ∧ (order.map Fin.val).headD 64 = s.blk.nodeId :=
  ⟨{ blk := tb202 }, ([0, 1, 5] : List (Fin 64)), (true : Bool), (none : Option (Fin 64)), tb202_ready, by
    decide +kernel⟩

def tb203 : Block :=
  (((((bench.setF F.SYS_NODE_VALID 0 1).setF F.SYS_NODE_NODE 0 0).setF F.CHN_PORT_LSTATE 0 2).setF F.CHN_PORT_LSTATE
    1 2).setF F.SYS_NODE_HEAD 0 1)
theorem tb203_ready : tb203.Ready :=
  (ready_setF _ F.SYS_NODE_HEAD 0 1 (by decide) (ready_setF _ F.CHN_PORT_LSTATE 1 2 (by decide) (ready_setF _
    F.CHN_PORT_LSTATE 0 2 (by decide) (ready_setF _ F.SYS_NODE_NODE 0 0 (by decide) (ready_setF _ F.SYS_NODE_VALID 0
    1 (by decide) bench_ready)))))

theorem wit_ChainEnumeration_10 : ∃ (s : State) (order : List (Fin 64)) (ring : Bool) (standby : Option (Fin 64)),
    s.blk.Ready ∧ s.blk.primary = true ∧ s.blk.hasId = true ∧ (order.map Fin.val).headD 64 = s.blk.nodeId ∧
    ((order.map Fin.val).zip (order.map Fin.val).tail).all (fun x => s.blk.linked x.1 x.2) = true ∧ (ring = true →
    s.blk.linked ((order.map Fin.val).getLastD 0) s.blk.nodeId = true) :=
  ⟨{ blk := tb203 }, ([0, 1, 5] : List (Fin 64)), (true : Bool), (none : Option (Fin 64)), tb203_ready, by
    decide +kernel⟩

def tb204 : Block :=
  ((((bench.setF F.SYS_NODE_VALID 0 1).setF F.SYS_NODE_NODE 0 5).setF F.CHN_PORT_LSTATE 0 2).setF F.SYS_NODE_HEAD 0
    0)
theorem tb204_ready : tb204.Ready :=
  (ready_setF _ F.SYS_NODE_HEAD 0 0 (by decide) (ready_setF _ F.CHN_PORT_LSTATE 0 2 (by decide) (ready_setF _
    F.SYS_NODE_NODE 0 5 (by decide) (ready_setF _ F.SYS_NODE_VALID 0 1 (by decide) bench_ready))))

theorem wit_ChainEnumeration_11 : ∃ (s : State) (p : Fin 2) (order : List (Fin 64)) (gap : Option (Fin 65)) (standby
    : Option (Fin 64)), s.blk.Ready ∧ s.blk.primary = false ∧ s.blk.hasId = true ∧ s.blk.portUp p = true ∧
    (order.map Fin.val).contains s.blk.nodeId = true :=
  ⟨{ blk := tb204 }, (0 : Fin 2), ([0, 5] : List (Fin 64)), ((some 2) : Option (Fin 65)), ((some 5) : Option (Fin
    64)), tb204_ready, by decide +kernel⟩

theorem wit_ChainEnumeration_12 : ∃ (s : State), s.blk.Ready ∧ s.blk.isStandby = true :=
  ⟨{ blk := tb198 }, tb198_ready, by decide +kernel⟩

def tb205 : Block :=
  ((((bench.setF F.SYS_NODE_VALID 0 0).setF F.CHN_CFG_EN 0 1).setF F.CHN_PORT_LSTATE 0 0).setF F.CHN_PORT_LSTATE 1
    0)
theorem tb205_ready : tb205.Ready :=
  (ready_setF _ F.CHN_PORT_LSTATE 1 0 (by decide) (ready_setF _ F.CHN_PORT_LSTATE 0 0 (by decide) (ready_setF _
    F.CHN_CFG_EN 0 1 (by decide) (ready_setF _ F.SYS_NODE_VALID 0 0 (by decide) bench_ready))))

theorem wit_ChainPorts_0 : ∃ (s : State) (p : Fin 2), s.blk.Ready ∧ s.blk.pg 8 = true ∧ s.blk.flag F.CHN_CFG_EN 0 =
    true ∧ s.blk.portUp p = false :=
  ⟨{ blk := tb205 }, (0 : Fin 2), tb205_ready, by decide +kernel⟩

theorem wit_ChainPorts_1 : ∃ (s : State) (p : Fin 2), s.blk.Ready ∧ s.blk.pg 8 = true ∧ s.blk.flag F.CHN_CFG_EN 0 =
    true ∧ s.blk.portUp p = false :=
  ⟨{ blk := tb205 }, (0 : Fin 2), tb205_ready, by decide +kernel⟩

def tb206 : Block :=
  (bench.setF F.CHN_PORT_LSTATE 0 2)
theorem tb206_ready : tb206.Ready :=
  (ready_setF _ F.CHN_PORT_LSTATE 0 2 (by decide) bench_ready)

theorem wit_ChainPorts_2 : ∃ (s : State) (p : Fin 2) (energy : Bool), s.blk.Ready ∧ s.blk.portUp p = true :=
  ⟨{ blk := tb206 }, (0 : Fin 2), (true : Bool), tb206_ready, by decide +kernel⟩

def tb207 : Block :=
  ({ (bench.setF F.CHN_PORT_LSTATE 0 2) with chn := { bench.chn with links := [(1, { credits := 7, held := [{ typ := Fr.join, dst := 0, src := 4 }] })] } }
    : Block)
theorem tb207_ready : tb207.Ready :=
  (ready_congr (b := (bench.setF F.CHN_PORT_LSTATE 0 2)) (ready_setF _ F.CHN_PORT_LSTATE 0 2 (by decide)
    bench_ready) rfl rfl rfl)

theorem wit_ChainPorts_3 : ∃ (s : State) (p : Fin 2), s.blk.Ready ∧ s.blk.portUp p = true :=
  ⟨{ blk := tb207 }, (0 : Fin 2), tb207_ready, by decide +kernel⟩

def tb208 : Block :=
  (bench.setF F.SYS_NODE_HEAD 0 1)
theorem tb208_ready : tb208.Ready :=
  (ready_setF _ F.SYS_NODE_HEAD 0 1 (by decide) bench_ready)

theorem wit_ChainPorts_4 : ∃ (s : State) (n : Fin 64) (q : Fin 2) (st : Fin 4), s.blk.Ready ∧ s.blk.primary = true
    :=
  ⟨{ blk := tb208 }, (5 : Fin 64), (1 : Fin 2), (2 : Fin 4), tb208_ready, by decide +kernel⟩

def tb209 : Block :=
  ((((bench.setF F.HQ_LINK_UP 0 1).setF F.SYS_NODE_HEAD 0 1).setF F.HQ_EQCFG_LOG 3 6).setF F.HQ_EQSTAT_STATE 3 1)
theorem tb209_ready : tb209.Ready :=
  (ready_setF _ F.HQ_EQSTAT_STATE 3 1 (by decide) (ready_setF _ F.HQ_EQCFG_LOG 3 6 (by decide) (ready_setF _
    F.SYS_NODE_HEAD 0 1 (by decide) (ready_setF _ F.HQ_LINK_UP 0 1 (by decide) bench_ready))))

theorem wit_ChainPorts_5 : ∃ (s : State) (e : Fin 8) (typ : Byte) (src : Byte) (n : Fin 64) (time : BitVec 64) (ws :
    List Word), s.blk.Ready ∧ (s.blk.primary = true ∨ s.blk.isStandby = true) ∧ s.blk.eqRoom e = true :=
  ⟨{ blk := tb209 }, (3 : Fin 8), (1 : Byte), (20 : Byte), (9 : Fin 64), (1000 : BitVec 64), ([1, 2, 3, 4] : List
    Word), tb209_ready, by decide +kernel⟩

theorem wit_ChainPorts_6 : ∃ (s : State) (src : Fin 64) (q : Fin 64) (dws : List Word) (payload : List Byte),
    s.blk.Ready ∧ s.blk.hasId = true ∧ (s.blk.chn.partly.any fun e => e.1 == src && e.2.1 == q) = false ∧
    s.blk.formatOk { src := .node src q, dws := dws, payload := payload } = true :=
  ⟨{ blk := tb196 }, (1 : Fin 64), (2 : Fin 64), ([0xD3, 0, 0x100, 0, 544] : List Word), ([] : List Byte),
    tb196_ready, by decide +kernel⟩

def tb210 : Block :=
  ({ ((bench.setF F.SYS_NODE_VALID 0 1).setF F.SYS_NODE_NODE 0 4) with chn := { bench.chn with partly := [(1, 2, [0xD3, 0, 0x100, 0, 544], [])] } }
    : Block)
theorem tb210_ready : tb210.Ready :=
  (ready_congr (b := ((bench.setF F.SYS_NODE_VALID 0 1).setF F.SYS_NODE_NODE 0 4)) (ready_setF _ F.SYS_NODE_NODE 0 4
    (by decide) (ready_setF _ F.SYS_NODE_VALID 0 1 (by decide) bench_ready)) rfl rfl rfl)

theorem wit_ChainPorts_7 : ∃ (s : State) (src : Fin 64) (q : Fin 64) (dws : List Word) (ws : List Word) (part : List
    Byte) (payload : List Byte), s.blk.Ready ∧ s.blk.hasId = true ∧ s.blk.chn.partly = [(src, q, ws, part)] ∧
    s.blk.formatOk { src := .node src q, dws := ws, payload := part ++ payload } = true :=
  ⟨{ blk := tb210 }, (1 : Fin 64), (2 : Fin 64), ([] : List Word), ([0xD3, 0, 0x100, 0, 544] : List Word), ([] :
    List Byte), ([] : List Byte), tb210_ready, by decide +kernel⟩

theorem wit_ChainPorts_8 : ∃ (s : State) (src : Fin 64) (q : Fin 64) (dws : List Word) (payload : List Byte),
    s.blk.Ready ∧ s.blk.hasId = true ∧ (s.blk.chn.partly.any fun e => e.1 == src && e.2.1 == q) = false :=
  ⟨{ blk := tb196 }, (1 : Fin 64), (2 : Fin 64), ([0x10] : List Word), ([1, 2] : List Byte), tb196_ready, by
    decide +kernel⟩

theorem wit_ChainPorts_9 : ∃ (s : State) (src : Fin 64) (q : Fin 64) (dws : List Word) (payload : List Byte),
    s.blk.Ready ∧ s.blk.hasId = true ∧ (s.blk.chn.partly.any fun e => e.1 == src && e.2.1 == q) = false ∧
    s.blk.formatOk { src := .node src q, dws := dws, payload := payload } = false :=
  ⟨{ blk := tb196 }, (1 : Fin 64), (2 : Fin 64), ([0x05] : List Word), ([] : List Byte), tb196_ready, by
    decide +kernel⟩

def tb211 : Block :=
  ({ bench with hq := { bench.hq with flights := [{ q := 3, desc := { src := .queue 3, dws := [0x13], payload := [] }, stage := .dispatched, wait := [9] }] } }
    : Block)
theorem tb211_ready : tb211.Ready :=
  (ready_congr (b := bench) bench_ready rfl rfl rfl)

theorem wit_ChainPorts_10 : ∃ (s : State) (q : Fin 64) (n : Fin 64) (dws : List Word) (data : List Byte) (f :
    Flight), s.blk.Ready ∧ s.blk.hq.flights = [f] ∧ Block.awaits q n dws f = true :=
  ⟨{ blk := tb211 }, (3 : Fin 64), (9 : Fin 64), ([0x13] : List Word), ([1, 2] : List Byte),
    (({ q := 3, desc := { src := .queue 3, dws := [0x13], payload := [] }, stage := .dispatched, wait := [9] }) :
    Flight), tb211_ready, by decide +kernel⟩

theorem wit_ChainPorts_11 : ∃ (s : State) (d : Desc), s.blk.Ready ∧ s.blk.Executes d ∧ s.blk.Single d ∧ d.ok 0xD3
    544 65536 [] = true :=
  ⟨{ blk := bench }, (({ src := .node 1 2, dws := [0xD3, 0, 0x100, 0, 544], payload := [] }) : Desc), bench_ready,
    by decide +kernel⟩

theorem wit_SluiceAccesses_0 : ∃ (s : State) (d : Desc), s.blk.Ready ∧ s.blk.Executes d ∧ s.blk.Single d ∧
    Block.chnRdOk d = true ∧ s.blk.spaceHeld = false ∧ s.blk.chnNode d = s.blk.nodeId ∧ Block.chnCount d = 1 ∧
    s.blk.accessCause .host (d.dw 5) 4 false = none :=
  ⟨{ blk := bench }, (({ src := .node 1 2, dws := [0xD0, 0, 0x100, 0, 4, 0x1804, 1], payload := [] }) : Desc),
    bench_ready, by decide +kernel⟩

theorem wit_SluiceAccesses_1 : ∃ (s : State) (d : Desc), s.blk.Ready ∧ s.blk.Executes d ∧ s.blk.Single d ∧
    Block.chnRdOk d = true ∧ s.blk.spaceHeld = false ∧ s.blk.chnNode d = s.blk.nodeId ∧ Block.chnCount d = 1 ∧
    (s.blk.accessCause .host (d.dw 5) 4 false).isSome = true :=
  ⟨{ blk := bench }, (({ src := .node 1 2, dws := [0xD0, 0, 0x100, 0, 4, 0xFF000, 1], payload := [] }) : Desc),
    bench_ready, by decide +kernel⟩

def tb212 : Block :=
  ((((bench.setF F.SYS_NODE_VALID 0 1).setF F.SYS_NODE_NODE 0 4).setF F.SYS_NODE_HEAD 0 1).wr R.CHN_REACH 0 (0x200))
theorem tb212_ready : tb212.Ready :=
  (ready_wr _ R.CHN_REACH 0 (0x200) (by decide) (ready_setF _ F.SYS_NODE_HEAD 0 1 (by decide) (ready_setF _
    F.SYS_NODE_NODE 0 4 (by decide) (ready_setF _ F.SYS_NODE_VALID 0 1 (by decide) bench_ready))))

theorem wit_SluiceAccesses_2 : ∃ (s : State) (d : Desc), s.blk.Ready ∧ s.blk.Executes d ∧ Block.chnRdOk d = true ∧
    s.blk.chnNode d ≠ s.blk.nodeId ∧ s.blk.canReach (s.blk.chnNode d) = true ∧ s.blk.chn.reqs = [] :=
  ⟨{ blk := tb212 }, (({ src := .queue 3, dws := [0x900D0, 0, 0x100, 0, 4, 0x1804, 1], payload := [] }) : Desc),
    tb212_ready, by decide +kernel⟩

theorem wit_SluiceAccesses_3 : ∃ (s : State) (d : Desc), s.blk.Ready ∧ s.blk.Executes d ∧ s.blk.Single d ∧
    Block.chnWrOk d = true ∧ s.blk.spaceHeld = false ∧ s.blk.chnNode d = s.blk.nodeId ∧ Block.chnCount d = 1 ∧
    d.dws.length = 8 ∧ (findReg (d.dw 5)).isSome = true ∧ ((findReg (d.dw 5)).all fun x => (hookOf x.1 (Block.hooks
    .host)).isNone) = true ∧ s.blk.writeCause .host (d.dw 5) 4 = none ∧ (d.dw 5 < 0x39000 ∨ 0x3A000 ≤ d.dw 5) :=
  ⟨{ blk := bench }, (({ src := .node 1 2, dws := [0xD1, 0, 0, 0, 0, 0x20200, 1, 0x1234], payload := [] }) : Desc),
    bench_ready, by decide +kernel⟩

theorem wit_SluiceAccesses_4 : ∃ (s : State) (d : Desc), s.blk.Ready ∧ s.blk.Executes d ∧ Block.chnWrOk d = true ∧
    s.blk.chnNode d ≠ s.blk.nodeId ∧ s.blk.canReach (s.blk.chnNode d) = true ∧ s.blk.chn.reqs = [] :=
  ⟨{ blk := tb212 }, (({ src := .queue 3, dws := [0x900D1, 0, 0, 0, 0, 0x20200, 1, 0x1234], payload := [] }) :
    Desc), tb212_ready, by decide +kernel⟩

theorem wit_SluiceAccesses_5 : ∃ (s : State) (src : Fin 64) (tid : BitVec 10) (dw : BitVec 18), s.blk.Ready ∧
    s.blk.hasId = true ∧ s.blk.spaceHeld = false ∧ s.blk.accessCause .host (4 * dw.toNat) 4 false = none :=
  ⟨{ blk := tb196 }, (9 : Fin 64), (5 : BitVec 10), (0x601 : BitVec 18), tb196_ready, by decide +kernel⟩

def tb213 : Block :=
  (((bench.setF F.SYS_NODE_VALID 0 1).setF F.SYS_NODE_NODE 0 4).setF F.CHN_LOCK_HELD 0 1)
theorem tb213_ready : tb213.Ready :=
  (ready_setF _ F.CHN_LOCK_HELD 0 1 (by decide) (ready_setF _ F.SYS_NODE_NODE 0 4 (by decide) (ready_setF _
    F.SYS_NODE_VALID 0 1 (by decide) bench_ready)))

theorem wit_SluiceAccesses_6 : ∃ (s : State) (src : Fin 64) (tid : BitVec 10) (dw : BitVec 18) (count : Fin 65),
    s.blk.Ready ∧ s.blk.hasId = true ∧ s.blk.spaceHeld = true :=
  ⟨{ blk := tb213 }, (9 : Fin 64), (5 : BitVec 10), (0x601 : BitVec 18), (3 : Fin 65), tb213_ready, by
    decide +kernel⟩

theorem wit_SluiceAccesses_7 : ∃ (s : State) (src : Fin 64) (tid : BitVec 10) (dw : BitVec 18) (w : Word),
    s.blk.Ready ∧ s.blk.hasId = true ∧ s.blk.spaceHeld = false ∧ (findReg (4 * dw.toNat)).isSome = true ∧ ((findReg
    (4 * dw.toNat)).all fun x => (hookOf x.1 (Block.hooks .host)).isNone) = true ∧ s.blk.writeCause .host (4 *
    dw.toNat) 4 = none :=
  ⟨{ blk := tb196 }, (9 : Fin 64), (5 : BitVec 10), (0x8080 : BitVec 18), (0x1234 : Word), tb196_ready, by
    decide +kernel⟩

theorem wit_SluiceAccesses_8 : ∃ (s : State) (src : Fin 64) (tid : BitVec 10) (dw : BitVec 18) (w : Word) (c : Nat),
    s.blk.Ready ∧ s.blk.hasId = true ∧ s.blk.spaceHeld = false ∧ s.blk.writeCause .host (4 * dw.toNat) 4 = some c ∧
    c ≠ 6 :=
  ⟨{ blk := tb196 }, (9 : Fin 64), (5 : BitVec 10), (0x3FC00 : BitVec 18), (0x1234 : Word), (1 : Nat), tb196_ready,
    by decide +kernel⟩

theorem wit_SluiceAccesses_9 : ∃ (s : State) (src : Fin 64) (tid : BitVec 10) (dw : BitVec 18) (w : Word),
    s.blk.Ready ∧ s.blk.hasId = true ∧ s.blk.spaceHeld = false ∧ (findReg (4 * dw.toNat)).isSome = true ∧ ((findReg
    (4 * dw.toNat)).all fun x => (hookOf x.1 (Block.hooks .host)).isNone) = true ∧ s.blk.writeCause .host (4 *
    dw.toNat) 4 = none :=
  ⟨{ blk := tb196 }, (9 : Fin 64), (5 : BitVec 10), (0x8080 : BitVec 18), (0x1234 : Word), tb196_ready, by
    decide +kernel⟩

def tb214 : Block :=
  (((((((bench.setF F.SYS_NODE_VALID 0 1).setF F.SYS_NODE_NODE 0 4).setF F.SYS_NODE_HEAD 0 1).wr R.CHN_REACH 0
    (0x200)).setF F.CHN_TGT_NODE 0 9).wr R.CHN_FRMASK 0 (0)).wr R.CHN_STOPPED 0 (0))
theorem tb214_ready : tb214.Ready :=
  (ready_wr _ R.CHN_STOPPED 0 (0) (by decide) (ready_wr _ R.CHN_FRMASK 0 (0) (by decide) (ready_setF _
    F.CHN_TGT_NODE 0 9 (by decide) (ready_wr _ R.CHN_REACH 0 (0x200) (by decide) (ready_setF _ F.SYS_NODE_HEAD 0 1
    (by decide) (ready_setF _ F.SYS_NODE_NODE 0 4 (by decide) (ready_setF _ F.SYS_NODE_VALID 0 1 (by decide)
    bench_ready)))))))

theorem wit_SluiceAccesses_10 : ∃ (s : State) (dw : BitVec 18) (count : Fin 65) (ws : List Word), s.blk.Ready ∧
    s.blk.pg 8 = true ∧ dw.toNat / 1024 ≠ 0x39 ∧ s.blk.hasId = true ∧ (s.blk.getF F.CHN_TGT_NODE 0) ≠ s.blk.nodeId ∧
    s.blk.canReach (s.blk.getF F.CHN_TGT_NODE 0) = true ∧ bit (s.blk.getF F.CHN_STOPPED_STOP ((s.blk.getF
    F.CHN_TGT_NODE 0) / 32)) ((s.blk.getF F.CHN_TGT_NODE 0) % 32) = false ∧ s.blk.chn.waiting = [] ∧ s.blk.chn.asks
    = [] ∧ s.blk.chn.reqs = [] ∧ bit (s.blk.getF F.CHN_FRMASK_FR ((s.blk.getF F.CHN_TGT_NODE 0) / 32)) ((s.blk.getF
    F.CHN_TGT_NODE 0) % 32) = false ∧ ws.length ≤ 64 :=
  ⟨{ blk := tb214 }, (0x8080 : BitVec 18), (1 : Fin 65), ([5] : List Word), tb214_ready, by decide +kernel⟩

def tb215 : Block :=
  (((((((bench.setF F.SYS_NODE_VALID 0 1).setF F.SYS_NODE_NODE 0 4).setF F.SYS_NODE_HEAD 0 1).wr R.CHN_REACH 0
    (0x200)).setF F.CHN_TGT_NODE 0 9).wr R.CHN_FRMASK 0 (0x200)).wr R.CHN_STOPPED 0 (0))
theorem tb215_ready : tb215.Ready :=
  (ready_wr _ R.CHN_STOPPED 0 (0) (by decide) (ready_wr _ R.CHN_FRMASK 0 (0x200) (by decide) (ready_setF _
    F.CHN_TGT_NODE 0 9 (by decide) (ready_wr _ R.CHN_REACH 0 (0x200) (by decide) (ready_setF _ F.SYS_NODE_HEAD 0 1
    (by decide) (ready_setF _ F.SYS_NODE_NODE 0 4 (by decide) (ready_setF _ F.SYS_NODE_VALID 0 1 (by decide)
    bench_ready)))))))

theorem wit_SluiceAccesses_11 : ∃ (s : State) (dw : BitVec 18) (count : Fin 65) (ws : List Word), s.blk.Ready ∧
    s.blk.pg 8 = true ∧ dw.toNat / 1024 ≠ 0x39 ∧ s.blk.hasId = true ∧ (s.blk.getF F.CHN_TGT_NODE 0) ≠ s.blk.nodeId ∧
    s.blk.canReach (s.blk.getF F.CHN_TGT_NODE 0) = true ∧ bit (s.blk.getF F.CHN_STOPPED_STOP ((s.blk.getF
    F.CHN_TGT_NODE 0) / 32)) ((s.blk.getF F.CHN_TGT_NODE 0) % 32) = false ∧ s.blk.chn.waiting = [] ∧ s.blk.chn.asks
    = [] ∧ s.blk.chn.reqs = [] ∧ bit (s.blk.getF F.CHN_FRMASK_FR ((s.blk.getF F.CHN_TGT_NODE 0) / 32)) ((s.blk.getF
    F.CHN_TGT_NODE 0) % 32) = true ∧ ws.length ≤ 64 :=
  ⟨{ blk := tb215 }, (0x8080 : BitVec 18), (1 : Fin 65), ([5] : List Word), tb215_ready, by decide +kernel⟩

def tb216 : Block :=
  ((((((((bench.setF F.SYS_NODE_VALID 0 1).setF F.SYS_NODE_NODE 0 4).setF F.SYS_NODE_HEAD 0 1).wr R.CHN_REACH 0
    (0x200)).setF F.CHN_TGT_NODE 0 9).wr R.CHN_FRMASK 0 (0)).wr R.CHN_STOPPED 0 (0)).wr R.CHN_REACH 0 (0))
theorem tb216_ready : tb216.Ready :=
  (ready_wr _ R.CHN_REACH 0 (0) (by decide) (ready_wr _ R.CHN_STOPPED 0 (0) (by decide) (ready_wr _ R.CHN_FRMASK 0
    (0) (by decide) (ready_setF _ F.CHN_TGT_NODE 0 9 (by decide) (ready_wr _ R.CHN_REACH 0 (0x200) (by decide)
    (ready_setF _ F.SYS_NODE_HEAD 0 1 (by decide) (ready_setF _ F.SYS_NODE_NODE 0 4 (by decide) (ready_setF _
    F.SYS_NODE_VALID 0 1 (by decide) bench_ready))))))))

theorem wit_SluiceAccesses_12 : ∃ (s : State) (dw : BitVec 18) (count : Fin 65), s.blk.Ready ∧ s.blk.pg 8 = true ∧
    dw.toNat / 1024 ≠ 0x39 ∧ s.blk.hasId = true ∧ (s.blk.getF F.CHN_TGT_NODE 0) ≠ s.blk.nodeId ∧ bit (s.blk.getF
    F.CHN_STOPPED_STOP ((s.blk.getF F.CHN_TGT_NODE 0) / 32)) ((s.blk.getF F.CHN_TGT_NODE 0) % 32) = false ∧
    s.blk.chn.waiting = [] ∧ s.blk.chn.asks = [] ∧ s.blk.chn.reqs = [] ∧ s.blk.canReach (s.blk.getF F.CHN_TGT_NODE
    0) = false :=
  ⟨{ blk := tb216 }, (0x8080 : BitVec 18), (1 : Fin 65), tb216_ready, by decide +kernel⟩

theorem wit_SluiceAccesses_13 : ∃ (s : State) (off : BitVec 20) (bytes : Fin 9), s.blk.Ready ∧ s.blk.pg 8 = true ∧
    s.blk.chn.waiting = [] ∧ s.blk.w0Busy = false ∧ s.blk.spaceHeld = false ∧ (bytes.val ≠ 4 ∨ off.toNat % 4 ≠ 0) :=
  ⟨{ blk := bench }, (0x1802 : BitVec 20), (2 : Fin 9), bench_ready, by decide +kernel⟩

theorem wit_SluiceAccesses_14 : ∃ (s : State) (off : BitVec 16) (bytes : Fin 9) (count : Fin 65), s.blk.Ready :=
  ⟨{ blk := bench }, (0x8000 : BitVec 16), (4 : Fin 9), (2 : Fin 65), bench_ready⟩

def tb217 : Block :=
  ({ (((bench.setF F.SYS_NODE_VALID 0 1).setF F.SYS_NODE_NODE 0 4).setF F.SYS_NODE_HEAD 0 1) with chn := { bench.chn with reqs := [{ tid := 5, node := 9, kind := .w0Write, offset := 0x20200, count := 1 }] } }
    : Block)
theorem tb217_ready : tb217.Ready :=
  (ready_congr (b := (((bench.setF F.SYS_NODE_VALID 0 1).setF F.SYS_NODE_NODE 0 4).setF F.SYS_NODE_HEAD 0 1))
    (ready_setF _ F.SYS_NODE_HEAD 0 1 (by decide) (ready_setF _ F.SYS_NODE_NODE 0 4 (by decide) (ready_setF _
    F.SYS_NODE_VALID 0 1 (by decide) bench_ready))) rfl rfl rfl)

theorem wit_SluiceAccesses_15 : ∃ (s : State) (r : ChnReq) (tid : BitVec 10), s.blk.Ready ∧ s.blk.chn.reqs = [r] ∧
    r.tid = tid.toNat ∧ r.kind = .w0Write ∧ 1 ≤ r.count ∧ s.blk.chn.waiting = [] ∧ s.blk.chn.asks = [] ∧ r.node < 64
    :=
  ⟨{ blk := tb217 }, (({ tid := 5, node := 9, kind := .w0Write, offset := 0x20200, count := 1 }) : ChnReq), (5 :
    BitVec 10), tb217_ready, by decide +kernel⟩

def tb218 : Block :=
  ({ (((bench.setF F.SYS_NODE_VALID 0 1).setF F.SYS_NODE_NODE 0 4).setF F.SYS_NODE_HEAD 0 1) with chn := { bench.chn with reqs := [{ tid := 5, node := 9, kind := .rd { src := .node 1 2, dws := [0xD0], payload := [] }, offset := 0x20200, count := 1 }] } }
    : Block)
theorem tb218_ready : tb218.Ready :=
  (ready_congr (b := (((bench.setF F.SYS_NODE_VALID 0 1).setF F.SYS_NODE_NODE 0 4).setF F.SYS_NODE_HEAD 0 1))
    (ready_setF _ F.SYS_NODE_HEAD 0 1 (by decide) (ready_setF _ F.SYS_NODE_NODE 0 4 (by decide) (ready_setF _
    F.SYS_NODE_VALID 0 1 (by decide) bench_ready))) rfl rfl rfl)

theorem wit_SluiceAccesses_16 : ∃ (s : State) (r : ChnReq) (tid : BitVec 10) (d : Desc), s.blk.Ready ∧
    s.blk.chn.reqs = [r] ∧ r.tid = tid.toNat ∧ r.kind = .rd d ∧ 1 ≤ r.count ∧ s.blk.chn.waiting = [] ∧
    s.blk.chn.asks = [] ∧ s.blk.Single d :=
  ⟨{ blk := tb218 },
    (({ tid := 5, node := 9, kind := .rd { src := .node 1 2, dws := [0xD0], payload := [] }, offset := 0x20200, count := 1 })
    : ChnReq), (5 : BitVec 10), (({ src := .node 1 2, dws := [0xD0], payload := [] }) : Desc), tb218_ready, by
    decide +kernel⟩

def tb219 : Block :=
  ({ (((bench.setF F.SYS_NODE_VALID 0 1).setF F.SYS_NODE_NODE 0 4).setF F.SYS_NODE_HEAD 0 1) with chn := { bench.chn with reqs := [{ tid := 5, node := 9, kind := .own { src := .node 1 2, dws := [0xD0], payload := [] }, offset := 0x20200, count := 1 }] } }
    : Block)
theorem tb219_ready : tb219.Ready :=
  (ready_congr (b := (((bench.setF F.SYS_NODE_VALID 0 1).setF F.SYS_NODE_NODE 0 4).setF F.SYS_NODE_HEAD 0 1))
    (ready_setF _ F.SYS_NODE_HEAD 0 1 (by decide) (ready_setF _ F.SYS_NODE_NODE 0 4 (by decide) (ready_setF _
    F.SYS_NODE_VALID 0 1 (by decide) bench_ready))) rfl rfl rfl)

theorem wit_SluiceAccesses_17 : ∃ (s : State) (r : ChnReq) (tid : BitVec 10) (d : Desc), s.blk.Ready ∧
    s.blk.chn.reqs = [r] ∧ r.tid = tid.toNat ∧ r.kind = .own d ∧ s.blk.chn.waiting = [] ∧ s.blk.chn.asks = [] ∧
    s.blk.Single d :=
  ⟨{ blk := tb219 },
    (({ tid := 5, node := 9, kind := .own { src := .node 1 2, dws := [0xD0], payload := [] }, offset := 0x20200, count := 1 })
    : ChnReq), (5 : BitVec 10), (({ src := .node 1 2, dws := [0xD0], payload := [] }) : Desc), tb219_ready, by
    decide +kernel⟩

theorem wit_SluiceAccesses_18 : ∃ (s : State) (r : ChnReq) (tid : BitVec 10) (d : Desc), s.blk.Ready ∧
    s.blk.chn.reqs = [r] ∧ r.tid = tid.toNat ∧ r.kind = .rd d ∧ 1 ≤ r.count ∧ s.blk.chn.waiting = [] ∧
    s.blk.chn.asks = [] ∧ s.blk.Single d :=
  ⟨{ blk := tb218 },
    (({ tid := 5, node := 9, kind := .rd { src := .node 1 2, dws := [0xD0], payload := [] }, offset := 0x20200, count := 1 })
    : ChnReq), (5 : BitVec 10), (({ src := .node 1 2, dws := [0xD0], payload := [] }) : Desc), tb218_ready, by
    decide +kernel⟩

theorem wit_SluiceAccesses_19 : ∃ (s : State) (r : ChnReq) (tid : BitVec 10) (d : Desc) (w : Word), s.blk.Ready ∧
    s.blk.chn.reqs = [r] ∧ r.tid = tid.toNat ∧ r.kind = .rd d ∧ r.count = 1 ∧ s.blk.chn.waiting = [] ∧
    s.blk.chn.asks = [] ∧ s.blk.Single d :=
  ⟨{ blk := tb218 },
    (({ tid := 5, node := 9, kind := .rd { src := .node 1 2, dws := [0xD0], payload := [] }, offset := 0x20200, count := 1 })
    : ChnReq), (5 : BitVec 10), (({ src := .node 1 2, dws := [0xD0], payload := [] }) : Desc), (0x55 : Word),
    tb218_ready, by decide +kernel⟩

theorem wit_SluiceAccesses_20 : ∃ (s : State) (r : ChnReq) (tid : BitVec 10) (fails : Nat), s.blk.Ready ∧
    s.blk.chn.reqs = [r] ∧ r.tid = tid.toNat ∧ r.kind = .w0Write ∧ 1 ≤ r.count ∧ s.blk.chn.waiting = [] ∧
    s.blk.chn.asks = [] ∧ r.node < 64 :=
  ⟨{ blk := tb217 }, (({ tid := 5, node := 9, kind := .w0Write, offset := 0x20200, count := 1 }) : ChnReq), (5 :
    BitVec 10), (1 : Nat), tb217_ready, by decide +kernel⟩

theorem wit_SluiceAccesses_21 : ∃ (s : State) (tid : BitVec 10) (node : Fin 64) (offset : BitVec 20) (stat : Fin 7)
    (fails : Nat), s.blk.Ready ∧ stat.val ≠ 0 ∧ stat.val ≠ 4 ∧ s.blk.chn.waiting = [] ∧ s.blk.chn.asks = [] :=
  ⟨{ blk := tb196 }, (5 : BitVec 10), (9 : Fin 64), (0x20200 : BitVec 20), (1 : Fin 7), (1 : Nat), tb196_ready, by
    decide +kernel⟩

def tb220 : Block :=
  ({ (((bench.setF F.SYS_NODE_VALID 0 1).setF F.SYS_NODE_NODE 0 4).setF F.SYS_NODE_HEAD 0 1) with chn := { bench.chn with reqs := [{ tid := 5, node := 9, kind := .posted, offset := 0x20200, count := 1 }] } }
    : Block)
theorem tb220_ready : tb220.Ready :=
  (ready_congr (b := (((bench.setF F.SYS_NODE_VALID 0 1).setF F.SYS_NODE_NODE 0 4).setF F.SYS_NODE_HEAD 0 1))
    (ready_setF _ F.SYS_NODE_HEAD 0 1 (by decide) (ready_setF _ F.SYS_NODE_NODE 0 4 (by decide) (ready_setF _
    F.SYS_NODE_VALID 0 1 (by decide) bench_ready))) rfl rfl rfl)

theorem wit_SluiceAccesses_22 : ∃ (s : State) (r : ChnReq) (tid : BitVec 10) (node : Fin 64) (offset : BitVec 20)
    (fails : Nat), s.blk.Ready ∧ s.blk.chn.reqs = [r] ∧ r.tid = tid.toNat ∧ r.node = node ∧ r.kind = .posted :=
  ⟨{ blk := tb220 }, (({ tid := 5, node := 9, kind := .posted, offset := 0x20200, count := 1 }) : ChnReq), (5 :
    BitVec 10), (9 : Fin 64), (0x20200 : BitVec 20), (0 : Nat), tb220_ready, by decide +kernel⟩

def tb221 : Block :=
  ({ bench with hq := { bench.hq with flights := [{ q := 3, desc := { src := .queue 3, dws := [0x13], payload := [] }, stage := .dispatched, wait := [9], got := [1] }] } }
    : Block)
theorem tb221_ready : tb221.Ready :=
  (ready_congr (b := bench) bench_ready rfl rfl rfl)

theorem wit_SluiceAccesses_23 : ∃ (s : State) (q : Fin 64) (node : Fin 64) (dws : List Word) (status : Fin 12) (x2 :
    Word) (x3 : Word) (f : Flight), s.blk.Ready ∧ s.blk.hq.flights = [f] ∧ Block.awaits q node dws f = true ∧ f.drop
    = false ∧ bit (f.desc.dws.getD 0 0).toNat 22 = false :=
  ⟨{ blk := tb221 }, (3 : Fin 64), (9 : Fin 64), ([0x13] : List Word), (0 : Fin 12), (7 : Word), (8 : Word),
    (({ q := 3, desc := { src := .queue 3, dws := [0x13], payload := [] }, stage := .dispatched, wait := [9], got := [1] })
    : Flight), tb221_ready, by decide +kernel⟩

def tb222 : Block :=
  ({ bench with chn := { bench.chn with bufs := [{ node := 9, base := 0, words := [] }] } } : Block)
theorem tb222_ready : tb222.Ready :=
  (ready_congr (b := bench) bench_ready rfl rfl rfl)

theorem wit_SluiceAccesses_24 : ∃ (s : State) (i : Fin 4), s.blk.Ready :=
  ⟨{ blk := tb222 }, (0 : Fin 4), tb222_ready⟩

def tb223 : Block :=
  ({ (bench.wr R.CHN_REACH 0 (0)) with hq := { bench.hq with flights := [{ q := 3, desc := { src := .queue 3, dws := [0x13], payload := [] }, stage := .dispatched, wait := [9] }] } }
    : Block)
theorem tb223_ready : tb223.Ready :=
  (ready_congr (b := (bench.wr R.CHN_REACH 0 (0))) (ready_wr _ R.CHN_REACH 0 (0) (by decide) bench_ready) rfl rfl
    rfl)

theorem wit_SluiceAccesses_25 : ∃ (s : State) (q : Fin 64) (n : Fin 64) (f : Flight), s.blk.Ready ∧ s.blk.reachable
    n = false ∧ s.blk.hq.flights = [f] ∧ f.q = q ∧ f.stage = .dispatched ∧ f.wait = [n.val] ∧ f.drop = false ∧ bit
    (f.desc.dws.getD 0 0).toNat 22 = false ∧ s.blk.chn.reqs = [] ∧ s.blk.chn.waiting = [] ∧ s.blk.chn.asks = [] :=
  ⟨{ blk := tb223 }, (3 : Fin 64), (9 : Fin 64),
    (({ q := 3, desc := { src := .queue 3, dws := [0x13], payload := [] }, stage := .dispatched, wait := [9] }) :
    Flight), tb223_ready, by decide +kernel⟩

theorem wit_LockedSequences_0 : ∃ (s : State) (d : Desc) (p : LockOp), s.blk.Ready ∧ s.blk.Executes d ∧ s.blk.Single
    d ∧ Block.lockSeqOk d = true ∧ s.blk.spaceHeld = false ∧ s.blk.chnNode d = s.blk.nodeId ∧ (Block.lockOps d).map
    (fun x => x.1) = [p] ∧ p.loc = false ∧ s.blk.accessCause .host p.offset 4 false = none ∧ p.kind = 0 :=
  ⟨{ blk := bench },
    (({ src := .node 1 2, dws := [0xD2, 0, 0x100, 0, 16], payload := [0, 0, 0, 0, 4, 24, 0, 0, 0, 0, 0, 0, 0, 0, 0, 0] })
    : Desc), (({ kind := 0, loc := false, prev := false, offset := 6148, mask := 0, value := 0 }) : LockOp),
    bench_ready, by decide +kernel⟩

theorem wit_LockedSequences_1 : ∃ (s : State) (d : Desc) (p : LockOp), s.blk.Ready ∧ s.blk.Executes d ∧ s.blk.Single
    d ∧ Block.lockSeqOk d = true ∧ s.blk.spaceHeld = false ∧ s.blk.chnNode d = s.blk.nodeId ∧ (Block.lockOps d).map
    (fun x => x.1) = [p] ∧ p.loc = false ∧ s.blk.accessCause .host p.offset 4 false = none ∧ p.kind = 3 ∧ p.prev =
    false :=
  ⟨{ blk := bench },
    (({ src := .node 1 2, dws := [0xD2, 0, 0x100, 0, 16], payload := [3, 0, 0, 0, 4, 24, 0, 0, 1, 0, 0, 0, 0, 0, 0, 0] })
    : Desc), (({ kind := 3, loc := false, prev := false, offset := 6148, mask := 1, value := 0 }) : LockOp),
    bench_ready, by decide +kernel⟩

theorem wit_LockedSequences_2 : ∃ (s : State) (d : Desc) (p : LockOp), s.blk.Ready ∧ s.blk.Executes d ∧ s.blk.Single
    d ∧ Block.lockSeqOk d = true ∧ s.blk.spaceHeld = false ∧ s.blk.chnNode d = s.blk.nodeId ∧ (Block.lockOps d).map
    (fun x => x.1) = [p] ∧ p.loc = false ∧ s.blk.accessCause .host p.offset 4 false = none ∧ p.kind = 2 ∧ p.prev =
    false ∧ (findReg (p.offset)).isSome = true ∧ ((findReg (p.offset)).all fun x => (hookOf x.1 (Block.hooks
    .host)).isNone) = true ∧ s.blk.writeCause .host (p.offset) 4 = none ∧ (findReg p.offset).all (fun x => s.blk.rd
    x.1 x.2 == (s.blk.regRead p.offset).2) = true ∧ (s.blk.regRead p.offset).1 = s.blk :=
  ⟨{ blk := bench },
    (({ src := .node 1 2, dws := [0xD2, 0, 0x100, 0, 16], payload := [2, 0, 0, 0, 0, 2, 2, 0, 15, 0, 0, 0, 5, 0, 0, 0] })
    : Desc), (({ kind := 2, loc := false, prev := false, offset := 131584, mask := 15, value := 5 }) : LockOp),
    bench_ready, by decide +kernel⟩

theorem wit_LockedSequences_3 : ∃ (s : State) (src : Fin 64) (tid : BitVec 10) (p : LockOp), s.blk.Ready ∧
    s.blk.hasId = true ∧ s.blk.spaceHeld = false :=
  ⟨{ blk := tb196 }, (9 : Fin 64), (5 : BitVec 10),
    (({ kind := 0, loc := false, prev := false, offset := 0x1804, mask := 0, value := 0 }) : LockOp), tb196_ready,
    by decide +kernel⟩

theorem wit_LockedSequences_4 : ∃ (s : State) (src : Fin 64) (tid : BitVec 10) (ops : List LockOp), s.blk.Ready ∧
    s.blk.hasId = true ∧ s.blk.spaceHeld = true ∧ s.blk.ownLock = none :=
  ⟨{ blk := tb213 }, (9 : Fin 64), (5 : BitVec 10), ([] : List LockOp), tb213_ready, by decide +kernel⟩

def tb224 : Block :=
  ((({ (((bench.setF F.SYS_NODE_VALID 0 1).setF F.SYS_NODE_NODE 0 4).setF F.SYS_NODE_HEAD 0 1) with chn := { bench.chn with reqs := [{ tid := 5, node := 9, kind := .lock { src := .node 1 2, dws := [0xD2, 0, 0x100, 0, 16], payload := [4, 0, 0, 0, 4, 24, 0, 0, 0, 0, 0, 0, 0, 0, 0, 0] } [], offset := 0x20200, count := 1 }] } }
    : Block).setF F.CHN_LOCK_HELD 0 1).setF F.CHN_LOCK_HOLDER 0 4)
theorem tb224_ready : tb224.Ready :=
  (ready_setF _ F.CHN_LOCK_HOLDER 0 4 (by decide) (ready_setF _ F.CHN_LOCK_HELD 0 1 (by decide) (ready_congr (b :=
    (((bench.setF F.SYS_NODE_VALID 0 1).setF F.SYS_NODE_NODE 0 4).setF F.SYS_NODE_HEAD 0 1)) (ready_setF _
    F.SYS_NODE_HEAD 0 1 (by decide) (ready_setF _ F.SYS_NODE_NODE 0 4 (by decide) (ready_setF _ F.SYS_NODE_VALID 0 1
    (by decide) bench_ready))) rfl rfl rfl)))

theorem wit_LockedSequences_5 : ∃ (s : State) (src : Fin 64) (tid : BitVec 10) (ops : List LockOp) (r : ChnReq) (d :
    Desc), s.blk.Ready ∧ s.blk.hasId = true ∧ s.blk.spaceHeld = true ∧ s.blk.ownLock = some (r, d) ∧ s.blk.nodeId ≤
    src.val :=
  ⟨{ blk := tb224 }, (9 : Fin 64), (5 : BitVec 10), ([] : List LockOp),
    (({ tid := 5, node := 9, kind := .lock { src := .node 1 2, dws := [0xD2, 0, 0x100, 0, 16], payload := [4, 0, 0, 0, 4, 24, 0, 0, 0, 0, 0, 0, 0, 0, 0, 0] } [], offset := 0x20200, count := 1 })
    : ChnReq),
    (({ src := .node 1 2, dws := [0xD2, 0, 0x100, 0, 16], payload := [4, 0, 0, 0, 4, 24, 0, 0, 0, 0, 0, 0, 0, 0, 0, 0] })
    : Desc), tb224_ready, by decide +kernel⟩

theorem wit_LockedSequences_6 : ∃ (s : State) (r : ChnReq) (tid : BitVec 10) (d : Desc) (l : List LockOp),
    s.blk.Ready ∧ s.blk.chn.reqs = [r] ∧ r.tid = tid.toNat ∧ r.kind = .lock d l ∧ s.blk.chn.waiting = [] ∧
    s.blk.chn.asks = [] ∧ s.blk.Single d :=
  ⟨{ blk := tb224 },
    (({ tid := 5, node := 9, kind := .lock { src := .node 1 2, dws := [0xD2, 0, 0x100, 0, 16], payload := [4, 0, 0, 0, 4, 24, 0, 0, 0, 0, 0, 0, 0, 0, 0, 0] } [], offset := 0x20200, count := 1 })
    : ChnReq), (5 : BitVec 10),
    (({ src := .node 1 2, dws := [0xD2, 0, 0x100, 0, 16], payload := [4, 0, 0, 0, 4, 24, 0, 0, 0, 0, 0, 0, 0, 0, 0, 0] })
    : Desc), ([] : List LockOp), tb224_ready, by decide +kernel⟩

def tb225 : Block :=
  ({ (((bench.setF F.SYS_NODE_VALID 0 1).setF F.SYS_NODE_NODE 0 4).setF F.SYS_NODE_HEAD 0 1) with chn := { bench.chn with reqs := [{ tid := 5, node := 9, kind := .lock { src := .node 1 2, dws := [0xD2, 0, 0x100, 0, 16], payload := [0, 0, 0, 0, 4, 24, 0, 0, 0, 0, 0, 0, 0, 0, 0, 0] } [], offset := 0x20200, count := 1 }] } }
    : Block)
theorem tb225_ready : tb225.Ready :=
  (ready_congr (b := (((bench.setF F.SYS_NODE_VALID 0 1).setF F.SYS_NODE_NODE 0 4).setF F.SYS_NODE_HEAD 0 1))
    (ready_setF _ F.SYS_NODE_HEAD 0 1 (by decide) (ready_setF _ F.SYS_NODE_NODE 0 4 (by decide) (ready_setF _
    F.SYS_NODE_VALID 0 1 (by decide) bench_ready))) rfl rfl rfl)

theorem wit_LockedSequences_7 : ∃ (s : State) (r : ChnReq) (tid : BitVec 10) (d : Desc) (l : List LockOp) (vals :
    List Word), s.blk.Ready ∧ s.blk.chn.reqs = [r] ∧ r.tid = tid.toNat ∧ r.kind = .lock d l ∧ s.blk.chn.waiting = []
    ∧ s.blk.chn.asks = [] ∧ s.blk.Single d ∧ (((Block.lockOps d).map (fun x => x.1)).any fun p => p.loc) = false :=
  ⟨{ blk := tb225 },
    (({ tid := 5, node := 9, kind := .lock { src := .node 1 2, dws := [0xD2, 0, 0x100, 0, 16], payload := [0, 0, 0, 0, 4, 24, 0, 0, 0, 0, 0, 0, 0, 0, 0, 0] } [], offset := 0x20200, count := 1 })
    : ChnReq), (5 : BitVec 10),
    (({ src := .node 1 2, dws := [0xD2, 0, 0x100, 0, 16], payload := [0, 0, 0, 0, 4, 24, 0, 0, 0, 0, 0, 0, 0, 0, 0, 0] })
    : Desc), ([] : List LockOp), ([7] : List Word), tb225_ready, by decide +kernel⟩

def tb226 : Block :=
  (bench.setF F.CHN_LOCK_HELD 0 1)
theorem tb226_ready : tb226.Ready :=
  (ready_setF _ F.CHN_LOCK_HELD 0 1 (by decide) bench_ready)

theorem wit_LockedSequences_8 : ∃ (s : State), s.blk.Ready ∧ s.blk.spaceHeld = true ∧ s.blk.ownLock = none ∧
    s.blk.chn.waiting = [] ∧ s.blk.chn.asks = [] :=
  ⟨{ blk := tb226 }, tb226_ready, by decide +kernel⟩

def tb227 : Block :=
  ({ (((bench.setF F.SYS_NODE_VALID 0 1).setF F.SYS_NODE_NODE 0 4).setF F.CHN_LOCK_HELD 0 1) with chn := { bench.chn with grant := some (9, 5, []) } }
    : Block)
theorem tb227_ready : tb227.Ready :=
  (ready_congr (b := (((bench.setF F.SYS_NODE_VALID 0 1).setF F.SYS_NODE_NODE 0 4).setF F.CHN_LOCK_HELD 0 1))
    (ready_setF _ F.CHN_LOCK_HELD 0 1 (by decide) (ready_setF _ F.SYS_NODE_NODE 0 4 (by decide) (ready_setF _
    F.SYS_NODE_VALID 0 1 (by decide) bench_ready))) rfl rfl rfl)

theorem wit_LockedSequences_9 : ∃ (s : State) (src : Fin 64) (tid : BitVec 10) (ops : List LockOp), s.blk.Ready ∧
    s.blk.spaceHeld = true ∧ s.blk.ownLock = none ∧ s.blk.chn.grant = some (src.val, tid.toNat, ops) ∧
    s.blk.chn.waiting = [] ∧ s.blk.chn.asks = [] :=
  ⟨{ blk := tb227 }, (9 : Fin 64), (5 : BitVec 10), ([] : List LockOp), tb227_ready, by decide +kernel⟩

theorem wit_LockedSequences_10 : ∃ (s : State) (r : ChnReq) (d : Desc), s.blk.Ready ∧ s.blk.ownLock = some (r, d) ∧
    s.blk.chn.waiting = [] ∧ s.blk.chn.asks = [] ∧ s.blk.Single d :=
  ⟨{ blk := tb224 },
    (({ tid := 5, node := 9, kind := .lock { src := .node 1 2, dws := [0xD2, 0, 0x100, 0, 16], payload := [4, 0, 0, 0, 4, 24, 0, 0, 0, 0, 0, 0, 0, 0, 0, 0] } [], offset := 0x20200, count := 1 })
    : ChnReq),
    (({ src := .node 1 2, dws := [0xD2, 0, 0x100, 0, 16], payload := [4, 0, 0, 0, 4, 24, 0, 0, 0, 0, 0, 0, 0, 0, 0, 0] })
    : Desc), tb224_ready, by decide +kernel⟩

def tb228 : Block :=
  ({ (bench.setF F.HEP_STAT_STATE 2 2) with core := [(2, { d := [(1, 0x80000005), (2, 7), (4, 0x7FFFFFFF)], a := [(1, 0x10100), (2, 0x10200)], pc := 0x10000, psp := 0x11000, sr := 0x41 })] }
    : Block)
theorem tb228_ready : tb228.Ready :=
  (ready_congr (b := (bench.setF F.HEP_STAT_STATE 2 2)) (ready_core _ 2 2 (by decide) (by decide) bench_ready) rfl
    rfl rfl)

theorem wit_HeperArithmetic_0 : ∃ (s : State) (x : Exe) (rd : Fin 16) (rs : Fin 16), s.blk.Ready ∧ s.blk.fetches x 1
    = true ∧ (s.blk.cpu x).rep ≤ 1 :=
  ⟨{ blk := tb228 }, ({ core := 2 } : Exe), (3 : Fin 16), (1 : Fin 16), tb228_ready, by decide +kernel⟩

theorem wit_HeperArithmetic_1 : ∃ (s : State) (x : Exe) (rd : Fin 16) (rs : Fin 16) (rt : Fin 16), s.blk.Ready ∧
    s.blk.fetches x 1 = true ∧ (s.blk.cpu x).rep ≤ 1 :=
  ⟨{ blk := tb228 }, ({ core := 2 } : Exe), (3 : Fin 16), (1 : Fin 16), (2 : Fin 16), tb228_ready, by
    decide +kernel⟩

theorem wit_HeperArithmetic_2 : ∃ (s : State) (x : Exe) (rd : Fin 16) (rs : Fin 16) (rt : Fin 16), s.blk.Ready ∧
    s.blk.fetches x 1 = true ∧ (s.blk.cpu x).rep ≤ 1 :=
  ⟨{ blk := tb228 }, ({ core := 2 } : Exe), (3 : Fin 16), (1 : Fin 16), (2 : Fin 16), tb228_ready, by
    decide +kernel⟩

theorem wit_HeperArithmetic_3 : ∃ (s : State) (x : Exe) (rd : Fin 16) (rs : Fin 16) (rt : Fin 16), s.blk.Ready ∧
    s.blk.fetches x 1 = true ∧ (s.blk.cpu x).rep ≤ 1 :=
  ⟨{ blk := tb228 }, ({ core := 2 } : Exe), (3 : Fin 16), (1 : Fin 16), (2 : Fin 16), tb228_ready, by
    decide +kernel⟩

theorem wit_HeperArithmetic_4 : ∃ (s : State) (x : Exe) (rd : Fin 16) (rs : Fin 16) (rt : Fin 16), s.blk.Ready ∧
    s.blk.fetches x 1 = true ∧ (s.blk.cpu x).rep ≤ 1 :=
  ⟨{ blk := tb228 }, ({ core := 2 } : Exe), (3 : Fin 16), (1 : Fin 16), (2 : Fin 16), tb228_ready, by
    decide +kernel⟩

theorem wit_HeperArithmetic_5 : ∃ (s : State) (x : Exe) (rd : Fin 16) (rs : Fin 16) (rt : Fin 16), s.blk.Ready ∧
    s.blk.fetches x 1 = true ∧ (s.blk.cpu x).rep ≤ 1 :=
  ⟨{ blk := tb228 }, ({ core := 2 } : Exe), (3 : Fin 16), (4 : Fin 16), (2 : Fin 16), tb228_ready, by
    decide +kernel⟩

theorem wit_HeperArithmetic_6 : ∃ (s : State) (x : Exe) (rd : Fin 16) (rs : Fin 16) (rt : Fin 16), s.blk.Ready ∧
    s.blk.fetches x 1 = true ∧ (s.blk.cpu x).rep ≤ 1 :=
  ⟨{ blk := tb228 }, ({ core := 2 } : Exe), (3 : Fin 16), (1 : Fin 16), (2 : Fin 16), tb228_ready, by
    decide +kernel⟩

theorem wit_HeperArithmetic_7 : ∃ (s : State) (x : Exe) (rd : Fin 16) (rs : Fin 16), s.blk.Ready ∧ s.blk.fetches x 1
    = true ∧ (s.blk.cpu x).rep ≤ 1 :=
  ⟨{ blk := tb228 }, ({ core := 2 } : Exe), (3 : Fin 16), (1 : Fin 16), tb228_ready, by decide +kernel⟩

theorem wit_HeperArithmetic_8 : ∃ (s : State) (x : Exe) (rd : Fin 16) (rs : Fin 16), s.blk.Ready ∧ s.blk.fetches x 1
    = true ∧ (s.blk.cpu x).rep ≤ 1 :=
  ⟨{ blk := tb228 }, ({ core := 2 } : Exe), (3 : Fin 16), (1 : Fin 16), tb228_ready, by decide +kernel⟩

theorem wit_HeperArithmetic_9 : ∃ (s : State) (x : Exe) (rd : Fin 16) (rs : Fin 16), s.blk.Ready ∧ s.blk.fetches x 1
    = true ∧ (s.blk.cpu x).rep ≤ 1 :=
  ⟨{ blk := tb228 }, ({ core := 2 } : Exe), (3 : Fin 16), (1 : Fin 16), tb228_ready, by decide +kernel⟩

theorem wit_HeperArithmetic_10 : ∃ (s : State) (x : Exe) (rs : Fin 16) (rt : Fin 16), s.blk.Ready ∧ s.blk.fetches x
    1 = true ∧ (s.blk.cpu x).rep ≤ 1 :=
  ⟨{ blk := tb228 }, ({ core := 2 } : Exe), (1 : Fin 16), (2 : Fin 16), tb228_ready, by decide +kernel⟩

theorem wit_HeperArithmetic_11 : ∃ (s : State) (x : Exe) (rs : Fin 16) (rt : Fin 16), s.blk.Ready ∧ s.blk.fetches x
    1 = true ∧ (s.blk.cpu x).rep ≤ 1 :=
  ⟨{ blk := tb228 }, ({ core := 2 } : Exe), (1 : Fin 16), (2 : Fin 16), tb228_ready, by decide +kernel⟩

theorem wit_HeperArithmetic_12 : ∃ (s : State) (x : Exe) (rd : Fin 16) (rs : Fin 16) (rt : Fin 16), s.blk.Ready ∧
    s.blk.fetches x 1 = true ∧ (s.blk.cpu x).rep ≤ 1 :=
  ⟨{ blk := tb228 }, ({ core := 2 } : Exe), (3 : Fin 16), (1 : Fin 16), (2 : Fin 16), tb228_ready, by
    decide +kernel⟩

theorem wit_HeperArithmetic_13 : ∃ (s : State) (x : Exe) (rd : Fin 16) (rs : Fin 16) (rt : Fin 16), s.blk.Ready ∧
    s.blk.fetches x 1 = true ∧ (s.blk.cpu x).rep ≤ 1 :=
  ⟨{ blk := tb228 }, ({ core := 2 } : Exe), (3 : Fin 16), (1 : Fin 16), (2 : Fin 16), tb228_ready, by
    decide +kernel⟩

theorem wit_HeperArithmetic_14 : ∃ (s : State) (x : Exe) (rd : Fin 16) (rs : Fin 16) (rt : Fin 16), s.blk.Ready ∧
    s.blk.fetches x 1 = true ∧ (s.blk.cpu x).rep ≤ 1 :=
  ⟨{ blk := tb228 }, ({ core := 2 } : Exe), (3 : Fin 16), (1 : Fin 16), (2 : Fin 16), tb228_ready, by
    decide +kernel⟩

theorem wit_HeperArithmetic_15 : ∃ (s : State) (x : Exe) (rd : Fin 16) (rs : Fin 16) (rt : Fin 16), s.blk.Ready ∧
    s.blk.fetches x 1 = true ∧ (s.blk.cpu x).rep ≤ 1 :=
  ⟨{ blk := tb228 }, ({ core := 2 } : Exe), (3 : Fin 16), (1 : Fin 16), (2 : Fin 16), tb228_ready, by
    decide +kernel⟩

theorem wit_HeperArithmetic_16 : ∃ (s : State) (x : Exe) (rd : Fin 16) (rs : Fin 16), s.blk.Ready ∧ s.blk.fetches x
    1 = true ∧ (s.blk.cpu x).rep ≤ 1 :=
  ⟨{ blk := tb228 }, ({ core := 2 } : Exe), (3 : Fin 16), (1 : Fin 16), tb228_ready, by decide +kernel⟩

theorem wit_HeperArithmetic_17 : ∃ (s : State) (x : Exe) (rd : Fin 16) (rs : Fin 16), s.blk.Ready ∧ s.blk.fetches x
    1 = true ∧ (s.blk.cpu x).rep ≤ 1 :=
  ⟨{ blk := tb228 }, ({ core := 2 } : Exe), (3 : Fin 16), (1 : Fin 16), tb228_ready, by decide +kernel⟩

theorem wit_HeperArithmetic_18 : ∃ (s : State) (x : Exe) (rd : Fin 16) (rs : Fin 16), s.blk.Ready ∧ s.blk.fetches x
    1 = true ∧ (s.blk.cpu x).rep ≤ 1 :=
  ⟨{ blk := tb228 }, ({ core := 2 } : Exe), (15 : Fin 16), (1 : Fin 16), tb228_ready, by decide +kernel⟩

theorem wit_HeperArithmetic_19 : ∃ (s : State) (x : Exe) (rd : Fin 16) (rs : Fin 16) (rt : Fin 16), s.blk.Ready ∧
    s.blk.fetches x 1 = true ∧ (s.blk.cpu x).rep ≤ 1 :=
  ⟨{ blk := tb228 }, ({ core := 2 } : Exe), (3 : Fin 16), (1 : Fin 16), (2 : Fin 16), tb228_ready, by
    decide +kernel⟩

theorem wit_HeperArithmetic_20 : ∃ (s : State) (x : Exe) (rd : Fin 16) (rs : Fin 16) (rt : Fin 16) (cond : Fin 15),
    s.blk.Ready ∧ s.blk.fetches x 1 = true ∧ (s.blk.cpu x).rep ≤ 1 :=
  ⟨{ blk := tb228 }, ({ core := 2 } : Exe), (3 : Fin 16), (1 : Fin 16), (2 : Fin 16), (5 : Fin 15), tb228_ready, by
    decide +kernel⟩

theorem wit_HeperLogic_0 : ∃ (s : State) (x : Exe) (rd : Fin 16) (rs : Fin 16) (rt : Fin 16), s.blk.Ready ∧
    s.blk.fetches x 1 = true ∧ (s.blk.cpu x).rep ≤ 1 :=
  ⟨{ blk := tb228 }, ({ core := 2 } : Exe), (3 : Fin 16), (1 : Fin 16), (2 : Fin 16), tb228_ready, by
    decide +kernel⟩

theorem wit_HeperLogic_1 : ∃ (s : State) (x : Exe) (rd : Fin 16) (rs : Fin 16) (rt : Fin 16), s.blk.Ready ∧
    s.blk.fetches x 1 = true ∧ (s.blk.cpu x).rep ≤ 1 :=
  ⟨{ blk := tb228 }, ({ core := 2 } : Exe), (3 : Fin 16), (1 : Fin 16), (2 : Fin 16), tb228_ready, by
    decide +kernel⟩

theorem wit_HeperLogic_2 : ∃ (s : State) (x : Exe) (rd : Fin 16) (rs : Fin 16) (rt : Fin 16), s.blk.Ready ∧
    s.blk.fetches x 1 = true ∧ (s.blk.cpu x).rep ≤ 1 :=
  ⟨{ blk := tb228 }, ({ core := 2 } : Exe), (3 : Fin 16), (1 : Fin 16), (2 : Fin 16), tb228_ready, by
    decide +kernel⟩

theorem wit_HeperLogic_3 : ∃ (s : State) (x : Exe) (rd : Fin 16) (rs : Fin 16), s.blk.Ready ∧ s.blk.fetches x 1 =
    true ∧ (s.blk.cpu x).rep ≤ 1 :=
  ⟨{ blk := tb228 }, ({ core := 2 } : Exe), (3 : Fin 16), (1 : Fin 16), tb228_ready, by decide +kernel⟩

theorem wit_HeperLogic_4 : ∃ (s : State) (x : Exe) (rd : Fin 16) (rs : Fin 16), s.blk.Ready ∧ s.blk.fetches x 1 =
    true ∧ (s.blk.cpu x).rep ≤ 1 :=
  ⟨{ blk := tb228 }, ({ core := 2 } : Exe), (3 : Fin 16), (1 : Fin 16), tb228_ready, by decide +kernel⟩

theorem wit_HeperLogic_5 : ∃ (s : State) (x : Exe) (rd : Fin 16) (rs : Fin 16), s.blk.Ready ∧ s.blk.fetches x 1 =
    true ∧ (s.blk.cpu x).rep ≤ 1 :=
  ⟨{ blk := tb228 }, ({ core := 2 } : Exe), (3 : Fin 16), (1 : Fin 16), tb228_ready, by decide +kernel⟩

theorem wit_HeperLogic_6 : ∃ (s : State) (x : Exe) (rd : Fin 16) (rs : Fin 16), s.blk.Ready ∧ s.blk.fetches x 1 =
    true ∧ (s.blk.cpu x).rep ≤ 1 :=
  ⟨{ blk := tb228 }, ({ core := 2 } : Exe), (3 : Fin 16), (1 : Fin 16), tb228_ready, by decide +kernel⟩

theorem wit_HeperLogic_7 : ∃ (s : State) (x : Exe) (rd : Fin 16) (rs : Fin 16) (rt : Fin 16), s.blk.Ready ∧
    s.blk.fetches x 1 = true ∧ (s.blk.cpu x).rep ≤ 1 ∧ (((s.blk.cpu x).getD rt) ≠ 0 ∨ (s.blk.cpu x).divcfg.getLsbD 0
    = false) :=
  ⟨{ blk := tb228 }, ({ core := 2 } : Exe), (3 : Fin 16), (1 : Fin 16), (2 : Fin 16), tb228_ready, by
    decide +kernel⟩

theorem wit_HeperLogic_8 : ∃ (s : State) (x : Exe) (rd : Fin 16) (rs : Fin 16) (rt : Fin 16), s.blk.Ready ∧
    s.blk.fetches x 1 = true ∧ (s.blk.cpu x).rep ≤ 1 ∧ (((s.blk.cpu x).getD rt) ≠ 0 ∨ (s.blk.cpu x).divcfg.getLsbD 0
    = false) :=
  ⟨{ blk := tb228 }, ({ core := 2 } : Exe), (3 : Fin 16), (1 : Fin 16), (2 : Fin 16), tb228_ready, by
    decide +kernel⟩

theorem wit_HeperLogic_9 : ∃ (s : State) (x : Exe) (rd : Fin 16) (rs : Fin 16) (rt : Fin 16), s.blk.Ready ∧
    s.blk.fetches x 1 = true ∧ (s.blk.cpu x).rep ≤ 1 ∧ (((s.blk.cpu x).getD rt) ≠ 0 ∨ (s.blk.cpu x).divcfg.getLsbD 0
    = false) :=
  ⟨{ blk := tb228 }, ({ core := 2 } : Exe), (3 : Fin 16), (1 : Fin 16), (2 : Fin 16), tb228_ready, by
    decide +kernel⟩

theorem wit_HeperLogic_10 : ∃ (s : State) (x : Exe) (rd : Fin 16) (rs : Fin 16) (rt : Fin 16), s.blk.Ready ∧
    s.blk.fetches x 1 = true ∧ (s.blk.cpu x).rep ≤ 1 ∧ (((s.blk.cpu x).getD rt) ≠ 0 ∨ (s.blk.cpu x).divcfg.getLsbD 0
    = false) :=
  ⟨{ blk := tb228 }, ({ core := 2 } : Exe), (3 : Fin 16), (1 : Fin 16), (2 : Fin 16), tb228_ready, by
    decide +kernel⟩

theorem wit_HeperLogic_11 : ∃ (s : State) (x : Exe) (rd : Fin 16) (rs : Fin 16) (i : Imm), s.blk.Ready ∧
    s.blk.fetches x i.words = true ∧ (s.blk.cpu x).rep ≤ 1 :=
  ⟨{ blk := tb228 }, ({ core := 2 } : Exe), (3 : Fin 16), (1 : Fin 16), ((.long 0xFFFFFFFF) : Imm), tb228_ready, by
    decide +kernel⟩

theorem wit_HeperLogic_12 : ∃ (s : State) (x : Exe) (rd : Fin 16) (rs : Fin 16) (i : Imm), s.blk.Ready ∧
    s.blk.fetches x i.words = true ∧ (s.blk.cpu x).rep ≤ 1 :=
  ⟨{ blk := tb228 }, ({ core := 2 } : Exe), (3 : Fin 16), (1 : Fin 16), ((.short 0x20005) : Imm), tb228_ready, by
    decide +kernel⟩

theorem wit_HeperLogic_13 : ∃ (s : State) (x : Exe) (rd : Fin 16) (rs : Fin 16) (i : Imm), s.blk.Ready ∧
    s.blk.fetches x i.words = true ∧ (s.blk.cpu x).rep ≤ 1 :=
  ⟨{ blk := tb228 }, ({ core := 2 } : Exe), (3 : Fin 16), (1 : Fin 16), ((.short 0x20005) : Imm), tb228_ready, by
    decide +kernel⟩

theorem wit_HeperLogic_14 : ∃ (s : State) (x : Exe) (rd : Fin 16) (rs : Fin 16) (i : Imm), s.blk.Ready ∧
    s.blk.fetches x i.words = true ∧ (s.blk.cpu x).rep ≤ 1 :=
  ⟨{ blk := tb228 }, ({ core := 2 } : Exe), (3 : Fin 16), (1 : Fin 16), ((.short 0x20005) : Imm), tb228_ready, by
    decide +kernel⟩

theorem wit_HeperLogic_15 : ∃ (s : State) (x : Exe) (rd : Fin 16) (i : Imm), s.blk.Ready ∧ s.blk.fetches x i.words =
    true ∧ (s.blk.cpu x).rep ≤ 1 :=
  ⟨{ blk := tb228 }, ({ core := 2 } : Exe), (3 : Fin 16), ((.short 0x20005) : Imm), tb228_ready, by decide +kernel⟩

theorem wit_HeperLogic_16 : ∃ (s : State) (x : Exe) (rs : Fin 16) (i : Imm), s.blk.Ready ∧ s.blk.fetches x i.words =
    true ∧ (s.blk.cpu x).rep ≤ 1 :=
  ⟨{ blk := tb228 }, ({ core := 2 } : Exe), (1 : Fin 16), ((.short 5) : Imm), tb228_ready, by decide +kernel⟩

theorem wit_HeperLogic_17 : ∃ (s : State) (x : Exe) (rd : Fin 16) (rs : Fin 16) (i : Imm), s.blk.Ready ∧
    s.blk.fetches x i.words = true ∧ (s.blk.cpu x).rep ≤ 1 :=
  ⟨{ blk := tb228 }, ({ core := 2 } : Exe), (3 : Fin 16), (1 : Fin 16), ((.short 4) : Imm), tb228_ready, by
    decide +kernel⟩

theorem wit_ShiftCounts_0 : ∃ (s : State) (x : Exe) (rd : Fin 16) (rs : Fin 16) (rt : Fin 16), s.blk.Ready ∧
    s.blk.fetches x 1 = true ∧ (s.blk.cpu x).rep ≤ 1 :=
  ⟨{ blk := tb228 }, ({ core := 2 } : Exe), (3 : Fin 16), (1 : Fin 16), (2 : Fin 16), tb228_ready, by
    decide +kernel⟩

theorem wit_ShiftCounts_1 : ∃ (s : State) (x : Exe) (rd : Fin 16) (rs : Fin 16) (rt : Fin 16), s.blk.Ready ∧
    s.blk.fetches x 1 = true ∧ (s.blk.cpu x).rep ≤ 1 :=
  ⟨{ blk := tb228 }, ({ core := 2 } : Exe), (3 : Fin 16), (1 : Fin 16), (2 : Fin 16), tb228_ready, by
    decide +kernel⟩

theorem wit_ShiftCounts_2 : ∃ (s : State) (x : Exe) (rd : Fin 16) (rs : Fin 16) (rt : Fin 16), s.blk.Ready ∧
    s.blk.fetches x 1 = true ∧ (s.blk.cpu x).rep ≤ 1 :=
  ⟨{ blk := tb228 }, ({ core := 2 } : Exe), (3 : Fin 16), (1 : Fin 16), (2 : Fin 16), tb228_ready, by
    decide +kernel⟩

theorem wit_ShiftCounts_3 : ∃ (s : State) (x : Exe) (rd : Fin 16) (rs : Fin 16) (rt : Fin 16), s.blk.Ready ∧
    s.blk.fetches x 1 = true ∧ (s.blk.cpu x).rep ≤ 1 :=
  ⟨{ blk := tb228 }, ({ core := 2 } : Exe), (3 : Fin 16), (1 : Fin 16), (2 : Fin 16), tb228_ready, by
    decide +kernel⟩

theorem wit_ShiftCounts_4 : ∃ (s : State) (x : Exe) (rd : Fin 16) (rs : Fin 16) (kind : Fin 4) (count : Byte),
    s.blk.Ready ∧ s.blk.fetches x 1 = true ∧ (s.blk.cpu x).rep ≤ 1 :=
  ⟨{ blk := tb228 }, ({ core := 2 } : Exe), (3 : Fin 16), (1 : Fin 16), (2 : Fin 4), (4 : Byte), tb228_ready, by
    decide +kernel⟩

theorem wit_MultiplyResults_0 : ∃ (s : State) (x : Exe) (rd : Fin 16) (rs : Fin 16) (rt : Fin 16), s.blk.Ready ∧
    s.blk.fetches x 1 = true ∧ (s.blk.cpu x).rep ≤ 1 :=
  ⟨{ blk := tb228 }, ({ core := 2 } : Exe), (3 : Fin 16), (1 : Fin 16), (2 : Fin 16), tb228_ready, by
    decide +kernel⟩

theorem wit_MultiplyResults_1 : ∃ (s : State) (x : Exe) (rd : Fin 16) (rs : Fin 16) (rt : Fin 16), s.blk.Ready ∧
    s.blk.fetches x 1 = true ∧ (s.blk.cpu x).rep ≤ 1 :=
  ⟨{ blk := tb228 }, ({ core := 2 } : Exe), (3 : Fin 16), (1 : Fin 16), (2 : Fin 16), tb228_ready, by
    decide +kernel⟩

theorem wit_MultiplyResults_2 : ∃ (s : State) (x : Exe) (rd : Fin 16) (rs : Fin 16) (rt : Fin 16), s.blk.Ready ∧
    s.blk.fetches x 1 = true ∧ (s.blk.cpu x).rep ≤ 1 :=
  ⟨{ blk := tb228 }, ({ core := 2 } : Exe), (3 : Fin 16), (1 : Fin 16), (2 : Fin 16), tb228_ready, by
    decide +kernel⟩

def tb229 : Block :=
  ({ (bench.setF F.HEP_STAT_STATE 2 2) with core := [(2, { d := [(1, 0x80000000)], a := [(1, 0x10100), (2, 0x10200)], pc := 0x10000, psp := 0x11000, sr := 0x41 })] }
    : Block)
theorem tb229_ready : tb229.Ready :=
  (ready_congr (b := (bench.setF F.HEP_STAT_STATE 2 2)) (ready_core _ 2 2 (by decide) (by decide) bench_ready) rfl
    rfl rfl)

theorem wit_NegationEdges_0 : ∃ (s : State) (x : Exe) (rd : Fin 16) (rs : Fin 16), s.blk.Ready ∧ s.blk.fetches x 1 =
    true ∧ (s.blk.cpu x).rep ≤ 1 ∧ (s.blk.cpu x).getD rs = 0x80000000 :=
  ⟨{ blk := tb229 }, ({ core := 2 } : Exe), (3 : Fin 16), (1 : Fin 16), tb229_ready, by decide +kernel⟩

def tb230 : Block :=
  ({ (bench.setF F.HEP_STAT_STATE 2 2) with core := [(2, { d := [(2, 5)], a := [(1, 0x10100), (2, 0x10200)], pc := 0x10000, psp := 0x11000, sr := 0x41 })] }
    : Block)
theorem tb230_ready : tb230.Ready :=
  (ready_congr (b := (bench.setF F.HEP_STAT_STATE 2 2)) (ready_core _ 2 2 (by decide) (by decide) bench_ready) rfl
    rfl rfl)

theorem wit_NegationEdges_1 : ∃ (s : State) (x : Exe) (rd : Fin 16) (rs : Fin 16), s.blk.Ready ∧ s.blk.fetches x 1 =
    true ∧ (s.blk.cpu x).rep ≤ 1 ∧ (s.blk.cpu x).getD rs = 0 :=
  ⟨{ blk := tb230 }, ({ core := 2 } : Exe), (3 : Fin 16), (1 : Fin 16), tb230_ready, by decide +kernel⟩

theorem wit_NegationEdges_2 : ∃ (s : State) (x : Exe) (rd : Fin 16) (rs : Fin 16), s.blk.Ready ∧ s.blk.fetches x 1 =
    true ∧ (s.blk.cpu x).rep ≤ 1 ∧ (s.blk.cpu x).getD rs = 0x80000000 :=
  ⟨{ blk := tb229 }, ({ core := 2 } : Exe), (3 : Fin 16), (1 : Fin 16), tb229_ready, by decide +kernel⟩

theorem wit_NegationEdges_3 : ∃ (s : State) (x : Exe) (rd : Fin 16) (rs : Fin 16), s.blk.Ready ∧ s.blk.fetches x 1 =
    true ∧ (s.blk.cpu x).rep ≤ 1 ∧ (s.blk.cpu x).getD rs = 0x80000000 :=
  ⟨{ blk := tb229 }, ({ core := 2 } : Exe), (3 : Fin 16), (1 : Fin 16), tb229_ready, by decide +kernel⟩

theorem wit_NegationEdges_4 : ∃ (s : State) (x : Exe) (rd : Fin 16) (rs : Fin 16), s.blk.Ready ∧ s.blk.fetches x 1 =
    true ∧ (s.blk.cpu x).rep ≤ 1 ∧ (s.blk.cpu x).getD rs ≠ 0x80000000 :=
  ⟨{ blk := tb228 }, ({ core := 2 } : Exe), (3 : Fin 16), (1 : Fin 16), tb228_ready, by decide +kernel⟩

def tb231 : Block :=
  ({ (bench.setF F.HEP_STAT_STATE 2 2) with core := [(2, { d := [(1, 0x7FFFFFFF), (2, 7)], a := [(1, 0x10100), (2, 0x10200)], pc := 0x10000, psp := 0x11000, sr := 0x41 })] }
    : Block)
theorem tb231_ready : tb231.Ready :=
  (ready_congr (b := (bench.setF F.HEP_STAT_STATE 2 2)) (ready_core _ 2 2 (by decide) (by decide) bench_ready) rfl
    rfl rfl)

theorem wit_NegationEdges_5 : ∃ (s : State) (x : Exe) (rd : Fin 16) (rs : Fin 16) (rt : Fin 16), s.blk.Ready ∧
    s.blk.fetches x 1 = true ∧ (s.blk.cpu x).rep ≤ 1 ∧ 2147483647 < ((s.blk.cpu x).getD rs).toInt + ((s.blk.cpu
    x).getD rt).toInt :=
  ⟨{ blk := tb231 }, ({ core := 2 } : Exe), (3 : Fin 16), (1 : Fin 16), (2 : Fin 16), tb231_ready, by
    decide +kernel⟩

def tb232 : Block :=
  ({ (bench.setF F.HEP_STAT_STATE 2 2) with core := [(2, { d := [(1, 0x80000000), (2, 0xFFFFFFFF)], a := [(1, 0x10100), (2, 0x10200)], pc := 0x10000, psp := 0x11000, sr := 0x41 })] }
    : Block)
theorem tb232_ready : tb232.Ready :=
  (ready_congr (b := (bench.setF F.HEP_STAT_STATE 2 2)) (ready_core _ 2 2 (by decide) (by decide) bench_ready) rfl
    rfl rfl)

theorem wit_NegationEdges_6 : ∃ (s : State) (x : Exe) (rd : Fin 16) (rs : Fin 16) (rt : Fin 16), s.blk.Ready ∧
    s.blk.fetches x 1 = true ∧ (s.blk.cpu x).rep ≤ 1 ∧ ((s.blk.cpu x).getD rs).toInt + ((s.blk.cpu x).getD rt).toInt
    < -2147483648 :=
  ⟨{ blk := tb232 }, ({ core := 2 } : Exe), (3 : Fin 16), (1 : Fin 16), (2 : Fin 16), tb232_ready, by
    decide +kernel⟩

def tb233 : Block :=
  ({ (bench.setF F.HEP_STAT_STATE 2 2) with core := [(2, { d := [(1, 0x7FFFFFFF), (2, 0x80000000)], a := [(1, 0x10100), (2, 0x10200)], pc := 0x10000, psp := 0x11000, sr := 0x41 })] }
    : Block)
theorem tb233_ready : tb233.Ready :=
  (ready_congr (b := (bench.setF F.HEP_STAT_STATE 2 2)) (ready_core _ 2 2 (by decide) (by decide) bench_ready) rfl
    rfl rfl)

theorem wit_NegationEdges_7 : ∃ (s : State) (x : Exe) (rd : Fin 16) (rs : Fin 16) (rt : Fin 16), s.blk.Ready ∧
    s.blk.fetches x 1 = true ∧ (s.blk.cpu x).rep ≤ 1 ∧ 2147483647 < ((s.blk.cpu x).getD rs).toInt - ((s.blk.cpu
    x).getD rt).toInt :=
  ⟨{ blk := tb233 }, ({ core := 2 } : Exe), (3 : Fin 16), (1 : Fin 16), (2 : Fin 16), tb233_ready, by
    decide +kernel⟩

def tb234 : Block :=
  ({ (bench.setF F.HEP_STAT_STATE 2 2) with core := [(2, { d := [(1, 0x80000000), (2, 7)], a := [(1, 0x10100), (2, 0x10200)], pc := 0x10000, psp := 0x11000, sr := 0x41 })] }
    : Block)
theorem tb234_ready : tb234.Ready :=
  (ready_congr (b := (bench.setF F.HEP_STAT_STATE 2 2)) (ready_core _ 2 2 (by decide) (by decide) bench_ready) rfl
    rfl rfl)

theorem wit_NegationEdges_8 : ∃ (s : State) (x : Exe) (rd : Fin 16) (rs : Fin 16) (rt : Fin 16), s.blk.Ready ∧
    s.blk.fetches x 1 = true ∧ (s.blk.cpu x).rep ≤ 1 ∧ ((s.blk.cpu x).getD rs).toInt - ((s.blk.cpu x).getD rt).toInt
    < -2147483648 :=
  ⟨{ blk := tb234 }, ({ core := 2 } : Exe), (3 : Fin 16), (1 : Fin 16), (2 : Fin 16), tb234_ready, by
    decide +kernel⟩

def tb235 : Block :=
  ({ (bench.setF F.HEP_STAT_STATE 2 2) with core := [(2, { d := [(1, 0x80000005), (2, 7), (4, 0x7FFFFFFF)], a := [(1, 0x10100), (2, 0x10200)], pc := 0x10000, psp := 0x11000, sr := 0x41, acc := [(1, 0x123456789ABCDEF012)] })] }
    : Block)
theorem tb235_ready : tb235.Ready :=
  (ready_congr (b := (bench.setF F.HEP_STAT_STATE 2 2)) (ready_core _ 2 2 (by decide) (by decide) bench_ready) rfl
    rfl rfl)

theorem wit_HeperAccumulators_0 : ∃ (s : State) (x : Exe) (n : Fin 4) (rs : Fin 16) (rt : Fin 16), s.blk.Ready ∧
    s.blk.fetches x 1 = true ∧ (s.blk.cpu x).rep ≤ 1 :=
  ⟨{ blk := tb235 }, ({ core := 2 } : Exe), (1 : Fin 4), (1 : Fin 16), (2 : Fin 16), tb235_ready, by decide +kernel⟩

theorem wit_HeperAccumulators_1 : ∃ (s : State) (x : Exe) (n : Fin 4) (rs : Fin 16) (rt : Fin 16), s.blk.Ready ∧
    s.blk.fetches x 1 = true ∧ (s.blk.cpu x).rep ≤ 1 :=
  ⟨{ blk := tb235 }, ({ core := 2 } : Exe), (1 : Fin 4), (1 : Fin 16), (2 : Fin 16), tb235_ready, by decide +kernel⟩

theorem wit_HeperAccumulators_2 : ∃ (s : State) (x : Exe) (n : Fin 4) (rs : Fin 16) (rt : Fin 16), s.blk.Ready ∧
    s.blk.fetches x 1 = true ∧ (s.blk.cpu x).rep ≤ 1 :=
  ⟨{ blk := tb235 }, ({ core := 2 } : Exe), (1 : Fin 4), (1 : Fin 16), (2 : Fin 16), tb235_ready, by decide +kernel⟩

theorem wit_HeperAccumulators_3 : ∃ (s : State) (x : Exe) (n : Fin 4) (rs : Fin 16) (rt : Fin 16), s.blk.Ready ∧
    s.blk.fetches x 1 = true ∧ (s.blk.cpu x).rep ≤ 1 :=
  ⟨{ blk := tb235 }, ({ core := 2 } : Exe), (1 : Fin 4), (1 : Fin 16), (2 : Fin 16), tb235_ready, by decide +kernel⟩

theorem wit_HeperAccumulators_4 : ∃ (s : State) (x : Exe) (n : Fin 4) (rs : Fin 16) (rt : Fin 16), s.blk.Ready ∧
    s.blk.fetches x 1 = true ∧ (s.blk.cpu x).rep ≤ 1 :=
  ⟨{ blk := tb235 }, ({ core := 2 } : Exe), (1 : Fin 4), (1 : Fin 16), (2 : Fin 16), tb235_ready, by decide +kernel⟩

theorem wit_HeperAccumulators_5 : ∃ (s : State) (x : Exe) (n : Fin 4) (rs : Fin 16) (rt : Fin 16), s.blk.Ready ∧
    s.blk.fetches x 1 = true ∧ (s.blk.cpu x).rep ≤ 1 :=
  ⟨{ blk := tb235 }, ({ core := 2 } : Exe), (1 : Fin 4), (1 : Fin 16), (2 : Fin 16), tb235_ready, by decide +kernel⟩

theorem wit_HeperAccumulators_6 : ∃ (s : State) (x : Exe) (n : Fin 4), s.blk.Ready ∧ s.blk.fetches x 1 = true ∧
    (s.blk.cpu x).rep ≤ 1 :=
  ⟨{ blk := tb235 }, ({ core := 2 } : Exe), (1 : Fin 4), tb235_ready, by decide +kernel⟩

theorem wit_HeperAccumulators_7 : ∃ (s : State) (x : Exe) (rd : Fin 16) (n : Fin 4) (sh : Fin 64), s.blk.Ready ∧
    s.blk.fetches x 1 = true ∧ (s.blk.cpu x).rep ≤ 1 :=
  ⟨{ blk := tb235 }, ({ core := 2 } : Exe), (3 : Fin 16), (1 : Fin 4), (16 : Fin 64), tb235_ready, by
    decide +kernel⟩

theorem wit_HeperAccumulators_8 : ∃ (s : State) (x : Exe) (rd : Fin 16) (n : Fin 4) (sh : Fin 64), s.blk.Ready ∧
    s.blk.fetches x 1 = true ∧ (s.blk.cpu x).rep ≤ 1 :=
  ⟨{ blk := tb235 }, ({ core := 2 } : Exe), (3 : Fin 16), (1 : Fin 4), (16 : Fin 64), tb235_ready, by
    decide +kernel⟩

theorem wit_HeperAccumulators_9 : ∃ (s : State) (x : Exe) (rd : Fin 16) (n : Fin 4), s.blk.Ready ∧ s.blk.fetches x 1
    = true ∧ (s.blk.cpu x).rep ≤ 1 :=
  ⟨{ blk := tb235 }, ({ core := 2 } : Exe), (3 : Fin 16), (1 : Fin 4), tb235_ready, by decide +kernel⟩

theorem wit_HeperAccumulators_10 : ∃ (s : State) (x : Exe) (rd : Fin 16) (n : Fin 4), s.blk.Ready ∧ s.blk.fetches x
    1 = true ∧ (s.blk.cpu x).rep ≤ 1 :=
  ⟨{ blk := tb235 }, ({ core := 2 } : Exe), (3 : Fin 16), (1 : Fin 4), tb235_ready, by decide +kernel⟩

theorem wit_HeperAccumulators_11 : ∃ (s : State) (x : Exe) (n : Fin 4) (rs : Fin 16) (rt : Fin 16) (rg : Fin 16),
    s.blk.Ready ∧ s.blk.fetches x 1 = true ∧ (s.blk.cpu x).rep ≤ 1 :=
  ⟨{ blk := tb235 }, ({ core := 2 } : Exe), (1 : Fin 4), (1 : Fin 16), (2 : Fin 16), (4 : Fin 16), tb235_ready, by
    decide +kernel⟩

def tb236 : Block :=
  ({ ({ (bench.setF F.HEP_STAT_STATE 2 2) with mem := Mem.writes [] (localBase 2 + 0x100) [0x80, 0xF1, 0x23, 0x84] } : Block) with core := [(2, { d := [(1, 4), (2, 0x8899AABB)], a := [(1, 0x10100), (2, 0x10200)], pc := 0x10000, psp := 0x11000 })] }
    : Block)
theorem tb236_ready : tb236.Ready :=
  (ready_congr (b :=
    ({ (bench.setF F.HEP_STAT_STATE 2 2) with mem := Mem.writes [] (localBase 2 + 0x100) [0x80, 0xF1, 0x23, 0x84] }
    : Block)) (ready_congr (b := (bench.setF F.HEP_STAT_STATE 2 2)) (ready_core _ 2 2 (by decide) (by decide)
    bench_ready) rfl rfl rfl) rfl rfl rfl)

theorem wit_HeperMemory_0 : ∃ (s : State) (x : Exe) (size : Fin 3) (rd : Fin 16) (ab : Fin 16) (e : Ea) (g : Nat),
    s.blk.Ready ∧ s.blk.fetches x e.words = true ∧ (s.blk.cpu x).rep ≤ 1 ∧ s.blk.reaches x 1 size ((s.blk.cpu x).ea
    ab size e) g = true :=
  ⟨{ blk := tb236 }, ({ core := 2 } : Exe), (1 : Fin 3), (2 : Fin 16), (1 : Fin 16), ((.post (.short 0x1FFE)) : Ea),
    ((localBase 2 + 0x100) : Nat), tb236_ready, by decide +kernel⟩

theorem wit_HeperMemory_1 : ∃ (s : State) (x : Exe) (size : Fin 3) (rd : Fin 16) (ab : Fin 16) (e : Ea) (g : Nat),
    s.blk.Ready ∧ s.blk.fetches x e.words = true ∧ (s.blk.cpu x).rep ≤ 1 ∧ s.blk.reaches x 1 size ((s.blk.cpu x).ea
    ab size e) g = true :=
  ⟨{ blk := tb236 }, ({ core := 2 } : Exe), (1 : Fin 3), (2 : Fin 16), (1 : Fin 16), ((.post (.short 0x1FFE)) : Ea),
    ((localBase 2 + 0x100) : Nat), tb236_ready, by decide +kernel⟩

theorem wit_HeperMemory_2 : ∃ (s : State) (x : Exe) (ad : Fin 16) (ab : Fin 16) (e : Ea) (g : Nat), s.blk.Ready ∧
    s.blk.fetches x e.words = true ∧ (s.blk.cpu x).rep ≤ 1 ∧ s.blk.reaches x 1 2 ((s.blk.cpu x).ea ab 2 e) g = true
    :=
  ⟨{ blk := tb236 }, ({ core := 2 } : Exe), (1 : Fin 16), (1 : Fin 16), ((.pre (.short 0)) : Ea), ((localBase 2 +
    0x100) : Nat), tb236_ready, by decide +kernel⟩

theorem wit_HeperMemory_3 : ∃ (s : State) (x : Exe) (size : Fin 3) (rd : Fin 16) (ab : Fin 16) (e : Ea) (g : Nat),
    s.blk.Ready ∧ s.blk.fetches x e.words = true ∧ (s.blk.cpu x).rep ≤ 1 ∧ s.blk.reaches x 2 size ((s.blk.cpu x).ea
    ab size e) g = true :=
  ⟨{ blk := tb236 }, ({ core := 2 } : Exe), (1 : Fin 3), (2 : Fin 16), (1 : Fin 16), ((.post (.short 0x1FFE)) : Ea),
    ((localBase 2 + 0x100) : Nat), tb236_ready, by decide +kernel⟩

theorem wit_HeperMemory_4 : ∃ (s : State) (x : Exe) (ad : Fin 16) (ab : Fin 16) (e : Ea) (g : Nat), s.blk.Ready ∧
    s.blk.fetches x e.words = true ∧ (s.blk.cpu x).rep ≤ 1 ∧ s.blk.reaches x 2 2 ((s.blk.cpu x).ea ab 2 e) g = true
    :=
  ⟨{ blk := tb236 }, ({ core := 2 } : Exe), (1 : Fin 16), (1 : Fin 16), ((.pre (.short 0)) : Ea), ((localBase 2 +
    0x100) : Nat), tb236_ready, by decide +kernel⟩

theorem wit_HeperControl_0 : ∃ (s : State) (x : Exe) (cond : Fin 15) (t : Target), s.blk.Ready ∧ s.blk.fetches x
    t.words = true ∧ (s.blk.cpu x).rep = 0 :=
  ⟨{ blk := tb228 }, ({ core := 2 } : Exe), (0 : Fin 15), ((.rel 0x3FFFFE) : Target), tb228_ready, by
    decide +kernel⟩

theorem wit_HeperControl_1 : ∃ (s : State) (x : Exe) (cond : Fin 15) (t : Target), s.blk.Ready ∧ s.blk.fetches x
    t.words = true ∧ (s.blk.cpu x).rep = 0 :=
  ⟨{ blk := tb228 }, ({ core := 2 } : Exe), (0 : Fin 15), ((.abs 0x10203) : Target), tb228_ready, by decide +kernel⟩

def tb237 : Block :=
  ({ (bench.setF F.HEP_STAT_STATE 2 2) with core := [(2, { d := [(1, 0x80000005), (2, 7), (4, 0x7FFFFFFF)], a := [(14, 0x10203)], pc := 0x10000, psp := 0x11000, sr := 0x41 })] }
    : Block)
theorem tb237_ready : tb237.Ready :=
  (ready_congr (b := (bench.setF F.HEP_STAT_STATE 2 2)) (ready_core _ 2 2 (by decide) (by decide) bench_ready) rfl
    rfl rfl)

theorem wit_HeperControl_2 : ∃ (s : State) (x : Exe) (link : Bool) (rs : Fin 16), s.blk.Ready ∧ s.blk.fetches x 1 =
    true ∧ (s.blk.cpu x).rep = 0 :=
  ⟨{ blk := tb237 }, ({ core := 2 } : Exe), (true : Bool), (14 : Fin 16), tb237_ready, by decide +kernel⟩

theorem wit_HeperControl_3 : ∃ (s : State) (x : Exe) (k : Fin 4) (f : LoopForm), s.blk.Ready ∧ s.blk.fetches x
    (HepCore.loopWords f) = true ∧ (s.blk.cpu x).rep = 0 ∧ ((((s.blk.cpu x).pc + BitVec.ofNat 32 (4 *
    (HepCore.loopWords f)))).toNat ≤
    ((match f with | .imm e _ => (s.blk.cpu x).pc + BitVec.ofNat 32 (4 * e.toNat) | .reg e _ => (s.blk.cpu x).pc + BitVec.ofNat 32 (4 * e.toNat) | .long e _ => (s.blk.cpu x).pc + BitVec.ofNat 32 (4 * e.toNat) : Word)).toNat)
    ∧ (s.blk.cpu x).pc.toNat + 8 < 2 ^ 32 ∧
    ((match f with | .imm _ n => BitVec.ofNat 32 n.toNat | .reg _ r => (s.blk.cpu x).getD r | .long _ n => n : Word)
    ≠ 0) ∧ (∀ j ∈ List.range 4, Tab.get 0 (s.blk.cpu x).le j = (s.blk.cpu x).pc → j = k.val ∨ Tab.get 0 (s.blk.cpu
    x).lc j = 0) :=
  ⟨{ blk := tb228 }, ({ core := 2 } : Exe), (1 : Fin 4), ((.imm 3 5) : LoopForm), tb228_ready, by decide +kernel⟩

theorem wit_HeperControl_4 : ∃ (s : State) (x : Exe) (k : Fin 4) (f : LoopForm) (w : Word), s.blk.Ready ∧
    s.blk.fetches x (HepCore.loopWords f) = true ∧ (s.blk.cpu x).rep = 0 ∧ ((((s.blk.cpu x).pc + BitVec.ofNat 32 (4
    * (HepCore.loopWords f)))).toNat ≤
    ((match f with | .imm e _ => (s.blk.cpu x).pc + BitVec.ofNat 32 (4 * e.toNat) | .reg e _ => (s.blk.cpu x).pc + BitVec.ofNat 32 (4 * e.toNat) | .long e _ => (s.blk.cpu x).pc + BitVec.ofNat 32 (4 * e.toNat) : Word)).toNat)
    ∧ ((match f with | .imm _ n => BitVec.ofNat 32 n.toNat | .reg _ r => (s.blk.cpu x).getD r | .long _ n => n : Word)
    = 0) ∧ ((match spot (Block.hcOf x) ((match f with | .imm e _ => (s.blk.cpu x).pc + BitVec.ofNat 32 (4 * e.toNat) | .reg e _ => (s.blk.cpu x).pc + BitVec.ofNat 32 (4 * e.toNat) | .long e _ => (s.blk.cpu x).pc + BitVec.ofNat 32 (4 * e.toNat) : Word)).toNat with | .ram g dom => s.blk.pg dom && BitVec.ofNat 32 (ofLe (s.blk.readMem g 4)) == w | _ => false)
    = true) :=
  ⟨{ blk := tb228 }, ({ core := 2 } : Exe), (1 : Fin 4), ((.imm 3 0) : LoopForm), (0 : Word), tb228_ready, by
    decide +kernel⟩

theorem wit_HeperControl_5 : ∃ (s : State) (x : Exe) (f : RepForm), s.blk.Ready ∧ s.blk.fetches x 1 = true ∧
    (s.blk.cpu x).rep = 0 ∧ (∀ j ∈ List.range 4, Tab.get 0 (s.blk.cpu x).le j = (s.blk.cpu x).pc → Tab.get 0
    (s.blk.cpu x).lc j = 0) ∧
    ((match spot (Block.hcOf x) ((s.blk.cpu x).pc + 4).toNat with | .ram g dom => s.blk.pg dom && !(Block.noRepeat (BitVec.ofNat 32 (ofLe (s.blk.readMem g 4)))) | _ => false)
    = true) ∧ ((match f with | .imm n => n.val + 1 | .reg r => min 64 (((s.blk.cpu x).getD r).toNat % 128) : Nat) ≠
    0) :=
  ⟨{ blk := tb228 }, ({ core := 2 } : Exe), ((.imm 4) : RepForm), tb228_ready, by decide +kernel⟩

theorem wit_HeperControl_6 : ∃ (s : State) (x : Exe), s.blk.Ready ∧ s.blk.fetches x 1 = true ∧ True :=
  ⟨{ blk := tb228 }, ({ core := 2 } : Exe), tb228_ready, by decide +kernel⟩

theorem wit_HeperControl_7 : ∃ (s : State) (x : Exe), s.blk.Ready ∧ s.blk.fetches x 1 = true ∧ True :=
  ⟨{ blk := tb228 }, ({ core := 2 } : Exe), tb228_ready, by decide +kernel⟩

theorem wit_HeperControl_8 : ∃ (s : State) (x : Exe), s.blk.Ready ∧ s.blk.fetches x 1 = true ∧ True ∧ (s.blk.cpu
    x).priv = true ∧ s.blk.quiet x 1 = true :=
  ⟨{ blk := tb228 }, ({ core := 2 } : Exe), tb228_ready, by decide +kernel⟩

theorem wit_HeperControl_9 : ∃ (s : State) (c : Fin 15), s.blk.Ready :=
  ⟨{ blk := tb228 }, (2 : Fin 15), tb228_ready⟩

def tb238 : Block :=
  (({ bench with core := [(2, { ien := 0x2000, tcmpl := 0, tcmph := 0 })] } : Block).setF F.HEP_STAT_STATE 2 3)

theorem wit_HeperControl_10 : ∃ (s : State) (c : Fin 15), s.blk.catchm.due = [] ∧ s.blk.pw.gaugeOff = false ∧
    s.blk.getF F.GAUGE_STAT_STATE 0 = 1 ∧ s.blk.coreState (Block.hcOf { core := c }) = 3 ∧ (s.blk.hc (Block.hcOf
    { core := c })).sr.getLsbD 1 = false ∧ s.blk.lineReady (Block.hcOf { core := c }) ≠ none :=
  ⟨{ blk := tb238 }, (2 : Fin 15), by decide +kernel⟩

def tb239 : Block :=
  ({ (bench.setF F.HEP_STAT_STATE 2 2) with core := [(2, { d := [(1, 0x80000005), (2, 7), (4, 0x7FFFFFFF)], a := [(1, 0x10100), (2, 0x10200)], pc := 0x10000, psp := 0x11000, sr := 0x41, vbar := 0x12000 })] }
    : Block)
theorem tb239_ready : tb239.Ready :=
  (ready_congr (b := (bench.setF F.HEP_STAT_STATE 2 2)) (ready_core _ 2 2 (by decide) (by decide) bench_ready) rfl
    rfl rfl)

theorem wit_HeperExceptions_0 : ∃ (s : State) (x : Exe) (n : Fin 32), s.blk.Ready ∧ s.blk.fetches x 1 = true ∧
    (s.blk.cpu x).rep = 0 ∧ s.blk.entryOk x 7 = true :=
  ⟨{ blk := tb239 }, ({ core := 2 } : Exe), (5 : Fin 32), tb239_ready, by decide +kernel⟩

theorem wit_HeperExceptions_1 : ∃ (s : State) (x : Exe), s.blk.Ready ∧ s.blk.fetches x 1 = true ∧ (s.blk.cpu x).rep
    = 0 ∧ s.blk.entryOk x 8 = true :=
  ⟨{ blk := tb239 }, ({ core := 2 } : Exe), tb239_ready, by decide +kernel⟩

def tb240 : Block :=
  ({ (bench.setF F.HEP_STAT_STATE 2 2) with core := [(2, { d := [(1, 0x80000005), (2, 7), (4, 0x7FFFFFFF)], a := [(1, 0x10100), (2, 0x10200)], pc := 0x10000, psp := 0x11000, sr := 0x41, vbar := 0x12000, divcfg := 1 })] }
    : Block)
theorem tb240_ready : tb240.Ready :=
  (ready_congr (b := (bench.setF F.HEP_STAT_STATE 2 2)) (ready_core _ 2 2 (by decide) (by decide) bench_ready) rfl
    rfl rfl)

theorem wit_HeperExceptions_2 : ∃ (s : State) (x : Exe) (rd : Fin 16) (rs : Fin 16) (rt : Fin 16), s.blk.Ready ∧
    s.blk.fetches x 1 = true ∧ (s.blk.cpu x).rep = 0 ∧ (s.blk.cpu x).getD rt = 0 ∧ (s.blk.cpu x).divcfg.getLsbD 0 =
    true ∧ s.blk.entryOk x 6 = true :=
  ⟨{ blk := tb240 }, ({ core := 2 } : Exe), (3 : Fin 16), (1 : Fin 16), (5 : Fin 16), tb240_ready, by
    decide +kernel⟩

theorem wit_HeperExceptions_3 : ∃ (s : State) (x : Exe) (rd : Fin 16) (rs : Fin 16) (rt : Fin 16), s.blk.Ready ∧
    s.blk.fetches x 1 = true ∧ (s.blk.cpu x).rep = 0 ∧ (s.blk.cpu x).getD rt = 0 ∧ (s.blk.cpu x).divcfg.getLsbD 0 =
    true ∧ s.blk.entryOk x 6 = true :=
  ⟨{ blk := tb240 }, ({ core := 2 } : Exe), (3 : Fin 16), (1 : Fin 16), (5 : Fin 16), tb240_ready, by
    decide +kernel⟩

theorem wit_HeperExceptions_4 : ∃ (s : State) (x : Exe) (rd : Fin 16) (rs : Fin 16) (rt : Fin 16), s.blk.Ready ∧
    s.blk.fetches x 1 = true ∧ (s.blk.cpu x).rep = 0 ∧ (s.blk.cpu x).getD rt = 0 ∧ (s.blk.cpu x).divcfg.getLsbD 0 =
    true ∧ s.blk.entryOk x 6 = true :=
  ⟨{ blk := tb240 }, ({ core := 2 } : Exe), (3 : Fin 16), (1 : Fin 16), (5 : Fin 16), tb240_ready, by
    decide +kernel⟩

theorem wit_HeperExceptions_5 : ∃ (s : State) (x : Exe) (rd : Fin 16) (rs : Fin 16) (rt : Fin 16), s.blk.Ready ∧
    s.blk.fetches x 1 = true ∧ (s.blk.cpu x).rep = 0 ∧ (s.blk.cpu x).getD rt = 0 ∧ (s.blk.cpu x).divcfg.getLsbD 0 =
    true ∧ s.blk.entryOk x 6 = true :=
  ⟨{ blk := tb240 }, ({ core := 2 } : Exe), (3 : Fin 16), (1 : Fin 16), (5 : Fin 16), tb240_ready, by
    decide +kernel⟩

theorem wit_HeperExceptions_6 : ∃ (s : State) (x : Exe) (rd : Fin 16) (cr : Byte) (st : Bool), s.blk.Ready ∧
    s.blk.fetches x 1 = true ∧ (s.blk.cpu x).rep = 0 ∧ ((0x10 < cr.toNat ∧ cr.toNat < 0x20) ∨ (0x43 < cr.toNat ∧
    cr.toNat < 0x50) ∨ 0x5F < cr.toNat) ∧ s.blk.entryOk x 1 = true :=
  ⟨{ blk := tb239 }, ({ core := 2 } : Exe), (3 : Fin 16), (0x11 : Byte), (false : Bool), tb239_ready, by
    decide +kernel⟩

theorem wit_HeperExceptions_7 : ∃ (s : State) (x : Exe) (rd : Fin 16) (rs : Fin 16), s.blk.Ready ∧ x.bad = true ∧
    s.blk.fetches { x with bad := false } 1 = true ∧ (s.blk.cpu x).rep = 0 ∧ s.blk.entryOk x 1 = true :=
  ⟨{ blk := tb239 }, ({ core := 2, bad := true } : Exe), (3 : Fin 16), (1 : Fin 16), tb239_ready, by decide +kernel⟩

def tb241 : Block :=
  ({ (bench.setF F.HEP_STAT_STATE 2 2) with core := [(2, { d := [(1, 0x80000005), (2, 7), (4, 0x7FFFFFFF)], a := [(1, 0x10100), (2, 0x10200)], pc := 0x10000, psp := 0x11000, sr := 0x40, vbar := 0x12000 })] }
    : Block)
theorem tb241_ready : tb241.Ready :=
  (ready_congr (b := (bench.setF F.HEP_STAT_STATE 2 2)) (ready_core _ 2 2 (by decide) (by decide) bench_ready) rfl
    rfl rfl)

theorem wit_HeperExceptions_8 : ∃ (s : State) (x : Exe) (rd : Fin 16) (cr : Byte) (st : Bool), s.blk.Ready ∧
    s.blk.fetches x 1 = true ∧ (s.blk.cpu x).rep = 0 ∧ (cr.toNat ≤ 0x10 ∨ (0x20 ≤ cr.toNat ∧ cr.toNat ≤ 0x43) ∨
    (0x50 ≤ cr.toNat ∧ cr.toNat ≤ 0x5F)) ∧ (s.blk.cpu x).priv = false ∧ cr ≠ 0 ∧ cr ≠ 0x0B ∧ cr ≠ 0x0C ∧ cr ≠ 0x0D ∧
    s.blk.entryOk x 2 = true :=
  ⟨{ blk := tb241 }, ({ core := 2 } : Exe), (3 : Fin 16), (5 : Byte), (false : Bool), tb241_ready, by
    decide +kernel⟩

theorem wit_HeperExceptions_9 : ∃ (s : State) (x : Exe) (cr : Byte) (rs : Fin 16), s.blk.Ready ∧ s.blk.fetches x 1 =
    true ∧ (s.blk.cpu x).rep = 0 ∧ (cr.toNat ≤ 0x10 ∨ (0x20 ≤ cr.toNat ∧ cr.toNat ≤ 0x3F) ∨ cr = 0x43) ∧ cr ≠ 0 ∧
    (s.blk.cpu x).priv = false ∧ s.blk.entryOk x 2 = true :=
  ⟨{ blk := tb241 }, ({ core := 2 } : Exe), (5 : Byte), (1 : Fin 16), tb241_ready, by decide +kernel⟩

theorem wit_HeperExceptions_10 : ∃ (s : State) (x : Exe), s.blk.Ready ∧ s.blk.fetches x 1 = true ∧ (s.blk.cpu x).rep
    = 0 ∧ (s.blk.cpu x).priv = false ∧ s.blk.entryOk x 2 = true :=
  ⟨{ blk := tb241 }, ({ core := 2 } : Exe), tb241_ready, by decide +kernel⟩

theorem wit_HeperExceptions_11 : ∃ (s : State) (x : Exe), s.blk.Ready ∧ s.blk.fetches x 1 = true ∧ (s.blk.cpu x).rep
    = 0 ∧ (s.blk.cpu x).priv = false ∧ s.blk.entryOk x 2 = true :=
  ⟨{ blk := tb241 }, ({ core := 2 } : Exe), tb241_ready, by decide +kernel⟩

def tb242 : Block :=
  ({ (bench.setF F.HEP_STAT_STATE 2 2) with core := [(2, { d := [(1, 0x80000005), (2, 7), (4, 0x7FFFFFFF)], a := [(1, 0x10100), (2, 0x10200)], pc := 0x10000, psp := 0x11000, sr := 0x41, vbar := 0x12000, cxlock := true })] }
    : Block)
theorem tb242_ready : tb242.Ready :=
  (ready_congr (b := (bench.setF F.HEP_STAT_STATE 2 2)) (ready_core _ 2 2 (by decide) (by decide) bench_ready) rfl
    rfl rfl)

theorem wit_HeperExceptions_12 : ∃ (s : State) (x : Exe) (k : Fin 16) (rs : Fin 16), s.blk.Ready ∧ s.blk.fetches x 1
    = true ∧ (s.blk.cpu x).rep = 0 ∧ (s.blk.cpu x).cxlock = true ∧ s.blk.entryOk x 1 = true :=
  ⟨{ blk := tb242 }, ({ core := 2 } : Exe), (3 : Fin 16), (1 : Fin 16), tb242_ready, by decide +kernel⟩

theorem wit_HeperExceptions_13 : ∃ (s : State) (x : Exe) (rs : Fin 16), s.blk.Ready ∧ s.blk.fetches x 1 = true ∧
    (s.blk.cpu x).rep = 0 ∧ (s.blk.cpu x).cxlock = true ∧ s.blk.entryOk x 1 = true :=
  ⟨{ blk := tb242 }, ({ core := 2 } : Exe), (1 : Fin 16), tb242_ready, by decide +kernel⟩

theorem wit_HeperExceptions_14 : ∃ (s : State) (x : Exe) (k : Fin 4) (f : LoopForm), s.blk.Ready ∧ s.blk.fetches x
    (HepCore.loopWords f) = true ∧ (s.blk.cpu x).rep = 0 ∧
    (((match f with | .imm e _ => (s.blk.cpu x).pc + BitVec.ofNat 32 (4 * e.toNat) | .reg e _ => (s.blk.cpu x).pc + BitVec.ofNat 32 (4 * e.toNat) | .long e _ => (s.blk.cpu x).pc + BitVec.ofNat 32 (4 * e.toNat) : Word)).toNat
    < (((s.blk.cpu x).pc + BitVec.ofNat 32 (4 * (HepCore.loopWords f)))).toNat) ∧ s.blk.entryOk x 1 = true :=
  ⟨{ blk := tb239 }, ({ core := 2 } : Exe), (1 : Fin 4), ((.imm 0 5) : LoopForm), tb239_ready, by decide +kernel⟩

theorem wit_HeperExceptions_15 : ∃ (s : State) (x : Exe) (size : Fin 3) (rd : Fin 16) (ab : Fin 16) (e : Ea),
    s.blk.Ready ∧ s.blk.fetches x e.words = true ∧ (s.blk.cpu x).rep = 0 ∧ ((s.blk.cpu x).ea ab size e).toNat % 2 ^
    size.val ≠ 0 ∧ s.blk.entryOk x 5 = true :=
  ⟨{ blk := tb239 }, ({ core := 2 } : Exe), (2 : Fin 3), (3 : Fin 16), (1 : Fin 16), ((.offset (.short 2)) : Ea),
    tb239_ready, by decide +kernel⟩

theorem wit_HeperExceptions_16 : ∃ (s : State) (x : Exe) (size : Fin 3) (rd : Fin 16) (ab : Fin 16) (e : Ea),
    s.blk.Ready ∧ s.blk.fetches x e.words = true ∧ (s.blk.cpu x).rep = 0 ∧ ((s.blk.cpu x).ea ab size e).toNat % 2 ^
    size.val ≠ 0 ∧ s.blk.entryOk x 5 = true :=
  ⟨{ blk := tb239 }, ({ core := 2 } : Exe), (2 : Fin 3), (3 : Fin 16), (1 : Fin 16), ((.offset (.short 2)) : Ea),
    tb239_ready, by decide +kernel⟩

def tb243 : Block :=
  ({ (bench.setF F.HEP_STAT_STATE 2 2) with core := [(2, { d := [(1, 0x80000005), (2, 7), (4, 0x7FFFFFFF)], a := [(1, 0x10100), (2, 0x10200)], pc := 0x10000, psp := 0x11000, sr := 0x41, vbar := 0x12000, mpuctl := 3, mpubase := [(3, 0x10101)], mpulim := [(3, 0x10105)] })] }
    : Block)
theorem tb243_ready : tb243.Ready :=
  (ready_congr (b := (bench.setF F.HEP_STAT_STATE 2 2)) (ready_core _ 2 2 (by decide) (by decide) bench_ready) rfl
    rfl rfl)

theorem wit_HeperExceptions_17 : ∃ (s : State) (x : Exe) (size : Fin 3) (rd : Fin 16) (ab : Fin 16) (e : Ea) (r :
    Nat) (no : Bool), s.blk.Ready ∧ s.blk.fetches x e.words = true ∧ (s.blk.cpu x).rep = 0 ∧ ((s.blk.cpu x).ea ab
    size e).toNat % 2 ^ size.val = 0 ∧ mpuDenied (s.blk.cpu x) (s.blk.cpu x).priv 2 ((s.blk.cpu x).ea ab size
    e).toNat = some (r, no) ∧ r < 16 ∧ s.blk.entryOk x 3 = true :=
  ⟨{ blk := tb243 }, ({ core := 2 } : Exe), (2 : Fin 3), (3 : Fin 16), (1 : Fin 16), ((.offset (.short 0)) : Ea), (3
    : Nat), (false : Bool), tb243_ready, by decide +kernel⟩

def tb244 : Block :=
  ({ (bench.setF F.HEP_STAT_STATE 2 2) with core := [(2, { d := [(1, 0x80000005), (2, 7), (4, 0x7FFFFFFF)], a := [(1, 0x10100), (2, 0x10200)], pc := 0x10000, psp := 0x11000, sr := 0x43, vbar := 0x12000, ien := 0x2000, tcmpl := 0, tcmph := 0 })] }
    : Block)
theorem tb244_ready : tb244.Ready :=
  (ready_congr (b := (bench.setF F.HEP_STAT_STATE 2 2)) (ready_core _ 2 2 (by decide) (by decide) bench_ready) rfl
    rfl rfl)

theorem wit_HeperExceptions_18 : ∃ (s : State) (c : Fin 15) (x : Exe) (l : Fin 16), s.blk.Ready ∧ x = { core := c }
    ∧ s.blk.coreReady (Block.hcOf x) = true ∧ (s.blk.cpu x).rep = 0 ∧ (s.blk.cpu x).sr.getLsbD 1 = true ∧
    s.blk.lineReady (Block.hcOf x) = some l.val ∧ s.blk.entryOk x (16 + l.val) = true :=
  ⟨{ blk := tb244 }, (2 : Fin 15), ({ core := 2 } : Exe), (13 : Fin 16), tb244_ready, by decide +kernel⟩

theorem wit_HeperExceptions_19 : ∃ (s : State) (x : Exe) (g : Nat), s.blk.Ready ∧ s.blk.fetches x 1 = true ∧
    (s.blk.cpu x).rep = 0 ∧ (s.blk.cpu x).priv = true ∧ s.blk.reaches x 1 2 (s.blk.cpu x).psp g = true ∧
    s.blk.reaches x 1 2 ((s.blk.cpu x).psp + 4) (g + 4) = true :=
  ⟨{ blk := tb228 }, ({ core := 2 } : Exe), ((localBase 2 + 0x1000) : Nat), tb228_ready, by decide +kernel⟩

def tb245 : Block :=
  ({ (bench.setF F.HEP_STAT_STATE 2 2) with core := [(2, { d := [(1, 0x80000005), (2, 7), (4, 0x7FFFFFFF)], a := [(1, 0x10100), (2, 0x10200)], pc := 0x10000, psp := 0x11000, sr := 0x41, mpubase := [(1, 0x10101)] })] }
    : Block)
theorem tb245_ready : tb245.Ready :=
  (ready_congr (b := (bench.setF F.HEP_STAT_STATE 2 2)) (ready_core _ 2 2 (by decide) (by decide) bench_ready) rfl
    rfl rfl)

theorem wit_HeperControlRegisters_0 : ∃ (s : State) (x : Exe) (rd : Fin 16) (cr : Byte) (st : Bool), s.blk.Ready ∧
    s.blk.fetches x 1 = true ∧ (s.blk.cpu x).rep ≤ 1 ∧ (cr.toNat ≤ 0x10 ∨ (0x20 ≤ cr.toNat ∧ cr.toNat ≤ 0x43) ∨
    (0x50 ≤ cr.toNat ∧ cr.toNat ≤ 0x5F)) ∧ ((s.blk.cpu x).priv = true ∨ cr = 0 ∨ cr = 0x0B ∨ cr = 0x0D) ∧ cr ≠ 7 ∧
    cr ≠ 0x0C ∧ s.blk.quiet x 1 = true :=
  ⟨{ blk := tb245 }, ({ core := 2 } : Exe), (3 : Fin 16), (0x22 : Byte), (false : Bool), tb245_ready, by
    decide +kernel⟩

theorem wit_HeperControlRegisters_1 : ∃ (s : State) (x : Exe) (cr : Byte) (rs : Fin 16), s.blk.Ready ∧ s.blk.fetches
    x 1 = true ∧ (s.blk.cpu x).rep ≤ 1 ∧ (s.blk.cpu x).priv = true ∧ cr.toNat ≤ 0x41 ∧ ((0x10 < cr.toNat → 0x20 ≤
    cr.toNat)) ∧ (s.blk.cpu x).cxlock = false ∧ cr ≠ 8 :=
  ⟨{ blk := tb228 }, ({ core := 2 } : Exe), (0x23 : Byte), (1 : Fin 16), tb228_ready, by decide +kernel⟩

def tb246 : Block :=
  ({ (bench.setF F.HEP_STAT_STATE 2 2) with core := [(2, { d := [(1, 0x80000005), (2, 7), (4, 0x7FFFFFFF)], a := [(1, 0x10100), (2, 0x10200)], pc := 0x10000, psp := 0x11000, sr := 0x40 })] }
    : Block)
theorem tb246_ready : tb246.Ready :=
  (ready_congr (b := (bench.setF F.HEP_STAT_STATE 2 2)) (ready_core _ 2 2 (by decide) (by decide) bench_ready) rfl
    rfl rfl)

theorem wit_HeperControlRegisters_2 : ∃ (s : State) (x : Exe) (rs : Fin 16), s.blk.Ready ∧ s.blk.fetches x 1 = true
    ∧ (s.blk.cpu x).rep ≤ 1 ∧ (s.blk.cpu x).priv = false :=
  ⟨{ blk := tb246 }, ({ core := 2 } : Exe), (1 : Fin 16), tb246_ready, by decide +kernel⟩

def tb247 : Block :=
  ({ (bench.setF F.HEP_STAT_STATE 2 2) with core := [(2, { d := [(1, 0x80000005), (2, 7), (4, 0x7FFFFFFF)], a := [(1, 0x10100), (2, 0x10200)], pc := 0x10000, psp := 0x11000, sr := 0x41, ien := 0x10, irq := [(4, 40), (4, 33)] })] }
    : Block)
theorem tb247_ready : tb247.Ready :=
  (ready_congr (b := (bench.setF F.HEP_STAT_STATE 2 2)) (ready_core _ 2 2 (by decide) (by decide) bench_ready) rfl
    rfl rfl)

theorem wit_HeperControlRegisters_3 : ∃ (s : State) (x : Exe) (rd : Fin 16) (l : Fin 13) (e : Byte), s.blk.Ready ∧
    s.blk.fetches x 1 = true ∧ (s.blk.cpu x).rep ≤ 1 ∧ (s.blk.cpu x).priv = true ∧ s.blk.quiet x 1 = true ∧
    (List.range l.val).all (fun i => !((fun i => s.blk.linePending (Block.hcOf x) i && (s.blk.cpu x).ien.getLsbD i)
    i)) = true ∧ (s.blk.cpu x).ien.getLsbD l.val = true ∧ (s.blk.cpu x).irq.contains (l.val, e.toNat) = true ∧ (∀ p
    ∈ (s.blk.cpu x).irq, p.1 = l.val → e.toNat ≤ p.2) :=
  ⟨{ blk := tb247 }, ({ core := 2 } : Exe), (3 : Fin 16), (4 : Fin 13), (33 : Byte), tb247_ready, by decide +kernel⟩

def tb248 : Block :=
  ({ (bench.setF F.HEP_STAT_STATE 2 2) with core := [(2, { d := [(1, 0x80000005), (2, 7), (4, 0x7FFFFFFF)], a := [(1, 0x10100), (2, 0x10200)], pc := 0x10000, psp := 0x11000, sr := 0x41, ien := 0x2000, tcmpl := 0, tcmph := 0 })] }
    : Block)
theorem tb248_ready : tb248.Ready :=
  (ready_congr (b := (bench.setF F.HEP_STAT_STATE 2 2)) (ready_core _ 2 2 (by decide) (by decide) bench_ready) rfl
    rfl rfl)

theorem wit_HeperControlRegisters_4 : ∃ (s : State) (x : Exe) (rd : Fin 16) (l : Fin 3), s.blk.Ready ∧ s.blk.fetches
    x 1 = true ∧ (s.blk.cpu x).rep ≤ 1 ∧ (s.blk.cpu x).priv = true ∧ s.blk.quiet x 1 = true ∧ (List.range (13 +
    l.val)).all (fun i => !((fun i => s.blk.linePending (Block.hcOf x) i && (s.blk.cpu x).ien.getLsbD i) i)) = true
    ∧ (fun i => s.blk.linePending (Block.hcOf x) i && (s.blk.cpu x).ien.getLsbD i) (13 + l.val) = true :=
  ⟨{ blk := tb248 }, ({ core := 2 } : Exe), (3 : Fin 16), (0 : Fin 3), tb248_ready, by decide +kernel⟩

theorem wit_HeperControlRegisters_5 : ∃ (s : State) (x : Exe) (rd : Fin 16), s.blk.Ready ∧ s.blk.fetches x 1 = true
    ∧ (s.blk.cpu x).rep ≤ 1 ∧ (s.blk.cpu x).priv = true ∧ s.blk.quiet x 1 = true ∧ (List.range 16).all (fun i =>
    !((fun i => s.blk.linePending (Block.hcOf x) i && (s.blk.cpu x).ien.getLsbD i) i)) = true :=
  ⟨{ blk := tb228 }, ({ core := 2 } : Exe), (3 : Fin 16), tb228_ready, by decide +kernel⟩

theorem wit_HeperControlRegisters_6 : ∃ (s : State) (x : Exe) (rd : Fin 16) (st : Bool), s.blk.Ready ∧ s.blk.fetches
    x 1 = true ∧ (s.blk.cpu x).rep ≤ 1 :=
  ⟨{ blk := tb228 }, ({ core := 2 } : Exe), (3 : Fin 16), (false : Bool), tb228_ready, by decide +kernel⟩

theorem wit_HeperControlRegisters_7 : ∃ (s : State) (x : Exe) (rs : Fin 16) (t : Fin 5), s.blk.Ready ∧ s.blk.fetches
    x 1 = true ∧ (s.blk.cpu x).rep ≤ 1 ∧ (s.blk.cpu x).priv = true ∧ Block.hcOf x < 6 :=
  ⟨{ blk := tb228 }, ({ core := 2 } : Exe), (2 : Fin 16), (1 : Fin 5), tb228_ready, by decide +kernel⟩

def tb249 : Block :=
  ({ (bench.setF F.HEP_STAT_STATE 6 2) with core := [(6, { pc := 0x10000 })] } : Block)
theorem tb249_ready : tb249.Ready :=
  (ready_congr (b := (bench.setF F.HEP_STAT_STATE 6 2)) (ready_core _ 6 2 (by decide) (by decide) bench_ready) rfl
    rfl rfl)

theorem wit_HeperControlRegisters_8 : ∃ (s : State) (x : Exe) (rs : Fin 16), s.blk.Ready ∧ s.blk.fetches x 1 = true
    ∧ (s.blk.cpu x).rep ≤ 1 ∧ (s.blk.cpu x).priv = true ∧ 6 ≤ Block.hcOf x :=
  ⟨{ blk := tb249 }, ({ core := 6 } : Exe), (2 : Fin 16), tb249_ready, by decide +kernel⟩

theorem wit_HeperControlRegisters_9 : ∃ (s : State) (x : Exe) (up : Bool) (rs : Fin 16), s.blk.Ready ∧ s.blk.fetches
    x 1 = true ∧ (s.blk.cpu x).rep ≤ 1 ∧ (s.blk.cpu x).priv = true :=
  ⟨{ blk := tb228 }, ({ core := 2 } : Exe), (true : Bool), (1 : Fin 16), tb228_ready, by decide +kernel⟩

def tb250 : Block :=
  ({ (bench.setF F.HEP_STAT_STATE 2 2) with core := [(2, { d := [(1, 0x80000005), (2, 7), (4, 0x7FFFFFFF)], a := [(1, 0x10100), (2, 0x10200)], pc := 0x10000, psp := 0x11000, sr := 0x41, ucaddr := 511 })] }
    : Block)
theorem tb250_ready : tb250.Ready :=
  (ready_congr (b := (bench.setF F.HEP_STAT_STATE 2 2)) (ready_core _ 2 2 (by decide) (by decide) bench_ready) rfl
    rfl rfl)

theorem wit_HeperControlRegisters_10 : ∃ (s : State) (x : Exe) (rs : Fin 16), s.blk.Ready ∧ s.blk.fetches x 1 = true
    ∧ (s.blk.cpu x).rep ≤ 1 ∧ (s.blk.cpu x).priv = true ∧ (s.blk.cpu x).cxlock = false ∧ (s.blk.cpu x).ucaddr < 512
    :=
  ⟨{ blk := tb250 }, ({ core := 2 } : Exe), (1 : Fin 16), tb250_ready, by decide +kernel⟩

theorem wit_HeperControlRegisters_11 : ∃ (s : State) (x : Exe) (k : Fin 16) (rs : Fin 16), s.blk.Ready ∧
    s.blk.fetches x 1 = true ∧ (s.blk.cpu x).rep ≤ 1 ∧ (s.blk.cpu x).priv = true ∧ (s.blk.cpu x).cxlock = false :=
  ⟨{ blk := tb228 }, ({ core := 2 } : Exe), (3 : Fin 16), (1 : Fin 16), tb228_ready, by decide +kernel⟩

theorem wit_HeperControlRegisters_12 : ∃ (s : State) (x : Exe) (rs : Fin 16), s.blk.Ready ∧ s.blk.fetches x 1 = true
    ∧ (s.blk.cpu x).rep ≤ 1 ∧ (s.blk.cpu x).priv = true :=
  ⟨{ blk := tb228 }, ({ core := 2 } : Exe), (1 : Fin 16), tb228_ready, by decide +kernel⟩

def tb251 : Block :=
  ({ (bench.setF F.HEP_STAT_STATE 2 2) with core := [(2, { d := [(1, 0x80000005), (2, 7), (4, 0x7FFFFFFF)], a := [(1, 0x10100), (2, 0x10200)], pc := 0x10000, psp := 0x11000, sr := 0x41, vbar := 0x12000, cxdef := [(3, 0x8005)], ustore := [(5, 0x72c310000000000)] })] }
    : Block)
theorem tb251_ready : tb251.Ready :=
  (ready_congr (b := (bench.setF F.HEP_STAT_STATE 2 2)) (ready_core _ 2 2 (by decide) (by decide) bench_ready) rfl
    rfl rfl)

theorem wit_HeperCustomer_0 : ∃ (s : State) (x : Exe) (k : Fin 16) (a : CxArgs) (m : Micro), s.blk.Ready ∧
    s.blk.fetches x 1 = true ∧ (s.blk.cpu x).rep = 0 ∧ (Tab.get 0 (s.blk.cpu x).cxdef k).toNat / 2 ^ 15 % 2 = 1 ∧
    ((s.blk.cpu x).priv = true ∨ (Tab.get 0 (s.blk.cpu x).cxdef k).toNat / 2 ^ 14 % 2 = 1) ∧ (Tab.get 0 (s.blk.cpu
    x).cxdef k).toNat / 2 ^ 9 % 32 = 0 ∧ m =
    ({ w := Tab.get 0 (s.blk.cpu x).ustore ((Tab.get 0 (s.blk.cpu x).cxdef k).toNat % 512) } : Micro) ∧ (([true,
    (s.blk.cpu x).sr.getLsbD 9, !(s.blk.cpu x).sr.getLsbD 9, (s.blk.cpu x).sr.getLsbD 8, !(s.blk.cpu x).sr.getLsbD
    8, (s.blk.cpu x).sr.getLsbD 10, !(s.blk.cpu x).sr.getLsbD 10, (s.blk.cpu x).sr.getLsbD 11, !(s.blk.cpu
    x).sr.getLsbD 11, (s.blk.cpu x).sr.getLsbD 8 && !(s.blk.cpu x).sr.getLsbD 9, !(s.blk.cpu x).sr.getLsbD 8 ||
    (s.blk.cpu x).sr.getLsbD 9, (s.blk.cpu x).sr.getLsbD 10 == (s.blk.cpu x).sr.getLsbD 11, (s.blk.cpu x).sr.getLsbD
    10 != (s.blk.cpu x).sr.getLsbD 11, !(s.blk.cpu x).sr.getLsbD 9 && (s.blk.cpu x).sr.getLsbD 10 == (s.blk.cpu
    x).sr.getLsbD 11, (s.blk.cpu x).sr.getLsbD 9 || (s.blk.cpu x).sr.getLsbD 10 != (s.blk.cpu x).sr.getLsbD
    11]).getD m.cond false) = true ∧ m.cond < 15 ∧ m.uop ∈ [1, 2, 3, 4, 5, 0x13] ∧ microIllegal m = false ∧ m.fl =
    false ∧ (m.dst < 16 ∨ (0x30 ≤ m.dst ∧ m.dst < 0x33)) :=
  ⟨{ blk := tb251 }, ({ core := 2 } : Exe), (3 : Fin 16), ({ x := 1, y := 2, z := 3, imm := 5 } : CxArgs),
    ({ w := 0x72c310000000000 } : Micro), tb251_ready, by decide +kernel⟩

def tb252 : Block :=
  ({ (bench.setF F.HEP_STAT_STATE 2 2) with core := [(2, { d := [(1, 0x80000005), (2, 7), (4, 0x7FFFFFFF)], a := [(1, 0x10100), (2, 0x10200)], pc := 0x10000, psp := 0x11000, sr := 0x41, vbar := 0x12000, cxdef := [(3, 0x8005)], ustore := [(5, 0x72c311000000000)] })] }
    : Block)
theorem tb252_ready : tb252.Ready :=
  (ready_congr (b := (bench.setF F.HEP_STAT_STATE 2 2)) (ready_core _ 2 2 (by decide) (by decide) bench_ready) rfl
    rfl rfl)

theorem wit_HeperCustomer_1 : ∃ (s : State) (x : Exe) (k : Fin 16) (a : CxArgs) (m : Micro), s.blk.Ready ∧
    s.blk.fetches x 1 = true ∧ (s.blk.cpu x).rep = 0 ∧ (Tab.get 0 (s.blk.cpu x).cxdef k).toNat / 2 ^ 15 % 2 = 1 ∧
    ((s.blk.cpu x).priv = true ∨ (Tab.get 0 (s.blk.cpu x).cxdef k).toNat / 2 ^ 14 % 2 = 1) ∧ (Tab.get 0 (s.blk.cpu
    x).cxdef k).toNat / 2 ^ 9 % 32 = 0 ∧ m =
    ({ w := Tab.get 0 (s.blk.cpu x).ustore ((Tab.get 0 (s.blk.cpu x).cxdef k).toNat % 512) } : Micro) ∧ (([true,
    (s.blk.cpu x).sr.getLsbD 9, !(s.blk.cpu x).sr.getLsbD 9, (s.blk.cpu x).sr.getLsbD 8, !(s.blk.cpu x).sr.getLsbD
    8, (s.blk.cpu x).sr.getLsbD 10, !(s.blk.cpu x).sr.getLsbD 10, (s.blk.cpu x).sr.getLsbD 11, !(s.blk.cpu
    x).sr.getLsbD 11, (s.blk.cpu x).sr.getLsbD 8 && !(s.blk.cpu x).sr.getLsbD 9, !(s.blk.cpu x).sr.getLsbD 8 ||
    (s.blk.cpu x).sr.getLsbD 9, (s.blk.cpu x).sr.getLsbD 10 == (s.blk.cpu x).sr.getLsbD 11, (s.blk.cpu x).sr.getLsbD
    10 != (s.blk.cpu x).sr.getLsbD 11, !(s.blk.cpu x).sr.getLsbD 9 && (s.blk.cpu x).sr.getLsbD 10 == (s.blk.cpu
    x).sr.getLsbD 11, (s.blk.cpu x).sr.getLsbD 9 || (s.blk.cpu x).sr.getLsbD 10 != (s.blk.cpu x).sr.getLsbD
    11]).getD m.cond false) = false ∧ m.cond < 15 :=
  ⟨{ blk := tb252 }, ({ core := 2 } : Exe), (3 : Fin 16), ({ x := 1, y := 2, z := 3, imm := 5 } : CxArgs),
    ({ w := 0x72c311000000000 } : Micro), tb252_ready, by decide +kernel⟩

theorem wit_HeperCustomer_2 : ∃ (s : State) (x : Exe) (k : Fin 16) (a : CxArgs) (p : Option (Fin 32)), s.blk.Ready ∧
    s.blk.fetches x 1 = true ∧ (s.blk.cpu x).rep = 0 ∧ (Tab.get 0 (s.blk.cpu x).cxdef k).toNat / 2 ^ 15 % 2 = 0 ∧
    s.blk.entryOk x 1 = true :=
  ⟨{ blk := tb239 }, ({ core := 2 } : Exe), (3 : Fin 16), ({ x := 1, y := 2, z := 3, imm := 5 } : CxArgs), (none :
    Option (Fin 32)), tb239_ready, by decide +kernel⟩

def tb253 : Block :=
  ({ (bench.setF F.HEP_STAT_STATE 2 2) with core := [(2, { d := [(1, 0x80000005), (2, 7), (4, 0x7FFFFFFF)], a := [(1, 0x10100), (2, 0x10200)], pc := 0x10000, psp := 0x11000, sr := 0x40, vbar := 0x12000, cxdef := [(3, 0x8005)], ustore := [(5, 0x0)] })] }
    : Block)
theorem tb253_ready : tb253.Ready :=
  (ready_congr (b := (bench.setF F.HEP_STAT_STATE 2 2)) (ready_core _ 2 2 (by decide) (by decide) bench_ready) rfl
    rfl rfl)

theorem wit_HeperCustomer_3 : ∃ (s : State) (x : Exe) (k : Fin 16) (a : CxArgs) (p : Option (Fin 32)), s.blk.Ready ∧
    s.blk.fetches x 1 = true ∧ (s.blk.cpu x).rep = 0 ∧ (Tab.get 0 (s.blk.cpu x).cxdef k).toNat / 2 ^ 15 % 2 = 1 ∧
    (Tab.get 0 (s.blk.cpu x).cxdef k).toNat / 2 ^ 14 % 2 = 0 ∧ (s.blk.cpu x).priv = false ∧ s.blk.entryOk x 2 = true
    :=
  ⟨{ blk := tb253 }, ({ core := 2 } : Exe), (3 : Fin 16), ({ x := 1, y := 2, z := 3, imm := 5 } : CxArgs), (none :
    Option (Fin 32)), tb253_ready, by decide +kernel⟩

def tb254 : Block :=
  ({ (bench.setF F.HEP_STAT_STATE 2 2) with core := [(2, { d := [(1, 0x80000005), (2, 7), (4, 0x7FFFFFFF)], a := [(1, 0x10100), (2, 0x10200)], pc := 0x10000, psp := 0x11000, sr := 0x41, vbar := 0x12000, cxdef := [(3, 0x8005)], ustore := [(5, 0xff2c310000000000)] })] }
    : Block)
theorem tb254_ready : tb254.Ready :=
  (ready_congr (b := (bench.setF F.HEP_STAT_STATE 2 2)) (ready_core _ 2 2 (by decide) (by decide) bench_ready) rfl
    rfl rfl)

theorem wit_HeperCustomer_4 : ∃ (s : State) (x : Exe) (k : Fin 16) (a : CxArgs) (m : Micro), s.blk.Ready ∧
    s.blk.fetches x 1 = true ∧ (s.blk.cpu x).rep = 0 ∧ (Tab.get 0 (s.blk.cpu x).cxdef k).toNat / 2 ^ 15 % 2 = 1 ∧
    ((s.blk.cpu x).priv = true ∨ (Tab.get 0 (s.blk.cpu x).cxdef k).toNat / 2 ^ 14 % 2 = 1) ∧ (Tab.get 0 (s.blk.cpu
    x).cxdef k).toNat / 2 ^ 9 % 32 = 0 ∧ m =
    ({ w := Tab.get 0 (s.blk.cpu x).ustore ((Tab.get 0 (s.blk.cpu x).cxdef k).toNat % 512) } : Micro) ∧ m.cond < 15
    ∧ (([true, (s.blk.cpu x).sr.getLsbD 9, !(s.blk.cpu x).sr.getLsbD 9, (s.blk.cpu x).sr.getLsbD 8, !(s.blk.cpu
    x).sr.getLsbD 8, (s.blk.cpu x).sr.getLsbD 10, !(s.blk.cpu x).sr.getLsbD 10, (s.blk.cpu x).sr.getLsbD 11,
    !(s.blk.cpu x).sr.getLsbD 11, (s.blk.cpu x).sr.getLsbD 8 && !(s.blk.cpu x).sr.getLsbD 9, !(s.blk.cpu
    x).sr.getLsbD 8 || (s.blk.cpu x).sr.getLsbD 9, (s.blk.cpu x).sr.getLsbD 10 == (s.blk.cpu x).sr.getLsbD 11,
    (s.blk.cpu x).sr.getLsbD 10 != (s.blk.cpu x).sr.getLsbD 11, !(s.blk.cpu x).sr.getLsbD 9 && (s.blk.cpu
    x).sr.getLsbD 10 == (s.blk.cpu x).sr.getLsbD 11, (s.blk.cpu x).sr.getLsbD 9 || (s.blk.cpu x).sr.getLsbD 10 !=
    (s.blk.cpu x).sr.getLsbD 11]).getD m.cond false) = true ∧ microIllegal m = true ∧ s.blk.entryOk x 1 = true :=
  ⟨{ blk := tb254 }, ({ core := 2 } : Exe), (3 : Fin 16), ({ x := 1, y := 2, z := 3, imm := 5 } : CxArgs),
    ({ w := 0xff2c310000000000 } : Micro), tb254_ready, by decide +kernel⟩

theorem wit_HeperCustomer_5 : ∃ (s : State) (x : Exe) (k : Fin 16) (a : CxArgs) (m : Micro), s.blk.Ready ∧
    s.blk.fetches x 1 = true ∧ (s.blk.cpu x).rep = 0 ∧ (Tab.get 0 (s.blk.cpu x).cxdef k).toNat / 2 ^ 15 % 2 = 1 ∧
    ((s.blk.cpu x).priv = true ∨ (Tab.get 0 (s.blk.cpu x).cxdef k).toNat / 2 ^ 14 % 2 = 1) ∧ (Tab.get 0 (s.blk.cpu
    x).cxdef k).toNat / 2 ^ 9 % 32 = 0 ∧ m =
    ({ w := Tab.get 0 (s.blk.cpu x).ustore ((Tab.get 0 (s.blk.cpu x).cxdef k).toNat % 512) } : Micro) ∧ Block.hcOf x
    ≠ 0 ∧ m.cond < 15 ∧ microIllegal m = false ∧ s.blk.entryOk x 9 = true :=
  ⟨{ blk := tb251 }, ({ core := 2 } : Exe), (3 : Fin 16), ({ x := 1, y := 2, z := 3, imm := 5 } : CxArgs),
    ({ w := 0x72c310000000000 } : Micro), tb251_ready, by decide +kernel⟩

def tb255 : Block :=
  ({ (bench.setF F.HEP_STAT_STATE 2 2) with core := [(2, { d := [(1, 0x80000005), (2, 7), (4, 0x7FFFFFFF)], a := [(1, 0x10100), (2, 0x10200)], pc := 0x10000, psp := 0x11000, sr := 0x41, rep := 5, acc := [(1, 7)] })] }
    : Block)
theorem tb255_ready : tb255.Ready :=
  (ready_congr (b := (bench.setF F.HEP_STAT_STATE 2 2)) (ready_core _ 2 2 (by decide) (by decide) bench_ready) rfl
    rfl rfl)

theorem wit_HeperRepetition_0 : ∃ (s : State) (x : Exe) (rd : Fin 16) (i : Imm) (n : Nat), s.blk.Ready ∧
    s.blk.fetches x i.words = true ∧ (s.blk.cpu x).rep = n ∧ 0 < n :=
  ⟨{ blk := tb255 }, ({ core := 2 } : Exe), (3 : Fin 16), ((.short 7) : Imm), (5 : Nat), tb255_ready, by
    decide +kernel⟩

theorem wit_HeperRepetition_1 : ∃ (s : State) (x : Exe) (rd : Fin 16) (i : Imm) (n : Nat), s.blk.Ready ∧
    s.blk.fetches x i.words = true ∧ (s.blk.cpu x).rep = n ∧ 0 < n :=
  ⟨{ blk := tb255 }, ({ core := 2 } : Exe), (3 : Fin 16), ((.short 7) : Imm), (5 : Nat), tb255_ready, by
    decide +kernel⟩

theorem wit_HeperRepetition_2 : ∃ (s : State) (x : Exe) (k : Fin 4) (rs : Fin 16) (rt : Fin 16) (n : Nat),
    s.blk.Ready ∧ s.blk.fetches x 1 = true ∧ (s.blk.cpu x).rep = n ∧ 0 < n :=
  ⟨{ blk := tb255 }, ({ core := 2 } : Exe), (1 : Fin 4), (1 : Fin 16), (2 : Fin 16), (5 : Nat), tb255_ready, by
    decide +kernel⟩

theorem wit_HeperRepetition_3 : ∃ (s : State) (x : Exe) (rd : Fin 16) (count : Byte) (n : Nat), s.blk.Ready ∧
    s.blk.fetches x 1 = true ∧ (s.blk.cpu x).rep = n ∧ 0 < n :=
  ⟨{ blk := tb255 }, ({ core := 2 } : Exe), (3 : Fin 16), (4 : Byte), (5 : Nat), tb255_ready, by decide +kernel⟩

def tb256 : Block :=
  ({ ((((bench.setF F.CIPH_CFG_EN 0 1).setF F.KEY_CFG_HOSTRK 0 7).setF F.KEY_RKSTAT_RKVALID 0 15).setF F.CIPH_RNG_RSTATE 0 1) with ciph := { bench.ciph with test := [(0, 1), (1, 1), (2, 1), (3, 1)], cache := [{ root := 1, dom := 1, lbits := 128, label := [7] }] } }
    : Block)
theorem tb256_ready : tb256.Ready :=
  (ready_congr (b := ((((bench.setF F.CIPH_CFG_EN 0 1).setF F.KEY_CFG_HOSTRK 0 7).setF F.KEY_RKSTAT_RKVALID 0
    15).setF F.CIPH_RNG_RSTATE 0 1)) (ready_setF _ F.CIPH_RNG_RSTATE 0 1 (by decide) (ready_setF _
    F.KEY_RKSTAT_RKVALID 0 15 (by decide) (ready_setF _ F.KEY_CFG_HOSTRK 0 7 (by decide) (ready_setF _ F.CIPH_CFG_EN
    0 1 (by decide) bench_ready)))) rfl rfl rfl)

theorem wit_CipherDescriptors_0 : ∃ (s : State) (d : Desc) (t : KeyTag), s.blk.Ready ∧ s.blk.Executes d ∧
    s.blk.Single d ∧ d.opcode = 0x90 ∧ aesOk 0x90 d = true ∧ s.blk.ciphOn = true ∧ d.keyTag = some t ∧ s.blk.cached
    t = true ∧ 1 ≤ d.root ∧ bit (s.blk.getF F.KEY_CFG_HOSTRK 0) (d.root - 1) = true ∧ s.blk.rootValid d.root = true
    ∧ s.blk.ciph.queue = [] ∧ s.blk.getF F.CIPH_STAT_JOBS 0 < 16 ∧ Tab.get 0 s.blk.ciph.test 1 = 1 ∧ Tab.get 0
    s.blk.ciph.test 2 = 1 ∧ s.blk.jobFault 0 (requester d) = false :=
  ⟨{ blk := tb256 },
    (({ src := .node 1 2, dws := [0x90, 0, 0x100, 0, 8, 257], payload := [7, 0, 0, 0, 1, 2, 3, 4] }) : Desc),
    (({ root := 1, dom := 1, lbits := 128, label := [7] }) : KeyTag), tb256_ready, by decide +kernel⟩

theorem wit_CipherDescriptors_1 : ∃ (s : State) (d : Desc) (t : KeyTag), s.blk.Ready ∧ s.blk.Executes d ∧
    s.blk.Single d ∧ d.opcode = 0x91 ∧ aesOk 0x91 d = true ∧ s.blk.ciphOn = true ∧ d.keyTag = some t ∧ s.blk.cached
    t = true ∧ 1 ≤ d.root ∧ bit (s.blk.getF F.KEY_CFG_HOSTRK 0) (d.root - 1) = true ∧ s.blk.rootValid d.root = true
    ∧ s.blk.ciph.queue = [] ∧ s.blk.getF F.CIPH_STAT_JOBS 0 < 16 ∧ Tab.get 0 s.blk.ciph.test 1 = 1 ∧ Tab.get 0
    s.blk.ciph.test 2 = 1 ∧ s.blk.jobFault 0 (requester d) = false ∧ s.blk.flag F.CIPH_STAT_AUTHF 0 = false :=
  ⟨{ blk := tb256 },
    (({ src := .node 1 2, dws := [0x91, 0, 0x100, 0, 24, 1048865], payload := [7, 0, 0, 0, 1, 2, 3, 4, 0, 0, 0, 0, 0, 0, 0, 0, 0, 0, 0, 0, 0, 0, 0, 0] })
    : Desc), (({ root := 1, dom := 1, lbits := 128, label := [7] }) : KeyTag), tb256_ready, by decide +kernel⟩

theorem wit_CipherDescriptors_2 : ∃ (s : State) (d : Desc) (t : KeyTag), s.blk.Ready ∧ s.blk.Executes d ∧
    s.blk.Single d ∧ d.opcode = 0x92 ∧ cmacOk d = true ∧ s.blk.ciphOn = true ∧ d.keyTag = some t ∧ s.blk.cached t =
    true ∧ 1 ≤ d.root ∧ bit (s.blk.getF F.KEY_CFG_HOSTRK 0) (d.root - 1) = true ∧ s.blk.rootValid d.root = true ∧
    s.blk.ciph.queue = [] ∧ s.blk.getF F.CIPH_STAT_JOBS 0 < 16 ∧ Tab.get 0 s.blk.ciph.test 1 = 1 ∧ Tab.get 0
    s.blk.ciph.test 2 = 1 ∧ s.blk.jobFault 0 (requester d) = false ∧ bit (d.dw 5) 24 = false :=
  ⟨{ blk := tb256 },
    (({ src := .node 1 2, dws := [0x92, 0, 0x100, 0, 8, 1048833], payload := [7, 0, 0, 0, 1, 2, 3, 4] }) : Desc),
    (({ root := 1, dom := 1, lbits := 128, label := [7] }) : KeyTag), tb256_ready, by decide +kernel⟩

theorem wit_CipherDescriptors_3 : ∃ (s : State) (d : Desc) (t : KeyTag), s.blk.Ready ∧ s.blk.Executes d ∧
    s.blk.Single d ∧ d.opcode = 0x92 ∧ cmacOk d = true ∧ s.blk.ciphOn = true ∧ d.keyTag = some t ∧ s.blk.cached t =
    true ∧ 1 ≤ d.root ∧ bit (s.blk.getF F.KEY_CFG_HOSTRK 0) (d.root - 1) = true ∧ s.blk.rootValid d.root = true ∧
    s.blk.ciph.queue = [] ∧ s.blk.getF F.CIPH_STAT_JOBS 0 < 16 ∧ Tab.get 0 s.blk.ciph.test 1 = 1 ∧ Tab.get 0
    s.blk.ciph.test 2 = 1 ∧ s.blk.jobFault 0 (requester d) = false ∧ bit (d.dw 5) 24 = true ∧ up4 d.lblLen +
    d.tagLen ≤ d.len :=
  ⟨{ blk := tb256 },
    (({ src := .node 1 2, dws := [0x92, 0, 0x100, 0, 24, 17826049], payload := [7, 0, 0, 0, 1, 2, 3, 4, 0, 0, 0, 0, 0, 0, 0, 0, 0, 0, 0, 0, 0, 0, 0, 0] })
    : Desc), (({ root := 1, dom := 1, lbits := 128, label := [7] }) : KeyTag), tb256_ready, by decide +kernel⟩

def tb257 : Block :=
  ({ ((((bench.setF F.CIPH_CFG_EN 0 1).setF F.KEY_CFG_HOSTRK 0 7).setF F.KEY_RKSTAT_RKVALID 0 15).setF F.CIPH_RNG_RSTATE 0 1) with ciph := { bench.ciph with test := [(0, 1), (1, 1), (2, 1), (3, 1)] } }
    : Block)
theorem tb257_ready : tb257.Ready :=
  (ready_congr (b := ((((bench.setF F.CIPH_CFG_EN 0 1).setF F.KEY_CFG_HOSTRK 0 7).setF F.KEY_RKSTAT_RKVALID 0
    15).setF F.CIPH_RNG_RSTATE 0 1)) (ready_setF _ F.CIPH_RNG_RSTATE 0 1 (by decide) (ready_setF _
    F.KEY_RKSTAT_RKVALID 0 15 (by decide) (ready_setF _ F.KEY_CFG_HOSTRK 0 7 (by decide) (ready_setF _ F.CIPH_CFG_EN
    0 1 (by decide) bench_ready)))) rfl rfl rfl)

theorem wit_CipherDescriptors_4 : ∃ (s : State) (d : Desc) (ctx : List Byte), s.blk.Ready ∧ s.blk.Executes d ∧
    s.blk.Single d ∧ d.opcode = 0x93 ∧ shaOk d = true ∧ s.blk.ciphOn = true ∧ s.blk.ciph.queue = [] ∧ s.blk.getF
    F.CIPH_STAT_JOBS 0 < 16 ∧ Tab.get 0 s.blk.ciph.test 0 = 1 ∧ s.blk.jobFault 0 (requester d) = false ∧ bits (d.dw
    5) 2 1 = 0 :=
  ⟨{ blk := tb257 }, (({ src := .node 1 2, dws := [0x93, 0, 0x100, 0, 3, 0], payload := [97, 98, 99] }) : Desc), ([]
    : List Byte), tb257_ready, by decide +kernel⟩

theorem wit_CipherDescriptors_5 : ∃ (s : State) (d : Desc) (ctx : List Byte), s.blk.Ready ∧ s.blk.Executes d ∧
    s.blk.Single d ∧ d.opcode = 0x93 ∧ shaOk d = true ∧ s.blk.ciphOn = true ∧ s.blk.ciph.queue = [] ∧ s.blk.getF
    F.CIPH_STAT_JOBS 0 < 16 ∧ Tab.get 0 s.blk.ciph.test 0 = 1 ∧ s.blk.jobFault 0 (requester d) = false ∧ bits (d.dw
    5) 2 1 = 1 :=
  ⟨{ blk := tb257 }, (({ src := .node 1 2, dws := [0x93, 0, 0x100, 0, 64, 2], payload := (List.replicate 64 1) }) :
    Desc), ([] : List Byte), tb257_ready, by decide +kernel⟩

def tb258 : Block :=
  ({ ({ ((((bench.setF F.CIPH_CFG_EN 0 1).setF F.KEY_CFG_HOSTRK 0 7).setF F.KEY_RKSTAT_RKVALID 0 15).setF F.CIPH_RNG_RSTATE 0 1) with ciph := { bench.ciph with test := [(0, 1), (1, 1), (2, 1), (3, 1)] } } : Block) with ciph := { bench.ciph with test := [(0, 1), (1, 1), (2, 1), (3, 1)], ctxs := [{ bytes := [1], big := false, words := [1, 2, 3, 4, 5, 6, 7, 8], total := 64 }] } }
    : Block)
theorem tb258_ready : tb258.Ready :=
  (ready_congr (b :=
    ({ ((((bench.setF F.CIPH_CFG_EN 0 1).setF F.KEY_CFG_HOSTRK 0 7).setF F.KEY_RKSTAT_RKVALID 0 15).setF F.CIPH_RNG_RSTATE 0 1) with ciph := { bench.ciph with test := [(0, 1), (1, 1), (2, 1), (3, 1)] } }
    : Block)) (ready_congr (b := ((((bench.setF F.CIPH_CFG_EN 0 1).setF F.KEY_CFG_HOSTRK 0 7).setF
    F.KEY_RKSTAT_RKVALID 0 15).setF F.CIPH_RNG_RSTATE 0 1)) (ready_setF _ F.CIPH_RNG_RSTATE 0 1 (by decide)
    (ready_setF _ F.KEY_RKSTAT_RKVALID 0 15 (by decide) (ready_setF _ F.KEY_CFG_HOSTRK 0 7 (by decide) (ready_setF _
    F.CIPH_CFG_EN 0 1 (by decide) bench_ready)))) rfl rfl rfl) rfl rfl rfl)

theorem wit_CipherDescriptors_6 : ∃ (s : State) (d : Desc) (c : ShaCtx), s.blk.Ready ∧ s.blk.Executes d ∧
    s.blk.Single d ∧ d.opcode = 0x93 ∧ shaOk d = true ∧ s.blk.ciphOn = true ∧ s.blk.ciph.queue = [] ∧ s.blk.getF
    F.CIPH_STAT_JOBS 0 < 16 ∧ Tab.get 0 s.blk.ciph.test 0 = 1 ∧ s.blk.jobFault 0 (requester d) = false ∧ bits (d.dw
    5) 2 1 = 3 ∧ s.blk.ciph.ctxs.find? (fun x => x.bytes == c.bytes) = some c ∧ c.big = bit (d.dw 5) 0 :=
  ⟨{ blk := tb258 }, (({ src := .node 1 2, dws := [0x93, 0, 0x100, 0, 3, 6], payload := [97, 98, 99] }) : Desc),
    (({ bytes := [1], big := false, words := [1, 2, 3, 4, 5, 6, 7, 8], total := 64 }) : ShaCtx), tb258_ready, by
    decide +kernel⟩

def tb259 : Block :=
  ({ ((((bench.setF F.CIPH_CFG_EN 0 1).setF F.KEY_CFG_HOSTRK 0 7).setF F.KEY_RKSTAT_RKVALID 0 15).setF F.CIPH_RNG_RSTATE 0 1) with ciph := { bench.ciph with test := [(0, 1), (1, 1), (2, 1), (3, 1)], cache := [{ root := 1, dom := 129, lbits := 320, label := [7] }] } }
    : Block)
theorem tb259_ready : tb259.Ready :=
  (ready_congr (b := ((((bench.setF F.CIPH_CFG_EN 0 1).setF F.KEY_CFG_HOSTRK 0 7).setF F.KEY_RKSTAT_RKVALID 0
    15).setF F.CIPH_RNG_RSTATE 0 1)) (ready_setF _ F.CIPH_RNG_RSTATE 0 1 (by decide) (ready_setF _
    F.KEY_RKSTAT_RKVALID 0 15 (by decide) (ready_setF _ F.KEY_CFG_HOSTRK 0 7 (by decide) (ready_setF _ F.CIPH_CFG_EN
    0 1 (by decide) bench_ready)))) rfl rfl rfl)

theorem wit_CipherDescriptors_7 : ∃ (s : State) (d : Desc) (t : KeyTag), s.blk.Ready ∧ s.blk.Executes d ∧
    s.blk.Single d ∧ d.opcode = 0x94 ∧ signOk d = true ∧ s.blk.ciphOn = true ∧ d.keyTag = some t ∧ s.blk.cached t =
    true ∧ 1 ≤ d.root ∧ bit (s.blk.getF F.KEY_CFG_HOSTRK 0) (d.root - 1) = true ∧ s.blk.rootValid d.root = true ∧
    s.blk.ciph.queue = [] ∧ s.blk.getF F.CIPH_STAT_JOBS 0 < 16 ∧ Tab.get 0 s.blk.ciph.test 2 = 1 ∧ Tab.get 0
    s.blk.ciph.test 3 = 1 ∧ s.blk.jobFault 1 (requester d) = false ∧ s.blk.rngOn = true :=
  ⟨{ blk := tb259 },
    (({ src := .node 1 2, dws := [0x94, 0, 0x100, 0, 36, 257], payload := (7 :: List.replicate 35 1) }) : Desc),
    (({ root := 1, dom := 129, lbits := 320, label := [7] }) : KeyTag), tb259_ready, by decide +kernel⟩

theorem wit_CipherDescriptors_8 : ∃ (s : State) (d : Desc) (t : KeyTag), s.blk.Ready ∧ s.blk.Executes d ∧
    s.blk.Single d ∧ d.opcode = 0x95 ∧ pubOk d = true ∧ s.blk.ciphOn = true ∧ d.keyTag = some t ∧ s.blk.cached t =
    true ∧ 1 ≤ d.root ∧ bit (s.blk.getF F.KEY_CFG_HOSTRK 0) (d.root - 1) = true ∧ s.blk.rootValid d.root = true ∧
    s.blk.ciph.queue = [] ∧ s.blk.getF F.CIPH_STAT_JOBS 0 < 16 ∧ Tab.get 0 s.blk.ciph.test 2 = 1 ∧ Tab.get 0
    s.blk.ciph.test 3 = 1 :=
  ⟨{ blk := tb259 }, (({ src := .node 1 2, dws := [0x95, 0, 0x100, 0, 4, 257], payload := [7, 0, 0, 0] }) : Desc),
    (({ root := 1, dom := 129, lbits := 320, label := [7] }) : KeyTag), tb259_ready, by decide +kernel⟩

theorem wit_CipherDescriptors_9 : ∃ (s : State) (d : Desc), s.blk.Ready ∧ s.blk.Executes d ∧ s.blk.Single d ∧
    d.opcode = 0x96 ∧ verifyOk d = true ∧ s.blk.ciphOn = true ∧ s.blk.ciph.queue = [] ∧ s.blk.getF F.CIPH_STAT_JOBS
    0 < 16 ∧ Tab.get 0 s.blk.ciph.test 3 = 1 :=
  ⟨{ blk := tb257 }, (({ src := .node 1 2, dws := [0x96, 0, 0x100, 0, 160, 0], payload := (List.replicate 160 1) })
    : Desc), tb257_ready, by decide +kernel⟩

theorem wit_CipherDescriptors_10 : ∃ (s : State) (d : Desc), s.blk.Ready ∧ s.blk.Executes d ∧ s.blk.Single d ∧
    d.opcode = 0x97 ∧ rngOk d = true ∧ s.blk.ciphOn = true ∧ s.blk.ciph.queue = [] ∧ s.blk.getF F.CIPH_STAT_JOBS 0 <
    16 ∧ s.blk.rngOn = true ∧ bit (d.dw 5) 0 = true :=
  ⟨{ blk := tb257 }, (({ src := .node 1 2, dws := [0x97, 0, 0x100, 0, 8, 1], payload := [] }) : Desc), tb257_ready,
    by decide +kernel⟩

def tb260 : Block :=
  ({ (bench.setF F.CIPH_CFG_EN 0 1) with ciph := { bench.ciph with cache := [{ root := 1, dom := 1, lbits := 128, label := [7] }] } }
    : Block)
theorem tb260_ready : tb260.Ready :=
  (ready_congr (b := (bench.setF F.CIPH_CFG_EN 0 1)) (ready_setF _ F.CIPH_CFG_EN 0 1 (by decide) bench_ready) rfl
    rfl rfl)

theorem wit_CipherDescriptors_11 : ∃ (s : State) (d : Desc), s.blk.Ready ∧ s.blk.Executes d ∧ s.blk.Single d ∧
    d.opcode = 0x98 ∧ flushOk d = true ∧ s.blk.ciphOn = true :=
  ⟨{ blk := tb260 }, (({ src := .node 1 2, dws := [0x98, 0, 0, 0, 0], payload := [] }) : Desc), tb260_ready, by
    decide +kernel⟩

def tb261 : Block :=
  ({ bench with ciph := { bench.ciph with deriv := [({ root := 1, dom := 1, lbits := 128, label := [7] }, [])] } } :
    Block)
theorem tb261_ready : tb261.Ready :=
  (ready_congr (b := bench) bench_ready rfl rfl rfl)

theorem wit_CipherUnits_0 : ∃ (s : State) (t : KeyTag), s.blk.Ready ∧ s.blk.ciph.deriv = [(t, [])] ∧
    s.blk.ciph.queue = [] :=
  ⟨{ blk := tb261 }, (({ root := 1, dom := 1, lbits := 128, label := [7] }) : KeyTag), tb261_ready, by
    decide +kernel⟩

theorem wit_CipherUnits_1 : ∃ (s : State) (who : Who) (w : Word), s.blk.Ready ∧ s.blk.CanWrite who (R.CIPH_FWCTL.at
    0) ∧ (who = .core 0 ∨ who = .core 1) ∧ s.blk.getF F.CIPH_FWBASE_ADDR 0 = 0 :=
  ⟨{ blk := bench }, ((.core 0) : Who), (0x50003 : Word), bench_ready, by decide +kernel⟩

def tb262 : Block :=
  (bench.setF F.CIPH_CFG_EN 0 1)
theorem tb262_ready : tb262.Ready :=
  (ready_setF _ F.CIPH_CFG_EN 0 1 (by decide) bench_ready)

theorem wit_CipherUnits_2 : ∃ (s : State) (who : Who), s.blk.Ready ∧ s.blk.CanWrite who (R.CIPH_CFG.at 0) :=
  ⟨{ blk := tb262 }, (.host : Who), tb262_ready, by decide +kernel⟩

theorem wit_CipherUnits_3 : ∃ (s : State) (u : Fin 4) (pass : Bool), s.blk.Ready ∧ s.blk.pg 10 = true ∧ Tab.get 0
    s.blk.ciph.test u = 0 ∧ s.blk.ciph.queue = [] :=
  ⟨{ blk := bench }, (2 : Fin 4), (false : Bool), bench_ready, by decide +kernel⟩

theorem wit_CipherUnits_4 : ∃ (s : State) (t : Fin 3), s.blk.Ready ∧ s.blk.pg 10 = true ∧ s.blk.flag
    ([F.CIPH_RNG_RCTF, F.CIPH_RNG_APTF, F.CIPH_RNG_STF].getD t F.CIPH_RNG_STF) 0 = false :=
  ⟨{ blk := bench }, (1 : Fin 3), bench_ready, by decide +kernel⟩

def tb263 : Block :=
  (((bench.setF F.ACS_CFG_EN 0 1).setF F.HEP_STAT_STATE 14 2).setF F.ACS_STAT_CODEOK 0 1)
theorem tb263_ready : tb263.Ready :=
  (ready_setF _ F.ACS_STAT_CODEOK 0 1 (by decide) (ready_core _ 14 2 (by decide) (by decide) (ready_setF _
    F.ACS_CFG_EN 0 1 (by decide) bench_ready)))

theorem wit_AccessDescriptors_0 : ∃ (s : State) (d : Desc), s.blk.Ready ∧ s.blk.Executes d ∧ d.ok 0xA0 0 0 [0x3F,
    0xFFFFFFFF, 0xFFFFFFFF, 3] = true ∧ d.dw 6 + d.dw 7 * 2 ^ 32 ≠ 0 ∧ bit (d.dw 6 + d.dw 7 * 2 ^ 32) 63 = decide
    (60 ≤ (bits (d.dw 5) 5 0)) ∧ s.blk.acsOn = true ∧ s.blk.slotValid (bits (d.dw 5) 5 0) = false ∧ ((List.range
    64).any fun x => s.blk.slotValid x && s.blk.slotTid x == d.dw 6 + d.dw 7 * 2 ^ 32) = false ∧ ((if bit (d.dw 8) 1
    then s.blk.flag F.ACS_STAT_CODEOK 0 else s.blk.authBy fun x => (!decide (60 ≤ (bits (d.dw 5) 5 0)) &&
    !s.blk.lockout) || decide (60 ≤ x)) = true) ∧ s.blk.acs.enrol = none :=
  ⟨{ blk := tb263 }, (({ src := .node 1 2, dws := [0xA0, 0, 0, 0, 0, 7, 5, 6, 2], payload := [] }) : Desc),
    tb263_ready, by decide +kernel⟩

def tb264 : Block :=
  ((((bench.setF F.ACS_CFG_EN 0 1).setF F.HEP_STAT_STATE 14 2).setF F.ACS_STAT_CODEOK 0 1).setF F.ACS_SLOTF_VALID 7
    1)
theorem tb264_ready : tb264.Ready :=
  (ready_setF _ F.ACS_SLOTF_VALID 7 1 (by decide) (ready_setF _ F.ACS_STAT_CODEOK 0 1 (by decide) (ready_core _ 14 2
    (by decide) (by decide) (ready_setF _ F.ACS_CFG_EN 0 1 (by decide) bench_ready))))

theorem wit_AccessDescriptors_1 : ∃ (s : State) (d : Desc), s.blk.Ready ∧ s.blk.Executes d ∧ s.blk.Single d ∧ d.ok
    0xA1 0 0 [0xFFFFFFFF, 0xFFFFFFFF, 0, 1] = true ∧ d.dw 5 + d.dw 6 ≠ 0 ∧ s.blk.acsOn = true ∧ bit (d.dw 8) 0 =
    true ∧ s.blk.flag F.ACS_STAT_CODEOK 0 = true :=
  ⟨{ blk := tb264 }, (({ src := .node 1 2, dws := [0xA1, 0, 0, 0, 0, 0x80, 0, 0, 1], payload := [] }) : Desc),
    tb264_ready, by decide +kernel⟩

def tb265 : Block :=
  ({ ((((bench.setF F.ACS_CFG_EN 0 1).setF F.HEP_STAT_STATE 14 2).setF F.ACS_SLOTF_VALID 61 1).setF F.ACS_SLOTF_VALID 7 1) with acs := { bench.acs with auth := [61] } }
    : Block)
theorem tb265_ready : tb265.Ready :=
  (ready_congr (b := ((((bench.setF F.ACS_CFG_EN 0 1).setF F.HEP_STAT_STATE 14 2).setF F.ACS_SLOTF_VALID 61 1).setF
    F.ACS_SLOTF_VALID 7 1)) (ready_setF _ F.ACS_SLOTF_VALID 7 1 (by decide) (ready_setF _ F.ACS_SLOTF_VALID 61 1 (by
    decide) (ready_core _ 14 2 (by decide) (by decide) (ready_setF _ F.ACS_CFG_EN 0 1 (by decide) bench_ready))))
    rfl rfl rfl)

theorem wit_AccessDescriptors_2 : ∃ (s : State) (d : Desc), s.blk.Ready ∧ s.blk.Executes d ∧ s.blk.Single d ∧ d.ok
    0xA1 0 0 [0xFFFFFFFF, 0xFFFFFFFF, 0, 1] = true ∧ d.dw 5 + d.dw 6 ≠ 0 ∧ s.blk.acsOn = true ∧ bit (d.dw 8) 0 =
    false ∧ d.dw 6 < 2 ^ 28 ∧ (s.blk.authBy fun x => decide (60 ≤ x)) = true :=
  ⟨{ blk := tb265 }, (({ src := .node 1 2, dws := [0xA1, 0, 0, 0, 0, 0x80], payload := [] }) : Desc), tb265_ready,
    by decide +kernel⟩

def tb266 : Block :=
  ((bench.setF F.ACS_CFG_EN 0 1).setF F.HEP_STAT_STATE 14 2)
theorem tb266_ready : tb266.Ready :=
  (ready_core _ 14 2 (by decide) (by decide) (ready_setF _ F.ACS_CFG_EN 0 1 (by decide) bench_ready))

theorem wit_AccessDescriptors_3 : ∃ (s : State) (d : Desc), s.blk.Ready ∧ s.blk.Executes d ∧ s.blk.Single d ∧ d.ok
    0xA1 0 0 [0xFFFFFFFF, 0xFFFFFFFF, 0, 1] = true ∧ d.dw 5 + d.dw 6 = 0 :=
  ⟨{ blk := tb266 }, (({ src := .node 1 2, dws := [0xA1, 0, 0, 0, 0], payload := [] }) : Desc), tb266_ready, by
    decide +kernel⟩

def tb267 : Block :=
  (((bench.setF F.ACS_CFG_EN 0 1).setF F.HEP_STAT_STATE 14 2).setF F.ACS_SLOTF_VALID 7 1)
theorem tb267_ready : tb267.Ready :=
  (ready_setF _ F.ACS_SLOTF_VALID 7 1 (by decide) (ready_core _ 14 2 (by decide) (by decide) (ready_setF _
    F.ACS_CFG_EN 0 1 (by decide) bench_ready)))

theorem wit_AccessDescriptors_4 : ∃ (s : State) (d : Desc), s.blk.Ready ∧ s.blk.Executes d ∧ s.blk.Single d ∧ d.ok
    0xA0 0 0 [0x3F, 0xFFFFFFFF, 0xFFFFFFFF, 3] = true ∧ d.dw 6 + d.dw 7 * 2 ^ 32 ≠ 0 ∧ bit (d.dw 6 + d.dw 7 * 2 ^
    32) 63 = decide (60 ≤ (bits (d.dw 5) 5 0)) ∧ s.blk.acsOn = true ∧ s.blk.slotValid (bits (d.dw 5) 5 0) = true :=
  ⟨{ blk := tb267 }, (({ src := .node 1 2, dws := [0xA0, 0, 0, 0, 0, 7, 5, 6, 2], payload := [] }) : Desc),
    tb267_ready, by decide +kernel⟩

theorem wit_AccessDescriptors_5 : ∃ (s : State) (d : Desc), s.blk.Ready ∧ s.blk.Executes d ∧ s.blk.Single d ∧ d.ok
    0xA2 0 0 [3, 0xFFFFF] = true ∧ d.dw 6 ≤ 999999 ∧ s.blk.acsOn = true ∧ s.blk.lockout = false ∧ d.dw 5 =
    s.blk.acs.code.length ∧ d.dw 5 < 3 :=
  ⟨{ blk := tb266 }, (({ src := .node 1 2, dws := [0xA2, 0, 0, 0, 0, 0, 1234], payload := [] }) : Desc),
    tb266_ready, by decide +kernel⟩

theorem wit_AccessDescriptors_6 : ∃ (s : State) (d : Desc), s.blk.Ready ∧ s.blk.Executes d ∧ s.blk.Single d ∧ d.ok
    0xA2 0 0 [3, 0xFFFFF] = true ∧ d.dw 6 ≤ 999999 ∧ s.blk.acsOn = true ∧ s.blk.lockout = false ∧ d.dw 5 ≠
    s.blk.acs.code.length :=
  ⟨{ blk := tb266 }, (({ src := .node 1 2, dws := [0xA2, 0, 0, 0, 0, 2, 1234], payload := [] }) : Desc),
    tb266_ready, by decide +kernel⟩

def tb268 : Block :=
  ({ ((({ (((bench.setF F.ACS_CFG_EN 0 1).setF F.HEP_STAT_STATE 14 2).setF F.CIPH_CFG_EN 0 1) with ciph := { bench.ciph with test := [(0, 1), (1, 1), (2, 1), (3, 1)] } } : Block).setF F.ACS_CFG_RKSEL 0 1).setF F.KEY_RKSTAT_RKVALID 0 15) with acs := { bench.acs with code := [1, 2, 3], fails := [1, 2, 3, 4] } }
    : Block)
theorem tb268_ready : tb268.Ready :=
  (ready_congr (b :=
    ((({ (((bench.setF F.ACS_CFG_EN 0 1).setF F.HEP_STAT_STATE 14 2).setF F.CIPH_CFG_EN 0 1) with ciph := { bench.ciph with test := [(0, 1), (1, 1), (2, 1), (3, 1)] } }
    : Block).setF F.ACS_CFG_RKSEL 0 1).setF F.KEY_RKSTAT_RKVALID 0 15)) (ready_setF _ F.KEY_RKSTAT_RKVALID 0 15 (by
    decide) (ready_setF _ F.ACS_CFG_RKSEL 0 1 (by decide) (ready_congr (b := (((bench.setF F.ACS_CFG_EN 0 1).setF
    F.HEP_STAT_STATE 14 2).setF F.CIPH_CFG_EN 0 1)) (ready_setF _ F.CIPH_CFG_EN 0 1 (by decide) (ready_core _ 14 2
    (by decide) (by decide) (ready_setF _ F.ACS_CFG_EN 0 1 (by decide) bench_ready))) rfl rfl rfl))) rfl rfl rfl)

theorem wit_AccessDescriptors_7 : ∃ (s : State) (d : Desc), s.blk.Ready ∧ s.blk.Executes d ∧ s.blk.Single d ∧ d.ok
    0xA2 0 0 [3, 0xFFFFF] = true ∧ d.dw 6 ≤ 999999 ∧ s.blk.acsOn = true ∧ s.blk.lockout = false ∧ d.dw 5 = 3 ∧
    s.blk.acs.code.length = 3 ∧ s.blk.acsKeys = true ∧ s.blk.jobFault 0 3 = false :=
  ⟨{ blk := tb268 }, (({ src := .node 1 2, dws := [0xA2, 0, 0, 0, 0, 3, 1234], payload := [] }) : Desc),
    tb268_ready, by decide +kernel⟩

def tb269 : Block :=
  ({ (((bench.setF F.ACS_CFG_EN 0 1).setF F.HEP_STAT_STATE 14 2).setF F.ACS_REL_RELEASED 0 1) with acs := { bench.acs with engen := { on := true } } }
    : Block)
theorem tb269_ready : tb269.Ready :=
  (ready_congr (b := (((bench.setF F.ACS_CFG_EN 0 1).setF F.HEP_STAT_STATE 14 2).setF F.ACS_REL_RELEASED 0 1))
    (ready_setF _ F.ACS_REL_RELEASED 0 1 (by decide) (ready_core _ 14 2 (by decide) (by decide) (ready_setF _
    F.ACS_CFG_EN 0 1 (by decide) bench_ready))) rfl rfl rfl)

theorem wit_AccessDescriptors_8 : ∃ (s : State) (d : Desc), s.blk.Ready ∧ s.blk.Executes d ∧ s.blk.Single d ∧ d.ok
    0xA3 0 0 [] = true ∧ s.blk.acsOn = true :=
  ⟨{ blk := tb269 }, (({ src := .node 1 2, dws := [0xA3, 0, 0, 0, 0], payload := [] }) : Desc), tb269_ready, by
    decide +kernel⟩

def tb270 : Block :=
  ({ (((bench.setF F.ACS_CFG_EN 0 1).setF F.HEP_STAT_STATE 14 2).setF F.ACS_SLOTF_VALID 61 1) with acs := { bench.acs with auth := [61] } }
    : Block)
theorem tb270_ready : tb270.Ready :=
  (ready_congr (b := (((bench.setF F.ACS_CFG_EN 0 1).setF F.HEP_STAT_STATE 14 2).setF F.ACS_SLOTF_VALID 61 1))
    (ready_setF _ F.ACS_SLOTF_VALID 61 1 (by decide) (ready_core _ 14 2 (by decide) (by decide) (ready_setF _
    F.ACS_CFG_EN 0 1 (by decide) bench_ready))) rfl rfl rfl)

theorem wit_AccessDescriptors_9 : ∃ (s : State) (d : Desc), s.blk.Ready ∧ s.blk.Executes d ∧ s.blk.Single d ∧ d.ok
    0xA4 0 0 [0, 0, 0, 3] = true ∧ s.blk.acsOn = true ∧ ((if bit (d.dw 8) 1 then !bit (d.dw 8) 0 && s.blk.flag
    F.ACS_STAT_CODEOK 0 else s.blk.authBy fun x => decide (60 ≤ x)) = true) :=
  ⟨{ blk := tb270 }, (({ src := .node 1 2, dws := [0xA4, 0, 0, 0, 0, 0, 0, 0, 1], payload := [] }) : Desc),
    tb270_ready, by decide +kernel⟩

theorem wit_AccessDescriptors_10 : ∃ (s : State) (d : Desc), s.blk.Ready ∧ s.blk.Executes d ∧ s.blk.Single d ∧ d.ok
    0xA5 1312 65536 [] = true ∧ s.blk.acsOn = true :=
  ⟨{ blk := tb266 }, (({ src := .node 1 2, dws := [0xA5, 0, 0x100, 0, 1312], payload := [] }) : Desc), tb266_ready,
    by decide +kernel⟩

def tb271 : Block :=
  (((bench.setF F.ACS_CFG_EN 0 1).setF F.HEP_STAT_STATE 14 2).setF F.ACS_STAT_ANTF 0 1)
theorem tb271_ready : tb271.Ready :=
  (ready_setF _ F.ACS_STAT_ANTF 0 1 (by decide) (ready_core _ 14 2 (by decide) (by decide) (ready_setF _
    F.ACS_CFG_EN 0 1 (by decide) bench_ready)))

theorem wit_AccessDescriptors_11 : ∃ (s : State) (d : Desc), s.blk.Ready ∧ s.blk.Executes d ∧ s.blk.Single d ∧ d.ok
    0xA6 0 0 [0, 0, 0, 1] = true ∧ s.blk.acsOn = true :=
  ⟨{ blk := tb271 }, (({ src := .node 1 2, dws := [0xA6, 0, 0, 0, 0, 0, 0, 0, 1], payload := [] }) : Desc),
    tb271_ready, by decide +kernel⟩

def tb272 : Block :=
  (bench.setF F.ACS_CFG_RKSEL 0 1)
theorem tb272_ready : tb272.Ready :=
  (ready_setF _ F.ACS_CFG_RKSEL 0 1 (by decide) bench_ready)

theorem wit_AccessExchanges_0 : ∃ (s : State) (who : Who), s.blk.Ready ∧ s.blk.CanWrite who (R.ACS_CFG.at 0) ∧
    s.blk.getF F.ACS_CFG_RKSEL 0 ≠ 0 ∧ (s.blk.getF F.ACS_REL_RELCH 0 ≤ 11 ∨ s.blk.flag F.ACS_REL_RELMSG 0 = false)
    :=
  ⟨{ blk := tb272 }, (.host : Who), tb272_ready, by decide +kernel⟩

def tb273 : Block :=
  (bench.setF F.ACS_CFG_RKSEL 0 0)
theorem tb273_ready : tb273.Ready :=
  (ready_setF _ F.ACS_CFG_RKSEL 0 0 (by decide) bench_ready)

theorem wit_AccessExchanges_1 : ∃ (s : State) (who : Who), s.blk.Ready ∧ s.blk.CanWrite who (R.ACS_CFG.at 0) ∧
    s.blk.getF F.ACS_CFG_RKSEL 0 = 0 :=
  ⟨{ blk := tb273 }, (.host : Who), tb273_ready, by decide +kernel⟩

theorem wit_AccessExchanges_2 : ∃ (s : State), s.blk.Ready ∧ s.blk.acsUp = true ∧ s.blk.acs.cur = none ∧
    s.blk.acs.answers = [] :=
  ⟨{ blk := tb266 }, tb266_ready, by decide +kernel⟩

theorem wit_AccessExchanges_3 : ∃ (s : State) (slot : Fin 60) (tid : BitVec 64) (anchor : Fin 6), s.blk.Ready ∧
    s.blk.acsUp = true :=
  ⟨{ blk := tb266 }, (7 : Fin 60), (5 : BitVec 64), (2 : Fin 6), tb266_ready, by decide +kernel⟩

theorem wit_AccessExchanges_4 : ∃ (s : State) (slot : Fin 60) (tid : BitVec 64) (anchor : Fin 6), s.blk.Ready ∧
    s.blk.acsUp = true ∧ s.blk.tidKnown tid.toNat = false :=
  ⟨{ blk := tb266 }, (7 : Fin 60), (5 : BitVec 64), (2 : Fin 6), tb266_ready, by decide +kernel⟩

def tb274 : Block :=
  ({ (((((bench.setF F.ACS_CFG_EN 0 1).setF F.HEP_STAT_STATE 14 2).wr R.ACS_SLOTL 7 (5)).wr R.ACS_SLOTH 7 (0)).setF F.ACS_SLOTF_VALID 7 1) with acs := { bench.acs with cur := some { slot := 3, anchor := 1, chan := 5, nv := [] } } }
    : Block)
theorem tb274_ready : tb274.Ready :=
  (ready_congr (b := (((((bench.setF F.ACS_CFG_EN 0 1).setF F.HEP_STAT_STATE 14 2).wr R.ACS_SLOTL 7 (5)).wr
    R.ACS_SLOTH 7 (0)).setF F.ACS_SLOTF_VALID 7 1)) (ready_setF _ F.ACS_SLOTF_VALID 7 1 (by decide) (ready_wr _
    R.ACS_SLOTH 7 (0) (by decide) (ready_wr _ R.ACS_SLOTL 7 (5) (by decide) (ready_core _ 14 2 (by decide) (by
    decide) (ready_setF _ F.ACS_CFG_EN 0 1 (by decide) bench_ready))))) rfl rfl rfl)

theorem wit_AccessExchanges_5 : ∃ (s : State) (slot : Fin 60) (tid : BitVec 64) (anchor : Fin 6) (e : AcsExch),
    s.blk.Ready ∧ s.blk.acsUp = true ∧ s.blk.tokenTid slot = some tid.toNat ∧ s.blk.acs.cur = some e :=
  ⟨{ blk := tb274 }, (7 : Fin 60), (5 : BitVec 64), (2 : Fin 6), ({ slot := 3, anchor := 1, chan := 5, nv := [] } :
    AcsExch), tb274_ready, by decide +kernel⟩

def tb275 : Block :=
  ((((((({ (((bench.setF F.ACS_CFG_EN 0 1).setF F.HEP_STAT_STATE 14 2).setF F.CIPH_CFG_EN 0 1) with ciph := { bench.ciph with test := [(0, 1), (1, 1), (2, 1), (3, 1)] } }
    : Block).setF F.ACS_CFG_RKSEL 0 1).setF F.KEY_RKSTAT_RKVALID 0 15).setF F.CIPH_RNG_RSTATE 0 1).wr R.ACS_SLOTL 7
    (5)).wr R.ACS_SLOTH 7 (0)).setF F.ACS_SLOTF_VALID 7 1)
theorem tb275_ready : tb275.Ready :=
  (ready_setF _ F.ACS_SLOTF_VALID 7 1 (by decide) (ready_wr _ R.ACS_SLOTH 7 (0) (by decide) (ready_wr _ R.ACS_SLOTL
    7 (5) (by decide) (ready_setF _ F.CIPH_RNG_RSTATE 0 1 (by decide) (ready_setF _ F.KEY_RKSTAT_RKVALID 0 15 (by
    decide) (ready_setF _ F.ACS_CFG_RKSEL 0 1 (by decide) (ready_congr (b := (((bench.setF F.ACS_CFG_EN 0 1).setF
    F.HEP_STAT_STATE 14 2).setF F.CIPH_CFG_EN 0 1)) (ready_setF _ F.CIPH_CFG_EN 0 1 (by decide) (ready_core _ 14 2
    (by decide) (by decide) (ready_setF _ F.ACS_CFG_EN 0 1 (by decide) bench_ready))) rfl rfl rfl)))))))

theorem wit_AccessExchanges_6 : ∃ (s : State) (slot : Fin 60) (tid : BitVec 64) (anchor : Fin 6), s.blk.Ready ∧
    s.blk.acsUp = true ∧ s.blk.acs.cur = none ∧ s.blk.acs.answers = [] ∧ s.blk.acsKeys = true ∧ s.blk.rngOn = true ∧
    s.blk.tokenTid slot = some tid.toNat ∧ s.blk.lockout = false :=
  ⟨{ blk := tb275 }, (7 : Fin 60), (5 : BitVec 64), (2 : Fin 6), tb275_ready, by decide +kernel⟩

def tb276 : Block :=
  ((((((({ (((bench.setF F.ACS_CFG_EN 0 1).setF F.HEP_STAT_STATE 14 2).setF F.CIPH_CFG_EN 0 1) with ciph := { bench.ciph with test := [(0, 1), (1, 1), (2, 1), (3, 1)] } }
    : Block).setF F.ACS_CFG_RKSEL 0 1).setF F.KEY_RKSTAT_RKVALID 0 15).setF F.CIPH_RNG_RSTATE 0 1).wr R.ACS_SLOTL 62
    (5)).wr R.ACS_SLOTH 62 (0)).setF F.ACS_SLOTF_VALID 62 1)
theorem tb276_ready : tb276.Ready :=
  (ready_setF _ F.ACS_SLOTF_VALID 62 1 (by decide) (ready_wr _ R.ACS_SLOTH 62 (0) (by decide) (ready_wr _
    R.ACS_SLOTL 62 (5) (by decide) (ready_setF _ F.CIPH_RNG_RSTATE 0 1 (by decide) (ready_setF _
    F.KEY_RKSTAT_RKVALID 0 15 (by decide) (ready_setF _ F.ACS_CFG_RKSEL 0 1 (by decide) (ready_congr (b :=
    (((bench.setF F.ACS_CFG_EN 0 1).setF F.HEP_STAT_STATE 14 2).setF F.CIPH_CFG_EN 0 1)) (ready_setF _ F.CIPH_CFG_EN
    0 1 (by decide) (ready_core _ 14 2 (by decide) (by decide) (ready_setF _ F.ACS_CFG_EN 0 1 (by decide)
    bench_ready))) rfl rfl rfl)))))))

theorem wit_AccessExchanges_7 : ∃ (s : State) (slot : Fin 4) (tid : BitVec 64), s.blk.Ready ∧ s.blk.acsUp = true ∧
    s.blk.acs.cur = none ∧ s.blk.acs.answers = [] ∧ s.blk.acsKeys = true ∧ s.blk.rngOn = true ∧ s.blk.tokenTid (60 +
    slot) = some tid.toNat :=
  ⟨{ blk := tb276 }, (2 : Fin 4), (5 : BitVec 64), tb276_ready, by decide +kernel⟩

theorem wit_AccessExchanges_8 : ∃ (s : State) (slot : Fin 4) (tid : BitVec 64), s.blk.Ready ∧ s.blk.acsUp = true :=
  ⟨{ blk := tb266 }, (2 : Fin 4), (5 : BitVec 64), tb266_ready, by decide +kernel⟩

def tb277 : Block :=
  ({ (((((bench.setF F.ACS_CFG_EN 0 1).setF F.HEP_STAT_STATE 14 2).wr R.ACS_SLOTL 62 (5)).wr R.ACS_SLOTH 62 (0)).setF F.ACS_SLOTF_VALID 62 1) with acs := { bench.acs with cur := some { slot := 3, anchor := 1, chan := 5, nv := [] } } }
    : Block)
theorem tb277_ready : tb277.Ready :=
  (ready_congr (b := (((((bench.setF F.ACS_CFG_EN 0 1).setF F.HEP_STAT_STATE 14 2).wr R.ACS_SLOTL 62 (5)).wr
    R.ACS_SLOTH 62 (0)).setF F.ACS_SLOTF_VALID 62 1)) (ready_setF _ F.ACS_SLOTF_VALID 62 1 (by decide) (ready_wr _
    R.ACS_SLOTH 62 (0) (by decide) (ready_wr _ R.ACS_SLOTL 62 (5) (by decide) (ready_core _ 14 2 (by decide) (by
    decide) (ready_setF _ F.ACS_CFG_EN 0 1 (by decide) bench_ready))))) rfl rfl rfl)

theorem wit_AccessExchanges_9 : ∃ (s : State) (slot : Fin 4) (tid : BitVec 64) (e : AcsExch), s.blk.Ready ∧
    s.blk.acsUp = true ∧ s.blk.tokenTid (60 + slot) = some tid.toNat ∧ s.blk.acs.cur = some e :=
  ⟨{ blk := tb277 }, (2 : Fin 4), (5 : BitVec 64), ({ slot := 3, anchor := 1, chan := 5, nv := [] } : AcsExch),
    tb277_ready, by decide +kernel⟩

def tb278 : Block :=
  ({ ((((((({ (((bench.setF F.ACS_CFG_EN 0 1).setF F.HEP_STAT_STATE 14 2).setF F.CIPH_CFG_EN 0 1) with ciph := { bench.ciph with test := [(0, 1), (1, 1), (2, 1), (3, 1)] } } : Block).wr R.ACS_SLOTL 7 (5)).wr R.ACS_SLOTH 7 (0)).setF F.ACS_SLOTF_VALID 7 1).setF F.ACS_SLOTF_RELEN 7 1).setF F.ACS_ANC_DELAY 2 1937).setF F.ACS_UWB_RMAX 0 60) with acs := { bench.acs with cur := some { slot := 7, anchor := 2, chan := 9, nv := List.replicate 16 1 } } }
    : Block)
theorem tb278_ready : tb278.Ready :=
  (ready_congr (b :=
    ((((((({ (((bench.setF F.ACS_CFG_EN 0 1).setF F.HEP_STAT_STATE 14 2).setF F.CIPH_CFG_EN 0 1) with ciph := { bench.ciph with test := [(0, 1), (1, 1), (2, 1), (3, 1)] } }
    : Block).wr R.ACS_SLOTL 7 (5)).wr R.ACS_SLOTH 7 (0)).setF F.ACS_SLOTF_VALID 7 1).setF F.ACS_SLOTF_RELEN 7
    1).setF F.ACS_ANC_DELAY 2 1937).setF F.ACS_UWB_RMAX 0 60)) (ready_setF _ F.ACS_UWB_RMAX 0 60 (by decide)
    (ready_setF _ F.ACS_ANC_DELAY 2 1937 (by decide) (ready_setF _ F.ACS_SLOTF_RELEN 7 1 (by decide) (ready_setF _
    F.ACS_SLOTF_VALID 7 1 (by decide) (ready_wr _ R.ACS_SLOTH 7 (0) (by decide) (ready_wr _ R.ACS_SLOTL 7 (5) (by
    decide) (ready_congr (b := (((bench.setF F.ACS_CFG_EN 0 1).setF F.HEP_STAT_STATE 14 2).setF F.CIPH_CFG_EN 0 1))
    (ready_setF _ F.CIPH_CFG_EN 0 1 (by decide) (ready_core _ 14 2 (by decide) (by decide) (ready_setF _
    F.ACS_CFG_EN 0 1 (by decide) bench_ready))) rfl rfl rfl))))))) rfl rfl rfl)

theorem wit_AccessExchanges_10 : ∃ (s : State) (e : AcsExch) (tid : BitVec 64) (nt : BitVec 128) (trep : BitVec 40)
    (pt : BitVec 64) (eps : Int) (tround : Nat) (seen : StsSeen) (arr : List (Fin 6 × Nat)), s.blk.Ready ∧
    s.blk.acsUp = true ∧ s.blk.acsTested = true ∧ s.blk.jobFault 0 3 = false ∧ s.blk.acs.cur = some e ∧
    s.blk.acs.answers = [] ∧ e.slot < 60 ∧ s.blk.tokenTid e.slot = some tid.toNat ∧ s.blk.acs.fails.length < 4 ∧
    s.blk.acs.best = none ∧ s.blk.acs.enrol = none ∧ s.blk.flag F.ACS_REL_RELMSG 0 = false :=
  ⟨{ blk := tb278 }, ({ slot := 7, anchor := 2, chan := 9, nv := List.replicate 16 1 } : AcsExch), (5 : BitVec 64),
    (77 : BitVec 128), (31949183 : BitVec 40), ((BitVec.ofNat 64 (ofBe (proofT (sessionKey (bench.acsKey (tokenLabel
    5)) (List.replicate 16 1) (beBytes 16 77)) 5 (List.replicate 16 1) (beBytes 16 77) (beBytes 5 31949183)))) :
    BitVec 64), (12000 : Int), (31954464 : Nat), (⟨0, 60⟩ : StsSeen), ([(2,5)] : List (Fin 6 × Nat)), tb278_ready,
    by decide +kernel⟩

def tb279 : Block :=
  ({ (((({ (((bench.setF F.ACS_CFG_EN 0 1).setF F.HEP_STAT_STATE 14 2).setF F.CIPH_CFG_EN 0 1) with ciph := { bench.ciph with test := [(0, 1), (1, 1), (2, 1), (3, 1)] } } : Block).wr R.ACS_SLOTL 61 (5)).wr R.ACS_SLOTH 61 (0)).setF F.ACS_SLOTF_VALID 61 1) with acs := { bench.acs with cur := some { slot := 61, anchor := 0, chan := 5, nv := List.replicate 16 1 } } }
    : Block)
theorem tb279_ready : tb279.Ready :=
  (ready_congr (b :=
    (((({ (((bench.setF F.ACS_CFG_EN 0 1).setF F.HEP_STAT_STATE 14 2).setF F.CIPH_CFG_EN 0 1) with ciph := { bench.ciph with test := [(0, 1), (1, 1), (2, 1), (3, 1)] } }
    : Block).wr R.ACS_SLOTL 61 (5)).wr R.ACS_SLOTH 61 (0)).setF F.ACS_SLOTF_VALID 61 1)) (ready_setF _
    F.ACS_SLOTF_VALID 61 1 (by decide) (ready_wr _ R.ACS_SLOTH 61 (0) (by decide) (ready_wr _ R.ACS_SLOTL 61 (5) (by
    decide) (ready_congr (b := (((bench.setF F.ACS_CFG_EN 0 1).setF F.HEP_STAT_STATE 14 2).setF F.CIPH_CFG_EN 0 1))
    (ready_setF _ F.CIPH_CFG_EN 0 1 (by decide) (ready_core _ 14 2 (by decide) (by decide) (ready_setF _
    F.ACS_CFG_EN 0 1 (by decide) bench_ready))) rfl rfl rfl)))) rfl rfl rfl)

theorem wit_AccessExchanges_11 : ∃ (s : State) (e : AcsExch) (tid : BitVec 64) (nt : BitVec 128) (rssi : BitVec 48)
    (pt : BitVec 64) (start : Nat), s.blk.Ready ∧ s.blk.acsUp = true ∧ s.blk.acsTested = true ∧ s.blk.jobFault 0 3 =
    false ∧ s.blk.acs.cur = some e ∧ s.blk.acs.answers = [] ∧ 60 ≤ e.slot ∧ e.slot < 64 ∧ s.blk.tokenTid e.slot =
    some tid.toNat ∧ s.blk.acs.fails.length < 4 ∧ s.blk.acs.best = none ∧ s.blk.acs.enrol = none ∧ s.blk.flag
    F.ACS_REL_RELMSG 0 = false :=
  ⟨{ blk := tb279 }, ({ slot := 61, anchor := 0, chan := 5, nv := List.replicate 16 1 } : AcsExch), (5 : BitVec 64),
    (77 : BitVec 128), (0x00003000 : BitVec 48), ((BitVec.ofNat 64 (ofBe (proofT (sessionKey (bench.acsKey
    (tokenLabel 5)) (List.replicate 16 1) (beBytes 16 77)) 5 (List.replicate 16 1) (beBytes 16 77) (beBytes 6
    0x3000)))) : BitVec 64), (80000 : Nat), tb279_ready, by decide +kernel⟩

def tb280 : Block :=
  ({ bench with acs := { bench.acs with cur := some { slot := 7, anchor := 2, chan := 9, nv := List.replicate 16 1 } } }
    : Block)
theorem tb280_ready : tb280.Ready :=
  (ready_congr (b := bench) bench_ready rfl rfl rfl)

theorem wit_AccessExchanges_12 : ∃ (s : State) (e : AcsExch), s.blk.Ready ∧ s.blk.acs.cur = some e ∧
    s.blk.acs.answers = [] :=
  ⟨{ blk := tb280 }, ({ slot := 7, anchor := 2, chan := 9, nv := List.replicate 16 1 } : AcsExch), tb280_ready, by
    decide +kernel⟩

def tb281 : Block :=
  ((bench.setF F.ACS_STAT_LOCKOUT 0 1).setF F.ACS_STAT_LOCKX 0 0)
theorem tb281_ready : tb281.Ready :=
  (ready_setF _ F.ACS_STAT_LOCKX 0 0 (by decide) (ready_setF _ F.ACS_STAT_LOCKOUT 0 1 (by decide) bench_ready))

theorem wit_AccessTimes_0 : ∃ (s : State), s.blk.Ready ∧ s.blk.lockout = true :=
  ⟨{ blk := tb281 }, tb281_ready, by decide +kernel⟩

def tb282 : Block :=
  ({ bench with acs := { bench.acs with fails := [1, 2] } } : Block)
theorem tb282_ready : tb282.Ready :=
  (ready_congr (b := bench) bench_ready rfl rfl rfl)

theorem wit_AccessTimes_1 : ∃ (s : State), s.blk.Ready :=
  ⟨{ blk := tb282 }, tb282_ready⟩

def tb283 : Block :=
  (bench.setF F.ACS_LOCK_LEVEL 0 3)
theorem tb283_ready : tb283.Ready :=
  (ready_setF _ F.ACS_LOCK_LEVEL 0 3 (by decide) bench_ready)

theorem wit_AccessTimes_2 : ∃ (s : State), s.blk.Ready :=
  ⟨{ blk := tb283 }, tb283_ready⟩

def tb284 : Block :=
  ({ bench with acs := { bench.acs with enrol := some { src := .node 1 2, dws := [0xA0, 0, 0, 0, 0, 7, 5, 6, 2], payload := [] } } }
    : Block)
theorem tb284_ready : tb284.Ready :=
  (ready_congr (b := bench) bench_ready rfl rfl rfl)

theorem wit_AccessTimes_3 : ∃ (s : State) (d : Desc), s.blk.Ready ∧ s.blk.acs.enrol = some d ∧ s.blk.Single d :=
  ⟨{ blk := tb284 }, (({ src := .node 1 2, dws := [0xA0, 0, 0, 0, 0, 7, 5, 6, 2], payload := [] }) : Desc),
    tb284_ready, by decide +kernel⟩

def tb285 : Block :=
  ({ bench with acs := { bench.acs with code := [1, 2] } } : Block)
theorem tb285_ready : tb285.Ready :=
  (ready_congr (b := bench) bench_ready rfl rfl rfl)

theorem wit_AccessTimes_4 : ∃ (s : State), s.blk.Ready :=
  ⟨{ blk := tb285 }, tb285_ready⟩

def tb286 : Block :=
  (bench.setF F.ACS_STAT_CODEOK 0 1)
theorem tb286_ready : tb286.Ready :=
  (ready_setF _ F.ACS_STAT_CODEOK 0 1 (by decide) bench_ready)

theorem wit_AccessTimes_5 : ∃ (s : State), s.blk.Ready :=
  ⟨{ blk := tb286 }, tb286_ready⟩

def tb287 : Block :=
  ({ bench with acs := { bench.acs with auth := [7, 8] } } : Block)
theorem tb287_ready : tb287.Ready :=
  (ready_congr (b := bench) bench_ready rfl rfl rfl)

theorem wit_AccessTimes_6 : ∃ (s : State) (slot : Fin 64), s.blk.Ready :=
  ⟨{ blk := tb287 }, (7 : Fin 64), tb287_ready⟩

def tb288 : Block :=
  (((((({ ((bench.setF F.CAN_STAT_STATE 5 1).setF F.CIPH_CFG_EN 0 1) with ciph := { bench.ciph with test := [(0, 1), (1, 1), (2, 1), (3, 1)] } }
    : Block).setF F.ACS_CFG_RKSEL 0 1).setF F.KEY_RKSTAT_RKVALID 0 15).setF F.ACS_REL_RELEASED 0 1).setF
    F.ACS_REL_RELMSG 0 1).setF F.ACS_REL_RELCH 0 5)
theorem tb288_ready : tb288.Ready :=
  (ready_setF _ F.ACS_REL_RELCH 0 5 (by decide) (ready_setF _ F.ACS_REL_RELMSG 0 1 (by decide) (ready_setF _
    F.ACS_REL_RELEASED 0 1 (by decide) (ready_setF _ F.KEY_RKSTAT_RKVALID 0 15 (by decide) (ready_setF _
    F.ACS_CFG_RKSEL 0 1 (by decide) (ready_congr (b := ((bench.setF F.CAN_STAT_STATE 5 1).setF F.CIPH_CFG_EN 0 1))
    (ready_setF _ F.CIPH_CFG_EN 0 1 (by decide) (ready_setF _ F.CAN_STAT_STATE 5 1 (by decide) bench_ready)) rfl rfl
    rfl))))))

theorem wit_AccessTimes_7 : ∃ (s : State), s.blk.Ready ∧ s.blk.flag F.ACS_REL_RELEASED 0 = true ∧ s.blk.flag
    F.ACS_REL_RELMSG 0 = true ∧ s.blk.acsKeys = true ∧ s.blk.jobFault 0 3 = false ∧ (s.blk.getF F.ACS_REL_RELCH 0) <
    12 ∧ s.blk.nstate (s.blk.getF F.ACS_REL_RELCH 0) = 1 ∧ (s.blk.nch (s.blk.getF F.ACS_REL_RELCH 0)).prio.length <
    64 :=
  ⟨{ blk := tb288 }, tb288_ready, by decide +kernel⟩

def tb289 : Block :=
  ((((bench.setF F.CAN_STAT_STATE 5 0).setF F.ACS_REL_RELEASED 0 1).setF F.ACS_REL_RELMSG 0 1).setF F.ACS_REL_RELCH
    0 5)
theorem tb289_ready : tb289.Ready :=
  (ready_setF _ F.ACS_REL_RELCH 0 5 (by decide) (ready_setF _ F.ACS_REL_RELMSG 0 1 (by decide) (ready_setF _
    F.ACS_REL_RELEASED 0 1 (by decide) (ready_setF _ F.CAN_STAT_STATE 5 0 (by decide) bench_ready))))

theorem wit_AccessTimes_8 : ∃ (s : State), s.blk.Ready ∧ s.blk.flag F.ACS_REL_RELEASED 0 = true ∧ s.blk.flag
    F.ACS_REL_RELMSG 0 = true ∧ (s.blk.getF F.ACS_REL_RELCH 0) < 12 ∧ s.blk.nstate (s.blk.getF F.ACS_REL_RELCH 0) ≠
    1 :=
  ⟨{ blk := tb289 }, tb289_ready, by decide +kernel⟩

def tb290 : Block :=
  ({ (((bench.setF F.ACS_REL_RELEASED 0 1).setF F.PWR_STATE_IGN 0 0).setF F.ACS_REL_IGNEND 0 1) with acs := { bench.acs with engen := { on := true } } }
    : Block)
theorem tb290_ready : tb290.Ready :=
  (ready_congr (b := (((bench.setF F.ACS_REL_RELEASED 0 1).setF F.PWR_STATE_IGN 0 0).setF F.ACS_REL_IGNEND 0 1))
    (ready_setF _ F.ACS_REL_IGNEND 0 1 (by decide) (ready_setF _ F.PWR_STATE_IGN 0 0 (by decide) (ready_setF _
    F.ACS_REL_RELEASED 0 1 (by decide) bench_ready))) rfl rfl rfl)

theorem wit_AccessTimes_9 : ∃ (s : State), s.blk.Ready ∧ s.blk.flag F.ACS_REL_IGNEND 0 = true ∧ s.blk.flag
    F.PWR_STATE_IGN 0 = false ∧ s.blk.flag F.ACS_REL_RELEASED 0 = true :=
  ⟨{ blk := tb290 }, tb290_ready, by decide +kernel⟩

def tb291 : Block :=
  (({ bench with ciph := { bench.ciph with test := [(0, 1), (1, 1), (2, 1), (3, 1)] } } : Block).setF
    F.KEY_RKSTAT_RKVALID 0 15)
theorem tb291_ready : tb291.Ready :=
  (ready_setF _ F.KEY_RKSTAT_RKVALID 0 15 (by decide) (ready_congr (b := bench) bench_ready rfl rfl rfl))

theorem wit_AccessTimes_10 : ∃ (s : State), s.blk.Ready ∧ s.blk.pg 10 = true ∧ s.blk.rootValid 0 = true ∧
    s.blk.jobFault 0 4 = false ∧ Tab.get 0 s.blk.ciph.test 1 = 1 ∧ Tab.get 0 s.blk.ciph.test 2 = 1 :=
  ⟨{ blk := tb291 }, tb291_ready, by decide +kernel⟩

def tb292 : Block :=
  (bench.setF F.KEY_RKSTAT_RKVALID 0 15)
theorem tb292_ready : tb292.Ready :=
  (ready_setF _ F.KEY_RKSTAT_RKVALID 0 15 (by decide) bench_ready)

theorem wit_AccessTimes_11 : ∃ (s : State), s.blk.Ready ∧ s.blk.pg 10 = true ∧ s.blk.rootValid 0 = true ∧ Tab.get 0
    s.blk.ciph.test 1 = 0 :=
  ⟨{ blk := tb292 }, tb292_ready, by decide +kernel⟩

def tb293 : Block :=
  (bench.setF F.KEY_RKSTAT_RKVALID 0 14)
theorem tb293_ready : tb293.Ready :=
  (ready_setF _ F.KEY_RKSTAT_RKVALID 0 14 (by decide) bench_ready)

theorem wit_AccessTimes_12 : ∃ (s : State), s.blk.Ready ∧ s.blk.pg 10 = true ∧ s.blk.rootValid 0 = false :=
  ⟨{ blk := tb293 }, tb293_ready, by decide +kernel⟩

def tb294 : Block :=
  (bench.setF F.ACS_UWB_AMASK 0 63)
theorem tb294_ready : tb294.Ready :=
  (ready_setF _ F.ACS_UWB_AMASK 0 63 (by decide) bench_ready)

theorem wit_AccessTimes_13 : ∃ (s : State) (x : LineSeen), s.blk.Ready ∧ s.blk.pg 9 = true ∧ bit (s.blk.getF
    F.ACS_UWB_AMASK 0) x.k = true ∧ bit s.blk.acs.unbias x.k = false ∧ (x.ua < 2000 ∨ 80000 < x.ua) :=
  ⟨{ blk := tb294 }, (⟨3, 90000⟩ : LineSeen), tb294_ready, by decide +kernel⟩

def tb295 : Block :=
  ({ (bench.setF F.ACS_LF_LFMASK 0 63) with acs := { bench.acs with lfRef := [(3, 1000)] } } : Block)
theorem tb295_ready : tb295.Ready :=
  (ready_congr (b := (bench.setF F.ACS_LF_LFMASK 0 63)) (ready_setF _ F.ACS_LF_LFMASK 0 63 (by decide) bench_ready)
    rfl rfl rfl)

theorem wit_AccessTimes_14 : ∃ (s : State) (x : LineSeen), s.blk.Ready ∧ s.blk.pg 9 = true ∧ bit (s.blk.getF
    F.ACS_LF_LFMASK 0) x.k = true ∧ (2 * x.ua < Tab.get 0 s.blk.acs.lfRef x.k ∨ 3 * Tab.get 0 s.blk.acs.lfRef x.k <
    2 * x.ua) :=
  ⟨{ blk := tb295 }, (⟨3, 400⟩ : LineSeen), tb295_ready, by decide +kernel⟩

theorem wit_AccessTimes_15 : ∃ (s : State) (x : LineSeen), s.blk.Ready ∧ s.blk.pg 9 = true ∧ bit s.blk.acs.unbias 6
    = false ∧ (x.ua < 2000 ∨ 80000 < x.ua) :=
  ⟨{ blk := bench }, (⟨0, 1000⟩ : LineSeen), bench_ready, by decide +kernel⟩

theorem wit_AccessTimes_16 : ∃ (s : State) (x : LineSeen), s.blk.Ready ∧ s.blk.pg 9 = true ∧ 2000 ≤ x.ua ∧ x.ua ≤
    80000 :=
  ⟨{ blk := bench }, (⟨3, 2000⟩ : LineSeen), bench_ready, by decide +kernel⟩

def tb296 : Block :=
  ({ ((((({ bench with ciph := { bench.ciph with test := [(2, 1), (3, 1)] } } : Block).setF F.CIPH_CFG_EN 0 1).setF F.KEY_RKSTAT_RKVALID 0 15).setF F.CIPH_RNG_RSTATE 0 1).setF F.BOOT_STAT_PHASE 0 2) with boot := { bench.boot with slots := List.replicate 8 (List.replicate 48 7), stmt := List.replicate 248 3 } }
    : Block)
theorem tb296_ready : tb296.Ready :=
  (ready_congr (b := ((((({ bench with ciph := { bench.ciph with test := [(2, 1), (3, 1)] } } : Block).setF
    F.CIPH_CFG_EN 0 1).setF F.KEY_RKSTAT_RKVALID 0 15).setF F.CIPH_RNG_RSTATE 0 1).setF F.BOOT_STAT_PHASE 0 2))
    (ready_setF _ F.BOOT_STAT_PHASE 0 2 (by decide) (ready_setF _ F.CIPH_RNG_RSTATE 0 1 (by decide) (ready_setF _
    F.KEY_RKSTAT_RKVALID 0 15 (by decide) (ready_setF _ F.CIPH_CFG_EN 0 1 (by decide) (ready_congr (b := bench)
    bench_ready rfl rfl rfl))))) rfl rfl rfl)

theorem wit_BootDescriptors_0 : ∃ (s : State) (d : Desc), s.blk.Ready ∧ s.blk.Executes d ∧ s.blk.Single d ∧ d.ok
    0xB0 568 65536 (List.replicate 8 0xFFFFFFFF) = true ∧ s.blk.getF F.BOOT_STAT_PHASE 0 = 2 ∧ s.blk.canSign = true
    ∧ s.blk.boot.slots.flatten.length = 384 :=
  ⟨{ blk := tb296 }, (({ src := .node 1 2, dws := [0xB0, 0, 0x100, 0, 568, 1, 2, 3, 4, 5, 6, 7, 8], payload := [] })
    : Desc), tb296_ready, by decide +kernel⟩

theorem wit_BootDescriptors_1 : ∃ (s : State) (d : Desc), s.blk.Ready ∧ s.blk.Executes d ∧ s.blk.Single d ∧ d.ok
    0xB1 1784 65536 [] = true ∧ s.blk.getF F.BOOT_STAT_PHASE 0 = 2 ∧ s.blk.boot.stmt.length = 248 :=
  ⟨{ blk := tb296 }, (({ src := .node 1 2, dws := [0xB1, 0, 0x100, 0, 1784], payload := [] }) : Desc), tb296_ready,
    by decide +kernel⟩

theorem wit_BootDescriptors_2 : ∃ (s : State) (d : Desc), s.blk.Ready ∧ s.blk.Executes d ∧ s.blk.Single d ∧ d.ok
    0xB2 512 512 [] = true ∧ d.payload.length = 512 ∧ s.blk.boot.sess = none ∧ s.blk.getF F.UPD_STAT_STATE 0 < 2 :=
  ⟨{ blk := bench }, (({ src := .node 1 2, dws := [0xB2, 0, 0x100, 0, 512], payload := (List.replicate 512 0) }) :
    Desc), bench_ready, by decide +kernel⟩

def tb297 : Block :=
  ({ ((((((bench.setF F.UPD_GUARD_SPEED 0 0).setF F.UPD_CFG_SPDSRC 0 0).setF F.UPD_CFG_PBSRC 0 1).setF F.UPD_GUARD_PARK 0 1).setF F.ACS_STAT_OWNLOCK 0 0).wr R.UPD_RCVD 0 (0)) with boot := { bench.boot with spdOk := true, parkOk := true, sess := (some { owner := some (.node 1 2), comp := 3 }) }, flash := { bench.flash with copy := [(11, { header := (List.replicate 20 0 ++ [64] ++ List.replicate 491 0), body := [] })], staged := 8 } }
    : Block)
theorem tb297_ready : tb297.Ready :=
  (ready_congr (b := ((((((bench.setF F.UPD_GUARD_SPEED 0 0).setF F.UPD_CFG_SPDSRC 0 0).setF F.UPD_CFG_PBSRC 0
    1).setF F.UPD_GUARD_PARK 0 1).setF F.ACS_STAT_OWNLOCK 0 0).wr R.UPD_RCVD 0 (0))) (ready_wr _ R.UPD_RCVD 0 (0)
    (by decide) (ready_setF _ F.ACS_STAT_OWNLOCK 0 0 (by decide) (ready_setF _ F.UPD_GUARD_PARK 0 1 (by decide)
    (ready_setF _ F.UPD_CFG_PBSRC 0 1 (by decide) (ready_setF _ F.UPD_CFG_SPDSRC 0 0 (by decide) (ready_setF _
    F.UPD_GUARD_SPEED 0 0 (by decide) bench_ready)))))) rfl rfl rfl)

theorem wit_BootDescriptors_3 : ∃ (s : State) (d : Desc) (s0 : UpdSess), s.blk.Ready ∧ s.blk.Executes d ∧
    s.blk.Single d ∧ d.ok 0xB3 64 65536 [0xFFFFFFFF] = true ∧ d.len % 64 = 0 ∧ s.blk.boot.sess = some s0 ∧ s0.owner
    = some d.src ∧ d.dw 5 = s.blk.rd R.UPD_RCVD 0 ∧ s.blk.rd R.UPD_RCVD 0 + d.len ≤ hLength (s.blk.copyOf (1 -
    s.blk.activeBank s0.comp) s0.comp).header ∧ hLength (s.blk.copyOf (1 - s.blk.activeBank s0.comp) s0.comp).header
    < 2 ^ 32 ∧ s.blk.guardCause = 0 :=
  ⟨{ blk := tb297 }, (({ src := .node 1 2, dws := [0xB3, 0, 0x100, 0, 64], payload := List.replicate 64 9 }) :
    Desc), (({ owner := some (.node 1 2), comp := 3 }) : UpdSess), tb297_ready, by decide +kernel⟩

def tb298 : Block :=
  ({ (((((((bench.setF F.UPD_GUARD_SPEED 0 0).setF F.UPD_CFG_SPDSRC 0 0).setF F.UPD_CFG_PBSRC 0 1).setF F.UPD_GUARD_PARK 0 1).setF F.ACS_STAT_OWNLOCK 0 0).setF F.ACS_STAT_OWNLOCK 0 1).wr R.UPD_RCVD 0 (0)) with boot := { bench.boot with spdOk := true, parkOk := true, sess := (some { owner := some (.node 1 2), comp := 3 }) }, flash := { bench.flash with copy := [(11, { header := (List.replicate 20 0 ++ [64] ++ List.replicate 491 0), body := [] })], staged := 8 } }
    : Block)
theorem tb298_ready : tb298.Ready :=
  (ready_congr (b := (((((((bench.setF F.UPD_GUARD_SPEED 0 0).setF F.UPD_CFG_SPDSRC 0 0).setF F.UPD_CFG_PBSRC 0
    1).setF F.UPD_GUARD_PARK 0 1).setF F.ACS_STAT_OWNLOCK 0 0).setF F.ACS_STAT_OWNLOCK 0 1).wr R.UPD_RCVD 0 (0)))
    (ready_wr _ R.UPD_RCVD 0 (0) (by decide) (ready_setF _ F.ACS_STAT_OWNLOCK 0 1 (by decide) (ready_setF _
    F.ACS_STAT_OWNLOCK 0 0 (by decide) (ready_setF _ F.UPD_GUARD_PARK 0 1 (by decide) (ready_setF _ F.UPD_CFG_PBSRC
    0 1 (by decide) (ready_setF _ F.UPD_CFG_SPDSRC 0 0 (by decide) (ready_setF _ F.UPD_GUARD_SPEED 0 0 (by decide)
    bench_ready))))))) rfl rfl rfl)

theorem wit_BootDescriptors_4 : ∃ (s : State) (d : Desc) (s0 : UpdSess), s.blk.Ready ∧ s.blk.Executes d ∧
    s.blk.Single d ∧ d.ok 0xB3 64 65536 [0xFFFFFFFF] = true ∧ d.len % 64 = 0 ∧ s.blk.boot.sess = some s0 ∧ s0.owner
    = some d.src ∧ d.dw 5 = s.blk.rd R.UPD_RCVD 0 ∧ s.blk.rd R.UPD_RCVD 0 + d.len ≤ hLength (s.blk.copyOf (1 -
    s.blk.activeBank s0.comp) s0.comp).header ∧ s.blk.guardCause ≠ 0 :=
  ⟨{ blk := tb298 }, (({ src := .node 1 2, dws := [0xB3, 0, 0x100, 0, 64], payload := List.replicate 64 9 }) :
    Desc), (({ owner := some (.node 1 2), comp := 3 }) : UpdSess), tb298_ready, by decide +kernel⟩

def tb299 : Block :=
  ({ (bench.wr R.UPD_RCVD 0 (64)) with boot := { bench.boot with spdOk := true, parkOk := true, sess := (some { owner := some (.node 1 2), comp := 3 }) }, flash := { bench.flash with copy := [(11, { header := ((List.replicate 20 0 ++ [64] ++ List.replicate 491 0).take 0x110 ++ bytesOf (sha384 (List.replicate 64 9)) ++ List.replicate 192 0), body := List.replicate 64 9 })], staged := 8 } }
    : Block)
theorem tb299_ready : tb299.Ready :=
  (ready_congr (b := (bench.wr R.UPD_RCVD 0 (64))) (ready_wr _ R.UPD_RCVD 0 (64) (by decide) bench_ready) rfl rfl
    rfl)

theorem wit_BootDescriptors_5 : ∃ (s : State) (d : Desc) (s0 : UpdSess), s.blk.Ready ∧ s.blk.Executes d ∧
    s.blk.Single d ∧ d.ok 0xB4 0 0 [] = true ∧ s.blk.boot.sess = some s0 ∧ s0.owner = some d.src ∧ hLength
    (s.blk.copyOf (1 - s.blk.activeBank s0.comp) s0.comp).header ≤ s.blk.rd R.UPD_RCVD 0 ∧ 1 ≤ s0.comp ∧ s0.comp ≤ 7
    :=
  ⟨{ blk := tb299 }, (({ src := .node 1 2, dws := [0xB4, 0, 0, 0, 0], payload := [] }) : Desc),
    (({ owner := some (.node 1 2), comp := 3 }) : UpdSess), tb299_ready, by decide +kernel⟩

def tb300 : Block :=
  ({ (((((bench.setF F.UPD_GUARD_SPEED 0 0).setF F.UPD_CFG_SPDSRC 0 0).setF F.UPD_CFG_PBSRC 0 1).setF F.UPD_GUARD_PARK 0 1).setF F.ACS_STAT_OWNLOCK 0 0) with boot := { bench.boot with spdOk := true, parkOk := true, sess := none }, flash := { bench.flash with copy := [(11, { header := ((List.replicate 20 0 ++ [64] ++ List.replicate 491 0).take 0x110 ++ bytesOf (sha384 (List.replicate 64 9)) ++ List.replicate 192 0), body := List.replicate 64 9, full := true })], staged := 4 } }
    : Block)
theorem tb300_ready : tb300.Ready :=
  (ready_congr (b := (((((bench.setF F.UPD_GUARD_SPEED 0 0).setF F.UPD_CFG_SPDSRC 0 0).setF F.UPD_CFG_PBSRC 0
    1).setF F.UPD_GUARD_PARK 0 1).setF F.ACS_STAT_OWNLOCK 0 0)) (ready_setF _ F.ACS_STAT_OWNLOCK 0 0 (by decide)
    (ready_setF _ F.UPD_GUARD_PARK 0 1 (by decide) (ready_setF _ F.UPD_CFG_PBSRC 0 1 (by decide) (ready_setF _
    F.UPD_CFG_SPDSRC 0 0 (by decide) (ready_setF _ F.UPD_GUARD_SPEED 0 0 (by decide) bench_ready))))) rfl rfl rfl)

theorem wit_BootDescriptors_6 : ∃ (s : State) (d : Desc), s.blk.Ready ∧ s.blk.Executes d ∧ s.blk.Single d ∧ d.ok
    0xB5 0 0 [0xFE] = true ∧ (bits (d.dw 5) 7 1) ≠ 0 ∧ s.blk.getF F.UPD_STAT_STATE 0 = 0 ∧ (bits (d.dw 5) 7 1) &&&
    s.blk.flash.staged = (bits (d.dw 5) 7 1) :=
  ⟨{ blk := tb300 }, (({ src := .node 1 2, dws := [0xB5, 0, 0, 0, 0, 8], payload := [] }) : Desc), tb300_ready, by
    decide +kernel⟩

def tb301 : Block :=
  (bench.setF F.UPD_STAT_STATE 0 3)
theorem tb301_ready : tb301.Ready :=
  (ready_setF _ F.UPD_STAT_STATE 0 3 (by decide) bench_ready)

theorem wit_BootDescriptors_7 : ∃ (s : State) (d : Desc), s.blk.Ready ∧ s.blk.Executes d ∧ s.blk.Single d ∧ d.ok
    0xB6 0 0 [1] = true ∧ s.blk.getF F.UPD_STAT_STATE 0 = 3 :=
  ⟨{ blk := tb301 }, (({ src := .node 1 2, dws := [0xB6, 0, 0, 0, 0, 1], payload := [] }) : Desc), tb301_ready, by
    decide +kernel⟩

def tb302 : Block :=
  ({ (bench.setF F.UPD_STAT_STATE 0 3) with flash := { bench.flash with active := 5, trial := 4 } } : Block)
theorem tb302_ready : tb302.Ready :=
  (ready_congr (b := (bench.setF F.UPD_STAT_STATE 0 3)) (ready_setF _ F.UPD_STAT_STATE 0 3 (by decide) bench_ready)
    rfl rfl rfl)

theorem wit_BootDescriptors_8 : ∃ (s : State) (d : Desc), s.blk.Ready ∧ s.blk.Executes d ∧ s.blk.Single d ∧ d.ok
    0xB7 0 0 [0xFF] = true ∧ s.blk.getF F.UPD_STAT_STATE 0 = 3 :=
  ⟨{ blk := tb302 }, (({ src := .node 1 2, dws := [0xB7, 0, 0, 0, 0, 1], payload := [] }) : Desc), tb302_ready, by
    decide +kernel⟩

def tb303 : Block :=
  ({ (bench.setF F.UPD_STAT_STATE 0 1) with boot := { bench.boot with spdOk := true, parkOk := true, sess := (some { owner := some (.node 1 2), comp := 3 }) }, flash := { bench.flash with copy := [(11, { header := (List.replicate 20 0 ++ [64] ++ List.replicate 491 0), body := [] })], staged := 8 } }
    : Block)
theorem tb303_ready : tb303.Ready :=
  (ready_congr (b := (bench.setF F.UPD_STAT_STATE 0 1)) (ready_setF _ F.UPD_STAT_STATE 0 1 (by decide) bench_ready)
    rfl rfl rfl)

theorem wit_BootDescriptors_9 : ∃ (s : State) (d : Desc) (s0 : UpdSess), s.blk.Ready ∧ s.blk.Executes d ∧
    s.blk.Single d ∧ d.ok 0xB7 0 0 [0xFF] = true ∧ d.dw 5 = 1 ∧ s.blk.boot.sess = some s0 ∧ s0.owner = some d.src ∧
    s.blk.getF F.UPD_STAT_STATE 0 = 1 :=
  ⟨{ blk := tb303 }, (({ src := .node 1 2, dws := [0xB7, 0, 0, 0, 0, 1], payload := [] }) : Desc),
    (({ owner := some (.node 1 2), comp := 3 }) : UpdSess), tb303_ready, by decide +kernel⟩

theorem wit_BootDescriptors_10 : ∃ (s : State) (d : Desc), s.blk.Ready ∧ s.blk.Executes d ∧ s.blk.Single d ∧ d.ok
    0xB8 64 65536 [] = true :=
  ⟨{ blk := bench }, (({ src := .node 1 2, dws := [0xB8, 0, 0x100, 0, 64], payload := [] }) : Desc), bench_ready, by
    decide +kernel⟩

def tb304 : Block :=
  (bench.setF F.UPD_STAT_STATE 0 2)
theorem tb304_ready : tb304.Ready :=
  (ready_setF _ F.UPD_STAT_STATE 0 2 (by decide) bench_ready)

theorem wit_BootEvents_0 : ∃ (s : State), s.blk.Ready ∧ s.blk.getF F.UPD_STAT_STATE 0 = 2 :=
  ⟨{ blk := tb304 }, tb304_ready, by decide +kernel⟩

theorem wit_BootEvents_1 : ∃ (s : State), s.blk.Ready ∧ s.blk.getF F.UPD_STAT_STATE 0 = 3 :=
  ⟨{ blk := tb302 }, tb302_ready, by decide +kernel⟩

theorem wit_BootEvents_2 : ∃ (s : State) (s0 : UpdSess), s.blk.Ready ∧ s.blk.boot.sess = some s0 :=
  ⟨{ blk := tb303 }, (({ owner := some (.node 1 2), comp := 3 }) : UpdSess), tb303_ready, by decide +kernel⟩

theorem wit_BootEvents_3 : ∃ (s : State) (kind : Fin 4), s.blk.Ready ∧ (kind.val = 3 → s.blk.feedLow = false) ∧
    (kind.val = 2 → s.blk.feedLow = true) :=
  ⟨{ blk := bench }, (0 : Fin 4), bench_ready, by decide +kernel⟩

theorem wit_BootEvents_4 : ∃ (s : State) (who : Who), s.blk.Ready ∧ s.blk.CanWrite who (R.BOOT_CTL.at 0) ∧ (who =
    .core 0 ∨ who = .core 1) :=
  ⟨{ blk := bench }, ((.core 0) : Who), bench_ready, by decide +kernel⟩

theorem wit_BootEvents_5 : ∃ (s : State) (who : Who) (key : BitVec 16), s.blk.Ready ∧ s.blk.CanWrite who
    (R.BOOT_CTL.at 0) ∧ (who = .core 0 ∨ who = .core 1) ∧ key.toNat ≠ 0x2EC0 :=
  ⟨{ blk := bench }, ((.core 0) : Who), (3 : BitVec 16), bench_ready, by decide +kernel⟩

def tb305 : Block :=
  ({ bench with boot := { bench.boot with resp := some (5, [1, 2]) } } : Block)
theorem tb305_ready : tb305.Ready :=
  (ready_congr (b := bench) bench_ready rfl rfl rfl)

theorem wit_BootEvents_6 : ∃ (s : State) (st : Nat) (bs : List Byte), s.blk.Ready ∧ s.blk.boot.resp = some (st, bs)
    :=
  ⟨{ blk := tb305 }, (5 : Nat), ([1, 2] : List Byte), tb305_ready, by decide +kernel⟩

theorem wit_BootEvents_7 : ∃ (s : State) (off : BitVec 20) (count : Fin 17), s.blk.Ready ∧ s.blk.boot.resp = none ∧
    1 ≤ count.val ∧ count.val ≤ 16 ∧ off.toNat % 4 = 0 ∧ 0x1000 ≤ off.toNat ∧ off.toNat + 4 * count.val ≤ 0x2000 :=
  ⟨{ blk := bench }, (0x01800 : BitVec 20), (3 : Fin 17), bench_ready, by decide +kernel⟩

theorem wit_BootEvents_8 : ∃ (s : State) (off : BitVec 20) (count : Fin 17), s.blk.Ready ∧ s.blk.boot.resp = none :=
  ⟨{ blk := bench }, (0 : BitVec 20), (3 : Fin 17), bench_ready, by decide +kernel⟩

theorem wit_BootEvents_9 : ∃ (s : State) (dws : List Word), s.blk.Ready ∧ s.blk.boot.resp = none ∧
    ({ src := .fwRing 0, dws := dws, payload := [] } : Desc).ok 0xB8 64 65536 [] = true ∧
    ({ src := .fwRing 0, dws := dws, payload := [] } : Desc).node = s.blk.nodeId ∧
    ({ src := .fwRing 0, dws := dws, payload := [] } : Desc).bcast = false ∧
    ({ src := .fwRing 0, dws := dws, payload := [] } : Desc).addr = 0 ∧
    ({ src := .fwRing 0, dws := dws, payload := [] } : Desc).len ≤ 4096 ∧ s.blk.getF F.PWR_STATE_STATE 0 ≠ 1 :=
  ⟨{ blk := bench }, ([0xB8, 0, 0, 0, 64] : List Word), bench_ready, by decide +kernel⟩

theorem wit_BootEvents_10 : ∃ (s : State), s.blk.Ready ∧ s.blk.boot.resp = none :=
  ⟨{ blk := bench }, bench_ready, by decide +kernel⟩

def tb306 : Block :=
  (bench.setF F.SYS_VARIANT_DBGFUSE 0 0)
theorem tb306_ready : tb306.Ready :=
  (ready_setF _ F.SYS_VARIANT_DBGFUSE 0 0 (by decide) bench_ready)

theorem wit_BootEvents_11 : ∃ (s : State), s.blk.Ready ∧ s.blk.flag F.SYS_VARIANT_DBGFUSE 0 = false :=
  ⟨{ blk := tb306 }, tb306_ready, by decide +kernel⟩

theorem wit_PairRoles_0 : ∃ (s : State) (d : Desc), s.blk.Ready ∧ s.blk.Executes d ∧ s.blk.Single d ∧ d.ok 0xC0 48
    65536 [] = true :=
  ⟨{ blk := bench }, (({ src := .node 1 2, dws := [0xC0, 0, 0x100, 0, 48], payload := [] }) : Desc), bench_ready, by
    decide +kernel⟩

def tb307 : Block :=
  ((bench.setF F.PAIR_STAT_ROLE 0 5).setF F.PAIR_STAT_SPLIT 0 1)
theorem tb307_ready : tb307.Ready :=
  (ready_setF _ F.PAIR_STAT_SPLIT 0 1 (by decide) (ready_setF _ F.PAIR_STAT_ROLE 0 5 (by decide) bench_ready))

theorem wit_PairRoles_1 : ∃ (s : State) (d : Desc), s.blk.Ready ∧ s.blk.Executes d ∧ s.blk.Single d ∧ d.ok 0xC1 0 0
    [0, 0, 0, 3] = true :=
  ⟨{ blk := tb307 }, (({ src := .node 1 2, dws := [0xC1, 0, 0, 0, 0, 0, 0, 0, 3], payload := [] }) : Desc),
    tb307_ready, by decide +kernel⟩

def tb308 : Block :=
  ({ ((((bench.setF F.PAIR_STAT_ROLE 0 2).setF F.HSW_CFG_LAMP 5 0).setF F.HSW_STAT_STATE 5 2).setF F.HSW_CMD_DUTY 5 1000) with pair := { bench.pair with cfg := [1, 0x20, 0, 0, 0, 0] } }
    : Block)
theorem tb308_ready : tb308.Ready :=
  (ready_congr (b := ((((bench.setF F.PAIR_STAT_ROLE 0 2).setF F.HSW_CFG_LAMP 5 0).setF F.HSW_STAT_STATE 5 2).setF
    F.HSW_CMD_DUTY 5 1000)) (ready_setF _ F.HSW_CMD_DUTY 5 1000 (by decide) (ready_setF _ F.HSW_STAT_STATE 5 2 (by
    decide) (ready_setF _ F.HSW_CFG_LAMP 5 0 (by decide) (ready_setF _ F.PAIR_STAT_ROLE 0 2 (by decide)
    bench_ready)))) rfl rfl rfl)

theorem wit_PairRoles_2 : ∃ (s : State) (d : Desc), s.blk.Ready ∧ s.blk.Executes d ∧ s.blk.Single d ∧ d.ok 0xC2 0 0
    [] = true ∧ s.blk.role = 2 :=
  ⟨{ blk := tb308 }, (({ src := .node 1 2, dws := [0xC2, 0, 0, 0, 0], payload := [] }) : Desc), tb308_ready, by
    decide +kernel⟩

def tb309 : Block :=
  ((bench.setF F.SYS_NODE_VALID 0 1).setF F.PAIR_CFG_PARTNER 0 9)
theorem tb309_ready : tb309.Ready :=
  (ready_setF _ F.PAIR_CFG_PARTNER 0 9 (by decide) (ready_setF _ F.SYS_NODE_VALID 0 1 (by decide) bench_ready))

theorem wit_PairRoles_3 : ∃ (s : State) (who : Who), s.blk.Ready ∧ s.blk.CanWrite who (R.PAIR_CFG.at 0) ∧ s.blk.role
    = 0 ∧ s.blk.flag F.SYS_NODE_VALID 0 = true ∧ s.blk.getF F.PAIR_CFG_PARTNER 0 ≠ s.blk.nodeId ∧ s.blk.getF
    F.PWR_STATE_STATE 0 ≠ 4 :=
  ⟨{ blk := tb309 }, (.host : Who), tb309_ready, by decide +kernel⟩

def tb310 : Block :=
  (bench.setF F.SYS_NODE_VALID 0 0)
theorem tb310_ready : tb310.Ready :=
  (ready_setF _ F.SYS_NODE_VALID 0 0 (by decide) bench_ready)

theorem wit_PairRoles_4 : ∃ (s : State) (who : Who), s.blk.Ready ∧ s.blk.CanWrite who (R.PAIR_CFG.at 0) ∧ s.blk.role
    = 0 ∧ (s.blk.flag F.SYS_NODE_VALID 0 = false ∨ s.blk.getF F.PAIR_CFG_PARTNER 0 = s.blk.nodeId) :=
  ⟨{ blk := tb310 }, (.host : Who), tb310_ready, by decide +kernel⟩

def tb311 : Block :=
  ((bench.setF F.PAIR_STAT_ROLE 0 4).setF F.PAIR_STAT_LINK 0 1)
theorem tb311_ready : tb311.Ready :=
  (ready_setF _ F.PAIR_STAT_LINK 0 1 (by decide) (ready_setF _ F.PAIR_STAT_ROLE 0 4 (by decide) bench_ready))

theorem wit_PairRoles_5 : ∃ (s : State) (who : Who), s.blk.Ready ∧ s.blk.CanWrite who (R.PAIR_CFG.at 0) ∧ s.blk.role
    ≠ 0 :=
  ⟨{ blk := tb311 }, (.host : Who), tb311_ready, by decide +kernel⟩

def tb312 : Block :=
  ({ ((((bench.setF F.PAIR_STAT_ROLE 0 1).setF F.PAIR_STAT_LINK 0 1).setF F.SYS_NODE_NODE 0 3).setF F.PWR_CFG_SYSV 0 0) with pair := { bench.pair with cfg := [18, 1, 0, 0, 0, 0] } }
    : Block)
theorem tb312_ready : tb312.Ready :=
  (ready_congr (b := ((((bench.setF F.PAIR_STAT_ROLE 0 1).setF F.PAIR_STAT_LINK 0 1).setF F.SYS_NODE_NODE 0 3).setF
    F.PWR_CFG_SYSV 0 0)) (ready_setF _ F.PWR_CFG_SYSV 0 0 (by decide) (ready_setF _ F.SYS_NODE_NODE 0 3 (by decide)
    (ready_setF _ F.PAIR_STAT_LINK 0 1 (by decide) (ready_setF _ F.PAIR_STAT_ROLE 0 1 (by decide) bench_ready))))
    rfl rfl rfl)

theorem wit_PairRoles_6 : ∃ (s : State) (h : Hello), s.blk.Ready ∧ s.blk.flag F.PAIR_STAT_LINK 0 = true ∧ h.node.val
    = s.blk.pairPartner ∧ h.partner.val = s.blk.nodeId ∧ h.masks = (s.blk.pair.cfg.drop 1).map (BitVec.ofNat 32) ∧
    h.sysv = s.blk.flag F.PWR_CFG_SYSV 0 ∧ s.blk.role = 1 ∧ h.role.val ≠ 2 ∧ h.role.val ≠ 4 :=
  ⟨{ blk := tb312 }, ({ node := 9, partner := 3, serial := 7, role := 1, sysv := false, masks := [1, 0, 0, 0, 0] } :
    Hello), tb312_ready, by decide +kernel⟩

theorem wit_PairRoles_7 : ∃ (s : State) (h : Hello), s.blk.Ready ∧ s.blk.flag F.PAIR_STAT_LINK 0 = true ∧ h.node.val
    = s.blk.pairPartner ∧ h.partner.val = s.blk.nodeId ∧ h.masks = (s.blk.pair.cfg.drop 1).map (BitVec.ofNat 32) ∧
    h.sysv = s.blk.flag F.PWR_CFG_SYSV 0 ∧ s.blk.role = 1 ∧ (h.role.val = 2 ∨ h.role.val = 4) :=
  ⟨{ blk := tb312 }, ({ node := 9, partner := 3, serial := 7, role := 2, sysv := false, masks := [1, 0, 0, 0, 0] } :
    Hello), tb312_ready, by decide +kernel⟩

def tb313 : Block :=
  ({ ((((bench.setF F.PAIR_STAT_ROLE 0 2).setF F.PAIR_STAT_LINK 0 1).setF F.SYS_NODE_NODE 0 3).setF F.PWR_CFG_SYSV 0 0) with pair := { bench.pair with cfg := [18, 1, 0, 0, 0, 0] } }
    : Block)
theorem tb313_ready : tb313.Ready :=
  (ready_congr (b := ((((bench.setF F.PAIR_STAT_ROLE 0 2).setF F.PAIR_STAT_LINK 0 1).setF F.SYS_NODE_NODE 0 3).setF
    F.PWR_CFG_SYSV 0 0)) (ready_setF _ F.PWR_CFG_SYSV 0 0 (by decide) (ready_setF _ F.SYS_NODE_NODE 0 3 (by decide)
    (ready_setF _ F.PAIR_STAT_LINK 0 1 (by decide) (ready_setF _ F.PAIR_STAT_ROLE 0 2 (by decide) bench_ready))))
    rfl rfl rfl)

theorem wit_PairRoles_8 : ∃ (s : State) (h : Hello), s.blk.Ready ∧ s.blk.flag F.PAIR_STAT_LINK 0 = true ∧ h.node.val
    = s.blk.pairPartner ∧ h.partner.val = s.blk.nodeId ∧ h.masks = (s.blk.pair.cfg.drop 1).map (BitVec.ofNat 32) ∧
    h.sysv = s.blk.flag F.PWR_CFG_SYSV 0 ∧ (s.blk.role = 2 ∨ s.blk.role = 4) ∧ (h.role.val = 2 ∨ h.role.val = 4) :=
  ⟨{ blk := tb313 }, ({ node := 9, partner := 3, serial := 7, role := 2, sysv := false, masks := [1, 0, 0, 0, 0] } :
    Hello), tb313_ready, by decide +kernel⟩

theorem wit_PairRoles_9 : ∃ (s : State) (h : Hello), s.blk.Ready ∧ s.blk.flag F.PAIR_STAT_LINK 0 = true ∧ s.blk.role
    ≠ 0 ∧ s.blk.role ≠ 5 ∧ (h.node.val ≠ s.blk.pairPartner ∨ h.partner.val ≠ s.blk.nodeId) :=
  ⟨{ blk := tb312 }, ({ node := 8, partner := 3, serial := 7, role := 1, sysv := false, masks := [1, 0, 0, 0, 0] } :
    Hello), tb312_ready, by decide +kernel⟩

theorem wit_PairRoles_10 : ∃ (s : State) (h : Hello), s.blk.Ready ∧ s.blk.flag F.PAIR_STAT_LINK 0 = true ∧
    h.node.val = s.blk.pairPartner ∧ h.partner.val = s.blk.nodeId ∧ s.blk.role ≠ 0 ∧ s.blk.role ≠ 5 ∧ (h.masks ≠
    (s.blk.pair.cfg.drop 1).map (BitVec.ofNat 32) ∨ h.sysv ≠ s.blk.flag F.PWR_CFG_SYSV 0) :=
  ⟨{ blk := tb312 }, ({ node := 9, partner := 3, serial := 7, role := 1, sysv := false, masks := [2] } : Hello),
    tb312_ready, by decide +kernel⟩

theorem wit_PairRoles_11 : ∃ (s : State) (recent : Bool), s.blk.Ready ∧ s.blk.role = 1 :=
  ⟨{ blk := tb312 }, (true : Bool), tb312_ready, by decide +kernel⟩

def tb314 : Block :=
  (({ ((((bench.setF F.PAIR_STAT_ROLE 0 1).setF F.PAIR_STAT_LINK 0 1).setF F.SYS_NODE_NODE 0 3).setF F.PWR_CFG_SYSV 0 0) with pair := { bench.pair with cfg := [18, 1, 0, 0, 0, 0] } }
    : Block).setF F.PAIR_STAT_LINK 0 0)
theorem tb314_ready : tb314.Ready :=
  (ready_setF _ F.PAIR_STAT_LINK 0 0 (by decide) (ready_congr (b := ((((bench.setF F.PAIR_STAT_ROLE 0 1).setF
    F.PAIR_STAT_LINK 0 1).setF F.SYS_NODE_NODE 0 3).setF F.PWR_CFG_SYSV 0 0)) (ready_setF _ F.PWR_CFG_SYSV 0 0 (by
    decide) (ready_setF _ F.SYS_NODE_NODE 0 3 (by decide) (ready_setF _ F.PAIR_STAT_LINK 0 1 (by decide) (ready_setF
    _ F.PAIR_STAT_ROLE 0 1 (by decide) bench_ready)))) rfl rfl rfl))

theorem wit_PairRoles_12 : ∃ (s : State), s.blk.Ready ∧ s.blk.role ≠ 0 ∧ s.blk.flag F.PAIR_STAT_LINK 0 = false :=
  ⟨{ blk := tb314 }, tb314_ready, by decide +kernel⟩

theorem wit_PairRoles_13 : ∃ (s : State), s.blk.Ready ∧ s.blk.flag F.PAIR_STAT_LINK 0 = true :=
  ⟨{ blk := tb312 }, tb312_ready, by decide +kernel⟩

theorem wit_PairTraffic_0 : ∃ (s : State), s.blk.Ready ∧ s.blk.role = 2 ∧ s.blk.flag F.PAIR_STAT_LINK 0 = true :=
  ⟨{ blk := tb313 }, tb313_ready, by decide +kernel⟩

def tb315 : Block :=
  ({ ((((bench.setF F.PAIR_STAT_ROLE 0 3).setF F.PAIR_STAT_LINK 0 1).setF F.SYS_NODE_NODE 0 3).setF F.PWR_CFG_SYSV 0 0) with pair := { bench.pair with cfg := [18, 1, 0, 0, 0, 0] } }
    : Block)
theorem tb315_ready : tb315.Ready :=
  (ready_congr (b := ((((bench.setF F.PAIR_STAT_ROLE 0 3).setF F.PAIR_STAT_LINK 0 1).setF F.SYS_NODE_NODE 0 3).setF
    F.PWR_CFG_SYSV 0 0)) (ready_setF _ F.PWR_CFG_SYSV 0 0 (by decide) (ready_setF _ F.SYS_NODE_NODE 0 3 (by decide)
    (ready_setF _ F.PAIR_STAT_LINK 0 1 (by decide) (ready_setF _ F.PAIR_STAT_ROLE 0 3 (by decide) bench_ready))))
    rfl rfl rfl)

theorem wit_PairTraffic_1 : ∃ (s : State) (l : List Mirror) (ok : Bool), s.blk.Ready ∧ s.blk.role = 3 ∧ s.blk.flag
    F.PAIR_STAT_LINK 0 = true :=
  ⟨{ blk := tb315 }, ([.hs 0 1000 2 0] : List Mirror), (true : Bool), tb315_ready, by decide +kernel⟩

theorem wit_PairTraffic_2 : ∃ (s : State), s.blk.Ready ∧ s.blk.role ≠ 0 ∧ s.blk.flag F.PAIR_STAT_LINK 0 = true :=
  ⟨{ blk := tb315 }, tb315_ready, by decide +kernel⟩

theorem wit_PairTraffic_3 : ∃ (s : State) (role : Fin 6) (weir : Fin 4) (missed : Fin 3) (offs : Word), s.blk.Ready
    ∧ s.blk.role ≠ 0 ∧ s.blk.pair.yield = false ∧ s.blk.flag F.PAIR_STAT_LINK 0 = true ∧ (s.blk.role ≠ 3 ∨ role.val
    ≠ 3) ∧ weir.val < 2 :=
  ⟨{ blk := tb315 }, (2 : Fin 6), (1 : Fin 4), (1 : Fin 3), (0x55 : Word), tb315_ready, by decide +kernel⟩

def tb316 : Block :=
  ({ (((({ ((((bench.setF F.PAIR_STAT_ROLE 0 2).setF F.PAIR_STAT_LINK 0 1).setF F.SYS_NODE_NODE 0 3).setF F.PWR_CFG_SYSV 0 0) with pair := { bench.pair with cfg := [18, 1, 0, 0, 0, 0] } } : Block).setF F.HSW_CFG_LAMP 5 0).setF F.HSW_STAT_STATE 5 2).setF F.HSW_CMD_DUTY 5 1000) with pair := { bench.pair with yield := true, cfg := [18, 0x20, 0, 0, 0, 0] } }
    : Block)
theorem tb316_ready : tb316.Ready :=
  (ready_congr (b :=
    (((({ ((((bench.setF F.PAIR_STAT_ROLE 0 2).setF F.PAIR_STAT_LINK 0 1).setF F.SYS_NODE_NODE 0 3).setF F.PWR_CFG_SYSV 0 0) with pair := { bench.pair with cfg := [18, 1, 0, 0, 0, 0] } }
    : Block).setF F.HSW_CFG_LAMP 5 0).setF F.HSW_STAT_STATE 5 2).setF F.HSW_CMD_DUTY 5 1000)) (ready_setF _
    F.HSW_CMD_DUTY 5 1000 (by decide) (ready_setF _ F.HSW_STAT_STATE 5 2 (by decide) (ready_setF _ F.HSW_CFG_LAMP 5
    0 (by decide) (ready_congr (b := ((((bench.setF F.PAIR_STAT_ROLE 0 2).setF F.PAIR_STAT_LINK 0 1).setF
    F.SYS_NODE_NODE 0 3).setF F.PWR_CFG_SYSV 0 0)) (ready_setF _ F.PWR_CFG_SYSV 0 0 (by decide) (ready_setF _
    F.SYS_NODE_NODE 0 3 (by decide) (ready_setF _ F.PAIR_STAT_LINK 0 1 (by decide) (ready_setF _ F.PAIR_STAT_ROLE 0
    2 (by decide) bench_ready)))) rfl rfl rfl)))) rfl rfl rfl)

theorem wit_PairTraffic_4 : ∃ (s : State) (weir : Fin 4) (missed : Fin 3) (offs : Word), s.blk.Ready ∧ s.blk.role =
    2 ∧ s.blk.pair.yield = true ∧ s.blk.flag F.PAIR_STAT_LINK 0 = true ∧ weir.val < 2 :=
  ⟨{ blk := tb316 }, (1 : Fin 4), (1 : Fin 3), (0x55 : Word), tb316_ready, by decide +kernel⟩

theorem wit_PairTraffic_5 : ∃ (s : State) (missed : Fin 3) (offs : Word), s.blk.Ready ∧ s.blk.role = 3 ∧ s.blk.flag
    F.PAIR_STAT_LINK 0 = true ∧ s.blk.underWeir = false :=
  ⟨{ blk := tb315 }, (0 : Fin 3), (5 : Word), tb315_ready, by decide +kernel⟩

theorem wit_PairTraffic_6 : ∃ (s : State) (recent : Bool), s.blk.Ready ∧ s.blk.role = 2 :=
  ⟨{ blk := tb313 }, (true : Bool), tb313_ready, by decide +kernel⟩

def tb317 : Block :=
  (({ ((((bench.setF F.PAIR_STAT_ROLE 0 3).setF F.PAIR_STAT_LINK 0 1).setF F.SYS_NODE_NODE 0 3).setF F.PWR_CFG_SYSV 0 0) with pair := { bench.pair with cfg := [18, 1, 0, 0, 0, 0] } }
    : Block).wr R.CHN_REACH 0 (0x200))
theorem tb317_ready : tb317.Ready :=
  (ready_wr _ R.CHN_REACH 0 (0x200) (by decide) (ready_congr (b := ((((bench.setF F.PAIR_STAT_ROLE 0 3).setF
    F.PAIR_STAT_LINK 0 1).setF F.SYS_NODE_NODE 0 3).setF F.PWR_CFG_SYSV 0 0)) (ready_setF _ F.PWR_CFG_SYSV 0 0 (by
    decide) (ready_setF _ F.SYS_NODE_NODE 0 3 (by decide) (ready_setF _ F.PAIR_STAT_LINK 0 1 (by decide) (ready_setF
    _ F.PAIR_STAT_ROLE 0 3 (by decide) bench_ready)))) rfl rfl rfl))

theorem wit_PairTraffic_7 : ∃ (s : State) (recent : Bool), s.blk.Ready ∧ s.blk.role = 3 ∧ s.blk.pairReach recent =
    true :=
  ⟨{ blk := tb317 }, (true : Bool), tb317_ready, by decide +kernel⟩

theorem wit_PairTraffic_8 : ∃ (s : State) (recent : Bool), s.blk.Ready ∧ s.blk.role = 3 ∧ s.blk.pairReach recent =
    false ∧ s.blk.underWeir = false :=
  ⟨{ blk := tb315 }, (false : Bool), tb315_ready, by decide +kernel⟩

theorem wit_PairTraffic_9 : ∃ (s : State), s.blk.Ready ∧ s.blk.role ≠ 0 ∧ s.blk.flag F.PAIR_STAT_LINK 0 = true :=
  ⟨{ blk := tb315 }, tb315_ready, by decide +kernel⟩

def tb318 : Block :=
  ({ bench with gauge := { bench.gauge with sets := [{ conds := [0x08000000, 0, 0, 0, 0, 0, 0, 0], cal := [], parver := 1, crc := 0x77, valid := true }] } }
    : Block)
theorem tb318_ready : tb318.Ready :=
  (ready_congr (b := bench) bench_ready rfl rfl rfl)

theorem wit_GaugeMetering_0 : ∃ (s : State) (bad : Fin 3), s.blk.Ready ∧ s.blk.gauge.state = 0 :=
  ⟨{ blk := tb318 }, (0 : Fin 3), tb318_ready, by decide +kernel⟩

theorem wit_GaugeMetering_1 : ∃ (s : State) (bad : Fin 3), s.blk.Ready ∧ s.blk.gauge.state = 0 :=
  ⟨{ blk := bench }, (0 : Fin 3), bench_ready, by decide +kernel⟩

def tb319 : Block :=
  ({ bench with gauge := { bench.gauge with state := 1, gsup := true } } : Block)
theorem tb319_ready : tb319.Ready :=
  (ready_congr (b := bench) bench_ready rfl rfl rfl)

theorem wit_GaugeMetering_2 : ∃ (s : State), s.blk.Ready ∧ s.blk.gauge.state = 1 ∧ s.blk.gauge.gsup = true :=
  ⟨{ blk := tb319 }, tb319_ready, by decide +kernel⟩

def tb320 : Block :=
  ({ bench with gauge := { bench.gauge with state := 2 } } : Block)
theorem tb320_ready : tb320.Ready :=
  (ready_congr (b := bench) bench_ready rfl rfl rfl)

theorem wit_GaugeMetering_3 : ∃ (s : State), s.blk.Ready ∧ s.blk.gauge.state = 2 ∧ s.blk.gauge.gsup = false :=
  ⟨{ blk := tb320 }, tb320_ready, by decide +kernel⟩

theorem wit_GaugeMetering_4 : ∃ (s : State), s.blk.Ready ∧ s.blk.gauge.state = 2 ∧ s.blk.gauge.gsup = false :=
  ⟨{ blk := tb320 }, tb320_ready, by decide +kernel⟩

theorem wit_GaugeMetering_5 : ∃ (s : State), s.blk.Ready ∧ s.blk.gauge.state = 2 ∧ s.blk.gauge.gsup = false :=
  ⟨{ blk := tb320 }, tb320_ready, by decide +kernel⟩

def tb321 : Block :=
  ({ bench with gauge := { bench.gauge with state := 1, gsup := true, sets := [{ conds := [0x08000000, 0, 0, 0, 0, 0, 0, 0], cal := [], parver := 1, crc := 0x77, valid := true }], active := some 0 } }
    : Block)
theorem tb321_ready : tb321.Ready :=
  (ready_congr (b := bench) bench_ready rfl rfl rfl)

theorem wit_GaugeMetering_6 : ∃ (s : State) (ma : List Int) (v : List Int), s.blk.Ready ∧ s.blk.gauge.counting =
    true ∧ (∀ n ∈ List.range 8, 0 ≤ v.getD n 0) ∧ s.blk.gauge.live.gm.length = 8 ∧ s.blk.gauge.gmRem.length = 8 ∧ (∀
    n ∈ List.range 8, (s.blk.gauge.live.gm.getD n 0 * mwhUnit + s.blk.gauge.gmRem.getD n 0) + (ma.getD n 0 * (v.getD
    n 0 * 2)).toNat < mwhUnit * 2 ^ 48) :=
  ⟨{ blk := tb321 }, ([1000, 49, 27501] : List Int), ([12000, 12000, 12000] : List Int), tb321_ready, by
    decide +kernel⟩

theorem wit_GaugeMetering_7 : ∃ (s : State) (gin : Fin 64), s.blk.Ready ∧ s.blk.gauge.counting = true ∧
    s.blk.gauge.bestSet = s.blk.gauge.active ∧ s.blk.gauge.tenth < 10 ∧ s.blk.gauge.live.gh.length = 8 ∧
    s.blk.gauge.ghRem.length = 8 ∧ (∀ k ∈ List.range 8, s.blk.gauge.ghRem.getD k 0 < 10 ∧ s.blk.gauge.live.gh.getD k
    0 < 0xFFFFFFFF) ∧ s.blk.gauge.live.gt + 1 < 2 ^ 32 :=
  ⟨{ blk := tb321 }, (5 : Fin 64), tb321_ready, by decide +kernel⟩

def tb322 : Block :=
  (bench.setF F.GAUGE_STAT_VALID 0 1)
theorem tb322_ready : tb322.Ready :=
  ⟨⟨rfl, by decide +kernel, by decide +kernel, by decide +kernel⟩, fun e he => (by decide +kernel : ∀ e : Fin 256,
    tb322.getF F.CATCH_SRC_CLASS e ≤ 1 ∧ tb322.getF F.CATCH_SRC_ACT e < 8) ⟨e, he⟩, ⟨rfl, rfl⟩, by decide +kernel⟩

theorem wit_GaugeWindow_0 : ∃ (s : State) (d : Desc), s.blk.Ready ∧ s.blk.Executes d ∧ s.blk.Single d ∧ d.ok 0xC8
    104 65536 [] = true ∧ s.blk.flag F.GAUGE_STAT_VALID 0 = true :=
  ⟨{ blk := tb322 }, (({ src := .node 1 2, dws := [0xC8, 0, 0x100, 0, 104], payload := [] }) : Desc), tb322_ready,
    by decide +kernel⟩

theorem wit_GaugeWindow_1 : ∃ (s : State) (d : Desc), s.blk.Ready ∧ s.blk.Executes d ∧ s.blk.Single d ∧ d.ok 0xC9
    (16 * d.dw 6) 65536 [0xFFFFFFFF, 0xFF] = true ∧ 1 ≤ d.dw 6 ∧ d.dw 6 ≤ 128 ∧ s.blk.flag F.GAUGE_STAT_VALID 0 =
    true :=
  ⟨{ blk := tb322 }, (({ src := .node 1 2, dws := [0xC9, 0, 0x100, 0, 32, 1, 2], payload := [] }) : Desc),
    tb322_ready, by decide +kernel⟩

def tb323 : Block :=
  ({ bench with gauge := { bench.gauge with state := 1 } } : Block)
theorem tb323_ready : tb323.Ready :=
  (ready_congr (b := bench) bench_ready rfl rfl rfl)

theorem wit_GaugeWindow_2 : ∃ (s : State), s.blk.Ready ∧ s.blk.gauge.state ≠ 0 :=
  ⟨{ blk := tb323 }, tb323_ready, by decide +kernel⟩

def tb324 : Block :=
  ({ bench with gauge := { bench.gauge with state := 1, sent := some ({ bench.gauge with state := 1 } : GaugeSt).record } }
    : Block)
theorem tb324_ready : tb324.Ready :=
  (ready_congr (b := bench) bench_ready rfl rfl rfl)

theorem wit_GaugeWindow_3 : ∃ (s : State), s.blk.Ready ∧ s.blk.gauge.sent = some s.blk.gauge.record ∧
    s.blk.gauge.state = 1 ∧ s.blk.gauge.live.gt < 2 ^ 32 ∧ s.blk.getF F.GAUGE_LOGSEQ_SEQ 0 = 0 :=
  ⟨{ blk := tb324 }, tb324_ready, rfl, by decide +kernel⟩

theorem wit_GaugeWindow_4 : ∃ (s : State), s.blk.Ready ∧ s.blk.gaugeUnmetered = false :=
  ⟨{ blk := tb322 }, tb322_ready, by decide +kernel⟩

theorem wit_GaugeWindow_5 : ∃ (s : State), s.blk.Ready ∧ s.blk.gauge.state = 1 :=
  ⟨{ blk := tb321 }, tb321_ready, by decide +kernel⟩

theorem wit_GaugeWindow_6 : ∃ (s : State), s.blk.Ready ∧ s.blk.gauge.state = 1 :=
  ⟨{ blk := tb321 }, tb321_ready, by decide +kernel⟩

theorem wit_GaugeWindow_7 : ∃ (s : State) (seq : Word) (n : Byte), s.blk.Ready ∧ s.blk.gauge.state = 1 ∧ 1 ≤ n.toNat
    ∧ n.toNat ≤ 64 :=
  ⟨{ blk := tb321 }, (1 : Word), (3 : Byte), tb321_ready, by decide +kernel⟩

theorem wit_GaugeWindow_8 : ∃ (s : State) (set : ParamSet), s.blk.Ready ∧ s.blk.gauge.state = 1 :=
  ⟨{ blk := tb321 },
    (({ conds := [0x08000000, 0, 0, 0, 0, 0, 0, 0], cal := [], parver := 1, crc := 0x77, valid := true }) :
    ParamSet), tb321_ready, by decide +kernel⟩

theorem wit_GaugeWindow_9 : ∃ (s : State) (crc : Word), s.blk.Ready ∧ s.blk.gauge.state = 1 :=
  ⟨{ blk := tb321 }, (0x77 : Word), tb321_ready, by decide +kernel⟩

theorem wit_SupplyAndRegisterCommandsComplete_1 : ∃ (s : State), s.blk.pw.inReset ≠ .powerOn :=
  ⟨{ blk := bench }, by decide +kernel⟩

theorem wit_SupplyAndRegisterCommandsComplete_2 : ∃ (s : State), s.blk.catchm.due = [] ∧ s.blk.pg 1 = false ∧
    s.blk.pw.brown = true ∧ s.blk.pw.inReset = .brownOut :=
  ⟨{ blk := tb159 }, by decide +kernel⟩

theorem wit_SupplyAndRegisterCommandsComplete_4 : ∃ (s : State) (bcr : Fin 4) (rec : Fin 4) (rk : Fin 16),
    s.blk.Ready ∧ s.blk.pw.brown = false ∧ s.blk.boot.coldWake = true ∧ s.blk.boot.recReq = true ∧
    s.blk.catchm.later = [] ∧ s.blk.pg 8 = true :=
  ⟨{ blk := tb160 }, (0 : Fin 4), (0 : Fin 4), (0 : Fin 16), tb160_ready, by decide +kernel⟩

theorem wit_SupplyAndRegisterCommandsComplete_5 : ∃ (s : State) (c : Fin 2), s.blk.Ready ∧ s.blk.CanWrite (.core
    (Fin.ofNat 15 c)) (R.PWR_STILL.at 0) ∧ s.blk.getF F.PWR_STATE_STATE 0 = 2 ∧ s.blk.anyOutput = false ∧
    s.blk.netsAsleep = true :=
  ⟨{ blk := bench }, (0 : Fin 2), bench_ready, by decide +kernel⟩

theorem wit_SupplyAndRegisterCommandsComplete_6 : ∃ (s : State) (rk : Fin 16), s.blk.pw.still = .entering ∧
    s.blk.pw.heldWake = false ∧ s.blk.pw.gaugeOff = false :=
  ⟨{ blk := tb161 }, (0 : Fin 16), by decide +kernel⟩

theorem wit_SupplyAndRegisterCommandsComplete_7 : ∃ (s : State) (src : Fin 45) (phase : Fin 3) (seen : WakeSeen) (rk
    : Fin 16), (decide (src.val < 16) && !((Tab.get none s.blk.pw.diWake src).all fun w => Block.diWakes w
    seen.di.mv seen.di.ticks seen.di.idle)) = false ∧ ((Block.wakeCh src).all fun c => !((s.blk.detect c seen.net).2
    == 0)) = true ∧ s.blk.catchm.due = [] ∧ s.blk.pw.still = .still ∧ s.blk.pw.gaugeOff = false ∧ s.blk.wakeEnabled
    src = true ∧ s.blk.wakeArmed src = true ∧ (List.range 8).all (fun n => s.blk.chState n == Ch.disabled) = true :=
  ⟨{ blk := tb162 }, (44 : Fin 45), (0 : Fin 3), ({} : WakeSeen), (0 : Fin 16), by decide +kernel⟩

theorem wit_SupplyAndRegisterCommandsComplete_8 : ∃ (s : State) (fl : List (Nat × Byte)), s.blk.Calm ∧ s.blk.Tame ∧
    s.blk.pw.inReset = .none ∧ s.blk.pw.still = .waking ∧ s.blk.flag F.CATCH_INJ_ARM 0 = false :=
  ⟨{ blk := tb163 }, ([] : List (Nat × Byte)), ⟨rfl, by decide +kernel, by decide +kernel, by decide +kernel⟩, fun e
    he => (by decide +kernel : ∀ e : Fin 256, tb163.getF F.CATCH_SRC_CLASS e ≤ 1 ∧ tb163.getF F.CATCH_SRC_ACT e < 8)
    ⟨e, he⟩, by decide +kernel⟩

theorem wit_SupplyAndRegisterCommandsComplete_9 : ∃ (s : State), s.blk.catchm.due = [] ∧ s.blk.pw.still = .still ∧
    s.blk.pg 1 = false ∧ bit (s.blk.acs.still.getD 0 0) 3 = true :=
  ⟨{ blk := tb164 }, by decide +kernel⟩

theorem wit_SupplyAndRegisterCommandsComplete_10 : ∃ (s : State) (who : Who) (off : BitVec 24) (ws : List Word),
    s.blk.Ready ∧ s.blk.spaceHeld = false ∧ off.toNat < 0x100000 ∧ s.blk.writeCause who off.toNat 4 = none ∧
    (findReg off.toNat).isSome = true ∧ ((findReg off.toNat).all fun x => (hookOf x.1 (Block.hooks who)).isNone) =
    true ∧ ((findReg off.toNat).any fun x => x.1.late s.blk.isLocked (s.blk.rd x.1 x.2) ((ws.getD 0 0).toNat)) =
    false :=
  ⟨{ blk := tb165 }, (.host : Who), (0x20200 : BitVec 24), ([0xFFFFFFFF] : List Word), tb165_ready, by
    decide +kernel⟩

theorem wit_SupplyAndRegisterCommandsComplete_11 : ∃ (s : State) (who : Who), s.blk.Ready ∧ s.blk.CanWrite who
    (R.SYS_LOCK.at 0) ∧ s.blk.isLocked = false :=
  ⟨{ blk := tb165 }, (.host : Who), tb165_ready, by decide +kernel⟩

theorem wit_SupplyAndRegisterCommandsComplete_12 : ∃ (s : State) (who : Who) (d : Fin 10), s.blk.Ready ∧
    s.blk.CanWrite who (R.PWR_DOMCTL.at 0) :=
  ⟨{ blk := bench }, (.host : Who), (4 : Fin 10), bench_ready, by decide +kernel⟩

theorem wit_SupplyAndRegisterCommandsComplete_13 : ∃ (s : State) (d : Fin 10) (rk : Fin 16), s.blk.Ready ∧
    s.blk.domBit (3 + d) = true ∧ s.blk.pg (3 + d) = false ∧ s.blk.boot.ran = false :=
  ⟨{ blk := tb152 }, (1 : Fin 10), (0 : Fin 16), tb152_ready, by decide +kernel⟩

theorem wit_SupplyAndRegisterCommandsComplete_14 : ∃ (s : State) (d : Fin 10), s.blk.Ready ∧ s.blk.domBit (3 + d) =
    true ∧ s.blk.pg (3 + d) = false :=
  ⟨{ blk := tb152 }, (1 : Fin 10), tb152_ready, by decide +kernel⟩

theorem wit_SupplyAndRegisterCommandsComplete_15 : ∃ (s : State) (who : Who) (d : Fin 10), s.blk.Ready ∧
    s.blk.CanWrite who (R.PWR_DOMCTL.at 0) ∧ s.blk.domBit (3 + d) = true ∧ s.blk.pg (3 + d) = true ∧
    s.blk.domainBusy (3 + d) = false :=
  ⟨{ blk := tb153 }, (.host : Who), (4 : Fin 10), tb153_ready, by decide +kernel⟩

theorem wit_SupplyAndRegisterCommandsComplete_16 : ∃ (s : State) (c : Fin 15), s.blk.Ready ∧ 6 ≤ c.val ∧
    s.blk.coreState c = 1 ∧ s.blk.hq.flights = [] ∧ Tab.get [] s.blk.boot.heads ([0, 0, 0, 0, 0, 0, 3, 3, 3, 3, 4,
    4, 5, 6, 7].getD c 0) ≠ [] :=
  ⟨{ blk := tb154 }, (7 : Fin 15), tb154_ready, by decide +kernel⟩

theorem wit_SupplyAndRegisterCommandsComplete_17 : ∃ (s : State) (who : Who) (c : Fin 4), s.blk.Ready ∧
    s.blk.CanWrite who (R.HEP_CCTL.at c) ∧ s.blk.coreState (2 + c) = 1 :=
  ⟨{ blk := tb155 }, (.host : Who), (1 : Fin 4), tb155_ready, by decide +kernel⟩

theorem wit_SupplyAndRegisterCommandsComplete_18 : ∃ (s : State) (who : Who), s.blk.Ready ∧ s.blk.CanWrite who
    (R.HEP_SWDCFG.at 0) ∧ s.blk.flag F.HEP_SWDCFG_EN 0 = false ∧ s.blk.isLocked = false :=
  ⟨{ blk := bench }, (.host : Who), bench_ready, by decide +kernel⟩

theorem wit_SupplyAndRegisterCommandsComplete_19 : ∃ (s : State) (c : Fin 2), s.blk.Ready ∧ s.blk.CanWrite (.core
    (Fin.ofNat 15 c)) (R.HEP_SWDKICK.at 0) ∧ s.blk.flag F.HEP_SWDCFG_EN 0 = true :=
  ⟨{ blk := tb156 }, (0 : Fin 2), tb156_ready, by decide +kernel⟩

theorem wit_SupplyAndRegisterCommandsComplete_20 : ∃ (s : State), s.blk.Ready ∧ s.blk.flag F.HEP_SWDCFG_EN 0 = true
    :=
  ⟨{ blk := tb156 }, tb156_ready, by decide +kernel⟩

theorem wit_SupplyAndRegisterCommandsComplete_21 : ∃ (s : State) (c : Fin 2) (w : Word), s.blk.Ready ∧
    s.blk.CanWrite (.core (Fin.ofNat 15 c)) (R.HEP_CRST.at 0) ∧ bits w.toNat 31 16 = 0x5C0E ∧ 2 ≤ bits w.toNat 3 0 ∧
    bits w.toNat 3 0 ≤ 5 ∧ s.blk.flag F.HEP_CCTL_AUTORUN (bits w.toNat 3 0 - 2) = false ∧ s.blk.coreState (bits
    w.toNat 3 0) ≠ 0 :=
  ⟨{ blk := tb157 }, (0 : Fin 2), (0x5C0E0003 : Word), tb157_ready, by decide +kernel⟩

theorem wit_SupplyAndRegisterCommandsComplete_22 : ∃ (s : State) (fl : List (Nat × Byte)), s.blk.Ready ∧
    s.blk.boot.hashing = true ∧ s.blk.flag F.CATCH_INJ_ARM 0 = false :=
  ⟨{ blk := tb158 }, ([] : List (Nat × Byte)), tb158_ready, by decide +kernel⟩

theorem wit_SupplyAndRegisterCommandsComplete_23 : ∃ (s : State) (x : Exe) (k : Fin 16) (a : CxArgs) (m : Micro),
    s.blk.Ready ∧ s.blk.fetches x 1 = true ∧ (s.blk.cpu x).rep = 0 ∧ (Tab.get 0 (s.blk.cpu x).cxdef k).toNat / 2 ^
    15 % 2 = 1 ∧ ((s.blk.cpu x).priv = true ∨ (Tab.get 0 (s.blk.cpu x).cxdef k).toNat / 2 ^ 14 % 2 = 1) ∧ (Tab.get 0
    (s.blk.cpu x).cxdef k).toNat / 2 ^ 9 % 32 = 0 ∧ m =
    ({ w := Tab.get 0 (s.blk.cpu x).ustore ((Tab.get 0 (s.blk.cpu x).cxdef k).toNat % 512) } : Micro) ∧ (([true,
    (s.blk.cpu x).sr.getLsbD 9, !(s.blk.cpu x).sr.getLsbD 9, (s.blk.cpu x).sr.getLsbD 8, !(s.blk.cpu x).sr.getLsbD
    8, (s.blk.cpu x).sr.getLsbD 10, !(s.blk.cpu x).sr.getLsbD 10, (s.blk.cpu x).sr.getLsbD 11, !(s.blk.cpu
    x).sr.getLsbD 11, (s.blk.cpu x).sr.getLsbD 8 && !(s.blk.cpu x).sr.getLsbD 9, !(s.blk.cpu x).sr.getLsbD 8 ||
    (s.blk.cpu x).sr.getLsbD 9, (s.blk.cpu x).sr.getLsbD 10 == (s.blk.cpu x).sr.getLsbD 11, (s.blk.cpu x).sr.getLsbD
    10 != (s.blk.cpu x).sr.getLsbD 11, !(s.blk.cpu x).sr.getLsbD 9 && (s.blk.cpu x).sr.getLsbD 10 == (s.blk.cpu
    x).sr.getLsbD 11, (s.blk.cpu x).sr.getLsbD 9 || (s.blk.cpu x).sr.getLsbD 10 != (s.blk.cpu x).sr.getLsbD
    11]).getD m.cond false) = true ∧ m.cond < 15 ∧ m.uop ∈ [1, 2, 3, 4, 5, 0x13] ∧ microIllegal m = false ∧ m.fl =
    false ∧ (m.dst < 16 ∨ (0x30 ≤ m.dst ∧ m.dst < 0x33)) :=
  ⟨{ blk := tb251 }, ({ core := 2 } : Exe), (3 : Fin 16), ({ x := 1, y := 2, z := 3, imm := 5 } : CxArgs),
    ({ w := 0x72c310000000000 } : Micro), tb251_ready, by decide +kernel⟩

theorem wit_SupplyAndRegisterCommandsComplete_24 : ∃ (s : State) (x : Exe) (k : Fin 16) (a : CxArgs) (m : Micro),
    s.blk.Ready ∧ s.blk.fetches x 1 = true ∧ (s.blk.cpu x).rep = 0 ∧ (Tab.get 0 (s.blk.cpu x).cxdef k).toNat / 2 ^
    15 % 2 = 1 ∧ ((s.blk.cpu x).priv = true ∨ (Tab.get 0 (s.blk.cpu x).cxdef k).toNat / 2 ^ 14 % 2 = 1) ∧ (Tab.get 0
    (s.blk.cpu x).cxdef k).toNat / 2 ^ 9 % 32 = 0 ∧ m =
    ({ w := Tab.get 0 (s.blk.cpu x).ustore ((Tab.get 0 (s.blk.cpu x).cxdef k).toNat % 512) } : Micro) ∧ (([true,
    (s.blk.cpu x).sr.getLsbD 9, !(s.blk.cpu x).sr.getLsbD 9, (s.blk.cpu x).sr.getLsbD 8, !(s.blk.cpu x).sr.getLsbD
    8, (s.blk.cpu x).sr.getLsbD 10, !(s.blk.cpu x).sr.getLsbD 10, (s.blk.cpu x).sr.getLsbD 11, !(s.blk.cpu
    x).sr.getLsbD 11, (s.blk.cpu x).sr.getLsbD 8 && !(s.blk.cpu x).sr.getLsbD 9, !(s.blk.cpu x).sr.getLsbD 8 ||
    (s.blk.cpu x).sr.getLsbD 9, (s.blk.cpu x).sr.getLsbD 10 == (s.blk.cpu x).sr.getLsbD 11, (s.blk.cpu x).sr.getLsbD
    10 != (s.blk.cpu x).sr.getLsbD 11, !(s.blk.cpu x).sr.getLsbD 9 && (s.blk.cpu x).sr.getLsbD 10 == (s.blk.cpu
    x).sr.getLsbD 11, (s.blk.cpu x).sr.getLsbD 9 || (s.blk.cpu x).sr.getLsbD 10 != (s.blk.cpu x).sr.getLsbD
    11]).getD m.cond false) = false ∧ m.cond < 15 :=
  ⟨{ blk := tb252 }, ({ core := 2 } : Exe), (3 : Fin 16), ({ x := 1, y := 2, z := 3, imm := 5 } : CxArgs),
    ({ w := 0x72c311000000000 } : Micro), tb252_ready, by decide +kernel⟩

theorem wit_StepRunsTheFrontCommand_0 : ∃ (s : State) (c : Instr) (rest : List Instr), s.pending = c :: rest :=
    ⟨{ blk := bench, pending := [.weirWindowExpiry] }, .weirWindowExpiry, [], rfl⟩

theorem wit_StepRunsTheFrontCommand_1 : ∃ s : State, s.pending = [] := ⟨State.reset, rfl⟩

theorem wit_NothingIsLeftUndone_0 : ∃ s t : State, step s = .next t := ⟨State.reset, _, rfl⟩

/-! ### An ill-formed term for each check of WellFormed -/

theorem test_wf_descriptor : Instr.wf (.nop { src := .queue 0, dws := [0x00], payload := [] }) = false := by decide
theorem test_wf_payload_arrival : Instr.wf (.descriptorArrival 0 [0x10] []) = false := by decide
theorem test_wf_halves : Instr.wf (.mov { core := 2, diff := true } 1 2) = false := by decide
theorem test_wf_access : Instr.wf (.registerWrite .host 0x10 8 [1]) = false := by decide
theorem test_wf_fault_dwords : Instr.wf (.hostMemoryFault 0 0 false []) = false := by decide
theorem test_wf_info : Instr.wf (.info 0 [1, 2]) = false := by decide
theorem test_wf_cal : Instr.wf (.cal 0 [1, 2]) = false := by decide
theorem test_wf_can_length : Instr.wf (.canFrameReceived 0 ⟨{ data := List.replicate 9 0 }, 0, true⟩) = false := by decide
theorem test_wf_lin_length : Instr.wf (.linFrameReceived 0 ⟨List.replicate 9 0, 0⟩ 0) = false := by decide
theorem test_wf_eth_length : Instr.wf (.ethFrameReceived 0 ⟨List.replicate 1523 0, 0⟩) = false := by decide +kernel
theorem test_wf_count : Instr.wf (.rdFrame 0 0 0 0) = false := by decide
theorem test_wf_words : Instr.wf (.wrFrame 0 0 0 []) = false := by decide
theorem test_wf_posted_words : Instr.wf (.pwrFrame 0 0 0 (List.replicate 65 0)) = false := by decide
theorem test_wf_desc_frame : Instr.wf (.descFrame 0 0 [] ⟨[], true⟩) = false := by decide
theorem test_wf_lock_ops : Instr.wf (.lockFrame 0 0 []) = false := by decide
theorem test_wf_event_words : Instr.wf (.evtFrame 0 0 0 0 0 []) = false := by decide
theorem test_wf_dcpl : Instr.wf (.dcplFrame 0 0 [] []) = false := by decide
theorem test_wf_sha_context : Instr.wf (.sha { src := .queue 0, dws := List.replicate 16 0, payload := [] } (List.replicate 257 0) false) = false := by
  decide +kernel
theorem test_wf_reg_rd : Instr.wf (.regRd true 0 0) = false := by decide
theorem test_wf_mladet : Instr.wf (.mladetDesc true 0 [] []) = false := by decide
theorem test_wf_hello : Instr.wf (.pairHello { node := 1, partner := 2, serial := 0, role := 0, sysv := false, masks := [] }) = false := by
  decide
/-- A term that every check accepts. -/
theorem test_wf_accepts : Instr.wf (.nop { src := .queue 0, dws := List.replicate 16 0, payload := [] }) = true := by decide

/-! ### Examples of the spec -/

/-- A block after a command, or as it was. -/
def after (o : Host.Outcome State Fault Refusal) : Block := match o with
  | .next t => t.blk
  | _ => {}

/-- The example behind R58: 0x5EA1 written by host software gives SYS_LOCKSTAT = 0x0000_0003. -/
theorem test_lock_example : (after (exec (.sysLockWrite .host 0x5EA1) { blk := bench })).rd R.SYS_LOCKSTAT 0 = 3 := by
  decide +kernel

/-- The same example: a stray write to an RL field of HSW_CFG[17] leaves it, and SYS_LOCKSTAT reads 0x0001_000B. -/
theorem test_late_write_example :
    (after (exec (.registerWrite .host (BitVec.ofNat 24 (R.HSW_CFG.at 17)) 4 [0x10]) { blk := bench.wr R.SYS_LOCKSTAT 0 3 })).rd
      R.SYS_LOCKSTAT 0 = 0x1000B := by decide +kernel

/-- Chapter 3: the registers of HS2 start at W0 offset 0x0001_0200; chapter 15: HEP_ROUTE[33] at 0x0004_0484. -/
theorem test_places : R.HSW_CFG.at 2 = 0x10200 ∧ R.HEP_ROUTE.at 33 = 0x40484 ∧ R.HEP_ROUTE.at 40 = 0x404A0 := by decide

/-- Chapter 15: the default ACT of EV33 is 0x07. -/
theorem test_default_act : State.reset.blk.getF F.CATCH_SRC_ACT 33 = 7 := by decide +kernel

/-- R514, R519: ADD D1, D2, D3 is MAJ 000000, RD 0001, RS 0010, RT 0011, FN 0x01. -/
theorem test_word_add : decodeTableWord 32 0x0048C001 = some (.add { core := 0 } 1 2 3) := by decide +kernel
/-- R519: SEL carries its condition, 11 = GE, in [11:8]. -/
theorem test_word_sel : decodeTableWord 32 0x0048CB34 = some (.sel { core := 0 } 1 2 3 11) := by decide +kernel
/-- R525: MAC ACC2, D3, D4: MAJ 000001, FN [7:6] = 2. -/
theorem test_word_mac : decodeTableWord 32 0x040D0080 = some (.mac { core := 0 } 2 3 4) := by decide +kernel
/-- R520: ADDI D1, D2 with an IMM18 of ones. -/
theorem test_word_addi : decodeTableWord 32 0x084BFFFF = some (.addi { core := 0 } 1 2 (.short 0x3FFFF)) := by decide +kernel
/-- R520: SHI D1, D2, kind 3 = ROR, count 8. -/
theorem test_word_shi : decodeTableWord 32 0x1C480308 = some (.shi { core := 0 } 1 2 3 8) := by decide +kernel
/-- R526, R527: LD of a half-word into D1 from A2, MODE 2, OFF13 4. -/
theorem test_word_ld : decodeTableWord 32 0x40492004 = some (.ld { core := 0 } 1 1 2 (.post (.short 4))) := by decide +kernel
/-- R529: B, COND 2 = NE, OFF22 of ones. -/
theorem test_word_b : decodeTableWord 32 0x60BFFFFF = some (.b { core := 0 } 2 (.rel 0x3FFFFF)) := by decide +kernel
/-- R529: JR A14. -/
theorem test_word_jr : decodeTableWord 32 0x68380000 = some (.jr { core := 0 } false 14) := by decide +kernel
/-- R530: LOOP 1 with CI = 1, END 5 and count 10. -/
theorem test_word_loop : decodeTableWord 32 0x7180280A = some (.loop { core := 0 } 1 (.imm 5 10)) := by decide +kernel
/-- R531: REP with 63 as its count less one. -/
theorem test_word_rep : decodeTableWord 32 0x7400003F = some (.rep { core := 0 } (.imm 63)) := by decide +kernel
/-- R520: MFC D1 from control register 0x10, and MTC back. -/
theorem test_word_mfc : decodeTableWord 32 0x80400010 = some (.mfc { core := 0 } 1 0x10 false) := by decide +kernel
theorem test_word_mtc : decodeTableWord 32 0x84040010 = some (.mtc { core := 0 } 0x10 1) := by decide +kernel
/-- R532: TRAP 3. -/
theorem test_word_trap : decodeTableWord 32 0x88000301 = some (.trap { core := 0 } 3) := by decide +kernel
/-- R535: CX3 with X = 5, Y = 6, Z = 7. -/
theorem test_word_cx : decodeTableWord 32 0xF8D59C00 = some (.cx { core := 0 } 3 { x := 5, y := 6, z := 7, imm := 0 } none) := by
  decide +kernel
/-- R533: BL to the absolute address 0x0100_0000; word 1 stands in the upper half. -/
theorem test_word_long : decodeTableWord 64 0x01000000FC000019 = some (.bl { core := 0 } 0 (.abs 0x01000000)) := by decide +kernel
/-- R513: FN 0x35 is not listed; LD with SIZE 3 is reserved. -/
theorem test_word_illegal : decodeTableWord 32 0x00000035 = some (.nopInstruction { core := 0, bad := true }) ∧
    decodeTableWord 32 0x40496004 = some (.nopInstruction { core := 0, bad := true }) := by decide +kernel

/-- R599: C5 begins at 0x78_0000 of a bank, its body 0x1_0000 above. -/
theorem test_flash_place : (({} : Block).setCopy 1 5 { header := [0x43], body := [0x7A] }).flashByte 1 0x780000 = some 0x43 ∧
    (({} : Block).setCopy 1 5 { header := [0x43], body := [0x7A] }).flashByte 1 0x790000 = some 0x7A := by decide +kernel

/-- R523: DIVS of the most negative number by −1. -/
theorem test_divide : (Alu.divs 0x80000000 0xFFFFFFFF).1 = 0x80000000 := by decide

end
end

section
/-! PROOFS. Reset leaves nothing undone; a wake from Still whose root keys fail to load while their event source is of class F
ends in a SoC reset and not in the wake sequence. -/
namespace Sys2Proof.Machine

/-! ### Reset -/

/-- A register of the block after reset holds its reset word: no register is listed. -/
theorem rd_reset (r : Reg) (n : Nat) : State.reset.blk.rd r n = r.rst n := rfl

/-- Every core is OFF after reset (R510). -/
theorem coreState_reset (c : Nat) : State.reset.blk.coreState c = 0 := by
  rw [Block.coreState, Block.getF, rd_reset]
  change bits 0 2 0 = 0
  decide

/-- After reset nothing is due, and no core waits that a line could wake. -/
theorem rested_reset : State.reset.blk.Rested := by
  refine ⟨rfl, fun c _ hwaits => ?_⟩
  rw [coreState_reset] at hwaits
  exact absurd hwaits (by decide)

/-- Settles O60: each part is read off the empty tables of the reset state. -/
theorem resetLeavesNothingUndone : Obligations.ResetLeavesNothingUndone := by
  unfold Obligations.ResetLeavesNothingUndone
  exact ⟨rfl, rested_reset, rfl, fun _ => rfl, rd_reset⟩

/-! ### A wake that ends in a SoC reset -/

theorem exec_wakeRecognised (src : Fin 45) (phase : Fin 3) (seen : WakeSeen) (rk : Fin 16) (s : State) :
    exec (.wakeRecognised src phase seen rk) s = .next { s with blk := (s.blk.wakeSource src phase seen rk).endCommand } := rfl

/-- The module in Still, every register at its reset word but CATCH_SRC[239]: the source of a failed load of root keys (EV239,
R540, R560) is of class F, so that its occurrence resets the SoC (R309). -/
def fatalRootKeyStill : Block :=
  { regs := [(R.CATCH_SRC.at 239, 2)], pw := { inReset := .none, still := .still } }

/-- The ignition (source 28, R66) meets there every premise of the statements about WAKE_RECOGNISED. -/
theorem fatalRootKeyStill_premises :
    (decide ((28 : Fin 45).val < 16) &&
      !((Tab.get none fatalRootKeyStill.pw.diWake (28 : Fin 45)).all fun w => Block.diWakes w 0 0 false)) = false ∧
    ((Block.wakeCh (28 : Fin 45)).all fun c => !((fatalRootKeyStill.detect c .nothing).2 == 0)) = true ∧
    fatalRootKeyStill.catchm.due = [] ∧ fatalRootKeyStill.pw.still = .still ∧ fatalRootKeyStill.pw.gaugeOff = false ∧
    fatalRootKeyStill.wakeEnabled (28 : Fin 45) = true ∧ fatalRootKeyStill.wakeArmed (28 : Fin 45) = true ∧
    (List.range 8).all (fun n => fatalRootKeyStill.chState n == Ch.disabled) = true := by
  decide +kernel

/-- With the parity of RK0 bad, the power good of PD10 raises EV239 in the middle of the wake, and the SoC reset that this
begins has left the wake sequence (R9, R81) when the command ends. -/
theorem fatalRootKeyStill_wake_awake :
    (fatalRootKeyStill.wakeSource (28 : Fin 45) (0 : Fin 3) {} (1 : Fin 16)).endCommand.pw.still = .awake := by
  decide +kernel

/-- So no outcome of that wake is in the wake sequence. -/
theorem fatalRootKeyStill_not_waking (t : State)
    (h : exec (.wakeRecognised 28 0 {} 1) { blk := fatalRootKeyStill } = .next t) : t.blk.pw.still ≠ .waking := by
  rw [exec_wakeRecognised] at h
  rw [← Host.Outcome.next.inj h]
  dsimp only
  rw [fatalRootKeyStill_wake_awake]
  decide

/-- Refutes O24: the clause of WAKE_RECOGNISED does not ask that the catchment only records (`Tame`), and in
`fatalRootKeyStill` a failed load of RK0 turns the wake into a SoC reset. -/
theorem not_resetsAndStill : ¬ Obligations.ResetsAndStill := by
  unfold Obligations.ResetsAndStill
  intro h
  obtain ⟨-, -, -, -, -, -, -, hwake, -⟩ := h
  obtain ⟨hinput, hnet, hdue, hstill, hwatch, henabled, harmed, hoff⟩ := fatalRootKeyStill_premises
  obtain ⟨t, ht, -, hwaking, -⟩ :=
    hwake { blk := fatalRootKeyStill } 28 0 {} 1 hinput hnet hdue hstill hwatch henabled harmed hoff
  exact fatalRootKeyStill_not_waking t ht hwaking

/-- Refutes O57: its clause of WAKE_RECOGNISED has the premises of O24's, and fails in the same state. -/
theorem not_supplyAndRegisterCommandsComplete : ¬ Obligations.SupplyAndRegisterCommandsComplete := by
  unfold Obligations.SupplyAndRegisterCommandsComplete
  intro h
  obtain ⟨-, -, -, -, -, -, -, hwake, -⟩ := h
  obtain ⟨hinput, hnet, hdue, hstill, hwatch, henabled, harmed, hoff⟩ := fatalRootKeyStill_premises
  obtain ⟨t, ht, -, hwaking, -⟩ :=
    hwake { blk := fatalRootKeyStill } 28 0 {} 1 hinput hnet hdue hstill hwatch henabled harmed hoff
  exact fatalRootKeyStill_not_waking t ht hwaking

end Sys2Proof.Machine
end

section
/-! PROOFS. A real-time alarm tick at which a pending load takes effect has another count than the alarm's, and raises
nothing; a single-core reset clears the registers of its core, which a frame without any part denies. -/
namespace Sys2Proof.Machine

/-! ### The tick of RTC_ALARM with a load pending -/

theorem exec_rtcAlarm (count : BitVec 48) (phase : Fin 3) (rk : Fin 16) (s : State) :
    exec (.rtcAlarm count phase rk) s = s.act fun b => b.rtcAlarmTick count.toNat phase rk := rfl

/-- A pending load gives the count of the tick (R97); where that is not the alarm, the tick is none of RTC_ALARM. -/
theorem Block.rtcAlarmTick_of_load {b : Block} {hi : Nat} (count phase rk : Nat) (hload : b.pw.rtcLoad = some hi)
    (hne : hi * 2 ^ 32 + b.pw.rtcStage.getD (count % 2 ^ 32) ≠ b.rtcAlarm) : b.rtcAlarmTick count phase rk = b := by
  simp only [Block.rtcAlarmTick, hload, Option.map_some, Option.getD_some, whenB, hne, decide_false,
    Bool.false_eq_true, if_false]

/-- So RTC_ALARM leaves a ready state as it is, whatever count it is given. -/
theorem exec_rtcAlarm_of_load {s : State} {hi : Nat} (count : BitVec 48) (phase : Fin 3) (rk : Fin 16)
    (hready : s.blk.Ready) (hload : s.blk.pw.rtcLoad = some hi)
    (hne : hi * 2 ^ 32 + s.blk.pw.rtcStage.getD (count.toNat % 2 ^ 32) ≠ s.blk.rtcAlarm) :
    exec (.rtcAlarm count phase rk) s = .next s := by
  have heffect := Block.rtcAlarmTick_of_load count.toNat phase rk hload hne
  rw [exec_rtcAlarm, State.act_calm _ s (by rw [heffect]; exact hready.1), heffect]

/-- The bench after a write of 1 to PWR_RTC[1] (RTC_HIGH_WRITE): a load of 2 ^ 32 waits for the next tick. -/
def loadingBench : Block := bench.rtcHigh 1

theorem loadingBench_ready : loadingBench.Ready := ready_congr (b := bench) bench_ready rfl rfl rfl

/-- Refutes O22: the clause of RTC_ALARM does not ask that no load is pending. In `loadingBench` the count given is the
alarm, 0, but the tick loads 2 ^ 32 (R97): there is no equality, and EV3 is not raised. -/
theorem not_suppliesAndClocks : ¬ Obligations.SuppliesAndClocks := by
  unfold Obligations.SuppliesAndClocks
  intro h
  obtain ⟨-, -, -, -, -, -, -, -, -, -, -, -, -, -, -, halarm, -⟩ := h
  obtain ⟨t, ht, -, -, hev⟩ := halarm { blk := loadingBench } 0 0 0 loadingBench_ready (by decide +kernel)
  rw [exec_rtcAlarm_of_load 0 0 0 loadingBench_ready (hi := 1) rfl (by decide +kernel)] at ht
  rw [← Host.Outcome.next.inj ht] at hev
  exact absurd hev (by decide +kernel)

/-! ### The core of a single-core reset -/

theorem exec_hepCrstWrite (who : Who) (w : Word) (s : State) :
    exec (.hepCrstWrite who w) s = s.act fun b => b.gateSup who (R.HEP_CRST.at 0) (Block.crstWrite w.toNat) := rfl

/-- A core that a frame does not list keeps its program counter: recorded occurrences change pending sources only. -/
theorem Block.Beside.hc_pc {l : List Nat} {ps : List Part} {o b : Block} (h : o.Beside l ps b) {c : Nat}
    (hc : .core c ∉ ps) : (b.hc c).pc = (o.hc c).pc := by
  have hsame : b.hc c = { o.hc c with irq := (b.hc c).irq } := h.2 (.core c) hc
  rw [hsame]

/-- The bench with HC3 in RUN behind its first instruction. -/
def runningHc3 : Block := (bench.setF F.HEP_STAT_STATE 3 2).updHc 3 fun h => { h with pc := 4 }

theorem runningHc3_ready : runningHc3.Ready :=
  ready_congr (b := bench.setF F.HEP_STAT_STATE 3 2) (ready_core _ 3 2 (by decide) (by decide) bench_ready) rfl rfl rfl

/-- HC0 writes the key and the number of HC3 to HEP_CRST: HC3 is HELD with its registers at their reset values (R509, R512). -/
theorem runningHc3_reset_pc :
    ((runningHc3.gateSup (.core 0) (R.HEP_CRST.at 0) (Block.crstWrite 0x5C0E0003)).endCommand.hc 3).pc = 0 := by
  decide +kernel

/-- Refutes O23: the frame of the clause of HEP_CRST_WRITE has no part, not even the core that is reset. In `runningHc3`
the reset takes the program counter of HC3 from 4 to 0. -/
theorem not_domainsAndCores : ¬ Obligations.DomainsAndCores := by
  unfold Obligations.DomainsAndCores
  intro h
  obtain ⟨-, -, -, -, -, -, -, -, -, hreset, -⟩ := h
  obtain ⟨t, ht, -, -, -, hframe⟩ := hreset { blk := runningHc3 } 0 0x5C0E0003 runningHc3_ready (by decide +kernel)
    (by decide) (by decide) (by decide) (by decide +kernel) (by decide +kernel)
  have hpc : (t.blk.hc 3).pc = (4 : Word) := hframe.hc_pc (c := 3) List.not_mem_nil
  rw [exec_hepCrstWrite] at ht
  rw [State.act_blk _ _ t ht] at hpc
  exact absurd (runningHc3_reset_pc.symm.trans hpc) (by decide)

end Sys2Proof.Machine
end

section
/-! PROOFS. Statements of the power channels and the weir that do not hold in every state: the off-state check leaves out an
output whose last period still runs; of two completions for one descriptor source the one that waits at another port counts
as the last; a group member beyond HS95 names a half-bridge; and HOLD freezes a fade of any number. -/
namespace Sys2Proof.Machine

/-! ### The off-state check while a period runs -/

theorem exec_offStateCheck (p : Fin 128) (v1 v2 : Bool) (s : State) :
    exec (.offStateCheck p v1 v2) s = s.act fun b => b.offAny p v1 v2 := rfl

/-- The check is one of the DC off state (R121): an output that is on, if only by a period that still runs (R106), goes
unchecked. -/
theorem Block.offCheck_of_carries {b : Block} {p : Nat} (v1 v2 : Bool) (h : b.carries p = true) :
    b.offCheck p v1 v2 = b := by
  simp [offCheck, h]

theorem exec_offStateCheck_of_carries {s : State} {p : Fin 128} (v1 v2 : Bool) (hready : s.blk.Ready) (hp : p.val < 112)
    (h : s.blk.carries p = true) : exec (.offStateCheck p v1 v2) s = .next s := by
  have heffect : s.blk.offAny p v1 v2 = s.blk := by
    rw [Block.offAny, if_pos hp, Block.offCheck_of_carries v1 v2 h]
  rw [exec_offStateCheck, State.act_calm _ s (by rw [heffect]; exact hready.1), heffect]

/-- HS0 has been commanded off in the middle of a period of DUTY 32,768, which is not cut short (R106). -/
def lastPeriodBench : Block :=
  { bench.setF F.HSW_STAT_STATE 0 Ch.off with chan := [(0, { duty := 32768, onTicks := 16000, offTicks := 16000 })] }

theorem lastPeriodBench_ready : lastPeriodBench.Ready :=
  ready_congr (b := bench.setF F.HSW_STAT_STATE 0 Ch.off) (ready_setF _ F.HSW_STAT_STATE 0 Ch.off (by decide) bench_ready)
    rfl rfl rfl

/-- Refutes O3: the clause of OFF_STATE_CHECK asks that the output does not conduct by its state and command, but not that
no period runs. In `lastPeriodBench` HS0 is OFF while its last period runs on: it goes unchecked, and OLMETH stays 3. -/
theorem not_channelProtection : ¬ Obligations.ChannelProtection := by
  unfold Obligations.ChannelProtection
  intro h
  obtain ⟨-, -, -, -, -, -, -, -, -, -, -, -, -, hcheck⟩ := h
  obtain ⟨t, ht, -, ⟨hmeth, -, -⟩, -⟩ := hcheck { blk := lastPeriodBench } 0 false lastPeriodBench_ready (by decide)
    (by decide +kernel) (by decide +kernel) (by decide +kernel) (by decide +kernel)
  rw [exec_offStateCheck_of_carries false false lastPeriodBench_ready (by decide) (by decide +kernel)] at ht
  rw [← Host.Outcome.next.inj ht] at hmeth
  exact absurd hmeth (by decide +kernel)

/-! ### Two completions for one source at two ports -/

theorem exec_hsClear (d : Desc) (s : State) : exec (.hsClear d) s = s.act fun b => runDesc d Block.hsClear b := rfl

/-- A descriptor of another node that writes no cipher output is answered by the outcome of the last completion to its source
(R437). -/
theorem Block.answered_of_node {b : Block} {d : Desc} {n q : Fin 64} {c : Compl} {ok : Compl → Bool}
    (hsrc : d.src = .node n q) (hop : ¬ (0x90 ≤ d.opcode ∧ d.opcode ≤ 0x95)) (hc : b.outcomeTo n q = some c) :
    b.answered d ok = ok { c with addr := none } := by
  rw [answered, hsrc]
  simp [hc, hop]

/-- HS_CLEAR for the lock of HS5 from queue 2 of node 1. -/
def clearLockDesc : Desc := { src := .node 1 2, dws := [0x12, 0, 0, 0, 0, 0x20, 0, 0, 1], payload := [] }

/-- An earlier completion for queue 2 of node 1, with BUSY, waits at CHA for a buffer of the neighbour (R428); since then the
way to node 1 has become CHB (R429). -/
def waitingComplBench : Block :=
  { bench with chn := { bench.chn with links := [(1,
      { credits := 0, queue := [{ typ := Fr.cpl, dst := 1, src := 0, tid := 2, len := 4, data := [7, 0, 0, 0] }] })] } }

theorem waitingComplBench_ready : waitingComplBench.Ready := ready_congr (b := bench) bench_ready rfl rfl rfl

/-- The completion of the HS_CLEAR goes out of CHB at once, and the one that waits at CHA stands behind it. -/
theorem waitingComplBench_outcome :
    (runDesc clearLockDesc Block.hsClear waitingComplBench).endCommand.outcomeTo (1 : Fin 64) (2 : Fin 64) =
      some { status := St.busy } := by
  decide +kernel

/-- Refutes O2: the clause of HS_CLEAR takes the outcome from the last completion to the source of the descriptor, and counts
the frames that wait at a port after those that have gone out. In `waitingComplBench` that is an earlier one, with BUSY. -/
theorem not_switchDescriptors : ¬ Obligations.SwitchDescriptors := by
  unfold Obligations.SwitchDescriptors
  intro h
  obtain ⟨-, -, -, -, -, -, -, -, hclear, -⟩ := h
  obtain ⟨t, ht, -, ⟨hanswered, -, -⟩, -⟩ := hclear { blk := waitingComplBench } clearLockDesc waitingComplBench_ready
    ⟨fun direct => by cases direct <;> decide +kernel, by decide +kernel⟩ (by decide +kernel) (by decide +kernel)
    (by decide +kernel)
  rw [exec_hsClear] at ht
  have hlast : t.blk.outcomeTo (1 : Fin 64) (2 : Fin 64) = some { status := St.busy } := by
    rw [State.act_blk _ _ t ht]
    exact waitingComplBench_outcome
  rw [Block.answered_of_node rfl (by decide) hlast] at hanswered
  exact absurd hanswered (by decide)

/-! ### A group member beyond HS95 -/

theorem exec_hsDisable (who : Who) (n : Fin 96) (s : State) :
    exec (.hsDisable who n) s = s.act fun b => b.gate who (R.HSW_CFG.at n) (Block.chDisable n) := rfl

/-- A field of a register that a frame does not list keeps its value, unless recorded occurrences change the register. -/
theorem Block.Beside.getF_eq {l : List Nat} {ps : List Part} {o b : Block} (h : o.Beside l ps b) {f : RegField} {n : Nat}
    (hl : f.reg.at n ∉ l) (hr : recordReg (f.reg.at n) = false) : b.getF f n = o.getF f n := by
  rw [Block.getF, Block.rd, h.1 _ _ hl hr, Block.getF, Block.rd]

/-- HS0, HS1 and 100, the number of HB4, are the members of the enabled group 0, and OUT of HB4 is DRIVE. No write enables a
group with a member beyond HS95 (R223), but the premises of HS_DISABLE do not exclude one. -/
def wideGroupBench : Block :=
  ((bench.wr R.LMP_GRP 0 (100 * 2 ^ 16 + 1 * 2 ^ 8 + 2 ^ 24)).setF F.LMP_CFG_INGRP 0 1).setF F.HB_CMD_OUT 4 1

theorem wideGroupBench_ready : wideGroupBench.Ready :=
  ready_setF _ F.HB_CMD_OUT 4 1 (by decide) (ready_setF _ F.LMP_CFG_INGRP 0 1 (by decide)
    (ready_wr _ R.LMP_GRP 0 _ (by decide) bench_ready))

/-- HS_DISABLE for HS0 gives every member of its group the command 0, HB4 too. -/
theorem wideGroupBench_disable_out :
    (wideGroupBench.gate .host (R.HSW_CFG.at (0 : Fin 96)) (Block.chDisable (0 : Fin 96))).endCommand.getF F.HB_CMD_OUT 4 = 0 := by
  decide +kernel

/-- Refutes O1: the frame of the clause of HS_DISABLE lists no register of the half-bridges, and its premises do not say that
the members of a group are HS channels. In `wideGroupBench` OUT of HB4 goes from 1 to 0. -/
theorem not_channelConfiguration : ¬ Obligations.ChannelConfiguration := by
  unfold Obligations.ChannelConfiguration
  intro h
  obtain ⟨-, hdisable, -⟩ := h
  obtain ⟨t, ht, -, -, -, -, -, hframe⟩ := hdisable { blk := wideGroupBench } .host 0 wideGroupBench_ready
    (by decide +kernel) (by decide +kernel)
  have hout : t.blk.getF F.HB_CMD_OUT 4 = wideGroupBench.getF F.HB_CMD_OUT 4 :=
    hframe.getF_eq (by decide +kernel) (by decide)
  rw [exec_hsDisable] at ht
  rw [State.act_blk _ _ t ht, wideGroupBench_disable_out] at hout
  exact absurd hout (by decide +kernel)

/-! ### A fade beyond the groups -/

theorem exec_weirWindowExpiry (s : State) : exec .weirWindowExpiry s = s.act Block.windowExpiry := rfl

/-- The weir is ARMED while a fade with the number 112, one beyond group 15, runs: a takeover starts it where the shadow
holds a record of that number (`lampTakeover`), and nothing limits the numbers in a snapshot (R635, R638). -/
def strayFadeBench : Block :=
  { bench.setF F.WEIR_STAT_STATE 0 1 with
    lmp := { fade := [(112, some { start := [0], target := [65536], total := 1000, started := true })] } }

theorem strayFadeBench_ready : strayFadeBench.Ready :=
  ready_congr (b := bench.setF F.WEIR_STAT_STATE 0 1) (ready_setF _ F.WEIR_STAT_STATE 0 1 (by decide) bench_ready)
    rfl rfl rfl

/-- HOLD freezes every fade that exists (R226). -/
theorem strayFadeBench_hold_frozen :
    (strayFadeBench.windowExpiry.endCommand.fadeOf 112).map Fade.frozen = some true := by
  decide +kernel

/-- Refutes O4: the frame of the clause of WEIR_WINDOW_EXPIRY lists the fades up to 111, and HOLD freezes every fade of the
table. In `strayFadeBench` fade 112 changes. -/
theorem not_weirStates : ¬ Obligations.WeirStates := by
  unfold Obligations.WeirStates
  intro h
  obtain ⟨-, -, -, hexpiry, -⟩ := h
  obtain ⟨t, ht, -, -, -, -, -, hframe⟩ := hexpiry { blk := strayFadeBench } strayFadeBench_ready (by decide +kernel)
  have hfade : t.blk.fadeOf 112 = strayFadeBench.fadeOf 112 := hframe.2 (.fade 112) (by decide +kernel)
  have hfrozen : (t.blk.fadeOf 112).map Fade.frozen = some true := by
    rw [exec_weirWindowExpiry] at ht
    rw [State.act_blk _ _ t ht]
    exact strayFadeBench_hold_frozen
  rw [hfade] at hfrozen
  exact absurd hfrozen (by decide +kernel)

end Sys2Proof.Machine
end

section
/-! PROOFS. The functions of a full bridge: the ends of its brakes, park, ripples, pinch and lock pulses each drive it in a
direction, which changes its own record and status and the commands, states and outputs of its two halves. -/
namespace Sys2Proof.Machine

/-! ### What an update stays within -/

/-- Block b differs from a at most in these registers, in these parts and in what recorded occurrences change, and nothing
more is due at the end of the command. -/
structure Block.Within (l : List Nat) (ps : List Part) (a b : Block) : Prop where
  beside : a.Beside l ps b
  due : b.catchm.due = a.catchm.due

theorem recordReg_catchSrc {e : Nat} (he : e < 256) : recordReg (R.CATCH_SRC.at e) = false := by
  have hat : R.CATCH_SRC.at e = 0x2400 + 4 * e := by
    simp only [Reg.at, R.CATCH_SRC]
    rw [Nat.div_eq_of_lt he, Nat.mod_eq_of_lt he]
    omega
  rw [hat]
  simp [recordReg]
  omega

theorem recordReg_hepStat {c : Nat} (hc : c < 15) : recordReg (R.HEP_STAT.at c) = false := by
  rw [hepStat_at c hc]
  simp [recordReg]
  omega

namespace Block

theorem raiseOpen_within (e : Nat) (b : Block) (htame : b.Tame) (he : e < 256) : b.Within [] [] (b.raiseOpen e) := by
  have hrecorded : Recorded b.fresh.2 (b.raiseOpen e) := raiseAll_recorded _ _ b.fresh.2 htame (by simpa using he)
  exact ⟨(beside_fresh b [] []).trans ⟨fun d o _ hr => hrecorded.regs d o hr, fun p _ => hrecorded.part p⟩, hrecorded.due⟩

namespace Within

variable {l m : List Nat} {ps qs : List Part} {a b c : Block}

theorem refl (b : Block) : b.Within l ps b := ⟨.refl l ps b, rfl⟩

theorem trans (h : a.Within l ps b) (k : b.Within l ps c) : a.Within l ps c :=
  ⟨h.beside.trans k.beside, k.due.trans h.due⟩

theorem mono (h : a.Within l ps b) (hl : l ⊆ m) (hp : ps ⊆ qs) : a.Within m qs b :=
  ⟨h.beside.mono (fun _ hx => hl hx) (fun _ hx => hp hx), h.due⟩

theorem ite (p : Prop) [Decidable p] (h : a.Within l ps b) (k : a.Within l ps c) : a.Within l ps (if p then b else c) := by
  split
  · exact h
  · exact k

theorem setF (b : Block) (f : RegField) (n v : Nat) (h : f.reg.at n ∈ l) : b.Within l ps (b.setF f n v) :=
  ⟨beside_setF b f n v ps h, rfl⟩

theorem updCh (b : Block) (p : Nat) (f : PowerChan → PowerChan) (h : .chan p ∈ ps) : b.Within l ps (b.updCh p f) :=
  ⟨beside_updCh b p f l h, rfl⟩

theorem updFb (b : Block) (k : Nat) (f : FullBridge → FullBridge) (h : .fb k ∈ ps) : b.Within l ps (b.updFb k f) :=
  ⟨beside_updFb b k f l h, rfl⟩

theorem getF_eq (h : a.Within l ps b) {f : RegField} {n : Nat} (hl : f.reg.at n ∉ l) (hr : recordReg (f.reg.at n) = false) :
    b.getF f n = a.getF f n := h.beside.getF_eq hl hr

theorem fbr_eq (h : a.Within l ps b) {k : Nat} (hp : .fb k ∉ ps) : b.fbr k = a.fbr k := h.beside.2 (.fb k) hp

/-- An update that leaves CATCH_SRC alone leaves a catchment that only records. -/
theorem tame (h : a.Within l ps b) (hl : ∀ x ∈ l, readyReg x = false) (ht : a.Tame) : b.Tame := by
  intro e he
  have hnot : R.CATCH_SRC.at e ∉ l := fun hx => absurd (hl _ hx) (by simp [readyReg_src e he])
  have hrec := recordReg_catchSrc he
  rw [h.getF_eq (f := F.CATCH_SRC_CLASS) hnot hrec, h.getF_eq (f := F.CATCH_SRC_ACT) hnot hrec]
  exact ht e he

/-- An update that leaves the power unit, GAUGE_STAT and HEP_STAT alone leaves nothing to carry out. -/
theorem calm (h : a.Within l ps b) (hl : ∀ x ∈ l, readyReg x = false) (hps : .pw ∉ ps) (hc : a.Calm) : b.Calm := by
  obtain ⟨hdue, hoff, hgauge, hcores⟩ := hc
  have hpw : b.pw = a.pw := h.beside.2 .pw hps
  have hnot : ∀ x, readyReg x = true → x ∉ l := fun x hx hmem => by simp [hl x hmem] at hx
  refine ⟨by rw [h.due, hdue], by rw [hpw, hoff], ?_, fun c hc => ?_⟩
  · rw [h.getF_eq (hnot _ (by decide)) (by decide), hgauge]
  · rw [coreState, h.getF_eq (f := F.HEP_STAT_STATE) (hnot _ (readyReg_stat c hc)) (recordReg_hepStat hc)]
    exact hcores c hc

end Within

end Block

/-- A command that stays within registers and parts that `Calm` does not read completes with its effect. -/
theorem completes_of_within {c : Instr} {s : State} {f : Block → Block} {E : Block → Prop} {l : List Nat} {ps : List Part}
    (hx : exec c s = s.act f) (hready : s.blk.Ready) (hw : s.blk.Within l ps (f s.blk)) (hl : ∀ x ∈ l, readyReg x = false)
    (hps : .pw ∉ ps) (he : E (f s.blk)) : Completes c s E :=
  completes_of_act c s f E hx (hw.calm hl hps hready.1) he

namespace Block

/-! ### The registers and parts of a full bridge -/

/-- HB_CMD and HB_STAT of the halves of full bridge k. -/
def halfRegs (k : Nat) : List Nat := R.HB_CMD.pair (2 * k) ++ R.HB_STAT.pair (2 * k)

/-- With HB_FBSTAT of the bridge. -/
def bridgeRegs (k : Nat) : List Nat := [R.HB_FBSTAT.at k] ++ R.HB_CMD.pair (2 * k) ++ R.HB_STAT.pair (2 * k)

/-- With HB_WINPOS of the bridge, too. -/
def windowRegs (k : Nat) : List Nat := [R.HB_FBSTAT.at k, R.HB_WINPOS.at k] ++ R.HB_CMD.pair (2 * k) ++ R.HB_STAT.pair (2 * k)

/-- The record of the bridge and the channels. -/
def bridgeParts (k : Nat) : List Part := [Part.fb k] ++ Part.chans

theorem halfRegs_subset_bridgeRegs (k : Nat) : halfRegs k ⊆ bridgeRegs k := by
  intro x hx
  simp only [halfRegs, bridgeRegs, List.mem_append] at hx ⊢
  tauto

theorem bridgeRegs_subset_windowRegs (k : Nat) : bridgeRegs k ⊆ windowRegs k := by
  intro x hx
  simp only [bridgeRegs, windowRegs, List.mem_append, List.mem_cons] at hx ⊢
  tauto

theorem chans_subset_bridgeParts (k : Nat) : Part.chans ⊆ bridgeParts k := List.subset_append_right _ _

theorem fb_mem_bridgeParts (k : Nat) : .fb k ∈ bridgeParts k := by simp [bridgeParts]

theorem pw_not_mem_bridgeParts (k : Nat) : .pw ∉ bridgeParts k := by simp [bridgeParts, Part.chans]

theorem fb_not_mem_chans (k : Nat) : .fb k ∉ Part.chans := by simp [Part.chans]

theorem fbstat_mem_bridgeRegs (k : Nat) : R.HB_FBSTAT.at k ∈ bridgeRegs k := by simp [bridgeRegs]

theorem winpos_mem_windowRegs (k : Nat) : R.HB_WINPOS.at k ∈ windowRegs k := by simp [windowRegs]

/-- What is true of the registers of every one of the eight bridges. -/
theorem windowRegs_readyReg : ∀ k < 8, ∀ x ∈ windowRegs k, readyReg x = false := by decide

theorem bridgeRegs_readyReg {k : Nat} (hk : k < 8) : ∀ x ∈ bridgeRegs k, readyReg x = false :=
  fun x hx => windowRegs_readyReg k hk x (bridgeRegs_subset_windowRegs k hx)

theorem fbstat_not_mem_halfRegs : ∀ k < 8, R.HB_FBSTAT.at k ∉ halfRegs k := by decide

theorem winpos_not_mem_bridgeRegs : ∀ k < 8, R.HB_WINPOS.at k ∉ bridgeRegs k := by decide

theorem fbstat_ne_winpos : ∀ k < 8, R.HB_FBSTAT.at k ≠ R.HB_WINPOS.at k := by decide

theorem recordReg_fbstat : ∀ k < 8, recordReg (R.HB_FBSTAT.at k) = false := by decide

theorem recordReg_winpos : ∀ k < 8, recordReg (R.HB_WINPOS.at k) = false := by decide

/-! ### The halves of a full bridge -/

/-- Channel p is a half of full bridge k. -/
def IsHalf (k p : Nat) : Prop := p = 96 + 2 * k ∨ p = 96 + 2 * k + 1

theorem isHalf_even (k : Nat) : IsHalf k (96 + 2 * k) := .inl rfl

theorem isHalf_odd (k : Nat) : IsHalf k (96 + 2 * k + 1) := .inr rfl

/-- HB(2k) leads its bridge, and where the halves are not joined it leads itself. -/
theorem lead_even (b : Block) (k : Nat) : b.lead (96 + 2 * k) = 96 + 2 * k := by
  have heven : 96 + 2 * k - (96 + 2 * k) % 2 = 96 + 2 * k := by omega
  simp only [lead, heven, ite_self]

theorem IsHalf.chan_mem {k p : Nat} (h : IsHalf k p) (hk : k < 8) : .chan p ∈ Part.chans := by
  rcases h with rfl | rfl <;> exact List.mem_map_of_mem (List.mem_range.mpr (by omega))

theorem IsHalf.mem_pair {k p : Nat} (h : IsHalf k p) (r : Reg) : r.at (p - 96) ∈ r.pair (2 * k) := by
  rw [Reg.pair, Nat.mul_div_cancel_left k (by decide), Nat.mul_comm k 2]
  rcases h with rfl | rfl <;> simp [Nat.add_assoc]

theorem IsHalf.cmd_mem {k p : Nat} (h : IsHalf k p) : R.HB_CMD.at (p - 96) ∈ halfRegs k :=
  List.mem_append_left _ (h.mem_pair R.HB_CMD)

theorem IsHalf.stat_mem {k p : Nat} (h : IsHalf k p) : R.HB_STAT.at (p - 96) ∈ halfRegs k :=
  List.mem_append_right _ (h.mem_pair R.HB_STAT)

theorem IsHalf.isHb {k p : Nat} (h : IsHalf k p) : isHb p = true := by
  rcases h with rfl | rfl <;> simp [Machine.isHb, Nat.add_assoc]

section Halves

variable {k p : Nat} (b : Block)

theorem cset_stat_within (f : ChField) (h : IsHalf k p) (hf : f.hb.reg = R.HB_STAT) (v : Nat) :
    b.Within (halfRegs k) Part.chans (b.cset f p v) := by
  rw [cset, if_pos h.isHb]
  exact .setF b f.hb _ v (hf ▸ h.stat_mem)

theorem updCh_half_within (h : IsHalf k p) (hk : k < 8) (f : PowerChan → PowerChan) :
    b.Within (halfRegs k) Part.chans (b.updCh p f) := .updCh b p f (h.chan_mem hk)

theorem setCmd_within (h : IsHalf k p) (hk : k < 8) (out duty : Nat) :
    b.Within (halfRegs k) Part.chans (b.setCmd p out duty) := by
  simp only [setCmd, cset, h.isHb, if_true]
  exact ((Within.setF b F.HB_CMD_DUTY _ duty h.cmd_mem).trans (.setF _ F.HB_CMD_OUT _ out h.cmd_mem)).trans
    (updCh_half_within _ h hk _)

/-- An update of each half stays within the bridge where that of one half does. -/
theorem onPair_within {f : Nat → Block → Block}
    (hf : ∀ q (b : Block), IsHalf k q → b.Within (halfRegs k) Part.chans (f q b)) :
    b.Within (halfRegs k) Part.chans (b.onPair (96 + 2 * k) f) := by
  simp only [onPair, lead_even]
  split
  · exact (hf _ b (isHalf_even k)).trans (hf _ _ (isHalf_odd k))
  · exact hf _ b (isHalf_even k)

theorem setChState_within (v : Nat) : b.Within (halfRegs k) Part.chans (b.setChState (96 + 2 * k) v) :=
  onPair_within b fun _ b hq => cset_stat_within b C.state hq rfl v

theorem takeDuty_within (hk : k < 8) : b.Within (halfRegs k) Part.chans (b.takeDuty (96 + 2 * k)) :=
  onPair_within b fun _ b hq => .ite _ (updCh_half_within b hq hk _) (.refl b)

theorem setChState_takeDuty_within (hk : k < 8) (v : Nat) :
    b.Within (halfRegs k) Part.chans ((b.setChState (96 + 2 * k) v).takeDuty (96 + 2 * k)) :=
  (setChState_within b v).trans (takeDuty_within _ hk)

theorem turnOn_within (hk : k < 8) : b.Within (halfRegs k) Part.chans (b.turnOn (96 + 2 * k)) :=
  .ite _ (setChState_within b _) (setChState_takeDuty_within b hk _)

theorem matchState_within (hk : k < 8) : b.Within (halfRegs k) Part.chans (b.matchState (96 + 2 * k)) :=
  .ite _ (setChState_within b _) (.ite _ (setChState_within b _) (.ite _ (setChState_within b _)
    (.ite _ (setChState_within b _) (turnOn_within b hk))))

theorem tryRestart_within (hk : k < 8) : b.Within (halfRegs k) Part.chans (b.tryRestart (96 + 2 * k)) := by
  have hdec : ∀ b : Block, b.Within (halfRegs k) Part.chans
      (b.onPair (96 + 2 * k) fun q b => b.cset C.retryLeft q (b.cget C.retryLeft (96 + 2 * k) - 1)) :=
    fun b => onPair_within b fun _ b hq => cset_stat_within b C.retryLeft hq rfl _
  simp only [tryRestart, lead_even]
  refine .ite _ (.refl b) (.ite _ (.ite _ ?_ (.ite _ ?_ (.refl b))) (.ite _ ?_ (.refl b)))
  · exact (Within.ite _ (hdec b) (.refl b)).trans (setChState_takeDuty_within _ hk _)
  · exact (hdec b).trans (turnOn_within _ hk)
  · exact (hdec b).trans (takeDuty_within _ hk)

theorem commandActs_within (hk : k < 8) : b.Within (halfRegs k) Part.chans (b.commandActs (96 + 2 * k)) := by
  refine .ite _ (.refl b) (.ite _ (takeDuty_within b hk) (.ite _ (.ite _ ?_ (.ite _ ?_ ?_)) ?_))
  · exact (matchState_within b hk).trans (takeDuty_within _ hk)
  · exact tryRestart_within b hk
  · exact takeDuty_within b hk
  · exact setChState_takeDuty_within b hk _

end Halves

/-! ### Driving a full bridge in a direction -/

section Directions

variable {k : Nat} (b : Block)

/-- Once the direction stands in HB_FBSTAT and in the record of the bridge, driving it changes its halves only. -/
theorem driveNow_halves (hk : k < 8) (dir duty : Nat) :
    ((b.setF F.HB_FBSTAT_DIR k dir).updFb k fun f => { f with lastDir := if dir = 3 then f.lastDir else dir }).Within
      (halfRegs k) Part.chans (b.driveNow k dir duty) := by
  unfold driveNow
  exact ((setCmd_within _ (isHalf_even k) hk _ _).trans (setCmd_within _ (isHalf_odd k) hk _ _)).trans (commandActs_within _ hk)

theorem updFb_within (f : FullBridge → FullBridge) : b.Within (bridgeRegs k) (bridgeParts k) (b.updFb k f) :=
  .updFb b k f (fb_mem_bridgeParts k)

theorem driveNow_within (hk : k < 8) (dir duty : Nat) :
    b.Within (bridgeRegs k) (bridgeParts k) (b.driveNow k dir duty) :=
  ((Within.setF b F.HB_FBSTAT_DIR k dir (fbstat_mem_bridgeRegs k)).trans (updFb_within _ _)).trans
    ((driveNow_halves b hk dir duty).mono (halfRegs_subset_bridgeRegs k) (chans_subset_bridgeParts k))

theorem driveNow_dir (hk : k < 8) {dir : Nat} (hdir : dir < 4) (duty : Nat) :
    (b.driveNow k dir duty).getF F.HB_FBSTAT_DIR k = dir := by
  rw [(driveNow_halves b hk dir duty).getF_eq (f := F.HB_FBSTAT_DIR) (fbstat_not_mem_halfRegs k hk) (recordReg_fbstat k hk),
    updFb_getF, getF_setF_same _ _ _ _ (by decide)]
  exact Nat.mod_eq_of_lt hdir

theorem driveNow_fbr (hk : k < 8) (dir duty : Nat) :
    (b.driveNow k dir duty).fbr k = { b.fbr k with lastDir := if dir = 3 then (b.fbr k).lastDir else dir } := by
  rw [(driveNow_halves b hk dir duty).fbr_eq (fb_not_mem_chans k), updFb_same]
  rfl

theorem setDir_within (hk : k < 8) (dir duty : Nat) : b.Within (bridgeRegs k) (bridgeParts k) (b.setDir k dir duty) := by
  have hduty := updFb_within (k := k) b fun f => { f with duty := duty }
  unfold setDir
  refine .ite _ ?_ (.ite _ ?_ ?_)
  · exact (hduty.trans (updFb_within _ _)).trans (driveNow_within _ hk _ _)
  · exact hduty.trans (updFb_within _ _)
  · exact (hduty.trans (updFb_within _ _)).trans (driveNow_within _ hk _ _)

/-- Nothing stands between full bridge k and direction dir: it is no change between FWD and REV, and no brake of 2 ms waits to
end in FWD or REV (R163). -/
def TurnsAtOnce (b : Block) (k dir : Nat) : Prop :=
  ¬(((b.fbr k).lastDir = 1 ∧ dir = 2) ∨ ((b.fbr k).lastDir = 2 ∧ dir = 1)) ∧
    ((b.fbr k).next = none ∨ ¬(dir = 1 ∨ dir = 2))

/-- A bridge coasts and brakes at once. -/
theorem turnsAtOnce_of_rest (k : Nat) {dir : Nat} (hdir : ¬(dir = 1 ∨ dir = 2)) : b.TurnsAtOnce k dir :=
  ⟨by tauto, .inr hdir⟩

theorem setDir_of_turnsAtOnce {dir : Nat} (h : b.TurnsAtOnce k dir) (duty : Nat) :
    b.setDir k dir duty =
      ((b.updFb k fun f => { f with duty := duty }).updFb k fun f => { f with next := none }).driveNow k dir duty := by
  obtain ⟨hturn, hbrake⟩ := h
  rw [setDir, updFb_same, if_neg hturn, if_neg]
  rintro ⟨hsome, hdir⟩
  rcases hbrake with hnone | hrest
  · simp [hnone] at hsome
  · exact hrest hdir

theorem setDir_dir (hk : k < 8) {dir : Nat} (hdir : dir < 4) (h : b.TurnsAtOnce k dir) (duty : Nat) :
    (b.setDir k dir duty).getF F.HB_FBSTAT_DIR k = dir := by
  rw [setDir_of_turnsAtOnce b h, driveNow_dir _ hk hdir]

theorem setDir_fbr (hk : k < 8) {dir : Nat} (h : b.TurnsAtOnce k dir) (duty : Nat) :
    (b.setDir k dir duty).fbr k = { b.fbr k with
      duty := duty, next := none, lastDir := if dir = 3 then (b.fbr k).lastDir else dir } := by
  rw [setDir_of_turnsAtOnce b h, driveNow_fbr _ hk, updFb_same, updFb_same]

theorem fbCoast_within (hk : k < 8) : b.Within (bridgeRegs k) (bridgeParts k) (b.fbCoast k) :=
  (updFb_within b _).trans (setDir_within _ hk 0 0)

theorem fbCoast_dir (hk : k < 8) : (b.fbCoast k).getF F.HB_FBSTAT_DIR k = 0 :=
  setDir_dir _ hk (by decide) (turnsAtOnce_of_rest _ k (by decide)) 0

theorem fbCoast_phase (hk : k < 8) : ((b.fbCoast k).fbr k).phase = .idle := by
  rw [fbCoast, setDir_fbr _ hk (turnsAtOnce_of_rest _ k (by decide)), updFb_same]

end Directions

/-! ### The function bits of HB_FBSTAT -/

section FunctionBits

variable {k : Nat} {f : RegField} {b : Block}

/-- A function bit that becomes 1 raises an occurrence, which changes only the record. -/
theorem fbStick_record (hk : k < 8) (hf : f.reg = R.HB_FBSTAT) (ht : b.Tame) (hclear : b.flag f k = false) :
    (b.setF f k 1).Within [] [] (b.fbStick f k) := by
  have htame : (b.setF f k 1).Tame :=
    (Within.setF (l := bridgeRegs k) (ps := []) b f k 1 (hf ▸ fbstat_mem_bridgeRegs k)).tame (bridgeRegs_readyReg hk) ht
  rw [fbStick, stick, if_neg (by simp [hclear])]
  exact raiseOpen_within _ _ htame (by omega)

theorem fbStick_within (hk : k < 8) (hf : f.reg = R.HB_FBSTAT) (ht : b.Tame) :
    b.Within (bridgeRegs k) (bridgeParts k) (b.fbStick f k) := by
  cases hset : b.flag f k with
  | true =>
    rw [fbStick, stick, if_pos hset]
    exact .refl b
  | false =>
    exact (Within.setF b f k 1 (hf ▸ fbstat_mem_bridgeRegs k)).trans
      ((fbStick_record hk hf ht hset).mono (List.nil_subset _) (List.nil_subset _))

theorem fbStick_same (hk : k < 8) (hf : f.reg = R.HB_FBSTAT) (hbit : f.hi = f.lo) (ht : b.Tame) :
    (b.fbStick f k).getF f k = 1 := by
  cases hset : b.flag f k with
  | true =>
    rw [fbStick, stick, if_pos hset]
    simpa [flag] using hset
  | false =>
    rw [(fbStick_record hk hf ht hset).getF_eq List.not_mem_nil (hf ▸ recordReg_fbstat k hk),
      getF_setF_same _ _ _ _ hbit.ge, hbit, Nat.add_sub_cancel_left]
    rfl

theorem fbStick_dir (hk : k < 8) (hf : f.reg = R.HB_FBSTAT) (hbit : f.hi = f.lo) (habove : 1 < f.lo) (ht : b.Tame) :
    (b.fbStick f k).getF F.HB_FBSTAT_DIR k = b.getF F.HB_FBSTAT_DIR k := by
  cases hset : b.flag f k with
  | true => rw [fbStick, stick, if_pos hset]
  | false =>
    rw [(fbStick_record hk hf ht hset).getF_eq (f := F.HB_FBSTAT_DIR) List.not_mem_nil (recordReg_fbstat k hk)]
    exact getF_setF_beside b f F.HB_FBSTAT_DIR k 1 hf.symm hbit.ge (.inr habove)

theorem fbStick_fbr (hk : k < 8) (hf : f.reg = R.HB_FBSTAT) (ht : b.Tame) : (b.fbStick f k).fbr k = b.fbr k := by
  cases hset : b.flag f k with
  | true => rw [fbStick, stick, if_pos hset]
  | false => exact (fbStick_record hk hf ht hset).fbr_eq List.not_mem_nil

end FunctionBits

/-- A wiper that coasts and sets a function bit (R166). -/
theorem coastStick_effect {k : Nat} {f : RegField} {b : Block} (hk : k < 8) (hf : f.reg = R.HB_FBSTAT) (hbit : f.hi = f.lo)
    (habove : 1 < f.lo) (ht : b.Tame) :
    ((b.fbCoast k).fbStick f k).getF F.HB_FBSTAT_DIR k = 0 ∧ (((b.fbCoast k).fbStick f k).fbr k).phase = .idle ∧
      ((b.fbCoast k).fbStick f k).getF f k = 1 ∧
      b.Within (bridgeRegs k) (bridgeParts k) ((b.fbCoast k).fbStick f k) := by
  have hcoast := fbCoast_within b hk
  have htame : (b.fbCoast k).Tame := hcoast.tame (bridgeRegs_readyReg hk) ht
  refine ⟨?_, ?_, fbStick_same hk hf hbit htame, hcoast.trans (fbStick_within hk hf htame)⟩
  · rw [fbStick_dir hk hf hbit habove htame, fbCoast_dir b hk]
  · rw [fbStick_fbr hk hf htame, fbCoast_phase b hk]

/-! ### Ripples and the end stop -/

/-- POS after one more ripple (R167). -/
def nextPos (b : Block) (k : Nat) : Nat :=
  if b.getF F.HB_FBSTAT_DIR k = 1 then (b.getF F.HB_WINPOS_POS k + 1) % 65536 else (b.getF F.HB_WINPOS_POS k + 65535) % 65536

/-- A ripple counted in POS and in the record of the bridge. -/
def countRipple (k ma us : Nat) (b : Block) : Block :=
  (b.setF F.HB_WINPOS_POS k (b.nextPos k)).updFb k fun f => { f with
    ripples := f.ripples + 1, last := ((ma, if f.ripples = 0 then 0 else us) :: f.last).take 16, revLeft := f.revLeft - 1 }

theorem nextPos_lt (b : Block) (k : Nat) : b.nextPos k < 65536 := by
  unfold nextPos
  split <;> exact Nat.mod_lt _ (by decide)

/-- A ripple that counts is all that happens, or the bridge coasts after it; a move coasts where POS meets its target. -/
theorem ripple_cases {b : Block} {k ma us : Nat} (hdir : b.getF F.HB_FBSTAT_DIR k = 1 ∨ b.getF F.HB_FBSTAT_DIR k = 2)
    (hruns : b.suspended k = false) (hcounts : (b.fbr k).ripples = 0 ∨ rippleOk us = true) :
    (b.ripple k ma us = b.countRipple k ma us ∧ ¬((b.fbr k).phase = .move ∧ b.nextPos k = (b.fbr k).target)) ∨
      b.ripple k ma us = (b.countRipple k ma us).fbCoast k := by
  have hgo : ¬((!(b.getF F.HB_FBSTAT_DIR k == 1 || b.getF F.HB_FBSTAT_DIR k == 2) || b.suspended k ||
      !((b.fbr k).ripples == 0 || rippleOk us)) = true) := by
    rcases hdir with hdir | hdir <;> rcases hcounts with hcounts | hcounts <;> simp [hdir, hruns, hcounts]
  have hripple : b.ripple k ma us = match ((b.countRipple k ma us).fbr k).phase with
      | .move => if b.nextPos k = ((b.countRipple k ma us).fbr k).target then (b.countRipple k ma us).fbCoast k
          else b.countRipple k ma us
      | .reverse => if ((b.countRipple k ma us).fbr k).revLeft = 0 then (b.countRipple k ma us).fbCoast k
          else b.countRipple k ma us
      | _ => b.countRipple k ma us := if_neg hgo
  have hphase : ((b.countRipple k ma us).fbr k).phase = (b.fbr k).phase := by rw [countRipple, updFb_same]; rfl
  have htarget : ((b.countRipple k ma us).fbr k).target = (b.fbr k).target := by rw [countRipple, updFb_same]; rfl
  rw [hphase, htarget] at hripple
  rw [hripple]
  split
  · split
    · exact .inr rfl
    · next hmiss => exact .inl ⟨rfl, fun h => hmiss h.2⟩
  · next hreverse =>
      split
      · exact .inr rfl
      · exact .inl ⟨rfl, fun h => by simp [hreverse] at h⟩
  · next hother _ => exact .inl ⟨rfl, fun h => hother h.1⟩

section Window

variable {b : Block} {k : Nat}

theorem countRipple_within (b : Block) (k ma us : Nat) : b.Within (windowRegs k) (bridgeParts k) (b.countRipple k ma us) :=
  (Within.setF b F.HB_WINPOS_POS k _ (winpos_mem_windowRegs k)).trans (.updFb _ k _ (fb_mem_bridgeParts k))

theorem countRipple_pos (b : Block) (k ma us : Nat) : (b.countRipple k ma us).getF F.HB_WINPOS_POS k = b.nextPos k := by
  rw [countRipple, updFb_getF, getF_setF_same _ _ _ _ (by decide)]
  exact Nat.mod_eq_of_lt (nextPos_lt b k)

theorem fbCoast_pos (b : Block) (hk : k < 8) : (b.fbCoast k).getF F.HB_WINPOS_POS k = b.getF F.HB_WINPOS_POS k :=
  (fbCoast_within b hk).getF_eq (winpos_not_mem_bridgeRegs k hk) (recordReg_winpos k hk)

/-- The first arrival at the closed end stop writes HB_WINPOS and NORM (R167). -/
theorem endStop_within (hk : k < 8) (fromOpen : Bool) (hnorm : b.flag F.HB_FBSTAT_NORM k = false) :
    b.Within (windowRegs k) (bridgeParts k) (b.endStop k fromOpen) := by
  have hpos : (b.setF F.HB_WINPOS_POS k 0).flag F.HB_FBSTAT_NORM k = false := by
    rw [flag, getF_setF_other b F.HB_WINPOS_POS F.HB_FBSTAT_NORM k k 0 (fbstat_ne_winpos k hk)]
    exact hnorm
  unfold endStop
  simp only [hpos, if_false, Bool.false_eq_true]
  exact ((Within.setF b F.HB_WINPOS_POS k 0 (winpos_mem_windowRegs k)).trans
    (.ite _ (.setF _ F.HB_WINPOS_TRAVEL k _ (winpos_mem_windowRegs k)) (.refl _))).trans
    (.setF _ F.HB_FBSTAT_NORM k 1 (bridgeRegs_subset_windowRegs k (fbstat_mem_bridgeRegs k)))

/-- Brake for a pinch (R168). -/
def pinchStop (k : Nat) (b : Block) : Block :=
  ((b.updFb k fun f => { f with phase := .pinchBrake }).setDir k 3 0).fbStick F.HB_FBSTAT_PINCH k

/-- A current above the mean of the last ripples by the threshold, outside the seal zone or with NORM = 0, brakes the
window that closes (R168); where it stands at its closed end stop, that counts as the first arrival there. -/
theorem pinch_of_current {ma us ms : Nat} {closed fromOpen : Bool} (hruns : b.suspended k = false)
    (hripples : (b.fbr k).last ≠ []) (hcloses : b.getF F.HB_FBSTAT_DIR k = 2) (hmoves : (b.fbr k).phase = .move)
    (hblank : b.getF F.HB_WIN_BLANK k ≤ ms)
    (hcurrent : meanOf ((b.fbr k).last.map Prod.fst) + b.getF F.HB_WIN_PINCHTH k * 25 < ma)
    (hzone : b.flag F.HB_FBSTAT_NORM k = false ∨ (b.getF F.HB_WIN_SEAL k : Int) < sgn 16 (b.getF F.HB_WINPOS_POS k)) :
    b.pinch k ma us ms closed fromOpen =
      (if closed && !b.flag F.HB_FBSTAT_NORM k then b.endStop k fromOpen else b).pinchStop k := by
  have hseal : (b.flag F.HB_FBSTAT_NORM k && decide (sgn 16 (b.getF F.HB_WINPOS_POS k) ≤ b.getF F.HB_WIN_SEAL k)) = false := by
    rcases hzone with hnorm | hfar
    · simp [hnorm]
    · simp [hfar]
  unfold pinch
  simp [hruns, hripples, hcloses, hmoves, hblank, hcurrent, hseal, pinchStop]

theorem pinchStop_within (hk : k < 8) (ht : b.Tame) : b.Within (bridgeRegs k) (bridgeParts k) (b.pinchStop k) := by
  have hbrake := (updFb_within (k := k) b fun f => { f with phase := .pinchBrake }).trans (setDir_within _ hk 3 0)
  exact hbrake.trans (fbStick_within hk rfl (hbrake.tame (bridgeRegs_readyReg hk) ht))

theorem pinchStop_effect (hk : k < 8) (ht : b.Tame) :
    ((b.pinchStop k).fbr k).phase = .pinchBrake ∧ (b.pinchStop k).getF F.HB_FBSTAT_DIR k = 3 ∧
      (b.pinchStop k).getF F.HB_FBSTAT_PINCH k = 1 := by
  have hrest := turnsAtOnce_of_rest (b.updFb k fun f => { f with phase := .pinchBrake }) k (dir := 3) (by decide)
  have htame : ((b.updFb k fun f => { f with phase := .pinchBrake }).setDir k 3 0).Tame :=
    ((updFb_within (k := k) b _).trans (setDir_within _ hk 3 0)).tame (bridgeRegs_readyReg hk) ht
  refine ⟨?_, ?_, fbStick_same hk rfl rfl htame⟩
  · rw [pinchStop, fbStick_fbr hk rfl htame, setDir_fbr _ hk hrest, updFb_same]
  · rw [pinchStop, fbStick_dir hk rfl rfl (by decide) htame, setDir_dir _ hk (by decide) hrest]

end Window

end Block

/-! ### The commands -/

section Commands

open Block

variable {s : State} {k : Fin 8}

/-- A command whose effect stays within full bridge k completes with it. -/
theorem completes_of_bridge {c : Instr} {f : Block → Block} {E : Block → Prop}
    (hx : exec c s = s.act f) (hready : s.blk.Ready) (hw : s.blk.Within (bridgeRegs k) (bridgeParts k) (f s.blk))
    (he : E (f s.blk)) : Completes c s E :=
  completes_of_within hx hready hw (bridgeRegs_readyReg k.isLt) (pw_not_mem_bridgeParts k) he

/-- The same with HB_WINPOS. -/
theorem completes_of_window {c : Instr} {f : Block → Block} {E : Block → Prop}
    (hx : exec c s = s.act f) (hready : s.blk.Ready) (hw : s.blk.Within (windowRegs k) (bridgeParts k) (f s.blk))
    (he : E (f s.blk)) : Completes c s E :=
  completes_of_within hx hready hw (windowRegs_readyReg k k.isLt) (pw_not_mem_bridgeParts k) he

variable (s k)

/-- The 2 ms brake ends in the direction that waits (R163). -/
theorem completes_fbBrakeEnd (dir : Fin 4) (hready : s.blk.Ready) (hnext : (s.blk.fbr k).next = some dir.val) :
    Completes (.fbBrakeEnd k) s fun b => b.getF F.HB_FBSTAT_DIR k = dir ∧ (b.fbr k).next = none ∧
      s.blk.Beside (bridgeRegs k) (bridgeParts k) b := by
  have heffect : s.blk.fbBrakeEnd k =
      (s.blk.updFb k fun f => { f with next := none }).driveNow k dir (s.blk.fbr k).duty := by
    rw [fbBrakeEnd, hnext]
  have hw : s.blk.Within (bridgeRegs k) (bridgeParts k) (s.blk.fbBrakeEnd k) :=
    heffect ▸ (updFb_within s.blk _).trans (driveNow_within _ k.isLt _ _)
  refine completes_of_bridge (f := fun b => b.fbBrakeEnd k) rfl hready hw ⟨?_, ?_, hw.beside⟩
  · rw [heffect, driveNow_dir _ k.isLt dir.isLt]
  · rw [heffect, driveNow_fbr _ k.isLt, updFb_same]

/-- The park brake ends: the wiper coasts and is parked (R166). -/
theorem completes_wiperBrakeEnd (hready : s.blk.Ready) (hphase : (s.blk.fbr k).phase = .parkBrake)
    (hruns : s.blk.suspended k = false) :
    Completes (.wiperBrakeEnd k) s fun b => b.getF F.HB_FBSTAT_DIR k = 0 ∧ (b.fbr k).phase = .idle ∧
      b.getF F.HB_FBSTAT_PARKED k = 1 ∧ s.blk.Beside (bridgeRegs k) (bridgeParts k) b := by
  have heffect : s.blk.wiperBrakeEnd k = (s.blk.fbCoast k).fbStick F.HB_FBSTAT_PARKED k := by
    simp [wiperBrakeEnd, hphase, hruns]
  obtain ⟨hdir, hidle, hbit, hw⟩ :=
    coastStick_effect (f := F.HB_FBSTAT_PARKED) k.isLt rfl rfl (by decide) hready.2.1
  rw [← heffect] at hdir hidle hbit hw
  exact completes_of_bridge (f := fun b => b.wiperBrakeEnd k) rfl hready hw ⟨hdir, hidle, hbit, hw.beside⟩

/-- The park times out: the wiper coasts and PARKFAIL is set (R166). -/
theorem completes_wiperParkTimeout (hready : s.blk.Ready) (hphase : (s.blk.fbr k).phase = .park) :
    Completes (.wiperParkTimeout k) s fun b => b.getF F.HB_FBSTAT_DIR k = 0 ∧ (b.fbr k).phase = .idle ∧
      b.getF F.HB_FBSTAT_PARKFAIL k = 1 ∧ s.blk.Beside (bridgeRegs k) (bridgeParts k) b := by
  have heffect : s.blk.wiperTimeout k = (s.blk.fbCoast k).fbStick F.HB_FBSTAT_PARKFAIL k := by
    simp [wiperTimeout, hphase]
  obtain ⟨hdir, hidle, hbit, hw⟩ :=
    coastStick_effect (f := F.HB_FBSTAT_PARKFAIL) k.isLt rfl rfl (by decide) hready.2.1
  rw [← heffect] at hdir hidle hbit hw
  exact completes_of_bridge (f := fun b => b.wiperTimeout k) rfl hready hw ⟨hdir, hidle, hbit, hw.beside⟩

/-- A ripple counts, and a move ends at its target (R167). -/
theorem completes_windowRipple (ma us : Nat) (hready : s.blk.Ready)
    (hdir : s.blk.getF F.HB_FBSTAT_DIR k = 1 ∨ s.blk.getF F.HB_FBSTAT_DIR k = 2) (hruns : s.blk.suspended k = false)
    (hcounts : (s.blk.fbr k).ripples = 0 ∨ rippleOk us = true) :
    Completes (.windowRipple k ma us) s fun b => (b.getF F.HB_WINPOS_POS k = s.blk.nextPos k ∧
      ((s.blk.fbr k).phase = .move → b.getF F.HB_WINPOS_POS k = (s.blk.fbr k).target →
        (b.fbr k).phase = .idle ∧ b.getF F.HB_FBSTAT_DIR k = 0)) ∧ s.blk.Beside (windowRegs k) (bridgeParts k) b := by
  have hcount := countRipple_within s.blk k ma us
  have hpos := countRipple_pos s.blk k ma us
  rcases ripple_cases (ma := ma) hdir hruns hcounts with ⟨heffect, hmiss⟩ | heffect
  · refine completes_of_window (f := fun b => b.ripple k ma us) rfl hready (heffect ▸ hcount) ?_
    rw [heffect]
    exact ⟨⟨hpos, fun hmove htarget => absurd ⟨hmove, hpos.symm.trans htarget⟩ hmiss⟩, hcount.beside⟩
  · have hw := hcount.trans ((fbCoast_within (s.blk.countRipple k ma us) k.isLt).mono (bridgeRegs_subset_windowRegs k)
      (List.Subset.refl _))
    refine completes_of_window (f := fun b => b.ripple k ma us) rfl hready (heffect ▸ hw) ?_
    rw [heffect]
    exact ⟨⟨(fbCoast_pos _ k.isLt).trans hpos, fun _ _ => ⟨fbCoast_phase _ k.isLt, fbCoast_dir _ k.isLt⟩⟩, hw.beside⟩

/-- A pinch brakes the window (R168). -/
theorem completes_pinchDetected (ma us ms : Nat) (stop : WinEnds) (hready : s.blk.Ready)
    (hruns : s.blk.suspended k = false) (hripples : (s.blk.fbr k).last ≠ []) (hcloses : s.blk.getF F.HB_FBSTAT_DIR k = 2)
    (hmoves : (s.blk.fbr k).phase = .move) (hblank : s.blk.getF F.HB_WIN_BLANK k ≤ ms)
    (hcurrent : meanOf ((s.blk.fbr k).last.map Prod.fst) + s.blk.getF F.HB_WIN_PINCHTH k * 25 < ma)
    (hzone : s.blk.flag F.HB_FBSTAT_NORM k = false ∨
      (s.blk.getF F.HB_WIN_SEAL k : Int) < sgn 16 (s.blk.getF F.HB_WINPOS_POS k)) :
    Completes (.pinchDetected k ma us ms stop) s fun b => (b.fbr k).phase = .pinchBrake ∧
      b.getF F.HB_FBSTAT_DIR k = 3 ∧ b.getF F.HB_FBSTAT_PINCH k = 1 ∧ s.blk.Beside (windowRegs k) (bridgeParts k) b := by
  have heffect := pinch_of_current (us := us) (closed := stop.closed) (fromOpen := stop.fromOpen) hruns hripples hcloses
    hmoves hblank hcurrent hzone
  have hstart : s.blk.Within (windowRegs k) (bridgeParts k)
      (if stop.closed && !s.blk.flag F.HB_FBSTAT_NORM k then s.blk.endStop k stop.fromOpen else s.blk) := by
    split
    · next hfirst =>
        rw [Bool.and_eq_true, Bool.not_eq_true'] at hfirst
        exact endStop_within k.isLt stop.fromOpen hfirst.2
    · exact .refl _
  have htame := hstart.tame (windowRegs_readyReg k k.isLt) hready.2.1
  have hw := hstart.trans ((pinchStop_within k.isLt htame).mono (bridgeRegs_subset_windowRegs k) (List.Subset.refl _))
  obtain ⟨hphase, hdir, hbit⟩ := pinchStop_effect k.isLt htame
  rw [← heffect] at hw hphase hdir hbit
  exact completes_of_window (f := fun b => b.pinch k ma us ms stop.closed stop.fromOpen) rfl hready hw
    ⟨hphase, hdir, hbit, hw.beside⟩

/-- The pinch brake ends: the window opens again for REVR × 4 ripples (R168). -/
theorem completes_pinchBrakeEnd (hready : s.blk.Ready) (hphase : (s.blk.fbr k).phase = .pinchBrake)
    (hruns : s.blk.suspended k = false) (hrevr : s.blk.getF F.HB_WIN_REVR k ≠ 0) (hnext : (s.blk.fbr k).next = none) :
    Completes (.pinchBrakeEnd k) s fun b => (b.fbr k).phase = .reverse ∧
      (b.fbr k).revLeft = s.blk.getF F.HB_WIN_REVR k * 4 ∧ b.getF F.HB_FBSTAT_DIR k = 1 ∧
      s.blk.Beside (bridgeRegs k) (bridgeParts k) b := by
  have heffect : s.blk.pinchBrakeEnd k = (s.blk.updFb k fun f => { f with
      phase := .reverse, revLeft := s.blk.getF F.HB_WIN_REVR k * 4, ripples := 0, lastDir := 0 }).setDir k 1 65536 := by
    simp [pinchBrakeEnd, hphase, hruns, hrevr]
  have hw : s.blk.Within (bridgeRegs k) (bridgeParts k) (s.blk.pinchBrakeEnd k) :=
    heffect ▸ (updFb_within s.blk _).trans (setDir_within _ k.isLt _ _)
  have hturns : (s.blk.updFb k fun f => { f with
      phase := .reverse, revLeft := s.blk.getF F.HB_WIN_REVR k * 4, ripples := 0, lastDir := 0 }).TurnsAtOnce k 1 := by
    simp [TurnsAtOnce, hnext]
  refine completes_of_bridge (f := fun b => b.pinchBrakeEnd k) rfl hready hw ⟨?_, ?_, ?_, hw.beside⟩
  · rw [heffect, setDir_fbr _ k.isLt hturns, updFb_same]
  · rw [heffect, setDir_fbr _ k.isLt hturns, updFb_same]
  · rw [heffect, setDir_dir _ k.isLt (by decide) hturns]

/-- A lock pulse ends: the bridge coasts, for good after the last one (R170). -/
theorem completes_lockPulseEnd (hready : s.blk.Ready) (hphase : (s.blk.fbr k).phase = .pulse)
    (hruns : s.blk.suspended k = false) :
    Completes (.lockPulseEnd k) s fun b => ((b.fbr k).phase = (if (s.blk.fbr k).pulses = 0 then .idle else .gap) ∧
      b.getF F.HB_FBSTAT_DIR k = 0) ∧ s.blk.Beside (bridgeRegs k) (bridgeParts k) b := by
  have heffect : s.blk.lockPulseEnd k = (s.blk.updFb k fun g => { g with
      phase := if (s.blk.fbr k).pulses = 0 then FbPhase.idle else FbPhase.gap }).setDir k 0 0 := by
    simp [lockPulseEnd, hphase, hruns]
  have hw : s.blk.Within (bridgeRegs k) (bridgeParts k) (s.blk.lockPulseEnd k) :=
    heffect ▸ (updFb_within s.blk _).trans (setDir_within _ k.isLt _ _)
  have hrest := turnsAtOnce_of_rest (s.blk.updFb k fun g => { g with
    phase := if (s.blk.fbr k).pulses = 0 then FbPhase.idle else FbPhase.gap }) k (dir := 0) (by decide)
  refine completes_of_bridge (f := fun b => b.lockPulseEnd k) rfl hready hw ⟨⟨?_, ?_⟩, hw.beside⟩
  · rw [heffect, setDir_fbr _ k.isLt hrest, updFb_same]
  · rw [heffect, setDir_dir _ k.isLt (by decide) hrest]

/-- A lock gap ends: the next pulse drives the bridge in the direction of the sequence (R170). -/
theorem completes_lockGapEnd (dir : Fin 4) (hready : s.blk.Ready) (hphase : (s.blk.fbr k).phase = .gap)
    (hruns : s.blk.suspended k = false) (hlast : (s.blk.fbr k).lastDir = 0 ∨ (s.blk.fbr k).lastDir = dir.val)
    (hdir : (s.blk.fbr k).lockDir = dir) (hnext : (s.blk.fbr k).next = none) :
    Completes (.lockGapEnd k) s fun b => (b.fbr k).phase = .pulse ∧ (b.fbr k).pulses = (s.blk.fbr k).pulses - 1 ∧
      b.getF F.HB_FBSTAT_DIR k = dir ∧ s.blk.Beside (bridgeRegs k) (bridgeParts k) b := by
  have heffect : s.blk.lockGapEnd k =
      (s.blk.updFb k fun g => { g with phase := .pulse, pulses := g.pulses - 1 }).setDir k dir 65536 := by
    simp [lockGapEnd, hphase, hruns, hdir]
  have hw : s.blk.Within (bridgeRegs k) (bridgeParts k) (s.blk.lockGapEnd k) :=
    heffect ▸ (updFb_within s.blk _).trans (setDir_within _ k.isLt _ _)
  have hturns : (s.blk.updFb k fun g => { g with phase := .pulse, pulses := g.pulses - 1 }).TurnsAtOnce k dir := by
    refine ⟨?_, .inl (by rw [updFb_same]; exact hnext)⟩
    rw [updFb_same]
    show ¬(((s.blk.fbr k).lastDir = 1 ∧ dir.val = 2) ∨ ((s.blk.fbr k).lastDir = 2 ∧ dir.val = 1))
    omega
  refine completes_of_bridge (f := fun b => b.lockGapEnd k) rfl hready hw ⟨?_, ?_, ?_, hw.beside⟩
  · rw [heffect, setDir_fbr _ k.isLt hturns, updFb_same]
  · rw [heffect, setDir_fbr _ k.isLt hturns, updFb_same]
  · rw [heffect, setDir_dir _ k.isLt dir.isLt hturns]

end Commands

/-- Settles O5: each command drives its bridge in one direction and changes no more than the record, the status and the halves
of it; the function bits raise an occurrence that is only recorded. -/
theorem fullBridgeFunctions : Obligations.FullBridgeFunctions := by
  unfold Obligations.FullBridgeFunctions
  exact ⟨completes_fbBrakeEnd, completes_wiperBrakeEnd, completes_wiperParkTimeout, completes_windowRipple,
    completes_pinchDetected,
    fun s k hready hphase hruns hrevr _ hnext => completes_pinchBrakeEnd s k hready hphase hruns hrevr hnext,
    completes_lockPulseEnd,
    fun s k dir hready hphase hruns hlast hdir _ hnext =>
      completes_lockGapEnd s k dir hready hphase hruns hlast hdir hnext⟩

end Sys2Proof.Machine
end

section
/-! PROOFS. What the valve drive stays within: the phases of a valve change its own status, counters and record and the switch
of its bank, and a bank that serves its waiting shots leaves a valve that does not wait alone. -/
namespace Sys2Proof.Machine

namespace Block

/-! ### Updates that keep the catchment only recording -/

/-- Where the catchment of a only records and l lists no register that `Ready` reads, b differs from a at most in l and ps. -/
def Stays (l : List Nat) (ps : List Part) (a b : Block) : Prop :=
  a.Tame → (∀ x ∈ l, readyReg x = false) → a.Within l ps b

namespace Within

variable {l : List Nat} {ps : List Part} {a b : Block}

theorem updVl (b : Block) (n : Nat) (f : Valve → Valve) (h : .valve n ∈ ps) : b.Within l ps (b.updVl n f) :=
  ⟨beside_updVl b n f l h, rfl⟩

theorem updTbl (b : Block) (t : Nat) (f : ShotTable → ShotTable) (h : .table t ∈ ps) : b.Within l ps (b.updTbl t f) :=
  ⟨beside_updTbl b t f l h, rfl⟩

theorem vl_eq (h : a.Within l ps b) {n : Nat} (hp : .valve n ∉ ps) : b.vl n = a.vl n := h.beside.2 (.valve n) hp

theorem foldl {α : Type} (f : Block → α → Block) (xs : List α) (h : ∀ x ∈ xs, ∀ b : Block, b.Within l ps (f b x)) (b : Block) :
    b.Within l ps (xs.foldl f b) := by
  induction xs generalizing b with
  | nil => exact refl b
  | cons x xs ih =>
      exact (h x (List.mem_cons_self ..) b).trans (ih (fun y hy => h y (List.mem_cons_of_mem _ hy)) _)

theorem pw_eq (h : a.Within l ps b) (hp : .pw ∉ ps) : b.pw = a.pw := h.beside.2 .pw hp

end Within

namespace Stays

variable {l m : List Nat} {ps qs : List Part} {a b c : Block}

theorem of_within (h : a.Within l ps b) : a.Stays l ps b := fun _ _ => h

theorem refl (b : Block) : b.Stays l ps b := of_within (.refl b)

theorem trans (h : a.Stays l ps b) (k : b.Stays l ps c) : a.Stays l ps c := fun ht hl =>
  (h ht hl).trans (k ((h ht hl).tame hl ht) hl)

theorem mono (h : a.Stays l ps b) (hl : l ⊆ m) (hp : ps ⊆ qs) : a.Stays m qs b := fun ht hm =>
  (h ht fun x hx => hm x (hl hx)).mono hl hp

theorem ite (p : Prop) [Decidable p] (h : a.Stays l ps b) (k : a.Stays l ps c) :
    a.Stays l ps (if p then b else c) := by
  split
  · exact h
  · exact k

theorem setF (b : Block) (f : RegField) (n v : Nat) (h : f.reg.at n ∈ l) : b.Stays l ps (b.setF f n v) :=
  of_within (.setF b f n v h)

theorem updVl (b : Block) (n : Nat) (f : Valve → Valve) (h : .valve n ∈ ps) : b.Stays l ps (b.updVl n f) :=
  of_within (.updVl b n f h)

theorem foldl {α : Type} (f : Block → α → Block) (xs : List α) (h : ∀ x ∈ xs, ∀ b : Block, b.Stays l ps (f b x)) (b : Block) :
    b.Stays l ps (xs.foldl f b) := by
  induction xs generalizing b with
  | nil => exact refl b
  | cons x xs ih =>
      exact (h x (List.mem_cons_self ..) b).trans (ih (fun y hy => h y (List.mem_cons_of_mem _ hy)) _)

end Stays

/-! ### Sticky bits -/

section Sticky

variable {b : Block} {f : RegField} {n e : Nat}

/-- A sticky bit that is set stays, and one that becomes 1 raises its source. -/
theorem stick_cases (b : Block) (f : RegField) (n e : Nat) :
    (b.flag f n = true ∧ b.stick f n e = b) ∨ b.stick f n e = (b.setF f n 1).raiseOpen e := by
  cases hset : b.flag f n with
  | true => exact .inl ⟨rfl, if_pos hset⟩
  | false => exact .inr (if_neg (by simp [hset]))

theorem tame_setF (f : RegField) (hr : readyReg (f.reg.at n) = false) (v : Nat) (ht : b.Tame) : (b.setF f n v).Tame :=
  (Within.setF (l := [f.reg.at n]) (ps := []) b f n v (by simp)).tame (by simpa using hr) ht

theorem stick_stays {l : List Nat} {ps : List Part} (b : Block) (h : f.reg.at n ∈ l) (he : e < 256) :
    b.Stays l ps (b.stick f n e) := fun ht hl => by
  rcases stick_cases b f n e with ⟨-, hkeep⟩ | hraise
  · rw [hkeep]
    exact .refl b
  · rw [hraise]
    exact (Within.setF b f n 1 h).trans
      ((raiseOpen_within e _ (tame_setF f (hl _ h) 1 ht) he).mono (List.nil_subset _) (List.nil_subset _))

theorem stick_same (hbit : f.hi = f.lo) (ht : b.Tame) (hready : readyReg (f.reg.at n) = false)
    (hrecord : recordReg (f.reg.at n) = false) (he : e < 256) : (b.stick f n e).getF f n = 1 := by
  rcases stick_cases b f n e with ⟨hset, hkeep⟩ | hraise
  · rw [hkeep]
    simpa [flag] using hset
  · rw [hraise, (raiseOpen_within e _ (tame_setF f hready 1 ht) he).getF_eq List.not_mem_nil hrecord,
      getF_setF_same _ _ _ _ hbit.ge, hbit, Nat.add_sub_cancel_left]
    rfl

theorem stick_beside {g : RegField} (hreg : g.reg = f.reg) (hbit : f.hi = f.lo) (hbeside : f.hi < g.lo ∨ g.hi < f.lo)
    (ht : b.Tame) (hready : readyReg (f.reg.at n) = false) (hrecord : recordReg (f.reg.at n) = false) (he : e < 256) :
    (b.stick f n e).getF g n = b.getF g n := by
  rcases stick_cases b f n e with ⟨-, hkeep⟩ | hraise
  · rw [hkeep]
  · rw [hraise, (raiseOpen_within e _ (tame_setF f hready 1 ht) he).getF_eq List.not_mem_nil (hreg ▸ hrecord),
      getF_setF_beside b f g n 1 hreg hbit.ge hbeside]

end Sticky

/-! ### A valve's record and state -/

@[simp] theorem updVl_same (b : Block) (n : Nat) (f : Valve → Valve) : (b.updVl n f).vl n = f (b.vl n) := by
  simp [updVl, vl]

@[simp] theorem setF_vl (b : Block) (f : RegField) (n v m : Nat) : (b.setF f n v).vl m = b.vl m := rfl

theorem setVl_vlSt (b : Block) (n : Nat) {st : Nat} (hst : st < 16) : (b.setVl n st).vlSt n = st := by
  rw [vlSt, setVl, getF_setF_same _ _ _ _ (by decide)]
  exact Nat.mod_eq_of_lt hst

/-! ### The registers and parts of a valve and its bank -/

/-- The registers in which valve n shows its state and counts its shots. -/
def valveRegs (n : Nat) : List Nat := [R.VLV_STAT.at n, R.VLV_COUNT.at n, R.VLV_MEAS.at n]

/-- Those of the four valves of bank k, and its own status. -/
def bankRegs (k : Nat) : List Nat :=
  [R.BST_BSTAT.at k] ++ R.VLV_STAT.four (k * 4) ++ R.VLV_COUNT.four (k * 4) ++ R.VLV_MEAS.four (k * 4)

/-- The records of the valves, and when a bank switch turned off. -/
def bankParts : List Part := [Part.lsBy] ++ Part.valves

/-- The same without what is valve n's own. -/
def mateRegs (n : Nat) : List Nat := (bankRegs (n / 4)).filter fun x => !(valveRegs n).contains x
def mateParts (n : Nat) : List Part := bankParts.filter fun p => !(p == .valve n)

theorem mateRegs_subset (n : Nat) : mateRegs n ⊆ bankRegs (n / 4) := List.filter_subset_self _

theorem mateParts_subset (n : Nat) : mateParts n ⊆ bankParts := List.filter_subset_self _

theorem mem_four (r : Reg) (n : Nat) : r.at n ∈ r.four (n / 4 * 4) := by
  have hn : n = n / 4 * 4 ∨ n = n / 4 * 4 + 1 ∨ n = n / 4 * 4 + 2 ∨ n = n / 4 * 4 + 3 := by omega
  simp only [Reg.four, List.mem_cons]
  rcases hn with hn | hn | hn | hn <;> rw [← hn] <;> simp

theorem stat_mem_valveRegs (n : Nat) : R.VLV_STAT.at n ∈ valveRegs n := by simp [valveRegs]

theorem count_mem_valveRegs (n : Nat) : R.VLV_COUNT.at n ∈ valveRegs n := by simp [valveRegs]

theorem meas_mem_valveRegs (n : Nat) : R.VLV_MEAS.at n ∈ valveRegs n := by simp [valveRegs]

theorem bstat_mem_bankRegs (k : Nat) : R.BST_BSTAT.at k ∈ bankRegs k := by simp [bankRegs]

theorem valveRegs_subset_bankRegs (n : Nat) : valveRegs n ⊆ bankRegs (n / 4) := by
  intro x hx
  simp only [valveRegs, List.mem_cons, List.not_mem_nil, or_false] at hx
  simp only [bankRegs, List.mem_append]
  rcases hx with rfl | rfl | rfl <;> simp [mem_four]

theorem valve_mem_bankParts {n : Nat} (hn : n < 32) : .valve n ∈ bankParts :=
  List.mem_append_right _ (List.mem_map_of_mem (List.mem_range.mpr hn))

theorem pw_not_mem_bankParts : .pw ∉ bankParts := by simp [bankParts, Part.valves]

theorem not_mem_mateRegs {n x : Nat} (hx : x ∈ valveRegs n) : x ∉ mateRegs n := by simp [mateRegs, hx]

/-- What is true of the registers of every one of the eight banks and 32 valves. -/
theorem bankRegs_readyReg : ∀ k < 8, ∀ x ∈ bankRegs k, readyReg x = false := by decide

theorem valveRegs_recordReg : ∀ n < 32, ∀ x ∈ valveRegs n, recordReg x = false := by decide

theorem stat_readyReg : ∀ n < 32, readyReg (R.VLV_STAT.at n) = false := by decide

theorem bstat_not_mem_valveRegs : ∀ n < 32, R.BST_BSTAT.at (n / 4) ∉ valveRegs n := by decide

theorem valveRegs_disjoint : ∀ n m : Fin 32, m ≠ n → ∀ x ∈ valveRegs m, x ∉ valveRegs n := by decide +kernel

theorem stat_recordReg (n : Nat) (hn : n < 32) : recordReg (R.VLV_STAT.at n) = false :=
  valveRegs_recordReg n hn _ (stat_mem_valveRegs n)

theorem mateRegs_readyReg {n : Nat} (hn : n < 32) : ∀ x ∈ mateRegs n, readyReg x = false :=
  fun x hx => bankRegs_readyReg (n / 4) (by omega) x (mateRegs_subset n hx)

/-- A frame has room for the phases of valve n: its status and record, and the status and switch of its bank. -/
structure Covers (n : Nat) (l : List Nat) (ps : List Part) : Prop where
  stat : R.VLV_STAT.at n ∈ l
  bstat : R.BST_BSTAT.at (n / 4) ∈ l
  valve : .valve n ∈ ps
  lsBy : .lsBy ∈ ps

/-- And for the start of a shot: its counters and measurements. -/
structure Fires (n : Nat) (l : List Nat) (ps : List Part) : Prop extends Covers n l ps where
  count : R.VLV_COUNT.at n ∈ l
  meas : R.VLV_MEAS.at n ∈ l

/-- The registers of the phases of valve n, and no others. -/
def phaseRegs (n : Nat) : List Nat := [R.VLV_STAT.at n, R.BST_BSTAT.at (n / 4)]

theorem covers_phase (n : Nat) : Covers n (phaseRegs n) [.valve n, .lsBy] :=
  ⟨by simp [phaseRegs], by simp [phaseRegs], by simp, by simp⟩

theorem meas_not_mem_phaseRegs : ∀ n < 32, R.VLV_MEAS.at n ∉ phaseRegs n := by decide

theorem fires_bank {n : Nat} (hn : n < 32) : Fires n (bankRegs (n / 4)) bankParts where
  stat := valveRegs_subset_bankRegs n (stat_mem_valveRegs n)
  bstat := bstat_mem_bankRegs _
  valve := valve_mem_bankParts hn
  lsBy := by simp [bankParts]
  count := valveRegs_subset_bankRegs n (count_mem_valveRegs n)
  meas := valveRegs_subset_bankRegs n (meas_mem_valveRegs n)

/-- Another valve of the bank of valve n starts its shot without touching valve n. -/
theorem fires_mate {n m : Nat} (hn : n < 32) (hbank : m / 4 = n / 4) (hne : m ≠ n) : Fires m (mateRegs n) (mateParts n) := by
  have hm : m < 32 := by omega
  have hmem : ∀ x ∈ valveRegs m, x ∈ mateRegs n := fun x hx => by
    have hbankReg := hbank ▸ valveRegs_subset_bankRegs m hx
    simpa [mateRegs, hbankReg] using valveRegs_disjoint ⟨n, hn⟩ ⟨m, hm⟩ (by simpa using hne) x hx
  exact {
    stat := hmem _ (stat_mem_valveRegs m)
    bstat := by simp [mateRegs, hbank, bstat_mem_bankRegs, bstat_not_mem_valveRegs n hn]
    valve := by simp [mateParts, valve_mem_bankParts hm, hne]
    lsBy := by simp [mateParts, bankParts]
    count := hmem _ (count_mem_valveRegs m)
    meas := hmem _ (meas_mem_valveRegs m) }

/-! ### The phases of a valve -/

section Phases

variable {l : List Nat} {ps : List Part} {n : Nat} (b : Block)

theorem setLevel_within (ma : Nat) (h : .valve n ∈ ps) : b.Within l ps (b.setLevel n ma) := by
  unfold setLevel
  exact .updVl b n _ h

theorem reLevel_within (h : .valve n ∈ ps) : b.Within l ps (b.reLevel n) :=
  .ite _ (setLevel_within b _ h) (.ite _ (setLevel_within b _ h) (.refl b))

theorem enterPhase_within (hs : R.VLV_STAT.at n ∈ l) (hv : .valve n ∈ ps) (st raw ticks : Nat) (fast : Bool) :
    b.Within l ps (b.enterPhase n st raw ticks fast) := by
  unfold enterPhase
  exact ((Within.setF b F.VLV_STAT_STATE n st hs).trans (.updVl _ n _ hv)).trans (setLevel_within _ _ hv)

theorem enterPhase_vlSt {st : Nat} (hst : st < 16) (raw ticks : Nat) (fast : Bool) :
    (b.enterPhase n st raw ticks fast).vlSt n = st := setVl_vlSt b n hst

theorem enterPhase_last (st raw ticks : Nat) (fast : Bool) :
    ((b.enterPhase n st raw ticks fast).vl n).last = (b.vl n).last := by
  simp [enterPhase, setLevel, setVl]

theorem enterHold_within (hs : R.VLV_STAT.at n ∈ l) (hv : .valve n ∈ ps) (x : Shot) :
    b.Within l ps (b.enterHold n x) := (enterPhase_within b hs hv _ _ _ _).trans (.setF _ _ _ _ hs)

theorem enterHold_vlSt (x : Shot) : (b.enterHold n x).vlSt n = Vl.hold := by
  rw [enterHold, vlSt, getF_setF_beside _ F.VLV_STAT_RMEAS F.VLV_STAT_STATE n 0 rfl (by decide) (by decide)]
  exact enterPhase_vlSt b (by decide) _ _ _

/-- The switch of bank k follows its valves. -/
theorem syncBank_within {k : Nat} (hb : R.BST_BSTAT.at k ∈ l) (hls : .lsBy ∈ ps) : b.Within l ps (b.syncBank k) := by
  have hoff : ∀ at' : Tab (Option Nat), b.Within l ps { b with vlv := { b.vlv with offAt := at' } } := fun at' =>
    ⟨⟨fun _ _ _ _ => rfl, fun p hp => by
      cases p with
      | lsBy => exact absurd hls hp
      | _ => simp [Part.Same]⟩, rfl⟩
  exact .ite _ (.refl b) ((Within.ite _ (.refl b) (hoff _)).trans (.setF _ _ _ _ hb))

theorem syncBank_getF {k : Nat} {f : RegField} {m : Nat} (hne : f.reg.at m ≠ R.BST_BSTAT.at k)
    (hr : recordReg (f.reg.at m) = false) : (b.syncBank k).getF f m = b.getF f m :=
  (syncBank_within (l := [R.BST_BSTAT.at k]) (ps := [.lsBy]) b (by simp) (by simp)).getF_eq (by simpa using hne) hr

theorem syncBank_vl (k m : Nat) : (b.syncBank k).vl m = b.vl m :=
  (syncBank_within (l := [R.BST_BSTAT.at k]) (ps := [.lsBy]) b (by simp) (by simp)).vl_eq (by simp)

theorem vstick_stays {f : RegField} (hf : f.reg = R.VLV_STAT) (hs : R.VLV_STAT.at n ∈ l) (hn : n < 32) :
    b.Stays l ps (b.vstick f n) := stick_stays b (hf ▸ hs) (by omega)

/-- A shot in progress clamps, and a waiting one ends. -/
theorem vlClamp_within (h : Covers n l ps) : b.Within l ps (b.vlClamp n) := by
  refine .ite _ ?_ (.ite _ ?_ (.refl b))
  · exact ((Within.setF b F.VLV_STAT_STATE n _ h.stat).trans (.updVl _ n _ h.valve)).trans (syncBank_within _ h.bstat h.lsBy)
  · exact (Within.updVl b n _ h.valve).trans (.setF _ F.VLV_STAT_STATE n _ h.stat)

/-- A shot that starts is on record and counts (R187). -/
def countShot (n : Nat) (x : Shot) (tick : Nat) (b : Block) : Block :=
  (b.updVl n fun v => { v with shot := some x, last := some tick }).wrapF F.VLV_COUNT_FIRED n 1

/-- The first phase of a shot, or the end of one whose profile has no phase (R187). -/
def firstPhase (n : Nat) (x : Shot) (b : Block) : Block :=
  if b.hasBoost x.prof then b.enterBoost n x
  else if !(b.ipMa x.prof == 0) then b.enterPeak n x
  else if !(b.ihMa x.prof == 0) then b.enterHold n x
  else (b.setVl n Vl.idle).updVl n fun v => { v with shot := none }

theorem startShot_eq (x : Shot) (tick : Nat) :
    b.startShot n x tick = ((b.countShot n x tick).firstPhase n x).syncBank (n / 4) := rfl

theorem countShot_within (hc : R.VLV_COUNT.at n ∈ l) (hv : .valve n ∈ ps) (x : Shot) (tick : Nat) :
    b.Within l ps (b.countShot n x tick) := (Within.updVl b n _ hv).trans (.setF _ F.VLV_COUNT_FIRED n _ hc)

theorem firstPhase_within (hs : R.VLV_STAT.at n ∈ l) (hv : .valve n ∈ ps) (x : Shot) :
    b.Within l ps (b.firstPhase n x) :=
  .ite _ (enterPhase_within b hs hv _ _ _ _) (.ite _ (enterPhase_within b hs hv _ _ _ _)
    (.ite _ (enterHold_within b hs hv x) ((Within.setF b F.VLV_STAT_STATE n _ hs).trans (.updVl _ n _ hv))))

theorem startShot_within (h : Fires n l ps) (x : Shot) (tick : Nat) : b.Within l ps (b.startShot n x tick) :=
  ((countShot_within b h.count h.valve x tick).trans (firstPhase_within _ h.stat h.valve x)).trans
    (syncBank_within _ h.bstat h.lsBy)

end Phases

/-! ### Waiting shots -/

section Waiting

variable {l : List Nat} {ps : List Part} {n k : Nat} (b : Block)

/-- A waiting shot that ends shows in the status, the counters and the record of its valve only. -/
theorem dropWaiting_stays {f : RegField} (hf : f.reg = R.VLV_STAT) (hn : n < 32) (hs : R.VLV_STAT.at n ∈ l)
    (hc : R.VLV_COUNT.at n ∈ l) (hv : .valve n ∈ ps) : b.Stays l ps (b.dropWaiting f n) := by
  refine .ite _ ?_ (.refl b)
  exact (((Stays.updVl b n _ hv).trans (.setF _ F.VLV_STAT_STATE n _ hs)).trans (vstick_stays _ hf hs hn)).trans
    (.setF _ F.VLV_COUNT_NOTFIRED n _ hc)

/-- The shots that wait at bank k are those of its valves in WAIT. -/
theorem of_mem_waiting {m : Nat} (h : m ∈ b.waiting k) : m / 4 = k ∧ b.vlSt m = Vl.wait := by
  have hfilter := List.mem_mergeSort.mp h
  simp only [List.mem_filter, List.mem_cons, List.not_mem_nil, or_false, beq_iff_eq] at hfilter
  exact ⟨by omega, hfilter.2⟩

/-- So a valve that does not wait is none of them. -/
theorem ne_of_mem_waiting {m : Nat} (hrest : b.vlSt n ≠ Vl.wait) (h : m ∈ b.waiting k) : m ≠ n := by
  rintro rfl
  exact hrest (of_mem_waiting b h).2

/-- One waiting shot of bank k is rejected where it is overdue. -/
def rejectOne (k : Nat) (b : Block) (m : Nat) : Block :=
  if b.overdue m then (b.dropWaiting F.VLV_STAT_OVLP m).satF F.BST_BSTAT_OVLPCNT k 1 else b

theorem rejectLate_eq (k : Nat) : b.rejectLate k = (b.waiting k).foldl (rejectOne k) b := rfl

theorem rejectOne_stays {m : Nat} (hm : m < 32) (h : Fires m l ps) : b.Stays l ps (rejectOne (m / 4) b m) :=
  .ite _ ((dropWaiting_stays b rfl hm h.stat h.count h.valve).trans (.setF _ F.BST_BSTAT_OVLPCNT _ _ h.bstat)) (.refl b)

theorem rejectLate_stays (hn : n < 32) (hrest : b.vlSt n ≠ Vl.wait) :
    b.Stays (mateRegs n) (mateParts n) (b.rejectLate (n / 4)) := by
  rw [rejectLate_eq]
  refine .foldl _ _ (fun m hm b' => ?_) b
  have hbank := (of_mem_waiting b hm).1
  exact hbank ▸ rejectOne_stays b' (by omega) (fires_mate hn hbank (ne_of_mem_waiting b hrest hm))

theorem startNext_within (hn : n < 32) (hrest : b.vlSt n ≠ Vl.wait) :
    b.Within (mateRegs n) (mateParts n) (b.startNext (n / 4)) := by
  unfold startNext
  split
  · exact .refl b
  split
  · exact .refl b
  · next m ms hwaits =>
      have hm : m ∈ b.waiting (n / 4) := List.mem_of_mem_filter (hwaits ▸ List.mem_cons_self ..)
      have hfires := fires_mate hn (of_mem_waiting b hm).1 (ne_of_mem_waiting b hrest hm)
      split
      · exact .refl b
      · exact (Within.setF b F.VLV_MEAS_DLY m _ hfires.meas).trans (startShot_within _ hfires _ _)

/-- A field of valve n's own registers, where only the rest of its bank changes. -/
theorem Within.mate_getF {b b' : Block} (h : b.Within (mateRegs n) (mateParts n) b') (hn : n < 32) {f : RegField}
    (hf : f.reg.at n ∈ valveRegs n) : b'.getF f n = b.getF f n :=
  h.getF_eq (not_mem_mateRegs hf) (valveRegs_recordReg n hn _ hf)

/-- The bank of a valve that does not wait serves the shots that do. -/
theorem serveWaiting_stays (hn : n < 32) (hrest : b.vlSt n ≠ Vl.wait) :
    b.Stays (mateRegs n) (mateParts n) (b.serveWaiting (n / 4)) := fun ht hl => by
  have hreject := rejectLate_stays b hn hrest ht hl
  have hstate : (b.rejectLate (n / 4)).vlSt n = b.vlSt n := hreject.mate_getF hn (f := F.VLV_STAT_STATE) (stat_mem_valveRegs n)
  exact hreject.trans (startNext_within _ hn (hstate ▸ hrest))

end Waiting

end Block

/-- A command whose effect stays within registers and parts that `Ready` does not read completes with it. -/
theorem completes_of_stays {c : Instr} {s : State} {f : Block → Block} {E : Block → Prop} {l : List Nat} {ps : List Part}
    (hx : exec c s = s.act f) (hready : s.blk.Ready) (h : s.blk.Stays l ps (f s.blk)) (hl : ∀ x ∈ l, readyReg x = false)
    (hps : .pw ∉ ps) (he : s.blk.Within l ps (f s.blk) → E (f s.blk)) : Completes c s E :=
  have hw := h hready.2.1 hl
  completes_of_within hx hready hw hl hps (he hw)

end Sys2Proof.Machine
end

section
/-! PROOFS. The converters and the timebase: a command to a converter changes its configuration and status, and a read of the
timebase captures it. -/
namespace Sys2Proof.Machine

namespace Block

/-- A write that reaches its register has its effect. -/
theorem gate_of_canWrite {b : Block} {who : Who} {off : Nat} (h : b.CanWrite who off) (k : Block → Block) :
    b.gate who off k = k b := by
  obtain ⟨hfree, hcause⟩ := h
  simp [gate, hfree, hcause]

/-- And so has a read. -/
theorem readGate_of_canRead {b : Block} {who : Who} {off : Nat} (h : b.CanRead who off) (k : Block → Block) :
    b.readGate who off k = k b := by
  obtain ⟨hfree, hcause⟩ := h
  simp [readGate, hfree, hcause]

/-! ### Converters -/

/-- The configuration and the status of converter j. -/
def boostRegs (j : Nat) : List Nat := [R.BST_CFG.at j, R.BST_STAT.at j]

theorem bstCfg_mem_boostRegs (j : Nat) : R.BST_CFG.at j ∈ boostRegs j := by simp [boostRegs]

theorem bstStat_mem_boostRegs (j : Nat) : R.BST_STAT.at j ∈ boostRegs j := by simp [boostRegs]

theorem boostRegs_readyReg : ∀ j : Fin 2, ∀ x ∈ boostRegs j, readyReg x = false := by decide

theorem bstStat_recordReg : ∀ j : Fin 2, recordReg (R.BST_STAT.at j) = false := by decide

theorem bstStat_readyReg : ∀ j : Fin 2, readyReg (R.BST_STAT.at j) = false := by decide

theorem bstStat_ne_bstCfg : ∀ j : Fin 2, R.BST_STAT.at j ≠ R.BST_CFG.at j := by decide

section Converters

variable (b : Block) (j : Fin 2)

theorem boostEnable_within : b.Within (boostRegs j) [] (b.boostEnable j) :=
  (Within.setF b F.BST_CFG_EN j 1 (bstCfg_mem_boostRegs j)).trans
    (.ite _ (.setF _ F.BST_STAT_STATE j _ (bstStat_mem_boostRegs j)) (.refl _))

theorem boostEnable_effect : (b.boostEnable j).getF F.BST_CFG_EN j = 1 ∧
    (b.getF F.BST_STAT_STATE j = 0 ∨ b.getF F.BST_STAT_STATE j = 4 →
      (b.boostEnable j).getF F.BST_STAT_STATE j = if b.vbatcOff then 5 else 1) := by
  have hen : (b.setF F.BST_CFG_EN j 1).getF F.BST_CFG_EN j = 1 := getF_setF_same _ _ _ _ (by decide)
  have hstate : (b.setF F.BST_CFG_EN j 1).getF F.BST_STAT_STATE j = b.getF F.BST_STAT_STATE j :=
    getF_setF_other _ _ _ _ _ _ (bstStat_ne_bstCfg j)
  unfold boostEnable
  dsimp only
  rw [hstate]
  split
  · refine ⟨?_, fun _ => ?_⟩
    · rw [getF_setF_other _ F.BST_STAT_STATE F.BST_CFG_EN j j _ (bstStat_ne_bstCfg j).symm, hen]
    · rw [getF_setF_same _ _ _ _ (by decide)]
      change (if b.vbatcOff then 5 else 1) % 8 = _
      split <;> rfl
  · next hrunning => exact ⟨hen, fun hstopped => absurd hstopped (by simpa using hrunning)⟩

theorem boostDisable_within : b.Within (boostRegs j) [] (b.boostDisable j) :=
  (Within.setF b F.BST_CFG_EN j 0 (bstCfg_mem_boostRegs j)).trans (.setF _ F.BST_STAT_STATE j 0 (bstStat_mem_boostRegs j))

theorem boostDisable_effect : (b.boostDisable j).getF F.BST_CFG_EN j = 0 ∧ (b.boostDisable j).getF F.BST_STAT_STATE j = 0 := by
  refine ⟨?_, getF_setF_same _ _ _ _ (by decide)⟩
  rw [boostDisable, boostStop, getF_setF_other _ F.BST_STAT_STATE F.BST_CFG_EN j j 0 (bstStat_ne_bstCfg j).symm]
  exact getF_setF_same _ _ _ _ (by decide)

theorem bstick_stays {f : RegField} (hf : f.reg = R.BST_STAT) : b.Stays [R.BST_STAT.at j] [] (b.bstick f j) :=
  stick_stays b (by simp [hf]) (by omega)

/-- A converter that fails is in FAULT with its sticky bit set. -/
theorem boostFault_effect {f : RegField} (hf : f.reg = R.BST_STAT) (hbit : f.hi = f.lo) (habove : 2 < f.lo) (ht : b.Tame) :
    ((b.setF F.BST_STAT_STATE j 4).bstick f j).getF F.BST_STAT_STATE j = 4 ∧
      ((b.setF F.BST_STAT_STATE j 4).bstick f j).getF f j = 1 := by
  have htame : (b.setF F.BST_STAT_STATE j 4).Tame := tame_setF F.BST_STAT_STATE (bstStat_readyReg j) 4 ht
  have hready : readyReg (f.reg.at j) = false := hf ▸ bstStat_readyReg j
  have hrecord : recordReg (f.reg.at j) = false := hf ▸ bstStat_recordReg j
  refine ⟨?_, stick_same hbit htame hready hrecord (by omega)⟩
  rw [bstick, stick_beside hf.symm hbit (.inr habove) htame hready hrecord (by omega), getF_setF_same _ _ _ _ (by decide)]
  rfl

end Converters

/-! ### The timebase -/

/-- A value returned with STALE shows in the crossings only. -/
theorem xStale_recorded (b : Block) {x : Nat} (hx : x < 64) (stale : Bool) : Recorded b (b.xStale x stale) :=
  .ite _ ((Recorded.setF b F.CDC_XSTAT_STALE x 1 (record_xstat x hx)).trans (cdcSync_recorded x _ hx)) (.refl b)

theorem tbaseRead_ready {b : Block} (h : b.Ready) : b.tbaseRead.Ready :=
  ready_wr _ R.BST_TBASE1 0 _ (by decide) (ready_wr _ R.BST_TBASE0 0 _ (by decide)
    (ready_congr (b' := { b with pw := { b.pw with tbaseCap := b.pw.tbase / 2 ^ 32 % 2 ^ 32 } }) h rfl rfl rfl))

theorem tbaseRead_beside (b : Block) : b.Beside (offsOf [R.BST_TBASE0, R.BST_TBASE1]) [Part.pw] b.tbaseRead := by
  have hcapture : b.Beside (offsOf [R.BST_TBASE0, R.BST_TBASE1]) [Part.pw]
      { b with pw := { b.pw with tbaseCap := b.pw.tbase / 2 ^ 32 % 2 ^ 32 } } :=
    ⟨fun _ _ _ _ => rfl, fun p hp => by
      cases p with
      | pw => exact absurd (List.mem_singleton_self _) hp
      | _ => simp [Part.Same]⟩
  exact (hcapture.trans (beside_wr _ R.BST_TBASE0 0 _ _ (by decide))).trans (beside_wr _ R.BST_TBASE1 0 _ _ (by decide))

theorem tbaseRead_rd (b : Block) : b.tbaseRead.rd R.BST_TBASE0 0 = b.pw.tbase % 2 ^ 32 ∧
    b.tbaseRead.rd R.BST_TBASE1 0 = b.pw.tbase / 2 ^ 32 % 2 ^ 32 := by
  refine ⟨?_, rd_wr_same _ _ _ _⟩
  rw [tbaseRead, rd_wr_ne _ R.BST_TBASE1 R.BST_TBASE0 0 0 _ (by decide)]
  exact rd_wr_same _ _ _ _

end Block

/-! ### The commands of the converters -/

section ConverterCommands

open Block

variable (s : State)

/-- A write to BST_CFG of converter j completes with its effect on the converter. -/
theorem completes_of_boostWrite {s : State} {c : Instr} {who : Who} {k : Block → Block} {E : Block → Prop} (j : Fin 2)
    (hx : exec c s = s.act fun b => b.gate who (R.BST_CFG.at j) k) (hready : s.blk.Ready)
    (hwrite : s.blk.CanWrite who (R.BST_CFG.at j)) (hw : s.blk.Within (boostRegs j) [] (k s.blk)) (he : E (k s.blk)) :
    Completes c s E := by
  have heffect := gate_of_canWrite hwrite k
  exact completes_of_within hx hready (heffect ▸ hw) (boostRegs_readyReg j) List.not_mem_nil (heffect ▸ he)

/-- EN written 1 starts a converter that is off or in FAULT (R184). -/
theorem completes_boostEnable (who : Who) (j : Fin 2) (hready : s.blk.Ready) (hwrite : s.blk.CanWrite who (R.BST_CFG.at j)) :
    Completes (.boostEnable who j) s fun b => (b.getF F.BST_CFG_EN j = 1 ∧
      (s.blk.getF F.BST_STAT_STATE j = 0 ∨ s.blk.getF F.BST_STAT_STATE j = 4 →
        b.getF F.BST_STAT_STATE j = (if s.blk.vbatcOff then 5 else 1))) ∧ s.blk.Beside (boostRegs j) [] b :=
  completes_of_boostWrite j rfl hready hwrite (boostEnable_within s.blk j)
    ⟨boostEnable_effect s.blk j, (boostEnable_within s.blk j).beside⟩

/-- EN written 0 stops it (R184). -/
theorem completes_boostDisable (who : Who) (j : Fin 2) (hready : s.blk.Ready) (hwrite : s.blk.CanWrite who (R.BST_CFG.at j)) :
    Completes (.boostDisable who j) s fun b => b.getF F.BST_CFG_EN j = 0 ∧ b.getF F.BST_STAT_STATE j = 0 ∧
      s.blk.Beside (boostRegs j) [] b := by
  obtain ⟨hoff, hstopped⟩ := boostDisable_effect s.blk j
  exact completes_of_boostWrite j rfl hready hwrite (boostDisable_within s.blk j)
    ⟨hoff, hstopped, (boostDisable_within s.blk j).beside⟩

/-- A converter that is not ready for 5 ms while no boost phase draws on its rail fails (R186). -/
theorem completes_boostReadyTimeout (j : Fin 2) (hready : s.blk.Ready)
    (hlate : s.blk.getF F.BST_STAT_STATE j = 1 ∨ (s.blk.getF F.BST_STAT_STATE j = 3 ∧
      ∀ i ∈ List.range 16, s.blk.vlSt (16 * j + i) ≠ Vl.boost)) :
    Completes (.boostReadyTimeout j) s fun b => b.getF F.BST_STAT_STATE j = 4 ∧ b.getF F.BST_STAT_BFAIL j = 1 ∧
      s.blk.Beside [R.BST_STAT.at j.val] [] b := by
  have heffect : s.blk.boostTimeout j = (s.blk.setF F.BST_STAT_STATE j 4).bstick F.BST_STAT_BFAIL j := by
    refine if_pos ?_
    rcases hlate with hstarting | ⟨hsags, hrest⟩
    · simp [hstarting]
    · have hundrawn : ∀ i < 16, ¬ s.blk.vlSt (16 * j + i) = Vl.boost := fun i hi => hrest i (List.mem_range.mpr hi)
      simp +contextual [hsags, hundrawn]
  have hstays : s.blk.Stays [R.BST_STAT.at j.val] [] (s.blk.boostTimeout j) :=
    heffect ▸ (Stays.setF _ _ _ _ (by exact List.mem_singleton_self _)).trans (bstick_stays _ j rfl)
  refine completes_of_stays (f := fun b => b.boostTimeout j) rfl hready hstays (by simpa using bstStat_readyReg j)
    List.not_mem_nil fun hw => ?_
  obtain ⟨hstate, hbit⟩ := boostFault_effect s.blk j (f := F.BST_STAT_BFAIL) rfl rfl (by decide) hready.2.1
  exact ⟨heffect ▸ hstate, heffect ▸ hbit, hw.beside⟩

/-- A rail above VSET + 6.0 V stops its converter (R186). -/
theorem completes_boostOvervoltage (j : Fin 2) (vout : Nat) (hready : s.blk.Ready)
    (hon : s.blk.getF F.BST_STAT_STATE j = 1 ∨ s.blk.getF F.BST_STAT_STATE j = 2 ∨ s.blk.getF F.BST_STAT_STATE j = 3)
    (hover : s.blk.getF F.BST_CFG_VSET j + 60 < vout) :
    Completes (.boostOvervoltage j vout) s fun b => b.getF F.BST_STAT_STATE j = 4 ∧ b.getF F.BST_STAT_BOV j = 1 ∧
      b.getF F.BST_STAT_VOUT j = vout % 1024 ∧ s.blk.Beside [R.BST_STAT.at j.val] [] b := by
  have hstate : (s.blk.getF F.BST_STAT_STATE j == 0) = false := by rcases hon with h | h | h <;> simp [h]
  have heffect : s.blk.boostOver j vout =
      ((s.blk.setF F.BST_STAT_VOUT j vout).setF F.BST_STAT_STATE j 4).bstick F.BST_STAT_BOV j := by
    simp [boostOver, hover, hstate]
  have hmem : R.BST_STAT.at j ∈ [R.BST_STAT.at j.val] := List.mem_singleton_self _
  have hstays : s.blk.Stays [R.BST_STAT.at j.val] [] (s.blk.boostOver j vout) :=
    heffect ▸ ((Stays.setF _ F.BST_STAT_VOUT _ _ hmem).trans (.setF _ F.BST_STAT_STATE _ _ hmem)).trans (bstick_stays _ j rfl)
  refine completes_of_stays (f := fun b => b.boostOver j vout) rfl hready hstays (by simpa using bstStat_readyReg j)
    List.not_mem_nil fun hw => ?_
  have htame : (s.blk.setF F.BST_STAT_VOUT j vout).Tame := tame_setF F.BST_STAT_VOUT (bstStat_readyReg j) vout hready.2.1
  obtain ⟨hfault, hbit⟩ := boostFault_effect _ j (f := F.BST_STAT_BOV) rfl rfl (by decide) htame
  refine ⟨heffect ▸ hfault, heffect ▸ hbit, ?_, hw.beside⟩
  have hvout : (s.blk.setF F.BST_STAT_VOUT j vout).getF F.BST_STAT_VOUT j = vout % 1024 :=
    getF_setF_same _ F.BST_STAT_VOUT j vout (by decide)
  have hkeep : ((s.blk.setF F.BST_STAT_VOUT j vout).setF F.BST_STAT_STATE j 4).getF F.BST_STAT_VOUT j = vout % 1024 :=
    (getF_setF_beside _ F.BST_STAT_STATE F.BST_STAT_VOUT j 4 rfl (by decide) (by decide)).trans hvout
  rw [heffect]
  exact (stick_beside (f := F.BST_STAT_BOV) (g := F.BST_STAT_VOUT) rfl rfl (by decide)
    (tame_setF F.BST_STAT_STATE (bstStat_readyReg j) 4 htame) (bstStat_readyReg j) (bstStat_recordReg j) (by omega)).trans hkeep

/-- The rail crosses VSET − RDYM (R185). -/
theorem completes_boostReadyChange (j : Fin 2) (vout : Nat) (hready : s.blk.Ready)
    (hon : s.blk.getF F.BST_STAT_STATE j = 1 ∨ s.blk.getF F.BST_STAT_STATE j = 2 ∨ s.blk.getF F.BST_STAT_STATE j = 3) :
    Completes (.boostReadyChange j vout) s fun b => (b.getF F.BST_STAT_VOUT j = vout % 1024 ∧
      b.getF F.BST_STAT_STATE j = (if s.blk.getF F.BST_CFG_VSET j ≤ vout + max 1 (s.blk.getF F.BST_CFG_RDYM j) * 5 then 2
        else if s.blk.getF F.BST_STAT_STATE j = 2 then 3 else s.blk.getF F.BST_STAT_STATE j)) ∧
      s.blk.Beside [R.BST_STAT.at j.val] [] b := by
  have hmem : R.BST_STAT.at j ∈ [R.BST_STAT.at j.val] := List.mem_singleton_self _
  have hvset : ∀ f : RegField, f.reg = R.BST_CFG → (s.blk.setF F.BST_STAT_VOUT j vout).getF f j = s.blk.getF f j :=
    fun f hf => getF_setF_other _ _ f _ _ _ (hf ▸ (bstStat_ne_bstCfg j).symm)
  have hstate : (s.blk.setF F.BST_STAT_VOUT j vout).getF F.BST_STAT_STATE j = s.blk.getF F.BST_STAT_STATE j :=
    getF_setF_beside _ F.BST_STAT_VOUT F.BST_STAT_STATE j vout rfl (by decide) (by decide)
  have hvout : (s.blk.setF F.BST_STAT_VOUT j vout).getF F.BST_STAT_VOUT j = vout % 1024 :=
    getF_setF_same _ F.BST_STAT_VOUT j vout (by decide)
  have hkeep : ∀ st : Nat, ((s.blk.setF F.BST_STAT_VOUT j vout).setF F.BST_STAT_STATE j st).getF F.BST_STAT_VOUT j = vout % 1024 :=
    fun st => (getF_setF_beside _ F.BST_STAT_STATE F.BST_STAT_VOUT j st rfl (by decide) (by decide)).trans hvout
  have hnew : ∀ st < 8, ((s.blk.setF F.BST_STAT_VOUT j vout).setF F.BST_STAT_STATE j st).getF F.BST_STAT_STATE j = st :=
    fun st hst => (getF_setF_same _ F.BST_STAT_STATE j st (by decide)).trans (Nat.mod_eq_of_lt hst)
  refine completes_of_stays (f := fun b => b.boostReady j vout) (l := [R.BST_STAT.at j.val]) (ps := []) rfl hready
    (.of_within ?_) (by simpa using bstStat_readyReg j) List.not_mem_nil fun hw => ⟨?_, hw.beside⟩
  · exact (Within.setF _ F.BST_STAT_VOUT _ _ hmem).trans (.ite _ (.setF _ F.BST_STAT_STATE _ _ hmem)
      (.ite _ (.setF _ F.BST_STAT_STATE _ _ hmem) (.refl _)))
  · simp only [boostReady, rdyMargin, hstate, hvset F.BST_CFG_VSET rfl, hvset F.BST_CFG_RDYM rfl]
    by_cases hup : s.blk.getF F.BST_CFG_VSET j ≤ vout + max 1 (s.blk.getF F.BST_CFG_RDYM j) * 5 <;>
      rcases hon with hs | hs | hs <;> simp [hup, hs, hkeep, hnew, hvout, hstate]

/-- Reading the timebase captures it (R214). -/
theorem completes_timebaseRead (who : Who) (stale : Bool) (hready : s.blk.Ready)
    (hread : s.blk.CanRead who (R.BST_TBASE0.at 0)) :
    Completes (.timebaseRead who stale) s fun b => b.rd R.BST_TBASE0 0 = s.blk.pw.tbase % 2 ^ 32 ∧
      b.rd R.BST_TBASE1 0 = s.blk.pw.tbase / 2 ^ 32 % 2 ^ 32 ∧
      s.blk.Beside (offsOf [R.BST_TBASE0, R.BST_TBASE1]) [Part.pw] b := by
  have hrecorded : Recorded s.blk.tbaseRead (s.blk.timebaseRead stale) := xStale_recorded _ (by decide) stale
  obtain ⟨hlow, hhigh⟩ := tbaseRead_rd s.blk
  refine completes_of_act _ s (fun b => b.readGate who (R.BST_TBASE0.at 0) (Block.timebaseRead stale)) _ rfl ?_ ?_
  all_goals rw [readGate_of_canRead hread]
  · exact hrecorded.calm (tbaseRead_ready hready).1
  · exact ⟨(hrecorded.rd R.BST_TBASE0 0 (by decide)).trans hlow, (hrecorded.rd R.BST_TBASE1 0 (by decide)).trans hhigh,
      (tbaseRead_beside s.blk).trans ⟨fun _ _ _ hr => hrecorded.regs _ _ hr, fun p _ => hrecorded.part p⟩⟩

end ConverterCommands

end Sys2Proof.Machine
end

section
/-! PROOFS. The phases of a shot: what each leaves in the registers of its valve, where only the status of the bank, the other
valves that wait there and the tables follow it. -/
namespace Sys2Proof.Machine

namespace Block

/-! ### Profiles -/

/-- The profiles of a die lie at 0x400 to 0x5FF of its block, beside everything that the valve drive writes. -/
def isProfile (o : Nat) : Bool := decide (0x400 ≤ o % 0x1000 ∧ o % 0x1000 < 0x600)

theorem isProfile_profA (p : Nat) : isProfile (R.VLV_PROFA.at p) = true := by
  refine decide_eq_true ?_
  simp only [Reg.at, R.VLV_PROFA]
  omega

theorem isProfile_profB (p : Nat) : isProfile (R.VLV_PROFB.at p) = true := by
  refine decide_eq_true ?_
  simp only [Reg.at, R.VLV_PROFB]
  omega

theorem recordReg_of_isProfile {o : Nat} (h : isProfile o = true) : recordReg o = false := by
  simp only [isProfile, decide_eq_true_eq] at h
  simp [recordReg]
  omega

theorem bankRegs_not_profile : ∀ k < 8, ∀ x ∈ bankRegs k, isProfile x = false := by decide

@[simp] theorem updVl_ipMa (b : Block) (n : Nat) (f : Valve → Valve) (p : Nat) : (b.updVl n f).ipMa p = b.ipMa p := rfl

@[simp] theorem updVl_ihMa (b : Block) (n : Nat) (f : Valve → Valve) (p : Nat) : (b.updVl n f).ihMa p = b.ihMa p := rfl

namespace Within

variable {l : List Nat} {ps : List Part} {a b : Block}

theorem profile_getF (h : a.Within l ps b) (hl : ∀ x ∈ l, isProfile x = false) {f : RegField} {p : Nat}
    (hf : isProfile (f.reg.at p) = true) : b.getF f p = a.getF f p :=
  h.getF_eq (fun hx => by simp [hl _ hx] at hf) (recordReg_of_isProfile hf)

theorem hasBoost_eq (h : a.Within l ps b) (hl : ∀ x ∈ l, isProfile x = false) (p : Nat) : b.hasBoost p = a.hasBoost p := by
  rw [hasBoost, hasBoost, h.profile_getF hl (f := F.VLV_PROFA_TBOOST) (isProfile_profA p),
    h.profile_getF hl (f := F.VLV_PROFA_IBOOST) (isProfile_profA p)]

theorem ipMa_eq (h : a.Within l ps b) (hl : ∀ x ∈ l, isProfile x = false) (p : Nat) : b.ipMa p = a.ipMa p := by
  rw [ipMa, ipMa, h.profile_getF hl (f := F.VLV_PROFA_IPEAK) (isProfile_profA p)]

theorem ihMa_eq (h : a.Within l ps b) (hl : ∀ x ∈ l, isProfile x = false) (p : Nat) : b.ihMa p = a.ihMa p := by
  rw [ihMa, ihMa, h.profile_getF hl (f := F.VLV_PROFB_IHOLD) (isProfile_profB p)]

end Within

/-! ### From one phase to the next -/

section NextPhase

variable {l : List Nat} {ps : List Part} {n : Nat} (b : Block) (x : Shot)

theorem enterPhase_stat {g : RegField} (hg : g.reg = R.VLV_STAT) (habove : 3 < g.lo) (st raw ticks : Nat) (fast : Bool) :
    (b.enterPhase n st raw ticks fast).getF g n = b.getF g n :=
  getF_setF_beside b F.VLV_STAT_STATE g n st hg (by decide) (.inl habove)

theorem enterHold_stat {g : RegField} (hg : g.reg = R.VLV_STAT) (habove : 3 < g.lo) (hbelow : g.hi < 17) :
    (b.enterHold n x).getF g n = b.getF g n := by
  rw [enterHold, getF_setF_beside _ F.VLV_STAT_RMEAS g n 0 hg (by decide) (.inr hbelow)]
  exact enterPhase_stat b hg habove _ _ _ _

/-- A shot whose first phase has ended. -/
def laterShot (n : Nat) (x : Shot) (b : Block) : Block := b.updVl n fun v => { v with shot := some { x with first := false } }

theorem nextPhase_of_peak (hin : b.inShot n = true) (hpeak : b.ipMa x.prof ≠ 0) :
    b.nextPhase n x false = ((b.laterShot n x).enterPeak n { x with first := false }).syncBank (n / 4) := by
  unfold nextPhase
  rw [if_neg (by simp [hin])]
  exact congrArg (syncBank (n / 4)) (if_pos (by simpa using hpeak))

theorem nextPhase_of_hold (hin : b.inShot n = true) (hhold : b.ihMa x.prof ≠ 0) :
    b.nextPhase n x true = ((b.laterShot n x).enterHold n { x with first := false }).syncBank (n / 4) := by
  unfold nextPhase
  rw [if_neg (by simp [hin])]
  exact congrArg (syncBank (n / 4)) ((if_neg (by simp)).trans (if_pos (by simpa using hhold)))

theorem nextPhase_peak_within (h : Covers n l ps) (hin : b.inShot n = true) (hpeak : b.ipMa x.prof ≠ 0) :
    b.Within l ps (b.nextPhase n x false) := by
  rw [nextPhase_of_peak b x hin hpeak]
  exact ((Within.updVl b n _ h.valve).trans (enterPhase_within _ h.stat h.valve _ _ _ _)).trans
    (syncBank_within _ h.bstat h.lsBy)

theorem nextPhase_hold_within (h : Covers n l ps) (hin : b.inShot n = true) (hhold : b.ihMa x.prof ≠ 0) :
    b.Within l ps (b.nextPhase n x true) := by
  rw [nextPhase_of_hold b x hin hhold]
  exact ((Within.updVl b n _ h.valve).trans (enterHold_within _ h.stat h.valve _)).trans
    (syncBank_within _ h.bstat h.lsBy)

/-- The switch of its bank keeps every field of a valve. -/
theorem syncBank_valve_getF (hn : n < 32) {g : RegField} (hg : g.reg.at n ∈ valveRegs n) :
    (b.syncBank (n / 4)).getF g n = b.getF g n :=
  syncBank_getF b (fun he => bstat_not_mem_valveRegs n hn (he ▸ hg)) (valveRegs_recordReg n hn _ hg)

theorem nextPhase_peak_vlSt (hn : n < 32) (hin : b.inShot n = true) (hpeak : b.ipMa x.prof ≠ 0) :
    (b.nextPhase n x false).vlSt n = Vl.peak := by
  rw [nextPhase_of_peak b x hin hpeak, vlSt, syncBank_valve_getF _ hn (g := F.VLV_STAT_STATE) (stat_mem_valveRegs n)]
  exact enterPhase_vlSt _ (by decide) _ _ _

theorem nextPhase_peak_stat (hn : n < 32) (hin : b.inShot n = true) (hpeak : b.ipMa x.prof ≠ 0) {g : RegField}
    (hg : g.reg = R.VLV_STAT) (habove : 3 < g.lo) : (b.nextPhase n x false).getF g n = b.getF g n := by
  rw [nextPhase_of_peak b x hin hpeak, syncBank_valve_getF _ hn (hg ▸ stat_mem_valveRegs n)]
  exact enterPhase_stat _ hg habove _ _ _ _

theorem nextPhase_hold_vlSt (hn : n < 32) (hin : b.inShot n = true) (hhold : b.ihMa x.prof ≠ 0) :
    (b.nextPhase n x true).vlSt n = Vl.hold := by
  rw [nextPhase_of_hold b x hin hhold, vlSt, syncBank_valve_getF _ hn (g := F.VLV_STAT_STATE) (stat_mem_valveRegs n)]
  exact enterHold_vlSt _ _

theorem nextPhase_hold_stat (hn : n < 32) (hin : b.inShot n = true) (hhold : b.ihMa x.prof ≠ 0) {g : RegField}
    (hg : g.reg = R.VLV_STAT) (habove : 3 < g.lo) (hbelow : g.hi < 17) : (b.nextPhase n x true).getF g n = b.getF g n := by
  rw [nextPhase_of_hold b x hin hhold, syncBank_valve_getF _ hn (hg ▸ stat_mem_valveRegs n)]
  exact enterHold_stat _ _ hg habove hbelow

/-- A shot in progress clamps. -/
theorem vlClamp_of_inShot (hin : b.inShot n = true) : b.vlClamp n =
    ((b.setVl n Vl.clamp).updVl n fun v => { v with level := 0, chop := (0, 0), fast := false }).syncBank (n / 4) :=
  if_pos hin

theorem vlClamp_vlSt (hn : n < 32) (hin : b.inShot n = true) : (b.vlClamp n).vlSt n = Vl.clamp := by
  rw [vlClamp_of_inShot b hin, vlSt, syncBank_valve_getF _ hn (g := F.VLV_STAT_STATE) (stat_mem_valveRegs n)]
  exact setVl_vlSt b n (by decide)

theorem vlClamp_stat (hn : n < 32) (hin : b.inShot n = true) {g : RegField} (hg : g.reg = R.VLV_STAT) (habove : 3 < g.lo) :
    (b.vlClamp n).getF g n = b.getF g n := by
  rw [vlClamp_of_inShot b hin, syncBank_valve_getF _ hn (hg ▸ stat_mem_valveRegs n)]
  exact getF_setF_beside b F.VLV_STAT_STATE g n _ hg (by decide) (.inl habove)

/-! ### The end of a boost phase -/

/-- The valve goes on to peak, and its bank serves the shots that wait (R187, R195). -/
def toPeak (n : Nat) (x : Shot) (b : Block) : Block := (b.nextPhase n x false).serveWaiting (n / 4)

variable {b x}

section ToPeak

variable (hn : n < 32) (hin : b.inShot n = true) (hpeak : b.ipMa x.prof ≠ 0)

include hn hin hpeak

theorem serves_stays : (b.nextPhase n x false).Stays (mateRegs n) (mateParts n) (b.toPeak n x) :=
  serveWaiting_stays _ hn (by rw [nextPhase_peak_vlSt b x hn hin hpeak]; decide)

theorem toPeak_stays : b.Stays (bankRegs (n / 4)) bankParts (b.toPeak n x) :=
  (Stays.of_within (nextPhase_peak_within b x (fires_bank hn).toCovers hin hpeak)).trans
    ((serves_stays hn hin hpeak).mono (mateRegs_subset n) (mateParts_subset n))

/-- The bank serves its other valves: the registers of valve n stay as its new phase leaves them. -/
theorem toPeak_getF (ht : b.Tame) {g : RegField} (hg : g.reg.at n ∈ valveRegs n) :
    (b.toPeak n x).getF g n = (b.nextPhase n x false).getF g n := by
  have hphase := nextPhase_peak_within b x (fires_bank hn).toCovers hin hpeak
  have htame := hphase.tame (bankRegs_readyReg (n / 4) (by omega)) ht
  exact (serves_stays hn hin hpeak htame (mateRegs_readyReg hn)).mate_getF hn hg

theorem toPeak_vlSt (ht : b.Tame) : (b.toPeak n x).vlSt n = Vl.peak :=
  (toPeak_getF hn hin hpeak ht (g := F.VLV_STAT_STATE) (stat_mem_valveRegs n)).trans (nextPhase_peak_vlSt b x hn hin hpeak)

theorem toPeak_stat (ht : b.Tame) {g : RegField} (hg : g.reg = R.VLV_STAT) (habove : 3 < g.lo) :
    (b.toPeak n x).getF g n = b.getF g n :=
  (toPeak_getF hn hin hpeak ht (hg ▸ stat_mem_valveRegs n)).trans (nextPhase_peak_stat b x hn hin hpeak hg habove)

theorem toPeak_meas (ht : b.Tame) {g : RegField} (hg : g.reg = R.VLV_MEAS) : (b.toPeak n x).getF g n = b.getF g n := by
  have hmem : g.reg.at n ∈ valveRegs n := hg ▸ meas_mem_valveRegs n
  have hphase := nextPhase_peak_within b x (covers_phase n) hin hpeak
  exact (toPeak_getF hn hin hpeak ht hmem).trans
    (hphase.getF_eq (hg ▸ meas_not_mem_phaseRegs n hn) (valveRegs_recordReg n hn _ hmem))

end ToPeak

end NextPhase

/-! ### Levels that were not reached -/

section MissLevel

variable {b : Block} {n : Nat}

/-- NREACH of a phase that ends without having reached its level (R187, R198). -/
def missLevel (n : Nat) (reached : Bool) (b : Block) : Block := if reached then b else b.vstick F.VLV_STAT_NREACH n

theorem missLevel_stays {l : List Nat} {ps : List Part} (hn : n < 32) (hs : R.VLV_STAT.at n ∈ l) (reached : Bool) :
    b.Stays l ps (b.missLevel n reached) := .ite _ (.refl b) (vstick_stays b rfl hs hn)

theorem missLevel_within (hn : n < 32) (ht : b.Tame) (reached : Bool) :
    b.Within [R.VLV_STAT.at n] [] (b.missLevel n reached) :=
  missLevel_stays hn (List.mem_singleton_self _) reached ht (by simpa using stat_readyReg n hn)

theorem missLevel_stat (hn : n < 32) (ht : b.Tame) (reached : Bool) {g : RegField} (hg : g.reg = R.VLV_STAT)
    (hbeside : 11 < g.lo ∨ g.hi < 11) : (b.missLevel n reached).getF g n = b.getF g n := by
  cases reached with
  | true => rfl
  | false => exact stick_beside (f := F.VLV_STAT_NREACH) hg rfl hbeside ht (stat_readyReg n hn) (stat_recordReg n hn) (by omega)

theorem missLevel_nreach (hn : n < 32) (ht : b.Tame) : (b.missLevel n false).getF F.VLV_STAT_NREACH n = 1 :=
  stick_same (f := F.VLV_STAT_NREACH) rfl ht (stat_readyReg n hn) (stat_recordReg n hn) (by omega)

theorem missLevel_vl (hn : n < 32) (ht : b.Tame) (reached : Bool) (m : Nat) : (b.missLevel n reached).vl m = b.vl m :=
  (missLevel_within hn ht reached).vl_eq List.not_mem_nil

theorem missLevel_inShot (hn : n < 32) (ht : b.Tame) (reached : Bool) : (b.missLevel n reached).inShot n = b.inShot n := by
  simp only [inShot, vlSt, missLevel_stat hn ht reached (g := F.VLV_STAT_STATE) rfl (.inr (by decide))]

end MissLevel

section Measured

variable {b : Block} {n : Nat}

theorem inShot_of_boost (h : b.vlSt n = Vl.boost) : b.inShot n = true := by simp [inShot, h]

theorem inShot_of_peak (h : b.vlSt n = Vl.peak) : b.inShot n = true := by simp [inShot, h]

theorem inShot_of_hold (h : b.vlSt n = Vl.hold) : b.inShot n = true := by simp [inShot, h]

theorem stat_ne_meas : ∀ n < 32, R.VLV_STAT.at n ≠ R.VLV_MEAS.at n := by decide

/-- The current at the end of a boost phase is measured (R212). -/
def measureBoost (n v : Nat) (b : Block) : Block := b.setF F.VLV_MEAS_IBEND n v

theorem measureBoost_within (hn : n < 32) (v : Nat) : b.Within (bankRegs (n / 4)) bankParts (b.measureBoost n v) :=
  .setF b F.VLV_MEAS_IBEND n v (fires_bank hn).meas

theorem measureBoost_vlSt (hn : n < 32) (v : Nat) : (b.measureBoost n v).vlSt n = b.vlSt n :=
  getF_setF_other b F.VLV_MEAS_IBEND F.VLV_STAT_STATE n n v (stat_ne_meas n hn)

theorem measureBoost_ibend (v : Nat) : (b.measureBoost n v).getF F.VLV_MEAS_IBEND n = v % 256 :=
  getF_setF_same b F.VLV_MEAS_IBEND n v (by decide)

end Measured

/-! ### Shot tables -/

section Tables

variable {l : List Nat} {ps : List Part} {n : Nat} (b : Block)

@[simp] theorem wrapF_tbl (f : RegField) (n v t : Nat) : (b.wrapF f n v).tbl t = b.tbl t := rfl

@[simp] theorem updTbl_same (t : Nat) (f : ShotTable → ShotTable) : (b.updTbl t f).tbl t = f (b.tbl t) := by
  simp [updTbl, tbl]

theorem tstat_mem {t : Nat} (ht : t < 16) : R.VLV_TSTAT.at t ∈ R.VLV_TSTAT.offs := mem_offs R.VLV_TSTAT t ht

theorem valveRegs_not_tstat : ∀ n < 32, ∀ x ∈ valveRegs n, x ∉ R.VLV_TSTAT.offs := by decide +kernel

/-- Tables whose last shot has ended become loaded: that shows in their status only. -/
theorem settleTables_within (h : R.VLV_TSTAT.offs ⊆ l) : b.Within l ps b.settleTables := by
  unfold settleTables forN
  refine .foldl _ _ (fun t ht b' => .ite _ ?_ (.refl b')) b
  exact .setF b' F.VLV_TSTAT_TSTATE t 1 (h (tstat_mem (List.mem_range.mp ht)))

/-- What only changes the status of tables keeps the registers of a valve. -/
theorem Within.valve_getF_of_tables {a b : Block} (h : a.Within R.VLV_TSTAT.offs ps b) (hn : n < 32) {g : RegField}
    (hg : g.reg.at n ∈ valveRegs n) : b.getF g n = a.getF g n :=
  h.getF_eq (valveRegs_not_tstat n hn _ hg) (valveRegs_recordReg n hn _ hg)

end Tables

/-! ### The end of a clamp -/

section ClampEnd

variable {n : Nat} (b : Block)

/-- The energy of a clamp enters the window of its valve (R190). -/
def countClamp (n energy : Nat) (b : Block) : Block :=
  (b.updVl n fun v => { v with bucket := addHead energy v.bucket, events := addHead 1 v.events }).syncVlClamp n

/-- A valve that rests after its shot. -/
def rest (n : Nat) (b : Block) : Block :=
  ((b.updVl n fun v => { v with shot := none, lockAt := 0, disAt := false }).setVl n Vl.idle).syncBank (n / 4)

theorem countClamp_vl (energy : Nat) : (b.countClamp n energy).vl n =
    { b.vl n with bucket := addHead energy (b.vl n).bucket, events := addHead 1 (b.vl n).events } := by
  rw [countClamp, syncVlClamp, setF_vl, setF_vl, updVl_same]

theorem stat_ne_clamp : ∀ n < 32, R.VLV_STAT.at n ≠ R.VLV_CLAMP.at n := by decide

theorem countClamp_stat (hn : n < 32) (energy : Nat) {g : RegField} (hg : g.reg = R.VLV_STAT) :
    (b.countClamp n energy).getF g n = b.getF g n := by
  have hne : g.reg.at n ≠ R.VLV_CLAMP.at n := hg ▸ stat_ne_clamp n hn
  rw [countClamp, syncVlClamp, getF_setF_other _ F.VLV_CLAMP_COUNT g n n _ hne, getF_setF_other _ F.VLV_CLAMP_WINSUM g n n _ hne]
  rfl

theorem countClamp_within {l : List Nat} {ps : List Part} (hc : R.VLV_CLAMP.at n ∈ l) (hv : .valve n ∈ ps) (energy : Nat) :
    b.Within l ps (b.countClamp n energy) := by
  unfold countClamp syncVlClamp
  exact ((Within.updVl b n _ hv).trans (.setF _ F.VLV_CLAMP_WINSUM n _ hc)).trans (.setF _ F.VLV_CLAMP_COUNT n _ hc)

theorem updVl_unlocked {c : Block} {f : RegField} (h : c.getF f n = 0) (g : Valve → Valve) : (c.updVl n g).flag f n = false := by
  rw [updVl_flag, flag, h]
  rfl

theorem vlRest_of_fed {c : Block} (hpw : c.pw = b.pw) (hfed : b.vbatcOff = false) : c.vlRest n = c.setVl n Vl.idle := by
  rw [vlRest, vbatcOff, hpw]
  exact congrArg (fun st => c.setVl n st) (if_neg (ne_true_of_eq_false hfed))

/-- A valve that is neither locked nor disabled, nor to be, rests when its clamp ends with little energy (R189, R201). -/
theorem vlClampEnd_of_unlocked (hn : n < 32) (energy : Nat) (hclamp : b.vlSt n = Vl.clamp) (hlock : (b.vl n).lockAt = 0)
    (hdis : (b.vl n).disAt = false) (hsum : (addHead energy (b.vl n).bucket).sum ≤ 100000)
    (hlocked : b.getF F.VLV_STAT_LOCKED n = 0) (hfed : b.vbatcOff = false) :
    b.vlClampEnd n energy = ((b.countClamp n energy).rest n).settleTables := by
  have hidle : b.inShot n = false := by simp [inShot, hclamp, Vl.clamp, Vl.boost, Vl.peak, Vl.hold]
  have hstate : (b.countClamp n energy).vlSt n = Vl.clamp := (countClamp_stat b hn energy rfl).trans hclamp
  have hfree : ∀ f, ((b.countClamp n energy).updVl n f).flag F.VLV_STAT_LOCKED n = false :=
    updVl_unlocked ((countClamp_stat b hn energy rfl).trans hlocked)
  have hlittle : decide (100000 < ((b.countClamp n energy).vl n).bucket.sum) = false := by
    rw [countClamp_vl]
    simpa using hsum
  have hunlocked : ((b.countClamp n energy).vl n).lockAt = 0 := by rw [countClamp_vl, hlock]
  have hkept : ((b.countClamp n energy).vl n).disAt = false := by rw [countClamp_vl, hdis]
  have hrests : ∀ f, ((b.countClamp n energy).updVl n f).vlRest n = ((b.countClamp n energy).updVl n f).setVl n Vl.idle :=
    fun f => vlRest_of_fed b (((countClamp_within (l := [R.VLV_CLAMP.at n]) (ps := [.valve n]) b (by simp) (by simp) energy).trans
      (.updVl _ n f (by simp))).pw_eq (by simp)) hfed
  unfold vlClampEnd
  rw [if_neg (by simp [hidle])]
  dsimp only
  rw [← countClamp, hlittle]
  simp only [Bool.false_eq_true, if_false, hstate, hunlocked, hkept, hfree, hrests, beq_self_eq_true, if_true, ne_eq,
    not_true_eq_false, rest, bankOf]

theorem rest_within {l : List Nat} {ps : List Part} (h : Covers n l ps) : b.Within l ps (b.rest n) :=
  ((Within.updVl b n _ h.valve).trans (.setF _ F.VLV_STAT_STATE n _ h.stat)).trans (syncBank_within _ h.bstat h.lsBy)

theorem rest_vlSt (hn : n < 32) : (b.rest n).vlSt n = Vl.idle := by
  rw [rest, vlSt, syncBank_valve_getF _ hn (g := F.VLV_STAT_STATE) (stat_mem_valveRegs n)]
  exact setVl_vlSt _ n (by decide)

theorem rest_vl : (b.rest n).vl n = { b.vl n with shot := none, lockAt := 0, disAt := false } := by
  rw [rest, syncBank_vl, setVl, setF_vl, updVl_same]

/-- The registers of the end of a clamp of valve n: those of its bank, its clamp window, and the status of the tables. -/
def clampRegs (n : Nat) : List Nat := R.VLV_TSTAT.offs ++ [R.VLV_CLAMP.at n] ++ bankRegs (n / 4)

theorem clampRegs_readyReg : ∀ n < 32, ∀ x ∈ clampRegs n, readyReg x = false := by decide

/-- The registers that the statements about the end of a clamp name. -/
theorem clampRegs_subset (n : Nat) : clampRegs n ⊆ offsOf [R.VLV_TSTAT] ++ [R.BST_BSTAT.at (n / 4)] ++ R.VLV_CLAMP.four (n / 4 * 4) ++
    R.VLV_STAT.four (n / 4 * 4) ++ R.VLV_CFG.four (n / 4 * 4) ++ R.VLV_COUNT.four (n / 4 * 4) ++
    R.VLV_MEAS.four (n / 4 * 4) ++ R.VLV_TEMP.four (n / 4 * 4) := by
  intro x hx
  have hwindow := mem_four R.VLV_CLAMP n
  simp only [clampRegs, bankRegs, offsOf, List.flatMap_cons, List.flatMap_nil, List.append_nil, List.mem_append] at hx ⊢
  rcases hx with (htable | hclamp) | ((hbank | hstat) | hcount) | hmeas
  · simp [htable]
  · simp [List.mem_singleton.mp hclamp, hwindow]
  · simp [List.mem_singleton.mp hbank]
  · simp [hstat]
  · simp [hcount]
  · simp [hmeas]

end ClampEnd

/-! ### The coil model -/

section Coil

variable {n : Nat} (b : Block)

theorem reLevel_temp : ((b.reLevel n).vl n).temp = (b.vl n).temp := by
  have hlevel : ∀ ma, ((b.setLevel n ma).vl n).temp = (b.vl n).temp := fun ma => by simp [setLevel]
  unfold reLevel
  dsimp only
  split
  · exact hlevel _
  · split
    · exact hlevel _
    · rfl

/-- The registers of a coil temperature. -/
def coilRegs (n : Nat) : List Nat := [R.VLV_STAT.at n, R.VLV_TEMP.at n]

theorem stat_mem_coilRegs (n : Nat) : R.VLV_STAT.at n ∈ coilRegs n := by simp [coilRegs]

theorem temp_mem_coilRegs (n : Nat) : R.VLV_TEMP.at n ∈ coilRegs n := by simp [coilRegs]

theorem coilRegs_readyReg : ∀ n < 32, ∀ x ∈ coilRegs n, readyReg x = false := by decide

/-- The temperature stands in the record and in VLV_TEMP (R199). -/
def noteTemp (n : Nat) (t : Rat) (b : Block) : Block :=
  (b.updVl n fun v => { v with temp := some t }).setF F.VLV_TEMP_TEMP n (tempWord t)

/-- Its factor stands there, and derating that begins shows (R200). -/
def noteFactor (was : Rat) (n : Nat) (f : Rat) (b : Block) : Block :=
  if f < 1 ∧ was = 1 then (b.setF F.VLV_TEMP_FACTOR n (f * 100).floor.toNat).vstick F.VLV_STAT_DERATE n
  else b.setF F.VLV_TEMP_FACTOR n (f * 100).floor.toNat

/-- HOT from TMAX on, until the coil is 10 °C below it (R200). -/
def judgeHot (n : Nat) (t : Rat) (b : Block) : Block :=
  if (b.getF F.VLV_THERM_TMAX n : Rat) ≤ t then b.setF F.VLV_STAT_HOT n 1
  else if t < (b.getF F.VLV_THERM_TMAX n : Rat) - 10 then b.setF F.VLV_STAT_HOT n 0 else b

theorem setTempFrom_eq (was t : Rat) : b.setTempFrom was n t =
    (((b.noteTemp n t).noteFactor was n ((b.noteTemp n t).derate n t)).reLevel n).judgeHot n t := rfl

theorem noteTemp_stays (t : Rat) : b.Stays (coilRegs n) [.valve n] (b.noteTemp n t) :=
  (Stays.updVl b n _ (by simp)).trans (.setF _ F.VLV_TEMP_TEMP n _ (temp_mem_coilRegs n))

theorem noteFactor_stays (hn : n < 32) (was f : Rat) : b.Stays (coilRegs n) [] (b.noteFactor was n f) := by
  have hfactor : b.Stays (coilRegs n) [] (b.setF F.VLV_TEMP_FACTOR n (f * 100).floor.toNat) :=
    .setF b _ n _ (temp_mem_coilRegs n)
  exact .ite _ (hfactor.trans (vstick_stays _ rfl (stat_mem_coilRegs n) hn)) hfactor

theorem judgeHot_stays (t : Rat) : b.Stays (coilRegs n) [] (b.judgeHot n t) :=
  .ite _ (.setF b F.VLV_STAT_HOT n 1 (stat_mem_coilRegs n)) (.ite _ (.setF b F.VLV_STAT_HOT n 0 (stat_mem_coilRegs n)) (.refl b))

theorem judgeHot_vl (t : Rat) : (b.judgeHot n t).vl n = b.vl n := by
  unfold judgeHot
  split
  · exact setF_vl ..
  · split
    · exact setF_vl ..
    · rfl

theorem setTempFrom_stays (hn : n < 32) (was t : Rat) : b.Stays (coilRegs n) [.valve n] (b.setTempFrom was n t) :=
  (((noteTemp_stays b t).trans ((noteFactor_stays _ hn was _).mono (List.Subset.refl _) (List.nil_subset _))).trans
    (.of_within (reLevel_within _ (by simp)))).trans ((judgeHot_stays _ t).mono (List.Subset.refl _) (List.nil_subset _))

/-- The record keeps the temperature taken. -/
theorem setTempFrom_temp (hn : n < 32) (ht : b.Tame) (was t : Rat) : ((b.setTempFrom was n t).vl n).temp = some t := by
  have htame : (b.noteTemp n t).Tame := (noteTemp_stays b t ht (coilRegs_readyReg n hn)).tame (coilRegs_readyReg n hn) ht
  have hfactor := noteFactor_stays (b.noteTemp n t) hn was ((b.noteTemp n t).derate n t) htame (coilRegs_readyReg n hn)
  rw [setTempFrom_eq, judgeHot_vl, reLevel_temp, hfactor.vl_eq List.not_mem_nil, noteTemp, setF_vl, updVl_same]

end Coil

/-! ### Shots that fall due -/

section ShotDue

variable {n : Nat} {b : Block}

theorem count_ne_meas : ∀ n < 32, R.VLV_COUNT.at n ≠ R.VLV_MEAS.at n := by decide

theorem bstat_recordReg : ∀ k < 8, recordReg (R.BST_BSTAT.at k) = false := by decide

/-- Rejecting a waiting shot leaves the state of its bank. -/
theorem rejectOne_bstate {m : Nat} (hm : m < 32) (ht : b.Tame) :
    (rejectOne (m / 4) b m).getF F.BST_BSTAT_BSTATE (m / 4) = b.getF F.BST_BSTAT_BSTATE (m / 4) := by
  have hready : ∀ x ∈ valveRegs m, readyReg x = false := fun x hx =>
    bankRegs_readyReg (m / 4) (by omega) x (valveRegs_subset_bankRegs m hx)
  have hdrop : b.Within (valveRegs m) [.valve m] (b.dropWaiting F.VLV_STAT_OVLP m) :=
    dropWaiting_stays b rfl hm (stat_mem_valveRegs m) (count_mem_valveRegs m) (List.mem_singleton_self _) ht hready
  unfold rejectOne
  split
  · rw [satF, getF_setF_beside _ F.BST_BSTAT_OVLPCNT F.BST_BSTAT_BSTATE _ _ rfl (by decide) (by decide)]
    exact hdrop.getF_eq (bstat_not_mem_valveRegs m hm) (bstat_recordReg (m / 4) (by omega))
  · rfl

theorem foldl_rejectOne_bstate {k : Nat} (ws : List Nat) (hws : ∀ m ∈ ws, m / 4 = k ∧ m < 32) (b : Block) (ht : b.Tame) :
    (ws.foldl (rejectOne k) b).getF F.BST_BSTAT_BSTATE k = b.getF F.BST_BSTAT_BSTATE k := by
  induction ws generalizing b with
  | nil => rfl
  | cons m ws ih =>
      obtain ⟨rfl, hm⟩ := hws m (List.mem_cons_self ..)
      have hready := bankRegs_readyReg (m / 4) (by omega)
      have htame := (rejectOne_stays b hm (fires_bank hm) ht hready).tame hready ht
      rw [List.foldl_cons, ih (fun w hw => hws w (List.mem_cons_of_mem _ hw)) _ htame, rejectOne_bstate hm ht]

theorem rejectLate_bstate (hn : n < 32) (ht : b.Tame) :
    (b.rejectLate (n / 4)).getF F.BST_BSTAT_BSTATE (n / 4) = b.getF F.BST_BSTAT_BSTATE (n / 4) := by
  rw [rejectLate_eq]
  refine foldl_rejectOne_bstate _ (fun m hm => ?_) b ht
  have hbank := (of_mem_waiting b hm).1
  exact ⟨hbank, by omega⟩

theorem valveRegs_not_profile (n : Nat) (hn : n < 32) : ∀ x ∈ valveRegs n, isProfile x = false := fun x hx =>
  bankRegs_not_profile (n / 4) (by omega) x (valveRegs_subset_bankRegs n hx)

/-- A shot whose profile begins with peak starts there. -/
theorem startShot_of_peak (hn : n < 32) (x : Shot) (tick : Nat) (hboost : b.hasBoost x.prof = false)
    (hpeak : b.ipMa x.prof ≠ 0) :
    b.startShot n x tick = ((b.countShot n x tick).enterPeak n x).syncBank (n / 4) := by
  have hcount := countShot_within (l := valveRegs n) (ps := [.valve n]) b (count_mem_valveRegs n) (by simp) x tick
  have hboost' := (hcount.hasBoost_eq (valveRegs_not_profile n hn) x.prof).trans hboost
  have hpeak' := (hcount.ipMa_eq (valveRegs_not_profile n hn) x.prof).trans_ne hpeak
  rw [startShot_eq, firstPhase, if_neg (by simp [hboost']), if_pos (by simpa using hpeak')]

theorem count_not_mem_stat : ∀ n < 32, R.VLV_COUNT.at n ∉ [R.VLV_STAT.at n] := by decide

/-- It is in peak, it counts, and its start is on record. -/
theorem startShot_peak_effect (hn : n < 32) (x : Shot) (tick : Nat) (hboost : b.hasBoost x.prof = false)
    (hpeak : b.ipMa x.prof ≠ 0) :
    (b.startShot n x tick).vlSt n = Vl.peak ∧ ((b.startShot n x tick).vl n).last = some tick ∧
      (b.startShot n x tick).getF F.VLV_COUNT_FIRED n = (b.getF F.VLV_COUNT_FIRED n + 1) % 65536 := by
  rw [startShot_of_peak hn x tick hboost hpeak]
  refine ⟨?_, ?_, ?_⟩
  · rw [vlSt, syncBank_valve_getF _ hn (g := F.VLV_STAT_STATE) (stat_mem_valveRegs n)]
    exact enterPhase_vlSt _ (by decide) _ _ _
  · rw [syncBank_vl, enterPeak, enterPhase_last, countShot, wrapF, setF_vl, updVl_same]
  · have hphase : (b.countShot n x tick).Within [R.VLV_STAT.at n] [.valve n] ((b.countShot n x tick).enterPeak n x) :=
      enterPhase_within _ (by simp) (by simp) _ _ _ _
    rw [syncBank_valve_getF _ hn (g := F.VLV_COUNT_FIRED) (count_mem_valveRegs n),
      hphase.getF_eq (count_not_mem_stat n hn) (valveRegs_recordReg n hn _ (count_mem_valveRegs n)),
      countShot, wrapF, getF_setF_same _ _ _ _ (by decide)]
    rfl

/-- A shot without a boost phase starts at once on a valve that rests, in a bank that is not locked (R187, R195). -/
theorem shotDue_of_idle (hn : n < 32) (ht : b.Tame) (x : Shot) (hidle : b.vlSt n = Vl.idle)
    (hlocked : b.getF F.VLV_STAT_LOCKED n = 0) (hbank : b.getF F.BST_BSTAT_BSTATE (n / 4) ≠ 3)
    (hboost : b.hasBoost x.prof = false) :
    b.shotDue n x = ((b.rejectLate (n / 4)).setF F.VLV_MEAS_DLY n 0).startShot n { x with bat := false } b.pw.tbase := by
  have hlate := rejectLate_stays b hn (by rw [hidle]; decide) ht (mateRegs_readyReg hn)
  have hstate : (b.rejectLate (n / 4)).vlSt n = Vl.idle :=
    (hlate.mate_getF hn (f := F.VLV_STAT_STATE) (stat_mem_valveRegs n)).trans hidle
  have hfree : (b.rejectLate (n / 4)).flag F.VLV_STAT_LOCKED n = false := by
    rw [flag, hlate.mate_getF hn (f := F.VLV_STAT_LOCKED) (stat_mem_valveRegs n), hlocked]
    rfl
  have hopen : ((b.rejectLate (n / 4)).getF F.BST_BSTAT_BSTATE (n / 4) == 3) = false := by
    rw [rejectLate_bstate hn ht]
    simpa using hbank
  have hnone : (b.rejectLate (n / 4)).hasBoost x.prof = false :=
    (hlate.hasBoost_eq (fun y hy => bankRegs_not_profile (n / 4) (by omega) y (mateRegs_subset n hy)) x.prof).trans hboost
  have hpw : (b.rejectLate (n / 4)).pw = b.pw := hlate.pw_eq fun hp => pw_not_mem_bankParts (mateParts_subset n hp)
  simp [shotDue, bankOf, hstate, hfree, hopen, hnone, hpw]

/-- The shot of a table entry that falls due now. -/
def entryShot (b : Block) (t : Nat) (e : ShotEntry) : Shot := { prof := e.prof, hold := e.hold, table := some t, due := b.pw.tbase }

/-- Beside the shot, the last entry of a table that runs once ends its pass, which shows in the status of tables only. -/
theorem tableShot_within {t i : Nat} {e : ShotEntry} (ht : t < 16) (hentry : (b.tbl t).entries[i]? = some e)
    (hruns : b.getF F.VLV_TSTAT_TSTATE t = 2) :
    (b.shotDue e.valve (b.entryShot t e)).Within R.VLV_TSTAT.offs [] (b.tableShot t i) := by
  unfold tableShot
  simp only [hentry, hruns, beq_self_eq_true, Bool.not_true, Bool.false_eq_true, if_false]
  refine .ite _ (((Within.setF _ F.VLV_TSTAT_PASSES t _ (tstat_mem ht)).trans
    (.setF _ F.VLV_TSTAT_TSTATE t _ (tstat_mem ht))).trans (settleTables_within _ (List.Subset.refl _))) (.refl _)

end ShotDue

/-- The registers that the statement about SHOT_DUE names. -/
def shotRegs : List Nat := offsOf [R.BST_BSTAT, R.BST_STAT, R.VLV_COUNT, R.VLV_MEAS, R.VLV_STAT, R.VLV_TSTAT]

theorem shotRegs_readyReg : ∀ x ∈ shotRegs, readyReg x = false := by decide +kernel

theorem bankRegs_subset_shotRegs : ∀ k < 8, ∀ x ∈ bankRegs k, x ∈ shotRegs := by decide +kernel

theorem tstat_subset_shotRegs : R.VLV_TSTAT.offs ⊆ shotRegs := fun _ hx => mem_offsOf (r := R.VLV_TSTAT) (by simp) hx

end Block

/-! ### The commands of shots, tables and coils -/

section ShotCommands

open Block

/-- A command whose effect stays within the bank of valve n completes with it. -/
theorem completes_of_bank {c : Instr} {s : State} {f : Block → Block} {E : Block → Prop} (n : Fin 32)
    (hx : exec c s = s.act f) (hready : s.blk.Ready) (h : s.blk.Stays (bankRegs (n.val / 4)) bankParts (f s.blk))
    (he : s.blk.Within (bankRegs (n.val / 4)) bankParts (f s.blk) → E (f s.blk)) : Completes c s E :=
  completes_of_stays hx hready h (bankRegs_readyReg _ (by omega)) pw_not_mem_bankParts he

variable (s : State)

/-- A shot of a table falls due on a valve that rests, and starts with its peak (R187, R191, R195). -/
theorem completes_shotDue (t : Fin 16) (i : Nat) (e : ShotEntry) (hready : s.blk.Ready)
    (hentry : (s.blk.tbl t).entries[i]? = some e) (hruns : s.blk.getF F.VLV_TSTAT_TSTATE t = 2) (hvalve : e.valve < 32)
    (hidle : s.blk.vlSt e.valve = Vl.idle) (hlocked : s.blk.getF F.VLV_STAT_LOCKED e.valve = 0)
    (hbank : s.blk.getF F.BST_BSTAT_BSTATE (e.valve / 4) ≠ 3) (hboost : s.blk.hasBoost e.prof = false)
    (hpeak : s.blk.ipMa e.prof ≠ 0) :
    Completes (.shotDue t i) s fun b => b.vlSt e.valve = Vl.peak ∧ (b.vl e.valve).last = some s.blk.pw.tbase ∧
      b.getF F.VLV_COUNT_FIRED e.valve = (s.blk.getF F.VLV_COUNT_FIRED e.valve + 1) % 65536 ∧
      s.blk.Beside (offsOf [R.BST_BSTAT, R.BST_STAT, R.VLV_COUNT, R.VLV_MEAS, R.VLV_STAT, R.VLV_TSTAT])
        ([Part.lsBy] ++ Part.valves) b := by
  have hbankReady := bankRegs_readyReg (e.valve / 4) (by omega)
  have hfires := fires_bank hvalve
  have hlate := rejectLate_stays s.blk hvalve (by rw [hidle]; decide) hready.2.1 (mateRegs_readyReg hvalve)
  have hdelay : s.blk.Within (bankRegs (e.valve / 4)) bankParts
      ((s.blk.rejectLate (e.valve / 4)).setF F.VLV_MEAS_DLY e.valve 0) :=
    (hlate.mono (mateRegs_subset _) (mateParts_subset _)).trans (.setF _ F.VLV_MEAS_DLY e.valve 0 hfires.meas)
  have hshot := shotDue_of_idle hvalve hready.2.1 (s.blk.entryShot t e) hidle hlocked hbank hboost
  obtain ⟨hstate, hlast, hfired⟩ := startShot_peak_effect hvalve { s.blk.entryShot t e with bat := false } s.blk.pw.tbase
    ((hdelay.hasBoost_eq (bankRegs_not_profile _ (by omega)) e.prof).trans hboost)
    ((hdelay.ipMa_eq (bankRegs_not_profile _ (by omega)) e.prof).trans_ne hpeak)
  rw [← hshot] at hstate hlast hfired
  have htable := tableShot_within t.isLt hentry hruns
  have hw : s.blk.Within shotRegs bankParts (s.blk.tableShot t i) :=
    ((hshot ▸ hdelay.trans (startShot_within _ hfires _ _)).mono (bankRegs_subset_shotRegs _ (by omega))
      (List.Subset.refl _)).trans (htable.mono tstat_subset_shotRegs (List.nil_subset _))
  refine completes_of_within (f := fun b => b.tableShot t i) rfl hready hw shotRegs_readyReg pw_not_mem_bankParts
    ⟨?_, ?_, ?_, hw.beside⟩
  · exact (htable.valve_getF_of_tables hvalve (g := F.VLV_STAT_STATE) (stat_mem_valveRegs _)).trans hstate
  · rw [htable.vl_eq List.not_mem_nil, hlast]
  · rw [htable.valve_getF_of_tables hvalve (g := F.VLV_COUNT_FIRED) (count_mem_valveRegs _), hfired,
      getF_setF_other _ F.VLV_MEAS_DLY F.VLV_COUNT_FIRED _ _ 0 (count_ne_meas _ hvalve),
      hlate.mate_getF hvalve (f := F.VLV_COUNT_FIRED) (count_mem_valveRegs _)]

/-- A repeating table starts its next pass (R191, R193). -/
theorem completes_tablePassStart (t : Fin 16) (hready : s.blk.Ready) (hruns : s.blk.getF F.VLV_TSTAT_TSTATE t = 2)
    (hrepeats : (s.blk.tbl t).period ≠ 0) (halone : ∀ u ∈ List.range 16, (s.blk.tbl u).inPlace ≠ some t.val) :
    Completes (.tablePassStart t) s fun b =>
      b.getF F.VLV_TSTAT_PASSES t = (s.blk.getF F.VLV_TSTAT_PASSES t + 1) % 65536 ∧
      (b.tbl t).start = (s.blk.tbl t).start + (s.blk.tbl t).period ∧ s.blk.Beside (offsOf [R.VLV_TSTAT]) Part.tables b := by
  have hnone : (List.range 16).filter (fun u => ((s.blk.wrapF F.VLV_TSTAT_PASSES t 1).tbl u).inPlace == some t.val) = [] :=
    List.filter_eq_nil_iff.mpr fun u hu => by
      have hu := halone u hu
      simpa using hu
  have heffect : s.blk.passStart t = (s.blk.wrapF F.VLV_TSTAT_PASSES t 1).updTbl t fun x => { x with start := x.start + x.period } := by
    unfold passStart
    rw [if_neg (by simp [hruns, hrepeats])]
    dsimp only
    rw [hnone]
  have hw : s.blk.Within (offsOf [R.VLV_TSTAT]) Part.tables (s.blk.passStart t) := heffect ▸
    (Within.setF s.blk F.VLV_TSTAT_PASSES t _ (mem_offsOf (List.mem_singleton_self _) (tstat_mem t.isLt))).trans
      (.updTbl _ t _ (List.mem_map_of_mem (List.mem_range.mpr t.isLt)))
  refine completes_of_within (f := fun b => b.passStart t) rfl hready hw (by decide) (by simp [Part.tables]) ⟨?_, ?_, hw.beside⟩
  · rw [heffect, updTbl_getF, wrapF, getF_setF_same _ _ _ _ (by decide)]
    rfl
  · rw [heffect, updTbl_same]
    rfl

/-- The current reaches IBOOST: the valve goes on to peak (R187). -/
theorem completes_boostLevelReached (n : Fin 32) (x : Shot) (hready : s.blk.Ready) (hshot : (s.blk.vl n).shot = some x)
    (hboost : s.blk.vlSt n = Vl.boost) (hpeak : s.blk.ipMa x.prof ≠ 0) :
    Completes (.boostLevelReached n) s fun b => b.vlSt n = Vl.peak ∧
      b.getF F.VLV_MEAS_IBEND n = (s.blk.vl n).level / 50 % 256 ∧
      s.blk.Beside ([R.BST_BSTAT.at (n.val / 4)] ++ R.VLV_MEAS.four (n.val / 4 * 4) ++ R.VLV_STAT.four (n.val / 4 * 4) ++
        R.VLV_COUNT.four (n.val / 4 * 4)) ([Part.lsBy] ++ Part.valves) b := by
  have heffect : s.blk.boostLevel n = (s.blk.measureBoost n ((s.blk.vl n).level / 50)).toPeak n x := by
    simp only [boostLevel, hshot, hboost, beq_self_eq_true, if_true]
    rfl
  have hmeas := measureBoost_within (b := s.blk) n.isLt ((s.blk.vl n).level / 50)
  have htame := hmeas.tame (bankRegs_readyReg _ (by omega)) hready.2.1
  have hin := inShot_of_boost ((measureBoost_vlSt n.isLt ((s.blk.vl n).level / 50)).trans hboost)
  have hnext := (hmeas.ipMa_eq (bankRegs_not_profile _ (by omega)) x.prof).trans_ne hpeak
  refine completes_of_bank (f := fun b => b.boostLevel n) n rfl hready ?_ fun hw => ⟨?_, ?_, hw.beside.mono ?_ fun _ hp => hp⟩
  · exact heffect ▸ (Stays.of_within hmeas).trans (toPeak_stays n.isLt hin hnext)
  · rw [heffect, toPeak_vlSt n.isLt hin hnext htame]
  · rw [heffect, toPeak_meas n.isLt hin hnext htame rfl, measureBoost_ibend]
  · intro x hx
    simp only [bankRegs, List.mem_append] at hx ⊢
    tauto

/-- TBOOST elapses before the level: the valve goes on to peak with NREACH (R187, R198). -/
theorem completes_boostTimeLimit (n : Fin 32) (ma : Nat) (x : Shot) (hready : s.blk.Ready)
    (hshot : (s.blk.vl n).shot = some x) (hboost : s.blk.vlSt n = Vl.boost)
    (hcloses : Block.openAtFirst x ma (s.blk.vl n).level = false) (hpeak : s.blk.ipMa x.prof ≠ 0) :
    Completes (.boostTimeLimit n ma) s fun b => b.vlSt n = Vl.peak ∧ b.getF F.VLV_STAT_NREACH n = 1 ∧
      b.getF F.VLV_MEAS_IBEND n = min (ma / 50) 255 ∧
      s.blk.Beside ([R.BST_BSTAT.at (n.val / 4)] ++ R.VLV_MEAS.four (n.val / 4 * 4) ++ R.VLV_STAT.four (n.val / 4 * 4) ++
        R.VLV_COUNT.four (n.val / 4 * 4)) ([Part.lsBy] ++ Part.valves) b := by
  have hmeas := measureBoost_within (b := s.blk) n.isLt (min (ma / 50) 255)
  have htame := hmeas.tame (bankRegs_readyReg _ (by omega)) hready.2.1
  have hmiss := missLevel_stays (ps := bankParts) n.isLt (fires_bank n.isLt).stat false htame (bankRegs_readyReg _ (by omega))
  have htame' := hmiss.tame (bankRegs_readyReg _ (by omega)) htame
  have heffect : s.blk.boostTime n ma = ((s.blk.measureBoost n (min (ma / 50) 255)).missLevel n false).toPeak n x := by
    have hclosed : Block.openAtFirst x ma (((s.blk.measureBoost n (min (ma / 50) 255)).missLevel n false).vl n).level = false := by
      rw [missLevel_vl n.isLt htame]
      exact hcloses
    simp only [boostTime, hshot, hboost, beq_self_eq_true, if_true]
    exact if_neg (ne_true_of_eq_false hclosed)
  have hin : ((s.blk.measureBoost n (min (ma / 50) 255)).missLevel n false).inShot n = true :=
    (missLevel_inShot n.isLt htame false).trans (inShot_of_boost ((measureBoost_vlSt n.isLt _).trans hboost))
  have hnext := ((hmeas.trans hmiss).ipMa_eq (bankRegs_not_profile _ (by omega)) x.prof).trans_ne hpeak
  refine completes_of_bank (f := fun b => b.boostTime n ma) n rfl hready ?_ fun hw => ⟨?_, ?_, ?_, hw.beside.mono ?_ fun _ hp => hp⟩
  · exact heffect ▸ (Stays.of_within (hmeas.trans hmiss)).trans (toPeak_stays n.isLt hin hnext)
  · rw [heffect, toPeak_vlSt n.isLt hin hnext htame']
  · rw [heffect, toPeak_stat n.isLt hin hnext htame' rfl (by decide), missLevel_nreach n.isLt htame]
  · rw [heffect, toPeak_meas n.isLt hin hnext htame' rfl,
      (missLevel_within n.isLt htame false).getF_eq (f := F.VLV_MEAS_IBEND)
        (fun hx => stat_ne_meas n n.isLt (List.mem_singleton.mp hx).symm) (valveRegs_recordReg n n.isLt _ (meas_mem_valveRegs n)), measureBoost_ibend]
    exact Nat.mod_eq_of_lt (by omega)
  · intro x hx
    simp only [bankRegs, List.mem_append] at hx ⊢
    tauto

/-- TPEAK elapses: the valve goes on to hold (R187, R198). -/
theorem completes_peakEnd (n : Fin 32) (ma : Nat) (reached : Bool) (x : Shot) (hready : s.blk.Ready)
    (hshot : (s.blk.vl n).shot = some x) (hpeak : s.blk.vlSt n = Vl.peak)
    (hcloses : Block.openAtFirst x ma (s.blk.vl n).level = false) (hhold : s.blk.ihMa x.prof ≠ 0) :
    Completes (.peakEnd n ma reached) s fun b =>
      (b.vlSt n = Vl.hold ∧ (reached = false → b.getF F.VLV_STAT_NREACH n = 1)) ∧
      s.blk.Beside ([R.BST_BSTAT.at (n.val / 4)] ++ R.VLV_STAT.four (n.val / 4 * 4) ++ R.VLV_COUNT.four (n.val / 4 * 4) ++
        R.VLV_MEAS.four (n.val / 4 * 4)) ([Part.lsBy] ++ Part.valves) b := by
  have hmiss := missLevel_stays (ps := bankParts) n.isLt (fires_bank n.isLt).stat reached hready.2.1
    (bankRegs_readyReg _ (by omega))
  have heffect : s.blk.peakEnd n ma reached = (s.blk.missLevel n reached).nextPhase n x true := by
    have hclosed : Block.openAtFirst x ma ((s.blk.missLevel n reached).vl n).level = false := by
      rw [missLevel_vl n.isLt hready.2.1]
      exact hcloses
    simp only [peakEnd, hshot, hpeak, beq_self_eq_true, if_true]
    exact if_neg (ne_true_of_eq_false hclosed)
  have hin := (missLevel_inShot n.isLt hready.2.1 reached).trans (inShot_of_peak hpeak)
  have hnext := (hmiss.ihMa_eq (bankRegs_not_profile _ (by omega)) x.prof).trans_ne hhold
  have hw := hmiss.trans (nextPhase_hold_within _ x (fires_bank n.isLt).toCovers hin hnext)
  refine completes_of_bank (f := fun b => b.peakEnd n ma reached) n rfl hready (heffect ▸ .of_within hw) fun hw =>
    ⟨⟨?_, ?_⟩, hw.beside⟩
  · rw [heffect, nextPhase_hold_vlSt _ x n.isLt hin hnext]
  · rintro rfl
    rw [heffect, nextPhase_hold_stat _ x n.isLt hin hnext rfl (by decide) (by decide), missLevel_nreach n.isLt hready.2.1]

/-- The hold time elapses: the valve clamps (R187, R198). -/
theorem completes_holdEnd (n : Fin 32) (ma : Nat) (reached : Bool) (us mv : Nat) (x : Shot) (hready : s.blk.Ready)
    (hshot : (s.blk.vl n).shot = some x) (hhold : s.blk.vlSt n = Vl.hold)
    (hcloses : Block.openAtFirst x ma (s.blk.vl n).level = false) (hshort : us < 500) :
    Completes (.holdEnd n ma reached us mv) s fun b => (b.vlSt n = Vl.clamp ∧ b.getF F.VLV_STAT_ABORTS n = 0 ∧
        (reached = false → b.getF F.VLV_STAT_NREACH n = 1)) ∧
      s.blk.Beside ([R.BST_BSTAT.at (n.val / 4)] ++ R.VLV_STAT.four (n.val / 4 * 4) ++ R.VLV_COUNT.four (n.val / 4 * 4) ++
        R.VLV_MEAS.four (n.val / 4 * 4) ++ R.VLV_TEMP.four (n.val / 4 * 4)) ([Part.lsBy] ++ Part.valves) b := by
  have hmiss := missLevel_stays (ps := bankParts) n.isLt (fires_bank n.isLt).stat reached hready.2.1
    (bankRegs_readyReg _ (by omega))
  have hunmeasured : ¬(500 ≤ us ∧ 200 ≤ ma) := by omega
  have heffect : s.blk.holdEnd n ma reached us mv = ((s.blk.missLevel n reached).setF F.VLV_STAT_ABORTS n 0).vlClamp n := by
    have hclosed : Block.openAtFirst x ma ((s.blk.missLevel n reached).vl n).level = false := by
      rw [missLevel_vl n.isLt hready.2.1]
      exact hcloses
    simp only [Block.holdEnd, hshot, hhold, beq_self_eq_true, if_true, if_neg hunmeasured]
    exact if_neg (ne_true_of_eq_false hclosed)
  have hin : ((s.blk.missLevel n reached).setF F.VLV_STAT_ABORTS n 0).inShot n = true := by
    have hkeeps : ((s.blk.missLevel n reached).setF F.VLV_STAT_ABORTS n 0).vlSt n = s.blk.vlSt n :=
      (getF_setF_beside _ F.VLV_STAT_ABORTS F.VLV_STAT_STATE n 0 rfl (by decide) (by decide)).trans
        (missLevel_stat n.isLt hready.2.1 reached rfl (by decide))
    exact inShot_of_hold (hkeeps.trans hhold)
  have hw := (hmiss.trans (.setF _ F.VLV_STAT_ABORTS n 0 (fires_bank n.isLt).stat)).trans
    (vlClamp_within _ (fires_bank n.isLt).toCovers)
  refine completes_of_bank (f := fun b => b.holdEnd n ma reached us mv) n rfl hready (heffect ▸ .of_within hw) fun hw =>
    ⟨⟨?_, ?_, ?_⟩, hw.beside.mono (List.subset_append_left _ _) fun _ hp => hp⟩
  · rw [heffect, vlClamp_vlSt _ n.isLt hin]
  · rw [heffect, vlClamp_stat _ n.isLt hin rfl (by decide), getF_setF_same _ _ _ _ (by decide)]
    rfl
  · rintro rfl
    rw [heffect, vlClamp_stat _ n.isLt hin rfl (by decide),
      getF_setF_beside _ F.VLV_STAT_ABORTS F.VLV_STAT_NREACH n 0 rfl (by decide) (by decide), missLevel_nreach n.isLt hready.2.1]

/-- The clamp of a valve ends: it rests, and the energy enters its window (R189, R190, R201). -/
theorem completes_valveClampEnd (n : Fin 32) (energy : Nat) (hready : s.blk.Ready) (hclamp : s.blk.vlSt n = Vl.clamp)
    (hlock : (s.blk.vl n).lockAt = 0) (hdis : (s.blk.vl n).disAt = false)
    (hsum : (Block.addHead energy (s.blk.vl n).bucket).sum ≤ 100000) (hlocked : s.blk.getF F.VLV_STAT_LOCKED n = 0)
    (hfed : s.blk.vbatcOff = false) :
    Completes (.valveClampEnd n energy) s fun b => b.vlSt n = Vl.idle ∧ (b.vl n).shot = none ∧
      (b.vl n).bucket = Block.addHead energy (s.blk.vl n).bucket ∧
      s.blk.Beside (offsOf [R.VLV_TSTAT] ++ [R.BST_BSTAT.at (n.val / 4)] ++ R.VLV_CLAMP.four (n.val / 4 * 4) ++
        R.VLV_STAT.four (n.val / 4 * 4) ++ R.VLV_CFG.four (n.val / 4 * 4) ++ R.VLV_COUNT.four (n.val / 4 * 4) ++
        R.VLV_MEAS.four (n.val / 4 * 4) ++ R.VLV_TEMP.four (n.val / 4 * 4)) ([Part.lsBy] ++ Part.valves) b := by
  have heffect := vlClampEnd_of_unlocked s.blk n.isLt energy hclamp hlock hdis hsum hlocked hfed
  have hcovers : Covers n.val (clampRegs n) bankParts := by
    obtain ⟨hstat, hbstat, hvalve, hls⟩ := (fires_bank n.isLt).toCovers
    exact ⟨List.mem_append_right _ hstat, List.mem_append_right _ hbstat, hvalve, hls⟩
  have hw : s.blk.Within (clampRegs n) bankParts (s.blk.vlClampEnd n energy) := heffect ▸
    ((countClamp_within s.blk (by simp [clampRegs]) hcovers.valve energy).trans (rest_within _ hcovers)).trans
      (settleTables_within _ fun x hx => by simp [clampRegs, hx])
  have hsettled := settleTables_within (l := R.VLV_TSTAT.offs) (ps := []) ((s.blk.countClamp n energy).rest n) (List.Subset.refl _)
  have hvl : (s.blk.vlClampEnd n energy).vl n =
      { s.blk.vl n with shot := none, lockAt := 0, disAt := false, bucket := Block.addHead energy (s.blk.vl n).bucket,
                        events := Block.addHead 1 (s.blk.vl n).events } := by
    rw [heffect, hsettled.vl_eq List.not_mem_nil, rest_vl, countClamp_vl]
  refine completes_of_within (f := fun b => b.vlClampEnd n energy) rfl hready hw (clampRegs_readyReg n n.isLt)
    pw_not_mem_bankParts ⟨?_, ?_, ?_, hw.beside.mono (clampRegs_subset n) fun _ hp => hp⟩
  · rw [heffect, vlSt, hsettled.valve_getF_of_tables n.isLt (g := F.VLV_STAT_STATE) (stat_mem_valveRegs n)]
    exact rest_vlSt _ n.isLt
  · rw [hvl]
  · rw [hvl]

/-- The coil model takes 1 ms (R199). -/
theorem completes_coilModelTick (n : Fin 32) (msq : Nat) (hready : s.blk.Ready) (hon : s.blk.vlSt n ≠ Vl.disabled)
    (hmodel : s.blk.getF F.VLV_COIL_RREF n ≠ 0) :
    Completes (.coilModelTick n msq) s fun b => (b.vl n).temp = some ((s.blk.vl n).temp.getD (s.blk.ambient n)
      + (s.blk.ambient n + (msq : Rat) / 1000000 * ((s.blk.getF F.VLV_COIL_RREF n : Rat) / 1000) * (1 + (393 : Rat)
      / 100000 * ((s.blk.vl n).temp.getD (s.blk.ambient n) - 20)) * ((s.blk.getF F.VLV_THERM_RTH n : Rat) / 4) -
      (s.blk.vl n).temp.getD (s.blk.ambient n)) / 1000 / (4 * (max 1 (s.blk.getF F.VLV_COIL_TAU n) : Nat))) ∧
      s.blk.Beside [R.VLV_STAT.at n.val, R.VLV_TEMP.at n.val] [Part.valve n.val] b := by
  have heffect : s.blk.coilTick n msq = s.blk.setTempFrom (s.blk.factorNow n) n ((s.blk.vl n).temp.getD (s.blk.ambient n)
      + (s.blk.ambient n + (msq : Rat) / 1000000 * ((s.blk.getF F.VLV_COIL_RREF n : Rat) / 1000) * (1 + (393 : Rat)
      / 100000 * ((s.blk.vl n).temp.getD (s.blk.ambient n) - 20)) * ((s.blk.getF F.VLV_THERM_RTH n : Rat) / 4) -
      (s.blk.vl n).temp.getD (s.blk.ambient n)) / 1000 / (4 * (max 1 (s.blk.getF F.VLV_COIL_TAU n) : Nat))) :=
    if_neg (by simp [hon, hmodel])
  refine completes_of_stays (f := fun b => b.coilTick n msq) (l := coilRegs n) (ps := [.valve n.val]) rfl hready ?_
    (coilRegs_readyReg n n.isLt) (by simp) fun hw => ⟨?_, hw.beside⟩
  · exact heffect ▸ setTempFrom_stays s.blk n.isLt _ _
  · rw [heffect]
    exact setTempFrom_temp s.blk n.isLt hready.2.1 _ _

end ShotCommands

/-- Settles O6: each command changes its converter, its table, or its valve and the bank that this one lies in, where the
waiting shots of other valves that start or are rejected leave the valve itself alone. -/
theorem boostAndShots : Obligations.BoostAndShots := by
  unfold Obligations.BoostAndShots
  exact ⟨completes_boostEnable, completes_boostDisable, completes_boostReadyTimeout, completes_boostOvervoltage,
    completes_boostReadyChange, completes_timebaseRead, completes_shotDue, completes_tablePassStart,
    completes_boostLevelReached, completes_boostTimeLimit, completes_peakEnd, completes_holdEnd, completes_valveClampEnd,
    completes_coilModelTick⟩

end Sys2Proof.Machine
end

section
/-! PROOFS. The valve descriptors: the outcome that VLV_READ reports is looked for in the last completion to its source, and of
two completions for one source the one that waits at another port counts as the last. -/
namespace Sys2Proof.Machine

theorem exec_vlvRead (d : Desc) (s : State) : exec (.vlvRead d) s = s.act fun b => runDesc d Block.vlvRead b := rfl

/-- VLV_READ for valve 0 from queue 2 of node 1: 16 bytes of payload for its record. -/
def readValveDesc : Desc := { src := .node 1 2, dws := [0x35, 0, 0, 0, 16, 1], payload := [] }

/-- The record of valve 0 and the OK go out of CHB at once; the BUSY of an earlier descriptor, which waits at CHA for a buffer of
the neighbour, stands behind them (R428, R429). -/
theorem waitingComplBench_read_outcome :
    ((runDesc readValveDesc Block.vlvRead waitingComplBench).endCommand.outcomeTo (1 : Fin 64) (2 : Fin 64)).map Compl.status =
      some St.busy := by
  decide +kernel

/-- Refutes O8: the clause of VLV_READ takes the outcome from the last completion to the source of the descriptor, and counts
the frames that wait at a port after those that have gone out. In `waitingComplBench` that is an earlier one, with BUSY. -/
theorem not_valveDescriptors : ¬ Obligations.ValveDescriptors := by
  unfold Obligations.ValveDescriptors
  intro h
  obtain ⟨-, -, -, -, -, -, hread, -⟩ := h
  obtain ⟨t, ht, -, hanswered, -⟩ := hread { blk := waitingComplBench } readValveDesc waitingComplBench_ready
    ⟨fun direct => by cases direct <;> decide +kernel, by decide +kernel⟩ ⟨by decide +kernel, by decide +kernel⟩
    (by decide +kernel) (by decide +kernel)
  rw [exec_vlvRead] at ht
  have hlast : (t.blk.outcomeTo (1 : Fin 64) (2 : Fin 64)).map Compl.status = some St.busy := by
    rw [State.act_blk _ _ t ht]
    exact waitingComplBench_read_outcome
  obtain ⟨c, hc, hbusy⟩ := Option.map_eq_some_iff.mp hlast
  rw [Block.answered_of_node rfl (by decide) hc] at hanswered
  simp [hbusy, St.busy, St.ok] at hanswered

end Sys2Proof.Machine
end

section
/-! PROOFS. The lamp and matrix commands: the outcome that LMP_READ reports is looked for in the last completion to its source, which
can be that of another descriptor; and MATRIX_LINE_SWITCH moves every port that scans, where its frame lists one. -/
namespace Sys2Proof.Machine

/-! ### The outcome of LMP_READ -/

theorem exec_lmpRead (d : Desc) (s : State) : exec (.lmpRead d) s = s.act fun b => runDesc d Block.lmpRead b := rfl

/-- A descriptor of another node whose source reports a status other than OK last is not answered by an outcome with OK. -/
theorem Block.not_answered_ok_of_last {b : Block} {d : Desc} {n q : Fin 64} {st : Nat} {ok : Compl → Bool}
    (hsrc : d.src = .node n q) (hop : ¬ (0x90 ≤ d.opcode ∧ d.opcode ≤ 0x95))
    (hlast : (b.outcomeTo n q).map Compl.status = some st) (hst : st ≠ St.ok) :
    b.answered d (fun x => x.status == St.ok && ok x) = false := by
  obtain ⟨c, hc, rfl⟩ := Option.map_eq_some_iff.mp hlast
  rw [answered_of_node hsrc hop hc]
  simp [hst]

/-- LMP_READ for HS0 from queue 2 of node 1: 16 bytes of payload for its record. -/
def readLampDesc : Desc := { src := .node 1 2, dws := [0x43, 0, 0, 0, 16, 1], payload := [] }

/-- The record of HS0 and the OK go out of CHB at once; the BUSY of an earlier descriptor, which waits at CHA for a buffer of
the neighbour, stands behind them (R428, R429). -/
theorem waitingComplBench_readLamp_outcome :
    ((runDesc readLampDesc Block.lmpRead waitingComplBench).endCommand.outcomeTo (1 : Fin 64) (2 : Fin 64)).map Compl.status =
      some St.busy := by
  decide +kernel

/-- Refutes O9: the clause of LMP_READ takes the outcome from the last completion to the source of the descriptor, and counts
the frames that wait at a port after those that have gone out. In `waitingComplBench` that is an earlier one, with BUSY. -/
theorem not_lampDescriptors : ¬ Obligations.LampDescriptors := by
  unfold Obligations.LampDescriptors
  intro h
  obtain ⟨-, -, -, -, hread, -⟩ := h
  obtain ⟨t, ht, -, hanswered, -⟩ := hread { blk := waitingComplBench } readLampDesc waitingComplBench_ready
    ⟨fun direct => by cases direct <;> decide +kernel, by decide +kernel⟩ ⟨by decide +kernel, by decide +kernel⟩
    (by decide +kernel) (by decide +kernel)
  rw [exec_lmpRead] at ht
  have hlast : (t.blk.outcomeTo (1 : Fin 64) (2 : Fin 64)).map Compl.status = some St.busy := by
    rw [State.act_blk _ _ t ht]
    exact waitingComplBench_readLamp_outcome
  rw [Block.not_answered_ok_of_last rfl (by decide) hlast (by decide)] at hanswered
  exact Bool.false_ne_true hanswered

/-! ### The line switch of two ports -/

theorem exec_matrixLineSwitch (s : State) : exec .matrixLineSwitch s = s.act Block.mtxLineSwitch := rfl

/-- A matrix port that a frame does not list keeps its line. -/
theorem Block.Beside.mtx_eq {l : List Nat} {ps : List Part} {o b : Block} (h : o.Beside l ps b) {k : Nat}
    (hk : .mtx k ∉ ps) : b.mtx k = o.mtx k := h.2 (.mtx k) hk

/-- Ports 0 and 1 scan, both at line 0: the frame starts of all ports fall on the same tick (R229). -/
def twoPortBench : Block :=
  { (bench.setF F.MTX_STAT_STATE 0 1).setF F.MTX_STAT_STATE 1 1 with
    lmp := { port := [(0, { scanned := true }), (1, { scanned := true })] } }

theorem twoPortBench_ready : twoPortBench.Ready :=
  ready_congr (b := (bench.setF F.MTX_STAT_STATE 0 1).setF F.MTX_STAT_STATE 1 1)
    (ready_setF _ F.MTX_STAT_STATE 1 1 (by decide) (ready_setF _ F.MTX_STAT_STATE 0 1 (by decide) bench_ready)) rfl rfl rfl

/-- At the end of the slot port 1 goes on to line 1 as well as port 0 (R231). -/
theorem twoPortBench_switch_line : (twoPortBench.mtxLineSwitch.endCommand.mtx 1).line = 1 := by
  decide +kernel

/-- Refutes O10: the frame of the clause of MATRIX_LINE_SWITCH lists the port of the clause alone, and its premises do not say
that no other port scans. In `twoPortBench`, taken for port 0, port 1 goes from line 0 to line 1. -/
theorem not_lampsAndMatrices : ¬ Obligations.LampsAndMatrices := by
  unfold Obligations.LampsAndMatrices
  intro h
  obtain ⟨-, -, -, -, -, hswitch, -⟩ := h
  obtain ⟨t, ht, -, -, hframe⟩ := hswitch { blk := twoPortBench } 0 twoPortBench_ready (by decide +kernel) (by decide +kernel)
  have hline : (t.blk.mtx 1).line = (twoPortBench.mtx 1).line := by
    rw [hframe.mtx_eq (k := 1) (by decide +kernel)]
  rw [exec_matrixLineSwitch] at ht
  rw [State.act_blk _ _ t ht, twoPortBench_switch_line] at hline
  exact absurd hline (by decide +kernel)

end Sys2Proof.Machine
end

section
/-! PROOFS. The pixel ports: PX_SCENE writes its list through an armed injection, which disarms it; the level of a render in
progress is not bounded by the premises of RENDER_COMPLETE; and the outcome that a PX_FSIMG reports is looked for in the last
completion to its source, which can be that of another descriptor. -/
namespace Sys2Proof.Machine

/-! ### A scene list that meets an armed injection -/

theorem exec_pxScene (d : Desc) (s : State) : exec (.pxScene d) s = s.act fun b => runDesc d Block.pxScene b := rfl

/-- Port 3 is in RUN, and an injection is armed at the first word of its scene list B (R259, R322). -/
def armedListBench : Block :=
  ((bench.setF F.PXL_STAT_STATE 3 2).wr R.CATCH_INJADDR 0 (pxList 3 1)).setF F.CATCH_INJ_ARM 0 1

theorem armedListBench_ready : armedListBench.Ready :=
  ready_setF _ F.CATCH_INJ_ARM 0 1 (by decide) (ready_wr _ R.CATCH_INJADDR 0 _ (by decide)
    (ready_setF _ F.PXL_STAT_STATE 3 2 (by decide) bench_ready))

/-- PX_SCENE for port 3 from queue 2 of node 1: one primitive, which draws nothing, and XFADE 5. -/
def sceneDesc : Desc := { src := .node 1 2, dws := [0x50, 0, 0x100, 0, 32, 0, 0, 0, 8, 5], payload := List.replicate 32 0 }

/-- List A is active, so the list is written to B; the write that meets the word of the injection disarms it (R254, R322). -/
theorem armedListBench_scene_disarms :
    (runDesc sceneDesc Block.pxScene armedListBench).endCommand.getF F.CATCH_INJ_ARM 0 = 0 := by
  decide +kernel

/-- Refutes O11: the frame of the clause of PX_SCENE does not list CATCH_INJ, and its premises do not say that no injection is
armed. In `armedListBench` ARM goes from 1 to 0. -/
theorem not_pixelDescriptors : ¬ Obligations.PixelDescriptors := by
  unfold Obligations.PixelDescriptors
  intro h
  obtain ⟨hscene, -⟩ := h
  obtain ⟨t, ht, -, -, hframe⟩ := hscene { blk := armedListBench } sceneDesc armedListBench_ready
    ⟨fun direct => by cases direct <;> decide +kernel, by decide +kernel⟩ ⟨by decide +kernel, by decide +kernel⟩
    (by decide +kernel) (by decide +kernel) (by decide +kernel) (by decide +kernel) (by decide +kernel) (by decide +kernel)
  have harm : t.blk.getF F.CATCH_INJ_ARM 0 = armedListBench.getF F.CATCH_INJ_ARM 0 :=
    hframe.getF_eq (by decide +kernel) (by decide)
  rw [exec_pxScene] at ht
  rw [State.act_blk _ _ t ht, armedListBench_scene_disarms] at harm
  exact absurd harm (by decide +kernel)

/-! ### A render whose level no register holds -/

theorem exec_renderComplete (n : Fin 16) (load : Nat) (tooMuch : Bool) (s : State) :
    exec (.renderComplete n load tooMuch) s = s.act fun b => b.renderDone n load tooMuch := rfl

/-- A streamed render with a level of 50,159,616. No frame start leaves one: PXL_LEVEL.LEVEL has 17 bits (R253, R276). -/
def brightRender : Render := { stream := some (some (pxStream 0 0)), level := 50159616 }

/-- Port 0 renders its one pixel, with luminance and gain 32,768, at the level of `brightRender`, for which the output curve is
read at P[12246]. No curve reaches so far; the address that the model takes for it is that of HQ_EQSTAT[4]. The first word of
the gains has two inverted check bits, and EV251 has its entries in event queue 4. -/
def brightBench : Block :=
  { ((bench.setF F.CATCH_SRC_EQ 251 4).setF F.PXL_GEOM_WIDTH 0 1).setF F.PXL_GEOM_HEIGHT 0 1 with
    mem := [(pxGains 0 + 1, 0x80), (pxStream 0 0 + 1, 0x80)]
    badEcc := [(pxGains 0, 3)]
    px := { port := [(0, { render := some brightRender })] } }

theorem brightBench_sources :
    ∀ e : Fin 256, brightBench.getF F.CATCH_SRC_CLASS e ≤ 1 ∧ brightBench.getF F.CATCH_SRC_ACT e < 8 := by
  decide +kernel

theorem brightBench_ready : brightBench.Ready :=
  ⟨⟨rfl, by decide +kernel, by decide +kernel, by decide +kernel⟩, fun e he => brightBench_sources ⟨e, he⟩, ⟨rfl, rfl⟩,
    by decide +kernel⟩

/-- The code that the clause gives, by P[12246] before the command. -/
theorem brightBench_code_before :
    ((brightBench.renderY (0 : Fin 16) brightRender).zipIdx.map fun y => outCode (brightBench.curveAt (0 : Fin 16))
      (halfAt (brightBench.readMem (pxGains (0 : Fin 16)) (2 * brightBench.pxCount (0 : Fin 16))) (2 * y.2))
      brightRender.level y.1) = [768] := by
  decide +kernel

/-- The read of the gains raises EV251, whose entry does not fit into its queue: OVF and LOST of HQ_EQSTAT[4] are set before
the code is looked up there (R322, R406). -/
theorem brightBench_code_written :
    (brightBench.renderDone (0 : Fin 16) 0 false).endCommand.readMem
      (pxBuffer (0 : Fin 16) (1 - (brightBench.pxp (0 : Fin 16)).front)) (2 * brightBench.pxCount (0 : Fin 16)) =
      leBytes 2 16 := by
  decide +kernel

/-- Refutes O12: the premises of the clause of RENDER_COMPLETE do not bound the level of the render, and with a level beyond
the 17 bits of LEVEL the output curve is read beyond its 33 points. In `brightBench` that is a register which the record of an
occurrence changes, so that the code written is 16 and not 768. -/
theorem not_pixelPorts : ¬ Obligations.PixelPorts := by
  unfold Obligations.PixelPorts
  intro h
  obtain ⟨-, -, -, hrender, -⟩ := h
  obtain ⟨t, ht, -, ⟨-, -, -, hcodes⟩, -⟩ := hrender { blk := brightBench } 0 0 false brightRender brightBench_ready
    (by decide +kernel) (by decide +kernel)
  rw [exec_renderComplete] at ht
  rw [State.act_blk _ _ t ht, brightBench_code_written, brightBench_code_before] at hcodes
  exact absurd hcodes (by decide)

/-! ### The outcome of PX_FSIMG -/

theorem exec_ack (n : Fin 16) (code failed : Byte) (s : State) :
    exec (.ack n code failed) s = s.act fun b => b.pxAck n code.toNat failed.toNat := rfl

/-- PX_FSIMG for port 3 from queue 2 of node 1. -/
def imageDesc : Desc := { src := .node 1 2, dws := [0x58, 0, 0x100, 0, 4, 0, 0, 0, 3], payload := [] }

/-- The image waits for the ACK of the lamp, and the BUSY of an earlier descriptor of the same queue waits at CHA for a buffer
of the neighbour; since then the way to node 1 has become CHB (R277, R428, R429). -/
def waitingImageBench : Block := waitingComplBench.updPx 3 fun p => { p with fsimg := some imageDesc }

theorem waitingImageBench_ready : waitingImageBench.Ready :=
  ready_congr (b := waitingComplBench) waitingComplBench_ready rfl rfl rfl

/-- The OK of the image goes out of CHB at once, and the BUSY that waits at CHA stands behind it. -/
theorem waitingImageBench_outcome :
    (waitingImageBench.pxAck (3 : Fin 16) (7 : Byte).toNat (0 : Byte).toNat).endCommand.outcomeTo (1 : Fin 64) (2 : Fin 64) =
      some { status := St.busy } := by
  decide +kernel

/-- Refutes O13: the clause of ACK takes the outcome from the last completion to the source of the descriptor, and counts the
frames that wait at a port after those that have gone out. In `waitingImageBench` that is an earlier one, with BUSY. -/
theorem not_pixelLink : ¬ Obligations.PixelLink := by
  unfold Obligations.PixelLink
  intro h
  obtain ⟨-, -, -, -, -, -, -, -, hack, -⟩ := h
  obtain ⟨t, ht, -, ⟨-, hanswered⟩, -⟩ := hack { blk := waitingImageBench } 3 0 imageDesc waitingImageBench_ready
    (by decide +kernel) (by decide +kernel)
  rw [exec_ack] at ht
  have hlast : t.blk.outcomeTo (1 : Fin 64) (2 : Fin 64) = some { status := St.busy } := by
    rw [State.act_blk _ _ t ht]
    exact waitingImageBench_outcome
  rw [Block.answered_of_node rfl (by decide) hlast] at hanswered
  exact absurd hanswered (by decide)

end Sys2Proof.Machine
end

section
/-! PROOFS. The field descriptors: the outcome that DI_READ reports is looked for in the last completion to its source, which can be
that of another descriptor. -/
namespace Sys2Proof.Machine

theorem exec_diRead (d : Desc) (s : State) : exec (.diRead d) s = s.act fun b => runDesc d Block.diRead b := rfl

/-- DI_READ for DI5 from queue 2 of node 1: 24 bytes of payload for the levels, the change bits and one record. -/
def readInputDesc : Desc := { src := .node 1 2, dws := [0x60, 0, 0x100, 0, 24, 0x20, 0, 0, 0], payload := [] }

/-- The levels, the change bits, the record of DI5 and the OK go out of CHB at once; the BUSY of an earlier descriptor, which waits
at CHA for a buffer of the neighbour, stands behind them (R428, R429). -/
theorem waitingComplBench_readInput_outcome :
    ((runDesc readInputDesc Block.diRead waitingComplBench).endCommand.outcomeTo (1 : Fin 64) (2 : Fin 64)).map Compl.status =
      some St.busy := by
  decide +kernel

/-- Refutes O14: the clause of DI_READ takes the outcome from the last completion to the source of the descriptor, and counts
the frames that wait at a port after those that have gone out. In `waitingComplBench` that is an earlier one, with BUSY. -/
theorem not_fieldDescriptors : ¬ Obligations.FieldDescriptors := by
  unfold Obligations.FieldDescriptors
  intro h
  obtain ⟨hread, -⟩ := h
  obtain ⟨t, ht, -, ⟨hanswered, -⟩, -⟩ := hread { blk := waitingComplBench } readInputDesc waitingComplBench_ready
    ⟨fun direct => by cases direct <;> decide +kernel, by decide +kernel⟩ ⟨by decide +kernel, by decide +kernel⟩
    (by decide +kernel)
  rw [exec_diRead] at ht
  have hlast : (t.blk.outcomeTo (1 : Fin 64) (2 : Fin 64)).map Compl.status = some St.busy := by
    rw [State.act_blk _ _ t ht]
    exact waitingComplBench_readInput_outcome
  rw [Block.not_answered_ok_of_last rfl (by decide) hlast (by decide)] at hanswered
  exact Bool.false_ne_true hanswered

end Sys2Proof.Machine
end

section
/-! PROOFS. The sticky bits of the catchment: an occurrence that the catchment only records sets its own and clears none. -/
namespace Sys2Proof.Machine

/-! ### Bits of a word -/

theorem bit_eq_bits (w i : Nat) : bit w i = (bits w i i == 1) := by simp [bit, bits]

theorem bit_putBits_same (w i v : Nat) : bit (putBits w i i v) i = (v % 2 == 1) := by
  rw [bit_eq_bits, bits_putBits_same _ _ _ _ (Nat.le_refl i), Nat.add_sub_cancel_left, pow_one]

theorem bit_putBits_ne (w v : Nat) {i j : Nat} (h : j ≠ i) : bit (putBits w i i v) j = bit w j := by
  rw [bit_eq_bits, bit_eq_bits]
  rcases Nat.lt_or_gt_of_ne h with hbelow | habove
  · rw [bits_putBits_below _ _ _ _ _ _ (Nat.le_refl i) hbelow]
  · rw [bits_putBits_above _ _ _ _ _ _ (Nat.le_refl i) habove]

/-- The registers of the sticky bits (R305). -/
def stickyReg (o : Nat) : Bool := decide (0x2020 ≤ o ∧ o < 0x2040)

theorem sticky_at {e : Nat} (he : e < 256) : R.CATCH_STICKY.at (e / 32) = 0x2020 + 4 * (e / 32) := by
  simp only [Reg.at, R.CATCH_STICKY]
  omega

theorem stickyReg_sticky {e : Nat} (he : e < 256) : stickyReg (R.CATCH_STICKY.at (e / 32)) = true := by
  rw [sticky_at he]
  simp [stickyReg]
  omega

theorem stickyReg_log (i : Nat) : stickyReg (R.CATCH_LOG.at i) = false := by
  simp [stickyReg, Reg.at, R.CATCH_LOG]
  omega

theorem stickyReg_xstat {x : Nat} (hx : x < 64) : stickyReg (R.CDC_XSTAT.at x) = false := by
  rw [Block.xstat_at x hx]
  simp [stickyReg]
  omega

theorem stickyReg_sum (i : Nat) : stickyReg (R.CDC_SUM.at i) = false := by
  simp [stickyReg, Reg.at, R.CDC_SUM]
  omega

theorem stickyReg_eventQueue (e : Nat) :
    stickyReg (R.HQ_EQSTAT.at e) = false ∧ stickyReg (R.HQ_EQIDX.at e) = false := by
  simp [stickyReg, Reg.at, R.HQ_EQSTAT, R.HQ_EQIDX]
  omega

namespace Block

/-- No sticky bit that is set in a is cleared in b. -/
def KeepsEvents (a b : Block) : Prop := ∀ e < 256, a.HasEvent e → b.HasEvent e

namespace KeepsEvents

variable {a b c : Block}

theorem refl (b : Block) : b.KeepsEvents b := fun _ _ h => h

theorem trans (h : a.KeepsEvents b) (k : b.KeepsEvents c) : a.KeepsEvents c := fun e he hset => k e he (h e he hset)

theorem ite (p : Prop) [Decidable p] (h : a.KeepsEvents b) (k : a.KeepsEvents c) : a.KeepsEvents (if p then b else c) := by
  split
  · exact h
  · exact k

theorem of_regs (h : b.regs = a.regs) : a.KeepsEvents b := fun e _ hset => by
  rw [HasEvent, rd, h]
  exact hset

theorem wr (b : Block) (r : Reg) (n w : Nat) (h : stickyReg (r.at n) = false) : b.KeepsEvents (b.wr r n w) :=
  fun e he hset => by
    have hne : R.CATCH_STICKY.at (e / 32) ≠ r.at n := fun heq => by
      rw [← heq, stickyReg_sticky he] at h
      cases h
    rw [HasEvent, rd_wr_ne _ _ _ _ _ _ hne]
    exact hset

theorem setF (b : Block) (f : RegField) (n v : Nat) (h : stickyReg (f.reg.at n) = false) : b.KeepsEvents (b.setF f n v) :=
  wr b f.reg n _ h

theorem satF (b : Block) (f : RegField) (n v : Nat) (h : stickyReg (f.reg.at n) = false) : b.KeepsEvents (b.satF f n v) :=
  wr b f.reg n _ h

theorem foldl {α : Type} (f : Block → α → Block) (xs : List α) (h : ∀ x ∈ xs, ∀ b : Block, b.KeepsEvents (f b x)) (b : Block) :
    b.KeepsEvents (xs.foldl f b) := by
  induction xs generalizing b with
  | nil => exact refl b
  | cons x xs ih =>
      exact (h x (List.mem_cons_self ..) b).trans (ih (fun y hy => h y (List.mem_cons_of_mem _ hy)) _)

end KeepsEvents

/-! ### What an occurrence does beside its sticky bit -/

theorem islandRestart_keepsEvents (b : Block) : b.KeepsEvents (b.islandRestart 3) := by
  unfold islandRestart islandRun
  exact .ite _ (((KeepsEvents.setF b F.CDC_ISTAT_RUN 3 _ (by decide)).trans (.setF _ F.CDC_ISTAT_GATED 3 _ (by decide))).trans
    (.setF _ F.CDC_ISTAT_WAKECNT 3 _ (by decide))) (.refl b)

theorem sendFrame_keepsEvents (b : Block) (f : Frame) : b.KeepsEvents (b.sendFrame f) :=
  .ite _ (.of_regs rfl) (.of_regs rfl)

theorem msix_keepsEvents (v : Nat) (b : Block) : b.KeepsEvents (b.msix v) :=
  .ite _ (.refl b) (.ite _ (.of_regs rfl) (.ite _ (.refl b) ((islandRestart_keepsEvents b).trans (.of_regs rfl))))

theorem eqOffer_keepsEvents (e typ src node time : Nat) (ws : List Nat) (b : Block) :
    b.KeepsEvents (b.eqOffer e typ src node time ws).1 := by
  obtain ⟨hstat, hidx⟩ := stickyReg_eventQueue e
  have hcounted : b.KeepsEvents { b with hq := { b.hq with eseq := Tab.put b.hq.eseq e ((Tab.get 0 b.hq.eseq e + 1) % 2 ^ 32) } } :=
    .of_regs rfl
  unfold eqOffer
  dsimp only
  split
  · refine .trans (((hcounted.trans (islandRestart_keepsEvents _)).trans (.of_regs rfl)).trans ?_) (msix_keepsEvents _ _)
    exact (KeepsEvents.setF _ F.HQ_EQIDX_TAIL e _ hidx).trans (.of_regs rfl)
  · exact ((hcounted.trans (.satF _ F.HQ_EQSTAT_LOST e 1 hstat)).trans (.setF _ F.HQ_EQSTAT_OVF e 1 hstat)).trans (.of_regs rfl)

theorem eventGo_keepsEvents (e typ src : Nat) (ws : List Nat) (b : Block) :
    b.KeepsEvents (b.eventGo e typ src ws).1 := by
  unfold eventGo
  split
  · exact eqOffer_keepsEvents _ _ _ _ _ _ b
  split
  · exact sendFrame_keepsEvents b _
  · exact .refl b

theorem eventCopy_keepsEvents (e typ src : Nat) (ws : List Nat) (b : Block) :
    b.KeepsEvents (b.eventCopy e typ src ws).1 := by
  unfold eventCopy
  split
  · exact .refl b
  split
  · exact eqOffer_keepsEvents _ _ _ _ _ _ b
  split
  · split
    · exact sendFrame_keepsEvents b _
    · exact .refl b
  · exact .refl b

theorem eventAct_keepsEvents (o : Occ) (r : Reaction) (b : Block) : b.KeepsEvents (b.eventAct o r).1 := by
  unfold eventAct
  split
  · exact (eventGo_keepsEvents _ _ _ _ b).trans (eventCopy_keepsEvents _ _ _ _ _)
  · exact .refl b

theorem intRaise_keepsEvents (e : Nat) (b : Block) : b.KeepsEvents (b.intRaise e) := by
  unfold intRaise forN
  dsimp only
  generalize (if 12 < b.getF F.HEP_ROUTE_LINE e then 12 else b.getF F.HEP_ROUTE_LINE e) = line
  refine .foldl _ _ (fun t _ c => ?_) b
  generalize (if t = 0 then 0 else t + 1) = core
  split
  · split
    · exact .refl c
    · exact .of_regs rfl
  · exact .refl c

theorem logEntry_keepsEvents (o : Occ) (cls act : Nat) (b : Block) : b.KeepsEvents (b.logEntry o cls act) := by
  unfold logEntry
  generalize b.getF F.CATCH_LOGPTR_NEXT 0 = i
  have hentry : ∀ w0 w1 w2 w3, b.KeepsEvents ((((b.wr R.CATCH_LOG (4 * i) w0).wr R.CATCH_LOG (4 * i + 1) w1).wr
      R.CATCH_LOG (4 * i + 2) w2).wr R.CATCH_LOG (4 * i + 3) w3) := fun w0 w1 w2 w3 =>
    (((KeepsEvents.wr b _ _ w0 (stickyReg_log _)).trans (.wr _ _ _ w1 (stickyReg_log _))).trans
      (.wr _ _ _ w2 (stickyReg_log _))).trans (.wr _ _ _ w3 (stickyReg_log _))
  refine .ite _ (.satF b F.CATCH_LOGPTR_LOST 0 1 (by decide)) ?_
  refine .trans (.trans ?_ (.setF _ F.CATCH_LOGPTR_NEXT 0 _ (by decide))) (.of_regs rfl)
  exact .ite _ ((hentry _ _ _ _).trans ((KeepsEvents.setF _ F.CATCH_LOGPTR_WRAP 0 1 (by decide)).trans
    (.satF _ F.CATCH_LOGPTR_LOST 0 1 (by decide)))) (hentry _ _ _ _)

theorem cdcSync_keepsEvents (b : Block) {x : Nat} (hx : x < 64) : b.KeepsEvents (b.cdcSync x) :=
  (KeepsEvents.ite _ (.refl b) (.setF b F.CDC_XSTAT_LOST x 0 (stickyReg_xstat hx))).trans
    (.wr _ R.CDC_SUM (x / 32) _ (stickyReg_sum _))

theorem xPass_keepsEvents (o : Occ) (b : Block) : b.KeepsEvents (b.xPass o) := by
  unfold xPass
  split
  · exact .refl b
  · next x hx =>
      have hreg := stickyReg_xstat (crossing_lt o x hx)
      exact (KeepsEvents.setF b F.CDC_XSTAT_PEND x _ hreg).trans (.setF _ F.CDC_XSTAT_PEAK x _ hreg)

theorem xLose_keepsEvents (o : Occ) (b : Block) : b.KeepsEvents (b.xLose o).1 := by
  unfold xLose
  split
  · exact .refl b
  · next x hx =>
      have hlt := crossing_lt o x hx
      have hreg := stickyReg_xstat hlt
      exact ((((KeepsEvents.setF b F.CDC_XSTAT_PEND x _ hreg).trans (.setF _ F.CDC_XSTAT_PEAK x _ hreg)).trans
        (.setF _ F.CDC_XSTAT_SAT x _ hreg)).trans (.satF _ F.CDC_XSTAT_LOST x _ hreg)).trans (cdcSync_keepsEvents _ hlt)

/-! ### Its sticky bit -/

/-- The sticky bit of the source of an occurrence is set (R305). -/
def setSticky (e : Nat) (b : Block) : Block :=
  b.wr R.CATCH_STICKY (e / 32) (putBits (b.rd R.CATCH_STICKY (e / 32)) (e % 32) (e % 32) 1)

theorem setSticky_hasEvent (e : Nat) (b : Block) : (b.setSticky e).HasEvent e := by
  rw [HasEvent, setSticky, rd_wr_same, bit_putBits_same]
  rfl

theorem setSticky_keepsEvents {e : Nat} (he : e < 256) (b : Block) : b.KeepsEvents (b.setSticky e) := fun i hi hset => by
  by_cases hword : i / 32 = e / 32
  · by_cases hbit : i % 32 = e % 32
    · have hsame : i = e := by omega
      exact hsame ▸ setSticky_hasEvent e b
    · rw [HasEvent, setSticky, hword, rd_wr_same, bit_putBits_ne _ _ hbit, ← hword]
      exact hset
  · have hne : R.CATCH_STICKY.at (i / 32) ≠ R.CATCH_STICKY.at (e / 32) := by
      rw [sticky_at hi, sticky_at he]
      omega
    rw [HasEvent, setSticky, rd_wr_ne _ _ _ _ _ _ hne]
    exact hset

/-- What the mark of an occurrence holds beside its sticky bit (R306 to R308). -/
theorem mark_after_sticky (o : Occ) (cls : Nat) (b : Block) : (b.setSticky o.ev).KeepsEvents (b.mark o cls) := by
  have hcount : ∀ c : Block, c.KeepsEvents (c.satF
      (if cls = 0 then F.CATCH_COUNT_CNTC else if cls = 1 then F.CATCH_COUNT_CNTU else F.CATCH_COUNT_CNTF) 0 1) := fun c => by
    refine .satF c _ 0 1 ?_
    split
    · decide
    · split <;> decide
  refine .trans (.ite _ (.refl _) ?_) (hcount _)
  exact ((KeepsEvents.setF _ F.CATCH_STAT_FIRST 0 _ (by decide)).trans (.setF _ F.CATCH_STAT_FIRSTINJ 0 _ (by decide))).trans
    (.setF _ F.CATCH_STAT_FIRSTV 0 1 (by decide))

theorem mark_hasEvent {o : Occ} (he : o.ev < 256) (cls : Nat) (b : Block) : (b.mark o cls).HasEvent o.ev :=
  mark_after_sticky o cls b o.ev he (setSticky_hasEvent o.ev b)

theorem mark_keepsEvents {o : Occ} (he : o.ev < 256) (cls : Nat) (b : Block) : b.KeepsEvents (b.mark o cls) :=
  (setSticky_keepsEvents he b).trans (mark_after_sticky o cls b)

/-! ### Occurrences -/

/-- What follows the mark of an occurrence. -/
def reactTo (o : Occ) (r : Reaction) (b : Block) : Block × List Occ :=
  let b := if Act.has r.acts Act.log then b.logEntry o r.cls r.now else b
  let s := b.safeActs o r
  let b := if Act.has r.now Act.int then s.1.intRaise o.ev else s.1
  let e := b.eventAct o r
  let t := e.1.resetActs o r
  (t.1, s.2 ++ e.2 ++ t.2)

theorem occur_of_passes {o : Occ} {b : Block} (hon : b.catchOn = true) (hroom : b.xFull o = false) :
    b.occur o = ((b.xPass o).mark o ((b.xPass o).reaction o).cls).reactTo o ((b.xPass o).reaction o) := by
  unfold occur
  rw [if_neg (by simp [hon]), if_neg (by simp [hroom])]
  rfl

/-- Where no action goes beyond LOG, INT and EVENT, what follows the mark clears no sticky bit. -/
theorem reactTo_keepsEvents (o : Occ) {r : Reaction} (hacts : r.acts < 8) (hnow : r.now < 8) (hsoc : r.soc = false) (b : Block) :
    b.KeepsEvents (b.reactTo o r).1 := by
  unfold reactTo
  dsimp only
  rw [safeActs_small o r _ hacts hnow, resetActs_small o r _ hnow hsoc]
  exact ((KeepsEvents.ite _ (logEntry_keepsEvents _ _ _ b) (.refl b)).trans (.ite _ (intRaise_keepsEvents _ _) (.refl _))).trans
    (eventAct_keepsEvents _ _ _)

theorem xPass_tame (o : Occ) {b : Block} (ht : b.Tame) : (b.xPass o).Tame := (xPass_recorded o b).tame ht

theorem occur_keepsEvents {o : Occ} {b : Block} (ht : b.Tame) (he : o.ev < 256) : b.KeepsEvents (b.occur o).1 := by
  cases hon : b.catchOn with
  | false =>
    rw [occur, if_pos (by simp [hon])]
    exact .refl b
  | true =>
    cases hfull : b.xFull o with
    | true =>
      rw [occur, if_neg (by simp [hon]), if_pos hfull]
      exact xLose_keepsEvents o b
    | false =>
      obtain ⟨hclass, hact⟩ := xPass_tame o ht o.ev he
      obtain ⟨hacts, hnow, hsoc⟩ := reaction_small o _ hclass hact
      rw [occur_of_passes hon hfull]
      exact ((xPass_keepsEvents o b).trans (mark_keepsEvents he _ _)).trans (reactTo_keepsEvents o hacts hnow hsoc _)

theorem occur_hasEvent {o : Occ} {b : Block} (ht : b.Tame) (he : o.ev < 256) (hon : b.catchOn = true)
    (hroom : b.xFull o = false) : (b.occur o).1.HasEvent o.ev := by
  obtain ⟨hclass, hact⟩ := xPass_tame o ht o.ev he
  obtain ⟨hacts, hnow, hsoc⟩ := reaction_small o _ hclass hact
  rw [occur_of_passes hon hroom]
  exact reactTo_keepsEvents o hacts hnow hsoc _ o.ev he (mark_hasEvent he _ _)

theorem raiseAll_keepsEvents (n : Nat) (os : List Occ) (b : Block) (ht : b.Tame) (ho : ∀ o ∈ os, o.ev < 256) :
    b.KeepsEvents (b.raiseAll n os) := by
  induction n generalizing os b with
  | zero => exact .refl b
  | succ n ih =>
    cases os with
    | nil => exact .refl b
    | cons o os =>
      have he := ho o (List.mem_cons_self ..)
      obtain ⟨hrecorded, hcaused⟩ := occur_recorded o b he (ht _ he).1 (ht _ he).2
      refine (occur_keepsEvents ht he).trans (ih _ _ (hrecorded.tame ht) fun p hp => ?_)
      rcases List.mem_append.mp hp with hp | hp
      · exact ho p (List.mem_cons_of_mem _ hp)
      · exact hcaused p hp

theorem raiseAll_hasEvent (n : Nat) {o : Occ} {b : Block} (ht : b.Tame) (he : o.ev < 256) (hon : b.catchOn = true)
    (hroom : b.xFull o = false) : (b.raiseAll (n + 1) [o]).HasEvent o.ev := by
  obtain ⟨hrecorded, hcaused⟩ := occur_recorded o b he (ht _ he).1 (ht _ he).2
  exact raiseAll_keepsEvents n ([] ++ (b.occur o).2) (b.occur o).1 (hrecorded.tame ht) hcaused o.ev he
    (occur_hasEvent ht he hon hroom)

/-- An occurrence whose crossing has room sets the sticky bit of its source (R305). -/
theorem raiseOpen_hasEvent {e : Nat} {b : Block} (ht : b.Tame) (he : e < 256) (hon : b.catchOn = true)
    (hroom : ∀ x, crossOf e = some x → b.getF F.CDC_XSTAT_PEND x ≠ 255) : (b.raiseOpen e).HasEvent e := by
  have hpasses : b.fresh.2.xFull { ev := e, detail := b.fresh.1 } = false := by
    have hcross : crossing { ev := e, detail := b.fresh.1 } = crossOf e := rfl
    rw [xFull, hcross]
    cases hx : crossOf e with
    | none => rfl
    | some x => exact beq_false_of_ne (hroom x hx)
  exact raiseAll_hasEvent 31 (b := b.fresh.2) ht he hon hpasses

/-- A sticky bit of a unit that becomes 1 sets the sticky bit of its source. -/
theorem stick_hasEvent {f : RegField} {n e : Nat} {b : Block} (hclear : b.getF f n = 0) (hready : readyReg (f.reg.at n) = false)
    (hblock : b.Ready) (he : e < 256) (hcross : ∀ x, crossOf e = some x → x < 56) : (b.stick f n e).HasEvent e := by
  obtain ⟨-, htame, -, hpg, hroom⟩ := ready_setF b f n 1 hready hblock
  have hset : b.stick f n e = (b.setF f n 1).raiseOpen e := if_neg (by simp [flag, hclear])
  rw [hset]
  refine raiseOpen_hasEvent htame he ?_ fun x hx => ?_
  · rw [catchOn]
    exact Bool.or_eq_true_iff.mpr (.inl hpg)
  · have hfew := hroom x (hcross x hx)
    omega

end Block

end Sys2Proof.Machine
end

section
/-! PROOFS. The digital inputs: each command changes the registers and the record of its input, and a level that changes moves the
wipers whose park switch it is. -/
namespace Sys2Proof.Machine

namespace Block

/-! ### Updates of an input -/

namespace Within

variable {l : List Nat} {ps : List Part} {a b : Block}

theorem wr (b : Block) (r : Reg) (n w : Nat) (h : r.at n ∈ l) : b.Within l ps (b.wr r n w) := ⟨beside_wr b r n w ps h, rfl⟩

theorem updDi (b : Block) (n : Nat) (f : DiIn → DiIn) (h : .di n ∈ ps) : b.Within l ps (b.updDi n f) :=
  ⟨beside_updDi b n f l h, rfl⟩

theorem rd_eq (h : a.Within l ps b) {r : Reg} {n : Nat} (hl : r.at n ∉ l) (hr : recordReg (r.at n) = false) :
    b.rd r n = a.rd r n := h.beside.1 _ _ hl hr

theorem direc_eq (h : a.Within l ps b) {n : Nat} (hp : .di n ∉ ps) : b.direc n = a.direc n := h.beside.2 (.di n) hp

theorem hot_eq (h : a.Within l ps b) (hp : .hot ∉ ps) : b.dio.hot = a.dio.hot := (h.beside.2 .hot hp).1

end Within

theorem getF_setF_lt (b : Block) (f : RegField) (n : Nat) {v : Nat} (hf : f.lo ≤ f.hi) (hv : v < 2 ^ (f.hi + 1 - f.lo)) :
    (b.setF f n v).getF f n = v := (getF_setF_same b f n v hf).trans (Nat.mod_eq_of_lt hv)

theorem b2n_lt (p : Bool) : b2n p < 2 := by cases p <;> decide

/-! ### The registers of an input -/

theorem dicfg_readyReg : ∀ n : Fin 64, readyReg (R.DIO_DICFG.at n) = false := by decide

theorem distat_readyReg : ∀ n : Fin 64, readyReg (R.DIO_DISTAT.at n) = false := by decide

theorem diflt_readyReg : ∀ n : Fin 64, readyReg (R.DIO_DIFLT.at n) = false := by decide

theorem dimeas_readyReg : ∀ n : Fin 64, readyReg (R.DIO_DIMEAS.at n) = false := by decide

theorem dicfg_recordReg : ∀ n : Fin 64, recordReg (R.DIO_DICFG.at n) = false := by decide

theorem distat_recordReg : ∀ n : Fin 64, recordReg (R.DIO_DISTAT.at n) = false := by decide

theorem diflt_recordReg : ∀ n : Fin 64, recordReg (R.DIO_DIFLT.at n) = false := by decide

theorem dilvl_recordReg : ∀ n : Fin 64, recordReg (R.DIO_DILVL.at (n / 32)) = false := by decide

theorem dichg_recordReg : ∀ n : Fin 64, recordReg (R.DIO_DICHG.at (n / 32)) = false := by decide

theorem dicfg_ne_distat (m n : Nat) : R.DIO_DICFG.at m ≠ R.DIO_DISTAT.at n := by
  simp only [Reg.at, R.DIO_DICFG, R.DIO_DISTAT]
  omega

theorem distat_ne_distat {m n : Nat} (hm : m < 64) (hn : n < 64) (h : m ≠ n) : R.DIO_DISTAT.at m ≠ R.DIO_DISTAT.at n := by
  simp only [Reg.at, R.DIO_DISTAT]
  omega

theorem diflt_ne_distat : ∀ n : Fin 64, R.DIO_DIFLT.at n ≠ R.DIO_DISTAT.at n := by decide

theorem distat_ne_dilvl : ∀ n : Fin 64, R.DIO_DISTAT.at n ≠ R.DIO_DILVL.at (n / 32) := by decide

theorem diflt_ne_dilvl : ∀ n : Fin 64, R.DIO_DIFLT.at n ≠ R.DIO_DILVL.at (n / 32) := by decide

/-! ### Its status bits -/

section StatusBits

variable {l : List Nat} {ps : List Part} {f : RegField} {n : Fin 64} {b : Block}

theorem distick_stays (hf : f.reg = R.DIO_DISTAT) (hl : R.DIO_DISTAT.at n ∈ l) : b.Stays l ps (b.distick f n) :=
  stick_stays b (hf ▸ hl) (by omega)

theorem distick_within (hf : f.reg = R.DIO_DISTAT) (ht : b.Tame) : b.Within [R.DIO_DISTAT.at n] [] (b.distick f n) :=
  distick_stays hf (List.mem_singleton_self _) ht (by simpa using distat_readyReg n)

theorem distick_same (hf : f.reg = R.DIO_DISTAT) (hbit : f.hi = f.lo) (ht : b.Tame) : (b.distick f n).getF f n = 1 :=
  stick_same hbit ht (hf ▸ distat_readyReg n) (hf ▸ distat_recordReg n) (by omega)

theorem crossOf_input : ∀ g < 8, crossOf (188 + g) = some (g / 2) := by decide

theorem distick_hasEvent (hf : f.reg = R.DIO_DISTAT) (hready : b.Ready) (hclear : b.getF f n = 0) :
    (b.distick f n).HasEvent (188 + n.val / 8) :=
  stick_hasEvent hclear (hf ▸ distat_readyReg n) hready (by omega) fun x hx => by
    rw [crossOf_input _ (by omega)] at hx
    have := Option.some.inj hx
    omega

end StatusBits

/-! ### Configuration -/

section Configuration

variable (n : Fin 64) (b : Block)

/-- The configuration of an input is taken over (R281). -/
def applyDi (n : Nat) (b : Block) : Block :=
  ((b.setF F.DIO_DICFG_EN n 1).updDi n fun r => { cfg := b.rd R.DIO_DICFG n, flt := b.rd R.DIO_DIFLT n, high := r.high }).setBias n

/-- What an enable changes. -/
def enableRegs (n : Nat) : List Nat := [R.DIO_DICFG.at n, R.DIO_DISTAT.at n]

theorem enableRegs_readyReg : ∀ n : Fin 64, ∀ x ∈ enableRegs n, readyReg x = false := by decide

theorem setBias_within {l : List Nat} {ps : List Part} {n : Nat} (h : .di n ∈ ps) : b.Within l ps (b.setBias n) := .updDi b n _ h

theorem setBias_direc (n : Nat) : ((b.setBias n).direc n).cfg = (b.direc n).cfg ∧ ((b.setBias n).direc n).flt = (b.direc n).flt ∧
    ((b.setBias n).direc n).first = (b.direc n).first := by
  simp [setBias]

theorem applyDi_within : b.Within (enableRegs n) [.di n.val] (b.applyDi n) :=
  ((Within.setF b F.DIO_DICFG_EN n 1 (by simp [enableRegs, F.DIO_DICFG_EN])).trans (.updDi _ n _ (by simp))).trans
    (setBias_within _ (by simp))

theorem applyDi_en : (b.applyDi n).getF F.DIO_DICFG_EN n = 1 := getF_setF_lt b F.DIO_DICFG_EN n (by decide) (by decide)

theorem applyDi_direc : ((b.applyDi n).direc n).cfg = b.rd R.DIO_DICFG n ∧ ((b.applyDi n).direc n).flt = b.rd R.DIO_DIFLT n ∧
    ((b.applyDi n).direc n).first = true := by
  obtain ⟨hcfg, hflt, hfirst⟩ := setBias_direc ((b.setF F.DIO_DICFG_EN n 1).updDi n fun r =>
    { cfg := b.rd R.DIO_DICFG n, flt := b.rd R.DIO_DIFLT n, high := r.high }) n
  rw [updDi_same] at hcfg hflt hfirst
  exact ⟨hcfg, hflt, hfirst⟩

variable {n b}

/-- A valid configuration is taken over, and OT set in a group that is too hot (R281, R287). -/
theorem diEnable_of_valid (hoff : b.getF F.DIO_DICFG_EN n = 0) (hmode : b.getF F.DIO_DICFG_MODE n ≤ 4)
    (hreset : b.getF F.DIO_DIFLT_RSTTH n < b.getF F.DIO_DIFLT_SETTH n)
    (hmax : b.getF F.DIO_DIFLT_SETTH n ≤ b.getF F.DIO_DIFLT_CMAX n) (hsum : b.wetSum n (b.rd R.DIO_DICFG n) ≤ 20000) :
    b.diEnable n = if Tab.get false (b.applyDi n).dio.above (n / 8) then (b.applyDi n).distick F.DIO_DISTAT_OT n else b.applyDi n := by
  have hmode' : ¬ 4 < cfgMode (b.rd R.DIO_DICFG n) := Nat.not_lt.mpr hmode
  have hreset' : ¬ bits (b.rd R.DIO_DIFLT n) 7 0 ≤ bits (b.rd R.DIO_DIFLT n) 15 8 := Nat.not_le.mpr hreset
  have hmax' : ¬ bits (b.rd R.DIO_DIFLT n) 23 16 < bits (b.rd R.DIO_DIFLT n) 7 0 := Nat.not_lt.mpr hmax
  have hvalid : (decide (4 < cfgMode (b.rd R.DIO_DICFG n)) || decide (bits (b.rd R.DIO_DIFLT n) 7 0 ≤ bits (b.rd R.DIO_DIFLT n) 15 8) ||
      decide (bits (b.rd R.DIO_DIFLT n) 23 16 < bits (b.rd R.DIO_DIFLT n) 7 0) ||
      decide (20000 < b.wetSum n (b.rd R.DIO_DICFG n))) = false := by
    simp [hmode', hreset', hmax', Nat.not_lt.mpr hsum]
  unfold diEnable
  rw [if_neg (by simp [hoff])]
  exact if_neg (by simp [hvalid])

end Configuration

/-! ### Samples -/

section Samples

variable (n : Fin 64) (mv : Int) (b : Block)

/-- The raw level that input n shows at a voltage (R279). -/
def sampleRaw (b : Block) (n : Nat) (mv : Int) : Bool :=
  ((diCompare (cfgMode (b.direc n).cfg) (b.direc n).high mv == !(cfgMode (b.direc n).cfg == 1)) != cfgInv (b.direc n).cfg) &&
    !(cfgMode (b.direc n).cfg == 0)

/-- The counter of its filter after the sample, and its filtered level (R282). -/
def sampleCount (b : Block) (n : Nat) (mv : Int) : Nat :=
  if b.sampleRaw n mv then min (bits (b.direc n).flt 23 16) (b.getF F.DIO_DIFLT_CNT n + 1) else b.getF F.DIO_DIFLT_CNT n - 1

def sampleLevel (b : Block) (n : Nat) (mv : Int) : Bool :=
  if b.sampleRaw n mv then b.flag F.DIO_DISTAT_LEVEL n || decide (bits (b.direc n).flt 7 0 ≤ b.sampleCount n mv)
  else b.flag F.DIO_DISTAT_LEVEL n && !decide (b.sampleCount n mv ≤ bits (b.direc n).flt 15 8)

/-- The sample stands in the record and the registers of its input, before a change of level has its effects. -/
def takeSample (n : Nat) (mv : Int) (b : Block) : Block :=
  (((b.updDi n fun r => { r with high := diCompare (cfgMode (b.direc n).cfg) (b.direc n).high mv }).setF F.DIO_DISTAT_RAW n
    (b2n (b.sampleRaw n mv))).setF F.DIO_DIFLT_CNT n (b.sampleCount n mv)).diShow n (b.sampleLevel n mv)

theorem diActive_eq (mode : Nat) (inv high : Bool) : diActive mode inv high = (((high == !(mode == 1)) != inv) && !(mode == 0)) := by
  have hlevel : (if mode = 1 then !high else high) = (high == !(mode == 1)) := by
    by_cases h : mode = 1 <;> cases high <;> simp [h]
  rw [diActive, hlevel]

theorem sampleCount_lt : b.sampleCount n mv < 256 := by
  have hmax : bits (b.direc n).flt 23 16 < 256 := bits_lt _ 23 16
  have hcount : b.getF F.DIO_DIFLT_CNT n < 256 := bits_lt _ 31 24
  unfold sampleCount
  split <;> omega

/-- A sample of an enabled input, neither skipped nor its first, moves the filter (R282 to R284). -/
theorem diSample_of_enabled (hen : b.getF F.DIO_DICFG_EN n = 1) (hskip : (b.direc n).skip = false)
    (hfirst : (b.direc n).first = false) :
    b.diSample n mv =
      if b.sampleLevel n mv = b.flag F.DIO_DISTAT_LEVEL n then b.takeSample n mv else (b.takeSample n mv).diChanged n := by
  have hcount : ∀ f : DiIn → DiIn, ∀ v, ((b.updDi n f).setF F.DIO_DISTAT_RAW n v).getF F.DIO_DIFLT_CNT n = b.getF F.DIO_DIFLT_CNT n :=
    fun f v => getF_setF_other _ F.DIO_DISTAT_RAW F.DIO_DIFLT_CNT n n v (diflt_ne_distat n)
  unfold diSample
  rw [if_neg (by simp [hen]), if_neg (by simp [hskip])]
  dsimp only
  rw [if_neg (by simp [hfirst]), diActive_eq, hcount]
  rfl

/-- What a sample changes where the level stays. -/
def filterRegs (n : Nat) : List Nat := [R.DIO_DILVL.at (n / 32), R.DIO_DIFLT.at n, R.DIO_DISTAT.at n]

theorem diShow_within {l : List Nat} {ps : List Part} {n : Nat} (hs : R.DIO_DISTAT.at n ∈ l) (hl : R.DIO_DILVL.at (n / 32) ∈ l)
    (active : Bool) : b.Within l ps (b.diShow n active) :=
  (Within.setF b F.DIO_DISTAT_LEVEL n _ hs).trans (.wr _ R.DIO_DILVL (n / 32) _ hl)

theorem takeSample_within : b.Within (filterRegs n) [.di n.val] (b.takeSample n mv) := by
  have hstat : R.DIO_DISTAT.at n ∈ filterRegs n := by simp [filterRegs]
  exact (((Within.updDi b n _ (by simp)).trans (.setF _ F.DIO_DISTAT_RAW n _ hstat)).trans
    (.setF _ F.DIO_DIFLT_CNT n _ (by simp [filterRegs, F.DIO_DIFLT_CNT]))).trans (diShow_within _ hstat (by simp [filterRegs]) _)

/-- The level shows in DISTAT and in DILVL (R282, R300). -/
theorem diShow_level (active : Bool) : (b.diShow n active).getF F.DIO_DISTAT_LEVEL n = b2n active ∧
    bit ((b.diShow n active).rd R.DIO_DILVL (n / 32)) (n % 32) = active := by
  refine ⟨?_, ?_⟩
  · have hkeeps : (b.diShow n active).rd R.DIO_DISTAT n = (b.setF F.DIO_DISTAT_LEVEL n (b2n active)).rd R.DIO_DISTAT n :=
      rd_wr_ne _ _ _ _ _ _ (distat_ne_dilvl n)
    exact (congrArg (fun w => bits w 0 0) hkeeps).trans (getF_setF_lt b F.DIO_DISTAT_LEVEL n (by decide) (b2n_lt active))
  · rw [diShow, rd_wr_same, bit_putBits_same]
    cases active <;> rfl

theorem diShow_getF (active : Bool) {f : RegField} (hother : f.reg.at n ≠ R.DIO_DILVL.at (n / 32))
    (hlevel : (b.setF F.DIO_DISTAT_LEVEL n (b2n active)).getF f n = b.getF f n) : (b.diShow n active).getF f n = b.getF f n :=
  (congrArg (fun w => bits w f.hi f.lo) (rd_wr_ne _ _ _ _ _ _ hother)).trans hlevel

theorem takeSample_effect : (b.takeSample n mv).getF F.DIO_DISTAT_RAW n = b2n (b.sampleRaw n mv) ∧
    (b.takeSample n mv).getF F.DIO_DIFLT_CNT n = b.sampleCount n mv ∧
    (b.takeSample n mv).getF F.DIO_DISTAT_LEVEL n = b2n (b.sampleLevel n mv) ∧
    bit ((b.takeSample n mv).rd R.DIO_DILVL (n / 32)) (n % 32) = b.sampleLevel n mv := by
  obtain ⟨hstat, hlevels⟩ := diShow_level n (((b.updDi n fun r => { r with
    high := diCompare (cfgMode (b.direc n).cfg) (b.direc n).high mv }).setF F.DIO_DISTAT_RAW n
    (b2n (b.sampleRaw n mv))).setF F.DIO_DIFLT_CNT n (b.sampleCount n mv)) (b.sampleLevel n mv)
  refine ⟨?_, ?_, hstat, hlevels⟩
  · rw [takeSample, diShow_getF n _ _ (distat_ne_dilvl n) (getF_setF_beside _ F.DIO_DISTAT_LEVEL F.DIO_DISTAT_RAW n _ rfl
        (by decide) (by decide)), getF_setF_other _ F.DIO_DIFLT_CNT F.DIO_DISTAT_RAW n n _ (diflt_ne_distat n).symm]
    exact getF_setF_lt _ F.DIO_DISTAT_RAW n (by decide) (b2n_lt _)
  · rw [takeSample, diShow_getF n _ _ (diflt_ne_dilvl n) (getF_setF_other _ F.DIO_DISTAT_LEVEL F.DIO_DIFLT_CNT n n _
        (diflt_ne_distat n))]
    exact getF_setF_lt _ F.DIO_DIFLT_CNT n (by decide) (sampleCount_lt n mv b)

end Samples

/-! ### A level that changes -/

section Changes

/-- The bridges whose wipers a change moves. -/
def wiperRegs : List Nat := offsOf [R.HB_CMD, R.HB_FBSTAT, R.HB_STAT]
def wiperParts : List Part := Part.chans ++ Part.fbs

theorem bridgeRegs_subset_wiperRegs : ∀ k < 8, bridgeRegs k ⊆ wiperRegs := by decide

theorem bridgeParts_subset_wiperParts {k : Nat} (hk : k < 8) : bridgeParts k ⊆ wiperParts := by
  refine List.append_subset.mpr ⟨List.cons_subset.mpr ⟨?_, List.nil_subset _⟩, List.subset_append_left _ _⟩
  exact List.mem_append_right _ (List.mem_map_of_mem (List.mem_range.mpr hk))

theorem parkBrake_within {k : Nat} (hk : k < 8) (b : Block) : b.Within (bridgeRegs k) (bridgeParts k) (b.parkBrake k) :=
  (updFb_within b _).trans (setDir_within _ hk 3 0)

theorem wiperStep_within {k : Nat} (hk : k < 8) (b : Block) : b.Within (bridgeRegs k) (bridgeParts k) (b.wiperStep k) := by
  unfold wiperStep
  split
  · exact .ite _ (parkBrake_within hk b) (.refl b)
  · exact .ite _ (.refl b) (updFb_within b _)
  · exact .ite _ (parkBrake_within hk b) (.refl b)
  · exact .refl b

theorem wiperInput_within (n : Nat) (b : Block) : b.Within wiperRegs wiperParts (b.wiperInput n) := by
  unfold wiperInput forN
  refine .foldl _ _ (fun k hk b => .ite _ ?_ (.refl b)) b
  have hk : k < 8 := List.mem_range.mp hk
  exact (wiperStep_within hk b).mono (bridgeRegs_subset_wiperRegs k hk) (bridgeParts_subset_wiperParts hk)

/-- The change bit of input n is set (R284). -/
def setChange (n : Nat) (b : Block) : Block :=
  b.wr R.DIO_DICHG (n / 32) (putBits (b.rd R.DIO_DICHG (n / 32)) (n % 32) (n % 32) 1)

/-- What follows the change bit: the event and the wipers (R166, R284). -/
def followChange (n : Nat) (b : Block) : Block :=
  (if b.flag F.DIO_DICFG_EVCHG n then b.raiseOpen (188 + n / 8) else b).wiperInput n

theorem diChanged_eq (n : Nat) (b : Block) : b.diChanged n = (b.setChange n).followChange n := rfl

theorem setChange_bit (n : Nat) (b : Block) : bit ((b.setChange n).rd R.DIO_DICHG (n / 32)) (n % 32) = true := by
  rw [setChange, rd_wr_same, bit_putBits_same]
  rfl

theorem followChange_within (n : Fin 64) {b : Block} (ht : b.Tame) : b.Within wiperRegs wiperParts (b.followChange n) :=
  (Within.ite _ ((raiseOpen_within _ b ht (by omega)).mono (List.nil_subset _) (List.nil_subset _)) (.refl b)).trans
    (wiperInput_within n _)

/-- The registers that the statement about DI_SAMPLE names, and its parts. -/
def sampleRegs (n : Nat) : List Nat :=
  offsOf [R.DIO_DICHG, R.DIO_DILVL, R.HB_CMD, R.HB_FBSTAT, R.HB_STAT, R.HSW_CMD, R.HSW_STAT] ++ [R.DIO_DIFLT.at n, R.DIO_DISTAT.at n]
def sampleParts (n : Nat) : List Part := [Part.di n] ++ Part.chans ++ Part.fbs

theorem wiperRegs_subset_sampleRegs (n : Nat) : wiperRegs ⊆ sampleRegs n := by
  have hnamed : wiperRegs ⊆ offsOf [R.DIO_DICHG, R.DIO_DILVL, R.HB_CMD, R.HB_FBSTAT, R.HB_STAT, R.HSW_CMD, R.HSW_STAT] := by
    decide
  exact List.Subset.trans hnamed (List.subset_append_left _ _)

theorem wiperParts_subset_sampleParts (n : Nat) : wiperParts ⊆ sampleParts n := by
  intro p hp
  simp only [wiperParts, sampleParts, List.mem_append] at hp ⊢
  tauto

theorem sampleRegs_readyReg (n : Fin 64) : ∀ x ∈ sampleRegs n, readyReg x = false := by
  have hnamed : ∀ x ∈ offsOf [R.DIO_DICHG, R.DIO_DILVL, R.HB_CMD, R.HB_FBSTAT, R.HB_STAT, R.HSW_CMD, R.HSW_STAT],
      readyReg x = false := by decide +kernel
  intro x hx
  rcases List.mem_append.mp hx with hx | hx
  · exact hnamed x hx
  · simp only [List.mem_cons, List.not_mem_nil, or_false] at hx
    rcases hx with rfl | rfl
    · exact diflt_readyReg n
    · exact distat_readyReg n

theorem dilvl_mem_sampleRegs (n : Fin 64) : R.DIO_DILVL.at (n / 32) ∈ sampleRegs n :=
  List.mem_append_left _ (mem_offsOf (r := R.DIO_DILVL) (by simp) (mem_offs _ _ (show n.val / 32 < 2 by omega)))

theorem dichg_mem_sampleRegs (n : Fin 64) : R.DIO_DICHG.at (n / 32) ∈ sampleRegs n :=
  List.mem_append_left _ (mem_offsOf (r := R.DIO_DICHG) (by simp) (mem_offs _ _ (show n.val / 32 < 2 by omega)))

theorem filterRegs_subset_sampleRegs (n : Fin 64) : filterRegs n ⊆ sampleRegs n := by
  intro x hx
  simp only [filterRegs, List.mem_cons, List.not_mem_nil, or_false] at hx
  rcases hx with rfl | rfl | rfl
  · exact dilvl_mem_sampleRegs n
  · simp [sampleRegs]
  · simp [sampleRegs]

theorem di_mem_sampleParts (n : Nat) : .di n ∈ sampleParts n := by simp [sampleParts]

/-- The registers of an input and its words of DILVL are beside those of the change. -/
theorem distat_not_wiper : ∀ n : Fin 64, R.DIO_DISTAT.at n ∉ R.DIO_DICHG.at (n / 32) :: wiperRegs := by decide +kernel

theorem diflt_not_wiper : ∀ n : Fin 64, R.DIO_DIFLT.at n ∉ R.DIO_DICHG.at (n / 32) :: wiperRegs := by decide +kernel

theorem dilvl_not_wiper : ∀ n : Fin 64, R.DIO_DILVL.at (n / 32) ∉ R.DIO_DICHG.at (n / 32) :: wiperRegs := by decide +kernel

theorem dichg_not_wiper : ∀ n : Fin 64, R.DIO_DICHG.at (n / 32) ∉ wiperRegs := by decide +kernel

end Changes

/-- One more reading of an open wire, at which the filter skips its sample (R285). -/
def countOpen (n : Nat) (b : Block) : Block :=
  b.updDi n fun r => { r with opens := min ((b.direc n).opens + 1) 2, skip := true }

/-! ### Groups -/

section Groups

/-- What one step of a fold establishes and every step keeps, beside an invariant, holds at its end. -/
theorem foldl_establishes {α : Type} {I P : Block → Prop} (f : Block → α → Block) {xs : List α} {x : α} (hx : x ∈ xs)
    (hinv : ∀ y ∈ xs, ∀ b, I b → I (f b y)) (hgets : ∀ b, I b → P (f b x)) (hkeeps : ∀ y ∈ xs, ∀ b, I b → P b → P (f b y))
    {b : Block} (hb : I b) : P (xs.foldl f b) := by
  obtain ⟨before, after, rfl⟩ := List.append_of_mem hx
  rw [List.foldl_append, List.foldl_cons]
  have hstart : I (before.foldl f b) := List.foldlRecOn before f hb fun c hc y hy => hinv y (by simp [hy]) c hc
  have hend : I (after.foldl f (f (before.foldl f b) x)) ∧ P (after.foldl f (f (before.foldl f b) x)) :=
    List.foldlRecOn after f (motive := fun c => I c ∧ P c) ⟨hinv x (by simp) _ hstart, hgets _ hstart⟩
      fun c hc y hy => ⟨hinv y (by simp [hy]) c hc.1, hkeeps y (by simp [hy]) c hc.1 hc.2⟩
  exact hend.2

/-- Group g is too hot (R287). -/
def heatGroup (g : Nat) (b : Block) : Block :=
  { b with dio := { b.dio with hot := Tab.put b.dio.hot g true, above := Tab.put b.dio.above g true } }

/-- One of its inputs reduces its wetting, and shows OT where it is enabled. -/
def heatInput (n : Nat) (b : Block) : Block :=
  if (b.setBias n).getF F.DIO_DICFG_EN n == 1 then (b.setBias n).distick F.DIO_DISTAT_OT n else b.setBias n

/-- The inputs of group g. -/
def inputsOf (g : Nat) : List Nat := (List.range (8 * g + 8)).filter fun n => decide (8 * g ≤ n)

theorem mem_inputsOf {g n : Nat} : n ∈ inputsOf g ↔ n / 8 = g := by
  simp only [inputsOf, List.mem_filter, List.mem_range, decide_eq_true_eq]
  omega

theorem diGroup_of_hot (b : Block) (g : Nat) {tj : Int} (hhot : 160 * 16 < tj) :
    b.diGroup g tj = (inputsOf g).foldl (fun b n => b.heatInput n) (b.heatGroup g) := by
  unfold diGroup
  simp only [decide_eq_true hhot, Bool.true_or]
  rfl

theorem heatGroup_within {l : List Nat} {ps : List Part} (h : .hot ∈ ps) (g : Nat) (b : Block) : b.Within l ps (b.heatGroup g) :=
  ⟨⟨fun _ _ _ _ => rfl, fun p hp => by
    cases p with
    | hot => exact absurd h hp
    | _ => simp [Part.Same, heatGroup]⟩, rfl⟩

theorem heatInput_stays (n : Fin 64) (b : Block) : b.Stays [R.DIO_DISTAT.at n] [.di n.val] (b.heatInput n) := by
  have hbias : b.Stays [R.DIO_DISTAT.at n] [.di n.val] (b.setBias n) := .of_within (setBias_within b (by simp))
  exact .ite _ (hbias.trans (distick_stays rfl (List.mem_singleton_self _))) hbias

theorem heatInput_within (n : Fin 64) {b : Block} (ht : b.Tame) : b.Within [R.DIO_DISTAT.at n] [.di n.val] (b.heatInput n) :=
  heatInput_stays n b ht (by simpa using distat_readyReg n)

theorem heatInput_ot (n : Fin 64) {b : Block} (ht : b.Tame) (hen : b.getF F.DIO_DICFG_EN n = 1) :
    (b.heatInput n).getF F.DIO_DISTAT_OT n = 1 := by
  have hshows : b.heatInput n = (b.setBias n).distick F.DIO_DISTAT_OT n := if_pos (by simpa [setBias] using hen)
  rw [hshows]
  exact distick_same rfl rfl ht

/-- An enabled input of the group shows OT when all its inputs have been served. -/
theorem heatInputs_ot {g : Fin 8} {n : Fin 64} (hgroup : n.val / 8 = g.val) {b : Block} (ht : b.Tame)
    (hen : b.getF F.DIO_DICFG_EN n = 1) : ((inputsOf g).foldl (fun b n => b.heatInput n) b).getF F.DIO_DISTAT_OT n = 1 := by
  have hlt : ∀ m ∈ inputsOf g, m < 64 := fun m hm => by
    have := mem_inputsOf.mp hm
    omega
  refine foldl_establishes (I := fun c => c.Tame ∧ c.getF F.DIO_DICFG_EN n = 1) (P := fun c => c.getF F.DIO_DISTAT_OT n = 1)
    (fun b n => b.heatInput n) (mem_inputsOf.mpr hgroup) ?_ ?_ ?_ ⟨ht, hen⟩
  · rintro m hm c ⟨htame, hon⟩
    have hw := heatInput_within ⟨m, hlt m hm⟩ htame
    exact ⟨hw.tame (by simpa using distat_readyReg ⟨m, hlt m hm⟩) htame,
      (hw.getF_eq (f := F.DIO_DICFG_EN) (mt List.mem_singleton.mp (dicfg_ne_distat n m)) (dicfg_recordReg n)).trans hon⟩
  · rintro c ⟨htame, hon⟩
    exact heatInput_ot n htame hon
  · rintro m hm c ⟨htame, hon⟩ hshows
    by_cases hsame : n.val = m
    · exact hsame ▸ heatInput_ot n htame hon
    · have hw := heatInput_within ⟨m, hlt m hm⟩ htame
      exact (hw.getF_eq (f := F.DIO_DISTAT_OT) (mt List.mem_singleton.mp (distat_ne_distat n.isLt (hlt m hm) hsame))
        (distat_recordReg n)).trans hshows

theorem distat_offs_readyReg : ∀ x ∈ offsOf [R.DIO_DISTAT], readyReg x = false := by decide

theorem heatInputs_stays (g : Fin 8) (b : Block) :
    b.Stays (offsOf [R.DIO_DISTAT]) Part.dis ((inputsOf g).foldl (fun b n => b.heatInput n) b) := by
  refine .foldl _ _ (fun m hm b => ?_) b
  have hm : m < 64 := by
    have := mem_inputsOf.mp hm
    omega
  refine (heatInput_stays ⟨m, hm⟩ b).mono (List.cons_subset.mpr ⟨?_, List.nil_subset _⟩)
    (List.cons_subset.mpr ⟨?_, List.nil_subset _⟩)
  · exact mem_offsOf (r := R.DIO_DISTAT) (by simp) (mem_offs _ _ hm)
  · exact List.mem_map_of_mem (List.mem_range.mpr hm)

end Groups

end Block

/-! ### The commands -/

section InputCommands

open Block

/-- A write that reaches its register, and whose effect stays within registers and parts that `Ready` does not read, completes
with it. -/
theorem completes_of_write {c : Instr} {s : State} {who : Who} {off : Nat} {k : Block → Block} {E : Block → Prop} {l : List Nat}
    {ps : List Part} (hx : exec c s = s.act fun b => b.gate who off k) (hready : s.blk.Ready) (hwrite : s.blk.CanWrite who off)
    (h : s.blk.Stays l ps (k s.blk)) (hl : ∀ x ∈ l, readyReg x = false) (hps : .pw ∉ ps)
    (he : s.blk.Within l ps (k s.blk) → E (k s.blk)) : Completes c s E := by
  have heffect := gate_of_canWrite hwrite k
  exact completes_of_stays hx hready (heffect ▸ h) hl hps (heffect ▸ he)

variable (s : State)

/-- EN written 1 applies a valid configuration (R281). -/
theorem completes_diEnable (who : Who) (n : Fin 64) (hready : s.blk.Ready) (hwrite : s.blk.CanWrite who (R.DIO_DICFG.at n))
    (hoff : s.blk.getF F.DIO_DICFG_EN n = 0) (hmode : s.blk.getF F.DIO_DICFG_MODE n ≤ 4)
    (hreset : s.blk.getF F.DIO_DIFLT_RSTTH n < s.blk.getF F.DIO_DIFLT_SETTH n)
    (hmax : s.blk.getF F.DIO_DIFLT_SETTH n ≤ s.blk.getF F.DIO_DIFLT_CMAX n)
    (hsum : s.blk.wetSum n (s.blk.rd R.DIO_DICFG n) ≤ 20000) :
    Completes (.diEnable who n) s fun b => b.getF F.DIO_DICFG_EN n = 1 ∧ (b.direc n).cfg = s.blk.rd R.DIO_DICFG n ∧
      (b.direc n).flt = s.blk.rd R.DIO_DIFLT n ∧ (b.direc n).first = true ∧ s.blk.Beside (enableRegs n) [Part.di n.val] b := by
  have happly := applyDi_within n s.blk
  have htame := happly.tame (enableRegs_readyReg n) hready.2.1
  have hafter : (s.blk.applyDi n).Within [R.DIO_DISTAT.at n] [] (s.blk.diEnable n) := by
    rw [diEnable_of_valid hoff hmode hreset hmax hsum]
    exact .ite _ (distick_within rfl htame) (.refl _)
  have hw : s.blk.Within (enableRegs n) [.di n.val] (s.blk.diEnable n) :=
    happly.trans (hafter.mono (by simp [enableRegs]) (List.nil_subset _))
  obtain ⟨hcfg, hflt, hfirst⟩ := applyDi_direc n s.blk
  have hrecord : (s.blk.diEnable n).direc n = (s.blk.applyDi n).direc n := hafter.direc_eq List.not_mem_nil
  refine completes_of_write (k := Block.diEnable n) rfl hready hwrite (.of_within hw) (enableRegs_readyReg n) (by simp)
    fun hw => ⟨?_, ?_, ?_, ?_, hw.beside⟩
  · rw [hafter.getF_eq (f := F.DIO_DICFG_EN) (mt List.mem_singleton.mp (dicfg_ne_distat n n)) (dicfg_recordReg n), applyDi_en]
  · rw [hrecord, hcfg]
  · rw [hrecord, hflt]
  · rw [hrecord, hfirst]

/-- EN written 0 stops the input, and LEVEL keeps its value (R281). -/
theorem completes_diDisable (who : Who) (n : Fin 64) (hready : s.blk.Ready) (hwrite : s.blk.CanWrite who (R.DIO_DICFG.at n)) :
    Completes (.diDisable who n) s fun b => b.getF F.DIO_DICFG_EN n = 0 ∧
      b.getF F.DIO_DISTAT_LEVEL n = s.blk.getF F.DIO_DISTAT_LEVEL n ∧ s.blk.Beside [R.DIO_DICFG.at n.val] [Part.di n.val] b := by
  have hw : s.blk.Within [R.DIO_DICFG.at n.val] [.di n.val] (s.blk.diDisable n) :=
    (Within.setF s.blk F.DIO_DICFG_EN n 0 (List.mem_singleton_self _)).trans (setBias_within _ (List.mem_singleton_self _))
  refine completes_of_write (k := Block.diDisable n) rfl hready hwrite (.of_within hw) (by simpa using dicfg_readyReg n) (by simp)
    fun hw => ⟨?_, ?_, hw.beside⟩
  · exact getF_setF_lt s.blk F.DIO_DICFG_EN n (by decide) (by decide)
  · exact hw.getF_eq (f := F.DIO_DISTAT_LEVEL) (mt List.mem_singleton.mp (dicfg_ne_distat n n).symm) (distat_recordReg n)

/-- A sample moves the filter of its input, and a change of level sets its change bit (R282, R284). -/
theorem completes_diSample (n : Fin 64) (mv : Int) (hready : s.blk.Ready) (hen : s.blk.getF F.DIO_DICFG_EN n = 1)
    (hskip : (s.blk.direc n).skip = false) (hfirst : (s.blk.direc n).first = false) :
    Completes (.diSample n mv) s fun b => (b.getF F.DIO_DISTAT_RAW n = b2n (s.blk.sampleRaw n mv) ∧
      b.getF F.DIO_DIFLT_CNT n = s.blk.sampleCount n mv ∧ b.getF F.DIO_DISTAT_LEVEL n = b2n (s.blk.sampleLevel n mv) ∧
      bit (b.rd R.DIO_DILVL (n / 32)) (n % 32) = s.blk.sampleLevel n mv ∧
      (s.blk.sampleLevel n mv ≠ s.blk.flag F.DIO_DISTAT_LEVEL n → bit (b.rd R.DIO_DICHG (n / 32)) (n % 32) = true)) ∧
      s.blk.Beside (sampleRegs n) (sampleParts n) b := by
  have heffect := diSample_of_enabled n mv s.blk hen hskip hfirst
  have htake : s.blk.Within (sampleRegs n) (sampleParts n) (s.blk.takeSample n mv) :=
    (takeSample_within n mv s.blk).mono (filterRegs_subset_sampleRegs n)
      (List.cons_subset.mpr ⟨di_mem_sampleParts n, List.nil_subset _⟩)
  obtain ⟨hraw, hcount, hlevel, hshown⟩ := takeSample_effect n mv s.blk
  by_cases hsame : s.blk.sampleLevel n mv = s.blk.flag F.DIO_DISTAT_LEVEL n
  · rw [if_pos hsame] at heffect
    refine completes_of_within (f := fun b => b.diSample n mv) rfl hready (heffect ▸ htake) (sampleRegs_readyReg n)
      (by simp [sampleParts, Part.chans, Part.fbs]) ?_
    rw [heffect]
    exact ⟨⟨hraw, hcount, hlevel, hshown, fun hchanged => absurd hsame hchanged⟩, htake.beside⟩
  · rw [if_neg hsame, diChanged_eq] at heffect
    have hchange : (s.blk.takeSample n mv).Within (sampleRegs n) (sampleParts n) ((s.blk.takeSample n mv).setChange n) :=
      .wr _ R.DIO_DICHG _ _ (dichg_mem_sampleRegs n)
    have htame := (htake.trans hchange).tame (sampleRegs_readyReg n) hready.2.1
    have hfollow := followChange_within n htame
    have hbeside : (s.blk.takeSample n mv).Within (R.DIO_DICHG.at (n / 32) :: wiperRegs) wiperParts (s.blk.diSample n mv) :=
      heffect ▸ (Within.wr _ R.DIO_DICHG _ _ (List.mem_cons_self ..)).trans
        (hfollow.mono (List.subset_cons_self ..) (List.Subset.refl _))
    have hw : s.blk.Within (sampleRegs n) (sampleParts n) (s.blk.diSample n mv) := heffect ▸ (htake.trans hchange).trans
      (hfollow.mono (wiperRegs_subset_sampleRegs n) (wiperParts_subset_sampleParts n))
    refine completes_of_within (f := fun b => b.diSample n mv) rfl hready hw (sampleRegs_readyReg n)
      (by simp [sampleParts, Part.chans, Part.fbs]) ⟨⟨?_, ?_, ?_, ?_, fun _ => ?_⟩, hw.beside⟩
    · exact (hbeside.getF_eq (f := F.DIO_DISTAT_RAW) (distat_not_wiper n) (distat_recordReg n)).trans hraw
    · exact (hbeside.getF_eq (f := F.DIO_DIFLT_CNT) (diflt_not_wiper n) (diflt_recordReg n)).trans hcount
    · exact (hbeside.getF_eq (f := F.DIO_DISTAT_LEVEL) (distat_not_wiper n) (distat_recordReg n)).trans hlevel
    · rw [hbeside.rd_eq (r := R.DIO_DILVL) (dilvl_not_wiper n) (dilvl_recordReg n), hshown]
    · rw [heffect, hfollow.rd_eq (r := R.DIO_DICHG) (dichg_not_wiper n) (dichg_recordReg n)]
      exact setChange_bit n _

/-- Two readings in a row of an open wire set OW (R285). -/
theorem completes_openWireCheck (n : Fin 64) (mv : Int) (hready : s.blk.Ready) (hen : s.blk.getF F.DIO_DICFG_EN n = 1)
    (howen : s.blk.flag F.DIO_DICFG_OWEN n = true) (hmode : Block.cfgMode (s.blk.direc n).cfg = 1) (hopen : 4000 < mv) :
    Completes (.openWireCheck n mv) s fun b => ((b.direc n).opens = min ((s.blk.direc n).opens + 1) 2 ∧ (b.direc n).skip = true ∧
      (1 ≤ (s.blk.direc n).opens → b.getF F.DIO_DISTAT_OW n = 1)) ∧ s.blk.Beside [R.DIO_DISTAT.at n.val] [Part.di n.val] b := by
  have heffect : s.blk.openWire n mv = if 2 ≤ (s.blk.direc n).opens + 1
      then (s.blk.countOpen n).distick F.DIO_DISTAT_OW n else s.blk.countOpen n := by
    simp [openWire, hen, howen, hmode, hopen, countOpen]
  have htame : (s.blk.countOpen n).Tame := hready.2.1
  have hafter : (s.blk.countOpen n).Within [R.DIO_DISTAT.at n] [] (s.blk.openWire n mv) :=
    heffect ▸ .ite _ (distick_within rfl htame) (.refl _)
  have hw : s.blk.Within [R.DIO_DISTAT.at n.val] [.di n.val] (s.blk.openWire n mv) :=
    (Within.updDi s.blk n _ (List.mem_singleton_self _)).trans (hafter.mono (List.Subset.refl _) (List.nil_subset _))
  have hrecord : (s.blk.openWire n mv).direc n =
      { s.blk.direc n with opens := min ((s.blk.direc n).opens + 1) 2, skip := true } := by
    rw [hafter.direc_eq List.not_mem_nil, countOpen, updDi_same]
  refine completes_of_within (f := fun b => b.openWire n mv) rfl hready hw (by simpa using distat_readyReg n) (by simp)
    ⟨⟨by rw [hrecord], by rw [hrecord], fun honce => ?_⟩, hw.beside⟩
  rw [heffect, if_pos (by omega)]
  exact distick_same rfl rfl htame

/-- More than 5 mA through the clamp set OVLD, and raise its source where it was clear (R286). -/
theorem completes_diOverload (n : Fin 64) (ua : Nat) (hready : s.blk.Ready) (hover : 5000 < ua) :
    Completes (.diOverload n ua) s fun b => (b.getF F.DIO_DISTAT_OVLD n = 1 ∧
      (s.blk.getF F.DIO_DISTAT_OVLD n = 0 → b.HasEvent (188 + n / 8))) ∧ s.blk.Beside [R.DIO_DISTAT.at n.val] [] b := by
  have heffect : s.blk.diOverload n ua = s.blk.distick F.DIO_DISTAT_OVLD n := if_pos hover
  have hw : s.blk.Within [R.DIO_DISTAT.at n.val] [] (s.blk.diOverload n ua) := heffect ▸ distick_within rfl hready.2.1
  refine completes_of_within (f := fun b => b.diOverload n ua) rfl hready hw (by simpa using distat_readyReg n) List.not_mem_nil
    ⟨⟨?_, fun hclear => ?_⟩, hw.beside⟩
  · rw [heffect]
    exact distick_same rfl rfl hready.2.1
  · rw [heffect]
    exact distick_hasEvent rfl hready hclear

/-- A group above 160 °C is hot, and its enabled inputs show OT (R287). -/
theorem completes_diGroupOvertemp (g : Fin 8) (tj : Int) (n : Fin 64) (hready : s.blk.Ready) (hhot : 160 * 16 < tj)
    (hgroup : n.val / 8 = g.val) (hen : s.blk.getF F.DIO_DICFG_EN n = 1) :
    Completes (.diGroupOvertemp g tj) s fun b => Tab.get false b.dio.hot g = true ∧ b.getF F.DIO_DISTAT_OT n = 1 ∧
      s.blk.Beside (offsOf [R.DIO_DISTAT]) ([Part.hot] ++ Part.dis) b := by
  have heffect := diGroup_of_hot s.blk g hhot
  have htame : (s.blk.heatGroup g).Tame := hready.2.1
  have hinputs := heatInputs_stays g (s.blk.heatGroup g) htame distat_offs_readyReg
  have hw : s.blk.Within (offsOf [R.DIO_DISTAT]) ([Part.hot] ++ Part.dis) (s.blk.diGroup g tj) :=
    heffect ▸ (heatGroup_within (by simp) g s.blk).trans (hinputs.mono (List.Subset.refl _) (List.subset_append_right _ _))
  refine completes_of_within (f := fun b => b.diGroup g tj) rfl hready hw distat_offs_readyReg (by simp [Part.dis])
    ⟨?_, ?_, hw.beside⟩
  · rw [heffect, hinputs.hot_eq (by simp [Part.dis])]
    exact Tab.get_put_same _ _ _ _
  · rw [heffect]
    exact heatInputs_ot hgroup htame hen

/-- The voltage of every input is measured while PD12 is at power good (R666). -/
theorem completes_dimeasUpdate (n : Fin 64) (vin : BitVec 16) (hready : s.blk.Ready) (hpg : s.blk.pg 12 = true) :
    Completes (.dimeasUpdate n vin) s fun b => b.getF F.DIO_DIMEAS_VIN n = vin.toNat ∧
      s.blk.Beside [R.DIO_DIMEAS.at n.val] [] b := by
  have heffect : s.blk.diMeas n vin.toNat = s.blk.setF F.DIO_DIMEAS_VIN n vin.toNat := if_pos hpg
  have hw : s.blk.Within [R.DIO_DIMEAS.at n.val] [] (s.blk.diMeas n vin.toNat) :=
    heffect ▸ .setF s.blk F.DIO_DIMEAS_VIN n _ (List.mem_singleton_self _)
  refine completes_of_within (f := fun b => b.diMeas n vin.toNat) rfl hready hw (by simpa using dimeas_readyReg n)
    List.not_mem_nil ⟨?_, hw.beside⟩
  rw [heffect]
  exact getF_setF_lt s.blk F.DIO_DIMEAS_VIN n (by decide) vin.isLt

end InputCommands

/-- Settles O15: each command changes its input, an occurrence that it raises is only recorded, and a level that changes moves
the wipers alone. -/
theorem fieldInputs : Obligations.FieldInputs := by
  unfold Obligations.FieldInputs
  exact ⟨completes_diEnable, completes_diDisable, completes_diSample, completes_openWireCheck, completes_diOverload,
    completes_diGroupOvertemp, completes_dimeasUpdate⟩

end Sys2Proof.Machine
end

section
/-! PROOFS. The sensor supplies: one that is commanded off stays off as it gets too hot, where the statement has it wait. -/
namespace Sys2Proof.Machine

theorem exec_svThermal (k : Fin 4) (tj : Int) (s : State) : exec (.svThermal k tj) s = s.act fun b => b.svThermal k tj := rfl

/-- Supply 1 is enabled, and SV_SET has turned it off (R302). -/
def supplyOffBench : Block := (bench.setF F.DIO_SVCFG_EN 1 1).svCommand 1 false

theorem supplyOffBench_ready : supplyOffBench.Ready :=
  ready_setF _ F.DIO_SVSTAT_STATE 1 _ (by decide)
    (ready_congr (b := bench.setF F.DIO_SVCFG_EN 1 1) (ready_setF _ F.DIO_SVCFG_EN 1 1 (by decide) bench_ready) rfl rfl rfl)

/-- At 175 °C it is still off by its command, and shows that. -/
theorem supplyOffBench_thermal_state : (supplyOffBench.svThermal (1 : Fin 4) 2800).endCommand.getF F.DIO_SVSTAT_STATE 1 = 0 := by
  decide +kernel

/-- Refutes O16: the clause of SV_THERMAL asks that EN of the supply is 1, but not that it is on. In `supplyOffBench` SV_SET has
turned it off, and STATE stays 0 (DISABLED) where the clause has 2 (RETRYWAIT). -/
theorem not_fieldOutputs : ¬ Obligations.FieldOutputs := by
  unfold Obligations.FieldOutputs
  intro h
  obtain ⟨-, -, -, -, -, -, -, -, -, -, -, -, -, -, -, -, -, hthermal, -⟩ := h
  obtain ⟨t, ht, -, -, hstate, -⟩ := hthermal { blk := supplyOffBench } 1 2800 supplyOffBench_ready (by decide +kernel)
    (by decide) (by decide +kernel) (by decide +kernel)
  rw [exec_svThermal] at ht
  rw [State.act_blk _ _ t ht] at hstate
  exact absurd (supplyOffBench_thermal_state.symm.trans hstate) (by decide)

end Sys2Proof.Machine
end

section
/-! PROOFS. The catchment: an occurrence that meets a full crossing is lost there whatever its class, and what the crossing raises
instead is only recorded; so one of class F begins no SoC reset. -/
namespace Sys2Proof.Machine

namespace Block

/-! ### Occurrences that pass no crossing -/

/-- The catchment only records an occurrence of EVe. -/
abbrev Records (e : Nat) (b : Block) : Prop := b.getF F.CATCH_SRC_CLASS e ≤ 1 ∧ b.getF F.CATCH_SRC_ACT e < 8

theorem records_of_recorded {a b : Block} (h : Recorded a b) {e : Nat} (he : e < 256) (hrec : a.Records e) : b.Records e := by
  rw [Records, h.getF F.CATCH_SRC_CLASS e (recordReg_catchSrc he), h.getF F.CATCH_SRC_ACT e (recordReg_catchSrc he)]
  exact hrec

/-- An occurrence of EV225 passes no crossing. -/
theorem crossing_ev225 {o : Occ} (ho : o.ev = 225) : crossing o = none := by
  rw [crossing, ho]
  exact ite_self none

/-- An occurrence that passes no crossing, and that is only recorded, causes at most the overflow of an event queue. -/
theorem occur_occs_of_uncrossed {o : Occ} {b : Block} (hcross : crossing o = none) (hrec : b.Records o.ev) :
    ∀ p ∈ (b.occur o).2, p.ev = 225 := by
  cases hon : b.catchOn with
  | false => simp [occur, hon]
  | true =>
    have hroom : b.xFull o = false := by rw [xFull, hcross]; rfl
    have hpass : b.xPass o = b := by rw [xPass, hcross]
    obtain ⟨hacts, hnow, hsoc⟩ := reaction_small o b hrec.1 hrec.2
    rw [occur_of_passes hon hroom, hpass, reactTo]
    dsimp only
    rw [safeActs_small o _ _ hacts hnow, resetActs_small o _ _ hnow hsoc]
    simpa using (eventAct_recorded o (b.reaction o) _).2

theorem raiseAll_recorded_of_uncrossed (n : Nat) (os : List Occ) (b : Block) (hoverflow : b.Records 225)
    (ho : ∀ o ∈ os, o.ev < 256 ∧ crossing o = none ∧ b.Records o.ev) : Recorded b (b.raiseAll n os) := by
  induction n generalizing os b with
  | zero => exact .refl b
  | succ n ih =>
    cases os with
    | nil => exact .refl b
    | cons o os =>
      obtain ⟨he, hcross, hrec⟩ := ho o (List.mem_cons_self ..)
      obtain ⟨hrecorded, -⟩ := occur_recorded o b he hrec.1 hrec.2
      have hkeeps : ∀ {e}, e < 256 → b.Records e → (b.occur o).1.Records e := records_of_recorded hrecorded
      refine hrecorded.trans (ih _ _ (hkeeps (by decide) hoverflow) fun p hp => ?_)
      rcases List.mem_append.mp hp with hp | hp
      · obtain ⟨hpe, hpcross, hprec⟩ := ho p (List.mem_cons_of_mem _ hp)
        exact ⟨hpe, hpcross, hkeeps hpe hprec⟩
      · have hp225 := occur_occs_of_uncrossed hcross hrec p hp
        rw [hp225]
        exact ⟨by decide, crossing_ev225 hp225, hkeeps (by decide) hoverflow⟩

/-! ### An occurrence that is lost -/

/-- An occurrence that meets its crossing with 255 pending is lost there, before the catchment sees it (R459). -/
theorem occur_of_full {o : Occ} {b : Block} (hon : b.catchOn = true) (hfull : b.xFull o = true) : b.occur o = b.xLose o := by
  rw [occur, if_neg (by simp [hon]), if_pos hfull]

/-- Raising a source whose crossing is full changes the record alone, whatever its own class and actions are: what the crossing
raises instead passes no crossing (R459, R470). -/
theorem raise_recorded_of_full {e detail x : Nat} {b : Block} (hon : b.catchOn = true) (hx : crossOf e = some x)
    (hpend : b.getF F.CDC_XSTAT_PEND x = 255) (hsource : ∀ c, crossSource x = some c → b.Records c)
    (hoverflow : b.Records 225) : Recorded b (b.raise e detail) := by
  have hcross : crossing { ev := e, detail := BitVec.ofNat 32 detail } = some x := hx
  have hfull : b.xFull { ev := e, detail := BitVec.ofNat 32 detail } = true := by
    rw [xFull, hcross]
    exact beq_iff_eq.mpr hpend
  obtain ⟨hlost, hcaused⟩ := xLose_recorded { ev := e, detail := BitVec.ofNat 32 detail } b
  have hraised : b.raise e detail = (b.xLose { ev := e, detail := BitVec.ofNat 32 detail }).1.raiseAll 31
      (b.xLose { ev := e, detail := BitVec.ofNat 32 detail }).2 := by
    rw [raise, raiseAll, occur_of_full hon hfull]
    rfl
  rw [hraised]
  refine hlost.trans (raiseAll_recorded_of_uncrossed _ _ _ (records_of_recorded hlost (by decide) hoverflow) fun p hp => ?_)
  have hpe := hcaused p hp
  rw [xLose, hcross] at hp
  obtain ⟨c, hc, rfl⟩ := List.mem_map.mp hp
  exact ⟨hpe, rfl, records_of_recorded hlost hpe (hsource c (Option.mem_toList.mp hc))⟩

/-- A field outside GAUGE_STAT and HEP_STAT may change while nothing is left to carry out. -/
theorem calm_setF {b : Block} (h : b.Calm) (f : RegField) (n v : Nat) (hgauge : R.GAUGE_STAT.at 0 ≠ f.reg.at n)
    (hcores : ∀ c, c < 15 → R.HEP_STAT.at c ≠ f.reg.at n) : (b.setF f n v).Calm := by
  obtain ⟨hdue, hoff, hstate, hwaits⟩ := h
  refine ⟨hdue, hoff, ?_, fun c hc => ?_⟩
  · rw [getF_setF_other b f F.GAUGE_STAT_STATE n 0 v hgauge, hstate]
  · rw [coreState, getF_setF_other b f F.HEP_STAT_STATE n c v (hcores c hc)]
    exact hwaits c hc

end Block

/-! ### Class F at a full crossing -/

theorem exec_catchOccurrence (e : Fin 256) (detail : Word) (s : State) :
    exec (.catchOccurrence e detail) s = s.act fun b => b.occurrence e detail.toNat := rfl

/-- The source of HS4 (EV20) is of class F, and 255 events are pending at crossing 2, the internal link of its die (R469). -/
def fullCrossingBench : Block := (bench.setF F.CATCH_SRC_CLASS 20 2).setF F.CDC_XSTAT_PEND 2 255

theorem fullCrossingBench_getF (f : RegField) (n : Nat) (hsrc : f.reg.at n ≠ R.CATCH_SRC.at 20)
    (hxstat : f.reg.at n ≠ R.CDC_XSTAT.at 2) : fullCrossingBench.getF f n = bench.getF f n := by
  rw [fullCrossingBench, Block.getF_setF_other _ F.CDC_XSTAT_PEND _ _ _ _ hxstat,
    Block.getF_setF_other _ F.CATCH_SRC_CLASS _ _ _ _ hsrc]

theorem fullCrossingBench_calm : fullCrossingBench.Calm :=
  Block.calm_setF (Block.calm_setF bench_ready.1 F.CATCH_SRC_CLASS 20 2 (by decide) (by decide)) F.CDC_XSTAT_PEND 2 255
    (by decide) (by decide)

theorem fullCrossingBench_pg : fullCrossingBench.pg 1 = true := by
  obtain ⟨-, -, -, hpg, -⟩ := bench_ready
  rw [Block.pg, fullCrossingBench_getF _ _ (by decide) (by decide)]
  exact hpg

theorem fullCrossingBench_class : fullCrossingBench.getF F.CATCH_SRC_CLASS 20 = 2 := by
  rw [fullCrossingBench, Block.getF_setF_other _ _ _ _ _ _ (by decide)]
  exact Block.getF_setF_lt bench F.CATCH_SRC_CLASS 20 (by decide) (by decide)

/-- Beside EV20, every source is only recorded. -/
theorem fullCrossingBench_records {e : Nat} (he : e < 256) (hsrc : R.CATCH_SRC.at e ≠ R.CATCH_SRC.at 20)
    (hxstat : R.CATCH_SRC.at e ≠ R.CDC_XSTAT.at 2) : fullCrossingBench.Records e := by
  obtain ⟨-, htame, -⟩ := bench_ready
  rw [Block.Records, fullCrossingBench_getF F.CATCH_SRC_CLASS e hsrc hxstat, fullCrossingBench_getF F.CATCH_SRC_ACT e hsrc hxstat]
  exact htame e he

/-- EV20 does not reach the catchment, and EV253, which the crossing raises for it, is only recorded. -/
theorem fullCrossingBench_raise_recorded (detail : Nat) : Recorded fullCrossingBench (fullCrossingBench.raise 20 detail) := by
  refine Block.raise_recorded_of_full ?_ (x := 2) (by decide) ?_ (fun c hc => ?_)
    (fullCrossingBench_records (by decide) (by decide) (by decide))
  · rw [Block.catchOn]
    exact Bool.or_eq_true_iff.mpr (.inl fullCrossingBench_pg)
  · exact Block.getF_setF_lt _ F.CDC_XSTAT_PEND 2 (by decide) (by decide)
  · obtain rfl : 253 = c := Option.some.inj hc
    exact fullCrossingBench_records (by decide) (by decide) (by decide)

/-- Refutes O17: the clause of class F does not ask that the crossings have room (`Uncrowded`), and in `fullCrossingBench` the
occurrence of EV20 is lost at its crossing (R459) and begins no SoC reset. -/
theorem not_catchment : ¬ Obligations.Catchment := by
  unfold Obligations.Catchment
  intro h
  obtain ⟨-, hfatal, -⟩ := h
  obtain ⟨t, ht, -, hreset, -⟩ := hfatal { blk := fullCrossingBench } 20 0x1234 fullCrossingBench_calm ⟨rfl, rfl⟩
    fullCrossingBench_pg fullCrossingBench_class (by decide) (by decide) (by decide)
  rw [exec_catchOccurrence] at ht
  have hraise : fullCrossingBench.occurrence (20 : Fin 256) (0x1234 : Word).toNat = fullCrossingBench.raise 20 0x1234 := rfl
  have hrecorded := fullCrossingBench_raise_recorded 0x1234
  rw [State.act_blk _ _ t ht] at hreset
  dsimp only at hreset
  rw [hraise, Block.endCommand_calm _ (hrecorded.calm fullCrossingBench_calm), hrecorded.part .pw] at hreset
  cases hreset

end Sys2Proof.Machine
end

section
/-! PROOFS. The network descriptors and the gateway's table: the outcome that NET_READ reports is looked for in the last completion
to its source, which can be that of another descriptor; and GW_ROUTE leaves the counter of a stopped route as it was. -/
namespace Sys2Proof.Machine

/-! ### The outcome of NET_READ -/

theorem exec_netRead (d : Desc) (s : State) : exec (.netRead d) s = s.act fun b => runDesc d Block.netRead b := rfl

/-- A well-formed NET_READ from queue 2 of node 1: 400 bytes of payload for the status of all channels. -/
def readNetworksDesc : { d : Desc // d.ok 0x77 400 65536 [] = true } :=
  ⟨{ src := .node 1 2, dws := [0x77, 0, 0x100, 0, 400], payload := [] }, by decide +kernel⟩

/-- The records of the channels and the OK go out of CHB at once; the BUSY of an earlier descriptor, which waits at CHA for a
buffer of the neighbour, stands behind them (R428, R429). -/
theorem waitingComplBench_readNetworks_outcome :
    ((runDesc readNetworksDesc.val Block.netRead waitingComplBench).endCommand.outcomeTo (1 : Fin 64) (2 : Fin 64)).map Compl.status =
      some St.busy := by
  decide +kernel

/-- Refutes O18: the clause of NET_READ takes the outcome from the last completion to the source of the descriptor, and counts
the frames that wait at a port after those that have gone out. In `waitingComplBench` that is an earlier one, with BUSY. -/
theorem not_networkDescriptors : ¬ Obligations.NetworkDescriptors := by
  unfold Obligations.NetworkDescriptors
  intro h
  obtain ⟨-, -, -, -, -, -, -, hread, -⟩ := h
  obtain ⟨t, ht, -, hanswered, -⟩ := hread { blk := waitingComplBench } readNetworksDesc waitingComplBench_ready
    ⟨fun direct => by cases direct <;> decide, by decide⟩ ⟨by decide, by decide⟩ readNetworksDesc.property
  rw [exec_netRead] at ht
  have hlast : (t.blk.outcomeTo (1 : Fin 64) (2 : Fin 64)).map Compl.status = some St.busy := by
    rw [State.act_blk _ _ t ht]
    exact waitingComplBench_readNetworks_outcome
  simp only [Bool.and_assoc] at hanswered
  rw [Block.not_answered_ok_of_last rfl (by decide) hlast (by decide)] at hanswered
  exact Bool.false_ne_true hanswered

/-! ### A route that has stopped -/

theorem exec_gwRoute (d : Desc) (s : State) : exec (.gwRoute d) s = s.act fun b => runDesc d Block.gwRoute b := rfl

/-- Entry 0 of the table is a route without a key label whose freshness counter stands at its end (R362, R370). -/
def stoppedRouteBench : Block :=
  { bench with mem := [(gwTable + 28, 0xFF), (gwTable + 29, 0xFF), (gwTable + 30, 0xFF), (gwTable + 31, 0xFF)] }

theorem stoppedRouteBench_ready : stoppedRouteBench.Ready := ready_congr (b := bench) bench_ready rfl rfl rfl

/-- GW_ROUTE from queue 2 of node 1, which writes an empty entry, without a key label too, over entry 0. -/
def emptyRouteDesc : Desc := { src := .node 1 2, dws := [0x80, 0, 0x100, 0, 32], payload := List.replicate 32 0 }

/-- The route has stopped, and stays so under the same key label (R370). -/
theorem stoppedRouteBench_counter_kept :
    (runDesc emptyRouteDesc Block.gwRoute stoppedRouteBench).endCommand.readMem gwTable 32 =
      List.replicate 28 0 ++ List.replicate 4 0xFF := by
  decide +kernel

/-- Refutes O20: the clause of GW_ROUTE says that the table holds the payload, and its premises do not say that no route that it
overwrites has stopped. In `stoppedRouteBench` the counter of entry 0 keeps its last value where the payload has 0. -/
theorem not_framesAndGateway : ¬ Obligations.FramesAndGateway := by
  unfold Obligations.FramesAndGateway
  intro h
  obtain ⟨-, -, -, -, -, -, -, -, -, hroute, -⟩ := h
  obtain ⟨t, ht, -, ⟨-, htable, -⟩, -⟩ := hroute { blk := stoppedRouteBench } emptyRouteDesc stoppedRouteBench_ready
    ⟨fun direct => by cases direct <;> decide, by decide⟩ ⟨by decide, by decide⟩
    (by decide) (by decide) (by decide) (by decide) (by decide) (by decide) (by decide) rfl
  have hkept : t.blk.readMem gwTable 32 = List.replicate 28 0 ++ List.replicate 4 0xFF := by
    rw [exec_gwRoute] at ht
    rw [State.act_blk _ _ t ht]
    exact stoppedRouteBench_counter_kept
  exact absurd (hkept.symm.trans htable) (by decide)

end Sys2Proof.Machine
end

section
/-! PROOFS. The network channels: their status registers, what updates of a channel change, and the steps of the sleep and the
wake of one channel, which raise occurrences that are only recorded. -/
namespace Sys2Proof.Machine

/-! ### Fields of the status registers -/

/-- The status register of channel ch (R328). -/
def Block.statReg (ch : Nat) : Reg := if ch < 12 then R.CAN_STAT else if ch < 24 then R.LIN_STAT else R.ETH_PSTAT
def Block.statAt (ch : Nat) : Nat := (Block.statReg ch).at (netIdx ch)

namespace NetField

/-- A field of the status registers. -/
def InStat (f : NetField) : Prop := f.can.reg = R.CAN_STAT ∧ f.lin.reg = R.LIN_STAT ∧ f.eth.reg = R.ETH_PSTAT

/-- The field of every kind of channel holds v. -/
abbrev Fits (f : NetField) (v : Nat) : Prop :=
  (f.can.lo ≤ f.can.hi ∧ v < 2 ^ (f.can.hi + 1 - f.can.lo)) ∧ (f.lin.lo ≤ f.lin.hi ∧ v < 2 ^ (f.lin.hi + 1 - f.lin.lo)) ∧
    f.eth.lo ≤ f.eth.hi ∧ v < 2 ^ (f.eth.hi + 1 - f.eth.lo)

/-- The fields share no bit on any kind of channel. -/
abbrev Apart (f g : NetField) : Prop :=
  (f.can.hi < g.can.lo ∨ g.can.hi < f.can.lo) ∧ (f.lin.hi < g.lin.lo ∨ g.lin.hi < f.lin.lo) ∧
    (f.eth.hi < g.eth.lo ∨ g.eth.hi < f.eth.lo)

/-- The field is one bit on every kind of channel. -/
abbrev OneBit (f : NetField) : Prop := f.can.hi = f.can.lo ∧ f.lin.hi = f.lin.lo ∧ f.eth.hi = f.eth.lo

variable {f g : NetField} {ch v : Nat}

theorem of_cases (f : NetField) (ch : Nat) : f.of ch = f.can ∨ f.of ch = f.lin ∨ f.of ch = f.eth := by
  unfold NetField.of
  split
  · exact .inl rfl
  · split
    · exact .inr (.inl rfl)
    · exact .inr (.inr rfl)

theorem InStat.reg (h : f.InStat) (ch : Nat) : (f.of ch).reg = Block.statReg ch := by
  obtain ⟨hcan, hlin, heth⟩ := h
  unfold NetField.of Block.statReg
  split
  · exact hcan
  · split
    · exact hlin
    · exact heth

theorem Fits.of (h : f.Fits v) (ch : Nat) : (f.of ch).lo ≤ (f.of ch).hi ∧ v < 2 ^ ((f.of ch).hi + 1 - (f.of ch).lo) := by
  obtain ⟨hcan, hlin, heth⟩ := h
  rcases of_cases f ch with hf | hf | hf <;> rw [hf] <;> assumption

theorem Apart.of (h : f.Apart g) (ch : Nat) : (f.of ch).hi < (g.of ch).lo ∨ (g.of ch).hi < (f.of ch).lo := by
  obtain ⟨hcan, hlin, heth⟩ := h
  unfold NetField.of
  split
  · exact hcan
  · split
    · exact hlin
    · exact heth

theorem OneBit.of (h : f.OneBit) (ch : Nat) : (f.of ch).hi = (f.of ch).lo := by
  obtain ⟨hcan, hlin, heth⟩ := h
  rcases of_cases f ch with hf | hf | hf <;> rw [hf] <;> assumption

end NetField

theorem state_inStat : N.state.InStat := ⟨rfl, rfl, rfl⟩
theorem wakesrc_inStat : N.wakesrc.InStat := ⟨rfl, rfl, rfl⟩
theorem wakeev_inStat : N.wakeev.InStat := ⟨rfl, rfl, rfl⟩
theorem slept_inStat : N.slept.InStat := ⟨rfl, rfl, rfl⟩
theorem keepx_inStat : N.keepx.InStat := ⟨rfl, rfl, rfl⟩
theorem diag_inStat : N.diag.InStat := ⟨rfl, rfl, rfl⟩
theorem diagf_inStat : N.diagf.InStat := ⟨rfl, rfl, rfl⟩

namespace Block

/-! ### Updates of a channel -/

namespace Within

variable {l : List Nat} {ps : List Part} {a b : Block}

theorem updNet (b : Block) (c : Nat) (f : NetCh → NetCh) (h : .bus c ∈ ps) : b.Within l ps (b.updNet c f) :=
  ⟨beside_updNet b c f l h, rfl⟩

theorem send (b : Block) (o : Out) : b.Within l ps (b.send o) := ⟨beside_send b o l ps, rfl⟩

theorem keep (b : Block) (c : Nat) (f : NetKept → NetKept) (h : .kept ∈ ps) : b.Within l ps (b.keep c f) :=
  ⟨⟨fun _ _ _ _ => rfl, fun p hp => by
    cases p with
    | kept => exact absurd h hp
    | _ => simp [Part.Same, Block.keep]⟩, rfl⟩

theorem nset (b : Block) {f : NetField} (hf : f.InStat) (ch v : Nat) (h : statAt ch ∈ l) : b.Within l ps (b.nset f ch v) :=
  .setF b (f.of ch) (netIdx ch) v (by rw [hf.reg]; exact h)

theorem kept_eq (h : a.Within l ps b) (hp : .kept ∉ ps) : b.net.kept = a.net.kept := h.beside.2 .kept hp

end Within

section Reads

variable (b : Block) (k c v : Nat)

@[simp] theorem setF_nch (f : RegField) (n : Nat) : (b.setF f n v).nch c = b.nch c := rfl
@[simp] theorem wr_nch (r : Reg) (n w : Nat) : (b.wr r n w).nch c = b.nch c := rfl
@[simp] theorem send_nch (o : Out) : (b.send o).nch c = b.nch c := rfl
@[simp] theorem keep_nch (f : NetKept → NetKept) : (b.keep k f).nch c = b.nch c := rfl
@[simp] theorem nset_nch (f : NetField) : (b.nset f k v).nch c = b.nch c := rfl
@[simp] theorem updNet_nget (f : NetCh → NetCh) (g : NetField) : (b.updNet c f).nget g k = b.nget g k := rfl
@[simp] theorem updNet_nstate (f : NetCh → NetCh) : (b.updNet c f).nstate k = b.nstate k := rfl
@[simp] theorem send_nstate (o : Out) : (b.send o).nstate k = b.nstate k := rfl
@[simp] theorem keep_nget (f : NetKept → NetKept) (g : NetField) : (b.keep c f).nget g k = b.nget g k := rfl
@[simp] theorem keep_nstate (f : NetKept → NetKept) : (b.keep c f).nstate k = b.nstate k := rfl

@[simp] theorem keep_same (f : NetKept → NetKept) :
    Tab.get ({} : NetKept) (b.keep k f).net.kept k = f (Tab.get {} b.net.kept k) := by simp [keep]

theorem keep_ne (f : NetKept → NetKept) {k c : Nat} (h : c ≠ k) :
    Tab.get ({} : NetKept) (b.keep k f).net.kept c = Tab.get {} b.net.kept c := by simp [keep, Tab.get_put_ne _ _ _ h]

end Reads

/-! ### Channels by their kind -/

theorem isNet_of_kind {ch : Nat} (h : isCan ch = true ∨ isLin ch = true ∨ isEth ch = true) : isNet ch = true := by
  simpa [isNet, or_assoc] using h

theorem isNet_can : ∀ n : Fin 12, isNet n = true := by decide

theorem isNet_lin : ∀ n : Fin 8, isNet (16 + n) = true := by decide

theorem isNet_eth : ∀ p : Fin 5, isNet (24 + p) = true := by decide

theorem netIdx_port : ∀ p : Fin 5, netIdx (24 + p) = p := by decide

theorem statReg_can (n : Fin 12) : statReg n = R.CAN_STAT := if_pos n.isLt

theorem statReg_port (p : Fin 5) : statReg (24 + p) = R.ETH_PSTAT := by
  unfold statReg
  rw [if_neg (by omega), if_neg (by omega)]

/-! ### The status register of a channel -/

/-- The status registers of all channels. -/
def statRegs : List Nat := offsOf [R.CAN_STAT, R.ETH_PSTAT, R.LIN_STAT]

theorem statAt_mem_statRegs : ∀ ch : Fin 29, statAt ch ∈ statRegs := by decide

theorem statRegs_readyReg : ∀ x ∈ statRegs, readyReg x = false := by decide

theorem statRegs_recordReg : ∀ x ∈ statRegs, recordReg x = false := by decide

theorem statAt_can : ∀ n : Fin 12, statAt n = R.CAN_STAT.at n := by decide

theorem statAt_lin : ∀ n : Fin 8, statAt (16 + n) = R.LIN_STAT.at n := by decide

theorem statAt_eth : ∀ p : Fin 5, statAt (24 + p) = R.ETH_PSTAT.at p := by decide

theorem statAt_readyReg {ch : Nat} (hch : ch < 29) : readyReg (statAt ch) = false :=
  statRegs_readyReg _ (statAt_mem_statRegs ⟨ch, hch⟩)

theorem statAt_recordReg {ch : Nat} (hch : ch < 29) : recordReg (statAt ch) = false :=
  statRegs_recordReg _ (statAt_mem_statRegs ⟨ch, hch⟩)

theorem evNet_lt {ch : Nat} (hch : ch < 29) : evNet ch < 256 := by
  unfold evNet
  split_ifs <;> omega

theorem bus_mem_buses {c : Nat} (hc : c < 29) : .bus c ∈ Part.buses :=
  List.mem_map_of_mem (List.mem_range.mpr (by omega))

theorem pw_not_mem_buses : .pw ∉ Part.buses := by simp [Part.buses]

section Status

variable {l : List Nat} {ps : List Part} {f g : NetField} {ch v : Nat} {b : Block}

theorem nstate_of_isNet (h : isNet ch = true) (b : Block) : b.nstate ch = b.nget N.state ch := if_pos h

theorem nget_nset_lt (hf : (f.of ch).lo ≤ (f.of ch).hi) (hv : v < 2 ^ ((f.of ch).hi + 1 - (f.of ch).lo)) (b : Block) :
    (b.nset f ch v).nget f ch = v := getF_setF_lt _ _ _ hf hv

theorem nget_nset_same (hv : f.Fits v) (b : Block) (ch : Nat) : (b.nset f ch v).nget f ch = v :=
  nget_nset_lt (hv.of ch).1 (hv.of ch).2 b

theorem nget_nset_apart (hf : f.InStat) (hg : g.InStat) (hv : f.Fits 0) (h : f.Apart g) (b : Block) (ch v : Nat) :
    (b.nset f ch v).nget g ch = b.nget g ch :=
  getF_setF_beside b (f.of ch) (g.of ch) _ v ((hg.reg ch).trans (hf.reg ch).symm) (hv.of ch).1 (h.of ch)

/-- A new state shows. -/
theorem nstate_nset_state (hnet : isNet ch = true) (hv : v < 8) (b : Block) : (b.nset N.state ch v).nstate ch = v := by
  rw [nstate_of_isNet hnet]
  exact nget_nset_same ⟨⟨by decide, hv⟩, ⟨by decide, hv⟩, by decide, hv⟩ b ch

/-- A field of a channel keeps its value where its status register is not listed. -/
theorem Beside.nget_eq {a : Block} (h : a.Beside l ps b) (hf : f.InStat) (hch : ch < 29) (hl : statAt ch ∉ l) :
    b.nget f ch = a.nget f ch :=
  h.getF_eq (by rw [hf.reg]; exact hl) (by rw [hf.reg]; exact statAt_recordReg hch)

theorem Beside.nstate_eq {a : Block} (h : a.Beside l ps b) (hch : ch < 29) (hl : statAt ch ∉ l) : b.nstate ch = a.nstate ch := by
  unfold nstate
  rw [h.nget_eq state_inStat hch hl]

theorem Beside.nch_eq {a : Block} (h : a.Beside l ps b) (hp : .bus ch ∉ ps) : b.nch ch = a.nch ch := h.2 (.bus ch) hp

/-! ### Its sticky bits -/

theorem xstick_stays {f : RegField} (hf : f.reg = statReg ch) (hch : ch < 29) (hl : statAt ch ∈ l) (b : Block) :
    b.Stays l ps (b.xstick f ch) := stick_stays b (by rw [hf]; exact hl) (evNet_lt hch)

theorem xstick_within {f : RegField} (hf : f.reg = statReg ch) (hch : ch < 29) (ht : b.Tame) :
    b.Within [statAt ch] [] (b.xstick f ch) :=
  xstick_stays hf hch (List.mem_singleton_self _) b ht (by simpa using statAt_readyReg hch)

theorem xstick_same {f : RegField} (hf : f.reg = statReg ch) (hbit : f.hi = f.lo) (hch : ch < 29) (ht : b.Tame) :
    (b.xstick f ch).getF f (netIdx ch) = 1 :=
  stick_same hbit ht (by rw [hf]; exact statAt_readyReg hch) (by rw [hf]; exact statAt_recordReg hch) (evNet_lt hch)

theorem xstick_beside {f g : RegField} (hf : f.reg = statReg ch) (hg : g.reg = statReg ch) (hbit : f.hi = f.lo)
    (h : f.hi < g.lo ∨ g.hi < f.lo) (hch : ch < 29) (ht : b.Tame) :
    (b.xstick f ch).getF g (netIdx ch) = b.getF g (netIdx ch) :=
  stick_beside (hg.trans hf.symm) hbit h ht (by rw [hf]; exact statAt_readyReg hch) (by rw [hf]; exact statAt_recordReg hch)
    (evNet_lt hch)

theorem nstick_stays (hf : f.InStat) (hch : ch < 29) (hl : statAt ch ∈ l) (b : Block) : b.Stays l ps (b.nstick f ch) :=
  xstick_stays (hf.reg ch) hch hl b

theorem nstick_within (hf : f.InStat) (hch : ch < 29) (ht : b.Tame) : b.Within [statAt ch] [] (b.nstick f ch) :=
  xstick_within (hf.reg ch) hch ht

theorem nstick_same (hf : f.InStat) (hbit : f.OneBit) (hch : ch < 29) (ht : b.Tame) : (b.nstick f ch).nget f ch = 1 :=
  xstick_same (hf.reg ch) (hbit.of ch) hch ht

theorem nstick_apart (hf : f.InStat) (hg : g.InStat) (hbit : f.OneBit) (h : f.Apart g) (hch : ch < 29) (ht : b.Tame) :
    (b.nstick f ch).nget g ch = b.nget g ch := xstick_beside (hf.reg ch) (hg.reg ch) (hbit.of ch) (h.of ch) hch ht

theorem nstick_nstate (hf : f.InStat) (hbit : f.OneBit) (h : f.Apart N.state) (hch : ch < 29) (ht : b.Tame) :
    (b.nstick f ch).nstate ch = b.nstate ch := by
  unfold nstate
  rw [nstick_apart hf state_inStat hbit h hch ht]

theorem nset_tame (hf : f.InStat) (hch : ch < 29) (v : Nat) (ht : b.Tame) : (b.nset f ch v).Tame :=
  tame_setF (f.of ch) (by rw [hf.reg]; exact statAt_readyReg hch) v ht

end Status

/-! ### A result of the bus or cable test -/

section Diagnosis

variable {l : List Nat} {ps : List Part} {ch v : Nat} {b : Block}

theorem netDiag_stays (hch : ch < 29) (hl : statAt ch ∈ l) (v : Nat) (b : Block) : b.Stays l ps (b.netDiag ch v) := by
  have hset : b.Stays l ps (b.nset N.diag ch v) := .of_within (.nset b diag_inStat ch v hl)
  exact .ite _ hset (hset.trans (nstick_stays diagf_inStat hch hl _))

theorem diag_ordered (ch : Nat) : (N.diag.of ch).lo ≤ (N.diag.of ch).hi :=
  (NetField.Fits.of (f := N.diag) (v := 0) (by decide) ch).1

/-- The result shows; one that is new and not 0 sets its sticky bit (R337, R340, R345). -/
theorem netDiag_effect (hch : ch < 29) (hv : v < 2 ^ ((N.diag.of ch).hi + 1 - (N.diag.of ch).lo)) (ht : b.Tame) :
    (b.netDiag ch v).nget N.diag ch = v ∧ (v ≠ 0 → v ≠ b.nget N.diag ch → (b.netDiag ch v).nget N.diagf ch = 1) := by
  have hdiag : (b.nset N.diag ch v).nget N.diag ch = v := nget_nset_lt (diag_ordered ch) hv b
  have htame : (b.nset N.diag ch v).Tame := nset_tame diag_inStat hch v ht
  unfold netDiag
  dsimp only
  split
  · next hold => exact ⟨hdiag, fun hzero hnew => absurd hold (by simp [hzero, hnew])⟩
  · exact ⟨(nstick_apart diagf_inStat diag_inStat (by decide) (by decide) hch htame).trans hdiag,
      fun _ _ => nstick_same diagf_inStat (by decide) hch htame⟩

/-- The other fields of the status register stay. -/
theorem netDiag_apart {g : NetField} (hg : g.InStat) (hdiag : N.diag.Apart g) (hflag : N.diagf.Apart g) (hch : ch < 29)
    (v : Nat) (ht : b.Tame) : (b.netDiag ch v).nget g ch = b.nget g ch := by
  have hset : (b.nset N.diag ch v).nget g ch = b.nget g ch := nget_nset_apart diag_inStat hg (by decide) hdiag b ch v
  unfold netDiag
  dsimp only
  split
  · exact hset
  · exact (nstick_apart diagf_inStat hg (by decide) hflag hch (nset_tame diag_inStat hch v ht)).trans hset

theorem netDiag_nstate (hch : ch < 29) (v : Nat) (ht : b.Tame) : (b.netDiag ch v).nstate ch = b.nstate ch := by
  unfold nstate
  rw [netDiag_apart state_inStat (by decide) (by decide) hch v ht]

end Diagnosis

end Block

end Sys2Proof.Machine
end

section
/-! PROOFS. Sleep and wake of the network channels: a channel that goes to sleep, commits, outlasts AWAKEMAX or wakes changes its
own status and record, a wake of one T1 port also those of the other, and what it raises is only recorded. -/
namespace Sys2Proof.Machine

namespace Block

/-! ### Arming the detector -/

section Arming

variable (ch c : Nat) (quiet : Bool) (b : Block)

theorem tryArm_nch : (b.tryArm ch quiet).nch ch =
    { b.nch ch with armed := (b.mayCommit ch && (!isCan ch || quiet)) || (b.nch ch).armed } := by
  unfold tryArm
  split
  · next h => rw [updNet_same, h]; rfl
  · next h => rw [Bool.not_eq_true] at h; rw [h]; rfl

@[simp] theorem tryArm_regs : (b.tryArm ch quiet).regs = b.regs := by
  unfold tryArm
  split <;> rfl

@[simp] theorem tryArm_pw : (b.tryArm ch quiet).pw = b.pw := by
  unfold tryArm
  split <;> rfl

@[simp] theorem tryArm_catchm : (b.tryArm ch quiet).catchm = b.catchm := by
  unfold tryArm
  split <;> rfl

@[simp] theorem tryArm_out : (b.tryArm ch quiet).out = b.out := by
  unfold tryArm
  split <;> rfl

@[simp] theorem tryArm_nstate : (b.tryArm ch quiet).nstate c = b.nstate c := by
  unfold tryArm
  split <;> rfl

@[simp] theorem tryArm_nget (f : NetField) : (b.tryArm ch quiet).nget f c = b.nget f c := by
  unfold tryArm
  split <;> rfl

theorem tryArm_within {l : List Nat} {ps : List Part} (h : .bus ch ∈ ps) : b.Within l ps (b.tryArm ch quiet) :=
  .ite _ (.updNet b ch _ h) (.refl b)

end Arming

/-! ### Going to sleep -/

section Sleep

variable {ch : Nat} {b : Block}

/-- A channel in AWAKE is asked to sleep (R346). -/
def askSleep (ch : Nat) (b : Block) : Block :=
  (b.nset N.state ch 3).updNet ch fun c =>
    { c with prev := 1, armed := false, enforce := false, idle := false, ack := false, recov := false }

theorem enterSleepReq_of_awake (h : b.nstate ch = 1) : b.enterSleepReq ch = b.askSleep ch := by
  simp [enterSleepReq, askSleep, h]

theorem askSleep_within (ch : Nat) (b : Block) : b.Within [statAt ch] [.bus ch] (b.askSleep ch) :=
  (Within.nset b state_inStat ch 3 (List.mem_singleton_self _)).trans (.updNet _ ch _ (List.mem_singleton_self _))

theorem askSleep_nstate (hnet : isNet ch = true) (b : Block) : (b.askSleep ch).nstate ch = 3 :=
  nstate_nset_state hnet (by decide) b

theorem askSleep_nget {f : NetField} (hf : f.InStat) (h : N.state.Apart f) (b : Block) : (b.askSleep ch).nget f ch = b.nget f ch :=
  nget_nset_apart state_inStat hf (by decide) h b ch 3

/-- AUTOSLP of a responder in AWAKE acts (R346, R347). -/
theorem linAutoSleep_of_awake (hstate : b.nstate ch = 1) (hauto : b.autoSleep ch = true) :
    b.linAutoSleep ch = ((b.askSleep ch).updNet ch fun c => { c with idle := true }).tryArm ch true := by
  simp [linAutoSleep, hstate, hauto, enterSleepReq_of_awake hstate]

theorem linAutoSleep_within (hstate : b.nstate ch = 1) : b.Within [statAt ch] [.bus ch] (b.linAutoSleep ch) := by
  unfold linAutoSleep
  refine .ite _ ?_ (.refl b)
  rw [if_pos (by simp [hstate]), enterSleepReq_of_awake hstate]
  exact ((askSleep_within ch b).trans (.updNet _ ch _ (List.mem_singleton_self _))).trans
    (tryArm_within ch true _ (List.mem_singleton_self _))

theorem linAutoSleep_effect (hnet : isNet ch = true) (hstate : b.nstate ch = 1) (hauto : b.autoSleep ch = true) :
    (b.linAutoSleep ch).nstate ch = 3 ∧ ((b.linAutoSleep ch).nch ch).prev = 1 ∧
      (b.linAutoSleep ch).nget N.diag ch = b.nget N.diag ch := by
  rw [linAutoSleep_of_awake hstate hauto]
  refine ⟨?_, ?_, ?_⟩
  · rw [tryArm_nstate, updNet_nstate, askSleep_nstate hnet]
  · rw [tryArm_nch, updNet_same, askSleep, updNet_same]
  · rw [tryArm_nget, updNet_nget, askSleep_nget diag_inStat (by decide)]

end Sleep

/-! ### The commit -/

section Commit

variable {ch : Nat} {b : Block}

/-- The sleep command reaches the transceiver or PHY, before SLEPT shows it (R348). -/
def commit (ch : Nat) (b : Block) : Block :=
  let b := ((b.nset N.state ch 4).updNet ch fun c => { c with armed := false, enforce := false }).keepAsleep ch
  if isEth ch then b.setF F.ETH_PSTAT_LINK (ch - 24) 0 else b

theorem sleepCommit_of_armed (hstate : b.nstate ch = 3) (harmed : (b.nch ch).armed = true) :
    b.sleepCommit ch = (b.commit ch).nstick N.slept ch := by
  unfold sleepCommit
  rw [if_pos (by simp [hstate, harmed])]
  rfl

theorem netIdx_eth (h : isEth ch = true) : ch - 24 = netIdx ch := by
  simp only [isEth, decide_eq_true_eq] at h
  unfold netIdx
  rw [if_neg (by omega), if_neg (by omega)]

theorem statReg_eth (h : isEth ch = true) : statReg ch = R.ETH_PSTAT := by
  simp only [isEth, decide_eq_true_eq] at h
  unfold statReg
  rw [if_neg (by omega), if_neg (by omega)]

theorem link_at (h : isEth ch = true) : F.ETH_PSTAT_LINK.reg.at (ch - 24) = statAt ch := by
  rw [statAt, statReg_eth h, netIdx_eth h]
  rfl

theorem state_of_eth (h : isEth ch = true) : N.state.of ch = F.ETH_PSTAT_STATE := by
  simp only [isEth, decide_eq_true_eq] at h
  unfold NetField.of
  rw [if_neg (by omega), if_neg (by omega)]
  rfl

/-- LINK does not touch the state of its port. -/
theorem setLink_nstate (h : isEth ch = true) (v : Nat) (b : Block) :
    (b.setF F.ETH_PSTAT_LINK (ch - 24) v).nstate ch = b.nstate ch := by
  unfold nstate nget
  rw [state_of_eth h, netIdx_eth h, getF_setF_beside b F.ETH_PSTAT_LINK F.ETH_PSTAT_STATE _ v rfl (by decide) (by decide)]

theorem keepAsleep_within {l : List Nat} {ps : List Part} (b : Block) (h : .kept ∈ ps) : b.Within l ps (b.keepAsleep ch) :=
  .keep b ch (fun k => { k with mode := b.detector ch, asleep := true, cfg := b.detWords ch, errs := 0 }) h

theorem commit_within (ch : Nat) (b : Block) : b.Within [statAt ch] [.kept, .bus ch] (b.commit ch) := by
  have hsleep : b.Within [statAt ch] [.kept, .bus ch]
      (((b.nset N.state ch 4).updNet ch fun c => { c with armed := false, enforce := false }).keepAsleep ch) :=
    ((Within.nset b state_inStat ch 4 (List.mem_singleton_self _)).trans (.updNet _ ch _ (by simp))).trans
      (keepAsleep_within _ (List.mem_cons_self ..))
  unfold commit
  dsimp only
  split
  · next heth => exact hsleep.trans (.setF _ F.ETH_PSTAT_LINK _ 0 (by simp [link_at heth]))
  · exact hsleep

theorem commit_effect (hnet : isNet ch = true) (b : Block) :
    (b.commit ch).nstate ch = 4 ∧ ((b.commit ch).nch ch).armed = false ∧
      (Tab.get ({} : NetKept) (b.commit ch).net.kept ch).asleep = true := by
  have hstate : (((b.nset N.state ch 4).updNet ch fun c => { c with armed := false, enforce := false }).keepAsleep ch).nstate ch = 4 := by
    rw [keepAsleep, keep_nstate, updNet_nstate, nstate_nset_state hnet (by decide)]
  unfold commit
  dsimp only
  split
  · next heth =>
      refine ⟨by rw [setLink_nstate heth, hstate], ?_, ?_⟩
      · rw [setF_nch, keepAsleep, keep_nch, updNet_same]
      · rw [setF_net, keepAsleep, keep_same]
  · refine ⟨hstate, ?_, ?_⟩
    · rw [keepAsleep, keep_nch, updNet_same]
    · rw [keepAsleep, keep_same]

end Commit

/-! ### AWAKEMAX -/

section AwakeMax

variable {ch : Nat} {b : Block}

/-- The registers of the KEEP records. -/
def keepRegs : List Nat := offsOf [R.CAN_KEEP, R.ETH_KEEP0, R.ETH_KEEP1, R.LIN_KEEP]

theorem keepRegs_readyReg : ∀ x ∈ keepRegs, readyReg x = false := by decide

theorem statAt_not_mem_keepRegs : ∀ ch : Fin 29, statAt ch ∉ keepRegs := by decide

theorem canKeep_mem : ∀ n : Fin 12, R.CAN_KEEP.at n ∈ keepRegs := by decide

theorem linKeep_mem : ∀ n : Fin 8, R.LIN_KEEP.at n ∈ keepRegs := by decide

theorem ethKeep_mem : ∀ p : Fin 5, R.ETH_KEEP0.at p ∈ keepRegs ∧ R.ETH_KEEP1.at p ∈ keepRegs := by decide

/-- A property that every write to a KEEP record keeps holds after one is loaded (R352). -/
theorem keepRecord_induction {P : Block → Prop} (hnet : isNet ch = true) (h : P b)
    (hwr : ∀ (b : Block) (r : Reg) (n w : Nat), r.at n ∈ keepRegs → P b → P (b.wr r n w)) : P (b.keepRecord ch) := by
  unfold keepRecord
  split
  · exact h
  · split
    · next hcan => exact hwr _ _ _ _ (canKeep_mem ⟨ch, by simpa [isCan] using hcan⟩) h
    · split
      · next hlin =>
          have hn : ch - 16 < 8 := by
            simp only [isLin, decide_eq_true_eq] at hlin
            omega
          exact hwr _ _ _ _ (linKeep_mem ⟨ch - 16, hn⟩) h
      · next hcan hlin =>
          have hp : ch - 24 < 5 := by
            simp only [isNet, isCan, isLin, isEth, Bool.or_eq_true, decide_eq_true_eq] at hnet hcan hlin
            omega
          obtain ⟨hlow, hhigh⟩ := ethKeep_mem ⟨ch - 24, hp⟩
          exact hwr _ _ _ _ hhigh (hwr _ _ _ _ hlow h)

theorem keepRecord_within (hnet : isNet ch = true) (b : Block) : b.Within keepRegs [] (b.keepRecord ch) :=
  keepRecord_induction hnet (.refl b) fun c r n w hmem hw => hw.trans (.wr c r n w hmem)

theorem keepRecord_ready (hnet : isNet ch = true) (h : b.Ready) : (b.keepRecord ch).Ready :=
  keepRecord_induction hnet h fun c r n w hmem hc => ready_wr c r n w (keepRegs_readyReg _ hmem) hc

/-- KEEPX, the KEEP record and the enforced sleep of AWAKEMAX_EXPIRY, before its event (R352). -/
def outlast (ch : Nat) (quiet : Bool) (b : Block) : Block :=
  let k := b.kapol ch
  let b := b.nset N.keepx ch 1
  let b := if k = 3 then b else b.keepRecord ch
  if (k == 1 || (k == 0 && decide (b.chainNodes ≤ 16))) && !(isLin ch && b.linResponder ch) then
    (b.updNet ch fun c => { c with enforce := true }).tryArm ch quiet
  else b

theorem awakeMax_of_sleepReq (quiet : Bool) (hstate : b.nstate ch = 3) :
    b.awakeMax ch quiet = (b.outlast ch quiet).raiseOpen (evNet ch) := by
  unfold awakeMax
  rw [if_neg (by simp [hstate])]
  rfl

/-- A property that the record keeps, and that setting ENFORCE and arming keep, holds before the event. -/
theorem outlast_induction {P : Block → Prop} (quiet : Bool) (hset : P (b.nset N.keepx ch 1)) (hkeep : ∀ b, P b → P (b.keepRecord ch))
    (harm : ∀ b, P b → P ((b.updNet ch fun c => { c with enforce := true }).tryArm ch quiet)) : P (b.outlast ch quiet) := by
  have hrecord : P (if b.kapol ch = 3 then b.nset N.keepx ch 1 else (b.nset N.keepx ch 1).keepRecord ch) := by
    split
    · exact hset
    · exact hkeep _ hset
  unfold outlast
  dsimp only
  generalize (if b.kapol ch = 3 then b.nset N.keepx ch 1 else (b.nset N.keepx ch 1).keepRecord ch) = c at hrecord ⊢
  split
  · exact harm _ hrecord
  · exact hrecord

theorem outlast_ready (quiet : Bool) (hnet : isNet ch = true) (hch : ch < 29) (h : b.Ready) : (b.outlast ch quiet).Ready :=
  outlast_induction quiet
    (ready_setF b (N.keepx.of ch) _ 1 (by rw [keepx_inStat.reg]; exact statAt_readyReg hch) h)
    (fun _ hb => keepRecord_ready hnet hb)
    (fun b hb => ready_congr hb (by simp) (by simp) (by simp))

theorem outlast_within (quiet : Bool) (hnet : isNet ch = true) (b : Block) :
    b.Within (statAt ch :: keepRegs) [.bus ch] (b.outlast ch quiet) :=
  outlast_induction quiet (.nset b keepx_inStat ch 1 (List.mem_cons_self ..))
    (fun c hw => hw.trans ((keepRecord_within hnet c).mono (List.subset_cons_self ..) (List.nil_subset _)))
    (fun c hw => hw.trans ((Within.updNet c ch _ (List.mem_singleton_self _)).trans
      (tryArm_within ch quiet _ (List.mem_singleton_self _))))

theorem outlast_keepx (quiet : Bool) (hnet : isNet ch = true) (hch : ch < 29) (b : Block) :
    (b.outlast ch quiet).nget N.keepx ch = 1 :=
  outlast_induction quiet (nget_nset_same (by decide) b ch)
    (fun c hc => ((keepRecord_within hnet c).beside.nget_eq keepx_inStat hch (statAt_not_mem_keepRegs ⟨ch, hch⟩)).trans hc)
    (fun c hc => by rw [tryArm_nget, updNet_nget, hc])

theorem crossOf_net : ∀ ch : Fin 29, ∀ x ∈ crossOf (evNet ch), x < 56 := by decide

/-- An event of a channel sets its sticky bit in the catchment. -/
theorem raiseNet_hasEvent (hch : ch < 29) (h : b.Ready) : (b.raiseOpen (evNet ch)).HasEvent (evNet ch) := by
  obtain ⟨-, htame, -, hpg, hroom⟩ := h
  refine raiseOpen_hasEvent htame (evNet_lt hch) (Bool.or_eq_true_iff.mpr (.inl hpg)) fun x hx => ?_
  have hfew := hroom x (crossOf_net ⟨ch, hch⟩ x hx)
  omega

end AwakeMax

/-! ### Waking -/

section Wake

variable {ch src : Nat} {b : Block}

/-- A channel goes back to the state before its sleep with its cause in WAKESRC, before WAKEEV shows it (R349, R350). -/
def rouse (ch src : Nat) (b : Block) : Block :=
  ((((b.nset N.state ch (b.nch ch).prev).nset N.wakesrc ch src).updNet ch fun c =>
    { c with armed := false, enforce := false, idle := false, ack := false })).keep ch fun k =>
      { k with src := src, asleep := false, errs := 0 }

theorem wakeOne_cases (ch src : Nat) (b : Block) :
    b.wakeOne ch src = b ∨ b.wakeOne ch src = ((if b.nstate ch == 3 then b.wakeFrame ch else b).rouse ch src).nstick N.wakeev ch := by
  unfold wakeOne
  dsimp only
  split
  · exact .inl rfl
  · exact .inr rfl

theorem wakeOne_of_asleep (src : Nat) (h : b.nstate ch = 4) : b.wakeOne ch src = (b.rouse ch src).nstick N.wakeev ch := by
  simp [wakeOne, rouse, keep, h]

theorem rouse_within (ch src : Nat) (b : Block) : b.Within [statAt ch] [.kept, .bus ch] (b.rouse ch src) :=
  (((Within.nset b state_inStat ch _ (by simp)).trans (.nset _ wakesrc_inStat ch src (by simp))).trans
    (.updNet _ ch _ (by simp))).trans (.keep _ ch _ (by simp))

theorem wakeFrame_within {l : List Nat} {ps : List Part} (ch : Nat) (b : Block) : b.Within l ps (b.wakeFrame ch) := by
  unfold wakeFrame
  dsimp only
  split
  · exact .ite _ (.refl b) (.send b _)
  · exact .ite _ (.send b _) (.refl b)

theorem wakeOne_stays (hch : ch < 29) (src : Nat) (b : Block) : b.Stays [statAt ch] [.kept, .bus ch] (b.wakeOne ch src) := by
  rcases wakeOne_cases ch src b with h | h <;> rw [h]
  · exact .refl b
  · exact (Stays.of_within ((Within.ite _ (wakeFrame_within ch b) (.refl b)).trans (rouse_within ch src _))).trans
      (nstick_stays wakeev_inStat hch (by simp) _)

theorem wakeFrame_kept (ch : Nat) (b : Block) : (b.wakeFrame ch).net.kept = b.net.kept :=
  (wakeFrame_within (l := []) (ps := []) ch b).kept_eq List.not_mem_nil

/-- What is kept of the other channels stays. -/
theorem wakeOne_kept_ne {c : Nat} (hch : ch < 29) (h : c ≠ ch) (src : Nat) (ht : b.Tame) :
    Tab.get ({} : NetKept) (b.wakeOne ch src).net.kept c = Tab.get {} b.net.kept c := by
  rcases wakeOne_cases ch src b with hw | hw <;> rw [hw]
  have hstart : (if b.nstate ch == 3 then b.wakeFrame ch else b).net.kept = b.net.kept := by
    split
    · exact wakeFrame_kept ch b
    · rfl
  have htame : ((if b.nstate ch == 3 then b.wakeFrame ch else b).rouse ch src).Tame :=
    ((Within.ite _ (wakeFrame_within ch b) (.refl b)).trans (rouse_within ch src _)).tame (by simpa using statAt_readyReg hch) ht
  rw [(nstick_within wakeev_inStat hch htame).kept_eq List.not_mem_nil, rouse, keep_ne _ _ h, ← hstart]
  rfl

/-- A channel in SLEEP wakes into the state before its sleep (R349, R350). -/
theorem wakeOne_effect (hnet : isNet ch = true) (hch : ch < 29) (hsrc : src < 8) (hstate : b.nstate ch = 4)
    (hprev : (b.nch ch).prev < 8) (ht : b.Tame) :
    (b.wakeOne ch src).nstate ch = (b.nch ch).prev ∧ (b.wakeOne ch src).nget N.wakesrc ch = src ∧
      (b.wakeOne ch src).nget N.wakeev ch = 1 ∧ (Tab.get ({} : NetKept) (b.wakeOne ch src).net.kept ch).asleep = false := by
  have htame : (b.rouse ch src).Tame := (rouse_within ch src b).tame (by simpa using statAt_readyReg hch) ht
  rw [wakeOne_of_asleep src hstate]
  refine ⟨?_, ?_, nstick_same wakeev_inStat (by decide) hch htame, ?_⟩
  · have hset : (b.rouse ch src).nstate ch = (b.nch ch).prev := by
      rw [rouse, keep_nstate, updNet_nstate, nstate_of_isNet hnet,
        nget_nset_apart wakesrc_inStat state_inStat (by decide) (by decide), ← nstate_of_isNet hnet, nstate_nset_state hnet hprev]
    rw [nstick_nstate wakeev_inStat (by decide) (by decide) hch htame, hset]
  · have hfits : N.wakesrc.Fits src := ⟨⟨by decide, hsrc⟩, ⟨by decide, hsrc⟩, by decide, hsrc⟩
    rw [nstick_apart wakeev_inStat wakesrc_inStat (by decide) (by decide) hch htame, rouse, keep_nget, updNet_nget,
      nget_nset_same hfits]
  · rw [(nstick_within wakeev_inStat hch htame).kept_eq List.not_mem_nil, rouse, keep_same]

theorem wakeOne_nget_ne {c : Nat} {f : NetField} (hf : f.InStat) (hch : ch < 29) (hc : c < 29) (h : statAt c ≠ statAt ch) (src : Nat)
    (ht : b.Tame) : (b.wakeOne ch src).nget f c = b.nget f c :=
  (wakeOne_stays hch src b ht (by simpa using statAt_readyReg hch)).beside.nget_eq hf hc (mt List.mem_singleton.mp h)

theorem isT1_iff : isT1 ch = true ↔ ch = 24 ∨ ch = 25 := by simp [isT1]

/-- The two T1 ports (R359). -/
theorem t1_mate {ch : Nat} (h : isT1 ch = true) : 49 - ch < 29 ∧ ch ≠ 49 - ch ∧ statAt ch ≠ statAt (49 - ch) := by
  rcases isT1_iff.mp h with rfl | rfl <;> decide

/-- The parts that a wake may change. -/
def wakeParts : List Part := [Part.kept, Part.net] ++ Part.buses

theorem wakeOne_stays_wake (hch : ch < 29) (src : Nat) (b : Block) : b.Stays statRegs wakeParts (b.wakeOne ch src) :=
  (wakeOne_stays hch src b).mono (by simpa using statAt_mem_statRegs ⟨ch, hch⟩)
    (by simpa [wakeParts] using bus_mem_buses hch)

theorem wake_stays (hch : ch < 29) (src : Nat) (b : Block) : b.Stays statRegs wakeParts (b.wake ch src) := by
  have hone := wakeOne_stays_wake hch src b
  unfold wake
  dsimp only
  split
  · next h =>
      have ht1 : isT1 ch = true := by
        simp only [Bool.and_eq_true] at h
        exact h.1.1.1
      exact hone.trans (wakeOne_stays_wake (t1_mate ht1).1 6 _)
  · exact hone

/-- A wake that is forwarded to the other T1 port leaves the channel awake (R350, R359). -/
theorem wake_effect (hnet : isNet ch = true) (hch : ch < 29) (hsrc : src < 8) (hstate : b.nstate ch = 4)
    (hprev : (b.nch ch).prev < 8) (ht : b.Tame) :
    (b.wake ch src).nstate ch = (b.nch ch).prev ∧ (b.wake ch src).nget N.wakesrc ch = src ∧
      (b.wake ch src).nget N.wakeev ch = 1 ∧ (Tab.get ({} : NetKept) (b.wake ch src).net.kept ch).asleep = false := by
  have hone := wakeOne_effect hnet hch hsrc hstate hprev ht
  have htame : (b.wakeOne ch src).Tame :=
    (wakeOne_stays hch src b ht (by simpa using statAt_readyReg hch)).tame (by simpa using statAt_readyReg hch) ht
  unfold wake
  dsimp only
  split
  · next h =>
      obtain ⟨hmate, hne, hstat⟩ := t1_mate (ch := ch) (by
        simp only [Bool.and_eq_true] at h
        exact h.1.1.1)
      rw [nstate_of_isNet hnet] at hone ⊢
      rw [wakeOne_nget_ne state_inStat hmate hch hstat 6 htame, wakeOne_nget_ne wakesrc_inStat hmate hch hstat 6 htame,
        wakeOne_nget_ne wakeev_inStat hmate hch hstat 6 htame, wakeOne_kept_ne hmate hne 6 htame]
      exact hone
  · exact hone

/-- A detector that looks for no frames moves no counter (R351). -/
theorem detect_of_pattern {seen : NetSeen} (h : (b.detect ch seen).2 = 1) : (b.detect ch seen).1 = b := by
  cases seen with
  | frame f =>
      exfalso
      revert h
      simp only [detect]
      split_ifs <;> simp
  | badFrame =>
      exfalso
      revert h
      simp only [detect]
      split_ifs <;> simp
  | _ => rfl

theorem wakeDetect_of_pattern {seen : NetSeen} (hstate : b.nstate ch = 4) (h : (b.detect ch seen).2 = 1) :
    b.wakeDetect ch seen = b.wake ch 1 := by
  simp [wakeDetect, hstate, h, detect_of_pattern h]

/-- A wake of a module that is awake cancels no entry into Still (R77). -/
theorem stillNet_of_ready {o : Block} (h : o.Ready) (b : Block) : o.stillNet b = b := by
  obtain ⟨-, -, ⟨-, hawake⟩, -⟩ := h
  simp [stillNet, hawake]

end Wake

end Block

/-! ### The commands -/

section SleepCommands

open Block

variable (s : State)

/-- A command whose effect stays within one channel completes with it. -/
theorem completes_of_channel {c : Instr} {f : Block → Block} {E : Block → Prop} {ch : Nat} (hx : exec c s = s.act f)
    (hready : s.blk.Ready) (hch : ch < 29) (h : s.blk.Stays [statAt ch] Part.buses (f s.blk))
    (he : s.blk.Within [statAt ch] Part.buses (f s.blk) → E (f s.blk)) : Completes c s E :=
  completes_of_stays hx hready h (by simpa using statAt_readyReg hch) pw_not_mem_buses he

theorem singleton_bus_subset {ch : Nat} (hch : ch < 29) : [Part.bus ch] ⊆ Part.buses := by simpa using bus_mem_buses hch

theorem completes_linGotoSleep (n : Fin 8) (hready : s.blk.Ready) (hstate : s.blk.nstate (16 + n) = 1)
    (hauto : s.blk.autoSleep (16 + n) = true) :
    Completes (.linGotoSleep n) s fun b => b.nstate (16 + n) = 3 ∧ (b.nch (16 + n)).prev = 1 ∧
      s.blk.Beside [R.LIN_STAT.at n.val] Part.buses b := by
  have hch : 16 + n.val < 29 := by omega
  obtain ⟨hsleep, hprev, -⟩ := linAutoSleep_effect (isNet_lin n) hstate hauto
  rw [← statAt_lin n]
  exact completes_of_channel s (f := fun b => b.linGotoSleep n) rfl hready hch
    (.of_within ((linAutoSleep_within hstate).mono (List.Subset.refl _) (singleton_bus_subset hch)))
    fun hw => ⟨hsleep, hprev, hw.beside⟩

theorem completes_linHeaderSilence (n : Fin 8) (hready : s.blk.Ready) (hstate : s.blk.nstate (16 + n) = 1)
    (hresponder : s.blk.linResponder (16 + n) = true) :
    Completes (.linHeaderSilence n) s fun b => (b.nget N.diag (16 + n) = 3 ∧
      b.nstate (16 + n) = (if s.blk.autoSleep (16 + n) then 3 else 1)) ∧ s.blk.Beside [R.LIN_STAT.at n.val] Part.buses b := by
  have hch : 16 + n.val < 29 := by omega
  have heffect : s.blk.linSilence n = (s.blk.netDiag (16 + n) 3).linAutoSleep (16 + n) := by
    simp [linSilence, hstate, hresponder]
  have htest : s.blk.Within [statAt (16 + n)] [] (s.blk.netDiag (16 + n) 3) :=
    netDiag_stays hch (List.mem_singleton_self _) 3 s.blk hready.2.1 (by simpa using statAt_readyReg hch)
  have hfits : N.diag.Fits 3 := by decide
  obtain ⟨hdiag, -⟩ := netDiag_effect hch (hfits.of _).2 hready.2.1
  have hstate' : (s.blk.netDiag (16 + n) 3).nstate (16 + n) = 1 := (netDiag_nstate hch 3 hready.2.1).trans hstate
  have hauto : (s.blk.netDiag (16 + n) 3).autoSleep (16 + n) = s.blk.autoSleep (16 + n) := by
    rw [autoSleep, linResponder, htest.beside.nch_eq List.not_mem_nil]
    rfl
  rw [← statAt_lin n]
  refine completes_of_channel s (f := fun b => b.linSilence n) rfl hready hch (.of_within ?_)
    fun hw => ⟨?_, hw.beside⟩
  · rw [heffect]
    exact (htest.mono (List.Subset.refl _) (List.nil_subset _)).trans
      ((linAutoSleep_within hstate').mono (List.Subset.refl _) (singleton_bus_subset hch))
  · rw [heffect]
    by_cases hsleeps : s.blk.autoSleep (16 + n) = true
    · obtain ⟨hsleep, -, hsame⟩ := linAutoSleep_effect (isNet_lin n) hstate' (hauto.trans hsleeps)
      exact ⟨hsame.trans hdiag, by rw [if_pos hsleeps, hsleep]⟩
    · have hstays : (s.blk.netDiag (16 + n) 3).linAutoSleep (16 + n) = s.blk.netDiag (16 + n) 3 :=
        if_neg (by simp [hauto, hsleeps])
      rw [hstays, if_neg hsleeps]
      exact ⟨hdiag, hstate'⟩

theorem completes_idleTimeout (ch : BusAt) (hready : s.blk.Ready)
    (_ : isCan ch.ch = true ∨ isLin ch.ch = true ∨ isEth ch.ch = true) (hstate : s.blk.nstate ch.ch = 3) :
    Completes (.idleTimeout ch) s fun b => ((b.nch ch.ch).idle = true ∧ ((s.blk.nch ch.ch).fifo = [] → (s.blk.nch ch.ch).prio = [] →
      (s.blk.nch ch.ch).gw = [] → (s.blk.nch ch.ch).jobs = [] → isT1 ch.ch = false → (isCan ch.ch = true → ch.quiet = true) →
      (b.nch ch.ch).armed = true)) ∧ s.blk.Beside (offsOf [R.CAN_STAT, R.ETH_PSTAT, R.LIN_STAT]) Part.buses b := by
  have hbus : .bus ch.ch.val ∈ Part.buses := bus_mem_buses (by omega)
  have heffect : s.blk.idleTimeout ch.ch ch.quiet = (s.blk.updNet ch.ch fun c => { c with idle := true }).tryArm ch.ch ch.quiet := by
    simp [idleTimeout, hstate]
  have hw : s.blk.Within statRegs Part.buses (s.blk.idleTimeout ch.ch ch.quiet) :=
    heffect ▸ (Within.updNet s.blk ch.ch _ hbus).trans (tryArm_within ch.ch ch.quiet _ hbus)
  refine completes_of_within (f := fun b => b.idleTimeout ch.ch ch.quiet) rfl hready hw statRegs_readyReg pw_not_mem_buses
    ⟨?_, hw.beside⟩
  rw [heffect, tryArm_nch, updNet_same]
  refine ⟨rfl, fun hfifo hprio hgw hjobs hother hquiet => ?_⟩
  have hidle : !isCan ch.ch || ch.quiet := by
    cases hcan : isCan ch.ch with
    | true => simp [hquiet hcan]
    | false => rfl
  simp [mayCommit, hstate, hfifo, hprio, hgw, hjobs, hother, hidle]

theorem completes_sleepCommit (ch : Fin 28) (hready : s.blk.Ready) (hkind : isCan ch = true ∨ isLin ch = true ∨ isEth ch = true)
    (hstate : s.blk.nstate ch = 3) (harmed : (s.blk.nch ch).armed = true) :
    Completes (.sleepCommit ch) s fun b => b.nstate ch = 4 ∧ b.nget N.slept ch = 1 ∧ (b.nch ch).armed = false ∧
      (Tab.get ({} : NetKept) b.net.kept ch).asleep = true ∧
      s.blk.Beside (offsOf [R.CAN_STAT, R.ETH_PSTAT, R.LIN_STAT]) ([Part.kept] ++ Part.buses) b := by
  have hch : ch.val < 29 := by omega
  have heffect := sleepCommit_of_armed hstate harmed
  have hcommit := commit_within ch s.blk
  have htame := hcommit.tame (by simpa using statAt_readyReg hch) hready.2.1
  have hslept := nstick_within slept_inStat hch htame
  obtain ⟨hasleep, hdisarmed, hkept⟩ := commit_effect (isNet_of_kind hkind) s.blk
  have hw : s.blk.Within statRegs ([Part.kept] ++ Part.buses) (s.blk.sleepCommit ch) := by
    rw [heffect]
    exact (hcommit.trans (hslept.mono (List.Subset.refl _) (List.nil_subset _))).mono
      (by simpa using statAt_mem_statRegs ⟨ch, hch⟩) (by simpa using bus_mem_buses hch)
  refine completes_of_within (f := fun b => b.sleepCommit ch) rfl hready hw statRegs_readyReg (by simp [Part.buses])
    ⟨?_, ?_, ?_, ?_, hw.beside⟩ <;> rw [heffect]
  · rw [nstick_nstate slept_inStat (by decide) (by decide) hch htame, hasleep]
  · exact nstick_same slept_inStat (by decide) hch htame
  · rw [hslept.beside.nch_eq List.not_mem_nil, hdisarmed]
  · rw [hslept.kept_eq List.not_mem_nil, hkept]

theorem outlastRegs_subset (ch : Fin 28) :
    statAt ch :: keepRegs ⊆
      offsOf [R.CAN_KEEP, R.CAN_STAT, R.ETH_KEEP0, R.ETH_KEEP1, R.ETH_PSTAT, R.LIN_KEEP, R.LIN_STAT] := by
  revert ch
  decide

theorem awakeRegs_readyReg :
    ∀ x ∈ offsOf [R.CAN_KEEP, R.CAN_STAT, R.ETH_KEEP0, R.ETH_KEEP1, R.ETH_PSTAT, R.LIN_KEEP, R.LIN_STAT], readyReg x = false := by
  decide

theorem completes_awakemaxExpiry (ch : BusAt) (hready : s.blk.Ready)
    (hkind : isCan ch.ch = true ∨ isLin ch.ch = true ∨ isEth ch.ch = true) (hstate : s.blk.nstate ch.ch = 3) :
    Completes (.awakemaxExpiry ch) s fun b => b.nget N.keepx ch.ch = 1 ∧ b.HasEvent (evNet ch.ch) ∧
      s.blk.Beside (offsOf [R.CAN_KEEP, R.CAN_STAT, R.ETH_KEEP0, R.ETH_KEEP1, R.ETH_PSTAT, R.LIN_KEEP, R.LIN_STAT]) Part.buses b := by
  have hch : ch.ch.val < 29 := by omega
  have hnet := isNet_of_kind hkind
  have heffect := awakeMax_of_sleepReq ch.quiet hstate
  have hbefore := outlast_ready ch.quiet hnet hch hready
  have hraise := raiseOpen_within (evNet ch.ch) _ hbefore.2.1 (evNet_lt hch)
  have hw := ((outlast_within ch.quiet hnet s.blk).mono (outlastRegs_subset ch.ch) (singleton_bus_subset hch)).trans
    (hraise.mono (List.nil_subset _) (List.nil_subset _))
  rw [← heffect] at hw
  refine completes_of_within (f := fun b => b.awakeMax ch.ch ch.quiet) rfl hready hw awakeRegs_readyReg pw_not_mem_buses
    ⟨?_, ?_, hw.beside⟩ <;> rw [heffect]
  · rw [hraise.beside.nget_eq keepx_inStat hch List.not_mem_nil, outlast_keepx ch.quiet hnet hch]
  · exact raiseNet_hasEvent hch hbefore

theorem completes_wakeDetection (ch : Fin 28) (seen : NetSeen) (hready : s.blk.Ready)
    (hkind : isCan ch = true ∨ isLin ch = true ∨ isEth ch = true) (hstate : s.blk.nstate ch = 4)
    (hseen : (s.blk.detect ch seen).2 = 1) (hprev : (s.blk.nch ch).prev = 1 ∨ (s.blk.nch ch).prev = 2) :
    Completes (.wakeDetection ch seen) s fun b => b.nstate ch = (s.blk.nch ch).prev ∧ b.nget N.wakesrc ch = 1 ∧
      b.nget N.wakeev ch = 1 ∧ (Tab.get ({} : NetKept) b.net.kept ch).asleep = false ∧
      s.blk.Beside (offsOf [R.CAN_STAT, R.ETH_PSTAT, R.LIN_STAT]) ([Part.kept, Part.net] ++ Part.buses) b := by
  have hch : ch.val < 29 := by omega
  have heffect : s.blk.stillNet (s.blk.wakeDetect ch seen) = s.blk.wake ch 1 := by
    rw [stillNet_of_ready hready, wakeDetect_of_pattern hstate hseen]
  obtain ⟨hawake, hsrc, hev, hkept⟩ :=
    wake_effect (src := 1) (isNet_of_kind hkind) hch (by decide) hstate (by omega) hready.2.1
  refine completes_of_stays (f := fun b => b.stillNet (b.wakeDetect ch seen)) rfl hready (heffect ▸ wake_stays hch 1 s.blk)
    statRegs_readyReg (by simp [wakeParts, Part.buses]) fun hw => ?_
  rw [heffect] at hw ⊢
  exact ⟨hawake, hsrc, hev, hkept, hw.beside⟩

/-- The registers that the statements about TC10 name beside the status registers. -/
theorem statRegs_subset_tc10 : statRegs ⊆ offsOf [R.CAN_ERR, R.CAN_STAT, R.ETH_PSTAT, R.LIN_STAT] := by decide

theorem tc10Regs_readyReg : ∀ x ∈ offsOf [R.CAN_ERR, R.CAN_STAT, R.ETH_PSTAT, R.LIN_STAT], readyReg x = false := by decide

theorem completes_tc10SleepRequest_accepted (p : Fin 2) (hready : s.blk.Ready) (hstate : s.blk.nstate (24 + p) = 1)
    (haccepts : s.blk.flag F.ETH_PCFG_TC10ACC p = true) :
    Completes (.tc10SleepRequest p) s fun b => b.nstate (24 + p) = 3 ∧ (b.nch (24 + p)).ack = true ∧ Out.tc10 p 1 ∈ b.out ∧
      s.blk.Beside (offsOf [R.CAN_ERR, R.CAN_STAT, R.ETH_PSTAT, R.LIN_STAT]) Part.buses b := by
  have hch : 24 + p.val < 29 := by omega
  have hbus := bus_mem_buses hch
  have heffect : s.blk.tc10Request p = (((s.blk.askSleep (24 + p)).send (.tc10 p 1)).updNet (24 + p) fun c =>
      { c with ack := true }).tryArm (24 + p) true := by
    simp [tc10Request, hstate, haccepts, enterSleepReq_of_awake hstate]
  have hask := (askSleep_within (24 + p) s.blk).mono
    (m := offsOf [R.CAN_ERR, R.CAN_STAT, R.ETH_PSTAT, R.LIN_STAT])
    (by simpa using statRegs_subset_tc10 (statAt_mem_statRegs ⟨_, hch⟩)) (singleton_bus_subset hch)
  have hw := heffect ▸ ((hask.trans (.send _ (.tc10 p 1))).trans (.updNet _ (24 + p.val) _ hbus)).trans
    (tryArm_within (24 + p) true _ hbus)
  refine completes_of_within (f := fun b => b.tc10Request p) rfl hready hw tc10Regs_readyReg pw_not_mem_buses
    ⟨?_, ?_, ?_, hw.beside⟩ <;> rw [heffect]
  · rw [tryArm_nstate, updNet_nstate, send_nstate, askSleep_nstate (isNet_eth ⟨p, by omega⟩)]
  · rw [tryArm_nch, updNet_same]
  · simp [send]

theorem completes_tc10SleepRequest_rejected (p : Fin 2) (hready : s.blk.Ready) (hstate : s.blk.nstate (24 + p) = 1)
    (hrejects : s.blk.flag F.ETH_PCFG_TC10ACC p = false) :
    Completes (.tc10SleepRequest p) s fun b => b.nstate (24 + p) = 1 ∧ Out.tc10 p 2 ∈ b.out ∧
      s.blk.Beside (offsOf [R.CAN_ERR, R.CAN_STAT, R.ETH_PSTAT, R.LIN_STAT]) Part.buses b := by
  have heffect : s.blk.tc10Request p = s.blk.send (.tc10 p 2) := by simp [tc10Request, hstate, hrejects]
  have hw : s.blk.Within (offsOf [R.CAN_ERR, R.CAN_STAT, R.ETH_PSTAT, R.LIN_STAT]) Part.buses (s.blk.tc10Request p) :=
    heffect ▸ .send s.blk _
  refine completes_of_within (f := fun b => b.tc10Request p) rfl hready hw tc10Regs_readyReg pw_not_mem_buses
    ⟨?_, ?_, hw.beside⟩ <;> rw [heffect]
  · rw [send_nstate, hstate]
  · simp [send]

theorem completes_tc10SleepAck (p : Fin 2) (hready : s.blk.Ready) (hstate : s.blk.nstate (24 + p) = 3) :
    Completes (.tc10SleepAck p) s fun b => (b.nch (24 + p)).ack = true ∧
      s.blk.Beside (offsOf [R.CAN_STAT, R.ETH_PSTAT, R.LIN_STAT]) Part.buses b := by
  have hbus : .bus (24 + p.val) ∈ Part.buses := bus_mem_buses (by omega)
  have heffect : s.blk.tc10Ack p = (s.blk.updNet (24 + p) fun c => { c with ack := true }).tryArm (24 + p) true := by
    simp [tc10Ack, hstate]
  have hw : s.blk.Within statRegs Part.buses (s.blk.tc10Ack p) :=
    heffect ▸ (Within.updNet s.blk (24 + p) _ hbus).trans (tryArm_within (24 + p) true _ hbus)
  refine completes_of_within (f := fun b => b.tc10Ack p) rfl hready hw statRegs_readyReg pw_not_mem_buses ⟨?_, hw.beside⟩
  rw [heffect, tryArm_nch, updNet_same]

theorem completes_tc10SleepReject (p : Fin 2) (hready : s.blk.Ready) (hstate : s.blk.nstate (24 + p) = 3) :
    Completes (.tc10SleepReject p) s fun b => b.getF F.ETH_PSTAT_SLPREJ p = 1 ∧
      s.blk.Beside (offsOf [R.CAN_STAT, R.ETH_PSTAT, R.LIN_STAT]) [] b := by
  have hch : 24 + p.val < 29 := by omega
  have hreg : F.ETH_PSTAT_SLPREJ.reg = statReg (24 + p) := (statReg_port ⟨p, by omega⟩).symm
  have heffect : s.blk.tc10Reject p = s.blk.xstick F.ETH_PSTAT_SLPREJ (24 + p) := by simp [tc10Reject, hstate]
  refine completes_of_stays (f := fun b => b.tc10Reject p) rfl hready
    (heffect ▸ xstick_stays hreg hch (statAt_mem_statRegs ⟨_, hch⟩) s.blk) statRegs_readyReg List.not_mem_nil
    fun hw => ⟨?_, hw.beside⟩
  have hset := xstick_same hreg rfl hch hready.2.1
  rw [netIdx_port ⟨p, by omega⟩] at hset
  rw [heffect, hset]

end SleepCommands

/-- Settles O21: each command moves its channel alone, by its status register and its record, but that a wake of one T1 port may
take the other with it; the occurrences that it raises are only recorded. -/
theorem sleepAndWake : Obligations.SleepAndWake := by
  unfold Obligations.SleepAndWake
  exact ⟨completes_linGotoSleep, completes_linHeaderSilence, completes_idleTimeout, completes_sleepCommit,
    completes_awakemaxExpiry, completes_wakeDetection, completes_tc10SleepRequest_accepted,
    completes_tc10SleepRequest_rejected, completes_tc10SleepAck, completes_tc10SleepReject⟩

end Sys2Proof.Machine
end

section
/-! PROOFS. Completions that a command writes beside its effect: a completion changes the list of its queue, the chain or the
firmware ring, and a write to the ring that meets an armed injection leaves an occurrence of EV252 for the end of the command. -/
namespace Sys2Proof.Machine

theorem Recorded.within {l : List Nat} {ps : List Part} {a b : Block} (h : Recorded a b) : a.Within l ps b :=
  ⟨⟨fun d o _ hr => h.regs d o hr, fun p _ => h.part p⟩, h.due⟩

/-- Block b differs from a at most in these registers, in these parts and in what recorded occurrences change, and what is due
at the end of the command beside what was are occurrences of EV252 (R322). -/
structure Block.Leaves (l : List Nat) (ps : List Part) (a b : Block) : Prop where
  beside : a.Beside l ps b
  due : ∃ os : List Occ, b.catchm.due = a.catchm.due ++ os.map Due.occ ∧ ∀ o ∈ os, o.ev = 252

namespace Block

namespace Leaves

variable {l m : List Nat} {ps qs : List Part} {a b c : Block}

theorem of_within (h : a.Within l ps b) : a.Leaves l ps b := ⟨h.beside, [], by simp [h.due], by simp⟩

theorem refl (b : Block) : b.Leaves l ps b := of_within (.refl b)

theorem trans (h : a.Leaves l ps b) (k : b.Leaves l ps c) : a.Leaves l ps c := by
  obtain ⟨os, hdue, hos⟩ := h.due
  obtain ⟨os', hdue', hos'⟩ := k.due
  refine ⟨h.beside.trans k.beside, os ++ os', by rw [hdue', hdue, List.map_append, List.append_assoc], fun o ho => ?_⟩
  rcases List.mem_append.mp ho with ho | ho
  · exact hos o ho
  · exact hos' o ho

theorem mono (h : a.Leaves l ps b) (hl : l ⊆ m) (hp : ps ⊆ qs) : a.Leaves m qs b :=
  ⟨h.beside.mono (fun _ hx => hl hx) (fun _ hx => hp hx), h.due⟩

theorem ite (p : Prop) [Decidable p] (h : a.Leaves l ps b) (k : a.Leaves l ps c) : a.Leaves l ps (if p then b else c) := by
  split
  · exact h
  · exact k

theorem foldl {α : Type} (f : Block → α → Block) (xs : List α) (h : ∀ x ∈ xs, ∀ b : Block, b.Leaves l ps (f b x)) (b : Block) :
    b.Leaves l ps (xs.foldl f b) := by
  induction xs generalizing b with
  | nil => exact refl b
  | cons x xs ih =>
      exact (h x (List.mem_cons_self ..) b).trans (ih (fun y hy => h y (List.mem_cons_of_mem _ hy)) _)

end Leaves

/-! ### The end of a command that leaves occurrences -/

section End

/-- Without what is due at the end of the command. -/
def settled (b : Block) : Block := { b with catchm := { b.catchm with due := [] } }

theorem settled_of_none {b : Block} (h : b.catchm.due = []) : b.settled = b := by
  have hcatch : ({ b.catchm with due := [] } : CatchSt) = b.catchm := by rw [← h]
  rw [settled, hcatch]

theorem carry_occs_recorded (os : List Occ) (b : Block) (ht : b.Tame) (hos : ∀ o ∈ os, o.ev < 256) :
    Recorded b ((os.map Due.occ).foldl (fun b d => b.carry d) b) := by
  induction os generalizing b with
  | nil => exact .refl b
  | cons o os ih =>
      have hraise : Recorded b (b.carry (.occ o)) :=
        raiseAll_recorded 32 [o] b ht (by simpa using hos o (List.mem_cons_self ..))
      exact hraise.trans (ih _ (hraise.tame ht) fun p hp => hos p (List.mem_cons_of_mem _ hp))

theorem carryAll_of_settled (n : Nat) {b : Block} (h : b.catchm.due = []) : b.carryAll n = b := by
  cases n with
  | zero => rfl
  | succ n => rw [carryAll, h]

/-- Occurrences that are due are raised at the end, and nothing more becomes due. -/
theorem carryAll_of_occs (n : Nat) {os : List Occ} {b : Block} (hdue : b.catchm.due = os.map Due.occ) (ht : b.Tame)
    (hos : ∀ o ∈ os, o.ev < 256) : Recorded b.settled (b.carryAll (n + 1)) := by
  cases os with
  | nil =>
      rw [carryAll_of_settled _ hdue, settled_of_none hdue]
      exact .refl b
  | cons o os =>
      have hraised : Recorded b.settled (((o :: os).map Due.occ).foldl (fun b d => b.carry d) b.settled) :=
        carry_occs_recorded (o :: os) b.settled ht hos
      have hall : b.carryAll (n + 1) = carryAll n (((o :: os).map Due.occ).foldl (fun b d => b.carry d) b.settled) := by
        rw [carryAll, hdue]
        rfl
      rw [hall, carryAll_of_settled n hraised.due]
      exact hraised

/-- After a command that leaves only occurrences of EV252 to its end, the end changes the record alone. -/
theorem endCommand_of_leaves {l : List Nat} {ps : List Part} {a b : Block} (h : a.Leaves l ps b) (hready : a.Ready)
    (hl : ∀ x ∈ l, readyReg x = false) (hps : .pw ∉ ps) : b.Beside [] [] b.endCommand := by
  obtain ⟨hcalm, htame, -⟩ := hready
  obtain ⟨os, hdue, hos⟩ := h.due
  have hsame : a.Within l ps { b with catchm := a.catchm } :=
    ⟨h.beside.trans ⟨fun _ _ _ _ => rfl, fun p _ => Part.same_of_eq rfl p⟩, rfl⟩
  obtain ⟨hnone, hoff, hgauge, hcores⟩ := hsame.calm hl hps hcalm
  have htameb : b.Tame := hsame.tame hl htame
  have hwatch : b.gaugeWatch = b := by
    have hshown : b.getF F.GAUGE_STAT_STATE 0 = 1 := hgauge
    have hmetered : b.gaugeUnmetered = false := by simp [gaugeUnmetered, hshown]
    have hoffb : b.pw.gaugeOff = false := hoff
    simp [gaugeWatch, hmetered, hoffb]
  rw [hcalm.1, List.nil_append] at hdue
  have hcarried := carryAll_of_occs 3 hdue htameb fun o ho => by
    rw [hos o ho]
    decide
  have hfinish : b.finish = b.carryAll 4 := by
    have hended : b.finish = (b.gaugeWatch.carryAll 4).settled := rfl
    rw [hended, hwatch, settled_of_none hcarried.due]
  have hend : b.endCommand = b.carryAll 4 := by
    rw [endCommand, hfinish]
    refine forN_eq _ _ _ fun c hc => ?_
    have hstate : (b.carryAll 4).coreState c = b.coreState c := hcarried.getF F.HEP_STAT_STATE c (recordReg_hepStat hc)
    have hawake : b.coreState c ≠ 3 := hcores c hc
    rw [wakeCore, if_neg (by simp [hstate, hawake])]
  rw [hend]
  exact ⟨fun d o _ hr => hcarried.regs d o hr, fun p _ => (Part.same_of_eq (a := b) (b := b.settled) rfl p).trans (hcarried.part p)⟩

end End

/-! ### Completions -/

section Completions

/-- The registers that a completion may change. -/
def answerRegs : List Nat := offsOf Regs.answers

theorem qstat_mem_answerRegs (q : Fin 64) : R.HQ_QSTAT.at q ∈ answerRegs :=
  mem_offsOf (r := R.HQ_QSTAT) (by simp [Regs.answers]) (mem_offs _ _ q.isLt)

theorem updChain_mem_answerRegs : R.UPD_CHAIN.at 0 ∈ answerRegs :=
  mem_offsOf (r := R.UPD_CHAIN) (by simp [Regs.answers]) (mem_offs _ _ (by decide))

theorem inj_mem_answerRegs : R.CATCH_INJ.at 0 ∈ answerRegs :=
  mem_offsOf (r := R.CATCH_INJ) (by simp [Regs.answers]) (mem_offs _ _ (by decide))

theorem updChain_within (n : Nat) (dws : List Word) (c : Compl) (b : Block) :
    b.Within answerRegs Part.answers (b.updChain n dws c) := by
  have hset : ∀ v w, b.Within answerRegs Part.answers ((b.setF F.UPD_CHAIN_NODE 0 v).setF F.UPD_CHAIN_VALID 0 w) := fun v w =>
    (Within.setF b F.UPD_CHAIN_NODE 0 v updChain_mem_answerRegs).trans (.setF _ F.UPD_CHAIN_VALID 0 w updChain_mem_answerRegs)
  unfold updChain
  dsimp only
  split
  · exact .refl b
  · exact .ite _ (hset _ _) (.ite _ (hset _ _) (.refl b))

theorem setFlights_within (fs : List Flight) (q : Fin 64) (b : Block) : b.Within answerRegs Part.answers (b.setFlights fs q) := by
  have hlist : b.Within answerRegs Part.answers { b with hq := { b.hq with flights := fs } } :=
    ⟨⟨fun _ _ _ _ => rfl, fun p hp => by
      cases p with
      | flights => exact absurd (by simp [Part.answers]) hp
      | _ => simp [Part.Same]⟩, rfl⟩
  exact hlist.trans (.setF _ F.HQ_QSTAT_INFLIGHT q _ (qstat_mem_answerRegs q))

theorem nodeDone_within (q : Fin 64) (n : Nat) (dws : List Word) (c : Compl) (b : Block) :
    b.Within answerRegs Part.answers (b.nodeDone q n dws c) :=
  (updChain_within n dws c b).trans (setFlights_within _ q _)

theorem sendFrames_recorded (fs : List Frame) (b : Block) : Recorded b (b.sendFrames fs) := by
  unfold sendFrames
  induction fs generalizing b with
  | nil => exact .refl b
  | cons f fs ih => exact (Recorded.sendFrame b f).trans (ih _)

/-- A change of what memory, the chain or the cipher holds. -/
theorem within_parts {b : Block} {mem : List Host.Cell} {ecc : Tab Nat} {chn : ChnSt} {ciph : CiphSt} :
    b.Within answerRegs Part.answers { b with mem := mem, badEcc := ecc, chn := chn, ciph := ciph } :=
  ⟨⟨fun _ _ _ _ => rfl, fun p hp => by
    cases p with
    | mem | ecc | chn | ciph => exact absurd (by simp [Part.answers]) hp
    | _ => simp [Part.Same]⟩, rfl⟩

theorem injDone_within (b : Block) : b.Within answerRegs Part.answers b.injDone :=
  (Within.setF b F.CATCH_INJ_ARM 0 0 inj_mem_answerRegs).trans (.setF _ F.CATCH_INJ_DONE 0 1 inj_mem_answerRegs)

/-- A write to memory clears an armed injection that it meets, which may leave an occurrence of EV252 (R322). -/
theorem writeMem_leaves (a : Nat) (vs : List Byte) (b : Block) : b.Leaves answerRegs Part.answers (b.writeMem a vs) := by
  unfold writeMem
  dsimp only
  split
  · exact .of_within within_parts
  · split
    · refine .trans ⟨?_, [_], rfl, by simp⟩ (.of_within (injDone_within _))
      exact ⟨fun _ _ _ _ => rfl, fun p hp => by
        cases p with
        | mem | ecc => exact absurd (by simp [Part.answers]) hp
        | _ => simp [Part.Same, fresh]⟩
    · exact .of_within (within_parts.trans (injDone_within _))

theorem fwWrite_leaves (d : Desc) (c : Compl) (b : Block) : b.Leaves answerRegs Part.answers (b.fwWrite d c) := by
  unfold fwWrite
  dsimp only
  split
  · exact .refl b
  · exact (((Leaves.ite _ (.refl b) (writeMem_leaves _ _ b)).trans (writeMem_leaves _ _ _))).trans (.of_within within_parts)

theorem fwFlush_leaves (l : List (Nat × Option (Desc × Compl))) (b : Block) : b.Leaves answerRegs Part.answers (b.fwFlush l) := by
  induction l generalizing b with
  | nil => exact .of_within within_parts
  | cons e l ih =>
      obtain ⟨n, _ | ⟨d, c⟩⟩ := e
      · exact .of_within within_parts
      · exact (fwWrite_leaves d c b).trans (ih _)

/-- ALL THAT A COMPLETION CHANGES (R399, R437, R557, R618). -/
theorem complete_leaves (d : Desc) (c : Compl) (b : Block) : b.Leaves answerRegs Part.answers (b.complete d c) := by
  unfold complete
  split
  · split
    · exact .of_within (nodeDone_within _ _ _ _ b)
    · exact .of_within ((updChain_within _ _ _ b).trans (setFlights_within _ _ _))
  · exact .of_within (within_parts.trans (sendFrames_recorded _ _).within)
  · exact fwFlush_leaves _ b

end Completions

end Block

/-- A command that leaves at most occurrences of EV252 to its end completes with what its end does not change. -/
theorem completes_of_leaves {c : Instr} {s : State} {f : Block → Block} {E : Block → Prop} {l : List Nat} {ps : List Part}
    (hx : exec c s = s.act f) (hready : s.blk.Ready) (h : s.blk.Leaves l ps (f s.blk)) (hl : ∀ x ∈ l, readyReg x = false)
    (hps : .pw ∉ ps) (he : ∀ b, (f s.blk).Beside [] [] b → s.blk.Beside l ps b → E b) : Completes c s E := by
  have hend := Block.endCommand_of_leaves h hready hl hps
  exact ⟨{ s with blk := (f s.blk).endCommand }, by rw [hx, State.act_next], rfl,
    he _ hend (h.beside.trans (hend.mono (by simp) (by simp)))⟩

end Sys2Proof.Machine
end

section
/-! PROOFS. Channels are enabled: an enable opens the channel in its first state, on a new record of its sleep, and a CAN channel with
new error counters; that of a port tests its cable. -/
namespace Sys2Proof.Machine

namespace Block

/-! ### The configuration register of a channel -/

/-- The configuration register of channel ch, which holds EN. -/
def cfgReg (ch : Nat) : Reg := if ch < 12 then R.CAN_CFG else if ch < 24 then R.LIN_CFG else R.ETH_PCFG
def cfgAt (ch : Nat) : Nat := (cfgReg ch).at (netIdx ch)

theorem en_reg (ch : Nat) : (N.en.of ch).reg = cfgReg ch := by
  unfold NetField.of cfgReg
  split
  · rfl
  · split <;> rfl

theorem cfgAt_can : ∀ n : Fin 12, cfgAt n = R.CAN_CFG.at n := by decide

theorem cfgAt_lin : ∀ n : Fin 8, cfgAt (16 + n) = R.LIN_CFG.at n := by decide

theorem cfgAt_eth : ∀ p : Fin 5, cfgAt (24 + p) = R.ETH_PCFG.at p := by decide

theorem cfgAt_ne_statAt : ∀ ch : Fin 29, cfgAt ch ≠ statAt ch := by decide

theorem cfgAt_readyReg : ∀ ch : Fin 29, readyReg (cfgAt ch) = false := by decide

theorem cfgAt_recordReg : ∀ ch : Fin 29, recordReg (cfgAt ch) = false := by decide

section Config

variable {l : List Nat} {ps : List Part} {ch : Nat} {b : Block}

theorem nsetEn_within (v : Nat) (b : Block) (h : cfgAt ch ∈ l) : b.Within l ps (b.nset N.en ch v) :=
  .setF b (N.en.of ch) (netIdx ch) v (by rw [en_reg]; exact h)

/-- EN shows what is written to it. -/
theorem nget_nsetEn {v : Nat} (hv : v < 2) (b : Block) (ch : Nat) : (b.nset N.en ch v).nget N.en ch = v :=
  nget_nset_same ⟨⟨by decide, hv⟩, ⟨by decide, hv⟩, by decide, hv⟩ b ch

/-- EN keeps its value where its register is not listed. -/
theorem Beside.en_eq {a : Block} (h : a.Beside l ps b) (hch : ch < 29) (hl : cfgAt ch ∉ l) : b.nget N.en ch = a.nget N.en ch :=
  h.getF_eq (by rw [en_reg]; exact hl) (by rw [en_reg]; exact cfgAt_recordReg ⟨ch, hch⟩)

/-- EN is not in the status register. -/
theorem en_eq_of_stat {a : Block} (h : a.Within [statAt ch] ps b) (hch : ch < 29) : b.nget N.en ch = a.nget N.en ch :=
  h.beside.en_eq hch (by simpa using cfgAt_ne_statAt ⟨ch, hch⟩)

theorem nOn_eq (hch : ch ≠ 28) (b : Block) : b.nOn ch = !(b.nstate ch == 0) := if_neg hch

end Config

/-! ### Opening a channel -/

section Open

variable {ch st : Nat} {b : Block}

/-- EN, the first state and no cause of a wake (R331, R341). -/
def openAs (ch st : Nat) (b : Block) : Block := ((b.nset N.en ch 1).nset N.state ch st).nset N.wakesrc ch 0

theorem openAs_within (ch st : Nat) (b : Block) : b.Within [cfgAt ch, statAt ch] [] (b.openAs ch st) :=
  ((nsetEn_within 1 b (List.mem_cons_self ..)).trans (.nset _ state_inStat ch st (by simp))).trans
    (.nset _ wakesrc_inStat ch 0 (by simp))

theorem openAs_effect (hnet : isNet ch = true) (hch : ch < 29) (hst : st < 8) (b : Block) :
    (b.openAs ch st).nget N.en ch = 1 ∧ (b.openAs ch st).nstate ch = st ∧ (b.openAs ch st).nget N.wakesrc ch = 0 := by
  have hstatus : (b.nset N.en ch 1).Within [statAt ch] [] (b.openAs ch st) :=
    (Within.nset _ state_inStat ch st (List.mem_singleton_self _)).trans (.nset _ wakesrc_inStat ch 0 (List.mem_singleton_self _))
  refine ⟨(en_eq_of_stat hstatus hch).trans (nget_nsetEn (by decide) b ch), ?_, nget_nset_same (by decide) _ ch⟩
  rw [nstate_of_isNet hnet, openAs, nget_nset_apart wakesrc_inStat state_inStat (by decide) (by decide),
    ← nstate_of_isNet hnet, nstate_nset_state hnet hst]

/-- A channel that opens on a new record of its sleep, with what it holds. -/
def openFresh (ch st : Nat) (g : NetCh → NetCh) (b : Block) : Block := ((b.openAs ch st).keep ch fun _ => {}).updNet ch g

theorem openFresh_within (hch : ch < 29) (st : Nat) (g : NetCh → NetCh) (b : Block) :
    b.Within [cfgAt ch, statAt ch] ([Part.kept] ++ Part.buses) (b.openFresh ch st g) :=
  (((openAs_within ch st b).mono (List.Subset.refl _) (List.nil_subset _)).trans (.keep _ ch _ (by simp))).trans
    (.updNet _ ch g (by simpa using bus_mem_buses hch))

theorem openFresh_effect (hnet : isNet ch = true) (hch : ch < 29) (hst : st < 8) (g : NetCh → NetCh) (b : Block) :
    (b.openFresh ch st g).nget N.en ch = 1 ∧ (b.openFresh ch st g).nstate ch = st ∧ (b.openFresh ch st g).nget N.wakesrc ch = 0 :=
  openAs_effect hnet hch hst b

theorem openRegs_readyReg (hch : ch < 29) : ∀ x ∈ [cfgAt ch, statAt ch], readyReg x = false := by
  simpa using ⟨cfgAt_readyReg ⟨ch, hch⟩, statAt_readyReg hch⟩

end Open

/-! ### The error counters of a CAN channel -/

section Errors

variable {n : Fin 12} {b : Block}

theorem keep_getF (b : Block) (k : Nat) (f : NetKept → NetKept) (g : RegField) (i : Nat) : (b.keep k f).getF g i = b.getF g i := rfl

theorem canErr_readyReg : ∀ n : Fin 12, readyReg (R.CAN_ERR.at n) = false := by decide

theorem canErr_recordReg : ∀ n : Fin 12, recordReg (R.CAN_ERR.at n) = false := by decide

theorem canErr_ne_statAt : ∀ n : Fin 12, R.CAN_ERR.at n ≠ statAt n := by decide

theorem canErr_ne_cfgAt : ∀ n : Fin 12, R.CAN_ERR.at n ≠ cfgAt n := by decide

theorem bits_putBits_low (w : Nat) {top hi lo : Nat} (hlo : lo ≤ hi) (hhi : hi ≤ top) : bits (putBits w top 0 0) hi lo = 0 := by
  have hpow : 2 ^ (top + 1) = 2 ^ lo * (2 ^ (hi + 1 - lo) * 2 ^ (top - hi)) := by
    rw [← Nat.pow_add, ← Nat.pow_add]
    congr 1
    omega
  have hput : putBits w top 0 0 = 2 ^ (top + 1) * (w / 2 ^ (top + 1)) := by
    simp [putBits, Nat.mod_one, Nat.mul_comm]
  rw [bits, hput, hpow, Nat.mul_assoc, Nat.mul_div_cancel_left _ (Nat.two_pow_pos _), Nat.mul_assoc, Nat.mul_mod_right]

/-- Both counters of channel n at 0, and the bits up to `top` with them (R331, R332). -/
def clearErr (n top : Nat) (b : Block) : Block := b.wr R.CAN_ERR n (putBits (b.rd R.CAN_ERR n) top 0 0)

theorem clearErr_within {l : List Nat} {ps : List Part} {n : Nat} (top : Nat) (b : Block) (h : R.CAN_ERR.at n ∈ l) :
    b.Within l ps (b.clearErr n top) := .wr b R.CAN_ERR n _ h

theorem clearErr_effect {top : Nat} (htop : 15 ≤ top) (n : Nat) (b : Block) :
    (b.clearErr n top).getF F.CAN_ERR_TEC n = 0 ∧ (b.clearErr n top).getF F.CAN_ERR_REC n = 0 := by
  have hrd : (b.clearErr n top).rd R.CAN_ERR n = putBits (b.rd R.CAN_ERR n) top 0 0 := rd_wr_same b R.CAN_ERR n _
  constructor
  · show bits ((b.clearErr n top).rd R.CAN_ERR n) 7 0 = 0
    rw [hrd, bits_putBits_low _ (by decide) (by omega)]
  · show bits ((b.clearErr n top).rd R.CAN_ERR n) 15 8 = 0
    rw [hrd, bits_putBits_low _ (by decide) htop]

end Errors

end Block

/-! ### The commands that enable -/

section EnableCommands

open Block

variable (s : State) (who : Who)

/-- A valid enable of a CAN channel opens it with new counters (R331). -/
theorem canEnable_of_valid (n : Fin 12) {b : Block} (hoff : b.nstate n = 0) (hvalid : b.canCfgOk n = true) :
    ∃ g, b.canEnable n = ((((b.openAs n (if b.getF F.CAN_CFG_MODE n = 1 then 2 else 1)).clearErr n 18).keep n fun _ => {}).updNet n g) := by
  have hon : b.nOn n = false := by simp [nOn_eq (show n.val ≠ 28 by omega), hoff]
  unfold canEnable
  rw [if_neg (by simp [hon]), if_neg (by simp [hvalid])]
  exact ⟨_, rfl⟩

theorem completes_canEnable (n : Fin 12) (hready : s.blk.Ready) (hwrite : s.blk.CanWrite who (R.CAN_CFG.at n))
    (hoff : s.blk.nstate n = 0) (hvalid : s.blk.canCfgOk n = true) :
    Completes (.canEnable who n) s fun b => (b.nget N.en n = 1 ∧ b.nstate n = (if s.blk.getF F.CAN_CFG_MODE n = 1 then 2 else 1) ∧
      b.nget N.wakesrc n = 0 ∧ b.getF F.CAN_ERR_TEC n = 0 ∧ b.getF F.CAN_ERR_REC n = 0) ∧
      s.blk.Beside [R.CAN_CFG.at n.val, R.CAN_ERR.at n.val, R.CAN_STAT.at n.val] ([Part.kept] ++ Part.buses) b := by
  have hch : n.val < 29 := by omega
  obtain ⟨g, heffect⟩ := canEnable_of_valid n hoff hvalid
  obtain ⟨hen, hstate, hsrc⟩ := openAs_effect (st := if s.blk.getF F.CAN_CFG_MODE n = 1 then 2 else 1) (isNet_can n) hch
    (by split <;> decide) s.blk
  generalize hst : (if s.blk.getF F.CAN_CFG_MODE n = 1 then 2 else 1) = st at *
  have hclear : (s.blk.openAs n st).Within [R.CAN_ERR.at n] [] ((s.blk.openAs n st).clearErr n 18) :=
    clearErr_within 18 _ (List.mem_singleton_self _)
  have hstat : statAt n ∉ [R.CAN_ERR.at n.val] := by simpa using (canErr_ne_statAt n).symm
  have hcfg : cfgAt n ∉ [R.CAN_ERR.at n.val] := by simpa using (canErr_ne_cfgAt n).symm
  have hw : s.blk.Within [R.CAN_CFG.at n.val, R.CAN_ERR.at n.val, R.CAN_STAT.at n.val] ([Part.kept] ++ Part.buses) (s.blk.canEnable n) := by
    rw [heffect]
    refine Within.trans (.trans (.trans ((openAs_within n st s.blk).mono ?_ (List.nil_subset _)) (hclear.mono ?_ (List.nil_subset _)))
      (.keep _ n _ (by simp))) (.updNet _ n g (by simpa using bus_mem_buses hch))
    · simp [cfgAt_can, statAt_can]
    · simp
  refine completes_of_write (k := Block.canEnable n) rfl hready hwrite (.of_within hw) ?_ (by simp [Part.buses]) fun hw => ⟨?_, hw.beside⟩
  · simpa using ⟨by simpa [cfgAt_can] using cfgAt_readyReg ⟨n, hch⟩, canErr_readyReg n, by simpa [statAt_can] using statAt_readyReg hch⟩
  · obtain ⟨htec, hrec⟩ := clearErr_effect (top := 18) (by decide) n (s.blk.openAs n st)
    rw [heffect, updNet_nget, updNet_nstate, updNet_nget, updNet_getF, updNet_getF, keep_nget, keep_nstate, keep_nget, keep_getF,
      keep_getF]
    exact ⟨(hclear.beside.en_eq hch hcfg).trans hen, (hclear.beside.nstate_eq hch hstat).trans hstate,
      (hclear.beside.nget_eq wakesrc_inStat hch hstat).trans hsrc, htec, hrec⟩

theorem completes_linEnable (n : Fin 8) (hready : s.blk.Ready) (hwrite : s.blk.CanWrite who (R.LIN_CFG.at n))
    (hoff : s.blk.nstate (16 + n) = 0) (hslow : 1000 ≤ s.blk.getF F.LIN_CFG_BAUD n) (hfast : s.blk.getF F.LIN_CFG_BAUD n ≤ 20000) :
    Completes (.linEnable who n) s fun b => b.nget N.en (16 + n) = 1 ∧ b.nstate (16 + n) = 1 ∧ b.nget N.wakesrc (16 + n) = 0 ∧
      s.blk.Beside [R.LIN_CFG.at n.val, R.LIN_STAT.at n.val] ([Part.kept] ++ Part.buses) b := by
  have hch : 16 + n.val < 29 := by omega
  have hon : s.blk.nOn (16 + n) = false := by simp [nOn_eq (show 16 + n.val ≠ 28 by omega), hoff]
  have heffect : ∃ g, s.blk.linEnable n = s.blk.openFresh (16 + n) 1 g := by
    unfold linEnable
    dsimp only
    rw [if_neg (by simp [hon]), if_neg (by omega)]
    exact ⟨_, rfl⟩
  obtain ⟨g, heffect⟩ := heffect
  obtain ⟨hen, hstate, hsrc⟩ := openFresh_effect (isNet_lin n) hch (by decide : 1 < 8) g s.blk
  rw [← statAt_lin n, ← cfgAt_lin n]
  have hw := openFresh_within hch 1 g s.blk
  rw [← heffect] at hw hen hstate hsrc
  exact completes_of_write (k := Block.linEnable n) rfl hready hwrite (.of_within hw) (openRegs_readyReg hch) (by simp [Part.buses])
    fun hw => ⟨hen, hstate, hsrc, hw.beside⟩

/-- The results of the cable test fit in its field. -/
theorem cable_fits : ∀ p cab : Fin 5, cab.val < 2 ^ ((N.diag.of (24 + p)).hi + 1 - (N.diag.of (24 + p)).lo) := by decide

theorem completes_ethPortEnable (p : Fin 5) (cab : Fin 5) (hready : s.blk.Ready) (hwrite : s.blk.CanWrite who (R.ETH_PCFG.at p))
    (hport : p.val < 4) (hoff : s.blk.nstate (24 + p) = 0) :
    Completes (.ethPortEnable who p cab) s fun b => b.nget N.en (24 + p) = 1 ∧ b.nstate (24 + p) = 1 ∧ b.nget N.wakesrc (24 + p) = 0 ∧
      b.nget N.diag (24 + p) = cab ∧ s.blk.Beside [R.ETH_PCFG.at p.val, R.ETH_PSTAT.at p.val] ([Part.kept] ++ Part.buses) b := by
  have hch : 24 + p.val < 29 := by omega
  have hon : s.blk.nOn (24 + p) = false := by simp [nOn_eq (show 24 + p.val ≠ 28 by omega), hoff]
  have heffect : s.blk.ethEnable p cab = (s.blk.openFresh (24 + p) 1 fun _ => {}).netDiag (24 + p) cab := by
    unfold ethEnable
    dsimp only
    rw [if_neg (by omega), if_neg (by simp [hon])]
    rfl
  obtain ⟨hen, hstate, hsrc⟩ := openFresh_effect (isNet_eth p) hch (by decide : 1 < 8) (fun _ => {}) s.blk
  have hopen := openFresh_within hch 1 (fun _ => {}) s.blk
  have htame := hopen.tame (openRegs_readyReg hch) hready.2.1
  have htest : (s.blk.openFresh (24 + p) 1 fun _ => {}).Within [statAt (24 + p)] [] (s.blk.ethEnable p cab) :=
    heffect ▸ netDiag_stays hch (List.mem_singleton_self _) cab _ htame (by simpa using statAt_readyReg hch)
  obtain ⟨hdiag, -⟩ := netDiag_effect hch (cable_fits p cab) htame
  rw [← statAt_eth p, ← cfgAt_eth p]
  refine completes_of_write (k := Block.ethEnable p cab) rfl hready hwrite
    (.of_within (hopen.trans (htest.mono (by simp) (List.nil_subset _))))
    (openRegs_readyReg hch) (by simp [Part.buses]) fun hw => ⟨(en_eq_of_stat htest hch).trans hen, ?_, ?_, ?_, hw.beside⟩
  · rw [heffect, netDiag_nstate hch _ htame, hstate]
  · rw [heffect, netDiag_apart wakesrc_inStat (by decide) (by decide) hch _ htame, hsrc]
  · rw [heffect, hdiag]

theorem portRegs_readyReg : ∀ x ∈ offsOf [R.ETH_PCFG, R.ETH_PSTAT], readyReg x = false := by decide

theorem completes_ethPortEnable_port4 (cab : Fin 5) (hready : s.blk.Ready) (hwrite : s.blk.CanWrite who (R.ETH_PCFG.at 4)) :
    Completes (.ethPortEnable who 4 cab) s fun b => b.getF F.ETH_PCFG_EN 4 = 1 ∧
      s.blk.Beside (offsOf [R.ETH_PCFG, R.ETH_PSTAT]) ([Part.kept] ++ Part.buses) b := by
  have heffect : s.blk.ethEnable 4 cab = s.blk.setF F.ETH_PCFG_EN 4 1 := if_pos rfl
  have hpcfg : R.ETH_PCFG.at 4 ∈ offsOf [R.ETH_PCFG, R.ETH_PSTAT] := mem_offsOf (List.mem_cons_self ..) (mem_offs _ _ (by decide))
  have hw : s.blk.Within (offsOf [R.ETH_PCFG, R.ETH_PSTAT]) ([Part.kept] ++ Part.buses) (s.blk.ethEnable 4 cab) := by
    rw [heffect]
    exact .setF s.blk F.ETH_PCFG_EN 4 1 hpcfg
  refine completes_of_write (k := Block.ethEnable 4 cab) rfl hready hwrite (.of_within hw) portRegs_readyReg (by simp [Part.buses])
    fun hw => ⟨?_, hw.beside⟩
  rw [heffect, getF_setF_lt _ F.ETH_PCFG_EN 4 (by decide) (by decide)]

end EnableCommands

end Sys2Proof.Machine
end

section
/-! PROOFS. A disable closes its channel: descriptors and buffers that wait on it complete, its frames are discarded into counts,
and nothing of it stays but its tables (R336, R344, R346). -/
namespace Sys2Proof.Machine

namespace Block

/-! ### What leaves the gateway -/

namespace Within

variable {l : List Nat} {ps : List Part}

theorem satF (b : Block) (f : RegField) (n v : Nat) (h : f.reg.at n ∈ l) : b.Within l ps (b.satF f n v) := .setF b f n _ h

/-- A change of the networks beside their channels and what is kept of them. -/
theorem netTables {b : Block} {n : NetSt} (hch : n.ch = b.net.ch) (hkept : n.kept = b.net.kept) (h : .net ∈ ps) :
    b.Within l ps { b with net := n } :=
  ⟨⟨fun _ _ _ _ => rfl, fun p hp => by
    cases p with
    | net => exact absurd h hp
    | _ => simp [Part.Same, hch, hkept]⟩, rfl⟩

end Within

theorem netTables_getF (b : Block) (n : NetSt) (f : RegField) (k : Nat) : { b with net := n }.getF f k = b.getF f k := rfl
theorem netTables_nstate (b : Block) (n : NetSt) (ch : Nat) : { b with net := n }.nstate ch = b.nstate ch := rfl

/-! ### Descriptors and buffers that wait on a channel -/

section Waiting

variable (ch : Nat) (b : Block)

/-- What the end of descriptors and buffers of a channel may change. -/
def waitParts (ch : Nat) : List Part := .bus ch :: Part.answers

theorem updNet_leaves (f : NetCh → NetCh) : b.Leaves answerRegs (waitParts ch) (b.updNet ch f) :=
  .of_within (.updNet b ch f (List.mem_cons_self ..))

theorem complete_leaves_wait (d : Desc) (c : Compl) : b.Leaves answerRegs (waitParts ch) (b.complete d c) :=
  (complete_leaves d c b).mono (List.Subset.refl _) (List.subset_cons_self ..)

theorem txFinish_leaves (num none : Nat) : b.Leaves answerRegs (waitParts ch) (b.txFinish ch num none) := by
  unfold txFinish
  dsimp only
  split
  · exact .refl b
  · exact .ite _ (.refl b) ((updNet_leaves ch b _).trans (complete_leaves_wait ch _ _ _))

theorem txDrop_leaves (status : Nat) : b.Leaves answerRegs (waitParts ch) (b.txDrop ch status) :=
  (updNet_leaves ch b _).trans (.foldl _ _ (fun j _ c => txFinish_leaves ch c j.num status) _)

theorem rxFinish_leaves (status : Nat) : b.Leaves answerRegs (waitParts ch) (b.rxFinish ch status) := by
  unfold rxFinish
  split
  · exact .refl b
  · exact (updNet_leaves ch b _).trans (complete_leaves_wait ch _ _ _)

theorem rxFinishAll_leaves (status : Nat) : b.Leaves answerRegs (waitParts ch) (b.rxFinishAll ch status) :=
  .foldl _ _ (fun _ _ c => rxFinish_leaves ch c status) b

theorem gwDiscard_within : b.Within [R.GW_POUT.at ch] [.bus ch, .net] (b.gwDiscard ch) := by
  unfold gwDiscard
  dsimp only
  split
  · exact .refl b
  · exact ((Within.satF b F.GW_POUT_DROP ch _ (List.mem_singleton_self _)).trans (.updNet _ ch _ (by simp))).trans
      (.netTables rfl rfl (by simp))

end Waiting

/-! ### Closing a channel -/

section Close

variable {ch : Nat}

/-- What waits on a channel ends, and its frames to the gateway are discarded. -/
def drainOff (ch : Nat) (b : Block) : Block := ((b.txDrop ch St.disabled).rxFinishAll ch St.disabled).gwDiscard ch

/-- The link of a port goes down, with the frames in its queues and the addresses learned there (R344). -/
def portDown (ch : Nat) (b : Block) : Block :=
  if isEth ch then
    let b' := b.satF F.ETH_CNT_DROP (ch - 24) (b.nch ch).egress.length
    { (b'.setF F.ETH_PSTAT_LINK (ch - 24) 0) with net := { b'.net with mac := b'.net.mac.filter fun m => !(m.2 == ch - 24) } }
  else b

/-- Nothing stays of a channel but its tables and the cause of its last wake. -/
def forgetNet (ch : Nat) (b : Block) : Block :=
  (b.updNet ch fun c => { resp := c.resp, table := c.table }).keep ch fun k => { src := k.src }

theorem netDisable_of_on {b : Block} (hon : (b.nset N.en ch 0).nOn ch = true) :
    b.netDisable ch = ((((b.nset N.en ch 0).nset N.state ch 0).drainOff ch).portDown ch).forgetNet ch := by
  unfold netDisable
  dsimp only
  rw [if_neg (by simp [hon]), drainOff]
  generalize gwDiscard ch _ = c
  unfold portDown
  split <;> rfl

/-- The parts that a closing channel changes. -/
def closeParts : List Part := [Part.kept, Part.net] ++ Part.buses ++ Part.answers

theorem waitParts_subset (hch : ch < 29) : waitParts ch ⊆ closeParts := by
  intro p hp
  rcases List.mem_cons.mp hp with rfl | hp
  · simp [closeParts, bus_mem_buses hch]
  · simp [closeParts, hp]

theorem drainOff_leaves (hch : ch < 29) (b : Block) : b.Leaves (R.GW_POUT.at ch :: answerRegs) closeParts (b.drainOff ch) := by
  have hdone := (txDrop_leaves ch b St.disabled).trans (rxFinishAll_leaves ch _ St.disabled)
  exact (hdone.mono (List.subset_cons_self ..) (waitParts_subset hch)).trans
    (.of_within ((gwDiscard_within ch _).mono (by simp) (by simp [closeParts, bus_mem_buses hch])))

theorem portDown_within {l : List Nat} {ps : List Part} (hstat : statAt ch ∈ l)
    (hcnt : isEth ch = true → R.ETH_CNT.at (ch - 24) ∈ l) (h : .net ∈ ps) (b : Block) : b.Within l ps (b.portDown ch) := by
  unfold portDown
  split
  · next heth =>
      exact ((Within.satF b F.ETH_CNT_DROP (ch - 24) _ (hcnt heth)).trans
        (.setF _ F.ETH_PSTAT_LINK (ch - 24) 0 (by rw [link_at heth]; exact hstat))).trans (.netTables rfl rfl h)
  · exact .refl b

theorem forgetNet_within {l : List Nat} (hch : ch < 29) (b : Block) : b.Within l closeParts (b.forgetNet ch) :=
  (Within.updNet b ch _ (by simp [closeParts, bus_mem_buses hch])).trans (.keep _ ch _ (by simp [closeParts]))

/-- The registers of the statements about a disable, beside those of the channel. -/
def drainRegs : List Nat := offsOf (Regs.answers ++ [R.GW_POUT, R.GW_STAT])

theorem drainRegs_readyReg : ∀ x ∈ drainRegs, readyReg x = false := by decide

theorem answerRegs_subset_drainRegs : answerRegs ⊆ drainRegs := by simp [answerRegs, drainRegs, offsOf, List.flatMap_append]

theorem pout_mem_drainRegs (hch : ch < 29) : R.GW_POUT.at ch ∈ drainRegs :=
  mem_offsOf (by simp) (mem_offs _ _ hch)

theorem cons_pout_subset_drainRegs (hch : ch < 29) : R.GW_POUT.at ch :: answerRegs ⊆ drainRegs :=
  List.cons_subset.mpr ⟨pout_mem_drainRegs hch, answerRegs_subset_drainRegs⟩

/-- None of them lies among the registers of the channels. -/
theorem drainRegs_apart : ∀ x ∈ drainRegs, x < 0x30000 ∨ 0x34000 ≤ x := by decide

theorem statAt_between : ∀ ch : Fin 29, 0x30000 ≤ statAt ch ∧ statAt ch < 0x34000 := by decide

theorem cfgAt_between : ∀ ch : Fin 29, 0x30000 ≤ cfgAt ch ∧ cfgAt ch < 0x34000 := by decide

theorem statAt_not_mem_drainRegs (ch : Fin 29) : statAt ch ∉ drainRegs := fun h => by
  have hapart := drainRegs_apart _ h
  have hbetween := statAt_between ch
  omega

theorem cfgAt_not_mem_drainRegs (ch : Fin 29) : cfgAt ch ∉ drainRegs := fun h => by
  have hapart := drainRegs_apart _ h
  have hbetween := cfgAt_between ch
  omega

/-- A closing channel may change its own registers too. -/
theorem netDisable_leaves {l : List Nat} {b : Block} (hch : ch < 29) (hon : (b.nset N.en ch 0).nOn ch = true)
    (hl : drainRegs ⊆ l) (hcfg : cfgAt ch ∈ l) (hstat : statAt ch ∈ l) (hcnt : isEth ch = true → R.ETH_CNT.at (ch - 24) ∈ l) :
    b.Leaves l closeParts (b.netDisable ch) := by
  rw [netDisable_of_on hon]
  refine (Leaves.of_within ((nsetEn_within 0 b hcfg).trans (.nset _ state_inStat ch 0 hstat))).trans ?_
  refine ((drainOff_leaves hch _).mono (List.Subset.trans (cons_pout_subset_drainRegs hch) hl) (List.Subset.refl _)).trans ?_
  exact .of_within ((portDown_within hstat hcnt (by simp [closeParts]) _).trans (forgetNet_within hch _))

theorem ethCnt_mem {p : Nat} (hp : p < 5) : R.ETH_CNT.at p ∈ offsOf [R.ETH_CNT] :=
  mem_offsOf (List.mem_singleton_self _) (mem_offs _ _ hp)

theorem cfgAt_not_mem_portDown : ∀ ch : Fin 29, cfgAt ch ∉ statAt ch :: offsOf [R.ETH_CNT] := by decide

theorem statAt_not_mem_ethCnt : ∀ ch : Fin 29, statAt ch ∉ offsOf [R.ETH_CNT] := by decide

theorem ethPort_lt (h : isEth ch = true) : ch - 24 < 5 := by
  simp only [isEth, decide_eq_true_eq] at h
  omega

theorem portDown_en (hch : ch < 29) (b : Block) : (b.portDown ch).nget N.en ch = b.nget N.en ch :=
  (portDown_within (ps := [.net]) (List.mem_cons_self ..) (fun h => List.mem_cons_of_mem _ (ethCnt_mem (ethPort_lt h)))
    (List.mem_singleton_self _) b).beside.en_eq hch (cfgAt_not_mem_portDown ⟨ch, hch⟩)

/-- A port is down with its link; its state stays. -/
theorem portDown_effect (hch : ch < 29) (b : Block) : (b.portDown ch).nstate ch = b.nstate ch ∧
    (isEth ch = true → (b.portDown ch).getF F.ETH_PSTAT_LINK (ch - 24) = 0) := by
  unfold portDown
  split
  · next heth =>
      have hcount : b.Within (offsOf [R.ETH_CNT]) [] (b.satF F.ETH_CNT_DROP (ch - 24) (b.nch ch).egress.length) :=
        .satF b F.ETH_CNT_DROP _ _ (ethCnt_mem (ethPort_lt heth))
      dsimp only
      refine ⟨?_, fun _ => ?_⟩
      · rw [netTables_nstate, setLink_nstate heth, hcount.beside.nstate_eq hch (statAt_not_mem_ethCnt ⟨ch, hch⟩)]
      · rw [netTables_getF, getF_setF_lt _ F.ETH_PSTAT_LINK _ (by decide) (by decide)]
  · next hother => exact ⟨rfl, fun heth => absurd heth hother⟩

/-- A closed channel is off, and nothing waits on it. -/
theorem netDisable_effect {b : Block} (hnet : isNet ch = true) (hch : ch < 29) (hon : (b.nset N.en ch 0).nOn ch = true) :
    (b.netDisable ch).nget N.en ch = 0 ∧ (b.netDisable ch).nstate ch = 0 ∧
      (∃ resp table, (b.netDisable ch).nch ch = { resp := resp, table := table }) ∧
      (isEth ch = true → (b.netDisable ch).getF F.ETH_PSTAT_LINK (ch - 24) = 0) := by
  rw [netDisable_of_on hon]
  have hdrain := drainOff_leaves hch ((b.nset N.en ch 0).nset N.state ch 0)
  have hoff : (b.nset N.en ch 0).Within [statAt ch] [] ((b.nset N.en ch 0).nset N.state ch 0) :=
    .nset _ state_inStat ch 0 (List.mem_singleton_self _)
  generalize hc : ((b.nset N.en ch 0).nset N.state ch 0).drainOff ch = c at hdrain
  obtain ⟨hstate, hlink⟩ := portDown_effect hch c
  refine ⟨?_, ?_, ?_, hlink⟩
  · calc ((c.portDown ch).forgetNet ch).nget N.en ch = c.nget N.en ch := portDown_en hch c
      _ = ((b.nset N.en ch 0).nset N.state ch 0).nget N.en ch :=
          hdrain.beside.en_eq hch fun h => cfgAt_not_mem_drainRegs ⟨ch, hch⟩ (cons_pout_subset_drainRegs hch h)
      _ = 0 := (en_eq_of_stat hoff hch).trans (nget_nsetEn (by decide) b ch)
  · calc ((c.portDown ch).forgetNet ch).nstate ch = c.nstate ch := hstate
      _ = ((b.nset N.en ch 0).nset N.state ch 0).nstate ch :=
          hdrain.beside.nstate_eq hch fun h => statAt_not_mem_drainRegs ⟨ch, hch⟩ (cons_pout_subset_drainRegs hch h)
      _ = 0 := nstate_nset_state hnet (by decide) _
  · exact ⟨_, _, by rw [forgetNet, keep_nch, updNet_same]⟩

end Close

end Block

/-! ### The commands that disable -/

section DisableCommands

open Block

variable (s : State) (who : Who)

theorem pw_not_mem_closeParts : .pw ∉ closeParts := by simp [closeParts, Part.buses, Part.answers]

/-- A command that closes an open channel completes with what the end of the command does not change. -/
theorem completes_of_netDisable {c : Instr} {off ch : Nat} {k : Block → Block} {E : Block → Prop} {l : List Nat}
    (hx : exec c s = s.act fun b => b.gate who off k) (hready : s.blk.Ready) (hwrite : s.blk.CanWrite who off)
    (hclose : k s.blk = s.blk.netDisable ch) (hnet : isNet ch = true) (hch : ch < 28) (hon : s.blk.nstate ch ≠ 0)
    (hdrain : drainRegs ⊆ l) (hcfg : cfgAt ch ∈ l) (hstat : statAt ch ∈ l) (hcnt : isEth ch = true → R.ETH_CNT.at (ch - 24) ∈ l)
    (hl : ∀ x ∈ l, readyReg x = false)
    (he : ∀ b : Block, b.nget N.en ch = 0 → b.nstate ch = 0 → (∃ resp table, b.nch ch = { resp := resp, table := table }) →
      (isEth ch = true → b.getF F.ETH_PSTAT_LINK (ch - 24) = 0) → s.blk.Beside l closeParts b → E b) : Completes c s E := by
  have hch' : ch < 29 := by omega
  have hstays : (s.blk.nset N.en ch 0).nstate ch = s.blk.nstate ch :=
    (nsetEn_within (l := [cfgAt ch]) (ps := []) 0 s.blk (List.mem_singleton_self _)).beside.nstate_eq hch'
      (by simpa using (cfgAt_ne_statAt ⟨ch, hch'⟩).symm)
  have hopen : (s.blk.nset N.en ch 0).nOn ch = true := by simp [nOn_eq (show ch ≠ 28 by omega), hstays, hon]
  have heffect : s.blk.gate who off k = s.blk.netDisable ch := (gate_of_canWrite hwrite k).trans hclose
  obtain ⟨hen, hstate, hempty, hlink⟩ := netDisable_effect hnet hch' hopen
  refine completes_of_leaves hx hready (heffect ▸ netDisable_leaves hch' hopen hdrain hcfg hstat hcnt) hl pw_not_mem_closeParts
    fun b hend hb => he b ?_ ?_ ?_ ?_ hb <;> rw [heffect] at hend
  · rw [hend.en_eq hch' List.not_mem_nil, hen]
  · rw [hend.nstate_eq hch' List.not_mem_nil, hstate]
  · rw [hend.nch_eq List.not_mem_nil]
    exact hempty
  · intro heth
    rw [hend.getF_eq List.not_mem_nil (by rw [link_at heth]; exact statAt_recordReg hch'), hlink heth]

theorem closeRegs_readyReg {ch : Nat} (hch : ch < 29) : ∀ x ∈ drainRegs ++ [cfgAt ch, statAt ch], readyReg x = false := by
  intro x hx
  rcases List.mem_append.mp hx with hx | hx
  · exact drainRegs_readyReg x hx
  · exact openRegs_readyReg hch x hx

theorem ethCnt_readyReg : ∀ p : Fin 5, readyReg (R.ETH_CNT.at p) = false := by decide

theorem completes_canDisable (n : Fin 12) (hready : s.blk.Ready) (hwrite : s.blk.CanWrite who (R.CAN_CFG.at n))
    (hon : s.blk.nstate n ≠ 0) :
    Completes (.canDisable who n) s fun b => b.nget N.en n = 0 ∧ b.nstate n = 0 ∧ (b.nch n).fifo = [] ∧ (b.nch n).prio = [] ∧
      (b.nch n).bufs = [] ∧ (b.nch n).jobs = [] ∧
      s.blk.Beside (offsOf (Regs.answers ++ [R.GW_POUT, R.GW_STAT]) ++ [R.CAN_CFG.at n.val, R.CAN_STAT.at n.val])
        ([Part.kept, Part.net] ++ Part.buses ++ Part.answers) b := by
  have hch : n.val < 28 := by omega
  rw [← statAt_can n, ← cfgAt_can n]
  refine completes_of_netDisable s who (k := Block.netDisable n) (l := drainRegs ++ [cfgAt n, statAt n]) rfl hready
    (cfgAt_can n ▸ hwrite) rfl (isNet_can n) hch hon
    (List.subset_append_left ..) (by simp) (by simp) (fun heth => by simp [isEth] at heth; omega) (closeRegs_readyReg (by omega))
    fun b hen hstate hempty _ hb => ?_
  obtain ⟨resp, table, hempty⟩ := hempty
  rw [hempty]
  exact ⟨hen, hstate, rfl, rfl, rfl, rfl, hb⟩

theorem completes_linDisable (n : Fin 8) (hready : s.blk.Ready) (hwrite : s.blk.CanWrite who (R.LIN_CFG.at n))
    (hon : s.blk.nstate (16 + n) ≠ 0) :
    Completes (.linDisable who n) s fun b => b.nget N.en (16 + n) = 0 ∧ b.nstate (16 + n) = 0 ∧ (b.nch (16 + n)).bufs = [] ∧
      s.blk.Beside (offsOf (Regs.answers ++ [R.GW_POUT, R.GW_STAT]) ++ [R.LIN_CFG.at n.val, R.LIN_STAT.at n.val])
        ([Part.kept, Part.net] ++ Part.buses ++ Part.answers) b := by
  have hch : 16 + n.val < 28 := by omega
  rw [← statAt_lin n, ← cfgAt_lin n]
  refine completes_of_netDisable s who (k := Block.linDisable n) (l := drainRegs ++ [cfgAt (16 + n), statAt (16 + n)]) rfl hready
    (cfgAt_lin n ▸ hwrite) rfl (isNet_lin n) hch hon
    (List.subset_append_left ..) (by simp) (by simp) (fun heth => by simp [isEth] at heth; omega) (closeRegs_readyReg (by omega))
    fun b hen hstate hempty _ hb => ?_
  obtain ⟨resp, table, hempty⟩ := hempty
  rw [hempty]
  exact ⟨hen, hstate, rfl, hb⟩

theorem completes_ethPortDisable (p : Fin 5) (hready : s.blk.Ready) (hwrite : s.blk.CanWrite who (R.ETH_PCFG.at p)) (hport : p.val < 4)
    (hon : s.blk.nstate (24 + p) ≠ 0) :
    Completes (.ethPortDisable who p) s fun b => b.nget N.en (24 + p) = 0 ∧ b.nstate (24 + p) = 0 ∧ b.getF F.ETH_PSTAT_LINK p = 0 ∧
      s.blk.Beside (offsOf (Regs.answers ++ [R.GW_POUT, R.GW_STAT]) ++ [R.ETH_CNT.at p.val, R.ETH_PCFG.at p.val, R.ETH_PSTAT.at p.val])
        ([Part.kept, Part.net] ++ Part.buses ++ Part.answers) b := by
  have hch : 24 + p.val < 28 := by omega
  have hport' : 24 + p.val - 24 = p := by omega
  rw [← statAt_eth p, ← cfgAt_eth p]
  refine completes_of_netDisable s who (k := Block.ethPortOff p)
    (l := drainRegs ++ [R.ETH_CNT.at p.val, cfgAt (24 + p), statAt (24 + p)]) rfl hready
    (cfgAt_eth p ▸ hwrite) (if_pos hport) (isNet_eth p) hch hon
    (List.subset_append_left ..) (by simp) (by simp) (fun _ => by simp) ?_ fun b hen hstate _ hlink hb => ?_
  · intro x hx
    rcases List.mem_append.mp hx with hx | hx
    · exact drainRegs_readyReg x hx
    · simp only [List.mem_cons, List.not_mem_nil, or_false] at hx
      rcases hx with rfl | rfl | rfl
      · exact ethCnt_readyReg p
      · exact cfgAt_readyReg ⟨24 + p, by omega⟩
      · exact statAt_readyReg (by omega)
  · rw [hport'] at hlink
    exact ⟨hen, hstate, hlink (by simp [isEth]; omega), hb⟩

/-- The registers of the statement about port 4. -/
def port4Regs : List Nat := offsOf (Regs.answers ++ [R.ETH_CNT, R.ETH_PCFG, R.ETH_PSTAT, R.GW_POUT, R.GW_STAT])

theorem port4Regs_readyReg : ∀ x ∈ port4Regs, readyReg x = false := by decide

theorem answerRegs_subset_port4Regs : answerRegs ⊆ port4Regs := by simp [answerRegs, port4Regs, offsOf, List.flatMap_append]

theorem pcfg4_mem_port4Regs : R.ETH_PCFG.at 4 ∈ port4Regs := mem_offsOf (r := R.ETH_PCFG) (by simp) (mem_offs _ _ (by decide))

theorem completes_ethPortDisable_port4 (hready : s.blk.Ready) (hwrite : s.blk.CanWrite who (R.ETH_PCFG.at 4)) :
    Completes (.ethPortDisable who 4) s fun b => b.getF F.ETH_PCFG_EN 4 = 0 ∧ (b.nch 28).recs = [] ∧
      s.blk.Beside (offsOf (Regs.answers ++ [R.ETH_CNT, R.ETH_PCFG, R.ETH_PSTAT, R.GW_POUT, R.GW_STAT]))
        ([Part.kept, Part.net] ++ Part.buses ++ Part.answers) b := by
  have heffect : s.blk.gate who (R.ETH_PCFG.at 4) (ethPortOff 4) =
      (((s.blk.rxFinishAll 28 St.disabled).setF F.ETH_PCFG_EN 4 0).updNet 28 fun c => { c with recs := [], lost := false }) :=
    gate_of_canWrite hwrite _
  have hdone := (rxFinishAll_leaves 28 s.blk St.disabled).mono answerRegs_subset_port4Regs (waitParts_subset (by decide))
  have hall := hdone.trans (.of_within ((Within.setF _ F.ETH_PCFG_EN 4 0 pcfg4_mem_port4Regs).trans
    (.updNet _ 28 (fun c => { c with recs := [], lost := false }) (by simp [closeParts, bus_mem_buses]))))
  refine completes_of_leaves (f := fun b => b.gate who (R.ETH_PCFG.at 4) (ethPortOff 4)) rfl hready (heffect ▸ hall)
    port4Regs_readyReg pw_not_mem_closeParts fun b hend hb => ⟨?_, ?_, hb⟩ <;> rw [heffect] at hend
  · rw [hend.getF_eq List.not_mem_nil (by decide), updNet_getF, getF_setF_lt _ F.ETH_PCFG_EN 4 (by decide) (by decide)]
  · rw [hend.nch_eq List.not_mem_nil, updNet_same]

end DisableCommands

end Sys2Proof.Machine
end

section
/-! PROOFS. The error counters and the bus-off of a CAN channel, the measurement of a bus, and the age-out of an address. -/
namespace Sys2Proof.Machine

namespace Block

/-! ### Bus errors -/

section BusError

variable {n : Fin 12} {b : Block}

/-- The transmit and the receive counter after an error (R332). -/
def tecAfter (tx : Bool) (tec : Nat) : Nat := if tx then min 255 (tec + 8) else tec
def recAfter (tx eight : Bool) (rec' : Nat) : Nat := if tx then rec' else min 255 (rec' + if eight then 8 else 1)

/-- An error moves the counters and leaves its code (R332). -/
def countErr (n : Nat) (tx eight : Bool) (lec : Nat) (b : Block) : Block :=
  ((b.setF F.CAN_ERR_TEC n (tecAfter tx (b.getF F.CAN_ERR_TEC n))).setF F.CAN_ERR_REC n
    (recAfter tx eight (b.getF F.CAN_ERR_REC n))).setF F.CAN_ERR_LEC n lec

/-- A channel that enters BUSOFF (R332). -/
def goBusOff (n : Nat) (b : Block) : Block :=
  ((b.nset N.state n 5).updNet n fun c =>
    { c with recov := bit (c.word 0) 6, armed := false, enforce := false, idle := false }).xstick F.CAN_STAT_BUSOFFX n

theorem tec_lt (n : Nat) (b : Block) : b.getF F.CAN_ERR_TEC n < 256 := bits_lt _ 7 0

theorem rec_lt (n : Nat) (b : Block) : b.getF F.CAN_ERR_REC n < 256 := bits_lt _ 15 8

theorem tecAfter_lt (tx : Bool) {tec : Nat} (h : tec < 256) : tecAfter tx tec < 256 := by
  unfold tecAfter
  split <;> omega

theorem recAfter_lt (tx eight : Bool) {rec' : Nat} (h : rec' < 256) : recAfter tx eight rec' < 256 := by
  unfold recAfter
  split <;> omega

theorem countErr_within (n : Nat) (tx eight : Bool) (lec : Nat) (b : Block) :
    b.Within [R.CAN_ERR.at n] [] (b.countErr n tx eight lec) :=
  ((Within.setF b F.CAN_ERR_TEC n _ (List.mem_singleton_self _)).trans
    (.setF _ F.CAN_ERR_REC n _ (List.mem_singleton_self _))).trans (.setF _ F.CAN_ERR_LEC n lec (List.mem_singleton_self _))

theorem countErr_effect (n : Nat) (tx eight : Bool) {lec : Nat} (hlec : lec < 8) (b : Block) :
    (b.countErr n tx eight lec).getF F.CAN_ERR_TEC n = tecAfter tx (b.getF F.CAN_ERR_TEC n) ∧
      (b.countErr n tx eight lec).getF F.CAN_ERR_REC n = recAfter tx eight (b.getF F.CAN_ERR_REC n) ∧
      (b.countErr n tx eight lec).getF F.CAN_ERR_LEC n = lec := by
  refine ⟨?_, ?_, getF_setF_lt _ F.CAN_ERR_LEC n (by decide) hlec⟩
  · rw [countErr, getF_setF_beside _ F.CAN_ERR_LEC F.CAN_ERR_TEC n lec rfl (by decide) (by decide),
      getF_setF_beside _ F.CAN_ERR_REC F.CAN_ERR_TEC n _ rfl (by decide) (by decide),
      getF_setF_lt _ F.CAN_ERR_TEC n (by decide) (tecAfter_lt tx (tec_lt n b))]
  · rw [countErr, getF_setF_beside _ F.CAN_ERR_LEC F.CAN_ERR_REC n lec rfl (by decide) (by decide),
      getF_setF_lt _ F.CAN_ERR_REC n (by decide) (recAfter_lt tx eight (rec_lt n b))]

/-- A sticky bit of a CAN channel above its state leaves the state. -/
theorem canStick_nstate {f : RegField} (hf : f.reg = R.CAN_STAT) (hbit : f.hi = f.lo) (habove : 2 < f.lo) (ht : b.Tame) :
    (b.xstick f n).nstate n = b.nstate n := by
  have hch : n.val < 29 := by omega
  have hstate : N.state.of n = F.CAN_STAT_STATE := if_pos n.isLt
  have hfield := xstick_beside (g := N.state.of n) (hf.trans (statReg_can n).symm) (state_inStat.reg n) hbit
    (.inr (by rw [hstate]; exact habove)) hch ht
  rw [nstate_of_isNet (isNet_can n), nstate_of_isNet (isNet_can n)]
  exact hfield

theorem canStick_within {f : RegField} (hf : f.reg = R.CAN_STAT) (ht : b.Tame) : b.Within [statAt n] [] (b.xstick f n) :=
  xstick_within (hf.trans (statReg_can n).symm) (by omega) ht

theorem goBusOff_within (ht : b.Tame) : b.Within [statAt n] Part.buses (b.goBusOff n) := by
  have hch : n.val < 29 := by omega
  have hoff : b.Within [statAt n] Part.buses ((b.nset N.state n 5).updNet n fun c =>
      { c with recov := bit (c.word 0) 6, armed := false, enforce := false, idle := false }) :=
    (Within.nset b state_inStat n 5 (List.mem_singleton_self _)).trans (.updNet _ n _ (bus_mem_buses hch))
  exact hoff.trans ((canStick_within rfl (hoff.tame (by simpa using statAt_readyReg hch) ht)).mono (List.Subset.refl _)
    (List.nil_subset _))

theorem goBusOff_nstate (ht : b.Tame) : (b.goBusOff n).nstate n = 5 := by
  have htame : (b.nset N.state n 5).Tame := nset_tame state_inStat (by omega) 5 ht
  have hoff : ∀ f, ((b.nset N.state n 5).updNet n f).Tame := fun _ => htame
  rw [goBusOff, canStick_nstate rfl rfl (by decide) (hoff _), updNet_nstate, nstate_nset_state (isNet_can n) (by decide)]

/-- What follows an error: EPASS on entry to error passive, and BUSOFF (R332). -/
def afterErr (n : Nat) (passive off : Bool) (b : Block) : Block :=
  let b := if passive then b.xstick F.CAN_STAT_EPASS n else b
  if off then b.goBusOff n else b

theorem afterErr_within (passive off : Bool) (ht : b.Tame) : b.Within [statAt n] Part.buses (b.afterErr n passive off) := by
  have hnote : b.Within [statAt n] Part.buses (if passive then b.xstick F.CAN_STAT_EPASS n else b) :=
    .ite _ ((canStick_within rfl ht).mono (List.Subset.refl _) (List.nil_subset _)) (.refl b)
  exact .ite _ (hnote.trans (goBusOff_within (hnote.tame (by simpa using statAt_readyReg (by omega)) ht))) hnote

theorem afterErr_nstate (passive off : Bool) (ht : b.Tame) :
    (b.afterErr n passive off).nstate n = if off then 5 else b.nstate n := by
  have hnote : (if passive then b.xstick F.CAN_STAT_EPASS n else b).Tame ∧
      (if passive then b.xstick F.CAN_STAT_EPASS n else b).nstate n = b.nstate n := by
    split
    · exact ⟨(canStick_within rfl ht).tame (by simpa using statAt_readyReg (by omega)) ht, canStick_nstate rfl rfl (by decide) ht⟩
    · exact ⟨ht, rfl⟩
  obtain ⟨htame, hstate⟩ := hnote
  cases off with
  | true => exact goBusOff_nstate htame
  | false => exact hstate

/-- A bus error of an active channel moves its counters, may enter error passive, and enters BUSOFF past 255 (R332). -/
theorem canError_of_awake {tx eight : Bool} {lec : Nat} (hstate : b.nstate n = 1)
    (hcounts : tx = false ∨ lec ≠ 3 ∨ b.getF F.CAN_ERR_TEC n ≤ 127) :
    ∃ passive, b.canError n tx eight lec =
      (b.countErr n tx eight lec).afterErr n passive (tx && decide (255 < b.getF F.CAN_ERR_TEC n + 8)) := by
  have htec : b.getF F.CAN_ERR_TEC n ≤ 255 := Nat.le_of_lt_succ (tec_lt n b)
  have hrec : b.getF F.CAN_ERR_REC n ≤ 255 := Nat.le_of_lt_succ (rec_lt n b)
  unfold canError
  dsimp only
  rw [if_neg (by simp [hstate])]
  cases tx with
  | false =>
      have hnot : ¬ 255 < b.getF F.CAN_ERR_TEC n := by omega
      simp only [Bool.false_and, Bool.false_eq_true, if_false, decide_eq_false hnot, min_eq_right htec]
      exact ⟨_, rfl⟩
  | true =>
      have hcounted : (true && !(lec == 3 && decide (127 < b.getF F.CAN_ERR_TEC n))) = true := by
        simpa [imp_iff_not_or] using hcounts
      simp only [hcounted, if_true, min_eq_right hrec, hstate, beq_self_eq_true, Bool.true_or, Bool.and_true, Bool.true_and]
      exact ⟨_, rfl⟩

end BusError

end Block

/-! ### The commands -/

section ErrorCommands

open Block

variable (s : State)

theorem errRegs_readyReg (n : Fin 12) : ∀ x ∈ [R.CAN_ERR.at n.val, statAt n], readyReg x = false := by
  simpa using ⟨canErr_readyReg n, statAt_readyReg (show n.val < 29 by omega)⟩

theorem completes_canBusError (n : Fin 12) (tx : Bool) (eight : Bool) (lec : Fin 7) (hready : s.blk.Ready) (hstate : s.blk.nstate n = 1)
    (hcounts : tx = false ∨ lec.val ≠ 3 ∨ s.blk.getF F.CAN_ERR_TEC n ≤ 127) :
    Completes (.canBusError n tx eight lec) s fun b =>
      (b.getF F.CAN_ERR_TEC n = (if tx then min 255 (s.blk.getF F.CAN_ERR_TEC n + 8) else s.blk.getF F.CAN_ERR_TEC n) ∧
        b.getF F.CAN_ERR_REC n = (if tx then s.blk.getF F.CAN_ERR_REC n else min 255 (s.blk.getF F.CAN_ERR_REC n +
          if eight then 8 else 1)) ∧ b.getF F.CAN_ERR_LEC n = lec ∧
        b.nstate n = (if tx ∧ 255 < s.blk.getF F.CAN_ERR_TEC n + 8 then 5 else 1)) ∧
      s.blk.Beside [R.CAN_ERR.at n.val, R.CAN_STAT.at n.val] ([Part.kept, Part.net] ++ Part.buses) b := by
  have hch : n.val < 29 := by omega
  obtain ⟨passive, heffect⟩ := canError_of_awake (eight := eight) hstate hcounts
  have hcall : s.blk.stillNet (s.blk.canBusError n tx eight lec) = s.blk.canError n tx eight lec := by
    rw [stillNet_of_ready hready, canBusError, if_neg (by simp [hstate])]
  rw [heffect] at hcall
  obtain ⟨ht, hr, hl⟩ := countErr_effect n tx eight (show lec.val < 8 by omega) s.blk
  have hcount := countErr_within n tx eight lec s.blk
  generalize s.blk.countErr n tx eight lec = c at *
  have htame : c.Tame := hcount.tame (by simpa using canErr_readyReg n) hready.2.1
  have hafter := afterErr_within (n := n) passive (tx && decide (255 < s.blk.getF F.CAN_ERR_TEC n + 8)) htame
  have hcstate : c.nstate n = 1 := (hcount.beside.nstate_eq hch (by simpa using (canErr_ne_statAt n).symm)).trans hstate
  have herr : R.CAN_ERR.at n ∉ [statAt n] := by simpa using canErr_ne_statAt n
  have hkeep : ∀ f : RegField, f.reg = R.CAN_ERR →
      (c.afterErr n passive (tx && decide (255 < s.blk.getF F.CAN_ERR_TEC n + 8))).getF f n = c.getF f n := fun f hf =>
    hafter.getF_eq (by rw [hf]; exact herr) (by rw [hf]; exact canErr_recordReg n)
  have hw := (hcount.mono (m := [R.CAN_ERR.at n.val, statAt n]) (qs := [Part.kept, Part.net] ++ Part.buses) (by simp)
    (List.nil_subset _)).trans (hafter.mono (by simp) (List.subset_append_right ..))
  rw [← statAt_can n]
  refine completes_of_within (f := fun b => b.stillNet (b.canBusError n tx eight lec)) rfl hready (hcall ▸ hw) (errRegs_readyReg n)
    (by simp [Part.buses]) ⟨?_, hcall ▸ hw.beside⟩
  rw [hcall, hkeep F.CAN_ERR_TEC rfl, hkeep F.CAN_ERR_REC rfl, hkeep F.CAN_ERR_LEC rfl, afterErr_nstate _ _ htame, hcstate]
  exact ⟨ht, hr, hl, by simp⟩

theorem completes_busOffRecoveryDone (n : Fin 12) (hready : s.blk.Ready) (hstate : s.blk.nstate n = 5)
    (hrecov : (s.blk.nch n).recov = true) :
    Completes (.busOffRecoveryDone n) s fun b => b.nstate n = 1 ∧ b.getF F.CAN_ERR_TEC n = 0 ∧ b.getF F.CAN_ERR_REC n = 0 ∧
      (b.nch n).recov = false ∧ s.blk.Beside [R.CAN_ERR.at n.val, R.CAN_STAT.at n.val] Part.buses b := by
  have hch : n.val < 29 := by omega
  have hset : s.blk.Within [statAt n] [] (s.blk.nset N.state n 1) := .nset _ state_inStat n 1 (List.mem_singleton_self _)
  have heffect : s.blk.busOffDone n = (((s.blk.nset N.state n 1).clearErr n 15).updNet n fun c => { c with recov := false }) := by
    have herr : (s.blk.nset N.state n 1).rd R.CAN_ERR n = s.blk.rd R.CAN_ERR n :=
      hset.rd_eq (by simpa using canErr_ne_statAt n) (canErr_recordReg n)
    rw [busOffDone, if_pos (by simp [hstate, hrecov]), clearErr, herr]
  have hclear : (s.blk.nset N.state n 1).Within [R.CAN_ERR.at n.val] [] ((s.blk.nset N.state n 1).clearErr n 15) :=
    clearErr_within 15 _ (List.mem_singleton_self _)
  obtain ⟨htec, hrec⟩ := clearErr_effect (top := 15) (by decide) n (s.blk.nset N.state n 1)
  have hw : s.blk.Within [R.CAN_ERR.at n.val, statAt n] Part.buses (s.blk.busOffDone n) := by
    rw [heffect]
    exact ((hset.mono (by simp) (List.nil_subset _)).trans (hclear.mono (by simp) (List.nil_subset _))).trans
      (.updNet _ n _ (bus_mem_buses hch))
  rw [← statAt_can n]
  refine completes_of_within (f := fun b => b.busOffDone n) rfl hready hw (errRegs_readyReg n) pw_not_mem_buses
    ⟨?_, ?_, ?_, ?_, hw.beside⟩ <;> rw [heffect]
  · rw [updNet_nstate, hclear.beside.nstate_eq hch (by simpa using (canErr_ne_statAt n).symm),
      nstate_nset_state (isNet_can n) (by decide)]
  · rw [updNet_getF, htec]
  · rw [updNet_getF, hrec]
  · rw [updNet_same]

/-- The results of a bus measurement fit in their field. -/
theorem busDiag_fits : ∀ (ch : Fin 24) (v : Fin 8), isCan ch = true ∨ v.val ≤ 3 →
    v.val < 2 ^ ((N.diag.of ch).hi + 1 - (N.diag.of ch).lo) := by decide

theorem completes_busDiagMeasure (ch : Fin 24) (v : Fin 8) (hready : s.blk.Ready) (_ : isCan ch = true ∨ isLin ch = true)
    (hon : s.blk.nOn ch = true) (hresult : isCan ch = true ∨ v.val ≤ 3) :
    Completes (.busDiagMeasure ch v) s fun b => (b.nget N.diag ch = v ∧
      (v.val ≠ 0 → v.val ≠ s.blk.nget N.diag ch → b.nget N.diagf ch = 1)) ∧
      s.blk.Beside (offsOf [R.CAN_STAT, R.ETH_PSTAT, R.LIN_STAT]) [] b := by
  have hch : ch.val < 29 := by omega
  have hlin : ¬(isLin ch = true ∧ 3 < v.val) := by
    rcases hresult with hcan | hsmall
    · simp only [isCan, isLin, decide_eq_true_eq] at hcan ⊢
      omega
    · omega
  have heffect : s.blk.busDiag ch v = s.blk.netDiag ch v := if_neg (by simpa [hon] using hlin)
  exact completes_of_stays (f := fun b => b.busDiag ch v) rfl hready
    (heffect ▸ netDiag_stays hch (statAt_mem_statRegs ⟨ch, hch⟩) v s.blk) statRegs_readyReg List.not_mem_nil
    fun hw => ⟨heffect ▸ netDiag_effect hch (busDiag_fits ch v hresult) hready.2.1, hw.beside⟩

theorem completes_addressAgeOut (mac : BitVec 48) (hready : s.blk.Ready) (hage : s.blk.getF F.ETH_SWCFG_AGE 0 ≠ 0) :
    Completes (.addressAgeOut mac) s fun b => (b.net.mac = s.blk.net.mac.filter fun m => !(m.1 == mac.toNat)) ∧
      s.blk.Beside [] [Part.net] b := by
  have heffect : s.blk.ageOut mac.toNat =
      { s.blk with net := { s.blk.net with mac := s.blk.net.mac.filter fun m => !(m.1 == mac.toNat) } } := if_neg hage
  have hw : s.blk.Within [] [Part.net] (s.blk.ageOut mac.toNat) :=
    heffect ▸ .netTables rfl rfl (List.mem_singleton_self _)
  exact completes_of_within (f := fun b => b.ageOut mac.toNat) rfl hready hw (by simp) (by simp) ⟨by rw [heffect], hw.beside⟩

end ErrorCommands

end Sys2Proof.Machine
end

section
/-! PROOFS. The switch and the queue that waits on it: what goes through them is counted and sent, the held egress queues of a port
without a link stay, and no beacon is noted or forgotten. So the commands of a link or of the beacons keep what they set. -/
namespace Sys2Proof.Machine

namespace Block

/-! ### What passes the switch -/

/-- The registers and parts that the switch and the queue of CH 28 change. -/
def switchRegs : List Nat := offsOf [R.ETH_CNT, R.GW_POUT, R.GW_STAT]
def switchParts : List Part := [Part.net] ++ Part.buses

theorem switchRegs_readyReg : ∀ x ∈ switchRegs, readyReg x = false := by decide

theorem cnt_mem_switchRegs {p : Nat} (hp : p < 5) : R.ETH_CNT.at p ∈ switchRegs := mem_offsOf (by simp) (mem_offs _ _ hp)

theorem pout_mem_switchRegs {ch : Nat} (hch : ch < 29) : R.GW_POUT.at ch ∈ switchRegs := mem_offsOf (by simp) (mem_offs _ _ hch)

theorem pstat_not_mem_switchRegs : ∀ p : Fin 4, R.ETH_PSTAT.at p ∉ switchRegs := by decide

theorem pstat_recordReg : ∀ p : Fin 4, recordReg (R.ETH_PSTAT.at p) = false := by decide

/-- From a to b frames have passed the switch: port p holds its frames as long as it has no link, and whether it hears beacons is
as before. -/
def Passes (p : Fin 4) (a b : Block) : Prop :=
  a.Tame → a.Within switchRegs switchParts b ∧ (b.nch (24 + p)).noBeacon = (a.nch (24 + p)).noBeacon ∧
    (a.flag F.ETH_PSTAT_LINK p = false → (b.nch (24 + p)).egress = (a.nch (24 + p)).egress)

section Passing

variable {p : Fin 4} {a b c : Block}

/-- The status of a port stays. -/
theorem pstat_eq (h : a.Within switchRegs switchParts b) {f : RegField} (hf : f.reg = R.ETH_PSTAT) :
    b.getF f p = a.getF f p :=
  h.getF_eq (by rw [hf]; exact pstat_not_mem_switchRegs p) (by rw [hf]; exact pstat_recordReg p)

namespace Passes

theorem of_same (h : a.Within switchRegs switchParts b) (hsame : b.nch (24 + p) = a.nch (24 + p)) : a.Passes p b := fun _ =>
  ⟨h, by rw [hsame], fun _ => by rw [hsame]⟩

theorem refl (b : Block) : b.Passes p b := of_same (.refl b) rfl

theorem trans (h : a.Passes p b) (k : b.Passes p c) : a.Passes p c := fun ht => by
  obtain ⟨hw, hbeacon, hheld⟩ := h ht
  obtain ⟨kw, kbeacon, kheld⟩ := k (hw.tame switchRegs_readyReg ht)
  refine ⟨hw.trans kw, kbeacon.trans hbeacon, fun hlink => (kheld ?_).trans (hheld hlink)⟩
  rw [flag, pstat_eq hw rfl]
  exact hlink

theorem ite (P : Prop) [Decidable P] (h : P → a.Passes p b) (k : ¬ P → a.Passes p c) : a.Passes p (if P then b else c) := by
  split
  · next hp => exact h hp
  · next hp => exact k hp

theorem setF (b : Block) (f : RegField) (n v : Nat) (h : f.reg.at n ∈ switchRegs) : b.Passes p (b.setF f n v) :=
  of_same (.setF b f n v h) rfl

theorem satF (b : Block) (f : RegField) (n v : Nat) (h : f.reg.at n ∈ switchRegs) : b.Passes p (b.satF f n v) := setF b f n _ h

theorem wrapF (b : Block) (f : RegField) (n v : Nat) (h : f.reg.at n ∈ switchRegs) : b.Passes p (b.wrapF f n v) := setF b f n _ h

theorem foldl {α : Type} (f : Block → α → Block) (xs : List α) (h : ∀ x ∈ xs, ∀ b : Block, b.Passes p (f b x)) (b : Block) :
    b.Passes p (xs.foldl f b) := by
  induction xs generalizing b with
  | nil => exact refl b
  | cons x xs ih =>
      exact (h x (List.mem_cons_self ..) b).trans (ih (fun y hy => h y (List.mem_cons_of_mem _ hy)) _)

/-- An update of a port that keeps what is noted of its beacons and, without a link, its queues. -/
theorem updPort (b : Block) {q : Nat} (hq : q < 4) (f : NetCh → NetCh)
    (hbeacon : (f (b.nch (24 + q))).noBeacon = (b.nch (24 + q)).noBeacon) (hlink : b.flag F.ETH_PSTAT_LINK q = true) :
    b.Passes p (b.updNet (24 + q) f) := fun _ => by
  have hw : b.Within switchRegs switchParts (b.updNet (24 + q) f) :=
    .updNet b _ f (by simp [switchParts, bus_mem_buses (show 24 + q < 29 by omega)])
  by_cases hqp : q = p
  · subst hqp
    exact ⟨hw, by rw [updNet_same, hbeacon], fun hdown => absurd (hlink.symm.trans hdown) (by decide)⟩
  · have hne : (b.updNet (24 + q) f).nch (24 + p) = b.nch (24 + p) := updNet_ne b f (by omega)
    exact ⟨hw, by rw [hne], fun _ => by rw [hne]⟩

/-- The queue of CH 28 is of no port. -/
theorem updQueue (b : Block) (f : NetCh → NetCh) : b.Passes p (b.updNet 28 f) :=
  of_same (.updNet b 28 f (by simp [switchParts, bus_mem_buses])) (updNet_ne b f (by omega))

theorem tables {n : NetSt} (hch : n.ch = b.net.ch) (hkept : n.kept = b.net.kept) : b.Passes p { b with net := n } :=
  of_same (.netTables hch hkept (by simp [switchParts])) (by simp [nch, hch])

end Passes

/-! ### Ports -/

theorem send_passes (b : Block) (o : Out) : b.Passes p (b.send o) := .of_same (.send b o) rfl

theorem portSend_passes {q : Nat} (hq : q < 4) (hlink : b.flag F.ETH_PSTAT_LINK q = true) : b.Passes p (b.portSend q) :=
  (Passes.updPort b hq (fun c => { c with egress := [] }) rfl hlink).trans (.foldl _ _ (fun _ _ c => send_passes c _) _)

theorem ethOut_passes {q : Nat} (hq : q < 4) (pcp : Nat) (data : List Byte) (b : Block) : b.Passes p (b.ethOut q pcp data) := by
  unfold ethOut
  dsimp only
  refine .ite _ (fun _ => .satF b F.ETH_CNT_DROP q _ (cnt_mem_switchRegs (by omega))) fun hup => ?_
  have hlink : b.flag F.ETH_PSTAT_LINK q = true := by
    simp only [ethUp, Bool.not_eq_true, Bool.not_eq_false', Bool.and_eq_true] at hup
    exact hup.2
  exact (Passes.updPort b hq (fun c => { c with last := some (macAt data 6), idle := false, egress := c.egress ++ [(pcp / 2, data)] })
    rfl hlink).trans (.ite _ (fun _ => .refl _) fun _ => portSend_passes hq hlink)

theorem ethDrop_passes {q : Nat} (hq : q < 5) (b : Block) : b.Passes p (b.ethDrop q) :=
  .ite _ (fun _ => .refl b) fun _ => .satF b F.ETH_CNT_DROP q _ (cnt_mem_switchRegs hq)

/-! ### The switch -/

/-- The port that a source address is learned at (R342). -/
def learnMac (q src : Nat) (b : Block) : Block :=
  if isGroup src then b
  else if b.net.mac.any (fun m => m.1 == src) then
    { b with net := { b.net with mac := b.net.mac.map fun m => if m.1 == src then (src, q) else m } }
  else if b.net.mac.length < 2048 then { b with net := { b.net with mac := (src, q) :: b.net.mac } } else b

theorem learnMac_passes (q src : Nat) (b : Block) : b.Passes p (b.learnMac q src) :=
  .ite _ (fun _ => .refl b) fun _ => .ite _ (fun _ => .tables rfl rfl) fun _ => .ite _ (fun _ => .tables rfl rfl) fun _ => .refl b

theorem forward_passes (goes : Nat → Bool) (pcp : Nat) (out : Nat → List Byte) (b : Block) :
    b.Passes p (forN 4 (fun q b => if goes q then b.ethOut q pcp (out q) else b) b) :=
  .foldl _ _ (fun _ hq c => .ite _ (fun _ => ethOut_passes (List.mem_range.mp hq) pcp _ c) fun _ => .refl c) b

theorem switchFrame_passes {q : Nat} (hq : q < 5) (data : List Byte) (b : Block) : b.Passes p (b.switchFrame q data).1 := by
  unfold switchFrame
  split
  · exact ethDrop_passes hq b
  · refine (learnMac_passes q (macAt data 6) b).trans ?_
    dsimp only
    generalize hlearned : b.learnMac q (macAt data 6) = c
    simp only [learnMac] at hlearned
    rw [hlearned]
    split
    · exact ethDrop_passes hq c
    · split <;> dsimp only
      · exact (forward_passes _ _ _ c).trans (.wrapF _ F.ETH_CNT_RXFR 4 1 (cnt_mem_switchRegs (p := 4) (by decide)))
      · exact forward_passes _ _ _ c

/-! ### The queue of CH 28 -/

theorem gwAged_passes (t : TxItem) (b : Block) : b.Passes p (b.gwAged 28 t) := by
  have hcount : b.Passes p ((b.txRemove 28 2 t).gwDrop 28) :=
    (Passes.updQueue b _).trans (.satF _ F.GW_POUT_DROP 28 _ (pout_mem_switchRegs (by decide)))
  refine hcount.trans fun ht => ?_
  have hstick : ((b.txRemove 28 2 t).gwDrop 28).Within [R.GW_STAT.at 0] [] (b.gwAged 28 t) :=
    stick_stays (f := F.GW_STAT_AGEDROP) (n := 0) _ (List.mem_singleton_self _) (by decide) ht (by decide)
  have hsame := hstick.beside.nch_eq (ch := 24 + p) List.not_mem_nil
  exact Passes.of_same (hstick.mono (by decide) (List.nil_subset _)) hsame ht

/-- The sequence number of the frames to a destination (R373). -/
def countSeq (d : Nat) (b : Block) : Block :=
  { b with net := { b.net with seq := Tab.put b.net.seq d ((Tab.get 0 b.net.seq d + 1) % 256) } }

theorem countSeq_passes (d : Nat) (b : Block) : b.Passes p (b.countSeq d) := .tables rfl rfl

theorem ethDrain_passes (k : Nat) (b : Block) : b.Passes p (b.ethDrain k) := by
  induction k generalizing b with
  | zero => exact .refl b
  | succ k ih =>
      unfold ethDrain
      split
      · exact .refl b
      · next t _ _ =>
          refine .ite _ (fun _ => (gwAged_passes t b).trans (ih _)) fun _ => ?_
          dsimp only
          refine .ite _ (fun _ => .refl b) fun _ => Passes.trans ?_ (ih _)
          have hleft : b.Passes p (b.txRemove 28 2 t) := .updQueue b _
          refine (hleft.trans (countSeq_passes t.dest _)).trans ?_
          exact (switchFrame_passes (by decide) _ _).trans
            (.wrapF _ F.GW_POUT_OUT 28 1 (pout_mem_switchRegs (ch := 28) (by decide)))

theorem ethGo_passes (b : Block) : b.Passes p b.ethGo := ethDrain_passes _ b

end Passing

end Block

end Sys2Proof.Machine
end

section
/-! PROOFS. The link of a port and the beacons that it hears: what a command sets there stays as frames pass the switch. -/
namespace Sys2Proof.Machine

namespace Block

/-! ### The status register of a port -/

section PortStatus

variable {p : Fin 4} {f g : RegField} {v : Nat} {b : Block}

theorem port_reg (hf : f.reg = R.ETH_PSTAT) : f.reg = statReg (24 + p) := by
  have hport : statReg (24 + p.val) = R.ETH_PSTAT := statReg_port ⟨p, by omega⟩
  rw [hf, hport]

theorem netIdx_port4 (p : Fin 4) : netIdx (24 + p) = p := netIdx_port ⟨p, by omega⟩

theorem statAt_port4 (p : Fin 4) : statAt (24 + p) = R.ETH_PSTAT.at p := statAt_eth ⟨p, by omega⟩

theorem portStick_within (hf : f.reg = R.ETH_PSTAT) (ht : b.Tame) : b.Within [R.ETH_PSTAT.at p] [] (b.xstick f (24 + p)) := by
  rw [← statAt_port4]
  exact xstick_within (port_reg hf) (by omega) ht

theorem portStick_same (hf : f.reg = R.ETH_PSTAT) (hbit : f.hi = f.lo) (ht : b.Tame) : (b.xstick f (24 + p)).getF f p = 1 := by
  have hset := xstick_same (ch := 24 + p) (port_reg hf) hbit (by omega) ht
  rwa [netIdx_port4] at hset

theorem portStick_beside (hf : f.reg = R.ETH_PSTAT) (hg : g.reg = R.ETH_PSTAT) (hbit : f.hi = f.lo) (h : f.hi < g.lo ∨ g.hi < f.lo)
    (ht : b.Tame) : (b.xstick f (24 + p)).getF g p = b.getF g p := by
  have hset := xstick_beside (ch := 24 + p) (port_reg hf) (port_reg hg) hbit h (by omega) ht
  rwa [netIdx_port4] at hset

theorem of_port (f : NetField) (p : Fin 4) : f.of (24 + p) = f.eth := by
  unfold NetField.of
  rw [if_neg (by omega), if_neg (by omega)]

theorem pstat_readyReg : ∀ p : Fin 4, readyReg (R.ETH_PSTAT.at p) = false := by decide

theorem portDiag_within (v : Nat) (ht : b.Tame) : b.Within [R.ETH_PSTAT.at p] [] (b.netDiag (24 + p) v) := by
  rw [← statAt_port4]
  exact netDiag_stays (by omega) (List.mem_singleton_self _) v b ht (by simpa using statAt_readyReg (by omega))

/-- A result of the cable test leaves the other fields of the port. -/
theorem portDiag_beside (hg : g.reg = R.ETH_PSTAT) (hdiag : F.ETH_PSTAT_CABDIAG.hi < g.lo ∨ g.hi < F.ETH_PSTAT_CABDIAG.lo)
    (hflag : F.ETH_PSTAT_CABF.hi < g.lo ∨ g.hi < F.ETH_PSTAT_CABF.lo) (v : Nat) (ht : b.Tame) :
    (b.netDiag (24 + p) v).getF g p = b.getF g p := by
  have hset : (b.nset N.diag (24 + p) v).getF g p = b.getF g p := by
    rw [nset, of_port, netIdx_port4]
    exact getF_setF_beside b F.ETH_PSTAT_CABDIAG g p v hg (by decide) hdiag
  have htame : (b.nset N.diag (24 + p) v).Tame := nset_tame diag_inStat (by omega) v ht
  unfold netDiag
  dsimp only
  split
  · exact hset
  · rw [nstick, of_port]
    exact (portStick_beside rfl hg rfl hflag htame).trans hset

end PortStatus

/-! ### Beacons -/

section Beacon

variable {l : List Nat} {ps : List Part} {p : Fin 4} {b : Block}

theorem sendAll_within {α : Type} (o : α → Out) (xs : List α) (b : Block) : b.Within l ps (xs.foldl (fun b x => b.send (o x)) b) :=
  .foldl _ _ (fun x _ c => .send c (o x)) b

theorem portSend_within (p : Nat) (b : Block) (h : .bus (24 + p) ∈ ps) : b.Within l ps (b.portSend p) :=
  (Within.updNet b (24 + p) _ h).trans (sendAll_within _ _ _)

theorem beaconBack_within (p : Nat) (b : Block) (h : .bus (24 + p) ∈ ps) : b.Within l ps (b.beaconBack p) :=
  (Within.updNet b (24 + p) _ h).trans (portSend_within p _ h)

theorem portSend_nch (p : Nat) (b : Block) : (b.portSend p).nch (24 + p) = { b.nch (24 + p) with egress := [] } := by
  have hsent := (sendAll_within (l := []) (ps := []) (fun f : Nat × List Byte => Out.eth p f.2)
    ([3, 2, 1, 0].flatMap fun k => (b.nch (24 + p)).egress.filter fun f => f.1 == k)
    (b.updNet (24 + p) fun c => { c with egress := [] })).beside.nch_eq (ch := 24 + p) List.not_mem_nil
  exact hsent.trans (updNet_same ..)

theorem beaconBack_noBeacon (p : Nat) (b : Block) : ((b.beaconBack p).nch (24 + p)).noBeacon = false := by
  rw [beaconBack, portSend_nch, updNet_same]

end Beacon

/-! ### The loss of a link -/

section Loss

variable {p : Fin 4} {b : Block}

/-- A port without its link: the frames in its queues are lost (R345). -/
def dropLink (p : Nat) (b : Block) : Block :=
  ((b.setF F.ETH_PSTAT_LINK p 0).satF F.ETH_CNT_DROP p (b.nch (24 + p)).egress.length).updNet (24 + p) fun c => { c with egress := [] }

theorem linkLoss_of_up {cab : Nat} (hlink : b.flag F.ETH_PSTAT_LINK p = true) :
    b.linkLoss p cab = ((b.dropLink p).xstick F.ETH_PSTAT_LINKDN (24 + p)).netDiag (24 + p) cab := by
  unfold linkLoss
  rw [if_neg (by simp [hlink])]
  rfl

/-- The registers of the loss of a link. -/
def lossRegs : List Nat := offsOf [R.ETH_CNT, R.ETH_PSTAT]

theorem lossRegs_readyReg : ∀ x ∈ lossRegs, readyReg x = false := by decide

theorem lossRegs_mem : ∀ p : Fin 4, R.ETH_CNT.at p ∈ lossRegs ∧ R.ETH_PSTAT.at p ∈ lossRegs := by decide

theorem pstat_ne_cnt : ∀ p : Fin 4, R.ETH_PSTAT.at p ≠ R.ETH_CNT.at p := by decide

theorem dropLink_within (p : Fin 4) (b : Block) : b.Within lossRegs closeParts (b.dropLink p) := by
  obtain ⟨hcnt, hstat⟩ := lossRegs_mem p
  exact ((Within.setF b F.ETH_PSTAT_LINK p 0 hstat).trans (.satF _ F.ETH_CNT_DROP p _ hcnt)).trans
    (.updNet _ (24 + p) _ (by simp [closeParts, bus_mem_buses (show 24 + p.val < 29 by omega)]))

theorem dropLink_effect (p : Fin 4) (b : Block) :
    (b.dropLink p).getF F.ETH_PSTAT_LINK p = 0 ∧ ((b.dropLink p).nch (24 + p)).egress = [] := by
  refine ⟨?_, by rw [dropLink, updNet_same]⟩
  rw [dropLink, updNet_getF, satF, getF_setF_other _ F.ETH_CNT_DROP F.ETH_PSTAT_LINK p p _ (pstat_ne_cnt p),
    getF_setF_lt _ F.ETH_PSTAT_LINK p (by decide) (by decide)]

/-- The loss of a link shows with its sticky bit and the result of the cable test (R345). -/
theorem linkLoss_effect (cab : Fin 5) (ht : b.Tame) (hlink : b.flag F.ETH_PSTAT_LINK p = true) :
    b.Within lossRegs closeParts (b.linkLoss p cab) ∧ (b.linkLoss p cab).getF F.ETH_PSTAT_LINK p = 0 ∧
      (b.linkLoss p cab).getF F.ETH_PSTAT_LINKDN p = 1 ∧ (b.linkLoss p cab).nget N.diag (24 + p) = cab ∧
      ((b.linkLoss p cab).nch (24 + p)).egress = [] := by
  have hdrop := dropLink_within p b
  obtain ⟨hdown, hempty⟩ := dropLink_effect p b
  obtain ⟨-, hstat⟩ := lossRegs_mem p
  rw [linkLoss_of_up hlink]
  generalize b.dropLink p = c at *
  have hc : c.Tame := hdrop.tame lossRegs_readyReg ht
  have hstick : c.Within [R.ETH_PSTAT.at p] [] (c.xstick F.ETH_PSTAT_LINKDN (24 + p)) := portStick_within rfl hc
  have hd : (c.xstick F.ETH_PSTAT_LINKDN (24 + p)).Tame := hstick.tame (by simpa using pstat_readyReg p) hc
  have hdiag := portDiag_within (p := p) cab hd
  obtain ⟨hresult, -⟩ := netDiag_effect (show 24 + p.val < 29 by omega) (cable_fits ⟨p, by omega⟩ cab) hd
  refine ⟨(hdrop.trans (hstick.mono (by simpa using hstat) (List.nil_subset _))).trans
    (hdiag.mono (by simpa using hstat) (List.nil_subset _)), ?_, ?_, hresult, ?_⟩
  · rw [portDiag_beside rfl (by decide) (by decide) _ hd, portStick_beside rfl rfl rfl (by decide) hc, hdown]
  · rw [portDiag_beside rfl (by decide) (by decide) _ hd, portStick_same rfl rfl hc]
  · rw [hdiag.beside.nch_eq List.not_mem_nil, hstick.beside.nch_eq List.not_mem_nil, hempty]

end Loss

end Block

/-! ### The commands -/

section LinkCommands

open Block

variable (s : State)

/-- The registers of the statements about a link and about the beacons. -/
def linkRegs : List Nat := offsOf (Regs.answers ++ [R.ETH_CNT, R.ETH_PSTAT, R.GW_POUT, R.GW_STAT])
def beaconRegs : List Nat := offsOf (Regs.answers ++ [R.CAN_STAT, R.ETH_CNT, R.ETH_PSTAT, R.GW_POUT, R.GW_STAT, R.LIN_STAT])

theorem switchParts_subset : switchParts ⊆ closeParts := by
  intro q hq
  simp only [switchParts, closeParts, List.mem_append, List.mem_cons] at hq ⊢
  tauto

theorem offsOf_subset {l m : List Reg} (h : l ⊆ m) : offsOf l ⊆ offsOf m := fun _ hx => by
  obtain ⟨r, hr, hx⟩ := List.mem_flatMap.mp hx
  exact mem_offsOf (h hr) hx

theorem beaconRegs_readyReg : ∀ x ∈ beaconRegs, readyReg x = false := by
  have hsplit : beaconRegs ⊆ drainRegs ++ (statRegs ++ switchRegs) := by
    simp only [drainRegs, statRegs, switchRegs, offsOf, ← List.flatMap_append]
    exact offsOf_subset (by simp [Regs.answers])
  intro x hx
  rcases List.mem_append.mp (hsplit hx) with hx | hx
  · exact drainRegs_readyReg x hx
  · rcases List.mem_append.mp hx with hx | hx
    · exact statRegs_readyReg x hx
    · exact switchRegs_readyReg x hx

theorem linkRegs_readyReg : ∀ x ∈ linkRegs, readyReg x = false := fun x hx =>
  beaconRegs_readyReg x (offsOf_subset (by simp [Regs.answers]) hx)

theorem switchRegs_subset_linkRegs : switchRegs ⊆ linkRegs := offsOf_subset (by simp)

theorem switchRegs_subset_beaconRegs : switchRegs ⊆ beaconRegs := offsOf_subset (by simp)

theorem pstat_mem_linkRegs (p : Fin 4) : R.ETH_PSTAT.at p ∈ linkRegs :=
  mem_offsOf (r := R.ETH_PSTAT) (by simp) (mem_offs _ _ (by have : R.ETH_PSTAT.count = 5 := rfl; omega))

theorem pstat_mem_beaconRegs (p : Fin 4) : R.ETH_PSTAT.at p ∈ beaconRegs :=
  mem_offsOf (r := R.ETH_PSTAT) (by simp) (mem_offs _ _ (by have : R.ETH_PSTAT.count = 5 := rfl; omega))

theorem bus_mem_closeParts {ch : Nat} (hch : ch < 29) : .bus ch ∈ closeParts := by simp [closeParts, bus_mem_buses hch]

/-- A command on a port after which the queue of CH 28 goes on: what it sets in the status of the port stays, with the beacons and,
without a link, the queues of the port. -/
theorem completes_of_passing {c : Instr} {f : Block → Block} {E : Block → Prop} {l : List Nat} {p : Fin 4}
    (hx : exec c s = s.act fun b => (f b).ethGo) (hready : s.blk.Ready) (hl : ∀ x ∈ l, readyReg x = false) (hswitch : switchRegs ⊆ l)
    (hw : s.blk.Within l closeParts (f s.blk))
    (he : ∀ b : Block, (f s.blk).Within switchRegs switchParts b →
      (b.nch (24 + p)).noBeacon = ((f s.blk).nch (24 + p)).noBeacon →
      ((f s.blk).flag F.ETH_PSTAT_LINK p = false → (b.nch (24 + p)).egress = ((f s.blk).nch (24 + p)).egress) →
      s.blk.Beside l closeParts b → E b) : Completes c s E := by
  obtain ⟨hpass, hbeacon, hheld⟩ := ethGo_passes (p := p) (f s.blk) (hw.tame hl hready.2.1)
  have hall := hw.trans (hpass.mono hswitch switchParts_subset)
  exact completes_of_within hx hready hall hl pw_not_mem_closeParts (he _ hpass hbeacon hheld hall.beside)

theorem completes_ethLinkUp (p : Fin 4) (inv : Bool) (hready : s.blk.Ready)
    (hstate : s.blk.nstate (24 + p) = 1 ∨ s.blk.nstate (24 + p) = 3) :
    Completes (.ethLinkUp p inv) s fun b => (b.getF F.ETH_PSTAT_LINK p = 1 ∧
      (inv = true → p.val < 2 → b.getF F.ETH_PSTAT_POLINV p = 1)) ∧
      s.blk.Beside (offsOf (Regs.answers ++ [R.ETH_CNT, R.ETH_PSTAT, R.GW_POUT, R.GW_STAT]))
        ([Part.kept, Part.net] ++ Part.buses ++ Part.answers) b := by
  have hset : s.blk.Within [R.ETH_PSTAT.at p] closeParts (s.blk.setF F.ETH_PSTAT_LINK p 1) :=
    .setF s.blk F.ETH_PSTAT_LINK p 1 (List.mem_singleton_self _)
  have hback : (s.blk.setF F.ETH_PSTAT_LINK p 1).Within [] closeParts ((s.blk.setF F.ETH_PSTAT_LINK p 1).beaconBack p) :=
    beaconBack_within p _ (bus_mem_closeParts (by omega))
  have heffect : s.blk.linkUp p inv = if inv && decide (p.val < 2) then
      ((s.blk.setF F.ETH_PSTAT_LINK p 1).beaconBack p).xstick F.ETH_PSTAT_POLINV (24 + p)
      else (s.blk.setF F.ETH_PSTAT_LINK p 1).beaconBack p := by
    unfold linkUp
    rw [if_neg (by rcases hstate with h | h <;> simp [h])]
  have hlink : ((s.blk.setF F.ETH_PSTAT_LINK p 1).beaconBack p).getF F.ETH_PSTAT_LINK p = 1 :=
    (hback.getF_eq (f := F.ETH_PSTAT_LINK) List.not_mem_nil (pstat_recordReg p)).trans
      (getF_setF_lt _ F.ETH_PSTAT_LINK p (by decide) (by decide))
  have hup := hset.trans (hback.mono (List.nil_subset _) (List.Subset.refl _))
  generalize (s.blk.setF F.ETH_PSTAT_LINK p 1).beaconBack p = c at *
  have htame : c.Tame := hup.tame (by simpa using pstat_readyReg p) hready.2.1
  have hstick : c.Within [R.ETH_PSTAT.at p] [] (c.xstick F.ETH_PSTAT_POLINV (24 + p)) := portStick_within rfl htame
  have hw : s.blk.Within [R.ETH_PSTAT.at p] closeParts (s.blk.linkUp p inv) :=
    heffect ▸ hup.trans (.ite _ (hstick.mono (List.Subset.refl _) (List.nil_subset _)) (.refl c))
  refine completes_of_passing s (p := p) (f := fun b => b.linkUp p inv) rfl hready linkRegs_readyReg switchRegs_subset_linkRegs
    (hw.mono (by simpa using pstat_mem_linkRegs p) (List.Subset.refl _)) fun b hpass _ _ hb => ⟨⟨?_, fun hinv hport => ?_⟩, hb⟩
  · rw [pstat_eq hpass rfl, heffect]
    split
    · rw [portStick_beside rfl rfl rfl (by decide) htame, hlink]
    · exact hlink
  · rw [pstat_eq hpass rfl, heffect, if_pos (by simp [hinv, hport]), portStick_same rfl rfl htame]

theorem completes_ethLinkLoss (p : Fin 4) (cab : Fin 5) (hready : s.blk.Ready) (hlink : s.blk.flag F.ETH_PSTAT_LINK p = true) :
    Completes (.ethLinkLoss p cab) s fun b => b.getF F.ETH_PSTAT_LINK p = 0 ∧ b.getF F.ETH_PSTAT_LINKDN p = 1 ∧
      b.nget N.diag (24 + p) = cab ∧ (b.nch (24 + p)).egress = [] ∧
      s.blk.Beside (offsOf (Regs.answers ++ [R.ETH_CNT, R.ETH_PSTAT, R.GW_POUT, R.GW_STAT]))
        ([Part.kept, Part.net] ++ Part.buses ++ Part.answers) b := by
  obtain ⟨hw, hdown, hnoted, hresult, hempty⟩ := linkLoss_effect cab hready.2.1 hlink
  have hflag : (s.blk.linkLoss p cab).flag F.ETH_PSTAT_LINK p = false := by simp [flag, hdown]
  refine completes_of_passing s (p := p) (f := fun b => b.linkLoss p cab) rfl hready linkRegs_readyReg switchRegs_subset_linkRegs
    (hw.mono (offsOf_subset (by simp)) (List.Subset.refl _)) fun b hpass _ hheld hb => ⟨?_, ?_, ?_, ?_, hb⟩
  · rw [pstat_eq hpass rfl, hdown]
  · rw [pstat_eq hpass rfl, hnoted]
  · rw [hpass.beside.nget_eq diag_inStat (by omega) (by rw [statAt_port4]; exact pstat_not_mem_switchRegs p), hresult]
  · rw [hheld hflag, hempty]

theorem completes_plcaBeaconTimeout (p : Beacons) (hready : s.blk.Ready) (hback : p.back = false) (hport : 2 ≤ p.port.val)
    (hstate : s.blk.nstate (24 + p.port) = 1 ∨ s.blk.nstate (24 + p.port) = 3) (hplca : s.blk.flag F.ETH_PCFG_PLCA p.port = true)
    (hfollower : s.blk.getF F.ETH_PCFG_PLCAID p.port ≠ 0) :
    Completes (.plcaBeaconTimeout p) s fun b => (b.nch (24 + p.port)).noBeacon = true ∧ b.getF F.ETH_PSTAT_PLCAERR p.port = 1 ∧
      s.blk.Beside (offsOf (Regs.answers ++ [R.CAN_STAT, R.ETH_CNT, R.ETH_PSTAT, R.GW_POUT, R.GW_STAT, R.LIN_STAT]))
        ([Part.kept, Part.net] ++ Part.buses ++ Part.answers) b := by
  have hother : isT1 (24 + p.port.val) = false := by
    simp only [isT1, decide_eq_false_iff_not]
    omega
  have heffect : s.blk.beaconTimeout p.port p.back =
      (s.blk.updNet (24 + p.port) fun c => { c with noBeacon := true }).xstick F.ETH_PSTAT_PLCAERR (24 + p.port) := by
    unfold beaconTimeout
    rw [hback, if_neg (by decide), if_pos (by rcases hstate with h | h <;> simp [hother, h, hplca, hfollower])]
  have hnote : s.blk.Within [] closeParts (s.blk.updNet (24 + p.port) fun c => { c with noBeacon := true }) :=
    .updNet s.blk _ _ (bus_mem_closeParts (by omega))
  have hmute : ((s.blk.updNet (24 + p.port) fun c => { c with noBeacon := true }).nch (24 + p.port)).noBeacon = true := by
    rw [updNet_same]
  generalize (s.blk.updNet (24 + p.port) fun c => { c with noBeacon := true }) = c at *
  have htame : c.Tame := hnote.tame (by simp) hready.2.1
  have hstick : c.Within [R.ETH_PSTAT.at p.port] [] (c.xstick F.ETH_PSTAT_PLCAERR (24 + p.port)) := portStick_within rfl htame
  have hw : s.blk.Within beaconRegs closeParts (s.blk.beaconTimeout p.port p.back) :=
    heffect ▸ (hnote.mono (List.nil_subset _) (List.Subset.refl _)).trans
      (hstick.mono (by simpa using pstat_mem_beaconRegs p.port) (List.nil_subset _))
  refine completes_of_passing s (p := p.port) (f := fun b => b.beaconTimeout p.port p.back) rfl hready beaconRegs_readyReg
    switchRegs_subset_beaconRegs hw fun b hpass hbeacon _ hb => ⟨?_, ?_, hb⟩
  · rw [hbeacon, heffect, hstick.beside.nch_eq List.not_mem_nil, hmute]
  · rw [pstat_eq hpass rfl, heffect, portStick_same rfl rfl htame]

theorem completes_plcaBeaconTimeout_back (p : Beacons) (hready : s.blk.Ready) (hback : p.back = true)
    (hmute : (s.blk.nch (24 + p.port)).noBeacon = true) :
    Completes (.plcaBeaconTimeout p) s fun b => (b.nch (24 + p.port)).noBeacon = false ∧
      s.blk.Beside (offsOf (Regs.answers ++ [R.CAN_STAT, R.ETH_CNT, R.ETH_PSTAT, R.GW_POUT, R.GW_STAT, R.LIN_STAT]))
        ([Part.kept, Part.net] ++ Part.buses ++ Part.answers) b := by
  have heffect : s.blk.beaconTimeout p.port p.back = s.blk.beaconBack p.port := by simp [beaconTimeout, hback, hmute]
  have hw : s.blk.Within beaconRegs closeParts (s.blk.beaconTimeout p.port p.back) :=
    heffect ▸ beaconBack_within _ _ (bus_mem_closeParts (by omega))
  refine completes_of_passing s (p := p.port) (f := fun b => b.beaconTimeout p.port p.back) rfl hready beaconRegs_readyReg
    switchRegs_subset_beaconRegs hw fun b _ hbeacon _ hb => ⟨?_, hb⟩
  rw [hbeacon, heffect, beaconBack_noBeacon]

end LinkCommands

/-- Settles O19: an enable opens its channel in its first state, a disable ends what waits on the channel and forgets the rest, and
an event of a bus or a link sets the status of its channel; what then passes the switch leaves that status. -/
theorem networkChannels : Obligations.NetworkChannels := by
  unfold Obligations.NetworkChannels
  exact ⟨completes_canEnable, completes_canDisable, completes_linEnable, completes_linDisable, completes_ethPortEnable,
    completes_ethPortEnable_port4, completes_ethPortDisable, completes_ethPortDisable_port4, completes_canBusError,
    completes_busOffRecoveryDone, completes_busDiagMeasure, completes_ethLinkUp, completes_ethLinkLoss,
    completes_plcaBeaconTimeout, completes_plcaBeaconTimeout_back, completes_addressAgeOut⟩

end Sys2Proof.Machine
end

section
/-! PROOFS. The host link and the host queues: a link-down without power at PD8 changes nothing; a queue in ERROR dispatches
nothing; and the outcome that NOP reports is looked for in the last completion to its source, which can be that of another descriptor. -/
namespace Sys2Proof.Machine

/-! ### A link-down without PD8 -/

theorem exec_linkDown (s : State) : exec .linkDown s = s.act Block.linkDown := rfl

/-- Without power at PD8 there is no link that could go down (R45, R67). -/
theorem Block.linkDown_of_unpowered {b : Block} (h : b.pg 8 = false) : b.linkDown = b := if_pos (by simp [h])

/-- So LINK_DOWN leaves a ready state as it is. -/
theorem exec_linkDown_of_unpowered {s : State} (hready : s.blk.Ready) (h : s.blk.pg 8 = false) :
    exec .linkDown s = .next s := by
  have heffect := Block.linkDown_of_unpowered h
  rw [exec_linkDown, State.act_calm _ s (by rw [heffect]; exact hready.1), heffect]

/-- Every domain but PD8 is at power good. -/
def unpoweredLinkBench : Block := bench.setF F.PWR_DOMSTAT_PG 0 0x3EFF

theorem unpoweredLinkBench_ready : unpoweredLinkBench.Ready := ready_pg bench 0x3EFF (by decide) bench_ready

/-- Refutes O26: the clause of LINK_DOWN does not ask that PD8 is at power good. In `unpoweredLinkBench` there is no link, and
DOWNX stays 0. -/
theorem not_hostLink : ¬ Obligations.HostLink := by
  unfold Obligations.HostLink
  intro h
  obtain ⟨-, hdown, -⟩ := h
  obtain ⟨t, ht, -, ⟨-, -, -, -, -, -, hdownx, -⟩, -⟩ := hdown { blk := unpoweredLinkBench } unpoweredLinkBench_ready
  rw [exec_linkDown_of_unpowered unpoweredLinkBench_ready (by decide +kernel)] at ht
  rw [← Host.Outcome.next.inj ht] at hdownx
  exact absurd hdownx (by decide +kernel)

/-! ### A queue in ERROR -/

theorem exec_fencedDispatch (q : Fin 64) (s : State) :
    exec (.fencedDispatch q) s = s.act fun b => b.fencedDispatch q := rfl

namespace Block

/-- A queue in ERROR dispatches none of its descriptors (R413). -/
theorem dispatchList_of_error {b : Block} {q : Nat} (herror : b.qState q = 3) (any stuck : Bool) (room : Nat) (fs : List Flight) :
    b.dispatchList q any stuck room fs = (b, fs) := by
  induction fs generalizing any stuck with
  | nil => rfl
  | cons f fs ih =>
      rw [dispatchList]
      split
      · rw [ih]
      · rw [if_neg (by simp [herror]), ih]

theorem fencedDispatch_of_error {b : Block} {q : Nat} (herror : b.qState q = 3) :
    b.fencedDispatch q = b.setFlights b.hq.flights q := by
  rw [fencedDispatch, dispatchQ, dispatchList_of_error herror]

end Block

/-- So FENCED_DISPATCH leaves the flights of a ready state as they are. -/
theorem exec_fencedDispatch_of_error {s t : State} {q : Fin 64} (hready : s.blk.Ready) (herror : s.blk.qState q = 3)
    (ht : exec (.fencedDispatch q) s = .next t) : t.blk.hq.flights = s.blk.hq.flights := by
  have hcalm : (s.blk.setFlights s.blk.hq.flights q).Calm :=
    (Block.setFlights_within s.blk.hq.flights q s.blk).calm (by decide) (by decide) hready.1
  rw [exec_fencedDispatch] at ht
  rw [State.act_blk _ s t ht, Block.fencedDispatch_of_error herror, Block.endCommand_calm _ hcalm]
  rfl

/-- A fenced NOP of queue 3 that has arrived. -/
def waitingNop : Flight := { q := 3, desc := { src := .queue 3, dws := [0x100], payload := [] }, stage := .arrived }

/-- `waitingNop` waits to be dispatched, and queue 3 is in ERROR, as the fetch of a descriptor behind it has failed (R413). -/
def errorQueueBench : Block := { bench.setF F.HQ_QSTAT_STATE 3 3 with hq := { flights := [waitingNop] } }

theorem errorQueueBench_ready : errorQueueBench.Ready :=
  ready_congr (b := bench.setF F.HQ_QSTAT_STATE 3 3) (ready_setF _ F.HQ_QSTAT_STATE 3 3 (by decide) bench_ready) rfl rfl rfl

/-- Refutes O28: the clause of FENCED_DISPATCH for a descriptor that nothing stands before does not ask that its queue is not in
ERROR. In `errorQueueBench` it is, and the descriptor stays where it is. -/
theorem not_queueTraffic : ¬ Obligations.QueueTraffic := by
  unfold Obligations.QueueTraffic
  intro h
  obtain ⟨-, -, -, -, hdispatch, -⟩ := h
  obtain ⟨t, ht, -, hflights, -⟩ := hdispatch { blk := errorQueueBench } 3 waitingNop errorQueueBench_ready rfl rfl rfl rfl
    (by decide) (by decide) (by decide +kernel) (by decide +kernel)
  have hstays := exec_fencedDispatch_of_error errorQueueBench_ready (by decide +kernel) ht
  exact absurd (hstays.symm.trans hflights) (by decide +kernel)

/-! ### The outcome of NOP -/

theorem exec_nop (d : Desc) (s : State) : exec (.nop d) s = s.act fun b => runDesc d Block.sysNop b := rfl

/-- NOP from queue 2 of node 1. -/
def nopDesc : Desc := { src := .node 1 2, dws := [0], payload := [] }

/-- The OK goes out of CHB at once; the BUSY of an earlier descriptor, which waits at CHA for a buffer of the neighbour, stands
behind it (R428, R429). -/
theorem waitingComplBench_nop_outcome :
    (runDesc nopDesc Block.sysNop waitingComplBench).endCommand.outcomeTo (1 : Fin 64) (2 : Fin 64) =
      some { status := St.busy } := by
  decide +kernel

/-- Refutes O29: the clause of NOP takes the outcome from the last completion to the source of the descriptor, and counts the
frames that wait at a port after those that have gone out. In `waitingComplBench` that is an earlier one, with BUSY. -/
theorem not_systemDescriptors : ¬ Obligations.SystemDescriptors := by
  unfold Obligations.SystemDescriptors
  intro h
  obtain ⟨hnop, -⟩ := h
  obtain ⟨t, ht, -, hanswered, -⟩ := hnop { blk := waitingComplBench } nopDesc waitingComplBench_ready
    ⟨fun direct => by cases direct <;> decide, by decide⟩ ⟨by decide, by decide⟩ (by decide)
  rw [exec_nop] at ht
  have hlast : t.blk.outcomeTo (1 : Fin 64) (2 : Fin 64) = some { status := St.busy } := by
    rw [State.act_blk _ _ t ht]
    exact waitingComplBench_nop_outcome
  rw [Block.answered_of_node rfl (by decide) hlast] at hanswered
  exact absurd hanswered (by decide)

end Sys2Proof.Machine
end

section
/-! PROOFS. The host queues: a command to a queue changes its own registers, its flights or the record of its rings, and an index
or a size that is refused sets a status bit and raises EV225, which is only recorded. -/
namespace Sys2Proof.Machine

namespace Block

/-! ### The registers of a queue -/

@[simp] theorem qcfg_readyReg : ∀ q : Fin 64, readyReg (R.HQ_QCFG.at q) = false := by decide

@[simp] theorem qstat_readyReg : ∀ q : Fin 64, readyReg (R.HQ_QSTAT.at q) = false := by decide

@[simp] theorem qidx_readyReg : ∀ q : Fin 64, readyReg (R.HQ_QIDX.at q) = false := by decide

@[simp] theorem eqcfg_readyReg : ∀ e : Fin 8, readyReg (R.HQ_EQCFG.at e) = false := by decide

theorem qstat_recordReg : ∀ q : Fin 64, recordReg (R.HQ_QSTAT.at q) = false := by decide

theorem eqstat_recordReg : ∀ e : Fin 8, recordReg (R.HQ_EQSTAT.at e) = true := by decide

theorem eqidx_recordReg : ∀ e : Fin 8, recordReg (R.HQ_EQIDX.at e) = true := by decide

theorem qcfg_ne_qstat (q r : Nat) : R.HQ_QCFG.at q ≠ R.HQ_QSTAT.at r := by
  simp only [Reg.at, R.HQ_QCFG, R.HQ_QSTAT]
  omega

theorem qidx_ne_qstat (q r : Nat) : R.HQ_QIDX.at q ≠ R.HQ_QSTAT.at r := by
  simp only [Reg.at, R.HQ_QIDX, R.HQ_QSTAT]
  omega

theorem eqcfg_ne_eqstat (e r : Nat) : R.HQ_EQCFG.at e ≠ R.HQ_EQSTAT.at r := by
  simp only [Reg.at, R.HQ_EQCFG, R.HQ_EQSTAT]
  omega

/-! ### Updates of the queues -/

namespace Within

variable {l : List Nat} {ps : List Part}

/-- A change of what the queues hold beside their flights and the mailbox. -/
theorem queues {b : Block} {h : HqSt} (hflights : h.flights = b.hq.flights) (hmail : h.mbox = b.hq.mbox) (hp : .queues ∈ ps) :
    b.Within l ps { b with hq := h } :=
  ⟨⟨fun _ _ _ _ => rfl, fun p hps => by
    cases p with
    | queues => exact absurd hp hps
    | _ => simp [Part.Same, hflights, hmail]⟩, rfl⟩

theorem flights {b : Block} (fs : List Flight) (hp : .flights ∈ ps) :
    b.Within l ps { b with hq := { b.hq with flights := fs } } :=
  ⟨⟨fun _ _ _ _ => rfl, fun p hps => by
    cases p with
    | flights => exact absurd hp hps
    | _ => simp [Part.Same]⟩, rfl⟩

/-- The flights of queue q and their number in its status register. -/
theorem setFlights {b : Block} (fs : List Flight) (q : Nat) (hl : R.HQ_QSTAT.at q ∈ l) (hp : .flights ∈ ps) :
    b.Within l ps (b.setFlights fs q) := (flights fs hp).trans (.setF _ F.HQ_QSTAT_INFLIGHT q _ hl)

end Within

/-! ### Phases -/

/-- PHASE of the next completion of queue q is 1 (R389). -/
def startPhase (q : Nat) (b : Block) : Block := { b with hq := { b.hq with cphase := Tab.put b.hq.cphase q true } }

/-- PHASE of the next entry of event queue e is 1 (R416). -/
def startEventPhase (e : Nat) (b : Block) : Block := { b with hq := { b.hq with ephase := Tab.put b.hq.ephase e true } }

section Phases

variable {l : List Nat} {ps : List Part} (b : Block) (n : Nat)

theorem startPhase_within (hp : .queues ∈ ps) : b.Within l ps (b.startPhase n) := .queues rfl rfl hp

theorem startPhase_getF (f : RegField) (i : Nat) : (b.startPhase n).getF f i = b.getF f i := rfl

theorem startPhase_same : Tab.get true (b.startPhase n).hq.cphase n = true := Tab.get_put_same _ _ _ _

/-- The phases of the event queues are of no part. -/
theorem startEventPhase_within : b.Within l ps (b.startEventPhase n) :=
  ⟨⟨fun _ _ _ _ => rfl, fun p _ => by cases p <;> simp [Part.Same, startEventPhase]⟩, rfl⟩

theorem startEventPhase_getF (f : RegField) (i : Nat) : (b.startEventPhase n).getF f i = b.getF f i := rfl

theorem startEventPhase_same : Tab.get true (b.startEventPhase n).hq.ephase n = true := Tab.get_put_same _ _ _ _

end Phases

/-! ### Fields of the status and index registers -/

theorem setF_qState (b : Block) (q : Nat) {v : Nat} (hv : v < 4) : (b.setF F.HQ_QSTAT_STATE q v).qState q = v :=
  getF_setF_lt b F.HQ_QSTAT_STATE q (by decide) hv

theorem setFlights_qState (b : Block) (fs : List Flight) (q : Nat) : (b.setFlights fs q).qState q = b.qState q :=
  getF_setF_beside _ F.HQ_QSTAT_INFLIGHT F.HQ_QSTAT_STATE q _ rfl (by decide) (by decide)

theorem setFlights_en (b : Block) (fs : List Flight) (q : Nat) : (b.setFlights fs q).getF F.HQ_QCFG_EN q = b.getF F.HQ_QCFG_EN q :=
  getF_setF_other _ F.HQ_QSTAT_INFLIGHT F.HQ_QCFG_EN q q _ (qcfg_ne_qstat q q)

theorem indices_head (b : Block) (q : Nat) {head : Nat} (hhead : head < 2 ^ 16) (tail : Nat) :
    ((b.setF F.HQ_QIDX_SQHEAD q head).setF F.HQ_QIDX_CQTAIL q tail).getF F.HQ_QIDX_SQHEAD q = head := by
  rw [getF_setF_beside _ F.HQ_QIDX_CQTAIL F.HQ_QIDX_SQHEAD q _ rfl (by decide) (by decide)]
  exact getF_setF_lt b F.HQ_QIDX_SQHEAD q (by decide) hhead

/-! ### EN and the state of a queue -/

/-- The configuration and the status of queue q. -/
def queueRegs (q : Nat) : List Nat := [R.HQ_QCFG.at q, R.HQ_QSTAT.at q]

theorem qcfg_mem_queueRegs (q : Nat) : R.HQ_QCFG.at q ∈ queueRegs q := by simp [queueRegs]

theorem qstat_mem_queueRegs (q : Nat) : R.HQ_QSTAT.at q ∈ queueRegs q := by simp [queueRegs]

theorem queueRegs_readyReg (q : Fin 64) : ∀ x ∈ queueRegs q, readyReg x = false := by simp [queueRegs]

section Switch

variable (b : Block) (q : Nat) (en st : Nat)

theorem switchQueue_within (ps : List Part) :
    b.Within (queueRegs q) ps ((b.setF F.HQ_QCFG_EN q en).setF F.HQ_QSTAT_STATE q st) :=
  (Within.setF b F.HQ_QCFG_EN q en (qcfg_mem_queueRegs q)).trans (.setF _ F.HQ_QSTAT_STATE q st (qstat_mem_queueRegs q))

theorem switchQueue_en (hen : en < 2) : ((b.setF F.HQ_QCFG_EN q en).setF F.HQ_QSTAT_STATE q st).getF F.HQ_QCFG_EN q = en := by
  rw [getF_setF_other _ _ _ _ _ _ (qcfg_ne_qstat q q)]
  exact getF_setF_lt b F.HQ_QCFG_EN q (by decide) hen

/-- The state of an event queue is of its record. -/
theorem switchEventQueue_within (e : Fin 8) :
    b.Within [R.HQ_EQCFG.at e] [] ((b.setF F.HQ_EQCFG_EN e en).setF F.HQ_EQSTAT_STATE e st) :=
  (Within.setF b F.HQ_EQCFG_EN e en (List.mem_singleton_self _)).trans
    (Recorded.setF _ F.HQ_EQSTAT_STATE e st (eqstat_recordReg e)).within

theorem switchEventQueue_en (hen : en < 2) :
    ((b.setF F.HQ_EQCFG_EN q en).setF F.HQ_EQSTAT_STATE q st).getF F.HQ_EQCFG_EN q = en := by
  rw [getF_setF_other _ _ _ _ _ _ (eqcfg_ne_eqstat q q)]
  exact getF_setF_lt b F.HQ_EQCFG_EN q (by decide) hen

theorem switchEventQueue_state (hst : st < 4) :
    ((b.setF F.HQ_EQCFG_EN q en).setF F.HQ_EQSTAT_STATE q st).eqState q = st :=
  getF_setF_lt _ F.HQ_EQSTAT_STATE q (by decide) hst

end Switch

/-! ### Reports of EV225 -/

section Reports

variable {b : Block} {f : RegField} {q : Fin 64} {o : Occ}

theorem report_recorded (ho : o.ev = 225) (ht : b.Tame) : Recorded b (b.raiseList [o]) :=
  raiseList_recorded [o] b ht (by simp [ho])

/-- EV225 passes no crossing: its occurrence is recorded. -/
theorem report_hasEvent (ho : o.ev = 225) (ht : b.Tame) (hpg : b.pg 1 = true) : (b.raiseList [o]).HasEvent 225 := by
  have hroom : b.xFull o = false := by rw [xFull, crossing_ev225 ho]; rfl
  have hraised := raiseAll_hasEvent 32 ht (by rw [ho]; decide) (Bool.or_eq_true_iff.mpr (.inl hpg)) hroom
  rwa [ho] at hraised

theorem report_prod (ho : o.ev = 225) (ht : b.Tame) : (b.raiseList [o]).hq.prod = b.hq.prod := by
  obtain ⟨hprod, -⟩ := (report_recorded ho ht).part .queues
  exact hprod

theorem report_chead (ho : o.ev = 225) (ht : b.Tame) : (b.raiseList [o]).hq.chead = b.hq.chead := by
  obtain ⟨-, hchead, -⟩ := (report_recorded ho ht).part .queues
  exact hchead

variable (hf : f.reg = R.HQ_QSTAT) (ho : o.ev = 225) (hready : b.Ready)

include hf hready

theorem statusBit_ready (v : Nat) : (b.setF f q v).Ready := ready_setF b f q v (by rw [hf]; exact qstat_readyReg q) hready

include ho

/-- A status bit of queue q and its report change the status register and the record. -/
theorem statusReport_within {ps : List Part} : b.Within [R.HQ_QSTAT.at q] ps ((b.setF f q 1).raiseList [o]) := by
  obtain ⟨-, htame, -⟩ := statusBit_ready (q := q) hf hready 1
  exact (Within.setF b f q 1 (by simp [hf])).trans (report_recorded ho htame).within

theorem statusReport_hasEvent : ((b.setF f q 1).raiseList [o]).HasEvent 225 := by
  obtain ⟨-, htame, -, hpg, -⟩ := statusBit_ready (q := q) hf hready 1
  exact report_hasEvent ho htame hpg

/-- The report leaves the fields of the status register as they are. -/
theorem statusReport_getF {g : RegField} (hg : g.reg = R.HQ_QSTAT) :
    ((b.setF f q 1).raiseList [o]).getF g q = (b.setF f q 1).getF g q := by
  obtain ⟨-, htame, -⟩ := statusBit_ready (q := q) hf hready 1
  exact (report_recorded ho htame).getF g q (by rw [hg]; exact qstat_recordReg q)

theorem statusReport_bit (hbit : f.hi = f.lo) : ((b.setF f q 1).raiseList [o]).getF f q = 1 := by
  rw [statusReport_getF hf ho hready hf]
  exact getF_setF_lt b f q hbit.ge (by simp [hbit])

theorem statusReport_qState (hbit : f.hi = f.lo) (habove : 1 < f.lo) :
    ((b.setF f q 1).raiseList [o]).qState q = b.qState q := by
  rw [qState, statusReport_getF hf ho hready rfl]
  exact getF_setF_beside b f F.HQ_QSTAT_STATE q 1 hf.symm hbit.ge (.inr habove)

end Reports

/-- An index that is out of range leaves the indices as they were, sets DBERR and raises EV225 (R390, R393). -/
theorem dbError_effect {b : Block} (q : Fin 64) (v : Nat) (hready : b.Ready) :
    (b.dbError q v).hq.prod = b.hq.prod ∧ (b.dbError q v).hq.chead = b.hq.chead ∧
      (b.dbError q v).getF F.HQ_QSTAT_DBERR q = 1 ∧ (b.dbError q v).HasEvent 225 := by
  obtain ⟨-, htame, -⟩ := statusBit_ready (f := F.HQ_QSTAT_DBERR) (q := q) rfl hready 1
  exact ⟨report_prod rfl htame, report_chead rfl htame, statusReport_bit rfl rfl hready rfl,
    statusReport_hasEvent rfl rfl hready⟩

theorem dbError_within {b : Block} (q : Fin 64) (v : Nat) (hready : b.Ready) {ps : List Part} :
    b.Within [R.HQ_QSTAT.at q] ps (b.dbError q v) := statusReport_within (f := F.HQ_QSTAT_DBERR) rfl rfl hready

end Block

/-! ### The commands of the queues -/

section QueueCommands

open Block

variable (s : State) (who : Who) (q : Fin 64)

/-- A queue with valid sizes is enabled (R388, R389). -/
theorem completes_queueEnable (hready : s.blk.Ready) (hwrite : s.blk.CanWrite who (R.HQ_QCFG.at q)) (hoff : s.blk.qState q = 0)
    (hsq : logOk (s.blk.getF F.HQ_QCFG_SQLOG q) = true) (hcq : logOk (s.blk.getF F.HQ_QCFG_CQLOG q) = true) :
    Completes (.queueEnable who q) s fun b => b.qState q = 1 ∧ b.getF F.HQ_QCFG_EN q = 1 ∧
      s.blk.Beside (queueRegs q) [] b := by
  have heffect : s.blk.queueEnable q = (s.blk.setF F.HQ_QCFG_EN q 1).setF F.HQ_QSTAT_STATE q 1 := by
    simp [queueEnable, hoff, hsq, hcq]
  have hw : s.blk.Within (queueRegs q) [] (s.blk.queueEnable q) := heffect ▸ switchQueue_within s.blk q 1 1 []
  refine completes_of_write (k := Block.queueEnable q) rfl hready hwrite (.of_within hw) (queueRegs_readyReg q) (by simp)
    fun hw => ⟨?_, ?_, hw.beside⟩
  · rw [heffect, setF_qState _ _ (by decide)]
  · rw [heffect, switchQueue_en _ _ _ _ (by decide)]

/-- A queue with an invalid size stays DISABLED, and CFGERR is set (R389). -/
theorem completes_queueEnable_refused (hready : s.blk.Ready) (hwrite : s.blk.CanWrite who (R.HQ_QCFG.at q))
    (hoff : s.blk.qState q = 0) (hsq : logOk (s.blk.getF F.HQ_QCFG_SQLOG q) = false) :
    Completes (.queueEnable who q) s fun b => b.qState q = 0 ∧ b.getF F.HQ_QSTAT_CFGERR q = 1 ∧ b.HasEvent 225 ∧
      s.blk.Beside [R.HQ_QSTAT.at q.val, R.HQ_QCFG.at q.val] [] b := by
  have heffect : s.blk.queueEnable q =
      (s.blk.setF F.HQ_QSTAT_CFGERR q 1).raiseList [ev225 q false 8 (s.blk.getF F.HQ_QIDX_SQHEAD q)] := by
    simp [queueEnable, enableRefused, hoff, hsq]
  have hw : s.blk.Within [R.HQ_QSTAT.at q.val] [] (s.blk.queueEnable q) := heffect ▸ statusReport_within rfl rfl hready
  refine completes_of_write (k := Block.queueEnable q) rfl hready hwrite (.of_within hw) (by simp) (by simp)
    fun hw => ⟨?_, ?_, ?_, hw.beside.mono (by simp) (by simp)⟩
  · rw [heffect, statusReport_qState rfl rfl hready rfl (by decide), hoff]
  · rw [heffect, statusReport_bit rfl rfl hready rfl]
  · rw [heffect]
    exact statusReport_hasEvent rfl rfl hready

/-- A queue drains: what has arrived and is not dispatched completes with DISABLED (R411). -/
theorem completes_queueDrain (hready : s.blk.Ready) (hwrite : s.blk.CanWrite who (R.HQ_QCFG.at q)) (hon : s.blk.qState q = 1) :
    Completes (.queueDrain who q) s fun b => (b.qState q = 2 ∧ b.getF F.HQ_QCFG_EN q = 0 ∧
      b.hq.flights = s.blk.hq.flights.map (fun f => if f.q == q.val && f.stage == .arrived && !f.drop then
        { f with stage := .done (.of St.disabled) } else f)) ∧ s.blk.Beside (queueRegs q) [Part.flights] b := by
  have heffect : s.blk.queueDrain q = ((s.blk.setF F.HQ_QCFG_EN q 0).setF F.HQ_QSTAT_STATE q 2).setFlights
      (s.blk.hq.flights.map fun f => if f.q == q.val && f.stage == .arrived && !f.drop then
        { f with stage := .done (.of St.disabled) } else f) q := by
    simp [queueDrain, hon]
  have hw : s.blk.Within (queueRegs q) [.flights] (s.blk.queueDrain q) :=
    heffect ▸ (switchQueue_within s.blk q 0 2 _).trans (.setFlights _ q (qstat_mem_queueRegs q) (List.mem_singleton_self _))
  refine completes_of_write (k := Block.queueDrain q) rfl hready hwrite (.of_within hw) (queueRegs_readyReg q) (by simp)
    fun hw => ⟨⟨?_, ?_, ?_⟩, hw.beside⟩
  · rw [heffect, setFlights_qState, setF_qState _ _ (by decide)]
  · rw [heffect, setFlights_en, switchQueue_en _ _ _ _ (by decide)]
  · rw [heffect]
    rfl

/-- A queue that drains, and one in ERROR with EN = 0, is DISABLED once nothing of it is in flight (R388, R411). -/
theorem completes_queueDrainComplete (hready : s.blk.Ready)
    (hdrains : s.blk.qState q = 2 ∨ (s.blk.qState q = 3 ∧ s.blk.getF F.HQ_QCFG_EN q = 0)) (hempty : s.blk.inFlight q = 0) :
    Completes (.queueDrainComplete q) s fun b => b.qState q = 0 ∧ s.blk.Beside [R.HQ_QSTAT.at q.val] [] b := by
  have heffect : s.blk.queueDrained q = s.blk.setF F.HQ_QSTAT_STATE q 0 := if_pos ⟨hdrains, hempty⟩
  have hw : s.blk.Within [R.HQ_QSTAT.at q.val] [] (s.blk.queueDrained q) :=
    heffect ▸ .setF s.blk F.HQ_QSTAT_STATE q 0 (List.mem_singleton_self _)
  refine completes_of_within (f := fun b => b.queueDrained q) rfl hready hw (by simp) (by simp) ⟨?_, hw.beside⟩
  rw [heffect, setF_qState _ _ (by decide)]

/-- The indices of a DISABLED queue are written, and PHASE becomes 1 (R389). -/
theorem completes_queueIndexWrite (w : Word) (hready : s.blk.Ready) (hwrite : s.blk.CanWrite who (R.HQ_QIDX.at q))
    (hoff : s.blk.qState q = 0) :
    Completes (.queueIndexWrite who q w) s fun b => b.getF F.HQ_QIDX_SQHEAD q = bits w.toNat 15 0 ∧
      b.getF F.HQ_QIDX_CQTAIL q = bits w.toNat 31 16 ∧ Tab.get true b.hq.cphase q = true ∧
      s.blk.Beside [R.HQ_QIDX.at q.val, R.HQ_QSTAT.at q.val] [Part.queues] b := by
  have heffect : s.blk.queueIndex q w.toNat = ((s.blk.setF F.HQ_QIDX_SQHEAD q (bits w.toNat 15 0)).setF F.HQ_QIDX_CQTAIL q
      (bits w.toNat 31 16)).startPhase q := if_pos hoff
  have hw : s.blk.Within [R.HQ_QIDX.at q.val] [.queues] (s.blk.queueIndex q w.toNat) := heffect ▸
    ((Within.setF s.blk F.HQ_QIDX_SQHEAD q _ (List.mem_singleton_self _)).trans
      (.setF _ F.HQ_QIDX_CQTAIL q _ (List.mem_singleton_self _))).trans (startPhase_within _ _ (List.mem_singleton_self _))
  refine completes_of_write (k := Block.queueIndex q w.toNat) rfl hready hwrite (.of_within hw) (by simp) (by simp)
    fun hw => ⟨?_, ?_, ?_, hw.beside.mono (by simp) (by simp)⟩
  · rw [heffect, startPhase_getF, indices_head _ _ (bits_lt _ _ _)]
  · rw [heffect, startPhase_getF]
    exact getF_setF_lt _ F.HQ_QIDX_CQTAIL q (by decide) (bits_lt _ _ _)
  · rw [heffect, startPhase_same]

/-- An index write to a queue that is not DISABLED sets CFGERR alone (R389). -/
theorem completes_queueIndexWrite_refused (w : Word) (hready : s.blk.Ready) (hwrite : s.blk.CanWrite who (R.HQ_QIDX.at q))
    (hon : s.blk.qState q ≠ 0) :
    Completes (.queueIndexWrite who q w) s fun b => b.getF F.HQ_QSTAT_CFGERR q = 1 ∧ b.rd R.HQ_QIDX q = s.blk.rd R.HQ_QIDX q ∧
      s.blk.Beside [R.HQ_QSTAT.at q.val, R.HQ_QIDX.at q.val] [Part.queues] b := by
  have heffect : s.blk.queueIndex q w.toNat = s.blk.setF F.HQ_QSTAT_CFGERR q 1 := if_neg hon
  have hw : s.blk.Within [R.HQ_QSTAT.at q.val] [] (s.blk.queueIndex q w.toNat) :=
    heffect ▸ .setF s.blk F.HQ_QSTAT_CFGERR q 1 (List.mem_singleton_self _)
  refine completes_of_write (k := Block.queueIndex q w.toNat) rfl hready hwrite (.of_within hw) (by simp) (by simp)
    fun hw => ⟨?_, ?_, hw.beside.mono (by simp) (by simp)⟩
  · rw [heffect]
    exact getF_setF_lt _ _ _ (by decide) (by decide)
  · rw [heffect]
    exact rd_wr_ne _ _ _ _ _ _ (qidx_ne_qstat q q)

end QueueCommands

/-! ### The commands of the event queues -/

section EventQueueCommands

open Block

variable (s : State) (who : Who) (e : Fin 8)

/-- An event queue with a valid size is enabled (R404). -/
theorem completes_eventQueueEnable (hready : s.blk.Ready) (hwrite : s.blk.CanWrite who (R.HQ_EQCFG.at e))
    (hoff : s.blk.eqState e = 0) (hlog : logOk (s.blk.getF F.HQ_EQCFG_LOG e) = true) :
    Completes (.eventQueueEnable who e) s fun b => b.eqState e = 1 ∧ b.getF F.HQ_EQCFG_EN e = 1 ∧
      s.blk.Beside [R.HQ_EQCFG.at e.val] [] b := by
  have heffect : s.blk.eqEnable e = (s.blk.setF F.HQ_EQCFG_EN e 1).setF F.HQ_EQSTAT_STATE e 1 := by
    simp [eqEnable, hoff, hlog]
  refine completes_of_write (k := Block.eqEnable e) rfl hready hwrite (.of_within (heffect ▸ switchEventQueue_within s.blk 1 1 e))
    (by simp) (by simp) fun hw => ⟨?_, ?_, hw.beside⟩
  · rw [heffect, switchEventQueue_state _ _ _ _ (by decide)]
  · rw [heffect, switchEventQueue_en _ _ _ _ (by decide)]

/-- EN written 0 disables an event queue, whatever its state (R406). -/
theorem completes_eventQueueDisable (hready : s.blk.Ready) (hwrite : s.blk.CanWrite who (R.HQ_EQCFG.at e)) :
    Completes (.eventQueueDisable who e) s fun b => b.eqState e = 0 ∧ b.getF F.HQ_EQCFG_EN e = 0 ∧
      s.blk.Beside [R.HQ_EQCFG.at e.val] [] b :=
  completes_of_write (k := Block.eqDisable e) rfl hready hwrite (.of_within (switchEventQueue_within s.blk 0 0 e)) (by simp)
    (by simp) fun hw => ⟨switchEventQueue_state _ _ _ _ (by decide), switchEventQueue_en _ _ _ _ (by decide), hw.beside⟩

/-- The tail of a DISABLED event queue is written, and PHASE becomes 1 (R416). -/
theorem completes_eventQueueIndexWrite (w : Word) (hready : s.blk.Ready) (hwrite : s.blk.CanWrite who (R.HQ_EQIDX.at e))
    (hoff : s.blk.eqState e = 0) :
    Completes (.eventQueueIndexWrite who e w) s fun b => b.getF F.HQ_EQIDX_TAIL e = bits w.toNat 15 0 ∧
      Tab.get true b.hq.ephase e = true ∧ s.blk.Beside [] [] b := by
  have heffect : s.blk.eqIndex e w.toNat = (s.blk.setF F.HQ_EQIDX_TAIL e (bits w.toNat 15 0)).startEventPhase e := if_pos hoff
  have hw : s.blk.Within [] [] (s.blk.eqIndex e w.toNat) := heffect ▸
    (Recorded.setF s.blk F.HQ_EQIDX_TAIL e _ (eqidx_recordReg e)).within.trans (startEventPhase_within _ _)
  refine completes_of_write (k := Block.eqIndex e w.toNat) rfl hready hwrite (.of_within hw) (by simp) (by simp)
    fun hw => ⟨?_, ?_, hw.beside⟩
  · rw [heffect, startEventPhase_getF]
    exact getF_setF_lt _ F.HQ_EQIDX_TAIL e (by decide) (bits_lt _ _ _)
  · rw [heffect, startEventPhase_same]

end EventQueueCommands

/-! ### The doorbells -/

section DoorbellCommands

open Block

variable (s : State) (q : Fin 64) (w : DbWrite) (v : Word)

/-- A producer index within the ring is accepted (R385, R390). -/
theorem completes_doorbellWrite (hready : s.blk.Ready) (hwidth : w.width = 4) (hv : v.toNat < s.blk.sqSize q) :
    Completes (.doorbellWrite q w v) s fun b => Tab.get 0 b.hq.prod q = v.toNat ∧
      b.getF F.HQ_QSTAT_DBERR q = s.blk.getF F.HQ_QSTAT_DBERR q ∧ s.blk.Beside (offsOf [R.HQ_QSTAT]) [Part.queues] b := by
  have heffect : s.blk.doorbell q w.width v.toNat =
      { s.blk with hq := { s.blk.hq with prod := Tab.put s.blk.hq.prod q v.toNat } } := by
    simp [doorbell, hwidth, hv]
  have hw : s.blk.Within [] [.queues] (s.blk.doorbell q w.width v.toNat) :=
    heffect ▸ .queues rfl rfl (List.mem_singleton_self _)
  refine completes_of_within (f := fun b => b.doorbell q w.width v.toNat) rfl hready hw (by simp) (by simp)
    ⟨?_, ?_, hw.beside.mono (by simp) (by simp)⟩
  · rw [heffect]
    exact Tab.get_put_same _ _ _ _
  · rw [heffect]
    rfl

/-- A producer index beyond the ring is refused with DBERR (R390). -/
theorem completes_doorbellWrite_refused (hready : s.blk.Ready) (hwidth : w.width = 4) (hv : s.blk.sqSize q ≤ v.toNat) :
    Completes (.doorbellWrite q w v) s fun b => Tab.get 0 b.hq.prod q = Tab.get 0 s.blk.hq.prod q ∧
      b.getF F.HQ_QSTAT_DBERR q = 1 ∧ b.HasEvent 225 ∧ s.blk.Beside [R.HQ_QSTAT.at q.val] [Part.queues] b := by
  have heffect : s.blk.doorbell q w.width v.toNat = s.blk.dbError q v.toNat := by
    simp [doorbell, hwidth, hv]
  have hw : s.blk.Within [R.HQ_QSTAT.at q.val] [.queues] (s.blk.doorbell q w.width v.toNat) :=
    heffect ▸ dbError_within q v.toNat hready
  obtain ⟨hprod, -, hbit, hevent⟩ := dbError_effect q v.toNat hready
  rw [← heffect] at hprod hbit hevent
  exact completes_of_within (f := fun b => b.doorbell q w.width v.toNat) rfl hready hw (by simp) (by simp)
    ⟨by rw [hprod], hbit, hevent, hw.beside⟩

/-- A doorbell write of another width is only reported (R385). -/
theorem completes_doorbellWrite_width (hready : s.blk.Ready) (hwidth : w.width ≠ 4) :
    Completes (.doorbellWrite q w v) s fun b => Tab.get 0 b.hq.prod q = Tab.get 0 s.blk.hq.prod q ∧ b.HasEvent 225 ∧
      s.blk.Beside (offsOf [R.HQ_QSTAT]) [Part.queues] b := by
  have heffect : s.blk.doorbell q w.width v.toNat = s.blk.raiseList [ev225 q false 2 v.toNat] := by
    simp [doorbell, hwidth]
  have ⟨_, htame, _, hpg, _⟩ := hready
  have hw : s.blk.Within [] [.queues] (s.blk.doorbell q w.width v.toNat) := heffect ▸ (report_recorded rfl htame).within
  refine completes_of_within (f := fun b => b.doorbell q w.width v.toNat) rfl hready hw (by simp) (by simp)
    ⟨?_, ?_, hw.beside.mono (by simp) (by simp)⟩
  · rw [heffect, report_prod rfl htame]
  · rw [heffect]
    exact report_hasEvent rfl htame hpg

/-- A completion head within what has been written and not consumed is accepted (R385, R393). -/
theorem completes_completionHeadWrite (hready : s.blk.Ready) (hwidth : w.width = 4) (hv : v.toNat < s.blk.cqSize q)
    (hwritten : (v.toNat + s.blk.cqSize q - Tab.get 0 s.blk.hq.chead q % s.blk.cqSize q) % s.blk.cqSize q ≤
      (s.blk.getF F.HQ_QIDX_CQTAIL q + s.blk.cqSize q - Tab.get 0 s.blk.hq.chead q % s.blk.cqSize q) % s.blk.cqSize q) :
    Completes (.completionHeadWrite q w v) s fun b => Tab.get 0 b.hq.chead q = v.toNat ∧
      s.blk.Beside (offsOf [R.HQ_QSTAT]) [Part.queues] b := by
  have heffect : s.blk.complHead q w.width v.toNat =
      { s.blk with hq := { s.blk.hq with chead := Tab.put s.blk.hq.chead q v.toNat } } := by
    simp [complHead, hwidth, hv, hwritten]
  have hw : s.blk.Within [] [.queues] (s.blk.complHead q w.width v.toNat) :=
    heffect ▸ .queues rfl rfl (List.mem_singleton_self _)
  refine completes_of_within (f := fun b => b.complHead q w.width v.toNat) rfl hready hw (by simp) (by simp)
    ⟨?_, hw.beside.mono (by simp) (by simp)⟩
  rw [heffect]
  exact Tab.get_put_same _ _ _ _

/-- Any other completion head is refused with DBERR (R393). -/
theorem completes_completionHeadWrite_refused (hready : s.blk.Ready) (hwidth : w.width = 4)
    (hrange : s.blk.cqSize q ≤ v.toNat ∨
      (s.blk.getF F.HQ_QIDX_CQTAIL q + s.blk.cqSize q - Tab.get 0 s.blk.hq.chead q % s.blk.cqSize q) % s.blk.cqSize q <
        (v.toNat + s.blk.cqSize q - Tab.get 0 s.blk.hq.chead q % s.blk.cqSize q) % s.blk.cqSize q) :
    Completes (.completionHeadWrite q w v) s fun b => Tab.get 0 b.hq.chead q = Tab.get 0 s.blk.hq.chead q ∧
      b.getF F.HQ_QSTAT_DBERR q = 1 ∧ s.blk.Beside [R.HQ_QSTAT.at q.val] [Part.queues] b := by
  have heffect : s.blk.complHead q w.width v.toNat = s.blk.dbError q v.toNat := by
    simp [complHead, hwidth, hrange]
  have hw : s.blk.Within [R.HQ_QSTAT.at q.val] [.queues] (s.blk.complHead q w.width v.toNat) :=
    heffect ▸ dbError_within q v.toNat hready
  obtain ⟨-, hchead, hbit, -⟩ := dbError_effect q v.toNat hready
  rw [← heffect] at hchead hbit
  exact completes_of_within (f := fun b => b.complHead q w.width v.toNat) rfl hready hw (by simp) (by simp)
    ⟨by rw [hchead], hbit, hw.beside⟩

/-- A head within the ring of an event queue is accepted (R385, R404). -/
theorem completes_eventQueueHeadWrite (e : Fin 8) (hready : s.blk.Ready) (hwidth : w.width = 4) (hv : v.toNat < s.blk.eqSize e)
    (hlog : s.blk.getF F.HQ_EQCFG_LOG e ≤ 16) :
    Completes (.eventQueueHeadWrite e w v) s fun b => b.getF F.HQ_EQIDX_HEAD e = v.toNat ∧ s.blk.Beside [] [] b := by
  have heffect : s.blk.eventHead e w.width v.toNat = s.blk.setF F.HQ_EQIDX_HEAD e v.toNat := by
    simp [eventHead, hwidth, hv]
  have hw : s.blk.Within [] [] (s.blk.eventHead e w.width v.toNat) :=
    heffect ▸ (Recorded.setF s.blk F.HQ_EQIDX_HEAD e _ (eqidx_recordReg e)).within
  have hfits : v.toNat < 2 ^ 16 := Nat.lt_of_lt_of_le hv (Nat.pow_le_pow_right (by decide) hlog)
  refine completes_of_within (f := fun b => b.eventHead e w.width v.toNat) rfl hready hw (by simp) (by simp) ⟨?_, hw.beside⟩
  rw [heffect]
  exact getF_setF_lt _ F.HQ_EQIDX_HEAD e (by decide) hfits

end DoorbellCommands

/-- Settles O27: an enable, a drain or an index write changes the registers of its queue alone, and a doorbell its index alone; what
is refused sets a status bit and raises EV225, which passes no crossing and is only recorded. -/
theorem queueState : Obligations.QueueState := by
  unfold Obligations.QueueState
  exact ⟨completes_queueEnable, completes_queueEnable_refused, completes_queueDrain, completes_queueDrainComplete,
    completes_queueIndexWrite, completes_queueIndexWrite_refused, completes_eventQueueEnable, completes_eventQueueDisable,
    completes_eventQueueIndexWrite, completes_doorbellWrite, completes_doorbellWrite_refused, completes_doorbellWrite_width,
    completes_completionHeadWrite, completes_completionHeadWrite_refused,
    fun s e w v => completes_eventQueueHeadWrite s w v e⟩

end Sys2Proof.Machine
end

section
/-! PROOFS. Descriptors of the chain, the cipher, the access, the boot, the pair and the gauge: the outcome that they report is
looked for in the last completion to their source, which can be that of another descriptor. -/
namespace Sys2Proof.Machine

-- The kernel evaluates the benches below one after another: a thread for each would exceed the memory limit.
set_option Elab.async false

/-- A descriptor of another node is not answered by an outcome that the status of the last completion to its source rules out. -/
theorem Block.not_answered_of_last {b : Block} {d : Desc} {n q : Fin 64} {st : Nat} {ok : Compl → Bool}
    (hsrc : d.src = .node n q) (hop : ¬ (0x90 ≤ d.opcode ∧ d.opcode ≤ 0x95))
    (hlast : (b.outcomeTo n q).map Compl.status = some st) (hok : ∀ c : Compl, c.status = st → ok c = false) :
    b.answered d ok = false := by
  obtain ⟨c, hc, rfl⟩ := Option.map_eq_some_iff.mp hlast
  rw [answered_of_node hsrc hop hc]
  exact hok _ rfl

/-- A command that leaves a BUSY as the last completion to queue 2 of node 1 does not complete with an answer to a descriptor of
that queue that excludes BUSY. -/
theorem not_completes_of_busy {c : Instr} {o : Block} {f : Block → Block} {E : Block → Prop} {d : Desc} {ok : Block → Compl → Bool}
    (hcompletes : Completes c { blk := o } E) (hexec : exec c { blk := o } = State.act f { blk := o })
    (hE : ∀ b, E b → b.answered d (ok b) = true) (hsrc : d.src = .node 1 2) (hop : ¬ (0x90 ≤ d.opcode ∧ d.opcode ≤ 0x95))
    (hlast : ((f o).endCommand.outcomeTo (1 : Fin 64) (2 : Fin 64)).map Compl.status = some St.busy)
    (hok : ∀ b c, Compl.status c = St.busy → ok b c = false) : False := by
  obtain ⟨t, ht, -, hafter⟩ := hcompletes
  rw [hexec] at ht
  have hblk : t.blk = (f o).endCommand := State.act_blk f { blk := o } t ht
  rw [← hblk] at hlast
  exact Bool.false_ne_true ((Block.not_answered_of_last hsrc hop hlast (hok t.blk)).symm.trans (hE _ hafter))

/-! ### Accesses and locked sequences of the chain -/

theorem exec_chnRd (d : Desc) (s : State) : exec (.chnRd d) s = s.act fun b => b.chnRd d := rfl

theorem exec_chnLockseq (d : Desc) (s : State) : exec (.chnLockseq d) s = s.act fun b => b.chnLockSeq d := rfl

/-- CHN_RD of the register at offset 0 from queue 2 of node 1. -/
def readRegisterDesc : Desc := { src := .node 1 2, dws := [0xD0, 0, 0x100, 0, 4, 0, 1], payload := [] }

/-- The register and the OK go out of CHB at once; the BUSY of an earlier descriptor, which waits at CHA for a buffer of the
neighbour, stands behind them (R428, R429). -/
theorem waitingComplBench_readRegister_outcome :
    ((waitingComplBench.chnRd readRegisterDesc).endCommand.outcomeTo (1 : Fin 64) (2 : Fin 64)).map Compl.status =
      some St.busy := by
  decide +kernel

/-- Refutes O32: the clause of CHN_RD takes the outcome from the last completion to the source of the descriptor, and counts the
frames that wait at a port after those that have gone out. In `waitingComplBench` that is an earlier one, with BUSY. -/
theorem not_sluiceAccesses : ¬ Obligations.SluiceAccesses := by
  unfold Obligations.SluiceAccesses
  intro h
  obtain ⟨hread, -⟩ := h
  exact not_completes_of_busy
    (hread { blk := waitingComplBench } readRegisterDesc waitingComplBench_ready
      ⟨fun direct => by cases direct <;> decide +kernel, by decide +kernel⟩ ⟨by decide, by decide⟩ (by decide +kernel)
      (by decide +kernel) rfl (by decide) (by decide +kernel))
    (exec_chnRd ..) (fun b hb => hb.1) rfl (by decide) waitingComplBench_readRegister_outcome
    (fun b c hc => by simp [hc, St.busy, St.ok])

/-- The one operation of `sequenceDesc`: a read of the register at offset 0. -/
def readOp : LockOp := { kind := 0, loc := false, prev := false, offset := 0, mask := 0, value := 0 }

/-- CHN_LOCKSEQ with the operation `readOp` from queue 2 of node 1. -/
def sequenceDesc : Desc := { src := .node 1 2, dws := [0xD2, 0, 0x100, 0, 16], payload := List.replicate 16 0 }

/-- The result and the OK go out of CHB at once; the BUSY that waits at CHA stands behind them (R428, R429). -/
theorem waitingComplBench_sequence_outcome :
    ((waitingComplBench.chnLockSeq sequenceDesc).endCommand.outcomeTo (1 : Fin 64) (2 : Fin 64)).map Compl.status =
      some St.busy := by
  decide +kernel

/-- Refutes O33: the clause of CHN_LOCKSEQ for a read takes the outcome from the last completion to the source of the descriptor,
and counts the frames that wait at a port after those that have gone out. In `waitingComplBench` that is an earlier one, with
BUSY. -/
theorem not_lockedSequences : ¬ Obligations.LockedSequences := by
  unfold Obligations.LockedSequences
  intro h
  obtain ⟨hsequence, -⟩ := h
  exact not_completes_of_busy
    (hsequence { blk := waitingComplBench } sequenceDesc readOp waitingComplBench_ready
      ⟨fun direct => by cases direct <;> decide +kernel, by decide +kernel⟩ ⟨by decide, by decide⟩ (by decide +kernel)
      (by decide +kernel) rfl (by decide +kernel) rfl (by decide +kernel) rfl)
    (exec_chnLockseq ..) (fun b hb => hb.1) rfl (by decide) waitingComplBench_sequence_outcome
    (fun b c hc => by simp [hc, St.busy, St.ok])

/-! ### The state of the chain -/

theorem exec_chnTopo (d : Desc) (s : State) : exec (.chnTopo d) s = s.act fun b => runDesc d Block.chnTopo b := rfl

/-- CHN_TOPO from queue 2 of node 1: 544 bytes of payload. -/
def readTopologyDesc : Desc := { src := .node 1 2, dws := [0xD3, 0, 0x100, 0, 544], payload := [] }

/-- The state of the chain and the OK go out of CHB at once; the BUSY that waits at CHA stands behind them (R428, R429). -/
theorem waitingComplBench_topology_outcome :
    ((runDesc readTopologyDesc Block.chnTopo waitingComplBench).endCommand.outcomeTo (1 : Fin 64) (2 : Fin 64)).map Compl.status =
      some St.busy := by
  decide +kernel

/-- Refutes O31: the clause of CHN_TOPO takes the outcome from the last completion to the source of the descriptor, and counts the
frames that wait at a port after those that have gone out. In `waitingComplBench` that is an earlier one, with BUSY. -/
theorem not_chainPorts : ¬ Obligations.ChainPorts := by
  unfold Obligations.ChainPorts
  intro h
  obtain ⟨-, -, -, -, -, -, -, -, -, -, -, htopo⟩ := h
  exact not_completes_of_busy
    (htopo { blk := waitingComplBench } readTopologyDesc waitingComplBench_ready
      ⟨fun direct => by cases direct <;> decide +kernel, by decide +kernel⟩ ⟨by decide, by decide⟩ (by decide +kernel))
    (exec_chnTopo ..) (fun b hb => hb.1) rfl (by decide) waitingComplBench_topology_outcome
    (fun b c hc => by simp [hc, St.busy, St.ok])

/-! ### The key cache -/

theorem exec_keyFlush (d : Desc) (s : State) :
    exec (.keyFlush d) s = s.act fun b => b.cipherAs 0x98 d [] false := rfl

/-- The cipher is on. -/
def waitingCipherBench : Block := waitingComplBench.setF F.CIPH_CFG_EN 0 1

theorem waitingCipherBench_ready : waitingCipherBench.Ready := ready_setF _ F.CIPH_CFG_EN 0 1 (by decide) waitingComplBench_ready

/-- KEY_FLUSH from queue 2 of node 1. -/
def flushDesc : Desc := { src := .node 1 2, dws := [0x98], payload := [] }

/-- The OK of the flush goes out of CHB at once, and the BUSY that waits at CHA stands behind it (R428, R429). -/
theorem waitingCipherBench_flush_outcome :
    ((waitingCipherBench.cipherAs 0x98 flushDesc [] false).endCommand.outcomeTo (1 : Fin 64) (2 : Fin 64)).map Compl.status =
      some St.busy := by
  decide +kernel

/-- Refutes O46: the clause of KEY_FLUSH takes the outcome from the last completion to the source of the descriptor, and counts the
frames that wait at a port after those that have gone out. In `waitingCipherBench` that is an earlier one, with BUSY. -/
theorem not_cipherDescriptors : ¬ Obligations.CipherDescriptors := by
  unfold Obligations.CipherDescriptors
  intro h
  obtain ⟨-, -, -, -, -, -, -, -, -, -, -, hflush⟩ := h
  exact not_completes_of_busy
    (hflush { blk := waitingCipherBench } flushDesc waitingCipherBench_ready
      ⟨fun direct => by cases direct <;> decide +kernel, by decide +kernel⟩ ⟨by decide, by decide⟩ (by decide) (by decide)
      (by decide +kernel))
    (exec_keyFlush ..) (fun b hb => hb.1.1) rfl (by decide) waitingCipherBench_flush_outcome
    (fun b c hc => by simp [hc, St.busy, St.ok])

/-! ### Access -/

theorem exec_acsRevoke (d : Desc) (s : State) : exec (.acsRevoke d) s = s.act fun b => runDesc d Block.acsRevoke b := rfl

/-- ACS_REVOKE from queue 2 of node 1 that names no slot. -/
def revokeNoneDesc : Desc := { src := .node 1 2, dws := [0xA1], payload := [] }

/-- The BAD_DESC goes out of CHB at once, and the BUSY that waits at CHA stands behind it (R428, R429). -/
theorem waitingComplBench_revoke_outcome :
    ((runDesc revokeNoneDesc Block.acsRevoke waitingComplBench).endCommand.outcomeTo (1 : Fin 64) (2 : Fin 64)).map Compl.status =
      some St.busy := by
  decide +kernel

/-- Refutes O48: the clause of an ACS_REVOKE without a slot takes the outcome from the last completion to the source of the
descriptor, and counts the frames that wait at a port after those that have gone out. In `waitingComplBench` that is an earlier
one, with BUSY. -/
theorem not_accessDescriptors : ¬ Obligations.AccessDescriptors := by
  unfold Obligations.AccessDescriptors
  intro h
  obtain ⟨-, -, -, hrevoke, -⟩ := h
  exact not_completes_of_busy
    (hrevoke { blk := waitingComplBench } revokeNoneDesc waitingComplBench_ready
      ⟨fun direct => by cases direct <;> decide +kernel, by decide +kernel⟩ ⟨by decide, by decide⟩ (by decide) (by decide))
    (exec_acsRevoke ..) (fun b hb => hb.1.1) rfl (by decide) waitingComplBench_revoke_outcome
    (fun b c hc => by simp [hc, St.busy, St.badDesc])

theorem exec_enrolTimeout (s : State) : exec .enrolTimeout s = s.act fun b => b.enrolTimeout := rfl

/-- ACS_ENROL for slot 2 from queue 2 of node 1. -/
def enrolDesc : Desc := { src := .node 1 2, dws := [0xA0, 0, 0, 0, 0, 2, 9], payload := [] }

/-- The enrolment waits for its token. -/
def waitingEnrolBench : Block := { waitingComplBench with acs := { enrol := some enrolDesc } }

theorem waitingEnrolBench_ready : waitingEnrolBench.Ready :=
  ready_congr (b := waitingComplBench) waitingComplBench_ready rfl rfl rfl

/-- The TIMEOUT of the enrolment goes out of CHB at once, and the BUSY that waits at CHA stands behind it (R428, R429). -/
theorem waitingEnrolBench_outcome :
    (waitingEnrolBench.enrolTimeout.endCommand.outcomeTo (1 : Fin 64) (2 : Fin 64)).map Compl.status = some St.busy := by
  decide +kernel

/-- Refutes O50: the clause of ENROL_TIMEOUT takes the outcome from the last completion to the source of the descriptor, and counts
the frames that wait at a port after those that have gone out. In `waitingEnrolBench` that is an earlier one, with BUSY. -/
theorem not_accessTimes : ¬ Obligations.AccessTimes := by
  unfold Obligations.AccessTimes
  intro h
  obtain ⟨-, -, -, htimeout, -⟩ := h
  exact not_completes_of_busy
    (htimeout { blk := waitingEnrolBench } enrolDesc waitingEnrolBench_ready rfl ⟨by decide, by decide⟩)
    (exec_enrolTimeout ..) (fun b hb => hb.1.1) rfl (by decide) waitingEnrolBench_outcome
    (fun b c hc => by simp [hc, St.busy, St.timeout])

/-! ### Boot, pair and gauge -/

theorem exec_updStatus (d : Desc) (s : State) : exec (.updStatus d) s = s.act fun b => runDesc d Block.updStatus b := rfl

/-- UPD_STATUS from queue 2 of node 1: 64 bytes of payload. -/
def updateStatusDesc : Desc := { src := .node 1 2, dws := [0xB8, 0, 0x100, 0, 64], payload := [] }

/-- The status and the OK go out of CHB at once; the BUSY that waits at CHA stands behind them (R428, R429). -/
theorem waitingComplBench_updateStatus_outcome :
    ((runDesc updateStatusDesc Block.updStatus waitingComplBench).endCommand.outcomeTo (1 : Fin 64) (2 : Fin 64)).map Compl.status =
      some St.busy := by
  decide +kernel

/-- Refutes O51: the clause of UPD_STATUS takes the outcome from the last completion to the source of the descriptor, and counts the
frames that wait at a port after those that have gone out. In `waitingComplBench` that is an earlier one, with BUSY. -/
theorem not_bootDescriptors : ¬ Obligations.BootDescriptors := by
  unfold Obligations.BootDescriptors
  intro h
  obtain ⟨-, -, -, -, -, -, -, -, -, -, hstatus⟩ := h
  exact not_completes_of_busy
    (hstatus { blk := waitingComplBench } updateStatusDesc waitingComplBench_ready
      ⟨fun direct => by cases direct <;> decide +kernel, by decide +kernel⟩ ⟨by decide, by decide⟩ (by decide))
    (exec_updStatus ..) (fun b hb => hb.1) rfl (by decide) waitingComplBench_updateStatus_outcome
    (fun b c hc => by simp [hc, St.busy, St.ok])

theorem exec_pairRead (d : Desc) (s : State) : exec (.pairRead d) s = s.act fun b => runDesc d Block.pairRead b := rfl

/-- PAIR_READ from queue 2 of node 1: 48 bytes of payload. -/
def readPairDesc : Desc := { src := .node 1 2, dws := [0xC0, 0, 0x100, 0, 48], payload := [] }

/-- The record of the pair and the OK go out of CHB at once; the BUSY that waits at CHA stands behind them (R428, R429). -/
theorem waitingComplBench_readPair_outcome :
    ((runDesc readPairDesc Block.pairRead waitingComplBench).endCommand.outcomeTo (1 : Fin 64) (2 : Fin 64)).map Compl.status =
      some St.busy := by
  decide +kernel

/-- Refutes O53: the clause of PAIR_READ takes the outcome from the last completion to the source of the descriptor, and counts the
frames that wait at a port after those that have gone out. In `waitingComplBench` that is an earlier one, with BUSY. -/
theorem not_pairRoles : ¬ Obligations.PairRoles := by
  unfold Obligations.PairRoles
  intro h
  obtain ⟨hread, -⟩ := h
  exact not_completes_of_busy
    (hread { blk := waitingComplBench } readPairDesc waitingComplBench_ready
      ⟨fun direct => by cases direct <;> decide +kernel, by decide +kernel⟩ ⟨by decide, by decide⟩ (by decide))
    (exec_pairRead ..) (fun b hb => hb.1) rfl (by decide) waitingComplBench_readPair_outcome
    (fun b c hc => by simp [hc, St.busy, St.ok])

theorem exec_gaugeRead (d : Desc) (s : State) : exec (.gaugeRead d) s = s.act fun b => runDesc d Block.gaugeRead b := rfl

/-- The gauge window is valid. -/
def waitingGaugeBench : Block := waitingComplBench.setF F.GAUGE_STAT_VALID 0 1

theorem waitingGaugeBench_sources :
    ∀ e : Fin 256, waitingGaugeBench.getF F.CATCH_SRC_CLASS e ≤ 1 ∧ waitingGaugeBench.getF F.CATCH_SRC_ACT e < 8 := by
  decide +kernel

theorem waitingGaugeBench_ready : waitingGaugeBench.Ready :=
  ⟨⟨rfl, by decide +kernel, by decide +kernel, by decide +kernel⟩, fun e he => waitingGaugeBench_sources ⟨e, he⟩, ⟨rfl, rfl⟩,
    by decide +kernel⟩

/-- GAUGE_READ from queue 2 of node 1: 104 bytes of payload. -/
def readGaugeDesc : Desc := { src := .node 1 2, dws := [0xC8, 0, 0x100, 0, 104], payload := [] }

/-- The gauge window and the OK go out of CHB at once; the BUSY that waits at CHA stands behind them (R428, R429). -/
theorem waitingGaugeBench_outcome :
    ((runDesc readGaugeDesc Block.gaugeRead waitingGaugeBench).endCommand.outcomeTo (1 : Fin 64) (2 : Fin 64)).map Compl.status =
      some St.busy := by
  decide +kernel

/-- Refutes O56: the clause of GAUGE_READ takes the outcome from the last completion to the source of the descriptor, and counts the
frames that wait at a port after those that have gone out. In `waitingGaugeBench` that is an earlier one, with BUSY. -/
theorem not_gaugeWindow : ¬ Obligations.GaugeWindow := by
  unfold Obligations.GaugeWindow
  intro h
  obtain ⟨hread, -⟩ := h
  exact not_completes_of_busy
    (hread { blk := waitingGaugeBench } readGaugeDesc waitingGaugeBench_ready
      ⟨fun direct => by cases direct <;> decide +kernel, by decide +kernel⟩ ⟨by decide, by decide⟩ (by decide) (by decide +kernel))
    (exec_gaugeRead ..) (fun b hb => hb.1) rfl (by decide) waitingGaugeBench_outcome
    (fun b c hc => by simp [hc, St.busy, St.ok])

end Sys2Proof.Machine
end

section
/-! PROOFS. A tick of the timebase, a control register and a customer instruction of a core, a snapshot of the lead, a key that
another request waits for, and a topology frame: clauses that leave a case out. -/
namespace Sys2Proof.Machine

-- The kernel evaluates the benches below one after another: a thread for each would exceed the memory limit.
set_option Elab.async false

/-! ### A tick with a shot that is overdue -/

/-- The shot of valve 0 has waited for its bank since tick 0, and may not start any more (R195). -/
def overdueBench : Block :=
  { bench.setF F.VLV_STAT_STATE 0 Vl.wait with
    vlv := { valve := [(0, { shot := some { prof := 0, hold := 0, table := none, due := 0 } })] }
    pw := { bench.pw with tbase := 1000000 } }

theorem overdueBench_tick_rejects : overdueBench.tick.vlvIdle.chainIdle.endCommand.vlSt 0 = 1 := by
  decide +kernel

theorem overdueBench_tick_without_valves : overdueBench.tick.chainIdle.endCommand.vlSt 0 = Vl.wait := by
  decide +kernel

theorem step_nil (o : Block) : step { blk := o } = .next { blk := o.tick.vlvIdle.chainIdle.endCommand } := rfl

/-- Refutes O58: the clause of an empty queue leaves out that a tick rejects the shots that are overdue (R195, log 165). In
`overdueBench` valve 0 goes from WAIT to READY. -/
theorem not_stepRunsTheFrontCommand : ¬ Obligations.StepRunsTheFrontCommand := by
  unfold Obligations.StepRunsTheFrontCommand
  intro h
  obtain ⟨-, htick, -⟩ := h
  have hstep := htick { blk := overdueBench } rfl
  rw [step_nil] at hstep
  have hblk := congrArg State.blk (Host.Outcome.next.inj hstep)
  have hstate := congrArg (fun b : Block => b.vlSt 0) hblk
  simp only [overdueBench_tick_rejects, overdueBench_tick_without_valves] at hstate
  exact absurd hstate (by decide)

/-! ### SR bits that no level writes -/

theorem exec_mtc (x : Exe) (cr : BitVec 8) (rs : Fin 16) (s : State) :
    exec (.mtc x cr rs) s = s.act fun b => b.mtcOp x cr.toNat rs := rfl

/-- HC2 runs with these registers. -/
def runningBench (h : HepCore) : Block := { bench.setF F.HEP_STAT_STATE 2 2 with core := [(2, h)] }

theorem runningBench_ready (h : HepCore) : (runningBench h).Ready :=
  ready_congr (b := bench.setF F.HEP_STAT_STATE 2 2) (ready_core _ 2 2 (by decide) (by decide) bench_ready) rfl rfl rfl

/-- HC2 at privileged level, with bit 14 of SR set. -/
def reservedSrBench : Block := runningBench { pc := 0x10000, sr := 0x4041 }

/-- MTC writes SR bits [13:1] from the register and leaves PRIV; the bits from 14 on become 0 (R479, R481). -/
theorem reservedSrBench_sr : ((reservedSrBench.mtcOp { core := 2 } (0 : Byte).toNat 1).endCommand.cpu { core := 2 }).sr = 1 := by
  decide +kernel

/-- Refutes O43: the clause of MTC to SR has the bits that it does not name, from 14 on too, keep their values. In
`reservedSrBench` bit 14 is cleared. -/
theorem not_heperControlRegisters : ¬ Obligations.HeperControlRegisters := by
  unfold Obligations.HeperControlRegisters
  intro h
  obtain ⟨-, hmtc, -⟩ := h
  obtain ⟨t, ht, -, hsr, -⟩ := hmtc { blk := reservedSrBench } { core := 2 } 0 1 (runningBench_ready _) (by decide +kernel)
    (by decide) (by decide) (by decide) (by decide) rfl (by decide)
  obtain ⟨hbits, -⟩ := hsr rfl
  rw [exec_mtc] at ht
  have hblk : t.blk = (reservedSrBench.mtcOp { core := 2 } (0 : Byte).toNat 1).endCommand :=
    State.act_blk _ { blk := reservedSrBench } t ht
  rw [hblk, reservedSrBench_sr] at hbits
  exact absurd hbits (by decide)

/-! ### A parity failure in a micro-operation that is skipped -/

theorem exec_cx (x : Exe) (k : Fin 16) (a : CxArgs) (par : Option (Fin 32)) (s : State) :
    exec (.cx x k a par) s = s.act fun b => b.cxOp x k a par := rfl

/-- CX3 of HC2 is the one micro-operation at index 5, an addition under the condition EQ; Z is 0. -/
def skippedMicroBench : Block :=
  runningBench { pc := 0x10000, psp := 0x11000, vbar := 0x12000, cxdef := [(3, 0x8005)], ustore := [(5, 0x72c311000000000)] }

/-- A micro-operation whose condition is false is skipped, and its parity with it (R507, R536). -/
theorem skippedMicroBench_no_event :
    ¬ (skippedMicroBench.cxOp { core := 2 } 3 { x := 1, y := 2, z := 3, imm := 5 } (some 0)).endCommand.HasEvent 249 := by
  decide +kernel

/-- Refutes O44: the clause of a parity failure does not ask that the condition of the micro-operation holds. In
`skippedMicroBench` it does not, and EV249 is not raised. -/
theorem not_heperCustomer : ¬ Obligations.HeperCustomer := by
  unfold Obligations.HeperCustomer
  intro h
  obtain ⟨-, -, -, -, -, hparity⟩ := h
  obtain ⟨t, ht, -, hevent, -⟩ := hparity { blk := skippedMicroBench } { core := 2 } 3 { x := 1, y := 2, z := 3, imm := 5 } _
    (runningBench_ready _) (by decide +kernel) rfl (by decide) (by decide) (by decide) rfl (by decide) (by decide) (by decide)
    (by decide +kernel)
  rw [exec_cx] at ht
  have hblk : t.blk = (skippedMicroBench.cxOp { core := 2 } 3 { x := 1, y := 2, z := 3, imm := 5 } (some 0)).endCommand :=
    State.act_blk _ { blk := skippedMicroBench } t ht
  rw [hblk] at hevent
  exact skippedMicroBench_no_event hevent

/-! ### A snapshot beside what was loaded before -/

theorem exec_pairSnapshot (l : List Mirror) (ok : Bool) (s : State) :
    exec (.pairSnapshot l ok) s = s.act fun b => b.snapTake l ok := rfl

/-- A FOLLOW with its link up, to whom the lead has sent profile 1 as it was loaded. -/
def loadedShadowBench : Block :=
  { (bench.setF F.PAIR_STAT_ROLE 0 3).setF F.PAIR_STAT_LINK 0 1 with pair := { shadow := [.prof 1 2 3 4] } }

theorem loadedShadowBench_ready : loadedShadowBench.Ready :=
  ready_congr (b := (bench.setF F.PAIR_STAT_ROLE 0 3).setF F.PAIR_STAT_LINK 0 1)
    (ready_setF _ F.PAIR_STAT_LINK 0 1 (by decide) (ready_setF _ F.PAIR_STAT_ROLE 0 3 (by decide) bench_ready)) rfl rfl rfl

/-- A snapshot replaces the rest of the shadow; the profile stays (R635). -/
theorem loadedShadowBench_shadow :
    (loadedShadowBench.snapTake [.hs 0 1000 2 0] true).endCommand.pair.shadow = [.prof 1 2 3 4, .hs 0 1000 2 0] := by
  decide +kernel

/-- Refutes O54: the clause of PAIR_SNAPSHOT has the shadow be the list of the frame, but what was loaded before stays beside it. In
`loadedShadowBench` that is a profile. -/
theorem not_pairTraffic : ¬ Obligations.PairTraffic := by
  unfold Obligations.PairTraffic
  intro h
  obtain ⟨-, hsnapshot, -⟩ := h
  obtain ⟨t, ht, -, ⟨hshadow, -⟩, -⟩ := hsnapshot { blk := loadedShadowBench } [.hs 0 1000 2 0] true loadedShadowBench_ready
    (by decide +kernel) (by decide +kernel)
  rw [exec_pairSnapshot] at ht
  have hblk : t.blk = (loadedShadowBench.snapTake [.hs 0 1000 2 0] true).endCommand :=
    State.act_blk _ { blk := loadedShadowBench } t ht
  rw [hblk, loadedShadowBench_shadow] at hshadow
  exact absurd hshadow (by decide)

/-! ### A derivation that another follows -/

theorem exec_keyDerivationComplete (s : State) : exec .keyDerivationComplete s = s.act fun b => b.stillNet b.keyDerived := rfl

/-- The key of label 7, which is being derived, and that of label 8, which a frame of the gateway needs. -/
def derivedKey : KeyTag := { root := 1, dom := 1, lbits := 128, label := [7] }
def wantedKey : KeyTag := { root := 1, dom := 1, lbits := 128, label := [8] }

/-- A frame of a secured route waits for its place among the jobs; the units it needs have passed their self-tests. -/
def waitingFrameBench : Block :=
  { bench with
    ciph := { test := [(1, 1), (2, 1)], deriv := [(derivedKey, [])], gwq := [(wantedKey, .frame 0 [] 0 {} 0)] } }

theorem waitingFrameBench_ready : waitingFrameBench.Ready := ready_congr (b := bench) bench_ready rfl rfl rfl

/-- The frame gets its place, and the derivation of its key begins (R546, R549). -/
theorem waitingFrameBench_deriv :
    (waitingFrameBench.stillNet waitingFrameBench.keyDerived).endCommand.ciph.deriv = [(wantedKey, [.frame 0 [] 0 {} 0])] := by
  decide +kernel

/-- Refutes O47: the clause of KEY_DERIVATION_COMPLETE asks that no job of the host waits, but not that no job of the gateway does.
In `waitingFrameBench` one does, and its own derivation follows at once. -/
theorem not_cipherUnits : ¬ Obligations.CipherUnits := by
  unfold Obligations.CipherUnits
  intro h
  obtain ⟨hderived, -⟩ := h
  obtain ⟨t, ht, -, ⟨-, -, hderiv, -⟩, -⟩ := hderived { blk := waitingFrameBench } derivedKey waitingFrameBench_ready rfl rfl
  rw [exec_keyDerivationComplete] at ht
  have hblk : t.blk = (waitingFrameBench.stillNet waitingFrameBench.keyDerived).endCommand :=
    State.act_blk (fun b => b.stillNet b.keyDerived) { blk := waitingFrameBench } t ht
  rw [hblk, waitingFrameBench_deriv] at hderiv
  exact absurd hderiv (by decide)

/-! ### A topology of more than 64 entries -/

theorem exec_topoFrame (p : Fin 2) (order : List (Fin 64)) (gap : Option (Fin 65)) (standby : Option (Fin 64)) (s : State) :
    exec (.topoFrame p order gap standby) s =
      s.act fun b => b.topoFrame p (order.map Fin.val) (gap.map Fin.val) (standby.map Fin.val) := rfl

/-- Node 0 is no head, and both its ports are UP. -/
def secondaryBench : Block :=
  (((bench.setF F.SYS_NODE_VALID 0 1).setF F.CHN_PORT_LSTATE 0 2).setF F.CHN_PORT_LSTATE 1 2).setF F.SYS_NODE_HEAD 0 0

theorem secondaryBench_ready : secondaryBench.Ready :=
  ready_setF _ F.SYS_NODE_HEAD 0 0 (by decide) (ready_setF _ F.CHN_PORT_LSTATE 1 2 (by decide)
    (ready_setF _ F.CHN_PORT_LSTATE 0 2 (by decide) (ready_setF _ F.SYS_NODE_VALID 0 1 (by decide) bench_ready)))

/-- An order that names node 0 68 times. -/
def longOrder : List (Fin 64) := List.replicate 68 0

/-- What goes on to the neighbour has at most 17 dwords (R422). -/
theorem secondaryBench_topo_len :
    (secondaryBench.topoFrame (0 : Fin 2) (longOrder.map Fin.val) none none).endCommand.leaves 1 (fun f => f.len == 18) =
      false := by
  decide +kernel

/-- A frame that leaves is one of any weaker kind too. -/
theorem Block.leaves_mono {b : Block} {p : Nat} {ok ok' : Frame → Bool} (h : ∀ f, ok f = true → ok' f = true)
    (hl : b.leaves p ok = true) : b.leaves p ok' = true := by
  simp only [leaves, Bool.or_eq_true, List.any_eq_true] at hl ⊢
  obtain (⟨o, ho, hsent⟩ | ⟨f, hf, hok⟩) | ⟨f, hf, hok⟩ := hl
  · refine .inl (.inl ⟨o, ho, ?_⟩)
    cases o <;> simp_all
  · exact .inl (.inr ⟨f, hf, h f hok⟩)
  · exact .inr ⟨f, hf, h f hok⟩

/-- Refutes O30: the clause of TOPO_FRAME does not bound the order by the 64 nodes, and asks for a frame as long as the order. In
`secondaryBench` an order of 68 entries goes on as a frame of 17 dwords and not of 18. -/
theorem not_chainEnumeration : ¬ Obligations.ChainEnumeration := by
  unfold Obligations.ChainEnumeration
  intro h
  obtain ⟨-, -, -, -, -, -, -, -, -, -, -, htopo, -⟩ := h
  obtain ⟨t, ht, -, ⟨-, -, -, -, -, -, hleaves⟩, -⟩ := htopo { blk := secondaryBench } 0 longOrder none none secondaryBench_ready
    (by decide +kernel) (by decide +kernel) (by decide +kernel) (by decide +kernel)
  rw [exec_topoFrame] at ht
  have hblk : t.blk = (secondaryBench.topoFrame (0 : Fin 2) (longOrder.map Fin.val) none none).endCommand :=
    State.act_blk _ { blk := secondaryBench } t ht
  have hlong := Block.leaves_mono (ok' := fun f => f.len == 18) (fun f hf => by rw [eq_of_beq hf]; rfl) (hleaves (by decide +kernel))
  rw [hblk] at hlong
  exact Bool.false_ne_true (secondaryBench_topo_len.symm.trans hlong)

end Sys2Proof.Machine
end

section
/-! PROOFS. Every command acts on the block and leaves the queue; at its end every core that waits with IE = 0 is looked at, and
no later look undoes an earlier one. -/
namespace Sys2Proof.Machine

/-- Every command answers a next state: its effect on the block with the end of a command behind it, and the queue as it was. -/
theorem exec_eq_next (c : Instr) (s : State) : ∃ b : Block, exec c s = .next { s with blk := b.endCommand } := by
  cases c <;> exact ⟨_, rfl⟩

namespace Block

/-! ### The state of a core in HEP_STAT -/

theorem setCore_core (c st : Nat) (b : Block) : (b.setCore c st).core = b.core := by
  simp only [setCore]
  split <;> rfl

theorem setCore_pw (c st : Nat) (b : Block) : (b.setCore c st).pw = b.pw := by
  simp only [setCore]
  split <;> rfl

theorem setCore_hc (c st d : Nat) (b : Block) : (b.setCore c st).hc d = b.hc d := by
  unfold hc
  rw [setCore_core]

theorem setCore_due (c st : Nat) (b : Block) : (b.setCore c st).catchm.due = b.catchm.due := by
  simp only [setCore]
  split <;> rfl

/-- Which lines are pending does not depend on the registers of the block. -/
theorem setCore_lineReady (c st d : Nat) (b : Block) : (b.setCore c st).lineReady d = b.lineReady d := by
  simp only [lineReady, lineBelow, linePending, setCore_hc, setCore_pw]

/-- Writing STATE and PRIV of one HEP_STAT leaves the state of the other cores and gives this one the state written. -/
theorem coreState_setStat {c d : Nat} (st pr : Nat) (hc : c < 15) (hd : d < 15) (b : Block) :
    ((b.setF F.HEP_STAT_STATE c st).setF F.HEP_STAT_PRIV c pr).coreState d = if d = c then st % 8 else b.coreState d := by
  unfold coreState
  split
  case isTrue h =>
    subst h
    rw [getF_setF_beside _ F.HEP_STAT_PRIV F.HEP_STAT_STATE d pr rfl (by decide) (.inr (by decide)),
      getF_setF_same _ _ _ _ (by decide)]
    rfl
  case isFalse h =>
    have hne : R.HEP_STAT.at d ≠ R.HEP_STAT.at c := by rw [hepStat_at d hd, hepStat_at c hc]; omega
    rw [getF_setF_other _ F.HEP_STAT_PRIV F.HEP_STAT_STATE c d pr hne, getF_setF_other _ F.HEP_STAT_STATE F.HEP_STAT_STATE c d st hne]

/-- HEP_STAT[1] goes along with HEP_STAT[0] (R510). -/
theorem coreState_setCore {c d : Nat} (st : Nat) (hc : c < 15) (hd : d < 15) (b : Block) :
    (b.setCore c st).coreState d = if d = c ∨ c = 0 ∧ d = 1 then st % 8 else b.coreState d := by
  unfold setCore
  by_cases h0 : c = 0
  · subst h0
    simp only [if_true, coreState_setStat _ _ (show 1 < 15 by decide) hd, coreState_setStat _ _ (show 0 < 15 by decide) hd]
    by_cases h1 : d = 1 <;> simp [h1]
  · simp [h0, coreState_setStat _ _ hc hd]

/-! ### The look at the cores that wait -/

/-- If core c waits with IE = 0, no line would wake it (R532). -/
def Unwoken (c : Nat) (b : Block) : Prop := b.coreState c = 3 → (b.hc c).sr.getLsbD 1 = false → b.lineReady c = none

/-- A core that goes on leaves the others as they were. -/
theorem Unwoken.setCore_two {c d : Nat} {b : Block} (h : b.Unwoken d) (hc : c < 15) (hd : d < 15) : (b.setCore c 2).Unwoken d := by
  intro hstate
  rw [setCore_hc, setCore_lineReady]
  refine h ?_
  rw [coreState_setCore 2 hc hd] at hstate
  split at hstate
  · exact absurd hstate (by decide)
  · exact hstate

theorem unwoken_wakeCore (c : Nat) (hc : c < 15) (b : Block) : (b.wakeCore c).Unwoken c := by
  unfold wakeCore
  split
  case isTrue h =>
    intro hstate
    rw [coreState_setCore 2 hc hc] at hstate
    exact absurd hstate (by simp)
  case isFalse h =>
    intro hstate hmasked
    simp only [hstate, hmasked, beq_self_eq_true, Bool.not_false, Bool.and_true, Bool.true_and] at h
    exact Option.not_isSome_iff_eq_none.mp h

theorem Unwoken.wakeCore {c d : Nat} {b : Block} (h : b.Unwoken d) (hc : c < 15) (hd : d < 15) : (b.wakeCore c).Unwoken d := by
  unfold Block.wakeCore
  split
  · exact h.setCore_two hc hd
  · exact h

/-- Once the cores below n have been looked at, none of them is left. -/
theorem unwoken_forN_wakeCore (n : Nat) (hn : n ≤ 15) (b : Block) : ∀ c < n, (forN n Block.wakeCore b).Unwoken c := by
  induction n with
  | zero => intro c hc; omega
  | succ n ih =>
    intro c hc
    have hstep : forN (n + 1) Block.wakeCore b = (forN n Block.wakeCore b).wakeCore n := by
      simp [forN, List.range_succ, List.foldl_append]
    rw [hstep]
    rcases Nat.lt_succ_iff_lt_or_eq.mp hc with hlt | rfl
    · exact (ih (by omega) c hlt).wakeCore (by omega) (by omega)
    · exact unwoken_wakeCore c (by omega) _

theorem wakeCore_due (c : Nat) (b : Block) : (b.wakeCore c).catchm.due = b.catchm.due := by
  unfold wakeCore
  split
  · exact setCore_due c 2 b
  · rfl

theorem forN_wakeCore_due (n : Nat) (b : Block) : (forN n Block.wakeCore b).catchm.due = b.catchm.due := by
  induction n with
  | zero => rfl
  | succ n ih => simp only [forN, List.range_succ, List.foldl_append] at ih ⊢; rw [← ih]; exact wakeCore_due n _

/-- What a command leaves at its end is at rest. -/
theorem rested_endCommand (b : Block) : b.endCommand.Rested :=
  ⟨forN_wakeCore_due 15 b.finish, unwoken_forN_wakeCore 15 le_rfl b.finish⟩

end Block

/-- Settles O59: every command is an effect on the block with the end of a command behind it, which carries out what is due and
looks at every core; a tick on an empty queue ends in the same way. -/
theorem nothingIsLeftUndone : Obligations.NothingIsLeftUndone := by
  unfold Obligations.NothingIsLeftUndone
  intro s t hstep
  cases hq : s.pending with
  | nil =>
    simp only [step, hq] at hstep
    cases hstep
    exact ⟨Block.rested_endCommand _, rfl⟩
  | cons c rest =>
    simp only [step, hq] at hstep
    obtain ⟨b, hb⟩ := exec_eq_next c { s with pending := rest }
    rw [hb] at hstep
    cases hstep
    exact ⟨Block.rested_endCommand b, rfl⟩

end Sys2Proof.Machine
end

section
/-! PROOFS. An instruction of a core: what its fetch leaves behind, how its execution follows, and the core that has gone on. -/
namespace Sys2Proof.Machine

/-! ### What a fetch leaves -/

/-- A core with other pending sources, and its reset ended or not: no instruction reads either as a register. -/
def HepCore.fetched (i : Tab Nat) (y : Bool) (h : HepCore) : HepCore := { h with irq := i, young := y }

namespace Block

/-- What the fetch of an instruction of core c may change: what recorded occurrences change, the number of open values taken,
and of core c its pending sources and the end of its reset. -/
structure Fetched (c : Nat) (o b : Block) : Prop where
  within : o.Within [] [.core c] b
  core : b.hc c = (o.hc c).fetched (b.hc c).irq (b.hc c).young

namespace Fetched

variable {c : Nat} {a b o : Block}

theorem refl (c : Nat) (b : Block) : Fetched c b b := ⟨.refl b, rfl⟩

theorem trans (h : Fetched c o a) (k : Fetched c a b) : Fetched c o b :=
  ⟨h.within.trans k.within, by rw [k.core, h.core]; rfl⟩

theorem of_recorded (h : Recorded o b) : Fetched c o b := ⟨h.within, by rw [h.cores c]; rfl⟩

theorem fresh (c : Nat) (b : Block) : Fetched c b b.fresh.2 := ⟨⟨beside_fresh b _ _, rfl⟩, rfl⟩

theorem outOfReset (c : Nat) (b : Block) : Fetched c b (b.outOfReset c) := by
  unfold Block.outOfReset
  split
  · exact ⟨⟨beside_updHc b c _ _ (.head _), rfl⟩, by rw [updHc_same]; rfl⟩
  · exact refl c b

theorem tame (h : Fetched c o b) (ht : o.Tame) : b.Tame := h.within.tame (by simp) ht

theorem pg (h : Fetched c o b) (d : Nat) : b.pg d = o.pg d := by
  simp only [Block.pg, h.within.getF_eq (f := F.PWR_DOMSTAT_PG) (n := 0) (by simp) (by decide)]

theorem badEcc (h : Fetched c o b) : b.badEcc = o.badEcc := h.within.beside.2 .ecc (by simp)

theorem mem (h : Fetched c o b) : b.mem = o.mem := h.within.beside.2 .mem (by simp)

theorem mpuDenied (h : Fetched c o b) (priv : Bool) (kind a : Nat) :
    Machine.mpuDenied (b.hc c) priv kind a = Machine.mpuDenied (o.hc c) priv kind a := by
  rw [h.core]
  rfl

end Fetched

/-! ### Reads that meet check bits -/

/-- A word with inverted check bits is met. -/
def eccMeet (s : Block × Bool) (e : Nat × Nat) : Block × Bool :=
  if bitCount7 e.2 = 1 then (s.1.raise 250 (eccDetail e.1), s.2)
  else if bitCount7 e.2 = 2 then (s.1.raise 251 (eccDetail e.1), true) else s

theorem eccRead_eq (a n : Nat) (b : Block) :
    b.eccRead a n = (b.badEcc.filter fun e => decide (e.1 < a + n ∧ a < e.1 + 4)).foldl eccMeet (b, false) := rfl

theorem foldl_eccMeet (l : List (Nat × Nat)) (s : Block × Bool) (ht : s.1.Tame) :
    Recorded s.1 (l.foldl eccMeet s).1 ∧ (l.foldl eccMeet s).2 = (s.2 || l.any fun e => bitCount7 e.2 == 2) := by
  induction l generalizing s with
  | nil => exact ⟨.refl _, by simp⟩
  | cons e l ih =>
    have hmeet : Recorded s.1 (eccMeet s e).1 ∧ (eccMeet s e).2 = (s.2 || bitCount7 e.2 == 2) := by
      unfold eccMeet
      split
      case isTrue h => exact ⟨raise_recorded _ _ _ ht (by decide), by simp [h]⟩
      case isFalse =>
        split
        case isTrue h => exact ⟨raise_recorded _ _ _ ht (by decide), by simp [h]⟩
        case isFalse h => exact ⟨.refl _, by simp [h]⟩
    obtain ⟨hrecorded, hflag⟩ := ih (eccMeet s e) ((hmeet.1.within (l := []) (ps := [])).tame (by simp) ht)
    exact ⟨hmeet.1.trans hrecorded, by rw [List.foldl_cons, hflag, hmeet.2, List.any_cons, Bool.or_assoc]⟩

theorem eccRead_recorded (a n : Nat) (b : Block) (ht : b.Tame) : Recorded b (b.eccRead a n).1 :=
  (foldl_eccMeet _ (b, false) ht).1

/-- Whether a read meets an uncorrectable word depends on the check bits only. -/
theorem eccRead_snd (a n : Nat) (b : Block) (ht : b.Tame) :
    (b.eccRead a n).2 =
      (b.badEcc.filter fun e => decide (e.1 < a + n ∧ a < e.1 + 4)).any fun e => bitCount7 e.2 == 2 := by
  rw [eccRead_eq, (foldl_eccMeet _ (b, false) ht).2, Bool.false_or]

/-- A read that meets no check bits changes nothing. -/
theorem eccRead_of_clean {a n : Nat} {b : Block} (h : (b.badEcc.filter fun e => decide (e.1 < a + n ∧ a < e.1 + 4)) = []) :
    b.eccRead a n = (b, false) := by rw [eccRead_eq, h]; rfl

theorem eccOpen_of_clean {a n : Nat} {b : Block} (h : (b.badEcc.filter fun e => decide (e.1 < a + n ∧ a < e.1 + 4)) = []) :
    b.eccOpen a n = false := by
  rw [eccOpen, List.any_eq_false]
  intro e he
  have hmiss := List.filter_eq_nil_iff.mp h e he
  simp only [Bool.and_eq_true, not_and]
  exact fun hhit => absurd hhit hmiss

/-! ### A word that can be fetched -/

/-- The fetch of the word at address a goes through, and it lies outside the register space. -/
def fetchableAt (c : Nat) (priv : Bool) (a : Nat) (b : Block) : Bool :=
  a % 4 == 0 && Machine.mpuDenied (b.hc c) priv 0 a == none && match spot c a with
    | .rom => true
    | .ram g dom => !b.pg dom || !(b.eccRead g 4).2
    | _ => false

theorem checked_of_allowed {c kind a n : Nat} {priv : Bool} {b : Block} (k : Block → BusEnd) (halign : (a % n == 0) = true)
    (hmpu : mpuDenied (b.hc c) priv kind a = none) : b.checked c priv kind a n k = k b := by
  simp [checked, halign, hmpu]

theorem fetched_fabricErr {c : Nat} (who : Who) (cause : Nat) {b : Block} (ht : b.Tame) : Fetched c b (b.fabricErr who cause) :=
  .of_recorded (raise_recorded _ _ _ ht (by decide))

theorem busRead_of_rom {c a n kind : Nat} {b : Block} (h : spot c a = .rom) :
    b.busRead c a n kind = .ok b.fresh.2 (BitVec.ofNat 32 (b.fresh.1.toNat % 2 ^ (8 * n))) := by
  simp only [busRead, h]

/-- A read of memory with power and without an uncorrectable word goes through. -/
theorem busRead_of_ram {c a n kind g dom : Nat} {b : Block} (ht : b.Tame) (h : spot c a = .ram g dom)
    (hok : (!b.pg dom || !(b.eccRead g n).2) = true) : ∃ b' v, b.busRead c a n kind = .ok b' v ∧ Fetched c b b' := by
  have hecc := eccRead_recorded g n b ht
  simp only [busRead, h]
  split
  case isTrue => exact ⟨_, _, rfl, fetched_fabricErr _ _ ht⟩
  case isFalse hpg =>
    have hsoft : (b.eccRead g n).2 = false := by simpa [hpg] using hok
    simp only [hsoft, Bool.false_eq_true, if_false]
    split
    · exact ⟨_, _, rfl, (Fetched.of_recorded hecc).trans (.fresh c _)⟩
    · exact ⟨_, _, rfl, .of_recorded hecc⟩

theorem fetchOne_of_fetchable {c a : Nat} {priv : Bool} {b : Block} (ht : b.Tame) (h : b.fetchableAt c priv a = true) :
    ∃ b' v, b.fetchOne c priv a = .ok b' v ∧ Fetched c b b' := by
  simp only [fetchableAt, Bool.and_eq_true, beq_iff_eq] at h
  obtain ⟨⟨halign, hmpu⟩, hspot⟩ := h
  rw [fetchOne, checked_of_allowed _ (by simpa using halign) hmpu]
  split at hspot
  case h_1 hrom => exact ⟨_, _, busRead_of_rom hrom, .fresh c b⟩
  case h_2 g dom hram => exact busRead_of_ram ht hram hspot
  case h_3 => cases hspot

theorem fetchable_of_fetchOne {c a : Nat} {priv : Bool} {b b' : Block} {v : Word} (h : b.fetchOne c priv a = .ok b' v)
    (hspot : ∀ off, spot c a ≠ .regs off) : b.fetchableAt c priv a = true := by
  unfold fetchOne checked at h
  split at h
  case isTrue => cases h
  case isFalse halign =>
    split at h
    case h_1 => cases h
    case h_2 hmpu =>
      have halign' : a % 4 = 0 := by simpa using halign
      simp only [fetchableAt, halign', hmpu, beq_self_eq_true, Bool.true_and]
      unfold busRead at h
      split at h
      case h_1 => cases h
      case h_2 => cases h
      case h_3 hrom => simp [hrom]
      case h_4 hregs => exact absurd hregs (hspot _)
      case h_5 g dom hram =>
        by_cases hpg : b.pg dom = true
        · cases hhard : (b.eccRead g 4).2
          · simp [hram, hhard]
          · simp [hpg, hhard] at h
        · simp [hram, hpg]

theorem Fetched.fetchableAt {c : Nat} {o b : Block} (h : Fetched c o b) (ht : o.Tame) (priv : Bool) (a : Nat) :
    b.fetchableAt c priv a = o.fetchableAt c priv a := by
  have hecc : ∀ g, (b.eccRead g 4).2 = (o.eccRead g 4).2 := fun g => by
    rw [eccRead_snd _ _ _ (h.tame ht), eccRead_snd _ _ _ ht, h.badEcc]
  simp only [Block.fetchableAt, h.mpuDenied, h.pg, hecc]

theorem fetchWords_of_fetchable {c : Nat} {priv : Bool} (n a : Nat) (b : Block) (ht : b.Tame)
    (h : ∀ i < n, b.fetchableAt c priv (a + 4 * i) = true) : ∃ b' v, b.fetchWords c priv a n = .ok b' v ∧ Fetched c b b' := by
  induction n generalizing a b with
  | zero => exact ⟨b, 0, rfl, .refl c b⟩
  | succ n ih =>
    obtain ⟨b₁, v, hone, hfirst⟩ := fetchOne_of_fetchable ht (h 0 (by omega))
    obtain ⟨b₂, w, hrest, hlast⟩ := ih (a + 4) b₁ (hfirst.tame ht) fun i hi => by
      rw [hfirst.fetchableAt ht, show a + 4 + 4 * i = a + 4 * (i + 1) by omega]
      exact h (i + 1) (by omega)
    refine ⟨b₂, w, ?_, hfirst.trans hlast⟩
    rw [Nat.mul_zero, Nat.add_zero] at hone
    rw [fetchWords, hone]
    exact hrest

theorem fetchable_of_fetchWords {c : Nat} {priv : Bool} (n a : Nat) {b b' : Block} {v : Word} (ht : b.Tame)
    (h : b.fetchWords c priv a n = .ok b' v) (hspot : ∀ i < n, ∀ off, spot c (a + 4 * i) ≠ .regs off) :
    ∀ i < n, b.fetchableAt c priv (a + 4 * i) = true := by
  induction n generalizing a b with
  | zero => exact fun i hi => absurd hi (Nat.not_lt_zero i)
  | succ n ih =>
    unfold fetchWords at h
    split at h
    case h_1 b₁ w hone =>
      have hfirst := fetchable_of_fetchOne hone (hspot 0 (by omega))
      obtain ⟨b₂, w₂, hone', hfetched⟩ := fetchOne_of_fetchable ht hfirst
      have hb : b₁ = b₂ := (BusEnd.ok.inj (hone.symm.trans hone')).1
      subst hb
      have hrest := ih (a + 4) (hfetched.tame ht) h fun i hi => by
        rw [show a + 4 + 4 * i = a + 4 * (i + 1) by omega]
        exact hspot (i + 1) (by omega)
      intro i hi
      cases i with
      | zero => exact hfirst
      | succ i =>
        rw [← hfetched.fetchableAt ht, show a + 4 * (i + 1) = a + 4 + 4 * i by omega]
        exact hrest i (by omega)
    case h_2 hother => exact absurd h (hother b' v)

/-- The fetch of the word at address a raises nothing. -/
def quietAt (c a : Nat) (b : Block) : Bool := match spot c a with
  | .rom => true
  | .ram g dom => b.pg dom && b.badEcc.all fun e => !decide (e.1 < g + 4 ∧ g < e.1 + 4)
  | _ => false

theorem quiet_iff {x : Exe} {words : Nat} {b : Block} :
    b.quiet x words = true ↔ ∀ i < words, b.quietAt (hcOf x) ((b.cpu x).pc.toNat + 4 * i) = true := by
  rw [quiet, List.all_eq_true]
  exact ⟨fun h i hi => h i (List.mem_range.mpr hi), fun h i hi => h i (List.mem_range.mp hi)⟩

theorem Fetched.quietAt {c d : Nat} {o b : Block} (h : Fetched c o b) (a : Nat) : b.quietAt d a = o.quietAt d a := by
  simp only [Block.quietAt, h.pg, h.badEcc]

theorem outOfReset_irq (c : Nat) (b : Block) : ((b.outOfReset c).hc c).irq = (b.hc c).irq := by
  unfold outOfReset
  split
  · rw [updHc_same]
  · rfl

/-- Such a fetch takes an open value at most. -/
theorem fetchOne_of_quiet {c a : Nat} {priv : Bool} {b b' : Block} {v : Word} (h : b.fetchOne c priv a = .ok b' v)
    (hq : b.quietAt c a = true) : b' = b ∨ b' = b.fresh.2 := by
  unfold fetchOne checked at h
  split at h
  · cases h
  · split at h
    · cases h
    · unfold quietAt at hq
      split at hq
      case h_1 hrom =>
        rw [busRead_of_rom hrom] at h
        exact .inr (BusEnd.ok.inj h).1.symm
      case h_2 g dom hram =>
        obtain ⟨hpg, hall⟩ := Bool.and_eq_true_iff.mp hq
        have hclean : (b.badEcc.filter fun e => decide (e.1 < g + 4 ∧ g < e.1 + 4)) = [] := by
          rw [List.filter_eq_nil_iff]
          intro e he
          have hmiss := List.all_eq_true.mp hall e he
          rw [Bool.not_eq_true'] at hmiss
          exact hmiss ▸ Bool.false_ne_true
        simp only [busRead, hram, hpg, eccRead_of_clean hclean, eccOpen_of_clean hclean, Bool.not_true, Bool.false_eq_true,
          if_false] at h
        exact .inl (BusEnd.ok.inj h).1.symm
      case h_3 => cases hq

theorem fetchWords_of_quiet {c : Nat} {priv : Bool} (n a : Nat) {b b' : Block} {v : Word}
    (h : b.fetchWords c priv a n = .ok b' v) (hq : ∀ i < n, b.quietAt c (a + 4 * i) = true) : b'.core = b.core := by
  induction n generalizing a b with
  | zero => rw [(BusEnd.ok.inj h).1]
  | succ n ih =>
    unfold fetchWords at h
    split at h
    case h_1 b₁ w hone =>
      have hrest : ∀ i < n, b.quietAt c (a + 4 + 4 * i) = true := fun i hi => by
        rw [show a + 4 + 4 * i = a + 4 * (i + 1) by omega]
        exact hq (i + 1) (by omega)
      rcases fetchOne_of_quiet hone (hq 0 (by omega)) with rfl | rfl
      · exact ih (a + 4) h hrest
      · exact ih (b := b.fresh.2) (a + 4) h hrest
    case h_2 hother => exact absurd h (hother b' v)

/-! ### An instruction behind its fetch -/

/-- The core of x runs, and each word of an instruction at its address can be fetched. -/
structure Fetches (x : Exe) (words : Nat) (b : Block) : Prop where
  ready : b.coreReady (hcOf x) = true
  agree : (hcOf x == 0 && x.diff) = false
  words : ∀ i < words, b.fetchableAt (hcOf x) (b.cpu x).priv ((b.cpu x).pc.toNat + 4 * i) = true

theorem fetches_spec {x : Exe} {words : Nat} {b : Block} (ht : b.Tame) (h : b.fetches x words = true) :
    x.bad = false ∧ Fetches x words b := by
  simp only [fetches, Bool.and_eq_true, Bool.not_eq_true', List.all_eq_true, List.mem_range] at h
  obtain ⟨⟨⟨⟨hready, hagree⟩, hbad⟩, hspot⟩, hwords⟩ := h
  refine ⟨hbad, hready, hagree, ?_⟩
  split at hwords
  case h_1 b' v hok =>
    refine fetchable_of_fetchWords words _ ht hok fun i hi off hregs => ?_
    have hat := hspot i hi
    rw [hregs] at hat
    cases hat
  case h_2 => cases hwords

/-- How an instruction goes on behind its fetch. -/
theorem instr_of_fetches {x : Exe} {words : Nat} {b : Block} (rk : RepKind) (op : Nat → Block → Run) (ht : b.Tame)
    (h : Fetches x words b) :
    ∃ b₀ b', Fetched (hcOf x) b b₀ ∧ Fetched (hcOf x) b b' ∧ (b.quiet x words = true → (b'.cpu x).irq = (b.cpu x).irq) ∧
      b.instr x words rk op =
      if x.bad then b'.trapTo (hcOf x) (b.cpu x).pc (causeWord { vec := 1 } (!((b.cpu x).rep == 0)) (b.cpu x).rep) 0 b₀
      else if !((b.cpu x).rep == 0) && rk == .never then
        b'.trapTo (hcOf x) ((b.cpu x).pc - 4) (causeWord { vec := 1 } false 0) 0 b₀
      else endRun (hcOf x) words (b.cpu x).pc (!((b.cpu x).rep == 0)) b₀
        (repeatRun (op (hcOf x)) (if !((b.cpu x).rep == 0) && rk == .many then (b.cpu x).rep else 1) b') := by
  have hreset := Fetched.outOfReset (hcOf x) b
  obtain ⟨b', v, hfetch, hfetched⟩ := fetchWords_of_fetchable words _ _ (hreset.tame ht) fun i hi => by
    rw [hreset.fetchableAt ht]
    exact h.words i hi
  refine ⟨b.outOfReset (hcOf x), b', hreset, hreset.trans hfetched, fun hquiet => ?_, ?_⟩
  · have hcore := fetchWords_of_quiet words _ hfetch fun i hi => by
      rw [hreset.quietAt]
      exact quiet_iff.mp hquiet i hi
    have hirq : ((b.outOfReset (hcOf x)).hc (hcOf x)).irq = (b.cpu x).irq := outOfReset_irq ..
    rwa [hc, ← hcore] at hirq
  have hpriv : ((b.outOfReset (hcOf x)).hc (hcOf x)).priv = (b.cpu x).priv := by rw [hreset.core]; rfl
  have hpc : ((b.outOfReset (hcOf x)).hc (hcOf x)).pc = (b.cpu x).pc := by rw [hreset.core]; rfl
  have hrep : ((b.outOfReset (hcOf x)).hc (hcOf x)).rep = (b.cpu x).rep := by rw [hreset.core]; rfl
  simp only [instr, h.ready, h.agree, Bool.not_true, Bool.false_eq_true, if_false, hpriv, hpc, hrep, hfetch]

/-! ### A core that has gone on -/

end Block

namespace HepCore

/-- The core behind the instruction at an address. -/
def retire (addr : Word) (words : Nat) (h : HepCore) : HepCore :=
  { (Block.afterInstr addr words h).2 with pc := (Block.afterInstr addr words h).1, rep := 0 }

end HepCore

namespace Block

theorem advance_eq (c : Nat) (addr : Word) (words : Nat) (b : Block) :
    b.advance c addr words = b.updHc c (HepCore.retire addr words) := rfl

/-- A loop end changes the loop counts only. -/
theorem loopEnd_snd (addr : Word) (k : Nat) (nx : Word) (h : HepCore) :
    (loopEnd addr k nx h).2 = { h with lc := (loopEnd addr k nx h).2.lc } := by
  induction k generalizing h with
  | zero => rfl
  | succ k ih =>
    simp only [loopEnd]
    split
    · split
      · rw [ih]
      · rfl
    · exact ih h

theorem afterInstr_snd (addr : Word) (words : Nat) (h : HepCore) :
    (afterInstr addr words h).2 = { h with lc := (afterInstr addr words h).2.lc } := by
  unfold afterInstr
  split
  · exact loopEnd_snd ..
  · rfl

/-- A loop end looks at the loop levels only. -/
theorem loopEnd_congr (addr : Word) (k : Nat) (nx : Word) {g h : HepCore} (hls : ∀ i, Tab.get 0 h.ls i = Tab.get 0 g.ls i)
    (hle : ∀ i, Tab.get 0 h.le i = Tab.get 0 g.le i) (hlc : h.lc = g.lc) :
    (loopEnd addr k nx h).1 = (loopEnd addr k nx g).1 ∧ (loopEnd addr k nx h).2.lc = (loopEnd addr k nx g).2.lc := by
  induction k generalizing g h with
  | zero => exact ⟨rfl, hlc⟩
  | succ k ih =>
    simp only [loopEnd, hls, hle, hlc]
    split
    · split
      · exact ih hls hle rfl
      · exact ⟨rfl, rfl⟩
    · exact ih hls hle hlc

theorem afterInstr_congr (addr : Word) (words : Nat) {g h : HepCore} (hls : ∀ i, Tab.get 0 h.ls i = Tab.get 0 g.ls i)
    (hle : ∀ i, Tab.get 0 h.le i = Tab.get 0 g.le i) (hlc : h.lc = g.lc) (hopen : h.sr.getLsbD 7 = g.sr.getLsbD 7) :
    (afterInstr addr words h).1 = (afterInstr addr words g).1 ∧
      (afterInstr addr words h).2.lc = (afterInstr addr words g).2.lc := by
  simp only [afterInstr, hopen]
  split
  · exact loopEnd_congr _ _ _ hls hle hlc
  · exact ⟨rfl, hlc⟩

end Block

namespace HepCore

theorem retire_eq (addr : Word) (words : Nat) (h : HepCore) :
    h.retire addr words = { h with
      lc := (Block.afterInstr addr words h).2.lc, pc := (Block.afterInstr addr words h).1, rep := 0 } := by
  rw [retire, Block.afterInstr_snd]

variable (addr : Word) (words : Nat) (h : HepCore)

@[simp] theorem retire_pc : (h.retire addr words).pc = (Block.afterInstr addr words h).1 := rfl
@[simp] theorem retire_lc : (h.retire addr words).lc = (Block.afterInstr addr words h).2.lc := rfl
@[simp] theorem retire_rep : (h.retire addr words).rep = 0 := rfl
@[simp] theorem retire_sr : (h.retire addr words).sr = h.sr := by rw [retire_eq]
@[simp] theorem retire_getD (n : Nat) : (h.retire addr words).getD n = h.getD n := by rw [retire_eq]; rfl
@[simp] theorem retire_getA (n : Nat) : (h.retire addr words).getA n = h.getA n := by rw [retire_eq]; rfl
@[simp] theorem retire_getAcc (n : Nat) : (h.retire addr words).getAcc n = h.getAcc n := by rw [retire_eq]; rfl

@[simp] theorem getA_setA (n : Nat) (v : Word) : (h.setA n v).getA n = v := by
  unfold setA getA
  split
  · split <;> simp_all [priv]
  · simp

theorem getA_setA_ne {n m : Nat} (v : Word) (hm : m ≠ n) : (h.setA n v).getA m = h.getA m := by
  by_cases hn : n = 15
  · have hm15 : m ≠ 15 := hn ▸ hm
    cases hpriv : h.priv <;> simp [setA, getA, hn, hm15, hpriv]
  · simp [setA, getA, hn, Tab.get_put_ne _ _ _ hm, priv]

end HepCore

/-! ### Registers of a core that stay -/

/-- Beside these registers, two states of a core agree. -/
def CoreSame (cs : List CorePart) (g h : HepCore) : Prop := ∀ p, p ∉ cs → p.Same g h

namespace CoreSame

variable {cs ds : List CorePart} {g h k : HepCore}

theorem refl (cs : List CorePart) (h : HepCore) : CoreSame cs h h := fun p _ => by cases p <;> rfl

theorem trans (hg : CoreSame cs g h) (hh : CoreSame cs h k) : CoreSame cs g k := fun p hp => by
  have h₁ := hg p hp
  have h₂ := hh p hp
  cases p <;> exact Eq.trans h₂ h₁

theorem mono (hsame : CoreSame cs g h) (hsub : cs ⊆ ds) : CoreSame ds g h := fun p hp => hsame p fun hmem => hp (hsub hmem)

/-- Pending sources and the end of a reset are no registers. -/
theorem irq_young (cs : List CorePart) (h : HepCore) (i : Tab Nat) (y : Bool) :
    CoreSame cs h (h.fetched i y) := fun p _ => by cases p <;> rfl

theorem setD (h : HepCore) (n : Nat) (v : Word) : CoreSame [.d n] h (h.setD n v) := fun p hp => by
  cases p with
  | d m => exact HepCore.getD_setD_ne h v fun he => hp (by simp [he])
  | _ => rfl

theorem setAcc (h : HepCore) (n : Nat) (v : BitVec 72) : CoreSame [.acc n] h (h.setAcc n v) := fun p hp => by
  cases p with
  | acc m => exact Tab.get_put_ne _ _ _ fun he => hp (by simp [he])
  | _ => rfl

theorem setA (h : HepCore) (n : Nat) (v : Word) : CoreSame [.ofA h n] h (h.setA n v) := fun p hp => by
  unfold HepCore.setA
  simp only [CorePart.ofA, List.mem_singleton] at hp
  split
  case isTrue hn =>
    rw [if_pos hn] at hp
    split
    case isTrue hpriv => rw [if_pos hpriv] at hp; cases p <;> first | rfl | exact absurd rfl hp
    case isFalse hpriv => rw [if_neg hpriv] at hp; cases p <;> first | rfl | exact absurd rfl hp
  case isFalse hn =>
    rw [if_neg hn] at hp
    cases p with
    | a m => exact Tab.get_put_ne _ _ _ fun he => hp (by simp [he])
    | _ => rfl

theorem sr (h : HepCore) (v : Word) : CoreSame [.sr] h { h with sr := v } := fun p hp => by
  cases p with
  | sr => simp at hp
  | _ => rfl

theorem retire (addr : Word) (words : Nat) (h : HepCore) : CoreSame [.pc, .lc, .rep] h (h.retire addr words) := fun p hp => by
  rw [HepCore.retire_eq]
  cases p with
  | pc | lc | rep => simp at hp
  | _ => rfl

end CoreSame

/-- None of these registers is part of a loop level. -/
def LoopFree (cs : List CorePart) : Prop := ∀ p ∈ cs, p ≠ .lc ∧ ∀ k, p ≠ .ls k ∧ p ≠ .le k

theorem loopFree_ofA (h : HepCore) (n : Nat) : CorePart.ofA h n ≠ .lc ∧ ∀ k, CorePart.ofA h n ≠ .ls k ∧ CorePart.ofA h n ≠ .le k := by
  unfold CorePart.ofA
  split
  · split <;> simp
  · simp

namespace Part

theorem Same.symm {a b : Block} {p : Part} (h : p.Same a b) : p.Same b a := by
  cases p with
  | core n =>
    simp only [Part.Same] at h ⊢
    rw [h]
  | chn =>
    simp only [Part.Same] at h ⊢
    rw [← h]
  | lampLimits | lsBy | vlvFault | hot => exact ⟨h.1.symm, h.2.symm⟩
  | net | queues => simp_all [Part.Same]
  | _ => exact Eq.symm h

end Part

theorem Block.Beside.symm {l : List Nat} {ps : List Part} {a b : Block} (h : a.Beside l ps b) : b.Beside l ps a :=
  ⟨fun d off hl hr => (h.1 d off hl hr).symm, fun p hp => (h.2 p hp).symm⟩

namespace Block

/-- The core of x has changed in these registers, beside its address, its loop counts and its repeat counter. -/
theorem coreBeside_of_within {x : Exe} {cs : List CorePart} {l : List Nat} {ps : List Part} {o b : Block}
    (hw : o.Within l (.core (hcOf x) :: ps) b) (hcore : CoreSame (cs ++ [.pc, .lc, .rep]) (o.cpu x) (b.cpu x)) :
    o.CoreBeside x cs l ps b :=
  ⟨fun p hp hne => hcore p fun hmem => (List.mem_append.mp hmem).elim hp hne, hw.beside.symm⟩

theorem CoreBeside.symm {x : Exe} {cs : List CorePart} {l : List Nat} {ps : List Part} {o b : Block}
    (h : o.CoreBeside x cs l ps b) : b.CoreBeside x cs l ps o :=
  ⟨fun p hp hne => by
    have hsame := h.1 p hp hne
    cases p <;> exact Eq.symm hsame, h.2.symm⟩

/-- A core that has gone on behind an instruction that changed these registers. -/
theorem past_of_retire {x : Exe} {words : Nat} {cs : List CorePart} {o b : Block} {k : HepCore}
    (hw : o.Within [] [.core (hcOf x)] b) (hcore : b.cpu x = k.retire (o.cpu x).pc words)
    (hsame : CoreSame cs (o.cpu x) k) (hfree : LoopFree cs) : o.Past x words cs b := by
  have hlc : k.lc = (o.cpu x).lc := hsame .lc fun hmem => (hfree _ hmem).1 rfl
  have hls : ∀ i, Tab.get 0 k.ls i = Tab.get 0 (o.cpu x).ls i := fun i => hsame (.ls i) fun hmem => ((hfree _ hmem).2 i).1 rfl
  have hle : ∀ i, Tab.get 0 k.le i = Tab.get 0 (o.cpu x).le i := fun i => hsame (.le i) fun hmem => ((hfree _ hmem).2 i).2 rfl
  obtain ⟨hpc, hcounts⟩ := afterInstr_congr (o.cpu x).pc words (g := { o.cpu x with sr := (b.cpu x).sr }) hls hle hlc
    (by rw [hcore, HepCore.retire_sr])
  have hchanged : CoreSame (cs ++ [.pc, .lc, .rep]) (o.cpu x) (k.retire (o.cpu x).pc words) :=
    (hsame.mono (List.subset_append_left _ _)).trans ((CoreSame.retire _ _ k).mono (List.subset_append_right _ _))
  exact ⟨(congrArg HepCore.pc hcore).trans hpc, (congrArg HepCore.lc hcore).trans hcounts, congrArg HepCore.rep hcore,
    (coreBeside_of_within hw (hcore ▸ hchanged)).symm⟩

/-- Where SR is as before, it need not be named. -/
theorem Past.of_sr {x : Exe} {words : Nat} {cs : List CorePart} {o b : Block} (h : o.Past x words (cs ++ [.sr]) b)
    (hsr : (b.cpu x).sr = (o.cpu x).sr) : o.Past x words cs b := by
  obtain ⟨hpc, hlc, hrep, hcore, hbeside⟩ := h
  refine ⟨hpc, hlc, hrep, fun p hp hne => ?_, hbeside⟩
  by_cases hp' : p = .sr
  · rw [hp']; exact hsr.symm
  · exact hcore p (by simp [hp, hp']) hne

end Block

/-! ### Instructions that complete -/

/-- How often an instruction of this kind runs at a core. -/
def RepKind.runs (rk : RepKind) (h : HepCore) : Nat := if !(h.rep == 0) && rk == .many then h.rep else 1

theorem RepKind.runs_eq_one {rk : RepKind} {h : HepCore} (hrep : h.rep ≤ 1 ∨ rk ≠ .many) : rk.runs h = 1 := by
  unfold runs
  split
  case isTrue hmany =>
    obtain ⟨hne, hrk⟩ := Bool.and_eq_true_iff.mp hmany
    have hpos : h.rep ≠ 0 := by simpa using hne
    rcases hrep with hle | hne
    · omega
    · exact absurd (by cases rk <;> simp_all) hne
  case isFalse => rfl

theorem Block.repeatRun_one {op : Block → Run} {b b' : Block} (h : op b = .done b') : repeatRun op 1 b = (.done b', 0) := by
  rw [repeatRun, h]
  rfl

/-- How an instruction runs once its fetch has gone through. -/
theorem Block.instr_eq_endRun {x : Exe} {words : Nat} {rk : RepKind} (op : Nat → Block → Run) {b : Block}
    (hready : b.Ready) (hf : b.fetches x words = true) (hrk : rk ≠ .never ∨ (b.cpu x).rep = 0) :
    ∃ b₀ b', Fetched (hcOf x) b b' ∧ (b.quiet x words = true → (b'.cpu x).irq = (b.cpu x).irq) ∧
      b.instr x words rk op = endRun (hcOf x) words (b.cpu x).pc (!((b.cpu x).rep == 0)) b₀
        (repeatRun (op (hcOf x)) (rk.runs (b.cpu x)) b') := by
  have ht : b.Tame := hready.2.1
  obtain ⟨hbad, hfetches⟩ := fetches_spec ht hf
  obtain ⟨b₀, b', -, hfetched, hquiet, hinstr⟩ := instr_of_fetches rk op ht hfetches
  have hnever : (!((b.cpu x).rep == 0) && rk == .never) = false := by
    rcases hrk with h | h
    · cases rk <;> simp_all
    · simp [h]
  refine ⟨b₀, b', hfetched, hquiet, ?_⟩
  rw [hinstr, hbad, hnever]
  rfl

section

variable {c : Instr} {s : State} {x : Exe} {words : Nat} {rk : RepKind} {op : Nat → Block → Run} {E : Block → Prop}

/-- An instruction whose executions have this effect on the block, which changes the core of x as f says. -/
theorem completes_of_effect {l : List Nat} {ps : List Part} (f : HepCore → HepCore) (effect : Block → Block)
    (hexec : exec c s = s.act fun b => b.instr x words rk op)
    (hready : s.blk.Ready) (hf : s.blk.fetches x words = true) (hrk : rk ≠ .never ∨ (s.blk.cpu x).rep = 0)
    (hop : ∀ b : Block, Block.Fetched (Block.hcOf x) s.blk b →
      Block.repeatRun (op (Block.hcOf x)) (rk.runs (s.blk.cpu x)) b = (.done (effect b), 0))
    (hw : ∀ b : Block, Block.Fetched (Block.hcOf x) s.blk b → b.Within l (.core (Block.hcOf x) :: ps) (effect b))
    (hcore : ∀ b : Block, (effect b).hc (Block.hcOf x) = f (b.hc (Block.hcOf x)))
    (hl : ∀ o ∈ l, readyReg o = false) (hps : .pw ∉ ps)
    (hE : ∀ i y b b', Block.Fetched (Block.hcOf x) s.blk b' → s.blk.Within l (.core (Block.hcOf x) :: ps) b →
      b.cpu x = (f ((s.blk.cpu x).fetched i y)).retire (s.blk.cpu x).pc words →
      b = (effect b').updHc (Block.hcOf x) (HepCore.retire (s.blk.cpu x).pc words) → E b) : Completes c s E := by
  obtain ⟨b₀, b', hfetched, -, hinstr⟩ := Block.instr_eq_endRun op hready hf hrk
  have hrun : s.blk.instr x words rk op = (effect b').updHc (Block.hcOf x) (HepCore.retire (s.blk.cpu x).pc words) := by
    rw [hinstr, hop b' hfetched]
    rfl
  have hwithin : s.blk.Within l (.core (Block.hcOf x) :: ps) (s.blk.instr x words rk op) := by
    rw [hrun]
    exact ((hfetched.within.mono (by simp) (by simp)).trans (hw b' hfetched)).trans ⟨Block.beside_updHc _ _ _ _ (.head _), rfl⟩
  refine completes_of_within hexec hready hwithin hl (by simpa using hps)
    (hE (b'.cpu x).irq (b'.cpu x).young _ b' hfetched hwithin ?_ hrun)
  rw [hrun, Block.cpu, Block.updHc_same, hcore, hfetched.core]

/-- An instruction whose executions change the core of x, and nothing else. -/
theorem completes_of_done (f : HepCore → HepCore) (hexec : exec c s = s.act fun b => b.instr x words rk op)
    (hready : s.blk.Ready) (hf : s.blk.fetches x words = true) (hrk : rk ≠ .never ∨ (s.blk.cpu x).rep = 0)
    (hop : ∀ b : Block, Block.Fetched (Block.hcOf x) s.blk b →
      Block.repeatRun (op (Block.hcOf x)) (rk.runs (s.blk.cpu x)) b = (.done (b.updHc (Block.hcOf x) f), 0))
    (hE : ∀ i y b, s.blk.Within [] [.core (Block.hcOf x)] b →
      b.cpu x = (f ((s.blk.cpu x).fetched i y)).retire (s.blk.cpu x).pc words → E b) : Completes c s E :=
  completes_of_effect f (·.updHc (Block.hcOf x) f) hexec hready hf hrk hop
    (fun _ _ => ⟨Block.beside_updHc _ _ _ _ (.head _), rfl⟩) (fun _ => Block.updHc_same ..) (by simp) (by simp)
    fun i y b _ _ hwithin hcpu _ => hE i y b hwithin hcpu

/-- An instruction that runs once. -/
theorem completes_of_once (f : HepCore → HepCore) (hexec : exec c s = s.act fun b => b.instr x words .many op)
    (hready : s.blk.Ready) (hf : s.blk.fetches x words = true) (hrep : (s.blk.cpu x).rep ≤ 1)
    (hop : ∀ b : Block, Block.Fetched (Block.hcOf x) s.blk b → op (Block.hcOf x) b = .done (b.updHc (Block.hcOf x) f))
    (hE : ∀ i y b, s.blk.Within [] [.core (Block.hcOf x)] b →
      b.cpu x = (f ((s.blk.cpu x).fetched i y)).retire (s.blk.cpu x).pc words → E b) : Completes c s E :=
  completes_of_done f hexec hready hf (.inl (by decide))
    (fun b hb => by rw [RepKind.runs_eq_one (.inl hrep), Block.repeatRun_one (hop b hb)]) hE

end

end Sys2Proof.Machine
end

section
/-! PROOFS. The flags of a result, and the values and flags of the operations as the rules of arithmetic give them. -/
namespace Sys2Proof.Machine

/-! ### SR behind a result -/

/-- The flags that a result writes. -/
def Alu.flagList (r : Alu) : List (Nat × Bool) :=
  (if r.dz then [(13, true)] else []) ++ (match r.c with
    | some c => [(8, c)]
    | none => []) ++ (match r.v with
    | some v => [(11, v)]
    | none => []) ++ if r.zn then flagZN r.val else []

theorem getLsbD_withBit (w : Word) (i j : Nat) (v : Bool) (hi : i < 32) :
    (withBit w i v).getLsbD j = if j = i then v else w.getLsbD j := by
  have hmask : ((1 : Word) <<< i).getLsbD j = decide (j = i) := by
    rw [BitVec.getLsbD_shiftLeft, show (1 : Word) = 1#32 from rfl, BitVec.getLsbD_one]
    by_cases h : j = i
    · simp [h, hi]
    · simp [h]
      omega
  have hclear : (~~~ ((1 : Word) <<< i)).getLsbD j = (decide (j < 32) && !decide (j = i)) := by rw [BitVec.getLsbD_not, hmask]
  cases v
  · simp only [withBit, Bool.false_eq_true, if_false, BitVec.getLsbD_and, hclear]
    by_cases h : j = i
    · simp [h]
    · by_cases h32 : j < 32
      · simp [h, h32]
      · simp [h, h32, BitVec.getLsbD_of_ge w j (by omega)]
  · simp only [withBit, if_true, BitVec.getLsbD_or, hmask]
    by_cases h : j = i <;> simp [h]

theorem srBits_iff {fl : List (Nat × Bool)} {sr sr' : Word} :
    srBits fl sr sr' = true ↔ ∀ i < 32, sr'.getLsbD i = (fl.lookup i).getD (sr.getLsbD i) := by
  simp [srBits]

theorem srBits_nil (sr : Word) : srBits [] sr sr = true := srBits_iff.mpr fun _ _ => rfl

theorem lookup_cons_eq (i k : Nat) (v : Bool) (l : List (Nat × Bool)) :
    List.lookup i ((k, v) :: l) = if i = k then some v else l.lookup i := by
  by_cases h : i = k
  · simp [h]
  · rw [List.lookup_cons, if_neg h, beq_false_of_ne h]

/-- One flag written. -/
theorem srBits_withBit (i : Nat) (v : Bool) (sr : Word) (hi : i < 32) : srBits [(i, v)] sr (withBit sr i v) = true := by
  rw [srBits_iff]
  intro j _
  rw [getLsbD_withBit _ _ _ _ hi, lookup_cons_eq]
  by_cases h : j = i <;> simp [h]

/-- The flags of a result stand in SR, and its other bits are as before (R518). -/
theorem srBits_flags (r : Alu) (sr : Word) : srBits r.flagList sr (r.flags sr) = true := by
  rw [srBits_iff]
  intro i hi
  obtain ⟨val, c, v, zn, dz⟩ := r
  have hmsb : val.msb = val.getLsbD 31 := by simp [BitVec.msb_eq_getLsbD_last]
  cases c <;> cases v <;> cases zn <;> cases dz <;>
    simp only [Alu.flags, Alu.flagList, SR.c, SR.z, SR.n, SR.v, SR.dz, flagZN, if_true, Bool.false_eq_true, if_false,
      List.nil_append, List.append_nil, List.cons_append, lookup_cons_eq, List.lookup_nil, Nat.reduceLT, getLsbD_withBit, hmsb] <;>
    grind

/-! ### Instructions that write a result -/

/-- The core behind a result. -/
def HepCore.putResult (rd : Nat) (F : HepCore → Alu) (h : HepCore) : HepCore :=
  { h.setD rd (F h).val with sr := (F h).flags h.sr }

theorem CoreSame.putResult (rd : Nat) (F : HepCore → Alu) (h : HepCore) : CoreSame [.d rd, .sr] h (h.putResult rd F) :=
  ((CoreSame.setD h rd (F h).val).mono (by simp)).trans ((CoreSame.sr _ _).mono (by simp))

/-- Without a zero divisor that traps, writing a result completes. -/
theorem Block.putResult_of_no_trap {c : Nat} (rd : Nat) (F : HepCore → Alu) {b : Block}
    (h : ((F (b.hc c)).dz && (b.hc c).divcfg.getLsbD 0) = false) :
    b.putResult c rd (F (b.hc c)) = .done (b.updHc c (HepCore.putResult rd F)) := by
  have hcfg : ((b.updHc c (HepCore.putResult rd F)).hc c).divcfg = (b.hc c).divcfg := by rw [Block.updHc_same]; rfl
  refine (if_neg ?_ : b.putResult c rd (F (b.hc c)) = _)
  exact (congrArg (fun d : Word => (F (b.hc c)).dz && d.getLsbD 0) hcfg).trans h ▸ Bool.false_ne_true

theorem loopFree_d_sr (rd : Nat) : LoopFree [.d rd, .sr] := by simp [LoopFree]

section

variable {c : Instr} {s : State} {x : Exe} {words rd : Nat} {F : HepCore → Alu} {E : Block → Prop}

/-- An instruction that writes a result and its flags, and takes no exception for a zero divisor. -/
theorem completes_putResult
    (hexec : exec c s = s.act fun b => b.instr x words .many fun c b => b.putResult c rd (F (b.hc c)))
    (hready : s.blk.Ready) (hf : s.blk.fetches x words = true) (hrep : (s.blk.cpu x).rep ≤ 1)
    (hF : ∀ i y, F ((s.blk.cpu x).fetched i y) = F (s.blk.cpu x))
    (hdz : (F (s.blk.cpu x)).dz = false ∨ (s.blk.cpu x).divcfg.getLsbD 0 = false)
    (hE : ∀ b, (b.cpu x).getD rd = (F (s.blk.cpu x)).val → (b.cpu x).sr = (F (s.blk.cpu x)).flags (s.blk.cpu x).sr →
      s.blk.Past x words [.d rd, .sr] b → E b) : Completes c s E := by
  refine completes_of_once (HepCore.putResult rd F) hexec hready hf hrep (fun b hb => ?_) fun i y b hw hcore => ?_
  · refine Block.putResult_of_no_trap rd F ?_
    have hval : F (b.hc (Block.hcOf x)) = F (s.blk.cpu x) := by rw [hb.core, hF]
    have hcfg : (b.hc (Block.hcOf x)).divcfg = (s.blk.cpu x).divcfg := by rw [hb.core]; rfl
    rw [hval, hcfg]
    rcases hdz with h | h <;> simp only [h, Bool.false_and, Bool.and_false]
  · refine hE b ?_ ?_ (Block.past_of_retire hw hcore ?_ (loopFree_d_sr rd))
    · rw [hcore, HepCore.retire_getD, ← hF i y]
      exact HepCore.getD_setD ..
    · rw [hcore, HepCore.retire_sr, ← hF i y]
      rfl
    · exact (CoreSame.irq_young _ _ i y).trans (CoreSame.putResult rd F _)

/-- A result whose value and flags are these. -/
theorem completes_flags {v : Word} {fl : List (Nat × Bool)}
    (hexec : exec c s = s.act fun b => b.instr x words .many fun c b => b.putResult c rd (F (b.hc c)))
    (hready : s.blk.Ready) (hf : s.blk.fetches x words = true) (hrep : (s.blk.cpu x).rep ≤ 1)
    (hF : ∀ i y, F ((s.blk.cpu x).fetched i y) = F (s.blk.cpu x))
    (hdz : (F (s.blk.cpu x)).dz = false ∨ (s.blk.cpu x).divcfg.getLsbD 0 = false)
    (hval : (F (s.blk.cpu x)).val = v) (hfl : (F (s.blk.cpu x)).flagList = fl) :
    Completes c s fun b => (b.cpu x).getD rd = v ∧ srBits fl (s.blk.cpu x).sr (b.cpu x).sr = true ∧
      s.blk.Past x words [.d rd, .sr] b :=
  completes_putResult hexec hready hf hrep hF hdz fun b hv hsr hpast =>
    ⟨hv.trans hval, by rw [hsr, ← hfl]; exact srBits_flags .., hpast⟩

/-- A result without flags. -/
theorem completes_plain {g : HepCore → Word} {v : Word}
    (hexec : exec c s = s.act fun b => b.instr x words .many fun c b => b.putResult c rd (.plain (g (b.hc c))))
    (hready : s.blk.Ready) (hf : s.blk.fetches x words = true) (hrep : (s.blk.cpu x).rep ≤ 1)
    (hg : ∀ i y, g ((s.blk.cpu x).fetched i y) = g (s.blk.cpu x)) (hv : g (s.blk.cpu x) = v) :
    Completes c s fun b => (b.cpu x).getD rd = v ∧ s.blk.Past x words [.d rd] b :=
  completes_putResult (F := fun h => .plain (g h)) hexec hready hf hrep (fun i y => congrArg Alu.plain (hg i y)) (.inl rfl)
    fun _ hval hsr hpast => ⟨hval.trans hv, Block.Past.of_sr hpast hsr⟩

/-- A comparison. -/
theorem completes_compare {fl : List (Nat × Bool)}
    (hexec : exec c s = s.act fun b => b.instr x words .many fun c b =>
      .done (b.updHc c fun h => { h with sr := (F h).flags h.sr }))
    (hready : s.blk.Ready) (hf : s.blk.fetches x words = true) (hrep : (s.blk.cpu x).rep ≤ 1)
    (hF : ∀ i y, F ((s.blk.cpu x).fetched i y) = F (s.blk.cpu x)) (hfl : (F (s.blk.cpu x)).flagList = fl) :
    Completes c s fun b => srBits fl (s.blk.cpu x).sr (b.cpu x).sr = true ∧ s.blk.Past x words [.sr] b := by
  refine completes_of_once (fun h => { h with sr := (F h).flags h.sr }) hexec hready hf hrep (fun _ _ => rfl)
    fun i y b hw hcore => ⟨?_, Block.past_of_retire hw hcore ?_ (by simp [LoopFree])⟩
  · rw [hcore, HepCore.retire_sr, ← hfl, ← hF i y]
    exact srBits_flags ..
  · exact (CoreSame.irq_young _ _ i y).trans (CoreSame.sr _ _)

/-- An operation that writes an A register. -/
theorem completes_address {ad : Nat} {g : HepCore → Word} {v : Word}
    (hexec : exec c s = s.act fun b => b.instr x words .many fun c b => .done (b.updHc c fun h => h.setA ad (g h)))
    (hready : s.blk.Ready) (hf : s.blk.fetches x words = true) (hrep : (s.blk.cpu x).rep ≤ 1)
    (hg : ∀ i y, g ((s.blk.cpu x).fetched i y) = g (s.blk.cpu x)) (hv : g (s.blk.cpu x) = v) :
    Completes c s fun b => (b.cpu x).getA ad = v ∧ s.blk.Past x words [.ofA (s.blk.cpu x) ad] b := by
  refine completes_of_once (fun h => h.setA ad (g h)) hexec hready hf hrep (fun _ _ => rfl)
    fun i y b hw hcore => ⟨?_, Block.past_of_retire hw hcore ?_ ?_⟩
  · rw [hcore, HepCore.retire_getA, HepCore.getA_setA, hg, hv]
  · exact (CoreSame.irq_young _ _ i y).trans (CoreSame.setA ((s.blk.cpu x).fetched i y) _ _)
  · simpa [LoopFree] using loopFree_ofA (s.blk.cpu x) ad

end

end Sys2Proof.Machine
end

section
/-! PROOFS. The values and flags of the operations on two words, as the rules of arithmetic give them. -/
namespace Sys2Proof.Machine

/-- The fifteen conditions in the order of their numbers (R517). -/
theorem condTrue_eq_getD (sr : Word) (k : Fin 15) :
    condTrue sr k = [true, sr.getLsbD 9, !sr.getLsbD 9, sr.getLsbD 8, !sr.getLsbD 8, sr.getLsbD 10, !sr.getLsbD 10,
      sr.getLsbD 11, !sr.getLsbD 11, sr.getLsbD 8 && !sr.getLsbD 9, !sr.getLsbD 8 || sr.getLsbD 9,
      sr.getLsbD 10 == sr.getLsbD 11, sr.getLsbD 10 != sr.getLsbD 11, !sr.getLsbD 9 && sr.getLsbD 10 == sr.getLsbD 11,
      sr.getLsbD 9 || sr.getLsbD 10 != sr.getLsbD 11].getD k false := by
  fin_cases k <;> rfl

theorem outside_eq (i : Int) : outside i = !fits i := by
  simp only [outside, fits, ← decide_not]
  exact decide_eq_decide.mpr (by omega)

theorem toInt_range (a : Word) : -2147483648 ≤ a.toInt ∧ a.toInt ≤ 2147483647 := by
  have hlo := BitVec.le_toInt a
  have hhi := BitVec.toInt_lt (x := a)
  omega

/-- A signed value that 32 bits hold is the value of its word. -/
theorem toInt_ofInt_of_range {i : Int} (hlo : -2147483648 ≤ i) (hhi : i ≤ 2147483647) : (BitVec.ofInt 32 i).toInt = i := by
  rw [BitVec.toInt_ofInt]
  exact Int.bmod_eq_of_le (by omega) (by omega)

theorem clamp32_of_fits {i : Int} (h : fits i = true) : clamp32 i = BitVec.ofInt 32 i := by
  obtain ⟨hlo, hhi⟩ := of_decide_eq_true h
  rw [clamp32, min_eq_right hhi, max_eq_right hlo]

theorem clamp32_of_above {i : Int} (h : 2147483647 < i) : clamp32 i = 0x7FFFFFFF := by
  rw [clamp32, min_eq_left h.le]
  rfl

theorem clamp32_of_below {i : Int} (h : i < -2147483648) : clamp32 i = 0x80000000 := by
  rw [clamp32, min_eq_right (by omega), max_eq_left h.le]
  rfl

/-- The negative words are those from the middle on. -/
theorem msb_ofInt_of_range {i : Int} (hlo : -4294967296 ≤ i) (hhi : i < 4294967296) :
    (BitVec.ofInt 32 i).msb = decide (2147483648 ≤ i ∨ (-2147483648 ≤ i ∧ i < 0)) := by
  rw [BitVec.msb_eq_decide, BitVec.toNat_ofInt]
  exact decide_eq_decide.mpr (by omega)

namespace Alu

variable (a b : Word)

/-! ### Sums and differences -/

theorem add_val : (Alu.add a b).val = a + b := by simp [Alu.add, b2n]

theorem add_flagList : (Alu.add a b).flagList =
    (8, decide (4294967296 ≤ a.toNat + b.toNat)) :: (11, !fits (a.toInt + b.toInt)) :: flagZN (a + b) := by
  simp [flagList, Alu.add, outside_eq, b2n]

theorem adc_val (k : Bool) : (Alu.add a b k).val = a + b + (if k then 1 else 0) := by cases k <;> rfl

theorem adc_flagList (k : Bool) : (Alu.add a b k).flagList =
    (8, decide (4294967296 ≤ a.toNat + b.toNat + b2n k)) :: (11, !fits (a.toInt + b.toInt + b2n k)) ::
      flagZN (a + b + (if k then 1 else 0)) := by
  rw [← adc_val, ← outside_eq]
  rfl

theorem sub_val : (Alu.sub a b).val = a - b := by simp [Alu.sub, b2n]

theorem sub_flagList : (Alu.sub a b).flagList =
    (8, decide (b.toNat ≤ a.toNat)) :: (11, !fits (a.toInt - b.toInt)) :: flagZN (a - b) := by
  simp [flagList, Alu.sub, outside_eq, b2n]

theorem sbc_val (k : Bool) : (Alu.sub a b k).val = a - b - (if k then 0 else 1) := by cases k <;> rfl

theorem sbc_flagList (k : Bool) : (Alu.sub a b k).flagList =
    (8, decide (b.toNat + (1 - b2n k) ≤ a.toNat)) :: (11, !fits (a.toInt - b.toInt - (1 - b2n k : Nat))) ::
      flagZN (a - b - (if k then 0 else 1)) := by
  rw [← sbc_val, ← outside_eq]
  rfl

/-! ### Saturation -/

/-- The saturating form of an exact value that one more bit holds. -/
theorem sat_val {r : Alu} {i : Int} (hv : r.v = some (outside i)) (hval : r.val = BitVec.ofInt 32 i)
    (hlo : -4294967296 ≤ i) (hhi : i < 4294967296) : r.sat.val = clamp32 i := by
  cases hfit : fits i
  · have hout : r.v = some true := by rw [hv, outside_eq, hfit]; rfl
    have hrange : ¬ (-2147483648 ≤ i ∧ i ≤ 2147483647) := of_decide_eq_false hfit
    rw [sat, if_pos hout, hval, msb_ofInt_of_range hlo hhi]
    by_cases habove : 2147483647 < i
    · rw [clamp32_of_above habove, decide_eq_true (by omega), if_pos rfl]
    · rw [clamp32_of_below (by omega), decide_eq_false (by omega), if_neg Bool.false_ne_true]
  · have hin : r.v ≠ some true := by rw [hv, outside_eq, hfit]; decide
    rw [sat, if_neg hin, hval, clamp32_of_fits hfit]

/-- Saturation leaves C and V. -/
theorem sat_flagList {r : Alu} {c v : Bool} {w : Word} (hc : r.c = some c) (hv : r.v = some v) (hzn : r.zn = true)
    (hdz : r.dz = false) (hw : r.sat.val = w) : r.sat.flagList = (8, c) :: (11, v) :: flagZN w := by
  have hflags : r.sat.c = r.c ∧ r.sat.v = r.v ∧ r.sat.zn = r.zn ∧ r.sat.dz = r.dz := by
    unfold sat
    split <;> simp
  obtain ⟨h₁, h₂, h₃, h₄⟩ := hflags
  simp [flagList, h₁, h₂, h₃, h₄, hc, hv, hzn, hdz, hw]

theorem sat_dz {r : Alu} (h : r.dz = false) : r.sat.dz = false := by
  unfold sat
  split <;> exact h

theorem adds_val : (Alu.add a b).sat.val = clamp32 (a.toInt + b.toInt) := by
  have ha := toInt_range a
  have hb := toInt_range b
  refine sat_val (by simp [Alu.add, b2n]) ?_ (by omega) (by omega)
  rw [add_val, BitVec.ofInt_add, BitVec.ofInt_toInt, BitVec.ofInt_toInt]

theorem adds_flagList : (Alu.add a b).sat.flagList = (8, decide (4294967296 ≤ a.toNat + b.toNat)) ::
    (11, !fits (a.toInt + b.toInt)) :: flagZN (clamp32 (a.toInt + b.toInt)) :=
  sat_flagList (by simp [Alu.add, b2n]) (by simp [Alu.add, outside_eq, b2n]) rfl rfl (adds_val a b)

theorem ofInt_toInt_sub : BitVec.ofInt 32 (a.toInt - b.toInt) = a - b := by
  rw [Int.sub_eq_add_neg, BitVec.ofInt_add, BitVec.ofInt_neg, BitVec.ofInt_toInt, BitVec.ofInt_toInt, BitVec.sub_eq_add_neg]

theorem subs_val : (Alu.sub a b).sat.val = clamp32 (a.toInt - b.toInt) := by
  have ha := toInt_range a
  have hb := toInt_range b
  exact sat_val (by simp [Alu.sub, b2n]) (by rw [sub_val, ofInt_toInt_sub]) (by omega) (by omega)

theorem subs_flagList : (Alu.sub a b).sat.flagList = (8, decide (b.toNat ≤ a.toNat)) ::
    (11, !fits (a.toInt - b.toInt)) :: flagZN (clamp32 (a.toInt - b.toInt)) :=
  sat_flagList (by simp [Alu.sub, b2n]) (by simp [Alu.sub, outside_eq, b2n]) rfl rfl (subs_val a b)

/-! ### Negation and magnitude -/

theorem decide_toNat_le_zero : decide (a.toNat ≤ (0 : Word).toNat) = (a == 0) := by
  rw [Bool.eq_iff_iff, decide_eq_true_iff, beq_iff_eq, ← BitVec.toNat_inj]
  exact Nat.le_zero

theorem neg_flagList : (Alu.sub 0 a).flagList = (8, a == 0) :: (11, !fits (-a.toInt)) :: flagZN (0 - a) := by
  rw [sub_flagList, decide_toNat_le_zero, show (0 : Word).toInt = 0 from rfl, Int.zero_sub]

theorem negs_val : (Alu.sub 0 a).sat.val = clamp32 (-a.toInt) := by
  rw [subs_val, show (0 : Word).toInt = 0 from rfl, Int.zero_sub]

theorem negs_flagList : (Alu.sub 0 a).sat.flagList = (8, a == 0) :: (11, !fits (-a.toInt)) :: flagZN (clamp32 (-a.toInt)) := by
  rw [subs_flagList, decide_toNat_le_zero, show (0 : Word).toInt = 0 from rfl, Int.zero_sub]

theorem abs_val : (Alu.abs a).val = BitVec.ofNat 32 a.toInt.natAbs := by
  have habs : BitVec.ofNat 32 a.toInt.natAbs = BitVec.ofInt 32 a.toInt.natAbs := (BitVec.ofInt_natCast ..).symm
  rw [habs, Alu.abs, BitVec.msb_eq_toInt]
  by_cases h : a.toInt < 0
  · have hneg : (a.toInt.natAbs : Int) = -a.toInt := by omega
    rw [decide_eq_true h, if_pos rfl, hneg, BitVec.ofInt_neg, BitVec.ofInt_toInt]
    exact BitVec.zero_sub a
  · have hpos : (a.toInt.natAbs : Int) = a.toInt := by omega
    rw [decide_eq_false h, if_neg Bool.false_ne_true, hpos, BitVec.ofInt_toInt]

theorem abs_flagList : (Alu.abs a).flagList = (11, a == 0x80000000) :: flagZN (BitVec.ofNat 32 a.toInt.natAbs) := by
  rw [← abs_val]
  rfl

theorem logic_flagList (v : Word) : (Alu.logic v).flagList = flagZN v := rfl

/-! ### Minimum and maximum -/

theorem slt_iff : a.slt b = true ↔ a.toInt < b.toInt := BitVec.slt_iff_toInt_lt

theorem mins_val : (if a.slt b then a else b) = if a.toInt ≤ b.toInt then a else b := by
  by_cases h : a.toInt < b.toInt
  · rw [if_pos ((slt_iff a b).mpr h), if_pos h.le]
  · rw [if_neg (mt (slt_iff a b).mp h)]
    split
    case isTrue hle => exact BitVec.toInt_inj.mp (by omega)
    case isFalse => rfl

theorem maxs_val : (if a.slt b then b else a) = if b.toInt ≤ a.toInt then a else b := by
  by_cases h : a.toInt < b.toInt
  · rw [if_pos ((slt_iff a b).mpr h), if_neg (by omega)]
  · rw [if_neg (mt (slt_iff a b).mp h), if_pos (by omega)]

theorem minu_val : (if a < b then a else b) = if a.toNat ≤ b.toNat then a else b := by
  by_cases h : a.toNat < b.toNat
  · rw [if_pos (BitVec.lt_def.mpr h), if_pos h.le]
  · rw [if_neg (mt BitVec.lt_def.mp h)]
    split
    case isTrue hle => exact BitVec.toNat_inj.mp (by omega)
    case isFalse => rfl

theorem maxu_val : (if a < b then b else a) = if b.toNat ≤ a.toNat then a else b := by
  by_cases h : a.toNat < b.toNat
  · rw [if_pos (BitVec.lt_def.mpr h), if_neg (by omega)]
  · rw [if_neg (mt BitVec.lt_def.mp h), if_pos (by omega)]

/-! ### Leading zeros -/

/-- Below the highest set bit stand as many bits as its number says. -/
theorem clzFrom_eq {m : Nat} (hset : a.getLsbD m = true) (hhigh : ∀ i, m < i → a.getLsbD i = false) (k : Nat) (hk : m < k) :
    clzFrom a k = k - 1 - m := by
  induction k with
  | zero => omega
  | succ k ih =>
    unfold clzFrom
    by_cases h : k = m
    · rw [h, if_pos hset]
      omega
    · rw [hhigh k (by omega), if_neg Bool.false_ne_true, ih (by omega)]
      omega

theorem clz_val : (Alu.clz a).val = if a = 0 then 32 else BitVec.ofNat 32 (31 - Nat.log2 a.toNat) := by
  by_cases h : a = 0
  · rw [h, if_pos rfl]
    rfl
  · have hne : a.toNat ≠ 0 := fun h0 => h (BitVec.toNat_inj.mp h0)
    have hlog : a.toNat.log2 < 32 := (Nat.log2_lt hne).mpr a.isLt
    have hset : a.getLsbD a.toNat.log2 = true := Nat.testBit_log2 hne
    have hhigh : ∀ i, a.toNat.log2 < i → a.getLsbD i = false := fun i hi =>
      Nat.testBit_lt_two_pow (lt_of_lt_of_le Nat.lt_log2_self (Nat.pow_le_pow_right (by decide) hi))
    rw [if_neg h, Alu.clz, logic, clzFrom_eq a hset hhigh 32 hlog]

/-! ### Division -/

theorem divu_val : (Alu.divu a b).val = if b = 0 then 0xFFFFFFFF else BitVec.ofNat 32 (a.toNat / b.toNat) := by
  unfold divu
  split
  · rfl
  · exact BitVec.udiv_def

theorem divu_flagList : (Alu.divu a b).flagList = (if b = 0 then [(13, true)] else []) ++ (11, false) ::
    flagZN (if b = 0 then 0xFFFFFFFF else BitVec.ofNat 32 (a.toNat / b.toNat)) := by
  rw [← divu_val]
  unfold divu
  split <;> rfl

theorem divs_val : (Alu.divs a b).val =
    if b = 0 then (if a.toInt < 0 then 0x80000000 else 0x7FFFFFFF) else BitVec.ofInt 32 (a.toInt.tdiv b.toInt) := by
  unfold divs
  split
  · simp only [BitVec.msb_eq_toInt, decide_eq_true_eq]
  · exact BitVec.toInt_inj.mp (by rw [BitVec.toInt_sdiv, BitVec.toInt_ofInt])

theorem divs_flagList : (Alu.divs a b).flagList = (if b = 0 then [(13, true)] else []) ++
    (11, (a == 0x80000000 && b == 0xFFFFFFFF)) ::
      flagZN (if b = 0 then (if a.toInt < 0 then 0x80000000 else 0x7FFFFFFF) else BitVec.ofInt 32 (a.toInt.tdiv b.toInt)) := by
  rw [← divs_val]
  by_cases h : b = 0
  · subst h
    rw [show ((0 : Word) == 0xFFFFFFFF) = false from rfl, Bool.and_false]
    rfl
  · have hquot : Alu.divs a b = { val := a.sdiv b, v := some (divEdge a b) } := if_neg h
    rw [hquot, if_neg h]
    rfl

theorem remu_val : (Alu.remu a b).val = if b = 0 then a else BitVec.ofNat 32 (a.toNat % b.toNat) := by
  unfold remu
  split
  · rfl
  · exact BitVec.umod_def

theorem remu_flagList : (Alu.remu a b).flagList = (if b = 0 then [(13, true)] else []) ++ (11, false) ::
    flagZN (if b = 0 then a else BitVec.ofNat 32 (a.toNat % b.toNat)) := by
  rw [← remu_val]
  by_cases h : b = 0 <;> simp [h, flagList, remu]

theorem rems_val : (Alu.rems a b).val = if b = 0 then a else BitVec.ofInt 32 (a.toInt.tmod b.toInt) := by
  unfold rems
  split
  · rfl
  · rw [← BitVec.toInt_srem, BitVec.ofInt_toInt]

theorem rems_flagList : (Alu.rems a b).flagList = (if b = 0 then [(13, true)] else []) ++
    (11, (a == 0x80000000 && b == 0xFFFFFFFF)) ::
      flagZN (if b = 0 then a else BitVec.ofInt 32 (a.toInt.tmod b.toInt)) := by
  rw [← rems_val]
  by_cases h : b = 0 <;> simp [h, flagList, rems, divEdge]

/-! ### Shifts -/

section

variable {n : Nat}

theorem shift_zero (kind : Nat) : Alu.shift kind a 0 = .logic a := if_pos rfl

theorem lsl_eq (h : n ≠ 0) : Alu.shift 0 a n = { val := a <<< n, c := some (if n ≤ 32 then a.getLsbD (32 - n) else false) } :=
  if_neg h

theorem lsr_eq (h : n ≠ 0) : Alu.shift 1 a n = { val := a >>> n, c := some (if n ≤ 32 then a.getLsbD (n - 1) else false) } :=
  if_neg h

theorem asr_eq (h : n ≠ 0) :
    Alu.shift 2 a n = { val := a.sshiftRight n, c := some (if n < 32 then a.getLsbD (n - 1) else a.msb) } := if_neg h

theorem ror_eq (h : n ≠ 0) :
    Alu.shift 3 a n = { val := a.rotateRight (n % 32), c := some (a.rotateRight (n % 32)).msb } := if_neg h

end

theorem shift_dz (kind n : Nat) : (Alu.shift kind a n).dz = false := by
  unfold shift
  split
  · rfl
  · split <;> rfl

theorem shiftLeft_val (n : Nat) : a <<< n = if n < 32 then a <<< n else 0 := by
  split
  · rfl
  · exact BitVec.shiftLeft_eq_zero (by omega)

theorem ushiftRight_val (n : Nat) : a >>> n = if n < 32 then a >>> n else 0 := by
  split
  · rfl
  · exact BitVec.ushiftRight_eq_zero (by omega)

theorem sshiftRight_val (n : Nat) : a.sshiftRight n = if n < 32 then a.sshiftRight n else if a.msb then 0xFFFFFFFF else 0 := by
  split
  · rfl
  case isFalse h =>
    apply BitVec.eq_of_getLsbD_eq
    intro i hi
    have hge : ¬ n + i < 32 := by omega
    have hones : (0xFFFFFFFF : Word) = BitVec.allOnes 32 := rfl
    cases hm : a.msb
    · simp only [BitVec.getLsbD_sshiftRight, hm, hge, if_false, Bool.false_eq_true]
      simp
    · simp only [BitVec.getLsbD_sshiftRight, hm, hge, hones, BitVec.getLsbD_allOnes, hi, if_true, if_false]
      simp [hi]

theorem lsl_val (n : Nat) : (Alu.shift 0 a n).val = if n < 32 then a <<< n else 0 := by
  rw [← shiftLeft_val]
  by_cases h : n = 0
  · rw [h, shift_zero, BitVec.shiftLeft_zero]
    rfl
  · rw [lsl_eq a h]

theorem lsl_flagList (n : Nat) : (Alu.shift 0 a n).flagList =
    (if n = 0 then [] else [(8, decide (n ≤ 32) && a.getLsbD (32 - n))]) ++ flagZN (if n < 32 then a <<< n else 0) := by
  rw [← lsl_val]
  by_cases h : n = 0
  · rw [h, shift_zero]
    rfl
  · rw [lsl_eq a h, if_neg h]
    by_cases h32 : n ≤ 32 <;> simp [h32, flagList]

theorem lsr_val (n : Nat) : (Alu.shift 1 a n).val = if n < 32 then a >>> n else 0 := by
  rw [← ushiftRight_val]
  by_cases h : n = 0
  · rw [h, shift_zero, BitVec.ushiftRight_zero]
    rfl
  · rw [lsr_eq a h]

theorem lsr_flagList (n : Nat) : (Alu.shift 1 a n).flagList =
    (if n = 0 then [] else [(8, decide (n ≤ 32) && a.getLsbD (n - 1))]) ++ flagZN (if n < 32 then a >>> n else 0) := by
  rw [← lsr_val]
  by_cases h : n = 0
  · rw [h, shift_zero]
    rfl
  · rw [lsr_eq a h, if_neg h]
    by_cases h32 : n ≤ 32 <;> simp [h32, flagList]

theorem asr_val (n : Nat) :
    (Alu.shift 2 a n).val = if n < 32 then a.sshiftRight n else if a.msb then 0xFFFFFFFF else 0 := by
  rw [← sshiftRight_val]
  by_cases h : n = 0
  · rw [h, shift_zero, BitVec.sshiftRight_zero]
    rfl
  · rw [asr_eq a h]

theorem asr_flagList (n : Nat) : (Alu.shift 2 a n).flagList =
    (if n = 0 then [] else [(8, a.getLsbD (min 31 (n - 1)))]) ++
      flagZN (if n < 32 then a.sshiftRight n else if a.msb then 0xFFFFFFFF else 0) := by
  rw [← asr_val]
  by_cases h : n = 0
  · rw [h, shift_zero]
    rfl
  · rw [asr_eq a h, if_neg h]
    by_cases h32 : n < 32
    · simp [h32, flagList, show min 31 (n - 1) = n - 1 by omega]
    · simp [h32, flagList, show min 31 (n - 1) = 31 by omega, BitVec.msb_eq_getLsbD_last]

theorem ror_val (n : Nat) : (Alu.shift 3 a n).val = a.rotateRight (n % 32) := by
  by_cases h : n = 0
  · rw [h, shift_zero, Nat.zero_mod, logic]
    unfold BitVec.rotateRight BitVec.rotateRightAux
    simp
  · rw [ror_eq a h]

theorem ror_flagList (n : Nat) : (Alu.shift 3 a n).flagList =
    (if n = 0 then [] else [(8, (a.rotateRight (n % 32)).msb)]) ++ flagZN (a.rotateRight (n % 32)) := by
  rw [← ror_val]
  by_cases h : n = 0
  · rw [h, shift_zero]
    rfl
  · rw [ror_eq a h, if_neg h]
    rfl

/-! ### Products -/

theorem mul_val : a * b = BitVec.ofNat 32 (a.toNat * b.toNat) := BitVec.mul_def

theorem mul_val_signed : a * b = BitVec.ofInt 32 (a.toInt * b.toInt) := by
  rw [BitVec.ofInt_mul, BitVec.ofInt_toInt, BitVec.ofInt_toInt]

/-- The upper half of a 64-bit word. -/
theorem toNat_upper (p : BitVec 64) : (p.extractLsb' 32 32).toNat = p.toNat / 2 ^ 32 := by
  have hlt : p.toNat / 2 ^ 32 < 2 ^ 32 := by
    have := p.isLt
    omega
  rw [BitVec.extractLsb'_toNat, Nat.shiftRight_eq_div_pow, Nat.mod_eq_of_lt hlt]

theorem mulhu_val : BitVec.ofNat 32 (a.toNat * b.toNat / 2 ^ 32) =
    (a.zeroExtend 64 * b.zeroExtend 64 : BitVec 64).extractLsb' 32 32 := by
  have hlt : a.toNat * b.toNat < 2 ^ 32 * 2 ^ 32 := Nat.mul_lt_mul'' a.isLt b.isLt
  apply BitVec.eq_of_toNat_eq
  rw [toNat_upper, BitVec.toNat_mul, BitVec.toNat_setWidth, BitVec.toNat_setWidth, BitVec.toNat_ofNat]
  rw [Nat.mod_eq_of_lt (show a.toNat < 2 ^ 64 from a.isLt.trans (by decide)),
    Nat.mod_eq_of_lt (show b.toNat < 2 ^ 64 from b.isLt.trans (by decide)), Nat.mod_eq_of_lt (by omega), Nat.mod_eq_of_lt (by omega)]

theorem mulhs_val : BitVec.ofInt 32 (a.toInt * b.toInt / (2 ^ 32 : Nat)) =
    (a.signExtend 64 * b.signExtend 64 : BitVec 64).extractLsb' 32 32 := by
  have hprod : a.signExtend 64 * b.signExtend 64 = BitVec.ofInt 64 (a.toInt * b.toInt) := by
    rw [BitVec.ofInt_mul, ← BitVec.signExtend, ← BitVec.signExtend]
  apply BitVec.eq_of_toNat_eq
  rw [hprod, toNat_upper, BitVec.toNat_ofInt, BitVec.toNat_ofInt]
  generalize a.toInt * b.toInt = p
  omega

end Alu

end Sys2Proof.Machine
end

section
/-! PROOFS. The register, immediate, shift and multiply operations of a core: each writes one result with its flags. -/
namespace Sys2Proof.Machine

theorem Completes.mono {c : Instr} {s : State} {E E' : Block → Prop} (h : Completes c s E) (hE : ∀ b, E b → E' b) :
    Completes c s E' := by
  obtain ⟨t, ht, hpending, hblk⟩ := h
  exact ⟨t, ht, hpending, hE _ hblk⟩

/-! ### Negation, magnitude and saturation -/

section

variable {s : State} {x : Exe} {rd rs rt : Fin 16}

theorem completes_neg (hready : s.blk.Ready) (hf : s.blk.fetches x 1 = true) (hrep : (s.blk.cpu x).rep ≤ 1) :
    Completes (.neg x rd rs) s fun b => (b.cpu x).getD rd = 0 - (s.blk.cpu x).getD rs ∧
      srBits ((8, (s.blk.cpu x).getD rs == 0) :: (11, !fits (-((s.blk.cpu x).getD rs).toInt)) ::
        flagZN (0 - (s.blk.cpu x).getD rs)) (s.blk.cpu x).sr (b.cpu x).sr = true ∧ s.blk.Past x 1 [.d rd, .sr] b :=
  completes_flags (F := fun h => .sub 0 (h.getD rs)) rfl hready hf hrep (fun _ _ => rfl) (.inl rfl) (Alu.sub_val ..)
    (Alu.neg_flagList _)

theorem completes_negs (hready : s.blk.Ready) (hf : s.blk.fetches x 1 = true) (hrep : (s.blk.cpu x).rep ≤ 1) :
    Completes (.negs x rd rs) s fun b => (b.cpu x).getD rd = clamp32 (-((s.blk.cpu x).getD rs).toInt) ∧
      srBits ((8, (s.blk.cpu x).getD rs == 0) :: (11, !fits (-((s.blk.cpu x).getD rs).toInt)) ::
        flagZN (clamp32 (-((s.blk.cpu x).getD rs).toInt))) (s.blk.cpu x).sr (b.cpu x).sr = true ∧
      s.blk.Past x 1 [.d rd, .sr] b :=
  completes_flags (F := fun h => (Alu.sub 0 (h.getD rs)).sat) rfl hready hf hrep (fun _ _ => rfl) (.inl (Alu.sat_dz rfl))
    (Alu.negs_val _) (Alu.negs_flagList _)

theorem completes_abs (hready : s.blk.Ready) (hf : s.blk.fetches x 1 = true) (hrep : (s.blk.cpu x).rep ≤ 1) :
    Completes (.abs x rd rs) s fun b => (b.cpu x).getD rd = BitVec.ofNat 32 ((s.blk.cpu x).getD rs).toInt.natAbs ∧
      srBits ((11, (s.blk.cpu x).getD rs == 0x80000000) :: flagZN (BitVec.ofNat 32 ((s.blk.cpu x).getD rs).toInt.natAbs))
        (s.blk.cpu x).sr (b.cpu x).sr = true ∧ s.blk.Past x 1 [.d rd, .sr] b :=
  completes_flags (F := fun h => .abs (h.getD rs)) rfl hready hf hrep (fun _ _ => rfl) (.inl rfl) (Alu.abs_val _)
    (Alu.abs_flagList _)

theorem completes_adds (hready : s.blk.Ready) (hf : s.blk.fetches x 1 = true) (hrep : (s.blk.cpu x).rep ≤ 1) :
    Completes (.adds x rd rs rt) s fun b =>
      (b.cpu x).getD rd = clamp32 (((s.blk.cpu x).getD rs).toInt + ((s.blk.cpu x).getD rt).toInt) ∧
      srBits ((8, decide (4294967296 ≤ ((s.blk.cpu x).getD rs).toNat + ((s.blk.cpu x).getD rt).toNat)) ::
        (11, !fits (((s.blk.cpu x).getD rs).toInt + ((s.blk.cpu x).getD rt).toInt)) ::
        flagZN (clamp32 (((s.blk.cpu x).getD rs).toInt + ((s.blk.cpu x).getD rt).toInt))) (s.blk.cpu x).sr (b.cpu x).sr =
          true ∧ s.blk.Past x 1 [.d rd, .sr] b :=
  completes_flags (F := fun h => (Alu.add (h.getD rs) (h.getD rt)).sat) rfl hready hf hrep (fun _ _ => rfl)
    (.inl (Alu.sat_dz rfl)) (Alu.adds_val ..) (Alu.adds_flagList ..)

theorem completes_subs (hready : s.blk.Ready) (hf : s.blk.fetches x 1 = true) (hrep : (s.blk.cpu x).rep ≤ 1) :
    Completes (.subs x rd rs rt) s fun b =>
      (b.cpu x).getD rd = clamp32 (((s.blk.cpu x).getD rs).toInt - ((s.blk.cpu x).getD rt).toInt) ∧
      srBits ((8, decide (((s.blk.cpu x).getD rt).toNat ≤ ((s.blk.cpu x).getD rs).toNat)) ::
        (11, !fits (((s.blk.cpu x).getD rs).toInt - ((s.blk.cpu x).getD rt).toInt)) ::
        flagZN (clamp32 (((s.blk.cpu x).getD rs).toInt - ((s.blk.cpu x).getD rt).toInt))) (s.blk.cpu x).sr (b.cpu x).sr =
          true ∧ s.blk.Past x 1 [.d rd, .sr] b :=
  completes_flags (F := fun h => (Alu.sub (h.getD rs) (h.getD rt)).sat) rfl hready hf hrep (fun _ _ => rfl)
    (.inl (Alu.sat_dz rfl)) (Alu.subs_val ..) (Alu.subs_flagList ..)

end

/-- A flag that a list of flags names. -/
theorem getLsbD_of_srBits {fl : List (Nat × Bool)} {sr sr' : Word} (h : srBits fl sr sr' = true) (i : Nat) (hi : i < 32) {v : Bool}
    (hv : fl.lookup i = some v) : sr'.getLsbD i = v := by
  rw [srBits_iff.mp h i hi, hv]
  rfl

theorem fits_of_out {i : Int} (h : 2147483647 < i ∨ i < -2147483648) : fits i = false :=
  decide_eq_false (by omega)

/-- Settles O38: the results of negation, magnitude and saturation at the edges of R522. -/
theorem negationEdges : Obligations.NegationEdges := by
  unfold Obligations.NegationEdges
  refine ⟨fun s x rd rs hr hf hrep he => ?_, fun s x rd rs hr hf hrep he => ?_, fun s x rd rs hr hf hrep he => ?_,
    fun s x rd rs hr hf hrep he => ?_, fun s x rd rs hr hf hrep he => ?_, fun s x rd rs rt hr hf hrep he => ?_,
    fun s x rd rs rt hr hf hrep he => ?_, fun s x rd rs rt hr hf hrep he => ?_, fun s x rd rs rt hr hf hrep he => ?_⟩
  · refine (completes_neg hr hf hrep).mono fun b ⟨hv, hsr, _⟩ => ?_
    rw [he] at hv hsr
    exact ⟨hv, getLsbD_of_srBits hsr 11 (by decide) rfl, getLsbD_of_srBits hsr 8 (by decide) rfl⟩
  · refine (completes_neg hr hf hrep).mono fun b ⟨hv, hsr, _⟩ => ?_
    rw [he] at hv hsr
    exact ⟨hv, getLsbD_of_srBits hsr 8 (by decide) rfl⟩
  · refine (completes_negs hr hf hrep).mono fun b ⟨hv, hsr, _⟩ => ?_
    rw [he] at hv hsr
    exact ⟨hv, getLsbD_of_srBits hsr 11 (by decide) rfl⟩
  · refine (completes_abs hr hf hrep).mono fun b ⟨hv, hsr, _⟩ => ?_
    rw [he] at hv hsr
    exact ⟨hv, getLsbD_of_srBits hsr 11 (by decide) rfl⟩
  · refine (completes_abs hr hf hrep).mono fun b ⟨_, hsr, _⟩ => ?_
    exact (getLsbD_of_srBits hsr 11 (by decide) rfl).trans (beq_eq_false_iff_ne.mpr he)
  · refine (completes_adds hr hf hrep).mono fun b ⟨hv, hsr, _⟩ => ⟨hv.trans (clamp32_of_above he), ?_⟩
    exact (getLsbD_of_srBits hsr 11 (by decide) rfl).trans (by rw [fits_of_out (.inl he)]; rfl)
  · refine (completes_adds hr hf hrep).mono fun b ⟨hv, hsr, _⟩ => ⟨hv.trans (clamp32_of_below he), ?_⟩
    exact (getLsbD_of_srBits hsr 11 (by decide) rfl).trans (by rw [fits_of_out (.inr he)]; rfl)
  · refine (completes_subs hr hf hrep).mono fun b ⟨hv, hsr, _⟩ => ⟨hv.trans (clamp32_of_above he), ?_⟩
    exact (getLsbD_of_srBits hsr 11 (by decide) rfl).trans (by rw [fits_of_out (.inl he)]; rfl)
  · refine (completes_subs hr hf hrep).mono fun b ⟨hv, hsr, _⟩ => ⟨hv.trans (clamp32_of_below he), ?_⟩
    exact (getLsbD_of_srBits hsr 11 (by decide) rfl).trans (by rw [fits_of_out (.inr he)]; rfl)

/-- Settles O34: the operations of the register format write the results and flags of R517 to R519 and R522. -/
theorem heperArithmetic : Obligations.HeperArithmetic := by
  unfold Obligations.HeperArithmetic
  refine ⟨fun s x rd rs hr hf hrep => ?mov, fun s x rd rs rt hr hf hrep => ?add, fun s x rd rs rt hr hf hrep => ?adc,
    fun s x rd rs rt hr hf hrep => ?sub, fun s x rd rs rt hr hf hrep => ?sbc, fun s x rd rs rt hr hf hrep => ?adds,
    fun s x rd rs rt hr hf hrep => ?subs, fun s x rd rs hr hf hrep => ?neg, fun s x rd rs hr hf hrep => ?negs,
    fun s x rd rs hr hf hrep => ?abs, fun s x rs rt hr hf hrep => ?cmp, fun s x rs rt hr hf hrep => ?tst,
    fun s x rd rs rt hr hf hrep => ?mins, fun s x rd rs rt hr hf hrep => ?maxs, fun s x rd rs rt hr hf hrep => ?minu,
    fun s x rd rs rt hr hf hrep => ?maxu, fun s x rd rs hr hf hrep => ?movad, fun s x rd rs hr hf hrep => ?movda,
    fun s x rd rs hr hf hrep => ?movaa, fun s x rd rs rt hr hf hrep => ?addad, fun s x rd rs rt cond hr hf hrep => ?sel⟩
  case mov => exact completes_plain (g := fun h => h.getD rs) rfl hr hf hrep (fun _ _ => rfl) rfl
  case add =>
    exact completes_flags (F := fun h => .add (h.getD rs) (h.getD rt)) rfl hr hf hrep (fun _ _ => rfl) (.inl rfl)
      (Alu.add_val ..) (Alu.add_flagList ..)
  case adc =>
    exact completes_flags (F := fun h => .add (h.getD rs) (h.getD rt) (Block.srCarry h)) rfl hr hf hrep (fun _ _ => rfl)
      (.inl rfl) (Alu.adc_val ..) (Alu.adc_flagList ..)
  case sub =>
    exact completes_flags (F := fun h => .sub (h.getD rs) (h.getD rt)) rfl hr hf hrep (fun _ _ => rfl) (.inl rfl)
      (Alu.sub_val ..) (Alu.sub_flagList ..)
  case sbc =>
    exact completes_flags (F := fun h => .sub (h.getD rs) (h.getD rt) (Block.srCarry h)) rfl hr hf hrep (fun _ _ => rfl)
      (.inl rfl) (Alu.sbc_val ..) (Alu.sbc_flagList ..)
  case adds => exact completes_adds hr hf hrep
  case subs => exact completes_subs hr hf hrep
  case neg => exact completes_neg hr hf hrep
  case negs => exact completes_negs hr hf hrep
  case abs => exact completes_abs hr hf hrep
  case cmp =>
    exact completes_compare (F := fun h => .sub (h.getD rs) (h.getD rt)) rfl hr hf hrep (fun _ _ => rfl) (Alu.sub_flagList ..)
  case tst =>
    exact completes_compare (F := fun h => .logic (h.getD rs &&& h.getD rt)) rfl hr hf hrep (fun _ _ => rfl)
      (Alu.logic_flagList _)
  case mins =>
    exact completes_plain (g := fun h => if (h.getD rs).slt (h.getD rt) then h.getD rs else h.getD rt) rfl hr hf hrep
      (fun _ _ => rfl) (Alu.mins_val ..)
  case maxs =>
    exact completes_plain (g := fun h => if (h.getD rs).slt (h.getD rt) then h.getD rt else h.getD rs) rfl hr hf hrep
      (fun _ _ => rfl) (Alu.maxs_val ..)
  case minu =>
    exact completes_plain (g := fun h => if h.getD rs < h.getD rt then h.getD rs else h.getD rt) rfl hr hf hrep
      (fun _ _ => rfl) (Alu.minu_val ..)
  case maxu =>
    exact completes_plain (g := fun h => if h.getD rs < h.getD rt then h.getD rt else h.getD rs) rfl hr hf hrep
      (fun _ _ => rfl) (Alu.maxu_val ..)
  case movad => exact completes_plain (g := fun h => h.getA rs) rfl hr hf hrep (fun _ _ => rfl) rfl
  case movda => exact completes_address (g := fun h => h.getD rs) rfl hr hf hrep (fun _ _ => rfl) rfl
  case movaa => exact completes_address (g := fun h => h.getA rs) rfl hr hf hrep (fun _ _ => rfl) rfl
  case addad => exact completes_address (g := fun h => h.getA rs + h.getD rt) rfl hr hf hrep (fun _ _ => rfl) rfl
  case sel =>
    refine completes_plain (g := fun h => if condTrue h.sr cond then h.getD rs else h.getD rt) rfl hr hf hrep
      (fun _ _ => rfl) ?_
    rw [condTrue_eq_getD]

end Sys2Proof.Machine
end

section
/-! PROOFS. Logic, division and immediate forms, shifts and products: each writes one result with its flags. -/
namespace Sys2Proof.Machine

namespace Alu

variable {a b : Word}

theorem divu_dz (h : b ≠ 0) : (Alu.divu a b).dz = false := by rw [divu, if_neg h]
theorem divs_dz (h : b ≠ 0) : (Alu.divs a b).dz = false := by rw [divs, if_neg h]
theorem remu_dz (h : b ≠ 0) : (Alu.remu a b).dz = false := beq_false_of_ne h
theorem rems_dz (h : b ≠ 0) : (Alu.rems a b).dz = false := beq_false_of_ne h

end Alu

/-- Settles O35: bitwise operations, division and the immediate forms write the results and flags of R519, R520, R523 and R533. -/
theorem heperLogic : Obligations.HeperLogic := by
  unfold Obligations.HeperLogic
  refine ⟨fun s x rd rs rt hr hf hrep => ?and, fun s x rd rs rt hr hf hrep => ?or, fun s x rd rs rt hr hf hrep => ?xor,
    fun s x rd rs hr hf hrep => ?not, fun s x rd rs hr hf hrep => ?clz, fun s x rd rs hr hf hrep => ?sextb,
    fun s x rd rs hr hf hrep => ?sexth, fun s x rd rs rt hr hf hrep hz => ?divu, fun s x rd rs rt hr hf hrep hz => ?divs,
    fun s x rd rs rt hr hf hrep hz => ?remu, fun s x rd rs rt hr hf hrep hz => ?rems, fun s x rd rs i hr hf hrep => ?addi,
    fun s x rd rs i hr hf hrep => ?andi, fun s x rd rs i hr hf hrep => ?ori, fun s x rd rs i hr hf hrep => ?xori,
    fun s x rd i hr hf hrep => ?movi, fun s x rs i hr hf hrep => ?cmpi, fun s x rd rs i hr hf hrep => ?adda⟩
  case and =>
    exact completes_flags (F := fun h => .logic (h.getD rs &&& h.getD rt)) rfl hr hf hrep (fun _ _ => rfl) (.inl rfl) rfl rfl
  case or =>
    exact completes_flags (F := fun h => .logic (h.getD rs ||| h.getD rt)) rfl hr hf hrep (fun _ _ => rfl) (.inl rfl) rfl rfl
  case xor =>
    exact completes_flags (F := fun h => .logic (h.getD rs ^^^ h.getD rt)) rfl hr hf hrep (fun _ _ => rfl) (.inl rfl) rfl rfl
  case not =>
    exact completes_flags (F := fun h => .logic (~~~ h.getD rs)) rfl hr hf hrep (fun _ _ => rfl) (.inl rfl) rfl rfl
  case clz =>
    refine completes_flags (F := fun h => .clz (h.getD rs)) rfl hr hf hrep (fun _ _ => rfl) (.inl rfl) (Alu.clz_val _) ?_
    rw [← Alu.clz_val]
    rfl
  case sextb =>
    exact completes_flags (F := fun h => .logic (((h.getD rs).setWidth 8).signExtend 32)) rfl hr hf hrep (fun _ _ => rfl)
      (.inl rfl) rfl rfl
  case sexth =>
    exact completes_flags (F := fun h => .logic (((h.getD rs).setWidth 16).signExtend 32)) rfl hr hf hrep (fun _ _ => rfl)
      (.inl rfl) rfl rfl
  case divu =>
    exact completes_flags (F := fun h => .divu (h.getD rs) (h.getD rt)) rfl hr hf hrep (fun _ _ => rfl)
      (hz.imp_left Alu.divu_dz) (Alu.divu_val ..) (Alu.divu_flagList ..)
  case divs =>
    exact completes_flags (F := fun h => .divs (h.getD rs) (h.getD rt)) rfl hr hf hrep (fun _ _ => rfl)
      (hz.imp_left Alu.divs_dz) (Alu.divs_val ..) (Alu.divs_flagList ..)
  case remu =>
    exact completes_flags (F := fun h => .remu (h.getD rs) (h.getD rt)) rfl hr hf hrep (fun _ _ => rfl)
      (hz.imp_left Alu.remu_dz) (Alu.remu_val ..) (Alu.remu_flagList ..)
  case rems =>
    exact completes_flags (F := fun h => .rems (h.getD rs) (h.getD rt)) rfl hr hf hrep (fun _ _ => rfl)
      (hz.imp_left Alu.rems_dz) (Alu.rems_val ..) (Alu.rems_flagList ..)
  case addi =>
    exact completes_flags (F := fun h => .add (h.getD rs) i.signed) rfl hr hf hrep (fun _ _ => rfl) (.inl rfl)
      (Alu.add_val ..) (Alu.add_flagList ..)
  case andi =>
    exact completes_flags (F := fun h => .logic (h.getD rs &&& i.unsigned)) rfl hr hf hrep (fun _ _ => rfl) (.inl rfl) rfl rfl
  case ori =>
    exact completes_flags (F := fun h => .logic (h.getD rs ||| i.unsigned)) rfl hr hf hrep (fun _ _ => rfl) (.inl rfl) rfl rfl
  case xori =>
    exact completes_flags (F := fun h => .logic (h.getD rs ^^^ i.unsigned)) rfl hr hf hrep (fun _ _ => rfl) (.inl rfl) rfl rfl
  case movi => exact completes_plain (g := fun _ => i.signed) rfl hr hf hrep (fun _ _ => rfl) rfl
  case cmpi =>
    exact completes_compare (F := fun h => .sub (h.getD rs) i.signed) rfl hr hf hrep (fun _ _ => rfl) (Alu.sub_flagList ..)
  case adda => exact completes_address (g := fun h => h.getA rs + i.signed) rfl hr hf hrep (fun _ _ => rfl) rfl

/-! ### Shifts -/

/-- The result and the flags of the shift of kind k by a count, in the order of the table of R521. -/
theorem Alu.shift_kind (kind : Fin 4) (a : Word) (n : Nat) :
    (Alu.shift kind a n).val =
      (if kind.val = 0 then (if n < 32 then a <<< n else 0) else if kind.val = 1 then (if n < 32 then a >>> n else 0)
        else if kind.val = 2 then (if n < 32 then a.sshiftRight n else if a.msb then 0xFFFFFFFF else 0)
        else a.rotateRight (n % 32)) ∧
    (Alu.shift kind a n).flagList = (if n = 0 then [] else
      [(8, if kind.val = 0 then decide (n ≤ 32) && a.getLsbD (32 - n) else if kind.val = 1 then decide (n ≤ 32) && a.getLsbD (n - 1)
        else if kind.val = 2 then a.getLsbD (min 31 (n - 1)) else (a.rotateRight (n % 32)).msb)]) ++
      flagZN (if kind.val = 0 then (if n < 32 then a <<< n else 0) else if kind.val = 1 then (if n < 32 then a >>> n else 0)
        else if kind.val = 2 then (if n < 32 then a.sshiftRight n else if a.msb then 0xFFFFFFFF else 0)
        else a.rotateRight (n % 32)) := by
  match kind with
  | 0 => exact ⟨Alu.lsl_val a n, Alu.lsl_flagList a n⟩
  | 1 => exact ⟨Alu.lsr_val a n, Alu.lsr_flagList a n⟩
  | 2 => exact ⟨Alu.asr_val a n, Alu.asr_flagList a n⟩
  | 3 => exact ⟨Alu.ror_val a n, Alu.ror_flagList a n⟩

/-- Settles O36: the shifts and the rotation by every count of 0 to 255. -/
theorem shiftCounts : Obligations.ShiftCounts := by
  unfold Obligations.ShiftCounts
  refine ⟨fun s x rd rs rt hr hf hrep => ?lsl, fun s x rd rs rt hr hf hrep => ?lsr, fun s x rd rs rt hr hf hrep => ?asr,
    fun s x rd rs rt hr hf hrep => ?ror, fun s x rd rs kind count hr hf hrep => ?shi⟩
  case lsl =>
    exact completes_flags (F := fun h => .shift 0 (h.getD rs) ((h.getD rt).toNat % 256)) rfl hr hf hrep (fun _ _ => rfl)
      (.inl (Alu.shift_dz ..)) (Alu.lsl_val ..) (Alu.lsl_flagList ..)
  case lsr =>
    exact completes_flags (F := fun h => .shift 1 (h.getD rs) ((h.getD rt).toNat % 256)) rfl hr hf hrep (fun _ _ => rfl)
      (.inl (Alu.shift_dz ..)) (Alu.lsr_val ..) (Alu.lsr_flagList ..)
  case asr =>
    exact completes_flags (F := fun h => .shift 2 (h.getD rs) ((h.getD rt).toNat % 256)) rfl hr hf hrep (fun _ _ => rfl)
      (.inl (Alu.shift_dz ..)) (Alu.asr_val ..) (Alu.asr_flagList ..)
  case ror =>
    exact completes_flags (F := fun h => .shift 3 (h.getD rs) ((h.getD rt).toNat % 256)) rfl hr hf hrep (fun _ _ => rfl)
      (.inl (Alu.shift_dz ..)) (Alu.ror_val ..) (Alu.ror_flagList ..)
  case shi =>
    exact completes_flags (F := fun h => .shift kind (h.getD rs) count.toNat) rfl hr hf hrep (fun _ _ => rfl)
      (.inl (Alu.shift_dz ..)) (Alu.shift_kind ..).1 (Alu.shift_kind ..).2

/-! ### Products -/

/-- A product writes Z and N, and leaves C and V. -/
theorem completes_product {c : Instr} {s : State} {x : Exe} {rd : Nat} {g : HepCore → Word} {v : Word}
    (hexec : exec c s = s.act fun b => b.instr x 1 .many fun c b => b.putResult c rd (.logic (g (b.hc c))))
    (hready : s.blk.Ready) (hf : s.blk.fetches x 1 = true) (hrep : (s.blk.cpu x).rep ≤ 1)
    (hg : ∀ i y, g ((s.blk.cpu x).fetched i y) = g (s.blk.cpu x)) (hv : g (s.blk.cpu x) = v) :
    Completes c s fun b => (b.cpu x).getD rd = v ∧ srBits (flagZN v) (s.blk.cpu x).sr (b.cpu x).sr = true ∧
      (b.cpu x).sr.getLsbD 8 = (s.blk.cpu x).sr.getLsbD 8 ∧ (b.cpu x).sr.getLsbD 11 = (s.blk.cpu x).sr.getLsbD 11 ∧
      s.blk.Past x 1 [.d rd, .sr] b :=
  (completes_flags (F := fun h => .logic (g h)) (v := v) (fl := flagZN v) hexec hready hf hrep
    (fun i y => congrArg Alu.logic (hg i y)) (.inl rfl) hv (congrArg flagZN hv)).mono fun _ ⟨hval, hsr, hpast⟩ =>
      ⟨hval, hsr, srBits_iff.mp hsr 8 (by decide), srBits_iff.mp hsr 11 (by decide), hpast⟩

/-- Settles O37: the low word and the two high words of a product, with Z and N alone. -/
theorem multiplyResults : Obligations.MultiplyResults := by
  unfold Obligations.MultiplyResults
  refine ⟨fun s x rd rs rt hr hf hrep => ?mul, fun s x rd rs rt hr hf hrep => ?mulhu, fun s x rd rs rt hr hf hrep => ?mulhs⟩
  case mul =>
    refine (completes_product (g := fun h => h.getD rs * h.getD rt) rfl hr hf hrep (fun _ _ => rfl) (Alu.mul_val ..)).mono
      fun b ⟨hval, hrest⟩ => ⟨hval, ?_, hrest⟩
    rw [hval, ← Alu.mul_val, Alu.mul_val_signed]
  case mulhu =>
    exact completes_product (g := fun h => BitVec.ofNat 32 ((h.getD rs).toNat * (h.getD rt).toNat / 2 ^ 32)) rfl hr hf hrep
      (fun _ _ => rfl) (Alu.mulhu_val ..)
  case mulhs =>
    refine (completes_product (g := fun h => BitVec.ofInt 32 ((h.getD rs).toInt * (h.getD rt).toInt / (2 ^ 32 : Nat))) rfl hr hf
      hrep (fun _ _ => rfl) (Alu.mulhs_val ..)).mono fun b ⟨hval, hrest⟩ => ⟨hval, fun hs ht => ?_, hrest⟩
    rw [hval, hs, ht]
    decide

end Sys2Proof.Machine
end

section
/-! PROOFS. The operations on accumulators, and instructions that run as often as REP says. -/
namespace Sys2Proof.Machine

/-! ### Accumulators -/

/-- The core behind an accumulator operation. -/
def HepCore.putAcc (n : Nat) (G : HepCore → BitVec 72 × Bool) (h : HepCore) : HepCore :=
  { h.setAcc n (G h).1 with sr := if (G h).2 then withBit h.sr SR.sat true else h.sr }

/-- The core behind a read of an accumulator. -/
def HepCore.putRead (rd : Nat) (G : HepCore → Word × Bool) (h : HepCore) : HepCore :=
  { h.setD rd (G h).1 with sr := if (G h).2 then withBit h.sr SR.sat true else h.sr }

theorem CoreSame.putAcc (n : Nat) (G : HepCore → BitVec 72 × Bool) (h : HepCore) : CoreSame [.acc n, .sr] h (h.putAcc n G) :=
  ((CoreSame.setAcc h n (G h).1).mono (by simp)).trans ((CoreSame.sr _ _).mono (by simp))

theorem CoreSame.putRead (rd : Nat) (G : HepCore → Word × Bool) (h : HepCore) : CoreSame [.d rd, .sr] h (h.putRead rd G) :=
  ((CoreSame.setD h rd (G h).1).mono (by simp)).trans ((CoreSame.sr _ _).mono (by simp))

/-- SAT where a value was clamped, and nothing else. -/
theorem srBits_sat {p : Prop} [Decidable p] {sat : Bool} (sr : Word) (h : sat = false ↔ p) :
    srBits (if p then [] else [(12, true)]) sr (if sat then withBit sr SR.sat true else sr) = true := by
  cases sat
  · rw [if_pos (h.mp rfl)]
    exact srBits_nil sr
  · rw [if_neg fun hp => Bool.noConfusion (h.mpr hp)]
    exact srBits_withBit 12 true sr (by decide)

section

variable {c : Instr} {s : State} {x : Exe} {n rd : Nat} {E : Block → Prop}

theorem accWith_eq (G : HepCore → BitVec 72 × Bool) (c n : Nat) (b : Block) :
    b.accWith c n (G (b.hc c)) = b.updHc c (HepCore.putAcc n G) := rfl

theorem accWith_wraps (g : HepCore → BitVec 72) (c n : Nat) (b : Block) :
    b.accWith c n (g (b.hc c), false) = b.updHc c fun h => h.setAcc n (g h) := rfl

theorem completes_putAcc {G : HepCore → BitVec 72 × Bool}
    (hexec : exec c s = s.act fun b => b.instr x 1 .many fun c b => .done (b.accWith c n (G (b.hc c))))
    (hready : s.blk.Ready) (hf : s.blk.fetches x 1 = true) (hrep : (s.blk.cpu x).rep ≤ 1)
    (hG : ∀ i y, G ((s.blk.cpu x).fetched i y) = G (s.blk.cpu x))
    (hE : ∀ b, (b.cpu x).getAcc n = (G (s.blk.cpu x)).1 →
      (b.cpu x).sr = (if (G (s.blk.cpu x)).2 then withBit (s.blk.cpu x).sr SR.sat true else (s.blk.cpu x).sr) →
      s.blk.Past x 1 [.acc n, .sr] b → E b) : Completes c s E := by
  refine completes_of_once (HepCore.putAcc n G) hexec hready hf hrep (fun b _ => congrArg Run.done (accWith_eq G _ n b)) fun i y b hw hcore => hE b ?_ ?_
    (Block.past_of_retire hw hcore ((CoreSame.irq_young _ _ i y).trans (CoreSame.putAcc n G _)) (by simp [LoopFree]))
  · rw [hcore, HepCore.retire_getAcc, ← hG i y]
    exact HepCore.getAcc_setAcc ..
  · rw [hcore, HepCore.retire_sr, ← hG i y]
    rfl

/-- An accumulator operation that wraps. -/
theorem completes_acc {g : HepCore → BitVec 72} {v : BitVec 72}
    (hexec : exec c s = s.act fun b => b.instr x 1 .many fun c b => .done (b.accWith c n (g (b.hc c), false)))
    (hready : s.blk.Ready) (hf : s.blk.fetches x 1 = true) (hrep : (s.blk.cpu x).rep ≤ 1)
    (hg : ∀ i y, g ((s.blk.cpu x).fetched i y) = g (s.blk.cpu x)) (hv : g (s.blk.cpu x) = v) :
    Completes c s fun b => (b.cpu x).getAcc n = v ∧ s.blk.Past x 1 [.acc n] b :=
  completes_putAcc (G := fun h => (g h, false)) hexec hready hf hrep (fun i y => congrArg (·, false) (hg i y)) fun _ hval hsr hpast =>
    ⟨hval.trans hv, Block.Past.of_sr hpast hsr⟩

theorem completes_putRead {G : HepCore → Word × Bool}
    (hexec : exec c s = s.act fun b => b.instr x 1 .many fun c b => .done (b.updHc c fun h =>
      { h.setD rd (G (b.hc c)).1 with sr := if (G (b.hc c)).2 then withBit h.sr SR.sat true else h.sr }))
    (hready : s.blk.Ready) (hf : s.blk.fetches x 1 = true) (hrep : (s.blk.cpu x).rep ≤ 1)
    (hG : ∀ i y, G ((s.blk.cpu x).fetched i y) = G (s.blk.cpu x))
    (hE : ∀ b, (b.cpu x).getD rd = (G (s.blk.cpu x)).1 →
      (b.cpu x).sr = (if (G (s.blk.cpu x)).2 then withBit (s.blk.cpu x).sr SR.sat true else (s.blk.cpu x).sr) →
      s.blk.Past x 1 [.d rd, .sr] b → E b) : Completes c s E := by
  refine completes_of_once (HepCore.putRead rd G) hexec hready hf hrep (fun _ _ => rfl) fun i y b hw hcore => hE b ?_ ?_
    (Block.past_of_retire hw hcore ((CoreSame.irq_young _ _ i y).trans (CoreSame.putRead rd G _)) (by simp [LoopFree]))
  · rw [hcore, HepCore.retire_getD, ← hG i y]
    exact HepCore.getD_setD ..
  · rw [hcore, HepCore.retire_sr, ← hG i y]
    rfl

end

/-- A signed value that 72 bits hold is the value of its word. -/
theorem toInt_ofInt_acc {i : Int} (hlo : -(2 ^ 71) ≤ i) (hhi : i < 2 ^ 71) : (BitVec.ofInt 72 i).toInt = i := by
  rw [BitVec.toInt_ofInt]
  exact Int.bmod_eq_of_le (by omega) (by omega)

/-- A product of two words lies well within 72 bits. -/
theorem toInt_mul_range (a b : Word) : -(2 ^ 62) ≤ a.toInt * b.toInt ∧ a.toInt * b.toInt ≤ 2 ^ 62 := by
  obtain ⟨ha, ha'⟩ := toInt_range a
  obtain ⟨hb, hb'⟩ := toInt_range b
  constructor <;> nlinarith

/-- The clamped value, and whether it is the exact one. -/
theorem accClamp_spec (i : Int) :
    (accClamp i).1.toInt = max (-(2 ^ 71)) (min (2 ^ 71 - 1) i) ∧
      ((accClamp i).2 = false ↔ max (-(2 ^ 71)) (min (2 ^ 71 - 1) i) = i) := by
  unfold accClamp
  split
  case isTrue h => exact ⟨(show BitVec.toInt 0x800000000000000000#72 = -(2 ^ 71) by decide).trans (by omega), by simp; omega⟩
  case isFalse hlo =>
    split
    case isTrue h => exact ⟨(show BitVec.toInt 0x7FFFFFFFFFFFFFFFFF#72 = 2 ^ 71 - 1 by decide).trans (by omega), by simp; omega⟩
    case isFalse hhi => exact ⟨by rw [toInt_ofInt_acc (by omega) (by omega)]; omega, by simp; omega⟩

/-- The shifted accumulator as a number. -/
theorem toInt_sshiftRight_acc (acc : BitVec 72) (sh : Nat) : (acc.sshiftRight sh).toInt = acc.toInt / 2 ^ sh := by
  rw [BitVec.toInt_sshiftRight, Int.shiftRight_eq_div_pow]
  norm_cast

theorem accRead_wraps (acc : BitVec 72) (sh : Nat) : accRead false acc sh = (BitVec.ofInt 32 (acc.toInt / 2 ^ sh), false) := by
  simp only [accRead, toInt_sshiftRight_acc, Bool.false_and, Bool.false_eq_true, if_false]

theorem accRead_spec (acc : BitVec 72) (sh : Nat) :
    (accRead true acc sh).1 = clamp32 (acc.toInt / 2 ^ sh) ∧ ((accRead true acc sh).2 = false ↔ fits (acc.toInt / 2 ^ sh) = true) := by
  simp only [accRead, toInt_sshiftRight_acc, outside_eq, Bool.true_and]
  cases hfit : fits (acc.toInt / 2 ^ sh)
  · have hrange : ¬ (-2147483648 ≤ acc.toInt / 2 ^ sh ∧ acc.toInt / 2 ^ sh ≤ 2147483647) := of_decide_eq_false hfit
    simp only [Bool.not_false, if_true, Bool.true_eq_false, Bool.false_eq_true, and_true]
    split
    case isTrue h => rw [clamp32_of_below (by omega)]
    case isFalse h => rw [clamp32_of_above (by omega)]
  · simp [clamp32_of_fits hfit]

section

variable (a b g : Word)

theorem getLsbD_accWrite (i : Nat) (hi : i < 72) :
    (accWrite a b g).getLsbD i = if i < 32 then a.getLsbD i else if i < 64 then b.getLsbD (i - 32) else g.getLsbD (i - 64) := by
  simp only [accWrite, BitVec.getLsbD_setWidth, BitVec.getLsbD_append, hi, decide_true, Bool.true_and]
  by_cases h₁ : i < 32
  · simp [h₁]
  · by_cases h₂ : i < 64
    · simp [h₁, h₂, show i - 32 < 32 by omega]
    · simp [h₁, h₂, show ¬ i - 32 < 32 by omega, show i - 32 - 32 = i - 64 by omega]
      omega

theorem accWrite_low : (accWrite a b g).extractLsb' 0 32 = a := by
  apply BitVec.eq_of_getLsbD_eq
  intro i hi
  rw [BitVec.getLsbD_extractLsb', getLsbD_accWrite _ _ _ _ (by omega)]
  simp [hi]

theorem accWrite_high : (accWrite a b g).extractLsb' 32 32 = b := by
  apply BitVec.eq_of_getLsbD_eq
  intro i hi
  rw [BitVec.getLsbD_extractLsb', getLsbD_accWrite _ _ _ _ (by omega)]
  simp [hi, show 32 + i < 64 by omega]

theorem accWrite_guard : (accWrite a b g).extractLsb' 64 8 = g.setWidth 8 := by
  apply BitVec.eq_of_getLsbD_eq
  intro i hi
  rw [BitVec.getLsbD_extractLsb', getLsbD_accWrite _ _ _ _ (by omega)]
  simp [hi, show ¬ 64 + i < 32 by omega]

end

/-- Settles O39: the accumulators wrap, clamp, set SAT and are read and written as R525 says. -/
theorem heperAccumulators : Obligations.HeperAccumulators := by
  unfold Obligations.HeperAccumulators
  refine ⟨fun s x n rs rt hr hf hrep => ?mac, fun s x n rs rt hr hf hrep => ?msu, fun s x n rs rt hr hf hrep => ?macu,
    fun s x n rs rt hr hf hrep => ?mula, fun s x n rs rt hr hf hrep => ?macs, fun s x n rs rt hr hf hrep => ?msus,
    fun s x n hr hf hrep => ?aclr, fun s x rd n sh hr hf hrep => ?ard, fun s x rd n sh hr hf hrep => ?ards,
    fun s x rd n hr hf hrep => ?ardh, fun s x rd n hr hf hrep => ?ardg, fun s x n rs rt rg hr hf hrep => ?awr⟩
  case mac =>
    exact completes_acc (g := fun h => h.getAcc n + BitVec.ofInt 72 ((h.getD rs).toInt * (h.getD rt).toInt)) rfl hr hf hrep
      (fun _ _ => rfl) rfl
  case msu =>
    exact completes_acc (g := fun h => h.getAcc n - BitVec.ofInt 72 ((h.getD rs).toInt * (h.getD rt).toInt)) rfl hr hf hrep
      (fun _ _ => rfl) rfl
  case macu =>
    exact completes_acc (g := fun h => h.getAcc n + BitVec.ofNat 72 ((h.getD rs).toNat * (h.getD rt).toNat)) rfl hr hf hrep
      (fun _ _ => rfl) rfl
  case mula =>
    refine (completes_acc (g := fun h => BitVec.ofInt 72 ((h.getD rs).toInt * (h.getD rt).toInt)) rfl hr hf hrep
      (fun _ _ => rfl) rfl).mono fun b ⟨hval, hpast⟩ => ⟨?_, hpast⟩
    have hrange := toInt_mul_range ((s.blk.cpu x).getD rs) ((s.blk.cpu x).getD rt)
    rw [hval, toInt_ofInt_acc (by omega) (by omega)]
  case macs =>
    refine completes_putAcc (G := fun h => accClamp ((h.getAcc n).toInt + (h.getD rs).toInt * (h.getD rt).toInt)) rfl hr hf hrep
      (fun _ _ => rfl) fun b hval hsr hpast => ⟨?_, ?_, hpast⟩
    · rw [hval, (accClamp_spec _).1]
    · rw [hsr]
      exact srBits_sat _ (accClamp_spec _).2
  case msus =>
    refine completes_putAcc (G := fun h => accClamp ((h.getAcc n).toInt - (h.getD rs).toInt * (h.getD rt).toInt)) rfl hr hf hrep
      (fun _ _ => rfl) fun b hval hsr hpast => ⟨?_, ?_, hpast⟩
    · rw [hval, (accClamp_spec _).1]
    · rw [hsr]
      exact srBits_sat _ (accClamp_spec _).2
  case aclr => exact completes_acc (g := fun _ => 0) rfl hr hf hrep (fun _ _ => rfl) rfl
  case ard =>
    refine completes_putRead (G := fun h => accRead false (h.getAcc n) sh) rfl hr hf hrep (fun _ _ => rfl)
      fun b hval hsr hpast => ?_
    rw [accRead_wraps] at hval hsr
    exact ⟨hval, Block.Past.of_sr hpast hsr⟩
  case ards =>
    refine completes_putRead (G := fun h => accRead true (h.getAcc n) sh) rfl hr hf hrep (fun _ _ => rfl)
      fun b hval hsr hpast => ⟨hval.trans (accRead_spec _ _).1, ?_, hpast⟩
    rw [hsr]
    exact srBits_sat _ (accRead_spec _ _).2
  case ardh =>
    exact completes_plain (g := fun h => (h.getAcc n).extractLsb' 32 32) rfl hr hf hrep (fun _ _ => rfl) rfl
  case ardg =>
    refine (completes_plain (g := fun h => ((h.getAcc n).extractLsb' 64 8).signExtend 32) rfl hr hf hrep (fun _ _ => rfl)
      rfl).mono fun b ⟨hval, hpast⟩ => ⟨?_, hpast⟩
    rw [hval, BitVec.toInt_signExtend_of_le (by decide)]
  case awr =>
    refine completes_of_once (fun h => h.setAcc n (accWrite (h.getD rs) (h.getD rt) (h.getD rg))) rfl hr hf hrep
      (fun _ _ => rfl) fun i y b hw hcore => ?_
    have hval : (b.cpu x).getAcc n = accWrite ((s.blk.cpu x).getD rs) ((s.blk.cpu x).getD rt) ((s.blk.cpu x).getD rg) := by
      rw [hcore, HepCore.retire_getAcc]
      exact HepCore.getAcc_setAcc ..
    rw [hval]
    exact ⟨accWrite_low .., accWrite_high .., accWrite_guard .., Block.past_of_retire hw hcore
      ((CoreSame.irq_young _ _ i y).trans (CoreSame.setAcc _ _ _)) (by simp [LoopFree])⟩

/-! ### Repetition -/

namespace Block

theorem tabPut_tabPut {α : Type} (t : Tab α) (n : Nat) (v w : α) : Tab.put (Tab.put t n v) n w = Tab.put t n w := by
  induction t with
  | nil => simp [Tab.put]
  | cons e t ih =>
    obtain ⟨k, u⟩ := e
    by_cases hlt : n < k
    · simp [Tab.put, hlt]
    · by_cases heq : n = k
      · simp [Tab.put, heq]
      · simp [Tab.put, hlt, heq, ih]

theorem updHc_updHc (c : Nat) (f g : HepCore → HepCore) (b : Block) : (b.updHc c f).updHc c g = b.updHc c (g ∘ f) := by
  simp only [updHc, hc, Tab.get_put_same, tabPut_tabPut, Function.comp]

/-- Executions that each complete apply their effect as often as they run. -/
theorem repeatRun_done {op : Block → Run} {c : Nat} {f : HepCore → HepCore} (hop : ∀ b, op b = .done (b.updHc c f))
    {n : Nat} (hn : 0 < n) (b : Block) : repeatRun op n b = (.done (b.updHc c f^[n]), 0) := by
  have hrun : ∀ (m : Nat) (g : HepCore → HepCore), repeatRun op m (b.updHc c g) = (.done (b.updHc c (f^[m] ∘ g)), 0) := by
    intro m
    induction m with
    | zero => exact fun g => rfl
    | succ m ih =>
      intro g
      rw [repeatRun, hop, updHc_updHc]
      exact ih (f ∘ g)
  obtain ⟨m, rfl⟩ := Nat.exists_eq_succ_of_ne_zero hn.ne'
  rw [repeatRun, hop]
  exact hrun m f

end Block

/-- An instruction whose execution changes the core as f says, behind REP with count n. -/
theorem completes_of_repeat {c : Instr} {s : State} {x : Exe} {words n : Nat} {op : Nat → Block → Run}
    {E : Block → Prop} (f : HepCore → HepCore) (hexec : exec c s = s.act fun b => b.instr x words .many op)
    (hready : s.blk.Ready) (hf : s.blk.fetches x words = true) (hrep : (s.blk.cpu x).rep = n) (hn : 0 < n)
    (hop : ∀ b : Block, op (Block.hcOf x) b = .done (b.updHc (Block.hcOf x) f))
    (hE : ∀ i y b, s.blk.Within [] [.core (Block.hcOf x)] b →
      b.cpu x = (f^[n] ((s.blk.cpu x).fetched i y)).retire (s.blk.cpu x).pc words → E b) : Completes c s E := by
  refine completes_of_done f^[n] hexec hready hf (.inl (by decide)) (fun b _ => ?_) hE
  have hcount : RepKind.many.runs (s.blk.cpu x) = n := by
    rw [RepKind.runs, hrep]
    simp [hn.ne']
  rw [hcount]
  exact Block.repeatRun_done hop hn b

theorem CoreSame.iterate {cs : List CorePart} {f : HepCore → HepCore} (hf : ∀ h, CoreSame cs h (f h)) (n : Nat) (h : HepCore) :
    CoreSame cs h (f^[n] h) := by
  induction n with
  | zero => exact CoreSame.refl cs h
  | succ n ih =>
    rw [Function.iterate_succ_apply']
    exact ih.trans (hf _)

section

variable (rd : Nat) (v : Word) (n : Nat) (h : HepCore)

theorem getD_iterate_add :
    ((HepCore.putResult rd fun h => .add (h.getD rd) v)^[n] h).getD rd = h.getD rd + v * BitVec.ofNat 32 n := by
  induction n with
  | zero => simp
  | succ n ih =>
    rw [Function.iterate_succ_apply', HepCore.putResult]
    refine (HepCore.getD_setD ..).trans ?_
    rw [Alu.add_val, ih, BitVec.ofNat_add, BitVec.mul_add, BitVec.add_assoc]
    simp

/-- The stack pointer of the level stays the one that A15 names. -/
theorem setA_iterate :
    CoreSame [.ofA h rd] h ((fun h => h.setA rd (h.getA rd + v))^[n] h) ∧
      ((fun h => h.setA rd (h.getA rd + v))^[n] h).sr = h.sr ∧
      ((fun h => h.setA rd (h.getA rd + v))^[n] h).getA rd = h.getA rd + v * BitVec.ofNat 32 n := by
  induction n with
  | zero => exact ⟨CoreSame.refl _ h, rfl, by simp⟩
  | succ n ih =>
    rw [Function.iterate_succ_apply']
    generalize (fun h : HepCore => h.setA rd (h.getA rd + v))^[n] h = k at ih
    obtain ⟨hsame, hsr, hval⟩ := ih
    have hpart : CorePart.ofA k rd = CorePart.ofA h rd := by simp [CorePart.ofA, HepCore.priv, hsr]
    refine ⟨hsame.trans (hpart ▸ CoreSame.setA k rd _), by rw [HepCore.setA_sr, hsr], ?_⟩
    rw [HepCore.getA_setA, hval, BitVec.ofNat_add, BitVec.mul_add, BitVec.add_assoc]
    simp

theorem getAcc_iterate_mac (a b : Nat) :
    ((fun h => h.setAcc rd (h.getAcc rd + BitVec.ofInt 72 ((h.getD a).toInt * (h.getD b).toInt)))^[n] h).getAcc rd =
      h.getAcc rd + BitVec.ofInt 72 ((h.getD a).toInt * (h.getD b).toInt) * BitVec.ofNat 72 n := by
  induction n with
  | zero => simp
  | succ n ih =>
    have hsame := CoreSame.iterate (cs := [.acc rd]) (fun h => CoreSame.setAcc h rd (h.getAcc rd + BitVec.ofInt 72
      ((h.getD a).toInt * (h.getD b).toInt))) n h
    have hd : ∀ m, _ := fun m => hsame (.d m) (by simp)
    simp only [CorePart.Same] at hd
    rw [Function.iterate_succ_apply', HepCore.getAcc_setAcc, ih, hd, hd, BitVec.ofNat_add, BitVec.mul_add, BitVec.add_assoc]
    simp

theorem getD_iterate_lsl (count : Nat) :
    ((HepCore.putResult rd fun h => .shift 0 (h.getD rd) count)^[n] h).getD rd = h.getD rd <<< (n * count) := by
  induction n with
  | zero => simp
  | succ n ih =>
    rw [Function.iterate_succ_apply', HepCore.putResult]
    refine (HepCore.getD_setD ..).trans ?_
    rw [Alu.lsl_val, ← Alu.shiftLeft_val, ih, Nat.succ_mul, BitVec.shiftLeft_add]

end

/-- Settles O45: behind REP the effect of the instruction comes as often as the counter says, by induction on the count, and
the core goes on once. -/
theorem heperRepetition : Obligations.HeperRepetition := by
  unfold Obligations.HeperRepetition
  refine ⟨fun s x rd i n hr hf hrep hn => ?addi, fun s x rd i n hr hf hrep hn => ?adda, fun s x k rs rt n hr hf hrep hn => ?mac,
    fun s x rd count n hr hf hrep hn => ?shi⟩
  case addi =>
    refine completes_of_repeat (HepCore.putResult rd fun h => .add (h.getD rd) i.signed) rfl hr hf hrep hn
      (fun b => Block.putResult_of_no_trap rd (fun h => .add (h.getD rd) i.signed) rfl) fun i' y b hw hcore => ⟨?_, ?_⟩
    · rw [hcore, HepCore.retire_getD, getD_iterate_add]
      rfl
    · exact Block.past_of_retire hw hcore ((CoreSame.irq_young _ _ i' y).trans (CoreSame.iterate (CoreSame.putResult rd _) n _))
        (loopFree_d_sr rd)
  case adda =>
    refine completes_of_repeat (fun h => h.setA rd (h.getA rd + i.signed)) rfl hr hf hrep hn (fun b => rfl)
      fun i' y b hw hcore => ?_
    obtain ⟨hsame, -, hval⟩ := setA_iterate rd i.signed n ((s.blk.cpu x).fetched i' y)
    refine ⟨?_, Block.past_of_retire hw hcore ((CoreSame.irq_young _ _ i' y).trans hsame) ?_⟩
    · rw [hcore, HepCore.retire_getA, hval]
      rfl
    · simpa [LoopFree] using loopFree_ofA (s.blk.cpu x) rd
  case mac =>
    refine completes_of_repeat (fun h => h.setAcc k (h.getAcc k + BitVec.ofInt 72 ((h.getD rs).toInt * (h.getD rt).toInt))) rfl hr
      hf hrep hn (fun b => congrArg Run.done (accWith_wraps
        (fun h => h.getAcc k + BitVec.ofInt 72 ((h.getD rs).toInt * (h.getD rt).toInt)) _ k b)) fun i' y b hw hcore => ⟨?_, ?_⟩
    · rw [hcore, HepCore.retire_getAcc, getAcc_iterate_mac]
      rfl
    · exact Block.past_of_retire hw hcore
        ((CoreSame.irq_young _ _ i' y).trans (CoreSame.iterate (fun h => CoreSame.setAcc h k _) n _)) (by simp [LoopFree])
  case shi =>
    refine completes_of_repeat (HepCore.putResult rd fun h => .shift 0 (h.getD rd) count.toNat) rfl hr hf hrep hn
      (fun b => Block.putResult_of_no_trap rd (fun h => .shift 0 (h.getD rd) count.toNat) ?_) fun i' y b hw hcore => ⟨?_, ?_⟩
    · rw [Alu.shift_dz, Bool.false_and]
    · rw [hcore, HepCore.retire_getD, getD_iterate_lsl]
      split
      case isTrue h => exact BitVec.shiftLeft_eq_zero h
      case isFalse => rfl
    · exact Block.past_of_retire hw hcore ((CoreSame.irq_young _ _ i' y).trans (CoreSame.iterate (CoreSame.putResult rd _) n _))
        (loopFree_d_sr rd)

end Sys2Proof.Machine
end

section
/-! PROOFS. Bytes written and read back, and the loads and stores of a core. -/
namespace Sys2Proof.Machine

/-! ### Bytes -/

@[simp] theorem leBytes_length (k n : Nat) : (leBytes k n).length = k := by
  induction k generalizing n with
  | zero => rfl
  | succ k ih => rw [leBytes, List.length_cons, ih]

theorem ofLe_lt (l : List Byte) : ofLe l < 256 ^ l.length := by
  induction l with
  | nil => simp [ofLe]
  | cons b l ih =>
    have hb := b.isLt
    rw [ofLe, List.length_cons, Nat.pow_succ]
    omega

theorem fill_length (a n : Nat) (m : List Host.Cell) : (Mem.fill a n m).length = n := by
  induction n generalizing a m with
  | zero => rfl
  | succ n ih =>
    cases m with
    | nil => rw [Mem.fill, List.length_cons, ih]
    | cons c t =>
      rw [Mem.fill]
      split <;> rw [List.length_cons, ih]

/-- Bytes as cells fill their addresses. -/
theorem fill_cells (a : Nat) (vs : List Byte) : Mem.fill a vs.length (Mem.cells a vs) = vs := by
  induction vs generalizing a with
  | nil => rfl
  | cons v vs ih =>
    have hskip : Mem.fill a (vs.length + 1) (Mem.cells (a + 1) vs) = Mem.blank :: Mem.fill (a + 1) vs.length (Mem.cells (a + 1) vs) := by
      cases hcells : Mem.cells (a + 1) vs with
      | nil => rfl
      | cons c t =>
        have hbound := Mem.cells_bounds (a + 1) vs c (by rw [hcells]; exact List.mem_cons_self ..)
        rw [Mem.fill, if_neg (by omega)]
    rw [List.length_cons, Mem.cells]
    split
    case isTrue hv => rw [hskip, ih, hv]
    case isFalse => rw [Mem.fill, if_pos rfl, ih]

theorem cells_append (a : Nat) (us vs : List Byte) : Mem.cells a (us ++ vs) = Mem.cells a us ++ Mem.cells (a + us.length) vs := by
  induction us generalizing a with
  | nil => rfl
  | cons u us ih =>
    have hat : a + (us.length + 1) = a + 1 + us.length := by omega
    rw [List.cons_append, Mem.cells, Mem.cells, ih, List.length_cons, hat]
    split <;> rfl

/-- The cells of a memory in the n bytes from a. -/
def Mem.window (m : List Host.Cell) (a n : Nat) : List Host.Cell := m.filter fun c => decide (a ≤ c.1 ∧ c.1 < a + n)

theorem reads_of_window {m : List Host.Cell} {a : Nat} {vs : List Byte} (h : Mem.window m a vs.length = Mem.cells a vs) :
    Mem.reads m a vs.length = vs := by
  rw [Mem.reads, ← Mem.window, h, fill_cells]

/-- Bytes written behind others extend their window. -/
theorem window_writes {m : List Host.Cell} {a : Nat} {us : List Byte} (vs : List Byte)
    (h : Mem.window m a us.length = Mem.cells a us) :
    Mem.window (Mem.writes m (a + us.length) vs) a (us ++ vs).length = Mem.cells a (us ++ vs) := by
  have hlow : (m.filter fun c => decide (c.1 < a + us.length)).filter
      (fun c => decide (a ≤ c.1 ∧ c.1 < a + (us.length + vs.length))) = Mem.window m a us.length := by
    rw [List.filter_filter]
    exact List.filter_congr fun c _ => by rw [Bool.eq_iff_iff]; simp; omega
  have hmid : (Mem.cells (a + us.length) vs).filter (fun c => decide (a ≤ c.1 ∧ c.1 < a + (us.length + vs.length))) =
      Mem.cells (a + us.length) vs := by
    rw [List.filter_eq_self]
    intro c hc
    have hbound := Mem.cells_bounds _ vs c hc
    simp
    omega
  have hhigh : (m.filter fun c => decide (a + us.length + vs.length ≤ c.1)).filter
      (fun c => decide (a ≤ c.1 ∧ c.1 < a + (us.length + vs.length))) = [] := by
    rw [List.filter_filter, List.filter_eq_nil_iff]
    intro c _
    simp
    omega
  rw [List.length_append, Mem.window, Mem.writes, List.filter_append, List.filter_append, hlow, hmid, hhigh, h, List.append_nil,
    cells_append]

/-- Bytes that were written are read back. -/
theorem reads_writes (m : List Host.Cell) (a : Nat) (vs : List Byte) : Mem.reads (Mem.writes m a vs) a vs.length = vs := by
  have hnone : Mem.window m a ([] : List Byte).length = Mem.cells a [] := by
    rw [Mem.window, Mem.cells, List.filter_eq_nil_iff]
    intro c _
    simp
  exact reads_of_window (window_writes (us := []) vs hnone)

namespace Block

/-! ### Accesses that reach memory -/

/-- What it says that an access reaches memory. -/
theorem reaches_spec {x : Exe} {kind size g : Nat} {ea : Word} {b : Block} (h : b.reaches x kind size ea g = true) :
    (ea.toNat % 2 ^ size == 0) = true ∧ mpuDenied (b.cpu x) (b.cpu x).priv kind ea.toNat = none ∧
      (∃ dom, spot (hcOf x) ea.toNat = .ram g dom ∧ b.pg dom = true) ∧
      (b.badEcc.filter fun e => decide (e.1 < g + 2 ^ size ∧ g < e.1 + 4)) = [] ∧ b.injHit g (2 ^ size) = false ∧
      b.retainedClosed g = false := by
  simp only [reaches, Bool.and_eq_true, Bool.not_eq_true', beq_iff_eq, List.all_eq_true] at h
  obtain ⟨⟨⟨⟨⟨halign, hmpu⟩, hspot⟩, hecc⟩, hinj⟩, hclosed⟩ := h
  refine ⟨by simpa using halign, hmpu, ?_, ?_, hinj, hclosed⟩
  · split at hspot
    case h_1 a dom hram =>
      obtain ⟨ha, hpg⟩ := Bool.and_eq_true_iff.mp hspot
      exact ⟨dom, by rw [hram, beq_iff_eq.mp ha], hpg⟩
    case h_2 => cases hspot
  · rw [List.filter_eq_nil_iff]
    exact fun e he => by rw [hecc e he]; exact Bool.false_ne_true

theorem load_of_reaches {x : Exe} {size g : Nat} {ea : Word} {o b : Block} (hb : Fetched (hcOf x) o b)
    (h : o.reaches x 1 size ea g = true) :
    b.load (hcOf x) (o.cpu x).priv ea.toNat (2 ^ size) = .ok b (BitVec.ofNat 32 (ofLe (o.readMem g (2 ^ size)))) := by
  obtain ⟨halign, hmpu, ⟨dom, hspot, hpg⟩, hecc, -, -⟩ := reaches_spec h
  rw [← hb.badEcc] at hecc
  rw [load, checked_of_allowed _ halign (by rw [hb.mpuDenied, hmpu])]
  simp only [busRead, hspot, hb.pg, hpg, eccRead_of_clean hecc, eccOpen_of_clean hecc, Bool.not_true, Bool.false_eq_true, if_false]
  rw [readMem, hb.mem]
  rfl

namespace Fetched

variable {c : Nat} {o b : Block}

theorem rd (h : Fetched c o b) (r : Reg) (n : Nat) (hr : recordReg (r.at n) = false) : b.rd r n = o.rd r n := by
  simp only [Block.rd, h.within.beside.1 _ _ (List.not_mem_nil) hr]

theorem injHit (h : Fetched c o b) (a n : Nat) : b.injHit a n = o.injHit a n := by
  simp only [Block.injHit, Block.flag, Block.getF, h.rd R.CATCH_INJADDR 0 (by decide), h.rd F.CATCH_INJ_ARM.reg 0 (by decide)]

theorem retainedClosed (h : Fetched c o b) (g : Nat) : b.retainedClosed g = o.retainedClosed g := by
  have hboot : b.boot = o.boot := h.within.beside.2 .boot (by simp)
  simp only [Block.retainedClosed, hboot]

end Fetched

/-- The block with these bytes in memory, and the check bits of the words that they touch put right. -/
def stored (g : Nat) (vs : List Byte) (b : Block) : Block :=
  { b with mem := Mem.writes b.mem g vs, badEcc := Tab.drop b.badEcc fun k => decide (k < g + vs.length ∧ g < k + 4) }

theorem stored_within (g : Nat) (vs : List Byte) (b : Block) : b.Within [] [.mem, .ecc] (b.stored g vs) :=
  ⟨⟨fun _ _ _ _ => rfl, fun p hp => by
    cases p with
    | mem | ecc => simp at hp
    | _ => simp [Part.Same, stored]⟩, rfl⟩

theorem stored_hc (g : Nat) (vs : List Byte) (c : Nat) (b : Block) : (b.stored g vs).hc c = b.hc c := rfl

theorem memBut_stored (g : Nat) (vs : List Byte) (b : Block) : b.MemBut g vs.length (b.stored g vs) := fun k hk =>
  Mem.read_writes_outside b.mem g vs k hk

theorem writeMem_of_not_hit {g : Nat} {vs : List Byte} {b : Block} (h : b.injHit g vs.length = false) :
    b.writeMem g vs = b.stored g vs := by
  simp only [writeMem, h, Bool.not_false, if_true]
  rfl

/-- A store that reaches memory, of a word whose bytes these are. -/
theorem store_of_reaches {x : Exe} {size g : Nat} {ea : Word} {o b : Block} (w : Word) (hb : Fetched (hcOf x) o b)
    (h : o.reaches x 2 size ea g = true) :
    b.store (hcOf x) (o.cpu x).priv ea.toNat (2 ^ size) w = .ok (b.stored g (leBytes (2 ^ size) w.toNat)) 0 := by
  obtain ⟨halign, hmpu, ⟨dom, hspot, hpg⟩, -, hinj, hclosed⟩ := reaches_spec h
  rw [← hb.injHit] at hinj
  have hparity : b.parityHit g (2 ^ size) = false := by rw [parityHit, hinj, Bool.false_and]
  rw [store, checked_of_allowed _ halign (by rw [hb.mpuDenied, hmpu])]
  simp only [busWrite, hspot, hparity, hb.pg, hpg, hb.retainedClosed, hclosed, Bool.not_true, Bool.false_eq_true, if_false]
  rw [writeMem_of_not_hit (by rw [leBytes_length, hinj])]

end Block

/-! ### The base register -/

namespace HepCore

variable (h : HepCore) (ab : Nat) (e : Ea)

@[simp] theorem modify_sr : (h.modify ab e).sr = h.sr := by
  cases e with
  | offset _ | indexed _ => rfl
  | post _ | pre _ => exact setA_sr ..

theorem modify_getA : (h.modify ab e).getA ab = h.getA ab + e.step := by
  cases e with
  | offset _ | indexed _ => exact (BitVec.add_zero _).symm
  | post _ | pre _ => exact getA_setA ..

end HepCore

theorem ofA_congr {g h : HepCore} (hsr : h.sr = g.sr) (n : Nat) : CorePart.ofA h n = CorePart.ofA g n := by
  simp [CorePart.ofA, HepCore.priv, hsr]

theorem CoreSame.setA_of_sr {g h : HepCore} (hsr : h.sr = g.sr) (n : Nat) (v : Word) :
    CoreSame [.ofA g n] h (h.setA n v) := ofA_congr hsr n ▸ CoreSame.setA h n v

theorem CoreSame.modify_fetched (o : HepCore) (i : Tab Nat) (y : Bool) (ab : Nat) (e : Ea) :
    CoreSame [.ofA o ab] o ((o.fetched i y).modify ab e) := by
  refine (CoreSame.irq_young _ o i y).trans ?_
  cases e with
  | offset _ | indexed _ => exact CoreSame.refl _ _
  | post _ | pre _ => exact CoreSame.setA_of_sr (g := o) (h := o.fetched i y) rfl ab _

/-! ### Loads -/

section

variable {c : Instr} {s : State} {x : Exe} {size ab g : Nat} {e : Ea} {E : Block → Prop}

/-- A load that reaches memory. -/
theorem completes_load {put : Word → HepCore → HepCore} {v : Word} (hexec : exec c s = s.act fun b => b.loadOp x size ab e put)
    (hready : s.blk.Ready) (hf : s.blk.fetches x e.words = true) (hrep : (s.blk.cpu x).rep ≤ 1)
    (hreach : s.blk.reaches x 1 size ((s.blk.cpu x).ea ab size e) g = true)
    (hv : v = BitVec.ofNat 32 (ofLe (s.blk.readMem g (2 ^ size))))
    (hE : ∀ i y b, s.blk.Within [] [.core (Block.hcOf x)] b →
      b.cpu x = (put v (HepCore.modify ((s.blk.cpu x).fetched i y) ab e)).retire (s.blk.cpu x).pc e.words → E b) :
    Completes c s E := by
  refine completes_of_once (fun h => put v (h.modify ab e)) hexec hready hf hrep (fun b hb => ?_) hE
  have hea : (b.hc (Block.hcOf x)).ea ab size e = (s.blk.cpu x).ea ab size e := by
    rw [hb.core]
    cases e <;> rfl
  have hpriv : (b.hc (Block.hcOf x)).priv = (s.blk.cpu x).priv := by rw [hb.core]; rfl
  simp only [hea, hpriv, Block.load_of_reaches hb hreach, ← hv]

/-- A load into a D register. -/
theorem completes_load_d {rd : Nat} {f : Word → Word} (hexec : exec c s = s.act fun b => b.loadOp x size ab e fun v h => h.setD rd (f v))
    (hready : s.blk.Ready) (hf : s.blk.fetches x e.words = true) (hrep : (s.blk.cpu x).rep ≤ 1)
    (hreach : s.blk.reaches x 1 size ((s.blk.cpu x).ea ab size e) g = true) :
    Completes c s fun b => (b.cpu x).getD rd = f (BitVec.ofNat 32 (ofLe (s.blk.readMem g (2 ^ size)))) ∧
      (b.cpu x).getA ab = (s.blk.cpu x).getA ab + e.step ∧ s.blk.Past x e.words [.d rd, .ofA (s.blk.cpu x) ab] b := by
  refine completes_load hexec hready hf hrep hreach rfl fun i y b hw hcore => ⟨?_, ?_, Block.past_of_retire hw hcore ?_ ?_⟩
  · rw [hcore, HepCore.retire_getD, HepCore.getD_setD]
  · rw [hcore, HepCore.retire_getA]
    exact HepCore.modify_getA ((s.blk.cpu x).fetched i y) ab e
  · exact ((CoreSame.modify_fetched _ i y ab e).mono (by simp)).trans ((CoreSame.setD _ rd _).mono (by simp))
  · simpa [LoopFree] using loopFree_ofA (s.blk.cpu x) ab

/-- A load into an A register. -/
theorem completes_load_a {ad : Nat} (hexec : exec c s = s.act fun b => b.loadOp x size ab e fun v h => h.setA ad v)
    (hready : s.blk.Ready) (hf : s.blk.fetches x e.words = true) (hrep : (s.blk.cpu x).rep ≤ 1)
    (hreach : s.blk.reaches x 1 size ((s.blk.cpu x).ea ab size e) g = true) :
    Completes c s fun b => (b.cpu x).getA ad = BitVec.ofNat 32 (ofLe (s.blk.readMem g (2 ^ size))) ∧
      (ad ≠ ab → (b.cpu x).getA ab = (s.blk.cpu x).getA ab + e.step) ∧
      s.blk.Past x e.words [.ofA (s.blk.cpu x) ad, .ofA (s.blk.cpu x) ab] b := by
  refine completes_load hexec hready hf hrep hreach rfl fun i y b hw hcore => ?_
  generalize BitVec.ofNat 32 (ofLe (s.blk.readMem g (2 ^ size))) = v at hcore ⊢
  have hbase := HepCore.modify_getA ((s.blk.cpu x).fetched i y) ab e
  have hmodify : CoreSame [.ofA (s.blk.cpu x) ab] (s.blk.cpu x) (((s.blk.cpu x).fetched i y).modify ab e) :=
    CoreSame.modify_fetched _ i y ab e
  have hsr : (((s.blk.cpu x).fetched i y).modify ab e).sr = (s.blk.cpu x).sr := HepCore.modify_sr ..
  generalize ((s.blk.cpu x).fetched i y).modify ab e = k at hcore hbase hmodify hsr
  refine ⟨?_, fun hne => ?_, Block.past_of_retire hw hcore ?_ ?_⟩
  · rw [hcore, HepCore.retire_getA, HepCore.getA_setA]
  · rw [hcore, HepCore.retire_getA, HepCore.getA_setA_ne _ _ hne.symm, hbase]
    rfl
  · exact (hmodify.mono (by simp)).trans ((CoreSame.setA_of_sr hsr ad v).mono (by simp))
  · simpa [LoopFree] using ⟨loopFree_ofA (s.blk.cpu x) ad, loopFree_ofA (s.blk.cpu x) ab⟩

/-! ### Stores -/

/-- A store that reaches memory. -/
theorem completes_store {val : HepCore → Word} {n : Nat} (hexec : exec c s = s.act fun b => b.storeOp x size ab e val)
    (hready : s.blk.Ready) (hf : s.blk.fetches x e.words = true) (hrep : (s.blk.cpu x).rep ≤ 1)
    (hreach : s.blk.reaches x 2 size ((s.blk.cpu x).ea ab size e) g = true)
    (hval : ∀ i y, val ((s.blk.cpu x).fetched i y) = val (s.blk.cpu x)) (hn : 2 ^ size = n) :
    Completes c s fun b => b.readMem g n = leBytes n (val (s.blk.cpu x)).toNat ∧
      (b.cpu x).getA ab = (s.blk.cpu x).getA ab + e.step ∧
      (b.cpu x).pc = (Block.afterInstr (s.blk.cpu x).pc e.words (s.blk.cpu x)).1 ∧
      (b.cpu x).lc = (Block.afterInstr (s.blk.cpu x).pc e.words (s.blk.cpu x)).2.lc ∧ (b.cpu x).rep = 0 ∧
      s.blk.CoreBeside x [.ofA (s.blk.cpu x) ab] [] [.mem, .ecc] b ∧ s.blk.MemBut g n b := by
  subst hn
  refine completes_of_effect (l := []) (ps := [.mem, .ecc]) (fun h => h.modify ab e)
    (fun b => (b.stored g (leBytes (2 ^ size) (val (s.blk.cpu x)).toNat)).updHc (Block.hcOf x) fun h => h.modify ab e)
    hexec hready hf (.inl (by decide)) (fun b hb => ?_) (fun b _ => ?_) (fun b => Block.updHc_same ..) (by simp) (by simp)
    fun i y b b' hb hw hcore hblk => ?_
  · rw [RepKind.runs_eq_one (.inl hrep)]
    refine Block.repeatRun_one ?_
    have hea : (b.hc (Block.hcOf x)).ea ab size e = (s.blk.cpu x).ea ab size e := by
      rw [hb.core]
      cases e <;> rfl
    have hpriv : (b.hc (Block.hcOf x)).priv = (s.blk.cpu x).priv := by rw [hb.core]; rfl
    have hword : val (b.hc (Block.hcOf x)) = val (s.blk.cpu x) := by rw [hb.core, hval]
    simp only [hea, hpriv, hword, Block.store_of_reaches _ hb hreach]
  · exact ((Block.stored_within ..).mono (by simp) (by simp)).trans ⟨Block.beside_updHc _ _ _ _ (.head _), rfl⟩
  · have hmem : b.mem = (s.blk.stored g (leBytes (2 ^ size) (val (s.blk.cpu x)).toNat)).mem := by
      rw [hblk]
      exact congrArg (Mem.writes · g _) hb.mem
    have hsame : CoreSame [.ofA (s.blk.cpu x) ab] (s.blk.cpu x) (HepCore.modify ((s.blk.cpu x).fetched i y) ab e) :=
      CoreSame.modify_fetched _ i y ab e
    obtain ⟨hpc, hlc⟩ := Block.afterInstr_congr (s.blk.cpu x).pc e.words
      (fun k => hsame (.ls k) (by simpa using fun hk => ((loopFree_ofA (s.blk.cpu x) ab).2 k).1 hk.symm))
      (fun k => hsame (.le k) (by simpa using fun hk => ((loopFree_ofA (s.blk.cpu x) ab).2 k).2 hk.symm))
      (hsame .lc (by simpa using fun hk => (loopFree_ofA (s.blk.cpu x) ab).1 hk.symm)) (by rw [HepCore.modify_sr]; rfl)
    refine ⟨?_, ?_, ?_, ?_, ?_, Block.coreBeside_of_within hw ?_, ?_⟩
    · have hread := reads_writes s.blk.mem g (leBytes (2 ^ size) (val (s.blk.cpu x)).toNat)
      rw [leBytes_length] at hread
      rw [Block.readMem, hmem]
      exact hread
    · rw [hcore, HepCore.retire_getA]
      exact HepCore.modify_getA ((s.blk.cpu x).fetched i y) ab e
    · rw [hcore, HepCore.retire_pc, hpc]
    · rw [hcore, HepCore.retire_lc, hlc]
    · rw [hcore, HepCore.retire_rep]
    · rw [hcore]
      exact (hsame.mono (List.subset_append_left _ _)).trans ((CoreSame.retire _ _ _).mono (List.subset_append_right _ _))
    · have hbut := Block.memBut_stored g (leBytes (2 ^ size) (val (s.blk.cpu x)).toNat) s.blk
      rw [leBytes_length] at hbut
      exact fun k hk => by rw [hmem]; exact hbut k hk

end

/-! ### Signed loads -/

theorem toInt_ofNat_eq_sgn {w n : Nat} (hw : 0 < w) : (BitVec.ofNat w n).toInt = sgn w n := by
  have htwo : 2 ^ w = 2 * 2 ^ (w - 1) := by rw [← Nat.pow_succ', Nat.succ_eq_add_one, Nat.sub_add_cancel hw]
  rw [BitVec.toInt_eq_toNat_cond, BitVec.toNat_ofNat, sgn]
  by_cases h : n % 2 ^ w < 2 ^ (w - 1)
  · rw [if_pos (by omega), if_pos h]
  · rw [if_neg (by omega), if_neg h]

/-- A value of 1, 2 or 4 bytes, sign-extended. -/
theorem signedOf_toInt (size : Fin 3) (n : Nat) : (Block.signedOf size (BitVec.ofNat 32 n)).toInt = sgn (8 * 2 ^ size.val) n := by
  match size with
  | 0 =>
    refine (BitVec.toInt_signExtend_of_le (by decide)).trans ?_
    rw [BitVec.setWidth_ofNat_of_le (by decide)]
    exact toInt_ofNat_eq_sgn (by decide)
  | 1 =>
    refine (BitVec.toInt_signExtend_of_le (by decide)).trans ?_
    rw [BitVec.setWidth_ofNat_of_le (by decide)]
    exact toInt_ofNat_eq_sgn (by decide)
  | 2 => exact toInt_ofNat_eq_sgn (by decide)

/-- Settles O40: loads and stores that reach memory, by the addressing modes of R527. -/
theorem heperMemory : Obligations.HeperMemory := by
  unfold Obligations.HeperMemory
  refine ⟨fun s x size rd ab e g hr hf hrep hreach => ?ld, fun s x size rd ab e g hr hf hrep hreach => ?lds,
    fun s x ad ab e g hr hf hrep hreach => ?lda, fun s x size rd ab e g hr hf hrep hreach => ?st,
    fun s x ad ab e g hr hf hrep hreach => ?sta⟩
  case ld => exact completes_load_d (f := id) rfl hr hf hrep hreach
  case lds =>
    refine (completes_load_d (f := Block.signedOf size) rfl hr hf hrep hreach).mono fun b ⟨hval, hrest⟩ => ⟨?_, hrest⟩
    rw [hval]
    exact signedOf_toInt size _
  case lda =>
    exact (completes_load_a rfl hr hf hrep hreach).mono fun b ⟨hval, hbase, hpast⟩ =>
      ⟨hval, fun hne => hbase fun h => hne (Fin.ext h), hpast⟩
  case st => exact completes_store (val := fun h => h.getD rd) rfl hr hf hrep hreach (fun _ _ => rfl) rfl
  case sta => exact completes_store (val := fun h => h.getA ad) rfl hr hf hrep hreach (fun _ _ => rfl) rfl

end Sys2Proof.Machine
end

section
/-! PROOFS. Branches, loops, REP, WAIT and the timer of a core. -/
namespace Sys2Proof.Machine
namespace Block

theorem hcOf_lt (x : Exe) : hcOf x < 15 := by
  unfold hcOf
  split
  · decide
  · exact x.core.isLt

theorem hcOf_ne_one (x : Exe) : hcOf x ≠ 1 := by
  unfold hcOf
  split <;> omega

/-- HEP_STAT of the core of x, and of the pair. -/
def coreRegs (x : Exe) : List Nat := [R.HEP_STAT.at 0, R.HEP_STAT.at 1, R.HEP_STAT.at (hcOf x)]

/-! ### HEP_STAT follows a core -/

theorem setCore_within {l : List Nat} {ps : List Part} (c st : Nat) (b : Block) (hc : R.HEP_STAT.at c ∈ l)
    (h1 : c = 0 → R.HEP_STAT.at 1 ∈ l) : b.Within l ps (b.setCore c st) := by
  have hput : ∀ (i pr : Nat) (b : Block), R.HEP_STAT.at i ∈ l →
      b.Within l ps ((b.setF F.HEP_STAT_STATE i st).setF F.HEP_STAT_PRIV i pr) := fun i pr b hi =>
    (Within.setF b F.HEP_STAT_STATE i st hi).trans (.setF _ F.HEP_STAT_PRIV i pr hi)
  simp only [setCore]
  split
  case isTrue h0 => exact (hput 0 _ b (h0 ▸ hc)).trans (hput 1 _ _ (h1 h0))
  case isFalse => exact hput c _ b hc

theorem setCore_within_coreRegs {ps : List Part} (x : Exe) (st : Nat) (b : Block) :
    b.Within (coreRegs x) ps (b.setCore (hcOf x) st) :=
  setCore_within _ st b (by simp [coreRegs]) fun _ => by simp [coreRegs]

/-- GAUGE_STAT is none of HEP_STAT. -/
theorem gaugeStat_ne_hepStat {c : Nat} (hc : c < 15) : R.GAUGE_STAT.at 0 ≠ R.HEP_STAT.at c := by
  rw [hepStat_at c hc]
  simp only [Reg.at, R.GAUGE_STAT]
  omega

theorem setCore_gauge {c : Nat} (st : Nat) (b : Block) (hc : c < 15) :
    (b.setCore c st).getF F.GAUGE_STAT_STATE 0 = b.getF F.GAUGE_STAT_STATE 0 := by
  have hw : b.Within [R.HEP_STAT.at c, R.HEP_STAT.at 1] [] (b.setCore c st) := setCore_within c st b (by simp) (by simp)
  refine hw.getF_eq (f := F.GAUGE_STAT_STATE) ?_ (by decide)
  simp only [List.mem_cons, List.not_mem_nil, or_false, not_or]
  exact ⟨gaugeStat_ne_hepStat hc, gaugeStat_ne_hepStat (by decide)⟩

/-- A core that does not wait leaves a calm block calm. -/
theorem Calm.setCore {c st : Nat} {b : Block} (h : b.Calm) (hc : c < 15) (hst : st % 8 ≠ 3) : (b.setCore c st).Calm := by
  obtain ⟨hdue, hoff, hgauge, hcores⟩ := h
  refine ⟨by rw [setCore_due, hdue], by rw [setCore_pw, hoff], by rw [setCore_gauge st b hc, hgauge], fun d hd => ?_⟩
  rw [coreState_setCore st hc hd]
  split
  · exact hst
  · exact hcores d hd

/-- PRIV in HEP_STAT is that of the core. -/
theorem priv_setCore {c st : Nat} (b : Block) (hc : c < 15) (hst : st ≠ 0) :
    (b.setCore c st).getF F.HEP_STAT_PRIV c = b2n ((b.hc c).sr.getLsbD 0) := by
  have hput : ∀ b' : Block, ((b'.setF F.HEP_STAT_STATE c st).setF F.HEP_STAT_PRIV c ((b.hc c).sr.toNat % 2)).getF F.HEP_STAT_PRIV c =
      b2n ((b.hc c).sr.getLsbD 0) := fun b' => by
    rw [getF_setF_same _ _ _ _ (by decide)]
    have hbit : (b.hc c).sr.toNat % 2 = b2n ((b.hc c).sr.getLsbD 0) := by
      rw [BitVec.getLsbD, Nat.testBit_zero]
      rcases Nat.mod_two_eq_zero_or_one (b.hc c).sr.toNat with h | h <;> simp [h, b2n]
    rw [hbit]
    cases (b.hc c).sr.getLsbD 0 <;> rfl
  simp only [Block.setCore, if_neg hst]
  split
  case isTrue h0 =>
    subst h0
    have hne : R.HEP_STAT.at 0 ≠ R.HEP_STAT.at 1 := by decide
    rw [getF_setF_other _ F.HEP_STAT_PRIV F.HEP_STAT_PRIV 1 0 _ hne, getF_setF_other _ F.HEP_STAT_STATE F.HEP_STAT_PRIV 1 0 _ hne]
    exact hput b
  case isFalse => exact hput b

/-- A part of a core update keeps the registers. -/
theorem updHc_coreState (c d : Nat) (f : HepCore → HepCore) (b : Block) : (b.updHc c f).coreState d = b.coreState d := rfl

theorem Within.coreState {ps : List Part} {a b : Block} (h : a.Within [] ps b) {c : Nat} (hc : c < 15) :
    b.coreState c = a.coreState c :=
  h.getF_eq (f := F.HEP_STAT_STATE) (by simp) (recordReg_hepStat hc)

end Block

/-! ### Jumps -/

/-- The core that goes on at t. -/
def HepCore.jumped (t : Word) (h : HepCore) : HepCore := { h with pc := t, rep := 0 }

theorem CoreSame.jumped (t : Word) (h : HepCore) : CoreSame [.pc, .lc, .rep] h (h.jumped t) := fun p hp => by
  cases p with
  | pc | lc | rep => simp at hp
  | _ => rfl

theorem Block.coreReady_state {x : Exe} {words : Nat} {b : Block} (hf : b.fetches x words = true) : b.coreState (hcOf x) = 2 := by
  simp only [fetches, Bool.and_eq_true, coreReady, beq_iff_eq] at hf
  exact hf.1.1.1.1.1

section

variable {c : Instr} {s : State} {x : Exe} {words : Nat} {op : Nat → Block → Run} {E : Block → Prop}

/-- An instruction that jumps to t, after an effect that changes the core of x as f says. -/
theorem completes_of_jump (t : Word) (f : HepCore → HepCore) (effect : Block → Block)
    (hexec : exec c s = s.act fun b => b.instr x words .never op)
    (hready : s.blk.Ready) (hf : s.blk.fetches x words = true) (hrep : (s.blk.cpu x).rep = 0)
    (hop : ∀ b : Block, Block.Fetched (Block.hcOf x) s.blk b → op (Block.hcOf x) b = .jump (effect b) t)
    (hw : ∀ b : Block, b.Within [] [.core (Block.hcOf x)] (effect b))
    (hcore : ∀ b : Block, (effect b).hc (Block.hcOf x) = f (b.hc (Block.hcOf x)))
    (hE : ∀ i y b, s.blk.Within (Block.coreRegs x) [.core (Block.hcOf x)] b →
      b.cpu x = (f ((s.blk.cpu x).fetched i y)).jumped t → b.coreState (Block.hcOf x) = 2 →
      b.getF F.HEP_STAT_PRIV (Block.hcOf x) = b2n ((b.cpu x).sr.getLsbD 0) → E b) : Completes c s E := by
  obtain ⟨b₀, b', hfetched, -, hinstr⟩ := Block.instr_eq_endRun op hready hf (.inr hrep)
  have hlt := Block.hcOf_lt x
  let b₁ := (effect b').updHc (Block.hcOf x) (HepCore.jumped t)
  have hwithin : s.blk.Within [] [.core (Block.hcOf x)] b₁ :=
    (hfetched.within.trans (hw b')).trans ⟨Block.beside_updHc _ _ _ _ (.head _), rfl⟩
  have hstate : b₁.coreState (Block.hcOf x) = 2 := (hwithin.coreState hlt).trans (Block.coreReady_state hf)
  have hrun : s.blk.instr x words .never op = b₁.setCore (Block.hcOf x) 2 := by
    rw [hinstr, RepKind.runs_eq_one (.inr (by decide)), Block.repeatRun, hop b' hfetched, ← hstate]
    rfl
  refine completes_of_act c s _ E hexec ?_ ?_
  · rw [hrun]
    exact (hwithin.calm (by simp) (by simp) hready.1).setCore hlt (by decide)
  · rw [hrun]
    have hpriv := Block.priv_setCore b₁ hlt (show 2 ≠ 0 by decide)
    refine hE (b'.cpu x).irq (b'.cpu x).young _ ?_ ?_ ?_ ?_
    · exact (hwithin.mono (by simp) (by simp)).trans (Block.setCore_within_coreRegs x 2 b₁)
    · rw [Block.cpu, Block.setCore_hc, Block.updHc_same, hcore, hfetched.core]
    · rw [Block.coreState_setCore 2 hlt hlt, if_pos (.inl rfl)]
    · rw [hpriv, Block.cpu, Block.setCore_hc]

/-- A core that has jumped, after a change of these registers. -/
theorem jumped_coreBeside {cs : List CorePart} {o b : Block} {k : HepCore} {t : Word}
    (hw : o.Within (Block.coreRegs x) [.core (Block.hcOf x)] b) (hcore : b.cpu x = k.jumped t)
    (hsame : CoreSame cs (o.cpu x) k) : o.CoreBeside x cs (Block.coreRegs x) [] b :=
  Block.coreBeside_of_within hw (hcore ▸ (hsame.mono (List.subset_append_left _ _)).trans
    ((CoreSame.jumped t k).mono (List.subset_append_right _ _)))

end

/-! ### Branches -/

/-- The target of a branch (R529). -/
theorem targetAddr_rel (pc : Word) (v : BitVec 22) : Target.addr pc (.rel v) = BitVec.ofInt 32 (pc.toInt + 4 * v.toInt) := by
  rw [Target.addr, BitVec.ofInt_add, BitVec.ofInt_toInt, BitVec.ofInt_mul, BitVec.mul_comm]
  rfl

/-- The return address in A14, where the instruction links (R529). -/
def Block.linkReg (link : Bool) (c words : Nat) (b : Block) : Block :=
  if link then b.updHc c fun h => h.setA 14 (h.pc + BitVec.ofNat 32 (4 * words)) else b

def HepCore.linked (link : Bool) (words : Nat) (h : HepCore) : HepCore :=
  if link then h.setA 14 (h.pc + BitVec.ofNat 32 (4 * words)) else h

section

variable {c : Instr} {s : State} {x : Exe} {words : Nat} {op : Nat → Block → Run} {link : Bool} {t : Word}

theorem CoreSame.linked (link : Bool) (words : Nat) (h : HepCore) : CoreSame (if link then [.a 14] else []) h (h.linked link words) := by
  cases link
  case false => exact CoreSame.refl _ _
  case true => exact CoreSame.setA h 14 _

theorem HepCore.linked_getA (link : Bool) (words : Nat) (h : HepCore) :
    (h.linked link words).getA 14 = if link then h.pc + BitVec.ofNat 32 (4 * words) else h.getA 14 := by
  cases link
  case false => rfl
  case true => exact HepCore.getA_setA ..

/-- A jump to t that may link. -/
theorem completes_link (hexec : exec c s = s.act fun b => b.instr x words .never op)
    (hready : s.blk.Ready) (hf : s.blk.fetches x words = true) (hrep : (s.blk.cpu x).rep = 0)
    (hop : ∀ b : Block, Block.Fetched (Block.hcOf x) s.blk b →
      op (Block.hcOf x) b = .jump (b.linkReg link (Block.hcOf x) words) t) :
    Completes c s fun b => (b.cpu x).pc = t ∧ (b.cpu x).rep = 0 ∧ (b.cpu x).lc = (s.blk.cpu x).lc ∧
      b.coreState (Block.hcOf x) = 2 ∧ s.blk.CoreBeside x (if link then [.a 14] else []) (Block.coreRegs x) [] b ∧
      (b.cpu x).getA 14 = if link then (s.blk.cpu x).pc + BitVec.ofNat 32 (4 * words) else (s.blk.cpu x).getA 14 := by
  refine completes_of_jump t (HepCore.linked link words) (Block.linkReg link (Block.hcOf x) words) hexec hready hf hrep hop
    (fun b => ?_) (fun b => ?_) fun i y b hw hcore hstate _ => ?_
  · exact .ite _ ⟨Block.beside_updHc _ _ _ _ (.head _), rfl⟩ (.refl b)
  · cases link
    case false => rfl
    case true =>
      rw [Block.linkReg, if_pos rfl, Block.updHc_same]
      rfl
  · have hsame := CoreSame.linked link words ((s.blk.cpu x).fetched i y)
    have hlink := HepCore.linked_getA link words ((s.blk.cpu x).fetched i y)
    have hlc : (((s.blk.cpu x).fetched i y).linked link words).lc = (s.blk.cpu x).lc := hsame .lc (by cases link <;> simp)
    rw [hcore]
    exact ⟨rfl, rfl, hlc, hstate, jumped_coreBeside hw hcore ((CoreSame.irq_young _ _ i y).trans hsame), hlink⟩

end

section

variable {s : State} {x : Exe}

/-- An instruction that does nothing but go on. -/
theorem completes_skip {c : Instr} {words : Nat} {rk : RepKind} {op : Nat → Block → Run}
    (hexec : exec c s = s.act fun b => b.instr x words rk op) (hready : s.blk.Ready) (hf : s.blk.fetches x words = true)
    (hrk : rk = .once ∨ rk = .never ∧ (s.blk.cpu x).rep = 0)
    (hop : ∀ b : Block, Block.Fetched (Block.hcOf x) s.blk b → op (Block.hcOf x) b = .done b) :
    Completes c s fun b => s.blk.Past x words [] b := by
  have hruns : rk.runs (s.blk.cpu x) = 1 := RepKind.runs_eq_one (.inr (by rcases hrk with h | ⟨h, -⟩ <;> simp [h]))
  refine completes_of_effect (l := []) (ps := []) id id hexec hready hf
    (hrk.imp (fun h => by simp [h]) And.right) (fun b hb => ?_) (fun b _ => .refl b) (fun b => rfl) (by simp) (by simp)
    fun i y b _ _ hw hcore _ => Block.past_of_retire hw hcore (CoreSame.irq_young _ _ i y) (by simp [LoopFree])
  rw [hruns]
  exact Block.repeatRun_one (hop b hb)

/-- B and BL. -/
theorem completes_branch {c : Instr} {link : Bool} {cond : Fin 15} {t : Target}
    (hexec : exec c s = s.act fun b => b.branchOp link x cond t) (hready : s.blk.Ready) (hf : s.blk.fetches x t.words = true)
    (hrep : (s.blk.cpu x).rep = 0) :
    Completes c s fun b => if condTrue (s.blk.cpu x).sr cond = true then
        (b.cpu x).pc = t.addr (s.blk.cpu x).pc ∧ (b.cpu x).rep = 0 ∧ (b.cpu x).lc = (s.blk.cpu x).lc ∧
        b.coreState (Block.hcOf x) = 2 ∧ s.blk.CoreBeside x (if link then [.a 14] else []) (Block.coreRegs x) [] b ∧
        (b.cpu x).getA 14 = if link then (s.blk.cpu x).pc + BitVec.ofNat 32 (4 * t.words) else (s.blk.cpu x).getA 14
      else s.blk.Past x t.words [] b := by
  have hat : ∀ b : Block, Block.Fetched (Block.hcOf x) s.blk b →
      (b.hc (Block.hcOf x)).pc = (s.blk.cpu x).pc ∧ (b.hc (Block.hcOf x)).sr = (s.blk.cpu x).sr := fun b hb => by
    rw [hb.core]
    exact ⟨rfl, rfl⟩
  by_cases hcond : condTrue (s.blk.cpu x).sr cond = true
  · simp only [hcond, if_true]
    refine completes_link hexec hready hf hrep fun b hb => ?_
    obtain ⟨hpc, hsr⟩ := hat b hb
    simp only [hpc, hsr, hcond, if_true]
    rfl
  · simp only [hcond, Bool.false_eq_true, if_false]
    refine completes_skip hexec hready hf (.inr ⟨rfl, hrep⟩) fun b hb => ?_
    simp only [(hat b hb).2, hcond, Bool.false_eq_true, if_false]

end

end Sys2Proof.Machine
end

section
/-! PROOFS. LOOP, REP, WAIT and the timer of a core. -/
namespace Sys2Proof.Machine

/-! ### LOOP -/

namespace HepCore

/-- The core with level k set up by a LOOP at its address (R498, R530). -/
def looped (k : Nat) (f : LoopForm) (h : HepCore) : HepCore :=
  { h with
    ls := Tab.put h.ls k (h.pc + BitVec.ofNat 32 (4 * loopWords f)), le := Tab.put h.le k (loopLast h.pc f),
    lc := Tab.put h.lc k (h.loopCount f), sr := withBit h.sr 7 true }

end HepCore

theorem CoreSame.looped (k : Nat) (f : LoopForm) (h : HepCore) : CoreSame [.ls k, .le k, .sr, .lc] h (h.looped k f) := fun p hp => by
  cases p with
  | ls m => exact Tab.get_put_ne _ _ _ fun he => hp (by simp [he])
  | le m => exact Tab.get_put_ne _ _ _ fun he => hp (by simp [he])
  | sr | lc => simp at hp
  | _ => rfl

/-- Where no active level ends, the core goes on behind the instruction. -/
theorem loopEnd_of_none {addr : Word} {h : HepCore} (k : Nat) (nx : Word)
    (hnone : ∀ j < k, Tab.get 0 h.le j = addr → Tab.get 0 h.lc j = 0) : Block.loopEnd addr k nx h = (nx, h) := by
  induction k with
  | zero => rfl
  | succ k ih =>
    rw [Block.loopEnd, if_neg fun ⟨hle, hlc⟩ => hlc (hnone k (Nat.lt_succ_self k) hle)]
    exact ih fun j hj => hnone j (Nat.lt_succ_of_lt hj)

theorem retire_of_none {addr : Word} {h : HepCore} (words : Nat)
    (hnone : ∀ j < 4, Tab.get 0 h.le j = addr → Tab.get 0 h.lc j = 0) :
    h.retire addr words = { h with pc := addr + BitVec.ofNat 32 (4 * words), rep := 0 } := by
  have hafter : Block.afterInstr addr words h = (addr + BitVec.ofNat 32 (4 * words), h) := by
    unfold Block.afterInstr
    split
    · exact loopEnd_of_none 4 _ hnone
    · rfl
  rw [HepCore.retire, hafter]

/-- What LOOP leaves in the core, wherever the core goes on. -/
theorem looped_spec {o g : HepCore} {i : Tab Nat} {y : Bool} {k : Nat} {f : LoopForm} {last n : Word}
    (hlast : HepCore.loopLast o.pc f = last) (hn : o.loopCount f = n)
    (hg : CoreSame [.pc, .rep] ((o.fetched i y).looped k f) g) :
    Tab.get 0 g.ls k = o.pc + BitVec.ofNat 32 (4 * HepCore.loopWords f) ∧ Tab.get 0 g.le k = last ∧
      Tab.get 0 g.lc k = n ∧ srBits [(7, true)] o.sr g.sr = true ∧
      (∀ j ∈ List.range 4, j ≠ k → Tab.get 0 g.lc j = Tab.get 0 o.lc j) ∧
      CoreSame ([.ls k, .le k, .sr] ++ [.pc, .lc, .rep]) o g := by
  have hls : Tab.get 0 g.ls k = Tab.get 0 (Tab.put o.ls k (o.pc + BitVec.ofNat 32 (4 * HepCore.loopWords f))) k := hg (.ls k) (by simp)
  have hle : Tab.get 0 g.le k = Tab.get 0 (Tab.put o.le k (HepCore.loopLast o.pc f)) k := hg (.le k) (by simp)
  have hlc : g.lc = Tab.put o.lc k ((o.fetched i y).loopCount f) := hg .lc (by simp)
  have hsr : g.sr = withBit o.sr 7 true := hg .sr (by simp)
  have hcount : (o.fetched i y).loopCount f = n := by rw [← hn]; cases f <;> rfl
  rw [hls, hle, hlc, hsr, hlast, hcount]
  exact ⟨Tab.get_put_same .., Tab.get_put_same .., Tab.get_put_same .., srBits_withBit 7 true o.sr (by decide),
    fun j _ hj => Tab.get_put_ne _ _ _ hj,
    ((CoreSame.irq_young _ o i y).trans ((CoreSame.looped k f _).mono (by simp))).trans (hg.mono (by simp))⟩

/-- A word in memory, where it can be told without an effect, that p accepts. -/
def Block.holdsWord (c : Nat) (a : Word) (p : Word → Bool) (b : Block) : Bool := match spot c a.toNat with
  | .ram g dom => b.pg dom && p (BitVec.ofNat 32 (ofLe (b.readMem g 4)))
  | _ => false

theorem peek_of_holdsWord {c : Nat} {a : Word} {p : Word → Bool} {o b : Block} (hpower : ∀ d, b.pg d = o.pg d)
    (hmem : b.mem = o.mem) (h : o.holdsWord c a p = true) : ∃ w, b.peek c a = (w, b) ∧ p w = true := by
  unfold Block.holdsWord at h
  split at h
  case h_1 g dom hram =>
    obtain ⟨hpg, hp⟩ := Bool.and_eq_true_iff.mp h
    refine ⟨_, ?_, hp⟩
    simp only [Block.peek, hram, hpower, hpg, if_true, Block.readMem, hmem]
  case h_2 => cases h

section

variable {c : Instr} {s : State} {x : Exe} {k : Fin 4} {f : LoopForm} {last n : Word}

/-- LOOP at an address, behind its fetch: how it goes on (R498, R530). -/
theorem loopOp_run {b : Block} (hlast : HepCore.loopLast (s.blk.cpu x).pc f = last) (hn : (s.blk.cpu x).loopCount f = n)
    (horder : ((s.blk.cpu x).pc + BitVec.ofNat 32 (4 * HepCore.loopWords f)).toNat ≤ last.toNat)
    (hb : Block.Fetched (Block.hcOf x) s.blk b) :
    (HepCore.loopLast (b.hc (Block.hcOf x)).pc f = last ∧ (b.hc (Block.hcOf x)).loopCount f = n) ∧
      ¬ last < (b.hc (Block.hcOf x)).pc + BitVec.ofNat 32 (4 * HepCore.loopWords f) := by
  rw [hb.core]
  refine ⟨⟨hlast, ?_⟩, not_lt.mpr horder⟩
  rw [← hn]
  cases f <;> rfl

/-- LOOP with a count: the core goes on behind it. -/
theorem completes_loop (hexec : exec c s = s.act fun b => b.loopOp x k f) (hready : s.blk.Ready)
    (hf : s.blk.fetches x (HepCore.loopWords f) = true) (hrep : (s.blk.cpu x).rep = 0)
    (hlast : HepCore.loopLast (s.blk.cpu x).pc f = last) (hn : (s.blk.cpu x).loopCount f = n)
    (horder : ((s.blk.cpu x).pc + BitVec.ofNat 32 (4 * HepCore.loopWords f)).toNat ≤ last.toNat)
    (hroom : (s.blk.cpu x).pc.toNat + 8 < 2 ^ 32) (hne : n ≠ 0)
    (hends : ∀ j ∈ List.range 4, Tab.get 0 (s.blk.cpu x).le j = (s.blk.cpu x).pc → j = k.val ∨ Tab.get 0 (s.blk.cpu x).lc j = 0) :
    Completes c s fun b => (b.cpu x).pc = (s.blk.cpu x).pc + BitVec.ofNat 32 (4 * HepCore.loopWords f) ∧ (b.cpu x).rep = 0 ∧
      Tab.get 0 (b.cpu x).ls k = (s.blk.cpu x).pc + BitVec.ofNat 32 (4 * HepCore.loopWords f) ∧ Tab.get 0 (b.cpu x).le k = last ∧
      Tab.get 0 (b.cpu x).lc k = n ∧ srBits [(7, true)] (s.blk.cpu x).sr (b.cpu x).sr = true ∧
      (∀ j ∈ List.range 4, j ≠ k.val → Tab.get 0 (b.cpu x).lc j = Tab.get 0 (s.blk.cpu x).lc j) ∧
      s.blk.CoreBeside x [.ls k, .le k, .sr] [] [] b := by
  refine completes_of_done (HepCore.looped k f) hexec hready hf (.inr hrep) (fun b hb => ?_) fun i y b hw hcore => ?_
  · rw [RepKind.runs_eq_one (.inr (by decide))]
    refine Block.repeatRun_one ?_
    obtain ⟨⟨hlast', hn'⟩, hle⟩ := loopOp_run hlast hn horder hb
    simp only [hlast', hn', hle, hne, if_false]
    rw [← hlast', ← hn']
    rfl
  · have hnone : ∀ j < 4, Tab.get 0 (((s.blk.cpu x).fetched i y).looped k f).le j = (s.blk.cpu x).pc →
        Tab.get 0 (((s.blk.cpu x).fetched i y).looped k f).lc j = 0 := fun j hj hle => by
      simp only [HepCore.looped, HepCore.fetched, Tab.get_put, hlast] at hle ⊢
      split at hle
      case isTrue hk =>
        have hwords : HepCore.loopWords f = 1 ∨ HepCore.loopWords f = 2 := by cases f <;> simp [HepCore.loopWords]
        rw [hle, BitVec.toNat_add, BitVec.toNat_ofNat] at horder
        omega
      case isFalse hk =>
        rw [if_neg hk]
        exact (hends j (List.mem_range.mpr hj) hle).resolve_left hk
    rw [retire_of_none _ hnone] at hcore
    have hsame : CoreSame [.pc, .rep] (((s.blk.cpu x).fetched i y).looped k f) (b.cpu x) := fun p hp => by
      rw [hcore]
      cases p with
      | pc | rep => simp at hp
      | _ => rfl
    obtain ⟨hls, hle, hlc, hsr, hothers, hrest⟩ := looped_spec hlast hn hsame
    exact ⟨by rw [hcore], by rw [hcore], hls, hle, hlc, hsr, hothers, Block.coreBeside_of_within hw hrest⟩

/-- LOOP with the count 0: the core goes on behind the word w at its end. -/
theorem completes_loop_zero {w : Word} (hexec : exec c s = s.act fun b => b.loopOp x k f) (hready : s.blk.Ready)
    (hf : s.blk.fetches x (HepCore.loopWords f) = true) (hrep : (s.blk.cpu x).rep = 0)
    (hlast : HepCore.loopLast (s.blk.cpu x).pc f = last) (hn : (s.blk.cpu x).loopCount f = n)
    (horder : ((s.blk.cpu x).pc + BitVec.ofNat 32 (4 * HepCore.loopWords f)).toNat ≤ last.toNat) (hzero : n = 0)
    (hword : s.blk.holdsWord (Block.hcOf x) last (fun v => v == w) = true) :
    Completes c s fun b => (b.cpu x).pc = last + (if w.toNat / 2 ^ 26 = 0x3F then 8 else 4) ∧ (b.cpu x).rep = 0 ∧
      Tab.get 0 (b.cpu x).ls k = (s.blk.cpu x).pc + BitVec.ofNat 32 (4 * HepCore.loopWords f) ∧ Tab.get 0 (b.cpu x).le k = last ∧
      Tab.get 0 (b.cpu x).lc k = n ∧ srBits [(7, true)] (s.blk.cpu x).sr (b.cpu x).sr = true ∧
      (∀ j ∈ List.range 4, j ≠ k.val → Tab.get 0 (b.cpu x).lc j = Tab.get 0 (s.blk.cpu x).lc j) ∧
      s.blk.CoreBeside x [.ls k, .le k, .sr] (Block.coreRegs x) [] b := by
  have hnext : last + BitVec.ofNat 32 (4 * Block.wordsOf w) = last + (if w.toNat / 2 ^ 26 = 0x3F then 8 else 4) := by
    unfold Block.wordsOf
    split <;> rfl
  refine completes_of_jump (last + BitVec.ofNat 32 (4 * Block.wordsOf w)) (HepCore.looped k f) (fun b => b.updHc (Block.hcOf x) (HepCore.looped k f)) hexec hready hf hrep
    (fun b hb => ?_) (fun b => ⟨Block.beside_updHc _ _ _ _ (.head _), rfl⟩) (fun b => Block.updHc_same ..)
    fun i y b hw hcore _ _ => ?_
  · obtain ⟨⟨hlast', hn'⟩, hle⟩ := loopOp_run hlast hn horder hb
    obtain ⟨v, hpeek, hv⟩ := peek_of_holdsWord (b := b.updHc (Block.hcOf x) (HepCore.looped k f)) hb.pg hb.mem hword
    rw [eq_of_beq hv] at hpeek
    have hcount : ((b.hc (Block.hcOf x)).loopCount f = 0) := hn'.trans hzero
    refine (if_neg (hlast' ▸ hle)).trans ((if_pos hcount).trans ?_)
    rw [← hlast'] at hpeek ⊢
    exact congrArg (fun r : Word × Block => Run.jump r.2 (HepCore.loopLast (b.hc (Block.hcOf x)).pc f + BitVec.ofNat 32 (4 * Block.wordsOf r.1)))
      hpeek
  · have hsame : CoreSame [.pc, .rep] (((s.blk.cpu x).fetched i y).looped k f) (b.cpu x) := fun p hp => by
      rw [hcore]
      cases p with
      | pc | rep => simp at hp
      | _ => rfl
    obtain ⟨hls, hle, hlc, hsr, hothers, hrest⟩ := looped_spec hlast hn hsame
    exact ⟨by rw [hcore, ← hnext]; rfl, by rw [hcore]; rfl, hls, hle, hlc, hsr, hothers, Block.coreBeside_of_within hw hrest⟩

end

end Sys2Proof.Machine
end

section
/-! PROOFS. REP, WAIT and the timer of a core, and the control flow of O41. -/
namespace Sys2Proof.Machine

/-! ### REP -/

theorem atActiveEnd_eq_false {h : HepCore} {a : Word}
    (hends : ∀ j ∈ List.range 4, Tab.get 0 h.le j = a → Tab.get 0 h.lc j = 0) : Block.atActiveEnd h a = false := by
  rw [Block.atActiveEnd, List.any_eq_false]
  intro j hj hend
  obtain ⟨hle, hlc⟩ := Bool.and_eq_true_iff.mp hend
  rw [hends j hj (eq_of_beq hle)] at hlc
  exact absurd hlc (by decide)

/-- The core whose next instruction repeats (R501). -/
def HepCore.repeating (n : Nat) (h : HepCore) : HepCore := { h with rep := n, pc := h.pc + 4 }

section

variable {c : Instr} {s : State} {x : Exe}

/-- An instruction that sets its own address, after an effect on the core of x. -/
theorem completes_of_rest {words : Nat} {op : Nat → Block → Run} {E : Block → Prop} (f : HepCore → HepCore)
    (hexec : exec c s = s.act fun b => b.instr x words .never op) (hready : s.blk.Ready) (hf : s.blk.fetches x words = true)
    (hrep : (s.blk.cpu x).rep = 0)
    (hop : ∀ b : Block, Block.Fetched (Block.hcOf x) s.blk b → op (Block.hcOf x) b = .rest (b.updHc (Block.hcOf x) f))
    (hE : ∀ i y b, s.blk.Within [] [.core (Block.hcOf x)] b → b.cpu x = f ((s.blk.cpu x).fetched i y) → E b) :
    Completes c s E := by
  obtain ⟨b₀, b', hb, -, hinstr⟩ := Block.instr_eq_endRun op hready hf (.inr hrep)
  have hrun : s.blk.instr x words .never op = b'.updHc (Block.hcOf x) f := by
    rw [hinstr, RepKind.runs_eq_one (.inr (by decide)), Block.repeatRun, hop b' hb]
    rfl
  have hwithin : s.blk.Within [] [.core (Block.hcOf x)] (s.blk.instr x words .never op) := by
    rw [hrun]
    exact hb.within.trans ⟨Block.beside_updHc _ _ _ _ (.head _), rfl⟩
  refine completes_of_within hexec hready hwithin (by simp) (by simp) (hE (b'.cpu x).irq (b'.cpu x).young _ hwithin ?_)
  rw [hrun, Block.cpu, Block.updHc_same, hb.core]

/-- REP with a count, before an instruction that may be repeated (R501, R502). -/
theorem completes_rep {f : RepForm} {n : Nat} (hexec : exec c s = s.act fun b => b.repOp x f) (hready : s.blk.Ready)
    (hf : s.blk.fetches x 1 = true) (hrep : (s.blk.cpu x).rep = 0)
    (hends : ∀ j ∈ List.range 4, Tab.get 0 (s.blk.cpu x).le j = (s.blk.cpu x).pc → Tab.get 0 (s.blk.cpu x).lc j = 0)
    (hword : s.blk.holdsWord (Block.hcOf x) ((s.blk.cpu x).pc + 4) (fun w => !Block.noRepeat w) = true)
    (hcount : (s.blk.cpu x).repCount f = n) (hn : n ≠ 0) :
    Completes c s fun b => (b.cpu x).rep = n ∧ (b.cpu x).pc = (s.blk.cpu x).pc + 4 ∧ (b.cpu x).lc = (s.blk.cpu x).lc ∧
      s.blk.CoreBeside x [] [] [] b := by
  refine completes_of_rest (HepCore.repeating n) hexec hready hf hrep (fun b hb => ?_) fun i y b hw hcore => ?_
  · obtain ⟨w, hpeek, hw⟩ := peek_of_holdsWord hb.pg hb.mem hword
    have hpc : (b.hc (Block.hcOf x)).pc = (s.blk.cpu x).pc := by rw [hb.core]; rfl
    have hactive : Block.atActiveEnd (b.hc (Block.hcOf x)) (s.blk.cpu x).pc = false := by
      rw [hb.core]
      exact atActiveEnd_eq_false hends
    have hlatch : (b.hc (Block.hcOf x)).repCount f = n := by
      rw [hb.core, ← hcount]
      cases f <;> rfl
    rw [Bool.not_eq_true'] at hw
    simp only [hpc, hpeek, hactive, hw, hlatch, hn, Bool.or_self, Bool.false_eq_true, if_false]
    rfl
  · refine ⟨by rw [hcore]; rfl, by rw [hcore]; rfl, by rw [hcore]; rfl, Block.coreBeside_of_within hw ?_⟩
    rw [hcore]
    intro p hp
    cases p with
    | pc | rep => simp at hp
    | _ => rfl

end

/-! ### WAIT -/

/-- Which lines are ready depends on the core and the time. -/
theorem lineReady_congr {c : Nat} {a b : Block} (htime : b.pw.tbase = a.pw.tbase)
    (hcore : ∃ y pc lc rep, b.hc c = { a.hc c with young := y, pc := pc, lc := lc, rep := rep }) :
    b.lineReady c = a.lineReady c := by
  obtain ⟨y, pc, lc, rep, hcore⟩ := hcore
  simp only [Block.lineReady, Block.lineBelow, Block.linePending, Block.ipl, hcore, htime]
  rfl

namespace Block

/-- Nothing is due and the gauge runs: the end of a command only looks at the cores that wait. -/
theorem endCommand_of_idle {b : Block} (hdue : b.catchm.due = []) (hoff : b.pw.gaugeOff = false)
    (hgauge : b.getF F.GAUGE_STAT_STATE 0 = 1) : b.endCommand = forN 15 Block.wakeCore b := by
  have hmetered : b.gaugeUnmetered = false := by simp [gaugeUnmetered, hgauge]
  have hwatch : b.gaugeWatch = b := by simp [gaugeWatch, hmetered, hoff]
  have hcarry : b.carryAll 4 = b := by simp [carryAll, hdue]
  have hclear : ({ b.catchm with due := [] } : CatchSt) = b.catchm := by rw [← hdue]
  simp only [endCommand, finish, hwatch, hcarry, hclear]

/-- What each look at a core keeps holds after all of them. -/
theorem forN_wakeCore_of_step {P : Block → Prop} {b : Block} (hstep : ∀ d < 15, ∀ b, P b → P (b.wakeCore d)) (h : P b) :
    P (forN 15 Block.wakeCore b) := by
  have hall : ∀ (l : List Nat) (b : Block), (∀ d ∈ l, d < 15) → P b → P (l.foldl (fun b d => b.wakeCore d) b) := by
    intro l
    induction l with
    | nil => exact fun b _ hb => hb
    | cons d l ih =>
      exact fun b hl hb => ih _ (fun e he => hl e (List.mem_cons_of_mem _ he)) (hstep d (hl d (List.mem_cons_self ..)) b hb)
  exact hall _ b (fun d hd => List.mem_range.mp hd) h

/-- Core c waits without a line, and no other core waits but the other half of the pair. -/
structure WaitsAt (c : Nat) (o b : Block) : Prop where
  within : o.Within [R.HEP_STAT.at 1] [] b
  core : b.core = o.core
  state : b.coreState c = 3
  alone : ∀ d < 15, b.coreState d = 3 → d = c ∨ d = 1
  line : b.lineReady c = none

/-- A core that no line would wake goes on waiting. -/
theorem WaitsAt.wakeCore {c d : Nat} {o b : Block} (h : WaitsAt c o b) (hc : c < 15) (hne : c ≠ 1) (hd : d < 15) :
    WaitsAt c o (b.wakeCore d) := by
  unfold Block.wakeCore
  split
  case isFalse => exact h
  case isTrue hwake =>
    simp only [Bool.and_eq_true, beq_iff_eq] at hwake
    obtain ⟨⟨hstate, -⟩, hline⟩ := hwake
    have hd1 : d = 1 := (h.alone d hd hstate).resolve_left fun hdc => by rw [hdc, h.line] at hline; cases hline
    subst hd1
    refine ⟨h.within.trans (setCore_within 1 2 b (by simp) (by simp)), by rw [setCore_core, h.core], ?_, fun e he => ?_, by rw [setCore_lineReady, h.line]⟩
    · rw [coreState_setCore 2 hd hc, if_neg (by omega), h.state]
    · rw [coreState_setCore 2 hd he]
      split
      case isTrue he1 => exact fun _ => .inr (he1.resolve_right fun h01 => absurd h01.1 (by decide))
      case isFalse => exact h.alone e he

/-- The end of a command leaves a core that waits without a line. -/
theorem WaitsAt.endCommand {c : Nat} {o b : Block} (h : WaitsAt c o b) (hc : c < 15) (hne : c ≠ 1)
    (hdue : b.catchm.due = []) (hoff : b.pw.gaugeOff = false) (hgauge : b.getF F.GAUGE_STAT_STATE 0 = 1) :
    WaitsAt c o b.endCommand := by
  rw [endCommand_of_idle hdue hoff hgauge]
  exact forN_wakeCore_of_step (fun d hd _ hb => hb.wakeCore hc hne hd) h

end Block

section

variable {s : State} {x : Exe}

/-- A fetch that raises nothing leaves the lines. -/
theorem Block.Fetched.lineReady {c : Nat} {o b : Block} (h : Fetched c o b) (hirq : (b.hc c).irq = (o.hc c).irq) :
    b.lineReady c = o.lineReady c := by
  have hpw : b.pw = o.pw := h.within.beside.2 .pw (by simp)
  refine lineReady_congr (by rw [hpw]) ⟨(b.hc c).young, (o.hc c).pc, (o.hc c).lc, (o.hc c).rep, ?_⟩
  rw [h.core, hirq]
  rfl

/-- Whether a line wakes the core of x (R490, R532). -/
theorem lineReady_isSome {c : Nat} {b : Block} : (b.lineReady c).isSome = true ↔ ∃ l ∈ List.range 16,
    b.linePending c l = true ∧ (b.hc c).ien.getLsbD l = true ∧ l < min 16 (bits (b.hc c).sr.toNat 6 2) := by
  simp [Block.lineReady, Block.lineBelow, Block.ipl, List.find?_isSome, and_assoc]

/-- How an instruction that runs once goes on behind a fetch that raises nothing. -/
theorem run_of_quiet {words : Nat} {op : Nat → Block → Run} {r : Block} (hr : r = s.blk.instr x words .once op)
    (hready : s.blk.Ready) (hf : s.blk.fetches x words = true) (hquiet : s.blk.quiet x words = true) (run : Block → Run)
    (hop : ∀ b : Block, Block.Fetched (Block.hcOf x) s.blk b → (b.cpu x).irq = (s.blk.cpu x).irq → op (Block.hcOf x) b = run b) :
    ∃ b₀ b', Block.Fetched (Block.hcOf x) s.blk b' ∧ (b'.cpu x).irq = (s.blk.cpu x).irq ∧
      r = Block.endRun (Block.hcOf x) words (s.blk.cpu x).pc (!((s.blk.cpu x).rep == 0)) b₀ (Block.repeatRun run 1 b') := by
  obtain ⟨b₀, b', hb, hirq, hinstr⟩ := Block.instr_eq_endRun (rk := .once) op hready hf (.inl (by decide))
  refine ⟨b₀, b', hb, hirq hquiet, ?_⟩
  rw [hr, hinstr, RepKind.runs_eq_one (.inr (by decide)), Block.repeatRun, hop b' hb (hirq hquiet)]
  rfl

/-- WAIT at privileged level, behind a fetch that raises nothing: the core goes on where a line is there, and waits otherwise. -/
theorem waitOp_eq (hready : s.blk.Ready) (hf : s.blk.fetches x 1 = true) (hpriv : (s.blk.cpu x).priv = true)
    (hquiet : s.blk.quiet x 1 = true) :
    ∃ b', Block.Fetched (Block.hcOf x) s.blk b' ∧ (b'.cpu x).irq = (s.blk.cpu x).irq ∧ s.blk.waitOp x =
      if (s.blk.lineReady (Block.hcOf x)).isSome = true then b'.advance (Block.hcOf x) (s.blk.cpu x).pc 1
      else (b'.advance (Block.hcOf x) (s.blk.cpu x).pc 1).setCore (Block.hcOf x) 3 := by
  obtain ⟨b₀, b', hb, hirq, hrun⟩ := run_of_quiet (x := x) (words := 1) (r := s.blk.waitOp x) rfl hready hf hquiet
    (fun b => if (s.blk.lineReady (Block.hcOf x)).isSome = true then .done b
      else .rest ((b.advance (Block.hcOf x) (s.blk.cpu x).pc 1).setCore (Block.hcOf x) 3)) fun b hb hirq => by
    have hpc : (b.hc (Block.hcOf x)).pc = (s.blk.cpu x).pc := by rw [hb.core]; rfl
    have hlevel : (b.hc (Block.hcOf x)).priv = true := by rw [hb.core]; exact hpriv
    simp only [hpc, hlevel, hb.lineReady hirq, Bool.not_true, Bool.false_eq_true, if_false]
  refine ⟨b', hb, hirq, ?_⟩
  by_cases hline : (s.blk.lineReady (Block.hcOf x)).isSome = true
  · simp only [hline, if_true] at hrun ⊢
    rw [hrun]
    rfl
  · simp only [hline, Bool.false_eq_true, if_false] at hrun ⊢
    rw [hrun]
    rfl

/-- What a command completes with: its effect and the end of a command. -/
theorem completes_of_endCommand {c : Instr} {f : Block → Block} {E : Block → Prop} (hexec : exec c s = s.act f)
    (hE : E (f s.blk).endCommand) : Completes c s E :=
  ⟨{ s with blk := (f s.blk).endCommand }, by rw [hexec, State.act_next], rfl, hE⟩

/-- WAIT at privileged level, behind a fetch that raises nothing (R532). -/
theorem completes_wait {c : Instr} (hexec : exec c s = s.act fun b => b.waitOp x) (hready : s.blk.Ready)
    (hf : s.blk.fetches x 1 = true) (hpriv : (s.blk.cpu x).priv = true) (hquiet : s.blk.quiet x 1 = true) :
    Completes c s fun b => b.coreState (Block.hcOf x) = (if (s.blk.lineReady (Block.hcOf x)).isSome = true then 2 else 3) ∧
      (b.cpu x).pc = (Block.afterInstr (s.blk.cpu x).pc 1 (s.blk.cpu x)).1 ∧
      (b.cpu x).lc = (Block.afterInstr (s.blk.cpu x).pc 1 (s.blk.cpu x)).2.lc ∧ (b.cpu x).rep = 0 ∧
      s.blk.CoreBeside x [] (Block.coreRegs x) [] b := by
  have hlt := Block.hcOf_lt x
  obtain ⟨b', hb, hirq, hwait⟩ := waitOp_eq hready hf hpriv hquiet
  have hpast : s.blk.Within [] [.core (Block.hcOf x)] (b'.advance (Block.hcOf x) (s.blk.cpu x).pc 1) :=
    hb.within.trans ⟨Block.beside_updHc _ _ _ _ (.head _), rfl⟩
  obtain ⟨hdue, hoff, hgauge, hcores⟩ := hpast.calm (by simp) (by simp) hready.1
  have hcpu : (b'.advance (Block.hcOf x) (s.blk.cpu x).pc 1).cpu x =
      ((s.blk.cpu x).fetched (b'.cpu x).irq (b'.cpu x).young).retire (s.blk.cpu x).pc 1 := by
    rw [Block.advance_eq, Block.cpu, Block.updHc_same, hb.core]
  -- The registers of the core, wherever its state stands.
  have hregs : ∀ b : Block, s.blk.Within (Block.coreRegs x) [.core (Block.hcOf x)] b →
      b.cpu x = (b'.advance (Block.hcOf x) (s.blk.cpu x).pc 1).cpu x →
      (b.cpu x).pc = (Block.afterInstr (s.blk.cpu x).pc 1 (s.blk.cpu x)).1 ∧
      (b.cpu x).lc = (Block.afterInstr (s.blk.cpu x).pc 1 (s.blk.cpu x)).2.lc ∧ (b.cpu x).rep = 0 ∧
      s.blk.CoreBeside x [] (Block.coreRegs x) [] b := fun b hw hcore => by
    obtain ⟨hpc, hlc⟩ := Block.afterInstr_congr (s.blk.cpu x).pc 1
      (h := (s.blk.cpu x).fetched (b'.cpu x).irq (b'.cpu x).young) (g := s.blk.cpu x) (fun _ => rfl) (fun _ => rfl) rfl rfl
    rw [hcore, hcpu]
    refine ⟨hpc, hlc, rfl, Block.coreBeside_of_within hw ?_⟩
    rw [hcore, hcpu]
    exact (CoreSame.irq_young _ _ _ _).trans (CoreSame.retire _ _ _)
  by_cases hline : (s.blk.lineReady (Block.hcOf x)).isSome = true
  · rw [if_pos hline] at hwait
    refine completes_of_act c s _ _ hexec (hwait ▸ hpast.calm (by simp) (by simp) hready.1) ?_
    rw [if_pos hline, hwait]
    exact ⟨(hpast.coreState hlt).trans (Block.coreReady_state hf), hregs _ (hpast.mono (by simp) (by simp)) rfl⟩
  · rw [if_neg hline] at hwait
    have hwaits : Block.WaitsAt (Block.hcOf x) ((b'.advance (Block.hcOf x) (s.blk.cpu x).pc 1).setCore (Block.hcOf x) 3)
        ((b'.advance (Block.hcOf x) (s.blk.cpu x).pc 1).setCore (Block.hcOf x) 3).endCommand := by
      refine Block.WaitsAt.endCommand ⟨.refl _, rfl, ?_, fun d hd => ?_, ?_⟩ hlt (Block.hcOf_ne_one x) ?_ ?_ ?_
      · rw [Block.coreState_setCore 3 hlt hlt, if_pos (.inl rfl)]
      · rw [Block.coreState_setCore 3 hlt hd]
        split
        case isTrue h => exact fun _ => h.imp id And.right
        case isFalse => exact fun h => absurd h (hcores d hd)
      · rw [Block.setCore_lineReady, ← Option.not_isSome_iff_eq_none]
        have hsame : (b'.advance (Block.hcOf x) (s.blk.cpu x).pc 1).lineReady (Block.hcOf x) =
            s.blk.lineReady (Block.hcOf x) := by
          rw [← hb.lineReady hirq]
          refine lineReady_congr rfl ⟨(b'.cpu x).young, _, _, _, (Block.updHc_same ..).trans (HepCore.retire_eq ..)⟩
        rwa [hsame]
      · rw [Block.setCore_due, hdue]
      · rw [Block.setCore_pw, hoff]
      · rw [Block.setCore_gauge _ _ hlt, hgauge]
    obtain ⟨hw, hkept, hstate, -, -⟩ := hwaits
    refine completes_of_endCommand hexec ?_
    rw [if_neg hline, hwait]
    refine ⟨hstate, hregs _ ?_ ?_⟩
    · exact ((hpast.mono (by simp) (by simp)).trans (Block.setCore_within_coreRegs x 3 _)).trans
        (hw.mono (m := Block.coreRegs x) (by simp [Block.coreRegs]) (by simp))
    · rw [Block.cpu, Block.hc, hkept]
      exact Block.setCore_hc ..

/-! ### The timer -/

theorem wakeCore_of_running {c : Nat} {b : Block} (h : b.coreState c ≠ 3) : b.wakeCore c = b := by
  rw [Block.wakeCore, if_neg]
  simp [h]

/-- A core that waits with IE = 0 goes on once a line is there (R532). -/
theorem wakeCore_of_line {c : Nat} {b : Block} (hstate : b.coreState c = 3) (hmasked : (b.hc c).sr.getLsbD 1 = false)
    (hline : b.lineReady c ≠ none) : b.wakeCore c = b.setCore c 2 := by
  rw [Block.wakeCore, if_pos]
  rw [hstate, hmasked, Option.isSome_iff_ne_none.mpr hline]
  rfl

theorem wakeCore_keeps_run {c d : Nat} {b : Block} (hc : c < 15) (hd : d < 15) (h : b.coreState c = 2) :
    (b.wakeCore d).coreState c = 2 := by
  unfold Block.wakeCore
  split
  · rw [Block.coreState_setCore 2 hd hc]
    split
    · rfl
    · exact h
  · exact h

/-! ### The forms of a loop -/

theorem loopLast_eq {w : Nat} (pc : Word) (e : BitVec w) : pc + e.zeroExtend 32 * 4 = pc + BitVec.ofNat 32 (4 * e.toNat) := by
  rw [BitVec.ofNat_mul, BitVec.mul_comm, BitVec.ofNat_toNat]
  rfl

theorem loopCount_imm (h : HepCore) (e n : BitVec 11) : h.loopCount (.imm e n) = BitVec.ofNat 32 n.toNat :=
  (BitVec.ofNat_toNat ..).symm

/-- Settles O41: jumps and loop levels by what the core goes on with, WAIT and the timer by the look at every core that ends a
command. -/
theorem heperControl : Obligations.HeperControl := by
  unfold Obligations.HeperControl
  refine ⟨fun s x cond t hr hf hrep => ?b, fun s x cond t hr hf hrep => ?bl, fun s x link rs hr hf hrep => ?jr,
    fun s x k f hr hf hrep => ?loop, fun s x k f w hr hf hrep => ?loopZero, fun s x f hr hf hrep hends hword => ?rep,
    fun s x hr hf _ => ?nop, fun s x hr hf _ => ?sync, fun s x hr hf _ hpriv hquiet => ?wait, fun s c hr => ?timer,
    fun s c hdue hoff hgauge hstate hmasked hline => ?wake⟩
  case b =>
    refine (completes_branch (link := false) rfl hr hf hrep).mono fun b h => ?_
    rw [← condTrue_eq_getD]
    split
    case isTrue hcond =>
      rw [if_pos hcond] at h
      obtain ⟨hpc, hrep', hlc, hstate, hcore, -⟩ := h
      refine ⟨?_, hrep', hlc, hstate, hcore⟩
      rw [hpc]
      cases t with
      | rel v => exact targetAddr_rel ..
      | abs a => rfl
    case isFalse hcond => exact (if_neg hcond).mp h
  case bl =>
    refine (completes_branch (link := true) rfl hr hf hrep).mono fun b h => ?_
    rw [← condTrue_eq_getD]
    split
    case isTrue hcond =>
      rw [if_pos hcond] at h
      obtain ⟨hpc, hrep', hlc, hstate, hcore, hlink⟩ := h
      refine ⟨hlink, ?_, hrep', hlc, hstate, hcore⟩
      rw [hpc]
      cases t with
      | rel v => exact targetAddr_rel ..
      | abs a => rfl
    case isFalse hcond => exact (if_neg hcond).mp h
  case jr =>
    refine (completes_link (link := link) (t := (s.blk.cpu x).getA rs &&& 0xFFFFFFFC) rfl hr hf hrep fun b hb => ?_).mono
      fun b ⟨hpc, hrep', hlc, hstate, hcore, hlink⟩ => ⟨hpc, hrep', hlc, hstate, ?_, fun h => ?_, fun h => ?_⟩
    · have hat : (b.hc (Block.hcOf x)).getA rs = (s.blk.cpu x).getA rs := by rw [hb.core]; rfl
      simp only [hat]
      rfl
    · obtain ⟨hregs, hbeside⟩ := hcore
      exact ⟨fun p hp hne => hregs p (fun hmem => hp (by cases link <;> simp_all)) hne, hbeside⟩
    · rw [hlink, h]
      rfl
    · rw [hlink, h]
      rfl
  case loop =>
    cases f with
    | imm e n => exact completes_loop rfl hr hf hrep (loopLast_eq ..) (loopCount_imm ..) 
    | reg e r => exact completes_loop rfl hr hf hrep (loopLast_eq ..) rfl 
    | long e n => exact completes_loop rfl hr hf hrep (loopLast_eq ..) rfl
  case loopZero =>
    cases f with
    | imm e n =>
      exact fun horder hzero hword => completes_loop_zero rfl hr hf hrep (loopLast_eq ..) (loopCount_imm ..) horder hzero hword
    | reg e r =>
      exact fun horder hzero hword => completes_loop_zero rfl hr hf hrep (loopLast_eq ..) rfl horder hzero hword
    | long e n =>
      exact fun horder hzero hword => completes_loop_zero rfl hr hf hrep (loopLast_eq ..) rfl horder hzero hword
  case rep => exact fun hn => completes_rep rfl hr hf hrep hends hword (by cases f <;> rfl) hn
  case nop => exact completes_skip rfl hr hf (.inl rfl) fun _ _ => rfl
  case sync => exact completes_skip rfl hr hf (.inl rfl) fun _ _ => rfl
  case wait =>
    refine (completes_wait rfl hr hf hpriv hquiet).mono fun b ⟨hstate, hrest⟩ => ⟨?_, hrest⟩
    rw [hstate]
    exact if_congr lineReady_isSome rfl rfl
  case timer =>
    refine completes_of_act (.timerCompare c) s (Block.timerCompare c) _ rfl ?_ ?_ <;>
      rw [Block.timerCompare, wakeCore_of_running (hr.1.2.2.2 _ (Block.hcOf_lt _))]
    exact hr.1
  case wake =>
    have hlt := Block.hcOf_lt { core := c }
    refine completes_of_endCommand (c := .timerCompare c) (f := Block.timerCompare c) rfl ?_
    rw [Block.timerCompare, wakeCore_of_line hstate hmasked hline]
    rw [Block.endCommand_of_idle (by rw [Block.setCore_due, hdue]) (by rw [Block.setCore_pw, hoff])
      (by rw [Block.setCore_gauge _ _ hlt, hgauge])]
    have hrun : (s.blk.setCore (Block.hcOf { core := c }) 2).coreState (Block.hcOf { core := c }) = 2 := by
      rw [Block.coreState_setCore 2 hlt hlt, if_pos (.inl rfl)]
    exact Block.forN_wakeCore_of_step (P := fun b => b.coreState (Block.hcOf { core := c }) = 2)
      (fun d hd b hb => wakeCore_keeps_run hlt hd hb) hrun

end

end Sys2Proof.Machine
end

section
/-! PROOFS. The frame of an exception entry: words stored one behind another, and the vector behind them. -/
namespace Sys2Proof.Machine

/-! ### Bytes written one behind another -/

theorem writes_append (m : List Host.Cell) (a : Nat) (us vs : List Byte) :
    Mem.writes (Mem.writes m a us) (a + us.length) vs = Mem.writes m a (us ++ vs) := by
  have hlow : (Mem.writes m a us).filter (fun c => decide (c.1 < a + us.length)) =
      m.filter (fun c => decide (c.1 < a)) ++ Mem.cells a us := by
    have hbelow : (m.filter fun c => decide (c.1 < a)).filter (fun c => decide (c.1 < a + us.length)) =
        m.filter fun c => decide (c.1 < a) := by
      rw [List.filter_filter]
      exact List.filter_congr fun c _ => by rw [Bool.eq_iff_iff]; simp; omega
    have hcells : (Mem.cells a us).filter (fun c => decide (c.1 < a + us.length)) = Mem.cells a us := by
      rw [List.filter_eq_self]
      intro c hc
      simpa using (Mem.cells_bounds a us c hc).2.1
    have habove : (m.filter fun c => decide (a + us.length ≤ c.1)).filter (fun c => decide (c.1 < a + us.length)) = [] := by
      rw [List.filter_filter, List.filter_eq_nil_iff]
      intro c _
      simp
    rw [Mem.writes, List.filter_append, List.filter_append, hbelow, hcells, habove, List.append_nil]
  have hhigh : (Mem.writes m a us).filter (fun c => decide (a + us.length + vs.length ≤ c.1)) =
      m.filter (fun c => decide (a + us.length + vs.length ≤ c.1)) := by
    have hbelow : (m.filter fun c => decide (c.1 < a)).filter (fun c => decide (a + us.length + vs.length ≤ c.1)) = [] := by
      rw [List.filter_filter, List.filter_eq_nil_iff]
      intro c _
      simp
      omega
    have hcells : (Mem.cells a us).filter (fun c => decide (a + us.length + vs.length ≤ c.1)) = [] := by
      rw [List.filter_eq_nil_iff]
      intro c hc
      have hbound := Mem.cells_bounds a us c hc
      simp
      omega
    have habove : (m.filter fun c => decide (a + us.length ≤ c.1)).filter (fun c => decide (a + us.length + vs.length ≤ c.1)) =
        m.filter fun c => decide (a + us.length + vs.length ≤ c.1) := by
      rw [List.filter_filter]
      exact List.filter_congr fun c _ => by rw [Bool.eq_iff_iff]; simp; omega
    rw [Mem.writes, List.filter_append, List.filter_append, hbelow, hcells, habove, List.nil_append, List.nil_append]
  rw [Mem.writes, hlow, hhigh, Mem.writes, cells_append, List.length_append, Nat.add_assoc]
  simp only [List.append_assoc]

/-- The first of the bytes that were written are read back. -/
theorem reads_writes_prefix (m : List Host.Cell) (a : Nat) (us vs : List Byte) :
    Mem.reads (Mem.writes m a (us ++ vs)) a us.length = us := by
  have hlow : (m.filter fun c => decide (c.1 < a)).filter (fun c => decide (a ≤ c.1 ∧ c.1 < a + us.length)) = [] := by
    rw [List.filter_filter, List.filter_eq_nil_iff]
    intro c _
    simp
    omega
  have hfirst : (Mem.cells a us).filter (fun c => decide (a ≤ c.1 ∧ c.1 < a + us.length)) = Mem.cells a us := by
    rw [List.filter_eq_self]
    intro c hc
    have hbound := Mem.cells_bounds a us c hc
    simp
    omega
  have hrest : (Mem.cells (a + us.length) vs).filter (fun c => decide (a ≤ c.1 ∧ c.1 < a + us.length)) = [] := by
    rw [List.filter_eq_nil_iff]
    intro c hc
    have hbound := Mem.cells_bounds _ vs c hc
    simp
    omega
  have hhigh : (m.filter fun c => decide (a + (us ++ vs).length ≤ c.1)).filter
      (fun c => decide (a ≤ c.1 ∧ c.1 < a + us.length)) = [] := by
    rw [List.filter_filter, List.filter_eq_nil_iff, List.length_append]
    intro c _
    simp
    omega
  refine reads_of_window ?_
  rw [Mem.window, Mem.writes, List.filter_append, List.filter_append, cells_append, List.filter_append, hlow, hfirst, hrest, hhigh,
    List.append_nil, List.append_nil, List.nil_append]

namespace Block

theorem stored_stored (g : Nat) (us vs : List Byte) (b : Block) :
    (b.stored g us).stored (g + us.length) vs = b.stored g (us ++ vs) := by
  have hecc : Tab.drop (Tab.drop b.badEcc fun k => decide (k < g + us.length ∧ g < k + 4))
      (fun k => decide (k < g + us.length + vs.length ∧ g + us.length < k + 4)) =
      Tab.drop b.badEcc fun k => decide (k < g + (us ++ vs).length ∧ g < k + 4) := by
    rw [Tab.drop, Tab.drop, Tab.drop, List.filter_filter, List.length_append]
    exact List.filter_congr fun e _ => by rw [Bool.eq_iff_iff]; simp; omega
  simp only [stored, writes_append, hecc]

/-- The bytes of words in memory. -/
def wordBytes (ws : List Word) : List Byte := ws.flatMap fun w => leBytes 4 w.toNat

/-- Aligned words of the core c at privileged level go to memory from g on. -/
structure TakesWords (c a g n : Nat) (b : Block) : Prop where
  aligned : a % 4 = 0
  allowed : ∀ i < n, mpuDenied (b.hc c) true 2 (a + 4 * i) = none
  spot : ∃ dom, b.pg dom = true ∧ ∀ i < n, spot c (a + 4 * i) = .ram (g + 4 * i) dom
  clear : ∀ i < n, b.injHit (g + 4 * i) 4 = false
  open_ : ∀ i < n, b.retainedClosed (g + 4 * i) = false

theorem store_of_open {c a g dom : Nat} {b : Block} (w : Word) (halign : a % 4 = 0)
    (hmpu : mpuDenied (b.hc c) true 2 a = none) (hspot : Machine.spot c a = .ram g dom) (hpg : b.pg dom = true)
    (hclear : b.injHit g 4 = false) (hopen : b.retainedClosed g = false) :
    b.store c true a 4 w = .ok (b.stored g (leBytes 4 w.toNat)) 0 := by
  have hparity : b.parityHit g 4 = false := by rw [parityHit, hclear, Bool.false_and]
  rw [store, checked_of_allowed _ (by simp [halign]) hmpu]
  simp only [busWrite, hspot, hparity, hpg, hopen, Bool.not_true, Bool.false_eq_true, if_false]
  rw [writeMem_of_not_hit (by rw [leBytes_length, hclear])]

/-- Words behind i words that already stand there. -/
theorem storeWords_stored {c a g n : Nat} {b : Block} (h : TakesWords c a g n b) (ws : List Word) (i : Nat) (us : List Byte)
    (hi : i + ws.length ≤ n) (hus : us.length = 4 * i) :
    (b.stored g us).storeWords c (a + 4 * i) ws = .ok (b.stored g (us ++ wordBytes ws)) 0 := by
  induction ws generalizing i us with
  | nil => simp [storeWords, wordBytes]
  | cons w ws ih =>
    obtain ⟨dom, hpg, hspot⟩ := h.spot
    rw [List.length_cons] at hi
    have hone : (b.stored g us).store c true (a + 4 * i) 4 w = .ok (b.stored g (us ++ leBytes 4 w.toNat)) 0 := by
      rw [← stored_stored, hus]
      exact store_of_open (b := b.stored g us) w (by have := h.aligned; omega) (h.allowed i (by omega)) (hspot i (by omega)) hpg
        (h.clear i (by omega)) (h.open_ i (by omega))
    rw [storeWords, hone]
    have hrest := ih (i + 1) (us ++ leBytes 4 w.toNat) (by omega) (by rw [List.length_append, leBytes_length, hus]; omega)
    rw [List.append_assoc] at hrest
    exact hrest

theorem storeWords_of_takesWords {c a g : Nat} {b : Block} (w : Word) (ws : List Word)
    (h : TakesWords c a g (ws.length + 1) b) :
    b.storeWords c a (w :: ws) = .ok (b.stored g (wordBytes (w :: ws))) 0 := by
  obtain ⟨dom, hpg, hspot⟩ := h.spot
  have hone : b.store c true a 4 w = .ok (b.stored g (leBytes 4 w.toNat)) 0 :=
    store_of_open w h.aligned (h.allowed 0 (by omega)) (hspot 0 (by omega)) hpg (h.clear 0 (by omega)) (h.open_ 0 (by omega))
  rw [storeWords, hone]
  exact storeWords_stored h ws 1 _ (by omega) (leBytes_length ..)

/-! ### Where an entry goes through -/

/-- The words of an aligned frame lie one behind another. -/
theorem spot_frame {c a g dom : Nat} (h : Machine.spot c a = .ram g dom) (ha : a % 16 = 0) {i : Nat} (hi : i < 4) :
    Machine.spot c (a + 4 * i) = .ram (g + 4 * i) dom := by
  have hslice : (a + 4 * i - 0x08000000) / 0x20000 = (a - 0x08000000) / 0x20000 := by omega
  unfold Machine.spot at h
  split at h
  case isTrue => cases h
  case isFalse hrom =>
  split at h
  case isTrue hlocal =>
    obtain ⟨rfl, rfl⟩ := Spot.ram.inj h
    rw [Machine.spot, if_neg (by omega), if_pos (by omega), Nat.sub_add_comm (by omega), Nat.add_assoc]
  case isFalse hlocal =>
  split at h
  case isTrue hview =>
    dsimp only at h
    split at h
    case isTrue hc =>
      obtain ⟨rfl, rfl⟩ := Spot.ram.inj h
      rw [Machine.spot, if_neg (by omega), if_neg (by omega), if_pos (by omega), hslice]
      exact if_pos hc
    case isFalse => cases h
  case isFalse hview =>
  split at h
  case isTrue =>
    obtain ⟨rfl, rfl⟩ := Spot.ram.inj h
    rw [Machine.spot, if_neg (by omega), if_neg (by omega), if_neg (by omega), if_pos (by omega)]
  case isFalse =>
  split at h
  case isTrue =>
    obtain ⟨rfl, rfl⟩ := Spot.ram.inj h
    rw [Machine.spot, if_neg (by omega), if_neg (by omega), if_neg (by omega), if_neg (by omega), if_pos (by omega)]
  case isFalse =>
  split at h
  case isTrue =>
    obtain ⟨rfl, rfl⟩ := Spot.ram.inj h
    rw [Machine.spot, if_neg (by omega), if_neg (by omega), if_neg (by omega), if_neg (by omega), if_neg (by omega),
      if_pos (by omega)]
  case isFalse =>
  split at h
  case isTrue =>
    obtain ⟨rfl, rfl⟩ := Spot.ram.inj h
    rw [Machine.spot, if_neg (by omega), if_neg (by omega), if_neg (by omega), if_neg (by omega), if_neg (by omega),
      if_neg (by omega), if_pos (by omega)]
  case isFalse => split at h <;> cases h

end Block

end Sys2Proof.Machine
end

section
/-! PROOFS. Exception entry (R483): the frame, the vector, and the core that goes on there. -/
namespace Sys2Proof.Machine
namespace Block

/-! ### Entries that go through -/

theorem injHit_part {b : Block} {g n k m : Nat} (h : b.injHit g n = false) (hin : k + m ≤ n) (hm : 0 < m) :
    b.injHit (g + k) m = false := by
  simp only [injHit, Bool.and_eq_false_iff, decide_eq_false_iff_not] at h ⊢
  exact h.imp_right fun hmiss hhit => hmiss (by omega)

/-- The registers of a core that exception entry looks at. -/
structure EntrySame (g h : HepCore) : Prop where
  psp : h.psp = g.psp
  vbar : h.vbar = g.vbar
  mpuctl : h.mpuctl = g.mpuctl
  mpubase : h.mpubase = g.mpubase
  mpulim : h.mpulim = g.mpulim

theorem EntrySame.mpuDenied {g h : HepCore} (hs : EntrySame g h) (priv : Bool) (kind a : Nat) :
    Machine.mpuDenied h priv kind a = Machine.mpuDenied g priv kind a := by
  simp only [Machine.mpuDenied, hs.mpuctl, hs.mpubase, hs.mpulim]

/-- What it says that an entry goes through, at a block that differs in the core only. -/
structure EntryRuns (c vec : Nat) (g : Nat) (h : HepCore) (b : Block) : Prop where
  core : EntrySame h (b.hc c)
  aligned : h.psp.toNat % 16 = 0
  frame : TakesWords c (h.psp - 16).toNat g 4 b
  allowed : Machine.mpuDenied h true 0 (h.vbar + BitVec.ofNat 32 (16 * vec)).toNat = none
  vector : ∀ vs, (b.stored g vs).vectorBad c (h.vbar + BitVec.ofNat 32 (16 * vec)).toNat = none

/-- What is stored leaves no uncorrectable word where there was none. -/
theorem eccRead_stored {g a n : Nat} {vs : List Byte} {b : Block} (ht : b.Tame) (h : (b.eccRead a n).2 = false) :
    ((b.stored g vs).eccRead a n).2 = false := by
  rw [eccRead_snd _ _ _ ht] at h
  rw [eccRead_snd _ _ _ ((stored_within g vs b).tame (by simp) ht)]
  simp only [List.any_eq_false, List.mem_filter] at h ⊢
  intro e ⟨he, hin⟩
  exact h e ⟨(List.mem_filter.mp he).1, hin⟩

theorem entryRuns_of_entryOk {x : Exe} {vec : Nat} {o b : Block} (ht : o.Tame) (h : o.entryOk x vec = true)
    (hw : o.Within [] [.core (hcOf x)] b) (hcore : EntrySame (o.cpu x) (b.cpu x)) :
    EntryRuns (hcOf x) vec (o.frameAt x) (o.cpu x) b := by
  simp only [entryOk, Bool.and_eq_true, beq_iff_eq, List.all_eq_true, List.mem_range] at h
  obtain ⟨⟨⟨⟨haligned, hstores⟩, hfetch⟩, hframe⟩, hvector⟩ := h
  have hsp : ((o.cpu x).psp - 16).toNat % 16 = 0 := by
    rw [BitVec.toNat_sub]
    simp
    omega
  have hpg : ∀ d, b.pg d = o.pg d := fun d => by
    simp only [Block.pg, hw.getF_eq (f := F.PWR_DOMSTAT_PG) (n := 0) (by simp) (by decide)]
  have hbad : b.badEcc = o.badEcc := hw.beside.2 .ecc (by simp)
  have hboot : b.boot = o.boot := hw.beside.2 .boot (by simp)
  have hinj : ∀ a n, b.injHit a n = o.injHit a n := fun a n => by
    simp only [Block.injHit, Block.flag, Block.getF, hw.rd_eq (r := R.CATCH_INJADDR) (n := 0) (by simp) (by decide),
      hw.rd_eq (r := F.CATCH_INJ_ARM.reg) (n := 0) (by simp) (by decide)]
  refine ⟨hcore, haligned, ?_, hfetch, fun vs => ?_⟩
  · split at hframe
    case h_2 => cases hframe
    case h_1 g dom hspot =>
      simp only [Bool.and_eq_true, Bool.not_eq_true', List.all_eq_true, List.mem_range] at hframe
      obtain ⟨⟨hpower, hclear⟩, hopen⟩ := hframe
      have hat : o.frameAt x = g := by rw [frameAt, hspot]
      rw [hat]
      refine ⟨by omega, fun i hi => ?_, ⟨dom, by rw [hpg, hpower], fun i hi => spot_frame hspot hsp hi⟩, fun i hi => ?_, fun i hi => ?_⟩
      · rw [hcore.mpuDenied]
        exact hstores i hi
      · rw [hinj]
        exact injHit_part hclear (by omega) (by omega)
      · simp only [retainedClosed, hboot]
        exact hopen i hi
  · rw [vectorBad, stored_hc, hcore.mpuDenied, hfetch]
    generalize ((o.cpu x).vbar + BitVec.ofNat 32 (16 * vec)).toNat = v at hvector ⊢
    have hbt : b.Tame := hw.tame (by simp) ht
    cases hspot : Machine.spot (hcOf x) v with
    | none | shut _ _ => simp [hspot] at hvector
    | rom | regs _ => rfl
    | ram g dom =>
      simp only [hspot, Bool.not_eq_true'] at hvector
      have hsoft : (b.eccRead g 4).2 = false := by rw [eccRead_snd _ _ _ hbt, hbad, ← eccRead_snd _ _ _ ht, hvector]
      simp only [eccRead_stored hbt hsoft, Bool.false_eq_true, if_false]

end Block

/-! ### The core behind an entry -/

/-- The core at its vector (R483). -/
def HepCore.entered (cause far : Word) (h : HepCore) : HepCore :=
  { h with
    psp := h.psp - 16, sr := Block.entrySr (cause.toNat % 64) h.sr, cause := cause, far := far,
    pc := h.vbar + BitVec.ofNat 32 (16 * (cause.toNat % 64)), rep := 0 }

namespace Block

/-- HEP_STAT shows the vector, and that the core runs (R510). -/
def showEntry (c vec : Nat) (b : Block) : Block :=
  (if c = 0 then (b.setF F.HEP_STAT_LASTVEC c vec).setF F.HEP_STAT_LASTVEC 1 vec else b.setF F.HEP_STAT_LASTVEC c vec).setCore c 2

theorem trapTo_of_entryRuns {c g : Nat} {pc cause far : Word} {h : HepCore} {b b₀ : Block}
    (hok : EntryRuns c (cause.toNat % 64) g h b) :
    b.trapTo c pc cause far b₀ =
      ((b.stored g (wordBytes [pc, (b.hc c).sr, cause, far])).updHc c (HepCore.entered cause far)).showEntry c (cause.toNat % 64) := by
  have hframe := storeWords_of_takesWords pc [(b.hc c).sr, cause, far] hok.frame
  have hvector := hok.vector (wordBytes [pc, (b.hc c).sr, cause, far])
  have haligned := hok.aligned
  rw [← hok.core.psp] at hframe haligned
  rw [← hok.core.vbar] at hvector
  have henter : b.excEnter c pc cause far = some
      (((b.stored g (wordBytes [pc, (b.hc c).sr, cause, far])).updHc c (HepCore.entered cause far)).showEntry c (cause.toNat % 64)) := by
    simp only [excEnter, haligned, beq_self_eq_true, Bool.not_true, Bool.false_eq_true, if_false, hframe, hvector]
    rfl
  rw [trapTo, henter]

theorem coreState_setVec (b : Block) (n v : Nat) {d : Nat} (hn : n < 15) (hd : d < 15) :
    (b.setF F.HEP_STAT_LASTVEC n v).coreState d = b.coreState d := by
  unfold coreState
  by_cases h : d = n
  · subst h
    exact getF_setF_beside _ F.HEP_STAT_LASTVEC F.HEP_STAT_STATE d v rfl (by decide) (.inr (by decide))
  · refine getF_setF_other _ F.HEP_STAT_LASTVEC F.HEP_STAT_STATE n d v ?_
    rw [show F.HEP_STAT_STATE.reg = R.HEP_STAT from rfl, show F.HEP_STAT_LASTVEC.reg = R.HEP_STAT from rfl, hepStat_at d hd,
      hepStat_at n hn]
    omega

theorem Calm.setVec {b : Block} (h : b.Calm) (n v : Nat) (hn : n < 15) : (b.setF F.HEP_STAT_LASTVEC n v).Calm := by
  obtain ⟨hdue, hoff, hgauge, hcores⟩ := h
  refine ⟨hdue, hoff, ?_, fun d hd => by rw [coreState_setVec b n v hn hd]; exact hcores d hd⟩
  rw [getF_setF_other _ F.HEP_STAT_LASTVEC F.GAUGE_STAT_STATE n 0 v (gaugeStat_ne_hepStat hn), hgauge]

theorem Calm.showEntry {b : Block} (h : b.Calm) {c : Nat} (vec : Nat) (hc : c < 15) : (b.showEntry c vec).Calm := by
  unfold Block.showEntry
  refine Calm.setCore ?_ hc (by decide)
  split
  · exact (h.setVec c vec hc).setVec 1 vec (by decide)
  · exact h.setVec c vec hc

theorem showEntry_within {ps : List Part} (x : Exe) (vec : Nat) (b : Block) :
    b.Within (coreRegs x) ps (b.showEntry (hcOf x) vec) := by
  refine Within.trans ?_ (setCore_within_coreRegs x 2 _)
  split
  · exact (Within.setF b F.HEP_STAT_LASTVEC (hcOf x) vec (by simp [coreRegs, F.HEP_STAT_LASTVEC])).trans
      (Within.setF _ F.HEP_STAT_LASTVEC 1 vec (by simp [coreRegs, F.HEP_STAT_LASTVEC]))
  · exact Within.setF b F.HEP_STAT_LASTVEC (hcOf x) vec (by simp [coreRegs, F.HEP_STAT_LASTVEC])

theorem showEntry_hc (c vec d : Nat) (b : Block) : (b.showEntry c vec).hc d = b.hc d := by
  rw [showEntry, setCore_hc]
  split <;> rfl

theorem showEntry_mem (c vec : Nat) (b : Block) : (b.showEntry c vec).mem = b.mem := by
  simp only [showEntry, setCore]
  split <;> rfl

theorem coreState_showEntry {c : Nat} (vec : Nat) (b : Block) (hc : c < 15) : (b.showEntry c vec).coreState c = 2 := by
  rw [showEntry, coreState_setCore 2 hc hc, if_pos (.inl rfl)]

theorem priv_showEntry {c : Nat} (vec : Nat) (b : Block) (hc : c < 15) :
    (b.showEntry c vec).getF F.HEP_STAT_PRIV c = b2n ((b.hc c).sr.getLsbD 0) := by
  rw [showEntry, priv_setCore _ hc (by decide)]
  split <;> rfl

/-- Writing STATE and PRIV leaves LASTVEC. -/
theorem lastVec_setCore {c : Nat} (st : Nat) (b : Block) (hc : c < 15) :
    (b.setCore c st).getF F.HEP_STAT_LASTVEC c = b.getF F.HEP_STAT_LASTVEC c := by
  have hput : ∀ (pr : Nat) (b : Block),
      ((b.setF F.HEP_STAT_STATE c st).setF F.HEP_STAT_PRIV c pr).getF F.HEP_STAT_LASTVEC c = b.getF F.HEP_STAT_LASTVEC c :=
    fun pr b => by
      rw [getF_setF_beside _ F.HEP_STAT_PRIV F.HEP_STAT_LASTVEC c pr rfl (by decide) (.inl (by decide)),
        getF_setF_beside _ F.HEP_STAT_STATE F.HEP_STAT_LASTVEC c st rfl (by decide) (.inl (by decide))]
  simp only [setCore]
  split
  case isTrue h0 =>
    subst h0
    have hne : R.HEP_STAT.at 0 ≠ R.HEP_STAT.at 1 := by decide
    rw [getF_setF_other _ F.HEP_STAT_PRIV F.HEP_STAT_LASTVEC 1 0 _ hne,
      getF_setF_other _ F.HEP_STAT_STATE F.HEP_STAT_LASTVEC 1 0 _ hne]
    exact hput _ b
  case isFalse => exact hput _ b

theorem lastVec_showEntry {c vec : Nat} (b : Block) (hc : c < 15) (hvec : vec < 64) :
    (b.showEntry c vec).getF F.HEP_STAT_LASTVEC c = vec := by
  rw [showEntry, lastVec_setCore 2 _ hc]
  split
  case isTrue h0 =>
    subst h0
    rw [getF_setF_other _ F.HEP_STAT_LASTVEC F.HEP_STAT_LASTVEC 1 0 vec (by decide)]
    exact getF_setF_lt _ _ _ (by decide) hvec
  case isFalse => exact getF_setF_lt _ _ _ (by decide) hvec

end Block

/-! ### SR behind an entry -/

/-- The five bits of IPL in SR. -/
theorem lookup_ipl (n i : Nat) (hi : i < 32) : List.lookup i ((List.range 5).map fun j => (j + 2, bit n j)) =
    if 2 ≤ i ∧ i < 7 then some (bit n (i - 2)) else none := by
  interval_cases i <;> rfl

theorem getLsbD_iplMask (i : Nat) (hi : i < 32) : (~~~ (0x7C : Word)).getLsbD i = !decide (2 ≤ i ∧ i < 7) := by
  revert i
  decide

theorem bit_eq_testBit (n i : Nat) : bit n i = n.testBit i := by
  rw [bit, Nat.testBit_eq_decide_div_mod_eq]
  rfl

theorem getLsbD_entrySr_low {vec i : Nat} (sr : Word) (h : vec < 16) :
    (Block.entrySr vec sr).getLsbD i = if i = 1 then false else if i = 7 then false else if i = 0 then true else sr.getLsbD i := by
  simp only [Block.entrySr, if_pos h, getLsbD_withBit _ _ _ _ (show 1 < 32 by decide),
    getLsbD_withBit _ _ _ _ (show 7 < 32 by decide), getLsbD_withBit _ _ _ _ (show 0 < 32 by decide)]

theorem getLsbD_entrySr_high {vec i : Nat} (sr : Word) (h : 16 ≤ vec) (hlt : vec < 48) (hi : i < 32) :
    (Block.entrySr vec sr).getLsbD i = if 2 ≤ i ∧ i < 7 then bit (vec - 16) (i - 2)
      else if i = 7 then false else if i = 0 then true else sr.getLsbD i := by
  have hshift : (BitVec.ofNat 32 ((vec - 16) * 4)).getLsbD i = (decide (2 ≤ i) && (vec - 16).testBit (i - 2)) := by
    rw [BitVec.getLsbD_ofNat, show (4 : Nat) = 2 ^ 2 from rfl, Nat.testBit_mul_two_pow]
    simp [hi]
  simp only [Block.entrySr, if_neg (show ¬ vec < 16 by omega), BitVec.getLsbD_or, BitVec.getLsbD_and, hshift, getLsbD_iplMask i hi,
    getLsbD_withBit _ _ _ _ (show 7 < 32 by decide), getLsbD_withBit _ _ _ _ (show 0 < 32 by decide)]
  by_cases hipl : 2 ≤ i ∧ i < 7
  · simp [hipl, bit_eq_testBit]
  · have hclear : (decide (2 ≤ i) && (vec - 16).testBit (i - 2)) = false := by
      by_cases h2 : 2 ≤ i
      · have hwidth : 2 ^ 5 ≤ 2 ^ (i - 2) := Nat.pow_le_pow_right (by decide) (by omega)
        rw [Nat.testBit_lt_two_pow (by omega), Bool.and_false]
      · simp [h2]
    simp only [hclear, decide_eq_false hipl, Bool.not_false, Bool.and_true, Bool.or_false, if_neg hipl]

theorem srBits_entrySr_low {vec : Nat} (sr : Word) (h : vec < 16) :
    srBits [(0, true), (7, false), (1, false)] sr (Block.entrySr vec sr) = true := by
  rw [srBits_iff]
  intro i hi
  rw [getLsbD_entrySr_low sr h]
  simp only [lookup_cons_eq, List.lookup_nil]
  grind

theorem srBits_entrySr_high {vec : Nat} (sr : Word) (h : 16 ≤ vec) (hlt : vec < 48) :
    srBits ((0, true) :: (7, false) :: (List.range 5).map fun i => (i + 2, bit (vec - 16) i)) sr (Block.entrySr vec sr) = true := by
  rw [srBits_iff]
  intro i hi
  rw [getLsbD_entrySr_high sr h hlt hi]
  simp only [lookup_cons_eq, lookup_ipl _ i hi]
  grind

theorem getLsbD_entrySr_zero {vec : Nat} (sr : Word) (hlt : vec < 48) : (Block.entrySr vec sr).getLsbD 0 = true := by
  by_cases h : vec < 16
  · simp [getLsbD_entrySr_low sr h]
  · simp [getLsbD_entrySr_high sr (by omega) hlt (show 0 < 32 by decide)]

/-! ### What a command that enters a vector completes with -/

/-- The core of x has entered the vector of a cause out of the state k, in a block that was o. -/
structure Block.EntryDone (x : Exe) (pc cause far : Word) (k : HepCore) (o b : Block) : Prop where
  core : b.cpu x = k.entered cause far
  within : o.Within (Block.coreRegs x) [.core (Block.hcOf x), .mem, .ecc] b
  state : b.coreState (Block.hcOf x) = 2
  priv : b.getF F.HEP_STAT_PRIV (Block.hcOf x) = 1
  vector : b.getF F.HEP_STAT_LASTVEC (Block.hcOf x) = cause.toNat % 64
  frame : b.readMem (o.frameAt x) 16 =
    leBytes 4 pc.toNat ++ leBytes 4 k.sr.toNat ++ leBytes 4 cause.toNat ++ leBytes 4 far.toNat
  address : b.readMem (o.frameAt x) 4 = leBytes 4 pc.toNat
  memory : o.MemBut (o.frameAt x) 16 b

theorem completes_entry {c : Instr} {s : State} {x : Exe} {f : Block → Block} {E : Block → Prop} {b b₀ : Block}
    {pc cause far : Word} (hexec : exec c s = s.act f) (hready : s.blk.Ready)
    (hw : s.blk.Within [] [.core (Block.hcOf x)] b) (hcore : Block.EntrySame (s.blk.cpu x) (b.cpu x))
    (hok : s.blk.entryOk x (cause.toNat % 64) = true) (hlt : cause.toNat % 64 < 48)
    (hrun : f s.blk = b.trapTo (Block.hcOf x) pc cause far b₀)
    (hE : ∀ b', Block.EntryDone x pc cause far (b.cpu x) s.blk b' → E b') : Completes c s E := by
  have hc := Block.hcOf_lt x
  have hruns := Block.entryRuns_of_entryOk hready.2.1 hok hw hcore
  rw [Block.trapTo_of_entryRuns hruns] at hrun
  have hmid : s.blk.Within [] [.core (Block.hcOf x), .mem, .ecc]
      ((b.stored (s.blk.frameAt x) (Block.wordBytes [pc, (b.cpu x).sr, cause, far])).updHc (Block.hcOf x)
        (HepCore.entered cause far)) :=
    ((hw.mono (by simp) (by simp)).trans ((Block.stored_within ..).mono (by simp) (by simp))).trans
      ⟨Block.beside_updHc _ _ _ _ (.head _), rfl⟩
  have hmem : b.mem = s.blk.mem := hw.beside.2 .mem (by simp)
  have hbytes : (Block.wordBytes [pc, (b.cpu x).sr, cause, far]).length = 16 := rfl
  refine completes_of_act c s f E hexec ?_ ?_
  · rw [hrun]
    exact (hmid.calm (by simp) (by simp) hready.1).showEntry _ hc
  · rw [hrun]
    refine hE _ ⟨?_, (hmid.mono (by simp) (by simp)).trans (Block.showEntry_within x _ _), Block.coreState_showEntry _ _ hc, ?_,
      Block.lastVec_showEntry _ hc (by omega), ?_, ?_, ?_⟩
    · rw [Block.cpu, Block.showEntry_hc, Block.updHc_same]
      rfl
    · rw [Block.priv_showEntry _ _ hc, Block.updHc_same, HepCore.entered, getLsbD_entrySr_zero _ hlt]
      rfl
    · rw [Block.readMem, Block.showEntry_mem]
      exact (reads_writes b.mem (s.blk.frameAt x) (Block.wordBytes [pc, (b.cpu x).sr, cause, far])).trans
        (by simp [Block.wordBytes])
    · have hread := reads_writes_prefix b.mem (s.blk.frameAt x) (leBytes 4 pc.toNat)
        (Block.wordBytes [(b.cpu x).sr, cause, far])
      rw [leBytes_length] at hread
      rw [Block.readMem, Block.showEntry_mem]
      exact hread
    · intro k hk
      rw [Block.showEntry_mem, ← hmem]
      exact Block.memBut_stored (s.blk.frameAt x) (Block.wordBytes [pc, (b.cpu x).sr, cause, far]) b k hk

end Sys2Proof.Machine
end

section
/-! PROOFS. Instructions that take an exception, interrupts, and RETE. -/
namespace Sys2Proof.Machine

/-! ### What an entry says of the state before it -/

theorem CoreSame.entered (cause far : Word) (h : HepCore) :
    CoreSame [.psp, .sr, .cause, .far, .pc, .rep] h (h.entered cause far) := fun p hp => by
  cases p with
  | psp | sr | cause | far | pc | rep => simp at hp
  | _ => rfl

/-- The registers that an entry changes. -/
def entryParts : List CorePart := [.psp, .sr, .cause, .far]

theorem Block.EntryDone.spec {x : Exe} {vec : Nat} {pc cause far : Word} {k : HepCore} {o b : Block}
    (h : Block.EntryDone x pc cause far k o b) (hk : Block.EntrySame (o.cpu x) k) (hsr : k.sr = (o.cpu x).sr)
    (hsame : CoreSame (entryParts ++ [.pc, .lc, .rep]) (o.cpu x) k) (hvec : cause.toNat % 64 = vec) (hlt : vec < 48) :
    Block.Entered x vec pc cause far (o.frameAt x) (o.cpu x) b ∧
      o.CoreBeside x entryParts (Block.coreRegs x) [.mem, .ecc] b ∧ o.MemBut (o.frameAt x) 16 b ∧ (b.cpu x).lc = k.lc := by
  subst hvec
  refine ⟨⟨?_, ?_, fun hlow => ?_, fun hhigh => ?_, ?_, ?_, ?_, ?_, h.state, h.priv, h.vector⟩,
    Block.coreBeside_of_within h.within ?_, h.memory, ?_⟩
  · rw [h.core, HepCore.entered, hk.psp]
  · rw [h.frame, hsr]
  · rw [h.core, HepCore.entered, hsr]
    exact srBits_entrySr_low _ hlow
  · rw [h.core, HepCore.entered, hsr]
    exact srBits_entrySr_high _ hhigh hlt
  · rw [h.core]; rfl
  · rw [h.core]; rfl
  · rw [h.core, HepCore.entered, hk.vbar]
  · rw [h.core]; rfl
  · rw [h.core]
    exact hsame.trans ((CoreSame.entered cause far k).mono (by simp [entryParts]))
  · rw [h.core]; rfl

/-! ### Instructions that take an exception -/

section

variable {c : Instr} {s : State} {x : Exe} {words : Nat} {rk : RepKind} {op : Nat → Block → Run} {E : Block → Prop} {e : Exc}

/-- An entry out of the state that a fetch leaves. -/
theorem completes_fault {f : Block → Block} {vec : Nat} {cause far : Word} {b b₀ : Block} (hexec : exec c s = s.act f)
    (hready : s.blk.Ready) (hb : Block.Fetched (Block.hcOf x) s.blk b)
    (hrun : f s.blk = b.trapTo (Block.hcOf x) (s.blk.cpu x).pc cause far b₀) (hok : s.blk.entryOk x vec = true) (hlt : vec < 48)
    (hvec : cause.toNat % 64 = vec) :
    Completes c s fun b => Block.Entered x vec (s.blk.cpu x).pc cause far (s.blk.frameAt x) (s.blk.cpu x) b ∧
      s.blk.CoreBeside x entryParts (Block.coreRegs x) [.mem, .ecc] b ∧ s.blk.MemBut (s.blk.frameAt x) 16 b ∧
      (b.cpu x).lc = (s.blk.cpu x).lc := by
  have hentry : ∀ i y, Block.EntrySame (s.blk.cpu x) ((s.blk.cpu x).fetched i y) := fun _ _ => ⟨rfl, rfl, rfl, rfl, rfl⟩
  have hcpu : b.cpu x = (s.blk.cpu x).fetched (b.cpu x).irq (b.cpu x).young := hb.core
  refine completes_entry hexec hready hb.within (hcpu ▸ hentry _ _) (hvec ▸ hok) (hvec ▸ hlt) hrun fun b hdone => ?_
  rw [hcpu] at hdone
  exact hdone.spec (hentry _ _) rfl (CoreSame.irq_young _ _ _ _) hvec hlt

/-- An exception in front of the instruction (R482). -/
theorem completes_trap (hexec : exec c s = s.act fun b => b.instr x words rk op) (hready : s.blk.Ready)
    (hf : s.blk.fetches x words = true) (hrep : (s.blk.cpu x).rep = 0)
    (hop : ∀ b : Block, Block.Fetched (Block.hcOf x) s.blk b → op (Block.hcOf x) b = .trap b e) (hafter : e.after = false)
    {vec : Nat} {cause far : Word} (hok : s.blk.entryOk x vec = true) (hlt : vec < 48)
    (hcause : Block.causeWord e false 0 = cause) (hvec : cause.toNat % 64 = vec) (hfar : BitVec.ofNat 32 e.far = far) :
    Completes c s fun b => Block.Entered x vec (s.blk.cpu x).pc cause far (s.blk.frameAt x) (s.blk.cpu x) b ∧
      s.blk.CoreBeside x entryParts (Block.coreRegs x) [.mem, .ecc] b ∧ s.blk.MemBut (s.blk.frameAt x) 16 b ∧
      (b.cpu x).lc = (s.blk.cpu x).lc := by
  obtain ⟨b₀, b', hb, -, hinstr⟩ := Block.instr_eq_endRun op hready hf (.inr hrep)
  have hrun : s.blk.instr x words rk op = b'.trapTo (Block.hcOf x) (s.blk.cpu x).pc cause far b₀ := by
    rw [hinstr, RepKind.runs_eq_one (.inl (by omega)), Block.repeatRun, hop b' hb, ← hcause, ← hfar]
    simp [Block.endRun, hrep, hafter]
  exact completes_fault hexec hready hb hrun hok hlt hvec

/-- An exception behind the instruction (R482), after an effect that changes the core of x as f says. -/
theorem completes_trap_after (f : HepCore → HepCore) (effect : Block → Block)
    (hexec : exec c s = s.act fun b => b.instr x words rk op) (hready : s.blk.Ready)
    (hf : s.blk.fetches x words = true) (hrep : (s.blk.cpu x).rep = 0)
    (hop : ∀ b : Block, Block.Fetched (Block.hcOf x) s.blk b → op (Block.hcOf x) b = .trap (effect b) e) (hafter : e.after = true)
    (hw : ∀ b : Block, b.Within [] [.core (Block.hcOf x)] (effect b))
    (hcore : ∀ b : Block, (effect b).hc (Block.hcOf x) = f (b.hc (Block.hcOf x)))
    (hsame : ∀ i y, Block.EntrySame (s.blk.cpu x) (f ((s.blk.cpu x).fetched i y)))
    {cause far : Word} (hok : s.blk.entryOk x (cause.toNat % 64) = true) (hlt : cause.toNat % 64 < 48)
    (hcause : Block.causeWord e false 0 = cause) (hfar : BitVec.ofNat 32 e.far = far)
    (hE : ∀ i y b, Block.EntryDone x (Block.afterInstr (s.blk.cpu x).pc words (f ((s.blk.cpu x).fetched i y))).1 cause far
      ((f ((s.blk.cpu x).fetched i y)).retire (s.blk.cpu x).pc words) s.blk b → E b) : Completes c s E := by
  obtain ⟨b₀, b', hb, -, hinstr⟩ := Block.instr_eq_endRun op hready hf (.inr hrep)
  have hpast : ((effect b').advance (Block.hcOf x) (s.blk.cpu x).pc words).cpu x =
      (f ((s.blk.cpu x).fetched (b'.cpu x).irq (b'.cpu x).young)).retire (s.blk.cpu x).pc words := by
    rw [Block.advance_eq, Block.cpu, Block.updHc_same, hcore, hb.core]
  have hrun : s.blk.instr x words rk op = ((effect b').advance (Block.hcOf x) (s.blk.cpu x).pc words).trapTo (Block.hcOf x)
      (Block.afterInstr (s.blk.cpu x).pc words (f ((s.blk.cpu x).fetched (b'.cpu x).irq (b'.cpu x).young))).1 cause far b₀ := by
    rw [hinstr, RepKind.runs_eq_one (.inl (by omega)), Block.repeatRun, hop b' hb, ← hcause, ← hfar]
    have hpc := congrArg HepCore.pc hpast
    rw [HepCore.retire_pc] at hpc
    rw [← hpc]
    simp [Block.endRun, hrep, hafter]
  have hentry : Block.EntrySame (s.blk.cpu x) (((effect b').advance (Block.hcOf x) (s.blk.cpu x).pc words).cpu x) := by
    rw [hpast, HepCore.retire_eq]
    obtain ⟨hpsp, hvbar, hctl, hbase, hlim⟩ := hsame (b'.cpu x).irq (b'.cpu x).young
    exact ⟨hpsp, hvbar, hctl, hbase, hlim⟩
  refine completes_entry (b := (effect b').advance (Block.hcOf x) (s.blk.cpu x).pc words) hexec hready
    ((hb.within.trans (hw b')).trans ⟨Block.beside_updHc _ _ _ _ (.head _), rfl⟩) hentry hok hlt hrun fun b hdone => ?_
  rw [hpast] at hdone
  exact hE _ _ b hdone

/-- An exception behind an instruction that changes nothing. -/
theorem completes_trap_past (hexec : exec c s = s.act fun b => b.instr x words rk op) (hready : s.blk.Ready)
    (hf : s.blk.fetches x words = true) (hrep : (s.blk.cpu x).rep = 0)
    (hop : ∀ b : Block, Block.Fetched (Block.hcOf x) s.blk b → op (Block.hcOf x) b = .trap b e) (hafter : e.after = true)
    {vec : Nat} {cause far : Word} (hok : s.blk.entryOk x vec = true) (hlt : vec < 48)
    (hcause : Block.causeWord e false 0 = cause) (hvec : cause.toNat % 64 = vec) (hfar : BitVec.ofNat 32 e.far = far) :
    Completes c s fun b => Block.Entered x vec (Block.afterInstr (s.blk.cpu x).pc words (s.blk.cpu x)).1 cause far
        (s.blk.frameAt x) (s.blk.cpu x) b ∧
      s.blk.CoreBeside x entryParts (Block.coreRegs x) [.mem, .ecc] b ∧ s.blk.MemBut (s.blk.frameAt x) 16 b ∧
      (b.cpu x).lc = (Block.afterInstr (s.blk.cpu x).pc words (s.blk.cpu x)).2.lc := by
  refine completes_trap_after id id hexec hready hf hrep hop hafter (fun b => .refl b) (fun _ => rfl)
    (fun _ _ => ⟨rfl, rfl, rfl, rfl, rfl⟩) (hvec ▸ hok) (hvec ▸ hlt) hcause hfar fun i y b hdone => ?_
  obtain ⟨hpc, hlc⟩ := Block.afterInstr_congr (s.blk.cpu x).pc words
    (h := (s.blk.cpu x).fetched i y) (g := s.blk.cpu x) (fun _ => rfl) (fun _ => rfl) rfl rfl
  have hretired := HepCore.retire_eq (s.blk.cpu x).pc words ((s.blk.cpu x).fetched i y)
  obtain ⟨hentered, hbeside, hmem, hcounts⟩ := hdone.spec (by rw [id, hretired]; exact ⟨rfl, rfl, rfl, rfl, rfl⟩)
    (HepCore.retire_sr ..) ((CoreSame.irq_young _ _ i y).trans ((CoreSame.retire _ _ _).mono (by simp))) hvec hlt
  rw [id, hpc] at hentered
  exact ⟨hentered, hbeside, hmem, hcounts.trans hlc⟩

end

/-! ### A zero divisor (R523) -/

section

variable {s : State} {x : Exe}

/-- A result of a zero divisor writes no flag but C, V, Z, N and DZ. -/
theorem flags_open (r : Alu) (sr : Word) : (r.flags sr).getLsbD 7 = sr.getLsbD 7 := by
  obtain ⟨val, c, v, zn, dz⟩ := r
  rw [srBits_iff.mp (srBits_flags _ sr) 7 (by decide)]
  cases c <;> cases v <;> cases zn <;> cases dz <;> simp [Alu.flagList, flagZN, lookup_cons_eq]

theorem flags_dz {r : Alu} (sr : Word) (h : r.dz = true) : (r.flags sr).getLsbD 13 = true := by
  rw [srBits_iff.mp (srBits_flags _ sr) 13 (by decide), Alu.flagList, if_pos h, List.cons_append, List.cons_append,
    List.cons_append, lookup_cons_eq, if_pos rfl]
  rfl

/-- A division by 0 with DZTRAP = 1: the result stands, and vector 6 is entered. -/
theorem completes_zero_divisor {c : Instr} {rd : Nat} {F : HepCore → Alu} {v : Word}
    (hexec : exec c s = s.act fun b => b.instr x 1 .many fun c b => b.putResult c rd (F (b.hc c)))
    (hready : s.blk.Ready) (hf : s.blk.fetches x 1 = true) (hrep : (s.blk.cpu x).rep = 0)
    (hF : ∀ i y, F ((s.blk.cpu x).fetched i y) = F (s.blk.cpu x)) (hdz : (F (s.blk.cpu x)).dz = true)
    (hcfg : (s.blk.cpu x).divcfg.getLsbD 0 = true) (hok : s.blk.entryOk x 6 = true) (hv : (F (s.blk.cpu x)).val = v) :
    Completes c s fun b => (b.cpu x).pc = (s.blk.cpu x).vbar + 96 ∧ (b.cpu x).cause = 0x300006 ∧
      (b.cpu x).sr.getLsbD 13 = true ∧ (b.cpu x).getD rd = v ∧
      b.readMem (s.blk.frameAt x) 4 = leBytes 4 (Block.afterInstr (s.blk.cpu x).pc 1 (s.blk.cpu x)).1.toNat ∧
      (b.cpu x).psp = (s.blk.cpu x).psp - 16 ∧ s.blk.MemBut (s.blk.frameAt x) 16 b ∧
      s.blk.CoreBeside x [.d rd, .psp, .sr, .cause, .far] (Block.coreRegs x) [.mem, .ecc] b := by
  refine completes_trap_after (e := { vec := 6, after := true }) (cause := 0x300006) (far := 0) (HepCore.putResult rd F)
    (fun b => b.updHc (Block.hcOf x) (HepCore.putResult rd F)) hexec hready hf hrep (fun b hb => ?_) rfl
    (fun b => ⟨Block.beside_updHc _ _ _ _ (.head _), rfl⟩) (fun b => Block.updHc_same ..)
    (fun i y => ⟨rfl, rfl, rfl, rfl, rfl⟩) hok (by decide) rfl rfl fun i y b hdone => ?_
  · have hval : F (b.hc (Block.hcOf x)) = F (s.blk.cpu x) := by rw [hb.core, hF]
    have htrap : ((b.updHc (Block.hcOf x) (HepCore.putResult rd F)).hc (Block.hcOf x)).divcfg = (s.blk.cpu x).divcfg := by
      rw [Block.updHc_same, hb.core]
      rfl
    refine (if_pos ?_ : b.putResult (Block.hcOf x) rd (F (b.hc (Block.hcOf x))) = _)
    exact (congrArg₂ (fun (r : Alu) (d : Word) => r.dz && d.getLsbD 0) hval htrap).trans (by simp only [hdz, hcfg, Bool.and_self])
  · have hsame : CoreSame [.d rd, .sr] (s.blk.cpu x) (HepCore.putResult rd F ((s.blk.cpu x).fetched i y)) :=
      (CoreSame.irq_young _ _ i y).trans (CoreSame.putResult rd F _)
    have hretired := HepCore.retire_eq (s.blk.cpu x).pc 1 (HepCore.putResult rd F ((s.blk.cpu x).fetched i y))
    obtain ⟨hpc, -⟩ := Block.afterInstr_congr (s.blk.cpu x).pc 1
      (h := HepCore.putResult rd F ((s.blk.cpu x).fetched i y)) (g := s.blk.cpu x) (fun _ => rfl) (fun _ => rfl) rfl
      (flags_open _ _)
    refine ⟨?_, ?_, ?_, ?_, ?_, ?_, hdone.memory, Block.coreBeside_of_within hdone.within ?_⟩
    · rw [hdone.core, hretired]
      rfl
    · rw [hdone.core]
      rfl
    · rw [hdone.core, HepCore.entered, getLsbD_entrySr_low _ (by decide), HepCore.retire_sr]
      exact flags_dz _ (by rw [hF]; exact hdz)
    · rw [hdone.core, ← hv, ← hF i y]
      exact (HepCore.retire_getD ..).trans (HepCore.getD_setD ..)
    · rw [hdone.address, hpc]
    · rw [hdone.core, hretired]
      rfl
    · rw [hdone.core]
      exact ((hsame.mono (by simp)).trans ((CoreSame.retire _ _ _).mono (by simp))).trans
        ((CoreSame.entered _ _ _).mono (by simp))

end

end Sys2Proof.Machine
end

section
/-! PROOFS. The exceptions, interrupts and returns of O42. -/
namespace Sys2Proof.Machine

namespace Block

/-! ### What a fetch leaves of a core -/

section

variable {x : Exe} {o b : Block} (hb : Fetched (hcOf x) o b)
include hb

theorem Fetched.pc_eq : (b.hc (hcOf x)).pc = (o.cpu x).pc := by
  rw [hb.core]
  rfl

theorem Fetched.priv_eq : (b.hc (hcOf x)).priv = (o.cpu x).priv := by
  rw [hb.core]
  rfl

theorem Fetched.cxlock_eq : (b.hc (hcOf x)).cxlock = (o.cpu x).cxlock := by
  rw [hb.core]
  rfl

theorem Fetched.psp_eq : (b.hc (hcOf x)).psp = (o.cpu x).psp := by
  rw [hb.core]
  rfl

theorem Fetched.ea_eq (ab size : Nat) (e : Ea) : (b.hc (hcOf x)).ea ab size e = (o.cpu x).ea ab size e := by
  rw [hb.core]
  cases e <;> rfl

end

/-! ### Accesses that fault -/

theorem checked_of_misaligned {c kind a n : Nat} {priv : Bool} {k : Block → BusEnd} (b : Block) (h : a % n ≠ 0) :
    b.checked c priv kind a n k = .fault b { vec := 5, kind := kind, far := a } := by
  simp [checked, h]

theorem checked_of_denied {c kind a n r : Nat} {priv no : Bool} {k : Block → BusEnd} {b : Block} (h : a % n = 0)
    (hmpu : mpuDenied (b.hc c) priv kind a = some (r, no)) :
    b.checked c priv kind a n k = .fault b { vec := 3, kind := kind, far := a, region := r, noreg := no } := by
  simp [checked, h, hmpu]

/-! ### Listed control registers -/

theorem crListed_eq_true {n : Nat} (h : n ≤ 0x10 ∨ (0x20 ≤ n ∧ n ≤ 0x43) ∨ (0x50 ≤ n ∧ n ≤ 0x5F)) : crListed n = true := by
  simpa [crListed, or_assoc] using h

theorem crListed_eq_false {n : Nat} (h : (0x10 < n ∧ n < 0x20) ∨ (0x43 < n ∧ n < 0x50) ∨ 0x5F < n) : crListed n = false := by
  simp [crListed]
  omega

end Block

theorem ofNat_toNat_self (w : Word) : BitVec.ofNat 32 w.toNat = w := by
  rw [BitVec.ofNat_toNat, BitVec.setWidth_eq]

/-- CAUSE of an exception outside a repetition and outside a CX (R484). -/
theorem causeWord_mk (vec kind far region uop : Nat) (noreg after : Bool) :
    Block.causeWord { vec := vec, kind := kind, far := far, region := region, noreg := noreg, uop := uop, after := after } false 0 =
      BitVec.ofNat 32 (vec + uop * 256 + kind * 2 ^ 20 + region * 2 ^ 22 + b2n noreg * 2 ^ 26) := by
  simp only [Block.causeWord, show b2n false = 0 from rfl, Nat.zero_mul, Nat.add_zero]

/-- The core behind a RETE, at the address that the frame holds. -/
def HepCore.returned (sr : Word) (h : HepCore) : HepCore := { h with psp := h.psp + 16, sr := sr &&& 0x3FFF }

theorem CoreSame.returned (sr : Word) (h : HepCore) : CoreSame [.psp, .sr] h (h.returned sr) := fun p hp => by
  cases p with
  | psp | sr => simp at hp
  | _ => rfl

section

variable {s : State} {x : Exe}

/-- A LOOP whose end lies before its start (R530). -/
theorem loopOp_backward {b : Block} {f : LoopForm} {last : Word} (hlast : HepCore.loopLast (s.blk.cpu x).pc f = last)
    (horder : last.toNat < ((s.blk.cpu x).pc + BitVec.ofNat 32 (4 * HepCore.loopWords f)).toNat)
    (hb : Block.Fetched (Block.hcOf x) s.blk b) :
    HepCore.loopLast (b.hc (Block.hcOf x)).pc f < (b.hc (Block.hcOf x)).pc + BitVec.ofNat 32 (4 * HepCore.loopWords f) := by
  rw [hb.pc_eq, hlast]
  exact horder

/-- An encoding that is no listed one (R513). -/
theorem completes_bad {c : Instr} {words : Nat} {rk : RepKind} {op : Nat → Block → Run}
    (hexec : exec c s = s.act fun b => b.instr x words rk op) (hready : s.blk.Ready) (hbad : x.bad = true)
    (hf : s.blk.fetches { x with bad := false } words = true) (hrep : (s.blk.cpu x).rep = 0) (hok : s.blk.entryOk x 1 = true) :
    Completes c s fun b => Block.Entered x 1 (s.blk.cpu x).pc 0x300001 0 (s.blk.frameAt x) (s.blk.cpu x) b ∧
      s.blk.CoreBeside x entryParts (Block.coreRegs x) [.mem, .ecc] b ∧ s.blk.MemBut (s.blk.frameAt x) 16 b ∧
      (b.cpu x).lc = (s.blk.cpu x).lc := by
  obtain ⟨-, hrun, hagree, hwords⟩ := Block.fetches_spec hready.2.1 hf
  obtain ⟨b₀, b', -, hb, -, hinstr⟩ := Block.instr_of_fetches (x := x) rk op hready.2.1 ⟨hrun, hagree, hwords⟩
  refine completes_fault hexec hready hb (cause := 0x300001) (far := 0) (b₀ := b₀) ?_ hok (by decide) (by decide)
  rw [hinstr, hbad, hrep]
  rfl

/-- An interrupt that is taken (R490). -/
theorem completes_interrupt {c : Fin 15} {l : Fin 16} (hready : s.blk.Ready)
    (hrun : s.blk.coreReady (Block.hcOf { core := c }) = true) (hrep : (s.blk.cpu { core := c }).rep = 0)
    (hie : (s.blk.cpu { core := c }).sr.getLsbD 1 = true) (hline : s.blk.lineReady (Block.hcOf { core := c }) = some l.val)
    (hok : s.blk.entryOk { core := c } (16 + l.val) = true) :
    Completes (.interruptTaken c) s fun b =>
      Block.Entered { core := c } (16 + l.val) (s.blk.cpu { core := c }).pc (BitVec.ofNat 32 (0x300010 + l.val)) 0
        (s.blk.frameAt { core := c }) (s.blk.cpu { core := c }) b ∧
      s.blk.CoreBeside { core := c } entryParts (Block.coreRegs { core := c }) [.mem, .ecc] b ∧
      s.blk.MemBut (s.blk.frameAt { core := c }) 16 b ∧ (b.cpu { core := c }).lc = (s.blk.cpu { core := c }).lc := by
  obtain ⟨hstate, hfree⟩ := Bool.and_eq_true_iff.mp hrun
  refine completes_fault (f := Block.interruptTaken c) (b₀ := s.blk) rfl hready (.refl _ _) ?_ hok (by omega) ?_
  · have hcause : Block.causeWord { vec := 16 + l.val } false 0 = BitVec.ofNat 32 (0x300010 + l.val) := by
      rw [causeWord_mk]
      congr 1
      simp only [show b2n false = 0 from rfl]
      omega
    have hgo : (!((s.blk.coreState (Block.hcOf { core := c }) == 2 || s.blk.coreState (Block.hcOf { core := c }) == 3) &&
        s.blk.coreFree (Block.hcOf { core := c })) || !((s.blk.hc (Block.hcOf { core := c })).rep == 0) ||
        !(s.blk.hc (Block.hcOf { core := c })).sr.getLsbD 1) = false := by
      rw [hstate, hfree, show s.blk.hc (Block.hcOf { core := c }) = s.blk.cpu { core := c } from rfl, hrep, hie]
      rfl
    unfold Block.interruptTaken
    simp only [hgo, hline, hcause, Bool.false_eq_true, if_false]
  · rw [BitVec.toNat_ofNat]
    omega

/-- A LOOP whose end lies before its start takes vector 1 (R530). -/
theorem completes_loop_backward {k : Fin 4} {f : LoopForm} {last : Word} (hready : s.blk.Ready)
    (hf : s.blk.fetches x (HepCore.loopWords f) = true) (hrep : (s.blk.cpu x).rep = 0)
    (hlast : HepCore.loopLast (s.blk.cpu x).pc f = last)
    (horder : last.toNat < ((s.blk.cpu x).pc + BitVec.ofNat 32 (4 * HepCore.loopWords f)).toNat)
    (hok : s.blk.entryOk x 1 = true) :
    Completes (.loop x k f) s fun b => Block.Entered x 1 (s.blk.cpu x).pc 0x300001 0 (s.blk.frameAt x) (s.blk.cpu x) b ∧
      s.blk.CoreBeside x entryParts (Block.coreRegs x) [.mem, .ecc] b ∧ s.blk.MemBut (s.blk.frameAt x) 16 b ∧
      (b.cpu x).lc = (s.blk.cpu x).lc := by
  cases f with
  | imm | reg | long =>
    refine completes_trap (e := { vec := 1 }) rfl hready hf hrep (fun b hb => ?_) rfl hok (by decide) rfl (by decide) rfl
    exact if_pos (loopOp_backward hlast horder hb)

/-- A load at a misaligned address takes vector 5 (R484). -/
theorem completes_load_misaligned {size : Fin 3} {rd ab : Fin 16} {e : Ea} (hready : s.blk.Ready)
    (hf : s.blk.fetches x e.words = true) (hrep : (s.blk.cpu x).rep = 0)
    (halign : ((s.blk.cpu x).ea ab size e).toNat % 2 ^ size.val ≠ 0) (hok : s.blk.entryOk x 5 = true) :
    Completes (.ld x size rd ab e) s fun b =>
      Block.Entered x 5 (s.blk.cpu x).pc 0x100005 ((s.blk.cpu x).ea ab size e) (s.blk.frameAt x) (s.blk.cpu x) b ∧
      s.blk.CoreBeside x entryParts (Block.coreRegs x) [.mem, .ecc] b ∧ s.blk.MemBut (s.blk.frameAt x) 16 b ∧
      (b.cpu x).lc = (s.blk.cpu x).lc := by
  refine completes_trap (e := { vec := 5, kind := 1, far := ((s.blk.cpu x).ea ab size e).toNat }) rfl hready hf hrep
    (fun b hb => ?_) rfl hok (by decide) (causeWord_mk 5 1 _ 0 0 false false) (by decide) (ofNat_toNat_self _)
  simp only [hb.ea_eq, Block.load, Block.checked_of_misaligned b halign]

/-- A store at a misaligned address takes vector 5 (R484). -/
theorem completes_store_misaligned {size : Fin 3} {rd ab : Fin 16} {e : Ea} (hready : s.blk.Ready)
    (hf : s.blk.fetches x e.words = true) (hrep : (s.blk.cpu x).rep = 0)
    (halign : ((s.blk.cpu x).ea ab size e).toNat % 2 ^ size.val ≠ 0) (hok : s.blk.entryOk x 5 = true) :
    Completes (.st x size rd ab e) s fun b =>
      Block.Entered x 5 (s.blk.cpu x).pc 0x200005 ((s.blk.cpu x).ea ab size e) (s.blk.frameAt x) (s.blk.cpu x) b ∧
      s.blk.CoreBeside x entryParts (Block.coreRegs x) [.mem, .ecc] b ∧ s.blk.MemBut (s.blk.frameAt x) 16 b ∧
      (b.cpu x).lc = (s.blk.cpu x).lc := by
  refine completes_trap (e := { vec := 5, kind := 2, far := ((s.blk.cpu x).ea ab size e).toNat }) rfl hready hf hrep
    (fun b hb => ?_) rfl hok (by decide) (causeWord_mk 5 2 _ 0 0 false false) (by decide) (ofNat_toNat_self _)
  simp only [hb.ea_eq, Block.store, Block.checked_of_misaligned b halign]

/-- A store that the MPU denies takes vector 3 (R484). -/
theorem completes_store_denied {size : Fin 3} {rd ab : Fin 16} {e : Ea} {r : Nat} {no : Bool} (hready : s.blk.Ready)
    (hf : s.blk.fetches x e.words = true) (hrep : (s.blk.cpu x).rep = 0)
    (halign : ((s.blk.cpu x).ea ab size e).toNat % 2 ^ size.val = 0)
    (hdenied : mpuDenied (s.blk.cpu x) (s.blk.cpu x).priv 2 ((s.blk.cpu x).ea ab size e).toNat = some (r, no))
    (hok : s.blk.entryOk x 3 = true) :
    Completes (.st x size rd ab e) s fun b =>
      Block.Entered x 3 (s.blk.cpu x).pc (BitVec.ofNat 32 (0x200003 + r * 2 ^ 22 + b2n no * 2 ^ 26))
        ((s.blk.cpu x).ea ab size e) (s.blk.frameAt x) (s.blk.cpu x) b ∧
      s.blk.CoreBeside x entryParts (Block.coreRegs x) [.mem, .ecc] b ∧ s.blk.MemBut (s.blk.frameAt x) 16 b ∧
      (b.cpu x).lc = (s.blk.cpu x).lc := by
  refine completes_trap
    (e := { vec := 3, kind := 2, far := ((s.blk.cpu x).ea ab size e).toNat, region := r, noreg := no }) rfl hready hf hrep
    (fun b hb => ?_) rfl hok (by decide) ?_ ?_ (ofNat_toNat_self _)
  · have hmpu := hb.mpuDenied (s.blk.cpu x).priv 2 ((s.blk.cpu x).ea ab size e).toNat
    simp only [hb.ea_eq, hb.priv_eq, Block.store, Block.checked_of_denied halign (hmpu.trans hdenied)]
  · rw [causeWord_mk]
    congr 1
  · rw [BitVec.toNat_ofNat]
    cases no <;> simp [b2n] <;> omega

/-- RETE at privileged level (R487). -/
theorem completes_rete {c : Instr} {g : Nat} (hexec : exec c s = s.act fun b => b.reteOp x) (hready : s.blk.Ready)
    (hf : s.blk.fetches x 1 = true) (hrep : (s.blk.cpu x).rep = 0) (hpriv : (s.blk.cpu x).priv = true)
    (hpc : s.blk.reaches x 1 2 (s.blk.cpu x).psp g = true)
    (hsr : s.blk.reaches x 1 2 ((s.blk.cpu x).psp + 4) (g + 4) = true) :
    Completes c s fun b => (b.cpu x).pc = BitVec.ofNat 32 (ofLe (s.blk.readMem g 4)) &&& 0xFFFFFFFC ∧
      (b.cpu x).sr = BitVec.ofNat 32 (ofLe (s.blk.readMem (g + 4) 4)) &&& 0x3FFF ∧ (b.cpu x).psp = (s.blk.cpu x).psp + 16 ∧
      (b.cpu x).rep = 0 ∧ (b.cpu x).lc = (s.blk.cpu x).lc ∧
      b.getF F.HEP_STAT_PRIV (Block.hcOf x) = b2n ((b.cpu x).sr.getLsbD 0) ∧
      s.blk.CoreBeside x [.psp, .sr] (Block.coreRegs x) [] b := by
  let v := BitVec.ofNat 32 (ofLe (s.blk.readMem g 4))
  let w := BitVec.ofNat 32 (ofLe (s.blk.readMem (g + 4) 4))
  refine completes_of_jump (v &&& 0xFFFFFFFC) (HepCore.returned w) (fun b => b.updHc (Block.hcOf x) (HepCore.returned w)) hexec
    hready hf hrep (fun b hb => ?_) (fun b => ⟨Block.beside_updHc _ _ _ _ (.head _), rfl⟩) (fun b => Block.updHc_same ..)
    fun i y b hw hcore _ hshown => ?_
  · have hfirst : b.load (Block.hcOf x) true (s.blk.cpu x).psp.toNat 4 = .ok b v := by
      rw [← hpriv]
      exact Block.load_of_reaches (size := 2) hb hpc
    have hsecond : b.load (Block.hcOf x) true ((s.blk.cpu x).psp + 4).toNat 4 = .ok b w := by
      rw [← hpriv]
      exact Block.load_of_reaches (size := 2) hb hsr
    simp only [hb.priv_eq, hb.psp_eq, hpriv, hfirst, hsecond, Bool.not_true, Bool.false_eq_true, if_false]
    rfl
  · refine ⟨by rw [hcore]; rfl, by rw [hcore]; rfl, by rw [hcore]; rfl, by rw [hcore]; rfl, by rw [hcore]; rfl, hshown,
      jumped_coreBeside hw hcore ((CoreSame.irq_young _ _ i y).trans (CoreSame.returned w _))⟩

end

/-- Settles O42: every exception is the entry of `completes_entry` out of the state behind the fetch, in front of the instruction
or past it, and its CAUSE word gives the vector. -/
theorem heperExceptions : Obligations.HeperExceptions := by
  unfold Obligations.HeperExceptions
  refine ⟨fun s x n hr hf hrep hok => ?trap, fun s x hr hf hrep hok => ?brk,
    fun s x rd rs rt hr hf hrep hz hcfg hok => ?divu, fun s x rd rs rt hr hf hrep hz hcfg hok => ?divs,
    fun s x rd rs rt hr hf hrep hz hcfg hok => ?remu, fun s x rd rs rt hr hf hrep hz hcfg hok => ?rems,
    fun s x rd cr st hr hf hrep hcr hok => ?mfcUnlisted, fun s x rd rs hr hbad hf hrep hok => ?bad,
    fun s x rd cr st hr hf hrep hcr hpriv hne hok => ?mfcUser, fun s x cr rs hr hf hrep hcr hne hpriv hok => ?mtcUser,
    fun s x hr hf hrep hpriv hok => ?reteUser, fun s x hr hf hrep hpriv hok => ?waitUser,
    fun s x k rs hr hf hrep hlock hok => ?cxdef, fun s x rs hr hf hrep hlock hok => ?ucdatah,
    fun s x k f hr hf hrep horder hok => ?loop, fun s x size rd ab e hr hf hrep halign hok => ?ldAlign,
    fun s x size rd ab e hr hf hrep halign hok => ?stAlign,
    fun s x size rd ab e r no hr hf hrep halign hdenied hlt hok => ?stDenied,
    fun s c x l hr hx hrun hrep hie hline hok => ?interrupt, fun s x g hr hf hrep hpriv hpc hsr => ?rete⟩
  case trap =>
    refine completes_trap_past (e := { vec := 7, uop := n, after := true }) rfl hr hf hrep (fun _ _ => rfl) rfl hok (by decide)
      (cause := BitVec.ofNat 32 (0x300007 + n.val * 256)) ?_ ?_ rfl
    · rw [causeWord_mk]
      congr 1
      simp only [show b2n false = 0 from rfl]
      omega
    · rw [BitVec.toNat_ofNat]
      omega
  case brk =>
    exact completes_trap_past (e := { vec := 8, after := true }) rfl hr hf hrep (fun _ _ => rfl) rfl hok (by decide) rfl (by decide) rfl
  case divu =>
    exact completes_zero_divisor (F := fun h => .divu (h.getD rs) (h.getD rt)) rfl hr hf hrep (fun _ _ => rfl)
      (by rw [hz]; rfl) hcfg hok (by rw [hz]; rfl)
  case divs =>
    refine completes_zero_divisor (F := fun h => .divs (h.getD rs) (h.getD rt)) rfl hr hf hrep (fun _ _ => rfl)
      (by rw [hz]; rfl) hcfg hok ?_
    rw [hz, Alu.divs, if_pos rfl, BitVec.msb_eq_toInt]
    exact if_congr decide_eq_true_iff rfl rfl
  case remu =>
    refine completes_zero_divisor (F := fun h => .remu (h.getD rs) (h.getD rt)) rfl hr hf hrep (fun _ _ => rfl)
      (by rw [hz]; rfl) hcfg hok (by rw [hz]; rfl)
  case rems =>
    refine completes_zero_divisor (F := fun h => .rems (h.getD rs) (h.getD rt)) rfl hr hf hrep (fun _ _ => rfl)
      (by rw [hz]; rfl) hcfg hok (by rw [hz]; rfl)
  case mfcUnlisted =>
    refine completes_trap (e := { vec := 1 }) rfl hr hf hrep (fun b hb => ?_) rfl hok (by decide) rfl (by decide) rfl
    simp only [Block.crListed_eq_false hcr, Bool.not_false, if_true]
  case bad => exact completes_bad rfl hr hbad hf hrep hok
  case mfcUser =>
    refine completes_trap (e := { vec := 2 }) rfl hr hf hrep (fun b hb => ?_) rfl hok (by decide) rfl (by decide) rfl
    have hread : [0x00, 0x0B, 0x0C, 0x0D].contains cr.toNat = false := by
      obtain ⟨h0, hb', hc', hd⟩ := hne
      simp only [List.contains_eq_mem, decide_eq_false_iff_not, List.mem_cons, List.not_mem_nil, or_false, not_or]
      exact ⟨BitVec.toNat_ne.mp h0, BitVec.toNat_ne.mp hb', BitVec.toNat_ne.mp hc', BitVec.toNat_ne.mp hd⟩
    simp only [Block.crListed_eq_true hcr, hb.priv_eq, hpriv, hread, Bool.not_true, Bool.not_false, Bool.and_self,
      Bool.false_eq_true, if_false, if_true]
  case mtcUser =>
    refine completes_trap (e := { vec := 2 }) rfl hr hf hrep (fun b hb => ?_) rfl hok (by decide) rfl (by decide) rfl
    have hplain : cr.toNat ≤ 0x10 ∨ (0x20 ≤ cr.toNat ∧ cr.toNat ≤ 0x3F) ∨ cr.toNat = 0x43 :=
      hcr.imp_right (.imp_right fun h => by rw [h]; rfl)
    have hlisted : Block.crListed cr.toNat = true := Block.crListed_eq_true (by omega)
    have hfree : (decide (0x40 ≤ cr.toNat ∧ cr.toNat ≤ 0x42) || decide (0x50 ≤ cr.toNat)) = false := by
      simp only [Bool.or_eq_false_iff, decide_eq_false_iff_not]
      omega
    have hne' : cr.toNat ≠ 0 := BitVec.toNat_ne.mp hne
    simp only [hlisted, hfree, hb.priv_eq, hpriv, hne', Bool.not_true, Bool.and_false, Bool.or_self, Bool.false_eq_true, if_false]
  case reteUser =>
    refine completes_trap (e := { vec := 2 }) rfl hr hf hrep (fun b hb => ?_) rfl hok (by decide) rfl (by decide) rfl
    simp only [hb.priv_eq, hpriv, Bool.not_false, if_true]
  case waitUser =>
    refine completes_trap (e := { vec := 2 }) rfl hr hf hrep (fun b hb => ?_) rfl hok (by decide) rfl (by decide) rfl
    simp only [hb.priv_eq, hpriv, Bool.not_false, if_true]
  case cxdef =>
    refine completes_trap (e := { vec := 1 }) rfl hr hf hrep (fun b hb => ?_) rfl hok (by decide) rfl (by decide) rfl
    have hfrozen : decide (0x50 ≤ 0x50 + k.val) = true := decide_eq_true (by omega)
    simp only [hb.cxlock_eq, hlock, hfrozen, Bool.or_true, Bool.and_self, if_true]
  case ucdatah =>
    refine completes_trap (e := { vec := 1 }) rfl hr hf hrep (fun b hb => ?_) rfl hok (by decide) rfl (by decide) rfl
    simp only [hb.cxlock_eq, hlock]
    rfl
  case loop => exact completes_loop_backward hr hf hrep (by cases f <;> exact loopLast_eq ..) horder hok
  case ldAlign => exact completes_load_misaligned hr hf hrep halign hok
  case stAlign => exact completes_store_misaligned hr hf hrep halign hok
  case stDenied => exact completes_store_denied hr hf hrep halign hdenied hok
  case interrupt =>
    subst hx
    exact completes_interrupt hr hrun hrep hie hline hok
  case rete => exact completes_rete rfl hr hf hrep hpriv hpc hsr

end Sys2Proof.Machine
end

section
/-! PROOFS. The metrology die: power-up, hold-up, its meters and its hour counters (O55). -/
namespace Sys2Proof.Machine

/-! ### Steps over the cells of a table -/

section

variable {σ α : Type} {step : σ → Nat → σ} {cell : Nat → σ → α}

theorem foldl_cell_of_not_mem (hne : ∀ n m s, m ≠ n → cell m (step s n) = cell m s) {m : Nat} {l : List Nat} (hm : m ∉ l) (s : σ) :
    cell m (l.foldl step s) = cell m s := by
  induction l generalizing s with
  | nil => rfl
  | cons n l ih =>
    obtain ⟨hfirst, hrest⟩ := not_or.mp (mt List.mem_cons.mpr hm)
    exact (ih hrest _).trans (hne n m s hfirst)

/-- Steps that each change the cell of their number only take each of these cells from P to Q. -/
theorem foldl_cells {P Q : Nat → α → Prop} {I : σ → Prop} (hI : ∀ n s, I s → I (step s n))
    (hne : ∀ n m s, m ≠ n → cell m (step s n) = cell m s)
    (hstep : ∀ n s, I s → P n (cell n s) → Q n (cell n (step s n))) {l : List Nat} (hnodup : l.Nodup) (s : σ) (hs : I s)
    (hP : ∀ n ∈ l, P n (cell n s)) : I (l.foldl step s) ∧ ∀ n ∈ l, Q n (cell n (l.foldl step s)) := by
  induction l generalizing s with
  | nil => exact ⟨hs, by simp⟩
  | cons n l ih =>
    obtain ⟨hnot, hnodup⟩ := List.nodup_cons.mp hnodup
    obtain ⟨hinv, hrest⟩ := ih hnodup (step s n) (hI n s hs) fun m hm => by
      rw [hne n m s (by rintro rfl; exact hnot hm)]
      exact hP m (.tail _ hm)
    refine ⟨hinv, fun m hm => ?_⟩
    rcases List.mem_cons.mp hm with rfl | hm
    · rw [List.foldl_cons, foldl_cell_of_not_mem hne hnot]
      exact hstep _ s hs (hP _ (.head _))
    · exact hrest m hm

end

/-- The mask of the numbers at which f holds. -/
def maskOf (f : Nat → Bool) (n : Nat) : Nat := (List.range n).foldl (fun m k => if f k then m + 2 ^ k else m) 0

theorem maskOf_succ (f : Nat → Bool) (n : Nat) : maskOf f (n + 1) = if f n then maskOf f n + 2 ^ n else maskOf f n := by
  simp [maskOf, List.range_succ]

theorem maskOf_lt (f : Nat → Bool) (n : Nat) : maskOf f n < 2 ^ n := by
  induction n with
  | zero => exact Nat.one_pos
  | succ n ih =>
    rw [maskOf_succ]
    split <;> omega

theorem bit_maskOf (f : Nat → Bool) {n k : Nat} (hk : k < n) : bit (maskOf f n) k = f k := by
  rw [bit_eq_testBit]
  induction n with
  | zero => omega
  | succ n ih =>
    rw [maskOf_succ]
    rcases Nat.lt_succ_iff_lt_or_eq.mp hk with hlt | rfl
    · split
      · rw [Nat.add_comm, Nat.testBit_two_pow_add_gt hlt, ih hlt]
      · exact ih hlt
    · have htop := Nat.testBit_lt_two_pow (maskOf_lt f k)
      split
      case isTrue h => rw [Nat.add_comm, Nat.testBit_two_pow_add_eq, htop, h]; rfl
      case isFalse h => rw [htop]; simpa using h

namespace GaugeSt

/-! ### The log -/

section

variable (code arg val : Nat) (g : GaugeSt)

@[simp] theorem logged_state : (g.logged code arg val).state = g.state := rfl
@[simp] theorem logged_gsup : (g.logged code arg val).gsup = g.gsup := rfl
@[simp] theorem logged_sets : (g.logged code arg val).sets = g.sets := rfl
@[simp] theorem logged_badSet : (g.logged code arg val).badSet = g.badSet := rfl
@[simp] theorem logged_active : (g.logged code arg val).active = g.active := rfl
@[simp] theorem logged_sealed : (g.logged code arg val).sealed = g.sealed := rfl
@[simp] theorem logged_gh : (g.logged code arg val).live.gh = g.live.gh := rfl
@[simp] theorem logged_gm : (g.logged code arg val).live.gm = g.live.gm := rfl
@[simp] theorem logged_gt : (g.logged code arg val).live.gt = g.live.gt := rfl
@[simp] theorem logged_seq : (g.logged code arg val).live.seq = g.live.seq + 1 := rfl
@[simp] theorem logged_bestSet : (g.logged code arg val).bestSet = g.bestSet := rfl

/-- The newest entry of the log is the one written last. -/
theorem logged_last : ((g.logged code arg val).live.log.getLast?.map fun e => e.code) = some code := by
  simp only [logged]
  rw [List.getLast?_drop, if_neg (by simp), List.getLast?_concat]
  rfl

end

/-- An entry of the log that is written where p holds. -/
def logIf (p : Prop) [Decidable p] (code arg val : Nat) (g : GaugeSt) : GaugeSt := if p then g.logged code arg val else g

section

variable (p : Prop) [Decidable p] (code arg val : Nat) (g : GaugeSt)

/-- A field that an entry of the log leaves alone. -/
theorem logIf_field {α : Sort*} (field : GaugeSt → α) (h : field (g.logged code arg val) = field g) :
    field (logIf p code arg val g) = field g := by
  unfold logIf
  split
  · exact h
  · rfl

theorem logIf_gm : (logIf p code arg val g).live.gm = g.live.gm := logIf_field p code arg val g (·.live.gm) rfl
theorem logIf_gmRem : (logIf p code arg val g).gmRem = g.gmRem := logIf_field p code arg val g (·.gmRem) rfl
theorem logIf_curr : (logIf p code arg val g).curr = g.curr := logIf_field p code arg val g (·.curr) rfl

end

/-! ### Power-up and hold-up (R648, R655) -/

/-- The die at the start of a power-up, its log continued (R653, R655). -/
def started (bad : Nat) (g : GaugeSt) : GaugeSt :=
  let g := { g with gsup := true, live := g.store, tenth := 0, ghRem := List.replicate 8 0, gmRem := List.replicate 8 0, count := 0,
                    ovl := List.replicate 8 0, rev := List.replicate 8 0 }
  let g := g.logged 1 0 0
  let g := if bad = 1 then g.logged 8 0 0 else g
  let g := if g.badSet then { g.logged 8 (g.sets.length - 1) 0 with badSet := false } else g
  { g with active := g.bestSet }

theorem started_spec (bad : Nat) (g : GaugeSt) : (g.started bad).gsup = true ∧ (g.started bad).live.gh = g.store.gh ∧
    (g.started bad).live.gm = g.store.gm ∧ (g.started bad).live.gt = g.store.gt ∧ (g.started bad).active = g.bestSet ∧
    (g.started bad).sealed = g.sealed := by
  unfold started
  dsimp only
  split_ifs <;> exact ⟨rfl, rfl, rfl, rfl, rfl, rfl⟩

theorem powerUp_eq {g : GaugeSt} (romOk : Bool) (bad : Nat) (h : g.state = 0) : g.powerUp romOk bad =
    if !romOk || bad == 2 || (g.sealed && g.bestSet.isNone) then { (g.started bad).logged 9 0 0 with state := 3 }
    else { g.started bad with state := 1 } := by
  obtain ⟨-, -, -, -, hactive, hsealed⟩ := started_spec bad g
  rw [← hactive, ← hsealed]
  exact if_neg (by simp [h])

/-- MD after a power-up (R648, R653, R655). -/
theorem powerUp_spec {g : GaugeSt} (bad : Nat) (h : g.state = 0) : (g.powerUp true bad).gsup = true ∧
    (g.powerUp true bad).live.gh = g.store.gh ∧ (g.powerUp true bad).live.gm = g.store.gm ∧
    (g.powerUp true bad).live.gt = g.store.gt ∧ (g.powerUp true bad).active = g.bestSet ∧
    (g.powerUp true bad).state = if bad = 2 ∨ (g.sealed = true ∧ g.bestSet = none) then 3 else 1 := by
  obtain ⟨hgsup, hgh, hgm, hgt, hactive, -⟩ := started_spec bad g
  rw [powerUp_eq true bad h]
  split
  case isTrue hfails =>
    exact ⟨hgsup, hgh, hgm, hgt, hactive, (if_pos (by simpa [Option.isNone_iff_eq_none] using hfails)).symm⟩
  case isFalse hruns =>
    exact ⟨hgsup, hgh, hgm, hgt, hactive, (if_neg (by simpa [Option.isNone_iff_eq_none] using hruns)).symm⟩

/-- MD with a wrong ROM enters PARAMERR and logs it (R655, R656). -/
theorem powerUp_romError {g : GaugeSt} (bad : Nat) (h : g.state = 0) :
    (g.powerUp false bad).state = 3 ∧ ((g.powerUp false bad).live.log.getLast?.map fun e => e.code) = some 9 := by
  rw [powerUp_eq false bad h]
  exact ⟨rfl, logged_last 9 0 0 _⟩

theorem supplyLoss_eq {g : GaugeSt} (hstate : g.state = 1) (hgsup : g.gsup = true) :
    g.supplyLoss = { g.logged 2 0 0 with gsup := false, state := 2 } := by
  rw [supplyLoss, if_neg (by simp [hstate, hgsup]), if_neg (by simp [hstate])]

/-- The end of the hold-up: the counters and the log, with its entry 3, go to the store (R648). -/
theorem holdEnd_spec {g : GaugeSt} (hstate : g.state = 2) (hgsup : g.gsup = false) : g.holdEnd.state = 0 ∧
    g.holdEnd.store.gh = g.live.gh ∧ g.holdEnd.store.gm = g.live.gm ∧ g.holdEnd.store.seq = g.live.seq + 1 ∧
    (g.holdEnd.store.log.getLast?.map fun e => e.code) = some 3 := by
  rw [holdEnd, if_neg (by simp [hstate, hgsup])]
  exact ⟨rfl, rfl, rfl, rfl, logged_last 3 0 0 g⟩

/-! ### The meters (R650) -/

/-- The contents of energy counter n, with its remainder. -/
def meterCell (n : Nat) (g : GaugeSt) : Nat × Nat := (g.live.gm.getD n 0, g.gmRem.getD n 0)

/-- The energy in units of 1 µW × 100 µs. -/
def energyOf (c : Nat × Nat) : Nat := c.1 * mwhUnit + c.2

/-- What 100 µs add to it. -/
def energyStep (ma v : Int) : Nat := if ma < 50 then 0 else (ma * (v * 2)).toNat

/-- What every step of a meter keeps. -/
structure MeterInv (curr : List Int) (g : GaugeSt) : Prop where
  counters : g.live.gm.length = 8
  rems : g.gmRem.length = 8
  curr : g.curr = curr

/-- The energy of meter n after a step, before it is cut to the width of its counter (R650). -/
def meterSum (n : Nat) (ma v : Int) (g : GaugeSt) : Nat :=
  (((g.live.gm.getD n 0 * mwhUnit + g.gmRem.getD n 0 : Nat) + (if 50 ≤ ma then ma * (v * 2) else 0) : Int)).toNat

/-- Meter n with its counter moved on, before what it logs (R650). -/
def metered (n : Nat) (ma v : Int) (g : GaugeSt) : GaugeSt :=
  { g with
    ovl := g.ovl.set n (min (if 27500 < ma then g.ovl.getD n 0 + 1 else 0) 10001),
    rev := g.rev.set n (min (if ma < 0 then g.rev.getD n 0 + 1 else 0) 10001),
    gmRem := g.gmRem.set n (meterSum n ma v g % mwhUnit),
    live := { g.live with gm := g.live.gm.set n (meterSum n ma v g / mwhUnit % 2 ^ 48) } }

theorem meterStep_eq (n : Nat) (ma v : Int) (g : GaugeSt) : g.meterStep n ma v =
    logIf ((if ma < 0 then g.rev.getD n 0 + 1 else 0) = 10000) 7 n ((metered n ma v g).live.gm.getD n 0 % 2 ^ 32)
      (logIf ((if 27500 < ma then g.ovl.getD n 0 + 1 else 0) = 10000) 6 n ((metered n ma v g).live.gm.getD n 0 % 2 ^ 32)
        (metered n ma v g)) := rfl

theorem meterStep_fields (n : Nat) (ma v : Int) (g : GaugeSt) :
    (g.meterStep n ma v).live.gm = g.live.gm.set n (meterSum n ma v g / mwhUnit % 2 ^ 48) ∧
      (g.meterStep n ma v).gmRem = g.gmRem.set n (meterSum n ma v g % mwhUnit) ∧ (g.meterStep n ma v).curr = g.curr := by
  simp only [meterStep_eq, logIf_gm, logIf_gmRem, logIf_curr]
  exact ⟨rfl, rfl, rfl⟩

theorem meterSum_eq {n : Nat} {ma v : Int} (g : GaugeSt) (hv : 0 ≤ v) :
    meterSum n ma v g = energyOf (meterCell n g) + energyStep ma v := by
  unfold meterSum energyStep energyOf meterCell
  by_cases hma : ma < 50
  · rw [if_pos hma, if_neg (by omega), Int.add_zero, Int.toNat_natCast, Nat.add_zero]
  · have hnonneg : 0 ≤ ma * (v * 2) := Int.mul_nonneg (by omega) (by omega)
    rw [if_neg hma, if_pos (by omega), Int.toNat_add (Int.natCast_nonneg _) hnonneg, Int.toNat_natCast]

theorem meterStep_inv {curr : List Int} (n : Nat) (ma v : Int) {g : GaugeSt} (h : MeterInv curr g) :
    MeterInv curr (g.meterStep n ma v) := by
  obtain ⟨hgm, hrem, hcurr⟩ := h
  obtain ⟨hgm', hrem', hcurr'⟩ := meterStep_fields n ma v g
  exact ⟨by rw [hgm', List.length_set, hgm], by rw [hrem', List.length_set, hrem], hcurr'.trans hcurr⟩

theorem meterStep_cell_ne {n m : Nat} (ma v : Int) (g : GaugeSt) (h : m ≠ n) : meterCell m (g.meterStep n ma v) = meterCell m g := by
  obtain ⟨hgm, hrem, -⟩ := meterStep_fields n ma v g
  simp [meterCell, hgm, hrem, List.getD_eq_getElem?_getD, List.getElem?_set_ne h.symm]

theorem getD_set_same {l : List Nat} {n : Nat} (x : Nat) (h : n < l.length) : (l.set n x).getD n 0 = x := by
  simp [List.getD_eq_getElem?_getD, h]

theorem meterStep_energy {curr : List Int} {n : Nat} {ma v : Int} {g : GaugeSt} (hn : n < 8) (h : MeterInv curr g) (hv : 0 ≤ v)
    (hlt : energyOf (meterCell n g) + energyStep ma v < mwhUnit * 2 ^ 48) :
    energyOf (meterCell n (g.meterStep n ma v)) = energyOf (meterCell n g) + energyStep ma v := by
  obtain ⟨hgm, hrem, -⟩ := meterStep_fields n ma v g
  rw [meterSum_eq g hv] at hgm hrem
  have hdiv := Nat.div_lt_of_lt_mul hlt
  rw [energyOf, meterCell, hgm, hrem, getD_set_same _ (h.counters ▸ hn), getD_set_same _ (h.rems ▸ hn), Nat.mod_eq_of_lt hdiv]
  exact Nat.div_add_mod' _ _

/-- METER_INTEGRATE while MD counts (R650). -/
theorem integrate_spec {ma v : List Int} {g : GaugeSt} (hcount : g.counting = true) (hv : ∀ n ∈ List.range 8, 0 ≤ v.getD n 0)
    (hgm : g.live.gm.length = 8) (hrem : g.gmRem.length = 8)
    (hlt : ∀ n ∈ List.range 8, energyOf (meterCell n g) + (ma.getD n 0 * (v.getD n 0 * 2)).toNat < mwhUnit * 2 ^ 48) :
    (g.integrate ma v).curr = ((List.range 8).map fun n => ma.getD n 0) ∧ ∀ n ∈ List.range 8,
      energyOf (meterCell n (g.integrate ma v)) = energyOf (meterCell n g) + energyStep (ma.getD n 0) (v.getD n 0) := by
  let g' := { g with curr := (List.range 8).map fun n => ma.getD n 0, vout := (List.range 8).map fun n => v.getD n 0 }
  have hrun : g.integrate ma v = (List.range 8).foldl (fun g n => g.meterStep n (ma.getD n 0) (v.getD n 0)) g' := by
    have hstate : g.state ≠ 0 := fun h => by simp [counting, h] at hcount
    exact (if_neg hstate).trans (if_pos hcount)
  rw [hrun]
  obtain ⟨hinv, hcells⟩ := foldl_cells (step := fun g n => g.meterStep n (ma.getD n 0) (v.getD n 0)) (cell := meterCell)
    (I := MeterInv g'.curr)
    (P := fun n c => n ∈ List.range 8 ∧ energyOf c = energyOf (meterCell n g))
    (Q := fun n c => energyOf c = energyOf (meterCell n g) + energyStep (ma.getD n 0) (v.getD n 0))
    (fun n g h => meterStep_inv n _ _ h) (fun n m g h => meterStep_cell_ne _ _ g h)
    (fun n k hk hcell => by
      obtain ⟨hn, hcell⟩ := hcell
      have hstep : energyStep (ma.getD n 0) (v.getD n 0) ≤ (ma.getD n 0 * (v.getD n 0 * 2)).toNat := by
        unfold energyStep
        split <;> omega
      have hroom := hlt n hn
      rw [← hcell] at hroom ⊢
      exact meterStep_energy (List.mem_range.mp hn) hk (hv n hn) (Nat.lt_of_le_of_lt (Nat.add_le_add_left hstep _) hroom))
    List.nodup_range g' ⟨hgm, hrem, rfl⟩ fun n hn => ⟨hn, rfl⟩
  exact ⟨hinv.curr, hcells⟩

/-! ### The hour counters (R651, R652) -/

/-- Hour counter n, with its remainder. -/
def hourCell (n : Nat) (g : GaugeSt) : Nat × Nat := (g.live.gh.getD n 0, g.ghRem.getD n 0)

/-- The hours in units of 100 ms. -/
def hoursOf (c : Nat × Nat) : Nat := c.1 * 10 + c.2

/-- What every step of an hour counter keeps of the state k. -/
structure HourInv (k g : GaugeSt) : Prop where
  counters : g.live.gh.length = 8
  rems : g.ghRem.length = 8
  gin : g.gin = k.gin
  count : g.count = k.count
  time : g.live.gt = k.live.gt
  tenth : g.tenth = k.tenth

/-- An hour counter that has counted a tenth (R651). -/
def houred (n : Nat) (g : GaugeSt) : GaugeSt :=
  if g.ghRem.getD n 0 + 1 < 10 then { g with ghRem := g.ghRem.set n (g.ghRem.getD n 0 + 1) }
  else logIf (g.live.gh.getD n 0 + 1 = 0xFFFFFFFF) 11 n 0xFFFFFFFF
    { g with ghRem := g.ghRem.set n 0, live := { g.live with gh := g.live.gh.set n (g.live.gh.getD n 0 + 1) } }

theorem hourStep_eq (n : Nat) (hit : Bool) (g : GaugeSt) :
    g.hourStep n hit = if !hit || g.live.gh.getD n 0 == 0xFFFFFFFF then g else g.houred n := rfl

theorem houred_inv {k g : GaugeSt} (n : Nat) (h : HourInv k g) : HourInv k (g.houred n) := by
  obtain ⟨hgh, hrem, hgin, hcount, htime, htenth⟩ := h
  unfold houred
  split
  · exact ⟨hgh, by simpa using hrem, hgin, hcount, htime, htenth⟩
  · unfold logIf
    split <;> exact ⟨by simpa using hgh, by simpa [logged] using hrem, hgin, hcount, htime, htenth⟩

theorem hourStep_inv {k g : GaugeSt} (n : Nat) (hit : Bool) (h : HourInv k g) : HourInv k (g.hourStep n hit) := by
  rw [hourStep_eq]
  split
  · exact h
  · exact houred_inv n h

theorem houred_cell (n m : Nat) (g : GaugeSt) : hourCell m (g.houred n) =
    if g.ghRem.getD n 0 + 1 < 10 then (g.live.gh.getD m 0, (g.ghRem.set n (g.ghRem.getD n 0 + 1)).getD m 0)
    else ((g.live.gh.set n (g.live.gh.getD n 0 + 1)).getD m 0, (g.ghRem.set n 0).getD m 0) := by
  unfold houred
  split
  · rfl
  · exact logIf_field _ 11 n 0xFFFFFFFF _ (hourCell m) rfl

theorem hourStep_cell_ne {n m : Nat} (hit : Bool) (g : GaugeSt) (h : m ≠ n) : hourCell m (g.hourStep n hit) = hourCell m g := by
  rw [hourStep_eq]
  split
  · rfl
  · rw [houred_cell]
    split <;> simp [hourCell, List.getD_eq_getElem?_getD, List.getElem?_set_ne h.symm]

theorem hourStep_hours {k g : GaugeSt} {n : Nat} (hit : Bool) (hn : n < 8) (h : HourInv k g) (hrem : (hourCell n g).2 < 10)
    (hfull : (hourCell n g).1 < 0xFFFFFFFF) : hoursOf (hourCell n (g.hourStep n hit)) = hoursOf (hourCell n g) + b2n hit := by
  have hroom : (g.live.gh.getD n 0 == 0xFFFFFFFF) = false := by
    rw [beq_eq_false_iff_ne]
    exact Nat.ne_of_lt hfull
  cases hit
  case false => rfl
  case true =>
    have hgh : n < g.live.gh.length := h.counters ▸ hn
    have hlen : n < g.ghRem.length := h.rems ▸ hn
    rw [hourStep_eq, hroom, if_neg (by decide), houred_cell]
    unfold hourCell at hrem ⊢
    split
    · rw [getD_set_same _ hlen]
      simp only [hoursOf, b2n]
      rfl
    · rw [getD_set_same _ hlen, getD_set_same _ hgh]
      simp only [hoursOf, b2n] at hrem ⊢
      simp only [if_true]
      omega

/-! ### An evaluation (R651 to R653) -/

/-- The gauge time behind an evaluation. -/
def ticked (g : GaugeSt) : GaugeSt :=
  if g.tenth = 9 then { g with tenth := 0, live := { g.live with gt := (g.live.gt + 1) % 2 ^ 32 } } else { g with tenth := g.tenth + 1 }

/-- A field that is none of the time. -/
theorem ticked_field {α : Sort*} (field : GaugeSt → α) {g : GaugeSt}
    (h : ∀ t l, field { g with tenth := t, live := { g.live with gt := l } } = field g) : field (ticked g) = field g := by
  unfold ticked
  split <;> exact h _ _

theorem ticked_time {g : GaugeSt} (hgt : g.live.gt + 1 < 2 ^ 32) :
    (ticked g).live.gt * 10 + (ticked g).tenth = g.live.gt * 10 + g.tenth + 1 := by
  unfold ticked
  split
  case isTrue h =>
    simp only [h, Nat.mod_eq_of_lt hgt]
    omega
  case isFalse h => rfl

/-- The conditions of the active set that hold. -/
def hit (g : GaugeSt) (k : Nat) : Bool := g.condHolds ((g.actSet.elim 0 fun x => x.conds.getD k 0) : Word).toNat

/-- The conditions of the active set, one after another. -/
def hits (g : GaugeSt) : List Bool := (List.range 8).map g.hit

theorem hits_getD {k : Nat} (hk : k < 8) (g : GaugeSt) : g.hits.getD k false = g.hit k := by
  simp [hits, List.getD_eq_getElem?_getD, hk]

/-- A new set has taken effect (R653). -/
def retuned (g : GaugeSt) : GaugeSt :=
  if g.state = 3 ∨ g.bestSet = g.active then g
  else { g.logged 4 (g.bestSet.getD 0) (((g.bestSet.bind fun i => g.sets[i]?).elim 0 fun s => s.crc.toNat)) with active := g.bestSet }

/-- The conditions have been counted (R651). -/
def scored (g : GaugeSt) : GaugeSt :=
  if g.counting then
    (List.range 8).foldl (fun h k => h.hourStep k (g.hits.getD k false)) { g with count := maskOf (fun k => g.hits.getD k false) 8 }
  else { g with count := 0 }

theorem evaluate_eq_scored (gin : Nat) (g : GaugeSt) :
    g.evaluate gin = if g.state = 0 then g else scored (retuned (ticked { g with gin := gin % 64 })) := rfl

theorem evaluate_eq {g : GaugeSt} (gin : Fin 64) (hcount : g.counting = true) (hbest : g.bestSet = g.active) :
    g.evaluate gin = (List.range 8).foldl (fun h k => h.hourStep k (hits { g with gin := gin.val } |>.getD k false))
      { ticked { g with gin := gin.val } with count := maskOf (fun k => (hits { g with gin := gin.val }).getD k false) 8 } := by
  have hstate : g.state ≠ 0 := fun h => by simp [counting, h] at hcount
  have hsets : (ticked { g with gin := gin.val }).bestSet = g.bestSet := ticked_field bestSet fun _ _ => rfl
  have hactive : (ticked { g with gin := gin.val }).active = g.active := ticked_field active fun _ _ => rfl
  have hsame : (ticked { g with gin := gin.val }).bestSet = (ticked { g with gin := gin.val }).active := by
    rw [hsets, hbest, hactive]
  have hcounts : (ticked { g with gin := gin.val }).counting = true := (ticked_field counting fun _ _ => rfl).trans hcount
  have hconds : hits (ticked { g with gin := gin.val }) = hits { g with gin := gin.val } := ticked_field hits fun _ _ => rfl
  have hgin : gin.val % 64 = gin.val := Nat.mod_eq_of_lt gin.isLt
  have hset : retuned (ticked { g with gin := gin.val }) = ticked { g with gin := gin.val } := if_pos (.inr hsame)
  rw [evaluate_eq_scored, if_neg hstate, hgin, hset, ← hconds]
  exact if_pos hcounts

theorem evaluate_spec {g : GaugeSt} (gin : Fin 64) (hcount : g.counting = true) (hbest : g.bestSet = g.active)
    (hgh : g.live.gh.length = 8) (hrem : g.ghRem.length = 8)
    (hroom : ∀ k ∈ List.range 8, g.ghRem.getD k 0 < 10 ∧ g.live.gh.getD k 0 < 0xFFFFFFFF) (hgt : g.live.gt + 1 < 2 ^ 32) :
    (g.evaluate gin).gin = gin ∧ (g.evaluate gin).live.gt * 10 + (g.evaluate gin).tenth = g.live.gt * 10 + g.tenth + 1 ∧
      ∀ k ∈ List.range 8, bit (g.evaluate gin).count k = hit { g with gin := gin.val } k ∧
        hoursOf (hourCell k (g.evaluate gin)) = hoursOf (hourCell k g) + b2n (hit { g with gin := gin.val } k) := by
  let f := fun k => (hits { g with gin := gin.val }).getD k false
  let g' := { ticked { g with gin := gin.val } with count := maskOf f 8 }
  have hcell : ∀ k, hourCell k g' = hourCell k g := fun k => ticked_field (hourCell k) fun _ _ => rfl
  have hgh' : g'.live.gh = g.live.gh := ticked_field (fun g => g.live.gh) fun _ _ => rfl
  have hrem' : g'.ghRem = g.ghRem := ticked_field ghRem fun _ _ => rfl
  have hgin : g'.gin = gin := ticked_field GaugeSt.gin fun _ _ => rfl
  have htime : g'.live.gt * 10 + g'.tenth = g.live.gt * 10 + g.tenth + 1 := ticked_time hgt
  rw [evaluate_eq gin hcount hbest]
  obtain ⟨hinv, hcells⟩ := foldl_cells (step := fun h k => h.hourStep k (f k)) (cell := hourCell) (I := HourInv g')
    (P := fun n c => n ∈ List.range 8 ∧ c = hourCell n g)
    (Q := fun n c => hoursOf c = hoursOf (hourCell n g) + b2n (f n))
    (fun n h hh => hourStep_inv n _ hh) (fun n m h hne => hourStep_cell_ne _ h hne)
    (fun n h hh hP => by
      obtain ⟨hn, hcell⟩ := hP
      obtain ⟨hlow, hfull⟩ := hroom n hn
      rw [← hcell]
      exact hourStep_hours _ (List.mem_range.mp hn) hh (hcell ▸ hlow) (hcell ▸ hfull))
    List.nodup_range g' ⟨by rw [hgh', hgh], by rw [hrem', hrem], rfl, rfl, rfl, rfl⟩ fun n hn => ⟨hn, hcell n⟩
  refine ⟨hinv.gin.trans hgin, by rw [hinv.time, hinv.tenth, htime], fun k hk => ?_⟩
  have hlt := List.mem_range.mp hk
  have hf : f k = hit { g with gin := gin.val } k := hits_getD hlt _
  exact ⟨by rw [hinv.count, ← hf]; exact bit_maskOf f hlt, hf ▸ hcells k hk⟩

end GaugeSt

/-! ### The commands of the die -/

theorem Block.onMd_within (f : GaugeSt → GaugeSt) (b : Block) : b.Within [] [.gauge] (b.onMd f) :=
  ⟨⟨fun _ _ _ _ => rfl, fun p hp => by cases p with
    | gauge => simp at hp
    | _ => simp [Part.Same, onMd]⟩, rfl⟩

/-- A command of the die changes the die and nothing else. -/
theorem completes_onMd {c : Instr} {s : State} {f : GaugeSt → GaugeSt} {E : GaugeSt → Prop} (hexec : exec c s = s.act fun b => b.onMd f)
    (hready : s.blk.Ready) (hE : E (f s.blk.gauge)) : Completes c s fun b => E b.gauge ∧ s.blk.Beside [] [Part.gauge] b :=
  completes_of_within hexec hready (Block.onMd_within f _) (by simp) (by simp) ⟨hE, (Block.onMd_within f _).beside⟩

theorem completes_onMd_answers {c : Instr} {s : State} {f : GaugeSt → GaugeSt} {E : GaugeSt → Prop}
    (hexec : exec c s = s.act fun b => b.onMd f) (hready : s.blk.Ready) (hE : E (f s.blk.gauge)) :
    Completes c s fun b => E b.gauge ∧ s.blk.Beside (offsOf Regs.answers) ([Part.gauge] ++ Part.answers) b :=
  (completes_onMd hexec hready hE).mono fun _ ⟨h, hbeside⟩ => ⟨h, hbeside.mono (by simp) (by simp)⟩

/-- Settles O55: each command is one function of the die; the meters and the hour counters each step their own cells, so that the
loop over the eight of them adds up cell by cell. -/
theorem gaugeMetering : Obligations.GaugeMetering := by
  unfold Obligations.GaugeMetering
  refine ⟨fun s bad hr hstate => ?power, fun s bad hr hstate => ?romError, fun s hr hstate hgsup => ?loss,
    fun s hr hstate hgsup => ?back, fun s hr hstate hgsup => ?store, fun s hr hstate hgsup => ?stop,
    fun s ma v hr hcount hv hgm hrem hlt => ?meter,
    fun s gin hr hcount hbest htenth hgh hrem hroom hgt => ?hours⟩
  case power =>
    refine (completes_onMd_answers (E := fun g => g = s.blk.gauge.powerUp true bad) rfl hr rfl).mono ?_
    rintro b ⟨heq, hbeside⟩
    exact ⟨heq ▸ GaugeSt.powerUp_spec bad.val hstate, hbeside⟩
  case romError =>
    refine (completes_onMd_answers (E := fun g => g = s.blk.gauge.powerUp false bad) rfl hr rfl).mono ?_
    rintro b ⟨heq, hbeside⟩
    exact ⟨heq ▸ GaugeSt.powerUp_romError bad.val hstate, hbeside⟩
  case loss =>
    have hlost := GaugeSt.supplyLoss_eq hstate hgsup
    refine completes_onMd (E := fun g => g.state = 2 ∧ g.gsup = false ∧ (g.live.log.getLast?.map fun e => e.code) = some 2) rfl hr ?_
    rw [hlost]
    exact ⟨rfl, rfl, GaugeSt.logged_last 2 0 0 _⟩
  case back =>
    have hback : s.blk.gauge.supplyReturn = { s.blk.gauge with gsup := true, state := 1 } := by
      rw [GaugeSt.supplyReturn, if_neg (by simp [hstate, hgsup]), if_neg (by simp [hstate])]
    refine (completes_onMd (E := fun g => g.state = 1 ∧ g.gsup = true ∧ g.live = s.blk.gauge.live) rfl hr ?_).mono ?_
    · rw [hback]
      exact ⟨rfl, rfl, rfl⟩
    · exact fun b ⟨⟨hrun, hsup, hlive⟩, hbeside⟩ => ⟨hrun, hsup, hlive, hbeside⟩
  case store =>
    have hstored : s.blk.gauge.holdStore = { s.blk.gauge with store := s.blk.gauge.live } := if_neg (by simp [hstate, hgsup])
    refine (completes_onMd (E := fun g => g.store = s.blk.gauge.live ∧ g.live = s.blk.gauge.live) rfl hr ?_).mono ?_
    · rw [hstored]
      exact ⟨rfl, rfl⟩
    · exact fun b ⟨⟨hstore, hlive⟩, hbeside⟩ => ⟨hstore, hlive, hbeside⟩
  case stop =>
    refine completes_onMd (E := fun g => g.state = 0 ∧ g.store.gh = s.blk.gauge.live.gh ∧ g.store.gm = s.blk.gauge.live.gm ∧
      g.store.seq = s.blk.gauge.live.seq + 1 ∧ (g.store.log.getLast?.map fun e => e.code) = some 3) rfl hr ?_
    exact GaugeSt.holdEnd_spec hstate hgsup
  case meter =>
    refine completes_onMd (E := fun g => ((List.range 8).all fun n =>
      (g.live.gm.getD n 0 * mwhUnit + g.gmRem.getD n 0) == (s.blk.gauge.live.gm.getD n 0 * mwhUnit +
      s.blk.gauge.gmRem.getD n 0) + (if ma.getD n 0 < 50 then 0 else (ma.getD n 0 * (v.getD n 0 * 2)).toNat)) = true
      ∧ g.curr = (List.range 8).map fun n => ma.getD n 0) rfl hr ?_
    obtain ⟨hcurr, hmeters⟩ := GaugeSt.integrate_spec hcount hv hgm hrem hlt
    exact ⟨List.all_eq_true.mpr fun n hn => beq_iff_eq.mpr (hmeters n hn), hcurr⟩
  case hours =>
    obtain ⟨hgin, htime, hcells⟩ := GaugeSt.evaluate_spec gin hcount hbest hgh hrem hroom hgt
    refine (completes_onMd (E := fun g => g = s.blk.gauge.evaluate gin) rfl hr rfl).mono ?_
    rintro b ⟨heq, hbeside⟩
    refine ⟨⟨heq ▸ hgin, heq ▸ htime, List.all_eq_true.mpr fun k hk => ?_⟩, hbeside⟩
    obtain ⟨hbit, hhours⟩ := hcells k hk
    rw [heq]
    exact Bool.and_eq_true_iff.mpr ⟨beq_iff_eq.mpr hbit, beq_iff_eq.mpr hhours⟩

end Sys2Proof.Machine
end

section
/-! PROOFS. The access engine: what its log, its sticky bits, its islands, its keys and its exchanges change, and nothing else. -/
namespace Sys2Proof.Machine
namespace Block

section

variable {l : List Nat} {ps : List Part} {b : Block}

/-! ### Parts and fields that a frame leaves -/

theorem Within.acs_eq {a : Block} (h : a.Within l ps b) (hp : .acs ∉ ps) : b.acs = a.acs := h.beside.2 .acs hp

theorem acs_within (b : Block) (x : AcsSt) (h : .acs ∈ ps) : b.Within l ps { b with acs := x } :=
  ⟨⟨fun _ _ _ _ => rfl, fun p hp => by
    cases p with
    | acs => exact absurd h hp
    | _ => simp [Part.Same]⟩, rfl⟩

theorem ciph_within (b : Block) (x : CiphSt) (h : .ciph ∈ ps) : b.Within l ps { b with ciph := x } :=
  ⟨⟨fun _ _ _ _ => rfl, fun p hp => by
    cases p with
    | ciph => exact absurd h hp
    | _ => simp [Part.Same]⟩, rfl⟩

theorem free_within (b : Block) (k : Nat) : b.Within l ps { b with free := k } :=
  ⟨⟨fun _ _ _ _ => rfl, fun p _ => by cases p <;> simp [Part.Same]⟩, rfl⟩

theorem raise_within (e detail : Nat) (ht : b.Tame) (he : e < 256) : b.Within l ps (b.raise e detail) :=
  (raise_recorded e detail b ht he).within

/-! ### Sticky bits with a DETAIL -/

section

variable {f : RegField} {n e detail : Nat}

/-- A sticky bit that is set stays, and one that becomes 1 raises its source. -/
theorem stickD_cases (b : Block) (f : RegField) (n e detail : Nat) :
    (b.flag f n = true ∧ b.stickD f n e detail = b) ∨ b.stickD f n e detail = (b.setF f n 1).raise e detail := by
  cases hset : b.flag f n with
  | true => exact .inl ⟨rfl, if_pos hset⟩
  | false => exact .inr (if_neg (by simp [hset]))

theorem stickD_stays (b : Block) (h : f.reg.at n ∈ l) (he : e < 256) : b.Stays l ps (b.stickD f n e detail) := fun ht hl => by
  rcases stickD_cases b f n e detail with ⟨-, hkeep⟩ | hraise
  · rw [hkeep]
    exact .refl b
  · rw [hraise]
    exact (Within.setF b f n 1 h).trans (raise_within e detail (tame_setF f (hl _ h) 1 ht) he)

theorem stickD_same (hbit : f.hi = f.lo) (ht : b.Tame) (hready : readyReg (f.reg.at n) = false)
    (hrecord : recordReg (f.reg.at n) = false) (he : e < 256) : (b.stickD f n e detail).getF f n = 1 := by
  rcases stickD_cases b f n e detail with ⟨hset, hkeep⟩ | hraise
  · rw [hkeep]
    simpa [flag] using hset
  · rw [hraise, (raise_within (l := []) (ps := []) e detail (tame_setF f hready 1 ht) he).getF_eq List.not_mem_nil hrecord,
      getF_setF_same _ _ _ _ hbit.ge, hbit, Nat.add_sub_cancel_left]
    rfl

theorem stickD_beside {g : RegField} (hreg : g.reg = f.reg) (hbit : f.hi = f.lo) (hbeside : f.hi < g.lo ∨ g.hi < f.lo)
    (ht : b.Tame) (hready : readyReg (f.reg.at n) = false) (hrecord : recordReg (f.reg.at n) = false) (he : e < 256) :
    (b.stickD f n e detail).getF g n = b.getF g n := by
  rcases stickD_cases b f n e detail with ⟨-, hkeep⟩ | hraise
  · rw [hkeep]
  · rw [hraise, (raise_within (l := []) (ps := []) e detail (tame_setF f hready 1 ht) he).getF_eq List.not_mem_nil (hreg ▸ hrecord),
      getF_setF_beside b f g n 1 hreg hbit.ge hbeside]

end

/-! ### The log and rejections (R593, R594) -/

section

variable (code : Nat) (slot range zone tid : Option Nat) (b : Block)

/-- A log entry adds to the log, and takes two open values. -/
theorem acsLog_eq : ∃ w ws, b.acsLog code slot range zone tid =
    { b with free := b.free + 2, acs := { b.acs with
      log := (b.acs.log ++ [(code + 256 * w) :: ws]).drop ((b.acs.log ++ [(code + 256 * w) :: ws]).length - 32) } } := by
  refine ⟨(slot.getD (bits b.fresh.1.toNat 13 8)) % 64 + (range.getD (bits b.fresh.1.toNat 27 16)) % 2 ^ 12 * 2 ^ 8 +
    (zone.getD (bits b.fresh.1.toNat 31 28)) % 2 ^ 4 * 2 ^ 20, [tid.getD b.fresh.2.fresh.1.toNat % 2 ^ 32, b.pw.rtc % 2 ^ 32, b.pw.rtc / 2 ^ 32 % 65536], ?_⟩
  unfold acsLog
  dsimp only
  have hword : code + slot.getD (bits b.fresh.1.toNat 13 8) % 2 ^ (13 + 1 - 8) * 2 ^ 8 +
      range.getD (bits b.fresh.1.toNat 27 16) % 2 ^ (27 + 1 - 16) * 2 ^ 16 +
      zone.getD (bits b.fresh.1.toNat 31 28) % 2 ^ (31 + 1 - 28) * 2 ^ 28 = code + 256 * (slot.getD (bits b.fresh.1.toNat 13 8) % 64 +
      range.getD (bits b.fresh.1.toNat 27 16) % 2 ^ 12 * 2 ^ 8 + zone.getD (bits b.fresh.1.toNat 31 28) % 2 ^ 4 * 2 ^ 20) := by
    omega
  rw [hword]
  rfl

theorem acsLog_within (h : .acs ∈ ps) : b.Within l ps (b.acsLog code slot range zone tid) := by
  obtain ⟨w, ws, heq⟩ := acsLog_eq code slot range zone tid b
  rw [heq]
  exact (free_within b (b.free + 2)).trans (acs_within _ _ h)

theorem acsLog_getF (f : RegField) (n : Nat) : (b.acsLog code slot range zone tid).getF f n = b.getF f n := by
  obtain ⟨w, ws, heq⟩ := acsLog_eq code slot range zone tid b
  rw [heq]
  rfl

theorem acsLog_acs : (b.acsLog code slot range zone tid).acs = { b.acs with log := (b.acsLog code slot range zone tid).acs.log } := by
  obtain ⟨w, ws, heq⟩ := acsLog_eq code slot range zone tid b
  rw [heq]

/-- The newest entry of the log begins with the code of its outcome. -/
theorem acsLog_code (hcode : code < 256) : ((b.acsLog code slot range zone tid).acs.log.getLast?.getD []).headD 0 % 256 = code := by
  obtain ⟨w, ws, heq⟩ := acsLog_eq code slot range zone tid b
  rw [heq]
  simp only
  rw [List.getLast?_drop, if_neg (by simp), List.getLast?_concat]
  simp only [Option.getD_some, List.headD_cons]
  omega

end

/-- An answer or a response is rejected: it is logged, and its sticky bit of EV233 is set. -/
def rejected (f : RegField) (cause code s : Nat) (range zone tid : Option Nat) (b : Block) : Block :=
  (b.acsLog code (some s) range zone tid).acsReject f cause s

section

variable {f : RegField} {cause code s : Nat} {range zone tid : Option Nat}

theorem rejected_stays (b : Block) (hf : f.reg.at 0 ∈ l) (hacs : .acs ∈ ps) :
    b.Stays l ps (b.rejected f cause code s range zone tid) :=
  (Stays.of_within (acsLog_within _ _ _ _ _ b hacs)).trans (stickD_stays _ hf (by decide))

theorem acsLog_tame (code : Nat) (slot range zone tid : Option Nat) (ht : b.Tame) : (b.acsLog code slot range zone tid).Tame :=
  (acsLog_within (l := []) (ps := [.acs]) code slot range zone tid b (by simp)).tame (by simp) ht

/-- What a rejection shows and logs. -/
theorem rejected_spec (ht : b.Tame) (hreg : f.reg = R.ACS_STAT) (hbit : f.hi = f.lo) :
    (b.rejected f cause code s range zone tid).getF f 0 = 1 ∧
      (b.rejected f cause code s range zone tid).acs = (b.acsLog code (some s) range zone tid).acs := by
  have hlogged := acsLog_tame code (some s) range zone tid ht
  have hstays : (b.acsLog code (some s) range zone tid).Stays [f.reg.at 0] []
      (b.rejected f cause code s range zone tid) := stickD_stays _ (by simp) (by decide)
  have hacs := (hstays hlogged (by rw [hreg]; decide)).acs_eq (by simp)
  exact ⟨stickD_same hbit hlogged (hreg ▸ by decide) (hreg ▸ by decide) (by decide), hacs⟩

end

/-! ### Failures and lockouts (R582, R584) -/

theorem setFails_within (x : List Nat) (b : Block) (hf : R.ACS_LOCK.at 0 ∈ l) (hacs : .acs ∈ ps) : b.Within l ps (b.setFails x) :=
  (acs_within b _ hacs).trans (.setF _ F.ACS_LOCK_FAILS 0 _ hf)

/-- A failure that is not the fifth within 10 min is counted (R582). -/
theorem acsFailure_eq (hfew : b.acs.fails.length < 4) : b.acsFailure =
    b.setFails ((b.acs.fails.filter fun t => decide (b.pw.rtc - t ≤ 600 * 32768)) ++ [b.pw.rtc]) := by
  refine if_pos ?_
  have hle := List.length_filter_le (fun t => decide (b.pw.rtc - t ≤ 600 * 32768)) b.acs.fails
  simp only [List.length_append, List.length_singleton]
  omega

/-! ### Islands and radio (R465) -/

theorem islandGate_within (i : Nat) (b : Block) (h : R.CDC_ISTAT.at i ∈ l) : b.Within l ps (b.islandGate i) :=
  (Within.setF b F.CDC_ISTAT_RUN i 0 h).trans (.setF _ F.CDC_ISTAT_GATED i 1 h)

theorem islandRestart_within (i : Nat) (b : Block) (h : R.CDC_ISTAT.at i ∈ l) : b.Within l ps (b.islandRestart i) :=
  .ite _ (((Within.setF b F.CDC_ISTAT_RUN i 1 h).trans (.setF _ F.CDC_ISTAT_GATED i 0 h)).trans (.setF _ F.CDC_ISTAT_WAKECNT i _ h))
    (.refl b)

/-- The registers of the UWB and LF islands. -/
def radioRegs : List Nat := [R.CDC_ISTAT.at 6, R.CDC_ISTAT.at 7]

theorem radioRest_within (b : Block) (h : radioRegs ⊆ l) : b.Within l ps b.radioRest := by
  have h6 : R.CDC_ISTAT.at 6 ∈ l := h (by simp [radioRegs])
  have h7 : R.CDC_ISTAT.at 7 ∈ l := h (by simp [radioRegs])
  exact .ite _ (.refl b) ((islandGate_within 7 b h7).trans (.ite _ (.refl _) (islandGate_within 6 _ h6)))

theorem islandRestart_out (i : Nat) (b : Block) : (b.islandRestart i).out = b.out := by
  unfold islandRestart
  split <;> rfl

theorem radioRest_out (b : Block) : b.radioRest.out = b.out := by
  unfold radioRest
  dsimp only
  split
  · rfl
  · split <;> rfl

/-! ### The end of an exchange (R579) -/

theorem exchNext_eq (hanswers : b.acs.answers = []) : b.exchNext = { b with acs := { b.acs with answers := [], cur := none } } := by
  rw [exchNext, hanswers]
  rfl

/-- The message of the confirmation, the end of the exchange, and the radio at rest. -/
def confirmed (i : Nat) (o : Out) (b : Block) : Block := ((b.islandRestart i).send o).exchNext.radioRest

theorem exchEnd_spec (hanswers : b.acs.answers = []) : b.Within radioRegs [.acs] b.exchNext.radioRest ∧
    b.exchNext.radioRest.acs = { b.acs with answers := [], cur := none } := by
  rw [exchNext_eq hanswers]
  have hrest := radioRest_within (l := radioRegs) (ps := []) { b with acs := { b.acs with answers := [], cur := none } } (List.Subset.refl _)
  exact ⟨(acs_within b _ (by simp)).trans (hrest.mono (List.Subset.refl _) (by simp)), hrest.acs_eq (by simp)⟩

theorem confirmed_spec {i : Nat} (o : Out) (hi : R.CDC_ISTAT.at i ∈ radioRegs) (hanswers : b.acs.answers = []) :
    b.Within radioRegs [.acs] (b.confirmed i o) ∧ (b.confirmed i o).acs = { b.acs with answers := [], cur := none } := by
  have hsent : b.Within radioRegs [] ((b.islandRestart i).send o) := (islandRestart_within i b hi).trans (.send _ o)
  have hacs := hsent.acs_eq (by simp)
  obtain ⟨hwithin, hafter⟩ := exchEnd_spec (b := (b.islandRestart i).send o) (by rw [hacs, hanswers])
  exact ⟨(hsent.mono (List.Subset.refl _) (by simp)).trans hwithin, by rw [confirmed, hafter, hacs]⟩

/-! ### What the clauses of the exchanges read of a block -/

/-- The registers that cycles and exchanges change. -/
def exchRegs : List Nat :=
  offsOf [R.ACS_STAT, R.CDC_ISTAT, R.CIPH_RNG, R.CIPH_STAT, R.KEY_CACHE, R.KEY_CCNT, R.KEY_STAT, R.PKE_STAT]

theorem exchRegs_readyReg : ∀ x ∈ exchRegs, readyReg x = false := by decide

theorem radioRegs_subset : radioRegs ⊆ exchRegs := by decide

namespace Within

variable {a : Block} (h : a.Within exchRegs ps b)
include h

/-- A field that is none of those registers'. -/
theorem exch_getF {f : RegField} {n : Nat} (hl : f.reg.at n ∉ exchRegs) (hr : recordReg (f.reg.at n) = false) :
    b.getF f n = a.getF f n := h.getF_eq hl hr

theorem lfMask_eq : b.lfMask = a.lfMask := by
  simp only [lfMask, h.exch_getF (f := F.ACS_LF_LFMASK) (n := 0) (by decide) (by decide),
    h.exch_getF (f := F.ACS_DIAG_LFF) (n := 0) (by decide) (by decide)]

theorem anchors_eq : b.anchors = a.anchors := by
  simp only [anchors, h.exch_getF (f := F.ACS_UWB_AMASK) (n := 0) (by decide) (by decide),
    h.exch_getF (f := F.ACS_DIAG_UAF) (n := 0) (by decide) (by decide)]

theorem pollPlace_eq (hcyc : b.acs.cyc = a.acs.cyc) : b.pollPlace = a.pollPlace := by
  simp only [pollPlace, h.anchors_eq, h.exch_getF (f := F.ACS_UWB_CHMASK) (n := 0) (by decide) (by decide), hcyc]

theorem ciphOn_eq : b.ciphOn = a.ciphOn := by
  simp only [ciphOn, pg, flag, h.exch_getF (f := F.PWR_DOMSTAT_PG) (n := 0) (by decide) (by decide),
    h.exch_getF (f := F.CIPH_CFG_EN) (n := 0) (by decide) (by decide)]

theorem serial_eq : b.rd R.SYS_SERIAL 0 = a.rd R.SYS_SERIAL 0 := h.rd_eq (by decide) (by decide)

end Within

end

end Block

end Sys2Proof.Machine
end

section
/-! PROOFS. The access function: its enable, its cycles, the answers of a discovery and the start of an exchange (O49). -/
namespace Sys2Proof.Machine

open Block

/-! ### Enable and cycles (R574, R592) -/

section

variable {s : State}

theorem lfMeasure_within {l : List Nat} {ps : List Part} (b : Block) (h : .acs ∈ ps) : b.Within l ps b.lfMeasure :=
  Within.foldl _ _ (fun _ _ b => (free_within b (b.free + 1)).trans (acs_within _ _ h)) b

theorem accSync_within {l : List Nat} {ps : List Part} (b : Block) (h : R.ACS_STAT.at 0 ∈ l) : b.Within l ps b.accSync :=
  .setF b F.ACS_STAT_STATE 0 _ h

theorem accSync_state {b : Block} (hon : b.flag F.ACS_CFG_EN 0 = true) :
    b.accSync.getF F.ACS_STAT_STATE 0 = if b.ciphOn then 1 else 2 := by
  rw [accSync, getF_setF_same _ _ _ _ (by decide), hon]
  cases b.ciphOn <;> rfl

/-- The registers of an enable. -/
def enableAcsRegs : List Nat := offsOf [R.ACS_CFG, R.ACS_STAT]

theorem completes_accessWrite {who : Who} {E : Block → Prop} (hready : s.blk.Ready) (hwrite : s.blk.CanWrite who (R.ACS_CFG.at 0))
    (hw : s.blk.Within enableAcsRegs [.acs] s.blk.accEnable) (hE : E s.blk.accEnable) :
    Completes (.accessEnable who) s fun b => E b ∧ s.blk.Beside enableAcsRegs [Part.acs] b := by
  have heffect := gate_of_canWrite hwrite accEnable
  exact completes_of_within (f := fun b => b.gate who (R.ACS_CFG.at 0) accEnable) rfl hready (heffect ▸ hw) (by decide) (by decide)
    (heffect ▸ ⟨hE, hw.beside⟩)

theorem completes_accessEnable {who : Who} (hready : s.blk.Ready) (hwrite : s.blk.CanWrite who (R.ACS_CFG.at 0))
    (hroot : s.blk.getF F.ACS_CFG_RKSEL 0 ≠ 0)
    (hrel : s.blk.getF F.ACS_REL_RELCH 0 ≤ 11 ∨ s.blk.flag F.ACS_REL_RELMSG 0 = false) :
    Completes (.accessEnable who) s fun b => (b.getF F.ACS_CFG_EN 0 = 1 ∧
      b.getF F.ACS_STAT_STATE 0 = if s.blk.ciphOn then 1 else 2) ∧ s.blk.Beside enableAcsRegs [Part.acs] b := by
  have hvalid : (s.blk.getF F.ACS_CFG_RKSEL 0 == 0 || (decide (11 < s.blk.getF F.ACS_REL_RELCH 0) && s.blk.flag F.ACS_REL_RELMSG 0)) = false := by
    rcases hrel with hrel | hrel
    · simp [hroot, Nat.not_lt.mpr hrel]
    · simp [hroot, hrel]
  have hrun : s.blk.accEnable = if s.blk.acsOn then s.blk.accSync else (s.blk.setF F.ACS_CFG_EN 0 1).lfMeasure.accSync := by
    rw [accEnable, hvalid]
    rfl
  cases hon : s.blk.acsOn with
  | true =>
    rw [hon, if_pos rfl] at hrun
    refine completes_accessWrite hready hwrite (hrun ▸ (accSync_within _ (by decide))) (hrun ▸ ⟨?_, accSync_state hon⟩)
    rw [(accSync_within (l := [R.ACS_STAT.at 0]) (ps := []) s.blk (by simp)).getF_eq (by decide) (by decide)]
    exact of_decide_eq_true hon
  | false =>
    have hmeasured : s.blk.Within enableAcsRegs [.acs] (s.blk.setF F.ACS_CFG_EN 0 1).lfMeasure :=
      (Within.setF _ F.ACS_CFG_EN 0 1 (by decide)).trans (lfMeasure_within _ (by simp))
    have hen : (s.blk.setF F.ACS_CFG_EN 0 1).lfMeasure.getF F.ACS_CFG_EN 0 = 1 :=
      ((lfMeasure_within (l := []) (ps := [.acs]) _ (by simp)).getF_eq (by simp) (by decide)).trans
        (getF_setF_same _ _ _ _ (by decide))
    rw [hon, if_neg (by decide)] at hrun
    refine completes_accessWrite hready hwrite (hrun ▸ hmeasured.trans (accSync_within _ (by decide))) (hrun ▸ ⟨?_, ?_⟩)
    · rw [(accSync_within (l := [R.ACS_STAT.at 0]) (ps := []) _ (by simp)).getF_eq (by decide) (by decide), hen]
    · rw [accSync_state (by rw [flag, hen]; rfl)]
      congr 1
      rw [eq_iff_iff, ← Bool.eq_iff_iff]
      simp only [ciphOn, pg, flag, hmeasured.getF_eq (f := F.PWR_DOMSTAT_PG) (n := 0) (by decide) (by decide),
        hmeasured.getF_eq (f := F.CIPH_CFG_EN) (n := 0) (by decide) (by decide)]

theorem completes_accessEnable_refused {who : Who} (hready : s.blk.Ready) (hwrite : s.blk.CanWrite who (R.ACS_CFG.at 0))
    (hroot : s.blk.getF F.ACS_CFG_RKSEL 0 = 0) :
    Completes (.accessEnable who) s fun b => b.getF F.ACS_CFG_EN 0 = 0 ∧ s.blk.Beside enableAcsRegs [Part.acs] b := by
  have hrun : s.blk.accEnable = s.blk.setF F.ACS_CFG_EN 0 0 := if_pos (by simp [hroot])
  exact completes_accessWrite hready hwrite (hrun ▸ .setF _ F.ACS_CFG_EN 0 0 (by decide))
    (hrun ▸ getF_setF_same _ _ _ _ (by decide))

/-! ### A cycle (R574) -/

/-- A cycle has begun. -/
def cycleBegun (b : Block) : Block :=
  { b.accSync with acs := { b.acs with cyc := b.acs.cyc + 1, best := none } }

/-- The poll of the cycle has gone out. -/
def polled (b : Block) : Block := b.pollPlace.elim b fun p => b.sendPoll p

/-- And its LF poll, in every sixth cycle (R573). -/
def lpolled (b : Block) : Block :=
  if b.flag F.ACS_CFG_LFPOLL 0 && b.acs.cyc % 6 == 0 && !(b.lfMask == 0) then b.sendLPoll b.lfMask else b

theorem accessCycle_eq {b : Block} (hup : b.acsUp = true) (hcur : b.acs.cur = none) (hanswers : b.acs.answers = []) :
    b.accessCycle = (lpolled (polled (cycleBegun b))).radioRest := by
  have hgo : (!b.acsUp || b.acs.cur.isSome || !b.acs.answers.isEmpty) = false := by simp [hup, hcur, hanswers]
  have hpolled : polled (cycleBegun b) = match (cycleBegun b).pollPlace with
      | some p => (cycleBegun b).sendPoll p
      | none => cycleBegun b := by
    unfold polled
    cases (cycleBegun b).pollPlace <;> rfl
  rw [hpolled]
  exact if_neg (by rw [hgo]; decide)

theorem sendPoll_within {l : List Nat} {ps : List Part} (p : Nat × Nat) (b : Block) (h : R.CDC_ISTAT.at 6 ∈ l) :
    b.Within l ps (b.sendPoll p) := (islandRestart_within 6 b h).trans (.send _ _)

theorem sendLPoll_within {l : List Nat} {ps : List Part} (m : Nat) (b : Block) (h : R.CDC_ISTAT.at 7 ∈ l) :
    b.Within l ps (b.sendLPoll m) := ((islandRestart_within 7 b h).trans (.send _ _)).trans (.send _ _)

theorem polled_within (b : Block) : b.Within radioRegs [] (polled b) := by
  unfold polled
  cases b.pollPlace with
  | none => exact .refl b
  | some p => exact sendPoll_within p b (by decide)

theorem lpolled_within (b : Block) : b.Within radioRegs [] (lpolled b) :=
  .ite _ (sendLPoll_within _ b (by decide)) (.refl b)

/-- The poll that a block sends from place p. -/
def pollOut (b : Block) (p : Nat × Nat) : Out :=
  .uwb p.1 p.2 (b.getF F.ACS_CFG_PANID 0) (bytesOf ([1] ++ beBytes 4 (b.rd R.SYS_SERIAL 0) ++ beBytes 2 b.acs.cyc ++ [p.1]))

/-- The LF poll that it sends to the antennas of a mask. -/
def lpollOut (b : Block) (m : Nat) : Out :=
  .lf m (b.getF F.ACS_LF_WAKEID 0) (bytesOf ([0x11] ++ beBytes 4 (b.rd R.SYS_SERIAL 0)))

theorem polled_out {b : Block} {p : Nat × Nat} (hplace : b.pollPlace = some p) : pollOut b p ∈ (polled b).out := by
  rw [polled, hplace]
  exact List.mem_append_right _ (List.mem_singleton_self _)

theorem lpolled_out_of_mem {b : Block} {o : Out} (h : o ∈ b.out) : o ∈ (lpolled b).out := by
  unfold lpolled
  split
  · exact List.mem_append_left _ (List.mem_append_left _ (by rw [islandRestart_out]; exact h))
  · exact h

theorem lpolled_out {b : Block} (hlf : b.flag F.ACS_CFG_LFPOLL 0 = true) (hturn : b.acs.cyc % 6 = 0) (hmask : b.lfMask ≠ 0) :
    lpollOut b b.lfMask ∈ (lpolled b).out := by
  rw [lpolled, if_pos (by simp [hlf, hturn, hmask])]
  exact List.mem_append_left _ (List.mem_append_right _ (List.mem_singleton_self _))

/-- The registers of a cycle. -/
def cycleRegs : List Nat := offsOf [R.ACS_STAT, R.CDC_ISTAT]

theorem completes_accessCycle (hready : s.blk.Ready) (hup : s.blk.acsUp = true) (hcur : s.blk.acs.cur = none)
    (hanswers : s.blk.acs.answers = []) :
    Completes .accessCycle s fun b => (b.acs.cyc = s.blk.acs.cyc + 1 ∧ b.acs.answers = [] ∧ b.acs.best = none ∧
      b.getF F.ACS_STAT_STATE 0 = (if s.blk.ciphOn then 1 else 2) ∧
      (b.pollPlace.all fun p => b.out.contains (.uwb p.1 p.2 (s.blk.getF F.ACS_CFG_PANID 0)
        (bytesOf ([1] ++ beBytes 4 (s.blk.rd R.SYS_SERIAL 0) ++ beBytes 2 b.acs.cyc ++ [p.1])))) = true ∧
      (s.blk.flag F.ACS_CFG_LFPOLL 0 = true → b.acs.cyc % 6 = 0 → s.blk.lfMask ≠ 0 →
        b.out.contains (.lf s.blk.lfMask (s.blk.getF F.ACS_LF_WAKEID 0)
          (bytesOf ([0x11] ++ beBytes 4 (s.blk.rd R.SYS_SERIAL 0)))) = true)) ∧
      s.blk.Beside cycleRegs [Part.acs] b := by
  let c := cycleBegun s.blk
  have hbegun : s.blk.Within cycleRegs [.acs] c := (accSync_within s.blk (by decide)).trans (acs_within _ _ (by simp))
  have hexch : s.blk.Within exchRegs [.acs] c := hbegun.mono (by decide) (List.Subset.refl _)
  have hrun : s.blk.accessCycle = (lpolled (polled c)).radioRest := accessCycle_eq hup hcur hanswers
  have hafter : c.Within radioRegs [] (lpolled (polled c)).radioRest :=
    ((polled_within c).trans (lpolled_within _)).trans (radioRest_within _ (List.Subset.refl _))
  have hacs : s.blk.accessCycle.acs = c.acs := hrun ▸ hafter.acs_eq (by simp)
  have hwithin : s.blk.Within cycleRegs [.acs] s.blk.accessCycle :=
    hrun ▸ hbegun.trans (hafter.mono (by decide) (by simp))
  refine completes_of_within rfl hready hwithin (by decide) (by decide) ⟨⟨?_, ?_, ?_, ?_, ?_, ?_⟩, hwithin.beside⟩
  · rw [hacs]; rfl
  · rw [hacs]; exact hanswers
  · rw [hacs]; rfl
  · rw [hrun, hafter.getF_eq (by decide) (by decide)]
    exact accSync_state (Bool.and_eq_true_iff.mp hup).1
  · rw [Option.all_eq_true]
    intro p hp
    have hplace : c.pollPlace = some p := by
      rw [← (hafter.mono radioRegs_subset (List.Subset.refl _)).pollPlace_eq (by rw [hafter.acs_eq (by simp)]), ← hrun]
      exact hp
    have hsent := lpolled_out_of_mem (polled_out hplace)
    rw [List.contains_iff_mem, hacs, hrun, radioRest_out]
    rwa [pollOut, hexch.exch_getF (by decide) (by decide), hexch.serial_eq] at hsent
  · intro hlf hturn hmask
    have hpolled : s.blk.Within exchRegs [.acs] (polled c) :=
      hexch.trans ((polled_within c).mono radioRegs_subset (by simp))
    have hsent := lpolled_out (b := polled c) (by rw [flag, hpolled.exch_getF (by decide) (by decide)]; exact hlf)
      (by rw [(polled_within c).acs_eq (by simp), ← hacs]; exact hturn) (by rw [hpolled.lfMask_eq]; exact hmask)
    rw [List.contains_iff_mem, hrun, radioRest_out]
    rwa [lpollOut, hpolled.exch_getF (by decide) (by decide), hpolled.serial_eq, hpolled.lfMask_eq] at hsent

/-! ### Answers of a discovery (R572) -/

section

variable {n k tid : Nat}

/-- A void answer (R572). -/
theorem discovery_void (b : Block) (hup : b.acsUp = true) :
    b.discovery n k true tid = b.rejected F.ACS_STAT_COLLX 5 7 n none none none := by
  rw [discovery, hup]
  rfl

/-- An answer of an unknown TID. -/
theorem discovery_unknown {b : Block} (hup : b.acsUp = true) (hknown : b.tidKnown tid = false) :
    b.discovery n k false tid = b.acsLog 8 (some n) none none (some tid) := by
  rw [discovery, hup, hknown]
  rfl

/-- An answer of the token of the slot. -/
theorem discovery_own {b : Block} (hup : b.acsUp = true) (hn : n < 64) (htid : b.tokenTid n = some tid) :
    b.discovery n k false tid = b.addAnswer n k := by
  have hknown : b.tidKnown tid = true := List.any_eq_true.mpr ⟨n, List.mem_range.mpr hn, by simp [htid]⟩
  rw [discovery, hup, hknown, htid]
  simp

/-- The list of the answers with that of slot n. -/
def withAnswer (n k : Nat) (as : List (Nat × Nat)) : List (Nat × Nat) :=
  as.filter (fun e => decide (e.1 < n)) ++ [(n, k)] ++ as.filter (fun e => decide (n < e.1))

theorem mem_withAnswer (n k : Nat) (as : List (Nat × Nat)) : (n, k) ∈ withAnswer n k as := by simp [withAnswer]

/-- While an exchange runs, an answer waits. -/
theorem addAnswer_of_cur {b : Block} {e : AcsExch} (hcur : b.acs.cur = some e) :
    b.addAnswer n k = { b with acs := { b.acs with answers := withAnswer n k b.acs.answers } } :=
  if_pos (by simp [hcur])

/-- Where none runs or waits, its exchange begins. -/
theorem addAnswer_first {b : Block} (hcur : b.acs.cur = none) (hanswers : b.acs.answers = []) :
    b.addAnswer n k = (({ b with acs := { b.acs with answers := [(n, k)] } } : Block).exchStart [(n, k)]).radioRest := by
  rw [addAnswer, hanswers]
  exact if_neg (by simp [hcur])

variable {c : Instr}

theorem completes_void (hexec : exec c s = s.act fun b => b.discovery n k true tid) (hready : s.blk.Ready)
    (hup : s.blk.acsUp = true) :
    Completes c s fun b => b.getF F.ACS_STAT_COLLX 0 = 1 ∧ b.acs.answers = s.blk.acs.answers ∧ b.acs.fails = s.blk.acs.fails ∧
      ((b.acs.log.getLast?.getD []).headD 0) % 256 = 7 ∧ s.blk.Beside exchRegs [Part.acs, Part.ciph] b := by
  have hrun := discovery_void (n := n) (k := k) (tid := tid) s.blk hup
  obtain ⟨hset, hacs⟩ := rejected_spec (f := F.ACS_STAT_COLLX) (cause := 5) (code := 7) (s := n) (range := none) (zone := none)
    (tid := none) hready.2.1 rfl rfl
  refine completes_of_stays hexec hready (hrun ▸ rejected_stays (ps := [.acs, .ciph]) s.blk (by decide) (by simp)) exchRegs_readyReg
    (by simp) fun hw => ⟨hrun ▸ hset, ?_, ?_, ?_, hw.beside⟩
  · rw [hrun, hacs, acsLog_acs]
  · rw [hrun, hacs, acsLog_acs]
  · rw [hrun, hacs]
    exact acsLog_code 7 _ _ _ _ _ (by decide)

theorem completes_unknown (hexec : exec c s = s.act fun b => b.discovery n k false tid) (hready : s.blk.Ready)
    (hup : s.blk.acsUp = true) (hknown : s.blk.tidKnown tid = false) :
    Completes c s fun b => b.acs.answers = s.blk.acs.answers ∧ b.acs.fails = s.blk.acs.fails ∧
      ((b.acs.log.getLast?.getD []).headD 0) % 256 = 8 ∧ s.blk.Beside exchRegs [Part.acs, Part.ciph] b := by
  have hrun := discovery_unknown (n := n) (k := k) hup hknown
  have hw : s.blk.Within exchRegs [.acs, .ciph] (s.blk.discovery n k false tid) := hrun ▸ acsLog_within _ _ _ _ _ _ (by simp)
  refine completes_of_within hexec hready hw exchRegs_readyReg (by simp) ⟨?_, ?_, ?_, hw.beside⟩
  · rw [hrun, acsLog_acs]
  · rw [hrun, acsLog_acs]
  · rw [hrun]
    exact acsLog_code 8 _ _ _ _ _ (by decide)

theorem completes_queued {e : AcsExch} (hexec : exec c s = s.act fun b => b.discovery n k false tid) (hready : s.blk.Ready)
    (hup : s.blk.acsUp = true) (hn : n < 64) (htid : s.blk.tokenTid n = some tid) (hcur : s.blk.acs.cur = some e) :
    Completes c s fun b => (n, k) ∈ b.acs.answers ∧ b.acs.cur = some e ∧ s.blk.Beside exchRegs [Part.acs, Part.ciph] b := by
  have hrun := (discovery_own (k := k) hup hn htid).trans (addAnswer_of_cur hcur)
  have hw : s.blk.Within exchRegs [.acs, .ciph] (s.blk.discovery n k false tid) := hrun ▸ acs_within _ _ (by simp)
  refine completes_of_within hexec hready hw exchRegs_readyReg (by simp) ⟨?_, ?_, hw.beside⟩
  · rw [hrun]
    exact mem_withAnswer ..
  · rw [hrun]
    exact hcur

end

/-- RESPONSE_TIMEOUT (R579). -/
theorem completes_responseTimeout {e : AcsExch} (hready : s.blk.Ready) (hcur : s.blk.acs.cur = some e)
    (hanswers : s.blk.acs.answers = []) :
    Completes .responseTimeout s fun b => b.acs.cur = none ∧ b.acs.fails = s.blk.acs.fails ∧
      b.getF F.ACS_LOCK_FAILS 0 = s.blk.getF F.ACS_LOCK_FAILS 0 ∧
      s.blk.Beside (offsOf [R.CDC_ISTAT, R.CIPH_RNG, R.CIPH_STAT, R.KEY_CACHE, R.KEY_CCNT, R.KEY_STAT, R.PKE_STAT])
        [Part.acs, Part.ciph] b := by
  have hrun : s.blk.respTimeout = s.blk.exchNext.radioRest := if_pos (by simp [hcur])
  obtain ⟨hwithin, hacs⟩ := exchEnd_spec hanswers
  rw [← hrun] at hwithin hacs
  refine completes_of_within rfl hready hwithin (by decide) (by decide) ⟨?_, ?_, ?_, (hwithin.mono (by decide) (by simp)).beside⟩
  · exact (congrArg AcsSt.cur hacs).trans rfl
  · rw [hacs]
  · exact hwithin.getF_eq (by decide) (by decide)

end

end Sys2Proof.Machine
end

section
/-! PROOFS. The start of an exchange: the key of the token, the nonce and the challenge (O49). -/
namespace Sys2Proof.Machine
namespace Block

/-! ### Keys and random bytes (R545, R553) -/

section

variable {l : List Nat} {ps : List Part}

/-- The registers of the key store. -/
def keyRegs : List Nat := offsOf [R.CIPH_STAT, R.KEY_CACHE, R.KEY_CCNT, R.PKE_STAT]

theorem ciphSync_within (b : Block) : b.Within keyRegs ps b.ciphSync :=
  ((Within.setF b F.KEY_CACHE_VALID 0 _ (by decide)).trans (.setF _ F.CIPH_STAT_JOBS 0 _ (by decide))).trans
    (.setF _ F.PKE_STAT_BUSY 0 _ (by decide))

theorem touchKey_within (t : KeyTag) (b : Block) : b.Within keyRegs [.ciph] (b.touchKey t) :=
  (ciph_within b _ (by simp)).trans (ciphSync_within _)

theorem keyNow_within (t : KeyTag) (b : Block) : b.Within keyRegs [.ciph] (b.keyNow t) :=
  .ite _ ((Within.setF b F.KEY_CCNT_HITS 0 _ (by decide)).trans (touchKey_within t _))
    ((Within.setF b F.KEY_CCNT_MISSES 0 _ (by decide)).trans (touchKey_within t _))

/-- A key in use leaves the results of the self-tests. -/
theorem keyNow_test (t : KeyTag) (b : Block) : (b.keyNow t).ciph.test = b.ciph.test := by
  unfold keyNow
  split <;> rfl

theorem rngRequest_within (b : Block) : b.Within exchRegs [.ciph] (b.rngRequest false) := by
  unfold rngRequest
  dsimp only
  split
  · exact (Within.setF b F.CIPH_RNG_RESEEDS 0 _ (by decide)).trans (ciph_within _ _ (by simp))
  · exact ciph_within _ _ (by simp)

theorem randomBytes_within (n : Nat) (b : Block) : b.Within l ps (b.randomBytes n).2 := free_within b _

theorem beBytes_length (n v : Nat) : (beBytes n v).length = n := by simp [beBytes]

theorem beBytes_lt {n v x : Nat} (h : x ∈ beBytes n v) : x < 256 := by
  obtain ⟨i, -, rfl⟩ := List.mem_map.mp h
  exact Nat.mod_lt _ (by decide)

theorem randomBytes_length (b : Block) : (b.randomBytes 16).1.length = 16 := by
  simp [randomBytes, beBytes_length]

theorem randomBytes_lt {n x : Nat} {b : Block} (h : x ∈ (b.randomBytes n).1) : x < 256 := by
  obtain ⟨i, -, hx⟩ := List.mem_flatMap.mp (List.mem_of_mem_take h)
  exact beBytes_lt hx

theorem keyRegs_subset : keyRegs ⊆ exchRegs := by decide

end

/-! ### The start (R574, R575) -/

/-- The key of a token is in use, and the generator has been asked. -/
def keyed (tid : Nat) (b : Block) : Block := (b.keyNow (b.acsTag (tokenLabel tid))).rngRequest false

/-- Nv of an exchange that begins. -/
def nonce (tid : Nat) (b : Block) : List Nat := ((keyed tid b).randomBytes 16).1

/-- And the block behind the draw. -/
def drawn (tid : Nat) (b : Block) : Block := ((keyed tid b).randomBytes 16).2

theorem drawn_within (tid : Nat) (b : Block) : b.Within exchRegs [.ciph] (drawn tid b) :=
  (((keyNow_within _ b).mono keyRegs_subset (List.Subset.refl _)).trans (rngRequest_within _)).trans (randomBytes_within _ _)

/-- The challenge of an exchange, over UWB or LF (R570, R571). -/
def challenged (n k tid : Nat) (b : Block) : Block :=
  if n < 60 then
    ((drawn tid b).islandRestart 6).send (.uwb k ((drawn tid b).pollPlace.getD (0, 5)).2 ((drawn tid b).getF F.ACS_CFG_PANID 0)
      (bytesOf ([3] ++ beBytes 8 tid ++ nonce tid b ++ beBytes 2 (drawn tid b).acs.cyc)))
  else (drawn tid b).sendLChal tid (nonce tid b)

/-- The exchange of slot n that has begun. -/
def begunExch (n k tid : Nat) (b : Block) : AcsExch :=
  { slot := n, anchor := k, chan := ((drawn tid b).pollPlace.getD (0, 5)).2, nv := nonce tid b,
    sts := if n < 60 then stsKey ((challenged n k tid b).acsKey (tokenLabel tid)) (nonce tid b) else [] }

theorem acsKeys_spec {b : Block} (h : b.acsKeys = true) : b.ciphOn = true ∧ b.untested [1, 2] = false := by
  simp only [acsKeys, acsTested, Bool.and_eq_true, beq_iff_eq] at h
  obtain ⟨⟨⟨⟨hon, htest1⟩, htest2⟩, -⟩, -⟩ := h
  exact ⟨hon, by simp [untested, htest1, htest2]⟩

theorem acsKeys_keyNow (t : KeyTag) (b : Block) : (b.keyNow t).acsKeys = b.acsKeys := by
  have hw := keyNow_within t b
  simp only [acsKeys, acsTested, ciphOn, pg, flag, rootValid, keyNow_test,
    hw.getF_eq (f := F.PWR_DOMSTAT_PG) (n := 0) (by decide) (by decide), hw.getF_eq (f := F.CIPH_CFG_EN) (n := 0) (by decide) (by decide),
    hw.getF_eq (f := F.ACS_CFG_RKSEL) (n := 0) (by decide) (by decide), hw.getF_eq (f := F.KEY_RKSTAT_RKVALID) (n := 0) (by decide) (by decide)]

theorem rngOn_keyNow (t : KeyTag) (b : Block) : (b.keyNow t).rngOn = b.rngOn := by
  simp only [rngOn, (keyNow_within t b).getF_eq (f := F.CIPH_RNG_RSTATE) (n := 0) (by decide) (by decide)]

theorem exchStart_one {b : Block} {n k tid : Nat} (htid : b.tokenTid n = some tid) (hpass : (decide (n < 60) && b.lockout) = false)
    (hkeys : b.acsKeys = true) (hrng : b.rngOn = true) :
    b.exchStart [(n, k)] = { challenged n k tid b with acs := { (challenged n k tid b).acs with
      answers := [], cur := some (begunExch n k tid b) } } := by
  obtain ⟨hon, htested⟩ := acsKeys_spec hkeys
  have hgo : ((decide (n < 60) && b.lockout) || !b.ciphOn) = false := by rw [hpass, hon]; rfl
  have hask : b.acsAsk (tokenLabel tid) = b.keyNow (b.acsTag (tokenLabel tid)) := if_pos hkeys
  have hserved : (!(b.keyNow (b.acsTag (tokenLabel tid))).acsKeys || !(b.keyNow (b.acsTag (tokenLabel tid))).rngOn) = false := by
    rw [acsKeys_keyNow, rngOn_keyNow, hkeys, hrng]
    rfl
  simp only [exchStart, htid, hgo, htested, hask, hserved, Bool.false_eq_true, if_false]
  rfl

/-! ### What the challenge leaves, and what it sends -/

theorem sendAll_out {α : Type} (o : α → Out) (xs : List α) (b : Block) :
    (xs.foldl (fun b x => b.send (o x)) b).out = b.out ++ xs.map o := by
  induction xs generalizing b with
  | nil => simp
  | cons x xs ih => rw [List.foldl_cons, ih, send, List.append_assoc, List.map_cons, List.singleton_append]

theorem challenged_within (n k tid : Nat) (b : Block) : b.Within exchRegs [.ciph] (challenged n k tid b) := by
  refine .ite _ ((drawn_within tid b).trans ((islandRestart_within 6 _ (by decide)).trans (.send _ _))) ((drawn_within tid b).trans ?_)
  exact (((islandRestart_within 7 _ (by decide)).trans (.send _ _)).trans (sendAll_within ..)).trans (.send _ _)

/-- The challenge over UWB (R570). -/
theorem challenged_uwb {n : Nat} (hn : n < 60) (k tid : Nat) (b : Block) :
    .uwb k ((drawn tid b).pollPlace.getD (0, 5)).2 (b.getF F.ACS_CFG_PANID 0)
      (bytesOf ([3] ++ beBytes 8 tid ++ nonce tid b ++ beBytes 2 b.acs.cyc)) ∈ (challenged n k tid b).out := by
  have hdrawn := drawn_within tid b
  rw [challenged, if_pos hn, hdrawn.exch_getF (by decide) (by decide), hdrawn.acs_eq (by simp)]
  exact List.mem_append_right _ (List.mem_singleton_self _)

/-- The challenge over LF with its bursts, and the receiver (R571). -/
theorem challenged_lf {n : Nat} (hn : ¬ n < 60) (k tid : Nat) (b : Block) :
    .lf b.lfMask (b.getF F.ACS_LF_WAKEID 0) (bytesOf ([0x13] ++ beBytes 8 tid ++ nonce tid b)) ∈ (challenged n k tid b).out ∧
      (∀ a ∈ (List.range 6).filter (bit b.lfMask), .lfBurst a ∈ (challenged n k tid b).out) ∧
      .uhf (b.getF F.ACS_LF_UHFBAND 0) ∈ (challenged n k tid b).out := by
  have hdrawn := drawn_within tid b
  have hout : (challenged n k tid b).out = (((drawn tid b).islandRestart 7).out ++
      [.lf b.lfMask (b.getF F.ACS_LF_WAKEID 0) (bytesOf ([0x13] ++ beBytes 8 tid ++ nonce tid b))] ++
      ((List.range 6).filter (bit b.lfMask)).map .lfBurst) ++ [.uhf (b.getF F.ACS_LF_UHFBAND 0)] := by
    have hrestart : b.Within exchRegs [.ciph] ((drawn tid b).islandRestart 7) := hdrawn.trans (islandRestart_within 7 _ (by decide))
    have hmask : (drawn tid b).lfMask = b.lfMask := hdrawn.lfMask_eq
    have hwake : (drawn tid b).getF F.ACS_LF_WAKEID 0 = b.getF F.ACS_LF_WAKEID 0 := hdrawn.exch_getF (by decide) (by decide)
    have hband : ((drawn tid b).islandRestart 7).getF F.ACS_LF_UHFBAND 0 = b.getF F.ACS_LF_UHFBAND 0 :=
      hrestart.exch_getF (by decide) (by decide)
    rw [challenged, if_neg hn, sendLChal, hmask, hwake, ← hband]
    exact congrArg (· ++ _) (sendAll_out ..)
  rw [hout]
  exact ⟨by simp, fun a ha => by simp [List.mem_filter.mp ha |>.2, List.mem_range.mp (List.mem_filter.mp ha).1], by simp⟩

end Block

open Block

/-- The answer of a token whose exchange begins at once (R574). -/
theorem completes_begun {c : Instr} {s : State} {n k tid : Nat} {E : Block → Prop}
    (hexec : exec c s = s.act fun b => b.discovery n k false tid) (hready : s.blk.Ready) (hup : s.blk.acsUp = true)
    (hcur : s.blk.acs.cur = none) (hanswers : s.blk.acs.answers = []) (hkeys : s.blk.acsKeys = true) (hrng : s.blk.rngOn = true)
    (hn : n < 64) (htid : s.blk.tokenTid n = some tid) (hpass : (decide (n < 60) && s.blk.lockout) = false)
    (hE : ∀ b o : Block, s.blk.Within [] [.acs] o → o.acs.cyc = s.blk.acs.cyc → b.acs.cur = some (begunExch n k tid o) →
      b.acs.answers = [] → b.out = (challenged n k tid o).out → E b) :
    Completes c s fun b => E b ∧ s.blk.Beside exchRegs [Part.acs, Part.ciph] b := by
  let o : Block := { s.blk with acs := { s.blk.acs with answers := [(n, k)] } }
  have hrun : s.blk.discovery n k false tid = ({ challenged n k tid o with acs := { (challenged n k tid o).acs with
      answers := [], cur := some (begunExch n k tid o) } } : Block).radioRest := by
    rw [discovery_own hup hn htid, addAnswer_first hcur hanswers, exchStart_one (b := o) htid hpass hkeys hrng]
  have ho : s.blk.Within [] [.acs] o := acs_within _ _ (by simp)
  have hrest := radioRest_within (l := exchRegs) (ps := []) ({ challenged n k tid o with acs := { (challenged n k tid o).acs with
      answers := [], cur := some (begunExch n k tid o) } } : Block) radioRegs_subset
  have hacs := hrest.acs_eq (by simp)
  have hw : s.blk.Within exchRegs [.acs, .ciph] (s.blk.discovery n k false tid) :=
    hrun ▸ (((ho.mono (by simp) (by simp)).trans ((challenged_within n k tid o).mono (List.Subset.refl _) (by simp))).trans
      (acs_within _ _ (by simp))).trans (hrest.mono (List.Subset.refl _) (by simp))
  refine completes_of_within hexec hready hw exchRegs_readyReg (by simp) ⟨hE _ o ho rfl ?_ ?_ ?_, hw.beside⟩
  · rw [hrun, hacs]
  · rw [hrun, hacs]
  · rw [hrun, radioRest_out]

theorem completes_disc {s : State} {slot : Fin 60} {tid : BitVec 64} {anchor : Fin 6} (hready : s.blk.Ready) (hup : s.blk.acsUp = true)
    (hcur : s.blk.acs.cur = none) (hanswers : s.blk.acs.answers = []) (hkeys : s.blk.acsKeys = true) (hrng : s.blk.rngOn = true)
    (htid : s.blk.tokenTid slot = some tid.toNat) (hlockout : s.blk.lockout = false) :
    Completes (.disc slot false tid anchor) s fun b =>
      ((match b.acs.cur with
        | some e => e.slot == slot.val && e.nv.length == 16 && e.nv.all (fun x => decide (x < 256)) && e.anchor == anchor.val &&
            e.sts == stsKey (s.blk.acsKey (tokenLabel tid.toNat)) e.nv &&
            b.out.contains (.uwb anchor e.chan (s.blk.getF F.ACS_CFG_PANID 0)
              (bytesOf ([3] ++ beBytes 8 tid.toNat ++ e.nv ++ beBytes 2 s.blk.acs.cyc)))
        | none => false) = true ∧ b.acs.answers = []) ∧ s.blk.Beside exchRegs [Part.acs, Part.ciph] b := by
  refine completes_begun (n := slot) (k := anchor) (tid := tid.toNat) rfl hready hup hcur hanswers hkeys hrng (by omega) htid
    (by simp [hlockout]) fun b o ho hcyc hcur hanswers hout => ⟨?_, hanswers⟩
  have hsent := challenged_uwb slot.isLt anchor tid.toNat o
  rw [hcyc, ho.getF_eq (by simp) (by decide), ← hout] at hsent
  have hkey : (challenged slot anchor tid.toNat o).acsKey (tokenLabel tid.toNat) = s.blk.acsKey (tokenLabel tid.toNat) := by
    have hall := (ho.mono (l := []) (m := exchRegs) (qs := [.acs, .ciph]) (by simp) (by simp)).trans
      ((challenged_within slot anchor tid.toNat o).mono (qs := [.acs, .ciph]) (List.Subset.refl _) (by simp))
    simp only [acsKey, acsTag, hall.exch_getF (f := F.ACS_CFG_RKSEL) (n := 0) (by decide) (by decide)]
  rw [hcur]
  simp only [begunExch, Bool.and_eq_true, beq_iff_eq, List.all_eq_true, decide_eq_true_eq, List.contains_iff_mem]
  exact ⟨⟨⟨⟨⟨trivial, randomBytes_length _⟩, fun x hx => randomBytes_lt hx⟩, trivial⟩, by rw [if_pos slot.isLt, hkey]⟩, hsent⟩

theorem completes_udisc {s : State} {slot : Fin 4} {tid : BitVec 64} (hready : s.blk.Ready) (hup : s.blk.acsUp = true)
    (hcur : s.blk.acs.cur = none) (hanswers : s.blk.acs.answers = []) (hkeys : s.blk.acsKeys = true) (hrng : s.blk.rngOn = true)
    (htid : s.blk.tokenTid (60 + slot) = some tid.toNat) :
    Completes (.udisc slot false tid) s fun b =>
      ((match b.acs.cur with
        | some e => e.slot == 60 + slot.val && e.nv.length == 16 && e.nv.all (fun x => decide (x < 256)) &&
            b.out.contains (.lf s.blk.lfMask (s.blk.getF F.ACS_LF_WAKEID 0) (bytesOf ([0x13] ++ beBytes 8 tid.toNat ++ e.nv))) &&
            ((List.range 6).filter (bit s.blk.lfMask)).all (fun k => b.out.contains (.lfBurst k)) &&
            b.out.contains (.uhf (s.blk.getF F.ACS_LF_UHFBAND 0))
        | none => false) = true ∧ b.acs.answers = []) ∧ s.blk.Beside exchRegs [Part.acs, Part.ciph] b := by
  refine completes_begun (n := 60 + slot) (k := 0) (tid := tid.toNat) rfl hready hup hcur hanswers hkeys hrng (by omega) htid
    (by simp) fun b o ho hcyc hcur hanswers hout => ⟨?_, hanswers⟩
  obtain ⟨hlf, hbursts, huhf⟩ := challenged_lf (n := 60 + slot) (by omega) 0 tid.toNat o
  have hexch : s.blk.Within exchRegs [.acs] o := ho.mono (by simp) (List.Subset.refl _)
  rw [hexch.lfMask_eq, hexch.exch_getF (by decide) (by decide), ← hout] at hlf
  rw [hexch.lfMask_eq, ← hout] at hbursts
  rw [hexch.exch_getF (by decide) (by decide), ← hout] at huhf
  rw [hcur]
  simp only [begunExch, Bool.and_eq_true, beq_iff_eq, List.all_eq_true, decide_eq_true_eq, List.contains_iff_mem]
  exact ⟨⟨⟨⟨⟨trivial, randomBytes_length _⟩, fun x hx => randomBytes_lt hx⟩, hlf⟩, hbursts⟩, huhf⟩

end Sys2Proof.Machine
end

section
/-! PROOFS. Responses: the judgement of a proof, a rejection, a valid exchange and the release (O49). -/
namespace Sys2Proof.Machine
namespace Block

section

variable {b : Block} {n zone range tid : Nat} {master : Bool}

/-! ### The parts of a valid exchange (R580, R584, R589) -/

/-- ACS_LAST and the profile of the cycle show the exchange (R580). -/
def shown (n zone range : Nat) (master : Bool) (b : Block) : Block :=
  let b : Block := { b with acs := { b.acs with best := some master } }
  let b := ((b.setF F.ACS_LAST_SLOT 0 n).setF F.ACS_LAST_MASTER 0 (b2n master)).setF F.ACS_LAST_VALID 0 1
  ((b.setF F.ACS_LAST_ZONE 0 zone).setF F.ACS_LAST_RANGE 0 range).wr R.ACS_LASTT 0 (b.pw.rtc % 2 ^ 32)

/-- The registers of the last exchange. -/
def lastRegs : List Nat := [R.ACS_LAST.at 0, R.ACS_LASTT.at 0]

theorem shown_within (b : Block) : b.Within lastRegs [.acs] (b.shown n zone range master) :=
  ((((((acs_within b _ (by simp)).trans (.setF _ F.ACS_LAST_SLOT 0 _ (by decide))).trans (.setF _ F.ACS_LAST_MASTER 0 _ (by decide))).trans
    (.setF _ F.ACS_LAST_VALID 0 _ (by decide))).trans (.setF _ F.ACS_LAST_ZONE 0 _ (by decide))).trans
    (.setF _ F.ACS_LAST_RANGE 0 _ (by decide))).trans (.wr _ R.ACS_LASTT 0 _ (by decide))

theorem shown_acs : (b.shown n zone range master).acs = { b.acs with best := some master } := rfl

theorem getF_wr_other (b : Block) (r : Reg) (f : RegField) (w : Nat) (h : f.reg.at 0 ≠ r.at 0) : (b.wr r 0 w).getF f 0 = b.getF f 0 := by
  rw [getF, rd_wr_ne _ _ _ _ _ _ h, getF]

/-- A write to another field of the register leaves what was read of it. -/
theorem getF_setF_keeps {f g : RegField} {v x : Nat} (h : b.getF g 0 = x) (hreg : g.reg = f.reg := by rfl)
    (hf : f.lo ≤ f.hi := by decide) (hbeside : f.hi < g.lo ∨ g.hi < f.lo := by decide) : (b.setF f 0 v).getF g 0 = x :=
  (getF_setF_beside b f g 0 v hreg hf hbeside).trans h

theorem shown_slot (hn : n < 64) : (b.shown n zone range master).getF F.ACS_LAST_SLOT 0 = n :=
  (getF_wr_other _ _ _ _ (by decide)).trans
    (getF_setF_keeps (getF_setF_keeps (getF_setF_keeps (getF_setF_keeps (getF_setF_lt _ _ _ (by decide) hn)))))

theorem shown_valid : (b.shown n zone range master).getF F.ACS_LAST_VALID 0 = 1 :=
  (getF_wr_other _ _ _ _ (by decide)).trans (getF_setF_keeps (getF_setF_keeps (getF_setF_lt _ _ _ (by decide) (by decide))))

theorem shown_zone (hzone : zone < 16) : (b.shown n zone range master).getF F.ACS_LAST_ZONE 0 = zone :=
  (getF_wr_other _ _ _ _ (by decide)).trans (getF_setF_keeps (getF_setF_lt _ _ _ (by decide) hzone))

/-- A release without its message (R589). -/
theorem release_eq (hquiet : b.flag F.ACS_REL_RELMSG 0 = false) :
    ∃ c : Block, b.release n master = c ∧ b.Within [R.ACS_REL.at 0] [.acs] c ∧
      c.acs = { b.acs with engen := { b.acs.engen with on := true } } ∧ c.getF F.ACS_REL_RELEASED 0 = 1 ∧
      c.getF F.ACS_REL_MASTER 0 = b2n master ∧ (n < 64 → c.getF F.ACS_REL_SLOT 0 = n) := by
  let d := ((b.setF F.ACS_REL_RELEASED 0 1).setF F.ACS_REL_MASTER 0 (b2n master)).setF F.ACS_REL_SLOT 0 n
  have hmsg : d.flag F.ACS_REL_RELMSG 0 = false :=
    (congrArg (· == 1) (getF_setF_keeps (getF_setF_keeps (getF_setF_keeps rfl)))).trans hquiet
  refine ⟨{ d with acs := { d.acs with engen := { d.acs.engen with on := true } } }, if_neg ?_, ?_, rfl, ?_, ?_, fun hn => ?_⟩
  · rw [Bool.and_eq_true_iff]
    exact fun h => Bool.false_ne_true (hmsg.symm.trans h.2)
  · exact (((Within.setF b F.ACS_REL_RELEASED 0 1 (by decide)).trans (.setF _ F.ACS_REL_MASTER 0 _ (by decide))).trans
      (.setF _ F.ACS_REL_SLOT 0 _ (by decide))).trans (acs_within _ _ (by simp))
  · exact getF_setF_keeps (b := (b.setF F.ACS_REL_RELEASED 0 1).setF F.ACS_REL_MASTER 0 (b2n master))
      (getF_setF_keeps (getF_setF_lt _ _ _ (by decide) (by decide)))
  · exact getF_setF_keeps (b := (b.setF F.ACS_REL_RELEASED 0 1).setF F.ACS_REL_MASTER 0 (b2n master))
      (getF_setF_lt _ _ _ (by decide) (by cases master <;> decide))
  · exact getF_setF_lt ((b.setF F.ACS_REL_RELEASED 0 1).setF F.ACS_REL_MASTER 0 (b2n master)) _ _ (by decide) hn

/-- What a valid exchange of a master clears (R584). -/
theorem masterClears_spec (ht : b.Tame) : b.Within [R.ACS_LOCK.at 0, R.ACS_STAT.at 0] [.acs] (b.masterClears n) ∧
    (b.masterClears n).getF F.ACS_STAT_LOCKOUT 0 = 0 ∧ (b.masterClears n).getF F.ACS_LOCK_LEVEL 0 = 0 ∧
    ∃ log, (b.masterClears n).acs = { b.acs with fails := [], log := log } := by
  let d := ((b.setFails []).setF F.ACS_STAT_LOCKOUT 0 0).setF F.ACS_LOCK_LEVEL 0 0
  have hd : b.Within [R.ACS_LOCK.at 0, R.ACS_STAT.at 0] [.acs] d :=
    ((setFails_within _ b (by decide) (by simp)).trans (.setF _ F.ACS_STAT_LOCKOUT 0 0 (by decide))).trans
      (.setF _ F.ACS_LOCK_LEVEL 0 0 (by decide))
  have hlockout : d.getF F.ACS_STAT_LOCKOUT 0 = 0 :=
    (getF_setF_other _ _ _ _ _ _ (by decide)).trans (getF_setF_lt _ _ _ (by decide) (by decide))
  have hlevel : d.getF F.ACS_LOCK_LEVEL 0 = 0 := getF_setF_lt _ _ _ (by decide) (by decide)
  have htame : d.Tame := hd.tame (by decide) ht
  have hlogged : d.Within [] [.acs] (d.acsLog 14 none none none none) := acsLog_within _ _ _ _ _ _ (by simp)
  have htame' := acsLog_tame 14 none none none none htame
  have hstuck : (d.acsLog 14 none none none none).Within [R.ACS_STAT.at 0] []
      ((d.acsLog 14 none none none none).stickD F.ACS_STAT_LOCKX 0 234 (3 + n * 256)) :=
    stickD_stays _ (by decide) (by decide) htame' (by decide)
  have hlockout' : (d.acsLog 14 none none none none).getF F.ACS_STAT_LOCKOUT 0 = 0 := by rw [acsLog_getF, hlockout]
  have hlevel' : (d.acsLog 14 none none none none).getF F.ACS_LOCK_LEVEL 0 = 0 := by rw [acsLog_getF, hlevel]
  unfold masterClears
  dsimp only
  split
  · refine ⟨(hd.trans (hlogged.mono (by simp) (by simp))).trans (hstuck.mono (by simp) (by simp)), ?_, ?_,
      (d.acsLog 14 none none none none).acs.log, ?_⟩
    · exact (stickD_beside (f := F.ACS_STAT_LOCKX) (g := F.ACS_STAT_LOCKOUT) rfl rfl (by decide) htame' (by decide) (by decide)
        (by decide)).trans hlockout'
    · exact (hstuck.getF_eq (by decide) (by decide)).trans hlevel'
    · exact (hstuck.acs_eq (by simp)).trans (acsLog_acs ..)
  · exact ⟨hd, hlockout, hlevel, b.acs.log, rfl⟩

/-! ### A valid exchange -/

/-- Slot n has had a valid exchange less than 60 s ago (R585). -/
def authed (n : Nat) (b : Block) : Block := { b with acs := { b.acs with auth := n :: b.acs.auth.filter fun x => !(x == n) } }

/-- A valid exchange that is the first of its cycle, with no enrolment open (R580, R589). -/
theorem exchValid_eq {c : Block} (henrol : b.acs.enrol = none) (hc : c = if 60 ≤ n then (authed n b).masterClears n else authed n b)
    (hbest : c.acs.best = none) {grant : Bool}
    (hgrant : grant = (decide (60 ≤ n) || (c.flag F.ACS_SLOTF_RELEN n && !c.lockout && !c.flag F.ACS_STAT_OWNLOCK 0))) :
    (b.exchValid n zone range tid).1 =
      if grant then ((c.shown n zone range (decide (60 ≤ n))).acsLog 1 (some n) (some range) (some zone) (some tid)).release n (decide (60 ≤ n))
      else (c.shown n zone range (decide (60 ≤ n))).acsLog 2 (some n) (some range) (some zone) (some tid) := by
  have hdone : b.enrolDone n = b := by
    unfold enrolDone
    rw [henrol]
  have hfirst : (match c.acs.best with | none => true | some m => decide (60 ≤ n) && !m) = true := by rw [hbest]
  have hmaster : c = if decide (60 ≤ n) then (authed n b).masterClears n else authed n b := by
    rw [hc]
    exact if_congr decide_eq_true_iff.symm rfl rfl
  unfold authed at hmaster
  unfold exchValid
  rw [hdone]
  dsimp only
  rw [← hmaster, hbest]
  simp only [Bool.true_and, if_true, ← hgrant]
  cases grant with
  | true =>
    simp only [if_true]
    rfl
  | false =>
    simp only [Bool.false_eq_true, if_false]
    rfl

/-- The registers that a response can change, beside those of the radio. -/
def validRegs : List Nat := [R.ACS_LOCK.at 0, R.ACS_STAT.at 0, R.ACS_REL.at 0] ++ lastRegs

/-- What a valid exchange shows and grants, behind what it clears. -/
structure Validated (n zone : Nat) (master grant : Bool) (c d : Block) : Prop where
  within : c.Within ([R.ACS_REL.at 0] ++ lastRegs) [.acs] d
  answers : d.acs.answers = c.acs.answers
  fails : d.acs.fails = c.acs.fails
  slot : n < 64 → d.getF F.ACS_LAST_SLOT 0 = n
  valid : d.getF F.ACS_LAST_VALID 0 = 1
  zone : zone < 16 → d.getF F.ACS_LAST_ZONE 0 = zone
  granted : grant = true → d.getF F.ACS_REL_RELEASED 0 = 1 ∧ d.acs.engen.on = true ∧ d.getF F.ACS_REL_MASTER 0 = b2n master ∧
    (n < 64 → d.getF F.ACS_REL_SLOT 0 = n)
  kept : grant = false → d.getF F.ACS_REL_RELEASED 0 = c.getF F.ACS_REL_RELEASED 0

theorem validated {c : Block} (grant : Bool) (hquiet : c.flag F.ACS_REL_RELMSG 0 = false) :
    Validated n zone master grant c
      (if grant then ((c.shown n zone range master).acsLog 1 (some n) (some range) (some zone) (some tid)).release n master
      else (c.shown n zone range master).acsLog 2 (some n) (some range) (some zone) (some tid)) := by
  let d := (c.shown n zone range master).acsLog (if grant then 1 else 2) (some n) (some range) (some zone) (some tid)
  have hd : c.Within lastRegs [.acs] d := (shown_within c).trans (acsLog_within _ _ _ _ _ _ (by simp))
  have hshown : ∀ f : RegField, d.getF f 0 = (c.shown n zone range master).getF f 0 := fun f => acsLog_getF _ _ _ _ _ _ f 0
  have hacs : d.acs = { c.acs with best := some master, log := d.acs.log } := acsLog_acs ..
  cases grant with
  | false =>
    exact {
      within := hd.mono (by decide) (List.Subset.refl _)
      answers := by rw [if_neg (by decide)]; exact (congrArg AcsSt.answers hacs).trans rfl
      fails := by rw [if_neg (by decide)]; exact (congrArg AcsSt.fails hacs).trans rfl
      slot := fun hn => (hshown _).trans (shown_slot hn)
      valid := (hshown _).trans shown_valid
      zone := fun hz => (hshown _).trans (shown_zone hz)
      granted := fun h => absurd h (by decide)
      kept := fun _ => hd.getF_eq (by decide) (by decide) }
  | true =>
    obtain ⟨e, he, hw, hacs', hreleased, hmaster, hslot⟩ := release_eq (b := d) (n := n) (master := master)
      (by rw [flag, hd.getF_eq (by decide) (by decide)]; exact hquiet)
    rw [if_pos rfl]
    change Validated n zone master true c (d.release n master)
    rw [he]
    exact {
      within := (hd.mono (by decide) (List.Subset.refl _)).trans (hw.mono (by decide) (List.Subset.refl _))
      answers := by rw [hacs']; exact (congrArg AcsSt.answers hacs).trans rfl
      fails := by rw [hacs']; exact (congrArg AcsSt.fails hacs).trans rfl
      slot := fun hn => (hw.getF_eq (by decide) (by decide)).trans ((hshown _).trans (shown_slot hn))
      valid := (hw.getF_eq (by decide) (by decide)).trans ((hshown _).trans shown_valid)
      zone := fun hz => (hw.getF_eq (by decide) (by decide)).trans ((hshown _).trans (shown_zone hz))
      granted := fun _ => ⟨hreleased, by rw [hacs'], hmaster, hslot⟩
      kept := fun h => absurd h (by decide) }

theorem authed_flag (b : Block) (n : Nat) (f : RegField) (m : Nat) : (authed n b).flag f m = b.flag f m := by
  unfold authed
  rfl

/-- A valid exchange of an operator token (R580, R589). -/
theorem exchValid_operator (hn : n < 60) (henrol : b.acs.enrol = none) (hbest : b.acs.best = none)
    (hquiet : b.flag F.ACS_REL_RELMSG 0 = false) :
    Validated n zone false (b.flag F.ACS_SLOTF_RELEN n && !b.lockout && !b.flag F.ACS_STAT_OWNLOCK 0) (authed n b)
      (b.exchValid n zone range tid).1 := by
  have hclass : decide (60 ≤ n) = false := decide_eq_false (by omega)
  have hgrant : (b.flag F.ACS_SLOTF_RELEN n && !b.lockout && !b.flag F.ACS_STAT_OWNLOCK 0) =
      (decide (60 ≤ n) || ((authed n b).flag F.ACS_SLOTF_RELEN n && !(authed n b).lockout && !(authed n b).flag F.ACS_STAT_OWNLOCK 0)) := by
    rw [hclass, Bool.false_or, lockout, lockout, authed_flag, authed_flag, authed_flag]
  have hrun := exchValid_eq (zone := zone) (range := range) (tid := tid) henrol (if_neg (show ¬ 60 ≤ n by omega)).symm hbest hgrant
  rw [hrun, hclass]
  exact validated _ (by rw [authed_flag]; exact hquiet)

/-- A valid exchange of a master token (R580, R584, R589). -/
theorem exchValid_master (hn : 60 ≤ n) (henrol : b.acs.enrol = none) (hbest : b.acs.best = none)
    (hquiet : b.flag F.ACS_REL_RELMSG 0 = false) (ht : b.Tame) :
    Validated n zone true true ((authed n b).masterClears n) (b.exchValid n zone range tid).1 := by
  have hclass : decide (60 ≤ n) = true := decide_eq_true hn
  have hauthed : b.Within [] [.acs] (authed n b) := acs_within _ _ (by simp)
  obtain ⟨hw, -, -, log, hacs⟩ := masterClears_spec (n := n) (hauthed.tame (by simp) ht)
  have hrun := exchValid_eq (zone := zone) (range := range) (tid := tid) (grant := true) henrol (if_pos hn).symm
    (by rw [hacs]; exact hbest) (by rw [hclass, Bool.true_or])
  rw [hrun, hclass]
  exact validated true (by rw [flag, hw.getF_eq (by decide) (by decide)]; exact hquiet)

end

end Block
end Sys2Proof.Machine
end

section
/-! PROOFS. The responses of tokens, and O49. -/
namespace Sys2Proof.Machine
namespace Block

section

variable {b : Block} {n zone range tid : Nat}

/-! ### The judgement of a response (R575 to R578) -/

/-- A response is judged: by its proof, by its turnaround or its start, by its range or its level, and by its zone. -/
def judged (proof late far outside : Prop) [Decidable proof] [Decidable late] [Decidable far] [Decidable outside] (f : RegField)
    (cause code n range zone tid : Nat) (b : Block) : Block :=
  if ¬ proof then (b.rejected F.ACS_STAT_CRYPTF 1 3 n (some range) (some zone) (some tid)).acsFailure
  else if late then b.rejected f cause code n (some range) (some zone) (some tid)
  else if far then b.rejected F.ACS_STAT_RANGEX 3 5 n (some range) (some zone) (some tid)
  else if outside then b.rejected F.ACS_STAT_RANGEX 3 5 n (some range) (some zone) (some tid)
  else (b.exchValid n zone range tid).1

theorem unitJob_within (b : Block) : b.Within [R.CIPH_CNT.at 0] [] (b.unitJob 0) :=
  .setF b F.CIPH_CNT_JOBCNT 0 _ (by decide)

theorem acsJob_eq (hfault : b.jobFault 0 3 = false) : b.acsJob = (false, b.unitJob 0) := by
  have hjob : (b.unitJob 0).jobFault 0 3 = false := hfault
  rw [acsJob, hjob]
  rfl

section

variable {a : Block} (h : a.Within [R.CIPH_CNT.at 0] [] b)
include h

theorem Within.delay_eq (k : Nat) : b.getF F.ACS_ANC_DELAY k = a.getF F.ACS_ANC_DELAY k := by
  have hat : F.ACS_ANC_DELAY.reg.at k = 0x50040 + k % 6 * 4 := by simp [F.ACS_ANC_DELAY, R.ACS_ANC, Reg.at]
  have hne : F.ACS_ANC_DELAY.reg.at k ≠ R.CIPH_CNT.at 0 := by
    rw [hat, show R.CIPH_CNT.at 0 = 0x48008 from rfl]
    omega
  refine h.getF_eq (by simpa using hne) ?_
  rw [hat]
  simp [recordReg]
  omega

theorem Within.zoneOf_eq (arr : List (Fin 6 × Nat)) : b.zoneOf arr = a.zoneOf arr := by
  simp only [zoneOf, h.delay_eq]

theorem Within.acsKey_eq (label : List Nat) : b.acsKey label = a.acsKey label := by
  simp only [acsKey, acsTag, h.getF_eq (f := F.ACS_CFG_RKSEL) (n := 0) (by decide) (by decide)]

end

/-- The proof of a response holds (R569). -/
abbrev Proven (b : Block) (e : AcsExch) (tid nt pt : Nat) (mea : List Nat) : Prop :=
  proofT (sessionKey (b.acsKey (tokenLabel tid)) e.nv (beBytes 16 nt)) tid e.nv (beBytes 16 nt) mea = beBytes 8 pt

/-- The STS of a response or its turnaround shows a relay (R576). -/
abbrev Relayed (b : Block) (e : AcsExch) (seen : StsSeen) (trep : Nat) (eps : Int) : Prop :=
  (if ofBe e.sts = seen.key.toNat then seen.quality else 0) < b.getF F.ACS_UWB_STSQ 0 ∨
    uwb10ns < turnaround trep eps - uwb500us ∨ turnaround trep eps - uwb500us < -uwb10ns

/-- Twice the time of flight of a response (R576). -/
abbrev flightOf (b : Block) (e : AcsExch) (tround trep : Nat) (eps : Int) : Int :=
  twoTof tround (b.getF F.ACS_ANC_DELAY e.anchor) trep eps

/-- The token is beyond RMAX (R577). -/
abbrev TooFar (b : Block) (e : AcsExch) (tround trep : Nat) (eps : Int) : Prop :=
  (b.getF F.ACS_UWB_RMAX 0 : Int) * 10 * rangeDen < rangeUnits (flightOf b e tround trep eps)

/-- The zone of a response is none that releases (R577). -/
abbrev OutsideZones (b : Block) (e : AcsExch) (arr : List (Fin 6 × Nat)) : Prop :=
  bit (b.getF F.ACS_REL_UAZ 0) ((b.zoneOf arr).getD e.anchor) = false

theorem resp_eq {e : AcsExch} {nt trep pt : Nat} {eps : Int} {tround : Nat} {seen : StsSeen} {arr : List (Fin 6 × Nat)}
    (hup : b.acsUp = true) (hcur : b.acs.cur = some e) (hn : e.slot < 60) (htid : b.tokenTid e.slot = some tid)
    (htested : b.acsTested = true) (hfault : b.jobFault 0 3 = false) :
    ∃ o, b.resp tid nt trep pt eps tround seen arr = ((b.unitJob 0).judged (b.Proven e tid nt pt (beBytes 5 trep))
      (b.Relayed e seen trep eps) (b.TooFar e tround trep eps) (b.OutsideZones e arr) F.ACS_STAT_RELAYX 2 4 e.slot
      (rangeCm (b.flightOf e tround trep eps)) ((b.zoneOf arr).getD e.anchor) tid).confirmed 6 o := by
  have hgo : (!b.acsUp || !(decide (e.slot < 60)) || !(b.tokenTid e.slot == some tid)) = false := by simp [hup, hn, htid]
  have hjob := unitJob_within b
  unfold resp
  rw [hcur]
  dsimp only
  rw [hgo, htested, acsJob_eq hfault]
  simp only [hjob.delay_eq, hjob.zoneOf_eq, hjob.acsKey_eq, hjob.getF_eq (f := F.ACS_UWB_STSQ) (n := 0) (by decide) (by decide),
    hjob.getF_eq (f := F.ACS_UWB_RMAX) (n := 0) (by decide) (by decide), hjob.getF_eq (f := F.ACS_REL_UAZ) (n := 0) (by decide) (by decide),
    Bool.not_true, Bool.false_eq_true, if_false]
  refine ⟨_, congrArg (fun d => ((islandRestart 6 d).send _).exchNext.radioRest) ?_⟩
  simp only [apply_ite Prod.fst]
  exact if_congr (by simp) rfl (if_congr (by simp) rfl (if_congr Iff.rfl rfl (if_congr (by simp) rfl rfl)))

theorem uresp_eq {e : AcsExch} {nt rssi pt start top ant : Nat} (hup : b.acsUp = true) (hcur : b.acs.cur = some e)
    (hn : 60 ≤ e.slot) (htid : b.tokenTid e.slot = some tid) (htested : b.acsTested = true) (hfault : b.jobFault 0 3 = false)
    (htop : (beBytes 6 rssi).foldl max 0 = top) (hant : ((beBytes 6 rssi).findIdx? fun x => x == top).getD 0 = ant) :
    ∃ o, b.uresp tid nt rssi pt start = ((b.unitJob 0).judged (b.Proven e tid nt pt (beBytes 6 rssi))
      (start < 78000 ∨ 82000 < start) (top < b.getF F.ACS_LF_LFMIN 0) (bit (b.getF F.ACS_REL_LFZ 0) ant = false)
      F.ACS_STAT_LFWINX 4 6 e.slot 0 (8 + ant) tid).confirmed 7 o := by
  have hgo : (!b.acsUp || decide (e.slot < 60) || !(b.tokenTid e.slot == some tid)) = false := by
    simp [hup, htid, Nat.not_lt.mpr hn]
  have hjob := unitJob_within b
  unfold uresp
  rw [hcur]
  dsimp only
  rw [hgo, htested, acsJob_eq hfault]
  simp only [htop, hant, hjob.acsKey_eq, hjob.getF_eq (f := F.ACS_LF_LFMIN) (n := 0) (by decide) (by decide),
    hjob.getF_eq (f := F.ACS_REL_LFZ) (n := 0) (by decide) (by decide), Bool.not_true, Bool.false_eq_true, if_false]
  refine ⟨_, congrArg (fun d => ((islandRestart 7 d).send _).exchNext.radioRest) ?_⟩
  simp only [apply_ite Prod.fst]
  exact if_congr (by simp) rfl (if_congr Iff.rfl rfl (if_congr Iff.rfl rfl (if_congr (by simp) rfl rfl)))

/-- Block d follows a rejection of b that set the bit f. -/
structure Rejected (f : RegField) (b d : Block) : Prop where
  within : b.Within validRegs [.acs] d
  answers : d.acs.answers = b.acs.answers
  bit : d.getF f 0 = 1
  released : d.getF F.ACS_REL_RELEASED 0 = b.getF F.ACS_REL_RELEASED 0

theorem rejected_of {f : RegField} {cause code : Nat} {range zone tid : Option Nat} (ht : b.Tame) (hreg : f.reg = R.ACS_STAT)
    (hbit : f.hi = f.lo) : Rejected f b (b.rejected f cause code n range zone tid) ∧
      (b.rejected f cause code n range zone tid).acs.fails = b.acs.fails := by
  obtain ⟨hset, hacs⟩ := rejected_spec (cause := cause) (code := code) (s := n) (range := range) (zone := zone) (tid := tid) ht hreg hbit
  have hw : b.Within [R.ACS_STAT.at 0] [.acs] (b.rejected f cause code n range zone tid) :=
    rejected_stays b (by simp [hreg]) (by simp) ht (by decide)
  refine ⟨⟨hw.mono (by decide) (by simp), ?_, hset, hw.getF_eq (by decide) (by decide)⟩, ?_⟩
  · rw [hacs, acsLog_acs]
  · rw [hacs, acsLog_acs]

/-- A response without its proof is a failure, too (R582). -/
theorem rejected_failure {range zone tid : Option Nat} (ht : b.Tame) (hfew : b.acs.fails.length < 4) :
    Rejected F.ACS_STAT_CRYPTF b (b.rejected F.ACS_STAT_CRYPTF 1 3 n range zone tid).acsFailure ∧
      (b.rejected F.ACS_STAT_CRYPTF 1 3 n range zone tid).acsFailure.acs.fails =
        (b.acs.fails.filter fun t => decide (b.pw.rtc - t ≤ 600 * 32768)) ++ [b.pw.rtc] := by
  obtain ⟨⟨hw, hanswers, hbit, hreleased⟩, hfails⟩ := rejected_of (n := n) (f := F.ACS_STAT_CRYPTF) (cause := 1) (code := 3)
    (range := range) (zone := zone) (tid := tid) ht rfl rfl
  have hpw := hw.pw_eq (by simp)
  rw [acsFailure_eq (by rw [hfails]; exact hfew), hfails, hpw]
  have hset : ∀ x c : _, Block.Within [R.ACS_LOCK.at 0] [.acs] c (c.setFails x) := fun x c => setFails_within x c (by simp) (by simp)
  refine ⟨⟨hw.trans ((hset _ _).mono (by decide) (by simp)), hanswers, ?_, ?_⟩, rfl⟩
  · exact ((hset _ _).getF_eq (by decide) (by decide)).trans hbit
  · exact ((hset _ _).getF_eq (by decide) (by decide)).trans hreleased

end

end Block

open Block

/-- The registers and parts of a response. -/
def responseRegs : List Nat :=
  offsOf (Regs.cipher ++ Regs.answers ++ [R.ACS_LAST, R.ACS_LASTT, R.ACS_LOCK, R.ACS_REL, R.ACS_RELCNT, R.ACS_SLOTF, R.ACS_SLOTH,
    R.ACS_SLOTL, R.ACS_STAT, R.CDC_ISTAT, R.CIPH_LOAD])
def responseParts : List Part := [Part.acs, Part.net] ++ Part.buses ++ Part.answers

/-- What the end of a response leaves of its judgement d. -/
structure Ended (d b : Block) : Prop where
  acs : b.acs = { d.acs with answers := [], cur := none }
  field : ∀ f : RegField, f.reg.at 0 ∉ radioRegs → recordReg (f.reg.at 0) = false → b.getF f 0 = d.getF f 0

/-- A response completes with what its judgement d shows. -/
theorem completes_response {c : Instr} {s : State} {f : Block → Block} {d : Block} {i : Nat} {o : Out} {E : Block → Prop}
    (hexec : exec c s = s.act f) (hready : s.blk.Ready) (hrun : f s.blk = d.confirmed i o) (hi : R.CDC_ISTAT.at i ∈ radioRegs)
    (hw : s.blk.Within (R.CIPH_CNT.at 0 :: validRegs) [.acs] d) (hanswers : d.acs.answers = []) (hE : ∀ b, Ended d b → E b) :
    Completes c s fun b => E b ∧ s.blk.Beside responseRegs responseParts b := by
  obtain ⟨hend, hacs⟩ := confirmed_spec o hi hanswers
  have hall : s.blk.Within (R.CIPH_CNT.at 0 :: validRegs ++ radioRegs) [.acs] (f s.blk) :=
    hrun ▸ (hw.mono (by simp) (by simp)).trans (hend.mono (by simp) (by simp))
  refine completes_of_within hexec hready hall (by decide) (by decide) ⟨hE _ ⟨hrun ▸ hacs, fun g hg hr => ?_⟩, ?_⟩
  · rw [hrun]
    exact hend.getF_eq hg hr
  · exact (hall.mono (by decide) (by simp [responseParts])).beside

theorem Ended.cur {d b : Block} (h : Ended d b) : b.acs.cur = none := congrArg AcsSt.cur h.acs

theorem Ended.fails {d b : Block} (h : Ended d b) : b.acs.fails = d.acs.fails := by rw [h.acs]

theorem Ended.stat {d b : Block} (h : Ended d b) {f : RegField} (hf : f.reg = R.ACS_STAT) : b.getF f 0 = d.getF f 0 :=
  h.field f (by rw [hf]; decide) (by rw [hf]; decide)

/-- What a rejection that set the bit f leaves: the failures, the release, and no exchange. -/
def RejectedWith (f : RegField) (fails : List Nat) (a b : Block) : Prop :=
  b.getF f 0 = 1 ∧ b.acs.fails = fails ∧ b.getF F.ACS_REL_RELEASED 0 = a.getF F.ACS_REL_RELEASED 0 ∧ b.acs.cur = none

/-- What a judgement shows: the first case that applies rejects the response, and a valid one shows V. -/
def JudgedAs (proof late far outside : Prop) (f : RegField) (V : Block → Prop) (a b : Block) : Prop :=
  b.acs.cur = none ∧
    (¬ proof → RejectedWith F.ACS_STAT_CRYPTF ((a.acs.fails.filter fun t => decide (a.pw.rtc - t ≤ 600 * 32768)) ++ [a.pw.rtc]) a b) ∧
    (proof → late → RejectedWith f a.acs.fails a b) ∧
    (proof → ¬ late → far ∨ outside → RejectedWith F.ACS_STAT_RANGEX a.acs.fails a b) ∧
    (proof → ¬ late → ¬ far → ¬ outside → V b)

section

variable {c : Instr} {s : State} {g : Block → Block} {f : RegField} {i cause code n range zone tid : Nat} {o : Out}
  {proof late far outside : Prop} [Decidable proof] [Decidable late] [Decidable far] [Decidable outside] {V : Block → Prop}

theorem completes_rejection {d : Block} {fails : List Nat} (hexec : exec c s = s.act g) (hready : s.blk.Ready)
    (hrun : g s.blk = d.confirmed i o) (hi : R.CDC_ISTAT.at i ∈ radioRegs) (hanswers : s.blk.acs.answers = [])
    (hreg : f.reg = R.ACS_STAT) (hd : Rejected f (s.blk.unitJob 0) d) (hfails : d.acs.fails = fails) :
    Completes c s fun b => RejectedWith f fails s.blk b ∧ s.blk.Beside responseRegs responseParts b := by
  obtain ⟨hw, hkept, hbit, hreleased⟩ := hd
  have hjob := unitJob_within s.blk
  refine completes_response hexec hready hrun hi ((hjob.mono (by simp) (by simp)).trans (hw.mono (by simp) (by simp)))
    (hkept.trans hanswers) fun b hend => ⟨(hend.stat hreg).trans hbit, hend.fails.trans hfails, ?_, hend.cur⟩
  exact (hend.field F.ACS_REL_RELEASED (by decide) (by decide)).trans
    (hreleased.trans (hjob.getF_eq (by decide) (by decide)))

/-- A response that is judged: the first case that applies rejects it, and a valid one shows V. -/
theorem completes_judged (hexec : exec c s = s.act g) (hready : s.blk.Ready)
    (hrun : g s.blk = ((s.blk.unitJob 0).judged proof late far outside f cause code n range zone tid).confirmed i o)
    (hi : R.CDC_ISTAT.at i ∈ radioRegs) (hreg : f.reg = R.ACS_STAT) (hbit : f.hi = f.lo) (hanswers : s.blk.acs.answers = [])
    (hfew : s.blk.acs.fails.length < 4)
    (hvalid : (s.blk.unitJob 0).Within validRegs [.acs] ((s.blk.unitJob 0).exchValid n zone range tid).1)
    (hkept : ((s.blk.unitJob 0).exchValid n zone range tid).1.acs.answers = s.blk.acs.answers)
    (hV : ∀ b, Ended ((s.blk.unitJob 0).exchValid n zone range tid).1 b → V b) :
    Completes c s fun b => JudgedAs proof late far outside f V s.blk b ∧ s.blk.Beside responseRegs responseParts b := by
  have hjob := unitJob_within s.blk
  have ht : (s.blk.unitJob 0).Tame := hjob.tame (by decide) hready.2.1
  by_cases hproof : proof
  case neg =>
    obtain ⟨hd, hfails⟩ := rejected_failure (n := n) (range := some range) (zone := some zone) (tid := some tid) ht hfew
    rw [judged, if_pos hproof] at hrun
    refine (completes_rejection hexec hready hrun hi hanswers rfl hd hfails).mono fun b ⟨hrejected, hbeside⟩ =>
      ⟨⟨hrejected.2.2.2, fun _ => hrejected, fun h => absurd h hproof, fun h => absurd h hproof, fun h => absurd h hproof⟩, hbeside⟩
  rw [judged, if_neg (not_not_intro hproof)] at hrun
  by_cases hlate : late
  case pos =>
    obtain ⟨hd, hfails⟩ := rejected_of (n := n) (f := f) (cause := cause) (code := code) (range := some range) (zone := some zone)
      (tid := some tid) ht hreg hbit
    rw [if_pos hlate] at hrun
    refine (completes_rejection hexec hready hrun hi hanswers hreg hd hfails).mono fun b ⟨hrejected, hbeside⟩ =>
      ⟨⟨hrejected.2.2.2, fun h => absurd hproof h, fun _ _ => hrejected, fun _ h => absurd hlate h, fun _ h => absurd hlate h⟩, hbeside⟩
  rw [if_neg hlate] at hrun
  by_cases hrange : far ∨ outside
  case pos =>
    obtain ⟨hd, hfails⟩ := rejected_of (n := n) (f := F.ACS_STAT_RANGEX) (cause := 3) (code := 5) (range := some range)
      (zone := some zone) (tid := some tid) ht rfl rfl
    have hreject : g s.blk =
        ((s.blk.unitJob 0).rejected F.ACS_STAT_RANGEX 3 5 n (some range) (some zone) (some tid)).confirmed i o := by
      rw [hrun]
      congr 1
      rcases hrange with h | h
      · exact if_pos h
      · exact (congrArg _ (if_pos h)).trans (ite_self _)
    refine (completes_rejection hexec hready hreject hi hanswers rfl hd hfails).mono fun b ⟨hrejected, hbeside⟩ =>
      ⟨⟨hrejected.2.2.2, fun h => absurd hproof h, fun _ h => absurd h hlate, fun _ _ _ => hrejected,
        fun _ _ hfar hout => absurd hrange (not_or.mpr ⟨hfar, hout⟩)⟩, hbeside⟩
  case neg =>
    obtain ⟨hfar, hout⟩ := not_or.mp hrange
    rw [if_neg hfar, if_neg hout] at hrun
    refine completes_response hexec hready hrun hi ((hjob.mono (by simp) (by simp)).trans (hvalid.mono (by simp) (by simp)))
      (hkept.trans hanswers) fun b hend => ⟨hend.cur, fun h => absurd hproof h, fun _ h => absurd h hlate,
        fun _ _ h => absurd h hrange, fun _ _ _ _ => hV b hend⟩

end

/-! ### Operators and masters -/

section

variable {s : State} {e : AcsExch} {tid : BitVec 64} {nt : BitVec 128} {pt : BitVec 64}

/-- What a valid exchange of an operator shows (R580, R589). -/
def OperatorValid (e : AcsExch) (a b : Block) : Prop :=
  b.getF F.ACS_LAST_SLOT 0 = e.slot ∧ b.getF F.ACS_LAST_VALID 0 = 1 ∧ b.acs.fails = a.acs.fails ∧
    (a.flag F.ACS_SLOTF_RELEN e.slot = true ∧ a.lockout = false ∧ a.flag F.ACS_STAT_OWNLOCK 0 = false →
      b.getF F.ACS_REL_RELEASED 0 = 1 ∧ b.acs.engen.on = true ∧ b.getF F.ACS_REL_SLOT 0 = e.slot ∧ b.getF F.ACS_REL_MASTER 0 = 0) ∧
    (¬ (a.flag F.ACS_SLOTF_RELEN e.slot = true ∧ a.lockout = false ∧ a.flag F.ACS_STAT_OWNLOCK 0 = false) →
      b.getF F.ACS_REL_RELEASED 0 = a.getF F.ACS_REL_RELEASED 0 ∧ b.acs.cur = none)

theorem Block.Within.relen_eq {a b : Block} (h : a.Within [R.CIPH_CNT.at 0] [] b) (n : Nat) :
    b.flag F.ACS_SLOTF_RELEN n = a.flag F.ACS_SLOTF_RELEN n := by
  have hat : F.ACS_SLOTF_RELEN.reg.at n = 0x50108 + n % 64 * 16 := by simp [F.ACS_SLOTF_RELEN, R.ACS_SLOTF, Reg.at]
  have hne : F.ACS_SLOTF_RELEN.reg.at n ≠ R.CIPH_CNT.at 0 := by
    rw [hat, show R.CIPH_CNT.at 0 = 0x48008 from rfl]
    omega
  rw [flag, flag, h.getF_eq (by simpa using hne) ?_]
  rw [hat]
  simp [recordReg]
  omega

/-- RESP (R575 to R577). -/
theorem completes_resp {trep : BitVec 40} {eps : Int} {tround : Nat} {seen : StsSeen} {arr : List (Fin 6 × Nat)}
    (hready : s.blk.Ready) (hup : s.blk.acsUp = true) (htested : s.blk.acsTested = true) (hfault : s.blk.jobFault 0 3 = false)
    (hcur : s.blk.acs.cur = some e) (hanswers : s.blk.acs.answers = []) (hn : e.slot < 60)
    (htid : s.blk.tokenTid e.slot = some tid.toNat) (hfew : s.blk.acs.fails.length < 4) (hbest : s.blk.acs.best = none)
    (henrol : s.blk.acs.enrol = none) (hquiet : s.blk.flag F.ACS_REL_RELMSG 0 = false) :
    Completes (.resp tid nt trep pt eps tround seen arr) s fun b =>
      JudgedAs (s.blk.Proven e tid.toNat nt.toNat pt.toNat (beBytes 5 trep.toNat)) (s.blk.Relayed e seen trep.toNat eps)
        (s.blk.TooFar e tround trep.toNat eps) (s.blk.OutsideZones e arr) F.ACS_STAT_RELAYX (OperatorValid e s.blk) s.blk b ∧
      s.blk.Beside responseRegs responseParts b := by
  obtain ⟨o, hrun⟩ := resp_eq (nt := nt.toNat) (trep := trep.toNat) (pt := pt.toNat) (eps := eps) (tround := tround) (seen := seen)
    (arr := arr) hup hcur hn htid htested hfault
  have hjob := unitJob_within s.blk
  have hflags : ((s.blk.unitJob 0).flag F.ACS_SLOTF_RELEN e.slot && !(s.blk.unitJob 0).lockout && !(s.blk.unitJob 0).flag F.ACS_STAT_OWNLOCK 0) =
      (s.blk.flag F.ACS_SLOTF_RELEN e.slot && !s.blk.lockout && !s.blk.flag F.ACS_STAT_OWNLOCK 0) := by
    rw [hjob.relen_eq]
    simp only [lockout, flag, hjob.getF_eq (f := F.ACS_STAT_LOCKOUT) (n := 0) (by decide) (by decide),
      hjob.getF_eq (f := F.ACS_STAT_OWNLOCK) (n := 0) (by decide) (by decide)]
  have hauthed : (s.blk.unitJob 0).Within [] [.acs] (authed e.slot (s.blk.unitJob 0)) := acs_within _ _ (by simp)
  have hreleased : (authed e.slot (s.blk.unitJob 0)).getF F.ACS_REL_RELEASED 0 = s.blk.getF F.ACS_REL_RELEASED 0 :=
    (hauthed.getF_eq (by simp) (by decide)).trans (hjob.getF_eq (by decide) (by decide))
  have hvalid := exchValid_operator (zone := (s.blk.zoneOf arr).getD e.anchor) (tid := tid.toNat)
    (range := rangeCm (s.blk.flightOf e tround trep.toNat eps)) (b := s.blk.unitJob 0) hn henrol hbest
    (by rw [flag, hjob.getF_eq (by decide) (by decide)]; exact hquiet)
  rw [hflags] at hvalid
  refine completes_judged rfl hready hrun (by decide) rfl rfl hanswers hfew ((hauthed.mono (by simp) (by simp)).trans (hvalid.within.mono (by decide) (by simp)))
    hvalid.answers fun b hend => ⟨?_, ?_, ?_, fun hgrant => ?_, fun hgrant => ⟨?_, hend.cur⟩⟩
  · exact (hend.field F.ACS_LAST_SLOT (by decide) (by decide)).trans (hvalid.slot (by omega))
  · exact (hend.field F.ACS_LAST_VALID (by decide) (by decide)).trans hvalid.valid
  · exact hend.fails.trans hvalid.fails
  · obtain ⟨hreleased, hon, hmaster, hslot⟩ := hvalid.granted (by obtain ⟨h1, h2, h3⟩ := hgrant; rw [h1, h2, h3]; rfl)
    refine ⟨(hend.field F.ACS_REL_RELEASED (by decide) (by decide)).trans hreleased, by rw [hend.acs]; exact hon,
      (hend.field F.ACS_REL_SLOT (by decide) (by decide)).trans (hslot (by omega)),
      (hend.field F.ACS_REL_MASTER (by decide) (by decide)).trans hmaster⟩
  · have hrefused : (s.blk.flag F.ACS_SLOTF_RELEN e.slot && !s.blk.lockout && !s.blk.flag F.ACS_STAT_OWNLOCK 0) = false := by
      rw [Bool.eq_false_iff]
      exact fun h => hgrant (by simpa [and_assoc] using h)
    exact (hend.field F.ACS_REL_RELEASED (by decide) (by decide)).trans ((hvalid.kept hrefused).trans hreleased)

/-- What a valid exchange of a master shows (R580, R584, R589). -/
def MasterValid (e : AcsExch) (ant : Nat) (b : Block) : Prop :=
  b.getF F.ACS_REL_RELEASED 0 = 1 ∧ b.acs.engen.on = true ∧ b.getF F.ACS_REL_SLOT 0 = e.slot ∧ b.getF F.ACS_REL_MASTER 0 = 1 ∧
    b.getF F.ACS_LAST_ZONE 0 = 8 + ant ∧ b.acs.fails = [] ∧ b.getF F.ACS_STAT_LOCKOUT 0 = 0 ∧ b.getF F.ACS_LOCK_LEVEL 0 = 0

/-- URESP (R578). -/
theorem completes_uresp {rssi : BitVec 48} {start top ant : Nat} (hready : s.blk.Ready) (hup : s.blk.acsUp = true)
    (htested : s.blk.acsTested = true) (hfault : s.blk.jobFault 0 3 = false) (hcur : s.blk.acs.cur = some e)
    (hanswers : s.blk.acs.answers = []) (hn : 60 ≤ e.slot) (hlt : e.slot < 64) (htid : s.blk.tokenTid e.slot = some tid.toNat)
    (hfew : s.blk.acs.fails.length < 4) (hbest : s.blk.acs.best = none) (henrol : s.blk.acs.enrol = none)
    (hquiet : s.blk.flag F.ACS_REL_RELMSG 0 = false) (htop : (beBytes 6 rssi.toNat).foldl max 0 = top)
    (hant : ((beBytes 6 rssi.toNat).findIdx? fun x => x == top).getD 0 = ant) :
    Completes (.uresp tid nt rssi pt start) s fun b =>
      JudgedAs (s.blk.Proven e tid.toNat nt.toNat pt.toNat (beBytes 6 rssi.toNat)) (start < 78000 ∨ 82000 < start)
        (top < s.blk.getF F.ACS_LF_LFMIN 0) (bit (s.blk.getF F.ACS_REL_LFZ 0) ant = false) F.ACS_STAT_LFWINX (MasterValid e ant)
        s.blk b ∧ s.blk.Beside responseRegs responseParts b := by
  obtain ⟨o, hrun⟩ := uresp_eq (nt := nt.toNat) (pt := pt.toNat) (start := start) hup hcur hn htid htested hfault htop hant
  have hjob := unitJob_within s.blk
  have ht : (s.blk.unitJob 0).Tame := hjob.tame (by decide) hready.2.1
  have hauthed : (s.blk.unitJob 0).Within [] [.acs] (authed e.slot (s.blk.unitJob 0)) := acs_within _ _ (by simp)
  obtain ⟨hclears, hlockout, hlevel, log, hacs⟩ := masterClears_spec (n := e.slot) (hauthed.tame (by simp) ht)
  have hvalid := exchValid_master (zone := 8 + ant) (range := 0) (tid := tid.toNat) (b := s.blk.unitJob 0) hn henrol hbest
    (by rw [flag, hjob.getF_eq (by decide) (by decide)]; exact hquiet) ht
  obtain ⟨hreleased, hon, hmaster, hslot⟩ := hvalid.granted rfl
  have hantLt : ant < 6 := by
    rw [← hant]
    cases hfind : (beBytes 6 rssi.toNat).findIdx? fun x => x == top with
    | none => decide
    | some i =>
      obtain ⟨hi, -⟩ := List.findIdx?_eq_some_iff_findIdx_eq.mp hfind
      rwa [beBytes_length] at hi
  have hkept : ((authed e.slot (s.blk.unitJob 0)).masterClears e.slot).acs.answers = s.blk.acs.answers := by rw [hacs]; rfl
  refine completes_judged rfl hready hrun (by decide) rfl rfl hanswers hfew
    (((hauthed.mono (by simp) (by simp)).trans (hclears.mono (by decide) (by simp))).trans (hvalid.within.mono (by decide) (by simp)))
    (hvalid.answers.trans hkept) fun b hend => ⟨?_, by rw [hend.acs]; exact hon, ?_, ?_, ?_, ?_, ?_, ?_⟩
  · exact (hend.field F.ACS_REL_RELEASED (by decide) (by decide)).trans hreleased
  · exact (hend.field F.ACS_REL_SLOT (by decide) (by decide)).trans (hslot hlt)
  · exact (hend.field F.ACS_REL_MASTER (by decide) (by decide)).trans hmaster
  · exact (hend.field F.ACS_LAST_ZONE (by decide) (by decide)).trans (hvalid.zone (by omega))
  · rw [hend.fails, hvalid.fails, hacs]
  · exact (hend.stat rfl).trans ((hvalid.within.getF_eq (by decide) (by decide)).trans hlockout)
  · exact (hend.field F.ACS_LOCK_LEVEL (by decide) (by decide)).trans ((hvalid.within.getF_eq (by decide) (by decide)).trans hlevel)

end

/-- Settles O49: a cycle polls from its place; an answer waits, is refused or starts an exchange with a key, a nonce and a
challenge; a response is judged by the first case that applies, and each case shows its bit, its failures and its release. -/
theorem accessExchanges : Obligations.AccessExchanges := by
  unfold Obligations.AccessExchanges
  refine ⟨fun s who hr hwrite hroot hrel => ?enable, fun s who hr hwrite hroot => ?refused,
    fun s hr hup hcur hanswers => ?cycle, fun s slot tid anchor hr hup => ?void,
    fun s slot tid anchor hr hup hknown => ?unknown, fun s slot tid anchor e hr hup htid hcur => ?queued,
    fun s slot tid anchor hr hup hcur hanswers hkeys hrng htid hlockout => ?begun,
    fun s slot tid hr hup hcur hanswers hkeys hrng htid => ?ubegun, fun s slot tid hr hup => ?uvoid,
    fun s slot tid e hr hup htid hcur => ?uqueued,
    fun s e tid nt trep pt eps tround seen arr hr hup htested hfault hcur hanswers hn htid hfew hbest henrol hquiet => ?resp,
    fun s e tid nt rssi pt start hr hup htested hfault hcur hanswers hn hlt htid hfew hbest henrol hquiet => ?uresp,
    fun s e hr hcur hanswers => ?timeout⟩
  case enable => exact completes_accessEnable hr hwrite hroot hrel
  case refused => exact completes_accessEnable_refused hr hwrite hroot
  case cycle => exact completes_accessCycle hr hup hcur hanswers
  case void => exact completes_void rfl hr hup
  case unknown => exact completes_unknown rfl hr hup hknown
  case queued => exact completes_queued rfl hr hup (by omega) htid hcur
  case begun => exact completes_disc hr hup hcur hanswers hkeys hrng htid hlockout
  case ubegun => exact completes_udisc hr hup hcur hanswers hkeys hrng htid
  case uvoid =>
    exact (completes_void rfl hr hup).mono fun b ⟨hset, hkept, _, _, hbeside⟩ => ⟨hset, hkept, hbeside⟩
  case uqueued => exact completes_queued rfl hr hup (by omega) htid hcur
  case resp =>
    refine (completes_resp hr hup htested hfault hcur hanswers hn htid hfew hbest henrol hquiet).mono
      fun b ⟨⟨hend, hproof, hlate, hrange, hvalid⟩, hbeside⟩ => ⟨⟨hend, hproof, hlate, hrange, fun h1 h2 h3 h4 => ?_⟩, hbeside⟩
    exact hvalid h1 h2 h3 fun h : bit _ _ = false => Bool.false_ne_true (h.symm.trans h4)
  case uresp =>
    refine (completes_uresp hr hup htested hfault hcur hanswers hn hlt htid hfew hbest henrol hquiet rfl rfl).mono
      fun b ⟨⟨hend, hproof, hlate, hrange, hvalid⟩, hbeside⟩ => ⟨⟨hend, hproof, hlate, hrange, fun h1 h2 h3 h4 => ?_⟩, hbeside⟩
    exact hvalid h1 h2 h3 fun h : bit _ _ = false => Bool.false_ne_true (h.symm.trans h4)
  case timeout => exact completes_responseTimeout hr hcur hanswers

end Sys2Proof.Machine
end

section
/-! PROOFS. A SoC reset in progress: what its cause bit and the reset itself outlast (R9 to R11, R93), the layer under the
resets of O52. -/
namespace Sys2Proof.Machine

theorem Tab.get_drop_keep {α : Type} (d : α) (t : Tab α) {p : Nat → Bool} {n : Nat} (h : p n = false) :
    Tab.get d (Tab.drop t p) n = Tab.get d t n := by
  induction t with
  | nil => rfl
  | cons e t ih =>
    obtain ⟨k, v⟩ := e
    by_cases hk : k = n
    · subst hk
      simp [Tab.drop, Tab.get, h]
    · cases hp : p k with
      | true =>
        have hrest : Tab.get d (Tab.drop t p) n = Tab.get d t n := ih
        simpa [Tab.drop, Tab.get, hp, hk] using hrest
      | false =>
        have hrest : Tab.get d (Tab.drop t p) n = Tab.get d t n := ih
        simpa [Tab.drop, Tab.get, hp, hk] using hrest

/-- The register lies past PWR_RSTCAUSE. -/
def Reg.pastCause (r : Reg) : Bool := decide (R.PWR_RSTCAUSE.base < r.base)

namespace Block

/-- A SoC reset is in progress, and cause bit i of PWR_RSTCAUSE is set (R93). -/
def InSoc (i : Nat) (b : Block) : Prop := bit (b.rd R.PWR_RSTCAUSE 0) i = true ∧ b.pw.inReset = .soc

namespace InSoc

variable {i n v p k : Nat} {b c : Block} {f : RegField} {r : Reg}

/-! ### Registers -/

theorem wr_ne (h : b.InSoc i) (hr : R.PWR_RSTCAUSE.at 0 ≠ r.at n) : (b.wr r n v).InSoc i := by
  refine ⟨?_, h.2⟩
  rw [rd_wr_ne _ _ _ _ _ _ hr]
  exact h.1

theorem wr (h : b.InSoc i) (hr : r.pastCause = true) : (b.wr r n v).InSoc i :=
  h.wr_ne (by
    have hbase : R.PWR_RSTCAUSE.at 0 = R.PWR_RSTCAUSE.base := by decide
    have hpast := of_decide_eq_true hr
    rw [hbase, Reg.at]
    omega)

theorem setF_ne (h : b.InSoc i) (hr : R.PWR_RSTCAUSE.at 0 ≠ f.reg.at n) : (b.setF f n v).InSoc i := h.wr_ne hr

theorem setF (h : b.InSoc i) (hr : f.reg.pastCause = true) : (b.setF f n v).InSoc i := h.wr hr

theorem satF (h : b.InSoc i) (hr : f.reg.pastCause = true) : (b.satF f n v).InSoc i := h.wr hr

theorem dropRegs {t : Nat → Bool} (h : b.InSoc i) (ht : t (R.PWR_RSTCAUSE.at 0) = false) :
    ({ b with regs := Tab.drop b.regs t } : Block).InSoc i := by
  refine ⟨?_, h.2⟩
  rw [rd, Tab.get_drop_keep _ _ ht]
  exact h.1

theorem resetRegs {lo hi : Nat} (h : b.InSoc i) (hlo : decide (R.PWR_RSTCAUSE.at 0 < lo) = true) : (b.resetRegs lo hi).InSoc i :=
  have hpast := of_decide_eq_true hlo
  h.dropRegs (decide_eq_false fun hin => by omega)

theorem resetReg (h : b.InSoc i)
    (hr : ((List.range r.count).any fun n => R.PWR_RSTCAUSE.at 0 == r.at n) = false) : (b.resetReg r).InSoc i :=
  h.dropRegs hr

/-! ### Choices and repetitions -/

theorem ite {q : Prop} [Decidable q] (h : b.InSoc i) (hc : c.InSoc i) : (if q then b else c).InSoc i := by
  split
  · exact h
  · exact hc

theorem whenB {q : Bool} {g : Block → Block} (h : b.InSoc i) (hg : ∀ b : Block, b.InSoc i → (g b).InSoc i) : (whenB q g b).InSoc i :=
  (hg b h).ite h

theorem foldl {α : Type} {g : Block → α → Block} {xs : List α} (h : b.InSoc i)
    (hg : ∀ (b : Block) x, b.InSoc i → (g b x).InSoc i) : (xs.foldl g b).InSoc i := by
  induction xs generalizing b with
  | nil => exact h
  | cons x xs ih => exact ih (hg b x h)

theorem forN {g : Nat → Block → Block} (h : b.InSoc i) (hg : ∀ (b : Block) x, b.InSoc i → (g x b).InSoc i) :
    (forN n g b).InSoc i := h.foldl hg

theorem forRange {lo hi : Nat} {g : Nat → Block → Block} (h : b.InSoc i) (hg : ∀ (b : Block) x, b.InSoc i → (g x b).InSoc i) :
    (forRange lo hi g b).InSoc i := h.foldl hg

/-! ### Outputs, lamps and pixel links -/

theorem cset (h : b.InSoc i) {g : ChField} (hhs : g.hs.reg.pastCause = true)
    (hhb : g.hb.reg.pastCause = true) : (b.cset g p v).InSoc i := (h.setF hhb).ite (h.setF hhs)

theorem updCh {g : PowerChan → PowerChan} (h : b.InSoc i) : (b.updCh p g).InSoc i := h

theorem updFb {g : FullBridge → FullBridge} (h : b.InSoc i) : (b.updFb k g).InSoc i := h

theorem setCmd {out duty : Nat} (h : b.InSoc i) : (b.setCmd p out duty).InSoc i :=
  (((h.cset rfl rfl).setF rfl).ite (h.cset rfl rfl)).updCh

theorem endFunction (h : b.InSoc i) : (b.endFunction p).InSoc i := (h.updFb.setF rfl).ite h

theorem chIdleReset (h : b.InSoc i) : (b.chIdleReset p).InSoc i :=
  have hcut : ((b.cutOne p).setCmd p 0 0).InSoc i := h.updCh.setCmd
  ((hcut.cset rfl rfl).ite hcut).endFunction

theorem chHold (h : b.InSoc i) : (b.chHold p).InSoc i := h.ite (h.cset rfl rfl)

theorem setFade {g : Option Fade} (h : b.InSoc i) : (b.setFade n g).InSoc i := h

theorem lampHold (h : b.InSoc i) : b.lampHold.InSoc i :=
  h.foldl fun _ _ hb => hb.setFade.foldl fun _ _ hb => hb.setF rfl

theorem updPx {g : PxPort → PxPort} (h : b.InSoc i) : (b.updPx n g).InSoc i := h

theorem pxHold (h : b.InSoc i) : b.pxHold.InSoc i := h.forN fun _ _ hb => ((hb.updPx.setF rfl).ite hb.updPx).ite hb

theorem holdHooks (h : b.InSoc i) : b.holdHooks.InSoc i := h.lampHold.pxHold

theorem fadeFlagsOff (h : b.InSoc i) : (b.fadeFlagsOff n).InSoc i := ((h.setF rfl).ite h).setF rfl |>.setF rfl |>.setF rfl

theorem lampCut (h : b.InSoc i) : (b.lampCut n v).InSoc i := (h.fadeFlagsOff.setFade.setF rfl).setF rfl

theorem lampSocReset (h : b.InSoc i) : b.lampSocReset.InSoc i :=
  h.foldl fun _ _ hb => (hb.foldl fun _ _ hb => hb.lampCut).setFade

theorem mtxClear (h : b.InSoc i) : (b.mtxClear k).InSoc i := h

/-! ### Valves and boost converters -/

theorem updVl {g : Valve → Valve} (h : b.InSoc i) : (b.updVl n g).InSoc i := h

theorem emptyTables (h : b.InSoc i) : (b.emptyTables n).InSoc i :=
  h.forRange fun b t hb => (show (b.updTbl t fun _ => {}).InSoc i from hb).setF rfl |>.setF rfl

theorem setLevel (h : b.InSoc i) : (b.setLevel n v).InSoc i := h

theorem reLevel (h : b.InSoc i) : (b.reLevel n).InSoc i := h.setLevel.ite (h.setLevel.ite h)

theorem syncBank (h : b.InSoc i) : (b.syncBank k).InSoc i := h.ite (setF (h.ite h) rfl)

theorem fsForm (h : b.InSoc i) : (b.fsForm n).InSoc i := h.updVl.reLevel.syncBank

theorem vlCut (h : b.InSoc i) : (b.vlCut n).InSoc i := h.whenB fun _ hb => hb

theorem settleTables (h : b.InSoc i) : b.settleTables.InSoc i := h.forN fun _ _ hb => (hb.setF rfl).ite hb

theorem vlvFailsafe (h : b.InSoc i) : (b.vlvFailsafe n).InSoc i :=
  h.ite (((h.vlCut.setF rfl).updVl.fsForm).whenB fun _ hb => hb.settleTables)

theorem boostStop (h : b.InSoc i) : (b.boostStop n).InSoc i := (h.setF rfl).setF rfl

/-! ### Networks, chain and host queues -/

theorem updNet {g : NetCh → NetCh} (h : b.InSoc i) : (b.updNet n g).InSoc i := h

theorem keepAsleep (h : b.InSoc i) : (b.keepAsleep n).InSoc i := h

theorem netDown {eth arm : Bool} (h : b.InSoc i) : (b.netDown eth arm).InSoc i := by
  have hkept (l : List Nat) : (l.foldl (fun b ch =>
      if ch = 28 then b
      else if arm && !eth && b.nOn ch && !(b.nstate ch == 4) then b.keepAsleep ch
      else b.keep ch id) b).InSoc i :=
    h.foldl fun b ch hb => hb.ite (hb.keepAsleep.ite (show (b.keep ch id).InSoc i from hb))
  have hcleared {b : Block} (l : List Nat) (hb : b.InSoc i) : (l.foldl (fun b ch => b.updNet ch fun _ => {}) b).InSoc i :=
    hb.foldl fun _ _ hb => hb.updNet
  unfold Block.netDown
  dsimp only
  refine ite (resetRegs (ite ?_ ?_) rfl) (resetRegs (ite ?_ ?_) rfl)
  all_goals exact hcleared _ (hkept _)

theorem gwReset (h : b.InSoc i) : b.gwReset.InSoc i := by
  unfold Block.gwReset
  dsimp only
  have hlists : (Machine.forN 12 (fun ch b => b.updNet ch fun c => { c with gw := [] }) b).InSoc i := h.forN fun _ _ hb => hb.updNet
  exact resetRegs (show _ from hlists) rfl

theorem hqDown (h : b.InSoc i) : b.hqDown.InSoc i := resetRegs h rfl

theorem chnDown (h : b.InSoc i) : b.chnDown.InSoc i := resetRegs h rfl

theorem pairDown (h : b.InSoc i) : b.pairDown.InSoc i := resetRegs h rfl

theorem ciphPowerDown (h : b.InSoc i) : b.ciphPowerDown.InSoc i := resetRegs h rfl

theorem updChain {dws : List Word} {x : Compl} (h : b.InSoc i) : (b.updChain n dws x).InSoc i :=
  h.ite (((h.setF rfl).setF rfl).ite (((h.setF rfl).setF rfl).ite h))

theorem setFlights {fs : List Flight} (h : b.InSoc i) : (b.setFlights fs n).InSoc i := h.setF rfl

theorem sendFrame {x : Frame} (h : b.InSoc i) : (b.sendFrame x).InSoc i := ite h h

theorem injDone (h : b.InSoc i) : b.injDone.InSoc i := (h.setF rfl).setF rfl

theorem writeMem {vs : List Byte} (h : b.InSoc i) : (b.writeMem n vs).InSoc i := ite h (ite (injDone h) (injDone h))

theorem fwWrite {d : Desc} {x : Compl} (h : b.InSoc i) : (b.fwWrite d x).InSoc i := h.ite (h.ite h.writeMem).writeMem

theorem fwFlush {l : List (Nat × Option (Desc × Compl))} (h : b.InSoc i) : (b.fwFlush l).InSoc i := by
  induction l generalizing b with
  | nil => exact h
  | cons e l ih =>
    obtain ⟨m, _ | ⟨d, x⟩⟩ := e
    · exact h
    · exact ih h.fwWrite

theorem complete {d : Desc} {x : Compl} (h : b.InSoc i) : (b.complete d x).InSoc i := by
  unfold Block.complete
  cases d.src with
  | queue q => exact h.updChain.setFlights.ite h.updChain.setFlights
  | node m q => exact foldl h fun _ _ hb => hb.sendFrame
  | fwRing m => exact h.fwFlush

/-! ### Access unit, boot logic and cores -/

theorem radioRest (h : b.InSoc i) : b.radioRest.InSoc i :=
  have hrest : (b.islandGate 7).InSoc i := (h.setF rfl).setF rfl
  h.ite (hrest.ite ((hrest.setF rfl).setF rfl))

theorem accAbandon (h : b.InSoc i) : (b.accAbandon n).InSoc i := by
  unfold Block.accAbandon
  cases b.acs.enrol with
  | none => exact radioRest (h.setF rfl)
  | some d =>
    refine complete (radioRest ?_)
    exact h.setF rfl

theorem accRegsReset (h : b.InSoc i) : b.accRegsReset.InSoc i :=
  have hshown := ((dropRegs h (t := fun o => decide (0x50000 ≤ o ∧ o < 0x51000) && !(o == R.ACS_LOCK.at 0 || o == R.ACS_DCNT.at 0 ||
    o == R.ACS_RELCNT.at 0 || decide (0x50100 ≤ o))) rfl).setF rfl |>.setF rfl |>.setF rfl)
  ((((hshown.setF rfl).ite hshown).setF rfl).ite ((hshown.setF rfl).ite hshown))

theorem accReset (h : b.InSoc i) : (b.accReset n).InSoc i := h.accAbandon.accRegsReset

theorem sessClose {drop : Bool} (h : b.InSoc i) : (b.sessClose drop).InSoc i := by
  unfold Block.sessClose
  cases b.boot.sess with
  | none => exact h
  | some s =>
    refine wr (setF (setF ?_ rfl) rfl) rfl
    exact ite (c := b) h h

theorem floorField_pastCause (k : Nat) : (floorField k).reg.pastCause = true := by
  have hmod : (k - 1) % 4 = 0 ∨ (k - 1) % 4 = 1 ∨ (k - 1) % 4 = 2 ∨ (k - 1) % 4 = 3 := by omega
  rcases hmod with h | h | h | h <;> rw [floorField, h] <;> decide

theorem updShow (h : b.InSoc i) : b.updShow.InSoc i :=
  (((h.setF rfl).setF rfl).setF rfl).forN fun _ x hb => (hb.wr rfl).setF (floorField_pastCause (x + 1))

theorem tempSync (h : b.InSoc i) : b.tempSync.InSoc i := h.forN fun _ _ hb => hb.ite (hb.setF rfl)

theorem setCore {st : Nat} (h : b.InSoc i) : (b.setCore k st).InSoc i :=
  ((((h.setF rfl).setF rfl).setF rfl).setF rfl).ite ((h.setF rfl).setF rfl)

theorem wakeCore (h : b.InSoc i) : (b.wakeCore k).InSoc i := h.setCore.ite h

end InSoc

end Block

end Sys2Proof.Machine
end

section
/-! PROOFS. A SoC reset recorded by its cause bit lasts to the end of the command that begins it, whatever its occurrences cause and
the units lose (R9 to R11, R93, R315, R323). -/
namespace Sys2Proof.Machine
namespace Block
namespace InSoc

variable {i n : Nat} {b : Block} {f : RegField}

/-! ### Occurrences during the reset -/

theorem cdcSync (h : b.InSoc i) : (b.cdcSync n).InSoc i := (h.ite (h.setF (by rfl))).wr rfl

theorem xSaturate (h : b.InSoc i) : (b.xSaturate n).InSoc i := ((((h.setF rfl).setF rfl).setF rfl).satF rfl).cdcSync

theorem xLose {o : Occ} (h : b.InSoc i) : (b.xLose o).1.InSoc i := by
  unfold Block.xLose
  cases crossing o with
  | none => exact h
  | some x => exact h.xSaturate

theorem xPass {o : Occ} (h : b.InSoc i) : (b.xPass o).InSoc i := by
  unfold Block.xPass
  cases crossing o with
  | none => exact h
  | some x => exact (h.setF rfl).setF rfl

theorem mark {o : Occ} (h : b.InSoc i) : (b.mark o n).InSoc i := by
  have hcount : (if n = 0 then F.CATCH_COUNT_CNTC else if n = 1 then F.CATCH_COUNT_CNTU else F.CATCH_COUNT_CNTF).reg.pastCause = true := by
    split
    · rfl
    · split <;> rfl
  exact ((h.wr rfl).ite ((((h.wr rfl).setF rfl).setF rfl).setF rfl)).satF hcount

theorem logEntry {o : Occ} {cls : Nat} (h : b.InSoc i) : (b.logEntry o cls n).InSoc i := by
  unfold Block.logEntry
  dsimp only
  have hlog (w0 w1 w2 w3 : Nat) : ((((b.wr R.CATCH_LOG (4 * b.getF F.CATCH_LOGPTR_NEXT 0) w0).wr R.CATCH_LOG
      (4 * b.getF F.CATCH_LOGPTR_NEXT 0 + 1) w1).wr R.CATCH_LOG (4 * b.getF F.CATCH_LOGPTR_NEXT 0 + 2) w2).wr R.CATCH_LOG
      (4 * b.getF F.CATCH_LOGPTR_NEXT 0 + 3) w3).InSoc i := (((h.wr rfl).wr rfl).wr rfl).wr rfl
  refine ite (h.satF rfl) ?_
  exact setF (ite ((hlog ..).setF rfl |>.satF rfl) (hlog ..)) rfl

/-- During a SoC reset only the log acts (R323). -/
theorem now_has {o : Occ} (h : b.InSoc i) {m : Nat} (hm : Act.log &&& m = 0) : Act.has (b.reaction o).now m = false := by
  have hlog (a : Nat) : Act.has (a &&& Act.log) m = false := by rw [Act.has, Nat.and_assoc, hm, Nat.and_zero]; rfl
  unfold reaction
  dsimp only
  rw [if_pos (by rw [h.2]; rfl)]
  exact hlog _

theorem socReset_catch (h : b.InSoc i) : (b.socReset F.PWR_RSTCAUSE_CATCH).1.InSoc i := by
  have hset : b.socReset F.PWR_RSTCAUSE_CATCH = (b.setF F.PWR_RSTCAUSE_CATCH 0 1, []) := by rw [socReset, h.2]
  have hword : (b.setF F.PWR_RSTCAUSE_CATCH 0 1).rd R.PWR_RSTCAUSE 0 = putBits (b.rd R.PWR_RSTCAUSE 0) 2 2 1 := rd_wr_same ..
  rw [hset]
  refine ⟨?_, h.2⟩
  rw [hword]
  by_cases hi : i = 2
  · subst hi
    exact bit_putBits_same _ 2 1
  · exact (bit_putBits_ne _ 1 hi).trans h.1

theorem safeActs {o : Occ} {r : Reaction} (h : b.InSoc i) (hnow : ∀ m, Act.log &&& m = 0 → Act.has r.now m = false) :
    (b.safeActs o r).1.InSoc i := by
  unfold Block.safeActs
  dsimp only
  rw [hnow _ rfl, hnow _ rfl, hnow _ rfl]
  exact ite (c := b) h h

theorem resetActs {o : Occ} {r : Reaction} (h : b.InSoc i) (hnow : ∀ m, Act.log &&& m = 0 → Act.has r.now m = false) :
    (b.resetActs o r).1.InSoc i := by
  unfold Block.resetActs
  dsimp only
  rw [hnow _ rfl]
  split
  · exact h.socReset_catch
  · exact h

theorem reactTo {o : Occ} {r : Reaction} (h : b.InSoc i) (hnow : ∀ m, Act.log &&& m = 0 → Act.has r.now m = false) :
    (b.reactTo o r).1.InSoc i := by
  have hsafe : ((if Act.has r.acts Act.log then b.logEntry o r.cls r.now else b).safeActs o r).1.InSoc i :=
    safeActs (h.logEntry.ite h) hnow
  unfold Block.reactTo Block.eventAct
  dsimp only
  rw [hnow _ rfl, hnow _ rfl]
  exact hsafe.resetActs hnow

theorem occur {o : Occ} (h : b.InSoc i) : (b.occur o).1.InSoc i := by
  cases hon : b.catchOn with
  | false =>
    rw [Block.occur, if_pos (by simp [hon])]
    exact h
  | true =>
    cases hfull : b.xFull o with
    | true =>
      rw [Block.occur, if_neg (by simp [hon]), if_pos hfull]
      exact h.xLose
    | false =>
      have hpass : (b.xPass o).InSoc i := h.xPass
      rw [occur_of_passes hon hfull]
      exact hpass.mark.reactTo fun m hm => hpass.now_has hm

theorem raiseAll {os : List Occ} (h : b.InSoc i) : (b.raiseAll n os).InSoc i := by
  induction n generalizing os b with
  | zero => exact h
  | succ n ih =>
    cases os with
    | nil => exact h
    | cons o os => exact ih h.occur

theorem raiseList {os : List Occ} (h : b.InSoc i) : (b.raiseList os).InSoc i := h.raiseAll

theorem gaugeWatch (h : b.InSoc i) : b.gaugeWatch.InSoc i := by
  unfold Block.gaugeWatch
  refine h.ite (ite (raiseAll ?_) ?_) <;> exact h

theorem weirHold (h : b.InSoc i) (hf : f.reg.pastCause = true) : (b.weirHold f).1.InSoc i := by
  have hset : ((b.setWeir 2).setF f 0 1).InSoc i := setF (setF (setF h rfl) rfl) hf
  unfold Block.weirHold
  split
  · dsimp only
    refine holdHooks (forN ?_ fun _ _ hb => hb.chHold)
    exact hset
  · exact h

/-! ### The end of the command -/

theorem withBoot {x : BootSt} (h : b.InSoc i) : ({ b with boot := x } : Block).InSoc i := h

theorem withPixels {x : PxSt} (h : b.InSoc i) : ({ b with px := x } : Block).InSoc i := h

theorem withCores {x : Tab HepCore} {l : List Nat} (h : b.InSoc i) :
    ({ b with core := x, pw := { b.pw with coreReset := l } } : Block).InSoc i := h

theorem socCarry (h : b.InSoc i) : b.socCarry.InSoc i := by
  unfold Block.socCarry
  refine tempSync (resetReg (resetReg (resetReg (resetReg (resetReg ?_ rfl) rfl) rfl) rfl) rfl)
  refine setF_ne (setF_ne (setF (updShow ?_) rfl) (by decide)) (by decide)
  refine withBoot (resetReg (resetReg (resetReg (resetReg (resetRegs ?_ rfl) rfl) rfl) rfl) rfl)
  refine withCores (resetRegs (resetRegs (setF (resetRegs (sessClose ?_) rfl) rfl) rfl) rfl)
  refine ciphPowerDown (pairDown (chnDown (hqDown (accReset (gwReset (netDown (netDown (resetRegs ?_ rfl))))))))
  refine withPixels (ite (forN ?_ fun _ _ hb => hb.mtxClear) ?_)
  all_goals
    refine lampSocReset (forN (forN (emptyTables (emptyTables ?_)) fun _ _ hb => (hb.vlvFailsafe.setF rfl)) fun _ _ hb => hb.boostStop)
    exact h

theorem coreCarry (h : b.InSoc i) : (b.coreCarry n).InSoc i := by
  have hreset : b.pw.inReset = .soc := h.2
  rw [Block.coreCarry, if_pos (by simp [hreset])]
  exact h

theorem carry {d : Due} (h : b.InSoc i) : (b.carry d).InSoc i := by
  cases d with
  | core c => exact h.coreCarry
  | soc => exact h.socCarry
  | occ o => exact h.raiseAll

theorem carryAll (h : b.InSoc i) : (b.carryAll n).InSoc i := by
  induction n generalizing b with
  | zero => exact h
  | succ n ih =>
    unfold Block.carryAll
    split
    · exact h
    · exact ih (foldl h fun _ _ hb => hb.carry)

theorem endCommand (h : b.InSoc i) : b.endCommand.InSoc i := forN h.gaugeWatch.carryAll fun _ _ hb => hb.wakeCore

end InSoc

/-- A SoC reset begins with its cause bit (R93, R140). -/
theorem socReset_inSoc {f : RegField} {b : Block} (hreg : f.reg = R.PWR_RSTCAUSE) (hbit : f.hi = f.lo) (hnone : b.pw.inReset = .none) :
    (b.socReset f).1.InSoc f.lo := by
  have hbegun : ({ b.setF f 0 1 with pw := { (b.setF f 0 1).pw with inReset := .soc, still := .awake } } : Block).InSoc f.lo := by
    refine ⟨?_, rfl⟩
    have hrd : rd { b.setF f 0 1 with pw := { (b.setF f 0 1).pw with inReset := .soc, still := .awake } } R.PWR_RSTCAUSE 0 =
        (b.setF f 0 1).rd f.reg 0 := by rw [hreg]; rfl
    rw [hrd, setF, rd_wr_same, hbit, bit_putBits_same]
    rfl
  rw [socReset, hnone]
  dsimp only
  split
  · refine InSoc.forN ?_ fun _ _ hb => hb.chIdleReset
    exact hbegun
  · exact hbegun.weirHold rfl

end Block

end Sys2Proof.Machine
end

section
/-! PROOFS. Boot logic: activation, trial and session ends, guards, Recovery and debug (O52). -/
namespace Sys2Proof.Machine
namespace Block

section

variable {l : List Nat} {ps : List Part} {b : Block}

theorem flash_within (b : Block) (x : FlashSt) (h : .flash ∈ ps) : b.Within l ps { b with flash := x } :=
  ⟨⟨fun _ _ _ _ => rfl, fun p hp => by
    cases p with
    | flash => exact absurd h hp
    | _ => simp [Part.Same]⟩, rfl⟩

theorem boot_within (b : Block) (x : BootSt) (h : .boot ∈ ps) : b.Within l ps { b with boot := x } :=
  ⟨⟨fun _ _ _ _ => rfl, fun p hp => by
    cases p with
    | boot => exact absurd h hp
    | _ => simp [Part.Same]⟩, rfl⟩

/-! ### The end of a session -/

theorem sessClose_eq {x : UpdSess} (hsess : b.boot.sess = some x) :
    b.sessClose true = ((({ b.setCopy (1 - b.activeBank x.comp) x.comp {} with boot := { b.boot with sess := none } } : Block).setF
      F.UPD_STAT_STATE 0 0).setF F.UPD_STAT_COMP 0 0).wr R.UPD_RCVD 0 0 := by
  rw [sessClose, hsess]
  rfl

theorem sessClose_within {x : UpdSess} (hsess : b.boot.sess = some x) :
    b.Within (offsOf [R.UPD_RCVD, R.UPD_STAT]) [.boot, .flash] (b.sessClose true) := by
  rw [sessClose_eq hsess]
  refine .trans (.trans (.trans ?_ (.setF _ F.UPD_STAT_STATE 0 0 (by decide))) (.setF _ F.UPD_STAT_COMP 0 0 (by decide)))
    (.wr _ R.UPD_RCVD 0 0 (by decide))
  exact (flash_within b { b.flash with copy := Tab.put b.flash.copy (8 * (1 - b.activeBank x.comp) + x.comp) {} } (by simp)).trans
    (boot_within _ _ (by simp))

/-! ### The boot control record (R600) -/

/-- The registers that show the record (R624). -/
def shownRegs : List Nat := offsOf [R.BOOT_BANK, R.BOOT_FLOOR, R.UPD_STAGED, R.UPD_SVER]

theorem floorField_mem : ∀ k < 7, (floorField (k + 1)).reg.at (k / 4) ∈ shownRegs := by decide

theorem updSver_mem : ∀ k < 7, R.UPD_SVER.at k ∈ shownRegs := by decide

theorem updShow_within (b : Block) : b.Within shownRegs [] b.updShow := by
  refine .trans (.trans (.trans (.setF b F.BOOT_BANK_ACTIVE 0 _ (by decide)) (.setF _ F.BOOT_BANK_TRIAL 0 _ (by decide)))
    (.setF _ F.UPD_STAGED_STAGED 0 _ (by decide))) (.foldl _ _ (fun k hk b => ?_) _)
  have hk : k < 7 := List.mem_range.mp hk
  exact .trans (.wr b R.UPD_SVER k _ (updSver_mem k hk)) (.setF _ _ _ _ (floorField_mem k hk))

theorem revert_flash (b : Block) : b.revert.flash =
    { b.flash with active := b.flash.active ^^^ b.flash.trial, staged := b.flash.staged ||| b.flash.trial, trial := 0, pending := false } :=
  (updShow_within _).beside.2 .flash (by simp)

theorem revert_within (b : Block) : b.Within shownRegs [.flash] b.revert :=
  (flash_within b _ (by simp)).trans ((updShow_within _).mono (fun _ h => h) (List.nil_subset _))

/-- The registers of the units that make a record's CMAC. -/
def sealRegs : List Nat := offsOf [R.CIPH_CNT, R.CIPH_STAT, R.KEY_CACHE, R.KEY_CCNT, R.KEY_STAT, R.PKE_STAT]

theorem keyNow_seal (t : KeyTag) (b : Block) : b.Within sealRegs [.ciph] ((b.keyNow t).unitJob 0) :=
  ((keyNow_within t b).mono (by decide) (fun _ h => h)).trans ((unitJob_within _).mono (by decide) (List.nil_subset _))

theorem keyNow_broken (t : KeyTag) (b : Block) : (b.keyNow t).ciph.broken = b.ciph.broken := by
  unfold keyNow
  split <;> rfl

theorem jobError_stays (q : Nat) (b : Block) : b.Stays sealRegs [.ciph] (b.jobError q) :=
  (Stays.of_within (ciph_within b { b.ciph with broken := b.ciph.broken.erase (0, q) } (by simp))).trans
    (stickD_stays _ (by decide) (by decide))

theorem sealRecord_stays (label : List Nat) (b : Block) : b.Stays sealRegs [.ciph] (b.sealRecord label).2 := by
  unfold sealRecord
  split
  · exact .refl b
  split
  · exact stickD_stays b (by decide) (by decide)
  split
  · exact .refl b
  split
  · exact .refl b
  dsimp only
  split
  · exact (Stays.of_within (keyNow_seal _ b)).trans (jobError_stays 4 _)
  · exact .of_within (keyNow_seal _ b)

/-- The CMAC of a record is made: PD10 is off, or RK0 is valid and its units have passed their tests (R541, R555). -/
def Seals (b : Block) : Prop :=
  b.pg 10 = true → b.rootValid 0 = true ∧ Tab.get 0 b.ciph.test 1 = 1 ∧ Tab.get 0 b.ciph.test 2 = 1 ∧ b.jobFault 0 4 = false

theorem sealRecord_of_seals (label : List Nat) (h : b.Seals) : (b.sealRecord label).1 = 0 := by
  unfold sealRecord
  cases hpg : b.pg 10 with
  | false => rfl
  | true =>
    obtain ⟨hroot, haes, hkey, hfault⟩ := h hpg
    have hjob : ((b.keyNow (recordTag label)).unitJob 0).jobFault 0 4 = false := by
      have hbroken : ((b.keyNow (recordTag label)).unitJob 0).ciph.broken = b.ciph.broken := keyNow_broken _ b
      rw [jobFault, hbroken]
      exact hfault
    simp [untested, hroot, haes, hkey, hjob]

theorem bootRec_congr {a b : Block} (h : { b.flash with bcr := a.flash.bcr } = a.flash) : b.bootRec = a.bootRec := by
  have hcopy := congrArg FlashSt.copy h
  have hactive := congrArg FlashSt.active h
  have htrial := congrArg FlashSt.trial h
  have hstaged := congrArg FlashSt.staged h
  have hpending := congrArg FlashSt.pending h
  dsimp only at hcopy hactive htrial hstaged hpending
  simp only [bootRec, copyOf, activeBank, hcopy, hactive, htrial, hstaged, hpending]

theorem bcrSave_stays (b : Block) : b.Stays sealRegs [.boot, .ciph, .flash] b.bcrSave := by
  have hseal := (sealRecord_stays bcrLabel b).mono (fun _ h => h) (show [Part.ciph] ⊆ [.boot, .ciph, .flash] by simp)
  have hdue := hseal.trans (.of_within
    (boot_within _ { (b.sealRecord bcrLabel).2.boot with recDue := (b.sealRecord bcrLabel).1 == 1 } (by simp)))
  unfold bcrSave
  dsimp only
  exact .ite _ (hdue.trans (.of_within (flash_within _ _ (by simp)))) hdue

/-- Only the record in the flash changes, and it is the block's own where its CMAC is made. -/
theorem bcrSave_flash (ht : b.Tame) : { b.bcrSave.flash with bcr := b.flash.bcr } = b.flash ∧
    (b.Seals → b.bcrSave.flash.bcr = RecCopy.rewrite b.flash.bcr b.bootRec) ∧ b.bcrSave.boot.banks = b.boot.banks := by
  have hseal := sealRecord_stays bcrLabel b ht (by decide)
  have hflash : (b.sealRecord bcrLabel).2.flash = b.flash := hseal.beside.2 .flash (by simp)
  have hboot : (b.sealRecord bcrLabel).2.boot = b.boot := hseal.beside.2 .boot (by simp)
  unfold bcrSave
  dsimp only
  split
  · next hmade =>
    refine ⟨by simp only [hflash], fun _ => ?_, by simp only [hboot]⟩
    dsimp only
    rw [hflash]
    exact congrArg _ (bootRec_congr rfl)
  · next hnot => exact ⟨by simp only [hflash], fun h => absurd (sealRecord_of_seals _ h) hnot, by simp only [hboot]⟩

end

end Block

open Block

section

variable {s : State}

/-! ### Resets (R616, R620) -/

/-- A command that begins a SoC reset completes with the reset and its cause bit. -/
theorem completes_of_inSoc {c : Instr} {f : Block → Block} {g : RegField} (hexec : exec c s = s.act f) (h : (f s.blk).InSoc g.lo)
    (hreg : g.reg = R.PWR_RSTCAUSE) (hbit : g.hi = g.lo) :
    Completes c s fun b => b.flag g 0 = true ∧ b.pw.inReset = .soc := by
  obtain ⟨hcause, hreset⟩ := h.endCommand
  refine ⟨_, hexec.trans (State.act_next f s), rfl, ?_, hreset⟩
  rw [flag, getF, hreg, hbit, ← bit_eq_bits]
  exact hcause

theorem completes_activationReset (hready : s.blk.Ready) (hstate : s.blk.getF F.UPD_STAT_STATE 0 = 2) :
    Completes .activationReset s fun b => b.flag F.PWR_RSTCAUSE_UPDACT 0 = true ∧ b.pw.inReset = .soc := by
  obtain ⟨-, -, ⟨hnone, -⟩, -, -⟩ := hready
  have hbegins : s.blk.activationReset.InSoc 5 := by
    rw [activationReset, if_pos (by rw [hstate]; rfl)]
    exact (socReset_inSoc (f := F.PWR_RSTCAUSE_UPDACT) (b := { s.blk with boot := { s.blk.boot with actNext := true } })
      rfl rfl hnone).raiseList
  exact completes_of_inSoc rfl hbegins rfl rfl

theorem isSup_of_pair {who : Who} (hwho : who = .core 0 ∨ who = .core 1) : who.isSup = true := by
  rcases hwho with rfl | rfl <;> rfl

theorem gateSup_of_canWrite {b : Block} {who : Who} {off : Nat} (h : b.CanWrite who off) (hsup : who.isSup = true) (k : Block → Block) :
    b.gateSup who off k = k b := by
  rw [gateSup, gate_of_canWrite h, if_pos hsup]

theorem completes_recoveryRequest {who : Who} (hready : s.blk.Ready) (hwrite : s.blk.CanWrite who (R.BOOT_CTL.at 0))
    (hwho : who = .core 0 ∨ who = .core 1) : Completes (.recoveryRequest who 0x2EC0) s fun b =>
      b.flag F.PWR_RSTCAUSE_RECSW 0 = true ∧ b.pw.inReset = .soc := by
  obtain ⟨-, -, ⟨hnone, -⟩, -, -⟩ := hready
  have hbegins : (recoveryRequest 0x2EC0 s.blk).InSoc 6 :=
    (socReset_inSoc (f := F.PWR_RSTCAUSE_RECSW) (b := { s.blk with boot := { s.blk.boot with recNext := true } }) rfl rfl hnone).raiseList
  refine completes_of_inSoc (f := fun b => b.gateSup who (R.BOOT_CTL.at 0) (recoveryRequest 0x2EC0)) rfl ?_ rfl rfl
  rw [gateSup_of_canWrite hwrite (isSup_of_pair hwho)]
  exact hbegins

/-- Another value written to BOOT_CTL has no effect. -/
theorem completes_recoveryRequest_refused {who : Who} {key : BitVec 16} {l : List Nat} {ps : List Part} (hready : s.blk.Ready)
    (hwrite : s.blk.CanWrite who (R.BOOT_CTL.at 0)) (hwho : who = .core 0 ∨ who = .core 1) (hkey : key.toNat ≠ 0x2EC0) :
    Completes (.recoveryRequest who key) s fun b => b.pw.inReset = .none ∧
      b.flag F.PWR_RSTCAUSE_RECSW 0 = s.blk.flag F.PWR_RSTCAUSE_RECSW 0 ∧ s.blk.Beside l ps b := by
  have hnothing : s.blk.gateSup who (R.BOOT_CTL.at 0) (recoveryRequest key.toNat) = s.blk := by
    rw [gateSup_of_canWrite hwrite (isSup_of_pair hwho), recoveryRequest, if_neg hkey]
  refine completes_of_act _ s (fun b => b.gateSup who (R.BOOT_CTL.at 0) (recoveryRequest key.toNat)) _ rfl
    (by simpa only [hnothing] using hready.1) ?_
  rw [hnothing]
  exact ⟨hready.2.2.1.1, rfl, .refl ..⟩

/-! ### The end of a trial and of a session (R612, R617) -/

/-- The registers of the end of a trial. -/
def trialRegs : List Nat := offsOf [R.BOOT_BANK, R.BOOT_FLOOR, R.CIPH_CNT, R.CIPH_LOAD, R.CIPH_STAT, R.KEY_CACHE, R.KEY_CCNT, R.KEY_STAT,
  R.PKE_STAT, R.UPD_STAGED, R.UPD_STAT, R.UPD_SVER]

theorem completes_trialTimeout (hready : s.blk.Ready) (hstate : s.blk.getF F.UPD_STAT_STATE 0 = 3) :
    Completes .trialTimeout s fun b => (b.flash.active = s.blk.flash.active ^^^ s.blk.flash.trial ∧
      b.flash.staged = s.blk.flash.staged ||| s.blk.flash.trial ∧ b.flash.trial = 0 ∧ b.getF F.UPD_STAT_STATE 0 = 0 ∧
      b.getF F.UPD_STAT_REVERTED 0 = 1 ∧ b.boot.banks = s.blk.boot.banks ∧
      (s.blk.Seals → b.flash.bcr = RecCopy.rewrite s.blk.flash.bcr b.bootRec)) ∧
      s.blk.Beside trialRegs [Part.boot, Part.ciph, Part.flash] b := by
  have hready' := hready
  obtain ⟨-, htame, -, -, -⟩ := hready'
  have hreverted := revert_within s.blk
  have htame' : s.blk.revert.Tame := hreverted.tame (by decide) htame
  have hsaved := bcrSave_stays s.blk.revert htame' (by decide)
  obtain ⟨hflash, hsealed, hbanks⟩ := bcrSave_flash htame'
  have hseals (h : s.blk.Seals) : s.blk.revert.Seals := by
    have hciph : s.blk.revert.ciph = s.blk.ciph := hreverted.beside.2 .ciph (by simp)
    have hpg : s.blk.revert.pg 10 = s.blk.pg 10 := by rw [pg, pg, hreverted.getF_eq (by decide) (by decide)]
    have hroot : s.blk.revert.rootValid 0 = s.blk.rootValid 0 := by rw [rootValid, rootValid, hreverted.getF_eq (by decide) (by decide)]
    rw [Seals, jobFault, hciph, hpg, hroot]
    exact h
  have hrevertedBanks : s.blk.revert.boot = s.blk.boot := hreverted.beside.2 .boot (by simp)
  have hend : s.blk.trialTimeout = ((s.blk.revert.bcrSave.setF F.UPD_STAT_STATE 0 0).setF F.UPD_STAT_REVERTED 0 1) := by
    rw [trialTimeout, if_pos (by rw [hstate]; rfl)]
    rfl
  have hw : s.blk.Within trialRegs [.boot, .ciph, .flash] s.blk.trialTimeout := by
    rw [hend]
    exact (((hreverted.mono (by decide) (by simp)).trans (hsaved.mono (by decide) (fun _ h => h))).trans
      (.setF _ F.UPD_STAT_STATE 0 0 (by decide))).trans (.setF _ F.UPD_STAT_REVERTED 0 1 (by decide))
  refine completes_of_within (f := trialTimeout) rfl hready hw (by decide) (by decide) ⟨?_, hw.beside⟩
  rw [hend]
  have hactive := congrArg FlashSt.active hflash
  have hstaged := congrArg FlashSt.staged hflash
  have htrial := congrArg FlashSt.trial hflash
  rw [revert_flash] at hactive hstaged htrial
  refine ⟨hactive, hstaged, htrial, ?_, ?_, hbanks.trans (congrArg _ hrevertedBanks), fun h => (hsealed (hseals h)).trans ?_⟩
  · exact getF_setF_keeps (getF_setF_same _ F.UPD_STAT_STATE 0 0 (by decide))
  · exact getF_setF_same _ _ _ _ (by decide)
  · have hrec : bootRec ((s.blk.revert.bcrSave.setF F.UPD_STAT_STATE 0 0).setF F.UPD_STAT_REVERTED 0 1) = s.blk.revert.bootRec :=
      bootRec_congr hflash
    rw [hrec, revert_flash]

theorem completes_sessionTimeout {x : UpdSess} (hready : s.blk.Ready) (hsess : s.blk.boot.sess = some x) :
    Completes .sessionTimeout s fun b => b.boot.sess = none ∧ b.getF F.UPD_STAT_LASTCAUSE 0 = 16 ∧ b.getF F.UPD_STAT_STATE 0 = 0 ∧
      b.copyOf (1 - s.blk.activeBank x.comp) x.comp = {} ∧
      s.blk.Beside (offsOf [R.UPD_RCVD, R.UPD_STAT]) [Part.boot, Part.flash] b := by
  have hend : s.blk.sessTimeout = (s.blk.sessClose true).setF F.UPD_STAT_LASTCAUSE 0 16 := by
    rw [sessTimeout, hsess]
    rfl
  have hw : s.blk.Within (offsOf [R.UPD_RCVD, R.UPD_STAT]) [.boot, .flash] s.blk.sessTimeout :=
    hend ▸ (sessClose_within hsess).trans (.setF _ F.UPD_STAT_LASTCAUSE 0 16 (by decide))
  refine completes_of_within (f := sessTimeout) rfl hready hw (by decide) (by decide) ?_
  refine ⟨?_, ?_, ?_, ?_, hw.beside⟩
  · rw [hend, sessClose_eq hsess]
    rfl
  · rw [hend]
    exact getF_setF_same _ _ _ _ (by decide)
  · rw [hend, sessClose_eq hsess]
    refine getF_setF_keeps ?_
    rw [getF_wr_other _ _ _ _ (by decide)]
    exact getF_setF_keeps (getF_setF_same _ F.UPD_STAT_STATE 0 0 (by decide))
  · rw [hend, sessClose_eq hsess]
    exact Tab.get_put_same ..

/-! ### Guards (R614) -/

theorem guards_of_noSpeed {b : Block} (hspd : b.boot.spdOk = false) (hstate : b.getF F.PWR_STATE_STATE 0 ≠ 4) :
    bit b.guards 0 = true := by
  have hodd : ∀ p l o : Nat, bit (1 + 2 * p + 4 * l + 8 * o) 0 = true := fun p l o => by
    rw [bit, beq_iff_eq]
    omega
  have hrun : (b.getF F.PWR_STATE_STATE 0 == 4) = false := beq_false_of_ne hstate
  unfold guards
  dsimp only
  rw [hrun, hspd, if_neg Bool.false_ne_true]
  exact hodd ..

theorem completes_guardTimer (kind : Fin 4) (hready : s.blk.Ready) (hhigh : kind.val = 3 → s.blk.feedLow = false)
    (hlow : kind.val = 2 → s.blk.feedLow = true) : Completes (.guardTimer kind) s fun b => ((kind.val = 0 → b.boot.spdOk = false ∧
      (b.getF F.PWR_STATE_STATE 0 ≠ 4 → bit b.guards 0 = true)) ∧ (kind.val = 1 → b.boot.parkOk = false) ∧
      (kind.val = 2 → b.boot.batLow = true) ∧ (kind.val = 3 → b.boot.batLow = false)) ∧ s.blk.Beside [] [Part.boot] b := by
  have hw (x : BootSt) : s.blk.Within [] [.boot] { s.blk with boot := x } := boot_within s.blk x (by simp)
  have hset (x : BootSt) (h : guardTimer kind s.blk = { s.blk with boot := x }) :
      s.blk.Within [] [.boot] (guardTimer kind s.blk) := h ▸ hw x
  match kind, hhigh, hlow, hset with
  | 0, _, _, hset =>
    have h := hset _ rfl
    exact completes_of_within rfl hready h (by decide) (by decide)
      ⟨⟨fun _ => ⟨rfl, guards_of_noSpeed rfl⟩, by simp, by simp, by simp⟩, h.beside⟩
  | 1, _, _, hset =>
    have h := hset _ rfl
    exact completes_of_within rfl hready h (by decide) (by decide) ⟨⟨by simp, fun _ => rfl, by simp, by simp⟩, h.beside⟩
  | 2, _, hlow, hset =>
    have hend : guardTimer 2 s.blk = { s.blk with boot := { s.blk.boot with batLow := true } } := by simp [guardTimer, hlow rfl]
    have h := hset _ hend
    exact completes_of_within rfl hready h (by decide) (by decide)
      ⟨⟨by simp, by simp, fun _ => congrArg (fun b : Block => b.boot.batLow) hend, by simp⟩, h.beside⟩
  | 3, hhigh, _, hset =>
    have hend : guardTimer 3 s.blk = { s.blk with boot := { s.blk.boot with batLow := false } } := by simp [guardTimer, hhigh rfl]
    have h := hset _ hend
    exact completes_of_within rfl hready h (by decide) (by decide)
      ⟨⟨by simp, by simp, by simp, fun _ => congrArg (fun b : Block => b.boot.batLow) hend⟩, h.beside⟩

/-! ### Debug (R622) -/

theorem completes_debugConnect (hready : s.blk.Ready) (hfuse : s.blk.flag F.SYS_VARIANT_DBGFUSE 0 = false) :
    Completes .debugConnect s fun b => b.getF F.BOOT_STAT_DBGSEEN 0 = 1 ∧ s.blk.Beside (offsOf [R.BOOT_STAT]) [] b := by
  have hpg := hready.2.2.2.1
  have hend : s.blk.debugConnect = s.blk.setF F.BOOT_STAT_DBGSEEN 0 1 := by simp [debugConnect, hfuse, hpg]
  have hw : s.blk.Within (offsOf [R.BOOT_STAT]) [] s.blk.debugConnect := hend ▸ .setF _ F.BOOT_STAT_DBGSEEN 0 1 (by decide)
  refine completes_of_within (f := debugConnect) rfl hready hw (by decide) (by decide) ⟨?_, hw.beside⟩
  rw [hend]
  exact getF_setF_same _ _ _ _ (by decide)

end

end Sys2Proof.Machine
end

section
/-! PROOFS. The Mladet port (R621), and O52. -/
namespace Sys2Proof.Machine
namespace Block

section

variable {ps : List Part} {b : Block}

theorem mladetReply_within {l : List Nat} (st : Nat) (bs : List Byte) (b : Block) (h : .boot ∈ ps) :
    b.Within l ps (b.mladetReply st bs) :=
  boot_within b _ h

/-- A command meets no response that waits. -/
theorem mladetCmd_of_idle (good : Bool) (k : Block → Block) (hidle : b.boot.resp = none) :
    b.mladetCmd good k = if good then k b else b.mladetReply St.badDesc [] := by
  rw [mladetCmd, hidle]
  cases good <;> rfl

/-! ### Reads of the PWR block -/

/-- The registers that a read of the PWR block captures. -/
def rtcRegs : List Nat := offsOf [R.PWR_RTC0, R.PWR_RTC1]

theorem rtcRead_within (stale : Bool) (b : Block) : b.Within rtcRegs ps (b.rtcRead stale) :=
  ((Within.wr b R.PWR_RTC0 0 _ (by decide)).trans (.wr _ R.PWR_RTC1 0 _ (by decide))).trans
    (xStale_recorded _ (by decide) stale).within

theorem readBefore_within {off : Nat} (hoff : off < 0x2000) (b : Block) : b.Within rtcRegs ps (b.readBefore off) := by
  have hne {r : Reg} (hr : 0x2000 ≤ r.at 0) : off ≠ r.at 0 := by omega
  unfold readBefore
  rw [if_neg (hne (by decide : 0x2000 ≤ R.BST_TBASE0.at 0)), if_neg (hne (by decide : 0x2000 ≤ R.ACS_LOCK.at 0)),
    if_neg (hne (by decide : 0x2000 ≤ R.UPD_STAT.at 0)), if_neg (hne (by decide : 0x2000 ≤ R.HEP_SWDSTAT.at 0)),
    if_neg (hne (by decide : 0x2000 ≤ R.UPD_TRIAL.at 0)), if_neg (hne (by decide : 0x2000 ≤ R.PAIR_STAT.at 0)),
    if_neg (hne (by decide : 0x2000 ≤ R.GW_LOAD.at 0)), if_neg (hne (by decide : 0x2000 ≤ R.CIPH_LOAD.at 0))]
  exact .ite _ ((free_within b _).trans (rtcRead_within _ _)) (.refl b)

theorem readAfter_eq {off : Nat} (hoff : off < 0x2000) (b : Block) : b.readAfter off = b := by
  have hne {r : Reg} (hr : 0x2000 ≤ r.at 0) : off ≠ r.at 0 := by omega
  rw [readAfter, if_neg (hne (by decide : 0x2000 ≤ R.PXL_LOAD.at 0)), if_neg (hne (by decide : 0x2000 ≤ R.GW_LOAD.at 0)),
    if_neg (hne (by decide : 0x2000 ≤ R.CIPH_LOAD.at 0))]

theorem regRead_within {off : Nat} (hoff : off < 0x2000) (b : Block) : b.Within rtcRegs ps (b.regRead off).1 := by
  have hblock : (b.regRead off).1 = b.readBefore off := readAfter_eq hoff _
  exact hblock ▸ readBefore_within hoff b

theorem regReads_within {off n : Nat} (hoff : off + 4 * n ≤ 0x2000) (b : Block) : b.Within rtcRegs ps (b.regReads off n).1 := by
  induction n generalizing off b with
  | zero => exact .refl b
  | succ n ih => exact (regRead_within (by omega) b).trans (ih (by omega) _)

theorem regReads_length (off n : Nat) (b : Block) : (b.regReads off n).2.length = n := by
  induction n generalizing off b with
  | zero => rfl
  | succ n ih => exact congrArg (· + 1) (ih _ _)

theorem flatten_leBytes_length (k : Nat) (vs : List Nat) : (vs.map (leBytes k)).flatten.length = k * vs.length := by
  simp [Function.comp_def, Nat.mul_comm]

/-- Aligned reads of up to 16 words of the PWR block are answered in every state (R88). -/
theorem mladetRegs_pwr {off count : Nat} (hsome : 1 ≤ count) (hfew : count ≤ 16) (halign : off % 4 = 0) (hlo : 0x1000 ≤ off)
    (hhi : off + 4 * count ≤ 0x2000) (b : Block) : b.mladetRegs off count =
      (b.regReads off count).1.mladetReply St.ok ((b.regReads off count).2.map (leBytes 4)).flatten := by
  have hpwr : ((List.range count).all fun i =>
      let blk := (off + 4 * i) / 4096
      blk == 1 || (decide (2 ≤ b.getF F.PWR_STATE_STATE 0) && (blk == 0 || blk == 0x58 || blk == 0x59) && b.pg 1)) = true := by
    rw [List.all_eq_true]
    intro i hi
    have hblk : (off + 4 * i) / 4096 = 1 := by
      have := List.mem_range.mp hi
      omega
    simp only [hblk]
    rfl
  have hform : (!(off % 4 == 0) || decide (count = 0) || decide (16 < count)) = false := by
    rw [halign, decide_eq_false (by omega), decide_eq_false (by omega)]
    rfl
  unfold mladetRegs
  dsimp only at hpwr ⊢
  rw [if_neg (by simpa using hform), hpwr]
  rfl

/-! ### Update status -/

/-- A well-formed UPD_STATUS of the port is answered with the completion words and the data of the descriptor (R621, R626). -/
theorem mladetDesc_status {fail : Bool} {dws : List Word} {d : Desc} (hd : d = { src := .fwRing 0, dws := dws, payload := [] })
    (hok : d.ok 0xB8 64 65536 [] = true) (hnode : d.node = b.nodeId) (hbcast : d.bcast = false) (haddr : d.addr = 0)
    (hlen : d.len ≤ 4096) (hstate : b.getF F.PWR_STATE_STATE 0 ≠ 1) : b.mladetDesc fail dws [] =
      b.guardSync.mladetReply St.ok ((leBytes 4 (d.tag + St.ok * 65536) ++ leBytes 4 0 ++ leBytes 4 64 ++ leBytes 4 0) ++
        (b.updStatus d).2.data) := by
  have hop : d.opcode = 0xB8 := by
    simp only [Desc.ok, Bool.and_eq_true, beq_iff_eq] at hok
    obtain ⟨⟨⟨⟨⟨-, hop⟩, -⟩, -⟩, -⟩, -⟩ := hok
    exact hop
  have hstatus : b.updStatus d = (b.guardSync, { status := St.ok, cw2 := 64, data := (b.updStatus d).2.data }) := by
    rw [updStatus, if_neg (by rw [hok, hbcast]; decide)]
  have hform : (!(d.node == b.nodeId) || d.bcast || !(d.addr == 0) || decide (4096 < d.len) ||
      !(d.len == ([] : List Byte).length || [0xB0, 0xB1, 0xB8].contains d.opcode)) = false := by
    rw [hnode, hbcast, haddr, hop, decide_eq_false (by omega)]
    simp
  unfold mladetDesc
  rw [if_neg hstate]
  dsimp only
  rw [← hd, if_neg (by simpa only [Bool.not_eq_true] using hform)]
  generalize (b.updStatus d).2.data = data at hstatus ⊢
  simp only [hop, hstatus]
  rfl

theorem updStatus_data {d : Desc} (hok : d.ok 0xB8 64 65536 [] = true) (hbcast : d.bcast = false) :
    (b.updStatus d).2.data.length = 64 ∧ ((b.updStatus d).2.data.drop 4).take 4 = leBytes 4 (b.rd R.UPD_RCVD 0) := by
  have hrcvd : b.guardSync.rd R.UPD_RCVD 0 = b.rd R.UPD_RCVD 0 := rd_wr_ne _ _ _ _ _ _ (by decide)
  have hver : ((List.range 7).flatMap fun i => leBytes 4 (b.guardSync.rd R.BOOT_VER i)).length = 28 := by
    simp [List.length_flatMap]
  rw [updStatus, if_neg (by rw [hok, hbcast]; decide)]
  dsimp only
  refine ⟨by simp only [List.length_append, leBytes_length, hver], ?_⟩
  simp only [List.append_assoc]
  rw [List.drop_left' (leBytes_length 4 _), List.take_left' (leBytes_length 4 _), hrcvd]

end

end Block

open Block

section

variable {s : State}

theorem completes_get {st : Nat} {bs : List Byte} (hready : s.blk.Ready) (hresp : s.blk.boot.resp = some (st, bs)) :
    Completes .get s fun b => b.boot.resp = none ∧ b.out.contains (.mladet st bs) = true ∧ s.blk.Beside [] [Part.boot] b := by
  have hend : s.blk.mladetGet = ({ s.blk with boot := { s.blk.boot with resp := none } } : Block).send (.mladet st bs) := by
    rw [mladetGet, hresp]
  have hw : s.blk.Within [] [.boot] s.blk.mladetGet := hend ▸ (boot_within s.blk _ (by simp)).trans (.send _ _)
  refine completes_of_within (f := mladetGet) rfl hready hw (by decide) (by decide) ?_
  refine ⟨by rw [hend]; rfl, ?_, hw.beside⟩
  rw [hend, List.contains_iff_mem]
  exact List.mem_append_right _ (List.mem_singleton_self _)

theorem completes_regRd {off : BitVec 20} {count : Fin 17} (hready : s.blk.Ready) (hidle : s.blk.boot.resp = none)
    (hsome : 1 ≤ count.val) (hfew : count.val ≤ 16) (halign : off.toNat % 4 = 0) (hlo : 0x1000 ≤ off.toNat)
    (hhi : off.toNat + 4 * count.val ≤ 0x2000) : Completes (.regRd true off count) s fun b =>
      ((b.boot.resp.map fun r => (r.1, r.2.length)) = some (St.ok, 4 * count.val)) ∧
      s.blk.Beside (offsOf Regs.current) [Part.boot, Part.ciph, Part.net, Part.pw] b := by
  have hend : s.blk.mladetCmd true (mladetRegs off.toNat count) = (s.blk.regReads off.toNat count).1.mladetReply St.ok
      ((s.blk.regReads off.toNat count).2.map (leBytes 4)).flatten :=
    (mladetCmd_of_idle _ _ hidle).trans (mladetRegs_pwr hsome hfew halign hlo hhi _)
  have hw : s.blk.Within rtcRegs [.boot] (s.blk.mladetCmd true (mladetRegs off.toNat count)) :=
    hend ▸ (regReads_within hhi _).trans (mladetReply_within _ _ _ (by simp))
  refine completes_of_within (f := fun b => b.mladetCmd true (mladetRegs off.toNat count)) rfl hready hw (by decide) (by decide)
    ⟨?_, hw.beside.mono (offsOf_subset (by simp [Regs.current])) (by decide)⟩
  rw [hend, mladetReply, Option.map_some, flatten_leBytes_length, regReads_length]

theorem completes_regRd_badFrame {off : BitVec 20} {count : Fin 17} (hready : s.blk.Ready) (hidle : s.blk.boot.resp = none) :
    Completes (.regRd false off count) s fun b => b.boot.resp = some (St.badDesc, []) ∧
      s.blk.Beside (offsOf Regs.current) [Part.boot, Part.ciph, Part.net, Part.pw] b := by
  have hend := mladetCmd_of_idle false (mladetRegs off.toNat count) hidle
  have hw : s.blk.Within [] [.boot] (s.blk.mladetCmd false (mladetRegs off.toNat count)) := hend ▸ mladetReply_within _ _ _ (by simp)
  exact completes_of_within (f := fun b => b.mladetCmd false (mladetRegs off.toNat count)) rfl hready hw (by decide) (by decide)
    ⟨by rw [hend]; rfl, hw.beside.mono (by decide) (by decide)⟩

theorem completes_mladetStatus {dws : List Word} {d : Desc} (hd : d = { src := .fwRing 0, dws := dws, payload := [] })
    (hready : s.blk.Ready) (hidle : s.blk.boot.resp = none) (hok : d.ok 0xB8 64 65536 [] = true) (hnode : d.node = s.blk.nodeId)
    (hbcast : d.bcast = false) (haddr : d.addr = 0) (hlen : d.len ≤ 4096) (hstate : s.blk.getF F.PWR_STATE_STATE 0 ≠ 1) :
    Completes (.mladetDesc true false dws []) s fun b =>
      ((b.boot.resp.map fun r => (r.1, r.2.length, (r.2.drop 20).take 4)) = some (St.ok, 80, leBytes 4 (s.blk.rd R.UPD_RCVD 0))) ∧
      s.blk.Beside (offsOf (Regs.cipher ++ Regs.staged ++ [R.BOOT_STAT, R.BOOT_VER, R.CDC_ISTAT, R.CIPH_LOAD]))
        [Part.boot, Part.ciph, Part.flash] b := by
  have hend := (mladetCmd_of_idle true (mladetDesc false dws []) hidle).trans
    (mladetDesc_status hd hok hnode hbcast haddr hlen hstate)
  have hw : s.blk.Within [R.UPD_STAT.at 0] [.boot] (s.blk.mladetCmd true (mladetDesc false dws [])) :=
    hend ▸ (Within.setF s.blk F.UPD_STAT_GUARDS 0 _ (by simp [F.UPD_STAT_GUARDS])).trans (mladetReply_within _ _ _ (by simp))
  obtain ⟨hdata, hrcvd⟩ := updStatus_data (b := s.blk) hok hbcast
  refine completes_of_within (f := fun b => b.mladetCmd true (mladetDesc false dws [])) rfl hready hw (by decide) (by decide)
    ⟨?_, hw.beside.mono (by decide) (by decide)⟩
  have hwords : (leBytes 4 (d.tag + St.ok * 65536) ++ leBytes 4 0 ++ leBytes 4 64 ++ leBytes 4 0).length = 16 := by simp
  have hpast := List.drop_eq_nil_of_le (hwords.trans_le (by decide : 16 ≤ 20))
  rw [hend, mladetReply, Option.map_some]
  simp only [List.length_append, hwords, hdata, List.drop_append, hpast, hrcvd, List.nil_append]

theorem completes_recReq (hready : s.blk.Ready) (hidle : s.blk.boot.resp = none) : Completes (.recReq true [0xC0, 0x7E]) s fun b =>
    b.boot.recReq = true ∧ b.getF F.BOOT_STAT_RECREQ 0 = 1 ∧ b.boot.resp = some (St.ok, []) ∧
    s.blk.Beside (offsOf [R.BOOT_STAT]) [Part.boot] b := by
  have hend : s.blk.mladetCmd true (mladetRec [0xC0, 0x7E]) =
      (({ s.blk with boot := { s.blk.boot with recReq := true } } : Block).setF F.BOOT_STAT_RECREQ 0 1).mladetReply St.ok [] :=
    mladetCmd_of_idle _ _ hidle
  have hw : s.blk.Within (offsOf [R.BOOT_STAT]) [.boot] (s.blk.mladetCmd true (mladetRec [0xC0, 0x7E])) :=
    hend ▸ ((boot_within s.blk _ (by simp)).trans (.setF _ F.BOOT_STAT_RECREQ 0 1 (by decide))).trans (mladetReply_within _ _ _ (by simp))
  refine completes_of_within (f := fun b => b.mladetCmd true (mladetRec [0xC0, 0x7E])) rfl hready hw (by decide) (by decide) ?_
  refine ⟨by rw [hend]; rfl, ?_, by rw [hend]; rfl, hw.beside⟩
  rw [hend]
  exact getF_setF_same _ F.BOOT_STAT_RECREQ 0 1 (by decide)

end

/-- Settles O52: resets of activation and Recovery keep their cause to the end of the command; a trial, a session and the
guards end as their rules say, and the Mladet port answers each command once. -/
theorem bootEvents : Obligations.BootEvents := by
  unfold Obligations.BootEvents
  refine ⟨fun s hr hstate => ?activation, fun s hr hstate => ?trial, fun s x hr hsess => ?session,
    fun s kind hr hhigh hlow => ?guard, fun s who hr hwrite hwho => ?recovery, fun s who key hr hwrite hwho hkey => ?refused,
    fun s st bs hr hresp => ?get, fun s off count hr hidle hsome hfew halign hlo hhi => ?regRd,
    fun s off count hr hidle => ?badFrame, fun s dws hr hidle hok hnode hbcast haddr hlen hstate => ?status,
    fun s hr hidle => ?recReq, fun s hr hfuse => ?debug⟩
  case activation => exact completes_activationReset hr hstate
  case trial => exact completes_trialTimeout hr hstate
  case session => exact completes_sessionTimeout hr hsess
  case guard => exact completes_guardTimer kind hr hhigh hlow
  case recovery => exact completes_recoveryRequest hr hwrite hwho
  case refused => exact completes_recoveryRequest_refused hr hwrite hwho hkey
  case get => exact completes_get hr hresp
  case regRd => exact completes_regRd hr hidle hsome hfew halign hlo hhi
  case badFrame => exact completes_regRd_badFrame hr hidle
  case status => exact completes_mladetStatus rfl hr hidle hok hnode hbcast haddr hlen hstate
  case recReq => exact completes_recReq hr hidle
  case debug => exact completes_debugConnect hr hfuse

end Sys2Proof.Machine
end
